-- ==== Sys2Proof/Word.lean ====
section
/-! DEFINITION. The words of the set-up window (32 bits, spec/00_scope.md, Registers) and the bytes of memories and entries. -/

namespace Sys2Proof

/-- A register of the set-up window. -/
abbrev Word := BitVec 32

/-- One byte. -/
abbrev Byte := BitVec 8

end Sys2Proof
end

