-- ==== Sys2Proof/Syntax.lean ====
section
/-! DEFINITION. The commands of the block: one constructor of Instr per row of spec/opcode_table.json, and the operands
they carry. A command that stands for an event carries what the part observes at it (pin levels, converted voltages and
currents, bytes a bus or a host memory returned); a register command carries its access path, its register and its word. -/

namespace Sys2Proof

/-- The access paths of R14: PCI Express, the SPI target, the Field cores and Headland. -/
inductive Path where
  | pcie | spi | field | headland
  deriving DecidableEq, Repr

/-- A source of order entries (R77): a ring pair or a CAN port. -/
inductive Source where
  | ring (p : Fin 32)
  | can (n : Fin 2)
  deriving DecidableEq, Repr

/-- A source node that follows the supply states of R142: an input, or a port in the Sink role (R241). -/
inductive Supply where
  | input (n : Fin 3)
  | port (n : Fin 3)
  deriving DecidableEq, Repr

/-- A unit with a capture register (R64). -/
inductive CapUnit where
  | coord (n : Fin 6)
  | gpt (m : Fin 16)
  deriving DecidableEq, Repr

/-- The preload registers of a general timer (R72). -/
inductive GptPreload where
  | reload | cmp | interval
  deriving DecidableEq, Repr

/-- A CAN frame as received: identifier, its format, whether it is an FD frame, and its data. -/
structure CanFrame where
  ident : Nat
  ide : Bool
  fd : Bool
  data : List Byte
  deriving DecidableEq, Repr

/-- What the 10 µs tick observes: connector and node voltages (mV; of rails the feedback pin pair, µV), shunt currents (mA, positive into
the pack), board temperatures (0.1 °C), and per rail the load power (mW) of the last tick. -/
structure TickObs where
  vInput : List Nat
  vPort : List Nat
  vPack : List Nat
  iPack : List Int
  vRail : List Nat
  tBoard : List Int
  loadRail : List Nat
  iInput : List Int
  deriving DecidableEq, Repr

/-- What a stage samples in one control period (R112): the controlled and the sending node's voltage (mV; of a rail the voltage of its
feedback pin pair, µV, R127) and the phase currents (IMON pin voltages, mV, in phase order). -/
structure CtlObs where
  vCtl : Nat
  vSend : Nat
  imon : List Nat
  deriving DecidableEq, Repr

/-- The 1 s means of a pack's voltage (mV) and charge current (mA) (R179). -/
structure ChgObs where
  vMean : Nat
  iMean : Int
  deriving DecidableEq, Repr

/-- The reads of an SMBus identification (R199), as bytes and words returned. -/
structure SmbIdent where
  modeBack : Nat
  serial : List Byte
  date : List Byte
  maker : List Byte
  device : List Byte
  chem : List Byte
  designMv : Nat
  designCap : Nat
  fullCap : Nat
  deriving DecidableEq, Repr

/-- One SMBus poll (R201): the seven words, and the two of the 10 s poll, which count where it falls due. -/
structure SmbPoll where
  voltage : Nat
  current : Nat
  temperature : Nat
  status : Nat
  chgCurrent : Nat
  chgVoltage : Nat
  remaining : Nat
  slow : Nat × Nat
  deriving DecidableEq, Repr

/-- Why an SMBus transaction failed (R197). -/
inductive SmbFail where
  | nack | timeout | pec
  deriving DecidableEq, Repr

/-- How the reads of a poll ended (R197): `again` names the reads, by their place in the poll, whose first try failed and whose second did
not; the poll has its words, or it ends at the read `k`, whose two tries failed. -/
inductive PollResult where
  | ok (p : SmbPoll) (again : List (Fin 10 × SmbFail))
  | failed (again : List (Fin 10 × SmbFail)) (k : Fin 10) (first second : SmbFail)
  deriving DecidableEq, Repr

/-- The components at the test frequency of a pack's voltage (µV) and current (mA, positive into the pack) over a point of Tilth (R212). -/
structure TilthObs where
  vRe : Int
  vIm : Int
  iRe : Int
  iIm : Int
  deriving DecidableEq, Repr

/-- What CC detection finds of a partner (R225): the role that the port would take, the partner's Rp, Ra on the other pin, the pin in use
(CC2 where `flip`), VBUS. -/
structure AttachObs where
  asSource : Bool
  rp : Fin 3
  ra : Bool
  flip : Bool
  vbus : Nat
  deriving DecidableEq, Repr

/-- What a cable answers to Discover Identity (R232): its message header, whether it is 5 A capable, and whether it is EPR capable. -/
structure CableId where
  header : Nat
  a5 : Bool
  epr : Bool
  deriving DecidableEq, Repr

/-- A PD message as received: SOP or SOP', the header, the extended header, the data bytes. -/
structure PdMsg where
  sopP : Bool
  header : Nat
  extHeader : Nat
  data : List Byte
  deriving DecidableEq, Repr

/-- The PD timers whose expiry takes a rung of R246 or a row of R234. -/
inductive PdTimer where
  | senderResponse | sinkWaitCap | psTransition | noResponse | sourceCap | ppsTimeout | sourceEprKeepAlive
  | sinkRequest | noGoodCrc | psHardReset | srcRecover | errorRecovery | psSourceOff | psSourceOn | drpTry | drpTryWait | tryTimeout
  | bistCont | vdmResponse | vdmModeEntry | vdmModeExit
  deriving DecidableEq, Repr

/-- The causes of a host link reset (R260). -/
inductive LinkReset where
  | perst | hot | linkDown | flr
  deriving DecidableEq, Repr

/-- The outcome of a read of host memory by DMA: its bytes, or a failure after some bytes (R304, R305). -/
inductive DmaRead where
  | ok (bytes : List Byte)
  | fail (kind : Fin 10) (got : List Byte)
  deriving DecidableEq, Repr

/-- What the data NVM was doing when power failed or a reset fell due (R348, R366, R368): nothing; the command at the front of a pair, with what
the host returns for its buffer; a health record; a background erasure; the append of the next black-box record. `ops`: how many of
its erasures and group programs had been done. -/
inductive NvmCut where
  | idle
  | command (pair : Fin 32) (buf : DmaRead) (ops : Nat)
  | health (i : Fin 4) (restMv ops : Nat)
  | reerase (page : Fin 2048)
  | append (ops : Nat)
  deriving DecidableEq, Repr

/-- The answer of an SMBus pass-through transaction (R295). -/
inductive SmbResp where
  | ok (bytes : List Byte)
  | error
  deriving DecidableEq, Repr

/-- A request of Field firmware in Headland's mailbox (R322). -/
inductive Mailbox where
  | hwWrite (off : Nat) (v : Word)
  | wdtService (key : Nat)
  | keyUse (slot : Nat)
  | envelope (record : List Byte)
  | secureWrite (addr : Nat)
  | flashWrite (sector : Nat)
  | ship
  deriving DecidableEq, Repr

/-- The wake sources of IDLE (R395). -/
inductive IdleSrc where
  | hostAccess | canOrder | pb | input | port | fault | gpt | cmp
  deriving DecidableEq, Repr

/-- The wake sources of FALLOW and SHIP (R396, R218). -/
inductive WakeSrc where
  | pb | input | port | timer | nrst
  deriving DecidableEq, Repr

/-- What the start-up sequence of R401 finds: whether each component of the two banks verifies (R330), the loop table of a bank whose images
came with the device, the IMON voltages of the 24 channels and the HB_FLT pins of R126, the connector voltages (mV), the partners that the
ports' CC pins show (R226), and the milestones 0–5 (µs). -/
structure StartObs where
  bank0Ok : Bool
  bank1Ok : Bool
  loopTable : List Byte
  imon : List Nat
  flt : Nat
  vInput : List Nat
  vPort : List Nat
  cc : List (Option AttachObs)
  vPack : List Nat
  milestones : List Nat
  deriving DecidableEq, Repr

/-- The commands and events of the block, one constructor per row of spec/opcode_table.json. -/
inductive Instr where
  -- register access (R10 to R15); `be`: the byte enables of the dword (R258)
  | registerWrite (p : Path) (off : Nat) (v : Word) (be : Fin 16)
  | rcRead (p : Path) (off : Nat)
  | wideLoRead (p : Path) (off : Nat)
  | wideLoWrite (p : Path) (off : Nat) (v : Word)
  | wideHiWrite (p : Path) (off : Nat) (v : Word)
  -- fabric
  | fabCommit (p : Path)
  | fabricCheckDone
  -- Drill
  | drillTick (o : TickObs)
  | orderEnergyReached (slot : Fin 4096)
  | orderTimeBoundExpiry (slot : Fin 4096)
  | orderToutExpiry (slot : Fin 4096)
  | chargeByDeadline (slot : Fin 4096)
  | voltWindowBreach (slot : Fin 4096)
  | deliver (src : Source) (entry : List Byte)
  | hold (src : Source) (entry : List Byte)
  | absorb (src : Source) (entry : List Byte)
  | chargeBy (src : Source) (entry : List Byte)
  | reserve (src : Source) (entry : List Byte)
  | cancel (src : Source) (entry : List Byte)
  | fence (src : Source) (entry : List Byte)
  | fenceRelease (src : Source)
  | fenceTimeBoundExpiry (src : Source)
  | chainedGroup (src : Source) (entries : List (List Byte))
  | canOrderFrame (n : Fin 2) (f : CanFrame)
  | canChainGapExpiry (n : Fin 2)
  | revalMsExpiry
  | revalidationDone
  -- coordinates
  | quadEdge (n : Fin 4) (a b : Bool)
  | hallStateChange (n : Fin 4) (u v w : Bool)
  | stepEdge (n : Fin 4) (dirHigh : Bool)
  | upDownEdge (n : Fin 4) (up : Bool)
  | indexHome (n : Fin 4) (falling : Bool)
  | mainsZeroCross
  | mainsLost
  | coordStall (n : Fin 4)
  | coordPosWrite (p : Path) (n : Fin 4) (hi : Word)
  | coordModWrite (p : Path) (n : Fin 4) (v : Word)
  | coordModeWrite (p : Path) (n : Fin 6) (v : Word)
  | cmpValueWrite (p : Path) (n : Fin 6) (k : Fin 4) (isInt : Bool) (hi : Word)
  | capStrobe (p : Path) (n : Fin 6)
  | homeArm (p : Path) (n : Fin 4)
  | homeDisarm (p : Path) (n : Fin 4)
  | stallClr (p : Path) (n : Fin 4)
  | capRead (p : Path) (u : CapUnit)
  -- general timers
  | gptEnable (p : Path) (m : Fin 16) (v : Word)
  | forceReload (p : Path) (m : Fin 16)
  | gptCapStrobe (p : Path) (m : Fin 16)
  | gptPreloadWrite (p : Path) (m : Fin 16) (r : GptPreload) (v : Word)
  | gptWrap (m : Fin 16)
  | gptMatch (m : Fin 16)
  -- stages
  | controlPeriod (n : Fin 8) (o : CtlObs)
  | startShortCheck (n : Fin 8) (vOut : Nat)
  | loopSat (n : Fin 8)
  | loopApply (p : Path) (n : Fin 8)
  | reversalZeroCurrent (n : Fin 8) (vCtl : Nat)
  | stageIdleTimeout (n : Fin 8)
  | cbcCrossing (hb : Fin 24) (mv : Nat)
  | cbcPersist (n : Fin 8)
  | hbFltAssert (g : Fin 4)
  | hbIdentDone (n : Fin 8) (flt : Fin 16) (imon : List Nat)
  | autoOnStart (r : Fin 8)
  | vselPattern (g : Fin 2) (pat : Fin 8)
  | vselCfgWrite (p : Path) (g : Fin 2) (v : Word)
  | vselSpWrite (p : Path) (g : Fin 2) (k : Fin 8) (v : Word)
  | railSpWrite (p : Path) (r : Fin 8) (v : Word)
  -- inputs and path
  | inputInRange (x : Supply) (mv : Nat)
  | inputOutOfRange (x : Supply) (mv : Nat)
  | inputQualifyDone (x : Supply)
  | pswGateOk (w : Fin 12)
  | pswGateTimeout (w : Fin 12)
  | inputLoss (x : Supply) (mv : Nat)
  | inputOv (n : Fin 3) (mv : Nat)
  | inputDisable (p : Path) (n : Fin 3)
  | handoverComplete (r : Fin 8)
  | pswReverseTrip (w : Fin 12)
  | revHoldExpiry (w : Fin 12)
  | mpptStep (meanMw : Nat)
  | mpptSweep (meanMw : Nat)
  | mpptNoPower
  | transferBackStart (r : Fin 8)
  | transferBackDone (r : Fin 8)
  -- charging
  | zoneEval (i : Fin 4) (rNtc : Nat)
  | ntcFault (i : Fin 4) (rNtc : Nat)
  | ntcRecovered (i : Fin 4) (rNtc : Nat)
  | profileCommit (p : Path) (i : Fin 4)
  | profileCheckDone (i : Fin 4)
  | chgExitEval (i : Fin 4) (o : ChgObs)
  | chgTimerExpiry (i : Fin 4)
  | chgWdtKick (p : Path) (i : Fin 4) (v : Word)
  | chgWdtExpiry (i : Fin 4)
  | chgCfgWrite (p : Path) (i : Fin 4) (v : Word)
  | chgClear (p : Path) (i : Fin 4)
  | chgFaultRead (p : Path) (i : Fin 4)
  -- pack links, Tilth, SHIP, CAN
  | linkCfgWrite (p : Path) (i : Fin 4) (v : Word)
  | packIdentDone (i : Fin 4) (o : SmbIdent)
  | packIdentityFrame (i : Fin 4) (n : Fin 2) (f : CanFrame)
  | packStatusFrame (i : Fin 4) (n : Fin 2) (f : CanFrame)
  | packPoll (i : Fin 4) (r : PollResult)
  | packLinkLost (i : Fin 4)
  | packReinsert (i : Fin 4)
  | packHealthWrite (i : Fin 4) (restMv : Nat) (bad : Option (Fin 8))
  | tilthStart (p : Path) (i : Fin 4)
  | tilthIntervalExpiry (i : Fin 4)
  | tilthAbort (p : Path) (i : Fin 4)
  | tilthPointDone (i : Fin 4) (o : TilthObs)
  | tilthTimeout (i : Fin 4)
  | shipEnter (p : Path)
  | shipWake (src : WakeSrc)
  | longPress (sourcePresent : Bool) (w : NvmCut)
  | longPressEnd
  | canBusOff (n : Fin 2)
  | canBusOffRecovery (n : Fin 2)
  -- ports
  | portAttach (n : Fin 3) (o : AttachObs)
  | drpToggle (n : Fin 3)
  | ccOv (n : Fin 3) (pin : Fin 2) (mv : Nat)
  | vbusSafe0v (n : Fin 3)
  | vbusNotSafe0v (n : Fin 3)
  | portOv (n : Fin 3) (mv : Nat)
  | vconnOc (n : Fin 3) (acts : Bool)
  | cableDiscovery (n : Fin 3) (r : Option CableId)
  | portCfgWrite (p : Path) (n : Fin 3) (v : Word)
  | sourceCapabilitiesRx (n : Fin 3) (m : PdMsg)
  | requestRx (n : Fin 3) (m : PdMsg)
  | acceptRx (n : Fin 3) (header : Nat)
  | psRdyRx (n : Fin 3) (header : Nat)
  | pdMessageRx (n : Fin 3) (m : PdMsg)
  | hardResetRx (n : Fin 3)
  | prSwap (n : Fin 3)
  | pdTimerExpiry (n : Fin 3) (t : PdTimer)
  | ppsRequestRepeat (n : Fin 3)
  | eprKeepalive (n : Fin 3)
  | hpLate (n : Fin 3) (header : Nat)
  | srcTransitionSettled (n : Fin 3)
  | pdSrcTransition (n : Fin 3)
  | frsSignal (n : Fin 3)
  | frsDone (n : Fin 3) (header : Nat)
  | frsFail (n : Fin 3)
  | portDetach (n : Fin 3) (byVbus : Bool)
  | detachDischarged (n : Fin 3)
  | bcDetectionDone (n : Fin 3) (r : Fin 4)
  | send (pair : Fin 32) (entries : List (List Byte)) (goodCrc : Bool)
  | hardReset (pair : Fin 32) (entry : List Byte)
  | cableReset (pair : Fin 32) (entry : List Byte)
  | portCtrlHardReset (p : Path) (n : Fin 3)
  | errRecover (p : Path) (n : Fin 3)
  -- host link, SPI, rings
  | hostLinkReset (k : LinkReset)
  | bmeChange (bme d3 msix intDis : Bool)
  | read (addr len : Nat)
  | write (addr : Nat) (bytes : List Byte)
  | quadRead (addr len : Nat)
  | quadWrite (addr : Nat) (bytes : List Byte)
  | readStatus
  | spiUnknownOpcode (op : Byte)
  | ringEnable (p : Path) (pair : Fin 32) (v : Word)
  | ringDisable (p : Path) (pair : Fin 32)
  | ringDrainDone (pair : Fin 32)
  | resume (p : Path) (pair : Fin 32)
  | doorbellPoll (r : DmaRead)
  | localDoorbellWrite (off : Nat) (v : Word)
  | submissionFetch (pair : Fin 32) (r : DmaRead)
  | deviceSlotWrite (pair : Fin 32)
  | completionDrain (src : Source)
  | completionDiscard (src : Source) (entry : List Byte)
  | irqModTimerExpiry (pair : Fin 32)
  | ringImodWrite (p : Path) (pair : Fin 32) (v : Word)
  -- `bad`: the page of the copy whose comparison fails twice (R354)
  | recordWrite (pair : Fin 32) (entry : List Byte) (buf : DmaRead) (bad : Option (Fin 8))
  | recordRead (pair : Fin 32) (entry : List Byte)
  | profileSelect (pair : Fin 32) (entry : List Byte)
  | faultClear (pair : Fin 32) (entry : List Byte)
  | packCmdShip (pair : Fin 32) (entry : List Byte)
  | packCmdTilthStart (pair : Fin 32) (entry : List Byte)
  | packCmdTilthAbort (pair : Fin 32) (entry : List Byte)
  | packCmdChargeClear (pair : Fin 32) (entry : List Byte)
  | bbRead (pair : Fin 32) (entry : List Byte)
  | attest (pair : Fin 32) (entry : List Byte)
  | fwChunk (pair : Fin 32) (entry : List Byte) (buf : DmaRead)
  | nvmRead (pair : Fin 32) (entry : List Byte)
  | nvmWrite (pair : Fin 32) (entry : List Byte) (buf : DmaRead)
  | smbXfer (pair : Fin 32) (entry : List Byte) (resp : SmbResp)
  | canSend (pair : Fin 32) (entry : List Byte) (buf : DmaRead) (sent : Bool)
  | canRecv (pair : Fin 32) (entry : List Byte) (f : CanFrame)
  | canRecvTimeout (pair : Fin 32) (entry : List Byte)
  | xltSync (p : Path)
  | xltSyncDone
  | dmaFault (op : Fin 7) (pair : Fin 32) (index addr done : Nat) (kind : Fin 10)
  | cplTimeout (op : Fin 7) (pair : Fin 32) (index addr done : Nat)
  -- telemetry
  | post (pair : Fin 32) (entry : List Byte)
  | glnSample (s : Fin 8) (body : List Byte) (drop : Fin 3)
  | glnFlushExpiry (s : Fin 8)
  | glnTrigger (s : Fin 8)
  | glnEnable (p : Path) (s : Fin 8) (v : Word)
  | glnDisable (p : Path) (s : Fin 8)
  | arm (p : Path) (s : Fin 8)
  | force (p : Path) (s : Fin 8)
  -- envelope, firmware, store
  | envelopePackOv (i : Fin 4) (mv : Nat)
  | envelopePackOc (i : Fin 4) (ma : Int)
  | envelopePackTemp (i : Fin 4)
  | envelopeRailOv (r : Fin 8) (mv : Nat)
  | envThresholdMove
  | fwuBuildDone (verifyOk : Bool)
  | activate (p : Path)
  | abandon (p : Path)
  | confirm (p : Path)
  | trialExpiry
  | dbgOpen
  | bbAppend
  | nvmReerase (page : Fin 2048)
  | nvmCntFlush (p : Path)
  | inc (p : Path) (k : Fin 32)
  -- Harrow and watchdog
  | faultReport (id : Fin 256) (inst : Fin 16) (record : List Byte)
  | egressClose
  | faultCauseGone (id : Fin 256) (inst : Fin 16)
  | quietExpiry (id : Fin 256) (inst : Fin 16)
  | hrwClear (p : Path) (v : Word)
  | safeReq (p : Path)
  | egressTieRelease (w : Fin 12)
  | hrwInjectArm (p : Path) (v : Word)
  | wdtService (p : Path) (v : Word)
  | wdtCheckin (p : Path) (v : Word)
  | wdtWindowExpiry
  | wdtClockLoss
  | wdtGraceEnd (w : NvmCut)
  -- start-up, power, clocks
  | coldStart (o : StartObs)
  | runReady
  | nrst (lowNs : Nat) (w : NvmCut)
  | sysReset (p : Path)
  | powerFailWarn (w : NvmCut)
  | brownout
  | pwrReqIdle (p : Path)
  | pwrReqFallow (p : Path)
  | idleWake (src : IdleSrc)
  | fallowWake (src : WakeSrc) (aonPeriods : Nat)
  | clkRefFail
  | clkRefReturn
  | clkAonFail
  | pllUnlock (pllB : Bool)
  | biasFault (core : Bool) (mv : Nat)
  | dieTemp (t : Int)
  | memEccError (mem : Fin 6) (twoBits : Bool) (off : Nat)
  | linkUp (gen : Fin 4) (width : Fin 3)
  | compareInterpolationMatch (mains : Bool) (k : Fin 4)
  | pbMainPress
  | mailboxRequest (m : Mailbox)
  deriving DecidableEq, Repr

end Sys2Proof
end

