-- ==== Sys2Proof/Decode.lean ====
section
/-! DEFINITION. What a word of the opcode table's bits spells. The table of this block gives no row any bits: its rows are
events, register accesses and ring entries, told apart by where they arrive and not by a word. -/

namespace Sys2Proof

/-- The command that a word spells by the table's bits: none, since no row gives bits. -/
def decodeTableWord (_nbits _w : Nat) : Option Instr := none

end Sys2Proof
end

