-- ==== Sys2Proof/Machine/Bits.lean ====
section
/-! DEFINITION. Bit fields of registers, byte order (R4), signed readings and CRC-32C. -/

namespace Sys2Proof.Machine

/-- The place of a field in its register: lowest bit and width. -/
structure Fld where
  lo : Nat
  w : Nat
  deriving DecidableEq, Repr

/-- The word with ones in the `w` lowest bits. -/
def maskLow (w : Nat) : Word := BitVec.ofNat 32 (2 ^ w - 1)

/-- Read `w` bits of a word from bit `lo` on. -/
def getBits (r : Word) (lo w : Nat) : Nat := ((r >>> lo) &&& maskLow w).toNat

/-- The word with `w` bits from bit `lo` on replaced by the low bits of `v`. -/
def putBits (r : Word) (lo w v : Nat) : Word :=
  (r &&& ~~~(maskLow w <<< lo)) ||| ((BitVec.ofNat 32 v &&& maskLow w) <<< lo)

/-- Two's complement reading of a `w`-bit value. -/
def toSigned (w v : Nat) : Int :=
  if v % 2 ^ w < 2 ^ (w - 1) then (v % 2 ^ w : Nat) else (v % 2 ^ w : Nat) - (2 ^ w : Nat)

/-- The `w`-bit two's complement pattern of an integer. -/
def ofSigned (w : Nat) (i : Int) : Nat := (i % ((2 ^ w : Nat) : Int)).toNat

/-- Saturate at the largest `w`-bit value. -/
def sat (w v : Nat) : Nat := min v (2 ^ w - 1)

/-- Division rounding up; a zero divisor gives 0. -/
def ceilDiv (a b : Nat) : Nat := if b = 0 then 0 else (a + b - 1) / b

/-- The bytes of a value, least significant first (R4). -/
def leBytes : Nat → Nat → List Byte
  | 0, _ => []
  | n + 1, v => BitVec.ofNat 8 v :: leBytes n (v / 256)

/-- The value of a byte string, least significant byte first (R4). -/
def leVal : List Byte → Nat
  | [] => 0
  | b :: t => b.toNat + 256 * leVal t

/-- The bytes `o` to `o + n - 1` of a string, as a value. -/
def leAt (bs : List Byte) (o n : Nat) : Nat := leVal ((bs.drop o).take n)

/-- The bytes `o` to `o + n - 1` of a string. -/
def slice (bs : List Byte) (o n : Nat) : List Byte := (bs.drop o).take n

/-- Bits `lo` to `lo + w - 1` of a value. -/
def bitsOf (v lo w : Nat) : Nat := v / 2 ^ lo % 2 ^ w

/-- Whether every byte of a string is zero. -/
def allZero (bs : List Byte) : Bool := bs.all (fun b => b == 0#8)

/-- A byte string padded with zeros (or cut) to `n` bytes. -/
def padTo (n : Nat) (bs : List Byte) : List Byte := (bs ++ List.replicate n 0#8).take n

def boolNat (b : Bool) : Nat := if b then 1 else 0

/-- One bit of CRC-32C, reflected polynomial 0x82F63B78 (log 5). -/
def crcBit (c : BitVec 32) : BitVec 32 :=
  if c &&& 1#32 = 1#32 then (c >>> 1) ^^^ 0x82F63B78#32 else c >>> 1

def crcBits : Nat → BitVec 32 → BitVec 32
  | 0, c => c
  | n + 1, c => crcBits n (crcBit c)

def crcByte (c : BitVec 32) (b : Byte) : BitVec 32 := crcBits 8 (c ^^^ b.setWidth 32)

/-- CRC-32C of a byte string (named by R138, R173, R199, R351; log 5). -/
def crc32c (bs : List Byte) : Nat := (~~~(bs.foldl crcByte 0xFFFFFFFF#32)).toNat

/-- Integer division rounding toward zero. -/
def tdivInt (a b : Int) : Int := Int.tdiv a b

def clampInt (lo hi x : Int) : Int := max lo (min hi x)

/-- Integer clamped at zero from below, as a natural number. -/
def natOf (i : Int) : Nat := i.toNat

end Sys2Proof.Machine
end

