-- ==== Sys2Proof/Config.lean ====
section
/-! DEFINITION. What an implementation fixes and the spec leaves open: the free values and the uninterpreted functions.
Every constant here is opaque: nothing in Lean can evaluate it or prove a value of it. -/

namespace Sys2Proof.Config

/-- The n-th free value (log 1): a value the spec leaves open, fresh at each use. -/
opaque freeValue : Nat → BitVec 64

/-- Whether the part is of ordering grade X, else of grade I (R1; log 59). -/
opaque gradeX : Bool

/-- DEV_SERIAL, "per device" (R343 register table; log 2). -/
opaque devSerialLo : Word
opaque devSerialHi : Word

/-- KEY_ATT_PUB_k, the public half of slot 3 (R323; log 2). -/
opaque attPub : Nat → Word

/-- SHA-256 of a byte string (R323; the algorithm is named, not defined, by the spec; log 3). -/
opaque sha256 : List Byte → List Byte
/-- HMAC-SHA-256 under the slot 5 key of a generation, its first 8 bytes (R364; log 3). -/
opaque sealKey : Nat → List Byte → List Byte
/-- ECDSA P-256: whether a signature over a digest verifies under a public key (R325, R331; log 3). -/
opaque sigVerify : List Byte → List Byte → List Byte → Bool
/-- The Nimlys firmware public key of slot 1 (R323; log 3). -/
opaque fwPubKey : List Byte
/-- The attestation signature of slot 3 over a digest (R328; log 3). -/
opaque attestSign : List Byte → List Byte
/-- AES-256 under slot 2, counter mode with an IV, and the GCM tag of a ciphertext (R332, R337; log 3). -/
opaque aesCtr : List Byte → List Byte → List Byte
opaque gcmTag : List Byte → List Byte → List Byte
/-- The Headland ROM version that MIN_ROM is compared with (R331; log 4). -/
opaque romVersion : Nat

end Sys2Proof.Config
end

