-- ==== Sys2Proof/Machine/Regs.lean ====
section
/-! DEFINITION. The set-up register map of spec/16_register_index.md: the offset of every register (R.NAME), the place of
every field (F.NAME_FIELD), its access type (R10) and its reset value, from the register tables of the chapters.
A register that repeats takes its instance index (and a second index where it has one) as argument. -/

namespace Sys2Proof.Machine

namespace R

def GLB_ID : Nat := 0x00000
def GLB_STATUS : Nat := 0x00004
def RST_CAUSE : Nat := 0x00400
def RST_CTRL : Nat := 0x00404
def RST_MILE (n : Nat) : Nat := 0x00410 + 0x4 * n
def PWR_CTRL : Nat := 0x00440
def PWR_STATUS : Nat := 0x00444
def PWR_WAKE_EN : Nat := 0x00448
def PWR_FALLOW_TIMER : Nat := 0x0044C
def CLK_STATUS : Nat := 0x00460
def CLK_CFG : Nat := 0x00464
def SHIP_CTRL : Nat := 0x00480
def SHIP_STATUS : Nat := 0x00484
def RING_CFG (n : Nat) : Nat := 0x00800 + 0x40 * n
def RING_SQ_BASE_LO (n : Nat) : Nat := 0x00804 + 0x40 * n
def RING_SQ_BASE_HI (n : Nat) : Nat := 0x00808 + 0x40 * n
def RING_CQ_BASE_LO (n : Nat) : Nat := 0x0080C + 0x40 * n
def RING_CQ_BASE_HI (n : Nat) : Nat := 0x00810 + 0x40 * n
def RING_IMOD (n : Nat) : Nat := 0x00814 + 0x40 * n
def RING_STATUS (n : Nat) : Nat := 0x00818 + 0x40 * n
def RING_SQ_PTR (n : Nat) : Nat := 0x0081C + 0x40 * n
def RING_CQ_PTR (n : Nat) : Nat := 0x00820 + 0x40 * n
def RING_CNT (n : Nat) : Nat := 0x00824 + 0x40 * n
def RING_CTRL (n : Nat) : Nat := 0x00828 + 0x40 * n
def HOST_LINK_STATUS : Nat := 0x01000
def HOST_DB_BASE_LO : Nat := 0x01004
def HOST_DB_BASE_HI : Nat := 0x01008
def HOST_POLL : Nat := 0x0100C
def HOST_IRQ_STATUS : Nat := 0x01010
def HOST_GLB_STATUS : Nat := 0x01014
def HOST_INTX_EN : Nat := 0x01018
def HOST_GLB_EN : Nat := 0x0101C
def HOST_SPI_IRQ_EN : Nat := 0x01020
def HOST_SPI_STATUS : Nat := 0x01024
def EVENT_CFG : Nat := 0x01028
def EVENT_STATUS : Nat := 0x0102C
def XLT_SYNC : Nat := 0x01040
def XLT_STATUS : Nat := 0x01044
def DMAF_INFO (n : Nat) : Nat := 0x01100 + 0x10 * n
def DMAF_ADDR_LO (n : Nat) : Nat := 0x01104 + 0x10 * n
def DMAF_ADDR_HI (n : Nat) : Nat := 0x01108 + 0x10 * n
def DMAF_DONE (n : Nat) : Nat := 0x0110C + 0x10 * n
def DMAF_STATUS : Nat := 0x01180
def CPLQ_STATUS : Nat := 0x01190
def COORD_CFG (n : Nat) : Nat := 0x02000 + 0x100 * n
def COORD_MOD (n : Nat) : Nat := 0x02004 + 0x100 * n
def COORD_STATUS (n : Nat) : Nat := 0x02008 + 0x100 * n
def COORD_CTRL (n : Nat) : Nat := 0x0200C + 0x100 * n
def COORD_POS_LO (n : Nat) : Nat := 0x02010 + 0x100 * n
def COORD_POS_HI (n : Nat) : Nat := 0x02014 + 0x100 * n
def COORD_CAP_LO (n : Nat) : Nat := 0x02018 + 0x100 * n
def COORD_CAP_HI (n : Nat) : Nat := 0x0201C + 0x100 * n
def COORD_VEL (n : Nat) : Nat := 0x02020 + 0x100 * n
def COORD_HOME_LO (n : Nat) : Nat := 0x02028 + 0x100 * n
def COORD_HOME_HI (n : Nat) : Nat := 0x0202C + 0x100 * n
def COORD_BOUND_VMAX (n : Nat) : Nat := 0x02030 + 0x100 * n
def COORD_BOUND_VMIN (n : Nat) : Nat := 0x02034 + 0x100 * n
def COORD_BOUND_STALL (n : Nat) : Nat := 0x02038 + 0x100 * n
def COORD_CMP_VAL_LO (n : Nat) (k : Nat) : Nat := 0x02040 + 0x100 * n + 0x20 * k
def COORD_CMP_VAL_HI (n : Nat) (k : Nat) : Nat := 0x02044 + 0x100 * n + 0x20 * k
def COORD_CMP_INT_LO (n : Nat) (k : Nat) : Nat := 0x02048 + 0x100 * n + 0x20 * k
def COORD_CMP_INT_HI (n : Nat) (k : Nat) : Nat := 0x0204C + 0x100 * n + 0x20 * k
def COORD_CMP_CFG (n : Nat) (k : Nat) : Nat := 0x02050 + 0x100 * n + 0x20 * k
def COORD_TIME_US_LO : Nat := 0x02700
def COORD_TIME_US_HI : Nat := 0x02704
def GPT_CFG (n : Nat) : Nat := 0x02800 + 0x20 * n
def GPT_CNT (n : Nat) : Nat := 0x02804 + 0x20 * n
def GPT_RELOAD (n : Nat) : Nat := 0x02808 + 0x20 * n
def GPT_CMP (n : Nat) : Nat := 0x0280C + 0x20 * n
def GPT_INTERVAL (n : Nat) : Nat := 0x02810 + 0x20 * n
def GPT_CAP (n : Nat) : Nat := 0x02814 + 0x20 * n
def GPT_STATUS (n : Nat) : Nat := 0x02818 + 0x20 * n
def GPT_CTRL (n : Nat) : Nat := 0x0281C + 0x20 * n
def STAGE_NODES (n : Nat) : Nat := 0x03000 + 0x200 * n
def STAGE_HBMAP (n : Nat) : Nat := 0x03004 + 0x200 * n
def STAGE_P_RATED (n : Nat) : Nat := 0x03008 + 0x200 * n
def STAGE_THERM (n : Nat) : Nat := 0x0300C + 0x200 * n
def STAGE_EFF_FWD (n : Nat) (k : Nat) : Nat := 0x03010 + 0x200 * n + 0x4 * k
def STAGE_EFF_REV (n : Nat) (k : Nat) : Nat := 0x03020 + 0x200 * n + 0x4 * k
def STAGE_PWM (n : Nat) : Nat := 0x03030 + 0x200 * n
def STAGE_PWM_OFS (n : Nat) : Nat := 0x03034 + 0x200 * n
def STAGE_MOD (n : Nat) : Nat := 0x03038 + 0x200 * n
def STAGE_IMON (n : Nat) : Nat := 0x0303C + 0x200 * n
def STAGE_CBC (n : Nat) : Nat := 0x03040 + 0x200 * n
def STAGE_CBC_CFG (n : Nat) : Nat := 0x03044 + 0x200 * n
def STAGE_LOOPSET (n : Nat) : Nat := 0x03048 + 0x200 * n
def STAGE_CTRL (n : Nat) : Nat := 0x0304C + 0x200 * n
def STAGE_STATUS (n : Nat) : Nat := 0x03050 + 0x200 * n
def STAGE_DUTY (n : Nat) : Nat := 0x03054 + 0x200 * n
def STAGE_IL (n : Nat) : Nat := 0x03058 + 0x200 * n
def STAGE_CEIL (n : Nat) : Nat := 0x0305C + 0x200 * n
def STAGE_LOOP_A_B (n : Nat) (k : Nat) : Nat := 0x03060 + 0x200 * n + 0x4 * k
def STAGE_LOOP_A_A (n : Nat) (k : Nat) : Nat := 0x03070 + 0x200 * n + 0x4 * k
def STAGE_LOOP_B_B0 (n : Nat) : Nat := 0x03080 + 0x200 * n
def STAGE_LOOP_B_B1 (n : Nat) : Nat := 0x03084 + 0x200 * n
def STAGE_LOOP_C_B0 (n : Nat) : Nat := 0x03088 + 0x200 * n
def STAGE_LOOP_C_B1 (n : Nat) : Nat := 0x0308C + 0x200 * n
def STAGE_LOOP_D_B0 (n : Nat) : Nat := 0x03090 + 0x200 * n
def STAGE_LOOP_D_B1 (n : Nat) : Nat := 0x03094 + 0x200 * n
def STAGE_VFLOOR (n : Nat) : Nat := 0x03098 + 0x200 * n
def RAIL_CFG (n : Nat) : Nat := 0x03100 + 0x200 * n
def RAIL_FB (n : Nat) : Nat := 0x03104 + 0x200 * n
def RAIL_SP (n : Nat) : Nat := 0x03108 + 0x200 * n
def RAIL_STATUS (n : Nat) : Nat := 0x0310C + 0x200 * n
def RAIL_VFB (n : Nat) : Nat := 0x03110 + 0x200 * n
def STG_TIMEBASE : Nat := 0x03180
def STG_ADC_LOAD : Nat := 0x03184
def LOOPTAB_STATUS : Nat := 0x03188
def VSEL_CFG (n : Nat) : Nat := 0x03380 + 0x200 * n
def VSEL_SP (n : Nat) (k : Nat) : Nat := 0x03384 + 0x200 * n + 0x4 * k
def PACK_PROFILE (n : Nat) : Nat := 0x04000 + 0x400 * n
def PACK_CHG_CFG (n : Nat) : Nat := 0x04004 + 0x400 * n
def PACK_CHG_WDT (n : Nat) : Nat := 0x04008 + 0x400 * n
def PACK_CHG_OVR (n : Nat) : Nat := 0x0400C + 0x400 * n
def PACK_CHG_STATUS (n : Nat) : Nat := 0x04010 + 0x400 * n
def PACK_CHG_SETPT (n : Nat) : Nat := 0x04014 + 0x400 * n
def PACK_CHG_TIMER (n : Nat) : Nat := 0x04018 + 0x400 * n
def PACK_CHG_FAULT (n : Nat) : Nat := 0x0401C + 0x400 * n
def PACK_CHG_CTRL (n : Nat) : Nat := 0x04020 + 0x400 * n
def PACK_CHG_TERM (n : Nat) : Nat := 0x04024 + 0x400 * n
def PACK_TEMP (n : Nat) : Nat := 0x04028 + 0x400 * n
def PACK_NTC_CFG (n : Nat) : Nat := 0x0402C + 0x400 * n
def PACK_LINK_CFG (n : Nat) : Nat := 0x04040 + 0x400 * n
def PACK_LINK_CANID (n : Nat) : Nat := 0x04044 + 0x400 * n
def PACK_LINK_STATUS (n : Nat) : Nat := 0x04048 + 0x400 * n
def PACK_LINK_ERR (n : Nat) : Nat := 0x0404C + 0x400 * n
def PACK_ID (n : Nat) : Nat := 0x04050 + 0x400 * n
def PACK_LINK_VT (n : Nat) : Nat := 0x04054 + 0x400 * n
def PACK_LINK_I (n : Nat) : Nat := 0x04058 + 0x400 * n
def PACK_LINK_CHG (n : Nat) : Nat := 0x0405C + 0x400 * n
def PACK_LINK_DSG (n : Nat) : Nat := 0x04060 + 0x400 * n
def PACK_EREM_LO (n : Nat) : Nat := 0x04064 + 0x400 * n
def PACK_EREM_HI (n : Nat) : Nat := 0x04068 + 0x400 * n
def PACK_EFULL_LO (n : Nat) : Nat := 0x0406C + 0x400 * n
def PACK_EFULL_HI (n : Nat) : Nat := 0x04070 + 0x400 * n
def PACK_EDESIGN_LO (n : Nat) : Nat := 0x04074 + 0x400 * n
def PACK_EDESIGN_HI (n : Nat) : Nat := 0x04078 + 0x400 * n
def PACK_SOH (n : Nat) : Nat := 0x0407C + 0x400 * n
def PACK_TILTH_CFG (n : Nat) : Nat := 0x04080 + 0x400 * n
def PACK_TILTH_DER (n : Nat) : Nat := 0x04084 + 0x400 * n
def PACK_TILTH_RNEW (n : Nat) : Nat := 0x04088 + 0x400 * n
def PACK_TILTH_REOL (n : Nat) : Nat := 0x0408C + 0x400 * n
def PACK_TILTH_TCR (n : Nat) : Nat := 0x04090 + 0x400 * n
def PACK_TILTH_CTRL (n : Nat) : Nat := 0x04094 + 0x400 * n
def PACK_TILTH_STATUS (n : Nat) : Nat := 0x04098 + 0x400 * n
def PACK_TILTH_TIME_LO (n : Nat) : Nat := 0x0409C + 0x400 * n
def PACK_TILTH_TIME_HI (n : Nat) : Nat := 0x040A0 + 0x400 * n
def PACK_TILTH_R25 (n : Nat) : Nat := 0x040A4 + 0x400 * n
def PACK_Z_RE (n : Nat) (k : Nat) : Nat := 0x04100 + 0x400 * n + 0x8 * k
def PACK_Z_IM (n : Nat) (k : Nat) : Nat := 0x04104 + 0x400 * n + 0x8 * k
def PACK_PROF (n : Nat) (k : Nat) : Nat := 0x04200 + 0x400 * n + 0x4 * k
def FAB_CTRL : Nat := 0x05000
def FAB_STATUS : Nat := 0x05004
def FAB_NODE_VRANGE (n : Nat) : Nat := 0x05040 + 0x4 * n
def PSW_CFG (n : Nat) : Nat := 0x05100 + 0x10 * n
def PSW_REV (n : Nat) : Nat := 0x05104 + 0x10 * n
def PSW_GATE (n : Nat) : Nat := 0x05108 + 0x10 * n
def PSW_STATUS (n : Nat) : Nat := 0x0510C + 0x10 * n
def INPUT_CFG (n : Nat) : Nat := 0x05200 + 0x40 * n
def INPUT_VLIM (n : Nat) : Nat := 0x05204 + 0x40 * n
def INPUT_ILIM (n : Nat) : Nat := 0x05208 + 0x40 * n
def INPUT_BUDGET (n : Nat) : Nat := 0x0520C + 0x40 * n
def INPUT_FLOOR (n : Nat) : Nat := 0x05210 + 0x40 * n
def INPUT_STATUS (n : Nat) : Nat := 0x05214 + 0x40 * n
def INPUT_POWER (n : Nat) : Nat := 0x05218 + 0x40 * n
def INPUT_CURRENT (n : Nat) : Nat := 0x0521C + 0x40 * n
def INPUT_2_MPPT_CFG : Nat := 0x052A0
def INPUT_2_MPPT_VRANGE : Nat := 0x052A4
def INPUT_2_MPPT_STATUS : Nat := 0x052A8
def INPUT_2_MPPT_PMPP : Nat := 0x052AC
def XFER_CFG : Nat := 0x05300
def XFER_RAMP : Nat := 0x05304
def SRC_PRIO : Nat := 0x05308
def SUPPLY_CFG (n : Nat) : Nat := 0x05320 + 0x10 * n
def SUPPLY_STATUS (n : Nat) : Nat := 0x05324 + 0x10 * n
def SUPPLY_XFER_LAST_LO (n : Nat) : Nat := 0x05328 + 0x10 * n
def SUPPLY_XFER_LAST_HI (n : Nat) : Nat := 0x0532C + 0x10 * n
def PORT_CFG (n : Nat) : Nat := 0x06000 + 0x200 * n
def PORT_SNK_CFG (n : Nat) : Nat := 0x06004 + 0x200 * n
def PORT_SRC_CFG (n : Nat) : Nat := 0x06008 + 0x200 * n
def PORT_SRC_PDO (n : Nat) (k : Nat) : Nat := 0x06010 + 0x200 * n + 0x4 * k
def PORT_SNK_PDO (n : Nat) (k : Nat) : Nat := 0x06030 + 0x200 * n + 0x4 * k
def PORT_STATUS (n : Nat) : Nat := 0x06050 + 0x200 * n
def PORT_CONTRACT (n : Nat) : Nat := 0x06054 + 0x200 * n
def PORT_RDO (n : Nat) : Nat := 0x06058 + 0x200 * n
def PORT_VBUS (n : Nat) : Nat := 0x0605C + 0x200 * n
def PORT_CABLE (n : Nat) : Nat := 0x06060 + 0x200 * n
def PORT_CTRL (n : Nat) : Nat := 0x06064 + 0x200 * n
def PORT_CNT (n : Nat) : Nat := 0x06068 + 0x200 * n
def PD_ID : Nat := 0x06600
def PD_HP_CFG : Nat := 0x06604
def HRW_ID_CFG (n : Nat) : Nat := 0x07000 + 0x4 * n
def HRW_ID_STAT (n : Nat) : Nat := 0x07400 + 0x4 * n
def HRW_STATUS : Nat := 0x07700
def HRW_RECOVERY : Nat := 0x07704
def HRW_SEL : Nat := 0x07708
def HRW_INST : Nat := 0x0770C
def HRW_CLEAR : Nat := 0x07710
def HRW_CLEAR_RESULT : Nat := 0x07714
def HRW_CTRL : Nat := 0x07718
def HRW_PIN_CFG : Nat := 0x0771C
def HRW_INJECT : Nat := 0x07720
def HRW_INJECT_ADDR : Nat := 0x07724
def WDT_CHECKIN : Nat := 0x07730
def WDT_CFG : Nat := 0x07800
def WDT_SERVICE : Nat := 0x07804
def WDT_TASK_EN : Nat := 0x07808
def WDT_STATUS : Nat := 0x0780C
def WDT_ANOMALY : Nat := 0x07810
def NVM_STATUS : Nat := 0x08000
def NVM_ECC_CNT : Nat := 0x08004
def CFL_STATUS : Nat := 0x08008
def NVM_REC_SEL : Nat := 0x08010
def NVM_REC_INFO : Nat := 0x08014
def NVM_REC_SEQ : Nat := 0x08018
def BB_NEXT_SEQ : Nat := 0x08020
def BB_OLDEST_SEQ : Nat := 0x08024
def BB_KEY_SEQ : Nat := 0x08028
def BB_STATUS : Nat := 0x0802C
def NVM_CNT_FLUSH : Nat := 0x08030
def NVM_CNT_LO (n : Nat) : Nat := 0x08100 + 0x10 * n
def NVM_CNT_HI (n : Nat) : Nat := 0x08104 + 0x10 * n
def NVM_CNT_INC (n : Nat) : Nat := 0x08108 + 0x10 * n
def GLN_CFG (n : Nat) : Nat := 0x09000 + 0x80 * n
def GLN_TRIG (n : Nat) : Nat := 0x09004 + 0x80 * n
def GLN_SEL_LO (n : Nat) : Nat := 0x09008 + 0x80 * n
def GLN_SEL_HI (n : Nat) : Nat := 0x0900C + 0x80 * n
def GLN_FLUSH (n : Nat) : Nat := 0x09010 + 0x80 * n
def GLN_CTRL (n : Nat) : Nat := 0x09014 + 0x80 * n
def GLN_STATUS (n : Nat) : Nat := 0x09018 + 0x80 * n
def GLN_SEQ (n : Nat) : Nat := 0x0901C + 0x80 * n
def GLN_LOST (n : Nat) : Nat := 0x09020 + 0x80 * n
def GLN_GLB_STATUS : Nat := 0x09400
def DRILL_STATUS : Nat := 0x0A000
def DRILL_CFG : Nat := 0x0A004
def DRILL_CNT_ACCEPT : Nat := 0x0A008
def DRILL_CNT_REJECT : Nat := 0x0A00C
def DRILL_CNT_BREACH : Nat := 0x0A010
def DRILL_LAST_REJECT : Nat := 0x0A014
def DRILL_PACK_EARMARK_LO (n : Nat) : Nat := 0x0A040 + 0x20 * n
def DRILL_PACK_EARMARK_HI (n : Nat) : Nat := 0x0A044 + 0x20 * n
def DRILL_PACK_ROOM_LO (n : Nat) : Nat := 0x0A048 + 0x20 * n
def DRILL_PACK_ROOM_HI (n : Nat) : Nat := 0x0A04C + 0x20 * n
def DRILL_PACK_PCHG (n : Nat) : Nat := 0x0A050 + 0x20 * n
def DRILL_CAN_RXID (n : Nat) : Nat := 0x0A100 + 0x10 * n
def DRILL_CAN_TXID (n : Nat) : Nat := 0x0A104 + 0x10 * n
def DRILL_CAN_STAT (n : Nat) : Nat := 0x0A108 + 0x10 * n
def DRILL_SLOT_SEL : Nat := 0x0A200
def DRILL_SLOT_STATE : Nat := 0x0A204
def DRILL_SLOT_TAG : Nat := 0x0A208
def DRILL_SLOT_LEFT_LO : Nat := 0x0A20C
def DRILL_SLOT_LEFT_HI : Nat := 0x0A210
def DRILL_SLOT_TIN_LO : Nat := 0x0A214
def DRILL_SLOT_TIN_HI : Nat := 0x0A218
def DRILL_SLOT_TOUT_LO : Nat := 0x0A21C
def DRILL_SLOT_TOUT_HI : Nat := 0x0A220
def CAN_CFG (n : Nat) : Nat := 0x0A300 + 0x40 * n
def CAN_NBT (n : Nat) : Nat := 0x0A304 + 0x40 * n
def CAN_DBT (n : Nat) : Nat := 0x0A308 + 0x40 * n
def CAN_STATUS (n : Nat) : Nat := 0x0A30C + 0x40 * n
def MODEL_PACK_AVAIL_LO (n : Nat) : Nat := 0x0A800 + 0x20 * n
def MODEL_PACK_AVAIL_HI (n : Nat) : Nat := 0x0A804 + 0x20 * n
def MODEL_PACK_RESERVED_LO (n : Nat) : Nat := 0x0A808 + 0x20 * n
def MODEL_PACK_RESERVED_HI (n : Nat) : Nat := 0x0A80C + 0x20 * n
def MODEL_PACK_PMAX (n : Nat) : Nat := 0x0A810 + 0x20 * n
def MODEL_PACK_DERATE (n : Nat) : Nat := 0x0A814 + 0x20 * n
def MODEL_INPUT_BUDGET (n : Nat) : Nat := 0x0A880 + 0x4 * n
def MODEL_PORT_BUDGET (n : Nat) : Nat := 0x0A890 + 0x4 * n
def MODEL_STAGE_HEADROOM (n : Nat) : Nat := 0x0A8A0 + 0x4 * n
def MODEL_STAGE_EFF_TRIM (n : Nat) : Nat := 0x0A8C0 + 0x4 * n
def SEC_STATUS : Nat := 0x0B000
def FWU_STATUS : Nat := 0x0B004
def FWU_SEGMAP : Nat := 0x0B008
def FWU_PROGRESS : Nat := 0x0B00C
def FWU_CTRL : Nat := 0x0B010
def FWU_CFG : Nat := 0x0B014
def FWU_TRIAL_LEFT : Nat := 0x0B018
def FW_VER (n : Nat) : Nat := 0x0B020 + 0x4 * n
def FW_SVN_FLOOR (n : Nat) : Nat := 0x0B030 + 0x4 * n
def KEY_ATT_PUB (n : Nat) : Nat := 0x0B040 + 0x4 * n
def DEV_SERIAL_LO : Nat := 0x0B080
def DEV_SERIAL_HI : Nat := 0x0B084
def DBG_STATUS : Nat := 0x0B090
def ENV_PACK_VLIM (n : Nat) : Nat := 0x0B100 + 0x20 * n
def ENV_PACK_ILIM (n : Nat) : Nat := 0x0B104 + 0x20 * n
def ENV_PACK_TCHG (n : Nat) : Nat := 0x0B108 + 0x20 * n
def ENV_PACK_TDSG (n : Nat) : Nat := 0x0B10C + 0x20 * n
def ENV_PACK_EFLOOR_LO (n : Nat) : Nat := 0x0B110 + 0x20 * n
def ENV_PACK_EFLOOR_HI (n : Nat) : Nat := 0x0B114 + 0x20 * n
def ENV_RAIL (n : Nat) : Nat := 0x0B180 + 0x4 * n
def ENV_SEQ : Nat := 0x0B1A0
def XLT_CTRL (n : Nat) : Nat := 0x10000 + 0x10 * n
def XLT_ADDR_LO (n : Nat) : Nat := 0x10004 + 0x10 * n
def XLT_ADDR_HI (n : Nat) : Nat := 0x10008 + 0x10 * n

end R

namespace F

def GLB_ID_DEVICE : Fld := ⟨0, 16⟩
def GLB_ID_REV : Fld := ⟨16, 8⟩
def GLB_STATUS_RUN_READY : Fld := ⟨0, 1⟩
def GLB_STATUS_STEP : Fld := ⟨1, 3⟩
def GLB_STATUS_PSTATE : Fld := ⟨4, 2⟩
def GLB_STATUS_REF_FALLBACK : Fld := ⟨6, 1⟩
def GLB_STATUS_AON_INTERNAL : Fld := ⟨7, 1⟩
def RST_CAUSE_CAUSE : Fld := ⟨0, 3⟩
def RST_CTRL_SYS_RESET : Fld := ⟨0, 1⟩
def RST_MILE_T_US : Fld := ⟨0, 32⟩
def PWR_CTRL_REQ : Fld := ⟨0, 2⟩
def PWR_STATUS_REFUSE : Fld := ⟨0, 3⟩
def PWR_STATUS_WAKE_SRC : Fld := ⟨8, 3⟩
def PWR_WAKE_EN_PB : Fld := ⟨0, 1⟩
def PWR_WAKE_EN_INPUT : Fld := ⟨1, 1⟩
def PWR_WAKE_EN_PORT : Fld := ⟨2, 1⟩
def PWR_WAKE_EN_TIMER : Fld := ⟨3, 1⟩
def PWR_WAKE_EN_CAN : Fld := ⟨4, 1⟩
def PWR_WAKE_EN_FAULT : Fld := ⟨5, 1⟩
def PWR_WAKE_EN_GPT : Fld := ⟨6, 1⟩
def PWR_WAKE_EN_CMP : Fld := ⟨7, 1⟩
def PWR_FALLOW_TIMER_SECONDS : Fld := ⟨0, 32⟩
def CLK_STATUS_REF_OK : Fld := ⟨0, 1⟩
def CLK_STATUS_AON_OK : Fld := ⟨1, 1⟩
def CLK_STATUS_PLLA_LOCK : Fld := ⟨2, 1⟩
def CLK_STATUS_PLLB_LOCK : Fld := ⟨3, 1⟩
def CLK_STATUS_REF_FALLBACK : Fld := ⟨4, 1⟩
def CLK_STATUS_AON_INTERNAL : Fld := ⟨5, 1⟩
def CLK_CFG_AON_SRC : Fld := ⟨0, 1⟩
def CLK_CFG_REF_MODE : Fld := ⟨1, 1⟩
def SHIP_CTRL_ENTER : Fld := ⟨0, 1⟩
def SHIP_STATUS_REFUSE : Fld := ⟨0, 3⟩
def SHIP_STATUS_WAKE_SRC : Fld := ⟨8, 3⟩
def RING_CFG_EN : Fld := ⟨0, 1⟩
def RING_CFG_TYPE : Fld := ⟨1, 3⟩
def RING_CFG_LOCAL : Fld := ⟨4, 1⟩
def RING_CFG_PRIO : Fld := ⟨5, 2⟩
def RING_CFG_SQ_LOG2 : Fld := ⟨8, 5⟩
def RING_CFG_CQ_LOG2 : Fld := ⟨16, 5⟩
def RING_CFG_ALL : Fld := ⟨24, 1⟩
def RING_SQ_BASE_LO_SQ_BASE : Fld := ⟨12, 20⟩
def RING_SQ_BASE_HI_SQ_BASE : Fld := ⟨0, 2⟩
def RING_CQ_BASE_LO_CQ_BASE : Fld := ⟨12, 20⟩
def RING_CQ_BASE_HI_CQ_BASE : Fld := ⟨0, 2⟩
def RING_IMOD_MOD_COUNT : Fld := ⟨0, 8⟩
def RING_IMOD_MOD_US : Fld := ⟨16, 10⟩
def RING_IMOD_MASK : Fld := ⟨31, 1⟩
def RING_STATUS_STATE : Fld := ⟨0, 2⟩
def RING_STATUS_CFG_ERR : Fld := ⟨2, 1⟩
def RING_STATUS_REFUSED : Fld := ⟨3, 1⟩
def RING_STATUS_STALL : Fld := ⟨4, 4⟩
def RING_STATUS_PHASE : Fld := ⟨8, 1⟩
def RING_SQ_PTR_SQ_HEAD : Fld := ⟨0, 16⟩
def RING_SQ_PTR_SQ_TAIL : Fld := ⟨16, 16⟩
def RING_CQ_PTR_CQ_TAIL : Fld := ⟨0, 16⟩
def RING_CQ_PTR_CQ_HEAD : Fld := ⟨16, 16⟩
def RING_CNT_LOST : Fld := ⟨0, 16⟩
def RING_CNT_PENDING : Fld := ⟨16, 16⟩
def RING_CTRL_RESUME : Fld := ⟨0, 1⟩
def HOST_LINK_STATUS_LINK_UP : Fld := ⟨0, 1⟩
def HOST_LINK_STATUS_GEN : Fld := ⟨1, 2⟩
def HOST_LINK_STATUS_WIDTH : Fld := ⟨3, 2⟩
def HOST_LINK_STATUS_BME : Fld := ⟨5, 1⟩
def HOST_LINK_STATUS_MSIX : Fld := ⟨6, 1⟩
def HOST_LINK_STATUS_D3 : Fld := ⟨7, 1⟩
def HOST_LINK_STATUS_DOWNS : Fld := ⟨8, 8⟩
def HOST_DB_BASE_LO_DB_BASE : Fld := ⟨12, 20⟩
def HOST_DB_BASE_HI_DB_BASE : Fld := ⟨0, 2⟩
def HOST_POLL_US : Fld := ⟨0, 10⟩
def HOST_POLL_CONT : Fld := ⟨16, 1⟩
def HOST_POLL_EN : Fld := ⟨31, 1⟩
def HOST_IRQ_STATUS_PAIR : Fld := ⟨0, 32⟩
def HOST_GLB_STATUS_RING_STALL : Fld := ⟨0, 1⟩
def HOST_GLB_STATUS_FAULT : Fld := ⟨1, 1⟩
def HOST_GLB_STATUS_EVT_LOST : Fld := ⟨2, 1⟩
def HOST_INTX_EN_PAIR : Fld := ⟨0, 32⟩
def HOST_GLB_EN_CAUSE : Fld := ⟨0, 3⟩
def HOST_GLB_EN_SPI_EN : Fld := ⟨8, 1⟩
def HOST_GLB_EN_PCIE_EN : Fld := ⟨9, 1⟩
def HOST_SPI_IRQ_EN_PAIR : Fld := ⟨0, 32⟩
def HOST_SPI_STATUS_LAST_ERR : Fld := ⟨0, 3⟩
def HOST_SPI_STATUS_ERRS : Fld := ⟨8, 8⟩
def EVENT_CFG_PAIR : Fld := ⟨0, 5⟩
def EVENT_CFG_KINDS : Fld := ⟨8, 5⟩
def EVENT_STATUS_SEQ : Fld := ⟨0, 16⟩
def EVENT_STATUS_LOST : Fld := ⟨16, 16⟩
def XLT_SYNC_SYNC : Fld := ⟨0, 1⟩
def XLT_STATUS_BUSY : Fld := ⟨0, 1⟩
def XLT_STATUS_POLL_FAULT : Fld := ⟨1, 1⟩
def DMAF_INFO_KIND : Fld := ⟨0, 4⟩
def DMAF_INFO_OP : Fld := ⟨4, 3⟩
def DMAF_INFO_PAIR : Fld := ⟨8, 5⟩
def DMAF_INFO_INDEX : Fld := ⟨16, 16⟩
def DMAF_ADDR_LO_ADDR : Fld := ⟨0, 32⟩
def DMAF_ADDR_HI_ADDR : Fld := ⟨0, 2⟩
def DMAF_DONE_DONE : Fld := ⟨0, 32⟩
def DMAF_STATUS_NEXT : Fld := ⟨0, 3⟩
def DMAF_STATUS_OVF : Fld := ⟨3, 1⟩
def DMAF_STATUS_COUNT : Fld := ⟨8, 8⟩
def CPLQ_STATUS_USED : Fld := ⟨0, 7⟩
def CPLQ_STATUS_DISCARDS : Fld := ⟨16, 16⟩
def COORD_CFG_MODE : Fld := ⟨0, 3⟩
def COORD_CFG_INV : Fld := ⟨3, 1⟩
def COORD_CFG_FILT : Fld := ⟨4, 4⟩
def COORD_CFG_ZHOME : Fld := ⟨8, 1⟩
def COORD_CFG_ZPOL : Fld := ⟨9, 1⟩
def COORD_CFG_CAP_SRC : Fld := ⟨16, 3⟩
def COORD_CFG_CAP_SEL : Fld := ⟨19, 5⟩
def COORD_CFG_VGATE : Fld := ⟨24, 8⟩
def COORD_MOD_M : Fld := ⟨0, 16⟩
def COORD_STATUS_STALE : Fld := ⟨0, 1⟩
def COORD_STATUS_HOMED : Fld := ⟨1, 1⟩
def COORD_STATUS_CAP_FULL : Fld := ⟨2, 1⟩
def COORD_STATUS_CAP_OVR : Fld := ⟨3, 1⟩
def COORD_STATUS_QUAD_ERR : Fld := ⟨4, 1⟩
def COORD_STATUS_STALL : Fld := ⟨5, 1⟩
def COORD_STATUS_SPEED_ERR : Fld := ⟨6, 1⟩
def COORD_STATUS_LOST : Fld := ⟨7, 1⟩
def COORD_STATUS_BUSY : Fld := ⟨8, 1⟩
def COORD_STATUS_REFUSED : Fld := ⟨9, 1⟩
def COORD_STATUS_TURNS_WRAP : Fld := ⟨10, 1⟩
def COORD_STATUS_STALL_ACC : Fld := ⟨16, 16⟩
def COORD_CTRL_CAP_STROBE : Fld := ⟨0, 1⟩
def COORD_CTRL_HOME_ARM : Fld := ⟨1, 1⟩
def COORD_CTRL_HOME_DISARM : Fld := ⟨2, 1⟩
def COORD_CTRL_STALL_CLR : Fld := ⟨3, 1⟩
def COORD_POS_LO_POS : Fld := ⟨0, 32⟩
def COORD_POS_HI_POS : Fld := ⟨0, 32⟩
def COORD_CAP_LO_CAP : Fld := ⟨0, 32⟩
def COORD_CAP_HI_CAP : Fld := ⟨0, 32⟩
def COORD_VEL_VEL : Fld := ⟨0, 32⟩
def COORD_HOME_LO_HOME : Fld := ⟨0, 32⟩
def COORD_HOME_HI_HOME : Fld := ⟨0, 32⟩
def COORD_BOUND_VMAX_BOUND_VMAX : Fld := ⟨0, 32⟩
def COORD_BOUND_VMIN_BOUND_VMIN : Fld := ⟨0, 32⟩
def COORD_BOUND_STALL_T_STALL : Fld := ⟨0, 16⟩
def COORD_BOUND_STALL_DIR : Fld := ⟨16, 2⟩
def COORD_BOUND_STALL_DIR_TOL : Fld := ⟨24, 8⟩
def COORD_CMP_VAL_LO_VAL : Fld := ⟨0, 32⟩
def COORD_CMP_VAL_HI_VAL : Fld := ⟨0, 32⟩
def COORD_CMP_INT_LO_INT : Fld := ⟨0, 32⟩
def COORD_CMP_INT_HI_INT : Fld := ⟨0, 32⟩
def COORD_CMP_CFG_EN : Fld := ⟨0, 1⟩
def COORD_CMP_CFG_EVENT : Fld := ⟨1, 1⟩
def COORD_CMP_CFG_MATCHED : Fld := ⟨8, 1⟩
def COORD_TIME_US_LO_T : Fld := ⟨0, 32⟩
def COORD_TIME_US_HI_T : Fld := ⟨0, 32⟩
def GPT_CFG_EN : Fld := ⟨0, 1⟩
def GPT_CFG_PRESC : Fld := ⟨1, 4⟩
def GPT_CFG_CHAIN : Fld := ⟨5, 1⟩
def GPT_CFG_ONESHOT : Fld := ⟨6, 1⟩
def GPT_CFG_EVENT : Fld := ⟨7, 1⟩
def GPT_CFG_CAP_SRC : Fld := ⟨8, 3⟩
def GPT_CFG_CAP_SEL : Fld := ⟨11, 5⟩
def GPT_CNT_CNT : Fld := ⟨0, 32⟩
def GPT_RELOAD_RELOAD : Fld := ⟨0, 32⟩
def GPT_CMP_CMP : Fld := ⟨0, 32⟩
def GPT_INTERVAL_INTERVAL : Fld := ⟨0, 32⟩
def GPT_CAP_CAP : Fld := ⟨0, 32⟩
def GPT_STATUS_WRAP : Fld := ⟨0, 1⟩
def GPT_STATUS_MATCH : Fld := ⟨1, 1⟩
def GPT_STATUS_CAP_FULL : Fld := ⟨2, 1⟩
def GPT_STATUS_CAP_OVR : Fld := ⟨3, 1⟩
def GPT_STATUS_RUNNING : Fld := ⟨4, 1⟩
def GPT_CTRL_FORCE_RELOAD : Fld := ⟨0, 1⟩
def GPT_CTRL_CAP_STROBE : Fld := ⟨1, 1⟩
def STAGE_NODES_FROM : Fld := ⟨0, 5⟩
def STAGE_NODES_TO : Fld := ⟨8, 5⟩
def STAGE_NODES_TOPO : Fld := ⟨16, 2⟩
def STAGE_NODES_REV_EN : Fld := ⟨20, 1⟩
def STAGE_NODES_NTC : Fld := ⟨28, 2⟩
def STAGE_HBMAP_HB : Fld := ⟨0, 24⟩
def STAGE_P_RATED_P_RATED : Fld := ⟨0, 32⟩
def STAGE_THERM_T_DERATE : Fld := ⟨0, 16⟩
def STAGE_THERM_T_MAX : Fld := ⟨16, 16⟩
def STAGE_EFF_FWD_EFF_E : Fld := ⟨0, 16⟩
def STAGE_EFF_FWD_EFF_O : Fld := ⟨16, 16⟩
def STAGE_EFF_REV_EFF_E : Fld := ⟨0, 16⟩
def STAGE_EFF_REV_EFF_O : Fld := ⟨16, 16⟩
def STAGE_PWM_PER : Fld := ⟨0, 16⟩
def STAGE_PWM_CTRL_DIV : Fld := ⟨16, 4⟩
def STAGE_PWM_OFS_PHASE_OFS : Fld := ⟨0, 16⟩
def STAGE_MOD_T_MINOFF : Fld := ⟨0, 9⟩
def STAGE_MOD_U_MAX : Fld := ⟨16, 16⟩
def STAGE_IMON_IMON_OFFSET : Fld := ⟨0, 16⟩
def STAGE_IMON_IMON_GAIN : Fld := ⟨16, 16⟩
def STAGE_CBC_CBC_POS : Fld := ⟨0, 16⟩
def STAGE_CBC_CBC_NEG : Fld := ⟨16, 16⟩
def STAGE_CBC_CFG_CBC_COUNT : Fld := ⟨0, 8⟩
def STAGE_CBC_CFG_LEB : Fld := ⟨8, 8⟩
def STAGE_CBC_CFG_REV_RAMP : Fld := ⟨16, 16⟩
def STAGE_LOOPSET_SET_FWD : Fld := ⟨0, 6⟩
def STAGE_LOOPSET_SET_REV : Fld := ⟨8, 6⟩
def STAGE_CTRL_LOOP_APPLY : Fld := ⟨0, 1⟩
def STAGE_STATUS_STATE : Fld := ⟨0, 3⟩
def STAGE_STATUS_DIR : Fld := ⟨3, 1⟩
def STAGE_STATUS_SEL : Fld := ⟨4, 2⟩
def STAGE_STATUS_DE : Fld := ⟨6, 1⟩
def STAGE_STATUS_CBC_ACT : Fld := ⟨7, 1⟩
def STAGE_STATUS_PER_REFUSED : Fld := ⟨8, 1⟩
def STAGE_STATUS_APPLY_LOST : Fld := ⟨9, 1⟩
def STAGE_DUTY_CMP : Fld := ⟨0, 20⟩
def STAGE_IL_I_L : Fld := ⟨0, 32⟩
def STAGE_CEIL_CEIL : Fld := ⟨0, 32⟩
def STAGE_LOOP_A_B_Bi : Fld := ⟨0, 32⟩
def STAGE_LOOP_A_A_Ai : Fld := ⟨0, 32⟩
def STAGE_LOOP_B_B0_B0 : Fld := ⟨0, 32⟩
def STAGE_LOOP_B_B1_B1 : Fld := ⟨0, 32⟩
def STAGE_LOOP_C_B0_B0 : Fld := ⟨0, 32⟩
def STAGE_LOOP_C_B1_B1 : Fld := ⟨0, 32⟩
def STAGE_LOOP_D_B0_B0 : Fld := ⟨0, 32⟩
def STAGE_LOOP_D_B1_B1 : Fld := ⟨0, 32⟩
def STAGE_VFLOOR_V_FLOOR : Fld := ⟨0, 16⟩
def RAIL_CFG_SLEW : Fld := ⟨0, 8⟩
def RAIL_CFG_SS_TIME : Fld := ⟨8, 8⟩
def RAIL_CFG_AUTO_ON : Fld := ⟨16, 1⟩
def RAIL_CFG_START_ORDER : Fld := ⟨17, 3⟩
def RAIL_CFG_SHARE : Fld := ⟨20, 1⟩
def RAIL_CFG_LADDER_MV : Fld := ⟨24, 8⟩
def RAIL_FB_FB_DIV : Fld := ⟨0, 16⟩
def RAIL_SP_DEF_SP : Fld := ⟨0, 16⟩
def RAIL_STATUS_REF : Fld := ⟨0, 16⟩
def RAIL_STATUS_PGOOD : Fld := ⟨16, 1⟩
def RAIL_STATUS_SLEWING : Fld := ⟨17, 1⟩
def RAIL_STATUS_VSEL : Fld := ⟨18, 1⟩
def RAIL_VFB_V : Fld := ⟨0, 16⟩
def STG_TIMEBASE_MB_PER : Fld := ⟨0, 16⟩
def STG_ADC_LOAD_LOAD : Fld := ⟨0, 16⟩
def LOOPTAB_STATUS_VALID : Fld := ⟨0, 1⟩
def LOOPTAB_STATUS_SETS : Fld := ⟨1, 7⟩
def VSEL_CFG_EN : Fld := ⟨0, 1⟩
def VSEL_CFG_RAIL_MASK : Fld := ⟨8, 8⟩
def VSEL_CFG_PINS : Fld := ⟨16, 3⟩
def VSEL_CFG_ACTIVE : Fld := ⟨20, 3⟩
def VSEL_CFG_REFUSED : Fld := ⟨23, 1⟩
def VSEL_SP_SP : Fld := ⟨0, 16⟩
def VSEL_SP_SLEW : Fld := ⟨16, 8⟩
def PACK_PROFILE_COMMIT : Fld := ⟨0, 1⟩
def PACK_PROFILE_STATE : Fld := ⟨8, 2⟩
def PACK_PROFILE_ERR : Fld := ⟨12, 4⟩
def PACK_PROFILE_ERR_INDEX : Fld := ⟨16, 6⟩
def PACK_CHG_CFG_CHG_EN : Fld := ⟨0, 1⟩
def PACK_CHG_CFG_BG_EN : Fld := ⟨1, 1⟩
def PACK_CHG_CFG_WDT_EN : Fld := ⟨2, 1⟩
def PACK_CHG_CFG_WDT_S : Fld := ⟨16, 10⟩
def PACK_CHG_WDT_KICK : Fld := ⟨0, 8⟩
def PACK_CHG_OVR_ICAP : Fld := ⟨0, 16⟩
def PACK_CHG_OVR_VCAP : Fld := ⟨16, 16⟩
def PACK_CHG_STATUS_STATE : Fld := ⟨0, 3⟩
def PACK_CHG_STATUS_PHASE : Fld := ⟨4, 3⟩
def PACK_CHG_STATUS_ZONE : Fld := ⟨8, 3⟩
def PACK_CHG_STATUS_THERM : Fld := ⟨12, 1⟩
def PACK_CHG_STATUS_BLANK : Fld := ⟨13, 1⟩
def PACK_CHG_STATUS_WDT_EXP : Fld := ⟨14, 1⟩
def PACK_CHG_STATUS_THERM_SEEN : Fld := ⟨15, 1⟩
def PACK_CHG_STATUS_DEMAND : Fld := ⟨16, 2⟩
def PACK_CHG_STATUS_CLR_REFUSED : Fld := ⟨18, 1⟩
def PACK_CHG_SETPT_V_SET : Fld := ⟨0, 16⟩
def PACK_CHG_SETPT_I_SET : Fld := ⟨16, 16⟩
def PACK_CHG_TIMER_T_EFF : Fld := ⟨0, 16⟩
def PACK_CHG_TIMER_T_RUN : Fld := ⟨16, 16⟩
def PACK_CHG_FAULT_CAUSE : Fld := ⟨0, 8⟩
def PACK_CHG_FAULT_PHASE : Fld := ⟨8, 3⟩
def PACK_CHG_FAULT_ZONE : Fld := ⟨12, 3⟩
def PACK_CHG_FAULT_SEEN : Fld := ⟨15, 1⟩
def PACK_CHG_CTRL_CLEAR : Fld := ⟨0, 1⟩
def PACK_CHG_TERM_V_PEAK : Fld := ⟨0, 16⟩
def PACK_CHG_TERM_DTDT : Fld := ⟨16, 16⟩
def PACK_TEMP_T_ZONE : Fld := ⟨0, 16⟩
def PACK_TEMP_T_NTC : Fld := ⟨16, 16⟩
def PACK_NTC_CFG_BETA : Fld := ⟨0, 16⟩
def PACK_NTC_CFG_RNOM : Fld := ⟨16, 16⟩
def PACK_LINK_CFG_LINK_MODE : Fld := ⟨0, 2⟩
def PACK_LINK_CFG_FAST : Fld := ⟨2, 1⟩
def PACK_LINK_CFG_PEC : Fld := ⟨3, 1⟩
def PACK_LINK_CFG_REQUIRED : Fld := ⟨4, 1⟩
def PACK_LINK_CFG_CAN_PORT : Fld := ⟨5, 1⟩
def PACK_LINK_CFG_POLL : Fld := ⟨8, 8⟩
def PACK_LINK_CFG_RETRY : Fld := ⟨16, 4⟩
def PACK_LINK_CANID_ID : Fld := ⟨0, 29⟩
def PACK_LINK_CANID_IDE : Fld := ⟨29, 1⟩
def PACK_LINK_STATUS_STATE : Fld := ⟨0, 2⟩
def PACK_LINK_STATUS_T_VALID : Fld := ⟨2, 1⟩
def PACK_LINK_STATUS_CHEM : Fld := ⟨8, 3⟩
def PACK_LINK_STATUS_PSTAT : Fld := ⟨16, 16⟩
def PACK_LINK_ERR_NACK : Fld := ⟨0, 8⟩
def PACK_LINK_ERR_TIMEOUT : Fld := ⟨8, 8⟩
def PACK_LINK_ERR_PEC_ERR : Fld := ⟨16, 8⟩
def PACK_LINK_ERR_SEQ_ERR : Fld := ⟨24, 8⟩
def PACK_ID_ID : Fld := ⟨0, 32⟩
def PACK_LINK_VT_V : Fld := ⟨0, 16⟩
def PACK_LINK_VT_T : Fld := ⟨16, 16⟩
def PACK_LINK_I_I : Fld := ⟨0, 32⟩
def PACK_LINK_CHG_ICHG : Fld := ⟨0, 16⟩
def PACK_LINK_CHG_VCHG : Fld := ⟨16, 16⟩
def PACK_LINK_DSG_IDSG : Fld := ⟨0, 16⟩
def PACK_LINK_DSG_CYCLES : Fld := ⟨16, 16⟩
def PACK_EREM_LO_E_REM : Fld := ⟨0, 32⟩
def PACK_EREM_HI_E_REM : Fld := ⟨0, 16⟩
def PACK_EFULL_LO_E_FULL : Fld := ⟨0, 32⟩
def PACK_EFULL_HI_E_FULL : Fld := ⟨0, 16⟩
def PACK_EDESIGN_LO_EDESIGN : Fld := ⟨0, 32⟩
def PACK_EDESIGN_HI_EDESIGN : Fld := ⟨0, 16⟩
def PACK_SOH_SOH_E : Fld := ⟨0, 11⟩
def PACK_SOH_SOH_R : Fld := ⟨16, 11⟩
def PACK_TILTH_CFG_EN : Fld := ⟨0, 1⟩
def PACK_TILTH_CFG_AMP : Fld := ⟨8, 8⟩
def PACK_TILTH_CFG_PPD : Fld := ⟨16, 4⟩
def PACK_TILTH_CFG_NCYC : Fld := ⟨20, 4⟩
def PACK_TILTH_CFG_INTERVAL_H : Fld := ⟨24, 8⟩
def PACK_TILTH_DER_F_DER : Fld := ⟨0, 5⟩
def PACK_TILTH_DER_D_EOL : Fld := ⟨16, 11⟩
def PACK_TILTH_RNEW_RNEW : Fld := ⟨0, 32⟩
def PACK_TILTH_REOL_REOL : Fld := ⟨0, 32⟩
def PACK_TILTH_TCR_TCR : Fld := ⟨0, 16⟩
def PACK_TILTH_CTRL_START : Fld := ⟨0, 1⟩
def PACK_TILTH_CTRL_ABORT : Fld := ⟨1, 1⟩
def PACK_TILTH_STATUS_STATE : Fld := ⟨0, 2⟩
def PACK_TILTH_STATUS_POINT : Fld := ⟨8, 5⟩
def PACK_TILTH_STATUS_LAST : Fld := ⟨16, 2⟩
def PACK_TILTH_STATUS_POINTS : Fld := ⟨24, 5⟩
def PACK_TILTH_TIME_LO_TIME : Fld := ⟨0, 32⟩
def PACK_TILTH_TIME_HI_TIME : Fld := ⟨0, 16⟩
def PACK_TILTH_R25_R25 : Fld := ⟨0, 32⟩
def PACK_Z_RE_RE : Fld := ⟨0, 32⟩
def PACK_Z_IM_IM : Fld := ⟨0, 32⟩
def PACK_PROF_DATA : Fld := ⟨0, 32⟩
def FAB_CTRL_COMMIT : Fld := ⟨0, 1⟩
def FAB_STATUS_STATE : Fld := ⟨0, 2⟩
def FAB_STATUS_ERR : Fld := ⟨8, 4⟩
def FAB_STATUS_ERR_INDEX : Fld := ⟨16, 5⟩
def FAB_STATUS_GEN : Fld := ⟨24, 8⟩
def FAB_NODE_VRANGE_V_MIN : Fld := ⟨0, 16⟩
def FAB_NODE_VRANGE_V_MAX : Fld := ⟨16, 16⟩
def PSW_CFG_ROLE : Fld := ⟨0, 2⟩
def PSW_CFG_NODE_A : Fld := ⟨8, 5⟩
def PSW_CFG_NODE_B : Fld := ⟨16, 5⟩
def PSW_CFG_EGRESS_CLOSED : Fld := ⟨24, 1⟩
def PSW_REV_REV_THR : Fld := ⟨0, 16⟩
def PSW_REV_REV_HOLD : Fld := ⟨16, 8⟩
def PSW_GATE_GATE_I : Fld := ⟨0, 4⟩
def PSW_STATUS_CLOSED : Fld := ⟨0, 1⟩
def PSW_STATUS_GATE_OK : Fld := ⟨1, 1⟩
def PSW_STATUS_PERMIT : Fld := ⟨2, 2⟩
def PSW_STATUS_REV_TRIP : Fld := ⟨4, 1⟩
def PSW_STATUS_TRIPS : Fld := ⟨8, 8⟩
def INPUT_CFG_EN : Fld := ⟨0, 1⟩
def INPUT_CFG_LOSS_DGL : Fld := ⟨8, 8⟩
def INPUT_VLIM_LOSS_MV : Fld := ⟨0, 16⟩
def INPUT_VLIM_OV_MV : Fld := ⟨16, 16⟩
def INPUT_ILIM_ILIM : Fld := ⟨0, 32⟩
def INPUT_BUDGET_BUDGET : Fld := ⟨0, 32⟩
def INPUT_FLOOR_FLOOR_MARGIN : Fld := ⟨0, 16⟩
def INPUT_STATUS_STATE : Fld := ⟨0, 3⟩
def INPUT_STATUS_OV : Fld := ⟨3, 1⟩
def INPUT_STATUS_REV : Fld := ⟨4, 1⟩
def INPUT_STATUS_V : Fld := ⟨16, 16⟩
def INPUT_POWER_P : Fld := ⟨0, 32⟩
def INPUT_CURRENT_I : Fld := ⟨0, 32⟩
def INPUT_2_MPPT_CFG_EN : Fld := ⟨0, 1⟩
def INPUT_2_MPPT_CFG_STEP : Fld := ⟨8, 8⟩
def INPUT_2_MPPT_CFG_SWEEP_S : Fld := ⟨16, 16⟩
def INPUT_2_MPPT_VRANGE_VMIN : Fld := ⟨0, 16⟩
def INPUT_2_MPPT_VRANGE_VMAX : Fld := ⟨16, 16⟩
def INPUT_2_MPPT_STATUS_V_OP : Fld := ⟨0, 16⟩
def INPUT_2_MPPT_STATUS_DIR : Fld := ⟨16, 1⟩
def INPUT_2_MPPT_STATUS_SWEEPING : Fld := ⟨17, 1⟩
def INPUT_2_MPPT_STATUS_LIMITED : Fld := ⟨18, 1⟩
def INPUT_2_MPPT_STATUS_RANGE_ERR : Fld := ⟨19, 1⟩
def INPUT_2_MPPT_PMPP_PMPP : Fld := ⟨0, 32⟩
def XFER_CFG_INPUT_QUALIFY_MS : Fld := ⟨0, 16⟩
def XFER_CFG_HOLD_MS : Fld := ⟨16, 16⟩
def XFER_RAMP_RAMP : Fld := ⟨0, 16⟩
def SRC_PRIO_PRIO : Fld := ⟨0, 18⟩
def SUPPLY_CFG_STANDBY : Fld := ⟨0, 4⟩
def SUPPLY_STATUS_STATE : Fld := ⟨0, 3⟩
def SUPPLY_STATUS_PACKS : Fld := ⟨4, 4⟩
def SUPPLY_XFER_LAST_LO_XFER_LAST : Fld := ⟨0, 32⟩
def SUPPLY_XFER_LAST_HI_XFER_LAST : Fld := ⟨0, 16⟩
def PORT_CFG_ROLE : Fld := ⟨0, 2⟩
def PORT_CFG_TRY : Fld := ⟨2, 2⟩
def PORT_CFG_RP : Fld := ⟨4, 2⟩
def PORT_CFG_POLICY : Fld := ⟨6, 1⟩
def PORT_CFG_RING : Fld := ⟨8, 5⟩
def PORT_CFG_VCONN_EN : Fld := ⟨13, 1⟩
def PORT_CFG_FRS_EN : Fld := ⟨14, 1⟩
def PORT_CFG_BC_EN : Fld := ⟨15, 1⟩
def PORT_CFG_EPR_EN : Fld := ⟨16, 1⟩
def PORT_CFG_SWAP_PR : Fld := ⟨17, 1⟩
def PORT_CFG_SWAP_DR : Fld := ⟨18, 1⟩
def PORT_CFG_SWAP_VCONN : Fld := ⟨19, 1⟩
def PORT_CFG_DRP_DUTY : Fld := ⟨20, 4⟩
def PORT_SNK_CFG_PMIN : Fld := ⟨0, 16⟩
def PORT_SRC_CFG_SLEW : Fld := ⟨0, 8⟩
def PORT_SRC_CFG_FRS_STAGE : Fld := ⟨8, 3⟩
def PORT_SRC_PDO_PDO : Fld := ⟨0, 32⟩
def PORT_SNK_PDO_PDO : Fld := ⟨0, 32⟩
def PORT_STATUS_CONN : Fld := ⟨0, 4⟩
def PORT_STATUS_PE : Fld := ⟨4, 5⟩
def PORT_STATUS_PWR_ROLE : Fld := ⟨9, 1⟩
def PORT_STATUS_DATA_ROLE : Fld := ⟨10, 1⟩
def PORT_STATUS_VCONN_ON : Fld := ⟨11, 1⟩
def PORT_STATUS_EXPLICIT : Fld := ⟨12, 1⟩
def PORT_STATUS_EPR : Fld := ⟨13, 1⟩
def PORT_STATUS_REV : Fld := ⟨14, 2⟩
def PORT_STATUS_SUPPLY : Fld := ⟨16, 3⟩
def PORT_STATUS_FLIP : Fld := ⟨19, 1⟩
def PORT_STATUS_TYPEC_CUR : Fld := ⟨20, 2⟩
def PORT_STATUS_BC : Fld := ⟨22, 2⟩
def PORT_STATUS_DB : Fld := ⟨24, 1⟩
def PORT_STATUS_FRS_ARMED : Fld := ⟨25, 1⟩
def PORT_STATUS_CFG_REFUSED : Fld := ⟨26, 1⟩
def PORT_CONTRACT_V : Fld := ⟨0, 16⟩
def PORT_CONTRACT_I : Fld := ⟨16, 16⟩
def PORT_RDO_RDO : Fld := ⟨0, 32⟩
def PORT_VBUS_V : Fld := ⟨0, 16⟩
def PORT_CABLE_FOUND : Fld := ⟨0, 1⟩
def PORT_CABLE_I5A : Fld := ⟨1, 1⟩
def PORT_CABLE_EPR_CAP : Fld := ⟨2, 1⟩
def PORT_CTRL_HARD_RESET : Fld := ⟨0, 1⟩
def PORT_CTRL_ERR_RECOVER : Fld := ⟨1, 1⟩
def PORT_CNT_HARD : Fld := ⟨0, 8⟩
def PORT_CNT_SOFT : Fld := ⟨8, 8⟩
def PORT_CNT_TXFAIL : Fld := ⟨16, 8⟩
def PORT_CNT_LATE : Fld := ⟨24, 8⟩
def PD_ID_VID : Fld := ⟨0, 16⟩
def PD_ID_PID : Fld := ⟨16, 16⟩
def PD_HP_CFG_HP_RESP_MS : Fld := ⟨0, 4⟩
def HRW_ID_CFG_CLASS : Fld := ⟨0, 3⟩
def HRW_ID_CFG_NOTIFY : Fld := ⟨4, 1⟩
def HRW_ID_CFG_RECORD : Fld := ⟨5, 1⟩
def HRW_ID_CFG_FAULT_N : Fld := ⟨6, 1⟩
def HRW_ID_CFG_MIN_CLASS : Fld := ⟨8, 3⟩
def HRW_ID_CFG_QUIET : Fld := ⟨16, 13⟩
def HRW_ID_STAT_ACT : Fld := ⟨0, 16⟩
def HRW_ID_STAT_LOCK : Fld := ⟨16, 16⟩
def HRW_STATUS_SAFE : Fld := ⟨0, 1⟩
def HRW_STATUS_FAULT_N : Fld := ⟨1, 1⟩
def HRW_STATUS_LAST_ID : Fld := ⟨8, 8⟩
def HRW_STATUS_LAST_INST : Fld := ⟨16, 4⟩
def HRW_RECOVERY_REC_LIMIT : Fld := ⟨0, 4⟩
def HRW_RECOVERY_REC_WIN : Fld := ⟨8, 8⟩
def HRW_SEL_ID : Fld := ⟨0, 8⟩
def HRW_SEL_INST : Fld := ⟨8, 4⟩
def HRW_INST_STATE : Fld := ⟨0, 3⟩
def HRW_INST_RECOVERIES : Fld := ⟨4, 4⟩
def HRW_INST_OCCUR : Fld := ⟨8, 8⟩
def HRW_INST_QUIET_LEFT : Fld := ⟨16, 16⟩
def HRW_CLEAR_ID : Fld := ⟨0, 8⟩
def HRW_CLEAR_INST : Fld := ⟨8, 4⟩
def HRW_CLEAR_RESULT_CAUSE : Fld := ⟨0, 16⟩
def HRW_CLEAR_RESULT_BUSY : Fld := ⟨16, 1⟩
def HRW_CTRL_SAFE_REQ : Fld := ⟨0, 1⟩
def HRW_PIN_CFG_ALIVE_SAFE : Fld := ⟨0, 1⟩
def HRW_INJECT_MEM : Fld := ⟨0, 3⟩
def HRW_INJECT_BITS : Fld := ⟨4, 2⟩
def HRW_INJECT_ARM : Fld := ⟨8, 1⟩
def HRW_INJECT_ARMED : Fld := ⟨16, 1⟩
def HRW_INJECT_FIRED : Fld := ⟨17, 1⟩
def HRW_INJECT_INJ_REFUSED : Fld := ⟨18, 1⟩
def HRW_INJECT_ADDR_ADDR : Fld := ⟨0, 32⟩
def WDT_CHECKIN_SLOT : Fld := ⟨0, 4⟩
def WDT_CFG_WIN_MS : Fld := ⟨0, 13⟩
def WDT_CFG_EARLY_MS : Fld := ⟨16, 12⟩
def WDT_CFG_CLK_SEL : Fld := ⟨28, 1⟩
def WDT_CFG_LOCK : Fld := ⟨31, 1⟩
def WDT_SERVICE_KEY : Fld := ⟨0, 16⟩
def WDT_TASK_EN_EN : Fld := ⟨0, 16⟩
def WDT_TASK_EN_STRICT : Fld := ⟨16, 16⟩
def WDT_STATUS_SEEN : Fld := ⟨0, 16⟩
def WDT_STATUS_EXPIRED : Fld := ⟨16, 1⟩
def WDT_STATUS_CAUSE : Fld := ⟨17, 3⟩
def WDT_STATUS_LEFT_MS : Fld := ⟨20, 12⟩
def WDT_ANOMALY_DOUBLE : Fld := ⟨0, 16⟩
def WDT_ANOMALY_COUNT : Fld := ⟨16, 16⟩
def NVM_STATUS_RECALLING : Fld := ⟨0, 1⟩
def NVM_STATUS_BUSY : Fld := ⟨1, 1⟩
def NVM_STATUS_PSET : Fld := ⟨2, 1⟩
def NVM_STATUS_REERASE : Fld := ⟨8, 8⟩
def NVM_ECC_CNT_CORR : Fld := ⟨0, 16⟩
def NVM_ECC_CNT_TORN : Fld := ⟨16, 16⟩
def CFL_STATUS_BUSY : Fld := ⟨0, 1⟩
def CFL_STATUS_SECTOR : Fld := ⟨1, 6⟩
def CFL_STATUS_BANK : Fld := ⟨7, 1⟩
def CFL_STATUS_CORR : Fld := ⟨16, 16⟩
def NVM_REC_SEL_RECORD_ID : Fld := ⟨0, 16⟩
def NVM_REC_INFO_A_VALID : Fld := ⟨0, 1⟩
def NVM_REC_INFO_B_VALID : Fld := ⟨1, 1⟩
def NVM_REC_INFO_CURRENT : Fld := ⟨2, 1⟩
def NVM_REC_INFO_LENGTH : Fld := ⟨16, 16⟩
def NVM_REC_SEQ_SEQ : Fld := ⟨0, 32⟩
def BB_NEXT_SEQ_SEQ : Fld := ⟨0, 32⟩
def BB_OLDEST_SEQ_SEQ : Fld := ⟨0, 32⟩
def BB_KEY_SEQ_SEQ : Fld := ⟨0, 32⟩
def BB_STATUS_QUEUED : Fld := ⟨0, 7⟩
def BB_STATUS_LOST : Fld := ⟨16, 8⟩
def BB_STATUS_DAMAGED : Fld := ⟨24, 8⟩
def NVM_CNT_FLUSH_FLUSH : Fld := ⟨0, 1⟩
def NVM_CNT_LO_VALUE : Fld := ⟨0, 32⟩
def NVM_CNT_HI_VALUE : Fld := ⟨0, 8⟩
def NVM_CNT_HI_WORN : Fld := ⟨16, 1⟩
def NVM_CNT_INC_INC : Fld := ⟨0, 1⟩
def GLN_CFG_EN : Fld := ⟨0, 1⟩
def GLN_CFG_TRIGGERED : Fld := ⟨1, 1⟩
def GLN_CFG_KIND : Fld := ⟨2, 2⟩
def GLN_CFG_PAIR : Fld := ⟨4, 5⟩
def GLN_CFG_CUNIT : Fld := ⟨12, 3⟩
def GLN_CFG_SMP_SRC : Fld := ⟨16, 3⟩
def GLN_CFG_SMP_SEL : Fld := ⟨19, 5⟩
def GLN_CFG_DIV : Fld := ⟨24, 8⟩
def GLN_TRIG_TRG_SRC : Fld := ⟨0, 3⟩
def GLN_TRIG_TRG_SEL : Fld := ⟨3, 5⟩
def GLN_TRIG_PRE : Fld := ⟨8, 8⟩
def GLN_TRIG_POST : Fld := ⟨16, 16⟩
def GLN_SEL_LO_ID : Fld := ⟨0, 32⟩
def GLN_SEL_HI_ID : Fld := ⟨0, 32⟩
def GLN_FLUSH_FLUSH_MS : Fld := ⟨0, 10⟩
def GLN_CTRL_ARM : Fld := ⟨0, 1⟩
def GLN_CTRL_FORCE : Fld := ⟨1, 1⟩
def GLN_STATUS_STATE : Fld := ⟨0, 3⟩
def GLN_STATUS_CFG_ERR : Fld := ⟨3, 1⟩
def GLN_STATUS_NOBUF : Fld := ⟨4, 1⟩
def GLN_STATUS_BUFS : Fld := ⟨8, 5⟩
def GLN_SEQ_SEQ : Fld := ⟨0, 32⟩
def GLN_LOST_LOST : Fld := ⟨0, 32⟩
def GLN_GLB_STATUS_LOAD : Fld := ⟨0, 8⟩
def GLN_GLB_STATUS_OVER : Fld := ⟨8, 1⟩
def DRILL_STATUS_PLAN_USED : Fld := ⟨0, 13⟩
def DRILL_STATUS_SAFE : Fld := ⟨16, 1⟩
def DRILL_STATUS_REVAL : Fld := ⟨17, 1⟩
def DRILL_CFG_REVAL_MS : Fld := ⟨0, 8⟩
def DRILL_CNT_ACCEPT_COUNT : Fld := ⟨0, 32⟩
def DRILL_CNT_REJECT_COUNT : Fld := ⟨0, 32⟩
def DRILL_CNT_BREACH_COUNT : Fld := ⟨0, 32⟩
def DRILL_LAST_REJECT_STATUS : Fld := ⟨0, 8⟩
def DRILL_LAST_REJECT_DETAIL : Fld := ⟨16, 16⟩
def DRILL_PACK_EARMARK_LO_EARMARK : Fld := ⟨0, 32⟩
def DRILL_PACK_EARMARK_HI_EARMARK : Fld := ⟨0, 16⟩
def DRILL_PACK_ROOM_LO_ROOM : Fld := ⟨0, 32⟩
def DRILL_PACK_ROOM_HI_ROOM : Fld := ⟨0, 16⟩
def DRILL_PACK_PCHG_PCHG : Fld := ⟨0, 32⟩
def DRILL_CAN_RXID_ID : Fld := ⟨0, 29⟩
def DRILL_CAN_RXID_IDE : Fld := ⟨29, 1⟩
def DRILL_CAN_RXID_EN : Fld := ⟨31, 1⟩
def DRILL_CAN_TXID_ID : Fld := ⟨0, 29⟩
def DRILL_CAN_TXID_IDE : Fld := ⟨29, 1⟩
def DRILL_CAN_STAT_BAD_FRAME : Fld := ⟨0, 16⟩
def DRILL_CAN_STAT_DROPPED : Fld := ⟨16, 16⟩
def DRILL_SLOT_SEL_SLOT : Fld := ⟨0, 12⟩
def DRILL_SLOT_STATE_STATE : Fld := ⟨0, 2⟩
def DRILL_SLOT_STATE_CLASS : Fld := ⟨2, 2⟩
def DRILL_SLOT_STATE_TARGET : Fld := ⟨4, 4⟩
def DRILL_SLOT_STATE_OPCODE : Fld := ⟨8, 8⟩
def DRILL_SLOT_STATE_DOMAIN : Fld := ⟨16, 2⟩
def DRILL_SLOT_STATE_PAIR : Fld := ⟨18, 5⟩
def DRILL_SLOT_TAG_TAG : Fld := ⟨0, 32⟩
def DRILL_SLOT_LEFT_LO_E_LEFT : Fld := ⟨0, 32⟩
def DRILL_SLOT_LEFT_HI_E_LEFT : Fld := ⟨0, 16⟩
def DRILL_SLOT_TIN_LO_T_IN : Fld := ⟨0, 32⟩
def DRILL_SLOT_TIN_HI_T_IN : Fld := ⟨0, 16⟩
def DRILL_SLOT_TOUT_LO_T_OUT : Fld := ⟨0, 32⟩
def DRILL_SLOT_TOUT_HI_T_OUT : Fld := ⟨0, 16⟩
def CAN_CFG_EN : Fld := ⟨0, 1⟩
def CAN_CFG_FD : Fld := ⟨1, 1⟩
def CAN_CFG_BRS : Fld := ⟨2, 1⟩
def CAN_CFG_TDC : Fld := ⟨3, 1⟩
def CAN_CFG_AUTO_BO : Fld := ⟨4, 1⟩
def CAN_CFG_TDCO : Fld := ⟨8, 7⟩
def CAN_NBT_BRP : Fld := ⟨0, 8⟩
def CAN_NBT_TSEG1 : Fld := ⟨8, 8⟩
def CAN_NBT_TSEG2 : Fld := ⟨16, 7⟩
def CAN_NBT_SJW : Fld := ⟨24, 7⟩
def CAN_DBT_BRP : Fld := ⟨0, 5⟩
def CAN_DBT_TSEG1 : Fld := ⟨8, 5⟩
def CAN_DBT_TSEG2 : Fld := ⟨16, 4⟩
def CAN_DBT_SJW : Fld := ⟨24, 4⟩
def CAN_STATUS_TEC : Fld := ⟨0, 8⟩
def CAN_STATUS_REC : Fld := ⟨8, 8⟩
def CAN_STATUS_STATE : Fld := ⟨16, 2⟩
def CAN_STATUS_BO_CNT : Fld := ⟨24, 8⟩
def MODEL_PACK_AVAIL_LO_E_AVAIL : Fld := ⟨0, 32⟩
def MODEL_PACK_AVAIL_HI_E_AVAIL : Fld := ⟨0, 16⟩
def MODEL_PACK_RESERVED_LO_E_RES : Fld := ⟨0, 32⟩
def MODEL_PACK_RESERVED_HI_E_RES : Fld := ⟨0, 16⟩
def MODEL_PACK_PMAX_PMAX : Fld := ⟨0, 32⟩
def MODEL_PACK_DERATE_D_TEMP : Fld := ⟨0, 11⟩
def MODEL_PACK_DERATE_D_IMP : Fld := ⟨16, 11⟩
def MODEL_INPUT_BUDGET_BUDGET : Fld := ⟨0, 32⟩
def MODEL_PORT_BUDGET_BUDGET : Fld := ⟨0, 32⟩
def MODEL_STAGE_HEADROOM_HEADROOM : Fld := ⟨0, 32⟩
def MODEL_STAGE_EFF_TRIM_TRIM : Fld := ⟨0, 11⟩
def SEC_STATUS_LIFECYCLE : Fld := ⟨0, 3⟩
def SEC_STATUS_BANK : Fld := ⟨3, 1⟩
def SEC_STATUS_PREV_VALID : Fld := ⟨4, 1⟩
def SEC_STATUS_RECOVERY : Fld := ⟨5, 1⟩
def SEC_STATUS_ENV_VALID : Fld := ⟨6, 1⟩
def FWU_STATUS_STATE : Fld := ⟨0, 3⟩
def FWU_STATUS_LAST : Fld := ⟨4, 3⟩
def FWU_STATUS_ACT_REFUSED : Fld := ⟨7, 1⟩
def FWU_STATUS_FAIL : Fld := ⟨8, 8⟩
def FWU_SEGMAP_SEGS : Fld := ⟨0, 16⟩
def FWU_SEGMAP_SEG_COUNT : Fld := ⟨16, 4⟩
def FWU_PROGRESS_SECTOR : Fld := ⟨0, 6⟩
def FWU_PROGRESS_DIRTY : Fld := ⟨6, 1⟩
def FWU_PROGRESS_BOOTS : Fld := ⟨8, 2⟩
def FWU_CTRL_ACTIVATE : Fld := ⟨0, 1⟩
def FWU_CTRL_ABANDON : Fld := ⟨1, 1⟩
def FWU_CTRL_CONFIRM : Fld := ⟨2, 1⟩
def FWU_CFG_TRIAL_S : Fld := ⟨0, 12⟩
def FWU_CFG_TRIAL_BOOTS : Fld := ⟨12, 2⟩
def FWU_CFG_ACT_MODE : Fld := ⟨16, 1⟩
def FWU_TRIAL_LEFT_SECONDS : Fld := ⟨0, 12⟩
def FW_VER_VERSION : Fld := ⟨0, 32⟩
def FW_SVN_FLOOR_SVN : Fld := ⟨0, 32⟩
def KEY_ATT_PUB_KEY : Fld := ⟨0, 32⟩
def DEV_SERIAL_LO_SERIAL : Fld := ⟨0, 32⟩
def DEV_SERIAL_HI_SERIAL : Fld := ⟨0, 32⟩
def DBG_STATUS_OPEN : Fld := ⟨0, 1⟩
def ENV_PACK_VLIM_VPACK_MAX : Fld := ⟨0, 16⟩
def ENV_PACK_VLIM_VCHG_MAX : Fld := ⟨16, 16⟩
def ENV_PACK_ILIM_ICHG_MAX : Fld := ⟨0, 16⟩
def ENV_PACK_ILIM_IDSG_MAX : Fld := ⟨16, 16⟩
def ENV_PACK_TCHG_TCHG_LO : Fld := ⟨0, 16⟩
def ENV_PACK_TCHG_TCHG_HI : Fld := ⟨16, 16⟩
def ENV_PACK_TDSG_TDSG_LO : Fld := ⟨0, 16⟩
def ENV_PACK_TDSG_TDSG_HI : Fld := ⟨16, 16⟩
def ENV_PACK_EFLOOR_LO_E_FLOOR : Fld := ⟨0, 32⟩
def ENV_PACK_EFLOOR_HI_E_FLOOR : Fld := ⟨0, 16⟩
def ENV_RAIL_RVMAX : Fld := ⟨0, 16⟩
def ENV_SEQ_SEQ : Fld := ⟨0, 32⟩
def XLT_CTRL_V : Fld := ⟨0, 1⟩
def XLT_CTRL_RD : Fld := ⟨1, 1⟩
def XLT_CTRL_WR : Fld := ⟨2, 1⟩
def XLT_CTRL_LOCAL : Fld := ⟨3, 1⟩
def XLT_ADDR_LO_ADDR : Fld := ⟨22, 10⟩
def XLT_ADDR_HI_ADDR : Fld := ⟨0, 32⟩

end F

/-- The access types of R10. -/
inductive Acc where
  | ro | rw | w1c | rc | wo | hw
  deriving DecidableEq, Repr

/-- One field of a register: its lowest bit, its width, its access type (R10) and its reset value. -/
structure FldSpec where
  lo : Nat
  w : Nat
  acc : Acc
  rst : Nat
  deriving DecidableEq, Repr

/-- One row of the register index: `n1` instances `stride1` bytes apart, each with `n2` words `stride2` bytes apart. -/
structure RegFam where
  base : Nat
  stride1 : Nat
  n1 : Nat
  stride2 : Nat
  n2 : Nat
  flds : List FldSpec
  deriving DecidableEq, Repr

/-- Whether an offset is a word of the family. -/
def famHas (f : RegFam) (off : Nat) : Bool :=
  f.base ≤ off &&
    (let d := off - f.base
     d / f.stride1 < f.n1 && d % f.stride1 % f.stride2 == 0 && d % f.stride1 / f.stride2 < f.n2)

/-- Register rows, part 0 of the 4 KiB block 0 of the set-up window. -/
def regBlk0_0 : List RegFam := [
  ⟨0x00000, 0x4, 1, 4, 1, [⟨0, 16, .ro, 0x840⟩, ⟨16, 8, .ro, 0x1⟩]⟩,
  ⟨0x00004, 0x4, 1, 4, 1, [⟨0, 1, .ro, 0x0⟩, ⟨1, 3, .ro, 0x0⟩, ⟨4, 2, .ro, 0x3⟩, ⟨6, 1, .ro, 0x0⟩, ⟨7, 1, .ro, 0x0⟩]⟩,
  ⟨0x00400, 0x4, 1, 4, 1, [⟨0, 3, .ro, 0x1⟩]⟩,
  ⟨0x00404, 0x4, 1, 4, 1, [⟨0, 1, .hw, 0x0⟩]⟩,
  ⟨0x00410, 0x4, 7, 4, 1, [⟨0, 32, .ro, 0x0⟩]⟩,
  ⟨0x00440, 0x4, 1, 4, 1, [⟨0, 2, .wo, 0x0⟩]⟩,
  ⟨0x00444, 0x4, 1, 4, 1, [⟨0, 3, .ro, 0x0⟩, ⟨8, 3, .rc, 0x0⟩]⟩,
  ⟨0x00448, 0x4, 1, 4, 1, [⟨0, 1, .rw, 0x1⟩, ⟨1, 1, .rw, 0x1⟩, ⟨2, 1, .rw, 0x1⟩, ⟨3, 1, .rw, 0x0⟩, ⟨4, 1, .rw, 0x0⟩, ⟨5, 1, .rw, 0x1⟩, ⟨6, 1, .rw, 0x0⟩, ⟨7, 1, .rw, 0x0⟩]⟩,
  ⟨0x0044C, 0x4, 1, 4, 1, [⟨0, 32, .rw, 0x0⟩]⟩,
  ⟨0x00460, 0x4, 1, 4, 1, [⟨0, 1, .ro, 0x0⟩, ⟨1, 1, .ro, 0x0⟩, ⟨2, 1, .ro, 0x0⟩, ⟨3, 1, .ro, 0x0⟩, ⟨4, 1, .ro, 0x0⟩, ⟨5, 1, .ro, 0x0⟩]⟩,
  ⟨0x00464, 0x4, 1, 4, 1, [⟨0, 1, .hw, 0x0⟩, ⟨1, 1, .hw, 0x0⟩]⟩,
  ⟨0x00480, 0x4, 1, 4, 1, [⟨0, 1, .hw, 0x0⟩]⟩,
  ⟨0x00484, 0x4, 1, 4, 1, [⟨0, 3, .ro, 0x0⟩, ⟨8, 3, .rc, 0x0⟩]⟩,
  ⟨0x00800, 0x40, 32, 4, 1, [⟨0, 1, .rw, 0x0⟩, ⟨1, 3, .rw, 0x0⟩, ⟨4, 1, .rw, 0x0⟩, ⟨5, 2, .rw, 0x1⟩, ⟨8, 5, .rw, 0x0⟩, ⟨16, 5, .rw, 0x0⟩, ⟨24, 1, .rw, 0x0⟩]⟩,
  ⟨0x00804, 0x40, 32, 4, 1, [⟨12, 20, .rw, 0x0⟩]⟩,
  ⟨0x00808, 0x40, 32, 4, 1, [⟨0, 2, .rw, 0x0⟩]⟩,
  ⟨0x0080C, 0x40, 32, 4, 1, [⟨12, 20, .rw, 0x0⟩]⟩,
  ⟨0x00810, 0x40, 32, 4, 1, [⟨0, 2, .rw, 0x0⟩]⟩,
  ⟨0x00814, 0x40, 32, 4, 1, [⟨0, 8, .rw, 0x1⟩, ⟨16, 10, .rw, 0x0⟩, ⟨31, 1, .rw, 0x0⟩]⟩,
  ⟨0x00818, 0x40, 32, 4, 1, [⟨0, 2, .ro, 0x0⟩, ⟨2, 1, .w1c, 0x0⟩, ⟨3, 1, .w1c, 0x0⟩, ⟨4, 4, .ro, 0x0⟩, ⟨8, 1, .ro, 0x1⟩]⟩,
  ⟨0x0081C, 0x40, 32, 4, 1, [⟨0, 16, .ro, 0x0⟩, ⟨16, 16, .ro, 0x0⟩]⟩,
  ⟨0x00820, 0x40, 32, 4, 1, [⟨0, 16, .ro, 0x0⟩, ⟨16, 16, .ro, 0x0⟩]⟩,
  ⟨0x00824, 0x40, 32, 4, 1, [⟨0, 16, .rc, 0x0⟩, ⟨16, 16, .ro, 0x0⟩]⟩,
  ⟨0x00828, 0x40, 32, 4, 1, [⟨0, 1, .wo, 0x0⟩]⟩]

def regBlk0 : List RegFam := regBlk0_0

/-- Register rows, part 0 of the 4 KiB block 1 of the set-up window. -/
def regBlk1_0 : List RegFam := [
  ⟨0x01000, 0x4, 1, 4, 1, [⟨0, 1, .ro, 0x0⟩, ⟨1, 2, .ro, 0x0⟩, ⟨3, 2, .ro, 0x0⟩, ⟨5, 1, .ro, 0x0⟩, ⟨6, 1, .ro, 0x0⟩, ⟨7, 1, .ro, 0x0⟩, ⟨8, 8, .rc, 0x0⟩]⟩,
  ⟨0x01004, 0x4, 1, 4, 1, [⟨12, 20, .rw, 0x0⟩]⟩,
  ⟨0x01008, 0x4, 1, 4, 1, [⟨0, 2, .rw, 0x0⟩]⟩,
  ⟨0x0100C, 0x4, 1, 4, 1, [⟨0, 10, .rw, 0x14⟩, ⟨16, 1, .rw, 0x0⟩, ⟨31, 1, .rw, 0x0⟩]⟩,
  ⟨0x01010, 0x4, 1, 4, 1, [⟨0, 32, .w1c, 0x0⟩]⟩,
  ⟨0x01014, 0x4, 1, 4, 1, [⟨0, 1, .w1c, 0x0⟩, ⟨1, 1, .w1c, 0x0⟩, ⟨2, 1, .w1c, 0x0⟩]⟩,
  ⟨0x01018, 0x4, 1, 4, 1, [⟨0, 32, .rw, 0x0⟩]⟩,
  ⟨0x0101C, 0x4, 1, 4, 1, [⟨0, 3, .rw, 0x7⟩, ⟨8, 1, .rw, 0x1⟩, ⟨9, 1, .rw, 0x1⟩]⟩,
  ⟨0x01020, 0x4, 1, 4, 1, [⟨0, 32, .rw, 0x0⟩]⟩,
  ⟨0x01024, 0x4, 1, 4, 1, [⟨0, 3, .ro, 0x0⟩, ⟨8, 8, .rc, 0x0⟩]⟩,
  ⟨0x01028, 0x4, 1, 4, 1, [⟨0, 5, .rw, 0x1F⟩, ⟨8, 5, .rw, 0x1F⟩]⟩,
  ⟨0x0102C, 0x4, 1, 4, 1, [⟨0, 16, .ro, 0x0⟩, ⟨16, 16, .rc, 0x0⟩]⟩,
  ⟨0x01040, 0x4, 1, 4, 1, [⟨0, 1, .wo, 0x0⟩]⟩,
  ⟨0x01044, 0x4, 1, 4, 1, [⟨0, 1, .ro, 0x0⟩, ⟨1, 1, .ro, 0x0⟩]⟩,
  ⟨0x01100, 0x10, 8, 4, 1, [⟨0, 4, .ro, 0x0⟩, ⟨4, 3, .ro, 0x0⟩, ⟨8, 5, .ro, 0x0⟩, ⟨16, 16, .ro, 0x0⟩]⟩,
  ⟨0x01104, 0x10, 8, 4, 1, [⟨0, 32, .ro, 0x0⟩]⟩,
  ⟨0x01108, 0x10, 8, 4, 1, [⟨0, 2, .ro, 0x0⟩]⟩,
  ⟨0x0110C, 0x10, 8, 4, 1, [⟨0, 32, .ro, 0x0⟩]⟩,
  ⟨0x01180, 0x4, 1, 4, 1, [⟨0, 3, .ro, 0x0⟩, ⟨3, 1, .w1c, 0x0⟩, ⟨8, 8, .rc, 0x0⟩]⟩,
  ⟨0x01190, 0x4, 1, 4, 1, [⟨0, 7, .ro, 0x0⟩, ⟨16, 16, .rc, 0x0⟩]⟩]

def regBlk1 : List RegFam := regBlk1_0

/-- Register rows, part 0 of the 4 KiB block 2 of the set-up window. -/
def regBlk2_0 : List RegFam := [
  ⟨0x02000, 0x100, 6, 4, 1, [⟨0, 3, .rw, 0x0⟩, ⟨3, 1, .rw, 0x0⟩, ⟨4, 4, .rw, 0x0⟩, ⟨8, 1, .rw, 0x0⟩, ⟨9, 1, .rw, 0x0⟩, ⟨16, 3, .rw, 0x0⟩, ⟨19, 5, .rw, 0x0⟩, ⟨24, 8, .rw, 0xF⟩]⟩,
  ⟨0x02004, 0x100, 6, 4, 1, [⟨0, 16, .rw, 0x4⟩]⟩,
  ⟨0x02008, 0x100, 6, 4, 1, [⟨0, 1, .ro, 0x1⟩, ⟨1, 1, .ro, 0x0⟩, ⟨2, 1, .ro, 0x0⟩, ⟨3, 1, .w1c, 0x0⟩, ⟨4, 1, .w1c, 0x0⟩, ⟨5, 1, .w1c, 0x0⟩, ⟨6, 1, .w1c, 0x0⟩, ⟨7, 1, .ro, 0x0⟩, ⟨8, 1, .ro, 0x0⟩, ⟨9, 1, .w1c, 0x0⟩, ⟨10, 1, .w1c, 0x0⟩, ⟨16, 16, .ro, 0x0⟩]⟩,
  ⟨0x0200C, 0x100, 6, 4, 1, [⟨0, 1, .wo, 0x0⟩, ⟨1, 1, .wo, 0x0⟩, ⟨2, 1, .wo, 0x0⟩, ⟨3, 1, .wo, 0x0⟩]⟩,
  ⟨0x02010, 0x100, 6, 4, 1, [⟨0, 32, .rw, 0x0⟩]⟩,
  ⟨0x02014, 0x100, 6, 4, 1, [⟨0, 32, .rw, 0x0⟩]⟩,
  ⟨0x02018, 0x100, 6, 4, 1, [⟨0, 32, .ro, 0x0⟩]⟩,
  ⟨0x0201C, 0x100, 6, 4, 1, [⟨0, 32, .ro, 0x0⟩]⟩,
  ⟨0x02020, 0x100, 6, 4, 1, [⟨0, 32, .ro, 0x0⟩]⟩,
  ⟨0x02028, 0x100, 6, 4, 1, [⟨0, 32, .rw, 0x0⟩]⟩,
  ⟨0x0202C, 0x100, 6, 4, 1, [⟨0, 32, .rw, 0x0⟩]⟩,
  ⟨0x02030, 0x100, 6, 4, 1, [⟨0, 32, .rw, 0x0⟩]⟩,
  ⟨0x02034, 0x100, 6, 4, 1, [⟨0, 32, .rw, 0x0⟩]⟩,
  ⟨0x02038, 0x100, 6, 4, 1, [⟨0, 16, .rw, 0x0⟩, ⟨16, 2, .rw, 0x0⟩, ⟨24, 8, .rw, 0x0⟩]⟩,
  ⟨0x02040, 0x100, 6, 32, 4, [⟨0, 32, .rw, 0x0⟩]⟩,
  ⟨0x02044, 0x100, 6, 32, 4, [⟨0, 32, .rw, 0x0⟩]⟩,
  ⟨0x02048, 0x100, 6, 32, 4, [⟨0, 32, .rw, 0x0⟩]⟩,
  ⟨0x0204C, 0x100, 6, 32, 4, [⟨0, 32, .rw, 0x0⟩]⟩,
  ⟨0x02050, 0x100, 6, 32, 4, [⟨0, 1, .rw, 0x0⟩, ⟨1, 1, .rw, 0x0⟩, ⟨8, 1, .w1c, 0x0⟩]⟩,
  ⟨0x02700, 0x4, 1, 4, 1, [⟨0, 32, .ro, 0x0⟩]⟩,
  ⟨0x02704, 0x4, 1, 4, 1, [⟨0, 32, .ro, 0x0⟩]⟩,
  ⟨0x02800, 0x20, 16, 4, 1, [⟨0, 1, .rw, 0x0⟩, ⟨1, 4, .rw, 0x0⟩, ⟨5, 1, .rw, 0x0⟩, ⟨6, 1, .rw, 0x0⟩, ⟨7, 1, .rw, 0x0⟩, ⟨8, 3, .rw, 0x0⟩, ⟨11, 5, .rw, 0x0⟩]⟩,
  ⟨0x02804, 0x20, 16, 4, 1, [⟨0, 32, .ro, 0x0⟩]⟩,
  ⟨0x02808, 0x20, 16, 4, 1, [⟨0, 32, .rw, 0xFFFFFFFF⟩]⟩]

/-- Register rows, part 1 of the 4 KiB block 2 of the set-up window. -/
def regBlk2_1 : List RegFam := [
  ⟨0x0280C, 0x20, 16, 4, 1, [⟨0, 32, .rw, 0x0⟩]⟩,
  ⟨0x02810, 0x20, 16, 4, 1, [⟨0, 32, .rw, 0x0⟩]⟩,
  ⟨0x02814, 0x20, 16, 4, 1, [⟨0, 32, .ro, 0x0⟩]⟩,
  ⟨0x02818, 0x20, 16, 4, 1, [⟨0, 1, .w1c, 0x0⟩, ⟨1, 1, .w1c, 0x0⟩, ⟨2, 1, .ro, 0x0⟩, ⟨3, 1, .w1c, 0x0⟩, ⟨4, 1, .ro, 0x0⟩]⟩,
  ⟨0x0281C, 0x20, 16, 4, 1, [⟨0, 1, .wo, 0x0⟩, ⟨1, 1, .wo, 0x0⟩]⟩]

def regBlk2 : List RegFam := regBlk2_0 ++ regBlk2_1

/-- Register rows, part 0 of the 4 KiB block 3 of the set-up window. -/
def regBlk3_0 : List RegFam := [
  ⟨0x03000, 0x200, 8, 4, 1, [⟨0, 5, .hw, 0x0⟩, ⟨8, 5, .hw, 0x0⟩, ⟨16, 2, .hw, 0x0⟩, ⟨20, 1, .hw, 0x0⟩, ⟨28, 2, .hw, 0x0⟩]⟩,
  ⟨0x03004, 0x200, 8, 4, 1, [⟨0, 24, .hw, 0x0⟩]⟩,
  ⟨0x03008, 0x200, 8, 4, 1, [⟨0, 32, .hw, 0x0⟩]⟩,
  ⟨0x0300C, 0x200, 8, 4, 1, [⟨0, 16, .hw, 0x0⟩, ⟨16, 16, .hw, 0x0⟩]⟩,
  ⟨0x03010, 0x200, 8, 4, 4, [⟨0, 16, .hw, 0x0⟩, ⟨16, 16, .hw, 0x0⟩]⟩,
  ⟨0x03020, 0x200, 8, 4, 4, [⟨0, 16, .hw, 0x0⟩, ⟨16, 16, .hw, 0x0⟩]⟩,
  ⟨0x03030, 0x200, 8, 4, 1, [⟨0, 16, .rw, 0xFA0⟩, ⟨16, 4, .rw, 0x0⟩]⟩,
  ⟨0x03034, 0x200, 8, 4, 1, [⟨0, 16, .rw, 0x0⟩]⟩,
  ⟨0x03038, 0x200, 8, 4, 1, [⟨0, 9, .rw, 0x10⟩, ⟨16, 16, .rw, 0x0⟩]⟩,
  ⟨0x0303C, 0x200, 8, 4, 1, [⟨0, 16, .hw, 0x384⟩, ⟨16, 16, .hw, 0x1388⟩]⟩,
  ⟨0x03040, 0x200, 8, 4, 1, [⟨0, 16, .hw, 0x0⟩, ⟨16, 16, .hw, 0x0⟩]⟩,
  ⟨0x03044, 0x200, 8, 4, 1, [⟨0, 8, .hw, 0x40⟩, ⟨8, 8, .hw, 0x40⟩, ⟨16, 16, .rw, 0x64⟩]⟩,
  ⟨0x03048, 0x200, 8, 4, 1, [⟨0, 6, .rw, 0x3F⟩, ⟨8, 6, .rw, 0x3F⟩]⟩,
  ⟨0x0304C, 0x200, 8, 4, 1, [⟨0, 1, .wo, 0x0⟩]⟩,
  ⟨0x03050, 0x200, 8, 4, 1, [⟨0, 3, .ro, 0x0⟩, ⟨3, 1, .ro, 0x0⟩, ⟨4, 2, .ro, 0x0⟩, ⟨6, 1, .ro, 0x0⟩, ⟨7, 1, .ro, 0x0⟩, ⟨8, 1, .w1c, 0x0⟩, ⟨9, 1, .w1c, 0x0⟩]⟩,
  ⟨0x03054, 0x200, 8, 4, 1, [⟨0, 20, .ro, 0x0⟩]⟩,
  ⟨0x03058, 0x200, 8, 4, 1, [⟨0, 32, .ro, 0x0⟩]⟩,
  ⟨0x0305C, 0x200, 8, 4, 1, [⟨0, 32, .ro, 0x0⟩]⟩,
  ⟨0x03060, 0x200, 8, 4, 4, [⟨0, 32, .rw, 0x0⟩]⟩,
  ⟨0x03070, 0x200, 8, 4, 4, [⟨0, 32, .rw, 0x0⟩]⟩,
  ⟨0x03080, 0x200, 8, 4, 1, [⟨0, 32, .rw, 0x0⟩]⟩,
  ⟨0x03084, 0x200, 8, 4, 1, [⟨0, 32, .rw, 0x0⟩]⟩,
  ⟨0x03088, 0x200, 8, 4, 1, [⟨0, 32, .rw, 0x0⟩]⟩,
  ⟨0x0308C, 0x200, 8, 4, 1, [⟨0, 32, .rw, 0x0⟩]⟩]

/-- Register rows, part 1 of the 4 KiB block 3 of the set-up window. -/
def regBlk3_1 : List RegFam := [
  ⟨0x03090, 0x200, 8, 4, 1, [⟨0, 32, .rw, 0x0⟩]⟩,
  ⟨0x03094, 0x200, 8, 4, 1, [⟨0, 32, .rw, 0x0⟩]⟩,
  ⟨0x03098, 0x200, 8, 4, 1, [⟨0, 16, .rw, 0x0⟩]⟩,
  ⟨0x03100, 0x200, 8, 4, 1, [⟨0, 8, .hw, 0x32⟩, ⟨8, 8, .hw, 0xA⟩, ⟨16, 1, .hw, 0x0⟩, ⟨17, 3, .hw, 0x0⟩, ⟨20, 1, .hw, 0x0⟩, ⟨24, 8, .hw, 0xA⟩]⟩,
  ⟨0x03104, 0x200, 8, 4, 1, [⟨0, 16, .hw, 0x100⟩]⟩,
  ⟨0x03108, 0x200, 8, 4, 1, [⟨0, 16, .rw, 0x0⟩]⟩,
  ⟨0x0310C, 0x200, 8, 4, 1, [⟨0, 16, .ro, 0x0⟩, ⟨16, 1, .ro, 0x0⟩, ⟨17, 1, .ro, 0x0⟩, ⟨18, 1, .ro, 0x0⟩]⟩,
  ⟨0x03110, 0x200, 8, 4, 1, [⟨0, 16, .ro, 0x0⟩]⟩,
  ⟨0x03180, 0x4, 1, 4, 1, [⟨0, 16, .rw, 0x1F40⟩]⟩,
  ⟨0x03184, 0x4, 1, 4, 1, [⟨0, 16, .ro, 0x0⟩]⟩,
  ⟨0x03188, 0x4, 1, 4, 1, [⟨0, 1, .ro, 0x0⟩, ⟨1, 7, .ro, 0x0⟩]⟩,
  ⟨0x03380, 0x200, 2, 4, 1, [⟨0, 1, .rw, 0x0⟩, ⟨8, 8, .rw, 0x0⟩, ⟨16, 3, .ro, 0x0⟩, ⟨20, 3, .ro, 0x0⟩, ⟨23, 1, .w1c, 0x0⟩]⟩,
  ⟨0x03384, 0x200, 2, 4, 8, [⟨0, 16, .rw, 0x0⟩, ⟨16, 8, .rw, 0x32⟩]⟩]

def regBlk3 : List RegFam := regBlk3_0 ++ regBlk3_1

/-- Register rows, part 0 of the 4 KiB block 4 of the set-up window. -/
def regBlk4_0 : List RegFam := [
  ⟨0x04000, 0x400, 4, 4, 1, [⟨0, 1, .wo, 0x0⟩, ⟨8, 2, .ro, 0x0⟩, ⟨12, 4, .ro, 0x0⟩, ⟨16, 6, .ro, 0x0⟩]⟩,
  ⟨0x04004, 0x400, 4, 4, 1, [⟨0, 1, .rw, 0x0⟩, ⟨1, 1, .rw, 0x0⟩, ⟨2, 1, .rw, 0x1⟩, ⟨16, 10, .rw, 0x3C⟩]⟩,
  ⟨0x04008, 0x400, 4, 4, 1, [⟨0, 8, .wo, 0x0⟩]⟩,
  ⟨0x0400C, 0x400, 4, 4, 1, [⟨0, 16, .rw, 0x0⟩, ⟨16, 16, .rw, 0x0⟩]⟩,
  ⟨0x04010, 0x400, 4, 4, 1, [⟨0, 3, .ro, 0x0⟩, ⟨4, 3, .ro, 0x0⟩, ⟨8, 3, .ro, 0x0⟩, ⟨12, 1, .ro, 0x0⟩, ⟨13, 1, .ro, 0x0⟩, ⟨14, 1, .ro, 0x0⟩, ⟨15, 1, .ro, 0x0⟩, ⟨16, 2, .ro, 0x0⟩, ⟨18, 1, .w1c, 0x0⟩]⟩,
  ⟨0x04014, 0x400, 4, 4, 1, [⟨0, 16, .ro, 0x0⟩, ⟨16, 16, .ro, 0x0⟩]⟩,
  ⟨0x04018, 0x400, 4, 4, 1, [⟨0, 16, .ro, 0x0⟩, ⟨16, 16, .ro, 0x0⟩]⟩,
  ⟨0x0401C, 0x400, 4, 4, 1, [⟨0, 8, .ro, 0x0⟩, ⟨8, 3, .ro, 0x0⟩, ⟨12, 3, .ro, 0x0⟩, ⟨15, 1, .ro, 0x0⟩]⟩,
  ⟨0x04020, 0x400, 4, 4, 1, [⟨0, 1, .wo, 0x0⟩]⟩,
  ⟨0x04024, 0x400, 4, 4, 1, [⟨0, 16, .ro, 0x0⟩, ⟨16, 16, .ro, 0x0⟩]⟩,
  ⟨0x04028, 0x400, 4, 4, 1, [⟨0, 16, .ro, 0x0⟩, ⟨16, 16, .ro, 0x0⟩]⟩,
  ⟨0x0402C, 0x400, 4, 4, 1, [⟨0, 16, .rw, 0xD7A⟩, ⟨16, 16, .rw, 0x3E8⟩]⟩,
  ⟨0x04040, 0x400, 4, 4, 1, [⟨0, 2, .rw, 0x0⟩, ⟨2, 1, .rw, 0x0⟩, ⟨3, 1, .rw, 0x0⟩, ⟨4, 1, .hw, 0x0⟩, ⟨5, 1, .rw, 0x0⟩, ⟨8, 8, .rw, 0x19⟩, ⟨16, 4, .rw, 0x3⟩]⟩,
  ⟨0x04044, 0x400, 4, 4, 1, [⟨0, 29, .rw, 0x0⟩, ⟨29, 1, .rw, 0x0⟩]⟩,
  ⟨0x04048, 0x400, 4, 4, 1, [⟨0, 2, .ro, 0x0⟩, ⟨2, 1, .ro, 0x0⟩, ⟨8, 3, .ro, 0x0⟩, ⟨16, 16, .ro, 0x0⟩]⟩,
  ⟨0x0404C, 0x400, 4, 4, 1, [⟨0, 8, .rc, 0x0⟩, ⟨8, 8, .rc, 0x0⟩, ⟨16, 8, .rc, 0x0⟩, ⟨24, 8, .rc, 0x0⟩]⟩,
  ⟨0x04050, 0x400, 4, 4, 1, [⟨0, 32, .ro, 0x0⟩]⟩,
  ⟨0x04054, 0x400, 4, 4, 1, [⟨0, 16, .ro, 0x0⟩, ⟨16, 16, .ro, 0x0⟩]⟩,
  ⟨0x04058, 0x400, 4, 4, 1, [⟨0, 32, .ro, 0x0⟩]⟩,
  ⟨0x0405C, 0x400, 4, 4, 1, [⟨0, 16, .ro, 0xFFFF⟩, ⟨16, 16, .ro, 0xFFFF⟩]⟩,
  ⟨0x04060, 0x400, 4, 4, 1, [⟨0, 16, .ro, 0xFFFF⟩, ⟨16, 16, .ro, 0x0⟩]⟩,
  ⟨0x04064, 0x400, 4, 4, 1, [⟨0, 32, .ro, 0x0⟩]⟩,
  ⟨0x04068, 0x400, 4, 4, 1, [⟨0, 16, .ro, 0x0⟩]⟩,
  ⟨0x0406C, 0x400, 4, 4, 1, [⟨0, 32, .ro, 0x0⟩]⟩]

/-- Register rows, part 1 of the 4 KiB block 4 of the set-up window. -/
def regBlk4_1 : List RegFam := [
  ⟨0x04070, 0x400, 4, 4, 1, [⟨0, 16, .ro, 0x0⟩]⟩,
  ⟨0x04074, 0x400, 4, 4, 1, [⟨0, 32, .hw, 0x0⟩]⟩,
  ⟨0x04078, 0x400, 4, 4, 1, [⟨0, 16, .hw, 0x0⟩]⟩,
  ⟨0x0407C, 0x400, 4, 4, 1, [⟨0, 11, .ro, 0x0⟩, ⟨16, 11, .ro, 0x0⟩]⟩,
  ⟨0x04080, 0x400, 4, 4, 1, [⟨0, 1, .rw, 0x0⟩, ⟨8, 8, .rw, 0x32⟩, ⟨16, 4, .rw, 0x4⟩, ⟨20, 4, .rw, 0x2⟩, ⟨24, 8, .rw, 0x18⟩]⟩,
  ⟨0x04084, 0x400, 4, 4, 1, [⟨0, 5, .hw, 0x0⟩, ⟨16, 11, .hw, 0x300⟩]⟩,
  ⟨0x04088, 0x400, 4, 4, 1, [⟨0, 32, .hw, 0x0⟩]⟩,
  ⟨0x0408C, 0x400, 4, 4, 1, [⟨0, 32, .hw, 0x0⟩]⟩,
  ⟨0x04090, 0x400, 4, 4, 1, [⟨0, 16, .hw, 0x0⟩]⟩,
  ⟨0x04094, 0x400, 4, 4, 1, [⟨0, 1, .wo, 0x0⟩, ⟨1, 1, .wo, 0x0⟩]⟩,
  ⟨0x04098, 0x400, 4, 4, 1, [⟨0, 2, .ro, 0x0⟩, ⟨8, 5, .ro, 0x0⟩, ⟨16, 2, .ro, 0x0⟩, ⟨24, 5, .ro, 0x0⟩]⟩,
  ⟨0x0409C, 0x400, 4, 4, 1, [⟨0, 32, .ro, 0x0⟩]⟩,
  ⟨0x040A0, 0x400, 4, 4, 1, [⟨0, 16, .ro, 0x0⟩]⟩,
  ⟨0x040A4, 0x400, 4, 4, 1, [⟨0, 32, .ro, 0x0⟩]⟩,
  ⟨0x04100, 0x400, 4, 8, 32, [⟨0, 32, .ro, 0x0⟩]⟩,
  ⟨0x04104, 0x400, 4, 8, 32, [⟨0, 32, .ro, 0x0⟩]⟩,
  ⟨0x04200, 0x400, 4, 4, 100, [⟨0, 32, .rw, 0x0⟩]⟩]

def regBlk4 : List RegFam := regBlk4_0 ++ regBlk4_1

/-- Register rows, part 0 of the 4 KiB block 5 of the set-up window. -/
def regBlk5_0 : List RegFam := [
  ⟨0x05000, 0x4, 1, 4, 1, [⟨0, 1, .hw, 0x0⟩]⟩,
  ⟨0x05004, 0x4, 1, 4, 1, [⟨0, 2, .ro, 0x0⟩, ⟨8, 4, .ro, 0x0⟩, ⟨16, 5, .ro, 0x0⟩, ⟨24, 8, .ro, 0x0⟩]⟩,
  ⟨0x05040, 0x4, 19, 4, 1, [⟨0, 16, .hw, 0x0⟩, ⟨16, 16, .hw, 0x0⟩]⟩,
  ⟨0x05100, 0x10, 12, 4, 1, [⟨0, 2, .hw, 0x0⟩, ⟨8, 5, .hw, 0x0⟩, ⟨16, 5, .hw, 0x0⟩, ⟨24, 1, .hw, 0x0⟩]⟩,
  ⟨0x05104, 0x10, 12, 4, 1, [⟨0, 16, .hw, 0xC8⟩, ⟨16, 8, .rw, 0xA⟩]⟩,
  ⟨0x05108, 0x10, 12, 4, 1, [⟨0, 4, .hw, 0x4⟩]⟩,
  ⟨0x0510C, 0x10, 12, 4, 1, [⟨0, 1, .ro, 0x0⟩, ⟨1, 1, .ro, 0x0⟩, ⟨2, 2, .ro, 0x0⟩, ⟨4, 1, .w1c, 0x0⟩, ⟨8, 8, .rc, 0x0⟩]⟩,
  ⟨0x05200, 0x40, 3, 4, 1, [⟨0, 1, .rw, 0x0⟩, ⟨8, 8, .rw, 0x5⟩]⟩,
  ⟨0x05204, 0x40, 3, 4, 1, [⟨0, 16, .rw, 0x1194⟩, ⟨16, 16, .hw, 0xFDE8⟩]⟩,
  ⟨0x05208, 0x40, 3, 4, 1, [⟨0, 32, .rw, 0x0⟩]⟩,
  ⟨0x0520C, 0x40, 3, 4, 1, [⟨0, 32, .rw, 0x0⟩]⟩,
  ⟨0x05210, 0x40, 3, 4, 1, [⟨0, 16, .rw, 0x1F4⟩]⟩,
  ⟨0x05214, 0x40, 3, 4, 1, [⟨0, 3, .ro, 0x0⟩, ⟨3, 1, .w1c, 0x0⟩, ⟨4, 1, .w1c, 0x0⟩, ⟨16, 16, .ro, 0x0⟩]⟩,
  ⟨0x05218, 0x40, 3, 4, 1, [⟨0, 32, .ro, 0x0⟩]⟩,
  ⟨0x0521C, 0x40, 3, 4, 1, [⟨0, 32, .ro, 0x0⟩]⟩,
  ⟨0x052A0, 0x4, 1, 4, 1, [⟨0, 1, .rw, 0x0⟩, ⟨8, 8, .rw, 0xA⟩, ⟨16, 16, .rw, 0x258⟩]⟩,
  ⟨0x052A4, 0x4, 1, 4, 1, [⟨0, 16, .rw, 0x0⟩, ⟨16, 16, .rw, 0x0⟩]⟩,
  ⟨0x052A8, 0x4, 1, 4, 1, [⟨0, 16, .ro, 0x0⟩, ⟨16, 1, .ro, 0x0⟩, ⟨17, 1, .ro, 0x0⟩, ⟨18, 1, .ro, 0x0⟩, ⟨19, 1, .ro, 0x0⟩]⟩,
  ⟨0x052AC, 0x4, 1, 4, 1, [⟨0, 32, .ro, 0x0⟩]⟩,
  ⟨0x05300, 0x4, 1, 4, 1, [⟨0, 16, .rw, 0xFA⟩, ⟨16, 16, .rw, 0x3E8⟩]⟩,
  ⟨0x05304, 0x4, 1, 4, 1, [⟨0, 16, .rw, 0x3E8⟩]⟩,
  ⟨0x05308, 0x4, 1, 4, 1, [⟨0, 18, .rw, 0x0⟩]⟩,
  ⟨0x05320, 0x10, 8, 4, 1, [⟨0, 4, .rw, 0x0⟩]⟩,
  ⟨0x05324, 0x10, 8, 4, 1, [⟨0, 3, .ro, 0x0⟩, ⟨4, 4, .ro, 0x0⟩]⟩]

/-- Register rows, part 1 of the 4 KiB block 5 of the set-up window. -/
def regBlk5_1 : List RegFam := [
  ⟨0x05328, 0x10, 8, 4, 1, [⟨0, 32, .ro, 0x0⟩]⟩,
  ⟨0x0532C, 0x10, 8, 4, 1, [⟨0, 16, .ro, 0x0⟩]⟩]

def regBlk5 : List RegFam := regBlk5_0 ++ regBlk5_1

/-- Register rows, part 0 of the 4 KiB block 6 of the set-up window. -/
def regBlk6_0 : List RegFam := [
  ⟨0x06000, 0x200, 3, 4, 1, [⟨0, 2, .rw, 0x0⟩, ⟨2, 2, .rw, 0x0⟩, ⟨4, 2, .rw, 0x0⟩, ⟨6, 1, .rw, 0x0⟩, ⟨8, 5, .rw, 0x0⟩, ⟨13, 1, .rw, 0x0⟩, ⟨14, 1, .rw, 0x0⟩, ⟨15, 1, .rw, 0x0⟩, ⟨16, 1, .rw, 0x0⟩, ⟨17, 1, .rw, 0x0⟩, ⟨18, 1, .rw, 0x0⟩, ⟨19, 1, .rw, 0x0⟩, ⟨20, 4, .rw, 0x5⟩]⟩,
  ⟨0x06004, 0x200, 3, 4, 1, [⟨0, 16, .rw, 0x0⟩]⟩,
  ⟨0x06008, 0x200, 3, 4, 1, [⟨0, 8, .rw, 0x32⟩, ⟨8, 3, .rw, 0x0⟩]⟩,
  ⟨0x06010, 0x200, 3, 4, 7, [⟨0, 32, .rw, 0x0⟩]⟩,
  ⟨0x06030, 0x200, 3, 4, 7, [⟨0, 32, .rw, 0x0⟩]⟩,
  ⟨0x06050, 0x200, 3, 4, 1, [⟨0, 4, .ro, 0x0⟩, ⟨4, 5, .ro, 0x0⟩, ⟨9, 1, .ro, 0x0⟩, ⟨10, 1, .ro, 0x0⟩, ⟨11, 1, .ro, 0x0⟩, ⟨12, 1, .ro, 0x0⟩, ⟨13, 1, .ro, 0x0⟩, ⟨14, 2, .ro, 0x0⟩, ⟨16, 3, .ro, 0x0⟩, ⟨19, 1, .ro, 0x0⟩, ⟨20, 2, .ro, 0x0⟩, ⟨22, 2, .ro, 0x0⟩, ⟨24, 1, .ro, 0x1⟩, ⟨25, 1, .ro, 0x0⟩, ⟨26, 1, .w1c, 0x0⟩]⟩,
  ⟨0x06054, 0x200, 3, 4, 1, [⟨0, 16, .ro, 0x0⟩, ⟨16, 16, .ro, 0x0⟩]⟩,
  ⟨0x06058, 0x200, 3, 4, 1, [⟨0, 32, .ro, 0x0⟩]⟩,
  ⟨0x0605C, 0x200, 3, 4, 1, [⟨0, 16, .ro, 0x0⟩]⟩,
  ⟨0x06060, 0x200, 3, 4, 1, [⟨0, 1, .ro, 0x0⟩, ⟨1, 1, .ro, 0x0⟩, ⟨2, 1, .ro, 0x0⟩]⟩,
  ⟨0x06064, 0x200, 3, 4, 1, [⟨0, 1, .wo, 0x0⟩, ⟨1, 1, .wo, 0x0⟩]⟩,
  ⟨0x06068, 0x200, 3, 4, 1, [⟨0, 8, .rc, 0x0⟩, ⟨8, 8, .rc, 0x0⟩, ⟨16, 8, .rc, 0x0⟩, ⟨24, 8, .rc, 0x0⟩]⟩,
  ⟨0x06600, 0x4, 1, 4, 1, [⟨0, 16, .hw, 0x0⟩, ⟨16, 16, .hw, 0x0⟩]⟩,
  ⟨0x06604, 0x4, 1, 4, 1, [⟨0, 4, .rw, 0xC⟩]⟩]

def regBlk6 : List RegFam := regBlk6_0

/-- Register rows, part 0 of the 4 KiB block 7 of the set-up window. -/
def regBlk7_0 : List RegFam := [
  ⟨0x07000, 0x4, 192, 4, 1, [⟨0, 3, .rw, 0x0⟩, ⟨4, 1, .rw, 0x1⟩, ⟨5, 1, .rw, 0x1⟩, ⟨6, 1, .rw, 0x0⟩, ⟨8, 3, .hw, 0x0⟩, ⟨16, 13, .rw, 0xA⟩]⟩,
  ⟨0x07400, 0x4, 192, 4, 1, [⟨0, 16, .ro, 0x0⟩, ⟨16, 16, .ro, 0x0⟩]⟩,
  ⟨0x07700, 0x4, 1, 4, 1, [⟨0, 1, .ro, 0x0⟩, ⟨1, 1, .ro, 0x0⟩, ⟨8, 8, .ro, 0x0⟩, ⟨16, 4, .ro, 0x0⟩]⟩,
  ⟨0x07704, 0x4, 1, 4, 1, [⟨0, 4, .rw, 0x5⟩, ⟨8, 8, .rw, 0xA⟩]⟩,
  ⟨0x07708, 0x4, 1, 4, 1, [⟨0, 8, .rw, 0x0⟩, ⟨8, 4, .rw, 0x0⟩]⟩,
  ⟨0x0770C, 0x4, 1, 4, 1, [⟨0, 3, .ro, 0x0⟩, ⟨4, 4, .ro, 0x0⟩, ⟨8, 8, .ro, 0x0⟩, ⟨16, 16, .ro, 0x0⟩]⟩,
  ⟨0x07710, 0x4, 1, 4, 1, [⟨0, 8, .wo, 0x0⟩, ⟨8, 4, .wo, 0x0⟩]⟩,
  ⟨0x07714, 0x4, 1, 4, 1, [⟨0, 16, .ro, 0x0⟩, ⟨16, 1, .ro, 0x0⟩]⟩,
  ⟨0x07718, 0x4, 1, 4, 1, [⟨0, 1, .wo, 0x0⟩]⟩,
  ⟨0x0771C, 0x4, 1, 4, 1, [⟨0, 1, .rw, 0x0⟩]⟩,
  ⟨0x07720, 0x4, 1, 4, 1, [⟨0, 3, .rw, 0x0⟩, ⟨4, 2, .rw, 0x1⟩, ⟨8, 1, .wo, 0x0⟩, ⟨16, 1, .ro, 0x0⟩, ⟨17, 1, .w1c, 0x0⟩, ⟨18, 1, .w1c, 0x0⟩]⟩,
  ⟨0x07724, 0x4, 1, 4, 1, [⟨0, 32, .rw, 0x0⟩]⟩,
  ⟨0x07730, 0x4, 1, 4, 1, [⟨0, 4, .wo, 0x0⟩]⟩,
  ⟨0x07800, 0x4, 1, 4, 1, [⟨0, 13, .hw, 0x1000⟩, ⟨16, 12, .hw, 0x0⟩, ⟨28, 1, .hw, 0x0⟩, ⟨31, 1, .hw, 0x0⟩]⟩,
  ⟨0x07804, 0x4, 1, 4, 1, [⟨0, 16, .hw, 0x0⟩]⟩,
  ⟨0x07808, 0x4, 1, 4, 1, [⟨0, 16, .hw, 0x0⟩, ⟨16, 16, .hw, 0x0⟩]⟩,
  ⟨0x0780C, 0x4, 1, 4, 1, [⟨0, 16, .ro, 0x0⟩, ⟨16, 1, .ro, 0x0⟩, ⟨17, 3, .ro, 0x0⟩, ⟨20, 12, .ro, 0x0⟩]⟩,
  ⟨0x07810, 0x4, 1, 4, 1, [⟨0, 16, .rc, 0x0⟩, ⟨16, 16, .rc, 0x0⟩]⟩]

def regBlk7 : List RegFam := regBlk7_0

/-- Register rows, part 0 of the 4 KiB block 8 of the set-up window. -/
def regBlk8_0 : List RegFam := [
  ⟨0x08000, 0x4, 1, 4, 1, [⟨0, 1, .ro, 0x1⟩, ⟨1, 1, .ro, 0x0⟩, ⟨2, 1, .ro, 0x0⟩, ⟨8, 8, .ro, 0x0⟩]⟩,
  ⟨0x08004, 0x4, 1, 4, 1, [⟨0, 16, .rc, 0x0⟩, ⟨16, 16, .rc, 0x0⟩]⟩,
  ⟨0x08008, 0x4, 1, 4, 1, [⟨0, 1, .ro, 0x0⟩, ⟨1, 6, .ro, 0x0⟩, ⟨7, 1, .ro, 0x0⟩, ⟨16, 16, .rc, 0x0⟩]⟩,
  ⟨0x08010, 0x4, 1, 4, 1, [⟨0, 16, .rw, 0x100⟩]⟩,
  ⟨0x08014, 0x4, 1, 4, 1, [⟨0, 1, .ro, 0x0⟩, ⟨1, 1, .ro, 0x0⟩, ⟨2, 1, .ro, 0x0⟩, ⟨16, 16, .ro, 0x0⟩]⟩,
  ⟨0x08018, 0x4, 1, 4, 1, [⟨0, 32, .ro, 0x0⟩]⟩,
  ⟨0x08020, 0x4, 1, 4, 1, [⟨0, 32, .ro, 0x0⟩]⟩,
  ⟨0x08024, 0x4, 1, 4, 1, [⟨0, 32, .ro, 0x0⟩]⟩,
  ⟨0x08028, 0x4, 1, 4, 1, [⟨0, 32, .ro, 0x0⟩]⟩,
  ⟨0x0802C, 0x4, 1, 4, 1, [⟨0, 7, .ro, 0x0⟩, ⟨16, 8, .rc, 0x0⟩, ⟨24, 8, .rc, 0x0⟩]⟩,
  ⟨0x08030, 0x4, 1, 4, 1, [⟨0, 1, .wo, 0x0⟩]⟩,
  ⟨0x08100, 0x10, 32, 4, 1, [⟨0, 32, .ro, 0x0⟩]⟩,
  ⟨0x08104, 0x10, 32, 4, 1, [⟨0, 8, .ro, 0x0⟩, ⟨16, 1, .ro, 0x0⟩]⟩,
  ⟨0x08108, 0x10, 32, 4, 1, [⟨0, 1, .wo, 0x0⟩]⟩]

def regBlk8 : List RegFam := regBlk8_0

/-- Register rows, part 0 of the 4 KiB block 9 of the set-up window. -/
def regBlk9_0 : List RegFam := [
  ⟨0x09000, 0x80, 8, 4, 1, [⟨0, 1, .rw, 0x0⟩, ⟨1, 1, .rw, 0x0⟩, ⟨2, 2, .rw, 0x0⟩, ⟨4, 5, .rw, 0x0⟩, ⟨12, 3, .rw, 0x5⟩, ⟨16, 3, .rw, 0x0⟩, ⟨19, 5, .rw, 0x0⟩, ⟨24, 8, .rw, 0x0⟩]⟩,
  ⟨0x09004, 0x80, 8, 4, 1, [⟨0, 3, .rw, 0x0⟩, ⟨3, 5, .rw, 0x0⟩, ⟨8, 8, .rw, 0x0⟩, ⟨16, 16, .rw, 0x0⟩]⟩,
  ⟨0x09008, 0x80, 8, 4, 1, [⟨0, 32, .rw, 0xFFFFFFFF⟩]⟩,
  ⟨0x0900C, 0x80, 8, 4, 1, [⟨0, 32, .rw, 0xFFFFFFFF⟩]⟩,
  ⟨0x09010, 0x80, 8, 4, 1, [⟨0, 10, .rw, 0x64⟩]⟩,
  ⟨0x09014, 0x80, 8, 4, 1, [⟨0, 1, .wo, 0x0⟩, ⟨1, 1, .wo, 0x0⟩]⟩,
  ⟨0x09018, 0x80, 8, 4, 1, [⟨0, 3, .ro, 0x0⟩, ⟨3, 1, .w1c, 0x0⟩, ⟨4, 1, .ro, 0x0⟩, ⟨8, 5, .ro, 0x0⟩]⟩,
  ⟨0x0901C, 0x80, 8, 4, 1, [⟨0, 32, .ro, 0x0⟩]⟩,
  ⟨0x09020, 0x80, 8, 4, 1, [⟨0, 32, .rc, 0x0⟩]⟩,
  ⟨0x09400, 0x4, 1, 4, 1, [⟨0, 8, .ro, 0x0⟩, ⟨8, 1, .w1c, 0x0⟩]⟩]

def regBlk9 : List RegFam := regBlk9_0

/-- Register rows, part 0 of the 4 KiB block 10 of the set-up window. -/
def regBlk10_0 : List RegFam := [
  ⟨0x0A000, 0x4, 1, 4, 1, [⟨0, 13, .ro, 0x0⟩, ⟨16, 1, .ro, 0x0⟩, ⟨17, 1, .ro, 0x0⟩]⟩,
  ⟨0x0A004, 0x4, 1, 4, 1, [⟨0, 8, .rw, 0x64⟩]⟩,
  ⟨0x0A008, 0x4, 1, 4, 1, [⟨0, 32, .ro, 0x0⟩]⟩,
  ⟨0x0A00C, 0x4, 1, 4, 1, [⟨0, 32, .ro, 0x0⟩]⟩,
  ⟨0x0A010, 0x4, 1, 4, 1, [⟨0, 32, .ro, 0x0⟩]⟩,
  ⟨0x0A014, 0x4, 1, 4, 1, [⟨0, 8, .rc, 0x0⟩, ⟨16, 16, .rc, 0x0⟩]⟩,
  ⟨0x0A040, 0x20, 4, 4, 1, [⟨0, 32, .ro, 0x0⟩]⟩,
  ⟨0x0A044, 0x20, 4, 4, 1, [⟨0, 16, .ro, 0x0⟩]⟩,
  ⟨0x0A048, 0x20, 4, 4, 1, [⟨0, 32, .ro, 0x0⟩]⟩,
  ⟨0x0A04C, 0x20, 4, 4, 1, [⟨0, 16, .ro, 0x0⟩]⟩,
  ⟨0x0A050, 0x20, 4, 4, 1, [⟨0, 32, .ro, 0x0⟩]⟩,
  ⟨0x0A100, 0x10, 2, 4, 1, [⟨0, 29, .rw, 0x0⟩, ⟨29, 1, .rw, 0x0⟩, ⟨31, 1, .rw, 0x0⟩]⟩,
  ⟨0x0A104, 0x10, 2, 4, 1, [⟨0, 29, .rw, 0x0⟩, ⟨29, 1, .rw, 0x0⟩]⟩,
  ⟨0x0A108, 0x10, 2, 4, 1, [⟨0, 16, .rc, 0x0⟩, ⟨16, 16, .rc, 0x0⟩]⟩,
  ⟨0x0A200, 0x4, 1, 4, 1, [⟨0, 12, .rw, 0x0⟩]⟩,
  ⟨0x0A204, 0x4, 1, 4, 1, [⟨0, 2, .ro, 0x0⟩, ⟨2, 2, .ro, 0x0⟩, ⟨4, 4, .ro, 0x0⟩, ⟨8, 8, .ro, 0x0⟩, ⟨16, 2, .ro, 0x0⟩, ⟨18, 5, .ro, 0x0⟩]⟩,
  ⟨0x0A208, 0x4, 1, 4, 1, [⟨0, 32, .ro, 0x0⟩]⟩,
  ⟨0x0A20C, 0x4, 1, 4, 1, [⟨0, 32, .ro, 0x0⟩]⟩,
  ⟨0x0A210, 0x4, 1, 4, 1, [⟨0, 16, .ro, 0x0⟩]⟩,
  ⟨0x0A214, 0x4, 1, 4, 1, [⟨0, 32, .ro, 0x0⟩]⟩,
  ⟨0x0A218, 0x4, 1, 4, 1, [⟨0, 16, .ro, 0x0⟩]⟩,
  ⟨0x0A21C, 0x4, 1, 4, 1, [⟨0, 32, .ro, 0x0⟩]⟩,
  ⟨0x0A220, 0x4, 1, 4, 1, [⟨0, 16, .ro, 0x0⟩]⟩,
  ⟨0x0A300, 0x40, 2, 4, 1, [⟨0, 1, .rw, 0x0⟩, ⟨1, 1, .rw, 0x0⟩, ⟨2, 1, .rw, 0x0⟩, ⟨3, 1, .rw, 0x0⟩, ⟨4, 1, .rw, 0x1⟩, ⟨8, 7, .rw, 0x0⟩]⟩]

/-- Register rows, part 1 of the 4 KiB block 10 of the set-up window. -/
def regBlk10_1 : List RegFam := [
  ⟨0x0A304, 0x40, 2, 4, 1, [⟨0, 8, .rw, 0x0⟩, ⟨8, 8, .rw, 0x0⟩, ⟨16, 7, .rw, 0x0⟩, ⟨24, 7, .rw, 0x0⟩]⟩,
  ⟨0x0A308, 0x40, 2, 4, 1, [⟨0, 5, .rw, 0x0⟩, ⟨8, 5, .rw, 0x0⟩, ⟨16, 4, .rw, 0x0⟩, ⟨24, 4, .rw, 0x0⟩]⟩,
  ⟨0x0A30C, 0x40, 2, 4, 1, [⟨0, 8, .ro, 0x0⟩, ⟨8, 8, .ro, 0x0⟩, ⟨16, 2, .ro, 0x0⟩, ⟨24, 8, .rc, 0x0⟩]⟩,
  ⟨0x0A800, 0x20, 4, 4, 1, [⟨0, 32, .ro, 0x0⟩]⟩,
  ⟨0x0A804, 0x20, 4, 4, 1, [⟨0, 16, .ro, 0x0⟩]⟩,
  ⟨0x0A808, 0x20, 4, 4, 1, [⟨0, 32, .ro, 0x0⟩]⟩,
  ⟨0x0A80C, 0x20, 4, 4, 1, [⟨0, 16, .ro, 0x0⟩]⟩,
  ⟨0x0A810, 0x20, 4, 4, 1, [⟨0, 32, .ro, 0x0⟩]⟩,
  ⟨0x0A814, 0x20, 4, 4, 1, [⟨0, 11, .ro, 0x0⟩, ⟨16, 11, .ro, 0x0⟩]⟩,
  ⟨0x0A880, 0x4, 3, 4, 1, [⟨0, 32, .ro, 0x0⟩]⟩,
  ⟨0x0A890, 0x4, 3, 4, 1, [⟨0, 32, .ro, 0x0⟩]⟩,
  ⟨0x0A8A0, 0x4, 8, 4, 1, [⟨0, 32, .ro, 0x0⟩]⟩,
  ⟨0x0A8C0, 0x4, 8, 4, 1, [⟨0, 11, .rw, 0x400⟩]⟩]

def regBlk10 : List RegFam := regBlk10_0 ++ regBlk10_1

/-- Register rows, part 0 of the 4 KiB block 11 of the set-up window. -/
def regBlk11_0 : List RegFam := [
  ⟨0x0B000, 0x4, 1, 4, 1, [⟨0, 3, .ro, 0x1⟩, ⟨3, 1, .ro, 0x0⟩, ⟨4, 1, .ro, 0x0⟩, ⟨5, 1, .ro, 0x0⟩, ⟨6, 1, .ro, 0x0⟩]⟩,
  ⟨0x0B004, 0x4, 1, 4, 1, [⟨0, 3, .ro, 0x0⟩, ⟨4, 3, .ro, 0x0⟩, ⟨7, 1, .w1c, 0x0⟩, ⟨8, 8, .ro, 0x0⟩]⟩,
  ⟨0x0B008, 0x4, 1, 4, 1, [⟨0, 16, .ro, 0x0⟩, ⟨16, 4, .ro, 0x0⟩]⟩,
  ⟨0x0B00C, 0x4, 1, 4, 1, [⟨0, 6, .ro, 0x0⟩, ⟨6, 1, .ro, 0x0⟩, ⟨8, 2, .ro, 0x0⟩]⟩,
  ⟨0x0B010, 0x4, 1, 4, 1, [⟨0, 1, .wo, 0x0⟩, ⟨1, 1, .wo, 0x0⟩, ⟨2, 1, .wo, 0x0⟩]⟩,
  ⟨0x0B014, 0x4, 1, 4, 1, [⟨0, 12, .rw, 0x78⟩, ⟨12, 2, .rw, 0x2⟩, ⟨16, 1, .rw, 0x0⟩]⟩,
  ⟨0x0B018, 0x4, 1, 4, 1, [⟨0, 12, .ro, 0x0⟩]⟩,
  ⟨0x0B020, 0x4, 4, 4, 1, [⟨0, 32, .ro, 0x0⟩]⟩,
  ⟨0x0B030, 0x4, 4, 4, 1, [⟨0, 32, .ro, 0x0⟩]⟩,
  ⟨0x0B040, 0x4, 16, 4, 1, [⟨0, 32, .ro, 0x0⟩]⟩,
  ⟨0x0B080, 0x4, 1, 4, 1, [⟨0, 32, .ro, 0x0⟩]⟩,
  ⟨0x0B084, 0x4, 1, 4, 1, [⟨0, 32, .ro, 0x0⟩]⟩,
  ⟨0x0B090, 0x4, 1, 4, 1, [⟨0, 1, .ro, 0x0⟩]⟩,
  ⟨0x0B100, 0x20, 4, 4, 1, [⟨0, 16, .hw, 0x0⟩, ⟨16, 16, .hw, 0x0⟩]⟩,
  ⟨0x0B104, 0x20, 4, 4, 1, [⟨0, 16, .hw, 0x0⟩, ⟨16, 16, .hw, 0x0⟩]⟩,
  ⟨0x0B108, 0x20, 4, 4, 1, [⟨0, 16, .hw, 0x0⟩, ⟨16, 16, .hw, 0x0⟩]⟩,
  ⟨0x0B10C, 0x20, 4, 4, 1, [⟨0, 16, .hw, 0x0⟩, ⟨16, 16, .hw, 0x0⟩]⟩,
  ⟨0x0B110, 0x20, 4, 4, 1, [⟨0, 32, .hw, 0x0⟩]⟩,
  ⟨0x0B114, 0x20, 4, 4, 1, [⟨0, 16, .hw, 0x0⟩]⟩,
  ⟨0x0B180, 0x4, 8, 4, 1, [⟨0, 16, .hw, 0x0⟩]⟩,
  ⟨0x0B1A0, 0x4, 1, 4, 1, [⟨0, 32, .ro, 0x0⟩]⟩]

def regBlk11 : List RegFam := regBlk11_0

/-- Register rows, part 0 of the 4 KiB block 16 of the set-up window. -/
def regBlk16_0 : List RegFam := [
  ⟨0x10000, 0x10, 4096, 4, 1, [⟨0, 1, .rw, 0x0⟩, ⟨1, 1, .rw, 0x0⟩, ⟨2, 1, .rw, 0x0⟩, ⟨3, 1, .rw, 0x0⟩]⟩,
  ⟨0x10004, 0x10, 4096, 4, 1, [⟨22, 10, .rw, 0x0⟩]⟩,
  ⟨0x10008, 0x10, 4096, 4, 1, [⟨0, 32, .rw, 0x0⟩]⟩]

def regBlk16 : List RegFam := regBlk16_0

/-- The rows of the 4 KiB block of an offset; the translation table fills every block from 16 on. -/
def regBlk (b : Nat) : List RegFam :=
  match b with
  | 0 => regBlk0
  | 1 => regBlk1
  | 2 => regBlk2
  | 3 => regBlk3
  | 4 => regBlk4
  | 5 => regBlk5
  | 6 => regBlk6
  | 7 => regBlk7
  | 8 => regBlk8
  | 9 => regBlk9
  | 10 => regBlk10
  | 11 => regBlk11
  | b => if b < 16 then [] else regBlk16

/-- The fault catalogue (R70, R141, R163, R196, R221, R255, R299, R321, R343, R369, R371; 0x60 from R27): each ID with its
default class. -/
def faultCat0 : List (Nat × Nat) := [(0x02, 1), (0x03, 0), (0x04, 4), (0x08, 4), (0x09, 0), (0x0A, 1), (0x0B, 4), (0x10, 0), (0x11, 4), (0x20, 2), (0x21, 2), (0x22, 2), (0x23, 3), (0x24, 3), (0x26, 3), (0x27, 2), (0x28, 0), (0x29, 2), (0x40, 1), (0x41, 0), (0x42, 3), (0x43, 0), (0x44, 1), (0x45, 0), (0x46, 1), (0x47, 0), (0x48, 0), (0x4E, 1), (0x50, 3), (0x51, 3), (0x52, 0)]
def faultCat1 : List (Nat × Nat) := [(0x53, 3), (0x54, 3), (0x55, 0), (0x58, 2), (0x59, 2), (0x5A, 2), (0x5B, 2), (0x60, 3), (0x61, 0), (0x62, 2), (0x63, 0), (0x64, 2), (0x65, 1), (0x66, 0), (0x67, 0), (0x68, 2), (0x70, 0), (0x72, 1), (0x73, 2), (0x74, 2), (0x75, 2), (0x76, 1), (0x77, 1), (0x79, 2), (0x7A, 0), (0x80, 0), (0x81, 0), (0x82, 0), (0x83, 1), (0x84, 0), (0x85, 1)]
def faultCat2 : List (Nat × Nat) := [(0x87, 0), (0x90, 0), (0x91, 0), (0x92, 0), (0x93, 0), (0x94, 0), (0x95, 0), (0x96, 0), (0x97, 0), (0x98, 1), (0xA0, 0), (0xA1, 0), (0xA2, 0), (0xA3, 1), (0xA4, 1), (0xA5, 0), (0xA6, 0), (0xA7, 0), (0xA9, 0), (0xB0, 0), (0xB1, 4), (0xB5, 0), (0xB8, 0), (0xB9, 1), (0xBA, 1), (0xBB, 4), (0xBC, 0), (0xBD, 0), (0xBE, 4)]
def faultCat : List (Nat × Nat) := faultCat0 ++ faultCat1 ++ faultCat2

/-- The default class of a fault ID, none where the catalogue has no such ID. -/
def defaultClass (id : Nat) : Option Nat := (faultCat.find? (fun p => p.1 == id)).map (·.2)

/-- The reset word of HRW_ID_k_CFG by the ID's default class (16_register_index). -/
def hrwCfgReset (id : Nat) : Nat :=
  match defaultClass id with
  | some 0 => 0x000A0030
  | some 1 => 0x000A0131
  | some 2 => 0x000A0232
  | some 3 => 0x000A0373
  | some _ => 0x000A0474
  | none => 0

/-- Whether an offset is a Harrow ID register of an ID the catalogue does not name: it reads zero (PRESUMED reserved, log 6). -/
def hrwUnknownId (off : Nat) : Bool :=
  (0x07000 ≤ off && off < 0x07300 && (defaultClass ((off - 0x07000) / 4)).isNone) ||
  (0x07400 ≤ off && off < 0x07700 && (defaultClass ((off - 0x07400) / 4)).isNone)

/-- The fields of the register at an offset, by the tables; the empty list for an offset the index does not list (R436).
COORD_4 and COORD_5 have MOD and POS read-only, and COORD_5 its MODE and its bounds (COORD register table). -/
def specOf (off : Nat) : List FldSpec :=
  let fs := match (regBlk (off / 4096)).find? (fun f => famHas f off) with
    | some f => f.flds
    | none => []
  if hrwUnknownId off then []
  else if off == R.COORD_MOD 4 || off == R.COORD_MOD 5 || off == R.COORD_POS_LO 4 || off == R.COORD_POS_HI 4
      || off == R.COORD_POS_LO 5 || off == R.COORD_POS_HI 5 || off == R.COORD_BOUND_VMAX 5
      || off == R.COORD_BOUND_VMIN 5 then
    fs.map (fun f => { f with acc := .ro })
  else if off == R.COORD_CFG 5 then
    fs.map (fun f => if f.lo == 0 then { f with acc := .ro } else f)
  else fs

/-- The word a field list gives at reset. -/
def specReset (fs : List FldSpec) : Nat := fs.foldl (fun a f => a + f.rst * 2 ^ f.lo) 0

/-- The reset value of the register at an offset (16_register_index); an unlisted offset reads zero (R436). -/
def resetWord (off : Nat) : Word :=
  if 0x07000 ≤ off && off < 0x07300 then BitVec.ofNat 32 (hrwCfgReset ((off - 0x07000) / 4))
  else if off == R.COORD_CFG 5 then 0x0F000001#32
  else if off == R.COORD_MOD 4 then 0x00000400#32
  else if off == R.COORD_MOD 5 then 0x000003E8#32
  else if off == R.COORD_STATUS 5 then 0#32
  else if off == R.COORD_BOUND_VMAX 4 then 0x00020800#32
  else if off == R.COORD_BOUND_VMIN 4 then 0x00016800#32
  else if off == R.DEV_SERIAL_LO then Config.devSerialLo
  else if off == R.DEV_SERIAL_HI then Config.devSerialHi
  else BitVec.ofNat 32 (specReset (specOf off))

/-- The split registers of R12: the offset of the `_HI` word that belongs to a `_LO` word at this offset, with the
pair's stride and count; none where the offset is no `_LO` word. -/
def widePairs0 : List (RegFam × Nat) := [
  (⟨0x00804, 0x40, 32, 4, 1, []⟩, 4),
  (⟨0x0080C, 0x40, 32, 4, 1, []⟩, 4),
  (⟨0x01004, 0x4, 1, 4, 1, []⟩, 4),
  (⟨0x01104, 0x10, 8, 4, 1, []⟩, 4),
  (⟨0x02010, 0x100, 6, 4, 1, []⟩, 4),
  (⟨0x02018, 0x100, 6, 4, 1, []⟩, 4),
  (⟨0x02028, 0x100, 6, 4, 1, []⟩, 4),
  (⟨0x02040, 0x100, 6, 32, 4, []⟩, 4),
  (⟨0x02048, 0x100, 6, 32, 4, []⟩, 4),
  (⟨0x02700, 0x4, 1, 4, 1, []⟩, 4),
  (⟨0x04064, 0x400, 4, 4, 1, []⟩, 4),
  (⟨0x0406C, 0x400, 4, 4, 1, []⟩, 4)]
def widePairs1 : List (RegFam × Nat) := [
  (⟨0x04074, 0x400, 4, 4, 1, []⟩, 4),
  (⟨0x0409C, 0x400, 4, 4, 1, []⟩, 4),
  (⟨0x05328, 0x10, 8, 4, 1, []⟩, 4),
  (⟨0x08100, 0x10, 32, 4, 1, []⟩, 4),
  (⟨0x09008, 0x80, 8, 4, 1, []⟩, 4),
  (⟨0x0A040, 0x20, 4, 4, 1, []⟩, 4),
  (⟨0x0A048, 0x20, 4, 4, 1, []⟩, 4),
  (⟨0x0A20C, 0x4, 1, 4, 1, []⟩, 4),
  (⟨0x0A214, 0x4, 1, 4, 1, []⟩, 4),
  (⟨0x0A21C, 0x4, 1, 4, 1, []⟩, 4),
  (⟨0x0A800, 0x20, 4, 4, 1, []⟩, 4),
  (⟨0x0A808, 0x20, 4, 4, 1, []⟩, 4)]
def widePairs2 : List (RegFam × Nat) := [
  (⟨0x0B080, 0x4, 1, 4, 1, []⟩, 4),
  (⟨0x0B110, 0x20, 4, 4, 1, []⟩, 4),
  (⟨0x10004, 0x10, 4096, 4, 1, []⟩, 4)]
def widePairs : List (RegFam × Nat) := widePairs0 ++ widePairs1 ++ widePairs2

def wideHi (off : Nat) : Option Nat :=
  (widePairs.find? (fun p => famHas p.1 off)).map (fun p => off + p.2)

/-- The `_LO` word of a `_HI` word. -/
def wideLo (off : Nat) : Option Nat :=
  (widePairs.find? (fun p => decide (p.2 ≤ off) && famHas p.1 (off - p.2))).map (fun p => off - p.2)

end Sys2Proof.Machine
end

