-- ==== Sys2Proof/Machine/State.lean ====
section
/-! DEFINITION. The state of the block as plain data, the reasons a step can stop, and the state after a cold reset. -/

namespace Sys2Proof.Machine

/-- What stops the block. The faults of the part itself are Harrow's (R370) and no stop: they are effects on State. -/
inductive Fault where
  /-- Raised by a register command whose offset lies outside the 256 KiB set-up window (R436); safe: the spec gives such an
  access no place. -/
  | outsideWindow (off : Nat)
  deriving DecidableEq, Repr

/-- Why a command has no meaning in the model. -/
inductive Refusal where
  /-- Raised by the dispatch arm of a command whose meaning is not written; safe. -/
  | notModelled (mnemonic : String)
  deriving DecidableEq, Repr

/-- What the block has sent out, as the receiving side sees it. -/
inductive Emit where
  /-- The word a register read returned on a path. -/
  | readData (p : Path) (off : Nat) (v : Word)
  /-- Bytes shifted out by the SPI target (R264). -/
  | spiData (bytes : List Byte)
  /-- A posted write into host memory (R300). -/
  | dmaWrite (addr : Nat) (bytes : List Byte)
  /-- An MSI-X message (R262). -/
  | msix (vector : Nat)
  /-- A CAN frame handed to a port's transmitter, with or without a switch of the bit rate. -/
  | canTx (n : Nat) (f : CanFrame) (brs : Bool)
  /-- An SMBus transaction of a pack link or a pass-through (R197, R295): bus, protocol, command code, data, at 400 kHz, with a packet
  error code. -/
  | smb (bus proto code : Nat) (data : List Byte) (fast pec : Bool)
  /-- A PD message sent: port, SOP', the header, and what follows it on the wire (the extended header first, where there is one). -/
  | pdTx (n : Nat) (sopP : Bool) (header : Nat) (data : List Byte)
  /-- PD signalling: port, 0 Hard Reset, 1 Cable Reset, 3 BIST Carrier Mode. -/
  | pdSignal (n kind : Nat)
  /-- A non-maskable interrupt to Headland and the Field cores (R388). -/
  | nmi
  deriving DecidableEq, Repr

/-- A completion in the holding queue (R310): its source (0–31 a ring pair, 32 + n a CAN port), its 32 bytes, whether it is
interrupt-worthy (R283), and whether it is an EVENT record. -/
structure HeldCpl where
  src : Nat
  bytes : List Byte
  worthy : Bool
  event : Bool
  deriving DecidableEq, Repr

/-- A fault reported within the present step, waiting for Harrow (log 12). -/
structure Raised where
  id : Nat
  inst : Nat
  record : List Byte
  deriving DecidableEq, Repr

/-- The states of a fault instance (R377). -/
inductive HrwState where
  | clear | active | quiet | locked | safe
  deriving DecidableEq, Repr

/-- A fault instance (R377, R378): its state, the effective class it took its state under, its reports since reset,
whether its cause persists, the tick of its last report, when its quiet period began and when it recovered (CLK_SYS
cycles), and its latest record. -/
structure HrwInst where
  st : HrwState := .clear
  cls : Nat := 0
  occur : Nat := 0
  cause : Bool := false
  tick : Nat := 0
  quietAt : Nat := 0
  recov : List Nat := []
  record : List Byte := []
  deriving DecidableEq, Repr

/-- A source of order entries, or a command ring: the entries fetched and not yet consumed (R274, R308), the FENCE that
holds it back (R101) with the acceptance count it waits for, the members of a CAN group received so far and the cycle of the last
one (R102), and the tick (R77) and the cycle (R288) in which each waiting entry arrived. -/
structure SrcRt where
  waiting : List (List Byte) := []
  ticks : List Nat := []
  ats : List Nat := []
  fence : Option (List Byte × Nat) := none
  group : List (List Byte) := []
  groupAt : Nat := 0
  deriving DecidableEq, Repr

/-- A ring pair beyond its registers: when the first of its pending completions was written (R284), and the entries
that its doorbells have shown and that are not fetched, oldest first: how many, and when they were seen (R274), in cycles; the SQ_HEAD
and CQ_TAIL that its device slot holds, and when that was written last (R278); when the command at its front came there (R288). -/
structure PairRt where
  pendAt : Nat := 0
  seen : List (Nat × Nat) := []
  slotSq : Nat := 0
  slotCq : Nat := 0
  slotAt : Option Nat := none
  headAt : Nat := 0
  deriving DecidableEq, Repr

/-- One flow of an order in one segment of the check (R91): from (or, for ABSORB, to) node `node`, `mw` there. -/
structure Flow where
  node : Nat
  mw : Nat
  deriving DecidableEq, Repr

/-- A slot of the Plan table: the order, its source and its place in the order of acceptance (R92), its held interval in µs (R63), the TRIM
values of its admission (R34), what it has drawn (nJ), when it became active (µs; 0 never), its peak tick-average power (mW), its
consecutive ticks outside the window (R96), its reservation or earmark per pack (mJ, R93), what it has drawn from each pack below 1 mJ (nJ,
R88), and E_REM of the target at activation (mJ, R194). -/
structure Slot where
  entry : List Byte
  src : Nat
  seq : Nat
  active : Bool := false
  tIn : Nat
  tOut : Nat
  entered : Bool := false
  exited : Bool := false
  nj : Nat := 0
  started : Nat := 0
  peak : Nat := 0
  bad : Nat := 0
  res : List Nat := [0, 0, 0, 0]
  fromNj : List Nat := [0, 0, 0, 0]
  eStart : Nat := 0
  trim : List Nat := []
  deriving DecidableEq, Repr

/-- A stage's share of a segment in the last successful check (R98): stage, reverse direction, through-power mW. -/
structure StageShare where
  stage : Nat
  rev : Bool
  mw : Nat
  deriving DecidableEq, Repr

/-- A segment of the last successful check: where it begins and ends (µs) and the stage shares in it. -/
structure SegAlloc where
  from_ : Nat
  until_ : Nat
  shares : List StageShare
  deriving DecidableEq, Repr

/-- A coordinate unit beyond its registers: its filtered inputs, the last valid Hall state, the armed homing, the edges in
the velocity window (cycle, upward), the highest and the lowest point since STALL_ACC cleared (R60), the stall time below 1 ms (µs); for
COORD_4 the last accepted crossing (cycle), the accepted half-cycles (cycles, newest first), the crossings in a row that
count for R49 and R50, and the crossing that follows a loss. The cycles of the last filtered change of ENC_n_A, B and Z and of the
last counted edge (R47); BOUND_VMAX, BOUND_VMIN and BOUND_STALL as they stay in force until the next tick after a write (R69). -/
structure CoordRt where
  a : Bool := false
  b : Bool := false
  hall : Nat := 0
  hallBad : Bool := false
  armed : Bool := false
  edges : List (Nat × Bool) := []
  farUp : Int := 0
  farDown : Int := 0
  stallUs : Nat := 0
  lastCross : Option Nat := none
  halves : List Nat := []
  tries : List Nat := []
  reacquired : Bool := false
  z : Bool := false
  changeA : Option Nat := none
  changeB : Option Nat := none
  changeZ : Option Nat := none
  lastEdge : Option Nat := none
  boundHeld : Option (Word × Word × Word) := none
  deriving DecidableEq, Repr

/-- A general timer beyond its registers (R71–R76): the active reload and compare, the value and the cycle from which the counter
runs down, and the tick whose match has fired (its first cycle plus 1). -/
structure GptRt where
  reload : Nat := 0xFFFFFFFF
  cmp : Nat := 0
  startVal : Nat := 0
  startAt : Nat := 0
  matchKey : Nat := 0
  deriving DecidableEq, Repr

/-- The levels of HB_n_PWM (R110). -/
inductive PwmLevel where
  | released
  | low
  | high
  deriving DecidableEq, Repr

/-- A channel holds a level until a cycle: its pulse was ended by the comparator (R123), or it is released (R118, R119). -/
structure ChanCut where
  hb : Nat
  until_ : Nat
  level : PwmLevel
  deriving DecidableEq, Repr

/-- A stage controller beyond its registers (R111–R131): the active coefficients (A B0–B3, A1–A3, B, C, D), the command history, the error
histories, the CMP and PER preloads, the direction Drill wants, what is left of the ramp of a reversal, the counts of R116, R120 and R124,
the switching period that the comparator limited last, the soft-start state; the compare of leg B, and the valley (cycle) at which the
preloaded compares take effect; the IMON voltages sampled last; the compares before the last copy and its cycle, which a phase keeps until
its own valley; the cycle of the last control period; the channels that hold a level. -/
structure StageRt where
  coef : List Int := []
  uHist : List Int := [0, 0, 0]
  eA : List Int := [0, 0, 0]
  eB : Int := 0
  eC : Int := 0
  eD : Int := 0
  cmpNext : List Nat := []
  perNext : Option Nat := none
  applyPend : Bool := false
  dirWant : Bool := false
  rank : Nat := 0
  weight : Nat := 1024
  iRef : Int := 0
  ramping : Bool := false
  resume : Nat := 0
  satCnt : Nat := 0
  cbcRun : Nat := 0
  cbcLast : Option Nat := none
  selHist : Nat := 0
  ssTarget : Nat := 0
  ssStart : Nat := 0
  ssAcc : Nat := 0
  ssDone : Bool := false
  zeroTicks : Nat := 0
  autoTurn : Bool := false
  identified : Bool := false
  vCtl : Nat := 0
  vSend : Nat := 0
  imon : List Nat := []
  iOut : Int := 0
  iIn : Int := 0
  cmpB : Nat := 0
  valleyAt : Nat := 0
  cmpWas : List Nat := []
  cmpAt : Nat := 0
  ctlAt : Nat := 0
  cuts : List ChanCut := []
  deriving DecidableEq, Repr

/-- A rail's reference (R127–R129): its target and the count of control periods in regulation; `ocp` the last load power
(mW). -/
structure RailRt where
  target : Nat := 0
  inReg : Nat := 0
  load : Nat := 0
  deriving DecidableEq, Repr

/-- A supply (inputs 0–2, then ports 3–5 in the Sink role, R142): whether it waits at the end of QUALIFY for the Safe-state to
lift, the tick-average current of its stages (mA), when its qualification timer started, when its switch began to close, and since
when its voltage has been below its loss threshold or above its over-voltage limit (cycles). -/
structure SupplyRt where
  ready : Bool := false
  iAvg : Int := 0
  qualAt : Nat := 0
  closeAt : Nat := 0
  below : Option Nat := none
  above : Option Nat := none
  deriving DecidableEq, Repr

/-- A path switch (R150–R152): when it tripped (cycles, newest first), whether it may not close before REV_HOLD has passed,
whether it tripped in the egress configuration and stays open until the Safe-state is cleared (R39), whether dispatch wants
it closed, whether it was opened otherwise than by dispatch (R31), when it began to close (cycles, R150), and whether a reverse trip has
opened it since it was last closed (R39). -/
structure PswRt where
  trips : List Nat := []
  hold : Bool := false
  egressTrip : Bool := false
  want : Bool := false
  forced : Bool := false
  closeAt : Nat := 0
  tripped : Bool := false
  deriving DecidableEq, Repr

/-- The hand-over and transfer state of a rail (R156–R161): the sources lost in the hand-over under way, the lowest voltage
seen in it, whether the re-validation of its step 6 has run, the power limit of a transfer back (mW) and its source. -/
structure XferRt where
  lost : List Nat := []
  low : Option Nat := none
  revalDone : Bool := false
  ramp : Nat := 0
  src : Nat := 0
  deriving DecidableEq, Repr

/-- The solar tracker (R149): the last mean power, the best point of the sweep, when the last sweep and the last step began, since when
the power has been low (cycles), and whether that has been reported. -/
structure MpptRt where
  pLast : Nat := 0
  bestP : Nat := 0
  bestV : Nat := 0
  sweepAt : Nat := 0
  stepAt : Nat := 0
  lowAt : Option Nat := none
  lowTold : Bool := false
  deriving DecidableEq, Repr

/-- A spread counter (R358, R359): working value, committed value, whether the last commit was a flush, the ring position of
the next group, and the commits since manufacture. -/
structure CntRt where
  work : Nat := 0
  committed : Nat := 0
  flushed : Bool := true
  pos : Nat := 0
  commits : Nat := 0
  deriving DecidableEq, Repr

/-- The status of a group of the data NVM (R345). -/
inductive GroupStatus where
  | unwritten | valid | corrected | torn
  deriving DecidableEq, Repr

/-- The data NVM (R344): its bytes (0xFF where nothing is listed), the statuses of its groups, the re-erase queue (R349), the
spread counters, and the check-bit inversion that is armed for a group of the direct-access area (R384). -/
structure NvmSt where
  bytes : Tab Byte := []
  groups : Tab GroupStatus := []
  reerase : List Nat := []
  counters : Tab CntRt := []
  deriving DecidableEq, Repr

/-- A black-box record before it is sealed (R362): kind, sub, time coordinate, body (40 bytes). -/
structure BbRec where
  kind : Nat
  sub : Nat
  time : Nat
  body : List Byte
  deriving DecidableEq, Repr

/-- The black box (R361–R366): the queue, Drill's breach log (oldest first), the slot after the newest record, how many
records it holds, the seal of the newest, records lost since the last RECORDS_LOST record, and the boot count. -/
structure BbSt where
  queue : List BbRec := []
  breach : List BbRec := []
  next : Nat := 0
  held : Nat := 0
  lastSeal : List Byte := []
  lost : Nat := 0
  boot : Nat := 0
  deriving DecidableEq, Repr

/-- A pack beyond its registers. Charge (spec/06): the committed profile image and the image a running check works on (R176, R177), the
consecutive seconds of the five exit conditions (R179: V_REACH, V_BELOW, I_TAPER, NDV, DTDT), the half-seconds of T_RUN and T_EFF (R185),
the seconds since phase entry (R182), the zone temperatures of the last 60 s, newest first (R183), whether the pause is for want of power,
V_COMP, the charger watchdog's start (cycles), and the 1 s means. Link (spec/07): the last CAN counter, the ID of the last identification,
failed transactions in a row, CAPACITY_MODE, DesignVoltage, the link's E_FULL and E_DESIGN, its limits (mA, mV, mA; none where it imposes
none), whether they have lapsed (R202), the alarms in force, whether the disconnection it reported stands over a loss (R202), when it was
last polled, and last for the values of the 10 s poll (µs), whether PACK_x_V has fallen below 2,500 mV (R198). Energy (R207): the remainder
in 1e-8 mJ, the ticks at or below V_MIN. Health (R208): E_REM of the last record, and when that was last compared (µs). Tilth (R211–R215):
amplitude failures of the present point, the zone temperature at point F_DER, the start of the sweep and of the present point (µs), D_IMP,
and whether it is known (R214); when Headland last judged its temperature against the envelope (cycles, R327). The NTC's out-of-range flag
(R170). V_SET and I_SET (mA) at the start of the present second (R179); when the link entered IDENT (µs); the status frame received last in
IDENT, whose values are used from UP on (R198). -/
structure PackRt where
  prof : List Byte := []
  checking : List Byte := []
  dwells : List Nat := [0, 0, 0, 0, 0]
  runHs : Nat := 0
  effHs : Nat := 0
  phaseSec : Nat := 0
  temps : List Int := []
  pauseWant : Bool := false
  vComp : Int := 0
  wdtAt : Nat := 0
  vMean : Nat := 0
  iMean : Int := 0
  cnt : Option Nat := none
  prevId : Option Nat := none
  fails : Nat := 0
  capMode : Bool := false
  designMv : Nat := 0
  linkFull : Option Nat := none
  linkDesign : Option Nat := none
  alarms : Nat := 0
  dsgOff : Bool := false
  dsgStands : Bool := false
  linkAt : Nat := 0
  pollAt : Nat := 0
  slowAt : Option Nat := none
  sagged : Bool := false
  linkI : Option Nat := none
  linkV : Option Nat := none
  linkD : Option Nat := none
  lapsed : Bool := false
  eFrac : Int := 0
  lowTicks : Nat := 0
  healthE : Nat := 0
  hourAt : Nat := 0
  hot : Bool := false
  ampFails : Nat := 0
  derT : Int := 0
  sweepAt : Nat := 0
  pointAt : Nat := 0
  dImp : Nat := 0
  impKnown : Bool := false
  envTempAt : Option Nat := none
  ntcBad : Bool := false
  ntcSince : Option Nat := none
  vPack : Nat := 0
  vRef : Nat := 0
  iRef : Nat := 0
  dRef : Nat := 0
  iPack : Int := 0
  forced : Bool := false
  secV : Nat := 0
  secI : Nat := 0
  identAt : Nat := 0
  lastStatus : List Byte := []
  deriving DecidableEq, Repr

/-- A CAN port beyond its registers: its transmit queue of completions (R102), oldest first, and when its last pass-through command
ended (R288). -/
structure CanRt where
  txq : List (List Byte) := []
  freeAt : Nat := 0
  deriving DecidableEq, Repr

/-- A Type-C port beyond its registers. Configuration: PORT_n_CFG as in force since the last unattached entry (R225), whether Headland has
written it (R226), the record that applies at the next unattached entry (R291). CC: the partner seen while dead-battery Rd stands (R226),
since when the CC pins show a partner that is not attached yet, whether the port presents Rp and since when (R225), pins at high
impedance (R227), Ra seen (R231), how a detach was confirmed (1 CC, 2 VBUS) that has not reached its end (R252), whether
tErrorRecovery has passed under a hold of Harrow. VBUS: the step of R228 that runs (0 none) and when its step 1 began, the reference of
the port node as Source (R127, R242) with the start and the ticks of its move (R247), control periods in regulation, the discharge output, and
since when VBUS has been at vSafe0V, below 3,670 mV, above its limit (R230), below 95 % of the contract outside current limit (R242), and
within 5 % of the new voltage (R247); since when the VCONN limit acts (R231). Protocol: a policy was in force at the attach (R233);
a message received since attach, Hard_Resets sent, sends of Source_Capabilities (R246); the SOP' revision; MessageIDs of the next
messages to send and of the last received, on SOP and SOP'; the last message sent that no answer has confirmed; the timers that run and when
they began (R245); when the last Request passed, the last message went out and the last came in (R243); BIST, 1 carrier, 2 test data;
modes in force as SVID and position (R253). Contract: capabilities received and sent; the last request and the object it names; whether a
first contract has been; the transition under way with its target and its Accept (R247); the message that waits for host policy and since
when, and the one answered late (R238); own message unanswered (R246, R251); a Hard Reset recovery, a contract still to come
(R160), a PR_Swap, a VCONN_Swap, a Fast Role Swap with its step and when it waits from; the budget, the limit and the loss threshold
of R241; Discover Identity sends and the last (R232); the current of BC 1.2 (R254); whether the next tick ends the orders on the port
(R252 step 5). Times in cycles. -/
structure PortRt where
  cfg : Word := 0#32
  configured : Bool := false
  recNext : List Byte := []
  seen : Option AttachObs := none
  ccAt : Option Nat := none
  presSrc : Bool := false
  toggleAt : Nat := 0
  ccHigh : Nat := 0
  ra : Bool := false
  detach : Nat := 0
  recDone : Bool := false
  srcStep : Nat := 0
  srcAt : Nat := 0
  refMv : Nat := 0
  refFrom : Nat := 0
  refTicks : Nat := 0
  inReg : Nat := 0
  dschg : Bool := false
  safeAt : Option Nat := none
  lowAt : Option Nat := none
  overAt : Option Nat := none
  sagAt : Option Nat := none
  setAt : Option Nat := none
  vconnAt : Option Nat := none
  policyReady : Bool := false
  everPd : Bool := false
  hardSent : Nat := 0
  capsSent : Nat := 0
  revP : Nat := 0
  mid : Nat := 0
  midP : Nat := 0
  rxMid : Option Nat := none
  rxMidP : Option Nat := none
  lastTx : Option Emit := none
  timers : List (PdTimer × Nat) := []
  reqAt : Nat := 0
  txAt : Nat := 0
  rxAt : Nat := 0
  bist : Nat := 0
  modes : List (Nat × Nat) := []
  capsRx : List Nat := []
  capsTx : List Nat := []
  reqRdo : Nat := 0
  reqMv : Nat := 0
  reqMa : Nat := 0
  pps : Bool := false
  hadContract : Bool := false
  moving : Bool := false
  newMv : Nat := 0
  newMa : Nat := 0
  moveAt : Nat := 0
  hostWait : Option Nat := none
  hostAt : Nat := 0
  lateTo : Option Nat := none
  ownMsg : Option Nat := none
  hardRecov : Bool := false
  needContract : Bool := false
  prSwap : Bool := false
  vconnSwap : Bool := false
  frs : Bool := false
  frsStep : Nat := 0
  frsAt : Nat := 0
  budget : Nat := 0
  limit : Nat := 0
  lossMv : Nat := 0
  discTries : Nat := 0
  discAt : Nat := 0
  bcMa : Nat := 0
  dropTick : Bool := false
  deriving DecidableEq, Repr

/-- A telemetry buffer that waits or is being filled (R315): its tag, address and length, whether its completion asks for an
interrupt, and the ring index of its POST. -/
structure GlnBuf where
  tag : Nat
  addr : Nat
  len : Nat
  irq : Bool
  idx : Nat
  deriving DecidableEq, Repr

/-- A Gleaner stream beyond its registers (spec/10): its buffers, oldest first; the bytes of whole records in the first of them,
the number and time of its first record with its cycle, and the time of its last; the loss still to be reported: how many, number and
time of the first, reasons; the pre-trigger store, oldest first; whether the next record is the trigger record; the records still to
follow it; the faulted buffers in a row; the events since the last recorded one, and the cycle of the last event counted, plus 1. -/
structure GlnRt where
  bufs : List GlnBuf := []
  curLen : Nat := 0
  firstSeq : Nat := 0
  firstTime : Nat := 0
  firstAt : Nat := 0
  lastTime : Nat := 0
  gapCount : Nat := 0
  gapSeq : Nat := 0
  gapTime : Nat := 0
  gapWhy : Nat := 0
  pre : List (List Byte) := []
  trigNext : Bool := false
  postLeft : Nat := 0
  faults : Nat := 0
  divCnt : Nat := 0
  evAt : Nat := 0
  deriving DecidableEq, Repr

/-- A component in a bank directory (R329): length, IMAGE_HASH, version, SVN, interface, PARAM_FORMAT, REQ_MIN, and the image
bytes. -/
structure FwComp where
  image : List Byte := []
  hash : List Byte := []
  version : Nat := 0
  svn : Nat := 0
  ifProv : Nat := 0
  format : Nat := 0
  reqMin : List Nat := [0, 0, 0, 0]
  deriving DecidableEq, Repr

/-- The states of a bank (R329). -/
inductive BankState where
  | empty | previous | pending | trial | active
  deriving DecidableEq, Repr

structure FwBank where
  st : BankState := .empty
  comps : List FwComp := []
  deriving DecidableEq, Repr

/-- Firmware, keys and the secure partition (spec/11, R346): the banks, the staged manifest and segments and the journal
(R335), the built sectors, the update state and trial boots that survive a reset, the SVN floors, the lifecycle, slot 4, the
committed envelope record, the generation of slot 5, whether slots 2 and 3 are erased, PSET (R356), the latched charge faults
(R187), the profile selections (R292), whether the trial has its own record set (R341), the SEQ of the first record under the
present seal key (R364), the envelope whose higher thresholds the comparators still use (R327), and TRIAL_BOOTS as it stood at
ACTIVATE. -/
structure FwSt where
  bank0 : FwBank := { st := .active }
  bank1 : FwBank := {}
  running1 : Bool := false
  manifest : List Byte := []
  staged : List (Nat × List Byte) := []
  state : Nat := 0
  sector : Nat := 0
  dirty : Bool := false
  boots : Nat := 0
  last : Nat := 0
  fail : Nat := 0
  trialUs : Nat := 0
  floors : List Nat := [0, 0, 0, 0]
  life : Nat := 1
  slot4 : List Byte := []
  envelope : List Byte := []
  sealGen : Nat := 0
  keyErased : Bool := false
  pset : Nat := 0
  latches : List Nat := [0, 0, 0, 0]
  profSel : List Nat := [0, 0, 0, 0]
  newFormat : Bool := false
  keySeq : Nat := 0
  envOld : List Byte := []
  bootMax : Nat := 2
  deriving DecidableEq, Repr

/-- What powers the block (R390–R396): on; in FALLOW; in SHIP; held in reset after the last gasp (R392). -/
inductive Power where
  | on | fallow | ship | hold
  deriving DecidableEq, Repr

/-- The rest of the block (spec/13, spec/14): its power, whether the start-up sequence is still to run and its beginning (µs), whether Field
firmware runs (R330), the long-press interval, and whether a long press has acted since PB_MAIN was last pressed anew (R219), the last
accepted watchdog service (cycles), the grace period of R388, the reset cause that follows it, CLK_REF absence, the envelope thresholds
still to move (R327), records lost at a reset (R440), the die temperature faults in force, the memory, address and depth of an armed
inversion (R384), the remainder of CLK_AON time (1/512 µs, R52), the stable patterns on the VSEL pins (R134, R137), ERR of the SPI status
byte (R267), when a poll fault was last logged (cycle, R306), when the grace period, the release of R380, the long press and the lowering of
the envelope began (cycles); and of Gleaner the present 10 ms interval, its bytes written and offered, and the bytes written in the interval
before; the input record that applies at the next tick (R291); the start of the last poll (R277); the subsystem IDs of configuration space
(R256); the tick's snapshot of the model values (R29, R313), by the IDs of KIND 3; whether no bank has booted (R330); when the debug port
began to open (cycles, R342); the last accepted service of the watchdog (R386); when CLK_REF was lost (R407), and PB_MAIN last pressed
(R423); and the wake sources that have acted since IDLE was entered (R395). -/
structure SysSt where
  power : Power := .on
  starting : Bool := true
  startUs : Nat := 0
  field : Bool := false
  longPress : Bool := false
  pbHeld : Bool := false
  wdtAt : Nat := 0
  grace : Bool := false
  refLost : Bool := false
  envMove : Bool := false
  bbCarry : Nat := 0
  dieHot : Nat := 0
  injMem : Nat := 0
  injAddr : Nat := 0
  injBits : Nat := 1
  aonFrac : Nat := 0
  vselPins : List Nat := [0, 0]
  spiErr : Bool := false
  pollAt : Option Nat := none
  graceAt : Nat := 0
  releaseAt : Nat := 0
  longAt : Nat := 0
  envAt : Nat := 0
  glnIv : Nat := 0
  glnDone : Nat := 0
  glnOffered : Nat := 0
  glnPrev : Nat := 0
  inputNext : List Byte := []
  pollStart : Option Nat := none
  subsys : Word := 0x08401C5F#32
  snap : List Nat := []
  bootBad : Bool := false
  dbgAt : Nat := 0
  wdtServed : Option Nat := none
  refAt : Nat := 0
  pbAt : Option Nat := none
  wakes : List IdleSrc := []
  deriving DecidableEq, Repr

/-- What the present CLK_SYS cycle has done to registers with W1C and RC fields (R10): the cycle, their words as it began, and
the flags, counts and codes that hardware has added in it; and the events of the cycle by which Gleaner samples and triggers (R312, R320):
(0, stage) a control period, (1, 0) a tick, (2, 4 × unit + k) a compare, (3, m) a timer's match, (4, m) its wrap, (6, g) HB_FLT, (8, 0) a
report of Trip class or higher; and the writes of the cycle, (20 + the place of their path in the order of R437, the offset). -/
structure CycleRt where
  at_ : Nat := 0
  old : List (Nat × Word) := []
  new : Tab Word := []
  events : List (Nat × Nat) := []
  deriving DecidableEq, Repr

/-- The state of the block. -/
structure State where
  /-- CLK_SYS cycles (5 ns) since the cold reset; COORD_5 and COORD_TIME_US read from it (R51, R53; log 7). -/
  cyc : Nat
  /-- How many free values have been used (log 1); the model's own. -/
  free : Nat
  /-- The set-up registers (16_register_index), over their reset values. -/
  regs : Tab Word
  /-- The same-cycle rules of R10. -/
  cycle : CycleRt
  /-- The read latches of `_HI` words, per path (R12–R14). -/
  hiLatch : Tab Word
  /-- The staged `_LO` words, per path (R15). -/
  loStage : Tab Word
  /-- The local ring window (R269). -/
  localWin : List Host.Cell
  /-- The MSI-X table (33 vectors of 4 dwords, R262) and its pending bits. -/
  msixTable : Tab Word
  msixPend : Tab Word
  /-- Interrupt Disable of the Command register (R263). -/
  intDis : Bool
  /-- What the block has sent out, oldest first (log 8); the model's own. -/
  outbox : List Emit
  /-- Order sources and command rings: 0–31 the ring pairs, 32 and 33 the CAN ports. -/
  srcs : Tab SrcRt
  /-- The completion holding queue, oldest first (R310). -/
  cplq : List HeldCpl
  pairs : Tab PairRt
  /-- EVENT records lost since the last LOST record, and whether the present run of losses has been reported (R298). -/
  evLost : Nat
  evLosing : Bool
  /-- The pair served last by the fetch (R274). -/
  rrLast : Nat
  /-- The Plan table (R83) and its acceptance count. -/
  plan : Tab Slot
  planSeq : Nat
  /-- The segments of the last successful check (R98). -/
  alloc : List SegAlloc
  /-- Claims of orders that have ended in the present tick, per pack: reservations and earmarks; released at the next (R88). -/
  releasedA : List Nat
  releasedB : List Nat
  /-- Drill's tick count, the TRIM values of the tick's snapshot (R29, R34), the causes of the re-validation in
  progress (R94, R95), its time (µs) and the model values at the last one: E_AVAIL, PMAX, headroom. -/
  tick : Nat
  trim : List Nat
  revalCause : List Nat
  revalAt : Nat
  revalE : List Nat
  revalP : List Nat
  revalH : List Nat
  /-- Reservations and earmarks per pack at the present tick are registers; the fabric description in force (R17) is a copy
  of the fabric registers; `fabCheck` the copy a running check works on (R28). -/
  fab : Option (Tab Word)
  fabCheck : Option (Tab Word)
  /-- Fault instances (key 16 × ID + instance) and the faults raised in the present step (log 12). -/
  hrw : Tab HrwInst
  raised : List Raised
  /-- Whether the Safe-state action is in force (R37), and whether the release interval of R380 runs. -/
  safeOn : Bool
  releasing : Bool
  coords : Tab CoordRt
  gpts : Tab GptRt
  stages : Tab StageRt
  rails : Tab RailRt
  /-- Loop table memory: the sets of the image, 64 bytes each (R138). -/
  loopSets : List (List Byte)
  supplies : Tab SupplyRt
  xfers : Tab XferRt
  psws : Tab PswRt
  mppt : MpptRt
  packs : Tab PackRt
  cans : Tab CanRt
  ports : Tab PortRt
  glns : Tab GlnRt
  nvm : NvmSt
  bb : BbSt
  fw : FwSt
  sys : SysSt
  /-- The commands that are waiting, first in, first out. -/
  pending : List Instr
  deriving DecidableEq, Repr

/-- What a byte of the local ring window reads as where nothing is listed: zero (R269). -/
def winDefault (_ : Nat) : Byte := 0#8

/-- What a byte of the data NVM reads as where nothing is listed: 0xFF (R345). -/
def nvmDefault (_ : Nat) : Byte := 0xFF#8

/-- The latches and staging registers read the reset value of their register where nothing is listed (R13, R15). -/
def latchDefault (k : Nat) : Word := resetWord (k % 2 ^ 18)

/-- The MSI-X table after a host link reset: every vector masked (log 9). -/
def msixDefault (k : Nat) : Word := if k % 4 = 3 then 1#32 else 0#32

/-- The block right after a cold reset: step 2 of R401 reached and nothing of the start-up run yet. -/
def State.reset : State where
  cyc := 0
  free := 0
  regs := []
  cycle := {}
  hiLatch := []
  loStage := []
  localWin := []
  msixTable := []
  msixPend := []
  intDis := false
  outbox := []
  srcs := []
  cplq := []
  pairs := []
  evLost := 0
  evLosing := false
  rrLast := 31
  plan := []
  planSeq := 0
  alloc := []
  releasedA := [0, 0, 0, 0]
  releasedB := [0, 0, 0, 0]
  tick := 0
  trim := [1024, 1024, 1024, 1024, 1024, 1024, 1024, 1024]
  revalCause := []
  revalAt := 0
  revalE := [0, 0, 0, 0]
  revalP := [0, 0, 0, 0]
  revalH := [0, 0, 0, 0, 0, 0, 0, 0]
  fab := none
  fabCheck := none
  hrw := []
  raised := []
  safeOn := false
  releasing := false
  coords := []
  gpts := []
  stages := []
  rails := []
  loopSets := []
  supplies := []
  xfers := []
  psws := []
  mppt := {}
  packs := []
  cans := []
  ports := []
  glns := []
  nvm := {}
  bb := {}
  fw := {}
  sys := {}
  pending := []

end Sys2Proof.Machine
end

