-- ==== Sys2Proof/Machine/Ops.lean ====
section
/-! DEFINITION. The named operations over State: registers and their fields, wide values, time, the local ring window, the
data NVM's bytes, per-unit records, free values, the outbox, and the reporting of faults and black-box records. -/

namespace Sys2Proof.Machine

/-- The number of an access path, as the instance of fault 0xB0 (R371). -/
def pathNo : Path → Nat
  | .pcie => 0
  | .spi => 1
  | .field => 2
  | .headland => 3

/-- Read a register. -/
def State.rd (s : State) (off : Nat) : Word := tabGet resetWord s.regs off

/-- Set a register to a word. -/
def State.wr (s : State) (off : Nat) (v : Word) : State := { s with regs := tabSet resetWord s.regs off v }

/-- A field of a register, unsigned. -/
def State.f (s : State) (off : Nat) (fld : Fld) : Nat := getBits (s.rd off) fld.lo fld.w

/-- Set a field of a register; the other bits stay. -/
def State.setF (s : State) (off : Nat) (fld : Fld) (v : Nat) : State :=
  s.wr off (putBits (s.rd off) fld.lo fld.w v)

/-- Whether a one-bit field reads 1. -/
def State.flag (s : State) (off : Nat) (fld : Fld) : Bool := s.f off fld != 0

/-- The whole register as a natural number. -/
def State.rdN (s : State) (off : Nat) : Nat := (s.rd off).toNat

/-- Set a whole register from a natural number (its low 32 bits). -/
def State.wrN (s : State) (off v : Nat) : State := s.wr off (BitVec.ofNat 32 v)

/-- A value split over a `_LO` and a `_HI` register (Scope and Conventions, values wider than 32 bits). -/
def State.rd64 (s : State) (lo hi : Nat) : Nat := s.rdN lo + 2 ^ 32 * s.rdN hi

def State.wr64 (s : State) (lo hi v : Nat) : State := (s.wrN lo v).wrN hi (v / 2 ^ 32)

/-! The same-cycle rules of W1C and RC fields (R10). -/

/-- What the present cycle has done so far; nothing, where the record is of an earlier cycle. -/
def State.cycleRt (s : State) : CycleRt := if s.cycle.at_ = s.cyc then s.cycle else { at_ := s.cyc }

/-- The bits that hardware has added to a register in the present cycle. -/
def State.cycleNew (s : State) (off : Nat) : Word := tabGet (fun _ => 0#32) s.cycleRt.new off

/-- The word of a register as the present cycle began. -/
def State.cycleOld (s : State) (off : Nat) : Word := (tabFind s.cycleRt.old off).getD (s.rd off)

/-- Note the word of a register as the present cycle began, before its first change in it. -/
def State.noteOld (s : State) (off : Nat) : State :=
  let c := s.cycleRt
  { s with cycle := if (tabFind c.old off).isSome then c else { c with old := (off, s.rd off) :: c.old } }

/-- Note bits of a register as added in the present cycle. -/
def State.noteNew (s : State) (off : Nat) (fld : Fld) (v : Nat) : State :=
  let s := s.noteOld off
  let c := s.cycle
  { s with cycle := { c with new := tabSet (fun _ => 0#32) c.new off (putBits (s.cycleNew off) fld.lo fld.w v) } }

/-- Note an event of the present cycle (R312, R320). -/
def State.noteEvent (s : State) (src sel : Nat) : State :=
  let c := s.cycleRt
  { s with cycle := { c with events := (src, sel) :: c.events } }

/-- Whether an event has happened in the present cycle. -/
def State.eventNow (s : State) (src sel : Nat) : Bool := s.cycleRt.events.contains (src, sel)

/-- Hardware sets a W1C flag, or reports a code in an RC field. -/
def State.hwSet (s : State) (off : Nat) (fld : Fld) (v : Nat) : State := (s.noteNew off fld v).setF off fld v

/-- A count that is no RC field saturates at its largest value. -/
def State.addF (s : State) (off : Nat) (fld : Fld) (k : Nat) : State := s.setF off fld (sat fld.w (s.f off fld + k))

/-- Hardware counts in an RC field, which saturates at its largest value. -/
def State.bump (s : State) (off : Nat) (fld : Fld) (k : Nat) : State :=
  (s.noteNew off fld (sat fld.w (getBits (s.cycleNew off) fld.lo fld.w + k))).setF off fld (sat fld.w (s.f off fld + k))

/-- Microseconds since the cold reset: COORD_TIME_US (R53). -/
def State.us (s : State) : Nat := s.cyc / 200

/-- The turns:count coordinate of a time in µs, as 48 bits (R51): milliseconds modulo 2^32, and microseconds in it. -/
def timeCoord (us : Nat) : Nat := us / 1000 % 2 ^ 32 * 65536 + us % 1000

/-- The present time coordinate. -/
def State.now48 (s : State) : Nat := timeCoord s.us

/-- Take a free value of `w` bits (log 1). -/
def State.takeFree (s : State) (w : Nat) : Nat × State :=
  ((Config.freeValue s.free).toNat % 2 ^ w, { s with free := s.free + 1 })

/-- A quotient whose rounding the spec leaves open: exact where the division is, else one of its two neighbours; without a
divisor, any 32-bit value (log 1). -/
def State.quot (s : State) (a : Int) (d : Nat) : Int × State :=
  if d = 0 then
    let v := s.takeFree 32
    (toSigned 32 v.1, v.2)
  else if a % (d : Int) = 0 then (a / (d : Int), s)
  else
    let v := s.takeFree 1
    (a / (d : Int) + v.1, v.2)

/-- PB_MAIN is pressed anew (R219). -/
def State.pbPressed (s : State) : State := { s with sys := { s.sys with pbHeld := false, pbAt := some s.cyc } }

/-- A wake source acts while the block is in IDLE (R395). -/
def State.noteIdle (s : State) (src : IdleSrc) : State :=
  if s.f R.GLB_STATUS F.GLB_STATUS_PSTATE = 2 then { s with sys := { s.sys with wakes := src :: s.sys.wakes } } else s

/-- Send something out. -/
def State.emit (s : State) (e : Emit) : State := { s with outbox := s.outbox ++ [e] }

def State.emits (s : State) (es : List Emit) : State := { s with outbox := s.outbox ++ es }

/-- Report a fault to Harrow; it takes its effect when the present step settles (log 12). -/
def State.raise (s : State) (id inst : Nat) (record : List Byte) : State :=
  { s with raised := s.raised ++ [⟨id, inst % 16, padTo 16 record⟩] }

/-- The record of R376: the observed value in bytes 0–3, the limit in bytes 4–7. -/
def faultRec (observed limit : Nat) : List Byte := leBytes 4 observed ++ leBytes 4 limit ++ List.replicate 8 0#8

/-! Registers that Headland loads from records (R291, R401; the layout is log 26). -/

/-- The bits of a register whose fields have one of some access types. -/
def accMask (off : Nat) (accs : List Acc) : Word :=
  (specOf off).foldl (fun m f => if accs.contains f.acc then m ||| (maskLow f.w <<< f.lo) else m) 0#32

/-- The order in which the writes of one cycle are applied (R437). -/
def pathRank : Path → Nat
  | .headland => 0
  | .field => 1
  | .pcie => 2
  | .spi => 3

/-- A path that comes later in that order has written the register in the present cycle. -/
def State.laterWrote (s : State) (p : Path) (off : Nat) : Bool :=
  (List.range 4).any (fun r => decide (pathRank p < r) && s.eventNow (20 + r) off)

/-- A write of a register among those of its cycle (R437): where a path that comes later has written it, the RW fields keep the values `cur`;
flags, actions and HW fields take their own effect. -/
def State.inOrder (s : State) (p : Path) (off : Nat) (cur v : Word) (g : Word → State → State) : State :=
  let m := accMask off [.rw]
  g (if s.laterWrote p off then (v &&& ~~~m) ||| (cur &&& m) else v) (s.noteEvent (20 + pathRank p) off)

/-- A write of a whole split value among those of its cycle. -/
def State.wideInOrder (s : State) (p : Path) (hi : Nat) (g : State → State) : State :=
  let t := s.noteEvent (20 + pathRank p) hi
  if s.laterWrote p hi then t else g t

/-- Headland sets the bits of a register that a record may set: those of its RW and HW fields. -/
def State.loadReg (s : State) (off : Nat) (v : Word) : State :=
  let m := accMask off [.rw, .hw]
  s.wr off ((s.rd off &&& ~~~m) ||| (v &&& m))

/-- Load a record's words into registers, as far as its data reach. -/
def State.loadRegs (s : State) (data : List Byte) : List Nat → Nat → State
  | [], _ => s
  | r :: t, k =>
    if 4 * k + 4 ≤ data.length then (s.loadReg r (BitVec.ofNat 32 (leAt data (4 * k) 4))).loadRegs data t (k + 1) else s

/-- The registers of a port record, in its order. -/
def portRegs (n : Nat) : List Nat :=
  [R.PORT_CFG n, R.PORT_SNK_CFG n, R.PORT_SRC_CFG n] ++ (List.range 7).map (R.PORT_SRC_PDO n)
    ++ (List.range 7).map (R.PORT_SNK_PDO n)

/-! The local ring window (R269). -/

def State.winGet (s : State) (a : Nat) : Byte := tabGet winDefault s.localWin a

/-- One byte is written; a check-bit inversion armed for its word is stored with it (R384). -/
def State.winSet (s : State) (a : Nat) (b : Byte) : State :=
  let s := { s with localWin := tabSet winDefault s.localWin a b }
  if s.flag R.HRW_INJECT F.HRW_INJECT_ARMED && s.sys.injMem == 3 && s.sys.injAddr / 4 == a / 4 then
    (s.setF R.HRW_INJECT F.HRW_INJECT_ARMED 0).hwSet R.HRW_INJECT F.HRW_INJECT_FIRED 1
  else s

/-- `n` bytes of the local ring window from offset `a`. -/
def State.winRead (s : State) (a : Nat) : Nat → List Byte
  | 0 => []
  | n + 1 => s.winGet a :: s.winRead (a + 1) n

/-- Write bytes into the local ring window from offset `a` on; bytes past its 512 KiB are ignored. -/
def State.winWrite (s : State) (a : Nat) : List Byte → State
  | [] => s
  | b :: t => State.winWrite (if a < 0x80000 then s.winSet a b else s) (a + 1) t

/-! The data NVM's bytes and group statuses (R344, R345). -/

def State.nvmByte (s : State) (a : Nat) : Byte := tabGet nvmDefault s.nvm.bytes a

def State.nvmGroup (s : State) (g : Nat) : GroupStatus := tabGet (fun _ => .unwritten) s.nvm.groups g

def State.setNvmByte (s : State) (a : Nat) (b : Byte) : State :=
  { s with nvm := { s.nvm with bytes := tabSet nvmDefault s.nvm.bytes a b } }

def State.setNvmGroup (s : State) (g : Nat) (st : GroupStatus) : State :=
  { s with nvm := { s.nvm with groups := tabSet (fun _ => .unwritten) s.nvm.groups g st } }

/-! Per-unit records. -/

def State.srcRt (s : State) (k : Nat) : SrcRt := tabGet (fun _ => {}) s.srcs k
def State.setSrc (s : State) (k : Nat) (r : SrcRt) : State := { s with srcs := tabSet (fun _ => {}) s.srcs k r }
def State.pair (s : State) (p : Nat) : PairRt := tabGet (fun _ => {}) s.pairs p
def State.setPair (s : State) (p : Nat) (r : PairRt) : State := { s with pairs := tabSet (fun _ => {}) s.pairs p r }
def State.coord (s : State) (n : Nat) : CoordRt := tabGet (fun _ => {}) s.coords n
def State.setCoord (s : State) (n : Nat) (r : CoordRt) : State := { s with coords := tabSet (fun _ => {}) s.coords n r }
def State.gpt (s : State) (m : Nat) : GptRt := tabGet (fun _ => {}) s.gpts m
def State.setGpt (s : State) (m : Nat) (r : GptRt) : State := { s with gpts := tabSet (fun _ => {}) s.gpts m r }
def State.stage (s : State) (n : Nat) : StageRt := tabGet (fun _ => {}) s.stages n
def State.setStage (s : State) (n : Nat) (r : StageRt) : State := { s with stages := tabSet (fun _ => {}) s.stages n r }
def State.rail (s : State) (n : Nat) : RailRt := tabGet (fun _ => {}) s.rails n
def State.setRail (s : State) (n : Nat) (r : RailRt) : State := { s with rails := tabSet (fun _ => {}) s.rails n r }
def State.supply (s : State) (n : Nat) : SupplyRt := tabGet (fun _ => {}) s.supplies n
def State.setSupply (s : State) (n : Nat) (r : SupplyRt) : State :=
  { s with supplies := tabSet (fun _ => {}) s.supplies n r }
def State.xfer (s : State) (n : Nat) : XferRt := tabGet (fun _ => {}) s.xfers n
def State.setXfer (s : State) (n : Nat) (r : XferRt) : State := { s with xfers := tabSet (fun _ => {}) s.xfers n r }
def State.psw (s : State) (n : Nat) : PswRt := tabGet (fun _ => {}) s.psws n
def State.setPsw (s : State) (n : Nat) (r : PswRt) : State := { s with psws := tabSet (fun _ => {}) s.psws n r }
def State.pack (s : State) (i : Nat) : PackRt := tabGet (fun _ => {}) s.packs i
def State.setPack (s : State) (i : Nat) (r : PackRt) : State := { s with packs := tabSet (fun _ => {}) s.packs i r }
def State.can (s : State) (n : Nat) : CanRt := tabGet (fun _ => {}) s.cans n
def State.setCan (s : State) (n : Nat) (r : CanRt) : State := { s with cans := tabSet (fun _ => {}) s.cans n r }
def State.port (s : State) (n : Nat) : PortRt := tabGet (fun _ => {}) s.ports n
def State.setPort (s : State) (n : Nat) (r : PortRt) : State := { s with ports := tabSet (fun _ => {}) s.ports n r }
def State.gln (s : State) (n : Nat) : GlnRt := tabGet (fun _ => {}) s.glns n
def State.setGln (s : State) (n : Nat) (r : GlnRt) : State := { s with glns := tabSet (fun _ => {}) s.glns n r }
def State.hrwInst (s : State) (id inst : Nat) : HrwInst := tabGet (fun _ => {}) s.hrw (16 * id + inst)
def State.setHrw (s : State) (id inst : Nat) (r : HrwInst) : State :=
  { s with hrw := tabSet (fun _ => {}) s.hrw (16 * id + inst) r }
def State.counter (s : State) (k : Nat) : CntRt := tabGet (fun _ => {}) s.nvm.counters k
def State.setCounter (s : State) (k : Nat) (r : CntRt) : State :=
  { s with nvm := { s.nvm with counters := tabSet (fun _ => {}) s.nvm.counters k r } }

/-- Do something for each index of a list, in its order. -/
def State.each (s : State) (ks : List Nat) (g : Nat → State → State) : State := ks.foldl (fun s k => g k s) s

/-- Whether some instance of a fault is SAFE (R380). -/
def State.anySafe (s : State) : Bool := s.hrw.any (fun p => p.2.st == .safe)

/-- Queue a black-box record (R365); a record that finds the queue full is lost, counted and reported. -/
def State.bbQueue (s : State) (kind sub : Nat) (body : List Byte) : State :=
  if s.bb.queue.length < 64 then
    { s with bb := { s.bb with queue := s.bb.queue ++ [⟨kind, sub, s.now48, padTo 40 body⟩] } }
  else
    (({ s with bb := { s.bb with lost := s.bb.lost + 1 } }).bump R.BB_STATUS F.BB_STATUS_LOST 1).raise 0xA6 0 []

/-- Put a BREACH record into Drill's breach log (R365). -/
def State.bbBreach (s : State) (domain : Nat) (body : List Byte) : State :=
  { s with bb := { s.bb with breach := s.bb.breach ++ [⟨2, domain, s.now48, padTo 40 body⟩] } }

/-- The 40-bit working value of a counter shows in its registers (R359). -/
def State.showCounter (s : State) (k : Nat) : State :=
  let w := (s.counter k).work
  (s.wrN (R.NVM_CNT_LO k) w).setF (R.NVM_CNT_HI k) F.NVM_CNT_HI_VALUE (w / 2 ^ 32)

/-- Mark a group as programmed with 8 bytes (R344); the flag comes last. -/
def State.programGroup (s : State) (g : Nat) (bytes : List Byte) : State :=
  ((List.range 8).foldl (fun s j => s.setNvmByte (8 * g + j) (bytes.getD j 0#8)) s).setNvmGroup g .valid

/-- A group reads UNWRITTEN. -/
def State.clearGroup (s : State) (g : Nat) : State :=
  ((List.range 8).foldl (fun s b => s.setNvmByte (8 * g + b) 0xFF#8) s).setNvmGroup g .unwritten

/-- The pages queued for re-erase show in NVM_STATUS (R349). -/
def State.showReerase (s : State) : State :=
  s.setF R.NVM_STATUS F.NVM_STATUS_REERASE (sat 8 s.nvm.reerase.length)

/-- A page enters the queue of R349, once. -/
def State.queuePage (s : State) (p : Nat) : State :=
  if s.nvm.reerase.contains p then s
  else ({ s with nvm := { s.nvm with reerase := s.nvm.reerase ++ [p] } }).showReerase

/-- A page that has been erased waits no longer. -/
def State.unqueuePage (s : State) (p : Nat) : State :=
  if s.nvm.reerase.contains p then ({ s with nvm := { s.nvm with reerase := s.nvm.reerase.filter (· != p) } }).showReerase else s

/-- Erase a page: its 16 groups read UNWRITTEN (R347), and it leaves the queue of R349. -/
def State.erasePage (s : State) (p : Nat) : State :=
  ((List.range 16).foldl (fun s j => s.clearGroup (16 * p + j)) s).unqueuePage p

/-- A counter passes its rating (R359): its increments, or its commits at 64 increments each, exceed 5 × 10^8 (log 63). -/
def State.wearCounter (s : State) (k : Nat) : State :=
  let c := s.counter k
  if (500000000 < c.work ∨ 500000000 < 64 * c.commits) ∧ ¬ s.flag (R.NVM_CNT_HI k) F.NVM_CNT_HI_WORN then
    (s.setF (R.NVM_CNT_HI k) F.NVM_CNT_HI_WORN 1).raise 0xA9 k (leBytes 4 k)
  else s

/-- Commit a counter (R358): the next group of its ring takes the working value; the next page of the ring is erased when
the first group of a page is programmed. -/
def State.commitCounter (s : State) (k : Nat) (flush : Bool) : State :=
  let c := s.counter k
  let page := 128 + 8 * k + c.pos / 16 % 8
  let s := s.programGroup (16 * page + c.pos % 16) (leBytes 5 c.work ++ [BitVec.ofNat 8 k, 0#8, 0#8])
  let s := if c.pos % 16 = 0 then s.erasePage (128 + 8 * k + (c.pos / 16 + 1) % 8) else s
  (s.setCounter k { c with committed := c.work, flushed := flush, pos := (c.pos + 1) % 128, commits := c.commits + 1 }).wearCounter k

/-- Increment a spread counter (R359): the working value saturates at 2^40 − 1 and is committed 64 above the committed
value; past its rating the counter is WORN. -/
def State.incCounter (s : State) (k : Nat) : State :=
  let c := s.counter k
  let s := s.setCounter k { c with work := sat 40 (c.work + 1) }
  let s := if sat 40 (c.work + 1) ≥ c.committed + 64 then s.commitCounter k false else s
  (s.wearCounter k).showCounter k

end Sys2Proof.Machine
end

