-- ==== Sys2Proof/Machine/Completions.lean ====
section
/-! DEFINITION. Interrupts, EVENT records, ring pair states, translation, the DMA fault log and the completion holding queue
(spec/09_host_rings.md R262, R263, R268, R272, R281–R285, R296–R298; spec/10 R300–R311). -/

namespace Sys2Proof.Machine

/-- Ring pair states as RING_p_STATUS.STATE codes them (R272). -/
def ringDisabled : Nat := 0
def ringActive : Nat := 1
def ringStalled : Nat := 2
def ringDraining : Nat := 3

def State.pairState (s : State) (p : Nat) : Nat := s.f (R.RING_STATUS p) F.RING_STATUS_STATE
def State.pairType (s : State) (p : Nat) : Nat := s.f (R.RING_CFG p) F.RING_CFG_TYPE
def State.pairLocal (s : State) (p : Nat) : Bool := s.flag (R.RING_CFG p) F.RING_CFG_LOCAL
def State.sqSize (s : State) (p : Nat) : Nat := 2 ^ s.f (R.RING_CFG p) F.RING_CFG_SQ_LOG2
def State.cqSize (s : State) (p : Nat) : Nat := 2 ^ s.f (R.RING_CFG p) F.RING_CFG_CQ_LOG2
def State.sqBase (s : State) (p : Nat) : Nat := s.rd64 (R.RING_SQ_BASE_LO p) (R.RING_SQ_BASE_HI p)
def State.cqBase (s : State) (p : Nat) : Nat := s.rd64 (R.RING_CQ_BASE_LO p) (R.RING_CQ_BASE_HI p)

/-- Whether the function may issue DMA (R261). -/
def State.dmaAllowed (s : State) : Bool :=
  s.flag R.HOST_LINK_STATUS F.HOST_LINK_STATUS_BME && !s.flag R.HOST_LINK_STATUS F.HOST_LINK_STATUS_D3

/-! Vectors (R262, R284). -/

def State.msixWord (s : State) (k : Nat) : Word := tabGet msixDefault s.msixTable k
def State.pbaWord (s : State) (k : Nat) : Word := tabGet (fun _ => 0#32) s.msixPend k

/-- A vector fires: its message leaves while MSI-X is enabled, or its pending bit is set while its table entry is masked. -/
def State.fireVec (s : State) (v : Nat) : State :=
  if s.flag R.HOST_LINK_STATUS F.HOST_LINK_STATUS_MSIX then
    if (s.msixWord (4 * v + 3)) &&& 1#32 = 1#32 then
      { s with msixPend := tabSet (fun _ => 0#32) s.msixPend (v / 32) (s.pbaWord (v / 32) ||| (1#32 <<< (v % 32))) }
    else s.emit (.msix v)
  else s

/-- Set a cause of HOST_GLB_STATUS (bit k); vector 32 fires when the bit rises with its enables set (R262). -/
def State.setGlb (s : State) (k : Nat) : State :=
  let old := getBits (s.rd R.HOST_GLB_STATUS) k 1
  let s := s.hwSet R.HOST_GLB_STATUS ⟨k, 1⟩ 1
  if old = 0 && bitsOf (s.f R.HOST_GLB_EN F.HOST_GLB_EN_CAUSE) k 1 == 1
      && s.flag R.HOST_GLB_EN F.HOST_GLB_EN_PCIE_EN then s.fireVec 32 else s

/-- Whether a global cause is set with its enable (R263, R268). -/
def State.glbCause (s : State) : Bool :=
  (s.rdN R.HOST_GLB_STATUS % 8) &&& s.f R.HOST_GLB_EN F.HOST_GLB_EN_CAUSE != 0

/-- IRQ_N is driven low (R268); high while a reset is asserted (R400). -/
def State.pinIrqLow (s : State) : Bool :=
  s.sys.power != .hold &&
    (((s.rd R.HOST_IRQ_STATUS &&& s.rd R.HOST_SPI_IRQ_EN) != 0#32)
      || (s.glbCause && s.flag R.HOST_GLB_EN F.HOST_GLB_EN_SPI_EN))

/-- INTA is asserted (R263). -/
def State.pinInta (s : State) : Bool :=
  !s.flag R.HOST_LINK_STATUS F.HOST_LINK_STATUS_MSIX && !s.intDis &&
    (((s.rd R.HOST_IRQ_STATUS &&& s.rd R.HOST_INTX_EN) != 0#32)
      || (s.glbCause && s.flag R.HOST_GLB_EN F.HOST_GLB_EN_PCIE_EN))

/-- The vector of a pair fires and its status bit is set (R284); PENDING returns to zero. -/
def State.firePair (s : State) (p : Nat) : State :=
  ((s.setF (R.RING_CNT p) F.RING_CNT_PENDING 0).hwSet R.HOST_IRQ_STATUS ⟨p, 1⟩ 1).fireVec p

/-- Count an interrupt-worthy completion, and fire when the count is reached (R284). -/
def State.countPending (s : State) (p : Nat) : State :=
  let s := if s.f (R.RING_CNT p) F.RING_CNT_PENDING = 0 then s.setPair p { s.pair p with pendAt := s.cyc } else s
  let s := s.addF (R.RING_CNT p) F.RING_CNT_PENDING 1
  if !s.flag (R.RING_IMOD p) F.RING_IMOD_MASK
      && s.f (R.RING_CNT p) F.RING_CNT_PENDING ≥ max 1 (s.f (R.RING_IMOD p) F.RING_IMOD_MOD_COUNT) then s.firePair p
  else s

/-! The completion holding queue (R310, R311). -/

/-- Entries of a source in the queue. -/
def State.heldOf (s : State) (src : Nat) : Nat := (s.cplq.filter (fun h => h.src == src)).length

/-- Whether the queue can take an entry of a source. -/
def State.cplRoom (s : State) (src : Nat) : Bool := s.heldOf src < 16 && s.cplq.length < 64

/-- Put an entry into the queue. -/
def State.hold (s : State) (h : HeldCpl) : State := { s with cplq := s.cplq ++ [h] }

/-- A completion of a pair that finds no room: discarded, counted, reported (R311). -/
def State.discardCpl (s : State) (p : Nat) (bytes : List Byte) : State :=
  ((s.bump (R.RING_CNT p) F.RING_CNT_LOST 1).bump R.CPLQ_STATUS F.CPLQ_STATUS_DISCARDS 1).raise 0x97 0
    ([BitVec.ofNat 8 p, 0#8, 0#8, 0#8] ++ slice (padTo 32 bytes) 0 8)

/-- A completion of a CAN port that finds both queues full (R102). -/
def State.discardCan (s : State) (n : Nat) (bytes : List Byte) : State :=
  ((s.bump (R.DRILL_CAN_STAT n) F.DRILL_CAN_STAT_DROPPED 1).bump R.CPLQ_STATUS F.CPLQ_STATUS_DISCARDS 1).raise 0x97 0
    ([BitVec.ofNat 8 (0x80 + n), 0#8, 0#8, 0#8] ++ slice (padTo 32 bytes) 0 8)

/-- A completion of source `src` at its event (R102, R260, R310, R311). `worthy`: its submission asked for an interrupt, or
it has none (R283). -/
def State.complete (s : State) (src : Nat) (bytes : List Byte) (worthy : Bool) : State :=
  if src < 32 then
    if s.pairState src = ringDisabled then s.bump (R.RING_CNT src) F.RING_CNT_LOST 1
    else if s.cplRoom src then s.hold ⟨src, padTo 32 bytes, worthy, false⟩
    else s.discardCpl src bytes
  else
    let n := src - 32
    if s.heldOf src = 0 && (s.can n).txq.length < 32 then
      s.setCan n { s.can n with txq := (s.can n).txq ++ [padTo 32 bytes] }
    else if s.cplRoom src then s.hold ⟨src, padTo 32 bytes, worthy, false⟩
    else s.discardCan n bytes

/-! EVENT records (R296–R298). -/

/-- The bit of EVENT_CFG.KINDS of a kind (R297 and the EVENT_CFG row); LOST records need none. -/
def eventKindBit (kind : Nat) : Option Nat :=
  if kind = 1 then some 0 else if kind = 2 then some 1 else if kind = 3 then some 2
  else if kind = 4 then some 3 else if kind = 5 then some 4 else none

def State.eventPair (s : State) : Nat := s.f R.EVENT_CFG F.EVENT_CFG_PAIR

def eventBytes (kind sub code time seq : Nat) (data : List Byte) : List Byte :=
  [BitVec.ofNat 8 kind, BitVec.ofNat 8 sub, 0#8, 0#8] ++ leBytes 4 code ++ leBytes 6 time ++ leBytes 2 seq ++ padTo 16 data

/-- Hold one EVENT record, or lose it: counted, flagged and, once per run of losses, reported (R298, R299; log 11). -/
def State.putEvent (s : State) (kind sub code : Nat) (data : List Byte) : State :=
  let seq := s.f R.EVENT_STATUS F.EVENT_STATUS_SEQ
  let s := s.setF R.EVENT_STATUS F.EVENT_STATUS_SEQ (seq + 1)
  let p := s.eventPair
  if s.cplRoom p then s.hold ⟨p, eventBytes kind sub code s.now48 seq data, true, true⟩
  else
    let was := s.evLosing
    let s := ({ s with evLost := s.evLost + 1, evLosing := true }).bump R.EVENT_STATUS F.EVENT_STATUS_LOST 1
    let s := (s.bump R.CPLQ_STATUS F.CPLQ_STATUS_DISCARDS 1).setGlb 2
    if was then s else s.raise 0x94 0 []

/-- Write an EVENT record of a kind, if EVENT_CFG.KINDS enables it; the first record after a loss is a LOST record (R298). -/
def State.event (s : State) (kind sub code : Nat) (data : List Byte) : State :=
  let on := match eventKindBit kind with
    | some b => bitsOf (s.f R.EVENT_CFG F.EVENT_CFG_KINDS) b 1 == 1
    | none => true
  if on then
    let s := if s.evLost > 0 && s.cplRoom s.eventPair then
        let n := s.evLost
        ({ s with evLost := 0, evLosing := false }).putEvent 0x0F 0 n []
      else s
    s.putEvent kind sub code data
  else s

/-! Ring pair states (R272). -/

/-- A pair changes state: its EVENT record of kind RING, and RING_STALL at the entry to STALLED. -/
def State.setPairState (s : State) (p st stall : Nat) : State :=
  let s := (s.setF (R.RING_STATUS p) F.RING_STATUS_STATE st).setF (R.RING_STATUS p) F.RING_STATUS_STALL stall
  let s := if st = ringStalled then s.setGlb 0 else s
  s.event 4 p st [BitVec.ofNat 8 stall]

/-- A pair that goes DISABLED discards its held entries and counts them in LOST (R311); EVENT records among them count in
EVENT_STATUS.LOST (R298; log 11). -/
def State.dropHeld (s : State) (p : Nat) : State :=
  let gone := s.cplq.filter (fun h => h.src == p)
  let s := { s with cplq := s.cplq.filter (fun h => h.src != p) }
  let ev := (gone.filter (·.event)).length
  let s := s.bump (R.RING_CNT p) F.RING_CNT_LOST (gone.length - ev)
  if ev = 0 then s
  else
    let was := s.evLosing
    let s := (({ s with evLost := s.evLost + ev, evLosing := true }).bump R.EVENT_STATUS F.EVENT_STATUS_LOST ev).setGlb 2
    if was then s else s.raise 0x94 0 []

/-- No further fetch; entries fetched and not consumed by their engine are discarded, with the members of a chained group and
a FENCE that waits (R272, R309). -/
def State.dropFetched (s : State) (p : Nat) : State := s.setSrc p {}

/-! Translation (R300, R301) and the DMA fault log (R304–R306). -/

/-- Where a device address leads: an offset of the local window, a host address, or a fault kind. -/
inductive Xlated where
  | win (off : Nat)
  | host (addr : Nat)
  | bad (kind : Nat)
  deriving DecidableEq, Repr

/-- Translate a device address for a read or a write. -/
def State.translate (s : State) (d : Nat) (write : Bool) : Xlated :=
  let e := d / 2 ^ 22 % 4096
  let o := d % 2 ^ 22
  let c := R.XLT_CTRL e
  if !s.flag c F.XLT_CTRL_V then .bad 1
  else if !write && !s.flag c F.XLT_CTRL_RD then .bad 2
  else if write && !s.flag c F.XLT_CTRL_WR then .bad 3
  else if s.flag c F.XLT_CTRL_LOCAL then (if o ≥ 0x80000 then .bad 4 else .win o)
  else .host ((s.f (R.XLT_ADDR_LO e) F.XLT_ADDR_LO_ADDR) * 2 ^ 22 + s.rdN (R.XLT_ADDR_HI e) * 2 ^ 32 + o)

/-- The INFO word of a fault log record. -/
def dmafInfo (kind op pair index : Nat) : Nat := kind % 16 + 16 * (op % 8) + 256 * (pair % 32) + 65536 * (index % 65536)

/-- Log a DMA fault (R306): the next of the eight records, OVF over an unread one, fault 0x95 or 0x96 with the record as its
data. -/
def State.dmaLog (s : State) (op pair index addr done kind : Nat) : State :=
  let k := s.f R.DMAF_STATUS F.DMAF_STATUS_NEXT
  let unread := s.f R.DMAF_STATUS F.DMAF_STATUS_COUNT ≥ 8
  let info := dmafInfo kind op pair index
  let s := ((s.wrN (R.DMAF_INFO k) info).wr64 (R.DMAF_ADDR_LO k) (R.DMAF_ADDR_HI k) addr).wrN (R.DMAF_DONE k) done
  let s := s.setF R.DMAF_STATUS F.DMAF_STATUS_NEXT (k + 1)
  let s := if unread then s.hwSet R.DMAF_STATUS F.DMAF_STATUS_OVF 1 else s
  let s := s.bump R.DMAF_STATUS F.DMAF_STATUS_COUNT 1
  s.raise (if kind ≤ 4 then 0x95 else 0x96) 0
    (leBytes 4 info ++ leBytes 4 addr ++ leBytes 4 (addr / 2 ^ 32) ++ leBytes 4 done)

/-- A DMA fault stalls a pair with STALL 3 (R309); a pair already stalled stays so. -/
def State.stallDma (s : State) (p : Nat) : State :=
  if s.pairState p = ringActive then s.setPairState p ringStalled 3 else s

/-- Write bytes at a device address, translated 4 MiB block by block; `fuel` bounds the blocks. The result says how many bytes
were written, and the fault (address, kind) that ended it. -/
def State.dmaWrite (s : State) (d : Nat) (bytes : List Byte) (done : Nat) : Nat → State × Nat × Option (Nat × Nat)
  | 0 => (s, done, none)
  | fuel + 1 =>
    if bytes.isEmpty then (s, done, none)
    else
      let n := min bytes.length (2 ^ 22 - d % 2 ^ 22)
      match s.translate d true with
      | .bad k => (s, done, some (d, k))
      | .host a => (s.emit (.dmaWrite a (bytes.take n))).dmaWrite (d + n) (bytes.drop n) (done + n) fuel
      | .win o =>
        let m := min n (0x80000 - o)
        let s := s.winWrite o (bytes.take m)
        if m < n then (s, done + m, some (d + m, 4))
        else s.dmaWrite (d + n) (bytes.drop n) (done + n) fuel

/-- Whether the completion ring is full (R276). -/
def State.cqFull (s : State) (p : Nat) : Bool :=
  (s.f (R.RING_CQ_PTR p) F.RING_CQ_PTR_CQ_TAIL + 1) % s.cqSize p == s.f (R.RING_CQ_PTR p) F.RING_CQ_PTR_CQ_HEAD

/-- The entry as the ring takes it, with the phase tag in bit 31 of word 0 (R281). -/
def phased (bytes : List Byte) (phase : Nat) : List Byte :=
  match bytes with
  | a :: b :: c :: d :: t => a :: b :: c :: BitVec.ofNat 8 (d.toNat % 128 + 128 * phase) :: t
  | _ => bytes

/-- Take the oldest entry of a source from the queue. -/
def takeHeld (src : Nat) : List HeldCpl → Option (HeldCpl × List HeldCpl)
  | [] => none
  | h :: t => if h.src = src then some (h, t) else (takeHeld src t).map (fun p => (p.1, h :: p.2))

/-- CQ_TAIL moves on, and the phase inverts at each wrap to 0 (R281). -/
def State.advanceCq (s : State) (p : Nat) : State :=
  let tail := (s.f (R.RING_CQ_PTR p) F.RING_CQ_PTR_CQ_TAIL + 1) % s.cqSize p
  let s := s.setF (R.RING_CQ_PTR p) F.RING_CQ_PTR_CQ_TAIL tail
  if tail = 0 then s.setF (R.RING_STATUS p) F.RING_STATUS_PHASE (1 - s.f (R.RING_STATUS p) F.RING_STATUS_PHASE) else s

/-- After a completion has been written: CQ_TAIL moves and the completion counts if it is interrupt-worthy (R283). -/
def State.written (s : State) (p : Nat) (h : HeldCpl) : State :=
  let s := s.advanceCq p
  if h.worthy || s.flag (R.RING_CFG p) F.RING_CFG_ALL then s.countPending p else s

/-- Whether the oldest held completion of a pair can be written now (R310). -/
def State.canDrain (s : State) (p : Nat) : Bool :=
  s.pairState p == ringActive && !s.cqFull p && (s.pairLocal p || s.dmaAllowed)

/-- Write the oldest held completion of a pair (R281, R310); a fault keeps it and stalls the pair (R309). -/
def State.drainPair (s : State) (p : Nat) : State :=
  if s.canDrain p then
    match takeHeld p s.cplq with
    | none => s
    | some (h, rest) =>
      let tail := s.f (R.RING_CQ_PTR p) F.RING_CQ_PTR_CQ_TAIL
      let a := s.cqBase p + 32 * tail
      let b := phased h.bytes (s.f (R.RING_STATUS p) F.RING_STATUS_PHASE)
      if s.pairLocal p then (({ s with cplq := rest }).winWrite a b).written p h
      else
        match s.translate a true with
        | .bad k => (s.dmaLog 3 p tail a 0 k).stallDma p
        | .win o => (({ s with cplq := rest }).winWrite o b).written p h
        | .host x => (({ s with cplq := rest }).emit (.dmaWrite x b)).written p h
  else s

end Sys2Proof.Machine
end

