-- ==== Sys2Proof/Machine/Operands.lean ====
section
/-! DEFINITION. The operand forms: coordinates in mixed radix (R6–R9, R40, R42), order entries (R79), buffer addresses
(R287), and the fabric description as Drill reads it (R16–R21, R90). -/

namespace Sys2Proof.Machine

/-! Coordinates: a 64-bit field with the count in bits 15:0 and the turns in bits 47:16 (R7). -/

def cfCount (v : Nat) : Nat := v % 65536
def cfTurns (v : Nat) : Nat := v / 65536 % 2 ^ 32

/-- The linear value of a coordinate: signed turns for a travel source (R6). -/
def linTravel (m v : Nat) : Int := toSigned 32 (cfTurns v) * m + cfCount v
def linPlain (m v : Nat) : Nat := cfTurns v * m + cfCount v

/-- The field of a linear value under a modulus; turns past the 32-bit range wrap (R40, R43). -/
def fieldTravel (m : Nat) (x : Int) : Nat :=
  let t := ofSigned 32 (x / (m : Int))
  let c := (x % (m : Int)).toNat
  (if t ≥ 2 ^ 31 then 0xFFFF000000000000 else 0) + t * 65536 + c
def fieldPlain (m x : Nat) : Nat := x / m % 2 ^ 32 * 65536 + x % m

/-- Whether a 64-bit value is well formed for its source (R7). -/
def coordOk (travel : Bool) (m v : Nat) : Bool :=
  decide (cfCount v < m) &&
    (if travel then bitsOf v 48 16 == (if bitsOf v 47 1 = 1 then 0xFFFF else 0) else bitsOf v 48 16 == 0)

/-- The sum of two coordinates (R40): the count carries at M into the turns. -/
def coordAdd (travel : Bool) (m a b : Nat) : Nat :=
  let c := cfCount a + cfCount b
  let t := (cfTurns a + cfTurns b + (if c ≥ m then 1 else 0)) % 2 ^ 32
  let c := if c ≥ m then c - m else c
  (if travel && decide (t ≥ 2 ^ 31) then 0xFFFF000000000000 else 0) + t * 65536 + c

def travelUnit (n : Nat) : Bool := decide (n < 4)

/-- The modulus of a unit. -/
def State.coordM (s : State) (n : Nat) : Nat :=
  if n = 4 then 1024 else if n = 5 then 1000 else s.f (R.COORD_MOD n) F.COORD_MOD_M

/-- Twice the period estimate of COORD_4 in cycles (R48): the sum of the last two half-cycles, or twice the only one; none where
there is none. -/
def CoordRt.est2 (r : CoordRt) : Option Nat :=
  match r.halves with
  | a :: b :: _ => some (a + b)
  | [a] => some (2 * a)
  | [] => none

/-- The coordinate of the mains unit (R48, R50): the turns of the last crossing, and the phase interpolated since; after a loss it
freewheels from that crossing. -/
def State.mainsPos (s : State) : Nat :=
  let base := s.rd64 (R.COORD_POS_LO 4) (R.COORD_POS_HI 4)
  match (s.coord 4).lastCross, (s.coord 4).est2 with
  | some c, some e =>
    let k := if e = 0 then 0 else (s.cyc - c) * 2048 / e
    if s.flag (R.COORD_STATUS 4) F.COORD_STATUS_LOST then (cfTurns base + k / 1024) % 2 ^ 32 * 65536 + k % 1024
    else base / 65536 * 65536 + min 1023 k
  | _, _ => base

/-- The present coordinate of a unit, as its 64-bit field. -/
def State.coordPos (s : State) (n : Nat) : Nat :=
  if n = 5 then s.now48 else if n = 4 then s.mainsPos else s.rd64 (R.COORD_POS_LO n) (R.COORD_POS_HI n)

/-- A coordinate as a descriptor carries it (R7): the whole value, which a travel source holds sign-extended (R442). -/
def coordField (v : Nat) : List Byte := leBytes 8 v

/-- Write the position of a unit. -/
def State.setPos (s : State) (n v : Nat) : State := s.wr64 (R.COORD_POS_LO n) (R.COORD_POS_HI n) v

/-- The linear position of a travel unit. -/
def State.coordLin (s : State) (n : Nat) : Int := linTravel (s.coordM n) (s.coordPos n)

/-- The forward distance from coordinate b to coordinate a by R9, in counts. -/
def plainDist (m a b : Nat) : Int :=
  toSigned 32 ((cfTurns a + 2 ^ 32 - cfTurns b) % 2 ^ 32) * m + cfCount a - cfCount b

/-- The time in µs that a time coordinate names, taken within 2^31 ms of the present (R9). -/
def State.absTime (s : State) (v : Nat) : Nat :=
  natOf ((s.us : Int) + plainDist 1000 v s.now48)

/-- Further than any time a window can close at. -/
def farFuture : Nat := 2 ^ 80

/-- ceil(d × 1,000,000 / v) µs; a speed of zero never arrives (R61). -/
def travelTime (d v : Nat) : Nat := if d = 0 then 0 else if v = 0 then farFuture else ceilDiv (d * 1000000) v

/-- BOUND_VMAX, BOUND_VMIN and BOUND_STALL of a unit as they are in force: those of before a write until the next tick (R69). -/
def State.bounds (s : State) (n : Nat) : Word × Word × Word :=
  (s.coord n).boundHeld.getD (s.rd (R.COORD_BOUND_VMAX n), s.rd (R.COORD_BOUND_VMIN n), s.rd (R.COORD_BOUND_STALL n))

/-- The speed bounds, the stall budget, the direction and its tolerance of a unit. -/
def State.vmax (s : State) (n : Nat) : Nat := (s.bounds n).1.toNat
def State.vmin (s : State) (n : Nat) : Nat := (s.bounds n).2.1.toNat
def State.boundStall (s : State) (n : Nat) (fld : Fld) : Nat := getBits (s.bounds n).2.2 fld.lo fld.w
def State.tStall (s : State) (n : Nat) : Nat := s.boundStall n F.COORD_BOUND_STALL_T_STALL
def State.travelDir (s : State) (n : Nat) : Nat := s.boundStall n F.COORD_BOUND_STALL_DIR
def State.dirTol (s : State) (n : Nat) : Nat := s.boundStall n F.COORD_BOUND_STALL_DIR_TOL

/-- A write of a bound is coming: what is in force stays until the next tick (R69). -/
def State.holdBounds (s : State) (n : Nat) : State := s.setCoord n { s.coord n with boundHeld := some (s.bounds n) }

/-- A tick begins: the bounds as written are in force (R69). -/
def State.takeBounds (s : State) : State :=
  s.each (List.range 5) (fun n s => s.setCoord n { s.coord n with boundHeld := none })
def State.stallAcc (s : State) (n : Nat) : Nat := s.f (R.COORD_STATUS n) F.COORD_STATUS_STALL_ACC

/-- The projected interval of a travel window (R61), in µs; none where it is UNREACHABLE. -/
def State.projTravel (s : State) (n ws we : Nat) : Option (Nat × Nat) :=
  let m := s.coordM n
  let p := s.coordLin n
  let a := linTravel m ws
  let b := linTravel m we
  let lo := min a b
  let hi := max a b
  let now := s.us
  let slack := (s.tStall n - min (s.stallAcc n) (s.tStall n)) * 1000
  let mk := fun (dIn dOut : Int) =>
    some (now + travelTime (natOf dIn) (s.vmax n), now + travelTime (natOf dOut) (s.vmin n) + slack)
  if s.travelDir n = 0 then (if p > hi then none else mk (max 0 (lo - p)) (hi - p))
  else if s.travelDir n = 1 then (if p < lo then none else mk (max 0 (p - hi)) (p - lo))
  else mk (max 0 (max (lo - p) (p - hi))) (max (hi - p) (p - lo))

/-- The projected interval of a mains window (R62): the formulas of R61 with DIR positive and no stall term, over the forward
distances of both edges by R9. -/
def State.projMains (s : State) (ws we : Nat) : Option (Nat × Nat) :=
  let p := s.coordPos 4
  let a := plainDist 1024 ws p
  let b := plainDist 1024 we p
  if b ≤ 0 then none
  else some (s.us + travelTime (natOf (min a b)) (s.vmax 4), s.us + travelTime (natOf (max a b)) (s.vmin 4))

/-- The projected interval of a time window (R62): an end that is not after its beginning is UNREACHABLE (log 14). -/
def State.projTime (s : State) (ws we : Nat) : Option (Nat × Nat) :=
  let a := max s.us (s.absTime ws)
  let b := s.absTime we
  if b ≤ a then none else some (a, b)

/-- The projection of a window on a unit (R61, R62). -/
def State.project (s : State) (n ws we : Nat) : Option (Nat × Nat) :=
  if n < 4 then s.projTravel n ws we
  else if n = 4 then s.projMains ws we
  else s.projTime ws we

/-! Order entries (R79). -/

/-- An order submission entry, field by field. -/
structure Order where
  op : Nat
  cls : Nat
  unit : Nat
  irq : Bool
  repStart : Bool
  chain : Bool
  target : Nat
  resWord : Nat
  tag : Nat
  energy : Nat
  resEnergy : Nat
  cap : Nat
  vMin : Nat
  vMax : Nat
  wStart : Nat
  wEnd : Nat
  tBound : Nat
  arg : Nat
  mask : Nat
  resTail : Nat
  deriving DecidableEq, Repr

def parseOrder (e : List Byte) : Order :=
  let w := leAt e 0 4
  { op := bitsOf w 0 8, cls := bitsOf w 8 2, unit := bitsOf w 10 3, irq := bitsOf w 13 1 == 1,
    repStart := bitsOf w 14 1 == 1, chain := bitsOf w 15 1 == 1, target := bitsOf w 16 4, resWord := bitsOf w 20 12,
    tag := leAt e 4 4, energy := leAt e 8 6, resEnergy := leAt e 14 2, cap := leAt e 16 4, vMin := leAt e 20 2,
    vMax := leAt e 22 2, wStart := leAt e 24 8, wEnd := leAt e 32 8, tBound := leAt e 40 8, arg := leAt e 48 4,
    mask := leAt e 52 2, resTail := leAt e 54 10 }

def opDeliver : Nat := 0x01
def opHold : Nat := 0x02
def opAbsorb : Nat := 0x03
def opChargeBy : Nat := 0x04
def opReserve : Nat := 0x05
def opCancel : Nat := 0x08
def opFence : Nat := 0x0F

def Order.known (o : Order) : Bool := [1, 2, 3, 4, 5, 8, 15].contains o.op

/-- The opcodes that hold a voltage window on a node. -/
def Order.windowed (o : Order) : Bool := o.op == opDeliver || o.op == opHold || o.op == opAbsorb

/-- The nodes a mask names (R18). -/
def maskNodes (m : Nat) : List Nat :=
  ((List.range 4).filter (fun k => bitsOf m k 1 == 1)).map (· + 8)
    ++ ((List.range 3).filter (fun k => bitsOf m (4 + k) 1 == 1)).map (· + 16)
    ++ ((List.range 3).filter (fun k => bitsOf m (7 + k) 1 == 1)).map (· + 12)

/-! The fabric description in force (R17). -/

def isRail (n : Nat) : Bool := decide (n < 8)
def isPack (n : Nat) : Bool := decide (8 ≤ n ∧ n < 12)
def isPort (n : Nat) : Bool := decide (12 ≤ n ∧ n < 15)
def isInput (n : Nat) : Bool := decide (16 ≤ n ∧ n < 19)

/-- A register of a copy of the fabric description. -/
def fabWord (fab : Tab Word) (off : Nat) : Word := tabGet resetWord fab off

/-- A field of the description in force; zero where there is none. -/
def State.fabF (s : State) (off : Nat) (fld : Fld) : Nat :=
  match s.fab with
  | some t => getBits (fabWord t off) fld.lo fld.w
  | none => 0

def State.nodeVmin (s : State) (k : Nat) : Nat := s.fabF (R.FAB_NODE_VRANGE k) F.FAB_NODE_VRANGE_V_MIN
def State.nodeVmax (s : State) (k : Nat) : Nat := s.fabF (R.FAB_NODE_VRANGE k) F.FAB_NODE_VRANGE_V_MAX
/-- A node whose V_MAX is zero is undeclared (R17). -/
def State.declared (s : State) (k : Nat) : Bool := decide (k < 19) && k != 15 && s.nodeVmax k != 0
def State.stFrom (s : State) (n : Nat) : Nat := s.fabF (R.STAGE_NODES n) F.STAGE_NODES_FROM
def State.stTo (s : State) (n : Nat) : Nat := s.fabF (R.STAGE_NODES n) F.STAGE_NODES_TO
def State.stTopo (s : State) (n : Nat) : Nat := s.fabF (R.STAGE_NODES n) F.STAGE_NODES_TOPO
def State.stRevEn (s : State) (n : Nat) : Bool := s.fabF (R.STAGE_NODES n) F.STAGE_NODES_REV_EN == 1
def State.stNtc (s : State) (n : Nat) : Nat := s.fabF (R.STAGE_NODES n) F.STAGE_NODES_NTC
def State.stHb (s : State) (n : Nat) : Nat := s.fabF (R.STAGE_HBMAP n) F.STAGE_HBMAP_HB
def State.stRated (s : State) (n : Nat) : Nat := s.fabF (R.STAGE_P_RATED n) F.STAGE_P_RATED_P_RATED
def State.stUsed (s : State) (n : Nat) : Bool := s.stTopo n != 0
/-- The sending and the receiving node of a stage in a direction. -/
def State.stSend (s : State) (n : Nat) (rev : Bool) : Nat := if rev then s.stTo n else s.stFrom n
def State.stRecv (s : State) (n : Nat) (rev : Bool) : Nat := if rev then s.stFrom n else s.stTo n

/-- The channels of a stage in ascending number (R105). -/
def hbList (map : Nat) : List Nat := (List.range 24).filter (fun k => bitsOf map k 1 == 1)
/-- Whether a stage owns a channel in a group (R20). -/
def State.stInGroup (s : State) (n g : Nat) : Bool := s.stUsed n && bitsOf (s.stHb n) (6 * g) 6 != 0

def State.pswRole (s : State) (w : Nat) : Nat := s.fabF (R.PSW_CFG w) F.PSW_CFG_ROLE
def State.pswA (s : State) (w : Nat) : Nat := s.fabF (R.PSW_CFG w) F.PSW_CFG_NODE_A
def State.pswB (s : State) (w : Nat) : Nat := s.fabF (R.PSW_CFG w) F.PSW_CFG_NODE_B
def State.pswEgress (s : State) (w : Nat) : Bool := s.fabF (R.PSW_CFG w) F.PSW_CFG_EGRESS_CLOSED == 1

/-- The SERIES switch of a node. -/
def State.seriesOf (s : State) (node : Nat) : Option Nat :=
  (List.range 12).find? (fun w => s.pswRole w == 1 && s.pswA w == node)

/-- The stages that deliver into a rail (R373). -/
def State.stagesInto (s : State) (rail : Nat) : List Nat :=
  (List.range 8).filter (fun n => s.stUsed n && (s.stTo n == rail || (s.stRevEn n && s.stFrom n == rail)))

/-- A hop of a path: a stage, its direction, and the node on its far side, seen from the target. -/
structure Hop where
  stage : Nat
  rev : Bool
  far : Nat
  deriving DecidableEq, Repr

/-- The hops that carry power into a node, or, for ABSORB, out of it, in ascending stage number (R90). -/
def State.hopsAt (s : State) (node : Nat) (absorb : Bool) : List Hop :=
  (List.range 8).flatMap (fun n =>
    if !s.stUsed n then []
    else
      let fwd := if (if absorb then s.stFrom n else s.stTo n) = node then
          [⟨n, false, if absorb then s.stTo n else s.stFrom n⟩] else []
      let rev := if s.stRevEn n && (if absorb then s.stTo n else s.stFrom n) == node then
          [⟨n, true, if absorb then s.stFrom n else s.stTo n⟩] else []
      fwd ++ rev)

/-- The paths between a node and a pack, input or port over at most `fuel` stages, only rails between them and no node twice,
in the order of R90. -/
def State.pathsFrom (s : State) (absorb : Bool) : Nat → Nat → List Nat → List (List Hop)
  | 0, _, _ => []
  | fuel + 1, node, seen =>
    (s.hopsAt node absorb).flatMap (fun h =>
      if seen.contains h.far then []
      else if isRail h.far then (s.pathsFrom absorb fuel h.far (h.far :: seen)).map (fun q => h :: q)
      else if absorb && !isPack h.far then []
      else [[h]])

/-- The path list of a target (R90). -/
def State.paths (s : State) (target : Nat) (absorb : Bool) : List (List Hop) := s.pathsFrom absorb 3 target [target]

/-- The far node of a path. -/
def farNode (q : List Hop) : Nat := (q.getLast?.map (·.far)).getD 15

/-! Buffer addresses (R287). -/

/-- A `SRC` or `DST` field: a device address, or with bit 63 an offset of the local window; none where other bits are set. -/
inductive BufAddr where
  | dev (a : Nat)
  | win (a : Nat)
  deriving DecidableEq, Repr

def parseBuf (v : Nat) : Option BufAddr :=
  if bitsOf v 63 1 = 1 then (if bitsOf v 19 44 = 0 then some (.win (v % 2 ^ 19)) else none)
  else if bitsOf v 34 29 = 0 then some (.dev (v % 2 ^ 34)) else none

/-- A buffer must lie wholly within its space (R287). -/
def bufFits (b : BufAddr) (len : Nat) : Bool :=
  match b with
  | .dev a => decide (a + len ≤ 2 ^ 34)
  | .win a => decide (a + len ≤ 0x80000)

end Sys2Proof.Machine
end

