-- ==== Sys2Proof/Machine/Feasible.lean ====
section
/-! DEFINITION. The feasibility check of spec/03_energy_orders.md R91: segments, FITS, TAKE, the Class A and the Class B run,
and the reservations of R93. -/

namespace Sys2Proof.Machine

/-- The model values a decision works on (R29): per stage, per pack and per node. -/
structure Ctx where
  headroom : List Nat
  pmax : List Nat
  pchg : List Nat
  room : List Nat
  avail : List Nat
  budget : List (Nat × Nat)
  rated : List Nat
  effF : List (List Nat)
  effR : List (List Nat)
  deriving DecidableEq, Repr

/-- An efficiency entry of a stage (R33). -/
def State.effEntry (s : State) (n : Nat) (rev : Bool) (k : Nat) : Nat :=
  let off := if rev then R.STAGE_EFF_REV n (k / 2) else R.STAGE_EFF_FWD n (k / 2)
  s.fabF off ⟨16 * (k % 2), 16⟩

def State.eAvail (s : State) (i : Nat) : Nat := s.rd64 (R.MODEL_PACK_AVAIL_LO i) (R.MODEL_PACK_AVAIL_HI i)
def State.eRes (s : State) (i : Nat) : Nat := s.rd64 (R.MODEL_PACK_RESERVED_LO i) (R.MODEL_PACK_RESERVED_HI i)
def State.earmark (s : State) (i : Nat) : Nat := s.rd64 (R.DRILL_PACK_EARMARK_LO i) (R.DRILL_PACK_EARMARK_HI i)
def State.pMax (s : State) (i : Nat) : Nat := s.rdN (R.MODEL_PACK_PMAX i)
def State.pChg (s : State) (i : Nat) : Nat := s.rdN (R.DRILL_PACK_PCHG i)
def State.roomOf (s : State) (i : Nat) : Nat := s.rd64 (R.DRILL_PACK_ROOM_LO i) (R.DRILL_PACK_ROOM_HI i)
def State.headroom (s : State) (n : Nat) : Nat := s.rdN (R.MODEL_STAGE_HEADROOM n)
/-- The budget of an input or port node (R32). -/
def State.budget (s : State) (node : Nat) : Nat :=
  if isInput node then s.rdN (R.MODEL_INPUT_BUDGET (node - 16))
  else if isPort node then s.rdN (R.MODEL_PORT_BUDGET (node - 12)) else 0

/-- E_FREE of a pack (R88). -/
def State.eFree (s : State) (i : Nat) : Nat := s.eAvail i - s.eRes i - s.earmark i

def State.ctx (s : State) : Ctx :=
  { headroom := (List.range 8).map s.headroom, pmax := (List.range 4).map s.pMax, pchg := (List.range 4).map s.pChg,
    room := (List.range 4).map s.roomOf, avail := (List.range 4).map s.eAvail,
    budget := [12, 13, 14, 16, 17, 18].map (fun n => (n, s.budget n)), rated := (List.range 8).map s.stRated,
    effF := (List.range 8).map (fun n => (List.range 8).map (s.effEntry n false)),
    effR := (List.range 8).map (fun n => (List.range 8).map (s.effEntry n true)) }

/-- The band that contains a through-power: entry k covers k/8 × P_RATED < p ≤ (k+1)/8 × P_RATED, entry 0 also 0. -/
def band (rated p : Nat) : Nat := if p = 0 then 0 else min 7 (ceilDiv (8 * p) rated - 1)

/-- The efficiency used in a band: the entry scaled by the stage's trim, which never raises it (R34). -/
def Ctx.effBand (c : Ctx) (tr : List Nat) (n : Nat) (rev : Bool) (k : Nat) : Nat :=
  ((if rev then c.effR else c.effF).getD n []).getD k 0 * min (tr.getD n 1024) 1024 / 1024

/-- EFF(s, p) of R91. -/
def Ctx.eff (c : Ctx) (tr : List Nat) (n : Nat) (rev : Bool) (p : Nat) : Nat :=
  c.effBand tr n rev (band (c.rated.getD n 0) p)

/-- An order as the check sees it (R91); `trim`: the TRIM values of the snapshot on which it was admitted, since a change of TRIM
changes no accepted order (R34; log 59). -/
structure Item where
  key : Nat
  op : Nat
  cls : Nat
  target : Nat
  p : Nat
  e : Nat
  t0 : Nat
  t1 : Nat
  paths : List (List Hop)
  trim : List Nat := []
  deriving DecidableEq, Repr

def Item.absorb (i : Item) : Bool := i.op == opAbsorb
/-- A drawing order (R91). -/
def Item.draws (i : Item) : Bool := i.op == opDeliver || i.op == opHold || i.op == opChargeBy
/-- Which orders a run counts (R91). -/
def Item.counted (i : Item) (runB : Bool) : Bool := i.op == opReserve || i.cls == 0 || (runB && i.cls == 1)

/-- What one path carries: the power of each of its stages, and what its far node gives or takes. -/
structure Take where
  hops : List (Nat × Bool × Nat)
  node : Nat
  mw : Nat
  deriving DecidableEq, Repr

/-- The book of a segment: used[s], dir[s], left[n] and room[n]. -/
structure Book where
  used : List Nat
  dir : List (Option Bool)
  left : List Nat
  room : List Nat
  deriving DecidableEq, Repr

def Ctx.book (c : Ctx) (runB : Bool) : Book :=
  { used := List.replicate 8 0, dir := List.replicate 8 none,
    left := (List.range 19).map (fun n =>
      if isPack n then c.pmax.getD (n - 8) 0
      else if runB then ((c.budget.find? (fun b => b.1 == n)).map (·.2)).getD 0 else 0),
    room := c.pchg }

/-- What a stage takes in to deliver p (R34): P_in = ceil(p × 10,000 / efficiency); none where the efficiency is zero. -/
def inputFor (e p : Nat) : Option Nat := if p = 0 then some 0 else if e = 0 then none else some (ceilDiv (p * 10000) e)

/-- FITS of R91, giving what it would take: the power at each stage and at the far node. A stage whose efficiency comes to zero carries
no planned power, into a pack as little as out of it (R34). -/
def walk (c : Ctx) (tr : List Nat) (b : Book) (absorb : Bool) : List Hop → Nat → Option (List (Nat × Bool × Nat) × Nat)
  | [], p => some ([], p)
  | h :: t, p =>
    let u := b.used.getD h.stage 0
    let okDir := match b.dir.getD h.stage none with
      | some d => d == h.rev
      | none => true
    if !okDir then none
    else if u + p > c.headroom.getD h.stage 0 then none
    else
      match inputFor (c.eff tr h.stage h.rev (u + p)) p with
      | none => none
      | some p' => (walk c tr b absorb t (if absorb then p else p')).map (fun r => ((h.stage, h.rev, p) :: r.1, r.2))

/-- What the far node still has. -/
def Book.limit (b : Book) (absorb : Bool) (q : List Hop) : Nat :=
  if absorb then (if isPack (farNode q) then b.room.getD (farNode q - 8) 0 else 0) else b.left.getD (farNode q) 0

/-- FITS(q, x) of R91. -/
def fitsTake (c : Ctx) (tr : List Nat) (b : Book) (absorb : Bool) (q : List Hop) (x : Nat) : Option Take :=
  match walk c tr b absorb q x with
  | none => none
  | some (hs, p) => if p ≤ b.limit absorb q then some ⟨hs, farNode q, p⟩ else none

def fits (c : Ctx) (tr : List Nat) (b : Book) (absorb : Bool) (q : List Hop) (x : Nat) : Bool :=
  (fitsTake c tr b absorb q x).isSome

/-- For each choice of bands along a path, the largest power that the upper limits of the choice allow. -/
def tops (c : Ctx) (tr : List Nat) (b : Book) (absorb : Bool) (lim : Nat) : List Hop → List Nat
  | [] => [lim]
  | h :: t =>
    let u := b.used.getD h.stage 0
    let roomS := c.headroom.getD h.stage 0 - u
    let rated := c.rated.getD h.stage 0
    (tops c tr b absorb lim t).flatMap (fun l =>
      if absorb then [min l roomS]
      else (List.range 8).map (fun k =>
        let e := c.effBand tr h.stage h.rev k
        let top := if k = 7 then roomS else (k + 1) * rated / 8 - u
        min (l * e / 10000) (min top roomS)))

/-- The largest whole mW, 0 to need, for which FITS holds (R91): the best of the tops of the band choices that fits. -/
def largest (c : Ctx) (tr : List Nat) (b : Book) (absorb : Bool) (q : List Hop) (need : Nat) : Nat :=
  (((tops c tr b absorb (b.limit absorb q) q).map (min need)).filter (fits c tr b absorb q)).foldl max 0

/-- TAKE(q, x) of R91. -/
def Book.take (b : Book) (absorb : Bool) (t : Take) : Book :=
  let b := t.hops.foldl (fun b h =>
    { b with used := b.used.set h.1 (b.used.getD h.1 0 + h.2.2), dir := b.dir.set h.1 (some h.2.1) }) b
  if absorb then { b with room := b.room.set (t.node - 8) (b.room.getD (t.node - 8) 0 - t.mw) }
  else { b with left := b.left.set t.node (b.left.getD t.node 0 - t.mw) }

/-- Serve an order's need over its paths, in list order; what stays unserved is the second result. TAKE(q, x) is called with x = 0
too, which sets the directions of the path's stages; a path on which not even 0 fits takes nothing. -/
def serve (c : Ctx) (tr : List Nat) (absorb : Bool) (b : Book) (need : Nat) : List (List Hop) → Book × Nat × List Take
  | [] => (b, need, [])
  | q :: qs =>
    let x := largest c tr b absorb q need
    match fitsTake c tr b absorb q x with
    | none => serve c tr absorb b need qs
    | some t =>
      let r := serve c tr absorb (b.take absorb t) (need - x) qs
      (r.1, r.2.1, t :: r.2.2)

/-- The book with a CHARGE_BY's power taken from the room of its target. -/
def Book.charge (b : Book) (i : Item) : Book :=
  if i.op = opChargeBy then { b with room := b.room.set (i.target - 8) (b.room.getD (i.target - 8) 0 - i.p) } else b

/-- Run one segment for the orders active in it; `prior` gives the run-A takes that a Class A order keeps in run B. None where
an order's need is not met. -/
def runSeg (c : Ctx) (runB : Bool) (prior : List (Nat × List Take)) : Book → List Item → Option (Book × List (Nat × List Take))
  | b, [] => some (b, [])
  | b, i :: is =>
    let b := b.charge i
    if runB && i.cls == 0 then
      let ts := ((prior.find? (fun p => p.1 == i.key)).map (·.2)).getD []
      (runSeg c runB prior (ts.foldl (fun b t => b.take i.absorb t) b) is).map (fun r => (r.1, (i.key, ts) :: r.2))
    else
      let paths := if i.cls = 0 then i.paths.filter (fun q => isPack (farNode q)) else i.paths
      let r := serve c i.trim i.absorb b i.p paths
      if r.2.1 > 0 then none
      else (runSeg c runB prior r.1 is).map (fun t => (t.1, (i.key, r.2.2) :: t.2))

/-- A segment of time with what the orders in it take. -/
structure Seg where
  t0 : Nat
  t1 : Nat
  takes : List (Nat × List Take)
  deriving DecidableEq, Repr

/-- Insert into a rising list without repeats. -/
def insertCut (x : Nat) : List Nat → List Nat
  | [] => [x]
  | y :: t => if x < y then x :: y :: t else if x = y then y :: t else y :: insertCut x t

def cuts (is : List Item) : List Nat := is.foldl (fun l i => insertCut i.t0 (insertCut i.t1 l)) []

/-- Class A orders first in the Class B run: they keep exactly what the Class A run gave them (R91; log 15). -/
def runOrder (runB : Bool) (is : List Item) : List Item :=
  if runB then is.filter (fun i => i.cls == 0) ++ is.filter (fun i => i.cls != 0) else is

/-- All segments of a run, in time order (R91). -/
def runSegs (c : Ctx) (runB : Bool) (items : List Item) (prior : List Seg) : List Nat → Option (List Seg)
  | a :: b :: t =>
    let act := (runOrder runB items).filter (fun i => i.counted runB && i.op != opReserve && decide (i.t0 ≤ a ∧ b ≤ i.t1))
    let pr := ((prior.find? (fun g => g.t0 == a)).map (·.takes)).getD []
    match runSeg c runB pr (c.book runB) act with
    | none => none
    | some (_, ts) => (runSegs c runB items prior (b :: t)).map (fun r => ⟨a, b, ts⟩ :: r)
  | _ => some []

/-- flow(i, k, n) summed over an order's paths in a segment. -/
def flowOf (key n : Nat) (g : Seg) : Nat :=
  (((g.takes.filter (fun t => t.1 == key)).flatMap (·.2)).filter (fun t => t.node == n)).foldl (fun a t => a + t.mw) 0

def maxFlow (segs : List Seg) (key n : Nat) : Nat := segs.foldl (fun a g => max a (flowOf key n g)) 0

/-- ceil(E(i) × max_k flow(i,k,n) / P(i)) for pack n (R91, R93). -/
def flowEnergy (segs : List Seg) (i : Item) (n : Nat) : Nat := ceilDiv (i.e * maxFlow segs i.key (8 + n)) i.p

/-- The outcome of a run: its segments, or a status and a detail. -/
inductive Verdict where
  | ok (segs : List Seg)
  | reject (status detail : Nat)
  deriving DecidableEq, Repr

/-- The energy checks of R91 for the packs in turn; none where all pass. -/
def energyCheck (c : Ctx) (runB : Bool) (items : List Item) (segs : List Seg) : List Nat → Option (Nat × Nat)
  | [] => none
  | n :: t =>
    let cnt := items.filter (fun i => i.counted runB)
    let out := cnt.foldl (fun a i =>
      a + (if i.op = opReserve then (if i.target = 8 + n then i.e else 0)
           else if i.draws then flowEnergy segs i n else 0)) 0
    let inn := cnt.foldl (fun a i =>
      a + (if i.op = opAbsorb then flowEnergy segs i n
           else if i.op = opChargeBy ∧ i.target = 8 + n then i.e else 0)) 0
    if out > c.avail.getD n 0 then some (0x10, 0x0200 + 0x10 * boolNat runB + n)
    else if inn > c.room.getD n 0 then some (0x10, 0x0220 + n)
    else energyCheck c runB items segs t

/-- CHECK(plan, run) of R91. -/
def check (c : Ctx) (runB : Bool) (items : List Item) (prior : List Seg) : Verdict :=
  match runSegs c runB items prior (cuts (items.filter (fun i => i.cls != 2 || i.op == opReserve))) with
  | none => .reject 0x11 (0x0300 + 0x10 * boolNat runB)
  | some segs =>
    match energyCheck c runB items segs [0, 1, 2, 3] with
    | some (st, d) => .reject st d
    | none => .ok segs

/-- Both runs (R91): the segments of run A and of run B. -/
inductive Verdict2 where
  | ok (a b : List Seg)
  | reject (status detail : Nat)
  deriving DecidableEq, Repr

def check2 (c : Ctx) (items : List Item) : Verdict2 :=
  match check c false items [] with
  | .reject st d => .reject st d
  | .ok a =>
    match check c true items a with
    | .reject st d => .reject st d
    | .ok b => .ok a b

/-- The reservation or earmark of an order on pack n (R93): run A for Class A and RESERVE, run B for Class B. The rule names every
Class A order, so an ABSORB of Class A too, by the flow that R91 records at the pack that receives it (log 16). -/
def claim (a b : List Seg) (i : Item) (n : Nat) : Nat :=
  if i.op = opReserve then (if i.target = 8 + n then i.e else 0)
  else if i.cls = 0 then flowEnergy a i n
  else if i.cls = 1 then flowEnergy b i n
  else 0

/-- What each stage carries in a segment, all orders together (R98). -/
def segShares (g : Seg) : List StageShare :=
  let hs := (g.takes.flatMap (·.2)).flatMap (·.hops)
  (List.range 8).flatMap (fun n =>
    match hs.find? (fun h => h.1 == n) with
    | none => []
    | some h => [⟨n, h.2.1, (hs.filter (fun x => x.1 == n)).foldl (fun a x => a + x.2.2) 0⟩])

end Sys2Proof.Machine
end

