-- ==== Sys2Proof/Machine/Holds.lean ====
section
/-! DEFINITION. The units that Harrow holds (spec/13_faults_and_watchdog.md R372–R374, R378), read off the fault instances. -/

namespace Sys2Proof.Machine

/-- The effective class of an ID (R374): the higher of CLASS and MIN_CLASS; 5 to 7 act as 4. -/
def State.effClass (s : State) (id : Nat) : Nat :=
  min 4 (max (s.f (R.HRW_ID_CFG id) F.HRW_ID_CFG_CLASS) (s.f (R.HRW_ID_CFG id) F.HRW_ID_CFG_MIN_CLASS))

/-- An instance that holds its unit: ACTIVE or QUIET under Trip or Lockout, or LOCKED (R372, R377). -/
def HrwInst.holds (h : HrwInst) : Bool :=
  match h.st with
  | .active => h.cls == 2 || h.cls == 3
  | .quiet => true
  | .locked => true
  | _ => false

/-- The instances that hold something: ID, instance number, record. -/
def State.holders (s : State) : List (Nat × Nat × HrwInst) :=
  (s.hrw.filter (fun p => p.2.holds)).map (fun p => (p.1 / 16, p.1 % 16, p.2))

/-- The stages that a fault names (R373). -/
def State.unitStages (s : State) (id inst : Nat) : List Nat :=
  if id < 0x20 then List.range 8
  else if id < 0x40 then
    if id = 0x22 then (List.range 8).filter (fun n => s.stInGroup n inst)
    else if id = 0x29 then s.stagesInto inst
    else if inst < 8 then [inst] else []
  else if id = 0x65 ∨ id = 0x66 then s.stagesInto inst
  else []

/-- The IDs whose held unit is a pack's charge function (R373). -/
def chargeIds : List Nat := [0x42, 0x50, 0x51, 0x52, 0x53, 0x54, 0x55, 0x58, 0x59]

def unitCharge (id : Nat) (h : HrwInst) : Bool :=
  chargeIds.contains id || (id == 0x5B && (h.record.getD 8 0#8).toNat == 0)

def unitPack (id : Nat) (h : HrwInst) : Bool :=
  decide (0x40 ≤ id ∧ id < 0x60) && !chargeIds.contains id && id != 0x4E
    && !(id == 0x5B && (h.record.getD 8 0#8).toNat == 0)

/-- The ring pair that a record names (R373). -/
def unitPair (id : Nat) (h : HrwInst) : Option Nat :=
  if id = 0x91 ∨ id = 0x97 then
    (let b := (h.record.getD 0 0#8).toNat
     if b < 32 then some b else none)
  else if id = 0x95 ∨ id = 0x96 then
    (if bitsOf (h.record.getD 0 0#8).toNat 4 3 = 0 then none else some ((h.record.getD 1 0#8).toNat % 32))
  else none

def State.heldStage (s : State) (n : Nat) : Bool :=
  s.holders.any (fun h => (s.unitStages h.1 h.2.1).contains n)
/-- A stage that Harrow has locked out (R120, R378). -/
def State.lockedStage (s : State) (n : Nat) : Bool :=
  s.holders.any (fun h => h.2.2.st == .locked && (s.unitStages h.1 h.2.1).contains n)
def State.heldCharge (s : State) (i : Nat) : Bool :=
  s.holders.any (fun h => h.2.1 == i && unitCharge h.1 h.2.2)
def State.heldPack (s : State) (i : Nat) : Bool :=
  s.holders.any (fun h => h.2.1 == i && unitPack h.1 h.2.2)
def State.heldCan (s : State) (n : Nat) : Bool := s.holders.any (fun h => h.1 == 0x4E && h.2.1 == n)
/-- A CAN port that transmits and receives: on, not bus-off, not held (R373), with CLK_REF in use (R407). -/
def State.canLive (s : State) (n : Nat) : Bool :=
  s.flag (R.CAN_CFG n) F.CAN_CFG_EN && s.f (R.CAN_STATUS n) F.CAN_STATUS_STATE != 2 && !s.heldCan n
    && !s.flag R.CLK_STATUS F.CLK_STATUS_REF_FALLBACK
/-- A port that sends and takes FD frames (log 29). -/
def State.canFd (s : State) (n : Nat) : Bool := s.canLive n && s.flag (R.CAN_CFG n) F.CAN_CFG_FD
def State.heldFabric (s : State) : Bool := s.holders.any (fun h => h.1 == 0x60)
def State.heldInput (s : State) (n : Nat) : Bool :=
  s.holders.any (fun h => (h.1 == 0x61 || h.1 == 0x62 || h.1 == 0x67) && h.2.1 == n)
def State.heldSwitch (s : State) (w : Nat) : Bool :=
  s.holders.any (fun h => (h.1 == 0x63 || h.1 == 0x64 || h.1 == 0x68) && h.2.1 == w)
def State.heldPort (s : State) (n : Nat) : Bool :=
  s.holders.any (fun h => decide (0x70 ≤ h.1 ∧ h.1 < 0x80) && h.2.1 == n)
def State.heldCoord (s : State) (n : Nat) : Bool :=
  s.holders.any (fun h => decide (0x80 ≤ h.1 ∧ h.1 < 0x90) && h.2.1 == n)
def State.heldPair (s : State) (p : Nat) : Bool :=
  s.holders.any (fun h => unitPair h.1 h.2.2 == some p)

/-- The fabric serves: STATE is VALID, and fault 0x60 does not hold it (R28). -/
def State.fabricServes (s : State) : Bool :=
  s.f R.FAB_STATUS F.FAB_STATUS_STATE == 2 && !s.heldFabric

/-- The power state of GLB_STATUS.PSTATE is RUN. -/
def State.inRun (s : State) : Bool := s.f R.GLB_STATUS F.GLB_STATUS_PSTATE == 3
def State.runReady (s : State) : Bool := s.flag R.GLB_STATUS F.GLB_STATUS_RUN_READY

/-- The VSEL group that a rail belongs to, if its group is active (R133, R134). -/
def State.vselOf (s : State) (rail : Nat) : Option Nat :=
  (List.range 2).find? (fun g =>
    s.flag (R.VSEL_CFG g) F.VSEL_CFG_EN && bitsOf (s.f (R.VSEL_CFG g) F.VSEL_CFG_RAIL_MASK) rail 1 == 1)

end Sys2Proof.Machine
end

