-- ==== Sys2Proof/Machine/Plan.lean ====
section
/-! DEFINITION. The Plan table, order completions, the endings of orders and the entry checks
(spec/03_energy_orders.md R78–R82, R85, R88, R93, R97, R99, R103, R104). -/

namespace Sys2Proof.Machine

/-- A completion entry (R103); bit 31 of word 0 is set when it is written. -/
def orderCpl (status op slot : Nat) (noSlot : Bool) (tag drawn code start end_ peak : Nat) : List Byte :=
  leBytes 4 (status % 256 + 256 * (op % 256) + 65536 * (slot % 4096) + 2 ^ 28 * boolNat noSlot)
    ++ leBytes 4 tag ++ leBytes 6 drawn ++ leBytes 2 code ++ leBytes 8 start ++ leBytes 6 end_ ++ leBytes 2 peak

def slotAt (s : State) (k : Nat) : Option Slot := tabFind s.plan k

def Slot.order (p : Slot) : Order := parseOrder p.entry

/-- The tag domain of a source (R78): 0 host, 1 and 2 the CAN ports. -/
def domainOf (src : Nat) : Nat := if src < 32 then 0 else src - 31

/-- b of R83: the earlier of t_out and TIME_BOUND. -/
def State.slotEnd (s : State) (p : Slot) : Nat := min p.tOut (s.absTime p.order.tBound)

/-- mJ drawn so far, in whole mJ. -/
def Slot.drawn (p : Slot) : Nat := p.nj / 1000000

/-- PEAK_POWER: 10 W units rounded up, saturating (R103). -/
def peakUnits (mw : Nat) : Nat := sat 16 (ceilDiv mw 10000)

def State.eRem (s : State) (i : Nat) : Nat := s.rd64 (R.PACK_EREM_LO i) (R.PACK_EREM_HI i)

/-- The remaining energy E(i) of an order whose interval still runs for `len` µs (R91); the products of power and time are
rounded up to whole mJ (log 17). -/
def State.orderLeft (s : State) (o : Order) (done len : Nat) : Nat :=
  if o.op = opDeliver then min (o.energy - done) (ceilDiv (o.cap * len) 1000000)
  else if o.op = opHold then ceilDiv (o.cap * len) 1000000
  else if o.op = opAbsorb then o.energy - done
  else if o.op = opChargeBy then o.energy - s.eRem (o.target - 8)
  else o.energy

/-- P(i) of R91. -/
def orderPower (o : Order) (left len : Nat) : Nat :=
  if o.op = opReserve then 0
  else if o.op = opChargeBy then (if left = 0 then 0 else if len = 0 then farFuture else ceilDiv (left * 1000000) len)
  else o.cap

/-- An order as the check sees it, over the interval [t0, t1], with the TRIM values of its admission (R34, R90, R91). -/
def State.item (s : State) (key : Nat) (o : Order) (trim : List Nat) (done t0 t1 : Nat) : Item :=
  let left := s.orderLeft o done (t1 - t0)
  { key := key, op := o.op, cls := o.cls, target := o.target, p := orderPower o left (t1 - t0), e := left, t0 := t0, t1 := t1,
    paths := if o.op = opReserve then [] else
      (s.paths o.target (o.op == opAbsorb)).filter (fun q => (maskNodes o.mask).contains (farNode q)),
    trim := trim }

/-- An order of the plan at the present time: an ACTIVE order has the interval [now, b]. -/
def State.slotItem (s : State) (k : Nat) (p : Slot) : Item :=
  s.item k p.order p.trim p.drawn (if p.active then s.us else max s.us p.tIn) (s.slotEnd p)

/-- Insert a slot into the order of acceptance. -/
def insertSeq (x : Nat × Slot) : List (Nat × Slot) → List (Nat × Slot)
  | [] => [x]
  | y :: t => if x.2.seq < y.2.seq then x :: y :: t else y :: insertSeq x t

/-- The plan in order of acceptance (R92). -/
def State.planOrder (s : State) : List (Nat × Slot) := s.plan.foldl (fun l x => insertSeq x l) []

def State.planItems (s : State) (without : List Nat) : List Item :=
  (s.planOrder.filter (fun p => !without.contains p.1)).map (fun p => s.slotItem p.1 p.2)

/-- Whether an order's claim is an earmark (Class B); else it is a reservation (Class A, RESERVE). -/
def Slot.earmarks (p : Slot) : Bool := p.order.cls == 1 && p.order.op != opReserve

/-- Sum of the reservations or earmarks on pack n: of the orders in the plan, and what orders that ended in this tick have left (R88). -/
def State.sumClaims (s : State) (n : Nat) (classB : Bool) : Nat :=
  s.plan.foldl (fun a p => a + (if p.2.earmarks == classB then p.2.res.getD n 0 else 0))
    ((if classB then s.releasedB else s.releasedA).getD n 0)

/-- What remains of the claims of an order that ends is released at the next tick (R88). -/
def State.releaseClaims (s : State) (p : Slot) : State :=
  let add := fun (l : List Nat) => [0, 1, 2, 3].map (fun n => l.getD n 0 + p.res.getD n 0)
  if p.earmarks then { s with releasedB := add s.releasedB } else { s with releasedA := add s.releasedA }

/-- MODEL_PACK_x_RESERVED and DRILL_PACK_x_EARMARK read the sums (R93). -/
def State.showClaims (s : State) : State :=
  s.each [0, 1, 2, 3] (fun i s =>
    (s.wr64 (R.MODEL_PACK_RESERVED_LO i) (R.MODEL_PACK_RESERVED_HI i) (s.sumClaims i false)).wr64
      (R.DRILL_PACK_EARMARK_LO i) (R.DRILL_PACK_EARMARK_HI i) (s.sumClaims i true))

/-- Whether an order of the plan names a unit (R57). -/
def State.unitNamed (s : State) (n : Nat) : Bool := s.plan.any (fun p => p.2.order.unit == n)

/-- BUSY follows the plan; when it falls, STALL_ACC clears (R57, R59). -/
def State.showBusy (s : State) : State :=
  s.each [0, 1, 2, 3, 4, 5] (fun n s =>
    let was := s.flag (R.COORD_STATUS n) F.COORD_STATUS_BUSY
    let is := s.unitNamed n
    let s := s.setF (R.COORD_STATUS n) F.COORD_STATUS_BUSY (boolNat is)
    if was && !is && n < 4 then
      (s.setF (R.COORD_STATUS n) F.COORD_STATUS_STALL_ACC 0).setCoord n
        { s.coord n with stallUs := 0, farUp := s.coordLin n, farDown := s.coordLin n }
    else s)

/-- What follows every change of the plan: PLAN_USED and the BUSY flags. -/
def State.planShown (s : State) : State :=
  (s.setF R.DRILL_STATUS F.DRILL_STATUS_PLAN_USED s.plan.length).showBusy

def State.setSlot (s : State) (k : Nat) (p : Slot) : State := { s with plan := tabInsert s.plan k p }

/-- The stages on the paths of a node. -/
def State.pathStages (s : State) (target : Nat) (absorb : Bool) : List Nat :=
  (List.range 8).filter (fun n => (s.paths target absorb).any (fun q => q.any (fun h => h.stage == n)))

/-- ENERGY_DRAWN (R103): of a CHARGE_BY, what E_REM has gained since its activation (R194). -/
def State.energyDrawn (s : State) (p : Slot) : Nat :=
  if p.order.op = opReserve then 0
  else if p.order.op = opChargeBy then (if p.started = 0 then 0 else s.eRem (p.order.target - 8) - p.eStart)
  else p.drawn

/-- The BREACH record of R97 and R363: tag, slot, opcode, class, code, energy, and the model values of the tick. -/
def State.breachBody (s : State) (k : Nat) (p : Slot) (code : Nat) : List Byte :=
  let o := p.order
  leBytes 4 o.tag ++ leBytes 2 k ++ leBytes 1 o.op ++ leBytes 1 o.cls ++ leBytes 2 code ++ leBytes 6 (s.energyDrawn p)
    ++ leBytes 4 (s.eAvail 0 / 1000) ++ leBytes 4 (s.eAvail 1 / 1000) ++ leBytes 4 (s.eAvail 2 / 1000)
    ++ leBytes 4 (s.eAvail 3 / 1000)
    ++ leBytes 4 (sat 32 (([12, 13, 14, 16, 17, 18].map s.budget).foldl (· + ·) 0))
    ++ leBytes 4 (sat 32 (((s.pathStages o.target (o.op == opAbsorb)).map s.headroom).foldl (· + ·) 0))

/-- An order ends (R85): its final completion is written, a BREACH is logged and counted, and its slot is free. -/
def State.endSlot (s : State) (k : Nat) (p : Slot) (status code : Nat) : State :=
  let o := p.order
  let s := s.complete p.src
    (orderCpl status o.op k false o.tag (s.energyDrawn p) code
      (if p.started = 0 then 0 else timeCoord p.started) s.now48 (peakUnits p.peak)) o.irq
  let s := if status = 0x30 then
      ((s.wrN R.DRILL_CNT_BREACH (s.rdN R.DRILL_CNT_BREACH + 1)).bbBreach (domainOf p.src) (s.breachBody k p code)).incCounter 2
    else s
  (({ s with plan := tabErase s.plan k }).releaseClaims p).planShown

/-- End an order with a breach; a Class C order ends with WINDOW_CLOSED instead (R85). -/
def State.breachSlot (s : State) (k : Nat) (p : Slot) (code : Nat) : State :=
  if p.order.cls = 2 then s.endSlot k p 0x21 0 else s.endSlot k p 0x30 code

/-! The endings of R85 that stand at a moment. A time passes when the present is later. -/

/-- Do something with the order in a slot; a free slot has none. -/
def State.withSlot (s : State) (k : Nat) (g : Slot → State → State) : State :=
  match slotAt s k with
  | some p => g p s
  | none => s

/-- COORD_4 is STALE: its orders are carried on their held intervals alone (R86). -/
def State.mainsStale (s : State) : Bool := s.flag (R.COORD_STATUS 4) F.COORD_STATUS_STALE

/-- The coordinate lies in the window of an order (R83). -/
def State.windowOpen (s : State) (p : Slot) : Bool :=
  let o := p.order
  if o.unit < 4 then
    let m := s.coordM o.unit
    let a := linTravel m o.wStart
    let b := linTravel m o.wEnd
    decide (min a b ≤ s.coordLin o.unit ∧ s.coordLin o.unit ≤ max a b)
  else if o.unit = 4 then
    if s.mainsStale then decide (p.tIn ≤ s.us)
    else decide (0 ≤ plainDist 1024 (s.coordPos 4) o.wStart ∧ 0 ≤ plainDist 1024 o.wEnd (s.coordPos 4))
  else decide (s.absTime o.wStart ≤ s.us)

/-- The window of an order has closed (R83): the coordinate has left it in the direction of travel, or passed its end. -/
def State.windowClosed (s : State) (p : Slot) : Bool :=
  let o := p.order
  if o.unit < 4 then
    let m := s.coordM o.unit
    let a := linTravel m o.wStart
    let b := linTravel m o.wEnd
    let x := s.coordLin o.unit
    if s.travelDir o.unit = 0 then decide (max a b < x)
    else if s.travelDir o.unit = 1 then decide (x < min a b)
    else p.entered && decide (max a b < x ∨ x < min a b)
  else if o.unit = 4 then
    if s.mainsStale then p.active && decide (s.slotEnd p < s.us) else decide (0 < plainDist 1024 (s.coordPos 4) o.wEnd)
  else decide (s.absTime o.wEnd < s.us)

/-- ENERGY is reached. -/
def State.energyReached (s : State) (p : Slot) : Bool :=
  let o := p.order
  if o.op = opDeliver ∨ o.op = opAbsorb then p.active && decide (o.energy * 1000000 ≤ p.nj)
  else o.op == opChargeBy && p.active && decide (o.energy ≤ s.eRem (o.target - 8))

def State.endEnergy (s : State) (k : Nat) : State :=
  s.withSlot k fun p s => if s.energyReached p then s.endSlot k p 0x00 0 else s

/-- WINDOW_END of a CHARGE_BY passes before its energy is reached. -/
def State.endDeadline (s : State) (k : Nat) : State :=
  s.withSlot k fun p s =>
    let o := p.order
    if o.op = opChargeBy ∧ s.absTime o.wEnd < s.us ∧ s.eRem (o.target - 8) < o.energy then s.breachSlot k p 0x000A else s

/-- The window closes; a CHARGE_BY has its deadline instead. -/
def State.endClosed (s : State) (k : Nat) : State :=
  s.withSlot k fun p s =>
    let o := p.order
    if o.op = opChargeBy ∨ s.windowClosed p = false then s
    else if o.op = opReserve ∨ o.op = opHold then s.endSlot k p 0x00 0
    else s.endSlot k p 0x21 0

/-- The held t_out of an order on a travel unit passes. -/
def State.endTout (s : State) (k : Nat) : State :=
  s.withSlot k fun p s =>
    let o := p.order
    if ¬ o.unit < 4 ∨ s.us ≤ p.tOut then s
    else if o.op = opReserve then s.endSlot k p 0x00 0
    else if !p.active then s.endSlot k p 0x31 0
    else s.breachSlot k p 0x0008

/-- TIME_BOUND of an order passes. -/
def State.endBound (s : State) (k : Nat) : State :=
  s.withSlot k fun p s =>
    let o := p.order
    if s.us ≤ s.absTime o.tBound then s
    else if o.op = opReserve then s.endSlot k p 0x00 0
    else if !p.active then s.endSlot k p 0x31 0
    else if o.op = opHold then s.endSlot k p 0x00 0
    else if o.op = opChargeBy then s.breachSlot k p 0x000A
    else s.endSlot k p 0x21 0

/-- The target's voltage has been outside the window for 3 ticks in a row (R96). -/
def State.endVolt (s : State) (k : Nat) : State :=
  s.withSlot k fun p s =>
    if p.active ∧ p.order.cls < 2 ∧ (p.order.op = opDeliver ∨ p.order.op = opHold) ∧ 3 ≤ p.bad then s.breachSlot k p 0x0007
    else s

/-- The natural ending that an order has reached, if any (R85, R100). -/
def State.endNatural (s : State) (k : Nat) : State :=
  (((((s.endEnergy k).endDeadline k).endClosed k).endTout k).endBound k).endVolt k

/-- A Safe-state action ends every order (R95): Class A and B with BREACH SAFE_STATE, Class C with WINDOW_CLOSED. -/
def State.endAllSafe (s : State) : State :=
  s.planOrder.foldl (fun s x => s.breachSlot x.1 x.2 0x0009) s

/-- Every CHARGE_BY order on a pack whose charge function enters Lockout ends with CHARGE_LOCKED (R95). -/
def State.endChargeLocked (s : State) (i : Nat) : State :=
  (s.planOrder.filter (fun x => x.2.order.op == opChargeBy && x.2.order.target == 8 + i)).foldl
    (fun s x => s.breachSlot x.1 x.2 0x000B) s

/-! The entry checks of R81. -/

/-- A unit on which an order may be placed (R56): not STALE, not off, bounds declared, no lasting flag, not held (R373). -/
def State.unitUsable (s : State) (n : Nat) : Bool :=
  let st := R.COORD_STATUS n
  s.f (R.COORD_CFG n) F.COORD_CFG_MODE != 0 && !s.flag st F.COORD_STATUS_STALE && !s.heldCoord n
    && (if n < 4 then s.vmin n != 0 && s.vmax n != 0 && s.travelDir n != 3 && !s.flag st F.COORD_STATUS_STALL
          && !s.flag st F.COORD_STATUS_SPEED_ERR
        else if n = 4 then !s.flag st F.COORD_STATUS_SPEED_ERR else true)

/-- A port that serves as Source under an explicit contract (R82). -/
def State.portSources (s : State) (n : Nat) : Bool :=
  s.flag (R.PORT_STATUS n) F.PORT_STATUS_PWR_ROLE && s.flag (R.PORT_STATUS n) F.PORT_STATUS_EXPLICIT

/-- R81, first row: reserved bits, malformed coordinates, unknown codes. `argOk`: whether ARG may be non-zero here. -/
def State.fieldBad (s : State) (o : Order) (first : Bool) : Bool :=
  o.resWord != 0 || o.resEnergy != 0 || o.resTail != 0 || !o.known || o.cls == 3 || decide (o.unit ≥ 6) || o.target == 15
    || decide (o.mask ≥ 1024)
    || (o.arg != 0 && o.op != opCancel && !first)
    || (if o.op = opCancel then false
        else if o.op = opFence then !coordOk false 1000 o.tBound
        else !coordOk (travelUnit o.unit) (s.coordM o.unit) o.wStart || !coordOk (travelUnit o.unit) (s.coordM o.unit) o.wEnd
          || !coordOk false 1000 o.tBound)

/-- R81, second row. -/
def State.targetBad (s : State) (o : Order) : Bool :=
  if o.op = opCancel ∨ o.op = opFence then o.target != 0
  else
    let t := o.target
    !s.fabricServes || !s.declared t
      || (if o.op = opDeliver ∨ o.op = opHold then
            !(isRail t || (isPort t && s.portSources (t - 12)))
          else if o.op = opAbsorb then !isRail t
          else !isPack t)
      || (o.op != opReserve && (s.paths t (o.op == opAbsorb)).isEmpty)

/-- The contracted voltage of a port (mV). -/
def State.contractMv (s : State) (n : Nat) : Nat := s.f (R.PORT_CONTRACT n) F.PORT_CONTRACT_V

/-- R81, third row: the voltage window and the zero-field rules of R80, and R82 for a port; the other rules of R80's table on
SOURCE_MASK and COORD have no row of their own and count here (DESIGN CHOICE, log 60). -/
def State.fieldsBad (s : State) (o : Order) : Bool :=
  let src := maskNodes o.mask
  if o.op = opCancel then
    o.energy != 0 || o.cap != 0 || o.vMin != 0 || o.vMax != 0 || o.wStart != 0 || o.wEnd != 0 || o.tBound != 0 || o.unit != 0
      || o.mask != 0
  else if o.op = opFence then
    o.energy != 0 || o.cap != 0 || o.vMin != 0 || o.vMax != 0 || o.wStart != 0 || o.wEnd != 0 || o.unit != 5 || o.mask != 0
  else
    let win := decide (o.vMin < o.vMax) && decide (s.nodeVmin o.target ≤ o.vMin) && decide (o.vMax ≤ s.nodeVmax o.target)
    if o.op = opReserve then o.energy == 0 || o.cap != 0 || o.vMin != 0 || o.vMax != 0 || o.mask != 0
    else if o.op = opChargeBy then
      o.energy == 0 || o.vMin != 0 || o.vMax != 0 || o.unit != 5 || src.isEmpty || src.contains o.target
    else
      !win || o.cap == 0 || src.isEmpty
        || (if o.op = opHold then o.energy != 0 else o.energy == 0)
        || (o.op == opAbsorb && !src.all isPack)
        || (isPort o.target && !(decide (o.vMin ≤ s.contractMv (o.target - 12)) && decide (s.contractMv (o.target - 12) ≤ o.vMax)))

/-- R81: the window of an order on a VSEL rail contains all eight setpoints of its group. -/
def State.vselBad (s : State) (o : Order) : Bool :=
  if o.windowed && isRail o.target then
    match s.vselOf o.target with
    | none => false
    | some g => !(List.range 8).all (fun k =>
        decide (o.vMin ≤ s.f (R.VSEL_SP g k) F.VSEL_SP_SP) && decide (s.f (R.VSEL_SP g k) F.VSEL_SP_SP ≤ o.vMax))
  else false

/-- Whether an order of a source's domain in the plan carries a tag (R78). -/
def State.tagSlot (s : State) (src tag : Nat) : Option (Nat × Slot) :=
  s.plan.find? (fun p => domainOf p.2.src == domainOf src && p.2.order.tag == tag)

/-- R81: the class rules of R80. -/
def classBad (o : Order) : Bool :=
  if o.op = opCancel ∨ o.op = opFence ∨ o.op = opReserve then o.cls != 0
  else (o.op == opAbsorb && o.cls == 1)
    || (o.cls == 0 && !(maskNodes o.mask).any (fun n => isPack n && n != o.target))

/-- R81: the reference of the target rail cannot reach the window by t_in; a VSEL rail follows its pins (R134). -/
def State.slewBad (s : State) (o : Order) (tIn : Nat) : Bool :=
  if (o.op == opDeliver || o.op == opHold) && isRail o.target && (s.vselOf o.target).isNone then
    let ref := s.f (R.RAIL_STATUS o.target) F.RAIL_STATUS_REF
    let d := (o.vMin - ref) + (ref - o.vMax)
    decide (d * 10 > max 1 (s.f (R.RAIL_CFG o.target) F.RAIL_CFG_SLEW) * (tIn - s.us))
  else false

/-- The voltage window of an order on a node over its interval. -/
structure Win where
  node : Nat
  vMin : Nat
  vMax : Nat
  t0 : Nat
  t1 : Nat
  deriving DecidableEq, Repr

/-- The windows of the plan, without some slots. -/
def State.planWins (s : State) (without : List Nat) : List Win :=
  (s.plan.filter (fun p => p.2.order.windowed && !without.contains p.1)).map (fun p =>
    ⟨p.2.order.target, p.2.order.vMin, p.2.order.vMax, if p.2.active then s.us else p.2.tIn, s.slotEnd p.2⟩)

def winClash (w : Win) (ws : List Win) : Bool :=
  ws.any (fun v => v.node == w.node && decide (v.t0 ≤ w.t1 ∧ w.t0 ≤ v.t1) && decide (w.vMax < v.vMin ∨ v.vMax < w.vMin))

/-- What a member of a group is checked against: the slots its CANCEL members remove, the tags and windows of the members
before it. -/
structure GroupCtx where
  group : Bool
  removed : List Nat
  tags : List Nat
  wins : List Win
  deriving DecidableEq, Repr

/-- The result of the entry checks: a rejection, or the held interval. -/
inductive Entry where
  | reject (status detail : Nat)
  | ok (tIn tOut : Nat)
  deriving DecidableEq, Repr

/-- The checks of R81 that concern the window, in order. -/
def State.windowCheck (s : State) (o : Order) (g : GroupCtx) : Entry :=
  if !s.unitUsable o.unit then .reject 0x12 0x0108
  else
    match s.project o.unit o.wStart o.wEnd with
    | none => .reject 0x12 0x0109
    | some (tIn, tOut) =>
      let tb := s.absTime o.tBound
      if tb ≤ tIn then .reject 0x12 0x010A
      else if s.slewBad o tIn then .reject 0x12 0x010B
      else if o.windowed && winClash ⟨o.target, o.vMin, o.vMax, tIn, min tOut tb⟩ (s.planWins g.removed ++ g.wins) then
        .reject 0x12 0x010E
      else if s.anySafe then .reject 0x11 0x010D
      else .ok tIn tOut

/-- The entry checks of R81 for one member, in order; the first that fails decides. -/
def State.entryCheck (s : State) (src : Nat) (o : Order) (first : Bool) (g : GroupCtx) : Entry :=
  if s.fieldBad o first then .reject 0x15 0x0100
  else if s.targetBad o then .reject 0x15 0x0102
  else if s.fieldsBad o then .reject 0x15 0x0103
  else if s.vselBad o then .reject 0x15 0x0104
  else if o.op != opCancel && o.op != opFence
      && ((match s.tagSlot src o.tag with | some p => !g.removed.contains p.1 | none => false) || g.tags.contains o.tag) then
    .reject 0x15 0x0105
  else if o.op == opCancel && g.group && (s.tagSlot src o.arg).isNone then .reject 0x15 0x0106
  else if classBad o then .reject 0x14 0x0107
  else if o.op = opCancel ∨ o.op = opFence then .ok s.us farFuture
  else s.windowCheck o g

/-- R91: a CHARGE_BY whose power exceeds PCHG or its cap. -/
def State.chargePowerBad (s : State) (o : Order) (p : Nat) : Option (Nat × Nat) :=
  if o.op = opChargeBy then
    let n := o.target - 8
    if p > s.pChg n then some (0x11, 0x0230 + n)
    else if o.cap ≠ 0 ∧ p > o.cap then some (0x11, 0x0234 + n)
    else none
  else none

end Sys2Proof.Machine
end

