-- ==== Sys2Proof/Machine/Admit.lean ====
section
/-! DEFINITION. ADMIT (spec/03_energy_orders.md R92, R93), rejections and acceptance, CANCEL, FENCE, chained groups
(R99–R101), and re-validation (R94, R95). -/

namespace Sys2Proof.Machine

/-- A rejection (R81, R104): its completion, the count and the latest status. -/
def State.rejectOrder (s : State) (src : Nat) (o : Order) (status detail : Nat) : State :=
  let s := s.complete src (orderCpl status o.op 0 true o.tag 0 detail s.now48 s.now48 0) o.irq
  let s := s.wrN R.DRILL_CNT_REJECT (s.rdN R.DRILL_CNT_REJECT + 1)
  (s.hwSet R.DRILL_LAST_REJECT F.DRILL_LAST_REJECT_STATUS status).hwSet R.DRILL_LAST_REJECT F.DRILL_LAST_REJECT_DETAIL detail

/-- A group is rejected: member j carries its own status and detail, every other member REJECT_CHAIN (R99). -/
def State.rejectGroup (s : State) (src : Nat) (os : List Order) (j status detail : Nat) : State :=
  (os.zipIdx).foldl (fun s x =>
    if x.2 = j then s.rejectOrder src x.1 status detail else s.rejectOrder src x.1 0x16 0x010C) s

/-- The faults of a chain's form (R99). -/
def chainBad (os : List Order) : Bool :=
  decide (os.length > 8) || decide (os.length < 2)
    || ((os.head?).map (fun o => o.arg != os.length || o.op == opCancel)).getD true
    || !(os.dropLast).all (·.chain) || ((os.getLast?).map (·.chain)).getD true
    || os.any (fun o => o.op == opFence)

/-- The held intervals of the members, or the member that fails with its status and detail. -/
def State.entryChecks (s : State) (src : Nat) (g : GroupCtx) : Nat → List Order → Except (Nat × Nat × Nat) (List (Nat × Nat))
  | _, [] => .ok []
  | j, o :: os =>
    match s.entryCheck src o (g.group && j == 0) g with
    | .reject st d => .error (j, st, d)
    | .ok tIn tOut =>
      let g' := if o.op = opCancel then g else
        { g with tags := g.tags ++ [o.tag],
                 wins := if o.windowed then g.wins ++ [⟨o.target, o.vMin, o.vMax, tIn, min tOut (s.absTime o.tBound)⟩]
                         else g.wins }
      match s.entryChecks src g' (j + 1) os with
      | .error e => .error e
      | .ok l => .ok ((tIn, tOut) :: l)

/-- The first member whose power as a CHARGE_BY is refused (R91). -/
def State.chargeChecks (s : State) : Nat → List (Order × Item) → Option (Nat × Nat × Nat)
  | _, [] => none
  | j, (o, i) :: t =>
    match s.chargePowerBad o i.p with
    | some (st, d) => some (j, st, d)
    | none => s.chargeChecks (j + 1) t

/-- Which member the check fails on: the first whose addition, in group order, makes a run fail (log 18). -/
def culprit (c : Ctx) (base : List Item) : List Item → List Item → Nat → Nat
  | _, [], j => j - 1
  | done, i :: t, j =>
    match check2 c (base ++ done ++ [i]) with
    | .reject _ _ => j
    | .ok _ _ => culprit c base (done ++ [i]) t (j + 1)

/-- Take the lowest-numbered free slot (R92). -/
def State.freeSlot (s : State) : Nat := (tabFreeFrom s.plan 4096 0).getD 0

/-- One order is accepted: its slot, its claims, its ACCEPTED completion (R92, R93, R104). -/
def State.acceptOrder (s : State) (src : Nat) (entry : List Byte) (tIn tOut : Nat) (res : List Nat) : State :=
  let o := parseOrder entry
  let k := s.freeSlot
  let s := ({ s with planSeq := s.planSeq + 1 }).setSlot k
    { entry := entry, src := src, seq := s.planSeq, tIn := tIn, tOut := tOut, res := res, trim := s.trim }
  let s := s.wrN R.DRILL_CNT_ACCEPT (s.rdN R.DRILL_CNT_ACCEPT + 1)
  let s := s.complete src (orderCpl 0x01 o.op k false o.tag 0 0 s.now48 0 0) false
  let s := s.planShown
  if o.op == opChargeBy && decide (o.energy ≤ s.eRem (o.target - 8)) then
    match slotAt s k with
    | some p => s.endSlot k p 0x00 0
    | none => s
  else s

/-- A CANCEL that has passed its checks (R100), of the order in a slot (none: no order matched): the order ends CANCELLED, and the
CANCEL completes; an ending that the order has reached by itself wins. -/
def State.doCancel (s : State) (src : Nat) (o : Order) (named : Option Nat) : State :=
  let s := match named with
    | some k => s.endNatural k
    | none => s
  match named.bind (fun k => (slotAt s k).map (fun p => (k, p))) with
  | some (k, p) =>
    (s.endSlot k p 0x20 0).complete src (orderCpl 0x00 o.op k false o.tag 0 0 0 s.now48 0) o.irq
  | none => s.complete src (orderCpl 0x00 o.op 0 true o.tag 0 0 0 s.now48 0) o.irq

/-- A FENCE that has passed its checks holds its source back (R101). -/
def State.doFence (s : State) (src : Nat) (entry : List Byte) : State :=
  s.setSrc src { s.srcRt src with fence := some (entry, s.planSeq) }

/-- Accept the members in group order; `named` gives the slot that each tag had as the decision was made: a CANCEL removes that
order, not a member of its own group (R92). -/
def State.acceptAll (s : State) (src : Nat) (named : Nat → Option Nat) (claims : Nat → List Nat) :
    Nat → List (List Byte × Nat × Nat) → State
  | _, [] => s
  | j, (e, tIn, tOut) :: t =>
    let o := parseOrder e
    let s := if o.op = opCancel then s.doCancel src o (named o.arg)
      else if o.op = opFence then s.doFence src e
      else s.acceptOrder src e tIn tOut (claims j)
    s.acceptAll src named claims (j + 1) t

def newKey (j : Nat) : Nat := 2 ^ 20 + j

/-- ADMIT of R92 for one entry or for a group whose form is sound. -/
def State.admitEntries (s : State) (src : Nat) (entries : List (List Byte)) : State :=
  let os := entries.map parseOrder
  let group := decide (1 < os.length)
  let named := fun tag => (s.tagSlot src tag).map (·.1)
  let removed := (os.filter (fun o => o.op == opCancel && group)).filterMap (fun o => (s.tagSlot src o.arg).map (·.1))
  match s.entryChecks src ⟨group, removed, [], []⟩ 0 os with
  | .error (j, st, d) => s.rejectGroup src os j st d
  | .ok ivs =>
    let all := (entries.zip ivs).zipIdx
    let takers := all.filter (fun x => (parseOrder x.1.1).op != opCancel && (parseOrder x.1.1).op != opFence)
    let first := (takers.head?.map (·.2)).getD 0
    if 4096 - s.plan.length < takers.length then s.rejectGroup src os first 0x13 0x0000
    else
      let items := takers.map (fun x =>
        let o := parseOrder x.1.1
        (x.2, o, s.item (newKey x.2) o s.trim 0 x.1.2.1 (min x.1.2.2 (s.absTime o.tBound))))
      match s.chargeChecks 0 (items.map (fun x => (x.2.1, x.2.2))) with
      | some (j, st, d) => s.rejectGroup src os ((items[j]?.map (·.1)).getD 0) st d
      | none =>
        if items.any (fun x => x.2.1.cls == 0 || x.2.1.cls == 1 || x.2.1.op == opReserve) then
          let c := s.ctx
          let base := s.planItems removed
          match check2 c (base ++ items.map (·.2.2)) with
          | .reject _ _ =>
            let k := culprit c base [] (items.map (·.2.2)) 0
            let j := (items[k]?.map (·.1)).getD 0
            match check2 c (base ++ (items.map (·.2.2)).take (k + 1)) with
            | .reject st d => s.rejectGroup src os j st d
            | .ok _ _ => s.rejectGroup src os j 0x11 0x0300
          | .ok a b =>
            let claims := fun j =>
              match items.find? (fun x => x.1 == j) with
              | some x => [0, 1, 2, 3].map (claim a b x.2.2)
              | none => [0, 0, 0, 0]
            let s := s.acceptAll src named claims 0 (entries.zip (ivs.map (fun p => p)) |>.map (fun x => (x.1, x.2.1, x.2.2)))
            ({ s with alloc := b.map (fun (g : Seg) => (⟨g.t0, g.t1, segShares g⟩ : SegAlloc)) }).showClaims
        else
          (s.acceptAll src named (fun _ => [0, 0, 0, 0]) 0 ((entries.zip ivs).map (fun x => (x.1, x.2.1, x.2.2)))).showClaims

/-- The entry leaves the front of its source's waiting list, where it stands there. -/
def State.takeEntry (s : State) (src : Nat) (e : List Byte) : State :=
  match (s.srcRt src).waiting with
  | x :: t => if x = e then (s.setSrc src { s.srcRt src with waiting := t, ticks := (s.srcRt src).ticks.drop 1, ats := (s.srcRt src).ats.drop 1 }).setPair src { s.pair src with headAt := s.cyc } else s
  | [] => s

/-- Entries arrive at a source and wait, with the tick (R77) and the cycle (R288) of their arrival. -/
def SrcRt.arrive (r : SrcRt) (tick cyc : Nat) (es : List (List Byte)) : SrcRt :=
  { r with waiting := r.waiting ++ es, ticks := r.ticks ++ es.map (fun _ => tick), ats := r.ats ++ es.map (fun _ => cyc) }

/-- The entry waits with its source, unless it stands at the front already. -/
def State.queueEntry (s : State) (src : Nat) (e : List Byte) : State :=
  if (s.srcRt src).waiting.head? = some e then s else s.setSrc src ((s.srcRt src).arrive s.tick s.cyc [e])

/-- Drill takes entries of a source: the block is RUN-ready and in RUN, and no FENCE holds the source (R101, R395, R401). -/
def State.drillTakes (s : State) (src : Nat) : Bool := s.runReady && s.inRun && (s.srcRt src).fence.isNone

/-- Entries reach admission in the order in which they were submitted (R77): nothing waits before these. -/
def State.atFront (s : State) (src : Nat) (es : List (List Byte)) : Bool :=
  (s.srcRt src).waiting.isEmpty || es.isPrefixOf (s.srcRt src).waiting

/-- The tick in which the entry at the front of a source arrived; the present one, where it has not waited. -/
def State.frontTick (s : State) (src : Nat) : Nat := (s.srcRt src).ticks.headD s.tick

/-- The rank of a source among those ready in the same tick (R77): the CAN ports first, then the pairs by their ring priority. -/
def State.srcRank (s : State) (src : Nat) : Nat := if 32 ≤ src then 0 else 1 + s.f (R.RING_CFG src) F.RING_CFG_PRIO

/-- A source has an entry ready for admission: Drill takes entries from it, and what waits at its front is whole. -/
def State.srcReady (s : State) (src : Nat) : Bool :=
  s.drillTakes src && (s.srcRt src).waiting.any (fun e => !(parseOrder e).chain)
    && (decide (32 ≤ src) || (s.f (R.RING_CFG src) F.RING_CFG_TYPE == 1 && s.f (R.RING_STATUS src) F.RING_STATUS_STATE != 0))

/-- Drill takes another source's entry first (R77): it arrived in an earlier tick, or in the same one from a source of higher rank. -/
def State.othersFirst (s : State) (src : Nat) : Bool :=
  (List.range 34).any (fun k => k != src && s.srcReady k
    && (decide (s.frontTick k < s.frontTick src)
      || (s.frontTick k == s.frontTick src && decide (s.srcRank k < s.srcRank src))))

/-- An order entry reaches Drill (R77, R101): decided, or left waiting while Drill takes none from the source or others come
before it. A first member of a group waits for the rest (R99). -/
def State.submit (s : State) (src : Nat) (e : List Byte) : State :=
  if s.drillTakes src && !(parseOrder e).chain && s.atFront src [e] && !s.othersFirst src then
    (s.takeEntry src e).admitEntries src [e]
  else s.queueEntry src e

/-- A chained group reaches Drill (R99). -/
def State.submitGroup (s : State) (src : Nat) (es : List (List Byte)) : State :=
  if s.drillTakes src && s.atFront src es && !s.othersFirst src then
    let s := es.foldl (fun s e => s.takeEntry src e) s
    let os := es.map parseOrder
    if chainBad os then s.rejectGroup src os os.length 0x16 0x010C else s.admitEntries src es
  else if es.isPrefixOf (s.srcRt src).waiting then s
  else s.setSrc src ((s.srcRt src).arrive s.tick s.cyc es)

/-! Re-validation (R94, R95). -/

/-- A trigger (R94): the re-validation runs, with the causes it has so far. -/
def State.trigReval (s : State) (code : Nat) : State :=
  ({ s with revalCause := s.revalCause ++ [code] }).setF R.DRILL_STATUS F.DRILL_STATUS_REVAL 1

/-- The orders that a failing check gives up, in turn (R95): Class B newest first, then Class A newest first. -/
def newestOf (cls : Nat) (l : List (Nat × Slot)) : Option (Nat × Slot) :=
  (l.filter (fun x => x.2.order.cls == cls && x.2.order.op != opReserve)).getLast?

def revalVictim (l : List (Nat × Slot)) : Option (Nat × Slot) :=
  match newestOf 1 l with
  | some x => some x
  | none => (l.filter (fun x => x.2.order.cls == 0 || x.2.order.op == opReserve)).getLast?

/-- The lowest applicable cause (R95); without a cause, ENERGY_SHORT. -/
def State.revalCode (s : State) : Nat := (s.revalCause.foldl (fun a c => if a = 0 ∨ c < a then c else a) 0)

/-- Remove orders until both passes succeed (R95); `fuel` bounds the orders. -/
def State.revalLoop (s : State) : Nat → State
  | 0 => s
  | fuel + 1 =>
    match check2 s.ctx (s.planItems []) with
    | .ok a b =>
      let s := { s with
        plan := s.plan.map (fun (p : Nat × Slot) => (p.1, { p.2 with res := [0, 1, 2, 3].map (claim a b (s.slotItem p.1 p.2)) })),
        alloc := b.map (fun (g : Seg) => (⟨g.t0, g.t1, segShares g⟩ : SegAlloc)) }
      s.showClaims
    | .reject _ _ =>
      match revalVictim s.planOrder with
      | none => s
      | some (k, p) => (s.breachSlot k p (if s.revalCode = 0 then 0x0006 else s.revalCode)).revalLoop fuel

/-- A re-validation ends and its outcome takes effect (R94, R95). -/
def State.revalidate (s : State) : State :=
  let s := s.revalLoop (s.plan.length + 1)
  let s := { s with revalCause := [], revalAt := s.us, revalE := (List.range 4).map s.eAvail,
                    revalP := (List.range 4).map s.pMax, revalH := (List.range 8).map s.headroom }
  s.setF R.DRILL_STATUS F.DRILL_STATUS_REVAL 0

end Sys2Proof.Machine
end

