-- ==== Sys2Proof/Machine/Records.lean ====
section
/-! DEFINITION. Reading the two-copy records of the data NVM (spec/12_nonvolatile_store.md R345, R351–R356): group reads, the places
of records, and which copy is current. -/

namespace Sys2Proof.Machine

/-! Group reads (R345). -/

def GroupStatus.good (g : GroupStatus) : Bool := g == .valid || g == .corrected

/-- The byte that a group read returns. -/
def State.nvmPeek1 (s : State) (a : Nat) : Byte := if (s.nvmGroup (a / 8)).good then s.nvmByte a else 0xFF#8

def State.nvmPeek (s : State) (a n : Nat) : List Byte := (List.range n).map (fun k => s.nvmPeek1 (a + k))

/-- The groups that hold `n` bytes from address `a`. -/
def groupsOf (a n : Nat) : List Nat := if n = 0 then [] else (List.range ((a + n - 1) / 8 + 1 - a / 8)).map (· + a / 8)

/-! Two-copy records (R351–R356). -/

/-- The place of a record: first page of copy A, pages per copy, largest LENGTH. -/
structure RecPlace where
  page : Nat
  pages : Nat
  most : Nat
  deriving DecidableEq, Repr

/-- The place of a parameter record in a parameter set (R352). -/
def recPlace (set id : Nat) : Option RecPlace :=
  let base := if set = 0 then 384 else 540
  if id = 0x100 then some ⟨base, 8, 1008⟩
  else if 0x200 ≤ id ∧ id < 0x210 then some ⟨base + 16 + 8 * (id - 0x200), 4, 496⟩
  else if 0x300 ≤ id ∧ id < 0x303 then some ⟨base + 144 + 2 * (id - 0x300), 1, 112⟩
  else if id = 0x400 then some ⟨base + 150, 2, 240⟩
  else if id = 0x500 then some ⟨base + 154, 1, 112⟩
  else none

/-- The place of a pack health record (R352); its RECORD_ID is the model's (log 28). -/
def healthPlace (i : Nat) : RecPlace := ⟨696 + 2 * i, 1, 112⟩
def healthId (i : Nat) : Nat := 0x600 + i

def RecPlace.copy (p : RecPlace) (b : Bool) : Nat := 128 * (p.page + (if b then p.pages else 0))

/-- A copy is valid (R353). -/
def State.copyValid (s : State) (p : RecPlace) (id : Nat) (b : Bool) : Bool :=
  let a := p.copy b
  let h := s.nvmPeek a 16
  let len := leAt h 8 2
  decide (len ≤ p.most) && (groupsOf a (16 + len)).all (fun g => (s.nvmGroup g).good) && leAt h 0 2 == id
    && crc32c (slice h 0 12 ++ s.nvmPeek (a + 16) len) == leAt h 12 4

def State.copySeq (s : State) (p : RecPlace) (b : Bool) : Nat := leVal (s.nvmPeek (p.copy b + 4) 4)
def State.copyLen (s : State) (p : RecPlace) (b : Bool) : Nat := leVal (s.nvmPeek (p.copy b + 8) 2)

/-- The current copy of a record: false A, true B (R353). -/
def State.currentCopy (s : State) (p : RecPlace) (id : Nat) : Option Bool :=
  let a := s.copyValid p id false
  let b := s.copyValid p id true
  if a ∧ b then some (decide (s.copySeq p false < s.copySeq p true)) else if a then some false else if b then some true
  else none

def State.seqTie (s : State) (p : RecPlace) (id : Nat) : Bool :=
  s.copyValid p id false && s.copyValid p id true && s.copySeq p false == s.copySeq p true

/-- The FORMAT of the running FIELD_IMAGE (R351). -/
def State.runBank (s : State) : FwBank := if s.fw.running1 then s.fw.bank1 else s.fw.bank0
def State.otherBank (s : State) : FwBank := if s.fw.running1 then s.fw.bank0 else s.fw.bank1
def FwBank.comp (b : FwBank) (c : Nat) : FwComp := b.comps.getD c {}
def State.paramFormat (s : State) : Nat := (s.runBank.comp 3).format

/-- The parameter set in use (R356): the other set while a trial image with a new format runs. -/
def State.recSet (s : State) : Nat := if s.fw.newFormat ∧ s.runBank.st = .trial then 1 - s.fw.pset else s.fw.pset

/-- The fabric record can be read from a copy (R38). -/
def State.fabReadable (s : State) : Bool :=
  match recPlace s.recSet 0x100 with
  | some p => s.copyValid p 0x100 false || s.copyValid p 0x100 true
  | none => false

/-! The profile image (R172–R175). -/

def profU (b : List Byte) (o n : Nat) : Nat := leAt b o n
def profS (b : List Byte) (o : Nat) : Int := toSigned 16 (leAt b o 2)
def pfMode (b : List Byte) (p : Nat) : Nat := bitsOf (leAt b (32 + 16 * p) 1) 0 2
def pfPlan (b : List Byte) (p : Nat) : Bool := bitsOf (leAt b (32 + 16 * p) 1) 7 1 == 1
def pfExit (b : List Byte) (p k : Nat) : Bool := bitsOf (leAt b (33 + 16 * p) 1) k 1 == 1
def pfNext (b : List Byte) (p : Nat) : Nat := bitsOf (leAt b (34 + 16 * p) 1) 0 3
def pfDwell (b : List Byte) (p : Nat) : Nat := max 1 (leAt b (35 + 16 * p) 1)
def pfMargin (b : List Byte) (p : Nat) : Nat := leAt b (36 + 16 * p) 2
def pfIEnd (b : List Byte) (p : Nat) : Nat := leAt b (38 + 16 * p) 2
def pfTimer (b : List Byte) (p : Nat) : Nat := leAt b (40 + 16 * p) 2
def pfNdv (b : List Byte) (p : Nat) : Nat := leAt b (42 + 16 * p) 2
def pfDtdt (b : List Byte) (p : Nat) : Nat := leAt b (44 + 16 * p) 2
def pfBlank (b : List Byte) (p : Nat) : Nat := leAt b (46 + 16 * p) 1
def pfVChg (b : List Byte) (p z : Nat) : Nat := leAt b (160 + 24 * p + 4 * z) 2
def pfIChg (b : List Byte) (p z : Nat) : Nat := leAt b (162 + 24 * p + 4 * z) 2
def pfDTemp (b : List Byte) (z : Nat) : Nat := leAt b (352 + 8 * z) 2
def pfDsg (b : List Byte) (z : Nat) : Bool := bitsOf (leAt b (354 + 8 * z) 1) 0 1 == 1
def pfIDsg (b : List Byte) (z : Nat) : Nat := leAt b (356 + 8 * z) 2
/-- The zone's factor and its permission to discharge; 1,024 and permitted in every zone while no profile is VALID (R171). -/
def zoneDTemp (b : List Byte) (z : Nat) : Nat := if b.isEmpty then 1024 else pfDTemp b z
def zoneDsg (b : List Byte) (z : Nat) : Bool := b.isEmpty || pfDsg b z
def pfNormal (b : List Byte) (z : Nat) : Bool := bitsOf (leAt b 9 1) z 1 == 1
def pfBound (b : List Byte) (k : Nat) : Int := profS b (18 + 2 * k)
def pfHyst (b : List Byte) : Int := (leAt b 10 2 : Nat)

/-- MODE codes of R174. -/
def mdCharge : Nat := 1
def mdFloat : Nat := 2
def mdRest : Nat := 3

end Sys2Proof.Machine
end

