-- ==== Sys2Proof/Machine/StageOps.lean ====
section
/-! DEFINITION. The moves of stages and path switches that several mechanisms share (spec/04_power_stages.md R120, R121, R140;
spec/05_power_path.md R150–R152; spec/01_energy_fabric.md R37). -/

namespace Sys2Proof.Machine

/-! Stage states as STAGE_n_STATUS.STATE codes them (R120). -/

def stOff : Nat := 0
def stIdent : Nat := 1
def stReady : Nat := 2
def stSoft : Nat := 3
def stRun : Nat := 4
def stReversing : Nat := 5
def stTripped : Nat := 6
def stLocked : Nat := 7

def State.stageState (s : State) (n : Nat) : Nat := s.f (R.STAGE_STATUS n) F.STAGE_STATUS_STATE
def State.setStageState (s : State) (n st : Nat) : State := s.setF (R.STAGE_STATUS n) F.STAGE_STATUS_STATE st
/-- A running state: SOFT_START, RUN or REVERSING. -/
def State.stageRuns (s : State) (n : Nat) : Bool :=
  s.stageState n == stSoft || s.stageState n == stRun || s.stageState n == stReversing
def State.anyRuns (s : State) : Bool := (List.range 8).any s.stageRuns
def State.stageDir (s : State) (n : Nat) : Bool := s.flag (R.STAGE_STATUS n) F.STAGE_STATUS_DIR
def State.stageCeil (s : State) (n : Nat) : Nat := s.rdN (R.STAGE_CEIL n)
/-- The rail that a stage regulates in its present direction, if its receiving node is one (R127). -/
def State.stageRail (s : State) (n : Nat) : Option Nat :=
  let r := s.stRecv n (s.stageDir n)
  if isRail r then some r else none

/-- The phases of a stage (R105). -/
def State.stPhases (s : State) (n : Nat) : Nat :=
  let c := (hbList (s.stHb n)).length
  if s.stTopo n = 3 then c / 2 else c

/-- Conversions per second of a stage, in kS/s, as a fraction (R112): (2 + phases) per control period, at f_sw / (CTRL_DIV + 1). -/
def State.stageRate (s : State) (n : Nat) : Nat × Nat :=
  ((2 + s.stPhases n) * 400000, max 1 (s.f (R.STAGE_PWM n) F.STAGE_PWM_PER) * (s.f (R.STAGE_PWM n) F.STAGE_PWM_CTRL_DIV + 1))

/-- A sum of fractions. -/
def rateSum (l : List (Nat × Nat)) : Nat × Nat := l.foldl (fun a x => (a.1 * x.2 + x.1 * a.2, a.2 * x.2)) (0, 1)

/-- STG_ADC_LOAD reads what the running stages have committed, in whole kS/s. -/
def State.showLoad (s : State) : State :=
  let sum := rateSum (((List.range 8).filter s.stageRuns).map s.stageRate)
  s.setF R.STG_ADC_LOAD F.STG_ADC_LOAD_LOAD (sat 16 (sum.1 / sum.2))

/-- A stage releases its channels and takes a state in which it does not switch. -/
def State.stopStage (s : State) (n st : Nat) : State :=
  let s := s.setStageState n st
  let s := (s.setF (R.STAGE_STATUS n) F.STAGE_STATUS_DE 0).setF (R.STAGE_STATUS n) F.STAGE_STATUS_CBC_ACT 0
  let s := (s.wrN (R.STAGE_DUTY n) 0).wrN (R.STAGE_IL n) 0
  let r := s.stage n
  let s := s.setStage n { r with uHist := [0, 0, 0], eA := [0, 0, 0], eB := 0, eC := 0, eD := 0, cmpNext := [], ramping := false,
                                 resume := 0, satCnt := 0, cbcRun := 0, cbcLast := none, cuts := [], cmpB := 0, cmpWas := [], ctlAt := 0, imon := [], ssDone := false, zeroTicks := 0,
                                 autoTurn := r.autoTurn && st == stTripped, iOut := 0, iIn := 0, iRef := 0 }
  s.showLoad

/-- A running stage is stopped by a fault: TRIPPED (R120), with a re-validation (R94). -/
def State.tripStage (s : State) (n : Nat) : State :=
  if s.stageRuns n then (s.stopStage n stTripped).trigReval 0x0004 else s

/-- A stage leaves OFF for IDENT: the fabric serves and the stage is used (R120). -/
def State.startIdent (s : State) (n : Nat) : State :=
  if s.stageState n = stOff ∧ s.fabricServes ∧ s.stUsed n ∧ ¬ s.anySafe then s.setStageState n stIdent else s

/-- A group is held off by a group fault (R125): its fault instance holds. -/
def State.groupHeld (s : State) (g : Nat) : Bool := s.holders.any (fun h => h.1 == 0x22 && h.2.1 == g)

/-! Path switches. -/

def State.pswClosed (s : State) (w : Nat) : Bool := s.flag (R.PSW_STATUS w) F.PSW_STATUS_CLOSED
def State.pswOk (s : State) (w : Nat) : Bool := s.flag (R.PSW_STATUS w) F.PSW_STATUS_GATE_OK

/-- Open a switch (R150). -/
def State.openSwitch (s : State) (w : Nat) : State :=
  ((s.setF (R.PSW_STATUS w) F.PSW_STATUS_CLOSED 0).setF (R.PSW_STATUS w) F.PSW_STATUS_GATE_OK 0).setF
    (R.PSW_STATUS w) F.PSW_STATUS_PERMIT 0

/-- Begin to close a switch; GATE_OK follows at full enhancement (R150). -/
def State.closeSwitch (s : State) (w : Nat) : State :=
  if s.pswClosed w then s
  else
    ((s.setF (R.PSW_STATUS w) F.PSW_STATUS_CLOSED 1).setF (R.PSW_STATUS w) F.PSW_STATUS_GATE_OK 0).setPsw w
      { s.psw w with closeAt := s.cyc, tripped := false }

/-- Whether a switch may close outside the egress configuration: not held, not waiting after a trip, no Safe-state. -/
def State.mayClose (s : State) (w : Nat) : Bool :=
  !s.heldSwitch w && !(s.psw w).hold && !(s.psw w).egressTrip && !s.anySafe && s.fabricServes

/-- The SERIES switch of a node is closed and enhanced. -/
def State.seriesOk (s : State) (node : Nat) : Bool :=
  match s.seriesOf node with
  | some w => s.pswClosed w && s.pswOk w
  | none => false

/-- The egress configuration closes a switch: it is marked, and the fabric record can be read from a copy (R38); without a description
in force none is marked. -/
def State.egressMarked (s : State) (w : Nat) : Bool := s.pswEgress w && s.fabReadable

/-- Step 2 of R37: every switch that the egress configuration does not close opens. A marked switch that a reverse trip has opened
stays open until the Safe-state is cleared (R39). -/
def State.egressOpen (s : State) : State :=
  s.each (List.range 12) (fun w s =>
    if s.egressMarked w then
      (if (s.psw w).tripped && !s.pswClosed w then s.setPsw w { s.psw w with egressTrip := true } else s)
    else s.openSwitch w)

/-- Harrow holds a switch open, itself or as the SERIES switch of a pack that it holds (R373). -/
def State.switchHeld (s : State) (w : Nat) : Bool :=
  s.heldSwitch w || [0, 1, 2, 3].any (fun i => s.heldPack i && s.seriesOf (8 + i) == some w)

/-- Step 3 of R37: the marked switches that are open begin to close, but for those that tripped (R39) or that Harrow holds; the SERIES
switches of packs wait for the end of a long press (R219). -/
def State.egressClose (s : State) : State :=
  s.each (List.range 12) (fun w s =>
    if s.egressMarked w ∧ ¬ (s.psw w).egressTrip ∧ ¬ (s.psw w).hold ∧ ¬ s.switchHeld w
        ∧ ¬ (s.sys.longPress ∧ [0, 1, 2, 3].any (fun i => s.seriesOf (8 + i) == some w)) then s.closeSwitch w else s)

/-- SUPPLY_n_STATUS states (spec/05). -/
def supUnserved : Nat := 0
def supSourced : Nat := 1
def supSupplement : Nat := 2
def supHandover : Nat := 3
def supPacks : Nat := 4
def supTransfer : Nat := 5
def State.railSupply (s : State) (r : Nat) : Nat := s.f (R.SUPPLY_STATUS r) F.SUPPLY_STATUS_STATE

/-- A hand-over under way is abandoned (R39, R158). -/
def State.dropHandover (s : State) (r : Nat) : State :=
  let s := s.setXfer r {}
  if s.railSupply r = supHandover ∨ s.railSupply r = supTransfer then
    s.setF (R.SUPPLY_STATUS r) F.SUPPLY_STATUS_STATE supUnserved else s

/-- The Safe-state action (R37, R95): every stage stops, the switches not marked open, hand-overs are abandoned, every
order ends; counter 0 counts it and a SAFE_STATE record names the fault (R359, R363). -/
def State.safeAction (s : State) (id inst : Nat) : State :=
  let s := { s with safeOn := true, releasing := false }
  let s := s.each (List.range 8) (fun n s => s.stopStage n stOff)
  let s := s.egressOpen
  let s := s.each (List.range 8) (fun r s => s.dropHandover r)
  let s := s.setF R.DRILL_STATUS F.DRILL_STATUS_SAFE 1
  let s := s.endAllSafe
  (s.bbQueue 4 0 (leBytes 2 (id + 256 * inst))).incCounter 0

/-- The Safe-state lifts (R380): Drill admits again, every stage restarts from OFF, switches return to dispatch, TIE switches
marked EGRESS_CLOSED stay closed for the release interval. -/
def State.safeLift (s : State) : State :=
  let s := { s with safeOn := false }
  let s := s.setF R.DRILL_STATUS F.DRILL_STATUS_SAFE 0
  let s := s.each (List.range 8) (fun n s => (s.stopStage n stOff).startIdent n)
  let s := s.each (List.range 12) (fun w s => s.setPsw w { s.psw w with egressTrip := false })
  let s := s.each (List.range 12) (fun w s =>
    if s.pswRole w = 2 ∧ ¬ (s.pswEgress w ∧ s.pswClosed w) then s.openSwitch w else s)
  { s with
    releasing := (List.range 12).any (fun w => s.pswRole w == 2 && s.pswClosed w)
    sys := { s.sys with releaseAt := s.cyc } }

end Sys2Proof.Machine
end

