-- ==== Sys2Proof/Machine/PathOps.lean ====
section
/-! DEFINITION. Supplies, their budgets and limits, the ranking of the stages of a rail and the hand-over to the packs
(spec/05_power_path.md R142–R158, R161; spec/08 R241). A supply is numbered 0–2 for the inputs and 3–5 for the ports. -/

namespace Sys2Proof.Machine

/-! Supply states as INPUT_n_STATUS.STATE codes them (R142). -/

def supAbsent : Nat := 0
def supQualify : Nat := 1
def supClosing : Nat := 2
def supOnline : Nat := 3
def supLost : Nat := 4
def supFault : Nat := 5

/-- The node of a supply, and the supply of a node. -/
def supNode (x : Nat) : Nat := if x < 3 then 16 + x else 9 + x
def supOfNode (node : Nat) : Option Nat :=
  if isInput node then some (node - 16) else if isPort node then some (node - 9) else none

def supNo : Supply → Nat
  | .input n => n.val
  | .port n => 3 + n.val

def State.supState (s : State) (x : Nat) : Nat :=
  if x < 3 then s.f (R.INPUT_STATUS x) F.INPUT_STATUS_STATE else s.f (R.PORT_STATUS (x - 3)) F.PORT_STATUS_SUPPLY

def State.setSupState (s : State) (x st : Nat) : State :=
  if x < 3 then
    (if s.f (R.INPUT_STATUS x) F.INPUT_STATUS_STATE = st then s else s.noteIdle .input).setF (R.INPUT_STATUS x) F.INPUT_STATUS_STATE st
  else s.setF (R.PORT_STATUS (x - 3)) F.PORT_STATUS_SUPPLY st

/-- The connector voltage of a supply. -/
def State.supV (s : State) (x : Nat) : Nat :=
  if x < 3 then s.f (R.INPUT_STATUS x) F.INPUT_STATUS_V else s.f (R.PORT_VBUS (x - 3)) F.PORT_VBUS_V

def State.showSupV (s : State) (x mv : Nat) : State :=
  if x < 3 then s.setF (R.INPUT_STATUS x) F.INPUT_STATUS_V (sat 16 mv)
  else s.setF (R.PORT_VBUS (x - 3)) F.PORT_VBUS_V (sat 16 mv)

/-- The over-voltage limit of an input: above 65,000 mV it acts as 65,000 mV (R143). -/
def State.ovMv (s : State) (n : Nat) : Nat := min 65000 (s.f (R.INPUT_VLIM n) F.INPUT_VLIM_OV_MV)
def State.lossMv (s : State) (x : Nat) : Nat :=
  if x < 3 then s.f (R.INPUT_VLIM x) F.INPUT_VLIM_LOSS_MV else (s.port (x - 3)).lossMv

/-- VBUS exceeds the higher of 6,000 mV and 1.15 × the contracted voltage, in a transition of the higher of both (R230). -/
def State.portOver (s : State) (n mv : Nat) : Bool :=
  let v := max (s.contractMv n) (if (s.port n).moving then (s.port n).newMv else 0)
  decide (6000 < mv ∧ v * 115 < mv * 100)

/-- A stage that feeds the port node is in current limit (R242). -/
def State.portLimited (s : State) (n : Nat) : Bool :=
  (List.range 8).any (fun k => s.stageRuns k && s.stRecv k (s.stageDir k) == 12 + n && s.f (R.STAGE_STATUS k) F.STAGE_STATUS_SEL == 1)

/-- Since when a condition holds. -/
def State.holdSince (s : State) (was : Option Nat) (c : Bool) : Option Nat := if c then some (was.getD s.cyc) else none

/-- It has held for some cycles. -/
def State.heldFor (s : State) (since : Option Nat) (cycles : Nat) : Bool :=
  match since with
  | some t => decide (t + cycles ≤ s.cyc)
  | none => false

/-- A voltage on VBUS is seen: the conditions of R228, R230, R242, R247 and R252 that it meets. -/
def State.portWindows (s : State) (n mv : Nat) : State :=
  let r := s.port n
  let c := s.contractMv n
  let src := s.flag (R.PORT_STATUS n) F.PORT_STATUS_PWR_ROLE && s.flag (R.PORT_STATUS n) F.PORT_STATUS_EXPLICIT && !r.moving
  s.setPort n { r with
    safeAt := s.holdSince r.safeAt (decide (mv ≤ 800))
    lowAt := s.holdSince r.lowAt (decide (mv < 3670))
    overAt := s.holdSince r.overAt (s.portOver n mv)
    sagAt := s.holdSince r.sagAt (src && decide (100 * mv < 95 * c) && !s.portLimited n)
    setAt := s.holdSince r.setAt (r.moving && decide (95 * r.newMv ≤ 100 * mv ∧ 100 * mv ≤ 105 * r.newMv)) }

/-- A connector voltage is seen: the deglitch timers of R142 run while it is below the loss threshold or above the over-voltage
limit. -/
def State.setSupV (s : State) (x mv : Nat) : State :=
  let s := s.showSupV x mv
  let s := if x < 3 then s else s.portWindows (x - 3) mv
  let below := if s.lossMv x ≤ mv then none else some ((s.supply x).below.getD s.cyc)
  let above := if 3 ≤ x ∨ mv ≤ s.ovMv x then none else some ((s.supply x).above.getD s.cyc)
  s.setSupply x { s.supply x with below := below, above := above }

/-- LOSS_DGL in cycles: 1 to 20 µs (R142); a port has no deglitch of its own, and the spec gives it none (log 62). -/
def State.lossCycles (s : State) (x : Nat) : Nat :=
  if x < 3 then 200 * min 20 (max 1 (s.f (R.INPUT_CFG x) F.INPUT_CFG_LOSS_DGL)) else 0

/-- INPUT_QUALIFY_MS in cycles: at least 10 ms (R144). -/
def State.qualifyCycles (s : State) : Nat := 200000 * max 10 (s.f R.XFER_CFG F.XFER_CFG_INPUT_QUALIFY_MS)

/-- "In range" of R142. -/
def State.supInRange (s : State) (x mv : Nat) : Bool :=
  s.declared (supNode x) && decide (s.nodeVmin (supNode x) ≤ mv ∧ mv ≤ s.nodeVmax (supNode x)) &&
    (if x < 3 then decide (mv < s.ovMv x) else decide (s.lossMv x ≤ mv))

/-- Whether a supply may qualify: an enabled input; a port as Sink with its supply in place, by an explicit contract or the
implicit supply of R241; a port that was lost, only by a new explicit contract (R160). -/
def State.supEnabled (s : State) (x : Nat) : Bool :=
  if x < 3 then s.flag (R.INPUT_CFG x) F.INPUT_CFG_EN
  else s.f (R.PORT_STATUS (x - 3)) F.PORT_STATUS_CONN == 2 && decide (0 < (s.port (x - 3)).budget)
    && !(s.port (x - 3)).hardRecov && !(s.port (x - 3)).needContract

/-- The budget of a supply as R32 reads it (R145, R241): zero unless it is ONLINE. -/
def State.supBudget (s : State) (x : Nat) : Nat :=
  if s.supState x ≠ supOnline then 0
  else if x < 2 then
    min (s.rdN (R.INPUT_BUDGET x)) (s.rdN (R.INPUT_ILIM x) * s.nodeVmin (supNode x) / 1000)
  else if x = 2 then (if s.rdN (R.INPUT_ILIM 2) = 0 then 0 else s.rdN (R.INPUT_BUDGET 2))
  else (s.port (x - 3)).budget

/-- The qualified limit of a supply, in mA (R145, R241). -/
def State.supLimit (s : State) (x : Nat) : Nat := if x < 3 then s.rdN (R.INPUT_ILIM x) else (s.port (x - 3)).limit

/-- The priority of a supply (R147). -/
def State.supPrio (s : State) (x : Nat) : Nat := bitsOf (s.f R.SRC_PRIO F.SRC_PRIO_PRIO) (3 * x) 3

/-- Supplies by priority, then by node (R147). -/
def State.supOrder (s : State) : List Nat :=
  (List.range 8).flatMap (fun p => [3, 4, 5, 0, 1, 2].filter (fun x => s.supPrio x == p))

/-- The stages that draw from a node in their present direction. -/
def State.stagesOutOf (s : State) (node : Nat) : List Nat :=
  (List.range 8).filter (fun n => s.stUsed n && s.stSend n (s.stageDir n) == node)

/-- The stages that run into a node in their present direction. -/
def State.stagesRunInto (s : State) (node : Nat) : List Nat :=
  (List.range 8).filter (fun n => s.stUsed n && s.stRecv n (s.stageDir n) == node)

/-- The rails that a source serves: those its stages run into. -/
def State.railsOf (s : State) (node : Nat) : List Nat :=
  (List.range 8).filter (fun r => (s.stagesOutOf node).any (fun n => s.stRecv n (s.stageDir n) == r))

/-- The ONLINE supplies that serve a rail. -/
def State.onlineOn (s : State) (r : Nat) : List Nat :=
  s.supOrder.filter (fun x => s.supState x == supOnline && (s.railsOf (supNode x)).contains r)

/-- What a stage delivers at its controlled node, mW. -/
def State.stagePower (s : State) (n : Nat) : Nat := natOf ((s.stage n).iOut * (s.stage n).vCtl / 1000)

/-- The path by which a pack serves a rail (R90): over one stage where there is one, else the first of the path list (log 61). -/
def State.packPath (s : State) (i r : Nat) : Option (List Hop) :=
  match (s.hopsAt r false).find? (fun h => h.far == 8 + i) with
  | some h => some [h]
  | none =>
    if (List.range 8).any (fun n => s.stUsed n && (s.stFrom n == 8 + i || s.stTo n == 8 + i)) then
      (s.paths r false).find? (fun q => farNode q == 8 + i)
    else none

/-- The stage of that path that runs into the rail, with its direction. -/
def State.packHop (s : State) (i r : Nat) : Option Hop := (s.packPath i r).bind List.head?
def State.packStage (s : State) (i r : Nat) : Option Nat := (s.packHop i r).map (·.stage)

/-- That stage runs into the rail. -/
def State.packRunsIn (s : State) (i r : Nat) : Bool :=
  match s.packHop i r with
  | some h => s.stageRuns h.stage && s.stageDir h.stage == h.rev
  | none => false

/-- A pack stands by for a rail (R155). -/
def State.standsBy (s : State) (i r : Nat) : Bool :=
  bitsOf (s.f (R.SUPPLY_CFG r) F.SUPPLY_CFG_STANDBY) i 1 == 1
    || s.plan.any (fun p =>
        let o := p.2.order
        (o.op == opDeliver || o.op == opHold) && o.cls != 2 && o.target == r && (maskNodes o.mask).contains (8 + i)
          && (p.2.active || decide (p.2.tIn ≤ s.us)))

/-- The stages, with their directions, on the paths of the packs that stand by (R155). -/
def State.standHops (s : State) : List Hop :=
  [0, 1, 2, 3].flatMap (fun i => ((List.range 8).filter (fun r => s.standsBy i r)).flatMap (fun r => (s.packPath i r).getD []))

/-- A stage on the path of a pack that stands by for a rail: it is kept in RUN whatever its ceiling (R155). -/
def State.standing (s : State) (n : Nat) : Bool := s.standHops.any (fun h => h.stage == n)

/-- The zone of a pack (R169). -/
def State.zoneOf (s : State) (i : Nat) : Nat := s.f (R.PACK_CHG_STATUS i) F.PACK_CHG_STATUS_ZONE

/-- A pack's SERIES switch is open for a cause other than dispatch (R31): a trip, Harrow, a Safe-state, a forced opening. -/
def State.openForced (s : State) (i : Nat) : Bool :=
  match s.seriesOf (8 + i) with
  | some w => !s.pswClosed w && ((s.psw w).forced || (s.psw w).hold || (s.psw w).egressTrip || s.safeOn)
  | none => false

/-- R31: the pack gives nothing. -/
def State.packLost (s : State) (i : Nat) : Bool :=
  (s.pack i).dsgOff || s.heldPack i || !zoneDsg (s.pack i).prof (s.zoneOf i) || s.openForced i

/-- The paths by which an ABSORB moves power from its rail into the packs of its mask (R90). -/
def State.absorbPaths (s : State) (p : Slot) : List (List Hop) :=
  (s.paths p.order.target true).filter (fun q => (maskNodes p.order.mask).contains (farNode q))

/-- The ACTIVE ABSORB, the first in order of acceptance, that moves power through a stage in a direction (R84). -/
def State.absorbOn (s : State) (n : Nat) (rev : Bool) : Option Slot :=
  ((s.planOrder.map (·.2)).filter (fun p => p.active && p.order.op == opAbsorb)).find? (fun p =>
    (s.absorbPaths p).any (fun q => q.any (fun h => h.stage == n && h.rev == rev)))

/-- The share energy of a pack toward a rail (R154). -/
def State.shareEnergy (s : State) (i r : Nat) : Nat :=
  match s.packStage i r with
  | none => 0
  | some n =>
    if s.eAvail i = 0 ∨ s.pMax i = 0 ∨ s.headroom n = 0 ∨ s.packLost i then 0
    else s.plan.foldl (fun a p => a + (if p.2.order.target = r then p.2.res.getD i 0 else 0)) (s.eFree i)

/-- The allocation of a stage in the present segment of the last successful check (R98). -/
def State.allocOf (s : State) (n : Nat) (rev : Bool) : Nat :=
  match s.alloc.find? (fun g => decide (g.from_ ≤ s.us ∧ s.us < g.until_)) with
  | none => 0
  | some g => ((g.shares.find? (fun x => x.stage == n && x.rev == rev)).map (·.mw)).getD 0

/-- The hand-over ceiling of a pack's stage into a rail (R157): its live headroom, reduced so that the input power stays within the
pack's PMAX over the path; its allocation where E_FREE is zero. -/
def State.handCeil (s : State) (i r : Nat) : Nat :=
  match s.packPath i r with
  | some (h :: t) =>
    if s.packLost i then 0
    else if s.eFree i = 0 then min (s.headroom h.stage) (s.allocOf h.stage h.rev)
    else
      let c := s.ctx
      largest c s.trim (c.book false) false (h :: t) (s.headroom h.stage)
  | _ => 0

/-- Fill a need over packs by share energy, ceilings first (R154); `fuel` bounds the rounds. The triples are pack, S and
ceiling; the result gives each pack's power. -/
def fillShares (need : Nat) (l : List (Nat × Nat × Nat)) : Nat → List (Nat × Nat)
  | 0 => l.map (fun x => (x.1, 0))
  | fuel + 1 =>
    let sum := l.foldl (fun a x => a + x.2.1) 0
    if sum = 0 then l.map (fun x => (x.1, 0))
    else
      let full := l.filter (fun x => decide (need * x.2.1 / sum > x.2.2))
      if full.isEmpty then l.map (fun x => (x.1, need * x.2.1 / sum))
      else
        full.map (fun x => (x.1, x.2.2)) ++
          fillShares (need - full.foldl (fun a x => a + x.2.2) 0)
            (l.filter (fun x => !decide (need * x.2.1 / sum > x.2.2))) fuel

/-- The packs that serve a rail, in descending S_x and then ascending number (R153). -/
def insertPack (s : State) (r : Nat) (i : Nat) : List Nat → List Nat
  | [] => [i]
  | j :: t => if s.shareEnergy i r > s.shareEnergy j r then i :: j :: t else j :: insertPack s r i t

def State.packsByShare (s : State) (r : Nat) : List Nat :=
  ([0, 1, 2, 3].filter (fun i => (s.packStage i r).isSome)).foldl (fun l i => insertPack s r i l) []

/-- P_need of R153. -/
def State.needOn (s : State) (r : Nat) : Nat :=
  (s.rail r).load - (((s.onlineOn r).flatMap (fun x => (s.stagesOutOf (supNode x)).filter (fun n =>
    s.stRecv n (s.stageDir n) == r))).map s.stagePower).foldl (· + ·) 0

/-- The stages of a supply that run into a rail. -/
def State.supStages (s : State) (x r : Nat) : List Nat :=
  (s.stagesOutOf (supNode x)).filter (fun n => s.stRecv n (s.stageDir n) == r)

def State.setRank (s : State) (n rank weight : Nat) : State := s.setStage n { s.stage n with rank := rank, weight := weight }

/-- The ranks of the source stages of a rail, in priority order; with SHARE all are rank 0 (R147, R153). -/
def State.rankSources (s : State) (r : Nat) : State :=
  let share := s.flag (R.RAIL_CFG r) F.RAIL_CFG_SHARE
  ((s.onlineOn r).zipIdx).foldl (fun s x =>
    (s.supStages x.1 r).foldl (fun s n => s.setRank n (if share then 0 else x.2) 1024) s) s

/-- The ranks and weights of the pack stages of a rail, from a rank on; `ceil` gives the ceiling of a pack's stage (R153, R154). -/
def State.rankPacks (s : State) (r base : Nat) (ceil : Nat → Nat → Nat) : State :=
  let packs := s.packsByShare r
  if s.flag (R.RAIL_CFG r) F.RAIL_CFG_SHARE then
    let need := s.needOn r
    let shares := fillShares need (packs.map (fun i =>
      (i, s.shareEnergy i r, match s.packStage i r with | some n => ceil i n | none => 0))) 5
    shares.foldl (fun s x =>
      match s.packStage x.1 r with
      | none => s
      | some n => s.setRank n 0 (if need = 0 then 0 else min 1024 (ceilDiv (17 * x.2 * 1024) (16 * need)))) s
  else
    (packs.zipIdx).foldl (fun s x =>
      match s.packStage x.1 r with
      | none => s
      | some n => s.setRank n (base + x.2) 1024) s

/-- Rank the stages that serve a rail (R153). -/
def State.rankRail (s : State) (r : Nat) (ceil : Nat → Nat → Nat) : State :=
  (s.rankSources r).rankPacks r (s.onlineOn r).length ceil

/-- In a hand-over the other ONLINE sources keep their ranks (R156): the packs follow after them. -/
def State.handBase (s : State) (r : Nat) : Nat :=
  ((s.onlineOn r).flatMap (fun x => s.supStages x r)).foldl (fun a n => max a ((s.stage n).rank + 1)) 0

/-- The packs that stand by for a rail, filled with the hand-over ceilings (R154, R156–R158): a stage that charges its pack has
ceiling zero and reverses first. -/
def State.fillHand (s : State) (r : Nat) : State :=
  let s := ([0, 1, 2, 3].filter (fun i => s.standsBy i r)).foldl (fun s i =>
    match s.packHop i r with
    | none => s
    | some h =>
      let s := s.setStage h.stage { s.stage h.stage with dirWant := h.rev }
      s.wrN (R.STAGE_CEIL h.stage) (if s.stageDir h.stage == h.rev then s.handCeil i r else 0)) s
  s.rankPacks r (s.handBase r) (fun i _ => s.handCeil i r)

/-- What the standing-by packs can carry of a rail's load. -/
def State.handCover (s : State) (r : Nat) : Nat :=
  (([0, 1, 2, 3].filter (fun i => s.standsBy i r)).map (fun i => s.handCeil i r)).foldl (· + ·) 0

/-- The hand-over of a rail begins (R156 steps 2 and 4): the standing-by pack stages take the hand-over ceilings; a load they
cannot carry is 0x65 (R158). A second loss joins the hand-over under way. -/
def State.handRail (s : State) (x r : Nat) : State :=
  let st := s.railSupply r
  let was := decide (st = supHandover)
  let s := s.setXfer r { s.xfer r with lost := x :: (s.xfer r).lost, revalDone := false, ramp := 0 }
  let s := s.setF (R.SUPPLY_STATUS r) F.SUPPLY_STATUS_STATE supHandover
  let s := if was then s else
    (s.wr64 (R.SUPPLY_XFER_LAST_LO r) (R.SUPPLY_XFER_LAST_HI r) s.now48).incCounter 1
  let s := s.fillHand r
  let cover := s.handCover r
  if s.needOn r > cover then s.raise 0x65 r (faultRec (s.needOn r) cover) else s

/-- A pack drops out while hand-overs are under way (R158): the others are filled again at once. -/
def State.refillHands (s : State) : State :=
  s.each (List.range 8) (fun r s => if s.railSupply r = supHandover then s.fillHand r else s)

/-- A source serves a rail (R156): the rail is supplied by it or passes to it, or a stage of it there runs with a ceiling. In PACKS its
stages have none (R161). -/
def State.servesRail (s : State) (x r : Nat) : Bool :=
  let st := s.railSupply r
  st == supSourced || st == supSupplement || st == supHandover || st == supTransfer
    || (s.supStages x r).any (fun n => s.stageRuns n && decide (0 < s.stageCeil n))

/-- The hand-over of a source (R156): its stages are released, its switch opens, its share of every rail it served passes to
the packs. -/
def State.handOver (s : State) (x : Nat) (openSwitch : Bool) : State :=
  let node := supNode x
  let rails := (s.railsOf node).filter (fun r => s.servesRail x r)
  let s := (s.stagesOutOf node).foldl (fun s n =>
    if s.stageRuns n then (s.stopStage n stReady).wrN (R.STAGE_CEIL n) 0 else s.wrN (R.STAGE_CEIL n) 0) s
  let s := if openSwitch then
      match s.seriesOf node with
      | some w => (s.openSwitch w).setPsw w { s.psw w with want := false }
      | none => s
    else s
  let s := rails.foldl (fun s r => s.handRail x r) s
  s.trigReval (if x < 3 then 0x0003 else 0x0002)

/-- Some rail's hand-over from the source is still under way. -/
def State.handing (s : State) (x : Nat) : Bool :=
  (List.range 8).any (fun q => s.railSupply q == supHandover && (s.xfer q).lost.contains x)

/-- Qualification starts, if the supply is ABSENT, enabled and in range (R142). -/
def State.startQualify (s : State) (x : Nat) : State :=
  if s.supState x = supAbsent ∧ s.supEnabled x ∧ s.supInRange x (s.supV x) then
    (s.setSupState x supQualify).setSupply x { s.supply x with ready := false, qualAt := s.cyc }
  else s

/-- A port that is lost needs a new explicit contract before it qualifies again (R160). -/
def State.needContract (s : State) (x : Nat) : State :=
  if 3 ≤ x then s.setPort (x - 3) { s.port (x - 3) with needContract := true } else s

/-- A source enters LOST or FAULT (R142, R156); its budget counts no more from now on. One that only qualifies or closes starts anew. -/
def State.loseSupply (s : State) (x st : Nat) (openSwitch : Bool) : State :=
  if s.supState x = supOnline then
    let s := ((s.setSupState x st).needContract x).handOver x openSwitch
    if x < 3 ∧ st = supLost then s.raise 0x61 x (faultRec (s.supV x) (s.lossMv x)) else s
  else if s.supState x = supQualify ∨ s.supState x = supClosing ∨ st = supFault then
    let s := (s.setSupState x (if st = supFault then supFault else supAbsent)).setSupply x { s.supply x with ready := false }
    let s := match s.seriesOf (supNode x) with
      | some w => if openSwitch then s.openSwitch w else s
      | none => s
    s.startQualify x
  else s

/-- A LOST source whose hand-over is complete returns to ABSENT, from where it may qualify again (R142, R160). -/
def State.freeLost (s : State) (x : Nat) : State :=
  if s.supState x = supLost ∧ ¬ s.handing x then (s.setSupState x supAbsent).startQualify x else s

/-- Harrow still holds a supply, or its SERIES switch (R142, R373). -/
def State.heldSupply (s : State) (x : Nat) : Bool :=
  (if x < 3 then s.heldInput x else s.heldPort (x - 3))
    || (match s.seriesOf (supNode x) with | some w => s.heldSwitch w | none => false)

/-- A supply in FAULT that nothing holds any more, and that no hand-over still runs from (R161), returns to ABSENT once in range, and may
qualify again (R142). -/
def State.supRecover (s : State) (x : Nat) : State :=
  if s.supState x = supFault ∧ ¬ s.heldSupply x ∧ ¬ s.handing x ∧ s.supInRange x (s.supV x) then
    (s.setSupState x supAbsent).startQualify x
  else s

/-- A supply begins to close its SERIES switch, or waits at the end of QUALIFY: for a Safe-state to lift (R142), or while the switch
may not close (log 35). -/
def State.startClosing (s : State) (x : Nat) : State :=
  match s.seriesOf (supNode x) with
  | some w =>
    if s.anySafe || s.safeOn || !s.mayClose w then s.setSupply x { s.supply x with ready := true }
    else
      let s := (s.setSupState x supClosing).setSupply x { s.supply x with ready := false, closeAt := s.cyc }
      (s.closeSwitch w).setPsw w { s.psw w with want := true, forced := false }
  | none => s

/-- The supplies that wait at the end of QUALIFY go on once no Safe-state is in force (R142, R380). -/
def State.releaseSupplies (s : State) : State :=
  if s.anySafe || s.safeOn then s
  else s.each s.supOrder (fun x s =>
    if s.supState x = supQualify ∧ (s.supply x).ready ∧ s.supInRange x (s.supV x) then s.startClosing x else s)

/-- A pack's SERIES switch opens otherwise than by dispatch (R31, R94): its model values are zero from the next tick and Drill
re-validates. -/
def State.forceOpen (s : State) (w : Nat) : State :=
  let s := (s.openSwitch w).setPsw w { s.psw w with forced := true, want := false }
  let a := s.pswA w
  (s.refillHands).trigReval (if isPack a then 0x0001 else if isPort a then 0x0002 else if isInput a then 0x0003 else 0x0005)

end Sys2Proof.Machine
end

