-- ==== Sys2Proof/Machine/ChargeOps.lean ====
section
/-! DEFINITION. The charge profile as committed, the pack's limits, zones, references, demand, phases, latches and planning
values (spec/06_pack_charging.md R164–R195; spec/07 R204, R206, R207). -/

namespace Sys2Proof.Machine

/-! Charge states as PACK_x_CHG_STATUS.STATE codes them (R180). -/

def chStopped : Nat := 0
def chCharging : Nat := 1
def chPaused : Nat := 2
def chRest : Nat := 3
def chLocked : Nat := 4

def State.chState (s : State) (i : Nat) : Nat := s.f (R.PACK_CHG_STATUS i) F.PACK_CHG_STATUS_STATE
def State.setChState (s : State) (i st : Nat) : State := s.setF (R.PACK_CHG_STATUS i) F.PACK_CHG_STATUS_STATE st
def State.phaseOf (s : State) (i : Nat) : Nat := s.f (R.PACK_CHG_STATUS i) F.PACK_CHG_STATUS_PHASE
def State.setZone (s : State) (i z : Nat) : State := s.setF (R.PACK_CHG_STATUS i) F.PACK_CHG_STATUS_ZONE z

/-- PACK_x_PROFILE.STATE is VALID. -/
def State.profValid (s : State) (i : Nat) : Bool := s.f (R.PACK_PROFILE i) F.PACK_PROFILE_STATE == 1

/-! Limits (R204–R206). -/

/-- The link of the pack is UP (R198). -/
def State.linkUp (s : State) (i : Nat) : Bool := s.f (R.PACK_LINK_STATUS i) F.PACK_LINK_STATUS_STATE == 2

def capBy (lim : Option Nat) (v : Nat) : Nat :=
  match lim with
  | some l => min l v
  | none => v

/-- Alarm bits that PackRt.alarms holds: no charge, over temperature, discharge path off (R205). -/
def alNoCharge (a : Nat) : Bool := bitsOf a 0 1 == 1
def alHot (a : Nat) : Bool := bitsOf a 2 1 == 1

/-- D_IMP of a pack; D_EOL while its impedance is unknown (R214). -/
def State.dImpNow (s : State) (i : Nat) : Nat :=
  if (s.pack i).impKnown then (s.pack i).dImp else s.f (R.PACK_TILTH_DER i) F.PACK_TILTH_DER_D_EOL

/-- The effective maximum charge current, mA (R204, R205, R202). -/
def State.effICharge (s : State) (i : Nat) : Nat :=
  let r := s.pack i
  if alNoCharge r.alarms || alHot r.alarms then 0
  else if r.lapsed && s.flag (R.PACK_LINK_CFG i) F.PACK_LINK_CFG_REQUIRED then 0
  else
    let e := s.f (R.ENV_PACK_ILIM i) F.ENV_PACK_ILIM_ICHG_MAX * 10
    if s.linkUp i then capBy r.linkI e else e

/-- The effective maximum charge voltage, mV. -/
def State.effVCharge (s : State) (i : Nat) : Nat :=
  let e := s.f (R.ENV_PACK_VLIM i) F.ENV_PACK_VLIM_VCHG_MAX
  if s.linkUp i then capBy (s.pack i).linkV e else e

/-- The effective maximum discharge current, mA. -/
def State.effIDischarge (s : State) (i : Nat) : Nat :=
  let e := s.f (R.ENV_PACK_ILIM i) F.ENV_PACK_ILIM_IDSG_MAX * 10
  if s.linkUp i then capBy (s.pack i).linkD e else e

/-- I_DMAX of R210, mA: with the present zone's I_DSG where it is not zero (R171). -/
def State.iDmax (s : State) (i : Nat) : Nat :=
  let d := pfIDsg (s.pack i).prof (s.zoneOf i)
  if d = 0 then s.effIDischarge i else min (s.effIDischarge i) (d * 10)

/-- I_CHG(p, z) in 10 mA; an effective maximum of zero counts as zero (R206). -/
def State.iChg (s : State) (i p z : Nat) : Nat := if s.effICharge i = 0 then 0 else pfIChg (s.pack i).prof p z

/-- Whether the demand is background charge alone. -/
def State.onlyBackground (s : State) (i : Nat) : Bool := s.f (R.PACK_CHG_STATUS i) F.PACK_CHG_STATUS_DEMAND == 1

/-- V_SET of R166 as a tick computes it, mV; V_COMP counts in CHARGE and FLOAT phases (R184). -/
def State.vNew (s : State) (i : Nat) : Nat :=
  let r := s.pack i
  let md := pfMode r.prof (s.phaseOf i)
  let base := natOf ((pfVChg r.prof (s.phaseOf i) (s.zoneOf i) : Int)
    + (if md = mdCharge ∨ md = mdFloat then r.vComp else 0))
  let vcap := s.f (R.PACK_CHG_OVR i) F.PACK_CHG_OVR_VCAP
  min (if vcap = 0 then base else min base vcap) (s.effVCharge i)

/-- The current reference of R166 before the state is asked, mA. -/
def State.iRefMa (s : State) (i : Nat) : Nat :=
  let r := s.pack i
  let c := s.iChg i (s.phaseOf i) (s.zoneOf i) * 10
  let icap := s.f (R.PACK_CHG_OVR i) F.PACK_CHG_OVR_ICAP * 10
  let c := if icap = 0 then c else min c icap
  let c := if s.flag (R.PACK_CHG_STATUS i) F.PACK_CHG_STATUS_WDT_EXP && s.onlyBackground i then min c (leAt r.prof 12 2 * 10)
    else c
  min c (s.effICharge i)

/-- The states in which a charge current may flow (R166): CHARGING and a pause for want of power. -/
def State.mayFlow (s : State) (i : Nat) : Bool :=
  s.chState i == chCharging || (s.chState i == chPaused && (s.pack i).pauseWant)

/-- V_SET and I_SET as the last tick computed them (R166); I_SET is zero in every state in which no current may flow. -/
def State.vSet (s : State) (i : Nat) : Nat := (s.pack i).vRef
def State.iSet (s : State) (i : Nat) : Nat := if s.mayFlow i then (s.pack i).iRef else 0

/-- The references show in PACK_x_CHG_SETPT, I_SET in 10 mA. -/
def State.showRefs (s : State) (i : Nat) : State :=
  (s.setF (R.PACK_CHG_SETPT i) F.PACK_CHG_SETPT_V_SET (if s.profValid i then s.vSet i else 0)).setF
    (R.PACK_CHG_SETPT i) F.PACK_CHG_SETPT_I_SET (sat 16 (if s.profValid i then s.iSet i / 10 else 0))

/-- The references of the tick (R166, R169): V_SET, I_SET and the discharge limit with the zone's cells. -/
def State.takeRefs (s : State) (i : Nat) : State :=
  (s.setPack i { s.pack i with vRef := s.vNew i, iRef := s.iRefMa i, dRef := s.iDmax i }).showRefs i

/-- The timers of the present phase and all that counts with them start from zero (R179); a phase with NDV begins blanked where it has
an initial BLANK (R182). -/
def State.clearPhase (s : State) (i : Nat) : State :=
  let s := s.setPack i { s.pack i with dwells := [0, 0, 0, 0, 0], runHs := 0, effHs := 0, phaseSec := 0, pauseWant := false }
  let s := (s.wrN (R.PACK_CHG_TIMER i) 0).setF (R.PACK_CHG_STATUS i) F.PACK_CHG_STATUS_THERM 0
  let b := (s.pack i).prof
  let blank := pfExit b (s.phaseOf i) 3 && pfBlank b (s.phaseOf i) != 0
  let s := (s.setF (R.PACK_CHG_STATUS i) F.PACK_CHG_STATUS_THERM_SEEN 0).setF (R.PACK_CHG_STATUS i)
    F.PACK_CHG_STATUS_BLANK (boolNat blank)
  s.setF (R.PACK_CHG_TERM i) F.PACK_CHG_TERM_V_PEAK 0

/-- V_SET and I_SET as the exit evaluation of the second that starts now uses them (R179). -/
def State.secMark (s : State) (i : Nat) : State :=
  s.setPack i { s.pack i with secV := if s.profValid i then s.vNew i else 0, secI := if s.profValid i && s.mayFlow i then s.iRefMa i else 0 }

/-- The charge function leaves CHARGING: no half-rate counting, and what a condition has held so far counts no more (R179, R185). -/
def State.leaveCharging (s : State) (i st : Nat) : State :=
  ((s.setChState i st).setF (R.PACK_CHG_STATUS i) F.PACK_CHG_STATUS_THERM 0).setPack i
    { s.pack i with dwells := [0, 0, 0, 0, 0], pauseWant := false }

/-- The phase restarts at 0 with cleared timers (R181); a pack in REST leaves it, as phase 0 is no REST phase it waits in. -/
def State.restartPhase (s : State) (i : Nat) : State :=
  let s := if s.chState i = chRest then s.setChState i chStopped else s
  ((s.setF (R.PACK_CHG_STATUS i) F.PACK_CHG_STATUS_PHASE 0).clearPhase i).secMark i

/-- E_FULL and E_REM of a pack (R207, R209). -/
def State.eFull (s : State) (i : Nat) : Nat := s.rd64 (R.PACK_EFULL_LO i) (R.PACK_EFULL_HI i)
def State.setERem (s : State) (i e : Nat) : State := s.wr64 (R.PACK_EREM_LO i) (R.PACK_EREM_HI i) (sat 48 e)

/-- E_FULL as R209 derives it, and SOH_E. -/
def State.showEFull (s : State) (i : Nat) : State :=
  let d := s.rd64 (R.PACK_EDESIGN_LO i) (R.PACK_EDESIGN_HI i)
  let mode := s.f (R.PACK_LINK_CFG i) F.PACK_LINK_CFG_LINK_MODE
  let full := if mode = 1 ∨ mode = 2 then ((s.pack i).linkFull).getD d else d
  let design := if mode = 1 ∨ mode = 2 then ((s.pack i).linkDesign).getD d else d
  let s := s.wr64 (R.PACK_EFULL_LO i) (R.PACK_EFULL_HI i) (sat 48 full)
  if design = 0 then
    let v := s.takeFree 11
    v.2.setF (R.PACK_SOH i) F.PACK_SOH_SOH_E v.1
  else s.setF (R.PACK_SOH i) F.PACK_SOH_SOH_E (min 1024 (1024 * full / design))

/-- In a REST or FLOAT phase every ACTIVE CHARGE_BY on the pack whose energy is not reached ends with DEADLINE (R195). -/
def State.endAtRest (s : State) (i : Nat) : State :=
  let md := pfMode (s.pack i).prof (s.phaseOf i)
  if md = mdRest ∨ md = mdFloat then
    (s.planOrder.filter (fun x => x.2.order.op == opChargeBy && x.2.order.target == 8 + i && x.2.active
      && decide (s.eRem i < x.2.order.energy))).foldl (fun s x => s.breachSlot x.1 x.2 0x000A) s
  else s

/-- The pack enters a phase on an exit (R179, R180): timers cleared; a passage from a CHARGE phase into REST or FLOAT is counted
(R359), sets E_REM without a link (R207), and ends a CHARGE_BY that has not reached its energy (R195). -/
def State.enterPhase (s : State) (i q : Nat) : State :=
  let b := (s.pack i).prof
  let wasCharge := pfMode b (s.phaseOf i) == mdCharge
  let full := wasCharge && (pfMode b q == mdRest || pfMode b q == mdFloat)
  let wasRest := s.chState i == chRest
  let s := (s.setF (R.PACK_CHG_STATUS i) F.PACK_CHG_STATUS_PHASE q).clearPhase i
  let s := if pfMode b q = mdRest then s.setChState i chRest
    else if wasRest ∧ s.f (R.PACK_CHG_STATUS i) F.PACK_CHG_STATUS_DEMAND = 0 then s.setChState i chStopped
    else s.setChState i chCharging
  let s := if full then
      let s := s.incCounter (4 + i)
      if s.linkUp i then s else (s.setERem i (s.eFull i)).setPack i { s.pack i with eFrac := 0 }
    else s
  (s.endAtRest i).showRefs i

/-- The pack's charge function enters LOCKED (R180): I_SET is zero and every CHARGE_BY on it ends with CHARGE_LOCKED (R188). -/
def State.lockCharge (s : State) (i : Nat) : State :=
  if s.chState i = chLocked then s
  else ((s.leaveCharging i chLocked).endChargeLocked i).showRefs i

/-- LOCKED ends once nothing holds the charge function and no latch stands (R180). -/
def State.unlockCharge (s : State) (i : Nat) : State :=
  if s.chState i = chLocked ∧ ¬ s.heldCharge i ∧ s.f (R.PACK_CHG_FAULT i) F.PACK_CHG_FAULT_CAUSE = 0 then
    ((s.setChState i chStopped).restartPhase i).showRefs i
  else s

/-- A latched charge fault (R187): the latch, its copy in NVM, the black-box record, and the report. -/
def State.latchCharge (s : State) (i id : Nat) (record : List Byte) : State :=
  let s := if s.chState i = chLocked then s
    else
      let w := id + 256 * s.phaseOf i + 4096 * s.zoneOf i
      let t := s.rdN (R.PACK_CHG_TIMER i)
      let s := s.wrN (R.PACK_CHG_FAULT i) w
      let s := { s with fw := { s.fw with latches := s.fw.latches.set i w } }
      s.bbQueue 3 i ([BitVec.ofNat 8 id, BitVec.ofNat 8 (s.phaseOf i), BitVec.ofNat 8 (s.zoneOf i), 0#8]
        ++ leBytes 2 (t % 65536) ++ leBytes 2 (t / 65536) ++ leBytes 2 (s.pack i).vPack
        ++ leBytes 2 (s.f (R.PACK_TEMP i) F.PACK_TEMP_T_ZONE))
  (s.lockCharge i).raise id i record

/-- The latch is emptied in the register and in NVM (R188). -/
def State.emptyLatch (s : State) (i : Nat) : State :=
  let s := s.wrN (R.PACK_CHG_FAULT i) 0
  { s with fw := { s.fw with latches := s.fw.latches.set i 0 } }

/-- The demands present (R164). -/
def State.demandOf (s : State) (i : Nat) : Nat :=
  boolNat (s.flag (R.PACK_CHG_CFG i) F.PACK_CHG_CFG_BG_EN)
    + 2 * boolNat (s.plan.any (fun p => p.2.active && p.2.order.op == opChargeBy && p.2.order.target == 8 + i))

/-- The demand changes and the charge state moves between STOPPED and CHARGING (R180). -/
def State.chargeDemand (s : State) (i : Nat) : State :=
  let d := s.demandOf i
  let s := s.setF (R.PACK_CHG_STATUS i) F.PACK_CHG_STATUS_DEMAND d
  let en := s.flag (R.PACK_CHG_CFG i) F.PACK_CHG_CFG_CHG_EN
  let st := s.chState i
  if st = chStopped ∧ d ≠ 0 ∧ en ∧ s.profValid i ∧ s.f (R.PACK_CHG_FAULT i) F.PACK_CHG_FAULT_CAUSE = 0 ∧ ¬ s.heldCharge i then
    (((s.setChState i (if pfMode (s.pack i).prof (s.phaseOf i) = mdRest then chRest else chCharging)).endAtRest i).showRefs i).secMark i
  else if (st = chCharging ∨ st = chPaused ∨ st = chRest) ∧ (d = 0 ∨ ¬ en) then (s.leaveCharging i chStopped).showRefs i
  else s

/-- CHARGING passes into PAUSED while the zone or the effective maximum gives no current, and back (R180, R206). -/
def State.zonePause (s : State) (i : Nat) : State :=
  let p := s.phaseOf i
  let z := s.zoneOf i
  if s.chState i = chCharging ∧ s.iChg i p z = 0 then
    let s := s.leaveCharging i chPaused
    if pfIChg (s.pack i).prof p z = 0 then s.raise 0x55 i (faultRec z p) else s
  else if s.chState i = chPaused ∧ ¬ (s.pack i).pauseWant ∧ s.iChg i p z ≠ 0 then s.setChState i chCharging
  else s

/-! Planning values (R191, R192). -/

/-- PCHG and ROOM are zero (R191). -/
def State.noPlanCharge (s : State) (i : Nat) : Bool :=
  !s.profValid i || !s.flag (R.PACK_CHG_CFG i) F.PACK_CHG_CFG_CHG_EN || s.chState i == chLocked || s.chState i == chRest
    || pfMode (s.pack i).prof (s.phaseOf i) == mdFloat

/-- I_PLAN in mA; none where no phase has PLAN set (R191). -/
def State.iPlan (s : State) (i : Nat) : Option Nat :=
  let b := (s.pack i).prof
  let z := s.zoneOf i
  let planned := (List.range 8).filter (fun p => pfMode b p != 0 && pfPlan b p)
  if planned.isEmpty then none
  else
    let p := s.phaseOf i
    let c := if pfMode b p = mdCharge ∧ ¬ pfPlan b p then s.iChg i p z * 10
      else ((planned.map (fun q => s.iChg i q z * 10)).foldl min 655350)
    let icap := s.f (R.PACK_CHG_OVR i) F.PACK_CHG_OVR_ICAP * 10
    some (min (if icap = 0 then c else min c icap) (s.effICharge i))

def State.showPlanning (s : State) (i : Nat) : State :=
  let pchg := if s.noPlanCharge i then 0 else
    match s.iPlan i with
    | none => 0
    | some c => c * (s.pack i).vMean / 1000
  let room := if s.noPlanCharge i || (s.iPlan i).isNone then 0 else s.eFull i * leAt (s.pack i).prof 8 1 / 100 - s.eRem i
  (s.wrN (R.DRILL_PACK_PCHG i) (sat 32 pchg)).wr64 (R.DRILL_PACK_ROOM_LO i) (R.DRILL_PACK_ROOM_HI i) (sat 48 room)

/-! Zones (R168, R169). -/

/-- The zone that contains a temperature, without hysteresis. -/
def zoneIn (b : List Byte) (t : Int) : Nat := ((List.range 5).filter (fun k => decide (pfBound b k ≤ t))).length

/-- One move of R169 from a zone: away from the middle at the boundary, toward it past the boundary by HYST. -/
def zoneMove (b : List Byte) (z : Nat) (t : Int) : Nat → Nat
  | 0 => z
  | fuel + 1 =>
    let up := z < 5 && (if z < 2 then decide (t ≥ pfBound b z + pfHyst b) else decide (t ≥ pfBound b z))
    let down := 0 < z && (if z ≤ 3 then decide (t < pfBound b (z - 1))
      else decide (t < pfBound b (z - 1) - pfHyst b))
    if up then zoneMove b (z + 1) t fuel else if down then zoneMove b (z - 1) t fuel else z

end Sys2Proof.Machine
end

