-- ==== Sys2Proof/Machine/PortOps.lean ====
section
/-! DEFINITION. The operations of the Type-C ports that several events share (spec/08_type_c_and_pd.md R224–R252): PD messages
and completions, contracts, the reset ladder, ErrorRecovery, the sequence of R228 and the sequence of R252. -/

namespace Sys2Proof.Machine

/-! PORT_n_STATUS.CONN (spec/08) and PE (R234). -/

def cnUnattached : Nat := 0
def cnWaitSnk : Nat := 1
def cnSink : Nat := 2
def cnWaitSrc : Nat := 3
def cnSource : Nat := 4
def cnTrySrc : Nat := 5
def cnTryWaitSnk : Nat := 6
def cnTrySnk : Nat := 7
def cnTryWaitSrc : Nat := 8
def cnErrorRecovery : Nat := 9

def State.conn (s : State) (n : Nat) : Nat := s.f (R.PORT_STATUS n) F.PORT_STATUS_CONN
def State.pe (s : State) (n : Nat) : Nat := s.f (R.PORT_STATUS n) F.PORT_STATUS_PE
/-- Attached, and no detach under way (R252). -/
def State.attached (s : State) (n : Nat) : Bool := (s.conn n == cnSink || s.conn n == cnSource) && (s.port n).detach == 0
def State.isSrc (s : State) (n : Nat) : Bool := s.flag (R.PORT_STATUS n) F.PORT_STATUS_PWR_ROLE
def State.explicit (s : State) (n : Nat) : Bool := s.flag (R.PORT_STATUS n) F.PORT_STATUS_EXPLICIT
def State.setPS (s : State) (n : Nat) (fld : Fld) (v : Nat) : State := s.setF (R.PORT_STATUS n) fld v

/-- The over-voltage limit of VBUS in whole mV (R230). -/
def State.portOvMv (s : State) (n : Nat) : Nat :=
  let v := max (s.contractMv n) (if (s.port n).moving then (s.port n).newMv else 0)
  max 6000 (v * 115 / 100)

/-- A refused write of PORT_n_CFG sets its flag. -/
def State.cfgRefused (s : State) (n : Nat) : State := s.hwSet (R.PORT_STATUS n) F.PORT_STATUS_CFG_REFUSED 1

/-- A field of PORT_n_CFG as in force since the last unattached entry (R225). -/
def State.cfgOf (s : State) (n : Nat) (fld : Fld) : Nat := getBits (s.port n).cfg fld.lo fld.w

/-- Host policy is in force at the port (R233). -/
def State.hostPolicy (s : State) (n : Nat) : Bool := s.cfgOf n F.PORT_CFG_POLICY == 1 && (s.port n).policyReady
/-- The autonomous engine is in force at the port. -/
def State.autoPolicy (s : State) (n : Nat) : Bool := s.cfgOf n F.PORT_CFG_POLICY == 0 && (s.port n).policyReady
/-- PE moves under the autonomous policy; under host policy it reads 31 (R234). -/
def State.setPe (s : State) (n v : Nat) : State :=
  s.setPS n F.PORT_STATUS_PE (if s.cfgOf n F.PORT_CFG_POLICY = 1 ∧ (s.port n).policyReady ∧ v ≠ 0 then 31 else v)

/-- The ring pair that PORT_n_CFG.RING names. -/
def State.pdPair (s : State) (n : Nat) : Nat := s.f (R.PORT_CFG n) F.PORT_CFG_RING
def State.pdTyped (s : State) (n : Nat) : Bool := s.pairType (s.pdPair n) == 4

/-- A PD completion entry (R240); bit 31 of word 0 is set when it is written. -/
def pdCpl (status op port seq : Nat) (sopP more : Bool) (mid : List Byte) (time len : Nat) (data : List Byte) : List Byte :=
  leBytes 4 (status + 256 * op + 65536 * boolNat sopP + 2 ^ 18 * port + 2 ^ 20 * seq + 2 ^ 24 * boolNat more)
    ++ padTo 4 mid ++ leBytes 6 time ++ leBytes 2 len ++ padTo 16 data

/-- Continuation entries of a received message: 28 further data bytes each (R240). -/
def pdCont (port : Nat) (sopP : Bool) : Nat → Nat → List Byte → List (List Byte)
  | 0, _, _ => []
  | fuel + 1, seq, data =>
    if data.isEmpty then []
    else (leBytes 4 (0x40 + 65536 * boolNat sopP + 2 ^ 18 * port + 2 ^ 20 * seq
            + 2 ^ 24 * boolNat (decide (28 < data.length))) ++ padTo 28 (data.take 28))
      :: pdCont port sopP fuel (seq + 1) (data.drop 28)

/-- A port event (R240), written whenever RING names a pair of type PD. -/
def State.portEvent (s : State) (n code detail : Nat) (data : List Byte) : State :=
  if s.pdTyped n then
    s.complete (s.pdPair n) (pdCpl 0x46 0 n 0 false false (leBytes 2 code ++ leBytes 2 detail) s.now48 data.length data) true
  else s

/-- A received message passes to host policy through the PD ring (R237, R240). -/
def State.portForward (s : State) (n : Nat) (m : PdMsg) : State :=
  let more := decide (16 < m.data.length)
  let s := s.complete (s.pdPair n) (pdCpl 0x40 0 n 0 m.sopP more (leBytes 2 m.header ++ leBytes 2 m.extHeader) s.now48
    m.data.length (m.data.take 16)) true
  (pdCont n m.sopP 9 1 (m.data.drop 16)).foldl (fun s e => s.complete (s.pdPair n) e true) s

/-! PD message types as on the wire (USB Power Delivery; log 20). -/

def ctlAccept : Nat := 3
def ctlReject : Nat := 4
def ctlPsRdy : Nat := 6
def ctlGetSourceCap : Nat := 7
def ctlGetSinkCap : Nat := 8
def ctlDrSwap : Nat := 9
def ctlPrSwap : Nat := 10
def ctlVconnSwap : Nat := 11
def ctlWait : Nat := 12
def ctlSoftReset : Nat := 13
def ctlNotSupported : Nat := 16
def ctlFrSwap : Nat := 19
def datSourceCap : Nat := 1
def datRequest : Nat := 2
def datBist : Nat := 3
def datSinkCap : Nat := 4
def datEnterUsb : Nat := 8
def datEprRequest : Nat := 9
def datEprMode : Nat := 10
def datVdm : Nat := 15

/-- Type, number of objects, extended bit and revision field of a message header. -/
def hdrType (h : Nat) : Nat := bitsOf h 0 5
def hdrCount (h : Nat) : Nat := bitsOf h 12 3
def hdrExt (h : Nat) : Bool := bitsOf h 15 1 == 1
def hdrRev (h : Nat) : Nat := bitsOf h 6 2
def hdrCtl (h : Nat) : Bool := hdrCount h == 0 && !hdrExt h

/-! Timers (R245). -/

/-- One millisecond in cycles. -/
def msCyc : Nat := 200000

/-- The retries of a message without GoodCRC (R245). -/
def State.retries (s : State) (n : Nat) : Nat := if s.f (R.PORT_STATUS n) F.PORT_STATUS_REV = 1 then 3 else 2

/-- The time of a PD timer in cycles. -/
def State.pdTime (s : State) (n : Nat) : PdTimer → Nat
  | .senderResponse => 27 * msCyc
  | .sinkWaitCap => 500 * msCyc
  | .psTransition => (if s.flag (R.PORT_STATUS n) F.PORT_STATUS_EPR then 925 else 500) * msCyc
  | .noResponse => 5000 * msCyc
  | .sourceCap => 150 * msCyc
  | .ppsTimeout => 13500 * msCyc
  | .sourceEprKeepAlive => 875 * msCyc
  | .sinkRequest => 100 * msCyc
  | .noGoodCrc => (1 + s.retries n) * msCyc
  | .psHardReset => 30 * msCyc
  | .srcRecover => 800 * msCyc
  | .errorRecovery => 30 * msCyc
  | .psSourceOff => 835 * msCyc
  | .psSourceOn => 435 * msCyc
  | .drpTry => 100 * msCyc
  | .drpTryWait => 600 * msCyc
  | .tryTimeout => 800 * msCyc
  | .bistCont => 45 * msCyc
  | .vdmResponse => 27 * msCyc
  | .vdmModeEntry => 45 * msCyc
  | .vdmModeExit => 45 * msCyc

/-- When a timer that runs began. -/
def State.timerAt (s : State) (n : Nat) (t : PdTimer) : Option Nat := ((s.port n).timers.find? (fun x => x.1 == t)).map (·.2)
def State.stopTimer (s : State) (n : Nat) (t : PdTimer) : State :=
  s.setPort n { s.port n with timers := (s.port n).timers.filter (fun x => x.1 != t) }
def State.startTimer (s : State) (n : Nat) (t : PdTimer) : State :=
  s.setPort n { s.port n with timers := (t, s.cyc) :: (s.port n).timers.filter (fun x => x.1 != t) }
/-- A timer runs and has expired; the keep-alive timers run from the last Request and the last message (R243). -/
def State.timerDue (s : State) (n : Nat) (t : PdTimer) : Bool :=
  match t with
  | .ppsTimeout => decide ((s.port n).reqAt + s.pdTime n t ≤ s.cyc)
  | .sourceEprKeepAlive => decide ((s.port n).rxAt + s.pdTime n t ≤ s.cyc)
  | .noGoodCrc => (s.port n).lastTx.isSome && decide ((s.port n).txAt + s.pdTime n t ≤ s.cyc)
  | _ => s.heldFor (s.timerAt n t) (s.pdTime n t)

/-! Sending (R224, R233, R239). -/

/-- The revision field of a message (R224): Revision 3.x before the partner's first message. -/
def State.txRev (s : State) (n : Nat) (sopP : Bool) : Nat :=
  let r := if sopP then (s.port n).revP else s.f (R.PORT_STATUS n) F.PORT_STATUS_REV
  if r = 1 then 1 else 2

/-- The header of a message with a MessageID: type, roles (on SOP), revision, objects, extended (log 20). -/
def State.txHeader (s : State) (n : Nat) (sopP : Bool) (typ id count : Nat) (ext : Bool) : Nat :=
  let roles := if sopP then 0
    else 32 * s.f (R.PORT_STATUS n) F.PORT_STATUS_DATA_ROLE + 256 * s.f (R.PORT_STATUS n) F.PORT_STATUS_PWR_ROLE
  typ % 32 + roles + 64 * s.txRev n sopP + 512 * (id % 8) + 4096 * (count % 8) + 32768 * boolNat ext

/-- A message is sent with the next MessageID; that the partner acknowledges it is what the events do not contradict (R246). -/
def State.pdSend (s : State) (n : Nat) (sopP : Bool) (typ count : Nat) (ext : Bool) (wire : List Byte) : State :=
  let r := s.port n
  let m : Emit := .pdTx n sopP (s.txHeader n sopP typ (if sopP then r.midP else r.mid) count ext) wire
  (s.emit m).setPort n { r with
    mid := if sopP then r.mid else (r.mid + 1) % 8
    midP := if sopP then (r.midP + 1) % 8 else r.midP
    lastTx := some m
    txAt := s.cyc }

def State.pdCtl (s : State) (n typ : Nat) : State := s.pdSend n false typ 0 false []
def State.pdData (s : State) (n typ : Nat) (data : List Byte) : State := s.pdSend n false typ (data.length / 4) false data

/-- An extended header: Data Size, Request Chunk, chunk number, Chunked (log 20). -/
def extHeader (size : Nat) (req : Bool) (k : Nat) : List Byte := leBytes 2 (size % 512 + 1024 * boolNat req + 2048 * (k % 16) + 32768)

/-- An extended message goes out in chunks of 26 data bytes, each filled up to whole objects (R239). -/
def State.pdExt (s : State) (n : Nat) (sopP : Bool) (typ : Nat) (data : List Byte) : State :=
  s.each (List.range (max 1 (ceilDiv data.length 26))) (fun k s =>
    let part := (data.drop (26 * k)).take 26
    let count := ceilDiv (2 + part.length) 4
    s.pdSend n sopP typ count true (extHeader data.length false k ++ padTo (4 * count - 2) part))

/-- Revision 3.x at SOP (R224). -/
def State.rev3 (s : State) (n : Nat) : Bool := s.f (R.PORT_STATUS n) F.PORT_STATUS_REV == 2

/-- The revision is fixed by the partner's first message (R224). -/
def State.learnRev (s : State) (n h : Nat) : State :=
  let s := (s.setPort n { s.port n with everPd := true }).stopTimer n .noResponse
  if s.f (R.PORT_STATUS n) F.PORT_STATUS_REV = 0 then s.setPS n F.PORT_STATUS_REV (if hdrRev h ≥ 2 then 2 else 1) else s

/-- A message has arrived on SOP or SOP' (R224, R233, log 20): GoodCRC goes out, and the result says whether the message is new, by its MessageID.
Without a policy nothing is acknowledged, nor while BIST Carrier Mode is sent. A Soft_Reset starts the MessageIDs anew. -/
def State.pdAck (s : State) (n : Nat) (sopP : Bool) (h : Nat) : State × Bool :=
  let r := s.port n
  if !s.attached n || !r.policyReady || r.bist == 1 then (s, false)
  else
    let id := bitsOf h 9 3
    let soft := hdrCtl h && hdrType h == ctlSoftReset
    let s := s.emit (.pdTx n sopP (s.txHeader n sopP 1 id 0 false) [])
    let new := soft || (if sopP then r.rxMidP else r.rxMid) != some id
    let s := s.setPort n { r with
      rxMid := if sopP then r.rxMid else some id
      rxMidP := if sopP then some id else r.rxMidP
      mid := if soft && !sopP then 0 else r.mid
      midP := if soft && sopP then 0 else r.midP
      lastTx := none
      rxAt := s.cyc }
    let s := if sopP then
        (if r.revP = 0 then s.setPort n { s.port n with revP := if hdrRev h ≥ 2 then 2 else 1 } else s)
      else s.learnRev n h
    (s, new)

/-- Not_Supported at Revision 3.x, Reject at Revision 2.0 (R223). -/
def State.pdUnsupported (s : State) (n : Nat) : State := s.pdCtl n (if s.rev3 n then ctlNotSupported else ctlReject)

/-! Power data objects: Fixed objects carry 50 mV in bits 19:10 and 10 mA in bits 9:0 (log 20). -/

def pdoFixed (p : Nat) : Bool := p != 0 && bitsOf p 30 2 == 0
def pdoMv (p : Nat) : Nat := bitsOf p 10 10 * 50
def pdoMa (p : Nat) : Nat := bitsOf p 0 10 * 10

/-- Without a cable discovered as 5 A capable every current is limited to 3,000 mA (R232). -/
def State.cableMa (s : State) (n : Nat) : Nat := if s.flag (R.PORT_CABLE n) F.PORT_CABLE_I5A then 5000 else 3000

/-- The dual-role and swap bits of the first object come from ROLE and the SWAP bits (R235). -/
def State.roleBits (s : State) (n p : Nat) : Nat :=
  p % 2 ^ 23 + p / 2 ^ 30 * 2 ^ 30 + 2 ^ 29 * boolNat (s.cfgOf n F.PORT_CFG_ROLE == 3)
    + 2 ^ 25 * s.f (R.PORT_CFG n) F.PORT_CFG_SWAP_DR

/-- The objects that the autonomous Source advertises (R236), each with its current limited by the cable. -/
def State.sourcePdos (s : State) (n : Nat) : List Nat :=
  ((List.range 7).map (fun k => (k, s.rdN (R.PORT_SRC_PDO n k)))).filterMap (fun x =>
    if pdoFixed x.2 ∧ s.nodeVmin (12 + n) ≤ pdoMv x.2 ∧ pdoMv x.2 ≤ s.nodeVmax (12 + n) then
      some ((if x.1 = 0 then s.roleBits n x.2 else x.2) / 1024 * 1024 + min (pdoMa x.2) (s.cableMa n) / 10)
    else none)

def State.sinkPdos (s : State) (n : Nat) : List Nat :=
  ((List.range 7).map (fun k => (k, s.rdN (R.PORT_SNK_PDO n k)))).filterMap (fun x =>
    if x.2 = 0 then none else some (if x.1 = 0 then s.roleBits n x.2 else x.2))

def objBytes (l : List Nat) : List Byte := l.flatMap (leBytes 4)

/-- The 32-bit objects of a message's data. -/
def objects : Nat → List Byte → List Nat
  | 0, _ => []
  | fuel + 1, b => if b.isEmpty then [] else leAt b 0 4 :: objects fuel (b.drop 4)

/-- Source_Capabilities are sent and acknowledged (R228 step 6, R234): SRC_NEGOTIATE. -/
def State.sendCaps (s : State) (n : Nat) : State :=
  let c := s.sourcePdos n
  let s := (s.setPort n { s.port n with capsTx := c, capsSent := (s.port n).capsSent + 1 }).pdData n datSourceCap (objBytes c)
  ((s.stopTimer n .sourceCap).startTimer n .senderResponse).setPe n 9

/-- SRC_SEND_CAPS: capabilities go out again 150 ms later (R234). -/
def State.awaitCaps (s : State) (n : Nat) : State := ((s.stopTimer n .senderResponse).startTimer n .sourceCap).setPe n 8

/-- The port's own message is answered, or waits for its answer no more. -/
def State.ownDone (s : State) (n : Nat) : State := (s.setPort n { s.port n with ownMsg := none }).stopTimer n .senderResponse
/-- The port's own message waits for its answer (R245). -/
def State.ownSent (s : State) (n code : Nat) : State := (s.setPort n { s.port n with ownMsg := some code }).startTimer n .senderResponse

/-! Contracts (R241, R242). -/

/-- The Type-C current of the partner's Rp, mA, or the Battery Charging current (R241, R254). -/
def State.implicitMa (s : State) (n : Nat) : Nat :=
  let c := s.f (R.PORT_STATUS n) F.PORT_STATUS_TYPEC_CUR
  if c = 1 then 1500 else if c = 2 then 3000 else if (s.port n).bcMa ≠ 0 then (s.port n).bcMa else 500

/-- V_FLOOR of the port's stages (R241). -/
def State.setPortFloor (s : State) (n mv : Nat) : State :=
  (s.stagesOutOf (12 + n)).foldl (fun s k => s.setF (R.STAGE_VFLOOR k) F.STAGE_VFLOOR_V_FLOOR (mv * 90 / 100)) s

/-- The implicit supply of a Sink without an explicit contract (R241, R233). -/
def State.implicitSupply (s : State) (n : Nat) : State :=
  let ma := s.implicitMa n
  ((s.setPort n { s.port n with budget := 5 * ma, limit := ma, lossMv := 4250 }).setPortFloor n 5000).startQualify (3 + n)

/-- An explicit contract is applied: registers, budget, limit and thresholds as Sink (R241), reference as Source (R242). -/
def State.applyContract (s : State) (n : Nat) : State :=
  let r := s.port n
  let s := (s.wrN (R.PORT_CONTRACT n) (r.newMv % 65536 + 65536 * (r.newMa / 10))).wrN (R.PORT_RDO n) r.reqRdo
  let s := s.setPS n F.PORT_STATUS_EXPLICIT 1
  let s := (s.setPort n { s.port n with moving := false, hardSent := 0, reqMv := r.newMv, reqMa := r.newMa, hadContract := true,
                                        setAt := none }).stopTimer n .psTransition
  let s := if s.isSrc n then s.setPort n { s.port n with refMv := r.newMv }
    else
      ((s.setPort n { s.port n with budget := r.newMv * r.newMa / 1000, limit := r.newMa, lossMv := r.newMv * 85 / 100,
                                    hardRecov := false, needContract := false }).setPortFloor n r.newMv).startQualify (3 + n)
  s.portEvent n 0x0003 0 (leBytes 4 r.reqRdo ++ leBytes 2 r.newMv ++ leBytes 2 (r.newMa / 10))

/-- From Accept to PS_RDY the port's budget is 2,500 mW and its stages are limited to that; the load of
its rails passes to the packs that stand by (R32, R241). -/
def State.standbyPower (s : State) (n : Nat) : State :=
  let r := s.port n
  let fall := decide (2500 < r.budget)
  let s := s.setPort n { r with moving := true, budget := 2500, newMv := r.newMv,
                                lossMv := if s.explicit n then min r.lossMv (r.newMv * 85 / 100) else r.newMv * 85 / 100 }
  let stages := s.stagesOutOf (12 + n)
  let s := stages.foldl (fun s k => s.wrN (R.STAGE_CEIL k) (min (s.stageCeil k) (2500 / max 1 stages.length))) s
  let s := if s.supState (3 + n) = supOnline then (s.railsOf (12 + n)).foldl State.fillHand s else s
  let s := (s.stopTimer n .senderResponse).startTimer n .psTransition
  if fall ∧ s.supState (3 + n) = supOnline then s.trigReval 0x0002 else s

/-- The loop B limit of a Source port's feeding stage, mA (R242): the contracted current plus 5 %, or under a PPS or AVS contract the
operating current. -/
def State.portLimit (s : State) (n : Nat) : Option Nat × State :=
  let r := s.port n
  if !s.isSrc n || !s.explicit n then (none, s)
  else if r.pps then (some r.reqMa, s)
  else
    let q := s.quot ((r.reqMa * 21 : Nat) : Int) 20
    (some (natOf q.1), q.2)

/-! Dropping a contract (R252) and ErrorRecovery (R246). -/

/-- FRS_ARMED of R248. -/
def State.canArm (s : State) (n : Nat) : Bool :=
  let k := s.f (R.PORT_SRC_CFG n) F.PORT_SRC_CFG_FRS_STAGE
  s.conn n == cnSink && s.explicit n && s.hostPolicy n && s.flag (R.PORT_CFG n) F.PORT_CFG_FRS_EN
    && s.stUsed k && s.stTo k == 12 + n && s.stFrom k != 12 + n && s.stageState k == stReady

def State.showArmed (s : State) (n : Nat) : State := s.setPS n F.PORT_STATUS_FRS_ARMED (boolNat (s.canArm n))

/-- VCONN turns off (R231). -/
def State.vconnOff (s : State) (n : Nat) : State := s.setPS n F.PORT_STATUS_VCONN_ON 0

/-- The stages that deliver into the port node are released. -/
def State.stopPortStages (s : State) (n : Nat) : State :=
  ((s.stagesRunInto (12 + n)) ++ (s.stagesOutOf (12 + n))).foldl (fun s k =>
    (if s.stageRuns k then s.stopStage k stReady else s).wrN (R.STAGE_CEIL k) 0) s

/-- The contract is dropped, the port stages are released and the supply is LOST with its hand-over (R252 steps 1 to 4);
`openSw`: the SERIES switch opens; `dis`: the discharge output is asserted. The next tick ends the orders on the port. -/
def State.portDrop (s : State) (n : Nat) (openSw dis : Bool) : State :=
  let wasEpr := s.flag (R.PORT_STATUS n) F.PORT_STATUS_EPR
  let s := if s.isSrc n then s else s.loseSupply (3 + n) supLost openSw
  let s := s.stopPortStages n
  let s := if openSw then
      match s.seriesOf (12 + n) with
      | some w => (s.openSwitch w).setPsw w { s.psw w with want := false }
      | none => s
    else s
  let s := (s.setPS n F.PORT_STATUS_EXPLICIT 0).setPS n F.PORT_STATUS_EPR 0
  let s := (s.wrN (R.PORT_CONTRACT n) 0).wrN (R.PORT_RDO n) 0
  let r := s.port n
  let s := s.setPort n { r with
    moving := false, newMv := 0, newMa := 0, reqRdo := 0, reqMv := 0, reqMa := 0, pps := false, hostWait := none, lateTo := none,
    prSwap := false, vconnSwap := false, frs := false, frsStep := 0, budget := 0, limit := 0, ownMsg := none, refMv := 0, refTicks := 0,
    inReg := 0, srcStep := 0, sagAt := none, setAt := none, bist := 0, dropTick := true,
    timers := r.timers.filter (fun x => x.1 == .noResponse), dschg := dis && decide (800 < s.supV (3 + n)) }
  let s := (s.showArmed n).trigReval 0x0002
  if wasEpr then s.portEvent n 0x000C 0 [] else s

/-- The port enters ErrorRecovery (R227, R228, R246, R249, R373). -/
def State.enterErrorRecovery (s : State) (n : Nat) : State :=
  let s := s.portDrop n true true
  let s := (s.vconnOff n).setPort n { s.port n with hardSent := 0, hardRecov := false, capsSent := 0, modes := [], timers := [], detach := 0,
                                                    ccAt := none, recDone := false }
  let s := (s.setPS n F.PORT_STATUS_DB 0).startTimer n .errorRecovery
  (s.setPS n F.PORT_STATUS_CONN cnErrorRecovery).setPe n 15

/-- ErrorRecovery as a rung of the ladder records 0x72 (R246). -/
def State.ladderRecovery (s : State) (n : Nat) : State := (s.enterErrorRecovery n).raise 0x72 n []

/-! The reset ladder (R246). -/

/-- Hard Reset recovery begins, on sending or receiving one: a Sink port is LOST; a Source port takes VBUS to vSafe0V (R246). Revisions,
MessageIDs, modes, the data role and VCONN start anew (R224, R253, log 20), and tNoResponse runs until the partner is heard. -/
def State.hardRecovery (s : State) (n : Nat) : State :=
  let src := s.isSrc n
  let s := (s.portDrop n true src).vconnOff n
  let s := (s.setPS n F.PORT_STATUS_REV 0).setPS n F.PORT_STATUS_DATA_ROLE (boolNat src)
  let s := s.setPort n { s.port n with
    hardRecov := true, revP := 0, capsSent := 0, mid := 0, midP := 0, rxMid := none, rxMidP := none, lastTx := none, modes := [],
    srcStep := if src then 1 else 0, srcAt := s.cyc }
  let s := if (s.timerAt n .noResponse).isSome then s else s.startTimer n .noResponse
  (if src then s else s.startTimer n .psHardReset).setPe n 14

/-- Hard_Reset is sent (R246): signalled, counted, recorded as 0x70 with its event. -/
def State.sendHard (s : State) (n : Nat) : State :=
  let s := (s.emit (.pdSignal n 0)).bump (R.PORT_CNT n) F.PORT_CNT_HARD 1
  let s := s.setPort n { s.port n with hardSent := (s.port n).hardSent + 1 }
  ((s.hardRecovery n).raise 0x70 n []).portEvent n 0x0004 1 []

/-- Soft_Reset is sent (R246). -/
def State.sendSoft (s : State) (n : Nat) : State :=
  let s := s.setPort n { s.port n with mid := 0, rxMid := none, hostWait := none }
  let s := ((s.pdCtl n ctlSoftReset).bump (R.PORT_CNT n) F.PORT_CNT_SOFT 1).ownSent n ctlSoftReset
  (s.setPe n 13).portEvent n 0x0005 1 []

/-- A failure: Hard_Reset during a power transition, Soft_Reset otherwise (R246). -/
def State.portFailure (s : State) (n : Nat) : State :=
  if (s.port n).moving || (s.port n).prSwap then s.sendHard n else s.sendSoft n

/-! The Source sequence of R228. -/

/-- Step 1 of R228: the discharge output while VBUS exceeds 800 mV; PE is SRC_STARTUP, or SRC_DISABLED without a policy (R233). -/
def State.sourceStart (s : State) (n : Nat) : State :=
  let s := s.setPort n { s.port n with refMv := 0, srcStep := 1, srcAt := s.cyc, dschg := decide (800 < s.supV (3 + n)) }
  s.setPe n (if (s.port n).policyReady then 7 else 12)

/-- Step 3 of R228: the node is brought to 5,000 mV by its feeding stage. -/
def State.sourceFive (s : State) (n : Nat) : State :=
  s.setPort n { s.port n with refMv := 5000, refTicks := 0, inReg := 0, srcStep := 3, dschg := false }

/-- Step 4 of R228, once the node is in regulation: the SERIES switch closes. -/
def State.sourceClose (s : State) (n : Nat) : State :=
  match s.seriesOf (12 + n) with
  | some w =>
    if (s.port n).srcStep = 3 ∧ 16 ≤ (s.port n).inReg ∧ s.mayClose w then
      ((s.closeSwitch w).setPsw w { s.psw w with want := true, forced := false }).setPort n { s.port n with srcStep := 4 }
    else s
  | none => s

/-- Steps 5 and 6 of R228: VCONN is applied to a cable with Ra, and the first Source_Capabilities are sent, by the autonomous policy unless it is
disabled; a swap into the Source role is done (R250). -/
def State.sourceUp (s : State) (n : Nat) : State :=
  let s := if s.flag (R.PORT_CFG n) F.PORT_CFG_VCONN_EN && (s.port n).ra then s.setPS n F.PORT_STATUS_VCONN_ON 1 else s
  let s := if (s.port n).prSwap then
      ((s.pdCtl n ctlPsRdy).setPort n { s.port n with prSwap := false }).portEvent n 0x0008 1 []
    else s
  if s.autoPolicy n ∧ s.pe n = 7 then s.sendCaps n else s

/-- Step 5 of R228: VBUS must lie within 4,750–5,500 mV. -/
def State.sourceCheck (s : State) (n : Nat) : State :=
  if (s.port n).srcStep = 5 ∧ 4750 ≤ s.supV (3 + n) ∧ s.supV (3 + n) ≤ 5500 then
    (s.setPort n { s.port n with srcStep := 0 }).sourceUp n
  else s

/-- The reference of a source transition moves, from tSrcTransition after the Accept on (R247): by SLEW × 0.1 V/ms (a mV a tick for each 0.1 V/ms)
or |ΔV| / 200 ms, whichever is more; on a fall VBUS is discharged while it exceeds the new voltage by 5 %. -/
def State.moveRefTick (s : State) (n : Nat) : State :=
  let r := s.port n
  if !r.moving || !s.isSrc n || decide (s.cyc < r.moveAt + 30 * msCyc) then s
  else
    let dv := (r.newMv - r.refFrom) + (r.refFrom - r.newMv)
    let k := r.refTicks + 1
    let d := min dv (k * max (20000 * max 1 (s.f (R.PORT_SRC_CFG n) F.PORT_SRC_CFG_SLEW)) dv / 20000)
    s.setPort n { r with
      refTicks := if d = dv then r.refTicks else k
      refMv := if r.refFrom ≤ r.newMv then r.refFrom + d else r.refFrom - d
      dschg := decide (r.newMv < r.refFrom ∧ 105 * r.newMv < 100 * s.supV (3 + n)) }

/-- What the tick does at a port: the discharge of R228, its steps 4 and 5, the reference of R247, FRS_ARMED (R248). -/
def State.tickPort (s : State) (n : Nat) : State :=
  let s := if (s.port n).srcStep = 1 then s.setPort n { s.port n with dschg := decide (800 < s.supV (3 + n)) } else s
  (((s.sourceClose n).sourceCheck n).moveRefTick n).showArmed n

/-! Attach and detach (R225, R226, R233). -/

/-- A policy is in force for the port at an attach (R233). -/
def State.policyFor (s : State) (n : Nat) : Bool :=
  if s.cfgOf n F.PORT_CFG_POLICY = 1 then s.pdTyped n && s.pairState (s.pdPair n) == ringActive else n != 2

/-- The role admits an attach as Sink or as Source. -/
def State.roleAllows (s : State) (n : Nat) (src : Bool) : Bool :=
  let r := s.cfgOf n F.PORT_CFG_ROLE
  r == 3 || r == (if src then 2 else 1)

/-- A Sink port with a policy waits for capabilities; without one it takes the implicit supply (R233, R234). -/
def State.sinkStart (s : State) (n : Nat) : State :=
  if (s.port n).policyReady then (s.startTimer n .sinkWaitCap).setPe n 2 else (s.setPe n 16).implicitSupply n

/-- The port enters an attached state (R225). -/
def State.attach (s : State) (n : Nat) (o : AttachObs) : State :=
  let s := s.setSupV (3 + n) o.vbus
  let s := s.setPort n { s.port n with ra := o.ra, presSrc := o.asSource, policyReady := s.policyFor n, ccAt := none, timers := [] }
  let s := (s.setPS n F.PORT_STATUS_CONN (if o.asSource then cnSource else cnSink)).noteIdle .port
  let s := (s.setPS n F.PORT_STATUS_PWR_ROLE (boolNat o.asSource)).setPS n F.PORT_STATUS_DATA_ROLE (boolNat o.asSource)
  let s := (s.setPS n F.PORT_STATUS_FLIP (boolNat o.flip)).setPS n F.PORT_STATUS_TYPEC_CUR (if o.asSource then 0 else o.rp)
  let s := s.portEvent n 0x0001 (if o.asSource then 2 else 1) []
  if o.asSource then s.sourceStart n else s.sinkStart n

/-- A write of PORT_n_CFG: POLICY is refused on its own (R233); ROLE, TRY, RP and POLICY come into force at once, or while the port is attached at
the next unattached entry (R225). The first write by Headland ends dead-battery Rd, unless a Source is attached to a Sink or DRP
port: it goes on presenting Rd and enters the attached Sink state (R226; log 30). -/
def State.writePortCfg (s : State) (n : Nat) (v : Word) (byHeadland : Bool) : State :=
  let c := R.PORT_CFG n
  let old := s.f c F.PORT_CFG_POLICY
  let s := s.wr c (v &&& 0x00FFFF7F#32)
  let bad := if s.f c F.PORT_CFG_POLICY = 0 then decide (n = 2) else !s.pdTyped n
  let s := if bad then (s.setF c F.PORT_CFG_POLICY old).cfgRefused n else s
  let s := if s.conn n = cnSink ∨ s.conn n = cnSource then s else s.setPort n { s.port n with cfg := s.rd c }
  let s := if byHeadland ∧ ¬ (s.port n).configured then
      let s := s.setPort n { s.port n with configured := true, toggleAt := s.cyc }
      match (s.port n).seen with
      | some o => if s.roleAllows n false ∧ ¬ s.heldPort n then s.attach n o else s.setPS n F.PORT_STATUS_DB 0
      | none => s.setPS n F.PORT_STATUS_DB 0
    else s
  let s := s.showArmed n
  if s.flag c F.PORT_CFG_FRS_EN && !s.canArm n then s.cfgRefused n else s

/-- A port record is applied: its registers, PORT_n_CFG by the rules of its writes. -/
def State.loadPort (s : State) (n : Nat) (data : List Byte) : State :=
  if data.length < 4 then s
  else
    let cfg := s.rd (R.PORT_CFG n)
    ((s.loadRegs data (portRegs n) 0).wr (R.PORT_CFG n) cfg).writePortCfg n (BitVec.ofNat 32 (leAt data 0 4)) true

/-- An unattached entry: the written ROLE, TRY, RP and POLICY come into force, a record written meanwhile is applied
(R291), and what belongs to the partner is forgotten (R224, R225, R252). -/
def State.enterUnattached (s : State) (n : Nat) : State :=
  let r := s.port n
  let s := ((s.noteIdle .port).setPS n F.PORT_STATUS_CONN cnUnattached).setPS n F.PORT_STATUS_PE 0
  let s := s.setPort n { ({} : PortRt) with cfg := s.rd (R.PORT_CFG n), configured := r.configured, dropTick := r.dropTick, toggleAt := s.cyc,
                                            safeAt := r.safeAt, lowAt := r.lowAt, overAt := r.overAt }
  let s := s.loadPort n r.recNext
  let s := (s.setPS n F.PORT_STATUS_PWR_ROLE 0).setPS n F.PORT_STATUS_DATA_ROLE 0
  let s := (s.setPS n F.PORT_STATUS_REV 0).setPS n F.PORT_STATUS_BC 0
  let s := ((s.setPS n F.PORT_STATUS_FLIP 0).setPS n F.PORT_STATUS_TYPEC_CUR 0).vconnOff n
  let s := if r.configured then s.setPS n F.PORT_STATUS_DB 0 else s
  let s := (s.wrN (R.PORT_CABLE n) 0).setSupState (3 + n) supAbsent
  s.setSupply (3 + n) {}

/-! What the pins present (R225–R227, R231, R254). -/

/-- What a port puts on a CC pin: nothing, Rd, Rp of a current (0 Default, 1 1.5 A, 2 3.0 A), or VCONN. -/
inductive CcPull where
  | open_ | rd | rp (cur : Nat) | vconn
  deriving DecidableEq, Repr

/-- The current that the port's Rp signals as Source (R225): after an explicit contract at Revision 3.x SinkTxNG, 1.5 A, while the port runs
a message sequence of its own, and SinkTxOK, 3.0 A, otherwise; else RP, whose reserved value acts as Default. -/
def State.rpNow (s : State) (n : Nat) : Nat :=
  if s.isSrc n && s.explicit n && s.rev3 n then (if (s.port n).ownMsg.isSome then 1 else 2)
  else
    let v := s.cfgOf n F.PORT_CFG_RP
    if v = 3 then 0 else v

/-- What CC1 (0) or CC2 (1) presents; while a reset is asserted dead-battery Rd (R400). -/
def State.ccPin (s : State) (n pin : Nat) : CcPull :=
  let c := s.conn n
  let role := s.cfgOf n F.PORT_CFG_ROLE
  let src := if c = cnUnattached then role == 2 || (role == 3 && (s.port n).presSrc) else (s.port n).presSrc
  let used := s.f (R.PORT_STATUS n) F.PORT_STATUS_FLIP == pin
  if s.sys.power = .hold then .rd
  else if bitsOf (s.port n).ccHigh pin 1 = 1 ∨ c = cnErrorRecovery then .open_
  else if (c = cnSink ∨ c = cnSource) ∧ !used ∧ s.flag (R.PORT_STATUS n) F.PORT_STATUS_VCONN_ON then .vconn
  else if s.flag (R.PORT_STATUS n) F.PORT_STATUS_DB then .rd
  else if role = 0 ∧ c = cnUnattached then .open_
  else if src then .rp (s.rpNow n)
  else .rd

/-- The port shorts DP to DN and presents DCP (R254). -/
def State.dpShort (s : State) (n : Nat) : Bool := s.conn n == cnSource && s.flag (R.PORT_CFG n) F.PORT_CFG_BC_EN

end Sys2Proof.Machine
end

