-- ==== Sys2Proof/Machine/Harrow.lean ====
section
/-! DEFINITION. Harrow (spec/13_faults_and_watchdog.md R370–R382): reports, actions, holds, the end of a cause, quiet periods
and software clears; and the settling of the faults that a step raised (log 12). -/

namespace Sys2Proof.Machine

/-- The faults whose cause is a condition that lasts (R373); the others are events. -/
def lastingIds : List Nat :=
  [0x02, 0x03, 0x04, 0x08, 0x0A, 0x0B, 0x22, 0x29, 0x40, 0x42, 0x44, 0x4E, 0x53, 0x54, 0x58, 0x59, 0x5A, 0x5B, 0x60, 0x62,
   0x75, 0x79, 0x83, 0x85, 0x98, 0xBB]

/-- GLN_s_STATUS.STATE, and its code of a stream in FAULTED (R317). -/
def State.glnState (s : State) (g : Nat) : Nat := s.f (R.GLN_STATUS g) F.GLN_STATUS_STATE
def glnFaulted : Nat := 5

/-- A known chemistry of the link differs from that of the VALID profile (R200). -/
def State.chemClash (s : State) (i : Nat) : Bool :=
  let c := s.f (R.PACK_LINK_STATUS i) F.PACK_LINK_STATUS_CHEM
  c != 0 && s.profValid i && c != leAt (s.pack i).prof 6 1

/-- A pack's zone temperature lies 2.0 °C inside its charge or discharge window (R327). -/
def State.tempInside (s : State) (i : Nat) (dsg : Bool) : Bool :=
  let t := toSigned 16 (s.f (R.PACK_TEMP i) F.PACK_TEMP_T_ZONE)
  let lo := if dsg then s.f (R.ENV_PACK_TDSG i) F.ENV_PACK_TDSG_TDSG_LO else s.f (R.ENV_PACK_TCHG i) F.ENV_PACK_TCHG_TCHG_LO
  let hi := if dsg then s.f (R.ENV_PACK_TDSG i) F.ENV_PACK_TDSG_TDSG_HI else s.f (R.ENV_PACK_TCHG i) F.ENV_PACK_TCHG_TCHG_HI
  decide (toSigned 16 lo + 20 ≤ t ∧ t ≤ toSigned 16 hi - 20)

/-- Whether the cause of an instance is present (R373): read off the state where State holds the condition, else the flag of
the report, which for an event lasts until the next tick. -/
def State.causePresent (s : State) (id inst : Nat) : Bool :=
  let h := s.hrwInst id inst
  if id = 0x83 then s.flag (R.COORD_STATUS inst) F.COORD_STATUS_STALL
  else if id = 0x85 then s.flag (R.COORD_STATUS inst) F.COORD_STATUS_SPEED_ERR
  else if id = 0x60 then s.f R.FAB_STATUS F.FAB_STATUS_STATE != 2
  else if id = 0x53 then !s.profValid inst
  else if id = 0x54 then (s.pack inst).ntcBad
  else if id = 0x40 then s.f (R.PACK_LINK_STATUS inst) F.PACK_LINK_STATUS_STATE == 3
  else if id = 0x42 then s.chemClash inst
  else if id = 0x44 then (s.pack inst).dsgOff
  else if id = 0x4E then s.f (R.CAN_STATUS inst) F.CAN_STATUS_STATE == 2
  else if id = 0x02 then s.sys.refLost
  else if id = 0x75 then h.st != .clear && decide (s.portOvMv inst < s.supV (3 + inst))
  else if id = 0x98 then s.glnState inst == glnFaulted
  else if id = 0xBB then s.sys.bootBad
  else if id = 0x5B then h.st != .clear && !s.tempInside inst (leAt h.record 8 1 == 1)
  else if lastingIds.contains id then h.cause
  else h.st != .clear && h.tick == s.tick && h.cause

/-- HRW_INST.STATE codes. -/
def HrwState.code : HrwState → Nat
  | .clear => 0
  | .active => 1
  | .quiet => 2
  | .locked => 3
  | .safe => 4

/-- The effective FAULT_N bit (R375). -/
def State.effFaultN (s : State) (id : Nat) : Bool :=
  decide (3 ≤ s.effClass id) || s.flag (R.HRW_ID_CFG id) F.HRW_ID_CFG_FAULT_N

/-- The actions of R375, with the class and the state entered; `lockout`: the entry into LOCKED from QUIET (R378). -/
def State.hrwActions (s : State) (id inst cls entered : Nat) (record : List Byte) (lockout : Bool) : State :=
  let c := R.HRW_ID_CFG id
  let notify := s.flag c F.HRW_ID_CFG_NOTIFY
  let rec_ := lockout || decide (2 ≤ cls) || s.flag c F.HRW_ID_CFG_RECORD
  let pin := lockout || decide (3 ≤ cls) || s.flag c F.HRW_ID_CFG_FAULT_N
  let s := if notify then (s.event 1 0 (id + 256 * inst + 4096 * cls) record).setGlb 1 else s
  if rec_ then
    s.bbQueue 1 cls (leBytes 2 (id + 256 * inst) ++
      [BitVec.ofNat 8 (boolNat notify + 2 + 4 * boolNat pin + 16 * entered), 0#8] ++ padTo 16 record)
  else s

/-! Holds (R373). -/

/-- The units that an instance names enter their hold at once. -/
def State.holdUnit (s : State) (id inst : Nat) : State :=
  let h := s.hrwInst id inst
  let stages := s.unitStages id inst
  let ran := stages.any s.stageRuns
  let s := stages.foldl (fun s n => s.tripStage n) s
  let s := if ran then s.trigReval 0x0004 else s
  if unitCharge id h ∧ inst < 4 then s.lockCharge inst
  else if unitPack id h ∧ inst < 4 then
    match s.seriesOf (8 + inst) with
    | some w => s.forceOpen w
    | none => s
  else if (id = 0x61 ∨ id = 0x62 ∨ id = 0x67) ∧ inst < 3 then s.loseSupply inst supFault true
  else if (id = 0x63 ∨ id = 0x64 ∨ id = 0x68) ∧ inst < 12 then s.forceOpen inst
  else if 0x70 ≤ id ∧ id < 0x80 ∧ inst < 3 then s.enterErrorRecovery inst
  else
    match unitPair id h with
    | some p => if s.pairState p = ringActive then s.setPairState p ringStalled 0 else s
    | none => s

/-- The SERIES switch of a pack that nothing holds waits for dispatch. -/
def State.freeSeries (s : State) (i : Nat) : State :=
  match s.seriesOf (8 + i) with
  | some w => if s.heldPack i then s else s.setPsw w { s.psw w with forced := (s.psw w).hold }
  | none => s

/-- The units that an instance named return, where nothing else holds them (R377, R379): TRIPPED stages to READY, LOCKED stages
to IDENT, a LOCKED charge function to STOPPED, a pack and its switch to dispatch, an input in FAULT to ABSENT once in range,
stages held by the fabric to IDENT. -/
def State.releaseUnit (s : State) (id inst : Nat) (h : HrwInst) : State :=
  let s := (s.unitStages id inst).foldl (fun s n =>
    if s.stageState n = stLocked ∧ ¬ s.lockedStage n then s.setStageState n stIdent
    else if s.stageState n = stTripped ∧ ¬ s.heldStage n then s.setStageState n stReady
    else s) s
  if id = 0x5B ∧ inst < 4 then (s.freeSeries inst).unlockCharge inst
  else if unitCharge id h ∧ inst < 4 then s.unlockCharge inst
  else if unitPack id h ∧ inst < 4 then s.freeSeries inst
  else if (id = 0x61 ∨ id = 0x62 ∨ id = 0x67) ∧ inst < 3 then
    s.supRecover inst
  else if (id = 0x63 ∨ id = 0x64 ∨ id = 0x68) ∧ inst < 12 then
    let s := if s.heldSwitch inst then s else s.setPsw inst { s.psw inst with forced := (s.psw inst).hold }
    match (if s.pswRole inst = 1 then supOfNode (s.pswA inst) else none) with
    | some x => s.supRecover x
    | none => s
  else if id = 0x60 then s.each (List.range 8) (fun n s => s.startIdent n)
  else if 0x70 ≤ id ∧ id < 0x80 ∧ inst < 3 then
    if s.conn inst = cnErrorRecovery ∧ (s.port inst).recDone ∧ ¬ s.heldPort inst then s.enterUnattached inst else s
  else s

/-- An instance enters LOCKED; a stage that it stopped enters LOCKED of R120 (R378). -/
def State.lockUnit (s : State) (id inst : Nat) : State :=
  (s.unitStages id inst).foldl (fun s n => if s.stageState n = stTripped then s.setStageState n stLocked else s) s

/-- A further report of ENV_PACK_TEMP may name the other window: the hold moves with it (R327). -/
def State.rehold (s : State) (id inst : Nat) (old : HrwInst) : State :=
  let h := s.hrwInst id inst
  if id ≠ 0x5B ∨ unitPack id old = unitPack id h ∨ 4 ≤ inst then s
  else if unitPack id h then s.holdUnit id inst else (s.freeSeries inst).holdUnit id inst

/-! Reports (R377). -/

/-- One report of a fault to Harrow. -/
def State.report (s : State) (id inst : Nat) (record : List Byte) : State :=
  if (defaultClass id).isNone then s
  else
    let h := { s.hrwInst id inst with occur := min 255 ((s.hrwInst id inst).occur + 1), cause := true, tick := s.tick,
                                      record := padTo 16 record }
    let cls := s.effClass id
    let s := (s.setF R.HRW_STATUS F.HRW_STATUS_LAST_ID id).setF R.HRW_STATUS F.HRW_STATUS_LAST_INST inst
    let s := if 2 ≤ cls then s.noteEvent 8 0 else s
    let s := if 1 ≤ cls then s.noteIdle .fault else s
    match h.st with
    | .clear =>
      if cls = 0 then (s.setHrw id inst h).hrwActions id inst 0 0 record false
      else if cls = 4 then
        let s := (s.setHrw id inst { h with st := .safe, cls := 4 }).hrwActions id inst 4 4 record false
        if s.safeOn then s else s.safeAction id inst
      else
        let s := (s.setHrw id inst { h with st := .active, cls := cls }).hrwActions id inst cls 1 record false
        if cls = 1 then s else s.holdUnit id inst
    | .active =>
      if cls = 4 then
        let s := (s.setHrw id inst { h with st := .safe, cls := 4 }).hrwActions id inst 4 4 record false
        if s.safeOn then s else s.safeAction id inst
      else (s.setHrw id inst h).rehold id inst (s.hrwInst id inst)
    | .quiet =>
      if cls = 4 then
        let s := (s.setHrw id inst { h with st := .safe, cls := 4 }).hrwActions id inst 4 4 record false
        if s.safeOn then s else s.safeAction id inst
      else (s.setHrw id inst { h with st := .active }).rehold id inst (s.hrwInst id inst)
    | .locked => s.setHrw id inst h
    | .safe => s.setHrw id inst h

/-- The faults raised so far are reported, in order. -/
def State.settleRound (s : State) : State :=
  s.raised.foldl (fun s r => s.report r.id r.inst r.record) { s with raised := [] }

def State.settleN (s : State) : Nat → State
  | 0 => { s with raised := [] }
  | n + 1 => if s.raised.isEmpty then s else (s.settleRound).settleN n

/-- The faults of a step take their effect at its end: at most six rounds, since a report may raise further faults (log 12). -/
def State.settle (s : State) : State := s.settleN 6

/-! The end of a cause, quiet periods, software clears (R377–R379). -/

/-- QUIET of an ID in cycles: 10 ms units, 0 as 1, above 6,000 as 6,000. -/
def State.quietCycles (s : State) (id : Nat) : Nat :=
  min 6000 (max 1 (s.f (R.HRW_ID_CFG id) F.HRW_ID_CFG_QUIET)) * 2000000

/-- An ACTIVE instance whose cause is gone passes on (R377). -/
def State.passOn (s : State) (id inst : Nat) : State :=
  let h := s.hrwInst id inst
  if s.causePresent id inst ∨ h.st ≠ .active then s
  else if h.cls = 1 then s.setHrw id inst { h with st := .clear }
  else if h.cls = 2 then s.setHrw id inst { h with st := .quiet, quietAt := s.cyc + s.quietCycles id }
  else (s.setHrw id inst { h with st := .locked }).lockUnit id inst

/-- The condition behind a fault has ended (R377); an event's ends with the tick of its report (R373). -/
def State.causeGone (s : State) (id inst : Nat) : State :=
  let h := s.hrwInst id inst
  let t := s.setHrw id inst { h with cause := h.cause && !(lastingIds.contains id) && h.tick == s.tick }
  if t.causePresent id inst then s.setHrw id inst { h with cause := true } else t.passOn id inst

/-- At a tick the instances pass on whose cause the state shows to be gone, events among them (R373); a pack's zone temperature has its own
evaluation (R327). -/
def State.endCauses (s : State) : State :=
  s.hrw.foldl (fun s p => if p.1 / 16 = 0x5B then s else s.passOn (p.1 / 16) (p.1 % 16)) s

/-- The recoveries of the window (R378). -/
def State.recentRecov (s : State) (h : HrwInst) : List Nat :=
  let win := max 1 (s.f R.HRW_RECOVERY F.HRW_RECOVERY_REC_WIN) * 60 * 200000000
  h.recov.filter (fun t => decide (s.cyc < t + win))

/-- The quiet period of an instance ends (R377, R378). -/
def State.quietEnd (s : State) (id inst : Nat) : State :=
  let h := s.hrwInst id inst
  if h.st = .quiet ∧ h.quietAt ≤ s.cyc then
    let r := s.recentRecov h
    if r.length < max 1 (s.f R.HRW_RECOVERY F.HRW_RECOVERY_REC_LIMIT) then
      (s.setHrw id inst { h with st := .clear, recov := s.cyc :: r }).releaseUnit id inst h
    else
      let s := s.setHrw id inst { h with st := .locked, recov := r }
      (s.lockUnit id inst).hrwActions id inst 3 3 h.record true
  else s

/-- The refusal cause of a software clear; 0 where it is accepted (R379). -/
def State.clearCause (s : State) (id inst : Nat) : Nat :=
  let h := s.hrwInst id inst
  let latched := id == 0x50 || id == 0x51 || id == 0x54
  if id = 0 ∨ 0xC0 ≤ id then 5
  else if h.st ≠ .locked ∧ h.st ≠ .safe then 1
  else if s.causePresent id inst then 2
  else if latched && !s.flag (R.PACK_CHG_FAULT inst) F.PACK_CHG_FAULT_SEEN then 3
  else if latched && !(s.profValid inst && pfNormal (s.pack inst).prof (s.zoneOf inst)) then 4
  else 0

/-- A software clear (R379, R188): refused with its cause, or the instance passes to CLEAR with its history emptied, its unit
is released, a latch is emptied, and the Safe-state lifts when no instance is SAFE (R380). -/
def State.softClear (s : State) (id inst : Nat) : State × Nat :=
  let c := s.clearCause id inst
  if c = 3 ∨ c = 4 then (s.hwSet (R.PACK_CHG_STATUS inst) F.PACK_CHG_STATUS_CLR_REFUSED 1, c)
  else if c ≠ 0 then (s, c)
  else
    let h := s.hrwInst id inst
    let s := s.setHrw id inst { h with st := .clear, recov := [] }
    let s := if (id = 0x50 ∨ id = 0x51 ∨ id = 0x54) ∧ s.f (R.PACK_CHG_FAULT inst) F.PACK_CHG_FAULT_CAUSE = id then
        s.emptyLatch inst else s
    if h.st = .safe then (if s.anySafe then (s, 0) else (s.safeLift.releaseSupplies, 0))
    else (s.releaseUnit id inst h, 0)

/-- FAULT_N is driven low (R382): by an instance, by a Safe-state, by a reset, and until Headland has loaded Harrow's
configuration (log 21). -/
def State.pinFaultN (s : State) : Bool :=
  s.hrw.any (fun p =>
      match p.2.st with
      | .active => s.effFaultN (p.1 / 16)
      | .quiet => s.effFaultN (p.1 / 16)
      | .locked => true
      | .safe => true
      | .clear => false)
    || s.safeOn || s.sys.power != .on || (s.sys.starting && decide (s.f R.GLB_STATUS F.GLB_STATUS_STEP < 3))

/-- HB_EN_g is driven high (R121). -/
def State.pinHbEn (s : State) (g : Nat) : Bool :=
  s.f R.FAB_STATUS F.FAB_STATUS_STATE == 2 && !s.anySafe && !s.safeOn && !s.groupHeld g && s.sys.power == .on

/-- ALIVE carries its square wave (R383). -/
def State.pinAlive (s : State) : Bool :=
  s.runReady && s.sys.power == .on && !s.sys.grace && !s.sys.refLost
    && !(s.safeOn && s.flag R.HRW_PIN_CFG F.HRW_PIN_CFG_ALIVE_SAFE)

/-! How a command's meaning is put together. -/

/-- The effect of a command on the powered block, with the faults it raised settled; while the block is in FALLOW, in SHIP or
held in reset it takes no command but those that wake or reset it. -/
def State.act (s : State) (g : State → State) : Host.Outcome State Fault Refusal :=
  if s.sys.power = .on then .next (g s).settle else .next s

end Sys2Proof.Machine
end

