-- ==== Sys2Proof/Machine/CoordOps.lean ====
section
/-! DEFINITION. The counters of the general timers, captures and compare matches (spec/02_coordinates_and_timers.md R64–R68, R71,
R75). -/

namespace Sys2Proof.Machine

/-! General timers: a counter runs down from a value that it had at a known cycle. -/

/-- An odd timer is chained to the even one below it (R75). -/
def State.gptChained (s : State) (m : Nat) : Bool := s.flag (R.GPT_CFG (m / 2 * 2 + 1)) F.GPT_CFG_CHAIN
/-- The timer whose EN, PRESC and ONESHOT count: the even one of a chained pair. -/
def State.gptBase (s : State) (m : Nat) : Nat := if s.gptChained m then m / 2 * 2 else m
def State.gptRuns (s : State) (m : Nat) : Bool := s.flag (R.GPT_STATUS m) F.GPT_STATUS_RUNNING
/-- CLK_SYS cycles in a tick of a timer. -/
def State.gptTick (s : State) (m : Nat) : Nat := 2 ^ s.f (R.GPT_CFG m) F.GPT_CFG_PRESC
/-- Ticks since the counter had its start value. -/
def State.gptTicks (s : State) (m : Nat) : Nat := if s.gptRuns m then (s.cyc - (s.gpt m).startAt) / s.gptTick m else 0
/-- The counter of a base timer, 64 bits wide for a chained pair; it holds at zero until its wrap is taken. -/
def State.gptValue (s : State) (m : Nat) : Nat := (s.gpt m).startVal - s.gptTicks m
/-- What GPT_m_CNT reads. -/
def State.gptCnt (s : State) (m : Nat) : Nat :=
  let v := s.gptValue (s.gptBase m)
  if s.gptChained m ∧ m % 2 = 1 then v / 2 ^ 32 else v % 2 ^ 32

/-! Captures (R64, R65). -/

/-- The furthest point starts again at the present position (R60). -/
def State.restartFar (s : State) (n : Nat) : State :=
  s.setCoord n { s.coord n with farUp := s.coordLin n, farDown := s.coordLin n }

/-- A strobe of a coordinate unit. -/
def State.captureCoord (s : State) (n : Nat) : State :=
  let c := R.COORD_STATUS n
  let full := s.flag c F.COORD_STATUS_CAP_FULL
  let s := s.wr64 (R.COORD_CAP_LO n) (R.COORD_CAP_HI n) (s.coordPos n)
  if full then (s.hwSet c F.COORD_STATUS_CAP_OVR 1).raise 0x82 n [] else s.setF c F.COORD_STATUS_CAP_FULL 1

/-- A strobe of a general timer; a chained pair copies both halves, and its flags are those of the low timer (R75). -/
def State.captureGpt (s : State) (m : Nat) : State :=
  let b := s.gptBase m
  let c := R.GPT_STATUS b
  let full := s.flag c F.GPT_STATUS_CAP_FULL
  let v := s.gptValue b
  let s := s.wrN (R.GPT_CAP b) v
  let s := if s.gptChained m then s.wrN (R.GPT_CAP (b + 1)) (v / 2 ^ 32) else s
  if full then s.hwSet c F.GPT_STATUS_CAP_OVR 1 else s.setF c F.GPT_STATUS_CAP_FULL 1

/-- Whether a timer selects a strobe source (R65); sources 5 and 7 have no selection. -/
def State.gptTakes (s : State) (src sel m : Nat) : Bool :=
  s.f (R.GPT_CFG m) F.GPT_CFG_CAP_SRC == src
    && (src == 5 || src == 7 || s.f (R.GPT_CFG m) F.GPT_CFG_CAP_SEL == sel)

/-- A strobe source fires: every unit and timer that selects it captures once (R65); of a chained pair either half may select it
(DESIGN CHOICE, log 38). -/
def State.strobe (s : State) (src sel : Nat) : State :=
  let s := (s.noteEvent src sel).each (List.range 6) (fun n s =>
    if s.f (R.COORD_CFG n) F.COORD_CFG_CAP_SRC = src
        ∧ (src = 5 ∨ src = 7 ∨ s.f (R.COORD_CFG n) F.COORD_CFG_CAP_SEL = sel) then s.captureCoord n else s)
  s.each (List.range 16) (fun m s =>
    if s.gptBase m = m ∧ (s.gptTakes src sel m ∨ (s.gptChained m ∧ s.gptTakes src sel (m + 1))) then s.captureGpt m else s)

/-! Compares (R66). -/

def State.cmpEn (s : State) (n k : Nat) : Bool := s.flag (R.COORD_CMP_CFG n k) F.COORD_CMP_CFG_EN
def State.cmpVal (s : State) (n k : Nat) : Nat := s.rd64 (R.COORD_CMP_VAL_LO n k) (R.COORD_CMP_VAL_HI n k)
def State.cmpInt (s : State) (n k : Nat) : Nat := s.rd64 (R.COORD_CMP_INT_LO n k) (R.COORD_CMP_INT_HI n k)

/-- A compare matches: MATCHED, VAL + INT by R40, one-shot on an interval of zero, its event and its strobe. -/
def State.fireCmp (s : State) (n k : Nat) : State :=
  let v := s.cmpVal n k
  let i := s.cmpInt n k
  let c := R.COORD_CMP_CFG n k
  let s := (s.hwSet c F.COORD_CMP_CFG_MATCHED 1).noteIdle .cmp
  let s := s.wr64 (R.COORD_CMP_VAL_LO n k) (R.COORD_CMP_VAL_HI n k) (coordAdd (travelUnit n) (s.coordM n) v i)
  let s := if i = 0 then s.setF c F.COORD_CMP_CFG_EN 0 else s
  let s := if s.flag c F.COORD_CMP_CFG_EVENT then s.event 2 n k (coordField v) else s
  s.strobe 2 (4 * n + k)

/-- The compares of a unit whose value is the coordinate it has just reached. -/
def State.fireAt (s : State) (n pos : Nat) : State :=
  s.each [0, 1, 2, 3] (fun k s => if s.cmpEn n k ∧ s.cmpVal n k = pos then s.fireCmp n k else s)

/-- A `_LO` word staged on a path (R15). -/
def State.staged (s : State) (p : Path) (lo : Nat) : Nat := (tabGet latchDefault s.loStage (pathNo p * 2 ^ 18 + lo)).toNat

end Sys2Proof.Machine
end

