-- ==== Sys2Proof/Machine/Charging.lean ====
section
/-! DEFINITION. The commands of pack charging (spec/06_pack_charging.md R164–R196): zones, the NTC, profile commits, the phase
machine, timers, the charger watchdog and the charge configuration. -/

namespace Sys2Proof.Machine

/-! The NTC (R170). The logarithm is taken to 40 fractional bits (log 22). -/

/-- One bit of a binary logarithm by squaring: the mantissa `m` in [2^60, 2^61), the bits so far. -/
def log2Bits : Nat → Nat → Nat → Nat
  | 0, _, acc => acc
  | k + 1, m, acc =>
    let q := m * m / 2 ^ 60
    if q ≥ 2 ^ 61 then log2Bits k (q / 2) (2 * acc + 1) else log2Bits k q (2 * acc)

/-- ln(a / b) × 2^40, for positive a and b. -/
def lnFix (a b : Nat) : Int :=
  let up := a ≥ b
  let n := if up then a else b
  let d := if up then b else a
  let e := Nat.log2 (n / d)
  let frac := log2Bits 40 (n * 2 ^ 60 / (d * 2 ^ e)) 0
  let l : Int := ((e * 2 ^ 40 + frac) * 762123384786 / 2 ^ 40 : Nat)
  if up then l else -l

/-- 1/T of the Beta equation × 2^40, in 1/K, for a resistance in ohms; zero stands for no positive result. -/
def State.ntcInv (s : State) (i rNtc : Nat) : Nat :=
  let rnom := s.f (R.PACK_NTC_CFG i) F.PACK_NTC_CFG_RNOM * 10
  let beta := s.f (R.PACK_NTC_CFG i) F.PACK_NTC_CFG_BETA
  if rNtc = 0 ∨ rnom = 0 ∨ beta = 0 then 0
  else natOf (2 ^ 40 * 100 / 29815 + lnFix rNtc rnom / (beta : Int))

/-- Ten times the temperature in °C as a fraction: numerator over twice the reciprocal. -/
def ntcNum (x : Nat) : Int := 20 * 2 ^ 40 - 5463 * (x : Int)

/-- The resistance corresponds to a temperature below −55.0 or above +150.0 °C; no resistance at all is a short (R170). -/
def State.ntcOut (s : State) (i rNtc : Nat) : Bool :=
  let x := s.ntcInv i rNtc
  x == 0 || decide (ntcNum x < -550 * (2 * (x : Int))) || decide (ntcNum x > 1500 * (2 * (x : Int)))

/-- T_NTC in 0.1 °C. Between two steps of 0.1 °C the rounding is a free value; so is T where the equation has no result
(log 22). -/
def State.ntcTemp (s : State) (i rNtc : Nat) : Int × State :=
  let x := s.ntcInv i rNtc
  if x = 0 then
    let v := s.takeFree 16
    (toSigned 16 v.1, v.2)
  else if rNtc = s.f (R.PACK_NTC_CFG i) F.PACK_NTC_CFG_RNOM * 10 then (250, s)
  else
    let v := s.takeFree 1
    (ntcNum x / (2 * (x : Int)) + v.1, v.2)

/-! Zones (R168, R169, R184). -/

/-- V_COMP of R184 for a zone temperature. -/
def vCompOf (b : List Byte) (t : Int) : Int :=
  if leAt b 6 1 = 4 then
    clampInt (-(leAt b 16 2 : Nat)) (leAt b 16 2 : Nat) (tdivInt (profS b 14 * (leAt b 7 1 : Nat) * (t - 250)) 100)
  else 0

/-- The zone temperature from the NTC's and the link's readings (R168, R170); none where there is no reading. -/
def State.zoneTemp (s : State) (i : Nat) (tNtc : Int) : Option Int :=
  let link := if s.flag (R.PACK_LINK_STATUS i) F.PACK_LINK_STATUS_T_VALID then
      some (toSigned 16 (s.f (R.PACK_LINK_VT i) F.PACK_LINK_VT_T)) else none
  match link with
  | none => if (s.pack i).ntcBad then none else some tNtc
  | some l =>
    if (s.pack i).ntcBad then some l
    else
      let hi := max tNtc l
      let lo := min tNtc l
      some (if s.profValid i ∧ hi < pfBound (s.pack i).prof 2 then lo else hi)

/-- The zone of a temperature: Z5 under an over-temperature alarm or without a reading; after such an alarm the containing
zone without hysteresis (R205); without a VALID profile the zone stands (log 23). -/
def State.placeZone (s : State) (i : Nat) (t : Option Int) : Nat :=
  let r := s.pack i
  if alHot r.alarms then 5
  else
    match t with
    | none => 5
    | some t => if ¬ s.profValid i then s.zoneOf i else if r.hot then zoneIn r.prof t else zoneMove r.prof (s.zoneOf i) t 6

/-- A link temperature older than 2 × POLL × 10 ms is no longer valid (R202). -/
def State.staleTemp (s : State) (i : Nat) : State :=
  let poll := min 100 (max 5 (s.f (R.PACK_LINK_CFG i) F.PACK_LINK_CFG_POLL)) * 10000
  if (s.pack i).linkAt + 2 * poll < s.us then s.setF (R.PACK_LINK_STATUS i) F.PACK_LINK_STATUS_T_VALID 0 else s

/-- Since when the NTC's reading has been on the other side of the range than it counts (R170). -/
def State.noteNtc (s : State) (i rNtc : Nat) : State :=
  let r := s.pack i
  s.setPack i { r with ntcSince := if s.ntcOut i rNtc = r.ntcBad then none else some (r.ntcSince.getD s.cyc) }

/-- The reading has been there for 1 s. -/
def State.ntcHeld (s : State) (i : Nat) : Bool :=
  match (s.pack i).ntcSince with
  | some t => decide (t + 200000000 ≤ s.cyc)
  | none => false

/-- A pack's zone temperature is evaluated (R168, R169), with V_COMP (R184). No sensor of a pack is read that the fabric does not name
(R435). -/
def execZoneEval (i : Fin 4) (rNtc : Nat) (s : State) : Host.Outcome State Fault Refusal :=
  s.act fun s => if !s.declared (8 + i) then s else
    let s := (s.staleTemp i).noteNtc i rNtc
    let m := s.ntcTemp i rNtc
    let s := m.2.setF (R.PACK_TEMP i) F.PACK_TEMP_T_NTC (ofSigned 16 m.1)
    let t := s.zoneTemp i m.1
    let z := s.placeZone i t
    let v := s.takeFree 16
    let s := if t.isNone then v.2 else s
    let tz := t.getD (toSigned 16 v.1)
    let s := (s.setF (R.PACK_TEMP i) F.PACK_TEMP_T_ZONE (ofSigned 16 tz)).setZone i z
    let r := s.pack i
    s.setPack i { r with hot := alHot r.alarms, vComp := if s.profValid i then vCompOf r.prof tz else 0 }

/-- The NTC reading has been out of range for 1 s (R170): fault 0x54 is latched, and without a link temperature the zone is
Z5. -/
def execNtcFault (i : Fin 4) (rNtc : Nat) (s : State) : Host.Outcome State Fault Refusal :=
  s.act fun s => if !s.declared (8 + i) then s else
    let s := s.noteNtc i rNtc
    if (s.pack i).ntcBad ∨ ¬ s.ntcHeld i then s
    else
      let s := s.setPack i { s.pack i with ntcBad := true, ntcSince := none }
      let s := s.latchCharge i 0x54 (faultRec rNtc 0)
      if s.flag (R.PACK_LINK_STATUS i) F.PACK_LINK_STATUS_T_VALID then s else s.setZone i 5

/-- The reading has been back in range for 1 s: T_NTC is used again, and the cause of fault 0x54 is gone (R170). -/
def execNtcRecovered (i : Fin 4) (rNtc : Nat) (s : State) : Host.Outcome State Fault Refusal :=
  s.act fun s =>
    let s := s.noteNtc i rNtc
    if (s.pack i).ntcBad ∧ s.ntcHeld i then (s.setPack i { s.pack i with ntcBad := false, ntcSince := none }).causeGone 0x54 i
    else s

/-! Committing a profile (R176, R177). -/

/-- The 400-byte image in a pack's window. -/
def State.profWindow (s : State) (i : Nat) : List Byte :=
  (List.range 100).flatMap (fun k => leBytes 4 (s.rdN (R.PACK_PROF i k)))

/-- The first fault of a list, if any. -/
def firstErr : List (Option (Nat × Nat)) → Option (Nat × Nat)
  | [] => none
  | some e :: _ => some e
  | none :: t => firstErr t

def errIf (c : Bool) (e k : Nat) : Option (Nat × Nat) := if c then some (e, k) else none

def phases : List Nat := List.range 8

/-- Rule 0x3 of R176. -/
def profZones (b : List Byte) : Option (Nat × Nat) :=
  let gaps := (List.range 4).map (fun k => pfBound b (k + 1) - pfBound b k)
  firstErr (
    (List.range 4).map (fun k => errIf (decide (pfBound b (k + 1) ≤ pfBound b k)) 3 (k + 1))
    ++ [errIf (decide (pfHyst b < 1 ∨ 100 < pfHyst b) || gaps.any (fun g => decide (g ≤ pfHyst b))) 3 0,
        errIf (leAt b 9 1 % 64 == 0) 3 0]
    ++ (List.range 6).map (fun z =>
        errIf (decide (1024 < pfDTemp b z) || leAt b (354 + 8 * z) 1 / 2 != 0 || leAt b (355 + 8 * z) 1 != 0
          || leAt b (358 + 8 * z) 2 != 0) 3 z))

/-- Rule 0x4 for one phase. -/
def profPhase (b : List Byte) (p : Nat) : Option (Nat × Nat) :=
  let o := 32 + 16 * p
  let md := pfMode b p
  errIf ((p == 0 && md == 0)
    || (md != 0 && leAt b (o + 1) 1 % 64 == 0)
    || (md != 0 && pfMode b (pfNext b p) == 0)
    || (md == mdCharge && decide (pfTimer b p < 1 ∨ 3000 < pfTimer b p))
    || ((md == mdFloat || md == mdRest) && (pfTimer b p != 0 || !pfExit b p 1))
    || bitsOf (leAt b o 1) 2 5 != 0 || leAt b (o + 1) 1 / 64 != 0 || leAt b (o + 2) 1 / 8 != 0 || leAt b (o + 15) 1 != 0) 4 p

/-- Rule 0x5 for one phase, used or not. -/
def profExit (b : List Byte) (p : Nat) : Option (Nat × Nat) :=
  let md := pfMode b p
  errIf (((pfExit b p 3 || pfExit b p 4) && (leAt b 6 1 != 3 || md != mdCharge))
    || (pfExit b p 5 && md != mdCharge)
    || (pfExit b p 2 && pfIEnd b p == 0)) 5 p

/-- Rule 0x7 for one cell. -/
def State.profCell (s : State) (i : Nat) (b : List Byte) (c : Nat) : Option (Nat × Nat) :=
  let p := c / 6
  let z := c % 6
  let md := pfMode b p
  let v := pfVChg b p z
  errIf (md != 0 &&
    (((md == mdRest || decide (0 < pfIChg b p z)) &&
        (decide (v < s.nodeVmin (8 + i)) || decide (s.nodeVmax (8 + i) < v)
          || decide (s.f (R.ENV_PACK_VLIM i) F.ENV_PACK_VLIM_VCHG_MAX < v + leAt b 16 2)))
      || ((md == mdCharge || md == mdFloat) &&
        decide (s.f (R.ENV_PACK_ILIM i) F.ENV_PACK_ILIM_ICHG_MAX < pfIChg b p z)))) 7 c

/-- The rules 0x1 to 0x7 of R176, in their order. -/
def State.profCheck (s : State) (i : Nat) (b : List Byte) : Option (Nat × Nat) :=
  firstErr (
    [errIf (leAt b 0 4 != 0x46504843 || leAt b 4 2 != 1 || crc32c (slice b 0 28 ++ slice b 32 368) != leAt b 28 4
        || leAt b 9 1 / 64 != 0) 1 0,
      errIf (decide (leAt b 6 1 < 1 ∨ 4 < leAt b 6 1 ∨ leAt b 7 1 < 1 ∨ 48 < leAt b 7 1 ∨ leAt b 8 1 < 50 ∨ 100 < leAt b 8 1)) 2 0,
      profZones b]
    ++ phases.map (profPhase b) ++ phases.map (profExit b)
    ++ [errIf ((phases.any (fun p => pfMode b p == mdFloat) && decide (leAt b 6 1 ≤ 2))
        || ((leAt b 14 2 != 0 || leAt b 16 2 != 0) && leAt b 6 1 != 4)) 6 0]
    ++ (List.range 48).map (s.profCell i b)
    ++ [errIf (decide (s.f (R.ENV_PACK_ILIM i) F.ENV_PACK_ILIM_ICHG_MAX < leAt b 12 2)) 7 0x3F])

def State.setProfState (s : State) (i st err idx : Nat) : State :=
  ((s.setF (R.PACK_PROFILE i) F.PACK_PROFILE_STATE st).setF (R.PACK_PROFILE i) F.PACK_PROFILE_ERR err).setF
    (R.PACK_PROFILE i) F.PACK_PROFILE_ERR_INDEX idx

/-- Rule 0x8 of R176. -/
def State.profBusy (s : State) (i : Nat) : Bool :=
  s.chState i == chCharging || s.chState i == chPaused
    || s.plan.any (fun p => p.2.order.op == opChargeBy && p.2.order.target == 8 + i)

/-- A commit starts its check on a copy of an image, or is refused with BUSY (R176). -/
def State.commitProfile (s : State) (i : Nat) (b : List Byte) : State :=
  if s.profBusy i then
    (s.setF (R.PACK_PROFILE i) F.PACK_PROFILE_ERR 8).setF (R.PACK_PROFILE i) F.PACK_PROFILE_ERR_INDEX 0
  else (s.setF (R.PACK_PROFILE i) F.PACK_PROFILE_STATE 3).setPack i { s.pack i with checking := b }

/-- The check of an image ends (R177): VALID restarts the phase machine; INVALID puts the profile out of service, with fault
0x53. -/
def State.finishProfile (s : State) (i : Nat) (b : List Byte) : State :=
  match s.profCheck i b with
  | none =>
    let s := (s.setProfState i 1 0 0).setPack i { s.pack i with prof := b, checking := [] }
    let s := if s.chState i = chLocked then s else s.setChState i chStopped
    let s := (s.restartPhase i).showRefs i
    let s := s.causeGone 0x53 i
    if s.chemClash i then s.raise 0x42 i (faultRec (s.f (R.PACK_LINK_STATUS i) F.PACK_LINK_STATUS_CHEM) (leAt b 6 1)) else s
  | some (e, k) =>
    let s := (s.setProfState i 2 e k).setPack i { s.pack i with prof := [], checking := [] }
    (s.showRefs i).raise 0x53 i (faultRec e k)

def execProfileCommit (_ : Path) (i : Fin 4) (s : State) : Host.Outcome State Fault Refusal :=
  s.act fun s => s.commitProfile i (s.profWindow i)

def execProfileCheckDone (i : Fin 4) (s : State) : Host.Outcome State Fault Refusal :=
  s.act fun s =>
    if s.f (R.PACK_PROFILE i) F.PACK_PROFILE_STATE = 3 then s.finishProfile i (s.pack i).checking else s

/-! The phase machine (R179–R186). -/

/-- A Tilth point below 1 Hz runs, which holds V_REACH and I_TAPER (R215). -/
def State.tilthSlow (s : State) (i : Nat) : Bool :=
  s.f (R.PACK_TILTH_STATUS i) F.PACK_TILTH_STATUS_STATE == 1
    && decide (s.f (R.PACK_TILTH_STATUS i) F.PACK_TILTH_STATUS_POINT < max 1 (s.f (R.PACK_TILTH_CFG i) F.PACK_TILTH_CFG_PPD))

/-- The peak and the blanking of −ΔV for this second (R182). -/
def State.trackPeak (s : State) (i : Nat) : State :=
  let r := s.pack i
  let b := r.prof
  let p := s.phaseOf i
  if ¬ pfExit b p 3 then s
  else
    let diff := (r.iMean - (r.secI : Int)).natAbs
    let blank := decide (r.phaseSec ≤ pfBlank b p * 10) && pfBlank b p != 0 || decide (100 * diff > 3 * r.secI)
    let peak := s.f (R.PACK_CHG_TERM i) F.PACK_CHG_TERM_V_PEAK
    if blank then
      (s.setF (R.PACK_CHG_STATUS i) F.PACK_CHG_STATUS_BLANK 1).setF (R.PACK_CHG_TERM i) F.PACK_CHG_TERM_V_PEAK 0
    else
      (s.setF (R.PACK_CHG_STATUS i) F.PACK_CHG_STATUS_BLANK 0).setF (R.PACK_CHG_TERM i) F.PACK_CHG_TERM_V_PEAK
        (sat 16 (max peak r.vMean))

/-- The new count of an exit condition: consecutive seconds, capped. -/
def dwellNext (old : Nat) (c : Bool) : Nat := if c then min 255 (old + 1) else 0

/-- The consecutive seconds of the five conditions after this second (R179, R182, R183, R215). -/
def State.dwellsNow (s : State) (i : Nat) : List Nat :=
  let r := s.pack i
  let b := r.prof
  let p := s.phaseOf i
  let v := r.vMean + pfMargin b p
  let slow := s.tilthSlow i
  let blank0 := decide (r.phaseSec ≤ pfBlank b p * 10) && pfBlank b p != 0
  let peak := s.f (R.PACK_CHG_TERM i) F.PACK_CHG_TERM_V_PEAK
  let ndv := !s.flag (R.PACK_CHG_STATUS i) F.PACK_CHG_STATUS_BLANK
    && decide (r.vMean + pfNdv b p * leAt b 7 1 / 10 ≤ peak)
  let dtdt := toSigned 16 (s.f (R.PACK_CHG_TERM i) F.PACK_CHG_TERM_DTDT)
  let d := fun k => r.dwells.getD k 0
  [if slow then d 0 else dwellNext (d 0) (pfExit b p 0 && decide (r.secV ≤ v)),
   dwellNext (d 1) (pfExit b p 1 && decide (v ≤ r.secV)),
   if slow then d 2 else dwellNext (d 2) (pfExit b p 2 && decide (r.iMean ≤ pfIEnd b p * 10) && decide (r.secV ≤ v)),
   dwellNext (d 3) (pfExit b p 3 && ndv),
   if blank0 then d 4 else dwellNext (d 4) (pfExit b p 4 && decide ((pfDtdt b p : Int) ≤ dtdt))]

/-- An exit condition of the present phase holds; a held V_REACH or I_TAPER does not exit while Tilth holds it (R215). -/
def State.exitHolds (s : State) (i : Nat) : Bool :=
  let r := s.pack i
  let b := r.prof
  let p := s.phaseOf i
  let slow := s.tilthSlow i
  (List.range 5).any (fun k => pfExit b p k && decide (pfDwell b p ≤ r.dwells.getD k 0) && !(slow && (k == 0 || k == 2)))

/-- Thermal regulation (R185): the charge current is limited by the thermal headroom of a charging stage: its headroom is derated and is its
ceiling, loop B is selected there, and what the ceiling gives lies below the stage's share of I_SET. -/
def State.thermHeld (s : State) (i : Nat) : Bool :=
  let l := (s.stagesRunInto (8 + i)).filter s.stageRuns
  let all := (l.map s.stageCeil).foldl (· + ·) 0
  l.any (fun n => decide (s.headroom n < s.stRated n) && s.stageCeil n == s.headroom n
    && s.f (R.STAGE_STATUS n) F.STAGE_STATUS_SEL == 1
    && decide (s.stageCeil n * 1000 * all < s.iSet i * s.stageCeil n * (s.stage n).vCtl ∨ s.stageCeil n = 0))

/-- T_EFF and T_RUN after a second in CHARGING (R185). -/
def State.countTimers (s : State) (i : Nat) : State :=
  let r := s.pack i
  let b := r.prof
  let p := s.phaseOf i
  if pfMode b p = mdCharge ∧ pfTimer b p ≠ 0 then
    let half := s.thermHeld i && decide (2 * r.iMean < (r.secI : Int))
    let s := s.setPack i { r with runHs := r.runHs + 2, effHs := r.effHs + (if half then 1 else 2) }
    let r := s.pack i
    let s := s.wrN (R.PACK_CHG_TIMER i) (sat 16 (r.effHs / 12) + 65536 * sat 16 (r.runHs / 12))
    let s := s.setF (R.PACK_CHG_STATUS i) F.PACK_CHG_STATUS_THERM (boolNat half)
    if half then s.setF (R.PACK_CHG_STATUS i) F.PACK_CHG_STATUS_THERM_SEEN 1 else s
  else s

/-- A pause for want of power, and its end (R180): the 1 s mean charge current below 1 % of I_SET, and at 1 % or more. -/
def State.pauseEval (s : State) (i : Nat) : State :=
  let r := s.pack i
  let iset := r.iRef
  let fed := decide ((iset : Int) ≤ 100 * r.iMean)
  if s.chState i = chCharging ∧ 0 < iset ∧ ¬ fed then
    let s := s.leaveCharging i chPaused
    (s.setPack i { s.pack i with pauseWant := true }).showRefs i
  else if s.chState i = chPaused ∧ r.pauseWant ∧ fed ∧ s.iChg i (s.phaseOf i) (s.zoneOf i) ≠ 0 then
    ((s.setChState i chCharging).setPack i { r with pauseWant := false }).showRefs i
  else s

/-- The phase timer has expired (R186). -/
def State.timerExpired (s : State) (i : Nat) : Bool :=
  let r := s.pack i
  let t := pfTimer r.prof (s.phaseOf i)
  pfMode r.prof (s.phaseOf i) == mdCharge && t != 0 && (decide (120 * t ≤ r.effHs) || decide (240 * t ≤ r.runHs))

/-- dT/dt over the last 60 s, in 0.01 °C/min; zero until there are 60 s of readings (R183; log 24). -/
def State.showDtdt (s : State) (i : Nat) : State :=
  let t := toSigned 16 (s.f (R.PACK_TEMP i) F.PACK_TEMP_T_ZONE)
  let l := (t :: (s.pack i).temps).take 61
  let s := s.setPack i { s.pack i with temps := l }
  s.setF (R.PACK_CHG_TERM i) F.PACK_CHG_TERM_DTDT
    (match l[60]? with
     | some t0 => ofSigned 16 (clampInt (-32768) 32767 ((t - t0) * 10))
     | none => 0)

/-- Once a second (R179): the means are taken, the exit and pause conditions are judged, timers count, and the planning values
are updated (R191, R192). -/
def execChgExitEval (i : Fin 4) (o : ChgObs) (s : State) : Host.Outcome State Fault Refusal :=
  s.act fun s =>
    let s := s.setPack i { s.pack i with vMean := o.vMean, iMean := o.iMean, phaseSec := (s.pack i).phaseSec + 1 }
    let s := s.showDtdt i
    let st := s.chState i
    let s :=
      if ¬ s.profValid i then s
      else if st = chCharging ∨ st = chRest then
        let s := if st = chCharging then (s.countTimers i).trackPeak i else s
        let s := s.setPack i { s.pack i with dwells := s.dwellsNow i }
        if s.exitHolds i then s.enterPhase i (pfNext (s.pack i).prof (s.phaseOf i)) else s.pauseEval i
      else s.pauseEval i
    (s.showPlanning i).secMark i

/-- A phase timer reaches its limit (R186): the phase's normal end under TIMER_END, else the charge function locks with fault
0x51 where half-rate counting was in force, and 0x50 otherwise. -/
def execChgTimerExpiry (i : Fin 4) (s : State) : Host.Outcome State Fault Refusal :=
  s.act fun s =>
    if s.chState i = chCharging ∧ s.profValid i ∧ s.timerExpired i then
      let b := (s.pack i).prof
      let p := s.phaseOf i
      if pfExit b p 5 then s.enterPhase i (pfNext b p)
      else
        s.latchCharge i (if s.flag (R.PACK_CHG_STATUS i) F.PACK_CHG_STATUS_THERM_SEEN then 0x51 else 0x50)
          (faultRec (s.rdN (R.PACK_CHG_TIMER i)) (pfTimer b p))
    else s

/-! The charger watchdog (R189, R190). -/

/-- The period in cycles: WDT_S of 10 to 600 s. -/
def State.chgWdtCycles (s : State) (i : Nat) : Nat :=
  min 600 (max 10 (s.f (R.PACK_CHG_CFG i) F.PACK_CHG_CFG_WDT_S)) * 200000000

/-- The watchdog expires where its period has run out: WDT_EXP and fault 0x52 (R190). -/
def State.expireChg (s : State) (i : Nat) : State :=
  if s.flag (R.PACK_CHG_CFG i) F.PACK_CHG_CFG_WDT_EN ∧ ¬ s.flag (R.PACK_CHG_STATUS i) F.PACK_CHG_STATUS_WDT_EXP
      ∧ (s.pack i).wdtAt + s.chgWdtCycles i ≤ s.cyc then
    (s.setF (R.PACK_CHG_STATUS i) F.PACK_CHG_STATUS_WDT_EXP 1).raise 0x52 i
      (faultRec (s.chgWdtCycles i / 200000000) (s.chgWdtCycles i / 200000000))
  else s

/-- KICK: 0xA5 restarts the period and clears WDT_EXP; in the cycle of the expiry, the expiry takes effect first (R190). -/
def State.kickChg (s : State) (i : Nat) (v : Word) : State :=
  if getBits v 0 8 = 0xA5 then
    let s := s.expireChg i
    (s.setPack i { s.pack i with wdtAt := s.cyc }).setF (R.PACK_CHG_STATUS i) F.PACK_CHG_STATUS_WDT_EXP 0
  else s

/-- A write of KICK; the limit lifts at the next tick. -/
def execChgWdtKick (_ : Path) (i : Fin 4) (v : Word) (s : State) : Host.Outcome State Fault Refusal :=
  s.act fun s =>
    s.kickChg i v

def execChgWdtExpiry (i : Fin 4) (s : State) : Host.Outcome State Fault Refusal :=
  s.act fun s => s.expireChg i

/-! Configuration and clears. -/

/-- A write of PACK_x_CHG_CFG (R189, R190, R180): the watchdog restarts where WDT_EN rises or WDT_S changes; WDT_EN = 0 has no
expiry; CHG_EN and BG_EN move the demand. -/
def State.writeChgCfg (s : State) (i : Nat) (v : Word) : State :=
  let c := R.PACK_CHG_CFG i
  let en := s.f c F.PACK_CHG_CFG_WDT_EN
  let ws := s.f c F.PACK_CHG_CFG_WDT_S
  let s := s.wr c (v &&& 0x03FF0007#32)
  let en' := s.f c F.PACK_CHG_CFG_WDT_EN
  let s := if (en = 0 ∧ en' = 1) ∨ ws ≠ s.f c F.PACK_CHG_CFG_WDT_S then s.setPack i { s.pack i with wdtAt := s.cyc } else s
  let s := if en' = 0 then s.setF (R.PACK_CHG_STATUS i) F.PACK_CHG_STATUS_WDT_EXP 0 else s
  s.chargeDemand i

def execChgCfgWrite (p : Path) (i : Fin 4) (v : Word) (s : State) : Host.Outcome State Fault Refusal :=
  s.act fun s => s.inOrder p (R.PACK_CHG_CFG i) (s.rd (R.PACK_CHG_CFG i)) v fun v s => s.writeChgCfg i v

/-- A clear of the latched charge fault (R188): refused, with CLR_REFUSED, or accepted. Without a latch it has nothing to
clear. The result is the refusal cause, 0 where it is accepted. -/
def State.clearLatch (s : State) (i : Nat) : State × Nat :=
  let id := s.f (R.PACK_CHG_FAULT i) F.PACK_CHG_FAULT_CAUSE
  if id = 0 then (s, 1)
  else
    let r := s.softClear id i
    if r.2 = 0 then r else (r.1.hwSet (R.PACK_CHG_STATUS i) F.PACK_CHG_STATUS_CLR_REFUSED 1, r.2)

def execChgClear (_ : Path) (i : Fin 4) (s : State) : Host.Outcome State Fault Refusal :=
  s.act fun s => (s.clearLatch i).1

/-- A read of PACK_x_CHG_FAULT returns the word and then sets SEEN (R187). -/
def execChgFaultRead (p : Path) (i : Fin 4) (s : State) : Host.Outcome State Fault Refusal :=
  s.act fun s =>
    let c := R.PACK_CHG_FAULT i
    (s.emit (.readData p c (s.rd c))).setF c F.PACK_CHG_FAULT_SEEN 1

end Sys2Proof.Machine
end

