-- ==== Sys2Proof/Machine/StoreOps.lean ====
section
/-! DEFINITION. The data NVM and the black box (spec/12_nonvolatile_store.md R344–R367): group reads, page writes, two-copy
records, appends, and the records that Headland loads (R291, R401; their layouts are log 26). An operation is whole within its step, or, when
power fails or a reset falls due, cut short at a place that the event names (log 27). -/

namespace Sys2Proof.Machine

/-- What reading a group reports (R345). -/
def State.readGroup (s : State) (g : Nat) : State :=
  match s.nvmGroup g with
  | .valid => s
  | .unwritten => s
  | .corrected => (s.bump R.NVM_ECC_CNT F.NVM_ECC_CNT_CORR 1).raise 0xA0 0 (leBytes 4 (8 * g))
  | .torn => ((s.bump R.NVM_ECC_CNT F.NVM_ECC_CNT_TORN 1).raise 0xA1 0 (leBytes 4 (8 * g))).queuePage (g / 16)

/-- Read bytes: what they are, how many lie in UNWRITTEN or TORN groups, and the reports. -/
def State.nvmRead (s : State) (a n : Nat) : List Byte × Nat × State :=
  (s.nvmPeek a n, ((List.range n).filter (fun k => !(s.nvmGroup ((a + k) / 8)).good)).length,
    (groupsOf a n).foldl State.readGroup s)

/-! Page writes (R347, R384). -/

/-- A group of the direct-access area is programmed; an armed inversion fires (R384). -/
def State.programArmed (s : State) (g : Nat) (bytes : List Byte) : State :=
  let s := s.programGroup g bytes
  if s.flag R.HRW_INJECT F.HRW_INJECT_ARMED ∧ s.sys.injMem = 5 ∧ s.sys.injAddr / 8 = g then
    ((s.setNvmGroup g (if s.sys.injBits = 2 then .torn else .corrected)).setF R.HRW_INJECT F.HRW_INJECT_ARMED 0).hwSet
      R.HRW_INJECT F.HRW_INJECT_FIRED 1
  else s

/-- One operation of the NVM controller (R347): the erasure of a page, or the program of a group. -/
inductive NvmOp where
  | erase (page : Nat)
  | program (group : Nat) (bytes : List Byte)
  deriving DecidableEq, Repr

def State.nvmDo (s : State) : NvmOp → State
  | .erase p => s.erasePage p
  | .program g b => s.programArmed g b

/-- A group that an interrupted operation leaves (R348): UNWRITTEN or TORN; which is open (log 1). -/
def State.halfGroup (s : State) (g : Nat) : State :=
  let v := s.takeFree 1
  if v.1 = 1 then v.2.setNvmGroup g .torn else v.2.clearGroup g

/-- An operation is interrupted (R348): a group that was being programmed reads UNWRITTEN or TORN, and each group of a page that was being
erased its old value, UNWRITTEN or TORN. -/
def State.nvmAbort (s : State) : NvmOp → State
  | .erase p => s.each (List.range 16) (fun j s =>
      let v := s.takeFree 1
      if v.1 = 1 then v.2 else v.2.halfGroup (16 * p + j))
  | .program g _ => s.halfGroup g

/-- What the POWER_LOSS record says of an aborted operation (R363): its kind, its page and its group. -/
def NvmOp.lossBody : NvmOp → List Byte
  | .erase p => [1#8, 0#8] ++ leBytes 4 p ++ [0#8, 0#8]
  | .program g _ => [2#8, 0#8] ++ leBytes 4 (g / 16) ++ [BitVec.ofNat 8 (g % 16), 0#8]

/-- The operations of one page write (R347): `put` gives the new byte of a page offset, if the write covers it. Groups that it does not cover
and that read UNWRITTEN or TORN stay unprogrammed; `keep`: other uncovered groups are programmed again with their content. -/
def State.pageOps (s : State) (p : Nat) (put : Nat → Option Byte) (keep : Bool) : List NvmOp :=
  .erase p :: (List.range 16).filterMap (fun j =>
    let g := 16 * p + j
    let covered := (List.range 8).any (fun b => (put (8 * j + b)).isSome)
    if covered || (keep && (s.nvmGroup g).good) then
      some (.program g ((List.range 8).map (fun b => (put (8 * j + b)).getD (s.nvmPeek1 (8 * g + b)))))
    else none)

def State.pageWrite (s : State) (p : Nat) (put : Nat → Option Byte) (keep : Bool) : State :=
  (s.pageOps p put keep).foldl State.nvmDo s

/-! Two-copy records (R351–R355). -/

/-- The data of the current copy, with the reports of its reading; none where the record is absent (R355). -/
def State.readRecord (s : State) (p : RecPlace) (id : Nat) : Option (List Byte × Bool × State) :=
  match s.currentCopy p id with
  | none => none
  | some b =>
    let r := s.nvmRead (p.copy b) (16 + s.copyLen p b)
    some (r.1.drop 16, b, r.2.2)

/-- NVM_REC_INFO and NVM_REC_SEQ show the selected record in the set in use. -/
def State.recInfo (s : State) : Word × Word :=
  match recPlace s.recSet (s.f R.NVM_REC_SEL F.NVM_REC_SEL_RECORD_ID) with
  | none => (0#32, 0#32)
  | some p =>
    let id := s.f R.NVM_REC_SEL F.NVM_REC_SEL_RECORD_ID
    let ab := boolNat (s.copyValid p id false) + 2 * boolNat (s.copyValid p id true)
    match s.currentCopy p id with
    | none => (BitVec.ofNat 32 ab, 0#32)
    | some b => (BitVec.ofNat 32 (ab + 4 * boolNat b + 65536 * s.copyLen p b), BitVec.ofNat 32 (s.copySeq p b))

/-- A write of a record as planned (R354): its sequence number, its copy, and the operations of each page. -/
structure RecWrite where
  seq : Nat
  copy : Bool
  pages : List (List NvmOp)
  deriving DecidableEq, Repr

/-- Plan the write of a record: to the copy that is not current, with SEQ one above the current copy's (R354); the SEQ of a record's first
write is a free value. -/
def State.planRecord (s : State) (p : RecPlace) (id : Nat) (data : List Byte) : RecWrite × State :=
  let cur := s.currentCopy p id
  let v := s.takeFree 32
  let seq := (match cur with | some b => s.copySeq p b + 1 | none => v.1) % 2 ^ 32
  let b := match cur with | some b => !b | none => false
  let h := leBytes 2 id ++ leBytes 2 s.paramFormat ++ leBytes 4 seq ++ leBytes 2 data.length ++ leBytes 2 0
  let all := h ++ leBytes 4 (crc32c (h ++ data)) ++ data
  let first := p.copy b / 128
  (⟨seq, b, (List.range (ceilDiv all.length 128)).map (fun k =>
      s.pageOps (first + k) (fun o => all[128 * k + o]?) false)⟩, if cur.isNone then v.2 else s)

/-- A page fails its comparison twice (R354): which of its groups cannot be read is open (log 1). -/
def State.spoilPage (s : State) (ops : List NvmOp) : State :=
  let gs := ops.filterMap (fun o => match o with | .program g _ => some g | .erase _ => none)
  let v := s.takeFree 4
  match gs[v.1 % max 1 gs.length]? with
  | some g => v.2.setNvmGroup g .torn
  | none => v.2

/-- Write a record. `bad`: the page of the copy whose comparison fails twice, which ends the write with fault 0xA3 and leaves the copy invalid
(R354). The result gives the SEQ, the copy, and whether the write succeeded. -/
def State.writeRecord (s : State) (p : RecPlace) (id : Nat) (data : List Byte) (bad : Option Nat) : State × Nat × Bool × Bool :=
  let w := s.planRecord p id data
  let run := fun (s : State) (l : List (List NvmOp)) => l.flatten.foldl State.nvmDo s
  match bad with
  | none => (run w.2 w.1.pages, w.1.seq, w.1.copy, true)
  | some k =>
    if k < w.1.pages.length then
      (((run w.2 (w.1.pages.take (k + 1))).spoilPage (w.1.pages.getD k [])).raise 0xA3 0 (leBytes 4 id), w.1.seq, w.1.copy, false)
    else (run w.2 w.1.pages, w.1.seq, w.1.copy, true)

/-! The black box (R361–R365). -/

def bbAddr (slot : Nat) : Nat := 0x20000 + 64 * slot
def State.bbWritten (s : State) (slot : Nat) : Bool := s.nvmGroup (bbAddr slot / 8) != .unwritten

/-- A slot is wholly VALID or CORRECTED (R367). -/
def State.bbGood (s : State) (slot : Nat) : Bool := (List.range 8).all (fun j => (s.nvmGroup (bbAddr slot / 8 + j)).good)

/-- The slots held, oldest first. -/
def State.bbSlots (s : State) : List Nat := (List.range s.bb.held).map (fun j => (s.bb.next + 2048 - s.bb.held + j) % 2048)

/-- SEQ of the record in a slot. -/
def State.bbSeq (s : State) (slot : Nat) : Nat := leVal (s.nvmPeek (bbAddr slot) 4)

/-- BB_OLDEST_SEQ shows the oldest record held. -/
def State.showOldest (s : State) : State :=
  match s.bbSlots.find? s.bbGood with
  | some k => s.wrN R.BB_OLDEST_SEQ (s.bbSeq k)
  | none => s

/-- The records in a page that is erased are held no longer. -/
def State.bbClear (s : State) (page : Nat) (op : State → State) : State :=
  let gone := ([2 * page, 2 * page + 1].filter (fun k => s.bbSlots.contains k)).length
  op { s with bb := { s.bb with held := s.bb.held - gone } }

/-- The bytes of the next record: sealed under the present key, chained to the record before it (R362, R364). -/
def State.bbBytes (s : State) (r : BbRec) : List Byte :=
  let raw := leBytes 4 (s.rdN R.BB_NEXT_SEQ) ++ [BitVec.ofNat 8 r.kind, BitVec.ofNat 8 r.sub] ++ leBytes 2 s.bb.boot ++ leBytes 6 r.time
    ++ [0#8, 0#8] ++ padTo 40 r.body
  raw ++ padTo 8 (Config.sealKey s.fw.sealGen (raw ++ padTo 8 s.bb.lastSeal))

/-- The group programs of an append (R361). -/
def State.bbOps (s : State) (r : BbRec) : List NvmOp :=
  (List.range 8).map (fun j => .program (bbAddr s.bb.next / 8 + j) (slice (s.bbBytes r) (8 * j) 8))

/-- The next slot takes a record, and counts from now on as held; a record in the first slot of a page has the following page erased (R361). -/
def State.bbTaken (s : State) (slot : Nat) (op : State → State) : State :=
  let s := { s with bb := { s.bb with next := (slot + 1) % 2048, held := s.bb.held + 1 } }
  (if slot % 2 = 0 then s.bbClear ((slot / 2 + 1) % 1024) op else s).showOldest

/-- A record has been appended whole: it is the newest. -/
def State.bbNewest (s : State) (bytes : List Byte) : State :=
  ({ s with bb := { s.bb with lastSeal := bytes.drop 56 } }).wrN R.BB_NEXT_SEQ (s.rdN R.BB_NEXT_SEQ + 1)

/-- Seal a record and append it into the next slot (R361, R362, R364). -/
def State.bbAppendRec (s : State) (r : BbRec) : State :=
  let slot := s.bb.next
  let all := s.bbBytes r
  (((s.bbOps r).foldl State.nvmDo s).bbNewest all).bbTaken slot (fun s => s.erasePage (1024 + (slot / 2 + 1) % 1024))

/-- An append is aborted after `k` of its operations, the group programs and the erasure that follows a first slot (R348, R366): a slot that is
not whole holds no record. The result says what was aborted, as the POWER_LOSS record tells it. -/
def State.bbCut (s : State) (r : BbRec) (k : Nat) : List Byte × State :=
  let slot := s.bb.next
  let ops := s.bbOps r
  let t := (ops.take k).foldl State.nvmDo s
  match ops[k]? with
  | some o =>
    let b := match o with
      | .program g _ => [3#8, 0#8] ++ leBytes 4 (g / 16) ++ [BitVec.ofNat 8 (g % 16), 0#8]
      | .erase _ => []
    (b, (t.nvmAbort o).bbTaken slot id)
  | none =>
    let page := 1024 + (slot / 2 + 1) % 1024
    if k = 8 ∧ slot % 2 = 0 then
      ((NvmOp.erase page).lossBody, (t.bbNewest (s.bbBytes r)).bbTaken slot (fun s => s.nvmAbort (.erase page)))
    else (List.replicate 8 0#8, s.bbAppendRec r)

/-- The record that the next append takes (R363, R365): after a loss RECORDS_LOST, then the oldest of the breach log, then of the queue; and the
state without it. -/
def State.bbWaiting (s : State) : Option (BbRec × State) :=
  if s.bb.lost > 0 then some (⟨0x0F, 0, s.now48, leBytes 4 s.bb.lost⟩, { s with bb := { s.bb with lost := 0 } })
  else
    match s.bb.breach with
    | r :: t => some (r, { s with bb := { s.bb with breach := t } })
    | [] =>
      match s.bb.queue with
      | r :: t => some (r, { s with bb := { s.bb with queue := t } })
      | [] => none

/-- One append of what waits. -/
def State.bbAppendOne (s : State) : State :=
  match s.bbWaiting with
  | some (r, t) => t.bbAppendRec r
  | none => s

/-- Append every waiting record (R440); `fuel` bounds them. -/
def State.bbAppendAll (s : State) : Nat → State
  | 0 => s
  | n + 1 =>
    if s.bb.lost = 0 ∧ s.bb.breach.isEmpty ∧ s.bb.queue.isEmpty then s else (s.bbAppendOne).bbAppendAll n

def State.bbFlush (s : State) : State := s.bbAppendAll (s.bb.queue.length + s.bb.breach.length + 1)

/-- Every spread counter is committed and marked flushed (R359). -/
def State.flushCounters (s : State) : State := s.each (List.range 32) (fun k s => s.commitCounter k true)

/-! What Headland loads from records (R291, R401; log 26): the words of a record's data, in the order of these lists. -/

def fabricRegs : List Nat :=
  (List.range 19).map R.FAB_NODE_VRANGE
  ++ (List.range 8).flatMap (fun n => [R.STAGE_NODES n, R.STAGE_HBMAP n, R.STAGE_P_RATED n, R.STAGE_THERM n]
      ++ (List.range 4).map (R.STAGE_EFF_FWD n) ++ (List.range 4).map (R.STAGE_EFF_REV n))
  ++ (List.range 12).map R.PSW_CFG

def inputRegs : List Nat :=
  (List.range 3).flatMap (fun n => [R.INPUT_CFG n, R.INPUT_VLIM n, R.INPUT_ILIM n, R.INPUT_BUDGET n, R.INPUT_FLOOR n])
  ++ [R.INPUT_2_MPPT_CFG, R.INPUT_2_MPPT_VRANGE, R.XFER_CFG, R.XFER_RAMP, R.SRC_PRIO]
  ++ (List.range 8).map R.SUPPLY_CFG

def hostRegs : List Nat :=
  [R.HOST_DB_BASE_LO, R.HOST_DB_BASE_HI, R.HOST_POLL, R.HOST_INTX_EN, R.HOST_GLB_EN, R.HOST_SPI_IRQ_EN]

/-- Writing HW bits from another master is refused (R11): the bits stay, and a write that would change them is fault 0xB0. -/
def State.hwDenied (s : State) (p : Path) (off : Nat) (v : Word) : State :=
  if p = .headland ∨ (s.rd off ^^^ v) &&& accMask off [.hw] = 0#32 then s else s.raise 0xB0 (pathNo p) (leBytes 4 off)

/-- The data that a list of registers holds, as a record carries it. -/
def State.regBytes (s : State) (l : List Nat) : List Byte := l.flatMap (fun r => leBytes 4 (s.rdN r))

/-! The pack health record (R208; its layout is log 28). -/

def State.healthData (s : State) (i restMv : Nat) : List Byte :=
  leBytes 4 (s.rdN (R.PACK_ID i)) ++ leBytes 6 (s.rd64 (R.PACK_EREM_LO i) (R.PACK_EREM_HI i)) ++ leBytes 2 restMv
    ++ leBytes 2 (s.dImpNow i) ++ leBytes 4 (s.rdN (R.PACK_TILTH_R25 i)) ++ leBytes 2 (s.f (R.PACK_SOH i) F.PACK_SOH_SOH_R)

/-- The pack health record is written (R208); `bad` as for any record. -/
def State.writeHealth (s : State) (i restMv : Nat) (bad : Option Nat) : State :=
  let s := (s.writeRecord (healthPlace i) (healthId i) (s.healthData i restMv) bad).1
  s.setPack i { s.pack i with healthE := s.rd64 (R.PACK_EREM_LO i) (R.PACK_EREM_HI i) }

def State.readHealth (s : State) (i : Nat) : Option (List Byte) :=
  (s.readRecord (healthPlace i) (healthId i)).map (·.1)

end Sys2Proof.Machine
end

