-- ==== Sys2Proof/Machine/FirmOps.lean ====
section
/-! DEFINITION. Firmware packages, the build of the inactive bank, fall-back, and the safety envelope
(spec/11_firmware_trust_update.md R325–R340). -/

namespace Sys2Proof.Machine

/-! Banks and what the registers show of them. -/

/-- The bank that is ACTIVE; the running one where the directory names none. -/
def State.activeIs1 (s : State) : Bool :=
  if s.fw.bank0.st = .active then false else if s.fw.bank1.st = .active then true else s.fw.running1
def State.activeBank (s : State) : FwBank := if s.activeIs1 then s.fw.bank1 else s.fw.bank0
def State.spareBank (s : State) : FwBank := if s.activeIs1 then s.fw.bank0 else s.fw.bank1
def State.setSpare (s : State) (b : FwBank) : State :=
  if s.activeIs1 then { s with fw := { s.fw with bank0 := b } } else { s with fw := { s.fw with bank1 := b } }

/-- `SEGS`: bit 0 the manifest, bit k body segment k. -/
def State.segMap (s : State) : Nat :=
  s.fw.staged.foldl (fun a p => a ||| 2 ^ p.1) (if s.fw.manifest.isEmpty then 0 else 1)

/-- The security registers read what the secure partition holds. -/
def State.showFw (s : State) : State :=
  let c := R.SEC_STATUS
  let s := ((s.setF c F.SEC_STATUS_LIFECYCLE s.fw.life).setF c F.SEC_STATUS_BANK (boolNat s.fw.running1)).setF
    c F.SEC_STATUS_PREV_VALID (boolNat (s.otherBank.st == .previous))
  let s := s.setF c F.SEC_STATUS_ENV_VALID (boolNat (!s.fw.envelope.isEmpty))
  let s := ((s.setF R.FWU_STATUS F.FWU_STATUS_STATE s.fw.state).setF R.FWU_STATUS F.FWU_STATUS_LAST s.fw.last).setF
    R.FWU_STATUS F.FWU_STATUS_FAIL s.fw.fail
  let s := (s.setF R.FWU_SEGMAP F.FWU_SEGMAP_SEGS s.segMap).setF R.FWU_SEGMAP F.FWU_SEGMAP_SEG_COUNT (leAt s.fw.manifest 7 1)
  let s := ((s.setF R.FWU_PROGRESS F.FWU_PROGRESS_SECTOR s.fw.sector).setF R.FWU_PROGRESS F.FWU_PROGRESS_DIRTY
    (boolNat s.fw.dirty)).setF R.FWU_PROGRESS F.FWU_PROGRESS_BOOTS s.fw.boots
  s.each (List.range 4) (fun j s =>
    (s.wrN (R.FW_VER j) (s.runBank.comp j).version).wrN (R.FW_SVN_FLOOR j) (s.fw.floors.getD j 0))

/-! Manifests (R331, R332). -/

def mComps (m : List Byte) : Nat := leAt m 6 1
def mSegs (m : List Byte) : Nat := leAt m 7 1
def mBody (m : List Byte) : Nat := leAt m 12 4
def mEntry (m : List Byte) (c : Nat) : List Byte := slice m (64 + 128 * c) 128
def mSegHash (m : List Byte) (k : Nat) : List Byte := slice m (64 + 128 * mComps m + 32 * (k - 1)) 32
def mLength (m : List Byte) : Nat := 64 + 128 * mComps m + 32 * mSegs m + 64
def mEntries (m : List Byte) : List (List Byte) := (List.range (mComps m)).map (mEntry m)

def ceComp (e : List Byte) : Nat := leAt e 0 1
def ceDelta (e : List Byte) : Bool := bitsOf (leAt e 1 1) 0 1 == 1
def ceEnc (e : List Byte) : Bool := bitsOf (leAt e 1 1) 1 1 == 1
def ceReq (e : List Byte) : List Nat := (List.range 4).map (fun j => leAt e (28 + 2 * j) 2)

/-- Rising component numbers. -/
def risingComps : List (List Byte) → Bool
  | e :: f :: t => decide (ceComp e < ceComp f) && risingComps (f :: t)
  | _ => true

/-- A component entry without a malformed field (R332). -/
def ceClean (m e : List Byte) : Bool :=
  decide (1 ≤ ceComp e ∧ ceComp e ≤ 4) && leAt e 1 1 / 4 == 0 && leAt e 2 2 == 0
    && decide (leAt e 12 4 + leAt e 16 4 ≤ mBody m) && (ceComp e == 4 || leAt e 26 2 == 0)
    && (ceEnc e || allZero (slice e 36 12)) && (ceDelta e || allZero (slice e 96 32))

/-- A manifest without a malformed field (R331). -/
def manifestClean (m : List Byte) : Bool :=
  leAt m 0 4 == 0x4B504E44 && leAt m 4 2 == 1 && decide (1 ≤ mComps m ∧ mComps m ≤ 4 ∧ 1 ≤ mSegs m ∧ mSegs m ≤ 15)
    && leAt m 8 4 == mLength m && m.length == mLength m
    && decide (65536 * (mSegs m - 1) + 1 ≤ mBody m ∧ mBody m ≤ 65536 * mSegs m) && allZero (slice m 20 44)
    && (mEntries m).all (ceClean m) && risingComps (mEntries m)

/-- The length of body segment k. -/
def segLength (m : List Byte) (k : Nat) : Nat := if k < mSegs m then 65536 else mBody m - 65536 * (mSegs m - 1)

/-- The entry of a package for component c (1–4). -/
def mFind (m : List Byte) (c : Nat) : Option (List Byte) := (mEntries m).find? (fun e => ceComp e == c)

/-- Interface and requirements of component c in the resulting set (R336). -/
def State.setIf (s : State) (m : List Byte) (c : Nat) : Nat :=
  match mFind m c with | some e => leAt e 24 2 | none => (s.activeBank.comp (c - 1)).ifProv
def State.setReq (s : State) (m : List Byte) (c : Nat) : List Nat :=
  match mFind m c with | some e => ceReq e | none => (s.activeBank.comp (c - 1)).reqMin
def State.setLen (s : State) (m : List Byte) (c : Nat) : Nat :=
  match mFind m c with | some e => leAt e 20 4 | none => (s.activeBank.comp (c - 1)).image.length

/-- R336, the base images, and the 48 sectors of the image area. -/
def State.compatOk (s : State) (m : List Byte) : Bool :=
  [1, 2, 3, 4].all (fun x => [1, 2, 3, 4].all (fun y => decide ((s.setReq m x).getD (y - 1) 0 ≤ s.setIf m y)))
    && (mEntries m).all (fun e => !ceDelta e || slice e 96 32 == (s.activeBank.comp (ceComp e - 1)).hash)
    && decide ((([1, 2, 3, 4].map (fun c => ceilDiv (s.setLen m c) 65536)).foldl (· + ·) 0) ≤ 48)

/-! FW_CHUNK (R334, R335). -/

/-- A manifest as segment 0: the status and the detail, and the state where it is accepted. -/
def State.storeManifest (s : State) (m : List Byte) : State × Nat × Nat :=
  if !manifestClean m then (s, 0x15, 0x0013)
  else if m = s.fw.manifest then (s, 0x00, 0x0001)
  else if !Config.sigVerify Config.fwPubKey (Config.sha256 (m.take (m.length - 64))) (m.drop (m.length - 64)) then
    (s, 0x52, 0x0010)
  else if bitsOf (leAt m 16 2) (s.f R.GLB_ID F.GLB_ID_REV) 1 = 0 ∨ Config.romVersion < leAt m 18 2 then (s, 0x50, 0x0015)
  else if (mEntries m).any (fun e => decide (leAt e 8 4 < s.fw.floors.getD (ceComp e - 1) 0)) then (s, 0x50, 0x0017)
  else if s.fw.keyErased && (mEntries m).any ceEnc then (s, 0x50, 0x0018)
  else if !s.compatOk m then (s, 0x50, 0x0016)
  else
    let s := s.setSpare {}
    (({ s with fw := { s.fw with manifest := m, staged := [], state := 1, sector := 0, dirty := false } }).showFw, 0x00, 0x0002)

/-- A body segment. -/
def State.storeSegment (s : State) (k : Nat) (data : List Byte) : State × Nat × Nat :=
  let m := s.fw.manifest
  if m.isEmpty then (s, 0x50, 0x0014)
  else if mSegs m < k then (s, 0x15, 0x0012)
  else if data.length ≠ segLength m k then (s, 0x15, 0x0013)
  else if Config.sha256 data ≠ mSegHash m k then (s, 0x52, 0x0011)
  else if s.fw.staged.any (fun p => p.1 == k) then (s, 0x00, 0x0001)
  else
    let all := s.fw.staged ++ [(k, data)]
    let done := decide (all.length = mSegs m)
    (({ s with fw := { s.fw with staged := all, state := if done then 2 else 1, sector := 0, dirty := false } }).showFw, 0x00,
      if done then 0x0003 else 0x0000)

/-- One FW_CHUNK whose buffer has been read whole (R334). -/
def State.storeChunk (s : State) (off : Nat) (data : List Byte) : State × Nat × Nat :=
  if s.fw.state = 2 ∨ s.fw.state = 4 ∨ s.fw.state = 5 then (s, 0x51, 0x0019)
  else if off % 65536 ≠ 0 ∨ 15 * 65536 < off then (s, 0x15, 0x0012)
  else if off = 0 then s.storeManifest data
  else s.storeSegment (off / 65536) data

/-! The build (R333, R337). -/

/-- The operations of a delta; `fuel` bounds them. -/
def applyDelta (base : List Byte) : Nat → List Byte → List Byte → Option (List Byte)
  | 0, _, _ => none
  | fuel + 1, ops, out =>
    if ops.length < 4 then none
    else
      let w := leAt ops 0 4
      let l := w % 2 ^ 30
      let t := ops.drop 4
      if w / 2 ^ 30 = 0 then (if l = 0 ∧ t.isEmpty then some out else none)
      else if w / 2 ^ 30 = 1 then
        (if t.length < 4 ∨ base.length < leAt t 0 4 + l then none
         else applyDelta base fuel (t.drop 4) (out ++ slice base (leAt t 0 4) l))
      else if w / 2 ^ 30 = 2 then (if t.length < l then none else applyDelta base fuel (t.drop l) (out ++ t.take l))
      else none

/-- The package's body. -/
def State.packBody (s : State) : List Byte :=
  ((List.range (mSegs s.fw.manifest)).flatMap (fun k =>
    ((s.fw.staged.find? (fun p => p.1 == k + 1)).map (·.2)).getD [])).take (mBody s.fw.manifest)

/-- The ciphertext or plain body of a carried component. -/
def State.compBody (s : State) (e : List Byte) : List Byte := slice s.packBody (leAt e 12 4) (leAt e 16 4)

/-- The image of component c (1–4) as the build makes it; none where its delta fails. -/
def State.compImage (s : State) (c : Nat) : Option FwComp :=
  let old := s.activeBank.comp (c - 1)
  match mFind s.fw.manifest c with
  | none => some old
  | some e =>
    let body := s.compBody e
    let plain := if ceEnc e then Config.aesCtr (slice e 36 12) body else body
    let img := if ceDelta e then
        (match applyDelta old.image (plain.length + 1) plain [] with
         | some o => if o.length = leAt e 20 4 then some o else none
         | none => none)
      else some plain
    img.map (fun b => { image := b, hash := slice e 64 32, version := leAt e 4 4, svn := leAt e 8 4, ifProv := leAt e 24 2,
                        format := leAt e 26 2, reqMin := ceReq e })

/-- The outcome of the build: the four components, or the failure code (R337). -/
def State.buildResult (s : State) (verifyOk : Bool) : Except Nat (List FwComp) :=
  let es := mEntries s.fw.manifest
  if s.fw.keyErased && es.any ceEnc then .error 0x18
  else
    match [1, 2, 3, 4].mapM s.compImage with
    | none => .error 0x20
    | some cs =>
      if !verifyOk then .error 0x23
      else if es.any (fun e => ceEnc e && Config.gcmTag (slice e 36 12) (s.compBody e) != slice e 48 16) then .error 0x21
      else if cs.any (fun x => Config.sha256 x.image != x.hash) then .error 0x22
      else .ok cs

/-- The build has failed (R337): the state is IDLE and the staged package is kept. -/
def State.buildFailed (s : State) (code : Nat) : State :=
  (({ s with fw := { s.fw with state := 0, last := 3, fail := code } }).showFw).raise 0xB8 0 (leBytes 4 code)

/-- The FIRMWARE record (R363): VERSION of a FIELD_IMAGE and the package identity. -/
def State.bbFirmware (s : State) (sub version : Nat) : State :=
  s.bbQueue 8 sub (leBytes 4 version ++ padTo 32 (Config.sha256 s.fw.manifest))

/-! Trial (R338–R341). -/

/-- The parameter records that have a second set (R352). -/
def paramIds : List Nat :=
  [0x100] ++ (List.range 16).map (· + 0x200) ++ [0x300, 0x301, 0x302, 0x400, 0x500]

/-- The trial image writes a new-format copy of every parameter record beside the old one (R341; log 31). -/
def State.copySet (s : State) : State :=
  paramIds.foldl (fun s id =>
    match recPlace s.fw.pset id, recPlace (1 - s.fw.pset) id with
    | some a, some b =>
      match s.readRecord a id with
      | some (data, _, s') => (s'.writeRecord b id data none).1
      | none => s
    | _, _ => s) s

/-- The pages of a parameter set are erased: its records are discarded (R340). -/
def State.dropSet (s : State) (set : Nat) : State :=
  s.each (List.range 156) (fun k s => s.erasePage ((if set = 0 then 384 else 540) + k))

/-- What fall-back leaves in the secure partition (R340). -/
def State.fallMarks (s : State) : State :=
  let v := (s.spareBank.comp 3).version
  let s := if s.fw.newFormat then s.dropSet (1 - s.fw.pset) else s
  let s := s.bbFirmware 3 v
  let s := s.setSpare {}
  let s := { s with fw := { s.fw with state := 0, last := 2, boots := 0, newFormat := false, running1 := s.activeIs1 } }
  s.raise 0xB9 0 []

/-- Steps 4 and 5 of the opening of the debug port (R342): the keys erased, the seal key replaced, DEBUG, the port open. -/
def State.finishDebug (s : State) : State :=
  let key := s.rdN R.BB_NEXT_SEQ
  let s := { s with
    fw := { s.fw with life := 4, keyErased := true, sealGen := s.fw.sealGen + 1, keySeq := key }
    bb := { s.bb with lastSeal := [] } }
  let s := s.wrN R.BB_KEY_SEQ key
  let s := if s.fw.state = 2 ∧ (mEntries s.fw.manifest).any ceEnc then s.buildFailed 0x18 else s
  s.showFw.setF R.DBG_STATUS F.DBG_STATUS_OPEN 1

/-- DEBUG_PENDING goes on to DEBUG within 50 ms (R342): at the first tick from its beginning on (log 63). -/
def State.tickDebug (s : State) : State := if s.fw.life = 3 ∧ s.sys.dbgAt < s.cyc then s.finishDebug else s

/-! The safety envelope (R325–R327). -/

def envPack (b : List Byte) (i o n : Nat) : Nat := leAt b (80 + 32 * i + o) n
def envRail (b : List Byte) (n : Nat) : Nat := leAt b (208 + 8 * n) 2

def State.envValid (s : State) : Bool := s.flag R.SEC_STATUS F.SEC_STATUS_ENV_VALID

/-- The ENV registers read the committed record. -/
def State.loadEnv (s : State) : State :=
  let b := s.fw.envelope
  if b.isEmpty then s
  else
    let s := s.each [0, 1, 2, 3] (fun i s =>
      let s := (s.wrN (R.ENV_PACK_VLIM i) (envPack b i 0 4)).wrN (R.ENV_PACK_ILIM i) (envPack b i 4 4)
      let s := (s.wrN (R.ENV_PACK_TCHG i) (envPack b i 8 4)).wrN (R.ENV_PACK_TDSG i) (envPack b i 12 4)
      s.wr64 (R.ENV_PACK_EFLOOR_LO i) (R.ENV_PACK_EFLOOR_HI i) (envPack b i 16 6))
    let s := s.each (List.range 8) (fun n s => s.wrN (R.ENV_RAIL n) (envRail b n))
    (s.wrN R.ENV_SEQ (leAt b 8 4)).setF R.SEC_STATUS F.SEC_STATUS_ENV_VALID 1

/-- Where the limits that comparators watch lie in the record. -/
def envLimits : List Nat := ([0, 1, 2, 3].flatMap (fun i => [80 + 32 * i, 84 + 32 * i, 86 + 32 * i])) ++ (List.range 8).map (fun n => 208 + 8 * n)

/-- The threshold of a comparator, from the limit at a place of the record: a lowered limit moves it 1 ms later (R327). -/
def State.envThr (s : State) (o : Nat) : Nat :=
  let v := leAt s.fw.envelope o 2
  if s.sys.envMove then max v (leAt s.fw.envOld o 2) else v

/-- Whether a record may be committed (R325). -/
def State.envAccepts (s : State) (b : List Byte) : Bool :=
  let pub := slice b 16 64
  let key := if s.fw.life = 1 then pub else s.fw.slot4
  b.length == 336 && leAt b 0 4 == 0x56454E44 && leAt b 4 2 == 1 && s.fw.life != 3 && pub == key
    && Config.sigVerify key (Config.sha256 (b.take 272)) (slice b 272 64)
    && (s.fw.envelope.isEmpty || decide (leAt s.fw.envelope 8 4 < leAt b 8 4))
    && [0, 1, 2, 3].all (fun i => decide (envPack b i 2 2 ≤ envPack b i 0 2))

/-- The commit of an envelope record (R325): whether it was accepted. -/
def State.commitEnv (s : State) (b : List Byte) : State × Bool :=
  if !s.envAccepts b then (s.raise 0xBC 0 [], false)
  else
    let old := s.fw.envelope
    let lower := !old.isEmpty && envLimits.any (fun o => decide (leAt b o 2 < leAt old o 2))
    let s := { s with fw := { s.fw with
      envelope := b
      life := if s.fw.life = 1 then 2 else s.fw.life
      slot4 := if s.fw.life = 1 then slice b 16 64 else s.fw.slot4
      envOld := if lower then old else [] } }
    let s := { s with sys := { s.sys with envMove := lower, envAt := s.cyc } }
    ((s.loadEnv).showFw, true)

end Sys2Proof.Machine
end

