-- ==== Sys2Proof/Machine/Packs.lean ====
section
/-! DEFINITION. The commands of the pack links, the pack health record, Tilth and the CAN ports
(spec/07_pack_links_and_health.md R197–R215, R220). -/

namespace Sys2Proof.Machine

/-! Link states as PACK_x_LINK_STATUS.STATE codes them (R198). -/

def lkOff : Nat := 0
def lkIdent : Nat := 1
def lkUp : Nat := 2
def lkLost : Nat := 3

def State.linkState (s : State) (i : Nat) : Nat := s.f (R.PACK_LINK_STATUS i) F.PACK_LINK_STATUS_STATE
/-- The link mode; 3 acts as 0 (R197). -/
def State.linkMode (s : State) (i : Nat) : Nat :=
  let m := s.f (R.PACK_LINK_CFG i) F.PACK_LINK_CFG_LINK_MODE
  if m = 3 then 0 else m
/-- POLL × 10 ms in µs; POLL lies in 5–100. -/
def State.pollUs (s : State) (i : Nat) : Nat := min 100 (max 5 (s.f (R.PACK_LINK_CFG i) F.PACK_LINK_CFG_POLL)) * 10000

/-- The link enters IDENT (R198). -/
def State.enterIdent (s : State) (i : Nat) : State :=
  let s := (s.setF (R.PACK_LINK_STATUS i) F.PACK_LINK_STATUS_STATE lkIdent).setF (R.PACK_LINK_STATUS i) F.PACK_LINK_STATUS_T_VALID 0
  s.setPack i { s.pack i with identAt := s.us, linkAt := s.us, fails := 0, lastStatus := [] }

/-- What the link imposes lapses; a reported protection disconnection stands (R202). -/
def State.lapseLimits (s : State) (i : Nat) : State :=
  s.setPack i { s.pack i with linkI := none, linkV := none, linkD := none, alarms := 0, lapsed := true, dsgStands := (s.pack i).dsgOff }

/-- Link values are dropped (R198). What the loss of the link left behind goes on: the zero charge current of REQUIRED until the link is UP
again, and a reported disconnection until a status read shows it clear (R202). -/
def State.dropLink (s : State) (i : Nat) : State :=
  let s := (s.wrN (R.PACK_LINK_STATUS i) 0).setPack i { s.pack i with
    linkI := none, linkV := none, linkD := none, alarms := 0, dsgOff := (s.pack i).dsgOff && (s.pack i).dsgStands, cnt := none, fails := 0 }
  let s := ((s.wrN (R.PACK_LINK_VT i) 0).wrN (R.PACK_LINK_I i) 0).wrN (R.PACK_LINK_CHG i) 0xFFFFFFFF
  (s.wrN (R.PACK_LINK_DSG i) 0xFFFF).showEFull i

/-- A write of PACK_x_LINK_CFG (R197, R198): a changed LINK_MODE drops the link, and a mode of 1 or 2 starts identification.
`hw`: Headland writes, so REQUIRED is written too (R11). -/
def State.writeLinkCfg (s : State) (i : Nat) (v : Word) (hw : Bool) : State :=
  let c := R.PACK_LINK_CFG i
  let old := s.linkMode i
  let m : Word := if hw then 0x000FFF3F#32 else 0x000FFF2F#32
  let s := s.wr c ((s.rd c &&& ~~~m) ||| (v &&& m))
  let new := s.linkMode i
  if new = old then s
  else
    let s := s.dropLink i
    if new = 0 then s else s.enterIdent i

def execLinkCfgWrite (p : Path) (i : Fin 4) (v : Word) (s : State) : Host.Outcome State Fault Refusal :=
  s.act fun s => s.inOrder p (R.PACK_LINK_CFG i) (s.rd (R.PACK_LINK_CFG i)) v fun v s =>
    (s.hwDenied p (R.PACK_LINK_CFG i) v).writeLinkCfg i v (p == .headland)

/-! Identification (R199, R200, R209, R214). -/

def upperByte (b : Byte) : Byte := if 97 ≤ b.toNat ∧ b.toNat ≤ 122 then b - 32#8 else b
def asciiBytes (l : List Nat) : List Byte := l.map (BitVec.ofNat 8)

/-- CHEM of a DeviceChemistry string (R200). -/
def chemOf (b : List Byte) : Nat :=
  let u := b.map upperByte
  if u = asciiBytes [0x4C, 0x49, 0x4F, 0x4E] then 1
  else if u = asciiBytes [0x4C, 0x46, 0x50] ∨ u = asciiBytes [0x4C, 0x49, 0x46, 0x45] then 2
  else if u = asciiBytes [0x4E, 0x49, 0x4D, 0x48] then 3
  else if u = asciiBytes [0x50, 0x42, 0x41, 0x43] then 4
  else 0

/-- A capacity word in mJ (R207): × 36,000, or × DesignVoltage × 3.6, whose rounding is a free value (log 25). -/
def State.capMj (s : State) (capMode : Bool) (designMv cap : Nat) : Nat × State :=
  if capMode then (cap * 36000, s)
  else
    let n := cap * designMv * 18
    if n % 5 = 0 then (n / 5, s)
    else
      let v := s.takeFree 1
      (n / 5 + v.1, v.2)

/-- Impedance values of an unknown pack (R214). -/
def State.unknownHealth (s : State) (i : Nat) : State :=
  let s := s.setPack i { s.pack i with impKnown := false }
  (s.wrN (R.PACK_TILTH_R25 i) 0).setF (R.PACK_SOH i) F.PACK_SOH_SOH_R 0

/-- The values of a health record (R214). -/
def State.recordHealth (s : State) (i : Nat) (b : List Byte) : State :=
  let s := s.setPack i { s.pack i with dImp := leAt b 12 2, impKnown := true }
  (s.wrN (R.PACK_TILTH_R25 i) (leAt b 14 4)).setF (R.PACK_SOH i) F.PACK_SOH_SOH_R (leAt b 18 2)

/-- A sweep that runs ends (R213–R215): its LAST code, with fault 0x45 where the ending records one. -/
def State.endSweep (s : State) (i last : Nat) (fault : Bool) : State :=
  if s.f (R.PACK_TILTH_STATUS i) F.PACK_TILTH_STATUS_STATE = 0 then s
  else
    let s := (s.setF (R.PACK_TILTH_STATUS i) F.PACK_TILTH_STATUS_STATE 0).setF (R.PACK_TILTH_STATUS i) F.PACK_TILTH_STATUS_LAST last
    if fault then s.raise 0x45 i [] else s

/-- An identification completes (R198–R200): the ID, the check for another pack (after a reset against the health record), the chemistry,
the energy figures, UP. -/
def State.identify (s : State) (i id chem full : Nat) (design : Option Nat) : State :=
  let first := (s.pack i).prevId.isNone
  let rec_ := s.readHealth i
  let prev := match (s.pack i).prevId with | some q => some q | none => rec_.map (fun b => leAt b 0 4)
  let changed := match prev with | some q => q != id | none => false
  let s := s.wrN (R.PACK_ID i) id
  let s := s.setPack i { s.pack i with prevId := some id, linkFull := some full, linkDesign := design, lapsed := false, fails := 0, sagged := false, slowAt := none, pollAt := s.us }
  let s := (s.setF (R.PACK_LINK_STATUS i) F.PACK_LINK_STATUS_STATE lkUp).setF (R.PACK_LINK_STATUS i) F.PACK_LINK_STATUS_CHEM chem
  let s := s.showEFull i
  let s :=
    if changed then
      let s := (s.endSweep i 2 false).unknownHealth i
      ((s.restartPhase i).showRefs i).raise 0x41 i (faultRec id (prev.getD 0))
    else if first then
      match rec_ with
      | some b => s.recordHealth i b
      | none => s.unknownHealth i
    else s
  if s.chemClash i then s.raise 0x42 i (faultRec chem (leAt (s.pack i).prof 6 1)) else s

/-- A transaction (protocol, command code, data) on a pack's bus, with the link's speed and packet error code (R197). -/
def State.smbTx (s : State) (i : Nat) (t : Nat × Nat × List Byte) : Emit :=
  .smb i t.1 t.2.1 t.2.2 (s.flag (R.PACK_LINK_CFG i) F.PACK_LINK_CFG_FAST) (s.flag (R.PACK_LINK_CFG i) F.PACK_LINK_CFG_PEC)

/-- The transactions of an identification, in their order (R199). -/
def identReads : List (Nat × Nat × List Byte) :=
  [(2, 0x03, leBytes 2 0xC000), (1, 0x03, []), (1, 0x1C, []), (1, 0x1B, []), (3, 0x20, []), (3, 0x21, []), (3, 0x22, []), (1, 0x19, []),
   (1, 0x18, []), (1, 0x10, [])]

/-- SMBus identification completes (R199): the reads, in their order, go out on the bus. -/
def execPackIdentDone (i : Fin 4) (o : SmbIdent) (s : State) : Host.Outcome State Fault Refusal :=
  s.act fun s =>
    if s.linkMode i = 1 ∧ s.linkState i = lkIdent then
      let s := s.emits (identReads.map (s.smbTx i))
      let cm := bitsOf o.modeBack 15 1 == 1
      let id := crc32c (o.serial ++ o.date ++ o.maker ++ o.device ++ o.chem)
      let full := s.capMj cm o.designMv o.fullCap
      let design := full.2.capMj cm o.designMv o.designCap
      let s := design.2
      let s := s.setPack i { s.pack i with capMode := cm, designMv := o.designMv, linkAt := s.us }
      s.identify i id (chemOf o.chem) full.1 (some design.1)
    else s

/-! Polls and frames (R201–R206). -/

/-- The temperature is valid in its range (R202). -/
def tempValid (t : Int) : Bool := decide (-400 ≤ t ∧ t ≤ 1250)

/-- One 0x43 for each alarm bit of a status word that rises (R205). -/
def State.risingAlarms (s : State) (i old new : Nat) (bits : List Nat) : State :=
  bits.foldl (fun s b => if bitsOf new b 1 = 1 ∧ bitsOf old b 1 = 0 then s.raise 0x43 i (leBytes 4 new) else s) s

/-- The alarms of a status word take their effect (R205, R31, R206). -/
def State.setAlarms (s : State) (i : Nat) (chgOff hot dsgOff : Bool) : State :=
  let was := (s.pack i).dsgOff
  let s := s.setPack i { s.pack i with
    alarms := boolNat chgOff + 4 * boolNat hot, hot := hot || (s.pack i).hot, dsgOff := dsgOff, dsgStands := false }
  let s := if hot then s.setZone i 5 else s
  let s := if dsgOff && !was then s.raise 0x44 i (leBytes 4 (s.f (R.PACK_LINK_STATUS i) F.PACK_LINK_STATUS_PSTAT)) else s
  s.chargeDemand i

/-- A valid temperature reading shows T_VALID. -/
def State.setLinkTemp (s : State) (i : Nat) (t : Int) : State :=
  (s.setF (R.PACK_LINK_VT i) F.PACK_LINK_VT_T (ofSigned 16 t)).setF (R.PACK_LINK_STATUS i) F.PACK_LINK_STATUS_T_VALID
    (boolNat (tempValid t))

def limOf (v unit : Nat) : Option Nat := if v = 0xFFFF then none else some (v * unit)

/-- A successful SMBus poll in UP, with the two values of the 10 s poll where `slow` (R201, R204, R205, R207). -/
def State.applyPoll (s : State) (i : Nat) (p : SmbPoll) (slow : Bool) : State :=
  let old := s.f (R.PACK_LINK_STATUS i) F.PACK_LINK_STATUS_PSTAT
  let s := s.setPack i { s.pack i with linkAt := s.us, linkI := limOf (p.chgCurrent % 65536) 1, linkV := limOf (p.chgVoltage % 65536) 1 }
  let s := s.setF (R.PACK_LINK_VT i) F.PACK_LINK_VT_V p.voltage
  let s := s.setLinkTemp i ((p.temperature % 65536 : Nat) - 2732)
  let s := s.wrN (R.PACK_LINK_I i) (ofSigned 32 (toSigned 16 p.current))
  let s := (s.setF (R.PACK_LINK_CHG i) F.PACK_LINK_CHG_ICHG (if p.chgCurrent % 65536 = 0xFFFF then 0xFFFF else p.chgCurrent % 65536 / 10)).setF
    (R.PACK_LINK_CHG i) F.PACK_LINK_CHG_VCHG p.chgVoltage
  let s := s.setF (R.PACK_LINK_STATUS i) F.PACK_LINK_STATUS_PSTAT p.status
  let r := s.pack i
  let e := s.capMj r.capMode r.designMv (p.remaining % 65536)
  let s := (e.2.setERem i e.1).setPack i { r with eFrac := 0 }
  let s :=
    if slow then
      let e := s.capMj r.capMode r.designMv p.slow.1
      let s := e.2.setPack i { e.2.pack i with linkFull := some e.1, slowAt := some s.us }
      (s.setF (R.PACK_LINK_DSG i) F.PACK_LINK_DSG_CYCLES p.slow.2).showEFull i
    else s
  let s := s.risingAlarms i old p.status [11, 12, 14, 15]
  s.setAlarms i (bitsOf p.status 15 1 == 1 || bitsOf p.status 14 1 == 1) (bitsOf p.status 12 1 == 1) (bitsOf p.status 11 1 == 1)

/-- A try of a transaction fails, which LINK_ERR counts (R197). -/
def State.smbFailed (s : State) (i : Nat) (f : SmbFail) : State :=
  s.bump (R.PACK_LINK_ERR i)
    (match f with | .nack => F.PACK_LINK_ERR_NACK | .timeout => F.PACK_LINK_ERR_TIMEOUT | .pec => F.PACK_LINK_ERR_PEC_ERR) 1

/-- Without packet error codes no reply fails its check (R197). -/
def State.smbCan (s : State) (i : Nat) (f : SmbFail) : Bool := f != .pec || s.flag (R.PACK_LINK_CFG i) F.PACK_LINK_CFG_PEC

/-- The 10 s poll falls due (R201). -/
def State.slowDue (s : State) (i : Nat) : Bool :=
  match (s.pack i).slowAt with
  | some t => decide (t + 10000000 ≤ s.us)
  | none => true

/-- The reads of a poll (R201). -/
def pollReads (slow : Bool) : List (Nat × Nat × List Byte) :=
  ([0x09, 0x0A, 0x08, 0x16, 0x14, 0x15, 0x0F] ++ if slow then [0x10, 0x17] else []).map (fun c => (1, c, []))

/-- The reads go out, with the second tries of those that failed once (R197). -/
def State.smbSend (s : State) (i : Nat) (reads : List (Nat × Nat × List Byte)) (again : List (Fin 10 × SmbFail)) : State :=
  reads.zipIdx.foldl (fun s x =>
    match again.find? (fun a => a.1.val == x.2 && s.smbCan i a.2) with
    | some a => ((s.emit (s.smbTx i x.1)).smbFailed i a.2).emit (s.smbTx i x.1)
    | none => s.emit (s.smbTx i x.1)) s

/-- One round of SMBus reads (R197, R198, R201): in UP each POLL, and its values are taken; in LOST a success starts identification; in IDENT
the reads are those of identification, whose success PACK_IDENT_DONE tells. A round ends at a read whose two tries fail, which counts
as one failed transaction. -/
def execPackPoll (i : Fin 4) (r : PollResult) (s : State) : Host.Outcome State Fault Refusal :=
  s.act fun s =>
    let st := s.linkState i
    if s.linkMode i ≠ 1 ∨ st = lkOff ∨ (st = lkUp ∧ s.us < (s.pack i).pollAt + s.pollUs i) then s
    else
      let slow := st == lkUp && s.slowDue i
      let reads := if st = lkIdent then identReads else pollReads slow
      match r with
      | .ok p again =>
        if st = lkIdent then s
        else
          let s := (s.smbSend i reads again).setPack i { s.pack i with fails := 0, pollAt := s.us }
          if st = lkUp then s.applyPoll i p slow else s.enterIdent i
      | .failed again k first second =>
        if reads.length ≤ k ∨ !s.smbCan i first ∨ !s.smbCan i second then s
        else
          let s := s.smbSend i (reads.take (k + 1)) (again.filter (fun a => decide (a.1 < k)) ++ [(k, first)])
          let s := (s.smbFailed i second).setPack i { s.pack i with
            fails := (if k.val = 0 then (s.pack i).fails else 0) + 1, pollAt := s.us }
          if st = lkLost ∧ k.val ≠ 0 then s.enterIdent i else s

def State.packCan (s : State) (i : Nat) : Nat := s.f (R.PACK_LINK_CFG i) F.PACK_LINK_CFG_CAN_PORT

/-- The values of a CAN status frame in UP (R203–R205, R207). -/
def State.applyStatus (s : State) (i : Nat) (d : List Byte) : State :=
  let old := s.f (R.PACK_LINK_STATUS i) F.PACK_LINK_STATUS_PSTAT
  let w := leAt d 22 1
  let s := s.setPack i { s.pack i with linkI := limOf (leAt d 8 2) 10, linkV := limOf (leAt d 10 2) 1,
                                       linkD := limOf (leAt d 12 2) 10, eFrac := 0 }
  let s := (s.setF (R.PACK_LINK_VT i) F.PACK_LINK_VT_V (leAt d 0 2)).setLinkTemp i (toSigned 16 (leAt d 6 2))
  let s := s.wrN (R.PACK_LINK_I i) (leAt d 2 4)
  let s := s.wrN (R.PACK_LINK_CHG i) (leAt d 8 4)
  let s := s.setF (R.PACK_LINK_DSG i) F.PACK_LINK_DSG_IDSG (leAt d 12 2)
  let s := (s.setERem i (leAt d 14 6)).setF (R.PACK_LINK_STATUS i) F.PACK_LINK_STATUS_PSTAT w
  let s := s.risingAlarms i old w [0, 1, 2]
  s.setAlarms i (bitsOf w 0 1 == 1) (bitsOf w 2 1 == 1) (bitsOf w 1 1 == 1)

/-- A frame on a pack's identifier plus `k`: its port, CAN FD in ISO format, 11 or 29 bits (R203). -/
def State.packFrame (s : State) (i k n : Nat) (f : CanFrame) : Bool :=
  s.linkMode i == 2 && n == s.packCan i && s.canFd n && f.fd && f.ide == s.flag (R.PACK_LINK_CANID i) F.PACK_LINK_CANID_IDE
    && f.ident == s.f (R.PACK_LINK_CANID i) F.PACK_LINK_CANID_ID + k

/-- A CAN identity frame (R199, R203): it ends identification; in UP it refreshes E_FULL and the cycle count, and another
SERIAL is another pack. The values of a status frame received in IDENT are used from now on (R198). -/
def execPackIdentityFrame (i : Fin 4) (n : Fin 2) (f : CanFrame) (s : State) : Host.Outcome State Fault Refusal :=
  s.act fun s =>
    let data := f.data
    if s.packFrame i 1 n f ∧ data.length = 16 ∧ (s.linkState i = lkIdent ∨ s.linkState i = lkUp) then
      let s := s.setF (R.PACK_LINK_DSG i) F.PACK_LINK_DSG_CYCLES (leAt data 6 2)
      let id := leAt data 0 4
      if s.linkState i = lkUp ∧ id = s.rdN (R.PACK_ID i) then
        (s.setPack i { s.pack i with linkFull := some (leAt data 8 6) }).showEFull i
      else
        let waits := s.linkState i == lkIdent && !(s.pack i).lastStatus.isEmpty
        let s := s.identify i id (leAt data 4 1 % 8) (leAt data 8 6) none
        if waits then s.applyStatus i (s.pack i).lastStatus else s
    else s

/-- A CAN status frame (R203): a counter that does not follow is counted and ignored, and the next frame starts the counter
anew; in LOST a valid frame starts identification (R198). -/
def execPackStatusFrame (i : Fin 4) (n : Fin 2) (f : CanFrame) (s : State) : Host.Outcome State Fault Refusal :=
  s.act fun s =>
    let data := f.data
    if s.packFrame i 0 n f ∧ data.length = 24 ∧ s.linkState i ≠ lkOff then
      let c := leAt data 23 1 % 16
      let ok : Bool := match (s.pack i).cnt with
        | some q => c == (q + 1) % 16
        | none => true
      if !ok then (s.bump (R.PACK_LINK_ERR i) F.PACK_LINK_ERR_SEQ_ERR 1).setPack i { s.pack i with cnt := none }
      else
        let s := s.setPack i { s.pack i with cnt := some c, linkAt := s.us }
        if s.linkState i = lkUp then s.applyStatus i data
        else
          let s := if s.linkState i = lkLost then s.enterIdent i else s
          s.setPack i { s.pack i with lastStatus := data }
    else s

/-- The link is LOST (R198, R202): after RETRY failed transactions in a row; on CAN without a valid status frame for 3 × POLL,
or without an identity frame within 2 s of IDENT. -/
def execPackLinkLost (i : Fin 4) (s : State) : Host.Outcome State Fault Refusal :=
  s.act fun s =>
    let r := s.pack i
    let due := if s.linkMode i = 1 then decide (max 1 (s.f (R.PACK_LINK_CFG i) F.PACK_LINK_CFG_RETRY) ≤ r.fails)
      else decide (r.linkAt + 3 * s.pollUs i ≤ s.us) || (s.linkState i == lkIdent && decide (r.identAt + 2000000 ≤ s.us))
    if (s.linkState i = lkIdent ∨ s.linkState i = lkUp) ∧ due then
      let s := (s.setF (R.PACK_LINK_STATUS i) F.PACK_LINK_STATUS_STATE lkLost).setF (R.PACK_LINK_STATUS i)
        F.PACK_LINK_STATUS_T_VALID 0
      let s := (s.lapseLimits i).setPack i { (s.lapseLimits i).pack i with cnt := none }
      (s.chargeDemand i).raise 0x40 i []
    else s

/-- PACK_x_V fell below 2,500 mV in UP and has risen above it again: the pack is treated as re-inserted (R198). -/
def execPackReinsert (i : Fin 4) (s : State) : Host.Outcome State Fault Refusal :=
  s.act fun s => if s.linkState i = lkUp ∧ (s.pack i).sagged ∧ 2500 < (s.pack i).vPack then s.enterIdent i else s

/-- An hour has passed since the last comparison, and E_REM has changed by more than 1 % of E_FULL since the last record (R208). -/
def State.hourOver (s : State) (i : Nat) : Bool := decide ((s.pack i).hourAt + 3600000000 ≤ s.us)
def State.healthMoved (s : State) (i : Nat) : Bool :=
  let e := s.rd64 (R.PACK_EREM_LO i) (R.PACK_EREM_HI i)
  decide (s.eFull i < 100 * ((e - (s.pack i).healthE) + ((s.pack i).healthE - e)))

/-- The hourly health record, when E_REM has changed by more than 1 % of E_FULL since the last one (R208). -/
def execPackHealthWrite (i : Fin 4) (restMv : Nat) (bad : Option (Fin 8)) (s : State) : Host.Outcome State Fault Refusal :=
  s.act fun s =>
    if !s.hourOver i then s else
    let s := s.setPack i { s.pack i with hourAt := s.us }
    if s.healthMoved i then s.writeHealth i restMv (bad.map (·.val)) else s

/-! Tilth (R211–R215). -/

def State.tilthState (s : State) (i : Nat) : Nat := s.f (R.PACK_TILTH_STATUS i) F.PACK_TILTH_STATUS_STATE
def State.tilthPoint (s : State) (i : Nat) : Nat := s.f (R.PACK_TILTH_STATUS i) F.PACK_TILTH_STATUS_POINT
def State.tilthPpd (s : State) (i : Nat) : Nat := min 7 (max 1 (s.f (R.PACK_TILTH_CFG i) F.PACK_TILTH_CFG_PPD))

/-- No soft start, reversal or hand-over touches a rail (R211). -/
def State.calmRail (s : State) (r : Nat) : Bool :=
  s.railSupply r != supHandover && (List.range 8).all (fun m =>
    !(s.stUsed m && (s.stFrom m == r || s.stTo m == r)) || (s.stageState m != stSoft && s.stageState m != stReversing))

/-- The stage that Tilth would perturb for a pack (R211): the pack's charging stage with loop B selected, or its stage into a
rail with SHARE = 1 on which another rank 0 stage delivers. -/
def State.tilthStage (s : State) (i : Nat) : Option Nat :=
  let chg := s.chState i == chCharging && s.profValid i && !pfExit (s.pack i).prof (s.phaseOf i) 3
    && !pfExit (s.pack i).prof (s.phaseOf i) 4
  (List.range 8).find? (fun n =>
    s.stUsed n && s.stageState n == stRun &&
      ((chg && s.stRecv n (s.stageDir n) == 8 + i && s.f (R.STAGE_STATUS n) F.STAGE_STATUS_SEL == 1
          && (!isRail (s.stSend n (s.stageDir n)) || s.calmRail (s.stSend n (s.stageDir n))))
        || (s.stSend n (s.stageDir n) == 8 + i && isRail (s.stRecv n (s.stageDir n))
            && s.flag (R.RAIL_CFG (s.stRecv n (s.stageDir n))) F.RAIL_CFG_SHARE
            && s.calmRail (s.stRecv n (s.stageDir n))
            && (s.stagesRunInto (s.stRecv n (s.stageDir n))).any (fun m => m != n && s.stageState m == stRun
                && (s.stage m).rank == 0 && decide (0 < (s.stage m).iOut)))))

/-- The applied amplitude A in mA, reduced to the effective limits; none where the point waits (R211). -/
def State.tilthAmp (s : State) (i : Nat) : Option Nat :=
  let want := s.f (R.PACK_TILTH_CFG i) F.PACK_TILTH_CFG_AMP * 10
  let idc := (s.pack i).iPack.natAbs
  let lim := if 0 ≤ (s.pack i).iPack then s.effICharge i else s.effIDischarge i
  let a := min want (lim - idc)
  if 2 * a < want ∨ idc < 2 * a then none else some a

/-- Tilth may perturb the pack now (R211). -/
def State.tilthOk (s : State) (i : Nat) : Bool :=
  s.profValid i && pfNormal (s.pack i).prof (s.zoneOf i) && (s.tilthStage i).isSome && (s.tilthAmp i).isSome
    && !s.anySafe && !s.safeOn

/-- MEASURING or WAITING, while a sweep runs. A point starts when the conditions of R211 come to hold, and where `fresh`: the point that they
end is discarded (R213). -/
def State.tilthShow (s : State) (i : Nat) (fresh : Bool) : State :=
  if s.tilthState i = 0 then s
  else if !s.tilthOk i then s.setF (R.PACK_TILTH_STATUS i) F.PACK_TILTH_STATUS_STATE 2
  else if fresh ∨ s.tilthState i ≠ 1 then
    (s.setF (R.PACK_TILTH_STATUS i) F.PACK_TILTH_STATUS_STATE 1).setPack i { s.pack i with pointAt := s.us }
  else s

/-- What Tilth adds at a control period to a stage's current reference (R211): a sine of amplitude A, whose phase is open (log 63). -/
def State.tilthSine (s : State) (n : Nat) : Int × State :=
  match (List.range 4).find? (fun i => s.tilthState i == 1 && s.tilthStage i == some n) with
  | none => (0, s)
  | some i =>
    let a := (s.tilthAmp i).getD 0
    let v := s.takeFree 32
    (((v.1 % (2 * a + 1) : Nat) : Int) - a, v.2)

/-- A point exists: f_k ≤ 2,000 Hz, k ≤ 31; and it is not skipped: f_k at most 1/20 of the stage's control rate (R212). -/
def State.pointUsed (s : State) (i k : Nat) : Bool :=
  let ppd := s.tilthPpd i
  decide (k ≤ 31 ∧ 10 ^ k ≤ 20000 ^ ppd) &&
    (match s.tilthStage i with
     | none => true
     | some n =>
       let per := max 1 (s.f (R.STAGE_PWM n) F.STAGE_PWM_PER) * (s.f (R.STAGE_PWM n) F.STAGE_PWM_CTRL_DIV + 1)
       decide (10 ^ k * (2 * per) ^ ppd ≤ 400000000 ^ ppd))

/-- A sweep starts (R215); one that runs goes on. -/
def State.startSweep (s : State) (i : Nat) : State :=
  if s.tilthState i ≠ 0 then s
  else
    let s := (s.setF (R.PACK_TILTH_STATUS i) F.PACK_TILTH_STATUS_STATE 2).setF (R.PACK_TILTH_STATUS i)
      F.PACK_TILTH_STATUS_POINT 0
    let s := s.setF (R.PACK_TILTH_STATUS i) F.PACK_TILTH_STATUS_POINTS 0
    (s.setPack i { s.pack i with ampFails := 0, sweepAt := s.us, derT := 0 }).tilthShow i true

def execTilthStart (_ : Path) (i : Fin 4) (s : State) : Host.Outcome State Fault Refusal :=
  s.act fun s => s.startSweep i

/-- INTERVAL_H hours after the last COMPLETE sweep (R215), where scheduled sweeps are on. -/
def execTilthIntervalExpiry (i : Fin 4) (s : State) : Host.Outcome State Fault Refusal :=
  s.act fun s =>
    let h := s.f (R.PACK_TILTH_CFG i) F.PACK_TILTH_CFG_INTERVAL_H
    let last := s.absTime (s.rd64 (R.PACK_TILTH_TIME_LO i) (R.PACK_TILTH_TIME_HI i))
    if s.flag (R.PACK_TILTH_CFG i) F.PACK_TILTH_CFG_EN ∧ h ≠ 0 ∧ last + h * 3600000000 ≤ s.us then s.startSweep i else s

def execTilthAbort (_ : Path) (i : Fin 4) (s : State) : Host.Outcome State Fault Refusal :=
  s.act fun s => s.endSweep i 2 false

/-- D_IMP of R214. -/
def dImpOf (r25 rnew reol dEol : Nat) : Nat :=
  if r25 ≤ rnew then 1024 else if r25 ≥ reol then dEol else 1024 - (1024 - dEol) * (r25 - rnew) / (reol - rnew)

/-- The last point has completed (R214). -/
def State.sweepComplete (s : State) (i : Nat) : State :=
  let k := s.f (R.PACK_TILTH_DER i) F.PACK_TILTH_DER_F_DER
  let r := toSigned 32 (s.rdN (R.PACK_Z_RE i k))
  let den : Int := 100000 + (s.f (R.PACK_TILTH_TCR i) F.PACK_TILTH_TCR_TCR : Nat) * (250 - (s.pack i).derT)
  if r ≤ 0 ∨ den ≤ 0 then s.endSweep i 2 true
  else
    let r25 := natOf (r * 100000 / den)
    let rnew := s.rdN (R.PACK_TILTH_RNEW i)
    let reol := s.rdN (R.PACK_TILTH_REOL i)
    let s := s.endSweep i 1 false
    let s := (s.wrN (R.PACK_TILTH_R25 i) r25).setPack i { s.pack i with
      dImp := dImpOf r25 rnew reol (s.f (R.PACK_TILTH_DER i) F.PACK_TILTH_DER_D_EOL), impKnown := true }
    let s := s.setF (R.PACK_SOH i) F.PACK_SOH_SOH_R (min 1024 (1024 * rnew / r25))
    let s := s.wr64 (R.PACK_TILTH_TIME_LO i) (R.PACK_TILTH_TIME_HI i) s.now48
    let s := s.writeHealth i (s.pack i).vPack none
    if r25 ≥ reol then s.raise 0x46 i (faultRec r25 reol) else s

/-- The point has settled for one period and measured over NCYC periods of f_k (R212). -/
def State.pointOver (s : State) (i : Nat) : Bool :=
  let ppd := s.tilthPpd i
  let n := max 1 (s.f (R.PACK_TILTH_CFG i) F.PACK_TILTH_CFG_NCYC)
  decide (((1 + n) * 10000000) ^ ppd ≤ (s.us - (s.pack i).pointAt) ^ ppd * 10 ^ s.tilthPoint i)

/-- Z_k in µΩ: the ratio of the voltage and the current components (R212); how it is rounded is open. -/
def State.pointZ (s : State) (o : TilthObs) : Int × Int × State :=
  let d := (o.iRe * o.iRe + o.iIm * o.iIm).toNat
  let a := s.quot (1000 * (o.vRe * o.iRe + o.vIm * o.iIm)) d
  let b := a.2.quot (1000 * (o.vIm * o.iRe - o.vRe * o.iIm)) d
  (a.1, b.1, b.2)

/-- A measurement point ends (R212, R213): stored, or discarded and repeated; a second failure on amplitude aborts. -/
def execTilthPointDone (i : Fin 4) (o : TilthObs) (s : State) : Host.Outcome State Fault Refusal :=
  s.act fun s =>
    let amp : Int := ((s.tilthAmp i).getD 0 : Nat)
    if s.tilthState i ≠ 1 then s
    else if !s.tilthOk i then s.tilthShow i false
    else if !s.pointOver i then s
    else if 4 * (o.iRe * o.iRe + o.iIm * o.iIm) < amp * amp then
      if 1 ≤ (s.pack i).ampFails then s.endSweep i 2 true
      else (s.setPack i { s.pack i with ampFails := (s.pack i).ampFails + 1 }).tilthShow i true
    else
      let k := s.tilthPoint i
      let z := s.pointZ o
      let s := (z.2.2.wrN (R.PACK_Z_RE i k) (ofSigned 32 z.1)).wrN (R.PACK_Z_IM i k) (ofSigned 32 z.2.1)
      let s := s.addF (R.PACK_TILTH_STATUS i) F.PACK_TILTH_STATUS_POINTS 1
      let s := s.setPack i { s.pack i with
        ampFails := 0
        derT := if k = s.f (R.PACK_TILTH_DER i) F.PACK_TILTH_DER_F_DER then
            toSigned 16 (s.f (R.PACK_TEMP i) F.PACK_TEMP_T_ZONE) else (s.pack i).derT }
      match ((List.range 32).filter (fun q => decide (k < q))).find? (s.pointUsed i) with
      | some q => (s.setF (R.PACK_TILTH_STATUS i) F.PACK_TILTH_STATUS_POINT q).tilthShow i true
      | none => s.sweepComplete i

/-- A sweep that is not complete 900 s after its start (R213). -/
def execTilthTimeout (i : Fin 4) (s : State) : Host.Outcome State Fault Refusal :=
  s.act fun s => if (s.pack i).sweepAt + 900000000 ≤ s.us then s.endSweep i 3 true else s

/-! CAN ports (R220). -/

/-- A CAN port goes bus-off. -/
def execCanBusOff (n : Fin 2) (s : State) : Host.Outcome State Fault Refusal :=
  s.act fun s =>
    if s.flag (R.CAN_CFG n) F.CAN_CFG_EN ∧ s.f (R.CAN_STATUS n) F.CAN_STATUS_STATE ≠ 2 then
      ((s.setF (R.CAN_STATUS n) F.CAN_STATUS_STATE 2).bump (R.CAN_STATUS n) F.CAN_STATUS_BO_CNT 1).raise 0x4E n []
    else s

/-- The port is error active again (ISO 11898-1; log 29). -/
def State.leaveBusOff (s : State) (n : Nat) : State := s.setF (R.CAN_STATUS n) F.CAN_STATUS_STATE 0

/-- 128 occurrences of 11 recessive bits have passed: with AUTO_BO = 1 the port recovers; with AUTO_BO = 0 it waits for a
write of EN. -/
def execCanBusOffRecovery (n : Fin 2) (s : State) : Host.Outcome State Fault Refusal :=
  s.act fun s =>
    if s.f (R.CAN_STATUS n) F.CAN_STATUS_STATE = 2 ∧ s.flag (R.CAN_CFG n) F.CAN_CFG_AUTO_BO then s.leaveBusOff n else s

end Sys2Proof.Machine
end

