-- ==== Sys2Proof/Machine/Pwm.lean ====
section
/-! DEFINITION. Phases, PWM timing and the channel outputs (spec/04_power_stages.md R105–R111, R118, R119, R122–R124). The timebase counts
CLK_PWM, four counts in each CLK_SYS cycle; a master period starts wherever MB_PER divides the count (R108). -/

namespace Sys2Proof.Machine

/-! Phase roles (R105). -/

/-- The stage that owns a channel. -/
def State.ownerOf (s : State) (hb : Nat) : Option Nat :=
  (List.range 8).find? (fun n => s.stUsed n && bitsOf (s.stHb n) hb 1 == 1)

/-- The channels of phase p: one, or leg A and leg B of a buck-boost stage. -/
def State.phaseChans (s : State) (n p : Nat) : List Nat :=
  let l := hbList (s.stHb n)
  if s.stTopo n = 3 then (l.drop (2 * p)).take 2 else (l.drop p).take 1

/-- The place of a channel among its stage's channels. -/
def State.chanIndex (s : State) (n hb : Nat) : Nat := (hbList (s.stHb n)).findIdx (fun k => k == hb)

/-- The phase of a channel, and whether it is leg B. -/
def State.chanPhase (s : State) (n hb : Nat) : Nat := if s.stTopo n = 3 then s.chanIndex n hb / 2 else s.chanIndex n hb
def State.legB (s : State) (n hb : Nat) : Bool := s.stTopo n == 3 && s.chanIndex n hb % 2 == 1

/-- The node to which a channel's high-side switch connects. -/
def State.highSide (s : State) (n hb : Nat) : Nat :=
  if s.stTopo n = 2 ∨ s.legB n hb then s.stTo n else s.stFrom n

/-! Counters (R107–R109). -/

def State.stPer (s : State) (n : Nat) : Nat := s.f (R.STAGE_PWM n) F.STAGE_PWM_PER

/-- The counts of CLK_PWM in a control period (R112). -/
def State.ctlCounts (s : State) (n : Nat) : Nat := 2 * s.stPer n * (s.f (R.STAGE_PWM n) F.STAGE_PWM_CTRL_DIV + 1)

/-- Phase p's valley after that of phase 0, in whole counts (R109). -/
def State.phaseOfs (s : State) (n p : Nat) : Nat := 2 * s.stPer n * p / s.stPhases n

/-- The counts since the last valley of phase p: phase 0's falls PHASE_OFS after the start of a master period (R108). -/
def State.pwmPos (s : State) (n p : Nat) : Nat :=
  let t := 2 * s.stPer n
  (4 * s.cyc + 2 * t - (s.f (R.STAGE_PWM_OFS n) F.STAGE_PWM_OFS_PHASE_OFS % t) - (s.phaseOfs n p % t)) % t

/-- The up/down counter of phase p: from 0 to PER and back (R107). -/
def State.pwmCount (s : State) (n p : Nat) : Nat :=
  if s.pwmPos n p ≤ s.stPer n then s.pwmPos n p else 2 * s.stPer n - s.pwmPos n p

/-- The number of phase 0's switching periods before the present one. -/
def State.pwmPeriod (s : State) (n : Nat) : Nat :=
  let t := 2 * s.stPer n
  (4 * s.cyc + t - (s.f (R.STAGE_PWM_OFS n) F.STAGE_PWM_OFS_PHASE_OFS % t)) / t

/-- The cycles to the next valley and to the next valley or peak of phase p. -/
def State.toValley (s : State) (n p : Nat) : Nat := ceilDiv (2 * s.stPer n - s.pwmPos n p) 4
def State.toTurn (s : State) (n p : Nat) : Nat :=
  if s.pwmPos n p < s.stPer n then ceilDiv (s.stPer n - s.pwmPos n p) 4 else s.toValley n p

/-- A peak of phase 0 falls within the present cycle. -/
def State.peakNow (s : State) (n : Nat) : Bool :=
  decide (s.pwmPos n 0 ≤ s.stPer n ∧ s.stPer n < s.pwmPos n 0 + 4)

/-- A control period ends at this cycle (R112): a phase 0 peak, CTRL_DIV + 1 switching periods after the last one sampled. -/
def State.ctlDue (s : State) (n : Nat) : Bool :=
  s.peakNow n && decide ((s.stage n).ctlAt = 0 ∨ s.ctlCounts n ≤ 4 * (s.cyc - (s.stage n).ctlAt) + 3)

/-! Outputs (R110, R118, R119, R123). -/

/-- The compare that a channel's pulse has now: a new one holds for a phase from its own valley on (R111). -/
def State.chanCmp (s : State) (n hb : Nat) : Nat :=
  let r := s.stage n
  let fresh := decide (r.cmpAt + ceilDiv (s.phaseOfs n (s.chanPhase n hb)) 4 ≤ s.cyc)
  if s.legB n hb then (if fresh then r.cmpB else r.cmpWas.getD 1 0)
  else if fresh then s.f (R.STAGE_DUTY n) F.STAGE_DUTY_CMP else r.cmpWas.headD 0

/-- The level of HB_n_PWM (R110): high while the counter is below the compare, whose fine part widens the pulse; a comparator or diode
emulation may end it until the next valley or peak; the channels of a stage that does not switch are released, in a Safe-state all are
low (R37), and while a reset is asserted all are released (R400). -/
def State.pinPwm (s : State) (hb : Nat) : PwmLevel :=
  if s.sys.power = .hold then .released
  else if s.safeOn then .low
  else
    match s.ownerOf hb with
    | none => .released
    | some n =>
      if !s.stageRuns n then .released
      else
        match (s.stage n).cuts.find? (fun c => c.hb == hb && decide (s.cyc < c.until_)) with
        | some c => c.level
        | none => if 16 * s.pwmCount n (s.chanPhase n hb) < s.chanCmp n hb then .high else .low

/-- The counts, in sixteenths, since the last edge of a channel that switches. -/
def State.sinceEdge (s : State) (n hb : Nat) : Nat :=
  let pos := 16 * s.pwmPos n (s.chanPhase n hb)
  let w := s.chanCmp n hb
  let t := 32 * s.stPer n
  if pos < w then pos + w else if pos + w < t then pos - w else pos + w - t

/-- The current of a channel's IMON voltage times its gain, in the present direction of its stage (R122). -/
def State.flowOf (s : State) (n mv : Nat) : Int :=
  let x : Int := ((mv : Int) - s.f (R.STAGE_IMON n) F.STAGE_IMON_IMON_OFFSET) * 1000000
  if s.stageDir n then -x else x

/-- A level of a channel makes the current in the stage's direction rise. -/
def State.rises (s : State) (n hb : Nat) (lv : PwmLevel) : Bool :=
  ((s.highSide n hb == s.stFrom n) == (lv == .high)) != s.stageDir n

/-- IMON crosses the threshold of the switch that conducts, outside the blank after an edge (R123). -/
def State.cbcHit (s : State) (n hb mv : Nat) : Bool :=
  let lv := s.pinPwm hb
  let gain : Int := s.f (R.STAGE_IMON n) F.STAGE_IMON_IMON_GAIN
  let cut := (s.stage n).cuts.any (fun c => c.hb == hb && decide (s.cyc < c.until_))
  lv != .released && !cut && decide (16 * s.f (R.STAGE_CBC_CFG n) F.STAGE_CBC_CFG_LEB ≤ s.sinceEdge n hb)
    && (if s.rises n hb lv then decide ((s.f (R.STAGE_CBC n) F.STAGE_CBC_CBC_POS * 100 : Nat) * gain ≤ s.flowOf n mv)
        else decide (s.flowOf n mv ≤ -((s.f (R.STAGE_CBC n) F.STAGE_CBC_CBC_NEG * 100 : Nat) * gain)))

/-- A channel holds a level for some cycles. -/
def State.cutChan (s : State) (n hb : Nat) (lv : PwmLevel) (cycles : Nat) : State :=
  let old := (s.stage n).cuts.filter (fun c => c.hb != hb && decide (s.cyc < c.until_))
  s.setStage n { s.stage n with cuts := ⟨hb, s.cyc + cycles, lv⟩ :: old }

/-- The comparator ends the present pulse of a channel (R123): the opposite level until the next valley or peak; at a valley the pulse that
begins there is suppressed (R126). The switching period counts as limited (R124). -/
def State.cbcCut (s : State) (n hb : Nat) : State :=
  let p := s.chanPhase n hb
  let s := if s.pwmPos n p = 0 then s.cutChan n hb .low (s.toValley n p)
    else s.cutChan n hb (if s.pinPwm hb = .high then .low else .high) (s.toTurn n p)
  let r := s.stage n
  let k := s.pwmPeriod n
  let run := match r.cbcLast with
    | some j => if j = k then r.cbcRun else if j + 1 = k then r.cbcRun + 1 else 1
    | none => 1
  (s.setF (R.STAGE_STATUS n) F.STAGE_STATUS_CBC_ACT 1).setStage n { r with cbcLast := some k, cbcRun := run }

/-- The comparator has limited one of the last `m` switching periods, the present one among them. -/
def State.cbcWithin (s : State) (n m : Nat) : Bool :=
  match (s.stage n).cbcLast with
  | some j => decide (s.pwmPeriod n < j + m)
  | none => false

/-- Diode emulation (R118): the channels of a phase whose current has fallen to zero are released until the next valley; `imon`: the
samples in phase order. -/
def State.emulate (s : State) (n : Nat) (imon : List Nat) : State :=
  (imon.zipIdx).foldl (fun s x =>
    if s.flowOf n x.1 ≤ 0 then
      (s.phaseChans n x.2).foldl (fun s hb => s.cutChan n hb .released (s.toValley n x.2)) s
    else s) s

/-- Every channel of a stage is released until the next valley (R119, step 2). -/
def State.releaseChans (s : State) (n : Nat) : State :=
  (hbList (s.stHb n)).foldl (fun s hb => s.cutChan n hb .released (s.toValley n 0)) s

/-! Preloads (R111) and the conversion budget (R112). -/

/-- The compares preloaded last take effect. -/
def State.copyCmp (s : State) (n : Nat) : State :=
  match (s.stage n).cmpNext with
  | [] => s
  | a :: t =>
    let was := [s.f (R.STAGE_DUTY n) F.STAGE_DUTY_CMP, (s.stage n).cmpB]
    (s.setF (R.STAGE_DUTY n) F.STAGE_DUTY_CMP a).setStage n
      { s.stage n with cmpNext := [], cmpB := t.headD 0, cmpWas := was, cmpAt := s.cyc }

/-- R107, R108: PER in its range, and 2 × PER divides MB_PER. -/
def State.perOk (s : State) (per : Nat) : Bool :=
  decide (333 ≤ per ∧ per ≤ 4000) && s.f R.STG_TIMEBASE F.STG_TIMEBASE_MB_PER % (2 * per) == 0

/-- R112: the control rate and the conversion budget, with stage `n` running at `per`. -/
def State.budgetOk (s : State) (n per : Nat) : Bool :=
  let d := s.f (R.STAGE_PWM n) F.STAGE_PWM_CTRL_DIV + 1
  let others := ((List.range 8).filter (fun m => m != n && s.stageRuns m)).map s.stageRate
  let sum := rateSum (((2 + s.stPhases n) * 400000, max 1 per * d) :: others)
  decide (800 ≤ per * d) && decide (sum.1 ≤ 12000 * sum.2)

end Sys2Proof.Machine
end

