-- ==== Sys2Proof/Machine/Stages.lean ====
section
/-! DEFINITION. The stage controllers, the rail references and the pin-commanded rails (spec/04_power_stages.md R105–R140). -/

namespace Sys2Proof.Machine

/-! Coefficients (R114–R117, R138–R140). -/

/-- The shadow set: the coefficient registers, loop A B0–B3 and A1–A3, then B0 and B1 of loops B, C and D. -/
def coefRegs (n : Nat) : List Nat :=
  [R.STAGE_LOOP_A_B n 0, R.STAGE_LOOP_A_B n 1, R.STAGE_LOOP_A_B n 2, R.STAGE_LOOP_A_B n 3, R.STAGE_LOOP_A_A n 1,
   R.STAGE_LOOP_A_A n 2, R.STAGE_LOOP_A_A n 3, R.STAGE_LOOP_B_B0 n, R.STAGE_LOOP_B_B1 n, R.STAGE_LOOP_C_B0 n,
   R.STAGE_LOOP_C_B1 n, R.STAGE_LOOP_D_B0 n, R.STAGE_LOOP_D_B1 n]

def State.shadow (s : State) (n : Nat) : List Int := (coefRegs n).map (fun r => toSigned 32 (s.rdN r))

/-- The shadow set becomes the active set (R117). -/
def State.applyShadow (s : State) (n : Nat) : State :=
  s.setStage n { s.stage n with coef := s.shadow n, applyPend := false }

/-- The set of the image that a stage names for a direction, if it exists and fits the stage (R140). -/
def State.findSet (s : State) (n : Nat) (rev : Bool) (id : Nat) : Option (List Byte) :=
  if s.flag R.LOOPTAB_STATUS F.LOOPTAB_STATUS_VALID then
    s.loopSets.find? (fun b =>
      let per := s.stPer n
      leAt b 0 2 == id && leAt b 2 1 == s.stTopo n && leAt b 3 1 == boolNat rev
        && decide (leAt b 4 2 * per ≤ 400000 ∧ 400000 ≤ leAt b 6 2 * per))
  else none

def State.setName (s : State) (n : Nat) (rev : Bool) : Nat :=
  if rev then s.f (R.STAGE_LOOPSET n) F.STAGE_LOOPSET_SET_REV else s.f (R.STAGE_LOOPSET n) F.STAGE_LOOPSET_SET_FWD

/-- The set for a direction is loaded into the shadow and active coefficients; none where R140 refuses it. A set name of 0x3F
uses the registers as written. -/
def State.loadSet (s : State) (n : Nat) (rev : Bool) : Option State :=
  let id := s.setName n rev
  if id = 0x3F then some (s.applyShadow n)
  else
    (s.findSet n rev id).map (fun b =>
      let s := ((coefRegs n).zipIdx).foldl (fun s x => s.wrN x.1 (leAt b (8 + 4 * x.2) 4)) s
      let s := if (s.stage n).applyPend then s.hwSet (R.STAGE_STATUS n) F.STAGE_STATUS_APPLY_LOST 1 else s
      s.applyShadow n)

/-! Nodes and references (R115, R127, R128, R87). -/

/-- A node's voltage from what is measured (R127): of a rail the feedback pin pair's differential voltage in µV, of at most 1,500 mV,
times FB_DIV / 256; of any other node mV. -/
def State.measured (s : State) (node raw : Nat) : Nat × State :=
  if isRail node then
    let q := s.quot ((min raw 1500000 * s.f (R.RAIL_FB node) F.RAIL_FB_FB_DIV : Nat) : Int) 256000
    (natOf q.1, q.2)
  else (raw, s)

/-- The measured voltage of a node (R127). -/
def State.nodeMv (s : State) (node : Nat) : Nat :=
  if isRail node then s.f (R.RAIL_VFB node) F.RAIL_VFB_V
  else if isPack node then (s.pack (node - 8)).vPack
  else if isPort node then s.f (R.PORT_VBUS (node - 12)) F.PORT_VBUS_V
  else s.f (R.INPUT_STATUS (node - 16)) F.INPUT_STATUS_V

def State.railRef (s : State) (r : Nat) : Nat := s.f (R.RAIL_STATUS r) F.RAIL_STATUS_REF

/-- The slew that applies to a rail, in mV per tick (0.1 V/ms): its VSEL entry's or its own; 0 acts as 1 (R128, R134). -/
def State.railSlew (s : State) (r : Nat) : Nat :=
  max 1 (match s.vselOf r with
    | some g => s.f (R.VSEL_SP g (s.f (R.VSEL_CFG g) F.VSEL_CFG_ACTIVE)) F.VSEL_SP_SLEW
    | none => s.f (R.RAIL_CFG r) F.RAIL_CFG_SLEW)

/-- An order sets a rail's reference (R87): DELIVER or HOLD on it. -/
def Slot.setsRef (p : Slot) (r : Nat) : Bool :=
  (p.order.op == opDeliver || p.order.op == opHold) && p.order.target == r

/-- Its interval has begun. -/
def State.begun (s : State) (p : Slot) : Bool := p.active || decide (p.tIn ≤ s.us)

/-- The slew toward its window must have started for the reference to lie in the window at t_in. -/
def State.slewDue (s : State) (r : Nat) (p : Slot) : Bool :=
  let ref := s.railRef r
  let dist := (p.order.vMin - ref) + (ref - p.order.vMax)
  dist != 0 && decide (p.tIn ≤ s.us + 10 * ceilDiv dist (s.railSlew r))

/-- The middle of the intersection of some windows; none where there is none. -/
def windowMid (l : List Slot) : Option Nat :=
  if l.isEmpty then none
  else
    let lo := l.foldl (fun a p => max a p.order.vMin) 0
    let hi := l.foldl (fun a p => min a p.order.vMax) 65535
    if lo ≤ hi then some ((lo + hi) / 2) else none

/-- The target of a rail's reference (R127): its VSEL group's, the rule of R87, or its default setpoint. -/
def State.railTarget (s : State) (r : Nat) : Nat :=
  match s.vselOf r with
  | some g => s.f (R.VSEL_SP g (s.f (R.VSEL_CFG g) F.VSEL_CFG_ACTIVE)) F.VSEL_SP_SP
  | none =>
    let all := (s.plan.map (·.2)).filter (fun p => p.setsRef r)
    let now := all.filter s.begun
    let soon := all.filter (fun p => s.begun p || s.slewDue r p)
    match windowMid soon, windowMid now with
    | some v, _ => v
    | none, some v => v
    | none, none => s.f (R.RAIL_SP r) F.RAIL_SP_DEF_SP

/-- The stage of a rail that is in soft start (R130). -/
def State.softStage (s : State) (r : Nat) : Option Nat :=
  (List.range 8).find? (fun n => s.stageState n == stSoft && s.stageRail n == some r)

/-- The reference of a stage (R127, R128). -/
def State.stageRef (s : State) (n : Nat) : Nat :=
  let node := s.stRecv n (s.stageDir n)
  if isRail node then
    (if s.flag (R.RAIL_CFG node) F.RAIL_CFG_SHARE then s.railRef node
     else s.railRef node - (s.stage n).rank * s.f (R.RAIL_CFG node) F.RAIL_CFG_LADDER_MV * 10)
  else if isPack node then s.vSet (node - 8)
  else (s.port (node - 12)).refMv

/-- The part of a source's qualified limit that loop C of a stage uses (R146). -/
def State.limitShare (s : State) (n x : Nat) : Nat :=
  let all := ((s.stagesOutOf (supNode x)).map s.stageCeil).foldl (· + ·) 0
  if all = 0 then 0 else s.supLimit x * s.stageCeil n / all

/-- The reference of loop C, mA; none where the stage is fed from a rail (R115). -/
def State.iInRef (s : State) (n : Nat) : Option Nat :=
  let node := s.stSend n (s.stageDir n)
  if isPack node then some (s.pack (node - 8)).dRef
  else (supOfNode node).map (s.limitShare n)

/-- I_total of R128: the output currents of a rail's stages of rank 0. -/
def State.iTotal (s : State) (r : Nat) : Int :=
  (((s.stagesRunInto r).filter (fun n => s.stageRuns n && (s.stage n).rank == 0)).map (fun n => (s.stage n).iOut)).foldl (· + ·) 0

/-- The current that an ABSORB asks of a stage (R84), of which `most` is its ceiling's: all that the order's cap and the pack's planning
current (R191) allow while the rail is at or above V_MAX, none at or below V_MIN; between them how much is open (log 1). -/
def State.absorbRef (s : State) (n vCtl vSend : Nat) (most : Int) : Int × State :=
  match s.absorbOn n (s.stageDir n) with
  | none => (0, s)
  | some p =>
    let o := p.order
    let node := s.stRecv n (s.stageDir n)
    let q := s.quot ((o.cap * 1000 : Nat) : Int) vCtl
    let full := max 0 (min most q.1)
    let full := if isPack node then min full (if s.noPlanCharge (node - 8) then 0 else (s.iPlan (node - 8)).getD 0 : Nat) else full
    if vSend ≤ o.vMin then (0, q.2)
    else if o.vMax ≤ vSend then (full, q.2)
    else
      let v := q.2.takeFree 32
      ((v.1 : Int) % (full + 1), v.2)

/-- The reference of loop B before a ramp, mA (R115, R128); I_SET is divided among the stages that charge a pack in proportion to their
ceilings (R167); an ABSORB may ask for more (R84); a port as Source
limits it (R242); Tilth adds its sine (R211). -/
def State.iOutRef (s : State) (n vCtl vSend : Nat) : Int × State :=
  let node := s.stRecv n (s.stageDir n)
  let q := s.quot ((s.stageCeil n * 1000 : Nat) : Int) vCtl
  let s := q.2
  let a := max 0 q.1
  let h := if isPack node then
      s.quot ((s.iSet (node - 8) * s.stageCeil n : Nat) : Int) (((s.stagesRunInto node).map s.stageCeil).foldl (· + ·) 0)
    else (0, s)
  let s := if isPack node ∧ s.stageCeil n ≠ 0 then h.2 else s
  let ab := if isPack node then s.absorbRef n vCtl vSend a else (0, s)
  let s := ab.2
  let a := if isPack node then
      min a (min (max ab.1 (if s.stageCeil n = 0 then 0 else h.1)) (s.f (R.ENV_PACK_ILIM (node - 8)) F.ENV_PACK_ILIM_ICHG_MAX * 10 : Nat))
    else a
  let p := if isPort node then s.portLimit (node - 12) else (none, s)
  let s := p.2
  let a := match p.1 with | some l => min a (l : Int) | none => a
  let z := s.tilthSine n
  if isRail node && s.flag (R.RAIL_CFG node) F.RAIL_CFG_SHARE then
    let w := z.2.quot ((s.stage n).weight * max 0 (s.iTotal node)) 1024
    (min a (w.1 + z.1), w.2)
  else (a + z.1, z.2)

/-! The modulator (R113). -/

/-- The largest compare: h_max × 16 × PER. -/
def State.cmpMax (s : State) (n : Nat) : Nat := 16 * s.stPer n - 8 * s.f (R.STAGE_MOD n) F.STAGE_MOD_T_MINOFF

/-- The compare of a high fraction `num / den`: nearest sixteenth, ties up, clamped; a boost-acting channel holds h ≥ 0.08. A
fraction without a denominator is a free value (log 1). -/
def State.cmpOf (s : State) (n num den : Nat) (boost : Bool) : Nat × State :=
  let top := s.cmpMax n
  let low := if boost then (64 * s.stPer n + 25) / 50 else 0
  if den = 0 then
    let v := s.takeFree 20
    (max low (v.1 % (top + 1)), v.2)
  else (max low (min top ((2 * num * 16 * s.stPer n + den) / (2 * den))), s)

/-- The compares of leg A (or the only channel) and leg B, for a command `u` in 2^-20 mV and the sending node's mV. -/
def State.modulate (s : State) (n : Nat) (rev : Bool) (u vs : Nat) : Nat × Nat × State :=
  let v := vs * 2 ^ 20
  if s.stTopo n = 3 then
    let hn := 2 * s.stPer n - s.f (R.STAGE_MOD n) F.STAGE_MOD_T_MINOFF
    let hd := 2 * s.stPer n
    let capped := decide (hn * v < u * hd)
    let a := s.cmpOf n u v false
    let b := if capped then a.2.cmpOf n (v * hn) (u * hd) true else a.2.cmpOf n (if u = 0 ∨ v = 0 then 0 else 1) (if u = 0 ∨ v = 0 then 0 else 1) true
    if rev then (b.1, a.1, b.2) else (a.1, b.1, b.2)
  else
    let boost := (s.stTopo n == 2) != rev
    let a := if boost then s.cmpOf n v u true else s.cmpOf n u v false
    (a.1, 0, a.2)

/-! Moves of the state machine (R118–R120, R130). -/

/-- Histories preset so that u equals a measured voltage. -/
def State.presetHist (s : State) (n mv : Nat) : State :=
  let u : Int := mv * 2 ^ 20
  s.setStage n { s.stage n with uHist := [u, u, u], eA := [0, 0, 0], eB := 0, eC := 0, eD := 0, satCnt := 0 }

/-- The compares of the present command are preloaded for the next valley (R111). -/
def State.preload (s : State) (n : Nat) : State :=
  let rev := s.stageDir n
  let m := s.modulate n rev (natOf ((s.stage n).uHist.headD 0)) (s.nodeMv (s.stSend n rev))
  m.2.2.setStage n { m.2.2.stage n with cmpNext := [m.1, m.2.1], valleyAt := s.cyc + s.toValley n 0 }

/-- The stage enters RUN with the controlled node in regulation: diode emulation until the next tick. -/
def State.enterRun (s : State) (n : Nat) (rev : Bool) : State :=
  let s := (s.setStageState n stRun).setF (R.STAGE_STATUS n) F.STAGE_STATUS_DIR (boolNat rev)
  let s := (s.setF (R.STAGE_STATUS n) F.STAGE_STATUS_DE 1).presetHist n (s.nodeMv (s.stRecv n rev))
  ((s.setStage n { s.stage n with resume := 1, zeroTicks := 0, autoTurn := false, dirWant := rev }).preload n).showLoad

/-- Soft start from the measured voltage toward the rail's target (R130, R137). -/
def State.enterSoft (s : State) (n r : Nat) (rev : Bool) : State :=
  let v := s.f (R.RAIL_VFB r) F.RAIL_VFB_V
  let s := (s.setStageState n stSoft).setF (R.STAGE_STATUS n) F.STAGE_STATUS_DIR (boolNat rev)
  let s := (s.setF (R.STAGE_STATUS n) F.STAGE_STATUS_DE 1).presetHist n v
  let s := s.setF (R.RAIL_STATUS r) F.RAIL_STATUS_REF v
  let s := s.setStage n { s.stage n with ssTarget := s.railTarget r, ssStart := v, ssAcc := 0, ssDone := false, zeroTicks := 0,
                                         autoTurn := false, dirWant := rev }
  (s.preload n).showLoad

/-- Whether a stage may start at all, without a fault of its own: the fabric serves, the envelope is committed, its CBC limit is
set, nothing holds it or a group of its channels (R121, R125, R326, CBC_POS). -/
def State.mayStart (s : State) (n : Nat) : Bool :=
  s.fabricServes && s.stUsed n && s.stageState n == stReady && !s.heldStage n && !s.anySafe && !s.safeOn && s.envValid
    && s.f (R.STAGE_CBC n) F.STAGE_CBC_CBC_POS != 0 && s.inRun
    && (List.range 4).all (fun g => !(s.stInGroup n g && s.groupHeld g))

/-- The refusal of a start under R108, R112 and R326: observed value and limit of fault 0x26. -/
def State.startBad (s : State) (n : Nat) (rev : Bool) : Option (Nat × Nat) :=
  let node := s.stRecv n rev
  let per := s.stPer n
  if isRail node && decide (s.f (R.ENV_RAIL node) F.ENV_RAIL_RVMAX < s.nodeVmax node) then
    some (s.f (R.ENV_RAIL node) F.ENV_RAIL_RVMAX, s.nodeVmax node)
  else if !s.perOk per then some (per, s.f R.STG_TIMEBASE F.STG_TIMEBASE_MB_PER)
  else if !s.budgetOk n per then some ((s.stageRate n).1 / (s.stageRate n).2, 12000)
  else none

/-- A stage leaves READY (R108, R112, R140): refused with 0x26, or with 0x24 where its coefficient set is refused; else `go` follows the load
of the set. -/
def State.leaveReady (s : State) (n : Nat) (rev : Bool) (go : State → State) : State :=
  match s.startBad n rev with
  | some (o, l) => s.raise 0x26 n (faultRec o l)
  | none =>
    match s.loadSet n rev with
    | none => s.raise 0x24 n (leBytes 4 (s.setName n rev))
    | some s => go s

/-- A READY stage starts in a direction (R120), into RUN or SOFT_START. On a rail that is not in regulation only its rank 0 stage starts,
and one at a time (R130). -/
def State.startStage (s : State) (n : Nat) (rev : Bool) : State :=
  let node := s.stRecv n rev
  let reg := !isRail node || s.flag (R.RAIL_STATUS node) F.RAIL_STATUS_PGOOD
  if !s.mayStart n then s
  else if !reg && ((s.stage n).rank != 0 || (s.stagesInto node).any (fun m => s.stageRuns m && s.stageRail m == some node)) then s
  else s.leaveReady n rev (fun s => if reg then s.enterRun n rev else s.enterSoft n node rev)

/-! The control law (R112–R118). -/

/-- Output and input current in the present direction, mA (R115): from the sum of the phase currents, which counts positive from
FROM to TO. -/
def State.ioCurrents (s : State) (n : Nat) (il : Int) : Int × Int × State :=
  let rev := s.stageDir n
  let i := if rev then -il else il
  let full := 16 * s.stPer n
  let ca := s.f (R.STAGE_DUTY n) F.STAGE_DUTY_CMP
  let cb := (s.stage n).cmpB
  if s.stTopo n = 3 then
    let buck := if rev then cb else ca
    let boost := if rev then ca else cb
    let o := s.quot (i * boost) full
    let q := o.2.quot (i * buck) full
    (o.1, q.1, q.2)
  else
    let q := s.quot (i * ca) full
    if (s.stTopo n == 2) != rev then (q.1, i, q.2) else (i, q.1, q.2)

/-- Loop A before the selection, in 2^-20 mV; a sum beyond the 48-bit precision is a free value (R114; log 1). -/
def State.loopA (s : State) (c e uh : List Int) : Int × State :=
  let be := (List.range 4).foldl (fun a k => a + c.getD k 0 * e.getD k 0) 0
  let au := (List.range 3).foldl (fun a k => a + c.getD (4 + k) 0 * uh.getD k 0) 0
  let q := s.quot au (2 ^ 20)
  let x := be + q.1
  if -(2 ^ 47) ≤ x ∧ x < 2 ^ 47 then (x, q.2)
  else
    let v := q.2.takeFree 48
    (toSigned 48 v.1, v.2)

/-- A limit loop (R115): none where its coefficients are zero or it has no reference. -/
def limitLoop (c : List Int) (k : Nat) (u e e1 : Int) : Option Int :=
  let b0 := c.getD k 0
  let b1 := c.getD (k + 1) 0
  if b0 = 0 ∧ b1 = 0 then none else some (u + b0 * e + b1 * e1)

/-- The lowest command and its loop; an equal command of a later loop does not win. -/
def selectLoop : List (Nat × Option Int) → Option (Nat × Int) → Option (Nat × Int)
  | [], b => b
  | (_, none) :: t, b => selectLoop t b
  | (k, some x) :: t, none => selectLoop t (some (k, x))
  | (k, some x) :: t, some b => selectLoop t (if x < b.2 then some (k, x) else some b)

/-- The phase currents of IMON pin voltages (R122). -/
def State.imonSum (s : State) (n : Nat) (l : List Nat) : Int × State :=
  l.foldl (fun a (mv : Nat) =>
    let q := a.2.quot (((mv : Int) - s.f (R.STAGE_IMON n) F.STAGE_IMON_IMON_OFFSET) * 1000000) (s.f (R.STAGE_IMON n) F.STAGE_IMON_IMON_GAIN)
    (a.1 + q.1, q.2)) (0, s)

/-- A port node's regulation, judged as a rail's (R129, R228). -/
def State.judgePort (s : State) (n v : Nat) : State :=
  let r := s.port n
  s.setPort n { r with inReg := if 20 * v ≤ 21 * r.refMv ∧ 19 * r.refMv ≤ 20 * v then min 16 (r.inReg + 1) else 0 }

/-- A rail's regulation, judged by its rank 0 stage's control periods (R129). DEDUCED: the periods count from the end of soft start
on, since the start-up example of 14_startup_states_clocks has each rail in regulation only after its whole SS_TIME. -/
def State.judgeRail (s : State) (n : Nat) : State :=
  match s.stageRail n with
  | none => s
  | some r =>
    if (s.stage n).rank ≠ 0 then s
    else
      let v := s.f (R.RAIL_VFB r) F.RAIL_VFB_V
      let ref := s.railRef r
      let ok := decide (s.stageState n ≠ stSoft ∧ 20 * v ≤ 21 * ref ∧ 19 * ref ≤ 20 * v)
      let k := if ok then min 16 ((s.rail r).inReg + 1) else 0
      (s.setRail r { s.rail r with inReg := k }).setF (R.RAIL_STATUS r) F.RAIL_STATUS_PGOOD (boolNat (decide (16 ≤ k)))

/-- One control period of a running stage (R112–R118, R129). -/
def State.control (s : State) (n : Nat) (o : CtlObs) : State :=
  let s := s.copyCmp n
  let vc := s.measured (s.stRecv n (s.stageDir n)) o.vCtl
  let vs := vc.2.measured (s.stSend n (s.stageDir n)) o.vSend
  let s := vs.2
  let o : CtlObs := ⟨vc.1, vs.1, o.imon⟩
  let s := if (s.stage n).applyPend then s.applyShadow n else s
  let rev := s.stageDir n
  let node := s.stRecv n rev
  let s := if isRail node then s.setF (R.RAIL_VFB node) F.RAIL_VFB_V o.vCtl else s
  let il := s.imonSum n o.imon
  let s := il.2.wrN (R.STAGE_IL n) (ofSigned 32 il.1)
  let io := s.ioCurrents n il.1
  let s := io.2.2
  let r := s.stage n
  let base := s.iOutRef n o.vCtl o.vSend
  let s := base.2
  let step := s.quot ((s.f (R.STAGE_CBC_CFG n) F.STAGE_CBC_CFG_REV_RAMP * s.ctlCounts n : Nat) : Int) 800
  let s := if r.ramping then step.2 else s
  let iRef := if r.ramping then max 0 (r.iRef - step.1) else base.1
  let c := r.coef
  let u1 := r.uHist.getD 0 0
  let e : Int := (s.stageRef n : Int) - o.vCtl
  let eA := e :: r.eA.take 3
  let eB : Int := iRef - io.1
  let eC : Int := match s.iInRef n with | some l => (l : Int) - io.2.1 | none => 0
  let eD : Int := (o.vSend : Int) - s.f (R.STAGE_VFLOOR n) F.STAGE_VFLOOR_V_FLOOR
  let a := s.loopA c eA r.uHist
  let noA := (c.take 7).all (· == 0)
  let s := if noA then s else a.2
  let loops : List (Nat × Option Int) :=
    [(0, if noA then none else some a.1), (1, limitLoop c 7 u1 eB r.eB),
     (2, if (s.iInRef n).isSome then limitLoop c 9 u1 eC r.eC else none), (3, limitLoop c 11 u1 eD r.eD)]
  let top : Int := s.f (R.STAGE_MOD n) F.STAGE_MOD_U_MAX * 2 ^ 20
  let fv := s.takeFree 36
  let win := selectLoop loops none
  let s := if win.isNone then fv.2 else s
  let sel := (win.map (·.1)).getD 0
  let u := clampInt 0 top ((win.map (·.2)).getD fv.1)
  let m := s.modulate n rev u.toNat o.vSend
  let s := m.2.2
  let sat := sel == 0 && u == top && decide (20 * io.1 < iRef)
  let s := s.setStage n { s.stage n with
    uHist := [u, u1, r.uHist.getD 1 0]
    eA := eA.take 3
    eB := eB
    eC := eC
    eD := eD
    cmpNext := [m.1, m.2.1]
    valleyAt := s.cyc + s.toValley n 0
    ctlAt := s.cyc
    iRef := iRef
    satCnt := if sat then r.satCnt + 1 else 0
    selHist := if bitsOf r.selHist sel 1 = 1 then r.selHist else r.selHist + 2 ^ sel
    vCtl := o.vCtl
    vSend := o.vSend
    imon := o.imon
    iOut := io.1
    iIn := io.2.1 }
  let s := (s.setF (R.STAGE_STATUS n) F.STAGE_STATUS_SEL sel).setF (R.STAGE_STATUS n) F.STAGE_STATUS_CBC_ACT
    (boolNat (s.cbcWithin n 2))
  let de := !s.stRevEn n || s.stageState n == stSoft || (s.stage n).resume != 0
  let s := if s.flag (R.STAGE_STATUS n) F.STAGE_STATUS_DE then s.emulate n o.imon else s
  let s := if isPort node then s.judgePort (node - 12) o.vCtl else s
  (s.setF (R.STAGE_STATUS n) F.STAGE_STATUS_DE (boolNat de)).judgeRail n

def execControlPeriod (n : Fin 8) (o : CtlObs) (s : State) : Host.Outcome State Fault Refusal :=
  s.act fun s => if s.stageRuns n && s.ctlDue n then (s.control n o).noteEvent 0 n else s

/-- 2 ms after the reference has reached its target (R131): START_SHORT below 20 % with a limit active, START_SLOW between 20 %
and 90 % without one. -/
def execStartShortCheck (n : Fin 8) (vOut : Nat) (s : State) : Host.Outcome State Fault Refusal :=
  s.act fun s =>
    let r := s.stage n
    if s.stageRuns n ∧ r.ssDone ∧ r.ssAcc + 2000 ≤ s.us then
      let sel := s.f (R.STAGE_STATUS n) F.STAGE_STATUS_SEL
      let limit := sel == 1 || sel == 2 || s.cbcWithin n 16
      let v := s.measured (s.stRecv n (s.stageDir n)) vOut
      let s := v.2
      let vOut := v.1
      let s := s.setStage n { s.stage n with ssDone := false }
      if 5 * vOut < r.ssTarget ∧ limit then (s.tripStage n).raise 0x20 n (faultRec vOut r.ssTarget)
      else if r.ssTarget ≤ 5 * vOut ∧ 10 * vOut < 9 * r.ssTarget ∧ ¬ limit then s.raise 0x28 n (faultRec vOut r.ssTarget)
      else s
    else s

/-- Loop A has been clamped at U_MAX for 1 ms at light load (R116). -/
def execLoopSat (n : Fin 8) (s : State) : Host.Outcome State Fault Refusal :=
  s.act fun s =>
    if s.stageRuns n ∧ 800000 ≤ (s.stage n).satCnt * s.ctlCounts n then
      let r := s.stage n
      (s.tripStage n).raise 0x27 n (faultRec (natOf r.iOut) (natOf r.iRef))
    else s

/-- LOOP_APPLY is written (R117): at once while the stage does not run, else at the next control period. -/
def execLoopApply (_ : Path) (n : Fin 8) (s : State) : Host.Outcome State Fault Refusal :=
  s.act fun s =>
    if s.stageRuns n then s.setStage n { s.stage n with applyPend := true } else s.applyShadow n

/-- Steps 2 and 3 of R119: below 2 % of the CBC limit, the set for the new direction is loaded and switching resumes in it, in
diode emulation until the next tick; where R140 refuses the set the reversal ends in TRIPPED. -/
def execReversalZeroCurrent (n : Fin 8) (vCtl : Nat) (s : State) : Host.Outcome State Fault Refusal :=
  s.act fun s =>
    let r := s.stage n
    let il := (toSigned 32 (s.rdN (R.STAGE_IL n))).natAbs
    if s.stageState n = stReversing ∧ r.ramping ∧ il * 50 < s.f (R.STAGE_CBC n) F.STAGE_CBC_CBC_POS * 100 then
      match s.loadSet n r.dirWant with
      | none => (s.tripStage n).raise 0x24 n (leBytes 4 (s.setName n r.dirWant))
      | some s =>
        let v := s.measured (s.stRecv n r.dirWant) vCtl
        let s := ((v.2.setF (R.STAGE_STATUS n) F.STAGE_STATUS_DIR (boolNat r.dirWant)).presetHist n v.1).releaseChans n
        ((s.setF (R.STAGE_STATUS n) F.STAGE_STATUS_DE 1).setStage n { s.stage n with ramping := false, resume := 1 }).preload n
    else s

/-- A ceiling of zero for 10 ms (R120). -/
def execStageIdleTimeout (n : Fin 8) (s : State) : Host.Outcome State Fault Refusal :=
  s.act fun s =>
    let auto := match s.stageRail n with
      | some r => s.flag (R.RAIL_CFG r) F.RAIL_CFG_AUTO_ON
      | none => false
    if s.stageState n = stRun ∧ 1000 ≤ (s.stage n).zeroTicks ∧ auto = false ∧ s.standing n = false then s.stopStage n stReady else s

/-- IMON of a channel crosses a threshold, at the pin voltage `mv` (R123): outside the blank the comparator ends the pulse. -/
def execCbcCrossing (hb : Fin 24) (mv : Nat) (s : State) : Host.Outcome State Fault Refusal :=
  s.act fun s =>
    match s.ownerOf hb with
    | some n => if s.stageRuns n && s.cbcHit n hb mv then s.cbcCut n hb else s
    | none => s

/-- CBC_COUNT limited switching periods in a row (R124). -/
def execCbcPersist (n : Fin 8) (s : State) : Host.Outcome State Fault Refusal :=
  s.act fun s =>
    let k := s.f (R.STAGE_CBC_CFG n) F.STAGE_CBC_CFG_CBC_COUNT
    if s.stageRuns n ∧ k ≠ 0 ∧ k ≤ (s.stage n).cbcRun ∧ s.cbcWithin n 2 then
      (s.tripStage n).raise 0x21 n (faultRec (s.stage n).cbcRun k)
    else s

/-- HB_FLT_g asserts (R125): the stages of the group enter TRIPPED, those that run and those in READY; a stage in OFF, IDENT or LOCKED keeps
its state (log 41); the assertion is a capture strobe (R65). -/
def execHbFltAssert (g : Fin 4) (s : State) : Host.Outcome State Fault Refusal :=
  s.act fun s =>
    let l := (List.range 8).filter (fun n => s.stInGroup n g)
    ((l.foldl (fun s n => if s.stageState n = stReady then s.stopStage n stTripped else s.tripStage n) s).strobe 6 g).raise 0x22 g []

/-- Identification of a stage's channels ends (R126): HB_FLT of every group it uses high, and every IMON within IMON_OFFSET
± 10 %. `flt`: the groups whose HB_FLT is asserted; `imon`: per channel of the stage. -/
def State.identStage (s : State) (n flt : Nat) (imon : List Nat) : State :=
  if s.stageState n = stIdent then
    let off := s.f (R.STAGE_IMON n) F.STAGE_IMON_IMON_OFFSET
    let groups := (List.range 4).all (fun g => !(s.stInGroup n g && bitsOf flt g 1 == 1))
    let chans := (List.range (hbList (s.stHb n)).length).all (fun k =>
      let v := imon.getD k 0
      decide (9 * off ≤ 10 * v ∧ 10 * v ≤ 11 * off))
    if groups && chans then (s.setStageState n stReady).setStage n { s.stage n with identified := true }
    else (s.setStageState n stLocked).raise 0x23 n (leBytes 4 flt)
  else s

def execHbIdentDone (n : Fin 8) (flt : Fin 16) (imon : List Nat) (s : State) : Host.Outcome State Fault Refusal :=
  s.act fun s => s.identStage n flt imon

/-- The stage that starts an AUTO_ON rail: READY, from the ONLINE source of highest priority, else from the pack with the
greatest share energy (R132, R148). -/
def State.autoStage (s : State) (r : Nat) : Option (Nat × Bool) :=
  let fromSrc := (s.supOrder.filter (fun x => s.supState x == supOnline)).flatMap (fun x =>
    (List.range 8).filterMap (fun n =>
      if s.stUsed n && s.stFrom n == supNode x && s.stTo n == r && s.stageState n == stReady then some (n, false)
      else none))
  let fromPack := ((s.packsByShare r).filter (fun i => decide (0 < s.shareEnergy i r))).filterMap (fun i =>
    (s.packHop i r).bind (fun h => if s.stageState h.stage = stReady then some (h.stage, h.rev) else none))
  let fromRail := (List.range 8).filterMap (fun n =>
    if s.stUsed n && isRail (s.stFrom n) && s.stTo n == r && s.stageState n == stReady
        && s.flag (R.RAIL_STATUS (s.stFrom n)) F.RAIL_STATUS_PGOOD then some (n, false) else none)
  (fromSrc ++ fromPack ++ fromRail).head?

/-- An AUTO_ON rail starts once every rail of a lower START_ORDER is in regulation (R132). -/
def State.autoStart (s : State) (r : Nat) : State :=
  let order := fun q => s.f (R.RAIL_CFG q) F.RAIL_CFG_START_ORDER
  let auto := fun q => s.declared q && s.flag (R.RAIL_CFG q) F.RAIL_CFG_AUTO_ON
  let lower := (List.range 8).all (fun q =>
    !(auto q && decide (order q < order r)) || s.flag (R.RAIL_STATUS q) F.RAIL_STATUS_PGOOD)
  let running := (s.stagesInto r).any (fun n => s.stageRuns n && s.stageRail n == some r)
  if auto r && lower && !running then
    match s.autoStage r with
    | some (n, rev) =>
      (s.setStage n { s.stage n with autoTurn := true, rank := 0 }).startStage n rev
    | none => s
  else s

def execAutoOnStart (r : Fin 8) (s : State) : Host.Outcome State Fault Refusal :=
  s.act fun s => s.autoStart r

/-! Pin-commanded rails (R133–R137). -/

def State.vselMask (s : State) (g : Nat) : Nat := s.f (R.VSEL_CFG g) F.VSEL_CFG_RAIL_MASK
def maskRails (m : Nat) : List Nat := (List.range 8).filter (fun k => bitsOf m k 1 == 1)

/-- RAIL_n_STATUS.VSEL reads the membership. -/
def State.showVsel (s : State) : State :=
  s.each (List.range 8) (fun r s => s.setF (R.RAIL_STATUS r) F.RAIL_STATUS_VSEL (boolNat (s.vselOf r).isSome))

/-- The pins are read, unless a member rail is in soft start (R134, R137). -/
def State.takePins (s : State) (g : Nat) : State :=
  if s.flag (R.VSEL_CFG g) F.VSEL_CFG_EN && (maskRails (s.vselMask g)).any (fun r => (s.softStage r).isSome) then s
  else
    let p := s.sys.vselPins.getD g 0
    let s := s.setF (R.VSEL_CFG g) F.VSEL_CFG_PINS p
    if s.flag (R.VSEL_CFG g) F.VSEL_CFG_EN then s.setF (R.VSEL_CFG g) F.VSEL_CFG_ACTIVE p else s

def execVselPattern (g : Fin 2) (pat : Fin 8) (s : State) : Host.Outcome State Fault Refusal :=
  s.act fun s => ({ s with sys := { s.sys with vselPins := s.sys.vselPins.set g pat } }).takePins g

/-- Some order of the plan targets a rail of a mask. -/
def State.maskOrdered (s : State) (m : Nat) : Bool :=
  (maskRails m).any (fun r => s.plan.any (fun p => p.2.order.target == r && p.2.order.op != opChargeBy && p.2.order.op != opReserve))

/-- A write of VSEL_g_CFG (R133, R136): a RAIL_MASK that names a rail of the other group or an undeclared node, or any RAIL_MASK under
an order on a member rail, is refused. -/
def State.writeVselCfg (s : State) (g : Nat) (v : Word) : State :=
  let c := R.VSEL_CFG g
  let old := s.vselMask g
  let new := getBits v 8 8
  let s := if getBits v 23 1 = 1 then s.setF c F.VSEL_CFG_REFUSED 0 else s
  let bad := (maskRails new).any (fun r => !s.declared r || bitsOf (s.vselMask (1 - g)) r 1 == 1)
    || s.maskOrdered old || s.maskOrdered new
  let s := s.setF c F.VSEL_CFG_EN (getBits v 0 1)
  let s := if bad then s.hwSet c F.VSEL_CFG_REFUSED 1 else s.setF c F.VSEL_CFG_RAIL_MASK new
  (s.takePins g).showVsel

def execVselCfgWrite (p : Path) (g : Fin 2) (v : Word) (s : State) : Host.Outcome State Fault Refusal :=
  s.act fun s => s.inOrder p (R.VSEL_CFG g) (s.rd (R.VSEL_CFG g)) v fun v s => s.writeVselCfg g v

/-- A write of VSEL_g_SP_k (R133, R136). -/
def State.writeVselSp (s : State) (g k : Nat) (v : Word) : State :=
  let mv := getBits v 0 16
  let m := s.vselMask g
  if (maskRails m).any (fun r => decide (mv < s.nodeVmin r ∨ s.nodeVmax r < mv)) || s.maskOrdered m then
    s.hwSet (R.VSEL_CFG g) F.VSEL_CFG_REFUSED 1
  else s.wr (R.VSEL_SP g k) (v &&& 0x00FFFFFF#32)

def execVselSpWrite (p : Path) (g : Fin 2) (k : Fin 8) (v : Word) (s : State) : Host.Outcome State Fault Refusal :=
  s.act fun s => s.inOrder p (R.VSEL_SP g k) (s.rd (R.VSEL_SP g k)) v fun v s => s.writeVselSp g k v

/-- A write of RAIL_n_SP: a setpoint outside the declared range is ignored (R127). -/
def State.writeRailSp (s : State) (r : Nat) (v : Word) : State :=
  let mv := getBits v 0 16
  if s.declared r ∧ s.nodeVmin r ≤ mv ∧ mv ≤ s.nodeVmax r then s.setF (R.RAIL_SP r) F.RAIL_SP_DEF_SP mv else s

def execRailSpWrite (p : Path) (r : Fin 8) (v : Word) (s : State) : Host.Outcome State Fault Refusal :=
  s.act fun s => s.inOrder p (R.RAIL_SP r) (s.rd (R.RAIL_SP r)) v fun v s => s.writeRailSp r v

/-! What a tick does to stages and references. -/

/-- The reference of a rail moves for one tick (10 µs): by the ramp of a soft start, or at its slew (R128, R130, R135). -/
def State.moveRef (s : State) (r : Nat) : State :=
  let s := s.setRail r { s.rail r with target := s.railTarget r }
  let ref := s.railRef r
  match s.softStage r with
  | some n =>
    let x := s.stage n
    let acc := x.ssAcc + 1
    let ramp := x.ssStart + x.ssTarget * acc / (50 * max 1 (s.f (R.RAIL_CFG r) F.RAIL_CFG_SS_TIME))
    if x.ssTarget ≤ ramp then
      let s := (s.setF (R.RAIL_STATUS r) F.RAIL_STATUS_REF (max x.ssStart x.ssTarget)).setF (R.RAIL_STATUS r) F.RAIL_STATUS_SLEWING 0
      let s := (s.setStageState n stRun).setStage n { x with ssAcc := s.us, ssDone := true }
      match s.vselOf r with
      | some g => s.takePins g
      | none => s
    else
      ((s.setStage n { x with ssAcc := acc }).setF (R.RAIL_STATUS r) F.RAIL_STATUS_REF ramp).setF (R.RAIL_STATUS r)
        F.RAIL_STATUS_SLEWING 1
  | none =>
    let t := (s.rail r).target
    let d := s.railSlew r
    let next := if ref < t then min t (ref + d) else max t (ref - d)
    (s.setF (R.RAIL_STATUS r) F.RAIL_STATUS_REF next).setF (R.RAIL_STATUS r) F.RAIL_STATUS_SLEWING (boolNat (decide (next ≠ t)))

/-- A stage at a tick (R119, R120): a READY stage with a ceiling, or of a pack that stands by, starts, a running one follows a new
direction, a reversal past its zero current ends, zero ceilings are counted. -/
def State.tickStage (s : State) (n : Nat) : State :=
  let r := s.stage n
  let st := s.stageState n
  if st = stReady then
    (if 0 < s.stageCeil n ∨ r.autoTurn ∨ s.standing n then s.startStage n r.dirWant else s)
  else if st = stRun then
    let s := s.setStage n { r with resume := 0, zeroTicks := if s.stageCeil n = 0 then r.zeroTicks + 1 else 0 }
    if r.dirWant != s.stageDir n && s.stRevEn n then
      (s.setStageState n stReversing).setStage n { s.stage n with ramping := true, iRef := max 0 (s.stage n).iOut }
    else s
  else if st = stReversing ∧ ¬ r.ramping then (s.setStageState n stRun).setStage n { r with resume := 0, zeroTicks := 0 }
  else s

/-- PGOOD falls where no stage runs into the rail any more. -/
def State.dropPgood (s : State) (r : Nat) : State :=
  if (s.stagesInto r).any (fun n => s.stageRuns n && s.stageRail n == some r) then s
  else (s.setRail r { s.rail r with inReg := 0 }).setF (R.RAIL_STATUS r) F.RAIL_STATUS_PGOOD 0

/-! The loop table image (R138). -/

def setIds (l : List (List Byte)) : List Nat := l.map (fun b => leAt b 0 2)
def distinctIds : List Nat → Bool
  | [] => true
  | a :: t => !t.contains a && distinctIds t

/-- An image is loaded: VALID only if it is sound; SETS reads the count of its header. -/
def State.loadLoopTable (s : State) (b : List Byte) : State :=
  let k := leAt b 6 2
  let body := b.drop 64
  let sets := (List.range k).map (fun j => slice body (64 * j) 64)
  let ok := slice b 0 4 == [0x4C#8, 0x54#8, 0x41#8, 0x42#8] && leAt b 4 2 == 1 && decide (k ≤ 63)
    && b.length == 64 + 64 * k && leAt b 8 4 == crc32c body && allZero (slice b 12 52)
    && sets.all (fun x => decide (leAt x 0 2 ≤ 62)) && distinctIds (setIds sets)
  let s := { s with loopSets := if ok then sets else [] }
  (s.setF R.LOOPTAB_STATUS F.LOOPTAB_STATUS_VALID (boolNat ok)).setF R.LOOPTAB_STATUS F.LOOPTAB_STATUS_SETS k

end Sys2Proof.Machine
end

