-- ==== Sys2Proof/Machine/Clock.lean ====
section
/-! DEFINITION. What one period of CLK_SYS changes while no command waits (log 7): time, and the copies that the stages' timebase makes
(spec/04_power_stages.md R111). -/

namespace Sys2Proof.Machine

/-- A master period starts within the CLK_SYS cycle that has just begun: CLK_PWM runs four counts in each (R107, R108). -/
def State.masterStart (s : State) : Bool :=
  let mb := s.f R.STG_TIMEBASE F.STG_TIMEBASE_MB_PER
  mb != 0 && 4 * s.cyc / mb != 4 * (s.cyc - 1) / mb

/-- The PER preload of a stage (R111): a stage that stands takes it at once; a running one at a phase 0 valley that
coincides with the start of a master period, if it keeps R108 and the conversion budget, else PER_REFUSED. -/
def State.takePer (s : State) (n : Nat) : State :=
  match (s.stage n).perNext with
  | none => s
  | some per =>
    let t := s.setStage n { s.stage n with perNext := none }
    if !s.stageRuns n then t.setF (R.STAGE_PWM n) F.STAGE_PWM_PER per
    else if !s.masterStart || s.f (R.STAGE_PWM_OFS n) F.STAGE_PWM_OFS_PHASE_OFS % (2 * s.stPer n) != 0 then s
    else if s.perOk per && s.budgetOk n per then (t.setF (R.STAGE_PWM n) F.STAGE_PWM_PER per).showLoad
    else t.hwSet (R.STAGE_STATUS n) F.STAGE_STATUS_PER_REFUSED 1

/-- The copies of a stage: its compares at their valley, its period. -/
def State.clockStage (s : State) (n : Nat) : State :=
  let s := if (s.stage n).cmpNext.isEmpty ∨ s.cyc < (s.stage n).valleyAt then s else s.copyCmp n
  s.takePer n

/-- One CLK_SYS period passes. In the reset hold of R392 time alone goes on (R53, R399); outside RUN, IDLE and it the clock stands:
time in FALLOW comes from CLK_AON (R52), and SHIP ends in a cold reset. -/
def State.idle (s : State) : State :=
  match s.sys.power with
  | .on => State.each { s with cyc := s.cyc + 1 } (List.range 8) (fun n s => s.clockStage n)
  | .hold => { s with cyc := s.cyc + 1 }
  | _ => s

end Sys2Proof.Machine
end

