-- ==== Sys2Proof/Machine/Fabric.lean ====
section
/-! DEFINITION. The commit and the check of a fabric description (spec/01_energy_fabric.md R16–R28, R36, R441). -/

namespace Sys2Proof.Machine

/-! Reading a copy of the fabric registers. -/

def tf (t : Tab Word) (off : Nat) (fld : Fld) : Nat := getBits (fabWord t off) fld.lo fld.w
def tVmin (t : Tab Word) (k : Nat) : Nat := tf t (R.FAB_NODE_VRANGE k) F.FAB_NODE_VRANGE_V_MIN
def tVmax (t : Tab Word) (k : Nat) : Nat := tf t (R.FAB_NODE_VRANGE k) F.FAB_NODE_VRANGE_V_MAX
def tFrom (t : Tab Word) (n : Nat) : Nat := tf t (R.STAGE_NODES n) F.STAGE_NODES_FROM
def tTo (t : Tab Word) (n : Nat) : Nat := tf t (R.STAGE_NODES n) F.STAGE_NODES_TO
def tTopo (t : Tab Word) (n : Nat) : Nat := tf t (R.STAGE_NODES n) F.STAGE_NODES_TOPO
def tRev (t : Tab Word) (n : Nat) : Bool := tf t (R.STAGE_NODES n) F.STAGE_NODES_REV_EN == 1
def tHb (t : Tab Word) (n : Nat) : Nat := tf t (R.STAGE_HBMAP n) F.STAGE_HBMAP_HB
def tRole (t : Tab Word) (w : Nat) : Nat := tf t (R.PSW_CFG w) F.PSW_CFG_ROLE
def tA (t : Tab Word) (w : Nat) : Nat := tf t (R.PSW_CFG w) F.PSW_CFG_NODE_A
def tB (t : Tab Word) (w : Nat) : Nat := tf t (R.PSW_CFG w) F.PSW_CFG_NODE_B
def tEgress (t : Tab Word) (w : Nat) : Bool := tf t (R.PSW_CFG w) F.PSW_CFG_EGRESS_CLOSED == 1

/-- A declared, valid node. -/
def tNode (t : Tab Word) (k : Nat) : Bool := decide (k < 19) && k != 15 && tVmax t k != 0
/-- The used stages in ascending number. -/
def tStages (t : Tab Word) : List Nat := (List.range 8).filter (fun n => tTopo t n != 0)
def tSwitches : List Nat := List.range 12

/-- A node of the input or port class. -/
def isIo (k : Nat) : Bool := isInput k || isPort k

/-- The first of a list that breaks a rule, with the rule's code and the index that is reported. -/
def firstBad (err : Nat) (l : List Nat) (bad : Nat → Bool) (idx : Nat → Nat) : Option (Nat × Nat) :=
  (l.find? bad).map (fun k => (err, idx k))

/-- The permitted range of a node's class (R16). -/
def classRange (k : Nat) : Nat × Nat :=
  if isRail k then (0, 64000) else if isPack k then (2500, 64000) else if isPort k then (0, 48000) else (4500, 64000)

/-- An efficiency table of a stage: its eight entries. -/
def tEff (t : Tab Word) (n : Nat) (rev : Bool) : List Nat :=
  (List.range 8).map (fun k => tf t (if rev then R.STAGE_EFF_REV n (k / 2) else R.STAGE_EFF_FWD n (k / 2)) ⟨16 * (k % 2), 16⟩)

/-- An entry outside 1 to 10,000, or one that falls with rising band (R26, rule 0x8). -/
def badEff : List Nat → Bool
  | [] => false
  | [e] => decide (e < 1 ∨ 10000 < e)
  | e :: f :: l => decide (e < 1 ∨ 10000 < e ∨ f < e) || badEff (f :: l)

/-- How many SERIES switches a node has. -/
def tSeries (t : Tab Word) (k : Nat) : List Nat := tSwitches.filter (fun w => tRole t w == 1 && tA t w == k)

/-- A TIE switch marked closed that ties a pack whose SERIES switch is not marked (R36, first rule). -/
def tieOpen (t : Tab Word) (w : Nat) : Bool :=
  tRole t w == 2 && tEgress t w && [tA t w, tB t w].any (fun k =>
    isPack k && !tSwitches.any (fun v => tRole t v == 1 && tA t v == k && tEgress t v))

/-- The other node of a TIE switch marked closed. -/
def tieFrom (t : Tab Word) (k w : Nat) : Option Nat :=
  if tRole t w = 2 ∧ tEgress t w then (if tA t w = k then some (tB t w) else if tB t w = k then some (tA t w) else none) else none

/-- The chains of marked TIE switches from a node, no node twice, with the node at which each ends; `fuel` bounds their length. -/
def tieChains (t : Tab Word) : Nat → Nat → List Nat → List (List Nat × Nat)
  | 0, _, _ => []
  | fuel + 1, k, seen =>
    tSwitches.flatMap (fun w =>
      match tieFrom t k w with
      | none => []
      | some j => if seen.contains j then [] else ([w], j) :: (tieChains t fuel j (j :: seen)).map (fun c => (w :: c.1, c.2)))

/-- A marked TIE switch of a chain that joins two nodes which R24 forbids to be tied (R36, second rule). DESIGN CHOICE: only the switches
of such a chain take part in the broken rule, and where both rules are broken the first is the one reported (log 60). -/
def tieJoins (t : Tab Word) (w : Nat) : Bool :=
  tRole t w == 2 && tEgress t w && (List.range 19).any (fun u => (isPack u || isIo u) &&
    (tieChains t 12 u [u]).any (fun c => c.1.contains w && ((isPack u && isPack c.2) || (isIo u && isIo c.2))))

/-- The rules of R26 in their order; the first that is broken, with `ERR_INDEX` (R441). DESIGN CHOICE: a switch of the reserved ROLE 3 is
reported under 0xB also where it names no declared node (log 60). -/
def fabRules (t : Tab Word) : List (Option (Nat × Nat)) :=
  let st := tStages t
  [ firstBad 1 (List.range 19) (fun k => tVmax t k != 0 &&
      (k == 15 || decide (tVmin t k < (classRange k).1 ∨ (classRange k).2 < tVmax t k ∨ tVmax t k < tVmin t k))) id,
    firstBad 2 st (fun n => !tNode t (tFrom t n) || !tNode t (tTo t n)) id,
    firstBad 2 tSwitches (fun w => (tRole t w == 1 || tRole t w == 2)
      && (!tNode t (tA t w) || (tRole t w == 2 && !tNode t (tB t w)))) (· + 20),
    firstBad 3 st (fun n => tFrom t n == tTo t n) id,
    firstBad 4 st (fun n => isInput (tTo t n) || (tRev t n && isInput (tFrom t n))) id,
    firstBad 5 st (fun n => (st.filter (fun m => decide (m < n))).any (fun m => tHb t m &&& tHb t n != 0)) id,
    firstBad 6 st (fun n =>
      let c := (hbList (tHb t n)).length
      if tTopo t n = 3 then !([2, 4, 6].contains c) else decide (c < 1 ∨ 6 < c)) id,
    firstBad 7 st (fun n =>
      (tTopo t n == 1 && decide (10 * tVmax t (tTo t n) > 9 * tVmin t (tFrom t n)))
        || (tTopo t n == 2 && (decide (100 * tVmin t (tTo t n) < 105 * tVmax t (tFrom t n))
              || decide (tVmax t (tTo t n) > 10 * tVmin t (tFrom t n))))) id,
    firstBad 8 st (fun n =>
      tf t (R.STAGE_P_RATED n) F.STAGE_P_RATED_P_RATED == 0
        || decide (toSigned 16 (tf t (R.STAGE_THERM n) F.STAGE_THERM_T_MAX) ≤ toSigned 16 (tf t (R.STAGE_THERM n) F.STAGE_THERM_T_DERATE))
        || badEff (tEff t n false) || (tRev t n && badEff (tEff t n true))) id,
    firstBad 9 ((List.range 19).filter (fun k => (isPack k || isIo k) && tNode t k)) (fun k => (tSeries t k).length != 1) id,
    firstBad 9 tSwitches (fun w => tRole t w == 1 && isRail (tA t w)) (· + 20),
    firstBad 10 [8, 9] (fun k => tNode t k && tSeries t k != [k - 8]) id,
    firstBad 11 tSwitches (fun w => tRole t w == 3 || (tRole t w == 2 &&
      (tA t w == tB t w || (isIo (tA t w) && isIo (tB t w)) || (isPack (tA t w) && isPack (tB t w))))) id,
    firstBad 12 ((List.range 8).filter (tNode t)) (fun k => !st.any (fun n => tTo t n == k || (tRev t n && tFrom t n == k))) id,
    firstBad 13 tSwitches (tieOpen t) id,
    firstBad 13 tSwitches (tieJoins t) id ]

def fabVerdict (t : Tab Word) : Option (Nat × Nat) := firstErr (fabRules t)

/-- A copy of the fabric registers as they stand (R28). -/
def State.fabCopy (s : State) : Tab Word := s.regs.filter (fun p => fabricRegs.contains p.1)

def State.fabState (s : State) : Nat := s.f R.FAB_STATUS F.FAB_STATUS_STATE
def State.setFab (s : State) (st err idx : Nat) : State :=
  ((s.setF R.FAB_STATUS F.FAB_STATUS_STATE st).setF R.FAB_STATUS F.FAB_STATUS_ERR err).setF R.FAB_STATUS F.FAB_STATUS_ERR_INDEX idx

/-- A commit (R27): the check starts on a copy, with every stage held off; it is refused while a valid description is in use,
and ignored while a check runs. -/
def State.commitFabric (s : State) : State :=
  let st := s.fabState
  if st = 1 then s
  else if st = 2 ∧ (¬ s.plan.isEmpty ∨ s.anyRuns) then
    (s.setF R.FAB_STATUS F.FAB_STATUS_ERR 0xE).setF R.FAB_STATUS F.FAB_STATUS_ERR_INDEX 0
  else
    let s := { s with fabCheck := some s.fabCopy }
    let s := s.each (List.range 8) (fun n s => s.stopStage n stOff)
    s.setF R.FAB_STATUS F.FAB_STATUS_STATE 1

/-- The check ends (R27, R28): a description without fault comes into force, in a Safe-state with its egress configuration (R38); a faulty
one raises 0x60. -/
def State.finishFabric (s : State) : State :=
  if s.fabState ≠ 1 then s
  else
    let t := s.fabCheck.getD []
    match fabVerdict t with
    | none =>
      let s := { s with fab := some t, fabCheck := none }
      let s := (s.setFab 2 0 0).setF R.FAB_STATUS F.FAB_STATUS_GEN (s.f R.FAB_STATUS F.FAB_STATUS_GEN + 1)
      let s := s.causeGone 0x60 0
      let s := s.each (List.range 8) (fun n s => s.startIdent n)
      let s := if s.safeOn then (s.egressOpen).egressClose else s
      s.each s.supOrder (fun x s => s.startQualify x)
    | some (e, k) => (({ s with fabCheck := none }).setFab 3 e k).raise 0x60 0 (faultRec e k)

/-- A write of FAB_CTRL.COMMIT: Headland's (R11, R27). -/
def execFabCommit (p : Path) (s : State) : Host.Outcome State Fault Refusal :=
  s.act fun s => if p = .headland then s.commitFabric else s.hwDenied p R.FAB_CTRL 1#32

def execFabricCheckDone (s : State) : Host.Outcome State Fault Refusal :=
  s.act fun s => s.finishFabric

end Sys2Proof.Machine
end

