-- ==== Sys2Proof/Machine/Ports.lean ====
section
/-! DEFINITION. The commands of the Type-C ports (spec/08_type_c_and_pd.md R225–R254): attach and detach, VBUS and VCONN,
messages, timers, Fast Role Swap, and the PD ring. -/

namespace Sys2Proof.Machine

/-! Attach, roles and dead-battery Rd (R225, R226, R233). -/

/-- The CC pins show a partner in one of the unattached states (R225, R245; the states are those of USB Type-C, log 64): the debounce of
tCCDebounce, Try.SRC and Try.SNK of a DRP port. A Sink attaches only with VBUS. -/
def State.ccPartner (s : State) (n : Nat) (o : AttachObs) : State :=
  let r := s.port n
  let c := s.conn n
  let role := s.cfgOf n F.PORT_CFG_ROLE
  let try_ := if role = 3 then s.cfgOf n F.PORT_CFG_TRY else 0
  let long := s.heldFor r.ccAt (120 * msCyc)
  let vbus := decide (3670 ≤ o.vbus)
  let shows := role == 2 || (role == 3 && r.presSrc)
  let note := s.setPort n { r with ccAt := some (r.ccAt.getD s.cyc) }
  if c = cnUnattached then
    (if shows == o.asSource then note.setPS n F.PORT_STATUS_CONN (if o.asSource then cnWaitSrc else cnWaitSnk) else s)
  else if c = cnWaitSnk ∧ !o.asSource then
    if !long ∨ !vbus then s
    else if try_ = 1 then
      (((s.setPort n { r with presSrc := true, ccAt := none }).startTimer n .drpTry).startTimer n .tryTimeout).setPS n
        F.PORT_STATUS_CONN cnTrySrc
    else s.attach n o
  else if c = cnWaitSrc ∧ o.asSource then
    if !long then s
    else if try_ = 2 then
      (((s.setPort n { r with presSrc := false, ccAt := none }).startTimer n .drpTry).startTimer n .drpTryWait).setPS n
        F.PORT_STATUS_CONN cnTrySnk
    else s.attach n o
  else if (c = cnTrySrc ∨ c = cnTryWaitSrc) ∧ o.asSource then s.attach n o
  else if c = cnTrySnk ∧ !o.asSource then (if vbus && (s.timerAt n .drpTry).isNone then s.attach n o else s)
  else if c = cnTryWaitSnk ∧ !o.asSource then (if long && vbus then s.attach n o else note)
  else s

/-- The partner's Rp changes while the port is attached as Sink: so does an implicit supply (R241). -/
def State.newRp (s : State) (n : Nat) (o : AttachObs) : State :=
  let s := s.setPS n F.PORT_STATUS_TYPEC_CUR o.rp
  if ¬ s.explicit n ∧ (s.port n).budget ≠ 0 then
    s.setPort n { s.port n with budget := 5 * s.implicitMa n, limit := s.implicitMa n }
  else s

/-- CC detection shows a partner (R225, R226): while dead-battery Rd waits for the configuration it is remembered. -/
def execPortAttach (n : Fin 3) (o : AttachObs) (s : State) : Host.Outcome State Fault Refusal :=
  s.act fun s =>
    if ¬ (s.port n).configured then
      (if o.asSource then s else (s.setSupV (3 + n) o.vbus).setPort n { (s.setSupV (3 + n) o.vbus).port n with seen := some o })
    else if s.conn n = cnSink ∧ s.attached n ∧ !o.asSource then s.newRp n o
    else if s.conn n = cnSink ∨ s.conn n = cnSource ∨ s.conn n = cnErrorRecovery ∨ ¬ s.roleAllows n o.asSource ∨ s.heldPort n then s
    else s.ccPartner n o

/-- The DRP timer switches an unattached DRP port between its presentations (R225): DRP_DUTY × 10 % of each 75 ms as Source. -/
def execDrpToggle (n : Fin 3) (s : State) : Host.Outcome State Fault Refusal :=
  s.act fun s =>
    let d := s.f (R.PORT_CFG n) F.PORT_CFG_DRP_DUTY
    let d := if 3 ≤ d ∧ d ≤ 7 then d else 5
    let r := s.port n
    let part := if r.presSrc then d else 10 - d
    if r.configured ∧ s.cfgOf n F.PORT_CFG_ROLE = 3 ∧ s.conn n = cnUnattached ∧ r.toggleAt + part * 1500000 ≤ s.cyc then
      s.setPort n { r with presSrc := !r.presSrc, toggleAt := s.cyc }
    else s

/-- A CC pin above 6,000 mV: the pin goes to high impedance (R227), until the next unattached entry (log 64). -/
def execCcOv (n : Fin 3) (pin : Fin 2) (mv : Nat) (s : State) : Host.Outcome State Fault Refusal :=
  s.act fun s =>
    if mv > 6000 then
      let s := s.enterErrorRecovery n
      let r := s.port n
      (s.setPort n { r with ccHigh := if bitsOf r.ccHigh pin 1 = 1 then r.ccHigh else r.ccHigh + 2 ^ pin.val }).raise 0x79 n
        (faultRec mv 6000)
    else s

/-! VBUS and VCONN (R228–R232). -/

/-- VBUS has been at or below 800 mV for 1 ms: the discharge output is released; a Source port goes on with step 3 of R228, in a Hard Reset
recovery after tSrcRecover with step 1 (R246); a swap to Sink sends PS_RDY (R250). -/
def execVbusSafe0v (n : Fin 3) (s : State) : Host.Outcome State Fault Refusal :=
  s.act fun s =>
    let r := s.port n
    if s.attached n ∧ r.srcStep = 1 ∧ s.heldFor r.safeAt msCyc then
      let s := s.setPort n { r with dschg := false, srcStep := 0 }
      if r.hardRecov then s.startTimer n .srcRecover
      else if r.prSwap then (s.pdCtl n ctlPsRdy).startTimer n .psSourceOn
      else s.sourceFive n
    else s

/-- vSafe0V has not been proven within 650 ms (R228). -/
def execVbusNotSafe0v (n : Fin 3) (s : State) : Host.Outcome State Fault Refusal :=
  s.act fun s =>
    if s.attached n ∧ (s.port n).srcStep = 1 ∧ (s.port n).srcAt + 650 * msCyc ≤ s.cyc then
      (s.enterErrorRecovery n).raise 0x73 n (faultRec (s.supV (3 + n)) 800)
    else s

/-- VBUS above its limit for 10 µs (R230). -/
def execPortOv (n : Fin 3) (mv : Nat) (s : State) : Host.Outcome State Fault Refusal :=
  s.act fun s =>
    let s := s.setSupV (3 + n) mv
    if s.heldFor (s.port n).overAt 2000 then
      let lim := s.portOvMv n
      let s := match s.seriesOf (12 + n) with
        | some w => s.openSwitch w
        | none => s
      (if s.attached n then s.sendHard n else s).raise 0x75 n (faultRec mv lim)
    else s

/-- The VCONN limit acts or acts no more; once it has acted for 1 ms, VCONN turns off (R231). -/
def execVconnOc (n : Fin 3) (acts : Bool) (s : State) : Host.Outcome State Fault Refusal :=
  s.act fun s =>
    let on := s.flag (R.PORT_STATUS n) F.PORT_STATUS_VCONN_ON
    let s := s.setPort n { s.port n with vconnAt := s.holdSince (s.port n).vconnAt (acts && on) }
    if on ∧ s.heldFor (s.port n).vconnAt msCyc then (s.vconnOff n).raise 0x74 n (faultRec 400 400) else s

/-- Discover Identity to SOP', and what the cable answers (R224, R232). -/
def execCableDiscovery (n : Fin 3) (r : Option CableId) (s : State) : Host.Outcome State Fault Refusal :=
  s.act fun s =>
    let q := s.port n
    if s.attached n ∧ q.policyReady ∧ s.flag (R.PORT_STATUS n) F.PORT_STATUS_VCONN_ON ∧ ¬ q.hadContract ∧ ¬ q.hardRecov
        ∧ ¬ s.flag (R.PORT_CABLE n) F.PORT_CABLE_FOUND ∧ q.discTries < 20
        ∧ (q.discTries = 0 ∨ q.discAt + 45 * msCyc ≤ s.cyc) then
      let s := s.pdSend n true datVdm 1 false (leBytes 4 0xFF008001)
      let s := s.setPort n { s.port n with discTries := q.discTries + 1, discAt := s.cyc, lastTx := none }
      match r with
      | none => s
      | some a => (s.pdAck n true a.header).1.wrN (R.PORT_CABLE n) (1 + 2 * boolNat a.a5 + 4 * boolNat a.epr)
    else s

/-! PORT_n_CFG (R225, R226, R233, R248). -/

def execPortCfgWrite (p : Path) (n : Fin 3) (v : Word) (s : State) : Host.Outcome State Fault Refusal :=
  s.act fun s => s.inOrder p (R.PORT_CFG n) (s.rd (R.PORT_CFG n)) v fun v s => s.writePortCfg n v (p == .headland)

/-! Contracts as Sink (R235, R241, R243). -/

/-- The request data object of R235. -/
def rdoOf (pos ma : Nat) (mismatch : Bool) : Nat :=
  2 ^ 28 * (pos % 16) + 2 ^ 26 * boolNat mismatch + 2 ^ 24 + 1024 * (ma / 10) + ma / 10

/-- The Fixed objects of the partner that match a Fixed object of the port: position, mV, mA. -/
def State.sinkChoices (s : State) (n : Nat) (caps : List Nat) : List (Nat × Nat × Nat) :=
  (caps.zipIdx).flatMap (fun x =>
    if ¬ pdoFixed x.1 ∨ pdoMv x.1 < s.nodeVmin (12 + n) ∨ s.nodeVmax (12 + n) < pdoMv x.1 then []
    else
      match (s.sinkPdos n).find? (fun p => pdoFixed p && pdoMv p == pdoMv x.1) with
      | none => []
      | some p => [(x.2 + 1, pdoMv x.1, min (min (pdoMa x.1) (pdoMa p)) (s.cableMa n))])

/-- The choice of R235: the largest power, the higher voltage among equals. -/
def bestChoice : List (Nat × Nat × Nat) → Option (Nat × Nat × Nat)
  | [] => none
  | x :: t =>
    match bestChoice t with
    | none => some x
    | some y => if x.2.1 * x.2.2 > y.2.1 * y.2.2 ∨ (x.2.1 * x.2.2 = y.2.1 * y.2.2 ∧ x.2.1 ≥ y.2.1) then some x else some y

/-- The 5 V object's request, with Capability Mismatch. -/
def State.fiveVolt (s : State) (n : Nat) (caps : List Nat) : Nat × Nat × Nat :=
  let pdo := caps.headD 0
  let own := ((s.sinkPdos n).find? (fun p => pdoFixed p && pdoMv p == 5000)).getD pdo
  (1, 5000, min (min (pdoMa pdo) (pdoMa own)) (s.cableMa n))

/-- The autonomous Sink's Request is sent (R235). -/
def State.sendRequest (s : State) (n : Nat) (caps : List Nat) : State :=
  let pick := match bestChoice (s.sinkChoices n caps) with
    | some x => if x.2.1 * x.2.2 < s.f (R.PORT_SNK_CFG n) F.PORT_SNK_CFG_PMIN * 100000 then (s.fiveVolt n caps, true) else (x, false)
    | none => (s.fiveVolt n caps, true)
  let rdo := rdoOf pick.1.1 pick.1.2.2 pick.2
  let s := s.setPort n { s.port n with reqRdo := rdo, newMv := pick.1.2.1, newMa := pick.1.2.2, pps := false, reqAt := s.cyc }
  ((s.setPe n 4).pdData n datRequest (leBytes 4 rdo)).startTimer n .senderResponse

/-- A message that waits for host policy's answer (R238). -/
def State.awaitHost (s : State) (n header : Nat) : State :=
  s.setPort n { s.port n with hostWait := some header, hostAt := s.cyc, lateTo := none }

/-- Hard Reset recovery of a Sink ends (R246): it waits for capabilities anew. -/
def State.endSinkRecovery (s : State) (n : Nat) : State :=
  (s.setPort n { s.port n with hardRecov := false }).sinkStart n

/-- Source_Capabilities are received (R234, R235, R237). -/
def execSourceCapabilitiesRx (n : Fin 3) (m : PdMsg) (s : State) : Host.Outcome State Fault Refusal :=
  s.act fun s =>
    let a := s.pdAck n false m.header
    let s := a.1
    if !a.2 ∨ (s.port n).frs ∨ (s.port n).bist ≠ 0 then s
    else if s.isSrc n then (if s.hostPolicy n then (s.ownDone n).portForward n m else s)
    else if (s.port n).moving then s.portFailure n
    else
      let s := if (s.port n).hardRecov then s.endSinkRecovery n else s
      let caps := objects 13 m.data
      let s := (s.setPort n { s.port n with capsRx := caps }).stopTimer n .sinkWaitCap
      if s.hostPolicy n then (s.portForward n m).awaitHost n m.header
      else if s.pe n = 2 ∨ s.pe n = 6 then s.sendRequest n caps
      else s

/-! Contracts as Source (R236, R237, R242, R243, R247). -/

/-- What a Request asks for under capabilities: mV, mA, and whether it is a programmable supply's (R243). -/
def requestOf (caps : List Nat) (rdo : Nat) : Option (Nat × Nat × Bool) :=
  let pos := bitsOf rdo 28 4
  let pdo := if pos = 0 then 0 else caps.getD (pos - 1) 0
  if pdo = 0 then none
  else if pdoFixed pdo then
    (if bitsOf rdo 10 10 * 10 ≤ pdoMa pdo then some (pdoMv pdo, bitsOf rdo 10 10 * 10, false) else none)
  else if bitsOf pdo 28 4 = 0xC then
    let mv := bitsOf rdo 9 12 * 20
    let ma := bitsOf rdo 0 7 * 50
    if bitsOf pdo 8 8 * 100 ≤ mv ∧ mv ≤ bitsOf pdo 17 8 * 100 ∧ ma ≤ bitsOf pdo 0 7 * 50 then some (mv, ma, true) else none
  else if bitsOf pdo 28 4 = 0xD then
    let mv := bitsOf rdo 9 12 * 25
    let ma := bitsOf rdo 0 7 * 50
    if mv % 100 = 0 ∧ bitsOf pdo 8 8 * 100 ≤ mv ∧ mv ≤ bitsOf pdo 17 9 * 100 ∧ mv * ma ≤ bitsOf pdo 0 8 * 1000000 then
      some (mv, ma, true)
    else none
  else none

/-- The checks of R236 and R237 on a Request. -/
def State.requestOk (s : State) (n rdo : Nat) : Option (Nat × Nat × Bool) :=
  match requestOf (s.port n).capsTx rdo with
  | none => none
  | some (mv, ma, pps) =>
    if ma ≤ s.cableMa n ∧ s.nodeVmin (12 + n) ≤ mv ∧ mv ≤ s.nodeVmax (12 + n)
        ∧ s.plan.all (fun p => p.2.order.target != 12 + n || (decide (p.2.order.vMin ≤ mv) && decide (mv ≤ p.2.order.vMax))) then
      some (mv, ma, pps)
    else none

/-- A source transition begins at Accept (R247). -/
def State.sourceMove (s : State) (n rdo mv ma : Nat) (pps : Bool) : State :=
  let s := s.setPort n { s.port n with
    reqRdo := rdo, newMv := mv, newMa := ma, pps := pps, moving := true, moveAt := s.cyc, refFrom := (s.port n).refMv, refTicks := 0,
    setAt := none, sagAt := none, hostWait := none }
  (s.ownDone n).setPe n 10

/-- A Request is received (R234, R236, R237). -/
def execRequestRx (n : Fin 3) (m : PdMsg) (s : State) : Host.Outcome State Fault Refusal :=
  s.act fun s =>
    let a := s.pdAck n false m.header
    let s := a.1
    if !a.2 ∨ s.conn n ≠ cnSource ∨ (s.port n).hardRecov ∨ (s.port n).bist ≠ 0 then s
    else
      let rdo := leAt m.data 0 4
      let s := s.setPort n { s.port n with reqAt := s.cyc }
      if (s.port n).moving then s.portFailure n
      else if s.hostPolicy n then
        (((s.setPort n { s.port n with reqRdo := rdo }).ownDone n).portForward n m).awaitHost n m.header
      else
        match s.requestOk n rdo with
        | some (mv, ma, pps) => (s.pdCtl n ctlAccept).sourceMove n rdo mv ma pps
        | none =>
          let s := (s.ownDone n).pdCtl n ctlReject
          if s.explicit n then s.setPe n 11 else s.awaitCaps n

/-- VBUS has been within 5 % of the new voltage for 1 ms, after tSrcTransition (R247): PS_RDY is sent and the contract applied. -/
def execSrcTransitionSettled (n : Fin 3) (s : State) : Host.Outcome State Fault Refusal :=
  s.act fun s =>
    let r := s.port n
    if s.isSrc n ∧ s.attached n ∧ r.moving ∧ r.moveAt + 30 * msCyc ≤ s.cyc ∧ s.heldFor r.setAt msCyc then
      let s := (s.pdCtl n ctlPsRdy).setPort n { (s.pdCtl n ctlPsRdy).port n with dschg := false }
      (s.applyContract n).setPe n 11
    else s

/-- The bound of step 3 of R247, from the Accept on: 30 ms and 275 ms, or 25 ms for a PPS or AVS step of at most 500 mV. -/
def State.moveBound (s : State) (n : Nat) : Nat :=
  let r := s.port n
  let dv := (r.newMv - r.refFrom) + (r.refFrom - r.newMv)
  (30 + if r.pps ∧ dv ≤ 500 then 25 else 275) * msCyc

/-- A source transition does not settle in time, or VBUS under a contract stays low for 10 ms outside current limit (R242, R247). -/
def execPdSrcTransition (n : Fin 3) (s : State) : Host.Outcome State Fault Refusal :=
  s.act fun s =>
    let r := s.port n
    if s.isSrc n ∧ s.attached n ∧ ((r.moving ∧ r.moveAt + s.moveBound n ≤ s.cyc)
        ∨ (s.explicit n ∧ ¬ r.moving ∧ s.heldFor r.sagAt (10 * msCyc))) then
      (s.sendHard n).raise 0x76 n (faultRec (s.supV (3 + n)) (if r.moving then r.newMv else s.contractMv n))
    else s

/-! Accept, PS_RDY, swaps (R234, R241, R250). -/

/-- `ownMsg` codes beside the control types: data messages at 0x100, an accepted PR_Swap. -/
def ownCaps : Nat := 0x100 + datSourceCap
def ownRequest : Nat := 0x100 + datRequest
def ownSwapTaken : Nat := 0x200 + ctlPrSwap

def isSwap (h : Nat) : Bool :=
  hdrCtl h && (hdrType h == ctlPrSwap || hdrType h == ctlDrSwap || hdrType h == ctlVconnSwap)

/-- The power negotiation starts over, after a Soft_Reset (R234). -/
def State.restartPe (s : State) (n : Nat) : State :=
  let s := (s.ownDone n).setPort n { (s.ownDone n).port n with hostWait := none, lateTo := none }
  if s.isSrc n then (if s.hostPolicy n then s else s.sendCaps n)
  else
    let s := s.startTimer n .sinkWaitCap
    if s.hostPolicy n then s else s.setPe n 2

/-- A message that fits nothing in a READY state takes the ladder; under host policy it passes on (R234, R237, R246). -/
def State.unexpected (s : State) (n : Nat) : State :=
  if (s.port n).moving || s.pe n == 6 || s.pe n == 11 then s.portFailure n else s

/-- The data role changes hands (R234, R240). -/
def State.drDone (s : State) (n : Nat) : State :=
  (s.setPS n F.PORT_STATUS_DATA_ROLE (1 - s.f (R.PORT_STATUS n) F.PORT_STATUS_DATA_ROLE)).portEvent n 0x0008 2 []

/-- An accepted VCONN_Swap (R231, R234; its PS_RDY is USB Power Delivery's, log 64): the new source of VCONN turns it on and sends PS_RDY; the
old one waits for that. -/
def State.vconnTaken (s : State) (n : Nat) : State :=
  if s.flag (R.PORT_STATUS n) F.PORT_STATUS_VCONN_ON then s.setPort n { s.port n with vconnSwap := true }
  else ((s.setPS n F.PORT_STATUS_VCONN_ON 1).pdCtl n ctlPsRdy).portEvent n 0x0008 3 []

/-- An Accept is received (R234, R237, R241, R249). -/
def execAcceptRx (n : Fin 3) (header : Nat) (s : State) : Host.Outcome State Fault Refusal :=
  s.act fun s =>
    let a := s.pdAck n false header
    let s := a.1
    if !a.2 ∨ (s.port n).hardRecov ∨ (s.port n).bist ≠ 0 then s
    else
      let own := (s.port n).ownMsg
      let s := if s.hostPolicy n then s.portForward n ⟨false, header, 0, []⟩ else s
      if (s.port n).frs then (if (s.port n).frsStep = 4 then s.setPort n { s.port n with frsStep := 5, frsAt := s.cyc } else s)
      else if (s.port n).moving then s.portFailure n
      else if own = some ctlSoftReset then s.restartPe n
      else if s.pe n = 4 ∨ (s.conn n = cnSink ∧ own = some ownRequest) then ((s.ownDone n).standbyPower n).setPe n 5
      else if own = some ctlPrSwap then (s.ownDone n).setPort n { (s.ownDone n).port n with ownMsg := some ownSwapTaken }
      else if own = some ctlDrSwap then (s.ownDone n).drDone n
      else if own = some ctlVconnSwap then (s.ownDone n).vconnTaken n
      else if s.hostPolicy n then s
      else s.unexpected n

/-- A PS_RDY is received: a Sink applies its contract (R241); in a swap the port takes its new role (R250) or gives VCONN up. -/
def execPsRdyRx (n : Fin 3) (header : Nat) (s : State) : Host.Outcome State Fault Refusal :=
  s.act fun s =>
    let a := s.pdAck n false header
    let s := a.1
    if !a.2 ∨ (s.port n).hardRecov ∨ (s.port n).frs ∨ (s.port n).bist ≠ 0 then s
    else
      let s := if s.hostPolicy n then s.portForward n ⟨false, header, 0, []⟩ else s
      if (s.port n).prSwap then
        if s.isSrc n then
          let s := ((s.setPS n F.PORT_STATUS_CONN cnSink).setPS n F.PORT_STATUS_PWR_ROLE 0).stopTimer n .psSourceOn
          ((s.setPort n { s.port n with prSwap := false, presSrc := false }).sinkStart n).portEvent n 0x0008 1 []
        else
          let s := ((s.setPS n F.PORT_STATUS_CONN cnSource).setPS n F.PORT_STATUS_PWR_ROLE 1).stopTimer n .psSourceOff
          let s := s.setPS n F.PORT_STATUS_DB 0
          ((s.setPort n { s.port n with presSrc := true }).setPe n 7).sourceFive n
      else if (s.port n).vconnSwap then
        ((s.vconnOff n).setPort n { s.port n with vconnSwap := false }).portEvent n 0x0008 3 []
      else if s.conn n = cnSink ∧ (s.port n).moving then (s.applyContract n).setPe n 6
      else if s.hostPolicy n then s
      else s.unexpected n

/-- An accepted PR_Swap (R250): from Sink the supply is LOST with its hand-over; from Source the orders on the port end and VBUS
goes to vSafe0V. -/
def execPrSwap (n : Fin 3) (s : State) : Host.Outcome State Fault Refusal :=
  s.act fun s =>
    if s.attached n ∧ (s.port n).ownMsg = some ownSwapTaken then
      let src := s.isSrc n
      let s := s.portDrop n true src
      let s := s.setPort n { s.port n with prSwap := true, srcStep := if src then 1 else 0, srcAt := s.cyc }
      if src then s else s.startTimer n .psSourceOff
    else s

/-! Other messages (R223, R234, R237, R238, R244, R251, R253). -/

/-- EPR_Mode Enter may be sent or accepted (R244). -/
def State.eprAllowed (s : State) (n : Nat) : Bool :=
  s.flag (R.PORT_CFG n) F.PORT_CFG_EPR_EN && s.hostPolicy n && decide (28000 ≤ s.nodeVmax (12 + n)) &&
    s.f (R.PORT_CABLE n) ⟨0, 3⟩ == 7

/-- EPR mode begins or ends, with its event. -/
def State.eprEnter (s : State) (n : Nat) : State := (s.setPS n F.PORT_STATUS_EPR 1).portEvent n 0x000B 0 []
def State.eprExit (s : State) (n : Nat) : State :=
  if s.flag (R.PORT_STATUS n) F.PORT_STATUS_EPR then (s.setPS n F.PORT_STATUS_EPR 0).portEvent n 0x000C 0 [] else s

/-- A Discover Identity answer on SOP (R253; log 20): ID Header, Cert Stat, Product. -/
def State.identityAck (s : State) (n vdm : Nat) : State :=
  let hdr := vdm / 256 * 256 + 64 + vdm % 32
  let id := 3 * 2 ^ 27 + 3 * 2 ^ 23 + s.f R.PD_ID F.PD_ID_VID
  s.pdData n datVdm (leBytes 4 hdr ++ leBytes 4 id ++ leBytes 4 0 ++ leBytes 4 (s.f R.PD_ID F.PD_ID_PID * 65536 + 1))

/-- Structured and unstructured VDMs under the autonomous policy (R253). -/
def State.autoVdm (s : State) (n vdm : Nat) : State :=
  let cmd := vdm % 32
  let req := decide (bitsOf vdm 6 2 = 0)
  if bitsOf vdm 15 1 = 0 then (if s.rev3 n then s.pdCtl n ctlNotSupported else s)
  else if ¬ req ∨ cmd = 6 then s
  else if cmd = 2 then s.pdData n datVdm (leBytes 4 (vdm / 256 * 256 + 64 + 2) ++ leBytes 4 0)
  else s.pdData n datVdm (leBytes 4 (vdm / 256 * 256 + 128 + cmd))

/-- Whether a received message requires an answer of host policy (R238). -/
def needsAnswer (h : Nat) (data : List Byte) : Bool :=
  if hdrExt h then false
  else if hdrCtl h then [7, 8, 9, 10, 11, 17, 18, 19, 20, 21, 22, 23, 24].contains (hdrType h)
  else [1, 2, 7, 9, 10].contains (hdrType h)
    || (hdrType h == datVdm && bitsOf (leAt data 0 4) 15 1 == 1 && bitsOf (leAt data 0 4) 6 2 == 0 && leAt data 0 4 % 32 != 6)

/-- A mode in force (R253): an ACK to Enter Mode adds it, one to Exit Mode ends it, at position 7 all of its SVID (log 64). -/
def State.trackMode (s : State) (n vdm : Nat) : State :=
  let r := s.port n
  let m := (vdm / 65536, bitsOf vdm 8 3)
  if bitsOf vdm 15 1 = 0 ∨ bitsOf vdm 6 2 ≠ 1 then s
  else if vdm % 32 = 4 then s.setPort n { r with modes := if r.modes.contains m then r.modes else m :: r.modes }
  else if vdm % 32 = 5 then s.setPort n { r with modes := r.modes.filter (fun x => x.1 != m.1 || (m.2 != 7 && x.2 != m.2)) }
  else s

/-- A VDM of the partner ends the wait for it, and may begin or end a mode. -/
def State.vdmRx (s : State) (n vdm : Nat) : State :=
  (((s.stopTimer n .vdmResponse).stopTimer n .vdmModeEntry).stopTimer n .vdmModeExit).trackMode n vdm

/-- The further chunks of an extended message are requested (R222, R239). -/
def State.askChunks (s : State) (n : Nat) (m : PdMsg) : State :=
  s.each (List.range (ceilDiv (m.extHeader % 512) 26 - 1)) (fun k s =>
    s.pdSend n false (hdrType m.header) 1 true (extHeader 0 true (k + 1) ++ [0#8, 0#8]))

/-- A BIST message (R222; its objects and its limit to 5 V are USB Power Delivery's, log 64): Carrier Mode for tBISTContMode, or Test Data. -/
def State.bistRx (s : State) (n obj : Nat) : State :=
  if 5000 < s.contractMv n then s
  else if bitsOf obj 28 4 = 5 then ((s.emit (.pdSignal n 3)).setPort n { s.port n with bist := 1 }).startTimer n .bistCont
  else if bitsOf obj 28 4 = 8 then s.setPort n { s.port n with bist := 2 }
  else s

/-- An answer to the port's own message under host policy: Reject, Wait or Not_Supported. -/
def isRefusal (h : Nat) : Bool := hdrCtl h && (hdrType h == ctlReject || hdrType h == ctlWait || hdrType h == ctlNotSupported)

/-- Host policy receives a message (R237, R243, R244, R251). EPR_KeepAlive and its acknowledgement are the hardware's (log 64). -/
def State.hostMessage (s : State) (n : Nat) (m : PdMsg) : State :=
  let h := m.header
  let own := (s.port n).ownMsg
  let ownSwap := own == some ctlPrSwap || own == some ctlDrSwap || own == some ctlVconnSwap
  let act := leAt m.data 3 1
  if hdrExt h ∧ hdrType h = 16 ∧ leAt m.data 0 1 = 3 then s.pdExt n false 16 [4#8, 0#8]
  else if hdrExt h ∧ hdrType h = 16 ∧ leAt m.data 0 1 = 4 then s
  else if isSwap h && ownSwap && s.isSrc n then s.pdCtl n (if s.rev3 n then ctlWait else ctlReject)
  else
    let s := if (isSwap h && ownSwap) || isRefusal h then s.ownDone n else s
    if ¬ hdrCtl h ∧ ¬ hdrExt h ∧ hdrType h = datEprMode ∧ act = 1 ∧ ¬ s.eprAllowed n then
      s.pdData n datEprMode (leBytes 4 0x04000000)
    else
      let s := s.portForward n m
      let s := if hdrExt h ∧ hdrType h = 17 then s.setPort n { s.port n with capsRx := objects 13 m.data } else s
      let s := if ¬ hdrCtl h ∧ ¬ hdrExt h ∧ hdrType h = datVdm then s.vdmRx n (leAt m.data 0 4) else s
      let s := if needsAnswer h m.data then s.awaitHost n h
        else if ¬ hdrCtl h ∨ hdrExt h then s.ownDone n else s
      if ¬ hdrCtl h ∧ ¬ hdrExt h ∧ hdrType h = datEprMode then
        (if act = 3 then s.eprEnter n else if act = 5 then s.eprExit n else s)
      else s

/-- The autonomous engine receives a message (R223, R234). -/
def State.autoMessage (s : State) (n : Nat) (m : PdMsg) : State :=
  let h := m.header
  let t := hdrType h
  let c := R.PORT_CFG n
  let ready := s.pe n == 6 || s.pe n == 11
  let role := s.cfgOf n F.PORT_CFG_ROLE
  if hdrExt h then s.pdUnsupported n
  else if hdrCtl h then
    if s.pe n = 4 ∧ (t = ctlWait ∨ t = ctlReject ∨ t = ctlNotSupported) then
      let s := s.stopTimer n .senderResponse
      let s := if t = ctlWait then s.startTimer n .sinkRequest else s
      if s.explicit n then s.setPe n 6 else (s.startTimer n .sinkWaitCap).setPe n 2
    else if t = ctlDrSwap ∧ ready then
      (if s.flag c F.PORT_CFG_SWAP_DR then (s.pdCtl n ctlAccept).drDone n else s.pdCtl n ctlReject)
    else if t = ctlPrSwap ∧ ready then
      (if s.flag c F.PORT_CFG_SWAP_PR then (s.pdCtl n ctlAccept).setPort n { (s.pdCtl n ctlAccept).port n with ownMsg := some ownSwapTaken }
       else s.pdCtl n ctlReject)
    else if t = ctlVconnSwap ∧ ready then
      (if s.flag c F.PORT_CFG_SWAP_VCONN then (s.pdCtl n ctlAccept).vconnTaken n else s.pdCtl n ctlReject)
    else if t = ctlGetSourceCap then
      (if role = 2 ∨ role = 3 then s.pdData n datSourceCap (objBytes (s.sourcePdos n)) else s.pdUnsupported n)
    else if t = ctlGetSinkCap then
      (if role = 1 ∨ role = 3 then s.pdData n datSinkCap (objBytes (s.sinkPdos n)) else s.pdUnsupported n)
    else if t = 2 ∨ (17 ≤ t ∧ t ≤ 24) then s.pdUnsupported n
    else if t = 1 ∨ t = 5 ∨ t = ctlNotSupported then s
    else s.unexpected n
  else if t = datVdm then s.autoVdm n (leAt m.data 0 4)
  else if t = 7 ∨ t = datEprRequest ∨ t = datEprMode then s.pdUnsupported n
  else if t = 6 then s
  else s.unexpected n

/-- Another PD message is received (R234): Soft_Reset is accepted, Enter_USB and unchunked extended messages are unsupported (R223), Discover
Identity is answered, in both policies; the rest goes to the policy in force. SOP'' is not received, and an SOP' message answers the
port's own. BIST Test Data is only acknowledged (R222). -/
def execPdMessageRx (n : Fin 3) (m : PdMsg) (s : State) : Host.Outcome State Fault Refusal :=
  s.act fun s =>
    let h := m.header
    if m.sopP ∧ ¬ s.flag (R.PORT_STATUS n) F.PORT_STATUS_VCONN_ON then s
    else
      let a := s.pdAck n m.sopP h
      let s := a.1
      if !a.2 ∨ (s.port n).hardRecov ∨ (s.port n).bist ≠ 0 then s
      else if m.sopP then (if s.hostPolicy n then s.portForward n m else s)
      else
        let vdm := leAt m.data 0 4
        if hdrCtl h ∧ hdrType h = ctlSoftReset then
          let s := ((s.pdCtl n ctlAccept).bump (R.PORT_CNT n) F.PORT_CNT_SOFT 1).portEvent n 0x0005 2 []
          if (s.port n).moving then s.sendHard n else s.restartPe n
        else if (s.port n).moving then s.portFailure n
        else if hdrExt h ∧ bitsOf m.extHeader 15 1 = 0 then s.pdUnsupported n
        else if ¬ hdrCtl h ∧ ¬ hdrExt h ∧ hdrType h = datEnterUsb then s.pdUnsupported n
        else if ¬ hdrCtl h ∧ ¬ hdrExt h ∧ hdrType h = datVdm ∧ bitsOf vdm 15 1 = 1 ∧ bitsOf vdm 6 2 = 0 ∧ vdm % 32 = 1 then
          s.identityAck n vdm
        else if ¬ hdrCtl h ∧ ¬ hdrExt h ∧ hdrType h = datBist then s.bistRx n vdm
        else if s.hostPolicy n then (if hdrExt h then s.askChunks n m else s).hostMessage n m
        else s.autoMessage n m

/-! Resets, timers, keep-alives (R243, R245, R246). -/

/-- A Hard_Reset is received (R246). -/
def execHardResetRx (n : Fin 3) (s : State) : Host.Outcome State Fault Refusal :=
  s.act fun s =>
    if s.attached n ∧ (s.port n).policyReady then
      let s := s.bump (R.PORT_CNT n) F.PORT_CNT_HARD 1
      ((s.hardRecovery n).raise 0x70 n []).portEvent n 0x0004 2 []
    else s

/-- The ladder is exhausted (R246): ErrorRecovery where the partner has sent a PD message; else the Type-C supply goes on alone. -/
def State.ladderEnd (s : State) (n : Nat) : State :=
  if (s.port n).everPd then s.ladderRecovery n
  else
    let was := (s.port n).hardRecov
    let s := (s.setPort n { s.port n with hardRecov := false, timers := [] }).portEvent n 0x000A 0 []
    if s.isSrc n then (if was then s.sourceStart n else s).setPe n 12 else (s.setPe n 16).implicitSupply n

/-- tSenderResponse expires (R234, R246). -/
def State.senderResponse (s : State) (n : Nat) : State :=
  let own := (s.port n).ownMsg
  if (s.port n).moving ∨ s.pe n = 4 ∨ s.pe n = 9 ∨ s.pe n = 13 ∨ own = some ctlSoftReset ∨ own = some ownRequest
      ∨ own = some ownCaps then s.sendHard n
  else if own.isSome then s.sendSoft n
  else s

/-- No GoodCRC after all retries, for a message the device sent of itself (R234, R246). -/
def State.noGoodCrc (s : State) (n : Nat) : State :=
  let s := (match (s.port n).lastTx with
    | some m => s.emits (List.replicate (s.retries n) m)
    | none => s)
  let s := s.setPort n { s.port n with lastTx := none }
  if (s.port n).hardRecov ∨ (s.port n).frs then s
  else if s.pe n = 9 then s.awaitCaps n
  else if s.pe n = 13 ∨ (s.port n).ownMsg = some ctlSoftReset then s.sendHard n
  else s.portFailure n

/-- A timer of the unattached states expires (R225, R245; log 64): Try.SRC gives way to TryWait.SNK, Try.SNK to TryWait.SRC, and that to
Unattached. -/
def State.tryExpired (s : State) (n : Nat) (t : PdTimer) : State :=
  let c := s.conn n
  let toSnk := ((s.setPort n { s.port n with presSrc := false, ccAt := none, timers := [] }).setPS n F.PORT_STATUS_CONN cnTryWaitSnk)
  let toSrc := (((s.setPort n { s.port n with presSrc := true, ccAt := none, timers := [] }).setPS n F.PORT_STATUS_CONN
    cnTryWaitSrc).startTimer n .drpTry)
  if c = cnTrySrc then (if t = .tryTimeout ∨ s.supV (3 + n) ≤ 800 then toSnk else s)
  else if c = cnTrySnk then (if t = .drpTryWait then toSrc else s)
  else if c = cnTryWaitSrc ∧ t = .drpTry then s.enterUnattached n
  else s

/-- What an expired PD timer does at an attached port with a policy (R234, R245, R246). -/
def State.pdExpired (s : State) (n : Nat) (t : PdTimer) : State :=
  match t with
  | .senderResponse => if (s.port n).hardRecov ∨ (s.port n).frs then s else s.senderResponse n
  | .sinkWaitCap =>
    if s.conn n = cnSink ∧ ¬ s.explicit n ∧ ¬ (s.port n).hardRecov ∧ ¬ (s.port n).moving ∧ (s.pe n = 2 ∨ s.pe n = 31) then
      s.sendHard n
    else s
  | .psTransition => if (s.port n).moving then s.sendHard n else s
  | .psSourceOff => if (s.port n).prSwap then s.sendHard n else s
  | .psSourceOn => if (s.port n).prSwap then s.sendHard n else s
  | .noResponse =>
    if s.explicit n then s
    else if 2 < (s.port n).hardSent then s.ladderEnd n
    else s.sendHard n
  | .sourceCap => if s.pe n ≠ 8 then s else if (s.port n).capsSent < 50 then s.sendCaps n else s.setPe n 12
  | .ppsTimeout => if s.isSrc n ∧ s.explicit n ∧ (s.port n).pps then s.sendHard n else s
  | .sourceEprKeepAlive => if s.isSrc n ∧ s.flag (R.PORT_STATUS n) F.PORT_STATUS_EPR then s.sendHard n else s
  | .sinkRequest =>
    if s.conn n = cnSink ∧ (s.pe n = 2 ∨ s.pe n = 6) ∧ (s.port n).reqRdo ≠ 0 then
      let s := (s.setPe n 4).pdData n datRequest (leBytes 4 (s.port n).reqRdo)
      (s.setPort n { s.port n with reqAt := s.cyc }).startTimer n .senderResponse
    else s
  | .noGoodCrc => s.noGoodCrc n
  | .psHardReset => if s.conn n = cnSink ∧ (s.port n).hardRecov then s.endSinkRecovery n else s
  | .srcRecover =>
    if s.conn n = cnSource ∧ (s.port n).hardRecov then (s.setPort n { s.port n with hardRecov := false }).sourceStart n
    else s
  | .bistCont => s.setPort n { s.port n with bist := 0 }
  | .errorRecovery => s
  | .drpTry => s
  | .drpTryWait => s
  | .tryTimeout => s
  | .vdmResponse => s
  | .vdmModeEntry => s
  | .vdmModeExit => s

/-- A PD timer that runs has reached its time (R245, R246). -/
def execPdTimerExpiry (n : Fin 3) (t : PdTimer) (s : State) : Host.Outcome State Fault Refusal :=
  s.act fun s =>
    if !s.timerDue n t then s
    else
      let s := s.stopTimer n t
      if t = .errorRecovery then
        if s.conn n ≠ cnErrorRecovery then s
        else if s.heldPort n then s.setPort n { s.port n with recDone := true }
        else s.enterUnattached n
      else if t = .drpTry ∨ t = .drpTryWait ∨ t = .tryTimeout then s.tryExpired n t
      else if ¬ s.attached n ∨ ¬ (s.port n).policyReady then s
      else s.pdExpired n t

/-- The last Request is repeated every 8 s under PPS (R243). -/
def execPpsRequestRepeat (n : Fin 3) (s : State) : Host.Outcome State Fault Refusal :=
  s.act fun s =>
    if s.conn n = cnSink ∧ s.attached n ∧ s.explicit n ∧ (s.port n).pps ∧ ¬ (s.port n).moving
        ∧ (s.port n).reqAt + 8000 * msCyc ≤ s.cyc then
      let s := (s.setPort n { s.port n with reqAt := s.cyc }).pdData n datRequest (leBytes 4 (s.port n).reqRdo)
      s.ownSent n ownRequest
    else s

/-- EPR_KeepAlive is sent after 375 ms without another message (R243). -/
def execEprKeepalive (n : Fin 3) (s : State) : Host.Outcome State Fault Refusal :=
  s.act fun s =>
    if s.conn n = cnSink ∧ s.attached n ∧ s.flag (R.PORT_STATUS n) F.PORT_STATUS_EPR ∧ (s.port n).txAt + 375 * msCyc ≤ s.cyc then
      s.pdExt n false 16 [3#8, 0#8]
    else s

/-- HP_RESP_MS in cycles; values beyond 2–14 act as 12. -/
def State.hpCycles (s : State) : Nat :=
  let v := s.f R.PD_HP_CFG F.PD_HP_CFG_HP_RESP_MS
  (if 2 ≤ v ∧ v ≤ 14 then v else 12) * msCyc

/-- Host policy has not answered within HP_RESP_MS, and the device does (R238). -/
def execHpLate (n : Fin 3) (header : Nat) (s : State) : Host.Outcome State Fault Refusal :=
  s.act fun s =>
    if s.attached n ∧ s.hostPolicy n ∧ (s.port n).hostWait = some header ∧ (s.port n).hostAt + s.hpCycles ≤ s.cyc then
      let request := !hdrCtl header && !hdrExt header && (hdrType header == datRequest || hdrType header == datEprRequest)
      let s := if request || isSwap header then s.pdCtl n (if s.rev3 n then ctlWait else ctlReject) else s.pdUnsupported n
      let s := s.setPort n { s.port n with hostWait := none, lateTo := some header }
      let s := s.bump (R.PORT_CNT n) F.PORT_CNT_LATE 1
      (s.portEvent n 0x0009 0 (leBytes 2 header)).raise 0x7A n (leBytes 4 header)
    else s

/-! Fast Role Swap (R248, R249). -/

def State.frsStage (s : State) (n : Nat) : Nat := s.f (R.PORT_SRC_CFG n) F.PORT_SRC_CFG_FRS_STAGE

/-- FRS fails at a step (R249). -/
def State.frsFailed (s : State) (n step : Nat) : State :=
  ((s.portEvent n 0x0007 step []).enterErrorRecovery n).raise 0x77 n (leBytes 4 step)

/-- The FRS signal of an armed port: the supply is LOST with its hand-over, the port's stages are released, and the port is on its way to
Source at 5 V (step 1 of R249). -/
def State.frsBegin (s : State) (n : Nat) : State :=
  let s := s.loseSupply (3 + n) supLost false
  let s := (s.stagesOutOf (12 + n)).foldl (fun s j =>
    (if s.stageRuns j then s.stopStage j stReady else s).wrN (R.STAGE_CEIL j) 0) s
  let s := s.setPort n { s.port n with
    frs := true, frsStep := 4, frsAt := s.cyc, moving := false, prSwap := false, vconnSwap := false, ownMsg := none, hostWait := none,
    refMv := 5000, budget := 0, timers := [] }
  (s.setPS n F.PORT_STATUS_FRS_ARMED 0).trigReval 0x0002

/-- The FRS signal: steps 1, 2 and 4 of R249. -/
def execFrsSignal (n : Fin 3) (s : State) : Host.Outcome State Fault Refusal :=
  s.act fun s =>
    if ¬ s.attached n ∨ ¬ s.flag (R.PORT_STATUS n) F.PORT_STATUS_FRS_ARMED then s
    else
      let k := s.frsStage n
      let s := s.frsBegin n
      let s := if s.mayStart k then s.leaveReady k false (fun s => s.enterRun k false) else s
      if s.stageRuns k then s.pdCtl n ctlFrSwap else s.frsFailed n 2

/-- The partner's PS_RDY after its Accept (step 5 of R249). -/
def execFrsDone (n : Fin 3) (header : Nat) (s : State) : Host.Outcome State Fault Refusal :=
  s.act fun s =>
    let a := s.pdAck n false header
    let s := a.1
    if a.2 ∧ (s.port n).frs ∧ (s.port n).frsStep = 5 then
      let s := ((s.setPS n F.PORT_STATUS_CONN cnSource).setPS n F.PORT_STATUS_PWR_ROLE 1).setPS n F.PORT_STATUS_DB 0
      let s := s.pdCtl n ctlPsRdy
      let s := ((s.setPS n F.PORT_STATUS_EXPLICIT 0).wrN (R.PORT_CONTRACT n) 0).wrN (R.PORT_RDO n) 0
      let s := s.setPort n { s.port n with frs := false, frsStep := 0, limit := 0, presSrc := true }
      (s.setSupState (3 + n) supAbsent).portEvent n 0x0006 0 []
    else s

/-- No Accept or PS_RDY within tSenderResponse, or the stage does not run (R249). -/
def execFrsFail (n : Fin 3) (s : State) : Host.Outcome State Fault Refusal :=
  s.act fun s =>
    let runs := s.stageRuns (s.frsStage n)
    if (s.port n).frs ∧ (!runs ∨ (s.port n).frsAt + 27 * msCyc ≤ s.cyc) then s.frsFailed n (if runs then 5 else 2) else s

/-! Detach (R252) and BC 1.2 (R254). -/

/-- A detach is confirmed: steps 1 to 4 of R252. By VBUS, below 3,670 mV for 10 µs, only as Sink, outside a Hard Reset recovery and a Fast
Role Swap. Before the attach the partner is gone. -/
def execPortDetach (n : Fin 3) (byVbus : Bool) (s : State) : Host.Outcome State Fault Refusal :=
  s.act fun s =>
    let c := s.conn n
    if !(s.port n).configured then (if byVbus then s else s.setPort n { s.port n with seen := none })
    else if c = cnWaitSnk ∨ c = cnWaitSrc ∨ c = cnTryWaitSnk then (if byVbus then s else s.enterUnattached n)
    else if ¬ s.attached n ∨ (byVbus ∧ (c ≠ cnSink ∨ (s.port n).hardRecov ∨ (s.port n).frs ∨ !s.heldFor (s.port n).lowAt 2000)) then s
    else
      let s := (s.portDrop n true true).vconnOff n
      s.setPort n { s.port n with detach := if byVbus then 2 else 1, hardRecov := false, modes := [], timers := [] }

/-- VBUS has fallen to 800 mV: step 6 of R252. -/
def execDetachDischarged (n : Fin 3) (s : State) : Host.Outcome State Fault Refusal :=
  s.act fun s =>
    if (s.port n).detach ≠ 0 ∧ s.supV (3 + n) ≤ 800 then (s.enterUnattached n).portEvent n 0x0002 (s.port n).detach [] else s

/-- BC 1.2 detection ends (R254): the current of the implicit supply, and its event. -/
def execBcDetectionDone (n : Fin 3) (r : Fin 4) (s : State) : Host.Outcome State Fault Refusal :=
  s.act fun s =>
    if s.conn n = cnSink ∧ s.attached n ∧ s.flag (R.PORT_CFG n) F.PORT_CFG_BC_EN
        ∧ s.f (R.PORT_STATUS n) F.PORT_STATUS_TYPEC_CUR = 0 then
      let ma := if r.val = 0 then 0 else if r.val = 1 then 500 else 1500
      let s := (s.setPS n F.PORT_STATUS_BC r).setPort n { s.port n with bcMa := ma }
      let s := if ¬ s.explicit n ∧ (s.port n).budget ≠ 0 then
          s.setPort n { s.port n with budget := 5 * s.implicitMa n, limit := s.implicitMa n }
        else s
      s.portEvent n 0x000D r []
    else s

/-! The PD ring (R239, R240) and the port's control register. -/

/-- The first entry of a PD submission, field by field (R239). -/
structure PdSub where
  op : Nat
  sop : Nat
  port : Nat
  irq : Bool
  tag : Nat
  header : Nat
  ext : Nat
  clean : Bool
  deriving DecidableEq, Repr

def parsePd (e : List Byte) : PdSub :=
  let w := leAt e 0 4
  { op := bitsOf w 0 8, sop := bitsOf w 8 2, port := bitsOf w 10 2, irq := bitsOf w 13 1 == 1, tag := leAt e 4 4,
    header := leAt e 8 2, ext := leAt e 10 2,
    clean := bitsOf w 12 1 == 0 && bitsOf w 14 1 == 0 && bitsOf w 16 16 == 0 }

/-- A PD submission completes. -/
def State.pdComplete (s : State) (pair : Nat) (q : PdSub) (status : Nat) : State :=
  s.complete pair (pdCpl status q.op q.port 0 (q.sop == 1) false (leBytes 4 q.tag) s.now48 0 []) q.irq

/-- The entries of a submission chain as MORE says, at most five; further entries carry zero headers. -/
def pdChainOk (entries : List (List Byte)) : Bool :=
  decide (1 ≤ entries.length ∧ entries.length ≤ 5) && (entries.dropLast).all (fun e => bitsOf (leAt e 0 4) 15 1 == 1)
    && ((entries.getLast?).map (fun e => bitsOf (leAt e 0 4) 15 1 == 0)).getD false
    && (entries.drop 1).all (fun e => leAt e 8 4 == 0 && (parsePd e).clean)

/-- The data of a message: as many bytes as its header (or extended header) says. -/
def pdSubData (entries : List (List Byte)) (header ext : Nat) : List Byte :=
  (entries.flatMap (fun e => slice e 12 52)).take (if hdrExt header then ext % 512 else 4 * hdrCount header)

/-- The reasons of R239 to refuse a SEND; in EPR also a Request beyond the declared range (R244). -/
def State.sendRefused (s : State) (q : PdSub) (data : List Byte) : Bool :=
  let n := q.port
  let h := q.header
  let dat := !hdrCtl h && !hdrExt h
  let vdm := leAt data 0 4
  let act := leAt data 3 1
  let wait := (s.port n).hostWait
  let c := R.PORT_CFG n
  let noSwap := fun (t : Nat) =>
    (t == ctlPrSwap && !s.flag c F.PORT_CFG_SWAP_PR) || (t == ctlDrSwap && !s.flag c F.PORT_CFG_SWAP_DR)
      || (t == ctlVconnSwap && !s.flag c F.PORT_CFG_SWAP_VCONN)
  let wide := fun (rdo : Nat) => match requestOf (s.port n).capsRx rdo with
    | some (mv, _, _) => decide (mv < s.nodeVmin (12 + n) ∨ s.nodeVmax (12 + n) < mv)
    | none => false
  decide (2 < n) || !s.hostPolicy n || !s.attached n || q.op != 1 || !q.clean || decide (1 < q.sop)
    || (hdrCtl h && hdrType h == 1) || (dat && hdrType h == datEnterUsb)
    || (q.sop == 1 && !s.flag (R.PORT_STATUS n) F.PORT_STATUS_VCONN_ON)
    || (dat && hdrType h == datVdm && bitsOf vdm 15 1 == 1 && vdm % 32 == 4 && decide (0xFF00 ≤ vdm / 65536))
    || (dat && hdrType h == datEprMode && (act == 1 || act == 2 || act == 3) && !s.eprAllowed n)
    || (hdrCtl h && noSwap (hdrType h))
    || (hdrCtl h && hdrType h == ctlAccept &&
        (match wait with
         | some w => (!hdrCtl w && (hdrType w == datRequest || hdrType w == datEprRequest) && (s.requestOk n (s.port n).reqRdo).isNone)
                      || (hdrCtl w && noSwap (hdrType w))
         | none => false))
    || (!hdrExt h && q.ext != 0) || (hdrExt h && decide (260 < q.ext % 512))
    || (s.flag (R.PORT_STATUS n) F.PORT_STATUS_EPR && !s.isSrc n && dat && (hdrType h == datRequest || hdrType h == datEprRequest)
        && wide (leAt data 0 4))

/-- A message answers one that the partner sent (R238; message types of USB Power Delivery, log 20). -/
def answersTo (w h : Nat) (data : List Byte) : Bool :=
  let t := hdrType h
  let x := hdrType w
  let dat := !hdrCtl h && !hdrExt h
  let accepts := hdrCtl h && (t == ctlAccept || t == ctlWait)
  let ext := fun (k : Nat) => hdrExt h && t == k
  if hdrCtl h && (t == ctlReject || t == ctlNotSupported) then true
  else if hdrExt w then hdrExt h
  else if hdrCtl w then
    if x = ctlGetSourceCap then dat && t == datSourceCap
    else if x = ctlGetSinkCap then dat && t == datSinkCap
    else if isSwap w then accepts
    else if x = 17 then ext 1
    else if x = 18 then ext 2
    else if x = 20 then ext 12
    else if x = 21 then ext 14
    else if x = 22 then ext 15
    else if x = 23 then dat && t == 11
    else if x = 24 then dat && t == 12
    else false
  else if x = datSourceCap then dat && (t == datRequest || t == datEprRequest)
  else if x = datRequest ∨ x = datEprRequest then accepts
  else if x = datVdm then dat && t == datVdm && bitsOf (leAt data 0 4) 6 2 != 0
  else if x = datEprMode then dat && t == datEprMode
  else if x = 7 then ext 13
  else false

/-- A structured VDM request of host policy starts its timer; an ACK may begin or end a mode (R253). -/
def State.vdmSent (s : State) (n vdm : Nat) : State :=
  if bitsOf vdm 15 1 = 0 then s
  else if bitsOf vdm 6 2 ≠ 0 then s.trackMode n vdm
  else s.startTimer n (if vdm % 32 = 4 then .vdmModeEntry else if vdm % 32 = 5 then .vdmModeExit else .vdmResponse)

/-- What a message that host policy has sent does to the port (R237, R241, R244, R250). -/
def State.hostSent (s : State) (n h : Nat) (data : List Byte) : State :=
  let wait := (s.port n).hostWait
  let t := hdrType h
  let s := s.setPort n { s.port n with
    hostWait := match wait with | some w => if answersTo w h data then none else wait | none => none, lastTx := none }
  if hdrExt h then
    (if t = 17 then
      (s.setPort n { s.port n with capsTx := objects 13 data, capsSent := (s.port n).capsSent + 1 }).ownSent n ownCaps
     else s)
  else if hdrCtl h then
    if t = ctlAccept then
      match wait with
      | none => s
      | some w =>
        if hdrCtl w then
          (if hdrType w = ctlPrSwap then s.setPort n { s.port n with ownMsg := some ownSwapTaken }
           else if hdrType w = ctlDrSwap then s.drDone n
           else if hdrType w = ctlVconnSwap then s.vconnTaken n
           else s)
        else
          match s.requestOk n (s.port n).reqRdo with
          | some (mv, ma, pps) => s.sourceMove n (s.port n).reqRdo mv ma pps
          | none => s
    else if t = ctlReject ∨ t = ctlWait ∨ t = ctlNotSupported then s
    else s.ownSent n t
  else if t = datSourceCap then
    let s := s.setPort n { s.port n with capsTx := objects 7 data, capsSent := (s.port n).capsSent + 1 }
    if s.isSrc n then s.ownSent n ownCaps else s
  else if t = datRequest ∨ t = datEprRequest then
    let rdo := leAt data 0 4
    let s := (s.setPort n { s.port n with reqRdo := rdo, reqAt := s.cyc }).ownSent n ownRequest
    match requestOf (s.port n).capsRx rdo with
    | some (mv, ma, pps) => s.setPort n { s.port n with newMv := mv, newMa := ma, pps := pps }
    | none => s
  else if t = datEprMode then
    (if leAt data 3 1 = 3 then s.eprEnter n else if leAt data 3 1 = 5 then s.eprExit n else s)
  else if t = datVdm then s.vdmSent n (leAt data 0 4)
  else s

/-- An object of the host's capabilities with its current limited by the cable (R232): Fixed and Variable objects in 10 mA, PPS objects in
50 mA; an AVS object has no current of its own. -/
def State.pdoCable (s : State) (n p : Nat) : Nat :=
  if p = 0 then p
  else if bitsOf p 30 2 = 0 ∨ bitsOf p 30 2 = 2 then p / 1024 * 1024 + min (bitsOf p 0 10) (s.cableMa n / 10)
  else if bitsOf p 28 4 = 0xC then p / 128 * 128 + min (bitsOf p 0 7) (s.cableMa n / 50)
  else p

/-- A Request of the host with its current limited by the cable (R232). -/
def State.rdoCable (s : State) (n rdo : Nat) : Nat :=
  let pos := bitsOf rdo 28 4
  let pdo := if pos = 0 then 0 else (s.port n).capsRx.getD (pos - 1) 0
  if pdoFixed pdo then
    rdo / 2 ^ 20 * 2 ^ 20 + 1024 * min (bitsOf rdo 10 10) (s.cableMa n / 10) + min (bitsOf rdo 0 10) (s.cableMa n / 10)
  else if bitsOf pdo 30 2 = 3 then rdo / 128 * 128 + min (bitsOf rdo 0 7) (s.cableMa n / 50)
  else rdo

/-- A message of the host as the cable allows it (R232). -/
def State.capCable (s : State) (n h : Nat) (data : List Byte) : List Byte :=
  if hdrExt h then (if hdrType h = 17 then objBytes ((objects 13 data).map (s.pdoCable n)) else data)
  else if hdrCtl h then data
  else if hdrType h = datSourceCap then objBytes ((objects 7 data).map (s.pdoCable n))
  else if hdrType h = datRequest ∨ hdrType h = datEprRequest then leBytes 4 (s.rdoCable n (leAt data 0 4)) ++ data.drop 4
  else data

/-- A message of the host goes out (R239). -/
def State.sendHost (s : State) (n : Nat) (sopP : Bool) (h : Nat) (data : List Byte) : State :=
  if hdrExt h then s.pdExt n sopP (hdrType h) data else s.pdSend n sopP (hdrType h) (hdrCount h) false data

/-- A SEND of host policy (R239): refused, discarded, sent, or failed with the ladder's rung after its retries. -/
def State.sendPd (s : State) (pair : Nat) (entries : List (List Byte)) (goodCrc : Bool) : State :=
  let q := parsePd (entries.headD [])
  let data := pdSubData entries q.header q.ext
  let n := q.port
  let h := q.header
  if !pdChainOk entries || s.sendRefused q data then s.pdComplete pair q 0x43
  else
    let data := s.capCable n h data
    let r := s.port n
    let swapWait := match r.hostWait with | some w => isSwap w | none => false
    let late := match r.lateTo with | some w => answersTo w h data | none => false
    if r.hardRecov || r.frs || r.bist != 0 || late || (isSwap h && swapWait && !s.isSrc n) then
      (s.setPort n { r with lateTo := if late then none else r.lateTo }).pdComplete pair q 0x42
    else if hdrCtl h ∧ hdrType h = ctlSoftReset ∧ q.sop = 0 then
      (if goodCrc then (s.sendSoft n).pdComplete pair q 0x00
       else (((s.bump (R.PORT_CNT n) F.PORT_CNT_TXFAIL 1).pdComplete pair q 0x41)).sendHard n)
    else
      let t := s.sendHost n (q.sop == 1) h data
      if goodCrc then
        let s := t.pdComplete pair q 0x00
        if q.sop = 1 then s.setPort n { s.port n with lastTx := none } else s.hostSent n h data
      else
        let s := match (t.port n).lastTx with | some m => t.emits (List.replicate (s.retries n) m) | none => t
        let s := s.setPort n { s.port n with lastTx := none }
        let s := (s.bump (R.PORT_CNT n) F.PORT_CNT_TXFAIL 1).pdComplete pair q 0x41
        if ¬ hdrCtl h ∧ hdrType h = datSourceCap ∧ ¬ s.explicit n then s else s.portFailure n

def execSend (pair : Fin 32) (entries : List (List Byte)) (goodCrc : Bool) (s : State) : Host.Outcome State Fault Refusal :=
  s.act fun s =>
    if s.pairType pair ≠ 4 ∨ ¬ s.atFront pair entries then s
    else (entries.foldl (fun s e => s.takeEntry pair e) s).sendPd pair entries goodCrc

/-- A HARD_RESET entry (R239). -/
def execHardReset (pair : Fin 32) (entry : List Byte) (s : State) : Host.Outcome State Fault Refusal :=
  s.act fun s =>
    if s.pairType pair ≠ 4 ∨ ¬ s.atFront pair [entry] then s
    else
      let s := s.takeEntry pair entry
      let q := parsePd entry
      if q.port = 3 ∨ ¬ s.hostPolicy q.port ∨ ¬ s.attached q.port ∨ ¬ q.clean ∨ q.op ≠ 2 ∨ 1 < q.sop then s.pdComplete pair q 0x43
      else (s.sendHard q.port).pdComplete pair q 0x44

/-- A CABLE_RESET entry (R239, R224): SOP' starts anew. -/
def execCableReset (pair : Fin 32) (entry : List Byte) (s : State) : Host.Outcome State Fault Refusal :=
  s.act fun s =>
    if s.pairType pair ≠ 4 ∨ ¬ s.atFront pair [entry] then s
    else
      let s := s.takeEntry pair entry
      let q := parsePd entry
      if q.port = 3 ∨ ¬ s.hostPolicy q.port ∨ ¬ s.attached q.port ∨ ¬ q.clean ∨ q.op ≠ 3 ∨ 1 < q.sop
          ∨ (q.sop = 1 ∧ ¬ s.flag (R.PORT_STATUS q.port) F.PORT_STATUS_VCONN_ON) then s.pdComplete pair q 0x43
      else ((s.emit (.pdSignal q.port 1)).setPort q.port { s.port q.port with revP := 0, midP := 0, rxMidP := none }).pdComplete pair q 0x44

def execPortCtrlHardReset (_ : Path) (n : Fin 3) (s : State) : Host.Outcome State Fault Refusal :=
  s.act fun s => if s.attached n then s.sendHard n else s

def execErrRecover (_ : Path) (n : Fin 3) (s : State) : Host.Outcome State Fault Refusal :=
  s.act fun s => s.ladderRecovery n

end Sys2Proof.Machine
end

