-- ==== Sys2Proof/Machine/Coords.lean ====
section
/-! DEFINITION. The commands of the coordinate units and the general timers (spec/02_coordinates_and_timers.md R40–R76, R442). -/

namespace Sys2Proof.Machine

def State.coordMode (s : State) (n : Nat) : Nat := s.f (R.COORD_CFG n) F.COORD_CFG_MODE
def State.coordBusy (s : State) (n : Nat) : Bool := s.flag (R.COORD_STATUS n) F.COORD_STATUS_BUSY
def State.coordRefuse (s : State) (n : Nat) : State := s.hwSet (R.COORD_STATUS n) F.COORD_STATUS_REFUSED 1

/-! Travel inputs (R43–R47, R60). -/

/-! The input filter (R47). -/

/-- CLK_SYS cycles for which a level of an input must be stable before it counts: (FILT + 1) × 10 ns. -/
def State.filtCycles (s : State) (n : Nat) : Nat := 2 * (s.f (R.COORD_CFG n) F.COORD_CFG_FILT + 1)

/-- A change of an input passes the filter: its last one is no nearer than a level must be stable. -/
def State.passes (s : State) (n : Nat) (last : Option Nat) : Bool :=
  match last with
  | none => true
  | some c => decide (c + s.filtCycles n ≤ s.cyc)

/-- The cycle of the last change of an input, when the level that counts changes or not. -/
def State.changed (s : State) (old new : Bool) (last : Option Nat) : Option Nat := if old = new then last else some s.cyc

/-- The levels of the three inputs of a unit count, where each that changes passes the filter: its levels and the cycles of their
changes; else nothing changes, and the sample is no event. -/
def State.sample (s : State) (n : Nat) (a b z : Bool) : Option State :=
  let r := s.coord n
  if (r.a = a ∨ s.passes n r.changeA) ∧ (r.b = b ∨ s.passes n r.changeB) ∧ (r.z = z ∨ s.passes n r.changeZ) then
    some (s.setCoord n { r with
      a := a, b := b, z := z
      changeA := s.changed r.a a r.changeA, changeB := s.changed r.b b r.changeB, changeZ := s.changed r.z z r.changeZ })
  else none

/-- An edge that comes faster than the unit follows (20 M edges/s, or 1 / ((FILT + 2) × 10 ns)) is counted or lost, unseen: a free
value decides (log 1). -/
def State.follows (s : State) (n : Nat) : Bool × State :=
  let near := match (s.coord n).lastEdge with
    | none => false
    | some c => decide (s.cyc < c + max 10 (2 * (s.f (R.COORD_CFG n) F.COORD_CFG_FILT + 2)))
  let v := s.takeFree 1
  let r : Bool × State := if near then (v.1 == 1, v.2) else (true, s)
  (r.1, r.2.setCoord n { r.2.coord n with lastEdge := some s.cyc })

/-- The position has moved more than DIR_TOL counts back from the furthest point in DIR (R60). -/
def State.movedBack (s : State) (n : Nat) : Bool :=
  let tol : Int := s.dirTol n
  if s.travelDir n = 0 then decide (s.coordLin n + tol < (s.coord n).farUp)
  else if s.travelDir n = 1 then decide ((s.coord n).farDown + tol < s.coordLin n)
  else false

/-- SPEED_ERR is set, with its fault, unless it stands already (R60). -/
def State.speedErr (s : State) (n : Nat) : State :=
  if s.flag (R.COORD_STATUS n) F.COORD_STATUS_SPEED_ERR then s
  else (s.hwSet (R.COORD_STATUS n) F.COORD_STATUS_SPEED_ERR 1).raise 0x85 n []

/-- One counted edge, upward or downward, before INV is asked: the position, its wrap (R43), the velocity window (R58), the furthest
point (R60) and the compares (R66). -/
def State.countEdge (s : State) (n : Nat) (upward : Bool) : State :=
  let up := upward != s.flag (R.COORD_CFG n) F.COORD_CFG_INV
  let m := s.coordM n
  let pos := s.coordPos n
  let wraps := if up then cfTurns pos == 2 ^ 31 - 1 && cfCount pos + 1 == m else cfTurns pos == 2 ^ 31 && cfCount pos == 0
  let new := coordAdd true m pos (if up then 1 else (2 ^ 32 - 1) * 65536 + (m - 1))
  let s := s.setPos n new
  let s := if wraps then
      (s.hwSet (R.COORD_STATUS n) F.COORD_STATUS_TURNS_WRAP 1).raise 0x87 n [] else s
  let r := s.coord n
  let shift : Int := if wraps then (if up then -1 else 1) * 2 ^ 32 * m else 0
  let old := match r.edges with
    | (t, d) :: l => if d = up then (t, d) :: l else []
    | [] => []
  let s := s.setCoord n { r with edges := (s.cyc, up) :: old, farUp := max (r.farUp + shift) (s.coordLin n),
                                 farDown := min (r.farDown + shift) (s.coordLin n) }
  let s := if s.movedBack n then s.speedErr n else s
  s.fireAt n new

/-- An edge that a unit sees is counted, at a rate that it follows (R47). -/
def State.seeEdge (s : State) (n : Nat) (upward : Bool) : State :=
  let v := s.follows n
  if v.1 then v.2.countEdge n upward else v.2

/-- A counting error of an input (R44, R45). -/
def State.quadErr (s : State) (n id : Nat) : State := (s.hwSet (R.COORD_STATUS n) F.COORD_STATUS_QUAD_ERR 1).raise id n []

/-- A sample of A and B (R44, R47): up while A leads B. -/
def execQuadEdge (n : Fin 4) (a b : Bool) (s : State) : Host.Outcome State Fault Refusal :=
  s.act fun s =>
    let r := s.coord n
    match s.sample n a b r.z with
    | none => s
    | some s =>
      if s.coordMode n ≠ 1 then s
      else if r.a != a && r.b != b then s.quadErr n 0x80
      else if r.a != a then s.seeEdge n (a != b)
      else if r.b != b then s.seeEdge n (b == a)
      else s

/-- The place of a Hall state in the rising order of R45. -/
def hallIndex (x : Nat) : Option Nat := [4, 6, 2, 3, 1, 5].findIdx? (· == x)

/-- A change of the Hall state (R45). -/
def State.hallTo (s : State) (n x : Nat) : State :=
  let r := s.coord n
  match hallIndex x with
  | none => (s.setCoord n { r with hallBad := true }).quadErr n 0x81
  | some j =>
    let s := s.setCoord n { r with hall := x, hallBad := false }
    match hallIndex r.hall with
    | none => s
    | some i =>
      if j = i then s
      else if j = (i + 1) % 6 then s.seeEdge n true
      else if i = (j + 1) % 6 then s.seeEdge n false
      else s.quadErr n 0x81

/-- A sample of U, V and W on the three inputs (R45, R47). -/
def execHallStateChange (n : Fin 4) (u v w : Bool) (s : State) : Host.Outcome State Fault Refusal :=
  s.act fun s =>
    match s.sample n u v w with
    | none => s
    | some s => if s.coordMode n = 2 then s.hallTo n (4 * boolNat u + 2 * boolNat v + boolNat w) else s

/-- An edge of an input whose level goes back to the other one between two such edges (R47): each level must have been stable. -/
def State.pulse (s : State) (n : Nat) (onB : Bool) : Option State :=
  let r := s.coord n
  match if onB then r.changeB else r.changeA with
  | none => some (s.setCoord n (if onB then { r with changeB := some s.cyc } else { r with changeA := some s.cyc }))
  | some c =>
    if c + 2 * s.filtCycles n ≤ s.cyc then
      some (s.setCoord n (if onB then { r with changeB := some s.cyc } else { r with changeA := some s.cyc }))
    else none

/-- A step edge of the selected polarity (R46, R47). -/
def execStepEdge (n : Fin 4) (dirHigh : Bool) (s : State) : Host.Outcome State Fault Refusal :=
  s.act fun s =>
    match s.pulse n false with
    | none => s
    | some s => if s.coordMode n = 3 then s.seeEdge n dirHigh else s

/-- A rising edge of the up or the down input (mode 4; R47). -/
def execUpDownEdge (n : Fin 4) (up : Bool) (s : State) : Host.Outcome State Fault Refusal :=
  s.act fun s =>
    match s.pulse n (!up) with
    | none => s
    | some s => if s.coordMode n = 4 then s.seeEdge n up else s

/-- An index edge of the selected polarity: a strobe for the units that select it, which capture before an armed unit homes
(R55, R57, R65). -/
def State.indexEdge (s : State) (n : Nat) : State :=
  let s := s.strobe 1 n
  if (s.coord n).armed && s.flag (R.COORD_CFG n) F.COORD_CFG_ZHOME then
    if s.coordBusy n then s.coordRefuse n
    else
      let s := s.setPos n (s.rd64 (R.COORD_HOME_LO n) (R.COORD_HOME_HI n))
      let s := (s.setF (R.COORD_STATUS n) F.COORD_STATUS_HOMED 1).setF (R.COORD_STATUS n) F.COORD_STATUS_STALE 0
      (s.setCoord n { s.coord n with armed := false }).restartFar n
  else s

/-- An edge of ENC_n_Z (R47); Hall mode has no index. -/
def execIndexHome (n : Fin 4) (falling : Bool) (s : State) : Host.Outcome State Fault Refusal :=
  s.act fun s =>
    let r := s.coord n
    let m := s.coordMode n
    if ¬ s.passes n r.changeZ then s
    else
      let s := s.setCoord n { r with z := !falling, changeZ := some s.cyc }
      if (m = 1 ∨ m = 3 ∨ m = 4) ∧ s.flag (R.COORD_CFG n) F.COORD_CFG_ZPOL = falling then s.indexEdge n else s

/-! The mains unit (R48–R50, R67). -/

/-- Insert a compare by its distance. -/
def insertDist (x : Nat × Int) : List (Nat × Int) → List (Nat × Int)
  | [] => [x]
  | y :: t => if x.2 < y.2 then x :: y :: t else y :: insertDist x t

/-- A forward step from one coordinate to another fires each compare in the skipped range, in ascending order (R67). -/
def State.fireSkipped (s : State) (old new : Nat) : State :=
  let reach := plainDist 1024 new old
  let hits := ([0, 1, 2, 3].filter (fun k => s.cmpEn 4 k)).map (fun k => (k, plainDist 1024 (s.cmpVal 4 k) old))
  let hits := (hits.filter (fun x => decide (0 < x.2 ∧ x.2 ≤ reach))).foldl (fun l x => insertDist x l) []
  hits.foldl (fun s x => s.fireCmp 4 x.1) s

/-- A crossing is accepted (R48). -/
def State.crossOk (s : State) : Bool :=
  let r := s.coord 4
  match r.lastCross, r.est2 with
  | none, _ => true
  | some c, some e => decide (e ≤ 4 * (s.cyc - c))
  | some c, none => decide (1024 * 200000000 ≤ (s.cyc - c) * 2 * s.vmax 4)

/-- Two periods in a row that count for R49. -/
def State.periodsOk (s : State) (a b : Nat) : Bool :=
  let inRate := fun p => decide (1024 * 200000000 ≤ p * s.vmax 4 ∧ p * s.vmin 4 ≤ 1024 * 200000000)
  decide (10 * (max a b - min a b) ≤ max a b) && inRate a && inRate b

/-- The crossings that count for R49, after a period: STALE clears, or is set again by the three crossings after a loss (R50). -/
def State.judgeCross (s : State) (period : Nat) : State :=
  let r := s.coord 4
  match r.tries with
  | a :: _ =>
    let s := s.setCoord 4 { r with tries := [period, a], reacquired := false }
    if s.periodsOk period a then s.setF (R.COORD_STATUS 4) F.COORD_STATUS_STALE 0
    else if r.reacquired then s.setF (R.COORD_STATUS 4) F.COORD_STATUS_STALE 1 else s
  | [] => s.setCoord 4 { r with tries := [period] }

def execMainsZeroCross (s : State) : Host.Outcome State Fault Refusal :=
  s.act fun s =>
    if s.coordMode 4 = 1 ∧ s.crossOk then
      let r := s.coord 4
      let old := s.coordPos 4
      let new := (cfTurns old + 1) % 2 ^ 32 * 65536
      let s := s.setPos 4 new
      let s := if s.flag (R.COORD_STATUS 4) F.COORD_STATUS_LOST then
          let s := s.setF (R.COORD_STATUS 4) F.COORD_STATUS_LOST 0
          (s.setCoord 4 { r with lastCross := some s.cyc, tries := [], reacquired := true }).fireSkipped old new
        else
          match r.lastCross with
          | none => (s.setCoord 4 { r with lastCross := some s.cyc }).fireAt 4 new
          | some c =>
            let s := s.setCoord 4 { r with lastCross := some s.cyc, halves := (s.cyc - c) :: r.halves.take 1 }
            (s.judgeCross (s.cyc - c)).fireAt 4 new
      s.strobe 5 0
    else s

/-- No crossing within 1.5 period estimates (R50). -/
def execMainsLost (s : State) : Host.Outcome State Fault Refusal :=
  s.act fun s =>
    let r := s.coord 4
    match r.lastCross, r.est2 with
    | some c, some e =>
      if s.coordMode 4 = 1 ∧ s.flag (R.COORD_STATUS 4) F.COORD_STATUS_LOST = false ∧ 3 * e ≤ 4 * (s.cyc - c) then
        let old := s.coordPos 4
        let s := s.setF (R.COORD_STATUS 4) F.COORD_STATUS_LOST 1
        (s.fireSkipped old (s.coordPos 4)).raise 0x84 4 []
      else s
    | _, _ => s

/-- The count of COORD_4 or COORD_5 reaches a compare as it advances with time (R66). -/
def execCompareInterpolationMatch (mains : Bool) (k : Fin 4) (s : State) : Host.Outcome State Fault Refusal :=
  s.act fun s =>
    let n := if mains then 4 else 5
    if s.cmpEn n k ∧ s.cmpVal n k = s.coordPos n ∧ s.coordMode n = 1 then s.fireCmp n k else s

/-- A debounced press edge of PB_MAIN (R65). -/
def execPbMainPress (s : State) : Host.Outcome State Fault Refusal :=
  s.pbPressed.act fun s => s.strobe 7 0

/-! Registers of the coordinate units (R55–R60, R68, R442). -/

/-- STALL_ACC exceeds T_STALL (R59). -/
def execCoordStall (n : Fin 4) (s : State) : Host.Outcome State Fault Refusal :=
  s.act fun s =>
    if s.tStall n < s.stallAcc n ∧ s.flag (R.COORD_STATUS n) F.COORD_STATUS_STALL = false then
      (s.hwSet (R.COORD_STATUS n) F.COORD_STATUS_STALL 1).raise 0x83 n (faultRec (s.stallAcc n) (s.tStall n))
    else s

/-- A position is written (R55, R57, R442). -/
def State.writePos (s : State) (n v : Nat) : State :=
  if s.coordBusy n || !coordOk true (s.coordM n) v then s.coordRefuse n
  else ((s.setPos n v).setF (R.COORD_STATUS n) F.COORD_STATUS_STALE 0).restartFar n

def execCoordPosWrite (p : Path) (n : Fin 4) (hi : Word) (s : State) : Host.Outcome State Fault Refusal :=
  s.act fun s => s.wideInOrder p (R.COORD_POS_HI n) fun s => s.writePos n (s.staged p (R.COORD_POS_LO n) + 2 ^ 32 * hi.toNat)

/-- HOME is written (R442). -/
def State.writeHome (s : State) (n v : Nat) : State :=
  if coordOk (travelUnit n) (s.coordM n) v then s.wr64 (R.COORD_HOME_LO n) (R.COORD_HOME_HI n) v else s.coordRefuse n

/-- Whether the turns of a linear value pass the 32-bit range under a modulus. -/
def linWraps (m : Nat) (x : Int) : Bool := decide (x / (m : Int) < -(2 ^ 31) ∨ 2 ^ 31 ≤ x / (m : Int))

/-- The split coordinate registers of a travel unit. -/
def coordWide (n : Nat) : List (Nat × Nat) :=
  [(R.COORD_POS_LO n, R.COORD_POS_HI n), (R.COORD_HOME_LO n, R.COORD_HOME_HI n), (R.COORD_CAP_LO n, R.COORD_CAP_HI n)]
    ++ [0, 1, 2, 3].flatMap (fun k => [(R.COORD_CMP_VAL_LO n k, R.COORD_CMP_VAL_HI n k),
        (R.COORD_CMP_INT_LO n k, R.COORD_CMP_INT_HI n k)])

/-- MOD is written: refused while BUSY or MODE ≠ 0, and for 0 and 1; else every coordinate of the unit keeps its linear value under
the new modulus (R57, R442). -/
def State.writeMod (s : State) (n m : Nat) : State :=
  if s.coordBusy n || s.coordMode n != 0 || decide (m < 2) then s.coordRefuse n
  else
    let old := s.coordM n
    let lins := (coordWide n).map (fun r => linTravel old (s.rd64 r.1 r.2))
    let s := s.setF (R.COORD_MOD n) F.COORD_MOD_M m
    let s := ((coordWide n).zip lins).foldl (fun s x => s.wr64 x.1.1 x.1.2 (fieldTravel m x.2)) s
    if lins.any (linWraps m) then
      ((s.hwSet (R.COORD_STATUS n) F.COORD_STATUS_TURNS_WRAP 1).raise 0x87 n []).restartFar n
    else s

def execCoordModWrite (p : Path) (n : Fin 4) (v : Word) (s : State) : Host.Outcome State Fault Refusal :=
  s.act fun s => s.inOrder p (R.COORD_MOD n) (s.rd (R.COORD_MOD n)) v fun v s => s.writeMod n (getBits v 0 16)

/-- CFG is written: MODE is refused while BUSY and read-only for the time unit; a change of mode begins the inputs afresh (R48,
R57). -/
def State.writeCoordCfg (s : State) (n : Nat) (v : Word) : State :=
  let c := R.COORD_CFG n
  let old := s.coordMode n
  let new := getBits v 0 3
  let pos := s.coordPos n
  let refuse := s.coordBusy n && new != old && n != 5
  let keep := refuse || n == 5
  let s := s.wr c (putBits (putBits v 10 6 0) 0 3 (if keep then old else new))
  if refuse then s.coordRefuse n
  else if old = new ∨ n = 5 then s
  else if n = 4 then
    ((s.setPos 4 pos).setF (R.COORD_STATUS 4) F.COORD_STATUS_LOST 0).setCoord 4
      { s.coord 4 with lastCross := none, halves := [], tries := [], reacquired := false }
  else s.setCoord n { s.coord n with hall := 0, hallBad := false }

def execCoordModeWrite (p : Path) (n : Fin 6) (v : Word) (s : State) : Host.Outcome State Fault Refusal :=
  s.act fun s => s.inOrder p (R.COORD_CFG n) (s.rd (R.COORD_CFG n)) v fun v s => s.writeCoordCfg n v

/-- VAL or INT of a compare is written (R68, R442). -/
def State.writeCmp (s : State) (n k : Nat) (isInt : Bool) (v : Nat) : State :=
  if coordOk (travelUnit n) (s.coordM n) v then
    if isInt then s.wr64 (R.COORD_CMP_INT_LO n k) (R.COORD_CMP_INT_HI n k) v
    else s.wr64 (R.COORD_CMP_VAL_LO n k) (R.COORD_CMP_VAL_HI n k) v
  else s.coordRefuse n

def execCmpValueWrite (p : Path) (n : Fin 6) (k : Fin 4) (isInt : Bool) (hi : Word) (s : State) :
    Host.Outcome State Fault Refusal :=
  s.act fun s => s.wideInOrder p (if isInt then R.COORD_CMP_INT_HI n k else R.COORD_CMP_VAL_HI n k) fun s =>
    s.writeCmp n k isInt (s.staged p (if isInt then R.COORD_CMP_INT_LO n k else R.COORD_CMP_VAL_LO n k) + 2 ^ 32 * hi.toNat)

def execCapStrobe (_ : Path) (n : Fin 6) (s : State) : Host.Outcome State Fault Refusal :=
  s.act fun s => s.captureCoord n

def State.armHome (s : State) (n : Nat) (on : Bool) : State := s.setCoord n { s.coord n with armed := on }

def execHomeArm (_ : Path) (n : Fin 4) (s : State) : Host.Outcome State Fault Refusal :=
  s.act fun s => s.armHome n true

def execHomeDisarm (_ : Path) (n : Fin 4) (s : State) : Host.Outcome State Fault Refusal :=
  s.act fun s => s.armHome n false

/-- STALL_ACC is cleared, or the write is refused while BUSY (R57, R59). -/
def State.clearStall (s : State) (n : Nat) : State :=
  if s.coordBusy n then s.coordRefuse n
  else
    ((s.setF (R.COORD_STATUS n) F.COORD_STATUS_STALL_ACC 0).setCoord n { s.coord n with stallUs := 0 }).restartFar n

def execStallClr (_ : Path) (n : Fin 4) (s : State) : Host.Outcome State Fault Refusal :=
  s.act fun s => s.clearStall n

/-- What a write of COORD_n_CTRL asks for, bit by bit; homing and STALL_ACC belong to travel units, but every BUSY unit refuses a
STALL_CLR (R57). -/
def State.writeCoordCtrl (s : State) (n : Nat) (v : Word) : State :=
  let s := if getBits v 0 1 = 1 then s.captureCoord n else s
  if n < 4 then
    let s := if getBits v 1 1 = 1 then s.armHome n true else s
    let s := if getBits v 2 1 = 1 then s.armHome n false else s
    if getBits v 3 1 = 1 then s.clearStall n else s
  else if getBits v 3 1 = 1 && s.coordBusy n then s.coordRefuse n
  else s

/-! General timers (R71–R76). -/

/-- The preloads of a base timer, 64 bits wide for a chained pair. -/
def State.gptPre (s : State) (m : Nat) (reg : Nat → Nat) : Nat :=
  if s.gptChained m then s.rd64 (reg m) (reg (m + 1)) else s.rdN (reg m)

/-- The preloads are copied and the counter is loaded, at a cycle (R71). -/
def State.gptLoad (s : State) (m at_ : Nat) : State :=
  let r := s.gptPre m R.GPT_RELOAD
  s.setGpt m { s.gpt m with reload := r, cmp := s.gptPre m R.GPT_CMP, startVal := r, startAt := at_, matchKey := 0 }

/-- The counter continues from its present value. -/
def State.gptAnchor (s : State) (m : Nat) : State :=
  s.setGpt m { s.gpt m with startVal := s.gptValue m, startAt := s.cyc, matchKey := 0 }

/-- CHAIN of an odd timer changes: the counter, the reload and the compare join or part (R75). -/
def State.gptJoin (s : State) (m : Nat) (on : Bool) : State :=
  let lo := s.gpt (m - 1)
  let hi := s.gpt m
  if on then
    s.setGpt (m - 1) { lo with startVal := lo.startVal + 2 ^ 32 * hi.startVal, reload := lo.reload + 2 ^ 32 * hi.reload,
                               cmp := lo.cmp + 2 ^ 32 * hi.cmp }
  else
    (s.setGpt m { hi with startVal := lo.startVal / 2 ^ 32, reload := lo.reload / 2 ^ 32, cmp := lo.cmp / 2 ^ 32 }).setGpt (m - 1)
      { lo with startVal := lo.startVal % 2 ^ 32, reload := lo.reload % 2 ^ 32, cmp := lo.cmp % 2 ^ 32 }

/-- A write of GPT_m_CFG (R71, R75): CHAIN changes only while both timers have EN = 0; EN from 0 to 1 copies and loads, EN to 0
stops the counter where it stands. -/
def State.writeGptCfg (s : State) (m : Nat) (v : Word) : State :=
  let c := R.GPT_CFG m
  let was := s.flag c F.GPT_CFG_EN
  let chain := s.flag c F.GPT_CFG_CHAIN
  let may := m % 2 == 1 && !was && !s.flag (R.GPT_CFG (m - 1)) F.GPT_CFG_EN
  let chain' := if m % 2 = 0 then getBits v 5 1 == 1 else if may then getBits v 5 1 == 1 else chain
  let base := m % 2 == 0 || !chain'
  let s := if base && s.gptRuns m && (getBits v 0 1 == 0 || getBits v 1 4 != s.f c F.GPT_CFG_PRESC) then s.gptAnchor m else s
  let s := if m % 2 = 1 ∧ chain' ≠ chain then s.gptJoin m chain' else s
  let s := s.wr c (putBits (putBits v 16 16 0) 5 1 (boolNat chain'))
  let on := getBits v 0 1 == 1
  if base then
    let s := if on && !was then s.gptLoad m s.cyc else s
    s.setF (R.GPT_STATUS m) F.GPT_STATUS_RUNNING (boolNat on)
  else s

def execGptEnable (p : Path) (m : Fin 16) (v : Word) (s : State) : Host.Outcome State Fault Refusal :=
  s.act fun s => s.inOrder p (R.GPT_CFG m) (s.rd (R.GPT_CFG m)) v fun v s => s.writeGptCfg m v

/-- FORCE_RELOAD (R71). -/
def State.forceGpt (s : State) (m : Nat) : State := s.gptLoad (s.gptBase m) s.cyc

def execForceReload (_ : Path) (m : Fin 16) (s : State) : Host.Outcome State Fault Refusal :=
  s.act fun s => s.forceGpt m

def execGptCapStrobe (_ : Path) (m : Fin 16) (s : State) : Host.Outcome State Fault Refusal :=
  s.act fun s => s.captureGpt m

/-- The tick after the counter of a base timer has read zero has come (R71). -/
def State.wrapDue (s : State) (m : Nat) : Bool :=
  s.gptBase m == m && s.gptRuns m && decide ((s.gpt m).startVal + 1 ≤ s.gptTicks m)

/-- A wrap that is due is taken (R71, R73): WRAP, the preloads, the end of a one-shot timer, the strobe. -/
def State.wrapFirst (s : State) (m : Nat) : State :=
  if s.wrapDue m then
    let g := s.gpt m
    let at_ := g.startAt + (g.startVal + 1) * s.gptTick m
    let s := s.hwSet (R.GPT_STATUS m) F.GPT_STATUS_WRAP 1
    let s := if s.flag (R.GPT_CFG m) F.GPT_CFG_ONESHOT then
        (((s.gptLoad m at_).setGpt m { (s.gptLoad m at_).gpt m with startVal := 0 }).setF (R.GPT_CFG m) F.GPT_CFG_EN 0).setF
          (R.GPT_STATUS m) F.GPT_STATUS_RUNNING 0
      else s.gptLoad m at_
    s.strobe 4 m
  else s

/-- A write of RELOAD, CMP or INTERVAL (R72). On the low timer of a chained pair it is staged on its path, and the write of the
high register on that path commits both (R15, R76). A write made while the pair is not chained is not staged (DESIGN CHOICE, log 38).
A wrap of the same cycle copies the preloads as they were (R74). -/
def State.writeGptPre (s : State) (p : Path) (m : Nat) (which : GptPreload) (v : Word) : State :=
  let reg := match which with
    | .reload => R.GPT_RELOAD
    | .cmp => R.GPT_CMP
    | .interval => R.GPT_INTERVAL
  let first := fun (s : State) => if which = .interval then s else s.wrapFirst (s.gptBase m)
  if !s.gptChained m then (first s).wr (reg m) v
  else if m % 2 = 0 then { s with loStage := tabSet latchDefault s.loStage (pathNo p * 2 ^ 18 + reg m) v }
  else ((first s).wrN (reg (m - 1)) (s.staged p (reg (m - 1)))).wr (reg m) v

def execGptPreloadWrite (p : Path) (m : Fin 16) (r : GptPreload) (v : Word) (s : State) : Host.Outcome State Fault Refusal :=
  let off := match r with
    | .reload => R.GPT_RELOAD m
    | .cmp => R.GPT_CMP m
    | .interval => R.GPT_INTERVAL m
  s.act fun s => s.inOrder p off (s.rd off) v fun v s => s.writeGptPre p m r v

/-- What a write of GPT_m_CTRL asks for. -/
def State.writeGptCtrl (s : State) (m : Nat) (v : Word) : State :=
  let s := if getBits v 0 1 = 1 then s.forceGpt m else s
  if getBits v 1 1 = 1 then s.captureGpt m else s

/-- The tick after the counter reads zero (R71). -/
def execGptWrap (m : Fin 16) (s : State) : Host.Outcome State Fault Refusal :=
  s.act fun s => s.wrapFirst m

/-- The counter equals the active compare value (R73). -/
def execGptMatch (m : Fin 16) (s : State) : Host.Outcome State Fault Refusal :=
  s.act fun s =>
    let g := s.gpt m
    let key := g.startAt + s.gptTicks m * s.gptTick m + 1
    if s.gptBase m = m ∧ s.gptRuns m ∧ s.gptTicks m ≤ g.startVal ∧ s.gptValue m = g.cmp ∧ g.matchKey ≠ key then
      let width := if s.gptChained m then 64 else 32
      let s := (s.hwSet (R.GPT_STATUS m) F.GPT_STATUS_MATCH 1).noteIdle .gpt
      let s := s.setGpt m { g with cmp := (g.cmp + s.gptPre m R.GPT_INTERVAL) % 2 ^ width, matchKey := key }
      let s := if s.flag (R.GPT_CFG m) F.GPT_CFG_EVENT then s.event 3 m 0 (leBytes 4 g.cmp) else s
      s.strobe 3 m
    else s

end Sys2Proof.Machine
end

