-- ==== Sys2Proof/Machine/Rings.lean ====
section
/-! DEFINITION. The host link and the ring pairs (spec/09_host_rings.md R260–R285, spec/10 R302–R311): enable and disable, doorbells,
fetches, device slots, the writing of held completions, interrupts, and what a host link reset does. -/

namespace Sys2Proof.Machine

/-! Ring pair set-up (R271–R273). -/

/-- Where a ring may lie: 4 KiB aligned, in the local window above its doorbell page, or in the device address space. -/
def ringPlace (local_ : Bool) (base len : Nat) : Bool :=
  base % 4096 == 0 &&
    (if local_ then decide (0x1000 ≤ base ∧ base + len ≤ 0x80000) else decide (base + len ≤ 2 ^ 34))

/-- R273: the set-up that a write of EN = 1 would enable. -/
def State.ringValid (s : State) (p : Nat) (v : Word) : Bool :=
  let g := fun (fld : Fld) => getBits v fld.lo fld.w
  let typ := g F.RING_CFG_TYPE
  let loc := g F.RING_CFG_LOCAL == 1
  let sq := g F.RING_CFG_SQ_LOG2
  let cq := g F.RING_CFG_CQ_LOG2
  decide (1 ≤ typ ∧ typ ≤ 6) && decide (4 ≤ cq ∧ cq ≤ 16) && ringPlace loc (s.cqBase p) (32 * 2 ^ cq)
    && (if typ = 6 then p == s.eventPair && sq == 0
        else decide (4 ≤ sq ∧ sq ≤ 16) && ringPlace loc (s.sqBase p) (64 * 2 ^ sq))
    && (loc || s.flag R.HOST_POLL F.HOST_POLL_EN)

def State.pairEn (s : State) (p : Nat) : Bool := s.flag (R.RING_CFG p) F.RING_CFG_EN
def State.pairRefuse (s : State) (p : Nat) : State := s.hwSet (R.RING_STATUS p) F.RING_STATUS_REFUSED 1

/-- A pair becomes ACTIVE: head, tail and seen values zero, completion phase 1 (R272). -/
def State.pairOn (s : State) (p : Nat) : State :=
  let s := ((s.wrN (R.RING_SQ_PTR p) 0).wrN (R.RING_CQ_PTR p) 0).setF (R.RING_STATUS p) F.RING_STATUS_PHASE 1
  ((s.setPair p { pendAt := (s.pair p).pendAt, slotAt := (s.pair p).slotAt }).setSrc p {}).setPairState p ringActive 0

/-- A pair drains: no further fetch, and the fetched entries not yet consumed are discarded (R272). -/
def State.pairOff (s : State) (p : Nat) : State :=
  let s := s.setF (R.RING_CFG p) F.RING_CFG_EN 0
  (s.dropFetched p).setPairState p ringDraining 0

/-- The streams of a pair that goes DISABLED stop without completions (R319). -/
def State.dropStreams (s : State) (p : Nat) : State :=
  s.each (List.range 8) (fun g s =>
    if s.f (R.GLN_CFG g) F.GLN_CFG_PAIR = p then
      let s := (s.setGln g {}).setF (R.GLN_STATUS g) F.GLN_STATUS_STATE 0
      (s.setF (R.GLN_STATUS g) F.GLN_STATUS_NOBUF 0).setF (R.GLN_STATUS g) F.GLN_STATUS_BUFS 0
    else s)

/-- A pair is DISABLED: held entries are discarded and counted, its counters are kept (R272, R311). -/
def State.pairDisabled (s : State) (p : Nat) : State :=
  ((s.dropHeld p).dropStreams p).setPairState p ringDisabled 0

/-- A write of RING_p_CFG (R272, R273). -/
def State.writeRingCfg (s : State) (p : Nat) (v : Word) : State :=
  let en := getBits v F.RING_CFG_EN.lo 1 == 1
  let st := s.pairState p
  if st = ringActive ∨ st = ringStalled then (if en then s.pairRefuse p else s.pairOff p)
  else if st = ringDraining then s.pairRefuse p
  else
    let s := s.loadReg (R.RING_CFG p) v
    if !en then s
    else if s.ringValid p v then s.pairOn p
    else (s.setF (R.RING_CFG p) F.RING_CFG_EN 0).hwSet (R.RING_STATUS p) F.RING_STATUS_CFG_ERR 1

/-- The valid bits of a base address, and the write of a base: refused while EN = 1 (R273). -/
def baseBits (v : Nat) : Nat := v % 2 ^ 34 / 4096 * 4096
def State.writeRingBase (s : State) (p : Nat) (cq : Bool) (v : Nat) : State :=
  if s.pairEn p then s.pairRefuse p
  else if cq then s.wr64 (R.RING_CQ_BASE_LO p) (R.RING_CQ_BASE_HI p) (baseBits v)
  else s.wr64 (R.RING_SQ_BASE_LO p) (R.RING_SQ_BASE_HI p) (baseBits v)

def execRingEnable (p : Path) (pair : Fin 32) (v : Word) (s : State) : Host.Outcome State Fault Refusal :=
  s.act fun s => s.inOrder p (R.RING_CFG pair) (s.rd (R.RING_CFG pair)) (putBits v F.RING_CFG_EN.lo 1 1) fun v s =>
    s.writeRingCfg pair v

def execRingDisable (p : Path) (pair : Fin 32) (s : State) : Host.Outcome State Fault Refusal :=
  s.act fun s => s.inOrder p (R.RING_CFG pair) (s.rd (R.RING_CFG pair)) (putBits (s.rd (R.RING_CFG pair)) F.RING_CFG_EN.lo 1 0)
    fun v s => s.writeRingCfg pair v

def execRingDrainDone (pair : Fin 32) (s : State) : Host.Outcome State Fault Refusal :=
  s.act fun s => if s.pairState pair = ringDraining then s.pairDisabled pair else s

/-! Doorbells (R275–R279). -/

/-- A ring index less another, within the ring. -/
def ringDist (a b size : Nat) : Nat := (a + size - b % size) % size

def State.sqHead (s : State) (p : Nat) : Nat := s.f (R.RING_SQ_PTR p) F.RING_SQ_PTR_SQ_HEAD
def State.sqTail (s : State) (p : Nat) : Nat := s.f (R.RING_SQ_PTR p) F.RING_SQ_PTR_SQ_TAIL
def State.cqTail (s : State) (p : Nat) : Nat := s.f (R.RING_CQ_PTR p) F.RING_CQ_PTR_CQ_TAIL
def State.cqHead (s : State) (p : Nat) : Nat := s.f (R.RING_CQ_PTR p) F.RING_CQ_PTR_CQ_HEAD
/-- Entries exposed and not fetched. -/
def State.sqReady (s : State) (p : Nat) : Nat := ringDist (s.sqTail p) (s.sqHead p) (s.sqSize p)

def State.sqBad (s : State) (p w : Nat) : Bool :=
  let n := s.sqSize p
  decide (n ≤ w) || decide (ringDist w (s.sqHead p) n < s.sqReady p) || (s.pairType p == 6 && w != 0)

def State.cqBad (s : State) (p w : Nat) : Bool :=
  let n := s.cqSize p
  decide (n ≤ w) || decide (ringDist (s.cqTail p) (s.cqHead p) n < ringDist w (s.cqHead p) n)

/-- An invalid doorbell word stalls its pair (R279, R299). -/
def State.badDoorbell (s : State) (p stall w : Nat) : State :=
  (s.setPairState p ringStalled stall).raise 0x91 0
    ([BitVec.ofNat 8 p, BitVec.ofNat 8 stall, 0#8, 0#8] ++ leBytes 4 w)

/-- New exposed entries are noted with their time (R274). -/
def State.seeTail (s : State) (p w : Nat) : State :=
  let k := ringDist w (s.sqTail p) (s.sqSize p)
  let s := s.setF (R.RING_SQ_PTR p) F.RING_SQ_PTR_SQ_TAIL w
  if k = 0 then s else s.setPair p { s.pair p with seen := (s.pair p).seen ++ [(k, s.cyc)] }

/-- The words of an ACTIVE pair's slot are seen: the submission word, then the completion word. -/
def State.seeSlot (s : State) (p sqw cqw : Nat) : State :=
  if s.pairState p ≠ ringActive then s
  else if s.sqBad p sqw then s.badDoorbell p 1 sqw
  else
    let s := s.seeTail p sqw
    if s.cqBad p cqw then s.badDoorbell p 2 cqw else s.setF (R.RING_CQ_PTR p) F.RING_CQ_PTR_CQ_HEAD cqw

/-- The slot of a local pair is read (R269). -/
def State.seeLocal (s : State) (p : Nat) : State :=
  if s.pairLocal p then s.seeSlot p (leVal (s.winRead (8 * p) 4)) (leVal (s.winRead (8 * p + 4) 4)) else s

/-- A host writes into the local window; the pairs whose doorbell words it touches see them (R269). -/
def State.hostWin (s : State) (off : Nat) (bytes : List Byte) : State :=
  let t := s.winWrite off bytes
  t.each (List.range 32) (fun p t => if off < 8 * p + 8 ∧ 8 * p < off + bytes.length then t.seeLocal p else t)

def execLocalDoorbellWrite (off : Nat) (v : Word) (s : State) : Host.Outcome State Fault Refusal :=
  s.act fun s => s.hostWin off (leBytes 4 v.toNat)

/-- RESUME: a STALLED pair returns to ACTIVE unless Harrow holds it; its slot is read again (R272, R373). -/
def State.resumePair (s : State) (p : Nat) : State :=
  if s.pairState p = ringStalled ∧ ¬ s.heldPair p then (s.setPairState p ringActive 0).seeLocal p else s

def execResume (_ : Path) (pair : Fin 32) (s : State) : Host.Outcome State Fault Refusal :=
  s.act fun s => s.resumePair pair

/-- The host-resident pairs that a poll serves (R277). -/
def State.polledPairs (s : State) : List Nat :=
  (List.range 32).filter (fun p => !s.pairLocal p && s.pairState p != ringDisabled)

/-- Polls run: the host page in use, a host-resident pair not DISABLED, DMA allowed, the block in RUN (R261, R277, R393). -/
def State.polls (s : State) : Bool :=
  s.flag R.HOST_POLL F.HOST_POLL_EN && !s.polledPairs.isEmpty && s.dmaAllowed && s.inRun

/-- The interval of polls, in cycles: US, between 1 and 1,000 µs, or 0.5 µs in continuous mode (R277). -/
def State.pollCycles (s : State) : Nat :=
  if s.flag R.HOST_POLL F.HOST_POLL_CONT then 100 else 200 * min 1000 (max 1 (s.f R.HOST_POLL F.HOST_POLL_US))

/-- A poll may start: the interval has passed since the last one started. -/
def State.pollDue (s : State) : Bool :=
  match s.sys.pollStart with
  | some t => decide (t + s.pollCycles ≤ s.cyc)
  | none => true

def State.dbBase (s : State) : Nat := s.rd64 R.HOST_DB_BASE_LO R.HOST_DB_BASE_HI

/-- A poll fails (R306, R309): at most one log record in a millisecond; the pair and the index of the record are open (log 1). -/
def State.pollFault (s : State) (addr kind : Nat) : State :=
  let s := s.setF R.XLT_STATUS F.XLT_STATUS_POLL_FAULT 1
  let due : Bool := match s.sys.pollAt with
    | some t => decide (t + 200000 ≤ s.cyc)
    | none => true
  if due then
    let a := s.takeFree 5
    let b := a.2.takeFree 16
    ({ b.2 with sys := { b.2.sys with pollAt := some s.cyc } }).dmaLog 0 a.1 b.1 addr 0 kind
  else s

/-- A poll's data: every served pair sees its words. -/
def State.pollData (s : State) (bytes : List Byte) : State :=
  (s.setF R.XLT_STATUS F.XLT_STATUS_POLL_FAULT 0).each s.polledPairs (fun p s =>
    s.seeSlot p (leAt bytes (8 * p) 4) (leAt bytes (8 * p + 4) 4))

/-- The poll of R277; a read of a length that does not fit it is no answer to it. -/
def execDoorbellPoll (r : DmaRead) (s : State) : Host.Outcome State Fault Refusal :=
  s.act fun s =>
    if !s.polls || !s.pollDue then s
    else
      let len := 8 * (s.polledPairs.getLastD 0 + 1)
      let t := { s with sys := { s.sys with pollStart := some s.cyc } }
      match s.translate s.dbBase false with
      | .bad k => t.pollFault s.dbBase k
      | .win o => t.pollData (s.winRead o len)
      | .host _ =>
        match r with
        | .ok bytes => if bytes.length = len then t.pollData bytes else s
        | .fail k got => if 5 ≤ k.val ∧ got.length < len then t.pollFault (s.dbBase + got.length) k else s

/-! Submission fetches (R274, R308, R309). -/

/-- The entries fetched of a pair and not yet consumed. -/
def State.fetched (s : State) (p : Nat) : Nat := (s.srcRt p).waiting.length

/-- A pair that a fetch may serve. -/
def State.fetchable (s : State) (p : Nat) : Bool :=
  s.pairState p == ringActive && s.pairType p != 6 && s.sqReady p != 0 && decide (s.fetched p < 16 ∧ s.heldOf p < 16)
    && (s.pairLocal p || s.dmaAllowed)

/-- The oldest unfetched entry of a pair has waited more than 1 ms. -/
def State.aged (s : State) (p : Nat) : Bool :=
  match (s.pair p).seen with
  | (_, t) :: _ => decide (t + 200000 < s.cyc)
  | [] => false

/-- The pair that R274 serves by priority: the lowest PRIO, in round robin after the pair served last. -/
def State.fetchNext (s : State) : Option Nat :=
  let l := ((List.range 32).map (fun k => (s.rrLast + 1 + k) % 32)).filter s.fetchable
  let best := l.foldl (fun a p => min a (s.f (R.RING_CFG p) F.RING_CFG_PRIO)) 3
  l.find? (fun p => s.f (R.RING_CFG p) F.RING_CFG_PRIO == best)

/-- The most entries that a fetch of a pair may take now: 256 B, one 4 KiB page, the ring's end, the 16 places ahead of the consumer; one
for an aged pair; none where another pair is to be served. -/
def State.fetchMost (s : State) (p : Nat) : Nat :=
  let anyAged := (List.range 32).any (fun q => s.fetchable q && s.aged q)
  let h := s.sqHead p
  let n := min (min 4 (s.sqReady p)) (min (min (s.sqSize p - h) (64 - h % 64)) (16 - s.fetched p))
  if !s.fetchable p then 0
  else if anyAged then (if s.aged p then 1 else 0)
  else if s.fetchNext = some p then n else 0

/-- The oldest seen entries are no longer unfetched. -/
def dropSeen : Nat → List (Nat × Nat) → List (Nat × Nat)
  | _, [] => []
  | n, (k, t) :: l => if n < k then (k - n, t) :: l else dropSeen (n - k) l

/-- Whole entries are consumed: SQ_HEAD passes them and they wait for their consumer (R308). -/
def State.consume (s : State) (p : Nat) (es : List (List Byte)) : State :=
  let r := s.srcRt p
  let x := s.pair p
  let s := s.setPair p { x with
    seen := dropSeen es.length x.seen
    headAt := if r.waiting.isEmpty then s.cyc else x.headAt }
  let s := s.setSrc p (r.arrive s.tick s.cyc es)
  ({ s with rrLast := p }).setF (R.RING_SQ_PTR p) F.RING_SQ_PTR_SQ_HEAD ((s.sqHead p + es.length) % s.sqSize p)

/-- The entries in a byte string, `n` of them. -/
def entriesOf : Nat → List Byte → List (List Byte)
  | 0, _ => []
  | n + 1, b => b.take 64 :: entriesOf n (b.drop 64)

/-- A fetch that fails after `k` whole entries (R309). -/
def State.fetchFault (s : State) (p k addr kind : Nat) : State :=
  (s.dmaLog 2 p (s.sqHead p) addr (64 * k) kind).stallDma p

def State.fetch (s : State) (p : Nat) (r : DmaRead) : State :=
  let n := s.fetchMost p
  let a := s.sqBase p + 64 * s.sqHead p
  if n = 0 then s
  else if s.pairLocal p then s.consume p (entriesOf n (s.winRead a (64 * n)))
  else
    match s.translate a false with
    | .bad k => s.fetchFault p 0 a k
    | .win o => s.consume p (entriesOf n (s.winRead o (64 * n)))
    | .host _ =>
      match r with
      | .ok bytes =>
        if bytes.length % 64 = 0 ∧ 1 ≤ bytes.length / 64 ∧ bytes.length / 64 ≤ n then
          s.consume p (entriesOf (bytes.length / 64) bytes)
        else s
      | .fail k got =>
        if 5 ≤ k.val ∧ got.length < 64 * n then
          (s.consume p (entriesOf (got.length / 64) got)).fetchFault p (got.length / 64) (a + got.length) k
        else s

def execSubmissionFetch (pair : Fin 32) (r : DmaRead) (s : State) : Host.Outcome State Fault Refusal :=
  s.act fun s => s.fetch pair r

/-! Device slots (R278). -/

/-- A pair's device slot differs from SQ_HEAD and CQ_TAIL. -/
def State.slotStale (s : State) (p : Nat) : Bool :=
  (s.pair p).slotSq != s.sqHead p || (s.pair p).slotCq != s.cqTail p

def State.slotWritten (s : State) (p : Nat) : State :=
  s.setPair p { s.pair p with slotSq := s.sqHead p, slotCq := s.cqTail p }

/-- The slot of a host-resident pair may be written: a poll interval has passed since the last time. -/
def State.slotDue (s : State) (p : Nat) : Bool :=
  match (s.pair p).slotAt with
  | some t => decide (t + s.pollCycles ≤ s.cyc)
  | none => true

def execDeviceSlotWrite (pair : Fin 32) (s : State) : Host.Outcome State Fault Refusal :=
  s.act fun s =>
    let p := pair.val
    let bytes := leBytes 4 (s.sqHead p) ++ leBytes 4 (s.cqTail p)
    if s.pairState p = ringDisabled ∨ ¬ s.slotStale p then s
    else if s.pairLocal p then (s.winWrite (0x800 + 8 * p) bytes).slotWritten p
    else if !s.flag R.HOST_POLL F.HOST_POLL_EN || !s.dmaAllowed || !s.slotDue p then s
    else
      let a := s.dbBase + 0x800 + 8 * p
      let s := s.setPair p { s.pair p with slotAt := some s.cyc }
      match s.translate a true with
      | .bad k =>
        let v := s.takeFree 16
        v.2.dmaLog 1 p v.1 a 0 k
      | .win o => (s.winWrite o bytes).slotWritten p
      | .host x => (s.emit (.dmaWrite x bytes)).slotWritten p

/-! Completions leave (R102, R281, R310, R311). -/

/-- A frame leaves a CAN port's queue, and the oldest held completion of the port enters it (R102). -/
def State.drainCan (s : State) (n : Nat) : State :=
  match (s.can n).txq with
  | [] => s
  | h :: t =>
    if !s.canFd n then s
    else
      let id := s.f (R.DRILL_CAN_TXID n) F.DRILL_CAN_TXID_ID
      let ide := s.flag (R.DRILL_CAN_TXID n) F.DRILL_CAN_TXID_IDE
      let s := s.emit (.canTx n ⟨id, ide, true, h⟩ (s.flag (R.CAN_CFG n) F.CAN_CFG_BRS))
      match takeHeld (32 + n) s.cplq with
      | none => s.setCan n { s.can n with txq := t }
      | some (x, rest) => ({ s with cplq := rest }).setCan n { s.can n with txq := t ++ [x.bytes] }

def execCompletionDrain (src : Source) (s : State) : Host.Outcome State Fault Refusal :=
  s.act fun s =>
    match src with
    | .ring p => s.drainPair p
    | .can n => s.drainCan n

/-- A completion that finds no room in the holding queue (R311, R102). -/
def execCompletionDiscard (src : Source) (entry : List Byte) (s : State) : Host.Outcome State Fault Refusal :=
  s.act fun s =>
    match src with
    | .ring p => if s.pairState p = ringDisabled ∨ s.cplRoom p then s else s.discardCpl p entry
    | .can n => if (s.can n).txq.length < 32 ∨ s.cplRoom (32 + n) then s else s.discardCan n entry

/-! Interrupts (R284). -/

/-- The moderation time of a vector has passed since its first pending completion. -/
def execIrqModTimerExpiry (pair : Fin 32) (s : State) : Host.Outcome State Fault Refusal :=
  s.act fun s =>
    let p := pair.val
    let us := s.f (R.RING_IMOD p) F.RING_IMOD_MOD_US
    if us ≠ 0 ∧ ¬ s.flag (R.RING_IMOD p) F.RING_IMOD_MASK ∧ s.f (R.RING_CNT p) F.RING_CNT_PENDING ≠ 0
        ∧ (s.pair p).pendAt + 200 * us ≤ s.cyc then s.firePair p
    else s

/-- A write of RING_p_IMOD: the vector fires when MASK is cleared with completions pending, and when the new count is reached. -/
def State.writeImod (s : State) (p : Nat) (v : Word) : State :=
  let masked := s.flag (R.RING_IMOD p) F.RING_IMOD_MASK
  let s := s.loadReg (R.RING_IMOD p) v
  let n := s.f (R.RING_CNT p) F.RING_CNT_PENDING
  if s.flag (R.RING_IMOD p) F.RING_IMOD_MASK ∨ n = 0 then s
  else if masked ∨ max 1 (s.f (R.RING_IMOD p) F.RING_IMOD_MOD_COUNT) ≤ n then s.firePair p
  else s

def execRingImodWrite (p : Path) (pair : Fin 32) (v : Word) (s : State) : Host.Outcome State Fault Refusal :=
  s.act fun s => s.inOrder p (R.RING_IMOD pair) (s.rd (R.RING_IMOD pair)) v fun v s => s.writeImod pair v

/-- A vector whose pending bit is set and whose entry is not masked fires (R284). -/
def State.firePended (s : State) (n : Nat) : State :=
  let bit := 1#32 <<< (n % 32)
  if s.flag R.HOST_LINK_STATUS F.HOST_LINK_STATUS_MSIX ∧ s.msixWord (4 * n + 3) &&& 1#32 = 0#32 ∧ s.pbaWord (n / 32) &&& bit ≠ 0#32 then
    ({ s with msixPend := tabSet (fun _ => 0#32) s.msixPend (n / 32) (s.pbaWord (n / 32) &&& ~~~bit) }).fireVec n
  else s

/-- A write of the MSI-X table (R262, R284): a vector whose entry is unmasked with its pending bit set fires. -/
def State.writeMsix (s : State) (k : Nat) (v : Word) : State :=
  let s := { s with msixTable := tabSet msixDefault s.msixTable k v }
  let n := k / 4
  if k % 4 = 3 then s.firePended n else s

/-! The link (R260, R261, R302, R303, R403). -/

/-- V clears in the translation entries with LOCAL = 0 (R303). -/
def State.clearXlt (s : State) : State :=
  (s.regs.filter (fun p => decide (0x10000 ≤ p.1 ∧ p.1 < 0x20000) && p.1 % 16 == 0)).foldl (fun s p =>
    if s.flag p.1 F.XLT_CTRL_LOCAL then s else s.setF p.1 F.XLT_CTRL_V 0) s

/-- The PCI Express function starts anew: Bus Master Enable, MSI-X, D3hot and Interrupt Disable (log 32), the MSI-X table, the pending
bits, HOST_IRQ_STATUS and the read latches of the path (R260). -/
def State.resetFunction (s : State) : State :=
  let c := R.HOST_LINK_STATUS
  let s := ((s.setF c F.HOST_LINK_STATUS_BME 0).setF c F.HOST_LINK_STATUS_MSIX 0).setF c F.HOST_LINK_STATUS_D3 0
  let s := { s with
    intDis := false
    msixTable := []
    msixPend := []
    hiLatch := s.hiLatch.filter (fun p => p.1 / 2 ^ 18 != pathNo .pcie) }
  (s.wr R.HOST_IRQ_STATUS 0#32).clearXlt

/-- The host link record is applied (R291): the host registers, then the subsystem IDs (R256; its layout is log 26), which are the part's own
where the record does not reach them. -/
def State.loadHost (s : State) : State :=
  match recPlace s.recSet 0x500 with
  | none => s
  | some q =>
    match s.readRecord q 0x500 with
    | some (data, _, t) =>
      let t := t.loadRegs data hostRegs 0
      { t with sys := { t.sys with
          subsys := if 4 * hostRegs.length + 4 ≤ data.length then BitVec.ofNat 32 (leAt data (4 * hostRegs.length) 4) else 0x08401C5F#32 } }
    | none => { s with sys := { s.sys with subsys := 0x08401C5F#32 } }

/-- A dword of the function's configuration header (R256): what the spec gives of it; none of the dwords that it does not give. -/
def State.configWord (s : State) (k : Nat) : Option Word :=
  if k = 0 then some 0x08401C5F#32
  else if k = 2 then some 0x08800001#32
  else if k = 5 ∨ k = 7 ∨ k = 8 ∨ k = 9 ∨ k = 12 then some 0#32
  else if k = 11 then some s.sys.subsys
  else none

/-- A host link reset (R260); the host link record is applied with it. -/
def State.linkReset (s : State) : State :=
  let s := s.each ((List.range 32).filter (fun p => !s.pairLocal p && s.pairState p != ringDisabled)) (fun p s =>
    ((s.setF (R.RING_CFG p) F.RING_CFG_EN 0).dropFetched p).pairDisabled p)
  let s := s.resetFunction
  let s := s.loadHost
  s.setF R.HOST_POLL F.HOST_POLL_EN 0

def State.linkGone (s : State) : State :=
  let c := R.HOST_LINK_STATUS
  ((s.setF c F.HOST_LINK_STATUS_LINK_UP 0).setF c F.HOST_LINK_STATUS_GEN 0).setF c F.HOST_LINK_STATUS_WIDTH 0

def execHostLinkReset (k : LinkReset) (s : State) : Host.Outcome State Fault Refusal :=
  s.act fun s =>
    match k with
    | .perst => s.linkReset.linkGone
    | .hot => s.linkReset
    | .linkDown => ((s.linkReset.linkGone).bump R.HOST_LINK_STATUS F.HOST_LINK_STATUS_DOWNS 1).raise 0x90 0 []
    | .flr => s.linkReset

/-- The host writes the Command, the power management or the MSI-X control register of configuration space (R261–R263). -/
def execBmeChange (bme d3 msix intDis : Bool) (s : State) : Host.Outcome State Fault Refusal :=
  s.act fun s =>
    let c := R.HOST_LINK_STATUS
    let s := ((s.setF c F.HOST_LINK_STATUS_BME (boolNat bme)).setF c F.HOST_LINK_STATUS_D3 (boolNat d3)).setF
      c F.HOST_LINK_STATUS_MSIX (boolNat msix)
    State.each { s with intDis := intDis } (List.range 33) (fun n s => s.firePended n)

/-- The fastest generation and the widest link that the grade of the part trains (R1). -/
def maxGen : Nat := if Config.gradeX then 1 else 3
def maxWidth : Nat := if Config.gradeX then 1 else 2

/-- The link trains within the grade's limits and its data link is active (R1, R403); a part of grade X trains no faster and no
wider, whatever the host offers. -/
def execLinkUp (gen : Fin 4) (width : Fin 3) (s : State) : Host.Outcome State Fault Refusal :=
  s.act fun s =>
    if gen.val = 0 ∨ width.val = 0 ∨ maxGen < gen.val ∨ maxWidth < width.val then s
    else
      let c := R.HOST_LINK_STATUS
      ((s.setF c F.HOST_LINK_STATUS_LINK_UP 1).setF c F.HOST_LINK_STATUS_GEN gen).setF c F.HOST_LINK_STATUS_WIDTH width

/-- SYNC: BUSY until every request issued before has completed (R302). -/
def execXltSync (_ : Path) (s : State) : Host.Outcome State Fault Refusal :=
  s.act fun s => s.setF R.XLT_STATUS F.XLT_STATUS_BUSY 1

def execXltSyncDone (s : State) : Host.Outcome State Fault Refusal :=
  s.act fun s => s.setF R.XLT_STATUS F.XLT_STATUS_BUSY 0

end Sys2Proof.Machine
end

