-- ==== Sys2Proof/Machine/ResetOps.lean ====
section
/-! DEFINITION. Resets and what each keeps (spec/14 R398, R399, R440), the boot decision of an update (R338, R340), the entry into IDLE,
FALLOW and SHIP (R216, R217, R393, R394) and the last gasp (R366, R391). -/

namespace Sys2Proof.Machine

/-! Reset causes (R398). -/

def rcPowerOn : Nat := 1
def rcNrst : Nat := 2
def rcWatchdog : Nat := 3
def rcSoftware : Nat := 4
def rcFallow : Nat := 5
def rcShip : Nat := 6
def rcBrownout : Nat := 7

/-- The causes whose reset finds the block without its supplies (R399, first column). -/
def coldCause (c : Nat) : Bool := c == rcPowerOn || c == rcShip
/-- The causes of the last column of R399. -/
def warmCause (c : Nat) : Bool := !coldCause c && c != rcFallow

/-- The registers that a reset keeps (R399). -/
def keptReg (c off : Nat) : Bool :=
  if coldCause c then false
  else if off == R.PWR_WAKE_EN || off == R.PWR_FALLOW_TIMER || off == R.CLK_CFG then true
  else if c == rcFallow then
    (List.range 5).any (fun n => off == R.COORD_POS_LO n || off == R.COORD_POS_HI n || off == R.COORD_MOD n)
  else decide (0x10000 ≤ off ∧ off < 0x20000) || off == R.HOST_LINK_STATUS

/-! The update at a reset (R337, R338, R340). -/

/-- The image sectors that a build programs. -/
def State.buildSectors (s : State) : Nat :=
  ([1, 2, 3, 4].map (fun c => ceilDiv (s.setLen s.fw.manifest c) 65536)).foldl (· + ·) 0

/-- A reset strikes a build: how far it had come, and whether a flash operation was under way, is open (log 1). -/
def State.stopBuild (s : State) : State :=
  if s.fw.state ≠ 2 then s
  else
    let a := s.takeFree 6
    let b := a.2.takeFree 1
    let left := s.buildSectors - s.fw.sector
    { b.2 with fw := { b.2.fw with sector := s.fw.sector + a.1 % (left + 1), dirty := s.fw.dirty || b.1 == 1 } }

/-- A bank in PENDING or TRIAL is judged at a reset, by the ROM, before anything else runs (R338). A brown-out begins with the loss of VAON
(log 27). -/
def State.romTrial (s : State) (c : Nat) : State :=
  if s.fw.state = 5 then
    let s := s.setSpare { s.spareBank with st := .trial }
    { s with fw := { s.fw with state := 4, boots := 1, running1 := !s.activeIs1 } }
  else if s.fw.state = 4 then
    if (coldCause c || c == rcBrownout) ∧ s.fw.boots < s.fw.bootMax then { s with fw := { s.fw with boots := s.fw.boots + 1 } } else s.fallMarks
  else s

/-- The block after a reset of a cause (R399), before its start-up sequence runs; `aon`: the CLK_AON periods of a FALLOW (R52). -/
def State.afterReset (s : State) (c aon : Nat) : State :=
  let s := s.stopBuild
  let aonTotal := aon * 15625 + s.sys.aonFrac
  let cyc := if coldCause c then 0 else if c = rcFallow then s.cyc + aonTotal / 512 * 200 else s.cyc
  let carry := if warmCause c then s.bb.queue.length + s.bb.breach.length + s.bb.lost else 0
  let t : State := { State.reset with
    cyc := cyc
    free := s.free
    outbox := s.outbox
    pending := s.pending
    regs := s.regs.filter (fun p => keptReg c p.1)
    localWin := if warmCause c then s.localWin else []
    nvm := s.nvm
    bb := { s.bb with queue := [], breach := [], lost := 0 }
    fw := { s.fw with envOld := [], trialUs := 0 }
    sys := {
      startUs := cyc / 200
      wdtAt := cyc
      bbCarry := carry
      pbHeld := s.sys.pbHeld
      longPress := s.sys.longPress && !coldCause c
      longAt := s.sys.longAt
      refLost := warmCause c && s.sys.refLost
      refAt := s.sys.refAt
      pbAt := if coldCause c then none else s.sys.pbAt
      aonFrac := if coldCause c then 0 else if c = rcFallow then aonTotal % 512 else s.sys.aonFrac } }
  let t := t.each [0, 1, 2, 3] (fun i t => t.setPack i { t.pack i with wdtAt := cyc })
  let t := if warmCause c then (t.resetFunction).setF R.HOST_LINK_STATUS F.HOST_LINK_STATUS_DOWNS 0 else t
  let t := if c = rcFallow then t.each (List.range 5) (fun n t => (t.setF (R.COORD_STATUS n) F.COORD_STATUS_STALE 1).restartFar n)
    else t
  (t.setF R.RST_CAUSE F.RST_CAUSE_CAUSE c).romTrial c

/-! Entries into the lower power states. -/

/-- Every stage stops and its channels are released; an identified stage stays ready to start again. -/
def State.stopAll (s : State) : State :=
  s.each (List.range 8) (fun n s => if s.stageRuns n then s.stopStage n stReady else s)

def State.openAll (s : State) : State := s.each (List.range 12) (fun w s => s.openSwitch w)

/-- An EVENT record of kind POWER (R297). -/
def State.powerEvent (s : State) (st : Nat) : State := s.event 5 0 st []

/-- The refusal cause of SHIP, 0 where it is accepted (R216). -/
def State.shipCause (s : State) : Nat :=
  if [0, 1, 2].any (fun n => s.supState n != supAbsent || s.conn n != cnUnattached || decide (800 < s.supV (3 + n))
      || s.supState (3 + n) != supAbsent) then 1
  else if ¬ s.plan.isEmpty then 2
  else if (s.pack 0).vPack < 2500 ∧ (s.pack 1).vPack < 2500 then 3
  else if s.fabState ≠ 2 then 4 else 0

/-- The packs at 2,500 mV or more, as a mask. -/
def State.shipPacks (s : State) : Nat :=
  ([0, 1, 2, 3].map (fun i => if 2500 ≤ (s.pack i).vPack then 2 ^ i else 0)).foldl (· + ·) 0

/-- The entry into SHIP (R217, R359, R440). The health records of the declared packs take their voltage. -/
def State.enterShip (s : State) : State :=
  let s := ((s.powerEvent 0).stopAll).openAll
  let s := s.flushCounters.bbFlush
  let s := s.bbAppendRec ⟨7, 0, s.now48, [BitVec.ofNat 8 s.shipPacks]⟩
  let s := s.each ([0, 1, 2, 3].filter (fun i => s.declared (8 + i))) (fun i s => s.writeHealth i (s.pack i).vPack none)
  { s with sys := { s.sys with power := .ship } }

/-- A request of SHIP: refused with its cause and fault 0x47, or accepted (R216). The result is the cause. -/
def State.requestShip (s : State) : State × Nat :=
  let c := s.shipCause
  let s := s.setF R.SHIP_STATUS F.SHIP_STATUS_REFUSE c
  if c = 0 then (s.enterShip, 0) else (s.raise 0x47 0 [], c)

/-- The refusal cause of IDLE or FALLOW, 0 where it is accepted (R394). -/
def State.restCause (s : State) (fallow : Bool) : Nat :=
  if ¬ s.plan.isEmpty then 1
  else if [0, 1, 2, 3].any (fun i => s.demandOf i != 0 || s.tilthState i != 0) then 2
  else if s.fw.state = 2 ∨ s.fw.state = 4 then 3
  else if fallow && getBits (s.rd R.PWR_WAKE_EN) 0 4 == 0 then 4 else 0

/-- The entry into IDLE (R393). -/
def State.enterIdle (s : State) : State :=
  let s := (s.setF R.GLB_STATUS F.GLB_STATUS_PSTATE 2).powerEvent 2
  let s := s.stopAll
  let s := s.each (List.range 12) (fun w s => if s.pswRole w = 2 ∧ s.releasing then s.openSwitch w else s)
  { s with releasing := false, sys := { s.sys with field := false, wakes := [] } }

/-- The entry into FALLOW (R393, R359, R440); COORD_4 keeps the position that it has (R54). -/
def State.enterFallow (s : State) : State :=
  let s := (s.setF R.GLB_STATUS F.GLB_STATUS_PSTATE 1).powerEvent 1
  let s := (s.setPos 4 (s.coordPos 4)).stopAll
  let s := (s.openAll).flushCounters.bbFlush
  { s with sys := { s.sys with power := .fallow, field := false } }

/-! The power-fail warning (R366, R391, R392). -/

/-- The last gasp: the POWER_LOSS record, with what was aborted and the counts of what is lost; none while the NVM recall of start-up has
not ended. -/
def State.lastGasp (s : State) (aborted : List Byte) : State :=
  let q := s.bb.queue.length
  let b := s.bb.breach.length
  let s := { s with bb := { s.bb with queue := [], breach := [] } }
  if s.flag R.NVM_STATUS F.NVM_STATUS_RECALLING then s
  else s.bbAppendRec ⟨5, 0, s.now48, padTo 8 aborted ++ leBytes 2 q ++ leBytes 2 b⟩

/-- VAON has failed: the channels are released, fault 0x09 is recorded with the voltage below 4,200 mV, which is open (R376, log 1), the
last gasp runs, and the block is held in reset; `aborted`: the operation of the NVM that this has cut short. -/
def State.powerFail (s : State) (aborted : List Byte) : State :=
  let s := s.each (List.range 8) (fun n s => s.stopStage n stOff)
  let v := s.takeFree 32
  let s := ((v.2.raise 0x09 0 (faultRec (v.1 % 4200) 4200)).settle).lastGasp aborted
  let s := (s.openAll).each [0, 1, 2] (fun n s => s.setPort n { s.port n with dschg := false })
  { s with sys := { s.sys with power := .hold, field := false } }

end Sys2Proof.Machine
end

