-- ==== Sys2Proof/Machine/Firmware.lean ====
section
/-! DEFINITION. The commands of firmware updates, the safety envelope and the debug port (spec/11_firmware_trust_update.md R322–R342). -/

namespace Sys2Proof.Machine

/-! The envelope (R327). -/

/-- Every stage running into a node is released by a fault. -/
def State.tripInto (s : State) (node : Nat) : State := s.each (s.stagesRunInto node) (fun n s => s.tripStage n)

def State.openSeries (s : State) (node : Nat) : State :=
  match s.seriesOf node with
  | some w => s.forceOpen w
  | none => s

def execEnvelopePackOv (i : Fin 4) (mv : Nat) (s : State) : Host.Outcome State Fault Refusal :=
  s.act fun s =>
    let lim := s.envThr (80 + 32 * i.val)
    if s.envValid ∧ lim < mv then (s.tripInto (8 + i)).raise 0x58 i (faultRec mv lim) else s

/-- The pack current (mA, positive into the pack) against 1.10 × its limits (10 mA). -/
def execEnvelopePackOc (i : Fin 4) (ma : Int) (s : State) : Host.Outcome State Fault Refusal :=
  s.act fun s =>
    let chg := 10 * s.envThr (84 + 32 * i.val)
    let dsg := 10 * s.envThr (86 + 32 * i.val)
    if ¬ s.envValid then s
    else if (11 * chg : Int) < 10 * ma then (s.tripInto (8 + i)).raise 0x59 i (faultRec ma.natAbs chg)
    else if (11 * dsg : Int) < -(10 * ma) then (s.openSeries (8 + i)).raise 0x5A i (faultRec ma.natAbs dsg)
    else s

/-- The edge of a temperature window that a pack's zone temperature breaks, with `inner` tenths of a degree inside it (R327). -/
def State.tempBreak (s : State) (i : Nat) (dsg : Bool) (inner : Int) : Option Nat :=
  let t := toSigned 16 (s.f (R.PACK_TEMP i) F.PACK_TEMP_T_ZONE)
  let lo := if dsg then s.f (R.ENV_PACK_TDSG i) F.ENV_PACK_TDSG_TDSG_LO else s.f (R.ENV_PACK_TCHG i) F.ENV_PACK_TCHG_TCHG_LO
  let hi := if dsg then s.f (R.ENV_PACK_TDSG i) F.ENV_PACK_TDSG_TDSG_HI else s.f (R.ENV_PACK_TCHG i) F.ENV_PACK_TCHG_TCHG_HI
  if t < toSigned 16 lo + inner then some lo else if toSigned 16 hi - inner < t then some hi else none

/-- Headland's read of a pack's temperature, every 100 ms (R327): a broken window is reported with its record; the discharge window governs where both
are broken; once the temperature is 2.0 °C inside, the cause is gone. -/
def execEnvelopePackTemp (i : Fin 4) (s : State) : Host.Outcome State Fault Refusal :=
  s.act fun s =>
    let due : Bool := match (s.pack i).envTempAt with
      | some c => decide (c + 20000000 ≤ s.cyc)
      | none => true
    let s := if due then s.setPack i { s.pack i with envTempAt := some s.cyc } else s
    let t := s.f (R.PACK_TEMP i) F.PACK_TEMP_T_ZONE
    let record := fun (edge win : Nat) => leBytes 2 t ++ [0#8, 0#8] ++ leBytes 2 edge ++ [0#8, 0#8, BitVec.ofNat 8 win]
    let pack := (s.hrwInst 0x5B i).st != .clear && unitPack 0x5B (s.hrwInst 0x5B i)
    let chg := (s.hrwInst 0x5B i).st != .clear && !pack
    if ¬ s.envValid ∨ !due then s
    else
      match s.tempBreak i true (if pack then 20 else 0) with
      | some e => (s.openSeries (8 + i)).raise 0x5B i (record e 1)
      | none =>
        match s.tempBreak i false (if chg then 20 else 0) with
        | some e => (s.tripInto (8 + i)).raise 0x5B i (record e 0)
        | none => if (s.hrwInst 0x5B i).st = .clear then s else s.causeGone 0x5B i

def execEnvelopeRailOv (r : Fin 8) (mv : Nat) (s : State) : Host.Outcome State Fault Refusal :=
  s.act fun s =>
    let lim := s.envThr (208 + 8 * r.val)
    if s.envValid ∧ lim < mv then (s.tripInto r).raise 0x29 r (faultRec mv lim) else s

/-- 1 ms after a lowered limit, the comparators take it (R327). -/
def execEnvThresholdMove (s : State) : Host.Outcome State Fault Refusal :=
  s.act fun s =>
    if s.sys.envMove ∧ s.sys.envAt + 200000 ≤ s.cyc then
      { s with
        sys := { s.sys with envMove := false }
        fw := { s.fw with envOld := [] } }
    else s

/-! Updates (R335–R340). -/

/-- The build ends (R337): BUILT with its directory entry, or BUILD_FAILED. -/
def execFwuBuildDone (verifyOk : Bool) (s : State) : Host.Outcome State Fault Refusal :=
  s.act fun s =>
    if s.fw.state ≠ 2 ∨ ¬ s.sys.field then s
    else
      match s.buildResult verifyOk with
      | .error e => s.buildFailed e
      | .ok cs =>
        let n := s.buildSectors
        let s := s.setSpare { st := .empty, comps := cs }
        ({ s with fw := { s.fw with state := 3, sector := n, dirty := false } }).showFw

/-- No order in the Plan table and every stage in OFF, READY or LOCKED. -/
def State.quietStages (s : State) : Bool :=
  s.plan.isEmpty && (List.range 8).all (fun n =>
    s.stageState n == stOff || s.stageState n == stReady || s.stageState n == stLocked)

/-- A write of FWU_CTRL.ACTIVATE (R338): the bank is PENDING; in mode 0 the system resets at once, which makes it the first trial boot.
The record of the activation is appended before that reset. -/
def State.activateBank (s : State) : State :=
  if s.fw.state ≠ 3 then s
  else if !s.quietStages then s.hwSet R.FWU_STATUS F.FWU_STATUS_ACT_REFUSED 1
  else
    let new := s.spareBank.comp 3
    let s := s.bbFirmware 1 new.version
    let s := s.setSpare { s.spareBank with st := .pending }
    let s := { s with fw := { s.fw with
      state := 5
      newFormat := new.format != (s.activeBank.comp 3).format
      bootMax := max 1 (s.f R.FWU_CFG F.FWU_CFG_TRIAL_BOOTS) } }
    if s.flag R.FWU_CFG F.FWU_CFG_ACT_MODE then s.showFw else (s.bbFlush).afterReset rcSoftware 0

def execActivate (_ : Path) (s : State) : Host.Outcome State Fault Refusal :=
  s.act fun s => s.activateBank

/-- A write of FWU_CTRL.ABANDON (R335, R338): ignored in BUILDING and TRIAL. -/
def State.abandonUpdate (s : State) : State :=
  if s.fw.state = 2 ∨ s.fw.state = 4 then s
  else
    let s := if s.fw.state = 5 then ({ s with fw := { s.fw with last := 4 } }).setSpare {} else s
    ({ s with fw := { s.fw with state := 0, manifest := [], staged := [], sector := 0, dirty := false } }).showFw

def execAbandon (_ : Path) (s : State) : Host.Outcome State Fault Refusal :=
  s.act fun s => s.abandonUpdate

/-- TRIAL_S: 10–3,600 s, other values as 120. -/
def State.trialSec (s : State) : Nat :=
  let v := s.f R.FWU_CFG F.FWU_CFG_TRIAL_S
  if 10 ≤ v ∧ v ≤ 3600 then v else 120

/-- The trial time has passed, counted from RUN-ready. -/
def State.trialOver (s : State) : Bool := s.runReady && decide (s.fw.trialUs + 1000000 * s.trialSec ≤ s.us)

/-- CONFIRM, which counts only from the Field cores, in TRIAL and before the trial time has passed (R338, R339). -/
def State.confirmTrial (s : State) (p : Path) : State :=
  if p ≠ .field ∨ s.fw.state ≠ 4 ∨ ¬ s.sys.field ∨ s.trialOver then s
  else
    let new := s.runBank
    let old := { s.activeBank with st := .previous }
    let s := s.bbFirmware 2 (new.comp 3).version
    let done := { new with st := .active }
    let s := if s.fw.newFormat then s.dropSet s.fw.pset else s
    let s := { s with fw := { s.fw with
      bank0 := if s.fw.running1 then old else done
      bank1 := if s.fw.running1 then done else old
      state := 0
      last := 1
      boots := 0
      manifest := []
      staged := []
      floors := (List.range 4).map (fun c => max (s.fw.floors.getD c 0) (new.comp c).svn)
      pset := if s.fw.newFormat then 1 - s.fw.pset else s.fw.pset
      newFormat := false } }
    (s.setF R.NVM_STATUS F.NVM_STATUS_PSET s.fw.pset).showFw

def execConfirm (p : Path) (s : State) : Host.Outcome State Fault Refusal :=
  s.act fun s => s.confirmTrial p

/-- TRIAL_S has passed without confirmation (R338, R340): the ACTIVE bank boots, by a system reset. -/
def execTrialExpiry (s : State) : Host.Outcome State Fault Refusal :=
  s.act fun s => if s.fw.state = 4 ∧ s.trialOver then s.afterReset rcSoftware 0 else s

/-! The debug port (R342). -/

/-- Steps 1 to 3: the Safe-state, the DEBUG_OPEN record under the present seal key, DEBUG_PENDING. -/
def execDbgOpen (s : State) : Host.Outcome State Fault Refusal :=
  s.act fun s =>
    if s.fw.life = 4 ∨ s.fw.life = 3 then s
    else
      let s := (s.raise 0xBE 0 []).bbAppendRec ⟨9, 0, s.now48, []⟩
      let s := s.raise 0xBD 0 []
      ({ s with fw := { s.fw with life := 3 }, sys := { s.sys with dbgAt := s.cyc } }).showFw

/-! The mailbox (R322). -/

/-- A request of Field firmware: Headland does what a host could ask of it through the CONTROL ring (R322; the rest is refused). -/
def execMailboxRequest (m : Mailbox) (s : State) : Host.Outcome State Fault Refusal :=
  s.act fun s =>
    if !s.sys.field then s
    else
      match m with
      | .envelope record =>
        let r := s.commitEnv record
        if r.2 then r.1 else r.1.raise 0xB5 0 []
      | .ship =>
        let r := s.requestShip
        if r.2 = 0 then r.1 else r.1.raise 0xB5 0 []
      | .hwWrite _ _ => s.raise 0xB5 0 []
      | .wdtService _ => s.raise 0xB5 0 []
      | .keyUse _ => s.raise 0xB5 0 []
      | .secureWrite _ => s.raise 0xB5 0 []
      | .flashWrite _ => s.raise 0xB5 0 []

end Sys2Proof.Machine
end

