-- ==== Sys2Proof/Machine/HarrowCmds.lean ====
section
/-! DEFINITION. The commands of Harrow and the system watchdog (spec/13_faults_and_watchdog.md R370–R389). -/

namespace Sys2Proof.Machine

/-- A mechanism reports a fault; a corrected read of the code flash is counted (R360). -/
def execFaultReport (id : Fin 256) (inst : Fin 16) (record : List Byte) (s : State) : Host.Outcome State Fault Refusal :=
  s.act fun s => (if id.val = 0xA7 then s.bump R.CFL_STATUS F.CFL_STATUS_CORR 1 else s).raise id inst record

/-- The openings of a Safe-state are confirmed and the egress switches begin to close (R37). -/
def execEgressClose (s : State) : Host.Outcome State Fault Refusal :=
  s.act fun s => if s.safeOn then s.egressClose else s

/-- The condition behind a fault has ended; a PLL that lost lock is locked again (R377, R405). -/
def execFaultCauseGone (id : Fin 256) (inst : Fin 16) (s : State) : Host.Outcome State Fault Refusal :=
  s.act fun s =>
    let s := if id.val = 0x04 ∧ inst.val = 3 then s.setF R.CLK_STATUS F.CLK_STATUS_PLLA_LOCK 1
      else if id.val = 0x04 ∧ inst.val = 6 then s.setF R.CLK_STATUS F.CLK_STATUS_PLLB_LOCK 1 else s
    s.causeGone id inst

def execQuietExpiry (id : Fin 256) (inst : Fin 16) (s : State) : Host.Outcome State Fault Refusal :=
  s.act fun s => s.quietEnd id inst

/-- A software clear with its result in HRW_CLEAR_RESULT (R379). -/
def State.clearFault (s : State) (id inst : Nat) : State × Nat :=
  let r := s.softClear id inst
  (r.1.setF R.HRW_CLEAR_RESULT F.HRW_CLEAR_RESULT_CAUSE r.2, r.2)

def execHrwClear (_ : Path) (v : Word) (s : State) : Host.Outcome State Fault Refusal :=
  s.act fun s => (s.clearFault (getBits v 0 8) (getBits v 8 4)).1

def execSafeReq (_ : Path) (s : State) : Host.Outcome State Fault Refusal :=
  s.act fun s => s.raise 0xBE 1 []

/-- The rails that a TIE switch ties. -/
def State.tieRails (s : State) (w : Nat) : List Nat := [s.pswA w, s.pswB w].filter isRail

/-- A TIE switch closed in egress opens once its rails are in regulation, or 1 s after the release (R24, R380). -/
def execEgressTieRelease (w : Fin 12) (s : State) : Host.Outcome State Fault Refusal :=
  s.act fun s =>
    let ok := (s.tieRails w).all (fun r => s.flag (R.RAIL_STATUS r) F.RAIL_STATUS_PGOOD)
      || decide (s.sys.releaseAt + 200000000 ≤ s.cyc)
    if s.releasing ∧ s.pswRole w = 2 ∧ s.pswClosed w ∧ ok then
      let s := s.openSwitch w
      { s with releasing := (List.range 12).any (fun w => s.pswRole w == 2 && s.pswClosed w) }
    else s

/-- A write of HRW_INJECT (R384). -/
def State.writeInject (s : State) (p : Path) (v : Word) : State :=
  let c := R.HRW_INJECT
  let s := (s.loadReg c v).wr c ((s.loadReg c v).rd c &&& ~~~(v &&& accMask c [.w1c]))
  if getBits v F.HRW_INJECT_ARM.lo 1 = 0 then s
  else
    let m := getBits v 0 3
    let a := s.rdN R.HRW_INJECT_ADDR
    if !s.quietStages || 5 < m || (m == 5 && decide (a < 0x16000 ∨ 0x1FFFF < a)) || (m == 1 && p != .headland) then
      s.hwSet c F.HRW_INJECT_INJ_REFUSED 1
    else
      let s := { s with sys := { s.sys with injMem := m, injAddr := a, injBits := if getBits v 4 2 = 2 then 2 else 1 } }
      s.setF c F.HRW_INJECT_ARMED 1

def execHrwInjectArm (p : Path) (v : Word) (s : State) : Host.Outcome State Fault Refusal :=
  s.act fun s => s.writeInject p (putBits v F.HRW_INJECT_ARM.lo 1 1)

/-! The system watchdog (R385–R388). -/

def State.wdtWin (s : State) : Nat := max 1 (s.f R.WDT_CFG F.WDT_CFG_WIN_MS)
def State.wdtMs (s : State) : Nat := (s.cyc - s.sys.wdtAt) / 200000

/-- The watchdog counts: not in IDLE (R389). -/
def State.wdtRuns (s : State) : Bool := s.inRun

/-- The expiry sequence begins (R388), or a second cause is noted in the fault record during the grace period. -/
def State.wdtExpire (s : State) (cause : Nat) (record : List Byte) : State :=
  if s.sys.grace then
    let k := s.f R.WDT_STATUS F.WDT_STATUS_CAUSE
    let h := s.hrwInst 0xB1 k
    s.setHrw 0xB1 k { h with record := (padTo 16 h.record).set 8 (BitVec.ofNat 8 cause) }
  else
    let s := (s.setF R.WDT_STATUS F.WDT_STATUS_EXPIRED 1).setF R.WDT_STATUS F.WDT_STATUS_CAUSE cause
    let s := { s with sys := { s.sys with grace := true, graceAt := s.cyc } }
    (s.emit .nmi).raise 0xB1 cause record

/-- A service (R385): Headland's; ignored during the grace period. -/
def State.wdtServe (s : State) (v : Word) : State :=
  let key := getBits v 0 16
  let early := s.f R.WDT_CFG F.WDT_CFG_EARLY_MS
  let en := s.f R.WDT_TASK_EN F.WDT_TASK_EN_EN
  let seen := s.f R.WDT_STATUS F.WDT_STATUS_SEEN
  if s.sys.grace || !s.wdtRuns then s
  else if key ≠ 0xA5C3 then s.wdtExpire 6 (faultRec key 0xA5C3)
  else if early ≠ 0 ∧ s.cyc < s.sys.wdtAt + early * 200000 then s.wdtExpire 2 (faultRec s.wdtMs early)
  else if (List.range 16).any (fun k => bitsOf en k 1 == 1 && bitsOf seen k 1 == 0) then s.wdtExpire 3 (faultRec seen en)
  else ({ s with sys := { s.sys with wdtAt := s.cyc, wdtServed := some (s.cyc / 2) } }).setF R.WDT_STATUS F.WDT_STATUS_SEEN 0

/-- Every write to the watchdog range by another master raises 0xB0 (R439). -/
def execWdtService (p : Path) (v : Word) (s : State) : Host.Outcome State Fault Refusal :=
  s.act fun s => if p = .headland then s.wdtServe v else s.raise 0xB0 (pathNo p) (leBytes 4 R.WDT_SERVICE)

/-- A check-in (R386): from the Field cores and Headland, of an enabled slot; a second one in a window is an anomaly, and one in the CLK_HEAD
cycle of an accepted service belongs to the window that has closed, in which every enabled slot had checked in. -/
def State.wdtCheck (s : State) (p : Path) (v : Word) : State :=
  let k := getBits v 0 4
  if p = .pcie ∨ p = .spi ∨ bitsOf (s.f R.WDT_TASK_EN F.WDT_TASK_EN_EN) k 1 = 0 ∨ ¬ s.wdtRuns then s
  else if getBits (s.rd R.WDT_STATUS) k 1 = 0 ∧ s.sys.wdtServed ≠ some (s.cyc / 2) then s.wr R.WDT_STATUS (putBits (s.rd R.WDT_STATUS) k 1 1)
  else
    let s := (s.hwSet R.WDT_ANOMALY ⟨k, 1⟩ 1).bump R.WDT_ANOMALY F.WDT_ANOMALY_COUNT 1
    if bitsOf (s.f R.WDT_TASK_EN F.WDT_TASK_EN_STRICT) k 1 = 1 then s.wdtExpire 4 (faultRec k 0) else s

def execWdtCheckin (p : Path) (v : Word) (s : State) : Host.Outcome State Fault Refusal :=
  s.act fun s => s.wdtCheck p v

def execWdtWindowExpiry (s : State) : Host.Outcome State Fault Refusal :=
  s.act fun s =>
    if s.wdtRuns ∧ s.sys.wdtAt + s.wdtWin * 200000 ≤ s.cyc then s.wdtExpire 1 (faultRec s.wdtMs s.wdtWin) else s

def execWdtClockLoss (s : State) : Host.Outcome State Fault Refusal :=
  s.act fun s => if s.wdtRuns then s.wdtExpire 5 [] else s

end Sys2Proof.Machine
end

