-- ==== Sys2Proof/Machine/Path.lean ====
section
/-! DEFINITION. The commands of the inputs and the path (spec/05_power_path.md R142–R161). -/

namespace Sys2Proof.Machine

/-! The solar tracker (R149). -/

def State.mpptMin (s : State) : Nat := max (s.nodeVmin 18) (s.f R.INPUT_2_MPPT_VRANGE F.INPUT_2_MPPT_VRANGE_VMIN)
def State.mpptMax (s : State) : Nat :=
  let v := s.f R.INPUT_2_MPPT_VRANGE F.INPUT_2_MPPT_VRANGE_VMAX
  if v = 0 ∨ v > s.nodeVmax 18 then s.nodeVmax 18 else v
def State.mpptOn (s : State) : Bool := s.flag R.INPUT_2_MPPT_CFG F.INPUT_2_MPPT_CFG_EN && s.supState 2 == supOnline
def State.mpptStepMv (s : State) : Nat := s.f R.INPUT_2_MPPT_CFG F.INPUT_2_MPPT_CFG_STEP * 10
def State.vOp (s : State) : Nat := s.f R.INPUT_2_MPPT_STATUS F.INPUT_2_MPPT_STATUS_V_OP

/-- V_FLOOR of every stage that draws from a node. -/
def State.setFloor (s : State) (node mv : Nat) : State :=
  (s.stagesOutOf node).foldl (fun s k => s.setF (R.STAGE_VFLOOR k) F.STAGE_VFLOOR_V_FLOOR mv) s

/-- V_OP is set, and with it V_FLOOR of every INPUT_2 stage. -/
def State.setVOp (s : State) (mv : Nat) : State :=
  (s.setF R.INPUT_2_MPPT_STATUS F.INPUT_2_MPPT_STATUS_V_OP mv).setFloor 18 mv

/-- The tracker starts a sweep at VMAX (R149), at a transition to ONLINE with DIR 0; an unusable range stops it. -/
def State.mpptStart (s : State) (online : Bool) : State :=
  if s.mpptMax ≤ s.mpptMin then
    ((s.setF R.INPUT_2_MPPT_STATUS F.INPUT_2_MPPT_STATUS_RANGE_ERR 1).setF R.INPUT_2_MPPT_STATUS
      F.INPUT_2_MPPT_STATUS_LIMITED 0).setFloor 18 s.mpptMin
  else
    let s := s.setF R.INPUT_2_MPPT_STATUS F.INPUT_2_MPPT_STATUS_RANGE_ERR 0
    let s := if online then s.setF R.INPUT_2_MPPT_STATUS F.INPUT_2_MPPT_STATUS_DIR 0 else s
    let s := s.setF R.INPUT_2_MPPT_STATUS F.INPUT_2_MPPT_STATUS_SWEEPING 1
    let m : MpptRt := if online then {} else s.mppt
    ({ s with mppt := { m with bestP := 0, bestV := s.mpptMax, sweepAt := s.cyc, stepAt := s.cyc } }).setVOp s.mpptMax

/-- The 10 ms step of the tracker is due (R149). -/
def State.mpptDue (s : State) : Bool := decide (s.mppt.stepAt + 2000000 ≤ s.cyc)

/-- A periodic sweep is due (R149): none while SWEEP_S is 0. -/
def State.sweepDue (s : State) : Bool :=
  let n := s.f R.INPUT_2_MPPT_CFG F.INPUT_2_MPPT_CFG_SWEEP_S
  n != 0 && decide (s.mppt.sweepAt + n * 200000000 ≤ s.cyc)

/-- The power at which 0x67 counts: 1 % of the budget, or 1,000 mW without one. -/
def State.mpptLowMw (s : State) : Nat :=
  let b := s.rdN (R.INPUT_BUDGET 2)
  if b = 0 then 1000 else b / 100

/-- A step of the tracker is taken: since when its mean power has been below 1 % of the budget while LIMITED. -/
def State.mpptTimes (s : State) (meanMw : Nat) (limited : Bool) : State :=
  let b := s.rdN (R.INPUT_BUDGET 2)
  let low := limited && (if b = 0 then decide (meanMw < 1000) else decide (100 * meanMw < b))
  let m := s.mppt
  { s with mppt := { m with stepAt := s.cyc, lowAt := if low then some (m.lowAt.getD s.cyc) else none,
                            lowTold := m.lowTold && low } }

/-- V_FLOOR of an input's stages: LOSS_MV + FLOOR_MARGIN (R144). -/
def State.inputFloor (s : State) (x : Nat) : State :=
  s.setFloor (supNode x) (sat 16 (s.lossMv x + s.f (R.INPUT_FLOOR x) F.INPUT_FLOOR_FLOOR_MARGIN))

/-- A supply reaches ONLINE (R142, R144, R149). -/
def State.supplyOnline (s : State) (x : Nat) : State :=
  let s := (s.setSupState x supOnline).setSupply x { s.supply x with ready := false }
  if x < 2 then s.inputFloor x
  else if x = 2 then (if s.mpptOn then s.mpptStart true else s)
  else s

/-- The voltage of a supply comes into range (R142): an ABSENT supply starts to qualify; an input in FAULT that Harrow no
longer holds returns to ABSENT first. -/
def execInputInRange (x : Supply) (mv : Nat) (s : State) : Host.Outcome State Fault Refusal :=
  s.act fun s =>
    let k := supNo x
    let s := s.setSupV k mv
    (s.supRecover k).startQualify k

/-- The voltage of a qualifying supply leaves its range (R142). -/
def execInputOutOfRange (x : Supply) (mv : Nat) (s : State) : Host.Outcome State Fault Refusal :=
  s.act fun s =>
    let k := supNo x
    let s := s.setSupV k mv
    if s.supState k = supQualify ∧ ¬ s.supInRange k mv then
      (s.setSupState k supAbsent).setSupply k { s.supply k with ready := false }
    else s

/-- A supply has been in range throughout INPUT_QUALIFY_MS (R142, R144). -/
def State.qualified (s : State) (x : Nat) : Bool :=
  s.supState x == supQualify && !(s.supply x).ready && s.supInRange x (s.supV x)
    && decide ((s.supply x).qualAt + s.qualifyCycles ≤ s.cyc)

/-- INPUT_QUALIFY_MS has elapsed in range: the SERIES switch begins to close, or the supply waits for the Safe-state to lift
(R142). Where several supplies have qualified by then, they go on in the order of their priorities (R147). -/
def execInputQualifyDone (x : Supply) (s : State) : Host.Outcome State Fault Refusal :=
  s.act fun s =>
    let k := supNo x
    if s.qualified k then s.each (s.supOrder.filter s.qualified) (fun x s => s.startClosing x) else s

/-- A closing switch reaches full enhancement (R150): its supply goes ONLINE (R142), or a Source port goes on with step 5 of
R228. -/
def execPswGateOk (w : Fin 12) (s : State) : Host.Outcome State Fault Refusal :=
  s.act fun s =>
    if s.pswClosed w ∧ ¬ s.pswOk w then
      let s := s.setF (R.PSW_STATUS w) F.PSW_STATUS_GATE_OK 1
      if s.pswRole w = 1 then
        match supOfNode (s.pswA w) with
        | none => s
        | some x =>
          if s.supState x = supClosing then s.supplyOnline x
          else if 3 ≤ x ∧ (s.port (x - 3)).srcStep = 4 then (s.setPort (x - 3) { s.port (x - 3) with srcStep := 5 }).sourceCheck (x - 3)
          else s
      else s
    else s

/-- The supply in CLOSING that a SERIES switch serves. -/
def State.closingSupply (s : State) (w : Nat) : Option Nat :=
  if s.pswRole w = 1 then (supOfNode (s.pswA w)).filter (fun x => s.supState x == supClosing) else none

/-- GATE_OK has not come within 1 ms of the start of closure: the switch opens with fault 0x64, and a supply in CLOSING enters FAULT
(R142, R150), also where a Safe-state has opened its switch meanwhile. -/
def execPswGateTimeout (w : Fin 12) (s : State) : Host.Outcome State Fault Refusal :=
  s.act fun s =>
    match s.closingSupply w with
    | some x =>
      if (s.supply x).closeAt + 200000 ≤ s.cyc ∧ ¬ (s.pswClosed w ∧ s.pswOk w) then
        ((s.openSwitch w).setSupState x supFault).raise 0x64 w []
      else s
    | none =>
      if s.pswClosed w ∧ ¬ s.pswOk w ∧ (s.psw w).closeAt + 200000 ≤ s.cyc then (s.openSwitch w).raise 0x64 w [] else s

/-- An ONLINE supply stays below its loss threshold for LOSS_DGL: LOST, with its hand-over (R142, R156, R241). -/
def execInputLoss (x : Supply) (mv : Nat) (s : State) : Host.Outcome State Fault Refusal :=
  s.act fun s =>
    let k := supNo x
    let s := s.setSupV k mv
    match (s.supply k).below with
    | some t => if s.supState k = supOnline ∧ t + s.lossCycles k ≤ s.cyc then s.loseSupply k supLost true else s
    | none => s

/-- An ONLINE input stays above OV_MV for 1 µs: FAULT, switch open, hand-over, fault 0x62 (R142). -/
def execInputOv (n : Fin 3) (mv : Nat) (s : State) : Host.Outcome State Fault Refusal :=
  s.act fun s =>
    let s := s.setSupV n mv
    match (s.supply n).above with
    | some t =>
      if s.supState n = supOnline ∧ t + 200 ≤ s.cyc then
        ((s.hwSet (R.INPUT_STATUS n) F.INPUT_STATUS_OV 1).loseSupply n supFault true).raise 0x62 n (faultRec mv (s.ovMv n))
      else s
    | none => s

/-- EN of an input is cleared (R142): an ONLINE input is LOST with its hand-over; one that qualifies or closes is ABSENT. -/
def State.disableInput (s : State) (n : Nat) : State :=
  let s := s.setF (R.INPUT_CFG n) F.INPUT_CFG_EN 0
  if s.supState n = supOnline ∨ s.supState n = supQualify ∨ s.supState n = supClosing then s.loseSupply n supLost true else s

def execInputDisable (_ : Path) (n : Fin 3) (s : State) : Host.Outcome State Fault Refusal :=
  s.act fun s => s.disableInput n

/-- Step 7 of R156: once the re-validation has run, the rail is in PACKS, and a source LOST in it returns to ABSENT, from where
it may qualify again (R160); a rail that left its regulation meanwhile is reported with its lowest voltage (R158). -/
def execHandoverComplete (r : Fin 8) (s : State) : Host.Outcome State Fault Refusal :=
  s.act fun s =>
    if s.railSupply r = supHandover ∧ (s.xfer r).revalDone then
      let lost := (s.xfer r).lost
      let s := match (s.xfer r).low with
        | some v => s.raise 0x66 r (faultRec v (s.f (R.RAIL_STATUS r) F.RAIL_STATUS_REF))
        | none => s
      let s := (s.setXfer r {}).setF (R.SUPPLY_STATUS r) F.SUPPLY_STATUS_STATE supPacks
      lost.foldl State.freeLost s
    else s

/-- The reverse comparator opens a switch (R151, R152): REV_TRIP, TRIPS, 0x63, and 0x68 at the third trip within 1 s. The
comparator of a pack switch is inactive while PERMIT is both, but not in the egress configuration (R39). -/
def execPswReverseTrip (w : Fin 12) (s : State) : Host.Outcome State Fault Refusal :=
  s.act fun s =>
    let pack := isPack (s.pswA w) && s.pswRole w == 1
    if ¬ s.pswClosed w ∨ (pack ∧ ¬ s.safeOn ∧ s.f (R.PSW_STATUS w) F.PSW_STATUS_PERMIT = 3) then s
    else
      let recent := (s.psw w).trips.filter (fun t => decide (s.cyc < t + 200000000))
      let s := (s.hwSet (R.PSW_STATUS w) F.PSW_STATUS_REV_TRIP 1).bump (R.PSW_STATUS w) F.PSW_STATUS_TRIPS 1
      let s := s.setPsw w { s.psw w with trips := (s.cyc :: recent).take 3, hold := pack, tripped := true,
                                         egressTrip := (s.psw w).egressTrip || s.safeOn }
      let s := s.raise 0x63 w []
      let s := if 2 ≤ recent.length then s.raise 0x68 w [] else s
      match (if s.pswRole w = 1 then supOfNode (s.pswA w) else none) with
      | some x =>
        let s := if x < 3 then s.hwSet (R.INPUT_STATUS x) F.INPUT_STATUS_REV 1 else s
        ((s.loseSupply x supLost true).openSwitch w).trigReval (if x < 3 then 0x0003 else 0x0002)
      | none => s.forceOpen w

/-- REV_HOLD has passed after a trip of a pack switch: it may close again under dispatch (R152). -/
def execRevHoldExpiry (w : Fin 12) (s : State) : Host.Outcome State Fault Refusal :=
  s.act fun s =>
    if (s.psw w).hold ∧ ((s.psw w).trips.headD 0) + s.f (R.PSW_REV w) F.PSW_REV_REV_HOLD * 2000000 ≤ s.cyc then
      s.setPsw w { s.psw w with hold := false, forced := s.heldSwitch w || (isPack (s.pswA w) && s.heldPack (s.pswA w - 8)) }
    else s

/-- The 10 ms step of the tracker (R149). -/
def execMpptStep (meanMw : Nat) (s : State) : Host.Outcome State Fault Refusal :=
  s.act fun s =>
    if ¬ s.mpptOn ∨ ¬ s.mpptDue ∨ s.flag R.INPUT_2_MPPT_STATUS F.INPUT_2_MPPT_STATUS_SWEEPING then s
    else if s.mpptMax ≤ s.mpptMin ∨ s.flag R.INPUT_2_MPPT_STATUS F.INPUT_2_MPPT_STATUS_RANGE_ERR then s.mpptStart true
    else
      let stages := s.stagesOutOf 18
      let limited := stages.any (fun k => bitsOf (s.stage k).selHist 3 1 == 1)
      let s := stages.foldl (fun s k => s.setStage k { s.stage k with selHist := 0 }) s
      let p := s.mppt.pLast
      let s := ({ s with mppt := { s.mppt with pLast := meanMw } }).mpptTimes meanMw limited
      let s := s.setF R.INPUT_2_MPPT_STATUS F.INPUT_2_MPPT_STATUS_LIMITED (boolNat limited)
      if ¬ limited then s
      else
        let dir := s.flag R.INPUT_2_MPPT_STATUS F.INPUT_2_MPPT_STATUS_DIR
        let dir := if meanMw < p then !dir else dir
        let s := s.setF R.INPUT_2_MPPT_STATUS F.INPUT_2_MPPT_STATUS_DIR (boolNat dir)
        let v := if dir then s.vOp + s.mpptStepMv else s.vOp - s.mpptStepMv
        s.setVOp (min (max v s.mpptMin) s.mpptMax)

/-- The 10 ms step of a sweep (R149): a periodic one begins at VMAX once SWEEP_S has passed; the mean power at the present V_OP is compared
with the best; V_OP steps down until VMIN, then takes the best point, which PMPP records. -/
def execMpptSweep (meanMw : Nat) (s : State) : Host.Outcome State Fault Refusal :=
  s.act fun s =>
    if ¬ s.mpptOn ∨ ¬ s.mpptDue then s
    else if s.mpptMax ≤ s.mpptMin ∨ s.flag R.INPUT_2_MPPT_STATUS F.INPUT_2_MPPT_STATUS_RANGE_ERR then s.mpptStart true
    else if ¬ s.flag R.INPUT_2_MPPT_STATUS F.INPUT_2_MPPT_STATUS_SWEEPING then (if s.sweepDue then s.mpptStart false else s)
    else
      let s := s.mpptTimes meanMw (s.flag R.INPUT_2_MPPT_STATUS F.INPUT_2_MPPT_STATUS_LIMITED)
      let s := if meanMw > s.mppt.bestP then { s with mppt := { s.mppt with bestP := meanMw, bestV := s.vOp } } else s
      if s.vOp ≤ s.mpptMin then
        let s := (s.wrN R.INPUT_2_MPPT_PMPP s.mppt.bestP).setF R.INPUT_2_MPPT_STATUS F.INPUT_2_MPPT_STATUS_SWEEPING 0
        s.setVOp s.mppt.bestV
      else s.setVOp (max s.mpptMin (s.vOp - 8 * s.mpptStepMv))

/-- The power has stayed low for 60 s while LIMITED: fault 0x67; the input stays ONLINE (R149). -/
def execMpptNoPower (s : State) : Host.Outcome State Fault Refusal :=
  s.act fun s =>
    match s.mppt.lowAt with
    | some t =>
      if s.mpptOn ∧ s.flag R.INPUT_2_MPPT_STATUS F.INPUT_2_MPPT_STATUS_LIMITED ∧ ¬ s.mppt.lowTold ∧ t + 12000000000 ≤ s.cyc then
        ({ s with mppt := { s.mppt with lowTold := true } }).raise 0x67 2 (faultRec s.mppt.pLast s.mpptLowMw)
      else s
    | none => s

/-- HOLD_MS, at least 1 s, has passed since XFER_LAST of a rail (R161). -/
def State.holdPassed (s : State) (r : Nat) : Bool :=
  decide (s.absTime (s.rd64 (R.SUPPLY_XFER_LAST_LO r) (R.SUPPLY_XFER_LAST_HI r))
    + 1000 * max 1000 (s.f R.XFER_CFG F.XFER_CFG_HOLD_MS) ≤ s.us)

/-- A transfer back starts (R161): the source stage's limit ramps from zero, and XFER_LAST is set. -/
def execTransferBackStart (r : Fin 8) (s : State) : Host.Outcome State Fault Refusal :=
  s.act fun s =>
    match s.onlineOn r with
    | [] => s
    | x :: _ =>
      if s.railSupply r = supPacks ∧ s.holdPassed r then
        let s := s.setXfer r { lost := [], low := none, revalDone := false, ramp := 0, src := x }
        (s.setF (R.SUPPLY_STATUS r) F.SUPPLY_STATUS_STATE supTransfer).wr64
          (R.SUPPLY_XFER_LAST_LO r) (R.SUPPLY_XFER_LAST_HI r) s.now48
      else s

/-- SOURCED or SUPPLEMENT, by whether loop C or D is selected on a stage of an ONLINE source of the rail (R155). -/
def State.sourcedState (s : State) (r : Nat) : Nat :=
  if (s.onlineOn r).any (fun x => (s.stagesOutOf (supNode x)).any (fun n =>
      s.stRecv n (s.stageDir n) == r && s.stageRuns n && decide (2 ≤ s.f (R.STAGE_STATUS n) F.STAGE_STATUS_SEL))) then
    supSupplement
  else supSourced

/-- The rail has reached SOURCED or SUPPLEMENT in a transfer back (R161): the source's ramp has come up to the rail's load, or loop C or
D limits it before. -/
def State.backDone (s : State) (r : Nat) : Bool :=
  decide ((s.rail r).load ≤ (s.xfer r).ramp) || decide (s.sourcedState r = supSupplement)

/-- The transfer back ends when the rail reaches SOURCED or SUPPLEMENT (R161). -/
def execTransferBackDone (r : Fin 8) (s : State) : Host.Outcome State Fault Refusal :=
  s.act fun s =>
    if s.railSupply r = supTransfer ∧ ¬ (s.onlineOn r).isEmpty ∧ s.backDone r then
      (s.setXfer r {}).setF (R.SUPPLY_STATUS r) F.SUPPLY_STATUS_STATE (s.sourcedState r)
    else s

end Sys2Proof.Machine
end

