-- ==== Sys2Proof/Machine/Power.lean ====
section
/-! DEFINITION. Start-up, power states, resets and clocks (spec/14_startup_states_clocks.md R390–R408), SHIP and the long press
(spec/07 R216–R219). -/

namespace Sys2Proof.Machine

/-! Start-up (R401). -/

/-- The registers that a stored record sets, loaded as far as the record reaches; an absent record leaves them (R355). -/
def State.loadRecord (s : State) (id : Nat) (regs : List Nat) : State :=
  match recPlace s.recSet id with
  | none => s
  | some p =>
    match s.readRecord p id with
    | some (data, _, t) => t.loadRegs data regs 0
    | none => s

/-- What recall finds of a record: equal SEQs of two valid copies (R353), or a written place without a valid copy (R355). -/
def State.recallRecord (s : State) (id : Nat) (p : RecPlace) : State :=
  if s.seqTie p id then
    (s.raise 0xA2 0 []).bbQueue 6 0 (leBytes 2 id ++ leBytes 4 (s.copySeq p false))
  else if (s.currentCopy p id).isNone
      && (List.range (32 * p.pages)).any (fun g => s.nvmGroup (16 * p.page + g) != .unwritten) then s.raise 0xA4 0 []
  else s

/-- A counter resumes (R359). -/
def State.recallCounter (s : State) (k : Nat) : State :=
  let c := s.counter k
  (s.setCounter k { c with work := if c.flushed then c.committed else sat 40 (c.committed + 64) }).showCounter k

/-- Step 4 of R401: the recall of the data NVM (R350), with the RESET record that follows what was lost at the reset (R363, R440), and the
counter of watchdog resets (R388). -/
def State.recallNvm (s : State) : State :=
  let c := s.f R.RST_CAUSE F.RST_CAUSE_CAUSE
  let s := { s with nvm := { s.nvm with reerase := [] } }
  let s := (s.nvm.groups.map (·.1)).foldl State.readGroup s
  let s := s.each (List.range 32) (fun k s => s.recallCounter k)
  let s := paramIds.foldl (fun s id => match recPlace s.recSet id with | some p => s.recallRecord id p | none => s) s
  let s := s.each [0, 1, 2, 3] (fun i s => s.recallRecord (healthId i) (healthPlace i))
  let s := match s.bbSlots.reverse.find? s.bbGood with
    | some k => s.wrN R.BB_NEXT_SEQ (s.bbSeq k + 1)
    | none => s
  let s := if s.bb.next % 2 = 0 && s.bbWritten s.bb.next then
      s.bbClear (s.bb.next / 2) (fun s => s.erasePage (1024 + s.bb.next / 2)) else s
  let s := s.showOldest
  let s := { s with
    bb := { s.bb with lost := s.bb.lost + s.sys.bbCarry, boot := s.bb.boot + 1 }
    sys := { s.sys with bbCarry := 0 } }
  let s := (s.wrN R.BB_KEY_SEQ s.fw.keySeq).showReerase
  let s := (s.setF R.NVM_STATUS F.NVM_STATUS_RECALLING 0).setF R.NVM_STATUS F.NVM_STATUS_PSET s.fw.pset
  let s := s.bbQueue 0x0A c []
  if c = rcWatchdog then s.incCounter 3 else s

/-- The envelope and the fabric record are loaded, and the fabric is committed (R27, R330, R401). -/
def State.loadFabric (s : State) : State :=
  let s := s.showFw.loadEnv
  match recPlace s.recSet 0x100 with
  | none => s
  | some p =>
    match s.readRecord p 0x100 with
    | some (data, _, t) => ((t.loadRegs data fabricRegs 0).commitFabric).finishFabric
    | none => s

/-- The profile of a slot is loaded and committed (R292); the check is whole within the step. A profile that fails its check leaves the one in
force as it is, with the rule it broke in ERR (R292); where none is in force, R177 applies (log 58). -/
def State.loadProfile (s : State) (i slot : Nat) : Option State :=
  match recPlace s.recSet (0x200 + 4 * i + slot) with
  | none => none
  | some p =>
    match s.readRecord p (0x200 + 4 * i + slot) with
    | none => none
    | some (data, _, t) =>
      let t := t.each (List.range 100) (fun k t => t.wrN (R.PACK_PROF i k) (leAt data (4 * k) 4))
      let b := t.profWindow i
      let t := t.commitProfile i b
      if t.f (R.PACK_PROFILE i) F.PACK_PROFILE_STATE ≠ 3 then some t
      else
        match t.profCheck i b with
        | some (e, k) =>
          if s.profValid i then some ((t.setProfState i 1 e k).setPack i { t.pack i with checking := [] })
          else some (t.finishProfile i b)
        | none => some (t.finishProfile i b)

/-- A latched charge fault stands again after a reset, with its instance LOCKED and without the actions (R187, R381). -/
def State.restoreLatch (s : State) (i : Nat) : State :=
  let w := s.fw.latches.getD i 0
  if w = 0 then s
  else
    let id := w % 256
    ((s.wrN (R.PACK_CHG_FAULT i) w).setHrw id i { st := .locked, cls := 3, cause := s.causePresent id i }).lockCharge i

/-- A port's configuration is written at start-up from its record, or as it stands without one (R226, R291); `cc`: the partner that the CC pins
show. -/
def State.startPort (s : State) (n mv : Nat) (cc : Option AttachObs) : State :=
  let s := s.setSupV (3 + n) mv
  let s := s.setPort n { s.port n with seen := match cc with | some o => if o.asSource then none else some o | none => none }
  let r := match recPlace s.recSet (0x300 + n) with
    | some p => s.readRecord p (0x300 + n)
    | none => none
  match r with
  | some (data, _, t) => if data.length < 4 then t.writePortCfg n (t.rd (R.PORT_CFG n)) true else t.loadPort n data
  | none => s.writePortCfg n (s.rd (R.PORT_CFG n)) true

/-- Step 8 of R401 for a pack without a link: its health record (R208, R214). -/
def State.startPack (s : State) (i mv : Nat) : State :=
  let s := s.showEFull i
  let s := s.setPack i { s.pack i with hourAt := s.us, healthE := match s.readHealth i with | some b => leAt b 4 6 | none => 0 }
  if ¬ s.declared (8 + i) ∨ s.linkMode i = 1 ∨ s.linkMode i = 2 then s
  else
    match s.readHealth i with
    | none => (s.unknownHealth i).setERem i 0
    | some b =>
      let rest := leAt b 10 2
      let near := decide (98 * rest ≤ 100 * mv ∧ 100 * mv ≤ 102 * rest)
      (s.recordHealth i b).setERem i (if near then (100 * leAt b 4 6 - 2 * s.eFull i) / 100 else 0)

/-- The clocks at step 3. -/
def State.startClocks (s : State) : State :=
  let c := R.CLK_STATUS
  let lost := s.sys.refLost
  let int := s.flag R.CLK_CFG F.CLK_CFG_AON_SRC
  let s := ((s.setF c F.CLK_STATUS_PLLA_LOCK 1).setF c F.CLK_STATUS_PLLB_LOCK 1).setF c F.CLK_STATUS_REF_OK (boolNat (!lost))
  let s := (s.setF c F.CLK_STATUS_REF_FALLBACK (boolNat lost)).setF R.GLB_STATUS F.GLB_STATUS_REF_FALLBACK (boolNat lost)
  let s := (s.setF c F.CLK_STATUS_AON_OK (boolNat (!int))).setF c F.CLK_STATUS_AON_INTERNAL (boolNat int)
  let s := s.setF R.GLB_STATUS F.GLB_STATUS_AON_INTERNAL (boolNat int)
  if lost then s.raise 0x02 0 [] else s

/-- Steps 4 to 8 of R401 once the images have verified. -/
def State.startBoard (s : State) (o : StartObs) : State :=
  let s := s.recallNvm
  let s := if s.fw.state = 4 ∧ s.fw.newFormat ∧ s.fw.boots = 1 then s.copySet else s
  let s := s.loadFabric
  let img := (s.runBank.comp 2).image
  let s := s.loadLoopTable (if img.isEmpty then o.loopTable else img)
  let s := s.each [0, 1, 2, 3] (fun i s => (s.setPack i { s.pack i with vPack := o.vPack.getD i 0 }))
  let s := s.each [0, 1, 2, 3] (fun i s => ((s.loadProfile i (s.fw.profSel.getD i 0)).getD s).restoreLatch i)
  let s := s.each [0, 1, 2] (fun n s => s.startPort n (o.vPort.getD n 0) (o.cc.getD n none))
  let s := s.each [0, 1, 2] (fun n s => s.setSupV n (o.vInput.getD n 0))
  let s := (s.loadRecord 0x400 inputRegs).loadHost
  let s := s.each s.supOrder (fun x s => s.startQualify x)
  let s := s.each (List.range 8) (fun n s => s.identStage n o.flt ((hbList (s.stHb n)).map (fun k => o.imon.getD k 0)))
  let s := s.each [0, 1, 2, 3] (fun i s => s.startPack i (o.vPack.getD i 0))
  let s := s.each (List.range 6) (fun k s => s.wrN (R.RST_MILE k) (o.milestones.getD k 0))
  let s := (s.setF R.GLB_STATUS F.GLB_STATUS_STEP 6).setF R.DBG_STATUS F.DBG_STATUS_OPEN (boolNat (s.fw.life == 4))
  { s with sys := { s.sys with starting := false, field := true } }

/-- No bank boots (R330): no Field firmware, the fabric committed for its egress configuration, a Safe-state. -/
def State.bootFail (s : State) : State :=
  let s := ((s.recallNvm).loadFabric).raise 0xBB 0 []
  { s with sys := { s.sys with starting := false, bootBad := true } }

/-- Steps 3 to 8 of the start-up sequence, with the boot decision of the ROM (R330). -/
def State.startUp (s : State) (o : StartObs) : State :=
  let s := s.startClocks
  let s := if s.fw.life = 3 then s.finishDebug else s
  let okRun := if s.fw.running1 then o.bank1Ok else o.bank0Ok
  let okOther := if s.fw.running1 then o.bank0Ok else o.bank1Ok
  if okRun then s.startBoard o
  else if s.runBank.st = .active ∧ s.otherBank.st = .previous ∧ okOther then
    let s := { s with fw := { s.fw with running1 := !s.fw.running1 } }
    ((s.setF R.SEC_STATUS F.SEC_STATUS_RECOVERY 1).raise 0xBA 0 []).startBoard o
  else s.bootFail

/-- VAON rises above 4.4 V, or a reset ends: the sequence runs to step 8. Where no reset is pending, VAON has collapsed before, which is a
power-on reset; SHIP ends only by its own wake sources (R218). -/
def execColdStart (o : StartObs) (s : State) : Host.Outcome State Fault Refusal :=
  match s.sys.power with
  | .ship => .next s
  | .on => .next ((if s.sys.starting then s else s.afterReset rcPowerOn 0).startUp o).settle
  | .fallow => .next ((s.afterReset rcPowerOn 0).startUp o).settle
  | .hold => .next ((s.afterReset rcPowerOn 0).startUp o).settle

/-- No source can serve a rail yet (R402): its inputs and ports are not ONLINE, its packs are flat, and a rail that feeds it waits in
the same way (log 34). The walk over feeding rails is at most as long as there are rails. -/
def State.railWaits (s : State) : Nat → Nat → Bool
  | 0, _ => true
  | k + 1, r => (s.stagesInto r).all (fun n =>
      let src := if s.stTo n == r then s.stFrom n else s.stTo n
      match supOfNode src with
      | some x => s.supState x != supOnline
      | none => if isPack src then s.eAvail (src - 8) == 0
          else !s.flag (R.RAIL_STATUS src) F.RAIL_STATUS_PGOOD && s.railWaits k src)

/-- The condition of R402 for an AUTO_ON rail. -/
def State.railSettled (s : State) (r : Nat) : Bool :=
  s.flag (R.RAIL_STATUS r) F.RAIL_STATUS_PGOOD
    || (s.stagesInto r).any (fun n => s.stageState n == stTripped || s.stageState n == stLocked)
    || s.railWaits 8 r

def execRunReady (s : State) : Host.Outcome State Fault Refusal :=
  s.act fun s =>
    if ¬ s.sys.starting ∧ s.sys.field ∧ ¬ s.runReady
        ∧ (List.range 8).all (fun r => !(s.declared r && s.flag (R.RAIL_CFG r) F.RAIL_CFG_AUTO_ON) || s.railSettled r) then
      let s := (s.setF R.GLB_STATUS F.GLB_STATUS_RUN_READY 1).setF R.GLB_STATUS F.GLB_STATUS_STEP 7
      let s := s.wrN (R.RST_MILE 6) (s.us - s.sys.startUs)
      { s with fw := { s.fw with trialUs := s.us } }
    else s

/-! Resets (R397, R398). -/

/-- A write of RST_CTRL.SYS_RESET, Headland's (R11, R398). -/
def execSysReset (p : Path) (s : State) : Host.Outcome State Fault Refusal :=
  s.act fun s => if p = .headland then s.afterReset rcSoftware 0 else s.hwDenied p R.RST_CTRL 1#32

/-- VAON is back for 10 ms with the bias rails still in regulation (R392). -/
def execBrownout (s : State) : Host.Outcome State Fault Refusal :=
  match s.sys.power with
  | .hold => .next (s.afterReset rcBrownout 0).settle
  | .on => .next s
  | .fallow => .next s
  | .ship => .next s

/-! Power states (R393–R396). -/

/-- A write of PWR_CTRL.REQ (R394): accepted or refused; an accepted request leaves REFUSE at zero. -/
def State.requestRest (s : State) (fallow : Bool) : State :=
  if ¬ s.inRun then s
  else
    let c := s.restCause fallow
    let s := s.setF R.PWR_STATUS F.PWR_STATUS_REFUSE c
    if c ≠ 0 then s else if fallow then s.enterFallow else s.enterIdle

def execPwrReqIdle (_ : Path) (s : State) : Host.Outcome State Fault Refusal :=
  s.act fun s => s.requestRest false

def execPwrReqFallow (_ : Path) (s : State) : Host.Outcome State Fault Refusal :=
  s.act fun s => s.requestRest true

/-- WAKE_SRC holds the first wake source until it is read (R396). -/
def State.noteWake (s : State) (v : Nat) : State :=
  if s.f R.PWR_STATUS F.PWR_STATUS_WAKE_SRC = 0 then s.hwSet R.PWR_STATUS F.PWR_STATUS_WAKE_SRC v else s

/-- The bit of PWR_WAKE_EN of an IDLE wake source, and its WAKE_SRC code (R395); host accesses are always enabled. -/
def idleBit : IdleSrc → Option Nat
  | .hostAccess => none
  | .canOrder => some 4
  | .pb => some 0
  | .input => some 1
  | .port => some 2
  | .fault => some 5
  | .gpt => some 6
  | .cmp => some 7

def idleCode : IdleSrc → Nat
  | .hostAccess => 6
  | .pb => 1
  | .input => 2
  | .port => 3
  | .canOrder => 7
  | .fault => 7
  | .gpt => 7
  | .cmp => 7

/-- A wake source of IDLE has acted (R395): a CAN order waits; PB_MAIN has been low for 50 ms ± 5 %, of which its debounce took 20 ms
(R423); a host access is what the event itself tells. -/
def State.idleActed (s : State) (src : IdleSrc) : Bool :=
  match src with
  | .hostAccess => true
  | .pb => match s.sys.pbAt with
    | some t => decide (t + 5500000 ≤ s.cyc)
    | none => false
  | .canOrder => s.sys.wakes.contains .canOrder || !(s.srcRt 32).waiting.isEmpty || !(s.srcRt 33).waiting.isEmpty
  | .input => s.sys.wakes.contains .input
  | .port => s.sys.wakes.contains .port
  | .fault => s.sys.wakes.contains .fault
  | .gpt => s.sys.wakes.contains .gpt
  | .cmp => s.sys.wakes.contains .cmp

/-- A wake from IDLE (R393, R395): RUN, the Field cores run, the watchdog resumes with a full window and cleared check-ins (R389). -/
def execIdleWake (src : IdleSrc) (s : State) : Host.Outcome State Fault Refusal :=
  s.act fun s =>
    let on : Bool := match idleBit src with
      | some b => getBits (s.rd R.PWR_WAKE_EN) b 1 == 1
      | none => true
    if s.f R.GLB_STATUS F.GLB_STATUS_PSTATE ≠ 2 ∨ on = false ∨ s.idleActed src = false then s
    else
      let s := (s.noteWake (idleCode src)).setF R.GLB_STATUS F.GLB_STATUS_PSTATE 3
      let s := { s with sys := { s.sys with field := true, wdtAt := s.cyc, wakes := [] } }
      (s.setF R.WDT_STATUS F.WDT_STATUS_SEEN 0).powerEvent 3

/-- Whether a FALLOW wake source is enabled, and the timer's time has come (R396). -/
def State.fallowOn (s : State) (src : WakeSrc) (aon : Nat) : Bool :=
  match src with
  | .pb => s.flag R.PWR_WAKE_EN F.PWR_WAKE_EN_PB
  | .input => s.flag R.PWR_WAKE_EN F.PWR_WAKE_EN_INPUT
  | .port => s.flag R.PWR_WAKE_EN F.PWR_WAKE_EN_PORT
  | .timer => s.flag R.PWR_WAKE_EN F.PWR_WAKE_EN_TIMER && s.rdN R.PWR_FALLOW_TIMER != 0
      && decide (s.rdN R.PWR_FALLOW_TIMER * 32768 ≤ aon)
  | .nrst => true

def wakeCode : WakeSrc → Nat
  | .pb => 1
  | .input => 2
  | .port => 3
  | .timer => 4
  | .nrst => 5

/-- A wake from FALLOW (R396, R399): the block is reset with cause FALLOW_WAKE and its start-up is still to run; COORD_5 has advanced by the
elapsed CLK_AON periods (R52). -/
def execFallowWake (src : WakeSrc) (aonPeriods : Nat) (s : State) : Host.Outcome State Fault Refusal :=
  match s.sys.power with
  | .fallow =>
    if s.fallowOn src aonPeriods then
      let old := s.f R.PWR_STATUS F.PWR_STATUS_WAKE_SRC
      let t := (if src = .pb then s.pbPressed else s).afterReset rcFallow aonPeriods
      .next (t.noteWake (if old = 0 then wakeCode src else old)).settle
    else .next s
  | .on => .next s
  | .ship => .next s
  | .hold => .next s

/-! SHIP and the long press (R216–R219). -/

/-- A write of SHIP_CTRL.ENTER, Headland's (R11, R216). -/
def execShipEnter (p : Path) (s : State) : Host.Outcome State Fault Refusal :=
  s.act fun s => if p = .headland then (s.requestShip).1 else s.hwDenied p R.SHIP_CTRL 1#32

/-- A wake source of R218 ends SHIP: the block cold-starts with cause SHIP_WAKE. -/
def execShipWake (src : WakeSrc) (s : State) : Host.Outcome State Fault Refusal :=
  match s.sys.power with
  | .ship =>
    if src = .timer ∨ src = .nrst then .next s
    else
      let old := s.f R.SHIP_STATUS F.SHIP_STATUS_WAKE_SRC
      .next (((if src = .pb then s.pbPressed else s).afterReset rcShip 0).hwSet R.SHIP_STATUS F.SHIP_STATUS_WAKE_SRC (if old = 0 then wakeCode src else old)).settle
  | .on => .next s
  | .fallow => .next s
  | .hold => .next s

/-- The interval of 400–440 ms ends (R219): the switches wait for dispatch or for the egress configuration. -/
def execLongPressEnd (s : State) : Host.Outcome State Fault Refusal :=
  s.act fun s =>
    if s.sys.longPress ∧ s.sys.longAt + 80000000 ≤ s.cyc then
      let s := { s with sys := { s.sys with longPress := false } }
      s.each [0, 1, 2, 3] (fun i s =>
        match s.seriesOf (8 + i) with
        | some w => if s.heldPack i then s else s.setPsw w { s.psw w with forced := (s.psw w).hold }
        | none => s)
    else s

/-! Clocks and supplies (R371, R407, R408). -/

/-- CLK_REF is absent (R407). -/
def execClkRefFail (s : State) : Host.Outcome State Fault Refusal :=
  s.act fun s =>
    if s.sys.refLost then s
    else
      let s := { s with sys := { s.sys with refLost := true, refAt := s.cyc } }
      let s := (s.setF R.CLK_STATUS F.CLK_STATUS_REF_OK 0).setF R.CLK_STATUS F.CLK_STATUS_REF_FALLBACK 1
      (s.setF R.GLB_STATUS F.GLB_STATUS_REF_FALLBACK 1).raise 0x02 0 []

/-- CLK_REF has been present for 10 ms and a master period starts (R407). -/
def execClkRefReturn (s : State) : Host.Outcome State Fault Refusal :=
  s.act fun s =>
    if !s.sys.refLost ∨ s.cyc < s.sys.refAt + 2000000 then s
    else
      let s := { s with sys := { s.sys with refLost := false } }
      let s := (s.setF R.CLK_STATUS F.CLK_STATUS_REF_OK 1).setF R.CLK_STATUS F.CLK_STATUS_REF_FALLBACK 0
      (s.setF R.GLB_STATUS F.GLB_STATUS_REF_FALLBACK 0).causeGone 0x02 0

/-- The CLK_AON crystal is absent; nothing changes where the internal oscillator is in use already (R408). -/
def execClkAonFail (s : State) : Host.Outcome State Fault Refusal :=
  s.act fun s =>
    if s.flag R.CLK_STATUS F.CLK_STATUS_AON_INTERNAL then s
    else
      let s := (s.setF R.CLK_STATUS F.CLK_STATUS_AON_OK 0).setF R.CLK_STATUS F.CLK_STATUS_AON_INTERNAL 1
      (s.setF R.GLB_STATUS F.GLB_STATUS_AON_INTERNAL 1).raise 0x03 0 []

/-- A PLL loses lock: domain 3 for PLL A, 6 for PLL B (R405). -/
def execPllUnlock (pllB : Bool) (s : State) : Host.Outcome State Fault Refusal :=
  s.act fun s =>
    if pllB then (s.setF R.CLK_STATUS F.CLK_STATUS_PLLB_LOCK 0).raise 0x04 6 []
    else (s.setF R.CLK_STATUS F.CLK_STATUS_PLLA_LOCK 0).raise 0x04 3 []

/-- A bias rail leaves its regulation window; the window's edge, which the record holds, is open (R371, R376; log 1). -/
def execBiasFault (core : Bool) (mv : Nat) (s : State) : Host.Outcome State Fault Refusal :=
  s.act fun s =>
    let v := s.takeFree 32
    v.2.raise 0x08 (boolNat core) (faultRec mv v.1)

/-- The die temperature, 0.1 °C: 0x0A at 115.0 °C and 0x0B at 135.0 °C, each once while it stays there; below, the cause is gone. -/
def execDieTemp (t : Int) (s : State) : Host.Outcome State Fault Refusal :=
  s.act fun s =>
    let lv := if 1350 ≤ t then 2 else if 1150 ≤ t then 1 else 0
    let old := s.sys.dieHot
    let s := { s with sys := { s.sys with dieHot := lv } }
    let w := ofSigned 32 t
    let s := if old < 1 ∧ 1 ≤ lv then s.raise 0x0A 0 (faultRec w 1150) else s
    let s := if old < 2 ∧ 2 ≤ lv then s.raise 0x0B 0 (faultRec w 1350) else s
    let s := if 2 ≤ old ∧ lv < 2 then s.causeGone 0x0B 0 else s
    if 1 ≤ old ∧ lv < 1 then s.causeGone 0x0A 0 else s

/-- An SRAM read finds a check-bit error (R371, R384); an inversion armed for that word has been stored. -/
def execMemEccError (mem : Fin 6) (twoBits : Bool) (off : Nat) (s : State) : Host.Outcome State Fault Refusal :=
  s.act fun s =>
    if mem.val = 5 then s
    else
      let s := if s.flag R.HRW_INJECT F.HRW_INJECT_ARMED && s.sys.injMem == mem.val && s.sys.injAddr / 4 == off / 4 then
          (s.setF R.HRW_INJECT F.HRW_INJECT_ARMED 0).hwSet R.HRW_INJECT F.HRW_INJECT_FIRED 1
        else s
      if twoBits then s.raise 0x11 mem (leBytes 4 off) else s.raise 0x10 mem []

end Sys2Proof.Machine
end

