-- ==== Sys2Proof/Machine/Store.lean ====
section
/-! DEFINITION. The commands of the store: black-box appends, background erasure, spread counters (spec/12 R349, R359, R361). -/

namespace Sys2Proof.Machine

/-- Whether the NVM recall of start-up has ended (R350). -/
def State.recalled (s : State) : Bool := !s.flag R.NVM_STATUS F.NVM_STATUS_RECALLING

def execBbAppend (s : State) : Host.Outcome State Fault Refusal :=
  s.act fun s => if s.recalled then s.bbAppendOne else s

/-- A page holds part of the current copy of a record. -/
def State.liveRecord (s : State) (p : Nat) : Bool :=
  let uses := fun (id : Nat) (q : RecPlace) =>
    match s.currentCopy q id with
    | some b => decide (q.copy b / 128 ≤ p ∧ p < q.copy b / 128 + q.pages)
    | none => false
  let sets := if s.fw.newFormat then [0, 1] else [s.fw.pset]
  paramIds.any (fun id => sets.any (fun set => match recPlace set id with | some q => uses id q | none => false))
    || [0, 1, 2, 3].any (fun i => uses (healthId i) (healthPlace i))

/-- A page holds the last committed value of its counter. -/
def State.liveCounter (s : State) (p : Nat) : Bool :=
  let c := s.counter ((p - 128) / 8)
  c.commits != 0 && 128 + (p - 128) / 8 * 8 + (c.pos + 127) % 128 / 16 == p

/-- A page holds a black-box record. -/
def State.liveBb (s : State) (p : Nat) : Bool :=
  [2 * (p - 1024), 2 * (p - 1024) + 1].any (fun k => decide ((s.bb.next + 2047 - k) % 2048 < s.bb.held))

/-- A queued page that R349 erases in the background: of the counters, the records or the black box, without live data. -/
def State.deadPage (s : State) (p : Nat) : Bool :=
  s.nvm.reerase.contains p &&
    (if p < 128 then false
     else if p < 384 then !s.liveCounter p
     else if p < 704 then !s.liveRecord p
     else if p < 1024 then false
     else !s.liveBb p)

def execNvmReerase (page : Fin 2048) (s : State) : Host.Outcome State Fault Refusal :=
  s.act fun s => if s.deadPage page then s.erasePage page else s

def execNvmCntFlush (_ : Path) (s : State) : Host.Outcome State Fault Refusal :=
  s.act fun s => if s.recalled then s.flushCounters else s

/-- Counters 0–15 belong to the device, and their INC is ignored (R359). -/
def execInc (_ : Path) (k : Fin 32) (s : State) : Host.Outcome State Fault Refusal :=
  s.act fun s => if 16 ≤ k.val then s.incCounter k else s

end Sys2Proof.Machine
end

