-- ==== Sys2Proof/Machine/Control.lean ====
section
/-! DEFINITION. The commands of CONTROL and BLOB pairs (spec/09_host_rings.md R286–R295): the entry and completion layout, buffers, and
one meaning per opcode; with R309 for a buffer whose access faults. -/

namespace Sys2Proof.Machine

/-! Entries (R286). -/

def typControl : Nat := 2
def typBlob : Nat := 5

def ctlOp (e : List Byte) : Nat := leAt e 0 1
def ctlWorthy (e : List Byte) : Bool := bitsOf (leAt e 0 4) 13 1 == 1

/-- The reserved bits of word 0, and every byte from 8 on outside the ranges in use (start, count), are zero. -/
def ctlClean (e : List Byte) (used : List (Nat × Nat)) : Bool :=
  bitsOf (leAt e 0 4) 8 5 == 0 && bitsOf (leAt e 0 4) 14 18 == 0
    && (List.range 56).all (fun k => used.any (fun r => decide (r.1 ≤ k + 8 ∧ k + 8 < r.1 + r.2)) || e.getD (k + 8) 0#8 == 0#8)

/-- The result of a command: STATUS (R289), WRAP, RESULT0, DETAIL, RESULT1. -/
structure CtlRes where
  status : Nat := 0
  wrap : Bool := false
  r0 : Nat := 0
  detail : Nat := 0
  r1 : Nat := 0
  deriving DecidableEq, Repr

def ctlCpl (e : List Byte) (r : CtlRes) (time : Nat) : List Byte :=
  leBytes 4 (r.status + 256 * ctlOp e + 65536 * boolNat r.wrap) ++ slice e 4 4 ++ leBytes 8 r.r0 ++ leBytes 6 time
    ++ leBytes 2 r.detail ++ leBytes 8 r.r1

def State.ctlDone (s : State) (p : Nat) (e : List Byte) (r : CtlRes) : State :=
  s.complete p (ctlCpl e r s.now48) (ctlWorthy e)

/-- A pair of a type takes an entry: enabled, and the entry is its oldest (R288). -/
def State.ctlReady (s : State) (p typ : Nat) (e : List Byte) : Bool :=
  s.pairType p == typ && (s.pairState p == ringActive || s.pairState p == ringStalled) && s.atFront p [e]

/-- An entry whose command touches the data NVM or the code flash (R288). -/
def touchesStore (typ : Nat) (e : List Byte) : Bool :=
  if typ = typControl then [1, 2, 3, 6, 7].contains (ctlOp e) else typ == typBlob && [1, 2, 3].contains (ctlOp e)

/-- The CAN port that an entry's pass-through command uses (R288). -/
def canPassed (typ : Nat) (e : List Byte) : Option Nat :=
  if typ = typBlob ∧ (ctlOp e = 5 ∨ ctlOp e = 6) then some (leAt e 8 1) else none

/-- The entries that wait at the command pairs, with the pair, the cycle of arrival and whether they stand at the front. -/
def State.ctlWaiting (s : State) : List (Nat × List Byte × Nat × Bool) :=
  (List.range 32).flatMap (fun q =>
    if s.pairState q = ringActive ∨ s.pairState q = ringStalled then
      ((s.srcRt q).waiting.zip (s.srcRt q).ats).mapIdx (fun k x => (q, x.1, x.2, k == 0))
    else [])

/-- When the command at a pair's front came there. -/
def State.frontAt (s : State) (p : Nat) : Nat := if (s.srcRt p).waiting.isEmpty then s.cyc else (s.pair p).headAt

/-- A command waits for its turn (R288): commands that touch the data NVM or the code flash run in the order of arrival across all
pairs, and the CAN pass-through of a port one at a time. -/
def State.ctlTurn (s : State) (p typ : Nat) (e : List Byte) : Bool :=
  let mine := (s.srcRt p).ats.headD s.cyc
  s.ctlWaiting.all (fun x =>
    x.1 == p
      || (!(touchesStore typ e && touchesStore (s.pairType x.1) x.2.1 && decide (x.2.2.1 < mine))
        && !(x.2.2.2 && (canPassed typ e).isSome && canPassed (s.pairType x.1) x.2.1 == canPassed typ e
          && decide (s.frontAt x.1 < s.frontAt p ∨ (s.frontAt x.1 = s.frontAt p ∧ x.1 < p)))))

/-- A CAN pass-through command ends on its port. -/
def State.canPassDone (s : State) (typ : Nat) (e : List Byte) : State :=
  match canPassed typ e with
  | some n => if n < 2 then s.setCan n { s.can n with freeAt := s.cyc } else s
  | none => s

/-- The ring index of the oldest entry that a pair has fetched and not finished. -/
def State.frontIdx (s : State) (p : Nat) : Nat :=
  let n := s.sqSize p
  (s.sqHead p + n - s.fetched p % n) % n

/-- What a command finds: the pair, the ring index and the entry. -/
structure Ctl where
  pair : Nat
  idx : Nat
  e : List Byte
  deriving DecidableEq, Repr

def Ctl.arg (c : Ctl) (o n : Nat) : Nat := leAt c.e o n

/-- A command runs: an entry with a fault of form completes MALFORMED; a command that touches the data NVM finds it BUSY during its
recall; else `g` gives the state and the result, or none where what it was given is no outcome of this entry (log 7). -/
def State.ctlRun (s : State) (p typ op : Nat) (e : List Byte) (used : List (Nat × Nat)) (ok nvm : Bool)
    (g : Ctl → State → Option (State × CtlRes)) : State :=
  if !s.ctlReady p typ e || ctlOp e != op || !s.ctlTurn p typ e then s
  else
    let c : Ctl := ⟨p, s.frontIdx p, e⟩
    let t := s.takeEntry p e
    if !ctlClean e used || !ok then t.ctlDone p e { status := 0x15 }
    else if nvm && !s.recalled then t.ctlDone p e { status := 0x51, detail := 0x0001 }
    else
      match g c t with
      | none => s
      | some r => (r.1.canPassDone typ e).ctlDone p e r.2

/-! Buffers (R287, R309). -/

/-- A buffer lies wholly within its space: the local window (bit 63 set) or the device address space. -/
def bufOk (v len : Nat) : Bool :=
  if v / 2 ^ 63 = 1 then decide (v % 2 ^ 63 < 2 ^ 19 ∧ v % 2 ^ 63 + len ≤ 0x80000) else decide (v + len ≤ 2 ^ 34)

/-- The function may reach the buffer: some of it may lie with the host, which needs Bus Master Enable (R261). -/
def State.bufReach (s : State) (v len : Nat) (write : Bool) : Bool :=
  v / 2 ^ 63 == 1 || s.dmaAllowed || [v, v + (len - 1)].all (fun a =>
    match s.translate a write with
    | .host _ => false
    | .win _ => true
    | .bad _ => true)

/-- The outcome of reading a buffer: its bytes and those of the host's data that are left; a fault of translation (address, kind, bytes
before it); the end of the host's data (address, bytes before it). -/
inductive SrcRead where
  | ok (bytes left : List Byte)
  | bad (addr kind done : Nat)
  | short (addr done : Nat)
  deriving DecidableEq, Repr

/-- Read `len` bytes at a device address, block by block; `host` is what the host's memory returns, in order. -/
def State.srcWalk (s : State) (d len : Nat) (host acc : List Byte) : Nat → SrcRead
  | 0 => .ok acc host
  | fuel + 1 =>
    if len = 0 then .ok acc host
    else
      let n := min len (2 ^ 22 - d % 2 ^ 22)
      match s.translate d false with
      | .bad k => .bad d k acc.length
      | .win o =>
        let m := min n (0x80000 - o)
        let acc := acc ++ s.winRead o m
        if m < n then .bad (d + m) 4 acc.length else s.srcWalk (d + n) (len - n) host acc fuel
      | .host _ =>
        if host.length < n then .short (d + host.length) (acc.length + host.length)
        else s.srcWalk (d + n) (len - n) (host.drop n) (acc ++ host.take n) fuel

def dmaBytes : DmaRead → List Byte
  | .ok b => b
  | .fail _ b => b

/-- The whole SRC buffer is read before any effect: its bytes; or the completion of R309; or none, where the outcome given is none of
this read. -/
def State.bufRead (s : State) (c : Ctl) (v len : Nat) (r : DmaRead) (g : List Byte → State → Option (State × CtlRes)) :
    Option (State × CtlRes) :=
  let fault := fun (a k done : Nat) => some (s.dmaLog 4 c.pair c.idx a done k, ({ status := 0x53 } : CtlRes))
  if v / 2 ^ 63 = 1 then g (s.winRead (v % 2 ^ 63) len) s
  else if !s.bufReach v len false then none
  else
    match s.srcWalk v len (dmaBytes r) [] 3, r with
    | .ok b [], .ok _ => g b s
    | .bad a k n, _ => fault a k n
    | .short a n, .fail k _ => if 5 ≤ k.val then fault a k n else none
    | _, _ => none

/-- The DST buffer is written in ascending order; a fault gives the completion of R309. -/
def State.bufWrite (s : State) (c : Ctl) (v : Nat) (bytes : List Byte) (res : CtlRes) : Option (State × CtlRes) :=
  if v / 2 ^ 63 = 1 then some (s.winWrite (v % 2 ^ 63) bytes, res)
  else if !s.bufReach v bytes.length true then none
  else
    match s.dmaWrite v bytes 0 3 with
    | (t, _, none) => some (t, res)
    | (t, n, some (a, k)) => some (t.dmaLog 5 c.pair c.idx a n k, { status := 0x53, r0 := n })

/-! Records (R291). -/

/-- A known RECORD_ID and a length that its record has room for. -/
def State.recordOk (s : State) (id len : Nat) : Bool :=
  decide (1 ≤ len ∧ len ≤ 4096) && (id == 0x0F00 || (match recPlace s.recSet id with | some q => decide (len ≤ q.most) | none => false))

/-- A record that Headland stores: its sequence number and the copy written; or the failed comparison (R354). -/
def State.storeRecord (s : State) (id : Nat) (data : List Byte) (bad : Option Nat) : State × CtlRes :=
  match recPlace s.recSet id with
  | none => (s, { status := 0x15 })
  | some q =>
    let r := s.writeRecord q id data bad
    (r.1, if r.2.2.2 then { r0 := r.2.1, detail := boolNat r.2.2.1 } else { status := 0x50, detail := 0x0010 })

/-- A fabric record is loaded and committed, and stored only if it is VALID; the check is whole within the step. -/
def State.writeFabric (s : State) (data : List Byte) (bad : Option Nat) : State × CtlRes :=
  let s := ((s.loadRegs data fabricRegs 0).commitFabric).finishFabric
  if s.fabState = 2 then s.storeRecord 0x100 data bad
  else (s, { status := 0x50, detail := s.f R.FAB_STATUS F.FAB_STATUS_ERR })

/-- The effect of RECORD_WRITE once the buffer has been read. The envelope is kept in the secure partition, whose sequence number and
copy the spec does not number for the host (log 1). -/
def State.writeNamed (s : State) (id : Nat) (data : List Byte) (bad : Option Nat) : State × CtlRes :=
  if id = 0x0F00 ∧ bad.isSome ∧ s.envAccepts data then (s.raise 0xA3 0 (leBytes 4 id), { status := 0x50, detail := 0x0010 })
  else if id = 0x0F00 then
    let r := s.commitEnv data
    if r.2 then
      let a := r.1.takeFree 32
      let b := a.2.takeFree 1
      (b.2, { r0 := a.1, detail := b.1 })
    else (r.1, { status := 0x52 })
  else if id = 0x0100 then s.writeFabric data bad
  else
    let r := s.storeRecord id data bad
    if r.2.status ≠ 0 then r
    else if 0x300 ≤ id ∧ id < 0x303 then (r.1.setPort (id - 0x300) { r.1.port (id - 0x300) with recNext := data }, r.2)
    else if id = 0x0400 then ({ r.1 with sys := { r.1.sys with inputNext := data } }, r.2)
    else r

def execRecordWrite (pair : Fin 32) (entry : List Byte) (buf : DmaRead) (bad : Option (Fin 8)) (s : State) : Host.Outcome State Fault Refusal :=
  s.act fun s =>
    let id := leAt entry 8 2
    let len := leAt entry 10 2
    let v := leAt entry 16 8
    s.ctlRun pair typControl 1 entry [(8, 4), (16, 8)] (s.recordOk id len && bufOk v len) true fun c s =>
      if id = 0x0100 ∧ (¬ s.plan.isEmpty ∨ s.anyRuns) then some (s, { status := 0x51, detail := 0x000E })
      else s.bufRead c v len buf fun data s => some (s.writeNamed id data (bad.map (·.val)))

/-- The current copy of a record as the host reads it: its data, the copy, and the reports of the read. -/
def State.readNamed (s : State) (id : Nat) : Option (List Byte × Nat × State) :=
  if id = 0x0F00 then
    if s.fw.envelope.isEmpty then none
    else
      let v := s.takeFree 1
      some (s.fw.envelope, v.1, v.2)
  else
    match recPlace s.recSet id with
    | none => none
    | some q =>
      match s.readRecord q id with
      | some (data, b, t) => some (data, boolNat b, t)
      | none => none

def execRecordRead (pair : Fin 32) (entry : List Byte) (s : State) : Host.Outcome State Fault Refusal :=
  s.act fun s =>
    let id := leAt entry 8 2
    let len := leAt entry 10 2
    let v := leAt entry 16 8
    let known := id == 0x0F00 || (recPlace s.recSet id).isSome
    s.ctlRun pair typControl 2 entry [(8, 4), (16, 8)] (known && bufOk v len) true fun c s =>
      match s.readNamed id with
      | none => some (s, { status := 0x54 })
      | some (data, b, t) => t.bufWrite c v (data.take len) { r0 := min len data.length, detail := b }

/-! Profiles, faults and packs (R290, R292). -/

def execProfileSelect (pair : Fin 32) (entry : List Byte) (s : State) : Host.Outcome State Fault Refusal :=
  s.act fun s =>
    let i := leAt entry 8 1
    let slot := leAt entry 9 1
    s.ctlRun pair typControl 3 entry [(8, 2)] (decide (i < 4 ∧ slot < 4)) true fun _ s =>
      match s.loadProfile i slot with
      | none => some (s, { status := 0x54 })
      | some t =>
        let err := t.f (R.PACK_PROFILE i) F.PACK_PROFILE_ERR
        if err = 0 ∧ t.profValid i then some ({ t with fw := { t.fw with profSel := t.fw.profSel.set i slot } }, { detail := err })
        else some (t, { status := 0x50, detail := err })

def execFaultClear (pair : Fin 32) (entry : List Byte) (s : State) : Host.Outcome State Fault Refusal :=
  s.act fun s =>
    let id := leAt entry 8 1
    let inst := leAt entry 9 1
    s.ctlRun pair typControl 4 entry [(8, 2)] (decide (inst < 16)) false fun _ s =>
      let r := s.clearFault id inst
      some (r.1, { status := if r.2 = 0 then 0x00 else 0x50, detail := r.2 })

/-- A PACK_CMD of one command number. -/
def State.packCmd (s : State) (pair : Nat) (entry : List Byte) (cmd : Nat) (ok : Bool) (g : Nat → State → State × CtlRes) : State :=
  if leAt entry 9 1 ≠ cmd then s
  else s.ctlRun pair typControl 5 entry [(8, 2)] ok false fun c s => some (g (c.arg 8 1) s)

def execPackCmdShip (pair : Fin 32) (entry : List Byte) (s : State) : Host.Outcome State Fault Refusal :=
  s.act fun s => s.packCmd pair entry 1 (leAt entry 8 1 == 0) fun _ s =>
    let r := s.requestShip
    (r.1, { status := if r.2 = 0 then 0x00 else 0x50, detail := r.2 })

def execPackCmdTilthStart (pair : Fin 32) (entry : List Byte) (s : State) : Host.Outcome State Fault Refusal :=
  s.act fun s => s.packCmd pair entry 2 (decide (leAt entry 8 1 < 4)) fun i s => (s.startSweep i, {})

def execPackCmdTilthAbort (pair : Fin 32) (entry : List Byte) (s : State) : Host.Outcome State Fault Refusal :=
  s.act fun s => s.packCmd pair entry 3 (decide (leAt entry 8 1 < 4)) fun i s => (s.endSweep i 2 false, {})

def execPackCmdChargeClear (pair : Fin 32) (entry : List Byte) (s : State) : Host.Outcome State Fault Refusal :=
  s.act fun s => s.packCmd pair entry 4 (decide (leAt entry 8 1 < 4)) fun i s =>
    let r := s.clearLatch i
    (r.1, if r.2 = 0 then {} else { status := 0x50, detail := 1 })

/-! The black box (R367) and attestation (R328). -/

/-- What a BB_READ has gathered: bytes, records, failed seals, records that could not be checked, and the SEQ after the last one copied. -/
structure BbScan where
  bytes : List Byte := []
  count : Nat := 0
  failed : Nat := 0
  unknown : Nat := 0
  next : Nat := 0
  deriving DecidableEq, Repr

/-- Whether a record's seal holds: over its first 56 bytes and the seal before it; the first record under a key chains to zeros. -/
def State.sealOk (s : State) (all before : List Byte) (seq : Nat) : Bool :=
  let prev := if seq = s.rdN R.BB_KEY_SEQ then List.replicate 8 0#8 else before
  padTo 8 (Config.sealKey s.fw.sealGen (all.take 56 ++ prev)) == all.drop 56

/-- The slots from one on, until `want` records are copied; `before`: the seal of the record before, none for the oldest. A slot that is not
whole is skipped and counted. -/
def State.bbScan (s : State) (want : Nat) : List Nat → Option (List Byte) → BbScan → State × BbScan
  | [], _, a => (s, a)
  | slot :: t, before, a =>
    if a.count = want then (s, a)
    else
      let good := s.bbGood slot
      let r := s.nvmRead (bbAddr slot) 64
      if !good then (((r.2.2.bump R.BB_STATUS F.BB_STATUS_DAMAGED 1).raise 0xA5 0 [])).bbScan want t before a
      else
        let seq := leAt r.1 0 4
        let key := s.rdN R.BB_KEY_SEQ
        let skip := decide (seq < key) || (before.isNone && seq != key)
        r.2.2.bbScan want t (some (r.1.drop 56))
          { bytes := a.bytes ++ r.1
            count := a.count + 1
            failed := if skip || s.sealOk r.1 (before.getD []) seq then a.failed else a.failed + 1
            unknown := if skip then a.unknown + 1 else a.unknown
            next := (seq + 1) % 2 ^ 32 }

/-- The slots that a read from FIRST reaches, and the seal before them. -/
def State.bbFrom (s : State) (first : Nat) : List Nat → Option (List Byte) → List Nat × Option (List Byte)
  | [], b => ([], b)
  | slot :: t, b =>
    if first = 0xFFFFFFFF then (slot :: t, b)
    else if !s.bbGood slot then s.bbFrom first t b
    else if s.bbSeq slot < first then s.bbFrom first t (some (s.nvmPeek (bbAddr slot + 56) 8))
    else (slot :: t, b)

def State.bbReadAll (s : State) (c : Ctl) (first count v : Nat) : Option (State × CtlRes) :=
  let q := s.bbFrom first s.bbSlots none
  let r := s.bbScan count q.1 q.2 {}
  let a := r.2
  if a.count = 0 then some (r.1, { status := 0x54 })
  else r.1.bufWrite c v a.bytes { r0 := a.count, r1 := a.next + 2 ^ 32 * a.failed + 2 ^ 48 * a.unknown }

def execBbRead (pair : Fin 32) (entry : List Byte) (s : State) : Host.Outcome State Fault Refusal :=
  s.act fun s =>
    let count := leAt entry 12 2
    let v := leAt entry 16 8
    s.ctlRun pair typControl 6 entry [(8, 6), (16, 8)] (decide (1 ≤ count ∧ count ≤ 2048) && bufOk v (64 * count)) true fun c s =>
      s.bbReadAll c (leAt entry 8 4) count v

/-- SHA-256 of what is there; where nothing is, the digest is open (log 1). -/
def State.digestOf (s : State) (b : List Byte) : List Byte × State :=
  if b.isEmpty then
    let d := (List.range 32).foldl (fun (a : List Byte × State) _ =>
      let v := a.2.takeFree 8
      (a.1 ++ [BitVec.ofNat 8 v.1], v.2)) ([], s)
    d
  else (padTo 32 (Config.sha256 b), s)

/-- The attestation report (R328). -/
def State.attestReport (s : State) (nonce : List Byte) : List Byte × State :=
  let boot := boolNat s.activeIs1 + 2 * s.f R.SEC_STATUS F.SEC_STATUS_RECOVERY + 4 * boolNat (s.runBank.st == .trial)
  let env := s.digestOf s.fw.envelope
  let fabData := match s.readNamed 0x100 with | some (d, _, _) => d | none => []
  let fab := env.2.digestOf fabData
  let images := (List.range 4).flatMap (fun c => padTo 32 (s.runBank.comp c).hash)
  let raw := leBytes 4 0x54414E44 ++ leBytes 2 1 ++ [BitVec.ofNat 8 s.fw.life, BitVec.ofNat 8 boot]
    ++ leBytes 4 Config.devSerialLo.toNat ++ leBytes 4 Config.devSerialHi.toNat ++ nonce ++ leBytes 6 s.now48 ++ [0#8, 0#8]
    ++ (List.range 4).flatMap (fun c => leBytes 4 (s.runBank.comp c).version)
    ++ (List.range 4).flatMap (fun c => leBytes 4 (s.fw.floors.getD c 0))
    ++ padTo 32 (Config.sha256 images) ++ env.1 ++ fab.1 ++ leBytes 4 s.bb.boot ++ leBytes 4 (s.rdN R.BB_NEXT_SEQ)
  (raw ++ padTo 64 (Config.attestSign (Config.sha256 raw)), fab.2)

def execAttest (pair : Fin 32) (entry : List Byte) (s : State) : Host.Outcome State Fault Refusal :=
  s.act fun s =>
    let len := leAt entry 8 2
    let v := leAt entry 48 8
    s.ctlRun pair typControl 7 entry [(8, 2), (16, 40)] (decide (256 ≤ len) && bufOk v 256) true fun c s =>
      if s.fw.life = 4 then some (s, { status := 0x54 })
      else
        let r := s.attestReport (slice entry 16 32)
        r.2.bufWrite c v r.1 { r0 := 256 }

/-! BLOB commands (R293–R295). -/

def execFwChunk (pair : Fin 32) (entry : List Byte) (buf : DmaRead) (s : State) : Host.Outcome State Fault Refusal :=
  s.act fun s =>
    let len := leAt entry 12 4
    let v := leAt entry 16 8
    s.ctlRun pair typBlob 1 entry [(8, 16)] (decide (1 ≤ len ∧ len ≤ 65536) && bufOk v len) false fun c s =>
      s.bufRead c v len buf fun data s =>
        let r := s.storeChunk (leAt entry 8 4) data
        some (r.1, { status := r.2.1, detail := r.2.2 })

/-- The direct-access area (R357). -/
def directArea (a n : Nat) : Bool := decide (0x16000 ≤ a ∧ a + n ≤ 0x20000)

def execNvmRead (pair : Fin 32) (entry : List Byte) (s : State) : Host.Outcome State Fault Refusal :=
  s.act fun s =>
    let a := leAt entry 8 4
    let len := leAt entry 12 2
    let v := leAt entry 16 8
    s.ctlRun pair typBlob 2 entry [(8, 6), (16, 8)] (decide (a < 0x40000 ∧ 1 ≤ len ∧ len ≤ 4096) && bufOk v len) true fun c s =>
      if !directArea a len then some (s, { status := 0x50, detail := 0x0011 })
      else
        let r := s.nvmRead a len
        r.2.2.bufWrite c v r.1 { r0 := len, r1 := r.2.1 }

/-- The byte that an NVM_WRITE puts at an offset of its page: the data wrap to the page's start (R294). -/
def wrapByte (a : Nat) (data : List Byte) (o : Nat) : Option Byte := data[(o + 128 - a % 128) % 128]?

def execNvmWrite (pair : Fin 32) (entry : List Byte) (buf : DmaRead) (s : State) : Host.Outcome State Fault Refusal :=
  s.act fun s =>
    let a := leAt entry 8 4
    let len := leAt entry 12 2
    let v := leAt entry 16 8
    s.ctlRun pair typBlob 3 entry [(8, 6), (16, 8)] (decide (a < 0x40000 ∧ 1 ≤ len ∧ len ≤ 128) && bufOk v len) true fun c s =>
      if !directArea a 1 then some (s, { status := 0x50, detail := 0x0011 })
      else s.bufRead c v len buf fun data s =>
        some (s.pageWrite (a / 128) (wrapByte a data) true, { wrap := decide (128 < a % 128 + len), r0 := len })

/-- An SMB_XFER; a failed transaction is retried once (R197): a write is refused while the bus's pack link is in IDENT or UP; the refusal's
cause is open (log 1). -/
def State.smbRun (s : State) (c : Ctl) (resp : SmbResp) : Option (State × CtlRes) :=
  let i := c.arg 8 1
  let proto := c.arg 9 1
  let n := c.arg 11 1
  let busy := decide ((proto = 2 ∨ proto = 4) ∧ (s.linkState i = lkIdent ∨ s.linkState i = lkUp))
  if busy then
    let v := s.takeFree 16
    some (v.2, { status := 0x50, detail := v.1 })
  else
    let data := if proto = 2 then slice c.e 12 2 else if proto = 4 then slice c.e 12 n else []
    let t := s.emit (s.smbTx i (proto, c.arg 10 1, data))
    match resp with
    | .error => some (t.emit (s.smbTx i (proto, c.arg 10 1, data)), { status := 0x56 })
    | .ok b =>
      if proto = 1 then (if b.length = 2 then some (t, { r0 := leVal b }) else none)
      else if proto = 3 then
        (if 1 ≤ b.length ∧ b.length ≤ 32 then t.bufWrite c (c.arg 48 8) b { r0 := b.length } else none)
      else if b.isEmpty then some (t, {}) else none

def execSmbXfer (pair : Fin 32) (entry : List Byte) (resp : SmbResp) (s : State) : Host.Outcome State Fault Refusal :=
  s.act fun s =>
    let proto := leAt entry 9 1
    let n := leAt entry 11 1
    let used := if proto = 2 then [(8, 3), (12, 2)] else if proto = 3 then [(8, 4), (48, 8)]
      else if proto = 4 then [(8, 4), (12, n)] else [(8, 3)]
    let ok := decide (leAt entry 8 1 < 4 ∧ 1 ≤ proto ∧ proto ≤ 4) && (proto != 4 || decide (1 ≤ n ∧ n ≤ 32))
      && (proto != 3 || (decide (n ≤ 32) && bufOk (leAt entry 48 8) 32))
    s.ctlRun pair typBlob 4 entry used ok false fun c s => s.smbRun c resp

/-- A data length that a frame's format has. -/
def canLenOk (fd : Bool) (n : Nat) : Bool :=
  if fd then [0, 1, 2, 3, 4, 5, 6, 7, 8, 12, 16, 20, 24, 32, 48, 64].contains n else decide (n ≤ 8)

/-- CAN_SEND: refused while the port is bus-off, with a cause that is open (log 1); a frame that does not get through is a bus error. -/
def execCanSend (pair : Fin 32) (entry : List Byte) (buf : DmaRead) (sent : Bool) (s : State) : Host.Outcome State Fault Refusal :=
  s.act fun s =>
    let n := leAt entry 8 1
    let fl := leAt entry 9 1
    let ide := bitsOf fl 0 1 == 1
    let fd := bitsOf fl 1 1 == 1
    let brs := bitsOf fl 2 1 == 1
    let len := leAt entry 10 1
    let id := leAt entry 12 4
    let v := leAt entry 16 8
    let ok := decide (n < 2 ∧ fl < 8 ∧ id < (if ide then 2 ^ 29 else 2 ^ 11)) && canLenOk fd len && bufOk v len
    s.ctlRun pair typBlob 5 entry [(8, 3), (12, 12)] ok false fun c s =>
      if s.f (R.CAN_STATUS n) F.CAN_STATUS_STATE = 2 then
        let d := s.takeFree 16
        some (d.2, { status := 0x50, detail := d.1 })
      else s.bufRead c v len buf fun data s =>
        if sent && s.canLive n && (!fd || s.canFd n) then some (s.emit (.canTx n ⟨id, ide, fd, data⟩ brs), {})
        else some (s, { status := 0x56 })

/-- An identifier that an order, a completion or a pack link of the port claims (R295). -/
def State.canClaimed (s : State) (n : Nat) (f : CanFrame) : Bool :=
  let is := fun (r : Nat) (k : Nat) => f.ident == getBits (s.rd r) 0 29 + k && f.ide == (getBits (s.rd r) 29 1 == 1)
  (s.flag (R.DRILL_CAN_RXID n) F.DRILL_CAN_RXID_EN && (is (R.DRILL_CAN_RXID n) 0 || is (R.DRILL_CAN_TXID n) 0))
    || [0, 1, 2, 3].any (fun i => s.linkMode i == 2 && s.packCan i == n
        && (is (R.PACK_LINK_CANID i) 0 || is (R.PACK_LINK_CANID i) 1))

/-- The frame as RESULT0 and the identifier match see it: the identifier, IDE in bit 29. -/
def canIdWord (f : CanFrame) : Nat := f.ident + 2 ^ 29 * boolNat f.ide

/-- The form of a CAN_RECV. -/
def recvOk (e : List Byte) : Bool :=
  decide (leAt e 8 1 < 2 ∧ 1 ≤ leAt e 20 4 ∧ leAt e 20 4 ≤ 60000) && bufOk (leAt e 24 8) 64

/-- A frame arrives while a CAN_RECV waits: taken if it matches under the mask and is unclaimed. -/
def execCanRecv (pair : Fin 32) (entry : List Byte) (f : CanFrame) (s : State) : Host.Outcome State Fault Refusal :=
  s.act fun s =>
    let n := leAt entry 8 1
    s.ctlRun pair typBlob 6 entry [(8, 1), (12, 20)] (recvOk entry) false fun c s =>
      if s.canLive n && (!f.fd || s.canFd n) && !s.canClaimed n f && (canIdWord f ^^^ leAt entry 12 4) &&& leAt entry 16 4 == 0 then
        s.bufWrite c (leAt entry 24 8) f.data { r0 := canIdWord f + 2 ^ 32 * f.data.length }
      else none

/-- No frame has come within the timeout since the command began: it stood at its pair's front, and its port was free. -/
def execCanRecvTimeout (pair : Fin 32) (entry : List Byte) (s : State) : Host.Outcome State Fault Refusal :=
  s.act fun s =>
    let began := max (s.pair pair).headAt (s.can (leAt entry 8 1)).freeAt
    let late := (s.srcRt pair).waiting.isEmpty || decide (began + leAt entry 20 4 * 200000 ≤ s.cyc)
    s.ctlRun pair typBlob 6 entry [(8, 1), (12, 20)] (recvOk entry) false fun _ s =>
      if late then some (s, { status := 0x55 }) else none

/-! Entries without a command of their own. -/

/-- An opcode that a pair's type has (R239, R290, R293, R315). -/
def opKnown (typ : Nat) (e : List Byte) : Bool :=
  let op := ctlOp e
  if typ = typControl then decide (1 ≤ op ∧ op ≤ 7) && (op != 5 || decide (1 ≤ leAt e 9 1 ∧ leAt e 9 1 ≤ 4))
  else if typ = 3 then op == 1
  else if typ = 4 then decide (1 ≤ op ∧ op ≤ 3)
  else if typ = typBlob then decide (1 ≤ op ∧ op ≤ 6)
  else true

/-- An entry of an unknown opcode at the front of a pair has no command of its own: it completes at the tick, MALFORMED, or REFUSED on
a PD pair, whose codes have no other (R239, R289, R315). -/
def State.rejectEntry (s : State) (p : Nat) : State :=
  match (s.srcRt p).waiting with
  | [] => s
  | e :: _ =>
    let typ := s.pairType p
    if opKnown typ e then s
    else
      let t := s.takeEntry p e
      if typ = 4 then t.pdComplete p (parsePd e) 0x43
      else if typ = 3 then t.complete p (leBytes 4 (0x15 + 256 * bitsOf (leAt e 0 4) 8 3) ++ slice e 4 4) (ctlWorthy e)
      else t.ctlDone p e { status := 0x15 }

/-- The input record written since the last tick applies (R291). -/
def State.applyInputs (s : State) : State :=
  let b := s.sys.inputNext
  if b.isEmpty then s
  else
    let was := (List.range 3).map (fun n => s.flag (R.INPUT_CFG n) F.INPUT_CFG_EN)
    let s := ({ s with sys := { s.sys with inputNext := [] } }).loadRegs b inputRegs 0
    s.each (List.range 3) (fun n s =>
      let now := s.flag (R.INPUT_CFG n) F.INPUT_CFG_EN
      if was.getD n false && !now then s.disableInput n else if now && !was.getD n false then s.startQualify n else s)

end Sys2Proof.Machine
end

