-- ==== Sys2Proof/Machine/Gleaner.lean ====
section
/-! DEFINITION. Gleaner, the telemetry unit (spec/10_translation_faults_telemetry.md R312–R320), and the DMA faults that strike
outside the read or write of a modelled transfer (R304–R309). The 16 KiB FIFO of a stream (R318) holds nothing between steps: a record
that enters it is written in its step, and the event says where it is full (log 33). -/

namespace Sys2Proof.Machine

/-! Streams (R319). -/

def glnOff : Nat := 0
def glnRun : Nat := 1
def glnArmed : Nat := 2
def glnCapture : Nat := 3
def glnDone : Nat := 4

def State.setGlnState (s : State) (g st : Nat) : State := s.setF (R.GLN_STATUS g) F.GLN_STATUS_STATE st
def State.glnPair (s : State) (g : Nat) : Nat := s.f (R.GLN_CFG g) F.GLN_CFG_PAIR

/-- A stream's record, with its count of buffers and NOBUF shown. -/
def State.putGln (s : State) (g : Nat) (r : GlnRt) : State :=
  let s := (s.setGln g r).setF (R.GLN_STATUS g) F.GLN_STATUS_BUFS r.bufs.length
  s.setF (R.GLN_STATUS g) F.GLN_STATUS_NOBUF (boolNat r.bufs.isEmpty)

/-- The IDs of a list, up to the first 0xFF (R313). -/
def State.glnIds (s : State) (g : Nat) : List Nat :=
  ((leBytes 4 (s.rdN (R.GLN_SEL_LO g)) ++ leBytes 4 (s.rdN (R.GLN_SEL_HI g))).map (·.toNat)).takeWhile (· != 0xFF)

/-! Completions of buffers (R316, R317). -/

def glnFull : Nat := 0x00
def glnFlushed : Nat := 0x01
def glnStopped : Nat := 0x02
def glnFaultCode : Nat := 0x53

/-- The completion of a buffer with whole records: status, stream, tag, bytes, first number, times of the first and the last. -/
def glnCpl (status g tag bytes seq first last : Nat) : List Byte :=
  leBytes 4 (status + 256 * g) ++ leBytes 4 tag ++ leBytes 4 bytes ++ leBytes 4 seq ++ leBytes 6 first ++ [0#8, 0#8]
    ++ leBytes 6 last ++ [0#8, 0#8]

/-- A buffer completes; without a whole record, its number and its times are open (log 1). -/
def State.glnCplBuf (s : State) (g : Nat) (b : GlnBuf) (status : Nat) (r : GlnRt) (bytes : Nat) : State :=
  if bytes = 0 then
    let x := s.takeFree 32
    let y := x.2.takeFree 48
    let z := y.2.takeFree 48
    z.2.complete (z.2.glnPair g) (glnCpl status g b.tag 0 x.1 y.1 z.1) b.irq
  else s.complete (s.glnPair g) (glnCpl status g b.tag bytes r.firstSeq r.firstTime r.lastTime) b.irq

/-- The current buffer of a stream completes. A sound buffer ends a run of faulted ones; the fourth in a row puts the stream in
FAULTED (R317, R319). -/
def State.glnFinish (s : State) (g status : Nat) : State :=
  let r := s.gln g
  match r.bufs with
  | [] => s
  | b :: rest =>
    let s := s.glnCplBuf g b status r r.curLen
    let n := if status = glnFaultCode then r.faults + 1 else 0
    let s := s.putGln g { r with bufs := rest, curLen := 0, faults := n }
    if 4 ≤ n then (s.setGlnState g glnFaulted).raise 0x98 g [] else s

/-! Records (R313, R314). -/

/-- A record of its bytes: padded with zeros to a multiple of 16, which LEN counts. -/
def glnRecord (type g seq time flags : Nat) (rest : List Byte) : List Byte :=
  let n := ceilDiv (16 + rest.length) 16 * 16
  padTo n ([BitVec.ofNat 8 type, BitVec.ofNat 8 g] ++ leBytes 2 n ++ leBytes 4 seq ++ leBytes 6 time ++ [BitVec.ofNat 8 flags, 0#8]
    ++ rest)

/-- The PWM state of a stage: CMP, I_L, the controlled and the sending voltage, SEL, STATE. -/
def State.pwmBody (s : State) (n : Nat) : List Byte :=
  leBytes 4 (s.rdN (R.STAGE_DUTY n)) ++ leBytes 4 (s.rdN (R.STAGE_IL n)) ++ leBytes 2 (s.stage n).vCtl ++ leBytes 2 (s.stage n).vSend
    ++ [BitVec.ofNat 8 (s.f (R.STAGE_STATUS n) F.STAGE_STATUS_SEL), BitVec.ofNat 8 (s.stageState n)]

/-- The latest conversion that a running stage holds of a signal (R313), with its unit: the stage that converted it last. -/
def State.stageSignal (s : State) (id : Nat) : Option (Int × State) :=
  let ran := (List.range 8).filter (fun n => s.stageRuns n && (s.stage n).ctlAt != 0)
  if id < 0x18 then
    match ran.find? (fun n => bitsOf (s.stHb n) id 1 == 1 && !s.legB n id) with
    | none => none
    | some n =>
      match (s.stage n).imon[s.chanPhase n id]? with
      | none => none
      | some mv => some (s.quot (((mv : Int) - s.f (R.STAGE_IMON n) F.STAGE_IMON_IMON_OFFSET) * 100000)
          (s.f (R.STAGE_IMON n) F.STAGE_IMON_IMON_GAIN))
  else
    let node := if id < 0x20 then id - 0x18 else if id < 0x24 then 15 else if id < 0x28 then 8 + (id - 0x24)
      else if id < 0x2B then 16 + (id - 0x28) else 12 + (id - 0x2B)
    let at_ := ran.filter (fun n => s.stFrom n == node || s.stTo n == node)
    let best := at_.foldl (fun a n => max a (s.stage n).ctlAt) 0
    match at_.find? (fun n => (s.stage n).ctlAt == best) with
    | none => none
    | some n => some (if s.stRecv n (s.stageDir n) = node then (s.stage n).vCtl else (s.stage n).vSend, s)

/-- The signals of a record, two bytes each: the latest conversion of a running stage, else what was converted for Gleaner. -/
def State.glnSignals (s : State) (body : List Byte) : List Nat → List Byte × State
  | [] => ([], s)
  | id :: t =>
    match s.stageSignal id with
    | some x =>
      let r := x.2.glnSignals (body.drop 2) t
      (leBytes 2 (ofSigned 16 x.1) ++ r.1, r.2)
    | none =>
      let r := s.glnSignals (body.drop 2) t
      (body.take 2 ++ r.1, r.2)

/-- A value of the tick's snapshot (R313). -/
def State.snapValue (s : State) (id : Nat) : Nat := s.sys.snap.getD id 0

/-- The body of a record; none where the event gives conversions of another number than the list has. -/
def State.glnBody (s : State) (g : Nat) (body : List Byte) : Option (List Byte × State) :=
  let kind := s.f (R.GLN_CFG g) F.GLN_CFG_KIND
  if kind = 1 then (if body.length = 2 * (s.glnIds g).length then some (s.glnSignals body (s.glnIds g)) else none)
  else if !body.isEmpty then none
  else if kind = 2 then some (s.pwmBody (s.f (R.GLN_CFG g) F.GLN_CFG_SMP_SEL % 8), s)
  else some ((s.glnIds g).flatMap (fun id => leBytes 8 (s.snapValue id)), s)

/-- A signal of the list has no running stage that converts it, so that it needs an on-demand conversion (R313). -/
def State.glnDemand (s : State) (g : Nat) : Bool := (s.glnIds g).any (fun id => (s.stageSignal id).isNone)

/-! Writing (R315–R318). -/

/-- A record is lost: counted, and reported by the next GAP record (R314). -/
def State.glnLose (s : State) (g seq time why : Nat) : State :=
  let r := s.gln g
  let s := s.bump (R.GLN_LOST g) F.GLN_LOST_LOST 1
  if r.gapCount = 0 then s.putGln g { r with gapCount := 1, gapSeq := seq, gapTime := time, gapWhy := why }
  else s.putGln g { r with gapCount := r.gapCount + 1, gapWhy := r.gapWhy ||| why }

/-- The present 10 ms interval of the load figures. -/
def State.glnRoll (s : State) : State :=
  let iv := s.cyc / 2000000
  if iv = s.sys.glnIv then s
  else { s with sys := { s.sys with
    glnPrev := if iv = s.sys.glnIv + 1 then s.sys.glnDone else 0
    glnIv := iv
    glnDone := 0
    glnOffered := 0 } }

/-- Bytes are offered to the link: above 125 MB/s in an interval OVER is set. -/
def State.glnOffer (s : State) (n : Nat) : State :=
  let s := s.glnRoll
  let s := { s with sys := { s.sys with glnOffered := s.sys.glnOffered + n } }
  if 1250000 < s.sys.glnOffered then s.hwSet R.GLN_GLB_STATUS F.GLN_GLB_STATUS_OVER 1 else s

/-- A record's bytes go into the current buffer, which has room; false where there is none, or where its write faults (R309). -/
def State.glnPut (s : State) (g : Nat) (bytes : List Byte) (seq time : Nat) : State × Bool :=
  let r := s.gln g
  match r.bufs with
  | [] => (s, false)
  | b :: _ =>
    let whole := fun (s : State) =>
      let n := r.curLen
      let s := s.glnRoll
      let s := { s with sys := { s.sys with glnDone := s.sys.glnDone + bytes.length } }
      s.putGln g { r with
        curLen := n + bytes.length
        firstSeq := if n = 0 then seq else r.firstSeq
        firstTime := if n = 0 then time else r.firstTime
        firstAt := if n = 0 then s.cyc else r.firstAt
        lastTime := time }
    if b.addr / 2 ^ 63 = 1 then (whole (s.winWrite (b.addr % 2 ^ 63 + r.curLen) bytes), true)
    else
      match s.dmaWrite (b.addr + r.curLen) bytes 0 3 with
      | (t, _, none) => (whole t, true)
      | (t, n, some (a, k)) => ((t.dmaLog 6 (t.glnPair g) b.idx a (r.curLen + n) k).glnFinish g glnFaultCode, false)

/-- A full buffer makes way for the next one. -/
def State.glnRoom (s : State) (g len : Nat) : State :=
  match (s.gln g).bufs with
  | b :: _ => if b.len < (s.gln g).curLen + len then s.glnFinish g glnFull else s
  | [] => s

/-- The GAP record of a loss, if there is one and a buffer takes it. The result is the reason why it could not be written, 0 where the
next record may follow. -/
def State.glnGap (s : State) (g : Nat) : State × Nat :=
  let r := s.gln g
  if r.gapCount = 0 then (s, 0)
  else
    let room := s.glnRoom g 32
    if (room.gln g).bufs.isEmpty then (room, 1)
    else
      let x := room.glnPut g (glnRecord 0x0E g r.gapSeq r.gapTime 0 (leBytes 4 r.gapCount ++ [BitVec.ofNat 8 r.gapWhy])) r.gapSeq
        r.gapTime
      if x.2 then (x.1.putGln g { x.1.gln g with gapCount := 0, gapWhy := 0 }, 0) else (x.1, 4)

/-- One record is written, or lost for want of a buffer or of DMA, or by a fault. The result says whether it was written. -/
def State.glnWrite (s : State) (g : Nat) (rec_ : List Byte) (seq time : Nat) : State × Bool :=
  let s := s.glnOffer rec_.length
  match (s.gln g).bufs with
  | [] => (s.glnLose g seq time 1, false)
  | b :: _ =>
    if !s.bufReach b.addr b.len true then (s.glnLose g seq time 2, false)
    else
      let x := s.glnGap g
      if x.2 ≠ 0 then (x.1.glnLose g seq time x.2, false)
      else
        let s := x.1.glnRoom g rec_.length
        if (s.gln g).bufs.isEmpty then (s.glnLose g seq time 1, false)
        else
          let y := s.glnPut g rec_ seq time
          if y.2 then y else (y.1.glnLose g seq time 4, false)

/-- A record of a capture: POST of them after the trigger record end it (R319). -/
def State.glnCaptured (s : State) (g : Nat) (trig : Bool) : State :=
  let r := s.gln g
  let post := s.f (R.GLN_TRIG g) F.GLN_TRIG_POST
  if s.glnState g ≠ glnCapture then s
  else if trig then s.putGln g { r with postLeft := post }
  else if r.trigNext ∨ r.postLeft = 0 then s
  else if r.postLeft = 1 then ((s.putGln g { r with postLeft := 0 }).setGlnState g glnDone).glnFinish g glnFlushed
  else s.putGln g { r with postLeft := r.postLeft - 1 }

/-- The pre-trigger store keeps the last PRE records within 16 KiB (R320). -/
def glnKeep (pre : Nat) (l : List (List Byte)) : List (List Byte) :=
  let l := l.drop (l.length - pre)
  (l.foldr (fun x (a : List (List Byte) × Nat) =>
    let n := a.2 + x.length
    if n ≤ 16384 then (x :: a.1, n) else (a.1, 16385)) ([], 0)).1

/-- The sampling event that a stream waits for has happened in the present cycle, and the stream has not counted it (R312). -/
def State.glnDue (s : State) (g : Nat) : Bool :=
  let src := s.f (R.GLN_CFG g) F.GLN_CFG_SMP_SRC
  s.eventNow src (if src = 1 then 0 else s.f (R.GLN_CFG g) F.GLN_CFG_SMP_SEL) && (s.gln g).evAt != s.cyc + 1

/-- The state of a stream admits a record. -/
def State.glnTakes (s : State) (g : Nat) : Bool :=
  s.glnState g == glnRun || s.glnState g == glnArmed || s.glnState g == glnCapture

/-- A record of a sampling event is taken: its number counts, and it goes into the pre-trigger store or out; `drop`: 1 the FIFO is full,
2 the conversions are used up (R313, R318). -/
def State.glnTake (s : State) (g : Nat) (b : List Byte) (drop : Nat) : State :=
  let c := R.GLN_CFG g
  let seq := s.rdN (R.GLN_SEQ g)
  let time := s.now48
  let trig := (s.gln g).trigNext
  let rest := coordField (s.coordPos (s.f c F.GLN_CFG_CUNIT)) ++ b
  let make := fun flags => glnRecord (s.f c F.GLN_CFG_KIND) g seq time flags rest
  let s := s.wrN (R.GLN_SEQ g) (seq + 1)
  if drop = 1 then (s.glnOffer (make 0).length).glnLose g seq time 2
  else if drop = 2 then s.glnLose g seq time 8
  else if s.glnState g = glnArmed then
    s.setGln g { s.gln g with pre := glnKeep (s.f (R.GLN_TRIG g) F.GLN_TRIG_PRE) ((s.gln g).pre ++ [make 2]) }
  else
    let x := s.glnWrite g (make (boolNat trig)) seq time
    if x.2 then (x.1.setGln g { x.1.gln g with trigNext := false }).glnCaptured g trig else x.1

/-- A sampling event (R312): every (DIV + 1)-th is recorded. -/
def State.glnEvent (s : State) (g : Nat) (body : List Byte) (drop : Nat) : State :=
  let r := s.gln g
  if !s.glnTakes g || !s.glnDue g then s
  else if r.divCnt < s.f (R.GLN_CFG g) F.GLN_CFG_DIV then s.setGln g { r with divCnt := r.divCnt + 1, evAt := s.cyc + 1 }
  else
    match s.glnBody g body with
    | none => s
    | some b =>
      if (drop = 2 ∧ ¬ (s.f (R.GLN_CFG g) F.GLN_CFG_KIND = 1 ∧ s.glnDemand g)) ∨ (drop = 1 ∧ s.glnState g = glnArmed) then s
      else (b.2.setGln g { b.2.gln g with divCnt := 0, evAt := s.cyc + 1 }).glnTake g b.1 drop

def execGlnSample (g : Fin 8) (body : List Byte) (drop : Fin 3) (s : State) : Host.Outcome State Fault Refusal :=
  s.act fun s => s.glnEvent g body drop

def execGlnFlushExpiry (g : Fin 8) (s : State) : Host.Outcome State Fault Refusal :=
  s.act fun s =>
    let ms := s.f (R.GLN_FLUSH g) F.GLN_FLUSH_FLUSH_MS
    if ms ≠ 0 ∧ (s.gln g).curLen ≠ 0 ∧ (s.gln g).firstAt + ms * 200000 ≤ s.cyc ∧ s.glnState g ≠ glnFaulted then
      s.glnFinish g glnFlushed
    else s

/-- The trigger of an ARMED stream (R319, R320): its pre-trigger records are written, and the next record is the trigger record. -/
def State.glnFire (s : State) (g : Nat) : State :=
  if s.glnState g ≠ glnArmed then s
  else
    let pre := (s.gln g).pre
    let s := (s.setGln g { s.gln g with pre := [], trigNext := true }).setGlnState g glnCapture
    pre.foldl (fun s r => if s.glnState g = glnCapture then (s.glnWrite g r (leAt r 4 4) (leAt r 8 6)).1 else s) s

/-- The trigger that TRG_SRC selects has happened in the present cycle (R320). -/
def State.glnTrigNow (s : State) (g : Nat) : Bool :=
  let sel := s.f (R.GLN_TRIG g) F.GLN_TRIG_TRG_SEL
  match s.f (R.GLN_TRIG g) F.GLN_TRIG_TRG_SRC with
  | 1 => s.eventNow 2 sel
  | 2 => s.eventNow 3 sel
  | 3 => s.eventNow 6 sel
  | 4 => s.eventNow 8 0
  | _ => false

def execGlnTrigger (g : Fin 8) (s : State) : Host.Outcome State Fault Refusal :=
  s.act fun s => if s.glnTrigNow g then s.glnFire g else s

/-! Set-up and control (R319). -/

/-- The set-up that a write of EN = 1 would start. -/
def State.glnValid (s : State) (g : Nat) (v : Word) : Bool :=
  let f := fun (x : Fld) => getBits v x.lo x.w
  let kind := f F.GLN_CFG_KIND
  let src := f F.GLN_CFG_SMP_SRC
  let sel := f F.GLN_CFG_SMP_SEL
  let p := f F.GLN_CFG_PAIR
  let ids := s.glnIds g
  let t := s.f (R.GLN_TRIG g) F.GLN_TRIG_TRG_SRC
  let ts := s.f (R.GLN_TRIG g) F.GLN_TRIG_TRG_SEL
  decide (1 ≤ kind ∧ src ≤ 4 ∧ f F.GLN_CFG_CUNIT ≤ 5)
    && (src == 1 || decide (sel < (if src = 0 then 8 else if src = 2 then 24 else 16)))
    && (if kind = 2 then src == 0
        else !ids.isEmpty && ids.all (fun id => decide (id ≤ (if kind = 1 then 0x2D else 0x26))))
    && (f F.GLN_CFG_TRIGGERED == 0 || (decide (t ≤ 4)
        && (if t = 1 then decide (ts < 24) else if t = 2 then decide (ts < 16) else if t = 3 then decide (ts < 4) else true)))
    && s.pairType p == 3 && s.pairState p == ringActive

/-- The buffers held complete STOPPED: the current one with its records, the others empty. -/
def State.glnStop (s : State) (g : Nat) : State :=
  let r := s.gln g
  let s := match r.bufs with
    | [] => s
    | b :: rest =>
      let s := s.glnCplBuf g b glnStopped r r.curLen
      rest.foldl (fun s b => s.glnCplBuf g b glnStopped r 0) s
  ((s.putGln g {}).setF (R.GLN_STATUS g) F.GLN_STATUS_NOBUF 0).setGlnState g glnOff

/-- A write of GLN_s_CFG. -/
def State.writeGln (s : State) (g : Nat) (v : Word) : State :=
  let c := R.GLN_CFG g
  let st := s.glnState g
  if getBits v F.GLN_CFG_EN.lo 1 = 0 then (s.glnStop g).loadReg c v
  else if st ≠ glnOff then s.loadReg c v
  else if s.glnValid g v then
    let s := (s.loadReg c v).wrN (R.GLN_SEQ g) 0
    (s.putGln g { bufs := (s.gln g).bufs }).setGlnState g (if s.flag c F.GLN_CFG_TRIGGERED then glnArmed else glnRun)
  else (s.loadReg c v).hwSet (R.GLN_STATUS g) F.GLN_STATUS_CFG_ERR 1

def execGlnEnable (p : Path) (g : Fin 8) (v : Word) (s : State) : Host.Outcome State Fault Refusal :=
  s.act fun s => s.inOrder p (R.GLN_CFG g) (s.rd (R.GLN_CFG g)) (putBits v F.GLN_CFG_EN.lo 1 1) fun v s => s.writeGln g v

def execGlnDisable (p : Path) (g : Fin 8) (s : State) : Host.Outcome State Fault Refusal :=
  s.act fun s => s.inOrder p (R.GLN_CFG g) (s.rd (R.GLN_CFG g)) (putBits (s.rd (R.GLN_CFG g)) F.GLN_CFG_EN.lo 1 0)
    fun v s => s.writeGln g v

def State.glnArm (s : State) (g : Nat) : State :=
  if s.glnState g = glnDone then (s.setGln g { s.gln g with pre := [], trigNext := false }).setGlnState g glnArmed else s

def execArm (_ : Path) (g : Fin 8) (s : State) : Host.Outcome State Fault Refusal :=
  s.act fun s => s.glnArm g

def execForce (_ : Path) (g : Fin 8) (s : State) : Host.Outcome State Fault Refusal :=
  s.act fun s => s.glnFire g

/-- A POST (R315): a buffer joins its stream, which holds at most 16; a post with a fault of form completes MALFORMED. -/
def execPost (pair : Fin 32) (entry : List Byte) (s : State) : Host.Outcome State Fault Refusal :=
  s.act fun s =>
    let w := leAt entry 0 4
    let g := bitsOf w 8 3
    let v := leAt entry 8 8
    let len := leAt entry 16 4
    if !s.ctlReady pair 3 entry || ctlOp entry != 1 then s
    else
      let idx := s.frontIdx pair
      let t := s.takeEntry pair entry
      let ok := bitsOf w 11 2 == 0 && bitsOf w 14 18 == 0 && allZero (entry.drop 20) && s.glnPair g == pair.val
        && decide (4096 ≤ len ∧ len ≤ 2 ^ 22 ∧ len % 4096 = 0 ∧ v % 64 = 0) && bufOk v len
      if !ok then t.complete pair (leBytes 4 (0x15 + 256 * g) ++ slice entry 4 4) (ctlWorthy entry)
      else if 16 ≤ (s.gln g).bufs.length then s
      else
        let r := t.gln g
        t.putGln g { r with bufs := r.bufs ++ [⟨leAt entry 4 4, v, len, ctlWorthy entry, idx⟩] }

/-! DMA faults (R304, R305, R309). -/

/-- A kind that can strike a read or a write. -/
def kindStrikes (kind : Nat) (write : Bool) : Bool :=
  if write then kind == 1 || kind == 3 || kind == 4 || kind == 9 else decide (1 ≤ kind) && kind != 3

/-- Kinds 1 to 4 are what translation finds at the address. -/
def State.kindTrue (s : State) (addr kind : Nat) (write : Bool) : Bool :=
  if 5 ≤ kind then true
  else match s.translate addr write with
    | .bad k => k == kind
    | .win _ => false
    | .host _ => false

/-- The buffer that the command of an entry reads (op 4) or writes (op 5), and its length. -/
def ctlBuf (typ op : Nat) (e : List Byte) : Option (Nat × Nat) :=
  let o := ctlOp e
  if op = 4 then
    if typ = typControl ∧ o = 1 then some (leAt e 16 8, leAt e 10 2)
    else if typ = typBlob ∧ o = 1 then some (leAt e 16 8, leAt e 12 4)
    else if typ = typBlob ∧ o = 3 then some (leAt e 16 8, leAt e 12 2)
    else if typ = typBlob ∧ o = 5 then some (leAt e 16 8, leAt e 10 1)
    else none
  else if typ = typControl ∧ o = 2 then some (leAt e 16 8, leAt e 10 2)
  else if typ = typControl ∧ o = 6 then some (leAt e 16 8, 64 * leAt e 12 2)
  else if typ = typControl ∧ o = 7 then some (leAt e 48 8, 256)
  else if typ = typBlob ∧ o = 2 then some (leAt e 16 8, leAt e 12 2)
  else if typ = typBlob ∧ o = 4 then some (leAt e 48 8, 32)
  else if typ = typBlob ∧ o = 6 then some (leAt e 24 8, 64)
  else none

/-- The buffer command at the front of a pair ends with DMA_FAULT: `done` bytes of its buffer were received or written. -/
def State.ctlFault (s : State) (op p addr done kind : Nat) : State :=
  match (s.srcRt p).waiting with
  | [] => s
  | e :: _ =>
    let typ := s.pairType p
    match ctlBuf typ op e with
    | none => s
    | some (v, len) =>
      if !s.ctlReady p typ e || !s.ctlTurn p typ e || v / 2 ^ 63 == 1 || addr != v + done || decide (len ≤ done) then s
      else
        let idx := s.frontIdx p
        (((s.takeEntry p e).dmaLog op p idx addr done kind).canPassDone typ e).ctlDone p e
          { status := 0x53, r0 := if op = 5 then done else 0 }

/-- The streams that fill a buffer through a pair. -/
def State.glnFilling (s : State) (p : Nat) : Option Nat :=
  (List.range 8).find? (fun g => s.glnPair g == p && !(s.gln g).bufs.isEmpty
    && (s.glnState g == glnRun || s.glnState g == glnCapture))

/-- An address within `n` bytes from another. -/
def within (a base n : Nat) : Bool := decide (base ≤ a ∧ a < base + n)

/-- A DMA of an operation of R309 fails: 0 poll, 1 device slot, 2 fetch, 3 completion, 4 SRC read, 5 DST write, 6 telemetry; `addr` is the
address at which it fails, and `done` the bytes before it. What is no failure that the operation can meet leaves the block as it is. -/
def State.dmaFails (s : State) (op p index addr done kind : Nat) : State :=
  let write := op == 1 || op == 3 || op == 5 || op == 6
  if !kindStrikes kind write || !s.kindTrue addr kind write then s
  else if op = 0 then
    (if s.polls && s.pollDue && within addr s.dbBase (8 * (s.polledPairs.getLastD 0 + 1)) then
      ({ s with sys := { s.sys with pollStart := some s.cyc } }).pollFault addr kind else s)
  else if op = 1 then
    (if s.pairState p = ringDisabled ∨ s.pairLocal p ∨ ¬ s.slotStale p ∨ addr ≠ s.dbBase + 0x800 + 8 * p then s
     else s.dmaLog 1 p index addr 0 kind)
  else if op = 2 then
    (if s.fetchable p && !s.pairLocal p && within addr (s.sqBase p + 64 * s.sqHead p) 64 then
      (s.dmaLog 2 p (s.sqHead p) addr 0 kind).stallDma p else s)
  else if op = 3 then
    (if s.canDrain p && !s.pairLocal p && (takeHeld p s.cplq).isSome && within addr (s.cqBase p + 32 * s.cqTail p) 32 then
      (s.dmaLog 3 p (s.cqTail p) addr 0 kind).stallDma p else s)
  else if op = 4 ∨ op = 5 then s.ctlFault op p addr done kind
  else
    match s.glnFilling p with
    | none => s
    | some g =>
      match (s.gln g).bufs with
      | [] => s
      | b :: _ =>
        if addr = b.addr + done ∧ (s.gln g).curLen ≤ done ∧ done < b.len then
          (s.dmaLog 6 p b.idx addr done kind).glnFinish g glnFaultCode
        else s

def execDmaFault (op : Fin 7) (pair : Fin 32) (index addr done : Nat) (kind : Fin 10) (s : State) : Host.Outcome State Fault Refusal :=
  s.act fun s => s.dmaFails op pair index addr done kind

/-- A read has no completion within the timeout of R305: kind 7. -/
def execCplTimeout (op : Fin 7) (pair : Fin 32) (index addr done : Nat) (s : State) : Host.Outcome State Fault Refusal :=
  s.act fun s => s.dmaFails op pair index addr done 7

end Sys2Proof.Machine
end

