-- ==== Sys2Proof/Machine/Orders.lean ====
section
/-! DEFINITION. The commands of Drill but for the tick: order entries and groups, the CAN ports as sources, FENCE, the endings of
orders and re-validation (spec/03_energy_orders.md R77–R103). -/

namespace Sys2Proof.Machine

/-- The number of a source: a ring pair, or 32 and up for a CAN port. -/
def srcNo : Source → Nat
  | .ring p => p.val
  | .can n => 32 + n.val

/-- A source of order entries (R77): a ring pair of type ORDER that is not DISABLED, or a CAN port. -/
def State.orderSource (s : State) (src : Nat) : Bool :=
  decide (32 ≤ src) || (s.pairType src == 1 && s.pairState src != ringDisabled)

/-- An entry of an opcode reaches Drill from a source. -/
def State.orderEntry (s : State) (src : Source) (op : Nat) (e : List Byte) : State :=
  if (parseOrder e).op = op ∧ s.orderSource (srcNo src) then s.submit (srcNo src) e else s

def execDeliver (src : Source) (e : List Byte) (s : State) : Host.Outcome State Fault Refusal :=
  s.act fun s => s.orderEntry src opDeliver e

def execHold (src : Source) (e : List Byte) (s : State) : Host.Outcome State Fault Refusal :=
  s.act fun s => s.orderEntry src opHold e

def execAbsorb (src : Source) (e : List Byte) (s : State) : Host.Outcome State Fault Refusal :=
  s.act fun s => s.orderEntry src opAbsorb e

def execChargeBy (src : Source) (e : List Byte) (s : State) : Host.Outcome State Fault Refusal :=
  s.act fun s => s.orderEntry src opChargeBy e

def execReserve (src : Source) (e : List Byte) (s : State) : Host.Outcome State Fault Refusal :=
  s.act fun s => s.orderEntry src opReserve e

def execCancel (src : Source) (e : List Byte) (s : State) : Host.Outcome State Fault Refusal :=
  s.act fun s => s.orderEntry src opCancel e

def execFence (src : Source) (e : List Byte) (s : State) : Host.Outcome State Fault Refusal :=
  s.act fun s => s.orderEntry src opFence e

/-- A chained group that is wholly exposed (R99). -/
def execChainedGroup (src : Source) (es : List (List Byte)) (s : State) : Host.Outcome State Fault Refusal :=
  s.act fun s => if s.orderSource (srcNo src) then s.submitGroup (srcNo src) es else s

/-- The FENCE of a source completes (R101). -/
def State.endFence (s : State) (src status : Nat) (e : List Byte) : State :=
  let o := parseOrder e
  (s.setSrc src { s.srcRt src with fence := none }).complete src (orderCpl status o.op 0 true o.tag 0 0 0 s.now48 0) o.irq

/-- Every order accepted earlier from the source has written its final completion (R101). -/
def execFenceRelease (src : Source) (s : State) : Host.Outcome State Fault Refusal :=
  s.act fun s =>
    let n := srcNo src
    match (s.srcRt n).fence with
    | some (e, seq) => if s.plan.any (fun p => p.2.src == n && decide (p.2.seq < seq)) then s else s.endFence n 0x00 e
    | none => s

/-- TIME_BOUND of a pending FENCE passes (R101). -/
def execFenceTimeBoundExpiry (src : Source) (s : State) : Host.Outcome State Fault Refusal :=
  s.act fun s =>
    let n := srcNo src
    match (s.srcRt n).fence with
    | some (e, _) => if s.absTime (parseOrder e).tBound < s.us then s.endFence n 0x31 e else s
    | none => s

/-! Orders over CAN (R102). -/

/-- A port that takes order frames: on, not bus-off, not held, its identifier enabled. -/
def State.canOrders (s : State) (n : Nat) : Bool :=
  s.canLive n && s.flag (R.DRILL_CAN_RXID n) F.DRILL_CAN_RXID_EN

/-- A frame on the order identifier of a port. -/
def State.canOrderId (s : State) (n : Nat) (f : CanFrame) : Bool :=
  f.ident == s.f (R.DRILL_CAN_RXID n) F.DRILL_CAN_RXID_ID && f.ide == s.flag (R.DRILL_CAN_RXID n) F.DRILL_CAN_RXID_IDE

/-- The members of a CAN group received so far are rejected. -/
def State.rejectGap (s : State) (src : Nat) : State :=
  let es := (s.srcRt src).group
  if es.isEmpty then s
  else (s.setSrc src { s.srcRt src with group := [] }).rejectGroup src (es.map parseOrder) es.length 0x16 0x010C

/-- More than 2 ms have passed since the last member of a CAN group (R102). -/
def State.gapPassed (s : State) (src : Nat) : Bool :=
  !(s.srcRt src).group.isEmpty && decide ((s.srcRt src).groupAt + 400000 < s.cyc)

/-- A frame arrives: counted in BAD_FRAME, dropped, or taken as an entry. The members of a group gather until the last; then the
whole group waits for its decision. A member that comes after the gap of R102 begins anew. -/
def execCanOrderFrame (n : Fin 2) (f : CanFrame) (s : State) : Host.Outcome State Fault Refusal :=
  s.act fun s =>
    let src := 32 + n.val
    if !s.canOrders n || !s.canOrderId n f || (f.fd && !s.canFd n) then s
    else if !f.fd || f.data.length != 64 then s.bump (R.DRILL_CAN_STAT n) F.DRILL_CAN_STAT_BAD_FRAME 1
    else if 32 ≤ (s.can n).txq.length then s.bump (R.DRILL_CAN_STAT n) F.DRILL_CAN_STAT_DROPPED 1
    else
      let s := (if s.gapPassed src then s.rejectGap src else s).noteIdle .canOrder
      let r := s.srcRt src
      if (parseOrder f.data).chain then s.setSrc src { r with group := r.group ++ [f.data], groupAt := s.cyc }
      else s.setSrc src (({ r with group := [] } : SrcRt).arrive s.tick s.cyc (r.group ++ [f.data]))

/-- More than 2 ms pass between the members of a group: every member received is rejected (R102). -/
def execCanChainGapExpiry (n : Fin 2) (s : State) : Host.Outcome State Fault Refusal :=
  s.act fun s =>
    if s.gapPassed (32 + n.val) then s.rejectGap (32 + n.val) else s

/-! The endings of orders (R85, R86, R96). -/

def execOrderEnergyReached (slot : Fin 4096) (s : State) : Host.Outcome State Fault Refusal :=
  s.act fun s => s.endEnergy slot

def execOrderTimeBoundExpiry (slot : Fin 4096) (s : State) : Host.Outcome State Fault Refusal :=
  s.act fun s => s.endBound slot

def execOrderToutExpiry (slot : Fin 4096) (s : State) : Host.Outcome State Fault Refusal :=
  s.act fun s => s.endTout slot

def execChargeByDeadline (slot : Fin 4096) (s : State) : Host.Outcome State Fault Refusal :=
  s.act fun s => s.endDeadline slot

def execVoltWindowBreach (slot : Fin 4096) (s : State) : Host.Outcome State Fault Refusal :=
  s.act fun s => s.endVolt slot

/-! Re-validation (R94, R95). -/

/-- REVAL_MS milliseconds, at least 10, have passed without a re-validation: one starts, without a cause of its own. -/
def execRevalMsExpiry (s : State) : Host.Outcome State Fault Refusal :=
  s.act fun s =>
    if s.revalAt + 1000 * max 10 (s.f R.DRILL_CFG F.DRILL_CFG_REVAL_MS) ≤ s.us then
      s.setF R.DRILL_STATUS F.DRILL_STATUS_REVAL 1
    else s

/-- The hand-overs under way whose source's loss the re-validation has covered (step 6 of R156). -/
def State.markHandovers (s : State) : State :=
  s.each (List.range 8) (fun r s =>
    if s.railSupply r = supHandover then s.setXfer r { s.xfer r with revalDone := true } else s)

def execRevalidationDone (s : State) : Host.Outcome State Fault Refusal :=
  s.act fun s =>
    if s.flag R.DRILL_STATUS F.DRILL_STATUS_REVAL then
      -- a source that served no rail has no load to hand over: its hand-over ends with the re-validation
      (s.revalidate).markHandovers.each (List.range 6) (fun x s => s.freeLost x)
    else s

end Sys2Proof.Machine
end

