-- ==== Sys2Proof/Machine/Tick.lean ====
section
/-! DEFINITION. The 10 µs tick of Drill: observations, the energy model (R30–R35), velocities (R58–R60), orders (R63, R83–R88,
R96), ranks and dispatch (R98, R148, R152–R157). -/

namespace Sys2Proof.Machine

/-! Observations. -/

def listNat (l : List Nat) (k : Nat) : Nat := l.getD k 0
def listInt (l : List Int) (k : Nat) : Int := l.getD k 0

/-- The measurements of the tick enter the state. -/
def State.observe (s : State) (o : TickObs) : State :=
  let s := s.each [0, 1, 2] (fun n s =>
    let i := listInt o.iInput n
    let w := s.quot ((listNat o.vInput n : Int) * i) 1000
    let s := ((w.2.setSupV n (listNat o.vInput n)).wrN (R.INPUT_CURRENT n) (ofSigned 32 i)).wrN (R.INPUT_POWER n) (ofSigned 32 w.1)
    s.setSupply n { s.supply n with iAvg := i })
  let s := s.each [0, 1, 2] (fun n s =>
    let s := s.setSupV (3 + n) (listNat o.vPort n)
    s.setSupply (3 + n) { s.supply (3 + n) with
      iAvg := ((s.stagesOutOf (12 + n)).map (fun k => (s.stage k).iIn)).foldl (· + ·) 0 })
  let s := s.each [0, 1] (fun n s => if s.supState n = supOnline then s.inputFloor n else s)
  let s := s.each [0, 1, 2, 3] (fun i s => s.setPack i { s.pack i with
    vPack := listNat o.vPack i, iPack := listInt o.iPack i, sagged := (s.pack i).sagged || decide (listNat o.vPack i < 2500) })
  s.each (List.range 8) (fun r s =>
    let v := s.measured r (listNat o.vRail r)
    (v.2.setF (R.RAIL_VFB r) F.RAIL_VFB_V (sat 16 v.1)).setRail r { v.2.rail r with load := listNat o.loadRail r })

/-! The energy model. -/

/-- E_REM follows the shunt (R207); it is zero after 1 s at or below the node's V_MIN while the pack discharges without a link. -/
def State.countEnergy (s : State) (i : Nat) : State :=
  let r := s.pack i
  let acc := r.eFrac + r.iPack * r.vPack
  let e : Int := s.eRem i + acc / 100000000
  let low := !s.linkUp i && decide (r.vPack ≤ s.nodeVmin (8 + i) ∧ r.iPack < 0)
  let n := if low then r.lowTicks + 1 else 0
  if 100000 ≤ n then (s.setERem i 0).setPack i { r with eFrac := 0, lowTicks := n }
  else (s.setERem i (natOf e)).setPack i { r with eFrac := if e < 0 then 0 else acc % 100000000, lowTicks := n }

/-- A model value has fallen to zero, or by more than 1 % since the last re-validation (R94). -/
def fellPercent (prev base now : Nat) : Bool := (decide (0 < prev) && now == 0) || decide (base < 100 * (base - now))

/-- E_AVAIL, PMAX and the deratings of a pack (R30, R31, R210). -/
def State.modelPack (s : State) (i : Nat) : State :=
  let b := (s.pack i).prof
  let dt := zoneDTemp b (s.zoneOf i)
  let di := s.dImpNow i
  let floor := s.rd64 (R.ENV_PACK_EFLOOR_LO i) (R.ENV_PACK_EFLOOR_HI i)
  let lost := s.packLost i
  let e := if lost then 0 else (s.eRem i - floor) * dt * di / (1024 * 1024)
  let p := if lost then 0 else s.iDmax i * s.nodeVmin (8 + i) / 1000
  let fell := fellPercent (s.eAvail i) (s.revalE.getD i 0) e || fellPercent (s.pMax i) (s.revalP.getD i 0) p
  let s := (s.wr64 (R.MODEL_PACK_AVAIL_LO i) (R.MODEL_PACK_AVAIL_HI i) (sat 48 e)).wrN (R.MODEL_PACK_PMAX i) (sat 32 p)
  let s := (s.setF (R.MODEL_PACK_DERATE i) F.MODEL_PACK_DERATE_D_TEMP dt).setF (R.MODEL_PACK_DERATE i) F.MODEL_PACK_DERATE_D_IMP di
  if fell then s.trigReval (if lost then 0x0001 else 0x0006) else s

/-- The budget of an input or a port (R32, R94). -/
def State.modelBudget (s : State) (x : Nat) : State :=
  let reg := if x < 3 then R.MODEL_INPUT_BUDGET x else R.MODEL_PORT_BUDGET (x - 3)
  let b := s.supBudget x
  let old := s.rdN reg
  let s := s.wrN reg (sat 32 b)
  if b < old then s.trigReval (if x < 3 then 0x0003 else 0x0002) else s

/-- H of R35, 1/1024, from a temperature and the limits of a stage (0.1 °C). -/
def thermH (t derate top : Int) : Nat :=
  if t ≤ derate then 1024 else if top ≤ t then 0 else natOf (1024 * (top - t) / (top - derate))

/-- The thermal headroom of a stage (R35, R94). -/
def State.modelStage (s : State) (n : Nat) (o : TickObs) : State :=
  let t := listInt o.tBoard (s.stNtc n)
  let lim := fun fld => toSigned 16 (s.fabF (R.STAGE_THERM n) fld)
  let stopped := s.heldStage n || s.anySafe || (List.range 4).any (fun g => s.stInGroup n g && s.groupHeld g)
  let h := if stopped then 0
    else s.stRated n * thermH t (lim F.STAGE_THERM_T_DERATE) (lim F.STAGE_THERM_T_MAX) / 1024
  let prev := s.headroom n
  let base := s.revalH.getD n 0
  let fell := (decide (0 < prev) && h == 0) || decide (s.stRated n < 16 * (base - h))
  let s := s.wrN (R.MODEL_STAGE_HEADROOM n) h
  if fell then s.trigReval (if stopped then 0x0004 else 0x0005) else s

def State.model (s : State) (o : TickObs) : State :=
  let s := s.each [0, 1, 2, 3] (fun i s => (s.countEnergy i).modelPack i)
  let s := s.each (List.range 6) (fun x s => s.modelBudget x)
  s.each (List.range 8) (fun n s => s.modelStage n o)

/-- The value of a KIND 3 ID (R313), as 64 bits. -/
def State.modelValue (s : State) (id : Nat) : Nat :=
  if id < 0x04 then s.rd64 (R.MODEL_PACK_AVAIL_LO id) (R.MODEL_PACK_AVAIL_HI id)
  else if id < 0x08 then s.rd64 (R.MODEL_PACK_RESERVED_LO (id - 4)) (R.MODEL_PACK_RESERVED_HI (id - 4))
  else if id < 0x0C then s.rdN (R.MODEL_PACK_PMAX (id - 8))
  else if id < 0x14 then s.rdN (R.MODEL_STAGE_HEADROOM (id - 0x0C))
  else if id < 0x17 then s.rdN (R.MODEL_INPUT_BUDGET (id - 0x14))
  else if id < 0x1A then s.rdN (R.MODEL_PORT_BUDGET (id - 0x17))
  else if id < 0x22 then s.rdN (R.STAGE_CEIL (id - 0x1A))
  else if id = 0x22 then s.f R.DRILL_STATUS F.DRILL_STATUS_PLAN_USED
  else ofSigned 64 (toSigned 16 (s.f (R.PACK_TEMP (id - 0x23)) F.PACK_TEMP_T_ZONE))

/-- The tick's snapshot (R29). -/
def State.takeSnap (s : State) : State := { s with sys := { s.sys with snap := (List.range 0x27).map s.modelValue } }

/-- The age of the link's temperature (R202), Tilth's conditions (R213), demands, pauses and references (R164, R166, R180, R194), once the
tick's orders are active. -/
def State.chargeTick (s : State) : State :=
  s.each [0, 1, 2, 3] (fun i s => ((((s.staleTemp i).tilthShow i false).chargeDemand i).zonePause i).takeRefs i)

/-! Coordinates (R58–R60). -/

/-- The velocity of a travel unit, counts/s (R58). -/
def State.velOf (s : State) (n : Nat) : Int × State :=
  let prev := toSigned 32 (s.rdN (R.COORD_VEL n))
  let r := s.coord n
  let win := (s.f (R.COORD_CFG n) F.COORD_CFG_VGATE + 1) * 2000
  let inWin := r.edges.filter (fun e => decide (s.cyc < e.1 + win))
  match inWin, inWin.getLast? with
  | (tl, up) :: _ :: _, some (tf, _) =>
    if tl = tf then
      let v := s.takeFree 32
      (toSigned 32 v.1, v.2)
    else
      let v : Int := (inWin.length - 1) * 200000000 / (tl - tf) 
      (if up then v else -v, s)
  | _, _ =>
    match r.edges with
    | [] => (prev, s)
    | (tl, _) :: _ =>
      let cap : Nat := if s.cyc = tl then prev.natAbs else min prev.natAbs (200000000 / (s.cyc - tl))
      (if prev < 0 then -(cap : Int) else cap, s)

/-- A travel unit at a tick: VEL, STALL_ACC, SPEED_ERR; edges older than the window are forgotten but for the last. -/
def State.tickTravel (s : State) (n : Nat) : State :=
  if s.coordMode n = 0 then s
  else
    let v := s.velOf n
    let s := v.2.wrN (R.COORD_VEL n) (ofSigned 32 v.1)
    let win := (s.f (R.COORD_CFG n) F.COORD_CFG_VGATE + 1) * 2000
    let r := s.coord n
    let keep := match r.edges with
      | [] => []
      | e :: t => e :: t.filter (fun x => decide (s.cyc < x.1 + win))
    let against := (s.travelDir n == 0 && decide (v.1 < 0)) || (s.travelDir n == 1 && decide (0 < v.1))
    let acc := if v.1.natAbs < s.vmin n || against then r.stallUs + 10 else r.stallUs
    let s := s.setCoord n { r with edges := keep, stallUs := acc % 1000 }
    let s := if 1000 ≤ acc then s.addF (R.COORD_STATUS n) F.COORD_STATUS_STALL_ACC 1 else s
    if s.vmax n < v.1.natAbs then s.speedErr n else s

/-- The mains unit at a tick: 1,024 × the present half-cycle rate, against its bounds. -/
def State.tickMains (s : State) : State :=
  match (s.coord 4).est2 with
  | none => s
  | some e =>
    if s.coordMode 4 ≠ 1 ∨ e = 0 then s
    else
      let v := 2 * 1024 * 200000000 / e
      let s := s.wrN (R.COORD_VEL 4) v
      if s.vmax 4 < v ∨ v < s.vmin 4 then s.speedErr 4 else s

/-! Orders. -/

/-- The power at a node (mW): the load of a rail, or what the stages deliver to a port or a pack. -/
def State.nodePower (s : State) (t : Nat) : Nat :=
  if isRail t then (s.rail t).load else ((s.stagesRunInto t).map s.stagePower).foldl (· + ·) 0

/-- An ACTIVE DELIVER or HOLD on a node whose interval has begun. -/
def State.serves (s : State) (t : Nat) (p : Slot) : Bool :=
  p.active && (p.order.op == opDeliver || p.order.op == opHold) && p.order.target == t && decide (p.tIn ≤ s.us)

/-- The slots of a node's serving orders, in order of acceptance. -/
def State.serving (s : State) (t : Nat) : List (Nat × Slot) := s.planOrder.filter (fun x => s.serves t x.2)

def capSum (l : List (Nat × Slot)) : Nat := l.foldl (fun a x => a + x.2.order.cap) 0

/-- The power that a stage takes from its sending node, mW. -/
def State.stageInput (s : State) (n : Nat) : Nat := natOf ((s.stage n).iIn * (s.stage n).vSend / 1000)

/-- A stage runs in a direction. -/
def State.runsHop (s : State) (h : Hop) : Bool := s.stageRuns h.stage && s.stageDir h.stage == h.rev

/-- What a pack gives toward a node, mW: what its own stages into the node take from it for certain, and what its stages at the far end of
the longer paths to the node take besides, of which a part may go elsewhere. -/
def State.packPower (s : State) (i t : Nat) : Nat × Nat :=
  let qs := (s.paths t false).filter (fun q => farNode q == 8 + i && q.all s.runsHop)
  let ends := fun (l : List (List Hop)) => (l.filterMap List.getLast?).map (·.stage)
  let near := (ends (qs.filter (fun q => q.length == 1))).eraseDups
  let far := ((ends (qs.filter (fun q => q.length != 1))).eraseDups).filter (fun n => !near.contains n)
  let sum := fun (l : List Nat) => (l.map s.stageInput).foldl (· + ·) 0
  let passes := isRail t && !(s.stagesOutOf t).all (fun n => !s.stageRuns n)
  (if passes then 0 else sum near, if passes then sum near + sum far else sum far)

/-- What an order draws in a tick: its own power and, per pack, the energy that falls from its claims (R88); what part of a pack's power is
this order's is open where several orders share the node or the path leads on (log 1). -/
def State.drawTick (s : State) (k mw : Nat) (whole : Bool) : State :=
  s.withSlot k fun p s =>
    let packs := [0, 1, 2, 3].foldl (fun (a : List Nat × State) i =>
      let pw := a.2.packPower i p.order.target
      let lo := if whole then pw.1 else 0
      let hi := pw.1 + pw.2
      if lo == hi then (a.1 ++ [lo], a.2)
      else
        let v := a.2.takeFree 32
        (a.1 ++ [lo + v.1 % (hi - lo + 1)], v.2)) ([], s)
    let nj := [0, 1, 2, 3].map (fun i => p.fromNj.getD i 0 + packs.1.getD i 0 * 10)
    packs.2.setSlot k { p with
      nj := p.nj + mw * 10
      fromNj := nj.map (· % 1000000)
      res := [0, 1, 2, 3].map (fun i => p.res.getD i 0 - nj.getD i 0 / 1000000) }

/-- The energy of a tick is divided among the serving orders of a node within their caps; where there are several, how is open
(log 1). -/
def State.divide (s : State) (whole : Bool) : Nat → List (Nat × Slot) → State
  | _, [] => s
  | left, (k, p) :: t =>
    let lo := left - capSum t
    let hi := min p.order.cap left
    let v := s.takeFree 64
    let x := if hi ≤ lo then hi else lo + v.1 % (hi - lo + 1)
    ((if hi ≤ lo then s else v.2).drawTick k x whole).divide whole (left - x) t

/-- The ACTIVE CHARGE_BY orders on a pack, which draw on the packs of their masks (R88, R162). -/
def State.drawCharge (s : State) (t : Nat) : State :=
  let l := s.planOrder.filter (fun x => x.2.active && x.2.order.op == opChargeBy && x.2.order.target == t)
  s.each (l.map (·.1)) (fun k s => s.drawTick k 0 (l.length == 1))

def State.drawNode (s : State) (t : Nat) : State :=
  let l := s.serving t
  if l.isEmpty then s
  else
    let load := s.nodePower t
    s.divide (decide (l.length ≤ 1 ∧ load ≤ capSum l)) (min load (capSum l)) l

/-- The power that an ABSORB takes from its rail (R84): what the stages into its packs take there; what part of it is its own is open
where a path leads over other rails or another ABSORB shares the rail (log 1). -/
def State.absorbed (s : State) (p : Slot) : Nat × State :=
  let qs := (s.absorbPaths p).filter (fun q => q.all s.runsHop)
  let heads := fun (l : List (List Hop)) => ((l.filterMap List.head?).map (·.stage)).eraseDups
  let near := heads (qs.filter (fun q => q.length == 1))
  let far := (heads (qs.filter (fun q => q.length != 1))).filter (fun n => !near.contains n)
  let sum := fun (l : List Nat) => (l.map s.stageInput).foldl (· + ·) 0
  let alone := (s.plan.filter (fun x => x.2.active && x.2.order.op == opAbsorb && x.2.order.target == p.order.target)).length ≤ 1
  let lo := if alone then min p.order.cap (sum near) else 0
  let hi := min p.order.cap (sum near + sum far)
  if lo == hi then (lo, s)
  else
    let v := s.takeFree 32
    (lo + v.1 % (hi - lo + 1), v.2)

/-- Energy, peak power and the voltage count of an active order (R85, R96, R103). -/
def State.accountSlot (s : State) (k : Nat) : State :=
  s.withSlot k fun p s =>
    if !p.active then s
    else
      let o := p.order
      let ab := if o.op = opAbsorb then s.absorbed p else (0, s)
      let s := ab.2
      let pw := if o.op = opAbsorb then ab.1 else if o.op = opReserve then 0 else s.nodePower o.target
      let v := s.nodeMv o.target
      let caps := capSum (s.serving o.target)
      let outside := (o.op == opDeliver || o.op == opHold) && decide (o.cls < 2) && decide (p.tIn ≤ s.us)
        && decide (v < o.vMin ∨ o.vMax < v) && decide (pw ≤ caps)
      s.setSlot k { p with
        nj := p.nj + ab.1 * 10
        peak := max p.peak pw
        bad := if outside then p.bad + 1 else 0 }

/-- The held interval of an order (R63): what is recomputed is intersected with it, and it is fixed once entered or left. A unit
without usable bounds, and a STALE mains unit, keep it. -/
def State.holdSlot (s : State) (k : Nat) : State :=
  s.withSlot k fun p s =>
    let o := p.order
    let n := o.unit
    let usable := if n < 4 then s.vmin n != 0 && s.vmax n != 0 && s.travelDir n != 3
      else if n = 4 then !s.mainsStale && s.vmin 4 != 0 && s.vmax 4 != 0 else true
    if usable then
      match s.project n o.wStart o.wEnd with
      | some (a, b) =>
        s.setSlot k { p with tIn := if p.entered then p.tIn else max p.tIn a, tOut := if p.exited then p.tOut else min p.tOut b }
      | none => s
    else s

/-- The window of an order is entered: t_in is fixed and the order becomes active (R63, R83, R104). -/
def State.enterSlot (s : State) (k : Nat) : State :=
  s.withSlot k fun p s =>
    if p.active || !s.windowOpen p then s
    else
      let o := p.order
      let s := s.setSlot k { p with active := true, entered := true, tIn := max p.tIn s.us, started := s.us,
                                    eStart := if o.op = opChargeBy then s.eRem (o.target - 8) else 0 }
      if o.repStart then s.complete p.src (orderCpl 0x02 o.op k false o.tag 0 0 s.now48 0 0) false else s

/-- The orders at a tick. -/
def State.tickOrders (s : State) : State :=
  let s := s.each ((List.range 8) ++ [12, 13, 14]) (fun t s => s.drawNode t)
  let s := s.each [8, 9, 10, 11] (fun t s => s.drawCharge t)
  let keys := s.planOrder.map (·.1)
  let s := s.each keys (fun k s => ((s.accountSlot k).holdSlot k).enterSlot k)
  let s := s.each keys (fun k s => s.endClosed k)
  s.showClaims

/-- The orders that target a port which has dropped its contract end (R252 step 5). -/
def State.dropPorts (s : State) : State :=
  s.each [0, 1, 2] (fun n s =>
    if (s.port n).dropTick then
      let s := s.setPort n { s.port n with dropTick := false }
      (s.planOrder.filter (fun x => x.2.order.target == 12 + n)).foldl (fun s x => s.breachSlot x.1 x.2 0x0002) s
    else s)

/-- An entry of an unknown opcode at the front of a source has no command of its own: it is rejected here (R81). -/
def State.rejectUnknown (s : State) : State :=
  s.each ([32, 33] ++ List.range 32) (fun k s =>
    match (s.srcRt k).waiting with
    | e :: _ =>
      if (parseOrder e).known || (parseOrder e).chain || !s.orderSource k then s else s.submit k e
    | [] => s)

/-! Dispatch. -/

/-- The sources of a rail carry load (R161): not while it is in PACKS or in hand-over, nor while a transfer back still ramps. -/
def State.sourcesCarry (s : State) (r : Nat) : Bool :=
  let st := s.railSupply r
  st != supPacks && st != supHandover && (st != supTransfer || decide ((s.rail r).load ≤ (s.xfer r).ramp))

/-- A source has room below its limit on a rail (R148): none of its stages there stands at loop C or D (R155), and it is no port between
Accept and PS_RDY (R241). -/
def State.supRoom (s : State) (r x : Nat) : Bool :=
  decide ((s.supply x).iAvg < s.supLimit x) && !(decide (3 ≤ x) && (s.port (x - 3)).moving)
    && (s.supStages x r).all (fun n => !s.stageRuns n || decide (s.f (R.STAGE_STATUS n) F.STAGE_STATUS_SEL < 2))

def State.sourceRoom (s : State) (r : Nat) : Bool := s.sourcesCarry r && (s.onlineOn r).any (s.supRoom r)

/-- A rail is fed from inputs and ports alone, itself or over other rails, and they have room (R165). -/
def State.fedRoom (s : State) : Nat → Nat → Bool
  | 0, _ => false
  | fuel + 1, r =>
    s.f (R.SUPPLY_STATUS r) F.SUPPLY_STATUS_PACKS == 0
      && (s.sourceRoom r || (s.stagesRunInto r).any (fun n =>
        s.stageRuns n && isRail (s.stSend n (s.stageDir n)) && s.fedRoom fuel (s.stSend n (s.stageDir n))))

/-- A Class C CHARGE_BY may draw through a stage (R88, R162). -/
def State.classCCharge (s : State) (n : Nat) (rev : Bool) : Bool :=
  s.plan.any (fun p =>
    let o := p.2.order
    p.2.active && o.op == opChargeBy && o.cls == 2 && o.target == s.stRecv n rev
      && (s.paths o.target false).any (fun q => (maskNodes o.mask).contains (farNode q) && q.any (fun h => h.stage == n && h.rev == rev)))

/-- A stage may charge its pack beyond its allocation: background charge, from an input, a port or a rail fed from them, after what else
is Class C there (R165), or a Class C CHARGE_BY. -/
def State.mayCharge (s : State) (n : Nat) (rev : Bool) : Bool :=
  let a := s.stSend n rev
  decide (0 < s.iSet (s.stRecv n rev - 8)) &&
    (s.classCCharge n rev || (match supOfNode a with
      | some x => s.supState x == supOnline && decide ((s.supply x).iAvg < s.supLimit x)
      | none => isRail a && s.fedRoom 3 a))

/-- The direction that dispatch wants of a stage (R98): that of its allocation; without one, into a pack that may charge (R165) or that an
ABSORB fills (R84), else out of a pack that stands by; every other stage runs forward. -/
def State.wantDir (s : State) (n : Nat) : Bool :=
  let into := fun rev => isPack (s.stRecv n rev) && (rev == false || s.stRevEn n) && s.mayCharge n rev
  let want :=
    if 0 < s.allocOf n false then false
    else if 0 < s.allocOf n true then true
    else if (s.absorbOn n false).isSome then false
    else if (s.absorbOn n true).isSome then true
    else if into false then false
    else if into true then true
    else
      match s.standHops.find? (fun h => h.stage == n) with
      | some h => h.rev
      | none => isPack (s.stTo n)
  want && s.stRevEn n

/-- Whether a stage may carry more than its allocation: Class C and unordered load (R84, R88, R145, R148, R162, R165). -/
def State.maySpare (s : State) (n : Nat) (rev : Bool) : Bool :=
  let a := s.stSend n rev
  let b := s.stRecv n rev
  let own := (!isPack a || decide (0 < s.eFree (a - 8))) && (!isPort b || (s.port (b - 12)).refMv != 0)
  if isPack b then own && ((s.absorbOn n rev).isSome || s.mayCharge n rev)
  else if isPack a then own && !(isRail b && s.sourceRoom b)
  else
    match supOfNode a with
    | some x => own && s.supState x == supOnline && decide (0 < s.supLimit x)
        && (!isRail b || ((s.onlineOn b).takeWhile (fun y => y != x)).all (fun y => !s.supRoom b y))
    | none => own

/-- The ceiling of a stage at a tick (R98): its allocation and spare headroom, within the live headroom. A source's stage into a rail gets
all of it, in the order of R147 (R148); how much another stage gets is open (log 1), but for a port as Source, which is fed (R162, R228).
Less while its rail is in PACKS or transfers back (R161), from a port between Accept and PS_RDY (R241), and none from a source without a
limit (R145). -/
def State.ceilOf (s : State) (n : Nat) (rev : Bool) : Nat × State :=
  let h := s.headroom n
  let alloc := min h (s.allocOf n rev)
  let spare := s.maySpare n rev && decide (alloc < h)
  match supOfNode (s.stSend n rev) with
  | some x =>
    let r := s.stRecv n rev
    let v := s.takeFree 32
    let open_ := spare && !isRail r
    let c := if !spare then alloc else if isRail r then h else alloc + v.1 % (h - alloc + 1)
    let s := if open_ then v.2 else s
    let c := if s.supState x ≠ supOnline ∨ s.supLimit x = 0 then 0
      else if isRail r then
        (if s.railSupply r = supPacks ∨ s.railSupply r = supHandover then 0
         else if s.railSupply r = supTransfer then min c (s.xfer r).ramp else c)
      else c
    (if 3 ≤ x ∧ (s.port (x - 3)).moving then min c (2500 / max 1 (s.stagesOutOf (supNode x)).length) else c, s)
  | none =>
    if spare then
      let v := s.takeFree 32
      (if isPort (s.stRecv n rev) then alloc + 1 + v.1 % (h - alloc) else alloc + v.1 % (h - alloc + 1), v.2)
    else (alloc, s)

/-- A stage on the path of a pack that stands by for a rail in hand-over. -/
def State.inHand (s : State) (n : Nat) : Bool :=
  (List.range 8).any (fun r => s.railSupply r == supHandover
    && [0, 1, 2, 3].any (fun i => s.standsBy i r && (s.packStage i r) == some n))

/-- A stage gets its direction and ceiling; the stages of a rail in hand-over keep theirs (R156, R157). -/
def State.dispatchStage (s : State) (n : Nat) : State :=
  let rev := s.wantDir n
  let r := s.stRecv n rev
  if !s.stUsed n || s.inHand n then s
  else if isRail r && s.railSupply r == supHandover then s
  else
    let c := s.ceilOf n rev
    let s := c.2.setStage n { c.2.stage n with dirWant := rev }
    s.wrN (R.STAGE_CEIL n) c.1

/-- PERMIT of a pack's SERIES switch (R152): by the directions of the pack's used stages. -/
def State.permitOf (s : State) (i : Nat) : Nat :=
  let l := (List.range 8).filter (fun n => s.stUsed n && (s.stFrom n == 8 + i || s.stTo n == 8 + i))
  if l.isEmpty then 0
  else if l.any (fun n => s.stageState n == stReversing) then 3
  else
    let out := fun n => s.stSend n (s.stageDir n) == 8 + i
    if l.all out then 1 else if l.all (fun n => !out n) then 2 else 3

/-- Dispatch wants a pack connected: it stands by for a rail, or one of its stages has a ceiling or runs. -/
def State.packWanted (s : State) (i : Nat) : Bool :=
  (List.range 8).any (fun r => s.standsBy i r)
    || (List.range 8).any (fun n => s.stUsed n && (s.stFrom n == 8 + i || s.stTo n == 8 + i)
        && (s.stageRuns n || decide (0 < s.stageCeil n)))

/-- The SERIES switch of a supply in service, or of a port as Source, closes again once nothing keeps it open (R25). -/
def State.dispatchSupply (s : State) (x : Nat) : State :=
  match s.seriesOf (supNode x) with
  | none => s
  | some w =>
    let serves := s.supState x == supOnline || (decide (3 ≤ x) && (s.port (x - 3)).refMv != 0 && decide ((s.port (x - 3)).srcStep ≠ 3))
    if serves && (s.psw w).want && !(s.psw w).forced && !s.pswClosed w && s.mayClose w then s.closeSwitch w else s

def State.dispatchPack (s : State) (i : Nat) : State :=
  match s.seriesOf (8 + i) with
  | none => s
  | some w =>
    let want := s.packWanted i && !s.sys.longPress
    let s := s.setPsw w { s.psw w with want := want }
    let s := if want then (if s.mayClose w && !(s.psw w).forced then s.closeSwitch w else s)
      else if (s.psw w).forced || s.safeOn then s else s.openSwitch w
    s.setF (R.PSW_STATUS w) F.PSW_STATUS_PERMIT (if s.pswClosed w then s.permitOf i else 0)

/-- What SUPPLY_n_STATUS reads (R155, R161): the source and transfer state, and the packs that deliver. A rail whose packs only stand
by, with no current, is not yet in PACKS. -/
def State.tickSupply (s : State) (r : Nat) : State :=
  let packs := [0, 1, 2, 3].filter (fun i =>
    match s.packHop i r with
    | some h => s.runsHop h && decide (0 < (s.stage h.stage).iOut)
    | none => false)
  let s := s.setF (R.SUPPLY_STATUS r) F.SUPPLY_STATUS_PACKS (packs.foldl (fun a i => a + 2 ^ i) 0)
  let st := s.railSupply r
  let sourced := (s.onlineOn r).any (fun x => (s.stagesOutOf (supNode x)).any (fun n =>
    s.stRecv n (s.stageDir n) == r && s.stageRuns n))
  let packed := [0, 1, 2, 3].any (fun i => s.packRunsIn i r)
  if st = supHandover then
    let v := s.f (R.RAIL_VFB r) F.RAIL_VFB_V
    let ref := s.railRef r
    if 21 * ref < 20 * v ∨ 20 * v < 19 * ref then
      s.setXfer r { s.xfer r with low := some (match (s.xfer r).low with | some l => min l v | none => v) }
    else s
  else if st = supTransfer then
    s.setXfer r { s.xfer r with ramp := (s.xfer r).ramp + 10 * max 1 (s.f R.XFER_RAMP F.XFER_RAMP_RAMP) }
  else if st = supPacks then (if sourced || packed then s else s.setF (R.SUPPLY_STATUS r) F.SUPPLY_STATUS_STATE supUnserved)
  else s.setF (R.SUPPLY_STATUS r) F.SUPPLY_STATUS_STATE
    (if sourced then s.sourcedState r else if packs.isEmpty then supUnserved else supPacks)

/-- Ceilings, directions, ranks and switches at a tick in RUN (R25, R98, R152, R153); in a hand-over the standing-by packs are filled
(R157). -/
def State.dispatchRun (s : State) : State :=
  let s := s.each (List.range 8) (fun n s => s.dispatchStage n)
  let s := s.each (List.range 8) (fun r s =>
    if s.railSupply r = supHandover then s.fillHand r
    else s.rankRail r (fun _ n => s.stageCeil n))
  let s := s.each (List.range 6) (fun x s => s.dispatchSupply x)
  s.each [0, 1, 2, 3] (fun i s => s.dispatchPack i)

/-- Dispatch at a tick. -/
def State.dispatch (s : State) : State :=
  if s.safeOn || s.anySafe || !s.fabricServes then s
  else
    let s := if s.inRun then s.dispatchRun else s
    let s := s.each (List.range 8) (fun r s => if s.declared r then s.moveRef r else s)
    let s := s.each (List.range 8) (fun n s => s.tickStage n)
    let s := s.each (List.range 8) (fun r s => s.dropPgood r)
    s.each (List.range 8) (fun r s => s.tickSupply r)

/-- The tick of R29. -/
def State.tickAll (s : State) (o : TickObs) : State :=
  let s := { s with tick := s.tick + 1, trim := (List.range 8).map (fun n => s.f (R.MODEL_STAGE_EFF_TRIM n) F.MODEL_STAGE_EFF_TRIM_TRIM)
                    releasedA := [0, 0, 0, 0], releasedB := [0, 0, 0, 0] }
  let s := (((((s.takeBounds).applyInputs).observe o).model o).showClaims).takeSnap
  let s := (s.each [0, 1, 2, 3] (fun n s => s.tickTravel n)).tickMains
  let s := (((s.dropPorts).tickOrders).rejectUnknown).each (List.range 32) (fun p s => s.rejectEntry p)
  (((((s.endCauses).tickDebug).chargeTick).releaseSupplies).dispatch).each [0, 1, 2] (fun n s => s.tickPort n)

def execDrillTick (o : TickObs) (s : State) : Host.Outcome State Fault Refusal :=
  s.act fun s => if s.sys.starting then s else (s.tickAll o).noteEvent 1 0

end Sys2Proof.Machine
end

