-- ==== Sys2Proof/Machine/Bus.lean ====
section
/-! DEFINITION. Access to the set-up window (spec/00_scope.md R10–R15, spec/16_register_index.md R436–R439) and the SPI target
(spec/09_host_rings.md R264–R268): what every register reads and what every write does, whichever path it comes by. -/

namespace Sys2Proof.Machine

/-! What registers read that follow the state. -/

/-- HRW_ID_k_STAT. -/
def State.hrwStat (s : State) (id : Nat) : Nat :=
  (List.range 16).foldl (fun a i =>
    let st := (s.hrwInst id i).st
    a + (if st = .active ∨ st = .quiet ∨ st = .safe then 2 ^ i else 0) + (if st = .locked then 2 ^ (16 + i) else 0)) 0

/-- HRW_INST of the selected instance; the rounding of QUIET_LEFT is open (log 1). -/
def State.hrwShown (s : State) : Word × State :=
  let h := s.hrwInst (s.f R.HRW_SEL F.HRW_SEL_ID) (s.f R.HRW_SEL F.HRW_SEL_INST)
  let q := if h.st = .quiet ∧ s.cyc < h.quietAt then s.quot ((h.quietAt - s.cyc : Nat) : Int) 2000000 else (0, s)
  (BitVec.ofNat 32 (h.st.code + 16 * min 15 (s.recentRecov h).length + 256 * h.occur + 65536 * natOf q.1), q.2)

/-- WDT_STATUS with the time that is left of the window. -/
def State.wdtShown (s : State) : Word × State :=
  let end_ := s.sys.wdtAt + s.wdtWin * 200000
  let q := if s.cyc < end_ ∧ ¬ s.sys.grace then s.quot ((end_ - s.cyc : Nat) : Int) 200000 else (0, s)
  (putBits (s.rd R.WDT_STATUS) F.WDT_STATUS_LEFT_MS.lo F.WDT_STATUS_LEFT_MS.w (min 4095 (natOf q.1)), q.2)

/-- The whole seconds that are left of a trial: all of them until RUN-ready (R338). -/
def State.trialLeft (s : State) : Int × State :=
  if s.fw.state ≠ 4 then (0, s)
  else if !s.runReady then (s.trialSec, s)
  else s.quot ((s.fw.trialUs + 1000000 * s.trialSec - s.us : Nat) : Int) 1000000

/-- FWU_PROGRESS: while a build runs, how far it has come is open (log 1). -/
def State.progressShown (s : State) : Word × State :=
  let w := s.rd R.FWU_PROGRESS
  if s.fw.state ≠ 2 then (w, s)
  else
    let v := s.takeFree 6
    (putBits w F.FWU_PROGRESS_SECTOR.lo F.FWU_PROGRESS_SECTOR.w (s.fw.sector + v.1 % (s.buildSectors - s.fw.sector + 1)), v.2)

/-- CFL_STATUS: while a build runs, whether an operation is under way, and in which sector, is open (log 1). -/
def State.flashShown (s : State) : Word × State :=
  let w := s.rd R.CFL_STATUS
  if s.fw.state ≠ 2 then (w, s)
  else
    let a := s.takeFree 1
    if a.1 = 0 then (w, a.2)
    else
      let b := a.2.takeFree 6
      (putBits (putBits (putBits w 0 1 1) 1 6 b.1) 7 1 (boolNat (!s.activeIs1)), b.2)

/-- GLN_STATUS: the load of the last 10 ms interval. -/
def State.glnShown (s : State) : Word × State :=
  let t := s.glnRoll
  let q := t.quot (t.sys.glnPrev : Int) 10000
  (putBits (t.rd R.GLN_GLB_STATUS) 0 8 (sat 8 (natOf q.1)), q.2)

/-- CAN_n_STATUS: the error counts of a port that is on follow the traffic on its bus, which no command tells, and are open; a count of 128
or more makes it error passive (ISO 11898-1; log 29). -/
def State.canShown (s : State) (n : Nat) : Word × State :=
  let w := s.rd (R.CAN_STATUS n)
  if !s.flag (R.CAN_CFG n) F.CAN_CFG_EN then (w, s)
  else
    let v := s.takeFree 16
    let w := putBits w 0 16 v.1
    (if s.f (R.CAN_STATUS n) F.CAN_STATUS_STATE = 2 then w
      else putBits w 16 2 (boolNat (decide (128 ≤ v.1 % 256 ∨ 128 ≤ v.1 / 256))), v.2)

/-- What a register reads. -/
def State.view (s : State) (off : Nat) : Word × State :=
  let w := s.rd off
  let set := fun (fld : Fld) (v : Nat) => (putBits w fld.lo fld.w v, s)
  if off < 0x2000 then
    (if off = R.CPLQ_STATUS then set F.CPLQ_STATUS_USED s.cplq.length else (w, s))
  else if off < 0x2800 then
    if off = R.COORD_POS_LO 4 ∨ off = R.COORD_POS_LO 5 then (BitVec.ofNat 32 (s.coordPos ((off - 0x2000) / 256)), s)
    else if off = R.COORD_POS_HI 4 ∨ off = R.COORD_POS_HI 5 then (BitVec.ofNat 32 (s.coordPos ((off - 0x2000) / 256) / 2 ^ 32), s)
    else if off = R.COORD_VEL 5 then (1000000#32, s)
    else if off = R.COORD_TIME_US_LO then (BitVec.ofNat 32 s.us, s)
    else if off = R.COORD_TIME_US_HI then (BitVec.ofNat 32 (s.us / 2 ^ 32), s)
    else (w, s)
  else if off < 0x3000 then
    (if off < 0x2A00 ∧ off % 32 = 4 then (BitVec.ofNat 32 (s.gptCnt ((off - 0x2800) / 32)), s) else (w, s))
  else if off < 0x4000 then
    (match (List.range 8).find? (fun n => off == R.STAGE_PWM n) with
     | some n => (match (s.stage n).perNext with | some per => set F.STAGE_PWM_PER per | none => (w, s))
     | none => (w, s))
  else if off < 0x7000 then (w, s)
  else if off < 0x8000 then
    if 0x7400 ≤ off ∧ off < 0x7700 then (BitVec.ofNat 32 (s.hrwStat ((off - 0x7400) / 4)), s)
    else if off = R.HRW_STATUS then
      (putBits (putBits w 0 1 (boolNat (s.safeOn || s.anySafe))) 1 1 (boolNat s.pinFaultN), s)
    else if off = R.HRW_INST then s.hrwShown
    else if off = R.WDT_STATUS then s.wdtShown
    else (w, s)
  else if off < 0x9000 then
    if off = R.CFL_STATUS then s.flashShown
    else if off = R.NVM_REC_INFO then (s.recInfo.1, s)
    else if off = R.NVM_REC_SEQ then (s.recInfo.2, s)
    else if off = R.BB_STATUS then set F.BB_STATUS_QUEUED s.bb.queue.length
    else (w, s)
  else if off = R.GLN_GLB_STATUS then s.glnShown
  else if off = R.FWU_PROGRESS then s.progressShown
  else if off = R.FWU_TRIAL_LEFT then
    (let q := s.trialLeft
     (BitVec.ofNat 32 (natOf q.1), q.2))
  else if off = R.CAN_STATUS 0 then s.canShown 0
  else if off = R.CAN_STATUS 1 then s.canShown 1
  else if 0xB040 ≤ off ∧ off < 0xB080 ∧ off % 4 = 0 then (Config.attPub ((off - 0xB040) / 4), s)
  else (w, s)

/-! Split values (R12–R15, R76). -/

/-- A low word of a chained pair of timers that acts as a _LO word: CNT and CAP of the even timer. -/
def State.gptLo (s : State) (off : Nat) : Bool :=
  decide (0x2800 ≤ off ∧ off < 0x2A00) && off / 32 % 2 == 0 && (off % 32 == 4 || off % 32 == 0x14)
    && s.gptChained ((off - 0x2800) / 32)

/-- The _HI word of a _LO word, and the _LO word of a _HI word. -/
def State.hiWord (s : State) (off : Nat) : Option Nat := if s.gptLo off then some (off + 32) else wideHi off
def State.loWord (s : State) (off : Nat) : Option Nat := if 32 ≤ off && s.gptLo (off - 32) then some (off - 32) else wideLo off

/-- The place of a path's latch or staging register of a word. -/
def pathKey (p : Path) (off : Nat) : Nat := pathNo p * 2 ^ 18 + off

/-! Reads (R10, R12, R13, R64, R187, R438). -/

/-- What a read clears or sets: RC fields, which keep what an event of the same cycle adds (R10), CAP_FULL, and SEEN of a charge
fault. -/
def State.readEffects (s : State) (off : Nat) : State :=
  let m := accMask off [.rc]
  let s := if m = 0#32 then s
    else (s.noteOld off).wr off ((s.rd off &&& ~~~m) ||| (s.cycleNew off &&& m))
  match (List.range 6).find? (fun n => off == R.COORD_CAP_LO n) with
  | some n => s.setF (R.COORD_STATUS n) F.COORD_STATUS_CAP_FULL 0
  | none =>
    match (List.range 16).find? (fun m => off == R.GPT_CAP m) with
    | some m => s.setF (R.GPT_STATUS m) F.GPT_STATUS_CAP_FULL 0
    | none =>
      match [0, 1, 2, 3].find? (fun i => off == R.PACK_CHG_FAULT i) with
      | some _ => s.setF off F.PACK_CHG_FAULT_SEEN 1
      | none => s

/-- The MSI-X table and the pending bits as BAR0 reads them (R262). -/
def State.msixRead (s : State) (off : Nat) : Word :=
  if off < 0x1400 + 33 * 16 then s.msixWord ((off - 0x1400) / 4)
  else if off = 0x1800 ∨ off = 0x1804 then s.pbaWord ((off - 0x1800) / 4) else 0#32

/-- One dword of the set-up window is read on a path. -/
def State.busRead (s : State) (p : Path) (off : Nat) : Word × State :=
  if 0x20000 ≤ off then (0#32, s)
  else if 0x1400 ≤ off ∧ off < 0x2000 then (if p = .pcie then s.msixRead off else 0#32, s)
  else
    match s.loWord off with
    | some _ => (tabGet latchDefault s.hiLatch (pathKey p off), s.readEffects off)
    | none =>
      let v := s.view off
      match s.hiWord off with
      | none =>
        let m := accMask off [.rc]
        ((v.1 &&& ~~~m) ||| (s.cycleOld off &&& m), v.2.readEffects off)
      | some h =>
        let w := v.2.view h
        (v.1, ({ w.2 with hiLatch := tabSet latchDefault w.2.hiLatch (pathKey p h) w.1 }).readEffects off)

/-! Writes (R10, R11, R15, R437, R439). -/

/-- A write by the access types of the fields: RW fields take the value, HW fields take it from Headland alone, W1C flags clear
unless hardware has set them in the same cycle (R10). -/
def State.plainWrite (s : State) (p : Path) (off : Nat) (v : Word) : State :=
  let s := s.hwDenied p off v
  let m := accMask off (if p = .headland then [.rw, .hw] else [.rw])
  let c := accMask off [.w1c] &&& v &&& ~~~s.cycleNew off
  s.wr off (((s.rd off &&& ~~~m) ||| (v &&& m)) &&& ~~~c)

/-- The register has HW fields only for Headland to write. -/
def hwClosed (p : Path) (off : Nat) : Bool := p != .headland && accMask off [.hw] != 0#32

/-- A _LO word of a writable value is staged on its path. -/
def State.stageLo (s : State) (p : Path) (off : Nat) (v : Word) : State :=
  if accMask off [.rw, .hw] = 0#32 then s
  else
    let s := s.hwDenied p off v
    if hwClosed p off then s else { s with loStage := tabSet latchDefault s.loStage (pathKey p off) v }

/-- The index of a register in its family. -/
def famIdx (n : Nat) (f : Nat → Nat) (off : Nat) : Option Nat := (List.range n).find? (fun k => off == f k)

/-- Do `g` for the instance that an offset names, else `els`. -/
def onReg (n : Nat) (f : Nat → Nat) (off : Nat) (g : Nat → State) (els : State) : State :=
  match famIdx n f off with
  | some k => g k
  | none => els

/-- A _HI word commits the whole value. -/
def State.writeWide (s : State) (p : Path) (lo hi : Nat) (v : Word) : State :=
  let x := s.staged p lo + 2 ^ 32 * v.toNat
  onReg 32 R.RING_SQ_BASE_LO lo (fun q => s.writeRingBase q false x) <|
  onReg 32 R.RING_CQ_BASE_LO lo (fun q => s.writeRingBase q true x) <|
  onReg 6 R.COORD_POS_LO lo (fun n => if n < 4 then s.writePos n x else s) <|
  onReg 6 R.COORD_HOME_LO lo (fun n => s.writeHome n x) <|
  onReg 24 (fun k => R.COORD_CMP_VAL_LO (k / 4) (k % 4)) lo (fun k => s.writeCmp (k / 4) (k % 4) false x) <|
  onReg 24 (fun k => R.COORD_CMP_INT_LO (k / 4) (k % 4)) lo (fun k => s.writeCmp (k / 4) (k % 4) true x) <|
  if accMask lo [.rw, .hw] = 0#32 then s
  else
    let s := s.hwDenied p hi v
    if hwClosed p hi then s
    else
      let s := (s.loadReg lo (BitVec.ofNat 32 (s.staged p lo))).loadReg hi v
      onReg 4 R.PACK_EDESIGN_LO lo (fun i => s.showEFull i) s

/-- EVENT_CFG: PAIR is written only while the pair that it names is DISABLED; the records that wait go to the new pair (log 11). -/
def State.writeEventCfg (s : State) (p : Path) (v : Word) : State :=
  let old := s.eventPair
  let t := s.plainWrite p R.EVENT_CFG v
  if s.pairState old = ringDisabled then
    { t with cplq := t.cplq.map (fun h => if h.event then { h with src := t.eventPair } else h) }
  else t.setF R.EVENT_CFG F.EVENT_CFG_PAIR old

/-- A W1C of STALL or SPEED_ERR ends the cause of its fault (R60, R62). -/
def State.writeCoordStatus (s : State) (p : Path) (n : Nat) (v : Word) : State :=
  let c := R.COORD_STATUS n
  let a := s.flag c F.COORD_STATUS_STALL
  let b := s.flag c F.COORD_STATUS_SPEED_ERR
  let s := s.plainWrite p c v
  let s := if a && !s.flag c F.COORD_STATUS_STALL then s.causeGone 0x83 n else s
  if b && !s.flag c F.COORD_STATUS_SPEED_ERR then s.causeGone 0x85 n else s

/-- STAGE_n_PWM: CTRL_DIV at once, PER as a preload (R111). -/
def State.writePwm (s : State) (n : Nat) (v : Word) : State :=
  let s := s.setF (R.STAGE_PWM n) F.STAGE_PWM_CTRL_DIV (getBits v 16 4)
  ((s.setStage n { s.stage n with perNext := some (getBits v 0 16) }).takePer n).showLoad

/-- LOOP_APPLY (R139). -/
def State.writeStageCtrl (s : State) (n : Nat) (v : Word) : State :=
  if getBits v 0 1 = 0 then s
  else if s.stageRuns n then s.setStage n { s.stage n with applyPend := true } else s.applyShadow n

/-- PACK_x_NTC_CFG (R170): a zero in BETA or RNOM is ignored, and that field keeps its value. -/
def State.writeNtcCfg (s : State) (i : Nat) (v : Word) : State :=
  let c := R.PACK_NTC_CFG i
  let beta := getBits v 0 16
  let rnom := getBits v 16 16
  let s := if beta = 0 then s else s.setF c F.PACK_NTC_CFG_BETA beta
  if rnom = 0 then s else s.setF c F.PACK_NTC_CFG_RNOM rnom

/-- INPUT_n_CFG: EN cleared is a loss (R142); EN set lets the input qualify. -/
def State.writeInputCfg (s : State) (p : Path) (n : Nat) (v : Word) : State :=
  let c := R.INPUT_CFG n
  let was := s.flag c F.INPUT_CFG_EN
  let s := s.plainWrite p c v
  let now := s.flag c F.INPUT_CFG_EN
  if was && !now then s.disableInput n else if now && !was then s.startQualify n else s

/-- The tracker's range: a valid range ends RANGE_ERR and starts the tracker anew (R149). -/
def State.writeMppt (s : State) (p : Path) (off : Nat) (v : Word) : State :=
  let ran := s.mpptOn && !s.flag R.INPUT_2_MPPT_STATUS F.INPUT_2_MPPT_STATUS_RANGE_ERR
  let s := s.plainWrite p off v
  if s.mpptOn && !ran && decide (s.mpptMin < s.mpptMax) then s.mpptStart true else s

/-- CAN_n_CFG: with AUTO_BO = 0 before it, a write with EN = 1 ends a bus-off (R220). -/
def State.writeCanCfg (s : State) (p : Path) (n : Nat) (v : Word) : State :=
  let auto := s.flag (R.CAN_CFG n) F.CAN_CFG_AUTO_BO
  let s := s.plainWrite p (R.CAN_CFG n) v
  if !auto && s.flag (R.CAN_CFG n) F.CAN_CFG_EN && s.f (R.CAN_STATUS n) F.CAN_STATUS_STATE == 2 then s.leaveBusOff n else s

/-- DRILL_SLOT_SEL takes a snapshot of a slot of the Plan table. -/
def State.showSlot (s : State) (k : Nat) : State :=
  let put := fun (st tag left tin tout : Nat) =>
    let t := (s.wrN R.DRILL_SLOT_STATE st).wrN R.DRILL_SLOT_TAG tag
    ((t.wr64 R.DRILL_SLOT_LEFT_LO R.DRILL_SLOT_LEFT_HI left).wr64 R.DRILL_SLOT_TIN_LO R.DRILL_SLOT_TIN_HI tin).wr64
      R.DRILL_SLOT_TOUT_LO R.DRILL_SLOT_TOUT_HI tout
  match slotAt s k with
  | none => put 0 0 0 0 0
  | some x =>
    let o := x.order
    let st := (if x.active then 2 else 1) + 4 * o.cls + 16 * o.target + 256 * o.op + 65536 * domainOf x.src
      + 2 ^ 18 * (if x.src < 32 then x.src else 0)
    put st o.tag (s.slotItem k x).e (timeCoord x.tIn) (timeCoord (s.slotEnd x))

/-- PWR_CTRL.REQ: 1 IDLE, 2 FALLOW (R393). -/
def State.writePower (s : State) (v : Word) : State :=
  let q := getBits v 0 2
  if q = 1 then s.requestRest false else if q = 2 then s.requestRest true else s

/-- PORT_n_CTRL. -/
def State.writePortCtrl (s : State) (n : Nat) (v : Word) : State :=
  let s := if getBits v F.PORT_CTRL_HARD_RESET.lo 1 = 1 ∧ s.attached n then s.sendHard n else s
  if getBits v F.PORT_CTRL_ERR_RECOVER.lo 1 = 1 then s.ladderRecovery n else s

/-- FWU_CTRL. -/
def State.writeFwu (s : State) (p : Path) (v : Word) : State :=
  if getBits v F.FWU_CTRL_ACTIVATE.lo 1 = 1 then s.activateBank
  else if getBits v F.FWU_CTRL_ABANDON.lo 1 = 1 then s.abandonUpdate
  else if getBits v F.FWU_CTRL_CONFIRM.lo 1 = 1 then s.confirmTrial p
  else s

/-- A Headland action behind an HW bit 0; another master's write is refused (R11). -/
def State.headlandBit (s : State) (p : Path) (off : Nat) (v : Word) (g : State → State) : State :=
  if p = .headland then (if getBits v 0 1 = 1 then g s else s) else s.hwDenied p off v

/-- The watchdog range: Headland's alone, and its configuration only until LOCK (R11, R385, R439). -/
def State.writeWdt (s : State) (p : Path) (off : Nat) (v : Word) : State :=
  if p ≠ .headland then s.raise 0xB0 (pathNo p) (leBytes 4 off)
  else if off = R.WDT_SERVICE then s.wdtServe v
  else if (off = R.WDT_CFG ∨ off = R.WDT_TASK_EN) ∧ s.flag R.WDT_CFG F.WDT_CFG_LOCK then s
  else s.plainWrite p off v

/-- A dword of the blocks 0x00000–0x01FFF. -/
def State.writeLow (s : State) (p : Path) (off : Nat) (v : Word) : State :=
  if off = R.RST_CTRL then s.headlandBit p off v (fun s => s.afterReset rcSoftware 0)
  else if off = R.PWR_CTRL then s.writePower v
  else if off = R.SHIP_CTRL then s.headlandBit p off v (fun s => (s.requestShip).1)
  else if off = R.EVENT_CFG then s.writeEventCfg p v
  else if off = R.XLT_SYNC then (if getBits v 0 1 = 1 then s.setF R.XLT_STATUS F.XLT_STATUS_BUSY 1 else s)
  else if 0x800 ≤ off ∧ off < 0x1000 then
    let q := (off - 0x800) / 0x40
    if off = R.RING_CFG q then s.writeRingCfg q v
    else if off = R.RING_IMOD q then s.writeImod q v
    else if off = R.RING_CTRL q then (if getBits v 0 1 = 1 then s.resumePair q else s)
    else s.plainWrite p off v
  else s.plainWrite p off v

/-- A dword of the coordinate and timer block. -/
def State.writeCoordBlk (s : State) (p : Path) (off : Nat) (v : Word) : State :=
  if off < 0x2600 then
    let n := (off - 0x2000) / 0x100
    if off = R.COORD_CFG n then s.writeCoordCfg n v
    else if off = R.COORD_MOD n then (if n < 4 then s.writeMod n (getBits v 0 16) else s)
    else if off = R.COORD_STATUS n then s.writeCoordStatus p n v
    else if off = R.COORD_CTRL n then s.writeCoordCtrl n v
    else if off = R.COORD_BOUND_VMAX n ∨ off = R.COORD_BOUND_VMIN n ∨ off = R.COORD_BOUND_STALL n then
      (s.holdBounds n).plainWrite p off v
    else s.plainWrite p off v
  else if 0x2800 ≤ off ∧ off < 0x2A00 then
    let m := (off - 0x2800) / 0x20
    if off = R.GPT_CFG m then s.writeGptCfg m v
    else if off = R.GPT_RELOAD m then s.writeGptPre p m .reload v
    else if off = R.GPT_CMP m then s.writeGptPre p m .cmp v
    else if off = R.GPT_INTERVAL m then s.writeGptPre p m .interval v
    else if off = R.GPT_CTRL m then s.writeGptCtrl m v
    else s.plainWrite p off v
  else s.plainWrite p off v

/-- A dword of the stage block. -/
def State.writeStageBlk (s : State) (p : Path) (off : Nat) (v : Word) : State :=
  onReg 8 R.STAGE_PWM off (fun n => s.writePwm n v) <|
  onReg 8 R.STAGE_CTRL off (fun n => s.writeStageCtrl n v) <|
  onReg 8 R.RAIL_SP off (fun r => s.writeRailSp r v) <|
  onReg 2 R.VSEL_CFG off (fun g => s.writeVselCfg g v) <|
  onReg 16 (fun k => R.VSEL_SP (k / 8) (k % 8)) off (fun k => s.writeVselSp (k / 8) (k % 8) v) <|
  s.plainWrite p off v

/-- A dword of the pack block. -/
def State.writePackBlk (s : State) (p : Path) (off : Nat) (v : Word) : State :=
  let i := (off - 0x4000) / 0x400
  if off = R.PACK_PROFILE i then
    (if getBits v F.PACK_PROFILE_COMMIT.lo 1 = 1 then s.commitProfile i (s.profWindow i) else s)
  else if off = R.PACK_CHG_CFG i then s.writeChgCfg i v
  else if off = R.PACK_CHG_WDT i then s.kickChg i v
  else if off = R.PACK_NTC_CFG i then s.writeNtcCfg i v
  else if off = R.PACK_CHG_CTRL i then (if getBits v 0 1 = 1 then (s.clearLatch i).1 else s)
  else if off = R.PACK_LINK_CFG i then (s.hwDenied p off v).writeLinkCfg i v (p == .headland)
  else if off = R.PACK_TILTH_CTRL i then
    let s := if getBits v F.PACK_TILTH_CTRL_START.lo 1 = 1 then s.startSweep i else s
    if getBits v F.PACK_TILTH_CTRL_ABORT.lo 1 = 1 then s.endSweep i 2 false else s
  else s.plainWrite p off v

/-- A dword of the fabric, path and port blocks. -/
def State.writePathBlk (s : State) (p : Path) (off : Nat) (v : Word) : State :=
  if off = R.FAB_CTRL then s.headlandBit p off v (fun s => s.commitFabric)
  else if off = R.INPUT_2_MPPT_CFG ∨ off = R.INPUT_2_MPPT_VRANGE then s.writeMppt p off v
  else
    onReg 3 R.INPUT_CFG off (fun n => s.writeInputCfg p n v) <|
    onReg 3 R.PORT_CFG off (fun n => s.writePortCfg n v (p == .headland)) <|
    onReg 3 R.PORT_CTRL off (fun n => s.writePortCtrl n v) <|
    s.plainWrite p off v

/-- A dword of the Harrow, store, Gleaner, Drill and security blocks. -/
def State.writeHigh (s : State) (p : Path) (off : Nat) (v : Word) : State :=
  if off = R.HRW_CLEAR then (s.clearFault (getBits v 0 8) (getBits v 8 4)).1
  else if off = R.HRW_CTRL then (if getBits v 0 1 = 1 then s.raise 0xBE 1 [] else s)
  else if off = R.HRW_INJECT then s.writeInject p v
  else if off = R.WDT_CHECKIN then s.wdtCheck p v
  else if off = R.NVM_CNT_FLUSH then (if getBits v 0 1 = 1 && s.recalled then s.flushCounters else s)
  else if off = R.DRILL_SLOT_SEL then (s.plainWrite p off v).showSlot (getBits v 0 12)
  else if off = R.FWU_CTRL then s.writeFwu p v
  else
    onReg 32 R.NVM_CNT_INC off (fun k => if getBits v 0 1 = 1 ∧ 16 ≤ k then s.incCounter k else s) <|
    onReg 8 R.GLN_CFG off (fun g => s.writeGln g v) <|
    onReg 8 R.GLN_CTRL off (fun g =>
      let s := if getBits v F.GLN_CTRL_ARM.lo 1 = 1 then s.glnArm g else s
      if getBits v F.GLN_CTRL_FORCE.lo 1 = 1 then s.glnFire g else s) <|
    onReg 2 R.CAN_CFG off (fun n => s.writeCanCfg p n v) <|
    s.plainWrite p off v

/-- A dword that is no half of a split value. -/
def State.writeReg (s : State) (p : Path) (off : Nat) (v : Word) : State :=
  if off < 0x2000 then s.writeLow p off v
  else if off < 0x3000 then s.writeCoordBlk p off v
  else if off < 0x4000 then s.writeStageBlk p off v
  else if off < 0x5000 then s.writePackBlk p off v
  else if off < 0x7000 then s.writePathBlk p off v
  else if 0x10000 ≤ off then s.plainWrite p off v
  else s.writeHigh p off v

/-- One dword of the set-up window is written on a path. -/
def State.busWrite (s : State) (p : Path) (off : Nat) (v : Word) : State :=
  if 0x20000 ≤ off then s
  else if 0x1400 ≤ off ∧ off < 0x2000 then
    (if p = .pcie ∧ off < 0x1400 + 33 * 16 then s.writeMsix ((off - 0x1400) / 4) v else s)
  else if 0x7800 ≤ off ∧ off < 0x8000 then s.writeWdt p off v
  else if (s.hiWord off).isSome then s.stageLo p off v
  else
    match s.loWord off with
    | some lo => s.wideInOrder p off (fun s => s.writeWide p lo off v)
    | none => s.inOrder p off (s.view off).1 v (fun v s => s.writeReg p off v)

/-! The register commands. -/

/-- A command on an offset; the set-up window ends at 256 KiB (R256). -/
def State.onWindow (s : State) (off : Nat) (g : State → State) : Host.Outcome State Fault Refusal :=
  if off < 0x40000 then s.act g else .fault (.outsideWindow off)

/-- A read whose word goes out on its path. -/
def State.readOut (s : State) (p : Path) (off : Nat) : State :=
  let r := s.busRead p off
  r.2.emit (.readData p off r.1)

/-- A dword written through BAR0 with fewer than its four byte enables is discarded, with fault 0x92 (R258). -/
def execRegisterWrite (p : Path) (off : Nat) (v : Word) (be : Fin 16) (s : State) : Host.Outcome State Fault Refusal :=
  s.onWindow off fun s => if p = .pcie ∧ be ≠ 15 then s.raise 0x92 0 [] else s.busWrite p off v

def execRcRead (p : Path) (off : Nat) (s : State) : Host.Outcome State Fault Refusal :=
  s.onWindow off fun s => s.readOut p off

def execWideLoRead (p : Path) (off : Nat) (s : State) : Host.Outcome State Fault Refusal :=
  s.onWindow off fun s => s.readOut p off

def execWideLoWrite (p : Path) (off : Nat) (v : Word) (s : State) : Host.Outcome State Fault Refusal :=
  s.onWindow off fun s => s.busWrite p off v

def execWideHiWrite (p : Path) (off : Nat) (v : Word) (s : State) : Host.Outcome State Fault Refusal :=
  s.onWindow off fun s => s.busWrite p off v

/-- A read of a capture register clears CAP_FULL (R64). -/
def execCapRead (p : Path) (u : CapUnit) (s : State) : Host.Outcome State Fault Refusal :=
  s.act fun s =>
    match u with
    | .coord n => s.readOut p (R.COORD_CAP_LO n)
    | .gpt m => s.readOut p (R.GPT_CAP m)

/-! The SPI target (R264–R268). -/

/-- The causes of HOST_SPI_STATUS.LAST_ERR. -/
def spiAddress : Nat := 1
def spiAlign : Nat := 2
def spiPartial : Nat := 3
def spiOpcode : Nat := 4
def spiRecall : Nat := 5

/-- A frame is refused with a cause; 0 is no refusal. -/
def State.spiRefuse (s : State) (cause : Nat) : State :=
  if cause = 0 then s
  else
    let s := { s with sys := { s.sys with spiErr := true } }
    (s.setF R.HOST_SPI_STATUS F.HOST_SPI_STATUS_LAST_ERR cause).bump R.HOST_SPI_STATUS F.HOST_SPI_STATUS_ERRS 1

/-- Where an SPI address leads. -/
def spiSetup (a : Nat) : Bool := decide (a < 0x40000)
def spiWindow (a : Nat) : Bool := decide (0x80000 ≤ a ∧ a < 0x100000)

/-- The bytes of a read frame from address `a` on, unit by unit: a dword of the set-up window, or a byte; and the cause of a refusal. -/
def State.spiFetch (s : State) (a len : Nat) (acc : List Byte) (err : Nat) : Nat → List Byte × Nat × State
  | 0 => (acc, err, s)
  | fuel + 1 =>
    if len = 0 then (acc, err, s)
    else if spiSetup a then
      let n := min 4 len
      if !s.recalled then s.spiFetch (a + 4) (len - n) (acc ++ List.replicate n 0#8) spiRecall fuel
      else if 0x1400 ≤ a ∧ a < 0x2000 then s.spiFetch (a + 4) (len - n) (acc ++ List.replicate n 0#8) spiAddress fuel
      else
        let r := s.busRead .spi a
        r.2.spiFetch (a + 4) (len - n) (acc ++ (leBytes 4 r.1.toNat).take n) err fuel
    else if spiWindow a then s.spiFetch (a + 1) (len - 1) (acc ++ [s.winGet (a - 0x80000)]) err fuel
    else s.spiFetch (a + 1) (len - 1) (acc ++ [0#8]) spiAddress fuel

/-- A read frame: ignored where it starts off a dword boundary of the set-up window (R266). -/
def State.spiRead (s : State) (a len : Nat) : State :=
  if spiSetup a && a % 4 != 0 then s.spiRefuse spiAlign
  else
    let r := s.spiFetch a len [] 0 len
    (r.2.2.emit (.spiData r.1)).spiRefuse r.2.1

/-- The bytes of a write frame, unit by unit: whole dwords of the set-up window; the bytes of the local window at once. -/
def State.spiStore (s : State) (a : Nat) (bytes : List Byte) (err : Nat) : Nat → Nat × State
  | 0 => (err, s)
  | fuel + 1 =>
    if bytes.isEmpty then (err, s)
    else if spiSetup a then
      if !s.recalled then s.spiStore (a + 4) (bytes.drop 4) spiRecall fuel
      else if bytes.length < 4 then (spiPartial, s.raise 0x92 1 [])
      else if 0x1400 ≤ a ∧ a < 0x2000 then s.spiStore (a + 4) (bytes.drop 4) spiAddress fuel
      else (s.busWrite .spi a (BitVec.ofNat 32 (leAt bytes 0 4))).spiStore (a + 4) (bytes.drop 4) err fuel
    else if spiWindow a then
      let n := min bytes.length (0x100000 - a)
      (s.hostWin (a - 0x80000) (bytes.take n)).spiStore (a + n) (bytes.drop n) err fuel
    else s.spiStore (a + 1) (bytes.drop 1) spiAddress fuel

def State.spiWrite (s : State) (a : Nat) (bytes : List Byte) : State :=
  if spiSetup a && a % 4 != 0 then s.spiRefuse spiAlign
  else
    let r := s.spiStore a bytes 0 bytes.length
    r.2.spiRefuse r.1

def execRead (addr len : Nat) (s : State) : Host.Outcome State Fault Refusal :=
  s.act fun s => s.spiRead addr len

def execWrite (addr : Nat) (bytes : List Byte) (s : State) : Host.Outcome State Fault Refusal :=
  s.act fun s => s.spiWrite addr bytes

def execQuadRead (addr len : Nat) (s : State) : Host.Outcome State Fault Refusal :=
  s.act fun s => s.spiRead addr len

def execQuadWrite (addr : Nat) (bytes : List Byte) (s : State) : Host.Outcome State Fault Refusal :=
  s.act fun s => s.spiWrite addr bytes

/-- READ_STATUS: the status byte, after which ERR is clear (R267). -/
def execReadStatus (s : State) : Host.Outcome State Fault Refusal :=
  s.act fun s =>
    let b := boolNat s.sys.spiErr + 2 * boolNat s.pinIrqLow + 4 * boolNat (!s.recalled) + 8 * boolNat s.runReady
    let s := s.emit (.spiData [BitVec.ofNat 8 b])
    { s with sys := { s.sys with spiErr := false } }

/-- An opcode that R264 does not list. -/
def execSpiUnknownOpcode (op : Byte) (s : State) : Host.Outcome State Fault Refusal :=
  s.act fun s =>
    if op = 0x0B#8 ∨ op = 0x02#8 ∨ op = 0xEB#8 ∨ op = 0x38#8 ∨ op = 0x05#8 then s
    else (s.spiRefuse spiOpcode).raise 0x93 0 []

end Sys2Proof.Machine
end

