-- ==== Sys2Proof/Machine/PowerFail.lean ====
section
/-! DEFINITION. Power failures and resets that strike the data NVM at work (spec/12_nonvolatile_store.md R348, R366, R368; spec/14 R391,
R397; spec/07 R219). A write that the event names was under way: its command has not completed, and as many of its operations are done
as the event says (log 27). -/

namespace Sys2Proof.Machine

/-- The operations of the write that the command at the front of a pair was at, and the state that it had found; none where it was at no
write, or where what the host returns is none of its buffer. -/
def State.cutCommand (s : State) (p : Nat) (buf : DmaRead) : Option (List NvmOp × State) :=
  match (s.srcRt p).waiting with
  | [] => none
  | e :: _ =>
    let typ := s.pairType p
    let c : Ctl := ⟨p, s.frontIdx p, e⟩
    let v := leAt e 16 8
    if !s.ctlReady p typ e || !s.ctlTurn p typ e || !s.recalled then none
    else if typ = typControl ∧ ctlOp e = 1 then
      let id := leAt e 8 2
      let len := leAt e 10 2
      let ok := ctlClean e [(8, 4), (16, 8)] && s.recordOk id len && bufOk v len
        && !(id == 0x0F00 || (id == 0x0100 && (!s.plan.isEmpty || s.anyRuns)))
      if !ok then none
      else
        match s.bufRead c v len buf (fun data s => some (s, { r0 := leVal data })) with
        | some (t, res) =>
          if res.status ≠ 0 then none
          else
            let data := leBytes len res.r0
            let t := if id = 0x0100 then ((t.loadRegs data fabricRegs 0).commitFabric).finishFabric else t
            if id = 0x0100 ∧ t.fabState ≠ 2 then none
            else
              match recPlace t.recSet id with
              | none => none
              | some q =>
                let w := t.planRecord q id data
                some (w.1.pages.flatten, w.2)
        | none => none
    else if typ = typBlob ∧ ctlOp e = 3 then
      let a := leAt e 8 4
      let len := leAt e 12 2
      let ok := ctlClean e [(8, 6), (16, 8)] && decide (1 ≤ len ∧ len ≤ 128) && bufOk v len && directArea a 1
      if !ok then none
      else
        match s.bufRead c v len buf (fun data s => some (s, { r0 := leVal data })) with
        | some (t, res) =>
          if res.status ≠ 0 then none else some (t.pageOps (a / 128) (wrapByte a (leBytes len res.r0)) true, t)
        | none => none
    else none

/-- The operations that an event finds under way, but for an append. -/
def State.cutOps (s : State) (w : NvmCut) : Option (List NvmOp × Nat × State) :=
  match w with
  | .idle => none
  | .command p buf k => (s.cutCommand p buf).map (fun x => (x.1, k, x.2))
  | .health i mv k =>
    if s.recalled && s.hourOver i && s.healthMoved i then
      let r := s.planRecord (healthPlace i) (healthId i) (s.healthData i mv)
      some (r.1.pages.flatten, k, r.2)
    else none
  | .reerase p => if s.deadPage p then some ([.erase p], 0, s) else none
  | .append _ => none

/-- The power-fail warning aborts the operation under way (R348, R366): what the POWER_LOSS record says of it, and the state. -/
def State.cutPower (s : State) (w : NvmCut) : List Byte × State :=
  let none_ : List Byte := List.replicate 8 0#8
  match w with
  | .append k =>
    if !s.recalled then (none_, s)
    else
      match s.bbWaiting with
      | some (r, t) => t.bbCut r k
      | none => (none_, s)
  | _ =>
    match s.cutOps w with
    | none => (none_, s)
    | some (ops, k, t) =>
      let u := (ops.take k).foldl State.nvmDo t
      match ops[k]? with
      | some o => (o.lossBody, u.nvmAbort o)
      | none => (none_, u)

/-- A reset falls due (R368): the erasure or the group program under way ends, and an append whole; nothing follows. -/
def State.cutReset (s : State) (w : NvmCut) : State :=
  match w with
  | .append _ => if s.recalled then s.bbAppendOne else s
  | _ =>
    match s.cutOps w with
    | none => s
    | some (ops, k, t) => (ops.take (k + 1)).foldl State.nvmDo t

/-- The power-fail warning (R366, R391). -/
def execPowerFailWarn (w : NvmCut) (s : State) : Host.Outcome State Fault Refusal :=
  s.act fun s => (s.cutPower w).2.powerFail (s.cutPower w).1

/-- NRST held low: 10 µs or more resets, less than 9.6 µs does not, and between them either may be (R397; log 1). -/
def execNrst (lowNs : Nat) (w : NvmCut) (s : State) : Host.Outcome State Fault Refusal :=
  s.act fun s =>
    if 10000 ≤ lowNs then (s.cutReset w).afterReset rcNrst 0
    else if lowNs < 9600 then s
    else
      let v := s.takeFree 1
      if v.1 = 1 then (v.2.cutReset w).afterReset rcNrst 0 else v.2

/-- The grace period has passed and the reset is asserted (R368, R388). -/
def execWdtGraceEnd (w : NvmCut) (s : State) : Host.Outcome State Fault Refusal :=
  s.act fun s =>
    if s.sys.grace ∧ s.sys.graceAt + 800000 ≤ s.cyc then (s.cutReset w).afterReset rcWatchdog 0 else s

/-- PB_MAIN held for 8 s (R219): the SERIES switches of the packs are forced open. Without a source VAON collapses. Only a new press can be
a new long press. In FALLOW the switches are open already, and Harrow, which records the fault, has no power. -/
def execLongPress (sourcePresent : Bool) (w : NvmCut) (s : State) : Host.Outcome State Fault Refusal :=
  let t := { s with sys := { s.sys with longPress := true, longAt := s.cyc, pbHeld := true } }
  if s.sys.pbHeld then .next s else
  match s.sys.power with
  | .on =>
    let t := t.each [0, 1, 2, 3] (fun i t => match t.seriesOf (8 + i) with | some w => t.forceOpen w | none => t)
    if sourcePresent then .next (t.raise 0x48 0 []).settle else .next ((t.cutPower w).2.powerFail (t.cutPower w).1)
  | .fallow => if sourcePresent then .next t else .next { t with sys := { t.sys with power := .hold } }
  | .ship => .next s
  | .hold => .next s

end Sys2Proof.Machine
end

