-- ==== Sys2Proof/Machine/Dispatch.lean ====
section
/-! DEFINITION. The meaning of each command: one arm per constructor of Instr. -/

namespace Sys2Proof.Machine

/-- What a command does to everything but the queue. -/
def exec (i : Instr) (s : State) : Host.Outcome State Fault Refusal :=
  match i with
  -- register access (R10 to R15)
  | .registerWrite p off v be => Sys2Proof.Machine.execRegisterWrite p off v be s
  | .rcRead p off => Sys2Proof.Machine.execRcRead p off s
  | .wideLoRead p off => Sys2Proof.Machine.execWideLoRead p off s
  | .wideLoWrite p off v => Sys2Proof.Machine.execWideLoWrite p off v s
  | .wideHiWrite p off v => Sys2Proof.Machine.execWideHiWrite p off v s
  -- fabric
  | .fabCommit p => Sys2Proof.Machine.execFabCommit p s
  | .fabricCheckDone => Sys2Proof.Machine.execFabricCheckDone s
  -- Drill
  | .drillTick o => Sys2Proof.Machine.execDrillTick o s
  | .orderEnergyReached slot => Sys2Proof.Machine.execOrderEnergyReached slot s
  | .orderTimeBoundExpiry slot => Sys2Proof.Machine.execOrderTimeBoundExpiry slot s
  | .orderToutExpiry slot => Sys2Proof.Machine.execOrderToutExpiry slot s
  | .chargeByDeadline slot => Sys2Proof.Machine.execChargeByDeadline slot s
  | .voltWindowBreach slot => Sys2Proof.Machine.execVoltWindowBreach slot s
  | .deliver src entry => Sys2Proof.Machine.execDeliver src entry s
  | .hold src entry => Sys2Proof.Machine.execHold src entry s
  | .absorb src entry => Sys2Proof.Machine.execAbsorb src entry s
  | .chargeBy src entry => Sys2Proof.Machine.execChargeBy src entry s
  | .reserve src entry => Sys2Proof.Machine.execReserve src entry s
  | .cancel src entry => Sys2Proof.Machine.execCancel src entry s
  | .fence src entry => Sys2Proof.Machine.execFence src entry s
  | .fenceRelease src => Sys2Proof.Machine.execFenceRelease src s
  | .fenceTimeBoundExpiry src => Sys2Proof.Machine.execFenceTimeBoundExpiry src s
  | .chainedGroup src entries => Sys2Proof.Machine.execChainedGroup src entries s
  | .canOrderFrame n f => Sys2Proof.Machine.execCanOrderFrame n f s
  | .canChainGapExpiry n => Sys2Proof.Machine.execCanChainGapExpiry n s
  | .revalMsExpiry => Sys2Proof.Machine.execRevalMsExpiry s
  | .revalidationDone => Sys2Proof.Machine.execRevalidationDone s
  -- coordinates
  | .quadEdge n a b => Sys2Proof.Machine.execQuadEdge n a b s
  | .hallStateChange n u v w => Sys2Proof.Machine.execHallStateChange n u v w s
  | .stepEdge n dirHigh => Sys2Proof.Machine.execStepEdge n dirHigh s
  | .upDownEdge n up => Sys2Proof.Machine.execUpDownEdge n up s
  | .indexHome n falling => Sys2Proof.Machine.execIndexHome n falling s
  | .mainsZeroCross => Sys2Proof.Machine.execMainsZeroCross s
  | .mainsLost => Sys2Proof.Machine.execMainsLost s
  | .coordStall n => Sys2Proof.Machine.execCoordStall n s
  | .coordPosWrite p n hi => Sys2Proof.Machine.execCoordPosWrite p n hi s
  | .coordModWrite p n v => Sys2Proof.Machine.execCoordModWrite p n v s
  | .coordModeWrite p n v => Sys2Proof.Machine.execCoordModeWrite p n v s
  | .cmpValueWrite p n k isInt hi => Sys2Proof.Machine.execCmpValueWrite p n k isInt hi s
  | .capStrobe p n => Sys2Proof.Machine.execCapStrobe p n s
  | .homeArm p n => Sys2Proof.Machine.execHomeArm p n s
  | .homeDisarm p n => Sys2Proof.Machine.execHomeDisarm p n s
  | .stallClr p n => Sys2Proof.Machine.execStallClr p n s
  | .capRead p u => Sys2Proof.Machine.execCapRead p u s
  -- general timers
  | .gptEnable p m v => Sys2Proof.Machine.execGptEnable p m v s
  | .forceReload p m => Sys2Proof.Machine.execForceReload p m s
  | .gptCapStrobe p m => Sys2Proof.Machine.execGptCapStrobe p m s
  | .gptPreloadWrite p m r v => Sys2Proof.Machine.execGptPreloadWrite p m r v s
  | .gptWrap m => Sys2Proof.Machine.execGptWrap m s
  | .gptMatch m => Sys2Proof.Machine.execGptMatch m s
  -- stages
  | .controlPeriod n o => Sys2Proof.Machine.execControlPeriod n o s
  | .startShortCheck n vOut => Sys2Proof.Machine.execStartShortCheck n vOut s
  | .loopSat n => Sys2Proof.Machine.execLoopSat n s
  | .loopApply p n => Sys2Proof.Machine.execLoopApply p n s
  | .reversalZeroCurrent n vCtl => Sys2Proof.Machine.execReversalZeroCurrent n vCtl s
  | .stageIdleTimeout n => Sys2Proof.Machine.execStageIdleTimeout n s
  | .cbcCrossing hb mv => Sys2Proof.Machine.execCbcCrossing hb mv s
  | .cbcPersist n => Sys2Proof.Machine.execCbcPersist n s
  | .hbFltAssert g => Sys2Proof.Machine.execHbFltAssert g s
  | .hbIdentDone n flt imon => Sys2Proof.Machine.execHbIdentDone n flt imon s
  | .autoOnStart r => Sys2Proof.Machine.execAutoOnStart r s
  | .vselPattern g pat => Sys2Proof.Machine.execVselPattern g pat s
  | .vselCfgWrite p g v => Sys2Proof.Machine.execVselCfgWrite p g v s
  | .vselSpWrite p g k v => Sys2Proof.Machine.execVselSpWrite p g k v s
  | .railSpWrite p r v => Sys2Proof.Machine.execRailSpWrite p r v s
  -- inputs and path
  | .inputInRange x mv => Sys2Proof.Machine.execInputInRange x mv s
  | .inputOutOfRange x mv => Sys2Proof.Machine.execInputOutOfRange x mv s
  | .inputQualifyDone x => Sys2Proof.Machine.execInputQualifyDone x s
  | .pswGateOk w => Sys2Proof.Machine.execPswGateOk w s
  | .pswGateTimeout w => Sys2Proof.Machine.execPswGateTimeout w s
  | .inputLoss x mv => Sys2Proof.Machine.execInputLoss x mv s
  | .inputOv n mv => Sys2Proof.Machine.execInputOv n mv s
  | .inputDisable p n => Sys2Proof.Machine.execInputDisable p n s
  | .handoverComplete r => Sys2Proof.Machine.execHandoverComplete r s
  | .pswReverseTrip w => Sys2Proof.Machine.execPswReverseTrip w s
  | .revHoldExpiry w => Sys2Proof.Machine.execRevHoldExpiry w s
  | .mpptStep meanMw => Sys2Proof.Machine.execMpptStep meanMw s
  | .mpptSweep meanMw => Sys2Proof.Machine.execMpptSweep meanMw s
  | .mpptNoPower => Sys2Proof.Machine.execMpptNoPower s
  | .transferBackStart r => Sys2Proof.Machine.execTransferBackStart r s
  | .transferBackDone r => Sys2Proof.Machine.execTransferBackDone r s
  -- charging
  | .zoneEval pk rNtc => Sys2Proof.Machine.execZoneEval pk rNtc s
  | .ntcFault pk rNtc => Sys2Proof.Machine.execNtcFault pk rNtc s
  | .ntcRecovered pk rNtc => Sys2Proof.Machine.execNtcRecovered pk rNtc s
  | .profileCommit p pk => Sys2Proof.Machine.execProfileCommit p pk s
  | .profileCheckDone pk => Sys2Proof.Machine.execProfileCheckDone pk s
  | .chgExitEval pk o => Sys2Proof.Machine.execChgExitEval pk o s
  | .chgTimerExpiry pk => Sys2Proof.Machine.execChgTimerExpiry pk s
  | .chgWdtKick p pk v => Sys2Proof.Machine.execChgWdtKick p pk v s
  | .chgWdtExpiry pk => Sys2Proof.Machine.execChgWdtExpiry pk s
  | .chgCfgWrite p pk v => Sys2Proof.Machine.execChgCfgWrite p pk v s
  | .chgClear p pk => Sys2Proof.Machine.execChgClear p pk s
  | .chgFaultRead p pk => Sys2Proof.Machine.execChgFaultRead p pk s
  -- pack links, Tilth, SHIP, CAN
  | .linkCfgWrite p pk v => Sys2Proof.Machine.execLinkCfgWrite p pk v s
  | .packIdentDone pk o => Sys2Proof.Machine.execPackIdentDone pk o s
  | .packIdentityFrame pk n f => Sys2Proof.Machine.execPackIdentityFrame pk n f s
  | .packStatusFrame pk n f => Sys2Proof.Machine.execPackStatusFrame pk n f s
  | .packPoll pk r => Sys2Proof.Machine.execPackPoll pk r s
  | .packLinkLost pk => Sys2Proof.Machine.execPackLinkLost pk s
  | .packReinsert pk => Sys2Proof.Machine.execPackReinsert pk s
  | .packHealthWrite pk restMv bad => Sys2Proof.Machine.execPackHealthWrite pk restMv bad s
  | .tilthStart p pk => Sys2Proof.Machine.execTilthStart p pk s
  | .tilthIntervalExpiry pk => Sys2Proof.Machine.execTilthIntervalExpiry pk s
  | .tilthAbort p pk => Sys2Proof.Machine.execTilthAbort p pk s
  | .tilthPointDone pk o => Sys2Proof.Machine.execTilthPointDone pk o s
  | .tilthTimeout pk => Sys2Proof.Machine.execTilthTimeout pk s
  | .shipEnter p => Sys2Proof.Machine.execShipEnter p s
  | .shipWake src => Sys2Proof.Machine.execShipWake src s
  | .longPress sourcePresent w => Sys2Proof.Machine.execLongPress sourcePresent w s
  | .longPressEnd => Sys2Proof.Machine.execLongPressEnd s
  | .canBusOff n => Sys2Proof.Machine.execCanBusOff n s
  | .canBusOffRecovery n => Sys2Proof.Machine.execCanBusOffRecovery n s
  -- ports
  | .portAttach n o => Sys2Proof.Machine.execPortAttach n o s
  | .drpToggle n => Sys2Proof.Machine.execDrpToggle n s
  | .ccOv n pin mv => Sys2Proof.Machine.execCcOv n pin mv s
  | .vbusSafe0v n => Sys2Proof.Machine.execVbusSafe0v n s
  | .vbusNotSafe0v n => Sys2Proof.Machine.execVbusNotSafe0v n s
  | .portOv n mv => Sys2Proof.Machine.execPortOv n mv s
  | .vconnOc n acts => Sys2Proof.Machine.execVconnOc n acts s
  | .cableDiscovery n r => Sys2Proof.Machine.execCableDiscovery n r s
  | .portCfgWrite p n v => Sys2Proof.Machine.execPortCfgWrite p n v s
  | .sourceCapabilitiesRx n m => Sys2Proof.Machine.execSourceCapabilitiesRx n m s
  | .requestRx n m => Sys2Proof.Machine.execRequestRx n m s
  | .acceptRx n header => Sys2Proof.Machine.execAcceptRx n header s
  | .psRdyRx n header => Sys2Proof.Machine.execPsRdyRx n header s
  | .pdMessageRx n m => Sys2Proof.Machine.execPdMessageRx n m s
  | .hardResetRx n => Sys2Proof.Machine.execHardResetRx n s
  | .prSwap n => Sys2Proof.Machine.execPrSwap n s
  | .pdTimerExpiry n t => Sys2Proof.Machine.execPdTimerExpiry n t s
  | .ppsRequestRepeat n => Sys2Proof.Machine.execPpsRequestRepeat n s
  | .eprKeepalive n => Sys2Proof.Machine.execEprKeepalive n s
  | .hpLate n header => Sys2Proof.Machine.execHpLate n header s
  | .srcTransitionSettled n => Sys2Proof.Machine.execSrcTransitionSettled n s
  | .pdSrcTransition n => Sys2Proof.Machine.execPdSrcTransition n s
  | .frsSignal n => Sys2Proof.Machine.execFrsSignal n s
  | .frsDone n header => Sys2Proof.Machine.execFrsDone n header s
  | .frsFail n => Sys2Proof.Machine.execFrsFail n s
  | .portDetach n byVbus => Sys2Proof.Machine.execPortDetach n byVbus s
  | .detachDischarged n => Sys2Proof.Machine.execDetachDischarged n s
  | .bcDetectionDone n r => Sys2Proof.Machine.execBcDetectionDone n r s
  | .send pair entries goodCrc => Sys2Proof.Machine.execSend pair entries goodCrc s
  | .hardReset pair entry => Sys2Proof.Machine.execHardReset pair entry s
  | .cableReset pair entry => Sys2Proof.Machine.execCableReset pair entry s
  | .portCtrlHardReset p n => Sys2Proof.Machine.execPortCtrlHardReset p n s
  | .errRecover p n => Sys2Proof.Machine.execErrRecover p n s
  -- host link, SPI, rings
  | .hostLinkReset k => Sys2Proof.Machine.execHostLinkReset k s
  | .bmeChange bme d3 msix intDis => Sys2Proof.Machine.execBmeChange bme d3 msix intDis s
  | .read addr len => Sys2Proof.Machine.execRead addr len s
  | .write addr bytes => Sys2Proof.Machine.execWrite addr bytes s
  | .quadRead addr len => Sys2Proof.Machine.execQuadRead addr len s
  | .quadWrite addr bytes => Sys2Proof.Machine.execQuadWrite addr bytes s
  | .readStatus => Sys2Proof.Machine.execReadStatus s
  | .spiUnknownOpcode op => Sys2Proof.Machine.execSpiUnknownOpcode op s
  | .ringEnable p pair v => Sys2Proof.Machine.execRingEnable p pair v s
  | .ringDisable p pair => Sys2Proof.Machine.execRingDisable p pair s
  | .ringDrainDone pair => Sys2Proof.Machine.execRingDrainDone pair s
  | .resume p pair => Sys2Proof.Machine.execResume p pair s
  | .doorbellPoll r => Sys2Proof.Machine.execDoorbellPoll r s
  | .localDoorbellWrite off v => Sys2Proof.Machine.execLocalDoorbellWrite off v s
  | .submissionFetch pair r => Sys2Proof.Machine.execSubmissionFetch pair r s
  | .deviceSlotWrite pair => Sys2Proof.Machine.execDeviceSlotWrite pair s
  | .completionDrain src => Sys2Proof.Machine.execCompletionDrain src s
  | .completionDiscard src entry => Sys2Proof.Machine.execCompletionDiscard src entry s
  | .irqModTimerExpiry pair => Sys2Proof.Machine.execIrqModTimerExpiry pair s
  | .ringImodWrite p pair v => Sys2Proof.Machine.execRingImodWrite p pair v s
  | .recordWrite pair entry buf bad => Sys2Proof.Machine.execRecordWrite pair entry buf bad s
  | .recordRead pair entry => Sys2Proof.Machine.execRecordRead pair entry s
  | .profileSelect pair entry => Sys2Proof.Machine.execProfileSelect pair entry s
  | .faultClear pair entry => Sys2Proof.Machine.execFaultClear pair entry s
  | .packCmdShip pair entry => Sys2Proof.Machine.execPackCmdShip pair entry s
  | .packCmdTilthStart pair entry => Sys2Proof.Machine.execPackCmdTilthStart pair entry s
  | .packCmdTilthAbort pair entry => Sys2Proof.Machine.execPackCmdTilthAbort pair entry s
  | .packCmdChargeClear pair entry => Sys2Proof.Machine.execPackCmdChargeClear pair entry s
  | .bbRead pair entry => Sys2Proof.Machine.execBbRead pair entry s
  | .attest pair entry => Sys2Proof.Machine.execAttest pair entry s
  | .fwChunk pair entry buf => Sys2Proof.Machine.execFwChunk pair entry buf s
  | .nvmRead pair entry => Sys2Proof.Machine.execNvmRead pair entry s
  | .nvmWrite pair entry buf => Sys2Proof.Machine.execNvmWrite pair entry buf s
  | .smbXfer pair entry resp => Sys2Proof.Machine.execSmbXfer pair entry resp s
  | .canSend pair entry buf sent => Sys2Proof.Machine.execCanSend pair entry buf sent s
  | .canRecv pair entry f => Sys2Proof.Machine.execCanRecv pair entry f s
  | .canRecvTimeout pair entry => Sys2Proof.Machine.execCanRecvTimeout pair entry s
  | .xltSync p => Sys2Proof.Machine.execXltSync p s
  | .xltSyncDone => Sys2Proof.Machine.execXltSyncDone s
  | .dmaFault op pair index addr done kind => Sys2Proof.Machine.execDmaFault op pair index addr done kind s
  | .cplTimeout op pair index addr done => Sys2Proof.Machine.execCplTimeout op pair index addr done s
  -- telemetry
  | .post pair entry => Sys2Proof.Machine.execPost pair entry s
  | .glnSample gs body drop => Sys2Proof.Machine.execGlnSample gs body drop s
  | .glnFlushExpiry gs => Sys2Proof.Machine.execGlnFlushExpiry gs s
  | .glnTrigger gs => Sys2Proof.Machine.execGlnTrigger gs s
  | .glnEnable p gs v => Sys2Proof.Machine.execGlnEnable p gs v s
  | .glnDisable p gs => Sys2Proof.Machine.execGlnDisable p gs s
  | .arm p gs => Sys2Proof.Machine.execArm p gs s
  | .force p gs => Sys2Proof.Machine.execForce p gs s
  -- envelope, firmware, store
  | .envelopePackOv pk mv => Sys2Proof.Machine.execEnvelopePackOv pk mv s
  | .envelopePackOc pk ma => Sys2Proof.Machine.execEnvelopePackOc pk ma s
  | .envelopePackTemp pk => Sys2Proof.Machine.execEnvelopePackTemp pk s
  | .envelopeRailOv r mv => Sys2Proof.Machine.execEnvelopeRailOv r mv s
  | .envThresholdMove => Sys2Proof.Machine.execEnvThresholdMove s
  | .fwuBuildDone verifyOk => Sys2Proof.Machine.execFwuBuildDone verifyOk s
  | .activate p => Sys2Proof.Machine.execActivate p s
  | .abandon p => Sys2Proof.Machine.execAbandon p s
  | .confirm p => Sys2Proof.Machine.execConfirm p s
  | .trialExpiry => Sys2Proof.Machine.execTrialExpiry s
  | .dbgOpen => Sys2Proof.Machine.execDbgOpen s
  | .bbAppend => Sys2Proof.Machine.execBbAppend s
  | .nvmReerase page => Sys2Proof.Machine.execNvmReerase page s
  | .nvmCntFlush p => Sys2Proof.Machine.execNvmCntFlush p s
  | .inc p k => Sys2Proof.Machine.execInc p k s
  -- Harrow and watchdog
  | .faultReport id inst record => Sys2Proof.Machine.execFaultReport id inst record s
  | .egressClose => Sys2Proof.Machine.execEgressClose s
  | .faultCauseGone id inst => Sys2Proof.Machine.execFaultCauseGone id inst s
  | .quietExpiry id inst => Sys2Proof.Machine.execQuietExpiry id inst s
  | .hrwClear p v => Sys2Proof.Machine.execHrwClear p v s
  | .safeReq p => Sys2Proof.Machine.execSafeReq p s
  | .egressTieRelease w => Sys2Proof.Machine.execEgressTieRelease w s
  | .hrwInjectArm p v => Sys2Proof.Machine.execHrwInjectArm p v s
  | .wdtService p v => Sys2Proof.Machine.execWdtService p v s
  | .wdtCheckin p v => Sys2Proof.Machine.execWdtCheckin p v s
  | .wdtWindowExpiry => Sys2Proof.Machine.execWdtWindowExpiry s
  | .wdtClockLoss => Sys2Proof.Machine.execWdtClockLoss s
  | .wdtGraceEnd w => Sys2Proof.Machine.execWdtGraceEnd w s
  -- start-up, power, clocks
  | .coldStart o => Sys2Proof.Machine.execColdStart o s
  | .runReady => Sys2Proof.Machine.execRunReady s
  | .nrst lowNs w => Sys2Proof.Machine.execNrst lowNs w s
  | .sysReset p => Sys2Proof.Machine.execSysReset p s
  | .powerFailWarn w => Sys2Proof.Machine.execPowerFailWarn w s
  | .brownout => Sys2Proof.Machine.execBrownout s
  | .pwrReqIdle p => Sys2Proof.Machine.execPwrReqIdle p s
  | .pwrReqFallow p => Sys2Proof.Machine.execPwrReqFallow p s
  | .idleWake src => Sys2Proof.Machine.execIdleWake src s
  | .fallowWake src aonPeriods => Sys2Proof.Machine.execFallowWake src aonPeriods s
  | .clkRefFail => Sys2Proof.Machine.execClkRefFail s
  | .clkRefReturn => Sys2Proof.Machine.execClkRefReturn s
  | .clkAonFail => Sys2Proof.Machine.execClkAonFail s
  | .pllUnlock pllB => Sys2Proof.Machine.execPllUnlock pllB s
  | .biasFault core mv => Sys2Proof.Machine.execBiasFault core mv s
  | .dieTemp t => Sys2Proof.Machine.execDieTemp t s
  | .memEccError mem twoBits off => Sys2Proof.Machine.execMemEccError mem twoBits off s
  | .linkUp gen width => Sys2Proof.Machine.execLinkUp gen width s
  | .compareInterpolationMatch mains k => Sys2Proof.Machine.execCompareInterpolationMatch mains k s
  | .pbMainPress => Sys2Proof.Machine.execPbMainPress s
  | .mailboxRequest m => Sys2Proof.Machine.execMailboxRequest m s

end Sys2Proof.Machine
end

