-- ==== Sys2Proof/Safety.lean ====
section
/-! DEFINITION. The terms in which claims about the block are stated. -/

namespace Sys2Proof.Machine

/-- The register file, the window and the data NVM are in canonical form: the part of the state that every operation must keep. -/
def State.wf (s : State) : Bool :=
  tabWf resetWord s.regs && tabWf winDefault s.localWin && tabWf nvmDefault s.nvm.bytes

/-- The step answers a next state. -/
def State.goesOn (s : State) : Prop := ∃ t, step s = .next t

/-- The block is powered, and nothing is reported that has not settled. -/
def State.live (s : State) : Prop := s.sys.power = .on ∧ s.raised = []

/-- The registers outside a list read the same in both states. -/
def State.sameRegs (s t : State) (l : List Nat) : Prop := ∀ off, off ∉ l → t.rd off = s.rd off

/-- `t` differs from `s` in registers of the list alone (and in the note of what the present cycle has done to registers, R10, R437), and
reports exactly these faults. -/
def State.onlyRegs (s t : State) (l : List Nat) (faults : List Raised) : Prop :=
  t = { s with regs := t.regs, cycle := t.cycle, raised := faults } ∧ s.sameRegs t l

/-- A fault as a step reports it: identifier, instance, and its record padded to 16 bytes (R376). -/
def faultOf (id inst : Nat) (record : List Byte) : Raised := ⟨id, inst % 16, padTo 16 record⟩

/-- The position one count up or down from the present one, under the modulus of the unit (R40, R43). -/
def State.onePast (s : State) (n : Nat) (up : Bool) : Nat :=
  coordAdd true (s.coordM n) (s.coordPos n) (if up then 1 else (2 ^ 32 - 1) * 65536 + (s.coordM n - 1)) % 2 ^ 64

/-- Whether an edge that the input calls upward moves the position up: INV reverses it (R44, R46). -/
def State.upwardAs (s : State) (n : Nat) (upward : Bool) : Bool := upward != s.flag (R.COORD_CFG n) F.COORD_CFG_INV

/-- The next counted edge of a unit comes at a rate that the unit follows (R47). -/
def State.slowEdge (s : State) (n : Nat) : Prop :=
  ∀ c, (s.coord n).lastEdge = some c → c + max 10 (2 * (s.f (R.COORD_CFG n) F.COORD_CFG_FILT + 2)) ≤ s.cyc

/-- Drill accepts the entries of a source in the present state: the entry checks of R81, a free slot each, the charge power of R91, and, unless
they are all Class C, the two runs of the feasibility check (R92). -/
def State.wouldAdmit (s : State) (src : Nat) (entries : List (List Byte)) : Bool :=
  let os := entries.map parseOrder
  let group := decide (1 < os.length)
  let removed := (os.filter (fun o => o.op == opCancel && group)).filterMap (fun o => (s.tagSlot src o.arg).map (·.1))
  match s.entryChecks src ⟨group, removed, [], []⟩ 0 os with
  | .error _ => false
  | .ok ivs =>
    let takers := ((entries.zip ivs).zipIdx).filter (fun x => (parseOrder x.1.1).op != opCancel && (parseOrder x.1.1).op != opFence)
    let items := takers.map (fun x =>
      let o := parseOrder x.1.1
      (o, s.item (newKey x.2) o s.trim 0 x.1.2.1 (min x.1.2.2 (s.absTime o.tBound))))
    decide (s.plan.length + takers.length ≤ 4096) && (s.chargeChecks 0 items).isNone &&
      (if items.any (fun x => x.1.cls == 0 || x.1.cls == 1 || x.1.op == opReserve) then
        match check2 s.ctx (s.planItems removed ++ items.map (·.2)) with
        | .ok _ _ => true
        | .reject _ _ => false
      else true)

/-- A completion stands at the end of the holding queue of a ring pair (R310). -/
def State.completesTo (s : State) (u : State) (src : Nat) (bytes : List Byte) (worthy : Bool) : Prop :=
  s.pairState src ≠ ringDisabled → s.cplRoom src = true → src < 32 →
    u.cplq = s.cplq ++ [⟨src, padTo 32 bytes, worthy, false⟩]

/-- The commands that reach a block without power: the wake sources, the return of supply, a new start, and the press and the long press of
PB_MAIN. -/
def reachesUnpowered : Sys2Proof.Instr → Bool
  | .coldStart _ => true
  | .brownout => true
  | .fallowWake _ _ => true
  | .shipWake _ => true
  | .longPress _ _ => true
  | .pbMainPress => true
  | _ => false

/-- The control message, and the data message, that a port would send next (R224, R239). -/
def State.ctlOut (s : State) (n typ : Nat) : Emit := .pdTx n false (s.txHeader n false typ (s.port n).mid 0 false) []
def State.dataOut (s : State) (n typ : Nat) (data : List Byte) : Emit :=
  .pdTx n false (s.txHeader n false typ (s.port n).mid (data.length / 4) false) data

/-- The registers that a stage which stops writes: its status, its compare, its current and the conversion load. -/
def stopRegs (n : Nat) : List Nat := [R.STAGE_STATUS n, R.STAGE_DUTY n, R.STAGE_IL n, R.STG_ADC_LOAD]

end Sys2Proof.Machine
end

