-- ==== Sys2Proof/WellFormed.lean ====
section
/-! DEFINITION. Which terms of Instr stand for a command that can reach the block: byte strings of their fixed lengths, words of
buses within their widths, register offsets of the set-up window, one observation per connector, node or channel. -/

namespace Sys2Proof

/-- A register command names a dword of the set-up window (R436). -/
def regOffOk (off : Nat) : Bool := decide (off < 0x40000) && off % 4 == 0

/-- Submission entries have 64 bytes (R79, R239, R286, R314). -/
def entryOk (e : List Byte) : Bool := e.length == 64

/-- A CAN frame: an 11-bit or 29-bit identifier, and a data length that its format has (R102, R203). -/
def CanFrame.ok (f : CanFrame) : Bool :=
  decide (f.ident < (if f.ide then 2 ^ 29 else 2 ^ 11)) &&
    (if f.fd then [0, 1, 2, 3, 4, 5, 6, 7, 8, 12, 16, 20, 24, 32, 48, 64].contains f.data.length else decide (f.data.length ≤ 8))

/-- One observation per input, port, pack, rail and stage. -/
def TickObs.ok (o : TickObs) : Bool :=
  o.vInput.length == 3 && o.vPort.length == 3 && o.vPack.length == 4 && o.iPack.length == 4 && o.vRail.length == 8
    && o.tBoard.length == 4 && o.loadRail.length == 8 && o.iInput.length == 3

/-- A PD message header has 16 bits (R239). -/
def headerOk (h : Nat) : Bool := decide (h < 2 ^ 16)

/-- A PD message: 16-bit headers, and at most the 260 bytes of an extended message. -/
def PdMsg.ok (m : PdMsg) : Bool := headerOk m.header && headerOk m.extHeader && decide (m.data.length ≤ 260)

/-- SPI frames carry a 24-bit address (R264). -/
def spiAddrOk (a : Nat) : Bool := decide (a < 2 ^ 24)

/-- The command can reach the block. -/
def Instr.wf : Instr → Bool
  | .registerWrite _ off _ _ => regOffOk off
  | .rcRead _ off => regOffOk off
  | .wideLoRead _ off => regOffOk off
  | .wideLoWrite _ off _ => regOffOk off
  | .wideHiWrite _ off _ => regOffOk off
  | .drillTick o => o.ok
  | .deliver _ e => entryOk e
  | .hold _ e => entryOk e
  | .absorb _ e => entryOk e
  | .chargeBy _ e => entryOk e
  | .reserve _ e => entryOk e
  | .cancel _ e => entryOk e
  | .fence _ e => entryOk e
  | .chainedGroup _ es => decide (2 ≤ es.length) && es.all entryOk
  | .canOrderFrame _ f => f.ok
  | .packIdentityFrame _ _ f => f.ok
  | .packStatusFrame _ _ f => f.ok
  | .sourceCapabilitiesRx _ m => m.ok
  | .requestRx _ m => m.ok
  | .pdMessageRx _ m => m.ok
  | .acceptRx _ h => headerOk h
  | .psRdyRx _ h => headerOk h
  | .hpLate _ h => headerOk h
  | .frsDone _ h => headerOk h
  | .cableDiscovery _ r => r.all (fun c => headerOk c.header)
  | .send _ es _ => !es.isEmpty && es.all entryOk
  | .hardReset _ e => entryOk e
  | .cableReset _ e => entryOk e
  | .read a _ => spiAddrOk a
  | .write a _ => spiAddrOk a
  | .quadRead a _ => spiAddrOk a
  | .quadWrite a _ => spiAddrOk a
  | .recordWrite _ e _ _ => entryOk e
  | .recordRead _ e => entryOk e
  | .profileSelect _ e => entryOk e
  | .faultClear _ e => entryOk e
  | .packCmdShip _ e => entryOk e
  | .packCmdTilthStart _ e => entryOk e
  | .packCmdTilthAbort _ e => entryOk e
  | .packCmdChargeClear _ e => entryOk e
  | .bbRead _ e => entryOk e
  | .attest _ e => entryOk e
  | .fwChunk _ e _ => entryOk e
  | .nvmRead _ e => entryOk e
  | .nvmWrite _ e _ => entryOk e
  | .smbXfer _ e _ => entryOk e
  | .canSend _ e _ _ => entryOk e
  | .canRecv _ e f => entryOk e && f.ok
  | .canRecvTimeout _ e => entryOk e
  | .completionDiscard _ e => e.length == 32
  | .post _ e => entryOk e
  | .glnSample _ b _ => decide (b.length ≤ 16)
  | .faultReport _ _ r => r.length == 16
  | _ => true

end Sys2Proof
end

