-- ==== Sys2Proof/Certificates/Slice0/Obligations.lean ====
section
/-! DEFINITION. The statements for the provers. The commands whose completion a statement states are named in its text after "Completes". -/

open Sys2Proof Sys2Proof.Machine

/-! The queue and the step. -/

/-- A step takes the command at the front of the queue and runs it with the queue's rest. -/
def Obligations.StepRunsFrontCommand : Prop :=
  ∀ (s : State) (c : Instr) (rest : List Instr), s.pending = c :: rest → step s = exec c { s with pending := rest }

/-- On an empty queue one CLK_SYS period passes in a powered block and in the reset hold of R392, and nothing in FALLOW and SHIP (the
model's choice, log 7). -/
def Obligations.EmptyQueueLetsOneCyclePass : Prop :=
  ∀ s : State, s.pending = [] →
    ∃ t, step s = .next t ∧ t.pending = [] ∧ (s.sys.power = .on ∨ s.sys.power = .hold → t.cyc = s.cyc + 1) ∧
      (s.sys.power = .fallow ∨ s.sys.power = .ship → t = s)

/-- Every command that can reach the block completes in every state; only a register command outside the set-up window stops. -/
def Obligations.WellFormedCommandsComplete : Prop :=
  (∀ (c : Instr) (s : State), c.wf = true → ∃ t, exec c s = .next t) ∧
  (∀ (c : Instr) (s : State) (r : Refusal), exec c s ≠ .refused r) ∧
  (∀ (p : Path) (off : Nat) (v : Word) (be : Fin 16) (s : State), 0x40000 ≤ off →
    exec (.registerWrite p off v be) s = .fault (.outsideWindow off) ∧
    exec (.rcRead p off) s = .fault (.outsideWindow off) ∧
    exec (.wideLoRead p off) s = .fault (.outsideWindow off) ∧
    exec (.wideLoWrite p off v) s = .fault (.outsideWindow off) ∧
    exec (.wideHiWrite p off v) s = .fault (.outsideWindow off))

/-- Whole-machine rule: in FALLOW, in SHIP and held in reset, no other command changes anything (R216, R392, R393). -/
def Obligations.UnpoweredBlockTakesNoCommand : Prop :=
  ∀ (c : Instr) (s : State), c.wf = true → s.sys.power ≠ .on → reachesUnpowered c = false → exec c s = .next s

/-- Invariant: no step leaves a reported fault that Harrow has not taken (log 12). -/
def Obligations.ReportedFaultsHaveSettled : Prop :=
  ∀ s t : State, s.raised = [] → step s = .next t → t.raised = []

/-- Invariant: every step keeps the canonical form of the registers, the local window and the data NVM. -/
def Obligations.StepKeepsCanonicalForm : Prop :=
  ∀ s t : State, s.wf = true → step s = .next t → t.wf = true

/-- The state after a cold reset meets both invariants, is powered and runs no command; COORD_5 reads 0:0000 (R51), the pairs are
DISABLED, the local window reads zero (R269), the data NVM 0xFF (R345), and the Plan table is empty. -/
def Obligations.ResetStateIsSound : Prop :=
  State.reset.live ∧ State.reset.wf = true ∧ State.reset.pending = [] ∧ State.reset.coordPos 5 = 0 ∧
  (∀ p : Fin 32, State.reset.pairState p = ringDisabled) ∧
  (∀ a, State.reset.winGet a = 0#8) ∧ (∀ a, State.reset.nvmByte a = 0xFF#8) ∧ State.reset.plan = [] ∧
  (∀ n : Fin 8, State.reset.stageState n = 0) ∧ (∀ off, State.reset.rd off = resetWord off)

/-! Register access and the SPI target. -/

/-- A dword write with its four byte enables completes at every offset of the set-up window, on every path. By the access types of the fields
(R10): a register of RW fields alone takes the word in them, W1C flags clear where the word has ones unless hardware set them in the same
cycle, an RO register ignores it; a write that comes before another path's in the order of one cycle leaves what that one wrote (R437);
offsets 0x20000 and up ignore it; a dword with fewer than its four byte enables is discarded with fault 0x92 (R258); an HW register refuses
another master's write that would change it, with fault 0xB0 (R11). Completes: registerWrite. -/
def Obligations.RegisterWriteFollowsAccessTypes : Prop :=
  ∀ (s : State) (p : Path) (v : Word), s.live →
    (∀ (off : Nat) (be : Fin 16), off < 0x40000 → p ≠ .pcie ∨ be = 15 →
      exec (.registerWrite p off v be) s = .next (s.busWrite p off v).settle) ∧
    (∀ off ∈ [R.PWR_WAKE_EN, R.PWR_FALLOW_TIMER, R.HOST_INTX_EN, R.HOST_GLB_EN, R.HOST_SPI_IRQ_EN, R.XFER_RAMP, R.SRC_PRIO, R.PD_HP_CFG,
        R.HRW_RECOVERY, R.HRW_INJECT_ADDR, R.DRILL_CFG, R.FWU_CFG],
      ∃ t, exec (.registerWrite p off v 15) s = .next t ∧ s.onlyRegs t [off] [] ∧
        (s.laterWrote p off = false →
          t.rd off = (s.rd off &&& ~~~accMask off [.rw]) ||| (v &&& accMask off [.rw])) ∧
        (s.laterWrote p off = true → t.rd off = s.rd off)) ∧
    (∃ t, exec (.registerWrite p R.HOST_IRQ_STATUS v 15) s = .next t ∧ s.onlyRegs t [R.HOST_IRQ_STATUS] [] ∧
      t.rd R.HOST_IRQ_STATUS = s.rd R.HOST_IRQ_STATUS &&& ~~~(v &&& ~~~s.cycleNew R.HOST_IRQ_STATUS)) ∧
    (∃ t, exec (.registerWrite p R.GLB_ID v 15) s = .next t ∧ s.onlyRegs t [] []) ∧
    (∀ off, 0x20000 ≤ off → off < 0x40000 → exec (.registerWrite p off v 15) s = .next s) ∧
    (∀ (off : Nat) (be : Fin 16), off < 0x40000 → be ≠ 15 →
      exec (.registerWrite .pcie off v be) s = .next (s.raise 0x92 0 []).settle) ∧
    (∀ w : Fin 12, p ≠ .headland → (s.rd (R.PSW_CFG w) ^^^ v) &&& accMask (R.PSW_CFG w) [.hw] ≠ 0#32 →
      ∃ u : State, exec (.registerWrite p (R.PSW_CFG w) v 15) s = .next u.settle ∧
        s.onlyRegs u [] [faultOf 0xB0 (pathNo p) (leBytes 4 (R.PSW_CFG w))])

/-- COORD_TIME_US (R53): the read of the low word returns the low 32 bits of the microseconds since the cold reset, with which COORD_5
advances, and the later read of the high word on that path returns the high 32 bits of the same count, whatever has passed since.
Completes: wideLoRead. -/
def Obligations.TimeCountReadsAsOneValue : Prop :=
  ∀ (s : State) (p : Path), s.live → s.coordPos 5 = timeCoord (s.cyc / 200) ∧
    ∃ t, exec (.wideLoRead p R.COORD_TIME_US_LO) s = .next t ∧
      t.outbox = s.outbox ++ [.readData p R.COORD_TIME_US_LO (BitVec.ofNat 32 (s.cyc / 200))] ∧ s.sameRegs t [] ∧
      ∀ t' : State, t'.live → t'.hiLatch = t.hiLatch →
        ∃ w : State, exec (.rcRead p R.COORD_TIME_US_HI) t' = .next w ∧
          w.outbox = t'.outbox ++ [.readData p R.COORD_TIME_US_HI (BitVec.ofNat 32 (s.cyc / 200 / 2 ^ 32))]

/-- A read of a register with an RC field returns the word, the field as the cycle began, and leaves in the field what hardware has added to it
in that cycle (R10): LOST of a ring pair. A read of the capture of a coordinate unit, or of a general timer that is not the high half of a
chained pair, returns it and clears CAP_FULL (R64). Completes: rcRead, capRead. -/
def Obligations.RegisterReadsClearWhatTheySay : Prop :=
  ∀ (s : State) (p : Path), s.live →
    (∀ q : Fin 32, ∃ t, exec (.rcRead p (R.RING_CNT q)) s = .next t ∧
      t.outbox = s.outbox ++ [.readData p (R.RING_CNT q)
        ((s.rd (R.RING_CNT q) &&& ~~~accMask (R.RING_CNT q) [.rc]) ||| (s.cycleOld (R.RING_CNT q) &&& accMask (R.RING_CNT q) [.rc]))] ∧
      t.f (R.RING_CNT q) F.RING_CNT_LOST = getBits (s.cycleNew (R.RING_CNT q)) F.RING_CNT_LOST.lo F.RING_CNT_LOST.w ∧
      t.f (R.RING_CNT q) F.RING_CNT_PENDING = s.f (R.RING_CNT q) F.RING_CNT_PENDING ∧
      s.sameRegs t [R.RING_CNT q] ∧ t = { s with regs := t.regs, outbox := t.outbox, cycle := t.cycle }) ∧
    (∀ n : Fin 6, ∃ t, exec (.capRead p (.coord n)) s = .next t ∧
      t.outbox = s.outbox ++ [.readData p (R.COORD_CAP_LO n) (s.rd (R.COORD_CAP_LO n))] ∧
      t.flag (R.COORD_STATUS n) F.COORD_STATUS_CAP_FULL = false ∧ s.sameRegs t [R.COORD_STATUS n]) ∧
    (∀ m : Fin 16, s.gptBase m = m → ∃ t, exec (.capRead p (.gpt m)) s = .next t ∧
      t.outbox = s.outbox ++ [.readData p (R.GPT_CAP m) (s.rd (R.GPT_CAP m))] ∧
      t.flag (R.GPT_STATUS m) F.GPT_STATUS_CAP_FULL = false ∧ s.sameRegs t [R.GPT_STATUS m])

/-- The low word of a split value is held in the staging register of its path and changes no register; the write of the high word on the
same path commits both (R15): HOST_DB_BASE. Completes: wideLoWrite, wideHiWrite. -/
def Obligations.SplitValueCommitsWithHighWord : Prop :=
  ∀ (s : State) (p : Path) (lo hi : Word), s.live →
    ∃ t, exec (.wideLoWrite p R.HOST_DB_BASE_LO lo) s = .next t ∧ t = { s with loStage := t.loStage } ∧
      ∃ u : State, exec (.wideHiWrite p R.HOST_DB_BASE_HI hi) t = .next u ∧ t.onlyRegs u [R.HOST_DB_BASE_LO, R.HOST_DB_BASE_HI] [] ∧
        (s.laterWrote p R.HOST_DB_BASE_HI = false →
          getBits (u.rd R.HOST_DB_BASE_LO) 12 20 = getBits lo 12 20 ∧ getBits (u.rd R.HOST_DB_BASE_HI) 0 2 = getBits hi 0 2)

/-- SPI frames (R264–R267): a READ or QUAD_READ of the local window returns its bytes and changes nothing else; a WRITE or QUAD_WRITE to
it past the doorbell page stores exactly its bytes; READ_STATUS returns the status byte and clears ERR; an opcode that is not listed is
refused with cause 4 and fault 0x93. Completes: read, quadRead, write, quadWrite, readStatus, spiUnknownOpcode. -/
def Obligations.SpiFramesReachTheLocalWindow : Prop :=
  ∀ s : State, s.live →
    (∀ a len : Nat, 0x80000 ≤ a → a + len ≤ 0x100000 →
      exec (.read a len) s = .next (s.emit (.spiData (s.winRead (a - 0x80000) len))) ∧
      exec (.quadRead a len) s = .next (s.emit (.spiData (s.winRead (a - 0x80000) len)))) ∧
    (∀ (a : Nat) (bs : List Byte), 0x81000 ≤ a → a + bs.length ≤ 0x100000 →
      exec (.write a bs) s = .next (s.winWrite (a - 0x80000) bs) ∧
      exec (.quadWrite a bs) s = .next (s.winWrite (a - 0x80000) bs)) ∧
    (∃ t, exec .readStatus s = .next t ∧ t.sys.spiErr = false ∧
      t.outbox = s.outbox ++ [.spiData [BitVec.ofNat 8 (boolNat s.sys.spiErr + 2 * boolNat s.pinIrqLow + 4 * boolNat (!s.recalled)
        + 8 * boolNat s.runReady)]] ∧ s.sameRegs t []) ∧
    (∀ op : Byte, op ≠ 0x0B#8 → op ≠ 0x02#8 → op ≠ 0xEB#8 → op ≠ 0x38#8 → op ≠ 0x05#8 →
      ∃ u : State, exec (.spiUnknownOpcode op) s = .next u.settle ∧ u.sys.spiErr = true ∧ u.raised = [faultOf 0x93 0 []] ∧
        u.f R.HOST_SPI_STATUS F.HOST_SPI_STATUS_LAST_ERR = 4 ∧
        u.f R.HOST_SPI_STATUS F.HOST_SPI_STATUS_ERRS = min (s.f R.HOST_SPI_STATUS F.HOST_SPI_STATUS_ERRS + 1) 255 ∧
        s.sameRegs u [R.HOST_SPI_STATUS])

/-! Coordinate units and general timers. -/

/-- The sum of two coordinates in normal form carries at the modulus, not at a power of two (R8, R40): its count stays below M, and its
linear value is the sum of theirs, modulo 2^32 turns. -/
def Obligations.CoordinateSumCarriesAtModulus : Prop :=
  ∀ m a b : Nat, 2 ≤ m → m < 65536 → cfCount a < m → cfCount b < m →
    cfCount (coordAdd true m a b) < m ∧ cfCount (coordAdd false m a b) < m ∧
    linPlain m (coordAdd false m a b) = (linPlain m a + linPlain m b) % (2 ^ 32 * m) ∧
    (linTravel m (coordAdd true m a b) - (linTravel m a + linTravel m b)) % ((2 ^ 32 * m : Nat) : Int) = 0

/-- R44, for samples that pass the filter of R47: in quadrature mode an edge of A or B at a rate that the unit follows moves the position by one
count, upward when A leads B unless INV is 1; where both change in one filtered sample the position stays, QUAD_ERR is set, and fault 0x80 is
recorded. A sample that the filter does not pass changes nothing (R47). Completes: quadEdge. -/
def Obligations.QuadratureCountsWhileALeadsB : Prop :=
  ∀ (s : State) (n : Fin 4) (a b : Bool), s.live →
    (s.coordMode n = 1 → (s.sample n a b (s.coord n).z).isSome = true →
      (s.slowEdge n → a ≠ (s.coord n).a → b = (s.coord n).b →
        ∃ u : State, exec (.quadEdge n a b) s = .next u.settle ∧ u.coordPos n = s.onePast n (s.upwardAs n (a != b))) ∧
      (s.slowEdge n → a = (s.coord n).a → b ≠ (s.coord n).b →
        ∃ u : State, exec (.quadEdge n a b) s = .next u.settle ∧ u.coordPos n = s.onePast n (s.upwardAs n (a == b))) ∧
      (a ≠ (s.coord n).a → b ≠ (s.coord n).b →
        ∃ u : State, exec (.quadEdge n a b) s = .next u.settle ∧ u.coordPos n = s.coordPos n ∧
          u.flag (R.COORD_STATUS n) F.COORD_STATUS_QUAD_ERR = true ∧ u.raised = [faultOf 0x80 n []] ∧
          s.sameRegs u [R.COORD_STATUS n])) ∧
    (∀ c : Nat, a ≠ (s.coord n).a → (s.coord n).changeA = some c → s.cyc < c + 2 * (s.f (R.COORD_CFG n) F.COORD_CFG_FILT + 1) →
      exec (.quadEdge n a b) s = .next s)

/-- The other travel inputs count one edge each (R45, R46), where their levels pass the filter and their rate is one that the unit follows (R47): a
Hall state one place on in the order of R45, or one place back; a step edge by its direction input; an up or a down edge. INV reverses each. A
Hall state that does not exist leaves the position, with fault 0x81. Completes: hallStateChange, stepEdge, upDownEdge. -/
def Obligations.HallStepAndUpDownInputsCountOneEdge : Prop :=
  ∀ (s : State) (n : Fin 4), s.live →
    (∀ (x y w : Bool) (i j : Nat), s.coordMode n = 2 → (s.sample n x y w).isSome = true → s.slowEdge n →
      hallIndex (s.coord n).hall = some i →
      hallIndex (4 * boolNat x + 2 * boolNat y + boolNat w) = some j → (j = (i + 1) % 6 ∨ i = (j + 1) % 6) →
      ∃ u : State, exec (.hallStateChange n x y w) s = .next u.settle ∧
        u.coordPos n = s.onePast n (s.upwardAs n (decide (j = (i + 1) % 6)))) ∧
    (∀ x : Bool, s.coordMode n = 2 → (s.sample n x x x).isSome = true →
      ∃ u : State, exec (.hallStateChange n x x x) s = .next u.settle ∧ u.coordPos n = s.coordPos n ∧
        u.flag (R.COORD_STATUS n) F.COORD_STATUS_QUAD_ERR = true ∧ u.raised = [faultOf 0x81 n []]) ∧
    (∀ dirHigh : Bool, s.coordMode n = 3 → (s.pulse n false).isSome = true → s.slowEdge n →
      ∃ u : State, exec (.stepEdge n dirHigh) s = .next u.settle ∧ u.coordPos n = s.onePast n (s.upwardAs n dirHigh)) ∧
    (∀ up : Bool, s.coordMode n = 4 → (s.pulse n (!up)).isSome = true → s.slowEdge n →
      ∃ u : State, exec (.upDownEdge n up) s = .next u.settle ∧ u.coordPos n = s.onePast n (s.upwardAs n up))

/-- Homing (R57, R65): an index edge of the selected polarity sets the position of an armed unit to HOME, sets HOMED, clears STALE and disarms it;
while the unit is BUSY it is refused and the position stays. HOME_ARM and HOME_DISARM arm and disarm it, and change nothing else. The mains unit
(R48, R50): an accepted crossing moves COORD_4 to the start of the next turn and ends a loss; no crossing within one and a half period estimates
sets LOST and is fault 0x84. Completes: homeArm, homeDisarm, indexHome, mainsZeroCross, mainsLost. -/
def Obligations.IndexAndMainsEdgesSetThePosition : Prop :=
  (∀ (s : State) (n : Fin 4) (p : Path) (falling : Bool), s.live →
    exec (.homeArm p n) s = .next (s.setCoord n { s.coord n with armed := true }) ∧
    exec (.homeDisarm p n) s = .next (s.setCoord n { s.coord n with armed := false }) ∧
    ((s.coordMode n = 1 ∨ s.coordMode n = 3 ∨ s.coordMode n = 4) → s.flag (R.COORD_CFG n) F.COORD_CFG_ZPOL = falling →
      s.flag (R.COORD_CFG n) F.COORD_CFG_ZHOME = true → (s.coord n).armed = true → s.passes n (s.coord n).changeZ = true →
      (s.coordBusy n = false → ∃ u : State, exec (.indexHome n falling) s = .next u.settle ∧
        u.coordPos n = s.rd64 (R.COORD_HOME_LO n) (R.COORD_HOME_HI n) ∧
        u.flag (R.COORD_STATUS n) F.COORD_STATUS_HOMED = true ∧ u.flag (R.COORD_STATUS n) F.COORD_STATUS_STALE = false ∧
        (u.coord n).armed = false) ∧
      (s.coordBusy n = true → ∃ u : State, exec (.indexHome n falling) s = .next u.settle ∧ u.coordPos n = s.coordPos n ∧
        u.flag (R.COORD_STATUS n) F.COORD_STATUS_REFUSED = true ∧ (u.coord n).armed = true))) ∧
  (∀ s : State, s.live → s.coordMode 4 = 1 →
    (s.crossOk = true → ∃ u : State, exec .mainsZeroCross s = .next u.settle ∧
      u.rd64 (R.COORD_POS_LO 4) (R.COORD_POS_HI 4) = (cfTurns (s.coordPos 4) + 1) % 2 ^ 32 * 65536 ∧
      u.flag (R.COORD_STATUS 4) F.COORD_STATUS_LOST = false ∧ (u.coord 4).lastCross = some s.cyc) ∧
    (∀ c e : Nat, (s.coord 4).lastCross = some c → (s.coord 4).est2 = some e →
      s.flag (R.COORD_STATUS 4) F.COORD_STATUS_LOST = false → 3 * e ≤ 4 * (s.cyc - c) →
      ∃ u : State, exec .mainsLost s = .next u.settle ∧ u.flag (R.COORD_STATUS 4) F.COORD_STATUS_LOST = true ∧
        faultOf 0x84 4 [] ∈ u.raised))

/-- Captures and compares (R64–R66): CAP_STROBE copies the position and sets CAP_FULL, or CAP_OVR with fault 0x82 where it was full; a
debounced press of PB_MAIN does so for the units that select it, in every state of the powered block; a compare that the advancing count reaches
sets MATCHED, moves on by its interval, and disables itself where that is zero. Completes: capStrobe, pbMainPress, compareInterpolationMatch. -/
def Obligations.StrobesCaptureAndComparesFire : Prop :=
  ∀ (s : State) (n : Fin 6) (p : Path), s.live →
    (∃ u : State, exec (.capStrobe p n) s = .next u.settle ∧ u.rd64 (R.COORD_CAP_LO n) (R.COORD_CAP_HI n) = s.coordPos n % 2 ^ 64 ∧
      s.sameRegs u [R.COORD_CAP_LO n, R.COORD_CAP_HI n, R.COORD_STATUS n] ∧
      (s.flag (R.COORD_STATUS n) F.COORD_STATUS_CAP_FULL = false →
        u.flag (R.COORD_STATUS n) F.COORD_STATUS_CAP_FULL = true ∧ u.raised = []) ∧
      (s.flag (R.COORD_STATUS n) F.COORD_STATUS_CAP_FULL = true →
        u.flag (R.COORD_STATUS n) F.COORD_STATUS_CAP_OVR = true ∧ u.raised = [faultOf 0x82 n []])) ∧
    (∃ u : State, exec .pbMainPress s = .next u.settle ∧
      (s.f (R.COORD_CFG n) F.COORD_CFG_CAP_SRC = 7 →
        u.rd64 (R.COORD_CAP_LO n) (R.COORD_CAP_HI n) = s.coordPos n % 2 ^ 64 ∧
        u.flag (R.COORD_STATUS n) F.COORD_STATUS_CAP_FULL = true) ∧
      (s.f (R.COORD_CFG n) F.COORD_CFG_CAP_SRC ≠ 7 →
        u.rd64 (R.COORD_CAP_LO n) (R.COORD_CAP_HI n) = s.rd64 (R.COORD_CAP_LO n) (R.COORD_CAP_HI n))) ∧
    (∀ (mains : Bool) (k : Fin 4), n.val = (if mains then 4 else 5) → s.cmpEn n k = true → s.cmpVal n k = s.coordPos n →
      s.coordMode n = 1 → ∃ u : State, exec (.compareInterpolationMatch mains k) s = .next u.settle ∧
        u.flag (R.COORD_CMP_CFG n k) F.COORD_CMP_CFG_MATCHED = true ∧
        u.cmpVal n k = coordAdd false (s.coordM n) (s.cmpVal n k) (s.cmpInt n k) % 2 ^ 64 ∧
        u.cmpEn n k = decide (s.cmpInt n k ≠ 0))

/-- STALL (R59): once STALL_ACC exceeds T_STALL the flag is set and fault 0x83 recorded, with what was observed and the limit; STALL_CLR clears
STALL_ACC, or is refused while the unit is BUSY. Writes of a unit's registers (R55, R57, R68, R442), where no later path of the cycle's order has
written the register (R437): a well-formed position is taken and clears STALE, a new modulus keeps the linear value where its turns hold it, a new
mode takes effect, a well-formed compare value or interval is taken; each is refused with REFUSED, and changes nothing else, where the unit is
BUSY or the value is not in normal form. Completes: coordStall, stallClr, coordPosWrite, coordModWrite, coordModeWrite, cmpValueWrite. -/
def Obligations.CoordinateStallAndWrites : Prop :=
  (∀ (s : State) (n : Fin 4) (p : Path), s.live →
    (s.tStall n < s.stallAcc n → s.flag (R.COORD_STATUS n) F.COORD_STATUS_STALL = false →
      ∃ u : State, exec (.coordStall n) s = .next u.settle ∧ u.flag (R.COORD_STATUS n) F.COORD_STATUS_STALL = true ∧
        s.onlyRegs u [R.COORD_STATUS n] [faultOf 0x83 n (faultRec (s.stallAcc n) (s.tStall n))]) ∧
    (s.coordBusy n = false → ∃ t, exec (.stallClr p n) s = .next t ∧ t.stallAcc n = 0 ∧ s.sameRegs t [R.COORD_STATUS n] ∧
      t = { s with regs := t.regs, coords := t.coords }) ∧
    (s.coordBusy n = true → ∃ t, exec (.stallClr p n) s = .next t ∧ s.onlyRegs t [R.COORD_STATUS n] [] ∧
      t.flag (R.COORD_STATUS n) F.COORD_STATUS_REFUSED = true ∧ t.stallAcc n = s.stallAcc n)) ∧
  (∀ (s : State) (n : Fin 4) (p : Path) (v : Word), s.live → s.laterWrote p (R.COORD_POS_HI n) = false →
    let x := s.staged p (R.COORD_POS_LO n) + 2 ^ 32 * v.toNat
    (s.coordBusy n = false → coordOk true (s.coordM n) x = true → ∃ t, exec (.coordPosWrite p n v) s = .next t ∧
      t.coordPos n = x ∧ t.flag (R.COORD_STATUS n) F.COORD_STATUS_STALE = false ∧
      s.sameRegs t [R.COORD_POS_LO n, R.COORD_POS_HI n, R.COORD_STATUS n]) ∧
    (s.coordBusy n = true ∨ coordOk true (s.coordM n) x = false → ∃ t, exec (.coordPosWrite p n v) s = .next t ∧
      s.onlyRegs t [R.COORD_STATUS n] [] ∧ t.flag (R.COORD_STATUS n) F.COORD_STATUS_REFUSED = true)) ∧
  (∀ (s : State) (n : Fin 4) (p : Path) (v : Word), s.live → s.laterWrote p (R.COORD_MOD n) = false →
    (s.coordBusy n = false → s.coordMode n = 0 → 2 ≤ getBits v 0 16 → ∃ u : State, exec (.coordModWrite p n v) s = .next u.settle ∧
      u.coordM n = getBits v 0 16 ∧ (linWraps (getBits v 0 16) (s.coordLin n) = false → u.coordLin n = s.coordLin n)) ∧
    (s.coordBusy n = true ∨ s.coordMode n ≠ 0 ∨ getBits v 0 16 < 2 → ∃ t, exec (.coordModWrite p n v) s = .next t ∧
      s.onlyRegs t [R.COORD_STATUS n] [] ∧ t.flag (R.COORD_STATUS n) F.COORD_STATUS_REFUSED = true)) ∧
  (∀ (s : State) (n : Fin 6) (p : Path) (v : Word), s.live → s.laterWrote p (R.COORD_CFG n) = false →
    ∃ t, exec (.coordModeWrite p n v) s = .next t ∧
      (n.val ≠ 5 → s.coordBusy n = false → t.coordMode n = getBits v 0 3) ∧
      (s.coordBusy n = true → getBits v 0 3 ≠ s.coordMode n → n.val ≠ 5 →
        t.coordMode n = s.coordMode n ∧ t.flag (R.COORD_STATUS n) F.COORD_STATUS_REFUSED = true) ∧
      (n.val = 5 → t.coordMode n = s.coordMode n)) ∧
  (∀ (s : State) (n : Fin 6) (k : Fin 4) (p : Path) (v : Word), s.live →
    (s.laterWrote p (R.COORD_CMP_VAL_HI n k) = false →
      let x := s.staged p (R.COORD_CMP_VAL_LO n k) + 2 ^ 32 * v.toNat
      (coordOk (travelUnit n) (s.coordM n) x = true → ∃ t, exec (.cmpValueWrite p n k false v) s = .next t ∧ t.cmpVal n k = x ∧
        s.onlyRegs t [R.COORD_CMP_VAL_LO n k, R.COORD_CMP_VAL_HI n k] []) ∧
      (coordOk (travelUnit n) (s.coordM n) x = false → ∃ t, exec (.cmpValueWrite p n k false v) s = .next t ∧
        s.onlyRegs t [R.COORD_STATUS n] [] ∧ t.flag (R.COORD_STATUS n) F.COORD_STATUS_REFUSED = true)) ∧
    (s.laterWrote p (R.COORD_CMP_INT_HI n k) = false →
      let x := s.staged p (R.COORD_CMP_INT_LO n k) + 2 ^ 32 * v.toNat
      coordOk (travelUnit n) (s.coordM n) x = true → ∃ t, exec (.cmpValueWrite p n k true v) s = .next t ∧ t.cmpInt n k = x ∧
        s.onlyRegs t [R.COORD_CMP_INT_LO n k, R.COORD_CMP_INT_HI n k] []))

/-- General timers (R71–R73): EN written 1 copies the preloads and starts the counter at the reload; EN written 0 stops it; FORCE_RELOAD copies and
loads at once; the wrap loads anew, or under ONESHOT stops the timer at zero; a match sets MATCH and moves the active compare on by the interval.
Timer captures and preloads (R64, R72, R75, R76): GPT_CAP_STROBE copies the counter, both halves of a chained pair, and sets CAP_FULL, or CAP_OVR where
it was full; a preload register takes a written word and leaves the running counter alone,
and a wrap of the same cycle copies the preloads as they were (R74); on the low timer of a chained pair the word waits
for the high register's write on the same path. Completes: gptEnable, forceReload, gptWrap, gptMatch, gptCapStrobe, gptPreloadWrite. -/
def Obligations.GeneralTimersReloadMatchAndCapture : Prop :=
  (∀ (s : State) (m : Fin 16) (p : Path) (v : Word), s.live →
    (s.laterWrote p (R.GPT_CFG m) = false → (m.val % 2 = 0 ∨ (getBits v 5 1 = 0 ∧ s.flag (R.GPT_CFG m) F.GPT_CFG_CHAIN = false)) →
      ∃ t, exec (.gptEnable p m v) s = .next t ∧
        (getBits v 0 1 = 1 → s.flag (R.GPT_CFG m) F.GPT_CFG_EN = false → t.gptRuns m = true ∧
          (t.gpt m).startVal = s.gptPre m R.GPT_RELOAD ∧ (t.gpt m).cmp = s.gptPre m R.GPT_CMP ∧ (t.gpt m).startAt = s.cyc) ∧
        (getBits v 0 1 = 0 → t.gptRuns m = false)) ∧
    (∃ t, exec (.forceReload p m) s = .next t ∧ (t.gpt (s.gptBase m)).startVal = s.gptPre (s.gptBase m) R.GPT_RELOAD ∧
      (t.gpt (s.gptBase m)).cmp = s.gptPre (s.gptBase m) R.GPT_CMP ∧ (t.gpt (s.gptBase m)).startAt = s.cyc ∧
      t = { s with gpts := t.gpts }) ∧
    (s.gptBase m = m → s.gptRuns m = true → (s.gpt m).startVal + 1 ≤ s.gptTicks m →
      ∃ u : State, exec (.gptWrap m) s = .next u.settle ∧ u.flag (R.GPT_STATUS m) F.GPT_STATUS_WRAP = true ∧
        (s.flag (R.GPT_CFG m) F.GPT_CFG_ONESHOT = true →
          u.gptRuns m = false ∧ (u.gpt m).startVal = 0 ∧ u.flag (R.GPT_CFG m) F.GPT_CFG_EN = false) ∧
        (s.flag (R.GPT_CFG m) F.GPT_CFG_ONESHOT = false → (u.gpt m).startVal = s.gptPre m R.GPT_RELOAD)) ∧
    (s.gptBase m = m → s.gptRuns m = true → s.gptTicks m ≤ (s.gpt m).startVal → s.gptValue m = (s.gpt m).cmp →
      (s.gpt m).matchKey ≠ (s.gpt m).startAt + s.gptTicks m * s.gptTick m + 1 →
      ∃ u : State, exec (.gptMatch m) s = .next u.settle ∧ u.flag (R.GPT_STATUS m) F.GPT_STATUS_MATCH = true ∧
        (u.gpt m).cmp = ((s.gpt m).cmp + s.gptPre m R.GPT_INTERVAL) % 2 ^ (if s.gptChained m then 64 else 32))) ∧
  (∀ (s : State) (m : Fin 16) (p : Path) (v : Word), s.live →
    (∃ t, exec (.gptCapStrobe p m) s = .next t ∧
      t.rdN (R.GPT_CAP (s.gptBase m)) = s.gptValue (s.gptBase m) % 2 ^ 32 ∧
      (s.gptChained m = true → t.rdN (R.GPT_CAP (s.gptBase m + 1)) = s.gptValue (s.gptBase m) / 2 ^ 32 % 2 ^ 32) ∧
      (s.flag (R.GPT_STATUS (s.gptBase m)) F.GPT_STATUS_CAP_FULL = false →
        t.flag (R.GPT_STATUS (s.gptBase m)) F.GPT_STATUS_CAP_FULL = true) ∧
      (s.flag (R.GPT_STATUS (s.gptBase m)) F.GPT_STATUS_CAP_FULL = true →
        t.flag (R.GPT_STATUS (s.gptBase m)) F.GPT_STATUS_CAP_OVR = true) ∧ t = { s with regs := t.regs, cycle := t.cycle }) ∧
    (s.gptChained m = false → s.laterWrote p (R.GPT_RELOAD m) = false → s.wrapDue m = true →
      ∃ u : State, exec (.gptPreloadWrite p m .reload v) s = .next u.settle ∧ u.rd (R.GPT_RELOAD m) = v ∧
        (s.flag (R.GPT_CFG m) F.GPT_CFG_ONESHOT = false → (u.gpt m).startVal = s.gptPre m R.GPT_RELOAD)) ∧
    (s.gptChained m = false → s.laterWrote p (R.GPT_RELOAD m) = false → s.wrapDue m = false →
      ∃ t, exec (.gptPreloadWrite p m .reload v) s = .next t ∧ t.rd (R.GPT_RELOAD m) = v ∧
        s.onlyRegs t [R.GPT_RELOAD m] [] ∧ t.gptValue m = s.gptValue m) ∧
    (s.gptChained m = false → s.laterWrote p (R.GPT_CMP m) = false → s.wrapDue m = false →
      ∃ t, exec (.gptPreloadWrite p m .cmp v) s = .next t ∧ t.rd (R.GPT_CMP m) = v ∧
        s.onlyRegs t [R.GPT_CMP m] [] ∧ (t.gpt m).cmp = (s.gpt m).cmp) ∧
    (s.gptChained m = true → m.val % 2 = 0 → s.laterWrote p (R.GPT_INTERVAL m) = false →
      s.laterWrote p (R.GPT_INTERVAL (m.val + 1)) = false →
      ∃ t, exec (.gptPreloadWrite p m .interval v) s = .next t ∧ s.sameRegs t [] ∧
        ∃ w : State, exec (.gptPreloadWrite p (m + 1) .interval v) t = .next w ∧ w.rd (R.GPT_INTERVAL m) = v ∧
          w.rd (R.GPT_INTERVAL (m.val + 1)) = v))

/-! Orders and Drill. -/

/-- An order that passes ADMIT (R81, R91, R92), when its turn comes among the sources (R77), is accepted: it takes a free slot of the Plan table with
its source and its place in the order of acceptance, and the accept count rises. Where a CHARGE_BY finds its energy reached already, its slot is
free again at once. Completes: deliver, hold, absorb, chargeBy, reserve. -/
def Obligations.AdmittedOrderTakesAFreeSlot : Prop :=
  ∀ (s : State) (src : Source) (e : List Byte), s.live → e.length = 64 →
    s.orderSource (srcNo src) = true → s.drillTakes (srcNo src) = true → (parseOrder e).chain = false →
    s.atFront (srcNo src) [e] = true → s.othersFirst (srcNo src) = false →
    (s.takeEntry (srcNo src) e).wouldAdmit (srcNo src) [e] = true →
    let counted := fun (u : State) => u.planSeq = s.planSeq + 1 ∧
      u.rdN R.DRILL_CNT_ACCEPT = (s.rdN R.DRILL_CNT_ACCEPT + 1) % 2 ^ 32
    let placed := fun (u : State) => ∃ (k : Nat) (p : Slot), k < 4096 ∧ slotAt s k = none ∧ slotAt u k = some p ∧ p.entry = e ∧
      p.src = srcNo src ∧ p.seq = s.planSeq ∧ p.active = false
    ((parseOrder e).op = opDeliver → ∃ u : State, exec (.deliver src e) s = .next u.settle ∧ counted u ∧ placed u) ∧
    ((parseOrder e).op = opHold → ∃ u : State, exec (.hold src e) s = .next u.settle ∧ counted u ∧ placed u) ∧
    ((parseOrder e).op = opAbsorb → ∃ u : State, exec (.absorb src e) s = .next u.settle ∧ counted u ∧ placed u) ∧
    ((parseOrder e).op = opReserve → ∃ u : State, exec (.reserve src e) s = .next u.settle ∧ counted u ∧ placed u) ∧
    ((parseOrder e).op = opChargeBy → ∃ u : State, exec (.chargeBy src e) s = .next u.settle ∧ counted u ∧
      (s.eRem ((parseOrder e).target - 8) < (parseOrder e).energy → placed u))

/-- CANCEL and FENCE (R100, R101): a CANCEL frees the slot of the order that it names; a FENCE holds its source until every order accepted before
it has ended, and then completes with status 0x00, or with 0x31 when TIME_BOUND passes first. A chained group is accepted whole (R99): every
member that takes a slot counts in the order of acceptance. Over CAN (R102), a frame of 64 bytes on the order identifier joins the entries that
wait, or the group it belongs to; one of another form counts in BAD_FRAME; a gap in a group rejects the members received.
Completes: cancel, fence, fenceRelease, fenceTimeBoundExpiry, chainedGroup, canOrderFrame, canChainGapExpiry. -/
def Obligations.CancelFenceAndGroups : Prop :=
  (∀ (s : State) (src : Source) (e : List Byte), s.live → e.length = 64 →
    (s.orderSource (srcNo src) = true → s.drillTakes (srcNo src) = true → (parseOrder e).chain = false →
      s.atFront (srcNo src) [e] = true → s.othersFirst (srcNo src) = false →
      (s.takeEntry (srcNo src) e).wouldAdmit (srcNo src) [e] = true →
      ((parseOrder e).op = opCancel → ∀ (k : Nat) (p : Slot), s.tagSlot (srcNo src) (parseOrder e).arg = some (k, p) →
        ∃ u : State, exec (.cancel src e) s = .next u.settle ∧ slotAt u k = none ∧ u.planSeq = s.planSeq) ∧
      ((parseOrder e).op = opFence →
        ∃ u : State, exec (.fence src e) s = .next u.settle ∧ (u.srcRt (srcNo src)).fence = some (e, s.planSeq) ∧
          u.plan = s.plan)) ∧
    (∀ seq : Nat, (s.srcRt (srcNo src)).fence = some (e, seq) →
      ((∀ q ∈ s.plan, q.2.src = srcNo src → seq ≤ q.2.seq) →
        ∃ u : State, exec (.fenceRelease src) s = .next u.settle ∧ (u.srcRt (srcNo src)).fence = none ∧ u.plan = s.plan ∧
          s.completesTo u (srcNo src) (orderCpl 0x00 (parseOrder e).op 0 true (parseOrder e).tag 0 0 0 s.now48 0) (parseOrder e).irq) ∧
      (s.absTime (parseOrder e).tBound < s.us →
        ∃ u : State, exec (.fenceTimeBoundExpiry src) s = .next u.settle ∧ (u.srcRt (srcNo src)).fence = none ∧
          s.completesTo u (srcNo src) (orderCpl 0x31 (parseOrder e).op 0 true (parseOrder e).tag 0 0 0 s.now48 0) (parseOrder e).irq))) ∧
  (∀ s : State, s.live →
    (∀ (src : Source) (es : List (List Byte)), s.orderSource (srcNo src) = true → s.drillTakes (srcNo src) = true →
      s.atFront (srcNo src) es = true → s.othersFirst (srcNo src) = false → chainBad (es.map parseOrder) = false →
      (es.foldl (fun t e => t.takeEntry (srcNo src) e) s).wouldAdmit (srcNo src) es = true →
      ∃ u : State, exec (.chainedGroup src es) s = .next u.settle ∧
        u.planSeq = s.planSeq + (es.filter (fun e => (parseOrder e).op != opCancel)).length) ∧
    (∀ (n : Fin 2) (f : CanFrame), s.canOrders n = true → s.canOrderId n f = true → s.canFd n = true →
      s.gapPassed (32 + n.val) = false →
      (f.fd = true → f.data.length = 64 → (s.can n).txq.length < 32 → (parseOrder f.data).chain = false →
        ∃ t, exec (.canOrderFrame n f) s = .next t ∧
          (t.srcRt (32 + n.val)).waiting = (s.srcRt (32 + n.val)).waiting ++ (s.srcRt (32 + n.val)).group ++ [f.data] ∧
          (t.srcRt (32 + n.val)).group = [] ∧ t = { s with srcs := t.srcs, sys := t.sys }) ∧
      (f.fd = true → f.data.length = 64 → (s.can n).txq.length < 32 → (parseOrder f.data).chain = true →
        ∃ t, exec (.canOrderFrame n f) s = .next t ∧ (t.srcRt (32 + n.val)).group = (s.srcRt (32 + n.val)).group ++ [f.data] ∧
          (t.srcRt (32 + n.val)).waiting = (s.srcRt (32 + n.val)).waiting ∧ t = { s with srcs := t.srcs, sys := t.sys }) ∧
      (f.fd = false ∨ f.data.length ≠ 64 → ∃ t, exec (.canOrderFrame n f) s = .next t ∧
        t.f (R.DRILL_CAN_STAT n) F.DRILL_CAN_STAT_BAD_FRAME =
          min (s.f (R.DRILL_CAN_STAT n) F.DRILL_CAN_STAT_BAD_FRAME + 1) (2 ^ F.DRILL_CAN_STAT_BAD_FRAME.w - 1) ∧
        s.onlyRegs t [R.DRILL_CAN_STAT n] [])) ∧
    (∀ n : Fin 2, (s.srcRt (32 + n.val)).group ≠ [] → (s.srcRt (32 + n.val)).groupAt + 400000 < s.cyc →
      ∃ u : State, exec (.canChainGapExpiry n) s = .next u.settle ∧
        (u.srcRt (32 + n.val)).group = [] ∧ u.plan = s.plan ∧
        u.rdN R.DRILL_CNT_REJECT = (s.rdN R.DRILL_CNT_REJECT + (s.srcRt (32 + n.val)).group.length) % 2 ^ 32))

/-- The endings of R85, R95 and R96: an order whose energy is reached, whose held t_out or whose TIME_BOUND has passed, a CHARGE_BY whose
deadline passes short of its energy, and an order of Class A or B whose voltage stayed outside its window for 3 ticks, each give their slot
back; a breach is counted where the rules name one. No other slot changes. Completes: orderEnergyReached, orderToutExpiry,
orderTimeBoundExpiry, chargeByDeadline, voltWindowBreach. -/
def Obligations.OrdersEndAndFreeTheirSlots : Prop :=
  ∀ (s : State) (k : Fin 4096) (p : Slot), s.live → slotAt s k = some p →
    let freed := fun (u : State) (breach : Nat) => slotAt u k = none ∧
      (∀ j, j ≠ k.val → slotAt u j = slotAt s j) ∧ u.rdN R.DRILL_CNT_BREACH = (s.rdN R.DRILL_CNT_BREACH + breach) % 2 ^ 32
    (s.energyReached p = true → ∃ u : State, exec (.orderEnergyReached k) s = .next u.settle ∧ freed u 0) ∧
    (p.order.unit < 4 → p.tOut < s.us → p.order.op = opReserve ∨ p.active = false →
      ∃ u : State, exec (.orderToutExpiry k) s = .next u.settle ∧ freed u 0) ∧
    (p.order.unit < 4 → p.tOut < s.us → p.order.op ≠ opReserve → p.active = true → p.order.cls ≠ 2 →
      ∃ u : State, exec (.orderToutExpiry k) s = .next u.settle ∧ freed u 1) ∧
    (s.absTime p.order.tBound < s.us → (p.order.op ≠ opChargeBy ∨ p.active = false) →
      ∃ u : State, exec (.orderTimeBoundExpiry k) s = .next u.settle ∧ freed u 0) ∧
    (p.order.op = opChargeBy → s.absTime p.order.wEnd < s.us → s.eRem (p.order.target - 8) < p.order.energy → p.order.cls ≠ 2 →
      ∃ u : State, exec (.chargeByDeadline k) s = .next u.settle ∧ freed u 1) ∧
    (p.active = true → p.order.cls < 2 → (p.order.op = opDeliver ∨ p.order.op = opHold) → 3 ≤ p.bad →
      ∃ u : State, exec (.voltWindowBreach k) s = .next u.settle ∧ freed u 1)

/-- The tick and re-validation (R29, R34, R94, R95): a tick takes its snapshot of TRIM and counts; REVAL_MS after the last one a
re-validation starts; when one ends, REVAL is clear and its time and causes start anew. Completes: drillTick, revalMsExpiry,
revalidationDone. -/
def Obligations.TickAndRevalidationTakeTheirSnapshot : Prop :=
  ∀ s : State, s.live →
    (∀ o : TickObs, o.ok = true → s.sys.starting = false → ∃ u : State, exec (.drillTick o) s = .next u.settle ∧
      u.tick = s.tick + 1 ∧
      u.trim = (List.range 8).map (fun n => s.f (R.MODEL_STAGE_EFF_TRIM n) F.MODEL_STAGE_EFF_TRIM_TRIM)) ∧
    (s.revalAt + 1000 * max 10 (s.f R.DRILL_CFG F.DRILL_CFG_REVAL_MS) ≤ s.us →
      ∃ t, exec .revalMsExpiry s = .next t ∧ t.flag R.DRILL_STATUS F.DRILL_STATUS_REVAL = true ∧ s.onlyRegs t [R.DRILL_STATUS] []) ∧
    (s.flag R.DRILL_STATUS F.DRILL_STATUS_REVAL = true → ∃ u : State, exec .revalidationDone s = .next u.settle ∧
      u.flag R.DRILL_STATUS F.DRILL_STATUS_REVAL = false ∧ u.revalAt = s.us ∧ u.revalCause = [])

/-- The fabric (R27, R28): Headland's COMMIT starts a check on a copy of the fabric registers and holds every stage off; a description without
fault comes into force and is VALID; one with a fault is INVALID, with its error and fault 0x60, and the one in force stays. Another master's
COMMIT is refused (R11). A profile (R176, R177): a commit checks a copy of the window, but is refused with error 8 while the pack charges; an
image without fault is VALID and restarts the phase machine at phase 0; one with a fault is INVALID, with its error and fault 0x53, and the
references are zero. Completes: fabCommit, fabricCheckDone, profileCommit, profileCheckDone. -/
def Obligations.FabricAndProfileCommitsCheckACopy : Prop :=
  (∀ s : State, s.live →
    (s.fabState ≠ 1 → (s.fabState = 2 → s.plan = [] ∧ s.anyRuns = false) →
      ∃ u : State, exec (.fabCommit .headland) s = .next u.settle ∧ u.fabState = 1 ∧ u.fabCheck = some s.fabCopy ∧ u.fab = s.fab ∧
        ∀ n : Fin 8, u.stageState n = stOff) ∧
    (∀ p : Path, p ≠ .headland → ∃ u : State, exec (.fabCommit p) s = .next u.settle ∧
      (s.rd R.FAB_CTRL = 0#32 → s.onlyRegs u [] [faultOf 0xB0 (pathNo p) (leBytes 4 R.FAB_CTRL)])) ∧
    (∀ t : Tab Word, s.fabState = 1 → s.fabCheck = some t →
      (fabVerdict t = none → ∃ u : State, exec .fabricCheckDone s = .next u.settle ∧ u.fabState = 2 ∧ u.fab = some t ∧
        u.f R.FAB_STATUS F.FAB_STATUS_ERR = 0) ∧
      (∀ err idx : Nat, fabVerdict t = some (err, idx) → ∃ u : State, exec .fabricCheckDone s = .next u.settle ∧ u.fabState = 3 ∧
        u.f R.FAB_STATUS F.FAB_STATUS_ERR = err % 2 ^ F.FAB_STATUS_ERR.w ∧ u.fab = s.fab ∧
        u.raised = [faultOf 0x60 0 (faultRec err idx)]))) ∧
  (∀ (s : State) (i : Fin 4) (p : Path), s.live →
    (s.profBusy i = false → ∃ t, exec (.profileCommit p i) s = .next t ∧ t.f (R.PACK_PROFILE i) F.PACK_PROFILE_STATE = 3 ∧
      (t.pack i).checking = s.profWindow i ∧ s.sameRegs t [R.PACK_PROFILE i]) ∧
    (s.profBusy i = true → ∃ t, exec (.profileCommit p i) s = .next t ∧ t.f (R.PACK_PROFILE i) F.PACK_PROFILE_ERR = 8 ∧
      t.f (R.PACK_PROFILE i) F.PACK_PROFILE_STATE = s.f (R.PACK_PROFILE i) F.PACK_PROFILE_STATE ∧
      s.onlyRegs t [R.PACK_PROFILE i] []) ∧
    (s.f (R.PACK_PROFILE i) F.PACK_PROFILE_STATE = 3 →
      (s.profCheck i (s.pack i).checking = none → ∃ u : State, exec (.profileCheckDone i) s = .next u.settle ∧
        u.profValid i = true ∧ (u.pack i).prof = (s.pack i).checking ∧ u.phaseOf i = 0 ∧
        (s.chState i ≠ chLocked → u.chState i = chStopped)) ∧
      (∀ e k : Nat, s.profCheck i (s.pack i).checking = some (e, k) → ∃ u : State, exec (.profileCheckDone i) s = .next u.settle ∧
        u.f (R.PACK_PROFILE i) F.PACK_PROFILE_STATE = 2 ∧ u.f (R.PACK_PROFILE i) F.PACK_PROFILE_ERR = e % 16 ∧
        (u.pack i).prof = [] ∧ u.rd (R.PACK_CHG_SETPT i) = 0#32 ∧ u.raised = [faultOf 0x53 i (faultRec e k)])))

/-! Stages, rails and pins. -/

/-- The command of a stage (R113, R115, R116): of the loops that take part, the lowest is selected; a control period that is due (R112) leaves the
stage's history with a command in 0 to U_MAX, whatever the loops give; and a compare lies between the least a boost-acting channel holds and the
largest that T_MINOFF leaves. LOOP_APPLY and the compares (R111, R117): while the stage does not run the shadow set becomes the active one at once,
and only that changes; while it runs the next control period takes it, and the compare that waited becomes the active one there.
Completes: controlPeriod, loopApply. -/
def Obligations.StageCommandAndCoefficients : Prop :=
  ((∀ (l : List (Nat × Option Int)) (k : Nat) (x : Int), selectLoop l none = some (k, x) →
      (k, some x) ∈ l ∧ ∀ p ∈ l, ∀ y, p.2 = some y → x ≤ y) ∧
    (∀ l : List (Nat × Option Int), selectLoop l none = none ↔ ∀ p ∈ l, p.2 = none) ∧
    (∀ (s : State) (n : Fin 8) (o : CtlObs), s.live → s.stageRuns n = true → s.ctlDue n = true →
      ∃ t, exec (.controlPeriod n o) s = .next t ∧
        0 ≤ (t.stage n).uHist.getD 0 0 ∧ (t.stage n).uHist.getD 0 0 ≤ (s.f (R.STAGE_MOD n) F.STAGE_MOD_U_MAX * 2 ^ 20 : Nat) ∧
        t.stageState n = s.stageState n ∧ (t.stage n).imon = o.imon) ∧
    (∀ (s : State) (n num den : Nat) (boost : Bool), (s.cmpOf n num den boost).1 ≤
        max (s.cmpMax n) (if boost then (64 * s.stPer n + 25) / 50 else 0) ∧
      (boost = true → (64 * s.stPer n + 25) / 50 ≤ (s.cmpOf n num den boost).1))) ∧
  (∀ (s : State) (n : Fin 8) (p : Path), s.live →
    (s.stageRuns n = false → ∃ t, exec (.loopApply p n) s = .next t ∧ (t.stage n).coef = s.shadow n ∧
      t = { s with stages := t.stages }) ∧
    (s.stageRuns n = true → ∃ t, exec (.loopApply p n) s = .next t ∧ (t.stage n).coef = (s.stage n).coef ∧
      t = { s with stages := t.stages } ∧
      (s.ctlDue n = true → ∀ o : CtlObs, ∃ u, exec (.controlPeriod n o) t = .next u ∧ (u.stage n).coef = s.shadow n ∧
        (u.stage n).applyPend = false ∧
        ∀ (a : Nat) (l : List Nat), (s.stage n).cmpNext = a :: l → u.f (R.STAGE_DUTY n) F.STAGE_DUTY_CMP = a % 2 ^ F.STAGE_DUTY_CMP.w)))

/-- The comparator of a channel (R123, R124): a crossing outside the blank marks the present switching period of the channel's owner as limited; limited
periods are counted in a row, one between them starts the count anew, and CBC_COUNT of them trip the stage with fault 0x21; a CBC_COUNT
of zero disables the trip. Completes: cbcCrossing, cbcPersist. -/
def Obligations.CbcPersistTripsAfterItsCount : Prop :=
  ∀ (s : State) (n : Fin 8), s.live →
    (∀ (hb : Fin 24) (mv : Nat), s.ownerOf hb = some n → s.stageRuns n = true → s.cbcHit n hb mv = true →
      ∃ t, exec (.cbcCrossing hb mv) s = .next t ∧ t.flag (R.STAGE_STATUS n) F.STAGE_STATUS_CBC_ACT = true ∧
        (t.stage n).cbcLast = some (s.pwmPeriod n) ∧ s.sameRegs t [R.STAGE_STATUS n] ∧ t = { s with regs := t.regs, stages := t.stages } ∧
        ((s.stage n).cbcLast = some (s.pwmPeriod n) → (t.stage n).cbcRun = (s.stage n).cbcRun) ∧
        (∀ j, (s.stage n).cbcLast = some j → j + 1 = s.pwmPeriod n → (t.stage n).cbcRun = (s.stage n).cbcRun + 1) ∧
        (∀ j, (s.stage n).cbcLast = some j → j + 1 < s.pwmPeriod n → (t.stage n).cbcRun = 1) ∧
        ((s.stage n).cbcLast = none → (t.stage n).cbcRun = 1)) ∧
    (s.stageRuns n = true → s.f (R.STAGE_CBC_CFG n) F.STAGE_CBC_CFG_CBC_COUNT ≠ 0 →
      s.f (R.STAGE_CBC_CFG n) F.STAGE_CBC_CFG_CBC_COUNT ≤ (s.stage n).cbcRun → s.cbcWithin n 2 = true →
      ∃ u : State, exec (.cbcPersist n) s = .next u.settle ∧ u.stageState n = stTripped ∧ s.sameRegs u (R.DRILL_STATUS :: stopRegs n) ∧
        u.raised = [faultOf 0x21 n (faultRec (s.stage n).cbcRun (s.f (R.STAGE_CBC_CFG n) F.STAGE_CBC_CFG_CBC_COUNT))]) ∧
    (s.f (R.STAGE_CBC_CFG n) F.STAGE_CBC_CFG_CBC_COUNT = 0 → exec (.cbcPersist n) s = .next s)

/-- The other trips of a stage: START_SHORT and START_SLOW 2 ms after soft start, by the measured voltage of the controlled node (R127, R131), loop A at
U_MAX (R116), and HB_FLT of a group, which trips every running stage of it (R125). Completes: startShortCheck, loopSat, hbFltAssert. -/
def Obligations.StagesTripOnTheirFaults : Prop :=
  ∀ (s : State) (n : Fin 8), s.live → s.stageRuns n = true →
    (∀ vOut : Nat, (s.stage n).ssDone = true → (s.stage n).ssAcc + 2000 ≤ s.us →
      let v := (s.measured (s.stRecv n (s.stageDir n)) vOut).1
      let limit := s.f (R.STAGE_STATUS n) F.STAGE_STATUS_SEL = 1 ∨ s.f (R.STAGE_STATUS n) F.STAGE_STATUS_SEL = 2 ∨
        s.cbcWithin n 16 = true
      (5 * v < (s.stage n).ssTarget → limit → ∃ u : State, exec (.startShortCheck n vOut) s = .next u.settle ∧
        u.stageState n = stTripped ∧ s.sameRegs u (R.DRILL_STATUS :: stopRegs n) ∧
        u.raised = [faultOf 0x20 n (faultRec v (s.stage n).ssTarget)]) ∧
      ((s.stage n).ssTarget ≤ 5 * v → 10 * v < 9 * (s.stage n).ssTarget → ¬ limit →
        ∃ u : State, exec (.startShortCheck n vOut) s = .next u.settle ∧ s.sameRegs u [] ∧
          u.raised = [faultOf 0x28 n (faultRec v (s.stage n).ssTarget)])) ∧
    (800000 ≤ (s.stage n).satCnt * s.ctlCounts n → ∃ u : State, exec (.loopSat n) s = .next u.settle ∧
      u.stageState n = stTripped ∧ s.sameRegs u (R.DRILL_STATUS :: stopRegs n) ∧
      u.raised = [faultOf 0x27 n (faultRec (natOf (s.stage n).iOut) (natOf (s.stage n).iRef))]) ∧
    (∀ g : Fin 4, s.stInGroup n g = true → ∃ u : State, exec (.hbFltAssert g) s = .next u.settle ∧ u.stageState n = stTripped ∧
      faultOf 0x22 g [] ∈ u.raised)

/-- The moves of the state machine (R119, R120, R126): identification leaves READY, or LOCKED with fault 0x23; a reversing stage below 2 % of its limit
takes the set and the direction that were wanted, its histories preset to the measured voltage, or trips with fault 0x24 where R140 refuses the
set; 10 ms at a ceiling of zero return a running stage to READY. An AUTO_ON rail (R130, R132): with every rail of a lower START_ORDER in regulation
and none of its own stages running, the stage chosen for it, where nothing forbids its start, soft-starts the rail from its measured voltage.
Completes: hbIdentDone, reversalZeroCurrent, stageIdleTimeout, autoOnStart. -/
def Obligations.StageStartsReversesAndIdles : Prop :=
  (∀ (s : State) (n : Fin 8), s.live →
    (∀ (flt : Fin 16) (imon : List Nat), s.stageState n = stIdent →
      let off := s.f (R.STAGE_IMON n) F.STAGE_IMON_IMON_OFFSET
      let good := (∀ g : Fin 4, s.stInGroup n g = true → bitsOf flt.val g 1 ≠ 1) ∧
        ∀ k, k < (hbList (s.stHb n)).length → 9 * off ≤ 10 * imon.getD k 0 ∧ 10 * imon.getD k 0 ≤ 11 * off
      (good → ∃ u : State, exec (.hbIdentDone n flt imon) s = .next u.settle ∧ u.stageState n = stReady ∧ u.raised = [] ∧
        s.sameRegs u [R.STAGE_STATUS n]) ∧
      (¬ good → ∃ u : State, exec (.hbIdentDone n flt imon) s = .next u.settle ∧ u.stageState n = stLocked ∧
        s.onlyRegs u [R.STAGE_STATUS n] [faultOf 0x23 n (leBytes 4 flt)])) ∧
    (∀ vCtl : Nat, s.stageState n = stReversing → (s.stage n).ramping = true →
      (toSigned 32 (s.rdN (R.STAGE_IL n))).natAbs * 50 < s.f (R.STAGE_CBC n) F.STAGE_CBC_CBC_POS * 100 →
      ((s.loadSet n (s.stage n).dirWant).isSome = true →
        ∃ u : State, exec (.reversalZeroCurrent n vCtl) s = .next u.settle ∧ u.stageDir n = (s.stage n).dirWant ∧
          (u.stage n).uHist = List.replicate 3 (((s.measured (s.stRecv n (s.stage n).dirWant) vCtl).1 * 2 ^ 20 : Nat) : Int) ∧
          (u.stage n).ramping = false ∧ u.flag (R.STAGE_STATUS n) F.STAGE_STATUS_DE = true) ∧
      ((s.loadSet n (s.stage n).dirWant).isNone = true →
        ∃ u : State, exec (.reversalZeroCurrent n vCtl) s = .next u.settle ∧ u.stageState n = stTripped ∧
          u.raised = [faultOf 0x24 n (leBytes 4 (s.setName n (s.stage n).dirWant))] ∧
          s.sameRegs u (R.DRILL_STATUS :: stopRegs n))) ∧
    (s.stageState n = stRun → 1000 ≤ (s.stage n).zeroTicks → s.standing n = false →
      (∀ r, s.stageRail n = some r → s.flag (R.RAIL_CFG r) F.RAIL_CFG_AUTO_ON = false) →
      ∃ u : State, exec (.stageIdleTimeout n) s = .next u.settle ∧ u.stageState n = stReady ∧ u.raised = [] ∧
        s.sameRegs u (stopRegs n))) ∧
  (∀ (s : State) (r n : Fin 8) (rev : Bool), s.live → s.declared r = true → s.flag (R.RAIL_CFG r) F.RAIL_CFG_AUTO_ON = true →
    (∀ q : Fin 8, s.declared q = true → s.flag (R.RAIL_CFG q) F.RAIL_CFG_AUTO_ON = true →
      s.f (R.RAIL_CFG q) F.RAIL_CFG_START_ORDER < s.f (R.RAIL_CFG r) F.RAIL_CFG_START_ORDER →
      s.flag (R.RAIL_STATUS q) F.RAIL_STATUS_PGOOD = true) →
    (∀ m : Fin 8, s.stageRuns m = false) → s.autoStage r = some (n.val, rev) → s.stRecv n rev = r →
    s.flag (R.RAIL_STATUS r) F.RAIL_STATUS_PGOOD = false → s.mayStart n = true → s.startBad n rev = none →
    (s.loadSet n rev).isSome = true →
    ∃ u : State, exec (.autoOnStart r) s = .next u.settle ∧ u.stageState n = stSoft ∧ u.stageDir n = rev ∧
      u.f (R.RAIL_STATUS r) F.RAIL_STATUS_REF = s.f (R.RAIL_VFB r) F.RAIL_VFB_V ∧ u.raised = [])

/-- The pins and setpoints of the pin-commanded rails (R127, R133, R134, R136, R137), where no later path of the cycle's order has written the register
(R437): a stable pattern selects the setpoint, but not while a member rail is in soft start; a mask that names an undeclared rail or one of the
other group, or any mask under an order on a member, is refused, and so is a setpoint outside the range of a member, or any setpoint while an
order targets one; a default setpoint is taken in its rail's declared range and ignored outside. Completes: vselPattern, vselCfgWrite,
vselSpWrite, railSpWrite. -/
def Obligations.PinPatternsSelectTheSetpoint : Prop :=
  ∀ (s : State) (p : Path) (g : Fin 2) (v : Word), s.live →
    (∀ pat : Fin 8, g.val < s.sys.vselPins.length →
      (∀ r ∈ maskRails (s.vselMask g), s.softStage r = none) →
      ∃ t, exec (.vselPattern g pat) s = .next t ∧ t.f (R.VSEL_CFG g) F.VSEL_CFG_PINS = pat ∧
        (s.flag (R.VSEL_CFG g) F.VSEL_CFG_EN = true → t.f (R.VSEL_CFG g) F.VSEL_CFG_ACTIVE = pat) ∧ s.sameRegs t [R.VSEL_CFG g]) ∧
    (s.laterWrote p (R.VSEL_CFG g) = false →
      let bad := (∃ r ∈ maskRails (getBits v 8 8), s.declared r = false ∨ bitsOf (s.vselMask (1 - g.val)) r 1 = 1) ∨
        s.maskOrdered (s.vselMask g) = true ∨ s.maskOrdered (getBits v 8 8) = true
      (¬ bad → ∃ t, exec (.vselCfgWrite p g v) s = .next t ∧ t.vselMask g = getBits v 8 8 ∧
        t.f (R.VSEL_CFG g) F.VSEL_CFG_EN = getBits v 0 1) ∧
      (bad → ∃ t, exec (.vselCfgWrite p g v) s = .next t ∧ t.vselMask g = s.vselMask g ∧
        t.flag (R.VSEL_CFG g) F.VSEL_CFG_REFUSED = true)) ∧
    (∀ k : Fin 8, s.laterWrote p (R.VSEL_SP g k) = false →
      let bad := s.maskOrdered (s.vselMask g) = true ∨
        ∃ r ∈ maskRails (s.vselMask g), getBits v 0 16 < s.nodeVmin r ∨ s.nodeVmax r < getBits v 0 16
      (¬ bad → ∃ t, exec (.vselSpWrite p g k v) s = .next t ∧ t.rd (R.VSEL_SP g k) = v &&& 0x00FFFFFF#32 ∧
        s.onlyRegs t [R.VSEL_SP g k] []) ∧
      (bad → ∃ t, exec (.vselSpWrite p g k v) s = .next t ∧ t.flag (R.VSEL_CFG g) F.VSEL_CFG_REFUSED = true ∧
        s.onlyRegs t [R.VSEL_CFG g] [])) ∧
    (∀ r : Fin 8, s.laterWrote p (R.RAIL_SP r) = false →
      (s.declared r = true → s.nodeVmin r ≤ getBits v 0 16 → getBits v 0 16 ≤ s.nodeVmax r →
        ∃ t, exec (.railSpWrite p r v) s = .next t ∧ t.f (R.RAIL_SP r) F.RAIL_SP_DEF_SP = getBits v 0 16 ∧
          s.onlyRegs t [R.RAIL_SP r] []) ∧
      (s.declared r = false ∨ getBits v 0 16 < s.nodeVmin r ∨ s.nodeVmax r < getBits v 0 16 →
        ∃ t, exec (.railSpWrite p r v) s = .next t ∧ s.onlyRegs t [] []))

/-! Inputs, path switches, hand-over and the solar tracker. -/

/-- A supply comes up (R142, R144, R150): in range and enabled it qualifies, and out of range it is ABSENT again; after the time of qualification its
SERIES switch begins to close; at GATE_OK the supply is ONLINE; without GATE_OK 1 ms after closure began the switch opens with fault 0x64, and the
supply is in FAULT. A reverse trip (R39, R151, R152) opens its switch, counts in TRIPS and is fault 0x63, the third within 1 s fault 0x68 as
well; outside the egress configuration the comparator of a pack switch whose PERMIT is both is inactive. REV_HOLD after the trip the switch of a pack
may close again. Completes: inputInRange, inputOutOfRange, inputQualifyDone, pswGateOk, pswGateTimeout, pswReverseTrip, revHoldExpiry. -/
def Obligations.SuppliesQualifyAndReverseTrip : Prop :=
  (∀ (s : State) (x : Supply) (mv : Nat), s.live → mv < 65536 →
    (s.supState (supNo x) = supAbsent → s.supEnabled (supNo x) = true → s.supInRange (supNo x) mv = true →
      ∃ t, exec (.inputInRange x mv) s = .next t ∧ t.supState (supNo x) = supQualify ∧ t.supV (supNo x) = mv ∧
        (t.supply (supNo x)).qualAt = s.cyc) ∧
    (s.supState (supNo x) = supQualify → s.supInRange (supNo x) mv = false →
      ∃ t, exec (.inputOutOfRange x mv) s = .next t ∧ t.supState (supNo x) = supAbsent ∧ t.supV (supNo x) = mv) ∧
    (∀ w : Fin 12, s.supState (supNo x) = supQualify → (s.supply (supNo x)).ready = false →
      s.supInRange (supNo x) (s.supV (supNo x)) = true → (s.supply (supNo x)).qualAt + s.qualifyCycles ≤ s.cyc →
      s.seriesOf (supNode (supNo x)) = some w.val → s.mayClose w = true → s.safeOn = false →
      ∃ t, exec (.inputQualifyDone x) s = .next t ∧ t.supState (supNo x) = supClosing ∧ t.pswClosed w = true) ∧
    (∀ w : Fin 12, s.pswClosed w = true → s.pswOk w = false → s.pswRole w = 1 → supOfNode (s.pswA w) = some (supNo x) →
      s.supState (supNo x) = supClosing →
      (∃ t, exec (.pswGateOk w) s = .next t ∧ t.pswOk w = true ∧ t.supState (supNo x) = supOnline) ∧
      ((s.supply (supNo x)).closeAt + 200000 ≤ s.cyc → ∃ u : State, exec (.pswGateTimeout w) s = .next u.settle ∧
        u.pswClosed w = false ∧ u.supState (supNo x) = supFault ∧ u.raised = [faultOf 0x64 w []]))) ∧
  (∀ (s : State) (w : Fin 12), s.live →
    let pack := isPack (s.pswA w) && s.pswRole w == 1
    (s.pswClosed w = true → (pack = true → s.f (R.PSW_STATUS w) F.PSW_STATUS_PERMIT ≠ 3 ∨ s.safeOn = true) →
      ∃ u : State, exec (.pswReverseTrip w) s = .next u.settle ∧ u.pswClosed w = false ∧
        u.flag (R.PSW_STATUS w) F.PSW_STATUS_REV_TRIP = true ∧
        u.f (R.PSW_STATUS w) F.PSW_STATUS_TRIPS = min (s.f (R.PSW_STATUS w) F.PSW_STATUS_TRIPS + 1) 255 ∧
        faultOf 0x63 w [] ∈ u.raised ∧
        (2 ≤ ((s.psw w).trips.filter (fun t => decide (s.cyc < t + 200000000))).length → faultOf 0x68 w [] ∈ u.raised) ∧
        (u.psw w).hold = pack) ∧
    (pack = true → s.safeOn = false → s.f (R.PSW_STATUS w) F.PSW_STATUS_PERMIT = 3 → exec (.pswReverseTrip w) s = .next s) ∧
    ((s.psw w).hold = true → (s.psw w).trips.headD 0 + s.f (R.PSW_REV w) F.PSW_REV_REV_HOLD * 2000000 ≤ s.cyc →
      ∃ t, exec (.revHoldExpiry w) s = .next t ∧ (t.psw w).hold = false ∧ t = { s with psws := t.psws }))

/-- An ONLINE source is lost (R142, R156): below its loss threshold throughout LOSS_DGL it is LOST, an input with fault 0x61; above its over-voltage
limit for 1 µs an input is in FAULT with fault 0x62; an input whose EN is cleared is LOST. In each case every stage that drew from it is released
with a ceiling of zero, and its SERIES switch is open. Hand-over and transfer back (R156, R158, R161): a hand-over whose re-validation has run
leaves its rail in PACKS, and a rail that left its regulation meanwhile is fault 0x66; a rail in PACKS with a source ONLINE transfers back once
HOLD_MS has passed, noting the time, and ends in SOURCED or SUPPLEMENT. Completes: inputLoss, inputOv, inputDisable, handoverComplete,
transferBackStart, transferBackDone. -/
def Obligations.LossHandsOverAndTransfersBack : Prop :=
  (∀ (s : State) (x : Supply) (mv t : Nat), s.live → s.supState (supNo x) = supOnline →
    let released := fun (u : State) =>
      (∀ n : Fin 8, n.val ∈ s.stagesOutOf (supNode (supNo x)) → u.stageRuns n = false ∧ u.stageCeil n = 0) ∧
      (∀ w : Fin 12, s.seriesOf (supNode (supNo x)) = some w.val → u.pswClosed w = false)
    (mv < s.lossMv (supNo x) → (s.supply (supNo x)).below = some t → t + s.lossCycles (supNo x) ≤ s.cyc →
      ∃ u : State, exec (.inputLoss x mv) s = .next u.settle ∧ u.supState (supNo x) = supLost ∧ released u ∧
        (supNo x < 3 → mv < 65536 → faultOf 0x61 (supNo x) (faultRec mv (s.lossMv (supNo x))) ∈ u.raised)) ∧
    (∀ n : Fin 3, x = .input n →
      (s.ovMv n < mv → (s.supply n).above = some t → t + 200 ≤ s.cyc →
        ∃ u : State, exec (.inputOv n mv) s = .next u.settle ∧ u.supState n = supFault ∧ released u ∧
          u.flag (R.INPUT_STATUS n) F.INPUT_STATUS_OV = true ∧ faultOf 0x62 n (faultRec mv (s.ovMv n)) ∈ u.raised) ∧
      (∀ p : Path, ∃ u : State, exec (.inputDisable p n) s = .next u.settle ∧ u.supState n = supLost ∧ released u ∧
        u.flag (R.INPUT_CFG n) F.INPUT_CFG_EN = false))) ∧
  (∀ (s : State) (r : Fin 8), s.live →
    (s.railSupply r = supHandover → (s.xfer r).revalDone = true → (∀ x ∈ (s.xfer r).lost, x < 6) →
      ∃ u : State, exec (.handoverComplete r) s = .next u.settle ∧ u.railSupply r = supPacks ∧ (u.xfer r).lost = [] ∧
        (∀ v, (s.xfer r).low = some v →
          u.raised = [faultOf 0x66 r (faultRec v (s.f (R.RAIL_STATUS r) F.RAIL_STATUS_REF))]) ∧
        ((s.xfer r).low = none → u.raised = [])) ∧
    (∀ (x : Nat) (l : List Nat), s.railSupply r = supPacks → s.onlineOn r = x :: l → s.holdPassed r = true →
      ∃ t, exec (.transferBackStart r) s = .next t ∧ t.railSupply r = supTransfer ∧ (t.xfer r).src = x ∧ (t.xfer r).ramp = 0 ∧
        t.rd64 (R.SUPPLY_XFER_LAST_LO r) (R.SUPPLY_XFER_LAST_HI r) = s.now48 ∧
        s.sameRegs t [R.SUPPLY_STATUS r, R.SUPPLY_XFER_LAST_LO r, R.SUPPLY_XFER_LAST_HI r]) ∧
    (s.railSupply r = supTransfer → s.onlineOn r ≠ [] → (s.rail r).load ≤ (s.xfer r).ramp ∨ s.sourcedState r = supSupplement →
      ∃ t, exec (.transferBackDone r) s = .next t ∧ (t.railSupply r = supSourced ∨ t.railSupply r = supSupplement) ∧
        s.sameRegs t [R.SUPPLY_STATUS r]))

/-- The tracker (R149), once 10 ms have passed since its last step: a step holds V_OP where loop D has not limited a stage of INPUT_2, and
otherwise moves it by STEP, the other way where the power fell, within its range; a sweep step keeps the best point, steps down by eight STEPs,
and at the lower end takes the best point into V_OP and PMPP; a periodic sweep begins at the upper end; low power for 60 s while LIMITED
is fault 0x67, once. Completes: mpptStep, mpptSweep, mpptNoPower. -/
def Obligations.TrackerPerturbsAndSweeps : Prop :=
  ∀ (s : State) (mw : Nat), s.live → s.mpptOn = true →
    let limited := (s.stagesOutOf 18).any (fun k => bitsOf (s.stage k).selHist 3 1 == 1)
    let up := s.flag R.INPUT_2_MPPT_STATUS F.INPUT_2_MPPT_STATUS_DIR != decide (mw < s.mppt.pLast)
    let best := if mw > s.mppt.bestP then (mw, s.vOp) else (s.mppt.bestP, s.mppt.bestV)
    (s.mpptDue = true → s.mpptMin < s.mpptMax → s.flag R.INPUT_2_MPPT_STATUS F.INPUT_2_MPPT_STATUS_RANGE_ERR = false →
      (s.flag R.INPUT_2_MPPT_STATUS F.INPUT_2_MPPT_STATUS_SWEEPING = false →
        (∃ t, exec (.mpptStep mw) s = .next t ∧ t.mppt.pLast = mw ∧
          t.flag R.INPUT_2_MPPT_STATUS F.INPUT_2_MPPT_STATUS_LIMITED = limited ∧
          (limited = false → t.vOp = s.vOp) ∧
          (limited = true → t.flag R.INPUT_2_MPPT_STATUS F.INPUT_2_MPPT_STATUS_DIR = up ∧
            t.vOp = min (max (if up then s.vOp + s.mpptStepMv else s.vOp - s.mpptStepMv) s.mpptMin) s.mpptMax)) ∧
        (s.sweepDue = true → ∃ t, exec (.mpptSweep mw) s = .next t ∧ t.vOp = s.mpptMax ∧
          t.flag R.INPUT_2_MPPT_STATUS F.INPUT_2_MPPT_STATUS_SWEEPING = true)) ∧
      (s.flag R.INPUT_2_MPPT_STATUS F.INPUT_2_MPPT_STATUS_SWEEPING = true →
        ∃ t, exec (.mpptSweep mw) s = .next t ∧
          (s.vOp ≤ s.mpptMin → t.vOp = best.2 % 65536 ∧ t.rdN R.INPUT_2_MPPT_PMPP = best.1 % 2 ^ 32 ∧
            t.flag R.INPUT_2_MPPT_STATUS F.INPUT_2_MPPT_STATUS_SWEEPING = false) ∧
          (s.mpptMin < s.vOp → t.vOp = max s.mpptMin (s.vOp - 8 * s.mpptStepMv) ∧ t.mppt.bestP = best.1 ∧ t.mppt.bestV = best.2))) ∧
    (∀ c : Nat, s.flag R.INPUT_2_MPPT_STATUS F.INPUT_2_MPPT_STATUS_LIMITED = true → s.mppt.lowAt = some c →
      s.mppt.lowTold = false → c + 12000000000 ≤ s.cyc →
      ∃ u : State, exec .mpptNoPower s = .next u.settle ∧ u.mppt.lowTold = true ∧ s.sameRegs u [] ∧
        u.raised = [faultOf 0x67 2 (faultRec s.mppt.pLast
          (if s.rdN (R.INPUT_BUDGET 2) = 0 then 1000 else s.rdN (R.INPUT_BUDGET 2) / 100))])

/-! Pack charging. -/

/-- The zones (R169, R205): from any zone the zone machine comes to rest, in a zone that no boundary moves it out of, and a temperature between
the boundaries of the present zone leaves it there. The temperature of a declared pack (R168, R170, R205): an over-temperature alarm, and the lack of
any reading, put the pack in Z5; without them, at the NTC's nominal resistance the reading is 25.0 °C and the zone follows it. An NTC out of range for
1 s is fault 0x54 and locks the charge function; back in range for 1 s its reading is used again. The charger watchdog and the charge configuration
(R180, R189, R190): KICK 0xA5 restarts the period and clears WDT_EXP, another value does nothing; the whole period without a kick sets
WDT_EXP with fault 0x52; a write of CHG_CFG takes its fields, WDT_EN = 0 has no expiry, and background charge enabled on a stopped pack with nothing
against it starts it. Completes: zoneEval, ntcFault, ntcRecovered, chgWdtKick, chgWdtExpiry, chgCfgWrite. -/
def Obligations.ZonesAndChargerSettings : Prop :=
  (∀ (b : List Byte) (z : Nat) (t : Int), z ≤ 5 →
    zoneMove b z t 6 ≤ 5 ∧ zoneMove b (zoneMove b z t 6) t 1 = zoneMove b z t 6 ∧
    ((0 < z → pfBound b (z - 1) ≤ t) → (z < 5 → t < pfBound b z) → zoneMove b z t 6 = z) ∧
    (z < zoneMove b z t 6 → pfBound b z ≤ t) ∧ (zoneMove b z t 6 < z → t < pfBound b (z - 1))) ∧
  (∀ (s : State) (i : Fin 4) (rNtc since : Nat), s.live → s.declared (8 + i.val) = true →
    (∃ t, exec (.zoneEval i rNtc) s = .next t ∧
      (alHot (s.pack i).alarms = true → t.zoneOf i = 5) ∧
      ((s.pack i).ntcBad = true → s.flag (R.PACK_LINK_STATUS i) F.PACK_LINK_STATUS_T_VALID = false → t.zoneOf i = 5) ∧
      (alHot (s.pack i).alarms = false → (s.pack i).hot = false → (s.pack i).ntcBad = false → s.profValid i = true →
        s.flag (R.PACK_LINK_STATUS i) F.PACK_LINK_STATUS_T_VALID = false → rNtc ≠ 0 →
        rNtc = s.f (R.PACK_NTC_CFG i) F.PACK_NTC_CFG_RNOM * 10 → s.f (R.PACK_NTC_CFG i) F.PACK_NTC_CFG_BETA ≠ 0 →
        t.f (R.PACK_TEMP i) F.PACK_TEMP_T_NTC = 250 ∧ t.f (R.PACK_TEMP i) F.PACK_TEMP_T_ZONE = 250 ∧
        t.zoneOf i = zoneMove (s.pack i).prof (s.zoneOf i) 250 6)) ∧
    ((s.pack i).ntcSince = some since → since + 200000000 ≤ s.cyc →
      ((s.pack i).ntcBad = false → s.ntcOut i rNtc = true → ∃ u : State, exec (.ntcFault i rNtc) s = .next u.settle ∧
        (u.pack i).ntcBad = true ∧ u.chState i = chLocked ∧ faultOf 0x54 i (faultRec rNtc 0) ∈ u.raised ∧
        (s.flag (R.PACK_LINK_STATUS i) F.PACK_LINK_STATUS_T_VALID = false → u.zoneOf i = 5)) ∧
      ((s.pack i).ntcBad = true → s.ntcOut i rNtc = false → ∃ u : State, exec (.ntcRecovered i rNtc) s = .next u.settle ∧
        (u.pack i).ntcBad = false ∧ u.raised = []))) ∧
  (∀ (s : State) (i : Fin 4) (p : Path) (v : Word), s.live →
    (getBits v 0 8 = 0xA5 → ∃ u : State, exec (.chgWdtKick p i v) s = .next u.settle ∧ (u.pack i).wdtAt = s.cyc ∧
      u.flag (R.PACK_CHG_STATUS i) F.PACK_CHG_STATUS_WDT_EXP = false ∧ s.sameRegs u [R.PACK_CHG_STATUS i] ∧
      (s.cyc < (s.pack i).wdtAt + s.chgWdtCycles i → u.raised = [])) ∧
    (getBits v 0 8 ≠ 0xA5 → exec (.chgWdtKick p i v) s = .next s) ∧
    (s.flag (R.PACK_CHG_CFG i) F.PACK_CHG_CFG_WDT_EN = true → s.flag (R.PACK_CHG_STATUS i) F.PACK_CHG_STATUS_WDT_EXP = false →
      (s.pack i).wdtAt + min 600 (max 10 (s.f (R.PACK_CHG_CFG i) F.PACK_CHG_CFG_WDT_S)) * 200000000 ≤ s.cyc →
      ∃ u : State, exec (.chgWdtExpiry i) s = .next u.settle ∧ u.flag (R.PACK_CHG_STATUS i) F.PACK_CHG_STATUS_WDT_EXP = true ∧
        s.onlyRegs u [R.PACK_CHG_STATUS i] [faultOf 0x52 i (faultRec (min 600 (max 10 (s.f (R.PACK_CHG_CFG i) F.PACK_CHG_CFG_WDT_S)))
          (min 600 (max 10 (s.f (R.PACK_CHG_CFG i) F.PACK_CHG_CFG_WDT_S))))]) ∧
    (s.laterWrote p (R.PACK_CHG_CFG i) = false →
      ∃ u : State, exec (.chgCfgWrite p i v) s = .next u.settle ∧ u.rd (R.PACK_CHG_CFG i) = v &&& 0x03FF0007#32 ∧
        (pfMode (s.pack i).prof (s.phaseOf i) ≠ mdRest → pfMode (s.pack i).prof (s.phaseOf i) ≠ mdFloat →
          s.sameRegs u [R.PACK_CHG_CFG i, R.PACK_CHG_STATUS i, R.PACK_CHG_SETPT i] ∧ u.raised = []) ∧
        (getBits v 2 1 = 0 → u.flag (R.PACK_CHG_STATUS i) F.PACK_CHG_STATUS_WDT_EXP = false) ∧
        (getBits v 0 2 = 3 → s.chState i = chStopped → s.profValid i = true → s.f (R.PACK_CHG_FAULT i) F.PACK_CHG_FAULT_CAUSE = 0 →
          s.heldCharge i = false → pfMode (s.pack i).prof (s.phaseOf i) ≠ mdRest → u.chState i = chCharging)))

/-- The second of the phase machine (R179, R180): in CHARGING with a VALID profile, V_REACH for its whole dwell ends the phase and the next one begins;
without an exit condition, a mean current below 1 % of I_SET pauses the charge; a stopped or locked charge function stays, with the means taken. A
tick pauses a charge whose cell gives no current, with fault 0x55 where the profile's cell is zero (R180, R206). The phase timer and the
latch (R186–R188): at its limit TIMER_END ends the phase normally, and otherwise the charge function locks, with fault 0x51 where half-rate counting
was in force, else 0x50, its latch noting phase and zone; reading the latch sets SEEN; a clear that Harrow accepts empties it, and one
that it refuses sets CLR_REFUSED. Completes: chgExitEval, chgTimerExpiry, chgFaultRead, chgClear. -/
def Obligations.ChargePhasesEndAndLatch : Prop :=
  (∀ (s : State) (i : Fin 4) (o : ChgObs), s.live →
    let b := (s.pack i).prof
    (s.profValid i = true → s.chState i = chCharging → s.tilthSlow i = false → pfExit b (s.phaseOf i) 0 = true →
      (s.pack i).secV ≤ o.vMean + pfMargin b (s.phaseOf i) → pfDwell b (s.phaseOf i) ≤ (s.pack i).dwells.getD 0 0 + 1 →
      ∃ u : State, exec (.chgExitEval i o) s = .next u.settle ∧ u.phaseOf i = pfNext b (s.phaseOf i) ∧
        (u.pack i).vMean = o.vMean ∧ (u.pack i).phaseSec = 0) ∧
    (s.profValid i = true → s.chState i = chCharging → (∀ k, k < 5 → pfExit b (s.phaseOf i) k = false) →
      100 * o.iMean < ((s.pack i).iRef : Int) → 0 < (s.pack i).iRef → ∃ u : State, exec (.chgExitEval i o) s = .next u.settle ∧
        u.chState i = chPaused ∧ u.phaseOf i = s.phaseOf i ∧ (u.pack i).pauseWant = true ∧ u.raised = []) ∧
    (s.chState i = chStopped ∨ s.chState i = chLocked → ∃ u : State, exec (.chgExitEval i o) s = .next u.settle ∧
      u.chState i = s.chState i ∧ u.phaseOf i = s.phaseOf i ∧ (u.pack i).vMean = o.vMean ∧ (u.pack i).iMean = o.iMean ∧ u.raised = []) ∧
    (s.chState i = chCharging → s.iChg i (s.phaseOf i) (s.zoneOf i) = 0 → (s.zonePause i).chState i = chPaused ∧
      (pfIChg b (s.phaseOf i) (s.zoneOf i) = 0 → (s.zonePause i).raised = [faultOf 0x55 i (faultRec (s.zoneOf i) (s.phaseOf i))]))) ∧
  (∀ (s : State) (i : Fin 4) (p : Path), s.live →
    let b := (s.pack i).prof
    let id := if s.flag (R.PACK_CHG_STATUS i) F.PACK_CHG_STATUS_THERM_SEEN then 0x51 else 0x50
    (s.chState i = chCharging → s.profValid i = true → s.timerExpired i = true →
      (pfExit b (s.phaseOf i) 5 = true → ∃ u : State, exec (.chgTimerExpiry i) s = .next u.settle ∧
        u.phaseOf i = pfNext b (s.phaseOf i)) ∧
      (pfExit b (s.phaseOf i) 5 = false → ∃ u : State, exec (.chgTimerExpiry i) s = .next u.settle ∧ u.chState i = chLocked ∧
        u.rdN (R.PACK_CHG_FAULT i) = id + 256 * s.phaseOf i + 4096 * s.zoneOf i ∧
        faultOf id i (faultRec (s.rdN (R.PACK_CHG_TIMER i)) (pfTimer b (s.phaseOf i))) ∈ u.raised)) ∧
    (∃ t, exec (.chgFaultRead p i) s = .next t ∧ t.outbox = s.outbox ++ [.readData p (R.PACK_CHG_FAULT i) (s.rd (R.PACK_CHG_FAULT i))] ∧
      t.flag (R.PACK_CHG_FAULT i) F.PACK_CHG_FAULT_SEEN = true ∧ s.sameRegs t [R.PACK_CHG_FAULT i]) ∧
    (∀ id : Nat, s.f (R.PACK_CHG_FAULT i) F.PACK_CHG_FAULT_CAUSE = id → id = 0x50 ∨ id = 0x51 ∨ id = 0x54 →
      (s.clearCause id i = 0 → ∃ u : State, exec (.chgClear p i) s = .next u.settle ∧
        u.f (R.PACK_CHG_FAULT i) F.PACK_CHG_FAULT_CAUSE = 0 ∧ (u.hrwInst id i).st = .clear) ∧
      (s.clearCause id i ≠ 0 → ∃ t, exec (.chgClear p i) s = .next t ∧
        t.flag (R.PACK_CHG_STATUS i) F.PACK_CHG_STATUS_CLR_REFUSED = true ∧ s.onlyRegs t [R.PACK_CHG_STATUS i] [])))

/-! Pack links, Tilth and the CAN ports. -/

/-- The link of a pack comes and goes (R197, R198, R202): a write that changes LINK_MODE drops the link and starts identification where the mode is 1
or 2; RETRY failed polls, or three periods without a status frame, lose it with fault 0x40, and what it imposed lapses; a pack that sagged below
2,500 mV and has come back is identified again. Identification (R199, R200): the reads of an SMBus pack give its identifier by CRC-32C and its
chemistry, and the identity frame of a CAN pack its serial number; either puts the link UP, and an identifier other than the last one is another
pack: fault 0x41, and the phase machine starts anew. Polls and frames of a link that is UP (R201, R203, R207): a poll's values are taken when it is
due, a failed one is counted, both its tries; a status frame whose counter follows gives current, limits and E_REM, and one whose counter does not is
counted and ignored; an identity frame of the same pack refreshes E_FULL. In LOST a success starts identification.
Completes: linkCfgWrite, packLinkLost, packReinsert, packIdentDone, packIdentityFrame, packPoll, packStatusFrame. -/
def Obligations.LinkIsIdentifiedAndRead : Prop :=
  (∀ (s : State) (i : Fin 4) (p : Path) (v : Word), s.live →
    let new := if getBits v 0 2 = 3 then 0 else getBits v 0 2
    (s.laterWrote p (R.PACK_LINK_CFG i) = false →
      (new ≠ s.linkMode i → ∃ u : State, exec (.linkCfgWrite p i v) s = .next u.settle ∧ u.linkMode i = new ∧
        u.linkState i = (if new = 0 then lkOff else lkIdent) ∧ (u.pack i).linkI = none ∧ (u.pack i).linkV = none) ∧
      (new = s.linkMode i → ∃ u : State, exec (.linkCfgWrite p i v) s = .next u.settle ∧ u.linkMode i = new ∧
        u.linkState i = s.linkState i ∧ u.packs = s.packs ∧ s.sameRegs u [R.PACK_LINK_CFG i]) ∧
      (p ≠ .headland → ∃ u : State, exec (.linkCfgWrite p i v) s = .next u.settle ∧
        u.f (R.PACK_LINK_CFG i) F.PACK_LINK_CFG_REQUIRED = s.f (R.PACK_LINK_CFG i) F.PACK_LINK_CFG_REQUIRED)) ∧
    ((s.linkState i = lkIdent ∨ s.linkState i = lkUp) →
      (s.linkMode i = 1 → max 1 (s.f (R.PACK_LINK_CFG i) F.PACK_LINK_CFG_RETRY) ≤ (s.pack i).fails) →
      (s.linkMode i ≠ 1 → (s.pack i).linkAt + 3 * s.pollUs i ≤ s.us) →
      ∃ u : State, exec (.packLinkLost i) s = .next u.settle ∧ u.linkState i = lkLost ∧
        u.flag (R.PACK_LINK_STATUS i) F.PACK_LINK_STATUS_T_VALID = false ∧ (u.pack i).linkI = none ∧
        faultOf 0x40 i [] ∈ u.raised) ∧
    (s.linkState i = lkUp → (s.pack i).sagged = true → 2500 < (s.pack i).vPack →
      ∃ t, exec (.packReinsert i) s = .next t ∧ t.linkState i = lkIdent ∧ (t.pack i).identAt = s.us) ∧
    (s.linkState i ≠ lkUp → exec (.packReinsert i) s = .next s)) ∧
  (∀ (s : State) (i : Fin 4), s.live → s.linkState i = lkIdent →
    let identified := fun (u : State) (id chem : Nat) => u.linkState i = lkUp ∧ u.rdN (R.PACK_ID i) = id ∧
      u.f (R.PACK_LINK_STATUS i) F.PACK_LINK_STATUS_CHEM = chem ∧ (u.pack i).prevId = some id ∧
      ∀ q, (s.pack i).prevId = some q → q ≠ id → u.phaseOf i = 0 ∧ faultOf 0x41 i (faultRec id q) ∈ u.raised
    (∀ o : SmbIdent, s.linkMode i = 1 → ∃ u : State, exec (.packIdentDone i o) s = .next u.settle ∧
      identified u (crc32c (o.serial ++ o.date ++ o.maker ++ o.device ++ o.chem)) (chemOf o.chem)) ∧
    (∀ (n : Fin 2) (f : CanFrame), s.packFrame i 1 n f = true → f.data.length = 16 → (s.pack i).lastStatus = [] →
      ∃ u : State, exec (.packIdentityFrame i n f) s = .next u.settle ∧ identified u (leAt f.data 0 4) (leAt f.data 4 1 % 8))) ∧
  (∀ (s : State) (i : Fin 4), s.live →
    (s.linkMode i = 1 → s.linkState i = lkUp → (s.pack i).pollAt + s.pollUs i ≤ s.us →
      (∀ (o : SmbPoll) (again : List (Fin 10 × SmbFail)), ∃ u : State, exec (.packPoll i (.ok o again)) s = .next u.settle ∧
        u.f (R.PACK_LINK_VT i) F.PACK_LINK_VT_V = o.voltage % 65536 ∧ (u.pack i).linkAt = s.us ∧ (u.pack i).fails = 0 ∧
        u.f (R.PACK_LINK_STATUS i) F.PACK_LINK_STATUS_PSTAT = o.status % 65536) ∧
      (∃ t, exec (.packPoll i (.failed [] 0 .nack .nack)) s = .next t ∧ (t.pack i).fails = (s.pack i).fails + 1 ∧
        t.f (R.PACK_LINK_ERR i) F.PACK_LINK_ERR_NACK = min (s.f (R.PACK_LINK_ERR i) F.PACK_LINK_ERR_NACK + 2) 255 ∧
        s.sameRegs t [R.PACK_LINK_ERR i])) ∧
    (∀ (o : SmbPoll) (again : List (Fin 10 × SmbFail)), s.linkMode i = 1 → s.linkState i = lkLost →
      ∃ t, exec (.packPoll i (.ok o again)) s = .next t ∧ t.linkState i = lkIdent) ∧
    (∀ (n : Fin 2) (f : CanFrame), s.packFrame i 0 n f = true → f.data.length = 24 →
      ((∀ q, (s.pack i).cnt = some q → (q + 1) % 16 = leAt f.data 23 1 % 16) →
        (s.linkState i = lkUp → ∃ u : State, exec (.packStatusFrame i n f) s = .next u.settle ∧
          u.rdN (R.PACK_LINK_I i) = leAt f.data 2 4 ∧ u.rdN (R.PACK_LINK_CHG i) = leAt f.data 8 4 ∧
          u.rd64 (R.PACK_EREM_LO i) (R.PACK_EREM_HI i) = leAt f.data 14 6 ∧ (u.pack i).linkAt = s.us ∧
          (u.pack i).cnt = some (leAt f.data 23 1 % 16)) ∧
        (s.linkState i = lkLost → ∃ t, exec (.packStatusFrame i n f) s = .next t ∧ t.linkState i = lkIdent ∧
          (t.pack i).lastStatus = f.data)) ∧
      (∀ q : Nat, s.linkState i ≠ lkOff → (s.pack i).cnt = some q → (q + 1) % 16 ≠ leAt f.data 23 1 % 16 →
        ∃ t, exec (.packStatusFrame i n f) s = .next t ∧ (t.pack i).cnt = none ∧ s.sameRegs t [R.PACK_LINK_ERR i] ∧
          t.f (R.PACK_LINK_ERR i) F.PACK_LINK_ERR_SEQ_ERR = min (s.f (R.PACK_LINK_ERR i) F.PACK_LINK_ERR_SEQ_ERR + 1) 255)) ∧
    (∀ (n : Fin 2) (f : CanFrame), s.packFrame i 1 n f = true → f.data.length = 16 → s.linkState i = lkUp →
      leAt f.data 0 4 = s.rdN (R.PACK_ID i) → ∃ t, exec (.packIdentityFrame i n f) s = .next t ∧ t.eFull i = leAt f.data 8 6 ∧
        t.linkState i = lkUp ∧ t.f (R.PACK_LINK_DSG i) F.PACK_LINK_DSG_CYCLES = leAt f.data 6 2))

/-- Tilth and the health record (R208, R211–R215): a START, or the interval's end, begins a sweep at its first point, MEASURING or WAITING; a good
point is stored and counted; a second point without its amplitude ends the sweep with fault 0x45, an ABORT ends it without, and 900 s end it with
LAST 3 and fault 0x45; the hourly record is written once E_REM has changed by more than 1 % of E_FULL. A CAN port goes bus-off, counted and with
fault 0x4E, and returns by itself only under AUTO_BO (R220). Completes: tilthStart, tilthIntervalExpiry, tilthAbort, tilthTimeout, tilthPointDone,
packHealthWrite, canBusOff, canBusOffRecovery. -/
def Obligations.TilthSweepsAndBusOff : Prop :=
  (∀ (s : State) (i : Fin 4) (p : Path), s.live →
    let started := fun (t : State) => t.tilthState i = (if s.tilthOk i then 1 else 2) ∧ t.tilthPoint i = 0 ∧
      t.f (R.PACK_TILTH_STATUS i) F.PACK_TILTH_STATUS_POINTS = 0 ∧ (t.pack i).sweepAt = s.us ∧ s.sameRegs t [R.PACK_TILTH_STATUS i]
    let ended := fun (u : State) (last : Nat) => u.tilthState i = 0 ∧ u.f (R.PACK_TILTH_STATUS i) F.PACK_TILTH_STATUS_LAST = last ∧
      s.sameRegs u [R.PACK_TILTH_STATUS i]
    (s.tilthState i = 0 → ∃ t, exec (.tilthStart p i) s = .next t ∧ started t) ∧
    (s.tilthState i ≠ 0 → exec (.tilthStart p i) s = .next s) ∧
    (s.tilthState i = 0 → s.flag (R.PACK_TILTH_CFG i) F.PACK_TILTH_CFG_EN = true →
      s.f (R.PACK_TILTH_CFG i) F.PACK_TILTH_CFG_INTERVAL_H ≠ 0 →
      s.absTime (s.rd64 (R.PACK_TILTH_TIME_LO i) (R.PACK_TILTH_TIME_HI i))
        + s.f (R.PACK_TILTH_CFG i) F.PACK_TILTH_CFG_INTERVAL_H * 3600000000 ≤ s.us →
      ∃ t, exec (.tilthIntervalExpiry i) s = .next t ∧ started t) ∧
    (s.tilthState i ≠ 0 →
      (∃ t, exec (.tilthAbort p i) s = .next t ∧ ended t 2) ∧
      ((s.pack i).sweepAt + 900000000 ≤ s.us → ∃ u : State, exec (.tilthTimeout i) s = .next u.settle ∧ ended u 3 ∧
        u.raised = [faultOf 0x45 i []])) ∧
    (∀ o : TilthObs, s.tilthState i = 1 → s.tilthOk i = true → s.pointOver i = true →
      let amp : Int := ((s.tilthAmp i).getD 0 : Nat)
      (4 * (o.iRe * o.iRe + o.iIm * o.iIm) < amp * amp → 1 ≤ (s.pack i).ampFails →
        ∃ u : State, exec (.tilthPointDone i o) s = .next u.settle ∧ ended u 2 ∧ u.raised = [faultOf 0x45 i []]) ∧
      (amp * amp ≤ 4 * (o.iRe * o.iRe + o.iIm * o.iIm) → ∃ u : State, exec (.tilthPointDone i o) s = .next u.settle ∧
        u.rdN (R.PACK_Z_RE i (s.tilthPoint i)) = ofSigned 32 (s.pointZ o).1 ∧
        u.rdN (R.PACK_Z_IM i (s.tilthPoint i)) = ofSigned 32 (s.pointZ o).2.1 ∧
        u.f (R.PACK_TILTH_STATUS i) F.PACK_TILTH_STATUS_POINTS =
          min (s.f (R.PACK_TILTH_STATUS i) F.PACK_TILTH_STATUS_POINTS + 1) (2 ^ F.PACK_TILTH_STATUS_POINTS.w - 1))) ∧
    (∀ mv : Nat, (s.pack i).hourAt + 3600000000 ≤ s.us →
      let e := s.rd64 (R.PACK_EREM_LO i) (R.PACK_EREM_HI i)
      let d := (e - (s.pack i).healthE) + ((s.pack i).healthE - e)
      (s.eFull i < 100 * d → ∃ u : State, exec (.packHealthWrite i mv none) s = .next u.settle ∧ (u.pack i).healthE = e ∧
        (u.pack i).hourAt = s.us) ∧
      (100 * d ≤ s.eFull i → ∃ t, exec (.packHealthWrite i mv none) s = .next t ∧ (t.pack i).hourAt = s.us ∧
        t = { s with packs := t.packs }))) ∧
  (∀ (s : State) (n : Fin 2), s.live →
    (s.flag (R.CAN_CFG n) F.CAN_CFG_EN = true → s.f (R.CAN_STATUS n) F.CAN_STATUS_STATE ≠ 2 →
      ∃ u : State, exec (.canBusOff n) s = .next u.settle ∧ u.f (R.CAN_STATUS n) F.CAN_STATUS_STATE = 2 ∧
        u.f (R.CAN_STATUS n) F.CAN_STATUS_BO_CNT = min (s.f (R.CAN_STATUS n) F.CAN_STATUS_BO_CNT + 1) 255 ∧
        s.onlyRegs u [R.CAN_STATUS n] [faultOf 0x4E n []]) ∧
    (s.f (R.CAN_STATUS n) F.CAN_STATUS_STATE = 2 →
      (s.flag (R.CAN_CFG n) F.CAN_CFG_AUTO_BO = true → ∃ t, exec (.canBusOffRecovery n) s = .next t ∧
        t.f (R.CAN_STATUS n) F.CAN_STATUS_STATE = 0 ∧ s.onlyRegs t [R.CAN_STATUS n] []) ∧
      (s.flag (R.CAN_CFG n) F.CAN_CFG_AUTO_BO = false → exec (.canBusOffRecovery n) s = .next s)))
/-! Type-C ports and Power Delivery. -/

/-- Attach (R225, R226, R228; the unattached states are those of USB Type-C, the model's log 64): before its configuration a port with dead-battery Rd remembers a Source; an unattached port whose presentation fits a
partner waits for tCCDebounce, after which it attaches, unless TRY sends a DRP port to Try.SRC or Try.SNK first; it takes its power and
data role and its orientation. A DRP port that is not attached changes its presentation by the DRP timer. Detach (R252): the contract is
dropped and VCONN turns off, by CC at once and by VBUS below 3,670 mV for 10 µs; once VBUS has fallen the port is unattached, its supply ABSENT and its
cable forgotten. Completes: portAttach, drpToggle, portDetach, detachDischarged. -/
def Obligations.AttachAndDetach : Prop :=
  (∀ (s : State) (n : Fin 3) (o : AttachObs), s.live →
      ((s.port n).configured = false → o.asSource = false → ∃ t, exec (.portAttach n o) s = .next t ∧ (t.port n).seen = some o ∧
        t.supV (3 + n.val) = min o.vbus 65535 ∧ t.conn n = s.conn n) ∧
      ((s.port n).configured = true → s.roleAllows n o.asSource = true → s.heldPort n = false →
        let role := s.cfgOf n F.PORT_CFG_ROLE
        let try_ := s.cfgOf n F.PORT_CFG_TRY
        let attaches := ∃ u : State, exec (.portAttach n o) s = .next u.settle ∧
          u.conn n = (if o.asSource then cnSource else cnSink) ∧ u.isSrc n = o.asSource ∧
          u.flag (R.PORT_STATUS n) F.PORT_STATUS_DATA_ROLE = o.asSource ∧ u.flag (R.PORT_STATUS n) F.PORT_STATUS_FLIP = o.flip ∧
          u.supV (3 + n.val) = min o.vbus 65535
        (s.conn n = cnUnattached → (role = 2 ∨ (role = 3 ∧ (s.port n).presSrc = true) ↔ o.asSource = true) →
          ∃ t, exec (.portAttach n o) s = .next t ∧ t.conn n = (if o.asSource then cnWaitSrc else cnWaitSnk) ∧
            s.sameRegs t [R.PORT_STATUS n]) ∧
        (s.heldFor (s.port n).ccAt (120 * msCyc) = true →
          (o.asSource = true → s.conn n = cnWaitSrc → (role = 3 ∧ try_ = 2 →
              ∃ t, exec (.portAttach n o) s = .next t ∧ t.conn n = cnTrySnk ∧ t.timerAt n .drpTryWait = some s.cyc) ∧
            (¬ (role = 3 ∧ try_ = 2) → attaches)) ∧
          (o.asSource = false → 3670 ≤ o.vbus → s.conn n = cnWaitSnk → (role = 3 ∧ try_ = 1 →
              ∃ t, exec (.portAttach n o) s = .next t ∧ t.conn n = cnTrySrc ∧ t.timerAt n .drpTry = some s.cyc) ∧
            (¬ (role = 3 ∧ try_ = 1) → attaches)) ∧
          (o.asSource = false → 3670 ≤ o.vbus → s.conn n = cnTryWaitSnk → attaches)) ∧
        (o.asSource = true → s.conn n = cnTrySrc ∨ s.conn n = cnTryWaitSrc → attaches)) ∧
      (s.cfgOf n F.PORT_CFG_ROLE = 3 → (s.port n).configured = true → s.conn n = cnUnattached →
        let d := s.f (R.PORT_CFG n) F.PORT_CFG_DRP_DUTY
        let d := if 3 ≤ d ∧ d ≤ 7 then d else 5
        ((s.port n).toggleAt + (if (s.port n).presSrc then d else 10 - d) * 1500000 ≤ s.cyc →
          ∃ t, exec (.drpToggle n) s = .next t ∧ (t.port n).presSrc = !(s.port n).presSrc ∧ (t.port n).toggleAt = s.cyc ∧
            t = { s with ports := t.ports }) ∧
        (s.cyc < (s.port n).toggleAt + (if (s.port n).presSrc then d else 10 - d) * 1500000 → exec (.drpToggle n) s = .next s))) ∧
  (∀ (s : State) (n : Fin 3) (byVbus : Bool), s.live → (s.port n).configured = true →
      (s.attached n = true → (byVbus = true → s.conn n = cnSink ∧ (s.port n).hardRecov = false ∧ (s.port n).frs = false ∧
          s.heldFor (s.port n).lowAt 2000 = true) →
        ∃ u : State, exec (.portDetach n byVbus) s = .next u.settle ∧
          (u.port n).detach = (if byVbus then 2 else 1) ∧ u.explicit n = false ∧ u.rd (R.PORT_CONTRACT n) = 0#32 ∧ u.rd (R.PORT_RDO n) = 0#32 ∧
          u.flag (R.PORT_STATUS n) F.PORT_STATUS_VCONN_ON = false) ∧
      ((s.port n).detach ≠ 0 → s.supV (3 + n.val) ≤ 800 → ∃ u : State, exec (.detachDischarged n) s = .next u.settle ∧
        u.conn n = cnUnattached ∧ u.supState (3 + n.val) = supAbsent ∧ u.rd (R.PORT_CABLE n) = 0#32 ∧ (u.port n).detach = 0))

/-- VBUS and VCONN (R227, R228, R230, R231): a Source port proven at vSafe0V for 1 ms brings its node to 5,000 mV, in a Hard Reset recovery waits
tSrcRecover, and in a swap to Sink sends PS_RDY; not proven in 650 ms, or with a CC pin above 6,000 mV, it enters ErrorRecovery with fault 0x73 or
0x79 and without contract, the pin at high impedance; VBUS above its limit for 10 µs opens the switch with fault 0x75; a VCONN limit that has
acted for 1 ms turns VCONN off with fault 0x74. The configuration of a port (R225, R226, R232, R233, R254): PORT_n_CFG takes a word whose POLICY the
port may have, and keeps POLICY where the port may not have it; the first write by Headland ends dead-battery Rd, or attaches the port as Sink
to the Source it has seen; a cable that answers Discover Identity is recorded; BC 1.2 detection sets BC and the current of the supply.
Completes: vbusSafe0v, vbusNotSafe0v, ccOv, portOv, vconnOc, portCfgWrite, cableDiscovery, bcDetectionDone. -/
def Obligations.VbusVconnAndPortConfiguration : Prop :=
  (∀ (s : State) (n : Fin 3) (mv : Nat), s.live →
      let recovering := fun (u : State) => u.conn n = cnErrorRecovery ∧ u.explicit n = false ∧ u.rd (R.PORT_CONTRACT n) = 0#32 ∧
        u.flag (R.PORT_STATUS n) F.PORT_STATUS_VCONN_ON = false
      (s.attached n = true → (s.port n).srcStep = 1 →
        (s.heldFor (s.port n).safeAt msCyc = true →
          ((s.port n).hardRecov = false → (s.port n).prSwap = false → ∃ t, exec (.vbusSafe0v n) s = .next t ∧
            (t.port n).refMv = 5000 ∧ (t.port n).srcStep = 3 ∧ (t.port n).dschg = false ∧ t = { s with ports := t.ports }) ∧
          ((s.port n).hardRecov = true → ∃ t, exec (.vbusSafe0v n) s = .next t ∧ t.timerAt n .srcRecover = some s.cyc ∧
            (t.port n).dschg = false ∧ t = { s with ports := t.ports }) ∧
          ((s.port n).hardRecov = false → (s.port n).prSwap = true → ∃ t, exec (.vbusSafe0v n) s = .next t ∧
            t.outbox = s.outbox ++ [s.ctlOut n ctlPsRdy] ∧ t.timerAt n .psSourceOn = some s.cyc ∧ s.sameRegs t [])) ∧
        ((s.port n).srcAt + 650 * msCyc ≤ s.cyc → ∃ u : State, exec (.vbusNotSafe0v n) s = .next u.settle ∧ recovering u ∧
          faultOf 0x73 n (faultRec (s.supV (3 + n)) 800) ∈ u.raised)) ∧
      (∀ pin : Fin 2,
        (6000 < mv → ∃ u : State, exec (.ccOv n pin mv) s = .next u.settle ∧ recovering u ∧ u.ccPin n pin = .open_ ∧
          bitsOf (u.port n).ccHigh pin 1 = 1 ∧ faultOf 0x79 n (faultRec mv 6000) ∈ u.raised) ∧
        (mv ≤ 6000 → exec (.ccOv n pin mv) s = .next s)) ∧
      (s.portOvMv n < mv → s.heldFor (s.port n).overAt 2000 = true → ∃ u : State, exec (.portOv n mv) s = .next u.settle ∧
        faultOf 0x75 n (faultRec mv (s.portOvMv n)) ∈ u.raised ∧
        (∀ w : Fin 12, s.seriesOf (12 + n.val) = some w.val → u.pswClosed w = false) ∧
        (s.attached n = true → Emit.pdSignal n 0 ∈ u.outbox)) ∧
      (mv ≤ s.portOvMv n → ∃ t, exec (.portOv n mv) s = .next t ∧ (t.port n).overAt = none ∧ s.sameRegs t [R.PORT_VBUS n]) ∧
      (s.flag (R.PORT_STATUS n) F.PORT_STATUS_VCONN_ON = true →
        (s.heldFor (s.port n).vconnAt msCyc = true → ∃ u : State, exec (.vconnOc n true) s = .next u.settle ∧
          u.flag (R.PORT_STATUS n) F.PORT_STATUS_VCONN_ON = false ∧ s.sameRegs u [R.PORT_STATUS n] ∧
          u.raised = [faultOf 0x74 n (faultRec 400 400)]) ∧
        ((s.port n).vconnAt = none → ∃ t, exec (.vconnOc n true) s = .next t ∧ (t.port n).vconnAt = some s.cyc ∧ s.sameRegs t []) ∧
        (∃ t, exec (.vconnOc n false) s = .next t ∧ (t.port n).vconnAt = none ∧ s.sameRegs t []))) ∧
  (∀ (s : State) (n : Fin 3) (p : Path) (v : Word), s.live →
      (s.laterWrote p (R.PORT_CFG n) = false →
        (p ≠ .headland ∨ (s.port n).configured = true →
          (n.val ≠ 2 → getBits v 6 1 = 0 → ∃ t, exec (.portCfgWrite p n v) s = .next t ∧ t.rd (R.PORT_CFG n) = v &&& 0x00FFFF7F#32 ∧
            s.sameRegs t [R.PORT_CFG n, R.PORT_STATUS n] ∧
            (s.conn n ≠ cnSink → s.conn n ≠ cnSource → (t.port n).cfg = t.rd (R.PORT_CFG n))) ∧
          ((n.val = 2 ∧ getBits v 6 1 = 0) ∨
              (getBits v 6 1 = 1 ∧ s.pairType (getBits v F.PORT_CFG_RING.lo F.PORT_CFG_RING.w) ≠ 4) →
            ∃ t, exec (.portCfgWrite p n v) s = .next t ∧
              t.f (R.PORT_CFG n) F.PORT_CFG_POLICY = s.f (R.PORT_CFG n) F.PORT_CFG_POLICY ∧
              t.flag (R.PORT_STATUS n) F.PORT_STATUS_CFG_REFUSED = true)) ∧
        (p = .headland → (s.port n).configured = false → s.conn n = cnUnattached →
          ((s.port n).seen = none → ∃ t, exec (.portCfgWrite p n v) s = .next t ∧ (t.port n).configured = true ∧
            t.flag (R.PORT_STATUS n) F.PORT_STATUS_DB = false) ∧
          (∀ o : AttachObs, (s.port n).seen = some o → o.asSource = false → s.heldPort n = false →
            getBits v F.PORT_CFG_ROLE.lo F.PORT_CFG_ROLE.w = 1 ∨ getBits v F.PORT_CFG_ROLE.lo F.PORT_CFG_ROLE.w = 3 →
            ∃ u : State, exec (.portCfgWrite p n v) s = .next u.settle ∧ u.conn n = cnSink ∧
              u.flag (R.PORT_STATUS n) F.PORT_STATUS_DB = s.flag (R.PORT_STATUS n) F.PORT_STATUS_DB))) ∧
      (∀ a : CableId, s.attached n = true → (s.port n).policyReady = true → s.flag (R.PORT_STATUS n) F.PORT_STATUS_VCONN_ON = true →
        (s.port n).hadContract = false → (s.port n).hardRecov = false → s.flag (R.PORT_CABLE n) F.PORT_CABLE_FOUND = false →
        (s.port n).discTries < 20 → ((s.port n).discTries = 0 ∨ (s.port n).discAt + 45 * msCyc ≤ s.cyc) →
        let ask := Emit.pdTx n true (s.txHeader n true datVdm (s.port n).midP 1 false) (leBytes 4 0xFF008001)
        (∃ t, exec (.cableDiscovery n (some a)) s = .next t ∧ t.rdN (R.PORT_CABLE n) = 1 + 2 * boolNat a.a5 + 4 * boolNat a.epr ∧
          s.sameRegs t [R.PORT_CABLE n] ∧ (t.port n).discTries = (s.port n).discTries + 1 ∧ ask ∈ t.outbox ∧
          ((s.port n).revP = 0 → (s.port n).bist ≠ 1 → (t.port n).revP = (if 2 ≤ hdrRev a.header then 2 else 1))) ∧
        (∃ t, exec (.cableDiscovery n none) s = .next t ∧ s.sameRegs t [] ∧ t.outbox = s.outbox ++ [ask] ∧
          (t.port n).discTries = (s.port n).discTries + 1)) ∧
      (∀ r : Fin 4, s.conn n = cnSink → s.attached n = true → s.flag (R.PORT_CFG n) F.PORT_CFG_BC_EN = true →
        s.f (R.PORT_STATUS n) F.PORT_STATUS_TYPEC_CUR = 0 → ∃ u : State, exec (.bcDetectionDone n r) s = .next u.settle ∧
          u.f (R.PORT_STATUS n) F.PORT_STATUS_BC = r ∧
          (u.port n).bcMa = (if r.val = 0 then 0 else if r.val = 1 then 500 else 1500)))

/-- Every message received on an attached port with a policy is acknowledged, and a repeated one changes nothing else (R222, R224; message types by the model's log 20).
The autonomous Sink (R234, R235, R241): it answers Source_Capabilities with a Request for the matching object of the most power, where that reaches
PMIN, else for the 5 V object with Capability Mismatch; from Accept to PS_RDY it draws at most 2,500 mW; with PS_RDY the contract is in force.
The autonomous Source (R236, R237, R247): a Request that fits is accepted and a transition begins; another is rejected; when VBUS has settled
PS_RDY is sent and the contract is in force; a transition that does not settle, or VBUS low for 10 ms, is fault 0x76 with a Hard Reset (R242).
Completes: sourceCapabilitiesRx, acceptRx, psRdyRx, requestRx, srcTransitionSettled, pdSrcTransition. -/
def Obligations.PdContractsAreMade : Prop :=
  (∀ (s : State) (n : Fin 3) (sopP : Bool) (h : Nat), s.attached n = true → (s.port n).policyReady = true → (s.port n).bist ≠ 1 →
      (s.pdAck n sopP h).1.outbox = s.outbox ++ [.pdTx n sopP (s.txHeader n sopP 1 (bitsOf h 9 3) 0 false) []] ∧
      (hdrCtl h = true → hdrType h = ctlSoftReset → (s.pdAck n sopP h).2 = true) ∧
      (¬ (hdrCtl h = true ∧ hdrType h = ctlSoftReset) →
        ((s.pdAck n sopP h).2 = true ↔ (if sopP then (s.port n).rxMidP else (s.port n).rxMid) ≠ some (bitsOf h 9 3)))) ∧
  (∀ (s : State) (n : Fin 3) (m : PdMsg), s.live → s.autoPolicy n = true → (s.port n).bist = 0 → (s.port n).hardRecov = false →
      (s.pdAck n false m.header).2 = true →
      let a := (s.pdAck n false m.header).1
      (s.conn n = cnSink → s.isSrc n = false → (s.port n).frs = false → (s.port n).prSwap = false → (s.port n).vconnSwap = false →
        ((s.pe n = 2 ∨ s.pe n = 6) → (s.port n).moving = false → ∃ t, exec (.sourceCapabilitiesRx n m) s = .next t ∧ t.pe n = 4 ∧
          t.outbox = a.outbox ++ [a.dataOut n datRequest (leBytes 4 (t.port n).reqRdo)] ∧
          (∀ x : Nat × Nat × Nat, bestChoice (s.sinkChoices n (objects 13 m.data)) = some x →
            s.f (R.PORT_SNK_CFG n) F.PORT_SNK_CFG_PMIN * 100000 ≤ x.2.1 * x.2.2 →
            (t.port n).reqRdo = rdoOf x.1 x.2.2 false ∧ (t.port n).newMv = x.2.1 ∧ (t.port n).newMa = x.2.2) ∧
          ((∀ x : Nat × Nat × Nat, bestChoice (s.sinkChoices n (objects 13 m.data)) = some x →
              x.2.1 * x.2.2 < s.f (R.PORT_SNK_CFG n) F.PORT_SNK_CFG_PMIN * 100000) →
            (t.port n).reqRdo = rdoOf 1 (s.fiveVolt n (objects 13 m.data)).2.2 true ∧ (t.port n).newMv = 5000)) ∧
        (s.pe n = 4 → (s.port n).moving = false → (s.port n).ownMsg ≠ some ctlSoftReset →
          ∃ u : State, exec (.acceptRx n m.header) s = .next u.settle ∧ u.pe n = 5 ∧ (u.port n).moving = true ∧ (u.port n).budget = 2500) ∧
        ((s.port n).moving = true → ∃ u : State, exec (.psRdyRx n m.header) s = .next u.settle ∧ u.pe n = 6 ∧
          u.explicit n = true ∧ (u.port n).moving = false ∧ (u.port n).budget = (s.port n).newMv * (s.port n).newMa / 1000 ∧
          u.f (R.PORT_CONTRACT n) F.PORT_CONTRACT_V = (s.port n).newMv % 65536)) ∧
      (s.conn n = cnSource → (s.port n).moving = false →
        (∀ (mv ma : Nat) (pps : Bool), s.requestOk n (leAt m.data 0 4) = some (mv, ma, pps) →
          ∃ t, exec (.requestRx n m) s = .next t ∧ t.outbox = a.outbox ++ [a.ctlOut n ctlAccept] ∧ t.pe n = 10 ∧
            (t.port n).moving = true ∧ (t.port n).newMv = mv ∧ (t.port n).newMa = ma ∧ (t.port n).moveAt = s.cyc ∧
            (t.port n).refFrom = (s.port n).refMv) ∧
        (s.requestOk n (leAt m.data 0 4) = none → ∃ t, exec (.requestRx n m) s = .next t ∧
          t.outbox = a.outbox ++ [a.ctlOut n ctlReject] ∧ (t.port n).refMv = (s.port n).refMv ∧ (t.port n).moving = false ∧
          t.pe n = (if s.explicit n then 11 else 8)))) ∧
  (∀ (s : State) (n : Fin 3), s.live → s.isSrc n = true → s.attached n = true →
      ((s.port n).moving = true → (s.port n).moveAt + 30 * msCyc ≤ s.cyc → s.heldFor (s.port n).setAt msCyc = true →
        ∃ u : State, exec (.srcTransitionSettled n) s = .next u.settle ∧ s.ctlOut n ctlPsRdy ∈ u.outbox ∧
          u.explicit n = true ∧ (u.port n).moving = false ∧ (u.port n).refMv = (s.port n).newMv ∧
          u.f (R.PORT_CONTRACT n) F.PORT_CONTRACT_V = (s.port n).newMv % 65536) ∧
      ((s.port n).moving = true → (s.port n).moveAt + s.moveBound n ≤ s.cyc →
        ∃ u : State, exec (.pdSrcTransition n) s = .next u.settle ∧ Emit.pdSignal n 0 ∈ u.outbox ∧
          faultOf 0x76 n (faultRec (s.supV (3 + n)) (s.port n).newMv) ∈ u.raised) ∧
      (s.explicit n = true → (s.port n).moving = false → s.heldFor (s.port n).sagAt (10 * msCyc) = true →
        ∃ u : State, exec (.pdSrcTransition n) s = .next u.settle ∧ Emit.pdSignal n 0 ∈ u.outbox ∧
          faultOf 0x76 n (faultRec (s.supV (3 + n)) (s.contractMv n)) ∈ u.raised))

/-- The reset ladder (R234, R245, R246; message types by the model's log 20): a Hard_Reset, received or sent, is counted, drops the contract and is fault 0x70; an unanswered Request
sends one; a Soft_Reset received is accepted with MessageID 0 and counted, and in a power transition answered by a Hard_Reset; ERR_RECOVER enters
ErrorRecovery with fault 0x72, which its timer leaves; Enter_USB is unsupported (R223). Completes: hardResetRx, portCtrlHardReset,
pdTimerExpiry, pdMessageRx, errRecover. -/
def Obligations.HardResetDropsTheContract : Prop :=
  ∀ (s : State) (n : Fin 3) (p : Path), s.live →
    let reset := fun (u : State) => u.explicit n = false ∧ u.rd (R.PORT_CONTRACT n) = 0#32 ∧ (u.port n).hardRecov = true ∧
      faultOf 0x70 n [] ∈ u.raised
    let counted := fun (u : State) => u.f (R.PORT_CNT n) F.PORT_CNT_HARD = min (s.f (R.PORT_CNT n) F.PORT_CNT_HARD + 1) 255
    (s.attached n = true →
      ((s.port n).policyReady = true → ∃ u : State, exec (.hardResetRx n) s = .next u.settle ∧ reset u ∧ counted u) ∧
      (∃ u : State, exec (.portCtrlHardReset p n) s = .next u.settle ∧ reset u ∧ counted u ∧ Emit.pdSignal n 0 ∈ u.outbox) ∧
      ((s.port n).policyReady = true → (s.port n).hardRecov = false → (s.port n).frs = false → s.pe n = 4 →
        s.timerDue n .senderResponse = true →
        ∃ u : State, exec (.pdTimerExpiry n .senderResponse) s = .next u.settle ∧ reset u ∧ counted u ∧ Emit.pdSignal n 0 ∈ u.outbox) ∧
      (∀ m : PdMsg, (s.port n).policyReady = true → (s.port n).hardRecov = false → (s.port n).bist = 0 → m.sopP = false →
        let a := (s.pdAck n false m.header).1
        (hdrCtl m.header = true → hdrType m.header = ctlSoftReset → ∃ u : State, exec (.pdMessageRx n m) s = .next u.settle ∧
          Emit.pdTx n false (a.txHeader n false ctlAccept 0 0 false) [] ∈ u.outbox ∧
          u.f (R.PORT_CNT n) F.PORT_CNT_SOFT = min (s.f (R.PORT_CNT n) F.PORT_CNT_SOFT + 1) 255 ∧
          ((s.port n).moving = true → reset u ∧ Emit.pdSignal n 0 ∈ u.outbox)) ∧
        ((s.pdAck n false m.header).2 = true → (s.port n).moving = false → hdrCtl m.header = false → hdrExt m.header = false →
          hdrType m.header = datEnterUsb → ∃ t, exec (.pdMessageRx n m) s = .next t ∧
            t.outbox = a.outbox ++ [a.ctlOut n (if a.rev3 n then ctlNotSupported else ctlReject)]))) ∧
    (∃ u : State, exec (.errRecover p n) s = .next u.settle ∧ u.conn n = cnErrorRecovery ∧ u.explicit n = false ∧
      faultOf 0x72 n [] ∈ u.raised) ∧
    (s.conn n = cnErrorRecovery → s.timerDue n .errorRecovery = true →
      (s.heldPort n = false → ∃ t, exec (.pdTimerExpiry n .errorRecovery) s = .next t ∧
        t.conn n = cnUnattached ∧ t.supState (3 + n.val) = supAbsent) ∧
      (s.heldPort n = true → ∃ t, exec (.pdTimerExpiry n .errorRecovery) s = .next t ∧ t.conn n = cnErrorRecovery ∧ s.sameRegs t []))

/-- Under a contract as Sink (R243, R250; message types by the model's log 20) the last Request is repeated every 8 s, EPR_KeepAlive is sent 375 ms after the last message, and an
accepted PR_Swap drops the contract; host policy that is late is answered for, with fault 0x7A (R238). Fast Role Swap (R248, R249): the signal on an
armed port takes the port off its supply, starts its stage toward the port and sends FR_Swap, or, where the stage does not run, fails at step 2;
after Accept and PS_RDY the port is the Source; a step that fails ends in ErrorRecovery with fault 0x77. Completes: ppsRequestRepeat,
eprKeepalive, prSwap, hpLate, frsSignal, frsDone, frsFail. -/
def Obligations.ContractsAndFastRoleSwap : Prop :=
  (∀ (s : State) (n : Fin 3), s.live → s.attached n = true →
      (s.conn n = cnSink → s.explicit n = true → (s.port n).pps = true → (s.port n).moving = false →
        (s.port n).reqAt + 8000 * msCyc ≤ s.cyc → ∃ t, exec (.ppsRequestRepeat n) s = .next t ∧ s.sameRegs t [] ∧
          t.outbox = s.outbox ++ [s.dataOut n datRequest (leBytes 4 (s.port n).reqRdo)]) ∧
      (s.conn n = cnSink → s.flag (R.PORT_STATUS n) F.PORT_STATUS_EPR = true → (s.port n).txAt + 375 * msCyc ≤ s.cyc →
        ∃ t, exec (.eprKeepalive n) s = .next t ∧ s.sameRegs t [] ∧
          t.outbox = s.outbox ++ [.pdTx n false (s.txHeader n false 16 (s.port n).mid 1 true) (leBytes 2 0x8002 ++ [3#8, 0#8])]) ∧
      ((s.port n).ownMsg = some ownSwapTaken → ∃ u : State, exec (.prSwap n) s = .next u.settle ∧ (u.port n).prSwap = true ∧
        u.explicit n = false ∧ u.rd (R.PORT_CONTRACT n) = 0#32 ∧
        (if s.isSrc n then (u.port n).srcStep = 1 else u.timerAt n .psSourceOff = some s.cyc)) ∧
      (∀ h : Nat, s.hostPolicy n = true → (s.port n).hostWait = some h → (s.port n).hostAt + s.hpCycles ≤ s.cyc →
        ∃ u : State, exec (.hpLate n h) s = .next u.settle ∧
          (u.port n).hostWait = none ∧ (u.port n).lateTo = some h ∧ faultOf 0x7A n (leBytes 4 h) ∈ u.raised ∧
          u.f (R.PORT_CNT n) F.PORT_CNT_LATE = min (s.f (R.PORT_CNT n) F.PORT_CNT_LATE + 1) 255 ∧
          (isSwap h = true → s.ctlOut n (if s.rev3 n then ctlWait else ctlReject) ∈ u.outbox))) ∧
  (∀ (s : State) (n : Fin 3) (h : Nat), s.live →
      (s.attached n = true → s.flag (R.PORT_STATUS n) F.PORT_STATUS_FRS_ARMED = true →
        let k := s.frsStage n
        let b := s.frsBegin n
        (b.mayStart k = true → b.startBad k false = none → (b.loadSet k false).isSome = true →
          ∃ u : State, exec (.frsSignal n) s = .next u.settle ∧ (u.port n).frs = true ∧ (u.port n).frsStep = 4 ∧ (u.port n).refMv = 5000 ∧
            u.stageState k = stRun ∧ b.ctlOut n ctlFrSwap ∈ u.outbox) ∧
        (b.mayStart k = false → b.stageRuns k = false →
          ∃ u : State, exec (.frsSignal n) s = .next u.settle ∧ u.conn n = cnErrorRecovery ∧ faultOf 0x77 n (leBytes 4 2) ∈ u.raised)) ∧
      ((s.port n).frs = true →
        ((s.port n).frsStep = 5 → (s.pdAck n false h).2 = true → ∃ u : State, exec (.frsDone n h) s = .next u.settle ∧
          u.conn n = cnSource ∧ u.isSrc n = true ∧ u.explicit n = false ∧ (u.port n).frs = false ∧
          ∃ h' : Nat, hdrType h' = ctlPsRdy ∧ hdrCtl h' = true ∧ bitsOf h' 8 1 = 1 ∧ Emit.pdTx n false h' [] ∈ u.outbox) ∧
        ((s.stageRuns (s.frsStage n) = false ∨ (s.port n).frsAt + 27 * msCyc ≤ s.cyc) →
          ∃ u : State, exec (.frsFail n) s = .next u.settle ∧ u.conn n = cnErrorRecovery ∧
            faultOf 0x77 n (leBytes 4 (if s.stageRuns (s.frsStage n) then 5 else 2)) ∈ u.raised)))

/-- The PD ring (R239): a SEND that R239 refuses completes with status 0x43; one that goes out, and is no Soft_Reset, is transmitted as the cable
allows it (R232), an extended message in chunks of 26 bytes, and completes with status 0x00; HARD_RESET and CABLE_RESET signal the port,
and are counted and forgotten as the ladder says. Completes: send, hardReset, cableReset. -/
def Obligations.PdRingSendsHostMessages : Prop :=
  ∀ (s : State) (pair : Fin 32), s.live → s.pairType pair = 4 →
    (∀ (es : List (List Byte)) (good : Bool), s.atFront pair es = true →
      let q := parsePd (es.headD [])
      let data := pdSubData es q.header q.ext
      let out := s.capCable q.port q.header data
      (pdChainOk es = false ∨ s.sendRefused q data = true → ∃ u : State, exec (.send pair es good) s = .next u.settle ∧
        s.completesTo u pair (pdCpl 0x43 q.op q.port 0 (q.sop == 1) false (leBytes 4 q.tag) s.now48 0 []) q.irq ∧ u.ports = s.ports ∧
        u.outbox = s.outbox) ∧
      (pdChainOk es = true → s.sendRefused q data = false → (s.port q.port).hardRecov = false → (s.port q.port).frs = false →
        (s.port q.port).bist = 0 → (s.port q.port).lateTo = none → isSwap q.header = false →
        ¬ (hdrCtl q.header = true ∧ hdrType q.header = ctlSoftReset ∧ q.sop = 0) → good = true → s.cplRoom pair = true → s.pairState pair ≠ ringDisabled →
        ∃ u : State, exec (.send pair es good) s = .next u.settle ∧
          (hdrExt q.header = false → Emit.pdTx q.port (q.sop == 1) (s.txHeader q.port (q.sop == 1) (hdrType q.header)
            (if q.sop == 1 then (s.port q.port).midP else (s.port q.port).mid) (hdrCount q.header) false) out ∈ u.outbox) ∧
          (hdrExt q.header = true → ∀ k, k < max 1 (ceilDiv out.length 26) →
            let part := (out.drop (26 * k)).take 26
            ∃ h' : Nat, hdrType h' = hdrType q.header ∧ hdrExt h' = true ∧
              Emit.pdTx q.port (q.sop == 1) h' (extHeader out.length false k ++ padTo (4 * ceilDiv (2 + part.length) 4 - 2) part) ∈ u.outbox) ∧
          ⟨pair, padTo 32 (pdCpl 0x00 q.op q.port 0 (q.sop == 1) false (leBytes 4 q.tag) s.now48 0 []), q.irq, false⟩ ∈ u.cplq)) ∧
    (∀ e : List Byte, s.atFront pair [e] = true →
      let q := parsePd e
      q.port ≠ 3 → s.hostPolicy q.port = true → s.attached q.port = true → q.clean = true → q.sop = 0 →
      (q.op = 2 → ∃ u : State, exec (.hardReset pair e) s = .next u.settle ∧ Emit.pdSignal q.port 0 ∈ u.outbox ∧
        faultOf 0x70 q.port [] ∈ u.raised ∧ u.explicit q.port = false) ∧
      (q.op = 3 → ∃ u : State, exec (.cableReset pair e) s = .next u.settle ∧ u.outbox = s.outbox ++ [.pdSignal q.port 1] ∧
        (u.port q.port).revP = 0 ∧
        s.completesTo u pair (pdCpl 0x44 3 q.port 0 false false (leBytes 4 q.tag) s.now48 0 []) q.irq))

/-! Ring pairs and the host link. -/

/-- Ring pair states (R272, R273, R311): a valid enable of a DISABLED pair makes it ACTIVE with zero indexes and phase 1, an invalid one leaves it
DISABLED with CFG_ERR, and a write of EN = 1 to another pair is refused; a disable lets the pair drain and discards what it fetched; a drained
pair is DISABLED, its held completions counted in LOST; RESUME returns a STALLED pair that nothing holds to ACTIVE. Completes: ringEnable,
ringDisable, ringDrainDone, resume. -/
def Obligations.RingPairsFollowTheirStates : Prop :=
  ∀ (s : State) (p : Path) (q : Fin 32) (v : Word), s.live →
    let noted := [R.EVENT_STATUS, R.CPLQ_STATUS, R.HOST_GLB_STATUS]
    (s.laterWrote p (R.RING_CFG q) = false → s.pairState q = ringDisabled → s.ringValid q (putBits v 0 1 1) = true → ∃ u : State, exec (.ringEnable p q v) s = .next u.settle ∧
      u.pairState q = ringActive ∧ u.pairEn q = true ∧ u.rd (R.RING_SQ_PTR q) = 0#32 ∧ u.rd (R.RING_CQ_PTR q) = 0#32 ∧
      u.f (R.RING_STATUS q) F.RING_STATUS_PHASE = 1 ∧ u.fetched q = 0 ∧
      s.sameRegs u ([R.RING_CFG q, R.RING_STATUS q, R.RING_SQ_PTR q, R.RING_CQ_PTR q] ++ noted)) ∧
    (s.laterWrote p (R.RING_CFG q) = false → s.pairState q = ringDisabled → s.ringValid q (putBits v 0 1 1) = false → ∃ t, exec (.ringEnable p q v) s = .next t ∧
      s.onlyRegs t [R.RING_CFG q, R.RING_STATUS q] [] ∧ t.pairState q = ringDisabled ∧ t.pairEn q = false ∧
      t.flag (R.RING_STATUS q) F.RING_STATUS_CFG_ERR = true) ∧
    (s.laterWrote p (R.RING_CFG q) = false → s.pairState q ≠ ringDisabled → ∃ t, exec (.ringEnable p q v) s = .next t ∧ s.onlyRegs t [R.RING_STATUS q] [] ∧
      t.flag (R.RING_STATUS q) F.RING_STATUS_REFUSED = true ∧ t.pairState q = s.pairState q) ∧
    (s.laterWrote p (R.RING_CFG q) = false → s.pairState q = ringActive ∨ s.pairState q = ringStalled → ∃ u : State, exec (.ringDisable p q) s = .next u.settle ∧
      u.pairState q = ringDraining ∧ u.pairEn q = false ∧ u.fetched q = 0 ∧
      s.sameRegs u ([R.RING_CFG q, R.RING_STATUS q] ++ noted)) ∧
    (s.pairState q = ringDraining → ∃ u : State, exec (.ringDrainDone q) s = .next u.settle ∧ u.pairState q = ringDisabled ∧
      (∀ h ∈ u.cplq, h.src = q.val → h.event = true) ∧
      u.f (R.RING_CNT q) F.RING_CNT_LOST = min (s.f (R.RING_CNT q) F.RING_CNT_LOST
        + (s.cplq.filter (fun h => h.src == q.val && !h.event)).length) 65535) ∧
    (s.pairState q = ringStalled → s.heldPair q = false → s.pairLocal q = false → ∃ u : State, exec (.resume p q) s = .next u.settle ∧
      u.pairState q = ringActive ∧ s.sameRegs u ([R.RING_STATUS q] ++ noted))

/-- Doorbells, fetches and device slots (R269, R275–R279, R308): a host write of the local window stores its bytes, and the words of an ACTIVE
pair's slot become its SQ_TAIL and CQ_HEAD, by a local write or by a poll; a word that R279 calls invalid stalls the pair with fault 0x91; a
fetch hands whole entries to the consumer in ring order; the device slot shows SQ_HEAD and CQ_TAIL. Completes: localDoorbellWrite, doorbellPoll,
submissionFetch, deviceSlotWrite. -/
def Obligations.DoorbellsExposeAndFetchesConsume : Prop :=
  ∀ (s : State) (q : Fin 32), s.live →
    (∀ (off : Nat) (v : Word), off + 4 ≤ 0x80000 → ∃ u : State, exec (.localDoorbellWrite off v) s = .next u.settle ∧
      u.winRead off 4 = leBytes 4 v.toNat ∧ ∀ a, a < off ∨ off + 4 ≤ a → u.winGet a = s.winGet a) ∧
    (∀ v : Word, s.pairLocal q = true → s.pairState q = ringActive →
      let w := leVal (s.winRead (8 * q.val + 4) 4)
      (s.sqBad q v.toNat = false → s.cqBad q w = false → ∃ t, exec (.localDoorbellWrite (8 * q.val) v) s = .next t ∧
        t.sqTail q = v.toNat % 65536 ∧ t.cqHead q = w % 65536 ∧ t.sqHead q = s.sqHead q ∧ t.pairState q = ringActive) ∧
      (s.sqBad q v.toNat = true → ∃ u : State, exec (.localDoorbellWrite (8 * q.val) v) s = .next u.settle ∧
        u.pairState q = ringStalled ∧ u.f (R.RING_STATUS q) F.RING_STATUS_STALL = 1 ∧ u.sqTail q = s.sqTail q ∧
        faultOf 0x91 0 ([BitVec.ofNat 8 q.val, 1#8, 0#8, 0#8] ++ leBytes 4 v.toNat) ∈ u.raised)) ∧
    (∀ (bs : List Byte) (x : Nat), s.polls = true → s.pollDue = true → s.translate s.dbBase false = .host x →
      bs.length = 8 * (s.polledPairs.getLastD 0 + 1) → ∃ u : State, exec (.doorbellPoll (.ok bs)) s = .next u.settle ∧
        u.f R.XLT_STATUS F.XLT_STATUS_POLL_FAULT = 0 ∧
        (s.pairLocal q = false → s.pairState q = ringActive → s.sqBad q (leAt bs (8 * q.val) 4) = false →
          s.cqBad q (leAt bs (8 * q.val + 4) 4) = false →
          u.sqTail q = leAt bs (8 * q.val) 4 % 65536 ∧ u.cqHead q = leAt bs (8 * q.val + 4) 4 % 65536 ∧ u.pairState q = ringActive)) ∧
    (0 < s.fetchMost q →
      let a := s.sqBase q + 64 * s.sqHead q
      (s.pairLocal q = true → ∀ r : DmaRead, ∃ t, exec (.submissionFetch q r) s = .next t ∧
        (t.srcRt q).waiting = (s.srcRt q).waiting ++ entriesOf (s.fetchMost q) (s.winRead a (64 * s.fetchMost q)) ∧
        t.sqHead q = (s.sqHead q + s.fetchMost q) % s.sqSize q % 65536 ∧ t.rrLast = q.val ∧ s.sameRegs t [R.RING_SQ_PTR q]) ∧
      (s.pairLocal q = false → ∀ (k x : Nat) (bs : List Byte), s.translate a false = .host x → bs.length = 64 * k → 1 ≤ k →
        k ≤ s.fetchMost q → ∃ t, exec (.submissionFetch q (.ok bs)) s = .next t ∧
        (t.srcRt q).waiting = (s.srcRt q).waiting ++ entriesOf k bs ∧ t.sqHead q = (s.sqHead q + k) % s.sqSize q % 65536 ∧
        s.sameRegs t [R.RING_SQ_PTR q])) ∧
    (s.pairState q ≠ ringDisabled → s.slotStale q = true →
      let bytes := leBytes 4 (s.sqHead q) ++ leBytes 4 (s.cqTail q)
      (s.pairLocal q = true → ∃ t, exec (.deviceSlotWrite q) s = .next t ∧ t.winRead (0x800 + 8 * q.val) 8 = bytes ∧
        t.slotStale q = false ∧ ∀ a, a < 0x800 + 8 * q.val ∨ 0x808 + 8 * q.val ≤ a → t.winGet a = s.winGet a) ∧
      (∀ x : Nat, s.pairLocal q = false → s.flag R.HOST_POLL F.HOST_POLL_EN = true → s.dmaAllowed = true → s.slotDue q = true →
        s.translate (s.dbBase + 0x800 + 8 * q.val) true = .host x → ∃ t, exec (.deviceSlotWrite q) s = .next t ∧
        t.outbox = s.outbox ++ [.dmaWrite x bytes] ∧ t.slotStale q = false ∧ s.sameRegs t []))

/-- Completions and interrupts (R102, R281, R284, R311): the oldest held completion of a pair is written at CQ_TAIL with its phase tag, and
CQ_TAIL moves on; a CAN port sends the frame at the front of its queue; a completion without room is counted and is fault 0x97; a vector
fires when its moderation time has passed or its mask is lifted with completions pending, and PENDING returns to zero. Completes:
completionDrain, completionDiscard, irqModTimerExpiry, ringImodWrite. -/
def Obligations.CompletionsLeaveAndVectorsFire : Prop :=
  ∀ (s : State) (p : Path) (q : Fin 32) (v : Word), s.live →
    let fired := fun (t : State) => t.f (R.RING_CNT q) F.RING_CNT_PENDING = 0 ∧ getBits (t.rd R.HOST_IRQ_STATUS) q 1 = 1 ∧
      (s.flag R.HOST_LINK_STATUS F.HOST_LINK_STATUS_MSIX = true → s.msixWord (4 * q.val + 3) &&& 1#32 ≠ 1#32 →
        t.outbox = s.outbox ++ [.msix q])
    (∀ (h : HeldCpl) (rest : List HeldCpl), s.canDrain q = true → takeHeld q s.cplq = some (h, rest) →
      let a := s.cqBase q + 32 * s.cqTail q
      let b := phased h.bytes (s.f (R.RING_STATUS q) F.RING_STATUS_PHASE)
      let moved := fun (t : State) => t.cplq = rest ∧ t.cqTail q = (s.cqTail q + 1) % s.cqSize q % 65536
      (s.pairLocal q = true → a + b.length ≤ 0x80000 → ∃ t, exec (.completionDrain (.ring q)) s = .next t ∧ moved t ∧
        t.winRead a b.length = b) ∧
      (∀ x : Nat, s.pairLocal q = false → s.translate a true = .host x → ∃ t, exec (.completionDrain (.ring q)) s = .next t ∧ moved t ∧
        Emit.dmaWrite x b ∈ t.outbox)) ∧
    (∀ (n : Fin 2) (b : List Byte) (l : List (List Byte)), (s.can n).txq = b :: l → s.canFd n = true →
      ∃ t, exec (.completionDrain (.can n)) s = .next t ∧ s.sameRegs t [] ∧
        t.outbox = s.outbox ++ [.canTx n ⟨s.f (R.DRILL_CAN_TXID n) F.DRILL_CAN_TXID_ID,
          s.flag (R.DRILL_CAN_TXID n) F.DRILL_CAN_TXID_IDE, true, b⟩ (s.flag (R.CAN_CFG n) F.CAN_CFG_BRS)] ∧
        (takeHeld (32 + n.val) s.cplq = none → (t.can n).txq = l)) ∧
    (∀ e : List Byte, s.pairState q ≠ ringDisabled → s.cplRoom q = false → ∃ u : State,
      exec (.completionDiscard (.ring q) e) s = .next u.settle ∧
      s.onlyRegs u [R.RING_CNT q, R.CPLQ_STATUS] [faultOf 0x97 0 ([BitVec.ofNat 8 q.val, 0#8, 0#8, 0#8] ++ slice (padTo 32 e) 0 8)] ∧
      u.f (R.RING_CNT q) F.RING_CNT_LOST = min (s.f (R.RING_CNT q) F.RING_CNT_LOST + 1) 65535) ∧
    (∀ (n : Fin 2) (e : List Byte), 32 ≤ (s.can n).txq.length → s.cplRoom (32 + n.val) = false → ∃ u : State,
      exec (.completionDiscard (.can n) e) s = .next u.settle ∧
      s.onlyRegs u [R.DRILL_CAN_STAT n, R.CPLQ_STATUS]
        [faultOf 0x97 0 ([BitVec.ofNat 8 (0x80 + n.val), 0#8, 0#8, 0#8] ++ slice (padTo 32 e) 0 8)] ∧
      u.f (R.DRILL_CAN_STAT n) F.DRILL_CAN_STAT_DROPPED = min (s.f (R.DRILL_CAN_STAT n) F.DRILL_CAN_STAT_DROPPED + 1) 65535) ∧
    (s.f (R.RING_IMOD q) F.RING_IMOD_MOD_US ≠ 0 → s.flag (R.RING_IMOD q) F.RING_IMOD_MASK = false →
      s.f (R.RING_CNT q) F.RING_CNT_PENDING ≠ 0 → (s.pair q).pendAt + 200 * s.f (R.RING_IMOD q) F.RING_IMOD_MOD_US ≤ s.cyc →
      ∃ t, exec (.irqModTimerExpiry q) s = .next t ∧ fired t ∧ s.sameRegs t [R.RING_CNT q, R.HOST_IRQ_STATUS]) ∧
    (s.laterWrote p (R.RING_IMOD q) = false → s.flag (R.RING_IMOD q) F.RING_IMOD_MASK = true → getBits v 31 1 = 0 → s.f (R.RING_CNT q) F.RING_CNT_PENDING ≠ 0 →
      ∃ t, exec (.ringImodWrite p q v) s = .next t ∧ fired t ∧ s.sameRegs t [R.RING_IMOD q, R.RING_CNT q, R.HOST_IRQ_STATUS]) ∧
    (s.laterWrote p (R.RING_IMOD q) = false → getBits v 31 1 = 1 → ∃ t, exec (.ringImodWrite p q v) s = .next t ∧ s.onlyRegs t [R.RING_IMOD q] [] ∧
      t.flag (R.RING_IMOD q) F.RING_IMOD_MASK = true)

/-- The host link and DMA faults (R260, R261, R302, R306, R309): a host link reset disables the host-resident pairs, the poll, Bus Master
Enable and HOST_IRQ_STATUS, and a link that goes down is counted and is fault 0x90; link training and configuration space show in
HOST_LINK_STATUS, a link faster or wider than the part's grade does not train (R1); SYNC is BUSY until the requests before it have completed; a
failed fetch or completion write is logged in the next record, is fault 0x96 and stalls its pair with STALL 3; a failed poll sets POLL_FAULT,
and a command whose buffer fails completes DMA_FAULT. Completes: hostLinkReset, bmeChange, linkUp, xltSync, xltSyncDone, dmaFault, cplTimeout. -/
def Obligations.HostLinkResetsAndDmaFaultsStall : Prop :=
  ∀ (s : State) (p : Path) (q : Fin 32), s.live →
    (∀ k : LinkReset, ∃ u : State, exec (.hostLinkReset k) s = .next u.settle ∧
      (s.pairLocal q = false → u.pairState q = ringDisabled) ∧ (s.pairLocal q = true → u.pairState q = s.pairState q) ∧
      u.rd R.HOST_IRQ_STATUS = 0#32 ∧ u.flag R.HOST_POLL F.HOST_POLL_EN = false ∧ u.dmaAllowed = false ∧
      (k = .linkDown → u.flag R.HOST_LINK_STATUS F.HOST_LINK_STATUS_LINK_UP = false ∧ faultOf 0x90 0 [] ∈ u.raised ∧
        u.f R.HOST_LINK_STATUS F.HOST_LINK_STATUS_DOWNS = min (s.f R.HOST_LINK_STATUS F.HOST_LINK_STATUS_DOWNS + 1) 255)) ∧
    (∀ bme d3 msix id : Bool, ∃ t, exec (.bmeChange bme d3 msix id) s = .next t ∧ s.sameRegs t [R.HOST_LINK_STATUS] ∧
      t.dmaAllowed = (bme && !d3) ∧ t.flag R.HOST_LINK_STATUS F.HOST_LINK_STATUS_MSIX = msix ∧ t.intDis = id ∧
      t = { s with regs := t.regs, intDis := t.intDis, msixPend := t.msixPend, outbox := t.outbox } ∧
      (msix = false → t.msixPend = s.msixPend ∧ t.outbox = s.outbox)) ∧
    (∀ (g : Fin 4) (w : Fin 3), maxGen < g.val ∨ maxWidth < w.val → exec (.linkUp g w) s = .next s) ∧
    (∀ (g : Fin 4) (w : Fin 3), g ≠ 0 → w ≠ 0 → g.val ≤ maxGen → w.val ≤ maxWidth → ∃ t, exec (.linkUp g w) s = .next t ∧ s.onlyRegs t [R.HOST_LINK_STATUS] [] ∧
      t.flag R.HOST_LINK_STATUS F.HOST_LINK_STATUS_LINK_UP = true ∧ t.f R.HOST_LINK_STATUS F.HOST_LINK_STATUS_GEN = g ∧
      t.f R.HOST_LINK_STATUS F.HOST_LINK_STATUS_WIDTH = w) ∧
    (∃ t, exec (.xltSync p) s = .next t ∧ s.onlyRegs t [R.XLT_STATUS] [] ∧ t.flag R.XLT_STATUS F.XLT_STATUS_BUSY = true ∧
      ∃ t', exec .xltSyncDone t = .next t' ∧ t.onlyRegs t' [R.XLT_STATUS] [] ∧ t'.flag R.XLT_STATUS F.XLT_STATUS_BUSY = false) ∧
    (∀ index addr done : Nat, s.pairLocal q = false →
      let k := s.f R.DMAF_STATUS F.DMAF_STATUS_NEXT
      let stalls := fun (u : State) (op kind at_ : Nat) => u.pairState q = ringStalled ∧ u.f (R.RING_STATUS q) F.RING_STATUS_STALL = 3 ∧
        u.rdN (R.DMAF_INFO k) = dmafInfo kind op q at_ ∧ u.rdN (R.DMAF_ADDR_LO k) = addr % 2 ^ 32 ∧
        u.rdN (R.DMAF_DONE k) = 0 ∧ u.f R.DMAF_STATUS F.DMAF_STATUS_NEXT = (k + 1) % 8 ∧
        faultOf 0x96 0 (leBytes 4 (dmafInfo kind op q at_) ++ leBytes 4 addr ++ leBytes 4 (addr / 2 ^ 32) ++ leBytes 4 0) ∈ u.raised
      (s.fetchable q = true → within addr (s.sqBase q + 64 * s.sqHead q) 64 = true →
        (∀ kind : Fin 10, 5 ≤ kind.val → ∃ u : State, exec (.dmaFault 2 q index addr done kind) s = .next u.settle ∧
          stalls u 2 kind (s.sqHead q)) ∧
        (∃ u : State, exec (.cplTimeout 2 q index addr done) s = .next u.settle ∧ stalls u 2 7 (s.sqHead q))) ∧
      (s.canDrain q = true → within addr (s.cqBase q + 32 * s.cqTail q) 32 = true → (takeHeld q s.cplq).isSome = true →
        ∃ u : State, exec (.dmaFault 3 q index addr done 9) s = .next u.settle ∧ stalls u 3 9 (s.cqTail q)) ∧
      (s.polls = true → s.pollDue = true → within addr s.dbBase (8 * (s.polledPairs.getLastD 0 + 1)) = true →
        ∃ u : State, exec (.dmaFault 0 q index addr done 9) s = .next u.settle ∧ u.flag R.XLT_STATUS F.XLT_STATUS_POLL_FAULT = true) ∧
      (∀ (op : Fin 7) (e : List Byte) (l : List (List Byte)) (v len : Nat), op = 4 ∨ op = 5 → (s.srcRt q).waiting = e :: l →
        s.ctlReady q (s.pairType q) e = true → s.ctlTurn q (s.pairType q) e = true → ctlBuf (s.pairType q) op e = some (v, len) →
        v / 2 ^ 63 ≠ 1 → addr = v + done → done < len →
        ∃ u : State, exec (.dmaFault op q index addr done 9) s = .next u.settle ∧
          s.completesTo u q (ctlCpl e { status := 0x53, r0 := if op = 5 then done else 0 } s.now48) (ctlWorthy e)))

/-! Commands of CONTROL and BLOB pairs. -/

/-- Records and profiles on a CONTROL pair (R286, R288–R292, R353, R354), with buffers in the local window: RECORD_WRITE stores the other copy
with the next sequence number, RECORD_READ gives the current copy, up to LENGTH bytes, or NOT_FOUND; an entry with a fault of form is
MALFORMED, and during the recall the commands are BUSY; a copy whose comparison fails twice is REFUSED with fault 0xA3; PROFILE_SELECT
answers with ERR of the commit. Completes: recordWrite, recordRead, profileSelect. -/
def Obligations.RecordCommandsUseTheCurrentCopy : Prop :=
  ∀ (s : State) (p : Fin 32) (e : List Byte), s.live → s.ctlReady p typControl e = true → s.ctlTurn p typControl e = true →
    let done := fun (u : State) (r : CtlRes) => s.completesTo u p (ctlCpl e r s.now48) (ctlWorthy e)
    let id := leAt e 8 2
    let len := leAt e 10 2
    let v := leAt e 16 8
    let used := [(8, 4), (16, 8)]
    (∀ (q : RecPlace) (b : Bool) (buf : DmaRead), ctlOp e = 1 → ctlClean e used = true → s.recordOk id len = true → bufOk v len = true →
      v / 2 ^ 63 = 1 → s.recalled = true → id ≠ 0x0100 → recPlace s.recSet id = some q → s.currentCopy q id = some b →
      (∃ u : State, exec (.recordWrite p e buf none) s = .next u.settle ∧
        u.nvm = (s.writeRecord q id (s.winRead (v % 2 ^ 63) len) none).1.nvm ∧
        done u { r0 := (s.copySeq q b + 1) % 2 ^ 32, detail := boolNat (!b) }) ∧
      (∀ k : Fin 8, 128 * k.val < 16 + len → ∃ u : State, exec (.recordWrite p e buf (some k)) s = .next u.settle ∧
        faultOf 0xA3 0 (leBytes 4 id) ∈ u.raised ∧ done u { status := 0x50, detail := 0x0010 })) ∧
    (ctlOp e = 2 → ctlClean e used = true → v / 2 ^ 63 = 1 → bufOk v len = true → ∀ q : RecPlace, recPlace s.recSet id = some q →
      (s.recalled = false → ∃ u : State, exec (.recordRead p e) s = .next u.settle ∧ s.sameRegs u [R.RING_CNT p, R.CPLQ_STATUS] ∧
        done u { status := 0x51, detail := 0x0001 }) ∧
      (s.recalled = true → s.currentCopy q id = none → ∃ u : State, exec (.recordRead p e) s = .next u.settle ∧ s.sameRegs u [R.RING_CNT p, R.CPLQ_STATUS] ∧
        done u { status := 0x54 }) ∧
      (∀ b : Bool, s.recalled = true → s.currentCopy q id = some b →
        let data := (s.nvmPeek (q.copy b) (16 + s.copyLen q b)).drop 16
        ∃ u : State, exec (.recordRead p e) s = .next u.settle ∧ u.nvm.bytes = s.nvm.bytes ∧
          u.winRead (v % 2 ^ 63) (min len data.length) = data.take len ∧ done u { r0 := min len data.length, detail := boolNat b })) ∧
    (ctlOp e = 2 → ctlClean e used = false → ∃ u : State, exec (.recordRead p e) s = .next u.settle ∧ s.sameRegs u [R.RING_CNT p, R.CPLQ_STATUS] ∧
      done u { status := 0x15 }) ∧
    (∀ (q : RecPlace), ctlOp e = 3 → ctlClean e [(8, 2)] = true → s.recalled = true →
      let i := leAt e 8 1
      let slot := leAt e 9 1
      i < 4 → slot < 4 → recPlace s.recSet (0x200 + 4 * i + slot) = some q →
      (s.currentCopy q (0x200 + 4 * i + slot) = none → ∃ u : State, exec (.profileSelect p e) s = .next u.settle ∧ s.sameRegs u [R.RING_CNT p, R.CPLQ_STATUS] ∧
        done u { status := 0x54 }) ∧
      ((s.currentCopy q (0x200 + 4 * i + slot)).isSome = true → ∃ u : State, exec (.profileSelect p e) s = .next u.settle ∧
        let err := u.f (R.PACK_PROFILE i) F.PACK_PROFILE_ERR
        done u { status := if err = 0 ∧ u.profValid i = true then 0x00 else 0x50, detail := err } ∧
        (err ≠ 0 → u.fw.profSel = s.fw.profSel) ∧ (err = 0 → i < s.fw.profSel.length → u.profValid i = true → u.fw.profSel.getD i 0 = slot)))

/-- FAULT_CLEAR, PACK_CMD, BB_READ and ATTEST on a CONTROL pair (R188, R216, R289, R290, R328, R367, R379): a clear that R379 refuses completes REFUSED with
its cause, one that it accepts makes the instance CLEAR; SHIP is entered, or refused with its cause and fault 0x47; TILTH_START and TILTH_ABORT start
and end a sweep; CHARGE_CLEAR empties a latch or is refused; BB_READ copies the oldest record; ATTEST carries the nonce. Completes: faultClear,
packCmdShip, packCmdTilthStart, packCmdTilthAbort, packCmdChargeClear, bbRead, attest. -/
def Obligations.ControlCommandsReportTheirResult : Prop :=
  ∀ (s : State) (p : Fin 32) (e : List Byte), s.live → s.ctlReady p typControl e = true → s.ctlTurn p typControl e = true →
    let done := fun (u : State) (r : CtlRes) => s.completesTo u p (ctlCpl e r s.now48) (ctlWorthy e)
    let i := leAt e 8 1
    (ctlOp e = 4 → ctlClean e [(8, 2)] = true → leAt e 9 1 < 16 →
      let inst := leAt e 9 1
      (s.clearCause i inst ≠ 0 → ∃ u : State, exec (.faultClear p e) s = .next u.settle ∧ u.hrw = s.hrw ∧
        done u { status := 0x50, detail := s.clearCause i inst }) ∧
      (s.clearCause i inst = 0 → ∃ u : State, exec (.faultClear p e) s = .next u.settle ∧ (u.hrwInst i inst).st = .clear ∧
        (u.hrwInst i inst).recov = [])) ∧
    (ctlOp e = 5 → ctlClean e [(8, 2)] = true →
      (leAt e 9 1 = 1 → i = 0 → s.shipCause ≠ 0 → ∃ u : State, exec (.packCmdShip p e) s = .next u.settle ∧ u.sys.power = .on ∧
        u.f R.SHIP_STATUS F.SHIP_STATUS_REFUSE = s.shipCause ∧ faultOf 0x47 0 [] ∈ u.raised ∧
        done u { status := 0x50, detail := s.shipCause }) ∧
      (leAt e 9 1 = 1 → i = 0 → s.shipCause = 0 → ∃ u : State, exec (.packCmdShip p e) s = .next u.settle ∧ u.sys.power = .ship ∧
        u.f R.SHIP_STATUS F.SHIP_STATUS_REFUSE = 0 ∧ ∀ w : Fin 12, u.pswClosed w = false) ∧
      (leAt e 9 1 = 2 → i < 4 → s.tilthState i = 0 → ∃ u : State, exec (.packCmdTilthStart p e) s = .next u.settle ∧
        u.tilthState i ≠ 0 ∧ u.f (R.PACK_TILTH_STATUS i) F.PACK_TILTH_STATUS_POINT = 0 ∧ done u {}) ∧
      (leAt e 9 1 = 3 → i < 4 → s.tilthState i ≠ 0 → ∃ u : State, exec (.packCmdTilthAbort p e) s = .next u.settle ∧
        u.f (R.PACK_TILTH_STATUS i) F.PACK_TILTH_STATUS_STATE = 0 ∧ u.f (R.PACK_TILTH_STATUS i) F.PACK_TILTH_STATUS_LAST = 2 ∧ done u {}) ∧
      (leAt e 9 1 = 4 → i < 4 →
        let id := s.f (R.PACK_CHG_FAULT i) F.PACK_CHG_FAULT_CAUSE
        (id = 0 → ∃ u : State, exec (.packCmdChargeClear p e) s = .next u.settle ∧ s.sameRegs u [R.RING_CNT p, R.CPLQ_STATUS] ∧
          done u { status := 0x50, detail := 1 }) ∧
        (id = 0x50 ∨ id = 0x51 ∨ id = 0x54 → (s.hrwInst id i).st = .locked → s.clearCause id i = 0 → ∃ u : State,
          exec (.packCmdChargeClear p e) s = .next u.settle ∧ u.rd (R.PACK_CHG_FAULT i) = 0#32 ∧ (u.hrwInst id i).st = .clear ∧
          done u {}))) ∧
    (ctlOp e = 6 → ctlClean e [(8, 6), (16, 8)] = true → leAt e 8 4 = 0xFFFFFFFF → leAt e 12 2 = 1 → s.recalled = true →
      let v := leAt e 16 8
      let slot := (s.bb.next + 2048 - s.bb.held) % 2048
      v / 2 ^ 63 = 1 → bufOk v 64 = true →
      (s.bb.held = 0 → ∃ u : State, exec (.bbRead p e) s = .next u.settle ∧ done u { status := 0x54 }) ∧
      (s.bb.held ≠ 0 → (∀ j < 8, s.nvmGroup (bbAddr slot / 8 + j) = .valid) → ∃ (u : State) (r1 : Nat),
        exec (.bbRead p e) s = .next u.settle ∧ u.winRead (v % 2 ^ 63) 64 = s.nvmPeek (bbAddr slot) 64 ∧
        done u { r0 := 1, r1 := r1 } ∧ r1 % 2 ^ 32 = (s.bbSeq slot + 1) % 2 ^ 32)) ∧
    (ctlOp e = 7 → ctlClean e [(8, 2), (16, 40)] = true → 256 ≤ leAt e 8 2 → s.recalled = true →
      let v := leAt e 48 8
      v / 2 ^ 63 = 1 → bufOk v 256 = true →
      (s.fw.life = 4 → ∃ u : State, exec (.attest p e) s = .next u.settle ∧ s.sameRegs u [R.RING_CNT p, R.CPLQ_STATUS] ∧ done u { status := 0x54 }) ∧
      (s.fw.life ≠ 4 → ∃ u : State, exec (.attest p e) s = .next u.settle ∧ u.winRead (v % 2 ^ 63) 4 = leBytes 4 0x54414E44 ∧
        u.winRead (v % 2 ^ 63 + 16) 32 = slice e 16 32 ∧ done u { r0 := 256 }))

/-- BLOB commands (R289, R293–R295, R334), with buffers in the local window: FW_CHUNK completes with the chunk status; NVM_READ and NVM_WRITE reach the
direct-access area alone, and a write wraps in its page and leaves every other page as it is; an SMBus write is refused while the pack link
identifies or is up, and a failed transaction is retried once; a CAN frame is sent, or refused while the port is bus-off; CAN_RECV takes a
matching frame that nothing claims, and times out. Completes: fwChunk, nvmRead, nvmWrite, smbXfer, canSend, canRecv, canRecvTimeout. -/
def Obligations.BlobCommandsMoveTheirData : Prop :=
  ∀ (s : State) (p : Fin 32) (e : List Byte), s.live → s.ctlReady p typBlob e = true → s.ctlTurn p typBlob e = true →
    let done := fun (u : State) (r : CtlRes) => s.completesTo u p (ctlCpl e r s.now48) (ctlWorthy e)
    let v := leAt e 16 8
    let o := v % 2 ^ 63
    let a := leAt e 8 4
    (ctlOp e = 1 → ctlClean e [(8, 16)] = true → 1 ≤ leAt e 12 4 → leAt e 12 4 ≤ 65536 → v / 2 ^ 63 = 1 → bufOk v (leAt e 12 4) = true →
      ∀ buf : DmaRead, let r := s.storeChunk a (s.winRead o (leAt e 12 4))
      ∃ u : State, exec (.fwChunk p e buf) s = .next u.settle ∧ u.fw = r.1.fw ∧ done u { status := r.2.1, detail := r.2.2 }) ∧
    (ctlOp e = 2 → ctlClean e [(8, 6), (16, 8)] = true → a < 0x40000 → 1 ≤ leAt e 12 2 → leAt e 12 2 ≤ 4096 → v / 2 ^ 63 = 1 →
      bufOk v (leAt e 12 2) = true → s.recalled = true →
      let len := leAt e 12 2
      (directArea a len = false → ∃ u : State, exec (.nvmRead p e) s = .next u.settle ∧ s.sameRegs u [R.RING_CNT p, R.CPLQ_STATUS] ∧
        done u { status := 0x50, detail := 0x0011 }) ∧
      (directArea a len = true → ∃ u : State, exec (.nvmRead p e) s = .next u.settle ∧ u.winRead o len = s.nvmPeek a len ∧
        u.nvm.bytes = s.nvm.bytes ∧
        done u { r0 := len, r1 := ((List.range len).filter (fun k => !(s.nvmGroup ((a + k) / 8)).good)).length })) ∧
    (∀ buf : DmaRead, ctlOp e = 3 → ctlClean e [(8, 6), (16, 8)] = true → a < 0x40000 → 1 ≤ leAt e 12 2 → leAt e 12 2 ≤ 128 →
      v / 2 ^ 63 = 1 → bufOk v (leAt e 12 2) = true → s.recalled = true →
      let len := leAt e 12 2
      (directArea a 1 = false → ∃ u : State, exec (.nvmWrite p e buf) s = .next u.settle ∧ u.nvm = s.nvm ∧
        done u { status := 0x50, detail := 0x0011 }) ∧
      (directArea a 1 = true → ∃ u : State, exec (.nvmWrite p e buf) s = .next u.settle ∧
        (s.flag R.HRW_INJECT F.HRW_INJECT_ARMED = false →
          ∀ k < len, u.nvmPeek1 (a / 128 * 128 + (a + k) % 128) = s.winGet (o + k)) ∧
        (∀ x, x / 128 ≠ a / 128 → u.nvmByte x = s.nvmByte x) ∧
        done u { wrap := decide (128 < a % 128 + len), r0 := len })) ∧
    (ctlOp e = 4 → leAt e 8 1 < 4 →
      let i := leAt e 8 1
      (∀ resp : SmbResp, leAt e 9 1 = 2 → ctlClean e [(8, 3), (12, 2)] = true → s.linkState i = lkIdent ∨ s.linkState i = lkUp →
        ∃ (u : State) (d : Nat), exec (.smbXfer p e resp) s = .next u.settle ∧ u.outbox = s.outbox ∧ done u { status := 0x50, detail := d }) ∧
      (leAt e 9 1 = 1 → ctlClean e [(8, 3)] = true →
        (∀ x y : Byte, ∃ u : State, exec (.smbXfer p e (.ok [x, y])) s = .next u.settle ∧
          u.outbox = s.outbox ++ [s.smbTx i (1, leAt e 10 1, [])] ∧ done u { r0 := x.toNat + 256 * y.toNat }) ∧
        (∃ u : State, exec (.smbXfer p e .error) s = .next u.settle ∧
          u.outbox = s.outbox ++ [s.smbTx i (1, leAt e 10 1, []), s.smbTx i (1, leAt e 10 1, [])] ∧ done u { status := 0x56 }))) ∧
    (∀ buf : DmaRead, ctlOp e = 5 → ctlClean e [(8, 3), (12, 12)] = true → leAt e 8 1 < 2 → leAt e 9 1 < 8 →
      let n := leAt e 8 1
      let ide := bitsOf (leAt e 9 1) 0 1 == 1
      let fd := bitsOf (leAt e 9 1) 1 1 == 1
      let brs := bitsOf (leAt e 9 1) 2 1 == 1
      canLenOk fd (leAt e 10 1) = true → leAt e 12 4 < (if ide then 2 ^ 29 else 2 ^ 11) → v / 2 ^ 63 = 1 → bufOk v (leAt e 10 1) = true →
      (s.f (R.CAN_STATUS n) F.CAN_STATUS_STATE = 2 → ∀ sent : Bool, ∃ (u : State) (d : Nat), exec (.canSend p e buf sent) s = .next u.settle ∧
        u.outbox = s.outbox ∧ done u { status := 0x50, detail := d }) ∧
      (s.canLive n = true → (fd = true → s.canFd n = true) → ∃ u : State, exec (.canSend p e buf true) s = .next u.settle ∧
        u.outbox = s.outbox ++ [.canTx n ⟨leAt e 12 4, ide, fd, s.winRead o (leAt e 10 1)⟩ brs] ∧ done u {}) ∧
      (s.f (R.CAN_STATUS n) F.CAN_STATUS_STATE ≠ 2 → ∃ u : State, exec (.canSend p e buf false) s = .next u.settle ∧ u.outbox = s.outbox ∧
        done u { status := 0x56 })) ∧
    (ctlOp e = 6 → ctlClean e [(8, 1), (12, 20)] = true → recvOk e = true → leAt e 24 8 / 2 ^ 63 = 1 →
      let n := leAt e 8 1
      (∀ f : CanFrame, s.canLive n = true → (f.fd = true → s.canFd n = true) → s.canClaimed n f = false → (canIdWord f ^^^ leAt e 12 4) &&& leAt e 16 4 = 0 →
        f.data.length ≤ 64 → ∃ u : State, exec (.canRecv p e f) s = .next u.settle ∧
          u.winRead (leAt e 24 8 % 2 ^ 63) f.data.length = f.data ∧ done u { r0 := canIdWord f + 2 ^ 32 * f.data.length }) ∧
      (max (s.pair p).headAt (s.can n).freeAt + leAt e 20 4 * 200000 ≤ s.cyc → ∃ u : State, exec (.canRecvTimeout p e) s = .next u.settle ∧
        s.sameRegs u [R.RING_CNT p, R.CPLQ_STATUS] ∧ done u { status := 0x55 }))

/-! Telemetry. -/

/-- Telemetry buffers and streams (R312–R319): a post gives its stream a buffer, or is MALFORMED; every (DIV + 1)-th sampling event of a running stream
writes the next record into the current buffer; a record that does not fit completes the buffer FULL and starts the next; a record lost is counted; a
buffer completes FLUSHED after FLUSH_MS; a set-up is started, refused with CFG_ERR or stopped, with STOPPED completions. Triggers (R319, R320): a
trigger or FORCE takes an ARMED stream to CAPTURE and makes its next record the trigger record; a trigger in another state is ignored; ARM takes a
stream from DONE to ARMED. Completes: post, glnSample, glnFlushExpiry, glnDisable, glnEnable, force, glnTrigger, arm. -/
def Obligations.TelemetryStreamsAndTriggers : Prop :=
  (∀ (s : State) (g : Fin 8), s.live →
      let r := s.gln g
      let c := R.GLN_CFG g
      let n := s.f c F.GLN_CFG_CUNIT
      let record := fun (b : List Byte) =>
        glnRecord (s.f c F.GLN_CFG_KIND) g (s.rdN (R.GLN_SEQ g)) s.now48 0 (coordField (s.coordPos n) ++ b)
      (∀ (p : Fin 32) (e : List Byte), s.ctlReady p 3 e = true → ctlOp e = 1 → bitsOf (leAt e 0 4) 8 3 = g →
        let v := leAt e 8 8
        let len := leAt e 16 4
        let formOk := bitsOf (leAt e 0 4) 11 2 = 0 ∧ bitsOf (leAt e 0 4) 14 18 = 0 ∧ allZero (e.drop 20) = true ∧ s.glnPair g = p ∧
          4096 ≤ len ∧ len ≤ 2 ^ 22 ∧ len % 4096 = 0 ∧ v % 64 = 0 ∧ bufOk v len = true
        (formOk → r.bufs.length < 16 → ∃ t, exec (.post p e) s = .next t ∧
          (t.gln g).bufs = r.bufs ++ [⟨leAt e 4 4, v, len, ctlWorthy e, s.frontIdx p⟩] ∧
          t.f (R.GLN_STATUS g) F.GLN_STATUS_BUFS = r.bufs.length + 1 ∧ t.flag (R.GLN_STATUS g) F.GLN_STATUS_NOBUF = false ∧
          s.sameRegs t [R.GLN_STATUS g]) ∧
        (¬ formOk → ∃ u : State, exec (.post p e) s = .next u.settle ∧ u.glns = s.glns ∧
          s.completesTo u p (leBytes 4 (0x15 + 256 * g.val) ++ slice e 4 4) (ctlWorthy e))) ∧
      (∀ (body b : List Byte) (w : State), s.glnState g = glnRun → s.glnDue g = true → s.glnBody g body = some (b, w) →
        let len := (record b).length
        (r.divCnt < s.f c F.GLN_CFG_DIV → ∀ d : Fin 3, ∃ t, exec (.glnSample g body d) s = .next t ∧ s.sameRegs t [] ∧
          (t.gln g).divCnt = r.divCnt + 1) ∧
        (s.f c F.GLN_CFG_DIV ≤ r.divCnt →
          (∃ t, exec (.glnSample g body 1) s = .next t ∧ t.rdN (R.GLN_SEQ g) = (s.rdN (R.GLN_SEQ g) + 1) % 2 ^ 32 ∧
            t.rdN (R.GLN_LOST g) = min (s.rdN (R.GLN_LOST g) + 1) (2 ^ 32 - 1) ∧ (t.gln g).gapCount = r.gapCount + 1 ∧
            (t.gln g).bufs = r.bufs) ∧
          (∀ (x : GlnBuf) (rest : List GlnBuf), r.bufs = x :: rest → x.addr / 2 ^ 63 = 1 → r.gapCount = 0 → r.trigNext = false →
            (r.curLen + len ≤ x.len → x.addr % 2 ^ 63 + x.len ≤ 0x80000 → ∃ t, exec (.glnSample g body 0) s = .next t ∧
              t.winRead (x.addr % 2 ^ 63 + r.curLen) len = record b ∧ t.rdN (R.GLN_SEQ g) = (s.rdN (R.GLN_SEQ g) + 1) % 2 ^ 32 ∧
              (t.gln g).curLen = r.curLen + len ∧ (t.gln g).bufs = r.bufs ∧ (t.gln g).divCnt = 0 ∧ (t.gln g).lastTime = s.now48) ∧
            (∀ (y : GlnBuf) (l : List GlnBuf), x.len < r.curLen + len → r.curLen ≠ 0 → rest = y :: l → y.addr / 2 ^ 63 = 1 →
              y.addr % 2 ^ 63 + y.len ≤ 0x80000 → len ≤ y.len → ∃ u : State, exec (.glnSample g body 0) s = .next u.settle ∧
              s.completesTo u (s.glnPair g) (glnCpl 0x00 g x.tag r.curLen r.firstSeq r.firstTime r.lastTime) x.irq ∧
              (u.gln g).bufs = rest ∧ (u.gln g).curLen = len ∧ u.winRead (y.addr % 2 ^ 63) len = record b)))) ∧
      (∀ (x : GlnBuf) (rest : List GlnBuf), r.bufs = x :: rest → r.curLen ≠ 0 →
        (s.f (R.GLN_FLUSH g) F.GLN_FLUSH_FLUSH_MS ≠ 0 → s.glnState g ≠ glnFaulted →
          r.firstAt + s.f (R.GLN_FLUSH g) F.GLN_FLUSH_FLUSH_MS * 200000 ≤ s.cyc → ∃ u : State,
          exec (.glnFlushExpiry g) s = .next u.settle ∧ (u.gln g).bufs = rest ∧ (u.gln g).curLen = 0 ∧
          s.completesTo u (s.glnPair g) (glnCpl 0x01 g x.tag r.curLen r.firstSeq r.firstTime r.lastTime) x.irq) ∧
        (∀ p : Path, s.laterWrote p c = false → rest = [] → ∃ u : State, exec (.glnDisable p g) s = .next u.settle ∧ u.glnState g = glnOff ∧ (u.gln g).bufs = [] ∧
          s.completesTo u (s.glnPair g) (glnCpl 0x02 g x.tag r.curLen r.firstSeq r.firstTime r.lastTime) x.irq)) ∧
      (∀ p : Path, s.laterWrote p c = false → ∃ u : State, exec (.glnDisable p g) s = .next u.settle ∧ u.glnState g = glnOff ∧ (u.gln g).bufs = [] ∧
        u.flag c F.GLN_CFG_EN = false) ∧
      (∀ (p : Path) (v : Word), s.laterWrote p c = false → s.glnState g = glnOff →
        (s.glnValid g (putBits v 0 1 1) = true → ∃ t, exec (.glnEnable p g v) s = .next t ∧ t.flag c F.GLN_CFG_EN = true ∧
          t.rd (R.GLN_SEQ g) = 0#32 ∧ t.glnState g = (if getBits v 1 1 = 1 then glnArmed else glnRun) ∧ (t.gln g).bufs = r.bufs ∧
          s.sameRegs t [c, R.GLN_SEQ g, R.GLN_STATUS g]) ∧
        (s.glnValid g (putBits v 0 1 1) = false → ∃ t, exec (.glnEnable p g v) s = .next t ∧ t.flag c F.GLN_CFG_EN = true ∧
          t.flag (R.GLN_STATUS g) F.GLN_STATUS_CFG_ERR = true ∧ t.glnState g = glnOff ∧ s.onlyRegs t [c, R.GLN_STATUS g] []))) ∧
  (∀ (s : State) (p : Path) (g : Fin 8), s.live →
      (s.glnState g = glnArmed → (s.gln g).pre = [] →
        (∃ t, exec (.force p g) s = .next t ∧ t.glnState g = glnCapture ∧ (t.gln g).trigNext = true ∧ s.sameRegs t [R.GLN_STATUS g]) ∧
        (s.glnTrigNow g = true → ∃ t, exec (.glnTrigger g) s = .next t ∧ t.glnState g = glnCapture ∧
          (t.gln g).trigNext = true ∧ s.sameRegs t [R.GLN_STATUS g])) ∧
      (s.glnTrigNow g = false → exec (.glnTrigger g) s = .next s) ∧
      (s.glnState g ≠ glnArmed → exec (.force p g) s = .next s ∧ exec (.glnTrigger g) s = .next s) ∧
      (s.glnState g = glnDone → ∃ t, exec (.arm p g) s = .next t ∧ t.glnState g = glnArmed ∧ (t.gln g).pre = [] ∧
        (t.gln g).trigNext = false ∧ s.sameRegs t [R.GLN_STATUS g]))

/-! The safety envelope, updates and the store. -/

/-- The envelope comparators (R327): a pack or rail voltage above its limit, or a charge current above 1.10 times it, releases every stage that
runs into the node, with fault 0x58, 0x29 or 0x59; a discharge current above 1.10 times its limit, or a temperature outside the discharge window,
opens the SERIES switch, with fault 0x5A or 0x5B; without a committed envelope, and inside the limits, nothing happens; a lowered limit
moves its comparator 1 ms later. Completes: envelopePackOv, envelopeRailOv, envelopePackOc, envelopePackTemp, envThresholdMove. -/
def Obligations.EnvelopeComparatorsRelease : Prop :=
  ∀ (s : State) (i : Fin 4) (r : Fin 8), s.live →
    let released := fun (u : State) (node : Nat) => ∀ n : Fin 8, n.val ∈ s.stagesRunInto node → s.stageRuns n = true →
      u.stageState n = stTripped
    let opened := fun (u : State) => ∀ w : Fin 12, s.seriesOf (8 + i.val) = some w.val → u.pswClosed w = false
    let chg := 10 * s.envThr (84 + 32 * i.val)
    let dsg := 10 * s.envThr (86 + 32 * i.val)
    (s.envValid = true →
      (∀ mv : Nat, s.envThr (80 + 32 * i.val) < mv → ∃ u : State, exec (.envelopePackOv i mv) s = .next u.settle ∧ released u (8 + i.val) ∧
        u.raised = [faultOf 0x58 i (faultRec mv (s.envThr (80 + 32 * i.val)))]) ∧
      (∀ mv : Nat, s.envThr (208 + 8 * r.val) < mv → ∃ u : State, exec (.envelopeRailOv r mv) s = .next u.settle ∧ released u r ∧
        u.raised = [faultOf 0x29 r (faultRec mv (s.envThr (208 + 8 * r.val)))]) ∧
      (∀ ma : Nat, 11 * chg < 10 * ma → ∃ u : State, exec (.envelopePackOc i ma) s = .next u.settle ∧ released u (8 + i.val) ∧
        u.raised = [faultOf 0x59 i (faultRec ma chg)]) ∧
      (∀ ma : Nat, 11 * dsg < 10 * ma → ∃ u : State, exec (.envelopePackOc i (-(ma : Int))) s = .next u.settle ∧ opened u ∧
        u.raised = [faultOf 0x5A i (faultRec ma dsg)]) ∧
      ((∀ c : Nat, (s.pack i).envTempAt = some c → c + 20000000 ≤ s.cyc) → (s.hrwInst 0x5B i).st = .clear →
        let record := fun (e : Nat) (win : Byte) => leBytes 2 (s.f (R.PACK_TEMP i) F.PACK_TEMP_T_ZONE) ++ [0#8, 0#8] ++ leBytes 2 e ++ [0#8, 0#8, win]
        (∀ e : Nat, s.tempBreak i true 0 = some e → ∃ u : State, exec (.envelopePackTemp i) s = .next u.settle ∧ opened u ∧
          u.raised = [faultOf 0x5B i (record e 1#8)]) ∧
        (∀ e : Nat, s.tempBreak i true 0 = none → s.tempBreak i false 0 = some e → ∃ u : State,
          exec (.envelopePackTemp i) s = .next u.settle ∧ released u (8 + i.val) ∧ u.raised = [faultOf 0x5B i (record e 0#8)]) ∧
        (s.tempBreak i true 0 = none → s.tempBreak i false 0 = none → ∃ t, exec (.envelopePackTemp i) s = .next t ∧ s.sameRegs t []))) ∧
    (∀ c : Nat, (s.pack i).envTempAt = some c → s.cyc < c + 20000000 → exec (.envelopePackTemp i) s = .next s) ∧
    (∀ mv : Nat, s.envValid = false ∨ mv ≤ s.envThr (80 + 32 * i.val) → exec (.envelopePackOv i mv) s = .next s) ∧
    (∀ mv : Nat, s.envValid = false ∨ mv ≤ s.envThr (208 + 8 * r.val) → exec (.envelopeRailOv r mv) s = .next s) ∧
    (s.sys.envMove = true → s.sys.envAt + 200000 ≤ s.cyc → ∃ t, exec .envThresholdMove s = .next t ∧ s.sameRegs t [] ∧
      ∀ o, t.envThr o = leAt s.fw.envelope o 2)

/-- Updates (R335, R337–R340): a build ends BUILT with the images of the set, or fails with its code and fault 0xB8; ACTIVATE is refused while
an order stands or a stage runs, else leaves the bank PENDING and in mode 0 boots it in TRIAL; ABANDON drops the staged package; CONFIRM of a
Field core makes the trial bank ACTIVE and raises the floors; an unconfirmed trial falls back with fault 0xB9. Completes: fwuBuildDone, activate,
abandon, confirm, trialExpiry. -/
def Obligations.UpdatesAreTriedBeforeTheyCount : Prop :=
  ∀ (s : State) (p : Path), s.live →
    (∀ ok : Bool, s.fw.state = 2 → s.sys.field = true →
      (∀ e : Nat, s.buildResult ok = .error e → ∃ u : State, exec (.fwuBuildDone ok) s = .next u.settle ∧ u.fw.state = 0 ∧ u.fw.last = 3 ∧
        u.fw.fail = e ∧ u.fw.staged = s.fw.staged ∧ u.fw.bank0 = s.fw.bank0 ∧ u.fw.bank1 = s.fw.bank1 ∧
        u.raised = [faultOf 0xB8 0 (leBytes 4 e)]) ∧
      (∀ cs : List FwComp, s.buildResult ok = .ok cs → ∃ t, exec (.fwuBuildDone ok) s = .next t ∧ t.fw.state = 3 ∧
        t.spareBank.comps = cs ∧ t.activeBank = s.activeBank ∧ t.fw.staged = s.fw.staged)) ∧
    (s.fw.state = 3 →
      (s.quietStages = false → ∃ t, exec (.activate p) s = .next t ∧ s.onlyRegs t [R.FWU_STATUS] [] ∧
        t.flag R.FWU_STATUS F.FWU_STATUS_ACT_REFUSED = true) ∧
      (s.quietStages = true → s.flag R.FWU_CFG F.FWU_CFG_ACT_MODE = true → ∃ u : State, exec (.activate p) s = .next u.settle ∧
        u.fw.state = 5 ∧ u.spareBank.st = .pending ∧ u.activeBank = s.activeBank ∧ u.fw.running1 = s.fw.running1) ∧
      (s.quietStages = true → s.flag R.FWU_CFG F.FWU_CFG_ACT_MODE = false → ∃ t, exec (.activate p) s = .next t ∧ t.fw.state = 4 ∧
        t.fw.boots = 1 ∧ t.fw.running1 = !s.activeIs1 ∧ t.runBank.st = .trial ∧ t.f R.RST_CAUSE F.RST_CAUSE_CAUSE = rcSoftware)) ∧
    (s.fw.state ≠ 2 → s.fw.state ≠ 4 → ∃ t, exec (.abandon p) s = .next t ∧ t.fw.state = 0 ∧ t.fw.manifest = [] ∧ t.fw.staged = [] ∧
      t.fw.last = (if s.fw.state = 5 then 4 else s.fw.last)) ∧
    (s.fw.state = 2 ∨ s.fw.state = 4 → exec (.abandon p) s = .next s) ∧
    (s.fw.state = 4 →
      (s.sys.field = true → s.trialOver = false → ∃ u : State, exec (.confirm .field) s = .next u.settle ∧ u.fw.state = 0 ∧ u.fw.last = 1 ∧
        u.runBank.st = .active ∧ u.runBank.comps = s.runBank.comps ∧ u.otherBank.comps = s.activeBank.comps ∧
        ∀ c : Fin 4, u.fw.floors.getD c 0 = max (s.fw.floors.getD c 0) (s.runBank.comp c).svn) ∧
      (p ≠ .field → exec (.confirm p) s = .next s) ∧
      (s.trialOver = true → ∃ u : State, exec .trialExpiry s = .next u.settle ∧ u.fw.state = 0 ∧ u.fw.last = 2 ∧ u.fw.boots = 0 ∧
        u.fw.running1 = s.activeIs1 ∧ u.f R.RST_CAUSE F.RST_CAUSE_CAUSE = rcSoftware ∧ faultOf 0xB9 0 [] ∈ u.raised))

/-- The data NVM (R347, R349, R358, R359, R361, R365): the oldest record of the breach log, else of the queue, is appended into the next slot with the
next sequence number; a page without live data is erased and every other page stays; every counter is committed by a flush; INC of a host counter
counts, saturates at 2^40 − 1 and commits 64 above the committed value, and INC of a device counter is ignored. The debug port and the mailbox (R322,
R325, R342): opening the debug port is a Safe-state and fault 0xBD and leaves the part in DEBUG_PENDING, from which the next tick erases the keys and
enters DEBUG; the mailbox refuses what only Headland may do with fault 0xB5, and commits an envelope that R325 accepts. Completes: bbAppend,
nvmReerase, nvmCntFlush, inc, dbgOpen, mailboxRequest. -/
def Obligations.StoreDebugAndMailbox : Prop :=
  (∀ (s : State) (p : Path), s.live →
      (∀ (b : BbRec) (l : List BbRec), s.recalled = true → s.bb.lost = 0 → s.bb.next < 2048 → s.bb.breach ++ s.bb.queue = b :: l →
        s.flag R.HRW_INJECT F.HRW_INJECT_ARMED = false →
        ∃ t, exec .bbAppend s = .next t ∧ t.bb.breach ++ t.bb.queue = l ∧ t.bb.next = (s.bb.next + 1) % 2048 ∧
          t.rdN R.BB_NEXT_SEQ = (s.rdN R.BB_NEXT_SEQ + 1) % 2 ^ 32 ∧
          t.nvmPeek (bbAddr s.bb.next) 16 = leBytes 4 (s.rdN R.BB_NEXT_SEQ) ++ [BitVec.ofNat 8 b.kind, BitVec.ofNat 8 b.sub] ++
            leBytes 2 s.bb.boot ++ leBytes 6 b.time ++ [0#8, 0#8]) ∧
      (s.bb.lost = 0 → s.bb.breach = [] → s.bb.queue = [] → exec .bbAppend s = .next s) ∧
      (∀ page : Fin 2048,
        (s.deadPage page = true → ∃ t, exec (.nvmReerase page) s = .next t ∧ page.val ∉ t.nvm.reerase ∧
          (∀ a, a / 128 = page.val → t.nvmByte a = 0xFF#8 ∧ t.nvmGroup (a / 8) = .unwritten) ∧
          (∀ a, a / 128 ≠ page.val → t.nvmByte a = s.nvmByte a ∧ t.nvmGroup (a / 8) = s.nvmGroup (a / 8)) ∧
          s.sameRegs t [R.NVM_STATUS]) ∧
        (s.deadPage page = false → exec (.nvmReerase page) s = .next s)) ∧
      (s.recalled = true → ∃ u : State, exec (.nvmCntFlush p) s = .next u.settle ∧
        s.sameRegs u (R.NVM_STATUS :: (List.range 32).map R.NVM_CNT_HI) ∧
        ∀ k : Fin 32, (u.counter k).committed = (s.counter k).work ∧ (u.counter k).flushed = true ∧ (u.counter k).work = (s.counter k).work) ∧
      (∀ k : Fin 32,
        (k.val < 16 → exec (.inc p k) s = .next s) ∧
        (16 ≤ k.val → ∃ u : State, exec (.inc p k) s = .next u.settle ∧
          let w := min ((s.counter k).work + 1) (2 ^ 40 - 1)
          (u.counter k).work = w ∧ (u.counter k).committed = (if (s.counter k).committed + 64 ≤ w then w else (s.counter k).committed) ∧
          u.rdN (R.NVM_CNT_LO k) = w % 2 ^ 32 ∧ u.f (R.NVM_CNT_HI k) F.NVM_CNT_HI_VALUE = w / 2 ^ 32 ∧
          s.sameRegs u [R.NVM_CNT_LO k, R.NVM_CNT_HI k, R.NVM_STATUS]))) ∧
  (∀ s : State, s.live →
      (s.fw.life ≠ 3 → s.fw.life ≠ 4 → ∃ u : State, exec .dbgOpen s = .next u.settle ∧ u.fw.life = 3 ∧ u.sys.dbgAt = s.cyc ∧
        u.f R.SEC_STATUS F.SEC_STATUS_LIFECYCLE = 3 ∧ u.fw.keyErased = s.fw.keyErased ∧
        faultOf 0xBE 0 [] ∈ u.raised ∧ faultOf 0xBD 0 [] ∈ u.raised) ∧
      (s.fw.life = 3 → s.sys.dbgAt < s.cyc → let t := s.tickDebug
        t.fw.life = 4 ∧ t.fw.keyErased = true ∧ t.fw.sealGen = s.fw.sealGen + 1 ∧ t.flag R.DBG_STATUS F.DBG_STATUS_OPEN = true ∧
        t.rd R.BB_KEY_SEQ = t.rd R.BB_NEXT_SEQ) ∧
      (s.fw.life = 3 ∨ s.fw.life = 4 → exec .dbgOpen s = .next s) ∧
      (s.sys.field = true →
        (∀ m : Mailbox, (m ≠ .ship ∧ ∀ b, m ≠ .envelope b) → ∃ u : State, exec (.mailboxRequest m) s = .next u.settle ∧
          s.onlyRegs u [] [faultOf 0xB5 0 []]) ∧
        (s.shipCause ≠ 0 → ∃ u : State, exec (.mailboxRequest .ship) s = .next u.settle ∧ u.sys.power = .on ∧
          u.raised = [faultOf 0x47 0 [], faultOf 0xB5 0 []]) ∧
        (∀ b : List Byte, s.envAccepts b = true → ∃ t, exec (.mailboxRequest (.envelope b)) s = .next t ∧ t.fw.envelope = b ∧
          t.envValid = true) ∧
        (∀ b : List Byte, s.envAccepts b = false → ∃ u : State, exec (.mailboxRequest (.envelope b)) s = .next u.settle ∧
          s.onlyRegs u [] [faultOf 0xBC 0 [], faultOf 0xB5 0 []])) ∧
      (s.sys.field = false → ∀ m : Mailbox, exec (.mailboxRequest m) s = .next s))

/-! Harrow and the watchdog. -/

/-- Reports (R371, R373–R375, R377): a report is counted and shown in HRW_STATUS; from CLEAR a Note stays CLEAR, Degrade, Trip and Lockout make the
instance ACTIVE with its effective class, and Safe-state makes it SAFE and begins the Safe-state; a QUIET instance is ACTIVE again, a LOCKED
one stays LOCKED; a Trip or Lockout of a stage's fault trips its stage; a fault event is this report, settled; a corrected read of the code flash
is counted (R360). Completes: faultReport. -/
def Obligations.FaultReportsFollowTheirClass : Prop :=
  ∀ (s : State) (id : Fin 256) (inst : Fin 16) (record : List Byte), s.live →
    (∃ t, exec (.faultReport id inst record) s = .next t) ∧
    (defaultClass id = none → exec (.faultReport id inst record) s = .next s) ∧
    (defaultClass id ≠ none →
      let c := if id.val = 0xA7 then s.bump R.CFL_STATUS F.CFL_STATUS_CORR 1 else s
      let u := c.report id inst (padTo 16 record)
      let h := s.hrwInst id inst
      let cls := s.effClass id
      (u.raised = [] → exec (.faultReport id inst record) s = .next u) ∧
      u.f R.HRW_STATUS F.HRW_STATUS_LAST_ID = id ∧ u.f R.HRW_STATUS F.HRW_STATUS_LAST_INST = inst ∧
      (u.hrwInst id inst).occur = min 255 (h.occur + 1) ∧ (u.hrwInst id inst).record = padTo 16 record ∧
      (h.st = .clear → (cls = 0 → (u.hrwInst id inst).st = .clear) ∧
        (1 ≤ cls → cls ≤ 3 → (u.hrwInst id inst).st = .active ∧ (u.hrwInst id inst).cls = cls) ∧
        (cls = 4 → (u.hrwInst id inst).st = .safe ∧ u.safeOn = true) ∧
        (∀ n : Fin 8, id.val = 0x21 → inst.val = n.val → 2 ≤ cls → cls ≤ 3 → s.stageRuns n = true → u.stageState n = stTripped)) ∧
      (cls = 4 → h.st ≠ .locked → h.st ≠ .safe → s.safeOn = false →
        (∀ n : Fin 8, u.stageState n = stOff) ∧ ∀ w : Fin 12, s.egressMarked w = false → u.pswClosed w = false) ∧
      (cls ≠ 4 → h.st = .quiet → (u.hrwInst id inst).st = .active) ∧
      (h.st = .locked → (u.hrwInst id inst).st = .locked))

/-- Recovery (R377–R379): when the cause of an ACTIVE instance has ended it passes to CLEAR, QUIET or LOCKED by its class; a quiet period ends in
CLEAR, its unit released, or in LOCKED once REC_LIMIT is reached; a software clear is refused with its cause, or empties the instance. Completes:
faultCauseGone, quietExpiry, hrwClear. -/
def Obligations.InstancesRecoverByTheirClass : Prop :=
  ∀ (s : State) (id : Fin 256) (inst : Fin 16), s.live →
    let h := s.hrwInst id inst
    (h.st = .active → lastingIds.contains id.val = true ∨ h.tick ≠ s.tick →
      (s.setHrw id inst { h with cause := false }).causePresent id inst = false → ∃ t, exec (.faultCauseGone id inst) s = .next t ∧
        (h.cls = 1 → (t.hrwInst id inst).st = .clear) ∧
        (h.cls = 2 → (t.hrwInst id inst).st = .quiet ∧ (t.hrwInst id inst).quietAt = s.cyc + s.quietCycles id) ∧
        (h.cls = 3 → (t.hrwInst id inst).st = .locked)) ∧
    (h.st = .quiet → h.quietAt ≤ s.cyc →
      let r := s.recentRecov h
      let limit := max 1 (s.f R.HRW_RECOVERY F.HRW_RECOVERY_REC_LIMIT)
      ∃ u : State, exec (.quietExpiry id inst) s = .next u.settle ∧
        (r.length < limit → (u.hrwInst id inst).st = .clear ∧ (u.hrwInst id inst).recov = s.cyc :: r ∧
          ∀ n : Fin 8, id.val = 0x21 → inst.val = n.val → s.stageState n = stTripped → u.heldStage n = false → u.stageState n = stReady) ∧
        (limit ≤ r.length → (u.hrwInst id inst).st = .locked)) ∧
    (h.st = .quiet → s.cyc < h.quietAt → exec (.quietExpiry id inst) s = .next s) ∧
    (∀ (p : Path) (v : Word), getBits v 0 8 = id → getBits v 8 4 = inst →
      (s.clearCause id inst ≠ 0 → ∃ t, exec (.hrwClear p v) s = .next t ∧
        s.onlyRegs t [R.HRW_CLEAR_RESULT, R.PACK_CHG_STATUS inst] [] ∧
        t.f R.HRW_CLEAR_RESULT F.HRW_CLEAR_RESULT_CAUSE = s.clearCause id inst) ∧
      (s.clearCause id inst = 0 → ∃ u : State, exec (.hrwClear p v) s = .next u.settle ∧ (u.hrwInst id inst).st = .clear ∧
        (u.hrwInst id inst).recov = [] ∧ u.f R.HRW_CLEAR_RESULT F.HRW_CLEAR_RESULT_CAUSE = 0))

/-- Safe-state and injection (R24, R37, R39, R371, R380, R384): SAFE_REQ is fault 0xBE; in a Safe-state the marked switches close; a TIE switch left closed
opens once its rails are in regulation or after 1 s; an injection is armed on a quiet fabric, at a place that it may reach, else refused; a
check-bit error is fault 0x10, or 0x11 where two bits are wrong. Completes: safeReq, egressClose, egressTieRelease, hrwInjectArm, memEccError. -/
def Obligations.SafeStateAndInjectionActAsTold : Prop :=
  ∀ (s : State) (p : Path) (w : Fin 12), s.live →
    (∃ u : State, exec (.safeReq p) s = .next u.settle ∧ s.onlyRegs u [] [faultOf 0xBE 1 []]) ∧
    (s.safeOn = true → s.sys.longPress = false ∨ (∀ i : Fin 4, s.seriesOf (8 + i.val) ≠ some w.val) → s.egressMarked w = true → (s.psw w).egressTrip = false → (s.psw w).hold = false →
      s.switchHeld w = false → ∃ t, exec .egressClose s = .next t ∧ t.pswClosed w = true ∧ t.stages = s.stages) ∧
    (s.safeOn = false → exec .egressClose s = .next s) ∧
    (s.releasing = true → s.pswRole w = 2 → s.pswClosed w = true →
      let settled := (∀ r ∈ s.tieRails w, s.flag (R.RAIL_STATUS r) F.RAIL_STATUS_PGOOD = true) ∨ s.sys.releaseAt + 200000000 ≤ s.cyc
      (settled → ∃ t, exec (.egressTieRelease w) s = .next t ∧ t.pswClosed w = false ∧ s.sameRegs t [R.PSW_STATUS w]) ∧
      (¬ settled → exec (.egressTieRelease w) s = .next s)) ∧
    (∀ v : Word,
      let m := getBits v 0 3
      let a := s.rdN R.HRW_INJECT_ADDR
      let may := s.quietStages = true ∧ m ≤ 5 ∧ (m = 5 → 0x16000 ≤ a ∧ a ≤ 0x1FFFF) ∧ (m = 1 → p = .headland)
      (may → ∃ t, exec (.hrwInjectArm p v) s = .next t ∧ t.flag R.HRW_INJECT F.HRW_INJECT_ARMED = true ∧ t.sys.injMem = m ∧
        t.sys.injAddr = a ∧ s.sameRegs t [R.HRW_INJECT]) ∧
      (¬ may → ∃ t, exec (.hrwInjectArm p v) s = .next t ∧ t.flag R.HRW_INJECT F.HRW_INJECT_INJ_REFUSED = true ∧ t.sys = s.sys ∧
        t.flag R.HRW_INJECT F.HRW_INJECT_ARMED = s.flag R.HRW_INJECT F.HRW_INJECT_ARMED ∧ s.sameRegs t [R.HRW_INJECT])) ∧
    (∀ (mem : Fin 6) (off : Nat), mem ≠ 5 →
      (∃ u : State, exec (.memEccError mem false off) s = .next u.settle ∧ s.onlyRegs u [R.HRW_INJECT] [faultOf 0x10 mem []]) ∧
      (∃ u : State, exec (.memEccError mem true off) s = .next u.settle ∧ s.onlyRegs u [R.HRW_INJECT] [faultOf 0x11 mem (leBytes 4 off)]))

/-- The system watchdog (R385, R386, R388, R439): Headland's service with the key restarts the window, unless it is early or a task has not checked in;
a wrong key, an early service, a missing task, a second check-in of a STRICT slot, the end of the window and the loss of its clock begin the
expiry sequence with their cause; a service by another master is fault 0xB0; a check-in by PCI Express or SPI is ignored; the grace period ends in a
reset with cause 3. Completes: wdtService, wdtWindowExpiry, wdtClockLoss, wdtCheckin, wdtGraceEnd. -/
def Obligations.WatchdogExpiresOnItsCauses : Prop :=
  ∀ (s : State) (p : Path) (v : Word), s.live →
    let expires := fun (u : State) (cause : Nat) (record : List Byte) => u.f R.WDT_STATUS F.WDT_STATUS_CAUSE = cause ∧
      u.flag R.WDT_STATUS F.WDT_STATUS_EXPIRED = true ∧ u.sys.grace = true ∧ u.sys.graceAt = s.cyc ∧
      u.outbox = s.outbox ++ [.nmi] ∧ u.raised = [faultOf 0xB1 cause record]
    let key := getBits v 0 16
    let early := s.f R.WDT_CFG F.WDT_CFG_EARLY_MS
    let en := s.f R.WDT_TASK_EN F.WDT_TASK_EN_EN
    let seen := s.f R.WDT_STATUS F.WDT_STATUS_SEEN
    let isEarly := early ≠ 0 ∧ s.cyc < s.sys.wdtAt + early * 200000
    let missing := ∃ k : Fin 16, bitsOf en k 1 = 1 ∧ bitsOf seen k 1 = 0
    (p ≠ .headland → ∃ u : State, exec (.wdtService p v) s = .next u.settle ∧
      s.onlyRegs u [] [faultOf 0xB0 (pathNo p) (leBytes 4 R.WDT_SERVICE)]) ∧
    (s.inRun = true → s.sys.grace = false →
      (key ≠ 0xA5C3 → ∃ u : State, exec (.wdtService .headland v) s = .next u.settle ∧ expires u 6 (faultRec key 0xA5C3) ∧
        s.sameRegs u [R.WDT_STATUS]) ∧
      (key = 0xA5C3 → isEarly → ∃ u : State, exec (.wdtService .headland v) s = .next u.settle ∧ expires u 2 (faultRec s.wdtMs early) ∧
        s.sameRegs u [R.WDT_STATUS]) ∧
      (key = 0xA5C3 → ¬ isEarly → missing → ∃ u : State, exec (.wdtService .headland v) s = .next u.settle ∧
        expires u 3 (faultRec seen en) ∧ s.sameRegs u [R.WDT_STATUS]) ∧
      (key = 0xA5C3 → ¬ isEarly → ¬ missing → ∃ t, exec (.wdtService .headland v) s = .next t ∧ t.sys.wdtAt = s.cyc ∧
        t.f R.WDT_STATUS F.WDT_STATUS_SEEN = 0 ∧ s.sameRegs t [R.WDT_STATUS]) ∧
      (s.sys.wdtAt + s.wdtWin * 200000 ≤ s.cyc → ∃ u : State, exec .wdtWindowExpiry s = .next u.settle ∧
        expires u 1 (faultRec s.wdtMs s.wdtWin) ∧ s.sameRegs u [R.WDT_STATUS]) ∧
      (∃ u : State, exec .wdtClockLoss s = .next u.settle ∧ expires u 5 [] ∧ s.sameRegs u [R.WDT_STATUS])) ∧
    (s.inRun = true → p = .field ∨ p = .headland →
      let k := getBits v 0 4
      (bitsOf en k 1 = 1 → bitsOf seen k 1 = 0 → s.sys.wdtServed ≠ some (s.cyc / 2) → ∃ t, exec (.wdtCheckin p v) s = .next t ∧ s.onlyRegs t [R.WDT_STATUS] [] ∧
        bitsOf (t.f R.WDT_STATUS F.WDT_STATUS_SEEN) k 1 = 1) ∧
      (bitsOf en k 1 = 1 → bitsOf seen k 1 = 1 ∨ s.sys.wdtServed = some (s.cyc / 2) →
        let double := fun (t : State) => getBits (t.rd R.WDT_ANOMALY) k 1 = 1 ∧
          t.f R.WDT_ANOMALY F.WDT_ANOMALY_COUNT = min (s.f R.WDT_ANOMALY F.WDT_ANOMALY_COUNT + 1) 65535
        (bitsOf (s.f R.WDT_TASK_EN F.WDT_TASK_EN_STRICT) k 1 = 0 → ∃ t, exec (.wdtCheckin p v) s = .next t ∧ double t ∧
          s.onlyRegs t [R.WDT_ANOMALY] []) ∧
        (bitsOf (s.f R.WDT_TASK_EN F.WDT_TASK_EN_STRICT) k 1 = 1 → s.sys.grace = false → ∃ u : State,
          exec (.wdtCheckin p v) s = .next u.settle ∧ double u ∧ expires u 4 (faultRec k 0)))) ∧
    (p = .pcie ∨ p = .spi → exec (.wdtCheckin p v) s = .next s) ∧
    (∀ w : NvmCut,
      (s.sys.grace = true → s.sys.graceAt + 800000 ≤ s.cyc → ∃ u : State, exec (.wdtGraceEnd w) s = .next u.settle ∧
        u.f R.RST_CAUSE F.RST_CAUSE_CAUSE = rcWatchdog ∧ u.sys.starting = true ∧ u.sys.grace = false) ∧
      (s.sys.grace = false ∨ s.cyc < s.sys.graceAt + 800000 → exec (.wdtGraceEnd w) s = .next s))

/-! Start-up, power states and clocks. -/

/-- Resets and start-up (R338, R366, R391, R392, R397–R399, R401, R402): NRST of 10 µs, SYS_RESET and a brownout reset the block with their causes, and
keep the time, the data NVM and, on the supply, the local window; SYS_RESET by another master than Headland is fault 0xB0; the power-fail
warning opens every switch and holds the block; the start-up recalls the NVM and starts the Field cores, or without a bank that boots is fault
0xBB; RUN_READY follows once every AUTO_ON rail has settled. Without a reset pending the start-up is a power-on reset. Completes: nrst, sysReset,
powerFailWarn, coldStart, runReady, brownout. -/
def Obligations.ResetsAndStartUp : Prop :=
  (∀ (s : State) (p : Path), s.live →
    let reset := fun (u : State) (cause : Nat) => u.f R.RST_CAUSE F.RST_CAUSE_CAUSE = cause ∧ u.sys.starting = true ∧ u.sys.power = .on ∧
      u.cyc = s.cyc ∧ u.plan = [] ∧ u.localWin = s.localWin
    (∀ (ns : Nat) (w : NvmCut), 10000 ≤ ns → ∃ u : State, exec (.nrst ns w) s = .next u.settle ∧ reset u rcNrst ∧
      (w = .idle → s.fw.state ≠ 4 → u.nvm = s.nvm)) ∧
    (∀ (ns : Nat) (w : NvmCut), ns < 9600 → exec (.nrst ns w) s = .next s) ∧
    (∃ u : State, exec (.sysReset .headland) s = .next u.settle ∧ reset u rcSoftware ∧ (s.fw.state ≠ 4 → u.nvm = s.nvm)) ∧
    (p ≠ .headland → s.rd R.RST_CTRL = 0#32 → ∃ u : State, exec (.sysReset p) s = .next u.settle ∧
      s.onlyRegs u [] [faultOf 0xB0 (pathNo p) (leBytes 4 R.RST_CTRL)]) ∧
    (∀ c : NvmCut, ∃ t, exec (.powerFailWarn c) s = .next t ∧ t.sys.power = .hold ∧ t.bb.queue = [] ∧ t.bb.breach = [] ∧
      ∀ w : Fin 12, t.pswClosed w = false) ∧
    (∀ o : StartObs, s.sys.starting = true →
      let okRun := if s.fw.running1 then o.bank1Ok else o.bank0Ok
      let okOther := if s.fw.running1 then o.bank0Ok else o.bank1Ok
      (okRun = true → ∃ u : State, exec (.coldStart o) s = .next u.settle ∧ u.sys.starting = false ∧ u.sys.field = true ∧
        u.recalled = true ∧ u.f R.GLB_STATUS F.GLB_STATUS_STEP = 6) ∧
      (okRun = false → okOther = true → s.runBank.st = .active → s.otherBank.st = .previous →
        ∃ u : State, exec (.coldStart o) s = .next u.settle ∧ u.sys.field = true ∧ u.fw.running1 = !s.fw.running1 ∧
          faultOf 0xBA 0 [] ∈ u.raised) ∧
      (okRun = false → okOther = false → ∃ u : State, exec (.coldStart o) s = .next u.settle ∧ u.sys.starting = false ∧
        u.sys.field = s.sys.field ∧ u.recalled = true ∧ faultOf 0xBB 0 [] ∈ u.raised)) ∧
    (s.sys.starting = false → s.sys.field = true → s.runReady = false →
      (∀ r : Fin 8, s.declared r = true → s.flag (R.RAIL_CFG r) F.RAIL_CFG_AUTO_ON = true → s.railSettled r = true) →
      ∃ t, exec .runReady s = .next t ∧ t.runReady = true ∧ t.f R.GLB_STATUS F.GLB_STATUS_STEP = 7 ∧
        t.rdN (R.RST_MILE 6) = (s.us - s.sys.startUs) % 2 ^ 32 ∧ s.sameRegs t [R.GLB_STATUS, R.RST_MILE 6])) ∧
  (∀ (s : State) (o : StartObs),
    (s.sys.power = .hold → ∃ u : State, exec .brownout s = .next u.settle ∧ u.f R.RST_CAUSE F.RST_CAUSE_CAUSE = rcBrownout ∧
      u.sys.power = .on ∧ u.sys.starting = true ∧ u.cyc = s.cyc) ∧
    (s.sys.power ≠ .hold → exec .brownout s = .next s) ∧
    (s.sys.power = .hold ∨ s.sys.power = .fallow ∨ (s.sys.power = .on ∧ s.sys.starting = false) →
      ∃ u : State, exec (.coldStart o) s = .next u.settle ∧ u.f R.RST_CAUSE F.RST_CAUSE_CAUSE = rcPowerOn ∧ u.cyc = 0) ∧
    (s.sys.power = .ship → exec (.coldStart o) s = .next s))

/-- IDLE, FALLOW and their wakes (R389, R393–R396, R399): a request is refused with its cause, or the stages stop and the block rests; an enabled
source that has acted wakes IDLE to RUN with the Field cores and a full watchdog window, and resets a block in FALLOW with cause FALLOW_WAKE, its
coordinates kept and STALE. Completes: pwrReqIdle, pwrReqFallow, idleWake, fallowWake. -/
def Obligations.RestIsRefusedOrEndsWithAWake : Prop :=
  ∀ (s : State) (p : Path),
    let noted := [R.EVENT_STATUS, R.CPLQ_STATUS, R.HOST_GLB_STATUS]
    (s.live → s.inRun = true →
      (s.restCause false ≠ 0 → ∃ t, exec (.pwrReqIdle p) s = .next t ∧ s.onlyRegs t [R.PWR_STATUS] [] ∧
        t.f R.PWR_STATUS F.PWR_STATUS_REFUSE = s.restCause false) ∧
      (s.restCause true ≠ 0 → ∃ t, exec (.pwrReqFallow p) s = .next t ∧ s.onlyRegs t [R.PWR_STATUS] [] ∧
        t.f R.PWR_STATUS F.PWR_STATUS_REFUSE = s.restCause true) ∧
      (s.restCause false = 0 → ∃ u : State, exec (.pwrReqIdle p) s = .next u.settle ∧ u.f R.GLB_STATUS F.GLB_STATUS_PSTATE = 2 ∧
        u.sys.field = false ∧ u.sys.power = .on ∧ u.f R.PWR_STATUS F.PWR_STATUS_REFUSE = 0 ∧ ∀ n : Fin 8, u.stageRuns n = false) ∧
      (s.restCause true = 0 → ∃ u : State, exec (.pwrReqFallow p) s = .next u.settle ∧ u.sys.power = .fallow ∧
        u.f R.GLB_STATUS F.GLB_STATUS_PSTATE = 1 ∧ (∀ w : Fin 12, u.pswClosed w = false) ∧ ∀ k : Fin 32, (u.counter k).flushed = true)) ∧
    (s.live → s.inRun = false → exec (.pwrReqIdle p) s = .next s ∧ exec (.pwrReqFallow p) s = .next s) ∧
    (∀ src : IdleSrc, s.live →
      let on := ∀ b, idleBit src = some b → getBits (s.rd R.PWR_WAKE_EN) b 1 = 1
      (s.f R.GLB_STATUS F.GLB_STATUS_PSTATE = 2 → on → s.idleActed src = true → ∃ u : State, exec (.idleWake src) s = .next u.settle ∧ u.inRun = true ∧
        u.sys.field = true ∧ u.sys.wdtAt = s.cyc ∧ u.f R.WDT_STATUS F.WDT_STATUS_SEEN = 0 ∧
        u.f R.PWR_STATUS F.PWR_STATUS_WAKE_SRC =
          (if s.f R.PWR_STATUS F.PWR_STATUS_WAKE_SRC = 0 then idleCode src else s.f R.PWR_STATUS F.PWR_STATUS_WAKE_SRC) ∧
        s.sameRegs u ([R.PWR_STATUS, R.GLB_STATUS, R.WDT_STATUS] ++ noted)) ∧
      (s.f R.GLB_STATUS F.GLB_STATUS_PSTATE ≠ 2 ∨ ¬ on ∨ s.idleActed src = false → exec (.idleWake src) s = .next s)) ∧
    (∀ (src : WakeSrc) (aon : Nat), s.sys.power = .fallow →
      (s.fallowOn src aon = true → ∃ u : State, exec (.fallowWake src aon) s = .next u.settle ∧ u.sys.power = .on ∧
        u.f R.RST_CAUSE F.RST_CAUSE_CAUSE = rcFallow ∧ u.cyc = s.cyc + (aon * 15625 + s.sys.aonFrac) / 512 * 200 ∧
        u.f R.PWR_STATUS F.PWR_STATUS_WAKE_SRC =
          (if s.f R.PWR_STATUS F.PWR_STATUS_WAKE_SRC = 0 then wakeCode src else s.f R.PWR_STATUS F.PWR_STATUS_WAKE_SRC) ∧
        ∀ n : Fin 5, u.flag (R.COORD_STATUS n) F.COORD_STATUS_STALE = true ∧ u.rd (R.COORD_POS_LO n) = s.rd (R.COORD_POS_LO n) ∧
          u.rd (R.COORD_POS_HI n) = s.rd (R.COORD_POS_HI n)) ∧
      (s.fallowOn src aon = false → exec (.fallowWake src aon) s = .next s))

/-- SHIP and the long press (R216–R219): a request is refused with its cause and fault 0x47, or opens every switch, flushes the counters and enters SHIP,
which the push button, an input or a port ends with a cold start of cause SHIP_WAKE; a long press opens the SERIES switches of the packs, with fault
0x48 where a source holds the block up, and gives them back at its end. Clocks, bias rails and the die (R371, R405, R407, R408): the loss of CLK_REF
is the fall-back and fault 0x02, once, and its return for 10 ms ends it; the loss of the CLK_AON crystal is fault 0x03 unless the internal oscillator is
in use; a PLL out of lock is fault 0x04 with its domain; a bias rail is fault 0x08; 115.0 °C is fault 0x0A and 135.0 °C fault 0x0B. Completes:
shipEnter, shipWake, longPress, longPressEnd, clkRefFail, clkRefReturn, clkAonFail, pllUnlock, biasFault, dieTemp. -/
def Obligations.ShipClocksAndDie : Prop :=
  (∀ (s : State) (p : Path),
      (s.live →
        (s.shipCause ≠ 0 → ∃ u : State, exec (.shipEnter .headland) s = .next u.settle ∧ s.onlyRegs u [R.SHIP_STATUS] [faultOf 0x47 0 []] ∧
          u.f R.SHIP_STATUS F.SHIP_STATUS_REFUSE = s.shipCause) ∧
        (s.shipCause = 0 → ∃ u : State, exec (.shipEnter .headland) s = .next u.settle ∧ u.sys.power = .ship ∧
          u.f R.SHIP_STATUS F.SHIP_STATUS_REFUSE = 0 ∧ (∀ w : Fin 12, u.pswClosed w = false) ∧
          (∀ n : Fin 8, u.stageRuns n = false) ∧ ∀ k : Fin 32, (u.counter k).flushed = true) ∧
        (p ≠ .headland → s.rd R.SHIP_CTRL = 0#32 → ∃ u : State, exec (.shipEnter p) s = .next u.settle ∧
          s.onlyRegs u [] [faultOf 0xB0 (pathNo p) (leBytes 4 R.SHIP_CTRL)]) ∧
        (∀ c : NvmCut, s.sys.pbHeld = false → ∃ u : State, exec (.longPress true c) s = .next u.settle ∧ u.raised = [faultOf 0x48 0 []] ∧ u.sys.longPress = true ∧
          u.sys.longAt = s.cyc ∧ ∀ (i : Fin 4) (w : Fin 12), s.seriesOf (8 + i.val) = some w.val → u.pswClosed w = false) ∧
        (∀ c : NvmCut, s.sys.pbHeld = false → ∃ t, exec (.longPress false c) s = .next t ∧ t.sys.power = .hold) ∧
        (s.sys.longPress = true → s.sys.longAt + 80000000 ≤ s.cyc → ∃ t, exec .longPressEnd s = .next t ∧ t.sys.longPress = false ∧
          s.sameRegs t [] ∧ ∀ (i : Fin 4) (w : Fin 12), s.seriesOf (8 + i.val) = some w.val → s.heldPack i = false →
            (t.psw w).forced = (s.psw w).hold)) ∧
      (∀ c : NvmCut,
        (s.sys.power = .fallow → s.sys.pbHeld = false →
          (∃ t, exec (.longPress true c) s = .next t ∧ t.sys.power = .fallow ∧ t.sys.longPress = true ∧ s.sameRegs t []) ∧
          (∃ t, exec (.longPress false c) s = .next t ∧ t.sys.power = .hold ∧ s.sameRegs t [])) ∧
        (∀ src : Bool, s.sys.pbHeld = true → exec (.longPress src c) s = .next s)) ∧
      (∀ src : WakeSrc, s.sys.power = .ship →
        (src ≠ .timer → src ≠ .nrst → ∃ u : State, exec (.shipWake src) s = .next u.settle ∧ u.sys.power = .on ∧
          u.f R.RST_CAUSE F.RST_CAUSE_CAUSE = rcShip ∧ u.cyc = 0 ∧ u.localWin = [] ∧
          u.f R.SHIP_STATUS F.SHIP_STATUS_WAKE_SRC =
            (if s.f R.SHIP_STATUS F.SHIP_STATUS_WAKE_SRC = 0 then wakeCode src else s.f R.SHIP_STATUS F.SHIP_STATUS_WAKE_SRC)) ∧
        (src = .timer ∨ src = .nrst → exec (.shipWake src) s = .next s))) ∧
  (∀ s : State, s.live →
      (s.sys.refLost = false → ∃ u : State, exec .clkRefFail s = .next u.settle ∧ u.sys.refLost = true ∧ u.raised = [faultOf 0x02 0 []] ∧
        u.flag R.CLK_STATUS F.CLK_STATUS_REF_OK = false ∧ u.flag R.CLK_STATUS F.CLK_STATUS_REF_FALLBACK = true ∧
        u.flag R.GLB_STATUS F.GLB_STATUS_REF_FALLBACK = true ∧ s.sameRegs u [R.CLK_STATUS, R.GLB_STATUS]) ∧
      (s.sys.refLost = true → exec .clkRefFail s = .next s) ∧
      (s.sys.refLost = true → s.sys.refAt + 2000000 ≤ s.cyc → ∃ t, exec .clkRefReturn s = .next t ∧ t.sys.refLost = false ∧
        t.flag R.CLK_STATUS F.CLK_STATUS_REF_OK = true ∧ t.flag R.CLK_STATUS F.CLK_STATUS_REF_FALLBACK = false ∧
        t.flag R.GLB_STATUS F.GLB_STATUS_REF_FALLBACK = false ∧ (t.hrwInst 0x02 0).cause = false) ∧
      (s.sys.refLost = false ∨ s.cyc < s.sys.refAt + 2000000 → exec .clkRefReturn s = .next s) ∧
      (s.flag R.CLK_STATUS F.CLK_STATUS_AON_INTERNAL = false → ∃ u : State, exec .clkAonFail s = .next u.settle ∧
        s.onlyRegs u [R.CLK_STATUS, R.GLB_STATUS] [faultOf 0x03 0 []] ∧ u.flag R.CLK_STATUS F.CLK_STATUS_AON_OK = false ∧
        u.flag R.CLK_STATUS F.CLK_STATUS_AON_INTERNAL = true ∧ u.flag R.GLB_STATUS F.GLB_STATUS_AON_INTERNAL = true) ∧
      (s.flag R.CLK_STATUS F.CLK_STATUS_AON_INTERNAL = true → exec .clkAonFail s = .next s) ∧
      (∃ u : State, exec (.pllUnlock false) s = .next u.settle ∧ s.onlyRegs u [R.CLK_STATUS] [faultOf 0x04 3 []] ∧
        u.flag R.CLK_STATUS F.CLK_STATUS_PLLA_LOCK = false) ∧
      (∃ u : State, exec (.pllUnlock true) s = .next u.settle ∧ s.onlyRegs u [R.CLK_STATUS] [faultOf 0x04 6 []] ∧
        u.flag R.CLK_STATUS F.CLK_STATUS_PLLB_LOCK = false) ∧
      (∀ (core : Bool) (mv : Nat), ∃ (u : State) (limit : Nat), exec (.biasFault core mv) s = .next u.settle ∧ s.sameRegs u [] ∧
        u.raised = [faultOf 0x08 (boolNat core) (faultRec mv limit)]) ∧
      (∀ t : Int,
        (1350 ≤ t → s.sys.dieHot = 0 → ∃ u : State, exec (.dieTemp t) s = .next u.settle ∧ s.sameRegs u [] ∧ u.sys.dieHot = 2 ∧
          u.raised = [faultOf 0x0A 0 (faultRec (ofSigned 32 t) 1150), faultOf 0x0B 0 (faultRec (ofSigned 32 t) 1350)]) ∧
        (1150 ≤ t → t < 1350 → s.sys.dieHot = 0 → ∃ u : State, exec (.dieTemp t) s = .next u.settle ∧ s.sameRegs u [] ∧ u.sys.dieHot = 1 ∧
          u.raised = [faultOf 0x0A 0 (faultRec (ofSigned 32 t) 1150)]) ∧
        (t < 1150 → s.sys.dieHot = 2 → ∃ u, exec (.dieTemp t) s = .next u ∧ u.sys.dieHot = 0 ∧ (u.hrwInst 0x0A 0).cause = false ∧
          (u.hrwInst 0x0B 0).cause = false) ∧
        (t < 1150 → s.sys.dieHot = 0 → exec (.dieTemp t) s = .next s)))
end

