-- ==== Sys2Proof/Laws/Bits.lean ====
section
/-! SUPPORT. What a field read after a field write gives: the value written, or what the word held where the fields do not meet. -/

namespace Sys2Proof.Machine

theorem maskLow_getLsbD {w i : Nat} (hw : w ≤ 32) : (maskLow w).getLsbD i = decide (i < w) := by
  unfold maskLow
  rw [BitVec.getLsbD_ofNat, Nat.testBit_two_pow_sub_one]
  by_cases h : i < w <;> simp [h]
  omega

theorem putBits_getLsbD {r : Word} {lo w v i : Nat} (h : lo + w ≤ 32) (hi : i < 32) :
    (putBits r lo w v).getLsbD i = if lo ≤ i ∧ i < lo + w then v.testBit (i - lo) else r.getLsbD i := by
  have hw : w ≤ 32 := by omega
  unfold putBits
  simp only [BitVec.getLsbD_or, BitVec.getLsbD_and, BitVec.getLsbD_not, BitVec.getLsbD_shiftLeft, maskLow_getLsbD hw,
    BitVec.getLsbD_ofNat, hi, decide_true, Bool.true_and]
  by_cases h1 : lo ≤ i
  · by_cases h2 : i < lo + w
    · have h3 : ¬ i < lo := by omega
      have h4 : i - lo < w := by omega
      have h5 : i - lo < 32 := by omega
      simp [h1, h2, h3, h4, h5]
    · have h4 : ¬ i - lo < w := by omega
      simp [h1, h2, h4]
  · have h3 : i < lo := by omega
    simp [h1, h3]

theorem getBits_lt (r : Word) (lo w : Nat) (hw : w ≤ 32) : getBits r lo w < 2 ^ w := by
  unfold getBits
  rw [BitVec.toNat_and]
  refine Nat.lt_of_le_of_lt Nat.and_le_right ?_
  unfold maskLow
  have h1 : 0 < 2 ^ w := Nat.pow_pos (by decide)
  have h2 : 2 ^ w ≤ 2 ^ 32 := Nat.pow_le_pow_right (by decide) hw
  rw [BitVec.toNat_ofNat, Nat.mod_eq_of_lt (by omega)]
  omega

theorem getBits_testBit {r : Word} {lo w : Nat} (hw : w ≤ 32) (i : Nat) :
    (getBits r lo w).testBit i = (decide (i < w) && r.getLsbD (lo + i)) := by
  unfold getBits
  rw [BitVec.testBit_toNat, BitVec.getLsbD_and, maskLow_getLsbD hw, BitVec.getLsbD_ushiftRight, Bool.and_comm]

/-- A field reads the value last written to it, cut to its width. -/
theorem getBits_putBits_same (r : Word) {lo w : Nat} (v : Nat) (h : lo + w ≤ 32) :
    getBits (putBits r lo w v) lo w = v % 2 ^ w := by
  apply Nat.eq_of_testBit_eq
  intro i
  rw [getBits_testBit (by omega), Nat.testBit_mod_two_pow]
  by_cases hi : i < w
  · rw [putBits_getLsbD h (by omega)]
    have h1 : lo ≤ lo + i := by omega
    simp [hi]
  · simp [hi]

/-- A field does not change with a write to a field that shares no bit with it. -/
theorem getBits_putBits_other (r : Word) {lo w lo' w' : Nat} (v : Nat) (h : lo + w ≤ 32) (h' : lo' + w' ≤ 32)
    (hd : lo' + w' ≤ lo ∨ lo + w ≤ lo') : getBits (putBits r lo w v) lo' w' = getBits r lo' w' := by
  apply Nat.eq_of_testBit_eq
  intro i
  rw [getBits_testBit (by omega), getBits_testBit (by omega)]
  by_cases hi : i < w'
  · rw [putBits_getLsbD h (by omega), if_neg (by omega)]
  · simp [hi]

/-- Bits of a word outside a field survive a write to it. -/
theorem putBits_outside {r : Word} {lo w v i : Nat} (h : lo + w ≤ 32) (hi : i < 32) (ho : ¬ (lo ≤ i ∧ i < lo + w)) :
    (putBits r lo w v).getLsbD i = r.getLsbD i := by
  rw [putBits_getLsbD h hi, if_neg ho]

end Sys2Proof.Machine
end

