-- ==== Sys2Proof/Laws/Crc.lean ====
section
/-! SUPPORT. CRC-32C over natural numbers, each bit evaluated before the next one begins, so that the kernel can compute the checksum of a
long string; it equals `crc32c`. -/

namespace Sys2Proof.Machine

/-- Go on with a number once it is evaluated. -/
def forced {α : Type} (n : Nat) (f : Nat → α) : α :=
  match n with
  | 0 => f 0
  | k + 1 => f (k + 1)

@[simp] theorem forced_eq {α : Type} (n : Nat) (f : Nat → α) : forced n f = f n := by cases n <;> rfl

def crcBitNat (c : Nat) : Nat := if c % 2 = 1 then (c / 2) ^^^ 0x82F63B78 else c / 2

def crcBitsNat : Nat → Nat → Nat
  | 0, c => c
  | n + 1, c => forced (crcBitNat c) (crcBitsNat n)

def crcFold : List Byte → Nat → Nat
  | [], c => c
  | b :: bs, c => forced (crcBitsNat 8 (c ^^^ b.toNat)) (crcFold bs)

def crcNat (bs : List Byte) : Nat := 0xFFFFFFFF - crcFold bs 0xFFFFFFFF

theorem crcBit_toNat (c : BitVec 32) : (crcBit c).toNat = crcBitNat c.toNat := by
  have h : (c &&& 1#32 = 1#32) ↔ c.toNat % 2 = 1 := by
    rw [← BitVec.toNat_inj]
    simp [BitVec.toNat_and, Nat.and_one_is_mod]
  unfold crcBit crcBitNat
  by_cases hc : c &&& 1#32 = 1#32
  · rw [if_pos hc, if_pos (h.mp hc)]
    simp [BitVec.toNat_xor, BitVec.toNat_ushiftRight, Nat.shiftRight_one]
  · rw [if_neg hc, if_neg (fun x => hc (h.mpr x))]
    simp [BitVec.toNat_ushiftRight, Nat.shiftRight_one]

theorem crcBits_toNat (n : Nat) : ∀ c : BitVec 32, (crcBits n c).toNat = crcBitsNat n c.toNat := by
  induction n with
  | zero => intro c; rfl
  | succ n ih => intro c; simp [crcBits, crcBitsNat, ih, crcBit_toNat]

theorem crcFold_toNat (bs : List Byte) : ∀ c : BitVec 32, (bs.foldl crcByte c).toNat = crcFold bs c.toNat := by
  induction bs with
  | nil => intro c; rfl
  | cons b bs ih =>
    intro c
    rw [List.foldl_cons, ih, crcFold, forced_eq, crcByte, crcBits_toNat]
    simp only [BitVec.toNat_xor, BitVec.toNat_setWidth]
    rw [Nat.mod_eq_of_lt (by omega : b.toNat < 2 ^ 32)]

theorem crc32c_eq : crc32c = crcNat := by
  funext bs
  unfold crc32c crcNat
  rw [BitVec.toNat_not, crcFold_toNat]
  rfl

end Sys2Proof.Machine
end

