-- ==== Sys2Proof/Laws/State.lean ====
section
/-! SUPPORT. One lemma per field per update: what each named update of State leaves alone, and what each reading gives after an
update of another part. -/

namespace Sys2Proof.Machine

variable (s : State)

@[simp] theorem State.wr_cyc (o : Nat) (v : Word) : (s.wr o v).cyc = s.cyc := rfl
@[simp] theorem State.wr_free (o : Nat) (v : Word) : (s.wr o v).free = s.free := rfl
@[simp] theorem State.wr_cycle (o : Nat) (v : Word) : (s.wr o v).cycle = s.cycle := rfl
@[simp] theorem State.wr_hiLatch (o : Nat) (v : Word) : (s.wr o v).hiLatch = s.hiLatch := rfl
@[simp] theorem State.wr_loStage (o : Nat) (v : Word) : (s.wr o v).loStage = s.loStage := rfl
@[simp] theorem State.wr_localWin (o : Nat) (v : Word) : (s.wr o v).localWin = s.localWin := rfl
@[simp] theorem State.wr_msixTable (o : Nat) (v : Word) : (s.wr o v).msixTable = s.msixTable := rfl
@[simp] theorem State.wr_msixPend (o : Nat) (v : Word) : (s.wr o v).msixPend = s.msixPend := rfl
@[simp] theorem State.wr_intDis (o : Nat) (v : Word) : (s.wr o v).intDis = s.intDis := rfl
@[simp] theorem State.wr_outbox (o : Nat) (v : Word) : (s.wr o v).outbox = s.outbox := rfl
@[simp] theorem State.wr_srcs (o : Nat) (v : Word) : (s.wr o v).srcs = s.srcs := rfl
@[simp] theorem State.wr_cplq (o : Nat) (v : Word) : (s.wr o v).cplq = s.cplq := rfl
@[simp] theorem State.wr_pairs (o : Nat) (v : Word) : (s.wr o v).pairs = s.pairs := rfl
@[simp] theorem State.wr_evLost (o : Nat) (v : Word) : (s.wr o v).evLost = s.evLost := rfl
@[simp] theorem State.wr_evLosing (o : Nat) (v : Word) : (s.wr o v).evLosing = s.evLosing := rfl
@[simp] theorem State.wr_rrLast (o : Nat) (v : Word) : (s.wr o v).rrLast = s.rrLast := rfl
@[simp] theorem State.wr_plan (o : Nat) (v : Word) : (s.wr o v).plan = s.plan := rfl
@[simp] theorem State.wr_planSeq (o : Nat) (v : Word) : (s.wr o v).planSeq = s.planSeq := rfl
@[simp] theorem State.wr_alloc (o : Nat) (v : Word) : (s.wr o v).alloc = s.alloc := rfl
@[simp] theorem State.wr_releasedA (o : Nat) (v : Word) : (s.wr o v).releasedA = s.releasedA := rfl
@[simp] theorem State.wr_releasedB (o : Nat) (v : Word) : (s.wr o v).releasedB = s.releasedB := rfl
@[simp] theorem State.wr_tick (o : Nat) (v : Word) : (s.wr o v).tick = s.tick := rfl
@[simp] theorem State.wr_trim (o : Nat) (v : Word) : (s.wr o v).trim = s.trim := rfl
@[simp] theorem State.wr_revalCause (o : Nat) (v : Word) : (s.wr o v).revalCause = s.revalCause := rfl
@[simp] theorem State.wr_revalAt (o : Nat) (v : Word) : (s.wr o v).revalAt = s.revalAt := rfl
@[simp] theorem State.wr_revalE (o : Nat) (v : Word) : (s.wr o v).revalE = s.revalE := rfl
@[simp] theorem State.wr_revalP (o : Nat) (v : Word) : (s.wr o v).revalP = s.revalP := rfl
@[simp] theorem State.wr_revalH (o : Nat) (v : Word) : (s.wr o v).revalH = s.revalH := rfl
@[simp] theorem State.wr_fab (o : Nat) (v : Word) : (s.wr o v).fab = s.fab := rfl
@[simp] theorem State.wr_fabCheck (o : Nat) (v : Word) : (s.wr o v).fabCheck = s.fabCheck := rfl
@[simp] theorem State.wr_hrw (o : Nat) (v : Word) : (s.wr o v).hrw = s.hrw := rfl
@[simp] theorem State.wr_raised (o : Nat) (v : Word) : (s.wr o v).raised = s.raised := rfl
@[simp] theorem State.wr_safeOn (o : Nat) (v : Word) : (s.wr o v).safeOn = s.safeOn := rfl
@[simp] theorem State.wr_releasing (o : Nat) (v : Word) : (s.wr o v).releasing = s.releasing := rfl
@[simp] theorem State.wr_coords (o : Nat) (v : Word) : (s.wr o v).coords = s.coords := rfl
@[simp] theorem State.wr_gpts (o : Nat) (v : Word) : (s.wr o v).gpts = s.gpts := rfl
@[simp] theorem State.wr_stages (o : Nat) (v : Word) : (s.wr o v).stages = s.stages := rfl
@[simp] theorem State.wr_rails (o : Nat) (v : Word) : (s.wr o v).rails = s.rails := rfl
@[simp] theorem State.wr_loopSets (o : Nat) (v : Word) : (s.wr o v).loopSets = s.loopSets := rfl
@[simp] theorem State.wr_supplies (o : Nat) (v : Word) : (s.wr o v).supplies = s.supplies := rfl
@[simp] theorem State.wr_xfers (o : Nat) (v : Word) : (s.wr o v).xfers = s.xfers := rfl
@[simp] theorem State.wr_psws (o : Nat) (v : Word) : (s.wr o v).psws = s.psws := rfl
@[simp] theorem State.wr_mppt (o : Nat) (v : Word) : (s.wr o v).mppt = s.mppt := rfl
@[simp] theorem State.wr_packs (o : Nat) (v : Word) : (s.wr o v).packs = s.packs := rfl
@[simp] theorem State.wr_cans (o : Nat) (v : Word) : (s.wr o v).cans = s.cans := rfl
@[simp] theorem State.wr_ports (o : Nat) (v : Word) : (s.wr o v).ports = s.ports := rfl
@[simp] theorem State.wr_glns (o : Nat) (v : Word) : (s.wr o v).glns = s.glns := rfl
@[simp] theorem State.wr_nvm (o : Nat) (v : Word) : (s.wr o v).nvm = s.nvm := rfl
@[simp] theorem State.wr_bb (o : Nat) (v : Word) : (s.wr o v).bb = s.bb := rfl
@[simp] theorem State.wr_fw (o : Nat) (v : Word) : (s.wr o v).fw = s.fw := rfl
@[simp] theorem State.wr_sys (o : Nat) (v : Word) : (s.wr o v).sys = s.sys := rfl
@[simp] theorem State.wr_pending (o : Nat) (v : Word) : (s.wr o v).pending = s.pending := rfl

@[simp] theorem State.setF_cyc (o : Nat) (g : Fld) (v : Nat) : (s.setF o g v).cyc = s.cyc := rfl
@[simp] theorem State.setF_free (o : Nat) (g : Fld) (v : Nat) : (s.setF o g v).free = s.free := rfl
@[simp] theorem State.setF_cycle (o : Nat) (g : Fld) (v : Nat) : (s.setF o g v).cycle = s.cycle := rfl
@[simp] theorem State.setF_hiLatch (o : Nat) (g : Fld) (v : Nat) : (s.setF o g v).hiLatch = s.hiLatch := rfl
@[simp] theorem State.setF_loStage (o : Nat) (g : Fld) (v : Nat) : (s.setF o g v).loStage = s.loStage := rfl
@[simp] theorem State.setF_localWin (o : Nat) (g : Fld) (v : Nat) : (s.setF o g v).localWin = s.localWin := rfl
@[simp] theorem State.setF_msixTable (o : Nat) (g : Fld) (v : Nat) : (s.setF o g v).msixTable = s.msixTable := rfl
@[simp] theorem State.setF_msixPend (o : Nat) (g : Fld) (v : Nat) : (s.setF o g v).msixPend = s.msixPend := rfl
@[simp] theorem State.setF_intDis (o : Nat) (g : Fld) (v : Nat) : (s.setF o g v).intDis = s.intDis := rfl
@[simp] theorem State.setF_outbox (o : Nat) (g : Fld) (v : Nat) : (s.setF o g v).outbox = s.outbox := rfl
@[simp] theorem State.setF_srcs (o : Nat) (g : Fld) (v : Nat) : (s.setF o g v).srcs = s.srcs := rfl
@[simp] theorem State.setF_cplq (o : Nat) (g : Fld) (v : Nat) : (s.setF o g v).cplq = s.cplq := rfl
@[simp] theorem State.setF_pairs (o : Nat) (g : Fld) (v : Nat) : (s.setF o g v).pairs = s.pairs := rfl
@[simp] theorem State.setF_evLost (o : Nat) (g : Fld) (v : Nat) : (s.setF o g v).evLost = s.evLost := rfl
@[simp] theorem State.setF_evLosing (o : Nat) (g : Fld) (v : Nat) : (s.setF o g v).evLosing = s.evLosing := rfl
@[simp] theorem State.setF_rrLast (o : Nat) (g : Fld) (v : Nat) : (s.setF o g v).rrLast = s.rrLast := rfl
@[simp] theorem State.setF_plan (o : Nat) (g : Fld) (v : Nat) : (s.setF o g v).plan = s.plan := rfl
@[simp] theorem State.setF_planSeq (o : Nat) (g : Fld) (v : Nat) : (s.setF o g v).planSeq = s.planSeq := rfl
@[simp] theorem State.setF_alloc (o : Nat) (g : Fld) (v : Nat) : (s.setF o g v).alloc = s.alloc := rfl
@[simp] theorem State.setF_releasedA (o : Nat) (g : Fld) (v : Nat) : (s.setF o g v).releasedA = s.releasedA := rfl
@[simp] theorem State.setF_releasedB (o : Nat) (g : Fld) (v : Nat) : (s.setF o g v).releasedB = s.releasedB := rfl
@[simp] theorem State.setF_tick (o : Nat) (g : Fld) (v : Nat) : (s.setF o g v).tick = s.tick := rfl
@[simp] theorem State.setF_trim (o : Nat) (g : Fld) (v : Nat) : (s.setF o g v).trim = s.trim := rfl
@[simp] theorem State.setF_revalCause (o : Nat) (g : Fld) (v : Nat) : (s.setF o g v).revalCause = s.revalCause := rfl
@[simp] theorem State.setF_revalAt (o : Nat) (g : Fld) (v : Nat) : (s.setF o g v).revalAt = s.revalAt := rfl
@[simp] theorem State.setF_revalE (o : Nat) (g : Fld) (v : Nat) : (s.setF o g v).revalE = s.revalE := rfl
@[simp] theorem State.setF_revalP (o : Nat) (g : Fld) (v : Nat) : (s.setF o g v).revalP = s.revalP := rfl
@[simp] theorem State.setF_revalH (o : Nat) (g : Fld) (v : Nat) : (s.setF o g v).revalH = s.revalH := rfl
@[simp] theorem State.setF_fab (o : Nat) (g : Fld) (v : Nat) : (s.setF o g v).fab = s.fab := rfl
@[simp] theorem State.setF_fabCheck (o : Nat) (g : Fld) (v : Nat) : (s.setF o g v).fabCheck = s.fabCheck := rfl
@[simp] theorem State.setF_hrw (o : Nat) (g : Fld) (v : Nat) : (s.setF o g v).hrw = s.hrw := rfl
@[simp] theorem State.setF_raised (o : Nat) (g : Fld) (v : Nat) : (s.setF o g v).raised = s.raised := rfl
@[simp] theorem State.setF_safeOn (o : Nat) (g : Fld) (v : Nat) : (s.setF o g v).safeOn = s.safeOn := rfl
@[simp] theorem State.setF_releasing (o : Nat) (g : Fld) (v : Nat) : (s.setF o g v).releasing = s.releasing := rfl
@[simp] theorem State.setF_coords (o : Nat) (g : Fld) (v : Nat) : (s.setF o g v).coords = s.coords := rfl
@[simp] theorem State.setF_gpts (o : Nat) (g : Fld) (v : Nat) : (s.setF o g v).gpts = s.gpts := rfl
@[simp] theorem State.setF_stages (o : Nat) (g : Fld) (v : Nat) : (s.setF o g v).stages = s.stages := rfl
@[simp] theorem State.setF_rails (o : Nat) (g : Fld) (v : Nat) : (s.setF o g v).rails = s.rails := rfl
@[simp] theorem State.setF_loopSets (o : Nat) (g : Fld) (v : Nat) : (s.setF o g v).loopSets = s.loopSets := rfl
@[simp] theorem State.setF_supplies (o : Nat) (g : Fld) (v : Nat) : (s.setF o g v).supplies = s.supplies := rfl
@[simp] theorem State.setF_xfers (o : Nat) (g : Fld) (v : Nat) : (s.setF o g v).xfers = s.xfers := rfl
@[simp] theorem State.setF_psws (o : Nat) (g : Fld) (v : Nat) : (s.setF o g v).psws = s.psws := rfl
@[simp] theorem State.setF_mppt (o : Nat) (g : Fld) (v : Nat) : (s.setF o g v).mppt = s.mppt := rfl
@[simp] theorem State.setF_packs (o : Nat) (g : Fld) (v : Nat) : (s.setF o g v).packs = s.packs := rfl
@[simp] theorem State.setF_cans (o : Nat) (g : Fld) (v : Nat) : (s.setF o g v).cans = s.cans := rfl
@[simp] theorem State.setF_ports (o : Nat) (g : Fld) (v : Nat) : (s.setF o g v).ports = s.ports := rfl
@[simp] theorem State.setF_glns (o : Nat) (g : Fld) (v : Nat) : (s.setF o g v).glns = s.glns := rfl
@[simp] theorem State.setF_nvm (o : Nat) (g : Fld) (v : Nat) : (s.setF o g v).nvm = s.nvm := rfl
@[simp] theorem State.setF_bb (o : Nat) (g : Fld) (v : Nat) : (s.setF o g v).bb = s.bb := rfl
@[simp] theorem State.setF_fw (o : Nat) (g : Fld) (v : Nat) : (s.setF o g v).fw = s.fw := rfl
@[simp] theorem State.setF_sys (o : Nat) (g : Fld) (v : Nat) : (s.setF o g v).sys = s.sys := rfl
@[simp] theorem State.setF_pending (o : Nat) (g : Fld) (v : Nat) : (s.setF o g v).pending = s.pending := rfl

@[simp] theorem State.wrN_cyc (o v : Nat) : (s.wrN o v).cyc = s.cyc := rfl
@[simp] theorem State.wrN_free (o v : Nat) : (s.wrN o v).free = s.free := rfl
@[simp] theorem State.wrN_cycle (o v : Nat) : (s.wrN o v).cycle = s.cycle := rfl
@[simp] theorem State.wrN_hiLatch (o v : Nat) : (s.wrN o v).hiLatch = s.hiLatch := rfl
@[simp] theorem State.wrN_loStage (o v : Nat) : (s.wrN o v).loStage = s.loStage := rfl
@[simp] theorem State.wrN_localWin (o v : Nat) : (s.wrN o v).localWin = s.localWin := rfl
@[simp] theorem State.wrN_msixTable (o v : Nat) : (s.wrN o v).msixTable = s.msixTable := rfl
@[simp] theorem State.wrN_msixPend (o v : Nat) : (s.wrN o v).msixPend = s.msixPend := rfl
@[simp] theorem State.wrN_intDis (o v : Nat) : (s.wrN o v).intDis = s.intDis := rfl
@[simp] theorem State.wrN_outbox (o v : Nat) : (s.wrN o v).outbox = s.outbox := rfl
@[simp] theorem State.wrN_srcs (o v : Nat) : (s.wrN o v).srcs = s.srcs := rfl
@[simp] theorem State.wrN_cplq (o v : Nat) : (s.wrN o v).cplq = s.cplq := rfl
@[simp] theorem State.wrN_pairs (o v : Nat) : (s.wrN o v).pairs = s.pairs := rfl
@[simp] theorem State.wrN_evLost (o v : Nat) : (s.wrN o v).evLost = s.evLost := rfl
@[simp] theorem State.wrN_evLosing (o v : Nat) : (s.wrN o v).evLosing = s.evLosing := rfl
@[simp] theorem State.wrN_rrLast (o v : Nat) : (s.wrN o v).rrLast = s.rrLast := rfl
@[simp] theorem State.wrN_plan (o v : Nat) : (s.wrN o v).plan = s.plan := rfl
@[simp] theorem State.wrN_planSeq (o v : Nat) : (s.wrN o v).planSeq = s.planSeq := rfl
@[simp] theorem State.wrN_alloc (o v : Nat) : (s.wrN o v).alloc = s.alloc := rfl
@[simp] theorem State.wrN_releasedA (o v : Nat) : (s.wrN o v).releasedA = s.releasedA := rfl
@[simp] theorem State.wrN_releasedB (o v : Nat) : (s.wrN o v).releasedB = s.releasedB := rfl
@[simp] theorem State.wrN_tick (o v : Nat) : (s.wrN o v).tick = s.tick := rfl
@[simp] theorem State.wrN_trim (o v : Nat) : (s.wrN o v).trim = s.trim := rfl
@[simp] theorem State.wrN_revalCause (o v : Nat) : (s.wrN o v).revalCause = s.revalCause := rfl
@[simp] theorem State.wrN_revalAt (o v : Nat) : (s.wrN o v).revalAt = s.revalAt := rfl
@[simp] theorem State.wrN_revalE (o v : Nat) : (s.wrN o v).revalE = s.revalE := rfl
@[simp] theorem State.wrN_revalP (o v : Nat) : (s.wrN o v).revalP = s.revalP := rfl
@[simp] theorem State.wrN_revalH (o v : Nat) : (s.wrN o v).revalH = s.revalH := rfl
@[simp] theorem State.wrN_fab (o v : Nat) : (s.wrN o v).fab = s.fab := rfl
@[simp] theorem State.wrN_fabCheck (o v : Nat) : (s.wrN o v).fabCheck = s.fabCheck := rfl
@[simp] theorem State.wrN_hrw (o v : Nat) : (s.wrN o v).hrw = s.hrw := rfl
@[simp] theorem State.wrN_raised (o v : Nat) : (s.wrN o v).raised = s.raised := rfl
@[simp] theorem State.wrN_safeOn (o v : Nat) : (s.wrN o v).safeOn = s.safeOn := rfl
@[simp] theorem State.wrN_releasing (o v : Nat) : (s.wrN o v).releasing = s.releasing := rfl
@[simp] theorem State.wrN_coords (o v : Nat) : (s.wrN o v).coords = s.coords := rfl
@[simp] theorem State.wrN_gpts (o v : Nat) : (s.wrN o v).gpts = s.gpts := rfl
@[simp] theorem State.wrN_stages (o v : Nat) : (s.wrN o v).stages = s.stages := rfl
@[simp] theorem State.wrN_rails (o v : Nat) : (s.wrN o v).rails = s.rails := rfl
@[simp] theorem State.wrN_loopSets (o v : Nat) : (s.wrN o v).loopSets = s.loopSets := rfl
@[simp] theorem State.wrN_supplies (o v : Nat) : (s.wrN o v).supplies = s.supplies := rfl
@[simp] theorem State.wrN_xfers (o v : Nat) : (s.wrN o v).xfers = s.xfers := rfl
@[simp] theorem State.wrN_psws (o v : Nat) : (s.wrN o v).psws = s.psws := rfl
@[simp] theorem State.wrN_mppt (o v : Nat) : (s.wrN o v).mppt = s.mppt := rfl
@[simp] theorem State.wrN_packs (o v : Nat) : (s.wrN o v).packs = s.packs := rfl
@[simp] theorem State.wrN_cans (o v : Nat) : (s.wrN o v).cans = s.cans := rfl
@[simp] theorem State.wrN_ports (o v : Nat) : (s.wrN o v).ports = s.ports := rfl
@[simp] theorem State.wrN_glns (o v : Nat) : (s.wrN o v).glns = s.glns := rfl
@[simp] theorem State.wrN_nvm (o v : Nat) : (s.wrN o v).nvm = s.nvm := rfl
@[simp] theorem State.wrN_bb (o v : Nat) : (s.wrN o v).bb = s.bb := rfl
@[simp] theorem State.wrN_fw (o v : Nat) : (s.wrN o v).fw = s.fw := rfl
@[simp] theorem State.wrN_sys (o v : Nat) : (s.wrN o v).sys = s.sys := rfl
@[simp] theorem State.wrN_pending (o v : Nat) : (s.wrN o v).pending = s.pending := rfl

@[simp] theorem State.wr64_cyc (a b v : Nat) : (s.wr64 a b v).cyc = s.cyc := rfl
@[simp] theorem State.wr64_free (a b v : Nat) : (s.wr64 a b v).free = s.free := rfl
@[simp] theorem State.wr64_cycle (a b v : Nat) : (s.wr64 a b v).cycle = s.cycle := rfl
@[simp] theorem State.wr64_hiLatch (a b v : Nat) : (s.wr64 a b v).hiLatch = s.hiLatch := rfl
@[simp] theorem State.wr64_loStage (a b v : Nat) : (s.wr64 a b v).loStage = s.loStage := rfl
@[simp] theorem State.wr64_localWin (a b v : Nat) : (s.wr64 a b v).localWin = s.localWin := rfl
@[simp] theorem State.wr64_msixTable (a b v : Nat) : (s.wr64 a b v).msixTable = s.msixTable := rfl
@[simp] theorem State.wr64_msixPend (a b v : Nat) : (s.wr64 a b v).msixPend = s.msixPend := rfl
@[simp] theorem State.wr64_intDis (a b v : Nat) : (s.wr64 a b v).intDis = s.intDis := rfl
@[simp] theorem State.wr64_outbox (a b v : Nat) : (s.wr64 a b v).outbox = s.outbox := rfl
@[simp] theorem State.wr64_srcs (a b v : Nat) : (s.wr64 a b v).srcs = s.srcs := rfl
@[simp] theorem State.wr64_cplq (a b v : Nat) : (s.wr64 a b v).cplq = s.cplq := rfl
@[simp] theorem State.wr64_pairs (a b v : Nat) : (s.wr64 a b v).pairs = s.pairs := rfl
@[simp] theorem State.wr64_evLost (a b v : Nat) : (s.wr64 a b v).evLost = s.evLost := rfl
@[simp] theorem State.wr64_evLosing (a b v : Nat) : (s.wr64 a b v).evLosing = s.evLosing := rfl
@[simp] theorem State.wr64_rrLast (a b v : Nat) : (s.wr64 a b v).rrLast = s.rrLast := rfl
@[simp] theorem State.wr64_plan (a b v : Nat) : (s.wr64 a b v).plan = s.plan := rfl
@[simp] theorem State.wr64_planSeq (a b v : Nat) : (s.wr64 a b v).planSeq = s.planSeq := rfl
@[simp] theorem State.wr64_alloc (a b v : Nat) : (s.wr64 a b v).alloc = s.alloc := rfl
@[simp] theorem State.wr64_releasedA (a b v : Nat) : (s.wr64 a b v).releasedA = s.releasedA := rfl
@[simp] theorem State.wr64_releasedB (a b v : Nat) : (s.wr64 a b v).releasedB = s.releasedB := rfl
@[simp] theorem State.wr64_tick (a b v : Nat) : (s.wr64 a b v).tick = s.tick := rfl
@[simp] theorem State.wr64_trim (a b v : Nat) : (s.wr64 a b v).trim = s.trim := rfl
@[simp] theorem State.wr64_revalCause (a b v : Nat) : (s.wr64 a b v).revalCause = s.revalCause := rfl
@[simp] theorem State.wr64_revalAt (a b v : Nat) : (s.wr64 a b v).revalAt = s.revalAt := rfl
@[simp] theorem State.wr64_revalE (a b v : Nat) : (s.wr64 a b v).revalE = s.revalE := rfl
@[simp] theorem State.wr64_revalP (a b v : Nat) : (s.wr64 a b v).revalP = s.revalP := rfl
@[simp] theorem State.wr64_revalH (a b v : Nat) : (s.wr64 a b v).revalH = s.revalH := rfl
@[simp] theorem State.wr64_fab (a b v : Nat) : (s.wr64 a b v).fab = s.fab := rfl
@[simp] theorem State.wr64_fabCheck (a b v : Nat) : (s.wr64 a b v).fabCheck = s.fabCheck := rfl
@[simp] theorem State.wr64_hrw (a b v : Nat) : (s.wr64 a b v).hrw = s.hrw := rfl
@[simp] theorem State.wr64_raised (a b v : Nat) : (s.wr64 a b v).raised = s.raised := rfl
@[simp] theorem State.wr64_safeOn (a b v : Nat) : (s.wr64 a b v).safeOn = s.safeOn := rfl
@[simp] theorem State.wr64_releasing (a b v : Nat) : (s.wr64 a b v).releasing = s.releasing := rfl
@[simp] theorem State.wr64_coords (a b v : Nat) : (s.wr64 a b v).coords = s.coords := rfl
@[simp] theorem State.wr64_gpts (a b v : Nat) : (s.wr64 a b v).gpts = s.gpts := rfl
@[simp] theorem State.wr64_stages (a b v : Nat) : (s.wr64 a b v).stages = s.stages := rfl
@[simp] theorem State.wr64_rails (a b v : Nat) : (s.wr64 a b v).rails = s.rails := rfl
@[simp] theorem State.wr64_loopSets (a b v : Nat) : (s.wr64 a b v).loopSets = s.loopSets := rfl
@[simp] theorem State.wr64_supplies (a b v : Nat) : (s.wr64 a b v).supplies = s.supplies := rfl
@[simp] theorem State.wr64_xfers (a b v : Nat) : (s.wr64 a b v).xfers = s.xfers := rfl
@[simp] theorem State.wr64_psws (a b v : Nat) : (s.wr64 a b v).psws = s.psws := rfl
@[simp] theorem State.wr64_mppt (a b v : Nat) : (s.wr64 a b v).mppt = s.mppt := rfl
@[simp] theorem State.wr64_packs (a b v : Nat) : (s.wr64 a b v).packs = s.packs := rfl
@[simp] theorem State.wr64_cans (a b v : Nat) : (s.wr64 a b v).cans = s.cans := rfl
@[simp] theorem State.wr64_ports (a b v : Nat) : (s.wr64 a b v).ports = s.ports := rfl
@[simp] theorem State.wr64_glns (a b v : Nat) : (s.wr64 a b v).glns = s.glns := rfl
@[simp] theorem State.wr64_nvm (a b v : Nat) : (s.wr64 a b v).nvm = s.nvm := rfl
@[simp] theorem State.wr64_bb (a b v : Nat) : (s.wr64 a b v).bb = s.bb := rfl
@[simp] theorem State.wr64_fw (a b v : Nat) : (s.wr64 a b v).fw = s.fw := rfl
@[simp] theorem State.wr64_sys (a b v : Nat) : (s.wr64 a b v).sys = s.sys := rfl
@[simp] theorem State.wr64_pending (a b v : Nat) : (s.wr64 a b v).pending = s.pending := rfl

@[simp] theorem State.addF_cyc (o : Nat) (g : Fld) (k : Nat) : (s.addF o g k).cyc = s.cyc := rfl
@[simp] theorem State.addF_free (o : Nat) (g : Fld) (k : Nat) : (s.addF o g k).free = s.free := rfl
@[simp] theorem State.addF_cycle (o : Nat) (g : Fld) (k : Nat) : (s.addF o g k).cycle = s.cycle := rfl
@[simp] theorem State.addF_hiLatch (o : Nat) (g : Fld) (k : Nat) : (s.addF o g k).hiLatch = s.hiLatch := rfl
@[simp] theorem State.addF_loStage (o : Nat) (g : Fld) (k : Nat) : (s.addF o g k).loStage = s.loStage := rfl
@[simp] theorem State.addF_localWin (o : Nat) (g : Fld) (k : Nat) : (s.addF o g k).localWin = s.localWin := rfl
@[simp] theorem State.addF_msixTable (o : Nat) (g : Fld) (k : Nat) : (s.addF o g k).msixTable = s.msixTable := rfl
@[simp] theorem State.addF_msixPend (o : Nat) (g : Fld) (k : Nat) : (s.addF o g k).msixPend = s.msixPend := rfl
@[simp] theorem State.addF_intDis (o : Nat) (g : Fld) (k : Nat) : (s.addF o g k).intDis = s.intDis := rfl
@[simp] theorem State.addF_outbox (o : Nat) (g : Fld) (k : Nat) : (s.addF o g k).outbox = s.outbox := rfl
@[simp] theorem State.addF_srcs (o : Nat) (g : Fld) (k : Nat) : (s.addF o g k).srcs = s.srcs := rfl
@[simp] theorem State.addF_cplq (o : Nat) (g : Fld) (k : Nat) : (s.addF o g k).cplq = s.cplq := rfl
@[simp] theorem State.addF_pairs (o : Nat) (g : Fld) (k : Nat) : (s.addF o g k).pairs = s.pairs := rfl
@[simp] theorem State.addF_evLost (o : Nat) (g : Fld) (k : Nat) : (s.addF o g k).evLost = s.evLost := rfl
@[simp] theorem State.addF_evLosing (o : Nat) (g : Fld) (k : Nat) : (s.addF o g k).evLosing = s.evLosing := rfl
@[simp] theorem State.addF_rrLast (o : Nat) (g : Fld) (k : Nat) : (s.addF o g k).rrLast = s.rrLast := rfl
@[simp] theorem State.addF_plan (o : Nat) (g : Fld) (k : Nat) : (s.addF o g k).plan = s.plan := rfl
@[simp] theorem State.addF_planSeq (o : Nat) (g : Fld) (k : Nat) : (s.addF o g k).planSeq = s.planSeq := rfl
@[simp] theorem State.addF_alloc (o : Nat) (g : Fld) (k : Nat) : (s.addF o g k).alloc = s.alloc := rfl
@[simp] theorem State.addF_releasedA (o : Nat) (g : Fld) (k : Nat) : (s.addF o g k).releasedA = s.releasedA := rfl
@[simp] theorem State.addF_releasedB (o : Nat) (g : Fld) (k : Nat) : (s.addF o g k).releasedB = s.releasedB := rfl
@[simp] theorem State.addF_tick (o : Nat) (g : Fld) (k : Nat) : (s.addF o g k).tick = s.tick := rfl
@[simp] theorem State.addF_trim (o : Nat) (g : Fld) (k : Nat) : (s.addF o g k).trim = s.trim := rfl
@[simp] theorem State.addF_revalCause (o : Nat) (g : Fld) (k : Nat) : (s.addF o g k).revalCause = s.revalCause := rfl
@[simp] theorem State.addF_revalAt (o : Nat) (g : Fld) (k : Nat) : (s.addF o g k).revalAt = s.revalAt := rfl
@[simp] theorem State.addF_revalE (o : Nat) (g : Fld) (k : Nat) : (s.addF o g k).revalE = s.revalE := rfl
@[simp] theorem State.addF_revalP (o : Nat) (g : Fld) (k : Nat) : (s.addF o g k).revalP = s.revalP := rfl
@[simp] theorem State.addF_revalH (o : Nat) (g : Fld) (k : Nat) : (s.addF o g k).revalH = s.revalH := rfl
@[simp] theorem State.addF_fab (o : Nat) (g : Fld) (k : Nat) : (s.addF o g k).fab = s.fab := rfl
@[simp] theorem State.addF_fabCheck (o : Nat) (g : Fld) (k : Nat) : (s.addF o g k).fabCheck = s.fabCheck := rfl
@[simp] theorem State.addF_hrw (o : Nat) (g : Fld) (k : Nat) : (s.addF o g k).hrw = s.hrw := rfl
@[simp] theorem State.addF_raised (o : Nat) (g : Fld) (k : Nat) : (s.addF o g k).raised = s.raised := rfl
@[simp] theorem State.addF_safeOn (o : Nat) (g : Fld) (k : Nat) : (s.addF o g k).safeOn = s.safeOn := rfl
@[simp] theorem State.addF_releasing (o : Nat) (g : Fld) (k : Nat) : (s.addF o g k).releasing = s.releasing := rfl
@[simp] theorem State.addF_coords (o : Nat) (g : Fld) (k : Nat) : (s.addF o g k).coords = s.coords := rfl
@[simp] theorem State.addF_gpts (o : Nat) (g : Fld) (k : Nat) : (s.addF o g k).gpts = s.gpts := rfl
@[simp] theorem State.addF_stages (o : Nat) (g : Fld) (k : Nat) : (s.addF o g k).stages = s.stages := rfl
@[simp] theorem State.addF_rails (o : Nat) (g : Fld) (k : Nat) : (s.addF o g k).rails = s.rails := rfl
@[simp] theorem State.addF_loopSets (o : Nat) (g : Fld) (k : Nat) : (s.addF o g k).loopSets = s.loopSets := rfl
@[simp] theorem State.addF_supplies (o : Nat) (g : Fld) (k : Nat) : (s.addF o g k).supplies = s.supplies := rfl
@[simp] theorem State.addF_xfers (o : Nat) (g : Fld) (k : Nat) : (s.addF o g k).xfers = s.xfers := rfl
@[simp] theorem State.addF_psws (o : Nat) (g : Fld) (k : Nat) : (s.addF o g k).psws = s.psws := rfl
@[simp] theorem State.addF_mppt (o : Nat) (g : Fld) (k : Nat) : (s.addF o g k).mppt = s.mppt := rfl
@[simp] theorem State.addF_packs (o : Nat) (g : Fld) (k : Nat) : (s.addF o g k).packs = s.packs := rfl
@[simp] theorem State.addF_cans (o : Nat) (g : Fld) (k : Nat) : (s.addF o g k).cans = s.cans := rfl
@[simp] theorem State.addF_ports (o : Nat) (g : Fld) (k : Nat) : (s.addF o g k).ports = s.ports := rfl
@[simp] theorem State.addF_glns (o : Nat) (g : Fld) (k : Nat) : (s.addF o g k).glns = s.glns := rfl
@[simp] theorem State.addF_nvm (o : Nat) (g : Fld) (k : Nat) : (s.addF o g k).nvm = s.nvm := rfl
@[simp] theorem State.addF_bb (o : Nat) (g : Fld) (k : Nat) : (s.addF o g k).bb = s.bb := rfl
@[simp] theorem State.addF_fw (o : Nat) (g : Fld) (k : Nat) : (s.addF o g k).fw = s.fw := rfl
@[simp] theorem State.addF_sys (o : Nat) (g : Fld) (k : Nat) : (s.addF o g k).sys = s.sys := rfl
@[simp] theorem State.addF_pending (o : Nat) (g : Fld) (k : Nat) : (s.addF o g k).pending = s.pending := rfl

@[simp] theorem State.hwSet_cyc (o : Nat) (g : Fld) (v : Nat) : (s.hwSet o g v).cyc = s.cyc := rfl
@[simp] theorem State.hwSet_free (o : Nat) (g : Fld) (v : Nat) : (s.hwSet o g v).free = s.free := rfl
@[simp] theorem State.hwSet_hiLatch (o : Nat) (g : Fld) (v : Nat) : (s.hwSet o g v).hiLatch = s.hiLatch := rfl
@[simp] theorem State.hwSet_loStage (o : Nat) (g : Fld) (v : Nat) : (s.hwSet o g v).loStage = s.loStage := rfl
@[simp] theorem State.hwSet_localWin (o : Nat) (g : Fld) (v : Nat) : (s.hwSet o g v).localWin = s.localWin := rfl
@[simp] theorem State.hwSet_msixTable (o : Nat) (g : Fld) (v : Nat) : (s.hwSet o g v).msixTable = s.msixTable := rfl
@[simp] theorem State.hwSet_msixPend (o : Nat) (g : Fld) (v : Nat) : (s.hwSet o g v).msixPend = s.msixPend := rfl
@[simp] theorem State.hwSet_intDis (o : Nat) (g : Fld) (v : Nat) : (s.hwSet o g v).intDis = s.intDis := rfl
@[simp] theorem State.hwSet_outbox (o : Nat) (g : Fld) (v : Nat) : (s.hwSet o g v).outbox = s.outbox := rfl
@[simp] theorem State.hwSet_srcs (o : Nat) (g : Fld) (v : Nat) : (s.hwSet o g v).srcs = s.srcs := rfl
@[simp] theorem State.hwSet_cplq (o : Nat) (g : Fld) (v : Nat) : (s.hwSet o g v).cplq = s.cplq := rfl
@[simp] theorem State.hwSet_pairs (o : Nat) (g : Fld) (v : Nat) : (s.hwSet o g v).pairs = s.pairs := rfl
@[simp] theorem State.hwSet_evLost (o : Nat) (g : Fld) (v : Nat) : (s.hwSet o g v).evLost = s.evLost := rfl
@[simp] theorem State.hwSet_evLosing (o : Nat) (g : Fld) (v : Nat) : (s.hwSet o g v).evLosing = s.evLosing := rfl
@[simp] theorem State.hwSet_rrLast (o : Nat) (g : Fld) (v : Nat) : (s.hwSet o g v).rrLast = s.rrLast := rfl
@[simp] theorem State.hwSet_plan (o : Nat) (g : Fld) (v : Nat) : (s.hwSet o g v).plan = s.plan := rfl
@[simp] theorem State.hwSet_planSeq (o : Nat) (g : Fld) (v : Nat) : (s.hwSet o g v).planSeq = s.planSeq := rfl
@[simp] theorem State.hwSet_alloc (o : Nat) (g : Fld) (v : Nat) : (s.hwSet o g v).alloc = s.alloc := rfl
@[simp] theorem State.hwSet_releasedA (o : Nat) (g : Fld) (v : Nat) : (s.hwSet o g v).releasedA = s.releasedA := rfl
@[simp] theorem State.hwSet_releasedB (o : Nat) (g : Fld) (v : Nat) : (s.hwSet o g v).releasedB = s.releasedB := rfl
@[simp] theorem State.hwSet_tick (o : Nat) (g : Fld) (v : Nat) : (s.hwSet o g v).tick = s.tick := rfl
@[simp] theorem State.hwSet_trim (o : Nat) (g : Fld) (v : Nat) : (s.hwSet o g v).trim = s.trim := rfl
@[simp] theorem State.hwSet_revalCause (o : Nat) (g : Fld) (v : Nat) : (s.hwSet o g v).revalCause = s.revalCause := rfl
@[simp] theorem State.hwSet_revalAt (o : Nat) (g : Fld) (v : Nat) : (s.hwSet o g v).revalAt = s.revalAt := rfl
@[simp] theorem State.hwSet_revalE (o : Nat) (g : Fld) (v : Nat) : (s.hwSet o g v).revalE = s.revalE := rfl
@[simp] theorem State.hwSet_revalP (o : Nat) (g : Fld) (v : Nat) : (s.hwSet o g v).revalP = s.revalP := rfl
@[simp] theorem State.hwSet_revalH (o : Nat) (g : Fld) (v : Nat) : (s.hwSet o g v).revalH = s.revalH := rfl
@[simp] theorem State.hwSet_fab (o : Nat) (g : Fld) (v : Nat) : (s.hwSet o g v).fab = s.fab := rfl
@[simp] theorem State.hwSet_fabCheck (o : Nat) (g : Fld) (v : Nat) : (s.hwSet o g v).fabCheck = s.fabCheck := rfl
@[simp] theorem State.hwSet_hrw (o : Nat) (g : Fld) (v : Nat) : (s.hwSet o g v).hrw = s.hrw := rfl
@[simp] theorem State.hwSet_raised (o : Nat) (g : Fld) (v : Nat) : (s.hwSet o g v).raised = s.raised := rfl
@[simp] theorem State.hwSet_safeOn (o : Nat) (g : Fld) (v : Nat) : (s.hwSet o g v).safeOn = s.safeOn := rfl
@[simp] theorem State.hwSet_releasing (o : Nat) (g : Fld) (v : Nat) : (s.hwSet o g v).releasing = s.releasing := rfl
@[simp] theorem State.hwSet_coords (o : Nat) (g : Fld) (v : Nat) : (s.hwSet o g v).coords = s.coords := rfl
@[simp] theorem State.hwSet_gpts (o : Nat) (g : Fld) (v : Nat) : (s.hwSet o g v).gpts = s.gpts := rfl
@[simp] theorem State.hwSet_stages (o : Nat) (g : Fld) (v : Nat) : (s.hwSet o g v).stages = s.stages := rfl
@[simp] theorem State.hwSet_rails (o : Nat) (g : Fld) (v : Nat) : (s.hwSet o g v).rails = s.rails := rfl
@[simp] theorem State.hwSet_loopSets (o : Nat) (g : Fld) (v : Nat) : (s.hwSet o g v).loopSets = s.loopSets := rfl
@[simp] theorem State.hwSet_supplies (o : Nat) (g : Fld) (v : Nat) : (s.hwSet o g v).supplies = s.supplies := rfl
@[simp] theorem State.hwSet_xfers (o : Nat) (g : Fld) (v : Nat) : (s.hwSet o g v).xfers = s.xfers := rfl
@[simp] theorem State.hwSet_psws (o : Nat) (g : Fld) (v : Nat) : (s.hwSet o g v).psws = s.psws := rfl
@[simp] theorem State.hwSet_mppt (o : Nat) (g : Fld) (v : Nat) : (s.hwSet o g v).mppt = s.mppt := rfl
@[simp] theorem State.hwSet_packs (o : Nat) (g : Fld) (v : Nat) : (s.hwSet o g v).packs = s.packs := rfl
@[simp] theorem State.hwSet_cans (o : Nat) (g : Fld) (v : Nat) : (s.hwSet o g v).cans = s.cans := rfl
@[simp] theorem State.hwSet_ports (o : Nat) (g : Fld) (v : Nat) : (s.hwSet o g v).ports = s.ports := rfl
@[simp] theorem State.hwSet_glns (o : Nat) (g : Fld) (v : Nat) : (s.hwSet o g v).glns = s.glns := rfl
@[simp] theorem State.hwSet_nvm (o : Nat) (g : Fld) (v : Nat) : (s.hwSet o g v).nvm = s.nvm := rfl
@[simp] theorem State.hwSet_bb (o : Nat) (g : Fld) (v : Nat) : (s.hwSet o g v).bb = s.bb := rfl
@[simp] theorem State.hwSet_fw (o : Nat) (g : Fld) (v : Nat) : (s.hwSet o g v).fw = s.fw := rfl
@[simp] theorem State.hwSet_sys (o : Nat) (g : Fld) (v : Nat) : (s.hwSet o g v).sys = s.sys := rfl
@[simp] theorem State.hwSet_pending (o : Nat) (g : Fld) (v : Nat) : (s.hwSet o g v).pending = s.pending := rfl

@[simp] theorem State.bump_cyc (o : Nat) (g : Fld) (k : Nat) : (s.bump o g k).cyc = s.cyc := rfl
@[simp] theorem State.bump_free (o : Nat) (g : Fld) (k : Nat) : (s.bump o g k).free = s.free := rfl
@[simp] theorem State.bump_hiLatch (o : Nat) (g : Fld) (k : Nat) : (s.bump o g k).hiLatch = s.hiLatch := rfl
@[simp] theorem State.bump_loStage (o : Nat) (g : Fld) (k : Nat) : (s.bump o g k).loStage = s.loStage := rfl
@[simp] theorem State.bump_localWin (o : Nat) (g : Fld) (k : Nat) : (s.bump o g k).localWin = s.localWin := rfl
@[simp] theorem State.bump_msixTable (o : Nat) (g : Fld) (k : Nat) : (s.bump o g k).msixTable = s.msixTable := rfl
@[simp] theorem State.bump_msixPend (o : Nat) (g : Fld) (k : Nat) : (s.bump o g k).msixPend = s.msixPend := rfl
@[simp] theorem State.bump_intDis (o : Nat) (g : Fld) (k : Nat) : (s.bump o g k).intDis = s.intDis := rfl
@[simp] theorem State.bump_outbox (o : Nat) (g : Fld) (k : Nat) : (s.bump o g k).outbox = s.outbox := rfl
@[simp] theorem State.bump_srcs (o : Nat) (g : Fld) (k : Nat) : (s.bump o g k).srcs = s.srcs := rfl
@[simp] theorem State.bump_cplq (o : Nat) (g : Fld) (k : Nat) : (s.bump o g k).cplq = s.cplq := rfl
@[simp] theorem State.bump_pairs (o : Nat) (g : Fld) (k : Nat) : (s.bump o g k).pairs = s.pairs := rfl
@[simp] theorem State.bump_evLost (o : Nat) (g : Fld) (k : Nat) : (s.bump o g k).evLost = s.evLost := rfl
@[simp] theorem State.bump_evLosing (o : Nat) (g : Fld) (k : Nat) : (s.bump o g k).evLosing = s.evLosing := rfl
@[simp] theorem State.bump_rrLast (o : Nat) (g : Fld) (k : Nat) : (s.bump o g k).rrLast = s.rrLast := rfl
@[simp] theorem State.bump_plan (o : Nat) (g : Fld) (k : Nat) : (s.bump o g k).plan = s.plan := rfl
@[simp] theorem State.bump_planSeq (o : Nat) (g : Fld) (k : Nat) : (s.bump o g k).planSeq = s.planSeq := rfl
@[simp] theorem State.bump_alloc (o : Nat) (g : Fld) (k : Nat) : (s.bump o g k).alloc = s.alloc := rfl
@[simp] theorem State.bump_releasedA (o : Nat) (g : Fld) (k : Nat) : (s.bump o g k).releasedA = s.releasedA := rfl
@[simp] theorem State.bump_releasedB (o : Nat) (g : Fld) (k : Nat) : (s.bump o g k).releasedB = s.releasedB := rfl
@[simp] theorem State.bump_tick (o : Nat) (g : Fld) (k : Nat) : (s.bump o g k).tick = s.tick := rfl
@[simp] theorem State.bump_trim (o : Nat) (g : Fld) (k : Nat) : (s.bump o g k).trim = s.trim := rfl
@[simp] theorem State.bump_revalCause (o : Nat) (g : Fld) (k : Nat) : (s.bump o g k).revalCause = s.revalCause := rfl
@[simp] theorem State.bump_revalAt (o : Nat) (g : Fld) (k : Nat) : (s.bump o g k).revalAt = s.revalAt := rfl
@[simp] theorem State.bump_revalE (o : Nat) (g : Fld) (k : Nat) : (s.bump o g k).revalE = s.revalE := rfl
@[simp] theorem State.bump_revalP (o : Nat) (g : Fld) (k : Nat) : (s.bump o g k).revalP = s.revalP := rfl
@[simp] theorem State.bump_revalH (o : Nat) (g : Fld) (k : Nat) : (s.bump o g k).revalH = s.revalH := rfl
@[simp] theorem State.bump_fab (o : Nat) (g : Fld) (k : Nat) : (s.bump o g k).fab = s.fab := rfl
@[simp] theorem State.bump_fabCheck (o : Nat) (g : Fld) (k : Nat) : (s.bump o g k).fabCheck = s.fabCheck := rfl
@[simp] theorem State.bump_hrw (o : Nat) (g : Fld) (k : Nat) : (s.bump o g k).hrw = s.hrw := rfl
@[simp] theorem State.bump_raised (o : Nat) (g : Fld) (k : Nat) : (s.bump o g k).raised = s.raised := rfl
@[simp] theorem State.bump_safeOn (o : Nat) (g : Fld) (k : Nat) : (s.bump o g k).safeOn = s.safeOn := rfl
@[simp] theorem State.bump_releasing (o : Nat) (g : Fld) (k : Nat) : (s.bump o g k).releasing = s.releasing := rfl
@[simp] theorem State.bump_coords (o : Nat) (g : Fld) (k : Nat) : (s.bump o g k).coords = s.coords := rfl
@[simp] theorem State.bump_gpts (o : Nat) (g : Fld) (k : Nat) : (s.bump o g k).gpts = s.gpts := rfl
@[simp] theorem State.bump_stages (o : Nat) (g : Fld) (k : Nat) : (s.bump o g k).stages = s.stages := rfl
@[simp] theorem State.bump_rails (o : Nat) (g : Fld) (k : Nat) : (s.bump o g k).rails = s.rails := rfl
@[simp] theorem State.bump_loopSets (o : Nat) (g : Fld) (k : Nat) : (s.bump o g k).loopSets = s.loopSets := rfl
@[simp] theorem State.bump_supplies (o : Nat) (g : Fld) (k : Nat) : (s.bump o g k).supplies = s.supplies := rfl
@[simp] theorem State.bump_xfers (o : Nat) (g : Fld) (k : Nat) : (s.bump o g k).xfers = s.xfers := rfl
@[simp] theorem State.bump_psws (o : Nat) (g : Fld) (k : Nat) : (s.bump o g k).psws = s.psws := rfl
@[simp] theorem State.bump_mppt (o : Nat) (g : Fld) (k : Nat) : (s.bump o g k).mppt = s.mppt := rfl
@[simp] theorem State.bump_packs (o : Nat) (g : Fld) (k : Nat) : (s.bump o g k).packs = s.packs := rfl
@[simp] theorem State.bump_cans (o : Nat) (g : Fld) (k : Nat) : (s.bump o g k).cans = s.cans := rfl
@[simp] theorem State.bump_ports (o : Nat) (g : Fld) (k : Nat) : (s.bump o g k).ports = s.ports := rfl
@[simp] theorem State.bump_glns (o : Nat) (g : Fld) (k : Nat) : (s.bump o g k).glns = s.glns := rfl
@[simp] theorem State.bump_nvm (o : Nat) (g : Fld) (k : Nat) : (s.bump o g k).nvm = s.nvm := rfl
@[simp] theorem State.bump_bb (o : Nat) (g : Fld) (k : Nat) : (s.bump o g k).bb = s.bb := rfl
@[simp] theorem State.bump_fw (o : Nat) (g : Fld) (k : Nat) : (s.bump o g k).fw = s.fw := rfl
@[simp] theorem State.bump_sys (o : Nat) (g : Fld) (k : Nat) : (s.bump o g k).sys = s.sys := rfl
@[simp] theorem State.bump_pending (o : Nat) (g : Fld) (k : Nat) : (s.bump o g k).pending = s.pending := rfl

@[simp] theorem State.noteEvent_cyc (a b : Nat) : (s.noteEvent a b).cyc = s.cyc := rfl
@[simp] theorem State.noteEvent_free (a b : Nat) : (s.noteEvent a b).free = s.free := rfl
@[simp] theorem State.noteEvent_regs (a b : Nat) : (s.noteEvent a b).regs = s.regs := rfl
@[simp] theorem State.noteEvent_hiLatch (a b : Nat) : (s.noteEvent a b).hiLatch = s.hiLatch := rfl
@[simp] theorem State.noteEvent_loStage (a b : Nat) : (s.noteEvent a b).loStage = s.loStage := rfl
@[simp] theorem State.noteEvent_localWin (a b : Nat) : (s.noteEvent a b).localWin = s.localWin := rfl
@[simp] theorem State.noteEvent_msixTable (a b : Nat) : (s.noteEvent a b).msixTable = s.msixTable := rfl
@[simp] theorem State.noteEvent_msixPend (a b : Nat) : (s.noteEvent a b).msixPend = s.msixPend := rfl
@[simp] theorem State.noteEvent_intDis (a b : Nat) : (s.noteEvent a b).intDis = s.intDis := rfl
@[simp] theorem State.noteEvent_outbox (a b : Nat) : (s.noteEvent a b).outbox = s.outbox := rfl
@[simp] theorem State.noteEvent_srcs (a b : Nat) : (s.noteEvent a b).srcs = s.srcs := rfl
@[simp] theorem State.noteEvent_cplq (a b : Nat) : (s.noteEvent a b).cplq = s.cplq := rfl
@[simp] theorem State.noteEvent_pairs (a b : Nat) : (s.noteEvent a b).pairs = s.pairs := rfl
@[simp] theorem State.noteEvent_evLost (a b : Nat) : (s.noteEvent a b).evLost = s.evLost := rfl
@[simp] theorem State.noteEvent_evLosing (a b : Nat) : (s.noteEvent a b).evLosing = s.evLosing := rfl
@[simp] theorem State.noteEvent_rrLast (a b : Nat) : (s.noteEvent a b).rrLast = s.rrLast := rfl
@[simp] theorem State.noteEvent_plan (a b : Nat) : (s.noteEvent a b).plan = s.plan := rfl
@[simp] theorem State.noteEvent_planSeq (a b : Nat) : (s.noteEvent a b).planSeq = s.planSeq := rfl
@[simp] theorem State.noteEvent_alloc (a b : Nat) : (s.noteEvent a b).alloc = s.alloc := rfl
@[simp] theorem State.noteEvent_releasedA (a b : Nat) : (s.noteEvent a b).releasedA = s.releasedA := rfl
@[simp] theorem State.noteEvent_releasedB (a b : Nat) : (s.noteEvent a b).releasedB = s.releasedB := rfl
@[simp] theorem State.noteEvent_tick (a b : Nat) : (s.noteEvent a b).tick = s.tick := rfl
@[simp] theorem State.noteEvent_trim (a b : Nat) : (s.noteEvent a b).trim = s.trim := rfl
@[simp] theorem State.noteEvent_revalCause (a b : Nat) : (s.noteEvent a b).revalCause = s.revalCause := rfl
@[simp] theorem State.noteEvent_revalAt (a b : Nat) : (s.noteEvent a b).revalAt = s.revalAt := rfl
@[simp] theorem State.noteEvent_revalE (a b : Nat) : (s.noteEvent a b).revalE = s.revalE := rfl
@[simp] theorem State.noteEvent_revalP (a b : Nat) : (s.noteEvent a b).revalP = s.revalP := rfl
@[simp] theorem State.noteEvent_revalH (a b : Nat) : (s.noteEvent a b).revalH = s.revalH := rfl
@[simp] theorem State.noteEvent_fab (a b : Nat) : (s.noteEvent a b).fab = s.fab := rfl
@[simp] theorem State.noteEvent_fabCheck (a b : Nat) : (s.noteEvent a b).fabCheck = s.fabCheck := rfl
@[simp] theorem State.noteEvent_hrw (a b : Nat) : (s.noteEvent a b).hrw = s.hrw := rfl
@[simp] theorem State.noteEvent_raised (a b : Nat) : (s.noteEvent a b).raised = s.raised := rfl
@[simp] theorem State.noteEvent_safeOn (a b : Nat) : (s.noteEvent a b).safeOn = s.safeOn := rfl
@[simp] theorem State.noteEvent_releasing (a b : Nat) : (s.noteEvent a b).releasing = s.releasing := rfl
@[simp] theorem State.noteEvent_coords (a b : Nat) : (s.noteEvent a b).coords = s.coords := rfl
@[simp] theorem State.noteEvent_gpts (a b : Nat) : (s.noteEvent a b).gpts = s.gpts := rfl
@[simp] theorem State.noteEvent_stages (a b : Nat) : (s.noteEvent a b).stages = s.stages := rfl
@[simp] theorem State.noteEvent_rails (a b : Nat) : (s.noteEvent a b).rails = s.rails := rfl
@[simp] theorem State.noteEvent_loopSets (a b : Nat) : (s.noteEvent a b).loopSets = s.loopSets := rfl
@[simp] theorem State.noteEvent_supplies (a b : Nat) : (s.noteEvent a b).supplies = s.supplies := rfl
@[simp] theorem State.noteEvent_xfers (a b : Nat) : (s.noteEvent a b).xfers = s.xfers := rfl
@[simp] theorem State.noteEvent_psws (a b : Nat) : (s.noteEvent a b).psws = s.psws := rfl
@[simp] theorem State.noteEvent_mppt (a b : Nat) : (s.noteEvent a b).mppt = s.mppt := rfl
@[simp] theorem State.noteEvent_packs (a b : Nat) : (s.noteEvent a b).packs = s.packs := rfl
@[simp] theorem State.noteEvent_cans (a b : Nat) : (s.noteEvent a b).cans = s.cans := rfl
@[simp] theorem State.noteEvent_ports (a b : Nat) : (s.noteEvent a b).ports = s.ports := rfl
@[simp] theorem State.noteEvent_glns (a b : Nat) : (s.noteEvent a b).glns = s.glns := rfl
@[simp] theorem State.noteEvent_nvm (a b : Nat) : (s.noteEvent a b).nvm = s.nvm := rfl
@[simp] theorem State.noteEvent_bb (a b : Nat) : (s.noteEvent a b).bb = s.bb := rfl
@[simp] theorem State.noteEvent_fw (a b : Nat) : (s.noteEvent a b).fw = s.fw := rfl
@[simp] theorem State.noteEvent_sys (a b : Nat) : (s.noteEvent a b).sys = s.sys := rfl
@[simp] theorem State.noteEvent_pending (a b : Nat) : (s.noteEvent a b).pending = s.pending := rfl

@[simp] theorem State.noteNew_cyc (o : Nat) (g : Fld) (v : Nat) : (s.noteNew o g v).cyc = s.cyc := rfl
@[simp] theorem State.noteNew_free (o : Nat) (g : Fld) (v : Nat) : (s.noteNew o g v).free = s.free := rfl
@[simp] theorem State.noteNew_regs (o : Nat) (g : Fld) (v : Nat) : (s.noteNew o g v).regs = s.regs := rfl
@[simp] theorem State.noteNew_hiLatch (o : Nat) (g : Fld) (v : Nat) : (s.noteNew o g v).hiLatch = s.hiLatch := rfl
@[simp] theorem State.noteNew_loStage (o : Nat) (g : Fld) (v : Nat) : (s.noteNew o g v).loStage = s.loStage := rfl
@[simp] theorem State.noteNew_localWin (o : Nat) (g : Fld) (v : Nat) : (s.noteNew o g v).localWin = s.localWin := rfl
@[simp] theorem State.noteNew_msixTable (o : Nat) (g : Fld) (v : Nat) : (s.noteNew o g v).msixTable = s.msixTable := rfl
@[simp] theorem State.noteNew_msixPend (o : Nat) (g : Fld) (v : Nat) : (s.noteNew o g v).msixPend = s.msixPend := rfl
@[simp] theorem State.noteNew_intDis (o : Nat) (g : Fld) (v : Nat) : (s.noteNew o g v).intDis = s.intDis := rfl
@[simp] theorem State.noteNew_outbox (o : Nat) (g : Fld) (v : Nat) : (s.noteNew o g v).outbox = s.outbox := rfl
@[simp] theorem State.noteNew_srcs (o : Nat) (g : Fld) (v : Nat) : (s.noteNew o g v).srcs = s.srcs := rfl
@[simp] theorem State.noteNew_cplq (o : Nat) (g : Fld) (v : Nat) : (s.noteNew o g v).cplq = s.cplq := rfl
@[simp] theorem State.noteNew_pairs (o : Nat) (g : Fld) (v : Nat) : (s.noteNew o g v).pairs = s.pairs := rfl
@[simp] theorem State.noteNew_evLost (o : Nat) (g : Fld) (v : Nat) : (s.noteNew o g v).evLost = s.evLost := rfl
@[simp] theorem State.noteNew_evLosing (o : Nat) (g : Fld) (v : Nat) : (s.noteNew o g v).evLosing = s.evLosing := rfl
@[simp] theorem State.noteNew_rrLast (o : Nat) (g : Fld) (v : Nat) : (s.noteNew o g v).rrLast = s.rrLast := rfl
@[simp] theorem State.noteNew_plan (o : Nat) (g : Fld) (v : Nat) : (s.noteNew o g v).plan = s.plan := rfl
@[simp] theorem State.noteNew_planSeq (o : Nat) (g : Fld) (v : Nat) : (s.noteNew o g v).planSeq = s.planSeq := rfl
@[simp] theorem State.noteNew_alloc (o : Nat) (g : Fld) (v : Nat) : (s.noteNew o g v).alloc = s.alloc := rfl
@[simp] theorem State.noteNew_releasedA (o : Nat) (g : Fld) (v : Nat) : (s.noteNew o g v).releasedA = s.releasedA := rfl
@[simp] theorem State.noteNew_releasedB (o : Nat) (g : Fld) (v : Nat) : (s.noteNew o g v).releasedB = s.releasedB := rfl
@[simp] theorem State.noteNew_tick (o : Nat) (g : Fld) (v : Nat) : (s.noteNew o g v).tick = s.tick := rfl
@[simp] theorem State.noteNew_trim (o : Nat) (g : Fld) (v : Nat) : (s.noteNew o g v).trim = s.trim := rfl
@[simp] theorem State.noteNew_revalCause (o : Nat) (g : Fld) (v : Nat) : (s.noteNew o g v).revalCause = s.revalCause := rfl
@[simp] theorem State.noteNew_revalAt (o : Nat) (g : Fld) (v : Nat) : (s.noteNew o g v).revalAt = s.revalAt := rfl
@[simp] theorem State.noteNew_revalE (o : Nat) (g : Fld) (v : Nat) : (s.noteNew o g v).revalE = s.revalE := rfl
@[simp] theorem State.noteNew_revalP (o : Nat) (g : Fld) (v : Nat) : (s.noteNew o g v).revalP = s.revalP := rfl
@[simp] theorem State.noteNew_revalH (o : Nat) (g : Fld) (v : Nat) : (s.noteNew o g v).revalH = s.revalH := rfl
@[simp] theorem State.noteNew_fab (o : Nat) (g : Fld) (v : Nat) : (s.noteNew o g v).fab = s.fab := rfl
@[simp] theorem State.noteNew_fabCheck (o : Nat) (g : Fld) (v : Nat) : (s.noteNew o g v).fabCheck = s.fabCheck := rfl
@[simp] theorem State.noteNew_hrw (o : Nat) (g : Fld) (v : Nat) : (s.noteNew o g v).hrw = s.hrw := rfl
@[simp] theorem State.noteNew_raised (o : Nat) (g : Fld) (v : Nat) : (s.noteNew o g v).raised = s.raised := rfl
@[simp] theorem State.noteNew_safeOn (o : Nat) (g : Fld) (v : Nat) : (s.noteNew o g v).safeOn = s.safeOn := rfl
@[simp] theorem State.noteNew_releasing (o : Nat) (g : Fld) (v : Nat) : (s.noteNew o g v).releasing = s.releasing := rfl
@[simp] theorem State.noteNew_coords (o : Nat) (g : Fld) (v : Nat) : (s.noteNew o g v).coords = s.coords := rfl
@[simp] theorem State.noteNew_gpts (o : Nat) (g : Fld) (v : Nat) : (s.noteNew o g v).gpts = s.gpts := rfl
@[simp] theorem State.noteNew_stages (o : Nat) (g : Fld) (v : Nat) : (s.noteNew o g v).stages = s.stages := rfl
@[simp] theorem State.noteNew_rails (o : Nat) (g : Fld) (v : Nat) : (s.noteNew o g v).rails = s.rails := rfl
@[simp] theorem State.noteNew_loopSets (o : Nat) (g : Fld) (v : Nat) : (s.noteNew o g v).loopSets = s.loopSets := rfl
@[simp] theorem State.noteNew_supplies (o : Nat) (g : Fld) (v : Nat) : (s.noteNew o g v).supplies = s.supplies := rfl
@[simp] theorem State.noteNew_xfers (o : Nat) (g : Fld) (v : Nat) : (s.noteNew o g v).xfers = s.xfers := rfl
@[simp] theorem State.noteNew_psws (o : Nat) (g : Fld) (v : Nat) : (s.noteNew o g v).psws = s.psws := rfl
@[simp] theorem State.noteNew_mppt (o : Nat) (g : Fld) (v : Nat) : (s.noteNew o g v).mppt = s.mppt := rfl
@[simp] theorem State.noteNew_packs (o : Nat) (g : Fld) (v : Nat) : (s.noteNew o g v).packs = s.packs := rfl
@[simp] theorem State.noteNew_cans (o : Nat) (g : Fld) (v : Nat) : (s.noteNew o g v).cans = s.cans := rfl
@[simp] theorem State.noteNew_ports (o : Nat) (g : Fld) (v : Nat) : (s.noteNew o g v).ports = s.ports := rfl
@[simp] theorem State.noteNew_glns (o : Nat) (g : Fld) (v : Nat) : (s.noteNew o g v).glns = s.glns := rfl
@[simp] theorem State.noteNew_nvm (o : Nat) (g : Fld) (v : Nat) : (s.noteNew o g v).nvm = s.nvm := rfl
@[simp] theorem State.noteNew_bb (o : Nat) (g : Fld) (v : Nat) : (s.noteNew o g v).bb = s.bb := rfl
@[simp] theorem State.noteNew_fw (o : Nat) (g : Fld) (v : Nat) : (s.noteNew o g v).fw = s.fw := rfl
@[simp] theorem State.noteNew_sys (o : Nat) (g : Fld) (v : Nat) : (s.noteNew o g v).sys = s.sys := rfl
@[simp] theorem State.noteNew_pending (o : Nat) (g : Fld) (v : Nat) : (s.noteNew o g v).pending = s.pending := rfl

@[simp] theorem State.emit_cyc (e : Emit) : (s.emit e).cyc = s.cyc := rfl
@[simp] theorem State.emit_free (e : Emit) : (s.emit e).free = s.free := rfl
@[simp] theorem State.emit_regs (e : Emit) : (s.emit e).regs = s.regs := rfl
@[simp] theorem State.emit_cycle (e : Emit) : (s.emit e).cycle = s.cycle := rfl
@[simp] theorem State.emit_hiLatch (e : Emit) : (s.emit e).hiLatch = s.hiLatch := rfl
@[simp] theorem State.emit_loStage (e : Emit) : (s.emit e).loStage = s.loStage := rfl
@[simp] theorem State.emit_localWin (e : Emit) : (s.emit e).localWin = s.localWin := rfl
@[simp] theorem State.emit_msixTable (e : Emit) : (s.emit e).msixTable = s.msixTable := rfl
@[simp] theorem State.emit_msixPend (e : Emit) : (s.emit e).msixPend = s.msixPend := rfl
@[simp] theorem State.emit_intDis (e : Emit) : (s.emit e).intDis = s.intDis := rfl
@[simp] theorem State.emit_srcs (e : Emit) : (s.emit e).srcs = s.srcs := rfl
@[simp] theorem State.emit_cplq (e : Emit) : (s.emit e).cplq = s.cplq := rfl
@[simp] theorem State.emit_pairs (e : Emit) : (s.emit e).pairs = s.pairs := rfl
@[simp] theorem State.emit_evLost (e : Emit) : (s.emit e).evLost = s.evLost := rfl
@[simp] theorem State.emit_evLosing (e : Emit) : (s.emit e).evLosing = s.evLosing := rfl
@[simp] theorem State.emit_rrLast (e : Emit) : (s.emit e).rrLast = s.rrLast := rfl
@[simp] theorem State.emit_plan (e : Emit) : (s.emit e).plan = s.plan := rfl
@[simp] theorem State.emit_planSeq (e : Emit) : (s.emit e).planSeq = s.planSeq := rfl
@[simp] theorem State.emit_alloc (e : Emit) : (s.emit e).alloc = s.alloc := rfl
@[simp] theorem State.emit_releasedA (e : Emit) : (s.emit e).releasedA = s.releasedA := rfl
@[simp] theorem State.emit_releasedB (e : Emit) : (s.emit e).releasedB = s.releasedB := rfl
@[simp] theorem State.emit_tick (e : Emit) : (s.emit e).tick = s.tick := rfl
@[simp] theorem State.emit_trim (e : Emit) : (s.emit e).trim = s.trim := rfl
@[simp] theorem State.emit_revalCause (e : Emit) : (s.emit e).revalCause = s.revalCause := rfl
@[simp] theorem State.emit_revalAt (e : Emit) : (s.emit e).revalAt = s.revalAt := rfl
@[simp] theorem State.emit_revalE (e : Emit) : (s.emit e).revalE = s.revalE := rfl
@[simp] theorem State.emit_revalP (e : Emit) : (s.emit e).revalP = s.revalP := rfl
@[simp] theorem State.emit_revalH (e : Emit) : (s.emit e).revalH = s.revalH := rfl
@[simp] theorem State.emit_fab (e : Emit) : (s.emit e).fab = s.fab := rfl
@[simp] theorem State.emit_fabCheck (e : Emit) : (s.emit e).fabCheck = s.fabCheck := rfl
@[simp] theorem State.emit_hrw (e : Emit) : (s.emit e).hrw = s.hrw := rfl
@[simp] theorem State.emit_raised (e : Emit) : (s.emit e).raised = s.raised := rfl
@[simp] theorem State.emit_safeOn (e : Emit) : (s.emit e).safeOn = s.safeOn := rfl
@[simp] theorem State.emit_releasing (e : Emit) : (s.emit e).releasing = s.releasing := rfl
@[simp] theorem State.emit_coords (e : Emit) : (s.emit e).coords = s.coords := rfl
@[simp] theorem State.emit_gpts (e : Emit) : (s.emit e).gpts = s.gpts := rfl
@[simp] theorem State.emit_stages (e : Emit) : (s.emit e).stages = s.stages := rfl
@[simp] theorem State.emit_rails (e : Emit) : (s.emit e).rails = s.rails := rfl
@[simp] theorem State.emit_loopSets (e : Emit) : (s.emit e).loopSets = s.loopSets := rfl
@[simp] theorem State.emit_supplies (e : Emit) : (s.emit e).supplies = s.supplies := rfl
@[simp] theorem State.emit_xfers (e : Emit) : (s.emit e).xfers = s.xfers := rfl
@[simp] theorem State.emit_psws (e : Emit) : (s.emit e).psws = s.psws := rfl
@[simp] theorem State.emit_mppt (e : Emit) : (s.emit e).mppt = s.mppt := rfl
@[simp] theorem State.emit_packs (e : Emit) : (s.emit e).packs = s.packs := rfl
@[simp] theorem State.emit_cans (e : Emit) : (s.emit e).cans = s.cans := rfl
@[simp] theorem State.emit_ports (e : Emit) : (s.emit e).ports = s.ports := rfl
@[simp] theorem State.emit_glns (e : Emit) : (s.emit e).glns = s.glns := rfl
@[simp] theorem State.emit_nvm (e : Emit) : (s.emit e).nvm = s.nvm := rfl
@[simp] theorem State.emit_bb (e : Emit) : (s.emit e).bb = s.bb := rfl
@[simp] theorem State.emit_fw (e : Emit) : (s.emit e).fw = s.fw := rfl
@[simp] theorem State.emit_sys (e : Emit) : (s.emit e).sys = s.sys := rfl
@[simp] theorem State.emit_pending (e : Emit) : (s.emit e).pending = s.pending := rfl

@[simp] theorem State.emits_cyc (es : List Emit) : (s.emits es).cyc = s.cyc := rfl
@[simp] theorem State.emits_free (es : List Emit) : (s.emits es).free = s.free := rfl
@[simp] theorem State.emits_regs (es : List Emit) : (s.emits es).regs = s.regs := rfl
@[simp] theorem State.emits_cycle (es : List Emit) : (s.emits es).cycle = s.cycle := rfl
@[simp] theorem State.emits_hiLatch (es : List Emit) : (s.emits es).hiLatch = s.hiLatch := rfl
@[simp] theorem State.emits_loStage (es : List Emit) : (s.emits es).loStage = s.loStage := rfl
@[simp] theorem State.emits_localWin (es : List Emit) : (s.emits es).localWin = s.localWin := rfl
@[simp] theorem State.emits_msixTable (es : List Emit) : (s.emits es).msixTable = s.msixTable := rfl
@[simp] theorem State.emits_msixPend (es : List Emit) : (s.emits es).msixPend = s.msixPend := rfl
@[simp] theorem State.emits_intDis (es : List Emit) : (s.emits es).intDis = s.intDis := rfl
@[simp] theorem State.emits_srcs (es : List Emit) : (s.emits es).srcs = s.srcs := rfl
@[simp] theorem State.emits_cplq (es : List Emit) : (s.emits es).cplq = s.cplq := rfl
@[simp] theorem State.emits_pairs (es : List Emit) : (s.emits es).pairs = s.pairs := rfl
@[simp] theorem State.emits_evLost (es : List Emit) : (s.emits es).evLost = s.evLost := rfl
@[simp] theorem State.emits_evLosing (es : List Emit) : (s.emits es).evLosing = s.evLosing := rfl
@[simp] theorem State.emits_rrLast (es : List Emit) : (s.emits es).rrLast = s.rrLast := rfl
@[simp] theorem State.emits_plan (es : List Emit) : (s.emits es).plan = s.plan := rfl
@[simp] theorem State.emits_planSeq (es : List Emit) : (s.emits es).planSeq = s.planSeq := rfl
@[simp] theorem State.emits_alloc (es : List Emit) : (s.emits es).alloc = s.alloc := rfl
@[simp] theorem State.emits_releasedA (es : List Emit) : (s.emits es).releasedA = s.releasedA := rfl
@[simp] theorem State.emits_releasedB (es : List Emit) : (s.emits es).releasedB = s.releasedB := rfl
@[simp] theorem State.emits_tick (es : List Emit) : (s.emits es).tick = s.tick := rfl
@[simp] theorem State.emits_trim (es : List Emit) : (s.emits es).trim = s.trim := rfl
@[simp] theorem State.emits_revalCause (es : List Emit) : (s.emits es).revalCause = s.revalCause := rfl
@[simp] theorem State.emits_revalAt (es : List Emit) : (s.emits es).revalAt = s.revalAt := rfl
@[simp] theorem State.emits_revalE (es : List Emit) : (s.emits es).revalE = s.revalE := rfl
@[simp] theorem State.emits_revalP (es : List Emit) : (s.emits es).revalP = s.revalP := rfl
@[simp] theorem State.emits_revalH (es : List Emit) : (s.emits es).revalH = s.revalH := rfl
@[simp] theorem State.emits_fab (es : List Emit) : (s.emits es).fab = s.fab := rfl
@[simp] theorem State.emits_fabCheck (es : List Emit) : (s.emits es).fabCheck = s.fabCheck := rfl
@[simp] theorem State.emits_hrw (es : List Emit) : (s.emits es).hrw = s.hrw := rfl
@[simp] theorem State.emits_raised (es : List Emit) : (s.emits es).raised = s.raised := rfl
@[simp] theorem State.emits_safeOn (es : List Emit) : (s.emits es).safeOn = s.safeOn := rfl
@[simp] theorem State.emits_releasing (es : List Emit) : (s.emits es).releasing = s.releasing := rfl
@[simp] theorem State.emits_coords (es : List Emit) : (s.emits es).coords = s.coords := rfl
@[simp] theorem State.emits_gpts (es : List Emit) : (s.emits es).gpts = s.gpts := rfl
@[simp] theorem State.emits_stages (es : List Emit) : (s.emits es).stages = s.stages := rfl
@[simp] theorem State.emits_rails (es : List Emit) : (s.emits es).rails = s.rails := rfl
@[simp] theorem State.emits_loopSets (es : List Emit) : (s.emits es).loopSets = s.loopSets := rfl
@[simp] theorem State.emits_supplies (es : List Emit) : (s.emits es).supplies = s.supplies := rfl
@[simp] theorem State.emits_xfers (es : List Emit) : (s.emits es).xfers = s.xfers := rfl
@[simp] theorem State.emits_psws (es : List Emit) : (s.emits es).psws = s.psws := rfl
@[simp] theorem State.emits_mppt (es : List Emit) : (s.emits es).mppt = s.mppt := rfl
@[simp] theorem State.emits_packs (es : List Emit) : (s.emits es).packs = s.packs := rfl
@[simp] theorem State.emits_cans (es : List Emit) : (s.emits es).cans = s.cans := rfl
@[simp] theorem State.emits_ports (es : List Emit) : (s.emits es).ports = s.ports := rfl
@[simp] theorem State.emits_glns (es : List Emit) : (s.emits es).glns = s.glns := rfl
@[simp] theorem State.emits_nvm (es : List Emit) : (s.emits es).nvm = s.nvm := rfl
@[simp] theorem State.emits_bb (es : List Emit) : (s.emits es).bb = s.bb := rfl
@[simp] theorem State.emits_fw (es : List Emit) : (s.emits es).fw = s.fw := rfl
@[simp] theorem State.emits_sys (es : List Emit) : (s.emits es).sys = s.sys := rfl
@[simp] theorem State.emits_pending (es : List Emit) : (s.emits es).pending = s.pending := rfl

@[simp] theorem State.raise_cyc (i j : Nat) (b : List Byte) : (s.raise i j b).cyc = s.cyc := rfl
@[simp] theorem State.raise_free (i j : Nat) (b : List Byte) : (s.raise i j b).free = s.free := rfl
@[simp] theorem State.raise_regs (i j : Nat) (b : List Byte) : (s.raise i j b).regs = s.regs := rfl
@[simp] theorem State.raise_cycle (i j : Nat) (b : List Byte) : (s.raise i j b).cycle = s.cycle := rfl
@[simp] theorem State.raise_hiLatch (i j : Nat) (b : List Byte) : (s.raise i j b).hiLatch = s.hiLatch := rfl
@[simp] theorem State.raise_loStage (i j : Nat) (b : List Byte) : (s.raise i j b).loStage = s.loStage := rfl
@[simp] theorem State.raise_localWin (i j : Nat) (b : List Byte) : (s.raise i j b).localWin = s.localWin := rfl
@[simp] theorem State.raise_msixTable (i j : Nat) (b : List Byte) : (s.raise i j b).msixTable = s.msixTable := rfl
@[simp] theorem State.raise_msixPend (i j : Nat) (b : List Byte) : (s.raise i j b).msixPend = s.msixPend := rfl
@[simp] theorem State.raise_intDis (i j : Nat) (b : List Byte) : (s.raise i j b).intDis = s.intDis := rfl
@[simp] theorem State.raise_outbox (i j : Nat) (b : List Byte) : (s.raise i j b).outbox = s.outbox := rfl
@[simp] theorem State.raise_srcs (i j : Nat) (b : List Byte) : (s.raise i j b).srcs = s.srcs := rfl
@[simp] theorem State.raise_cplq (i j : Nat) (b : List Byte) : (s.raise i j b).cplq = s.cplq := rfl
@[simp] theorem State.raise_pairs (i j : Nat) (b : List Byte) : (s.raise i j b).pairs = s.pairs := rfl
@[simp] theorem State.raise_evLost (i j : Nat) (b : List Byte) : (s.raise i j b).evLost = s.evLost := rfl
@[simp] theorem State.raise_evLosing (i j : Nat) (b : List Byte) : (s.raise i j b).evLosing = s.evLosing := rfl
@[simp] theorem State.raise_rrLast (i j : Nat) (b : List Byte) : (s.raise i j b).rrLast = s.rrLast := rfl
@[simp] theorem State.raise_plan (i j : Nat) (b : List Byte) : (s.raise i j b).plan = s.plan := rfl
@[simp] theorem State.raise_planSeq (i j : Nat) (b : List Byte) : (s.raise i j b).planSeq = s.planSeq := rfl
@[simp] theorem State.raise_alloc (i j : Nat) (b : List Byte) : (s.raise i j b).alloc = s.alloc := rfl
@[simp] theorem State.raise_releasedA (i j : Nat) (b : List Byte) : (s.raise i j b).releasedA = s.releasedA := rfl
@[simp] theorem State.raise_releasedB (i j : Nat) (b : List Byte) : (s.raise i j b).releasedB = s.releasedB := rfl
@[simp] theorem State.raise_tick (i j : Nat) (b : List Byte) : (s.raise i j b).tick = s.tick := rfl
@[simp] theorem State.raise_trim (i j : Nat) (b : List Byte) : (s.raise i j b).trim = s.trim := rfl
@[simp] theorem State.raise_revalCause (i j : Nat) (b : List Byte) : (s.raise i j b).revalCause = s.revalCause := rfl
@[simp] theorem State.raise_revalAt (i j : Nat) (b : List Byte) : (s.raise i j b).revalAt = s.revalAt := rfl
@[simp] theorem State.raise_revalE (i j : Nat) (b : List Byte) : (s.raise i j b).revalE = s.revalE := rfl
@[simp] theorem State.raise_revalP (i j : Nat) (b : List Byte) : (s.raise i j b).revalP = s.revalP := rfl
@[simp] theorem State.raise_revalH (i j : Nat) (b : List Byte) : (s.raise i j b).revalH = s.revalH := rfl
@[simp] theorem State.raise_fab (i j : Nat) (b : List Byte) : (s.raise i j b).fab = s.fab := rfl
@[simp] theorem State.raise_fabCheck (i j : Nat) (b : List Byte) : (s.raise i j b).fabCheck = s.fabCheck := rfl
@[simp] theorem State.raise_hrw (i j : Nat) (b : List Byte) : (s.raise i j b).hrw = s.hrw := rfl
@[simp] theorem State.raise_safeOn (i j : Nat) (b : List Byte) : (s.raise i j b).safeOn = s.safeOn := rfl
@[simp] theorem State.raise_releasing (i j : Nat) (b : List Byte) : (s.raise i j b).releasing = s.releasing := rfl
@[simp] theorem State.raise_coords (i j : Nat) (b : List Byte) : (s.raise i j b).coords = s.coords := rfl
@[simp] theorem State.raise_gpts (i j : Nat) (b : List Byte) : (s.raise i j b).gpts = s.gpts := rfl
@[simp] theorem State.raise_stages (i j : Nat) (b : List Byte) : (s.raise i j b).stages = s.stages := rfl
@[simp] theorem State.raise_rails (i j : Nat) (b : List Byte) : (s.raise i j b).rails = s.rails := rfl
@[simp] theorem State.raise_loopSets (i j : Nat) (b : List Byte) : (s.raise i j b).loopSets = s.loopSets := rfl
@[simp] theorem State.raise_supplies (i j : Nat) (b : List Byte) : (s.raise i j b).supplies = s.supplies := rfl
@[simp] theorem State.raise_xfers (i j : Nat) (b : List Byte) : (s.raise i j b).xfers = s.xfers := rfl
@[simp] theorem State.raise_psws (i j : Nat) (b : List Byte) : (s.raise i j b).psws = s.psws := rfl
@[simp] theorem State.raise_mppt (i j : Nat) (b : List Byte) : (s.raise i j b).mppt = s.mppt := rfl
@[simp] theorem State.raise_packs (i j : Nat) (b : List Byte) : (s.raise i j b).packs = s.packs := rfl
@[simp] theorem State.raise_cans (i j : Nat) (b : List Byte) : (s.raise i j b).cans = s.cans := rfl
@[simp] theorem State.raise_ports (i j : Nat) (b : List Byte) : (s.raise i j b).ports = s.ports := rfl
@[simp] theorem State.raise_glns (i j : Nat) (b : List Byte) : (s.raise i j b).glns = s.glns := rfl
@[simp] theorem State.raise_nvm (i j : Nat) (b : List Byte) : (s.raise i j b).nvm = s.nvm := rfl
@[simp] theorem State.raise_bb (i j : Nat) (b : List Byte) : (s.raise i j b).bb = s.bb := rfl
@[simp] theorem State.raise_fw (i j : Nat) (b : List Byte) : (s.raise i j b).fw = s.fw := rfl
@[simp] theorem State.raise_sys (i j : Nat) (b : List Byte) : (s.raise i j b).sys = s.sys := rfl
@[simp] theorem State.raise_pending (i j : Nat) (b : List Byte) : (s.raise i j b).pending = s.pending := rfl

@[simp] theorem State.setNvmByte_cyc (a : Nat) (b : Byte) : (s.setNvmByte a b).cyc = s.cyc := rfl
@[simp] theorem State.setNvmByte_free (a : Nat) (b : Byte) : (s.setNvmByte a b).free = s.free := rfl
@[simp] theorem State.setNvmByte_regs (a : Nat) (b : Byte) : (s.setNvmByte a b).regs = s.regs := rfl
@[simp] theorem State.setNvmByte_cycle (a : Nat) (b : Byte) : (s.setNvmByte a b).cycle = s.cycle := rfl
@[simp] theorem State.setNvmByte_hiLatch (a : Nat) (b : Byte) : (s.setNvmByte a b).hiLatch = s.hiLatch := rfl
@[simp] theorem State.setNvmByte_loStage (a : Nat) (b : Byte) : (s.setNvmByte a b).loStage = s.loStage := rfl
@[simp] theorem State.setNvmByte_localWin (a : Nat) (b : Byte) : (s.setNvmByte a b).localWin = s.localWin := rfl
@[simp] theorem State.setNvmByte_msixTable (a : Nat) (b : Byte) : (s.setNvmByte a b).msixTable = s.msixTable := rfl
@[simp] theorem State.setNvmByte_msixPend (a : Nat) (b : Byte) : (s.setNvmByte a b).msixPend = s.msixPend := rfl
@[simp] theorem State.setNvmByte_intDis (a : Nat) (b : Byte) : (s.setNvmByte a b).intDis = s.intDis := rfl
@[simp] theorem State.setNvmByte_outbox (a : Nat) (b : Byte) : (s.setNvmByte a b).outbox = s.outbox := rfl
@[simp] theorem State.setNvmByte_srcs (a : Nat) (b : Byte) : (s.setNvmByte a b).srcs = s.srcs := rfl
@[simp] theorem State.setNvmByte_cplq (a : Nat) (b : Byte) : (s.setNvmByte a b).cplq = s.cplq := rfl
@[simp] theorem State.setNvmByte_pairs (a : Nat) (b : Byte) : (s.setNvmByte a b).pairs = s.pairs := rfl
@[simp] theorem State.setNvmByte_evLost (a : Nat) (b : Byte) : (s.setNvmByte a b).evLost = s.evLost := rfl
@[simp] theorem State.setNvmByte_evLosing (a : Nat) (b : Byte) : (s.setNvmByte a b).evLosing = s.evLosing := rfl
@[simp] theorem State.setNvmByte_rrLast (a : Nat) (b : Byte) : (s.setNvmByte a b).rrLast = s.rrLast := rfl
@[simp] theorem State.setNvmByte_plan (a : Nat) (b : Byte) : (s.setNvmByte a b).plan = s.plan := rfl
@[simp] theorem State.setNvmByte_planSeq (a : Nat) (b : Byte) : (s.setNvmByte a b).planSeq = s.planSeq := rfl
@[simp] theorem State.setNvmByte_alloc (a : Nat) (b : Byte) : (s.setNvmByte a b).alloc = s.alloc := rfl
@[simp] theorem State.setNvmByte_releasedA (a : Nat) (b : Byte) : (s.setNvmByte a b).releasedA = s.releasedA := rfl
@[simp] theorem State.setNvmByte_releasedB (a : Nat) (b : Byte) : (s.setNvmByte a b).releasedB = s.releasedB := rfl
@[simp] theorem State.setNvmByte_tick (a : Nat) (b : Byte) : (s.setNvmByte a b).tick = s.tick := rfl
@[simp] theorem State.setNvmByte_trim (a : Nat) (b : Byte) : (s.setNvmByte a b).trim = s.trim := rfl
@[simp] theorem State.setNvmByte_revalCause (a : Nat) (b : Byte) : (s.setNvmByte a b).revalCause = s.revalCause := rfl
@[simp] theorem State.setNvmByte_revalAt (a : Nat) (b : Byte) : (s.setNvmByte a b).revalAt = s.revalAt := rfl
@[simp] theorem State.setNvmByte_revalE (a : Nat) (b : Byte) : (s.setNvmByte a b).revalE = s.revalE := rfl
@[simp] theorem State.setNvmByte_revalP (a : Nat) (b : Byte) : (s.setNvmByte a b).revalP = s.revalP := rfl
@[simp] theorem State.setNvmByte_revalH (a : Nat) (b : Byte) : (s.setNvmByte a b).revalH = s.revalH := rfl
@[simp] theorem State.setNvmByte_fab (a : Nat) (b : Byte) : (s.setNvmByte a b).fab = s.fab := rfl
@[simp] theorem State.setNvmByte_fabCheck (a : Nat) (b : Byte) : (s.setNvmByte a b).fabCheck = s.fabCheck := rfl
@[simp] theorem State.setNvmByte_hrw (a : Nat) (b : Byte) : (s.setNvmByte a b).hrw = s.hrw := rfl
@[simp] theorem State.setNvmByte_raised (a : Nat) (b : Byte) : (s.setNvmByte a b).raised = s.raised := rfl
@[simp] theorem State.setNvmByte_safeOn (a : Nat) (b : Byte) : (s.setNvmByte a b).safeOn = s.safeOn := rfl
@[simp] theorem State.setNvmByte_releasing (a : Nat) (b : Byte) : (s.setNvmByte a b).releasing = s.releasing := rfl
@[simp] theorem State.setNvmByte_coords (a : Nat) (b : Byte) : (s.setNvmByte a b).coords = s.coords := rfl
@[simp] theorem State.setNvmByte_gpts (a : Nat) (b : Byte) : (s.setNvmByte a b).gpts = s.gpts := rfl
@[simp] theorem State.setNvmByte_stages (a : Nat) (b : Byte) : (s.setNvmByte a b).stages = s.stages := rfl
@[simp] theorem State.setNvmByte_rails (a : Nat) (b : Byte) : (s.setNvmByte a b).rails = s.rails := rfl
@[simp] theorem State.setNvmByte_loopSets (a : Nat) (b : Byte) : (s.setNvmByte a b).loopSets = s.loopSets := rfl
@[simp] theorem State.setNvmByte_supplies (a : Nat) (b : Byte) : (s.setNvmByte a b).supplies = s.supplies := rfl
@[simp] theorem State.setNvmByte_xfers (a : Nat) (b : Byte) : (s.setNvmByte a b).xfers = s.xfers := rfl
@[simp] theorem State.setNvmByte_psws (a : Nat) (b : Byte) : (s.setNvmByte a b).psws = s.psws := rfl
@[simp] theorem State.setNvmByte_mppt (a : Nat) (b : Byte) : (s.setNvmByte a b).mppt = s.mppt := rfl
@[simp] theorem State.setNvmByte_packs (a : Nat) (b : Byte) : (s.setNvmByte a b).packs = s.packs := rfl
@[simp] theorem State.setNvmByte_cans (a : Nat) (b : Byte) : (s.setNvmByte a b).cans = s.cans := rfl
@[simp] theorem State.setNvmByte_ports (a : Nat) (b : Byte) : (s.setNvmByte a b).ports = s.ports := rfl
@[simp] theorem State.setNvmByte_glns (a : Nat) (b : Byte) : (s.setNvmByte a b).glns = s.glns := rfl
@[simp] theorem State.setNvmByte_bb (a : Nat) (b : Byte) : (s.setNvmByte a b).bb = s.bb := rfl
@[simp] theorem State.setNvmByte_fw (a : Nat) (b : Byte) : (s.setNvmByte a b).fw = s.fw := rfl
@[simp] theorem State.setNvmByte_sys (a : Nat) (b : Byte) : (s.setNvmByte a b).sys = s.sys := rfl
@[simp] theorem State.setNvmByte_pending (a : Nat) (b : Byte) : (s.setNvmByte a b).pending = s.pending := rfl

@[simp] theorem State.setNvmGroup_cyc (g : Nat) (x : GroupStatus) : (s.setNvmGroup g x).cyc = s.cyc := rfl
@[simp] theorem State.setNvmGroup_free (g : Nat) (x : GroupStatus) : (s.setNvmGroup g x).free = s.free := rfl
@[simp] theorem State.setNvmGroup_regs (g : Nat) (x : GroupStatus) : (s.setNvmGroup g x).regs = s.regs := rfl
@[simp] theorem State.setNvmGroup_cycle (g : Nat) (x : GroupStatus) : (s.setNvmGroup g x).cycle = s.cycle := rfl
@[simp] theorem State.setNvmGroup_hiLatch (g : Nat) (x : GroupStatus) : (s.setNvmGroup g x).hiLatch = s.hiLatch := rfl
@[simp] theorem State.setNvmGroup_loStage (g : Nat) (x : GroupStatus) : (s.setNvmGroup g x).loStage = s.loStage := rfl
@[simp] theorem State.setNvmGroup_localWin (g : Nat) (x : GroupStatus) : (s.setNvmGroup g x).localWin = s.localWin := rfl
@[simp] theorem State.setNvmGroup_msixTable (g : Nat) (x : GroupStatus) : (s.setNvmGroup g x).msixTable = s.msixTable := rfl
@[simp] theorem State.setNvmGroup_msixPend (g : Nat) (x : GroupStatus) : (s.setNvmGroup g x).msixPend = s.msixPend := rfl
@[simp] theorem State.setNvmGroup_intDis (g : Nat) (x : GroupStatus) : (s.setNvmGroup g x).intDis = s.intDis := rfl
@[simp] theorem State.setNvmGroup_outbox (g : Nat) (x : GroupStatus) : (s.setNvmGroup g x).outbox = s.outbox := rfl
@[simp] theorem State.setNvmGroup_srcs (g : Nat) (x : GroupStatus) : (s.setNvmGroup g x).srcs = s.srcs := rfl
@[simp] theorem State.setNvmGroup_cplq (g : Nat) (x : GroupStatus) : (s.setNvmGroup g x).cplq = s.cplq := rfl
@[simp] theorem State.setNvmGroup_pairs (g : Nat) (x : GroupStatus) : (s.setNvmGroup g x).pairs = s.pairs := rfl
@[simp] theorem State.setNvmGroup_evLost (g : Nat) (x : GroupStatus) : (s.setNvmGroup g x).evLost = s.evLost := rfl
@[simp] theorem State.setNvmGroup_evLosing (g : Nat) (x : GroupStatus) : (s.setNvmGroup g x).evLosing = s.evLosing := rfl
@[simp] theorem State.setNvmGroup_rrLast (g : Nat) (x : GroupStatus) : (s.setNvmGroup g x).rrLast = s.rrLast := rfl
@[simp] theorem State.setNvmGroup_plan (g : Nat) (x : GroupStatus) : (s.setNvmGroup g x).plan = s.plan := rfl
@[simp] theorem State.setNvmGroup_planSeq (g : Nat) (x : GroupStatus) : (s.setNvmGroup g x).planSeq = s.planSeq := rfl
@[simp] theorem State.setNvmGroup_alloc (g : Nat) (x : GroupStatus) : (s.setNvmGroup g x).alloc = s.alloc := rfl
@[simp] theorem State.setNvmGroup_releasedA (g : Nat) (x : GroupStatus) : (s.setNvmGroup g x).releasedA = s.releasedA := rfl
@[simp] theorem State.setNvmGroup_releasedB (g : Nat) (x : GroupStatus) : (s.setNvmGroup g x).releasedB = s.releasedB := rfl
@[simp] theorem State.setNvmGroup_tick (g : Nat) (x : GroupStatus) : (s.setNvmGroup g x).tick = s.tick := rfl
@[simp] theorem State.setNvmGroup_trim (g : Nat) (x : GroupStatus) : (s.setNvmGroup g x).trim = s.trim := rfl
@[simp] theorem State.setNvmGroup_revalCause (g : Nat) (x : GroupStatus) : (s.setNvmGroup g x).revalCause = s.revalCause := rfl
@[simp] theorem State.setNvmGroup_revalAt (g : Nat) (x : GroupStatus) : (s.setNvmGroup g x).revalAt = s.revalAt := rfl
@[simp] theorem State.setNvmGroup_revalE (g : Nat) (x : GroupStatus) : (s.setNvmGroup g x).revalE = s.revalE := rfl
@[simp] theorem State.setNvmGroup_revalP (g : Nat) (x : GroupStatus) : (s.setNvmGroup g x).revalP = s.revalP := rfl
@[simp] theorem State.setNvmGroup_revalH (g : Nat) (x : GroupStatus) : (s.setNvmGroup g x).revalH = s.revalH := rfl
@[simp] theorem State.setNvmGroup_fab (g : Nat) (x : GroupStatus) : (s.setNvmGroup g x).fab = s.fab := rfl
@[simp] theorem State.setNvmGroup_fabCheck (g : Nat) (x : GroupStatus) : (s.setNvmGroup g x).fabCheck = s.fabCheck := rfl
@[simp] theorem State.setNvmGroup_hrw (g : Nat) (x : GroupStatus) : (s.setNvmGroup g x).hrw = s.hrw := rfl
@[simp] theorem State.setNvmGroup_raised (g : Nat) (x : GroupStatus) : (s.setNvmGroup g x).raised = s.raised := rfl
@[simp] theorem State.setNvmGroup_safeOn (g : Nat) (x : GroupStatus) : (s.setNvmGroup g x).safeOn = s.safeOn := rfl
@[simp] theorem State.setNvmGroup_releasing (g : Nat) (x : GroupStatus) : (s.setNvmGroup g x).releasing = s.releasing := rfl
@[simp] theorem State.setNvmGroup_coords (g : Nat) (x : GroupStatus) : (s.setNvmGroup g x).coords = s.coords := rfl
@[simp] theorem State.setNvmGroup_gpts (g : Nat) (x : GroupStatus) : (s.setNvmGroup g x).gpts = s.gpts := rfl
@[simp] theorem State.setNvmGroup_stages (g : Nat) (x : GroupStatus) : (s.setNvmGroup g x).stages = s.stages := rfl
@[simp] theorem State.setNvmGroup_rails (g : Nat) (x : GroupStatus) : (s.setNvmGroup g x).rails = s.rails := rfl
@[simp] theorem State.setNvmGroup_loopSets (g : Nat) (x : GroupStatus) : (s.setNvmGroup g x).loopSets = s.loopSets := rfl
@[simp] theorem State.setNvmGroup_supplies (g : Nat) (x : GroupStatus) : (s.setNvmGroup g x).supplies = s.supplies := rfl
@[simp] theorem State.setNvmGroup_xfers (g : Nat) (x : GroupStatus) : (s.setNvmGroup g x).xfers = s.xfers := rfl
@[simp] theorem State.setNvmGroup_psws (g : Nat) (x : GroupStatus) : (s.setNvmGroup g x).psws = s.psws := rfl
@[simp] theorem State.setNvmGroup_mppt (g : Nat) (x : GroupStatus) : (s.setNvmGroup g x).mppt = s.mppt := rfl
@[simp] theorem State.setNvmGroup_packs (g : Nat) (x : GroupStatus) : (s.setNvmGroup g x).packs = s.packs := rfl
@[simp] theorem State.setNvmGroup_cans (g : Nat) (x : GroupStatus) : (s.setNvmGroup g x).cans = s.cans := rfl
@[simp] theorem State.setNvmGroup_ports (g : Nat) (x : GroupStatus) : (s.setNvmGroup g x).ports = s.ports := rfl
@[simp] theorem State.setNvmGroup_glns (g : Nat) (x : GroupStatus) : (s.setNvmGroup g x).glns = s.glns := rfl
@[simp] theorem State.setNvmGroup_bb (g : Nat) (x : GroupStatus) : (s.setNvmGroup g x).bb = s.bb := rfl
@[simp] theorem State.setNvmGroup_fw (g : Nat) (x : GroupStatus) : (s.setNvmGroup g x).fw = s.fw := rfl
@[simp] theorem State.setNvmGroup_sys (g : Nat) (x : GroupStatus) : (s.setNvmGroup g x).sys = s.sys := rfl
@[simp] theorem State.setNvmGroup_pending (g : Nat) (x : GroupStatus) : (s.setNvmGroup g x).pending = s.pending := rfl

@[simp] theorem State.setCounter_cyc (k : Nat) (r : CntRt) : (s.setCounter k r).cyc = s.cyc := rfl
@[simp] theorem State.setCounter_free (k : Nat) (r : CntRt) : (s.setCounter k r).free = s.free := rfl
@[simp] theorem State.setCounter_regs (k : Nat) (r : CntRt) : (s.setCounter k r).regs = s.regs := rfl
@[simp] theorem State.setCounter_cycle (k : Nat) (r : CntRt) : (s.setCounter k r).cycle = s.cycle := rfl
@[simp] theorem State.setCounter_hiLatch (k : Nat) (r : CntRt) : (s.setCounter k r).hiLatch = s.hiLatch := rfl
@[simp] theorem State.setCounter_loStage (k : Nat) (r : CntRt) : (s.setCounter k r).loStage = s.loStage := rfl
@[simp] theorem State.setCounter_localWin (k : Nat) (r : CntRt) : (s.setCounter k r).localWin = s.localWin := rfl
@[simp] theorem State.setCounter_msixTable (k : Nat) (r : CntRt) : (s.setCounter k r).msixTable = s.msixTable := rfl
@[simp] theorem State.setCounter_msixPend (k : Nat) (r : CntRt) : (s.setCounter k r).msixPend = s.msixPend := rfl
@[simp] theorem State.setCounter_intDis (k : Nat) (r : CntRt) : (s.setCounter k r).intDis = s.intDis := rfl
@[simp] theorem State.setCounter_outbox (k : Nat) (r : CntRt) : (s.setCounter k r).outbox = s.outbox := rfl
@[simp] theorem State.setCounter_srcs (k : Nat) (r : CntRt) : (s.setCounter k r).srcs = s.srcs := rfl
@[simp] theorem State.setCounter_cplq (k : Nat) (r : CntRt) : (s.setCounter k r).cplq = s.cplq := rfl
@[simp] theorem State.setCounter_pairs (k : Nat) (r : CntRt) : (s.setCounter k r).pairs = s.pairs := rfl
@[simp] theorem State.setCounter_evLost (k : Nat) (r : CntRt) : (s.setCounter k r).evLost = s.evLost := rfl
@[simp] theorem State.setCounter_evLosing (k : Nat) (r : CntRt) : (s.setCounter k r).evLosing = s.evLosing := rfl
@[simp] theorem State.setCounter_rrLast (k : Nat) (r : CntRt) : (s.setCounter k r).rrLast = s.rrLast := rfl
@[simp] theorem State.setCounter_plan (k : Nat) (r : CntRt) : (s.setCounter k r).plan = s.plan := rfl
@[simp] theorem State.setCounter_planSeq (k : Nat) (r : CntRt) : (s.setCounter k r).planSeq = s.planSeq := rfl
@[simp] theorem State.setCounter_alloc (k : Nat) (r : CntRt) : (s.setCounter k r).alloc = s.alloc := rfl
@[simp] theorem State.setCounter_releasedA (k : Nat) (r : CntRt) : (s.setCounter k r).releasedA = s.releasedA := rfl
@[simp] theorem State.setCounter_releasedB (k : Nat) (r : CntRt) : (s.setCounter k r).releasedB = s.releasedB := rfl
@[simp] theorem State.setCounter_tick (k : Nat) (r : CntRt) : (s.setCounter k r).tick = s.tick := rfl
@[simp] theorem State.setCounter_trim (k : Nat) (r : CntRt) : (s.setCounter k r).trim = s.trim := rfl
@[simp] theorem State.setCounter_revalCause (k : Nat) (r : CntRt) : (s.setCounter k r).revalCause = s.revalCause := rfl
@[simp] theorem State.setCounter_revalAt (k : Nat) (r : CntRt) : (s.setCounter k r).revalAt = s.revalAt := rfl
@[simp] theorem State.setCounter_revalE (k : Nat) (r : CntRt) : (s.setCounter k r).revalE = s.revalE := rfl
@[simp] theorem State.setCounter_revalP (k : Nat) (r : CntRt) : (s.setCounter k r).revalP = s.revalP := rfl
@[simp] theorem State.setCounter_revalH (k : Nat) (r : CntRt) : (s.setCounter k r).revalH = s.revalH := rfl
@[simp] theorem State.setCounter_fab (k : Nat) (r : CntRt) : (s.setCounter k r).fab = s.fab := rfl
@[simp] theorem State.setCounter_fabCheck (k : Nat) (r : CntRt) : (s.setCounter k r).fabCheck = s.fabCheck := rfl
@[simp] theorem State.setCounter_hrw (k : Nat) (r : CntRt) : (s.setCounter k r).hrw = s.hrw := rfl
@[simp] theorem State.setCounter_raised (k : Nat) (r : CntRt) : (s.setCounter k r).raised = s.raised := rfl
@[simp] theorem State.setCounter_safeOn (k : Nat) (r : CntRt) : (s.setCounter k r).safeOn = s.safeOn := rfl
@[simp] theorem State.setCounter_releasing (k : Nat) (r : CntRt) : (s.setCounter k r).releasing = s.releasing := rfl
@[simp] theorem State.setCounter_coords (k : Nat) (r : CntRt) : (s.setCounter k r).coords = s.coords := rfl
@[simp] theorem State.setCounter_gpts (k : Nat) (r : CntRt) : (s.setCounter k r).gpts = s.gpts := rfl
@[simp] theorem State.setCounter_stages (k : Nat) (r : CntRt) : (s.setCounter k r).stages = s.stages := rfl
@[simp] theorem State.setCounter_rails (k : Nat) (r : CntRt) : (s.setCounter k r).rails = s.rails := rfl
@[simp] theorem State.setCounter_loopSets (k : Nat) (r : CntRt) : (s.setCounter k r).loopSets = s.loopSets := rfl
@[simp] theorem State.setCounter_supplies (k : Nat) (r : CntRt) : (s.setCounter k r).supplies = s.supplies := rfl
@[simp] theorem State.setCounter_xfers (k : Nat) (r : CntRt) : (s.setCounter k r).xfers = s.xfers := rfl
@[simp] theorem State.setCounter_psws (k : Nat) (r : CntRt) : (s.setCounter k r).psws = s.psws := rfl
@[simp] theorem State.setCounter_mppt (k : Nat) (r : CntRt) : (s.setCounter k r).mppt = s.mppt := rfl
@[simp] theorem State.setCounter_packs (k : Nat) (r : CntRt) : (s.setCounter k r).packs = s.packs := rfl
@[simp] theorem State.setCounter_cans (k : Nat) (r : CntRt) : (s.setCounter k r).cans = s.cans := rfl
@[simp] theorem State.setCounter_ports (k : Nat) (r : CntRt) : (s.setCounter k r).ports = s.ports := rfl
@[simp] theorem State.setCounter_glns (k : Nat) (r : CntRt) : (s.setCounter k r).glns = s.glns := rfl
@[simp] theorem State.setCounter_bb (k : Nat) (r : CntRt) : (s.setCounter k r).bb = s.bb := rfl
@[simp] theorem State.setCounter_fw (k : Nat) (r : CntRt) : (s.setCounter k r).fw = s.fw := rfl
@[simp] theorem State.setCounter_sys (k : Nat) (r : CntRt) : (s.setCounter k r).sys = s.sys := rfl
@[simp] theorem State.setCounter_pending (k : Nat) (r : CntRt) : (s.setCounter k r).pending = s.pending := rfl

@[simp] theorem State.setHrw_cyc (i j : Nat) (r : HrwInst) : (s.setHrw i j r).cyc = s.cyc := rfl
@[simp] theorem State.setHrw_free (i j : Nat) (r : HrwInst) : (s.setHrw i j r).free = s.free := rfl
@[simp] theorem State.setHrw_regs (i j : Nat) (r : HrwInst) : (s.setHrw i j r).regs = s.regs := rfl
@[simp] theorem State.setHrw_cycle (i j : Nat) (r : HrwInst) : (s.setHrw i j r).cycle = s.cycle := rfl
@[simp] theorem State.setHrw_hiLatch (i j : Nat) (r : HrwInst) : (s.setHrw i j r).hiLatch = s.hiLatch := rfl
@[simp] theorem State.setHrw_loStage (i j : Nat) (r : HrwInst) : (s.setHrw i j r).loStage = s.loStage := rfl
@[simp] theorem State.setHrw_localWin (i j : Nat) (r : HrwInst) : (s.setHrw i j r).localWin = s.localWin := rfl
@[simp] theorem State.setHrw_msixTable (i j : Nat) (r : HrwInst) : (s.setHrw i j r).msixTable = s.msixTable := rfl
@[simp] theorem State.setHrw_msixPend (i j : Nat) (r : HrwInst) : (s.setHrw i j r).msixPend = s.msixPend := rfl
@[simp] theorem State.setHrw_intDis (i j : Nat) (r : HrwInst) : (s.setHrw i j r).intDis = s.intDis := rfl
@[simp] theorem State.setHrw_outbox (i j : Nat) (r : HrwInst) : (s.setHrw i j r).outbox = s.outbox := rfl
@[simp] theorem State.setHrw_srcs (i j : Nat) (r : HrwInst) : (s.setHrw i j r).srcs = s.srcs := rfl
@[simp] theorem State.setHrw_cplq (i j : Nat) (r : HrwInst) : (s.setHrw i j r).cplq = s.cplq := rfl
@[simp] theorem State.setHrw_pairs (i j : Nat) (r : HrwInst) : (s.setHrw i j r).pairs = s.pairs := rfl
@[simp] theorem State.setHrw_evLost (i j : Nat) (r : HrwInst) : (s.setHrw i j r).evLost = s.evLost := rfl
@[simp] theorem State.setHrw_evLosing (i j : Nat) (r : HrwInst) : (s.setHrw i j r).evLosing = s.evLosing := rfl
@[simp] theorem State.setHrw_rrLast (i j : Nat) (r : HrwInst) : (s.setHrw i j r).rrLast = s.rrLast := rfl
@[simp] theorem State.setHrw_plan (i j : Nat) (r : HrwInst) : (s.setHrw i j r).plan = s.plan := rfl
@[simp] theorem State.setHrw_planSeq (i j : Nat) (r : HrwInst) : (s.setHrw i j r).planSeq = s.planSeq := rfl
@[simp] theorem State.setHrw_alloc (i j : Nat) (r : HrwInst) : (s.setHrw i j r).alloc = s.alloc := rfl
@[simp] theorem State.setHrw_releasedA (i j : Nat) (r : HrwInst) : (s.setHrw i j r).releasedA = s.releasedA := rfl
@[simp] theorem State.setHrw_releasedB (i j : Nat) (r : HrwInst) : (s.setHrw i j r).releasedB = s.releasedB := rfl
@[simp] theorem State.setHrw_tick (i j : Nat) (r : HrwInst) : (s.setHrw i j r).tick = s.tick := rfl
@[simp] theorem State.setHrw_trim (i j : Nat) (r : HrwInst) : (s.setHrw i j r).trim = s.trim := rfl
@[simp] theorem State.setHrw_revalCause (i j : Nat) (r : HrwInst) : (s.setHrw i j r).revalCause = s.revalCause := rfl
@[simp] theorem State.setHrw_revalAt (i j : Nat) (r : HrwInst) : (s.setHrw i j r).revalAt = s.revalAt := rfl
@[simp] theorem State.setHrw_revalE (i j : Nat) (r : HrwInst) : (s.setHrw i j r).revalE = s.revalE := rfl
@[simp] theorem State.setHrw_revalP (i j : Nat) (r : HrwInst) : (s.setHrw i j r).revalP = s.revalP := rfl
@[simp] theorem State.setHrw_revalH (i j : Nat) (r : HrwInst) : (s.setHrw i j r).revalH = s.revalH := rfl
@[simp] theorem State.setHrw_fab (i j : Nat) (r : HrwInst) : (s.setHrw i j r).fab = s.fab := rfl
@[simp] theorem State.setHrw_fabCheck (i j : Nat) (r : HrwInst) : (s.setHrw i j r).fabCheck = s.fabCheck := rfl
@[simp] theorem State.setHrw_raised (i j : Nat) (r : HrwInst) : (s.setHrw i j r).raised = s.raised := rfl
@[simp] theorem State.setHrw_safeOn (i j : Nat) (r : HrwInst) : (s.setHrw i j r).safeOn = s.safeOn := rfl
@[simp] theorem State.setHrw_releasing (i j : Nat) (r : HrwInst) : (s.setHrw i j r).releasing = s.releasing := rfl
@[simp] theorem State.setHrw_coords (i j : Nat) (r : HrwInst) : (s.setHrw i j r).coords = s.coords := rfl
@[simp] theorem State.setHrw_gpts (i j : Nat) (r : HrwInst) : (s.setHrw i j r).gpts = s.gpts := rfl
@[simp] theorem State.setHrw_stages (i j : Nat) (r : HrwInst) : (s.setHrw i j r).stages = s.stages := rfl
@[simp] theorem State.setHrw_rails (i j : Nat) (r : HrwInst) : (s.setHrw i j r).rails = s.rails := rfl
@[simp] theorem State.setHrw_loopSets (i j : Nat) (r : HrwInst) : (s.setHrw i j r).loopSets = s.loopSets := rfl
@[simp] theorem State.setHrw_supplies (i j : Nat) (r : HrwInst) : (s.setHrw i j r).supplies = s.supplies := rfl
@[simp] theorem State.setHrw_xfers (i j : Nat) (r : HrwInst) : (s.setHrw i j r).xfers = s.xfers := rfl
@[simp] theorem State.setHrw_psws (i j : Nat) (r : HrwInst) : (s.setHrw i j r).psws = s.psws := rfl
@[simp] theorem State.setHrw_mppt (i j : Nat) (r : HrwInst) : (s.setHrw i j r).mppt = s.mppt := rfl
@[simp] theorem State.setHrw_packs (i j : Nat) (r : HrwInst) : (s.setHrw i j r).packs = s.packs := rfl
@[simp] theorem State.setHrw_cans (i j : Nat) (r : HrwInst) : (s.setHrw i j r).cans = s.cans := rfl
@[simp] theorem State.setHrw_ports (i j : Nat) (r : HrwInst) : (s.setHrw i j r).ports = s.ports := rfl
@[simp] theorem State.setHrw_glns (i j : Nat) (r : HrwInst) : (s.setHrw i j r).glns = s.glns := rfl
@[simp] theorem State.setHrw_nvm (i j : Nat) (r : HrwInst) : (s.setHrw i j r).nvm = s.nvm := rfl
@[simp] theorem State.setHrw_bb (i j : Nat) (r : HrwInst) : (s.setHrw i j r).bb = s.bb := rfl
@[simp] theorem State.setHrw_fw (i j : Nat) (r : HrwInst) : (s.setHrw i j r).fw = s.fw := rfl
@[simp] theorem State.setHrw_sys (i j : Nat) (r : HrwInst) : (s.setHrw i j r).sys = s.sys := rfl
@[simp] theorem State.setHrw_pending (i j : Nat) (r : HrwInst) : (s.setHrw i j r).pending = s.pending := rfl

@[simp] theorem State.setSrc_cyc (k : Nat) (r : SrcRt) : (s.setSrc k r).cyc = s.cyc := rfl
@[simp] theorem State.setSrc_free (k : Nat) (r : SrcRt) : (s.setSrc k r).free = s.free := rfl
@[simp] theorem State.setSrc_regs (k : Nat) (r : SrcRt) : (s.setSrc k r).regs = s.regs := rfl
@[simp] theorem State.setSrc_cycle (k : Nat) (r : SrcRt) : (s.setSrc k r).cycle = s.cycle := rfl
@[simp] theorem State.setSrc_hiLatch (k : Nat) (r : SrcRt) : (s.setSrc k r).hiLatch = s.hiLatch := rfl
@[simp] theorem State.setSrc_loStage (k : Nat) (r : SrcRt) : (s.setSrc k r).loStage = s.loStage := rfl
@[simp] theorem State.setSrc_localWin (k : Nat) (r : SrcRt) : (s.setSrc k r).localWin = s.localWin := rfl
@[simp] theorem State.setSrc_msixTable (k : Nat) (r : SrcRt) : (s.setSrc k r).msixTable = s.msixTable := rfl
@[simp] theorem State.setSrc_msixPend (k : Nat) (r : SrcRt) : (s.setSrc k r).msixPend = s.msixPend := rfl
@[simp] theorem State.setSrc_intDis (k : Nat) (r : SrcRt) : (s.setSrc k r).intDis = s.intDis := rfl
@[simp] theorem State.setSrc_outbox (k : Nat) (r : SrcRt) : (s.setSrc k r).outbox = s.outbox := rfl
@[simp] theorem State.setSrc_cplq (k : Nat) (r : SrcRt) : (s.setSrc k r).cplq = s.cplq := rfl
@[simp] theorem State.setSrc_pairs (k : Nat) (r : SrcRt) : (s.setSrc k r).pairs = s.pairs := rfl
@[simp] theorem State.setSrc_evLost (k : Nat) (r : SrcRt) : (s.setSrc k r).evLost = s.evLost := rfl
@[simp] theorem State.setSrc_evLosing (k : Nat) (r : SrcRt) : (s.setSrc k r).evLosing = s.evLosing := rfl
@[simp] theorem State.setSrc_rrLast (k : Nat) (r : SrcRt) : (s.setSrc k r).rrLast = s.rrLast := rfl
@[simp] theorem State.setSrc_plan (k : Nat) (r : SrcRt) : (s.setSrc k r).plan = s.plan := rfl
@[simp] theorem State.setSrc_planSeq (k : Nat) (r : SrcRt) : (s.setSrc k r).planSeq = s.planSeq := rfl
@[simp] theorem State.setSrc_alloc (k : Nat) (r : SrcRt) : (s.setSrc k r).alloc = s.alloc := rfl
@[simp] theorem State.setSrc_releasedA (k : Nat) (r : SrcRt) : (s.setSrc k r).releasedA = s.releasedA := rfl
@[simp] theorem State.setSrc_releasedB (k : Nat) (r : SrcRt) : (s.setSrc k r).releasedB = s.releasedB := rfl
@[simp] theorem State.setSrc_tick (k : Nat) (r : SrcRt) : (s.setSrc k r).tick = s.tick := rfl
@[simp] theorem State.setSrc_trim (k : Nat) (r : SrcRt) : (s.setSrc k r).trim = s.trim := rfl
@[simp] theorem State.setSrc_revalCause (k : Nat) (r : SrcRt) : (s.setSrc k r).revalCause = s.revalCause := rfl
@[simp] theorem State.setSrc_revalAt (k : Nat) (r : SrcRt) : (s.setSrc k r).revalAt = s.revalAt := rfl
@[simp] theorem State.setSrc_revalE (k : Nat) (r : SrcRt) : (s.setSrc k r).revalE = s.revalE := rfl
@[simp] theorem State.setSrc_revalP (k : Nat) (r : SrcRt) : (s.setSrc k r).revalP = s.revalP := rfl
@[simp] theorem State.setSrc_revalH (k : Nat) (r : SrcRt) : (s.setSrc k r).revalH = s.revalH := rfl
@[simp] theorem State.setSrc_fab (k : Nat) (r : SrcRt) : (s.setSrc k r).fab = s.fab := rfl
@[simp] theorem State.setSrc_fabCheck (k : Nat) (r : SrcRt) : (s.setSrc k r).fabCheck = s.fabCheck := rfl
@[simp] theorem State.setSrc_hrw (k : Nat) (r : SrcRt) : (s.setSrc k r).hrw = s.hrw := rfl
@[simp] theorem State.setSrc_raised (k : Nat) (r : SrcRt) : (s.setSrc k r).raised = s.raised := rfl
@[simp] theorem State.setSrc_safeOn (k : Nat) (r : SrcRt) : (s.setSrc k r).safeOn = s.safeOn := rfl
@[simp] theorem State.setSrc_releasing (k : Nat) (r : SrcRt) : (s.setSrc k r).releasing = s.releasing := rfl
@[simp] theorem State.setSrc_coords (k : Nat) (r : SrcRt) : (s.setSrc k r).coords = s.coords := rfl
@[simp] theorem State.setSrc_gpts (k : Nat) (r : SrcRt) : (s.setSrc k r).gpts = s.gpts := rfl
@[simp] theorem State.setSrc_stages (k : Nat) (r : SrcRt) : (s.setSrc k r).stages = s.stages := rfl
@[simp] theorem State.setSrc_rails (k : Nat) (r : SrcRt) : (s.setSrc k r).rails = s.rails := rfl
@[simp] theorem State.setSrc_loopSets (k : Nat) (r : SrcRt) : (s.setSrc k r).loopSets = s.loopSets := rfl
@[simp] theorem State.setSrc_supplies (k : Nat) (r : SrcRt) : (s.setSrc k r).supplies = s.supplies := rfl
@[simp] theorem State.setSrc_xfers (k : Nat) (r : SrcRt) : (s.setSrc k r).xfers = s.xfers := rfl
@[simp] theorem State.setSrc_psws (k : Nat) (r : SrcRt) : (s.setSrc k r).psws = s.psws := rfl
@[simp] theorem State.setSrc_mppt (k : Nat) (r : SrcRt) : (s.setSrc k r).mppt = s.mppt := rfl
@[simp] theorem State.setSrc_packs (k : Nat) (r : SrcRt) : (s.setSrc k r).packs = s.packs := rfl
@[simp] theorem State.setSrc_cans (k : Nat) (r : SrcRt) : (s.setSrc k r).cans = s.cans := rfl
@[simp] theorem State.setSrc_ports (k : Nat) (r : SrcRt) : (s.setSrc k r).ports = s.ports := rfl
@[simp] theorem State.setSrc_glns (k : Nat) (r : SrcRt) : (s.setSrc k r).glns = s.glns := rfl
@[simp] theorem State.setSrc_nvm (k : Nat) (r : SrcRt) : (s.setSrc k r).nvm = s.nvm := rfl
@[simp] theorem State.setSrc_bb (k : Nat) (r : SrcRt) : (s.setSrc k r).bb = s.bb := rfl
@[simp] theorem State.setSrc_fw (k : Nat) (r : SrcRt) : (s.setSrc k r).fw = s.fw := rfl
@[simp] theorem State.setSrc_sys (k : Nat) (r : SrcRt) : (s.setSrc k r).sys = s.sys := rfl
@[simp] theorem State.setSrc_pending (k : Nat) (r : SrcRt) : (s.setSrc k r).pending = s.pending := rfl

@[simp] theorem State.setPair_cyc (k : Nat) (r : PairRt) : (s.setPair k r).cyc = s.cyc := rfl
@[simp] theorem State.setPair_free (k : Nat) (r : PairRt) : (s.setPair k r).free = s.free := rfl
@[simp] theorem State.setPair_regs (k : Nat) (r : PairRt) : (s.setPair k r).regs = s.regs := rfl
@[simp] theorem State.setPair_cycle (k : Nat) (r : PairRt) : (s.setPair k r).cycle = s.cycle := rfl
@[simp] theorem State.setPair_hiLatch (k : Nat) (r : PairRt) : (s.setPair k r).hiLatch = s.hiLatch := rfl
@[simp] theorem State.setPair_loStage (k : Nat) (r : PairRt) : (s.setPair k r).loStage = s.loStage := rfl
@[simp] theorem State.setPair_localWin (k : Nat) (r : PairRt) : (s.setPair k r).localWin = s.localWin := rfl
@[simp] theorem State.setPair_msixTable (k : Nat) (r : PairRt) : (s.setPair k r).msixTable = s.msixTable := rfl
@[simp] theorem State.setPair_msixPend (k : Nat) (r : PairRt) : (s.setPair k r).msixPend = s.msixPend := rfl
@[simp] theorem State.setPair_intDis (k : Nat) (r : PairRt) : (s.setPair k r).intDis = s.intDis := rfl
@[simp] theorem State.setPair_outbox (k : Nat) (r : PairRt) : (s.setPair k r).outbox = s.outbox := rfl
@[simp] theorem State.setPair_srcs (k : Nat) (r : PairRt) : (s.setPair k r).srcs = s.srcs := rfl
@[simp] theorem State.setPair_cplq (k : Nat) (r : PairRt) : (s.setPair k r).cplq = s.cplq := rfl
@[simp] theorem State.setPair_evLost (k : Nat) (r : PairRt) : (s.setPair k r).evLost = s.evLost := rfl
@[simp] theorem State.setPair_evLosing (k : Nat) (r : PairRt) : (s.setPair k r).evLosing = s.evLosing := rfl
@[simp] theorem State.setPair_rrLast (k : Nat) (r : PairRt) : (s.setPair k r).rrLast = s.rrLast := rfl
@[simp] theorem State.setPair_plan (k : Nat) (r : PairRt) : (s.setPair k r).plan = s.plan := rfl
@[simp] theorem State.setPair_planSeq (k : Nat) (r : PairRt) : (s.setPair k r).planSeq = s.planSeq := rfl
@[simp] theorem State.setPair_alloc (k : Nat) (r : PairRt) : (s.setPair k r).alloc = s.alloc := rfl
@[simp] theorem State.setPair_releasedA (k : Nat) (r : PairRt) : (s.setPair k r).releasedA = s.releasedA := rfl
@[simp] theorem State.setPair_releasedB (k : Nat) (r : PairRt) : (s.setPair k r).releasedB = s.releasedB := rfl
@[simp] theorem State.setPair_tick (k : Nat) (r : PairRt) : (s.setPair k r).tick = s.tick := rfl
@[simp] theorem State.setPair_trim (k : Nat) (r : PairRt) : (s.setPair k r).trim = s.trim := rfl
@[simp] theorem State.setPair_revalCause (k : Nat) (r : PairRt) : (s.setPair k r).revalCause = s.revalCause := rfl
@[simp] theorem State.setPair_revalAt (k : Nat) (r : PairRt) : (s.setPair k r).revalAt = s.revalAt := rfl
@[simp] theorem State.setPair_revalE (k : Nat) (r : PairRt) : (s.setPair k r).revalE = s.revalE := rfl
@[simp] theorem State.setPair_revalP (k : Nat) (r : PairRt) : (s.setPair k r).revalP = s.revalP := rfl
@[simp] theorem State.setPair_revalH (k : Nat) (r : PairRt) : (s.setPair k r).revalH = s.revalH := rfl
@[simp] theorem State.setPair_fab (k : Nat) (r : PairRt) : (s.setPair k r).fab = s.fab := rfl
@[simp] theorem State.setPair_fabCheck (k : Nat) (r : PairRt) : (s.setPair k r).fabCheck = s.fabCheck := rfl
@[simp] theorem State.setPair_hrw (k : Nat) (r : PairRt) : (s.setPair k r).hrw = s.hrw := rfl
@[simp] theorem State.setPair_raised (k : Nat) (r : PairRt) : (s.setPair k r).raised = s.raised := rfl
@[simp] theorem State.setPair_safeOn (k : Nat) (r : PairRt) : (s.setPair k r).safeOn = s.safeOn := rfl
@[simp] theorem State.setPair_releasing (k : Nat) (r : PairRt) : (s.setPair k r).releasing = s.releasing := rfl
@[simp] theorem State.setPair_coords (k : Nat) (r : PairRt) : (s.setPair k r).coords = s.coords := rfl
@[simp] theorem State.setPair_gpts (k : Nat) (r : PairRt) : (s.setPair k r).gpts = s.gpts := rfl
@[simp] theorem State.setPair_stages (k : Nat) (r : PairRt) : (s.setPair k r).stages = s.stages := rfl
@[simp] theorem State.setPair_rails (k : Nat) (r : PairRt) : (s.setPair k r).rails = s.rails := rfl
@[simp] theorem State.setPair_loopSets (k : Nat) (r : PairRt) : (s.setPair k r).loopSets = s.loopSets := rfl
@[simp] theorem State.setPair_supplies (k : Nat) (r : PairRt) : (s.setPair k r).supplies = s.supplies := rfl
@[simp] theorem State.setPair_xfers (k : Nat) (r : PairRt) : (s.setPair k r).xfers = s.xfers := rfl
@[simp] theorem State.setPair_psws (k : Nat) (r : PairRt) : (s.setPair k r).psws = s.psws := rfl
@[simp] theorem State.setPair_mppt (k : Nat) (r : PairRt) : (s.setPair k r).mppt = s.mppt := rfl
@[simp] theorem State.setPair_packs (k : Nat) (r : PairRt) : (s.setPair k r).packs = s.packs := rfl
@[simp] theorem State.setPair_cans (k : Nat) (r : PairRt) : (s.setPair k r).cans = s.cans := rfl
@[simp] theorem State.setPair_ports (k : Nat) (r : PairRt) : (s.setPair k r).ports = s.ports := rfl
@[simp] theorem State.setPair_glns (k : Nat) (r : PairRt) : (s.setPair k r).glns = s.glns := rfl
@[simp] theorem State.setPair_nvm (k : Nat) (r : PairRt) : (s.setPair k r).nvm = s.nvm := rfl
@[simp] theorem State.setPair_bb (k : Nat) (r : PairRt) : (s.setPair k r).bb = s.bb := rfl
@[simp] theorem State.setPair_fw (k : Nat) (r : PairRt) : (s.setPair k r).fw = s.fw := rfl
@[simp] theorem State.setPair_sys (k : Nat) (r : PairRt) : (s.setPair k r).sys = s.sys := rfl
@[simp] theorem State.setPair_pending (k : Nat) (r : PairRt) : (s.setPair k r).pending = s.pending := rfl

@[simp] theorem State.setCoord_cyc (k : Nat) (r : CoordRt) : (s.setCoord k r).cyc = s.cyc := rfl
@[simp] theorem State.setCoord_free (k : Nat) (r : CoordRt) : (s.setCoord k r).free = s.free := rfl
@[simp] theorem State.setCoord_regs (k : Nat) (r : CoordRt) : (s.setCoord k r).regs = s.regs := rfl
@[simp] theorem State.setCoord_cycle (k : Nat) (r : CoordRt) : (s.setCoord k r).cycle = s.cycle := rfl
@[simp] theorem State.setCoord_hiLatch (k : Nat) (r : CoordRt) : (s.setCoord k r).hiLatch = s.hiLatch := rfl
@[simp] theorem State.setCoord_loStage (k : Nat) (r : CoordRt) : (s.setCoord k r).loStage = s.loStage := rfl
@[simp] theorem State.setCoord_localWin (k : Nat) (r : CoordRt) : (s.setCoord k r).localWin = s.localWin := rfl
@[simp] theorem State.setCoord_msixTable (k : Nat) (r : CoordRt) : (s.setCoord k r).msixTable = s.msixTable := rfl
@[simp] theorem State.setCoord_msixPend (k : Nat) (r : CoordRt) : (s.setCoord k r).msixPend = s.msixPend := rfl
@[simp] theorem State.setCoord_intDis (k : Nat) (r : CoordRt) : (s.setCoord k r).intDis = s.intDis := rfl
@[simp] theorem State.setCoord_outbox (k : Nat) (r : CoordRt) : (s.setCoord k r).outbox = s.outbox := rfl
@[simp] theorem State.setCoord_srcs (k : Nat) (r : CoordRt) : (s.setCoord k r).srcs = s.srcs := rfl
@[simp] theorem State.setCoord_cplq (k : Nat) (r : CoordRt) : (s.setCoord k r).cplq = s.cplq := rfl
@[simp] theorem State.setCoord_pairs (k : Nat) (r : CoordRt) : (s.setCoord k r).pairs = s.pairs := rfl
@[simp] theorem State.setCoord_evLost (k : Nat) (r : CoordRt) : (s.setCoord k r).evLost = s.evLost := rfl
@[simp] theorem State.setCoord_evLosing (k : Nat) (r : CoordRt) : (s.setCoord k r).evLosing = s.evLosing := rfl
@[simp] theorem State.setCoord_rrLast (k : Nat) (r : CoordRt) : (s.setCoord k r).rrLast = s.rrLast := rfl
@[simp] theorem State.setCoord_plan (k : Nat) (r : CoordRt) : (s.setCoord k r).plan = s.plan := rfl
@[simp] theorem State.setCoord_planSeq (k : Nat) (r : CoordRt) : (s.setCoord k r).planSeq = s.planSeq := rfl
@[simp] theorem State.setCoord_alloc (k : Nat) (r : CoordRt) : (s.setCoord k r).alloc = s.alloc := rfl
@[simp] theorem State.setCoord_releasedA (k : Nat) (r : CoordRt) : (s.setCoord k r).releasedA = s.releasedA := rfl
@[simp] theorem State.setCoord_releasedB (k : Nat) (r : CoordRt) : (s.setCoord k r).releasedB = s.releasedB := rfl
@[simp] theorem State.setCoord_tick (k : Nat) (r : CoordRt) : (s.setCoord k r).tick = s.tick := rfl
@[simp] theorem State.setCoord_trim (k : Nat) (r : CoordRt) : (s.setCoord k r).trim = s.trim := rfl
@[simp] theorem State.setCoord_revalCause (k : Nat) (r : CoordRt) : (s.setCoord k r).revalCause = s.revalCause := rfl
@[simp] theorem State.setCoord_revalAt (k : Nat) (r : CoordRt) : (s.setCoord k r).revalAt = s.revalAt := rfl
@[simp] theorem State.setCoord_revalE (k : Nat) (r : CoordRt) : (s.setCoord k r).revalE = s.revalE := rfl
@[simp] theorem State.setCoord_revalP (k : Nat) (r : CoordRt) : (s.setCoord k r).revalP = s.revalP := rfl
@[simp] theorem State.setCoord_revalH (k : Nat) (r : CoordRt) : (s.setCoord k r).revalH = s.revalH := rfl
@[simp] theorem State.setCoord_fab (k : Nat) (r : CoordRt) : (s.setCoord k r).fab = s.fab := rfl
@[simp] theorem State.setCoord_fabCheck (k : Nat) (r : CoordRt) : (s.setCoord k r).fabCheck = s.fabCheck := rfl
@[simp] theorem State.setCoord_hrw (k : Nat) (r : CoordRt) : (s.setCoord k r).hrw = s.hrw := rfl
@[simp] theorem State.setCoord_raised (k : Nat) (r : CoordRt) : (s.setCoord k r).raised = s.raised := rfl
@[simp] theorem State.setCoord_safeOn (k : Nat) (r : CoordRt) : (s.setCoord k r).safeOn = s.safeOn := rfl
@[simp] theorem State.setCoord_releasing (k : Nat) (r : CoordRt) : (s.setCoord k r).releasing = s.releasing := rfl
@[simp] theorem State.setCoord_gpts (k : Nat) (r : CoordRt) : (s.setCoord k r).gpts = s.gpts := rfl
@[simp] theorem State.setCoord_stages (k : Nat) (r : CoordRt) : (s.setCoord k r).stages = s.stages := rfl
@[simp] theorem State.setCoord_rails (k : Nat) (r : CoordRt) : (s.setCoord k r).rails = s.rails := rfl
@[simp] theorem State.setCoord_loopSets (k : Nat) (r : CoordRt) : (s.setCoord k r).loopSets = s.loopSets := rfl
@[simp] theorem State.setCoord_supplies (k : Nat) (r : CoordRt) : (s.setCoord k r).supplies = s.supplies := rfl
@[simp] theorem State.setCoord_xfers (k : Nat) (r : CoordRt) : (s.setCoord k r).xfers = s.xfers := rfl
@[simp] theorem State.setCoord_psws (k : Nat) (r : CoordRt) : (s.setCoord k r).psws = s.psws := rfl
@[simp] theorem State.setCoord_mppt (k : Nat) (r : CoordRt) : (s.setCoord k r).mppt = s.mppt := rfl
@[simp] theorem State.setCoord_packs (k : Nat) (r : CoordRt) : (s.setCoord k r).packs = s.packs := rfl
@[simp] theorem State.setCoord_cans (k : Nat) (r : CoordRt) : (s.setCoord k r).cans = s.cans := rfl
@[simp] theorem State.setCoord_ports (k : Nat) (r : CoordRt) : (s.setCoord k r).ports = s.ports := rfl
@[simp] theorem State.setCoord_glns (k : Nat) (r : CoordRt) : (s.setCoord k r).glns = s.glns := rfl
@[simp] theorem State.setCoord_nvm (k : Nat) (r : CoordRt) : (s.setCoord k r).nvm = s.nvm := rfl
@[simp] theorem State.setCoord_bb (k : Nat) (r : CoordRt) : (s.setCoord k r).bb = s.bb := rfl
@[simp] theorem State.setCoord_fw (k : Nat) (r : CoordRt) : (s.setCoord k r).fw = s.fw := rfl
@[simp] theorem State.setCoord_sys (k : Nat) (r : CoordRt) : (s.setCoord k r).sys = s.sys := rfl
@[simp] theorem State.setCoord_pending (k : Nat) (r : CoordRt) : (s.setCoord k r).pending = s.pending := rfl

@[simp] theorem State.setGpt_cyc (k : Nat) (r : GptRt) : (s.setGpt k r).cyc = s.cyc := rfl
@[simp] theorem State.setGpt_free (k : Nat) (r : GptRt) : (s.setGpt k r).free = s.free := rfl
@[simp] theorem State.setGpt_regs (k : Nat) (r : GptRt) : (s.setGpt k r).regs = s.regs := rfl
@[simp] theorem State.setGpt_cycle (k : Nat) (r : GptRt) : (s.setGpt k r).cycle = s.cycle := rfl
@[simp] theorem State.setGpt_hiLatch (k : Nat) (r : GptRt) : (s.setGpt k r).hiLatch = s.hiLatch := rfl
@[simp] theorem State.setGpt_loStage (k : Nat) (r : GptRt) : (s.setGpt k r).loStage = s.loStage := rfl
@[simp] theorem State.setGpt_localWin (k : Nat) (r : GptRt) : (s.setGpt k r).localWin = s.localWin := rfl
@[simp] theorem State.setGpt_msixTable (k : Nat) (r : GptRt) : (s.setGpt k r).msixTable = s.msixTable := rfl
@[simp] theorem State.setGpt_msixPend (k : Nat) (r : GptRt) : (s.setGpt k r).msixPend = s.msixPend := rfl
@[simp] theorem State.setGpt_intDis (k : Nat) (r : GptRt) : (s.setGpt k r).intDis = s.intDis := rfl
@[simp] theorem State.setGpt_outbox (k : Nat) (r : GptRt) : (s.setGpt k r).outbox = s.outbox := rfl
@[simp] theorem State.setGpt_srcs (k : Nat) (r : GptRt) : (s.setGpt k r).srcs = s.srcs := rfl
@[simp] theorem State.setGpt_cplq (k : Nat) (r : GptRt) : (s.setGpt k r).cplq = s.cplq := rfl
@[simp] theorem State.setGpt_pairs (k : Nat) (r : GptRt) : (s.setGpt k r).pairs = s.pairs := rfl
@[simp] theorem State.setGpt_evLost (k : Nat) (r : GptRt) : (s.setGpt k r).evLost = s.evLost := rfl
@[simp] theorem State.setGpt_evLosing (k : Nat) (r : GptRt) : (s.setGpt k r).evLosing = s.evLosing := rfl
@[simp] theorem State.setGpt_rrLast (k : Nat) (r : GptRt) : (s.setGpt k r).rrLast = s.rrLast := rfl
@[simp] theorem State.setGpt_plan (k : Nat) (r : GptRt) : (s.setGpt k r).plan = s.plan := rfl
@[simp] theorem State.setGpt_planSeq (k : Nat) (r : GptRt) : (s.setGpt k r).planSeq = s.planSeq := rfl
@[simp] theorem State.setGpt_alloc (k : Nat) (r : GptRt) : (s.setGpt k r).alloc = s.alloc := rfl
@[simp] theorem State.setGpt_releasedA (k : Nat) (r : GptRt) : (s.setGpt k r).releasedA = s.releasedA := rfl
@[simp] theorem State.setGpt_releasedB (k : Nat) (r : GptRt) : (s.setGpt k r).releasedB = s.releasedB := rfl
@[simp] theorem State.setGpt_tick (k : Nat) (r : GptRt) : (s.setGpt k r).tick = s.tick := rfl
@[simp] theorem State.setGpt_trim (k : Nat) (r : GptRt) : (s.setGpt k r).trim = s.trim := rfl
@[simp] theorem State.setGpt_revalCause (k : Nat) (r : GptRt) : (s.setGpt k r).revalCause = s.revalCause := rfl
@[simp] theorem State.setGpt_revalAt (k : Nat) (r : GptRt) : (s.setGpt k r).revalAt = s.revalAt := rfl
@[simp] theorem State.setGpt_revalE (k : Nat) (r : GptRt) : (s.setGpt k r).revalE = s.revalE := rfl
@[simp] theorem State.setGpt_revalP (k : Nat) (r : GptRt) : (s.setGpt k r).revalP = s.revalP := rfl
@[simp] theorem State.setGpt_revalH (k : Nat) (r : GptRt) : (s.setGpt k r).revalH = s.revalH := rfl
@[simp] theorem State.setGpt_fab (k : Nat) (r : GptRt) : (s.setGpt k r).fab = s.fab := rfl
@[simp] theorem State.setGpt_fabCheck (k : Nat) (r : GptRt) : (s.setGpt k r).fabCheck = s.fabCheck := rfl
@[simp] theorem State.setGpt_hrw (k : Nat) (r : GptRt) : (s.setGpt k r).hrw = s.hrw := rfl
@[simp] theorem State.setGpt_raised (k : Nat) (r : GptRt) : (s.setGpt k r).raised = s.raised := rfl
@[simp] theorem State.setGpt_safeOn (k : Nat) (r : GptRt) : (s.setGpt k r).safeOn = s.safeOn := rfl
@[simp] theorem State.setGpt_releasing (k : Nat) (r : GptRt) : (s.setGpt k r).releasing = s.releasing := rfl
@[simp] theorem State.setGpt_coords (k : Nat) (r : GptRt) : (s.setGpt k r).coords = s.coords := rfl
@[simp] theorem State.setGpt_stages (k : Nat) (r : GptRt) : (s.setGpt k r).stages = s.stages := rfl
@[simp] theorem State.setGpt_rails (k : Nat) (r : GptRt) : (s.setGpt k r).rails = s.rails := rfl
@[simp] theorem State.setGpt_loopSets (k : Nat) (r : GptRt) : (s.setGpt k r).loopSets = s.loopSets := rfl
@[simp] theorem State.setGpt_supplies (k : Nat) (r : GptRt) : (s.setGpt k r).supplies = s.supplies := rfl
@[simp] theorem State.setGpt_xfers (k : Nat) (r : GptRt) : (s.setGpt k r).xfers = s.xfers := rfl
@[simp] theorem State.setGpt_psws (k : Nat) (r : GptRt) : (s.setGpt k r).psws = s.psws := rfl
@[simp] theorem State.setGpt_mppt (k : Nat) (r : GptRt) : (s.setGpt k r).mppt = s.mppt := rfl
@[simp] theorem State.setGpt_packs (k : Nat) (r : GptRt) : (s.setGpt k r).packs = s.packs := rfl
@[simp] theorem State.setGpt_cans (k : Nat) (r : GptRt) : (s.setGpt k r).cans = s.cans := rfl
@[simp] theorem State.setGpt_ports (k : Nat) (r : GptRt) : (s.setGpt k r).ports = s.ports := rfl
@[simp] theorem State.setGpt_glns (k : Nat) (r : GptRt) : (s.setGpt k r).glns = s.glns := rfl
@[simp] theorem State.setGpt_nvm (k : Nat) (r : GptRt) : (s.setGpt k r).nvm = s.nvm := rfl
@[simp] theorem State.setGpt_bb (k : Nat) (r : GptRt) : (s.setGpt k r).bb = s.bb := rfl
@[simp] theorem State.setGpt_fw (k : Nat) (r : GptRt) : (s.setGpt k r).fw = s.fw := rfl
@[simp] theorem State.setGpt_sys (k : Nat) (r : GptRt) : (s.setGpt k r).sys = s.sys := rfl
@[simp] theorem State.setGpt_pending (k : Nat) (r : GptRt) : (s.setGpt k r).pending = s.pending := rfl

@[simp] theorem State.setStage_cyc (k : Nat) (r : StageRt) : (s.setStage k r).cyc = s.cyc := rfl
@[simp] theorem State.setStage_free (k : Nat) (r : StageRt) : (s.setStage k r).free = s.free := rfl
@[simp] theorem State.setStage_regs (k : Nat) (r : StageRt) : (s.setStage k r).regs = s.regs := rfl
@[simp] theorem State.setStage_cycle (k : Nat) (r : StageRt) : (s.setStage k r).cycle = s.cycle := rfl
@[simp] theorem State.setStage_hiLatch (k : Nat) (r : StageRt) : (s.setStage k r).hiLatch = s.hiLatch := rfl
@[simp] theorem State.setStage_loStage (k : Nat) (r : StageRt) : (s.setStage k r).loStage = s.loStage := rfl
@[simp] theorem State.setStage_localWin (k : Nat) (r : StageRt) : (s.setStage k r).localWin = s.localWin := rfl
@[simp] theorem State.setStage_msixTable (k : Nat) (r : StageRt) : (s.setStage k r).msixTable = s.msixTable := rfl
@[simp] theorem State.setStage_msixPend (k : Nat) (r : StageRt) : (s.setStage k r).msixPend = s.msixPend := rfl
@[simp] theorem State.setStage_intDis (k : Nat) (r : StageRt) : (s.setStage k r).intDis = s.intDis := rfl
@[simp] theorem State.setStage_outbox (k : Nat) (r : StageRt) : (s.setStage k r).outbox = s.outbox := rfl
@[simp] theorem State.setStage_srcs (k : Nat) (r : StageRt) : (s.setStage k r).srcs = s.srcs := rfl
@[simp] theorem State.setStage_cplq (k : Nat) (r : StageRt) : (s.setStage k r).cplq = s.cplq := rfl
@[simp] theorem State.setStage_pairs (k : Nat) (r : StageRt) : (s.setStage k r).pairs = s.pairs := rfl
@[simp] theorem State.setStage_evLost (k : Nat) (r : StageRt) : (s.setStage k r).evLost = s.evLost := rfl
@[simp] theorem State.setStage_evLosing (k : Nat) (r : StageRt) : (s.setStage k r).evLosing = s.evLosing := rfl
@[simp] theorem State.setStage_rrLast (k : Nat) (r : StageRt) : (s.setStage k r).rrLast = s.rrLast := rfl
@[simp] theorem State.setStage_plan (k : Nat) (r : StageRt) : (s.setStage k r).plan = s.plan := rfl
@[simp] theorem State.setStage_planSeq (k : Nat) (r : StageRt) : (s.setStage k r).planSeq = s.planSeq := rfl
@[simp] theorem State.setStage_alloc (k : Nat) (r : StageRt) : (s.setStage k r).alloc = s.alloc := rfl
@[simp] theorem State.setStage_releasedA (k : Nat) (r : StageRt) : (s.setStage k r).releasedA = s.releasedA := rfl
@[simp] theorem State.setStage_releasedB (k : Nat) (r : StageRt) : (s.setStage k r).releasedB = s.releasedB := rfl
@[simp] theorem State.setStage_tick (k : Nat) (r : StageRt) : (s.setStage k r).tick = s.tick := rfl
@[simp] theorem State.setStage_trim (k : Nat) (r : StageRt) : (s.setStage k r).trim = s.trim := rfl
@[simp] theorem State.setStage_revalCause (k : Nat) (r : StageRt) : (s.setStage k r).revalCause = s.revalCause := rfl
@[simp] theorem State.setStage_revalAt (k : Nat) (r : StageRt) : (s.setStage k r).revalAt = s.revalAt := rfl
@[simp] theorem State.setStage_revalE (k : Nat) (r : StageRt) : (s.setStage k r).revalE = s.revalE := rfl
@[simp] theorem State.setStage_revalP (k : Nat) (r : StageRt) : (s.setStage k r).revalP = s.revalP := rfl
@[simp] theorem State.setStage_revalH (k : Nat) (r : StageRt) : (s.setStage k r).revalH = s.revalH := rfl
@[simp] theorem State.setStage_fab (k : Nat) (r : StageRt) : (s.setStage k r).fab = s.fab := rfl
@[simp] theorem State.setStage_fabCheck (k : Nat) (r : StageRt) : (s.setStage k r).fabCheck = s.fabCheck := rfl
@[simp] theorem State.setStage_hrw (k : Nat) (r : StageRt) : (s.setStage k r).hrw = s.hrw := rfl
@[simp] theorem State.setStage_raised (k : Nat) (r : StageRt) : (s.setStage k r).raised = s.raised := rfl
@[simp] theorem State.setStage_safeOn (k : Nat) (r : StageRt) : (s.setStage k r).safeOn = s.safeOn := rfl
@[simp] theorem State.setStage_releasing (k : Nat) (r : StageRt) : (s.setStage k r).releasing = s.releasing := rfl
@[simp] theorem State.setStage_coords (k : Nat) (r : StageRt) : (s.setStage k r).coords = s.coords := rfl
@[simp] theorem State.setStage_gpts (k : Nat) (r : StageRt) : (s.setStage k r).gpts = s.gpts := rfl
@[simp] theorem State.setStage_rails (k : Nat) (r : StageRt) : (s.setStage k r).rails = s.rails := rfl
@[simp] theorem State.setStage_loopSets (k : Nat) (r : StageRt) : (s.setStage k r).loopSets = s.loopSets := rfl
@[simp] theorem State.setStage_supplies (k : Nat) (r : StageRt) : (s.setStage k r).supplies = s.supplies := rfl
@[simp] theorem State.setStage_xfers (k : Nat) (r : StageRt) : (s.setStage k r).xfers = s.xfers := rfl
@[simp] theorem State.setStage_psws (k : Nat) (r : StageRt) : (s.setStage k r).psws = s.psws := rfl
@[simp] theorem State.setStage_mppt (k : Nat) (r : StageRt) : (s.setStage k r).mppt = s.mppt := rfl
@[simp] theorem State.setStage_packs (k : Nat) (r : StageRt) : (s.setStage k r).packs = s.packs := rfl
@[simp] theorem State.setStage_cans (k : Nat) (r : StageRt) : (s.setStage k r).cans = s.cans := rfl
@[simp] theorem State.setStage_ports (k : Nat) (r : StageRt) : (s.setStage k r).ports = s.ports := rfl
@[simp] theorem State.setStage_glns (k : Nat) (r : StageRt) : (s.setStage k r).glns = s.glns := rfl
@[simp] theorem State.setStage_nvm (k : Nat) (r : StageRt) : (s.setStage k r).nvm = s.nvm := rfl
@[simp] theorem State.setStage_bb (k : Nat) (r : StageRt) : (s.setStage k r).bb = s.bb := rfl
@[simp] theorem State.setStage_fw (k : Nat) (r : StageRt) : (s.setStage k r).fw = s.fw := rfl
@[simp] theorem State.setStage_sys (k : Nat) (r : StageRt) : (s.setStage k r).sys = s.sys := rfl
@[simp] theorem State.setStage_pending (k : Nat) (r : StageRt) : (s.setStage k r).pending = s.pending := rfl

@[simp] theorem State.setRail_cyc (k : Nat) (r : RailRt) : (s.setRail k r).cyc = s.cyc := rfl
@[simp] theorem State.setRail_free (k : Nat) (r : RailRt) : (s.setRail k r).free = s.free := rfl
@[simp] theorem State.setRail_regs (k : Nat) (r : RailRt) : (s.setRail k r).regs = s.regs := rfl
@[simp] theorem State.setRail_cycle (k : Nat) (r : RailRt) : (s.setRail k r).cycle = s.cycle := rfl
@[simp] theorem State.setRail_hiLatch (k : Nat) (r : RailRt) : (s.setRail k r).hiLatch = s.hiLatch := rfl
@[simp] theorem State.setRail_loStage (k : Nat) (r : RailRt) : (s.setRail k r).loStage = s.loStage := rfl
@[simp] theorem State.setRail_localWin (k : Nat) (r : RailRt) : (s.setRail k r).localWin = s.localWin := rfl
@[simp] theorem State.setRail_msixTable (k : Nat) (r : RailRt) : (s.setRail k r).msixTable = s.msixTable := rfl
@[simp] theorem State.setRail_msixPend (k : Nat) (r : RailRt) : (s.setRail k r).msixPend = s.msixPend := rfl
@[simp] theorem State.setRail_intDis (k : Nat) (r : RailRt) : (s.setRail k r).intDis = s.intDis := rfl
@[simp] theorem State.setRail_outbox (k : Nat) (r : RailRt) : (s.setRail k r).outbox = s.outbox := rfl
@[simp] theorem State.setRail_srcs (k : Nat) (r : RailRt) : (s.setRail k r).srcs = s.srcs := rfl
@[simp] theorem State.setRail_cplq (k : Nat) (r : RailRt) : (s.setRail k r).cplq = s.cplq := rfl
@[simp] theorem State.setRail_pairs (k : Nat) (r : RailRt) : (s.setRail k r).pairs = s.pairs := rfl
@[simp] theorem State.setRail_evLost (k : Nat) (r : RailRt) : (s.setRail k r).evLost = s.evLost := rfl
@[simp] theorem State.setRail_evLosing (k : Nat) (r : RailRt) : (s.setRail k r).evLosing = s.evLosing := rfl
@[simp] theorem State.setRail_rrLast (k : Nat) (r : RailRt) : (s.setRail k r).rrLast = s.rrLast := rfl
@[simp] theorem State.setRail_plan (k : Nat) (r : RailRt) : (s.setRail k r).plan = s.plan := rfl
@[simp] theorem State.setRail_planSeq (k : Nat) (r : RailRt) : (s.setRail k r).planSeq = s.planSeq := rfl
@[simp] theorem State.setRail_alloc (k : Nat) (r : RailRt) : (s.setRail k r).alloc = s.alloc := rfl
@[simp] theorem State.setRail_releasedA (k : Nat) (r : RailRt) : (s.setRail k r).releasedA = s.releasedA := rfl
@[simp] theorem State.setRail_releasedB (k : Nat) (r : RailRt) : (s.setRail k r).releasedB = s.releasedB := rfl
@[simp] theorem State.setRail_tick (k : Nat) (r : RailRt) : (s.setRail k r).tick = s.tick := rfl
@[simp] theorem State.setRail_trim (k : Nat) (r : RailRt) : (s.setRail k r).trim = s.trim := rfl
@[simp] theorem State.setRail_revalCause (k : Nat) (r : RailRt) : (s.setRail k r).revalCause = s.revalCause := rfl
@[simp] theorem State.setRail_revalAt (k : Nat) (r : RailRt) : (s.setRail k r).revalAt = s.revalAt := rfl
@[simp] theorem State.setRail_revalE (k : Nat) (r : RailRt) : (s.setRail k r).revalE = s.revalE := rfl
@[simp] theorem State.setRail_revalP (k : Nat) (r : RailRt) : (s.setRail k r).revalP = s.revalP := rfl
@[simp] theorem State.setRail_revalH (k : Nat) (r : RailRt) : (s.setRail k r).revalH = s.revalH := rfl
@[simp] theorem State.setRail_fab (k : Nat) (r : RailRt) : (s.setRail k r).fab = s.fab := rfl
@[simp] theorem State.setRail_fabCheck (k : Nat) (r : RailRt) : (s.setRail k r).fabCheck = s.fabCheck := rfl
@[simp] theorem State.setRail_hrw (k : Nat) (r : RailRt) : (s.setRail k r).hrw = s.hrw := rfl
@[simp] theorem State.setRail_raised (k : Nat) (r : RailRt) : (s.setRail k r).raised = s.raised := rfl
@[simp] theorem State.setRail_safeOn (k : Nat) (r : RailRt) : (s.setRail k r).safeOn = s.safeOn := rfl
@[simp] theorem State.setRail_releasing (k : Nat) (r : RailRt) : (s.setRail k r).releasing = s.releasing := rfl
@[simp] theorem State.setRail_coords (k : Nat) (r : RailRt) : (s.setRail k r).coords = s.coords := rfl
@[simp] theorem State.setRail_gpts (k : Nat) (r : RailRt) : (s.setRail k r).gpts = s.gpts := rfl
@[simp] theorem State.setRail_stages (k : Nat) (r : RailRt) : (s.setRail k r).stages = s.stages := rfl
@[simp] theorem State.setRail_loopSets (k : Nat) (r : RailRt) : (s.setRail k r).loopSets = s.loopSets := rfl
@[simp] theorem State.setRail_supplies (k : Nat) (r : RailRt) : (s.setRail k r).supplies = s.supplies := rfl
@[simp] theorem State.setRail_xfers (k : Nat) (r : RailRt) : (s.setRail k r).xfers = s.xfers := rfl
@[simp] theorem State.setRail_psws (k : Nat) (r : RailRt) : (s.setRail k r).psws = s.psws := rfl
@[simp] theorem State.setRail_mppt (k : Nat) (r : RailRt) : (s.setRail k r).mppt = s.mppt := rfl
@[simp] theorem State.setRail_packs (k : Nat) (r : RailRt) : (s.setRail k r).packs = s.packs := rfl
@[simp] theorem State.setRail_cans (k : Nat) (r : RailRt) : (s.setRail k r).cans = s.cans := rfl
@[simp] theorem State.setRail_ports (k : Nat) (r : RailRt) : (s.setRail k r).ports = s.ports := rfl
@[simp] theorem State.setRail_glns (k : Nat) (r : RailRt) : (s.setRail k r).glns = s.glns := rfl
@[simp] theorem State.setRail_nvm (k : Nat) (r : RailRt) : (s.setRail k r).nvm = s.nvm := rfl
@[simp] theorem State.setRail_bb (k : Nat) (r : RailRt) : (s.setRail k r).bb = s.bb := rfl
@[simp] theorem State.setRail_fw (k : Nat) (r : RailRt) : (s.setRail k r).fw = s.fw := rfl
@[simp] theorem State.setRail_sys (k : Nat) (r : RailRt) : (s.setRail k r).sys = s.sys := rfl
@[simp] theorem State.setRail_pending (k : Nat) (r : RailRt) : (s.setRail k r).pending = s.pending := rfl

@[simp] theorem State.setSupply_cyc (k : Nat) (r : SupplyRt) : (s.setSupply k r).cyc = s.cyc := rfl
@[simp] theorem State.setSupply_free (k : Nat) (r : SupplyRt) : (s.setSupply k r).free = s.free := rfl
@[simp] theorem State.setSupply_regs (k : Nat) (r : SupplyRt) : (s.setSupply k r).regs = s.regs := rfl
@[simp] theorem State.setSupply_cycle (k : Nat) (r : SupplyRt) : (s.setSupply k r).cycle = s.cycle := rfl
@[simp] theorem State.setSupply_hiLatch (k : Nat) (r : SupplyRt) : (s.setSupply k r).hiLatch = s.hiLatch := rfl
@[simp] theorem State.setSupply_loStage (k : Nat) (r : SupplyRt) : (s.setSupply k r).loStage = s.loStage := rfl
@[simp] theorem State.setSupply_localWin (k : Nat) (r : SupplyRt) : (s.setSupply k r).localWin = s.localWin := rfl
@[simp] theorem State.setSupply_msixTable (k : Nat) (r : SupplyRt) : (s.setSupply k r).msixTable = s.msixTable := rfl
@[simp] theorem State.setSupply_msixPend (k : Nat) (r : SupplyRt) : (s.setSupply k r).msixPend = s.msixPend := rfl
@[simp] theorem State.setSupply_intDis (k : Nat) (r : SupplyRt) : (s.setSupply k r).intDis = s.intDis := rfl
@[simp] theorem State.setSupply_outbox (k : Nat) (r : SupplyRt) : (s.setSupply k r).outbox = s.outbox := rfl
@[simp] theorem State.setSupply_srcs (k : Nat) (r : SupplyRt) : (s.setSupply k r).srcs = s.srcs := rfl
@[simp] theorem State.setSupply_cplq (k : Nat) (r : SupplyRt) : (s.setSupply k r).cplq = s.cplq := rfl
@[simp] theorem State.setSupply_pairs (k : Nat) (r : SupplyRt) : (s.setSupply k r).pairs = s.pairs := rfl
@[simp] theorem State.setSupply_evLost (k : Nat) (r : SupplyRt) : (s.setSupply k r).evLost = s.evLost := rfl
@[simp] theorem State.setSupply_evLosing (k : Nat) (r : SupplyRt) : (s.setSupply k r).evLosing = s.evLosing := rfl
@[simp] theorem State.setSupply_rrLast (k : Nat) (r : SupplyRt) : (s.setSupply k r).rrLast = s.rrLast := rfl
@[simp] theorem State.setSupply_plan (k : Nat) (r : SupplyRt) : (s.setSupply k r).plan = s.plan := rfl
@[simp] theorem State.setSupply_planSeq (k : Nat) (r : SupplyRt) : (s.setSupply k r).planSeq = s.planSeq := rfl
@[simp] theorem State.setSupply_alloc (k : Nat) (r : SupplyRt) : (s.setSupply k r).alloc = s.alloc := rfl
@[simp] theorem State.setSupply_releasedA (k : Nat) (r : SupplyRt) : (s.setSupply k r).releasedA = s.releasedA := rfl
@[simp] theorem State.setSupply_releasedB (k : Nat) (r : SupplyRt) : (s.setSupply k r).releasedB = s.releasedB := rfl
@[simp] theorem State.setSupply_tick (k : Nat) (r : SupplyRt) : (s.setSupply k r).tick = s.tick := rfl
@[simp] theorem State.setSupply_trim (k : Nat) (r : SupplyRt) : (s.setSupply k r).trim = s.trim := rfl
@[simp] theorem State.setSupply_revalCause (k : Nat) (r : SupplyRt) : (s.setSupply k r).revalCause = s.revalCause := rfl
@[simp] theorem State.setSupply_revalAt (k : Nat) (r : SupplyRt) : (s.setSupply k r).revalAt = s.revalAt := rfl
@[simp] theorem State.setSupply_revalE (k : Nat) (r : SupplyRt) : (s.setSupply k r).revalE = s.revalE := rfl
@[simp] theorem State.setSupply_revalP (k : Nat) (r : SupplyRt) : (s.setSupply k r).revalP = s.revalP := rfl
@[simp] theorem State.setSupply_revalH (k : Nat) (r : SupplyRt) : (s.setSupply k r).revalH = s.revalH := rfl
@[simp] theorem State.setSupply_fab (k : Nat) (r : SupplyRt) : (s.setSupply k r).fab = s.fab := rfl
@[simp] theorem State.setSupply_fabCheck (k : Nat) (r : SupplyRt) : (s.setSupply k r).fabCheck = s.fabCheck := rfl
@[simp] theorem State.setSupply_hrw (k : Nat) (r : SupplyRt) : (s.setSupply k r).hrw = s.hrw := rfl
@[simp] theorem State.setSupply_raised (k : Nat) (r : SupplyRt) : (s.setSupply k r).raised = s.raised := rfl
@[simp] theorem State.setSupply_safeOn (k : Nat) (r : SupplyRt) : (s.setSupply k r).safeOn = s.safeOn := rfl
@[simp] theorem State.setSupply_releasing (k : Nat) (r : SupplyRt) : (s.setSupply k r).releasing = s.releasing := rfl
@[simp] theorem State.setSupply_coords (k : Nat) (r : SupplyRt) : (s.setSupply k r).coords = s.coords := rfl
@[simp] theorem State.setSupply_gpts (k : Nat) (r : SupplyRt) : (s.setSupply k r).gpts = s.gpts := rfl
@[simp] theorem State.setSupply_stages (k : Nat) (r : SupplyRt) : (s.setSupply k r).stages = s.stages := rfl
@[simp] theorem State.setSupply_rails (k : Nat) (r : SupplyRt) : (s.setSupply k r).rails = s.rails := rfl
@[simp] theorem State.setSupply_loopSets (k : Nat) (r : SupplyRt) : (s.setSupply k r).loopSets = s.loopSets := rfl
@[simp] theorem State.setSupply_xfers (k : Nat) (r : SupplyRt) : (s.setSupply k r).xfers = s.xfers := rfl
@[simp] theorem State.setSupply_psws (k : Nat) (r : SupplyRt) : (s.setSupply k r).psws = s.psws := rfl
@[simp] theorem State.setSupply_mppt (k : Nat) (r : SupplyRt) : (s.setSupply k r).mppt = s.mppt := rfl
@[simp] theorem State.setSupply_packs (k : Nat) (r : SupplyRt) : (s.setSupply k r).packs = s.packs := rfl
@[simp] theorem State.setSupply_cans (k : Nat) (r : SupplyRt) : (s.setSupply k r).cans = s.cans := rfl
@[simp] theorem State.setSupply_ports (k : Nat) (r : SupplyRt) : (s.setSupply k r).ports = s.ports := rfl
@[simp] theorem State.setSupply_glns (k : Nat) (r : SupplyRt) : (s.setSupply k r).glns = s.glns := rfl
@[simp] theorem State.setSupply_nvm (k : Nat) (r : SupplyRt) : (s.setSupply k r).nvm = s.nvm := rfl
@[simp] theorem State.setSupply_bb (k : Nat) (r : SupplyRt) : (s.setSupply k r).bb = s.bb := rfl
@[simp] theorem State.setSupply_fw (k : Nat) (r : SupplyRt) : (s.setSupply k r).fw = s.fw := rfl
@[simp] theorem State.setSupply_sys (k : Nat) (r : SupplyRt) : (s.setSupply k r).sys = s.sys := rfl
@[simp] theorem State.setSupply_pending (k : Nat) (r : SupplyRt) : (s.setSupply k r).pending = s.pending := rfl

@[simp] theorem State.setXfer_cyc (k : Nat) (r : XferRt) : (s.setXfer k r).cyc = s.cyc := rfl
@[simp] theorem State.setXfer_free (k : Nat) (r : XferRt) : (s.setXfer k r).free = s.free := rfl
@[simp] theorem State.setXfer_regs (k : Nat) (r : XferRt) : (s.setXfer k r).regs = s.regs := rfl
@[simp] theorem State.setXfer_cycle (k : Nat) (r : XferRt) : (s.setXfer k r).cycle = s.cycle := rfl
@[simp] theorem State.setXfer_hiLatch (k : Nat) (r : XferRt) : (s.setXfer k r).hiLatch = s.hiLatch := rfl
@[simp] theorem State.setXfer_loStage (k : Nat) (r : XferRt) : (s.setXfer k r).loStage = s.loStage := rfl
@[simp] theorem State.setXfer_localWin (k : Nat) (r : XferRt) : (s.setXfer k r).localWin = s.localWin := rfl
@[simp] theorem State.setXfer_msixTable (k : Nat) (r : XferRt) : (s.setXfer k r).msixTable = s.msixTable := rfl
@[simp] theorem State.setXfer_msixPend (k : Nat) (r : XferRt) : (s.setXfer k r).msixPend = s.msixPend := rfl
@[simp] theorem State.setXfer_intDis (k : Nat) (r : XferRt) : (s.setXfer k r).intDis = s.intDis := rfl
@[simp] theorem State.setXfer_outbox (k : Nat) (r : XferRt) : (s.setXfer k r).outbox = s.outbox := rfl
@[simp] theorem State.setXfer_srcs (k : Nat) (r : XferRt) : (s.setXfer k r).srcs = s.srcs := rfl
@[simp] theorem State.setXfer_cplq (k : Nat) (r : XferRt) : (s.setXfer k r).cplq = s.cplq := rfl
@[simp] theorem State.setXfer_pairs (k : Nat) (r : XferRt) : (s.setXfer k r).pairs = s.pairs := rfl
@[simp] theorem State.setXfer_evLost (k : Nat) (r : XferRt) : (s.setXfer k r).evLost = s.evLost := rfl
@[simp] theorem State.setXfer_evLosing (k : Nat) (r : XferRt) : (s.setXfer k r).evLosing = s.evLosing := rfl
@[simp] theorem State.setXfer_rrLast (k : Nat) (r : XferRt) : (s.setXfer k r).rrLast = s.rrLast := rfl
@[simp] theorem State.setXfer_plan (k : Nat) (r : XferRt) : (s.setXfer k r).plan = s.plan := rfl
@[simp] theorem State.setXfer_planSeq (k : Nat) (r : XferRt) : (s.setXfer k r).planSeq = s.planSeq := rfl
@[simp] theorem State.setXfer_alloc (k : Nat) (r : XferRt) : (s.setXfer k r).alloc = s.alloc := rfl
@[simp] theorem State.setXfer_releasedA (k : Nat) (r : XferRt) : (s.setXfer k r).releasedA = s.releasedA := rfl
@[simp] theorem State.setXfer_releasedB (k : Nat) (r : XferRt) : (s.setXfer k r).releasedB = s.releasedB := rfl
@[simp] theorem State.setXfer_tick (k : Nat) (r : XferRt) : (s.setXfer k r).tick = s.tick := rfl
@[simp] theorem State.setXfer_trim (k : Nat) (r : XferRt) : (s.setXfer k r).trim = s.trim := rfl
@[simp] theorem State.setXfer_revalCause (k : Nat) (r : XferRt) : (s.setXfer k r).revalCause = s.revalCause := rfl
@[simp] theorem State.setXfer_revalAt (k : Nat) (r : XferRt) : (s.setXfer k r).revalAt = s.revalAt := rfl
@[simp] theorem State.setXfer_revalE (k : Nat) (r : XferRt) : (s.setXfer k r).revalE = s.revalE := rfl
@[simp] theorem State.setXfer_revalP (k : Nat) (r : XferRt) : (s.setXfer k r).revalP = s.revalP := rfl
@[simp] theorem State.setXfer_revalH (k : Nat) (r : XferRt) : (s.setXfer k r).revalH = s.revalH := rfl
@[simp] theorem State.setXfer_fab (k : Nat) (r : XferRt) : (s.setXfer k r).fab = s.fab := rfl
@[simp] theorem State.setXfer_fabCheck (k : Nat) (r : XferRt) : (s.setXfer k r).fabCheck = s.fabCheck := rfl
@[simp] theorem State.setXfer_hrw (k : Nat) (r : XferRt) : (s.setXfer k r).hrw = s.hrw := rfl
@[simp] theorem State.setXfer_raised (k : Nat) (r : XferRt) : (s.setXfer k r).raised = s.raised := rfl
@[simp] theorem State.setXfer_safeOn (k : Nat) (r : XferRt) : (s.setXfer k r).safeOn = s.safeOn := rfl
@[simp] theorem State.setXfer_releasing (k : Nat) (r : XferRt) : (s.setXfer k r).releasing = s.releasing := rfl
@[simp] theorem State.setXfer_coords (k : Nat) (r : XferRt) : (s.setXfer k r).coords = s.coords := rfl
@[simp] theorem State.setXfer_gpts (k : Nat) (r : XferRt) : (s.setXfer k r).gpts = s.gpts := rfl
@[simp] theorem State.setXfer_stages (k : Nat) (r : XferRt) : (s.setXfer k r).stages = s.stages := rfl
@[simp] theorem State.setXfer_rails (k : Nat) (r : XferRt) : (s.setXfer k r).rails = s.rails := rfl
@[simp] theorem State.setXfer_loopSets (k : Nat) (r : XferRt) : (s.setXfer k r).loopSets = s.loopSets := rfl
@[simp] theorem State.setXfer_supplies (k : Nat) (r : XferRt) : (s.setXfer k r).supplies = s.supplies := rfl
@[simp] theorem State.setXfer_psws (k : Nat) (r : XferRt) : (s.setXfer k r).psws = s.psws := rfl
@[simp] theorem State.setXfer_mppt (k : Nat) (r : XferRt) : (s.setXfer k r).mppt = s.mppt := rfl
@[simp] theorem State.setXfer_packs (k : Nat) (r : XferRt) : (s.setXfer k r).packs = s.packs := rfl
@[simp] theorem State.setXfer_cans (k : Nat) (r : XferRt) : (s.setXfer k r).cans = s.cans := rfl
@[simp] theorem State.setXfer_ports (k : Nat) (r : XferRt) : (s.setXfer k r).ports = s.ports := rfl
@[simp] theorem State.setXfer_glns (k : Nat) (r : XferRt) : (s.setXfer k r).glns = s.glns := rfl
@[simp] theorem State.setXfer_nvm (k : Nat) (r : XferRt) : (s.setXfer k r).nvm = s.nvm := rfl
@[simp] theorem State.setXfer_bb (k : Nat) (r : XferRt) : (s.setXfer k r).bb = s.bb := rfl
@[simp] theorem State.setXfer_fw (k : Nat) (r : XferRt) : (s.setXfer k r).fw = s.fw := rfl
@[simp] theorem State.setXfer_sys (k : Nat) (r : XferRt) : (s.setXfer k r).sys = s.sys := rfl
@[simp] theorem State.setXfer_pending (k : Nat) (r : XferRt) : (s.setXfer k r).pending = s.pending := rfl

@[simp] theorem State.setPsw_cyc (k : Nat) (r : PswRt) : (s.setPsw k r).cyc = s.cyc := rfl
@[simp] theorem State.setPsw_free (k : Nat) (r : PswRt) : (s.setPsw k r).free = s.free := rfl
@[simp] theorem State.setPsw_regs (k : Nat) (r : PswRt) : (s.setPsw k r).regs = s.regs := rfl
@[simp] theorem State.setPsw_cycle (k : Nat) (r : PswRt) : (s.setPsw k r).cycle = s.cycle := rfl
@[simp] theorem State.setPsw_hiLatch (k : Nat) (r : PswRt) : (s.setPsw k r).hiLatch = s.hiLatch := rfl
@[simp] theorem State.setPsw_loStage (k : Nat) (r : PswRt) : (s.setPsw k r).loStage = s.loStage := rfl
@[simp] theorem State.setPsw_localWin (k : Nat) (r : PswRt) : (s.setPsw k r).localWin = s.localWin := rfl
@[simp] theorem State.setPsw_msixTable (k : Nat) (r : PswRt) : (s.setPsw k r).msixTable = s.msixTable := rfl
@[simp] theorem State.setPsw_msixPend (k : Nat) (r : PswRt) : (s.setPsw k r).msixPend = s.msixPend := rfl
@[simp] theorem State.setPsw_intDis (k : Nat) (r : PswRt) : (s.setPsw k r).intDis = s.intDis := rfl
@[simp] theorem State.setPsw_outbox (k : Nat) (r : PswRt) : (s.setPsw k r).outbox = s.outbox := rfl
@[simp] theorem State.setPsw_srcs (k : Nat) (r : PswRt) : (s.setPsw k r).srcs = s.srcs := rfl
@[simp] theorem State.setPsw_cplq (k : Nat) (r : PswRt) : (s.setPsw k r).cplq = s.cplq := rfl
@[simp] theorem State.setPsw_pairs (k : Nat) (r : PswRt) : (s.setPsw k r).pairs = s.pairs := rfl
@[simp] theorem State.setPsw_evLost (k : Nat) (r : PswRt) : (s.setPsw k r).evLost = s.evLost := rfl
@[simp] theorem State.setPsw_evLosing (k : Nat) (r : PswRt) : (s.setPsw k r).evLosing = s.evLosing := rfl
@[simp] theorem State.setPsw_rrLast (k : Nat) (r : PswRt) : (s.setPsw k r).rrLast = s.rrLast := rfl
@[simp] theorem State.setPsw_plan (k : Nat) (r : PswRt) : (s.setPsw k r).plan = s.plan := rfl
@[simp] theorem State.setPsw_planSeq (k : Nat) (r : PswRt) : (s.setPsw k r).planSeq = s.planSeq := rfl
@[simp] theorem State.setPsw_alloc (k : Nat) (r : PswRt) : (s.setPsw k r).alloc = s.alloc := rfl
@[simp] theorem State.setPsw_releasedA (k : Nat) (r : PswRt) : (s.setPsw k r).releasedA = s.releasedA := rfl
@[simp] theorem State.setPsw_releasedB (k : Nat) (r : PswRt) : (s.setPsw k r).releasedB = s.releasedB := rfl
@[simp] theorem State.setPsw_tick (k : Nat) (r : PswRt) : (s.setPsw k r).tick = s.tick := rfl
@[simp] theorem State.setPsw_trim (k : Nat) (r : PswRt) : (s.setPsw k r).trim = s.trim := rfl
@[simp] theorem State.setPsw_revalCause (k : Nat) (r : PswRt) : (s.setPsw k r).revalCause = s.revalCause := rfl
@[simp] theorem State.setPsw_revalAt (k : Nat) (r : PswRt) : (s.setPsw k r).revalAt = s.revalAt := rfl
@[simp] theorem State.setPsw_revalE (k : Nat) (r : PswRt) : (s.setPsw k r).revalE = s.revalE := rfl
@[simp] theorem State.setPsw_revalP (k : Nat) (r : PswRt) : (s.setPsw k r).revalP = s.revalP := rfl
@[simp] theorem State.setPsw_revalH (k : Nat) (r : PswRt) : (s.setPsw k r).revalH = s.revalH := rfl
@[simp] theorem State.setPsw_fab (k : Nat) (r : PswRt) : (s.setPsw k r).fab = s.fab := rfl
@[simp] theorem State.setPsw_fabCheck (k : Nat) (r : PswRt) : (s.setPsw k r).fabCheck = s.fabCheck := rfl
@[simp] theorem State.setPsw_hrw (k : Nat) (r : PswRt) : (s.setPsw k r).hrw = s.hrw := rfl
@[simp] theorem State.setPsw_raised (k : Nat) (r : PswRt) : (s.setPsw k r).raised = s.raised := rfl
@[simp] theorem State.setPsw_safeOn (k : Nat) (r : PswRt) : (s.setPsw k r).safeOn = s.safeOn := rfl
@[simp] theorem State.setPsw_releasing (k : Nat) (r : PswRt) : (s.setPsw k r).releasing = s.releasing := rfl
@[simp] theorem State.setPsw_coords (k : Nat) (r : PswRt) : (s.setPsw k r).coords = s.coords := rfl
@[simp] theorem State.setPsw_gpts (k : Nat) (r : PswRt) : (s.setPsw k r).gpts = s.gpts := rfl
@[simp] theorem State.setPsw_stages (k : Nat) (r : PswRt) : (s.setPsw k r).stages = s.stages := rfl
@[simp] theorem State.setPsw_rails (k : Nat) (r : PswRt) : (s.setPsw k r).rails = s.rails := rfl
@[simp] theorem State.setPsw_loopSets (k : Nat) (r : PswRt) : (s.setPsw k r).loopSets = s.loopSets := rfl
@[simp] theorem State.setPsw_supplies (k : Nat) (r : PswRt) : (s.setPsw k r).supplies = s.supplies := rfl
@[simp] theorem State.setPsw_xfers (k : Nat) (r : PswRt) : (s.setPsw k r).xfers = s.xfers := rfl
@[simp] theorem State.setPsw_mppt (k : Nat) (r : PswRt) : (s.setPsw k r).mppt = s.mppt := rfl
@[simp] theorem State.setPsw_packs (k : Nat) (r : PswRt) : (s.setPsw k r).packs = s.packs := rfl
@[simp] theorem State.setPsw_cans (k : Nat) (r : PswRt) : (s.setPsw k r).cans = s.cans := rfl
@[simp] theorem State.setPsw_ports (k : Nat) (r : PswRt) : (s.setPsw k r).ports = s.ports := rfl
@[simp] theorem State.setPsw_glns (k : Nat) (r : PswRt) : (s.setPsw k r).glns = s.glns := rfl
@[simp] theorem State.setPsw_nvm (k : Nat) (r : PswRt) : (s.setPsw k r).nvm = s.nvm := rfl
@[simp] theorem State.setPsw_bb (k : Nat) (r : PswRt) : (s.setPsw k r).bb = s.bb := rfl
@[simp] theorem State.setPsw_fw (k : Nat) (r : PswRt) : (s.setPsw k r).fw = s.fw := rfl
@[simp] theorem State.setPsw_sys (k : Nat) (r : PswRt) : (s.setPsw k r).sys = s.sys := rfl
@[simp] theorem State.setPsw_pending (k : Nat) (r : PswRt) : (s.setPsw k r).pending = s.pending := rfl

@[simp] theorem State.setPack_cyc (k : Nat) (r : PackRt) : (s.setPack k r).cyc = s.cyc := rfl
@[simp] theorem State.setPack_free (k : Nat) (r : PackRt) : (s.setPack k r).free = s.free := rfl
@[simp] theorem State.setPack_regs (k : Nat) (r : PackRt) : (s.setPack k r).regs = s.regs := rfl
@[simp] theorem State.setPack_cycle (k : Nat) (r : PackRt) : (s.setPack k r).cycle = s.cycle := rfl
@[simp] theorem State.setPack_hiLatch (k : Nat) (r : PackRt) : (s.setPack k r).hiLatch = s.hiLatch := rfl
@[simp] theorem State.setPack_loStage (k : Nat) (r : PackRt) : (s.setPack k r).loStage = s.loStage := rfl
@[simp] theorem State.setPack_localWin (k : Nat) (r : PackRt) : (s.setPack k r).localWin = s.localWin := rfl
@[simp] theorem State.setPack_msixTable (k : Nat) (r : PackRt) : (s.setPack k r).msixTable = s.msixTable := rfl
@[simp] theorem State.setPack_msixPend (k : Nat) (r : PackRt) : (s.setPack k r).msixPend = s.msixPend := rfl
@[simp] theorem State.setPack_intDis (k : Nat) (r : PackRt) : (s.setPack k r).intDis = s.intDis := rfl
@[simp] theorem State.setPack_outbox (k : Nat) (r : PackRt) : (s.setPack k r).outbox = s.outbox := rfl
@[simp] theorem State.setPack_srcs (k : Nat) (r : PackRt) : (s.setPack k r).srcs = s.srcs := rfl
@[simp] theorem State.setPack_cplq (k : Nat) (r : PackRt) : (s.setPack k r).cplq = s.cplq := rfl
@[simp] theorem State.setPack_pairs (k : Nat) (r : PackRt) : (s.setPack k r).pairs = s.pairs := rfl
@[simp] theorem State.setPack_evLost (k : Nat) (r : PackRt) : (s.setPack k r).evLost = s.evLost := rfl
@[simp] theorem State.setPack_evLosing (k : Nat) (r : PackRt) : (s.setPack k r).evLosing = s.evLosing := rfl
@[simp] theorem State.setPack_rrLast (k : Nat) (r : PackRt) : (s.setPack k r).rrLast = s.rrLast := rfl
@[simp] theorem State.setPack_plan (k : Nat) (r : PackRt) : (s.setPack k r).plan = s.plan := rfl
@[simp] theorem State.setPack_planSeq (k : Nat) (r : PackRt) : (s.setPack k r).planSeq = s.planSeq := rfl
@[simp] theorem State.setPack_alloc (k : Nat) (r : PackRt) : (s.setPack k r).alloc = s.alloc := rfl
@[simp] theorem State.setPack_releasedA (k : Nat) (r : PackRt) : (s.setPack k r).releasedA = s.releasedA := rfl
@[simp] theorem State.setPack_releasedB (k : Nat) (r : PackRt) : (s.setPack k r).releasedB = s.releasedB := rfl
@[simp] theorem State.setPack_tick (k : Nat) (r : PackRt) : (s.setPack k r).tick = s.tick := rfl
@[simp] theorem State.setPack_trim (k : Nat) (r : PackRt) : (s.setPack k r).trim = s.trim := rfl
@[simp] theorem State.setPack_revalCause (k : Nat) (r : PackRt) : (s.setPack k r).revalCause = s.revalCause := rfl
@[simp] theorem State.setPack_revalAt (k : Nat) (r : PackRt) : (s.setPack k r).revalAt = s.revalAt := rfl
@[simp] theorem State.setPack_revalE (k : Nat) (r : PackRt) : (s.setPack k r).revalE = s.revalE := rfl
@[simp] theorem State.setPack_revalP (k : Nat) (r : PackRt) : (s.setPack k r).revalP = s.revalP := rfl
@[simp] theorem State.setPack_revalH (k : Nat) (r : PackRt) : (s.setPack k r).revalH = s.revalH := rfl
@[simp] theorem State.setPack_fab (k : Nat) (r : PackRt) : (s.setPack k r).fab = s.fab := rfl
@[simp] theorem State.setPack_fabCheck (k : Nat) (r : PackRt) : (s.setPack k r).fabCheck = s.fabCheck := rfl
@[simp] theorem State.setPack_hrw (k : Nat) (r : PackRt) : (s.setPack k r).hrw = s.hrw := rfl
@[simp] theorem State.setPack_raised (k : Nat) (r : PackRt) : (s.setPack k r).raised = s.raised := rfl
@[simp] theorem State.setPack_safeOn (k : Nat) (r : PackRt) : (s.setPack k r).safeOn = s.safeOn := rfl
@[simp] theorem State.setPack_releasing (k : Nat) (r : PackRt) : (s.setPack k r).releasing = s.releasing := rfl
@[simp] theorem State.setPack_coords (k : Nat) (r : PackRt) : (s.setPack k r).coords = s.coords := rfl
@[simp] theorem State.setPack_gpts (k : Nat) (r : PackRt) : (s.setPack k r).gpts = s.gpts := rfl
@[simp] theorem State.setPack_stages (k : Nat) (r : PackRt) : (s.setPack k r).stages = s.stages := rfl
@[simp] theorem State.setPack_rails (k : Nat) (r : PackRt) : (s.setPack k r).rails = s.rails := rfl
@[simp] theorem State.setPack_loopSets (k : Nat) (r : PackRt) : (s.setPack k r).loopSets = s.loopSets := rfl
@[simp] theorem State.setPack_supplies (k : Nat) (r : PackRt) : (s.setPack k r).supplies = s.supplies := rfl
@[simp] theorem State.setPack_xfers (k : Nat) (r : PackRt) : (s.setPack k r).xfers = s.xfers := rfl
@[simp] theorem State.setPack_psws (k : Nat) (r : PackRt) : (s.setPack k r).psws = s.psws := rfl
@[simp] theorem State.setPack_mppt (k : Nat) (r : PackRt) : (s.setPack k r).mppt = s.mppt := rfl
@[simp] theorem State.setPack_cans (k : Nat) (r : PackRt) : (s.setPack k r).cans = s.cans := rfl
@[simp] theorem State.setPack_ports (k : Nat) (r : PackRt) : (s.setPack k r).ports = s.ports := rfl
@[simp] theorem State.setPack_glns (k : Nat) (r : PackRt) : (s.setPack k r).glns = s.glns := rfl
@[simp] theorem State.setPack_nvm (k : Nat) (r : PackRt) : (s.setPack k r).nvm = s.nvm := rfl
@[simp] theorem State.setPack_bb (k : Nat) (r : PackRt) : (s.setPack k r).bb = s.bb := rfl
@[simp] theorem State.setPack_fw (k : Nat) (r : PackRt) : (s.setPack k r).fw = s.fw := rfl
@[simp] theorem State.setPack_sys (k : Nat) (r : PackRt) : (s.setPack k r).sys = s.sys := rfl
@[simp] theorem State.setPack_pending (k : Nat) (r : PackRt) : (s.setPack k r).pending = s.pending := rfl

@[simp] theorem State.setCan_cyc (k : Nat) (r : CanRt) : (s.setCan k r).cyc = s.cyc := rfl
@[simp] theorem State.setCan_free (k : Nat) (r : CanRt) : (s.setCan k r).free = s.free := rfl
@[simp] theorem State.setCan_regs (k : Nat) (r : CanRt) : (s.setCan k r).regs = s.regs := rfl
@[simp] theorem State.setCan_cycle (k : Nat) (r : CanRt) : (s.setCan k r).cycle = s.cycle := rfl
@[simp] theorem State.setCan_hiLatch (k : Nat) (r : CanRt) : (s.setCan k r).hiLatch = s.hiLatch := rfl
@[simp] theorem State.setCan_loStage (k : Nat) (r : CanRt) : (s.setCan k r).loStage = s.loStage := rfl
@[simp] theorem State.setCan_localWin (k : Nat) (r : CanRt) : (s.setCan k r).localWin = s.localWin := rfl
@[simp] theorem State.setCan_msixTable (k : Nat) (r : CanRt) : (s.setCan k r).msixTable = s.msixTable := rfl
@[simp] theorem State.setCan_msixPend (k : Nat) (r : CanRt) : (s.setCan k r).msixPend = s.msixPend := rfl
@[simp] theorem State.setCan_intDis (k : Nat) (r : CanRt) : (s.setCan k r).intDis = s.intDis := rfl
@[simp] theorem State.setCan_outbox (k : Nat) (r : CanRt) : (s.setCan k r).outbox = s.outbox := rfl
@[simp] theorem State.setCan_srcs (k : Nat) (r : CanRt) : (s.setCan k r).srcs = s.srcs := rfl
@[simp] theorem State.setCan_cplq (k : Nat) (r : CanRt) : (s.setCan k r).cplq = s.cplq := rfl
@[simp] theorem State.setCan_pairs (k : Nat) (r : CanRt) : (s.setCan k r).pairs = s.pairs := rfl
@[simp] theorem State.setCan_evLost (k : Nat) (r : CanRt) : (s.setCan k r).evLost = s.evLost := rfl
@[simp] theorem State.setCan_evLosing (k : Nat) (r : CanRt) : (s.setCan k r).evLosing = s.evLosing := rfl
@[simp] theorem State.setCan_rrLast (k : Nat) (r : CanRt) : (s.setCan k r).rrLast = s.rrLast := rfl
@[simp] theorem State.setCan_plan (k : Nat) (r : CanRt) : (s.setCan k r).plan = s.plan := rfl
@[simp] theorem State.setCan_planSeq (k : Nat) (r : CanRt) : (s.setCan k r).planSeq = s.planSeq := rfl
@[simp] theorem State.setCan_alloc (k : Nat) (r : CanRt) : (s.setCan k r).alloc = s.alloc := rfl
@[simp] theorem State.setCan_releasedA (k : Nat) (r : CanRt) : (s.setCan k r).releasedA = s.releasedA := rfl
@[simp] theorem State.setCan_releasedB (k : Nat) (r : CanRt) : (s.setCan k r).releasedB = s.releasedB := rfl
@[simp] theorem State.setCan_tick (k : Nat) (r : CanRt) : (s.setCan k r).tick = s.tick := rfl
@[simp] theorem State.setCan_trim (k : Nat) (r : CanRt) : (s.setCan k r).trim = s.trim := rfl
@[simp] theorem State.setCan_revalCause (k : Nat) (r : CanRt) : (s.setCan k r).revalCause = s.revalCause := rfl
@[simp] theorem State.setCan_revalAt (k : Nat) (r : CanRt) : (s.setCan k r).revalAt = s.revalAt := rfl
@[simp] theorem State.setCan_revalE (k : Nat) (r : CanRt) : (s.setCan k r).revalE = s.revalE := rfl
@[simp] theorem State.setCan_revalP (k : Nat) (r : CanRt) : (s.setCan k r).revalP = s.revalP := rfl
@[simp] theorem State.setCan_revalH (k : Nat) (r : CanRt) : (s.setCan k r).revalH = s.revalH := rfl
@[simp] theorem State.setCan_fab (k : Nat) (r : CanRt) : (s.setCan k r).fab = s.fab := rfl
@[simp] theorem State.setCan_fabCheck (k : Nat) (r : CanRt) : (s.setCan k r).fabCheck = s.fabCheck := rfl
@[simp] theorem State.setCan_hrw (k : Nat) (r : CanRt) : (s.setCan k r).hrw = s.hrw := rfl
@[simp] theorem State.setCan_raised (k : Nat) (r : CanRt) : (s.setCan k r).raised = s.raised := rfl
@[simp] theorem State.setCan_safeOn (k : Nat) (r : CanRt) : (s.setCan k r).safeOn = s.safeOn := rfl
@[simp] theorem State.setCan_releasing (k : Nat) (r : CanRt) : (s.setCan k r).releasing = s.releasing := rfl
@[simp] theorem State.setCan_coords (k : Nat) (r : CanRt) : (s.setCan k r).coords = s.coords := rfl
@[simp] theorem State.setCan_gpts (k : Nat) (r : CanRt) : (s.setCan k r).gpts = s.gpts := rfl
@[simp] theorem State.setCan_stages (k : Nat) (r : CanRt) : (s.setCan k r).stages = s.stages := rfl
@[simp] theorem State.setCan_rails (k : Nat) (r : CanRt) : (s.setCan k r).rails = s.rails := rfl
@[simp] theorem State.setCan_loopSets (k : Nat) (r : CanRt) : (s.setCan k r).loopSets = s.loopSets := rfl
@[simp] theorem State.setCan_supplies (k : Nat) (r : CanRt) : (s.setCan k r).supplies = s.supplies := rfl
@[simp] theorem State.setCan_xfers (k : Nat) (r : CanRt) : (s.setCan k r).xfers = s.xfers := rfl
@[simp] theorem State.setCan_psws (k : Nat) (r : CanRt) : (s.setCan k r).psws = s.psws := rfl
@[simp] theorem State.setCan_mppt (k : Nat) (r : CanRt) : (s.setCan k r).mppt = s.mppt := rfl
@[simp] theorem State.setCan_packs (k : Nat) (r : CanRt) : (s.setCan k r).packs = s.packs := rfl
@[simp] theorem State.setCan_ports (k : Nat) (r : CanRt) : (s.setCan k r).ports = s.ports := rfl
@[simp] theorem State.setCan_glns (k : Nat) (r : CanRt) : (s.setCan k r).glns = s.glns := rfl
@[simp] theorem State.setCan_nvm (k : Nat) (r : CanRt) : (s.setCan k r).nvm = s.nvm := rfl
@[simp] theorem State.setCan_bb (k : Nat) (r : CanRt) : (s.setCan k r).bb = s.bb := rfl
@[simp] theorem State.setCan_fw (k : Nat) (r : CanRt) : (s.setCan k r).fw = s.fw := rfl
@[simp] theorem State.setCan_sys (k : Nat) (r : CanRt) : (s.setCan k r).sys = s.sys := rfl
@[simp] theorem State.setCan_pending (k : Nat) (r : CanRt) : (s.setCan k r).pending = s.pending := rfl

@[simp] theorem State.setPort_cyc (k : Nat) (r : PortRt) : (s.setPort k r).cyc = s.cyc := rfl
@[simp] theorem State.setPort_free (k : Nat) (r : PortRt) : (s.setPort k r).free = s.free := rfl
@[simp] theorem State.setPort_regs (k : Nat) (r : PortRt) : (s.setPort k r).regs = s.regs := rfl
@[simp] theorem State.setPort_cycle (k : Nat) (r : PortRt) : (s.setPort k r).cycle = s.cycle := rfl
@[simp] theorem State.setPort_hiLatch (k : Nat) (r : PortRt) : (s.setPort k r).hiLatch = s.hiLatch := rfl
@[simp] theorem State.setPort_loStage (k : Nat) (r : PortRt) : (s.setPort k r).loStage = s.loStage := rfl
@[simp] theorem State.setPort_localWin (k : Nat) (r : PortRt) : (s.setPort k r).localWin = s.localWin := rfl
@[simp] theorem State.setPort_msixTable (k : Nat) (r : PortRt) : (s.setPort k r).msixTable = s.msixTable := rfl
@[simp] theorem State.setPort_msixPend (k : Nat) (r : PortRt) : (s.setPort k r).msixPend = s.msixPend := rfl
@[simp] theorem State.setPort_intDis (k : Nat) (r : PortRt) : (s.setPort k r).intDis = s.intDis := rfl
@[simp] theorem State.setPort_outbox (k : Nat) (r : PortRt) : (s.setPort k r).outbox = s.outbox := rfl
@[simp] theorem State.setPort_srcs (k : Nat) (r : PortRt) : (s.setPort k r).srcs = s.srcs := rfl
@[simp] theorem State.setPort_cplq (k : Nat) (r : PortRt) : (s.setPort k r).cplq = s.cplq := rfl
@[simp] theorem State.setPort_pairs (k : Nat) (r : PortRt) : (s.setPort k r).pairs = s.pairs := rfl
@[simp] theorem State.setPort_evLost (k : Nat) (r : PortRt) : (s.setPort k r).evLost = s.evLost := rfl
@[simp] theorem State.setPort_evLosing (k : Nat) (r : PortRt) : (s.setPort k r).evLosing = s.evLosing := rfl
@[simp] theorem State.setPort_rrLast (k : Nat) (r : PortRt) : (s.setPort k r).rrLast = s.rrLast := rfl
@[simp] theorem State.setPort_plan (k : Nat) (r : PortRt) : (s.setPort k r).plan = s.plan := rfl
@[simp] theorem State.setPort_planSeq (k : Nat) (r : PortRt) : (s.setPort k r).planSeq = s.planSeq := rfl
@[simp] theorem State.setPort_alloc (k : Nat) (r : PortRt) : (s.setPort k r).alloc = s.alloc := rfl
@[simp] theorem State.setPort_releasedA (k : Nat) (r : PortRt) : (s.setPort k r).releasedA = s.releasedA := rfl
@[simp] theorem State.setPort_releasedB (k : Nat) (r : PortRt) : (s.setPort k r).releasedB = s.releasedB := rfl
@[simp] theorem State.setPort_tick (k : Nat) (r : PortRt) : (s.setPort k r).tick = s.tick := rfl
@[simp] theorem State.setPort_trim (k : Nat) (r : PortRt) : (s.setPort k r).trim = s.trim := rfl
@[simp] theorem State.setPort_revalCause (k : Nat) (r : PortRt) : (s.setPort k r).revalCause = s.revalCause := rfl
@[simp] theorem State.setPort_revalAt (k : Nat) (r : PortRt) : (s.setPort k r).revalAt = s.revalAt := rfl
@[simp] theorem State.setPort_revalE (k : Nat) (r : PortRt) : (s.setPort k r).revalE = s.revalE := rfl
@[simp] theorem State.setPort_revalP (k : Nat) (r : PortRt) : (s.setPort k r).revalP = s.revalP := rfl
@[simp] theorem State.setPort_revalH (k : Nat) (r : PortRt) : (s.setPort k r).revalH = s.revalH := rfl
@[simp] theorem State.setPort_fab (k : Nat) (r : PortRt) : (s.setPort k r).fab = s.fab := rfl
@[simp] theorem State.setPort_fabCheck (k : Nat) (r : PortRt) : (s.setPort k r).fabCheck = s.fabCheck := rfl
@[simp] theorem State.setPort_hrw (k : Nat) (r : PortRt) : (s.setPort k r).hrw = s.hrw := rfl
@[simp] theorem State.setPort_raised (k : Nat) (r : PortRt) : (s.setPort k r).raised = s.raised := rfl
@[simp] theorem State.setPort_safeOn (k : Nat) (r : PortRt) : (s.setPort k r).safeOn = s.safeOn := rfl
@[simp] theorem State.setPort_releasing (k : Nat) (r : PortRt) : (s.setPort k r).releasing = s.releasing := rfl
@[simp] theorem State.setPort_coords (k : Nat) (r : PortRt) : (s.setPort k r).coords = s.coords := rfl
@[simp] theorem State.setPort_gpts (k : Nat) (r : PortRt) : (s.setPort k r).gpts = s.gpts := rfl
@[simp] theorem State.setPort_stages (k : Nat) (r : PortRt) : (s.setPort k r).stages = s.stages := rfl
@[simp] theorem State.setPort_rails (k : Nat) (r : PortRt) : (s.setPort k r).rails = s.rails := rfl
@[simp] theorem State.setPort_loopSets (k : Nat) (r : PortRt) : (s.setPort k r).loopSets = s.loopSets := rfl
@[simp] theorem State.setPort_supplies (k : Nat) (r : PortRt) : (s.setPort k r).supplies = s.supplies := rfl
@[simp] theorem State.setPort_xfers (k : Nat) (r : PortRt) : (s.setPort k r).xfers = s.xfers := rfl
@[simp] theorem State.setPort_psws (k : Nat) (r : PortRt) : (s.setPort k r).psws = s.psws := rfl
@[simp] theorem State.setPort_mppt (k : Nat) (r : PortRt) : (s.setPort k r).mppt = s.mppt := rfl
@[simp] theorem State.setPort_packs (k : Nat) (r : PortRt) : (s.setPort k r).packs = s.packs := rfl
@[simp] theorem State.setPort_cans (k : Nat) (r : PortRt) : (s.setPort k r).cans = s.cans := rfl
@[simp] theorem State.setPort_glns (k : Nat) (r : PortRt) : (s.setPort k r).glns = s.glns := rfl
@[simp] theorem State.setPort_nvm (k : Nat) (r : PortRt) : (s.setPort k r).nvm = s.nvm := rfl
@[simp] theorem State.setPort_bb (k : Nat) (r : PortRt) : (s.setPort k r).bb = s.bb := rfl
@[simp] theorem State.setPort_fw (k : Nat) (r : PortRt) : (s.setPort k r).fw = s.fw := rfl
@[simp] theorem State.setPort_sys (k : Nat) (r : PortRt) : (s.setPort k r).sys = s.sys := rfl
@[simp] theorem State.setPort_pending (k : Nat) (r : PortRt) : (s.setPort k r).pending = s.pending := rfl

@[simp] theorem State.setGln_cyc (k : Nat) (r : GlnRt) : (s.setGln k r).cyc = s.cyc := rfl
@[simp] theorem State.setGln_free (k : Nat) (r : GlnRt) : (s.setGln k r).free = s.free := rfl
@[simp] theorem State.setGln_regs (k : Nat) (r : GlnRt) : (s.setGln k r).regs = s.regs := rfl
@[simp] theorem State.setGln_cycle (k : Nat) (r : GlnRt) : (s.setGln k r).cycle = s.cycle := rfl
@[simp] theorem State.setGln_hiLatch (k : Nat) (r : GlnRt) : (s.setGln k r).hiLatch = s.hiLatch := rfl
@[simp] theorem State.setGln_loStage (k : Nat) (r : GlnRt) : (s.setGln k r).loStage = s.loStage := rfl
@[simp] theorem State.setGln_localWin (k : Nat) (r : GlnRt) : (s.setGln k r).localWin = s.localWin := rfl
@[simp] theorem State.setGln_msixTable (k : Nat) (r : GlnRt) : (s.setGln k r).msixTable = s.msixTable := rfl
@[simp] theorem State.setGln_msixPend (k : Nat) (r : GlnRt) : (s.setGln k r).msixPend = s.msixPend := rfl
@[simp] theorem State.setGln_intDis (k : Nat) (r : GlnRt) : (s.setGln k r).intDis = s.intDis := rfl
@[simp] theorem State.setGln_outbox (k : Nat) (r : GlnRt) : (s.setGln k r).outbox = s.outbox := rfl
@[simp] theorem State.setGln_srcs (k : Nat) (r : GlnRt) : (s.setGln k r).srcs = s.srcs := rfl
@[simp] theorem State.setGln_cplq (k : Nat) (r : GlnRt) : (s.setGln k r).cplq = s.cplq := rfl
@[simp] theorem State.setGln_pairs (k : Nat) (r : GlnRt) : (s.setGln k r).pairs = s.pairs := rfl
@[simp] theorem State.setGln_evLost (k : Nat) (r : GlnRt) : (s.setGln k r).evLost = s.evLost := rfl
@[simp] theorem State.setGln_evLosing (k : Nat) (r : GlnRt) : (s.setGln k r).evLosing = s.evLosing := rfl
@[simp] theorem State.setGln_rrLast (k : Nat) (r : GlnRt) : (s.setGln k r).rrLast = s.rrLast := rfl
@[simp] theorem State.setGln_plan (k : Nat) (r : GlnRt) : (s.setGln k r).plan = s.plan := rfl
@[simp] theorem State.setGln_planSeq (k : Nat) (r : GlnRt) : (s.setGln k r).planSeq = s.planSeq := rfl
@[simp] theorem State.setGln_alloc (k : Nat) (r : GlnRt) : (s.setGln k r).alloc = s.alloc := rfl
@[simp] theorem State.setGln_releasedA (k : Nat) (r : GlnRt) : (s.setGln k r).releasedA = s.releasedA := rfl
@[simp] theorem State.setGln_releasedB (k : Nat) (r : GlnRt) : (s.setGln k r).releasedB = s.releasedB := rfl
@[simp] theorem State.setGln_tick (k : Nat) (r : GlnRt) : (s.setGln k r).tick = s.tick := rfl
@[simp] theorem State.setGln_trim (k : Nat) (r : GlnRt) : (s.setGln k r).trim = s.trim := rfl
@[simp] theorem State.setGln_revalCause (k : Nat) (r : GlnRt) : (s.setGln k r).revalCause = s.revalCause := rfl
@[simp] theorem State.setGln_revalAt (k : Nat) (r : GlnRt) : (s.setGln k r).revalAt = s.revalAt := rfl
@[simp] theorem State.setGln_revalE (k : Nat) (r : GlnRt) : (s.setGln k r).revalE = s.revalE := rfl
@[simp] theorem State.setGln_revalP (k : Nat) (r : GlnRt) : (s.setGln k r).revalP = s.revalP := rfl
@[simp] theorem State.setGln_revalH (k : Nat) (r : GlnRt) : (s.setGln k r).revalH = s.revalH := rfl
@[simp] theorem State.setGln_fab (k : Nat) (r : GlnRt) : (s.setGln k r).fab = s.fab := rfl
@[simp] theorem State.setGln_fabCheck (k : Nat) (r : GlnRt) : (s.setGln k r).fabCheck = s.fabCheck := rfl
@[simp] theorem State.setGln_hrw (k : Nat) (r : GlnRt) : (s.setGln k r).hrw = s.hrw := rfl
@[simp] theorem State.setGln_raised (k : Nat) (r : GlnRt) : (s.setGln k r).raised = s.raised := rfl
@[simp] theorem State.setGln_safeOn (k : Nat) (r : GlnRt) : (s.setGln k r).safeOn = s.safeOn := rfl
@[simp] theorem State.setGln_releasing (k : Nat) (r : GlnRt) : (s.setGln k r).releasing = s.releasing := rfl
@[simp] theorem State.setGln_coords (k : Nat) (r : GlnRt) : (s.setGln k r).coords = s.coords := rfl
@[simp] theorem State.setGln_gpts (k : Nat) (r : GlnRt) : (s.setGln k r).gpts = s.gpts := rfl
@[simp] theorem State.setGln_stages (k : Nat) (r : GlnRt) : (s.setGln k r).stages = s.stages := rfl
@[simp] theorem State.setGln_rails (k : Nat) (r : GlnRt) : (s.setGln k r).rails = s.rails := rfl
@[simp] theorem State.setGln_loopSets (k : Nat) (r : GlnRt) : (s.setGln k r).loopSets = s.loopSets := rfl
@[simp] theorem State.setGln_supplies (k : Nat) (r : GlnRt) : (s.setGln k r).supplies = s.supplies := rfl
@[simp] theorem State.setGln_xfers (k : Nat) (r : GlnRt) : (s.setGln k r).xfers = s.xfers := rfl
@[simp] theorem State.setGln_psws (k : Nat) (r : GlnRt) : (s.setGln k r).psws = s.psws := rfl
@[simp] theorem State.setGln_mppt (k : Nat) (r : GlnRt) : (s.setGln k r).mppt = s.mppt := rfl
@[simp] theorem State.setGln_packs (k : Nat) (r : GlnRt) : (s.setGln k r).packs = s.packs := rfl
@[simp] theorem State.setGln_cans (k : Nat) (r : GlnRt) : (s.setGln k r).cans = s.cans := rfl
@[simp] theorem State.setGln_ports (k : Nat) (r : GlnRt) : (s.setGln k r).ports = s.ports := rfl
@[simp] theorem State.setGln_nvm (k : Nat) (r : GlnRt) : (s.setGln k r).nvm = s.nvm := rfl
@[simp] theorem State.setGln_bb (k : Nat) (r : GlnRt) : (s.setGln k r).bb = s.bb := rfl
@[simp] theorem State.setGln_fw (k : Nat) (r : GlnRt) : (s.setGln k r).fw = s.fw := rfl
@[simp] theorem State.setGln_sys (k : Nat) (r : GlnRt) : (s.setGln k r).sys = s.sys := rfl
@[simp] theorem State.setGln_pending (k : Nat) (r : GlnRt) : (s.setGln k r).pending = s.pending := rfl

/-! Readings of a part after an update of another. -/

@[simp] theorem State.wr_winGet_of (o : Nat) (v : Word) (q : Nat) : (s.wr o v).winGet q = s.winGet q := rfl
@[simp] theorem State.wr_nvmByte_of (o : Nat) (v : Word) (q : Nat) : (s.wr o v).nvmByte q = s.nvmByte q := rfl
@[simp] theorem State.wr_nvmGroup_of (o : Nat) (v : Word) (q : Nat) : (s.wr o v).nvmGroup q = s.nvmGroup q := rfl
@[simp] theorem State.wr_counter_of (o : Nat) (v : Word) (q : Nat) : (s.wr o v).counter q = s.counter q := rfl
@[simp] theorem State.wr_hrwInst_of (o : Nat) (v : Word) (q y : Nat) : (s.wr o v).hrwInst q y = s.hrwInst q y := rfl
@[simp] theorem State.wr_us_of (o : Nat) (v : Word) : (s.wr o v).us = s.us := rfl
@[simp] theorem State.wr_srcRt_of (o : Nat) (v : Word) (q : Nat) : (s.wr o v).srcRt q = s.srcRt q := rfl
@[simp] theorem State.wr_pair_of (o : Nat) (v : Word) (q : Nat) : (s.wr o v).pair q = s.pair q := rfl
@[simp] theorem State.wr_coord_of (o : Nat) (v : Word) (q : Nat) : (s.wr o v).coord q = s.coord q := rfl
@[simp] theorem State.wr_gpt_of (o : Nat) (v : Word) (q : Nat) : (s.wr o v).gpt q = s.gpt q := rfl
@[simp] theorem State.wr_stage_of (o : Nat) (v : Word) (q : Nat) : (s.wr o v).stage q = s.stage q := rfl
@[simp] theorem State.wr_rail_of (o : Nat) (v : Word) (q : Nat) : (s.wr o v).rail q = s.rail q := rfl
@[simp] theorem State.wr_supply_of (o : Nat) (v : Word) (q : Nat) : (s.wr o v).supply q = s.supply q := rfl
@[simp] theorem State.wr_xfer_of (o : Nat) (v : Word) (q : Nat) : (s.wr o v).xfer q = s.xfer q := rfl
@[simp] theorem State.wr_psw_of (o : Nat) (v : Word) (q : Nat) : (s.wr o v).psw q = s.psw q := rfl
@[simp] theorem State.wr_pack_of (o : Nat) (v : Word) (q : Nat) : (s.wr o v).pack q = s.pack q := rfl
@[simp] theorem State.wr_can_of (o : Nat) (v : Word) (q : Nat) : (s.wr o v).can q = s.can q := rfl
@[simp] theorem State.wr_port_of (o : Nat) (v : Word) (q : Nat) : (s.wr o v).port q = s.port q := rfl
@[simp] theorem State.wr_gln_of (o : Nat) (v : Word) (q : Nat) : (s.wr o v).gln q = s.gln q := rfl

@[simp] theorem State.setF_winGet_of (o : Nat) (g : Fld) (v : Nat) (q : Nat) : (s.setF o g v).winGet q = s.winGet q := rfl
@[simp] theorem State.setF_nvmByte_of (o : Nat) (g : Fld) (v : Nat) (q : Nat) : (s.setF o g v).nvmByte q = s.nvmByte q := rfl
@[simp] theorem State.setF_nvmGroup_of (o : Nat) (g : Fld) (v : Nat) (q : Nat) : (s.setF o g v).nvmGroup q = s.nvmGroup q := rfl
@[simp] theorem State.setF_counter_of (o : Nat) (g : Fld) (v : Nat) (q : Nat) : (s.setF o g v).counter q = s.counter q := rfl
@[simp] theorem State.setF_hrwInst_of (o : Nat) (g : Fld) (v : Nat) (q y : Nat) : (s.setF o g v).hrwInst q y = s.hrwInst q y := rfl
@[simp] theorem State.setF_us_of (o : Nat) (g : Fld) (v : Nat) : (s.setF o g v).us = s.us := rfl
@[simp] theorem State.setF_srcRt_of (o : Nat) (g : Fld) (v : Nat) (q : Nat) : (s.setF o g v).srcRt q = s.srcRt q := rfl
@[simp] theorem State.setF_pair_of (o : Nat) (g : Fld) (v : Nat) (q : Nat) : (s.setF o g v).pair q = s.pair q := rfl
@[simp] theorem State.setF_coord_of (o : Nat) (g : Fld) (v : Nat) (q : Nat) : (s.setF o g v).coord q = s.coord q := rfl
@[simp] theorem State.setF_gpt_of (o : Nat) (g : Fld) (v : Nat) (q : Nat) : (s.setF o g v).gpt q = s.gpt q := rfl
@[simp] theorem State.setF_stage_of (o : Nat) (g : Fld) (v : Nat) (q : Nat) : (s.setF o g v).stage q = s.stage q := rfl
@[simp] theorem State.setF_rail_of (o : Nat) (g : Fld) (v : Nat) (q : Nat) : (s.setF o g v).rail q = s.rail q := rfl
@[simp] theorem State.setF_supply_of (o : Nat) (g : Fld) (v : Nat) (q : Nat) : (s.setF o g v).supply q = s.supply q := rfl
@[simp] theorem State.setF_xfer_of (o : Nat) (g : Fld) (v : Nat) (q : Nat) : (s.setF o g v).xfer q = s.xfer q := rfl
@[simp] theorem State.setF_psw_of (o : Nat) (g : Fld) (v : Nat) (q : Nat) : (s.setF o g v).psw q = s.psw q := rfl
@[simp] theorem State.setF_pack_of (o : Nat) (g : Fld) (v : Nat) (q : Nat) : (s.setF o g v).pack q = s.pack q := rfl
@[simp] theorem State.setF_can_of (o : Nat) (g : Fld) (v : Nat) (q : Nat) : (s.setF o g v).can q = s.can q := rfl
@[simp] theorem State.setF_port_of (o : Nat) (g : Fld) (v : Nat) (q : Nat) : (s.setF o g v).port q = s.port q := rfl
@[simp] theorem State.setF_gln_of (o : Nat) (g : Fld) (v : Nat) (q : Nat) : (s.setF o g v).gln q = s.gln q := rfl

@[simp] theorem State.wrN_winGet_of (o v : Nat) (q : Nat) : (s.wrN o v).winGet q = s.winGet q := rfl
@[simp] theorem State.wrN_nvmByte_of (o v : Nat) (q : Nat) : (s.wrN o v).nvmByte q = s.nvmByte q := rfl
@[simp] theorem State.wrN_nvmGroup_of (o v : Nat) (q : Nat) : (s.wrN o v).nvmGroup q = s.nvmGroup q := rfl
@[simp] theorem State.wrN_counter_of (o v : Nat) (q : Nat) : (s.wrN o v).counter q = s.counter q := rfl
@[simp] theorem State.wrN_hrwInst_of (o v : Nat) (q y : Nat) : (s.wrN o v).hrwInst q y = s.hrwInst q y := rfl
@[simp] theorem State.wrN_us_of (o v : Nat) : (s.wrN o v).us = s.us := rfl
@[simp] theorem State.wrN_srcRt_of (o v : Nat) (q : Nat) : (s.wrN o v).srcRt q = s.srcRt q := rfl
@[simp] theorem State.wrN_pair_of (o v : Nat) (q : Nat) : (s.wrN o v).pair q = s.pair q := rfl
@[simp] theorem State.wrN_coord_of (o v : Nat) (q : Nat) : (s.wrN o v).coord q = s.coord q := rfl
@[simp] theorem State.wrN_gpt_of (o v : Nat) (q : Nat) : (s.wrN o v).gpt q = s.gpt q := rfl
@[simp] theorem State.wrN_stage_of (o v : Nat) (q : Nat) : (s.wrN o v).stage q = s.stage q := rfl
@[simp] theorem State.wrN_rail_of (o v : Nat) (q : Nat) : (s.wrN o v).rail q = s.rail q := rfl
@[simp] theorem State.wrN_supply_of (o v : Nat) (q : Nat) : (s.wrN o v).supply q = s.supply q := rfl
@[simp] theorem State.wrN_xfer_of (o v : Nat) (q : Nat) : (s.wrN o v).xfer q = s.xfer q := rfl
@[simp] theorem State.wrN_psw_of (o v : Nat) (q : Nat) : (s.wrN o v).psw q = s.psw q := rfl
@[simp] theorem State.wrN_pack_of (o v : Nat) (q : Nat) : (s.wrN o v).pack q = s.pack q := rfl
@[simp] theorem State.wrN_can_of (o v : Nat) (q : Nat) : (s.wrN o v).can q = s.can q := rfl
@[simp] theorem State.wrN_port_of (o v : Nat) (q : Nat) : (s.wrN o v).port q = s.port q := rfl
@[simp] theorem State.wrN_gln_of (o v : Nat) (q : Nat) : (s.wrN o v).gln q = s.gln q := rfl

@[simp] theorem State.wr64_winGet_of (a b v : Nat) (q : Nat) : (s.wr64 a b v).winGet q = s.winGet q := rfl
@[simp] theorem State.wr64_nvmByte_of (a b v : Nat) (q : Nat) : (s.wr64 a b v).nvmByte q = s.nvmByte q := rfl
@[simp] theorem State.wr64_nvmGroup_of (a b v : Nat) (q : Nat) : (s.wr64 a b v).nvmGroup q = s.nvmGroup q := rfl
@[simp] theorem State.wr64_counter_of (a b v : Nat) (q : Nat) : (s.wr64 a b v).counter q = s.counter q := rfl
@[simp] theorem State.wr64_hrwInst_of (a b v : Nat) (q y : Nat) : (s.wr64 a b v).hrwInst q y = s.hrwInst q y := rfl
@[simp] theorem State.wr64_us_of (a b v : Nat) : (s.wr64 a b v).us = s.us := rfl
@[simp] theorem State.wr64_srcRt_of (a b v : Nat) (q : Nat) : (s.wr64 a b v).srcRt q = s.srcRt q := rfl
@[simp] theorem State.wr64_pair_of (a b v : Nat) (q : Nat) : (s.wr64 a b v).pair q = s.pair q := rfl
@[simp] theorem State.wr64_coord_of (a b v : Nat) (q : Nat) : (s.wr64 a b v).coord q = s.coord q := rfl
@[simp] theorem State.wr64_gpt_of (a b v : Nat) (q : Nat) : (s.wr64 a b v).gpt q = s.gpt q := rfl
@[simp] theorem State.wr64_stage_of (a b v : Nat) (q : Nat) : (s.wr64 a b v).stage q = s.stage q := rfl
@[simp] theorem State.wr64_rail_of (a b v : Nat) (q : Nat) : (s.wr64 a b v).rail q = s.rail q := rfl
@[simp] theorem State.wr64_supply_of (a b v : Nat) (q : Nat) : (s.wr64 a b v).supply q = s.supply q := rfl
@[simp] theorem State.wr64_xfer_of (a b v : Nat) (q : Nat) : (s.wr64 a b v).xfer q = s.xfer q := rfl
@[simp] theorem State.wr64_psw_of (a b v : Nat) (q : Nat) : (s.wr64 a b v).psw q = s.psw q := rfl
@[simp] theorem State.wr64_pack_of (a b v : Nat) (q : Nat) : (s.wr64 a b v).pack q = s.pack q := rfl
@[simp] theorem State.wr64_can_of (a b v : Nat) (q : Nat) : (s.wr64 a b v).can q = s.can q := rfl
@[simp] theorem State.wr64_port_of (a b v : Nat) (q : Nat) : (s.wr64 a b v).port q = s.port q := rfl
@[simp] theorem State.wr64_gln_of (a b v : Nat) (q : Nat) : (s.wr64 a b v).gln q = s.gln q := rfl

@[simp] theorem State.addF_winGet_of (o : Nat) (g : Fld) (k : Nat) (q : Nat) : (s.addF o g k).winGet q = s.winGet q := rfl
@[simp] theorem State.addF_nvmByte_of (o : Nat) (g : Fld) (k : Nat) (q : Nat) : (s.addF o g k).nvmByte q = s.nvmByte q := rfl
@[simp] theorem State.addF_nvmGroup_of (o : Nat) (g : Fld) (k : Nat) (q : Nat) : (s.addF o g k).nvmGroup q = s.nvmGroup q := rfl
@[simp] theorem State.addF_counter_of (o : Nat) (g : Fld) (k : Nat) (q : Nat) : (s.addF o g k).counter q = s.counter q := rfl
@[simp] theorem State.addF_hrwInst_of (o : Nat) (g : Fld) (k : Nat) (q y : Nat) : (s.addF o g k).hrwInst q y = s.hrwInst q y := rfl
@[simp] theorem State.addF_us_of (o : Nat) (g : Fld) (k : Nat) : (s.addF o g k).us = s.us := rfl
@[simp] theorem State.addF_srcRt_of (o : Nat) (g : Fld) (k : Nat) (q : Nat) : (s.addF o g k).srcRt q = s.srcRt q := rfl
@[simp] theorem State.addF_pair_of (o : Nat) (g : Fld) (k : Nat) (q : Nat) : (s.addF o g k).pair q = s.pair q := rfl
@[simp] theorem State.addF_coord_of (o : Nat) (g : Fld) (k : Nat) (q : Nat) : (s.addF o g k).coord q = s.coord q := rfl
@[simp] theorem State.addF_gpt_of (o : Nat) (g : Fld) (k : Nat) (q : Nat) : (s.addF o g k).gpt q = s.gpt q := rfl
@[simp] theorem State.addF_stage_of (o : Nat) (g : Fld) (k : Nat) (q : Nat) : (s.addF o g k).stage q = s.stage q := rfl
@[simp] theorem State.addF_rail_of (o : Nat) (g : Fld) (k : Nat) (q : Nat) : (s.addF o g k).rail q = s.rail q := rfl
@[simp] theorem State.addF_supply_of (o : Nat) (g : Fld) (k : Nat) (q : Nat) : (s.addF o g k).supply q = s.supply q := rfl
@[simp] theorem State.addF_xfer_of (o : Nat) (g : Fld) (k : Nat) (q : Nat) : (s.addF o g k).xfer q = s.xfer q := rfl
@[simp] theorem State.addF_psw_of (o : Nat) (g : Fld) (k : Nat) (q : Nat) : (s.addF o g k).psw q = s.psw q := rfl
@[simp] theorem State.addF_pack_of (o : Nat) (g : Fld) (k : Nat) (q : Nat) : (s.addF o g k).pack q = s.pack q := rfl
@[simp] theorem State.addF_can_of (o : Nat) (g : Fld) (k : Nat) (q : Nat) : (s.addF o g k).can q = s.can q := rfl
@[simp] theorem State.addF_port_of (o : Nat) (g : Fld) (k : Nat) (q : Nat) : (s.addF o g k).port q = s.port q := rfl
@[simp] theorem State.addF_gln_of (o : Nat) (g : Fld) (k : Nat) (q : Nat) : (s.addF o g k).gln q = s.gln q := rfl

@[simp] theorem State.hwSet_winGet_of (o : Nat) (g : Fld) (v : Nat) (q : Nat) : (s.hwSet o g v).winGet q = s.winGet q := rfl
@[simp] theorem State.hwSet_nvmByte_of (o : Nat) (g : Fld) (v : Nat) (q : Nat) : (s.hwSet o g v).nvmByte q = s.nvmByte q := rfl
@[simp] theorem State.hwSet_nvmGroup_of (o : Nat) (g : Fld) (v : Nat) (q : Nat) : (s.hwSet o g v).nvmGroup q = s.nvmGroup q := rfl
@[simp] theorem State.hwSet_counter_of (o : Nat) (g : Fld) (v : Nat) (q : Nat) : (s.hwSet o g v).counter q = s.counter q := rfl
@[simp] theorem State.hwSet_hrwInst_of (o : Nat) (g : Fld) (v : Nat) (q y : Nat) : (s.hwSet o g v).hrwInst q y = s.hrwInst q y := rfl
@[simp] theorem State.hwSet_us_of (o : Nat) (g : Fld) (v : Nat) : (s.hwSet o g v).us = s.us := rfl
@[simp] theorem State.hwSet_srcRt_of (o : Nat) (g : Fld) (v : Nat) (q : Nat) : (s.hwSet o g v).srcRt q = s.srcRt q := rfl
@[simp] theorem State.hwSet_pair_of (o : Nat) (g : Fld) (v : Nat) (q : Nat) : (s.hwSet o g v).pair q = s.pair q := rfl
@[simp] theorem State.hwSet_coord_of (o : Nat) (g : Fld) (v : Nat) (q : Nat) : (s.hwSet o g v).coord q = s.coord q := rfl
@[simp] theorem State.hwSet_gpt_of (o : Nat) (g : Fld) (v : Nat) (q : Nat) : (s.hwSet o g v).gpt q = s.gpt q := rfl
@[simp] theorem State.hwSet_stage_of (o : Nat) (g : Fld) (v : Nat) (q : Nat) : (s.hwSet o g v).stage q = s.stage q := rfl
@[simp] theorem State.hwSet_rail_of (o : Nat) (g : Fld) (v : Nat) (q : Nat) : (s.hwSet o g v).rail q = s.rail q := rfl
@[simp] theorem State.hwSet_supply_of (o : Nat) (g : Fld) (v : Nat) (q : Nat) : (s.hwSet o g v).supply q = s.supply q := rfl
@[simp] theorem State.hwSet_xfer_of (o : Nat) (g : Fld) (v : Nat) (q : Nat) : (s.hwSet o g v).xfer q = s.xfer q := rfl
@[simp] theorem State.hwSet_psw_of (o : Nat) (g : Fld) (v : Nat) (q : Nat) : (s.hwSet o g v).psw q = s.psw q := rfl
@[simp] theorem State.hwSet_pack_of (o : Nat) (g : Fld) (v : Nat) (q : Nat) : (s.hwSet o g v).pack q = s.pack q := rfl
@[simp] theorem State.hwSet_can_of (o : Nat) (g : Fld) (v : Nat) (q : Nat) : (s.hwSet o g v).can q = s.can q := rfl
@[simp] theorem State.hwSet_port_of (o : Nat) (g : Fld) (v : Nat) (q : Nat) : (s.hwSet o g v).port q = s.port q := rfl
@[simp] theorem State.hwSet_gln_of (o : Nat) (g : Fld) (v : Nat) (q : Nat) : (s.hwSet o g v).gln q = s.gln q := rfl

@[simp] theorem State.bump_winGet_of (o : Nat) (g : Fld) (k : Nat) (q : Nat) : (s.bump o g k).winGet q = s.winGet q := rfl
@[simp] theorem State.bump_nvmByte_of (o : Nat) (g : Fld) (k : Nat) (q : Nat) : (s.bump o g k).nvmByte q = s.nvmByte q := rfl
@[simp] theorem State.bump_nvmGroup_of (o : Nat) (g : Fld) (k : Nat) (q : Nat) : (s.bump o g k).nvmGroup q = s.nvmGroup q := rfl
@[simp] theorem State.bump_counter_of (o : Nat) (g : Fld) (k : Nat) (q : Nat) : (s.bump o g k).counter q = s.counter q := rfl
@[simp] theorem State.bump_hrwInst_of (o : Nat) (g : Fld) (k : Nat) (q y : Nat) : (s.bump o g k).hrwInst q y = s.hrwInst q y := rfl
@[simp] theorem State.bump_us_of (o : Nat) (g : Fld) (k : Nat) : (s.bump o g k).us = s.us := rfl
@[simp] theorem State.bump_srcRt_of (o : Nat) (g : Fld) (k : Nat) (q : Nat) : (s.bump o g k).srcRt q = s.srcRt q := rfl
@[simp] theorem State.bump_pair_of (o : Nat) (g : Fld) (k : Nat) (q : Nat) : (s.bump o g k).pair q = s.pair q := rfl
@[simp] theorem State.bump_coord_of (o : Nat) (g : Fld) (k : Nat) (q : Nat) : (s.bump o g k).coord q = s.coord q := rfl
@[simp] theorem State.bump_gpt_of (o : Nat) (g : Fld) (k : Nat) (q : Nat) : (s.bump o g k).gpt q = s.gpt q := rfl
@[simp] theorem State.bump_stage_of (o : Nat) (g : Fld) (k : Nat) (q : Nat) : (s.bump o g k).stage q = s.stage q := rfl
@[simp] theorem State.bump_rail_of (o : Nat) (g : Fld) (k : Nat) (q : Nat) : (s.bump o g k).rail q = s.rail q := rfl
@[simp] theorem State.bump_supply_of (o : Nat) (g : Fld) (k : Nat) (q : Nat) : (s.bump o g k).supply q = s.supply q := rfl
@[simp] theorem State.bump_xfer_of (o : Nat) (g : Fld) (k : Nat) (q : Nat) : (s.bump o g k).xfer q = s.xfer q := rfl
@[simp] theorem State.bump_psw_of (o : Nat) (g : Fld) (k : Nat) (q : Nat) : (s.bump o g k).psw q = s.psw q := rfl
@[simp] theorem State.bump_pack_of (o : Nat) (g : Fld) (k : Nat) (q : Nat) : (s.bump o g k).pack q = s.pack q := rfl
@[simp] theorem State.bump_can_of (o : Nat) (g : Fld) (k : Nat) (q : Nat) : (s.bump o g k).can q = s.can q := rfl
@[simp] theorem State.bump_port_of (o : Nat) (g : Fld) (k : Nat) (q : Nat) : (s.bump o g k).port q = s.port q := rfl
@[simp] theorem State.bump_gln_of (o : Nat) (g : Fld) (k : Nat) (q : Nat) : (s.bump o g k).gln q = s.gln q := rfl

@[simp] theorem State.noteEvent_rd_of (a b : Nat) (q : Nat) : (s.noteEvent a b).rd q = s.rd q := rfl
@[simp] theorem State.noteEvent_f_of (a b : Nat) (q : Nat) (d : Fld) : (s.noteEvent a b).f q d = s.f q d := rfl
@[simp] theorem State.noteEvent_flag_of (a b : Nat) (q : Nat) (d : Fld) : (s.noteEvent a b).flag q d = s.flag q d := rfl
@[simp] theorem State.noteEvent_rdN_of (a b : Nat) (q : Nat) : (s.noteEvent a b).rdN q = s.rdN q := rfl
@[simp] theorem State.noteEvent_rd64_of (a b : Nat) (q y : Nat) : (s.noteEvent a b).rd64 q y = s.rd64 q y := rfl
@[simp] theorem State.noteEvent_winGet_of (a b : Nat) (q : Nat) : (s.noteEvent a b).winGet q = s.winGet q := rfl
@[simp] theorem State.noteEvent_nvmByte_of (a b : Nat) (q : Nat) : (s.noteEvent a b).nvmByte q = s.nvmByte q := rfl
@[simp] theorem State.noteEvent_nvmGroup_of (a b : Nat) (q : Nat) : (s.noteEvent a b).nvmGroup q = s.nvmGroup q := rfl
@[simp] theorem State.noteEvent_counter_of (a b : Nat) (q : Nat) : (s.noteEvent a b).counter q = s.counter q := rfl
@[simp] theorem State.noteEvent_hrwInst_of (a b : Nat) (q y : Nat) : (s.noteEvent a b).hrwInst q y = s.hrwInst q y := rfl
@[simp] theorem State.noteEvent_us_of (a b : Nat) : (s.noteEvent a b).us = s.us := rfl
@[simp] theorem State.noteEvent_srcRt_of (a b : Nat) (q : Nat) : (s.noteEvent a b).srcRt q = s.srcRt q := rfl
@[simp] theorem State.noteEvent_pair_of (a b : Nat) (q : Nat) : (s.noteEvent a b).pair q = s.pair q := rfl
@[simp] theorem State.noteEvent_coord_of (a b : Nat) (q : Nat) : (s.noteEvent a b).coord q = s.coord q := rfl
@[simp] theorem State.noteEvent_gpt_of (a b : Nat) (q : Nat) : (s.noteEvent a b).gpt q = s.gpt q := rfl
@[simp] theorem State.noteEvent_stage_of (a b : Nat) (q : Nat) : (s.noteEvent a b).stage q = s.stage q := rfl
@[simp] theorem State.noteEvent_rail_of (a b : Nat) (q : Nat) : (s.noteEvent a b).rail q = s.rail q := rfl
@[simp] theorem State.noteEvent_supply_of (a b : Nat) (q : Nat) : (s.noteEvent a b).supply q = s.supply q := rfl
@[simp] theorem State.noteEvent_xfer_of (a b : Nat) (q : Nat) : (s.noteEvent a b).xfer q = s.xfer q := rfl
@[simp] theorem State.noteEvent_psw_of (a b : Nat) (q : Nat) : (s.noteEvent a b).psw q = s.psw q := rfl
@[simp] theorem State.noteEvent_pack_of (a b : Nat) (q : Nat) : (s.noteEvent a b).pack q = s.pack q := rfl
@[simp] theorem State.noteEvent_can_of (a b : Nat) (q : Nat) : (s.noteEvent a b).can q = s.can q := rfl
@[simp] theorem State.noteEvent_port_of (a b : Nat) (q : Nat) : (s.noteEvent a b).port q = s.port q := rfl
@[simp] theorem State.noteEvent_gln_of (a b : Nat) (q : Nat) : (s.noteEvent a b).gln q = s.gln q := rfl

@[simp] theorem State.noteNew_rd_of (o : Nat) (g : Fld) (v : Nat) (q : Nat) : (s.noteNew o g v).rd q = s.rd q := rfl
@[simp] theorem State.noteNew_f_of (o : Nat) (g : Fld) (v : Nat) (q : Nat) (d : Fld) : (s.noteNew o g v).f q d = s.f q d := rfl
@[simp] theorem State.noteNew_flag_of (o : Nat) (g : Fld) (v : Nat) (q : Nat) (d : Fld) : (s.noteNew o g v).flag q d = s.flag q d := rfl
@[simp] theorem State.noteNew_rdN_of (o : Nat) (g : Fld) (v : Nat) (q : Nat) : (s.noteNew o g v).rdN q = s.rdN q := rfl
@[simp] theorem State.noteNew_rd64_of (o : Nat) (g : Fld) (v : Nat) (q y : Nat) : (s.noteNew o g v).rd64 q y = s.rd64 q y := rfl
@[simp] theorem State.noteNew_winGet_of (o : Nat) (g : Fld) (v : Nat) (q : Nat) : (s.noteNew o g v).winGet q = s.winGet q := rfl
@[simp] theorem State.noteNew_nvmByte_of (o : Nat) (g : Fld) (v : Nat) (q : Nat) : (s.noteNew o g v).nvmByte q = s.nvmByte q := rfl
@[simp] theorem State.noteNew_nvmGroup_of (o : Nat) (g : Fld) (v : Nat) (q : Nat) : (s.noteNew o g v).nvmGroup q = s.nvmGroup q := rfl
@[simp] theorem State.noteNew_counter_of (o : Nat) (g : Fld) (v : Nat) (q : Nat) : (s.noteNew o g v).counter q = s.counter q := rfl
@[simp] theorem State.noteNew_hrwInst_of (o : Nat) (g : Fld) (v : Nat) (q y : Nat) : (s.noteNew o g v).hrwInst q y = s.hrwInst q y := rfl
@[simp] theorem State.noteNew_us_of (o : Nat) (g : Fld) (v : Nat) : (s.noteNew o g v).us = s.us := rfl
@[simp] theorem State.noteNew_srcRt_of (o : Nat) (g : Fld) (v : Nat) (q : Nat) : (s.noteNew o g v).srcRt q = s.srcRt q := rfl
@[simp] theorem State.noteNew_pair_of (o : Nat) (g : Fld) (v : Nat) (q : Nat) : (s.noteNew o g v).pair q = s.pair q := rfl
@[simp] theorem State.noteNew_coord_of (o : Nat) (g : Fld) (v : Nat) (q : Nat) : (s.noteNew o g v).coord q = s.coord q := rfl
@[simp] theorem State.noteNew_gpt_of (o : Nat) (g : Fld) (v : Nat) (q : Nat) : (s.noteNew o g v).gpt q = s.gpt q := rfl
@[simp] theorem State.noteNew_stage_of (o : Nat) (g : Fld) (v : Nat) (q : Nat) : (s.noteNew o g v).stage q = s.stage q := rfl
@[simp] theorem State.noteNew_rail_of (o : Nat) (g : Fld) (v : Nat) (q : Nat) : (s.noteNew o g v).rail q = s.rail q := rfl
@[simp] theorem State.noteNew_supply_of (o : Nat) (g : Fld) (v : Nat) (q : Nat) : (s.noteNew o g v).supply q = s.supply q := rfl
@[simp] theorem State.noteNew_xfer_of (o : Nat) (g : Fld) (v : Nat) (q : Nat) : (s.noteNew o g v).xfer q = s.xfer q := rfl
@[simp] theorem State.noteNew_psw_of (o : Nat) (g : Fld) (v : Nat) (q : Nat) : (s.noteNew o g v).psw q = s.psw q := rfl
@[simp] theorem State.noteNew_pack_of (o : Nat) (g : Fld) (v : Nat) (q : Nat) : (s.noteNew o g v).pack q = s.pack q := rfl
@[simp] theorem State.noteNew_can_of (o : Nat) (g : Fld) (v : Nat) (q : Nat) : (s.noteNew o g v).can q = s.can q := rfl
@[simp] theorem State.noteNew_port_of (o : Nat) (g : Fld) (v : Nat) (q : Nat) : (s.noteNew o g v).port q = s.port q := rfl
@[simp] theorem State.noteNew_gln_of (o : Nat) (g : Fld) (v : Nat) (q : Nat) : (s.noteNew o g v).gln q = s.gln q := rfl

@[simp] theorem State.emit_rd_of (e : Emit) (q : Nat) : (s.emit e).rd q = s.rd q := rfl
@[simp] theorem State.emit_f_of (e : Emit) (q : Nat) (d : Fld) : (s.emit e).f q d = s.f q d := rfl
@[simp] theorem State.emit_flag_of (e : Emit) (q : Nat) (d : Fld) : (s.emit e).flag q d = s.flag q d := rfl
@[simp] theorem State.emit_rdN_of (e : Emit) (q : Nat) : (s.emit e).rdN q = s.rdN q := rfl
@[simp] theorem State.emit_rd64_of (e : Emit) (q y : Nat) : (s.emit e).rd64 q y = s.rd64 q y := rfl
@[simp] theorem State.emit_winGet_of (e : Emit) (q : Nat) : (s.emit e).winGet q = s.winGet q := rfl
@[simp] theorem State.emit_nvmByte_of (e : Emit) (q : Nat) : (s.emit e).nvmByte q = s.nvmByte q := rfl
@[simp] theorem State.emit_nvmGroup_of (e : Emit) (q : Nat) : (s.emit e).nvmGroup q = s.nvmGroup q := rfl
@[simp] theorem State.emit_counter_of (e : Emit) (q : Nat) : (s.emit e).counter q = s.counter q := rfl
@[simp] theorem State.emit_hrwInst_of (e : Emit) (q y : Nat) : (s.emit e).hrwInst q y = s.hrwInst q y := rfl
@[simp] theorem State.emit_us_of (e : Emit) : (s.emit e).us = s.us := rfl
@[simp] theorem State.emit_srcRt_of (e : Emit) (q : Nat) : (s.emit e).srcRt q = s.srcRt q := rfl
@[simp] theorem State.emit_pair_of (e : Emit) (q : Nat) : (s.emit e).pair q = s.pair q := rfl
@[simp] theorem State.emit_coord_of (e : Emit) (q : Nat) : (s.emit e).coord q = s.coord q := rfl
@[simp] theorem State.emit_gpt_of (e : Emit) (q : Nat) : (s.emit e).gpt q = s.gpt q := rfl
@[simp] theorem State.emit_stage_of (e : Emit) (q : Nat) : (s.emit e).stage q = s.stage q := rfl
@[simp] theorem State.emit_rail_of (e : Emit) (q : Nat) : (s.emit e).rail q = s.rail q := rfl
@[simp] theorem State.emit_supply_of (e : Emit) (q : Nat) : (s.emit e).supply q = s.supply q := rfl
@[simp] theorem State.emit_xfer_of (e : Emit) (q : Nat) : (s.emit e).xfer q = s.xfer q := rfl
@[simp] theorem State.emit_psw_of (e : Emit) (q : Nat) : (s.emit e).psw q = s.psw q := rfl
@[simp] theorem State.emit_pack_of (e : Emit) (q : Nat) : (s.emit e).pack q = s.pack q := rfl
@[simp] theorem State.emit_can_of (e : Emit) (q : Nat) : (s.emit e).can q = s.can q := rfl
@[simp] theorem State.emit_port_of (e : Emit) (q : Nat) : (s.emit e).port q = s.port q := rfl
@[simp] theorem State.emit_gln_of (e : Emit) (q : Nat) : (s.emit e).gln q = s.gln q := rfl

@[simp] theorem State.emits_rd_of (es : List Emit) (q : Nat) : (s.emits es).rd q = s.rd q := rfl
@[simp] theorem State.emits_f_of (es : List Emit) (q : Nat) (d : Fld) : (s.emits es).f q d = s.f q d := rfl
@[simp] theorem State.emits_flag_of (es : List Emit) (q : Nat) (d : Fld) : (s.emits es).flag q d = s.flag q d := rfl
@[simp] theorem State.emits_rdN_of (es : List Emit) (q : Nat) : (s.emits es).rdN q = s.rdN q := rfl
@[simp] theorem State.emits_rd64_of (es : List Emit) (q y : Nat) : (s.emits es).rd64 q y = s.rd64 q y := rfl
@[simp] theorem State.emits_winGet_of (es : List Emit) (q : Nat) : (s.emits es).winGet q = s.winGet q := rfl
@[simp] theorem State.emits_nvmByte_of (es : List Emit) (q : Nat) : (s.emits es).nvmByte q = s.nvmByte q := rfl
@[simp] theorem State.emits_nvmGroup_of (es : List Emit) (q : Nat) : (s.emits es).nvmGroup q = s.nvmGroup q := rfl
@[simp] theorem State.emits_counter_of (es : List Emit) (q : Nat) : (s.emits es).counter q = s.counter q := rfl
@[simp] theorem State.emits_hrwInst_of (es : List Emit) (q y : Nat) : (s.emits es).hrwInst q y = s.hrwInst q y := rfl
@[simp] theorem State.emits_us_of (es : List Emit) : (s.emits es).us = s.us := rfl
@[simp] theorem State.emits_srcRt_of (es : List Emit) (q : Nat) : (s.emits es).srcRt q = s.srcRt q := rfl
@[simp] theorem State.emits_pair_of (es : List Emit) (q : Nat) : (s.emits es).pair q = s.pair q := rfl
@[simp] theorem State.emits_coord_of (es : List Emit) (q : Nat) : (s.emits es).coord q = s.coord q := rfl
@[simp] theorem State.emits_gpt_of (es : List Emit) (q : Nat) : (s.emits es).gpt q = s.gpt q := rfl
@[simp] theorem State.emits_stage_of (es : List Emit) (q : Nat) : (s.emits es).stage q = s.stage q := rfl
@[simp] theorem State.emits_rail_of (es : List Emit) (q : Nat) : (s.emits es).rail q = s.rail q := rfl
@[simp] theorem State.emits_supply_of (es : List Emit) (q : Nat) : (s.emits es).supply q = s.supply q := rfl
@[simp] theorem State.emits_xfer_of (es : List Emit) (q : Nat) : (s.emits es).xfer q = s.xfer q := rfl
@[simp] theorem State.emits_psw_of (es : List Emit) (q : Nat) : (s.emits es).psw q = s.psw q := rfl
@[simp] theorem State.emits_pack_of (es : List Emit) (q : Nat) : (s.emits es).pack q = s.pack q := rfl
@[simp] theorem State.emits_can_of (es : List Emit) (q : Nat) : (s.emits es).can q = s.can q := rfl
@[simp] theorem State.emits_port_of (es : List Emit) (q : Nat) : (s.emits es).port q = s.port q := rfl
@[simp] theorem State.emits_gln_of (es : List Emit) (q : Nat) : (s.emits es).gln q = s.gln q := rfl

@[simp] theorem State.raise_rd_of (i j : Nat) (b : List Byte) (q : Nat) : (s.raise i j b).rd q = s.rd q := rfl
@[simp] theorem State.raise_f_of (i j : Nat) (b : List Byte) (q : Nat) (d : Fld) : (s.raise i j b).f q d = s.f q d := rfl
@[simp] theorem State.raise_flag_of (i j : Nat) (b : List Byte) (q : Nat) (d : Fld) : (s.raise i j b).flag q d = s.flag q d := rfl
@[simp] theorem State.raise_rdN_of (i j : Nat) (b : List Byte) (q : Nat) : (s.raise i j b).rdN q = s.rdN q := rfl
@[simp] theorem State.raise_rd64_of (i j : Nat) (b : List Byte) (q y : Nat) : (s.raise i j b).rd64 q y = s.rd64 q y := rfl
@[simp] theorem State.raise_winGet_of (i j : Nat) (b : List Byte) (q : Nat) : (s.raise i j b).winGet q = s.winGet q := rfl
@[simp] theorem State.raise_nvmByte_of (i j : Nat) (b : List Byte) (q : Nat) : (s.raise i j b).nvmByte q = s.nvmByte q := rfl
@[simp] theorem State.raise_nvmGroup_of (i j : Nat) (b : List Byte) (q : Nat) : (s.raise i j b).nvmGroup q = s.nvmGroup q := rfl
@[simp] theorem State.raise_counter_of (i j : Nat) (b : List Byte) (q : Nat) : (s.raise i j b).counter q = s.counter q := rfl
@[simp] theorem State.raise_hrwInst_of (i j : Nat) (b : List Byte) (q y : Nat) : (s.raise i j b).hrwInst q y = s.hrwInst q y := rfl
@[simp] theorem State.raise_us_of (i j : Nat) (b : List Byte) : (s.raise i j b).us = s.us := rfl
@[simp] theorem State.raise_srcRt_of (i j : Nat) (b : List Byte) (q : Nat) : (s.raise i j b).srcRt q = s.srcRt q := rfl
@[simp] theorem State.raise_pair_of (i j : Nat) (b : List Byte) (q : Nat) : (s.raise i j b).pair q = s.pair q := rfl
@[simp] theorem State.raise_coord_of (i j : Nat) (b : List Byte) (q : Nat) : (s.raise i j b).coord q = s.coord q := rfl
@[simp] theorem State.raise_gpt_of (i j : Nat) (b : List Byte) (q : Nat) : (s.raise i j b).gpt q = s.gpt q := rfl
@[simp] theorem State.raise_stage_of (i j : Nat) (b : List Byte) (q : Nat) : (s.raise i j b).stage q = s.stage q := rfl
@[simp] theorem State.raise_rail_of (i j : Nat) (b : List Byte) (q : Nat) : (s.raise i j b).rail q = s.rail q := rfl
@[simp] theorem State.raise_supply_of (i j : Nat) (b : List Byte) (q : Nat) : (s.raise i j b).supply q = s.supply q := rfl
@[simp] theorem State.raise_xfer_of (i j : Nat) (b : List Byte) (q : Nat) : (s.raise i j b).xfer q = s.xfer q := rfl
@[simp] theorem State.raise_psw_of (i j : Nat) (b : List Byte) (q : Nat) : (s.raise i j b).psw q = s.psw q := rfl
@[simp] theorem State.raise_pack_of (i j : Nat) (b : List Byte) (q : Nat) : (s.raise i j b).pack q = s.pack q := rfl
@[simp] theorem State.raise_can_of (i j : Nat) (b : List Byte) (q : Nat) : (s.raise i j b).can q = s.can q := rfl
@[simp] theorem State.raise_port_of (i j : Nat) (b : List Byte) (q : Nat) : (s.raise i j b).port q = s.port q := rfl
@[simp] theorem State.raise_gln_of (i j : Nat) (b : List Byte) (q : Nat) : (s.raise i j b).gln q = s.gln q := rfl

@[simp] theorem State.setNvmByte_rd_of (a : Nat) (b : Byte) (q : Nat) : (s.setNvmByte a b).rd q = s.rd q := rfl
@[simp] theorem State.setNvmByte_f_of (a : Nat) (b : Byte) (q : Nat) (d : Fld) : (s.setNvmByte a b).f q d = s.f q d := rfl
@[simp] theorem State.setNvmByte_flag_of (a : Nat) (b : Byte) (q : Nat) (d : Fld) : (s.setNvmByte a b).flag q d = s.flag q d := rfl
@[simp] theorem State.setNvmByte_rdN_of (a : Nat) (b : Byte) (q : Nat) : (s.setNvmByte a b).rdN q = s.rdN q := rfl
@[simp] theorem State.setNvmByte_rd64_of (a : Nat) (b : Byte) (q y : Nat) : (s.setNvmByte a b).rd64 q y = s.rd64 q y := rfl
@[simp] theorem State.setNvmByte_winGet_of (a : Nat) (b : Byte) (q : Nat) : (s.setNvmByte a b).winGet q = s.winGet q := rfl
@[simp] theorem State.setNvmByte_hrwInst_of (a : Nat) (b : Byte) (q y : Nat) : (s.setNvmByte a b).hrwInst q y = s.hrwInst q y := rfl
@[simp] theorem State.setNvmByte_us_of (a : Nat) (b : Byte) : (s.setNvmByte a b).us = s.us := rfl
@[simp] theorem State.setNvmByte_srcRt_of (a : Nat) (b : Byte) (q : Nat) : (s.setNvmByte a b).srcRt q = s.srcRt q := rfl
@[simp] theorem State.setNvmByte_pair_of (a : Nat) (b : Byte) (q : Nat) : (s.setNvmByte a b).pair q = s.pair q := rfl
@[simp] theorem State.setNvmByte_coord_of (a : Nat) (b : Byte) (q : Nat) : (s.setNvmByte a b).coord q = s.coord q := rfl
@[simp] theorem State.setNvmByte_gpt_of (a : Nat) (b : Byte) (q : Nat) : (s.setNvmByte a b).gpt q = s.gpt q := rfl
@[simp] theorem State.setNvmByte_stage_of (a : Nat) (b : Byte) (q : Nat) : (s.setNvmByte a b).stage q = s.stage q := rfl
@[simp] theorem State.setNvmByte_rail_of (a : Nat) (b : Byte) (q : Nat) : (s.setNvmByte a b).rail q = s.rail q := rfl
@[simp] theorem State.setNvmByte_supply_of (a : Nat) (b : Byte) (q : Nat) : (s.setNvmByte a b).supply q = s.supply q := rfl
@[simp] theorem State.setNvmByte_xfer_of (a : Nat) (b : Byte) (q : Nat) : (s.setNvmByte a b).xfer q = s.xfer q := rfl
@[simp] theorem State.setNvmByte_psw_of (a : Nat) (b : Byte) (q : Nat) : (s.setNvmByte a b).psw q = s.psw q := rfl
@[simp] theorem State.setNvmByte_pack_of (a : Nat) (b : Byte) (q : Nat) : (s.setNvmByte a b).pack q = s.pack q := rfl
@[simp] theorem State.setNvmByte_can_of (a : Nat) (b : Byte) (q : Nat) : (s.setNvmByte a b).can q = s.can q := rfl
@[simp] theorem State.setNvmByte_port_of (a : Nat) (b : Byte) (q : Nat) : (s.setNvmByte a b).port q = s.port q := rfl
@[simp] theorem State.setNvmByte_gln_of (a : Nat) (b : Byte) (q : Nat) : (s.setNvmByte a b).gln q = s.gln q := rfl

@[simp] theorem State.setNvmGroup_rd_of (g : Nat) (x : GroupStatus) (q : Nat) : (s.setNvmGroup g x).rd q = s.rd q := rfl
@[simp] theorem State.setNvmGroup_f_of (g : Nat) (x : GroupStatus) (q : Nat) (d : Fld) : (s.setNvmGroup g x).f q d = s.f q d := rfl
@[simp] theorem State.setNvmGroup_flag_of (g : Nat) (x : GroupStatus) (q : Nat) (d : Fld) : (s.setNvmGroup g x).flag q d = s.flag q d := rfl
@[simp] theorem State.setNvmGroup_rdN_of (g : Nat) (x : GroupStatus) (q : Nat) : (s.setNvmGroup g x).rdN q = s.rdN q := rfl
@[simp] theorem State.setNvmGroup_rd64_of (g : Nat) (x : GroupStatus) (q y : Nat) : (s.setNvmGroup g x).rd64 q y = s.rd64 q y := rfl
@[simp] theorem State.setNvmGroup_winGet_of (g : Nat) (x : GroupStatus) (q : Nat) : (s.setNvmGroup g x).winGet q = s.winGet q := rfl
@[simp] theorem State.setNvmGroup_hrwInst_of (g : Nat) (x : GroupStatus) (q y : Nat) : (s.setNvmGroup g x).hrwInst q y = s.hrwInst q y := rfl
@[simp] theorem State.setNvmGroup_us_of (g : Nat) (x : GroupStatus) : (s.setNvmGroup g x).us = s.us := rfl
@[simp] theorem State.setNvmGroup_srcRt_of (g : Nat) (x : GroupStatus) (q : Nat) : (s.setNvmGroup g x).srcRt q = s.srcRt q := rfl
@[simp] theorem State.setNvmGroup_pair_of (g : Nat) (x : GroupStatus) (q : Nat) : (s.setNvmGroup g x).pair q = s.pair q := rfl
@[simp] theorem State.setNvmGroup_coord_of (g : Nat) (x : GroupStatus) (q : Nat) : (s.setNvmGroup g x).coord q = s.coord q := rfl
@[simp] theorem State.setNvmGroup_gpt_of (g : Nat) (x : GroupStatus) (q : Nat) : (s.setNvmGroup g x).gpt q = s.gpt q := rfl
@[simp] theorem State.setNvmGroup_stage_of (g : Nat) (x : GroupStatus) (q : Nat) : (s.setNvmGroup g x).stage q = s.stage q := rfl
@[simp] theorem State.setNvmGroup_rail_of (g : Nat) (x : GroupStatus) (q : Nat) : (s.setNvmGroup g x).rail q = s.rail q := rfl
@[simp] theorem State.setNvmGroup_supply_of (g : Nat) (x : GroupStatus) (q : Nat) : (s.setNvmGroup g x).supply q = s.supply q := rfl
@[simp] theorem State.setNvmGroup_xfer_of (g : Nat) (x : GroupStatus) (q : Nat) : (s.setNvmGroup g x).xfer q = s.xfer q := rfl
@[simp] theorem State.setNvmGroup_psw_of (g : Nat) (x : GroupStatus) (q : Nat) : (s.setNvmGroup g x).psw q = s.psw q := rfl
@[simp] theorem State.setNvmGroup_pack_of (g : Nat) (x : GroupStatus) (q : Nat) : (s.setNvmGroup g x).pack q = s.pack q := rfl
@[simp] theorem State.setNvmGroup_can_of (g : Nat) (x : GroupStatus) (q : Nat) : (s.setNvmGroup g x).can q = s.can q := rfl
@[simp] theorem State.setNvmGroup_port_of (g : Nat) (x : GroupStatus) (q : Nat) : (s.setNvmGroup g x).port q = s.port q := rfl
@[simp] theorem State.setNvmGroup_gln_of (g : Nat) (x : GroupStatus) (q : Nat) : (s.setNvmGroup g x).gln q = s.gln q := rfl

@[simp] theorem State.setCounter_rd_of (k : Nat) (r : CntRt) (q : Nat) : (s.setCounter k r).rd q = s.rd q := rfl
@[simp] theorem State.setCounter_f_of (k : Nat) (r : CntRt) (q : Nat) (d : Fld) : (s.setCounter k r).f q d = s.f q d := rfl
@[simp] theorem State.setCounter_flag_of (k : Nat) (r : CntRt) (q : Nat) (d : Fld) : (s.setCounter k r).flag q d = s.flag q d := rfl
@[simp] theorem State.setCounter_rdN_of (k : Nat) (r : CntRt) (q : Nat) : (s.setCounter k r).rdN q = s.rdN q := rfl
@[simp] theorem State.setCounter_rd64_of (k : Nat) (r : CntRt) (q y : Nat) : (s.setCounter k r).rd64 q y = s.rd64 q y := rfl
@[simp] theorem State.setCounter_winGet_of (k : Nat) (r : CntRt) (q : Nat) : (s.setCounter k r).winGet q = s.winGet q := rfl
@[simp] theorem State.setCounter_hrwInst_of (k : Nat) (r : CntRt) (q y : Nat) : (s.setCounter k r).hrwInst q y = s.hrwInst q y := rfl
@[simp] theorem State.setCounter_us_of (k : Nat) (r : CntRt) : (s.setCounter k r).us = s.us := rfl
@[simp] theorem State.setCounter_srcRt_of (k : Nat) (r : CntRt) (q : Nat) : (s.setCounter k r).srcRt q = s.srcRt q := rfl
@[simp] theorem State.setCounter_pair_of (k : Nat) (r : CntRt) (q : Nat) : (s.setCounter k r).pair q = s.pair q := rfl
@[simp] theorem State.setCounter_coord_of (k : Nat) (r : CntRt) (q : Nat) : (s.setCounter k r).coord q = s.coord q := rfl
@[simp] theorem State.setCounter_gpt_of (k : Nat) (r : CntRt) (q : Nat) : (s.setCounter k r).gpt q = s.gpt q := rfl
@[simp] theorem State.setCounter_stage_of (k : Nat) (r : CntRt) (q : Nat) : (s.setCounter k r).stage q = s.stage q := rfl
@[simp] theorem State.setCounter_rail_of (k : Nat) (r : CntRt) (q : Nat) : (s.setCounter k r).rail q = s.rail q := rfl
@[simp] theorem State.setCounter_supply_of (k : Nat) (r : CntRt) (q : Nat) : (s.setCounter k r).supply q = s.supply q := rfl
@[simp] theorem State.setCounter_xfer_of (k : Nat) (r : CntRt) (q : Nat) : (s.setCounter k r).xfer q = s.xfer q := rfl
@[simp] theorem State.setCounter_psw_of (k : Nat) (r : CntRt) (q : Nat) : (s.setCounter k r).psw q = s.psw q := rfl
@[simp] theorem State.setCounter_pack_of (k : Nat) (r : CntRt) (q : Nat) : (s.setCounter k r).pack q = s.pack q := rfl
@[simp] theorem State.setCounter_can_of (k : Nat) (r : CntRt) (q : Nat) : (s.setCounter k r).can q = s.can q := rfl
@[simp] theorem State.setCounter_port_of (k : Nat) (r : CntRt) (q : Nat) : (s.setCounter k r).port q = s.port q := rfl
@[simp] theorem State.setCounter_gln_of (k : Nat) (r : CntRt) (q : Nat) : (s.setCounter k r).gln q = s.gln q := rfl

@[simp] theorem State.setHrw_rd_of (i j : Nat) (r : HrwInst) (q : Nat) : (s.setHrw i j r).rd q = s.rd q := rfl
@[simp] theorem State.setHrw_f_of (i j : Nat) (r : HrwInst) (q : Nat) (d : Fld) : (s.setHrw i j r).f q d = s.f q d := rfl
@[simp] theorem State.setHrw_flag_of (i j : Nat) (r : HrwInst) (q : Nat) (d : Fld) : (s.setHrw i j r).flag q d = s.flag q d := rfl
@[simp] theorem State.setHrw_rdN_of (i j : Nat) (r : HrwInst) (q : Nat) : (s.setHrw i j r).rdN q = s.rdN q := rfl
@[simp] theorem State.setHrw_rd64_of (i j : Nat) (r : HrwInst) (q y : Nat) : (s.setHrw i j r).rd64 q y = s.rd64 q y := rfl
@[simp] theorem State.setHrw_winGet_of (i j : Nat) (r : HrwInst) (q : Nat) : (s.setHrw i j r).winGet q = s.winGet q := rfl
@[simp] theorem State.setHrw_nvmByte_of (i j : Nat) (r : HrwInst) (q : Nat) : (s.setHrw i j r).nvmByte q = s.nvmByte q := rfl
@[simp] theorem State.setHrw_nvmGroup_of (i j : Nat) (r : HrwInst) (q : Nat) : (s.setHrw i j r).nvmGroup q = s.nvmGroup q := rfl
@[simp] theorem State.setHrw_counter_of (i j : Nat) (r : HrwInst) (q : Nat) : (s.setHrw i j r).counter q = s.counter q := rfl
@[simp] theorem State.setHrw_us_of (i j : Nat) (r : HrwInst) : (s.setHrw i j r).us = s.us := rfl
@[simp] theorem State.setHrw_srcRt_of (i j : Nat) (r : HrwInst) (q : Nat) : (s.setHrw i j r).srcRt q = s.srcRt q := rfl
@[simp] theorem State.setHrw_pair_of (i j : Nat) (r : HrwInst) (q : Nat) : (s.setHrw i j r).pair q = s.pair q := rfl
@[simp] theorem State.setHrw_coord_of (i j : Nat) (r : HrwInst) (q : Nat) : (s.setHrw i j r).coord q = s.coord q := rfl
@[simp] theorem State.setHrw_gpt_of (i j : Nat) (r : HrwInst) (q : Nat) : (s.setHrw i j r).gpt q = s.gpt q := rfl
@[simp] theorem State.setHrw_stage_of (i j : Nat) (r : HrwInst) (q : Nat) : (s.setHrw i j r).stage q = s.stage q := rfl
@[simp] theorem State.setHrw_rail_of (i j : Nat) (r : HrwInst) (q : Nat) : (s.setHrw i j r).rail q = s.rail q := rfl
@[simp] theorem State.setHrw_supply_of (i j : Nat) (r : HrwInst) (q : Nat) : (s.setHrw i j r).supply q = s.supply q := rfl
@[simp] theorem State.setHrw_xfer_of (i j : Nat) (r : HrwInst) (q : Nat) : (s.setHrw i j r).xfer q = s.xfer q := rfl
@[simp] theorem State.setHrw_psw_of (i j : Nat) (r : HrwInst) (q : Nat) : (s.setHrw i j r).psw q = s.psw q := rfl
@[simp] theorem State.setHrw_pack_of (i j : Nat) (r : HrwInst) (q : Nat) : (s.setHrw i j r).pack q = s.pack q := rfl
@[simp] theorem State.setHrw_can_of (i j : Nat) (r : HrwInst) (q : Nat) : (s.setHrw i j r).can q = s.can q := rfl
@[simp] theorem State.setHrw_port_of (i j : Nat) (r : HrwInst) (q : Nat) : (s.setHrw i j r).port q = s.port q := rfl
@[simp] theorem State.setHrw_gln_of (i j : Nat) (r : HrwInst) (q : Nat) : (s.setHrw i j r).gln q = s.gln q := rfl

@[simp] theorem State.setSrc_rd_of (k : Nat) (r : SrcRt) (q : Nat) : (s.setSrc k r).rd q = s.rd q := rfl
@[simp] theorem State.setSrc_f_of (k : Nat) (r : SrcRt) (q : Nat) (d : Fld) : (s.setSrc k r).f q d = s.f q d := rfl
@[simp] theorem State.setSrc_flag_of (k : Nat) (r : SrcRt) (q : Nat) (d : Fld) : (s.setSrc k r).flag q d = s.flag q d := rfl
@[simp] theorem State.setSrc_rdN_of (k : Nat) (r : SrcRt) (q : Nat) : (s.setSrc k r).rdN q = s.rdN q := rfl
@[simp] theorem State.setSrc_rd64_of (k : Nat) (r : SrcRt) (q y : Nat) : (s.setSrc k r).rd64 q y = s.rd64 q y := rfl
@[simp] theorem State.setSrc_winGet_of (k : Nat) (r : SrcRt) (q : Nat) : (s.setSrc k r).winGet q = s.winGet q := rfl
@[simp] theorem State.setSrc_nvmByte_of (k : Nat) (r : SrcRt) (q : Nat) : (s.setSrc k r).nvmByte q = s.nvmByte q := rfl
@[simp] theorem State.setSrc_nvmGroup_of (k : Nat) (r : SrcRt) (q : Nat) : (s.setSrc k r).nvmGroup q = s.nvmGroup q := rfl
@[simp] theorem State.setSrc_counter_of (k : Nat) (r : SrcRt) (q : Nat) : (s.setSrc k r).counter q = s.counter q := rfl
@[simp] theorem State.setSrc_hrwInst_of (k : Nat) (r : SrcRt) (q y : Nat) : (s.setSrc k r).hrwInst q y = s.hrwInst q y := rfl
@[simp] theorem State.setSrc_us_of (k : Nat) (r : SrcRt) : (s.setSrc k r).us = s.us := rfl
@[simp] theorem State.setSrc_pair_of (k : Nat) (r : SrcRt) (q : Nat) : (s.setSrc k r).pair q = s.pair q := rfl
@[simp] theorem State.setSrc_coord_of (k : Nat) (r : SrcRt) (q : Nat) : (s.setSrc k r).coord q = s.coord q := rfl
@[simp] theorem State.setSrc_gpt_of (k : Nat) (r : SrcRt) (q : Nat) : (s.setSrc k r).gpt q = s.gpt q := rfl
@[simp] theorem State.setSrc_stage_of (k : Nat) (r : SrcRt) (q : Nat) : (s.setSrc k r).stage q = s.stage q := rfl
@[simp] theorem State.setSrc_rail_of (k : Nat) (r : SrcRt) (q : Nat) : (s.setSrc k r).rail q = s.rail q := rfl
@[simp] theorem State.setSrc_supply_of (k : Nat) (r : SrcRt) (q : Nat) : (s.setSrc k r).supply q = s.supply q := rfl
@[simp] theorem State.setSrc_xfer_of (k : Nat) (r : SrcRt) (q : Nat) : (s.setSrc k r).xfer q = s.xfer q := rfl
@[simp] theorem State.setSrc_psw_of (k : Nat) (r : SrcRt) (q : Nat) : (s.setSrc k r).psw q = s.psw q := rfl
@[simp] theorem State.setSrc_pack_of (k : Nat) (r : SrcRt) (q : Nat) : (s.setSrc k r).pack q = s.pack q := rfl
@[simp] theorem State.setSrc_can_of (k : Nat) (r : SrcRt) (q : Nat) : (s.setSrc k r).can q = s.can q := rfl
@[simp] theorem State.setSrc_port_of (k : Nat) (r : SrcRt) (q : Nat) : (s.setSrc k r).port q = s.port q := rfl
@[simp] theorem State.setSrc_gln_of (k : Nat) (r : SrcRt) (q : Nat) : (s.setSrc k r).gln q = s.gln q := rfl

@[simp] theorem State.setPair_rd_of (k : Nat) (r : PairRt) (q : Nat) : (s.setPair k r).rd q = s.rd q := rfl
@[simp] theorem State.setPair_f_of (k : Nat) (r : PairRt) (q : Nat) (d : Fld) : (s.setPair k r).f q d = s.f q d := rfl
@[simp] theorem State.setPair_flag_of (k : Nat) (r : PairRt) (q : Nat) (d : Fld) : (s.setPair k r).flag q d = s.flag q d := rfl
@[simp] theorem State.setPair_rdN_of (k : Nat) (r : PairRt) (q : Nat) : (s.setPair k r).rdN q = s.rdN q := rfl
@[simp] theorem State.setPair_rd64_of (k : Nat) (r : PairRt) (q y : Nat) : (s.setPair k r).rd64 q y = s.rd64 q y := rfl
@[simp] theorem State.setPair_winGet_of (k : Nat) (r : PairRt) (q : Nat) : (s.setPair k r).winGet q = s.winGet q := rfl
@[simp] theorem State.setPair_nvmByte_of (k : Nat) (r : PairRt) (q : Nat) : (s.setPair k r).nvmByte q = s.nvmByte q := rfl
@[simp] theorem State.setPair_nvmGroup_of (k : Nat) (r : PairRt) (q : Nat) : (s.setPair k r).nvmGroup q = s.nvmGroup q := rfl
@[simp] theorem State.setPair_counter_of (k : Nat) (r : PairRt) (q : Nat) : (s.setPair k r).counter q = s.counter q := rfl
@[simp] theorem State.setPair_hrwInst_of (k : Nat) (r : PairRt) (q y : Nat) : (s.setPair k r).hrwInst q y = s.hrwInst q y := rfl
@[simp] theorem State.setPair_us_of (k : Nat) (r : PairRt) : (s.setPair k r).us = s.us := rfl
@[simp] theorem State.setPair_srcRt_of (k : Nat) (r : PairRt) (q : Nat) : (s.setPair k r).srcRt q = s.srcRt q := rfl
@[simp] theorem State.setPair_coord_of (k : Nat) (r : PairRt) (q : Nat) : (s.setPair k r).coord q = s.coord q := rfl
@[simp] theorem State.setPair_gpt_of (k : Nat) (r : PairRt) (q : Nat) : (s.setPair k r).gpt q = s.gpt q := rfl
@[simp] theorem State.setPair_stage_of (k : Nat) (r : PairRt) (q : Nat) : (s.setPair k r).stage q = s.stage q := rfl
@[simp] theorem State.setPair_rail_of (k : Nat) (r : PairRt) (q : Nat) : (s.setPair k r).rail q = s.rail q := rfl
@[simp] theorem State.setPair_supply_of (k : Nat) (r : PairRt) (q : Nat) : (s.setPair k r).supply q = s.supply q := rfl
@[simp] theorem State.setPair_xfer_of (k : Nat) (r : PairRt) (q : Nat) : (s.setPair k r).xfer q = s.xfer q := rfl
@[simp] theorem State.setPair_psw_of (k : Nat) (r : PairRt) (q : Nat) : (s.setPair k r).psw q = s.psw q := rfl
@[simp] theorem State.setPair_pack_of (k : Nat) (r : PairRt) (q : Nat) : (s.setPair k r).pack q = s.pack q := rfl
@[simp] theorem State.setPair_can_of (k : Nat) (r : PairRt) (q : Nat) : (s.setPair k r).can q = s.can q := rfl
@[simp] theorem State.setPair_port_of (k : Nat) (r : PairRt) (q : Nat) : (s.setPair k r).port q = s.port q := rfl
@[simp] theorem State.setPair_gln_of (k : Nat) (r : PairRt) (q : Nat) : (s.setPair k r).gln q = s.gln q := rfl

@[simp] theorem State.setCoord_rd_of (k : Nat) (r : CoordRt) (q : Nat) : (s.setCoord k r).rd q = s.rd q := rfl
@[simp] theorem State.setCoord_f_of (k : Nat) (r : CoordRt) (q : Nat) (d : Fld) : (s.setCoord k r).f q d = s.f q d := rfl
@[simp] theorem State.setCoord_flag_of (k : Nat) (r : CoordRt) (q : Nat) (d : Fld) : (s.setCoord k r).flag q d = s.flag q d := rfl
@[simp] theorem State.setCoord_rdN_of (k : Nat) (r : CoordRt) (q : Nat) : (s.setCoord k r).rdN q = s.rdN q := rfl
@[simp] theorem State.setCoord_rd64_of (k : Nat) (r : CoordRt) (q y : Nat) : (s.setCoord k r).rd64 q y = s.rd64 q y := rfl
@[simp] theorem State.setCoord_winGet_of (k : Nat) (r : CoordRt) (q : Nat) : (s.setCoord k r).winGet q = s.winGet q := rfl
@[simp] theorem State.setCoord_nvmByte_of (k : Nat) (r : CoordRt) (q : Nat) : (s.setCoord k r).nvmByte q = s.nvmByte q := rfl
@[simp] theorem State.setCoord_nvmGroup_of (k : Nat) (r : CoordRt) (q : Nat) : (s.setCoord k r).nvmGroup q = s.nvmGroup q := rfl
@[simp] theorem State.setCoord_counter_of (k : Nat) (r : CoordRt) (q : Nat) : (s.setCoord k r).counter q = s.counter q := rfl
@[simp] theorem State.setCoord_hrwInst_of (k : Nat) (r : CoordRt) (q y : Nat) : (s.setCoord k r).hrwInst q y = s.hrwInst q y := rfl
@[simp] theorem State.setCoord_us_of (k : Nat) (r : CoordRt) : (s.setCoord k r).us = s.us := rfl
@[simp] theorem State.setCoord_srcRt_of (k : Nat) (r : CoordRt) (q : Nat) : (s.setCoord k r).srcRt q = s.srcRt q := rfl
@[simp] theorem State.setCoord_pair_of (k : Nat) (r : CoordRt) (q : Nat) : (s.setCoord k r).pair q = s.pair q := rfl
@[simp] theorem State.setCoord_gpt_of (k : Nat) (r : CoordRt) (q : Nat) : (s.setCoord k r).gpt q = s.gpt q := rfl
@[simp] theorem State.setCoord_stage_of (k : Nat) (r : CoordRt) (q : Nat) : (s.setCoord k r).stage q = s.stage q := rfl
@[simp] theorem State.setCoord_rail_of (k : Nat) (r : CoordRt) (q : Nat) : (s.setCoord k r).rail q = s.rail q := rfl
@[simp] theorem State.setCoord_supply_of (k : Nat) (r : CoordRt) (q : Nat) : (s.setCoord k r).supply q = s.supply q := rfl
@[simp] theorem State.setCoord_xfer_of (k : Nat) (r : CoordRt) (q : Nat) : (s.setCoord k r).xfer q = s.xfer q := rfl
@[simp] theorem State.setCoord_psw_of (k : Nat) (r : CoordRt) (q : Nat) : (s.setCoord k r).psw q = s.psw q := rfl
@[simp] theorem State.setCoord_pack_of (k : Nat) (r : CoordRt) (q : Nat) : (s.setCoord k r).pack q = s.pack q := rfl
@[simp] theorem State.setCoord_can_of (k : Nat) (r : CoordRt) (q : Nat) : (s.setCoord k r).can q = s.can q := rfl
@[simp] theorem State.setCoord_port_of (k : Nat) (r : CoordRt) (q : Nat) : (s.setCoord k r).port q = s.port q := rfl
@[simp] theorem State.setCoord_gln_of (k : Nat) (r : CoordRt) (q : Nat) : (s.setCoord k r).gln q = s.gln q := rfl

@[simp] theorem State.setGpt_rd_of (k : Nat) (r : GptRt) (q : Nat) : (s.setGpt k r).rd q = s.rd q := rfl
@[simp] theorem State.setGpt_f_of (k : Nat) (r : GptRt) (q : Nat) (d : Fld) : (s.setGpt k r).f q d = s.f q d := rfl
@[simp] theorem State.setGpt_flag_of (k : Nat) (r : GptRt) (q : Nat) (d : Fld) : (s.setGpt k r).flag q d = s.flag q d := rfl
@[simp] theorem State.setGpt_rdN_of (k : Nat) (r : GptRt) (q : Nat) : (s.setGpt k r).rdN q = s.rdN q := rfl
@[simp] theorem State.setGpt_rd64_of (k : Nat) (r : GptRt) (q y : Nat) : (s.setGpt k r).rd64 q y = s.rd64 q y := rfl
@[simp] theorem State.setGpt_winGet_of (k : Nat) (r : GptRt) (q : Nat) : (s.setGpt k r).winGet q = s.winGet q := rfl
@[simp] theorem State.setGpt_nvmByte_of (k : Nat) (r : GptRt) (q : Nat) : (s.setGpt k r).nvmByte q = s.nvmByte q := rfl
@[simp] theorem State.setGpt_nvmGroup_of (k : Nat) (r : GptRt) (q : Nat) : (s.setGpt k r).nvmGroup q = s.nvmGroup q := rfl
@[simp] theorem State.setGpt_counter_of (k : Nat) (r : GptRt) (q : Nat) : (s.setGpt k r).counter q = s.counter q := rfl
@[simp] theorem State.setGpt_hrwInst_of (k : Nat) (r : GptRt) (q y : Nat) : (s.setGpt k r).hrwInst q y = s.hrwInst q y := rfl
@[simp] theorem State.setGpt_us_of (k : Nat) (r : GptRt) : (s.setGpt k r).us = s.us := rfl
@[simp] theorem State.setGpt_srcRt_of (k : Nat) (r : GptRt) (q : Nat) : (s.setGpt k r).srcRt q = s.srcRt q := rfl
@[simp] theorem State.setGpt_pair_of (k : Nat) (r : GptRt) (q : Nat) : (s.setGpt k r).pair q = s.pair q := rfl
@[simp] theorem State.setGpt_coord_of (k : Nat) (r : GptRt) (q : Nat) : (s.setGpt k r).coord q = s.coord q := rfl
@[simp] theorem State.setGpt_stage_of (k : Nat) (r : GptRt) (q : Nat) : (s.setGpt k r).stage q = s.stage q := rfl
@[simp] theorem State.setGpt_rail_of (k : Nat) (r : GptRt) (q : Nat) : (s.setGpt k r).rail q = s.rail q := rfl
@[simp] theorem State.setGpt_supply_of (k : Nat) (r : GptRt) (q : Nat) : (s.setGpt k r).supply q = s.supply q := rfl
@[simp] theorem State.setGpt_xfer_of (k : Nat) (r : GptRt) (q : Nat) : (s.setGpt k r).xfer q = s.xfer q := rfl
@[simp] theorem State.setGpt_psw_of (k : Nat) (r : GptRt) (q : Nat) : (s.setGpt k r).psw q = s.psw q := rfl
@[simp] theorem State.setGpt_pack_of (k : Nat) (r : GptRt) (q : Nat) : (s.setGpt k r).pack q = s.pack q := rfl
@[simp] theorem State.setGpt_can_of (k : Nat) (r : GptRt) (q : Nat) : (s.setGpt k r).can q = s.can q := rfl
@[simp] theorem State.setGpt_port_of (k : Nat) (r : GptRt) (q : Nat) : (s.setGpt k r).port q = s.port q := rfl
@[simp] theorem State.setGpt_gln_of (k : Nat) (r : GptRt) (q : Nat) : (s.setGpt k r).gln q = s.gln q := rfl

@[simp] theorem State.setStage_rd_of (k : Nat) (r : StageRt) (q : Nat) : (s.setStage k r).rd q = s.rd q := rfl
@[simp] theorem State.setStage_f_of (k : Nat) (r : StageRt) (q : Nat) (d : Fld) : (s.setStage k r).f q d = s.f q d := rfl
@[simp] theorem State.setStage_flag_of (k : Nat) (r : StageRt) (q : Nat) (d : Fld) : (s.setStage k r).flag q d = s.flag q d := rfl
@[simp] theorem State.setStage_rdN_of (k : Nat) (r : StageRt) (q : Nat) : (s.setStage k r).rdN q = s.rdN q := rfl
@[simp] theorem State.setStage_rd64_of (k : Nat) (r : StageRt) (q y : Nat) : (s.setStage k r).rd64 q y = s.rd64 q y := rfl
@[simp] theorem State.setStage_winGet_of (k : Nat) (r : StageRt) (q : Nat) : (s.setStage k r).winGet q = s.winGet q := rfl
@[simp] theorem State.setStage_nvmByte_of (k : Nat) (r : StageRt) (q : Nat) : (s.setStage k r).nvmByte q = s.nvmByte q := rfl
@[simp] theorem State.setStage_nvmGroup_of (k : Nat) (r : StageRt) (q : Nat) : (s.setStage k r).nvmGroup q = s.nvmGroup q := rfl
@[simp] theorem State.setStage_counter_of (k : Nat) (r : StageRt) (q : Nat) : (s.setStage k r).counter q = s.counter q := rfl
@[simp] theorem State.setStage_hrwInst_of (k : Nat) (r : StageRt) (q y : Nat) : (s.setStage k r).hrwInst q y = s.hrwInst q y := rfl
@[simp] theorem State.setStage_us_of (k : Nat) (r : StageRt) : (s.setStage k r).us = s.us := rfl
@[simp] theorem State.setStage_srcRt_of (k : Nat) (r : StageRt) (q : Nat) : (s.setStage k r).srcRt q = s.srcRt q := rfl
@[simp] theorem State.setStage_pair_of (k : Nat) (r : StageRt) (q : Nat) : (s.setStage k r).pair q = s.pair q := rfl
@[simp] theorem State.setStage_coord_of (k : Nat) (r : StageRt) (q : Nat) : (s.setStage k r).coord q = s.coord q := rfl
@[simp] theorem State.setStage_gpt_of (k : Nat) (r : StageRt) (q : Nat) : (s.setStage k r).gpt q = s.gpt q := rfl
@[simp] theorem State.setStage_rail_of (k : Nat) (r : StageRt) (q : Nat) : (s.setStage k r).rail q = s.rail q := rfl
@[simp] theorem State.setStage_supply_of (k : Nat) (r : StageRt) (q : Nat) : (s.setStage k r).supply q = s.supply q := rfl
@[simp] theorem State.setStage_xfer_of (k : Nat) (r : StageRt) (q : Nat) : (s.setStage k r).xfer q = s.xfer q := rfl
@[simp] theorem State.setStage_psw_of (k : Nat) (r : StageRt) (q : Nat) : (s.setStage k r).psw q = s.psw q := rfl
@[simp] theorem State.setStage_pack_of (k : Nat) (r : StageRt) (q : Nat) : (s.setStage k r).pack q = s.pack q := rfl
@[simp] theorem State.setStage_can_of (k : Nat) (r : StageRt) (q : Nat) : (s.setStage k r).can q = s.can q := rfl
@[simp] theorem State.setStage_port_of (k : Nat) (r : StageRt) (q : Nat) : (s.setStage k r).port q = s.port q := rfl
@[simp] theorem State.setStage_gln_of (k : Nat) (r : StageRt) (q : Nat) : (s.setStage k r).gln q = s.gln q := rfl

@[simp] theorem State.setRail_rd_of (k : Nat) (r : RailRt) (q : Nat) : (s.setRail k r).rd q = s.rd q := rfl
@[simp] theorem State.setRail_f_of (k : Nat) (r : RailRt) (q : Nat) (d : Fld) : (s.setRail k r).f q d = s.f q d := rfl
@[simp] theorem State.setRail_flag_of (k : Nat) (r : RailRt) (q : Nat) (d : Fld) : (s.setRail k r).flag q d = s.flag q d := rfl
@[simp] theorem State.setRail_rdN_of (k : Nat) (r : RailRt) (q : Nat) : (s.setRail k r).rdN q = s.rdN q := rfl
@[simp] theorem State.setRail_rd64_of (k : Nat) (r : RailRt) (q y : Nat) : (s.setRail k r).rd64 q y = s.rd64 q y := rfl
@[simp] theorem State.setRail_winGet_of (k : Nat) (r : RailRt) (q : Nat) : (s.setRail k r).winGet q = s.winGet q := rfl
@[simp] theorem State.setRail_nvmByte_of (k : Nat) (r : RailRt) (q : Nat) : (s.setRail k r).nvmByte q = s.nvmByte q := rfl
@[simp] theorem State.setRail_nvmGroup_of (k : Nat) (r : RailRt) (q : Nat) : (s.setRail k r).nvmGroup q = s.nvmGroup q := rfl
@[simp] theorem State.setRail_counter_of (k : Nat) (r : RailRt) (q : Nat) : (s.setRail k r).counter q = s.counter q := rfl
@[simp] theorem State.setRail_hrwInst_of (k : Nat) (r : RailRt) (q y : Nat) : (s.setRail k r).hrwInst q y = s.hrwInst q y := rfl
@[simp] theorem State.setRail_us_of (k : Nat) (r : RailRt) : (s.setRail k r).us = s.us := rfl
@[simp] theorem State.setRail_srcRt_of (k : Nat) (r : RailRt) (q : Nat) : (s.setRail k r).srcRt q = s.srcRt q := rfl
@[simp] theorem State.setRail_pair_of (k : Nat) (r : RailRt) (q : Nat) : (s.setRail k r).pair q = s.pair q := rfl
@[simp] theorem State.setRail_coord_of (k : Nat) (r : RailRt) (q : Nat) : (s.setRail k r).coord q = s.coord q := rfl
@[simp] theorem State.setRail_gpt_of (k : Nat) (r : RailRt) (q : Nat) : (s.setRail k r).gpt q = s.gpt q := rfl
@[simp] theorem State.setRail_stage_of (k : Nat) (r : RailRt) (q : Nat) : (s.setRail k r).stage q = s.stage q := rfl
@[simp] theorem State.setRail_supply_of (k : Nat) (r : RailRt) (q : Nat) : (s.setRail k r).supply q = s.supply q := rfl
@[simp] theorem State.setRail_xfer_of (k : Nat) (r : RailRt) (q : Nat) : (s.setRail k r).xfer q = s.xfer q := rfl
@[simp] theorem State.setRail_psw_of (k : Nat) (r : RailRt) (q : Nat) : (s.setRail k r).psw q = s.psw q := rfl
@[simp] theorem State.setRail_pack_of (k : Nat) (r : RailRt) (q : Nat) : (s.setRail k r).pack q = s.pack q := rfl
@[simp] theorem State.setRail_can_of (k : Nat) (r : RailRt) (q : Nat) : (s.setRail k r).can q = s.can q := rfl
@[simp] theorem State.setRail_port_of (k : Nat) (r : RailRt) (q : Nat) : (s.setRail k r).port q = s.port q := rfl
@[simp] theorem State.setRail_gln_of (k : Nat) (r : RailRt) (q : Nat) : (s.setRail k r).gln q = s.gln q := rfl

@[simp] theorem State.setSupply_rd_of (k : Nat) (r : SupplyRt) (q : Nat) : (s.setSupply k r).rd q = s.rd q := rfl
@[simp] theorem State.setSupply_f_of (k : Nat) (r : SupplyRt) (q : Nat) (d : Fld) : (s.setSupply k r).f q d = s.f q d := rfl
@[simp] theorem State.setSupply_flag_of (k : Nat) (r : SupplyRt) (q : Nat) (d : Fld) : (s.setSupply k r).flag q d = s.flag q d := rfl
@[simp] theorem State.setSupply_rdN_of (k : Nat) (r : SupplyRt) (q : Nat) : (s.setSupply k r).rdN q = s.rdN q := rfl
@[simp] theorem State.setSupply_rd64_of (k : Nat) (r : SupplyRt) (q y : Nat) : (s.setSupply k r).rd64 q y = s.rd64 q y := rfl
@[simp] theorem State.setSupply_winGet_of (k : Nat) (r : SupplyRt) (q : Nat) : (s.setSupply k r).winGet q = s.winGet q := rfl
@[simp] theorem State.setSupply_nvmByte_of (k : Nat) (r : SupplyRt) (q : Nat) : (s.setSupply k r).nvmByte q = s.nvmByte q := rfl
@[simp] theorem State.setSupply_nvmGroup_of (k : Nat) (r : SupplyRt) (q : Nat) : (s.setSupply k r).nvmGroup q = s.nvmGroup q := rfl
@[simp] theorem State.setSupply_counter_of (k : Nat) (r : SupplyRt) (q : Nat) : (s.setSupply k r).counter q = s.counter q := rfl
@[simp] theorem State.setSupply_hrwInst_of (k : Nat) (r : SupplyRt) (q y : Nat) : (s.setSupply k r).hrwInst q y = s.hrwInst q y := rfl
@[simp] theorem State.setSupply_us_of (k : Nat) (r : SupplyRt) : (s.setSupply k r).us = s.us := rfl
@[simp] theorem State.setSupply_srcRt_of (k : Nat) (r : SupplyRt) (q : Nat) : (s.setSupply k r).srcRt q = s.srcRt q := rfl
@[simp] theorem State.setSupply_pair_of (k : Nat) (r : SupplyRt) (q : Nat) : (s.setSupply k r).pair q = s.pair q := rfl
@[simp] theorem State.setSupply_coord_of (k : Nat) (r : SupplyRt) (q : Nat) : (s.setSupply k r).coord q = s.coord q := rfl
@[simp] theorem State.setSupply_gpt_of (k : Nat) (r : SupplyRt) (q : Nat) : (s.setSupply k r).gpt q = s.gpt q := rfl
@[simp] theorem State.setSupply_stage_of (k : Nat) (r : SupplyRt) (q : Nat) : (s.setSupply k r).stage q = s.stage q := rfl
@[simp] theorem State.setSupply_rail_of (k : Nat) (r : SupplyRt) (q : Nat) : (s.setSupply k r).rail q = s.rail q := rfl
@[simp] theorem State.setSupply_xfer_of (k : Nat) (r : SupplyRt) (q : Nat) : (s.setSupply k r).xfer q = s.xfer q := rfl
@[simp] theorem State.setSupply_psw_of (k : Nat) (r : SupplyRt) (q : Nat) : (s.setSupply k r).psw q = s.psw q := rfl
@[simp] theorem State.setSupply_pack_of (k : Nat) (r : SupplyRt) (q : Nat) : (s.setSupply k r).pack q = s.pack q := rfl
@[simp] theorem State.setSupply_can_of (k : Nat) (r : SupplyRt) (q : Nat) : (s.setSupply k r).can q = s.can q := rfl
@[simp] theorem State.setSupply_port_of (k : Nat) (r : SupplyRt) (q : Nat) : (s.setSupply k r).port q = s.port q := rfl
@[simp] theorem State.setSupply_gln_of (k : Nat) (r : SupplyRt) (q : Nat) : (s.setSupply k r).gln q = s.gln q := rfl

@[simp] theorem State.setXfer_rd_of (k : Nat) (r : XferRt) (q : Nat) : (s.setXfer k r).rd q = s.rd q := rfl
@[simp] theorem State.setXfer_f_of (k : Nat) (r : XferRt) (q : Nat) (d : Fld) : (s.setXfer k r).f q d = s.f q d := rfl
@[simp] theorem State.setXfer_flag_of (k : Nat) (r : XferRt) (q : Nat) (d : Fld) : (s.setXfer k r).flag q d = s.flag q d := rfl
@[simp] theorem State.setXfer_rdN_of (k : Nat) (r : XferRt) (q : Nat) : (s.setXfer k r).rdN q = s.rdN q := rfl
@[simp] theorem State.setXfer_rd64_of (k : Nat) (r : XferRt) (q y : Nat) : (s.setXfer k r).rd64 q y = s.rd64 q y := rfl
@[simp] theorem State.setXfer_winGet_of (k : Nat) (r : XferRt) (q : Nat) : (s.setXfer k r).winGet q = s.winGet q := rfl
@[simp] theorem State.setXfer_nvmByte_of (k : Nat) (r : XferRt) (q : Nat) : (s.setXfer k r).nvmByte q = s.nvmByte q := rfl
@[simp] theorem State.setXfer_nvmGroup_of (k : Nat) (r : XferRt) (q : Nat) : (s.setXfer k r).nvmGroup q = s.nvmGroup q := rfl
@[simp] theorem State.setXfer_counter_of (k : Nat) (r : XferRt) (q : Nat) : (s.setXfer k r).counter q = s.counter q := rfl
@[simp] theorem State.setXfer_hrwInst_of (k : Nat) (r : XferRt) (q y : Nat) : (s.setXfer k r).hrwInst q y = s.hrwInst q y := rfl
@[simp] theorem State.setXfer_us_of (k : Nat) (r : XferRt) : (s.setXfer k r).us = s.us := rfl
@[simp] theorem State.setXfer_srcRt_of (k : Nat) (r : XferRt) (q : Nat) : (s.setXfer k r).srcRt q = s.srcRt q := rfl
@[simp] theorem State.setXfer_pair_of (k : Nat) (r : XferRt) (q : Nat) : (s.setXfer k r).pair q = s.pair q := rfl
@[simp] theorem State.setXfer_coord_of (k : Nat) (r : XferRt) (q : Nat) : (s.setXfer k r).coord q = s.coord q := rfl
@[simp] theorem State.setXfer_gpt_of (k : Nat) (r : XferRt) (q : Nat) : (s.setXfer k r).gpt q = s.gpt q := rfl
@[simp] theorem State.setXfer_stage_of (k : Nat) (r : XferRt) (q : Nat) : (s.setXfer k r).stage q = s.stage q := rfl
@[simp] theorem State.setXfer_rail_of (k : Nat) (r : XferRt) (q : Nat) : (s.setXfer k r).rail q = s.rail q := rfl
@[simp] theorem State.setXfer_supply_of (k : Nat) (r : XferRt) (q : Nat) : (s.setXfer k r).supply q = s.supply q := rfl
@[simp] theorem State.setXfer_psw_of (k : Nat) (r : XferRt) (q : Nat) : (s.setXfer k r).psw q = s.psw q := rfl
@[simp] theorem State.setXfer_pack_of (k : Nat) (r : XferRt) (q : Nat) : (s.setXfer k r).pack q = s.pack q := rfl
@[simp] theorem State.setXfer_can_of (k : Nat) (r : XferRt) (q : Nat) : (s.setXfer k r).can q = s.can q := rfl
@[simp] theorem State.setXfer_port_of (k : Nat) (r : XferRt) (q : Nat) : (s.setXfer k r).port q = s.port q := rfl
@[simp] theorem State.setXfer_gln_of (k : Nat) (r : XferRt) (q : Nat) : (s.setXfer k r).gln q = s.gln q := rfl

@[simp] theorem State.setPsw_rd_of (k : Nat) (r : PswRt) (q : Nat) : (s.setPsw k r).rd q = s.rd q := rfl
@[simp] theorem State.setPsw_f_of (k : Nat) (r : PswRt) (q : Nat) (d : Fld) : (s.setPsw k r).f q d = s.f q d := rfl
@[simp] theorem State.setPsw_flag_of (k : Nat) (r : PswRt) (q : Nat) (d : Fld) : (s.setPsw k r).flag q d = s.flag q d := rfl
@[simp] theorem State.setPsw_rdN_of (k : Nat) (r : PswRt) (q : Nat) : (s.setPsw k r).rdN q = s.rdN q := rfl
@[simp] theorem State.setPsw_rd64_of (k : Nat) (r : PswRt) (q y : Nat) : (s.setPsw k r).rd64 q y = s.rd64 q y := rfl
@[simp] theorem State.setPsw_winGet_of (k : Nat) (r : PswRt) (q : Nat) : (s.setPsw k r).winGet q = s.winGet q := rfl
@[simp] theorem State.setPsw_nvmByte_of (k : Nat) (r : PswRt) (q : Nat) : (s.setPsw k r).nvmByte q = s.nvmByte q := rfl
@[simp] theorem State.setPsw_nvmGroup_of (k : Nat) (r : PswRt) (q : Nat) : (s.setPsw k r).nvmGroup q = s.nvmGroup q := rfl
@[simp] theorem State.setPsw_counter_of (k : Nat) (r : PswRt) (q : Nat) : (s.setPsw k r).counter q = s.counter q := rfl
@[simp] theorem State.setPsw_hrwInst_of (k : Nat) (r : PswRt) (q y : Nat) : (s.setPsw k r).hrwInst q y = s.hrwInst q y := rfl
@[simp] theorem State.setPsw_us_of (k : Nat) (r : PswRt) : (s.setPsw k r).us = s.us := rfl
@[simp] theorem State.setPsw_srcRt_of (k : Nat) (r : PswRt) (q : Nat) : (s.setPsw k r).srcRt q = s.srcRt q := rfl
@[simp] theorem State.setPsw_pair_of (k : Nat) (r : PswRt) (q : Nat) : (s.setPsw k r).pair q = s.pair q := rfl
@[simp] theorem State.setPsw_coord_of (k : Nat) (r : PswRt) (q : Nat) : (s.setPsw k r).coord q = s.coord q := rfl
@[simp] theorem State.setPsw_gpt_of (k : Nat) (r : PswRt) (q : Nat) : (s.setPsw k r).gpt q = s.gpt q := rfl
@[simp] theorem State.setPsw_stage_of (k : Nat) (r : PswRt) (q : Nat) : (s.setPsw k r).stage q = s.stage q := rfl
@[simp] theorem State.setPsw_rail_of (k : Nat) (r : PswRt) (q : Nat) : (s.setPsw k r).rail q = s.rail q := rfl
@[simp] theorem State.setPsw_supply_of (k : Nat) (r : PswRt) (q : Nat) : (s.setPsw k r).supply q = s.supply q := rfl
@[simp] theorem State.setPsw_xfer_of (k : Nat) (r : PswRt) (q : Nat) : (s.setPsw k r).xfer q = s.xfer q := rfl
@[simp] theorem State.setPsw_pack_of (k : Nat) (r : PswRt) (q : Nat) : (s.setPsw k r).pack q = s.pack q := rfl
@[simp] theorem State.setPsw_can_of (k : Nat) (r : PswRt) (q : Nat) : (s.setPsw k r).can q = s.can q := rfl
@[simp] theorem State.setPsw_port_of (k : Nat) (r : PswRt) (q : Nat) : (s.setPsw k r).port q = s.port q := rfl
@[simp] theorem State.setPsw_gln_of (k : Nat) (r : PswRt) (q : Nat) : (s.setPsw k r).gln q = s.gln q := rfl

@[simp] theorem State.setPack_rd_of (k : Nat) (r : PackRt) (q : Nat) : (s.setPack k r).rd q = s.rd q := rfl
@[simp] theorem State.setPack_f_of (k : Nat) (r : PackRt) (q : Nat) (d : Fld) : (s.setPack k r).f q d = s.f q d := rfl
@[simp] theorem State.setPack_flag_of (k : Nat) (r : PackRt) (q : Nat) (d : Fld) : (s.setPack k r).flag q d = s.flag q d := rfl
@[simp] theorem State.setPack_rdN_of (k : Nat) (r : PackRt) (q : Nat) : (s.setPack k r).rdN q = s.rdN q := rfl
@[simp] theorem State.setPack_rd64_of (k : Nat) (r : PackRt) (q y : Nat) : (s.setPack k r).rd64 q y = s.rd64 q y := rfl
@[simp] theorem State.setPack_winGet_of (k : Nat) (r : PackRt) (q : Nat) : (s.setPack k r).winGet q = s.winGet q := rfl
@[simp] theorem State.setPack_nvmByte_of (k : Nat) (r : PackRt) (q : Nat) : (s.setPack k r).nvmByte q = s.nvmByte q := rfl
@[simp] theorem State.setPack_nvmGroup_of (k : Nat) (r : PackRt) (q : Nat) : (s.setPack k r).nvmGroup q = s.nvmGroup q := rfl
@[simp] theorem State.setPack_counter_of (k : Nat) (r : PackRt) (q : Nat) : (s.setPack k r).counter q = s.counter q := rfl
@[simp] theorem State.setPack_hrwInst_of (k : Nat) (r : PackRt) (q y : Nat) : (s.setPack k r).hrwInst q y = s.hrwInst q y := rfl
@[simp] theorem State.setPack_us_of (k : Nat) (r : PackRt) : (s.setPack k r).us = s.us := rfl
@[simp] theorem State.setPack_srcRt_of (k : Nat) (r : PackRt) (q : Nat) : (s.setPack k r).srcRt q = s.srcRt q := rfl
@[simp] theorem State.setPack_pair_of (k : Nat) (r : PackRt) (q : Nat) : (s.setPack k r).pair q = s.pair q := rfl
@[simp] theorem State.setPack_coord_of (k : Nat) (r : PackRt) (q : Nat) : (s.setPack k r).coord q = s.coord q := rfl
@[simp] theorem State.setPack_gpt_of (k : Nat) (r : PackRt) (q : Nat) : (s.setPack k r).gpt q = s.gpt q := rfl
@[simp] theorem State.setPack_stage_of (k : Nat) (r : PackRt) (q : Nat) : (s.setPack k r).stage q = s.stage q := rfl
@[simp] theorem State.setPack_rail_of (k : Nat) (r : PackRt) (q : Nat) : (s.setPack k r).rail q = s.rail q := rfl
@[simp] theorem State.setPack_supply_of (k : Nat) (r : PackRt) (q : Nat) : (s.setPack k r).supply q = s.supply q := rfl
@[simp] theorem State.setPack_xfer_of (k : Nat) (r : PackRt) (q : Nat) : (s.setPack k r).xfer q = s.xfer q := rfl
@[simp] theorem State.setPack_psw_of (k : Nat) (r : PackRt) (q : Nat) : (s.setPack k r).psw q = s.psw q := rfl
@[simp] theorem State.setPack_can_of (k : Nat) (r : PackRt) (q : Nat) : (s.setPack k r).can q = s.can q := rfl
@[simp] theorem State.setPack_port_of (k : Nat) (r : PackRt) (q : Nat) : (s.setPack k r).port q = s.port q := rfl
@[simp] theorem State.setPack_gln_of (k : Nat) (r : PackRt) (q : Nat) : (s.setPack k r).gln q = s.gln q := rfl

@[simp] theorem State.setCan_rd_of (k : Nat) (r : CanRt) (q : Nat) : (s.setCan k r).rd q = s.rd q := rfl
@[simp] theorem State.setCan_f_of (k : Nat) (r : CanRt) (q : Nat) (d : Fld) : (s.setCan k r).f q d = s.f q d := rfl
@[simp] theorem State.setCan_flag_of (k : Nat) (r : CanRt) (q : Nat) (d : Fld) : (s.setCan k r).flag q d = s.flag q d := rfl
@[simp] theorem State.setCan_rdN_of (k : Nat) (r : CanRt) (q : Nat) : (s.setCan k r).rdN q = s.rdN q := rfl
@[simp] theorem State.setCan_rd64_of (k : Nat) (r : CanRt) (q y : Nat) : (s.setCan k r).rd64 q y = s.rd64 q y := rfl
@[simp] theorem State.setCan_winGet_of (k : Nat) (r : CanRt) (q : Nat) : (s.setCan k r).winGet q = s.winGet q := rfl
@[simp] theorem State.setCan_nvmByte_of (k : Nat) (r : CanRt) (q : Nat) : (s.setCan k r).nvmByte q = s.nvmByte q := rfl
@[simp] theorem State.setCan_nvmGroup_of (k : Nat) (r : CanRt) (q : Nat) : (s.setCan k r).nvmGroup q = s.nvmGroup q := rfl
@[simp] theorem State.setCan_counter_of (k : Nat) (r : CanRt) (q : Nat) : (s.setCan k r).counter q = s.counter q := rfl
@[simp] theorem State.setCan_hrwInst_of (k : Nat) (r : CanRt) (q y : Nat) : (s.setCan k r).hrwInst q y = s.hrwInst q y := rfl
@[simp] theorem State.setCan_us_of (k : Nat) (r : CanRt) : (s.setCan k r).us = s.us := rfl
@[simp] theorem State.setCan_srcRt_of (k : Nat) (r : CanRt) (q : Nat) : (s.setCan k r).srcRt q = s.srcRt q := rfl
@[simp] theorem State.setCan_pair_of (k : Nat) (r : CanRt) (q : Nat) : (s.setCan k r).pair q = s.pair q := rfl
@[simp] theorem State.setCan_coord_of (k : Nat) (r : CanRt) (q : Nat) : (s.setCan k r).coord q = s.coord q := rfl
@[simp] theorem State.setCan_gpt_of (k : Nat) (r : CanRt) (q : Nat) : (s.setCan k r).gpt q = s.gpt q := rfl
@[simp] theorem State.setCan_stage_of (k : Nat) (r : CanRt) (q : Nat) : (s.setCan k r).stage q = s.stage q := rfl
@[simp] theorem State.setCan_rail_of (k : Nat) (r : CanRt) (q : Nat) : (s.setCan k r).rail q = s.rail q := rfl
@[simp] theorem State.setCan_supply_of (k : Nat) (r : CanRt) (q : Nat) : (s.setCan k r).supply q = s.supply q := rfl
@[simp] theorem State.setCan_xfer_of (k : Nat) (r : CanRt) (q : Nat) : (s.setCan k r).xfer q = s.xfer q := rfl
@[simp] theorem State.setCan_psw_of (k : Nat) (r : CanRt) (q : Nat) : (s.setCan k r).psw q = s.psw q := rfl
@[simp] theorem State.setCan_pack_of (k : Nat) (r : CanRt) (q : Nat) : (s.setCan k r).pack q = s.pack q := rfl
@[simp] theorem State.setCan_port_of (k : Nat) (r : CanRt) (q : Nat) : (s.setCan k r).port q = s.port q := rfl
@[simp] theorem State.setCan_gln_of (k : Nat) (r : CanRt) (q : Nat) : (s.setCan k r).gln q = s.gln q := rfl

@[simp] theorem State.setPort_rd_of (k : Nat) (r : PortRt) (q : Nat) : (s.setPort k r).rd q = s.rd q := rfl
@[simp] theorem State.setPort_f_of (k : Nat) (r : PortRt) (q : Nat) (d : Fld) : (s.setPort k r).f q d = s.f q d := rfl
@[simp] theorem State.setPort_flag_of (k : Nat) (r : PortRt) (q : Nat) (d : Fld) : (s.setPort k r).flag q d = s.flag q d := rfl
@[simp] theorem State.setPort_rdN_of (k : Nat) (r : PortRt) (q : Nat) : (s.setPort k r).rdN q = s.rdN q := rfl
@[simp] theorem State.setPort_rd64_of (k : Nat) (r : PortRt) (q y : Nat) : (s.setPort k r).rd64 q y = s.rd64 q y := rfl
@[simp] theorem State.setPort_winGet_of (k : Nat) (r : PortRt) (q : Nat) : (s.setPort k r).winGet q = s.winGet q := rfl
@[simp] theorem State.setPort_nvmByte_of (k : Nat) (r : PortRt) (q : Nat) : (s.setPort k r).nvmByte q = s.nvmByte q := rfl
@[simp] theorem State.setPort_nvmGroup_of (k : Nat) (r : PortRt) (q : Nat) : (s.setPort k r).nvmGroup q = s.nvmGroup q := rfl
@[simp] theorem State.setPort_counter_of (k : Nat) (r : PortRt) (q : Nat) : (s.setPort k r).counter q = s.counter q := rfl
@[simp] theorem State.setPort_hrwInst_of (k : Nat) (r : PortRt) (q y : Nat) : (s.setPort k r).hrwInst q y = s.hrwInst q y := rfl
@[simp] theorem State.setPort_us_of (k : Nat) (r : PortRt) : (s.setPort k r).us = s.us := rfl
@[simp] theorem State.setPort_srcRt_of (k : Nat) (r : PortRt) (q : Nat) : (s.setPort k r).srcRt q = s.srcRt q := rfl
@[simp] theorem State.setPort_pair_of (k : Nat) (r : PortRt) (q : Nat) : (s.setPort k r).pair q = s.pair q := rfl
@[simp] theorem State.setPort_coord_of (k : Nat) (r : PortRt) (q : Nat) : (s.setPort k r).coord q = s.coord q := rfl
@[simp] theorem State.setPort_gpt_of (k : Nat) (r : PortRt) (q : Nat) : (s.setPort k r).gpt q = s.gpt q := rfl
@[simp] theorem State.setPort_stage_of (k : Nat) (r : PortRt) (q : Nat) : (s.setPort k r).stage q = s.stage q := rfl
@[simp] theorem State.setPort_rail_of (k : Nat) (r : PortRt) (q : Nat) : (s.setPort k r).rail q = s.rail q := rfl
@[simp] theorem State.setPort_supply_of (k : Nat) (r : PortRt) (q : Nat) : (s.setPort k r).supply q = s.supply q := rfl
@[simp] theorem State.setPort_xfer_of (k : Nat) (r : PortRt) (q : Nat) : (s.setPort k r).xfer q = s.xfer q := rfl
@[simp] theorem State.setPort_psw_of (k : Nat) (r : PortRt) (q : Nat) : (s.setPort k r).psw q = s.psw q := rfl
@[simp] theorem State.setPort_pack_of (k : Nat) (r : PortRt) (q : Nat) : (s.setPort k r).pack q = s.pack q := rfl
@[simp] theorem State.setPort_can_of (k : Nat) (r : PortRt) (q : Nat) : (s.setPort k r).can q = s.can q := rfl
@[simp] theorem State.setPort_gln_of (k : Nat) (r : PortRt) (q : Nat) : (s.setPort k r).gln q = s.gln q := rfl

@[simp] theorem State.setGln_rd_of (k : Nat) (r : GlnRt) (q : Nat) : (s.setGln k r).rd q = s.rd q := rfl
@[simp] theorem State.setGln_f_of (k : Nat) (r : GlnRt) (q : Nat) (d : Fld) : (s.setGln k r).f q d = s.f q d := rfl
@[simp] theorem State.setGln_flag_of (k : Nat) (r : GlnRt) (q : Nat) (d : Fld) : (s.setGln k r).flag q d = s.flag q d := rfl
@[simp] theorem State.setGln_rdN_of (k : Nat) (r : GlnRt) (q : Nat) : (s.setGln k r).rdN q = s.rdN q := rfl
@[simp] theorem State.setGln_rd64_of (k : Nat) (r : GlnRt) (q y : Nat) : (s.setGln k r).rd64 q y = s.rd64 q y := rfl
@[simp] theorem State.setGln_winGet_of (k : Nat) (r : GlnRt) (q : Nat) : (s.setGln k r).winGet q = s.winGet q := rfl
@[simp] theorem State.setGln_nvmByte_of (k : Nat) (r : GlnRt) (q : Nat) : (s.setGln k r).nvmByte q = s.nvmByte q := rfl
@[simp] theorem State.setGln_nvmGroup_of (k : Nat) (r : GlnRt) (q : Nat) : (s.setGln k r).nvmGroup q = s.nvmGroup q := rfl
@[simp] theorem State.setGln_counter_of (k : Nat) (r : GlnRt) (q : Nat) : (s.setGln k r).counter q = s.counter q := rfl
@[simp] theorem State.setGln_hrwInst_of (k : Nat) (r : GlnRt) (q y : Nat) : (s.setGln k r).hrwInst q y = s.hrwInst q y := rfl
@[simp] theorem State.setGln_us_of (k : Nat) (r : GlnRt) : (s.setGln k r).us = s.us := rfl
@[simp] theorem State.setGln_srcRt_of (k : Nat) (r : GlnRt) (q : Nat) : (s.setGln k r).srcRt q = s.srcRt q := rfl
@[simp] theorem State.setGln_pair_of (k : Nat) (r : GlnRt) (q : Nat) : (s.setGln k r).pair q = s.pair q := rfl
@[simp] theorem State.setGln_coord_of (k : Nat) (r : GlnRt) (q : Nat) : (s.setGln k r).coord q = s.coord q := rfl
@[simp] theorem State.setGln_gpt_of (k : Nat) (r : GlnRt) (q : Nat) : (s.setGln k r).gpt q = s.gpt q := rfl
@[simp] theorem State.setGln_stage_of (k : Nat) (r : GlnRt) (q : Nat) : (s.setGln k r).stage q = s.stage q := rfl
@[simp] theorem State.setGln_rail_of (k : Nat) (r : GlnRt) (q : Nat) : (s.setGln k r).rail q = s.rail q := rfl
@[simp] theorem State.setGln_supply_of (k : Nat) (r : GlnRt) (q : Nat) : (s.setGln k r).supply q = s.supply q := rfl
@[simp] theorem State.setGln_xfer_of (k : Nat) (r : GlnRt) (q : Nat) : (s.setGln k r).xfer q = s.xfer q := rfl
@[simp] theorem State.setGln_psw_of (k : Nat) (r : GlnRt) (q : Nat) : (s.setGln k r).psw q = s.psw q := rfl
@[simp] theorem State.setGln_pack_of (k : Nat) (r : GlnRt) (q : Nat) : (s.setGln k r).pack q = s.pack q := rfl
@[simp] theorem State.setGln_can_of (k : Nat) (r : GlnRt) (q : Nat) : (s.setGln k r).can q = s.can q := rfl
@[simp] theorem State.setGln_port_of (k : Nat) (r : GlnRt) (q : Nat) : (s.setGln k r).port q = s.port q := rfl

end Sys2Proof.Machine
end

