-- ==== Sys2Proof/Laws/Table.lean ====
section
/-! SUPPORT. What the sparse tables guarantee: a read after a write gives the value written, a write leaves every other key
alone, and every write keeps the canonical form. -/

namespace Sys2Proof.Machine

variable {α : Type}

theorem tabFind_erase_same (t : Tab α) (k : Nat) : tabFind (tabErase t k) k = none := by
  induction t with
  | nil => rfl
  | cons p t ih =>
    obtain ⟨k', v⟩ := p
    by_cases h : k' = k <;> simp [tabErase, tabFind, h, ih]

theorem tabFind_erase_other (t : Tab α) {k j : Nat} (h : j ≠ k) : tabFind (tabErase t k) j = tabFind t j := by
  induction t with
  | nil => rfl
  | cons p t ih =>
    obtain ⟨k', v⟩ := p
    by_cases h1 : k' = k
    · subst h1; simp [tabErase, tabFind, ih, Ne.symm h]
    · by_cases h2 : k' = j
      · subst h2; simp [tabErase, tabFind, h1]
      · simp [tabErase, tabFind, h1, h2, ih]

theorem tabFind_insert_same (t : Tab α) (k : Nat) (v : α) : tabFind (tabInsert t k v) k = some v := by
  induction t with
  | nil => simp [tabInsert, tabFind]
  | cons p t ih =>
    obtain ⟨k', v'⟩ := p
    unfold tabInsert
    split
    · simp [tabFind]
    · split
      · simp [tabFind]
      · rename_i h1 h2; simp [tabFind, Ne.symm h2, ih]

theorem tabFind_insert_other (t : Tab α) {k j : Nat} (v : α) (h : j ≠ k) :
    tabFind (tabInsert t k v) j = tabFind t j := by
  induction t with
  | nil => simp [tabInsert, tabFind, Ne.symm h]
  | cons p t ih =>
    obtain ⟨k', v'⟩ := p
    unfold tabInsert
    split
    · simp [tabFind, Ne.symm h]
    · split
      · rename_i h1 h2; subst h2; simp [tabFind, Ne.symm h, tabFind_erase_other t h]
      · by_cases h3 : k' = j <;> simp [tabFind, h3, ih]

@[simp] theorem tabGet_set_same [DecidableEq α] (d : Nat → α) (t : Tab α) (k : Nat) (v : α) :
    tabGet d (tabSet d t k v) k = v := by
  unfold tabGet tabSet
  split
  · rename_i h; simp [tabFind_erase_same, h]
  · simp [tabFind_insert_same]

theorem tabGet_set_other [DecidableEq α] (d : Nat → α) (t : Tab α) {k j : Nat} (v : α) (h : j ≠ k) :
    tabGet d (tabSet d t k v) j = tabGet d t j := by
  unfold tabGet tabSet
  split
  · simp [tabFind_erase_other t h]
  · simp [tabFind_insert_other t v h]

theorem tabErase_all (t : Tab α) (k : Nat) (p : Nat × α → Bool) (h : t.all p = true) :
    (tabErase t k).all p = true := by
  induction t with
  | nil => rfl
  | cons q t ih =>
    obtain ⟨k', v⟩ := q
    simp only [List.all_cons, Bool.and_eq_true] at h
    unfold tabErase
    split
    · exact ih h.2
    · simp [h.1, ih h.2]

theorem tabErase_wf [DecidableEq α] (d : Nat → α) (t : Tab α) (k : Nat) (h : tabWf d t = true) :
    tabWf d (tabErase t k) = true := by
  induction t with
  | nil => rfl
  | cons q t ih =>
    obtain ⟨k', v⟩ := q
    simp only [tabWf, Bool.and_eq_true] at h
    unfold tabErase
    split
    · exact ih h.2
    · simp only [tabWf, Bool.and_eq_true]
      exact ⟨⟨h.1.1, tabErase_all t k _ h.1.2⟩, ih h.2⟩

theorem tabInsert_all (t : Tab α) (k : Nat) (v : α) (p : Nat × α → Bool) (h : t.all p = true) (hk : p (k, v) = true) :
    (tabInsert t k v).all p = true := by
  induction t with
  | nil => simp [tabInsert, hk]
  | cons q t ih =>
    obtain ⟨k', v'⟩ := q
    simp only [List.all_cons, Bool.and_eq_true] at h
    unfold tabInsert
    split
    · simp [hk, h.1]; simpa using h.2
    · split
      · simp only [List.all_cons, hk, Bool.true_and]; exact tabErase_all t k p h.2
      · simp [h.1, ih h.2]

theorem tabInsert_wf [DecidableEq α] (d : Nat → α) (t : Tab α) (k : Nat) (v : α) (hv : v ≠ d k)
    (h : tabWf d t = true) : tabWf d (tabInsert t k v) = true := by
  induction t with
  | nil => simp [tabInsert, tabWf, hv]
  | cons q t ih =>
    obtain ⟨k', v'⟩ := q
    have h0 := h
    simp only [tabWf, Bool.and_eq_true] at h
    unfold tabInsert
    split
    · rename_i hlt
      rw [tabWf]
      simp only [Bool.and_eq_true, List.all_cons, decide_eq_true_eq]
      refine ⟨⟨hv, hlt, ?_⟩, h0⟩
      rw [List.all_eq_true] at *
      intro x hx
      have := h.1.2 x hx
      simp only [decide_eq_true_eq] at this ⊢
      omega
    · split
      · rename_i h1 h2
        subst h2
        rw [tabWf]
        simp only [Bool.and_eq_true, decide_eq_true_eq]
        exact ⟨⟨hv, tabErase_all t k _ h.1.2⟩, tabErase_wf d t k h.2⟩
      · rename_i h1 h2
        rw [tabWf]
        simp only [Bool.and_eq_true]
        exact ⟨⟨h.1.1, tabInsert_all t k v _ h.1.2 (by simp; omega)⟩, ih h.2⟩

/-- Every write keeps the canonical form. -/
theorem tabSet_wf [DecidableEq α] (d : Nat → α) (t : Tab α) (k : Nat) (v : α) (h : tabWf d t = true) :
    tabWf d (tabSet d t k v) = true := by
  unfold tabSet
  split
  · exact tabErase_wf d t k h
  · rename_i hv; exact tabInsert_wf d t k v hv h

end Sys2Proof.Machine
end

