-- ==== Sys2Proof/Laws/Ops.lean ====
section
/-! SUPPORT. What the named operations over State do, said once each: registers and fields read what was written, per-unit
records likewise, every memory operation keeps the canonical form, and a step that reports nothing settles to itself. -/

namespace Sys2Proof.Machine

variable (s : State)

/-! Registers and their fields. -/

@[simp] theorem State.rd_wr_same (o : Nat) (v : Word) : (s.wr o v).rd o = v := tabGet_set_same _ _ _ _

theorem State.rd_wr_other {o x : Nat} (v : Word) (h : x ≠ o) : (s.wr o v).rd x = s.rd x := tabGet_set_other _ _ _ h

theorem State.rd_wr (o x : Nat) (v : Word) : (s.wr o v).rd x = if x = o then v else s.rd x := by
  split
  · subst x; simp
  · rename_i h; exact s.rd_wr_other v h

@[simp] theorem State.rd_wrN_same (o v : Nat) : (s.wrN o v).rd o = BitVec.ofNat 32 v := s.rd_wr_same o _

theorem State.rd_wrN_other {o x : Nat} (v : Nat) (h : x ≠ o) : (s.wrN o v).rd x = s.rd x := s.rd_wr_other _ h

@[simp] theorem State.rdN_wrN_same (o v : Nat) : (s.wrN o v).rdN o = v % 2 ^ 32 := by
  unfold State.rdN; rw [s.rd_wrN_same, BitVec.toNat_ofNat]

@[simp] theorem State.rd_setF_same (o : Nat) (g : Fld) (v : Nat) :
    (s.setF o g v).rd o = putBits (s.rd o) g.lo g.w v := s.rd_wr_same o _

theorem State.rd_setF_other {o x : Nat} (g : Fld) (v : Nat) (h : x ≠ o) : (s.setF o g v).rd x = s.rd x := s.rd_wr_other _ h

theorem State.rd_setF (o x : Nat) (g : Fld) (v : Nat) :
    (s.setF o g v).rd x = if x = o then putBits (s.rd o) g.lo g.w v else s.rd x := s.rd_wr o x _

/-- A field reads the value last written to it. -/
theorem State.f_setF_same (o : Nat) (g : Fld) (v : Nat) (h : g.lo + g.w ≤ 32) : (s.setF o g v).f o g = v % 2 ^ g.w := by
  unfold State.f; rw [s.rd_setF_same]; exact getBits_putBits_same _ v h

/-- A field of the same register that shares no bit with the one written stays. -/
theorem State.f_setF_field {o : Nat} {g d : Fld} (v : Nat) (h : g.lo + g.w ≤ 32) (h' : d.lo + d.w ≤ 32)
    (hd : d.lo + d.w ≤ g.lo ∨ g.lo + g.w ≤ d.lo) : (s.setF o g v).f o d = s.f o d := by
  unfold State.f; rw [s.rd_setF_same]; exact getBits_putBits_other _ v h h' hd

/-- A field of another register stays. -/
theorem State.f_setF_reg {o x : Nat} (g d : Fld) (v : Nat) (h : x ≠ o) : (s.setF o g v).f x d = s.f x d := by
  unfold State.f; rw [s.rd_setF_other g v h]

theorem State.f_wr_reg {o x : Nat} (d : Fld) (v : Word) (h : x ≠ o) : (s.wr o v).f x d = s.f x d := by
  unfold State.f; rw [s.rd_wr_other v h]

theorem State.f_lt (o : Nat) (g : Fld) (h : g.w ≤ 32) : s.f o g < 2 ^ g.w := getBits_lt _ _ _ h

theorem State.flag_iff (o : Nat) (g : Fld) : s.flag o g = true ↔ s.f o g ≠ 0 := by
  unfold State.flag; simp

/-- A counting field counts and saturates. -/
theorem State.f_bump_same (o : Nat) (g : Fld) (k : Nat) (h : g.lo + g.w ≤ 32) :
    (s.bump o g k).f o g = min (s.f o g + k) (2 ^ g.w - 1) := by
  have h1 : 0 < 2 ^ g.w := Nat.pow_pos (by decide)
  unfold State.bump
  rw [State.f_setF_same _ o g _ h, sat, Nat.mod_eq_of_lt (by omega)]

theorem State.f_addF_same (o : Nat) (g : Fld) (k : Nat) (h : g.lo + g.w ≤ 32) :
    (s.addF o g k).f o g = min (s.f o g + k) (2 ^ g.w - 1) := by
  have h1 : 0 < 2 ^ g.w := Nat.pow_pos (by decide)
  unfold State.addF
  rw [s.f_setF_same o g _ h, sat, Nat.mod_eq_of_lt (by omega)]

theorem State.f_hwSet_same (o : Nat) (g : Fld) (v : Nat) (h : g.lo + g.w ≤ 32) : (s.hwSet o g v).f o g = v % 2 ^ g.w :=
  State.f_setF_same _ o g v h

theorem State.rd_hwSet_other {o x : Nat} (g : Fld) (v : Nat) (h : x ≠ o) : (s.hwSet o g v).rd x = s.rd x :=
  State.rd_setF_other _ g v h

/-! Per-unit records. -/

@[simp] theorem State.srcRt_setSrc (k : Nat) (r : SrcRt) : (s.setSrc k r).srcRt k = r := tabGet_set_same _ _ _ _
@[simp] theorem State.pair_setPair (k : Nat) (r : PairRt) : (s.setPair k r).pair k = r := tabGet_set_same _ _ _ _
@[simp] theorem State.coord_setCoord (k : Nat) (r : CoordRt) : (s.setCoord k r).coord k = r := tabGet_set_same _ _ _ _
@[simp] theorem State.gpt_setGpt (k : Nat) (r : GptRt) : (s.setGpt k r).gpt k = r := tabGet_set_same _ _ _ _
@[simp] theorem State.stage_setStage (k : Nat) (r : StageRt) : (s.setStage k r).stage k = r := tabGet_set_same _ _ _ _
@[simp] theorem State.rail_setRail (k : Nat) (r : RailRt) : (s.setRail k r).rail k = r := tabGet_set_same _ _ _ _
@[simp] theorem State.supply_setSupply (k : Nat) (r : SupplyRt) : (s.setSupply k r).supply k = r := tabGet_set_same _ _ _ _
@[simp] theorem State.xfer_setXfer (k : Nat) (r : XferRt) : (s.setXfer k r).xfer k = r := tabGet_set_same _ _ _ _
@[simp] theorem State.psw_setPsw (k : Nat) (r : PswRt) : (s.setPsw k r).psw k = r := tabGet_set_same _ _ _ _
@[simp] theorem State.pack_setPack (k : Nat) (r : PackRt) : (s.setPack k r).pack k = r := tabGet_set_same _ _ _ _
@[simp] theorem State.can_setCan (k : Nat) (r : CanRt) : (s.setCan k r).can k = r := tabGet_set_same _ _ _ _
@[simp] theorem State.port_setPort (k : Nat) (r : PortRt) : (s.setPort k r).port k = r := tabGet_set_same _ _ _ _
@[simp] theorem State.gln_setGln (k : Nat) (r : GlnRt) : (s.setGln k r).gln k = r := tabGet_set_same _ _ _ _
@[simp] theorem State.counter_setCounter (k : Nat) (r : CntRt) : (s.setCounter k r).counter k = r := tabGet_set_same _ _ _ _
@[simp] theorem State.hrwInst_setHrw (i j : Nat) (r : HrwInst) : (s.setHrw i j r).hrwInst i j = r := tabGet_set_same _ _ _ _

theorem State.srcRt_setSrc_ne {k j : Nat} (r : SrcRt) (h : j ≠ k) : (s.setSrc k r).srcRt j = s.srcRt j := tabGet_set_other _ _ _ h
theorem State.pair_setPair_ne {k j : Nat} (r : PairRt) (h : j ≠ k) : (s.setPair k r).pair j = s.pair j := tabGet_set_other _ _ _ h
theorem State.coord_setCoord_ne {k j : Nat} (r : CoordRt) (h : j ≠ k) : (s.setCoord k r).coord j = s.coord j :=
  tabGet_set_other _ _ _ h
theorem State.gpt_setGpt_ne {k j : Nat} (r : GptRt) (h : j ≠ k) : (s.setGpt k r).gpt j = s.gpt j := tabGet_set_other _ _ _ h
theorem State.stage_setStage_ne {k j : Nat} (r : StageRt) (h : j ≠ k) : (s.setStage k r).stage j = s.stage j :=
  tabGet_set_other _ _ _ h
theorem State.rail_setRail_ne {k j : Nat} (r : RailRt) (h : j ≠ k) : (s.setRail k r).rail j = s.rail j := tabGet_set_other _ _ _ h
theorem State.supply_setSupply_ne {k j : Nat} (r : SupplyRt) (h : j ≠ k) : (s.setSupply k r).supply j = s.supply j :=
  tabGet_set_other _ _ _ h
theorem State.xfer_setXfer_ne {k j : Nat} (r : XferRt) (h : j ≠ k) : (s.setXfer k r).xfer j = s.xfer j := tabGet_set_other _ _ _ h
theorem State.psw_setPsw_ne {k j : Nat} (r : PswRt) (h : j ≠ k) : (s.setPsw k r).psw j = s.psw j := tabGet_set_other _ _ _ h
theorem State.pack_setPack_ne {k j : Nat} (r : PackRt) (h : j ≠ k) : (s.setPack k r).pack j = s.pack j := tabGet_set_other _ _ _ h
theorem State.can_setCan_ne {k j : Nat} (r : CanRt) (h : j ≠ k) : (s.setCan k r).can j = s.can j := tabGet_set_other _ _ _ h
theorem State.port_setPort_ne {k j : Nat} (r : PortRt) (h : j ≠ k) : (s.setPort k r).port j = s.port j := tabGet_set_other _ _ _ h
theorem State.gln_setGln_ne {k j : Nat} (r : GlnRt) (h : j ≠ k) : (s.setGln k r).gln j = s.gln j := tabGet_set_other _ _ _ h
theorem State.counter_setCounter_ne {k j : Nat} (r : CntRt) (h : j ≠ k) : (s.setCounter k r).counter j = s.counter j :=
  tabGet_set_other _ _ _ h

/-! Memory: reading after writing. -/

theorem State.winGet_winSet_same (a : Nat) (b : Byte) : (s.winSet a b).winGet a = b := by
  simp only [State.winSet]
  split <;> exact tabGet_set_same _ _ _ _

theorem State.winGet_winSet_other {a x : Nat} (b : Byte) (h : x ≠ a) : (s.winSet a b).winGet x = s.winGet x := by
  simp only [State.winSet]
  split <;> exact tabGet_set_other _ _ _ h

/-- Bytes outside those that a window write stores keep what they held. -/
theorem State.winGet_winWrite_other {x : Nat} (bs : List Byte) :
    ∀ (s : State) (a : Nat), (x < a ∨ a + bs.length ≤ x) → (s.winWrite a bs).winGet x = s.winGet x := by
  induction bs with
  | nil => intro s a _; rfl
  | cons b t ih =>
    intro s a h
    simp only [List.length_cons] at h
    unfold State.winWrite
    rw [ih _ _ (by omega)]
    split
    · exact s.winGet_winSet_other b (by omega)
    · rfl

theorem State.nvmByte_setNvmByte_same (a : Nat) (b : Byte) : (s.setNvmByte a b).nvmByte a = b := tabGet_set_same _ _ _ _

theorem State.nvmByte_setNvmByte_other {a x : Nat} (b : Byte) (h : x ≠ a) : (s.setNvmByte a b).nvmByte x = s.nvmByte x :=
  tabGet_set_other _ _ _ h

@[simp] theorem State.nvmByte_setNvmGroup (g : Nat) (st : GroupStatus) (x : Nat) :
    (s.setNvmGroup g st).nvmByte x = s.nvmByte x := rfl

@[simp] theorem State.nvmGroup_setNvmByte (a : Nat) (b : Byte) (g : Nat) : (s.setNvmByte a b).nvmGroup g = s.nvmGroup g := rfl

@[simp] theorem State.nvmGroup_setNvmGroup_same (g : Nat) (st : GroupStatus) : (s.setNvmGroup g st).nvmGroup g = st :=
  tabGet_set_same _ _ _ _

theorem State.nvmGroup_setNvmGroup_other {g x : Nat} (st : GroupStatus) (h : x ≠ g) :
    (s.setNvmGroup g st).nvmGroup x = s.nvmGroup x := tabGet_set_other _ _ _ h

@[simp] theorem State.nvmByte_setCounter (k : Nat) (r : CntRt) (x : Nat) : (s.setCounter k r).nvmByte x = s.nvmByte x := rfl
@[simp] theorem State.nvmGroup_setCounter (k : Nat) (r : CntRt) (x : Nat) : (s.setCounter k r).nvmGroup x = s.nvmGroup x := rfl

/-! The canonical form. -/

theorem State.wf_iff : s.wf = true ↔
    tabWf resetWord s.regs = true ∧ tabWf winDefault s.localWin = true ∧ tabWf nvmDefault s.nvm.bytes = true := by
  simp [State.wf, and_assoc]

theorem State.wf_wr (o : Nat) (v : Word) (h : s.wf = true) : (s.wr o v).wf = true := by
  rw [State.wf_iff] at *
  exact ⟨tabSet_wf _ _ _ _ h.1, h.2⟩

theorem State.wf_setF (o : Nat) (g : Fld) (v : Nat) (h : s.wf = true) : (s.setF o g v).wf = true := s.wf_wr o _ h

theorem State.wf_wrN (o v : Nat) (h : s.wf = true) : (s.wrN o v).wf = true := s.wf_wr o _ h

theorem State.wf_wr64 (a b v : Nat) (h : s.wf = true) : (s.wr64 a b v).wf = true := State.wf_wrN _ b _ (s.wf_wrN a v h)

theorem State.wf_noteNew (o : Nat) (g : Fld) (v : Nat) (h : s.wf = true) : (s.noteNew o g v).wf = true := h

theorem State.wf_bump (o : Nat) (g : Fld) (k : Nat) (h : s.wf = true) : (s.bump o g k).wf = true :=
  State.wf_setF _ o g _ (s.wf_noteNew o g _ h)

theorem State.wf_hwSet (o : Nat) (g : Fld) (v : Nat) (h : s.wf = true) : (s.hwSet o g v).wf = true :=
  State.wf_setF _ o g _ (s.wf_noteNew o g _ h)

/-- An update that leaves the registers, the window and the NVM bytes alone keeps the form. -/
theorem State.wf_congr {t : State} (h1 : t.regs = s.regs) (h2 : t.localWin = s.localWin) (h3 : t.nvm.bytes = s.nvm.bytes)
    (h : s.wf = true) : t.wf = true := by
  unfold State.wf at *; rw [h1, h2, h3]; exact h

theorem State.wf_winSet (a : Nat) (b : Byte) (h : s.wf = true) : (s.winSet a b).wf = true := by
  have h1 : State.wf { s with localWin := tabSet winDefault s.localWin a b } = true := by
    rw [State.wf_iff] at *
    exact ⟨h.1, tabSet_wf _ _ _ _ h.2.1, h.2.2⟩
  simp only [State.winSet]
  split
  · exact State.wf_hwSet _ _ _ _ (State.wf_setF _ _ _ _ h1)
  · exact h1

theorem State.wf_winWrite (bs : List Byte) : ∀ (s : State) (a : Nat), s.wf = true → (s.winWrite a bs).wf = true := by
  induction bs with
  | nil => intro s a h; exact h
  | cons b t ih =>
    intro s a h
    unfold State.winWrite
    apply ih
    split
    · exact s.wf_winSet a b h
    · exact h

theorem State.wf_setNvmByte (a : Nat) (b : Byte) (h : s.wf = true) : (s.setNvmByte a b).wf = true := by
  rw [State.wf_iff] at *
  exact ⟨h.1, h.2.1, tabSet_wf _ _ _ _ h.2.2⟩

theorem State.wf_setNvmGroup (g : Nat) (st : GroupStatus) (h : s.wf = true) : (s.setNvmGroup g st).wf = true :=
  s.wf_congr rfl rfl rfl h

/-- A fold of operations that keep the form keeps it. -/
theorem State.wf_foldl {α : Type} (g : State → α → State) (hg : ∀ s a, s.wf = true → (g s a).wf = true) (l : List α) :
    ∀ s : State, s.wf = true → (l.foldl g s).wf = true := by
  induction l with
  | nil => intro s h; exact h
  | cons a t ih => intro s h; exact ih _ (hg s a h)

theorem State.wf_programGroup (g : Nat) (bytes : List Byte) (h : s.wf = true) : (s.programGroup g bytes).wf = true := by
  unfold State.programGroup
  exact State.wf_setNvmGroup _ _ _ (State.wf_foldl _ (fun t a ht => t.wf_setNvmByte _ _ ht) _ _ h)

theorem State.wf_clearGroup (g : Nat) (h : s.wf = true) : (s.clearGroup g).wf = true :=
  State.wf_setNvmGroup _ _ _ (State.wf_foldl _ (fun t _ ht => t.wf_setNvmByte _ _ ht) _ _ h)

theorem State.wf_unqueuePage (p : Nat) (h : s.wf = true) : (s.unqueuePage p).wf = true := by
  unfold State.unqueuePage
  split
  · exact State.wf_setF _ _ _ _ (s.wf_congr rfl rfl rfl h)
  · exact h

theorem State.wf_queuePage (p : Nat) (h : s.wf = true) : (s.queuePage p).wf = true := by
  unfold State.queuePage
  split
  · exact h
  · exact State.wf_setF _ _ _ _ (s.wf_congr rfl rfl rfl h)

theorem State.wf_erasePage (p : Nat) (h : s.wf = true) : (s.erasePage p).wf = true :=
  State.wf_unqueuePage _ p (State.wf_foldl _ (fun t _ ht => t.wf_clearGroup _ ht) _ _ h)

theorem State.wf_reset : State.reset.wf = true := by decide

/-! Free values, the outbox, reports. -/

theorem State.takeFree_lt (w : Nat) : (s.takeFree w).1 < 2 ^ w := Nat.mod_lt _ (Nat.pow_pos (by decide))

@[simp] theorem State.takeFree_snd (w : Nat) : (s.takeFree w).2 = { s with free := s.free + 1 } := rfl

@[simp] theorem State.emit_outbox (e : Emit) : (s.emit e).outbox = s.outbox ++ [e] := rfl

@[simp] theorem State.emits_outbox (es : List Emit) : (s.emits es).outbox = s.outbox ++ es := rfl

@[simp] theorem State.raise_raised (i j : Nat) (b : List Byte) :
    (s.raise i j b).raised = s.raised ++ [⟨i, j % 16, padTo 16 b⟩] := rfl

end Sys2Proof.Machine
end

