-- ==== Sys2Proof/Laws/Settle.lean ====
section
/-! SUPPORT. The end of a step (log 12): whatever was reported has settled, a step that reports nothing settles to itself, and what
`act` makes of a command's effect. -/

namespace Sys2Proof.Machine

theorem State.settleN_raised (n : Nat) : ∀ s : State, (s.settleN n).raised = [] := by
  induction n with
  | zero => intro s; rfl
  | succ n ih =>
    intro s
    rw [State.settleN]
    split
    · rename_i h; simpa using h
    · exact ih _

/-- After a step nothing reported is left over. -/
@[simp] theorem State.settle_raised (s : State) : s.settle.raised = [] := State.settleN_raised 6 s

theorem State.settle_quiet {s : State} (h : s.raised = []) : s.settle = s := by
  unfold State.settle State.settleN
  rw [if_pos (by simp [h])]

/-- A powered block runs the command and settles. -/
theorem State.act_on {s : State} (g : State → State) (h : s.sys.power = .on) : s.act g = .next (g s).settle := by
  unfold State.act; rw [if_pos h]

/-- A block without power takes no command. -/
theorem State.act_off {s : State} (g : State → State) (h : s.sys.power ≠ .on) : s.act g = .next s := by
  unfold State.act; rw [if_neg h]

/-- A powered block whose command reports nothing answers the command's own result. -/
theorem State.act_quiet {s : State} (g : State → State) (h : s.sys.power = .on) (hr : (g s).raised = []) :
    s.act g = .next (g s) := by
  rw [State.act_on g h, State.settle_quiet hr]

end Sys2Proof.Machine
end

