-- ==== Sys2Proof/Tests/Slice0.lean ====
section
/-! SUPPORT. Tests: ill-formed commands are refused; and for the statements of Certificates/Slice0/Obligations.lean, witnesses: a state and
operands that meet the hypotheses of a clause, with what one command then leaves, worked out by hand from the rules that the statement
names. Each witness is one element of a list; a theorem says that all of its list hold. -/

set_option Elab.async false

namespace Sys2Proof.Tests

open Sys2Proof Sys2Proof.Machine

/-! How a witness is written. -/

/-- The state after reset with some fields set. -/
def st (l : List (Nat × Fld × Nat)) : State := l.foldl (fun s x => s.setF x.1 x.2.1 x.2.2) State.reset

/-- The state after reset with some registers set. -/
def mk (l : List (Nat × Nat)) : State := l.foldl (fun s x => s.wrN x.1 x.2) State.reset

/-- What a check says of the state that a command leaves. -/
def run (c : Instr) (s : State) (q : State → Bool) : Bool :=
  match exec c s with
  | .next t => q t
  | .fault _ => false
  | .refused _ => false

/-- A powered state without reports, in whose cycle no path has written yet, that meets hypotheses, and what a command leaves of it. -/
def meets (s : State) (h : Prop) [Decidable h] (c : Instr) (q : State → Bool) : Bool :=
  decide (s.sys.power = .on ∧ s.raised = [] ∧ s.cycleRt.events.all (fun x => decide (x.1 < 20)) = true) && decide h && run c s q

/-- The same without power. -/
def meetsOff (s : State) (h : Prop) [Decidable h] (c : Instr) (q : State → Bool) : Bool := decide h && run c s q

/-- The state meets hypotheses, where what the command leaves rests on a free value, so that only they are evaluated. -/
def holds (s : State) (h : Prop) [Decidable h] : Bool :=
  decide (s.sys.power = .on ∧ s.raised = [] ∧ s.cycleRt.events.all (fun x => decide (x.1 < 20)) = true) && decide h

/-- A fault has been counted by Harrow. -/
def seen (id inst : Nat) (t : State) : Bool := (t.hrwInst id inst).occur == 1

/-- The command leaves the state as it is, but for the note of what its cycle has done. -/
def same (s : State) (t : State) : Bool := { t with cycle := s.cycle } == s

/-- A 64-byte entry with some bytes set. -/
def entry (l : List (Nat × Nat)) : List Byte :=
  l.foldl (fun b x => b.set x.1 (BitVec.ofNat 8 x.2)) (List.replicate 64 0#8)

/-- Put a value of some bytes into an entry. -/
def put (e : List Byte) (o n v : Nat) : List Byte :=
  (List.range n).foldl (fun b k => b.set (o + k) (BitVec.ofNat 8 (v / 256 ^ k))) e

/-- A fabric: stage 0 between pack 8 and rail 0, stage 1 from input 16 to rail 0, both of topology 1, with their SERIES switches. -/
def fabFields : List (Nat × Fld × Nat) :=
  [(R.FAB_NODE_VRANGE 0, F.FAB_NODE_VRANGE_V_MIN, 3000), (R.FAB_NODE_VRANGE 0, F.FAB_NODE_VRANGE_V_MAX, 5000),
    (R.FAB_NODE_VRANGE 8, F.FAB_NODE_VRANGE_V_MIN, 6000), (R.FAB_NODE_VRANGE 8, F.FAB_NODE_VRANGE_V_MAX, 9000),
    (R.FAB_NODE_VRANGE 16, F.FAB_NODE_VRANGE_V_MIN, 9000), (R.FAB_NODE_VRANGE 16, F.FAB_NODE_VRANGE_V_MAX, 20000),
    (R.STAGE_NODES 0, F.STAGE_NODES_FROM, 8), (R.STAGE_NODES 0, F.STAGE_NODES_TO, 0), (R.STAGE_NODES 0, F.STAGE_NODES_TOPO, 1),
    (R.STAGE_NODES 0, F.STAGE_NODES_REV_EN, 1), (R.STAGE_HBMAP 0, F.STAGE_HBMAP_HB, 1), (R.STAGE_P_RATED 0, F.STAGE_P_RATED_P_RATED, 10000),
    (R.STAGE_NODES 1, F.STAGE_NODES_FROM, 16), (R.STAGE_NODES 1, F.STAGE_NODES_TO, 0), (R.STAGE_NODES 1, F.STAGE_NODES_TOPO, 1),
    (R.STAGE_HBMAP 1, F.STAGE_HBMAP_HB, 64), (R.STAGE_P_RATED 1, F.STAGE_P_RATED_P_RATED, 10000),
    (R.STAGE_THERM 0, F.STAGE_THERM_T_DERATE, 90), (R.STAGE_THERM 0, F.STAGE_THERM_T_MAX, 120),
    (R.STAGE_THERM 1, F.STAGE_THERM_T_DERATE, 90), (R.STAGE_THERM 1, F.STAGE_THERM_T_MAX, 120),
    (R.PSW_CFG 0, F.PSW_CFG_ROLE, 1), (R.PSW_CFG 0, F.PSW_CFG_NODE_A, 8), (R.PSW_CFG 2, F.PSW_CFG_ROLE, 1), (R.PSW_CFG 2, F.PSW_CFG_NODE_A, 16)]
  ++ [0, 1, 2, 3].flatMap (fun k => [(R.STAGE_EFF_FWD 0 k, ⟨0, 32⟩, 9000 * 65537), (R.STAGE_EFF_REV 0 k, ⟨0, 32⟩, 9000 * 65537),
      (R.STAGE_EFF_FWD 1 k, ⟨0, 32⟩, 9000 * 65537)])

/-- The block in RUN with that fabric in force, rail 0 at 4000 mV and some more fields set. -/
def fb (l : List (Nat × Fld × Nat)) : State :=
  let s := st (fabFields ++ [(R.GLB_STATUS, F.GLB_STATUS_RUN_READY, 1), (R.FAB_STATUS, F.FAB_STATUS_STATE, 2),
    (R.RAIL_STATUS 0, F.RAIL_STATUS_REF, 4000)] ++ l)
  { s with fab := some s.fabCopy, sys := { s.sys with starting := false } }

/-- The same at a time in µs. -/
def later (s : State) (us : Nat) : State := { s with cyc := 200 * us }

/-! WellFormed: one ill-formed term for each check. -/

theorem test_wf_register : Instr.wf (.registerWrite .spi 0x40000 0#32 15) = false := by decide
theorem test_wf_aligned : Instr.wf (.registerWrite .spi 2 0#32 15) = false := by decide
theorem test_wf_rc_read : Instr.wf (.rcRead .spi 2) = false := by decide
theorem test_wf_wide_lo_read : Instr.wf (.wideLoRead .spi 0x40000) = false := by decide
theorem test_wf_wide_lo_write : Instr.wf (.wideLoWrite .spi 1 0#32) = false := by decide
theorem test_wf_wide_hi_write : Instr.wf (.wideHiWrite .spi 0x40001 0#32) = false := by decide

/-- Observations of a tick, by their numbers. -/
def tickObs (a b c d e f g h : Nat) : TickObs :=
  ⟨List.replicate a 0, List.replicate b 0, List.replicate c 0, List.replicate d 0, List.replicate e 0, List.replicate f 0,
    List.replicate g 0, List.replicate h 0⟩

theorem test_wf_tick :
    [tickObs 2 3 4 4 8 4 8 3, tickObs 3 2 4 4 8 4 8 3, tickObs 3 3 3 4 8 4 8 3, tickObs 3 3 4 3 8 4 8 3, tickObs 3 3 4 4 7 4 8 3,
      tickObs 3 3 4 4 8 3 8 3, tickObs 3 3 4 4 8 4 7 3, tickObs 3 3 4 4 8 4 8 2].all (fun o => !Instr.wf (.drillTick o)) = true ∧
    Instr.wf (.drillTick (tickObs 3 3 4 4 8 4 8 3)) = true := by decide +kernel

/-- A CAN frame and a PD message out of their limits. -/
def badId : CanFrame := ⟨2 ^ 11, false, false, []⟩
def badLen : CanFrame := ⟨0, true, true, List.replicate 9 0#8⟩
def badClassic : CanFrame := ⟨0, true, false, List.replicate 9 0#8⟩

theorem test_wf_frames :
    [Instr.canOrderFrame 0 badId, .canOrderFrame 0 badLen, .canOrderFrame 0 badClassic, .canRecv 0 (entry []) badId,
      .packIdentityFrame 0 0 badId, .packStatusFrame 0 0 badLen,
      .sourceCapabilitiesRx 0 ⟨false, 2 ^ 16, 0, []⟩, .requestRx 0 ⟨false, 0, 2 ^ 16, []⟩,
      .pdMessageRx 0 ⟨false, 0, 0, List.replicate 261 0#8⟩].all (fun c => !c.wf) = true := by decide +kernel

theorem test_wf_headers :
    [Instr.acceptRx 0 (2 ^ 16), .psRdyRx 0 (2 ^ 16), .hpLate 0 (2 ^ 16), .frsDone 0 (2 ^ 16),
      .cableDiscovery 0 (some ⟨2 ^ 16, false, false⟩)].all (fun c => !c.wf) = true := by decide +kernel

theorem test_wf_addresses :
    [Instr.read (2 ^ 24) 1, .write (2 ^ 24) [], .quadRead (2 ^ 24) 1, .quadWrite (2 ^ 24) []].all (fun c => !c.wf) = true := by decide +kernel

theorem test_wf_entries :
    [Instr.deliver (.can 0) [], .hold (.can 0) [], .absorb (.can 0) [], .chargeBy (.can 0) [], .reserve (.can 0) [], .cancel (.can 0) [],
      .fence (.can 0) [], .chainedGroup (.can 0) [entry []], .chainedGroup (.can 0) [entry [], []], .send 0 [] true, .send 0 [[]] true,
      .hardReset 0 [], .cableReset 0 [], .recordWrite 0 [] (.ok []) none, .recordRead 0 [], .profileSelect 0 [], .faultClear 0 [],
      .packCmdShip 0 [], .packCmdTilthStart 0 [], .packCmdTilthAbort 0 [], .packCmdChargeClear 0 [], .bbRead 0 [], .attest 0 [],
      .fwChunk 0 [] (.ok []), .nvmRead 0 [], .nvmWrite 0 [] (.ok []), .smbXfer 0 [] .error, .canSend 0 [] (.ok []) true,
      .canRecv 0 [] ⟨0, false, false, []⟩, .canRecvTimeout 0 [], .completionDiscard (.ring 0) [], .post 0 [],
      .glnSample 0 (List.replicate 17 0#8) 0, .faultReport 0 0 []].all (fun c => !c.wf) = true := by decide +kernel

/-! The queue, register access and the SPI target. -/

def queued : State := { State.reset with pending := [.xltSync .pcie, .xltSyncDone] }

theorem test_step_front : step queued = exec (.xltSync .pcie) { queued with pending := [.xltSyncDone] } := rfl

theorem test_step_empty :
    (match step State.reset with | .next t => t.cyc == 1 && t.pending.isEmpty | _ => false) = true ∧ State.reset.pending = [] := by
  decide +kernel

def shipped : State := { State.reset with sys := { State.reset.sys with power := .ship } }

theorem test_unpowered_command :
    meetsOff shipped (Instr.wf (.safeReq .pcie) = true ∧ shipped.sys.power ≠ .on ∧ reachesUnpowered (.safeReq .pcie) = false) (.safeReq .pcie)
      (same shipped) = true := by decide +kernel

theorem test_invariants_met :
    State.reset.raised = [] ∧ State.reset.wf = true ∧ (match step queued with | .next t => t.wf && t.raised.isEmpty | _ => false) = true := by
  decide +kernel

theorem test_register_write :
    [meets State.reset True (.registerWrite .spi R.HOST_INTX_EN 0x8001#32 15) (fun t => t.rd R.HOST_INTX_EN == 0x8001#32),
      meets (mk [(R.HOST_IRQ_STATUS, 7)]) True (.registerWrite .pcie R.HOST_IRQ_STATUS 5#32 15) (fun t => t.rd R.HOST_IRQ_STATUS == 2#32),
      meets State.reset True (.registerWrite .pcie R.GLB_ID 0xFFFFFFFF#32 15) (same State.reset),
      meets State.reset True (.registerWrite .spi 0x3FFFC 1#32 15) (same State.reset),
      meets State.reset ((3 : Fin 16) ≠ 15) (.registerWrite .pcie R.HOST_INTX_EN 1#32 3) (fun t => seen 0x92 0 t && t.rd R.HOST_INTX_EN == 0#32),
      meets State.reset ((State.reset.rd (R.PSW_CFG 11) ^^^ 0xFFFFFFFF#32) &&& accMask (R.PSW_CFG 11) [.hw] ≠ 0#32)
        (.registerWrite .spi (R.PSW_CFG 11) 0xFFFFFFFF#32 15) (fun t => seen 0xB0 1 t &&
          t.rd (R.PSW_CFG 11) &&& accMask (R.PSW_CFG 11) [.hw] == 0#32),
      meets State.reset True (.registerWrite .spi R.HOST_INTX_EN 1#32 15) (fun t => t.laterWrote .pcie R.HOST_INTX_EN &&
        run (.registerWrite .pcie R.HOST_INTX_EN 2#32 15) t (fun u => u.rd R.HOST_INTX_EN == 1#32)),
      meets (State.reset.hwSet R.HOST_IRQ_STATUS ⟨0, 3⟩ 7) True (.registerWrite .pcie R.HOST_IRQ_STATUS 5#32 15)
        (fun t => t.rd R.HOST_IRQ_STATUS == 7#32)].all id = true := by decide +kernel

theorem test_register_outside : exec (.registerWrite .pcie 0x40000 0#32 15) State.reset = .fault (.outsideWindow 0x40000) := rfl

theorem test_register_reads :
    [meets (st [(R.RING_CNT 31, F.RING_CNT_LOST, 9), (R.RING_CNT 31, F.RING_CNT_PENDING, 2)]) True (.rcRead .spi (R.RING_CNT 31))
        (fun t => t.f (R.RING_CNT 31) F.RING_CNT_LOST == 0 && t.f (R.RING_CNT 31) F.RING_CNT_PENDING == 2 &&
          t.outbox == [.readData .spi (R.RING_CNT 31) 0x00020009#32]),
      meets ((st [(R.RING_CNT 31, F.RING_CNT_LOST, 9)]).bump (R.RING_CNT 31) F.RING_CNT_LOST 2) True (.rcRead .spi (R.RING_CNT 31))
        (fun t => t.f (R.RING_CNT 31) F.RING_CNT_LOST == 2 && t.outbox == [.readData .spi (R.RING_CNT 31) 9#32]),
      meets (st [(R.COORD_STATUS 5, F.COORD_STATUS_CAP_FULL, 1)]) True (.capRead .spi (.coord 5))
        (fun t => !t.flag (R.COORD_STATUS 5) F.COORD_STATUS_CAP_FULL),
      meets (st [(R.GPT_STATUS 15, F.GPT_STATUS_CAP_FULL, 1)]) (State.reset.gptBase 15 = 15) (.capRead .spi (.gpt 15))
        (fun t => !t.flag (R.GPT_STATUS 15) F.GPT_STATUS_CAP_FULL),
      meets { State.reset with cyc := 200 * (2 ^ 32 + 5) } True (.wideLoRead .field R.COORD_TIME_US_LO) (fun t =>
        run (.rcRead .field R.COORD_TIME_US_HI) t (fun w => w.outbox ==
          [.readData .field R.COORD_TIME_US_LO 5#32, .readData .field R.COORD_TIME_US_HI 1#32])),
      meets State.reset True (.wideLoWrite .pcie R.HOST_DB_BASE_LO 0xFFFFF000#32) (fun t =>
        run (.wideHiWrite .pcie R.HOST_DB_BASE_HI 3#32) t (fun u => u.dbBase == 0x3FFFFF000))].all id = true := by decide +kernel

theorem test_spi :
    [meets State.reset True (.read 0x80000 0x2) (fun t => t.outbox == [.spiData [0#8, 0#8]]),
      meets State.reset (0x81000 ≤ 0xFFFFE) (.write 0xFFFFE [1#8, 2#8]) (fun t => t.winRead 0x7FFFE 2 == [1#8, 2#8]),
      meets State.reset (0x81000 ≤ 0x81000) (.quadWrite 0x81000 [9#8]) (fun t =>
        run (.quadRead 0x81000 1) t (fun u => u.outbox == [.spiData [9#8]])),
      meets { State.reset with sys := { State.reset.sys with spiErr := true } } True .readStatus
        (fun t => t.outbox == [.spiData [5#8]] && !t.sys.spiErr),
      meets State.reset (0xFF#8 ≠ 0x0B#8) (.spiUnknownOpcode 0xFF#8) (fun t => t.sys.spiErr && seen 0x93 0 t &&
        t.f R.HOST_SPI_STATUS F.HOST_SPI_STATUS_LAST_ERR == 4)].all id = true := by decide +kernel

/-! Coordinates and timers. -/

theorem test_coord_sum : coordAdd true 1000 999 1 = 65536 := by decide +kernel

def sQuad : State := st [(R.COORD_CFG 3, F.COORD_CFG_MODE, 1), (R.COORD_MOD 3, F.COORD_MOD_M, 4000)]

theorem test_quadrature :
    [meets sQuad (sQuad.coordMode 3 = 1 ∧ (sQuad.sample 3 true false (sQuad.coord 3).z).isSome = true ∧ (sQuad.coord 3).lastEdge = none ∧
        true ≠ (sQuad.coord 3).a ∧ false = (sQuad.coord 3).b) (.quadEdge 3 true false)
        (fun t => t.coordPos 3 == 1),
      meets sQuad ((sQuad.sample 3 false true (sQuad.coord 3).z).isSome = true ∧ false = (sQuad.coord 3).a ∧ true ≠ (sQuad.coord 3).b)
        (.quadEdge 3 false true)
        (fun t => t.coordPos 3 == 0xFFFFFFFFFFFF * 65536 + 3999),
      meets sQuad ((sQuad.sample 3 true true (sQuad.coord 3).z).isSome = true ∧ true ≠ (sQuad.coord 3).a ∧ true ≠ (sQuad.coord 3).b)
        (.quadEdge 3 true true) (fun t => t.coordPos 3 == 0 && seen 0x80 3 t),
      meets (sQuad.setCoord 3 { changeA := some 0 }) (sQuad.cyc < 0 + 2 * (sQuad.f (R.COORD_CFG 3) F.COORD_CFG_FILT + 1))
        (.quadEdge 3 true false) (same (sQuad.setCoord 3 { changeA := some 0 }))].all id = true := by decide +kernel

def sHall : State :=
  (st [(R.COORD_CFG 0, F.COORD_CFG_MODE, 2), (R.COORD_MOD 0, F.COORD_MOD_M, 6), (R.COORD_CFG 1, F.COORD_CFG_MODE, 3),
    (R.COORD_CFG 1, F.COORD_CFG_INV, 1), (R.COORD_MOD 1, F.COORD_MOD_M, 6), (R.COORD_CFG 2, F.COORD_CFG_MODE, 4),
    (R.COORD_MOD 2, F.COORD_MOD_M, 2)]).setCoord 0 { hall := 5 }

theorem test_other_inputs :
    [meets sHall (sHall.coordMode 0 = 2 ∧ (sHall.sample 0 true false false).isSome = true ∧ (sHall.coord 0).lastEdge = none ∧
        hallIndex (sHall.coord 0).hall = some 5 ∧ hallIndex 4 = some 0) (.hallStateChange 0 true false false) (fun t => t.coordPos 0 == 1),
      meets sHall (hallIndex 1 = some 4) (.hallStateChange 0 false false true) (fun t => t.coordPos 0 == 0xFFFFFFFFFFFF * 65536 + 5),
      meets sHall (sHall.coordMode 0 = 2 ∧ (sHall.sample 0 true true true).isSome = true) (.hallStateChange 0 true true true) (fun t => t.coordPos 0 == 0 && seen 0x81 0 t),
      meets sHall (sHall.coordMode 1 = 3 ∧ (sHall.pulse 1 false).isSome = true ∧ (sHall.coord 1).lastEdge = none) (.stepEdge 1 false) (fun t => t.coordPos 1 == 1),
      meets sHall (sHall.coordMode 2 = 4 ∧ (sHall.pulse 2 false).isSome = true ∧ (sHall.coord 2).lastEdge = none) (.upDownEdge 2 true) (fun t => t.coordPos 2 == 1)].all id = true := by decide +kernel

def sIndex (busy : Nat) : State :=
  (st [(R.COORD_CFG 2, F.COORD_CFG_MODE, 1), (R.COORD_CFG 2, F.COORD_CFG_ZPOL, 1), (R.COORD_CFG 2, F.COORD_CFG_ZHOME, 1),
    (R.COORD_HOME_LO 2, ⟨0, 32⟩, 7), (R.COORD_STATUS 2, F.COORD_STATUS_BUSY, busy)]).setCoord 2 { armed := true }

def sMains : State :=
  { (st [(R.COORD_CFG 4, F.COORD_CFG_MODE, 1)]).setCoord 4 { lastCross := some 0, halves := [2000000, 2000000] } with cyc := 3000000 }

theorem test_index_and_mains :
    [meets (sIndex 0) ((sIndex 0).coordMode 2 = 1 ∧ (sIndex 0).flag (R.COORD_CFG 2) F.COORD_CFG_ZPOL = true ∧
        (sIndex 0).flag (R.COORD_CFG 2) F.COORD_CFG_ZHOME = true ∧ ((sIndex 0).coord 2).armed = true ∧
        (sIndex 0).passes 2 ((sIndex 0).coord 2).changeZ = true ∧ (sIndex 0).coordBusy 2 = false) (.indexHome 2 true)
        (fun t => t.coordPos 2 == 7 && t.flag (R.COORD_STATUS 2) F.COORD_STATUS_HOMED),
      meets (sIndex 1) ((sIndex 1).coordBusy 2 = true) (.indexHome 2 true)
        (fun t => t.coordPos 2 == 0 && t.flag (R.COORD_STATUS 2) F.COORD_STATUS_REFUSED),
      meets (sIndex 0) True (.homeDisarm .pcie 2) (fun t => run (.homeArm .pcie 2) t (fun u => (u.coord 2).armed && !(t.coord 2).armed)),
      meets (st [(R.COORD_CFG 4, F.COORD_CFG_MODE, 1)]) ((st [(R.COORD_CFG 4, F.COORD_CFG_MODE, 1)]).crossOk = true) .mainsZeroCross
        (fun t => t.rd64 (R.COORD_POS_LO 4) (R.COORD_POS_HI 4) == 65536),
      meets sMains (sMains.coordMode 4 = 1 ∧ (sMains.coord 4).est2 = some 4000000 ∧ 3 * 4000000 ≤ 4 * (sMains.cyc - 0) ∧ sMains.flag (R.COORD_STATUS 4) F.COORD_STATUS_LOST = false) .mainsLost
        (fun t => t.flag (R.COORD_STATUS 4) F.COORD_STATUS_LOST && seen 0x84 4 t)].all id = true := by decide +kernel

def sCmp : State :=
  { st [(R.COORD_CFG 5, F.COORD_CFG_MODE, 1), (R.COORD_CMP_CFG 5 3, F.COORD_CMP_CFG_EN, 1), (R.COORD_CMP_VAL_LO 5 3, ⟨0, 32⟩, 7),
    (R.COORD_CMP_INT_LO 5 3, ⟨0, 32⟩, 2), (R.COORD_CFG 1, F.COORD_CFG_CAP_SRC, 7), (R.COORD_POS_LO 1, ⟨0, 32⟩, 5)] with cyc := 1400 }

theorem test_strobes :
    [meets sCmp (sCmp.flag (R.COORD_STATUS 5) F.COORD_STATUS_CAP_FULL = false) (.capStrobe .pcie 5) (fun t =>
        t.rd64 (R.COORD_CAP_LO 5) (R.COORD_CAP_HI 5) == 7 && t.flag (R.COORD_STATUS 5) F.COORD_STATUS_CAP_FULL),
      meets (st [(R.COORD_STATUS 0, F.COORD_STATUS_CAP_FULL, 1)]) True (.capStrobe .pcie 0) (fun t =>
        t.flag (R.COORD_STATUS 0) F.COORD_STATUS_CAP_OVR && seen 0x82 0 t),
      meets sCmp (sCmp.f (R.COORD_CFG 1) F.COORD_CFG_CAP_SRC = 7 ∧ sCmp.f (R.COORD_CFG 0) F.COORD_CFG_CAP_SRC ≠ 7)
        .pbMainPress (fun t => t.rd64 (R.COORD_CAP_LO 1) (R.COORD_CAP_HI 1) == 5),
      meets sCmp (sCmp.cmpEn 5 3 = true ∧ sCmp.cmpVal 5 3 = sCmp.coordPos 5 ∧ sCmp.coordMode 5 = 1) (.compareInterpolationMatch false 3)
        (fun t => t.cmpVal 5 3 == 9 && t.cmpEn 5 3 && t.flag (R.COORD_CMP_CFG 5 3) F.COORD_CMP_CFG_MATCHED)].all id = true := by
  decide +kernel

def sStall : State := st [(R.COORD_BOUND_STALL 3, F.COORD_BOUND_STALL_T_STALL, 1), (R.COORD_STATUS 3, F.COORD_STATUS_STALL_ACC, 2)]

theorem test_coord_writes :
    [meets sStall (sStall.tStall 3 < sStall.stallAcc 3 ∧ sStall.flag (R.COORD_STATUS 3) F.COORD_STATUS_STALL = false) (.coordStall 3)
        (fun t => t.flag (R.COORD_STATUS 3) F.COORD_STATUS_STALL && seen 0x83 3 t),
      meets (sIndex 0) ((sIndex 0).coordBusy 2 = false) (.stallClr .pcie 2) (fun t => t.stallAcc 2 == 0),
      meets (sIndex 1) ((sIndex 1).coordBusy 2 = true) (.stallClr .pcie 2) (fun t => t.flag (R.COORD_STATUS 2) F.COORD_STATUS_REFUSED),
      meets sQuad (sQuad.coordBusy 3 = false ∧ coordOk true (sQuad.coordM 3) (2 ^ 32) = true) (.coordPosWrite .pcie 3 1#32)
        (fun t => t.coordPos 3 == 2 ^ 32),
      meets sQuad (coordOk true (sQuad.coordM 3) (2 ^ 32 * 0x10000) = false) (.coordPosWrite .pcie 3 0x10000#32)
        (fun t => t.flag (R.COORD_STATUS 3) F.COORD_STATUS_REFUSED && t.coordPos 3 == 0),
      meets State.reset (State.reset.coordMode 0 = 0 ∧ State.reset.coordBusy 0 = false) (.coordModWrite .pcie 0 2#32)
        (fun t => t.coordM 0 == 2),
      meets State.reset (getBits 1#32 0 16 < 2) (.coordModWrite .pcie 0 1#32) (fun t => t.flag (R.COORD_STATUS 0) F.COORD_STATUS_REFUSED),
      meets State.reset (State.reset.coordBusy 4 = false) (.coordModeWrite .pcie 4 1#32) (fun t => t.coordMode 4 == 1),
      meets (sIndex 1) ((sIndex 1).coordMode 2 ≠ 4) (.coordModeWrite .pcie 2 4#32) (fun t => t.coordMode 2 == 1 &&
        t.flag (R.COORD_STATUS 2) F.COORD_STATUS_REFUSED),
      meets State.reset (coordOk (travelUnit 5) (State.reset.coordM 5) (2 ^ 32) = true) (.cmpValueWrite .pcie 5 3 false 1#32)
        (fun t => t.cmpVal 5 3 == 2 ^ 32),
      meets State.reset (coordOk (travelUnit 5) (State.reset.coordM 5) (2 ^ 63) = false) (.cmpValueWrite .pcie 5 3 false 0x80000000#32)
        (fun t => t.flag (R.COORD_STATUS 5) F.COORD_STATUS_REFUSED),
      meets State.reset (coordOk (travelUnit 4) (State.reset.coordM 4) (2 ^ 32) = true) (.cmpValueWrite .pcie 4 0 true 1#32)
        (fun t => t.cmpInt 4 0 == 2 ^ 32),
      meets State.reset True (.coordModeWrite .pcie 5 0#32) (fun t => t.coordMode 5 == State.reset.coordMode 5)].all id = true := by decide +kernel

def sGpt : State :=
  { (st [(R.GPT_CFG 15, F.GPT_CFG_EN, 1), (R.GPT_STATUS 15, F.GPT_STATUS_RUNNING, 1), (R.GPT_CFG 15, F.GPT_CFG_ONESHOT, 1), (R.GPT_INTERVAL 15, ⟨0, 32⟩, 2)]).setGpt 15
    { startVal := 1, cmp := 1 } with cyc := 0 }

def sChain : State := st [(R.GPT_CFG 15, F.GPT_CFG_CHAIN, 1)]

theorem test_timers :
    [meets (mk [(R.GPT_RELOAD 15, 9)]) (getBits 1#32 5 1 = 0) (.gptEnable .pcie 15 1#32) (fun t => t.gptRuns 15 && (t.gpt 15).startVal == 9),
      meets sGpt (getBits 0#32 0 1 = 0) (.gptEnable .pcie 15 0#32) (fun t => !t.gptRuns 15),
      meets (mk [(R.GPT_RELOAD 0, 9)]) True (.forceReload .pcie 0) (fun t => (t.gpt 0).startVal == 9),
      meets { sGpt with cyc := 1000000000 } (sGpt.gptBase 15 = 15 ∧ sGpt.gptRuns 15 = true ∧
        (sGpt.gpt 15).startVal + 1 ≤ ({ sGpt with cyc := 1000000000 } : State).gptTicks 15) (.gptWrap 15)
        (fun t => t.flag (R.GPT_STATUS 15) F.GPT_STATUS_WRAP && !t.gptRuns 15),
      meets sGpt (sGpt.gptRuns 15 = true ∧ sGpt.gptTicks 15 ≤ (sGpt.gpt 15).startVal ∧ sGpt.gptValue 15 = (sGpt.gpt 15).cmp ∧
        (sGpt.gpt 15).matchKey ≠ (sGpt.gpt 15).startAt + sGpt.gptTicks 15 * sGpt.gptTick 15 + 1) (.gptMatch 15)
        (fun t => t.flag (R.GPT_STATUS 15) F.GPT_STATUS_MATCH && (t.gpt 15).cmp == 3),
      meets (sGpt.setF (R.GPT_CFG 15) F.GPT_CFG_ONESHOT 0) (sGpt.gptBase 15 = 15) (.gptWrap 15) (fun t => !t.flag (R.GPT_STATUS 15) F.GPT_STATUS_WRAP),
      meets ({ sGpt with cyc := 1000000000 }.setF (R.GPT_CFG 15) F.GPT_CFG_ONESHOT 0) True (.gptWrap 15)
        (fun t => t.flag (R.GPT_STATUS 15) F.GPT_STATUS_WRAP && t.gptRuns 15 && (t.gpt 15).startVal == sGpt.rdN (R.GPT_RELOAD 15)),
      meets (sChain.setGpt 14 { startVal := 2 ^ 32 + 7 }) (sChain.gptChained 15 = true) (.gptCapStrobe .pcie 15)
        (fun t => t.rdN (R.GPT_CAP 14) == 7 && t.rdN (R.GPT_CAP 15) == 1 && t.flag (R.GPT_STATUS 14) F.GPT_STATUS_CAP_FULL),
      meets (st [(R.GPT_STATUS 0, F.GPT_STATUS_CAP_FULL, 1)]) True (.gptCapStrobe .pcie 0)
        (fun t => t.flag (R.GPT_STATUS 0) F.GPT_STATUS_CAP_OVR),
      meets sGpt True (.gptCapStrobe .pcie 15) (fun t => t.rdN (R.GPT_CAP 15) == 1 && t.flag (R.GPT_STATUS 15) F.GPT_STATUS_CAP_FULL),
      meets State.reset (State.reset.gptChained 15 = false) (.gptPreloadWrite .pcie 15 .reload 7#32) (fun t => t.rd (R.GPT_RELOAD 15) == 7#32),
      meets State.reset (State.reset.gptChained 15 = false) (.gptPreloadWrite .pcie 15 .cmp 7#32) (fun t => t.rd (R.GPT_CMP 15) == 7#32),
      meets { sGpt with cyc := 1000000000 } (({ sGpt with cyc := 1000000000 } : State).wrapDue 15 = true) (.gptPreloadWrite .pcie 15 .reload 7#32)
        (fun t => t.rd (R.GPT_RELOAD 15) == 7#32 && t.flag (R.GPT_STATUS 15) F.GPT_STATUS_WRAP && (t.gpt 15).reload == sGpt.rdN (R.GPT_RELOAD 15)),
      meets sChain (sChain.gptChained 14 = true)
        (.gptPreloadWrite .pcie 14 .interval 7#32) (fun t => t.rd (R.GPT_INTERVAL 14) == 0#32 &&
          run (.gptPreloadWrite .pcie 15 .interval 8#32) t (fun u => u.rd (R.GPT_INTERVAL 14) == 7#32 && u.rd (R.GPT_INTERVAL 15) == 8#32))
      ].all id = true := by decide +kernel

/-! Orders. -/

/-- An order entry: opcode, class, target, tag, energy, cap, voltages, mask; it opens now, closes after a second, and is bound by 2 s. -/
def order (op cls target tag energy cap v1 v2 mask : Nat) : List Byte :=
  put (put (put (put (put (put (put (put (put (entry []) 0 4 (op + 256 * cls + 1024 * 5 + 65536 * target)) 4 4 tag) 8 6 energy) 16 4 cap) 20 2 v1)
    22 2 v2) 32 8 (1000 * 65536)) 40 8 (2000 * 65536)) 52 2 mask

def eDeliver : List Byte := order opDeliver 2 0 0 50 20 3000 5000 1
def eHold : List Byte := order opHold 2 0 1 0 20 3500 4500 1
def eAbsorb : List Byte := order opAbsorb 2 0 2 50 20 3000 5000 1
def eCharge : List Byte := order opChargeBy 2 8 3 50 0 0 0 16
def eReserve : List Byte := order opReserve 0 8 4 50 0 0 0 0
def eCancel : List Byte := put (put (entry []) 0 4 opCancel) 48 4 7
def eFence : List Byte := put (put (entry []) 0 4 (opFence + 1024 * 5)) 40 8 1

def sAdmit (rem : Nat) : State := fb [(R.DRILL_PACK_PCHG 0, ⟨0, 32⟩, 1000), (R.PACK_EREM_LO 0, ⟨0, 32⟩, rem), (R.MODEL_PACK_AVAIL_LO 0, ⟨0, 32⟩, 60),
  (R.MODEL_PACK_PMAX 0, ⟨0, 32⟩, 1000)]

/-- The premises that an entry of an opcode reaches Drill at the front of its source and is accepted. -/
def taken (s : State) (src : Source) (e : List Byte) (op : Nat) : Bool :=
  decide (e.length = 64 ∧ s.orderSource (srcNo src) = true ∧ s.drillTakes (srcNo src) = true ∧ (parseOrder e).chain = false ∧
    s.atFront (srcNo src) [e] = true ∧ s.othersFirst (srcNo src) = false ∧ (s.takeEntry (srcNo src) e).wouldAdmit (srcNo src) [e] = true ∧ (parseOrder e).op = op)

/-- The premises of an admission from a source, and what it leaves. -/
def admits (s : State) (src : Source) (e : List Byte) (op : Nat) (c : Instr) : Bool :=
  meets s (taken s src e op = true) c (fun t => t.rdN R.DRILL_CNT_ACCEPT == 1 && t.planSeq == 1)

theorem test_admission :
    [admits (sAdmit 0) (.can 0) eDeliver opDeliver (.deliver (.can 0) eDeliver) && run (.deliver (.can 0) eDeliver) (sAdmit 0) (fun t =>
        (slotAt t 0).any (fun p => p.entry == eDeliver && p.src == 32 && !p.active)),
      admits (sAdmit 0) (.can 1) eHold opHold (.hold (.can 1) eHold) && run (.hold (.can 1) eHold) (sAdmit 0) (fun t =>
        (slotAt t 0).any (fun p => p.entry == eHold && p.src == 33)),
      admits (sAdmit 0) (.can 0) eAbsorb opAbsorb (.absorb (.can 0) eAbsorb),
      admits (sAdmit 0) (.can 0) eCharge opChargeBy (.chargeBy (.can 0) eCharge) && run (.chargeBy (.can 0) eCharge) (sAdmit 0) (fun t =>
        (slotAt t 0).isSome),
      admits (sAdmit 50) (.can 0) eCharge opChargeBy (.chargeBy (.can 0) eCharge) && run (.chargeBy (.can 0) eCharge) (sAdmit 50) (fun t =>
        (slotAt t 0).isNone),
      admits (sAdmit 0) (.can 0) eReserve opReserve (.reserve (.can 0) eReserve) && run (.reserve (.can 0) eReserve) (sAdmit 0) (fun t =>
        (slotAt t 0).any (fun p => p.res == [50, 0, 0, 0]))].all id = true := by decide +kernel

/-- An order in slot 4095 of the plan, from ring pair 0. -/
def slotOf (e : List Byte) (active : Bool) (tOut nj bad : Nat) : Slot :=
  { entry := e, src := 0, seq := 0, active := active, tIn := 0, tOut := tOut, nj := nj, bad := bad, started := 1 }

def sPlan (p : Slot) (l : List (Nat × Fld × Nat)) : State :=
  { (fb ([(R.RING_CFG 0, F.RING_CFG_TYPE, 1), (R.RING_STATUS 0, F.RING_STATUS_STATE, 1), (R.RING_CFG 0, F.RING_CFG_CQ_LOG2, 4)] ++ l)).setSlot 4095 p
    with planSeq := 1 }

def pTag7 : Slot := slotOf (order opDeliver 2 0 7 50 20 3000 5000 1) false 1000000 0 0

theorem test_cancel_and_fence :
    [meets (sPlan pTag7 []) (taken (sPlan pTag7 []) (.ring 0) eCancel opCancel = true ∧
        (sPlan pTag7 []).tagSlot 0 (parseOrder eCancel).arg = some (4095, pTag7)) (.cancel (.ring 0) eCancel)
        (fun t => (slotAt t 4095).isNone && t.planSeq == 1),
      meets (sPlan pTag7 []) (taken (sPlan pTag7 []) (.ring 0) eFence opFence = true)
        (.fence (.ring 0) eFence) (fun t => (t.srcRt 0).fence == some (eFence, 1) && t.plan == (sPlan pTag7 []).plan),
      meets ((sPlan pTag7 []).setSrc 0 { fence := some (eFence, 0) })
        (((sPlan pTag7 []).setSrc 0 { fence := some (eFence, 0) }).plan.all (fun q => decide (q.2.src = 0 → 0 ≤ q.2.seq)) = true)
        (.fenceRelease (.ring 0)) (fun t => (t.srcRt 0).fence.isNone && t.cplq.length == 1),
      meets { (sPlan pTag7 []).setSrc 0 { fence := some (eFence, 1) } with cyc := 400 }
        (({ (sPlan pTag7 []).setSrc 0 { fence := some (eFence, 1) } with cyc := 400 } : State).absTime (parseOrder eFence).tBound <
          ({ (sPlan pTag7 []).setSrc 0 { fence := some (eFence, 1) } with cyc := 400 } : State).us)
        (.fenceTimeBoundExpiry (.ring 0)) (fun t => (t.srcRt 0).fence.isNone && t.cplq.any (fun c => c.bytes.take 2 == [0x31#8, 0x0F#8]))
      ].all id = true := by decide +kernel

/-- Two members of a chain, and a CAN port that takes orders. -/
def eFirst : List Byte := put (put eDeliver 0 4 (opDeliver + 512 + 1024 * 5 + 2 ^ 15)) 48 4 2

def sCan : State :=
  fb [(R.CAN_CFG 1, F.CAN_CFG_EN, 1), (R.CAN_CFG 1, F.CAN_CFG_FD, 1), (R.DRILL_CAN_RXID 1, F.DRILL_CAN_RXID_EN, 1), (R.DRILL_CAN_RXID 1, F.DRILL_CAN_RXID_ID, 0x123)]

def sGap : State := { sCan.setSrc 33 { group := [eFirst], groupAt := 0 } with cyc := 400001 }

theorem test_groups :
    [meets (sAdmit 0) ((sAdmit 0).orderSource 32 = true ∧ (sAdmit 0).drillTakes 32 = true ∧
        (sAdmit 0).atFront 32 [eFirst, eHold] = true ∧ (sAdmit 0).othersFirst 32 = false ∧ chainBad ([eFirst, eHold].map parseOrder) = false ∧
        ([eFirst, eHold].foldl (fun t e => t.takeEntry 32 e) (sAdmit 0)).wouldAdmit 32 [eFirst, eHold] = true)
        (.chainedGroup (.can 0) [eFirst, eHold]) (fun t => t.planSeq == 2),
      meets sCan (sCan.canOrders 1 = true ∧ sCan.canFd 1 = true ∧ sCan.gapPassed 33 = false ∧ sCan.canOrderId 1 ⟨0x123, false, true, eHold⟩ = true ∧ eHold.length = 64 ∧
        (sCan.can 1).txq.length < 32 ∧ (parseOrder eHold).chain = false) (.canOrderFrame 1 ⟨0x123, false, true, eHold⟩)
        (fun t => (t.srcRt 33).waiting == [eHold]),
      meets sCan ((parseOrder eFirst).chain = true) (.canOrderFrame 1 ⟨0x123, false, true, eFirst⟩)
        (fun t => (t.srcRt 33).group == [eFirst] && (t.srcRt 33).waiting.isEmpty),
      meets sCan (sCan.canOrderId 1 ⟨0x123, false, true, []⟩ = true) (.canOrderFrame 1 ⟨0x123, false, true, []⟩)
        (fun t => t.f (R.DRILL_CAN_STAT 1) F.DRILL_CAN_STAT_BAD_FRAME == 1),
      meets sGap (((sGap.srcRt 33).group ≠ []) ∧ (sGap.srcRt 33).groupAt + 400000 < sGap.cyc) (.canChainGapExpiry 1)
        (fun t => (t.srcRt 33).group.isEmpty && t.rdN R.DRILL_CNT_REJECT == 1)].all id = true := by decide +kernel

/-- An ending of the order in slot 4095: its premises, and the breaches counted. -/
def ends (s : State) (p : Slot) (h : State → Slot → Bool) (c : Instr) (breach : Nat) : Bool :=
  meets s (slotAt s 4095 = some p ∧ h s p = true) c (fun t => (slotAt t 4095).isNone && t.rdN R.DRILL_CNT_BREACH == breach)

/-- An order on travel unit 0. -/
def eTravel (op cls : Nat) : List Byte := put (order op cls 0 7 50 20 3000 5000 1) 0 4 (op + 256 * cls)

def lateEnds (p : Slot) : (State → Slot → Bool) → Instr → Nat → Bool := ends { sPlan p [] with cyc := 1000000000 } p

theorem test_orders_end :
    [ends (sPlan (slotOf eDeliver true 1000000 50000000 0) []) (slotOf eDeliver true 1000000 50000000 0) (fun s p => s.energyReached p)
        (.orderEnergyReached 4095) 0,
      lateEnds (slotOf (eTravel opDeliver 2) false 4999999 0 0) (fun s p => decide (p.order.unit < 4 ∧ p.tOut < s.us ∧ p.active = false))
        (.orderToutExpiry 4095) 0,
      lateEnds (slotOf (eTravel opReserve 0) true 4999999 0 0) (fun s p => decide (p.order.unit < 4 ∧ p.tOut < s.us ∧ p.order.op = opReserve))
        (.orderToutExpiry 4095) 0,
      lateEnds (slotOf (eTravel opDeliver 1) true 4999999 0 0) (fun s p => decide (p.order.unit < 4 ∧ p.tOut < s.us ∧ p.order.op ≠ opReserve ∧
        p.active = true ∧ p.order.cls ≠ 2)) (.orderToutExpiry 4095) 1,
      lateEnds (slotOf eDeliver false 9000000 0 0) (fun s p => decide (s.absTime p.order.tBound < s.us ∧ p.active = false))
        (.orderTimeBoundExpiry 4095) 0,
      lateEnds (slotOf (order opChargeBy 1 8 3 50 0 0 0 16) true 9000000 0 0) (fun s p => decide (p.order.op = opChargeBy ∧ p.order.unit = 5 ∧
        s.absTime p.order.wEnd < s.us ∧ s.eRem (p.order.target - 8) < p.order.energy ∧ p.order.cls ≠ 2)) (.chargeByDeadline 4095) 1,
      ends (sPlan (slotOf (order opHold 0 0 1 0 20 3500 4500 1) true 1000000 0 3) []) (slotOf (order opHold 0 0 1 0 20 3500 4500 1) true 1000000 0 3)
        (fun _ p => decide (p.active = true ∧ p.order.cls < 2 ∧ p.order.op = opHold ∧ 3 ≤ p.bad)) (.voltWindowBreach 4095) 1].all id = true := by
  decide +kernel

def obs0 : TickObs := tickObs 3 3 4 4 8 4 8 3

theorem test_tick_and_revalidation :
    [meets (fb [(R.MODEL_STAGE_EFF_TRIM 7, F.MODEL_STAGE_EFF_TRIM_TRIM, 1000)]) (obs0.ok = true ∧ (fb []).sys.starting = false) (.drillTick obs0)
        (fun t => t.tick == 1 && t.trim.getD 7 0 == 1000),
      meets { fb [] with cyc := 20000000 } (({ fb [] with cyc := 20000000 } : State).revalAt + 1000 * max 10
        (({ fb [] with cyc := 20000000 } : State).f R.DRILL_CFG F.DRILL_CFG_REVAL_MS) ≤ ({ fb [] with cyc := 20000000 } : State).us)
        .revalMsExpiry (fun t => t.flag R.DRILL_STATUS F.DRILL_STATUS_REVAL),
      meets { fb [(R.DRILL_STATUS, F.DRILL_STATUS_REVAL, 1)] with cyc := 2000, revalCause := [3] }
        ((fb [(R.DRILL_STATUS, F.DRILL_STATUS_REVAL, 1)]).flag R.DRILL_STATUS F.DRILL_STATUS_REVAL = true) .revalidationDone
        (fun t => !t.flag R.DRILL_STATUS F.DRILL_STATUS_REVAL && t.revalAt == 10 && t.revalCause == [])].all id = true := by decide +kernel

def sComm (l : List (Nat × Fld × Nat)) : State :=
  let s := fb ([(R.FAB_STATUS, F.FAB_STATUS_STATE, 1)] ++ l)
  { s with fabCheck := some s.fabCopy, fab := none }

theorem test_fabric_commits :
    [meets (fb []) ((fb []).fabState = 2 ∧ (fb []).plan = [] ∧ (fb []).anyRuns = false) (.fabCommit .headland) (fun t => t.fabState == 1),
      meets (fb []) (Path.spi ≠ .headland) (.fabCommit .spi) (fun t => seen 0xB0 1 t),
      meets (sComm []) (fabVerdict ((sComm []).fabCheck.getD []) = none) .fabricCheckDone
        (fun t => t.fabState == 2 && t.fab == (sComm []).fabCheck),
      meets (sComm [(R.STAGE_NODES 1, F.STAGE_NODES_TO, 16)]) (fabVerdict ((sComm [(R.STAGE_NODES 1, F.STAGE_NODES_TO, 16)]).fabCheck.getD []) = some (3, 1))
        .fabricCheckDone (fun t => t.fabState == 3 && t.f R.FAB_STATUS F.FAB_STATUS_ERR == 3 && t.fab.isNone && seen 0x60 0 t)
      ].all id = true := by decide +kernel

/-! Stages, rails and pins. -/

/-- Stage 0 in a state, with loop and timing fields. -/
def stg (x : Nat) (l : List (Nat × Fld × Nat)) : State := fb ([(R.STAGE_STATUS 0, F.STAGE_STATUS_STATE, x)] ++ l)

/-- More of what stage 0 keeps beside its registers. -/
def withStage (s : State) (r : StageRt) : State := s.setStage 0 r

def ctl0 : CtlObs := ⟨4000000, 8000, [900]⟩

/-- Stage 0 running with a period of 800 counts, at the peak of its phase 0 after 100 cycles. -/
def sRun (r : StageRt) (l : List (Nat × Fld × Nat)) : State :=
  { withStage (stg stRun ([(R.STAGE_MOD 0, F.STAGE_MOD_U_MAX, 5000), (R.STAGE_PWM 0, F.STAGE_PWM_PER, 400), (R.RAIL_FB 0, F.RAIL_FB_FB_DIV, 256),
      (R.STAGE_PWM_OFS 0, F.STAGE_PWM_OFS_PHASE_OFS, 0)] ++ l)) r with cyc := 100 }

def sCoef (x : Nat) (r : StageRt) : State := { withStage (stg x [(R.STAGE_LOOP_A_B 0 0, ⟨0, 32⟩, 7), (R.STAGE_PWM 0, F.STAGE_PWM_PER, 400)]) r with cyc := 100 }

theorem test_stage_command :
    [decide (selectLoop [(0, some 5), (1, none), (2, some 3), (3, some 3)] none = some (2, 3) ∧ selectLoop [(1, none)] none = none),
      holds (sRun {} []) ((sRun {} []).stageRuns 0 = true ∧ (sRun {} []).ctlDue 0 = true),
      meets (sCoef stReady {}) ((sCoef stReady {}).stageRuns 0 = false) (.loopApply .pcie 0) (fun t => (t.stage 0).coef.getD 0 0 == 7),
      meets (sCoef stRun { cmpNext := [77, 5] }) ((sCoef stRun { cmpNext := [77, 5] }).stageRuns 0 = true ∧
          (sCoef stRun { cmpNext := [77, 5] }).ctlDue 0 = true) (.loopApply .pcie 0)
        (fun t => (t.stage 0).coef == [] && run (.controlPeriod 0 ctl0) t (fun u =>
          (u.stage 0).coef.getD 0 0 == 7 && u.f (R.STAGE_DUTY 0) F.STAGE_DUTY_CMP == 77))].all id = true := by decide +kernel

def sCbc (count run : Nat) (last : Option Nat) : State :=
  sRun { cbcRun := run, cbcLast := last } [(R.STAGE_CBC_CFG 0, F.STAGE_CBC_CFG_CBC_COUNT, count), (R.STAGE_CBC_CFG 0, F.STAGE_CBC_CFG_LEB, 0),
    (R.STAGE_CBC 0, F.STAGE_CBC_CBC_POS, 0), (R.STAGE_DUTY 0, F.STAGE_DUTY_CMP, 16000), (R.STAGE_CBC 0, F.STAGE_CBC_CBC_NEG, 0)]

def cbcDue (s : State) : Bool := decide (s.ownerOf 0 = some 0 ∧ s.stageRuns 0 = true ∧ s.cbcHit 0 0 900 = true)

def counted (k : Nat) (t : State) : Bool := (t.stage 0).cbcRun == k && t.flag (R.STAGE_STATUS 0) F.STAGE_STATUS_CBC_ACT

theorem test_cbc_persist :
    [meets (sCbc 4 3 none) (cbcDue (sCbc 4 3 none) = true) (.cbcCrossing 0 900) (counted 1),
      meets (sCbc 4 3 (some 1)) (cbcDue (sCbc 4 3 (some 1)) = true ∧ (sCbc 4 3 none).pwmPeriod 0 = 1) (.cbcCrossing 0 900) (counted 3),
      meets (sCbc 4 3 (some 0)) (cbcDue (sCbc 4 3 (some 0)) = true) (.cbcCrossing 0 900) (counted 4),
      meets { sCbc 4 3 (some 0) with cyc := 300 } (cbcDue { sCbc 4 3 (some 0) with cyc := 300 } = true) (.cbcCrossing 0 900) (counted 1),
      meets (sCbc 3 3 (some 0)) ((sCbc 3 3 (some 0)).stageRuns 0 = true ∧ (sCbc 3 3 (some 0)).f (R.STAGE_CBC_CFG 0) F.STAGE_CBC_CFG_CBC_COUNT ≠ 0 ∧
        (sCbc 3 3 (some 0)).f (R.STAGE_CBC_CFG 0) F.STAGE_CBC_CFG_CBC_COUNT ≤ ((sCbc 3 3 (some 0)).stage 0).cbcRun ∧
        (sCbc 3 3 (some 0)).cbcWithin 0 2 = true) (.cbcPersist 0) (fun t => t.stageState 0 == stTripped && seen 0x21 0 t),
      meets (sCbc 0 3 (some 1)) ((sCbc 0 3 (some 1)).f (R.STAGE_CBC_CFG 0) F.STAGE_CBC_CFG_CBC_COUNT = 0) (.cbcPersist 0)
        (same (sCbc 0 3 (some 1)))].all id = true := by decide +kernel

def sSoft (sel : Nat) : State :=
  { sRun { ssDone := true, ssTarget := 5000 } [(R.STAGE_STATUS 0, F.STAGE_STATUS_SEL, sel)] with cyc := 400000 }

def softDue (s : State) : Bool := decide (s.stageRuns 0 = true ∧ (s.stage 0).ssDone = true ∧ (s.stage 0).ssAcc + 2000 ≤ s.us)

theorem test_stage_trips :
    [meets (sSoft 2) (softDue (sSoft 2) = true ∧ ((sSoft 2).measured ((sSoft 2).stRecv 0 ((sSoft 2).stageDir 0)) 999000).1 = 999 ∧
        5 * 999 < ((sSoft 2).stage 0).ssTarget ∧ (sSoft 2).f (R.STAGE_STATUS 0) F.STAGE_STATUS_SEL = 2)
        (.startShortCheck 0 999000) (fun t => t.stageState 0 == stTripped && seen 0x20 0 t),
      meets (sSoft 0) (softDue (sSoft 0) = true ∧ ((sSoft 0).measured ((sSoft 0).stRecv 0 ((sSoft 0).stageDir 0)) 1000000).1 = 1000 ∧
        ((sSoft 0).stage 0).ssTarget ≤ 5 * 1000 ∧ 10 * 1000 < 9 * ((sSoft 0).stage 0).ssTarget ∧
        (sSoft 0).f (R.STAGE_STATUS 0) F.STAGE_STATUS_SEL = 0 ∧ (sSoft 0).cbcWithin 0 16 = false) (.startShortCheck 0 1000000) (seen 0x28 0),
      meets (sRun { satCnt := 1000 } []) ((sRun { satCnt := 1000 } []).stageRuns 0 = true ∧
        800000 ≤ ((sRun { satCnt := 1000 } []).stage 0).satCnt * (sRun { satCnt := 1000 } []).ctlCounts 0) (.loopSat 0)
        (fun t => t.stageState 0 == stTripped && seen 0x27 0 t),
      meets (sRun {} []) ((sRun {} []).stageRuns 0 = true ∧ (sRun {} []).stInGroup 0 0 = true) (.hbFltAssert 0)
        (fun t => t.stageState 0 == stTripped && seen 0x22 0 t)].all id = true := by decide +kernel

def sRev (set : Nat) : State :=
  withStage (stg stReversing [(R.STAGE_CBC 0, F.STAGE_CBC_CBC_POS, 100), (R.STAGE_IL 0, ⟨0, 32⟩, 199), (R.STAGE_LOOPSET 0, F.STAGE_LOOPSET_SET_REV, set)])
    { ramping := true, dirWant := true }

def revDue (s : State) : Bool :=
  decide (s.stageState 0 = stReversing ∧ (s.stage 0).ramping = true ∧
    (toSigned 32 (s.rdN (R.STAGE_IL 0))).natAbs * 50 < s.f (R.STAGE_CBC 0) F.STAGE_CBC_CBC_POS * 100)

def sIdle : State := withStage (stg stRun []) { zeroTicks := 1000 }

def sAuto : State :=
  fb [(R.STAGE_STATUS 1, F.STAGE_STATUS_STATE, stReady), (R.RAIL_CFG 0, F.RAIL_CFG_AUTO_ON, 1), (R.INPUT_STATUS 0, F.INPUT_STATUS_STATE, supOnline),
    (R.SEC_STATUS, F.SEC_STATUS_ENV_VALID, 1), (R.STAGE_CBC 1, F.STAGE_CBC_CBC_POS, 100), (R.ENV_RAIL 0, F.ENV_RAIL_RVMAX, 5000),
    (R.RAIL_VFB 0, F.RAIL_VFB_V, 123)]

theorem test_stage_moves :
    [meets (stg stIdent []) ((stg stIdent []).stageState 0 = stIdent ∧
        (∀ g : Fin 4, (stg stIdent []).stInGroup 0 g = true → bitsOf 14 g 1 ≠ 1) ∧ 9 * 900 ≤ 10 * 990 ∧ 10 * 990 ≤ 11 * 900)
        (.hbIdentDone 0 14 [990]) (fun t => t.stageState 0 == stReady),
      meets (stg stIdent []) ((stg stIdent []).stageState 0 = stIdent ∧ ¬ 10 * 991 ≤ 11 * 900) (.hbIdentDone 0 0 [991])
        (fun t => t.stageState 0 == stLocked && seen 0x23 0 t),
      meets (sRev 0x3F) (revDue (sRev 0x3F) = true ∧ ((sRev 0x3F).loadSet 0 true).isSome = true) (.reversalZeroCurrent 0 7)
        (fun t => t.stageDir 0 && (t.stage 0).uHist == List.replicate 3 (7 * 2 ^ 20)),
      meets (sRev 5) (revDue (sRev 5) = true ∧ ((sRev 5).loadSet 0 true).isNone = true) (.reversalZeroCurrent 0 7)
        (fun t => t.stageState 0 == stTripped && seen 0x24 0 t),
      meets sIdle (sIdle.stageState 0 = stRun ∧ 1000 ≤ (sIdle.stage 0).zeroTicks ∧ sIdle.standing 0 = false ∧ sIdle.stageRail 0 = some 0 ∧
        sIdle.flag (R.RAIL_CFG 0) F.RAIL_CFG_AUTO_ON = false) (.stageIdleTimeout 0) (fun t => t.stageState 0 == stReady),
      meets sAuto (sAuto.declared 0 = true ∧ sAuto.flag (R.RAIL_CFG 0) F.RAIL_CFG_AUTO_ON = true ∧
        (∀ q : Fin 8, sAuto.f (R.RAIL_CFG q) F.RAIL_CFG_START_ORDER = 0) ∧ (∀ m : Fin 8, sAuto.stageRuns m = false) ∧
        sAuto.autoStage 0 = some (1, false) ∧ sAuto.stRecv 1 false = 0 ∧ sAuto.flag (R.RAIL_STATUS 0) F.RAIL_STATUS_PGOOD = false ∧
        sAuto.mayStart 1 = true ∧ sAuto.startBad 1 false = none ∧ (sAuto.loadSet 1 false).isSome = true) (.autoOnStart 0)
        (fun t => t.stageState 1 == stSoft && t.f (R.RAIL_STATUS 0) F.RAIL_STATUS_REF == 123)].all id = true := by decide +kernel

def sPins : State := fb [(R.VSEL_CFG 1, F.VSEL_CFG_EN, 1), (R.VSEL_CFG 1, F.VSEL_CFG_RAIL_MASK, 1)]

theorem test_pins :
    [meets sPins (1 < sPins.sys.vselPins.length ∧ ∀ r ∈ maskRails (sPins.vselMask 1), sPins.softStage r = none) (.vselPattern 1 5)
        (fun t => t.f (R.VSEL_CFG 1) F.VSEL_CFG_PINS == 5 && t.f (R.VSEL_CFG 1) F.VSEL_CFG_ACTIVE == 5),
      meets (fb []) ((∀ r ∈ maskRails (getBits 0x101#32 8 8), (fb []).declared r = true ∧ bitsOf ((fb []).vselMask (1 - 0)) r 1 ≠ 1) ∧
        (fb []).maskOrdered ((fb []).vselMask 0) = false ∧ (fb []).maskOrdered (getBits 0x101#32 8 8) = false) (.vselCfgWrite .pcie 0 0x101#32)
        (fun t => t.vselMask 0 == 1 && t.f (R.VSEL_CFG 0) F.VSEL_CFG_EN == 1),
      meets (fb []) (getBits 0x200#32 8 8 ≠ (fb []).vselMask 0 ∧ ∃ r ∈ maskRails (getBits 0x200#32 8 8), (fb []).declared r = false)
        (.vselCfgWrite .pcie 0 0x200#32) (fun t => t.vselMask 0 == 0 && t.flag (R.VSEL_CFG 0) F.VSEL_CFG_REFUSED),
      meets sPins (getBits 0x100#32 8 8 ≠ sPins.vselMask 0 ∧ ∃ r ∈ maskRails (getBits 0x100#32 8 8), bitsOf (sPins.vselMask (1 - 0)) r 1 = 1)
        (.vselCfgWrite .pcie 0 0x100#32) (fun t => t.vselMask 0 == 0),
      meets sPins (sPins.maskOrdered (sPins.vselMask 1) = false ∧ ∀ r ∈ maskRails (sPins.vselMask 1), sPins.nodeVmin r ≤ 5000 ∧ 5000 ≤ sPins.nodeVmax r)
        (.vselSpWrite .pcie 1 7 5000#32) (fun t => t.rd (R.VSEL_SP 1 7) == 5000#32),
      meets sPins (∃ r ∈ maskRails (sPins.vselMask 1), sPins.nodeVmax r < getBits 5001#32 0 16) (.vselSpWrite .pcie 1 7 5001#32)
        (fun t => t.flag (R.VSEL_CFG 1) F.VSEL_CFG_REFUSED),
      meets (fb []) ((fb []).declared 0 = true ∧ (fb []).nodeVmin 0 ≤ 3000 ∧ 3000 ≤ (fb []).nodeVmax 0) (.railSpWrite .pcie 0 3000#32)
        (fun t => t.f (R.RAIL_SP 0) F.RAIL_SP_DEF_SP == 3000),
      meets (fb []) (getBits 2999#32 0 16 < (fb []).nodeVmin 0) (.railSpWrite .pcie 0 2999#32) (same (fb []))].all id = true := by decide +kernel

/-! Supplies and the path. -/

/-- Input 0 in a state at a voltage. -/
def sup (x mv : Nat) (l : List (Nat × Fld × Nat)) : State :=
  fb ([(R.INPUT_STATUS 0, F.INPUT_STATUS_STATE, x), (R.INPUT_STATUS 0, F.INPUT_STATUS_V, mv), (R.INPUT_CFG 0, F.INPUT_CFG_EN, 1)] ++ l)

def qualified : State := { sup supQualify 19999 [] with cyc := 400000000 }

def closing : State := { sup supClosing 10000 [(R.PSW_STATUS 2, F.PSW_STATUS_CLOSED, 1)] with cyc := 200000 }

def tripped (permit : Nat) (trips : List Nat) : State :=
  (fb [(R.PSW_STATUS 0, F.PSW_STATUS_CLOSED, 1), (R.PSW_STATUS 0, F.PSW_STATUS_PERMIT, permit)]).setPsw 0 { trips := trips }

def held : State := { (fb []).setPsw 0 { trips := [0], hold := true } with cyc := 20000000 }

theorem test_supplies :
    [meets (sup supAbsent 0 []) ((sup supAbsent 0 []).supEnabled 0 = true ∧ (sup supAbsent 0 []).supInRange 0 9000 = true)
        (.inputInRange (.input 0) 9000) (fun t => t.supState 0 == supQualify && t.supV 0 == 9000 && (t.supply 0).qualAt == 0),
      meets (sup supQualify 9000 []) ((sup supQualify 9000 []).supInRange 0 8999 = false) (.inputOutOfRange (.input 0) 8999)
        (fun t => t.supState 0 == supAbsent),
      meets qualified ((qualified.supply 0).ready = false ∧ qualified.supInRange 0 (qualified.supV 0) = true ∧
        (qualified.supply 0).qualAt + qualified.qualifyCycles ≤ qualified.cyc ∧ qualified.seriesOf 16 = some 2 ∧
        qualified.mayClose 2 = true ∧ qualified.safeOn = false) (.inputQualifyDone (.input 0))
        (fun t => t.supState 0 == supClosing && t.pswClosed 2),
      meets closing (closing.pswClosed 2 = true ∧ closing.pswOk 2 = false ∧ closing.pswRole 2 = 1 ∧ supOfNode (closing.pswA 2) = some 0 ∧
        closing.supState 0 = supClosing) (.pswGateOk 2) (fun t => t.supState 0 == supOnline),
      meets closing (closing.pswOk 2 = false ∧ (closing.supply 0).closeAt + 200000 ≤ closing.cyc) (.pswGateTimeout 2) (fun t => t.supState 0 == supFault && !t.pswClosed 2 && seen 0x64 2 t),
      meets (tripped 1 [0, 0]) ((tripped 1 [0, 0]).pswClosed 0 = true ∧ (tripped 1 [0, 0]).f (R.PSW_STATUS 0) F.PSW_STATUS_PERMIT ≠ 3 ∧
        2 ≤ (((tripped 1 [0, 0]).psw 0).trips.filter (fun t => decide ((tripped 1 [0, 0]).cyc < t + 200000000))).length) (.pswReverseTrip 0) (fun t => !t.pswClosed 0 && (t.psw 0).hold && seen 0x63 0 t && seen 0x68 0 t),
      meets (tripped 3 []) ((tripped 3 []).pswRole 0 = 1 ∧ isPack ((tripped 3 []).pswA 0) = true ∧ (tripped 3 []).safeOn = false ∧
        (tripped 3 []).f (R.PSW_STATUS 0) F.PSW_STATUS_PERMIT = 3) (.pswReverseTrip 0) (same (tripped 3 [])),
      meets held ((held.psw 0).hold = true ∧ (held.psw 0).trips.headD 0 + held.f (R.PSW_REV 0) F.PSW_REV_REV_HOLD * 2000000 ≤ held.cyc)
        (.revHoldExpiry 0) (fun t => !(t.psw 0).hold)].all id = true := by decide +kernel

def serving : State :=
  { (sup supOnline 10000 [(R.PSW_STATUS 2, F.PSW_STATUS_CLOSED, 1), (R.STAGE_STATUS 1, F.STAGE_STATUS_STATE, stRun), (R.STAGE_CEIL 1, ⟨0, 32⟩, 9)]).setSupply 0
      { below := some 0, above := some 0 } with cyc := 4000 }

def released (t : State) : Bool := !t.stageRuns 1 && t.stageCeil 1 == 0 && !t.pswClosed 2

def handing (low : Option Nat) : State :=
  (sup supLost 0 [(R.SUPPLY_STATUS 0, F.SUPPLY_STATUS_STATE, supHandover)]).setXfer 0 { lost := [0], revalDone := true, low := low }

def back (x : Nat) : State := { sup supOnline 10000 [(R.SUPPLY_STATUS 0, F.SUPPLY_STATUS_STATE, x)] with cyc := 200000000 }

theorem test_handover :
    [meets serving (serving.supState 0 = supOnline ∧ 4499 < serving.lossMv 0 ∧ (serving.supply 0).below = some 0 ∧
        0 + serving.lossCycles 0 ≤ serving.cyc ∧ 1 ∈ serving.stagesOutOf 16 ∧ serving.seriesOf 16 = some 2)
        (.inputLoss (.input 0) 4499) (fun t => t.supState 0 == supLost && released t && seen 0x61 0 t),
      meets serving (serving.ovMv 0 < 65001 ∧ (serving.supply 0).above = some 0 ∧ 0 + 200 ≤ serving.cyc) (.inputOv 0 65001) (fun t => t.supState 0 == supFault && released t && seen 0x62 0 t),
      meets serving (serving.supState 0 = supOnline) (.inputDisable .pcie 0) (fun t => t.supState 0 == supLost && released t),
      meets (handing (some 5)) ((handing (some 5)).railSupply 0 = supHandover ∧ ((handing (some 5)).xfer 0).revalDone = true ∧
        (∀ x ∈ ((handing (some 5)).xfer 0).lost, x < 6)) (.handoverComplete 0) (fun t => t.railSupply 0 == supPacks && seen 0x66 0 t),
      meets (handing none) (((handing none).xfer 0).low = none) (.handoverComplete 0) (fun t => t.railSupply 0 == supPacks && !seen 0x66 0 t),
      meets (back supPacks) ((back supPacks).railSupply 0 = supPacks ∧ (back supPacks).onlineOn 0 = [0] ∧ (back supPacks).holdPassed 0 = true)
        (.transferBackStart 0) (fun t => t.railSupply 0 == supTransfer && (t.xfer 0).src == 0),
      meets (back supTransfer) ((back supTransfer).railSupply 0 = supTransfer ∧ (back supTransfer).onlineOn 0 ≠ [] ∧
        ((back supTransfer).rail 0).load ≤ ((back supTransfer).xfer 0).ramp) (.transferBackDone 0)
        (fun t => t.railSupply 0 == supSourced)].all id = true := by decide +kernel

/-- The tracker on input 2 with stage 2: V_OP, DIR, SWEEPING, and the loops that limited the stage. -/
def track (vop sweeping limited sel : Nat) : State :=
  { (fb [(R.FAB_NODE_VRANGE 18, F.FAB_NODE_VRANGE_V_MIN, 9000), (R.FAB_NODE_VRANGE 18, F.FAB_NODE_VRANGE_V_MAX, 20000),
      (R.STAGE_NODES 2, F.STAGE_NODES_FROM, 18), (R.STAGE_NODES 2, F.STAGE_NODES_TO, 0), (R.STAGE_NODES 2, F.STAGE_NODES_TOPO, 1),
      (R.INPUT_STATUS 2, F.INPUT_STATUS_STATE, supOnline), (R.INPUT_2_MPPT_CFG, F.INPUT_2_MPPT_CFG_EN, 1),
      (R.INPUT_2_MPPT_CFG, F.INPUT_2_MPPT_CFG_SWEEP_S, 60),
      (R.INPUT_2_MPPT_STATUS, F.INPUT_2_MPPT_STATUS_V_OP, vop), (R.INPUT_2_MPPT_STATUS, F.INPUT_2_MPPT_STATUS_SWEEPING, sweeping),
      (R.INPUT_2_MPPT_STATUS, F.INPUT_2_MPPT_STATUS_LIMITED, limited)]).setStage 2 { selHist := sel } with
    cyc := 60 * 200000000, mppt := { pLast := 50, bestP := 40, bestV := 15000, lowAt := some 0 } }

def onTrack (s : State) : Bool := decide (s.mpptOn = true ∧ s.mpptDue = true ∧ s.mpptMin < s.mpptMax ∧ s.flag R.INPUT_2_MPPT_STATUS F.INPUT_2_MPPT_STATUS_RANGE_ERR = false)

theorem test_tracker :
    [meets (track 9050 0 0 0) (onTrack (track 9050 0 0 0) = true) (.mpptStep 49) (fun t => t.vOp == 9050 && t.mppt.pLast == 49),
      meets (track 9050 0 0 8) (onTrack (track 9050 0 0 8) = true) (.mpptStep 50) (fun t => t.vOp == 9000 &&
        t.flag R.INPUT_2_MPPT_STATUS F.INPUT_2_MPPT_STATUS_LIMITED),
      meets (track 9050 0 0 8) (onTrack (track 9050 0 0 8) = true) (.mpptStep 49) (fun t => t.vOp == 9150),
      meets (track 9050 0 0 0) (onTrack (track 9050 0 0 0) = true ∧ (track 9050 0 0 0).sweepDue = true) (.mpptSweep 40)
        (fun t => t.vOp == 20000 && t.flag R.INPUT_2_MPPT_STATUS F.INPUT_2_MPPT_STATUS_SWEEPING),
      meets (track 9000 1 0 0) (onTrack (track 9000 1 0 0) = true ∧ (track 9000 1 0 0).vOp ≤ (track 9000 1 0 0).mpptMin) (.mpptSweep 40)
        (fun t => t.vOp == 15000 && t.rdN R.INPUT_2_MPPT_PMPP == 40),
      meets (track 9001 1 0 0) (onTrack (track 9001 1 0 0) = true ∧ (track 9001 1 0 0).mpptMin < (track 9001 1 0 0).vOp) (.mpptSweep 41)
        (fun t => t.vOp == 9000 && t.mppt.bestP == 41 && t.mppt.bestV == 9001),
      meets (track 9000 0 1 0) (onTrack (track 9000 0 1 0) = true ∧
        (track 9000 0 1 0).flag R.INPUT_2_MPPT_STATUS F.INPUT_2_MPPT_STATUS_LIMITED = true ∧
        (track 9000 0 1 0).mppt.lowAt = some 0 ∧ (track 9000 0 1 0).mppt.lowTold = false ∧ 0 + 12000000000 ≤ (track 9000 0 1 0).cyc) .mpptNoPower (seen 0x67 2)].all id = true := by
  decide +kernel

/-! Pack charging. -/

/-- A profile image of two phases: CHARGE, with some exits, then REST. -/
def image (exits icell : Nat) : List Byte :=
  let b := [(0, 4, 0x46504843), (4, 2, 1), (6, 1, 1), (7, 1, 2), (8, 1, 80), (9, 1, 4), (10, 2, 10), (18, 2, 0), (20, 2, 100), (22, 2, 200), (24, 2, 300),
    (26, 2, 400), (32, 1, 1), (33, 1, exits), (34, 1, 1), (35, 1, 2), (40, 2, 10), (48, 1, 3), (49, 1, 2)].foldl
      (fun (b : List Byte) x => put b x.1 x.2.1 x.2.2) (List.replicate 400 0#8)
  let b := (List.range 12).foldl (fun b k => put (put b (160 + 4 * k) 2 8000) (162 + 4 * k) 2 (if k < 6 then icell else 0)) b
  put b 28 4 (crcNat (slice b 0 28 ++ slice b 32 368))

/-- Pack 0 under a profile, charging in zone 2, with more fields, and more of what it keeps beside its registers. -/
def chg (b : List Byte) (st_ : Nat) (l : List (Nat × Fld × Nat)) (r : PackRt) : State :=
  (fb ([(R.PACK_PROFILE 0, F.PACK_PROFILE_STATE, 1), (R.PACK_CHG_STATUS 0, F.PACK_CHG_STATUS_STATE, st_), (R.PACK_CHG_STATUS 0, F.PACK_CHG_STATUS_ZONE, 2),
    (R.ENV_PACK_VLIM 0, F.ENV_PACK_VLIM_VCHG_MAX, 8000), (R.ENV_PACK_ILIM 0, F.ENV_PACK_ILIM_ICHG_MAX, 100)] ++ l)).setPack 0 { r with prof := b }

/-- A commit that is being checked. -/
def checking (b : List Byte) : State :=
  chg [] chStopped [(R.PACK_PROFILE 0, F.PACK_PROFILE_STATE, 3)] { checking := b }

theorem test_profile_commits :
    [meets (chg [] chStopped [] {}) ((chg [] chStopped [] {}).profBusy 0 = false) (.profileCommit .spi 0)
        (fun t => t.f (R.PACK_PROFILE 0) F.PACK_PROFILE_STATE == 3),
      meets (chg [] chPaused [] {}) ((chg [] chPaused [] {}).profBusy 0 = true) (.profileCommit .spi 0)
        (fun t => t.f (R.PACK_PROFILE 0) F.PACK_PROFILE_ERR == 8 && t.profValid 0)].all id = true := by decide +kernel

theorem test_profile_check :
    holds (checking (image 1 100)) ((checking (image 1 100)).f (R.PACK_PROFILE 0) F.PACK_PROFILE_STATE = 3 ∧
        (checking (image 1 100)).profCheck 0 (image 1 100) = none) = true ∧
      holds (checking (image 1 101)) ((checking (image 1 101)).f (R.PACK_PROFILE 0) F.PACK_PROFILE_STATE = 3 ∧
        (checking (image 1 101)).profCheck 0 (image 1 101) = some (7, 0)) = true := by
  simp only [State.profCheck, crc32c_eq]
  decide +kernel

def zoned (r : PackRt) (tv : Nat) : State := chg (image 1 100) chStopped [(R.PACK_LINK_STATUS 0, F.PACK_LINK_STATUS_T_VALID, tv)] r

def ntcSec (r : PackRt) : State := { zoned { r with ntcSince := some 0 } 0 with cyc := 200000000 }

theorem test_zones :
    [decide (zoneMove (image 1 100) 2 199 6 = 2 ∧ zoneMove (image 1 100) 2 200 6 = 3 ∧ zoneMove (image 1 100) 3 199 6 = 2),
      meets (zoned { alarms := 4 } 0) (alHot ((zoned { alarms := 4 } 0).pack 0).alarms = true) (.zoneEval 0 10000) (fun t => t.zoneOf 0 == 5),
      holds (zoned { ntcBad := true } 0) (((zoned { ntcBad := true } 0).pack 0).ntcBad = true ∧
        (zoned { ntcBad := true } 0).flag (R.PACK_LINK_STATUS 0) F.PACK_LINK_STATUS_T_VALID = false),
      meets (zoned {} 0) (alHot ((zoned {} 0).pack 0).alarms = false ∧ ((zoned {} 0).pack 0).hot = false ∧ ((zoned {} 0).pack 0).ntcBad = false ∧
        (zoned {} 0).profValid 0 = true ∧ (zoned {} 0).flag (R.PACK_LINK_STATUS 0) F.PACK_LINK_STATUS_T_VALID = false ∧
        10000 = (zoned {} 0).f (R.PACK_NTC_CFG 0) F.PACK_NTC_CFG_RNOM * 10 ∧ (zoned {} 0).f (R.PACK_NTC_CFG 0) F.PACK_NTC_CFG_BETA ≠ 0)
        (.zoneEval 0 10000) (fun t => t.f (R.PACK_TEMP 0) F.PACK_TEMP_T_NTC == 250 && t.zoneOf 0 == 3),
      meets (ntcSec {}) ((ntcSec {}).declared 8 = true ∧ ((ntcSec {}).pack 0).ntcSince = some 0 ∧ 0 + 200000000 ≤ (ntcSec {}).cyc ∧
        ((ntcSec {}).pack 0).ntcBad = false ∧ (ntcSec {}).ntcOut 0 0 = true) (.ntcFault 0 0) (fun t => (t.pack 0).ntcBad && t.chState 0 == chLocked && seen 0x54 0 t),
      meets (ntcSec { ntcBad := true }) (((ntcSec { ntcBad := true }).pack 0).ntcSince = some 0 ∧ (ntcSec { ntcBad := true }).ntcOut 0 10000 = false) (.ntcRecovered 0 10000)
        (fun t => !(t.pack 0).ntcBad)].all id = true := by decide +kernel

def dog (exp cyc : Nat) : State :=
  { chg (image 1 100) chStopped [(R.PACK_CHG_STATUS 0, F.PACK_CHG_STATUS_WDT_EXP, exp)] {} with cyc := cyc }

theorem test_charger_settings :
    [meets (dog 1 5) (getBits 0x1A5#32 0 8 = 0xA5 ∧ (dog 1 5).cyc < ((dog 1 5).pack 0).wdtAt + (dog 1 5).chgWdtCycles 0) (.chgWdtKick .spi 0 0x1A5#32) (fun t => (t.pack 0).wdtAt == 5 && !seen 0x52 0 t &&
        !t.flag (R.PACK_CHG_STATUS 0) F.PACK_CHG_STATUS_WDT_EXP),
      meets (dog 1 5) (getBits 0xA4#32 0 8 ≠ 0xA5) (.chgWdtKick .spi 0 0xA4#32) (same (dog 1 5)),
      meets (dog 0 (60 * 200000000)) ((dog 0 0).flag (R.PACK_CHG_CFG 0) F.PACK_CHG_CFG_WDT_EN = true ∧
        (dog 0 0).flag (R.PACK_CHG_STATUS 0) F.PACK_CHG_STATUS_WDT_EXP = false ∧
        ((dog 0 0).pack 0).wdtAt + min 600 (max 10 ((dog 0 0).f (R.PACK_CHG_CFG 0) F.PACK_CHG_CFG_WDT_S)) * 200000000 ≤ 60 * 200000000)
        (.chgWdtExpiry 0) (fun t => t.flag (R.PACK_CHG_STATUS 0) F.PACK_CHG_STATUS_WDT_EXP && seen 0x52 0 t),
      meets (dog 1 0) (getBits 3#32 2 1 = 0 ∧ getBits 3#32 0 2 = 3 ∧ (dog 1 0).chState 0 = chStopped ∧ (dog 1 0).profValid 0 = true ∧
        (dog 1 0).f (R.PACK_CHG_FAULT 0) F.PACK_CHG_FAULT_CAUSE = 0 ∧ (dog 1 0).heldCharge 0 = false ∧
        pfMode ((dog 1 0).pack 0).prof ((dog 1 0).phaseOf 0) ≠ mdRest) (.chgCfgWrite .spi 0 3#32)
        (fun t => t.chState 0 == chCharging && !t.flag (R.PACK_CHG_STATUS 0) F.PACK_CHG_STATUS_WDT_EXP)].all id = true := by decide +kernel

def dwelt : State := chg (image 1 100) chCharging [] { dwells := [1, 0, 0, 0, 0], secV := 8000 }
def faint : State := chg (image 0 100) chCharging [] { iRef := 1000 }
def starved : State := chg (image 0 0) chCharging [] {}
def timed (exits eff : Nat) : State := chg (image exits 100) chCharging [] { effHs := eff }
def latched (seen_ : Nat) : State :=
  (chg (image 1 100) chLocked [(R.PACK_CHG_FAULT 0, F.PACK_CHG_FAULT_CAUSE, 0x50), (R.PACK_CHG_FAULT 0, F.PACK_CHG_FAULT_SEEN, seen_)] {}).setHrw 0x50 0
    { st := .locked, cls := 2 }

theorem test_charge_phases :
    [meets dwelt (dwelt.profValid 0 = true ∧ dwelt.chState 0 = chCharging ∧ dwelt.tilthSlow 0 = false ∧
        pfExit (dwelt.pack 0).prof (dwelt.phaseOf 0) 0 = true ∧ (dwelt.pack 0).secV ≤ 8000 + pfMargin (dwelt.pack 0).prof (dwelt.phaseOf 0) ∧
        pfDwell (dwelt.pack 0).prof (dwelt.phaseOf 0) ≤ (dwelt.pack 0).dwells.getD 0 0 + 1) (.chgExitEval 0 ⟨8000, 0⟩)
        (fun t => t.phaseOf 0 == 1 && (t.pack 0).phaseSec == 0),
      meets faint (faint.profValid 0 = true ∧ faint.chState 0 = chCharging ∧
        (∀ k ∈ List.range 5, pfExit (faint.pack 0).prof (faint.phaseOf 0) k = false) ∧ 100 * (9 : Int) < ((faint.pack 0).iRef : Int))
        (.chgExitEval 0 ⟨8000, 9⟩) (fun t => t.chState 0 == chPaused && t.phaseOf 0 == 0),
      decide (starved.chState 0 = chCharging ∧ starved.iChg 0 (starved.phaseOf 0) (starved.zoneOf 0) = 0 ∧
        pfIChg (starved.pack 0).prof (starved.phaseOf 0) (starved.zoneOf 0) = 0 ∧ (starved.zonePause 0).chState 0 = chPaused ∧
        (starved.zonePause 0).raised = [⟨0x55, 0, faultRec 2 0⟩]),
      meets (latched 0) ((latched 0).chState 0 = chLocked) (.chgExitEval 0 ⟨7, 8⟩) (fun t => (t.pack 0).vMean == 7 && t.chState 0 == chLocked),
      meets (timed 32 1200) ((timed 32 1200).chState 0 = chCharging ∧ (timed 32 1200).profValid 0 = true ∧ (timed 32 1200).timerExpired 0 = true ∧
        pfExit ((timed 32 1200).pack 0).prof ((timed 32 1200).phaseOf 0) 5 = true) (.chgTimerExpiry 0) (fun t => t.phaseOf 0 == 1),
      meets (timed 1 1200) ((timed 1 1200).timerExpired 0 = true ∧ (timed 1 1199).timerExpired 0 = false ∧
        pfExit ((timed 1 1200).pack 0).prof ((timed 1 1200).phaseOf 0) 5 = false) (.chgTimerExpiry 0)
        (fun t => t.chState 0 == chLocked && t.rdN (R.PACK_CHG_FAULT 0) == 0x50 + 4096 * 2 && seen 0x50 0 t),
      meets (latched 0) True (.chgFaultRead .field 0) (fun t => t.flag (R.PACK_CHG_FAULT 0) F.PACK_CHG_FAULT_SEEN),
      meets (latched 1) ((latched 1).f (R.PACK_CHG_FAULT 0) F.PACK_CHG_FAULT_CAUSE = 0x50 ∧ (latched 1).clearCause 0x50 0 = 0) (.chgClear .spi 0)
        (fun t => t.f (R.PACK_CHG_FAULT 0) F.PACK_CHG_FAULT_CAUSE == 0 && (t.hrwInst 0x50 0).st == .clear),
      meets (latched 0) ((latched 0).clearCause 0x50 0 ≠ 0) (.chgClear .spi 0) (fun t => t.flag (R.PACK_CHG_STATUS 0) F.PACK_CHG_STATUS_CLR_REFUSED)
      ].all id = true := by decide +kernel

/-! Pack links, Tilth and the CAN ports. -/

def lk (mode st_ : Nat) (r : PackRt) : State :=
  (fb [(R.PACK_LINK_CFG 3, F.PACK_LINK_CFG_LINK_MODE, mode), (R.PACK_LINK_STATUS 3, F.PACK_LINK_STATUS_STATE, st_), (R.CAN_CFG 0, F.CAN_CFG_EN, 1),
    (R.CAN_CFG 0, F.CAN_CFG_FD, 1), (R.PACK_LINK_CANID 3, F.PACK_LINK_CANID_ID, 0x200),
    (R.PACK_ID 3, ⟨0, 32⟩, 7)]).setPack 3 r

def smbI : SmbIdent := ⟨0, [1#8], [], [], [], asciiBytes [0x6C, 0x66, 0x70], 3600, 100, 90⟩
def smbP : SmbPoll := ⟨3700, 5, 2982, 0x80, 10, 4200, 50, (60, 7)⟩
def idFrame : CanFrame := ⟨0x201, false, true, put (put (put (List.replicate 16 0#8) 0 4 7) 6 2 12) 8 6 5000⟩
def stFrame : CanFrame := ⟨0x200, false, true, put (put (put (put (List.replicate 24 0#8) 2 4 99) 8 4 77) 14 6 4000) 23 1 0⟩

theorem test_links :
    [holds (lk 0 0 {}) ((2 : Nat) ≠ (lk 0 0 {}).linkMode 3),
      meets (lk 1 lkUp {}) ((1 : Nat) = (lk 1 lkUp {}).linkMode 3) (.linkCfgWrite .headland 3 0x101#32) (fun t => t.linkState 3 == lkUp),
      meets (lk 1 lkUp {}) (Path.spi ≠ .headland) (.linkCfgWrite .spi 3 0x11#32)
        (fun t => t.f (R.PACK_LINK_CFG 3) F.PACK_LINK_CFG_REQUIRED == 0 && seen 0xB0 1 t),
      meets (lk 1 lkUp { fails := 3, linkI := some 5 }) (max 1 ((lk 1 lkUp {}).f (R.PACK_LINK_CFG 3) F.PACK_LINK_CFG_RETRY) ≤ 3) (.packLinkLost 3)
        (fun t => t.linkState 3 == lkLost && (t.pack 3).linkI.isNone && seen 0x40 3 t),
      meets (later (lk 2 lkIdent {}) 750000) (0 + 3 * (lk 2 lkIdent {}).pollUs 3 ≤ (later (lk 2 lkIdent {}) 750000).us) (.packLinkLost 3)
        (fun t => t.linkState 3 == lkLost),
      meets (lk 1 lkUp { sagged := true, vPack := 2501 }) ((lk 1 lkUp {}).linkState 3 = lkUp) (.packReinsert 3) (fun t => t.linkState 3 == lkIdent),
      meets (lk 1 lkLost {}) ((lk 1 lkLost {}).linkState 3 ≠ lkUp) (.packReinsert 3) (same (lk 1 lkLost {}))].all id = true := by decide +kernel

theorem test_identification :
    [meets (lk 1 lkIdent { prevId := some 3 }) ((lk 1 lkIdent { prevId := some 3 }).linkState 3 = lkIdent ∧ (lk 1 lkIdent {}).linkMode 3 = 1 ∧
        3 ≠ crc32c [1#8, 0x6C#8, 0x66#8, 0x70#8]) (.packIdentDone 3 smbI)
        (fun t => t.linkState 3 == lkUp && t.f (R.PACK_LINK_STATUS 3) F.PACK_LINK_STATUS_CHEM == 2 && seen 0x41 3 t),
      holds (lk 2 lkIdent {}) ((lk 2 lkIdent {}).linkState 3 = lkIdent ∧ (lk 2 lkIdent {}).linkMode 3 = 2 ∧
        (lk 2 lkIdent {}).packFrame 3 1 0 idFrame = true ∧ idFrame.data.length = 16 ∧ ((lk 2 lkIdent {}).pack 3).lastStatus = [])].all id = true := by decide +kernel

theorem test_polls_and_frames :
    [holds (later (lk 1 lkUp { fails := 2 }) 1000000) ((lk 1 lkUp {}).linkMode 3 = 1 ∧ (lk 1 lkUp {}).linkState 3 = lkUp ∧
        0 + (lk 1 lkUp {}).pollUs 3 ≤ 1000000),
      meets (later (lk 1 lkUp { fails := 2 }) 1000000) ((lk 1 lkUp {}).linkState 3 = lkUp) (.packPoll 3 (.failed [] 0 .nack .nack)) (fun t => (t.pack 3).fails == 3 &&
        t.f (R.PACK_LINK_ERR 3) F.PACK_LINK_ERR_NACK == 2),
      meets (lk 1 lkLost {}) ((lk 1 lkLost {}).linkState 3 = lkLost) (.packPoll 3 (.ok smbP [])) (fun t => t.linkState 3 == lkIdent),
      meets (lk 2 lkUp { cnt := some 15 }) ((lk 2 lkUp {}).packFrame 3 0 0 stFrame = true ∧ stFrame.data.length = 24 ∧
        (15 + 1) % 16 = leAt stFrame.data 23 1 % 16 ∧ (lk 2 lkUp {}).linkState 3 = lkUp) (.packStatusFrame 3 0 stFrame)
        (fun t => t.rdN (R.PACK_LINK_I 3) == 99 && t.eRem 3 == 4000 && (t.pack 3).cnt == some 0),
      meets (lk 2 lkLost {}) ((lk 2 lkLost {}).linkState 3 = lkLost ∧ ((lk 2 lkLost {}).pack 3).cnt = none) (.packStatusFrame 3 0 stFrame)
        (fun t => t.linkState 3 == lkIdent && (t.pack 3).lastStatus == stFrame.data),
      meets (lk 2 lkUp { cnt := some 0 }) ((0 + 1) % 16 ≠ leAt stFrame.data 23 1 % 16 ∧ (lk 2 lkUp {}).linkState 3 ≠ lkOff) (.packStatusFrame 3 0 stFrame)
        (fun t => (t.pack 3).cnt.isNone && t.f (R.PACK_LINK_ERR 3) F.PACK_LINK_ERR_SEQ_ERR == 1),
      holds (lk 2 lkUp {}) (leAt idFrame.data 0 4 = (lk 2 lkUp {}).rdN (R.PACK_ID 3) ∧ (lk 2 lkUp {}).linkState 3 = lkUp)].all id = true := by decide +kernel

/-- Tilth can measure: the pack charges in a normal zone through stage 0, its loop B selected. -/
def swept (st_ : Nat) (r : PackRt) : State :=
  chg (image 1 100) chCharging [(R.PACK_TILTH_STATUS 0, F.PACK_TILTH_STATUS_STATE, st_), (R.STAGE_STATUS 0, F.STAGE_STATUS_STATE, stRun),
    (R.STAGE_STATUS 0, F.STAGE_STATUS_DIR, 1), (R.STAGE_STATUS 0, F.STAGE_STATUS_SEL, 1), (R.PACK_TILTH_CFG 0, F.PACK_TILTH_CFG_EN, 1), (R.ENV_PACK_ILIM 0, F.ENV_PACK_ILIM_ICHG_MAX, 200)]
    r

theorem test_tilth :
    [meets (swept 0 {}) ((swept 0 {}).tilthState 0 = 0 ∧ (swept 0 {}).tilthOk 0 = false) (.tilthStart .spi 0) (fun t => t.tilthState 0 == 2),
      meets (swept 1 {}) ((swept 1 {}).tilthState 0 ≠ 0) (.tilthStart .spi 0) (same (swept 1 {})),
      meets (later (swept 0 {}) (24 * 3600000000)) ((swept 0 {}).flag (R.PACK_TILTH_CFG 0) F.PACK_TILTH_CFG_EN = true ∧
        (later (swept 0 {}) (24 * 3600000000)).absTime 0 + (swept 0 {}).f (R.PACK_TILTH_CFG 0) F.PACK_TILTH_CFG_INTERVAL_H * 3600000000 ≤
          (later (swept 0 {}) (24 * 3600000000)).us) (.tilthIntervalExpiry 0) (fun t => t.tilthState 0 == 2),
      meets (swept 1 {}) ((swept 1 {}).tilthState 0 ≠ 0) (.tilthAbort .spi 0) (fun t => t.tilthState 0 == 0 &&
        t.f (R.PACK_TILTH_STATUS 0) F.PACK_TILTH_STATUS_LAST == 2),
      meets (later (swept 2 {}) 900000000) (((swept 2 {}).pack 0).sweepAt + 900000000 ≤ (later (swept 2 {}) 900000000).us) (.tilthTimeout 0)
        (fun t => t.f (R.PACK_TILTH_STATUS 0) F.PACK_TILTH_STATUS_LAST == 3 && seen 0x45 0 t)].all id = true := by decide +kernel

/-- As above, with a current and limits that carry the amplitude. -/
def measured (r : PackRt) : State :=
  (swept 1 {}).setPack 0 { r with prof := image 1 100, iPack := 1000 } |> fun s => later s 100000000

theorem test_tilth_points :
    [meets (measured { ampFails := 1 }) ((measured {}).tilthOk 0 = true ∧ (measured {}).pointOver 0 = true ∧ 2 * 249 < ((measured {}).tilthAmp 0).getD 0 ∧ (measured {}).tilthState 0 ≠ 0)
        (.tilthPointDone 0 ⟨5, 6, 249, 0⟩) (fun t => t.tilthState 0 == 0 && seen 0x45 0 t),
      meets (measured {}) (((measured {}).tilthAmp 0).getD 0 ≤ 2 * 250) (.tilthPointDone 0 ⟨1250, -1500, 0, 250⟩)
        (fun t => t.rdN (R.PACK_Z_RE 0 0) == 2 ^ 32 - 6000 && t.rdN (R.PACK_Z_IM 0 0) == 2 ^ 32 - 5000 && t.f (R.PACK_TILTH_STATUS 0) F.PACK_TILTH_STATUS_POINTS == 1),
      meets (later (fb [(R.PACK_EREM_LO 2, ⟨0, 32⟩, 2), (R.PACK_EFULL_LO 2, ⟨0, 32⟩, 199)]) 3600000000) ((fb [(R.PACK_EFULL_LO 2, ⟨0, 32⟩, 199)]).eFull 2 < 100 * 2)
        (.packHealthWrite 2 3000 none) (fun t => (t.pack 2).healthE == 2),
      meets (later (fb [(R.PACK_EREM_LO 2, ⟨0, 32⟩, 2), (R.PACK_EFULL_LO 2, ⟨0, 32⟩, 200)]) 3600000000) (100 * 2 ≤ (fb [(R.PACK_EFULL_LO 2, ⟨0, 32⟩, 200)]).eFull 2)
        (.packHealthWrite 2 3000 none) (fun t => (t.pack 2).healthE == 0 && (t.pack 2).hourAt == 3600000000)].all id = true := by decide +kernel

def boff (auto : Nat) : State := fb [(R.CAN_STATUS 1, F.CAN_STATUS_STATE, 2), (R.CAN_CFG 1, F.CAN_CFG_AUTO_BO, auto), (R.CAN_STATUS 1, F.CAN_STATUS_TEC, 255)]

theorem test_bus_off :
    [meets sCan (sCan.flag (R.CAN_CFG 1) F.CAN_CFG_EN = true ∧ sCan.f (R.CAN_STATUS 1) F.CAN_STATUS_STATE ≠ 2) (.canBusOff 1)
        (fun t => t.f (R.CAN_STATUS 1) F.CAN_STATUS_STATE == 2 && t.f (R.CAN_STATUS 1) F.CAN_STATUS_BO_CNT == 1 && seen 0x4E 1 t),
      meets (boff 1) ((boff 1).f (R.CAN_STATUS 1) F.CAN_STATUS_STATE = 2 ∧ (boff 1).flag (R.CAN_CFG 1) F.CAN_CFG_AUTO_BO = true) (.canBusOffRecovery 1)
        (fun t => t.f (R.CAN_STATUS 1) F.CAN_STATUS_STATE == 0),
      meets (boff 0) ((boff 0).flag (R.CAN_CFG 1) F.CAN_CFG_AUTO_BO = false) (.canBusOffRecovery 1) (same (boff 0))].all id = true := by decide +kernel

/-! Type-C ports and Power Delivery. -/

/-- Port 1 in a connection state, node 13 with its SERIES switch 5 and stage 3 toward it. -/
def pt (conn : Nat) (l : List (Nat × Fld × Nat)) (r : PortRt) : State :=
  (fb ([(R.FAB_NODE_VRANGE 13, F.FAB_NODE_VRANGE_V_MIN, 3000), (R.FAB_NODE_VRANGE 13, F.FAB_NODE_VRANGE_V_MAX, 20000),
      (R.PSW_CFG 5, F.PSW_CFG_ROLE, 1), (R.PSW_CFG 5, F.PSW_CFG_NODE_A, 13), (R.STAGE_NODES 3, F.STAGE_NODES_TO, 13),
      (R.STAGE_NODES 3, F.STAGE_NODES_TOPO, 1), (R.PORT_STATUS 1, F.PORT_STATUS_CONN, conn)] ++ l)).setPort 1 r

/-- The state under the autonomous policy; under host policy with the ring pair 2. -/
def auto_ (conn pe src : Nat) (r : PortRt) : State :=
  pt conn [(R.PORT_STATUS 1, F.PORT_STATUS_PE, pe), (R.PORT_STATUS 1, F.PORT_STATUS_PWR_ROLE, src)] { r with policyReady := true, cfg := 3#32 }

def host_ (conn : Nat) (l : List (Nat × Fld × Nat)) (r : PortRt) : State :=
  pt conn ([(R.PORT_CFG 1, F.PORT_CFG_RING, 2), (R.RING_CFG 2, F.RING_CFG_TYPE, 4), (R.RING_STATUS 2, F.RING_STATUS_STATE, ringActive),
    (R.RING_CFG 2, F.RING_CFG_CQ_LOG2, 8)] ++ l) { r with policyReady := true, cfg := 0x43#32 }

def free_ (role : Word) (conn : Nat) (r : PortRt) : State := later (pt conn [] { r with configured := true, cfg := role }) 1000000
def obsA (src : Bool) : AttachObs := ⟨src, 1, false, true, 70000⟩

/-- The premises of an attachment by a presentation. -/
def fits (s : State) (conn : Nat) (src : Bool) : Bool :=
  decide ((s.port 1).configured = true ∧ s.conn 1 = conn ∧ s.roleAllows 1 src = true ∧ s.heldPort 1 = false)

def debounced : PortRt := { ccAt := some 0 }

theorem test_attach :
    [meets (pt cnUnattached [] {}) (((pt cnUnattached [] {}).port 1).configured = false) (.portAttach 1 (obsA false))
        (fun t => (t.port 1).seen == some (obsA false) && t.supV 4 == 65535 && t.conn 1 == cnUnattached),
      meets (free_ 3#32 0 { presSrc := true }) (fits (free_ 3#32 0 { presSrc := true }) cnUnattached true = true) (.portAttach 1 (obsA true))
        (fun t => t.conn 1 == cnWaitSrc),
      meets (free_ 2#32 3 debounced) (fits (free_ 2#32 3 debounced) cnWaitSrc true = true ∧
        (free_ 2#32 3 debounced).heldFor ((free_ 2#32 3 debounced).port 1).ccAt (120 * msCyc) = true) (.portAttach 1 (obsA true))
        (fun t => t.conn 1 == cnSource && t.isSrc 1 && t.supV 4 == 65535),
      meets (free_ 0xB#32 3 debounced) ((free_ 0xB#32 3 debounced).cfgOf 1 F.PORT_CFG_TRY = 2 ∧ fits (free_ 0xB#32 3 debounced) cnWaitSrc true = true)
        (.portAttach 1 (obsA true)) (fun t => t.conn 1 == cnTrySnk),
      meets (free_ 1#32 1 debounced) (fits (free_ 1#32 1 debounced) cnWaitSnk false = true) (.portAttach 1 (obsA false))
        (fun t => t.conn 1 == cnSink && !t.isSrc 1),
      meets (free_ 7#32 1 debounced) ((free_ 7#32 1 debounced).cfgOf 1 F.PORT_CFG_TRY = 1 ∧ fits (free_ 7#32 1 debounced) cnWaitSnk false = true)
        (.portAttach 1 (obsA false)) (fun t => t.conn 1 == cnTrySrc),
      meets (free_ 3#32 6 debounced) (fits (free_ 3#32 6 debounced) cnTryWaitSnk false = true) (.portAttach 1 (obsA false)) (fun t => t.conn 1 == cnSink),
      meets (free_ 3#32 5 debounced) (fits (free_ 3#32 5 debounced) cnTrySrc true = true) (.portAttach 1 (obsA true)) (fun t => t.conn 1 == cnSource),
      meets (free_ 3#32 0 {}) ((free_ 3#32 0 {}).cfgOf 1 F.PORT_CFG_ROLE = 3 ∧ (free_ 3#32 0 {}).conn 1 = cnUnattached) (.drpToggle 1)
        (fun t => (t.port 1).presSrc && (t.port 1).toggleAt == 200000000),
      meets (free_ 3#32 0 { toggleAt := 200000000 }) ((free_ 3#32 0 {}).cyc < 200000000 + 3 * 1500000) (.drpToggle 1)
        (same (free_ 3#32 0 { toggleAt := 200000000 }))].all id = true := by decide +kernel

theorem test_detach :
    [meets (auto_ cnSink 6 0 { configured := true }) ((auto_ cnSink 6 0 { configured := true }).attached 1 = true) (.portDetach 1 false)
        (fun t => (t.port 1).detach == 1 && !t.explicit 1),
      meets (later (auto_ cnSink 6 0 { configured := true, lowAt := some 0 }) 10) ((auto_ cnSink 6 0 { configured := true }).conn 1 = cnSink ∧
        (later (auto_ cnSink 6 0 { lowAt := some 0 }) 10).heldFor ((auto_ cnSink 6 0 { lowAt := some 0 }).port 1).lowAt 2000 = true) (.portDetach 1 true)
        (fun t => (t.port 1).detach == 2),
      meets (auto_ cnSink 6 0 { configured := true, detach := 2 }) (((auto_ cnSink 6 0 { detach := 2 }).port 1).detach ≠ 0 ∧
        (auto_ cnSink 6 0 {}).supV 4 ≤ 800) (.detachDischarged 1)
        (fun t => t.conn 1 == cnUnattached && t.supState 4 == supAbsent && (t.port 1).detach == 0)].all id = true := by decide +kernel

/-- A Source port at a step of its start-up, 650 ms after it began. -/
def rising (r : PortRt) : State := later (auto_ cnSource 7 1 { r with srcStep := 1 }) 650000

def vconn (r : PortRt) : State := later (pt cnSource [(R.PORT_STATUS 1, F.PORT_STATUS_VCONN_ON, 1)] { r with policyReady := true }) 2000

theorem test_vbus_and_vconn :
    [meets (rising { safeAt := some 0, dschg := true }) ((rising {}).attached 1 = true ∧ ((rising {}).port 1).srcStep = 1 ∧
        (rising { safeAt := some 0 }).heldFor ((rising { safeAt := some 0 }).port 1).safeAt msCyc = true) (.vbusSafe0v 1)
        (fun t => (t.port 1).refMv == 5000 && (t.port 1).srcStep == 3 && !(t.port 1).dschg),
      meets (rising { safeAt := some 0, hardRecov := true }) (((rising { hardRecov := true }).port 1).hardRecov = true) (.vbusSafe0v 1)
        (fun t => t.timerAt 1 .srcRecover == some 130000000 && (t.port 1).refMv == 0),
      meets (rising { safeAt := some 0, prSwap := true }) (((rising { prSwap := true }).port 1).prSwap = true) (.vbusSafe0v 1)
        (fun t => t.outbox == [.pdTx 1 false 0x186 []] && t.timerAt 1 .psSourceOn == some 130000000),
      meets (rising {}) ((rising {}).conn 1 = cnSource ∧ ((rising {}).port 1).srcAt + 650 * msCyc ≤ (rising {}).cyc) (.vbusNotSafe0v 1)
        (fun t => t.conn 1 == cnErrorRecovery && seen 0x73 1 t),
      meets (auto_ cnSource 7 1 {}) (6000 < 6001) (.ccOv 1 1 6001) (fun t => t.conn 1 == cnErrorRecovery && t.ccPin 1 1 == .open_ && seen 0x79 1 t),
      meets (auto_ cnSource 7 1 {}) (6000 ≤ 6000) (.ccOv 1 0 6000) (same (auto_ cnSource 7 1 {})),
      meets (later (auto_ cnSource 7 1 { overAt := some 0 }) 10) ((auto_ cnSource 7 1 {}).portOvMv 1 < 6001 ∧ (auto_ cnSource 7 1 {}).attached 1 = true)
        (.portOv 1 6001) (fun t => seen 0x75 1 t && t.outbox.contains (.pdSignal 1 0)),
      meets (later (auto_ cnSource 7 1 { overAt := some 0 }) 9) (6000 ≤ (auto_ cnSource 7 1 {}).portOvMv 1) (.portOv 1 6000)
        (fun t => (t.port 1).overAt == none && !seen 0x75 1 t),
      meets (vconn { vconnAt := some 0 }) ((vconn {}).flag (R.PORT_STATUS 1) F.PORT_STATUS_VCONN_ON = true ∧
        (vconn { vconnAt := some 0 }).heldFor ((vconn { vconnAt := some 0 }).port 1).vconnAt msCyc = true) (.vconnOc 1 true)
        (fun t => !t.flag (R.PORT_STATUS 1) F.PORT_STATUS_VCONN_ON && seen 0x74 1 t),
      meets (vconn {}) (((vconn {}).port 1).vconnAt = none) (.vconnOc 1 true) (fun t => (t.port 1).vconnAt == some 400000),
      meets (vconn { vconnAt := some 0 }) True (.vconnOc 1 false) (fun t => (t.port 1).vconnAt == none && t.flag (R.PORT_STATUS 1) F.PORT_STATUS_VCONN_ON)
      ].all id = true := by decide +kernel

def dead (r : PortRt) : State := pt cnUnattached [(R.PORT_STATUS 1, F.PORT_STATUS_DB, 1)] r

theorem test_port_configuration :
    [meets (free_ 0#32 0 {}) (getBits 0x23#32 6 1 = 0 ∧ (free_ 0#32 0 {}).conn 1 ≠ cnSink ∧ (free_ 0#32 0 {}).conn 1 ≠ cnSource ∧
        ((free_ 0#32 0 {}).port 1).configured = true) (.portCfgWrite .headland 1 0x23#32)
        (fun t => t.rd (R.PORT_CFG 1) == 0x23#32 && (t.port 1).cfg == 0x23#32),
      meets (st [(R.PORT_CFG 2, F.PORT_CFG_POLICY, 1)]) (getBits 3#32 6 1 = 0) (.portCfgWrite .spi 2 3#32)
        (fun t => t.f (R.PORT_CFG 2) F.PORT_CFG_POLICY == 1 && t.flag (R.PORT_STATUS 2) F.PORT_STATUS_CFG_REFUSED),
      meets (dead {}) (((dead {}).port 1).configured = false ∧ (dead {}).conn 1 = cnUnattached ∧ ((dead {}).port 1).seen = none)
        (.portCfgWrite .headland 1 1#32) (fun t => (t.port 1).configured && !t.flag (R.PORT_STATUS 1) F.PORT_STATUS_DB),
      meets (dead { seen := some (obsA false) }) (((dead { seen := some (obsA false) }).port 1).seen = some (obsA false) ∧ (obsA false).asSource = false ∧
        (dead { seen := some (obsA false) }).heldPort 1 = false ∧ getBits 1#32 F.PORT_CFG_ROLE.lo F.PORT_CFG_ROLE.w = 1) (.portCfgWrite .headland 1 1#32)
        (fun t => t.conn 1 == cnSink && t.flag (R.PORT_STATUS 1) F.PORT_STATUS_DB),
      meets (later (vconn { discTries := 19 }) 45000) ((vconn {}).attached 1 = true ∧ ((vconn {}).port 1).hadContract = false ∧
        (vconn {}).flag (R.PORT_CABLE 1) F.PORT_CABLE_FOUND = false ∧ ((vconn { discTries := 19 }).port 1).discTries < 20 ∧
        ((vconn { discTries := 19 }).port 1).discAt + 45 * msCyc ≤ (later (vconn {}) 45000).cyc)
        (.cableDiscovery 1 (some ⟨0x508F, true, false⟩)) (fun t => t.rdN (R.PORT_CABLE 1) == 3 && (t.port 1).discTries == 20 && (t.port 1).revP == 2),
      meets (vconn {}) (((vconn {}).port 1).discTries = 0 ∧ ((vconn {}).port 1).policyReady = true) (.cableDiscovery 1 none)
        (fun t => (t.port 1).discTries == 1 && t.outbox == [.pdTx 1 true 0x108F [1#8, 0x80#8, 0#8, 0xFF#8]]),
      meets (pt cnSink [(R.PORT_CFG 1, F.PORT_CFG_BC_EN, 1)] {}) ((pt cnSink [(R.PORT_CFG 1, F.PORT_CFG_BC_EN, 1)] {}).attached 1 = true ∧
        (pt cnSink [(R.PORT_CFG 1, F.PORT_CFG_BC_EN, 1)] {}).f (R.PORT_STATUS 1) F.PORT_STATUS_TYPEC_CUR = 0) (.bcDetectionDone 1 3)
        (fun t => t.f (R.PORT_STATUS 1) F.PORT_STATUS_BC == 3 && (t.port 1).bcMa == 1500)].all id = true := by decide +kernel

/-- A Fixed object of 9 V and 2 A, and a Sink or a Source with it. -/
def pdo9 : Nat := 180 * 1024 + 200
def caps9 : PdMsg := ⟨false, 0x1081, 0, leBytes 4 pdo9⟩
def sinkOf (pe pmin : Nat) (r : PortRt) : State :=
  (auto_ cnSink pe 0 r).setF (R.PORT_SNK_PDO 1 6) ⟨0, 32⟩ pdo9 |>.setF (R.PORT_SNK_CFG 1) F.PORT_SNK_CFG_PMIN pmin
def srcOf (r : PortRt) : State := later (auto_ cnSource 9 1 { r with capsTx := [pdo9] }) 400000
def req9 (ma : Nat) : PdMsg := ⟨false, 0x1082, 0, leBytes 4 (2 ^ 28 + 1024 * (ma / 10) + ma / 10)⟩

/-- The premises under which a message of the partner reaches the autonomous engine. -/
def ready (s : State) (h : Nat) : Bool :=
  decide (s.attached 1 = true ∧ s.autoPolicy 1 = true ∧ (s.port 1).bist = 0 ∧ (s.port 1).frs = false ∧ (s.port 1).hardRecov = false ∧
    (s.port 1).prSwap = false ∧ (s.port 1).vconnSwap = false ∧ (s.pdAck 1 false h).2 = true)

theorem test_acknowledgement :
    [decide ((sinkOf 2 0 {}).attached 1 = true ∧ ((sinkOf 2 0 {}).port 1).policyReady = true ∧ ((sinkOf 2 0 {}).pdAck 1 false 0x2A1).2 = true ∧
        ((sinkOf 2 0 {}).pdAck 1 false 0x2A1).1.outbox = [.pdTx 1 false 0x281 []]),
      decide (((sinkOf 2 0 { rxMid := some 1 }).pdAck 1 false 0x2A1).2 = false),
      decide (hdrCtl 0x28D = true ∧ hdrType 0x28D = ctlSoftReset ∧ ((sinkOf 2 0 { rxMid := some 1 }).pdAck 1 false 0x28D).2 = true)].all id = true := by
  decide +kernel

theorem test_contracts :
    [meets (sinkOf 2 180 {}) (ready (sinkOf 2 180 {}) caps9.header = true ∧ (sinkOf 2 180 {}).pe 1 = 2 ∧ ((sinkOf 2 180 {}).port 1).moving = false ∧
        bestChoice ((sinkOf 2 180 {}).sinkChoices 1 (objects 13 caps9.data)) = some (1, 9000, 2000) ∧
        (sinkOf 2 180 {}).f (R.PORT_SNK_CFG 1) F.PORT_SNK_CFG_PMIN * 100000 ≤ 9000 * 2000) (.sourceCapabilitiesRx 1 caps9)
        (fun t => t.pe 1 == 4 && (t.port 1).newMv == 9000 && (t.port 1).newMa == 2000 && (t.port 1).reqRdo == 0x110320C8),
      meets (sinkOf 2 181 {}) (9000 * 2000 < (sinkOf 2 181 {}).f (R.PORT_SNK_CFG 1) F.PORT_SNK_CFG_PMIN * 100000) (.sourceCapabilitiesRx 1 caps9)
        (fun t => t.pe 1 == 4 && (t.port 1).newMv == 5000 && bitsOf (t.port 1).reqRdo 26 1 == 1),
      meets (sinkOf 4 0 { budget := 2501 }) (ready (sinkOf 4 0 { budget := 2501 }) 0x83 = true ∧ (sinkOf 4 0 {}).pe 1 = 4 ∧ ((sinkOf 4 0 {}).port 1).ownMsg = none)
        (.acceptRx 1 0x83) (fun t => t.pe 1 == 5 && (t.port 1).moving && (t.port 1).budget == 2500),
      meets (sinkOf 5 0 { moving := true, newMv := 9000, newMa := 2000 }) (ready (sinkOf 5 0 { moving := true, newMv := 9000, newMa := 2000 }) 0x86 = true ∧
        (sinkOf 5 0 {}).isSrc 1 = false) (.psRdyRx 1 0x86) (fun t => t.pe 1 == 6 && t.explicit 1 && t.contractMv 1 == 9000 && (t.port 1).budget == 18000),
      meets (srcOf {}) (ready (srcOf {}) 0x1082 = true ∧ ((srcOf {}).port 1).moving = false ∧
        (srcOf {}).requestOk 1 (leAt (req9 2000).data 0 4) = some (9000, 2000, false)) (.requestRx 1 (req9 2000))
        (fun t => t.pe 1 == 10 && (t.port 1).newMv == 9000 && (t.port 1).moving &&
          t.outbox == [.pdTx 1 false 0x181 [], .pdTx 1 false 0x183 []]),
      meets (srcOf {}) ((srcOf {}).requestOk 1 (leAt (req9 2010).data 0 4) = none) (.requestRx 1 (req9 2010))
        (fun t => (t.port 1).refMv == 0 && t.outbox == [.pdTx 1 false 0x181 [], .pdTx 1 false 0x184 []] && t.pe 1 == 8),
      meets (srcOf { moving := true, newMv := 9000, setAt := some 0 }) ((srcOf {}).isSrc 1 = true ∧
        (srcOf { setAt := some 0 }).heldFor ((srcOf { setAt := some 0 }).port 1).setAt msCyc = true) (.srcTransitionSettled 1)
        (fun t => t.explicit 1 && t.contractMv 1 == 9000 && t.outbox.contains (.pdTx 1 false 0x186 [])),
      meets (srcOf { moving := true, newMv := 9000 }) ((srcOf { moving := true, newMv := 9000 }).attached 1 = true ∧
        0 + (srcOf { moving := true, newMv := 9000 }).moveBound 1 ≤ (srcOf {}).cyc) (.pdSrcTransition 1) (seen 0x76 1),
      meets ((srcOf { sagAt := some 0 }).setF (R.PORT_STATUS 1) F.PORT_STATUS_EXPLICIT 1)
        (((srcOf { sagAt := some 0 }).setF (R.PORT_STATUS 1) F.PORT_STATUS_EXPLICIT 1).explicit 1 = true ∧
          (srcOf { sagAt := some 0 }).heldFor ((srcOf { sagAt := some 0 }).port 1).sagAt (10 * msCyc) = true) (.pdSrcTransition 1) (seen 0x76 1)
      ].all id = true := by decide +kernel

def err_ (l : List (Nat × Fld × Nat)) : State := later (pt cnErrorRecovery l { timers := [(.errorRecovery, 0)] }) 400000
def waiting4 : State := later (sinkOf 4 0 { timers := [(.senderResponse, 0)] }) 30000

theorem test_reset_ladder :
    [meets (sinkOf 6 0 {}) ((sinkOf 6 0 {}).attached 1 = true ∧ ((sinkOf 6 0 {}).port 1).policyReady = true) (.hardResetRx 1)
        (fun t => (t.port 1).hardRecov && t.f (R.PORT_CNT 1) F.PORT_CNT_HARD == 1 && seen 0x70 1 t),
      meets (sinkOf 6 0 {}) ((sinkOf 6 0 {}).attached 1 = true) (.portCtrlHardReset .spi 1) (fun t => (t.port 1).hardRecov && t.outbox == [.pdSignal 1 0]),
      meets waiting4 (waiting4.pe 1 = 4 ∧ (waiting4.port 1).hardRecov = false ∧ waiting4.timerDue 1 .senderResponse = true)
        (.pdTimerExpiry 1 .senderResponse) (fun t => (t.port 1).hardRecov && seen 0x70 1 t && t.outbox == [.pdSignal 1 0]),
      meets (sinkOf 6 0 { mid := 5 }) (ready (sinkOf 6 0 {}) 0x028D = true ∧ hdrCtl 0x028D = true ∧ hdrType 0x028D = ctlSoftReset)
        (.pdMessageRx 1 ⟨false, 0x028D, 0, []⟩)
        (fun t => t.f (R.PORT_CNT 1) F.PORT_CNT_SOFT == 1 && t.outbox == [.pdTx 1 false 0x281 [], .pdTx 1 false 0x83 []]),
      meets (sinkOf 5 0 { moving := true }) (((sinkOf 5 0 { moving := true }).port 1).moving = true) (.pdMessageRx 1 ⟨false, 0x028D, 0, []⟩)
        (fun t => (t.port 1).hardRecov && t.outbox.contains (.pdSignal 1 0)),
      meets (sinkOf 6 0 {}) (ready (sinkOf 6 0 {}) 0x1088 = true ∧ hdrCtl 0x1088 = false ∧ hdrExt 0x1088 = false ∧ hdrType 0x1088 = datEnterUsb)
        (.pdMessageRx 1 ⟨false, 0x1088, 0, [0#8, 0#8, 0#8, 0#8]⟩) (fun t => t.outbox == [.pdTx 1 false 0x81 [], .pdTx 1 false 0x90 []]),
      meets (sinkOf 6 0 {}) True (.errRecover .spi 1) (fun t => t.conn 1 == cnErrorRecovery && seen 0x72 1 t),
      meets (err_ []) ((err_ []).conn 1 = cnErrorRecovery ∧ (err_ []).timerDue 1 .errorRecovery = true ∧ (err_ []).heldPort 1 = false)
        (.pdTimerExpiry 1 .errorRecovery) (fun t => t.conn 1 == cnUnattached),
      meets ((err_ []).setHrw 0x72 1 { st := .locked, cls := 2 }) (((err_ []).setHrw 0x72 1 { st := .locked, cls := 2 }).heldPort 1 = true)
        (.pdTimerExpiry 1 .errorRecovery) (fun t => t.conn 1 == cnErrorRecovery)].all id = true := by decide +kernel

def pps : State :=
  later (pt cnSink [(R.PORT_STATUS 1, F.PORT_STATUS_EXPLICIT, 1), (R.PORT_STATUS 1, F.PORT_STATUS_EPR, 1)] { pps := true, reqRdo := 5 }) 8000000
def frs_ (st_ : Nat) (r : PortRt) : State :=
  later (pt cnSink [(R.PORT_STATUS 1, F.PORT_STATUS_FRS_ARMED, 1), (R.PORT_SRC_CFG 1, F.PORT_SRC_CFG_FRS_STAGE, 3), (R.STAGE_STATUS 3, F.STAGE_STATUS_STATE, st_),
    (R.STAGE_PWM 3, F.STAGE_PWM_PER, 1000), (R.STAGE_CBC 3, F.STAGE_CBC_CBC_POS, 100), (R.SEC_STATUS, F.SEC_STATUS_ENV_VALID, 1)]
    { r with policyReady := true }) 27000

theorem test_swaps :
    [meets pps (pps.attached 1 = true ∧ pps.conn 1 = cnSink ∧ pps.explicit 1 = true ∧ (pps.port 1).pps = true ∧ (pps.port 1).moving = false)
        (.ppsRequestRepeat 1) (fun t => t.outbox == [.pdTx 1 false 0x1082 [5#8, 0#8, 0#8, 0#8]]),
      meets pps (pps.flag (R.PORT_STATUS 1) F.PORT_STATUS_EPR = true ∧ (pps.port 1).txAt + 375 * msCyc ≤ pps.cyc) (.eprKeepalive 1)
        (fun t => t.outbox == [.pdTx 1 false 0x9090 [2#8, 0x80#8, 3#8, 0#8]]),
      meets (sinkOf 6 0 { ownMsg := some ownSwapTaken }) ((sinkOf 6 0 { ownMsg := some ownSwapTaken }).attached 1 = true) (.prSwap 1)
        (fun t => (t.port 1).prSwap && t.rd (R.PORT_CONTRACT 1) == 0#32 && t.timerAt 1 .psSourceOff == some 0),
      meets (later (host_ cnSource [] { hostWait := some 0x1082 }) 12000) ((host_ cnSource [] { hostWait := some 0x1082 }).hostPolicy 1 = true ∧
        (host_ cnSource [] {}).attached 1 = true ∧ ((host_ cnSource [] {}).port 1).hostAt + (host_ cnSource [] {}).hpCycles ≤ 12000 * 200) (.hpLate 1 0x1082)
        (fun t => (t.port 1).lateTo == some 0x1082 && t.f (R.PORT_CNT 1) F.PORT_CNT_LATE == 1 && seen 0x7A 1 t),
      meets (frs_ stReady {}) ((frs_ stReady {}).attached 1 = true ∧ ((frs_ stReady {}).frsBegin 1).mayStart ((frs_ stReady {}).frsStage 1) = true ∧
        ((frs_ stReady {}).frsBegin 1).startBad ((frs_ stReady {}).frsStage 1) false = none ∧
        (((frs_ stReady {}).frsBegin 1).loadSet ((frs_ stReady {}).frsStage 1) false).isSome = true) (.frsSignal 1)
        (fun t => (t.port 1).frsStep == 4 && t.stageState 3 == stRun && t.outbox.contains (.pdTx 1 false 0x93 [])),
      meets (frs_ stOff {}) (((frs_ stOff {}).frsBegin 1).mayStart ((frs_ stOff {}).frsStage 1) = false ∧
        ((frs_ stOff {}).frsBegin 1).stageRuns ((frs_ stOff {}).frsStage 1) = false) (.frsSignal 1) (fun t => t.conn 1 == cnErrorRecovery && seen 0x77 1 t),
      meets (frs_ stRun { frs := true, frsStep := 5 }) (((frs_ stRun { frs := true, frsStep := 5 }).port 1).frsStep = 5 ∧
        ((frs_ stRun { frs := true, frsStep := 5 }).pdAck 1 false 0x86).2 = true) (.frsDone 1 0x86) (fun t => t.conn 1 == cnSource && t.isSrc 1),
      meets (frs_ stRun { frs := true }) (((frs_ stRun { frs := true }).port 1).frs = true ∧ 0 + 27 * msCyc ≤ (frs_ stRun {}).cyc) (.frsFail 1)
        (fun t => t.conn 1 == cnErrorRecovery && seen 0x77 1 t)].all id = true := by decide +kernel

/-- PD submissions on pair 2: an opcode for port 1 with a tag and a header. -/
def pdEntry (op port header : Nat) : List Byte := put (put (put (entry []) 0 4 (op + 1024 * port)) 4 4 9) 8 2 header
def hostSrc : State := host_ cnSource [] {}

def sends (s : State) (es : List (List Byte)) : Bool :=
  decide (s.pairType 2 = 4 ∧ s.atFront 2 es = true ∧ s.cplRoom 2 = true ∧ s.pairState 2 ≠ ringDisabled ∧ (s.port 1).hardRecov = false ∧
    (s.port 1).frs = false ∧ (s.port 1).bist = 0 ∧ (s.port 1).lateTo = none)

theorem test_pd_ring :
    [meets hostSrc (hostSrc.pairType 2 = 4 ∧ hostSrc.atFront 2 [pdEntry 1 3 7] = true ∧ hostSrc.sendRefused (parsePd (pdEntry 1 3 7)) [] = true)
        (.send 2 [pdEntry 1 3 7] true) (fun t => t.outbox == [] && t.cplq.any (fun c => c.bytes.take 2 == [0x43#8, 1#8])),
      meets hostSrc (sends hostSrc [pdEntry 1 1 7] = true ∧ pdChainOk [pdEntry 1 1 7] = true ∧
        hostSrc.sendRefused (parsePd (pdEntry 1 1 7)) (pdSubData [pdEntry 1 1 7] 7 0) = false ∧ isSwap 7 = false ∧
        ¬ (hdrCtl 7 = true ∧ hdrType 7 = ctlSoftReset)) (.send 2 [pdEntry 1 1 7] true)
        (fun t => t.outbox == [.pdTx 1 false 0x87 []] && t.cplq.any (fun c => c.src == 2 && c.bytes.take 2 == [0#8, 1#8])),
      meets hostSrc (hostSrc.hostPolicy 1 = true ∧ hostSrc.attached 1 = true ∧ (parsePd (pdEntry 2 1 0)).clean = true ∧ (parsePd (pdEntry 2 1 0)).op = 2)
        (.hardReset 2 (pdEntry 2 1 0)) (fun t => t.outbox == [.pdSignal 1 0] && seen 0x70 1 t),
      meets hostSrc ((parsePd (pdEntry 3 1 0)).op = 3 ∧ (parsePd (pdEntry 3 1 0)).sop = 0 ∧ (parsePd (pdEntry 3 1 0)).port = 1)
        (.cableReset 2 (pdEntry 3 1 0)) (fun t => t.outbox == [.pdSignal 1 1] && t.cplq.any (fun c => c.bytes.take 2 == [0x44#8, 3#8]))
      ].all id = true := by decide +kernel

/-! Ring pairs and the host link. -/

/-- Pair 31 in a state, LOCAL or not, with rings of 16 entries at 0x1000 and 0x2000, and entry 0 of the translation to host address 0x400000. -/
def pr (st_ loc typ : Nat) (l : List (Nat × Fld × Nat)) : State :=
  fb ([(R.RING_STATUS 31, F.RING_STATUS_STATE, st_), (R.RING_CFG 31, F.RING_CFG_LOCAL, loc), (R.RING_CFG 31, F.RING_CFG_TYPE, typ),
    (R.RING_CFG 31, F.RING_CFG_SQ_LOG2, 4), (R.RING_CFG 31, F.RING_CFG_CQ_LOG2, 4), (R.RING_SQ_BASE_LO 31, ⟨0, 32⟩, 0x1000),
    (R.RING_CQ_BASE_LO 31, ⟨0, 32⟩, 0x2000), (R.XLT_CTRL 0, F.XLT_CTRL_V, 1), (R.XLT_CTRL 0, F.XLT_CTRL_RD, 1), (R.XLT_CTRL 0, F.XLT_CTRL_WR, 1),
    (R.XLT_ADDR_LO 0, F.XLT_ADDR_LO_ADDR, 1), (R.HOST_LINK_STATUS, F.HOST_LINK_STATUS_BME, 1), (R.HOST_POLL, F.HOST_POLL_EN, 1)] ++ l)

def ringWord : Word := 0x00040412#32   -- TYPE 1, LOCAL, 16 entries each

theorem test_ring_states :
    [meets (pr ringDisabled 1 1 []) ((pr ringDisabled 1 1 []).pairState 31 = ringDisabled ∧ (pr ringDisabled 1 1 []).ringValid 31 (putBits ringWord 0 1 1) = true)
        (.ringEnable .spi 31 ringWord) (fun t => t.pairState 31 == ringActive && t.pairEn 31),
      meets (pr ringDisabled 1 1 []) ((pr ringDisabled 1 1 []).ringValid 31 (putBits 0x00040012#32 0 1 1) = false) (.ringEnable .spi 31 0x00040012#32)
        (fun t => t.pairState 31 == ringDisabled && t.flag (R.RING_STATUS 31) F.RING_STATUS_CFG_ERR && !t.pairEn 31),
      meets (pr ringDraining 1 1 []) ((pr ringDraining 1 1 []).pairState 31 ≠ ringDisabled) (.ringEnable .spi 31 ringWord)
        (fun t => t.pairState 31 == ringDraining && t.flag (R.RING_STATUS 31) F.RING_STATUS_REFUSED),
      meets ((pr ringStalled 1 1 []).setSrc 31 { waiting := [eHold] }) ((pr ringStalled 1 1 []).pairState 31 = ringStalled) (.ringDisable .spi 31)
        (fun t => t.pairState 31 == ringDraining && t.fetched 31 == 0),
      meets { pr ringDraining 1 1 [] with cplq := [⟨31, [], true, false⟩, ⟨30, [], true, false⟩] } ((pr ringDraining 1 1 []).pairState 31 = ringDraining)
        (.ringDrainDone 31) (fun t => t.pairState 31 == ringDisabled && t.cplq.any (fun h => h.src == 30) && t.cplq.all (fun h => h.src == 30 || h.event) &&
          t.f (R.RING_CNT 31) F.RING_CNT_LOST == 1),
      meets (pr ringStalled 0 1 []) ((pr ringStalled 0 1 []).pairState 31 = ringStalled ∧ (pr ringStalled 0 1 []).heldPair 31 = false ∧
        (pr ringStalled 0 1 []).pairLocal 31 = false) (.resume .spi 31) (fun t => t.pairState 31 == ringActive)].all id = true := by decide +kernel

def exposed (loc : Nat) : State := pr ringActive loc 1 [(R.RING_SQ_PTR 31, F.RING_SQ_PTR_SQ_TAIL, 15), (R.RING_SQ_PTR 31, F.RING_SQ_PTR_SQ_HEAD, 14)]
def pollBytes (k : Nat) : List Byte := put (List.replicate 256 0#8) 248 4 k

theorem test_doorbells_and_fetches :
    [meets (pr ringActive 1 1 []) ((0x7FFFC : Nat) + 4 ≤ 0x80000) (.localDoorbellWrite 0x7FFFC 7#32) (fun t => t.winRead 0x7FFFC 4 == [7#8, 0#8, 0#8, 0#8]),
      meets (pr ringActive 1 1 []) ((pr ringActive 1 1 []).pairLocal 31 = true ∧ (pr ringActive 1 1 []).pairState 31 = ringActive ∧
        (pr ringActive 1 1 []).sqBad 31 15 = false ∧ (pr ringActive 1 1 []).cqBad 31 0 = false) (.localDoorbellWrite (8 * 31) 15#32) (fun t => t.sqTail 31 == 15),
      meets (pr ringActive 1 1 []) ((pr ringActive 1 1 []).sqBad 31 16 = true) (.localDoorbellWrite (8 * 31) 16#32)
        (fun t => t.pairState 31 == ringStalled && t.f (R.RING_STATUS 31) F.RING_STATUS_STALL == 1 && seen 0x91 0 t),
      meets (pr ringActive 0 1 []) ((pr ringActive 0 1 []).polls = true ∧ (pr ringActive 0 1 []).pollDue = true ∧ (pr ringActive 0 1 []).translate 0 false = .host 0x400000 ∧
        (pollBytes 9).length = 8 * ((pr ringActive 0 1 []).polledPairs.getLastD 0 + 1)) (.doorbellPoll (.ok (pollBytes 9))) (fun t => t.sqTail 31 == 9),
      meets (exposed 1) ((exposed 1).fetchMost 31 = 1) (.submissionFetch 31 (.ok [])) (fun t => t.fetched 31 == 1 && t.sqHead 31 == 15 && t.rrLast == 31),
      meets (exposed 0) ((exposed 0).fetchMost 31 = 1 ∧ (exposed 0).translate (0x1000 + 64 * 14) false = .host (0x401000 + 64 * 14))
        (.submissionFetch 31 (.ok eHold)) (fun t => (t.srcRt 31).waiting == [eHold] && t.sqHead 31 == 15),
      meets (exposed 1) ((exposed 1).pairState 31 ≠ ringDisabled ∧ (exposed 1).slotStale 31 = true) (.deviceSlotWrite 31)
        (fun t => t.winRead (0x800 + 8 * 31) 8 == [14#8, 0#8, 0#8, 0#8, 0#8, 0#8, 0#8, 0#8] && !t.slotStale 31),
      meets (exposed 0) ((exposed 0).dmaAllowed = true ∧ (exposed 0).slotDue 31 = true ∧ (exposed 0).translate ((exposed 0).dbBase + 0x800 + 8 * 31) true = .host (0x400800 + 8 * 31))
        (.deviceSlotWrite 31) (fun t => t.outbox == [.dmaWrite (0x400800 + 8 * 31) [14#8, 0#8, 0#8, 0#8, 0#8, 0#8, 0#8, 0#8]])].all id = true := by
  decide +kernel

def cplOf (b : Nat) : List Byte := put (List.replicate 32 0#8) 0 2 b
def heldBy (loc tail : Nat) : State :=
  { pr ringActive loc 1 [(R.RING_CQ_PTR 31, F.RING_CQ_PTR_CQ_TAIL, tail), (R.RING_CQ_PTR 31, F.RING_CQ_PTR_CQ_HEAD, 1),
      (R.RING_STATUS 31, F.RING_STATUS_PHASE, 1)] with cplq := [⟨30, cplOf 1, false, false⟩, ⟨31, cplOf 2, false, false⟩] }
def pendingIrq (mask us : Nat) : State :=
  { pr ringActive 1 1 [(R.RING_CNT 31, F.RING_CNT_PENDING, 2), (R.RING_IMOD 31, F.RING_IMOD_MASK, mask), (R.RING_IMOD 31, F.RING_IMOD_MOD_US, us),
      (R.HOST_LINK_STATUS, F.HOST_LINK_STATUS_MSIX, 1)] with cyc := 2000, msixTable := [(127, 0#32)] }
def full : State := { pr ringActive 1 1 [] with cplq := List.replicate 16 ⟨31, [], true, false⟩ }

theorem test_completions :
    [meets (heldBy 1 15) ((heldBy 1 15).canDrain 31 = true ∧ (takeHeld 31 (heldBy 1 15).cplq).isSome = true ∧ (heldBy 1 15).pairLocal 31 = true)
        (.completionDrain (.ring 31)) (fun t => t.cplq.length == 1 && t.cqTail 31 == 0 && t.winRead (0x2000 + 32 * 15) 4 == [2#8, 0#8, 0#8, 0x80#8]),
      meets (heldBy 0 14) ((heldBy 0 14).canDrain 31 = true ∧ (heldBy 0 14).translate (0x2000 + 32 * 14) true = .host (0x402000 + 32 * 14))
        (.completionDrain (.ring 31)) (fun t => t.cqTail 31 == 15 && t.outbox.any (fun e => match e with | .dmaWrite a _ => a == 0x402000 + 32 * 14 | _ => false)),
      meets (sCan.setCan 1 { txq := [cplOf 3, cplOf 4] }) ((sCan.setCan 1 { txq := [cplOf 3, cplOf 4] }).canFd 1 = true ∧ takeHeld 33 sCan.cplq = none)
        (.completionDrain (.can 1)) (fun t => t.outbox == [.canTx 1 ⟨0, false, true, cplOf 3⟩ (sCan.flag (R.CAN_CFG 1) F.CAN_CFG_BRS)] && (t.can 1).txq == [cplOf 4]),
      meets full (full.pairState 31 ≠ ringDisabled ∧ full.cplRoom 31 = false) (.completionDiscard (.ring 31) (cplOf 5))
        (fun t => t.f (R.RING_CNT 31) F.RING_CNT_LOST == 1 && seen 0x97 0 t),
      meets (pendingIrq 0 10) ((pendingIrq 0 10).f (R.RING_IMOD 31) F.RING_IMOD_MOD_US ≠ 0 ∧ (pendingIrq 0 10).flag (R.RING_IMOD 31) F.RING_IMOD_MASK = false ∧
        (pendingIrq 0 10).f (R.RING_CNT 31) F.RING_CNT_PENDING ≠ 0 ∧ ((pendingIrq 0 10).pair 31).pendAt + 200 * 10 ≤ (pendingIrq 0 10).cyc ∧
        (pendingIrq 0 10).msixWord (4 * 31 + 3) &&& 1#32 ≠ 1#32) (.irqModTimerExpiry 31)
        (fun t => t.f (R.RING_CNT 31) F.RING_CNT_PENDING == 0 && t.outbox == [.msix 31]),
      meets (pendingIrq 1 0) ((pendingIrq 1 0).flag (R.RING_IMOD 31) F.RING_IMOD_MASK = true ∧ getBits 0xFF#32 31 1 = 0) (.ringImodWrite .spi 31 0xFF#32)
        (fun t => t.f (R.RING_CNT 31) F.RING_CNT_PENDING == 0 && t.rd R.HOST_IRQ_STATUS == 0x80000000#32),
      meets (pendingIrq 0 0) (getBits 0x80000000#32 31 1 = 1) (.ringImodWrite .spi 31 0x80000000#32)
        (fun t => t.flag (R.RING_IMOD 31) F.RING_IMOD_MASK && t.f (R.RING_CNT 31) F.RING_CNT_PENDING == 2)].all id = true := by decide +kernel

/-- A RECORD_WRITE from a buffer of 4 bytes waits at a host-resident CONTROL pair. -/
def eWrite (v : Nat) : List Byte := put (put (put (put (entry []) 0 4 1) 8 2 0x400) 10 2 4) 16 8 v
def buffered (v : Nat) : State := (pr ringActive 0 2 []).setSrc 31 { waiting := [eWrite v] }
def recWrites (s : State) : Bool :=
  decide (s.ctlReady 31 (s.pairType 31) (eWrite 0x1000) = true ∧ s.ctlTurn 31 (s.pairType 31) (eWrite 0x1000) = true ∧
    ctlBuf (s.pairType 31) 4 (eWrite 0x1000) = some (0x1000, 4) ∧ s.pairLocal 31 = false)

/-- A link of one lane at the first rate is within either grade (R1); the wider and faster ones are not within the X-grade. -/
theorem test_link_grade : (1 : Fin 4).val ≤ maxGen ∧ (1 : Fin 3).val ≤ maxWidth ∧ (Config.gradeX = true → maxGen < 3 ∧ maxWidth < 2) := by
  unfold maxGen maxWidth
  cases Config.gradeX <;> decide

theorem test_host_link :
    [meets (pr ringActive 0 1 []) ((pr ringActive 0 1 []).pairLocal 31 = false) (.hostLinkReset .linkDown) (fun t => t.pairState 31 == ringDisabled &&
        !t.dmaAllowed && seen 0x90 0 t && t.f R.HOST_LINK_STATUS F.HOST_LINK_STATUS_DOWNS == 1),
      meets (pr ringActive 1 1 []) ((pr ringActive 1 1 []).pairLocal 31 = true) (.hostLinkReset .flr) (fun t => t.pairState 31 == ringActive),
      meets (fb []) True (.bmeChange true false true true) (fun t => t.dmaAllowed && t.intDis),
      meets (fb []) True (.xltSync .spi) (fun t => t.flag R.XLT_STATUS F.XLT_STATUS_BUSY && run .xltSyncDone t (fun u => !u.flag R.XLT_STATUS F.XLT_STATUS_BUSY)),
      meets (exposed 0) ((exposed 0).fetchable 31 = true ∧ within 0x1380 ((exposed 0).sqBase 31 + 64 * (exposed 0).sqHead 31) 64 = true ∧ 5 ≤ (5 : Fin 10).val) (.dmaFault 2 31 14 0x1380 0 5)
        (fun t => t.pairState 31 == ringStalled && t.f (R.RING_STATUS 31) F.RING_STATUS_STALL == 3 && t.rdN (R.DMAF_DONE 0) == 0 && t.rdN (R.DMAF_ADDR_LO 0) == 0x1380 && seen 0x96 0 t),
      meets (exposed 0) ((exposed 0).pairLocal 31 = false) (.cplTimeout 2 31 14 0x1380 0) (fun t => t.pairState 31 == ringStalled),
      meets (heldBy 0 14) ((heldBy 0 14).canDrain 31 = true ∧ (takeHeld 31 (heldBy 0 14).cplq).isSome = true ∧
        within 0x21C0 ((heldBy 0 14).cqBase 31 + 32 * (heldBy 0 14).cqTail 31) 32 = true) (.dmaFault 3 31 14 0x21C0 0 9)
        (fun t => t.pairState 31 == ringStalled && t.rdN (R.DMAF_INFO 0) == dmafInfo 9 3 31 14),
      holds (pr ringActive 0 1 []) ((pr ringActive 0 1 []).polls = true ∧
        within 8 (pr ringActive 0 1 []).dbBase (8 * ((pr ringActive 0 1 []).polledPairs.getLastD 0 + 1)) = true),
      meets (buffered 0x1000) (recWrites (buffered 0x1000) = true ∧ (0x1002 : Nat) = 0x1000 + 2 ∧ 2 < 4) (.dmaFault 4 31 0 0x1002 2 9)
        (fun t => (t.srcRt 31).waiting.isEmpty && t.cplq.any (fun c => c.src == 31 && c.bytes.take 1 == [0x53#8]))].all id = true := by decide +kernel

/-! Commands of CONTROL and BLOB pairs, on pair 31. -/

/-- A CONTROL (2) or BLOB (5) pair 31 after the recall, with more fields. -/
def cp (typ : Nat) (l : List (Nat × Fld × Nat)) : State := pr ringActive 1 typ ([(R.NVM_STATUS, F.NVM_STATUS_RECALLING, 0)] ++ l)

/-- An entry of an opcode with tag 0x1234, worthy of an interrupt, with some values put in: (start, bytes, value). -/
def ce (op : Nat) (l : List (Nat × Nat × Nat)) : List Byte :=
  l.foldl (fun e x => put e x.1 x.2.1 x.2.2) (put (put (entry []) 0 4 (op + 0x2000)) 4 4 0x1234)

/-- A buffer of the local window. -/
def buf (o : Nat) : Nat := 2 ^ 63 + o

/-- A command of a pair's type that is ready, and the completion that it leaves: status, RESULT0, DETAIL. -/
def ctl (s : State) (typ : Nat) (e : List Byte) (h : Prop) [Decidable h] (c : Instr) (st_ r0 dt : Nat) (q : State → Bool) : Bool :=
  meets s (s.ctlReady 31 typ e = true ∧ s.ctlTurn 31 typ e = true ∧ s.pairState 31 ≠ ringDisabled ∧ s.cplRoom 31 = true ∧ h) c (fun t =>
    t.cplq.any (fun x => x.src == 31 && x.worthy && x.bytes.take 16 == leBytes 4 (st_ + 256 * ctlOp e) ++ leBytes 4 0x1234 ++ leBytes 8 r0 &&
      slice x.bytes 22 2 == leBytes 2 dt) && q t)

/-- The hypotheses of such a command. -/
def ctlHolds (s : State) (typ : Nat) (e : List Byte) (h : Prop) [Decidable h] : Bool :=
  holds s (s.ctlReady 31 typ e = true ∧ s.ctlTurn 31 typ e = true ∧ s.pairState 31 ≠ ringDisabled ∧ s.cplRoom 31 = true ∧ h)

/-- The data NVM holds a record in its copy A, with sequence number 7. -/
def withRec (id : Nat) (data : List Byte) (s : State) : State :=
  match recPlace 0 id with
  | none => s
  | some q =>
    let h := leBytes 2 id ++ leBytes 2 0 ++ leBytes 4 7 ++ leBytes 2 data.length ++ leBytes 2 0
    let all := h ++ leBytes 4 (crcNat (h ++ data)) ++ data
    (List.range (ceilDiv all.length 128)).foldl (fun s k => s.pageWrite (q.copy false / 128 + k) (fun o => all[128 * k + o]?) false) s

def recState : State := (withRec 0x500 [1#8, 2#8, 3#8] (cp 2 [])).winWrite 0x400 [0xA5#8, 0x5A#8]
def hostPlace : RecPlace := ⟨538, 1, 112⟩
def eRecW : List Byte := ce 1 [(8, 2, 0x500), (10, 2, 2), (16, 8, buf 0x400)]
def eRecR : List Byte := ce 2 [(8, 2, 0x500), (10, 2, 2), (16, 8, buf 0x500)]
def eRecBad : List Byte := ce 2 [(8, 2, 0x500), (10, 2, 2), (16, 8, buf 0x500), (40, 1, 1)]

theorem test_record_commands :
    [decide (recPlace recState.recSet 0x500 = some hostPlace),
      ctl recState 2 eRecW (ctlClean eRecW [(8, 4), (16, 8)] = true ∧ recState.recordOk 0x500 2 = true ∧ bufOk (buf 0x400) 2 = true ∧
          recState.recalled = true ∧ recState.currentCopy hostPlace 0x500 = some false) (.recordWrite 31 eRecW (.ok []) none) 0 8 1
        (fun t => t.currentCopy hostPlace 0x500 == some true && (t.nvmPeek (hostPlace.copy true + 16) 2 == [0xA5#8, 0x5A#8])),
      ctlHolds recState 2 eRecW (128 * (0 : Fin 8).val < 16 + 2),
      ctl recState 2 eRecR (ctlClean eRecR [(8, 4), (16, 8)] = true ∧ bufOk (buf 0x500) 2 = true ∧ recState.recalled = true ∧
          recState.currentCopy hostPlace 0x500 = some false) (.recordRead 31 eRecR) 0 2 0 (fun t => t.winRead 0x500 3 == [1#8, 2#8, 0#8]),
      ctl (cp 2 []) 2 eRecR ((cp 2 []).recalled = true ∧ (cp 2 []).currentCopy hostPlace 0x500 = none) (.recordRead 31 eRecR) 0x54 0 0 (fun _ => true),
      ctl (cp 2 [(R.NVM_STATUS, F.NVM_STATUS_RECALLING, 1)]) 2 eRecR ((cp 2 [(R.NVM_STATUS, F.NVM_STATUS_RECALLING, 1)]).recalled = false)
        (.recordRead 31 eRecR) 0x51 0 1 (fun _ => true),
      ctl (cp 2 []) 2 eRecBad (ctlClean eRecBad [(8, 4), (16, 8)] = false) (.recordRead 31 eRecBad) 0x15 0 0 (fun _ => true)].all id = true := by
  decide +kernel

/-- Slot 1 of pack 0 with bytes that are no profile. -/
def noProfState : State := withRec 0x201 [1#8, 2#8, 3#8] (cp 2 [])
def profPlace : RecPlace := ⟨408, 4, 496⟩
def eProf (i slot : Nat) : List Byte := ce 3 [(8, 1, i), (9, 1, slot)]

theorem test_profile_select :
    [decide (recPlace noProfState.recSet 0x201 = some profPlace),
      ctl noProfState 2 (eProf 0 1) (ctlClean (eProf 0 1) [(8, 2)] = true ∧ (noProfState.currentCopy profPlace 0x201).isSome = true)
        (.profileSelect 31 (eProf 0 1)) 0x50 0 1 (fun t => t.fw.profSel == noProfState.fw.profSel && !t.profValid 0),
      ctl (cp 2 []) 2 (eProf 3 3) ((recPlace 0 0x20F).isSome = true ∧ (recPlace 0 0x20F).all (fun q => ((cp 2 []).currentCopy q 0x20F).isNone) = true)
        (.profileSelect 31 (eProf 3 3)) 0x54 0 0 (fun _ => true)].all id = true := by decide +kernel

def ePack (i cmd : Nat) : List Byte := ce 5 [(8, 1, i), (9, 1, cmd)]
def shipState : State := (cp 2 [(R.PSW_STATUS 0, F.PSW_STATUS_CLOSED, 1)]).setPack 0 { vPack := 2500 }
def chgLatched (id : Nat) : State :=
  let s := chg (image 1 100) chStopped [(R.RING_STATUS 31, F.RING_STATUS_STATE, 1), (R.RING_CFG 31, F.RING_CFG_TYPE, 2), (R.RING_CFG 31, F.RING_CFG_SQ_LOG2, 4),
    (R.RING_CFG 31, F.RING_CFG_CQ_LOG2, 4), (R.PACK_CHG_FAULT 0, F.PACK_CHG_FAULT_CAUSE, id), (R.PACK_CHG_FAULT 0, F.PACK_CHG_FAULT_SEEN, 1)] {}
  s.setHrw id 0 { st := .locked }

theorem test_pack_commands :
    [ctl (cp 2 []) 2 (ce 4 [(8, 1, 0x60), (9, 1, 15)]) ((cp 2 []).clearCause 0x60 15 = 1) (.faultClear 31 (ce 4 [(8, 1, 0x60), (9, 1, 15)])) 0x50 0 1
        (fun t => t.hrw == []),
      ctl ((cp 2 []).setHrw 0x60 0 { st := .locked, recov := [5] }) 2 (ce 4 [(8, 1, 0x60)])
        (((cp 2 []).setHrw 0x60 0 { st := .locked, recov := [5] }).clearCause 0x60 0 = 0) (.faultClear 31 (ce 4 [(8, 1, 0x60)])) 0 0 0
        (fun t => decide ((t.hrwInst 0x60 0).st = .clear) && (t.hrwInst 0x60 0).recov.isEmpty),
      ctl (cp 2 []) 2 (ePack 0 1) ((cp 2 []).shipCause = 3) (.packCmdShip 31 (ePack 0 1)) 0x50 0 3 (fun t => seen 0x47 0 t),
      holds shipState (shipState.ctlReady 31 2 (ePack 0 1) = true ∧ shipState.shipCause = 0),
      ctl (cp 2 []) 2 (ePack 3 2) ((cp 2 []).tilthState 3 = 0) (.packCmdTilthStart 31 (ePack 3 2)) 0 0 0 (fun t => t.tilthState 3 != 0),
      ctl (cp 2 [(R.PACK_TILTH_STATUS 3, F.PACK_TILTH_STATUS_STATE, 2)]) 2 (ePack 3 3)
        ((cp 2 [(R.PACK_TILTH_STATUS 3, F.PACK_TILTH_STATUS_STATE, 2)]).tilthState 3 ≠ 0) (.packCmdTilthAbort 31 (ePack 3 3)) 0 0 0
        (fun t => t.tilthState 3 == 0 && t.f (R.PACK_TILTH_STATUS 3) F.PACK_TILTH_STATUS_LAST == 2),
      ctl (cp 2 []) 2 (ePack 3 4) ((cp 2 []).f (R.PACK_CHG_FAULT 3) F.PACK_CHG_FAULT_CAUSE = 0) (.packCmdChargeClear 31 (ePack 3 4)) 0x50 0 1 (fun _ => true),
      ctl (chgLatched 0x54) 2 (ePack 0 4) ((chgLatched 0x54).clearCause 0x54 0 = 0) (.packCmdChargeClear 31 (ePack 0 4)) 0 0 0
        (fun t => t.rdN (R.PACK_CHG_FAULT 0) == 0)].all id = true := by decide +kernel

def eBb : List Byte := ce 6 [(8, 4, 0xFFFFFFFF), (12, 2, 1), (16, 8, buf 0x600)]
def eAtt : List Byte := ce 7 [(8, 2, 256), (16, 1, 0x77), (47, 1, 0x88), (48, 8, buf 0x600)]

/-- One record held in the last slot, with sequence number 5. -/
def bbState : State :=
  let s := cp 2 [(R.BB_NEXT_SEQ, ⟨0, 32⟩, 6)]
  let s := (List.range 8).foldl (fun s j => s.programGroup (bbAddr 2047 / 8 + j) (List.replicate 8 (BitVec.ofNat 8 (j + 1)))) s
  { s with bb := { s.bb with next := 0, held := 1 } }

theorem test_black_box_and_attestation :
    [ctl (cp 2 []) 2 eBb (ctlClean eBb [(8, 6), (16, 8)] = true ∧ (cp 2 []).bb.held = 0 ∧ bufOk (buf 0x600) 64 = true) (.bbRead 31 eBb) 0x54 0 0 (fun _ => true),
      ctl bbState 2 eBb (bbState.bb.held ≠ 0 ∧ (List.range 8).all (fun j => decide (bbState.nvmGroup (bbAddr 2047 / 8 + j) = .valid)) = true)
        (.bbRead 31 eBb) 0 1 0 (fun t => t.winRead 0x600 64 == bbState.nvmPeek (bbAddr 2047) 64),
      ctl { cp 2 [] with fw := { (cp 2 []).fw with life := 4 } } 2 eAtt (ctlClean eAtt [(8, 2), (16, 40)] = true) (.attest 31 eAtt) 0x54 0 0 (fun _ => true),
      ctlHolds (cp 2 []) 2 eAtt ((cp 2 []).fw.life ≠ 4 ∧ (cp 2 []).recalled = true)].all id = true := by decide +kernel

def eNvm (op a len : Nat) : List Byte := ce op [(8, 4, a), (12, 2, len), (16, 8, buf 0x400)]
def eSmb (proto : Nat) (l : List (Nat × Nat × Nat)) : List Byte := ce 4 ([(8, 1, 3), (9, 1, proto), (10, 1, 0x0A)] ++ l)
def eCanS : List Byte := ce 5 [(8, 1, 1), (9, 1, 2), (10, 1, 12), (12, 4, 0x7FF), (16, 8, buf 0x400)]
def eCanR : List Byte := ce 6 [(8, 1, 1), (12, 4, 0x7F0), (16, 4, 0x7F0), (20, 4, 10), (24, 8, buf 0x500)]
def bw (l : List (Nat × Fld × Nat)) : State := (cp 5 l).winWrite 0x400 ((List.range 12).map (fun k => BitVec.ofNat 8 (k + 1)))
def canOn : State := bw [(R.CAN_CFG 1, F.CAN_CFG_EN, 1), (R.CAN_CFG 1, F.CAN_CFG_FD, 1)]

theorem test_blob_commands :
    [ctl (bw []) 5 (ce 1 [(12, 4, 12), (8, 4, 65536), (16, 8, buf 0x400)]) ((bw []).storeChunk 65536 ((bw []).winRead 0x400 12) = (bw [], 0x50, 0x0014))
        (.fwChunk 31 (ce 1 [(12, 4, 12), (8, 4, 65536), (16, 8, buf 0x400)]) (.ok [])) 0x50 0 0x14 (fun t => t.fw == (bw []).fw),
      ctl (bw []) 5 (eNvm 2 0x15FFF 4) (directArea 0x15FFF 4 = false) (.nvmRead 31 (eNvm 2 0x15FFF 4)) 0x50 0 0x11 (fun _ => true),
      ctl (bw []) 5 (eNvm 2 0x1FFFC 4) (directArea 0x1FFFC 4 = true) (.nvmRead 31 (eNvm 2 0x1FFFC 4)) 0 4 0 (fun t => t.winRead 0x400 5 == [0xFF#8, 0xFF#8, 0xFF#8, 0xFF#8, 5#8]),
      ctl (bw []) 5 (eNvm 3 0x20000 4) (directArea 0x20000 1 = false) (.nvmWrite 31 (eNvm 3 0x20000 4) (.ok [])) 0x50 0 0x11 (fun t => t.nvm == (bw []).nvm),
      meets (bw []) ((bw []).ctlReady 31 5 (eNvm 3 0x1FFFE 4) = true ∧ directArea 0x1FFFE 1 = true ∧ (bw []).flag R.HRW_INJECT F.HRW_INJECT_ARMED = false)
        (.nvmWrite 31 (eNvm 3 0x1FFFE 4) (.ok [])) (fun t => t.nvmPeek 0x1FFFE 2 == [1#8, 2#8] && t.nvmPeek 0x1FF80 2 == [3#8, 4#8] &&
          t.cplq.any (fun x => x.bytes.take 4 == [0#8, 3#8, 1#8, 0#8])),
      meets (bw [(R.PACK_LINK_STATUS 3, F.PACK_LINK_STATUS_STATE, lkUp)])
        ((bw [(R.PACK_LINK_STATUS 3, F.PACK_LINK_STATUS_STATE, lkUp)]).ctlReady 31 5 (eSmb 2 [(12, 2, 5)]) = true ∧
          (bw [(R.PACK_LINK_STATUS 3, F.PACK_LINK_STATUS_STATE, lkUp)]).linkState 3 = lkUp) (.smbXfer 31 (eSmb 2 [(12, 2, 5)]) (.ok []))
        (fun t => t.outbox.isEmpty && t.cplq.any (fun x => x.src == 31 && x.bytes.take 4 == [0x50#8, 4#8, 0#8, 0#8])),
      ctl (bw []) 5 (eSmb 1 []) (ctlClean (eSmb 1 []) [(8, 3)] = true) (.smbXfer 31 (eSmb 1 []) (.ok [0x34#8, 0x12#8])) 0 0x1234 0
        (fun t => t.outbox == [(bw []).smbTx 3 (1, 0x0A, [])]),
      ctl (bw []) 5 (eSmb 1 []) True (.smbXfer 31 (eSmb 1 []) .error) 0x56 0 0 (fun t => t.outbox.length == 2)].all id = true := by decide +kernel

theorem test_can_commands :
    [meets (bw [(R.CAN_STATUS 1, F.CAN_STATUS_STATE, 2)]) ((bw [(R.CAN_STATUS 1, F.CAN_STATUS_STATE, 2)]).ctlReady 31 5 eCanS = true)
        (.canSend 31 eCanS (.ok []) true) (fun t => t.outbox.isEmpty && t.cplq.any (fun x => x.src == 31 && x.bytes.take 4 == [0x50#8, 5#8, 0#8, 0#8])),
      ctl canOn 5 eCanS (canOn.canLive 1 = true ∧ canOn.canFd 1 = true ∧ canLenOk true 12 = true) (.canSend 31 eCanS (.ok []) true) 0 0 0
        (fun t => t.outbox == [.canTx 1 ⟨0x7FF, false, true, (List.range 12).map (fun k => BitVec.ofNat 8 (k + 1))⟩ false]),
      ctl canOn 5 eCanS (canOn.canLive 1 = true) (.canSend 31 eCanS (.ok []) false) 0x56 0 0 (fun t => t.outbox.isEmpty),
      ctl canOn 5 eCanR (recvOk eCanR = true ∧ canOn.canLive 1 = true ∧ canOn.canClaimed 1 ⟨0x7F5, false, false, [9#8]⟩ = false ∧
          ctlClean eCanR [(8, 1), (12, 20)] = true) (.canRecv 31 eCanR ⟨0x7F5, false, false, [9#8]⟩) 0 (0x7F5 + 2 ^ 32) 0 (fun t => t.winRead 0x500 1 == [9#8]),
      ctl { canOn with cyc := 2000000 } 5 eCanR (max (canOn.pair 31).headAt (canOn.can 1).freeAt + 10 * 200000 ≤ 2000000) (.canRecvTimeout 31 eCanR) 0x55 0 0 (fun _ => true)].all id = true := by
  decide +kernel

/-! Telemetry, on stream 7 with pair 31; a PWM record has 48 bytes. -/

def gl (x : Nat) (l : List (Nat × Fld × Nat)) (r : GlnRt) : State :=
  (pr ringActive 1 3 ([(R.GLN_STATUS 7, F.GLN_STATUS_STATE, x), (R.GLN_CFG 7, F.GLN_CFG_KIND, 2), (R.GLN_CFG 7, F.GLN_CFG_SMP_SEL, 7),
    (R.GLN_CFG 7, F.GLN_CFG_PAIR, 31), (R.GLN_CFG 7, F.GLN_CFG_CUNIT, 5), (R.GLN_CFG 7, F.GLN_CFG_DIV, 2)] ++ l)).setGln 7 r |>.noteEvent 0 7

def ePost (len : Nat) : List Byte := put (put (put (put (entry []) 0 4 (1 + 256 * 7)) 4 4 9) 8 8 (buf 0x7F000)) 16 4 len
def gbuf (o : Nat) : GlnBuf := ⟨9, buf o, 4096, true, 0⟩
def one (cur div : Nat) : GlnRt := { bufs := [gbuf 0x7F000], curLen := cur, divCnt := div }
def recOf (s : State) : List Byte := glnRecord 2 7 (s.rdN (R.GLN_SEQ 7)) s.now48 0 (coordField (s.coordPos 5) ++ s.pwmBody 7)
def gword : Word := 0x027851F8#32   -- KIND 2, PAIR 31, CUNIT 5, SMP_SEL 15: no stage

theorem test_telemetry :
    [meets (gl glnOff [] {}) ((gl glnOff [] {}).ctlReady 31 3 (ePost 4096) = true ∧ ctlOp (ePost 4096) = 1 ∧ bitsOf (leAt (ePost 4096) 0 4) 8 3 = 7 ∧
        (gl glnOff [] {}).glnPair 7 = 31 ∧ bufOk (buf 0x7F000) 4096 = true) (.post 31 (ePost 4096))
        (fun t => (t.gln 7).bufs.map (fun b => b.tag) == [9] && t.f (R.GLN_STATUS 7) F.GLN_STATUS_BUFS == 1),
      meets (gl glnOff [] {}) ((gl glnOff [] {}).ctlReady 31 3 (ePost 8192) = true ∧ bufOk (buf 0x7F000) 8192 = false) (.post 31 (ePost 8192))
        (fun t => (t.gln 7).bufs.isEmpty && t.cplq.any (fun x => x.bytes.take 4 == [0x15#8, 7#8, 0#8, 0#8])),
      meets (gl glnRun [] (one 0 1)) ((gl glnRun [] (one 0 1)).glnState 7 = glnRun ∧ (gl glnRun [] (one 0 1)).glnDue 7 = true ∧ (gl glnRun [] (one 0 1)).glnBody 7 [] ≠ none) (.glnSample 7 [] 0)
        (fun t => (t.gln 7).divCnt == 2 && t.rdN (R.GLN_SEQ 7) == 0),
      meets (gl glnRun [] (one 0 2)) ((gl glnRun [] (one 0 2)).f (R.GLN_CFG 7) F.GLN_CFG_DIV ≤ 2) (.glnSample 7 [] 1)
        (fun t => t.rdN (R.GLN_SEQ 7) == 1 && t.rdN (R.GLN_LOST 7) == 1 && (t.gln 7).gapCount == 1 && (t.gln 7).bufs == [gbuf 0x7F000]),
      meets (gl glnRun [] (one 4048 2)) ((recOf (gl glnRun [] (one 4048 2))).length = 48 ∧ (buf 0x7F000) % 2 ^ 63 + 4096 ≤ 0x80000) (.glnSample 7 [] 0)
        (fun t => t.winRead (0x7F000 + 4048) 48 == recOf (gl glnRun [] (one 4048 2)) && (t.gln 7).curLen == 4096 && (t.gln 7).divCnt == 0),
      meets (gl glnRun [] { one 4049 2 with bufs := [gbuf 0x7F000, gbuf 0x1000] }) (4096 < 4049 + 48) (.glnSample 7 [] 0)
        (fun t => (t.gln 7).bufs == [gbuf 0x1000] && (t.gln 7).curLen == 48 && t.cplq.any (fun x => x.src == 31 && x.bytes.take 12 ==
          [0#8, 7#8, 0#8, 0#8, 9#8, 0#8, 0#8, 0#8, 0xD1#8, 0x0F#8, 0#8, 0#8])),
      meets { gl glnRun [(R.GLN_FLUSH 7, F.GLN_FLUSH_FLUSH_MS, 1)] (one 48 0) with cyc := 200000 } ((one 48 0).firstAt + 1 * 200000 ≤ 200000)
        (.glnFlushExpiry 7) (fun t => (t.gln 7).bufs.isEmpty && t.cplq.any (fun x => x.bytes.take 2 == [1#8, 7#8])),
      meets (gl glnRun [] (one 48 0)) ((one 48 0).curLen ≠ 0) (.glnDisable .pcie 7)
        (fun t => t.glnState 7 == glnOff && (t.gln 7).bufs.isEmpty && t.cplq.any (fun x => x.bytes.take 2 == [2#8, 7#8])),
      meets (gl glnOff [] {}) ((gl glnOff [] {}).glnValid 7 (putBits 0x023851F8#32 0 1 1) = true) (.glnEnable .pcie 7 0x023851F8#32)
        (fun t => t.glnState 7 == glnRun && t.flag (R.GLN_CFG 7) F.GLN_CFG_EN),
      meets (gl glnOff [] {}) ((gl glnOff [] {}).glnValid 7 (putBits gword 0 1 1) = false) (.glnEnable .pcie 7 gword)
        (fun t => t.glnState 7 == glnOff && t.flag (R.GLN_STATUS 7) F.GLN_STATUS_CFG_ERR && t.flag (R.GLN_CFG 7) F.GLN_CFG_EN)].all id = true := by
  decide +kernel

theorem test_telemetry_triggers :
    [meets (gl glnArmed [] {}) ((gl glnArmed [] {}).glnState 7 = glnArmed) (.force .pcie 7) (fun t => t.glnState 7 == glnCapture && (t.gln 7).trigNext),
      meets (gl glnArmed [(R.GLN_TRIG 7, F.GLN_TRIG_TRG_SRC, 4)] {} |>.noteEvent 8 0)
        ((gl glnArmed [(R.GLN_TRIG 7, F.GLN_TRIG_TRG_SRC, 4)] {} |>.noteEvent 8 0).glnTrigNow 7 = true) (.glnTrigger 7) (fun t => t.glnState 7 == glnCapture),
      meets (gl glnArmed [(R.GLN_TRIG 7, F.GLN_TRIG_TRG_SRC, 4)] {}) ((gl glnArmed [(R.GLN_TRIG 7, F.GLN_TRIG_TRG_SRC, 4)] {}).glnTrigNow 7 = false)
        (.glnTrigger 7) (same (gl glnArmed [(R.GLN_TRIG 7, F.GLN_TRIG_TRG_SRC, 4)] {})),
      meets (gl glnDone [] {}) ((gl glnDone [] {}).glnState 7 ≠ glnArmed) (.force .pcie 7) (same (gl glnDone [] {})),
      meets (gl glnDone [] { trigNext := true }) ((gl glnDone [] {}).glnState 7 = glnDone) (.arm .pcie 7)
        (fun t => t.glnState 7 == glnArmed && !(t.gln 7).trigNext)].all id = true := by decide +kernel

/-! The safety envelope. -/

/-- A record with voltages, charge and discharge currents (10 mA) of pack 0, and the limit of rail 0. -/
def envRec : List Byte := put (put (put (put (List.replicate 336 0#8) 80 2 9000) 84 2 100) 86 2 200) 208 2 5000

/-- Stage 0 runs between pack 8 and rail 0, in a direction, under that envelope, with the switch of the pack closed. -/
def envd (dir : Nat) (l : List (Nat × Fld × Nat)) : State :=
  let s := fb ([(R.STAGE_STATUS 0, F.STAGE_STATUS_STATE, stRun), (R.STAGE_STATUS 0, F.STAGE_STATUS_DIR, dir), (R.PSW_STATUS 0, F.PSW_STATUS_CLOSED, 1),
    (R.SEC_STATUS, F.SEC_STATUS_ENV_VALID, 1)] ++ l)
  { s with fw := { s.fw with envelope := envRec } }

def envHot : State := envd 0 [(R.ENV_PACK_TDSG 0, F.ENV_PACK_TDSG_TDSG_HI, 600), (R.PACK_TEMP 0, F.PACK_TEMP_T_ZONE, 601)]
def envLowered : State :=
  let s := envd 0 []
  { s with cyc := 200000, sys := { s.sys with envMove := true }, fw := { s.fw with envOld := put envRec 80 2 9500 } }

theorem test_envelope_comparators :
    [meets (envd 1 []) ((envd 1 []).stagesRunInto 8 = [0] ∧ (envd 1 []).envThr 80 = 9000) (.envelopePackOv 0 9001)
        (fun t => t.stageState 0 == stTripped && seen 0x58 0 t),
      meets (envd 0 []) ((envd 0 []).stagesRunInto 0 = [0, 1] ∧ (envd 0 []).envThr 208 = 5000) (.envelopeRailOv 0 5001)
        (fun t => t.stageState 0 == stTripped && seen 0x29 0 t),
      meets (envd 1 []) (11 * (10 * (envd 1 []).envThr 84) < 10 * 1101) (.envelopePackOc 0 1101) (fun t => t.stageState 0 == stTripped && seen 0x59 0 t),
      meets (envd 0 []) (11 * (10 * (envd 0 []).envThr 86) < 10 * 2201 ∧ (envd 0 []).seriesOf 8 = some 0) (.envelopePackOc 0 (-2201))
        (fun t => !t.pswClosed 0 && seen 0x5A 0 t),
      meets envHot (envHot.tempBreak 0 true 0 = some 600) (.envelopePackTemp 0) (fun t => !t.pswClosed 0 && seen 0x5B 0 t),
      meets (envd 1 []) (9000 ≤ (envd 1 []).envThr 80) (.envelopePackOv 0 9000) (same (envd 1 [])),
      meets (fb []) ((fb []).envValid = false) (.envelopeRailOv 0 60000) (same (fb [])),
      meets (envd 0 []) (5000 ≤ (envd 0 []).envThr 208) (.envelopeRailOv 0 5000) (same (envd 0 [])),
      meets envLowered (envLowered.envThr 80 = 9500 ∧ envLowered.sys.envAt + 200000 ≤ envLowered.cyc) .envThresholdMove (fun t => t.envThr 80 == 9000)
      ].all id = true := by decide +kernel

/-! Updates. -/

/-- An update in a state, with what else the secure partition holds. -/
def upd (x : Nat) (l : List (Nat × Fld × Nat)) (g : FwSt → FwSt) : State :=
  let s := fb l
  { s with sys := { s.sys with field := true }, fw := g { s.fw with state := x, staged := [(1, [5#8])] } }

def nonBase (b : FwSt) : FwSt := { b with bank1 := { comps := [{}, {}, {}, { version := 6 }] } }
def trial (cyc : Nat) : State :=
  let s := upd 4 [] (fun b => { b with running1 := true, bank1 := { st := .trial, comps := [{ svn := 3 }, {}, {}, {}] }, floors := [2, 4, 0, 0], boots := 1 })
  { s with cyc := cyc, sys := { s.sys with field := true } }

theorem test_updates :
    [decide ((match (upd 2 [] id).buildResult false with | .error e => e == 0x23 | .ok _ => false) = true),
      meets (upd 2 [] id) ((upd 2 [] id).fw.state = 2 ∧ (upd 2 [] id).sys.field = true) (.fwuBuildDone false)
        (fun t => t.fw.state == 0 && t.fw.last == 3 && t.fw.fail == 0x23 && t.fw.staged == [(1, [5#8])] && seen 0xB8 0 t),
      meets (upd 3 [(R.STAGE_STATUS 0, F.STAGE_STATUS_STATE, stRun)] id) ((upd 3 [(R.STAGE_STATUS 0, F.STAGE_STATUS_STATE, stRun)] id).quietStages = false)
        (.activate .pcie) (fun t => t.flag R.FWU_STATUS F.FWU_STATUS_ACT_REFUSED && t.fw.state == 3),
      meets (upd 3 [(R.FWU_CFG, F.FWU_CFG_ACT_MODE, 1)] nonBase) ((upd 3 [(R.FWU_CFG, F.FWU_CFG_ACT_MODE, 1)] nonBase).quietStages = true) (.activate .pcie)
        (fun t => t.fw.state == 5 && decide (t.spareBank.st = .pending) && !t.fw.running1),
      holds (upd 3 [(R.FWU_CFG, F.FWU_CFG_ACT_MODE, 0)] nonBase) ((upd 3 [(R.FWU_CFG, F.FWU_CFG_ACT_MODE, 0)] nonBase).quietStages = true ∧
        (upd 3 [(R.FWU_CFG, F.FWU_CFG_ACT_MODE, 0)] nonBase).flag R.FWU_CFG F.FWU_CFG_ACT_MODE = false),
      meets (upd 5 [] id) ((upd 5 [] id).fw.state ≠ 2 ∧ (upd 5 [] id).fw.state ≠ 4) (.abandon .pcie)
        (fun t => t.fw.state == 0 && t.fw.staged.isEmpty && t.fw.last == 4),
      meets (upd 2 [] id) ((upd 2 [] id).fw.state = 2) (.abandon .pcie) (same (upd 2 [] id)),
      meets (trial 0) ((trial 0).trialOver = false ∧ (trial 0).sys.field = true) (.confirm .field)
        (fun t => t.fw.state == 0 && t.fw.last == 1 && decide (t.runBank.st = .active) && t.fw.floors == [3, 4, 0, 0]),
      meets (trial 0) ((trial 0).fw.state = 4) (.confirm .pcie) (same (trial 0)),
      meets (trial 24000000000) ((trial 24000000000).trialOver = true) .trialExpiry
        (fun t => t.fw.state == 0 && t.fw.last == 2 && !t.fw.running1 && t.f R.RST_CAUSE F.RST_CAUSE_CAUSE == rcSoftware)].all id = true := by
  decide +kernel

/-- Four images whose hashes are right. -/
def okComps : List FwComp := List.replicate 4 { hash := Config.sha256 [] }
def builtOk : State := upd 2 [] (fun b => { b with bank0 := { st := .active, comps := okComps } })

theorem test_build_ok : builtOk.fw.state = 2 ∧ builtOk.buildResult true = .ok okComps := by
  have es : mEntries builtOk.fw.manifest = [] := by decide +kernel
  have hk : builtOk.fw.keyErased = false := by decide +kernel
  have ha : builtOk.activeBank.comps = okComps := by rfl
  refine ⟨by decide +kernel, ?_⟩
  simp [State.buildResult, es, hk, State.compImage, mFind, FwBank.comp, ha, okComps]

/-! The store, the debug port and the mailbox. -/

def bbr : BbRec := ⟨3, 4, 77, List.replicate 40 0#8⟩
def appending (l : List BbRec) : State :=
  let s := fb [(R.NVM_STATUS, F.NVM_STATUS_RECALLING, 0), (R.BB_NEXT_SEQ, ⟨0, 32⟩, 4294967295)]
  { s with bb := { s.bb with next := 2047, breach := l } }
def dirtyPage (p : Nat) : State :=
  let s := ((fb []).setNvmByte (128 * p + 127) 1#8).setNvmByte (128 * p + 128) 2#8
  { s with nvm := { s.nvm with reerase := [p] } }
def cnt (work committed : Nat) : State := (fb [(R.NVM_STATUS, F.NVM_STATUS_RECALLING, 0)]).setCounter 31 { work := work, committed := committed }
def fielded (l : List (Nat × Fld × Nat)) : State :=
  let s := fb l
  { s with sys := { s.sys with field := true } }

theorem test_store :
    [holds (appending [bbr]) ((appending [bbr]).recalled = true),
      meets (appending []) ((appending []).bb.lost = 0) .bbAppend (same (appending [])),
      meets (dirtyPage 1024) ((dirtyPage 1024).deadPage 1024 = true) (.nvmReerase 1024) (fun t => t.nvmByte (128 * 1024 + 127) == 0xFF#8 &&
        t.nvmByte (128 * 1025) == 2#8 && t.nvm.reerase.isEmpty),
      meets (dirtyPage 127) ((dirtyPage 127).deadPage 127 = false) (.nvmReerase 127) (same (dirtyPage 127)),
      meets (cnt 5 0) ((cnt 5 0).recalled = true) (.nvmCntFlush .pcie) (fun t => (t.counter 31).committed == 5 && (t.counter 31).flushed),
      meets (cnt 62 0) ((16 : Nat) ≤ 31) (.inc .pcie 31) (fun t => (t.counter 31).work == 63 && (t.counter 31).committed == 0),
      meets (cnt 63 0) ((16 : Nat) ≤ 31) (.inc .pcie 31) (fun t => (t.counter 31).work == 64 && (t.counter 31).committed == 64),
      meets (cnt (2 ^ 40 - 1) (2 ^ 40 - 1)) ((16 : Nat) ≤ 31) (.inc .pcie 31) (fun t => (t.counter 31).work == 2 ^ 40 - 1 && t.rdN (R.NVM_CNT_LO 31) == 2 ^ 32 - 1),
      meets (fb []) ((15 : Nat) < 16) (.inc .pcie 15) (same (fb []))].all id = true := by decide +kernel

def pendingDbg : State := { upd 0 [] (fun b => { b with life := 3 }) with cyc := 1 }

theorem test_debug_and_mailbox :
    [holds (fb []) ((fb []).fw.life ≠ 3 ∧ (fb []).fw.life ≠ 4),
      decide ((pendingDbg.fw.life = 3 ∧ pendingDbg.sys.dbgAt < pendingDbg.cyc) ∧ pendingDbg.tickDebug.fw.life = 4 ∧ pendingDbg.tickDebug.fw.keyErased = true ∧
        pendingDbg.tickDebug.flag R.DBG_STATUS F.DBG_STATUS_OPEN = true),
      meets pendingDbg (pendingDbg.fw.life = 3) .dbgOpen (same pendingDbg),
      meets (fielded []) ((fielded []).sys.field = true) (.mailboxRequest (.wdtService 0xA5C3)) (seen 0xB5 0),
      meets (fielded []) ((fielded []).shipCause ≠ 0) (.mailboxRequest .ship) (fun t => seen 0x47 0 t && seen 0xB5 0 t),
      meets (fielded []) ((fielded []).envAccepts envRec = false) (.mailboxRequest (.envelope envRec)) (fun t => seen 0xBC 0 t && seen 0xB5 0 t),
      meets (fb []) ((fb []).sys.field = false) (.mailboxRequest .ship) (same (fb []))].all id = true := by decide +kernel

/-- An envelope that is accepted where its signature holds, which Config leaves open. -/
def envGood : List Byte := put (put envRec 0 4 0x56454E44) 4 2 1

theorem test_envelope_commit (h : Config.sigVerify (slice envGood 16 64) (Config.sha256 (envGood.take 272)) (slice envGood 272 64) = true) :
    (fielded []).envAccepts envGood = true := by
  have h1 : (fielded []).fw.life = 1 := by decide +kernel
  have h2 : (fielded []).fw.envelope = [] := by decide +kernel
  have h3 : (envGood.length == 336 && leAt envGood 0 4 == 0x56454E44 && leAt envGood 4 2 == 1 && 
      [0, 1, 2, 3].all (fun i => decide (envPack envGood i 2 2 ≤ envPack envGood i 0 2))) = true := by decide +kernel
  simp only [Bool.and_eq_true] at h3
  simp only [State.envAccepts, h1, h2, if_pos, h, h3.1.1.1, h3.1.1.2, h3.1.2, h3.2]
  rfl

/-! Harrow. -/

/-- An instance of a fault in a state. -/
def hs (id inst : Nat) (h : HrwInst) (l : List (Nat × Fld × Nat)) : State := (fb l).setHrw id inst h

def reported (s : State) (id inst : Nat) : State := s.report id inst (padTo 16 [1#8])
def stageRun : State := fb [(R.STAGE_STATUS 0, F.STAGE_STATUS_STATE, stRun)]
def switchOn : State := fb [(R.PSW_STATUS 0, F.PSW_STATUS_CLOSED, 1), (R.PSW_STATUS 2, F.PSW_STATUS_CLOSED, 1), (R.PSW_CFG 2, F.PSW_CFG_EGRESS_CLOSED, 1)]

theorem test_fault_reports :
    [meets (fb []) (defaultClass 0 = none) (.faultReport 0 15 []) (same (fb [])),
      meets (fb []) (defaultClass 0x96 = some 0 ∧ (fb []).effClass 0x96 = 0 ∧ (reported (fb []) 0x96 15).raised = []) (.faultReport 0x96 15 [1#8])
        (fun t => decide ((t.hrwInst 0x96 15).st = .clear) && seen 0x96 15 t && t.f R.HRW_STATUS F.HRW_STATUS_LAST_ID == 0x96 &&
          t.f R.HRW_STATUS F.HRW_STATUS_LAST_INST == 15 && (t.hrwInst 0x96 15).record == padTo 16 [1#8]),
      meets (hs 0x96 0 { occur := 255 } []) True (.faultReport 0x96 0 []) (fun t => (t.hrwInst 0x96 0).occur == 255),
      meets stageRun (2 ≤ stageRun.effClass 0x21 ∧ stageRun.effClass 0x21 ≤ 3 ∧ stageRun.stageRuns 0 = true ∧ (reported stageRun 0x21 0).raised = [])
        (.faultReport 0x21 0 []) (fun t => t.stageState 0 == stTripped && decide ((t.hrwInst 0x21 0).st = .active) && (t.hrwInst 0x21 0).cls == t.effClass 0x21),
      meets switchOn (switchOn.effClass 0xBE = 4 ∧ switchOn.safeOn = false ∧ switchOn.egressMarked 0 = false)
        (.faultReport 0xBE 0 []) (fun t => decide ((t.hrwInst 0xBE 0).st = .safe) && t.safeOn && !t.pswClosed 0 && t.stageState 0 == stOff),
      meets (hs 0x21 0 { st := .quiet } []) ((hs 0x21 0 { st := .quiet } []).effClass 0x21 ≠ 4) (.faultReport 0x21 0 [])
        (fun t => decide ((t.hrwInst 0x21 0).st = .active)),
      meets (hs 0x21 0 { st := .locked } []) (((hs 0x21 0 { st := .locked } []).hrwInst 0x21 0).st = .locked) (.faultReport 0x21 0 [])
        (fun t => decide ((t.hrwInst 0x21 0).st = .locked))].all id = true := by decide +kernel

/-- The premises of the end of a cause. -/
def goes (s : State) (id inst : Nat) : Bool :=
  let h := s.hrwInst id inst
  decide (h.st = .active ∧ (lastingIds.contains id = true ∨ h.tick ≠ s.tick)) && !(s.setHrw id inst { h with cause := false }).causePresent id inst

def act (id cls : Nat) : State := hs id 0 { st := .active, cls := cls, cause := true } []
def quiet (recov : List Nat) : State :=
  { hs 0x21 0 { st := .quiet, cls := 2, quietAt := 100, recov := recov } [(R.STAGE_STATUS 0, F.STAGE_STATUS_STATE, stTripped),
      (R.HRW_RECOVERY, F.HRW_RECOVERY_REC_LIMIT, 2)] with cyc := 100 }

theorem test_recovery :
    [meets (act 0x08 1) (goes (act 0x08 1) 0x08 0 = true) (.faultCauseGone 0x08 0) (fun t => decide ((t.hrwInst 0x08 0).st = .clear)),
      meets (act 0x22 2) (goes (act 0x22 2) 0x22 0 = true) (.faultCauseGone 0x22 0) (fun t => decide ((t.hrwInst 0x22 0).st = .quiet) &&
        (t.hrwInst 0x22 0).quietAt == (act 0x22 2).quietCycles 0x22),
      meets (act 0x22 3) (goes (act 0x22 3) 0x22 0 = true) (.faultCauseGone 0x22 0) (fun t => decide ((t.hrwInst 0x22 0).st = .locked)),
      meets (quiet [99]) (((quiet [99]).recentRecov ((quiet [99]).hrwInst 0x21 0)).length = 1) (.quietExpiry 0x21 0)
        (fun t => decide ((t.hrwInst 0x21 0).st = .clear) && (t.hrwInst 0x21 0).recov == [100, 99] && t.stageState 0 == stReady),
      meets (quiet [99, 98]) (((quiet [99, 98]).recentRecov ((quiet [99, 98]).hrwInst 0x21 0)).length = 2) (.quietExpiry 0x21 0)
        (fun t => decide ((t.hrwInst 0x21 0).st = .locked)),
      meets { quiet [] with cyc := 99 } ((99 : Nat) < 100) (.quietExpiry 0x21 0) (same { quiet [] with cyc := 99 }),
      meets (fb []) ((fb []).clearCause 0x21 15 ≠ 0) (.hrwClear .pcie 0xF21#32)
        (fun t => t.f R.HRW_CLEAR_RESULT F.HRW_CLEAR_RESULT_CAUSE == (fb []).clearCause 0x21 15),
      meets (hs 0x21 0 { st := .locked, recov := [5] } []) ((hs 0x21 0 { st := .locked, recov := [5] } []).clearCause 0x21 0 = 0) (.hrwClear .pcie 0x21#32)
        (fun t => decide ((t.hrwInst 0x21 0).st = .clear) && (t.hrwInst 0x21 0).recov.isEmpty && t.f R.HRW_CLEAR_RESULT F.HRW_CLEAR_RESULT_CAUSE == 0)
      ].all id = true := by decide +kernel

def egress : State := withRec 0x100 [1#8] { switchOn with safeOn := true, regs := (switchOn.setF (R.PSW_STATUS 2) F.PSW_STATUS_CLOSED 0).regs }
def tie (pgood cyc : Nat) : State :=
  { fb [(R.PSW_CFG 11, F.PSW_CFG_ROLE, 2), (R.PSW_CFG 11, F.PSW_CFG_NODE_A, 0), (R.PSW_CFG 11, F.PSW_CFG_NODE_B, 8), (R.PSW_STATUS 11, F.PSW_STATUS_CLOSED, 1),
      (R.RAIL_STATUS 0, F.RAIL_STATUS_PGOOD, pgood)] with releasing := true, cyc := cyc }

theorem test_safe_state_and_injection :
    [meets (fb []) True (.safeReq .pcie) (seen 0xBE 1),
      meets egress (egress.safeOn = true ∧ egress.egressMarked 2 = true ∧ egress.sys.longPress = false ∧ (egress.psw 2).egressTrip = false ∧ (egress.psw 2).hold = false ∧
        egress.switchHeld 2 = false) .egressClose (fun t => t.pswClosed 2),
      meets switchOn (switchOn.safeOn = false) .egressClose (same switchOn),
      meets (tie 1 0) ((tie 1 0).pswRole 11 = 2 ∧ (tie 1 0).tieRails 11 = [0]) (.egressTieRelease 11) (fun t => !t.pswClosed 11),
      meets (tie 0 200000000) ((tie 0 200000000).sys.releaseAt + 200000000 ≤ 200000000) (.egressTieRelease 11) (fun t => !t.pswClosed 11),
      meets (tie 0 199999999) ((tie 0 199999999).flag (R.RAIL_STATUS 0) F.RAIL_STATUS_PGOOD = false) (.egressTieRelease 11) (same (tie 0 199999999)),
      meets (fb [(R.HRW_INJECT_ADDR, ⟨0, 32⟩, 0x16000)]) ((fb []).quietStages = true) (.hrwInjectArm .pcie 0x105#32)
        (fun t => t.flag R.HRW_INJECT F.HRW_INJECT_ARMED && t.sys.injMem == 5 && t.sys.injAddr == 0x16000),
      meets (fb [(R.HRW_INJECT_ADDR, ⟨0, 32⟩, 0x15FFF)]) ((fb []).quietStages = true) (.hrwInjectArm .pcie 0x105#32)
        (fun t => t.flag R.HRW_INJECT F.HRW_INJECT_INJ_REFUSED && !t.flag R.HRW_INJECT F.HRW_INJECT_ARMED),
      meets (fb []) True (.hrwInjectArm .headland 0x101#32) (fun t => t.flag R.HRW_INJECT F.HRW_INJECT_ARMED),
      meets (fb []) True (.hrwInjectArm .field 0x101#32) (fun t => t.flag R.HRW_INJECT F.HRW_INJECT_INJ_REFUSED),
      meets (fb []) ((4 : Fin 6) ≠ 5) (.memEccError 4 false 0) (seen 0x10 4),
      meets (fb []) ((4 : Fin 6) ≠ 5) (.memEccError 4 true 8) (seen 0x11 4)].all id = true := by decide +kernel

/-! The system watchdog. -/

/-- RUN, with a window of 10 ms from cycle 0, slots to check in, those seen, and the earliest service. -/
def dg (en seen_ early cyc : Nat) (l : List (Nat × Fld × Nat)) : State :=
  { fb ([(R.GLB_STATUS, F.GLB_STATUS_PSTATE, 3), (R.WDT_CFG, F.WDT_CFG_WIN_MS, 10), (R.WDT_CFG, F.WDT_CFG_EARLY_MS, early), (R.WDT_TASK_EN, F.WDT_TASK_EN_EN, en),
      (R.WDT_STATUS, F.WDT_STATUS_SEEN, seen_)] ++ l) with cyc := cyc }

/-- The expiry sequence has begun with a cause. -/
def expired (cause : Nat) (t : State) : Bool :=
  t.f R.WDT_STATUS F.WDT_STATUS_CAUSE == cause && t.flag R.WDT_STATUS F.WDT_STATUS_EXPIRED && t.sys.grace && t.outbox == [.nmi] && seen 0xB1 cause t

def graced (cyc : Nat) : State :=
  let s := dg 0 0 0 cyc []
  { s with sys := { s.sys with grace := true } }

theorem test_watchdog :
    [meets (dg 0 0 0 0 []) (Path.field ≠ .headland) (.wdtService .field 0xA5C3#32) (seen 0xB0 (pathNo .field)),
      meets (dg 0 0 0 0 []) ((dg 0 0 0 0 []).inRun = true ∧ (dg 0 0 0 0 []).sys.grace = false) (.wdtService .headland 0xA5C2#32) (expired 6),
      meets (dg 0 0 1 199999 []) ((dg 0 0 1 199999 []).sys.wdtAt = 0) (.wdtService .headland 0xA5C3#32) (expired 2),
      meets (dg 0x8000 0 1 200000 []) ((dg 0x8000 0 1 200000 []).sys.wdtAt = 0) (.wdtService .headland 0xA5C3#32) (expired 3),
      meets (dg 0x8000 0x8000 1 200000 []) ((dg 0x8000 0x8000 1 200000 []).sys.wdtAt = 0) (.wdtService .headland 0xFFFFA5C3#32)
        (fun t => t.sys.wdtAt == 200000 && t.f R.WDT_STATUS F.WDT_STATUS_SEEN == 0),
      meets (dg 0 0 0 2000000 []) ((dg 0 0 0 2000000 []).wdtWin = 10) .wdtWindowExpiry (expired 1),
      meets (dg 0 0 0 0 []) True .wdtClockLoss (expired 5),
      meets (dg 0x8000 0 0 0 []) (bitsOf ((dg 0x8000 0 0 0 []).f R.WDT_TASK_EN F.WDT_TASK_EN_EN) 15 1 = 1) (.wdtCheckin .field 15#32)
        (fun t => t.f R.WDT_STATUS F.WDT_STATUS_SEEN == 0x8000),
      meets (dg 0x8000 0x8000 0 0 []) (bitsOf ((dg 0x8000 0x8000 0 0 []).f R.WDT_TASK_EN F.WDT_TASK_EN_STRICT) 15 1 = 0) (.wdtCheckin .field 15#32)
        (fun t => t.rdN R.WDT_ANOMALY == 0x18000),
      meets (dg 0x8000 0x8000 0 0 [(R.WDT_TASK_EN, F.WDT_TASK_EN_STRICT, 0x8000)])
        (bitsOf ((dg 0x8000 0x8000 0 0 [(R.WDT_TASK_EN, F.WDT_TASK_EN_STRICT, 0x8000)]).f R.WDT_TASK_EN F.WDT_TASK_EN_STRICT) 15 1 = 1)
        (.wdtCheckin .headland 15#32) (fun t => expired 4 t && t.rdN R.WDT_ANOMALY == 0x18000),
      meets (graced 800000) ((graced 800000).sys.graceAt + 800000 ≤ 800000) (.wdtGraceEnd .idle)
        (fun t => t.f R.RST_CAUSE F.RST_CAUSE_CAUSE == rcWatchdog && t.sys.starting && !t.sys.grace),
      meets (graced 799999) ((graced 799999).cyc < (graced 799999).sys.graceAt + 800000) (.wdtGraceEnd .idle) (same (graced 799999)),
      meets (dg 0 0 0 0 []) (Path.pcie ≠ .field) (.wdtCheckin .pcie 15#32) (same (dg 0 0 0 0 []))].all id = true := by decide +kernel

/-! Start-up, power states, clocks and the die. -/

def so (ok0 ok1 : Bool) : StartObs := ⟨ok0, ok1, [], List.replicate 24 0, 0, [0, 0, 0], [0, 0, 0], [none, none, none], [0, 0, 0, 0], [1, 2, 3, 4, 5, 6]⟩
def powered (p : Power) (l : List (Nat × Fld × Nat)) (cyc : Nat) : State :=
  let s := fb l
  { s with cyc := cyc, sys := { s.sys with power := p } }
def starting : State := { State.reset with cyc := 200 }
def fellBack : State :=
  { starting with fw := { starting.fw with bank0 := { st := .active, comps := [{}, {}, {}, {}] }, bank1 := { st := .previous, comps := [{}, {}, {}, {}] } } }
def settledRails : State :=
  let s := fb [(R.GLB_STATUS, F.GLB_STATUS_RUN_READY, 0), (R.RAIL_CFG 0, F.RAIL_CFG_AUTO_ON, 1), (R.RAIL_STATUS 0, F.RAIL_STATUS_PGOOD, 1)]
  { s with cyc := 2000, sys := { s.sys with field := true, startUs := 3 } }

/-- Some time, an order, a byte of the local window and one of the data NVM. -/
def order7 : State := { ((sPlan pTag7 []).winWrite 5 [9#8]).setNvmByte 5 8#8 with cyc := 7 }

theorem test_resets :
    [meets order7 (order7.fw.state ≠ 4) (.nrst 10000 .idle) (fun t => t.f R.RST_CAUSE F.RST_CAUSE_CAUSE == rcNrst && t.sys.starting && t.cyc == 7 &&
        t.plan.isEmpty && t.winRead 5 1 == [9#8] && t.nvmByte 5 == 8#8),
      meets order7 ((9599 : Nat) < 9600) (.nrst 9599 .idle) (same order7),
      meets order7 True (.sysReset .headland) (fun t => t.f R.RST_CAUSE F.RST_CAUSE_CAUSE == rcSoftware && t.winRead 5 1 == [9#8]),
      meets order7 (order7.rd R.RST_CTRL = 0#32) (.sysReset .pcie) (fun t => seen 0xB0 (pathNo .pcie) t && !t.sys.starting),
      meets switchOn True (.powerFailWarn .idle) (fun t => decide (t.sys.power = .hold) && !t.pswClosed 0 && !t.pswClosed 2),
      holds starting (starting.sys.starting = true ∧ starting.fw.running1 = false),
      holds fellBack (fellBack.fw.running1 = false ∧ fellBack.runBank.st = .active ∧ fellBack.otherBank.st = .previous),
      meets starting (starting.sys.starting = true) (.coldStart (so false false)) (fun t => !t.sys.starting && !t.sys.field && seen 0xBB 0 t),
      meets settledRails (settledRails.runReady = false ∧ settledRails.railSettled 0 = true) .runReady
        (fun t => t.runReady && t.f R.GLB_STATUS F.GLB_STATUS_STEP == 7 && t.rdN (R.RST_MILE 6) == 7),
      meetsOff (powered .hold [] 7) ((powered .hold [] 7).sys.power = .hold) .brownout
        (fun t => t.f R.RST_CAUSE F.RST_CAUSE_CAUSE == rcBrownout && decide (t.sys.power = .on) && t.cyc == 7),
      decide ((powered .hold [] 7).sys.power = .hold)].all id = true := by decide +kernel

def rests (l : List (Nat × Fld × Nat)) : State := fb ([(R.GLB_STATUS, F.GLB_STATUS_PSTATE, 3), (R.PSW_STATUS 0, F.PSW_STATUS_CLOSED, 1)] ++ l)
def idle (l : List (Nat × Fld × Nat)) : State := { fb ([(R.GLB_STATUS, F.GLB_STATUS_PSTATE, 2)] ++ l) with cyc := 9 }

def acted (src : IdleSrc) : State :=
  let s := idle [(R.PWR_WAKE_EN, F.PWR_WAKE_EN_CMP, 1)]
  { s with sys := { s.sys with wakes := [src] } }

theorem test_rest_and_wake :
    [meets (rests [(R.PACK_TILTH_STATUS 0, F.PACK_TILTH_STATUS_STATE, 2)]) ((rests [(R.PACK_TILTH_STATUS 0, F.PACK_TILTH_STATUS_STATE, 2)]).restCause false = 2)
        (.pwrReqIdle .pcie) (fun t => t.f R.PWR_STATUS F.PWR_STATUS_REFUSE == 2 && t.inRun),
      meets (rests [(R.PWR_WAKE_EN, ⟨0, 32⟩, 0)]) ((rests [(R.PWR_WAKE_EN, ⟨0, 32⟩, 0)]).restCause true = 4) (.pwrReqFallow .pcie) (fun t => t.f R.PWR_STATUS F.PWR_STATUS_REFUSE == 4 && t.inRun),
      meets (rests []) ((rests []).restCause false = 0) (.pwrReqIdle .pcie) (fun t => t.f R.GLB_STATUS F.GLB_STATUS_PSTATE == 2),
      meets (rests [(R.PWR_WAKE_EN, F.PWR_WAKE_EN_PB, 1)]) ((rests [(R.PWR_WAKE_EN, F.PWR_WAKE_EN_PB, 1)]).restCause true = 0) (.pwrReqFallow .pcie)
        (fun t => decide (t.sys.power = .fallow) && t.f R.GLB_STATUS F.GLB_STATUS_PSTATE == 1 && !t.pswClosed 0 && (t.counter 31).flushed),
      meets (idle []) ((idle []).inRun = false) (.pwrReqIdle .pcie) (same (idle [])),
      meets (idle []) ((idle []).inRun = false) (.pwrReqFallow .pcie) (same (idle [])),
      meets (acted .cmp) ((acted .cmp).f R.GLB_STATUS F.GLB_STATUS_PSTATE = 2 ∧ idleBit .cmp = some 7 ∧ getBits ((acted .cmp).rd R.PWR_WAKE_EN) 7 1 = 1 ∧
        (acted .cmp).idleActed .cmp = true) (.idleWake .cmp)
        (fun t => t.inRun && t.sys.field && t.sys.wdtAt == 9 && t.f R.PWR_STATUS F.PWR_STATUS_WAKE_SRC == 7),
      meets (acted .gpt) ((acted .gpt).idleActed .cmp = false) (.idleWake .cmp) (same (acted .gpt)),
      meets (idle []) True (.idleWake .cmp) (same (idle [])),
      meets (rests []) ((rests []).inRun = true) (.idleWake .hostAccess) (same (rests [])),
      meetsOff (powered .fallow [(R.PWR_WAKE_EN, F.PWR_WAKE_EN_TIMER, 1), (R.PWR_FALLOW_TIMER, ⟨0, 32⟩, 1), (R.COORD_POS_LO 4, ⟨0, 32⟩, 5)] 7)
        ((powered .fallow [(R.PWR_WAKE_EN, F.PWR_WAKE_EN_TIMER, 1), (R.PWR_FALLOW_TIMER, ⟨0, 32⟩, 1)] 7).fallowOn .timer 32768 = true)
        (.fallowWake .timer 32768) (fun t => decide (t.sys.power = .on) && t.f R.RST_CAUSE F.RST_CAUSE_CAUSE == rcFallow && t.cyc == 7 + 200000000 &&
          t.f R.PWR_STATUS F.PWR_STATUS_WAKE_SRC == 4 && t.rdN (R.COORD_POS_LO 4) == 5 && t.flag (R.COORD_STATUS 4) F.COORD_STATUS_STALE),
      meetsOff (powered .fallow [(R.PWR_WAKE_EN, ⟨0, 32⟩, 0)] 7) ((powered .fallow [(R.PWR_WAKE_EN, ⟨0, 32⟩, 0)] 7).fallowOn .pb 0 = false)
        (.fallowWake .pb 0) (same (powered .fallow [(R.PWR_WAKE_EN, ⟨0, 32⟩, 0)] 7))].all id = true := by
  decide +kernel

def mayShip : State := (fb [(R.PSW_STATUS 0, F.PSW_STATUS_CLOSED, 1), (R.STAGE_STATUS 0, F.STAGE_STATUS_STATE, stRun)]).setPack 1 { vPack := 2500 }
def pressed (cyc : Nat) : State :=
  let s := (fb []).setPsw 0 { forced := true }
  { s with cyc := cyc, sys := { s.sys with longPress := true } }
def dieAt (d : Nat) : State :=
  let s := fb []
  { s with sys := { s.sys with dieHot := d } }
def noRef : State :=
  let s := hs 0x02 0 { st := .active, cls := 1, cause := true } [(R.CLK_STATUS, F.CLK_STATUS_REF_FALLBACK, 1)]
  { s with sys := { s.sys with refLost := true } }

def stillDown : State :=
  let s := fb []
  { s with sys := { s.sys with pbHeld := true } }

theorem test_ship_and_long_press :
    [meets (fb []) ((fb []).shipCause ≠ 0) (.shipEnter .headland) (fun t => t.f R.SHIP_STATUS F.SHIP_STATUS_REFUSE == 3 && seen 0x47 0 t),
      holds mayShip (mayShip.shipCause = 0),
      meets (fb []) ((fb []).rd R.SHIP_CTRL = 0#32) (.shipEnter .spi) (seen 0xB0 (pathNo .spi)),
      meets switchOn (switchOn.sys.pbHeld = false ∧ switchOn.seriesOf 8 = some 0) (.longPress true .idle) (fun t => t.sys.longPress && !t.pswClosed 0 && t.pswClosed 2 && seen 0x48 0 t),
      meets switchOn True (.longPress false .idle) (fun t => decide (t.sys.power = .hold)),
      meetsOff (powered .fallow [] 7) ((powered .fallow [] 7).sys.pbHeld = false) (.longPress true .idle)
        (fun t => decide (t.sys.power = .fallow) && t.sys.longPress),
      meetsOff (powered .fallow [] 7) True (.longPress false .idle) (fun t => decide (t.sys.power = .hold)),
      meets stillDown (stillDown.sys.pbHeld = true) (.longPress true .idle) (same stillDown),
      meets (pressed 80000000) ((pressed 80000000).sys.longAt + 80000000 ≤ (pressed 80000000).cyc ∧ (pressed 80000000).sys.longPress = true ∧ (pressed 80000000).heldPack 0 = false) .longPressEnd
        (fun t => !t.sys.longPress && !(t.psw 0).forced),
      meetsOff (powered .ship [] 7) (WakeSrc.pb ≠ .timer) (.shipWake .pb) (fun t => decide (t.sys.power = .on) &&
        t.f R.RST_CAUSE F.RST_CAUSE_CAUSE == rcShip && t.cyc == 0 && t.f R.SHIP_STATUS F.SHIP_STATUS_WAKE_SRC == 1),
      meetsOff (powered .ship [] 7) True (.shipWake .nrst) (same (powered .ship [] 7))].all id = true := by decide +kernel

theorem test_clocks_and_die :
    [meets (fb []) ((fb []).sys.refLost = false) .clkRefFail (fun t => t.sys.refLost && seen 0x02 0 t && t.flag R.GLB_STATUS F.GLB_STATUS_REF_FALLBACK),
      meets noRef (noRef.sys.refLost = true) .clkRefFail (same noRef),
      meets noRef (noRef.cyc < noRef.sys.refAt + 2000000) .clkRefReturn (same noRef),
      meets (later noRef 10000) ((later noRef 10000).sys.refAt + 2000000 ≤ (later noRef 10000).cyc) .clkRefReturn (fun t => !t.sys.refLost && !t.flag R.CLK_STATUS F.CLK_STATUS_REF_FALLBACK),
      meets (fb []) ((fb []).flag R.CLK_STATUS F.CLK_STATUS_AON_INTERNAL = false) .clkAonFail (fun t => seen 0x03 0 t && t.flag R.CLK_STATUS F.CLK_STATUS_AON_INTERNAL),
      meets (fb [(R.CLK_STATUS, F.CLK_STATUS_AON_INTERNAL, 1)]) ((fb [(R.CLK_STATUS, F.CLK_STATUS_AON_INTERNAL, 1)]).flag R.CLK_STATUS F.CLK_STATUS_AON_INTERNAL = true)
        .clkAonFail (same (fb [(R.CLK_STATUS, F.CLK_STATUS_AON_INTERNAL, 1)])),
      meets (fb []) True (.pllUnlock false) (seen 0x04 3),
      meets (fb []) True (.pllUnlock true) (seen 0x04 6),
      meets (fb []) True (.biasFault true 900) (seen 0x08 1),
      meets (fb []) ((fb []).sys.dieHot = 0) (.dieTemp 1350) (fun t => t.sys.dieHot == 2 && seen 0x0A 0 t && seen 0x0B 0 t),
      meets (fb []) ((fb []).sys.dieHot = 0) (.dieTemp 1150) (fun t => t.sys.dieHot == 1 && seen 0x0A 0 t && !seen 0x0B 0 t),
      meets (dieAt 2) ((dieAt 2).sys.dieHot = 2) (.dieTemp 1149) (fun t => t.sys.dieHot == 0),
      meets (fb []) ((fb []).sys.dieHot = 0) (.dieTemp 1149) (same (fb []))].all id = true := by decide +kernel

end Sys2Proof.Tests
end

section
/-! COORD_TIME_US reads as one value (R53). -/

namespace Sys2Proof.Machine

/-! Reads of a register inside the set-up window. -/

theorem exec_wideLoRead (p : Path) {off : Nat} {s : State} (hw : off < 0x40000) (hl : s.live) :
    exec (.wideLoRead p off) s = .next (s.readOut p off).settle :=
  (if_pos hw : s.onWindow off _ = _).trans (State.act_on _ hl.1)

theorem exec_rcRead (p : Path) {off : Nat} {s : State} (hw : off < 0x40000) (hl : s.live) :
    exec (.rcRead p off) s = .next (s.readOut p off).settle :=
  (if_pos hw : s.onWindow off _ = _).trans (State.act_on _ hl.1)

/-! The two words of COORD_TIME_US: what they read, that they belong together (R12), and that their reads have no effect (R10). -/

theorem State.view_timeUsLo (s : State) : s.view R.COORD_TIME_US_LO = (BitVec.ofNat 32 s.us, s) := rfl

theorem State.view_timeUsHi (s : State) : s.view R.COORD_TIME_US_HI = (BitVec.ofNat 32 (s.us / 2 ^ 32), s) := rfl

/-- The low words of chained timers lie elsewhere. -/
theorem State.gptLo_below {s : State} {off : Nat} (h : off < 0x2800) : s.gptLo off = false := by
  simp [State.gptLo, Nat.not_le.mpr h]

theorem State.loWord_timeUsLo (s : State) : s.loWord R.COORD_TIME_US_LO = none := by
  rw [State.loWord, State.gptLo_below (by decide)]; decide

theorem State.hiWord_timeUsLo (s : State) : s.hiWord R.COORD_TIME_US_LO = some R.COORD_TIME_US_HI := by
  rw [State.hiWord, State.gptLo_below (by decide)]; decide

theorem State.loWord_timeUsHi (s : State) : s.loWord R.COORD_TIME_US_HI = some R.COORD_TIME_US_LO := by
  rw [State.loWord, State.gptLo_below (by decide)]; decide

/-- A register without RC fields that is no capture and no charge fault is read without effect. -/
theorem State.readEffects_none {off : Nat} (s : State) (hm : accMask off [.rc] = 0#32)
    (hc : (List.range 6).find? (fun n => off == R.COORD_CAP_LO n) = none)
    (hg : (List.range 16).find? (fun m => off == R.GPT_CAP m) = none)
    (hp : [0, 1, 2, 3].find? (fun i => off == R.PACK_CHG_FAULT i) = none) : s.readEffects off = s := by
  simp only [State.readEffects, hm, if_true, hc, hg, hp]

theorem State.readEffects_timeUsLo (s : State) : s.readEffects R.COORD_TIME_US_LO = s :=
  s.readEffects_none (by decide) (by decide) (by decide) (by decide)

theorem State.readEffects_timeUsHi (s : State) : s.readEffects R.COORD_TIME_US_HI = s :=
  s.readEffects_none (by decide) (by decide) (by decide) (by decide)

/-- The high word of the present count stands in the latch of a path (R13). -/
def State.latchTimeHi (s : State) (p : Path) : State :=
  { s with hiLatch := tabSet latchDefault s.hiLatch (pathKey p R.COORD_TIME_US_HI) (BitVec.ofNat 32 (s.us / 2 ^ 32)) }

theorem State.latchTimeHi_hiLatch (s : State) (p : Path) : (s.latchTimeHi p).hiLatch =
    tabSet latchDefault s.hiLatch (pathKey p R.COORD_TIME_US_HI) (BitVec.ofNat 32 (s.us / 2 ^ 32)) := by
  rw [State.latchTimeHi]

theorem State.latchTimeHi_raised (s : State) (p : Path) : (s.latchTimeHi p).raised = s.raised := by
  rw [State.latchTimeHi]

theorem State.latchTimeHi_outbox (s : State) (p : Path) : (s.latchTimeHi p).outbox = s.outbox := by
  rw [State.latchTimeHi]

theorem State.latchTimeHi_rd (s : State) (p : Path) (off : Nat) : (s.latchTimeHi p).rd off = s.rd off := by
  rw [State.latchTimeHi, State.rd, State.rd]

/-- The read of the low word latches the high word of the same count for its path (R13). -/
theorem State.busRead_timeUsLo (s : State) (p : Path) :
    s.busRead p R.COORD_TIME_US_LO = (BitVec.ofNat 32 s.us, s.latchTimeHi p) := by
  rw [State.busRead, if_neg (by decide), if_neg (by decide)]
  simp only [s.loWord_timeUsLo, s.hiWord_timeUsLo, s.view_timeUsLo, s.view_timeUsHi, State.readEffects_timeUsLo]
  rfl

/-- The read of the high word returns the latch of its path (R13). -/
theorem State.busRead_timeUsHi (s : State) (p : Path) : s.busRead p R.COORD_TIME_US_HI =
    (tabGet latchDefault s.hiLatch (pathKey p R.COORD_TIME_US_HI), s) := by
  rw [State.busRead, if_neg (by decide), if_neg (by decide)]
  simp only [s.loWord_timeUsHi, State.readEffects_timeUsHi]

theorem State.readOut_timeUsLo (s : State) (p : Path) :
    s.readOut p R.COORD_TIME_US_LO = (s.latchTimeHi p).emit (.readData p R.COORD_TIME_US_LO (BitVec.ofNat 32 s.us)) := by
  rw [State.readOut, s.busRead_timeUsLo]

theorem State.readOut_timeUsHi (s : State) (p : Path) : s.readOut p R.COORD_TIME_US_HI =
    s.emit (.readData p R.COORD_TIME_US_HI (tabGet latchDefault s.hiLatch (pathKey p R.COORD_TIME_US_HI))) := by
  rw [State.readOut, s.busRead_timeUsHi]

theorem exec_wideLoRead_timeUsLo (p : Path) {s : State} (hl : s.live) :
    exec (.wideLoRead p R.COORD_TIME_US_LO) s =
      .next ((s.latchTimeHi p).emit (.readData p R.COORD_TIME_US_LO (BitVec.ofNat 32 s.us))) := by
  rw [exec_wideLoRead p (by decide) hl, s.readOut_timeUsLo, State.settle_quiet]
  rw [State.emit_raised, State.latchTimeHi_raised, hl.2]

theorem exec_rcRead_timeUsHi (p : Path) {s : State} (hl : s.live) :
    exec (.rcRead p R.COORD_TIME_US_HI) s =
      .next (s.emit (.readData p R.COORD_TIME_US_HI (tabGet latchDefault s.hiLatch (pathKey p R.COORD_TIME_US_HI)))) := by
  rw [exec_rcRead p (by decide) hl, s.readOut_timeUsHi, State.settle_quiet]
  rw [State.emit_raised, hl.2]

/-- Settles O9: the read of the low word latches the high word of the same count, and the later read returns the latch. -/
theorem timeCountReadsAsOneValue : Obligations.TimeCountReadsAsOneValue := by
  intro s p hs
  refine ⟨rfl, _, exec_wideLoRead_timeUsLo p hs, ?_, ?_, ?_⟩
  · rw [State.emit_outbox, State.latchTimeHi_outbox, State.us]
  · intro off _
    rw [State.emit_rd_of, State.latchTimeHi_rd]
  · intro t' ht' hlatch
    refine ⟨_, exec_rcRead_timeUsHi p ht', ?_⟩
    rw [State.emit_outbox, hlatch, State.emit_hiLatch, State.latchTimeHi_hiLatch, tabGet_set_same, State.us]

end Sys2Proof.Machine
end

section
/-! What the operations of a counted edge leave of the registers: each is said once, as the list of the registers that it may write. -/

namespace Sys2Proof.Machine

/-! `sameRegs` along a chain of operations. -/

theorem State.sameRegs_refl (s : State) (l : List Nat) : s.sameRegs s l := fun _ _ => rfl

theorem State.sameRegs.trans {s t u : State} {l : List Nat} (h : s.sameRegs t l) (h' : t.sameRegs u l) : s.sameRegs u l :=
  fun off ho => (h' off ho).trans (h off ho)

theorem State.sameRegs.mono {s t : State} {l l' : List Nat} (h : s.sameRegs t l) (hl : l ⊆ l') : s.sameRegs t l' :=
  fun off ho => h off fun hm => ho (hl hm)

theorem State.sameRegs.ite {s t u : State} {l : List Nat} {c : Prop} [Decidable c] (ht : s.sameRegs t l) (hu : s.sameRegs u l) :
    s.sameRegs (if c then t else u) l := by
  split
  · exact ht
  · exact hu

section
variable {s t : State} {l : List Nat} {o : Nat} (h : s.sameRegs t l)
include h

theorem State.sameRegs.wr (ho : o ∈ l) (v : Word) : s.sameRegs (t.wr o v) l := fun off hoff =>
  (t.rd_wr_other v (ne_of_mem_of_not_mem ho hoff).symm).trans (h off hoff)

theorem State.sameRegs.setF (ho : o ∈ l) (g : Fld) (v : Nat) : s.sameRegs (t.setF o g v) l := h.wr ho _

theorem State.sameRegs.wrN (ho : o ∈ l) (v : Nat) : s.sameRegs (t.wrN o v) l := h.wr ho _

theorem State.sameRegs.wr64 {hi : Nat} (ho : o ∈ l) (hh : hi ∈ l) (v : Nat) : s.sameRegs (t.wr64 o hi v) l :=
  (h.wrN ho v).wrN hh _

theorem State.sameRegs.hwSet (ho : o ∈ l) (g : Fld) (v : Nat) : s.sameRegs (t.hwSet o g v) l :=
  State.sameRegs.setF (t := t.noteNew o g v) h ho g v

theorem State.sameRegs.bump (ho : o ∈ l) (g : Fld) (k : Nat) : s.sameRegs (t.bump o g k) l :=
  State.sameRegs.setF (t := t.noteNew o g _) h ho g _

theorem State.sameRegs.raise (i j : Nat) (b : List Byte) : s.sameRegs (t.raise i j b) l := h

theorem State.sameRegs.setCoord (n : Nat) (r : CoordRt) : s.sameRegs (t.setCoord n r) l := h

theorem State.sameRegs.noteEvent (a b : Nat) : s.sameRegs (t.noteEvent a b) l := h

theorem State.sameRegs.noteIdle (src : IdleSrc) : s.sameRegs (t.noteIdle src) l := by
  unfold State.noteIdle
  exact State.sameRegs.ite h h

/-- What holds of every step of a loop holds of the loop. -/
theorem State.sameRegs.each {g : Nat → State → State} (ks : List Nat) (hg : ∀ k ∈ ks, ∀ u : State, u.sameRegs (g k u) l) :
    s.sameRegs (t.each ks g) l := by
  induction ks generalizing t with
  | nil => exact h
  | cons k ks ih =>
    exact ih (h.trans (hg k List.mem_cons_self t)) fun j hj => hg j (List.mem_cons_of_mem k hj)

end

/-! EVENT records (R296–R298). -/

/-- The registers that an EVENT record may write. -/
def eventRegs : List Nat := [R.EVENT_STATUS, R.CPLQ_STATUS, R.HOST_GLB_STATUS]

theorem State.fireVec_sameRegs (s : State) (v : Nat) (l : List Nat) : s.sameRegs (s.fireVec v) l :=
  State.sameRegs.ite (State.sameRegs.ite (s.sameRegs_refl l) (s.sameRegs_refl l)) (s.sameRegs_refl l)

theorem State.setGlb_sameRegs (s : State) (k : Nat) : s.sameRegs (s.setGlb k) [R.HOST_GLB_STATUS] :=
  have hset : s.sameRegs (s.hwSet R.HOST_GLB_STATUS ⟨k, 1⟩ 1) [R.HOST_GLB_STATUS] :=
    (s.sameRegs_refl _).hwSet List.mem_cons_self _ _
  State.sameRegs.ite (hset.trans (State.fireVec_sameRegs _ _ _)) hset

theorem State.putEvent_sameRegs (s : State) (kind sub code : Nat) (data : List Byte) :
    s.sameRegs (s.putEvent kind sub code data) eventRegs := by
  have hseq : s.sameRegs (s.setF R.EVENT_STATUS F.EVENT_STATUS_SEQ (s.f R.EVENT_STATUS F.EVENT_STATUS_SEQ + 1)) eventRegs :=
    (s.sameRegs_refl _).setF (by decide) _ _
  unfold State.putEvent
  refine State.sameRegs.ite hseq ?_
  have hlost : s.sameRegs _ eventRegs := (State.sameRegs.bump (t := { s.setF R.EVENT_STATUS F.EVENT_STATUS_SEQ _ with
      evLost := s.evLost + 1, evLosing := true }) hseq (o := R.EVENT_STATUS) (by decide) F.EVENT_STATUS_LOST 1).bump
    (o := R.CPLQ_STATUS) (by decide) F.CPLQ_STATUS_DISCARDS 1
  have hglb := hlost.trans ((State.setGlb_sameRegs _ 2).mono (by decide))
  exact State.sameRegs.ite hglb (hglb.raise _ _ _)

theorem State.event_sameRegs (s : State) (kind sub code : Nat) (data : List Byte) :
    s.sameRegs (s.event kind sub code data) eventRegs := by
  unfold State.event
  refine State.sameRegs.ite (State.sameRegs.trans (State.sameRegs.ite ?_ (s.sameRegs_refl _)) (State.putEvent_sameRegs _ _ _ _ _))
    (s.sameRegs_refl _)
  exact State.putEvent_sameRegs { s with evLost := 0, evLosing := false } _ _ _ _

/-! Captures and strobes (R64, R65, R75). -/

/-- The registers that the capture of a coordinate unit, and of a general timer, writes. -/
def coordCapRegs (n : Nat) : List Nat := [R.COORD_CAP_LO n, R.COORD_CAP_HI n, R.COORD_STATUS n]
def gptCapRegs (m : Nat) : List Nat := [R.GPT_CAP m, R.GPT_STATUS m]

/-- The registers that a strobe may write. -/
def strobeRegs : List Nat := (List.range 6).flatMap coordCapRegs ++ (List.range 16).flatMap gptCapRegs

theorem coordCapRegs_subset {n : Nat} (h : n < 6) : coordCapRegs n ⊆ strobeRegs := fun _ hx =>
  List.mem_append_left _ (List.mem_flatMap.2 ⟨n, List.mem_range.2 h, hx⟩)

theorem gptCapRegs_subset {m : Nat} (h : m < 16) : gptCapRegs m ⊆ strobeRegs := fun _ hx =>
  List.mem_append_right _ (List.mem_flatMap.2 ⟨m, List.mem_range.2 h, hx⟩)

theorem State.captureCoord_sameRegs (s : State) (n : Nat) : s.sameRegs (s.captureCoord n) (coordCapRegs n) := by
  have hcap : s.sameRegs (s.wr64 (R.COORD_CAP_LO n) (R.COORD_CAP_HI n) (s.coordPos n)) (coordCapRegs n) :=
    (s.sameRegs_refl _).wr64 (by simp [coordCapRegs]) (by simp [coordCapRegs]) _
  have hst : R.COORD_STATUS n ∈ coordCapRegs n := by simp [coordCapRegs]
  unfold State.captureCoord
  exact State.sameRegs.ite ((hcap.hwSet hst _ _).raise _ _ _) (hcap.setF hst _ _)

theorem State.gptChained_wrN_cap (s : State) (m v : Nat) : (s.wrN (R.GPT_CAP m) v).gptChained m = s.gptChained m := by
  have hne : R.GPT_CFG (m / 2 * 2 + 1) ≠ R.GPT_CAP m := by simp only [R.GPT_CFG, R.GPT_CAP]; omega
  unfold State.gptChained State.flag
  rw [State.wrN, s.f_wr_reg _ _ hne]

/-- A chained timer that is the base of its pair is the even one. -/
theorem State.even_of_gptChained {s : State} {m : Nat} (hc : s.gptChained m = true) (hb : s.gptBase m = m) : m / 2 * 2 = m := by
  rwa [State.gptBase, if_pos hc] at hb

/-- A base timer captures in its own registers and, where it is chained, in the capture of the odd timer above it. -/
theorem State.captureGpt_sameRegs (s : State) {m : Nat} (hm : m < 16) (hb : s.gptBase m = m) :
    s.sameRegs (s.captureGpt m) strobeRegs := by
  have hcap {j : Nat} (hj : j < 16) : R.GPT_CAP j ∈ strobeRegs := gptCapRegs_subset hj (by simp [gptCapRegs])
  have hst : R.GPT_STATUS m ∈ strobeRegs := gptCapRegs_subset hm (by simp [gptCapRegs])
  have hlo := (s.sameRegs_refl strobeRegs).wrN (hcap hm) (s.gptValue m)
  unfold State.captureGpt
  simp only [hb, State.gptChained_wrN_cap]
  by_cases hc : s.gptChained m = true
  · have heven := State.even_of_gptChained hc hb
    have hhi := hlo.wrN (hcap (j := m + 1) (by omega)) (s.gptValue m / 2 ^ 32)
    simp only [hc, if_true]
    exact State.sameRegs.ite (hhi.hwSet hst _ _) (hhi.setF hst _ _)
  · simp only [hc, Bool.false_eq_true, if_false]
    exact State.sameRegs.ite (hlo.hwSet hst _ _) (hlo.setF hst _ _)

theorem State.strobe_sameRegs (s : State) (src sel : Nat) : s.sameRegs (s.strobe src sel) strobeRegs := by
  unfold State.strobe
  refine State.sameRegs.each (State.sameRegs.each (s.sameRegs_refl _ |>.noteEvent src sel) _ ?_) _ ?_
  · intro n hn u
    exact State.sameRegs.ite ((u.captureCoord_sameRegs n).mono (coordCapRegs_subset (List.mem_range.1 hn))) (u.sameRegs_refl _)
  · intro m hm u
    split
    · next h => exact u.captureGpt_sameRegs (List.mem_range.1 hm) h.1
    · exact u.sameRegs_refl _

/-! Compares (R66). -/

/-- The registers of a compare that its match may write. -/
def cmpRegs (n k : Nat) : List Nat := [R.COORD_CMP_CFG n k, R.COORD_CMP_VAL_LO n k, R.COORD_CMP_VAL_HI n k]

/-- The registers that the compares of a unit may write when they match. -/
def fireRegs (n : Nat) : List Nat := [0, 1, 2, 3].flatMap (cmpRegs n) ++ eventRegs ++ strobeRegs

theorem cmpRegs_subset {n k : Nat} (h : k ∈ [0, 1, 2, 3]) : cmpRegs n k ⊆ fireRegs n := fun _ hx =>
  List.mem_append_left _ (List.mem_append_left _ (List.mem_flatMap.2 ⟨k, h, hx⟩))

theorem eventRegs_subset (n : Nat) : eventRegs ⊆ fireRegs n := fun _ hx =>
  List.mem_append_left _ (List.mem_append_right _ hx)

theorem strobeRegs_subset (n : Nat) : strobeRegs ⊆ fireRegs n := fun _ hx => List.mem_append_right _ hx

theorem State.fireCmp_sameRegs (s : State) (n : Nat) {k : Nat} (hk : k ∈ [0, 1, 2, 3]) :
    s.sameRegs (s.fireCmp n k) (fireRegs n) := by
  have hcfg : R.COORD_CMP_CFG n k ∈ fireRegs n := cmpRegs_subset hk (by simp [cmpRegs])
  have hlo : R.COORD_CMP_VAL_LO n k ∈ fireRegs n := cmpRegs_subset hk (by simp [cmpRegs])
  have hhi : R.COORD_CMP_VAL_HI n k ∈ fireRegs n := cmpRegs_subset hk (by simp [cmpRegs])
  have hmatched := ((s.sameRegs_refl (fireRegs n)).hwSet hcfg F.COORD_CMP_CFG_MATCHED 1).noteIdle .cmp
  unfold State.fireCmp
  refine State.sameRegs.trans (State.sameRegs.ite (State.sameRegs.trans ?_ ((State.event_sameRegs _ _ _ _ _).mono (eventRegs_subset n))) ?_)
    ((State.strobe_sameRegs _ _ _).mono (strobeRegs_subset n))
  all_goals exact State.sameRegs.ite ((hmatched.wr64 hlo hhi _).setF hcfg _ _) (hmatched.wr64 hlo hhi _)

theorem State.fireAt_sameRegs (s : State) (n pos : Nat) : s.sameRegs (s.fireAt n pos) (fireRegs n) :=
  (s.sameRegs_refl _).each _ fun _ hk u => State.sameRegs.ite (u.fireCmp_sameRegs n hk) (u.sameRegs_refl _)

/-! A counted edge (R43, R47, R58, R60). -/

theorem coordStatus_mem_fireRegs {n : Nat} (h : n < 6) : R.COORD_STATUS n ∈ fireRegs n :=
  strobeRegs_subset n (coordCapRegs_subset h (by simp [coordCapRegs]))

theorem State.speedErr_sameRegs (s : State) (n : Nat) : s.sameRegs (s.speedErr n) [R.COORD_STATUS n] :=
  State.sameRegs.ite (s.sameRegs_refl _)
    (((s.sameRegs_refl _).hwSet List.mem_cons_self F.COORD_STATUS_SPEED_ERR 1).raise 0x85 n [])

/-- The coordinate one count on, as `countEdge` writes it. -/
def State.nextPos (s : State) (n : Nat) (up : Bool) : Nat :=
  coordAdd true (s.coordM n) (s.coordPos n) (if up then 1 else (2 ^ 32 - 1) * 65536 + (s.coordM n - 1))

/-- Once it has written the position, a counted edge writes the flags of its unit and what its compares write. -/
theorem State.countEdge_sameRegs (s : State) {n : Nat} (hn : n < 6) (upward : Bool) :
    (s.setPos n (s.nextPos n (s.upwardAs n upward))).sameRegs (s.countEdge n upward) (fireRegs n) := by
  have hst := coordStatus_mem_fireRegs hn
  have hpos := (s.setPos n (s.nextPos n (s.upwardAs n upward))).sameRegs_refl (fireRegs n)
  unfold State.countEdge
  refine State.sameRegs.trans (State.sameRegs.ite
    (State.sameRegs.trans ?_ ((State.speedErr_sameRegs _ n).mono (by simpa using hst))) ?_) (State.fireAt_sameRegs _ n _)
  all_goals exact (State.sameRegs.ite ((hpos.hwSet hst _ _).raise _ _ _) hpos).setCoord _ _

end Sys2Proof.Machine
end

section
/-! A sample of A and B in quadrature mode (R44, R47). -/

namespace Sys2Proof.Machine

/-! The position of a travel unit stands in its two registers. -/

theorem State.rd64_wr64 (s : State) {lo hi : Nat} (h : lo ≠ hi) (v : Nat) : (s.wr64 lo hi v).rd64 lo hi = v % 2 ^ 64 := by
  have hlo : (s.wr64 lo hi v).rdN lo = v % 2 ^ 32 := by
    rw [State.rdN, State.wr64, State.rd_wrN_other _ _ h, ← State.rdN, State.rdN_wrN_same]
  rw [State.rd64, hlo, State.wr64, State.rdN_wrN_same]
  omega

theorem State.coordPos_travel (s : State) (n : Fin 4) : s.coordPos n = s.rd64 (R.COORD_POS_LO n) (R.COORD_POS_HI n) := by
  rw [State.coordPos, if_neg (by omega), if_neg (by omega)]

/-- The position stays where its two registers do. -/
theorem State.sameRegs.coordPos {s t : State} {l : List Nat} {n : Fin 4} (h : s.sameRegs t l) (hlo : R.COORD_POS_LO n ∉ l)
    (hhi : R.COORD_POS_HI n ∉ l) : t.coordPos n = s.coordPos n := by
  simp only [State.coordPos_travel, State.rd64, State.rdN, h _ hlo, h _ hhi]

theorem State.coordPos_setPos (s : State) (n : Fin 4) (v : Nat) : (s.setPos n v).coordPos n = v % 2 ^ 64 := by
  rw [State.coordPos_travel, State.setPos, s.rd64_wr64 (by simp [R.COORD_POS_LO, R.COORD_POS_HI])]

theorem posRegs_not_mem_fireRegs : ∀ n : Fin 4, R.COORD_POS_LO n ∉ fireRegs n ∧ R.COORD_POS_HI n ∉ fireRegs n := by decide

/-- A counted edge moves the position by one count. -/
theorem State.coordPos_countEdge (s : State) (n : Fin 4) (upward : Bool) :
    (s.countEdge n upward).coordPos n = s.onePast n (s.upwardAs n upward) := by
  obtain ⟨hlo, hhi⟩ := posRegs_not_mem_fireRegs n
  rw [(s.countEdge_sameRegs (by omega) upward).coordPos hlo hhi, State.coordPos_setPos, State.onePast, State.nextPos]

/-! What the per-unit record does not change. -/

theorem State.onePast_setCoord (s : State) (n : Fin 4) (r : CoordRt) (up : Bool) :
    (s.setCoord n r).onePast n up = s.onePast n up := by
  simp only [State.onePast, State.coordM, State.coordPos_travel, State.setCoord_f_of, State.setCoord_rd64_of]

theorem State.upwardAs_setCoord (s : State) (n : Nat) (r : CoordRt) (upward : Bool) :
    (s.setCoord n r).upwardAs n upward = s.upwardAs n upward := rfl

theorem State.slowEdge_setCoord {s : State} {n : Nat} {r : CoordRt} (h : s.slowEdge n) (hr : r.lastEdge = (s.coord n).lastEdge) :
    (s.setCoord n r).slowEdge n := by
  intro c hc
  rw [State.coord_setCoord, hr] at hc
  exact h c hc

/-- The unit follows an edge that comes slowly enough (R47). -/
theorem State.follows_of_slowEdge {s : State} {n : Nat} (h : s.slowEdge n) :
    s.follows n = (true, s.setCoord n { s.coord n with lastEdge := some s.cyc }) := by
  unfold State.follows
  cases hl : (s.coord n).lastEdge with
  | none => rfl
  | some c =>
    have hnear := Nat.not_lt.2 (h c hl)
    simp [hnear]

theorem State.coordPos_seeEdge {s : State} {n : Fin 4} (h : s.slowEdge n) (upward : Bool) :
    (s.seeEdge n upward).coordPos n = s.onePast n (s.upwardAs n upward) := by
  rw [State.seeEdge, State.follows_of_slowEdge h, if_pos rfl, State.coordPos_countEdge, State.onePast_setCoord,
    State.upwardAs_setCoord]

/-! The filter (R47). -/

/-- The levels of the three inputs as a sample that passes the filter leaves them. -/
def State.sampled (s : State) (n : Nat) (a b z : Bool) : State :=
  s.setCoord n { s.coord n with
    a := a, b := b, z := z
    changeA := s.changed (s.coord n).a a (s.coord n).changeA
    changeB := s.changed (s.coord n).b b (s.coord n).changeB
    changeZ := s.changed (s.coord n).z z (s.coord n).changeZ }

theorem State.sample_eq (s : State) (n : Nat) (a b z : Bool) : s.sample n a b z =
    if ((s.coord n).a = a ∨ s.passes n (s.coord n).changeA) ∧ ((s.coord n).b = b ∨ s.passes n (s.coord n).changeB) ∧
        ((s.coord n).z = z ∨ s.passes n (s.coord n).changeZ) then some (s.sampled n a b z) else none := rfl

theorem State.sample_of_isSome {s : State} {n : Nat} {a b z : Bool} (h : (s.sample n a b z).isSome = true) :
    s.sample n a b z = some (s.sampled n a b z) := by
  rw [State.sample_eq] at h ⊢
  exact if_pos (by simpa using h)

theorem State.sample_none_of_near {s : State} {n : Nat} {a : Bool} (b z : Bool) {c : Nat} (ha : a ≠ (s.coord n).a)
    (hc : (s.coord n).changeA = some c) (hnear : s.cyc < c + s.filtCycles n) : s.sample n a b z = none := by
  have hA : s.passes n (s.coord n).changeA = false := by simpa [State.passes, hc] using hnear
  rw [State.sample_eq, if_neg]
  simp [hA, ha.symm]

theorem State.slowEdge_sampled {s : State} {n : Nat} (h : s.slowEdge n) (a b z : Bool) : (s.sampled n a b z).slowEdge n :=
  State.slowEdge_setCoord h rfl

theorem State.coordPos_sampled_seeEdge {s : State} {n : Fin 4} (h : s.slowEdge n) (a b z upward : Bool) :
    ((s.sampled n a b z).seeEdge n upward).coordPos n = s.onePast n (s.upwardAs n upward) := by
  rw [State.coordPos_seeEdge (State.slowEdge_sampled h a b z), State.sampled, State.onePast_setCoord, State.upwardAs_setCoord]

/-! What a sample does: nothing, an edge of A or of B, or a counting error. -/

/-- The effect of a filtered sample of A and B in quadrature mode. -/
def State.quadStep (s : State) (n : Nat) (a b : Bool) : State :=
  let t := s.sampled n a b (s.coord n).z
  if (s.coord n).a != a && (s.coord n).b != b then t.quadErr n 0x80
  else if (s.coord n).a != a then t.seeEdge n (a != b)
  else if (s.coord n).b != b then t.seeEdge n (b == a)
  else t

theorem exec_quadEdge (n : Fin 4) (a b : Bool) (s : State) : exec (.quadEdge n a b) s = execQuadEdge n a b s := rfl

theorem exec_quadEdge_of_sample {s : State} {n : Fin 4} {a b : Bool} (hl : s.live) (hm : s.coordMode n = 1)
    (hs : (s.sample n a b (s.coord n).z).isSome = true) : exec (.quadEdge n a b) s = .next (s.quadStep n a b).settle := by
  have hm' : (s.sampled n a b (s.coord n).z).coordMode n = 1 := hm
  rw [exec_quadEdge, execQuadEdge, State.act_on _ hl.1]
  simp only [State.sample_of_isSome hs, hm', ne_eq, not_true_eq_false, if_false, State.quadStep]

theorem exec_quadEdge_of_no_sample {s : State} {n : Fin 4} {a b : Bool} (hl : s.live)
    (hs : s.sample n a b (s.coord n).z = none) : exec (.quadEdge n a b) s = .next s := by
  rw [exec_quadEdge, execQuadEdge, State.act_on _ hl.1]
  simp only [hs, State.settle_quiet hl.2]

theorem State.quadStep_a {s : State} {n : Nat} {a b : Bool} (ha : a ≠ (s.coord n).a) (hb : b = (s.coord n).b) :
    s.quadStep n a b = (s.sampled n a b (s.coord n).z).seeEdge n (a != b) := by
  simp [State.quadStep, ha.symm, hb]

theorem State.quadStep_b {s : State} {n : Nat} {a b : Bool} (ha : a = (s.coord n).a) (hb : b ≠ (s.coord n).b) :
    s.quadStep n a b = (s.sampled n a b (s.coord n).z).seeEdge n (a == b) := by
  simp [State.quadStep, ha, hb.symm, Bool.beq_comm]

theorem State.quadStep_both {s : State} {n : Nat} {a b : Bool} (ha : a ≠ (s.coord n).a) (hb : b ≠ (s.coord n).b) :
    s.quadStep n a b = (s.sampled n a b (s.coord n).z).quadErr n 0x80 := by
  simp [State.quadStep, ha.symm, hb.symm]

/-- A counting error writes the status of its unit alone. -/
theorem State.quadErr_sameRegs (s : State) (n id : Nat) : s.sameRegs (s.quadErr n id) [R.COORD_STATUS n] :=
  ((s.sameRegs_refl _).hwSet List.mem_cons_self _ _).raise _ _ _

theorem State.quadErr_flag (s : State) (n id : Nat) :
    (s.quadErr n id).flag (R.COORD_STATUS n) F.COORD_STATUS_QUAD_ERR = true := by
  rw [State.flag_iff, State.quadErr, State.raise_f_of, State.f_hwSet_same _ _ _ _ (by decide)]
  decide

theorem State.quadErr_raised (s : State) (n id : Nat) : (s.quadErr n id).raised = s.raised ++ [faultOf id n []] := rfl

/-- Settles O14: by the branches of `quadStep`, over the registers that a counted edge may write. -/
theorem quadratureCountsWhileALeadsB : Obligations.QuadratureCountsWhileALeadsB := by
  intro s n a b hl
  refine ⟨fun hm hs => ⟨fun hslow ha hb => ?_, fun hslow ha hb => ?_, fun ha hb => ?_⟩, fun c ha hc hnear => ?_⟩
  · exact ⟨_, exec_quadEdge_of_sample hl hm hs, by rw [State.quadStep_a ha hb, State.coordPos_sampled_seeEdge hslow]⟩
  · exact ⟨_, exec_quadEdge_of_sample hl hm hs, by rw [State.quadStep_b ha hb, State.coordPos_sampled_seeEdge hslow]⟩
  · have hregs : s.sameRegs (s.quadStep n a b) [R.COORD_STATUS n] := by
      rw [State.quadStep_both ha hb]
      exact ((s.sameRegs_refl _).setCoord n _).trans (State.quadErr_sameRegs _ n 0x80)
    refine ⟨_, exec_quadEdge_of_sample hl hm hs, hregs.coordPos ?_ ?_, ?_, ?_, hregs⟩
    · simp [R.COORD_POS_LO, R.COORD_STATUS]
    · simp [R.COORD_POS_HI, R.COORD_STATUS]
    · rw [State.quadStep_both ha hb, State.quadErr_flag]
    · rw [State.quadStep_both ha hb, State.quadErr_raised, State.sampled, State.setCoord_raised, hl.2, List.nil_append]
  · exact exec_quadEdge_of_no_sample hl (State.sample_none_of_near b _ ha hc hnear)

end Sys2Proof.Machine
end

section
/-! A stage that a fault stops (R94, R120): what it writes, and the state that it takes. -/

namespace Sys2Proof.Machine

theorem State.sameRegs.setStage {s t : State} {l : List Nat} (h : s.sameRegs t l) (n : Nat) (r : StageRt) :
    s.sameRegs (t.setStage n r) l := h

theorem State.stopStage_raised (s : State) (n st : Nat) : (s.stopStage n st).raised = s.raised := rfl

theorem State.sameRegs.showLoad {s t : State} {l : List Nat} (h : s.sameRegs t l) (ho : R.STG_ADC_LOAD ∈ l) :
    s.sameRegs t.showLoad l := h.setF ho _ _

/-- The status that a stage which stops shows: its new state, without diode emulation and without CBC_ACT. -/
def State.stopStatus (s : State) (n st : Nat) : State :=
  ((s.setStageState n st).setF (R.STAGE_STATUS n) F.STAGE_STATUS_DE 0).setF (R.STAGE_STATUS n) F.STAGE_STATUS_CBC_ACT 0

theorem State.stopStatus_sameRegs (s : State) (n st : Nat) : s.sameRegs (s.stopStatus n st) [R.STAGE_STATUS n] :=
  have hst := List.mem_cons_self
  (((s.sameRegs_refl _).setF hst _ _).setF hst _ _).setF hst _ _

theorem State.stopStage_sameRegs (s : State) (n st : Nat) : s.sameRegs (s.stopStage n st) (stopRegs n) := by
  have hstatus := (s.stopStatus_sameRegs n st).mono (l' := stopRegs n) (by simp [stopRegs])
  have hvalues := (hstatus.wrN (o := R.STAGE_DUTY n) (by simp [stopRegs]) 0).wrN (o := R.STAGE_IL n) (by simp [stopRegs]) 0
  exact (hvalues.setStage n _).showLoad (by simp [stopRegs])

/-- The state of a stage stays with a write to another register. -/
theorem State.stageState_wr_other {s : State} {n o : Nat} (v : Word) (h : R.STAGE_STATUS n ≠ o) :
    (s.wr o v).stageState n = s.stageState n := s.f_wr_reg _ v h

/-- The state of a stage stays with a write to a field of its status above STATE. -/
theorem State.stageState_setF_above (s : State) (n : Nat) {g : Fld} (v : Nat) (hlo : 3 ≤ g.lo) (hw : g.lo + g.w ≤ 32) :
    (s.setF (R.STAGE_STATUS n) g v).stageState n = s.stageState n :=
  s.f_setF_field v hw (by decide) (.inl hlo)

theorem State.stageState_setStageState (s : State) (n : Nat) {st : Nat} (h : st < 8) :
    (s.setStageState n st).stageState n = st :=
  (s.f_setF_same _ _ _ (by decide)).trans (Nat.mod_eq_of_lt h)

theorem State.stopStatus_stageState (s : State) (n : Nat) {st : Nat} (h : st < 8) : (s.stopStatus n st).stageState n = st := by
  rw [State.stopStatus, State.stageState_setF_above _ _ _ (by decide) (by decide),
    State.stageState_setF_above _ _ _ (by decide) (by decide), s.stageState_setStageState n h]

theorem State.stopStage_stageState (s : State) (n : Fin 8) {st : Nat} (h : st < 8) :
    (s.stopStage n st).stageState n = st := by
  have hduty : R.STAGE_STATUS n ≠ R.STAGE_DUTY n := by simp [R.STAGE_STATUS, R.STAGE_DUTY]
  have hil : R.STAGE_STATUS n ≠ R.STAGE_IL n := by simp [R.STAGE_STATUS, R.STAGE_IL]
  have hload : R.STAGE_STATUS n ≠ R.STG_ADC_LOAD := by simp only [R.STAGE_STATUS, R.STG_ADC_LOAD]; omega
  calc (s.stopStage n st).stageState n
      = (((s.stopStatus n st).wrN (R.STAGE_DUTY n) 0).wrN (R.STAGE_IL n) 0).stageState n := State.stageState_wr_other _ hload
    _ = ((s.stopStatus n st).wrN (R.STAGE_DUTY n) 0).stageState n := State.stageState_wr_other _ hil
    _ = (s.stopStatus n st).stageState n := State.stageState_wr_other _ hduty
    _ = st := s.stopStatus_stageState n h

/-! A re-validation is asked for in DRILL_STATUS (R94). -/

theorem State.trigReval_raised (s : State) (code : Nat) : (s.trigReval code).raised = s.raised := rfl

theorem State.trigReval_sameRegs (s : State) (code : Nat) : s.sameRegs (s.trigReval code) [R.DRILL_STATUS] :=
  State.sameRegs.setF (t := { s with revalCause := s.revalCause ++ [code] }) (s.sameRegs_refl _) List.mem_cons_self _ _

theorem State.trigReval_stageState (s : State) (code : Nat) (n : Fin 8) : (s.trigReval code).stageState n = s.stageState n := by
  have hne : R.STAGE_STATUS n ∉ [R.DRILL_STATUS] := by simp only [R.STAGE_STATUS, R.DRILL_STATUS, List.mem_singleton]; omega
  rw [State.stageState, State.f, s.trigReval_sameRegs code _ hne, ← State.f, ← State.stageState]

/-! A running stage trips. -/

theorem State.tripStage_of_runs {s : State} {n : Nat} (h : s.stageRuns n = true) :
    s.tripStage n = (s.stopStage n stTripped).trigReval 0x0004 := if_pos h

theorem State.tripStage_stageState {s : State} {n : Fin 8} (h : s.stageRuns n = true) : (s.tripStage n).stageState n = stTripped := by
  rw [State.tripStage_of_runs h, State.trigReval_stageState, s.stopStage_stageState n (by decide)]

theorem State.tripStage_sameRegs (s : State) (n : Nat) : s.sameRegs (s.tripStage n) (R.DRILL_STATUS :: stopRegs n) := by
  have hstop := (s.stopStage_sameRegs n stTripped).mono (List.subset_cons_self R.DRILL_STATUS _)
  exact State.sameRegs.ite (hstop.trans ((State.trigReval_sameRegs _ _).mono (by simp))) (s.sameRegs_refl _)

theorem State.tripStage_raised (s : State) (n : Nat) : (s.tripStage n).raised = s.raised := by
  unfold State.tripStage
  split
  · rw [State.trigReval_raised, State.stopStage_raised]
  · rfl

end Sys2Proof.Machine
end

section
/-! The comparator of a channel and the count of its limited periods (R123, R124). -/

namespace Sys2Proof.Machine

/-! The count of limited periods in a row: `last` is the last limited period, `run` the count up to it, `k` the period limited now. -/

/-- The count once period `k` is limited. -/
def limitedRun (last : Option Nat) (run k : Nat) : Nat :=
  match last with
  | some j => if j = k then run else if j + 1 = k then run + 1 else 1
  | none => 1

theorem limitedRun_none (run k : Nat) : limitedRun none run k = 1 := rfl

theorem limitedRun_same (run k : Nat) : limitedRun (some k) run k = run := if_pos rfl

theorem limitedRun_next (run : Nat) {j k : Nat} (h : j + 1 = k) : limitedRun (some j) run k = run + 1 :=
  (if_neg (by omega : j ≠ k)).trans (if_pos h)

theorem limitedRun_gap (run : Nat) {j k : Nat} (h : j + 1 < k) : limitedRun (some j) run k = 1 :=
  (if_neg (by omega : j ≠ k)).trans (if_neg (by omega))

/-! A cut of a channel: CBC_ACT, the pulse that ends, and the count. -/

/-- The record of a stage once the comparator has limited the present period, its channels held by `cuts`. -/
def State.limited (s : State) (n : Nat) (cuts : List ChanCut) : StageRt :=
  { s.stage n with
    cuts := cuts, cbcLast := some (s.pwmPeriod n)
    cbcRun := limitedRun (s.stage n).cbcLast (s.stage n).cbcRun (s.pwmPeriod n) }

/-- A cut of a channel, whichever of two it is, writes the list of the stage's cuts. -/
theorem State.cutChan_ite (s : State) (n hb : Nat) (c : Prop) [Decidable c] (lv lv' : PwmLevel) (d d' : Nat) :
    ∃ cuts : List ChanCut, (if c then s.cutChan n hb lv d else s.cutChan n hb lv' d') =
      s.setStage n { s.stage n with cuts := cuts } := by
  split
  · exact ⟨_, rfl⟩
  · exact ⟨_, rfl⟩

/-- Whichever level the comparator holds a channel at, and however long, the period counts as limited and CBC_ACT is set. -/
theorem State.cbcCut_eq (s : State) (n hb : Nat) : ∃ cuts : List ChanCut, s.cbcCut n hb =
    ((s.setStage n { s.stage n with cuts := cuts }).setF (R.STAGE_STATUS n) F.STAGE_STATUS_CBC_ACT 1).setStage n
      (s.limited n cuts) := by
  obtain ⟨cuts, hcuts⟩ := s.cutChan_ite n hb (s.pwmPos n (s.chanPhase n hb) = 0) .low (if s.pinPwm hb = .high then .low else .high)
    (s.toValley n (s.chanPhase n hb)) (s.toTurn n (s.chanPhase n hb))
  refine ⟨cuts, ?_⟩
  simp only [State.cbcCut, hcuts, State.stage_setStage]
  rfl

theorem State.cbcCut_raised (s : State) (n hb : Nat) : (s.cbcCut n hb).raised = s.raised := by
  obtain ⟨cuts, hcut⟩ := s.cbcCut_eq n hb
  rw [hcut, State.setStage_raised, State.setF_raised, State.setStage_raised]

theorem State.cbcCut_stage (s : State) (n hb : Nat) : ∃ cuts : List ChanCut, (s.cbcCut n hb).stage n = s.limited n cuts := by
  obtain ⟨cuts, hcut⟩ := s.cbcCut_eq n hb
  exact ⟨cuts, by rw [hcut, State.stage_setStage]⟩

theorem State.cbcCut_flag (s : State) (n hb : Nat) : (s.cbcCut n hb).flag (R.STAGE_STATUS n) F.STAGE_STATUS_CBC_ACT = true := by
  obtain ⟨cuts, hcut⟩ := s.cbcCut_eq n hb
  rw [hcut, State.setStage_flag_of, State.flag_iff, State.f_setF_same _ _ _ _ (by decide)]
  decide

theorem State.cbcCut_sameRegs (s : State) (n hb : Nat) : s.sameRegs (s.cbcCut n hb) [R.STAGE_STATUS n] := by
  obtain ⟨cuts, hcut⟩ := s.cbcCut_eq n hb
  rw [hcut]
  exact (((s.sameRegs_refl _).setStage n _).setF List.mem_cons_self _ _).setStage n _

/-- A cut changes nothing but the registers and the records of the stages. -/
theorem State.cbcCut_frame (s : State) (n hb : Nat) :
    s.cbcCut n hb = { s with regs := (s.cbcCut n hb).regs, stages := (s.cbcCut n hb).stages } := by
  obtain ⟨cuts, hcut⟩ := s.cbcCut_eq n hb
  rw [hcut]
  rfl

/-! The two commands. -/

theorem exec_cbcCrossing (hb : Fin 24) (mv : Nat) (s : State) : exec (.cbcCrossing hb mv) s = execCbcCrossing hb mv s := rfl

theorem exec_cbcPersist (n : Fin 8) (s : State) : exec (.cbcPersist n) s = execCbcPersist n s := rfl

/-- A crossing outside the blank cuts the pulse of its channel. -/
theorem exec_cbcCrossing_of_hit {s : State} {n : Fin 8} {hb : Fin 24} {mv : Nat} (hl : s.live) (ho : s.ownerOf hb = some n.val)
    (hr : s.stageRuns n = true) (hh : s.cbcHit n hb mv = true) : exec (.cbcCrossing hb mv) s = .next (s.cbcCut n hb) := by
  rw [exec_cbcCrossing, execCbcCrossing, State.act_on _ hl.1]
  simp only [ho, hr, hh, Bool.and_self, if_true]
  rw [State.settle_quiet ((s.cbcCut_raised n hb).trans hl.2)]

theorem exec_cbcPersist_of_count {s : State} {n : Fin 8} (hl : s.live) (hr : s.stageRuns n = true)
    (h0 : s.f (R.STAGE_CBC_CFG n) F.STAGE_CBC_CFG_CBC_COUNT ≠ 0)
    (hc : s.f (R.STAGE_CBC_CFG n) F.STAGE_CBC_CFG_CBC_COUNT ≤ (s.stage n).cbcRun) (hw : s.cbcWithin n 2 = true) :
    exec (.cbcPersist n) s = .next ((s.tripStage n).raise 0x21 n
      (faultRec (s.stage n).cbcRun (s.f (R.STAGE_CBC_CFG n) F.STAGE_CBC_CFG_CBC_COUNT))).settle := by
  rw [exec_cbcPersist, execCbcPersist, State.act_on _ hl.1]
  exact congrArg (fun t : State => Host.Outcome.next t.settle) (if_pos ⟨hr, h0, hc, hw⟩)

theorem exec_cbcPersist_of_disabled {s : State} {n : Fin 8} (hl : s.live)
    (h0 : s.f (R.STAGE_CBC_CFG n) F.STAGE_CBC_CFG_CBC_COUNT = 0) : exec (.cbcPersist n) s = .next s := by
  rw [exec_cbcPersist, execCbcPersist, State.act_on _ hl.1]
  simp only [h0, ne_eq, not_true_eq_false, false_and, and_false, if_false, State.settle_quiet hl.2]

/-- Settles O26: a hit is one `cbcCut`, whose count is `limitedRun`; a full count trips the stage, and the report adds fault 0x21. -/
theorem cbcPersistTripsAfterItsCount : Obligations.CbcPersistTripsAfterItsCount := by
  intro s n hl
  refine ⟨fun hb mv ho hr hh => ?_, fun hr h0 hc hw => ?_, exec_cbcPersist_of_disabled hl⟩
  · obtain ⟨cuts, hstage⟩ := s.cbcCut_stage n hb
    refine ⟨_, exec_cbcCrossing_of_hit hl ho hr hh, s.cbcCut_flag n hb, ?_, s.cbcCut_sameRegs n hb, s.cbcCut_frame n hb, ?_⟩
    · rw [hstage, State.limited]
    · rw [hstage, State.limited]
      refine ⟨fun h => ?_, fun j h hj => ?_, fun j h hj => ?_, fun h => ?_⟩
      · rw [h, limitedRun_same]
      · rw [h, limitedRun_next _ hj]
      · rw [h, limitedRun_gap _ hj]
      · rw [h, limitedRun_none]
  · refine ⟨_, exec_cbcPersist_of_count hl hr h0 hc hw, State.tripStage_stageState hr, (s.tripStage_sameRegs n).raise _ _ _, ?_⟩
    rw [State.raise_raised, State.tripStage_raised, hl.2, List.nil_append, faultOf]

end Sys2Proof.Machine
end

section
/-! The commands and the step: which commands are a meaning of the powered block alone, and what follows for all of them at once. -/

namespace Sys2Proof.Machine

/-- The register commands that name an offset of the set-up window. -/
def namesOffset : Instr → Bool
  | .registerWrite .. => true
  | .rcRead .. => true
  | .wideLoRead .. => true
  | .wideLoWrite .. => true
  | .wideHiWrite .. => true
  | _ => false

theorem execGptPreloadWrite_eq_act (p : Path) (m : Fin 16) (r : GptPreload) (v : Word) (s : State) :
    ∃ g, execGptPreloadWrite p m r v s = s.act g := by
  unfold execGptPreloadWrite
  exact ⟨_, rfl⟩

/-- A command that names no offset and does not reach a block without power is an effect on the powered block. -/
theorem exec_eq_act {c : Instr} (s : State) (hoff : namesOffset c = false) (hp : reachesUnpowered c = false) :
    ∃ g, exec c s = s.act g := by
  cases c with
  | registerWrite | rcRead | wideLoRead | wideLoWrite | wideHiWrite => cases hoff
  | coldStart | brownout | fallowWake | shipWake | longPress | pbMainPress => cases hp
  | gptPreloadWrite p m r v => exact execGptPreloadWrite_eq_act p m r v s
  | _ => dsimp only [exec]; exact ⟨_, rfl⟩

theorem State.onWindow_in {off : Nat} (s : State) (g : State → State) (h : off < 0x40000) : s.onWindow off g = s.act g := if_pos h

theorem State.onWindow_out {off : Nat} (s : State) (g : State → State) (h : 0x40000 ≤ off) :
    s.onWindow off g = .fault (.outsideWindow off) := if_neg (Nat.not_lt.2 h)

/-- A register command is an effect on the powered block where its offset lies in the set-up window. -/
theorem exec_eq_onWindow {c : Instr} (s : State) (hoff : namesOffset c = true) : ∃ off g, exec c s = s.onWindow off g ∧
    (c.wf = true → off < 0x40000) := by
  have hreg {off : Nat} (h : regOffOk off = true) : off < 0x40000 := by
    rw [regOffOk, Bool.and_eq_true, decide_eq_true_eq] at h
    exact h.1
  cases c with
  | registerWrite | rcRead | wideLoRead | wideLoWrite | wideHiWrite => exact ⟨_, _, rfl, hreg⟩
  | _ => cases hoff

/-- A register command inside the set-up window is an effect on the powered block. -/
theorem exec_eq_act_of_wf {c : Instr} (s : State) (hw : c.wf = true) (hp : reachesUnpowered c = false) : ∃ g, exec c s = s.act g := by
  cases hoff : namesOffset c with
  | true =>
    obtain ⟨off, g, hexec, hin⟩ := exec_eq_onWindow s hoff
    exact ⟨g, hexec.trans (s.onWindow_in g (hin hw))⟩
  | false => exact exec_eq_act s hoff hp

theorem State.act_goesOn (s : State) (g : State → State) : ∃ t, s.act g = .next t := by
  unfold State.act
  split <;> exact ⟨_, rfl⟩

/-! The commands that reach a block without power. -/

theorem execColdStart_goesOn (o : StartObs) (s : State) : ∃ t, execColdStart o s = .next t := by
  unfold execColdStart
  split <;> exact ⟨_, rfl⟩

theorem execBrownout_goesOn (s : State) : ∃ t, execBrownout s = .next t := by
  unfold execBrownout
  split <;> exact ⟨_, rfl⟩

theorem execFallowWake_goesOn (src : WakeSrc) (k : Nat) (s : State) : ∃ t, execFallowWake src k s = .next t := by
  unfold execFallowWake
  split
  · split <;> exact ⟨_, rfl⟩
  all_goals exact ⟨_, rfl⟩

theorem execShipWake_goesOn (src : WakeSrc) (s : State) : ∃ t, execShipWake src s = .next t := by
  unfold execShipWake
  split
  · split <;> exact ⟨_, rfl⟩
  all_goals exact ⟨_, rfl⟩

theorem execLongPress_goesOn (b : Bool) (w : NvmCut) (s : State) : ∃ t, execLongPress b w s = .next t := by
  simp only [execLongPress]
  split
  · exact ⟨_, rfl⟩
  · split
    · split <;> exact ⟨_, rfl⟩
    · split <;> exact ⟨_, rfl⟩
    all_goals exact ⟨_, rfl⟩

theorem execPbMainPress_goesOn (s : State) : ∃ t, execPbMainPress s = .next t := State.act_goesOn _ _

theorem exec_goesOn_of_reaches {c : Instr} (s : State) (h : reachesUnpowered c = true) : ∃ t, exec c s = .next t := by
  cases c with
  | coldStart o => exact execColdStart_goesOn o s
  | brownout => exact execBrownout_goesOn s
  | fallowWake src k => exact execFallowWake_goesOn src k s
  | shipWake src => exact execShipWake_goesOn src s
  | longPress b w => exact execLongPress_goesOn b w s
  | pbMainPress => exact execPbMainPress_goesOn s
  | _ => cases h

/-- A command that names no offset goes on in every state. -/
theorem exec_goesOn {c : Instr} (s : State) (hoff : namesOffset c = false) : ∃ t, exec c s = .next t := by
  cases hp : reachesUnpowered c with
  | true => exact exec_goesOn_of_reaches s hp
  | false =>
    obtain ⟨g, hg⟩ := exec_eq_act s hoff hp
    rw [hg]
    exact s.act_goesOn g

theorem exec_not_refused (c : Instr) (s : State) (r : Refusal) : exec c s ≠ .refused r := by
  cases hoff : namesOffset c with
  | false =>
    obtain ⟨t, ht⟩ := exec_goesOn s hoff
    simp [ht]
  | true =>
    obtain ⟨off, g, hexec, -⟩ := exec_eq_onWindow s hoff
    obtain ⟨t, ht⟩ := s.act_goesOn g
    rw [hexec, State.onWindow]
    split <;> simp [ht]

/-- Settles O1: the queue's front is one branch of `step`. -/
theorem stepRunsFrontCommand : Obligations.StepRunsFrontCommand := by
  intro s c rest h
  rw [step, h]

/-- Settles O3: a command names an offset or is an effect on the block, which goes on. -/
theorem wellFormedCommandsComplete : Obligations.WellFormedCommandsComplete := by
  refine ⟨fun c s hw => ?_, exec_not_refused, fun p off v be s h => ?_⟩
  · cases hp : reachesUnpowered c with
    | true => exact exec_goesOn_of_reaches s hp
    | false =>
      obtain ⟨g, hg⟩ := exec_eq_act_of_wf s hw hp
      rw [hg]
      exact s.act_goesOn g
  · exact ⟨s.onWindow_out _ h, s.onWindow_out _ h, s.onWindow_out _ h, s.onWindow_out _ h, s.onWindow_out _ h⟩

/-- Settles O4: without power the effect of a command does not take place. -/
theorem unpoweredBlockTakesNoCommand : Obligations.UnpoweredBlockTakesNoCommand := by
  intro c s hw hoff hp
  obtain ⟨g, hg⟩ := exec_eq_act_of_wf s hw hp
  rw [hg, State.act_off g hoff]

end Sys2Proof.Machine
end

section
/-! What an update leaves of the faults reported within a step: each operation on the store and on the switches adds none, so a step leaves
none (log 12). -/

namespace Sys2Proof.Machine

/-! A reading that every step of a loop keeps is kept by the loop. -/

theorem foldl_keeps {α β : Type} {f : State → β} {g : State → α → State} (hg : ∀ s a, f (g s a) = f s) (l : List α) (s : State) :
    f (l.foldl g s) = f s := by
  induction l generalizing s with
  | nil => rfl
  | cons a l ih => rw [List.foldl_cons, ih, hg]

theorem State.each_keeps {β : Type} {f : State → β} {g : Nat → State → State} (hg : ∀ k s, f (g k s) = f s) (ks : List Nat)
    (s : State) : f (s.each ks g) = f s := foldl_keeps (fun s k => hg k s) ks s

/-! The store. -/

theorem State.clearGroup_raised (s : State) (g : Nat) : (s.clearGroup g).raised = s.raised := by
  rw [State.clearGroup, State.setNvmGroup_raised]
  exact foldl_keeps (fun t _ => t.setNvmByte_raised _ _) _ _

theorem State.programGroup_raised (s : State) (g : Nat) (bs : List Byte) : (s.programGroup g bs).raised = s.raised := by
  rw [State.programGroup, State.setNvmGroup_raised]
  exact foldl_keeps (fun t _ => t.setNvmByte_raised _ _) _ _

theorem State.unqueuePage_raised (s : State) (p : Nat) : (s.unqueuePage p).raised = s.raised := by
  rw [State.unqueuePage]
  split <;> rfl

theorem State.erasePage_raised (s : State) (p : Nat) : (s.erasePage p).raised = s.raised := by
  rw [State.erasePage, State.unqueuePage_raised]
  exact foldl_keeps (f := State.raised) (fun t _ => t.clearGroup_raised _) _ _

theorem State.programArmed_raised (s : State) (g : Nat) (bs : List Byte) : (s.programArmed g bs).raised = s.raised := by
  simp only [State.programArmed]
  split <;> simp only [State.hwSet_raised, State.setF_raised, State.setNvmGroup_raised, State.programGroup_raised]

theorem State.nvmDo_raised (s : State) (o : NvmOp) : (s.nvmDo o).raised = s.raised := by
  cases o with
  | erase p => exact s.erasePage_raised p
  | program g bs => exact s.programArmed_raised g bs

theorem State.showOldest_raised (s : State) : s.showOldest.raised = s.raised := by
  rw [State.showOldest]
  split <;> rfl

theorem State.bbTaken_raised (s : State) (slot : Nat) {op : State → State} (hop : ∀ t : State, (op t).raised = t.raised) :
    (s.bbTaken slot op).raised = s.raised := by
  simp only [State.bbTaken, State.showOldest_raised]
  split
  · rw [State.bbClear, hop]
  · rfl

theorem State.bbAppendRec_raised (s : State) (r : BbRec) : (s.bbAppendRec r).raised = s.raised := by
  rw [State.bbAppendRec, State.bbTaken_raised _ _ fun t => t.erasePage_raised _, State.bbNewest, State.wrN_raised]
  exact foldl_keeps State.nvmDo_raised _ _

/-! The last gasp and the lines of a block that loses its power (R366, R391). -/

theorem State.lastGasp_raised (s : State) (bs : List Byte) : (s.lastGasp bs).raised = s.raised := by
  simp only [State.lastGasp]
  split
  · rfl
  · rw [State.bbAppendRec_raised]

theorem State.openSwitch_raised (s : State) (w : Nat) : (s.openSwitch w).raised = s.raised := by
  rw [State.openSwitch, State.setF_raised, State.setF_raised, State.setF_raised]

theorem State.openAll_raised (s : State) : s.openAll.raised = s.raised := State.each_keeps (fun w t => t.openSwitch_raised w) _ _

theorem State.withSys_raised (s : State) (x : SysSt) : State.raised { s with sys := x } = s.raised := rfl

theorem State.powerFail_raised (s : State) (bs : List Byte) : (s.powerFail bs).raised = [] := by
  unfold State.powerFail
  refine (State.withSys_raised _ _).trans ((State.each_keeps (fun _ t => t.setPort_raised _ _) _ _).trans ?_)
  rw [State.openAll_raised, State.lastGasp_raised, State.settle_raised]

/-! The clock (log 7). -/

theorem State.copyCmp_raised (s : State) (n : Nat) : (s.copyCmp n).raised = s.raised := by
  rw [State.copyCmp]
  split <;> rfl

theorem State.takePer_raised (s : State) (n : Nat) : (s.takePer n).raised = s.raised := by
  simp only [State.takePer]
  repeat' split
  all_goals rfl

theorem State.clockStage_raised (s : State) (n : Nat) : (s.clockStage n).raised = s.raised := by
  simp only [State.clockStage, State.takePer_raised]
  split
  · rfl
  · exact s.copyCmp_raised n

theorem State.idle_raised (s : State) : s.idle.raised = s.raised := by
  rw [State.idle]
  split
  · rw [State.each_keeps fun k s => s.clockStage_raised k]
  all_goals rfl

/-! Every command. -/

theorem State.act_raised {s t : State} {g : State → State} (hs : s.raised = []) (h : s.act g = .next t) : t.raised = [] := by
  unfold State.act at h
  split at h
  · cases h; exact State.settle_raised _
  · cases h; exact hs

theorem execColdStart_raised {o : StartObs} {s t : State} (hs : s.raised = []) (h : execColdStart o s = .next t) : t.raised = [] := by
  unfold execColdStart at h
  split at h <;> cases h
  · exact hs
  all_goals exact State.settle_raised _

theorem execBrownout_raised {s t : State} (hs : s.raised = []) (h : execBrownout s = .next t) : t.raised = [] := by
  unfold execBrownout at h
  split at h <;> cases h
  · exact State.settle_raised _
  all_goals exact hs

theorem execFallowWake_raised {src : WakeSrc} {k : Nat} {s t : State} (hs : s.raised = []) (h : execFallowWake src k s = .next t) :
    t.raised = [] := by
  unfold execFallowWake at h
  split at h
  · split at h <;> cases h
    · exact State.settle_raised _
    · exact hs
  all_goals cases h; exact hs

theorem execShipWake_raised {src : WakeSrc} {s t : State} (hs : s.raised = []) (h : execShipWake src s = .next t) : t.raised = [] := by
  unfold execShipWake at h
  split at h
  · split at h <;> cases h
    · exact hs
    · exact State.settle_raised _
  all_goals cases h; exact hs

theorem execLongPress_raised {b : Bool} {w : NvmCut} {s t : State} (hs : s.raised = []) (h : execLongPress b w s = .next t) :
    t.raised = [] := by
  simp only [execLongPress] at h
  split at h
  · cases h; exact hs
  · split at h
    · split at h <;> cases h
      · exact State.settle_raised _
      · exact State.powerFail_raised _ _
    · split at h <;> cases h <;> exact hs
    all_goals cases h; exact hs

theorem execPbMainPress_raised {s t : State} (hs : s.raised = []) (h : execPbMainPress s = .next t) : t.raised = [] :=
  State.act_raised (s := s.pbPressed) hs h

theorem exec_raised_of_reaches {c : Instr} {s t : State} (hc : reachesUnpowered c = true) (hs : s.raised = [])
    (h : exec c s = .next t) : t.raised = [] := by
  cases c with
  | coldStart => exact execColdStart_raised hs h
  | brownout => exact execBrownout_raised hs h
  | fallowWake => exact execFallowWake_raised hs h
  | shipWake => exact execShipWake_raised hs h
  | longPress => exact execLongPress_raised hs h
  | pbMainPress => exact execPbMainPress_raised hs h
  | _ => cases hc

theorem exec_raised {c : Instr} {s t : State} (hs : s.raised = []) (h : exec c s = .next t) : t.raised = [] := by
  cases hp : reachesUnpowered c with
  | true => exact exec_raised_of_reaches hp hs h
  | false =>
    cases hoff : namesOffset c with
    | false =>
      obtain ⟨g, hg⟩ := exec_eq_act s hoff hp
      exact State.act_raised hs (hg ▸ h)
    | true =>
      obtain ⟨off, g, hexec, -⟩ := exec_eq_onWindow s hoff
      rw [hexec, State.onWindow] at h
      split at h
      · exact State.act_raised hs h
      · cases h

/-- Settles O5: a command's effect settles at its end, and what is done after that, or without it, reports nothing. -/
theorem reportedFaultsHaveSettled : Obligations.ReportedFaultsHaveSettled := by
  intro s t hs h
  cases hp : s.pending with
  | nil =>
    rw [step, hp] at h
    cases h
    exact s.idle_raised.trans hs
  | cons c rest =>
    rw [step, hp] at h
    exact exec_raised (s := { s with pending := rest }) hs h

end Sys2Proof.Machine
end

section
/-! One period on an empty queue (log 7), and the state after a cold reset. -/

namespace Sys2Proof.Machine

/-! The copies of a stage leave the time and the queue. -/

theorem State.copyCmp_cyc (s : State) (n : Nat) : (s.copyCmp n).cyc = s.cyc := by
  rw [State.copyCmp]
  split <;> rfl

theorem State.copyCmp_pending (s : State) (n : Nat) : (s.copyCmp n).pending = s.pending := by
  rw [State.copyCmp]
  split <;> rfl

theorem State.takePer_cyc (s : State) (n : Nat) : (s.takePer n).cyc = s.cyc := by
  simp only [State.takePer]
  repeat' split
  all_goals rfl

theorem State.takePer_pending (s : State) (n : Nat) : (s.takePer n).pending = s.pending := by
  simp only [State.takePer]
  repeat' split
  all_goals rfl

theorem State.clockStage_cyc (s : State) (n : Nat) : (s.clockStage n).cyc = s.cyc := by
  simp only [State.clockStage, State.takePer_cyc]
  split
  · rfl
  · exact s.copyCmp_cyc n

theorem State.clockStage_pending (s : State) (n : Nat) : (s.clockStage n).pending = s.pending := by
  simp only [State.clockStage, State.takePer_pending]
  split
  · rfl
  · exact s.copyCmp_pending n

/-! The clock by the power of the block. -/

theorem State.idle_on {s : State} (h : s.sys.power = .on) :
    s.idle = State.each { s with cyc := s.cyc + 1 } (List.range 8) (fun n s => s.clockStage n) := by
  rw [State.idle, h]

theorem State.idle_hold {s : State} (h : s.sys.power = .hold) : s.idle = { s with cyc := s.cyc + 1 } := by
  rw [State.idle, h]

theorem State.idle_unclocked {s : State} (h : s.sys.power = .fallow ∨ s.sys.power = .ship) : s.idle = s := by
  rcases h with h | h <;> rw [State.idle, h]

theorem State.idle_pending (s : State) : s.idle.pending = s.pending := by
  cases hp : s.sys.power with
  | on =>
    rw [State.idle_on hp]
    exact State.each_keeps (fun n t => t.clockStage_pending n) _ _
  | hold => rw [State.idle_hold hp]
  | fallow => rw [State.idle_unclocked (.inl hp)]
  | ship => rw [State.idle_unclocked (.inr hp)]

theorem State.idle_cyc {s : State} (h : s.sys.power = .on ∨ s.sys.power = .hold) : s.idle.cyc = s.cyc + 1 := by
  rcases h with h | h
  · rw [State.idle_on h]
    exact State.each_keeps (fun n t => t.clockStage_cyc n) _ _
  · rw [State.idle_hold h]

/-- Settles O2: by the power of the block. -/
theorem emptyQueueLetsOneCyclePass : Obligations.EmptyQueueLetsOneCyclePass := by
  intro s hq
  exact ⟨s.idle, by rw [step, hq], s.idle_pending.trans hq, State.idle_cyc, State.idle_unclocked⟩

/-- Settles O7: the empty tables read their defaults. -/
theorem resetStateIsSound : Obligations.ResetStateIsSound := by
  refine ⟨⟨rfl, rfl⟩, State.wf_reset, rfl, by decide, ?_, fun _ => rfl, fun _ => rfl, rfl, ?_, fun _ => rfl⟩
  · decide
  · decide

end Sys2Proof.Machine
end

section
/-! Every operation keeps the canonical form (R269, R345): one lemma per operation, in the order in which they are built on each other. The form
is kept by the three writes of a table; every other update leaves the three tables, or is a chain, a choice or a loop of such updates. -/

namespace Sys2Proof.Machine

/-- The registers, the local window and the data NVM are in canonical form. -/
def State.Canon (s : State) : Prop := s.wf = true

/-- If a command answers a next state, it is in canonical form. -/
def OutCanon (o : Host.Outcome State Fault Refusal) : Prop := ∀ t, o = .next t → t.Canon

/-! How operations are put together. -/

/-- What a reset keeps of a table in canonical form is in canonical form. -/
theorem tabFilter_wf {α : Type} [DecidableEq α] {d : Nat → α} (p : Nat × α → Bool) {t : Tab α} (h : tabWf d t = true) :
    tabWf d (t.filter p) = true := by
  induction t with
  | nil => rfl
  | cons q t ih =>
    obtain ⟨k, v⟩ := q
    simp only [tabWf, Bool.and_eq_true] at h
    obtain ⟨⟨hv, hk⟩, ht⟩ := h
    rw [List.filter_cons]
    split
    · simp only [tabWf, Bool.and_eq_true]
      exact ⟨⟨hv, List.all_eq_true.2 fun x hx => List.all_eq_true.1 hk x (List.mem_of_mem_filter hx)⟩, ih ht⟩
    · exact ih ht

section
variable
    {cyc free evLost rrLast planSeq tick revalAt : Nat} {cycle : CycleRt} {hiLatch loStage msixTable msixPend : Tab Word}
    {intDis evLosing safeOn releasing : Bool} {outbox : List Emit} {srcs : Tab SrcRt} {cplq : List HeldCpl} {pairs : Tab PairRt}
    {plan : Tab Slot} {alloc : List SegAlloc} {releasedA releasedB trim revalCause revalE revalP revalH : List Nat}
    {fab fabCheck : Option (Tab Word)} {hrw : Tab HrwInst} {raised : List Raised} {coords : Tab CoordRt} {gpts : Tab GptRt}
    {stages : Tab StageRt} {rails : Tab RailRt} {loopSets : List (List Byte)} {supplies : Tab SupplyRt} {xfers : Tab XferRt}
    {psws : Tab PswRt} {mppt : MpptRt} {packs : Tab PackRt} {cans : Tab CanRt} {ports : Tab PortRt} {glns : Tab GlnRt} {bb : BbSt}
    {fw : FwSt} {sys : SysSt} {pending : List Instr}

/-- The form is one of the registers, the window and the bytes of the store. -/
theorem State.Canon.update {s : State} (h : s.Canon) : State.Canon { s with
      cyc := cyc, free := free, cycle := cycle, hiLatch := hiLatch, loStage := loStage, msixTable := msixTable, msixPend := msixPend,
      intDis := intDis, outbox := outbox, srcs := srcs, cplq := cplq, pairs := pairs, evLost := evLost, evLosing := evLosing,
      rrLast := rrLast, plan := plan, planSeq := planSeq, alloc := alloc, releasedA := releasedA, releasedB := releasedB, tick := tick,
      trim := trim, revalCause := revalCause, revalAt := revalAt, revalE := revalE, revalP := revalP, revalH := revalH, fab := fab,
      fabCheck := fabCheck, hrw := hrw, raised := raised, safeOn := safeOn, releasing := releasing, coords := coords, gpts := gpts,
      stages := stages, rails := rails, loopSets := loopSets, supplies := supplies, xfers := xfers, psws := psws, mppt := mppt,
      packs := packs, cans := cans, ports := ports, glns := glns, bb := bb, fw := fw, sys := sys, pending := pending } := h

theorem State.Canon.updateNvm {s : State} {groups : Tab GroupStatus} {reerase : List Nat} {counters : Tab CntRt} (h : s.Canon) :
    State.Canon { s with
      cyc := cyc, free := free, cycle := cycle, hiLatch := hiLatch, loStage := loStage, msixTable := msixTable, msixPend := msixPend,
      intDis := intDis, outbox := outbox, srcs := srcs, cplq := cplq, pairs := pairs, evLost := evLost, evLosing := evLosing,
      rrLast := rrLast, plan := plan, planSeq := planSeq, alloc := alloc, releasedA := releasedA, releasedB := releasedB, tick := tick,
      trim := trim, revalCause := revalCause, revalAt := revalAt, revalE := revalE, revalP := revalP, revalH := revalH, fab := fab,
      fabCheck := fabCheck, hrw := hrw, raised := raised, safeOn := safeOn, releasing := releasing, coords := coords, gpts := gpts,
      stages := stages, rails := rails, loopSets := loopSets, supplies := supplies, xfers := xfers, psws := psws, mppt := mppt,
      packs := packs, cans := cans, ports := ports, glns := glns, bb := bb, fw := fw, sys := sys, pending := pending,
      nvm := ⟨s.nvm.bytes, groups, reerase, counters⟩ } := h

/-- What a reset keeps of the registers and of the window is in canonical form (R399). -/
theorem State.Canon.kept {s : State} {c : Nat} (h : s.Canon) : State.Canon { s with
      cyc := cyc, free := free, cycle := cycle, hiLatch := hiLatch, loStage := loStage, msixTable := msixTable, msixPend := msixPend,
      intDis := intDis, outbox := outbox, srcs := srcs, cplq := cplq, pairs := pairs, evLost := evLost, evLosing := evLosing,
      rrLast := rrLast, plan := plan, planSeq := planSeq, alloc := alloc, releasedA := releasedA, releasedB := releasedB, tick := tick,
      trim := trim, revalCause := revalCause, revalAt := revalAt, revalE := revalE, revalP := revalP, revalH := revalH, fab := fab,
      fabCheck := fabCheck, hrw := hrw, raised := raised, safeOn := safeOn, releasing := releasing, coords := coords, gpts := gpts,
      stages := stages, rails := rails, loopSets := loopSets, supplies := supplies, xfers := xfers, psws := psws, mppt := mppt,
      packs := packs, cans := cans, ports := ports, glns := glns, bb := bb, fw := fw, sys := sys, pending := pending,
      regs := s.regs.filter (fun p => keptReg c p.1), localWin := if warmCause c then s.localWin else [] } := by
  obtain ⟨hregs, hwin, hnvm⟩ := s.wf_iff.1 h
  refine (State.wf_iff _).2 ⟨tabFilter_wf _ hregs, ?_, hnvm⟩
  split
  · exact hwin
  · rfl
end

theorem canonIte {s t : State} {c : Prop} [Decidable c] (hs : s.Canon) (ht : t.Canon) : (if c then s else t).Canon := by
  split
  · exact hs
  · exact ht

theorem canonIteFst {α : Type} {r x : State × α} {c : Prop} [Decidable c] (hr : r.1.Canon) (hx : x.1.Canon) :
    (if c then r else x).1.Canon := by
  split
  · exact hr
  · exact hx

theorem canonIteSnd {α : Type} {r x : α × State} {c : Prop} [Decidable c] (hr : r.2.Canon) (hx : x.2.Canon) :
    (if c then r else x).2.Canon := by
  split
  · exact hr
  · exact hx

theorem canonIteSndSnd {α β : Type} {r x : α × β × State} {c : Prop} [Decidable c] (hr : r.2.2.Canon) (hx : x.2.2.Canon) :
    (if c then r else x).2.2.Canon := by
  split
  · exact hr
  · exact hx

theorem bindCanon {p q : Prop} (h : p) (k : p → q) : q := k h

theorem State.Canon.foldl {α : Type} {g : State → α → State} {l : List α} {s : State} (h : s.Canon)
    (hg : ∀ u a, u.Canon → (g u a).Canon) : (l.foldl g s).Canon := State.wf_foldl g hg l s h

theorem State.Canon.each {s : State} {ks : List Nat} {g : Nat → State → State} (h : s.Canon)
    (hg : ∀ k u, u.Canon → (g k u).Canon) : (s.each ks g).Canon := State.Canon.foldl h fun u k => hg k u

theorem inNone {α : Type} {P : α → Prop} : ∀ t ∈ (none : Option α), P t := nofun

theorem inSome {α : Type} {P : α → Prop} {a : α} (h : P a) : ∀ t ∈ some a, P t := fun _ ht => Option.some.inj ht ▸ h

theorem inMap {α β : Type} {P : β → Prop} {o : Option α} {f : α → β} (h : ∀ x ∈ o, P (f x)) : ∀ t ∈ o.map f, P t := by
  intro t ht
  obtain ⟨x, hx, rfl⟩ := Option.map_eq_some_iff.1 ht
  exact h x hx

theorem fstOf {α : Type} {r x : State × α} (h : r.1.Canon) (e : r = x) : x.1.Canon := e ▸ h

theorem sndOf {α : Type} {r x : α × State} (h : r.2.Canon) (e : r = x) : x.2.Canon := e ▸ h

/-! The operations. -/

theorem State.Canon.noteOld {s : State} {off : Nat} (h : s.Canon) : (s.noteOld off).Canon := h.update

theorem State.Canon.noteNew {s : State} {off : Nat} {fld : Fld} {v : Nat} (h : s.Canon) : (s.noteNew off fld v).Canon :=
  h.noteOld.update

theorem State.Canon.wr {s : State} {off : Nat} {v : Word} (h : s.Canon) : (s.wr off v).Canon := s.wf_wr off v h

theorem State.Canon.setF {s : State} {off : Nat} {fld : Fld} {v : Nat} (h : s.Canon) : (s.setF off fld v).Canon := h.wr

theorem State.Canon.hwSet {s : State} {off : Nat} {fld : Fld} {v : Nat} (h : s.Canon) : (s.hwSet off fld v).Canon := h.noteNew.setF

theorem State.Canon.showLoad {s : State} (h : s.Canon) : s.showLoad.Canon := h.setF

theorem State.Canon.setStage {s : State} {n : Nat} {r : StageRt} (h : s.Canon) : (s.setStage n r).Canon := h.update

theorem State.Canon.takePer {s : State} {n : Nat} (h : s.Canon) : (s.takePer n).Canon := by
  simp only [State.takePer]
  split
  · exact h
  · exact bindCanon h.setStage fun h0 => canonIte h0.setF (canonIte h (canonIte h0.setF.showLoad h0.hwSet))

theorem State.Canon.copyCmp {s : State} {n : Nat} (h : s.Canon) : (s.copyCmp n).Canon := by
  simp only [State.copyCmp]
  split
  · exact h
  · exact h.setF.setStage

theorem State.Canon.clockStage {s : State} {n : Nat} (h : s.Canon) : (s.clockStage n).Canon := (canonIte h h.copyCmp).takePer

theorem State.Canon.idle {s : State} (h : s.Canon) : s.idle.Canon := by
  simp only [State.idle]
  split
  · exact h.update.each (fun _ _ h0 => h0.clockStage)
  · exact h.update
  · exact h

theorem State.Canon.raise {s : State} {id inst : Nat} {record : List Byte} (h : s.Canon) : (s.raise id inst record).Canon := h.update

theorem State.Canon.setPack {s : State} {i : Nat} {r : PackRt} (h : s.Canon) : (s.setPack i r).Canon := h.update

theorem State.Canon.setNvmGroup {s : State} {g : Nat} {st : GroupStatus} (h : s.Canon) : (s.setNvmGroup g st).Canon := h.updateNvm

theorem State.Canon.takeFree {s : State} {w : Nat} (h : s.Canon) : (s.takeFree w).2.Canon := h.update

theorem State.Canon.spoilPage {s : State} {ops : List NvmOp} (h : s.Canon) : (s.spoilPage ops).Canon := by
  simp only [State.spoilPage]
  split
  · exact h.update.setNvmGroup
  · exact h.update

theorem State.Canon.setNvmByte {s : State} {a : Nat} {b : Byte} (h : s.Canon) : (s.setNvmByte a b).Canon := s.wf_setNvmByte a b h

theorem State.Canon.programGroup {s : State} {g : Nat} {bytes : List Byte} (h : s.Canon) : (s.programGroup g bytes).Canon :=
  (h.foldl (fun _ _ h0 => h0.setNvmByte)).setNvmGroup

theorem State.Canon.programArmed {s : State} {g : Nat} {bytes : List Byte} (h : s.Canon) : (s.programArmed g bytes).Canon :=
  bindCanon h.programGroup fun h0 => canonIte h0.setNvmGroup.setF.hwSet h0

theorem State.Canon.clearGroup {s : State} {g : Nat} (h : s.Canon) : (s.clearGroup g).Canon :=
  (h.foldl (fun _ _ h0 => h0.setNvmByte)).setNvmGroup

theorem State.Canon.showReerase {s : State} (h : s.Canon) : s.showReerase.Canon := h.setF

theorem State.Canon.unqueuePage {s : State} {p : Nat} (h : s.Canon) : (s.unqueuePage p).Canon := canonIte h.updateNvm.showReerase h

theorem State.Canon.erasePage {s : State} {p : Nat} (h : s.Canon) : (s.erasePage p).Canon :=
  (h.foldl (fun _ _ h0 => h0.clearGroup)).unqueuePage

theorem State.Canon.nvmDo {s : State} {x : NvmOp} (h : s.Canon) : (s.nvmDo x).Canon := by
  simp only [State.nvmDo]
  split
  · exact h.erasePage
  · exact h.programArmed

theorem State.Canon.planRecord {s : State} {p : RecPlace} {id : Nat} {data : List Byte} (h : s.Canon) : (s.planRecord p id data).2.Canon
    :=
  canonIte h.update h

theorem State.Canon.writeRecord {s : State} {p : RecPlace} {id : Nat} {data : List Byte} {bad : Option Nat} (h : s.Canon) :
    (s.writeRecord p id data bad).1.Canon := by
  simp only [State.writeRecord]
  exact bindCanon h.planRecord fun h0 => (by
      split
      · exact h0.foldl (fun _ _ h1 => h1.nvmDo)
      · exact canonIteFst (((h0.foldl (fun _ _ h2 => h2.nvmDo)).spoilPage).raise) (h0.foldl (fun _ _ h3 => h3.nvmDo)))

theorem State.Canon.writeHealth {s : State} {i restMv : Nat} {bad : Option Nat} (h : s.Canon) : (s.writeHealth i restMv bad).Canon :=
  h.writeRecord.setPack

theorem State.Canon.wrN {s : State} {off v : Nat} (h : s.Canon) : (s.wrN off v).Canon := h.wr

theorem State.Canon.bbNewest {s : State} {bytes : List Byte} (h : s.Canon) : (s.bbNewest bytes).Canon := h.update.wrN

theorem State.Canon.bbClear {s : State} {page : Nat} {op : State → State} (h : s.Canon) (hg0 : ∀ x0, x0.Canon → (op x0).Canon) :
    (s.bbClear page op).Canon :=
  hg0 _ h.update

theorem State.Canon.showOldest {s : State} (h : s.Canon) : s.showOldest.Canon := by
  simp only [State.showOldest]
  split
  · exact h.wrN
  · exact h

theorem State.Canon.bbTaken {s : State} {slot : Nat} {op : State → State} (h : s.Canon) (hg0 : ∀ x0, x0.Canon → (op x0).Canon) :
    (s.bbTaken slot op).Canon :=
  (canonIte (h.update.bbClear (fun _ h1 => hg0 _ h1)) h.update).showOldest

theorem State.Canon.bbAppendRec {s : State} {r : BbRec} (h : s.Canon) : (s.bbAppendRec r).Canon :=
  ((h.foldl (fun _ _ h0 => h0.nvmDo)).bbNewest).bbTaken (fun _ h1 => h1.erasePage)

theorem State.Canon.setCounter {s : State} {k : Nat} {r : CntRt} (h : s.Canon) : (s.setCounter k r).Canon := h.updateNvm

theorem State.Canon.wearCounter {s : State} {k : Nat} (h : s.Canon) : (s.wearCounter k).Canon := canonIte h.setF.raise h

theorem State.Canon.commitCounter {s : State} {k : Nat} {flush : Bool} (h : s.Canon) : (s.commitCounter k flush).Canon :=
  bindCanon h.programGroup fun h0 => (canonIte h0.erasePage h0).setCounter.wearCounter

theorem State.Canon.flushCounters {s : State} (h : s.Canon) : s.flushCounters.Canon := h.each (fun _ _ h0 => h0.commitCounter)

theorem State.Canon.bbWaiting {s : State} (h : s.Canon) : ∀ t ∈ s.bbWaiting, t.2.Canon := by
  simp only [State.bbWaiting]
  split
  · exact inSome h.update
  · split
    · exact inSome h.update
    · split
      · exact inSome h.update
      · exact inNone

theorem State.Canon.bbAppendOne {s : State} (h : s.Canon) : s.bbAppendOne.Canon := by
  simp only [State.bbAppendOne]
  split
  · next heq =>
    exact (h.bbWaiting _ heq).bbAppendRec
  · exact h

theorem State.Canon.bbAppendAll {s : State} {n : Nat} (h : s.Canon) : (s.bbAppendAll n).Canon := by
  induction n generalizing s with
  | zero => exact h
  | succ n ih => exact canonIte h (ih h.bbAppendOne)

theorem State.Canon.bbFlush {s : State} (h : s.Canon) : s.bbFlush.Canon := h.bbAppendAll

theorem State.Canon.emit {s : State} {e : Emit} (h : s.Canon) : (s.emit e).Canon := h.update

theorem State.Canon.fireVec {s : State} {v : Nat} (h : s.Canon) : (s.fireVec v).Canon := canonIte (canonIte h.update h.emit) h

theorem State.Canon.setGlb {s : State} {k : Nat} (h : s.Canon) : (s.setGlb k).Canon := canonIte h.hwSet.fireVec h.hwSet

theorem State.Canon.bump {s : State} {off : Nat} {fld : Fld} {k : Nat} (h : s.Canon) : (s.bump off fld k).Canon := h.noteNew.setF

theorem State.Canon.hold {s : State} {cpl : HeldCpl} (h : s.Canon) : (s.hold cpl).Canon := h.update

theorem State.Canon.putEvent {s : State} {kind sub code : Nat} {data : List Byte} (h : s.Canon) : (s.putEvent kind sub code data).Canon :=
  canonIte h.setF.hold (bindCanon h.setF.update.bump.bump.setGlb fun h2 => canonIte h2 h2.raise)

theorem State.Canon.event {s : State} {kind sub code : Nat} {data : List Byte} (h : s.Canon) : (s.event kind sub code data).Canon :=
  canonIte ((canonIte h.update.putEvent h).putEvent) h

theorem State.Canon.powerEvent {s : State} {st : Nat} (h : s.Canon) : (s.powerEvent st).Canon := h.event

theorem State.Canon.setStageState {s : State} {n st : Nat} (h : s.Canon) : (s.setStageState n st).Canon := h.setF

theorem State.Canon.stopStage {s : State} {n st : Nat} (h : s.Canon) : (s.stopStage n st).Canon :=
  h.setStageState.setF.setF.wrN.wrN.setStage.showLoad

theorem State.Canon.stopAll {s : State} (h : s.Canon) : s.stopAll.Canon := h.each (fun _ _ h0 => canonIte h0.stopStage h0)

theorem State.Canon.openSwitch {s : State} {w : Nat} (h : s.Canon) : (s.openSwitch w).Canon := h.setF.setF.setF

theorem State.Canon.openAll {s : State} (h : s.Canon) : s.openAll.Canon := h.each (fun _ _ h0 => h0.openSwitch)

theorem State.Canon.enterShip {s : State} (h : s.Canon) : s.enterShip.Canon :=
  (h.powerEvent.stopAll.openAll.flushCounters.bbFlush.bbAppendRec.each (fun _ _ h3 => h3.writeHealth)).update

theorem State.Canon.requestShip {s : State} (h : s.Canon) : s.requestShip.1.Canon := canonIteFst h.setF.enterShip h.setF.raise

theorem State.Canon.wr64 {s : State} {lo hi v : Nat} (h : s.Canon) : (s.wr64 lo hi v).Canon := h.wrN.wrN

theorem State.Canon.loadEnv {s : State} (h : s.Canon) : s.loadEnv.Canon :=
  canonIte h (((h.each (fun _ _ h0 => h0.wrN.wrN.wrN.wrN.wr64)).each (fun _ _ h4 => h4.wrN)).wrN.setF)

theorem State.Canon.showFw {s : State} (h : s.Canon) : s.showFw.Canon :=
  h.setF.setF.setF.setF.setF.setF.setF.setF.setF.setF.setF.setF.each (fun _ _ h5 => h5.wrN.wrN)

theorem State.Canon.commitEnv {s : State} {b : List Byte} (h : s.Canon) : (s.commitEnv b).1.Canon :=
  canonIteFst h.raise h.update.update.loadEnv.showFw

theorem State.Canon.setPsw {s : State} {n : Nat} {r : PswRt} (h : s.Canon) : (s.setPsw n r).Canon := h.update

theorem State.Canon.freeSeries {s : State} {i : Nat} (h : s.Canon) : (s.freeSeries i).Canon := by
  simp only [State.freeSeries]
  split
  · exact canonIte h h.setPsw
  · exact h

theorem State.Canon.setPairState {s : State} {p st stall : Nat} (h : s.Canon) : (s.setPairState p st stall).Canon :=
  bindCanon h.setF.setF fun h0 => (canonIte h0.setGlb h0).event

theorem State.Canon.setPS {s : State} {n : Nat} {fld : Fld} {v : Nat} (h : s.Canon) : (s.setPS n fld v).Canon := h.setF

theorem State.Canon.setPe {s : State} {n v : Nat} (h : s.Canon) : (s.setPe n v).Canon := h.setPS

theorem State.Canon.setPort {s : State} {n : Nat} {r : PortRt} (h : s.Canon) : (s.setPort n r).Canon := h.update

theorem State.Canon.startTimer {s : State} {n : Nat} {t : PdTimer} (h : s.Canon) : (s.startTimer n t).Canon := h.setPort

theorem State.Canon.vconnOff {s : State} {n : Nat} (h : s.Canon) : (s.vconnOff n).Canon := h.setPS

theorem State.Canon.discardCan {s : State} {n : Nat} {bytes : List Byte} (h : s.Canon) : (s.discardCan n bytes).Canon :=
  h.bump.bump.raise

theorem State.Canon.setCan {s : State} {n : Nat} {r : CanRt} (h : s.Canon) : (s.setCan n r).Canon := h.update

theorem State.Canon.discardCpl {s : State} {p : Nat} {bytes : List Byte} (h : s.Canon) : (s.discardCpl p bytes).Canon :=
  h.bump.bump.raise

theorem State.Canon.complete {s : State} {src : Nat} {bytes : List Byte} {worthy : Bool} (h : s.Canon) : (s.complete src bytes
    worthy).Canon :=
  canonIte (canonIte h.bump (canonIte h.hold h.discardCpl)) (canonIte h.setCan (canonIte h.hold h.discardCan))

theorem State.Canon.portEvent {s : State} {n code detail : Nat} {data : List Byte} (h : s.Canon) : (s.portEvent n code detail data).Canon
    :=
  canonIte h.complete h

theorem State.Canon.showArmed {s : State} {n : Nat} (h : s.Canon) : (s.showArmed n).Canon := h.setPS

theorem State.Canon.trigReval {s : State} {code : Nat} (h : s.Canon) : (s.trigReval code).Canon := h.update.setF

theorem State.Canon.stopPortStages {s : State} {n : Nat} (h : s.Canon) : (s.stopPortStages n).Canon :=
  h.foldl (fun _ _ h0 => (canonIte h0.stopStage h0).wrN)

theorem State.Canon.noteIdle {s : State} {src : IdleSrc} (h : s.Canon) : (s.noteIdle src).Canon := canonIte h.update h

theorem State.Canon.setSupState {s : State} {x st : Nat} (h : s.Canon) : (s.setSupState x st).Canon :=
  canonIte ((canonIte h h.noteIdle).setF) h.setF

theorem State.Canon.setSupply {s : State} {n : Nat} {r : SupplyRt} (h : s.Canon) : (s.setSupply n r).Canon := h.update

theorem State.Canon.startQualify {s : State} {x : Nat} (h : s.Canon) : (s.startQualify x).Canon := canonIte h.setSupState.setSupply h

theorem State.Canon.needContract {s : State} {x : Nat} (h : s.Canon) : (s.needContract x).Canon := canonIte h.setPort h

theorem State.Canon.setRank {s : State} {n rank weight : Nat} (h : s.Canon) : (s.setRank n rank weight).Canon := h.setStage

theorem State.Canon.rankPacks {s : State} {r base : Nat} {ceil : Nat → Nat → Nat} (h : s.Canon) : (s.rankPacks r base ceil).Canon := by
  simp only [State.rankPacks]
  exact canonIte (h.foldl (fun _ _ h0 => (by
      split
      · exact h0
      · exact h0.setRank))) (h.foldl (fun _ _ h1 => (by
      split
      · exact h1
      · exact h1.setRank)))

theorem State.Canon.fillHand {s : State} {r : Nat} (h : s.Canon) : (s.fillHand r).Canon := by
  simp only [State.fillHand]
  exact (h.foldl (fun _ _ h0 => (by
      split
      · exact h0
      · exact h0.setStage.wrN))).rankPacks

theorem State.Canon.showCounter {s : State} {k : Nat} (h : s.Canon) : (s.showCounter k).Canon := h.wrN.setF

theorem State.Canon.incCounter {s : State} {k : Nat} (h : s.Canon) : (s.incCounter k).Canon :=
  bindCanon h.setCounter fun h0 => (canonIte h0.commitCounter h0).wearCounter.showCounter

theorem State.Canon.setXfer {s : State} {n : Nat} {r : XferRt} (h : s.Canon) : (s.setXfer n r).Canon := h.update

theorem State.Canon.handRail {s : State} {x r : Nat} (h : s.Canon) : (s.handRail x r).Canon :=
  bindCanon (canonIte h.setXfer.setF h.setXfer.setF.wr64.incCounter).fillHand fun h3 => canonIte h3.raise h3

theorem State.Canon.handOver {s : State} {x : Nat} {openSwitch : Bool} (h : s.Canon) : (s.handOver x openSwitch).Canon := by
  simp only [State.handOver]
  exact bindCanon (h.foldl (fun _ _ h0 => canonIte h0.stopStage.wrN h0.wrN)) fun h1 => ((canonIte ((by
      split
      · exact h1.openSwitch.setPsw
      · exact h1)) h1).foldl (fun _ _ h3 => h3.handRail)).trigReval

theorem State.Canon.loseSupply {s : State} {x st : Nat} {openSwitch : Bool} (h : s.Canon) : (s.loseSupply x st openSwitch).Canon := by
  simp only [State.loseSupply]
  exact canonIte (bindCanon h.setSupState.needContract.handOver fun h0 => canonIte h0.raise h0) (canonIte (bindCanon
      h.setSupState.setSupply fun h1 => (State.Canon.startQualify (by
      split
      · exact canonIte h1.openSwitch h1
      · exact h1))) h)

theorem State.Canon.portDrop {s : State} {n : Nat} {openSw dis : Bool} (h : s.Canon) : (s.portDrop n openSw dis).Canon := by
  simp only [State.portDrop]
  exact bindCanon (canonIte h h.loseSupply).stopPortStages fun h1 => bindCanon (canonIte ((by
      split
      · exact h1.openSwitch.setPsw
      · exact h1)) h1).setPS.setPS.wrN.wrN.setPort.showArmed.trigReval fun h6 => canonIte h6.portEvent h6

theorem State.Canon.enterErrorRecovery {s : State} {n : Nat} (h : s.Canon) : (s.enterErrorRecovery n).Canon :=
  h.portDrop.vconnOff.setPort.setPS.startTimer.setPS.setPe

theorem State.Canon.refillHands {s : State} (h : s.Canon) : s.refillHands.Canon := h.each (fun _ _ h0 => canonIte h0.fillHand h0)

theorem State.Canon.forceOpen {s : State} {w : Nat} (h : s.Canon) : (s.forceOpen w).Canon := h.openSwitch.setPsw.refillHands.trigReval

theorem State.Canon.setChState {s : State} {i st : Nat} (h : s.Canon) : (s.setChState i st).Canon := h.setF

theorem State.Canon.leaveCharging {s : State} {i st : Nat} (h : s.Canon) : (s.leaveCharging i st).Canon := h.setChState.setF.setPack

theorem State.Canon.releaseClaims {s : State} {p : Slot} (h : s.Canon) : (s.releaseClaims p).Canon := canonIte h.update h.update

theorem State.Canon.setCoord {s : State} {n : Nat} {r : CoordRt} (h : s.Canon) : (s.setCoord n r).Canon := h.update

theorem State.Canon.showBusy {s : State} (h : s.Canon) : s.showBusy.Canon :=
  h.each (fun _ _ h0 => canonIte h0.setF.setF.setCoord h0.setF)

theorem State.Canon.planShown {s : State} (h : s.Canon) : s.planShown.Canon := h.setF.showBusy

theorem State.Canon.bbBreach {s : State} {domain : Nat} {body : List Byte} (h : s.Canon) : (s.bbBreach domain body).Canon := h.update

theorem State.Canon.endSlot {s : State} {k : Nat} {p : Slot} {status code : Nat} (h : s.Canon) : (s.endSlot k p status code).Canon :=
  bindCanon h.complete fun h0 => (canonIte h0.wrN.bbBreach.incCounter h0).update.releaseClaims.planShown

theorem State.Canon.breachSlot {s : State} {k : Nat} {p : Slot} {code : Nat} (h : s.Canon) : (s.breachSlot k p code).Canon :=
  canonIte h.endSlot h.endSlot

theorem State.Canon.endChargeLocked {s : State} {i : Nat} (h : s.Canon) : (s.endChargeLocked i).Canon :=
  h.foldl (fun _ _ h0 => h0.breachSlot)

theorem State.Canon.showRefs {s : State} {i : Nat} (h : s.Canon) : (s.showRefs i).Canon := h.setF.setF

theorem State.Canon.lockCharge {s : State} {i : Nat} (h : s.Canon) : (s.lockCharge i).Canon :=
  canonIte h h.leaveCharging.endChargeLocked.showRefs

theorem State.Canon.tripStage {s : State} {n : Nat} (h : s.Canon) : (s.tripStage n).Canon := canonIte h.stopStage.trigReval h

theorem State.Canon.holdUnit {s : State} {id inst : Nat} (h : s.Canon) : (s.holdUnit id inst).Canon := by
  simp only [State.holdUnit]
  exact bindCanon (h.foldl (fun _ _ h0 => h0.tripStage)) fun h1 => bindCanon (canonIte h1.trigReval h1) fun h2 => canonIte h2.lockCharge
      (canonIte ((by
      split
      · exact h2.forceOpen
      · exact h2)) (canonIte h2.loseSupply (canonIte h2.forceOpen (canonIte h2.enterErrorRecovery ((by
      split
      · exact canonIte h2.setPairState h2
      · exact h2))))))

theorem State.Canon.rehold {s : State} {id inst : Nat} {old : HrwInst} (h : s.Canon) : (s.rehold id inst old).Canon :=
  canonIte h (canonIte h.holdUnit h.freeSeries.holdUnit)

theorem State.Canon.bbQueue {s : State} {kind sub : Nat} {body : List Byte} (h : s.Canon) : (s.bbQueue kind sub body).Canon :=
  canonIte h.update h.update.bump.raise

theorem State.Canon.endAllSafe {s : State} (h : s.Canon) : s.endAllSafe.Canon := h.foldl (fun _ _ h0 => h0.breachSlot)

theorem State.Canon.dropHandover {s : State} {r : Nat} (h : s.Canon) : (s.dropHandover r).Canon := canonIte h.setXfer.setF h.setXfer

theorem State.Canon.egressOpen {s : State} (h : s.Canon) : s.egressOpen.Canon :=
  h.each (fun _ _ h0 => canonIte (canonIte h0.setPsw h0) h0.openSwitch)

theorem State.Canon.safeAction {s : State} {id inst : Nat} (h : s.Canon) : (s.safeAction id inst).Canon :=
  ((h.update.each (fun _ _ h1 => h1.stopStage)).egressOpen.each (fun _ _ h4 => h4.dropHandover)).setF.endAllSafe.bbQueue.incCounter

theorem State.Canon.setHrw {s : State} {id inst : Nat} {r : HrwInst} (h : s.Canon) : (s.setHrw id inst r).Canon := h.update

theorem State.Canon.hrwActions {s : State} {id inst cls entered : Nat} {record : List Byte} {lockout : Bool} (h : s.Canon) :
    (s.hrwActions id inst cls entered record lockout).Canon :=
  bindCanon (canonIte h.event.setGlb h) fun h0 => canonIte h0.bbQueue h0

theorem State.Canon.noteEvent {s : State} {src sel : Nat} (h : s.Canon) : (s.noteEvent src sel).Canon := h.update

theorem State.Canon.report {s : State} {id inst : Nat} {record : List Byte} (h : s.Canon) : (s.report id inst record).Canon := by
  simp only [State.report]
  exact canonIte h (bindCanon h.setF.setF fun h0 => bindCanon (canonIte h0.noteEvent h0) fun h1 => bindCanon (canonIte h1.noteIdle h1)
      fun h2 => (by
      split
      · exact canonIte h2.setHrw.hrwActions (canonIte (bindCanon h2.setHrw.hrwActions fun h3 => canonIte h3 h3.safeAction) (bindCanon
          h2.setHrw.hrwActions fun h4 => canonIte h4 h4.holdUnit))
      · exact canonIte (bindCanon h2.setHrw.hrwActions fun h5 => canonIte h5 h5.safeAction) h2.setHrw.rehold
      · exact canonIte (bindCanon h2.setHrw.hrwActions fun h6 => canonIte h6 h6.safeAction) h2.setHrw.rehold
      · exact h2.setHrw
      · exact h2.setHrw))

theorem State.Canon.settleRound {s : State} (h : s.Canon) : s.settleRound.Canon := h.update.foldl (fun _ _ h0 => h0.report)

theorem State.Canon.settleN {s : State} {n : Nat} (h : s.Canon) : (s.settleN n).Canon := by
  induction n generalizing s with
  | zero => exact h.update
  | succ n ih => exact canonIte h (ih h.settleRound)

theorem State.Canon.settle {s : State} (h : s.Canon) : s.settle.Canon := h.settleN

theorem outNext {s : State} (h : s.Canon) : OutCanon (.next s) := by
  rintro t ⟨⟩
  exact h

theorem outFault {r : Fault} : OutCanon (.fault r) := fun _ h => by cases h

theorem outIte {o o' : Host.Outcome State Fault Refusal} {c : Prop} [Decidable c] (h : OutCanon o) (h' : OutCanon o') :
    OutCanon (if c then o else o') := by
  split
  · exact h
  · exact h'

theorem State.Canon.act {s : State} {g : State → State} (h : s.Canon) (hg : ∀ u, u.Canon → (g u).Canon) : OutCanon (s.act g) :=
  outIte (outNext (hg s h).settle) (outNext h)

theorem execMailboxRequest_wf {m : Mailbox} {s : State} (h : s.Canon) : OutCanon (execMailboxRequest m s) := by
  simp only [execMailboxRequest]
  exact h.act (fun _ h0 => canonIte h0 ((by
      split
      · exact bindCanon h0.commitEnv fun h1 => canonIte h1 h1.raise
      · exact bindCanon h0.requestShip fun h2 => canonIte h2 h2.raise
      · exact h0.raise
      · exact h0.raise
      · exact h0.raise
      · exact h0.raise
      · exact h0.raise)))

theorem State.Canon.captureGpt {s : State} {m : Nat} (h : s.Canon) : (s.captureGpt m).Canon :=
  bindCanon (canonIte h.wrN.wrN h.wrN) fun h1 => canonIte h1.hwSet h1.setF

theorem State.Canon.captureCoord {s : State} {n : Nat} (h : s.Canon) : (s.captureCoord n).Canon :=
  canonIte h.wr64.hwSet.raise h.wr64.setF

theorem State.Canon.strobe {s : State} {src sel : Nat} (h : s.Canon) : (s.strobe src sel).Canon :=
  (h.noteEvent.each (fun _ _ h0 => canonIte h0.captureCoord h0)).each (fun _ _ h2 => canonIte h2.captureGpt h2)

theorem State.Canon.pbPressed {s : State} (h : s.Canon) : s.pbPressed.Canon := h.update

theorem execPbMainPress_wf {s : State} (h : s.Canon) : OutCanon (execPbMainPress s) := h.pbPressed.act (fun _ h0 => h0.strobe)

theorem State.Canon.fireCmp {s : State} {n k : Nat} (h : s.Canon) : (s.fireCmp n k).Canon :=
  bindCanon h.hwSet.noteIdle fun h0 => bindCanon (canonIte h0.wr64.setF h0.wr64) fun h2 => (canonIte h2.event h2).strobe

theorem execCompareInterpolationMatch_wf {mains : Bool} {k : Fin 4} {s : State} (h : s.Canon) : OutCanon (execCompareInterpolationMatch
    mains k s) :=
  h.act (fun _ h0 => canonIte h0.fireCmp h0)

theorem execLinkUp_wf {gen : Fin 4} {width : Fin 3} {s : State} (h : s.Canon) : OutCanon (execLinkUp gen width s) :=
  h.act (fun _ h0 => canonIte h0 h0.setF.setF.setF)

theorem execMemEccError_wf {mem : Fin 6} {twoBits : Bool} {off : Nat} {s : State} (h : s.Canon) : OutCanon (execMemEccError mem twoBits
    off s) :=
  h.act (fun _ h0 => canonIte h0 (bindCanon (canonIte h0.setF.hwSet h0) fun h1 => canonIte h1.raise h1.raise))

theorem State.Canon.lockUnit {s : State} {id inst : Nat} (h : s.Canon) : (s.lockUnit id inst).Canon :=
  h.foldl (fun _ _ h0 => canonIte h0.setStageState h0)

theorem State.Canon.passOn {s : State} {id inst : Nat} (h : s.Canon) : (s.passOn id inst).Canon :=
  canonIte h (canonIte h.setHrw (canonIte h.setHrw h.setHrw.lockUnit))

theorem State.Canon.causeGone {s : State} {id inst : Nat} (h : s.Canon) : (s.causeGone id inst).Canon :=
  canonIte h.setHrw h.setHrw.passOn

theorem execDieTemp_wf {t : Int} {s : State} (h : s.Canon) : OutCanon (execDieTemp t s) :=
  h.act (fun _ h0 => bindCanon (canonIte h0.update.raise h0.update) fun h2 => bindCanon (canonIte h2.raise h2) fun h3 => bindCanon
      (canonIte h3.causeGone h3) fun h4 => canonIte h4.causeGone h4)

theorem execBiasFault_wf {core : Bool} {mv : Nat} {s : State} (h : s.Canon) : OutCanon (execBiasFault core mv s) :=
  h.act (fun _ h0 => h0.update.raise)

theorem execPllUnlock_wf {pllB : Bool} {s : State} (h : s.Canon) : OutCanon (execPllUnlock pllB s) :=
  h.act (fun _ h0 => canonIte h0.setF.raise h0.setF.raise)

theorem execClkAonFail_wf {s : State} (h : s.Canon) : OutCanon (execClkAonFail s) :=
  h.act (fun _ h0 => canonIte h0 h0.setF.setF.setF.raise)

theorem execClkRefReturn_wf {s : State} (h : s.Canon) : OutCanon (execClkRefReturn s) :=
  h.act (fun _ h0 => canonIte h0 h0.update.setF.setF.setF.causeGone)

theorem execClkRefFail_wf {s : State} (h : s.Canon) : OutCanon (execClkRefFail s) :=
  h.act (fun _ h0 => canonIte h0 h0.update.setF.setF.setF.raise)

theorem State.Canon.noteWake {s : State} {v : Nat} (h : s.Canon) : (s.noteWake v).Canon := canonIte h.hwSet h

theorem State.Canon.setSpare {s : State} {b : FwBank} (h : s.Canon) : (s.setSpare b).Canon := canonIte h.update h.update

theorem State.Canon.bbFirmware {s : State} {sub version : Nat} (h : s.Canon) : (s.bbFirmware sub version).Canon := h.bbQueue

theorem State.Canon.dropSet {s : State} {set : Nat} (h : s.Canon) : (s.dropSet set).Canon := h.each (fun _ _ h0 => h0.erasePage)

theorem State.Canon.fallMarks {s : State} (h : s.Canon) : s.fallMarks.Canon := (canonIte h.dropSet h).bbFirmware.setSpare.update.raise

theorem State.Canon.romTrial {s : State} {c : Nat} (h : s.Canon) : (s.romTrial c).Canon :=
  canonIte h.setSpare.update (canonIte (canonIte h.update h.fallMarks) h)

theorem State.Canon.restartFar {s : State} {n : Nat} (h : s.Canon) : (s.restartFar n).Canon := h.setCoord

theorem State.Canon.clearXlt {s : State} (h : s.Canon) : s.clearXlt.Canon := h.foldl (fun _ _ h0 => canonIte h0 h0.setF)

theorem State.Canon.resetFunction {s : State} (h : s.Canon) : s.resetFunction.Canon := h.setF.setF.setF.update.wr.clearXlt

theorem State.Canon.stopBuild {s : State} (h : s.Canon) : s.stopBuild.Canon := canonIte h h.update.update.update

theorem State.Canon.afterReset {s : State} {c aon : Nat} (h : s.Canon) : (s.afterReset c aon).Canon := by
  unfold State.afterReset
  exact bindCanon (h.stopBuild.kept.each fun _ _ hu => hu.setPack) fun hp => bindCanon (canonIte hp.resetFunction.setF hp) fun hq =>
    State.Canon.romTrial (.setF (canonIte (hq.each fun _ _ hu => hu.setF.restartFar) hq))

theorem execFallowWake_wf {src : WakeSrc} {aonPeriods : Nat} {s : State} (h : s.Canon) : OutCanon (execFallowWake src aonPeriods s) := by
  simp only [execFallowWake]
  split
  · exact outIte (outNext ((canonIte h.pbPressed h).afterReset).noteWake.settle) (outNext h)
  · exact outNext h
  · exact outNext h
  · exact outNext h

theorem execIdleWake_wf {src : IdleSrc} {s : State} (h : s.Canon) : OutCanon (execIdleWake src s) :=
  h.act (fun _ h0 => canonIte h0 h0.noteWake.setF.update.setF.powerEvent)

theorem State.Canon.enterIdle {s : State} (h : s.Canon) : s.enterIdle.Canon :=
  (h.setF.powerEvent.stopAll.each (fun _ _ h2 => canonIte h2.openSwitch h2)).update

theorem State.Canon.setPos {s : State} {n v : Nat} (h : s.Canon) : (s.setPos n v).Canon := h.wr64

theorem State.Canon.enterFallow {s : State} (h : s.Canon) : s.enterFallow.Canon :=
  h.setF.powerEvent.setPos.stopAll.openAll.flushCounters.bbFlush.update

theorem State.Canon.requestRest {s : State} {fallow : Bool} (h : s.Canon) : (s.requestRest fallow).Canon :=
  canonIte h (canonIte h.setF (canonIte h.setF.enterFallow h.setF.enterIdle))

theorem execPwrReqFallow_wf {p : Path} {s : State} (h : s.Canon) : OutCanon (execPwrReqFallow p s) := h.act (fun _ h0 => h0.requestRest)

theorem execPwrReqIdle_wf {p : Path} {s : State} (h : s.Canon) : OutCanon (execPwrReqIdle p s) := h.act (fun _ h0 => h0.requestRest)

theorem execBrownout_wf {s : State} (h : s.Canon) : OutCanon (execBrownout s) := by
  simp only [execBrownout]
  split
  · exact outNext h.afterReset.settle
  · exact outNext h
  · exact outNext h
  · exact outNext h

theorem State.Canon.halfGroup {s : State} {g : Nat} (h : s.Canon) : (s.halfGroup g).Canon :=
  canonIte h.update.setNvmGroup h.update.clearGroup

theorem State.Canon.nvmAbort {s : State} {x : NvmOp} (h : s.Canon) : (s.nvmAbort x).Canon := by
  simp only [State.nvmAbort]
  split
  · exact h.each (fun _ _ h0 => canonIte h0.update h0.update.halfGroup)
  · exact h.halfGroup

theorem State.Canon.loadReg {s : State} {off : Nat} {v : Word} (h : s.Canon) : (s.loadReg off v).Canon := h.wr

theorem State.Canon.loadRegs {s : State} {data : List Byte} {rs : List Nat} {k : Nat} (h : s.Canon) : (s.loadRegs data rs k).Canon := by
  induction rs generalizing s k with
  | nil => exact h
  | cons r rs ih => exact canonIte (ih h.loadReg) h

theorem State.Canon.commitFabric {s : State} (h : s.Canon) : s.commitFabric.Canon :=
  canonIte h (canonIte h.setF.setF ((h.update.each (fun _ _ h1 => h1.stopStage)).setF))

theorem State.Canon.closeSwitch {s : State} {w : Nat} (h : s.Canon) : (s.closeSwitch w).Canon := canonIte h h.setF.setF.setPsw

theorem State.Canon.egressClose {s : State} (h : s.Canon) : s.egressClose.Canon := h.each (fun _ _ h0 => canonIte h0.closeSwitch h0)

theorem State.Canon.startIdent {s : State} {n : Nat} (h : s.Canon) : (s.startIdent n).Canon := canonIte h.setStageState h

theorem State.Canon.setFab {s : State} {st err idx : Nat} (h : s.Canon) : (s.setFab st err idx).Canon := h.setF.setF.setF

theorem State.Canon.finishFabric {s : State} (h : s.Canon) : s.finishFabric.Canon := by
  simp only [State.finishFabric]
  exact canonIte h ((by
      split
      · exact bindCanon (h.update.setFab.setF.causeGone.each (fun _ _ h3 => h3.startIdent)) fun h4 => (canonIte h4.egressOpen.egressClose
          h4).each (fun _ _ h6 => h6.startQualify)
      · exact h.update.setFab.raise))

theorem State.Canon.dmaLog {s : State} {op pair index addr done kind : Nat} (h : s.Canon) : (s.dmaLog op pair index addr done kind).Canon
    :=
  bindCanon h.wrN.wr64.wrN fun h0 => (canonIte h0.setF.hwSet h0.setF).bump.raise

theorem State.Canon.bufRead {s : State} {c : Ctl} {v len : Nat} {r : DmaRead} {g : List Byte → State → Option (State × CtlRes)} (h :
    s.Canon) (hg0 : ∀ x0 x1, x1.Canon → ∀ t ∈ (g x0 x1), t.1.Canon) : ∀ t ∈ s.bufRead c v len r g, t.1.Canon := by
  simp only [State.bufRead]
  split
  · exact hg0 _ _ h
  · split
    · exact inNone
    · split
      · exact hg0 _ _ h
      · exact inSome h.dmaLog
      · split
        · exact inSome h.dmaLog
        · exact inNone
      · exact inNone

theorem State.Canon.cutCommand {s : State} {p : Nat} {buf : DmaRead} (h : s.Canon) : ∀ t ∈ s.cutCommand p buf, t.2.Canon := by
  unfold State.cutCommand
  split
  · exact inNone
  · dsimp only
    split
    · exact inNone
    · split
      · split
        · exact inNone
        · split
          · next t res heq =>
            have ht : t.Canon := (h.bufRead fun _ _ hu => inSome hu) _ heq
            split
            · exact inNone
            · generalize hv : (if leAt _ 8 2 = 0x0100 then State.finishFabric _ else t) = v
              have hvc : v.Canon := hv ▸ canonIte ht.loadRegs.commitFabric.finishFabric ht
              split
              · exact inNone
              · split
                · exact inNone
                · exact inSome (canonIte hvc.update hvc)
          · exact inNone
      · split
        · split
          · exact inNone
          · split
            · next t res heq =>
              have ht : t.Canon := (h.bufRead fun _ _ hu => inSome hu) _ heq
              split
              · exact inNone
              · exact inSome ht
            · exact inNone
        · exact inNone

theorem State.Canon.cutOps {s : State} {w : NvmCut} (h : s.Canon) : ∀ t ∈ s.cutOps w, t.2.2.Canon := by
  cases w with
  | idle => exact inNone
  | command p buf k => exact inMap fun x hx => h.cutCommand x hx
  | health i mv k =>
    simp only [State.cutOps]
    split
    · exact inSome (h.planRecord (data := s.healthData i mv))
    · exact inNone
  | reerase p =>
    simp only [State.cutOps]
    split
    · exact inSome h
    · exact inNone
  | append k => exact inNone

theorem State.Canon.bbCut {s : State} {r : BbRec} {k : Nat} (h : s.Canon) : (s.bbCut r k).2.Canon := by
  simp only [State.bbCut]
  exact bindCanon (h.foldl (fun _ _ h0 => h0.nvmDo)) fun h1 => (by
      split
      · exact h1.nvmAbort.bbTaken (fun _ h2 => h2)
      · exact canonIteSnd (h1.bbNewest.bbTaken (fun _ h3 => h3.nvmAbort)) h.bbAppendRec)

theorem State.Canon.cutPower {s : State} {w : NvmCut} (h : s.Canon) : (s.cutPower w).2.Canon := by
  simp only [State.cutPower]
  split
  · exact canonIteSnd h ((by
      split
      · next heq =>
        exact (h.bbWaiting _ heq).bbCut
      · exact h))
  · split
    · exact h
    · next heq =>
      exact bindCanon ((h.cutOps _ heq).foldl (fun _ _ h2 => h2.nvmDo)) fun h3 => (by
        split
        · exact h3.nvmAbort
        · exact h3)

theorem State.Canon.lastGasp {s : State} {aborted : List Byte} (h : s.Canon) : (s.lastGasp aborted).Canon :=
  canonIte h.update h.update.bbAppendRec

theorem State.Canon.powerFail {s : State} {aborted : List Byte} (h : s.Canon) : (s.powerFail aborted).Canon :=
  ((h.each (fun _ _ h0 => h0.stopStage)).update.raise.settle.lastGasp.openAll.each (fun _ _ h4 => h4.setPort)).update

theorem execPowerFailWarn_wf {w : NvmCut} {s : State} (h : s.Canon) : OutCanon (execPowerFailWarn w s) :=
  h.act (fun _ h0 => h0.cutPower.powerFail)

theorem State.Canon.hwDenied {s : State} {p : Path} {off : Nat} {v : Word} (h : s.Canon) : (s.hwDenied p off v).Canon :=
  canonIte h h.raise

theorem execSysReset_wf {p : Path} {s : State} (h : s.Canon) : OutCanon (execSysReset p s) :=
  h.act (fun _ h0 => canonIte h0.afterReset h0.hwDenied)

theorem State.Canon.cutReset {s : State} {w : NvmCut} (h : s.Canon) : (s.cutReset w).Canon := by
  simp only [State.cutReset]
  split
  · exact canonIte h.bbAppendOne h
  · split
    · exact h
    · next heq =>
      exact (h.cutOps _ heq).foldl (fun _ _ h1 => h1.nvmDo)

theorem execNrst_wf {lowNs : Nat} {w : NvmCut} {s : State} (h : s.Canon) : OutCanon (execNrst lowNs w s) :=
  h.act (fun _ h0 => canonIte h0.cutReset.afterReset (canonIte h0 (canonIte h0.update.cutReset.afterReset h0.update)))

theorem execRunReady_wf {s : State} (h : s.Canon) : OutCanon (execRunReady s) := h.act (fun _ h0 => canonIte h0.setF.setF.wrN.update h0)

theorem State.Canon.recallRecord {s : State} {id : Nat} {p : RecPlace} (h : s.Canon) : (s.recallRecord id p).Canon :=
  canonIte h.raise.bbQueue (canonIte h.raise h)

theorem State.Canon.recallCounter {s : State} {k : Nat} (h : s.Canon) : (s.recallCounter k).Canon := h.setCounter.showCounter

theorem State.Canon.queuePage {s : State} {p : Nat} (h : s.Canon) : (s.queuePage p).Canon := canonIte h h.updateNvm.showReerase

theorem State.Canon.readGroup {s : State} {g : Nat} (h : s.Canon) : (s.readGroup g).Canon := by
  simp only [State.readGroup]
  split
  · exact h
  · exact h
  · exact h.bump.raise
  · exact h.bump.raise.queuePage

theorem State.Canon.recallNamed {s : State} {id : Nat} {q : Option RecPlace} (h : s.Canon) :
    State.Canon (match q with | some p => s.recallRecord id p | none => s) := by
  cases q with
  | some p => exact h.recallRecord
  | none => exact h

theorem State.Canon.recallNvm {s : State} (h : s.Canon) : s.recallNvm.Canon := by
  unfold State.recallNvm
  extract_lets c store cleared groups counters named health seq page shown box sys booted status recalled queued
  have hcleared : cleared.Canon := h.updateNvm
  have hgroups : groups.Canon := hcleared.foldl fun _ _ hu => hu.readGroup
  have hcounters : counters.Canon := hgroups.each fun _ _ hu => hu.recallCounter
  have hnamed : named.Canon := hcounters.foldl fun _ _ hu => hu.recallNamed
  have hhealth : health.Canon := hnamed.each fun _ _ hu => hu.recallRecord
  clear_value health
  have hseq : seq.Canon := by
    dsimp only [seq]
    split
    · exact hhealth.wrN
    · exact hhealth
  have hpage : page.Canon := canonIte (hseq.bbClear fun _ hu => hu.erasePage) hseq
  have hshown : shown.Canon := hpage.showOldest
  have hbooted : booted.Canon := hshown.update
  have hqueued : queued.Canon := hbooted.wrN.showReerase.setF.setF.bbQueue
  exact canonIte hqueued.incCounter hqueued

theorem State.Canon.nvmRead {s : State} {a n : Nat} (h : s.Canon) : (s.nvmRead a n).2.2.Canon := h.foldl (fun _ _ h0 => h0.readGroup)

theorem State.Canon.readRecord {s : State} {p : RecPlace} {id : Nat} (h : s.Canon) : ∀ t ∈ s.readRecord p id, t.2.2.Canon := by
  simp only [State.readRecord]
  split
  · exact inNone
  · exact inSome h.nvmRead

theorem State.Canon.loadFabric {s : State} (h : s.Canon) : s.loadFabric.Canon := by
  unfold State.loadFabric
  have hu := h.showFw.loadEnv
  generalize s.showFw.loadEnv = u at hu ⊢
  dsimp only
  split
  · exact hu
  · split
    · next heq => exact (hu.readRecord _ heq).loadRegs.commitFabric.finishFabric
    · exact hu

theorem State.Canon.bootFail {s : State} (h : s.Canon) : s.bootFail.Canon := h.recallNvm.loadFabric.raise.update

theorem State.Canon.recordHealth {s : State} {i : Nat} {b : List Byte} (h : s.Canon) : (s.recordHealth i b).Canon := h.setPack.wrN.setF

theorem State.Canon.unknownHealth {s : State} {i : Nat} (h : s.Canon) : (s.unknownHealth i).Canon := h.setPack.wrN.setF

theorem State.Canon.setERem {s : State} {i e : Nat} (h : s.Canon) : (s.setERem i e).Canon := h.wr64

theorem State.Canon.showEFull {s : State} {i : Nat} (h : s.Canon) : (s.showEFull i).Canon := canonIte h.wr64.update.setF h.wr64.setF

theorem State.Canon.startPack {s : State} {i mv : Nat} (h : s.Canon) : (s.startPack i mv).Canon := by
  simp only [State.startPack]
  exact bindCanon h.showEFull.setPack fun h1 => canonIte h1 ((by
      split
      · exact h1.unknownHealth.setERem
      · exact h1.recordHealth.setERem))

theorem State.Canon.identStage {s : State} {n flt : Nat} {imon : List Nat} (h : s.Canon) : (s.identStage n flt imon).Canon :=
  canonIte (canonIte h.setStageState.setStage h.setStageState.raise) h

theorem State.Canon.loadRecord {s : State} {id : Nat} {regs : List Nat} (h : s.Canon) : (s.loadRecord id regs).Canon := by
  simp only [State.loadRecord]
  split
  · exact h
  · split
    · next heq =>
      exact (h.readRecord _ heq).loadRegs
    · exact h

theorem State.Canon.loadHost {s : State} (h : s.Canon) : s.loadHost.Canon := by
  simp only [State.loadHost]
  split
  · exact h
  · split
    · next heq =>
      exact (h.readRecord _ heq).loadRegs.update
    · exact h.update

theorem State.Canon.portWindows {s : State} {n mv : Nat} (h : s.Canon) : (s.portWindows n mv).Canon := h.setPort

theorem State.Canon.showSupV {s : State} {x mv : Nat} (h : s.Canon) : (s.showSupV x mv).Canon := canonIte h.setF h.setF

theorem State.Canon.setSupV {s : State} {x mv : Nat} (h : s.Canon) : (s.setSupV x mv).Canon :=
  bindCanon h.showSupV fun h0 => (canonIte h0 h0.portWindows).setSupply

theorem State.Canon.setPortFloor {s : State} {n mv : Nat} (h : s.Canon) : (s.setPortFloor n mv).Canon := h.foldl (fun _ _ h0 => h0.setF)

theorem State.Canon.implicitSupply {s : State} {n : Nat} (h : s.Canon) : (s.implicitSupply n).Canon :=
  h.setPort.setPortFloor.startQualify

theorem State.Canon.sinkStart {s : State} {n : Nat} (h : s.Canon) : (s.sinkStart n).Canon :=
  canonIte h.startTimer.setPe h.setPe.implicitSupply

theorem State.Canon.sourceStart {s : State} {n : Nat} (h : s.Canon) : (s.sourceStart n).Canon := h.setPort.setPe

theorem State.Canon.attach {s : State} {n : Nat} {o : AttachObs} (h : s.Canon) : (s.attach n o).Canon :=
  bindCanon h.setSupV.setPort.setPS.noteIdle.setPS.setPS.setPS.setPS.portEvent fun h5 => canonIte h5.sourceStart h5.sinkStart

theorem State.Canon.cfgRefused {s : State} {n : Nat} (h : s.Canon) : (s.cfgRefused n).Canon := h.hwSet

theorem State.Canon.writePortCfg {s : State} {n : Nat} {v : Word} {byHeadland : Bool} (h : s.Canon) : (s.writePortCfg n v
    byHeadland).Canon := by
  simp only [State.writePortCfg]
  exact bindCanon (canonIte h.wr.setF.cfgRefused h.wr) fun h1 => bindCanon (canonIte h1 h1.setPort) fun h2 => bindCanon (canonIte
      (bindCanon h2.setPort fun h3 => (by
      split
      · exact canonIte h3.attach h3.setPS
      · exact h3.setPS)) h2).showArmed fun h5 => canonIte h5.cfgRefused h5

theorem State.Canon.loadPort {s : State} {n : Nat} {data : List Byte} (h : s.Canon) : (s.loadPort n data).Canon :=
  canonIte h h.loadRegs.wr.writePortCfg

theorem State.Canon.startPort {s : State} {n mv : Nat} {cc : Option AttachObs} (h : s.Canon) : (s.startPort n mv cc).Canon := by
  unfold State.startPort
  refine bindCanon (h.setSupV (x := 3 + n) (mv := mv)) fun hv => ?_
  generalize s.setSupV (3 + n) mv = v at hv ⊢
  dsimp only
  split
  · next heq =>
    split at heq
    · have ht := hv.setPort.readRecord _ heq
      exact canonIte ht.writePortCfg ht.loadPort
    · cases heq
  · exact hv.setPort.writePortCfg

theorem State.Canon.clearPhase {s : State} {i : Nat} (h : s.Canon) : (s.clearPhase i).Canon := h.setPack.wrN.setF.setF.setF.setF

theorem State.Canon.secMark {s : State} {i : Nat} (h : s.Canon) : (s.secMark i).Canon := h.setPack

theorem State.Canon.restartPhase {s : State} {i : Nat} (h : s.Canon) : (s.restartPhase i).Canon :=
  (canonIte h.setChState h).setF.clearPhase.secMark

theorem State.Canon.setProfState {s : State} {i st err idx : Nat} (h : s.Canon) : (s.setProfState i st err idx).Canon :=
  h.setF.setF.setF

theorem State.Canon.finishProfile {s : State} {i : Nat} {b : List Byte} (h : s.Canon) : (s.finishProfile i b).Canon := by
  simp only [State.finishProfile]
  split
  · exact bindCanon h.setProfState.setPack fun h0 => bindCanon (canonIte h0 h0.setChState).restartPhase.showRefs.causeGone fun h3 =>
      canonIte h3.raise h3
  · exact h.setProfState.setPack.showRefs.raise

theorem State.Canon.commitProfile {s : State} {i : Nat} {b : List Byte} (h : s.Canon) : (s.commitProfile i b).Canon :=
  canonIte h.setF.setF h.setF.setPack

theorem State.Canon.loadProfile {s : State} {i slot : Nat} (h : s.Canon) : ∀ t ∈ s.loadProfile i slot, t.Canon := by
  simp only [State.loadProfile]
  split
  · exact inNone
  · split
    · exact inNone
    · next heq =>
      exact bindCanon ((h.readRecord _ heq).each (fun _ _ h1 => h1.wrN)).commitProfile fun h3 => (by
        split
        · exact inSome h3
        · split
          · split
            · exact inSome h3.setProfState.setPack
            · exact inSome h3.finishProfile
          · exact inSome h3.finishProfile)

theorem State.Canon.restoreLatch {s : State} {i : Nat} (h : s.Canon) : (s.restoreLatch i).Canon := canonIte h h.wrN.setHrw.lockCharge

theorem State.Canon.loadLoopTable {s : State} {b : List Byte} (h : s.Canon) : (s.loadLoopTable b).Canon := h.update.setF.setF

theorem State.Canon.copySet {s : State} (h : s.Canon) : s.copySet.Canon := by
  simp only [State.copySet]
  exact h.foldl (fun _ _ h0 => (by
      split
      · split
        · next heq =>
          exact (h0.readRecord _ heq).writeRecord
        · exact h0
      · exact h0))

theorem State.Canon.getD {s : State} {o : Option State} (h : s.Canon) (ho : ∀ t ∈ o, t.Canon) : (o.getD s).Canon := by
  cases o with
  | none => exact h
  | some t => exact ho t rfl

theorem State.Canon.startBoard {s : State} {o : StartObs} (h : s.Canon) : (s.startBoard o).Canon := by
  unfold State.startBoard
  extract_lets recalled moved fabric img loops volts profiles ports inputs host supplies idents packs miles status sys
  have hrecalled : recalled.Canon := h.recallNvm
  have hmoved : moved.Canon := canonIte hrecalled.copySet hrecalled
  have hfabric : fabric.Canon := hmoved.loadFabric
  have hloops : loops.Canon := hfabric.loadLoopTable
  have hvolts : volts.Canon := hloops.each fun _ _ hu => hu.setPack
  have hprofiles : profiles.Canon := hvolts.each fun _ _ hu => (hu.getD hu.loadProfile).restoreLatch
  have hports : ports.Canon := hprofiles.each fun _ _ hu => hu.startPort
  have hinputs : inputs.Canon := hports.each fun _ _ hu => hu.setSupV
  have hhost : host.Canon := hinputs.loadRecord.loadHost
  have hsupplies : supplies.Canon := hhost.each fun _ _ hu => hu.startQualify
  have hidents : idents.Canon := hsupplies.each fun _ _ hu => hu.identStage
  have hpacks : packs.Canon := hidents.each fun _ _ hu => hu.startPack
  have hmiles : miles.Canon := hpacks.each fun _ _ hu => hu.wrN
  have hstatus : status.Canon := hmiles.setF.setF
  exact hstatus.update

theorem State.Canon.buildFailed {s : State} {code : Nat} (h : s.Canon) : (s.buildFailed code).Canon := h.update.showFw.raise

theorem State.Canon.finishDebug {s : State} (h : s.Canon) : s.finishDebug.Canon :=
  (canonIte h.update.wrN.buildFailed h.update.wrN).showFw.setF

theorem State.Canon.startClocks {s : State} (h : s.Canon) : s.startClocks.Canon :=
  bindCanon h.setF.setF.setF.setF.setF.setF.setF fun h2 => canonIte h2.setF.raise h2.setF

theorem State.Canon.startUp {s : State} {o : StartObs} (h : s.Canon) : (s.startUp o).Canon :=
  bindCanon h.startClocks fun h0 => bindCanon (canonIte h0.finishDebug h0) fun h1 => canonIte h1.startBoard (canonIte
      h1.update.setF.raise.startBoard h1.bootFail)

theorem execColdStart_wf {o : StartObs} {s : State} (h : s.Canon) : OutCanon (execColdStart o s) := by
  simp only [execColdStart]
  split
  · exact outNext h
  · exact outNext (((canonIte h h.afterReset).startUp).settle)
  · exact outNext h.afterReset.startUp.settle
  · exact outNext h.afterReset.startUp.settle

theorem execWdtGraceEnd_wf {w : NvmCut} {s : State} (h : s.Canon) : OutCanon (execWdtGraceEnd w s) :=
  h.act (fun _ h0 => canonIte h0.cutReset.afterReset h0)

theorem State.Canon.wdtExpire {s : State} {cause : Nat} {record : List Byte} (h : s.Canon) : (s.wdtExpire cause record).Canon :=
  canonIte h.setHrw h.setF.setF.update.emit.raise

theorem execWdtClockLoss_wf {s : State} (h : s.Canon) : OutCanon (execWdtClockLoss s) := h.act (fun _ h0 => canonIte h0.wdtExpire h0)

theorem execWdtWindowExpiry_wf {s : State} (h : s.Canon) : OutCanon (execWdtWindowExpiry s) :=
  h.act (fun _ h0 => canonIte h0.wdtExpire h0)

theorem State.Canon.wdtCheck {s : State} {p : Path} {v : Word} (h : s.Canon) : (s.wdtCheck p v).Canon :=
  canonIte h (canonIte h.wr (bindCanon h.hwSet.bump fun h0 => canonIte h0.wdtExpire h0))

theorem execWdtCheckin_wf {p : Path} {v : Word} {s : State} (h : s.Canon) : OutCanon (execWdtCheckin p v s) :=
  h.act (fun _ h0 => h0.wdtCheck)

theorem State.Canon.wdtServe {s : State} {v : Word} (h : s.Canon) : (s.wdtServe v).Canon :=
  canonIte h (canonIte h.wdtExpire (canonIte h.wdtExpire (canonIte h.wdtExpire h.update.setF)))

theorem execWdtService_wf {p : Path} {v : Word} {s : State} (h : s.Canon) : OutCanon (execWdtService p v s) :=
  h.act (fun _ h0 => canonIte h0.wdtServe h0.raise)

theorem State.Canon.writeInject {s : State} {p : Path} {v : Word} (h : s.Canon) : (s.writeInject p v).Canon :=
  bindCanon h.loadReg.wr fun h0 => canonIte h0 (canonIte h0.hwSet h0.update.setF)

theorem execHrwInjectArm_wf {p : Path} {v : Word} {s : State} (h : s.Canon) : OutCanon (execHrwInjectArm p v s) :=
  h.act (fun _ h0 => h0.writeInject)

theorem execEgressTieRelease_wf {w : Fin 12} {s : State} (h : s.Canon) : OutCanon (execEgressTieRelease w s) :=
  h.act (fun _ h0 => canonIte h0.openSwitch.update h0)

theorem execSafeReq_wf {p : Path} {s : State} (h : s.Canon) : OutCanon (execSafeReq p s) := h.act (fun _ h0 => h0.raise)

theorem State.Canon.enterUnattached {s : State} {n : Nat} (h : s.Canon) : (s.enterUnattached n).Canon :=
  bindCanon h.noteIdle.setPS.setPS.setPort.loadPort.setPS.setPS.setPS.setPS.setPS.setPS.vconnOff fun h5 => (canonIte h5.setPS
      h5).wrN.setSupState.setSupply

theorem State.Canon.supRecover {s : State} {x : Nat} (h : s.Canon) : (s.supRecover x).Canon := canonIte h.setSupState.startQualify h

theorem State.Canon.unlockCharge {s : State} {i : Nat} (h : s.Canon) : (s.unlockCharge i).Canon :=
  canonIte h.setChState.restartPhase.showRefs h

theorem State.Canon.releaseUnit {s : State} {id inst : Nat} {cpl : HrwInst} (h : s.Canon) : (s.releaseUnit id inst cpl).Canon := by
  simp only [State.releaseUnit]
  exact bindCanon (h.foldl (fun _ _ h0 => canonIte h0.setStageState (canonIte h0.setStageState h0))) fun h1 => canonIte
      h1.freeSeries.unlockCharge (canonIte h1.unlockCharge (canonIte h1.freeSeries (canonIte h1.supRecover (canonIte (bindCanon (canonIte
      h1 h1.setPsw) fun h2 => (by
      split
      · exact h2.supRecover
      · exact h2)) (canonIte (h1.each (fun _ _ h3 => h3.startIdent)) (canonIte (canonIte h1.enterUnattached h1) h1))))))

theorem State.Canon.safeLift {s : State} (h : s.Canon) : s.safeLift.Canon :=
  (((h.update.setF.each (fun _ _ h2 => h2.stopStage.startIdent)).each (fun _ _ h4 => h4.setPsw)).each (fun _ _ h6 => canonIte
      h6.openSwitch h6)).update

theorem State.Canon.startClosing {s : State} {x : Nat} (h : s.Canon) : (s.startClosing x).Canon := by
  simp only [State.startClosing]
  split
  · exact canonIte h.setSupply h.setSupState.setSupply.closeSwitch.setPsw
  · exact h

theorem State.Canon.releaseSupplies {s : State} (h : s.Canon) : s.releaseSupplies.Canon :=
  canonIte h (h.each (fun _ _ h0 => canonIte h0.startClosing h0))

theorem State.Canon.emptyLatch {s : State} {i : Nat} (h : s.Canon) : (s.emptyLatch i).Canon := h.wrN.update

theorem State.Canon.softClear {s : State} {id inst : Nat} (h : s.Canon) : (s.softClear id inst).1.Canon := by
  unfold State.softClear
  extract_lets c was cleared emptied
  have hcleared : cleared.Canon := h.setHrw
  have hemptied : emptied.Canon := canonIte hcleared.emptyLatch hcleared
  clear_value emptied
  clear hcleared
  split
  · exact h.hwSet
  split
  · exact h
  split
  · split
    · exact hemptied
    · dsimp only
      exact hemptied.safeLift.releaseSupplies
  · exact hemptied.releaseUnit

theorem State.Canon.clearFault {s : State} {id inst : Nat} (h : s.Canon) : (s.clearFault id inst).1.Canon := h.softClear.setF

theorem execHrwClear_wf {p : Path} {v : Word} {s : State} (h : s.Canon) : OutCanon (execHrwClear p v s) :=
  h.act (fun _ h0 => h0.clearFault)

theorem State.Canon.quietEnd {s : State} {id inst : Nat} (h : s.Canon) : (s.quietEnd id inst).Canon :=
  canonIte (canonIte h.setHrw.releaseUnit h.setHrw.lockUnit.hrwActions) h

theorem execQuietExpiry_wf {id : Fin 256} {inst : Fin 16} {s : State} (h : s.Canon) : OutCanon (execQuietExpiry id inst s) :=
  h.act (fun _ h0 => h0.quietEnd)

theorem execFaultCauseGone_wf {id : Fin 256} {inst : Fin 16} {s : State} (h : s.Canon) : OutCanon (execFaultCauseGone id inst s) :=
  h.act (fun _ h0 => (canonIte h0.setF (canonIte h0.setF h0)).causeGone)

theorem execEgressClose_wf {s : State} (h : s.Canon) : OutCanon (execEgressClose s) := h.act (fun _ h0 => canonIte h0.egressClose h0)

theorem execFaultReport_wf {id : Fin 256} {inst : Fin 16} {record : List Byte} {s : State} (h : s.Canon) : OutCanon (execFaultReport id
    inst record s) :=
  h.act (fun _ h0 => (canonIte h0.bump h0).raise)

theorem execInc_wf {p : Path} {k : Fin 32} {s : State} (h : s.Canon) : OutCanon (execInc p k s) :=
  h.act (fun _ h0 => canonIte h0.incCounter h0)

theorem execNvmCntFlush_wf {p : Path} {s : State} (h : s.Canon) : OutCanon (execNvmCntFlush p s) :=
  h.act (fun _ h0 => canonIte h0.flushCounters h0)

theorem execNvmReerase_wf {page : Fin 2048} {s : State} (h : s.Canon) : OutCanon (execNvmReerase page s) :=
  h.act (fun _ h0 => canonIte h0.erasePage h0)

theorem execBbAppend_wf {s : State} (h : s.Canon) : OutCanon (execBbAppend s) := h.act (fun _ h0 => canonIte h0.bbAppendOne h0)

theorem execDbgOpen_wf {s : State} (h : s.Canon) : OutCanon (execDbgOpen s) :=
  h.act (fun _ h0 => canonIte h0 h0.raise.bbAppendRec.raise.update.showFw)

theorem execTrialExpiry_wf {s : State} (h : s.Canon) : OutCanon (execTrialExpiry s) := h.act (fun _ h0 => canonIte h0.afterReset h0)

theorem State.Canon.confirmTrial {s : State} {p : Path} (h : s.Canon) : (s.confirmTrial p).Canon :=
  canonIte h (bindCanon h.bbFirmware fun h0 => (canonIte h0.dropSet h0).update.setF.showFw)

theorem execConfirm_wf {p : Path} {s : State} (h : s.Canon) : OutCanon (execConfirm p s) := h.act (fun _ h0 => h0.confirmTrial)

theorem State.Canon.abandonUpdate {s : State} (h : s.Canon) : s.abandonUpdate.Canon :=
  canonIte h ((canonIte h.update.setSpare h).update.showFw)

theorem execAbandon_wf {p : Path} {s : State} (h : s.Canon) : OutCanon (execAbandon p s) := h.act (fun _ h0 => h0.abandonUpdate)

theorem State.Canon.activateBank {s : State} (h : s.Canon) : s.activateBank.Canon :=
  canonIte h (canonIte h.hwSet (bindCanon h.bbFirmware.setSpare fun h1 => canonIte h1.update.showFw h1.update.bbFlush.afterReset))

theorem execActivate_wf {p : Path} {s : State} (h : s.Canon) : OutCanon (execActivate p s) := h.act (fun _ h0 => h0.activateBank)

theorem execFwuBuildDone_wf {verifyOk : Bool} {s : State} (h : s.Canon) : OutCanon (execFwuBuildDone verifyOk s) := by
  simp only [execFwuBuildDone]
  exact h.act (fun _ h0 => canonIte h0 ((by
      split
      · exact h0.buildFailed
      · exact h0.setSpare.update.showFw)))

theorem execEnvThresholdMove_wf {s : State} (h : s.Canon) : OutCanon (execEnvThresholdMove s) :=
  h.act (fun _ h0 => canonIte h0.update h0)

theorem State.Canon.tripInto {s : State} {node : Nat} (h : s.Canon) : (s.tripInto node).Canon := h.each (fun _ _ h0 => h0.tripStage)

theorem execEnvelopeRailOv_wf {r : Fin 8} {mv : Nat} {s : State} (h : s.Canon) : OutCanon (execEnvelopeRailOv r mv s) :=
  h.act (fun _ h0 => canonIte h0.tripInto.raise h0)

theorem State.Canon.openSeries {s : State} {node : Nat} (h : s.Canon) : (s.openSeries node).Canon := by
  simp only [State.openSeries]
  split
  · exact h.forceOpen
  · exact h

theorem execEnvelopePackTemp_wf {i : Fin 4} {s : State} (h : s.Canon) : OutCanon (execEnvelopePackTemp i s) := by
  simp only [execEnvelopePackTemp]
  exact h.act (fun _ h0 => bindCanon (canonIte h0.setPack h0) fun h1 => canonIte h1 ((by
      split
      · exact h1.openSeries.raise
      · split
        · exact h1.tripInto.raise
        · exact canonIte h1 h1.causeGone)))

theorem execEnvelopePackOc_wf {i : Fin 4} {ma : Int} {s : State} (h : s.Canon) : OutCanon (execEnvelopePackOc i ma s) :=
  h.act (fun _ h0 => canonIte h0 (canonIte h0.tripInto.raise (canonIte h0.openSeries.raise h0)))

theorem execEnvelopePackOv_wf {i : Fin 4} {mv : Nat} {s : State} (h : s.Canon) : OutCanon (execEnvelopePackOv i mv s) :=
  h.act (fun _ h0 => canonIte h0.tripInto.raise h0)

theorem State.Canon.setGlnState {s : State} {g st : Nat} (h : s.Canon) : (s.setGlnState g st).Canon := h.setF

theorem State.Canon.setGln {s : State} {n : Nat} {r : GlnRt} (h : s.Canon) : (s.setGln n r).Canon := h.update

theorem State.Canon.putGln {s : State} {g : Nat} {r : GlnRt} (h : s.Canon) : (s.putGln g r).Canon := h.setGln.setF.setF

theorem State.Canon.glnCplBuf {s : State} {g : Nat} {b : GlnBuf} {status : Nat} {r : GlnRt} {bytes : Nat} (h : s.Canon) : (s.glnCplBuf g
    b status r bytes).Canon :=
  canonIte h.update.update.update.complete h.complete

theorem State.Canon.glnFinish {s : State} {g status : Nat} (h : s.Canon) : (s.glnFinish g status).Canon := by
  simp only [State.glnFinish]
  split
  · exact h
  · exact bindCanon h.glnCplBuf fun h0 => canonIte h0.putGln.setGlnState.raise h0.putGln

theorem State.Canon.winSet {s : State} {a : Nat} {b : Byte} (h : s.Canon) : (s.winSet a b).Canon := s.wf_winSet a b h

theorem State.Canon.winWrite {s : State} {a : Nat} {bs : List Byte} (h : s.Canon) : (s.winWrite a bs).Canon := State.wf_winWrite bs s a h

theorem State.Canon.dmaWrite {s : State} {d : Nat} {bytes : List Byte} {done fuel : Nat} (h : s.Canon) :
    (s.dmaWrite d bytes done fuel).1.Canon := by
  induction fuel generalizing s d bytes done with
  | zero => exact h
  | succ fuel ih =>
    simp only [State.dmaWrite]
    split
    · exact h
    · split
      · exact h
      · exact ih h.emit
      · split
        · exact h.winWrite
        · exact ih h.winWrite

theorem State.Canon.glnRoll {s : State} (h : s.Canon) : s.glnRoll.Canon := canonIte h h.update

theorem State.Canon.glnPut {s : State} {g : Nat} {bytes : List Byte} {seq time : Nat} (h : s.Canon) : (s.glnPut g bytes seq time).1.Canon
    := by
  simp only [State.glnPut]
  split
  · exact h
  · exact canonIteFst h.winWrite.glnRoll.update.putGln ((by
      split
      · next heq =>
        exact (fstOf h.dmaWrite heq).glnRoll.update.putGln
      · next heq =>
        exact (fstOf h.dmaWrite heq).dmaLog.glnFinish))

theorem State.Canon.glnRoom {s : State} {g len : Nat} (h : s.Canon) : (s.glnRoom g len).Canon := by
  simp only [State.glnRoom]
  split
  · exact canonIte h.glnFinish h
  · exact h

theorem State.Canon.glnGap {s : State} {g : Nat} (h : s.Canon) : (s.glnGap g).1.Canon :=
  canonIteFst h (canonIteFst h.glnRoom (canonIteFst h.glnRoom.glnPut.putGln h.glnRoom.glnPut))

theorem State.Canon.glnLose {s : State} {g seq time why : Nat} (h : s.Canon) : (s.glnLose g seq time why).Canon :=
  canonIte h.bump.putGln h.bump.putGln

theorem State.Canon.glnOffer {s : State} {n : Nat} (h : s.Canon) : (s.glnOffer n).Canon :=
  canonIte h.glnRoll.update.hwSet h.glnRoll.update

theorem State.Canon.glnWrite {s : State} {g : Nat} {rec_ : List Byte} {seq time : Nat} (h : s.Canon) : (s.glnWrite g rec_ seq
    time).1.Canon := by
  simp only [State.glnWrite]
  exact bindCanon h.glnOffer fun h0 => (by
      split
      · exact h0.glnLose
      · exact canonIteFst h0.glnLose (canonIteFst h0.glnGap.glnLose (bindCanon h0.glnGap.glnRoom fun h2 => canonIteFst h2.glnLose
          (canonIteFst h2.glnPut h2.glnPut.glnLose))))

theorem State.Canon.glnFire {s : State} {g : Nat} (h : s.Canon) : (s.glnFire g).Canon :=
  canonIte h (h.setGln.setGlnState.foldl (fun _ _ h1 => canonIte h1.glnWrite h1))

theorem execForce_wf {p : Path} {g : Fin 8} {s : State} (h : s.Canon) : OutCanon (execForce p g s) := h.act (fun _ h0 => h0.glnFire)

theorem State.Canon.glnArm {s : State} {g : Nat} (h : s.Canon) : (s.glnArm g).Canon := canonIte h.setGln.setGlnState h

theorem execArm_wf {p : Path} {g : Fin 8} {s : State} (h : s.Canon) : OutCanon (execArm p g s) := h.act (fun _ h0 => h0.glnArm)

theorem State.Canon.glnStop {s : State} {g : Nat} (h : s.Canon) : (s.glnStop g).Canon := by
  simp only [State.glnStop]
  exact (State.Canon.putGln (by
      split
      · exact h
      · exact h.glnCplBuf.foldl (fun _ _ h1 => h1.glnCplBuf))).setF.setGlnState

theorem State.Canon.writeGln {s : State} {g : Nat} {v : Word} (h : s.Canon) : (s.writeGln g v).Canon :=
  canonIte h.glnStop.loadReg (canonIte h.loadReg (canonIte h.loadReg.wrN.putGln.setGlnState h.loadReg.hwSet))

theorem State.Canon.inOrder {s : State} {p : Path} {off : Nat} {cur v : Word} {g : Word → State → State} (h : s.Canon) (hg0 : ∀ x0 x1,
    x1.Canon → (g x0 x1).Canon) : (s.inOrder p off cur v g).Canon :=
  hg0 _ _ h.noteEvent

theorem execGlnDisable_wf {p : Path} {g : Fin 8} {s : State} (h : s.Canon) : OutCanon (execGlnDisable p g s) :=
  h.act (fun _ h0 => h0.inOrder (fun _ _ h1 => h1.writeGln))

theorem execGlnEnable_wf {p : Path} {g : Fin 8} {v : Word} {s : State} (h : s.Canon) : OutCanon (execGlnEnable p g v s) :=
  h.act (fun _ h0 => h0.inOrder (fun _ _ h1 => h1.writeGln))

theorem execGlnTrigger_wf {g : Fin 8} {s : State} (h : s.Canon) : OutCanon (execGlnTrigger g s) :=
  h.act (fun _ h0 => canonIte h0.glnFire h0)

theorem execGlnFlushExpiry_wf {g : Fin 8} {s : State} (h : s.Canon) : OutCanon (execGlnFlushExpiry g s) :=
  h.act (fun _ h0 => canonIte h0.glnFinish h0)

theorem State.Canon.glnCaptured {s : State} {g : Nat} {trig : Bool} (h : s.Canon) : (s.glnCaptured g trig).Canon :=
  canonIte h (canonIte h.putGln (canonIte h (canonIte h.putGln.setGlnState.glnFinish h.putGln)))

theorem State.Canon.glnTake {s : State} {g : Nat} {b : List Byte} {drop : Nat} (h : s.Canon) : (s.glnTake g b drop).Canon :=
  canonIte h.wrN.glnOffer.glnLose (canonIte h.wrN.glnLose (canonIte h.wrN.setGln (bindCanon h.wrN.glnWrite fun h1 => canonIte
      h1.setGln.glnCaptured h1)))

theorem State.Canon.quot {s : State} {a : Int} {d : Nat} (h : s.Canon) : (s.quot a d).2.Canon :=
  canonIteSnd h.update (canonIteSnd h h.update)

theorem State.Canon.stageSignal {s : State} {id : Nat} (h : s.Canon) : ∀ t ∈ s.stageSignal id, t.2.Canon := by
  simp only [State.stageSignal]
  split
  · split
    · exact inNone
    · split
      · exact inNone
      · exact inSome h.quot
  · split
    · exact inNone
    · exact inSome h

theorem State.Canon.glnSignals {s : State} {body : List Byte} {ids : List Nat} (h : s.Canon) : (s.glnSignals body ids).2.Canon := by
  induction ids generalizing s body with
  | nil => exact h
  | cons id ids ih =>
    simp only [State.glnSignals]
    split
    · next heq => exact ih (h.stageSignal _ heq)
    · exact ih h

theorem State.Canon.glnBody {s : State} {g : Nat} {body : List Byte} (h : s.Canon) : ∀ t ∈ s.glnBody g body, t.2.Canon := by
  simp only [State.glnBody]
  split
  · split
    · exact inSome h.glnSignals
    · exact inNone
  · split
    · exact inNone
    · split
      · exact inSome h
      · exact inSome h

theorem State.Canon.glnEvent {s : State} {g : Nat} {body : List Byte} {drop : Nat} (h : s.Canon) : (s.glnEvent g body drop).Canon := by
  simp only [State.glnEvent]
  exact canonIte h (canonIte h.setGln ((by
      split
      · exact h
      · next heq =>
        exact canonIte h (h.glnBody _ heq).setGln.glnTake)))

theorem execGlnSample_wf {g : Fin 8} {body : List Byte} {drop : Fin 3} {s : State} (h : s.Canon) : OutCanon (execGlnSample g body drop s)
    :=
  h.act (fun _ h0 => h0.glnEvent)

theorem State.Canon.setSrc {s : State} {k : Nat} {r : SrcRt} (h : s.Canon) : (s.setSrc k r).Canon := h.update

theorem State.Canon.setPair {s : State} {p : Nat} {r : PairRt} (h : s.Canon) : (s.setPair p r).Canon := h.update

theorem State.Canon.takeEntry {s : State} {src : Nat} {e : List Byte} (h : s.Canon) : (s.takeEntry src e).Canon := by
  simp only [State.takeEntry]
  split
  · exact canonIte h.setSrc.setPair h
  · exact h

theorem execPost_wf {pair : Fin 32} {entry : List Byte} {s : State} (h : s.Canon) : OutCanon (execPost pair entry s) :=
  h.act (fun _ h0 => canonIte h0 (bindCanon h0.takeEntry fun h1 => canonIte h1.complete (canonIte h0 h1.putGln)))

theorem State.Canon.canPassDone {s : State} {typ : Nat} {e : List Byte} (h : s.Canon) : (s.canPassDone typ e).Canon := by
  simp only [State.canPassDone]
  split
  · exact canonIte h.setCan h
  · exact h

theorem State.Canon.ctlDone {s : State} {p : Nat} {e : List Byte} {r : CtlRes} (h : s.Canon) : (s.ctlDone p e r).Canon := h.complete

theorem State.Canon.ctlFault {s : State} {op p addr done kind : Nat} (h : s.Canon) : (s.ctlFault op p addr done kind).Canon := by
  simp only [State.ctlFault]
  split
  · exact h
  · split
    · exact h
    · exact canonIte h h.takeEntry.dmaLog.canPassDone.ctlDone

theorem State.Canon.stallDma {s : State} {p : Nat} (h : s.Canon) : (s.stallDma p).Canon := canonIte h.setPairState h

theorem State.Canon.pollFault {s : State} {addr kind : Nat} (h : s.Canon) : (s.pollFault addr kind).Canon :=
  canonIte h.setF.update.update.update.dmaLog h.setF

theorem State.Canon.dmaFails {s : State} {op p index addr done kind : Nat} (h : s.Canon) : (s.dmaFails op p index addr done kind).Canon
    := by
  simp only [State.dmaFails]
  exact canonIte h (canonIte (canonIte h.update.pollFault h) (canonIte (canonIte h h.dmaLog) (canonIte (canonIte h.dmaLog.stallDma h)
      (canonIte (canonIte h.dmaLog.stallDma h) (canonIte h.ctlFault ((by
      split
      · exact h
      · split
        · exact h
        · exact canonIte h.dmaLog.glnFinish h)))))))

theorem execCplTimeout_wf {op : Fin 7} {pair : Fin 32} {index addr done : Nat} {s : State} (h : s.Canon) : OutCanon (execCplTimeout op
    pair index addr done s) :=
  h.act (fun _ h0 => h0.dmaFails)

theorem execDmaFault_wf {op : Fin 7} {pair : Fin 32} {index addr done : Nat} {kind : Fin 10} {s : State} (h : s.Canon) : OutCanon
    (execDmaFault op pair index addr done kind s) :=
  h.act (fun _ h0 => h0.dmaFails)

theorem execXltSyncDone_wf {s : State} (h : s.Canon) : OutCanon (execXltSyncDone s) := h.act (fun _ h0 => h0.setF)

theorem execXltSync_wf {p : Path} {s : State} (h : s.Canon) : OutCanon (execXltSync p s) := h.act (fun _ h0 => h0.setF)

theorem State.Canon.ctlRun {s : State} {p typ op : Nat} {e : List Byte} {used : List (Nat × Nat)} {ok nvm : Bool} {g : Ctl → State →
    Option (State × CtlRes)} (h : s.Canon) (hg0 : ∀ x0 x1, x1.Canon → ∀ t ∈ (g x0 x1), t.1.Canon) : (s.ctlRun p typ op e used ok nvm
    g).Canon := by
  simp only [State.ctlRun]
  exact canonIte h (bindCanon h.takeEntry fun h0 => canonIte h0.ctlDone (canonIte h0.ctlDone ((by
      split
      · exact h
      · next heq =>
        exact ((hg0 _ _ h0) _ heq).canPassDone.ctlDone))))

theorem execCanRecvTimeout_wf {pair : Fin 32} {entry : List Byte} {s : State} (h : s.Canon) : OutCanon (execCanRecvTimeout pair entry s)
    := by
  simp only [execCanRecvTimeout]
  exact h.act (fun _ h0 => h0.ctlRun (fun _ _ h1 => (by
      split
      · exact inSome h1
      · exact inNone)))

theorem State.Canon.bufWrite {s : State} {c : Ctl} {v : Nat} {bytes : List Byte} {res : CtlRes} (h : s.Canon) :
    ∀ t ∈ s.bufWrite c v bytes res, t.1.Canon := by
  unfold State.bufWrite
  split
  · exact inSome h.winWrite
  · split
    · exact inNone
    · have hd : (s.dmaWrite v bytes 0 3).1.Canon := h.dmaWrite
      split
      · next heq =>
        have ht := fstOf hd heq
        exact inSome ht
      · next heq =>
        have ht := fstOf hd heq
        exact inSome ht.dmaLog

theorem execCanRecv_wf {pair : Fin 32} {entry : List Byte} {f : CanFrame} {s : State} (h : s.Canon) : OutCanon (execCanRecv pair entry f
    s) := by
  simp only [execCanRecv]
  exact h.act (fun _ h0 => h0.ctlRun (fun _ _ h1 => (by
      split
      · exact h1.bufWrite
      · exact inNone)))

theorem execCanSend_wf {pair : Fin 32} {entry : List Byte} {buf : DmaRead} {sent : Bool} {s : State} (h : s.Canon) : OutCanon
    (execCanSend pair entry buf sent s) := by
  simp only [execCanSend]
  exact h.act (fun _ h0 => h0.ctlRun (fun _ _ h1 => (by
      split
      · exact inSome h1.update
      · exact h1.bufRead (fun _ _ h3 => (by
          split
          · exact inSome h3.emit
          · exact inSome h3)))))

theorem State.Canon.smbRun {s : State} {c : Ctl} {resp : SmbResp} (h : s.Canon) : ∀ t ∈ s.smbRun c resp, t.1.Canon := by
  simp only [State.smbRun]
  split
  · exact inSome h.update
  · split
    · exact inSome h.emit.emit
    · split
      · split
        · exact inSome h.emit
        · exact inNone
      · split
        · split
          · exact h.emit.bufWrite
          · exact inNone
        · split
          · exact inSome h.emit
          · exact inNone

theorem execSmbXfer_wf {pair : Fin 32} {entry : List Byte} {resp : SmbResp} {s : State} (h : s.Canon) : OutCanon (execSmbXfer pair entry
    resp s) :=
  h.act (fun _ h0 => h0.ctlRun (fun _ _ h1 => h1.smbRun))

theorem State.Canon.pageWrite {s : State} {p : Nat} {put : Nat → Option Byte} {keep : Bool} (h : s.Canon) : (s.pageWrite p put
    keep).Canon :=
  h.foldl (fun _ _ h0 => h0.nvmDo)

theorem execNvmWrite_wf {pair : Fin 32} {entry : List Byte} {buf : DmaRead} {s : State} (h : s.Canon) : OutCanon (execNvmWrite pair entry
    buf s) := by
  simp only [execNvmWrite]
  exact h.act (fun _ h0 => h0.ctlRun (fun _ _ h1 => (by
      split
      · exact inSome h1
      · exact h1.bufRead (fun _ _ h2 => inSome h2.pageWrite))))

theorem execNvmRead_wf {pair : Fin 32} {entry : List Byte} {s : State} (h : s.Canon) : OutCanon (execNvmRead pair entry s) := by
  simp only [execNvmRead]
  exact h.act (fun _ h0 => h0.ctlRun (fun _ _ h1 => (by
      split
      · exact inSome h1
      · exact h1.nvmRead.bufWrite)))

theorem State.Canon.storeSegment {s : State} {k : Nat} {data : List Byte} (h : s.Canon) : (s.storeSegment k data).1.Canon :=
  canonIteFst h (canonIteFst h (canonIteFst h (canonIteFst h (canonIteFst h h.update.showFw))))

theorem State.Canon.storeManifest {s : State} {m : List Byte} (h : s.Canon) : (s.storeManifest m).1.Canon :=
  canonIteFst h (canonIteFst h (canonIteFst h (canonIteFst h (canonIteFst h (canonIteFst h (canonIteFst h h.setSpare.update.showFw))))))

theorem State.Canon.storeChunk {s : State} {off : Nat} {data : List Byte} (h : s.Canon) : (s.storeChunk off data).1.Canon :=
  canonIteFst h (canonIteFst h (canonIteFst h.storeManifest h.storeSegment))

theorem execFwChunk_wf {pair : Fin 32} {entry : List Byte} {buf : DmaRead} {s : State} (h : s.Canon) : OutCanon (execFwChunk pair entry
    buf s) :=
  h.act (fun _ h0 => h0.ctlRun (fun _ _ h1 => h1.bufRead (fun _ _ h2 => inSome h2.storeChunk)))

theorem State.Canon.readNamed {s : State} {id : Nat} (h : s.Canon) : ∀ t ∈ s.readNamed id, t.2.2.Canon := by
  simp only [State.readNamed]
  split
  · split
    · exact inNone
    · exact inSome h.update
  · split
    · exact inNone
    · split
      · next heq =>
        exact inSome (h.readRecord _ heq)
      · exact inNone

/-- A loop over a state and what it has gathered. -/
theorem foldlSnd {α β : Type} {g : β × State → α → β × State} {l : List α} {r : β × State} (h : r.2.Canon)
    (hg : ∀ r a, r.2.Canon → (g r a).2.Canon) : (l.foldl g r).2.Canon := by
  induction l generalizing r with
  | nil => exact h
  | cons a l ih => exact ih (hg r a h)

theorem State.Canon.digestOf {s : State} {b : List Byte} (h : s.Canon) : (s.digestOf b).2.Canon := by
  simp only [State.digestOf]
  split
  · exact foldlSnd h fun _ _ hr => hr.update
  · exact h

theorem State.Canon.attestReport {s : State} {nonce : List Byte} (h : s.Canon) : (s.attestReport nonce).2.Canon := h.digestOf.digestOf

theorem execAttest_wf {pair : Fin 32} {entry : List Byte} {s : State} (h : s.Canon) : OutCanon (execAttest pair entry s) := by
  simp only [execAttest]
  exact h.act (fun _ h0 => h0.ctlRun (fun _ _ h1 => (by
      split
      · exact inSome h1
      · exact h1.attestReport.bufWrite)))

theorem State.Canon.bbScan {s : State} {want : Nat} {slots : List Nat} {before : Option (List Byte)} {a : BbScan} (h : s.Canon) :
    (s.bbScan want slots before a).1.Canon := by
  induction slots generalizing s before a with
  | nil => exact h
  | cons slot slots ih =>
    simp only [State.bbScan]
    split
    · exact h
    · split
      · exact ih h.nvmRead.bump.raise
      · exact ih h.nvmRead

theorem State.Canon.bbReadAll {s : State} {c : Ctl} {first count v : Nat} (h : s.Canon) : ∀ t ∈ s.bbReadAll c first count v, t.1.Canon :=
    by
  simp only [State.bbReadAll]
  split
  · exact inSome h.bbScan
  · exact h.bbScan.bufWrite

theorem execBbRead_wf {pair : Fin 32} {entry : List Byte} {s : State} (h : s.Canon) : OutCanon (execBbRead pair entry s) :=
  h.act (fun _ h0 => h0.ctlRun (fun _ _ h1 => h1.bbReadAll))

theorem State.Canon.clearLatch {s : State} {i : Nat} (h : s.Canon) : (s.clearLatch i).1.Canon :=
  canonIteFst h (bindCanon h.softClear fun h0 => canonIteFst h0 h0.hwSet)

theorem State.Canon.packCmd {s : State} {pair : Nat} {entry : List Byte} {cmd : Nat} {ok : Bool} {g : Nat → State → State × CtlRes} (h :
    s.Canon) (hg0 : ∀ x0 x1, x1.Canon → (g x0 x1).1.Canon) : (s.packCmd pair entry cmd ok g).Canon :=
  canonIte h (h.ctlRun (fun _ _ h0 => inSome (hg0 _ _ h0)))

theorem execPackCmdChargeClear_wf {pair : Fin 32} {entry : List Byte} {s : State} (h : s.Canon) : OutCanon (execPackCmdChargeClear pair
    entry s) :=
  h.act (fun _ h0 => h0.packCmd (fun _ _ h1 => h1.clearLatch))

theorem State.Canon.endSweep {s : State} {i last : Nat} {fault : Bool} (h : s.Canon) : (s.endSweep i last fault).Canon :=
  canonIte h (bindCanon h.setF.setF fun h0 => canonIte h0.raise h0)

theorem execPackCmdTilthAbort_wf {pair : Fin 32} {entry : List Byte} {s : State} (h : s.Canon) : OutCanon (execPackCmdTilthAbort pair
    entry s) :=
  h.act (fun _ h0 => h0.packCmd (fun _ _ h1 => h1.endSweep))

theorem State.Canon.tilthShow {s : State} {i : Nat} {fresh : Bool} (h : s.Canon) : (s.tilthShow i fresh).Canon :=
  canonIte h (canonIte h.setF (canonIte h.setF.setPack h))

theorem State.Canon.startSweep {s : State} {i : Nat} (h : s.Canon) : (s.startSweep i).Canon :=
  canonIte h h.setF.setF.setF.setPack.tilthShow

theorem execPackCmdTilthStart_wf {pair : Fin 32} {entry : List Byte} {s : State} (h : s.Canon) : OutCanon (execPackCmdTilthStart pair
    entry s) :=
  h.act (fun _ h0 => h0.packCmd (fun _ _ h1 => h1.startSweep))

theorem execPackCmdShip_wf {pair : Fin 32} {entry : List Byte} {s : State} (h : s.Canon) : OutCanon (execPackCmdShip pair entry s) :=
  h.act (fun _ h0 => h0.packCmd (fun _ _ h1 => h1.requestShip))

theorem execFaultClear_wf {pair : Fin 32} {entry : List Byte} {s : State} (h : s.Canon) : OutCanon (execFaultClear pair entry s) :=
  h.act (fun _ h0 => h0.ctlRun (fun _ _ h1 => inSome h1.clearFault))

theorem execProfileSelect_wf {pair : Fin 32} {entry : List Byte} {s : State} (h : s.Canon) : OutCanon (execProfileSelect pair entry s) :=
    by
  simp only [execProfileSelect]
  exact h.act (fun _ h0 => h0.ctlRun (fun _ _ h1 => (by
      split
      · exact inSome h1
      · next heq =>
        split
        · exact inSome (h1.loadProfile _ heq).update
        · exact inSome (h1.loadProfile _ heq))))

theorem execRecordRead_wf {pair : Fin 32} {entry : List Byte} {s : State} (h : s.Canon) : OutCanon (execRecordRead pair entry s) := by
  simp only [execRecordRead]
  exact h.act (fun _ h0 => h0.ctlRun (fun _ _ h1 => (by
      split
      · exact inSome h1
      · next heq =>
        exact (h1.readNamed _ heq).bufWrite)))

theorem State.Canon.storeRecord {s : State} {id : Nat} {data : List Byte} {bad : Option Nat} (h : s.Canon) : (s.storeRecord id data
    bad).1.Canon := by
  simp only [State.storeRecord]
  split
  · exact h
  · exact h.writeRecord

theorem State.Canon.writeFabric {s : State} {data : List Byte} {bad : Option Nat} (h : s.Canon) : (s.writeFabric data bad).1.Canon :=
  bindCanon h.loadRegs.commitFabric.finishFabric fun h0 => canonIteFst h0.storeRecord h0

theorem State.Canon.writeNamed {s : State} {id : Nat} {data : List Byte} {bad : Option Nat} (h : s.Canon) : (s.writeNamed id data
    bad).1.Canon :=
  canonIteFst h.raise (canonIteFst (bindCanon h.commitEnv fun h0 => canonIteFst h0.update.update h0) (canonIteFst h.writeFabric
      (bindCanon h.storeRecord fun h3 => canonIteFst h3 (canonIteFst h3.setPort (canonIteFst h3.update h3)))))

theorem execRecordWrite_wf {pair : Fin 32} {entry : List Byte} {buf : DmaRead} {bad : Option (Fin 8)} {s : State} (h : s.Canon) :
    OutCanon (execRecordWrite pair entry buf bad s) := by
  simp only [execRecordWrite]
  exact h.act (fun _ h0 => h0.ctlRun (fun _ _ h1 => (by
      split
      · exact inSome h1
      · exact h1.bufRead (fun _ _ h2 => inSome h2.writeNamed))))

theorem State.Canon.firePair {s : State} {p : Nat} (h : s.Canon) : (s.firePair p).Canon := h.setF.hwSet.fireVec

theorem State.Canon.writeImod {s : State} {p : Nat} {v : Word} (h : s.Canon) : (s.writeImod p v).Canon :=
  canonIte h.loadReg (canonIte h.loadReg.firePair h.loadReg)

theorem execRingImodWrite_wf {p : Path} {pair : Fin 32} {v : Word} {s : State} (h : s.Canon) : OutCanon (execRingImodWrite p pair v s) :=
  h.act (fun _ h0 => h0.inOrder (fun _ _ h1 => h1.writeImod))

theorem execIrqModTimerExpiry_wf {pair : Fin 32} {s : State} (h : s.Canon) : OutCanon (execIrqModTimerExpiry pair s) :=
  h.act (fun _ h0 => canonIte h0.firePair h0)

theorem execCompletionDiscard_wf {src : Source} {entry : List Byte} {s : State} (h : s.Canon) : OutCanon (execCompletionDiscard src entry
    s) := by
  simp only [execCompletionDiscard]
  exact h.act (fun _ h0 => (by
      split
      · exact canonIte h0 h0.discardCpl
      · exact canonIte h0 h0.discardCan))

theorem State.Canon.drainCan {s : State} {n : Nat} (h : s.Canon) : (s.drainCan n).Canon := by
  simp only [State.drainCan]
  split
  · exact h
  · exact canonIte h ((by
      split
      · exact h.emit.setCan
      · exact h.emit.update.setCan))

theorem State.Canon.addF {s : State} {off : Nat} {fld : Fld} {k : Nat} (h : s.Canon) : (s.addF off fld k).Canon := h.setF

theorem State.Canon.countPending {s : State} {p : Nat} (h : s.Canon) : (s.countPending p).Canon :=
  bindCanon (canonIte h.setPair h) fun h0 => canonIte h0.addF.firePair h0.addF

theorem State.Canon.advanceCq {s : State} {p : Nat} (h : s.Canon) : (s.advanceCq p).Canon := canonIte h.setF.setF h.setF

theorem State.Canon.written {s : State} {p : Nat} {cpl : HeldCpl} (h : s.Canon) : (s.written p cpl).Canon :=
  bindCanon h.advanceCq fun h0 => canonIte h0.countPending h0

theorem State.Canon.drainPair {s : State} {p : Nat} (h : s.Canon) : (s.drainPair p).Canon := by
  simp only [State.drainPair]
  exact canonIte ((by
      split
      · exact h
      · exact canonIte h.update.winWrite.written ((by
          split
          · exact h.dmaLog.stallDma
          · exact h.update.winWrite.written
          · exact h.update.emit.written)))) h

theorem execCompletionDrain_wf {src : Source} {s : State} (h : s.Canon) : OutCanon (execCompletionDrain src s) := by
  simp only [execCompletionDrain]
  exact h.act (fun _ h0 => (by
      split
      · exact h0.drainPair
      · exact h0.drainCan))

theorem State.Canon.slotWritten {s : State} {p : Nat} (h : s.Canon) : (s.slotWritten p).Canon := h.setPair

theorem execDeviceSlotWrite_wf {pair : Fin 32} {s : State} (h : s.Canon) : OutCanon (execDeviceSlotWrite pair s) := by
  simp only [execDeviceSlotWrite]
  exact h.act (fun _ h0 => canonIte h0 (canonIte h0.winWrite.slotWritten (canonIte h0 (bindCanon h0.setPair fun h1 => (by
      split
      · exact h1.update.dmaLog
      · exact h1.winWrite.slotWritten
      · exact h1.emit.slotWritten)))))

theorem State.Canon.fetchFault {s : State} {p k addr kind : Nat} (h : s.Canon) : (s.fetchFault p k addr kind).Canon := h.dmaLog.stallDma

theorem State.Canon.consume {s : State} {p : Nat} {es : List (List Byte)} (h : s.Canon) : (s.consume p es).Canon :=
  h.setPair.setSrc.update.setF

theorem State.Canon.fetch {s : State} {p : Nat} {r : DmaRead} (h : s.Canon) : (s.fetch p r).Canon := by
  simp only [State.fetch]
  exact canonIte h (canonIte h.consume ((by
      split
      · exact h.fetchFault
      · exact h.consume
      · split
        · exact canonIte h.consume h
        · exact canonIte h.consume.fetchFault h)))

theorem execSubmissionFetch_wf {pair : Fin 32} {r : DmaRead} {s : State} (h : s.Canon) : OutCanon (execSubmissionFetch pair r s) :=
  h.act (fun _ h0 => h0.fetch)

theorem State.Canon.seeTail {s : State} {p w : Nat} (h : s.Canon) : (s.seeTail p w).Canon := canonIte h.setF h.setF.setPair

theorem State.Canon.badDoorbell {s : State} {p stall w : Nat} (h : s.Canon) : (s.badDoorbell p stall w).Canon := h.setPairState.raise

theorem State.Canon.seeSlot {s : State} {p sqw cqw : Nat} (h : s.Canon) : (s.seeSlot p sqw cqw).Canon :=
  canonIte h (canonIte h.badDoorbell (canonIte h.seeTail.badDoorbell h.seeTail.setF))

theorem State.Canon.seeLocal {s : State} {p : Nat} (h : s.Canon) : (s.seeLocal p).Canon := canonIte h.seeSlot h

theorem State.Canon.hostWin {s : State} {off : Nat} {bytes : List Byte} (h : s.Canon) : (s.hostWin off bytes).Canon :=
  h.winWrite.each (fun _ _ h1 => canonIte h1.seeLocal h1)

theorem execLocalDoorbellWrite_wf {off : Nat} {v : Word} {s : State} (h : s.Canon) : OutCanon (execLocalDoorbellWrite off v s) :=
  h.act (fun _ h0 => h0.hostWin)

theorem State.Canon.pollData {s : State} {bytes : List Byte} (h : s.Canon) : (s.pollData bytes).Canon :=
  h.setF.each (fun _ _ h0 => h0.seeSlot)

theorem execDoorbellPoll_wf {r : DmaRead} {s : State} (h : s.Canon) : OutCanon (execDoorbellPoll r s) := by
  simp only [execDoorbellPoll]
  exact h.act (fun _ h0 => canonIte h0 ((by
      split
      · exact h0.update.pollFault
      · exact h0.update.pollData
      · split
        · exact canonIte h0.update.pollData h0
        · exact canonIte h0.update.pollFault h0)))

theorem State.Canon.resumePair {s : State} {p : Nat} (h : s.Canon) : (s.resumePair p).Canon := canonIte h.setPairState.seeLocal h

theorem execResume_wf {p : Path} {pair : Fin 32} {s : State} (h : s.Canon) : OutCanon (execResume p pair s) :=
  h.act (fun _ h0 => h0.resumePair)

theorem State.Canon.dropHeld {s : State} {p : Nat} (h : s.Canon) : (s.dropHeld p).Canon :=
  canonIte h.update.bump (bindCanon h.update.bump.update.bump.setGlb fun h2 => canonIte h2 h2.raise)

theorem State.Canon.dropStreams {s : State} {p : Nat} (h : s.Canon) : (s.dropStreams p).Canon :=
  h.each (fun _ _ h0 => canonIte h0.setGln.setF.setF.setF h0)

theorem State.Canon.pairDisabled {s : State} {p : Nat} (h : s.Canon) : (s.pairDisabled p).Canon := h.dropHeld.dropStreams.setPairState

theorem execRingDrainDone_wf {pair : Fin 32} {s : State} (h : s.Canon) : OutCanon (execRingDrainDone pair s) :=
  h.act (fun _ h0 => canonIte h0.pairDisabled h0)

theorem State.Canon.pairOn {s : State} {p : Nat} (h : s.Canon) : (s.pairOn p).Canon := h.wrN.wrN.setF.setPair.setSrc.setPairState

theorem State.Canon.dropFetched {s : State} {p : Nat} (h : s.Canon) : (s.dropFetched p).Canon := h.setSrc

theorem State.Canon.pairOff {s : State} {p : Nat} (h : s.Canon) : (s.pairOff p).Canon := h.setF.dropFetched.setPairState

theorem State.Canon.pairRefuse {s : State} {p : Nat} (h : s.Canon) : (s.pairRefuse p).Canon := h.hwSet

theorem State.Canon.writeRingCfg {s : State} {p : Nat} {v : Word} (h : s.Canon) : (s.writeRingCfg p v).Canon :=
  canonIte (canonIte h.pairRefuse h.pairOff) (canonIte h.pairRefuse (canonIte h.loadReg (canonIte h.loadReg.pairOn h.loadReg.setF.hwSet)))

theorem execRingDisable_wf {p : Path} {pair : Fin 32} {s : State} (h : s.Canon) : OutCanon (execRingDisable p pair s) :=
  h.act (fun _ h0 => h0.inOrder (fun _ _ h1 => h1.writeRingCfg))

theorem execRingEnable_wf {p : Path} {pair : Fin 32} {v : Word} {s : State} (h : s.Canon) : OutCanon (execRingEnable p pair v s) :=
  h.act (fun _ h0 => h0.inOrder (fun _ _ h1 => h1.writeRingCfg))

theorem State.Canon.spiRefuse {s : State} {cause : Nat} (h : s.Canon) : (s.spiRefuse cause).Canon := canonIte h h.update.setF.bump

theorem execSpiUnknownOpcode_wf {op : Byte} {s : State} (h : s.Canon) : OutCanon (execSpiUnknownOpcode op s) :=
  h.act (fun _ h0 => canonIte h0 h0.spiRefuse.raise)

theorem execReadStatus_wf {s : State} (h : s.Canon) : OutCanon (execReadStatus s) := h.act (fun _ h0 => h0.emit.update)

theorem State.Canon.leaveBusOff {s : State} {n : Nat} (h : s.Canon) : (s.leaveBusOff n).Canon := h.setF

theorem State.Canon.plainWrite {s : State} {p : Path} {off : Nat} {v : Word} (h : s.Canon) : (s.plainWrite p off v).Canon :=
  h.hwDenied.wr

theorem State.Canon.writeCanCfg {s : State} {p : Path} {n : Nat} {v : Word} (h : s.Canon) : (s.writeCanCfg p n v).Canon :=
  bindCanon h.plainWrite fun h0 => canonIte h0.leaveBusOff h0

theorem State.Canon.onReg {n off : Nat} {f : Nat → Nat} {g : Nat → State} {els : State} (hg : ∀ k, (g k).Canon) (h : els.Canon) :
    (onReg n f off g els).Canon := by
  unfold Machine.onReg
  split
  · exact hg _
  · exact h

theorem State.Canon.writeFwu {s : State} {p : Path} {v : Word} (h : s.Canon) : (s.writeFwu p v).Canon :=
  canonIte h.activateBank (canonIte h.abandonUpdate (canonIte h.confirmTrial h))

theorem State.Canon.showSlot {s : State} {k : Nat} (h : s.Canon) : (s.showSlot k).Canon := by
  simp only [State.showSlot]
  split
  · exact h.wrN.wrN.wr64.wr64.wr64
  · exact h.wrN.wrN.wr64.wr64.wr64

theorem State.Canon.writeHigh {s : State} {p : Path} {off : Nat} {v : Word} (h : s.Canon) : (s.writeHigh p off v).Canon :=
  canonIte h.clearFault (canonIte (canonIte h.raise h) (canonIte h.writeInject (canonIte h.wdtCheck (canonIte (canonIte h.flushCounters
      h) (canonIte h.plainWrite.showSlot (canonIte h.writeFwu ((((h.plainWrite.onReg (fun _ => h.writeCanCfg)).onReg (fun _ => bindCanon
      (canonIte h.glnArm h) fun h0 => canonIte h0.glnFire h0)).onReg (fun _ => h.writeGln)).onReg (fun _ => canonIte h.incCounter
      h))))))))

theorem State.Canon.ladderRecovery {s : State} {n : Nat} (h : s.Canon) : (s.ladderRecovery n).Canon := h.enterErrorRecovery.raise

theorem State.Canon.hardRecovery {s : State} {n : Nat} (h : s.Canon) : (s.hardRecovery n).Canon :=
  bindCanon h.portDrop.vconnOff.setPS.setPS.setPort fun h2 => bindCanon (canonIte h2 h2.startTimer) fun h3 => (canonIte h3
      h3.startTimer).setPe

theorem State.Canon.sendHard {s : State} {n : Nat} (h : s.Canon) : (s.sendHard n).Canon :=
  h.emit.bump.setPort.hardRecovery.raise.portEvent

theorem State.Canon.writePortCtrl {s : State} {n : Nat} {v : Word} (h : s.Canon) : (s.writePortCtrl n v).Canon :=
  bindCanon (canonIte h.sendHard h) fun h0 => canonIte h0.ladderRecovery h0

theorem State.Canon.disableInput {s : State} {n : Nat} (h : s.Canon) : (s.disableInput n).Canon := canonIte h.setF.loseSupply h.setF

theorem State.Canon.writeInputCfg {s : State} {p : Path} {n : Nat} {v : Word} (h : s.Canon) : (s.writeInputCfg p n v).Canon :=
  bindCanon h.plainWrite fun h0 => canonIte h0.disableInput (canonIte h0.startQualify h0)

theorem State.Canon.setFloor {s : State} {node mv : Nat} (h : s.Canon) : (s.setFloor node mv).Canon := h.foldl (fun _ _ h0 => h0.setF)

theorem State.Canon.setVOp {s : State} {mv : Nat} (h : s.Canon) : (s.setVOp mv).Canon := h.setF.setFloor

theorem State.Canon.mpptStart {s : State} {online : Bool} (h : s.Canon) : (s.mpptStart online).Canon :=
  canonIte h.setF.setF.setFloor ((canonIte h.setF.setF h.setF).setF.update.setVOp)

theorem State.Canon.writeMppt {s : State} {p : Path} {off : Nat} {v : Word} (h : s.Canon) : (s.writeMppt p off v).Canon :=
  bindCanon h.plainWrite fun h0 => canonIte h0.mpptStart h0

theorem State.Canon.headlandBit {s : State} {p : Path} {off : Nat} {v : Word} {g : State → State} (h : s.Canon) (hg0 : ∀ x0, x0.Canon →
    (g x0).Canon) : (s.headlandBit p off v g).Canon :=
  canonIte (canonIte (hg0 _ h) h) h.hwDenied

theorem State.Canon.writePathBlk {s : State} {p : Path} {off : Nat} {v : Word} (h : s.Canon) : (s.writePathBlk p off v).Canon :=
  canonIte (h.headlandBit (fun _ h0 => h0.commitFabric)) (canonIte h.writeMppt (((h.plainWrite.onReg (fun _ => h.writePortCtrl)).onReg
      (fun _ => h.writePortCfg)).onReg (fun _ => h.writeInputCfg)))

theorem State.Canon.enterIdent {s : State} {i : Nat} (h : s.Canon) : (s.enterIdent i).Canon := h.setF.setF.setPack

theorem State.Canon.dropLink {s : State} {i : Nat} (h : s.Canon) : (s.dropLink i).Canon := h.wrN.setPack.wrN.wrN.wrN.wrN.showEFull

theorem State.Canon.writeLinkCfg {s : State} {i : Nat} {v : Word} {hw : Bool} (h : s.Canon) : (s.writeLinkCfg i v hw).Canon :=
  canonIte h.wr (bindCanon h.wr.dropLink fun h1 => canonIte h1 h1.enterIdent)

theorem State.Canon.writeNtcCfg {s : State} {i : Nat} {v : Word} (h : s.Canon) : (s.writeNtcCfg i v).Canon :=
  bindCanon (canonIte h h.setF) fun h0 => canonIte h0 h0.setF

theorem State.Canon.expireChg {s : State} {i : Nat} (h : s.Canon) : (s.expireChg i).Canon := canonIte h.setF.raise h

theorem State.Canon.kickChg {s : State} {i : Nat} {v : Word} (h : s.Canon) : (s.kickChg i v).Canon :=
  canonIte h.expireChg.setPack.setF h

theorem State.Canon.endAtRest {s : State} {i : Nat} (h : s.Canon) : (s.endAtRest i).Canon :=
  canonIte (h.foldl (fun _ _ h0 => h0.breachSlot)) h

theorem State.Canon.chargeDemand {s : State} {i : Nat} (h : s.Canon) : (s.chargeDemand i).Canon :=
  canonIte h.setF.setChState.endAtRest.showRefs.secMark (canonIte h.setF.leaveCharging.showRefs h.setF)

theorem State.Canon.writeChgCfg {s : State} {i : Nat} {v : Word} (h : s.Canon) : (s.writeChgCfg i v).Canon :=
  bindCanon (canonIte h.wr.setPack h.wr) fun h1 => (canonIte h1.setF h1).chargeDemand

theorem State.Canon.writePackBlk {s : State} {p : Path} {off : Nat} {v : Word} (h : s.Canon) : (s.writePackBlk p off v).Canon :=
  canonIte (canonIte h.commitProfile h) (canonIte h.writeChgCfg (canonIte h.kickChg (canonIte h.writeNtcCfg (canonIte (canonIte
      h.clearLatch h) (canonIte h.hwDenied.writeLinkCfg (canonIte (bindCanon (canonIte h.startSweep h) fun h0 => canonIte h0.endSweep h0)
      h.plainWrite))))))

theorem State.Canon.writeVselSp {s : State} {g k : Nat} {v : Word} (h : s.Canon) : (s.writeVselSp g k v).Canon := canonIte h.hwSet h.wr

theorem State.Canon.takePins {s : State} {g : Nat} (h : s.Canon) : (s.takePins g).Canon := canonIte h (canonIte h.setF.setF h.setF)

theorem State.Canon.showVsel {s : State} (h : s.Canon) : s.showVsel.Canon := h.each (fun _ _ h0 => h0.setF)

theorem State.Canon.writeVselCfg {s : State} {g : Nat} {v : Word} (h : s.Canon) : (s.writeVselCfg g v).Canon :=
  bindCanon (canonIte h.setF h) fun h0 => (canonIte h0.setF.hwSet h0.setF.setF).takePins.showVsel

theorem State.Canon.writeRailSp {s : State} {r : Nat} {v : Word} (h : s.Canon) : (s.writeRailSp r v).Canon := canonIte h.setF h

theorem State.Canon.applyShadow {s : State} {n : Nat} (h : s.Canon) : (s.applyShadow n).Canon := h.setStage

theorem State.Canon.writeStageCtrl {s : State} {n : Nat} {v : Word} (h : s.Canon) : (s.writeStageCtrl n v).Canon :=
  canonIte h (canonIte h.setStage h.applyShadow)

theorem State.Canon.writePwm {s : State} {n : Nat} {v : Word} (h : s.Canon) : (s.writePwm n v).Canon := h.setF.setStage.takePer.showLoad

theorem State.Canon.writeStageBlk {s : State} {p : Path} {off : Nat} {v : Word} (h : s.Canon) : (s.writeStageBlk p off v).Canon :=
  ((((h.plainWrite.onReg (fun _ => h.writeVselSp)).onReg (fun _ => h.writeVselCfg)).onReg (fun _ => h.writeRailSp)).onReg (fun _ =>
      h.writeStageCtrl)).onReg (fun _ => h.writePwm)

theorem State.Canon.setGpt {s : State} {m : Nat} {r : GptRt} (h : s.Canon) : (s.setGpt m r).Canon := h.update

theorem State.Canon.gptLoad {s : State} {m at_ : Nat} (h : s.Canon) : (s.gptLoad m at_).Canon := h.setGpt

theorem State.Canon.forceGpt {s : State} {m : Nat} (h : s.Canon) : (s.forceGpt m).Canon := h.gptLoad

theorem State.Canon.writeGptCtrl {s : State} {m : Nat} {v : Word} (h : s.Canon) : (s.writeGptCtrl m v).Canon :=
  bindCanon (canonIte h.forceGpt h) fun h0 => canonIte h0.captureGpt h0

theorem State.Canon.wrapFirst {s : State} {m : Nat} (h : s.Canon) : (s.wrapFirst m).Canon :=
  canonIte ((canonIte h.hwSet.gptLoad.setGpt.setF.setF h.hwSet.gptLoad).strobe) h

theorem State.Canon.writeGptPre {s : State} {p : Path} {m : Nat} {which : GptPreload} {v : Word} (h : s.Canon) : (s.writeGptPre p m which
    v).Canon :=
  canonIte ((canonIte h h.wrapFirst).wr) (canonIte h.update (((canonIte h h.wrapFirst).wrN).wr))

theorem State.Canon.gptJoin {s : State} {m : Nat} {on : Bool} (h : s.Canon) : (s.gptJoin m on).Canon :=
  canonIte h.setGpt h.setGpt.setGpt

theorem State.Canon.gptAnchor {s : State} {m : Nat} (h : s.Canon) : (s.gptAnchor m).Canon := h.setGpt

theorem State.Canon.writeGptCfg {s : State} {m : Nat} {v : Word} (h : s.Canon) : (s.writeGptCfg m v).Canon :=
  bindCanon (canonIte h.gptAnchor h) fun h0 => bindCanon (canonIte h0.gptJoin h0) fun h1 => canonIte ((canonIte h1.wr.gptLoad
      h1.wr).setF) h1.wr

theorem State.Canon.holdBounds {s : State} {n : Nat} (h : s.Canon) : (s.holdBounds n).Canon := h.setCoord

theorem State.Canon.coordRefuse {s : State} {n : Nat} (h : s.Canon) : (s.coordRefuse n).Canon := h.hwSet

theorem State.Canon.clearStall {s : State} {n : Nat} (h : s.Canon) : (s.clearStall n).Canon :=
  canonIte h.coordRefuse h.setF.setCoord.restartFar

theorem State.Canon.armHome {s : State} {n : Nat} {on : Bool} (h : s.Canon) : (s.armHome n on).Canon := h.setCoord

theorem State.Canon.writeCoordCtrl {s : State} {n : Nat} {v : Word} (h : s.Canon) : (s.writeCoordCtrl n v).Canon :=
  bindCanon (canonIte h.captureCoord h) fun h0 => canonIte (bindCanon (canonIte h0.armHome h0) fun h1 => bindCanon (canonIte h1.armHome
      h1) fun h2 => canonIte h2.clearStall h2) (canonIte h0.coordRefuse h0)

theorem State.Canon.writeCoordStatus {s : State} {p : Path} {n : Nat} {v : Word} (h : s.Canon) : (s.writeCoordStatus p n v).Canon :=
  bindCanon h.plainWrite fun h0 => bindCanon (canonIte h0.causeGone h0) fun h1 => canonIte h1.causeGone h1

theorem State.Canon.writeMod {s : State} {n m : Nat} (h : s.Canon) : (s.writeMod n m).Canon :=
  canonIte h.coordRefuse (bindCanon (h.setF.foldl (fun _ _ h1 => h1.wr64)) fun h2 => canonIte h2.hwSet.raise.restartFar h2)

theorem State.Canon.writeCoordCfg {s : State} {n : Nat} {v : Word} (h : s.Canon) : (s.writeCoordCfg n v).Canon :=
  canonIte h.wr.coordRefuse (canonIte h.wr (canonIte h.wr.setPos.setF.setCoord h.wr.setCoord))

theorem State.Canon.writeCoordBlk {s : State} {p : Path} {off : Nat} {v : Word} (h : s.Canon) : (s.writeCoordBlk p off v).Canon :=
  canonIte (canonIte h.writeCoordCfg (canonIte (canonIte h.writeMod h) (canonIte h.writeCoordStatus (canonIte h.writeCoordCtrl (canonIte
      h.holdBounds.plainWrite h.plainWrite))))) (canonIte (canonIte h.writeGptCfg (canonIte h.writeGptPre (canonIte h.writeGptPre
      (canonIte h.writeGptPre (canonIte h.writeGptCtrl h.plainWrite))))) h.plainWrite)

theorem State.Canon.writeEventCfg {s : State} {p : Path} {v : Word} (h : s.Canon) : (s.writeEventCfg p v).Canon :=
  bindCanon h.plainWrite fun h0 => canonIte h0.update h0.setF

theorem State.Canon.writePower {s : State} {v : Word} (h : s.Canon) : (s.writePower v).Canon :=
  canonIte h.requestRest (canonIte h.requestRest h)

theorem State.Canon.writeLow {s : State} {p : Path} {off : Nat} {v : Word} (h : s.Canon) : (s.writeLow p off v).Canon :=
  canonIte (h.headlandBit (fun _ h0 => h0.afterReset)) (canonIte h.writePower (canonIte (h.headlandBit (fun _ h1 => h1.requestShip))
      (canonIte h.writeEventCfg (canonIte (canonIte h.setF h) (canonIte (canonIte h.writeRingCfg (canonIte h.writeImod (canonIte
      (canonIte h.resumePair h) h.plainWrite))) h.plainWrite)))))

theorem State.Canon.writeReg {s : State} {p : Path} {off : Nat} {v : Word} (h : s.Canon) : (s.writeReg p off v).Canon :=
  canonIte h.writeLow (canonIte h.writeCoordBlk (canonIte h.writeStageBlk (canonIte h.writePackBlk (canonIte h.writePathBlk (canonIte
      h.plainWrite h.writeHigh)))))

theorem State.Canon.canShown {s : State} {n : Nat} (h : s.Canon) : (s.canShown n).2.Canon := canonIteSnd h h.update

theorem State.Canon.trialLeft {s : State} (h : s.Canon) : s.trialLeft.2.Canon := canonIteSnd h (canonIteSnd h h.quot)

theorem State.Canon.progressShown {s : State} (h : s.Canon) : s.progressShown.2.Canon := canonIteSnd h h.update

theorem State.Canon.glnShown {s : State} (h : s.Canon) : s.glnShown.2.Canon := h.glnRoll.quot

theorem State.Canon.flashShown {s : State} (h : s.Canon) : s.flashShown.2.Canon := canonIteSnd h (canonIteSnd h.update h.update.update)

theorem State.Canon.wdtShown {s : State} (h : s.Canon) : s.wdtShown.2.Canon := (canonIteSnd h.quot h)

theorem State.Canon.hrwShown {s : State} (h : s.Canon) : s.hrwShown.2.Canon := (canonIteSnd h.quot h)

theorem State.Canon.view {s : State} {off : Nat} (h : s.Canon) : (s.view off).2.Canon := by
  unfold State.view
  refine canonIteSnd (canonIteSnd h h) (canonIteSnd (canonIteSnd h (canonIteSnd h (canonIteSnd h (canonIteSnd h (canonIteSnd h h)))))
    (canonIteSnd (canonIteSnd h h) (canonIteSnd ?stage (canonIteSnd h (canonIteSnd (canonIteSnd h (canonIteSnd h
    (canonIteSnd h.hrwShown (canonIteSnd h.wdtShown h)))) (canonIteSnd (canonIteSnd h.flashShown (canonIteSnd h (canonIteSnd h
    (canonIteSnd h h)))) (canonIteSnd h.glnShown (canonIteSnd h.progressShown (canonIteSnd h.trialLeft (canonIteSnd h.canShown
    (canonIteSnd h.canShown (canonIteSnd h h))))))))))))
  case stage =>
    split
    · split
      · exact h
      · exact h
    · exact h

theorem State.Canon.writeCmp {s : State} {n k : Nat} {isInt : Bool} {v : Nat} (h : s.Canon) : (s.writeCmp n k isInt v).Canon :=
  canonIte (canonIte h.wr64 h.wr64) h.coordRefuse

theorem State.Canon.writeHome {s : State} {n v : Nat} (h : s.Canon) : (s.writeHome n v).Canon := canonIte h.wr64 h.coordRefuse

theorem State.Canon.writePos {s : State} {n v : Nat} (h : s.Canon) : (s.writePos n v).Canon :=
  canonIte h.coordRefuse h.setPos.setF.restartFar

theorem State.Canon.writeRingBase {s : State} {p : Nat} {cq : Bool} {v : Nat} (h : s.Canon) : (s.writeRingBase p cq v).Canon :=
  canonIte h.pairRefuse (canonIte h.wr64 h.wr64)

theorem State.Canon.writeWide {s : State} {p : Path} {lo hi : Nat} {v : Word} (h : s.Canon) : (s.writeWide p lo hi v).Canon :=
  ((((((canonIte h (bindCanon h.hwDenied fun h0 => canonIte h0 (bindCanon h0.loadReg.loadReg fun h1 => h1.onReg (fun _ =>
      h1.showEFull)))).onReg (fun _ => h.writeCmp)).onReg (fun _ => h.writeCmp)).onReg (fun _ => h.writeHome)).onReg (fun _ => canonIte
      h.writePos h)).onReg (fun _ => h.writeRingBase)).onReg (fun _ => h.writeRingBase)

theorem State.Canon.wideInOrder {s : State} {p : Path} {hi : Nat} {g : State → State} (h : s.Canon) (hg0 : ∀ x0, x0.Canon → (g x0).Canon)
    : (s.wideInOrder p hi g).Canon :=
  bindCanon h.noteEvent fun h0 => canonIte h0 (hg0 _ h0)

theorem State.Canon.stageLo {s : State} {p : Path} {off : Nat} {v : Word} (h : s.Canon) : (s.stageLo p off v).Canon :=
  canonIte h (bindCanon h.hwDenied fun h0 => canonIte h0 h0.update)

theorem State.Canon.writeWdt {s : State} {p : Path} {off : Nat} {v : Word} (h : s.Canon) : (s.writeWdt p off v).Canon :=
  canonIte h.raise (canonIte h.wdtServe (canonIte h h.plainWrite))

theorem State.Canon.firePended {s : State} {n : Nat} (h : s.Canon) : (s.firePended n).Canon := canonIte h.update.fireVec h

theorem State.Canon.writeMsix {s : State} {k : Nat} {v : Word} (h : s.Canon) : (s.writeMsix k v).Canon :=
  canonIte h.update.firePended h.update

theorem State.Canon.busWrite {s : State} {p : Path} {off : Nat} {v : Word} (h : s.Canon) : (s.busWrite p off v).Canon := by
  simp only [State.busWrite]
  exact canonIte h (canonIte (canonIte h.writeMsix h) (canonIte h.writeWdt (canonIte h.stageLo ((by
      split
      · exact h.wideInOrder (fun _ h0 => h0.writeWide)
      · exact h.inOrder (fun _ _ h1 => h1.writeReg))))))

theorem State.Canon.spiStore {s : State} {a err fuel : Nat} {bytes : List Byte} (h : s.Canon) :
    (s.spiStore a bytes err fuel).2.Canon := by
  induction fuel generalizing s a bytes err with
  | zero => exact h
  | succ fuel ih =>
    simp only [State.spiStore]
    split
    · exact h
    · split
      · split
        · exact ih h
        · split
          · exact h.raise
          · split
            · exact ih h
            · exact ih h.busWrite
      · split
        · exact ih h.hostWin
        · exact ih h

theorem State.Canon.spiWrite {s : State} {a : Nat} {bytes : List Byte} (h : s.Canon) : (s.spiWrite a bytes).Canon :=
  canonIte h.spiRefuse h.spiStore.spiRefuse

theorem execQuadWrite_wf {addr : Nat} {bytes : List Byte} {s : State} (h : s.Canon) : OutCanon (execQuadWrite addr bytes s) :=
  h.act (fun _ h0 => h0.spiWrite)

theorem State.Canon.readEffects {s : State} {off : Nat} (h : s.Canon) : (s.readEffects off).Canon := by
  simp only [State.readEffects]
  exact bindCanon (canonIte h h.noteOld.wr) fun h0 => (by
      split
      · exact h0.setF
      · split
        · exact h0.setF
        · split
          · exact h0.setF
          · exact h0)

theorem State.Canon.busRead {s : State} {p : Path} {off : Nat} (h : s.Canon) : (s.busRead p off).2.Canon := by
  simp only [State.busRead]
  exact canonIteSnd h (canonIteSnd h ((by
      split
      · exact h.readEffects
      · split
        · exact h.view.readEffects
        · exact h.view.view.update.readEffects)))

theorem State.Canon.spiFetch {s : State} {a len err fuel : Nat} {acc : List Byte} (h : s.Canon) :
    (s.spiFetch a len acc err fuel).2.2.Canon := by
  induction fuel generalizing s a len acc err with
  | zero => exact h
  | succ fuel ih =>
    simp only [State.spiFetch]
    split
    · exact h
    · split
      · split
        · exact ih h
        · split
          · exact ih h
          · exact ih h.busRead
      · split <;> exact ih h

theorem State.Canon.spiRead {s : State} {a len : Nat} (h : s.Canon) : (s.spiRead a len).Canon :=
  canonIte h.spiRefuse h.spiFetch.emit.spiRefuse

theorem execQuadRead_wf {addr len : Nat} {s : State} (h : s.Canon) : OutCanon (execQuadRead addr len s) :=
  h.act (fun _ h0 => h0.spiRead)

theorem execWrite_wf {addr : Nat} {bytes : List Byte} {s : State} (h : s.Canon) : OutCanon (execWrite addr bytes s) :=
  h.act (fun _ h0 => h0.spiWrite)

theorem execRead_wf {addr len : Nat} {s : State} (h : s.Canon) : OutCanon (execRead addr len s) := h.act (fun _ h0 => h0.spiRead)

theorem execBmeChange_wf {bme d3 msix intDis : Bool} {s : State} (h : s.Canon) : OutCanon (execBmeChange bme d3 msix intDis s) :=
  h.act (fun _ h0 => h0.setF.setF.setF.update.each (fun _ _ h2 => h2.firePended))

theorem State.Canon.linkReset {s : State} (h : s.Canon) : s.linkReset.Canon :=
  (h.each (fun _ _ h0 => h0.setF.dropFetched.pairDisabled)).resetFunction.loadHost.setF

theorem State.Canon.linkGone {s : State} (h : s.Canon) : s.linkGone.Canon := h.setF.setF.setF

theorem execHostLinkReset_wf {k : LinkReset} {s : State} (h : s.Canon) : OutCanon (execHostLinkReset k s) := by
  simp only [execHostLinkReset]
  exact h.act (fun _ h0 => (by
      split
      · exact h0.linkReset.linkGone
      · exact h0.linkReset
      · exact h0.linkReset.linkGone.bump.raise
      · exact h0.linkReset))

theorem execErrRecover_wf {p : Path} {n : Fin 3} {s : State} (h : s.Canon) : OutCanon (execErrRecover p n s) :=
  h.act (fun _ h0 => h0.ladderRecovery)

theorem execPortCtrlHardReset_wf {p : Path} {n : Fin 3} {s : State} (h : s.Canon) : OutCanon (execPortCtrlHardReset p n s) :=
  h.act (fun _ h0 => canonIte h0.sendHard h0)

theorem State.Canon.pdComplete {s : State} {pair : Nat} {q : PdSub} {status : Nat} (h : s.Canon) : (s.pdComplete pair q status).Canon :=
  h.complete

theorem execCableReset_wf {pair : Fin 32} {entry : List Byte} {s : State} (h : s.Canon) : OutCanon (execCableReset pair entry s) :=
  h.act (fun _ h0 => canonIte h0 (bindCanon h0.takeEntry fun h1 => canonIte h1.pdComplete h1.emit.setPort.pdComplete))

theorem execHardReset_wf {pair : Fin 32} {entry : List Byte} {s : State} (h : s.Canon) : OutCanon (execHardReset pair entry s) :=
  h.act (fun _ h0 => canonIte h0 (bindCanon h0.takeEntry fun h1 => canonIte h1.pdComplete h1.sendHard.pdComplete))

theorem State.Canon.pdSend {s : State} {n : Nat} {sopP : Bool} {typ count : Nat} {ext : Bool} {wire : List Byte} (h : s.Canon) :
    (s.pdSend n sopP typ count ext wire).Canon :=
  h.emit.setPort

theorem State.Canon.pdCtl {s : State} {n typ : Nat} (h : s.Canon) : (s.pdCtl n typ).Canon := h.pdSend

theorem State.Canon.ownSent {s : State} {n code : Nat} (h : s.Canon) : (s.ownSent n code).Canon := h.setPort.startTimer

theorem State.Canon.sendSoft {s : State} {n : Nat} (h : s.Canon) : (s.sendSoft n).Canon := h.setPort.pdCtl.bump.ownSent.setPe.portEvent

theorem State.Canon.portFailure {s : State} {n : Nat} (h : s.Canon) : (s.portFailure n).Canon := canonIte h.sendHard h.sendSoft

theorem State.Canon.emits {s : State} {es : List Emit} (h : s.Canon) : (s.emits es).Canon := h.update

theorem State.Canon.trackMode {s : State} {n vdm : Nat} (h : s.Canon) : (s.trackMode n vdm).Canon :=
  canonIte h (canonIte h.setPort (canonIte h.setPort h))

theorem State.Canon.vdmSent {s : State} {n vdm : Nat} (h : s.Canon) : (s.vdmSent n vdm).Canon :=
  canonIte h (canonIte h.trackMode h.startTimer)

theorem State.Canon.eprExit {s : State} {n : Nat} (h : s.Canon) : (s.eprExit n).Canon := canonIte h.setPS.portEvent h

theorem State.Canon.eprEnter {s : State} {n : Nat} (h : s.Canon) : (s.eprEnter n).Canon := h.setPS.portEvent

theorem State.Canon.stopTimer {s : State} {n : Nat} {t : PdTimer} (h : s.Canon) : (s.stopTimer n t).Canon := h.setPort

theorem State.Canon.ownDone {s : State} {n : Nat} (h : s.Canon) : (s.ownDone n).Canon := h.setPort.stopTimer

theorem State.Canon.sourceMove {s : State} {n rdo mv ma : Nat} {pps : Bool} (h : s.Canon) : (s.sourceMove n rdo mv ma pps).Canon :=
  h.setPort.ownDone.setPe

theorem State.Canon.vconnTaken {s : State} {n : Nat} (h : s.Canon) : (s.vconnTaken n).Canon :=
  canonIte h.setPort h.setPS.pdCtl.portEvent

theorem State.Canon.drDone {s : State} {n : Nat} (h : s.Canon) : (s.drDone n).Canon := h.setPS.portEvent

theorem State.Canon.hostSent {s : State} {n cpl : Nat} {data : List Byte} (h : s.Canon) : (s.hostSent n cpl data).Canon := by
  simp only [State.hostSent]
  exact canonIte (canonIte h.setPort.setPort.ownSent h.setPort) (canonIte (canonIte ((by
      split
      · exact h.setPort
      · exact canonIte (canonIte h.setPort.setPort (canonIte h.setPort.drDone (canonIte h.setPort.vconnTaken h.setPort))) ((by
          split
          · exact h.setPort.sourceMove
          · exact h.setPort)))) (canonIte h.setPort h.setPort.ownSent)) (canonIte (bindCanon h.setPort.setPort fun h1 => canonIte
              h1.ownSent h1) (canonIte (bindCanon h.setPort.setPort.ownSent fun h2 => (by
      split
      · exact h2.setPort
      · exact h2)) (canonIte (canonIte h.setPort.eprEnter (canonIte h.setPort.eprExit h.setPort)) (canonIte h.setPort.vdmSent
          h.setPort)))))

theorem State.Canon.pdExt {s : State} {n : Nat} {sopP : Bool} {typ : Nat} {data : List Byte} (h : s.Canon) : (s.pdExt n sopP typ
    data).Canon :=
  h.each (fun _ _ h0 => h0.pdSend)

theorem State.Canon.sendHost {s : State} {n : Nat} {sopP : Bool} {cpl : Nat} {data : List Byte} (h : s.Canon) : (s.sendHost n sopP cpl
    data).Canon :=
  canonIte h.pdExt h.pdSend

theorem State.Canon.sendPd {s : State} {pair : Nat} {entries : List (List Byte)} {goodCrc : Bool} (h : s.Canon) : (s.sendPd pair entries
    goodCrc).Canon := by
  simp only [State.sendPd]
  exact canonIte h.pdComplete (canonIte h.setPort.pdComplete (canonIte (canonIte h.sendSoft.pdComplete h.bump.pdComplete.sendHard)
      (bindCanon h.sendHost fun h0 => canonIte (bindCanon h0.pdComplete fun h1 => canonIte h1.setPort h1.hostSent) (bindCanon
      (State.Canon.setPort (by
      split
      · exact h0.emits
      · exact h0)).bump.pdComplete fun h4 => canonIte h4 h4.portFailure))))

theorem execSend_wf {pair : Fin 32} {entries : List (List Byte)} {goodCrc : Bool} {s : State} (h : s.Canon) : OutCanon (execSend pair
    entries goodCrc s) :=
  h.act (fun _ h0 => canonIte h0 ((h0.foldl (fun _ _ h1 => h1.takeEntry)).sendPd))

theorem execBcDetectionDone_wf {n : Fin 3} {r : Fin 4} {s : State} (h : s.Canon) : OutCanon (execBcDetectionDone n r s) :=
  h.act (fun _ h0 => canonIte (bindCanon h0.setPS.setPort fun h1 => (canonIte h1.setPort h1).portEvent) h0)

theorem execDetachDischarged_wf {n : Fin 3} {s : State} (h : s.Canon) : OutCanon (execDetachDischarged n s) :=
  h.act (fun _ h0 => canonIte h0.enterUnattached.portEvent h0)

theorem execPortDetach_wf {n : Fin 3} {byVbus : Bool} {s : State} (h : s.Canon) : OutCanon (execPortDetach n byVbus s) :=
  h.act (fun _ h0 => canonIte (canonIte h0 h0.setPort) (canonIte (canonIte h0 h0.enterUnattached) (canonIte h0
      h0.portDrop.vconnOff.setPort)))

theorem State.Canon.frsFailed {s : State} {n step : Nat} (h : s.Canon) : (s.frsFailed n step).Canon :=
  h.portEvent.enterErrorRecovery.raise

theorem execFrsFail_wf {n : Fin 3} {s : State} (h : s.Canon) : OutCanon (execFrsFail n s) :=
  h.act (fun _ h0 => canonIte h0.frsFailed h0)

theorem State.Canon.learnRev {s : State} {n cpl : Nat} (h : s.Canon) : (s.learnRev n cpl).Canon :=
  bindCanon h.setPort.stopTimer fun h0 => canonIte h0.setPS h0

theorem State.Canon.pdAck {s : State} {n : Nat} {sopP : Bool} {cpl : Nat} (h : s.Canon) : (s.pdAck n sopP cpl).1.Canon :=
  canonIteFst h (bindCanon h.emit.setPort fun h1 => (canonIte (canonIte h1.setPort h1) h1.learnRev))

theorem execFrsDone_wf {n : Fin 3} {header : Nat} {s : State} (h : s.Canon) : OutCanon (execFrsDone n header s) :=
  h.act (fun _ h0 => canonIte h0.pdAck.setPS.setPS.setPS.pdCtl.setPS.wrN.wrN.setPort.setSupState.portEvent h0.pdAck)

theorem State.Canon.cmpOf {s : State} {n num den : Nat} {boost : Bool} (h : s.Canon) : (s.cmpOf n num den boost).2.Canon :=
  canonIteSnd h.update h

theorem State.Canon.modulate {s : State} {n : Nat} {rev : Bool} {u vs : Nat} (h : s.Canon) : (s.modulate n rev u vs).2.2.Canon := by
  simp only [State.modulate, apply_ite Prod.snd, ite_self]
  exact canonIte (canonIte h.cmpOf.cmpOf h.cmpOf.cmpOf) (canonIte h.cmpOf h.cmpOf)

theorem State.Canon.preload {s : State} {n : Nat} (h : s.Canon) : (s.preload n).Canon := h.modulate.setStage

theorem State.Canon.presetHist {s : State} {n mv : Nat} (h : s.Canon) : (s.presetHist n mv).Canon := h.setStage

theorem State.Canon.enterRun {s : State} {n : Nat} {rev : Bool} (h : s.Canon) : (s.enterRun n rev).Canon :=
  h.setStageState.setF.setF.presetHist.setStage.preload.showLoad

theorem State.Canon.loadSet {s : State} {n : Nat} {rev : Bool} (h : s.Canon) : ∀ t ∈ s.loadSet n rev, t.Canon := by
  simp only [State.loadSet]
  split
  · exact inSome h.applyShadow
  · exact inMap fun _ _ => bindCanon (h.foldl (fun _ _ h0 => h0.wrN)) fun h1 => (canonIte h1.hwSet h1).applyShadow

theorem State.Canon.leaveReady {s : State} {n : Nat} {rev : Bool} {go : State → State} (h : s.Canon) (hg0 : ∀ x0, x0.Canon → (go
    x0).Canon) : (s.leaveReady n rev go).Canon := by
  simp only [State.leaveReady]
  split
  · exact h.raise
  · split
    · exact h.raise
    · next heq =>
      exact hg0 _ (h.loadSet _ heq)

theorem State.Canon.frsBegin {s : State} {n : Nat} (h : s.Canon) : (s.frsBegin n).Canon :=
  (h.loseSupply.foldl (fun _ _ h1 => (canonIte h1.stopStage h1).wrN)).setPort.setPS.trigReval

theorem execFrsSignal_wf {n : Fin 3} {s : State} (h : s.Canon) : OutCanon (execFrsSignal n s) :=
  h.act (fun _ h0 => canonIte h0 (bindCanon h0.frsBegin fun h1 => bindCanon (canonIte (h1.leaveReady (fun _ h2 => h2.enterRun)) h1) fun
      h3 => canonIte h3.pdCtl h3.frsFailed))

theorem execPdSrcTransition_wf {n : Fin 3} {s : State} (h : s.Canon) : OutCanon (execPdSrcTransition n s) :=
  h.act (fun _ h0 => canonIte h0.sendHard.raise h0)

theorem State.Canon.applyContract {s : State} {n : Nat} (h : s.Canon) : (s.applyContract n).Canon :=
  bindCanon h.wrN.wrN.setPS.setPort.stopTimer fun h2 => (canonIte h2.setPort h2.setPort.setPortFloor.startQualify).portEvent

theorem execSrcTransitionSettled_wf {n : Fin 3} {s : State} (h : s.Canon) : OutCanon (execSrcTransitionSettled n s) :=
  h.act (fun _ h0 => canonIte h0.pdCtl.setPort.applyContract.setPe h0)

theorem State.Canon.pdUnsupported {s : State} {n : Nat} (h : s.Canon) : (s.pdUnsupported n).Canon := h.pdCtl

theorem execHpLate_wf {n : Fin 3} {header : Nat} {s : State} (h : s.Canon) : OutCanon (execHpLate n header s) :=
  h.act (fun _ h0 => canonIte ((canonIte h0.pdCtl h0.pdUnsupported).setPort.bump.portEvent.raise) h0)

theorem execEprKeepalive_wf {n : Fin 3} {s : State} (h : s.Canon) : OutCanon (execEprKeepalive n s) :=
  h.act (fun _ h0 => canonIte h0.pdExt h0)

theorem State.Canon.pdData {s : State} {n typ : Nat} {data : List Byte} (h : s.Canon) : (s.pdData n typ data).Canon := h.pdSend

theorem execPpsRequestRepeat_wf {n : Fin 3} {s : State} (h : s.Canon) : OutCanon (execPpsRequestRepeat n s) :=
  h.act (fun _ h0 => canonIte h0.setPort.pdData.ownSent h0)

theorem State.Canon.endSinkRecovery {s : State} {n : Nat} (h : s.Canon) : (s.endSinkRecovery n).Canon := h.setPort.sinkStart

theorem State.Canon.awaitCaps {s : State} {n : Nat} (h : s.Canon) : (s.awaitCaps n).Canon := h.stopTimer.startTimer.setPe

theorem State.Canon.noGoodCrc {s : State} {n : Nat} (h : s.Canon) : (s.noGoodCrc n).Canon := by
  simp only [State.noGoodCrc]
  exact bindCanon (State.Canon.setPort (by
      split
      · exact h.emits
      · exact h)) fun h1 => canonIte h1 (canonIte h1.awaitCaps (canonIte h1.sendHard h1.portFailure))

theorem State.Canon.sendCaps {s : State} {n : Nat} (h : s.Canon) : (s.sendCaps n).Canon := h.setPort.pdData.stopTimer.startTimer.setPe

theorem State.Canon.ladderEnd {s : State} {n : Nat} (h : s.Canon) : (s.ladderEnd n).Canon :=
  canonIte h.ladderRecovery (bindCanon h.setPort.portEvent fun h0 => canonIte ((canonIte h0.sourceStart h0).setPe)
      h0.setPe.implicitSupply)

theorem State.Canon.senderResponse {s : State} {n : Nat} (h : s.Canon) : (s.senderResponse n).Canon :=
  canonIte h.sendHard (canonIte h.sendSoft h)

theorem State.Canon.pdExpired {s : State} {n : Nat} {t : PdTimer} (h : s.Canon) : (s.pdExpired n t).Canon := by
  simp only [State.pdExpired]
  split
  · exact canonIte h h.senderResponse
  · exact canonIte h.sendHard h
  · exact canonIte h.sendHard h
  · exact canonIte h.sendHard h
  · exact canonIte h.sendHard h
  · exact canonIte h (canonIte h.ladderEnd h.sendHard)
  · exact canonIte h (canonIte h.sendCaps h.setPe)
  · exact canonIte h.sendHard h
  · exact canonIte h.sendHard h
  · exact canonIte h.setPe.pdData.setPort.startTimer h
  · exact h.noGoodCrc
  · exact canonIte h.endSinkRecovery h
  · exact canonIte h.setPort.sourceStart h
  · exact h.setPort
  · exact h
  · exact h
  · exact h
  · exact h
  · exact h
  · exact h
  · exact h

theorem State.Canon.tryExpired {s : State} {n : Nat} {t : PdTimer} (h : s.Canon) : (s.tryExpired n t).Canon :=
  canonIte (canonIte h.setPort.setPS h) (canonIte (canonIte h.setPort.setPS.startTimer h) (canonIte h.enterUnattached h))

theorem execPdTimerExpiry_wf {n : Fin 3} {t : PdTimer} {s : State} (h : s.Canon) : OutCanon (execPdTimerExpiry n t s) :=
  h.act (fun _ h0 => canonIte h0 (bindCanon h0.stopTimer fun h1 => canonIte (canonIte h1 (canonIte h1.setPort h1.enterUnattached))
      (canonIte h1.tryExpired (canonIte h1 h1.pdExpired))))

theorem execPrSwap_wf {n : Fin 3} {s : State} (h : s.Canon) : OutCanon (execPrSwap n s) :=
  h.act (fun _ h0 => canonIte (bindCanon h0.portDrop.setPort fun h2 => canonIte h2 h2.startTimer) h0)

theorem execHardResetRx_wf {n : Fin 3} {s : State} (h : s.Canon) : OutCanon (execHardResetRx n s) :=
  h.act (fun _ h0 => canonIte h0.bump.hardRecovery.raise.portEvent h0)

theorem State.Canon.autoVdm {s : State} {n vdm : Nat} (h : s.Canon) : (s.autoVdm n vdm).Canon :=
  canonIte (canonIte h.pdCtl h) (canonIte h (canonIte h.pdData h.pdData))

theorem State.Canon.unexpected {s : State} {n : Nat} (h : s.Canon) : (s.unexpected n).Canon := canonIte h.portFailure h

theorem State.Canon.autoMessage {s : State} {n : Nat} {m : PdMsg} (h : s.Canon) : (s.autoMessage n m).Canon :=
  canonIte h.pdUnsupported (canonIte (canonIte (bindCanon h.stopTimer fun h0 => bindCanon (canonIte h0.startTimer h0) fun h1 => canonIte
      h1.setPe h1.startTimer.setPe) (canonIte (canonIte h.pdCtl.drDone h.pdCtl) (canonIte (canonIte h.pdCtl.setPort h.pdCtl) (canonIte
      (canonIte h.pdCtl.vconnTaken h.pdCtl) (canonIte (canonIte h.pdData h.pdUnsupported) (canonIte (canonIte h.pdData h.pdUnsupported)
      (canonIte h.pdUnsupported (canonIte h h.unexpected)))))))) (canonIte h.autoVdm (canonIte h.pdUnsupported (canonIte h
      h.unexpected))))

theorem State.Canon.askChunks {s : State} {n : Nat} {m : PdMsg} (h : s.Canon) : (s.askChunks n m).Canon :=
  h.each (fun _ _ h0 => h0.pdSend)

theorem State.Canon.awaitHost {s : State} {n header : Nat} (h : s.Canon) : (s.awaitHost n header).Canon := h.setPort

theorem State.Canon.vdmRx {s : State} {n vdm : Nat} (h : s.Canon) : (s.vdmRx n vdm).Canon := h.stopTimer.stopTimer.stopTimer.trackMode

theorem State.Canon.portForward {s : State} {n : Nat} {m : PdMsg} (h : s.Canon) : (s.portForward n m).Canon :=
  h.complete.foldl (fun _ _ h1 => h1.complete)

theorem State.Canon.hostMessage {s : State} {n : Nat} {m : PdMsg} (h : s.Canon) : (s.hostMessage n m).Canon :=
  canonIte h.pdExt (canonIte h (canonIte h.pdCtl (bindCanon (canonIte h.ownDone h) fun h0 => canonIte h0.pdData (bindCanon h0.portForward
      fun h1 => bindCanon (canonIte h1.setPort h1) fun h2 => bindCanon (canonIte h2.vdmRx h2) fun h3 => bindCanon (canonIte h3.awaitHost
      (canonIte h3.ownDone h3)) fun h4 => canonIte (canonIte h4.eprEnter (canonIte h4.eprExit h4)) h4))))

theorem State.Canon.bistRx {s : State} {n obj : Nat} (h : s.Canon) : (s.bistRx n obj).Canon :=
  canonIte h (canonIte h.emit.setPort.startTimer (canonIte h.setPort h))

theorem State.Canon.identityAck {s : State} {n vdm : Nat} (h : s.Canon) : (s.identityAck n vdm).Canon := h.pdData

theorem State.Canon.restartPe {s : State} {n : Nat} (h : s.Canon) : (s.restartPe n).Canon :=
  bindCanon h.ownDone.setPort fun h0 => canonIte (canonIte h0 h0.sendCaps) (bindCanon h0.startTimer fun h1 => canonIte h1 h1.setPe)

theorem execPdMessageRx_wf {n : Fin 3} {m : PdMsg} {s : State} (h : s.Canon) : OutCanon (execPdMessageRx n m s) :=
  h.act (fun _ h0 => canonIte h0 (canonIte h0.pdAck (canonIte (canonIte h0.pdAck.portForward h0.pdAck) (canonIte (bindCanon
      h0.pdAck.pdCtl.bump.portEvent fun h3 => canonIte h3.sendHard h3.restartPe) (canonIte h0.pdAck.portFailure (canonIte
      h0.pdAck.pdUnsupported (canonIte h0.pdAck.pdUnsupported (canonIte h0.pdAck.identityAck (canonIte h0.pdAck.bistRx (canonIte
      ((canonIte h0.pdAck.askChunks h0.pdAck).hostMessage) h0.pdAck.autoMessage))))))))))

theorem State.Canon.sourceFive {s : State} {n : Nat} (h : s.Canon) : (s.sourceFive n).Canon := h.setPort

theorem execPsRdyRx_wf {n : Fin 3} {header : Nat} {s : State} (h : s.Canon) : OutCanon (execPsRdyRx n header s) :=
  h.act (fun _ h0 => canonIte h0.pdAck (bindCanon (canonIte h0.pdAck.portForward h0.pdAck) fun h3 => canonIte (canonIte
      h3.setPS.setPS.stopTimer.setPort.sinkStart.portEvent h3.setPS.setPS.stopTimer.setPS.setPort.setPe.sourceFive) (canonIte
      h3.vconnOff.setPort.portEvent (canonIte h3.applyContract.setPe (canonIte h3 h3.unexpected)))))

theorem State.Canon.standbyPower {s : State} {n : Nat} (h : s.Canon) : (s.standbyPower n).Canon :=
  bindCanon (h.setPort.foldl (fun _ _ h1 => h1.wrN)) fun h2 => bindCanon (canonIte (h2.foldl (fun _ _ h3 => h3.fillHand))
      h2).stopTimer.startTimer fun h5 => canonIte h5.trigReval h5

theorem execAcceptRx_wf {n : Fin 3} {header : Nat} {s : State} (h : s.Canon) : OutCanon (execAcceptRx n header s) :=
  h.act (fun _ h0 => canonIte h0.pdAck (bindCanon (canonIte h0.pdAck.portForward h0.pdAck) fun h3 => canonIte (canonIte h3.setPort h3)
      (canonIte h3.portFailure (canonIte h3.restartPe (canonIte h3.ownDone.standbyPower.setPe (canonIte h3.ownDone.setPort (canonIte
      h3.ownDone.drDone (canonIte h3.ownDone.vconnTaken (canonIte h3 h3.unexpected)))))))))

theorem execRequestRx_wf {n : Fin 3} {m : PdMsg} {s : State} (h : s.Canon) : OutCanon (execRequestRx n m s) := by
  simp only [execRequestRx]
  exact h.act (fun _ h0 => canonIte h0.pdAck (bindCanon h0.pdAck.setPort fun h3 => canonIte h3.portFailure (canonIte
      h3.setPort.ownDone.portForward.awaitHost ((by
      split
      · exact h3.pdCtl.sourceMove
      · exact bindCanon h3.ownDone.pdCtl fun h4 => canonIte h4.setPe h4.awaitCaps)))))

theorem State.Canon.sendRequest {s : State} {n : Nat} {caps : List Nat} (h : s.Canon) : (s.sendRequest n caps).Canon :=
  h.setPort.setPe.pdData.startTimer

theorem execSourceCapabilitiesRx_wf {n : Fin 3} {m : PdMsg} {s : State} (h : s.Canon) : OutCanon (execSourceCapabilitiesRx n m s) :=
  h.act (fun _ h0 => canonIte h0.pdAck (canonIte (canonIte h0.pdAck.ownDone.portForward h0.pdAck) (canonIte h0.pdAck.portFailure
      (bindCanon (canonIte h0.pdAck.endSinkRecovery h0.pdAck).setPort.stopTimer fun h4 => canonIte h4.portForward.awaitHost (canonIte
      h4.sendRequest h4)))))

theorem execPortCfgWrite_wf {p : Path} {n : Fin 3} {v : Word} {s : State} (h : s.Canon) : OutCanon (execPortCfgWrite p n v s) :=
  h.act (fun _ h0 => h0.inOrder (fun _ _ h1 => h1.writePortCfg))

theorem State.Canon.cableFound {s : State} {n : Nat} {r : Option CableId} (h : s.Canon) :
    State.Canon (match r with
      | none => s
      | some a => (s.pdAck n true a.header).1.wrN (R.PORT_CABLE n) (1 + 2 * boolNat a.a5 + 4 * boolNat a.epr)) := by
  cases r with
  | none => exact h
  | some a => exact h.pdAck.wrN

theorem execCableDiscovery_wf {n : Fin 3} {r : Option CableId} {s : State} (h : s.Canon) : OutCanon (execCableDiscovery n r s) :=
  h.act fun _ hu => canonIte (State.Canon.cableFound hu.pdSend.setPort) hu

theorem execVconnOc_wf {n : Fin 3} {acts : Bool} {s : State} (h : s.Canon) : OutCanon (execVconnOc n acts s) :=
  h.act (fun _ h0 => bindCanon h0.setPort fun h1 => canonIte h1.vconnOff.raise h1)

theorem execPortOv_wf {n : Fin 3} {mv : Nat} {s : State} (h : s.Canon) : OutCanon (execPortOv n mv s) := by
  simp only [execPortOv]
  exact h.act (fun _ h0 => bindCanon h0.setSupV fun h1 => canonIte ((canonIte (State.Canon.sendHard (by
      split
      · exact h1.openSwitch
      · exact h1)) (by
      split
      · exact h1.openSwitch
      · exact h1)).raise) h1)

theorem execVbusNotSafe0v_wf {n : Fin 3} {s : State} (h : s.Canon) : OutCanon (execVbusNotSafe0v n s) :=
  h.act (fun _ h0 => canonIte h0.enterErrorRecovery.raise h0)

theorem execVbusSafe0v_wf {n : Fin 3} {s : State} (h : s.Canon) : OutCanon (execVbusSafe0v n s) :=
  h.act (fun _ h0 => canonIte (bindCanon h0.setPort fun h1 => canonIte h1.startTimer (canonIte h1.pdCtl.startTimer h1.sourceFive)) h0)

theorem execCcOv_wf {n : Fin 3} {pin : Fin 2} {mv : Nat} {s : State} (h : s.Canon) : OutCanon (execCcOv n pin mv s) :=
  h.act (fun _ h0 => canonIte h0.enterErrorRecovery.setPort.raise h0)

theorem execDrpToggle_wf {n : Fin 3} {s : State} (h : s.Canon) : OutCanon (execDrpToggle n s) :=
  h.act (fun _ h0 => canonIte h0.setPort h0)

theorem State.Canon.ccPartner {s : State} {n : Nat} {o : AttachObs} (h : s.Canon) : (s.ccPartner n o).Canon :=
  canonIte (canonIte h.setPort.setPS h) (canonIte (canonIte h (canonIte h.setPort.startTimer.startTimer.setPS h.attach)) (canonIte
      (canonIte h (canonIte h.setPort.startTimer.startTimer.setPS h.attach)) (canonIte h.attach (canonIte (canonIte h.attach h) (canonIte
      (canonIte h.attach h.setPort) h)))))

theorem State.Canon.newRp {s : State} {n : Nat} {o : AttachObs} (h : s.Canon) : (s.newRp n o).Canon := canonIte h.setPS.setPort h.setPS

theorem execPortAttach_wf {n : Fin 3} {o : AttachObs} {s : State} (h : s.Canon) : OutCanon (execPortAttach n o s) :=
  h.act (fun _ h0 => canonIte (canonIte h0 h0.setSupV.setPort) (canonIte h0.newRp (canonIte h0 h0.ccPartner)))

theorem execCanBusOffRecovery_wf {n : Fin 2} {s : State} (h : s.Canon) : OutCanon (execCanBusOffRecovery n s) :=
  h.act (fun _ h0 => canonIte h0.leaveBusOff h0)

theorem execCanBusOff_wf {n : Fin 2} {s : State} (h : s.Canon) : OutCanon (execCanBusOff n s) :=
  h.act (fun _ h0 => canonIte h0.setF.bump.raise h0)

theorem execLongPressEnd_wf {s : State} (h : s.Canon) : OutCanon (execLongPressEnd s) := by
  simp only [execLongPressEnd]
  exact h.act (fun _ h0 => canonIte (h0.update.each (fun _ _ h2 => (by
      split
      · exact canonIte h2 h2.setPsw
      · exact h2))) h0)

theorem execLongPress_wf {sourcePresent : Bool} {w : NvmCut} {s : State} (h : s.Canon) : OutCanon (execLongPress sourcePresent w s) := by
  simp only [execLongPress]
  exact outIte (outNext h) ((by
      split
      · exact outIte (outNext (h.update.each (fun _ _ h1 => (by
          split
          · exact h1.forceOpen
          · exact h1))).raise.settle) (outNext (h.update.each (fun _ _ h1 => (by
          split
          · exact h1.forceOpen
          · exact h1))).cutPower.powerFail)
      · exact outIte (outNext h.update) (outNext h.update.update)
      · exact outNext h
      · exact outNext h))

theorem execShipWake_wf {src : WakeSrc} {s : State} (h : s.Canon) : OutCanon (execShipWake src s) := by
  simp only [execShipWake]
  split
  · exact outIte (outNext h) (outNext ((((canonIte h.pbPressed h).afterReset).hwSet).settle))
  · exact outNext h
  · exact outNext h
  · exact outNext h

theorem execShipEnter_wf {p : Path} {s : State} (h : s.Canon) : OutCanon (execShipEnter p s) :=
  h.act (fun _ h0 => canonIte h0.requestShip h0.hwDenied)

theorem execTilthTimeout_wf {i : Fin 4} {s : State} (h : s.Canon) : OutCanon (execTilthTimeout i s) :=
  h.act (fun _ h0 => canonIte h0.endSweep h0)

theorem State.Canon.sweepComplete {s : State} {i : Nat} (h : s.Canon) : (s.sweepComplete i).Canon :=
  canonIte h.endSweep (bindCanon h.endSweep.wrN.setPack.setF.wr64.writeHealth fun h4 => canonIte h4.raise h4)

theorem State.Canon.pointZ {s : State} {o : TilthObs} (h : s.Canon) : (s.pointZ o).2.2.Canon := h.quot.quot

theorem execTilthPointDone_wf {i : Fin 4} {o : TilthObs} {s : State} (h : s.Canon) : OutCanon (execTilthPointDone i o s) := by
  simp only [execTilthPointDone]
  exact h.act (fun _ h0 => canonIte h0 (canonIte h0.tilthShow (canonIte h0 (canonIte (canonIte h0.endSweep h0.setPack.tilthShow)
      (bindCanon h0.pointZ.wrN.wrN.addF.setPack fun h4 => (by
      split
      · exact h4.setF.tilthShow
      · exact h4.sweepComplete))))))

theorem execTilthAbort_wf {p : Path} {i : Fin 4} {s : State} (h : s.Canon) : OutCanon (execTilthAbort p i s) :=
  h.act (fun _ h0 => h0.endSweep)

theorem execTilthIntervalExpiry_wf {i : Fin 4} {s : State} (h : s.Canon) : OutCanon (execTilthIntervalExpiry i s) :=
  h.act (fun _ h0 => canonIte h0.startSweep h0)

theorem execTilthStart_wf {p : Path} {i : Fin 4} {s : State} (h : s.Canon) : OutCanon (execTilthStart p i s) :=
  h.act (fun _ h0 => h0.startSweep)

theorem execPackHealthWrite_wf {i : Fin 4} {restMv : Nat} {bad : Option (Fin 8)} {s : State} (h : s.Canon) : OutCanon
    (execPackHealthWrite i restMv bad s) :=
  h.act (fun _ h0 => canonIte h0 (bindCanon h0.setPack fun h1 => canonIte h1.writeHealth h1))

theorem execPackReinsert_wf {i : Fin 4} {s : State} (h : s.Canon) : OutCanon (execPackReinsert i s) :=
  h.act (fun _ h0 => canonIte h0.enterIdent h0)

theorem State.Canon.lapseLimits {s : State} {i : Nat} (h : s.Canon) : (s.lapseLimits i).Canon := h.setPack

theorem execPackLinkLost_wf {i : Fin 4} {s : State} (h : s.Canon) : OutCanon (execPackLinkLost i s) :=
  h.act (fun _ h0 => canonIte h0.setF.setF.lapseLimits.setPack.chargeDemand.raise h0)

theorem State.Canon.smbFailed {s : State} {i : Nat} {f : SmbFail} (h : s.Canon) : (s.smbFailed i f).Canon := h.bump

theorem State.Canon.setZone {s : State} {i z : Nat} (h : s.Canon) : (s.setZone i z).Canon := h.setF

theorem State.Canon.setAlarms {s : State} {i : Nat} {chgOff hot dsgOff : Bool} (h : s.Canon) : (s.setAlarms i chgOff hot dsgOff).Canon :=
  bindCanon (canonIte h.setPack.setZone h.setPack) fun h1 => (canonIte h1.raise h1).chargeDemand

theorem State.Canon.risingAlarms {s : State} {i old new : Nat} {bits : List Nat} (h : s.Canon) : (s.risingAlarms i old new bits).Canon :=
  h.foldl (fun _ _ h0 => canonIte h0.raise h0)

theorem State.Canon.capMj {s : State} {capMode : Bool} {designMv cap : Nat} (h : s.Canon) : (s.capMj capMode designMv cap).2.Canon :=
  canonIteSnd h (canonIteSnd h h.update)

theorem State.Canon.setLinkTemp {s : State} {i : Nat} {t : Int} (h : s.Canon) : (s.setLinkTemp i t).Canon := h.setF.setF

theorem State.Canon.applyPoll {s : State} {i : Nat} {p : SmbPoll} {slow : Bool} (h : s.Canon) : (s.applyPoll i p slow).Canon :=
  bindCanon h.setPack.setF.setLinkTemp.wrN.setF.setF.setF.capMj.setERem.setPack fun h7 => (canonIte h7.capMj.setPack.setF.showEFull
      h7).risingAlarms.setAlarms

theorem State.Canon.smbSend {s : State} {i : Nat} {reads : List (Nat × Nat × List Byte)} {again : List (Fin 10 × SmbFail)} (h : s.Canon)
    : (s.smbSend i reads again).Canon := by
  simp only [State.smbSend]
  exact h.foldl (fun _ _ h0 => (by
      split
      · exact h0.emit.smbFailed.emit
      · exact h0.emit))

theorem execPackPoll_wf {i : Fin 4} {r : PollResult} {s : State} (h : s.Canon) : OutCanon (execPackPoll i r s) := by
  simp only [execPackPoll]
  exact h.act (fun _ h0 => canonIte h0 ((by
      split
      · exact canonIte h0 (bindCanon h0.smbSend.setPack fun h1 => canonIte h1.applyPoll h1.enterIdent)
      · exact canonIte h0 (bindCanon h0.smbSend.smbFailed.setPack fun h3 => canonIte h3.enterIdent h3))))

theorem State.Canon.applyStatus {s : State} {i : Nat} {d : List Byte} (h : s.Canon) : (s.applyStatus i d).Canon :=
  h.setPack.setF.setLinkTemp.wrN.wrN.setF.setERem.setF.risingAlarms.setAlarms

theorem execPackStatusFrame_wf {i : Fin 4} {n : Fin 2} {f : CanFrame} {s : State} (h : s.Canon) : OutCanon (execPackStatusFrame i n f s)
    :=
  h.act (fun _ h0 => canonIte (canonIte h0.bump.setPack (bindCanon h0.setPack fun h1 => canonIte h1.applyStatus ((canonIte h1.enterIdent
      h1).setPack))) h0)

theorem State.Canon.identify {s : State} {i id chem full : Nat} {design : Option Nat} (h : s.Canon) : (s.identify i id chem full
    design).Canon := by
  simp only [State.identify]
  exact bindCanon h.wrN.setPack.setF.setF.showEFull fun h3 => canonIte (canonIte h3.endSweep.unknownHealth.restartPhase.showRefs.raise
      (canonIte ((by
      split
      · exact h3.recordHealth
      · exact h3.unknownHealth)) h3)).raise (canonIte h3.endSweep.unknownHealth.restartPhase.showRefs.raise (canonIte ((by
      split
      · exact h3.recordHealth
      · exact h3.unknownHealth)) h3))

theorem execPackIdentityFrame_wf {i : Fin 4} {n : Fin 2} {f : CanFrame} {s : State} (h : s.Canon) : OutCanon (execPackIdentityFrame i n f
    s) :=
  h.act (fun _ h0 => canonIte (canonIte h0.setF.setPack.showEFull (bindCanon h0.setF.identify fun h2 => canonIte h2.applyStatus h2)) h0)

theorem execPackIdentDone_wf {i : Fin 4} {o : SmbIdent} {s : State} (h : s.Canon) : OutCanon (execPackIdentDone i o s) :=
  h.act (fun _ h0 => canonIte h0.emits.capMj.capMj.setPack.identify h0)

theorem execLinkCfgWrite_wf {p : Path} {i : Fin 4} {v : Word} {s : State} (h : s.Canon) : OutCanon (execLinkCfgWrite p i v s) :=
  h.act (fun _ h0 => h0.inOrder (fun _ _ h1 => h1.hwDenied.writeLinkCfg))

theorem execChgFaultRead_wf {p : Path} {i : Fin 4} {s : State} (h : s.Canon) : OutCanon (execChgFaultRead p i s) :=
  h.act (fun _ h0 => h0.emit.setF)

theorem execChgClear_wf {p : Path} {i : Fin 4} {s : State} (h : s.Canon) : OutCanon (execChgClear p i s) :=
  h.act (fun _ h0 => h0.clearLatch)

theorem execChgCfgWrite_wf {p : Path} {i : Fin 4} {v : Word} {s : State} (h : s.Canon) : OutCanon (execChgCfgWrite p i v s) :=
  h.act (fun _ h0 => h0.inOrder (fun _ _ h1 => h1.writeChgCfg))

theorem execChgWdtExpiry_wf {i : Fin 4} {s : State} (h : s.Canon) : OutCanon (execChgWdtExpiry i s) := h.act (fun _ h0 => h0.expireChg)

theorem execChgWdtKick_wf {p : Path} {i : Fin 4} {v : Word} {s : State} (h : s.Canon) : OutCanon (execChgWdtKick p i v s) :=
  h.act (fun _ h0 => h0.kickChg)

theorem State.Canon.latchCharge {s : State} {i id : Nat} {record : List Byte} (h : s.Canon) : (s.latchCharge i id record).Canon :=
  (canonIte h h.wrN.update.bbQueue).lockCharge.raise

theorem State.Canon.enterPhase {s : State} {i q : Nat} (h : s.Canon) : (s.enterPhase i q).Canon :=
  bindCanon h.setF.clearPhase fun h0 => bindCanon (canonIte h0.setChState (canonIte h0.setChState h0.setChState)) fun h1 => (canonIte
      (bindCanon h1.incCounter fun h2 => canonIte h2 h2.setERem.setPack) h1).endAtRest.showRefs

theorem execChgTimerExpiry_wf {i : Fin 4} {s : State} (h : s.Canon) : OutCanon (execChgTimerExpiry i s) :=
  h.act (fun _ h0 => canonIte (canonIte h0.enterPhase h0.latchCharge) h0)

theorem State.Canon.showPlanning {s : State} {i : Nat} (h : s.Canon) : (s.showPlanning i).Canon := h.wrN.wr64

theorem State.Canon.pauseEval {s : State} {i : Nat} (h : s.Canon) : (s.pauseEval i).Canon :=
  canonIte h.leaveCharging.setPack.showRefs (canonIte h.setChState.setPack.showRefs h)

theorem State.Canon.countTimers {s : State} {i : Nat} (h : s.Canon) : (s.countTimers i).Canon :=
  canonIte (canonIte h.setPack.wrN.setF.setF h.setPack.wrN.setF) h

theorem State.Canon.trackPeak {s : State} {i : Nat} (h : s.Canon) : (s.trackPeak i).Canon :=
  canonIte h (canonIte h.setF.setF h.setF.setF)

theorem State.Canon.showDtdt {s : State} {i : Nat} (h : s.Canon) : (s.showDtdt i).Canon := h.setPack.setF

theorem execChgExitEval_wf {i : Fin 4} {o : ChgObs} {s : State} (h : s.Canon) : OutCanon (execChgExitEval i o s) :=
  h.act (fun _ h0 => bindCanon h0.setPack.showDtdt fun h2 => (canonIte h2 (canonIte (bindCanon (canonIte h2.countTimers.trackPeak
      h2).setPack fun h4 => canonIte h4.enterPhase h4.pauseEval) h2.pauseEval)).showPlanning.secMark)

theorem execProfileCheckDone_wf {i : Fin 4} {s : State} (h : s.Canon) : OutCanon (execProfileCheckDone i s) :=
  h.act (fun _ h0 => canonIte h0.finishProfile h0)

theorem execProfileCommit_wf {p : Path} {i : Fin 4} {s : State} (h : s.Canon) : OutCanon (execProfileCommit p i s) :=
  h.act (fun _ h0 => h0.commitProfile)

theorem State.Canon.noteNtc {s : State} {i rNtc : Nat} (h : s.Canon) : (s.noteNtc i rNtc).Canon := h.setPack

theorem execNtcRecovered_wf {i : Fin 4} {rNtc : Nat} {s : State} (h : s.Canon) : OutCanon (execNtcRecovered i rNtc s) :=
  h.act (fun _ h0 => bindCanon h0.noteNtc fun h1 => canonIte h1.setPack.causeGone h1)

theorem execNtcFault_wf {i : Fin 4} {rNtc : Nat} {s : State} (h : s.Canon) : OutCanon (execNtcFault i rNtc s) :=
  h.act (fun _ h0 => canonIte h0 (bindCanon h0.noteNtc fun h1 => canonIte h1 (bindCanon h1.setPack.latchCharge fun h3 => canonIte h3
      h3.setZone)))

theorem State.Canon.ntcTemp {s : State} {i rNtc : Nat} (h : s.Canon) : (s.ntcTemp i rNtc).2.Canon :=
  canonIteSnd h.update (canonIteSnd h h.update)

theorem State.Canon.staleTemp {s : State} {i : Nat} (h : s.Canon) : (s.staleTemp i).Canon := canonIte h.setF h

theorem execZoneEval_wf {i : Fin 4} {rNtc : Nat} {s : State} (h : s.Canon) : OutCanon (execZoneEval i rNtc s) :=
  h.act (fun _ h0 => canonIte h0 (bindCanon h0.staleTemp.noteNtc.ntcTemp fun h2 => (canonIte h2.setF.update
      h2.setF).setF.setZone.setPack))

theorem execTransferBackDone_wf {r : Fin 8} {s : State} (h : s.Canon) : OutCanon (execTransferBackDone r s) :=
  h.act (fun _ h0 => canonIte h0.setXfer.setF h0)

theorem execTransferBackStart_wf {r : Fin 8} {s : State} (h : s.Canon) : OutCanon (execTransferBackStart r s) := by
  simp only [execTransferBackStart]
  exact h.act (fun _ h0 => (by
      split
      · exact h0
      · exact canonIte h0.setXfer.setF.wr64 h0))

theorem execMpptNoPower_wf {s : State} (h : s.Canon) : OutCanon (execMpptNoPower s) := by
  simp only [execMpptNoPower]
  exact h.act (fun _ h0 => (by
      split
      · exact canonIte h0.update.raise h0
      · exact h0))

theorem State.Canon.mpptTimes {s : State} {meanMw : Nat} {limited : Bool} (h : s.Canon) : (s.mpptTimes meanMw limited).Canon := h.update

theorem execMpptSweep_wf {meanMw : Nat} {s : State} (h : s.Canon) : OutCanon (execMpptSweep meanMw s) :=
  h.act (fun _ h0 => canonIte h0 (canonIte h0.mpptStart (canonIte (canonIte h0.mpptStart h0) (bindCanon h0.mpptTimes fun h1 => bindCanon
      (canonIte h1.update h1) fun h2 => canonIte h2.wrN.setF.setVOp h2.setVOp))))

theorem execMpptStep_wf {meanMw : Nat} {s : State} (h : s.Canon) : OutCanon (execMpptStep meanMw s) :=
  h.act (fun _ h0 => canonIte h0 (canonIte h0.mpptStart (bindCanon (h0.foldl (fun _ _ h1 => h1.setStage)).update.mpptTimes fun h3 =>
      canonIte h3.setF h3.setF.setF.setVOp)))

theorem execRevHoldExpiry_wf {w : Fin 12} {s : State} (h : s.Canon) : OutCanon (execRevHoldExpiry w s) :=
  h.act (fun _ h0 => canonIte h0.setPsw h0)

theorem execPswReverseTrip_wf {w : Fin 12} {s : State} (h : s.Canon) : OutCanon (execPswReverseTrip w s) := by
  simp only [execPswReverseTrip]
  exact h.act (fun _ h0 => canonIte h0 (bindCanon h0.hwSet.bump fun h1 => bindCanon (canonIte h1.setPsw.raise.raise h1.setPsw.raise) fun
      h4 => (by
      split
      · exact (canonIte h4.hwSet h4).loseSupply.openSwitch.trigReval
      · exact h4.forceOpen)))

theorem State.Canon.freeLost {s : State} {x : Nat} (h : s.Canon) : (s.freeLost x).Canon := canonIte h.setSupState.startQualify h

theorem execHandoverComplete_wf {r : Fin 8} {s : State} (h : s.Canon) : OutCanon (execHandoverComplete r s) := by
  simp only [execHandoverComplete]
  exact h.act (fun _ h0 => canonIte ((State.Canon.setXfer (by
      split
      · exact h0.raise
      · exact h0)).setF.foldl (fun _ _ h3 => h3.freeLost)) h0)

theorem execInputDisable_wf {p : Path} {n : Fin 3} {s : State} (h : s.Canon) : OutCanon (execInputDisable p n s) :=
  h.act (fun _ h0 => h0.disableInput)

theorem execInputOv_wf {n : Fin 3} {mv : Nat} {s : State} (h : s.Canon) : OutCanon (execInputOv n mv s) := by
  simp only [execInputOv]
  exact h.act (fun _ h0 => bindCanon h0.setSupV fun h1 => (by
      split
      · exact canonIte h1.hwSet.loseSupply.raise h1
      · exact h1))

theorem execInputLoss_wf {x : Supply} {mv : Nat} {s : State} (h : s.Canon) : OutCanon (execInputLoss x mv s) := by
  simp only [execInputLoss]
  exact h.act (fun _ h0 => bindCanon h0.setSupV fun h1 => (by
      split
      · exact canonIte h1.loseSupply h1
      · exact h1))

theorem execPswGateTimeout_wf {w : Fin 12} {s : State} (h : s.Canon) : OutCanon (execPswGateTimeout w s) := by
  simp only [execPswGateTimeout]
  exact h.act (fun _ h0 => (by
      split
      · exact canonIte h0.openSwitch.setSupState.raise h0
      · exact canonIte h0.openSwitch.raise h0))

theorem State.Canon.sourceUp {s : State} {n : Nat} (h : s.Canon) : (s.sourceUp n).Canon :=
  bindCanon (canonIte h.setPS h) fun h0 => bindCanon (canonIte h0.pdCtl.setPort.portEvent h0) fun h1 => canonIte h1.sendCaps h1

theorem State.Canon.sourceCheck {s : State} {n : Nat} (h : s.Canon) : (s.sourceCheck n).Canon := canonIte h.setPort.sourceUp h

theorem State.Canon.inputFloor {s : State} {x : Nat} (h : s.Canon) : (s.inputFloor x).Canon := h.setFloor

theorem State.Canon.supplyOnline {s : State} {x : Nat} (h : s.Canon) : (s.supplyOnline x).Canon :=
  bindCanon h.setSupState.setSupply fun h0 => canonIte h0.inputFloor (canonIte (canonIte h0.mpptStart h0) h0)

theorem execPswGateOk_wf {w : Fin 12} {s : State} (h : s.Canon) : OutCanon (execPswGateOk w s) := by
  simp only [execPswGateOk]
  exact h.act (fun _ h0 => canonIte (canonIte ((by
      split
      · exact h0.setF
      · exact canonIte h0.setF.supplyOnline (canonIte h0.setF.setPort.sourceCheck h0.setF))) h0.setF) h0)

theorem execInputQualifyDone_wf {x : Supply} {s : State} (h : s.Canon) : OutCanon (execInputQualifyDone x s) :=
  h.act (fun _ h0 => canonIte (h0.each (fun _ _ h1 => h1.startClosing)) h0)

theorem execInputOutOfRange_wf {x : Supply} {mv : Nat} {s : State} (h : s.Canon) : OutCanon (execInputOutOfRange x mv s) :=
  h.act (fun _ h0 => bindCanon h0.setSupV fun h1 => canonIte h1.setSupState.setSupply h1)

theorem execInputInRange_wf {x : Supply} {mv : Nat} {s : State} (h : s.Canon) : OutCanon (execInputInRange x mv s) :=
  h.act (fun _ h0 => h0.setSupV.supRecover.startQualify)

theorem execRailSpWrite_wf {p : Path} {r : Fin 8} {v : Word} {s : State} (h : s.Canon) : OutCanon (execRailSpWrite p r v s) :=
  h.act (fun _ h0 => h0.inOrder (fun _ _ h1 => h1.writeRailSp))

theorem execVselSpWrite_wf {p : Path} {g : Fin 2} {k : Fin 8} {v : Word} {s : State} (h : s.Canon) : OutCanon (execVselSpWrite p g k v s)
    :=
  h.act (fun _ h0 => h0.inOrder (fun _ _ h1 => h1.writeVselSp))

theorem execVselCfgWrite_wf {p : Path} {g : Fin 2} {v : Word} {s : State} (h : s.Canon) : OutCanon (execVselCfgWrite p g v s) :=
  h.act (fun _ h0 => h0.inOrder (fun _ _ h1 => h1.writeVselCfg))

theorem execVselPattern_wf {g : Fin 2} {pat : Fin 8} {s : State} (h : s.Canon) : OutCanon (execVselPattern g pat s) :=
  h.act (fun _ h0 => h0.update.takePins)

theorem State.Canon.enterSoft {s : State} {n r : Nat} {rev : Bool} (h : s.Canon) : (s.enterSoft n r rev).Canon :=
  h.setStageState.setF.setF.presetHist.setF.setStage.preload.showLoad

theorem State.Canon.startStage {s : State} {n : Nat} {rev : Bool} (h : s.Canon) : (s.startStage n rev).Canon :=
  canonIte h (canonIte h (h.leaveReady (fun _ h0 => canonIte h0.enterRun h0.enterSoft)))

theorem State.Canon.autoStart {s : State} {r : Nat} (h : s.Canon) : (s.autoStart r).Canon := by
  simp only [State.autoStart]
  exact canonIte ((by
      split
      · exact h.setStage.startStage
      · exact h)) h

theorem execAutoOnStart_wf {r : Fin 8} {s : State} (h : s.Canon) : OutCanon (execAutoOnStart r s) := h.act (fun _ h0 => h0.autoStart)

theorem execHbIdentDone_wf {n : Fin 8} {flt : Fin 16} {imon : List Nat} {s : State} (h : s.Canon) : OutCanon (execHbIdentDone n flt imon
    s) :=
  h.act (fun _ h0 => h0.identStage)

theorem execHbFltAssert_wf {g : Fin 4} {s : State} (h : s.Canon) : OutCanon (execHbFltAssert g s) :=
  h.act (fun _ h0 => ((h0.foldl (fun _ _ h1 => canonIte h1.stopStage h1.tripStage)).strobe).raise)

theorem execCbcPersist_wf {n : Fin 8} {s : State} (h : s.Canon) : OutCanon (execCbcPersist n s) :=
  h.act (fun _ h0 => canonIte h0.tripStage.raise h0)

theorem State.Canon.cutChan {s : State} {n hb : Nat} {lv : PwmLevel} {cycles : Nat} (h : s.Canon) : (s.cutChan n hb lv cycles).Canon :=
  h.setStage

theorem State.Canon.cbcCut {s : State} {n hb : Nat} (h : s.Canon) : (s.cbcCut n hb).Canon :=
  (canonIte h.cutChan h.cutChan).setF.setStage

theorem execCbcCrossing_wf {hb : Fin 24} {mv : Nat} {s : State} (h : s.Canon) : OutCanon (execCbcCrossing hb mv s) := by
  simp only [execCbcCrossing]
  exact h.act (fun _ h0 => (by
      split
      · exact canonIte h0.cbcCut h0
      · exact h0))

theorem execStageIdleTimeout_wf {n : Fin 8} {s : State} (h : s.Canon) : OutCanon (execStageIdleTimeout n s) :=
  h.act (fun _ h0 => canonIte h0.stopStage h0)

theorem State.Canon.releaseChans {s : State} {n : Nat} (h : s.Canon) : (s.releaseChans n).Canon := h.foldl (fun _ _ h0 => h0.cutChan)

theorem State.Canon.measured {s : State} {node raw : Nat} (h : s.Canon) : (s.measured node raw).2.Canon := canonIteSnd h.quot h

theorem execReversalZeroCurrent_wf {n : Fin 8} {vCtl : Nat} {s : State} (h : s.Canon) : OutCanon (execReversalZeroCurrent n vCtl s) := by
  simp only [execReversalZeroCurrent]
  exact h.act (fun _ h0 => canonIte ((by
      split
      · exact h0.tripStage.raise
      · next heq =>
        exact (h0.loadSet _ heq).measured.setF.presetHist.releaseChans.setF.setStage.preload)) h0)

theorem execLoopApply_wf {p : Path} {n : Fin 8} {s : State} (h : s.Canon) : OutCanon (execLoopApply p n s) :=
  h.act (fun _ h0 => canonIte h0.setStage h0.applyShadow)

theorem execLoopSat_wf {n : Fin 8} {s : State} (h : s.Canon) : OutCanon (execLoopSat n s) :=
  h.act (fun _ h0 => canonIte h0.tripStage.raise h0)

theorem execStartShortCheck_wf {n : Fin 8} {vOut : Nat} {s : State} (h : s.Canon) : OutCanon (execStartShortCheck n vOut s) :=
  h.act (fun _ h0 => canonIte (bindCanon h0.measured.setStage fun h3 => canonIte h3.tripStage.raise (canonIte h3.raise h3)) h0)

theorem State.Canon.setRail {s : State} {n : Nat} {r : RailRt} (h : s.Canon) : (s.setRail n r).Canon := h.update

theorem State.Canon.judgeRail {s : State} {n : Nat} (h : s.Canon) : (s.judgeRail n).Canon := by
  simp only [State.judgeRail]
  split
  · exact h
  · exact canonIte h h.setRail.setF

theorem State.Canon.judgePort {s : State} {n v : Nat} (h : s.Canon) : (s.judgePort n v).Canon := h.setPort

theorem State.Canon.emulate {s : State} {n : Nat} {imon : List Nat} (h : s.Canon) : (s.emulate n imon).Canon :=
  h.foldl (fun _ _ h0 => canonIte (h0.foldl (fun _ _ h1 => h1.cutChan)) h0)

theorem State.Canon.loopA {s : State} {c e uh : List Int} (h : s.Canon) : (s.loopA c e uh).2.Canon := canonIteSnd h.quot h.quot.update

theorem State.Canon.tilthSine {s : State} {n : Nat} (h : s.Canon) : (s.tilthSine n).2.Canon := by
  simp only [State.tilthSine]
  split
  · exact h
  · exact h.update

theorem State.Canon.portLimit {s : State} {n : Nat} (h : s.Canon) : (s.portLimit n).2.Canon := canonIteSnd h (canonIteSnd h h.quot)

theorem State.Canon.absorbRef {s : State} {n vCtl vSend : Nat} {most : Int} (h : s.Canon) : (s.absorbRef n vCtl vSend most).2.Canon := by
  simp only [State.absorbRef]
  split
  · exact h
  · exact canonIteSnd h.quot (canonIteSnd h.quot h.quot.update)

theorem State.Canon.iOutRef {s : State} {n vCtl vSend : Nat} (h : s.Canon) : (s.iOutRef n vCtl vSend).2.Canon := by
  unfold State.iOutRef
  extract_lets node q s1 a c s2 ab s3 a' p s4 b z
  have h1 : s1.Canon := h.quot
  have hc : c.2.Canon := canonIteSnd h1.quot h1
  clear_value c
  have h2 : s2.Canon := canonIte hc h1
  clear_value s2
  have hab : ab.2.Canon := canonIteSnd h2.absorbRef h2
  have hp : p.2.Canon := canonIteSnd (State.Canon.portLimit hab) hab
  have hz : z.2.Canon := State.Canon.tilthSine hp
  clear_value z
  split
  · exact hz.quot
  · exact hz

theorem State.Canon.ioCurrents {s : State} {n : Nat} {il : Int} (h : s.Canon) : (s.ioCurrents n il).2.2.Canon :=
  canonIteSndSnd h.quot.quot (canonIteSndSnd h.quot h.quot)

theorem State.Canon.imonSum {s : State} {n : Nat} {l : List Nat} (h : s.Canon) : (s.imonSum n l).2.Canon :=
  foldlSnd h fun _ _ hr => hr.quot

theorem State.Canon.control {s : State} {n : Nat} {o : CtlObs} (h : s.Canon) : (s.control n o).Canon :=
  bindCanon h.copyCmp.measured.measured fun h2 => bindCanon (canonIte h2.applyShadow h2) fun h4 => bindCanon (canonIte h4.setF
      h4).imonSum.wrN.ioCurrents.iOutRef fun h10 => bindCanon (canonIte (canonIte (canonIte h10.quot h10) (canonIte h10.quot
      h10).loopA).update (canonIte (canonIte h10.quot h10) (canonIte h10.quot h10).loopA)).modulate.setStage.setF.setF fun h21 =>
      bindCanon (canonIte h21.emulate h21) fun h22 => (canonIte h22.judgePort h22).setF.judgeRail

theorem execControlPeriod_wf {n : Fin 8} {o : CtlObs} {s : State} (h : s.Canon) : OutCanon (execControlPeriod n o s) :=
  h.act (fun _ h0 => canonIte h0.control.noteEvent h0)

theorem execGptMatch_wf {m : Fin 16} {s : State} (h : s.Canon) : OutCanon (execGptMatch m s) :=
  h.act (fun _ h0 => canonIte (bindCanon h0.hwSet.noteIdle fun h1 => (canonIte h1.setGpt.event h1.setGpt).strobe) h0)

theorem execGptWrap_wf {m : Fin 16} {s : State} (h : s.Canon) : OutCanon (execGptWrap m s) := h.act (fun _ h0 => h0.wrapFirst)

theorem execGptPreloadWrite_wf {p : Path} {m : Fin 16} {r : GptPreload} {v : Word} {s : State} (h : s.Canon) :
    OutCanon (execGptPreloadWrite p m r v s) := by
  unfold execGptPreloadWrite
  exact h.act fun _ hu => hu.inOrder fun _ _ ht => ht.writeGptPre

theorem execGptCapStrobe_wf {p : Path} {m : Fin 16} {s : State} (h : s.Canon) : OutCanon (execGptCapStrobe p m s) :=
  h.act (fun _ h0 => h0.captureGpt)

theorem execForceReload_wf {p : Path} {m : Fin 16} {s : State} (h : s.Canon) : OutCanon (execForceReload p m s) :=
  h.act (fun _ h0 => h0.forceGpt)

theorem execGptEnable_wf {p : Path} {m : Fin 16} {v : Word} {s : State} (h : s.Canon) : OutCanon (execGptEnable p m v s) :=
  h.act (fun _ h0 => h0.inOrder (fun _ _ h1 => h1.writeGptCfg))

theorem State.Canon.readOut {s : State} {p : Path} {off : Nat} (h : s.Canon) : (s.readOut p off).Canon := h.busRead.emit

theorem execCapRead_wf {p : Path} {u : CapUnit} {s : State} (h : s.Canon) : OutCanon (execCapRead p u s) := by
  simp only [execCapRead]
  exact h.act (fun _ h0 => (by
      split
      · exact h0.readOut
      · exact h0.readOut))

theorem execStallClr_wf {p : Path} {n : Fin 4} {s : State} (h : s.Canon) : OutCanon (execStallClr p n s) :=
  h.act (fun _ h0 => h0.clearStall)

theorem execHomeDisarm_wf {p : Path} {n : Fin 4} {s : State} (h : s.Canon) : OutCanon (execHomeDisarm p n s) :=
  h.act (fun _ h0 => h0.armHome)

theorem execHomeArm_wf {p : Path} {n : Fin 4} {s : State} (h : s.Canon) : OutCanon (execHomeArm p n s) := h.act (fun _ h0 => h0.armHome)

theorem execCapStrobe_wf {p : Path} {n : Fin 6} {s : State} (h : s.Canon) : OutCanon (execCapStrobe p n s) :=
  h.act (fun _ h0 => h0.captureCoord)

theorem execCmpValueWrite_wf {p : Path} {n : Fin 6} {k : Fin 4} {isInt : Bool} {hi : Word} {s : State} (h : s.Canon) : OutCanon
    (execCmpValueWrite p n k isInt hi s) :=
  h.act (fun _ h0 => h0.wideInOrder (fun _ h1 => h1.writeCmp))

theorem execCoordModeWrite_wf {p : Path} {n : Fin 6} {v : Word} {s : State} (h : s.Canon) : OutCanon (execCoordModeWrite p n v s) :=
  h.act (fun _ h0 => h0.inOrder (fun _ _ h1 => h1.writeCoordCfg))

theorem execCoordModWrite_wf {p : Path} {n : Fin 4} {v : Word} {s : State} (h : s.Canon) : OutCanon (execCoordModWrite p n v s) :=
  h.act (fun _ h0 => h0.inOrder (fun _ _ h1 => h1.writeMod))

theorem execCoordPosWrite_wf {p : Path} {n : Fin 4} {hi : Word} {s : State} (h : s.Canon) : OutCanon (execCoordPosWrite p n hi s) :=
  h.act (fun _ h0 => h0.wideInOrder (fun _ h1 => h1.writePos))

theorem execCoordStall_wf {n : Fin 4} {s : State} (h : s.Canon) : OutCanon (execCoordStall n s) :=
  h.act (fun _ h0 => canonIte h0.hwSet.raise h0)

theorem State.Canon.fireSkipped {s : State} {old new : Nat} (h : s.Canon) : (s.fireSkipped old new).Canon :=
  h.foldl (fun _ _ h0 => h0.fireCmp)

theorem execMainsLost_wf {s : State} (h : s.Canon) : OutCanon (execMainsLost s) := by
  simp only [execMainsLost]
  exact h.act (fun _ h0 => (by
      split
      · exact canonIte h0.setF.fireSkipped.raise h0
      · exact h0))

theorem State.Canon.judgeCross {s : State} {period : Nat} (h : s.Canon) : (s.judgeCross period).Canon := by
  simp only [State.judgeCross]
  split
  · exact bindCanon h.setCoord fun h0 => canonIte h0.setF (canonIte h0.setF h0)
  · exact h.setCoord

theorem State.Canon.fireAt {s : State} {n pos : Nat} (h : s.Canon) : (s.fireAt n pos).Canon :=
  h.each (fun _ _ h0 => canonIte h0.fireCmp h0)

theorem execMainsZeroCross_wf {s : State} (h : s.Canon) : OutCanon (execMainsZeroCross s) := by
  simp only [execMainsZeroCross]
  exact h.act (fun _ h0 => canonIte ((canonIte h0.setPos.setF.setCoord.fireSkipped ((by
      split
      · exact h0.setPos.setCoord.fireAt
      · exact h0.setPos.setCoord.judgeCross.fireAt))).strobe) h0)

theorem State.Canon.indexEdge {s : State} {n : Nat} (h : s.Canon) : (s.indexEdge n).Canon :=
  canonIte (canonIte h.strobe.coordRefuse h.strobe.setPos.setF.setF.setCoord.restartFar) h.strobe

theorem execIndexHome_wf {n : Fin 4} {falling : Bool} {s : State} (h : s.Canon) : OutCanon (execIndexHome n falling s) :=
  h.act (fun _ h0 => canonIte h0 (bindCanon h0.setCoord fun h1 => canonIte h1.indexEdge h1))

theorem State.Canon.speedErr {s : State} {n : Nat} (h : s.Canon) : (s.speedErr n).Canon := canonIte h h.hwSet.raise

theorem State.Canon.countEdge {s : State} {n : Nat} {upward : Bool} (h : s.Canon) : (s.countEdge n upward).Canon :=
  bindCanon (canonIte h.setPos.hwSet.raise h.setPos).setCoord fun h2 => (canonIte h2.speedErr h2).fireAt

theorem State.Canon.follows {s : State} {n : Nat} (h : s.Canon) : (s.follows n).2.Canon := (canonIteSnd h.update h).setCoord

theorem State.Canon.seeEdge {s : State} {n : Nat} {upward : Bool} (h : s.Canon) : (s.seeEdge n upward).Canon :=
  canonIte h.follows.countEdge h.follows

theorem State.Canon.pulse {s : State} {n : Nat} {onB : Bool} (h : s.Canon) : ∀ t ∈ s.pulse n onB, t.Canon := by
  simp only [State.pulse]
  split
  · exact inSome h.setCoord
  · split
    · exact inSome h.setCoord
    · exact inNone

theorem execUpDownEdge_wf {n : Fin 4} {up : Bool} {s : State} (h : s.Canon) : OutCanon (execUpDownEdge n up s) := by
  simp only [execUpDownEdge]
  exact h.act (fun _ h0 => (by
      split
      · exact h0
      · next heq =>
        exact canonIte (h0.pulse _ heq).seeEdge (h0.pulse _ heq)))

theorem execStepEdge_wf {n : Fin 4} {dirHigh : Bool} {s : State} (h : s.Canon) : OutCanon (execStepEdge n dirHigh s) := by
  simp only [execStepEdge]
  exact h.act (fun _ h0 => (by
      split
      · exact h0
      · next heq =>
        exact canonIte (h0.pulse _ heq).seeEdge (h0.pulse _ heq)))

theorem State.Canon.quadErr {s : State} {n id : Nat} (h : s.Canon) : (s.quadErr n id).Canon := h.hwSet.raise

theorem State.Canon.hallTo {s : State} {n x : Nat} (h : s.Canon) : (s.hallTo n x).Canon := by
  simp only [State.hallTo]
  split
  · exact h.setCoord.quadErr
  · exact bindCanon h.setCoord fun h0 => (by
      split
      · exact h0
      · exact canonIte h0 (canonIte h0.seeEdge (canonIte h0.seeEdge h0.quadErr)))

theorem State.Canon.sample {s : State} {n : Nat} {a b z : Bool} (h : s.Canon) : ∀ t ∈ s.sample n a b z, t.Canon := by
  simp only [State.sample]
  split
  · exact inSome h.setCoord
  · exact inNone

theorem execHallStateChange_wf {n : Fin 4} {u v w : Bool} {s : State} (h : s.Canon) : OutCanon (execHallStateChange n u v w s) := by
  simp only [execHallStateChange]
  exact h.act (fun _ h0 => (by
      split
      · exact h0
      · next heq =>
        exact canonIte (h0.sample _ heq).hallTo (h0.sample _ heq)))

theorem execQuadEdge_wf {n : Fin 4} {a b : Bool} {s : State} (h : s.Canon) : OutCanon (execQuadEdge n a b s) := by
  simp only [execQuadEdge]
  exact h.act (fun _ h0 => (by
      split
      · exact h0
      · next heq =>
        exact canonIte (h0.sample _ heq) (canonIte (h0.sample _ heq).quadErr (canonIte (h0.sample _ heq).seeEdge (canonIte (h0.sample _
            heq).seeEdge (h0.sample _ heq))))))

theorem State.Canon.showClaims {s : State} (h : s.Canon) : s.showClaims.Canon := h.each (fun _ _ h0 => h0.wr64.wr64)

theorem State.Canon.revalLoop {s : State} {fuel : Nat} (h : s.Canon) : (s.revalLoop fuel).Canon := by
  induction fuel generalizing s with
  | zero => exact h
  | succ fuel ih =>
    simp only [State.revalLoop]
    split
    · exact (h.update).showClaims
    · split
      · exact h
      · exact ih h.breachSlot

theorem State.Canon.revalidate {s : State} (h : s.Canon) : s.revalidate.Canon := h.revalLoop.update.setF

theorem State.Canon.markHandovers {s : State} (h : s.Canon) : s.markHandovers.Canon := h.each (fun _ _ h0 => canonIte h0.setXfer h0)

theorem execRevalidationDone_wf {s : State} (h : s.Canon) : OutCanon (execRevalidationDone s) :=
  h.act (fun _ h0 => canonIte (h0.revalidate.markHandovers.each (fun _ _ h1 => h1.freeLost)) h0)

theorem execRevalMsExpiry_wf {s : State} (h : s.Canon) : OutCanon (execRevalMsExpiry s) := h.act (fun _ h0 => canonIte h0.setF h0)

theorem State.Canon.rejectOrder {s : State} {src : Nat} {o : Order} {status detail : Nat} (h : s.Canon) : (s.rejectOrder src o status
    detail).Canon :=
  h.complete.wrN.hwSet.hwSet

theorem State.Canon.rejectGroup {s : State} {src : Nat} {os : List Order} {j status detail : Nat} (h : s.Canon) : (s.rejectGroup src os j
    status detail).Canon :=
  h.foldl (fun _ _ h0 => canonIte h0.rejectOrder h0.rejectOrder)

theorem State.Canon.rejectGap {s : State} {src : Nat} (h : s.Canon) : (s.rejectGap src).Canon := canonIte h h.setSrc.rejectGroup

theorem execCanChainGapExpiry_wf {n : Fin 2} {s : State} (h : s.Canon) : OutCanon (execCanChainGapExpiry n s) :=
  h.act (fun _ h0 => canonIte h0.rejectGap h0)

theorem execCanOrderFrame_wf {n : Fin 2} {f : CanFrame} {s : State} (h : s.Canon) : OutCanon (execCanOrderFrame n f s) :=
  h.act (fun _ h0 => canonIte h0 (canonIte h0.bump (canonIte h0.bump (bindCanon ((canonIte h0.rejectGap h0).noteIdle) fun h1 => canonIte
      h1.setSrc h1.setSrc))))

theorem State.Canon.setSlot {s : State} {k : Nat} {p : Slot} (h : s.Canon) : (s.setSlot k p).Canon := h.update

theorem State.Canon.acceptOrder {s : State} {src : Nat} {entry : List Byte} {tIn tOut : Nat} {res : List Nat} (h : s.Canon) :
    (s.acceptOrder src entry tIn tOut res).Canon := by
  simp only [State.acceptOrder]
  exact bindCanon h.update.setSlot.wrN.complete.planShown fun h3 => canonIte ((by
      split
      · exact h3.endSlot
      · exact h3)) h3

theorem State.Canon.doFence {s : State} {src : Nat} {entry : List Byte} (h : s.Canon) : (s.doFence src entry).Canon := h.setSrc

theorem State.Canon.withSlot {s : State} {k : Nat} {g : Slot → State → State} (h : s.Canon) (hg0 : ∀ x0 x1, x1.Canon → (g x0 x1).Canon) :
    (s.withSlot k g).Canon := by
  simp only [State.withSlot]
  split
  · exact hg0 _ _ h
  · exact h

theorem State.Canon.endEnergy {s : State} {k : Nat} (h : s.Canon) : (s.endEnergy k).Canon :=
  h.withSlot (fun _ _ h0 => canonIte h0.endSlot h0)

theorem State.Canon.endDeadline {s : State} {k : Nat} (h : s.Canon) : (s.endDeadline k).Canon :=
  h.withSlot (fun _ _ h0 => canonIte h0.breachSlot h0)

theorem State.Canon.endClosed {s : State} {k : Nat} (h : s.Canon) : (s.endClosed k).Canon :=
  h.withSlot (fun _ _ h0 => canonIte h0 (canonIte h0.endSlot h0.endSlot))

theorem State.Canon.endTout {s : State} {k : Nat} (h : s.Canon) : (s.endTout k).Canon :=
  h.withSlot (fun _ _ h0 => canonIte h0 (canonIte h0.endSlot (canonIte h0.endSlot h0.breachSlot)))

theorem State.Canon.endBound {s : State} {k : Nat} (h : s.Canon) : (s.endBound k).Canon :=
  h.withSlot (fun _ _ h0 => canonIte h0 (canonIte h0.endSlot (canonIte h0.endSlot (canonIte h0.endSlot (canonIte h0.breachSlot
      h0.endSlot)))))

theorem State.Canon.endVolt {s : State} {k : Nat} (h : s.Canon) : (s.endVolt k).Canon :=
  h.withSlot (fun _ _ h0 => canonIte h0.breachSlot h0)

theorem State.Canon.endNatural {s : State} {k : Nat} (h : s.Canon) : (s.endNatural k).Canon :=
  h.endEnergy.endDeadline.endClosed.endTout.endBound.endVolt

theorem State.Canon.doCancel {s : State} {src : Nat} {o : Order} {named : Option Nat} (h : s.Canon) : (s.doCancel src o named).Canon := by
  simp only [State.doCancel]
  split
  · exact (State.Canon.endSlot (by
  split
  · exact h.endNatural
  · exact h)).complete
  · exact (State.Canon.complete (by
  split
  · exact h.endNatural
  · exact h))

theorem State.Canon.acceptAll {s : State} {src j : Nat} {named : Nat → Option Nat} {claims : Nat → List Nat}
    {l : List (List Byte × Nat × Nat)} (h : s.Canon) : (s.acceptAll src named claims j l).Canon := by
  induction l generalizing s j with
  | nil => exact h
  | cons x l ih => exact ih (canonIte h.doCancel (canonIte h.doFence h.acceptOrder))

theorem State.Canon.admitEntries {s : State} {src : Nat} {entries : List (List Byte)} (h : s.Canon) : (s.admitEntries src entries).Canon
    := by
  simp only [State.admitEntries]
  split
  · exact h.rejectGroup
  · exact canonIte h.rejectGroup ((by
      split
      · exact h.rejectGroup
      · exact canonIte ((by
          split
          · split
            · exact h.rejectGroup
            · exact h.rejectGroup
          · exact h.acceptAll.update.showClaims)) h.acceptAll.showClaims))

theorem State.Canon.submitGroup {s : State} {src : Nat} {es : List (List Byte)} (h : s.Canon) : (s.submitGroup src es).Canon :=
  canonIte (bindCanon (h.foldl (fun _ _ h0 => h0.takeEntry)) fun h1 => canonIte h1.rejectGroup h1.admitEntries) (canonIte h h.setSrc)

theorem execChainedGroup_wf {src : Source} {es : List (List Byte)} {s : State} (h : s.Canon) : OutCanon (execChainedGroup src es s) :=
  h.act (fun _ h0 => canonIte h0.submitGroup h0)

theorem State.Canon.endFence {s : State} {src status : Nat} {e : List Byte} (h : s.Canon) : (s.endFence src status e).Canon :=
  h.setSrc.complete

theorem execFenceTimeBoundExpiry_wf {src : Source} {s : State} (h : s.Canon) : OutCanon (execFenceTimeBoundExpiry src s) := by
  simp only [execFenceTimeBoundExpiry]
  exact h.act (fun _ h0 => (by
      split
      · exact canonIte h0.endFence h0
      · exact h0))

theorem execFenceRelease_wf {src : Source} {s : State} (h : s.Canon) : OutCanon (execFenceRelease src s) := by
  simp only [execFenceRelease]
  exact h.act (fun _ h0 => (by
      split
      · exact canonIte h0 h0.endFence
      · exact h0))

theorem State.Canon.queueEntry {s : State} {src : Nat} {e : List Byte} (h : s.Canon) : (s.queueEntry src e).Canon := canonIte h h.setSrc

theorem State.Canon.submit {s : State} {src : Nat} {e : List Byte} (h : s.Canon) : (s.submit src e).Canon :=
  canonIte h.takeEntry.admitEntries h.queueEntry

theorem State.Canon.orderEntry {s : State} {src : Source} {op : Nat} {e : List Byte} (h : s.Canon) : (s.orderEntry src op e).Canon :=
  canonIte h.submit h

theorem execFence_wf {src : Source} {e : List Byte} {s : State} (h : s.Canon) : OutCanon (execFence src e s) :=
  h.act (fun _ h0 => h0.orderEntry)

theorem execCancel_wf {src : Source} {e : List Byte} {s : State} (h : s.Canon) : OutCanon (execCancel src e s) :=
  h.act (fun _ h0 => h0.orderEntry)

theorem execReserve_wf {src : Source} {e : List Byte} {s : State} (h : s.Canon) : OutCanon (execReserve src e s) :=
  h.act (fun _ h0 => h0.orderEntry)

theorem execChargeBy_wf {src : Source} {e : List Byte} {s : State} (h : s.Canon) : OutCanon (execChargeBy src e s) :=
  h.act (fun _ h0 => h0.orderEntry)

theorem execAbsorb_wf {src : Source} {e : List Byte} {s : State} (h : s.Canon) : OutCanon (execAbsorb src e s) :=
  h.act (fun _ h0 => h0.orderEntry)

theorem execHold_wf {src : Source} {e : List Byte} {s : State} (h : s.Canon) : OutCanon (execHold src e s) :=
  h.act (fun _ h0 => h0.orderEntry)

theorem execDeliver_wf {src : Source} {e : List Byte} {s : State} (h : s.Canon) : OutCanon (execDeliver src e s) :=
  h.act (fun _ h0 => h0.orderEntry)

theorem execVoltWindowBreach_wf {slot : Fin 4096} {s : State} (h : s.Canon) : OutCanon (execVoltWindowBreach slot s) :=
  h.act (fun _ h0 => h0.endVolt)

theorem execChargeByDeadline_wf {slot : Fin 4096} {s : State} (h : s.Canon) : OutCanon (execChargeByDeadline slot s) :=
  h.act (fun _ h0 => h0.endDeadline)

theorem execOrderToutExpiry_wf {slot : Fin 4096} {s : State} (h : s.Canon) : OutCanon (execOrderToutExpiry slot s) :=
  h.act (fun _ h0 => h0.endTout)

theorem execOrderTimeBoundExpiry_wf {slot : Fin 4096} {s : State} (h : s.Canon) : OutCanon (execOrderTimeBoundExpiry slot s) :=
  h.act (fun _ h0 => h0.endBound)

theorem execOrderEnergyReached_wf {slot : Fin 4096} {s : State} (h : s.Canon) : OutCanon (execOrderEnergyReached slot s) :=
  h.act (fun _ h0 => h0.endEnergy)

theorem State.Canon.sourceClose {s : State} {n : Nat} (h : s.Canon) : (s.sourceClose n).Canon := by
  simp only [State.sourceClose]
  split
  · exact canonIte h.closeSwitch.setPsw.setPort h
  · exact h

theorem State.Canon.moveRefTick {s : State} {n : Nat} (h : s.Canon) : (s.moveRefTick n).Canon := canonIte h h.setPort

theorem State.Canon.tickPort {s : State} {n : Nat} (h : s.Canon) : (s.tickPort n).Canon :=
  (canonIte h.setPort h).sourceClose.sourceCheck.moveRefTick.showArmed

theorem State.Canon.endCauses {s : State} (h : s.Canon) : s.endCauses.Canon := h.foldl (fun _ _ h0 => canonIte h0 h0.passOn)

theorem State.Canon.tickDebug {s : State} (h : s.Canon) : s.tickDebug.Canon := canonIte h.finishDebug h

theorem State.Canon.zonePause {s : State} {i : Nat} (h : s.Canon) : (s.zonePause i).Canon :=
  canonIte (bindCanon h.leaveCharging fun h0 => canonIte h0.raise h0) (canonIte h.setChState h)

theorem State.Canon.takeRefs {s : State} {i : Nat} (h : s.Canon) : (s.takeRefs i).Canon := h.setPack.showRefs

theorem State.Canon.chargeTick {s : State} (h : s.Canon) : s.chargeTick.Canon :=
  h.each (fun _ _ h0 => h0.staleTemp.tilthShow.chargeDemand.zonePause.takeRefs)

theorem State.Canon.tickSupply {s : State} {r : Nat} (h : s.Canon) : (s.tickSupply r).Canon :=
  canonIte (canonIte h.setF.setXfer h.setF) (canonIte h.setF.setXfer (canonIte (canonIte h.setF h.setF.setF) h.setF.setF))

theorem State.Canon.dropPgood {s : State} {r : Nat} (h : s.Canon) : (s.dropPgood r).Canon := canonIte h h.setRail.setF

theorem State.Canon.tickStage {s : State} {n : Nat} (h : s.Canon) : (s.tickStage n).Canon :=
  canonIte (canonIte h.startStage h) (canonIte (bindCanon h.setStage fun h0 => canonIte h0.setStageState.setStage h0) (canonIte
      h.setStageState.setStage h))

theorem State.Canon.moveRef {s : State} {r : Nat} (h : s.Canon) : (s.moveRef r).Canon := by
  simp only [State.moveRef]
  split
  · exact canonIte (bindCanon h.setRail.setF.setF.setStageState.setStage fun h2 => (by
      split
      · exact h2.takePins
      · exact h2)) h.setRail.setStage.setF.setF
  · exact h.setRail.setF.setF

theorem State.Canon.dispatchPack {s : State} {i : Nat} (h : s.Canon) : (s.dispatchPack i).Canon := by
  simp only [State.dispatchPack]
  split
  · exact h
  · exact (canonIte (canonIte h.setPsw.closeSwitch h.setPsw) (canonIte h.setPsw h.setPsw.openSwitch)).setF

theorem State.Canon.dispatchSupply {s : State} {x : Nat} (h : s.Canon) : (s.dispatchSupply x).Canon := by
  simp only [State.dispatchSupply]
  split
  · exact h
  · exact canonIte h.closeSwitch h

theorem State.Canon.rankSources {s : State} {r : Nat} (h : s.Canon) : (s.rankSources r).Canon :=
  h.foldl (fun _ _ h0 => h0.foldl (fun _ _ h1 => h1.setRank))

theorem State.Canon.rankRail {s : State} {r : Nat} {ceil : Nat → Nat → Nat} (h : s.Canon) : (s.rankRail r ceil).Canon :=
  h.rankSources.rankPacks

theorem State.Canon.ceilOf {s : State} {n : Nat} {rev : Bool} (h : s.Canon) : (s.ceilOf n rev).2.Canon := by
  simp only [State.ceilOf]
  split
  · exact (canonIte h.update h)
  · exact canonIteSnd h.update h

theorem State.Canon.dispatchStage {s : State} {n : Nat} (h : s.Canon) : (s.dispatchStage n).Canon :=
  canonIte h (canonIte h h.ceilOf.setStage.wrN)

theorem State.Canon.dispatchRun {s : State} (h : s.Canon) : s.dispatchRun.Canon :=
  (((h.each (fun _ _ h0 => h0.dispatchStage)).each (fun _ _ h2 => canonIte h2.fillHand h2.rankRail)).each (fun _ _ h4 =>
      h4.dispatchSupply)).each (fun _ _ h6 => h6.dispatchPack)

theorem State.Canon.dispatch {s : State} (h : s.Canon) : s.dispatch.Canon :=
  canonIte h (((((canonIte h.dispatchRun h).each (fun _ _ h1 => canonIte h1.moveRef h1)).each (fun _ _ h3 => h3.tickStage)).each (fun _ _
      h5 => h5.dropPgood)).each (fun _ _ h7 => h7.tickSupply))

theorem State.Canon.rejectEntry {s : State} {p : Nat} (h : s.Canon) : (s.rejectEntry p).Canon := by
  simp only [State.rejectEntry]
  split
  · exact h
  · exact canonIte h (bindCanon h.takeEntry fun h0 => canonIte h0.pdComplete (canonIte h0.complete h0.ctlDone))

theorem State.Canon.dropPorts {s : State} (h : s.Canon) : s.dropPorts.Canon :=
  h.each (fun _ _ h0 => canonIte (h0.setPort.foldl (fun _ _ h2 => h2.breachSlot)) h0)

theorem State.Canon.absorbed {s : State} {p : Slot} (h : s.Canon) : (s.absorbed p).2.Canon := canonIteSnd h h.update

theorem State.Canon.accountSlot {s : State} {k : Nat} (h : s.Canon) : (s.accountSlot k).Canon :=
  h.withSlot (fun _ _ h0 => canonIte h0 ((canonIteSnd h0.absorbed h0).setSlot))

theorem State.Canon.holdSlot {s : State} {k : Nat} (h : s.Canon) : (s.holdSlot k).Canon := by
  simp only [State.holdSlot]
  exact h.withSlot (fun _ _ h0 => canonIte ((by
      split
      · exact h0.setSlot
      · exact h0)) h0)

theorem State.Canon.enterSlot {s : State} {k : Nat} (h : s.Canon) : (s.enterSlot k).Canon :=
  h.withSlot (fun _ _ h0 => canonIte h0 (bindCanon h0.setSlot fun h1 => canonIte h1.complete h1))

theorem State.Canon.drawTick {s : State} {k mw : Nat} {whole : Bool} (h : s.Canon) : (s.drawTick k mw whole).Canon :=
  h.withSlot fun _ _ hu => State.Canon.setSlot (foldlSnd hu fun _ _ hr => canonIteSnd hr hr.update)

theorem State.Canon.drawCharge {s : State} {t : Nat} (h : s.Canon) : (s.drawCharge t).Canon := h.each (fun _ _ h0 => h0.drawTick)

theorem State.Canon.divide {s : State} {whole : Bool} {left : Nat} {l : List (Nat × Slot)} (h : s.Canon) :
    (s.divide whole left l).Canon := by
  induction l generalizing s left with
  | nil => exact h
  | cons x l ih => exact ih (State.Canon.drawTick (canonIte h h.update))

theorem State.Canon.drawNode {s : State} {t : Nat} (h : s.Canon) : (s.drawNode t).Canon := canonIte h h.divide

theorem State.Canon.tickOrders {s : State} (h : s.Canon) : s.tickOrders.Canon :=
  ((((h.each (fun _ _ h0 => h0.drawNode)).each (fun _ _ h2 => h2.drawCharge)).each (fun _ _ h4 =>
      h4.accountSlot.holdSlot.enterSlot)).each (fun _ _ h6 => h6.endClosed)).showClaims

theorem State.Canon.rejectUnknown {s : State} (h : s.Canon) : s.rejectUnknown.Canon := by
  simp only [State.rejectUnknown]
  exact h.each (fun _ _ h0 => (by
      split
      · exact canonIte h0 h0.submit
      · exact h0))

theorem State.Canon.velOf {s : State} {n : Nat} (h : s.Canon) : (s.velOf n).2.Canon := by
  simp only [State.velOf]
  split
  · exact canonIteSnd h.update h
  · split
    · exact h
    · exact h

theorem State.Canon.tickTravel {s : State} {n : Nat} (h : s.Canon) : (s.tickTravel n).Canon :=
  canonIte h (bindCanon h.velOf.wrN.setCoord fun h2 => bindCanon (canonIte h2.addF h2) fun h3 => canonIte h3.speedErr h3)

theorem State.Canon.tickMains {s : State} (h : s.Canon) : s.tickMains.Canon := by
  simp only [State.tickMains]
  split
  · exact h
  · exact canonIte h (canonIte h.wrN.speedErr h.wrN)

theorem State.Canon.takeBounds {s : State} (h : s.Canon) : s.takeBounds.Canon := h.each (fun _ _ h0 => h0.setCoord)

theorem State.Canon.applyInputs {s : State} (h : s.Canon) : s.applyInputs.Canon :=
  canonIte h (h.update.loadRegs.each (fun _ _ h1 => canonIte h1.disableInput (canonIte h1.startQualify h1)))

theorem State.Canon.observe {s : State} {o : TickObs} (h : s.Canon) : (s.observe o).Canon :=
  ((((h.each (fun _ _ h0 => h0.quot.setSupV.wrN.wrN.setSupply)).each (fun _ _ h4 => h4.setSupV.setSupply)).each (fun _ _ h7 => canonIte
      h7.inputFloor h7)).each (fun _ _ h9 => h9.setPack)).each (fun _ _ h11 => h11.measured.setF.setRail)

theorem State.Canon.modelStage {s : State} {n : Nat} {o : TickObs} (h : s.Canon) : (s.modelStage n o).Canon :=
  canonIte h.wrN.trigReval h.wrN

theorem State.Canon.modelBudget {s : State} {x : Nat} (h : s.Canon) : (s.modelBudget x).Canon := canonIte h.wrN.trigReval h.wrN

theorem State.Canon.countEnergy {s : State} {i : Nat} (h : s.Canon) : (s.countEnergy i).Canon :=
  canonIte h.setERem.setPack h.setERem.setPack

theorem State.Canon.modelPack {s : State} {i : Nat} (h : s.Canon) : (s.modelPack i).Canon :=
  bindCanon h.wr64.wrN.setF.setF fun h1 => canonIte h1.trigReval h1

theorem State.Canon.model {s : State} {o : TickObs} (h : s.Canon) : (s.model o).Canon :=
  ((h.each (fun _ _ h0 => h0.countEnergy.modelPack)).each (fun _ _ h2 => h2.modelBudget)).each (fun _ _ h4 => h4.modelStage)

theorem State.Canon.takeSnap {s : State} (h : s.Canon) : s.takeSnap.Canon := h.update

theorem State.Canon.tickAll {s : State} {o : TickObs} (h : s.Canon) : (s.tickAll o).Canon :=
  (((h.update.takeBounds.applyInputs.observe.model.showClaims.takeSnap.each (fun _ _ h2 =>
      h2.tickTravel)).tickMains).dropPorts.tickOrders.rejectUnknown.each (fun _ _ h4 =>
      h4.rejectEntry)).endCauses.tickDebug.chargeTick.releaseSupplies.dispatch.each (fun _ _ h6 => h6.tickPort)

theorem execDrillTick_wf {o : TickObs} {s : State} (h : s.Canon) : OutCanon (execDrillTick o s) :=
  h.act (fun _ h0 => canonIte h0 h0.tickAll.noteEvent)

theorem execFabricCheckDone_wf {s : State} (h : s.Canon) : OutCanon (execFabricCheckDone s) := h.act (fun _ h0 => h0.finishFabric)

theorem execFabCommit_wf {p : Path} {s : State} (h : s.Canon) : OutCanon (execFabCommit p s) :=
  h.act (fun _ h0 => canonIte h0.commitFabric h0.hwDenied)

theorem State.Canon.onWindow {s : State} {off : Nat} {g : State → State} (h : s.Canon) (hg : ∀ u, u.Canon → (g u).Canon) :
    OutCanon (s.onWindow off g) := outIte (h.act hg) outFault

theorem execWideHiWrite_wf {p : Path} {off : Nat} {v : Word} {s : State} (h : s.Canon) : OutCanon (execWideHiWrite p off v s) :=
  h.onWindow (fun _ h0 => h0.busWrite)

theorem execWideLoWrite_wf {p : Path} {off : Nat} {v : Word} {s : State} (h : s.Canon) : OutCanon (execWideLoWrite p off v s) :=
  h.onWindow (fun _ h0 => h0.busWrite)

theorem execWideLoRead_wf {p : Path} {off : Nat} {s : State} (h : s.Canon) : OutCanon (execWideLoRead p off s) :=
  h.onWindow (fun _ h0 => h0.readOut)

theorem execRcRead_wf {p : Path} {off : Nat} {s : State} (h : s.Canon) : OutCanon (execRcRead p off s) :=
  h.onWindow (fun _ h0 => h0.readOut)

theorem execRegisterWrite_wf {p : Path} {off : Nat} {v : Word} {be : Fin 16} {s : State} (h : s.Canon) : OutCanon (execRegisterWrite p
    off v be s) :=
  h.onWindow (fun _ h0 => canonIte h0.raise h0.busWrite)

theorem exec_canon {c : Instr} {s : State} (h : s.Canon) : OutCanon (exec c s) := by
  cases c with
  | registerWrite => exact execRegisterWrite_wf h
  | rcRead => exact execRcRead_wf h
  | wideLoRead => exact execWideLoRead_wf h
  | wideLoWrite => exact execWideLoWrite_wf h
  | wideHiWrite => exact execWideHiWrite_wf h
  | fabCommit => exact execFabCommit_wf h
  | fabricCheckDone => exact execFabricCheckDone_wf h
  | drillTick => exact execDrillTick_wf h
  | orderEnergyReached => exact execOrderEnergyReached_wf h
  | orderTimeBoundExpiry => exact execOrderTimeBoundExpiry_wf h
  | orderToutExpiry => exact execOrderToutExpiry_wf h
  | chargeByDeadline => exact execChargeByDeadline_wf h
  | voltWindowBreach => exact execVoltWindowBreach_wf h
  | deliver => exact execDeliver_wf h
  | hold => exact execHold_wf h
  | absorb => exact execAbsorb_wf h
  | chargeBy => exact execChargeBy_wf h
  | reserve => exact execReserve_wf h
  | cancel => exact execCancel_wf h
  | fence => exact execFence_wf h
  | fenceRelease => exact execFenceRelease_wf h
  | fenceTimeBoundExpiry => exact execFenceTimeBoundExpiry_wf h
  | chainedGroup => exact execChainedGroup_wf h
  | canOrderFrame => exact execCanOrderFrame_wf h
  | canChainGapExpiry => exact execCanChainGapExpiry_wf h
  | revalMsExpiry => exact execRevalMsExpiry_wf h
  | revalidationDone => exact execRevalidationDone_wf h
  | quadEdge => exact execQuadEdge_wf h
  | hallStateChange => exact execHallStateChange_wf h
  | stepEdge => exact execStepEdge_wf h
  | upDownEdge => exact execUpDownEdge_wf h
  | indexHome => exact execIndexHome_wf h
  | mainsZeroCross => exact execMainsZeroCross_wf h
  | mainsLost => exact execMainsLost_wf h
  | coordStall => exact execCoordStall_wf h
  | coordPosWrite => exact execCoordPosWrite_wf h
  | coordModWrite => exact execCoordModWrite_wf h
  | coordModeWrite => exact execCoordModeWrite_wf h
  | cmpValueWrite => exact execCmpValueWrite_wf h
  | capStrobe p => exact execCapStrobe_wf (p := p) h
  | homeArm p => exact execHomeArm_wf (p := p) h
  | homeDisarm p => exact execHomeDisarm_wf (p := p) h
  | stallClr p => exact execStallClr_wf (p := p) h
  | capRead => exact execCapRead_wf h
  | gptEnable => exact execGptEnable_wf h
  | forceReload p => exact execForceReload_wf (p := p) h
  | gptCapStrobe p => exact execGptCapStrobe_wf (p := p) h
  | gptPreloadWrite => exact execGptPreloadWrite_wf h
  | gptWrap => exact execGptWrap_wf h
  | gptMatch => exact execGptMatch_wf h
  | controlPeriod => exact execControlPeriod_wf h
  | startShortCheck => exact execStartShortCheck_wf h
  | loopSat => exact execLoopSat_wf h
  | loopApply p => exact execLoopApply_wf (p := p) h
  | reversalZeroCurrent => exact execReversalZeroCurrent_wf h
  | stageIdleTimeout => exact execStageIdleTimeout_wf h
  | cbcCrossing => exact execCbcCrossing_wf h
  | cbcPersist => exact execCbcPersist_wf h
  | hbFltAssert => exact execHbFltAssert_wf h
  | hbIdentDone => exact execHbIdentDone_wf h
  | autoOnStart => exact execAutoOnStart_wf h
  | vselPattern => exact execVselPattern_wf h
  | vselCfgWrite => exact execVselCfgWrite_wf h
  | vselSpWrite => exact execVselSpWrite_wf h
  | railSpWrite => exact execRailSpWrite_wf h
  | inputInRange => exact execInputInRange_wf h
  | inputOutOfRange => exact execInputOutOfRange_wf h
  | inputQualifyDone => exact execInputQualifyDone_wf h
  | pswGateOk => exact execPswGateOk_wf h
  | pswGateTimeout => exact execPswGateTimeout_wf h
  | inputLoss => exact execInputLoss_wf h
  | inputOv => exact execInputOv_wf h
  | inputDisable p => exact execInputDisable_wf (p := p) h
  | handoverComplete => exact execHandoverComplete_wf h
  | pswReverseTrip => exact execPswReverseTrip_wf h
  | revHoldExpiry => exact execRevHoldExpiry_wf h
  | mpptStep => exact execMpptStep_wf h
  | mpptSweep => exact execMpptSweep_wf h
  | mpptNoPower => exact execMpptNoPower_wf h
  | transferBackStart => exact execTransferBackStart_wf h
  | transferBackDone => exact execTransferBackDone_wf h
  | zoneEval => exact execZoneEval_wf h
  | ntcFault => exact execNtcFault_wf h
  | ntcRecovered => exact execNtcRecovered_wf h
  | profileCommit p => exact execProfileCommit_wf (p := p) h
  | profileCheckDone => exact execProfileCheckDone_wf h
  | chgExitEval => exact execChgExitEval_wf h
  | chgTimerExpiry => exact execChgTimerExpiry_wf h
  | chgWdtKick p => exact execChgWdtKick_wf (p := p) h
  | chgWdtExpiry => exact execChgWdtExpiry_wf h
  | chgCfgWrite => exact execChgCfgWrite_wf h
  | chgClear p => exact execChgClear_wf (p := p) h
  | chgFaultRead => exact execChgFaultRead_wf h
  | linkCfgWrite => exact execLinkCfgWrite_wf h
  | packIdentDone => exact execPackIdentDone_wf h
  | packIdentityFrame => exact execPackIdentityFrame_wf h
  | packStatusFrame => exact execPackStatusFrame_wf h
  | packPoll => exact execPackPoll_wf h
  | packLinkLost => exact execPackLinkLost_wf h
  | packReinsert => exact execPackReinsert_wf h
  | packHealthWrite => exact execPackHealthWrite_wf h
  | tilthStart p => exact execTilthStart_wf (p := p) h
  | tilthIntervalExpiry => exact execTilthIntervalExpiry_wf h
  | tilthAbort p => exact execTilthAbort_wf (p := p) h
  | tilthPointDone => exact execTilthPointDone_wf h
  | tilthTimeout => exact execTilthTimeout_wf h
  | shipEnter => exact execShipEnter_wf h
  | shipWake => exact execShipWake_wf h
  | longPress => exact execLongPress_wf h
  | longPressEnd => exact execLongPressEnd_wf h
  | canBusOff => exact execCanBusOff_wf h
  | canBusOffRecovery => exact execCanBusOffRecovery_wf h
  | portAttach => exact execPortAttach_wf h
  | drpToggle => exact execDrpToggle_wf h
  | ccOv => exact execCcOv_wf h
  | vbusSafe0v => exact execVbusSafe0v_wf h
  | vbusNotSafe0v => exact execVbusNotSafe0v_wf h
  | portOv => exact execPortOv_wf h
  | vconnOc => exact execVconnOc_wf h
  | cableDiscovery => exact execCableDiscovery_wf h
  | portCfgWrite => exact execPortCfgWrite_wf h
  | sourceCapabilitiesRx => exact execSourceCapabilitiesRx_wf h
  | requestRx => exact execRequestRx_wf h
  | acceptRx => exact execAcceptRx_wf h
  | psRdyRx => exact execPsRdyRx_wf h
  | pdMessageRx => exact execPdMessageRx_wf h
  | hardResetRx => exact execHardResetRx_wf h
  | prSwap => exact execPrSwap_wf h
  | pdTimerExpiry => exact execPdTimerExpiry_wf h
  | ppsRequestRepeat => exact execPpsRequestRepeat_wf h
  | eprKeepalive => exact execEprKeepalive_wf h
  | hpLate => exact execHpLate_wf h
  | srcTransitionSettled => exact execSrcTransitionSettled_wf h
  | pdSrcTransition => exact execPdSrcTransition_wf h
  | frsSignal => exact execFrsSignal_wf h
  | frsDone => exact execFrsDone_wf h
  | frsFail => exact execFrsFail_wf h
  | portDetach => exact execPortDetach_wf h
  | detachDischarged => exact execDetachDischarged_wf h
  | bcDetectionDone => exact execBcDetectionDone_wf h
  | send => exact execSend_wf h
  | hardReset => exact execHardReset_wf h
  | cableReset => exact execCableReset_wf h
  | portCtrlHardReset p => exact execPortCtrlHardReset_wf (p := p) h
  | errRecover p => exact execErrRecover_wf (p := p) h
  | hostLinkReset => exact execHostLinkReset_wf h
  | bmeChange => exact execBmeChange_wf h
  | read => exact execRead_wf h
  | write => exact execWrite_wf h
  | quadRead => exact execQuadRead_wf h
  | quadWrite => exact execQuadWrite_wf h
  | readStatus => exact execReadStatus_wf h
  | spiUnknownOpcode => exact execSpiUnknownOpcode_wf h
  | ringEnable => exact execRingEnable_wf h
  | ringDisable => exact execRingDisable_wf h
  | ringDrainDone => exact execRingDrainDone_wf h
  | resume p => exact execResume_wf (p := p) h
  | doorbellPoll => exact execDoorbellPoll_wf h
  | localDoorbellWrite => exact execLocalDoorbellWrite_wf h
  | submissionFetch => exact execSubmissionFetch_wf h
  | deviceSlotWrite => exact execDeviceSlotWrite_wf h
  | completionDrain => exact execCompletionDrain_wf h
  | completionDiscard => exact execCompletionDiscard_wf h
  | irqModTimerExpiry => exact execIrqModTimerExpiry_wf h
  | ringImodWrite => exact execRingImodWrite_wf h
  | recordWrite => exact execRecordWrite_wf h
  | recordRead => exact execRecordRead_wf h
  | profileSelect => exact execProfileSelect_wf h
  | faultClear => exact execFaultClear_wf h
  | packCmdShip => exact execPackCmdShip_wf h
  | packCmdTilthStart => exact execPackCmdTilthStart_wf h
  | packCmdTilthAbort => exact execPackCmdTilthAbort_wf h
  | packCmdChargeClear => exact execPackCmdChargeClear_wf h
  | bbRead => exact execBbRead_wf h
  | attest => exact execAttest_wf h
  | fwChunk => exact execFwChunk_wf h
  | nvmRead => exact execNvmRead_wf h
  | nvmWrite => exact execNvmWrite_wf h
  | smbXfer => exact execSmbXfer_wf h
  | canSend => exact execCanSend_wf h
  | canRecv => exact execCanRecv_wf h
  | canRecvTimeout => exact execCanRecvTimeout_wf h
  | xltSync p => exact execXltSync_wf (p := p) h
  | xltSyncDone => exact execXltSyncDone_wf h
  | dmaFault => exact execDmaFault_wf h
  | cplTimeout => exact execCplTimeout_wf h
  | post => exact execPost_wf h
  | glnSample => exact execGlnSample_wf h
  | glnFlushExpiry => exact execGlnFlushExpiry_wf h
  | glnTrigger => exact execGlnTrigger_wf h
  | glnEnable => exact execGlnEnable_wf h
  | glnDisable => exact execGlnDisable_wf h
  | arm p => exact execArm_wf (p := p) h
  | force p => exact execForce_wf (p := p) h
  | envelopePackOv => exact execEnvelopePackOv_wf h
  | envelopePackOc => exact execEnvelopePackOc_wf h
  | envelopePackTemp => exact execEnvelopePackTemp_wf h
  | envelopeRailOv => exact execEnvelopeRailOv_wf h
  | envThresholdMove => exact execEnvThresholdMove_wf h
  | fwuBuildDone => exact execFwuBuildDone_wf h
  | activate p => exact execActivate_wf (p := p) h
  | abandon p => exact execAbandon_wf (p := p) h
  | confirm => exact execConfirm_wf h
  | trialExpiry => exact execTrialExpiry_wf h
  | dbgOpen => exact execDbgOpen_wf h
  | bbAppend => exact execBbAppend_wf h
  | nvmReerase => exact execNvmReerase_wf h
  | nvmCntFlush p => exact execNvmCntFlush_wf (p := p) h
  | inc p => exact execInc_wf (p := p) h
  | faultReport => exact execFaultReport_wf h
  | egressClose => exact execEgressClose_wf h
  | faultCauseGone => exact execFaultCauseGone_wf h
  | quietExpiry => exact execQuietExpiry_wf h
  | hrwClear p => exact execHrwClear_wf (p := p) h
  | safeReq p => exact execSafeReq_wf (p := p) h
  | egressTieRelease => exact execEgressTieRelease_wf h
  | hrwInjectArm => exact execHrwInjectArm_wf h
  | wdtService => exact execWdtService_wf h
  | wdtCheckin => exact execWdtCheckin_wf h
  | wdtWindowExpiry => exact execWdtWindowExpiry_wf h
  | wdtClockLoss => exact execWdtClockLoss_wf h
  | wdtGraceEnd => exact execWdtGraceEnd_wf h
  | coldStart => exact execColdStart_wf h
  | runReady => exact execRunReady_wf h
  | nrst => exact execNrst_wf h
  | sysReset => exact execSysReset_wf h
  | powerFailWarn => exact execPowerFailWarn_wf h
  | brownout => exact execBrownout_wf h
  | pwrReqIdle p => exact execPwrReqIdle_wf (p := p) h
  | pwrReqFallow p => exact execPwrReqFallow_wf (p := p) h
  | idleWake => exact execIdleWake_wf h
  | fallowWake => exact execFallowWake_wf h
  | clkRefFail => exact execClkRefFail_wf h
  | clkRefReturn => exact execClkRefReturn_wf h
  | clkAonFail => exact execClkAonFail_wf h
  | pllUnlock => exact execPllUnlock_wf h
  | biasFault => exact execBiasFault_wf h
  | dieTemp => exact execDieTemp_wf h
  | memEccError => exact execMemEccError_wf h
  | linkUp => exact execLinkUp_wf h
  | compareInterpolationMatch => exact execCompareInterpolationMatch_wf h
  | pbMainPress => exact execPbMainPress_wf h
  | mailboxRequest => exact execMailboxRequest_wf h

/-- Settles O6: the three tables of the form are written by `wr`, `winSet` and `setNvmByte` alone, and every operation is built of steps
that keep it. -/
theorem stepKeepsCanonicalForm : Obligations.StepKeepsCanonicalForm := by
  intro s t hs ht
  rw [step] at ht
  split at ht
  · exact Host.Outcome.next.inj ht ▸ State.Canon.idle hs
  · next c rest _ =>
    have hrest : State.Canon { s with pending := rest } := State.Canon.update hs
    exact exec_canon hrest t ht

end Sys2Proof.Machine
end

section
/-! The sum of two coordinates (R8, R40): its count and its turns, and the linear value that they give. -/

namespace Sys2Proof.Machine

/-- The carry of a sum of two counts. -/
def coordCarry (m a b : Nat) : Nat := if cfCount a + cfCount b ≥ m then 1 else 0

/-- A word made of turns and a count, whatever its upper 16 bits, shows them again. -/
theorem cf_of_parts {hi t c : Nat} (ht : t < 2 ^ 32) (hc : c < 65536) :
    cfCount (hi * 2 ^ 48 + t * 65536 + c) = c ∧ cfTurns (hi * 2 ^ 48 + t * 65536 + c) = t := by
  unfold cfCount cfTurns
  omega

section
variable {m a b : Nat} (ha : cfCount a < m) (hb : cfCount b < m)
include ha hb

/-- The two counts carry once where they reach the modulus; what is left is below it. -/
theorem coordCarry_spec : ∃ c, c < m ∧ cfCount a + cfCount b = coordCarry m a b * m + c := by
  unfold coordCarry
  split
  · exact ⟨cfCount a + cfCount b - m, by omega, by omega⟩
  · exact ⟨cfCount a + cfCount b, by omega, by omega⟩

theorem coordAdd_parts (hm : m < 65536) (travel : Bool) :
    cfCount (coordAdd travel m a b) + coordCarry m a b * m = cfCount a + cfCount b ∧
    cfCount (coordAdd travel m a b) < m ∧
    cfTurns (coordAdd travel m a b) = (cfTurns a + cfTurns b + coordCarry m a b) % 2 ^ 32 := by
  obtain ⟨c, hc, hsum⟩ := coordCarry_spec ha hb
  have hcount : (if cfCount a + cfCount b ≥ m then cfCount a + cfCount b - m else cfCount a + cfCount b) = c := by
    unfold coordCarry at hsum
    split at hsum
    · rw [if_pos ‹_›]
      omega
    · rw [if_neg ‹_›]
      omega
  have heq : ∃ hi, coordAdd travel m a b =
      hi * 2 ^ 48 + (cfTurns a + cfTurns b + coordCarry m a b) % 2 ^ 32 * 65536 + c := by
    rw [coordAdd, hcount, coordCarry]
    exact ⟨if travel && decide ((cfTurns a + cfTurns b + if cfCount a + cfCount b ≥ m then 1 else 0) % 2 ^ 32 ≥ 2 ^ 31) then 0xFFFF else 0,
      by rw [ite_mul, Nat.zero_mul, show (0xFFFF * 2 ^ 48 : Nat) = 0xFFFF000000000000 from rfl]⟩
  obtain ⟨hi, heq⟩ := heq
  obtain ⟨h1, h2⟩ := cf_of_parts (hi := hi) (Nat.mod_lt (cfTurns a + cfTurns b + coordCarry m a b) (by decide : 0 < 2 ^ 32))
    (by omega : c < 65536)
  rw [heq, h1, h2]
  exact ⟨by omega, hc, rfl⟩

end

/-- Turns modulo `N` and a count below the modulus are the linear value modulo `N` turns. -/
theorem mod_turns_add (x : Nat) {N m c : Nat} (hN : 0 < N) (hc : c < m) : x % N * m + c = (x * m + c) % (N * m) := by
  have hlt : x % N * m + c < N * m :=
    calc x % N * m + c < (x % N + 1) * m := by rw [Nat.add_mul]; omega
      _ ≤ N * m := Nat.mul_le_mul_right m (Nat.mod_lt x hN)
  have hsplit : x * m + c = x % N * m + c + N * m * (x / N) := by
    conv_lhs => rw [← Nat.mod_add_div x N]
    ring
  rw [hsplit, Nat.add_mul_mod_self_left, Nat.mod_eq_of_lt hlt]

/-- A signed reading differs from the unsigned one by whole turns. -/
theorem toSigned_modEq (t : Nat) : ∃ k : Int, toSigned 32 t = t + 2 ^ 32 * k := by
  unfold toSigned
  split
  · exact ⟨-(t / 2 ^ 32 : Nat), by omega⟩
  · exact ⟨-(t / 2 ^ 32 : Nat) - 1, by omega⟩

/-- The travel coordinate is the signed one of the same turns and count. -/
theorem linTravel_eq (m v : Nat) : ∃ k : Int, linTravel m v = (linPlain m v : Int) + (2 ^ 32 * m : Nat) * k := by
  obtain ⟨k, hk⟩ := toSigned_modEq (cfTurns v)
  refine ⟨k, ?_⟩
  rw [linTravel, hk, linPlain]
  push_cast
  ring

theorem linPlain_coordAdd {m a b : Nat} (hm : m < 65536) (ha : cfCount a < m) (hb : cfCount b < m) (travel : Bool) :
    linPlain m (coordAdd travel m a b) = (linPlain m a + linPlain m b) % (2 ^ 32 * m) := by
  obtain ⟨hsum, hlt, hturns⟩ := coordAdd_parts ha hb hm travel
  calc linPlain m (coordAdd travel m a b)
      = (cfTurns a + cfTurns b + coordCarry m a b) % 2 ^ 32 * m + cfCount (coordAdd travel m a b) := by rw [linPlain, hturns]
    _ = ((cfTurns a + cfTurns b + coordCarry m a b) * m + cfCount (coordAdd travel m a b)) % (2 ^ 32 * m) :=
        mod_turns_add _ (by decide) hlt
    _ = (linPlain m a + linPlain m b) % (2 ^ 32 * m) := by
        congr 1
        simp only [linPlain, Nat.add_mul]
        omega

/-- Settles O13: the sum is `coordCarry` turns and the count that is left, and each linear value is one of those modulo 2^32 turns. -/
theorem coordinateSumCarriesAtModulus : Obligations.CoordinateSumCarriesAtModulus := by
  intro m a b _ hm ha hb
  refine ⟨(coordAdd_parts ha hb hm true).2.1, (coordAdd_parts ha hb hm false).2.1, linPlain_coordAdd hm ha hb false, ?_⟩
  obtain ⟨ks, hs⟩ := linTravel_eq m (coordAdd true m a b)
  obtain ⟨ka, hka⟩ := linTravel_eq m a
  obtain ⟨kb, hkb⟩ := linTravel_eq m b
  have hplain := linPlain_coordAdd hm ha hb true
  have hdiv := Nat.mod_add_div (linPlain m a + linPlain m b) (2 ^ 32 * m)
  rw [← hplain] at hdiv
  apply Int.emod_eq_zero_of_dvd
  refine ⟨ks - ka - kb - ((linPlain m a + linPlain m b) / (2 ^ 32 * m) : Nat), ?_⟩
  rw [hs, hka, hkb]
  generalize (linPlain m a + linPlain m b) / (2 ^ 32 * m) = q at hdiv ⊢
  have hdiv' := congrArg (Nat.cast : Nat → Int) hdiv
  push_cast at hdiv' ⊢
  linear_combination hdiv'

end Sys2Proof.Machine
end

section
/-! Fields and flags after an update of their register or of another. -/

namespace Sys2Proof.Machine

variable (s : State)

theorem State.f_hwSet_field {o : Nat} {g d : Fld} (v : Nat) (h : g.lo + g.w ≤ 32) (h' : d.lo + d.w ≤ 32)
    (hd : d.lo + d.w ≤ g.lo ∨ g.lo + g.w ≤ d.lo) : (s.hwSet o g v).f o d = s.f o d := State.f_setF_field _ v h h' hd

theorem State.f_hwSet_reg {o x : Nat} (g d : Fld) (v : Nat) (h : x ≠ o) : (s.hwSet o g v).f x d = s.f x d :=
  State.f_setF_reg _ g d v h

theorem State.f_bump_field {o : Nat} {g d : Fld} (k : Nat) (h : g.lo + g.w ≤ 32) (h' : d.lo + d.w ≤ 32)
    (hd : d.lo + d.w ≤ g.lo ∨ g.lo + g.w ≤ d.lo) : (s.bump o g k).f o d = s.f o d := State.f_setF_field _ _ h h' hd

theorem State.f_bump_reg {o x : Nat} (g d : Fld) (k : Nat) (h : x ≠ o) : (s.bump o g k).f x d = s.f x d :=
  State.f_setF_reg _ g d _ h

theorem State.rd_bump_other {o x : Nat} (g : Fld) (k : Nat) (h : x ≠ o) : (s.bump o g k).rd x = s.rd x :=
  State.rd_setF_other _ g _ h

variable {s}

theorem State.flag_of_f {o : Nat} {g : Fld} (h : s.f o g = 1) : s.flag o g = true := (s.flag_iff o g).2 (by omega)

theorem State.flag_false_iff {o : Nat} {g : Fld} : s.flag o g = false ↔ s.f o g = 0 := by
  rw [Bool.eq_false_iff, ne_eq, State.flag_iff, not_not]

theorem State.flag_congr {t : State} {o : Nat} {g : Fld} (h : t.f o g = s.f o g) : t.flag o g = s.flag o g := by
  rw [State.flag, State.flag, h]

variable (s)

theorem State.flag_setF_one (o : Nat) {g : Fld} (h : g.lo + g.w ≤ 32) (hw : 0 < g.w) : (s.setF o g 1).flag o g = true :=
  State.flag_of_f (by rw [s.f_setF_same o g 1 h, Nat.mod_eq_of_lt (Nat.one_lt_two_pow hw.ne')])

theorem State.flag_hwSet_one (o : Nat) {g : Fld} (h : g.lo + g.w ≤ 32) (hw : 0 < g.w) : (s.hwSet o g 1).flag o g = true :=
  State.flag_setF_one _ o h hw

theorem State.flag_setF_zero (o : Nat) {g : Fld} (h : g.lo + g.w ≤ 32) : (s.setF o g 0).flag o g = false :=
  State.flag_false_iff.2 (by rw [s.f_setF_same o g 0 h, Nat.zero_mod])

theorem State.flag_setF_field {o : Nat} {g d : Fld} (v : Nat) (h : g.lo + g.w ≤ 32) (h' : d.lo + d.w ≤ 32)
    (hd : d.lo + d.w ≤ g.lo ∨ g.lo + g.w ≤ d.lo) : (s.setF o g v).flag o d = s.flag o d :=
  State.flag_congr (s.f_setF_field v h h' hd)

theorem State.flag_setF_reg {o x : Nat} (g d : Fld) (v : Nat) (h : x ≠ o) : (s.setF o g v).flag x d = s.flag x d :=
  State.flag_congr (s.f_setF_reg g d v h)

theorem State.flag_hwSet_field {o : Nat} {g d : Fld} (v : Nat) (h : g.lo + g.w ≤ 32) (h' : d.lo + d.w ≤ 32)
    (hd : d.lo + d.w ≤ g.lo ∨ g.lo + g.w ≤ d.lo) : (s.hwSet o g v).flag o d = s.flag o d :=
  State.flag_congr (s.f_hwSet_field v h h' hd)

theorem State.flag_hwSet_reg {o x : Nat} (g d : Fld) (v : Nat) (h : x ≠ o) : (s.hwSet o g v).flag x d = s.flag x d :=
  State.flag_congr (s.f_hwSet_reg g d v h)

theorem State.sameRegs.f {t : State} {l : List Nat} {o : Nat} (h : s.sameRegs t l) (ho : o ∉ l) (g : Fld) : t.f o g = s.f o g := by
  rw [State.f, h o ho, State.f]

theorem State.sameRegs.flag {t : State} {l : List Nat} {o : Nat} (h : s.sameRegs t l) (ho : o ∉ l) (g : Fld) :
    t.flag o g = s.flag o g := State.flag_congr (h.f s ho g)

end Sys2Proof.Machine
end

section
/-! `onlyRegs` along a chain of operations, as `sameRegs` above. -/

namespace Sys2Proof.Machine

theorem State.onlyRegs_refl {s : State} {faults : List Raised} (h : s.raised = faults) (l : List Nat) : s.onlyRegs s l faults := by
  subst h
  exact ⟨rfl, s.sameRegs_refl l⟩

section
variable {s t : State} {l : List Nat} {o : Nat} {faults : List Raised} (h : s.onlyRegs t l faults)
include h

theorem State.onlyRegs.raised : t.raised = faults := by
  rw [h.1]

theorem State.onlyRegs.wr (ho : o ∈ l) (v : Word) : s.onlyRegs (t.wr o v) l faults :=
  ⟨by rw [State.wr, h.1], h.2.wr ho v⟩

/-- A register that is written with the word it holds reads the same. -/
theorem State.onlyRegs.wr_keep {v : Word} (hv : v = t.rd o) : s.onlyRegs (t.wr o v) l faults := by
  refine ⟨by rw [State.wr, h.1], fun off hoff => ?_⟩
  rw [t.rd_wr]
  split
  · next heq => rw [hv, ← heq, h.2 off hoff]
  · exact h.2 off hoff

theorem State.onlyRegs.setF (ho : o ∈ l) (g : Fld) (v : Nat) : s.onlyRegs (t.setF o g v) l faults := h.wr ho _

theorem State.onlyRegs.setCycle (c : CycleRt) : s.onlyRegs { t with cycle := c } l faults :=
  ⟨by rw [h.1], h.2⟩

theorem State.onlyRegs.noteEvent (a b : Nat) : s.onlyRegs (t.noteEvent a b) l faults := h.setCycle _

theorem State.onlyRegs.noteOld (o : Nat) : s.onlyRegs (t.noteOld o) l faults := h.setCycle _

theorem State.onlyRegs.noteNew (o : Nat) (g : Fld) (v : Nat) : s.onlyRegs (t.noteNew o g v) l faults := h.setCycle _

theorem State.onlyRegs.hwSet (ho : o ∈ l) (g : Fld) (v : Nat) : s.onlyRegs (t.hwSet o g v) l faults :=
  (h.noteNew o g v).setF ho g v

theorem State.onlyRegs.bump (ho : o ∈ l) (g : Fld) (k : Nat) : s.onlyRegs (t.bump o g k) l faults :=
  (h.noteNew o g _).setF ho g _

theorem State.onlyRegs.raise (i j : Nat) (b : List Byte) : s.onlyRegs (t.raise i j b) l (faults ++ [faultOf i j b]) :=
  ⟨by rw [State.raise, h.raised, h.1, faultOf], h.2⟩

theorem State.onlyRegs.wrN (ho : o ∈ l) (v : Nat) : s.onlyRegs (t.wrN o v) l faults := h.wr ho _

theorem State.onlyRegs.wr64 {hi : Nat} (ho : o ∈ l) (hh : hi ∈ l) (v : Nat) : s.onlyRegs (t.wr64 o hi v) l faults :=
  (h.wrN ho v).wrN hh _

theorem State.onlyRegs.ite {u : State} {c : Prop} [Decidable c] (hu : s.onlyRegs u l faults) : s.onlyRegs (if c then t else u) l faults := by
  split
  · exact h
  · exact hu

theorem State.onlyRegs.mono {l' : List Nat} (hl : l ⊆ l') : s.onlyRegs t l' faults := ⟨h.1, h.2.mono hl⟩

theorem State.onlyRegs.rd (ho : o ∉ l) : t.rd o = s.rd o := h.2 o ho

end

end Sys2Proof.Machine
end

section
/-! Writes of registers by the access types of their fields (R10, R11, R437). -/

namespace Sys2Proof.Machine

/-- Registers of RW fields alone that no operation of the block watches. -/
def plainRwRegs : List Nat :=
  [R.PWR_WAKE_EN, R.PWR_FALLOW_TIMER, R.HOST_INTX_EN, R.HOST_GLB_EN, R.HOST_SPI_IRQ_EN, R.XFER_RAMP, R.SRC_PRIO, R.PD_HP_CFG,
    R.HRW_RECOVERY, R.HRW_INJECT_ADDR, R.DRILL_CFG, R.FWU_CFG]

/-- Registers of the set-up window that a write reaches by the access types of their fields alone. -/
def plainRegs : List Nat := R.HOST_IRQ_STATUS :: R.GLB_ID :: plainRwRegs ++ (List.range 12).map R.PSW_CFG

theorem State.busWrite_plain (s : State) (p : Path) {off : Nat} (v : Word) (h : off ∈ plainRegs) :
    s.busWrite p off v = s.inOrder p off (s.rd off) v fun v s => s.plainWrite p off v := by
  fin_cases h <;> rfl

theorem exec_registerWrite (p : Path) {off : Nat} (v : Word) (be : Fin 16) {s : State} (hl : s.live) (ho : off < 0x40000) :
    exec (.registerWrite p off v be) s =
      .next (if p = .pcie ∧ be ≠ 15 then s.raise 0x92 0 [] else s.busWrite p off v).settle :=
  (s.onWindow_in _ ho).trans (State.act_on _ hl.1)

theorem State.hwDenied_of_no_hw {s : State} {p : Path} {off : Nat} (v : Word) (h : accMask off [.hw] = 0#32) : s.hwDenied p off v = s :=
  if_pos (.inr (by rw [h, BitVec.and_zero]))

theorem State.plainWrite_of_no_hw {s : State} {p : Path} {off : Nat} (v : Word) (h : accMask off [.hw] = 0#32)
    (h' : accMask off [.rw, .hw] = accMask off [.rw]) :
    s.plainWrite p off v = s.wr off (((s.rd off &&& ~~~accMask off [.rw]) ||| (v &&& accMask off [.rw])) &&&
      ~~~(accMask off [.w1c] &&& v &&& ~~~s.cycleNew off)) := by
  rw [State.plainWrite, State.hwDenied_of_no_hw v h]
  cases p <;> simp [h']

/-- What happened in the cycle is noted beside what the registers gained in it. -/
theorem State.noteEvent_cycleNew (s : State) (a b off : Nat) : (s.noteEvent a b).cycleNew off = s.cycleNew off := by
  have hat : s.cycleRt.at_ = s.cyc := by
    unfold State.cycleRt
    split
    · assumption
    · rfl
  have hcyc : (s.noteEvent a b).cycleRt = (s.noteEvent a b).cycle := if_pos hat
  rw [State.cycleNew, hcyc]
  rfl

/-- The word that a write of one path stores where it comes before another path's write of the same cycle (R437). -/
def State.orderedWord (s : State) (p : Path) (off : Nat) (v : Word) : Word :=
  if s.laterWrote p off then (v &&& ~~~accMask off [.rw]) ||| (s.rd off &&& accMask off [.rw]) else v

theorem State.busWrite_plain_of_no_hw {s : State} {p : Path} {off : Nat} (v : Word) (ho : off ∈ plainRegs) (h : accMask off [.hw] = 0#32)
    (h' : accMask off [.rw, .hw] = accMask off [.rw]) :
    s.busWrite p off v = (s.noteEvent (20 + pathRank p) off).wr off
      (((s.rd off &&& ~~~accMask off [.rw]) ||| (s.orderedWord p off v &&& accMask off [.rw])) &&&
        ~~~(accMask off [.w1c] &&& s.orderedWord p off v &&& ~~~s.cycleNew off)) := by
  rw [s.busWrite_plain p v ho, State.inOrder, State.plainWrite_of_no_hw _ h h', State.noteEvent_cycleNew]
  rfl

theorem State.onlyRegs_busWrite_plain {s : State} {p : Path} {off : Nat} (v : Word) (hr : s.raised = []) (ho : off ∈ plainRegs)
    (h : accMask off [.hw] = 0#32) (h' : accMask off [.rw, .hw] = accMask off [.rw]) : s.onlyRegs (s.busWrite p off v) [off] [] := by
  rw [State.busWrite_plain_of_no_hw v ho h h']
  exact ((State.onlyRegs_refl hr _).noteEvent _ _).wr List.mem_cons_self _

/-- A write that comes later in the cycle is the one that stays. -/
theorem keep_of_ordered (r v m : Word) : (r &&& ~~~m) ||| (((v &&& ~~~m) ||| (r &&& m)) &&& m) = r := by
  ext i hi
  simp only [BitVec.getElem_or, BitVec.getElem_and, BitVec.getElem_not]
  cases r[i] <;> cases m[i] <;> simp

theorem exec_registerWrite_quiet (p : Path) {off : Nat} (v : Word) {s t : State} (hl : s.live) (ho : off < 0x40000)
    (ht : s.busWrite p off v = t) (hr : t.raised = []) : exec (.registerWrite p off v 15) s = .next t := by
  rw [exec_registerWrite p v 15 hl ho, if_neg (by simp), ht, State.settle_quiet hr]

theorem plainRwRegs_masks {off : Nat} (h : off ∈ plainRwRegs) :
    off ∈ plainRegs ∧ off < 0x40000 ∧ accMask off [.hw] = 0#32 ∧ accMask off [.rw, .hw] = accMask off [.rw] ∧ accMask off [.w1c] = 0#32 := by
  have hall : ∀ o ∈ plainRwRegs, o ∈ plainRegs ∧ o < 0x40000 ∧ accMask o [.hw] = 0#32 ∧
      accMask o [.rw, .hw] = accMask o [.rw] ∧ accMask o [.w1c] = 0#32 := by decide +kernel
  exact hall off h

/-- An RW register takes the word in its fields, unless another path writes it later in the cycle. -/
theorem State.rd_busWrite_rw {s : State} {p : Path} {off : Nat} (v : Word) (ho : off ∈ plainRwRegs) :
    (s.busWrite p off v).rd off = (s.rd off &&& ~~~accMask off [.rw]) ||| (s.orderedWord p off v &&& accMask off [.rw]) := by
  obtain ⟨hp, -, hhw, hboth, hw1c⟩ := plainRwRegs_masks ho
  rw [State.busWrite_plain_of_no_hw v hp hhw hboth, State.rd_wr_same, hw1c, BitVec.zero_and, BitVec.zero_and, BitVec.not_zero,
    BitVec.and_allOnes]

theorem State.busWrite_high {s : State} {p : Path} {off : Nat} (v : Word) (h : 0x20000 ≤ off) : s.busWrite p off v = s := if_pos h

theorem word_and_ones (x : Word) : x &&& 0xFFFFFFFF#32 = x := BitVec.and_allOnes

theorem word_ones_and (x : Word) : 0xFFFFFFFF#32 &&& x = x := BitVec.allOnes_and

/-- A register without RW fields takes nothing from another master than Headland. -/
theorem State.plainWrite_of_no_rw {s : State} {p : Path} {off : Nat} (v : Word) (hp : p ≠ .headland) (h : accMask off [.rw] = 0#32)
    (hw1c : accMask off [.w1c] = 0#32) : s.plainWrite p off v = (s.hwDenied p off v).wr off ((s.hwDenied p off v).rd off) := by
  rw [State.plainWrite, if_neg hp, h, hw1c]
  simp [word_and_ones]

theorem State.orderedWord_of_no_rw {s : State} {p : Path} {off : Nat} (v : Word) (h : accMask off [.rw] = 0#32) :
    s.orderedWord p off v = v := by
  simp [State.orderedWord, h, word_and_ones]

theorem pswCfg_masks (w : Fin 12) :
    R.PSW_CFG w ∈ plainRegs ∧ accMask (R.PSW_CFG w) [.rw] = 0#32 ∧ accMask (R.PSW_CFG w) [.w1c] = 0#32 := by
  have hall : ∀ w : Fin 12, R.PSW_CFG w ∈ plainRegs ∧ accMask (R.PSW_CFG w) [.rw] = 0#32 ∧ accMask (R.PSW_CFG w) [.w1c] = 0#32 := by
    decide +kernel
  exact hall w

/-- A path switch register is an HW register: another master's write that would change it is a fault and nothing else. -/
theorem State.onlyRegs_busWrite_psw {s : State} {p : Path} (w : Fin 12) (v : Word) (hr : s.raised = []) (hp : p ≠ .headland)
    (hv : (s.rd (R.PSW_CFG w) ^^^ v) &&& accMask (R.PSW_CFG w) [.hw] ≠ 0#32) :
    s.onlyRegs (s.busWrite p (R.PSW_CFG w) v) [] [faultOf 0xB0 (pathNo p) (leBytes 4 (R.PSW_CFG w))] := by
  obtain ⟨hmem, hrw, hw1c⟩ := pswCfg_masks w
  have hword : (if s.laterWrote p (R.PSW_CFG w) then (v &&& ~~~accMask (R.PSW_CFG w) [.rw]) |||
      (s.rd (R.PSW_CFG w) &&& accMask (R.PSW_CFG w) [.rw]) else v) = v := State.orderedWord_of_no_rw v hrw
  have hden : (s.noteEvent (20 + pathRank p) (R.PSW_CFG w)).hwDenied p (R.PSW_CFG w) v =
      (s.noteEvent (20 + pathRank p) (R.PSW_CFG w)).raise 0xB0 (pathNo p) (leBytes 4 (R.PSW_CFG w)) :=
    if_neg (not_or_intro hp hv)
  rw [s.busWrite_plain p v hmem, State.inOrder, hword, State.plainWrite_of_no_rw v hp hrw hw1c, hden]
  exact (((State.onlyRegs_refl hr []).noteEvent _ _).raise _ _ _).wr_keep rfl

/-- Settles O8: each register of the list is one `plainWrite`, whose effect is told by the masks of its access types. -/
theorem registerWriteFollowsAccessTypes : Obligations.RegisterWriteFollowsAccessTypes := by
  intro s p v hl
  refine ⟨fun off be ho hbe => ?_, fun off ho => ?_, ?_, ?_, fun off hlo ho => ?_, fun off be ho hbe => ?_, fun w hp hv => ?_⟩
  · rw [exec_registerWrite p v be hl ho, if_neg fun h => hbe.elim (fun hne => hne h.1) h.2]
  · obtain ⟨hp, hin, hhw, hboth, -⟩ := plainRwRegs_masks ho
    have hregs := State.onlyRegs_busWrite_plain (p := p) v hl.2 hp hhw hboth
    refine ⟨_, exec_registerWrite_quiet p v hl hin rfl hregs.raised, hregs, fun hlater => ?_, fun hlater => ?_⟩
    · rw [State.rd_busWrite_rw v ho, State.orderedWord, hlater, if_neg Bool.false_ne_true]
    · rw [State.rd_busWrite_rw v ho, State.orderedWord, if_pos hlater, keep_of_ordered]
  · have hregs := State.onlyRegs_busWrite_plain (s := s) (p := p) (off := R.HOST_IRQ_STATUS) v hl.2 (by decide) (by decide) (by decide)
    refine ⟨_, exec_registerWrite_quiet p v hl (by decide) rfl hregs.raised, hregs, ?_⟩
    rw [State.busWrite_plain_of_no_hw v (by decide) (by decide) (by decide), State.rd_wr_same,
      State.orderedWord_of_no_rw v (by decide), show accMask R.HOST_IRQ_STATUS [.rw] = 0#32 by decide,
      show accMask R.HOST_IRQ_STATUS [.w1c] = 0xFFFFFFFF#32 by decide]
    simp [word_and_ones, word_ones_and]
  · have hregs : s.onlyRegs (s.busWrite p R.GLB_ID v) [] [] := by
      rw [State.busWrite_plain_of_no_hw v (by decide) (by decide) (by decide), show accMask R.GLB_ID [.rw] = 0#32 by decide,
        show accMask R.GLB_ID [.w1c] = 0#32 by decide]
      exact ((State.onlyRegs_refl hl.2 []).noteEvent _ _).wr_keep (by simp [word_and_ones])
    exact ⟨_, exec_registerWrite_quiet p v hl (by decide) rfl hregs.raised, hregs⟩
  · exact exec_registerWrite_quiet p v hl ho (State.busWrite_high v hlo) hl.2
  · rw [exec_registerWrite .pcie v be hl ho, if_pos ⟨rfl, hbe⟩]
  · exact ⟨_, by rw [exec_registerWrite p v 15 hl (by simp only [R.PSW_CFG]; omega), if_neg (by simp)],
      State.onlyRegs_busWrite_psw w v hl.2 hp hv⟩

end Sys2Proof.Machine
end

section
/-! Reads that clear (R10, R64) and values in two words (R15). -/

namespace Sys2Proof.Machine

theorem maskLow_getElem {w i : Nat} (hw : w ≤ 32) (hi : i < 32) : (maskLow w)[i] = decide (i < w) := by
  rw [← BitVec.getLsbD_eq_getElem, maskLow_getLsbD hw]

/-- Where a word is taken from another inside a field, that field reads the other word. -/
theorem getBits_mix_in (r n : Word) {lo w : Nat} (h : lo + w ≤ 32) :
    getBits ((r &&& ~~~(maskLow w <<< lo)) ||| (n &&& (maskLow w <<< lo))) lo w = getBits n lo w := by
  apply Nat.eq_of_testBit_eq
  intro i
  rw [getBits_testBit (by omega), getBits_testBit (by omega)]
  by_cases hi : i < w
  · have hmask : (maskLow w)[i]'(by omega) = true := by rw [maskLow_getElem (by omega), decide_eq_true hi]
    simp [hi, show lo + i < 32 by omega, hmask]
  · simp [hi]

/-- A field that shares no bit with the one taken stays. -/
theorem getBits_mix_out (r n : Word) {lo w lo' w' : Nat} (h : lo + w ≤ 32) (h' : lo' + w' ≤ 32)
    (hd : lo' + w' ≤ lo ∨ lo + w ≤ lo') :
    getBits ((r &&& ~~~(maskLow w <<< lo)) ||| (n &&& (maskLow w <<< lo))) lo' w' = getBits r lo' w' := by
  apply Nat.eq_of_testBit_eq
  intro i
  rw [getBits_testBit (by omega), getBits_testBit (by omega)]
  by_cases hi : i < w'
  · have hlt : lo' + i < 32 := by omega
    have hout : ¬ (lo ≤ lo' + i ∧ lo' + i - lo < w) := by omega
    rcases not_and_or.1 hout with hlo | hw
    · simp [hi, hlt, Nat.lt_of_not_le hlo]
    · have hmask : (maskLow w)[lo' + i - lo]'(by omega) = false := by rw [maskLow_getElem (by omega), decide_eq_false hw]
      simp [hi, hlt, hmask]
  · simp [hi]

/-! LOST of a ring pair. -/

theorem accMask_ringCnt_rc (q : Fin 32) :
    accMask (R.RING_CNT q) [.rc] = maskLow F.RING_CNT_LOST.w <<< F.RING_CNT_LOST.lo := by
  have hall : ∀ q : Fin 32, accMask (R.RING_CNT q) [.rc] = maskLow F.RING_CNT_LOST.w <<< F.RING_CNT_LOST.lo := by decide +kernel
  exact hall q

/-- The read of a ring pair's counts leaves in the RC field what the cycle has added. -/
def State.ringCntRead (s : State) (q : Nat) : State :=
  (s.noteOld (R.RING_CNT q)).wr (R.RING_CNT q) ((s.rd (R.RING_CNT q) &&& ~~~accMask (R.RING_CNT q) [.rc]) |||
    (s.cycleNew (R.RING_CNT q) &&& accMask (R.RING_CNT q) [.rc]))

theorem State.busRead_ringCnt (s : State) (p : Path) (q : Fin 32) : s.busRead p (R.RING_CNT q) =
    ((s.rd (R.RING_CNT q) &&& ~~~accMask (R.RING_CNT q) [.rc]) ||| (s.cycleOld (R.RING_CNT q) &&& accMask (R.RING_CNT q) [.rc]),
      s.ringCntRead q) := by
  fin_cases q <;> rfl

theorem State.ringCntRead_onlyRegs {s : State} (q : Nat) (hr : s.raised = []) : s.onlyRegs (s.ringCntRead q) [R.RING_CNT q] [] :=
  ((State.onlyRegs_refl hr _).noteOld _).wr List.mem_cons_self _

/-! The captures. -/

/-- What a read of a capture leaves: CAP_FULL is clear, and the high word may stand in the latch of the path (R13, R64). -/
def State.capSeen (s : State) (st : Nat) (g : Fld) (hi : Tab Word) : State := ({ s with hiLatch := hi }).setF st g 0

theorem State.capSeen_raised (s : State) (st : Nat) (g : Fld) (hi : Tab Word) : (s.capSeen st g hi).raised = s.raised := rfl

theorem State.capSeen_outbox (s : State) (st : Nat) (g : Fld) (hi : Tab Word) : (s.capSeen st g hi).outbox = s.outbox := rfl

theorem State.capSeen_sameRegs (s : State) (st : Nat) (g : Fld) (hi : Tab Word) : s.sameRegs (s.capSeen st g hi) [st] := fun _ ho =>
  State.rd_setF_other _ g 0 (List.ne_of_not_mem_cons ho)

theorem State.capSeen_flag (s : State) {st : Nat} {g : Fld} (hi : Tab Word) (hg : g.lo + g.w ≤ 32) :
    (s.capSeen st g hi).flag st g = false := by
  rw [Bool.eq_false_iff, ne_eq, State.flag_iff, not_not, State.capSeen, State.f_setF_same _ _ _ _ hg, Nat.zero_mod]

theorem State.busRead_coordCap (s : State) (p : Path) (n : Fin 6) : ∃ hi : Tab Word, s.busRead p (R.COORD_CAP_LO n) =
    (s.rd (R.COORD_CAP_LO n), s.capSeen (R.COORD_STATUS n) F.COORD_STATUS_CAP_FULL hi) := by
  fin_cases n <;> exact ⟨_, rfl⟩

theorem State.gptLo_gptCap (s : State) (m : Fin 16) : s.gptLo (R.GPT_CAP m) = (m.val % 2 == 0 && s.gptChained m) := by
  fin_cases m <;> rfl

theorem State.gptLo_below_gptCap (s : State) (m : Fin 16) :
    s.gptLo (R.GPT_CAP m - 32) = (m.val % 2 == 1 && s.gptChained m) := by
  fin_cases m <;> rfl

theorem gptCap_plain (m : Fin 16) : wideLo (R.GPT_CAP m) = none ∧ wideHi (R.GPT_CAP m) = none ∧
    accMask (R.GPT_CAP m) [.rc] = 0#32 ∧ R.GPT_CAP m < 0x20000 ∧ ¬ (0x1400 ≤ R.GPT_CAP m ∧ R.GPT_CAP m < 0x2000) := by
  have hall : ∀ m : Fin 16, wideLo (R.GPT_CAP m) = none ∧ wideHi (R.GPT_CAP m) = none ∧
    accMask (R.GPT_CAP m) [.rc] = 0#32 ∧ R.GPT_CAP m < 0x20000 ∧ ¬ (0x1400 ≤ R.GPT_CAP m ∧ R.GPT_CAP m < 0x2000) := by decide +kernel
  exact hall m

/-- The capture of a timer that is not the high half of a pair is no high word. -/
theorem State.loWord_gptCap {s : State} (m : Fin 16) (hb : s.gptBase m = m) : s.loWord (R.GPT_CAP m) = none := by
  have hlow : s.gptLo (R.GPT_CAP m - 32) = false := by
    rw [s.gptLo_below_gptCap]
    cases hc : s.gptChained m with
    | false => exact Bool.and_false _
    | true =>
      rw [State.gptBase, if_pos hc] at hb
      have heven : m.val % 2 ≠ 1 := by omega
      rw [Bool.and_true, beq_eq_false_iff_ne]
      exact heven
  rw [State.loWord, hlow, Bool.and_false, if_neg Bool.false_ne_true, (gptCap_plain m).1]

theorem State.view_gptCap (s : State) (m : Fin 16) : s.view (R.GPT_CAP m) = (s.rd (R.GPT_CAP m), s) := by
  fin_cases m <;> rfl

theorem State.view_above_gptCap (s : State) (m : Fin 16) : (s.view (R.GPT_CAP m + 32)).2 = s := by
  fin_cases m <;> rfl

theorem State.readEffects_gptCap (s : State) (m : Fin 16) :
    s.readEffects (R.GPT_CAP m) = s.setF (R.GPT_STATUS m) F.GPT_STATUS_CAP_FULL 0 := by
  fin_cases m <;> rfl

theorem State.busRead_gptCap (s : State) (p : Path) (m : Fin 16) (hb : s.gptBase m = m) :
    ∃ hi : Tab Word, s.busRead p (R.GPT_CAP m) =
    (s.rd (R.GPT_CAP m), s.capSeen (R.GPT_STATUS m) F.GPT_STATUS_CAP_FULL hi) := by
  obtain ⟨-, hwide, hrc, hwin, hmsix⟩ := gptCap_plain m
  rw [State.busRead, if_neg (Nat.not_le.2 hwin), if_neg hmsix]
  cases hg : s.gptLo (R.GPT_CAP m) with
  | true =>
    have hhi : s.hiWord (R.GPT_CAP m) = some (R.GPT_CAP m + 32) := if_pos hg
    simp only [State.loWord_gptCap m hb, hhi, State.view_gptCap, State.view_above_gptCap, State.readEffects_gptCap]
    exact ⟨_, rfl⟩
  | false =>
    have hhi : s.hiWord (R.GPT_CAP m) = none := by rw [State.hiWord, hg, if_neg Bool.false_ne_true, hwide]
    simp only [State.loWord_gptCap m hb, hhi, State.view_gptCap, State.readEffects_gptCap, hrc]
    exact ⟨s.hiLatch, by simp [word_and_ones, State.capSeen]⟩

theorem State.readOut_of_busRead {s t : State} {p : Path} {off : Nat} {w : Word} (h : s.busRead p off = (w, t)) :
    s.readOut p off = t.emit (.readData p off w) := by
  rw [State.readOut, h]

theorem exec_capRead (p : Path) (u : CapUnit) (s : State) : exec (.capRead p u) s = execCapRead p u s := rfl

/-- A read of a capture whose word the bus shows returns it and clears CAP_FULL. -/
theorem exec_capRead_of_busRead {s : State} {p : Path} {u : CapUnit} {off st : Nat} {g : Fld} {hi : Tab Word} (hl : s.live)
    (hexec : execCapRead p u s = s.act fun s => s.readOut p off) (hread : s.busRead p off = (s.rd off, s.capSeen st g hi))
    (hg : g.lo + g.w ≤ 32) : ∃ t, exec (.capRead p u) s = .next t ∧ t.outbox = s.outbox ++ [.readData p off (s.rd off)] ∧
      t.flag st g = false ∧ s.sameRegs t [st] := by
  refine ⟨(s.capSeen st g hi).emit (.readData p off (s.rd off)), ?_, ?_, ?_, ?_⟩
  · rw [exec_capRead, hexec, State.act_on _ hl.1, State.readOut_of_busRead hread]
    exact congrArg _ (State.settle_quiet hl.2)
  · rw [State.emit_outbox, State.capSeen_outbox]
  · rw [State.emit_flag_of, State.capSeen_flag _ _ hg]
  · exact s.capSeen_sameRegs st g hi

/-- Settles O10: each read is one `busRead`, which leaves `ringCntRead` of the state, or clears one CAP_FULL. -/
theorem registerReadsClearWhatTheySay : Obligations.RegisterReadsClearWhatTheySay := by
  intro s p hl
  refine ⟨fun q => ?_, fun n => ?_, fun m hb => ?_⟩
  · have honly := State.ringCntRead_onlyRegs q.val hl.2
    have hlt : R.RING_CNT q < 0x40000 := by simp only [R.RING_CNT]; omega
    refine ⟨(s.ringCntRead q).emit (.readData p (R.RING_CNT q) _), ?_, rfl, ?_, ?_, honly.2, ?_⟩
    · rw [exec_rcRead p hlt hl, State.readOut_of_busRead (s.busRead_ringCnt p q)]
      exact congrArg _ (State.settle_quiet honly.raised)
    · rw [State.emit_f_of, State.f, State.ringCntRead, State.rd_wr_same, accMask_ringCnt_rc, getBits_mix_in _ _ (by decide)]
    · rw [State.emit_f_of, State.f, State.ringCntRead, State.rd_wr_same, accMask_ringCnt_rc,
        getBits_mix_out _ _ (by decide) (by decide) (by decide), State.f]
    · exact congrArg (fun t : State => t.emit _) (hl.2 ▸ honly.1)
  · obtain ⟨hi, hread⟩ := s.busRead_coordCap p n
    exact exec_capRead_of_busRead hl rfl hread (by decide)
  · obtain ⟨hi, hread⟩ := s.busRead_gptCap p m hb
    exact exec_capRead_of_busRead hl rfl hread (by decide)

end Sys2Proof.Machine
end

section
/-! A value in two words: HOST_DB_BASE (R15). -/

namespace Sys2Proof.Machine

/-- The low word stands in the staging register of its path. -/
def State.withStaged (s : State) (p : Path) (off : Nat) (v : Word) : State :=
  { s with loStage := tabSet latchDefault s.loStage (pathKey p off) v }

theorem State.withStaged_staged (s : State) (p : Path) (off : Nat) (v : Word) : (s.withStaged p off v).staged p off = v.toNat :=
  congrArg BitVec.toNat (tabGet_set_same _ _ _ _)

theorem State.withStaged_raised (s : State) (p : Path) (off : Nat) (v : Word) : (s.withStaged p off v).raised = s.raised := rfl

theorem State.withStaged_live {s : State} (hl : s.live) (p : Path) (off : Nat) (v : Word) : (s.withStaged p off v).live := hl

theorem State.withStaged_eq (s : State) (p : Path) (off : Nat) (v : Word) :
    s.withStaged p off v = { s with loStage := (s.withStaged p off v).loStage } := rfl

theorem State.withStaged_laterWrote (s : State) (p q : Path) (off o : Nat) (v : Word) :
    (s.withStaged p off v).laterWrote q o = s.laterWrote q o := rfl

theorem State.noteEvent_staged (s : State) (a b : Nat) (p : Path) (off : Nat) : (s.noteEvent a b).staged p off = s.staged p off := rfl

theorem hwClosed_of_no_hw {p : Path} {off : Nat} (h : accMask off [.hw] = 0#32) : hwClosed p off = false := by
  rw [hwClosed, h, bne_self_eq_false, Bool.and_false]

/-- The low word of a register without HW fields waits for the high word. -/
theorem State.stageLo_of_no_hw {s : State} {p : Path} {off : Nat} (v : Word) (hrw : accMask off [.rw, .hw] ≠ 0#32)
    (h : accMask off [.hw] = 0#32) : s.stageLo p off v = s.withStaged p off v := by
  rw [State.stageLo, if_neg hrw]
  dsimp only
  rw [State.hwDenied_of_no_hw v h, hwClosed_of_no_hw h, if_neg Bool.false_ne_true, State.withStaged]

theorem State.busWrite_dbBaseLo (s : State) (p : Path) (v : Word) :
    s.busWrite p R.HOST_DB_BASE_LO v = s.withStaged p R.HOST_DB_BASE_LO v :=
  (rfl : _ = s.stageLo p R.HOST_DB_BASE_LO v).trans (State.stageLo_of_no_hw v (by decide) (by decide))

/-- Both words take their fields: the low one the staged word, the high one the word written. -/
def State.commitDbBase (s : State) (p : Path) (v : Word) : State :=
  (s.loadReg R.HOST_DB_BASE_LO (BitVec.ofNat 32 (s.staged p R.HOST_DB_BASE_LO))).loadReg R.HOST_DB_BASE_HI v

theorem State.writeWide_dbBase (s : State) (p : Path) (v : Word) :
    s.writeWide p R.HOST_DB_BASE_LO R.HOST_DB_BASE_HI v = s.commitDbBase p v := by
  have heq : s.writeWide p R.HOST_DB_BASE_LO R.HOST_DB_BASE_HI v =
      if hwClosed p R.HOST_DB_BASE_HI then s.hwDenied p R.HOST_DB_BASE_HI v
      else (s.hwDenied p R.HOST_DB_BASE_HI v).commitDbBase p v := rfl
  rw [heq, hwClosed_of_no_hw (by decide), if_neg Bool.false_ne_true, State.hwDenied_of_no_hw v (by decide)]

theorem State.busWrite_dbBaseHi (s : State) (p : Path) (v : Word) :
    s.busWrite p R.HOST_DB_BASE_HI v = s.wideInOrder p R.HOST_DB_BASE_HI fun t => t.commitDbBase p v :=
  congrArg (s.wideInOrder p R.HOST_DB_BASE_HI) (funext fun t => t.writeWide_dbBase p v)

theorem State.onlyRegs.loadReg {s t : State} {l : List Nat} {faults : List Raised} {o : Nat} (h : s.onlyRegs t l faults) (ho : o ∈ l)
    (v : Word) : s.onlyRegs (t.loadReg o v) l faults := h.wr ho _

theorem State.onlyRegs_commitDbBase {s t : State} {faults : List Raised} (p : Path) (v : Word)
    (h : s.onlyRegs t [R.HOST_DB_BASE_LO, R.HOST_DB_BASE_HI] faults) :
    s.onlyRegs (t.commitDbBase p v) [R.HOST_DB_BASE_LO, R.HOST_DB_BASE_HI] faults :=
  (h.loadReg (by simp) _).loadReg (by simp) v

/-- Outside the bits that its mask selects, a field of a loaded register stays; inside, it is the word's. -/
theorem State.rd_loadReg_same (s : State) (o : Nat) (v : Word) :
    (s.loadReg o v).rd o = (s.rd o &&& ~~~accMask o [.rw, .hw]) ||| (v &&& accMask o [.rw, .hw]) := s.rd_wr_same o _

theorem State.rd_loadReg_other {s : State} {o x : Nat} (v : Word) (h : x ≠ o) : (s.loadReg o v).rd x = s.rd x := s.rd_wr_other _ h

theorem State.commitDbBase_lo (s : State) (p : Path) (v : Word) :
    getBits ((s.commitDbBase p v).rd R.HOST_DB_BASE_LO) 12 20 = getBits (BitVec.ofNat 32 (s.staged p R.HOST_DB_BASE_LO)) 12 20 := by
  rw [State.commitDbBase, State.rd_loadReg_other _ (by decide), State.rd_loadReg_same,
    show accMask R.HOST_DB_BASE_LO [.rw, .hw] = maskLow 20 <<< 12 by decide +kernel, getBits_mix_in _ _ (by decide)]

theorem State.commitDbBase_hi (s : State) (p : Path) (v : Word) :
    getBits ((s.commitDbBase p v).rd R.HOST_DB_BASE_HI) 0 2 = getBits v 0 2 := by
  rw [State.commitDbBase, State.rd_loadReg_same,
    show accMask R.HOST_DB_BASE_HI [.rw, .hw] = maskLow 2 <<< 0 by decide, getBits_mix_in _ _ (by decide)]

theorem exec_wideLoWrite (p : Path) {off : Nat} (v : Word) {s : State} (hl : s.live) (ho : off < 0x40000) :
    exec (.wideLoWrite p off v) s = .next (s.busWrite p off v).settle :=
  (s.onWindow_in _ ho).trans (State.act_on _ hl.1)

theorem exec_wideHiWrite (p : Path) {off : Nat} (v : Word) {s : State} (hl : s.live) (ho : off < 0x40000) :
    exec (.wideHiWrite p off v) s = .next (s.busWrite p off v).settle :=
  (s.onWindow_in _ ho).trans (State.act_on _ hl.1)

/-- Settles O11: the low word is `withStaged`, the high word `commitDbBase` unless another path's write of the cycle stays. -/
theorem splitValueCommitsWithHighWord : Obligations.SplitValueCommitsWithHighWord := by
  intro s p lo hi hl
  have hlive : (s.withStaged p R.HOST_DB_BASE_LO lo).live := State.withStaged_live hl _ _ _
  have honly : (s.withStaged p R.HOST_DB_BASE_LO lo).onlyRegs ((s.withStaged p R.HOST_DB_BASE_LO lo).busWrite p R.HOST_DB_BASE_HI hi)
      [R.HOST_DB_BASE_LO, R.HOST_DB_BASE_HI] [] := by
    have hnote := (State.onlyRegs_refl hlive.2 [R.HOST_DB_BASE_LO, R.HOST_DB_BASE_HI]).noteEvent (20 + pathRank p) R.HOST_DB_BASE_HI
    rw [State.busWrite_dbBaseHi, State.wideInOrder]
    split
    · exact hnote
    · exact State.onlyRegs_commitDbBase p hi hnote
  refine ⟨s.withStaged p R.HOST_DB_BASE_LO lo, ?_, State.withStaged_eq _ _ _ _, _, ?_, honly, fun hlater => ?_⟩
  · rw [exec_wideLoWrite p lo hl (by decide), s.busWrite_dbBaseLo, State.settle_quiet hlive.2]
  · rw [exec_wideHiWrite p hi hlive (by decide), State.settle_quiet honly.raised]
  · have hnow : (s.withStaged p R.HOST_DB_BASE_LO lo).laterWrote p R.HOST_DB_BASE_HI = false :=
      (s.withStaged_laterWrote _ _ _ _ _).trans hlater
    rw [State.busWrite_dbBaseHi, State.wideInOrder, hnow]
    have hstaged : ((s.withStaged p R.HOST_DB_BASE_LO lo).noteEvent (20 + pathRank p) R.HOST_DB_BASE_HI).staged p R.HOST_DB_BASE_LO =
        lo.toNat :=
      (State.noteEvent_staged _ _ _ _ _).trans (s.withStaged_staged p _ lo)
    rw [if_neg Bool.false_ne_true, State.commitDbBase_lo, State.commitDbBase_hi, hstaged, BitVec.ofNat_toNat, BitVec.setWidth_eq]
    exact ⟨rfl, rfl⟩

end Sys2Proof.Machine
end

section
/-! SPI frames (R264–R267). -/

namespace Sys2Proof.Machine

/-- A read of the local window fetches its bytes and nothing else. -/
theorem State.spiFetch_window (s : State) : ∀ (fuel a len : Nat) (acc : List Byte) (err : Nat), len ≤ fuel → 0x80000 ≤ a →
    a + len ≤ 0x100000 → s.spiFetch a len acc err fuel = (acc ++ s.winRead (a - 0x80000) len, err, s) := by
  intro fuel
  induction fuel with
  | zero =>
    intro a len acc err hf _ _
    rw [Nat.le_zero.1 hf, State.spiFetch, State.winRead, List.append_nil]
  | succ fuel ih =>
    intro a len acc err hf ha hin
    cases len with
    | zero => rw [State.spiFetch, if_pos rfl, State.winRead, List.append_nil]
    | succ len =>
      have hset : spiSetup a = false := decide_eq_false (by omega)
      have hwin : spiWindow a = true := decide_eq_true (by omega)
      rw [State.spiFetch, if_neg (by omega), hset, hwin, if_neg Bool.false_ne_true, if_pos rfl, ih _ _ _ _ (by omega) (by omega) (by omega),
        State.winRead, List.append_assoc, show a + 1 - 0x80000 = a - 0x80000 + 1 by omega, Nat.add_sub_cancel]
      rfl

theorem State.spiRead_window (s : State) {a len : Nat} (ha : 0x80000 ≤ a) (hin : a + len ≤ 0x100000) :
    s.spiRead a len = s.emit (.spiData (s.winRead (a - 0x80000) len)) := by
  have hset : spiSetup a = false := decide_eq_false (by omega)
  rw [State.spiRead, hset, Bool.false_and, if_neg Bool.false_ne_true, s.spiFetch_window len a len [] 0 (le_refl _) ha hin]
  rfl

theorem each_const {s : State} {l : List Nat} {g : Nat → State → State} (h : ∀ k ∈ l, ∀ t, g k t = t) : s.each l g = s := by
  induction l generalizing s with
  | nil => rfl
  | cons k l ih =>
    rw [State.each, List.foldl_cons, h k List.mem_cons_self]
    exact ih fun j hj => h j (List.mem_cons_of_mem k hj)

/-- Past the doorbell page, a host write of the window stores its bytes and no slot is seen. -/
theorem State.hostWin_past_doorbells (s : State) {off : Nat} (bytes : List Byte) (h : 0x1000 ≤ off) :
    s.hostWin off bytes = s.winWrite off bytes :=
  each_const fun p hp _ => if_neg fun hs => by
    have := List.mem_range.1 hp
    omega

theorem State.spiWrite_window (s : State) {a : Nat} {bs : List Byte} (ha : 0x81000 ≤ a) (hin : a + bs.length ≤ 0x100000) :
    s.spiWrite a bs = s.winWrite (a - 0x80000) bs := by
  have hset : spiSetup a = false := decide_eq_false (by omega)
  have hstore : s.spiStore a bs 0 bs.length = (0, s.winWrite (a - 0x80000) bs) := by
    cases bs with
    | nil => rfl
    | cons b bs =>
      rw [List.length_cons] at hin
      have hwin : spiWindow a = true := decide_eq_true (by omega)
      have hmin : min (b :: bs).length (0x100000 - a) = (b :: bs).length := by
        rw [List.length_cons]
        omega
      rw [List.length_cons, State.spiStore]
      simp only [List.isEmpty_cons, Bool.false_eq_true, if_false, hset, hwin, if_true, hmin, List.take_length, List.drop_length]
      rw [State.hostWin_past_doorbells _ _ (by omega)]
      cases bs.length with
      | zero => rfl
      | succ n => rfl
  rw [State.spiWrite, hset, Bool.false_and, if_neg Bool.false_ne_true, hstore]
  rfl

/-! The commands. -/

theorem exec_read (a len : Nat) {s : State} (hl : s.live) : exec (.read a len) s = .next (s.spiRead a len).settle :=
  (State.act_on _ hl.1 : execRead a len s = _)

theorem exec_quadRead (a len : Nat) {s : State} (hl : s.live) : exec (.quadRead a len) s = .next (s.spiRead a len).settle :=
  (State.act_on _ hl.1 : execQuadRead a len s = _)

theorem exec_write (a : Nat) (bs : List Byte) {s : State} (hl : s.live) : exec (.write a bs) s = .next (s.spiWrite a bs).settle :=
  (State.act_on _ hl.1 : execWrite a bs s = _)

theorem exec_quadWrite (a : Nat) (bs : List Byte) {s : State} (hl : s.live) :
    exec (.quadWrite a bs) s = .next (s.spiWrite a bs).settle := (State.act_on _ hl.1 : execQuadWrite a bs s = _)

theorem exec_readStatus (s : State) : exec .readStatus s = execReadStatus s := rfl

theorem exec_spiUnknownOpcode (op : Byte) (s : State) : exec (.spiUnknownOpcode op) s = execSpiUnknownOpcode op s := rfl

theorem State.winSet_raised (s : State) (a : Nat) (b : Byte) : (s.winSet a b).raised = s.raised := by
  simp only [State.winSet]
  split <;> rfl

theorem State.winWrite_raised (bs : List Byte) : ∀ (s : State) (a : Nat), (s.winWrite a bs).raised = s.raised := by
  induction bs with
  | nil => exact fun _ _ => rfl
  | cons b bs ih =>
    intro s a
    rw [State.winWrite, ih]
    split
    · exact s.winSet_raised a b
    · rfl

/-- A refused frame leaves its cause in HOST_SPI_STATUS, counts there, and shows ERR (R266). -/
theorem State.spiRefuse_spec (s : State) {cause : Nat} (h0 : cause ≠ 0) (h8 : cause < 8) :
    (s.spiRefuse cause).sys.spiErr = true ∧ (s.spiRefuse cause).raised = s.raised ∧
    (s.spiRefuse cause).f R.HOST_SPI_STATUS F.HOST_SPI_STATUS_LAST_ERR = cause ∧
    (s.spiRefuse cause).f R.HOST_SPI_STATUS F.HOST_SPI_STATUS_ERRS = min (s.f R.HOST_SPI_STATUS F.HOST_SPI_STATUS_ERRS + 1) 255 ∧
    s.sameRegs (s.spiRefuse cause) [R.HOST_SPI_STATUS] := by
  rw [State.spiRefuse, if_neg h0]
  refine ⟨rfl, rfl, ?_, ?_, ?_⟩
  · rw [State.f_bump_field _ _ (by decide) (by decide) (by decide), State.f_setF_same _ _ _ _ (by decide)]
    exact Nat.mod_eq_of_lt h8
  · rw [State.f_bump_same _ _ _ _ (by decide), State.f_setF_field _ _ (by decide) (by decide) (by decide)]
    rfl
  · exact State.sameRegs.bump (State.sameRegs.setF (t := { s with sys := { s.sys with spiErr := true } }) (s.sameRegs_refl _)
      List.mem_cons_self _ _) List.mem_cons_self _ _

/-- Settles O12: a window frame fetches or stores its bytes one by one; the others are one update each. -/
theorem spiFramesReachTheLocalWindow : Obligations.SpiFramesReachTheLocalWindow := by
  intro s hl
  refine ⟨fun a len ha hin => ?_, fun a bs ha hin => ?_, ?_, fun op h1 h2 h3 h4 h5 => ?_⟩
  · rw [exec_read a len hl, exec_quadRead a len hl, s.spiRead_window ha hin, State.settle_quiet ((s.emit_raised _).trans hl.2)]
    exact ⟨rfl, rfl⟩
  · rw [exec_write a bs hl, exec_quadWrite a bs hl, s.spiWrite_window ha hin,
      State.settle_quiet ((State.winWrite_raised bs s _).trans hl.2)]
    exact ⟨rfl, rfl⟩
  · rw [exec_readStatus, execReadStatus, State.act_quiet _ hl.1 hl.2]
    exact ⟨_, rfl, rfl, rfl, s.sameRegs_refl _⟩
  · obtain ⟨herr, hraised, hlast, hcount, hregs⟩ := s.spiRefuse_spec (cause := spiOpcode) (by decide) (by decide)
    refine ⟨(s.spiRefuse spiOpcode).raise 0x93 0 [], ?_, herr, ?_, hlast, hcount, hregs⟩
    · rw [exec_spiUnknownOpcode, execSpiUnknownOpcode, State.act_on _ hl.1, if_neg (by simp [h1, h2, h3, h4, h5])]
    · rw [State.raise_raised, hraised, hl.2, List.nil_append, faultOf]

end Sys2Proof.Machine
end

section
/-! The Hall, step and up/down inputs of a travel unit (R45–R47). -/

namespace Sys2Proof.Machine

theorem exec_hallStateChange (n : Fin 4) (x y w : Bool) (s : State) :
    exec (.hallStateChange n x y w) s = execHallStateChange n x y w s := rfl

theorem exec_stepEdge (n : Fin 4) (dirHigh : Bool) (s : State) : exec (.stepEdge n dirHigh) s = execStepEdge n dirHigh s := rfl

theorem exec_upDownEdge (n : Fin 4) (up : Bool) (s : State) : exec (.upDownEdge n up) s = execUpDownEdge n up s := rfl

/-- A Hall sample that passes the filter is taken as the new Hall state. -/
theorem exec_hallStateChange_of_sample {s : State} {n : Fin 4} {x y w : Bool} (hl : s.live) (hm : s.coordMode n = 2)
    (hs : (s.sample n x y w).isSome = true) : exec (.hallStateChange n x y w) s =
      .next ((s.sampled n x y w).hallTo n (4 * boolNat x + 2 * boolNat y + boolNat w)).settle := by
  have hm' : (s.sampled n x y w).coordMode n = 2 := hm
  rw [exec_hallStateChange, execHallStateChange, State.act_on _ hl.1]
  simp only [State.sample_of_isSome hs, hm', if_true]

/-- The unit whose Hall inputs show state `x` once the filter has passed them. -/
def State.hallSeen (s : State) (n x : Nat) : State := s.setCoord n { s.coord n with hall := x, hallBad := false }

theorem hallIndex_lt {x i : Nat} (h : hallIndex x = some i) : i < 6 := by
  obtain ⟨hlt, -⟩ := List.findIdx?_eq_some_iff_getElem.1 h
  exact hlt

/-- A Hall state one place on, or one back, is an edge. -/
theorem State.hallTo_step {s : State} {n x i j : Nat} (hi : hallIndex (s.coord n).hall = some i) (hj : hallIndex x = some j)
    (hij : j = (i + 1) % 6 ∨ i = (j + 1) % 6) : s.hallTo n x = (s.hallSeen n x).seeEdge n (decide (j = (i + 1) % 6)) := by
  have hi6 := hallIndex_lt hi
  have hj6 := hallIndex_lt hj
  have hne : j ≠ i := by omega
  rw [State.hallTo]
  simp only [hi, hj, hne, if_false]
  by_cases hon : j = (i + 1) % 6
  · rw [if_pos hon, decide_eq_true hon]
    rfl
  · rw [if_neg hon, if_pos (hij.resolve_left hon), decide_eq_false hon]
    rfl

/-- A Hall state that does not exist is a counting error. -/
theorem State.hallTo_none {s : State} {n x : Nat} (h : hallIndex x = none) :
    s.hallTo n x = (s.setCoord n { s.coord n with hallBad := true }).quadErr n 0x81 := by
  rw [State.hallTo, h]

theorem State.coordPos_hallSeen_seeEdge {s : State} {n : Fin 4} (h : s.slowEdge n) (x : Nat) (upward : Bool) :
    ((s.hallSeen n x).seeEdge n upward).coordPos n = s.onePast n (s.upwardAs n upward) := by
  have hslow : (s.hallSeen n x).slowEdge n := State.slowEdge_setCoord h rfl
  rw [State.coordPos_seeEdge hslow, State.hallSeen, State.onePast_setCoord, State.upwardAs_setCoord]

theorem State.onePast_sampled (s : State) (n : Fin 4) (a b z up : Bool) : (s.sampled n a b z).onePast n up = s.onePast n up :=
  s.onePast_setCoord n _ up

theorem State.upwardAs_sampled (s : State) (n : Nat) (a b z upward : Bool) :
    (s.sampled n a b z).upwardAs n upward = s.upwardAs n upward := rfl

theorem State.hall_sampled (s : State) (n : Nat) (a b z : Bool) : ((s.sampled n a b z).coord n).hall = (s.coord n).hall := by
  rw [State.sampled, State.coord_setCoord]

/-! A pulse of one input. -/

/-- The time of the last pulse of an input, noted in the unit. -/
def State.pulsed (s : State) (n : Nat) (onB : Bool) : State :=
  s.setCoord n (if onB then { s.coord n with changeB := some s.cyc } else { s.coord n with changeA := some s.cyc })

theorem State.pulse_of_isSome {s : State} {n : Nat} {onB : Bool} (h : (s.pulse n onB).isSome = true) :
    s.pulse n onB = some (s.pulsed n onB) := by
  unfold State.pulse at h ⊢
  dsimp only at h ⊢
  split at h
  · rfl
  · split at h
    · next hc => rw [if_pos hc]; rfl
    · cases h

theorem State.coordPos_pulsed_seeEdge {s : State} {n : Fin 4} (h : s.slowEdge n) (onB upward : Bool) :
    ((s.pulsed n onB).seeEdge n upward).coordPos n = s.onePast n (s.upwardAs n upward) := by
  have hslow : (s.pulsed n onB).slowEdge n := State.slowEdge_setCoord h (by cases onB <;> rfl)
  rw [State.coordPos_seeEdge hslow, State.pulsed, State.onePast_setCoord, State.upwardAs_setCoord]

theorem exec_stepEdge_of_pulse {s : State} {n : Fin 4} (dirHigh : Bool) (hl : s.live) (hm : s.coordMode n = 3)
    (hp : (s.pulse n false).isSome = true) :
    exec (.stepEdge n dirHigh) s = .next ((s.pulsed n false).seeEdge n dirHigh).settle := by
  have hm' : (s.pulsed n false).coordMode n = 3 := hm
  rw [exec_stepEdge, execStepEdge, State.act_on _ hl.1]
  simp only [State.pulse_of_isSome hp, hm', if_true]

theorem exec_upDownEdge_of_pulse {s : State} {n : Fin 4} (up : Bool) (hl : s.live) (hm : s.coordMode n = 4)
    (hp : (s.pulse n (!up)).isSome = true) : exec (.upDownEdge n up) s = .next ((s.pulsed n (!up)).seeEdge n up).settle := by
  have hm' : (s.pulsed n (!up)).coordMode n = 4 := hm
  rw [exec_upDownEdge, execUpDownEdge, State.act_on _ hl.1]
  simp only [State.pulse_of_isSome hp, hm', if_true]

/-- Three equal levels are no Hall state. -/
theorem hallIndex_equal_levels (x : Bool) : hallIndex (4 * boolNat x + 2 * boolNat x + boolNat x) = none := by
  cases x <;> rfl

/-- Settles O15: every counted input comes down to `seeEdge` on the unit with its levels or its pulse noted. -/
theorem hallStepAndUpDownInputsCountOneEdge : Obligations.HallStepAndUpDownInputsCountOneEdge := by
  intro s n hl
  refine ⟨fun x y w i j hm hs hslow hi hj hij => ?_, fun x hm hs => ?_, fun dirHigh hm hp hslow => ?_, fun up hm hp hslow => ?_⟩
  · refine ⟨_, exec_hallStateChange_of_sample hl hm hs, ?_⟩
    rw [State.hallTo_step ((congrArg hallIndex (s.hall_sampled n x y w)).trans hi) hj hij,
      State.coordPos_hallSeen_seeEdge (State.slowEdge_sampled hslow x y w), State.onePast_sampled, State.upwardAs_sampled]
  · refine ⟨_, exec_hallStateChange_of_sample hl hm hs, ?_⟩
    rw [State.hallTo_none (hallIndex_equal_levels x)]
    have hregs : s.sameRegs _ [R.COORD_STATUS n] := State.quadErr_sameRegs
      ((s.sampled n x x x).setCoord n { (s.sampled n x x x).coord n with hallBad := true }) n 0x81
    refine ⟨hregs.coordPos ?_ ?_, State.quadErr_flag _ n 0x81, ?_⟩
    · simp [R.COORD_POS_LO, R.COORD_STATUS]
    · simp [R.COORD_POS_HI, R.COORD_STATUS]
    · rw [State.quadErr_raised, State.setCoord_raised, State.sampled, State.setCoord_raised, hl.2, List.nil_append]
  · exact ⟨_, exec_stepEdge_of_pulse dirHigh hl hm hp, State.coordPos_pulsed_seeEdge hslow false dirHigh⟩
  · exact ⟨_, exec_upDownEdge_of_pulse up hl hm hp, State.coordPos_pulsed_seeEdge hslow (!up) up⟩

end Sys2Proof.Machine
end

section
/-! What captures, EVENT records and compares leave alone beside the registers: the records of the units, and the other flags of a unit's
status. -/

namespace Sys2Proof.Machine

theorem State.captureCoord_coords (s : State) (n : Nat) : (s.captureCoord n).coords = s.coords := by
  simp [State.captureCoord, apply_ite State.coords, State.wr64]

theorem State.captureGpt_coords (s : State) (m : Nat) : (s.captureGpt m).coords = s.coords := by
  simp [State.captureGpt, apply_ite State.coords]

theorem State.fireVec_coords (s : State) (v : Nat) : (s.fireVec v).coords = s.coords := by
  simp [State.fireVec, apply_ite State.coords]

theorem State.setGlb_coords (s : State) (k : Nat) : (s.setGlb k).coords = s.coords := by
  simp [State.setGlb, apply_ite State.coords, State.fireVec_coords]

theorem State.putEvent_coords (s : State) (kind sub code : Nat) (data : List Byte) :
    (s.putEvent kind sub code data).coords = s.coords := by
  simp only [State.putEvent, apply_ite State.coords]
  simp [State.setGlb_coords, State.hold]

theorem State.event_coords (s : State) (kind sub code : Nat) (data : List Byte) :
    (s.event kind sub code data).coords = s.coords := by
  simp [State.event, apply_ite State.coords, State.putEvent_coords]

/-- What every step of a loop over a list leaves, the loop leaves. -/
theorem foldl_keeps_mem {α β : Type} {P : State → β} {g : State → α → State} {l : List α} (hg : ∀ a ∈ l, ∀ u, P (g u a) = P u)
    (s : State) : P (l.foldl g s) = P s := by
  induction l generalizing s with
  | nil => rfl
  | cons a l ih =>
    rw [List.foldl_cons, ih (fun b hb => hg b (List.mem_cons_of_mem a hb)), hg a List.mem_cons_self]

/-- A strobe notes its event and captures; what none of these changes, it leaves. -/
theorem State.strobe_keeps {β : Type} {P : State → β} (s : State) (src sel : Nat)
    (hnote : ∀ u : State, P (u.noteEvent src sel) = P u) (hcoord : ∀ n < 6, ∀ u : State, P (u.captureCoord n) = P u)
    (hgpt : ∀ m < 16, ∀ u : State, P (u.captureGpt m) = P u) : P (s.strobe src sel) = P s := by
  unfold State.strobe
  refine (foldl_keeps_mem (P := P) (fun m hm u => ?_) _).trans ((foldl_keeps_mem (P := P) (fun n hn u => ?_) _).trans (hnote s))
  · dsimp only
    split
    · exact hgpt m (List.mem_range.1 hm) u
    · rfl
  · dsimp only
    split
    · exact hcoord n (List.mem_range.1 hn) u
    · rfl

theorem State.strobe_coords (s : State) (src sel : Nat) : (s.strobe src sel).coords = s.coords :=
  s.strobe_keeps src sel (fun _ => rfl) (fun n _ u => u.captureCoord_coords n) (fun m _ u => u.captureGpt_coords m)

theorem State.noteIdle_coords (s : State) (src : IdleSrc) : (s.noteIdle src).coords = s.coords := by
  simp [State.noteIdle, apply_ite State.coords]

theorem State.fireCmp_coords (s : State) (n k : Nat) : (s.fireCmp n k).coords = s.coords := by
  simp only [State.fireCmp, State.strobe_coords, apply_ite State.coords, State.event_coords]
  simp [State.noteIdle_coords, State.wr64]

/-! The status of a unit. -/

/-- A field of a unit's status that no capture writes. -/
abbrev CapFree (g : Fld) : Prop := g.lo + g.w ≤ 32 ∧ (g.lo + g.w ≤ 2 ∨ 4 ≤ g.lo)

theorem State.captureCoord_status (s : State) (n k : Nat) {g : Fld} (hg : CapFree g) :
    (s.captureCoord k).f (R.COORD_STATUS n) g = s.f (R.COORD_STATUS n) g := by
  obtain ⟨hw, hd⟩ := hg
  have hcap (v : Nat) : (s.wr64 (R.COORD_CAP_LO k) (R.COORD_CAP_HI k) v).f (R.COORD_STATUS n) g = s.f (R.COORD_STATUS n) g := by
    rw [State.wr64, State.wrN, State.wrN, State.f_wr_reg, State.f_wr_reg]
    all_goals simp only [R.COORD_STATUS, R.COORD_CAP_LO, R.COORD_CAP_HI]; omega
  unfold State.captureCoord
  dsimp only
  by_cases hk : R.COORD_STATUS n = R.COORD_STATUS k
  · rw [hk] at hcap ⊢
    split
    · rw [State.raise_f_of, State.f_hwSet_field _ _ (by decide) hw (by simp only [F.COORD_STATUS_CAP_OVR]; omega), hcap]
    · rw [State.f_setF_field _ _ (by decide) hw (by simp only [F.COORD_STATUS_CAP_FULL]; omega), hcap]
  · split
    · rw [State.raise_f_of, State.f_hwSet_reg _ _ _ _ hk, hcap]
    · rw [State.f_setF_reg _ _ _ _ hk, hcap]

theorem State.captureGpt_status (s : State) (n m : Nat) (g : Fld) :
    (s.captureGpt m).f (R.COORD_STATUS n) g = s.f (R.COORD_STATUS n) g := by
  have hcap (j : Nat) : R.COORD_STATUS n ≠ R.GPT_CAP j := by simp only [R.COORD_STATUS, R.GPT_CAP]; omega
  have hst (j : Nat) : R.COORD_STATUS n ≠ R.GPT_STATUS j := by simp only [R.COORD_STATUS, R.GPT_STATUS]; omega
  have hwr (u : State) (j v : Nat) : (u.wrN (R.GPT_CAP j) v).f (R.COORD_STATUS n) g = u.f (R.COORD_STATUS n) g :=
    State.f_wr_reg _ _ _ (hcap j)
  unfold State.captureGpt
  dsimp only
  split
  · rw [State.f_hwSet_reg _ _ _ _ (hst _)]
    split
    · rw [hwr, hwr]
    · rw [hwr]
  · rw [State.f_setF_reg _ _ _ _ (hst _)]
    split
    · rw [hwr, hwr]
    · rw [hwr]

theorem State.strobe_status (s : State) (n : Nat) (src sel : Nat) {g : Fld} (hg : CapFree g) :
    (s.strobe src sel).f (R.COORD_STATUS n) g = s.f (R.COORD_STATUS n) g :=
  s.strobe_keeps (P := fun u : State => u.f (R.COORD_STATUS n) g) src sel (fun _ => rfl)
    (fun k _ u => u.captureCoord_status n k hg) (fun m _ u => u.captureGpt_status n m g)

/-! A compare that matches. -/

/-- A compare that matches, before its strobe: MATCHED, the next value, and the record. -/
def State.matchCmp (s : State) (n k : Nat) : State :=
  let c := R.COORD_CMP_CFG n k
  let t := ((s.hwSet c F.COORD_CMP_CFG_MATCHED 1).noteIdle .cmp).wr64 (R.COORD_CMP_VAL_LO n k) (R.COORD_CMP_VAL_HI n k)
    (coordAdd (travelUnit n) (((s.hwSet c F.COORD_CMP_CFG_MATCHED 1).noteIdle .cmp).coordM n) (s.cmpVal n k) (s.cmpInt n k))
  let t := if s.cmpInt n k = 0 then t.setF c F.COORD_CMP_CFG_EN 0 else t
  if t.flag c F.COORD_CMP_CFG_EVENT then t.event 2 n k (coordField (s.cmpVal n k)) else t

theorem State.fireCmp_eq (s : State) (n k : Nat) : s.fireCmp n k = (s.matchCmp n k).strobe 2 (4 * n + k) := rfl

theorem State.matchCmp_sameRegs (s : State) (n k : Nat) : s.sameRegs (s.matchCmp n k) (cmpRegs n k ++ eventRegs) := by
  have hmatched := ((s.sameRegs_refl (cmpRegs n k ++ eventRegs)).hwSet (o := R.COORD_CMP_CFG n k) (by simp [cmpRegs])
    F.COORD_CMP_CFG_MATCHED 1).noteIdle .cmp
  have hval (v : Nat) := hmatched.wr64 (o := R.COORD_CMP_VAL_LO n k) (hi := R.COORD_CMP_VAL_HI n k) (by simp [cmpRegs])
    (by simp [cmpRegs]) v
  have hstop (v : Nat) := State.sameRegs.ite (c := s.cmpInt n k = 0)
    ((hval v).setF (o := R.COORD_CMP_CFG n k) (by simp [cmpRegs]) F.COORD_CMP_CFG_EN 0) (hval v)
  exact State.sameRegs.ite ((hstop _).trans ((State.event_sameRegs _ _ _ _ _).mono (List.subset_append_right _ _))) (hstop _)

theorem State.fireCmp_status (s : State) {n : Nat} (hn : n < 6) (j k : Nat) {g : Fld} (hg : CapFree g) :
    (s.fireCmp j k).f (R.COORD_STATUS n) g = s.f (R.COORD_STATUS n) g := by
  have hregs : s.sameRegs (s.matchCmp j k) (cmpRegs j k ++ eventRegs) := s.matchCmp_sameRegs j k
  rw [State.fireCmp_eq, State.strobe_status _ n _ _ hg, hregs.f s ?_ g]
  simp only [cmpRegs, eventRegs, List.mem_append, List.mem_cons, List.not_mem_nil, or_false, R.COORD_STATUS, R.COORD_CMP_CFG,
    R.COORD_CMP_VAL_LO, R.COORD_CMP_VAL_HI, R.EVENT_STATUS, R.CPLQ_STATUS, R.HOST_GLB_STATUS]
  omega

theorem mem_insertDist {x y : Nat × Int} {l : List (Nat × Int)} (h : y ∈ insertDist x l) : y = x ∨ y ∈ l := by
  induction l with
  | nil => exact .inl (List.mem_singleton.1 h)
  | cons z l ih =>
    rw [insertDist] at h
    split at h
    · exact List.mem_cons.1 h
    · rcases List.mem_cons.1 h with rfl | h
      · exact .inr List.mem_cons_self
      · exact (ih h).imp_right (List.mem_cons_of_mem z)

theorem mem_foldl_insertDist {y : Nat × Int} {l acc : List (Nat × Int)} (h : y ∈ l.foldl (fun a x => insertDist x a) acc) :
    y ∈ acc ∨ y ∈ l := by
  induction l generalizing acc with
  | nil => exact .inl h
  | cons x l ih =>
    rcases ih h with h | h
    · exact (mem_insertDist h).elim (fun heq => .inr (heq ▸ List.mem_cons_self)) .inl
    · exact .inr (List.mem_cons_of_mem x h)

/-- The compares that a skip passes fire one after another. -/
theorem State.fireSkipped_keeps {β : Type} {P : State → β} (hfire : ∀ k < 4, ∀ u : State, P (u.fireCmp 4 k) = P u) (s : State)
    (old new : Nat) : P (s.fireSkipped old new) = P s := by
  unfold State.fireSkipped
  refine foldl_keeps_mem (P := P) (fun x hx u => hfire x.1 ?_ u) s
  have hx := (mem_foldl_insertDist hx).resolve_left List.not_mem_nil
  obtain ⟨k, hk, rfl⟩ := List.mem_map.1 (List.mem_filter.1 hx).1
  have := (List.mem_filter.1 hk).1
  simp only [List.mem_cons, List.not_mem_nil, or_false] at this
  dsimp only
  omega

/-- So do the compares that stand at the position. -/
theorem State.fireAt_keeps {β : Type} {P : State → β} {n : Nat} (hfire : ∀ k < 4, ∀ u : State, P (u.fireCmp n k) = P u) (s : State)
    (pos : Nat) : P (s.fireAt n pos) = P s :=
  foldl_keeps_mem (P := P) (fun k hk u => by
    dsimp only
    split
    · refine hfire k ?_ u
      simp only [List.mem_cons, List.not_mem_nil, or_false] at hk
      omega
    · rfl) s

/-- The position of the mains unit is no register of a capture, a compare or an EVENT record. -/
theorem State.fireCmp_mainsPos (k : Nat) (hk : k < 4) (s : State) :
    (s.fireCmp 4 k).rd64 (R.COORD_POS_LO 4) (R.COORD_POS_HI 4) = s.rd64 (R.COORD_POS_LO 4) (R.COORD_POS_HI 4) := by
  have hmem : R.COORD_POS_LO 4 ∉ fireRegs 4 ∧ R.COORD_POS_HI 4 ∉ fireRegs 4 := by decide
  have hregs := s.fireCmp_sameRegs 4 (k := k) (by simp; omega)
  simp only [State.rd64, State.rdN, hregs _ hmem.1, hregs _ hmem.2]

theorem State.strobe_mainsPos (s : State) (src sel : Nat) :
    (s.strobe src sel).rd64 (R.COORD_POS_LO 4) (R.COORD_POS_HI 4) = s.rd64 (R.COORD_POS_LO 4) (R.COORD_POS_HI 4) := by
  have hmem : R.COORD_POS_LO 4 ∉ strobeRegs ∧ R.COORD_POS_HI 4 ∉ strobeRegs := by decide
  simp only [State.rd64, State.rdN, s.strobe_sameRegs src sel _ hmem.1, s.strobe_sameRegs src sel _ hmem.2]

end Sys2Proof.Machine
end

section
/-! Homing (R57, R65). -/

namespace Sys2Proof.Machine

theorem exec_homeArm (p : Path) (n : Fin 4) {s : State} (hl : s.live) :
    exec (.homeArm p n) s = .next (s.setCoord n { s.coord n with armed := true }) :=
  (State.act_quiet (fun s => s.armHome n true) hl.1 hl.2 : execHomeArm p n s = _)

theorem exec_homeDisarm (p : Path) (n : Fin 4) {s : State} (hl : s.live) :
    exec (.homeDisarm p n) s = .next (s.setCoord n { s.coord n with armed := false }) :=
  (State.act_quiet (fun s => s.armHome n false) hl.1 hl.2 : execHomeDisarm p n s = _)

theorem exec_indexHome (n : Fin 4) (falling : Bool) (s : State) : exec (.indexHome n falling) s = execIndexHome n falling s := rfl

/-- The level of the index input and the time of its change, noted in the unit. -/
def State.indexSeen (s : State) (n : Nat) (falling : Bool) : State :=
  s.setCoord n { s.coord n with z := !falling, changeZ := some s.cyc }

theorem exec_indexHome_of_edge {s : State} {n : Fin 4} {falling : Bool} (hl : s.live)
    (hm : s.coordMode n = 1 ∨ s.coordMode n = 3 ∨ s.coordMode n = 4) (hz : s.flag (R.COORD_CFG n) F.COORD_CFG_ZPOL = falling)
    (hp : s.passes n (s.coord n).changeZ = true) :
    exec (.indexHome n falling) s = .next ((s.indexSeen n falling).indexEdge n).settle := by
  have hedge : (s.coordMode n = 1 ∨ s.coordMode n = 3 ∨ s.coordMode n = 4) ∧
      (s.indexSeen n falling).flag (R.COORD_CFG n) F.COORD_CFG_ZPOL = falling := ⟨hm, hz⟩
  rw [exec_indexHome, execIndexHome, State.act_on _ hl.1, if_neg (not_not.2 hp)]
  exact congrArg (fun t : State => Host.Outcome.next t.settle) (if_pos hedge)

/-- The unit at HOME: homed, no longer stale, disarmed. -/
def State.homedRegs (s : State) (n : Nat) : State :=
  ((s.setPos n (s.rd64 (R.COORD_HOME_LO n) (R.COORD_HOME_HI n))).setF (R.COORD_STATUS n) F.COORD_STATUS_HOMED 1).setF
    (R.COORD_STATUS n) F.COORD_STATUS_STALE 0

def State.atHome (s : State) (n : Nat) : State :=
  ((s.homedRegs n).setCoord n { (s.homedRegs n).coord n with armed := false }).restartFar n

theorem State.indexEdge_eq (s : State) (n : Nat) : s.indexEdge n =
    if ((s.strobe 1 n).coord n).armed && (s.strobe 1 n).flag (R.COORD_CFG n) F.COORD_CFG_ZHOME then
      if (s.strobe 1 n).coordBusy n then (s.strobe 1 n).coordRefuse n else (s.strobe 1 n).atHome n
    else s.strobe 1 n := rfl

section
variable {s : State} {n : Fin 4} {falling : Bool} (hz : s.flag (R.COORD_CFG n) F.COORD_CFG_ZHOME = true) (ha : (s.coord n).armed = true)
include hz ha

/-- The strobe of an index edge leaves the unit armed, and HOME selected. -/
theorem State.strobe_homes : (((s.indexSeen n falling).strobe 1 n).coord n).armed = true ∧
    ((s.indexSeen n falling).strobe 1 n).flag (R.COORD_CFG n) F.COORD_CFG_ZHOME = true := by
  have hcfg : ∀ n : Fin 4, R.COORD_CFG n ∉ strobeRegs := by decide
  refine ⟨?_, ?_⟩
  · rw [State.coord, State.strobe_coords, ← State.coord, State.indexSeen, State.coord_setCoord]
    exact ha
  · rw [(State.strobe_sameRegs _ 1 n).flag _ (hcfg n)]
    exact hz

theorem State.indexEdge_of_busy (hb : s.coordBusy n = true) :
    (s.indexSeen n falling).indexEdge n = ((s.indexSeen n falling).strobe 1 n).coordRefuse n := by
  obtain ⟨harmed, hhome⟩ := State.strobe_homes (falling := falling) hz ha
  have hbusy : ((s.indexSeen n falling).strobe 1 n).coordBusy n = true := by
    rw [State.coordBusy, State.flag_congr (State.strobe_status _ n 1 n (by decide))]
    exact hb
  rw [State.indexEdge_eq, harmed, hhome, hbusy]
  rfl

theorem State.indexEdge_of_free (hb : s.coordBusy n = false) :
    (s.indexSeen n falling).indexEdge n = ((s.indexSeen n falling).strobe 1 n).atHome n := by
  obtain ⟨harmed, hhome⟩ := State.strobe_homes (falling := falling) hz ha
  have hbusy : ((s.indexSeen n falling).strobe 1 n).coordBusy n = false := by
    rw [State.coordBusy, State.flag_congr (State.strobe_status _ n 1 n (by decide))]
    exact hb
  rw [State.indexEdge_eq, harmed, hhome, hbusy]
  rfl

end

theorem State.rd64_lt (s : State) (lo hi : Nat) : s.rd64 lo hi < 2 ^ 64 := by
  have h1 : s.rdN lo < 2 ^ 32 := (s.rd lo).isLt
  have h2 : s.rdN hi < 2 ^ 32 := (s.rd hi).isLt
  rw [State.rd64]
  omega

theorem State.atHome_spec (s : State) (n : Fin 4) :
    (s.atHome n).coordPos n = s.rd64 (R.COORD_HOME_LO n) (R.COORD_HOME_HI n) ∧
    (s.atHome n).flag (R.COORD_STATUS n) F.COORD_STATUS_HOMED = true ∧
    (s.atHome n).flag (R.COORD_STATUS n) F.COORD_STATUS_STALE = false ∧ ((s.atHome n).coord n).armed = false := by
  have hregs : (s.setPos n (s.rd64 (R.COORD_HOME_LO n) (R.COORD_HOME_HI n))).sameRegs (s.atHome n) [R.COORD_STATUS n] :=
    (State.sameRegs.setCoord (State.sameRegs.setF (State.sameRegs.setF (State.sameRegs_refl _ _) List.mem_cons_self _ _)
      List.mem_cons_self _ _) n _).setCoord n _
  refine ⟨?_, ?_, ?_, ?_⟩
  · rw [hregs.coordPos (by simp [R.COORD_POS_LO, R.COORD_STATUS]) (by simp [R.COORD_POS_HI, R.COORD_STATUS]), State.coordPos_setPos,
      Nat.mod_eq_of_lt (s.rd64_lt _ _)]
  · rw [State.atHome, State.restartFar, State.setCoord_flag_of, State.setCoord_flag_of, State.homedRegs,
      State.flag_setF_field _ _ (by decide) (by decide) (by decide), State.flag_setF_one _ _ (by decide) (by decide)]
  · rw [State.atHome, State.restartFar, State.setCoord_flag_of, State.setCoord_flag_of, State.homedRegs,
      State.flag_setF_zero _ _ (by decide)]
  · rw [State.atHome, State.restartFar, State.coord_setCoord, State.coord_setCoord]

theorem State.coordRefuse_sameRegs (s : State) (n : Nat) : s.sameRegs (s.coordRefuse n) [R.COORD_STATUS n] :=
  (s.sameRegs_refl _).hwSet List.mem_cons_self _ _

theorem State.coordRefuse_flag (s : State) (n : Nat) : (s.coordRefuse n).flag (R.COORD_STATUS n) F.COORD_STATUS_REFUSED = true :=
  s.flag_hwSet_one _ (by decide) (by decide)

/-- A capture changes no position. -/
theorem State.strobe_coordPos (s : State) (n : Fin 4) (src sel : Nat) : (s.strobe src sel).coordPos n = s.coordPos n := by
  have hall : ∀ n : Fin 4, R.COORD_POS_LO n ∉ strobeRegs ∧ R.COORD_POS_HI n ∉ strobeRegs := by decide
  exact (s.strobe_sameRegs src sel).coordPos (hall n).1 (hall n).2

theorem State.strobe_home (s : State) (n : Fin 4) (src sel : Nat) :
    (s.strobe src sel).rd64 (R.COORD_HOME_LO n) (R.COORD_HOME_HI n) = s.rd64 (R.COORD_HOME_LO n) (R.COORD_HOME_HI n) := by
  have hall : ∀ n : Fin 4, R.COORD_HOME_LO n ∉ strobeRegs ∧ R.COORD_HOME_HI n ∉ strobeRegs := by decide
  simp only [State.rd64, State.rdN, s.strobe_sameRegs src sel _ (hall n).1, s.strobe_sameRegs src sel _ (hall n).2]

end Sys2Proof.Machine
end

section
/-! The mains unit (R48, R50). -/

namespace Sys2Proof.Machine

theorem exec_mainsZeroCross (s : State) : exec .mainsZeroCross s = execMainsZeroCross s := rfl

theorem exec_mainsLost (s : State) : exec .mainsLost s = execMainsLost s := rfl

/-- The start of the next turn. -/
def State.nextTurn (s : State) : Nat := (cfTurns (s.coordPos 4) + 1) % 2 ^ 32 * 65536

/-- The mains unit stands at `pos`, its source not lost, its last crossing at `now`. -/
structure State.Crossed (t : State) (pos now : Nat) : Prop where
  pos : t.rd64 (R.COORD_POS_LO 4) (R.COORD_POS_HI 4) = pos
  found : t.flag (R.COORD_STATUS 4) F.COORD_STATUS_LOST = false
  last : (t.coord 4).lastCross = some now

section
variable {t : State} {pos now : Nat} (h : t.Crossed pos now)
include h

theorem State.Crossed.strobe (src sel : Nat) : (t.strobe src sel).Crossed pos now where
  pos := (t.strobe_mainsPos src sel).trans h.pos
  found := (State.flag_congr (t.strobe_status 4 src sel (by decide))).trans h.found
  last := by rw [State.coord, State.strobe_coords]; exact h.last

theorem State.Crossed.fireSkipped (old new : Nat) : (t.fireSkipped old new).Crossed pos now where
  pos := (State.fireSkipped_keeps (P := fun u : State => u.rd64 (R.COORD_POS_LO 4) (R.COORD_POS_HI 4)) State.fireCmp_mainsPos t old
    new).trans h.pos
  found := (State.flag_congr (State.fireSkipped_keeps (P := fun u : State => u.f (R.COORD_STATUS 4) F.COORD_STATUS_LOST)
    (fun k _ u => u.fireCmp_status (by decide) 4 k (by decide)) t old new)).trans h.found
  last := by
    rw [State.coord, State.fireSkipped_keeps (P := State.coords) (fun k _ u => u.fireCmp_coords 4 k)]
    exact h.last

theorem State.Crossed.fireAt (p : Nat) : (t.fireAt 4 p).Crossed pos now where
  pos := (State.fireAt_keeps (P := fun u : State => u.rd64 (R.COORD_POS_LO 4) (R.COORD_POS_HI 4)) State.fireCmp_mainsPos t p).trans h.pos
  found := (State.flag_congr (State.fireAt_keeps (P := fun u : State => u.f (R.COORD_STATUS 4) F.COORD_STATUS_LOST)
    (fun k _ u => u.fireCmp_status (by decide) 4 k (by decide)) t p)).trans h.found
  last := by
    rw [State.coord, State.fireAt_keeps (P := State.coords) (fun k _ u => u.fireCmp_coords 4 k)]
    exact h.last

theorem State.Crossed.setCoord {r : CoordRt} (hr : r.lastCross = some now) : (t.setCoord 4 r).Crossed pos now where
  pos := h.pos
  found := h.found
  last := by rw [State.coord_setCoord]; exact hr

theorem State.Crossed.setStale (v : Nat) : (t.setF (R.COORD_STATUS 4) F.COORD_STATUS_STALE v).Crossed pos now where
  pos := by
    have hlo : R.COORD_POS_LO 4 ≠ R.COORD_STATUS 4 := by decide
    have hhi : R.COORD_POS_HI 4 ≠ R.COORD_STATUS 4 := by decide
    rw [State.rd64, State.rdN, State.rdN, State.rd_setF_other _ _ _ hlo, State.rd_setF_other _ _ _ hhi]
    exact h.pos
  found := (State.flag_setF_field _ _ (by decide) (by decide) (by decide)).trans h.found
  last := h.last

theorem State.Crossed.judgeCross (period : Nat) : (t.judgeCross period).Crossed pos now := by
  unfold State.judgeCross
  dsimp only
  split
  · next a _ _ =>
    have hset := h.setCoord (r := { t.coord 4 with tries := [period, a], reacquired := false }) h.last
    split
    · exact hset.setStale 0
    · split
      · exact hset.setStale 1
      · exact hset
  · exact h.setCoord h.last

end

/-- What a crossing of the mains does before its strobe. -/
def State.crossed (s : State) : State :=
  let t := s.setPos 4 s.nextTurn
  if t.flag (R.COORD_STATUS 4) F.COORD_STATUS_LOST then
    ((t.setF (R.COORD_STATUS 4) F.COORD_STATUS_LOST 0).setCoord 4
      { s.coord 4 with lastCross := some s.cyc, tries := [], reacquired := true }).fireSkipped (s.coordPos 4) s.nextTurn
  else
    match (s.coord 4).lastCross with
    | none => (t.setCoord 4 { s.coord 4 with lastCross := some s.cyc }).fireAt 4 s.nextTurn
    | some c =>
      ((t.setCoord 4 { s.coord 4 with lastCross := some s.cyc, halves := (s.cyc - c) :: (s.coord 4).halves.take 1 }).judgeCross
        (s.cyc - c)).fireAt 4 s.nextTurn

theorem State.nextTurn_lt (s : State) : s.nextTurn < 2 ^ 64 := by
  rw [State.nextTurn]
  omega

theorem State.setPos_mains (s : State) :
    (s.setPos 4 s.nextTurn).rd64 (R.COORD_POS_LO 4) (R.COORD_POS_HI 4) = s.nextTurn := by
  rw [State.setPos, State.rd64_wr64 _ (by decide), Nat.mod_eq_of_lt s.nextTurn_lt]

theorem State.crossed_spec (s : State) : s.crossed.Crossed s.nextTurn s.cyc := by
  have hnew (t : State) (r : CoordRt) (hp : t.rd64 (R.COORD_POS_LO 4) (R.COORD_POS_HI 4) = s.nextTurn)
      (hf : t.flag (R.COORD_STATUS 4) F.COORD_STATUS_LOST = false) (hr : r.lastCross = some s.cyc) :
      (t.setCoord 4 r).Crossed s.nextTurn s.cyc := ⟨hp, hf, by rw [State.coord_setCoord]; exact hr⟩
  unfold State.crossed
  dsimp only
  split
  · refine State.Crossed.fireSkipped (hnew _ _ ?_ (State.flag_setF_zero _ _ (by decide)) rfl) _ _
    have hlo : R.COORD_POS_LO 4 ≠ R.COORD_STATUS 4 := by decide
    have hhi : R.COORD_POS_HI 4 ≠ R.COORD_STATUS 4 := by decide
    rw [State.rd64, State.rdN, State.rdN, State.rd_setF_other _ _ _ hlo, State.rd_setF_other _ _ _ hhi]
    exact s.setPos_mains
  · next hlost =>
    have hfound := Bool.eq_false_of_not_eq_true hlost
    split
    · exact (hnew _ _ s.setPos_mains hfound rfl).fireAt _
    · exact ((hnew _ _ s.setPos_mains hfound rfl).judgeCross _).fireAt _

theorem exec_mainsZeroCross_of_ok {s : State} (hl : s.live) (hm : s.coordMode 4 = 1) (hc : s.crossOk = true) :
    exec .mainsZeroCross s = .next (s.crossed.strobe 5 0).settle := by
  rw [exec_mainsZeroCross, execMainsZeroCross, State.act_on _ hl.1]
  dsimp only
  rw [if_pos ⟨hm, hc⟩]
  rfl

/-- The loss of the mains: the flag, the compares up to the position that the clock has reached, and the report. -/
def State.lostMains (s : State) : State :=
  let t := s.setF (R.COORD_STATUS 4) F.COORD_STATUS_LOST 1
  t.fireSkipped (s.coordPos 4) (t.coordPos 4)

theorem State.lostMains_flag (s : State) : s.lostMains.flag (R.COORD_STATUS 4) F.COORD_STATUS_LOST = true :=
  (State.flag_congr (State.fireSkipped_keeps (P := fun u : State => u.f (R.COORD_STATUS 4) F.COORD_STATUS_LOST)
    (fun k _ u => u.fireCmp_status (by decide) 4 k (by decide)) _ _ _)).trans (State.flag_setF_one _ _ (by decide) (by decide))

theorem exec_mainsLost_of_late {s : State} {c e : Nat} (hl : s.live) (hm : s.coordMode 4 = 1) (hc : (s.coord 4).lastCross = some c)
    (he : (s.coord 4).est2 = some e) (hf : s.flag (R.COORD_STATUS 4) F.COORD_STATUS_LOST = false) (hlate : 3 * e ≤ 4 * (s.cyc - c)) :
    exec .mainsLost s = .next (s.lostMains.raise 0x84 4 []).settle := by
  rw [exec_mainsLost, execMainsLost, State.act_on _ hl.1]
  simp only [hc, he]
  rw [if_pos ⟨hm, hf, hlate⟩]
  rfl

/-- Settles O16: an index edge is `atHome` or a refusal after its strobe, a crossing keeps `Crossed`, a loss raises its report last. -/
theorem indexAndMainsEdgesSetThePosition : Obligations.IndexAndMainsEdgesSetThePosition := by
  refine ⟨fun s n p falling hl => ⟨exec_homeArm p n hl, exec_homeDisarm p n hl, fun hm hz hh ha hp => ⟨fun hb => ?_, fun hb => ?_⟩⟩,
    fun s hl hm => ⟨fun hc => ?_, fun c e hc he hf hlate => ?_⟩⟩
  · refine ⟨_, exec_indexHome_of_edge hl hm hz hp, ?_⟩
    rw [State.indexEdge_of_free hh ha hb]
    obtain ⟨hpos, hhomed, hstale, harmed⟩ := State.atHome_spec ((s.indexSeen n falling).strobe 1 n) n
    exact ⟨hpos.trans (State.strobe_home _ n 1 n), hhomed, hstale, harmed⟩
  · refine ⟨_, exec_indexHome_of_edge hl hm hz hp, ?_⟩
    rw [State.indexEdge_of_busy hh ha hb]
    refine ⟨?_, State.coordRefuse_flag _ n, (State.strobe_homes (falling := falling) hh ha).1⟩
    rw [(State.coordRefuse_sameRegs _ n).coordPos (by simp [R.COORD_POS_LO, R.COORD_STATUS]) (by simp [R.COORD_POS_HI, R.COORD_STATUS]),
      State.strobe_coordPos]
    exact (s.sameRegs_refl [] |>.setCoord n _).coordPos List.not_mem_nil List.not_mem_nil
  · obtain ⟨hpos, hfound, hlast⟩ := s.crossed_spec.strobe 5 0
    exact ⟨_, exec_mainsZeroCross_of_ok hl hm hc, hpos, hfound, hlast⟩
  · refine ⟨_, exec_mainsLost_of_late hl hm hc he hf hlate, s.lostMains_flag, ?_⟩
    rw [State.raise_raised]
    exact List.mem_append_right _ (List.mem_singleton.2 rfl)

end Sys2Proof.Machine
end

section
/-! Captures by a strobe (R64, R65) and compares that fire (R66). -/

namespace Sys2Proof.Machine

/-! One capture. -/

theorem State.captureCoord_cyc (s : State) (n : Nat) : (s.captureCoord n).cyc = s.cyc := by
  unfold State.captureCoord
  dsimp only
  split <;> rfl

/-- The capture holds the position, whether it was full or not. -/
theorem State.captureCoord_cap (s : State) (n : Nat) :
    (s.captureCoord n).rd64 (R.COORD_CAP_LO n) (R.COORD_CAP_HI n) = s.coordPos n % 2 ^ 64 := by
  have hlo : R.COORD_CAP_LO n ≠ R.COORD_STATUS n := by simp [R.COORD_CAP_LO, R.COORD_STATUS]
  have hhi : R.COORD_CAP_HI n ≠ R.COORD_STATUS n := by simp [R.COORD_CAP_HI, R.COORD_STATUS]
  have hcap := s.rd64_wr64 (lo := R.COORD_CAP_LO n) (hi := R.COORD_CAP_HI n) (by simp [R.COORD_CAP_LO, R.COORD_CAP_HI]) (s.coordPos n)
  unfold State.captureCoord
  dsimp only
  rw [← hcap]
  split
  · simp only [State.rd64, State.rdN, State.raise_rd_of, State.rd_hwSet_other _ _ _ hlo, State.rd_hwSet_other _ _ _ hhi]
  · simp only [State.rd64, State.rdN, State.rd_setF_other _ _ _ hlo, State.rd_setF_other _ _ _ hhi]

theorem State.captureCoord_of_empty {s : State} {n : Nat} (h : s.flag (R.COORD_STATUS n) F.COORD_STATUS_CAP_FULL = false) :
    (s.captureCoord n).flag (R.COORD_STATUS n) F.COORD_STATUS_CAP_FULL = true ∧ (s.captureCoord n).raised = s.raised := by
  have heq : s.captureCoord n = (s.wr64 (R.COORD_CAP_LO n) (R.COORD_CAP_HI n) (s.coordPos n)).setF (R.COORD_STATUS n)
      F.COORD_STATUS_CAP_FULL 1 := if_neg (by rw [h]; exact Bool.false_ne_true)
  rw [heq]
  exact ⟨State.flag_setF_one _ _ (by decide) (by decide), rfl⟩

theorem State.wr64_cap_full (s : State) (n v : Nat) : (s.wr64 (R.COORD_CAP_LO n) (R.COORD_CAP_HI n) v).flag (R.COORD_STATUS n)
    F.COORD_STATUS_CAP_FULL = s.flag (R.COORD_STATUS n) F.COORD_STATUS_CAP_FULL := by
  refine State.flag_congr ?_
  rw [State.wr64, State.wrN, State.wrN, State.f_wr_reg, State.f_wr_reg]
  all_goals simp [R.COORD_STATUS, R.COORD_CAP_LO, R.COORD_CAP_HI]

theorem State.captureCoord_of_full {s : State} {n : Nat} (h : s.flag (R.COORD_STATUS n) F.COORD_STATUS_CAP_FULL = true) :
    (s.captureCoord n).flag (R.COORD_STATUS n) F.COORD_STATUS_CAP_OVR = true ∧
    (s.captureCoord n).flag (R.COORD_STATUS n) F.COORD_STATUS_CAP_FULL = true ∧
    (s.captureCoord n).raised = s.raised ++ [faultOf 0x82 n []] := by
  have heq : s.captureCoord n = ((s.wr64 (R.COORD_CAP_LO n) (R.COORD_CAP_HI n) (s.coordPos n)).hwSet (R.COORD_STATUS n)
      F.COORD_STATUS_CAP_OVR 1).raise 0x82 n [] := if_pos h
  rw [heq]
  refine ⟨?_, ?_, rfl⟩
  · rw [State.raise_flag_of, State.flag_hwSet_one _ _ (by decide) (by decide)]
  · rw [State.raise_flag_of, State.flag_hwSet_field _ _ (by decide) (by decide) (by decide), s.wr64_cap_full, h]

theorem State.captureCoord_full (s : State) (n : Nat) :
    (s.captureCoord n).flag (R.COORD_STATUS n) F.COORD_STATUS_CAP_FULL = true := by
  cases h : s.flag (R.COORD_STATUS n) F.COORD_STATUS_CAP_FULL with
  | false => exact (State.captureCoord_of_empty h).1
  | true => exact (State.captureCoord_of_full h).2.1

theorem exec_capStrobe {s : State} (p : Path) (n : Fin 6) (hl : s.live) : exec (.capStrobe p n) s = .next (s.captureCoord n).settle :=
  (State.act_on _ hl.1 : execCapStrobe p n s = _)

/-! The strobe of PB_MAIN. -/

/-- What the last of a loop's steps to concern it establishes, and the others keep, holds of the loop. -/
theorem State.each_at {P Q : State → Prop} {g : Nat → State → State} {n : Nat} {l : List Nat} (hn : n ∈ l) (hnd : l.Nodup)
    (hset : ∀ u, Q u → P (g n u)) (hkeep : ∀ k ≠ n, ∀ u, (Q u → Q (g k u)) ∧ (P u → P (g k u))) {s : State} (hs : Q s) :
    P (s.each l g) := by
  induction l generalizing s with
  | nil => cases hn
  | cons k l ih =>
    obtain ⟨hk, hl⟩ := List.nodup_cons.1 hnd
    by_cases hkn : k = n
    · have hrest : ∀ (m : List Nat), (∀ j ∈ m, j ≠ n) → ∀ u, P u → P (u.each m g) := by
        intro m
        induction m with
        | nil => exact fun _ _ hu => hu
        | cons j m ihm =>
          exact fun hj u hu => ihm (fun i hi => hj i (List.mem_cons_of_mem j hi)) _ ((hkeep j (hj j List.mem_cons_self) u).2 hu)
      subst hkn
      exact hrest l (fun j hj => ne_of_mem_of_not_mem hj hk) _ (hset s hs)
    · exact ih ((List.mem_cons.1 hn).resolve_left (Ne.symm hkn)) hl ((hkeep k hkn s).1 hs)

/-- A position is told by its two registers and, for the units 4 and 5, by the clock and the mains record. -/
theorem State.coordPos_congr {s t : State} {n : Nat} (hcyc : t.cyc = s.cyc) (hcoords : t.coords = s.coords)
    (hpos : t.rd64 (R.COORD_POS_LO n) (R.COORD_POS_HI n) = s.rd64 (R.COORD_POS_LO n) (R.COORD_POS_HI n))
    (hlost : t.flag (R.COORD_STATUS 4) F.COORD_STATUS_LOST = s.flag (R.COORD_STATUS 4) F.COORD_STATUS_LOST) :
    t.coordPos n = s.coordPos n := by
  have hnow : t.now48 = s.now48 := by rw [State.now48, State.now48, State.us, State.us, hcyc]
  unfold State.coordPos
  split
  · exact hnow
  · split
    · next h4 =>
      subst h4
      rw [State.mainsPos, State.mainsPos, hpos, State.coord, hcoords, hcyc, hlost]
      rfl
    · exact hpos

theorem State.captureCoord_coordPos (s : State) (n k : Nat) : (s.captureCoord k).coordPos n = s.coordPos n := by
  have hlo : R.COORD_POS_LO n ∉ coordCapRegs k := by
    simp only [coordCapRegs, List.mem_cons, List.not_mem_nil, or_false, R.COORD_POS_LO, R.COORD_CAP_LO, R.COORD_CAP_HI, R.COORD_STATUS]
    omega
  have hhi : R.COORD_POS_HI n ∉ coordCapRegs k := by
    simp only [coordCapRegs, List.mem_cons, List.not_mem_nil, or_false, R.COORD_POS_HI, R.COORD_CAP_LO, R.COORD_CAP_HI, R.COORD_STATUS]
    omega
  have hregs := s.captureCoord_sameRegs k
  refine State.coordPos_congr (s.captureCoord_cyc k) (s.captureCoord_coords k) ?_
    (State.flag_congr (s.captureCoord_status 4 k (by decide)))
  rw [State.rd64, State.rdN, State.rdN, hregs _ hlo, hregs _ hhi]
  rfl

/-- The registers of a coordinate unit that matter to its capture are not those of another unit's capture. -/
theorem not_mem_coordCapRegs {n k : Nat} (h : k ≠ n) : R.COORD_CFG n ∉ coordCapRegs k ∧ R.COORD_CAP_LO n ∉ coordCapRegs k ∧
    R.COORD_CAP_HI n ∉ coordCapRegs k ∧ R.COORD_STATUS n ∉ coordCapRegs k := by
  simp only [coordCapRegs, List.mem_cons, List.not_mem_nil, or_false, R.COORD_CFG, R.COORD_CAP_LO, R.COORD_CAP_HI, R.COORD_STATUS]
  omega

theorem State.captureGpt_below (s : State) (m : Nat) {off : Nat} (h : off < 0x2800) : (s.captureGpt m).rd off = s.rd off := by
  have hcap (j : Nat) : off ≠ R.GPT_CAP j := by simp only [R.GPT_CAP]; omega
  have hst (j : Nat) : off ≠ R.GPT_STATUS j := by simp only [R.GPT_STATUS]; omega
  unfold State.captureGpt
  dsimp only
  split
  all_goals
    simp only [State.rd_hwSet_other _ _ _ (hst _), State.rd_setF_other _ _ _ (hst _)]
    split
    · rw [State.rd_wrN_other _ _ (hcap _), State.rd_wrN_other _ _ (hcap _)]
    · rw [State.rd_wrN_other _ _ (hcap _)]

/-- A unit whose capture holds `v`, full. -/
structure State.Captured (u : State) (n v : Nat) : Prop where
  cap : u.rd64 (R.COORD_CAP_LO n) (R.COORD_CAP_HI n) = v
  full : u.flag (R.COORD_STATUS n) F.COORD_STATUS_CAP_FULL = true

theorem State.Captured.of_regs {u t : State} {n v : Nat} {l : List Nat} (h : u.Captured n v) (hregs : u.sameRegs t l)
    (hlo : R.COORD_CAP_LO n ∉ l) (hhi : R.COORD_CAP_HI n ∉ l) (hst : R.COORD_STATUS n ∉ l) : t.Captured n v where
  cap := by
    rw [State.rd64, State.rdN, State.rdN, hregs _ hlo, hregs _ hhi]
    exact h.cap
  full := (hregs.flag _ hst _).trans h.full

theorem State.captureGpt_captured {u : State} {n v : Nat} (hn : n < 6) (m : Nat) (h : u.Captured n v) : (u.captureGpt m).Captured n v where
  cap := by
    rw [State.rd64, State.rdN, State.rdN, u.captureGpt_below m (by simp only [R.COORD_CAP_LO]; omega),
      u.captureGpt_below m (by simp only [R.COORD_CAP_HI]; omega)]
    exact h.cap
  full := by
    rw [State.flag, State.f, u.captureGpt_below m (by simp only [R.COORD_STATUS]; omega)]
    exact h.full

/-- What every step of a loop keeps, the loop keeps. -/
theorem State.each_invariant {P : State → Prop} {g : Nat → State → State} (hg : ∀ k u, P u → P (g k u)) (l : List Nat) {s : State}
    (h : P s) : P (s.each l g) := by
  induction l generalizing s with
  | nil => exact h
  | cons k l ih => exact ih (hg k s h)

/-- A strobe that every selecting unit takes (sources 5 and 7) captures in each unit that selects it. -/
theorem State.strobe_captures (s : State) {src n : Nat} (hn : n < 6) (hsrc : src = 5 ∨ src = 7)
    (hsel : s.f (R.COORD_CFG n) F.COORD_CFG_CAP_SRC = src) (sel : Nat) : (s.strobe src sel).Captured n (s.coordPos n % 2 ^ 64) := by
  unfold State.strobe
  refine State.each_invariant (P := fun u => u.Captured n (s.coordPos n % 2 ^ 64)) (fun m u hu => ?_) _ ?_
  · split
    · exact State.captureGpt_captured hn m hu
    · exact hu
  · refine State.each_at (P := fun u => u.Captured n (s.coordPos n % 2 ^ 64)) (Q := fun u => u.f (R.COORD_CFG n) F.COORD_CFG_CAP_SRC = src ∧ u.coordPos n = s.coordPos n)
      (List.mem_range.2 hn) List.nodup_range (fun u hu => ?_) (fun k hk u => ?_)
      (s := s.noteEvent src sel) ⟨hsel, rfl⟩
    · rw [if_pos ⟨hu.1, by omega⟩, ← hu.2]
      exact ⟨u.captureCoord_cap n, u.captureCoord_full n⟩
    · obtain ⟨hcfg, hlo, hhi, hst⟩ := not_mem_coordCapRegs hk
      have hregs := u.captureCoord_sameRegs k
      split
      · exact ⟨fun hu => ⟨(hregs.f _ hcfg _).trans hu.1, (u.captureCoord_coordPos n k).trans hu.2⟩,
          fun hu => hu.of_regs hregs hlo hhi hst⟩
      · exact ⟨id, id⟩

/-- A unit that selects another source keeps its capture. -/
theorem State.strobe_keeps_cap (s : State) {src n : Nat} (hn : n < 6) (hsel : s.f (R.COORD_CFG n) F.COORD_CFG_CAP_SRC ≠ src)
    (sel : Nat) : (s.strobe src sel).rd64 (R.COORD_CAP_LO n) (R.COORD_CAP_HI n) = s.rd64 (R.COORD_CAP_LO n) (R.COORD_CAP_HI n) := by
  have hgpt (m : Nat) (u : State) : (u.captureGpt m).rd64 (R.COORD_CAP_LO n) (R.COORD_CAP_HI n) =
      u.rd64 (R.COORD_CAP_LO n) (R.COORD_CAP_HI n) := by
    rw [State.rd64, State.rdN, State.rdN, u.captureGpt_below m (by simp only [R.COORD_CAP_LO]; omega),
      u.captureGpt_below m (by simp only [R.COORD_CAP_HI]; omega)]
    rfl
  unfold State.strobe
  refine (State.each_keeps (f := fun u : State => u.rd64 (R.COORD_CAP_LO n) (R.COORD_CAP_HI n)) (fun m u => ?_) _ _).trans ?_
  · split
    · exact hgpt m u
    · rfl
  · refine (State.each_invariant (P := fun u => u.f (R.COORD_CFG n) F.COORD_CFG_CAP_SRC ≠ src ∧
      u.rd64 (R.COORD_CAP_LO n) (R.COORD_CAP_HI n) = s.rd64 (R.COORD_CAP_LO n) (R.COORD_CAP_HI n)) (fun k u hu => ?_) _
      (s := s.noteEvent src sel) ⟨hsel, rfl⟩).2
    split
    · next hk =>
      have hne : k ≠ n := fun heq => hu.1 (heq ▸ hk.1)
      obtain ⟨hcfg, hlo, hhi, -⟩ := not_mem_coordCapRegs hne
      have hregs := u.captureCoord_sameRegs k
      refine ⟨fun h => hu.1 ((hregs.f _ hcfg _).symm.trans h), ?_⟩
      rw [State.rd64, State.rdN, State.rdN, hregs _ hlo, hregs _ hhi]
      exact hu.2
    · exact hu

theorem State.pbPressed_coordPos (s : State) (n : Nat) : s.pbPressed.coordPos n = s.coordPos n := rfl

theorem exec_pbMainPress {s : State} (hl : s.live) : exec .pbMainPress s = .next (s.pbPressed.strobe 7 0).settle :=
  (State.act_on (s := s.pbPressed) (fun s => s.strobe 7 0) hl.1 : execPbMainPress s = _)

/-! The compares of the mains and the time unit. -/

theorem exec_compareInterpolationMatch (mains : Bool) (k : Fin 4) (s : State) :
    exec (.compareInterpolationMatch mains k) s = execCompareInterpolationMatch mains k s := rfl

theorem exec_compareInterpolationMatch_of_reached {s : State} {n : Fin 6} {mains : Bool} {k : Fin 4} (hl : s.live)
    (hn : n.val = if mains then 4 else 5) (he : s.cmpEn n k = true) (hv : s.cmpVal n k = s.coordPos n) (hm : s.coordMode n = 1) :
    exec (.compareInterpolationMatch mains k) s = .next (s.fireCmp n k).settle := by
  rw [exec_compareInterpolationMatch, execCompareInterpolationMatch, State.act_on _ hl.1]
  dsimp only
  rw [← hn, if_pos ⟨he, hv, hm⟩]

/-- The registers of a compare are none of a capture, and none of an EVENT record. -/
theorem cmpRegs_not_mem (n : Fin 6) (k : Fin 4) : ∀ off ∈ cmpRegs n k, off ∉ strobeRegs ∧ off ∉ eventRegs := by
  have hall : ∀ n : Fin 6, ∀ k : Fin 4, ∀ off ∈ cmpRegs n k, off ∉ strobeRegs ∧ off ∉ eventRegs := by decide
  exact hall n k

/-- A compare as its match leaves it: MATCHED, its next value, and EN cleared where the interval is zero. -/
def State.cmpMoved (s : State) (n k : Nat) : State :=
  let c := R.COORD_CMP_CFG n k
  let t := ((s.hwSet c F.COORD_CMP_CFG_MATCHED 1).noteIdle .cmp).wr64 (R.COORD_CMP_VAL_LO n k) (R.COORD_CMP_VAL_HI n k)
    (coordAdd (travelUnit n) (((s.hwSet c F.COORD_CMP_CFG_MATCHED 1).noteIdle .cmp).coordM n) (s.cmpVal n k) (s.cmpInt n k))
  if s.cmpInt n k = 0 then t.setF c F.COORD_CMP_CFG_EN 0 else t

theorem State.fireCmp_sameRegs_cmpMoved (s : State) (n k : Nat) : (s.cmpMoved n k).sameRegs (s.fireCmp n k) (eventRegs ++ strobeRegs) := by
  have hevent := (State.event_sameRegs (s.cmpMoved n k) 2 n k (coordField (s.cmpVal n k))).mono
    (List.subset_append_left eventRegs strobeRegs)
  have hmatch : (s.cmpMoved n k).sameRegs (s.matchCmp n k) (eventRegs ++ strobeRegs) :=
    State.sameRegs.ite hevent (State.sameRegs_refl _ _)
  rw [State.fireCmp_eq]
  exact hmatch.trans ((State.strobe_sameRegs _ _ _).mono (List.subset_append_right _ _))

theorem State.noteIdle_rd (s : State) (src : IdleSrc) (off : Nat) : (s.noteIdle src).rd off = s.rd off := by
  unfold State.noteIdle
  split <;> rfl

/-- The compare with MATCHED set and its next value written. -/
def State.cmpNext (s : State) (n k : Nat) : State :=
  ((s.hwSet (R.COORD_CMP_CFG n k) F.COORD_CMP_CFG_MATCHED 1).noteIdle .cmp).wr64 (R.COORD_CMP_VAL_LO n k) (R.COORD_CMP_VAL_HI n k)
    (coordAdd (travelUnit n) (((s.hwSet (R.COORD_CMP_CFG n k) F.COORD_CMP_CFG_MATCHED 1).noteIdle .cmp).coordM n) (s.cmpVal n k)
      (s.cmpInt n k))

theorem State.cmpMoved_eq (s : State) (n k : Nat) : s.cmpMoved n k =
    if s.cmpInt n k = 0 then (s.cmpNext n k).setF (R.COORD_CMP_CFG n k) F.COORD_CMP_CFG_EN 0 else s.cmpNext n k := rfl

theorem State.cmpNext_cfg (s : State) (n k : Nat) (g : Fld) : (s.cmpNext n k).f (R.COORD_CMP_CFG n k) g =
    (s.hwSet (R.COORD_CMP_CFG n k) F.COORD_CMP_CFG_MATCHED 1).f (R.COORD_CMP_CFG n k) g := by
  have hlo : R.COORD_CMP_CFG n k ≠ R.COORD_CMP_VAL_LO n k := by simp [R.COORD_CMP_CFG, R.COORD_CMP_VAL_LO]
  have hhi : R.COORD_CMP_CFG n k ≠ R.COORD_CMP_VAL_HI n k := by simp [R.COORD_CMP_CFG, R.COORD_CMP_VAL_HI]
  rw [State.cmpNext, State.wr64, State.wrN, State.wrN, State.f_wr_reg _ _ _ hhi, State.f_wr_reg _ _ _ hlo, State.f, State.noteIdle_rd,
    State.f]

theorem State.cmpNext_cmpVal (s : State) {n : Nat} (k : Nat) (hn : n = 4 ∨ n = 5) :
    (s.cmpNext n k).cmpVal n k = coordAdd false (s.coordM n) (s.cmpVal n k) (s.cmpInt n k) % 2 ^ 64 := by
  have htravel : travelUnit n = false := decide_eq_false (by omega)
  have hM (t : State) : t.coordM n = s.coordM n := by
    rcases hn with rfl | rfl <;> rfl
  rw [State.cmpVal, State.cmpNext, State.rd64_wr64 _ (by simp [R.COORD_CMP_VAL_LO, R.COORD_CMP_VAL_HI]), htravel, hM]

theorem State.cmpMoved_spec (s : State) {n : Nat} (k : Nat) (hn : n = 4 ∨ n = 5) :
    (s.cmpMoved n k).flag (R.COORD_CMP_CFG n k) F.COORD_CMP_CFG_MATCHED = true ∧
    (s.cmpMoved n k).cmpVal n k = coordAdd false (s.coordM n) (s.cmpVal n k) (s.cmpInt n k) % 2 ^ 64 ∧
    (s.cmpEn n k = true → (s.cmpMoved n k).cmpEn n k = decide (s.cmpInt n k ≠ 0)) := by
  have hmatched := (State.flag_congr (s.cmpNext_cfg n k F.COORD_CMP_CFG_MATCHED)).trans (s.flag_hwSet_one _ (by decide) (by decide))
  rw [State.cmpMoved_eq]
  split
  · next h0 =>
    have hlo : R.COORD_CMP_VAL_LO n k ≠ R.COORD_CMP_CFG n k := by simp [R.COORD_CMP_CFG, R.COORD_CMP_VAL_LO]
    have hhi : R.COORD_CMP_VAL_HI n k ≠ R.COORD_CMP_CFG n k := by simp [R.COORD_CMP_CFG, R.COORD_CMP_VAL_HI]
    refine ⟨?_, ?_, fun _ => ?_⟩
    · rw [State.flag_setF_field _ _ (by decide) (by decide) (by decide), hmatched]
    · rw [← s.cmpNext_cmpVal k hn, State.cmpVal, State.rd64, State.rdN, State.rdN, State.rd_setF_other _ _ _ hlo,
        State.rd_setF_other _ _ _ hhi]
      rfl
    · rw [State.cmpEn, State.flag_setF_zero _ _ (by decide), h0]
      rfl
  · next h0 =>
    refine ⟨hmatched, s.cmpNext_cmpVal k hn, fun hen => ?_⟩
    rw [State.cmpEn, State.flag_congr (s.cmpNext_cfg n k F.COORD_CMP_CFG_EN),
      State.flag_hwSet_field _ _ (by decide) (by decide) (by decide), decide_eq_true h0]
    exact hen

/-- Settles O17: a capture is one `captureCoord`, which the strobe of PB_MAIN does for each unit that selects it, and a compare that fires
is `cmpMoved`, whose registers no record and no capture writes. -/
theorem strobesCaptureAndComparesFire : Obligations.StrobesCaptureAndComparesFire := by
  intro s n p hl
  refine ⟨⟨_, exec_capStrobe p n hl, s.captureCoord_cap n, s.captureCoord_sameRegs n, fun hempty => ?_, fun hfull => ?_⟩,
    ⟨_, exec_pbMainPress hl, fun hsel => ?_, fun hsel => ?_⟩, fun mains k hn he hv hm => ⟨_,
      exec_compareInterpolationMatch_of_reached hl hn he hv hm, ?_⟩⟩
  · obtain ⟨hflag, hraised⟩ := State.captureCoord_of_empty hempty
    exact ⟨hflag, hraised.trans hl.2⟩
  · obtain ⟨hovr, -, hraised⟩ := State.captureCoord_of_full hfull
    exact ⟨hovr, by rw [hraised, hl.2, List.nil_append]⟩
  · obtain ⟨hcap, hfull⟩ := s.pbPressed.strobe_captures n.isLt (.inr rfl) hsel 0
    exact ⟨hcap, hfull⟩
  · exact s.pbPressed.strobe_keeps_cap n.isLt hsel 0
  · have hregs := s.fireCmp_sameRegs_cmpMoved n k
    have hout : ∀ off ∈ cmpRegs n k, off ∉ eventRegs ++ strobeRegs := fun off hoff hmem =>
      (List.mem_append.1 hmem).elim (cmpRegs_not_mem n k off hoff).2 (cmpRegs_not_mem n k off hoff).1
    have hcfg := hout (R.COORD_CMP_CFG n k) (by simp [cmpRegs])
    have hlo := hout (R.COORD_CMP_VAL_LO n k) (by simp [cmpRegs])
    have hhi := hout (R.COORD_CMP_VAL_HI n k) (by simp [cmpRegs])
    obtain ⟨hmatched, hval, hen⟩ := s.cmpMoved_spec (n := n) k (by split at hn <;> omega)
    refine ⟨(hregs.flag _ hcfg _).trans hmatched, ?_, (hregs.flag _ hcfg _).trans (hen he)⟩
    rw [State.cmpVal, State.rd64, State.rdN, State.rdN, hregs _ hlo, hregs _ hhi]
    exact hval

end Sys2Proof.Machine
end

section
/-! General timers (R71–R76). -/

namespace Sys2Proof.Machine

/-! The registers and records that a timer is made of, under updates of others. -/

/-- The preload registers of a timer (R72). -/
def IsPreload (reg : Nat → Nat) : Prop := reg = R.GPT_RELOAD ∨ reg = R.GPT_CMP ∨ reg = R.GPT_INTERVAL

/-- A preload is told by its registers and CHAIN of the pair. -/
theorem State.sameRegs.gptPre {s t : State} {l : List Nat} {m : Nat} {reg : Nat → Nat} (h : s.sameRegs t l)
    (hcfg : R.GPT_CFG (m / 2 * 2 + 1) ∉ l) (hlo : reg m ∉ l) (hhi : reg (m + 1) ∉ l) : t.gptPre m reg = s.gptPre m reg := by
  simp only [State.gptPre, State.gptChained, h.flag _ hcfg, State.rd64, State.rdN, h _ hlo, h _ hhi]
  rfl

/-- No preload, and no CHAIN, stands in a status register. -/
theorem gptStatus_ne (j m : Nat) : R.GPT_CFG m ≠ R.GPT_STATUS j ∧ R.GPT_RELOAD m ≠ R.GPT_STATUS j ∧ R.GPT_CMP m ≠ R.GPT_STATUS j ∧
    R.GPT_INTERVAL m ≠ R.GPT_STATUS j := by
  simp only [R.GPT_CFG, R.GPT_RELOAD, R.GPT_CMP, R.GPT_INTERVAL, R.GPT_STATUS]
  omega

theorem gptCfg_ne (j m : Nat) : R.GPT_RELOAD m ≠ R.GPT_CFG j ∧ R.GPT_CMP m ≠ R.GPT_CFG j ∧ R.GPT_STATUS m ≠ R.GPT_CFG j := by
  simp only [R.GPT_CFG, R.GPT_RELOAD, R.GPT_CMP, R.GPT_STATUS]
  omega

/-! The load of a timer (R72). -/

theorem State.gptLoad_gpt (s : State) (m at_ : Nat) : (s.gptLoad m at_).gpt m = { s.gpt m with
    reload := s.gptPre m R.GPT_RELOAD, cmp := s.gptPre m R.GPT_CMP, startVal := s.gptPre m R.GPT_RELOAD, startAt := at_, matchKey := 0 } := by
  rw [State.gptLoad]
  exact State.gpt_setGpt _ _ _

theorem State.gptLoad_raised (s : State) (m at_ : Nat) : (s.gptLoad m at_).raised = s.raised := rfl

theorem State.gptLoad_rd (s : State) (m at_ off : Nat) : (s.gptLoad m at_).rd off = s.rd off := rfl

theorem State.sameRegs.gptLoad {s t : State} {l : List Nat} (h : s.sameRegs t l) (m at_ : Nat) : s.sameRegs (t.gptLoad m at_) l := h

/-! EN (R71). -/

theorem exec_gptEnable {s : State} {p : Path} {m : Fin 16} (v : Word) (hl : s.live) (hlater : s.laterWrote p (R.GPT_CFG m) = false) :
    exec (.gptEnable p m v) s = .next ((s.noteEvent (20 + pathRank p) (R.GPT_CFG m)).writeGptCfg m v).settle := by
  have hexec : exec (.gptEnable p m v) s = execGptEnable p m v s := rfl
  rw [hexec, execGptEnable, State.act_on _ hl.1, State.inOrder, hlater]
  rfl

/-- The configuration of a timer whose CHAIN does not change: the counter anchored where it stops or changes speed, and the word stored. -/
def State.gptCfgStored (s : State) (m : Nat) (v : Word) (chain : Bool) : State :=
  (if s.gptRuns m && (getBits v 0 1 == 0 || getBits v 1 4 != s.f (R.GPT_CFG m) F.GPT_CFG_PRESC) then s.gptAnchor m else s).wr
    (R.GPT_CFG m) (putBits (putBits v 16 16 0) 5 1 (boolNat chain))

theorem State.gptCfgStored_cyc (s : State) (m : Nat) (v : Word) (chain : Bool) : (s.gptCfgStored m v chain).cyc = s.cyc := by
  unfold State.gptCfgStored
  split <;> rfl

/-- A timer that is no high half starts where EN rises. -/
def State.gptStarted (s : State) (m : Nat) (v : Word) (chain : Bool) : State :=
  (if getBits v 0 1 = 1 ∧ s.flag (R.GPT_CFG m) F.GPT_CFG_EN = false then
    (s.gptCfgStored m v chain).gptLoad m (s.gptCfgStored m v chain).cyc else s.gptCfgStored m v chain).setF (R.GPT_STATUS m)
    F.GPT_STATUS_RUNNING (boolNat (getBits v 0 1 == 1))

/-- A write of EN on a timer that is no high half, and does not become one. -/
theorem State.writeGptCfg_eq {s : State} {m : Nat} {v : Word}
    (h : m % 2 = 0 ∨ (getBits v 5 1 = 0 ∧ s.flag (R.GPT_CFG m) F.GPT_CFG_CHAIN = false)) : ∃ chain : Bool,
      (m % 2 = 1 → chain = false ∧ s.flag (R.GPT_CFG m) F.GPT_CFG_CHAIN = false) ∧ s.writeGptCfg m v = s.gptStarted m v chain := by
  by_cases heven : m % 2 = 0
  · refine ⟨getBits v 5 1 == 1, fun h => by omega, ?_⟩
    simp [State.writeGptCfg, State.gptStarted, State.gptCfgStored, heven]
  · have hodd : m % 2 = 1 := by omega
    obtain ⟨hv, hchain⟩ := h.resolve_left heven
    refine ⟨false, fun _ => ⟨rfl, hchain⟩, ?_⟩
    simp [State.writeGptCfg, State.gptStarted, State.gptCfgStored, hodd, hchain, hv]

theorem State.gptCfgStored_sameRegs (s : State) (m : Nat) (v : Word) (chain : Bool) :
    s.sameRegs (s.gptCfgStored m v chain) [R.GPT_CFG m] := by
  unfold State.gptCfgStored
  refine State.sameRegs.wr ?_ List.mem_cons_self _
  exact State.sameRegs.ite (s.sameRegs_refl _) (s.sameRegs_refl _)

theorem State.gptCfgStored_raised (s : State) (m : Nat) (v : Word) (chain : Bool) : (s.gptCfgStored m v chain).raised = s.raised := by
  unfold State.gptCfgStored
  split <;> rfl

/-- CHAIN of a pair stays with a write of EN that may not change it. -/
theorem State.gptCfgStored_chained {s : State} {m : Nat} {v : Word} {chain : Bool}
    (h : m % 2 = 1 → chain = false ∧ s.flag (R.GPT_CFG m) F.GPT_CFG_CHAIN = false) :
    (s.gptCfgStored m v chain).gptChained m = s.gptChained m := by
  by_cases heven : m % 2 = 0
  · refine (s.gptCfgStored_sameRegs m v chain).flag _ ?_ _
    simp only [List.mem_singleton, R.GPT_CFG]
    omega
  · obtain ⟨hchain, hflag⟩ := h (by omega)
    have hm : m / 2 * 2 + 1 = m := by omega
    rw [State.gptChained, State.gptChained, hm, hflag, State.flag_false_iff, State.f, State.gptCfgStored, State.rd_wr_same, hchain]
    exact getBits_putBits_same _ 0 (by decide)

theorem State.gptCfgStored_pre {s : State} {m : Nat} {v : Word} {chain : Bool} {reg : Nat → Nat}
    (h : m % 2 = 1 → chain = false ∧ s.flag (R.GPT_CFG m) F.GPT_CFG_CHAIN = false) (hreg : ∀ j, reg j ≠ R.GPT_CFG m) :
    (s.gptCfgStored m v chain).gptPre m reg = s.gptPre m reg := by
  have hrd (j : Nat) : (s.gptCfgStored m v chain).rd (reg j) = s.rd (reg j) :=
    s.gptCfgStored_sameRegs m v chain _ (by simpa using hreg j)
  simp only [State.gptPre, State.gptCfgStored_chained h, State.rd64, State.rdN, hrd]

theorem State.gptStarted_raised (s : State) (m : Nat) (v : Word) (chain : Bool) : (s.gptStarted m v chain).raised = s.raised := by
  unfold State.gptStarted
  rw [State.setF_raised]
  split
  · rw [State.gptLoad_raised, State.gptCfgStored_raised]
  · rw [State.gptCfgStored_raised]

theorem State.gptStarted_stopped {s : State} {m : Nat} {v : Word} (chain : Bool) (hv : getBits v 0 1 = 0) :
    (s.gptStarted m v chain).gptRuns m = false := by
  rw [State.gptStarted, State.gptRuns, hv]
  exact State.flag_setF_zero _ _ (by decide)

theorem State.gptStarted_running {s : State} {m : Nat} {v : Word} {chain : Bool}
    (h : m % 2 = 1 → chain = false ∧ s.flag (R.GPT_CFG m) F.GPT_CFG_CHAIN = false) (hv : getBits v 0 1 = 1)
    (hoff : s.flag (R.GPT_CFG m) F.GPT_CFG_EN = false) : (s.gptStarted m v chain).gptRuns m = true ∧
      ((s.gptStarted m v chain).gpt m).startVal = s.gptPre m R.GPT_RELOAD ∧
      ((s.gptStarted m v chain).gpt m).cmp = s.gptPre m R.GPT_CMP ∧ ((s.gptStarted m v chain).gpt m).startAt = s.cyc := by
  have hreload := State.gptCfgStored_pre (v := v) h fun j => (gptCfg_ne m j).1
  have hcmp := State.gptCfgStored_pre (v := v) h fun j => (gptCfg_ne m j).2.1
  rw [State.gptStarted, if_pos ⟨hv, hoff⟩, hv]
  refine ⟨State.flag_setF_one _ _ (by decide) (by decide), ?_⟩
  rw [State.setF_gpt_of, State.gptLoad_gpt, hreload, hcmp, State.gptCfgStored_cyc]
  exact ⟨rfl, rfl, rfl⟩

/-! FORCE_RELOAD (R72). -/

theorem exec_forceReload {s : State} (p : Path) (m : Fin 16) (hl : s.live) :
    exec (.forceReload p m) s = .next (s.gptLoad (s.gptBase m) s.cyc) := by
  have hexec : exec (.forceReload p m) s = s.act fun s => s.forceGpt m := rfl
  rw [hexec, State.act_on _ hl.1, State.forceGpt, State.settle_quiet ((State.gptLoad_raised _ _ _).trans hl.2)]

/-! What a strobe and an EVENT record leave of the timers. -/

theorem State.captureCoord_gpts (s : State) (n : Nat) : (s.captureCoord n).gpts = s.gpts := by
  simp [State.captureCoord, apply_ite State.gpts, State.wr64]

theorem State.captureGpt_gpts (s : State) (m : Nat) : (s.captureGpt m).gpts = s.gpts := by
  simp [State.captureGpt, apply_ite State.gpts]

theorem State.strobe_gpts (s : State) (src sel : Nat) : (s.strobe src sel).gpts = s.gpts :=
  s.strobe_keeps src sel (fun _ => rfl) (fun n _ u => u.captureCoord_gpts n) (fun m _ u => u.captureGpt_gpts m)

theorem State.strobe_gpt (s : State) (src sel m : Nat) : (s.strobe src sel).gpt m = s.gpt m := by
  rw [State.gpt, State.strobe_gpts, State.gpt]

theorem State.captureGpt_status_field (s : State) (j m : Nat) {g : Fld} (hg : CapFree g) :
    (s.captureGpt m).f (R.GPT_STATUS j) g = s.f (R.GPT_STATUS j) g := by
  obtain ⟨hw, hd⟩ := hg
  have hwr (u : State) (i v : Nat) : (u.wrN (R.GPT_CAP i) v).f (R.GPT_STATUS j) g = u.f (R.GPT_STATUS j) g :=
    State.f_wr_reg _ _ _ (by simp only [R.GPT_STATUS, R.GPT_CAP]; omega)
  have hovr (u : State) (i : Nat) : (u.hwSet (R.GPT_STATUS i) F.GPT_STATUS_CAP_OVR 1).f (R.GPT_STATUS j) g = u.f (R.GPT_STATUS j) g := by
    by_cases hij : R.GPT_STATUS j = R.GPT_STATUS i
    · rw [hij, State.f_hwSet_field _ _ (by decide) hw (by simp only [F.GPT_STATUS_CAP_OVR]; omega)]
    · rw [State.f_hwSet_reg _ _ _ _ hij]
  have hfull (u : State) (i : Nat) : (u.setF (R.GPT_STATUS i) F.GPT_STATUS_CAP_FULL 1).f (R.GPT_STATUS j) g = u.f (R.GPT_STATUS j) g := by
    by_cases hij : R.GPT_STATUS j = R.GPT_STATUS i
    · rw [hij, State.f_setF_field _ _ (by decide) hw (by simp only [F.GPT_STATUS_CAP_FULL]; omega)]
    · rw [State.f_setF_reg _ _ _ _ hij]
  unfold State.captureGpt
  dsimp only
  split
  · rw [hovr]
    split
    · rw [hwr, hwr]
    · rw [hwr]
  · rw [hfull]
    split
    · rw [hwr, hwr]
    · rw [hwr]

theorem State.strobe_gptStatus (s : State) (src sel j : Nat) {g : Fld} (hg : CapFree g) :
    (s.strobe src sel).f (R.GPT_STATUS j) g = s.f (R.GPT_STATUS j) g :=
  s.strobe_keeps (P := fun u : State => u.f (R.GPT_STATUS j) g) src sel (fun _ => rfl)
    (fun n hn u => (u.captureCoord_sameRegs n).f _ (by
      simp only [coordCapRegs, List.mem_cons, List.not_mem_nil, or_false, R.COORD_CAP_LO, R.COORD_CAP_HI, R.COORD_STATUS, R.GPT_STATUS]
      omega) g)
    (fun m _ u => u.captureGpt_status_field j m hg)

theorem gptCfg_not_mem_strobeRegs : ∀ m : Fin 16, R.GPT_CFG m ∉ strobeRegs := by decide

theorem State.fireVec_gpts (s : State) (v : Nat) : (s.fireVec v).gpts = s.gpts := by
  simp [State.fireVec, apply_ite State.gpts]

theorem State.setGlb_gpts (s : State) (k : Nat) : (s.setGlb k).gpts = s.gpts := by
  simp [State.setGlb, apply_ite State.gpts, State.fireVec_gpts]

theorem State.putEvent_gpts (s : State) (kind sub code : Nat) (data : List Byte) : (s.putEvent kind sub code data).gpts = s.gpts := by
  simp only [State.putEvent, apply_ite State.gpts]
  simp [State.setGlb_gpts, State.hold]

theorem State.event_gpts (s : State) (kind sub code : Nat) (data : List Byte) : (s.event kind sub code data).gpts = s.gpts := by
  simp [State.event, apply_ite State.gpts, State.putEvent_gpts]

/-! A wrap (R73). -/

/-- A wrap before its strobe: WRAP, and the timer loaded anew, or stopped at zero under ONESHOT. -/
def State.gptWrapped (s : State) (m : Nat) : State :=
  let at_ := (s.gpt m).startAt + ((s.gpt m).startVal + 1) * s.gptTick m
  let t := s.hwSet (R.GPT_STATUS m) F.GPT_STATUS_WRAP 1
  if t.flag (R.GPT_CFG m) F.GPT_CFG_ONESHOT then
    (((t.gptLoad m at_).setGpt m { (t.gptLoad m at_).gpt m with startVal := 0 }).setF (R.GPT_CFG m) F.GPT_CFG_EN 0).setF
      (R.GPT_STATUS m) F.GPT_STATUS_RUNNING 0
  else t.gptLoad m at_

theorem State.wrapFirst_of_due {s : State} {m : Nat} (h : s.wrapDue m = true) : s.wrapFirst m = (s.gptWrapped m).strobe 4 m := if_pos h

theorem State.wrapFirst_of_not_due {s : State} {m : Nat} (h : s.wrapDue m = false) : s.wrapFirst m = s :=
  if_neg (by rw [h]; exact Bool.false_ne_true)

theorem State.hwSet_wrap_flag (s : State) (m : Nat) (g : Fld) :
    (s.hwSet (R.GPT_STATUS m) F.GPT_STATUS_WRAP 1).flag (R.GPT_CFG m) g = s.flag (R.GPT_CFG m) g :=
  State.flag_hwSet_reg _ _ _ _ (gptStatus_ne m m).1

theorem State.gptWrapped_oneshot {s : State} {m : Nat} (h : s.flag (R.GPT_CFG m) F.GPT_CFG_ONESHOT = true) :
    (s.gptWrapped m).flag (R.GPT_STATUS m) F.GPT_STATUS_WRAP = true ∧ (s.gptWrapped m).gptRuns m = false ∧
    ((s.gptWrapped m).gpt m).startVal = 0 ∧ (s.gptWrapped m).flag (R.GPT_CFG m) F.GPT_CFG_EN = false := by
  have hne : R.GPT_STATUS m ≠ R.GPT_CFG m := (gptCfg_ne m m).2.2
  rw [State.gptWrapped]
  dsimp only
  rw [s.hwSet_wrap_flag, if_pos h]
  refine ⟨?_, State.flag_setF_zero _ _ (by decide), ?_, ?_⟩
  · rw [State.flag_setF_field _ _ (by decide) (by decide) (by decide), State.flag_setF_reg _ _ _ _ hne, State.setGpt_flag_of]
    exact s.flag_hwSet_one _ (by decide) (by decide)
  · rw [State.setF_gpt_of, State.setF_gpt_of, State.gpt_setGpt]
  · rw [State.flag_setF_reg _ _ _ _ hne.symm, State.flag_setF_zero _ _ (by decide)]

theorem State.gptWrapped_reload {s : State} {m : Nat} (h : s.flag (R.GPT_CFG m) F.GPT_CFG_ONESHOT = false) :
    (s.gptWrapped m).flag (R.GPT_STATUS m) F.GPT_STATUS_WRAP = true ∧ ((s.gptWrapped m).gpt m).startVal = s.gptPre m R.GPT_RELOAD := by
  have hpre : (s.hwSet (R.GPT_STATUS m) F.GPT_STATUS_WRAP 1).gptPre m R.GPT_RELOAD = s.gptPre m R.GPT_RELOAD := by
    refine ((s.sameRegs_refl [R.GPT_STATUS m]).hwSet List.mem_cons_self _ _).gptPre ?_ ?_ ?_
    · exact fun hm => (gptStatus_ne m _).1 (List.mem_singleton.1 hm)
    · exact fun hm => (gptStatus_ne m _).2.1 (List.mem_singleton.1 hm)
    · exact fun hm => (gptStatus_ne m _).2.1 (List.mem_singleton.1 hm)
  rw [State.gptWrapped]
  dsimp only
  rw [s.hwSet_wrap_flag, h, if_neg Bool.false_ne_true, State.gptLoad_gpt, hpre]
  exact ⟨s.flag_hwSet_one _ (by decide) (by decide), rfl⟩

theorem exec_gptWrap {s : State} (m : Fin 16) (hl : s.live) : exec (.gptWrap m) s = .next (s.wrapFirst m).settle :=
  (State.act_on _ hl.1 : execGptWrap m s = _)

theorem State.wrapDue_of {s : State} {m : Nat} (hb : s.gptBase m = m) (hr : s.gptRuns m = true)
    (ht : (s.gpt m).startVal + 1 ≤ s.gptTicks m) : s.wrapDue m = true := by
  simp [State.wrapDue, hb, hr, ht]

theorem State.wrapFirst_spec {s : State} (m : Fin 16) (h : s.wrapDue m = true) :
    (s.wrapFirst m).flag (R.GPT_STATUS m) F.GPT_STATUS_WRAP = true ∧
    (s.flag (R.GPT_CFG m) F.GPT_CFG_ONESHOT = true → (s.wrapFirst m).gptRuns m = false ∧ ((s.wrapFirst m).gpt m).startVal = 0 ∧
      (s.wrapFirst m).flag (R.GPT_CFG m) F.GPT_CFG_EN = false) ∧
    (s.flag (R.GPT_CFG m) F.GPT_CFG_ONESHOT = false → ((s.wrapFirst m).gpt m).startVal = s.gptPre m R.GPT_RELOAD) := by
  have hcfg : ((s.gptWrapped m).strobe 4 m).flag (R.GPT_CFG m) F.GPT_CFG_EN = (s.gptWrapped m).flag (R.GPT_CFG m) F.GPT_CFG_EN :=
    (State.strobe_sameRegs _ 4 m).flag _ (gptCfg_not_mem_strobeRegs m) _
  have hruns : ((s.gptWrapped m).strobe 4 m).gptRuns m = (s.gptWrapped m).gptRuns m :=
    State.flag_congr (State.strobe_gptStatus _ 4 m m (by decide))
  rw [State.wrapFirst_of_due h, State.strobe_gpt, hcfg, hruns, State.flag_congr (State.strobe_gptStatus _ 4 m m (by decide))]
  cases ho : s.flag (R.GPT_CFG m) F.GPT_CFG_ONESHOT with
  | true =>
    obtain ⟨hwrap, hrest⟩ := State.gptWrapped_oneshot ho
    exact ⟨hwrap, fun _ => hrest, fun h => absurd h.symm Bool.false_ne_true⟩
  | false =>
    obtain ⟨hwrap, hrest⟩ := State.gptWrapped_reload ho
    exact ⟨hwrap, fun h => absurd h Bool.false_ne_true, fun _ => hrest⟩

/-! A match (R73). -/

/-- A match before its strobe: MATCH, the active compare moved on, and the record. -/
def State.gptMatched (s : State) (m : Nat) : State :=
  let t := ((s.hwSet (R.GPT_STATUS m) F.GPT_STATUS_MATCH 1).noteIdle .gpt)
  let t := t.setGpt m { s.gpt m with
    cmp := ((s.gpt m).cmp + t.gptPre m R.GPT_INTERVAL) % 2 ^ (if s.gptChained m then 64 else 32)
    matchKey := (s.gpt m).startAt + s.gptTicks m * s.gptTick m + 1 }
  if t.flag (R.GPT_CFG m) F.GPT_CFG_EVENT then t.event 3 m 0 (leBytes 4 (s.gpt m).cmp) else t

theorem exec_gptMatch_of_reached {s : State} {m : Fin 16} (hl : s.live) (hb : s.gptBase m = m) (hr : s.gptRuns m = true)
    (ht : s.gptTicks m ≤ (s.gpt m).startVal) (hv : s.gptValue m = (s.gpt m).cmp)
    (hk : (s.gpt m).matchKey ≠ (s.gpt m).startAt + s.gptTicks m * s.gptTick m + 1) :
    exec (.gptMatch m) s = .next ((s.gptMatched m).strobe 3 m).settle := by
  have hexec : exec (.gptMatch m) s = execGptMatch m s := rfl
  rw [hexec, execGptMatch, State.act_on _ hl.1]
  dsimp only
  rw [if_pos ⟨hb, hr, ht, hv, hk⟩]
  rfl

theorem State.gptMatched_spec (s : State) (m : Nat) :
    (s.gptMatched m).flag (R.GPT_STATUS m) F.GPT_STATUS_MATCH = true ∧
    ((s.gptMatched m).gpt m).cmp = ((s.gpt m).cmp + s.gptPre m R.GPT_INTERVAL) % 2 ^ (if s.gptChained m then 64 else 32) := by
  have hev : R.GPT_STATUS m ∉ eventRegs := by
    simp only [eventRegs, List.mem_cons, List.not_mem_nil, or_false, R.GPT_STATUS, R.EVENT_STATUS, R.CPLQ_STATUS, R.HOST_GLB_STATUS]
    omega
  have hpre : ((s.hwSet (R.GPT_STATUS m) F.GPT_STATUS_MATCH 1).noteIdle .gpt).gptPre m R.GPT_INTERVAL = s.gptPre m R.GPT_INTERVAL := by
    refine (((s.sameRegs_refl [R.GPT_STATUS m]).hwSet List.mem_cons_self _ _).noteIdle .gpt).gptPre ?_ ?_ ?_
    · exact fun hm => (gptStatus_ne m _).1 (List.mem_singleton.1 hm)
    · exact fun hm => (gptStatus_ne m _).2.2.2 (List.mem_singleton.1 hm)
    · exact fun hm => (gptStatus_ne m _).2.2.2 (List.mem_singleton.1 hm)
  have hflag : ((s.hwSet (R.GPT_STATUS m) F.GPT_STATUS_MATCH 1).noteIdle .gpt).flag (R.GPT_STATUS m) F.GPT_STATUS_MATCH = true := by
    rw [State.flag, State.f, State.noteIdle_rd, ← State.f, ← State.flag]
    exact s.flag_hwSet_one _ (by decide) (by decide)
  rw [State.gptMatched]
  dsimp only
  rw [hpre]
  generalize (if s.gptChained m then 64 else 32) = width
  split
  · rw [(State.event_sameRegs _ 3 m 0 _).flag _ hev, State.setGpt_flag_of, hflag, State.gpt, State.event_gpts, ← State.gpt,
      State.gpt_setGpt]
    exact ⟨rfl, rfl⟩
  · rw [State.setGpt_flag_of, hflag, State.gpt_setGpt]
    exact ⟨rfl, rfl⟩

/-! A capture by command (R64). -/

theorem State.gptChained_wrN_gptCap (s : State) (m j v : Nat) : (s.wrN (R.GPT_CAP j) v).gptChained m = s.gptChained m := by
  refine State.flag_congr (State.f_wr_reg _ _ _ ?_)
  simp only [R.GPT_CFG, R.GPT_CAP]
  omega

/-- A capture of a timer: both words of the counter where the pair is chained, and the flag. -/
theorem State.captureGpt_eq (s : State) (m : Nat) : s.captureGpt m =
    let b := s.gptBase m
    let t := if s.gptChained m then (s.wrN (R.GPT_CAP b) (s.gptValue b)).wrN (R.GPT_CAP (b + 1)) (s.gptValue b / 2 ^ 32)
      else s.wrN (R.GPT_CAP b) (s.gptValue b)
    if s.flag (R.GPT_STATUS b) F.GPT_STATUS_CAP_FULL then t.hwSet (R.GPT_STATUS b) F.GPT_STATUS_CAP_OVR 1
    else t.setF (R.GPT_STATUS b) F.GPT_STATUS_CAP_FULL 1 := by
  simp only [State.captureGpt, State.gptChained_wrN_gptCap]

/-- The words of a capture before its flag. -/
def State.gptCapWords (s : State) (m : Nat) : State :=
  if s.gptChained m then
    (s.wrN (R.GPT_CAP (s.gptBase m)) (s.gptValue (s.gptBase m))).wrN (R.GPT_CAP (s.gptBase m + 1)) (s.gptValue (s.gptBase m) / 2 ^ 32)
  else s.wrN (R.GPT_CAP (s.gptBase m)) (s.gptValue (s.gptBase m))

theorem State.gptCapWords_spec (s : State) (m : Nat) :
    (s.gptCapWords m).rdN (R.GPT_CAP (s.gptBase m)) = s.gptValue (s.gptBase m) % 2 ^ 32 ∧
    (s.gptChained m = true → (s.gptCapWords m).rdN (R.GPT_CAP (s.gptBase m + 1)) = s.gptValue (s.gptBase m) / 2 ^ 32 % 2 ^ 32) := by
  have hne : R.GPT_CAP (s.gptBase m) ≠ R.GPT_CAP (s.gptBase m + 1) := by simp only [R.GPT_CAP]; omega
  cases hc : s.gptChained m with
  | true =>
    rw [State.gptCapWords, if_pos hc, State.rdN_wrN_same, State.rdN, State.rd_wrN_other _ _ hne, ← State.rdN, State.rdN_wrN_same]
    exact ⟨rfl, fun _ => rfl⟩
  | false =>
    rw [State.gptCapWords, if_neg (by rw [hc]; exact Bool.false_ne_true), State.rdN_wrN_same]
    exact ⟨rfl, fun h => absurd h Bool.false_ne_true⟩

theorem State.captureGpt_onlyRegs (s : State) (m : Nat) : s.onlyRegs (s.captureGpt m)
    [R.GPT_CAP (s.gptBase m), R.GPT_CAP (s.gptBase m + 1), R.GPT_STATUS (s.gptBase m)] s.raised := by
  have hlo := (State.onlyRegs_refl (s := s) rfl [R.GPT_CAP (s.gptBase m), R.GPT_CAP (s.gptBase m + 1), R.GPT_STATUS (s.gptBase m)]).wrN
    (o := R.GPT_CAP (s.gptBase m)) (by simp) (s.gptValue (s.gptBase m))
  have hwords := (hlo.wrN (o := R.GPT_CAP (s.gptBase m + 1)) (by simp) (s.gptValue (s.gptBase m) / 2 ^ 32)).ite
    (c := s.gptChained m = true) hlo
  rw [s.captureGpt_eq]
  exact (hwords.hwSet (by simp) _ _).ite (hwords.setF (by simp) _ _)

/-- The flags of a status register say nothing of a capture. -/
theorem State.captureGpt_spec (s : State) (m : Nat) :
    (s.captureGpt m).rdN (R.GPT_CAP (s.gptBase m)) = s.gptValue (s.gptBase m) % 2 ^ 32 ∧
    (s.gptChained m = true → (s.captureGpt m).rdN (R.GPT_CAP (s.gptBase m + 1)) = s.gptValue (s.gptBase m) / 2 ^ 32 % 2 ^ 32) ∧
    (s.flag (R.GPT_STATUS (s.gptBase m)) F.GPT_STATUS_CAP_FULL = false →
      (s.captureGpt m).flag (R.GPT_STATUS (s.gptBase m)) F.GPT_STATUS_CAP_FULL = true) ∧
    (s.flag (R.GPT_STATUS (s.gptBase m)) F.GPT_STATUS_CAP_FULL = true →
      (s.captureGpt m).flag (R.GPT_STATUS (s.gptBase m)) F.GPT_STATUS_CAP_OVR = true) ∧
    s.captureGpt m = { s with regs := (s.captureGpt m).regs, cycle := (s.captureGpt m).cycle } := by
  have heq : s.captureGpt m = if s.flag (R.GPT_STATUS (s.gptBase m)) F.GPT_STATUS_CAP_FULL then
      (s.gptCapWords m).hwSet (R.GPT_STATUS (s.gptBase m)) F.GPT_STATUS_CAP_OVR 1
      else (s.gptCapWords m).setF (R.GPT_STATUS (s.gptBase m)) F.GPT_STATUS_CAP_FULL 1 := s.captureGpt_eq m
  have hne (j i : Nat) : R.GPT_CAP j ≠ R.GPT_STATUS i := by simp only [R.GPT_CAP, R.GPT_STATUS]; omega
  obtain ⟨hlo, hhi⟩ := s.gptCapWords_spec m
  rw [← and_assoc, ← and_assoc, ← and_assoc]
  refine ⟨?_, (s.captureGpt_onlyRegs m).1⟩
  rw [heq]
  cases hf : s.flag (R.GPT_STATUS (s.gptBase m)) F.GPT_STATUS_CAP_FULL with
  | true =>
    rw [if_pos rfl]
    simp only [State.rdN, State.rd_hwSet_other _ _ _ (hne _ _)]
    exact ⟨⟨⟨hlo, hhi⟩, fun h => absurd h.symm Bool.false_ne_true⟩, fun _ => State.flag_hwSet_one _ _ (by decide) (by decide)⟩
  | false =>
    rw [if_neg Bool.false_ne_true]
    simp only [State.rdN, State.rd_setF_other _ _ _ (hne _ _)]
    exact ⟨⟨⟨hlo, hhi⟩, fun _ => State.flag_setF_one _ _ (by decide) (by decide)⟩, fun h => absurd h Bool.false_ne_true⟩

theorem exec_gptCapStrobe {s : State} (p : Path) (m : Fin 16) (hl : s.live) : exec (.gptCapStrobe p m) s = .next (s.captureGpt m) := by
  have hexec : exec (.gptCapStrobe p m) s = s.act fun s => s.captureGpt m := rfl
  rw [hexec, State.act_quiet _ hl.1 ((s.captureGpt_onlyRegs m).raised.trans hl.2)]

/-! The preloads (R72, R74, R76). -/

/-- The register of a preload. -/
def preloadReg : GptPreload → Nat → Nat
  | .reload => R.GPT_RELOAD
  | .cmp => R.GPT_CMP
  | .interval => R.GPT_INTERVAL

theorem exec_gptPreloadWrite {s : State} {p : Path} {m : Fin 16} {which : GptPreload} (v : Word) (hl : s.live)
    (hlater : s.laterWrote p (preloadReg which m) = false) : exec (.gptPreloadWrite p m which v) s =
      .next ((s.noteEvent (20 + pathRank p) (preloadReg which m)).writeGptPre p m which v).settle := by
  have hexec : exec (.gptPreloadWrite p m which v) s = s.act fun s =>
      s.inOrder p (preloadReg which m) (s.rd (preloadReg which m)) v fun v s => s.writeGptPre p m which v := by cases which <;> rfl
  rw [hexec, State.act_on _ hl.1, State.inOrder, hlater]
  rfl

theorem State.noteEvent_gptChained (s : State) (a b m : Nat) : (s.noteEvent a b).gptChained m = s.gptChained m := rfl

theorem State.noteEvent_wrapDue (s : State) (a b m : Nat) : (s.noteEvent a b).wrapDue m = s.wrapDue m := rfl

theorem State.gptBase_of_single {s : State} {m : Nat} (h : s.gptChained m = false) : s.gptBase m = m :=
  if_neg (by rw [h]; exact Bool.false_ne_true)

/-- The preload of a single timer takes the word, a wrap of the same cycle first (R74). -/
theorem State.writeGptPre_single {s : State} {m : Nat} (h : s.gptChained m = false) (p : Path) (v : Word) :
    s.writeGptPre p m .reload v = (s.wrapFirst m).wr (R.GPT_RELOAD m) v ∧
    s.writeGptPre p m .cmp v = (s.wrapFirst m).wr (R.GPT_CMP m) v := by
  simp [State.writeGptPre, h, State.gptBase_of_single h]

/-- The low word of a chained interval waits for the high one (R76). -/
theorem State.writeGptPre_low {s : State} {m : Nat} (h : s.gptChained m = true) (heven : m % 2 = 0) (p : Path) (v : Word) :
    s.writeGptPre p m .interval v = s.withStaged p (R.GPT_INTERVAL m) v := by
  simp [State.writeGptPre, h, heven, State.withStaged, pathKey]

theorem State.writeGptPre_high {s : State} {m : Nat} (h : s.gptChained (m + 1) = true) (heven : m % 2 = 0) (p : Path) (v : Word) :
    s.writeGptPre p (m + 1) .interval v =
      (s.wrN (R.GPT_INTERVAL m) (s.staged p (R.GPT_INTERVAL m))).wr (R.GPT_INTERVAL (m + 1)) v := by
  have hodd : ¬ (m + 1) % 2 = 0 := by omega
  simp [State.writeGptPre, h, hodd]

/-- A write that another register's note does not concern comes before the same later ones. -/
theorem State.noteEvent_laterWrote {s : State} {p : Path} {a o off : Nat} (h : off ≠ o) :
    (s.noteEvent a o).laterWrote p off = s.laterWrote p off := by
  have hnow (r : Nat) : (s.noteEvent a o).eventNow r off = s.eventNow r off := by
    have hat : s.cycleRt.at_ = s.cyc := by
      unfold State.cycleRt
      split
      · assumption
      · rfl
    have hcyc : (s.noteEvent a o).cycleRt = (s.noteEvent a o).cycle := if_pos hat
    have hne : ((r, off) == (a, o)) = false := beq_eq_false_iff_ne.2 fun heq => h (Prod.mk.inj heq).2
    rw [State.eventNow, hcyc, State.eventNow, State.noteEvent]
    simp only [List.contains_cons, hne, Bool.false_or]
  simp only [State.laterWrote, hnow]

theorem State.gptValue_congr {s t : State} {m : Nat} (hgpt : t.gpts = s.gpts) (hcyc : t.cyc = s.cyc)
    (hcfg : t.rd (R.GPT_CFG m) = s.rd (R.GPT_CFG m)) (hst : t.rd (R.GPT_STATUS m) = s.rd (R.GPT_STATUS m)) :
    t.gptValue m = s.gptValue m := by
  simp only [State.gptValue, State.gptTicks, State.gptRuns, State.gptTick, State.gpt, State.flag, State.f, hgpt, hcyc, hcfg, hst]
  rfl

/-- The interval of a chained pair: the low word waits, and the high word's write on the same path stores both. -/
theorem exec_gptPreloadWrite_chained {s : State} {p : Path} {m : Fin 16} (v : Word) (hl : s.live) (hc : s.gptChained m = true)
    (heven : m.val % 2 = 0) (hlater : s.laterWrote p (R.GPT_INTERVAL m) = false)
    (hlater' : s.laterWrote p (R.GPT_INTERVAL (m.val + 1)) = false) :
    ∃ t, exec (.gptPreloadWrite p m .interval v) s = .next t ∧ s.sameRegs t [] ∧
      ∃ w : State, exec (.gptPreloadWrite p (m + 1) .interval v) t = .next w ∧ w.rd (R.GPT_INTERVAL m) = v ∧
        w.rd (R.GPT_INTERVAL (m.val + 1)) = v := by
  have hm : (m + 1).val = m.val + 1 := by
    rw [Fin.val_add]
    simp only [Fin.val_one]
    omega
  have hpair : (m.val + 1) / 2 * 2 + 1 = m.val / 2 * 2 + 1 := by omega
  have hlow := State.writeGptPre_low (s := s.noteEvent (20 + pathRank p) (R.GPT_INTERVAL m)) hc heven p v
  generalize ht : (s.noteEvent (20 + pathRank p) (R.GPT_INTERVAL m)).withStaged p (R.GPT_INTERVAL m) v = t at hlow
  have hlive : t.live := by
    rw [← ht]
    exact State.withStaged_live (s := s.noteEvent (20 + pathRank p) (R.GPT_INTERVAL m)) hl p (R.GPT_INTERVAL m) v
  have hchained : t.gptChained (m.val + 1) = true := by
    rw [← ht, State.gptChained, hpair]
    exact hc
  have hlaterT : t.laterWrote p (R.GPT_INTERVAL (m + 1 : Fin 16)) = false := by
    rw [← ht, State.withStaged_laterWrote, hm, State.noteEvent_laterWrote (by simp only [R.GPT_INTERVAL]; omega), hlater']
  have hstaged : t.staged p (R.GPT_INTERVAL m) = v.toNat := ht ▸ State.withStaged_staged _ p _ v
  have hhigh := State.writeGptPre_high (s := t.noteEvent (20 + pathRank p) (R.GPT_INTERVAL (m.val + 1))) hchained heven p v
  rw [State.noteEvent_staged, hstaged] at hhigh
  have hne : R.GPT_INTERVAL m ≠ R.GPT_INTERVAL (m.val + 1) := by simp only [R.GPT_INTERVAL]; omega
  refine ⟨t, ?_, ?_, ((t.noteEvent (20 + pathRank p) (R.GPT_INTERVAL (m.val + 1))).wrN (R.GPT_INTERVAL m) v.toNat).wr
    (R.GPT_INTERVAL (m.val + 1)) v, ?_, ?_, State.rd_wr_same _ _ _⟩
  · rw [exec_gptPreloadWrite v hl hlater]
    exact congrArg Host.Outcome.next ((congrArg State.settle hlow).trans (State.settle_quiet hlive.2))
  · rw [← ht]
    exact s.sameRegs_refl []
  · rw [exec_gptPreloadWrite v hlive hlaterT, hm]
    refine congrArg Host.Outcome.next ((congrArg State.settle hhigh).trans (State.settle_quiet ?_))
    exact hlive.2
  · rw [State.rd_wr_other _ _ hne, State.rd_wrN_same, BitVec.ofNat_toNat, BitVec.setWidth_eq]

/-- Settles O19: each command is one update of the timer, and the strobe and the record after it leave the timers. -/
theorem generalTimersReloadMatchAndCapture : Obligations.GeneralTimersReloadMatchAndCapture := by
  refine ⟨fun s m p v hl => ⟨fun hlater hm => ?_, ?_, fun hb hr ht => ?_, fun hb hr ht hv hk => ?_⟩,
    fun s m p v hl => ⟨⟨_, exec_gptCapStrobe p m hl, s.captureGpt_spec m⟩, fun hc hlater hdue => ?_, fun hc hlater hdue => ?_,
      fun hc hlater hdue => ?_, fun hc heven hlater hlater' => ?_⟩⟩
  · obtain ⟨chain, hchain, heq⟩ := State.writeGptCfg_eq (s := s.noteEvent (20 + pathRank p) (R.GPT_CFG m)) (v := v) hm
    refine ⟨(s.noteEvent (20 + pathRank p) (R.GPT_CFG m)).gptStarted m v chain, ?_, fun hon hoff => ?_, fun hoff => ?_⟩
    · rw [exec_gptEnable v hl hlater, heq]
      exact congrArg _ (State.settle_quiet ((State.gptStarted_raised _ _ _ _).trans hl.2))
    · exact State.gptStarted_running hchain hon hoff
    · exact State.gptStarted_stopped chain hoff
  · refine ⟨_, exec_forceReload p m hl, ?_⟩
    rw [State.gptLoad_gpt]
    exact ⟨rfl, rfl, rfl, rfl⟩
  · exact ⟨_, exec_gptWrap m hl, State.wrapFirst_spec m (State.wrapDue_of hb hr ht)⟩
  · obtain ⟨hmatch, hcmp⟩ := s.gptMatched_spec m
    refine ⟨_, exec_gptMatch_of_reached hl hb hr ht hv hk, ?_, ?_⟩
    · rw [State.flag_congr (State.strobe_gptStatus _ 3 m m (by decide)), hmatch]
    · rw [State.strobe_gpt, hcmp]
  · have hwrite := (State.writeGptPre_single (s := s.noteEvent (20 + pathRank p) (R.GPT_RELOAD m)) hc p v).1
    have hspec := State.wrapFirst_spec (s := s.noteEvent (20 + pathRank p) (R.GPT_RELOAD m)) m hdue
    refine ⟨((s.noteEvent (20 + pathRank p) (R.GPT_RELOAD m)).wrapFirst m).wr (R.GPT_RELOAD m) v, ?_, State.rd_wr_same _ _ _,
      fun hshot => ?_⟩
    · rw [exec_gptPreloadWrite v hl hlater]
      exact congrArg (fun t : State => Host.Outcome.next t.settle) hwrite
    · rw [State.wr_gpt_of]
      exact hspec.2.2 hshot
  · have hwrite := (State.writeGptPre_single (s := s.noteEvent (20 + pathRank p) (R.GPT_RELOAD m)) hc p v).1
    rw [State.wrapFirst_of_not_due ((s.noteEvent_wrapDue _ _ _).trans hdue)] at hwrite
    have honly := ((State.onlyRegs_refl hl.2 [R.GPT_RELOAD m]).noteEvent (20 + pathRank p) (R.GPT_RELOAD m)).wr List.mem_cons_self v
    refine ⟨_, ?_, State.rd_wr_same _ _ _, honly, State.gptValue_congr rfl rfl (honly.rd ?_) (honly.rd ?_)⟩
    · rw [exec_gptPreloadWrite v hl hlater]
      exact congrArg Host.Outcome.next ((congrArg State.settle hwrite).trans (State.settle_quiet honly.raised))
    all_goals
      simp only [List.mem_singleton, R.GPT_CFG, R.GPT_STATUS, R.GPT_RELOAD]
      omega
  · have hwrite := (State.writeGptPre_single (s := s.noteEvent (20 + pathRank p) (R.GPT_CMP m)) hc p v).2
    rw [State.wrapFirst_of_not_due ((s.noteEvent_wrapDue _ _ _).trans hdue)] at hwrite
    have honly := ((State.onlyRegs_refl hl.2 [R.GPT_CMP m]).noteEvent (20 + pathRank p) (R.GPT_CMP m)).wr List.mem_cons_self v
    refine ⟨_, ?_, State.rd_wr_same _ _ _, honly, rfl⟩
    rw [exec_gptPreloadWrite v hl hlater]
    exact congrArg Host.Outcome.next ((congrArg State.settle hwrite).trans (State.settle_quiet honly.raised))
  · exact exec_gptPreloadWrite_chained v hl hc heven hlater hlater'

end Sys2Proof.Machine
end

section
/-! The trips of a stage after soft start, at U_MAX and by HB_FLT (R116, R125, R127, R131). -/

namespace Sys2Proof.Machine

/-- What a command does to a powered block. -/
theorem exec_powered {c : Instr} {s : State} {g : State → State} (hl : s.live) (h : exec c s = s.act g) : exec c s = .next (g s).settle :=
  h.trans (State.act_on g hl.1)

/-- What a command does to a powered block, where it reports nothing. -/
theorem exec_powered_quiet {c : Instr} {s : State} {g : State → State} (hl : s.live) (h : exec c s = s.act g) (hq : (g s).raised = []) :
    exec c s = .next (g s) := by
  rw [exec_powered hl h, State.settle_quiet hq]

theorem State.takeFree_regs (s : State) (n : Nat) : (s.takeFree n).2.regs = s.regs := by cases n <;> rfl

/-- A division draws at most a free choice: nothing but the choices that are left changes. -/
theorem State.quot_frame (s : State) (a : Int) (d : Nat) : (s.quot a d).2 = { s with free := (s.quot a d).2.free } := by
  unfold State.quot
  split
  · rfl
  · split
    · rfl
    · rfl

theorem State.measured_frame (s : State) (node raw : Nat) : (s.measured node raw).2 = { s with free := (s.measured node raw).2.free } := by
  unfold State.measured
  split
  · exact s.quot_frame _ _
  · rfl

/-- The state of a soft-start check before its verdict: the voltage measured, and the check done. -/
def State.startChecked (s : State) (n vOut : Nat) : State :=
  let t := (s.measured (s.stRecv n (s.stageDir n)) vOut).2
  t.setStage n { t.stage n with ssDone := false }

theorem State.startChecked_frame (s : State) (n vOut : Nat) : s.startChecked n vOut =
    { s with free := (s.startChecked n vOut).free, stages := (s.startChecked n vOut).stages } := by
  unfold State.startChecked
  rw [s.measured_frame]
  rfl

theorem State.startChecked_sameRegs (s : State) (n vOut : Nat) (l : List Nat) : s.sameRegs (s.startChecked n vOut) l := by
  rw [s.startChecked_frame]
  exact fun _ _ => rfl

theorem State.startChecked_raised (s : State) (n vOut : Nat) : (s.startChecked n vOut).raised = s.raised := by
  rw [s.startChecked_frame]

theorem State.startChecked_stageRuns (s : State) (n vOut k : Nat) : (s.startChecked n vOut).stageRuns k = s.stageRuns k := by
  rw [s.startChecked_frame]
  rfl

/-- The check 2 ms after soft start, as its verdict goes. -/
theorem exec_startShortCheck_of_due {s : State} {n : Fin 8} (hl : s.live) (hr : s.stageRuns n = true) (vOut : Nat)
    (hd : (s.stage n).ssDone = true) (hat : (s.stage n).ssAcc + 2000 ≤ s.us) {v : Nat}
    (hv : v = (s.measured (s.stRecv n (s.stageDir n)) vOut).1) {limit : Bool}
    (hlim : limit = (s.f (R.STAGE_STATUS n) F.STAGE_STATUS_SEL == 1 || s.f (R.STAGE_STATUS n) F.STAGE_STATUS_SEL == 2 || s.cbcWithin n 16)) :
    exec (.startShortCheck n vOut) s = .next (if 5 * v < (s.stage n).ssTarget ∧ limit then
        ((s.startChecked n vOut).tripStage n).raise 0x20 n (faultRec v (s.stage n).ssTarget)
      else if (s.stage n).ssTarget ≤ 5 * v ∧ 10 * v < 9 * (s.stage n).ssTarget ∧ ¬ limit then
        (s.startChecked n vOut).raise 0x28 n (faultRec v (s.stage n).ssTarget)
      else s.startChecked n vOut).settle := by
  subst hv hlim
  rw [show exec (.startShortCheck n vOut) s = execStartShortCheck n vOut s from rfl, execStartShortCheck, State.act_on _ hl.1]
  exact congrArg (fun t : State => Host.Outcome.next t.settle) (if_pos ⟨hr, hd, hat⟩)

theorem exec_loopSat_of_full {s : State} {n : Fin 8} (hl : s.live) (hr : s.stageRuns n = true)
    (hc : 800000 ≤ (s.stage n).satCnt * s.ctlCounts n) :
    exec (.loopSat n) s = .next ((s.tripStage n).raise 0x27 n
      (faultRec (natOf (s.stage n).iOut) (natOf (s.stage n).iRef))).settle := by
  rw [show exec (.loopSat n) s = execLoopSat n s from rfl, execLoopSat, State.act_on _ hl.1]
  exact congrArg (fun t : State => Host.Outcome.next t.settle) (if_pos ⟨hr, hc⟩)

/-! HB_FLT trips the stages of its group one after the other. -/

/-- How HB_FLT ends one stage: a READY stage trips without a re-validation. -/
def State.hbTrip (s : State) (n : Nat) : State := if s.stageState n = stReady then s.stopStage n stTripped else s.tripStage n

theorem State.hbTrip_sameRegs (s : State) (n : Nat) : s.sameRegs (s.hbTrip n) (R.DRILL_STATUS :: stopRegs n) :=
  State.sameRegs.ite ((s.stopStage_sameRegs n stTripped).mono (List.subset_cons_self _ _)) (s.tripStage_sameRegs n)

/-- A stop of one stage leaves the state of every other. -/
theorem stageStatus_not_mem_stopRegs {n k : Fin 8} (h : k ≠ n) : R.STAGE_STATUS k ∉ R.DRILL_STATUS :: stopRegs n := by
  have hk : k.val ≠ n.val := fun hkn => h (Fin.ext hkn)
  simp only [stopRegs, R.DRILL_STATUS, R.STAGE_STATUS, R.STAGE_DUTY, R.STAGE_IL, R.STG_ADC_LOAD, List.mem_cons, List.not_mem_nil, or_false]
  omega

theorem State.hbTrip_stageState_other (s : State) {n k : Fin 8} (h : k ≠ n) : (s.hbTrip n).stageState k = s.stageState k :=
  (s.hbTrip_sameRegs n).f _ (stageStatus_not_mem_stopRegs h) _

/-- A running stage is TRIPPED by HB_FLT, and one that already is stays TRIPPED. -/
theorem State.hbTrip_stageState {s : State} {n : Fin 8} (h : s.stageRuns n = true ∨ s.stageState n = stTripped) :
    (s.hbTrip n).stageState n = stTripped := by
  unfold State.hbTrip
  split
  · exact s.stopStage_stageState n (by decide)
  · rcases h with hr | ht
    · exact State.tripStage_stageState hr
    · rw [State.tripStage, if_neg (by simp [State.stageRuns, ht, stTripped, stSoft, stRun, stReversing]), ht]

theorem State.hbTrip_raised (s : State) (n : Nat) : (s.hbTrip n).raised = s.raised := by
  unfold State.hbTrip
  split
  · exact s.stopStage_raised n _
  · exact s.tripStage_raised n

/-- A stage that runs is TRIPPED once every stage of a list has been ended that holds it. -/
theorem State.foldl_hbTrip_stageState {n : Fin 8} (l : List Nat) (hlt : ∀ k ∈ l, k < 8) : ∀ s : State,
    (s.stageState n = stTripped ∨ (s.stageRuns n = true ∧ n.val ∈ l)) → (l.foldl State.hbTrip s).stageState n = stTripped := by
  induction l with
  | nil =>
    rintro s (h | ⟨-, hn⟩)
    · exact h
    · exact absurd hn List.not_mem_nil
  | cons k l ih =>
    intro s h
    rw [List.foldl_cons]
    refine ih (fun x hx => hlt x (List.mem_cons_of_mem _ hx)) _ ?_
    by_cases hkn : n.val = k
    · subst hkn
      exact .inl (State.hbTrip_stageState (h.symm.imp And.left id))
    · have hk : n ≠ ⟨k, hlt k List.mem_cons_self⟩ := fun e => hkn (congrArg Fin.val e)
      have hsame := s.hbTrip_stageState_other hk
      refine h.imp hsame.trans fun ⟨hr, hn⟩ => ⟨?_, (List.mem_cons.1 hn).resolve_left hkn⟩
      rw [← hr, State.stageRuns, hsame, State.stageRuns]

theorem strobeRegs_stageStatus (n : Fin 8) : R.STAGE_STATUS n ∉ strobeRegs := by
  simp only [R.STAGE_STATUS]; fin_cases n <;> decide

theorem exec_hbFltAssert {s : State} (g : Fin 4) (hl : s.live) : exec (.hbFltAssert g) s =
    .next (((((List.range 8).filter (fun n => s.stInGroup n g)).foldl State.hbTrip s).strobe 6 g).raise 0x22 g []).settle := by
  rw [show exec (.hbFltAssert g) s = execHbFltAssert g s from rfl, execHbFltAssert, State.act_on _ hl.1]
  rfl

/-- Settles O27: a trip is `tripStage`, whose registers and state are known; HB_FLT trips the stages of its group in turn, and no later one
touches the state of an earlier one. -/
theorem stagesTripOnTheirFaults : Obligations.StagesTripOnTheirFaults := by
  intro s n hl hr
  refine ⟨fun vOut hd hat => ?_, fun hc => ?_, fun g hg => ?_⟩
  · intro v limit
    have hexec := exec_startShortCheck_of_due hl hr vOut hd hat (v := v) rfl rfl
    have hlim : limit ↔ (s.f (R.STAGE_STATUS n) F.STAGE_STATUS_SEL == 1 || s.f (R.STAGE_STATUS n) F.STAGE_STATUS_SEL == 2 ||
        s.cbcWithin n 16) = true := by simp [limit, or_assoc]
    have hrun : (s.startChecked n vOut).stageRuns n = true := (s.startChecked_stageRuns n vOut n).trans hr
    refine ⟨fun hv hll => ?_, fun hlo hhi hno => ?_⟩
    · rw [if_pos ⟨hv, hlim.1 hll⟩] at hexec
      refine ⟨_, hexec, State.tripStage_stageState hrun,
        ((s.startChecked_sameRegs n vOut _).trans (State.tripStage_sameRegs _ n)).raise _ _ _, ?_⟩
      rw [State.raise_raised, State.tripStage_raised, s.startChecked_raised, hl.2, List.nil_append, faultOf]
    · rw [if_neg (fun h => by omega), if_pos ⟨hlo, hhi, fun h => hno (hlim.2 h)⟩] at hexec
      refine ⟨_, hexec, (s.startChecked_sameRegs n vOut _).raise _ _ _, ?_⟩
      rw [State.raise_raised, s.startChecked_raised, hl.2, List.nil_append, faultOf]
  · refine ⟨_, exec_loopSat_of_full hl hr hc, State.tripStage_stageState hr, (s.tripStage_sameRegs n).raise _ _ _, ?_⟩
    rw [State.raise_raised, State.tripStage_raised, hl.2, List.nil_append, faultOf]
  · refine ⟨_, exec_hbFltAssert g hl, ?_, ?_⟩
    · have hmem : n.val ∈ (List.range 8).filter (fun k => s.stInGroup k g) :=
        List.mem_filter.2 ⟨List.mem_range.2 n.isLt, hg⟩
      have htrip := State.foldl_hbTrip_stageState (n := n) _ (fun k hk => List.mem_range.1 (List.mem_filter.1 hk).1) s (.inr ⟨hr, hmem⟩)
      exact ((State.strobe_sameRegs _ 6 g).f _ (strobeRegs_stageStatus n) _).trans htrip
    · rw [State.raise_raised]
      exact List.mem_append_right _ (List.mem_singleton.2 rfl)

end Sys2Proof.Machine
end

section
/-! What a completion, a counter of the store and the figures of the Plan table write (R310, R352, R58). -/

namespace Sys2Proof.Machine

/-- The registers that a completion of a source may write: its count of losses and that of all discards. -/
def cplRegs (src : Nat) : List Nat := [if src < 32 then R.RING_CNT src else R.DRILL_CAN_STAT (src - 32), R.CPLQ_STATUS]

theorem cplRegs_above {src off : Nat} (ho : 0x1190 < off) (hc : off < 0xA108) : off ∉ cplRegs src := by
  simp only [cplRegs, List.mem_cons, List.not_mem_nil, or_false, R.CPLQ_STATUS]
  split
  · simp only [R.RING_CNT]; omega
  · simp only [R.DRILL_CAN_STAT]; omega

theorem State.complete_sameRegs (s : State) (src : Nat) (b : List Byte) (w : Bool) : s.sameRegs (s.complete src b w) (cplRegs src) := by
  have hrefl := s.sameRegs_refl (cplRegs src)
  have hq : R.CPLQ_STATUS ∈ cplRegs src := by simp [cplRegs]
  by_cases hsrc : src < 32
  · have hcnt : R.RING_CNT src ∈ cplRegs src := by simp [cplRegs, hsrc]
    rw [State.complete, if_pos hsrc]
    exact (hrefl.bump hcnt _ 1).ite (State.sameRegs.ite (fun _ _ => rfl) (((hrefl.bump hcnt _ 1).bump hq _ 1).raise _ _ _))
  · have hstat : R.DRILL_CAN_STAT (src - 32) ∈ cplRegs src := by simp [cplRegs, hsrc]
    rw [State.complete, if_neg hsrc]
    exact State.sameRegs.ite (fun _ _ => rfl)
      (State.sameRegs.ite (fun _ _ => rfl) (((hrefl.bump hstat _ 1).bump hq _ 1).raise _ _ _))

theorem State.complete_plan (s : State) (src : Nat) (b : List Byte) (w : Bool) : (s.complete src b w).plan = s.plan := by
  simp only [State.complete, apply_ite State.plan]
  simp [State.hold, State.discardCpl, State.discardCan]

/-! The store's pages and counters. -/

/-- `t` differs from `s` in the registers, the store and the reports alone. -/
def State.StoreOnly (s t : State) : Prop := t = { s with regs := t.regs, nvm := t.nvm, raised := t.raised }

theorem State.StoreOnly.refl (s : State) : s.StoreOnly s := rfl

theorem State.StoreOnly.trans {s t u : State} (h : s.StoreOnly t) (h' : t.StoreOnly u) : s.StoreOnly u := by
  unfold State.StoreOnly at h h' ⊢
  rw [h', h]

theorem State.StoreOnly.ite {s t u : State} {c : Prop} [Decidable c] (ht : s.StoreOnly t) (hu : s.StoreOnly u) :
    s.StoreOnly (if c then t else u) := by
  split
  · exact ht
  · exact hu

theorem State.StoreOnly.plan {s t : State} (h : s.StoreOnly t) : t.plan = s.plan := by rw [h]

theorem State.setNvmByte_storeOnly (s : State) (a : Nat) (b : Byte) : s.StoreOnly (s.setNvmByte a b) := rfl

theorem State.setNvmGroup_storeOnly (s : State) (g : Nat) (st : GroupStatus) : s.StoreOnly (s.setNvmGroup g st) := rfl

theorem State.setCounter_storeOnly (s : State) (k : Nat) (r : CntRt) : s.StoreOnly (s.setCounter k r) := rfl

theorem State.wrN_storeOnly (s : State) (o v : Nat) : s.StoreOnly (s.wrN o v) := rfl

theorem State.setF_storeOnly (s : State) (o : Nat) (g : Fld) (v : Nat) : s.StoreOnly (s.setF o g v) := rfl

theorem State.raise_storeOnly (s : State) (i j : Nat) (b : List Byte) : s.StoreOnly (s.raise i j b) := rfl

theorem State.StoreOnly.foldl {α : Type} {g : State → α → State} (hg : ∀ (u : State) (a : α), u.StoreOnly (g u a)) (l : List α) (s : State) :
    s.StoreOnly (l.foldl g s) := by
  induction l generalizing s with
  | nil => exact .refl s
  | cons a l ih => exact (hg s a).trans (ih _)

theorem State.programGroup_regs (s : State) (g : Nat) (b : List Byte) : (s.programGroup g b).regs = s.regs := by
  rw [State.programGroup, State.setNvmGroup_regs]
  exact foldl_keeps (f := State.regs) (fun t _ => t.setNvmByte_regs _ _) _ _

theorem State.programGroup_storeOnly (s : State) (g : Nat) (b : List Byte) : s.StoreOnly (s.programGroup g b) :=
  (State.StoreOnly.foldl (fun t _ => t.setNvmByte_storeOnly _ _) (List.range 8) s).trans (State.setNvmGroup_storeOnly _ _ _)

theorem State.clearGroup_regs (s : State) (g : Nat) : (s.clearGroup g).regs = s.regs := by
  rw [State.clearGroup, State.setNvmGroup_regs]
  exact foldl_keeps (f := State.regs) (fun t _ => t.setNvmByte_regs _ _) _ _

theorem State.clearGroup_storeOnly (s : State) (g : Nat) : s.StoreOnly (s.clearGroup g) :=
  (State.StoreOnly.foldl (fun t _ => t.setNvmByte_storeOnly _ _) (List.range 8) s).trans (State.setNvmGroup_storeOnly _ _ _)

theorem State.sameRegs_of_regs {s t : State} (h : t.regs = s.regs) (l : List Nat) : s.sameRegs t l := fun off _ => by
  rw [State.rd, State.rd, h]

/-- The groups of a page, cleared. -/
def State.clearPage (s : State) (p : Nat) : State := (List.range 16).foldl (fun s j => s.clearGroup (16 * p + j)) s

theorem State.clearPage_regs (s : State) (p : Nat) : (s.clearPage p).regs = s.regs :=
  foldl_keeps (f := State.regs) (fun t _ => t.clearGroup_regs _) _ _

theorem State.unqueuePage_sameRegs (s : State) (p : Nat) : s.sameRegs (s.unqueuePage p) [R.NVM_STATUS] :=
  State.sameRegs.ite (State.sameRegs.setF (t := { s with nvm := _ }) (s.sameRegs_refl _) List.mem_cons_self _ _) (s.sameRegs_refl _)

theorem State.erasePage_sameRegs (s : State) (p : Nat) : s.sameRegs (s.erasePage p) [R.NVM_STATUS] :=
  (State.sameRegs_of_regs (s.clearPage_regs p) _).trans ((s.clearPage p).unqueuePage_sameRegs p)

theorem State.unqueuePage_storeOnly (s : State) (p : Nat) : s.StoreOnly (s.unqueuePage p) := .ite rfl (.refl s)

theorem State.clearPage_storeOnly (s : State) (p : Nat) : s.StoreOnly (s.clearPage p) :=
  State.StoreOnly.foldl (fun t _ => t.clearGroup_storeOnly _) (List.range 16) s

theorem State.erasePage_storeOnly (s : State) (p : Nat) : s.StoreOnly (s.erasePage p) :=
  (s.clearPage_storeOnly p).trans ((s.clearPage p).unqueuePage_storeOnly p)

/-- The registers that a counter of the store writes as it counts. -/
def counterRegs (k : Nat) : List Nat := [R.NVM_CNT_LO k, R.NVM_CNT_HI k, R.NVM_STATUS]

theorem State.wearCounter_sameRegs (s : State) (k : Nat) : s.sameRegs (s.wearCounter k) (counterRegs k) :=
  State.sameRegs.ite (((s.sameRegs_refl _).setF (by simp [counterRegs]) _ _).raise _ _ _) (s.sameRegs_refl _)

theorem State.wearCounter_storeOnly (s : State) (k : Nat) : s.StoreOnly (s.wearCounter k) :=
  .ite ((s.setF_storeOnly _ _ _).trans (State.raise_storeOnly _ _ _ _)) (.refl s)

/-- A counter's page, programmed with its count and cleared behind it. -/
def State.programCounter (s : State) (k : Nat) : State :=
  let c := s.counter k
  let t := s.programGroup (16 * (128 + 8 * k + c.pos / 16 % 8) + c.pos % 16) (leBytes 5 c.work ++ [BitVec.ofNat 8 k, 0#8, 0#8])
  if c.pos % 16 = 0 then t.erasePage (128 + 8 * k + (c.pos / 16 + 1) % 8) else t

theorem State.programCounter_sameRegs (s : State) (k : Nat) : s.sameRegs (s.programCounter k) (counterRegs k) := by
  have hprog (g : Nat) (b : List Byte) : s.sameRegs (s.programGroup g b) (counterRegs k) :=
    State.sameRegs_of_regs (s.programGroup_regs g b) _
  exact ((hprog _ _).trans ((State.erasePage_sameRegs _ _).mono (by simp [counterRegs]))).ite (hprog _ _)

theorem State.programCounter_storeOnly (s : State) (k : Nat) : s.StoreOnly (s.programCounter k) :=
  .ite ((s.programGroup_storeOnly _ _).trans (State.erasePage_storeOnly _ _)) (s.programGroup_storeOnly _ _)

theorem State.commitCounter_eq (s : State) (k : Nat) (flush : Bool) :
    ∃ r : CntRt, s.commitCounter k flush = ((s.programCounter k).setCounter k r).wearCounter k := ⟨_, rfl⟩

theorem State.commitCounter_sameRegs (s : State) (k : Nat) (flush : Bool) : s.sameRegs (s.commitCounter k flush) (counterRegs k) := by
  obtain ⟨r, h⟩ := s.commitCounter_eq k flush
  rw [h]
  exact State.sameRegs.trans (t := (s.programCounter k).setCounter k r) (s.programCounter_sameRegs k) (State.wearCounter_sameRegs _ k)

theorem State.commitCounter_storeOnly (s : State) (k : Nat) (flush : Bool) : s.StoreOnly (s.commitCounter k flush) := by
  obtain ⟨r, h⟩ := s.commitCounter_eq k flush
  rw [h]
  exact ((s.programCounter_storeOnly k).trans (State.setCounter_storeOnly _ _ _)).trans (State.wearCounter_storeOnly _ k)

/-- A counter counted on, and committed where 64 counts have gathered. -/
def State.countOn (s : State) (k : Nat) : State :=
  let c := s.counter k
  let t := s.setCounter k { c with work := sat 40 (c.work + 1) }
  if sat 40 (c.work + 1) ≥ c.committed + 64 then t.commitCounter k false else t

theorem State.countOn_sameRegs (s : State) (k : Nat) : s.sameRegs (s.countOn k) (counterRegs k) :=
  State.sameRegs.ite (State.sameRegs.trans (t := s.setCounter k _) (fun _ _ => rfl) (State.commitCounter_sameRegs _ k false))
    (fun _ _ => rfl)

theorem State.countOn_storeOnly (s : State) (k : Nat) : s.StoreOnly (s.countOn k) :=
  .ite ((s.setCounter_storeOnly k _).trans (State.commitCounter_storeOnly _ k false)) (s.setCounter_storeOnly k _)

theorem State.incCounter_eq (s : State) (k : Nat) : s.incCounter k = ((s.countOn k).wearCounter k).showCounter k := rfl

theorem State.incCounter_sameRegs (s : State) (k : Nat) : s.sameRegs (s.incCounter k) (counterRegs k) := by
  rw [s.incCounter_eq]
  exact (((s.countOn_sameRegs k).trans (State.wearCounter_sameRegs _ k)).wrN (by simp [counterRegs]) _).setF (by simp [counterRegs]) _ _

theorem State.incCounter_storeOnly (s : State) (k : Nat) : s.StoreOnly (s.incCounter k) := by
  rw [s.incCounter_eq]
  exact ((s.countOn_storeOnly k).trans (State.wearCounter_storeOnly _ k)).trans
    ((State.wrN_storeOnly _ _ _).trans (State.setF_storeOnly _ _ _ _))

theorem State.incCounter_plan (s : State) (k : Nat) : (s.incCounter k).plan = s.plan := (s.incCounter_storeOnly k).plan

/-! The figures of the Plan table. -/

/-- The registers that show the use of the Plan table. -/
def planRegs : List Nat := R.DRILL_STATUS :: [0, 1, 2, 3, 4, 5].map R.COORD_STATUS

theorem State.showBusy_sameRegs (s : State) : s.sameRegs s.showBusy planRegs := by
  refine (s.sameRegs_refl _).each _ fun n hn u => ?_
  have hst : R.COORD_STATUS n ∈ planRegs := List.mem_cons_of_mem _ (List.mem_map_of_mem hn)
  have hset := (u.sameRegs_refl planRegs).setF hst F.COORD_STATUS_BUSY (boolNat (u.unitNamed n))
  exact ((hset.setF hst _ _).setCoord n _).ite hset

theorem State.showBusy_plan (s : State) : s.showBusy.plan = s.plan := by
  refine State.each_keeps (f := State.plan) (fun n u => ?_) _ s
  simp only [apply_ite State.plan]
  simp

theorem State.planShown_sameRegs (s : State) : s.sameRegs s.planShown planRegs :=
  ((s.sameRegs_refl planRegs).setF List.mem_cons_self _ _).trans (State.showBusy_sameRegs _)

theorem State.planShown_plan (s : State) : s.planShown.plan = s.plan := (State.showBusy_plan _).trans rfl

theorem State.releaseClaims_frame (s : State) (p : Slot) : s.releaseClaims p =
    { s with releasedA := (s.releaseClaims p).releasedA, releasedB := (s.releaseClaims p).releasedB } := by
  unfold State.releaseClaims
  split
  · rfl
  · rfl

end Sys2Proof.Machine
end

section
/-! The endings of an order give its slot back (R85, R95, R96). -/

namespace Sys2Proof.Machine

/-- An ending with its breach counted, where its status is that of a breach. -/
def State.breachTold (s : State) (k : Nat) (p : Slot) (status code : Nat) : State :=
  if status = 0x30 then
    ((s.wrN R.DRILL_CNT_BREACH (s.rdN R.DRILL_CNT_BREACH + 1)).bbBreach (domainOf p.src) (s.breachBody k p code)).incCounter 2
  else s

theorem State.breachTold_plan (s : State) (k : Nat) (p : Slot) (status code : Nat) : (s.breachTold k p status code).plan = s.plan := by
  simp only [State.breachTold, apply_ite State.plan, State.incCounter_plan]
  simp [State.bbBreach]

theorem State.breachTold_count (s : State) (k : Nat) (p : Slot) (status code : Nat) :
    (s.breachTold k p status code).rdN R.DRILL_CNT_BREACH =
      (s.rdN R.DRILL_CNT_BREACH + if status = 0x30 then 1 else 0) % 2 ^ 32 := by
  unfold State.breachTold
  split
  · rw [State.rdN, State.incCounter_sameRegs _ 2 _ (by decide)]
    exact State.rdN_wrN_same _ _ _
  · exact (Nat.mod_eq_of_lt (s.rd R.DRILL_CNT_BREACH).isLt).symm

theorem State.endSlot_eq (s : State) (k : Nat) (p : Slot) (status code : Nat) : ∃ (b : List Byte) (w : Bool),
    s.endSlot k p status code = (({ (s.complete p.src b w).breachTold k p status code with
      plan := tabErase ((s.complete p.src b w).breachTold k p status code).plan k }).releaseClaims p).planShown := ⟨_, _, rfl⟩

/-- An ending takes the order out of the Plan table, and leaves every other. -/
theorem State.endSlot_plan (s : State) (k : Nat) (p : Slot) (status code : Nat) :
    (s.endSlot k p status code).plan = tabErase s.plan k := by
  obtain ⟨b, w, h⟩ := s.endSlot_eq k p status code
  rw [h, State.planShown_plan, State.releaseClaims_frame, State.breachTold_plan, State.complete_plan]

/-- An ending counts a breach where its status is 0x30. -/
theorem State.endSlot_breach (s : State) (k : Nat) (p : Slot) (status code : Nat) :
    (s.endSlot k p status code).rdN R.DRILL_CNT_BREACH = (s.rdN R.DRILL_CNT_BREACH + if status = 0x30 then 1 else 0) % 2 ^ 32 := by
  obtain ⟨b, w, h⟩ := s.endSlot_eq k p status code
  rw [h, State.rdN, State.planShown_sameRegs _ _ (by decide), State.releaseClaims_frame]
  refine ((s.complete p.src b w).breachTold_count k p status code).trans ?_
  rw [State.rdN, State.complete_sameRegs _ _ _ _ _ (cplRegs_above (by decide) (by decide)), ← State.rdN]

/-- The slot is free, the others are as they were, and so many breaches have been counted. -/
def State.Freed (s u : State) (k breach : Nat) : Prop :=
  slotAt u k = none ∧ (∀ j, j ≠ k → slotAt u j = slotAt s j) ∧ u.rdN R.DRILL_CNT_BREACH = (s.rdN R.DRILL_CNT_BREACH + breach) % 2 ^ 32

theorem State.endSlot_freed (s : State) (k : Nat) (p : Slot) (status code : Nat) :
    s.Freed (s.endSlot k p status code) k (if status = 0x30 then 1 else 0) := by
  refine ⟨?_, fun j hj => ?_, s.endSlot_breach k p status code⟩
  · rw [slotAt, s.endSlot_plan, tabFind_erase_same]
  · rw [slotAt, s.endSlot_plan, tabFind_erase_other _ hj, slotAt]

theorem State.breachSlot_freed (s : State) (k : Nat) {p : Slot} (code : Nat) (h : p.order.cls ≠ 2) : s.Freed (s.breachSlot k p code) k 1 := by
  rw [State.breachSlot, if_neg h]
  exact s.endSlot_freed k p 0x30 code

theorem State.withSlot_of_some {s : State} {k : Nat} {p : Slot} (h : slotAt s k = some p) (g : Slot → State → State) :
    s.withSlot k g = g p s := by rw [State.withSlot, h]

theorem State.endEnergy_freed {s : State} {k : Nat} {p : Slot} (h : slotAt s k = some p) (he : s.energyReached p = true) :
    s.Freed (s.endEnergy k) k 0 := by
  rw [State.endEnergy, State.withSlot_of_some h, if_pos he]
  exact s.endSlot_freed k p 0x00 0

/-- A held t_out that has passed ends a RESERVE, and an order that has not become active, without a breach. -/
theorem State.endTout_freed {s : State} {k : Nat} {p : Slot} (h : slotAt s k = some p) (hu : p.order.unit < 4) (ht : p.tOut < s.us)
    (ho : p.order.op = opReserve ∨ p.active = false) : s.Freed (s.endTout k) k 0 := by
  rw [State.endTout, State.withSlot_of_some h]
  dsimp only
  rw [if_neg (by omega)]
  split
  · exact s.endSlot_freed k p 0x00 0
  · next hop =>
    rw [if_pos (by simp [ho.resolve_left hop])]
    exact s.endSlot_freed k p 0x31 0

/-- A held t_out that has passed is a breach of any other active order. -/
theorem State.endTout_breached {s : State} {k : Nat} {p : Slot} (h : slotAt s k = some p) (hu : p.order.unit < 4) (ht : p.tOut < s.us)
    (ho : p.order.op ≠ opReserve) (ha : p.active = true) (hc : p.order.cls ≠ 2) : s.Freed (s.endTout k) k 1 := by
  rw [State.endTout, State.withSlot_of_some h]
  dsimp only
  rw [if_neg (by omega), if_neg ho, if_neg (by simp [ha])]
  exact s.breachSlot_freed k 0x0008 hc

theorem State.endBound_freed {s : State} {k : Nat} {p : Slot} (h : slotAt s k = some p) (ht : s.absTime p.order.tBound < s.us)
    (ho : p.order.op ≠ opChargeBy ∨ p.active = false) : s.Freed (s.endBound k) k 0 := by
  rw [State.endBound, State.withSlot_of_some h]
  dsimp only
  rw [if_neg (by omega)]
  split
  · exact s.endSlot_freed k p 0x00 0
  split
  · exact s.endSlot_freed k p 0x31 0
  next ha =>
  split
  · exact s.endSlot_freed k p 0x00 0
  rw [if_neg (ho.resolve_right fun hf => ha (by simp [hf]))]
  exact s.endSlot_freed k p 0x21 0

theorem State.endDeadline_freed {s : State} {k : Nat} {p : Slot} (h : slotAt s k = some p) (ho : p.order.op = opChargeBy)
    (ht : s.absTime p.order.wEnd < s.us) (he : s.eRem (p.order.target - 8) < p.order.energy) (hc : p.order.cls ≠ 2) :
    s.Freed (s.endDeadline k) k 1 := by
  rw [State.endDeadline, State.withSlot_of_some h]
  dsimp only
  rw [if_pos ⟨ho, ht, he⟩]
  exact s.breachSlot_freed k 0x000A hc

theorem State.endVolt_freed {s : State} {k : Nat} {p : Slot} (h : slotAt s k = some p) (ha : p.active = true) (hc : p.order.cls < 2)
    (ho : p.order.op = opDeliver ∨ p.order.op = opHold) (hb : 3 ≤ p.bad) : s.Freed (s.endVolt k) k 1 := by
  rw [State.endVolt, State.withSlot_of_some h, if_pos ⟨ha, hc, ho, hb⟩]
  exact s.breachSlot_freed k 0x0007 (by omega)

/-- Settles O22: each ending is `endSlot`, which takes its slot out of the Plan table and counts a breach where its status is 0x30. -/
theorem ordersEndAndFreeTheirSlots : Obligations.OrdersEndAndFreeTheirSlots := by
  intro s k p hl hk freed
  exact ⟨fun he => ⟨s.endEnergy k, exec_powered (g := (·.endEnergy k)) hl rfl, State.endEnergy_freed hk he⟩,
    fun hu ht ho => ⟨s.endTout k, exec_powered (g := (·.endTout k)) hl rfl, State.endTout_freed hk hu ht ho⟩,
    fun hu ht ho ha hc => ⟨s.endTout k, exec_powered (g := (·.endTout k)) hl rfl, State.endTout_breached hk hu ht ho ha hc⟩,
    fun ht ho => ⟨s.endBound k, exec_powered (g := (·.endBound k)) hl rfl, State.endBound_freed hk ht ho⟩,
    fun ho ht he hc => ⟨s.endDeadline k, exec_powered (g := (·.endDeadline k)) hl rfl, State.endDeadline_freed hk ho ht he hc⟩,
    fun ha hc ho hb => ⟨s.endVolt k, exec_powered (g := (·.endVolt k)) hl rfl, State.endVolt_freed hk ha hc ho hb⟩⟩

end Sys2Proof.Machine
end

section
/-! A cause that has ended, supplies and switches: what they write (R24, R144, R377). -/

namespace Sys2Proof.Machine

/-! A commit of the fabric or of a profile ends a cause whose faults stop no stage. -/

theorem State.passOn_frame {id inst : Nat} (hu : ∀ t : State, t.unitStages id inst = []) (s : State) :
    ∃ hrw : Tab HrwInst, s.passOn id inst = { s with hrw := hrw } := by
  unfold State.passOn
  dsimp only
  split
  · exact ⟨s.hrw, rfl⟩
  split
  · exact ⟨_, rfl⟩
  split
  · exact ⟨_, rfl⟩
  · rw [State.lockUnit, hu]
    exact ⟨_, rfl⟩

/-- The end of a cause whose faults concern no stage changes instances alone. -/
theorem State.causeGone_frame {id inst : Nat} (hu : ∀ t : State, t.unitStages id inst = []) (s : State) :
    ∃ hrw : Tab HrwInst, s.causeGone id inst = { s with hrw := hrw } := by
  unfold State.causeGone
  dsimp only
  split
  · exact ⟨_, rfl⟩
  · obtain ⟨hrw, h⟩ := State.passOn_frame hu (s.setHrw id inst
      { s.hrwInst id inst with cause := (s.hrwInst id inst).cause && !lastingIds.contains id && (s.hrwInst id inst).tick == s.tick })
    exact ⟨hrw, h⟩

/-! Supplies. -/

/-- The register that shows the state of a supply. -/
def supReg (x : Nat) : Nat := if x < 3 then R.INPUT_STATUS x else R.PORT_STATUS (x - 3)

theorem State.setSupState_sameRegs (s : State) (x st : Nat) : s.sameRegs (s.setSupState x st) [supReg x] := by
  unfold State.setSupState supReg
  split
  · exact State.sameRegs.setF (State.sameRegs.ite (s.sameRegs_refl _) ((s.sameRegs_refl _).noteIdle _)) List.mem_cons_self _ _
  · exact (s.sameRegs_refl _).setF List.mem_cons_self _ _

theorem State.noteIdle_frame (s : State) (src : IdleSrc) : s.noteIdle src = { s with sys := (s.noteIdle src).sys } := by
  unfold State.noteIdle
  split
  · rfl
  · rfl

/-- A supply's new state is one of the registers, and wakes an IDLE block at most. -/
theorem State.setSupState_frame (s : State) (x st : Nat) : s.setSupState x st =
    { s with regs := (s.setSupState x st).regs, sys := (s.setSupState x st).sys } := by
  unfold State.setSupState
  split
  · split
    · rfl
    · rw [s.noteIdle_frame]
      rfl
  · rfl

theorem State.startQualify_sameRegs (s : State) (x : Nat) : s.sameRegs (s.startQualify x) [supReg x] :=
  State.sameRegs.ite (s.setSupState_sameRegs x supQualify) (s.sameRegs_refl _)

theorem State.startQualify_frame (s : State) (x : Nat) : s.startQualify x = { s with
    regs := (s.startQualify x).regs, sys := (s.startQualify x).sys, supplies := (s.startQualify x).supplies } := by
  unfold State.startQualify
  split
  · rw [s.setSupState_frame]
    rfl
  · rfl

/-! Path switches of the egress configuration. -/

theorem State.openSwitch_sameRegs (s : State) (w : Nat) : s.sameRegs (s.openSwitch w) [R.PSW_STATUS w] :=
  have ho := List.mem_cons_self
  (((s.sameRegs_refl _).setF ho _ _).setF ho _ _).setF ho _ _

theorem State.closeSwitch_sameRegs (s : State) (w : Nat) : s.sameRegs (s.closeSwitch w) [R.PSW_STATUS w] := by
  have ho := List.mem_cons_self (a := R.PSW_STATUS w) (l := [])
  unfold State.closeSwitch
  split
  · exact s.sameRegs_refl _
  · exact ((s.sameRegs_refl _).setF ho _ _).setF ho _ _

theorem State.openSwitch_fab (s : State) (w : Nat) : (s.openSwitch w).fab = s.fab := rfl

theorem State.closeSwitch_fab (s : State) (w : Nat) : (s.closeSwitch w).fab = s.fab := by
  unfold State.closeSwitch
  split
  · rfl
  · rfl

/-- The registers of the path switches. -/
def pswRegs : List Nat := (List.range 12).map R.PSW_STATUS

theorem single_subset {a : Nat} {l : List Nat} (h : a ∈ l) : [a] ⊆ l := List.cons_subset.2 ⟨h, List.nil_subset _⟩

theorem State.egressOpen_sameRegs (s : State) : s.sameRegs s.egressOpen pswRegs := by
  refine (s.sameRegs_refl _).each _ fun w hw u => ?_
  have hmem : [R.PSW_STATUS w] ⊆ pswRegs := single_subset (List.mem_map_of_mem hw)
  exact (State.sameRegs.ite (t := u.setPsw w _) (fun _ _ => rfl) (u.sameRegs_refl _)).ite ((u.openSwitch_sameRegs w).mono hmem)

theorem State.egressClose_sameRegs (s : State) : s.sameRegs s.egressClose pswRegs := by
  refine (s.sameRegs_refl _).each _ fun w hw u => ?_
  have hmem : [R.PSW_STATUS w] ⊆ pswRegs := single_subset (List.mem_map_of_mem hw)
  exact ((u.closeSwitch_sameRegs w).mono hmem).ite (u.sameRegs_refl _)

theorem State.egressOpen_fab (s : State) : s.egressOpen.fab = s.fab := by
  refine State.each_keeps (f := State.fab) (fun w u => ?_) _ s
  simp only [apply_ite State.fab, State.openSwitch_fab, State.setPsw_fab, ite_self]

theorem State.egressClose_fab (s : State) : s.egressClose.fab = s.fab := by
  refine State.each_keeps (f := State.fab) (fun w u => ?_) _ s
  simp only [apply_ite State.fab, State.closeSwitch_fab, ite_self]

theorem State.startIdent_sameRegs (s : State) (n : Nat) : s.sameRegs (s.startIdent n) [R.STAGE_STATUS n] :=
  State.sameRegs.ite ((s.sameRegs_refl _).setF List.mem_cons_self _ _) (s.sameRegs_refl _)

theorem State.startIdent_fab (s : State) (n : Nat) : (s.startIdent n).fab = s.fab := by
  unfold State.startIdent
  split
  · rfl
  · rfl

end Sys2Proof.Machine
end

section
/-! Commits of a fabric description and of a charge profile (R27, R28, R176, R177). -/

namespace Sys2Proof.Machine

/-! The fabric: a commit. -/

/-- The copy that a commit takes, and every stage held off. -/
def State.heldOff (s : State) : State :=
  State.each { s with fabCheck := some s.fabCopy } (List.range 8) (fun n s => s.stopStage n stOff)

theorem State.commitFabric_of_free {s : State} (h1 : s.fabState ≠ 1) (h2 : s.fabState = 2 → s.plan = [] ∧ s.anyRuns = false) :
    s.commitFabric = s.heldOff.setF R.FAB_STATUS F.FAB_STATUS_STATE 1 := by
  unfold State.commitFabric
  dsimp only
  rw [if_neg h1, if_neg ?_]
  · rfl
  · rintro ⟨hv, hbusy⟩
    obtain ⟨hp, hr⟩ := h2 hv
    simp [hp, hr] at hbusy

theorem State.stopStage_fab (s : State) (n st : Nat) : (s.stopStage n st).fab = s.fab ∧ (s.stopStage n st).fabCheck = s.fabCheck := ⟨rfl, rfl⟩

theorem State.heldOff_fab (s : State) : s.heldOff.fab = s.fab := by
  rw [State.heldOff, State.each_keeps (f := State.fab) fun n u => (u.stopStage_fab n stOff).1]

theorem State.heldOff_fabCheck (s : State) : s.heldOff.fabCheck = some s.fabCopy := by
  rw [State.heldOff, State.each_keeps (f := State.fabCheck) fun n u => (u.stopStage_fab n stOff).2]

theorem State.stopStage_stageState_other (s : State) {n : Fin 8} {k st : Nat} (h : k ≠ n.val) :
    (s.stopStage k st).stageState n = s.stageState n :=
  (s.stopStage_sameRegs k st).f _ (by
    simp only [stopRegs, R.STAGE_STATUS, R.STAGE_DUTY, R.STAGE_IL, R.STG_ADC_LOAD, List.mem_cons, List.not_mem_nil, or_false]
    omega) _

theorem State.heldOff_stageState (s : State) (n : Fin 8) : s.heldOff.stageState n = stOff := by
  rw [State.heldOff]
  exact State.each_at (P := fun u => u.stageState n = stOff) (Q := fun _ => True) (g := fun n s => s.stopStage n stOff) (List.mem_range.2 n.isLt) List.nodup_range
    (fun u _ => u.stopStage_stageState n (by decide))
    (fun _ hk u => ⟨id, fun hu => (u.stopStage_stageState_other hk).trans hu⟩) trivial

/-! The fabric: the end of its check. -/

theorem State.setFab_sameRegs (s : State) (st err idx : Nat) : s.sameRegs (s.setFab st err idx) [R.FAB_STATUS] :=
  have ho := List.mem_cons_self
  (((s.sameRegs_refl _).setF ho _ _).setF ho _ _).setF ho _ _

theorem State.setFab_state (s : State) {st : Nat} (err idx : Nat) (h : st < 4) : (s.setFab st err idx).fabState = st := by
  rw [State.setFab, State.fabState, State.f_setF_field _ _ (by decide) (by decide) (.inl (by decide)),
    State.f_setF_field _ _ (by decide) (by decide) (.inl (by decide)), State.f_setF_same _ _ _ _ (by decide)]
  exact Nat.mod_eq_of_lt h

theorem State.setFab_err (s : State) (st err idx : Nat) :
    (s.setFab st err idx).f R.FAB_STATUS F.FAB_STATUS_ERR = err % 2 ^ F.FAB_STATUS_ERR.w := by
  rw [State.setFab, State.f_setF_field _ _ (by decide) (by decide) (.inl (by decide)), State.f_setF_same _ _ _ _ (by decide)]

/-- A description in force: VALID, one generation on. -/
def State.fabInForce (s : State) (t : Tab Word) : State :=
  let u := { s with fab := some t, fabCheck := none }
  (u.setFab 2 0 0).setF R.FAB_STATUS F.FAB_STATUS_GEN (u.f R.FAB_STATUS F.FAB_STATUS_GEN + 1)

theorem State.fabInForce_spec (s : State) (t : Tab Word) : (s.fabInForce t).fabState = 2 ∧
    (s.fabInForce t).f R.FAB_STATUS F.FAB_STATUS_ERR = 0 ∧ (s.fabInForce t).fab = some t := by
  refine ⟨?_, ?_, rfl⟩
  · rw [State.fabInForce, State.fabState, State.f_setF_field _ _ (by decide) (by decide) (.inl (by decide))]
    exact State.setFab_state _ 0 0 (by decide)
  · rw [State.fabInForce, State.f_setF_field _ _ (by decide) (by decide) (.inl (by decide)), State.setFab_err]
    rfl

/-- What a description that comes into force lets start: identification, the egress configuration and the supplies. -/
def State.fabStarts (s : State) : State :=
  let s := (s.causeGone 0x60 0).each (List.range 8) (fun n s => s.startIdent n)
  let s := if s.safeOn then (s.egressOpen).egressClose else s
  s.each s.supOrder (fun x s => s.startQualify x)

theorem State.finishFabric_of_good {s : State} {t : Tab Word} (h1 : s.fabState = 1) (hc : s.fabCheck = some t)
    (hv : fabVerdict t = none) : s.finishFabric = (s.fabInForce t).fabStarts := by
  unfold State.finishFabric
  rw [if_neg (not_not.2 h1)]
  simp only [hc, Option.getD_some, hv]
  rfl

/-- A description refused with its error. -/
def State.fabRefused (s : State) (e k : Nat) : State := State.setFab { s with fabCheck := none } 3 e k

theorem State.fabRefused_spec (s : State) (e k : Nat) : (s.fabRefused e k).fabState = 3 ∧
    (s.fabRefused e k).f R.FAB_STATUS F.FAB_STATUS_ERR = e % 2 ^ F.FAB_STATUS_ERR.w ∧ (s.fabRefused e k).fab = s.fab ∧
    (s.fabRefused e k).raised = s.raised := by
  rw [State.fabRefused]
  exact ⟨State.setFab_state _ e k (by decide), State.setFab_err _ 3 e k, rfl, rfl⟩

theorem State.finishFabric_of_bad {s : State} {t : Tab Word} {e k : Nat} (h1 : s.fabState = 1) (hc : s.fabCheck = some t)
    (hv : fabVerdict t = some (e, k)) :
    s.finishFabric = (s.fabRefused e k).raise 0x60 0 (faultRec e k) := by
  unfold State.finishFabric
  rw [if_neg (not_not.2 h1)]
  simp only [hc, Option.getD_some, hv]
  rfl

/-- The registers that the start of stages, switches and supplies may write. -/
def startRegs : List Nat := (List.range 8).map R.STAGE_STATUS ++ pswRegs ++ (List.range 6).map supReg

theorem fabStatus_not_mem_startRegs : R.FAB_STATUS ∉ startRegs := by decide

theorem supOrder_lt {s : State} {x : Nat} (h : x ∈ s.supOrder) : x < 6 := by
  obtain ⟨p, -, hx⟩ := List.mem_flatMap.1 h
  have hlist : ∀ y ∈ [3, 4, 5, 0, 1, 2], y < 6 := by decide
  exact hlist x (List.mem_filter.1 hx).1

theorem State.fabStarts_sameRegs (s : State) : s.sameRegs s.fabStarts startRegs := by
  have hpsw : pswRegs ⊆ startRegs := fun _ h => List.mem_append_left _ (List.mem_append_right _ h)
  have hgone : s.sameRegs (s.causeGone 0x60 0) startRegs := by
    obtain ⟨hrw, h⟩ := State.causeGone_frame (id := 0x60) (inst := 0) (fun _ => rfl) s
    rw [h]
    exact fun _ _ => rfl
  have hident := hgone.each (List.range 8) (g := fun n s => s.startIdent n) fun n hn u => (u.startIdent_sameRegs n).mono
    (single_subset (List.mem_append_left _ (List.mem_append_left _ (List.mem_map_of_mem hn))))
  have hegress (u : State) : u.sameRegs (if u.safeOn then u.egressOpen.egressClose else u) startRegs :=
    (((u.egressOpen_sameRegs.trans (State.egressClose_sameRegs _)).mono hpsw)).ite (u.sameRegs_refl _)
  exact State.sameRegs.each (hident.trans (hegress _)) _ fun x hx u => (u.startQualify_sameRegs x).mono
    (single_subset (List.mem_append_right _ (List.mem_map_of_mem (List.mem_range.2 (supOrder_lt hx)))))

theorem State.fabStarts_fab (s : State) : s.fabStarts.fab = s.fab := by
  have hgone : (s.causeGone 0x60 0).fab = s.fab := by
    obtain ⟨hrw, h⟩ := State.causeGone_frame (id := 0x60) (inst := 0) (fun _ => rfl) s
    rw [h]
  have hsup (u : State) (l : List Nat) : (u.each l (fun x s => s.startQualify x)).fab = u.fab :=
    State.each_keeps (f := State.fab) (fun x t => by rw [t.startQualify_frame]) _ _
  have hident (u : State) : (u.each (List.range 8) (fun n s => s.startIdent n)).fab = u.fab :=
    State.each_keeps (f := State.fab) (fun n t => t.startIdent_fab n) _ _
  simp only [State.fabStarts, hsup, apply_ite State.fab, State.egressClose_fab, State.egressOpen_fab, hident, hgone, ite_self]

theorem State.fabStarts_f (s : State) (g : Fld) : s.fabStarts.f R.FAB_STATUS g = s.f R.FAB_STATUS g :=
  s.fabStarts_sameRegs.f _ fabStatus_not_mem_startRegs g

/-! A profile. -/

theorem State.commitProfile_of_busy {s : State} {i : Nat} (b : List Byte) (h : s.profBusy i = true) : s.commitProfile i b =
    (s.setF (R.PACK_PROFILE i) F.PACK_PROFILE_ERR 8).setF (R.PACK_PROFILE i) F.PACK_PROFILE_ERR_INDEX 0 := if_pos h

theorem State.commitProfile_of_free {s : State} {i : Nat} (b : List Byte) (h : s.profBusy i = false) : s.commitProfile i b =
    (s.setF (R.PACK_PROFILE i) F.PACK_PROFILE_STATE 3).setPack i { s.pack i with checking := b } :=
  if_neg (by simp [h])

theorem State.setProfState_spec (s : State) (i : Nat) {st err : Nat} (idx : Nat) (hst : st < 4) :
    (s.setProfState i st err idx).f (R.PACK_PROFILE i) F.PACK_PROFILE_STATE = st ∧
    (s.setProfState i st err idx).f (R.PACK_PROFILE i) F.PACK_PROFILE_ERR = err % 16 ∧
    s.sameRegs (s.setProfState i st err idx) [R.PACK_PROFILE i] := by
  have ho := List.mem_cons_self (a := R.PACK_PROFILE i) (l := [])
  refine ⟨?_, ?_, (((s.sameRegs_refl _).setF ho _ _).setF ho _ _).setF ho _ _⟩
  · rw [State.setProfState, State.f_setF_field _ _ (by decide) (by decide) (.inl (by decide)),
      State.f_setF_field _ _ (by decide) (by decide) (.inl (by decide)), State.f_setF_same _ _ _ _ (by decide)]
    exact Nat.mod_eq_of_lt hst
  · rw [State.setProfState, State.f_setF_field _ _ (by decide) (by decide) (.inl (by decide)), State.f_setF_same _ _ _ _ (by decide)]
    rfl

end Sys2Proof.Machine
end

section
/-! The end of a profile's check: the phase machine starts anew, or the references are zero (R176, R177). -/

namespace Sys2Proof.Machine

/-- A register whose two halves are written with zero reads zero. -/
theorem putBits_halves_zero (r : Word) : putBits (putBits r 0 16 0) 16 16 0 = 0#32 := by
  refine BitVec.eq_of_getLsbD_eq fun i hi => ?_
  rw [putBits_getLsbD (by decide) hi, BitVec.getLsbD_zero]
  split
  · exact Nat.zero_testBit _
  · rw [putBits_getLsbD (by decide) hi, if_pos (by omega), Nat.zero_testBit]

section
variable (s : State) (i : Nat)

/-- The registers of a pack that a phase which starts anew writes. -/
def phaseRegs : List Nat := [R.PACK_CHG_TIMER i, R.PACK_CHG_STATUS i, R.PACK_CHG_TERM i]

/-- A phase's record and timer, cleared. -/
def State.phaseZero : State :=
  ((s.setPack i { s.pack i with dwells := [0, 0, 0, 0, 0], runHs := 0, effHs := 0, phaseSec := 0, pauseWant := false }).wrN
    (R.PACK_CHG_TIMER i) 0).setF (R.PACK_CHG_STATUS i) F.PACK_CHG_STATUS_THERM 0

theorem State.clearPhase_eq : ∃ blank : Nat, s.clearPhase i = (((s.phaseZero i).setF (R.PACK_CHG_STATUS i)
    F.PACK_CHG_STATUS_THERM_SEEN 0).setF (R.PACK_CHG_STATUS i) F.PACK_CHG_STATUS_BLANK blank).setF
    (R.PACK_CHG_TERM i) F.PACK_CHG_TERM_V_PEAK 0 := ⟨_, rfl⟩

theorem State.clearPhase_sameRegs : s.sameRegs (s.clearPhase i) (phaseRegs i) := by
  obtain ⟨blank, h⟩ := s.clearPhase_eq i
  have hset (r : PackRt) : s.sameRegs (s.setPack i r) (phaseRegs i) := fun _ _ => rfl
  have hst : R.PACK_CHG_STATUS i ∈ phaseRegs i := by simp [phaseRegs]
  rw [h]
  exact (((((hset _).wrN (by simp [phaseRegs]) 0).setF hst _ _).setF hst _ _).setF hst _ _).setF (by simp [phaseRegs]) _ _

/-- A phase that starts anew keeps the fields of the status below THERM. -/
theorem State.clearPhase_status {g : Fld} (hg : g.lo + g.w ≤ 12) :
    (s.clearPhase i).f (R.PACK_CHG_STATUS i) g = s.f (R.PACK_CHG_STATUS i) g := by
  obtain ⟨blank, h⟩ := s.clearPhase_eq i
  have hlow {d : Fld} (hd : 12 ≤ d.lo) (hw : d.lo + d.w ≤ 32) (u : State) (v : Nat) :
      (u.setF (R.PACK_CHG_STATUS i) d v).f (R.PACK_CHG_STATUS i) g = u.f (R.PACK_CHG_STATUS i) g :=
    u.f_setF_field v hw (by omega) (.inl (by omega))
  have hterm : R.PACK_CHG_STATUS i ≠ R.PACK_CHG_TERM i := by simp only [R.PACK_CHG_STATUS, R.PACK_CHG_TERM]; omega
  have htimer : R.PACK_CHG_STATUS i ≠ R.PACK_CHG_TIMER i := by simp only [R.PACK_CHG_STATUS, R.PACK_CHG_TIMER]; omega
  rw [h, State.f_setF_reg _ _ _ _ hterm, hlow (by decide) (by decide), hlow (by decide) (by decide), State.phaseZero,
    hlow (by decide) (by decide)]
  exact State.f_wr_reg _ _ _ htimer

theorem State.phaseZero_pack : ((s.phaseZero i).pack i).prof = (s.pack i).prof ∧ ((s.phaseZero i).pack i).phaseSec = 0 := by
  rw [State.phaseZero, State.setF_pack_of, State.wrN_pack_of, State.pack_setPack]
  exact ⟨rfl, rfl⟩

theorem State.clearPhase_pack : ((s.clearPhase i).pack i).prof = (s.pack i).prof ∧ ((s.clearPhase i).pack i).phaseSec = 0 := by
  obtain ⟨blank, h⟩ := s.clearPhase_eq i
  rw [h, State.setF_pack_of, State.setF_pack_of, State.setF_pack_of]
  exact s.phaseZero_pack i


theorem State.secMark_sameRegs (l : List Nat) : s.sameRegs (s.secMark i) l := fun _ _ => rfl

theorem State.secMark_f (o : Nat) (g : Fld) : (s.secMark i).f o g = s.f o g := rfl

theorem State.secMark_pack : ((s.secMark i).pack i).prof = (s.pack i).prof ∧ ((s.secMark i).pack i).phaseSec = (s.pack i).phaseSec := by
  rw [State.secMark, State.pack_setPack]
  exact ⟨rfl, rfl⟩

theorem State.setChState_chState {st : Nat} (h : st < 8) : (s.setChState i st).chState i = st :=
  (s.f_setF_same _ _ _ (by decide)).trans (Nat.mod_eq_of_lt h)

/-- A charge function at rest is STOPPED, any other stays as it is. -/
def State.unrested : State := if s.chState i = chRest then s.setChState i chStopped else s

theorem State.unrested_sameRegs : s.sameRegs (s.unrested i) (phaseRegs i) :=
  State.sameRegs.ite ((s.sameRegs_refl _).setF (by simp [phaseRegs]) _ _) (s.sameRegs_refl _)

theorem State.unrested_packs : (s.unrested i).packs = s.packs := by
  unfold State.unrested
  split
  · rfl
  · rfl

theorem State.unrested_chState : (s.unrested i).chState i = if s.chState i = chRest then chStopped else s.chState i := by
  unfold State.unrested
  split
  · exact s.setChState_chState i (by decide)
  · rfl

theorem State.restartPhase_eq : s.restartPhase i =
    (((s.unrested i).setF (R.PACK_CHG_STATUS i) F.PACK_CHG_STATUS_PHASE 0).clearPhase i).secMark i := rfl

theorem State.restartPhase_sameRegs : s.sameRegs (s.restartPhase i) (phaseRegs i) := by
  rw [State.restartPhase_eq]
  exact (((s.unrested_sameRegs i).setF (by simp [phaseRegs]) _ _).trans (State.clearPhase_sameRegs _ i)).trans
    (State.secMark_sameRegs _ i _)

theorem State.restartPhase_phaseOf : (s.restartPhase i).phaseOf i = 0 := by
  rw [State.restartPhase_eq, State.phaseOf, State.secMark_f, State.clearPhase_status _ i (by decide), State.f_setF_same _ _ _ _ (by decide)]
  rfl

theorem State.restartPhase_chState : (s.restartPhase i).chState i = if s.chState i = chRest then chStopped else s.chState i := by
  rw [State.restartPhase_eq, ← s.unrested_chState i, State.chState, State.secMark_f, State.clearPhase_status _ i (by decide),
    State.f_setF_field _ _ (by decide) (by decide) (.inl (by decide)), ← State.chState]

theorem State.restartPhase_pack : ((s.restartPhase i).pack i).prof = (s.pack i).prof ∧ ((s.restartPhase i).pack i).phaseSec = 0 := by
  rw [State.restartPhase_eq]
  obtain ⟨hp, hz⟩ := State.secMark_pack (((s.unrested i).setF (R.PACK_CHG_STATUS i) F.PACK_CHG_STATUS_PHASE 0).clearPhase i) i
  obtain ⟨hp', hz'⟩ := State.clearPhase_pack ((s.unrested i).setF (R.PACK_CHG_STATUS i) F.PACK_CHG_STATUS_PHASE 0) i
  refine ⟨hp.trans (hp'.trans ?_), hz.trans hz'⟩
  rw [State.setF_pack_of, State.pack, State.unrested_packs, ← State.pack]

theorem State.showRefs_sameRegs : s.sameRegs (s.showRefs i) [R.PACK_CHG_SETPT i] :=
  have ho := List.mem_cons_self
  ((s.sameRegs_refl _).setF ho _ _).setF ho _ _

theorem State.showRefs_raised : (s.showRefs i).raised = s.raised := rfl

theorem State.showRefs_pack : (s.showRefs i).pack i = s.pack i := rfl

/-- The references of a pack without a VALID profile are zero. -/
theorem State.showRefs_zero (h : s.profValid i = false) : (s.showRefs i).rd (R.PACK_CHG_SETPT i) = 0#32 := by
  have hval : s.showRefs i = (s.setF (R.PACK_CHG_SETPT i) F.PACK_CHG_SETPT_V_SET 0).setF (R.PACK_CHG_SETPT i)
      F.PACK_CHG_SETPT_I_SET 0 := by
    simp [State.showRefs, h, sat]
  rw [hval, State.rd_setF_same, State.rd_setF_same]
  exact putBits_halves_zero _

/-! The verdict. -/

end

/-- A profile that comes into force. -/
def State.profTaken (s : State) (i : Nat) (b : List Byte) : State :=
  let t := (s.setProfState i 1 0 0).setPack i { s.pack i with prof := b, checking := [] }
  ((if t.chState i = chLocked then t else t.setChState i chStopped).restartPhase i).showRefs i

/-- A profile out of service. -/
def State.profRefused (s : State) (i e k : Nat) : State :=
  ((s.setProfState i 2 e k).setPack i { s.pack i with prof := [], checking := [] }).showRefs i

section
variable (s : State) (b : List Byte)

/-- A state with other instances and reports. -/
def State.reporting (s : State) (hrw : Tab HrwInst) (faults : List Raised) : State := { s with hrw := hrw, raised := faults }

theorem State.reporting_of (s : State) (hrw : Tab HrwInst) (faults : List Raised) (i : Nat) :
    (s.reporting hrw faults).profValid i = s.profValid i ∧ (s.reporting hrw faults).pack i = s.pack i ∧
    (s.reporting hrw faults).phaseOf i = s.phaseOf i ∧ (s.reporting hrw faults).chState i = s.chState i := ⟨rfl, rfl, rfl, rfl⟩

/-- A good image comes into force; a chemistry other than the pack's is reported besides. -/
theorem State.finishProfile_of_good {i : Nat} (h : s.profCheck i b = none) :
    ∃ (hrw : Tab HrwInst) (faults : List Raised), s.finishProfile i b = (s.profTaken i b).reporting hrw faults := by
  obtain ⟨hrw, hgone⟩ := State.causeGone_frame (id := 0x53) (inst := i) (fun _ => rfl) (s.profTaken i b)
  have heq : s.finishProfile i b = (fun t : State => if t.chemClash i then
      t.raise 0x42 i (faultRec (t.f (R.PACK_LINK_STATUS i) F.PACK_LINK_STATUS_CHEM) (leAt b 6 1)) else t)
        ((s.profTaken i b).causeGone 0x53 i) := by
    simp only [State.finishProfile, h]
    rfl
  rw [heq, hgone]
  dsimp only
  split
  · exact ⟨hrw, _, rfl⟩
  · exact ⟨hrw, _, rfl⟩

theorem State.finishProfile_of_bad {i e k : Nat} (h : s.profCheck i b = some (e, k)) :
    s.finishProfile i b = (s.profRefused i e k).raise 0x53 i (faultRec e k) := by
  simp only [State.finishProfile, h]
  rfl

end

/-- A pack's profile, taken, and its charge function stopped where it is not locked. -/
def State.profStopped (s : State) (i : Nat) (b : List Byte) : State :=
  let t := (s.setProfState i 1 0 0).setPack i { s.pack i with prof := b, checking := [] }
  if t.chState i = chLocked then t else t.setChState i chStopped

section
variable (s : State) (b : List Byte)

theorem State.profTaken_eq (i : Nat) : s.profTaken i b = ((s.profStopped i b).restartPhase i).showRefs i := rfl

theorem chargeStatus_ne (i : Nat) : R.PACK_CHG_STATUS i ∉ [R.PACK_PROFILE i] ∧ R.PACK_CHG_STATUS i ∉ [R.PACK_CHG_SETPT i] := by
  simp only [R.PACK_CHG_STATUS, R.PACK_PROFILE, R.PACK_CHG_SETPT, List.mem_singleton]
  omega

theorem profileReg_ne (i : Nat) : R.PACK_PROFILE i ∉ [R.PACK_CHG_STATUS i] ∧ R.PACK_PROFILE i ∉ phaseRegs i ∧
    R.PACK_PROFILE i ∉ [R.PACK_CHG_SETPT i] := by
  simp only [phaseRegs, R.PACK_PROFILE, R.PACK_CHG_TIMER, R.PACK_CHG_STATUS, R.PACK_CHG_TERM, R.PACK_CHG_SETPT, List.mem_cons,
    List.not_mem_nil, or_false]
  omega

theorem State.profStopped_profValid (i : Nat) : (s.profStopped i b).f (R.PACK_PROFILE i) F.PACK_PROFILE_STATE = 1 := by
  obtain ⟨hst, -, -⟩ := s.setProfState_spec i (st := 1) (err := 0) 0 (by decide)
  unfold State.profStopped
  dsimp only
  split
  · exact hst
  · exact (State.f_setF_reg _ _ _ _ (fun h => (profileReg_ne i).1 (List.mem_singleton.2 h))).trans hst

theorem State.profStopped_pack (i : Nat) : ((s.profStopped i b).pack i).prof = b := by
  unfold State.profStopped
  dsimp only
  split
  · rw [State.pack_setPack]
  · rw [State.setChState, State.setF_pack_of, State.pack_setPack]

theorem State.profStopped_chState (i : Nat) (h : s.chState i ≠ chLocked) : (s.profStopped i b).chState i = chStopped := by
  obtain ⟨-, -, hregs⟩ := s.setProfState_spec i (st := 1) (err := 0) 0 (by decide)
  have hch : ((s.setProfState i 1 0 0).setPack i { s.pack i with prof := b, checking := [] }).chState i = s.chState i :=
    hregs.f _ (chargeStatus_ne i).1 _
  unfold State.profStopped
  dsimp only
  rw [if_neg (hch ▸ h), State.setChState_chState _ _ (by decide)]

theorem State.showRefs_chargeStatus (i : Nat) (g : Fld) : (s.showRefs i).f (R.PACK_CHG_STATUS i) g = s.f (R.PACK_CHG_STATUS i) g :=
  (s.showRefs_sameRegs i).f _ (chargeStatus_ne i).2 g

theorem State.showRefs_profile (i : Nat) (g : Fld) : (s.showRefs i).f (R.PACK_PROFILE i) g = s.f (R.PACK_PROFILE i) g :=
  (s.showRefs_sameRegs i).f _ (profileReg_ne i).2.2 g

theorem State.restartPhase_profile (i : Nat) (g : Fld) : (s.restartPhase i).f (R.PACK_PROFILE i) g = s.f (R.PACK_PROFILE i) g :=
  (s.restartPhase_sameRegs i).f _ (profileReg_ne i).2.1 g

theorem State.profTaken_spec (i : Nat) : (s.profTaken i b).profValid i = true ∧ ((s.profTaken i b).pack i).prof = b ∧
    (s.profTaken i b).phaseOf i = 0 ∧ (s.chState i ≠ chLocked → (s.profTaken i b).chState i = chStopped) := by
  rw [s.profTaken_eq]
  refine ⟨?_, ?_, ?_, fun h => ?_⟩
  · rw [State.profValid, State.showRefs_profile, State.restartPhase_profile, s.profStopped_profValid]
    rfl
  · rw [State.showRefs_pack, (State.restartPhase_pack _ i).1, s.profStopped_pack]
  · rw [State.phaseOf, State.showRefs_chargeStatus, ← State.phaseOf, State.restartPhase_phaseOf]
  · rw [State.chState, State.showRefs_chargeStatus, ← State.chState, State.restartPhase_chState, s.profStopped_chState b i h]
    rfl

/-- A profile marked INVALID. -/
def State.profInvalid (s : State) (i e k : Nat) : State := (s.setProfState i 2 e k).setPack i { s.pack i with prof := [], checking := [] }

theorem State.profRefused_eq (i e k : Nat) : s.profRefused i e k = (s.profInvalid i e k).showRefs i := rfl

theorem State.profInvalid_spec (i e k : Nat) : (s.profInvalid i e k).f (R.PACK_PROFILE i) F.PACK_PROFILE_STATE = 2 ∧
    (s.profInvalid i e k).f (R.PACK_PROFILE i) F.PACK_PROFILE_ERR = e % 16 ∧ ((s.profInvalid i e k).pack i).prof = [] ∧
    (s.profInvalid i e k).raised = s.raised := by
  obtain ⟨hst, herr, -⟩ := s.setProfState_spec i (st := 2) (err := e) k (by decide)
  refine ⟨hst, herr, ?_, rfl⟩
  rw [State.profInvalid, State.pack_setPack]

theorem State.profRefused_spec (i e k : Nat) : (s.profRefused i e k).f (R.PACK_PROFILE i) F.PACK_PROFILE_STATE = 2 ∧
    (s.profRefused i e k).f (R.PACK_PROFILE i) F.PACK_PROFILE_ERR = e % 16 ∧ ((s.profRefused i e k).pack i).prof = [] ∧
    (s.profRefused i e k).rd (R.PACK_CHG_SETPT i) = 0#32 ∧ (s.profRefused i e k).raised = s.raised := by
  obtain ⟨hst, herr, hprof, hraised⟩ := s.profInvalid_spec i e k
  rw [s.profRefused_eq]
  refine ⟨?_, ?_, ?_, State.showRefs_zero _ i ?_, ?_⟩
  · rw [State.showRefs_profile, hst]
  · rw [State.showRefs_profile, herr]
  · rw [State.showRefs_pack, hprof]
  · rw [State.profValid, hst]
    rfl
  · rw [State.showRefs_raised, hraised]

/-- A check under way keeps the copy of the image. -/
def State.profChecking (s : State) (i : Nat) (b : List Byte) : State :=
  (s.setF (R.PACK_PROFILE i) F.PACK_PROFILE_STATE 3).setPack i { s.pack i with checking := b }

theorem State.profChecking_spec (i : Nat) : (s.profChecking i b).f (R.PACK_PROFILE i) F.PACK_PROFILE_STATE = 3 ∧
    ((s.profChecking i b).pack i).checking = b ∧ s.sameRegs (s.profChecking i b) [R.PACK_PROFILE i] ∧
    (s.profChecking i b).raised = s.raised := by
  refine ⟨s.f_setF_same _ _ _ (by decide), ?_, (s.sameRegs_refl _).setF List.mem_cons_self _ _, rfl⟩
  rw [State.profChecking, State.pack_setPack]

/-- The refusal of a commit on a pack that charges. -/
def State.profRefusedBusy (s : State) (i : Nat) : State :=
  (s.setF (R.PACK_PROFILE i) F.PACK_PROFILE_ERR 8).setF (R.PACK_PROFILE i) F.PACK_PROFILE_ERR_INDEX 0

theorem State.profRefusedBusy_spec (i : Nat) : (s.profRefusedBusy i).f (R.PACK_PROFILE i) F.PACK_PROFILE_ERR = 8 ∧
    (s.profRefusedBusy i).f (R.PACK_PROFILE i) F.PACK_PROFILE_STATE = s.f (R.PACK_PROFILE i) F.PACK_PROFILE_STATE := by
  constructor
  · rw [State.profRefusedBusy, State.f_setF_field _ _ (by decide) (by decide) (.inl (by decide)), State.f_setF_same _ _ _ _ (by decide)]
    rfl
  · rw [State.profRefusedBusy, State.f_setF_field _ _ (by decide) (by decide) (.inl (by decide)),
      State.f_setF_field _ _ (by decide) (by decide) (.inl (by decide))]

end

/-! The commands. -/

theorem exec_fabCommit_of_other {p : Path} {s : State} (hl : s.live) (hp : p ≠ .headland) :
    exec (.fabCommit p) s = .next (s.hwDenied p R.FAB_CTRL 1#32).settle :=
  (exec_powered (g := fun s => if p = .headland then s.commitFabric else s.hwDenied p R.FAB_CTRL 1#32) hl rfl).trans
    (congrArg (fun t : State => Host.Outcome.next t.settle) (if_neg hp))

theorem State.hwDenied_fabCtrl {s : State} {p : Path} (hr : s.raised = []) (hp : p ≠ .headland) (h0 : s.rd R.FAB_CTRL = 0#32) :
    s.onlyRegs (s.hwDenied p R.FAB_CTRL 1#32) [] [faultOf 0xB0 (pathNo p) (leBytes 4 R.FAB_CTRL)] := by
  have hmask : ¬ (0#32 ^^^ 1#32) &&& accMask R.FAB_CTRL [.hw] = 0#32 := by decide +kernel
  rw [State.hwDenied, h0, if_neg (fun h => h.elim hp hmask)]
  exact (State.onlyRegs_refl hr []).raise _ _ _

theorem exec_profileCommit (p : Path) (i : Fin 4) {s : State} (hl : s.live) :
    exec (.profileCommit p i) s = .next (s.commitProfile i (s.profWindow i)).settle :=
  exec_powered (g := fun s => s.commitProfile i (s.profWindow i)) hl rfl

theorem exec_profileCommit_of_free {p : Path} {i : Fin 4} {s : State} (hl : s.live) (hb : s.profBusy i = false) :
    exec (.profileCommit p i) s = .next (s.profChecking i (s.profWindow i)) := by
  obtain ⟨-, -, -, hr⟩ := s.profChecking_spec (s.profWindow i) i
  rw [exec_profileCommit p i hl, State.commitProfile_of_free _ hb]
  exact congrArg Host.Outcome.next (State.settle_quiet (hr.trans hl.2))

theorem exec_profileCommit_of_busy {p : Path} {i : Fin 4} {s : State} (hl : s.live) (hb : s.profBusy i = true) :
    exec (.profileCommit p i) s = .next (s.profRefusedBusy i) := by
  rw [exec_profileCommit p i hl, State.commitProfile_of_busy _ hb]
  exact congrArg Host.Outcome.next (State.settle_quiet hl.2)

theorem exec_profileCheckDone_of_checking {s : State} {i : Fin 4} (hl : s.live)
    (h : s.f (R.PACK_PROFILE i) F.PACK_PROFILE_STATE = 3) :
    exec (.profileCheckDone i) s = .next (s.finishProfile i (s.pack i).checking).settle :=
  (exec_powered (g := fun s => if s.f (R.PACK_PROFILE i) F.PACK_PROFILE_STATE = 3 then s.finishProfile i (s.pack i).checking else s)
    hl rfl).trans (congrArg (fun t : State => Host.Outcome.next t.settle) (if_pos h))

/-- A commit of Headland's on a fabric that is free. -/
def State.fabChecking (s : State) : State := s.heldOff.setF R.FAB_STATUS F.FAB_STATUS_STATE 1

theorem State.fabChecking_spec (s : State) : s.fabChecking.fabState = 1 ∧ s.fabChecking.fabCheck = some s.fabCopy ∧
    s.fabChecking.fab = s.fab ∧ ∀ n : Fin 8, s.fabChecking.stageState n = stOff := by
  refine ⟨?_, ?_, ?_, fun n => ?_⟩
  · rw [State.fabChecking, State.fabState, State.f_setF_same _ _ _ _ (by decide)]
    rfl
  · rw [State.fabChecking, State.setF_fabCheck, State.heldOff_fabCheck]
  · rw [State.fabChecking, State.setF_fab, State.heldOff_fab]
  · rw [State.fabChecking, State.stageState, State.f_setF_reg _ _ _ _ (by simp only [R.STAGE_STATUS, R.FAB_STATUS]; omega),
      ← State.stageState, State.heldOff_stageState]

theorem exec_fabCommit_of_free {s : State} (hl : s.live) (h1 : s.fabState ≠ 1) (h2 : s.fabState = 2 → s.plan = [] ∧ s.anyRuns = false) :
    exec (.fabCommit .headland) s = .next s.fabChecking.settle := by
  rw [State.fabChecking, ← State.commitFabric_of_free h1 h2]
  exact exec_powered (g := State.commitFabric) hl rfl

theorem exec_fabricCheckDone {s : State} (hl : s.live) : exec .fabricCheckDone s = .next s.finishFabric.settle :=
  exec_powered (g := State.finishFabric) hl rfl

/-- Settles O24: by the verdict of each check; what a good description then starts writes neither FAB_STATUS nor the description. -/
theorem fabricAndProfileCommitsCheckACopy : Obligations.FabricAndProfileCommitsCheckACopy := by
  refine ⟨fun s hl => ⟨fun h1 h2 => ?_, fun p hp => ?_, fun t h1 hc => ⟨fun hv => ?_, fun e k hv => ?_⟩⟩, fun s i p hl =>
    ⟨fun hb => ?_, fun hb => ?_, fun h3 => ⟨fun hv => ?_, fun e k hv => ?_⟩⟩⟩
  · exact ⟨_, exec_fabCommit_of_free hl h1 h2, s.fabChecking_spec⟩
  · exact ⟨_, exec_fabCommit_of_other hl hp, State.hwDenied_fabCtrl hl.2 hp⟩
  · obtain ⟨hst, herr, hfab⟩ := s.fabInForce_spec t
    refine ⟨_, exec_fabricCheckDone hl, ?_⟩
    rw [State.finishFabric_of_good h1 hc hv, State.fabState, State.fabStarts_f, State.fabStarts_f, State.fabStarts_fab, ← State.fabState]
    exact ⟨hst, hfab, herr⟩
  · obtain ⟨hst, herr, hfab, hr⟩ := s.fabRefused_spec e k
    refine ⟨_, exec_fabricCheckDone hl, ?_⟩
    rw [State.finishFabric_of_bad h1 hc hv, State.fabState, State.raise_f_of, State.raise_f_of, State.raise_fab, State.raise_raised, hr, hl.2,
      List.nil_append, faultOf, ← State.fabState]
    exact ⟨hst, herr, hfab, rfl⟩
  · obtain ⟨hst, hcopy, hregs, -⟩ := s.profChecking_spec (s.profWindow i) i
    exact ⟨_, exec_profileCommit_of_free hl hb, hst, hcopy, hregs⟩
  · obtain ⟨herr, hst⟩ := s.profRefusedBusy_spec i
    have ho := List.mem_cons_self (a := R.PACK_PROFILE i) (l := [])
    exact ⟨_, exec_profileCommit_of_busy hl hb, herr, hst, ((State.onlyRegs_refl hl.2 _).setF ho _ _).setF ho _ _⟩
  · obtain ⟨hrw, faults, h⟩ := s.finishProfile_of_good (i := i) (s.pack i).checking hv
    obtain ⟨hv', hp, hph, hch⟩ := (s.profTaken i (s.pack i).checking).reporting_of hrw faults i
    refine ⟨_, exec_profileCheckDone_of_checking hl h3, ?_⟩
    rw [h, hv', hp, hph, hch]
    exact s.profTaken_spec (s.pack i).checking i
  · obtain ⟨hst, herr, hprof, hset, hr⟩ := s.profRefused_spec i e k
    refine ⟨_, exec_profileCheckDone_of_checking hl h3, ?_⟩
    rw [State.finishProfile_of_bad _ _ hv, State.raise_f_of, State.raise_f_of, State.raise_pack_of, State.raise_rd_of, State.raise_raised, hr,
      hl.2, List.nil_append, faultOf]
    exact ⟨hst, herr, hprof, hset, rfl⟩

end Sys2Proof.Machine
end

section
/-! The hand-over of a rail, and a switch that is forced open: what they write (R156, R327). -/

namespace Sys2Proof.Machine

/-- A relation of states that a loop's steps keep holds from its begin to its end. -/
theorem foldl_rel {α : Type} {R : State → State → Prop} (hrefl : ∀ u, R u u) (htrans : ∀ {t u v}, R t u → R u v → R t v)
    {g : State → α → State} (hg : ∀ u a, R u (g u a)) (l : List α) (s : State) : R s (l.foldl g s) := by
  induction l generalizing s with
  | nil => exact hrefl s
  | cons a l ih => exact htrans (hg s a) (ih _)

/-- `t` differs from `s` in the ceilings of stages and in the records of the stages alone. -/
def State.CeilOnly (s t : State) : Prop :=
  t = { s with regs := t.regs, stages := t.stages } ∧ ∀ o, (∀ m, o ≠ R.STAGE_CEIL m) → t.rd o = s.rd o

theorem State.CeilOnly.refl (s : State) : s.CeilOnly s := ⟨rfl, fun _ _ => rfl⟩

theorem State.CeilOnly.trans {s t u : State} (h : s.CeilOnly t) (h' : t.CeilOnly u) : s.CeilOnly u :=
  ⟨by rw [h'.1, h.1], fun o ho => (h'.2 o ho).trans (h.2 o ho)⟩

theorem State.CeilOnly.raised {s t : State} (h : s.CeilOnly t) : t.raised = s.raised := by rw [h.1]

theorem State.setStage_ceilOnly (s : State) (n : Nat) (r : StageRt) : s.CeilOnly (s.setStage n r) := ⟨rfl, fun _ _ => rfl⟩

theorem State.wrN_ceilOnly (s : State) (n v : Nat) : s.CeilOnly (s.wrN (R.STAGE_CEIL n) v) :=
  ⟨rfl, fun _ ho => State.rd_wrN_other _ _ (ho n)⟩

theorem State.setRank_ceilOnly (s : State) (n rank weight : Nat) : s.CeilOnly (s.setRank n rank weight) := s.setStage_ceilOnly n _

theorem State.rankPacks_ceilOnly (s : State) (r base : Nat) (ceil : Nat → Nat → Nat) : s.CeilOnly (s.rankPacks r base ceil) := by
  unfold State.rankPacks
  dsimp only
  split
  · refine foldl_rel State.CeilOnly.refl State.CeilOnly.trans (fun u x => ?_) _ s
    split
    · exact .refl u
    · exact u.setRank_ceilOnly _ _ _
  · refine foldl_rel State.CeilOnly.refl State.CeilOnly.trans (fun u x => ?_) _ s
    split
    · exact .refl u
    · exact u.setRank_ceilOnly _ _ _

theorem State.fillHand_ceilOnly (s : State) (r : Nat) : s.CeilOnly (s.fillHand r) := by
  unfold State.fillHand
  dsimp only
  refine State.CeilOnly.trans (foldl_rel State.CeilOnly.refl State.CeilOnly.trans (fun u i => ?_) _ s) (State.rankPacks_ceilOnly _ _ _ _)
  split
  · exact .refl u
  · exact (u.setStage_ceilOnly _ _).trans (State.wrN_ceilOnly _ _ _)

theorem State.refillHands_ceilOnly (s : State) : s.CeilOnly s.refillHands := by
  refine foldl_rel State.CeilOnly.refl State.CeilOnly.trans (fun u r => ?_) _ s
  dsimp only
  split
  · exact u.fillHand_ceilOnly r
  · exact .refl u

theorem State.forceOpen_eq (s : State) (w : Nat) : ∃ (r : PswRt) (code : Nat),
    s.forceOpen w = (((s.openSwitch w).setPsw w r).refillHands).trigReval code := ⟨_, _, rfl⟩

theorem State.forceOpen_raised (s : State) (w : Nat) : (s.forceOpen w).raised = s.raised := by
  obtain ⟨r, code, h⟩ := s.forceOpen_eq w
  rw [h, State.trigReval_raised, (State.refillHands_ceilOnly _).raised, State.setPsw_raised, State.openSwitch_raised]

theorem State.openSwitch_pswClosed (s : State) (w : Nat) : (s.openSwitch w).pswClosed w = false := by
  rw [State.pswClosed, State.openSwitch, State.flag_setF_field _ _ (by decide) (by decide) (.inl (by decide)),
    State.flag_setF_field _ _ (by decide) (by decide) (.inl (by decide)), State.flag_setF_zero _ _ (by decide)]

theorem State.forceOpen_pswClosed (s : State) (w : Nat) (hw : w < 12) : (s.forceOpen w).pswClosed w = false := by
  obtain ⟨r, code, h⟩ := s.forceOpen_eq w
  have hdrill : R.PSW_STATUS w ∉ [R.DRILL_STATUS] := by simp only [R.PSW_STATUS, R.DRILL_STATUS, List.mem_singleton]; omega
  have hceil (m : Nat) : R.PSW_STATUS w ≠ R.STAGE_CEIL m := by simp only [R.PSW_STATUS, R.STAGE_CEIL]; omega
  rw [h, State.pswClosed, (State.trigReval_sameRegs _ code).flag _ hdrill, State.flag, State.f,
    (State.refillHands_ceilOnly _).2 _ hceil, State.setPsw_rd_of, ← State.f, ← State.flag, ← State.pswClosed,
    State.openSwitch_pswClosed]

end Sys2Proof.Machine
end

section
/-! The envelope comparators (R327). -/

namespace Sys2Proof.Machine

/-- A trip of one stage leaves the state of another. -/
theorem State.tripStage_stageState_other (s : State) {n : Fin 8} {k : Nat} (h : k ≠ n.val) : (s.tripStage k).stageState n = s.stageState n := by
  refine (s.tripStage_sameRegs k).f _ ?_ _
  simp only [stopRegs, R.DRILL_STATUS, R.STAGE_STATUS, R.STAGE_DUTY, R.STAGE_IL, R.STG_ADC_LOAD, List.mem_cons, List.not_mem_nil, or_false]
  omega

theorem State.tripStage_stageRuns_other (s : State) {n : Fin 8} {k : Nat} (h : k ≠ n.val) : (s.tripStage k).stageRuns n = s.stageRuns n := by
  rw [State.stageRuns, s.tripStage_stageState_other h, State.stageRuns]

theorem State.stagesRunInto_nodup (s : State) (node : Nat) : (s.stagesRunInto node).Nodup := List.nodup_range.filter _

/-- Every stage that runs into the node is TRIPPED. -/
theorem State.tripInto_stageState {s : State} {node : Nat} {n : Fin 8} (hn : n.val ∈ s.stagesRunInto node) (hr : s.stageRuns n = true) :
    (s.tripInto node).stageState n = stTripped := by
  rw [State.tripInto]
  refine State.each_at (P := fun u => u.stageState n = stTripped) (Q := fun u => u.stageRuns n = true) (g := fun n s => s.tripStage n) hn
    (s.stagesRunInto_nodup node) (fun u hu => State.tripStage_stageState hu) (fun k hk u => ⟨fun hu => ?_, fun hu => ?_⟩) hr
  · rw [u.tripStage_stageRuns_other hk, hu]
  · rw [u.tripStage_stageState_other hk, hu]

theorem State.tripInto_raised (s : State) (node : Nat) : (s.tripInto node).raised = s.raised :=
  State.each_keeps (f := State.raised) (fun n u => u.tripStage_raised n) _ _

theorem State.openSeries_raised (s : State) (node : Nat) : (s.openSeries node).raised = s.raised := by
  unfold State.openSeries
  split
  · exact s.forceOpen_raised _
  · rfl

theorem State.openSeries_pswClosed {s : State} {node : Nat} {w : Fin 12} (h : s.seriesOf node = some w.val) :
    (s.openSeries node).pswClosed w = false := by
  rw [State.openSeries, h]
  exact s.forceOpen_pswClosed w w.isLt

/-! The temperature check. -/

/-- A temperature check is due. -/
def State.envTempDue (s : State) (i : Nat) : Prop := ∀ c, (s.pack i).envTempAt = some c → c + 20000000 ≤ s.cyc

/-- The check noted with its time. -/
def State.envTimed (s : State) (i : Nat) : State := s.setPack i { s.pack i with envTempAt := some s.cyc }

/-- The record of fault 0x5B: the temperature, the boundary and which window. -/
def State.envTempRec (s : State) (i edge win : Nat) : List Byte :=
  leBytes 2 (s.f (R.PACK_TEMP i) F.PACK_TEMP_T_ZONE) ++ [0#8, 0#8] ++ leBytes 2 edge ++ [0#8, 0#8, BitVec.ofNat 8 win]

/-- What a check does that finds the temperature fault CLEAR. -/
def State.envTempCheck (s : State) (i : Nat) : State :=
  match s.tempBreak i true 0 with
  | some e => ((s.envTimed i).openSeries (8 + i)).raise 0x5B i (s.envTempRec i e 1)
  | none => match s.tempBreak i false 0 with
    | some e => ((s.envTimed i).tripInto (8 + i)).raise 0x5B i (s.envTempRec i e 0)
    | none => s.envTimed i

/-- A check that is due, in a pack whose temperature fault is CLEAR. -/
theorem exec_envelopePackTemp_of_due {s : State} {i : Fin 4} (hl : s.live) (hv : s.envValid = true) (hd : s.envTempDue i)
    (hc : (s.hrwInst 0x5B i).st = .clear) : exec (.envelopePackTemp i) s = .next (s.envTempCheck i).settle := by
  have hvalid (r : PackRt) : (s.setPack i r).envValid = true := hv
  have hclear (r : PackRt) : ((s.setPack i r).hrwInst 0x5B i).st = .clear := hc
  have hbreak (r : PackRt) (d : Bool) : (s.setPack i r).tempBreak i d 0 = s.tempBreak i d 0 := rfl
  rw [show exec (.envelopePackTemp i) s = execEnvelopePackTemp i s from rfl, execEnvelopePackTemp, State.act_on _ hl.1]
  refine congrArg (fun t : State => Host.Outcome.next t.settle) ?_
  rcases hat : (s.pack i).envTempAt with _ | c
  · simp only [if_true, hvalid, hclear, bne_self_eq_false, Bool.false_and, Bool.not_true, Bool.false_eq_true, not_true_eq_false,
      or_self, if_false, hbreak, State.envTempCheck]
    rcases s.tempBreak i true 0 with _ | e
    · rcases s.tempBreak i false 0 with _ | e <;> rfl
    · rfl
  · simp only [hd c hat, decide_true, if_true, hvalid, hclear, bne_self_eq_false, Bool.false_and, Bool.not_true, Bool.false_eq_true,
      not_true_eq_false, or_self, if_false, hbreak, State.envTempCheck]
    rcases s.tempBreak i true 0 with _ | e
    · rcases s.tempBreak i false 0 with _ | e <;> rfl
    · rfl

/-- A check that is not due does nothing. -/
theorem exec_envelopePackTemp_of_early {s : State} {i : Fin 4} {c : Nat} (hl : s.live) (h : (s.pack i).envTempAt = some c)
    (hc : s.cyc < c + 20000000) : exec (.envelopePackTemp i) s = .next s := by
  have hlt : ¬ c + 20000000 ≤ s.cyc := by omega
  rw [show exec (.envelopePackTemp i) s = execEnvelopePackTemp i s from rfl, execEnvelopePackTemp, State.act_on _ hl.1]
  simp only [h, hlt, decide_false, Bool.not_false, or_true, if_true, Bool.false_eq_true, if_false, State.settle_quiet hl.2]

/-! The commands. -/

section
variable {s : State} (hl : s.live) (i : Fin 4) (r : Fin 8)
include hl

theorem exec_envelopePackOv (mv : Nat) : exec (.envelopePackOv i mv) s = .next (if s.envValid = true ∧ s.envThr (80 + 32 * i.val) < mv then
    (s.tripInto (8 + i.val)).raise 0x58 i (faultRec mv (s.envThr (80 + 32 * i.val))) else s).settle := by
  rw [show exec (.envelopePackOv i mv) s = execEnvelopePackOv i mv s from rfl, execEnvelopePackOv, State.act_on _ hl.1]

theorem exec_envelopeRailOv (mv : Nat) : exec (.envelopeRailOv r mv) s = .next (if s.envValid = true ∧ s.envThr (208 + 8 * r.val) < mv then
    (s.tripInto r).raise 0x29 r (faultRec mv (s.envThr (208 + 8 * r.val))) else s).settle := by
  rw [show exec (.envelopeRailOv r mv) s = execEnvelopeRailOv r mv s from rfl, execEnvelopeRailOv, State.act_on _ hl.1]

theorem exec_envelopePackOc_charge {ma : Nat} (hv : s.envValid = true) (h : 11 * (10 * s.envThr (84 + 32 * i.val)) < 10 * ma) :
    exec (.envelopePackOc i ma) s =
      .next ((s.tripInto (8 + i.val)).raise 0x59 i (faultRec ma (10 * s.envThr (84 + 32 * i.val)))).settle := by
  rw [show exec (.envelopePackOc i ma) s = execEnvelopePackOc i ma s from rfl, execEnvelopePackOc, State.act_on _ hl.1]
  dsimp only
  rw [if_neg (by simp [hv]), if_pos (by omega), Int.natAbs_natCast]

theorem exec_envelopePackOc_discharge {ma : Nat} (hv : s.envValid = true) (h : 11 * (10 * s.envThr (86 + 32 * i.val)) < 10 * ma) :
    exec (.envelopePackOc i (-(ma : Int))) s =
      .next ((s.openSeries (8 + i.val)).raise 0x5A i (faultRec ma (10 * s.envThr (86 + 32 * i.val)))).settle := by
  rw [show exec (.envelopePackOc i (-(ma : Int))) s = execEnvelopePackOc i (-(ma : Int)) s from rfl, execEnvelopePackOc, State.act_on _ hl.1]
  dsimp only
  rw [if_neg (by simp [hv]), if_neg (by omega), if_pos (by omega), Int.natAbs_neg, Int.natAbs_natCast]

theorem exec_envThresholdMove_of_due (hm : s.sys.envMove = true) (ht : s.sys.envAt + 200000 ≤ s.cyc) : exec .envThresholdMove s =
    .next { s with sys := { s.sys with envMove := false }, fw := { s.fw with envOld := [] } } := by
  rw [show exec .envThresholdMove s = execEnvThresholdMove s from rfl, execEnvThresholdMove, State.act_on _ hl.1, if_pos ⟨hm, ht⟩]
  exact congrArg Host.Outcome.next (State.settle_quiet hl.2)

end

theorem State.envTimed_raised (s : State) (i : Nat) : (s.envTimed i).raised = s.raised := rfl

/-- Settles O51: a node is released by `tripInto`, its switch opened by `openSeries`; neither reports anything itself. -/
theorem envelopeComparatorsRelease : Obligations.EnvelopeComparatorsRelease := by
  intro s i r hl released opened chg dsg
  have hnil : s.raised = [] := hl.2
  refine ⟨fun hv => ⟨fun mv hmv => ?_, fun mv hmv => ?_, fun ma hma => ?_, fun ma hma => ?_, fun hd hc => ?_⟩, fun c hc hlt =>
    exec_envelopePackTemp_of_early hl hc hlt, fun mv hmv => ?_, fun mv hmv => ?_, fun hm ht => ?_⟩
  · have hexec := exec_envelopePackOv hl i mv
    rw [if_pos ⟨hv, hmv⟩] at hexec
    refine ⟨_, hexec, fun n hn hr => State.tripInto_stageState hn hr, ?_⟩
    rw [State.raise_raised, State.tripInto_raised, hnil, List.nil_append, faultOf]
  · have hexec := exec_envelopeRailOv hl r mv
    rw [if_pos ⟨hv, hmv⟩] at hexec
    refine ⟨_, hexec, fun n hn hr => State.tripInto_stageState hn hr, ?_⟩
    rw [State.raise_raised, State.tripInto_raised, hnil, List.nil_append, faultOf]
  · refine ⟨_, exec_envelopePackOc_charge hl i hv hma, fun n hn hr => State.tripInto_stageState hn hr, ?_⟩
    rw [State.raise_raised, State.tripInto_raised, hnil, List.nil_append, faultOf]
  · refine ⟨_, exec_envelopePackOc_discharge hl i hv hma, fun w hw => State.openSeries_pswClosed hw, ?_⟩
    rw [State.raise_raised, State.openSeries_raised, hnil, List.nil_append, faultOf]
  · have hexec := exec_envelopePackTemp_of_due hl hv hd hc
    refine ⟨fun e he => ?_, fun e hn he => ?_, fun hn hn' => ?_⟩
    · simp only [State.envTempCheck, he] at hexec
      refine ⟨_, hexec, fun w hw => State.openSeries_pswClosed (s := s.envTimed i) hw, ?_⟩
      rw [State.raise_raised, State.openSeries_raised, State.envTimed_raised, hnil, List.nil_append]
      rfl
    · simp only [State.envTempCheck, hn, he] at hexec
      refine ⟨_, hexec, fun n hn hr => State.tripInto_stageState (s := s.envTimed i) hn hr, ?_⟩
      rw [State.raise_raised, State.tripInto_raised, State.envTimed_raised, hnil, List.nil_append]
      rfl
    · simp only [State.envTempCheck, hn, hn'] at hexec
      exact ⟨_, hexec.trans (congrArg Host.Outcome.next (State.settle_quiet hnil)), fun _ _ => rfl⟩
  · rw [exec_envelopePackOv hl i mv, if_neg, State.settle_quiet hnil]
    rintro ⟨hv, hlt⟩
    rcases hmv with h | h
    · simp [hv] at h
    · omega
  · rw [exec_envelopeRailOv hl r mv, if_neg, State.settle_quiet hnil]
    rintro ⟨hv, hlt⟩
    rcases hmv with h | h
    · simp [hv] at h
    · omega
  · exact ⟨_, exec_envThresholdMove_of_due hl hm ht, fun _ _ => rfl, fun o => by rw [State.envThr, if_neg (by simp)]⟩

end Sys2Proof.Machine
end

section
/-! What the handling of faults changes (R373–R379): one lemma per operation, in the order in which they are built on each other. Every
operation below leaves the same parts of the state alone, and every register that none of them writes. -/

namespace Sys2Proof.Machine

/-- A register that the handling of faults may write: what it stops, opens, hands over, ends or counts shows there. -/
inductive FaultReg : Nat → Prop
  | bbStatus : FaultReg R.BB_STATUS
  | coordStatus (n : Nat) : FaultReg (R.COORD_STATUS n)
  | cplqStatus : FaultReg R.CPLQ_STATUS
  | drillCanStat (n : Nat) : FaultReg (R.DRILL_CAN_STAT n)
  | drillCntBreach : FaultReg R.DRILL_CNT_BREACH
  | drillStatus : FaultReg R.DRILL_STATUS
  | eventStatus : FaultReg R.EVENT_STATUS
  | hostGlbStatus : FaultReg R.HOST_GLB_STATUS
  | inputStatus (n : Nat) : FaultReg (R.INPUT_STATUS n)
  | nvmCntHi (n : Nat) : FaultReg (R.NVM_CNT_HI n)
  | nvmCntLo (n : Nat) : FaultReg (R.NVM_CNT_LO n)
  | nvmStatus : FaultReg R.NVM_STATUS
  | packChgSetpt (n : Nat) : FaultReg (R.PACK_CHG_SETPT n)
  | packChgStatus (n : Nat) : FaultReg (R.PACK_CHG_STATUS n)
  | packChgTerm (n : Nat) : FaultReg (R.PACK_CHG_TERM n)
  | packChgTimer (n : Nat) : FaultReg (R.PACK_CHG_TIMER n)
  | portCable (n : Nat) : FaultReg (R.PORT_CABLE n)
  | portCfg (n : Nat) : FaultReg (R.PORT_CFG n)
  | portContract (n : Nat) : FaultReg (R.PORT_CONTRACT n)
  | portRdo (n : Nat) : FaultReg (R.PORT_RDO n)
  | portStatus (n : Nat) : FaultReg (R.PORT_STATUS n)
  | portVbus (n : Nat) : FaultReg (R.PORT_VBUS n)
  | pswStatus (n : Nat) : FaultReg (R.PSW_STATUS n)
  | ringCnt (n : Nat) : FaultReg (R.RING_CNT n)
  | stageCeil (n : Nat) : FaultReg (R.STAGE_CEIL n)
  | stageDuty (n : Nat) : FaultReg (R.STAGE_DUTY n)
  | stageIl (n : Nat) : FaultReg (R.STAGE_IL n)
  | stageStatus (n : Nat) : FaultReg (R.STAGE_STATUS n)
  | stageVfloor (n : Nat) : FaultReg (R.STAGE_VFLOOR n)
  | stgAdcLoad : FaultReg R.STG_ADC_LOAD
  | supplyStatus (n : Nat) : FaultReg (R.SUPPLY_STATUS n)
  | supplyXferLastHi (n : Nat) : FaultReg (R.SUPPLY_XFER_LAST_HI n)
  | supplyXferLastLo (n : Nat) : FaultReg (R.SUPPLY_XFER_LAST_LO n)
  | ringStatus (n : Nat) : FaultReg (R.RING_STATUS n)
  | portLoad {o : Nat} (n : Nat) (h : o ∈ portRegs n) : FaultReg o

/-- The offsets of these registers. -/
theorem FaultReg.offset {o : Nat} (h : FaultReg o) : ∃ n : Nat, o = 0x802C ∨ o = 0x2008 + 0x100 * n ∨ o = 0x1190 ∨ o = 0xA108 + 0x10 * n
    ∨ o = 0xA010 ∨ o = 0xA000 ∨ o = 0x102C ∨ o = 0x1014 ∨ o = 0x5214 + 0x40 * n ∨ o = 0x8104 + 0x10 * n ∨ o = 0x8100 + 0x10 * n ∨ o =
    0x8000 ∨ o = 0x4014 + 0x400 * n ∨ o = 0x4010 + 0x400 * n ∨ o = 0x4024 + 0x400 * n ∨ o = 0x4018 + 0x400 * n ∨ o = 0x6060 + 0x200 * n ∨
    o = 0x6000 + 0x200 * n ∨ o = 0x6054 + 0x200 * n ∨ o = 0x6058 + 0x200 * n ∨ o = 0x6050 + 0x200 * n ∨ o = 0x605C + 0x200 * n ∨ o =
    0x510C + 0x10 * n ∨ o = 0x824 + 0x40 * n ∨ o = 0x305C + 0x200 * n ∨ o = 0x3054 + 0x200 * n ∨ o = 0x3058 + 0x200 * n ∨ o = 0x3050 +
    0x200 * n ∨ o = 0x3098 + 0x200 * n ∨ o = 0x3184 ∨ o = 0x5324 + 0x10 * n ∨ o = 0x532C + 0x10 * n ∨ o = 0x5328 + 0x10 * n ∨ o = 0x818 +
    0x40 * n ∨ (0x6000 + 0x200 * n ≤ o ∧ o < 0x6050 + 0x200 * n) := by
  cases h with
  | bbStatus => exact ⟨0, by simp [R.BB_STATUS]⟩
  | coordStatus n => exact ⟨n, by simp [R.COORD_STATUS]⟩
  | cplqStatus => exact ⟨0, by simp [R.CPLQ_STATUS]⟩
  | drillCanStat n => exact ⟨n, by simp [R.DRILL_CAN_STAT]⟩
  | drillCntBreach => exact ⟨0, by simp [R.DRILL_CNT_BREACH]⟩
  | drillStatus => exact ⟨0, by simp [R.DRILL_STATUS]⟩
  | eventStatus => exact ⟨0, by simp [R.EVENT_STATUS]⟩
  | hostGlbStatus => exact ⟨0, by simp [R.HOST_GLB_STATUS]⟩
  | inputStatus n => exact ⟨n, by simp [R.INPUT_STATUS]⟩
  | nvmCntHi n => exact ⟨n, by simp [R.NVM_CNT_HI]⟩
  | nvmCntLo n => exact ⟨n, by simp [R.NVM_CNT_LO]⟩
  | nvmStatus => exact ⟨0, by simp [R.NVM_STATUS]⟩
  | packChgSetpt n => exact ⟨n, by simp [R.PACK_CHG_SETPT]⟩
  | packChgStatus n => exact ⟨n, by simp [R.PACK_CHG_STATUS]⟩
  | packChgTerm n => exact ⟨n, by simp [R.PACK_CHG_TERM]⟩
  | packChgTimer n => exact ⟨n, by simp [R.PACK_CHG_TIMER]⟩
  | portCable n => exact ⟨n, by simp [R.PORT_CABLE]⟩
  | portCfg n => exact ⟨n, by simp [R.PORT_CFG]⟩
  | portContract n => exact ⟨n, by simp [R.PORT_CONTRACT]⟩
  | portRdo n => exact ⟨n, by simp [R.PORT_RDO]⟩
  | portStatus n => exact ⟨n, by simp [R.PORT_STATUS]⟩
  | portVbus n => exact ⟨n, by simp [R.PORT_VBUS]⟩
  | pswStatus n => exact ⟨n, by simp [R.PSW_STATUS]⟩
  | ringCnt n => exact ⟨n, by simp [R.RING_CNT]⟩
  | stageCeil n => exact ⟨n, by simp [R.STAGE_CEIL]⟩
  | stageDuty n => exact ⟨n, by simp [R.STAGE_DUTY]⟩
  | stageIl n => exact ⟨n, by simp [R.STAGE_IL]⟩
  | stageStatus n => exact ⟨n, by simp [R.STAGE_STATUS]⟩
  | stageVfloor n => exact ⟨n, by simp [R.STAGE_VFLOOR]⟩
  | stgAdcLoad => exact ⟨0, by simp [R.STG_ADC_LOAD]⟩
  | supplyStatus n => exact ⟨n, by simp [R.SUPPLY_STATUS]⟩
  | supplyXferLastHi n => exact ⟨n, by simp [R.SUPPLY_XFER_LAST_HI]⟩
  | supplyXferLastLo n => exact ⟨n, by simp [R.SUPPLY_XFER_LAST_LO]⟩
  | ringStatus n => exact ⟨n, by simp [R.RING_STATUS]⟩
  | portLoad n h =>
    refine ⟨n, ?_⟩
    simp only [portRegs, R.PORT_CFG, R.PORT_SNK_CFG, R.PORT_SRC_CFG, R.PORT_SRC_PDO, R.PORT_SNK_PDO, List.mem_append, List.mem_cons,
      List.not_mem_nil, or_false, List.mem_map, List.mem_range] at h
    rcases h with ((h | h | h) | ⟨k, hk, h⟩) | ⟨k, hk, h⟩
    all_goals omega

/-- `t` differs from `b` in what the handling of faults changes alone. -/
def State.FaultOnly (b t : State) : Prop :=
  t = { b with
    regs := t.regs, cycle := t.cycle, msixPend := t.msixPend, outbox := t.outbox, cplq := t.cplq, evLost := t.evLost,
    evLosing := t.evLosing, plan := t.plan, releasedA := t.releasedA, releasedB := t.releasedB, revalCause := t.revalCause,
    raised := t.raised, safeOn := t.safeOn, releasing := t.releasing, coords := t.coords, stages := t.stages, supplies := t.supplies,
    xfers := t.xfers, psws := t.psws, packs := t.packs, cans := t.cans, ports := t.ports, nvm := t.nvm, bb := t.bb, sys := t.sys } ∧
  ∀ o, ¬ FaultReg o → t.rd o = b.rd o

theorem hrwStatus_not_faultReg : ¬ FaultReg R.HRW_STATUS := by
  intro h
  obtain ⟨n, h⟩ := h.offset
  simp only [R.HRW_STATUS] at h
  omega

theorem State.FaultOnly.refl (s : State) : s.FaultOnly s := ⟨rfl, fun _ _ => rfl⟩

section
variable
    {cycle : CycleRt} {msixPend : Tab Word} {outbox : List Emit} {cplq : List HeldCpl} {evLost : Nat} {evLosing safeOn releasing : Bool}
    {plan : Tab Slot} {releasedA releasedB revalCause : List Nat} {raised : List Raised} {coords : Tab CoordRt} {stages : Tab StageRt}
    {supplies : Tab SupplyRt} {xfers : Tab XferRt} {psws : Tab PswRt} {packs : Tab PackRt} {cans : Tab CanRt} {ports : Tab PortRt}
    {nvm : NvmSt} {bb : BbSt} {sys : SysSt}

theorem State.FaultOnly.update {b s : State} (h : b.FaultOnly s) : b.FaultOnly { s with
      cycle := cycle, msixPend := msixPend, outbox := outbox, cplq := cplq, evLost := evLost, evLosing := evLosing, plan := plan,
      releasedA := releasedA, releasedB := releasedB, revalCause := revalCause, raised := raised, safeOn := safeOn,
      releasing := releasing, coords := coords, stages := stages, supplies := supplies, xfers := xfers, psws := psws, packs := packs,
      cans := cans, ports := ports, nvm := nvm, bb := bb, sys := sys } :=
  ⟨by rw [h.1], h.2⟩

end

theorem State.FaultOnly.ite {b s t : State} {c : Prop} [Decidable c] (hs : b.FaultOnly s) (ht : b.FaultOnly t) :
    b.FaultOnly (if c then s else t) := by
  split
  · exact hs
  · exact ht

theorem State.FaultOnly.foldl {α : Type} {b s : State} {g : State → α → State} {l : List α} (h : b.FaultOnly s)
    (hg : ∀ u a, b.FaultOnly u → b.FaultOnly (g u a)) : b.FaultOnly (l.foldl g s) := by
  induction l generalizing s with
  | nil => exact h
  | cons a l ih => exact ih (hg s a h)

theorem bindProp {p q : Prop} (h : p) (k : p → q) : q := k h

theorem State.FaultOnly.wr {b s : State} {off : Nat} {v : Word} (h : b.FaultOnly s) (hoff : FaultReg off) : b.FaultOnly (s.wr off v) :=
  ⟨by rw [State.wr, h.1], fun o ho => (State.rd_wr_other _ _ fun e : o = off => ho (e ▸ hoff)).trans (h.2 o ho)⟩

theorem State.FaultOnly.setF {b s : State} {off : Nat} {fld : Fld} {v : Nat} (h : b.FaultOnly s) (hoff : FaultReg off) :
    b.FaultOnly (s.setF off fld v) := h.wr hoff

theorem State.FaultOnly.setPsw {b s : State} {n : Nat} {r : PswRt} (h : b.FaultOnly s) : b.FaultOnly (s.setPsw n r) := h.update

theorem State.FaultOnly.closeSwitch {b s : State} {w : Nat} (h : b.FaultOnly s) : b.FaultOnly (s.closeSwitch w) :=
  State.FaultOnly.ite h (((h.setF (.pswStatus _)).setF (.pswStatus _)).setPsw)

theorem State.FaultOnly.each {b s : State} {ks : List Nat} {g : Nat → State → State} (h : b.FaultOnly s) (hg0 : ∀ x0 x1, b.FaultOnly x1 →
    b.FaultOnly (g x0 x1)) : b.FaultOnly (s.each ks g) :=
  h.foldl (fun _ _ h0 => hg0 _ _ h0)

theorem State.FaultOnly.egressClose {b s : State} (h : b.FaultOnly s) : b.FaultOnly s.egressClose :=
  h.each (fun _ _ h0 => State.FaultOnly.ite h0.closeSwitch h0)

theorem State.FaultOnly.setStageState {b s : State} {n st : Nat} (h : b.FaultOnly s) : b.FaultOnly (s.setStageState n st) :=
  h.setF (.stageStatus _)

theorem State.FaultOnly.lockUnit {b s : State} {id inst : Nat} (h : b.FaultOnly s) : b.FaultOnly (s.lockUnit id inst) :=
  h.foldl (fun _ _ h0 => State.FaultOnly.ite h0.setStageState h0)

theorem State.FaultOnly.setSupply {b s : State} {n : Nat} {r : SupplyRt} (h : b.FaultOnly s) : b.FaultOnly (s.setSupply n r) := h.update

theorem State.FaultOnly.wrN {b s : State} {off v : Nat} (h : b.FaultOnly s) (hoff : FaultReg off) : b.FaultOnly (s.wrN off v) :=
  h.wr hoff

theorem State.FaultOnly.noteIdle {b s : State} {src : IdleSrc} (h : b.FaultOnly s) : b.FaultOnly (s.noteIdle src) :=
  State.FaultOnly.ite h.update h

theorem State.FaultOnly.setSupState {b s : State} {x st : Nat} (h : b.FaultOnly s) : b.FaultOnly (s.setSupState x st) :=
  State.FaultOnly.ite ((State.FaultOnly.ite h h.noteIdle).setF (.inputStatus _)) (h.setF (.portStatus _))

theorem State.FaultOnly.setPS {b s : State} {n : Nat} {fld : Fld} {v : Nat} (h : b.FaultOnly s) : b.FaultOnly (s.setPS n fld v) :=
  h.setF (.portStatus _)

theorem State.FaultOnly.vconnOff {b s : State} {n : Nat} (h : b.FaultOnly s) : b.FaultOnly (s.vconnOff n) := h.setPS

theorem State.FaultOnly.loadReg {b s : State} {off : Nat} {v : Word} (h : b.FaultOnly s) (hoff : FaultReg off) :
    b.FaultOnly (s.loadReg off v) := h.wr hoff

theorem State.FaultOnly.loadRegs {b s : State} {data : List Byte} {rs : List Nat} {k : Nat} (h : b.FaultOnly s)
    (hrs : ∀ r ∈ rs, FaultReg r) : b.FaultOnly (s.loadRegs data rs k) := by
  induction rs generalizing s k with
  | nil => exact h
  | cons r rs ih =>
    exact State.FaultOnly.ite (ih (h.loadReg (hrs r List.mem_cons_self)) fun q hq => hrs q (List.mem_cons_of_mem r hq)) h

theorem State.FaultOnly.showArmed {b s : State} {n : Nat} (h : b.FaultOnly s) : b.FaultOnly (s.showArmed n) := h.setPS

theorem State.FaultOnly.setPort {b s : State} {n : Nat} {r : PortRt} (h : b.FaultOnly s) : b.FaultOnly (s.setPort n r) := h.update

theorem State.FaultOnly.setPortFloor {b s : State} {n mv : Nat} (h : b.FaultOnly s) : b.FaultOnly (s.setPortFloor n mv) :=
  h.foldl (fun _ _ h0 => h0.setF (.stageVfloor _))

theorem State.FaultOnly.startQualify {b s : State} {x : Nat} (h : b.FaultOnly s) : b.FaultOnly (s.startQualify x) :=
  State.FaultOnly.ite h.setSupState.setSupply h

theorem State.FaultOnly.implicitSupply {b s : State} {n : Nat} (h : b.FaultOnly s) : b.FaultOnly (s.implicitSupply n) :=
  h.setPort.setPortFloor.startQualify

theorem State.FaultOnly.startTimer {b s : State} {n : Nat} {t : PdTimer} (h : b.FaultOnly s) : b.FaultOnly (s.startTimer n t) :=
  h.setPort

theorem State.FaultOnly.setPe {b s : State} {n v : Nat} (h : b.FaultOnly s) : b.FaultOnly (s.setPe n v) := h.setPS

theorem State.FaultOnly.sinkStart {b s : State} {n : Nat} (h : b.FaultOnly s) : b.FaultOnly (s.sinkStart n) :=
  State.FaultOnly.ite h.startTimer.setPe h.setPe.implicitSupply

theorem State.FaultOnly.sourceStart {b s : State} {n : Nat} (h : b.FaultOnly s) : b.FaultOnly (s.sourceStart n) := h.setPort.setPe

theorem State.FaultOnly.noteOld {b s : State} {off : Nat} (h : b.FaultOnly s) : b.FaultOnly (s.noteOld off) := h.update

theorem State.FaultOnly.noteNew {b s : State} {off : Nat} {fld : Fld} {v : Nat} (h : b.FaultOnly s) : b.FaultOnly (s.noteNew off fld v) :=
  h.noteOld.update

theorem State.FaultOnly.bump {b s : State} {off : Nat} {fld : Fld} {k : Nat} (h : b.FaultOnly s) (hoff : FaultReg off) :
    b.FaultOnly (s.bump off fld k) := h.noteNew.setF hoff

theorem State.FaultOnly.raise {b s : State} {id inst : Nat} {record : List Byte} (h : b.FaultOnly s) : b.FaultOnly (s.raise id inst
    record) :=
  h.update

theorem State.FaultOnly.discardCan {b s : State} {n : Nat} {bytes : List Byte} (h : b.FaultOnly s) : b.FaultOnly (s.discardCan n bytes) :=
  ((h.bump (.drillCanStat _)).bump .cplqStatus).raise

theorem State.FaultOnly.setCan {b s : State} {n : Nat} {r : CanRt} (h : b.FaultOnly s) : b.FaultOnly (s.setCan n r) := h.update

theorem State.FaultOnly.discardCpl {b s : State} {p : Nat} {bytes : List Byte} (h : b.FaultOnly s) : b.FaultOnly (s.discardCpl p bytes) :=
  ((h.bump (.ringCnt _)).bump .cplqStatus).raise

theorem State.FaultOnly.hold {b s : State} {cpl : HeldCpl} (h : b.FaultOnly s) : b.FaultOnly (s.hold cpl) := h.update

theorem State.FaultOnly.complete {b s : State} {src : Nat} {bytes : List Byte} {worthy : Bool} (h : b.FaultOnly s) : b.FaultOnly
    (s.complete src bytes worthy) :=
  State.FaultOnly.ite (State.FaultOnly.ite (h.bump (.ringCnt _)) (State.FaultOnly.ite h.hold h.discardCpl)) (State.FaultOnly.ite h.setCan
      (State.FaultOnly.ite h.hold h.discardCan))

theorem State.FaultOnly.portEvent {b s : State} {n code detail : Nat} {data : List Byte} (h : b.FaultOnly s) : b.FaultOnly (s.portEvent n
    code detail data) :=
  State.FaultOnly.ite h.complete h

theorem State.FaultOnly.portWindows {b s : State} {n mv : Nat} (h : b.FaultOnly s) : b.FaultOnly (s.portWindows n mv) := h.setPort

theorem State.FaultOnly.showSupV {b s : State} {x mv : Nat} (h : b.FaultOnly s) : b.FaultOnly (s.showSupV x mv) :=
  State.FaultOnly.ite (h.setF (.inputStatus _)) (h.setF (.portVbus _))

theorem State.FaultOnly.setSupV {b s : State} {x mv : Nat} (h : b.FaultOnly s) : b.FaultOnly (s.setSupV x mv) :=
  bindProp h.showSupV fun h0 => (State.FaultOnly.ite h0 h0.portWindows).setSupply

theorem State.FaultOnly.attach {b s : State} {n : Nat} {o : AttachObs} (h : b.FaultOnly s) : b.FaultOnly (s.attach n o) :=
  bindProp h.setSupV.setPort.setPS.noteIdle.setPS.setPS.setPS.setPS.portEvent fun h5 => State.FaultOnly.ite h5.sourceStart h5.sinkStart

theorem State.FaultOnly.hwSet {b s : State} {off : Nat} {fld : Fld} {v : Nat} (h : b.FaultOnly s) (hoff : FaultReg off) :
    b.FaultOnly (s.hwSet off fld v) := h.noteNew.setF hoff

theorem State.FaultOnly.cfgRefused {b s : State} {n : Nat} (h : b.FaultOnly s) : b.FaultOnly (s.cfgRefused n) := h.hwSet (.portStatus _)

theorem State.FaultOnly.writePortCfg {b s : State} {n : Nat} {v : Word} {byHeadland : Bool} (h : b.FaultOnly s) : b.FaultOnly
    (s.writePortCfg n v byHeadland) := by
  simp only [State.writePortCfg]
  exact bindProp (h.wr (.portCfg _)) fun h0 => bindProp (State.FaultOnly.ite ((h0.setF (.portCfg _)).cfgRefused) h0) fun h1 => bindProp
      (State.FaultOnly.ite h1 h1.setPort) fun h2 => bindProp (State.FaultOnly.ite (bindProp h2.setPort fun h3 => (by
      split
      · exact State.FaultOnly.ite h3.attach h3.setPS
      · exact h3.setPS)) h2).showArmed fun h5 => State.FaultOnly.ite h5.cfgRefused h5

theorem State.FaultOnly.loadPort {b s : State} {n : Nat} {data : List Byte} (h : b.FaultOnly s) : b.FaultOnly (s.loadPort n data) :=
  State.FaultOnly.ite h (((h.loadRegs fun _ hr => .portLoad n hr).wr (.portCfg _)).writePortCfg)

theorem State.FaultOnly.enterUnattached {b s : State} {n : Nat} (h : b.FaultOnly s) : b.FaultOnly (s.enterUnattached n) :=
  bindProp h.noteIdle.setPS.setPS.setPort.loadPort.setPS.setPS.setPS.setPS.setPS.setPS.vconnOff fun h5 => (((State.FaultOnly.ite h5.setPS
      h5).wrN (.portCable _)).setSupState).setSupply

theorem State.FaultOnly.startIdent {b s : State} {n : Nat} (h : b.FaultOnly s) : b.FaultOnly (s.startIdent n) :=
  State.FaultOnly.ite h.setStageState h

theorem State.FaultOnly.supRecover {b s : State} {x : Nat} (h : b.FaultOnly s) : b.FaultOnly (s.supRecover x) :=
  State.FaultOnly.ite h.setSupState.startQualify h

theorem State.FaultOnly.freeSeries {b s : State} {i : Nat} (h : b.FaultOnly s) : b.FaultOnly (s.freeSeries i) := by
  simp only [State.freeSeries]
  split
  · exact State.FaultOnly.ite h h.setPsw
  · exact h

theorem State.FaultOnly.setChState {b s : State} {i st : Nat} (h : b.FaultOnly s) : b.FaultOnly (s.setChState i st) :=
  h.setF (.packChgStatus _)

theorem State.FaultOnly.setPack {b s : State} {i : Nat} {r : PackRt} (h : b.FaultOnly s) : b.FaultOnly (s.setPack i r) := h.update

theorem State.FaultOnly.clearPhase {b s : State} {i : Nat} (h : b.FaultOnly s) : b.FaultOnly (s.clearPhase i) :=
  ((((h.setPack.wrN (.packChgTimer _)).setF (.packChgStatus _)).setF (.packChgStatus _)).setF (.packChgStatus _)).setF (.packChgTerm _)

theorem State.FaultOnly.secMark {b s : State} {i : Nat} (h : b.FaultOnly s) : b.FaultOnly (s.secMark i) := h.setPack

theorem State.FaultOnly.restartPhase {b s : State} {i : Nat} (h : b.FaultOnly s) : b.FaultOnly (s.restartPhase i) :=
  (((State.FaultOnly.ite h.setChState h).setF (.packChgStatus _)).clearPhase).secMark

theorem State.FaultOnly.showRefs {b s : State} {i : Nat} (h : b.FaultOnly s) : b.FaultOnly (s.showRefs i) :=
  (h.setF (.packChgSetpt _)).setF (.packChgSetpt _)

theorem State.FaultOnly.unlockCharge {b s : State} {i : Nat} (h : b.FaultOnly s) : b.FaultOnly (s.unlockCharge i) :=
  State.FaultOnly.ite h.setChState.restartPhase.showRefs h

theorem State.FaultOnly.releaseUnit {b s : State} {id inst : Nat} {cpl : HrwInst} (h : b.FaultOnly s) : b.FaultOnly (s.releaseUnit id
    inst cpl) := by
  simp only [State.releaseUnit]
  exact bindProp (h.foldl (fun _ _ h0 => State.FaultOnly.ite h0.setStageState (State.FaultOnly.ite h0.setStageState h0))) fun h1 =>
      State.FaultOnly.ite h1.freeSeries.unlockCharge (State.FaultOnly.ite h1.unlockCharge (State.FaultOnly.ite h1.freeSeries
      (State.FaultOnly.ite h1.supRecover (State.FaultOnly.ite (bindProp (State.FaultOnly.ite h1 h1.setPsw) fun h2 => (by
      split
      · exact h2.supRecover
      · exact h2)) (State.FaultOnly.ite (h1.each (fun _ _ h3 => h3.startIdent)) (State.FaultOnly.ite (State.FaultOnly.ite
          h1.enterUnattached h1) h1))))))

theorem State.FaultOnly.emit {b s : State} {e : Emit} (h : b.FaultOnly s) : b.FaultOnly (s.emit e) := h.update

theorem State.FaultOnly.fireVec {b s : State} {v : Nat} (h : b.FaultOnly s) : b.FaultOnly (s.fireVec v) :=
  State.FaultOnly.ite (State.FaultOnly.ite h.update h.emit) h

theorem State.FaultOnly.setGlb {b s : State} {k : Nat} (h : b.FaultOnly s) : b.FaultOnly (s.setGlb k) :=
  bindProp (h.hwSet .hostGlbStatus) fun h0 => State.FaultOnly.ite h0.fireVec h0

theorem State.FaultOnly.putEvent {b s : State} {kind sub code : Nat} {data : List Byte} (h : b.FaultOnly s) : b.FaultOnly (s.putEvent
    kind sub code data) :=
  bindProp (h.setF .eventStatus) fun h0 => State.FaultOnly.ite h0.hold (bindProp (((h0.update.bump .eventStatus).bump
      .cplqStatus).setGlb) fun h2 => State.FaultOnly.ite h2 h2.raise)

theorem State.FaultOnly.event {b s : State} {kind sub code : Nat} {data : List Byte} (h : b.FaultOnly s) : b.FaultOnly (s.event kind sub
    code data) :=
  State.FaultOnly.ite ((State.FaultOnly.ite h.update.putEvent h).putEvent) h

theorem State.FaultOnly.setPairState {b s : State} {p st stall : Nat} (h : b.FaultOnly s) : b.FaultOnly (s.setPairState p st stall) := by
  have hst : b.FaultOnly ((s.setF (R.RING_STATUS p) F.RING_STATUS_STATE st).setF (R.RING_STATUS p) F.RING_STATUS_STALL stall) :=
    (h.setF (.ringStatus _)).setF (.ringStatus _)
  simp only [State.setPairState]
  exact (hst.setGlb.ite hst).event

theorem State.FaultOnly.trigReval {b s : State} {code : Nat} (h : b.FaultOnly s) : b.FaultOnly (s.trigReval code) :=
  h.update.setF .drillStatus

theorem State.FaultOnly.openSwitch {b s : State} {w : Nat} (h : b.FaultOnly s) : b.FaultOnly (s.openSwitch w) :=
  ((h.setF (.pswStatus _)).setF (.pswStatus _)).setF (.pswStatus _)

theorem State.FaultOnly.showLoad {b s : State} (h : b.FaultOnly s) : b.FaultOnly s.showLoad := h.setF .stgAdcLoad

theorem State.FaultOnly.setStage {b s : State} {n : Nat} {r : StageRt} (h : b.FaultOnly s) : b.FaultOnly (s.setStage n r) := h.update

theorem State.FaultOnly.stopStage {b s : State} {n st : Nat} (h : b.FaultOnly s) : b.FaultOnly (s.stopStage n st) :=
  ((((h.setStageState.setF (.stageStatus _)).setF (.stageStatus _)).wrN (.stageDuty _)).wrN (.stageIl _)).setStage.showLoad

theorem State.FaultOnly.stopPortStages {b s : State} {n : Nat} (h : b.FaultOnly s) : b.FaultOnly (s.stopPortStages n) :=
  h.foldl (fun _ _ h0 => (State.FaultOnly.ite h0.stopStage h0).wrN (.stageCeil _))

theorem State.FaultOnly.needContract {b s : State} {x : Nat} (h : b.FaultOnly s) : b.FaultOnly (s.needContract x) :=
  State.FaultOnly.ite h.setPort h

theorem State.FaultOnly.setRank {b s : State} {n rank weight : Nat} (h : b.FaultOnly s) : b.FaultOnly (s.setRank n rank weight) :=
  h.setStage

theorem State.FaultOnly.rankPacks {b s : State} {r base : Nat} {ceil : Nat → Nat → Nat} (h : b.FaultOnly s) : b.FaultOnly (s.rankPacks r
    base ceil) := by
  simp only [State.rankPacks]
  exact State.FaultOnly.ite (h.foldl (fun _ _ h0 => (by
      split
      · exact h0
      · exact h0.setRank))) (h.foldl (fun _ _ h1 => (by
      split
      · exact h1
      · exact h1.setRank)))

theorem State.FaultOnly.fillHand {b s : State} {r : Nat} (h : b.FaultOnly s) : b.FaultOnly (s.fillHand r) := by
  simp only [State.fillHand]
  exact (h.foldl (fun _ _ h0 => (by
      split
      · exact h0
      · exact h0.setStage.wrN (.stageCeil _)))).rankPacks

theorem State.FaultOnly.wr64 {b s : State} {lo hi v : Nat} (h : b.FaultOnly s) (hlo : FaultReg lo) (hhi : FaultReg hi) :
    b.FaultOnly (s.wr64 lo hi v) := (h.wrN hlo).wrN hhi

theorem State.FaultOnly.wearCounter {b s : State} {k : Nat} (h : b.FaultOnly s) : b.FaultOnly (s.wearCounter k) :=
  State.FaultOnly.ite ((h.setF (.nvmCntHi _)).raise) h

theorem State.FaultOnly.showCounter {b s : State} {k : Nat} (h : b.FaultOnly s) : b.FaultOnly (s.showCounter k) :=
  (h.wrN (.nvmCntLo _)).setF (.nvmCntHi _)

theorem State.FaultOnly.setCounter {b s : State} {k : Nat} {r : CntRt} (h : b.FaultOnly s) : b.FaultOnly (s.setCounter k r) := h.update

theorem State.FaultOnly.setNvmByte {b s : State} {a : Nat} {v : Byte} (h : b.FaultOnly s) : b.FaultOnly (s.setNvmByte a v) := h.update

theorem State.FaultOnly.setNvmGroup {b s : State} {g : Nat} {st : GroupStatus} (h : b.FaultOnly s) : b.FaultOnly (s.setNvmGroup g st) :=
  h.update

theorem State.FaultOnly.clearGroup {b s : State} {g : Nat} (h : b.FaultOnly s) : b.FaultOnly (s.clearGroup g) :=
  (h.foldl (fun _ _ h0 => h0.setNvmByte)).setNvmGroup

theorem State.FaultOnly.showReerase {b s : State} (h : b.FaultOnly s) : b.FaultOnly s.showReerase := h.setF .nvmStatus

theorem State.FaultOnly.unqueuePage {b s : State} {p : Nat} (h : b.FaultOnly s) : b.FaultOnly (s.unqueuePage p) :=
  State.FaultOnly.ite h.update.showReerase h

theorem State.FaultOnly.erasePage {b s : State} {p : Nat} (h : b.FaultOnly s) : b.FaultOnly (s.erasePage p) :=
  (h.foldl (fun _ _ h0 => h0.clearGroup)).unqueuePage

theorem State.FaultOnly.programGroup {b s : State} {g : Nat} {bytes : List Byte} (h : b.FaultOnly s) : b.FaultOnly (s.programGroup g
    bytes) :=
  (h.foldl (fun _ _ h0 => h0.setNvmByte)).setNvmGroup

theorem State.FaultOnly.commitCounter {b s : State} {k : Nat} {flush : Bool} (h : b.FaultOnly s) : b.FaultOnly (s.commitCounter k flush)
    :=
  bindProp h.programGroup fun h0 => (State.FaultOnly.ite h0.erasePage h0).setCounter.wearCounter

theorem State.FaultOnly.incCounter {b s : State} {k : Nat} (h : b.FaultOnly s) : b.FaultOnly (s.incCounter k) :=
  bindProp h.setCounter fun h0 => (State.FaultOnly.ite h0.commitCounter h0).wearCounter.showCounter

theorem State.FaultOnly.setXfer {b s : State} {n : Nat} {r : XferRt} (h : b.FaultOnly s) : b.FaultOnly (s.setXfer n r) := h.update

theorem State.FaultOnly.handRail {b s : State} {x r : Nat} (h : b.FaultOnly s) : b.FaultOnly (s.handRail x r) :=
  bindProp (h.setXfer.setF (.supplyStatus _)) fun h1 => bindProp (State.FaultOnly.ite h1 ((h1.wr64 (.supplyXferLastLo _)
      (.supplyXferLastHi _)).incCounter)).fillHand fun h3 => State.FaultOnly.ite h3.raise h3

theorem State.FaultOnly.handOver {b s : State} {x : Nat} {openSwitch : Bool} (h : b.FaultOnly s) : b.FaultOnly (s.handOver x openSwitch)
    := by
  simp only [State.handOver]
  exact bindProp (h.foldl (fun _ _ h0 => State.FaultOnly.ite (h0.stopStage.wrN (.stageCeil _)) (h0.wrN (.stageCeil _)))) fun h1 =>
      ((State.FaultOnly.ite ((by
      split
      · exact h1.openSwitch.setPsw
      · exact h1)) h1).foldl (fun _ _ h3 => h3.handRail)).trigReval

theorem State.FaultOnly.loseSupply {b s : State} {x st : Nat} {openSwitch : Bool} (h : b.FaultOnly s) : b.FaultOnly (s.loseSupply x st
    openSwitch) := by
  simp only [State.loseSupply]
  exact State.FaultOnly.ite (bindProp h.setSupState.needContract.handOver fun h0 => State.FaultOnly.ite h0.raise h0) (State.FaultOnly.ite
      (bindProp h.setSupState.setSupply fun h1 => (State.FaultOnly.startQualify (by
      split
      · exact State.FaultOnly.ite h1.openSwitch h1
      · exact h1))) h)

theorem State.FaultOnly.portDrop {b s : State} {n : Nat} {openSw dis : Bool} (h : b.FaultOnly s) : b.FaultOnly (s.portDrop n openSw dis)
    := by
  simp only [State.portDrop]
  exact bindProp (State.FaultOnly.ite h h.loseSupply).stopPortStages fun h1 => bindProp (((State.FaultOnly.ite ((by
      split
      · exact h1.openSwitch.setPsw
      · exact h1)) h1).setPS.setPS.wrN (.portContract _)).wrN (.portRdo _)).setPort.showArmed.trigReval fun h6 => State.FaultOnly.ite
          h6.portEvent h6

theorem State.FaultOnly.enterErrorRecovery {b s : State} {n : Nat} (h : b.FaultOnly s) : b.FaultOnly (s.enterErrorRecovery n) :=
  h.portDrop.vconnOff.setPort.setPS.startTimer.setPS.setPe

theorem State.FaultOnly.refillHands {b s : State} (h : b.FaultOnly s) : b.FaultOnly s.refillHands :=
  h.each (fun _ _ h0 => State.FaultOnly.ite h0.fillHand h0)

theorem State.FaultOnly.forceOpen {b s : State} {w : Nat} (h : b.FaultOnly s) : b.FaultOnly (s.forceOpen w) :=
  h.openSwitch.setPsw.refillHands.trigReval

theorem State.FaultOnly.leaveCharging {b s : State} {i st : Nat} (h : b.FaultOnly s) : b.FaultOnly (s.leaveCharging i st) :=
  (h.setChState.setF (.packChgStatus _)).setPack

theorem State.FaultOnly.releaseClaims {b s : State} {p : Slot} (h : b.FaultOnly s) : b.FaultOnly (s.releaseClaims p) :=
  State.FaultOnly.ite h.update h.update

theorem State.FaultOnly.setCoord {b s : State} {n : Nat} {r : CoordRt} (h : b.FaultOnly s) : b.FaultOnly (s.setCoord n r) := h.update

theorem State.FaultOnly.showBusy {b s : State} (h : b.FaultOnly s) : b.FaultOnly s.showBusy :=
  h.each (fun _ _ h0 => bindProp (h0.setF (.coordStatus _)) fun h1 => State.FaultOnly.ite ((h1.setF (.coordStatus _)).setCoord) h1)

theorem State.FaultOnly.planShown {b s : State} (h : b.FaultOnly s) : b.FaultOnly s.planShown := (h.setF .drillStatus).showBusy

theorem State.FaultOnly.bbBreach {b s : State} {domain : Nat} {body : List Byte} (h : b.FaultOnly s) : b.FaultOnly (s.bbBreach domain
    body) :=
  h.update

theorem State.FaultOnly.endSlot {b s : State} {k : Nat} {p : Slot} {status code : Nat} (h : b.FaultOnly s) : b.FaultOnly (s.endSlot k p
    status code) :=
  bindProp h.complete fun h0 => (State.FaultOnly.ite (((h0.wrN .drillCntBreach).bbBreach).incCounter) h0).update.releaseClaims.planShown

theorem State.FaultOnly.breachSlot {b s : State} {k : Nat} {p : Slot} {code : Nat} (h : b.FaultOnly s) : b.FaultOnly (s.breachSlot k p
    code) :=
  State.FaultOnly.ite h.endSlot h.endSlot

theorem State.FaultOnly.endChargeLocked {b s : State} {i : Nat} (h : b.FaultOnly s) : b.FaultOnly (s.endChargeLocked i) :=
  h.foldl (fun _ _ h0 => h0.breachSlot)

theorem State.FaultOnly.lockCharge {b s : State} {i : Nat} (h : b.FaultOnly s) : b.FaultOnly (s.lockCharge i) :=
  State.FaultOnly.ite h h.leaveCharging.endChargeLocked.showRefs

theorem State.FaultOnly.tripStage {b s : State} {n : Nat} (h : b.FaultOnly s) : b.FaultOnly (s.tripStage n) :=
  State.FaultOnly.ite h.stopStage.trigReval h

theorem State.FaultOnly.holdUnit {b s : State} {id inst : Nat} (h : b.FaultOnly s) : b.FaultOnly (s.holdUnit id inst) := by
  simp only [State.holdUnit]
  exact bindProp (h.foldl (fun _ _ h0 => h0.tripStage)) fun h1 => bindProp (State.FaultOnly.ite h1.trigReval h1) fun h2 =>
      State.FaultOnly.ite h2.lockCharge (State.FaultOnly.ite ((by
      split
      · exact h2.forceOpen
      · exact h2)) (State.FaultOnly.ite h2.loseSupply (State.FaultOnly.ite h2.forceOpen (State.FaultOnly.ite h2.enterErrorRecovery ((by
      split
      · exact State.FaultOnly.ite h2.setPairState h2
      · exact h2))))))

theorem State.FaultOnly.rehold {b s : State} {id inst : Nat} {old : HrwInst} (h : b.FaultOnly s) : b.FaultOnly (s.rehold id inst old) :=
  State.FaultOnly.ite h (State.FaultOnly.ite h.holdUnit h.freeSeries.holdUnit)

theorem State.FaultOnly.bbQueue {b s : State} {kind sub : Nat} {body : List Byte} (h : b.FaultOnly s) : b.FaultOnly (s.bbQueue kind sub
    body) :=
  State.FaultOnly.ite h.update ((h.update.bump .bbStatus).raise)

theorem State.FaultOnly.endAllSafe {b s : State} (h : b.FaultOnly s) : b.FaultOnly s.endAllSafe := h.foldl (fun _ _ h0 => h0.breachSlot)

theorem State.FaultOnly.dropHandover {b s : State} {r : Nat} (h : b.FaultOnly s) : b.FaultOnly (s.dropHandover r) :=
  State.FaultOnly.ite (h.setXfer.setF (.supplyStatus _)) h.setXfer

theorem State.FaultOnly.egressOpen {b s : State} (h : b.FaultOnly s) : b.FaultOnly s.egressOpen :=
  h.each (fun _ _ h0 => State.FaultOnly.ite (State.FaultOnly.ite h0.setPsw h0) h0.openSwitch)

theorem State.FaultOnly.safeAction {b s : State} {id inst : Nat} (h : b.FaultOnly s) : b.FaultOnly (s.safeAction id inst) :=
  (((h.update.each (fun _ _ h1 => h1.stopStage)).egressOpen.each (fun _ _ h4 => h4.dropHandover)).setF
      .drillStatus).endAllSafe.bbQueue.incCounter

theorem State.FaultOnly.hrwActions {b s : State} {id inst cls entered : Nat} {record : List Byte} {lockout : Bool} (h : b.FaultOnly s) :
    b.FaultOnly (s.hrwActions id inst cls entered record lockout) :=
  bindProp (State.FaultOnly.ite h.event.setGlb h) fun h0 => State.FaultOnly.ite h0.bbQueue h0

end Sys2Proof.Machine
end

section
/-! What a fault's signals change (R374, R375, R381): events, black-box records and the host's interrupts. -/

namespace Sys2Proof.Machine

/-- A register that a fault's signals may write. -/
inductive SignalReg : Nat → Prop
  | bbStatus : SignalReg R.BB_STATUS
  | cplqStatus : SignalReg R.CPLQ_STATUS
  | eventStatus : SignalReg R.EVENT_STATUS
  | hostGlbStatus : SignalReg R.HOST_GLB_STATUS

/-- The offsets of these registers. -/
theorem SignalReg.offset {o : Nat} (h : SignalReg o) : o = 0x802C ∨ o = 0x1190 ∨ o = 0x102C ∨ o = 0x1014 := by
  cases h with
  | bbStatus => simp [R.BB_STATUS]
  | cplqStatus => simp [R.CPLQ_STATUS]
  | eventStatus => simp [R.EVENT_STATUS]
  | hostGlbStatus => simp [R.HOST_GLB_STATUS]

/-- `t` differs from `b` in what a fault's signals change alone. -/
def State.SignalOnly (b t : State) : Prop :=
  t = { b with
    regs := t.regs, cycle := t.cycle, msixPend := t.msixPend, outbox := t.outbox, cplq := t.cplq, evLost := t.evLost,
    evLosing := t.evLosing, raised := t.raised, bb := t.bb } ∧
  ∀ o, ¬ SignalReg o → t.rd o = b.rd o

theorem State.SignalOnly.refl (s : State) : s.SignalOnly s := ⟨rfl, fun _ _ => rfl⟩

theorem State.SignalOnly.update {b s : State} {cycle : CycleRt} {msixPend : Tab Word} {outbox : List Emit} {cplq : List HeldCpl}
    {evLost : Nat} {evLosing : Bool} {raised : List Raised} {bb : BbSt} (h : b.SignalOnly s) : b.SignalOnly { s with
      cycle := cycle, msixPend := msixPend, outbox := outbox, cplq := cplq, evLost := evLost, evLosing := evLosing, raised := raised,
      bb := bb } :=
  ⟨by rw [h.1], h.2⟩

theorem State.SignalOnly.ite {b s t : State} {c : Prop} [Decidable c] (hs : b.SignalOnly s) (ht : b.SignalOnly t) :
    b.SignalOnly (if c then s else t) := by
  split
  · exact hs
  · exact ht

theorem State.SignalOnly.noteOld {b s : State} {off : Nat} (h : b.SignalOnly s) : b.SignalOnly (s.noteOld off) := h.update

theorem State.SignalOnly.noteNew {b s : State} {off : Nat} {fld : Fld} {v : Nat} (h : b.SignalOnly s) : b.SignalOnly (s.noteNew off fld
    v) :=
  h.noteOld.update

theorem State.SignalOnly.wr {b s : State} {off : Nat} {v : Word} (h : b.SignalOnly s) (hoff : SignalReg off) : b.SignalOnly (s.wr off v) :=
  ⟨by rw [State.wr, h.1], fun o ho => (State.rd_wr_other _ _ fun e : o = off => ho (e ▸ hoff)).trans (h.2 o ho)⟩

theorem State.SignalOnly.setF {b s : State} {off : Nat} {fld : Fld} {v : Nat} (h : b.SignalOnly s) (hoff : SignalReg off) :
    b.SignalOnly (s.setF off fld v) := h.wr hoff

theorem State.SignalOnly.bump {b s : State} {off : Nat} {fld : Fld} {k : Nat} (h : b.SignalOnly s) (hoff : SignalReg off) :
    b.SignalOnly (s.bump off fld k) := h.noteNew.setF hoff

theorem State.SignalOnly.raise {b s : State} {id inst : Nat} {record : List Byte} (h : b.SignalOnly s) : b.SignalOnly (s.raise id inst
    record) :=
  h.update

theorem State.SignalOnly.bbQueue {b s : State} {kind sub : Nat} {body : List Byte} (h : b.SignalOnly s) : b.SignalOnly (s.bbQueue kind
    sub body) :=
  State.SignalOnly.ite h.update ((h.update.bump .bbStatus).raise)

theorem State.SignalOnly.emit {b s : State} {e : Emit} (h : b.SignalOnly s) : b.SignalOnly (s.emit e) := h.update

theorem State.SignalOnly.fireVec {b s : State} {v : Nat} (h : b.SignalOnly s) : b.SignalOnly (s.fireVec v) :=
  State.SignalOnly.ite (State.SignalOnly.ite h.update h.emit) h

theorem State.SignalOnly.hwSet {b s : State} {off : Nat} {fld : Fld} {v : Nat} (h : b.SignalOnly s) (hoff : SignalReg off) :
    b.SignalOnly (s.hwSet off fld v) := h.noteNew.setF hoff

theorem State.SignalOnly.setGlb {b s : State} {k : Nat} (h : b.SignalOnly s) : b.SignalOnly (s.setGlb k) :=
  bindProp (h.hwSet .hostGlbStatus) fun h0 => State.SignalOnly.ite h0.fireVec h0

theorem State.SignalOnly.hold {b s : State} {cpl : HeldCpl} (h : b.SignalOnly s) : b.SignalOnly (s.hold cpl) := h.update

theorem State.SignalOnly.putEvent {b s : State} {kind sub code : Nat} {data : List Byte} (h : b.SignalOnly s) : b.SignalOnly (s.putEvent
    kind sub code data) :=
  bindProp (h.setF .eventStatus) fun h0 => State.SignalOnly.ite h0.hold (bindProp (((h0.update.bump .eventStatus).bump
      .cplqStatus).setGlb) fun h2 => State.SignalOnly.ite h2 h2.raise)

theorem State.SignalOnly.event {b s : State} {kind sub code : Nat} {data : List Byte} (h : b.SignalOnly s) : b.SignalOnly (s.event kind
    sub code data) :=
  State.SignalOnly.ite ((State.SignalOnly.ite h.update.putEvent h).putEvent) h

theorem State.SignalOnly.hrwActions {b s : State} {id inst cls entered : Nat} {record : List Byte} {lockout : Bool} (h : b.SignalOnly s)
    : b.SignalOnly (s.hrwActions id inst cls entered record lockout) :=
  bindProp (State.SignalOnly.ite h.event.setGlb h) fun h0 => State.SignalOnly.ite h0.bbQueue h0

end Sys2Proof.Machine
end

section
/-! What the endings of orders, a re-validation and the records of the store change (R85–R96, R352): one lemma per operation. -/

namespace Sys2Proof.Machine

/-- A register that shows the Plan table, its endings, or what they count. -/
inductive PlanReg : Nat → Prop
  | bbStatus : PlanReg R.BB_STATUS
  | coordStatus (n : Nat) : PlanReg (R.COORD_STATUS n)
  | cplqStatus : PlanReg R.CPLQ_STATUS
  | drillCanStat (n : Nat) : PlanReg (R.DRILL_CAN_STAT n)
  | drillCntBreach : PlanReg R.DRILL_CNT_BREACH
  | drillPackEarmarkHi (n : Nat) : PlanReg (R.DRILL_PACK_EARMARK_HI n)
  | drillPackEarmarkLo (n : Nat) : PlanReg (R.DRILL_PACK_EARMARK_LO n)
  | drillStatus : PlanReg R.DRILL_STATUS
  | modelPackReservedHi (n : Nat) : PlanReg (R.MODEL_PACK_RESERVED_HI n)
  | modelPackReservedLo (n : Nat) : PlanReg (R.MODEL_PACK_RESERVED_LO n)
  | nvmCntHi (n : Nat) : PlanReg (R.NVM_CNT_HI n)
  | nvmCntLo (n : Nat) : PlanReg (R.NVM_CNT_LO n)
  | nvmStatus : PlanReg R.NVM_STATUS
  | ringCnt (n : Nat) : PlanReg (R.RING_CNT n)
  | supplyStatus (n : Nat) : PlanReg (R.SUPPLY_STATUS n)

/-- The offsets of these registers. -/
theorem PlanReg.offset {o : Nat} (h : PlanReg o) : ∃ n : Nat, o = 0x802C ∨ o = 0x2008 + 0x100 * n ∨ o = 0x1190 ∨ o = 0xA108 + 0x10 * n ∨
    o = 0xA010 ∨ o = 0xA044 + 0x20 * n ∨ o = 0xA040 + 0x20 * n ∨ o = 0xA000 ∨ o = 0xA80C + 0x20 * n ∨ o = 0xA808 + 0x20 * n ∨ o = 0x8104
    + 0x10 * n ∨ o = 0x8100 + 0x10 * n ∨ o = 0x8000 ∨ o = 0x824 + 0x40 * n ∨ o = 0x5324 + 0x10 * n := by
  cases h with
  | bbStatus => exact ⟨0, by simp [R.BB_STATUS]⟩
  | coordStatus n => exact ⟨n, by simp [R.COORD_STATUS]⟩
  | cplqStatus => exact ⟨0, by simp [R.CPLQ_STATUS]⟩
  | drillCanStat n => exact ⟨n, by simp [R.DRILL_CAN_STAT]⟩
  | drillCntBreach => exact ⟨0, by simp [R.DRILL_CNT_BREACH]⟩
  | drillPackEarmarkHi n => exact ⟨n, by simp [R.DRILL_PACK_EARMARK_HI]⟩
  | drillPackEarmarkLo n => exact ⟨n, by simp [R.DRILL_PACK_EARMARK_LO]⟩
  | drillStatus => exact ⟨0, by simp [R.DRILL_STATUS]⟩
  | modelPackReservedHi n => exact ⟨n, by simp [R.MODEL_PACK_RESERVED_HI]⟩
  | modelPackReservedLo n => exact ⟨n, by simp [R.MODEL_PACK_RESERVED_LO]⟩
  | nvmCntHi n => exact ⟨n, by simp [R.NVM_CNT_HI]⟩
  | nvmCntLo n => exact ⟨n, by simp [R.NVM_CNT_LO]⟩
  | nvmStatus => exact ⟨0, by simp [R.NVM_STATUS]⟩
  | ringCnt n => exact ⟨n, by simp [R.RING_CNT]⟩
  | supplyStatus n => exact ⟨n, by simp [R.SUPPLY_STATUS]⟩

/-- `t` differs from `b` in the Plan table, in what its endings count and answer, and in the hand-overs of rails alone. -/
def State.PlanOnly (b t : State) : Prop :=
  t = { b with
    regs := t.regs, alloc := t.alloc, bb := t.bb, cans := t.cans, coords := t.coords, cplq := t.cplq, cycle := t.cycle, nvm := t.nvm,
    plan := t.plan, raised := t.raised, releasedA := t.releasedA, releasedB := t.releasedB, xfers := t.xfers } ∧
  ∀ o, ¬ PlanReg o → t.rd o = b.rd o

theorem State.PlanOnly.refl (s : State) : s.PlanOnly s := ⟨rfl, fun _ _ => rfl⟩

theorem State.PlanOnly.trans {s t u : State} (h : s.PlanOnly t) (h' : t.PlanOnly u) : s.PlanOnly u :=
  ⟨by rw [h'.1, h.1], fun o ho => (h'.2 o ho).trans (h.2 o ho)⟩

theorem State.PlanOnly.update {b s : State}
    {alloc : List SegAlloc} {bb : BbSt} {cans : Tab CanRt} {coords : Tab CoordRt} {cplq : List HeldCpl} {cycle : CycleRt} {nvm : NvmSt}
    {plan : Tab Slot} {raised : List Raised} {releasedA releasedB : List Nat} {xfers : Tab XferRt}
    (h : b.PlanOnly s) : b.PlanOnly { s with
      alloc := alloc, bb := bb, cans := cans, coords := coords, cplq := cplq, cycle := cycle, nvm := nvm, plan := plan, raised :=
      raised, releasedA := releasedA, releasedB := releasedB, xfers := xfers } :=
  ⟨by rw [h.1], h.2⟩

theorem State.PlanOnly.ite {b s t : State} {c : Prop} [Decidable c] (hs : b.PlanOnly s) (ht : b.PlanOnly t) :
    b.PlanOnly (if c then s else t) := by
  split
  · exact hs
  · exact ht

theorem State.PlanOnly.foldl {α : Type} {b s : State} {g : State → α → State} {l : List α} (h : b.PlanOnly s)
    (hg : ∀ u a, b.PlanOnly u → b.PlanOnly (g u a)) : b.PlanOnly (l.foldl g s) := by
  induction l generalizing s with
  | nil => exact h
  | cons a l ih => exact ih (hg s a h)

theorem State.PlanOnly.releaseClaims {b s : State} {p : Slot} (h : b.PlanOnly s) : b.PlanOnly (s.releaseClaims p) :=
  State.PlanOnly.ite h.update h.update

theorem State.PlanOnly.wr {b s : State} {off : Nat} {v : Word} (h : b.PlanOnly s) (hoff : PlanReg off) : b.PlanOnly (s.wr off v) :=
  ⟨by rw [State.wr, h.1], fun o ho => (State.rd_wr_other _ _ fun e : o = off => ho (e ▸ hoff)).trans (h.2 o ho)⟩

theorem State.PlanOnly.setF {b s : State} {off : Nat} {fld : Fld} {v : Nat} (h : b.PlanOnly s) (hoff : PlanReg off) :
    b.PlanOnly (s.setF off fld v) := h.wr hoff

theorem State.PlanOnly.setCoord {b s : State} {n : Nat} {r : CoordRt} (h : b.PlanOnly s) : b.PlanOnly (s.setCoord n r) := h.update

theorem State.PlanOnly.each {b s : State} {ks : List Nat} {g : Nat → State → State} (h : b.PlanOnly s) (hg0 : ∀ x0 x1, b.PlanOnly x1 →
    b.PlanOnly (g x0 x1)) : b.PlanOnly (s.each ks g) :=
  h.foldl (fun _ _ h0 => hg0 _ _ h0)

theorem State.PlanOnly.showBusy {b s : State} (h : b.PlanOnly s) : b.PlanOnly s.showBusy :=
  h.each (fun _ _ h0 => bindProp (h0.setF (.coordStatus _)) fun h1 => State.PlanOnly.ite ((h1.setF (.coordStatus _)).setCoord) h1)

theorem State.PlanOnly.planShown {b s : State} (h : b.PlanOnly s) : b.PlanOnly s.planShown := (h.setF .drillStatus).showBusy

theorem State.PlanOnly.wrN {b s : State} {off v : Nat} (h : b.PlanOnly s) (hoff : PlanReg off) : b.PlanOnly (s.wrN off v) :=
  h.wr hoff

theorem State.PlanOnly.bbBreach {b s : State} {domain : Nat} {body : List Byte} (h : b.PlanOnly s) : b.PlanOnly (s.bbBreach domain body)
    :=
  h.update

theorem State.PlanOnly.raise {b s : State} {id inst : Nat} {record : List Byte} (h : b.PlanOnly s) : b.PlanOnly (s.raise id inst record)
    :=
  h.update

theorem State.PlanOnly.wearCounter {b s : State} {k : Nat} (h : b.PlanOnly s) : b.PlanOnly (s.wearCounter k) :=
  State.PlanOnly.ite ((h.setF (.nvmCntHi _)).raise) h

theorem State.PlanOnly.showCounter {b s : State} {k : Nat} (h : b.PlanOnly s) : b.PlanOnly (s.showCounter k) :=
  (h.wrN (.nvmCntLo _)).setF (.nvmCntHi _)

theorem State.PlanOnly.setCounter {b s : State} {k : Nat} {r : CntRt} (h : b.PlanOnly s) : b.PlanOnly (s.setCounter k r) := h.update

theorem State.PlanOnly.setNvmByte {b s : State} {a : Nat} {v : Byte} (h : b.PlanOnly s) : b.PlanOnly (s.setNvmByte a v) := h.update

theorem State.PlanOnly.setNvmGroup {b s : State} {g : Nat} {st : GroupStatus} (h : b.PlanOnly s) : b.PlanOnly (s.setNvmGroup g st) :=
  h.update

theorem State.PlanOnly.clearGroup {b s : State} {g : Nat} (h : b.PlanOnly s) : b.PlanOnly (s.clearGroup g) :=
  (h.foldl (fun _ _ h0 => h0.setNvmByte)).setNvmGroup

theorem State.PlanOnly.showReerase {b s : State} (h : b.PlanOnly s) : b.PlanOnly s.showReerase := h.setF .nvmStatus

theorem State.PlanOnly.unqueuePage {b s : State} {p : Nat} (h : b.PlanOnly s) : b.PlanOnly (s.unqueuePage p) :=
  State.PlanOnly.ite h.update.showReerase h

theorem State.PlanOnly.erasePage {b s : State} {p : Nat} (h : b.PlanOnly s) : b.PlanOnly (s.erasePage p) :=
  (h.foldl (fun _ _ h0 => h0.clearGroup)).unqueuePage

theorem State.PlanOnly.programGroup {b s : State} {g : Nat} {bytes : List Byte} (h : b.PlanOnly s) : b.PlanOnly (s.programGroup g bytes)
    :=
  (h.foldl (fun _ _ h0 => h0.setNvmByte)).setNvmGroup

theorem State.PlanOnly.commitCounter {b s : State} {k : Nat} {flush : Bool} (h : b.PlanOnly s) : b.PlanOnly (s.commitCounter k flush) :=
  bindProp h.programGroup fun h0 => (State.PlanOnly.ite h0.erasePage h0).setCounter.wearCounter

theorem State.PlanOnly.incCounter {b s : State} {k : Nat} (h : b.PlanOnly s) : b.PlanOnly (s.incCounter k) :=
  bindProp h.setCounter fun h0 => (State.PlanOnly.ite h0.commitCounter h0).wearCounter.showCounter

theorem State.PlanOnly.noteOld {b s : State} {off : Nat} (h : b.PlanOnly s) : b.PlanOnly (s.noteOld off) := h.update

theorem State.PlanOnly.noteNew {b s : State} {off : Nat} {fld : Fld} {v : Nat} (h : b.PlanOnly s) : b.PlanOnly (s.noteNew off fld v) :=
  h.noteOld.update

theorem State.PlanOnly.bump {b s : State} {off : Nat} {fld : Fld} {k : Nat} (h : b.PlanOnly s) (hoff : PlanReg off) :
    b.PlanOnly (s.bump off fld k) := h.noteNew.setF hoff

theorem State.PlanOnly.discardCan {b s : State} {n : Nat} {bytes : List Byte} (h : b.PlanOnly s) : b.PlanOnly (s.discardCan n bytes) :=
  ((h.bump (.drillCanStat _)).bump .cplqStatus).raise

theorem State.PlanOnly.setCan {b s : State} {n : Nat} {r : CanRt} (h : b.PlanOnly s) : b.PlanOnly (s.setCan n r) := h.update

theorem State.PlanOnly.discardCpl {b s : State} {p : Nat} {bytes : List Byte} (h : b.PlanOnly s) : b.PlanOnly (s.discardCpl p bytes) :=
  ((h.bump (.ringCnt _)).bump .cplqStatus).raise

theorem State.PlanOnly.hold {b s : State} {cpl : HeldCpl} (h : b.PlanOnly s) : b.PlanOnly (s.hold cpl) := h.update

theorem State.PlanOnly.complete {b s : State} {src : Nat} {bytes : List Byte} {worthy : Bool} (h : b.PlanOnly s) : b.PlanOnly (s.complete
    src bytes worthy) :=
  State.PlanOnly.ite (State.PlanOnly.ite (h.bump (.ringCnt _)) (State.PlanOnly.ite h.hold h.discardCpl)) (State.PlanOnly.ite h.setCan
      (State.PlanOnly.ite h.hold h.discardCan))

theorem State.PlanOnly.endSlot {b s : State} {k : Nat} {p : Slot} {status code : Nat} (h : b.PlanOnly s) : b.PlanOnly (s.endSlot k p
    status code) :=
  bindProp h.complete fun h0 => (State.PlanOnly.ite (((h0.wrN .drillCntBreach).bbBreach).incCounter) h0).update.releaseClaims.planShown

theorem State.PlanOnly.breachSlot {b s : State} {k : Nat} {p : Slot} {code : Nat} (h : b.PlanOnly s) : b.PlanOnly (s.breachSlot k p code)
    :=
  State.PlanOnly.ite h.endSlot h.endSlot

theorem State.PlanOnly.endChargeLocked {b s : State} {i : Nat} (h : b.PlanOnly s) : b.PlanOnly (s.endChargeLocked i) :=
  h.foldl (fun _ _ h0 => h0.breachSlot)

theorem State.PlanOnly.bbQueue {b s : State} {kind sub : Nat} {body : List Byte} (h : b.PlanOnly s) : b.PlanOnly (s.bbQueue kind sub
    body) :=
  State.PlanOnly.ite h.update ((h.update.bump .bbStatus).raise)

theorem State.PlanOnly.setXfer {b s : State} {n : Nat} {r : XferRt} (h : b.PlanOnly s) : b.PlanOnly (s.setXfer n r) := h.update

theorem State.PlanOnly.dropHandover {b s : State} {r : Nat} (h : b.PlanOnly s) : b.PlanOnly (s.dropHandover r) :=
  State.PlanOnly.ite (h.setXfer.setF (.supplyStatus _)) h.setXfer

theorem State.PlanOnly.wr64 {b s : State} {lo hi v : Nat} (h : b.PlanOnly s) (hlo : PlanReg lo) (hhi : PlanReg hi) :
    b.PlanOnly (s.wr64 lo hi v) := (h.wrN hlo).wrN hhi

theorem State.PlanOnly.showClaims {b s : State} (h : b.PlanOnly s) : b.PlanOnly s.showClaims :=
  h.each (fun _ _ h0 => (h0.wr64 (.modelPackReservedLo _) (.modelPackReservedHi _)).wr64 (.drillPackEarmarkLo _) (.drillPackEarmarkHi _))

theorem State.PlanOnly.revalLoop {b s : State} {fuel : Nat} (h : b.PlanOnly s) : b.PlanOnly (s.revalLoop fuel) := by
  induction fuel generalizing s with
  | zero => exact h
  | succ fuel ih =>
    simp only [State.revalLoop]
    split
    · exact h.update.showClaims
    · split
      · exact h
      · exact ih h.breachSlot

theorem State.PlanOnly.endAllSafe {b s : State} (h : b.PlanOnly s) : b.PlanOnly s.endAllSafe := h.foldl (fun _ _ h0 => h0.breachSlot)

end Sys2Proof.Machine
end

section
/-! A report of a fault (R373–R377): what it notes, the state that its instance takes, and what it stops. -/

namespace Sys2Proof.Machine

theorem padTo_padTo (n : Nat) (bs : List Byte) : padTo n (padTo n bs) = padTo n bs := by
  have hlen : (padTo n bs).length = n := by simp [padTo]
  rw [padTo, List.take_append_of_le_length (by omega), List.take_of_length_le (by omega)]

theorem State.FaultOnly.hrw {s t : State} (h : s.FaultOnly t) : t.hrw = s.hrw := by rw [h.1]

theorem State.FaultOnly.hrwInst {s t : State} (h : s.FaultOnly t) (id inst : Nat) : t.hrwInst id inst = s.hrwInst id inst := by
  rw [State.hrwInst, h.hrw, State.hrwInst]

theorem State.FaultOnly.hrwStatus {s t : State} (h : s.FaultOnly t) (g : Fld) : t.f R.HRW_STATUS g = s.f R.HRW_STATUS g := by
  rw [State.f, h.2 _ hrwStatus_not_faultReg, State.f]

/-! What a report notes first. -/

/-- The instance with this report counted. -/
def State.counted (s : State) (id inst : Nat) (record : List Byte) : HrwInst :=
  { s.hrwInst id inst with
    occur := min 255 ((s.hrwInst id inst).occur + 1), cause := true, tick := s.tick, record := padTo 16 record }

/-- The state with the report shown in HRW_STATUS, as an event of its cycle and as a wake source. -/
def State.shown (s : State) (id inst : Nat) : State :=
  let cls := s.effClass id
  let t := (s.setF R.HRW_STATUS F.HRW_STATUS_LAST_ID id).setF R.HRW_STATUS F.HRW_STATUS_LAST_INST inst
  let t := if 2 ≤ cls then t.noteEvent 8 0 else t
  if 1 ≤ cls then t.noteIdle .fault else t

theorem State.shown_frame (s : State) (id inst : Nat) : s.shown id inst =
    { s with regs := (s.shown id inst).regs, cycle := (s.shown id inst).cycle, sys := (s.shown id inst).sys } := by
  unfold State.shown
  dsimp only
  split
  · split
    · rw [State.noteIdle_frame]
      rfl
    · rw [State.noteIdle_frame]
      rfl
  · split
    · rfl
    · rfl

theorem State.shown_sameRegs (s : State) (id inst : Nat) : s.sameRegs (s.shown id inst) [R.HRW_STATUS] := by
  have ho := List.mem_cons_self (a := R.HRW_STATUS) (l := [])
  have hset := ((s.sameRegs_refl _).setF ho F.HRW_STATUS_LAST_ID id).setF ho F.HRW_STATUS_LAST_INST inst
  have hnote := (hset.noteEvent 8 0).ite hset (c := 2 ≤ s.effClass id)
  exact (hnote.noteIdle .fault).ite hnote

theorem State.shown_status (s : State) (id : Fin 256) (inst : Fin 16) : (s.shown id inst).f R.HRW_STATUS F.HRW_STATUS_LAST_ID = id ∧
    (s.shown id inst).f R.HRW_STATUS F.HRW_STATUS_LAST_INST = inst := by
  have hkeep (g : Fld) : (s.shown id inst).f R.HRW_STATUS g =
      ((s.setF R.HRW_STATUS F.HRW_STATUS_LAST_ID id).setF R.HRW_STATUS F.HRW_STATUS_LAST_INST inst).f R.HRW_STATUS g := by
    have hnoted (u : State) : (if 2 ≤ s.effClass id then u.noteEvent 8 0 else u).f R.HRW_STATUS g = u.f R.HRW_STATUS g := by
      split
      · rfl
      · rfl
    unfold State.shown
    dsimp only
    split
    · rw [State.f, State.noteIdle_rd, ← State.f, hnoted]
    · exact hnoted _
  rw [hkeep, hkeep, State.f_setF_field _ _ (by decide) (by decide) (.inl (by decide)), State.f_setF_same _ _ _ _ (by decide),
    State.f_setF_same _ _ _ _ (by decide)]
  exact ⟨Nat.mod_eq_of_lt id.isLt, Nat.mod_eq_of_lt inst.isLt⟩

/-! The state that the instance takes. -/

/-- The instance in the state that a report of a class puts it in (R377). -/
def HrwInst.reported (h : HrwInst) (cls : Nat) : HrwInst :=
  match h.st with
  | .clear => if cls = 0 then h else if cls = 4 then { h with st := .safe, cls := 4 } else { h with st := .active, cls := cls }
  | .active => if cls = 4 then { h with st := .safe, cls := 4 } else h
  | .quiet => if cls = 4 then { h with st := .safe, cls := 4 } else { h with st := .active }
  | .locked => h
  | .safe => h

theorem HrwInst.reported_note (h : HrwInst) (cls : Nat) :
    (h.reported cls).occur = h.occur ∧ (h.reported cls).record = h.record := by
  unfold HrwInst.reported
  split
  · split
    · exact ⟨rfl, rfl⟩
    · split <;> exact ⟨rfl, rfl⟩
  · split <;> exact ⟨rfl, rfl⟩
  · split <;> exact ⟨rfl, rfl⟩
  · exact ⟨rfl, rfl⟩
  · exact ⟨rfl, rfl⟩

/-- The instance after a report, with nothing yet done about it. -/
def State.noted (s : State) (id inst : Nat) (record : List Byte) : State :=
  (s.shown id inst).setHrw id inst ((s.counted id inst record).reported (s.effClass id))

/-- The signals of an instance that enters SAFE, and the Safe-state where it is not on. -/
def State.safeEntered (s : State) (id inst : Nat) (record : List Byte) : State :=
  let t := s.hrwActions id inst 4 4 record false
  if t.safeOn then t else t.safeAction id inst

theorem State.safeEntered_faultOnly (s : State) (id inst : Nat) (record : List Byte) : s.FaultOnly (s.safeEntered id inst record) :=
  have hsig := (State.FaultOnly.refl s).hrwActions (id := id) (inst := inst) (cls := 4) (entered := 4) (record := record) (lockout := false)
  hsig.ite hsig.safeAction

/-- The signals of an instance that becomes ACTIVE, and the hold of its unit from Trip up. -/
def State.activeEntered (s : State) (id inst cls : Nat) (record : List Byte) : State :=
  let t := s.hrwActions id inst cls 1 record false
  if cls = 1 then t else t.holdUnit id inst

theorem State.activeEntered_faultOnly (s : State) (id inst cls : Nat) (record : List Byte) :
    s.FaultOnly (s.activeEntered id inst cls record) :=
  have hsig := (State.FaultOnly.refl s).hrwActions (id := id) (inst := inst) (cls := cls) (entered := 1) (record := record) (lockout := false)
  hsig.ite hsig.holdUnit

section
variable {s : State} {id inst : Nat} (record : List Byte) (hd : defaultClass id ≠ none)
include hd

theorem State.report_isSome : ¬ (defaultClass id).isNone = true := by
  cases h : defaultClass id with
  | none => exact absurd h hd
  | some c => simp

/-- A report of Safe-state, in an instance that is neither LOCKED nor SAFE. -/
theorem State.report_of_safe (hcls : s.effClass id = 4) (hl : (s.hrwInst id inst).st ≠ .locked) (hs : (s.hrwInst id inst).st ≠ .safe) :
    s.report id inst record = (s.noted id inst record).safeEntered id inst record := by
  unfold State.report
  rw [if_neg (State.report_isSome hd)]
  cases hst : (s.hrwInst id inst).st with
  | clear => simp [State.noted, State.safeEntered, State.shown, State.counted, HrwInst.reported, hst, hcls]
  | active => simp [State.noted, State.safeEntered, State.shown, State.counted, HrwInst.reported, hst, hcls]
  | quiet => simp [State.noted, State.safeEntered, State.shown, State.counted, HrwInst.reported, hst, hcls]
  | locked => exact absurd hst hl
  | safe => exact absurd hst hs

/-- Whatever the report, its instance takes its state, and only fault handling follows. -/
theorem State.report_faultOnly : (s.noted id inst record).FaultOnly (s.report id inst record) := by
  have hrefl := State.FaultOnly.refl (s.noted id inst record)
  by_cases hcls : s.effClass id = 4 ∧ (s.hrwInst id inst).st ≠ .locked ∧ (s.hrwInst id inst).st ≠ .safe
  · rw [State.report_of_safe record hd hcls.1 hcls.2.1 hcls.2.2]
    exact State.safeEntered_faultOnly _ _ _ _
  · unfold State.report
    rw [if_neg (State.report_isSome hd)]
    cases hst : (s.hrwInst id inst).st with
    | clear =>
      by_cases h0 : s.effClass id = 0
      · simp only [State.noted, State.shown, State.counted, HrwInst.reported, hst, h0] at hrefl ⊢
        exact hrefl.hrwActions
      · have h4 : s.effClass id ≠ 4 := fun h => hcls ⟨h, by simp [hst], by simp [hst]⟩
        have hact := (s.noted id inst record).activeEntered_faultOnly id inst (s.effClass id) record
        simp only [State.noted, State.activeEntered, State.shown, State.counted, HrwInst.reported, hst, h0, h4, if_false] at hact ⊢
        exact hact
    | active =>
      have h4 : s.effClass id ≠ 4 := fun h => hcls ⟨h, by simp [hst], by simp [hst]⟩
      simp only [State.noted, State.shown, State.counted, HrwInst.reported, hst, h4, if_false] at hrefl ⊢
      exact hrefl.rehold
    | quiet =>
      have h4 : s.effClass id ≠ 4 := fun h => hcls ⟨h, by simp [hst], by simp [hst]⟩
      simp only [State.noted, State.shown, State.counted, HrwInst.reported, hst, h4, if_false] at hrefl ⊢
      exact hrefl.rehold
    | locked =>
      simp only [State.noted, State.shown, State.counted, HrwInst.reported, hst] at hrefl ⊢
      exact hrefl
    | safe =>
      simp only [State.noted, State.shown, State.counted, HrwInst.reported, hst] at hrefl ⊢
      exact hrefl

end

/-! The Safe-state (R37, R373). -/

/-- A switch's place in the egress configuration is told by the description in force and its records in the store. -/
theorem State.egressMarked_congr {s t : State} (hfab : t.fab = s.fab) (hfw : t.fw = s.fw) (hnvm : t.nvm = s.nvm) (w : Nat) :
    t.egressMarked w = s.egressMarked w := by
  obtain ⟨⟩ := s
  obtain ⟨⟩ := t
  dsimp only at hfab hfw hnvm
  subst hfab hfw hnvm
  rfl

/-- What ends and is counted once a Safe-state has stopped the stages and opened the switches. -/
def State.safeTail (s : State) (id inst : Nat) : State :=
  let s := (s.each (List.range 8) (fun r s => s.dropHandover r)).setF R.DRILL_STATUS F.DRILL_STATUS_SAFE 1
  (s.endAllSafe.bbQueue 4 0 (leBytes 2 (id + 256 * inst))).incCounter 0

theorem State.safeTail_planOnly (s : State) (id inst : Nat) : s.PlanOnly (s.safeTail id inst) :=
  (((((State.PlanOnly.refl s).each fun _ _ h => h.dropHandover).setF .drillStatus).endAllSafe).bbQueue).incCounter

/-- Every stage off. -/
def State.allOff (s : State) : State := s.each (List.range 8) (fun n s => s.stopStage n stOff)

theorem State.safeAction_eq (s : State) (id inst : Nat) :
    s.safeAction id inst = ({ s with safeOn := true, releasing := false } : State).allOff.egressOpen.safeTail id inst := rfl

theorem State.allOff_stageState (s : State) (n : Fin 8) : s.allOff.stageState n = stOff := by
  rw [State.allOff]
  exact State.each_at (P := fun u => u.stageState n = stOff) (Q := fun _ => True) (g := fun n s => s.stopStage n stOff)
    (List.mem_range.2 n.isLt) List.nodup_range (fun u _ => u.stopStage_stageState n (by decide))
    (fun _ hk u => ⟨id, fun hu => (u.stopStage_stageState_other hk).trans hu⟩) trivial

/-- What a Safe-state's stops and switches leave: the mark of the Safe-state, and what tells a switch's place in the egress configuration. -/
def State.safeKept (b t : State) : Prop := t.safeOn = b.safeOn ∧ t.fab = b.fab ∧ t.fw = b.fw ∧ t.nvm = b.nvm

theorem State.stopStage_safeOn (s : State) (n st : Nat) : (s.stopStage n st).safeOn = s.safeOn := rfl

theorem State.stopStage_fw (s : State) (n st : Nat) : (s.stopStage n st).fw = s.fw := rfl

theorem State.stopStage_nvm (s : State) (n st : Nat) : (s.stopStage n st).nvm = s.nvm := rfl

theorem State.stopStage_safeKept (s : State) (n st : Nat) : s.safeKept (s.stopStage n st) :=
  ⟨s.stopStage_safeOn n st, (s.stopStage_fab n st).1, s.stopStage_fw n st, s.stopStage_nvm n st⟩

theorem State.openSwitch_safeKept (s : State) (w : Nat) : s.safeKept (s.openSwitch w) := ⟨rfl, rfl, rfl, rfl⟩

theorem State.setPsw_safeKept (s : State) (w : Nat) (r : PswRt) : s.safeKept (s.setPsw w r) := ⟨rfl, rfl, rfl, rfl⟩

theorem State.safeKept.trans {b s t : State} (h : b.safeKept s) (h' : s.safeKept t) : b.safeKept t := by
  obtain ⟨hsafe, hfab, hfw, hnvm⟩ := h
  obtain ⟨hsafe', hfab', hfw', hnvm'⟩ := h'
  exact ⟨hsafe'.trans hsafe, hfab'.trans hfab, hfw'.trans hfw, hnvm'.trans hnvm⟩

theorem State.safeKept.egressMarked {b t : State} (h : b.safeKept t) (w : Nat) : t.egressMarked w = b.egressMarked w :=
  State.egressMarked_congr h.2.1 h.2.2.1 h.2.2.2 w

theorem State.SignalOnly.egressMarked {b t : State} (h : b.SignalOnly t) (w : Nat) : t.egressMarked w = b.egressMarked w := by
  apply State.egressMarked_congr <;> rw [h.1]

theorem State.allOff_safeKept (s : State) : s.safeKept s.allOff :=
  State.each_invariant (P := fun u => s.safeKept u) (g := fun n s => s.stopStage n stOff) (fun n u hu => hu.trans (u.stopStage_safeKept n stOff))
    (List.range 8) ⟨rfl, rfl, rfl, rfl⟩

theorem stageStatus_not_planReg (n : Nat) (hn : n < 8) : ¬ PlanReg (R.STAGE_STATUS n) := by
  intro h
  obtain ⟨n, h⟩ := h.offset
  simp only [R.STAGE_STATUS] at h
  omega

/-- How the egress configuration treats one switch as it opens those it does not mark. -/
def State.egressOpenOne (s : State) (w : Nat) : State :=
  if s.egressMarked w then
    (if (s.psw w).tripped && !s.pswClosed w then s.setPsw w { s.psw w with egressTrip := true } else s)
  else s.openSwitch w

theorem State.egressOpen_eq (s : State) : s.egressOpen = s.each (List.range 12) (fun w s => s.egressOpenOne w) := rfl

theorem State.egressOpenOne_safeKept (s : State) (w : Nat) : s.safeKept (s.egressOpenOne w) := by
  unfold State.egressOpenOne
  split
  · split
    · exact s.setPsw_safeKept w _
    · exact ⟨rfl, rfl, rfl, rfl⟩
  · exact s.openSwitch_safeKept w

theorem State.egressOpen_safeKept (s : State) : s.safeKept s.egressOpen :=
  State.each_invariant (P := fun u => s.safeKept u) (g := fun w s => s.egressOpenOne w) (fun w _ hu => hu.trans (State.egressOpenOne_safeKept _ w))
    (List.range 12) ⟨rfl, rfl, rfl, rfl⟩

theorem State.egressOpenOne_sameRegs (s : State) (w : Nat) : s.sameRegs (s.egressOpenOne w) [R.PSW_STATUS w] := by
  unfold State.egressOpenOne
  split
  · split
    · exact fun _ _ => rfl
    · exact s.sameRegs_refl _
  · exact s.openSwitch_sameRegs w

theorem State.egressOpenOne_pswClosed {s : State} {w : Nat} (h : s.egressMarked w = false) : (s.egressOpenOne w).pswClosed w = false := by
  rw [State.egressOpenOne, if_neg (by simp [h]), s.openSwitch_pswClosed]

/-- A switch that the egress configuration does not mark is open. -/
theorem State.egressOpen_pswClosed {s : State} {w : Fin 12} (h : s.egressMarked w = false) : s.egressOpen.pswClosed w = false := by
  rw [State.egressOpen_eq]
  refine State.each_at (P := fun u => u.pswClosed w = false) (Q := fun u => u.egressMarked w = false) (g := fun w s => s.egressOpenOne w)
    (List.mem_range.2 w.isLt) List.nodup_range (fun u hu => State.egressOpenOne_pswClosed hu)
    (fun k hk u => ⟨fun hu => ?_, fun hu => ?_⟩) h
  · rw [(u.egressOpenOne_safeKept k).egressMarked, hu]
  · have hne : R.PSW_STATUS w ∉ [R.PSW_STATUS k] := by simp only [R.PSW_STATUS, List.mem_singleton]; omega
    rw [State.pswClosed, (u.egressOpenOne_sameRegs k).flag _ hne, ← State.pswClosed, hu]

theorem State.PlanOnly.stageState {b t : State} (h : b.PlanOnly t) (n : Fin 8) : t.stageState n = b.stageState n := by
  rw [State.stageState, State.f, h.2 _ (stageStatus_not_planReg n n.isLt), ← State.f, ← State.stageState]

theorem State.PlanOnly.pswClosed {b t : State} (h : b.PlanOnly t) (w : Fin 12) : t.pswClosed w = b.pswClosed w := by
  have hne : ¬ PlanReg (R.PSW_STATUS w) := by
    intro h
    obtain ⟨n, h⟩ := h.offset
    simp only [R.PSW_STATUS] at h
    omega
  rw [State.pswClosed, State.flag, State.f, h.2 _ hne, ← State.f, ← State.flag, ← State.pswClosed]

theorem State.safeAction_safeOn (s : State) (id inst : Nat) : (s.safeAction id inst).safeOn = true := by
  have hopen := State.egressOpen_safeKept ({ s with safeOn := true, releasing := false } : State).allOff
  have hoff := State.allOff_safeKept { s with safeOn := true, releasing := false }
  rw [s.safeAction_eq, (State.safeTail_planOnly _ id inst).1]
  dsimp only
  rw [hopen.1, hoff.1]

theorem State.safeAction_stageState (s : State) (id inst : Nat) (n : Fin 8) : (s.safeAction id inst).stageState n = stOff := by
  rw [s.safeAction_eq, (State.safeTail_planOnly _ id inst).stageState]
  have hstage : R.STAGE_STATUS n ∉ (List.range 12).map R.PSW_STATUS := by
    simp only [R.STAGE_STATUS, R.PSW_STATUS, List.mem_map, List.mem_range]
    omega
  rw [State.stageState, (State.egressOpen_sameRegs _).f _ hstage, ← State.stageState, State.allOff_stageState]

/-- A Safe-state opens every switch that the egress configuration does not mark. -/
theorem State.safeAction_pswClosed {s : State} (id inst : Nat) {w : Fin 12} (h : s.egressMarked w = false) :
    (s.safeAction id inst).pswClosed w = false := by
  rw [s.safeAction_eq, (State.safeTail_planOnly _ id inst).pswClosed]
  refine State.egressOpen_pswClosed ?_
  rw [(State.allOff_safeKept _).egressMarked]
  exact h

/-! What each class of report does. -/

theorem State.shown_safeKept (s : State) (id inst : Nat) : s.safeKept (s.shown id inst) := by
  rw [s.shown_frame]
  exact ⟨rfl, rfl, rfl, rfl⟩

theorem State.noted_safeKept (s : State) (id inst : Nat) (record : List Byte) : s.safeKept (s.noted id inst record) :=
  (s.shown_safeKept id inst).trans ⟨rfl, rfl, rfl, rfl⟩

theorem State.SignalOnly.safeKept {b t : State} (h : b.SignalOnly t) : b.safeKept t := by
  refine ⟨?_, ?_, ?_, ?_⟩ <;> rw [h.1]

theorem State.entrySignals_signalOnly (s : State) (id inst cls entered : Nat) (record : List Byte) :
    s.SignalOnly (s.hrwActions id inst cls entered record false) := (State.SignalOnly.refl s).hrwActions

theorem State.safeEntered_safeOn (s : State) (id inst : Nat) (record : List Byte) : (s.safeEntered id inst record).safeOn = true := by
  unfold State.safeEntered
  dsimp only
  split
  · assumption
  · exact State.safeAction_safeOn _ _ _

/-- The Safe-state that a report begins: every stage off, and each switch open that the egress configuration does not mark. -/
theorem State.safeEntered_stops {s : State} (id inst : Nat) (record : List Byte) (h : s.safeOn = false) :
    (∀ n : Fin 8, (s.safeEntered id inst record).stageState n = stOff) ∧
    ∀ w : Fin 12, s.egressMarked w = false → (s.safeEntered id inst record).pswClosed w = false := by
  have hkept := (s.entrySignals_signalOnly id inst 4 4 record).safeKept
  unfold State.safeEntered
  dsimp only
  rw [if_neg (by rw [hkept.1, h]; decide)]
  exact ⟨State.safeAction_stageState _ id inst, fun w hw => State.safeAction_pswClosed id inst (by rw [hkept.egressMarked, hw])⟩

/-- A trip of a stage's own fault trips the stage. -/
theorem State.holdUnit_stage {s : State} {n : Fin 8} (hr : s.stageRuns n = true) : (s.holdUnit 0x21 n).stageState n = stTripped := by
  have hunit : s.unitStages 0x21 n = [n.val] := by simp [State.unitStages, n.isLt]
  have hcharge (h : HrwInst) : unitCharge 0x21 h = false := by simp [unitCharge]; decide
  have hpack (h : HrwInst) : unitPack 0x21 h = false := by simp [unitPack]
  have hpair (h : HrwInst) : unitPair 0x21 h = none := by simp [unitPair]
  have hstage : R.STAGE_STATUS n ∉ [R.DRILL_STATUS] := by simp only [R.STAGE_STATUS, R.DRILL_STATUS, List.mem_singleton]; omega
  have hheld : s.holdUnit 0x21 n = (s.tripStage n).trigReval 0x0004 := by
    unfold State.holdUnit
    simp [hunit, hcharge, hpack, hpair, hr]
  rw [hheld, State.stageState, (State.trigReval_sameRegs _ _).f _ hstage, ← State.stageState, State.tripStage_stageState hr]

/-- What a report of a stage's over-current does to a stage that runs. -/
theorem State.activeEntered_trips {s : State} {n : Fin 8} {cls : Nat} (record : List Byte) (hcls : cls ≠ 1) (hr : s.stageRuns n = true) :
    (s.activeEntered 0x21 n cls record).stageState n = stTripped := by
  have hsig := s.entrySignals_signalOnly 0x21 n cls 1 record
  have hne : ¬ SignalReg (R.STAGE_STATUS n) := by
    intro h
    have h := h.offset
    simp only [R.STAGE_STATUS] at h
    omega
  have hruns : (s.hrwActions 0x21 n cls 1 record false).stageRuns n = true := by
    rw [State.stageRuns, State.stageState, State.f, hsig.2 _ hne, ← State.f, ← State.stageState, ← State.stageRuns, hr]
  unfold State.activeEntered
  dsimp only
  rw [if_neg hcls]
  exact State.holdUnit_stage hruns

/-! The command. -/

theorem State.settleN_quiet {s : State} (n : Nat) (h : s.raised = []) : s.settleN n = s := by
  cases n with
  | zero => rw [State.settleN, ← h]
  | succ n => rw [State.settleN, if_pos (by simp [h])]

/-- One report of a quiet state settles as that report, and what it raises after it. -/
theorem State.settle_raise {s : State} (h : s.raised = []) (id inst : Nat) (record : List Byte) :
    (s.raise id inst record).settle = (s.report id (inst % 16) (padTo 16 record)).settleN 5 := by
  have hround : (s.raise id inst record).settleRound = s.report id (inst % 16) (padTo 16 record) := by
    have hback : { s.raise id inst record with raised := [] } = s := by rw [State.raise, ← h]
    rw [State.settleRound, hback, State.raise, h]
    rfl
  rw [State.settle, State.settleN, hround, if_neg (by simp [State.raise])]

/-- The count of a corrected read of the code flash, where the report is of one. -/
def State.flashCounted (s : State) (id : Nat) : State := if id = 0xA7 then s.bump R.CFL_STATUS F.CFL_STATUS_CORR 1 else s

theorem State.flashCounted_frame (s : State) (id : Nat) :
    s.flashCounted id = { s with regs := (s.flashCounted id).regs, cycle := (s.flashCounted id).cycle } := by
  unfold State.flashCounted
  split
  · rfl
  · rfl

theorem State.flashCounted_sameRegs (s : State) (id : Nat) : s.sameRegs (s.flashCounted id) [R.CFL_STATUS] :=
  ((s.sameRegs_refl _).bump (List.mem_singleton_self _) _ _).ite (s.sameRegs_refl _)

theorem State.flashCounted_hrwInst (s : State) (k id inst : Nat) : (s.flashCounted k).hrwInst id inst = s.hrwInst id inst := by
  rw [s.flashCounted_frame]
  rfl

theorem State.flashCounted_safeKept (s : State) (id : Nat) : s.safeKept (s.flashCounted id) := by
  rw [s.flashCounted_frame]
  exact ⟨rfl, rfl, rfl, rfl⟩

theorem State.flashCounted_effClass (s : State) (k : Nat) (id : Fin 256) : (s.flashCounted k).effClass id = s.effClass id := by
  have hne : R.HRW_ID_CFG id ∉ [R.CFL_STATUS] := by simp only [R.HRW_ID_CFG, R.CFL_STATUS, List.mem_singleton]; omega
  rw [State.effClass, (s.flashCounted_sameRegs k).f _ hne, (s.flashCounted_sameRegs k).f _ hne, ← State.effClass]

theorem State.flashCounted_stageRuns (s : State) (k : Nat) (n : Fin 8) : (s.flashCounted k).stageRuns n = s.stageRuns n := by
  have hne : R.STAGE_STATUS n ∉ [R.CFL_STATUS] := by simp only [R.STAGE_STATUS, R.CFL_STATUS, List.mem_singleton]; omega
  rw [State.stageRuns, State.stageState, (s.flashCounted_sameRegs k).f _ hne, ← State.stageState, ← State.stageRuns]

theorem State.noted_stageRuns (s : State) (id inst : Nat) (record : List Byte) (n : Fin 8) :
    (s.noted id inst record).stageRuns n = s.stageRuns n := by
  have hne : R.STAGE_STATUS n ∉ [R.HRW_STATUS] := by simp only [R.STAGE_STATUS, R.HRW_STATUS, List.mem_singleton]; omega
  rw [State.noted, State.stageRuns, State.stageState, State.f, State.setHrw_rd_of, ← State.f, (s.shown_sameRegs id inst).f _ hne,
    ← State.stageState, ← State.stageRuns]

/-- A report of Degrade, Trip or Lockout in a CLEAR instance. -/
theorem State.report_of_active {s : State} {id inst : Nat} (record : List Byte) (hd : defaultClass id ≠ none)
    (hst : (s.hrwInst id inst).st = .clear) (h0 : s.effClass id ≠ 0) (h4 : s.effClass id ≠ 4) :
    s.report id inst record = (s.noted id inst record).activeEntered id inst (s.effClass id) record := by
  unfold State.report
  rw [if_neg (State.report_isSome hd)]
  simp [State.noted, State.activeEntered, State.shown, State.counted, HrwInst.reported, hst, h0, h4]

/-- What a report leaves of its instance. -/
theorem State.report_hrwInst {s : State} {id inst : Nat} (record : List Byte) (hd : defaultClass id ≠ none) :
    (s.report id inst record).hrwInst id inst = (s.counted id inst record).reported (s.effClass id) := by
  rw [(State.report_faultOnly record hd).hrwInst, State.noted, State.hrwInst_setHrw]

theorem State.report_status {s : State} {id : Fin 256} {inst : Fin 16} (record : List Byte) (hd : defaultClass id ≠ none) :
    (s.report id inst record).f R.HRW_STATUS F.HRW_STATUS_LAST_ID = id ∧
    (s.report id inst record).f R.HRW_STATUS F.HRW_STATUS_LAST_INST = inst := by
  have hkeep (g : Fld) : (s.report id inst record).f R.HRW_STATUS g = (s.shown id inst).f R.HRW_STATUS g := by
    rw [(State.report_faultOnly record hd).hrwStatus, State.noted, State.setHrw_f_of]
  rw [hkeep, hkeep]
  exact s.shown_status id inst

/-- Settles O54: a report notes itself in its instance, the instance takes the state of its class, and the class's own action follows; the command is
this report, settled. -/
theorem faultReportsFollowTheirClass : Obligations.FaultReportsFollowTheirClass := by
  unfold Obligations.FaultReportsFollowTheirClass
  intro s id inst record hl
  have hexec : exec (.faultReport id inst record) s = .next ((s.flashCounted id).raise id inst record).settle :=
    exec_powered (g := fun s => (s.flashCounted id).raise id inst record) hl rfl
  have hquiet : (s.flashCounted id).raised = [] := by rw [s.flashCounted_frame]; exact hl.2
  rw [State.settle_raise hquiet, Nat.mod_eq_of_lt inst.isLt] at hexec
  refine ⟨⟨_, hexec⟩, fun hd => ?_, fun hd => ?_⟩
  · have h7 : id.val ≠ 0xA7 := fun h => by rw [h] at hd; exact absurd hd (by decide)
    have hflash : s.flashCounted id = s := if_neg h7
    have hnone : s.report id inst (padTo 16 record) = s := by rw [State.report, if_pos (by simp [hd])]
    rw [hexec, hflash, hnone, State.settleN_quiet 5 hl.2]
  · have hcls := s.flashCounted_effClass id id
    have hinst := s.flashCounted_hrwInst id id inst
    have hkept := s.flashCounted_safeKept id
    have hruns := s.flashCounted_stageRuns id
    have hflash : (if id.val = 0xA7 then s.bump R.CFL_STATUS F.CFL_STATUS_CORR 1 else s) = s.flashCounted id := rfl
    dsimp only
    rw [hflash, ← hcls, ← hinst]
    simp only [← hruns, ← hkept.egressMarked, ← hkept.1]
    generalize s.flashCounted id = c at hexec
    obtain ⟨hid, hin⟩ := State.report_status (s := c) (inst := inst) (padTo 16 record) hd
    obtain ⟨hoccur, hrecord⟩ := HrwInst.reported_note (c.counted id inst (padTo 16 record)) (c.effClass id)
    have hu := State.report_hrwInst (s := c) (inst := inst) (padTo 16 record) hd
    have hnoted := c.noted_safeKept id inst (padTo 16 record)
    refine ⟨fun hr => by rw [hexec, State.settleN_quiet 5 hr], hid, hin, by rw [hu, hoccur]; rfl, ?_, fun hclear => ⟨?_, ?_, ?_, ?_⟩, ?_, ?_, ?_⟩
    · rw [hu, hrecord]
      exact padTo_padTo 16 record
    · intro h0
      simp [hu, HrwInst.reported, State.counted, hclear, h0]
    · intro h1 h3
      have h0 : c.effClass id ≠ 0 := by omega
      have h4 : c.effClass id ≠ 4 := by omega
      simp [hu, HrwInst.reported, State.counted, hclear, h0, h4]
    · intro h4
      refine ⟨by simp [hu, HrwInst.reported, State.counted, hclear, h4], ?_⟩
      rw [State.report_of_safe _ hd h4 (by simp [hclear]) (by simp [hclear]), State.safeEntered_safeOn]
    · intro n hstage hn h2 h3 hr
      have hrun : (c.noted id inst (padTo 16 record)).stageRuns n = true := by rw [c.noted_stageRuns, hr]
      have htrip := State.activeEntered_trips (cls := c.effClass id) (padTo 16 record) (by omega) hrun
      rw [State.report_of_active _ hd hclear (by omega) (by omega)]
      rw [hstage, hn] at htrip ⊢
      exact htrip
    · intro h4 hlocked hsafe hoff
      rw [State.report_of_safe _ hd h4 hlocked hsafe]
      obtain ⟨hstages, hswitches⟩ := State.safeEntered_stops (s := c.noted id inst (padTo 16 record)) id inst (padTo 16 record) (by rw [hnoted.1, hoff])
      exact ⟨hstages, fun w hw => hswitches w (by rw [hnoted.egressMarked, hw])⟩
    · intro h4 hquiet
      simp [hu, HrwInst.reported, State.counted, hquiet, h4]
    · intro hlocked
      simp [hu, HrwInst.reported, State.counted, hlocked]

end Sys2Proof.Machine
end

section
/-! Recovery of an instance (R377–R379). -/

namespace Sys2Proof.Machine

/-! A cause that has ended. -/

/-- A lock of a PLL, where the report was of it. -/
def State.pllLocked (s : State) (id inst : Nat) : State :=
  if id = 0x04 ∧ inst = 3 then s.setF R.CLK_STATUS F.CLK_STATUS_PLLA_LOCK 1
  else if id = 0x04 ∧ inst = 6 then s.setF R.CLK_STATUS F.CLK_STATUS_PLLB_LOCK 1 else s

theorem State.pllLocked_frame (s : State) (id inst : Nat) : s.pllLocked id inst = { s with regs := (s.pllLocked id inst).regs } := by
  unfold State.pllLocked
  split
  · rfl
  split
  · rfl
  · rfl

theorem State.pllLocked_sameRegs (s : State) (id inst : Nat) : s.sameRegs (s.pllLocked id inst) [R.CLK_STATUS] := by
  have ho := List.mem_cons_self (a := R.CLK_STATUS) (l := [])
  exact ((s.sameRegs_refl _).setF ho _ _).ite (((s.sameRegs_refl _).setF ho _ _).ite (s.sameRegs_refl _))

theorem State.pllLocked_of_ne (s : State) {id : Nat} (inst : Nat) (h : id ≠ 4) : s.pllLocked id inst = s := by simp [State.pllLocked, h]

/-- A cause that has ended is gone after the lock of its PLL as well. -/
theorem State.pllLocked_causePresent {s : State} {id inst : Nat} {h : HrwInst} (hc : h.cause = false)
    (hgone : (s.setHrw id inst h).causePresent id inst = false) :
    ((s.pllLocked id inst).setHrw id inst h).causePresent id inst = false := by
  by_cases h4 : id = 4
  · subst h4
    simp [State.causePresent, lastingIds, hc]
  · rw [s.pllLocked_of_ne inst h4, hgone]

theorem State.lockUnit_raised (s : State) (id inst : Nat) : (s.lockUnit id inst).raised = s.raised := by
  refine foldl_keeps (f := State.raised) (fun t n => ?_) _ _
  split
  · rfl
  · rfl

/-- The state of an instance whose cause has ended, as its class tells it. -/
theorem State.causeGone_hrwInst {s : State} {id inst : Nat} {h : HrwInst} (hh : s.hrwInst id inst = h) (hst : h.st = .active)
    (hended : lastingIds.contains id = true ∨ h.tick ≠ s.tick)
    (hgone : (s.setHrw id inst { h with cause := false }).causePresent id inst = false) :
    (s.causeGone id inst).raised = s.raised ∧
    (h.cls = 1 → ((s.causeGone id inst).hrwInst id inst).st = .clear) ∧
    (h.cls = 2 → ((s.causeGone id inst).hrwInst id inst).st = .quiet ∧
      ((s.causeGone id inst).hrwInst id inst).quietAt = s.cyc + s.quietCycles id) ∧
    (h.cls = 3 → ((s.causeGone id inst).hrwInst id inst).st = .locked) := by
  have hcause : (h.cause && !lastingIds.contains id && h.tick == s.tick) = false := by
    rcases hended with hl | ht
    · rw [hl]
      simp
    · simp [ht]
  have hpass : s.causeGone id inst = (s.setHrw id inst { h with cause := false }).passOn id inst := by
    rw [State.causeGone, hh, hcause, hgone, if_neg Bool.false_ne_true]
  rw [hpass, State.passOn, State.hrwInst_setHrw, hgone, hst]
  dsimp only
  refine ⟨?_, fun h1 => ?_, fun h2 => ?_, fun h3 => ?_⟩
  · rw [if_neg (by simp)]
    split
    · rfl
    split
    · rfl
    · rw [State.lockUnit_raised]
      rfl
  · rw [if_neg (by simp), if_pos h1, State.hrwInst_setHrw]
  · rw [if_neg (by simp), if_neg (by omega), if_pos h2, State.hrwInst_setHrw]
    exact ⟨rfl, rfl⟩
  · rw [if_neg (by simp), if_neg (by omega), if_neg (by omega), ((State.FaultOnly.refl _).lockUnit).hrwInst, State.hrwInst_setHrw]

/-! A quiet period that ends. -/

section
variable {s : State} {id inst : Nat} (hst : (s.hrwInst id inst).st = .quiet) (hat : (s.hrwInst id inst).quietAt ≤ s.cyc)
include hst hat

theorem State.quietEnd_of_few
    (hr : (s.recentRecov (s.hrwInst id inst)).length < max 1 (s.f R.HRW_RECOVERY F.HRW_RECOVERY_REC_LIMIT)) :
    s.quietEnd id inst = (s.setHrw id inst { s.hrwInst id inst with
      st := .clear, recov := s.cyc :: s.recentRecov (s.hrwInst id inst) }).releaseUnit id inst (s.hrwInst id inst) := by
  rw [State.quietEnd, if_pos ⟨hst, hat⟩]
  dsimp only
  rw [if_pos hr]

theorem State.quietEnd_of_many
    (hr : max 1 (s.f R.HRW_RECOVERY F.HRW_RECOVERY_REC_LIMIT) ≤ (s.recentRecov (s.hrwInst id inst)).length) :
    s.quietEnd id inst = ((s.setHrw id inst { s.hrwInst id inst with
      st := .locked, recov := s.recentRecov (s.hrwInst id inst) }).lockUnit id inst).hrwActions id inst 3 3 (s.hrwInst id inst).record true := by
  rw [State.quietEnd, if_pos ⟨hst, hat⟩]
  dsimp only
  rw [if_neg (Nat.not_lt.2 hr)]

end

/-- A stage that its own fault alone held is READY once the fault lets it go. -/
theorem State.releaseUnit_stage {s : State} {n : Fin 8} (h : HrwInst) (hst : s.stageState n = stTripped)
    (hheld : (s.releaseUnit 0x21 n h).heldStage n = false) : (s.releaseUnit 0x21 n h).stageState n = stReady := by
  have hunit : s.unitStages 0x21 n = [n.val] := by simp [State.unitStages, n.isLt]
  have hcharge : unitCharge 0x21 h = false := by simp [unitCharge]; decide
  have hpack : unitPack 0x21 h = false := by simp [unitPack]
  have hrelease : s.releaseUnit 0x21 n h = if ¬ s.heldStage n = true then s.setStageState n stReady else s := by
    unfold State.releaseUnit
    simp [hunit, hcharge, hpack, hst, stTripped, stLocked]
  by_cases hs : s.heldStage n = true
  · rw [hrelease, if_neg (not_not.2 hs), hs] at hheld
    cases hheld
  · rw [hrelease, if_pos hs, s.stageState_setStageState n (by decide)]

/-! A clear by software (R379). -/

theorem State.FaultOnly.safeLift {b s : State} (h : b.FaultOnly s) : b.FaultOnly s.safeLift := by
  have hoff : b.FaultOnly ({ s with safeOn := false } : State) := h.update
  have hstages := (hoff.setF .drillStatus (fld := F.DRILL_STATUS_SAFE) (v := 0)).each (ks := List.range 8)
    (g := fun n s => (s.stopStage n stOff).startIdent n) fun _ _ hu => hu.stopStage.startIdent
  have hswitches := (hstages.each (ks := List.range 12) (g := fun w s => s.setPsw w { s.psw w with egressTrip := false })
    fun _ _ hu => hu.setPsw).each (ks := List.range 12)
    (g := fun w s => if s.pswRole w = 2 ∧ ¬ (s.pswEgress w ∧ s.pswClosed w) then s.openSwitch w else s) fun _ _ hu => hu.openSwitch.ite hu
  exact hswitches.update

theorem State.FaultOnly.startClosing {b s : State} {x : Nat} (h : b.FaultOnly s) : b.FaultOnly (s.startClosing x) := by
  unfold State.startClosing
  split
  · split
    · exact h.setSupply
    · exact h.setSupState.setSupply.closeSwitch.setPsw
  · exact h

theorem State.FaultOnly.releaseSupplies {b s : State} (h : b.FaultOnly s) : b.FaultOnly s.releaseSupplies :=
  h.ite (h.each fun _ _ hu => hu.startClosing.ite hu)

/-- The state of a cleared instance, its latch emptied where it had one. -/
def State.clearedLatch (s : State) (id inst : Nat) : State :=
  let s := s.setHrw id inst { s.hrwInst id inst with st := .clear, recov := [] }
  if (id = 0x50 ∨ id = 0x51 ∨ id = 0x54) ∧ s.f (R.PACK_CHG_FAULT inst) F.PACK_CHG_FAULT_CAUSE = id then s.emptyLatch inst else s

theorem State.emptyLatch_hrwInst (s : State) (i id inst : Nat) : (s.emptyLatch i).hrwInst id inst = s.hrwInst id inst := rfl

theorem State.clearedLatch_hrwInst (s : State) (id inst : Nat) :
    (s.clearedLatch id inst).hrwInst id inst = { s.hrwInst id inst with st := .clear, recov := [] } := by
  unfold State.clearedLatch
  dsimp only
  split
  · rw [State.emptyLatch_hrwInst, State.hrwInst_setHrw]
  · rw [State.hrwInst_setHrw]

/-- A clear that is not refused: the instance is empty, and what it held is let go. -/
theorem State.softClear_of_zero {s : State} {id inst : Nat} (h : s.clearCause id inst = 0) :
    (s.clearedLatch id inst).FaultOnly (s.softClear id inst).1 ∧ (s.softClear id inst).2 = 0 := by
  have hrefl := State.FaultOnly.refl (s.clearedLatch id inst)
  have hform : s.softClear id inst = if (s.hrwInst id inst).st = .safe then
      (if (s.clearedLatch id inst).anySafe then (s.clearedLatch id inst, 0) else ((s.clearedLatch id inst).safeLift.releaseSupplies, 0))
      else ((s.clearedLatch id inst).releaseUnit id inst (s.hrwInst id inst), 0) := by
    rw [State.softClear, h, if_neg (by decide), if_neg (by decide)]
    rfl
  rw [hform]
  split
  · split
    · exact ⟨hrefl, rfl⟩
    · have hlift := hrefl.safeLift.releaseSupplies
      dsimp only
      exact ⟨hlift, rfl⟩
  · have hrelease := hrefl.releaseUnit (id := id) (inst := inst) (cpl := s.hrwInst id inst)
    dsimp only
    exact ⟨hrelease, rfl⟩

theorem State.clearCause_le (s : State) (id inst : Nat) : s.clearCause id inst ≤ 5 := by
  unfold State.clearCause
  dsimp only
  repeat' split
  all_goals omega

/-- A clear that is refused shows its cause, and at most the refusal of the charge register. -/
theorem State.softClear_of_ne {s : State} {id inst : Nat} (hr : s.raised = []) (h : s.clearCause id inst ≠ 0) :
    s.onlyRegs (s.softClear id inst).1 [R.HRW_CLEAR_RESULT, R.PACK_CHG_STATUS inst] [] ∧
      (s.softClear id inst).2 = s.clearCause id inst := by
  have hrefl := State.onlyRegs_refl hr [R.HRW_CLEAR_RESULT, R.PACK_CHG_STATUS inst]
  unfold State.softClear
  dsimp only
  split
  · exact ⟨hrefl.hwSet (by simp) _ _, rfl⟩
  · exact ⟨hrefl, rfl⟩

/-- Settles O55: a cause that ends, a quiet period that ends and a software clear each give the instance the state of its class. -/
theorem instancesRecoverByTheirClass : Obligations.InstancesRecoverByTheirClass := by
  unfold Obligations.InstancesRecoverByTheirClass
  intro s id inst hl
  dsimp only
  refine ⟨fun hst hended hgone => ?_, fun hst hat => ?_, fun hst hat => ?_, fun p v hid hinst => ⟨fun hc => ?_, fun hc => ?_⟩⟩
  · have hexec := exec_powered (c := .faultCauseGone id inst) (g := fun s => (s.pllLocked id inst).causeGone id inst) hl rfl
    have hsame : (s.pllLocked id inst).hrwInst id inst = s.hrwInst id inst ∧ (s.pllLocked id inst).tick = s.tick ∧
        (s.pllLocked id inst).cyc = s.cyc ∧ (s.pllLocked id inst).raised = s.raised := by
      rw [s.pllLocked_frame]
      exact ⟨rfl, rfl, rfl, rfl⟩
    obtain ⟨hh, htick, hcyc, hraised⟩ := hsame
    have hcfg : R.HRW_ID_CFG id ∉ [R.CLK_STATUS] := by simp only [R.HRW_ID_CFG, R.CLK_STATUS, List.mem_singleton]; omega
    have hquiet : (s.pllLocked id inst).quietCycles id = s.quietCycles id := by
      rw [State.quietCycles, (s.pllLocked_sameRegs id inst).f _ hcfg, ← State.quietCycles]
    obtain ⟨hkeep, hclear, hwait, hlock⟩ := State.causeGone_hrwInst hh hst (by rw [htick]; exact hended) (State.pllLocked_causePresent rfl hgone)
    rw [hcyc, hquiet] at hwait
    refine ⟨_, hexec, ?_⟩
    rw [State.settle_quiet (by rw [hkeep, hraised, hl.2])]
    exact ⟨hclear, hwait, hlock⟩
  · refine ⟨s.quietEnd id inst, exec_powered hl rfl, fun hr => ?_, fun hr => ?_⟩
    · rw [State.quietEnd_of_few hst hat hr, ((State.FaultOnly.refl _).releaseUnit).hrwInst, State.hrwInst_setHrw]
      refine ⟨rfl, rfl, fun n hn hi htrip hheld => ?_⟩
      rw [hn, hi] at hheld ⊢
      exact State.releaseUnit_stage _ htrip hheld
    · rw [State.quietEnd_of_many hst hat hr, ((State.FaultOnly.refl _).lockUnit.hrwActions).hrwInst, State.hrwInst_setHrw]
  · have hnone : s.quietEnd id inst = s := by rw [State.quietEnd, if_neg fun h => absurd h.2 (Nat.not_le.2 hat)]
    rw [exec_powered (g := fun s => s.quietEnd id inst) hl rfl, hnone, State.settle_quiet hl.2]
  · obtain ⟨honly, hcode⟩ := State.softClear_of_ne hl.2 hc
    have hexec := exec_powered (c := .hrwClear p v) (g := fun s => (s.clearFault (getBits v 0 8) (getBits v 8 4)).1) hl rfl
    have hall := honly.setF (o := R.HRW_CLEAR_RESULT) (by simp) F.HRW_CLEAR_RESULT_CAUSE (s.clearCause id inst)
    have hcause := s.clearCause_le id inst
    rw [hid, hinst, State.clearFault, hcode, State.settle_quiet hall.raised] at hexec
    refine ⟨_, hexec, hall, ?_⟩
    rw [State.f_setF_same _ _ _ _ (by decide)]
    exact Nat.mod_eq_of_lt (by simp only [F.HRW_CLEAR_RESULT_CAUSE]; omega)
  · obtain ⟨hfault, hcode⟩ := State.softClear_of_zero hc
    have hexec := exec_powered (c := .hrwClear p v) (g := fun s => (s.clearFault (getBits v 0 8) (getBits v 8 4)).1) hl rfl
    have hh := hfault.hrwInst id inst
    rw [s.clearedLatch_hrwInst id inst] at hh
    rw [hid, hinst, State.clearFault, hcode] at hexec
    refine ⟨_, hexec, ?_, ?_, ?_⟩
    · rw [State.setF_hrwInst_of, hh]
    · rw [State.setF_hrwInst_of, hh]
    · rw [State.f_setF_same _ _ _ _ (by decide)]
      rfl

end Sys2Proof.Machine
end

section
/-! The Safe-state's switches, and the injection of a check-bit error (R37, R39, R384). -/

namespace Sys2Proof.Machine

/-! Closing the marked switches. -/

theorem State.closeSwitch_frame (s : State) (w : Nat) :
    s.closeSwitch w = { s with regs := (s.closeSwitch w).regs, psws := (s.closeSwitch w).psws } := by
  unfold State.closeSwitch
  split
  · rfl
  · rfl

theorem State.closeSwitch_psw_other (s : State) {k w : Nat} (h : w ≠ k) : (s.closeSwitch k).psw w = s.psw w := by
  unfold State.closeSwitch
  split
  · rfl
  · rw [State.psw_setPsw_ne _ _ h]
    rfl

theorem State.closeSwitch_pswClosed (s : State) (w : Nat) : (s.closeSwitch w).pswClosed w = true := by
  unfold State.closeSwitch
  split
  · assumption
  · rw [State.pswClosed, State.setPsw_flag_of, State.flag_setF_field _ _ (by decide) (by decide) (.inl (by decide)),
      State.flag_setF_one _ _ (by decide) (by decide)]

theorem State.closeSwitch_pswClosed_other (s : State) {k : Nat} {w : Fin 12} (h : k ≠ w.val) :
    (s.closeSwitch k).pswClosed w = s.pswClosed w := by
  have hne : R.PSW_STATUS w ∉ [R.PSW_STATUS k] := by simp only [R.PSW_STATUS, List.mem_singleton]; omega
  rw [State.pswClosed, (s.closeSwitch_sameRegs k).flag _ hne, ← State.pswClosed]

/-- How the egress configuration treats one switch as it closes those it marks. -/
def State.egressCloseOne (s : State) (w : Nat) : State :=
  if s.egressMarked w ∧ ¬ (s.psw w).egressTrip ∧ ¬ (s.psw w).hold ∧ ¬ s.switchHeld w
    ∧ ¬ (s.sys.longPress ∧ [0, 1, 2, 3].any (fun i => s.seriesOf (8 + i) == some w)) then s.closeSwitch w else s

theorem State.egressClose_eq (s : State) : s.egressClose = s.each (List.range 12) (fun w s => s.egressCloseOne w) := rfl

theorem State.egressCloseOne_frame (s : State) (w : Nat) :
    s.egressCloseOne w = { s with regs := (s.egressCloseOne w).regs, psws := (s.egressCloseOne w).psws } := by
  unfold State.egressCloseOne
  split
  · exact s.closeSwitch_frame w
  · rfl

theorem State.egressCloseOne_stages (s : State) (w : Nat) : (s.egressCloseOne w).stages = s.stages := by rw [s.egressCloseOne_frame]

theorem State.egressCloseOne_raised (s : State) (w : Nat) : (s.egressCloseOne w).raised = s.raised := by rw [s.egressCloseOne_frame]

theorem State.egressClose_raised (s : State) : s.egressClose.raised = s.raised :=
  State.each_keeps (f := State.raised) (fun w u => u.egressCloseOne_raised w) _ s

theorem State.egressClose_stages (s : State) : s.egressClose.stages = s.stages :=
  State.each_keeps (f := State.stages) (fun w u => u.egressCloseOne_stages w) _ s

/-- What closes a switch is told by its own part, and not by another switch. -/
theorem State.egressCloseOne_closes {s u : State} {w : Nat} (hu : u = { s with regs := u.regs, psws := u.psws }) (hp : u.psw w = s.psw w)
    (hmark : s.egressMarked w = true) (htrip : (s.psw w).egressTrip = false) (hhold : (s.psw w).hold = false)
    (hheld : s.switchHeld w = false) (hlong : s.sys.longPress = false ∨ (∀ i : Fin 4, s.seriesOf (8 + i.val) ≠ some w)) :
    u.egressCloseOne w = u.closeSwitch w := by
  have hmark' : u.egressMarked w = s.egressMarked w := by
    apply State.egressMarked_congr <;> rw [hu]
  have hheld' : u.switchHeld w = s.switchHeld w := by
    rw [hu]
    rfl
  have hseries (k : Nat) : u.seriesOf k = s.seriesOf k := by
    rw [hu]
    rfl
  have hsys : u.sys = s.sys := by rw [hu]
  have hno : ¬ (u.sys.longPress = true ∧ [0, 1, 2, 3].any (fun i => u.seriesOf (8 + i) == some w) = true) := by
    rintro ⟨hl, hany⟩
    rcases hlong with hl' | hs
    · rw [hsys, hl'] at hl
      cases hl
    · simp only [List.any_cons, List.any_nil, hseries, Bool.or_false, Bool.or_eq_true, beq_iff_eq] at hany
      rcases hany with h | h | h | h
      · exact hs 0 h
      · exact hs 1 h
      · exact hs 2 h
      · exact hs 3 h
  rw [State.egressCloseOne, if_pos]
  exact ⟨by rw [hmark', hmark], by simp [hp, htrip], by simp [hp, hhold], by simp [hheld', hheld], hno⟩

/-- A marked switch that nothing holds open closes. -/
theorem State.egressClose_pswClosed {s : State} {w : Fin 12} (hmark : s.egressMarked w = true) (htrip : (s.psw w).egressTrip = false)
    (hhold : (s.psw w).hold = false) (hheld : s.switchHeld w = false)
    (hlong : s.sys.longPress = false ∨ (∀ i : Fin 4, s.seriesOf (8 + i.val) ≠ some w.val)) : s.egressClose.pswClosed w = true := by
  rw [State.egressClose_eq]
  refine State.each_at (P := fun u => u.pswClosed w = true) (g := fun w s => s.egressCloseOne w)
    (Q := fun u => u = { s with regs := u.regs, psws := u.psws } ∧ u.psw w = s.psw w)
    (List.mem_range.2 w.isLt) List.nodup_range (fun u hu => ?_) (fun k hk u => ⟨fun hu => ⟨?_, ?_⟩, fun hu => ?_⟩) ⟨rfl, rfl⟩
  · rw [State.egressCloseOne_closes hu.1 hu.2 hmark htrip hhold hheld hlong, State.closeSwitch_pswClosed]
  · rw [u.egressCloseOne_frame, hu.1]
  · unfold State.egressCloseOne
    split
    · rw [u.closeSwitch_psw_other (Ne.symm hk), hu.2]
    · exact hu.2
  · unfold State.egressCloseOne
    split
    · rw [u.closeSwitch_pswClosed_other hk, hu]
    · exact hu

/-! HRW_INJECT. -/

/-- The read-only flag of an armed injection outlives a write of its register. -/
theorem armed_written (r v : Word) : getBits (((r &&& ~~~accMask R.HRW_INJECT [.rw, .hw]) ||| (v &&& accMask R.HRW_INJECT [.rw, .hw])) &&&
    ~~~(v &&& accMask R.HRW_INJECT [.w1c])) 16 1 = getBits r 16 1 := by
  have hrw : (accMask R.HRW_INJECT [.rw, .hw]).getLsbD 16 = false := by decide +kernel
  have hw1c : (accMask R.HRW_INJECT [.w1c]).getLsbD 16 = false := by decide +kernel
  apply Nat.eq_of_testBit_eq
  intro i
  rw [getBits_testBit (by decide), getBits_testBit (by decide)]
  by_cases hi : i < 1
  · obtain rfl : i = 0 := by omega
    simp only [BitVec.getLsbD_and, BitVec.getLsbD_or, BitVec.getLsbD_not, Nat.add_zero, hrw, hw1c]
    simp
  · simp [hi]

/-- The register with the word written by its access types, before the injection is armed or refused. -/
def State.injectWritten (s : State) (v : Word) : State :=
  (s.loadReg R.HRW_INJECT v).wr R.HRW_INJECT ((s.loadReg R.HRW_INJECT v).rd R.HRW_INJECT &&& ~~~(v &&& accMask R.HRW_INJECT [.w1c]))

theorem State.injectWritten_sameRegs (s : State) (v : Word) : s.sameRegs (s.injectWritten v) [R.HRW_INJECT] := by
  have ho := List.mem_cons_self (a := R.HRW_INJECT) (l := [])
  exact ((s.sameRegs_refl _).wr ho _).wr ho _

theorem State.injectWritten_frame (s : State) (v : Word) : s.injectWritten v = { s with regs := (s.injectWritten v).regs } := rfl

theorem State.injectWritten_armed (s : State) (v : Word) :
    (s.injectWritten v).flag R.HRW_INJECT F.HRW_INJECT_ARMED = s.flag R.HRW_INJECT F.HRW_INJECT_ARMED := by
  rw [State.flag, State.f, State.injectWritten, State.rd_wr_same, State.rd_loadReg_same]
  exact congrArg (fun n => n != 0) (armed_written (s.rd R.HRW_INJECT) v)

theorem State.injectWritten_quietStages (s : State) (v : Word) : (s.injectWritten v).quietStages = s.quietStages := by
  have hstage (n : Nat) (hn : n < 8) : (s.injectWritten v).stageState n = s.stageState n := by
    have hne : R.STAGE_STATUS n ∉ [R.HRW_INJECT] := by simp only [R.STAGE_STATUS, R.HRW_INJECT, List.mem_singleton]; omega
    rw [State.stageState, (s.injectWritten_sameRegs v).f _ hne, ← State.stageState]
  rw [State.quietStages, State.quietStages, (s.injectWritten_frame v)]
  refine congrArg (fun b => s.plan.isEmpty && b) ?_
  rw [Bool.eq_iff_iff, List.all_eq_true, List.all_eq_true]
  exact forall₂_congr fun n hn => by rw [← s.injectWritten_frame v, hstage n (List.mem_range.1 hn)]

/-- The word of a command that arms an injection. -/
def armWord (v : Word) : Word := putBits v F.HRW_INJECT_ARM.lo 1 1

theorem armWord_arm (v : Word) : getBits (armWord v) F.HRW_INJECT_ARM.lo 1 = 1 := getBits_putBits_same v 1 (by decide)

theorem armWord_mem (v : Word) : getBits (armWord v) 0 3 = getBits v 0 3 := getBits_putBits_other v 1 (by decide) (by decide) (.inl (by decide))

/-- An injection may be armed (R384): the fabric is quiet, and the place is one that it may reach by this path. -/
def State.mayInject (s : State) (p : Path) (v : Word) : Prop :=
  s.quietStages = true ∧ getBits v 0 3 ≤ 5 ∧ (getBits v 0 3 = 5 → 0x16000 ≤ s.rdN R.HRW_INJECT_ADDR ∧ s.rdN R.HRW_INJECT_ADDR ≤ 0x1FFFF) ∧
    (getBits v 0 3 = 1 → p = .headland)

/-- The injection armed at a place, with one or two wrong bits. -/
def State.injectArmed (s : State) (v : Word) (bits : Nat) : State :=
  { s with sys := { s.sys with injMem := getBits v 0 3, injAddr := s.rdN R.HRW_INJECT_ADDR, injBits := bits } }.setF
    R.HRW_INJECT F.HRW_INJECT_ARMED 1

theorem State.mayInject_iff (s : State) (p : Path) (v : Word) : s.mayInject p v ↔ ¬ (!s.quietStages || decide (5 < getBits v 0 3) ||
    (getBits v 0 3 == 5 && decide (s.rdN R.HRW_INJECT_ADDR < 0x16000 ∨ 0x1FFFF < s.rdN R.HRW_INJECT_ADDR)) ||
    (getBits v 0 3 == 1 && p != .headland)) = true := by
  rw [State.mayInject]
  simp only [Bool.or_eq_true, Bool.and_eq_true, Bool.not_eq_true', decide_eq_true_eq, beq_iff_eq, bne_iff_ne]
  cases s.quietStages
  · simp
  · simp only [Bool.true_eq_false, false_or, true_and]
    simp only [not_or, not_and, not_lt, ne_eq, not_not, and_assoc]

/-- A command that arms an injection writes the register, and then arms it or refuses. -/
theorem State.writeInject_eq (s : State) (p : Path) (v : Word) : ∃ bits : Nat, (s.mayInject p v →
    s.writeInject p (armWord v) = (s.injectWritten (armWord v)).injectArmed v bits) ∧ (¬ s.mayInject p v →
    s.writeInject p (armWord v) = (s.injectWritten (armWord v)).hwSet R.HRW_INJECT F.HRW_INJECT_INJ_REFUSED 1) := by
  have haddr : (s.injectWritten (armWord v)).rdN R.HRW_INJECT_ADDR = s.rdN R.HRW_INJECT_ADDR := by
    rw [State.rdN, s.injectWritten_sameRegs _ _ (by decide), ← State.rdN]
  have hquiet := s.injectWritten_quietStages (armWord v)
  have hmay : s.mayInject p v ↔ (s.injectWritten (armWord v)).mayInject p (armWord v) := by
    rw [State.mayInject, State.mayInject, hquiet, haddr, armWord_mem]
  have harm : ¬ getBits (armWord v) F.HRW_INJECT_ARM.lo 1 = 0 := by rw [armWord_arm]; decide
  refine ⟨if getBits (armWord v) 4 2 = 2 then 2 else 1, fun h => ?_, fun h => ?_⟩
  · have hguard := (State.mayInject_iff _ _ _).1 (hmay.1 h)
    rw [State.writeInject, if_neg harm]
    refine (if_neg hguard).trans ?_
    rw [armWord_mem]
    rfl
  · have hguard := not_not.1 (mt (State.mayInject_iff _ _ _).2 (mt hmay.2 h))
    rw [State.writeInject, if_neg harm]
    exact if_pos hguard

/-! A TIE switch left closed, and an error of check bits. -/

/-- The rails of a TIE switch are in regulation, or their time is over (R39). -/
def State.tieSettled (s : State) (w : Nat) : Prop :=
  (∀ r ∈ s.tieRails w, s.flag (R.RAIL_STATUS r) F.RAIL_STATUS_PGOOD = true) ∨ s.sys.releaseAt + 200000000 ≤ s.cyc

theorem State.tieSettled_iff (s : State) (w : Nat) : s.tieSettled w ↔ ((s.tieRails w).all (fun r => s.flag (R.RAIL_STATUS r) F.RAIL_STATUS_PGOOD)
    || decide (s.sys.releaseAt + 200000000 ≤ s.cyc)) = true := by
  rw [State.tieSettled, Bool.or_eq_true, List.all_eq_true, decide_eq_true_eq]

/-- The state with a TIE switch open, and the note of whether one is still to open. -/
def State.tieReleased (s : State) (w : Nat) : State :=
  { s.openSwitch w with releasing := (List.range 12).any (fun k => (s.openSwitch w).pswRole k == 2 && (s.openSwitch w).pswClosed k) }

theorem exec_egressTieRelease {s : State} (hl : s.live) (w : Fin 12) : exec (.egressTieRelease w) s = .next (if s.releasing ∧ s.pswRole w = 2 ∧
    s.pswClosed w ∧ ((s.tieRails w).all (fun r => s.flag (R.RAIL_STATUS r) F.RAIL_STATUS_PGOOD)
      || decide (s.sys.releaseAt + 200000000 ≤ s.cyc)) then s.tieReleased w else s).settle :=
  exec_powered (g := fun s => if s.releasing ∧ s.pswRole w = 2 ∧ s.pswClosed w ∧ ((s.tieRails w).all (fun r =>
    s.flag (R.RAIL_STATUS r) F.RAIL_STATUS_PGOOD) || decide (s.sys.releaseAt + 200000000 ≤ s.cyc)) then s.tieReleased w else s) hl rfl

theorem exec_egressTieRelease_of_settled {s : State} {w : Fin 12} (hl : s.live)
    (hw : s.releasing = true ∧ s.pswRole w = 2 ∧ s.pswClosed w = true) (hset : s.tieSettled w) :
    exec (.egressTieRelease w) s = .next (s.tieReleased w) := by
  obtain ⟨hrel, hrole, hclosed⟩ := hw
  rw [exec_egressTieRelease hl, if_pos ⟨hrel, hrole, hclosed, (s.tieSettled_iff w).1 hset⟩,
    State.settle_quiet (s := s.tieReleased w) ((s.openSwitch_raised w).trans hl.2)]

theorem exec_egressTieRelease_of_unsettled {s : State} {w : Fin 12} (hl : s.live) (hset : ¬ s.tieSettled w) :
    exec (.egressTieRelease w) s = .next s := by
  rw [exec_egressTieRelease hl, if_neg fun h => hset ((s.tieSettled_iff w).2 h.2.2.2), State.settle_quiet hl.2]

/-- An armed injection at the place of the error has fired. -/
def State.injectFired (s : State) (mem off : Nat) : State :=
  if s.flag R.HRW_INJECT F.HRW_INJECT_ARMED && s.sys.injMem == mem && s.sys.injAddr / 4 == off / 4 then
    (s.setF R.HRW_INJECT F.HRW_INJECT_ARMED 0).hwSet R.HRW_INJECT F.HRW_INJECT_FIRED 1
  else s

theorem State.onlyRegs_injectFired {s : State} (hr : s.raised = []) (mem off : Nat) :
    s.onlyRegs (s.injectFired mem off) [R.HRW_INJECT] [] := by
  have hrefl := State.onlyRegs_refl hr [R.HRW_INJECT]
  exact ((hrefl.setF List.mem_cons_self _ _).hwSet List.mem_cons_self _ _).ite hrefl

theorem exec_memEccError {s : State} {mem : Fin 6} (hl : s.live) (hmem : mem ≠ 5) (two : Bool) (off : Nat) :
    exec (.memEccError mem two off) s = .next (if two then (s.injectFired mem off).raise 0x11 mem (leBytes 4 off)
      else (s.injectFired mem off).raise 0x10 mem []).settle := by
  have hexec := exec_powered (c := .memEccError mem two off) (g := fun s => if mem.val = 5 then s else
    if two then (s.injectFired mem off).raise 0x11 mem (leBytes 4 off) else (s.injectFired mem off).raise 0x10 mem []) hl rfl
  have hval : mem.val ≠ 5 := fun h => hmem (Fin.ext h)
  rw [if_neg hval] at hexec
  exact hexec

/-- Settles O56: a Safe-state closes the switches that the egress configuration marks, lets a TIE switch go in time, and arms an injection on a quiet
fabric alone. -/
theorem safeStateAndInjectionActAsTold : Obligations.SafeStateAndInjectionActAsTold := by
  unfold Obligations.SafeStateAndInjectionActAsTold
  intro s p w hl
  refine ⟨?_, fun hon hlong hmark htrip hhold hheld => ?_, fun hoff => ?_, fun hrel hrole hclosed => ⟨fun hset => ?_, fun hset => ?_⟩,
    fun v => ⟨fun hmay => ?_, fun hmay => ?_⟩, fun mem off hmem => ?_⟩
  · exact ⟨_, exec_powered (c := .safeReq p) (g := fun s => s.raise 0xBE 1 []) hl rfl, (State.onlyRegs_refl hl.2 []).raise _ _ _⟩
  · have hexec := exec_powered (c := .egressClose) (g := fun s => if s.safeOn then s.egressClose else s) hl rfl
    rw [if_pos hon, State.settle_quiet (s.egressClose_raised.trans hl.2)] at hexec
    exact ⟨_, hexec, State.egressClose_pswClosed hmark htrip hhold hheld hlong, s.egressClose_stages⟩
  · have hexec := exec_powered (c := .egressClose) (g := fun s => if s.safeOn then s.egressClose else s) hl rfl
    rw [if_neg (by simp [hoff]), State.settle_quiet hl.2] at hexec
    exact hexec
  · exact ⟨_, exec_egressTieRelease_of_settled hl ⟨hrel, hrole, hclosed⟩ hset, s.openSwitch_pswClosed w, s.openSwitch_sameRegs w⟩
  · exact exec_egressTieRelease_of_unsettled hl hset
  · obtain ⟨bits, harm, -⟩ := s.writeInject_eq p v
    have hexec := exec_powered (c := .hrwInjectArm p v) (g := fun s => s.writeInject p (armWord v)) hl rfl
    have haddr : (s.injectWritten (armWord v)).rdN R.HRW_INJECT_ADDR = s.rdN R.HRW_INJECT_ADDR := by
      rw [State.rdN, s.injectWritten_sameRegs _ _ (by decide), ← State.rdN]
    rw [harm hmay, State.settle_quiet (s := (s.injectWritten (armWord v)).injectArmed v bits) hl.2] at hexec
    refine ⟨_, hexec, ?_, rfl, haddr, ?_⟩
    · rw [State.injectArmed, State.flag_setF_one _ _ (by decide) (by decide)]
    · exact (s.injectWritten_sameRegs _).trans (State.sameRegs.setF (fun _ _ => rfl) List.mem_cons_self _ _)
  · obtain ⟨bits, -, hrefuse⟩ := s.writeInject_eq p v
    have hexec := exec_powered (c := .hrwInjectArm p v) (g := fun s => s.writeInject p (armWord v)) hl rfl
    rw [hrefuse hmay, State.settle_quiet (s := (s.injectWritten (armWord v)).hwSet R.HRW_INJECT F.HRW_INJECT_INJ_REFUSED 1) hl.2] at hexec
    refine ⟨_, hexec, ?_, rfl, ?_, ?_⟩
    · rw [State.hwSet, State.flag_setF_one _ _ (by decide) (by decide)]
    · rw [State.hwSet, State.flag_setF_field _ _ (by decide) (by decide) (.inl (by decide))]
      exact s.injectWritten_armed _
    · exact (s.injectWritten_sameRegs _).hwSet List.mem_cons_self _ _
  · have hfired := s.onlyRegs_injectFired hl.2 mem off
    exact ⟨⟨_, exec_memEccError hl hmem false off, hfired.raise _ _ _⟩, ⟨_, exec_memEccError hl hmem true off, hfired.raise _ _ _⟩⟩

end Sys2Proof.Machine
end

section
/-! What the boot decision of an update changes (R338, R340). -/

namespace Sys2Proof.Machine

/-- A register that a boot decision may write. -/
inductive BootReg : Nat → Prop
  | bbStatus : BootReg R.BB_STATUS
  | nvmStatus : BootReg R.NVM_STATUS

/-- The offsets of these registers. -/
theorem BootReg.offset {o : Nat} (h : BootReg o) : o = 0x802C ∨ o = 0x8000 := by
  cases h with
  | bbStatus => simp [R.BB_STATUS]
  | nvmStatus => simp [R.NVM_STATUS]

/-- `t` differs from `b` in what a boot decision changes alone. -/
def State.BootOnly (b t : State) : Prop :=
  t = { b with
    regs := t.regs, bb := t.bb, cycle := t.cycle, fw := t.fw, nvm := t.nvm, raised := t.raised } ∧
  ∀ o, ¬ BootReg o → t.rd o = b.rd o

theorem State.BootOnly.refl (s : State) : s.BootOnly s := ⟨rfl, fun _ _ => rfl⟩

theorem State.BootOnly.trans {s t u : State} (h : s.BootOnly t) (h' : t.BootOnly u) : s.BootOnly u :=
  ⟨by rw [h'.1, h.1], fun o ho => (h'.2 o ho).trans (h.2 o ho)⟩

theorem State.BootOnly.update {b s : State}
    {bb : BbSt} {cycle : CycleRt} {fw : FwSt} {nvm : NvmSt} {raised : List Raised}
    (h : b.BootOnly s) : b.BootOnly { s with
      bb := bb, cycle := cycle, fw := fw, nvm := nvm, raised := raised } :=
  ⟨by rw [h.1], h.2⟩

theorem State.BootOnly.ite {b s t : State} {c : Prop} [Decidable c] (hs : b.BootOnly s) (ht : b.BootOnly t) :
    b.BootOnly (if c then s else t) := by
  split
  · exact hs
  · exact ht

theorem State.BootOnly.foldl {α : Type} {b s : State} {g : State → α → State} {l : List α} (h : b.BootOnly s)
    (hg : ∀ u a, b.BootOnly u → b.BootOnly (g u a)) : b.BootOnly (l.foldl g s) := by
  induction l generalizing s with
  | nil => exact h
  | cons a l ih => exact ih (hg s a h)

theorem State.BootOnly.raise {b s : State} {id inst : Nat} {record : List Byte} (h : b.BootOnly s) : b.BootOnly (s.raise id inst record)
    :=
  h.update

theorem State.BootOnly.setSpare {b s : State} {bank : FwBank} (h : b.BootOnly s) : b.BootOnly (s.setSpare bank) := h.update.ite h.update

theorem State.BootOnly.noteOld {b s : State} {off : Nat} (h : b.BootOnly s) : b.BootOnly (s.noteOld off) := h.update

theorem State.BootOnly.noteNew {b s : State} {off : Nat} {fld : Fld} {v : Nat} (h : b.BootOnly s) : b.BootOnly (s.noteNew off fld v) :=
  h.noteOld.update

theorem State.BootOnly.wr {b s : State} {off : Nat} {v : Word} (h : b.BootOnly s) (hoff : BootReg off) : b.BootOnly (s.wr off v) :=
  ⟨by rw [State.wr, h.1], fun o ho => (State.rd_wr_other _ _ fun e : o = off => ho (e ▸ hoff)).trans (h.2 o ho)⟩

theorem State.BootOnly.setF {b s : State} {off : Nat} {fld : Fld} {v : Nat} (h : b.BootOnly s) (hoff : BootReg off) :
    b.BootOnly (s.setF off fld v) := h.wr hoff

theorem State.BootOnly.bump {b s : State} {off : Nat} {fld : Fld} {k : Nat} (h : b.BootOnly s) (hoff : BootReg off) :
    b.BootOnly (s.bump off fld k) := h.noteNew.setF hoff

theorem State.BootOnly.bbQueue {b s : State} {kind sub : Nat} {body : List Byte} (h : b.BootOnly s) : b.BootOnly (s.bbQueue kind sub
    body) :=
  State.BootOnly.ite h.update ((h.update.bump .bbStatus).raise)

theorem State.BootOnly.bbFirmware {b s : State} {sub version : Nat} (h : b.BootOnly s) : b.BootOnly (s.bbFirmware sub version) :=
  h.bbQueue

theorem State.BootOnly.setNvmByte {b s : State} {a : Nat} {v : Byte} (h : b.BootOnly s) : b.BootOnly (s.setNvmByte a v) := h.update

theorem State.BootOnly.setNvmGroup {b s : State} {g : Nat} {st : GroupStatus} (h : b.BootOnly s) : b.BootOnly (s.setNvmGroup g st) :=
  h.update

theorem State.BootOnly.clearGroup {b s : State} {g : Nat} (h : b.BootOnly s) : b.BootOnly (s.clearGroup g) :=
  (h.foldl (fun _ _ h0 => h0.setNvmByte)).setNvmGroup

theorem State.BootOnly.showReerase {b s : State} (h : b.BootOnly s) : b.BootOnly s.showReerase := h.setF .nvmStatus

theorem State.BootOnly.unqueuePage {b s : State} {p : Nat} (h : b.BootOnly s) : b.BootOnly (s.unqueuePage p) :=
  State.BootOnly.ite h.update.showReerase h

theorem State.BootOnly.erasePage {b s : State} {p : Nat} (h : b.BootOnly s) : b.BootOnly (s.erasePage p) :=
  (h.foldl (fun _ _ h0 => h0.clearGroup)).unqueuePage

theorem State.BootOnly.each {b s : State} {ks : List Nat} {g : Nat → State → State} (h : b.BootOnly s) (hg0 : ∀ x0 x1, b.BootOnly x1 →
    b.BootOnly (g x0 x1)) : b.BootOnly (s.each ks g) :=
  h.foldl (fun _ _ h0 => hg0 _ _ h0)

theorem State.BootOnly.dropSet {b s : State} {set : Nat} (h : b.BootOnly s) : b.BootOnly (s.dropSet set) :=
  h.each (fun _ _ h0 => h0.erasePage)

theorem State.BootOnly.fallMarks {b s : State} (h : b.BootOnly s) : b.BootOnly s.fallMarks :=
  (State.BootOnly.ite h.dropSet h).bbFirmware.setSpare.update.raise

theorem State.BootOnly.romTrial {b s : State} {c : Nat} (h : b.BootOnly s) : b.BootOnly (s.romTrial c) :=
  State.BootOnly.ite h.setSpare.update (State.BootOnly.ite (State.BootOnly.ite h.update h.fallMarks) h)

end Sys2Proof.Machine
end

section
/-! What the operation that a reset finds under way in the NVM changes (R368). -/

namespace Sys2Proof.Machine

/-- `t` differs from `b` in what such an operation changes alone. -/
def State.CutOnly (b t : State) : Prop :=
  t = { b with
    regs := t.regs, bb := t.bb, cycle := t.cycle, fab := t.fab, fabCheck := t.fabCheck, free := t.free, hrw := t.hrw, nvm := t.nvm,
    psws := t.psws, raised := t.raised, stages := t.stages, supplies := t.supplies, sys := t.sys }

theorem State.CutOnly.refl (s : State) : s.CutOnly s := rfl

theorem State.CutOnly.trans {s t u : State} (h : s.CutOnly t) (h' : t.CutOnly u) : s.CutOnly u := by
  unfold State.CutOnly at h h' ⊢
  rw [h', h]

theorem State.CutOnly.update {b s : State} {regs : Tab Word}
    {bb : BbSt} {cycle : CycleRt} {fab fabCheck : Option (Tab Word)} {free : Nat} {hrw : Tab HrwInst} {nvm : NvmSt} {psws : Tab PswRt}
    {raised : List Raised} {stages : Tab StageRt} {supplies : Tab SupplyRt} {sys : SysSt}
    (h : b.CutOnly s) : b.CutOnly { s with
      regs := regs, bb := bb, cycle := cycle, fab := fab, fabCheck := fabCheck, free := free, hrw := hrw, nvm := nvm, psws := psws,
      raised := raised, stages := stages, supplies := supplies, sys := sys } := by
  unfold State.CutOnly at h ⊢
  rw [h]

theorem State.CutOnly.ite {b s t : State} {c : Prop} [Decidable c] (hs : b.CutOnly s) (ht : b.CutOnly t) :
    b.CutOnly (if c then s else t) := by
  split
  · exact hs
  · exact ht

theorem State.CutOnly.foldl {α : Type} {b s : State} {g : State → α → State} {l : List α} (h : b.CutOnly s)
    (hg : ∀ u a, b.CutOnly u → b.CutOnly (g u a)) : b.CutOnly (l.foldl g s) := by
  induction l generalizing s with
  | nil => exact h
  | cons a l ih => exact ih (hg s a h)

theorem State.CutOnly.setNvmGroup {b s : State} {g : Nat} {st : GroupStatus} (h : b.CutOnly s) : b.CutOnly (s.setNvmGroup g st) :=
  h.update

theorem State.CutOnly.wr {b s : State} {off : Nat} {v : Word} (h : b.CutOnly s) : b.CutOnly (s.wr off v) := h.update

theorem State.CutOnly.setF {b s : State} {off : Nat} {fld : Fld} {v : Nat} (h : b.CutOnly s) :
    b.CutOnly (s.setF off fld v) := h.wr

theorem State.CutOnly.noteOld {b s : State} {off : Nat} (h : b.CutOnly s) : b.CutOnly (s.noteOld off) := h.update

theorem State.CutOnly.noteNew {b s : State} {off : Nat} {fld : Fld} {v : Nat} (h : b.CutOnly s) : b.CutOnly (s.noteNew off fld v) :=
  h.noteOld.update

theorem State.CutOnly.hwSet {b s : State} {off : Nat} {fld : Fld} {v : Nat} (h : b.CutOnly s) :
    b.CutOnly (s.hwSet off fld v) := h.noteNew.setF

theorem State.CutOnly.setNvmByte {b s : State} {a : Nat} {v : Byte} (h : b.CutOnly s) : b.CutOnly (s.setNvmByte a v) := h.update

theorem State.CutOnly.programGroup {b s : State} {g : Nat} {bytes : List Byte} (h : b.CutOnly s) : b.CutOnly (s.programGroup g bytes) :=
  (h.foldl (fun _ _ h0 => h0.setNvmByte)).setNvmGroup

theorem State.CutOnly.programArmed {b s : State} {g : Nat} {bytes : List Byte} (h : b.CutOnly s) : b.CutOnly (s.programArmed g bytes) :=
  bindProp h.programGroup fun h0 => State.CutOnly.ite ((h0.setNvmGroup.setF).hwSet) h0

theorem State.CutOnly.clearGroup {b s : State} {g : Nat} (h : b.CutOnly s) : b.CutOnly (s.clearGroup g) :=
  (h.foldl (fun _ _ h0 => h0.setNvmByte)).setNvmGroup

theorem State.CutOnly.showReerase {b s : State} (h : b.CutOnly s) : b.CutOnly s.showReerase := h.setF

theorem State.CutOnly.unqueuePage {b s : State} {p : Nat} (h : b.CutOnly s) : b.CutOnly (s.unqueuePage p) :=
  State.CutOnly.ite h.update.showReerase h

theorem State.CutOnly.erasePage {b s : State} {p : Nat} (h : b.CutOnly s) : b.CutOnly (s.erasePage p) :=
  (h.foldl (fun _ _ h0 => h0.clearGroup)).unqueuePage

theorem State.CutOnly.nvmDo {b s : State} {x : NvmOp} (h : b.CutOnly s) : b.CutOnly (s.nvmDo x) := by
  simp only [State.nvmDo]
  split
  · exact h.erasePage
  · exact h.programArmed

theorem State.CutOnly.takeFree {b s : State} {w : Nat} (h : b.CutOnly s) : b.CutOnly (s.takeFree w).2 := h.update

theorem State.CutOnly.planRecord {b s : State} {p : RecPlace} {id : Nat} {data : List Byte} (h : b.CutOnly s) : b.CutOnly (s.planRecord p
    id data).2 :=
  State.CutOnly.ite h.update h

theorem State.CutOnly.loadReg {b s : State} {off : Nat} {v : Word} (h : b.CutOnly s) :
    b.CutOnly (s.loadReg off v) := h.wr

theorem State.CutOnly.loadRegs {b s : State} {data : List Byte} {rs : List Nat} {k : Nat} (h : b.CutOnly s) : b.CutOnly (s.loadRegs data rs k) := by
  induction rs generalizing s k with
  | nil => exact h
  | cons r rs ih => exact State.CutOnly.ite (ih h.loadReg) h

theorem State.CutOnly.showLoad {b s : State} (h : b.CutOnly s) : b.CutOnly s.showLoad := h.setF

theorem State.CutOnly.setStage {b s : State} {n : Nat} {r : StageRt} (h : b.CutOnly s) : b.CutOnly (s.setStage n r) := h.update

theorem State.CutOnly.wrN {b s : State} {off v : Nat} (h : b.CutOnly s) : b.CutOnly (s.wrN off v) :=
  h.wr

theorem State.CutOnly.setStageState {b s : State} {n st : Nat} (h : b.CutOnly s) : b.CutOnly (s.setStageState n st) := h.setF

theorem State.CutOnly.stopStage {b s : State} {n st : Nat} (h : b.CutOnly s) : b.CutOnly (s.stopStage n st) :=
  ((((h.setStageState.setF).setF).wrN).wrN).setStage.showLoad

theorem State.CutOnly.each {b s : State} {ks : List Nat} {g : Nat → State → State} (h : b.CutOnly s) (hg0 : ∀ x0 x1, b.CutOnly x1 →
    b.CutOnly (g x0 x1)) : b.CutOnly (s.each ks g) :=
  h.foldl (fun _ _ h0 => hg0 _ _ h0)

theorem State.CutOnly.commitFabric {b s : State} (h : b.CutOnly s) : b.CutOnly s.commitFabric :=
  State.CutOnly.ite h (State.CutOnly.ite ((h.setF).setF) ((h.update.each (fun _ _ h1 => h1.stopStage)).setF))

theorem State.CutOnly.raise {b s : State} {id inst : Nat} {record : List Byte} (h : b.CutOnly s) : b.CutOnly (s.raise id inst record) :=
  h.update

theorem State.CutOnly.noteIdle {b s : State} {src : IdleSrc} (h : b.CutOnly s) : b.CutOnly (s.noteIdle src) :=
  State.CutOnly.ite h.update h

theorem State.CutOnly.setSupState {b s : State} {x st : Nat} (h : b.CutOnly s) : b.CutOnly (s.setSupState x st) :=
  State.CutOnly.ite ((State.CutOnly.ite h h.noteIdle).setF) (h.setF)

theorem State.CutOnly.setSupply {b s : State} {n : Nat} {r : SupplyRt} (h : b.CutOnly s) : b.CutOnly (s.setSupply n r) := h.update

theorem State.CutOnly.startQualify {b s : State} {x : Nat} (h : b.CutOnly s) : b.CutOnly (s.startQualify x) :=
  State.CutOnly.ite h.setSupState.setSupply h

theorem State.CutOnly.openSwitch {b s : State} {w : Nat} (h : b.CutOnly s) : b.CutOnly (s.openSwitch w) := ((h.setF).setF).setF

theorem State.CutOnly.setPsw {b s : State} {n : Nat} {r : PswRt} (h : b.CutOnly s) : b.CutOnly (s.setPsw n r) := h.update

theorem State.CutOnly.egressOpen {b s : State} (h : b.CutOnly s) : b.CutOnly s.egressOpen :=
  h.each (fun _ _ h0 => State.CutOnly.ite (State.CutOnly.ite h0.setPsw h0) h0.openSwitch)

theorem State.CutOnly.closeSwitch {b s : State} {w : Nat} (h : b.CutOnly s) : b.CutOnly (s.closeSwitch w) :=
  State.CutOnly.ite h (((h.setF).setF).setPsw)

theorem State.CutOnly.egressClose {b s : State} (h : b.CutOnly s) : b.CutOnly s.egressClose :=
  h.each (fun _ _ h0 => State.CutOnly.ite h0.closeSwitch h0)

theorem State.CutOnly.startIdent {b s : State} {n : Nat} (h : b.CutOnly s) : b.CutOnly (s.startIdent n) :=
  State.CutOnly.ite h.setStageState h

theorem State.CutOnly.lockUnit {b s : State} {id inst : Nat} (h : b.CutOnly s) : b.CutOnly (s.lockUnit id inst) :=
  h.foldl (fun _ _ h0 => State.CutOnly.ite h0.setStageState h0)

theorem State.CutOnly.setHrw {b s : State} {id inst : Nat} {r : HrwInst} (h : b.CutOnly s) : b.CutOnly (s.setHrw id inst r) := h.update

theorem State.CutOnly.passOn {b s : State} {id inst : Nat} (h : b.CutOnly s) : b.CutOnly (s.passOn id inst) :=
  State.CutOnly.ite h (State.CutOnly.ite h.setHrw (State.CutOnly.ite h.setHrw h.setHrw.lockUnit))

theorem State.CutOnly.causeGone {b s : State} {id inst : Nat} (h : b.CutOnly s) : b.CutOnly (s.causeGone id inst) :=
  State.CutOnly.ite h.setHrw h.setHrw.passOn

theorem State.CutOnly.setFab {b s : State} {st err idx : Nat} (h : b.CutOnly s) : b.CutOnly (s.setFab st err idx) :=
  ((h.setF).setF).setF

theorem State.CutOnly.finishFabric {b s : State} (h : b.CutOnly s) : b.CutOnly s.finishFabric := by
  simp only [State.finishFabric]
  exact State.CutOnly.ite h ((by
      split
      · exact bindProp ((h.update.setFab.setF).causeGone.each (fun _ _ h3 => h3.startIdent)) fun h4 => (State.CutOnly.ite
          h4.egressOpen.egressClose h4).each (fun _ _ h6 => h6.startQualify)
      · exact h.update.setFab.raise))

theorem State.CutOnly.bump {b s : State} {off : Nat} {fld : Fld} {k : Nat} (h : b.CutOnly s) :
    b.CutOnly (s.bump off fld k) := h.noteNew.setF

theorem State.CutOnly.wr64 {b s : State} {lo hi v : Nat} (h : b.CutOnly s) :
    b.CutOnly (s.wr64 lo hi v) := (h.wrN).wrN

theorem State.CutOnly.dmaLog {b s : State} {op pair index addr done kind : Nat} (h : b.CutOnly s) : b.CutOnly (s.dmaLog op pair index
    addr done kind) :=
  bindProp ((((h.wrN).wr64).wrN).setF) fun h1 => ((State.CutOnly.ite (h1.hwSet) h1).bump).raise

theorem State.CutOnly.bufRead {b s : State} {c : Ctl} {v len : Nat} {r : DmaRead} {g : List Byte → State → Option (State × CtlRes)} (h :
    b.CutOnly s) (hg0 : ∀ x0 x1, b.CutOnly x1 → ∀ t ∈ (g x0 x1), b.CutOnly t.1) : ∀ t ∈ s.bufRead c v len r g, b.CutOnly t.1 := by
  simp only [State.bufRead]
  split
  · exact hg0 _ _ h
  · split
    · exact inNone
    · split
      · exact hg0 _ _ h
      · exact inSome h.dmaLog
      · split
        · exact inSome h.dmaLog
        · exact inNone
      · exact inNone

theorem State.CutOnly.cutCommand {b s : State} {p : Nat} {buf : DmaRead} (h : b.CutOnly s) : ∀ t ∈ s.cutCommand p buf, b.CutOnly t.2 := by
  unfold State.cutCommand
  split
  · exact inNone
  · dsimp only
    split
    · exact inNone
    · split
      · split
        · exact inNone
        · split
          · next t res heq =>
            have ht : b.CutOnly t := (h.bufRead fun _ _ hu => inSome hu) _ heq
            split
            · exact inNone
            · generalize hv : (if leAt _ 8 2 = 0x0100 then State.finishFabric _ else t) = v
              have hvc : b.CutOnly v := hv ▸ State.CutOnly.ite ht.loadRegs.commitFabric.finishFabric ht
              split
              · exact inNone
              · split
                · exact inNone
                · exact inSome (State.CutOnly.ite hvc.update hvc)
          · exact inNone
      · split
        · split
          · exact inNone
          · split
            · next t res heq =>
              have ht : b.CutOnly t := (h.bufRead fun _ _ hu => inSome hu) _ heq
              split
              · exact inNone
              · exact inSome ht
            · exact inNone
        · exact inNone

theorem State.CutOnly.cutOps {b s : State} {w : NvmCut} (h : b.CutOnly s) : ∀ t ∈ s.cutOps w, b.CutOnly t.2.2 := by
  cases w with
  | idle => exact inNone
  | command p buf k => exact inMap fun x hx => h.cutCommand x hx
  | health i mv k =>
    simp only [State.cutOps]
    split
    · exact inSome (h.planRecord (data := s.healthData i mv))
    · exact inNone
  | reerase p =>
    simp only [State.cutOps]
    split
    · exact inSome h
    · exact inNone
  | append k => exact inNone

theorem State.CutOnly.bbNewest {b s : State} {bytes : List Byte} (h : b.CutOnly s) : b.CutOnly (s.bbNewest bytes) := h.update.wrN

theorem State.CutOnly.bbClear {b s : State} {page : Nat} {op : State → State} (h : b.CutOnly s) (hg0 : ∀ x0, b.CutOnly x0 → b.CutOnly (op
    x0)) : b.CutOnly (s.bbClear page op) :=
  hg0 _ h.update

theorem State.CutOnly.showOldest {b s : State} (h : b.CutOnly s) : b.CutOnly s.showOldest := by
  simp only [State.showOldest]
  split
  · exact h.wrN
  · exact h

theorem State.CutOnly.bbTaken {b s : State} {slot : Nat} {op : State → State} (h : b.CutOnly s) (hg0 : ∀ x0, b.CutOnly x0 → b.CutOnly (op
    x0)) : b.CutOnly (s.bbTaken slot op) :=
  (State.CutOnly.ite (h.update.bbClear (fun _ h1 => hg0 _ h1)) h.update).showOldest

theorem State.CutOnly.bbAppendRec {b s : State} {r : BbRec} (h : b.CutOnly s) : b.CutOnly (s.bbAppendRec r) :=
  ((h.foldl (fun _ _ h0 => h0.nvmDo)).bbNewest).bbTaken (fun _ h1 => h1.erasePage)

theorem State.CutOnly.bbWaiting {b s : State} (h : b.CutOnly s) : ∀ t ∈ s.bbWaiting, b.CutOnly t.2 := by
  simp only [State.bbWaiting]
  split
  · exact inSome h.update
  · split
    · exact inSome h.update
    · split
      · exact inSome h.update
      · exact inNone

theorem State.CutOnly.bbAppendOne {b s : State} (h : b.CutOnly s) : b.CutOnly s.bbAppendOne := by
  simp only [State.bbAppendOne]
  split
  · next heq =>
    exact (h.bbWaiting _ heq).bbAppendRec
  · exact h

theorem State.CutOnly.cutReset {b s : State} {w : NvmCut} (h : b.CutOnly s) : b.CutOnly (s.cutReset w) := by
  simp only [State.cutReset]
  split
  · exact State.CutOnly.ite h.bbAppendOne h
  · split
    · exact h
    · next heq =>
      exact (h.cutOps _ heq).foldl (fun _ _ h1 => h1.nvmDo)

end Sys2Proof.Machine
end

section
/-! What a reset leaves (R397–R399): the cause shown, the block at its start, and what it keeps. -/

namespace Sys2Proof.Machine

theorem State.takeFree_frame (s : State) (n : Nat) : (s.takeFree n).2 = { s with free := (s.takeFree n).2.free } := by cases n <;> rfl

/-- A build that is struck leaves its progress open, and nothing else. -/
theorem State.stopBuild_frame (s : State) : s.stopBuild = { s with free := s.stopBuild.free, fw := s.stopBuild.fw } := by
  unfold State.stopBuild
  split
  · rfl
  · dsimp only
    rw [((s.takeFree 6).2).takeFree_frame 1, s.takeFree_frame 6]

theorem State.stopBuild_state (s : State) : s.stopBuild.fw.state = s.fw.state := by
  unfold State.stopBuild
  split
  · rfl
  · dsimp only
    rw [((s.takeFree 6).2).takeFree_frame 1, s.takeFree_frame 6]

/-- The cycle count that a reset of a cause begins with. -/
def State.resetCyc (s : State) (c aon : Nat) : Nat :=
  if coldCause c then 0 else if c = rcFallow then s.cyc + (aon * 15625 + s.sys.aonFrac) / 512 * 200 else s.cyc

/-- The system's state that a reset of a cause begins with. -/
def State.resetSys (s : State) (c aon : Nat) : SysSt :=
  { startUs := s.resetCyc c aon / 200
    wdtAt := s.resetCyc c aon
    bbCarry := if warmCause c then s.bb.queue.length + s.bb.breach.length + s.bb.lost else 0
    pbHeld := s.sys.pbHeld
    longPress := s.sys.longPress && !coldCause c
    longAt := s.sys.longAt
    refLost := warmCause c && s.sys.refLost
    refAt := s.sys.refAt
    pbAt := if coldCause c then none else s.sys.pbAt
    aonFrac := if coldCause c then 0 else if c = rcFallow then (aon * 15625 + s.sys.aonFrac) % 512 else s.sys.aonFrac }

/-- The state of a reset before its registers and its update are seen to. -/
def State.resetBase (s : State) (c aon : Nat) : State :=
  { State.reset with
    cyc := s.resetCyc c aon
    free := s.free
    outbox := s.outbox
    pending := s.pending
    regs := s.regs.filter (fun p => keptReg c p.1)
    localWin := if warmCause c then s.localWin else []
    nvm := s.nvm
    bb := { s.bb with queue := [], breach := [], lost := 0 }
    fw := { s.fw with envOld := [], trialUs := 0 }
    sys := s.resetSys c aon }

/-- `t` differs from `b` in what a reset sets up alone. -/
def State.SetUpOnly (b t : State) : Prop :=
  t = { b with
    regs := t.regs, packs := t.packs, coords := t.coords, hiLatch := t.hiLatch, intDis := t.intDis, msixTable := t.msixTable,
    msixPend := t.msixPend }

theorem State.SetUpOnly.refl (s : State) : s.SetUpOnly s := rfl

theorem State.SetUpOnly.setPack {b s : State} (h : b.SetUpOnly s) (i : Nat) (r : PackRt) : b.SetUpOnly (s.setPack i r) := by
  unfold State.SetUpOnly at h ⊢
  rw [State.setPack, h]

theorem State.SetUpOnly.setCoord {b s : State} (h : b.SetUpOnly s) (n : Nat) (r : CoordRt) : b.SetUpOnly (s.setCoord n r) := by
  unfold State.SetUpOnly at h ⊢
  rw [State.setCoord, h]

theorem State.SetUpOnly.wr {b s : State} (h : b.SetUpOnly s) (o : Nat) (v : Word) : b.SetUpOnly (s.wr o v) := by
  unfold State.SetUpOnly at h ⊢
  rw [State.wr, h]

theorem State.SetUpOnly.setF {b s : State} (h : b.SetUpOnly s) (o : Nat) (g : Fld) (v : Nat) : b.SetUpOnly (s.setF o g v) := h.wr o _

theorem State.SetUpOnly.ite {b s t : State} {c : Prop} [Decidable c] (hs : b.SetUpOnly s) (ht : b.SetUpOnly t) :
    b.SetUpOnly (if c then s else t) := by
  split
  · exact hs
  · exact ht

theorem State.SetUpOnly.foldl {α : Type} {b s : State} {g : State → α → State} {l : List α} (h : b.SetUpOnly s)
    (hg : ∀ u a, b.SetUpOnly u → b.SetUpOnly (g u a)) : b.SetUpOnly (l.foldl g s) := by
  induction l generalizing s with
  | nil => exact h
  | cons a l ih => exact ih (hg s a h)

theorem State.SetUpOnly.clearXlt {b s : State} (h : b.SetUpOnly s) : b.SetUpOnly s.clearXlt :=
  h.foldl fun _ _ hu => hu.ite (hu.setF _ _ _)

theorem State.SetUpOnly.clearHost {b s : State} {intDis : Bool} {msixTable msixPend hiLatch : Tab Word} (h : b.SetUpOnly s) :
    b.SetUpOnly { s with intDis := intDis, msixTable := msixTable, msixPend := msixPend, hiLatch := hiLatch } := by
  unfold State.SetUpOnly at h ⊢
  rw [h]

theorem State.SetUpOnly.resetFunction {b s : State} (h : b.SetUpOnly s) : b.SetUpOnly s.resetFunction :=
  ((((h.setF _ _ _).setF _ _ _).setF _ _ _).clearHost.wr _ _).clearXlt

theorem State.SetUpOnly.restartFar {b s : State} (h : b.SetUpOnly s) (n : Nat) : b.SetUpOnly (s.restartFar n) := h.setCoord n _

/-- The counters and marks that a reset sets up on its base: charge watchdogs, host function and, after FALLOW, the STALE coordinates. -/
def State.resetSetUp (b : State) (c : Nat) : State :=
  let t := b.each [0, 1, 2, 3] (fun i t => t.setPack i { t.pack i with wdtAt := b.cyc })
  let t := if warmCause c then (t.resetFunction).setF R.HOST_LINK_STATUS F.HOST_LINK_STATUS_DOWNS 0 else t
  if c = rcFallow then t.each (List.range 5) (fun n t => (t.setF (R.COORD_STATUS n) F.COORD_STATUS_STALE 1).restartFar n) else t

theorem State.resetSetUp_only (b : State) (c : Nat) : b.SetUpOnly (b.resetSetUp c) := by
  have hpacks : b.SetUpOnly (b.each [0, 1, 2, 3] (fun i t => t.setPack i { t.pack i with wdtAt := b.cyc })) :=
    (State.SetUpOnly.refl b).foldl fun _ _ hu => hu.setPack _ _
  have hhost := (hpacks.resetFunction.setF R.HOST_LINK_STATUS F.HOST_LINK_STATUS_DOWNS 0).ite hpacks (c := warmCause c = true)
  exact (hhost.foldl (l := List.range 5) fun _ _ hu => (hu.setF _ _ _).restartFar _).ite hhost

theorem State.afterReset_eq (s : State) (c aon : Nat) : s.afterReset c aon =
    (((s.stopBuild.resetBase c aon).resetSetUp c).setF R.RST_CAUSE F.RST_CAUSE_CAUSE c).romTrial c := rfl

theorem State.stopBuild_resetCyc (s : State) (c aon : Nat) : s.stopBuild.resetCyc c aon = s.resetCyc c aon := by
  rw [s.stopBuild_frame]
  rfl

theorem State.stopBuild_resetSys (s : State) (c aon : Nat) : s.stopBuild.resetSys c aon = s.resetSys c aon := by
  rw [s.stopBuild_frame]
  rfl

/-- The state that the boot decision of a reset is taken in. -/
def State.beforeBoot (s : State) (c aon : Nat) : State :=
  ((s.stopBuild.resetBase c aon).resetSetUp c).setF R.RST_CAUSE F.RST_CAUSE_CAUSE c

theorem State.beforeBoot_only (s : State) (c aon : Nat) : (s.stopBuild.resetBase c aon).SetUpOnly (s.beforeBoot c aon) :=
  (State.resetSetUp_only _ c).setF _ _ _

theorem State.afterReset_bootOnly (s : State) (c aon : Nat) : (s.beforeBoot c aon).BootOnly (s.afterReset c aon) :=
  (State.BootOnly.refl _).romTrial

/-- What every reset leaves. -/
theorem State.afterReset_leaves (s : State) {c : Nat} (aon : Nat) (hc : c < 8) :
    (s.afterReset c aon).f R.RST_CAUSE F.RST_CAUSE_CAUSE = c ∧ (s.afterReset c aon).sys = s.resetSys c aon ∧
    (s.afterReset c aon).cyc = s.resetCyc c aon ∧ (s.afterReset c aon).plan = [] ∧
    (s.afterReset c aon).localWin = (if warmCause c then s.localWin else []) := by
  have hboot := s.afterReset_bootOnly c aon
  have hset := s.beforeBoot_only c aon
  have hcause : (s.beforeBoot c aon).f R.RST_CAUSE F.RST_CAUSE_CAUSE = c := by
    rw [State.beforeBoot, State.f_setF_same _ _ _ _ (by decide)]
    exact Nat.mod_eq_of_lt hc
  have hlocal : s.stopBuild.localWin = s.localWin := by rw [s.stopBuild_frame]
  have hne : ¬ BootReg R.RST_CAUSE := by
    intro h
    have h := h.offset
    simp [R.RST_CAUSE] at h
  refine ⟨?_, ?_, ?_, ?_, ?_⟩
  · rw [State.f, hboot.2 _ hne, ← State.f, hcause]
  · rw [hboot.1]
    dsimp only
    rw [hset]
    exact s.stopBuild_resetSys c aon
  · rw [hboot.1]
    dsimp only
    rw [hset]
    exact s.stopBuild_resetCyc c aon
  · rw [hboot.1]
    dsimp only
    rw [hset]
    rfl
  · rw [hboot.1]
    dsimp only
    rw [hset, State.resetBase]
    dsimp only
    rw [hlocal]

theorem State.setSpare_nvm (s : State) (b : FwBank) : (s.setSpare b).nvm = s.nvm := by
  unfold State.setSpare
  split
  · rfl
  · rfl

theorem State.romTrial_nvm {s : State} (c : Nat) (h : s.fw.state ≠ 4) : (s.romTrial c).nvm = s.nvm := by
  unfold State.romTrial
  split
  · exact s.setSpare_nvm _
  · rfl

/-- Without a trial under way a reset keeps the data NVM. -/
theorem State.afterReset_nvm {s : State} (c aon : Nat) (h : s.fw.state ≠ 4) : (s.afterReset c aon).nvm = s.nvm := by
  have hset := s.beforeBoot_only c aon
  have hstate : (s.beforeBoot c aon).fw.state = s.fw.state := by
    rw [hset]
    exact s.stopBuild_state
  have hnvm : (s.beforeBoot c aon).nvm = s.nvm := by
    rw [hset, State.resetBase]
    dsimp only
    rw [s.stopBuild_frame]
  have hboot : s.afterReset c aon = (s.beforeBoot c aon).romTrial c := rfl
  rw [hboot, State.romTrial_nvm c (by rw [hstate]; exact h), hnvm]

end Sys2Proof.Machine
end

section
/-! The system watchdog (R385–R388, R439). -/

namespace Sys2Proof.Machine

/-! The slots of the watchdog's registers. -/

theorem bitsOf_one (v k : Nat) : bitsOf v k 1 = (v.testBit k).toNat := by
  rw [bitsOf, Nat.testBit, Nat.shiftRight_eq_div_pow, Nat.one_and_eq_mod_two, pow_one]
  rcases Nat.mod_two_eq_zero_or_one (v / 2 ^ k) with h | h
  · simp [h]
  · simp [h]

theorem getBits_one {r : Word} (k : Nat) : getBits r k 1 = (r.getLsbD k).toNat := by
  have hlt := getBits_lt r k 1 (by decide)
  have hbit := getBits_testBit (r := r) (lo := k) (w := 1) (by decide) 0
  rw [Nat.add_zero, Nat.testBit_zero] at hbit
  rcases (by omega : getBits r k 1 = 0 ∨ getBits r k 1 = 1) with h | h
  · rw [h] at hbit ⊢
    simp at hbit
    rw [hbit]
    rfl
  · rw [h] at hbit ⊢
    simp at hbit
    rw [hbit]
    rfl

/-- A slot of a register's low half is one bit of the register. -/
theorem bitsOf_getBits (r : Word) {k : Nat} (hk : k < 16) : bitsOf (getBits r 0 16) k 1 = getBits r k 1 := by
  rw [bitsOf_one, getBits_one, getBits_testBit (by decide)]
  simp [hk]

/-! The expiry sequence. -/

/-- The expiry sequence has begun with a cause, in a state that had nothing of it. -/
def State.Expired (s u : State) (cause : Nat) (record : List Byte) : Prop :=
  u.f R.WDT_STATUS F.WDT_STATUS_CAUSE = cause ∧ u.flag R.WDT_STATUS F.WDT_STATUS_EXPIRED = true ∧ u.sys.grace = true ∧
    u.sys.graceAt = s.cyc ∧ u.outbox = s.outbox ++ [.nmi] ∧ u.raised = [faultOf 0xB1 cause record]

theorem State.wdtExpire_sameRegs (s : State) (cause : Nat) (record : List Byte) :
    s.sameRegs (s.wdtExpire cause record) [R.WDT_STATUS] := by
  have ho := List.mem_cons_self (a := R.WDT_STATUS) (l := [])
  unfold State.wdtExpire
  dsimp only
  split
  · exact s.sameRegs_refl _
  · exact ((s.sameRegs_refl _).setF ho _ _).setF ho _ _

/-- The registers of an expiry with a cause. -/
def State.expiryShown (s : State) (cause : Nat) : State :=
  (s.setF R.WDT_STATUS F.WDT_STATUS_EXPIRED 1).setF R.WDT_STATUS F.WDT_STATUS_CAUSE cause

theorem State.expiryShown_status (s : State) {cause : Nat} (hc : cause < 8) :
    (s.expiryShown cause).f R.WDT_STATUS F.WDT_STATUS_CAUSE = cause ∧ (s.expiryShown cause).flag R.WDT_STATUS F.WDT_STATUS_EXPIRED = true := by
  constructor
  · rw [State.expiryShown, State.f_setF_same _ _ _ _ (by decide)]
    exact Nat.mod_eq_of_lt hc
  · rw [State.expiryShown, State.flag_setF_field _ _ (by decide) (by decide) (.inl (by decide)), State.flag_setF_one _ _ (by decide) (by decide)]

theorem State.wdtExpire_expired {s : State} {cause : Nat} (record : List Byte) (hg : s.sys.grace = false) (hr : s.raised = [])
    (hc : cause < 8) : s.Expired (s.wdtExpire cause record) cause record := by
  have hform : s.wdtExpire cause record = (({ s.expiryShown cause with
      sys := { s.sys with grace := true, graceAt := s.cyc } } : State).emit .nmi).raise 0xB1 cause record := by
    rw [State.wdtExpire, if_neg (by simp [hg])]
    rfl
  obtain ⟨hcause, hexpired⟩ := s.expiryShown_status hc
  rw [hform]
  refine ⟨hcause, hexpired, rfl, rfl, rfl, ?_⟩
  have hquiet : (s.expiryShown cause).raised = [] := hr
  rw [State.raise, State.emit]
  dsimp only
  rw [hquiet]
  rfl

/-! A service (R385). -/

/-- A slot that is enabled has not checked in. -/
theorem missing_iff (en seen : Nat) : (∃ k : Fin 16, bitsOf en k 1 = 1 ∧ bitsOf seen k 1 = 0) ↔
    (List.range 16).any (fun k => bitsOf en k 1 == 1 && bitsOf seen k 1 == 0) = true := by
  simp only [List.any_eq_true, List.mem_range, Bool.and_eq_true, beq_iff_eq]
  exact ⟨fun ⟨k, h⟩ => ⟨k, k.isLt, h⟩, fun ⟨k, hk, h⟩ => ⟨⟨k, hk⟩, h⟩⟩

section
variable {s : State} {v : Word} (hrun : s.inRun = true) (hg : s.sys.grace = false)
include hrun hg

theorem State.wdtServe_of_wrongKey (hk : getBits v 0 16 ≠ 0xA5C3) : s.wdtServe v = s.wdtExpire 6 (faultRec (getBits v 0 16) 0xA5C3) := by
  simp [State.wdtServe, State.wdtRuns, hrun, hg, hk]

theorem State.wdtServe_of_early (hk : getBits v 0 16 = 0xA5C3) (he : s.f R.WDT_CFG F.WDT_CFG_EARLY_MS ≠ 0 ∧
    s.cyc < s.sys.wdtAt + s.f R.WDT_CFG F.WDT_CFG_EARLY_MS * 200000) :
    s.wdtServe v = s.wdtExpire 2 (faultRec s.wdtMs (s.f R.WDT_CFG F.WDT_CFG_EARLY_MS)) := by
  simp [State.wdtServe, State.wdtRuns, hrun, hg, hk, he]

variable (hk : getBits v 0 16 = 0xA5C3) (he : ¬ (s.f R.WDT_CFG F.WDT_CFG_EARLY_MS ≠ 0 ∧
    s.cyc < s.sys.wdtAt + s.f R.WDT_CFG F.WDT_CFG_EARLY_MS * 200000))
include hk he

theorem State.wdtServe_of_missing (hm : ∃ k : Fin 16, bitsOf (s.f R.WDT_TASK_EN F.WDT_TASK_EN_EN) k 1 = 1 ∧
    bitsOf (s.f R.WDT_STATUS F.WDT_STATUS_SEEN) k 1 = 0) : s.wdtServe v =
    s.wdtExpire 3 (faultRec (s.f R.WDT_STATUS F.WDT_STATUS_SEEN) (s.f R.WDT_TASK_EN F.WDT_TASK_EN_EN)) := by
  have hm := (missing_iff _ _).1 hm
  rw [State.wdtServe, if_neg (by simp [State.wdtRuns, hrun, hg]), if_neg (not_not.2 hk), if_neg he, if_pos hm]

theorem State.wdtServe_of_good (hm : ¬ ∃ k : Fin 16, bitsOf (s.f R.WDT_TASK_EN F.WDT_TASK_EN_EN) k 1 = 1 ∧
    bitsOf (s.f R.WDT_STATUS F.WDT_STATUS_SEEN) k 1 = 0) : s.wdtServe v =
    ({ s with sys := { s.sys with wdtAt := s.cyc, wdtServed := some (s.cyc / 2) } }).setF R.WDT_STATUS F.WDT_STATUS_SEEN 0 := by
  have hm := mt (missing_iff _ _).2 hm
  rw [State.wdtServe, if_neg (by simp [State.wdtRuns, hrun, hg]), if_neg (not_not.2 hk), if_neg he, if_neg hm]

end

/-! A check-in (R386). -/

/-- The anomaly of a slot's second check-in, shown and counted. -/
def State.doubled (s : State) (k : Nat) : State := (s.hwSet R.WDT_ANOMALY ⟨k, 1⟩ 1).bump R.WDT_ANOMALY F.WDT_ANOMALY_COUNT 1

theorem State.onlyRegs_doubled {s : State} (hr : s.raised = []) (k : Nat) : s.onlyRegs (s.doubled k) [R.WDT_ANOMALY] [] :=
  ((State.onlyRegs_refl hr _).hwSet List.mem_cons_self _ _).bump List.mem_cons_self _ _

theorem State.doubled_anomaly (s : State) {k : Nat} (hk : k < 16) : getBits ((s.doubled k).rd R.WDT_ANOMALY) k 1 = 1 ∧
    (s.doubled k).f R.WDT_ANOMALY F.WDT_ANOMALY_COUNT = min (s.f R.WDT_ANOMALY F.WDT_ANOMALY_COUNT + 1) 65535 := by
  have hw : (⟨k, 1⟩ : Fld).lo + (⟨k, 1⟩ : Fld).w ≤ 32 := by simp only; omega
  constructor
  · have hbit : (s.doubled k).f R.WDT_ANOMALY ⟨k, 1⟩ = 1 := by
      rw [State.doubled, State.f_bump_field _ _ (by decide) hw (.inl (by simp only [F.WDT_ANOMALY_COUNT]; omega)), State.hwSet,
        State.f_setF_same _ _ _ _ hw]
      rfl
    exact hbit
  · rw [State.doubled, State.f_bump_same _ _ _ _ (by decide),
      State.f_hwSet_field _ _ hw (by decide) (.inr (by simp only [F.WDT_ANOMALY_COUNT]; omega))]
    rfl

section
variable {s : State} {p : Path} {v : Word} (hrun : s.inRun = true) (hp : p = .field ∨ p = .headland)
  (hen : bitsOf (s.f R.WDT_TASK_EN F.WDT_TASK_EN_EN) (getBits v 0 4) 1 = 1)
include hrun hp hen

theorem State.wdtCheck_taken : ¬ (p = .pcie ∨ p = .spi ∨ bitsOf (s.f R.WDT_TASK_EN F.WDT_TASK_EN_EN) (getBits v 0 4) 1 = 0 ∨
    ¬ s.wdtRuns = true) := by
  rcases hp with rfl | rfl
  · simp [hen, State.wdtRuns, hrun]
  · simp [hen, State.wdtRuns, hrun]

theorem State.wdtCheck_of_first (hs : bitsOf (s.f R.WDT_STATUS F.WDT_STATUS_SEEN) (getBits v 0 4) 1 = 0)
    (hw : s.sys.wdtServed ≠ some (s.cyc / 2)) :
    s.wdtCheck p v = s.wr R.WDT_STATUS (putBits (s.rd R.WDT_STATUS) (getBits v 0 4) 1 1) := by
  have hslot := bitsOf_getBits (s.rd R.WDT_STATUS) (getBits_lt v 0 4 (by decide))
  rw [State.wdtCheck, if_neg (State.wdtCheck_taken hrun hp hen), if_pos ⟨hslot.symm.trans hs, hw⟩]

theorem State.wdtCheck_of_second (hs : bitsOf (s.f R.WDT_STATUS F.WDT_STATUS_SEEN) (getBits v 0 4) 1 = 1 ∨ s.sys.wdtServed = some (s.cyc / 2)) :
    s.wdtCheck p v = if bitsOf ((s.doubled (getBits v 0 4)).f R.WDT_TASK_EN F.WDT_TASK_EN_STRICT) (getBits v 0 4) 1 = 1 then
      (s.doubled (getBits v 0 4)).wdtExpire 4 (faultRec (getBits v 0 4) 0) else s.doubled (getBits v 0 4) := by
  have hslot := bitsOf_getBits (s.rd R.WDT_STATUS) (getBits_lt v 0 4 (by decide))
  have hno : ¬ (getBits (s.rd R.WDT_STATUS) (getBits v 0 4) 1 = 0 ∧ s.sys.wdtServed ≠ some (s.cyc / 2)) := by
    rintro ⟨hz, hw⟩
    rcases hs with hs | hs
    · rw [← hslot] at hz
      exact absurd (hz.symm.trans hs) (by decide)
    · exact hw hs
  rw [State.wdtCheck, if_neg (State.wdtCheck_taken hrun hp hen), if_neg hno]
  rfl

end

/-- The grace period's end is a reset (R388). -/
theorem exec_wdtGraceEnd {s : State} (hl : s.live) (w : NvmCut) : exec (.wdtGraceEnd w) s =
    .next (if s.sys.grace ∧ s.sys.graceAt + 800000 ≤ s.cyc then (s.cutReset w).afterReset rcWatchdog 0 else s).settle :=
  exec_powered (g := fun s => if s.sys.grace ∧ s.sys.graceAt + 800000 ≤ s.cyc then (s.cutReset w).afterReset rcWatchdog 0 else s) hl rfl

/-- Settles O57: a service or a check-in does what the key, the window and the slots tell, and each cause begins the one expiry sequence. -/
theorem watchdogExpiresOnItsCauses : Obligations.WatchdogExpiresOnItsCauses := by
  unfold Obligations.WatchdogExpiresOnItsCauses
  intro s p v hl
  have hserve : exec (.wdtService .headland v) s = .next (s.wdtServe v).settle := exec_powered (g := fun s => s.wdtServe v) hl rfl
  have hcheck (p : Path) : exec (.wdtCheckin p v) s = .next (s.wdtCheck p v).settle := exec_powered (g := fun s => s.wdtCheck p v) hl rfl
  have htask : R.WDT_TASK_EN ∉ [R.WDT_ANOMALY] := by decide
  have hanomaly : R.WDT_ANOMALY ∉ [R.WDT_STATUS] := by decide
  refine ⟨fun hp => ?_, fun hrun hg => ⟨fun hk => ?_, fun hk he => ?_, fun hk he hm => ?_, fun hk he hm => ?_, fun hw => ?_, ?_⟩,
    fun hrun hp => ⟨fun hen hs hw => ?_, fun hen hs => ⟨fun hstrict => ?_, fun hstrict hg => ?_⟩⟩, fun hp => ?_, fun w => ⟨fun hg hat => ?_, fun hno => ?_⟩⟩
  · have hexec := exec_powered (c := .wdtService p v) (g := fun s => if p = .headland then s.wdtServe v else
      s.raise 0xB0 (pathNo p) (leBytes 4 R.WDT_SERVICE)) hl rfl
    rw [if_neg hp] at hexec
    exact ⟨_, hexec, (State.onlyRegs_refl hl.2 []).raise _ _ _⟩
  · exact ⟨_, by rw [hserve, State.wdtServe_of_wrongKey hrun hg hk], State.wdtExpire_expired _ hg hl.2 (by decide), s.wdtExpire_sameRegs _ _⟩
  · exact ⟨_, by rw [hserve, State.wdtServe_of_early hrun hg hk he], State.wdtExpire_expired _ hg hl.2 (by decide), s.wdtExpire_sameRegs _ _⟩
  · exact ⟨_, by rw [hserve, State.wdtServe_of_missing hrun hg hk he hm], State.wdtExpire_expired _ hg hl.2 (by decide), s.wdtExpire_sameRegs _ _⟩
  · have hgood := State.wdtServe_of_good hrun hg hk he hm
    have hquiet : (s.wdtServe v).raised = [] := by
      rw [hgood]
      exact hl.2
    refine ⟨s.wdtServe v, by rw [hserve, State.settle_quiet hquiet], ?_, ?_, ?_⟩
    · rw [hgood]
      rfl
    · rw [hgood, State.f_setF_same _ _ _ _ (by decide)]
      rfl
    · rw [hgood]
      exact State.sameRegs.setF (fun _ _ => rfl) List.mem_cons_self _ _
  · have hexec := exec_powered (c := .wdtWindowExpiry) (g := fun s => if s.wdtRuns ∧ s.sys.wdtAt + s.wdtWin * 200000 ≤ s.cyc then
      s.wdtExpire 1 (faultRec s.wdtMs s.wdtWin) else s) hl rfl
    rw [if_pos ⟨hrun, hw⟩] at hexec
    exact ⟨_, hexec, State.wdtExpire_expired _ hg hl.2 (by decide), s.wdtExpire_sameRegs _ _⟩
  · have hexec := exec_powered (c := .wdtClockLoss) (g := fun s => if s.wdtRuns then s.wdtExpire 5 [] else s) hl rfl
    rw [State.wdtRuns, if_pos hrun] at hexec
    exact ⟨_, hexec, State.wdtExpire_expired _ hg hl.2 (by decide), s.wdtExpire_sameRegs _ _⟩
  · have hfirst := State.wdtCheck_of_first hrun hp hen hs hw
    have hk := getBits_lt v 0 4 (by decide)
    refine ⟨_, by rw [hcheck, hfirst, State.settle_quiet (s := s.wr _ _) hl.2], (State.onlyRegs_refl hl.2 _).wr List.mem_cons_self _, ?_⟩
    rw [State.f, State.rd_wr_same]
    refine (bitsOf_getBits _ hk).trans ?_
    exact getBits_putBits_same _ _ (by omega)
  · have hk := getBits_lt v 0 4 (by decide)
    have honly := State.onlyRegs_doubled hl.2 (getBits v 0 4)
    refine ⟨_, ?_, s.doubled_anomaly hk, honly⟩
    rw [hcheck, State.wdtCheck_of_second hrun hp hen hs, honly.2.f _ htask, if_neg (by rw [hstrict]; decide), State.settle_quiet honly.raised]
  · have hk := getBits_lt v 0 4 (by decide)
    have honly := State.onlyRegs_doubled hl.2 (getBits v 0 4)
    have hexpire := State.wdtExpire_expired (s := s.doubled (getBits v 0 4)) (cause := 4) (faultRec (getBits v 0 4) 0) hg honly.raised (by decide)
    have hregs := (s.doubled (getBits v 0 4)).wdtExpire_sameRegs 4 (faultRec (getBits v 0 4) 0)
    obtain ⟨hdouble, hcount⟩ := s.doubled_anomaly hk
    refine ⟨_, ?_, ⟨?_, ?_⟩, hexpire⟩
    · rw [hcheck, State.wdtCheck_of_second hrun hp hen hs, honly.2.f _ htask, if_pos hstrict]
    · rw [hregs _ hanomaly, hdouble]
    · rw [hregs.f _ hanomaly, hcount]
  · have hnone : s.wdtCheck p v = s := by
      rcases hp with rfl | rfl
      · rw [State.wdtCheck, if_pos (.inl rfl)]
      · rw [State.wdtCheck, if_pos (.inr (.inl rfl))]
    rw [hcheck, hnone, State.settle_quiet hl.2]
  · obtain ⟨hcause, hsys, -⟩ := (s.cutReset w).afterReset_leaves 0 (c := rcWatchdog) (by decide)
    refine ⟨_, by rw [exec_wdtGraceEnd hl, if_pos ⟨hg, hat⟩], hcause, ?_, ?_⟩
    · rw [hsys]
      rfl
    · rw [hsys]
      rfl
  · have hnot : ¬ (s.sys.grace = true ∧ s.sys.graceAt + 800000 ≤ s.cyc) := by
      rintro ⟨hg, hat⟩
      rcases hno with hno | hno
      · rw [hno] at hg
        cases hg
      · omega
    rw [exec_wdtGraceEnd hl, if_neg hnot, State.settle_quiet hl.2]

end Sys2Proof.Machine
end

section
/-! What the start-up keeps (R330, R401). -/

namespace Sys2Proof.Machine

/-- A register that the start-up may write, but for those of the reset's cause and of the store. -/
inductive StartReg : Nat → Prop
  | bbOldestSeq : StartReg R.BB_OLDEST_SEQ
  | bbStatus : StartReg R.BB_STATUS
  | clkStatus : StartReg R.CLK_STATUS
  | coordStatus (n : Nat) : StartReg (R.COORD_STATUS n)
  | cplqStatus : StartReg R.CPLQ_STATUS
  | drillCanStat (n : Nat) : StartReg (R.DRILL_CAN_STAT n)
  | drillCntBreach : StartReg R.DRILL_CNT_BREACH
  | drillStatus : StartReg R.DRILL_STATUS
  | envPackEfloorHi (n : Nat) : StartReg (R.ENV_PACK_EFLOOR_HI n)
  | envPackEfloorLo (n : Nat) : StartReg (R.ENV_PACK_EFLOOR_LO n)
  | envPackIlim (n : Nat) : StartReg (R.ENV_PACK_ILIM n)
  | envPackTchg (n : Nat) : StartReg (R.ENV_PACK_TCHG n)
  | envPackTdsg (n : Nat) : StartReg (R.ENV_PACK_TDSG n)
  | envPackVlim (n : Nat) : StartReg (R.ENV_PACK_VLIM n)
  | envRail (n : Nat) : StartReg (R.ENV_RAIL n)
  | envSeq : StartReg R.ENV_SEQ
  | fabStatus : StartReg R.FAB_STATUS
  | fwuProgress : StartReg R.FWU_PROGRESS
  | fwuSegmap : StartReg R.FWU_SEGMAP
  | fwuStatus : StartReg R.FWU_STATUS
  | fwSvnFloor (n : Nat) : StartReg (R.FW_SVN_FLOOR n)
  | fwVer (n : Nat) : StartReg (R.FW_VER n)
  | glbStatus : StartReg R.GLB_STATUS
  | hrwInject : StartReg R.HRW_INJECT
  | inputStatus (n : Nat) : StartReg (R.INPUT_STATUS n)
  | looptabStatus : StartReg R.LOOPTAB_STATUS
  | nvmCntHi (n : Nat) : StartReg (R.NVM_CNT_HI n)
  | nvmCntLo (n : Nat) : StartReg (R.NVM_CNT_LO n)
  | nvmEccCnt : StartReg R.NVM_ECC_CNT
  | packChgFault (n : Nat) : StartReg (R.PACK_CHG_FAULT n)
  | packChgSetpt (n : Nat) : StartReg (R.PACK_CHG_SETPT n)
  | packChgStatus (n : Nat) : StartReg (R.PACK_CHG_STATUS n)
  | packChgTerm (n : Nat) : StartReg (R.PACK_CHG_TERM n)
  | packChgTimer (n : Nat) : StartReg (R.PACK_CHG_TIMER n)
  | packEfullHi (n : Nat) : StartReg (R.PACK_EFULL_HI n)
  | packEfullLo (n : Nat) : StartReg (R.PACK_EFULL_LO n)
  | packEremHi (n : Nat) : StartReg (R.PACK_EREM_HI n)
  | packEremLo (n : Nat) : StartReg (R.PACK_EREM_LO n)
  | packSoh (n : Nat) : StartReg (R.PACK_SOH n)
  | packTilthR25 (n : Nat) : StartReg (R.PACK_TILTH_R25 n)
  | portStatus (n : Nat) : StartReg (R.PORT_STATUS n)
  | portVbus (n : Nat) : StartReg (R.PORT_VBUS n)
  | pswStatus (n : Nat) : StartReg (R.PSW_STATUS n)
  | ringCnt (n : Nat) : StartReg (R.RING_CNT n)
  | secStatus : StartReg R.SEC_STATUS
  | stageDuty (n : Nat) : StartReg (R.STAGE_DUTY n)
  | stageIl (n : Nat) : StartReg (R.STAGE_IL n)
  | stageStatus (n : Nat) : StartReg (R.STAGE_STATUS n)
  | stageVfloor (n : Nat) : StartReg (R.STAGE_VFLOOR n)
  | stgAdcLoad : StartReg R.STG_ADC_LOAD
  | loaded {o : Nat} (hc : o ≠ R.RST_CAUSE) (hn : o ≠ R.NVM_STATUS) : StartReg o

theorem StartReg.ne {o : Nat} (h : StartReg o) : o ≠ R.RST_CAUSE ∧ o ≠ R.NVM_STATUS := by
  cases h with
  | loaded hc hn => exact ⟨hc, hn⟩
  | _ => simp only [R.BB_OLDEST_SEQ, R.BB_STATUS, R.CLK_STATUS, R.COORD_STATUS, R.CPLQ_STATUS, R.DRILL_CAN_STAT, R.DRILL_CNT_BREACH,
      R.DRILL_STATUS, R.ENV_PACK_EFLOOR_HI, R.ENV_PACK_EFLOOR_LO, R.ENV_PACK_ILIM, R.ENV_PACK_TCHG, R.ENV_PACK_TDSG, R.ENV_PACK_VLIM,
      R.ENV_RAIL, R.ENV_SEQ, R.FAB_STATUS, R.FWU_PROGRESS, R.FWU_SEGMAP, R.FWU_STATUS, R.FW_SVN_FLOOR, R.FW_VER, R.GLB_STATUS,
      R.HRW_INJECT, R.INPUT_STATUS, R.LOOPTAB_STATUS, R.NVM_CNT_HI, R.NVM_CNT_LO, R.NVM_ECC_CNT, R.PACK_CHG_FAULT, R.PACK_CHG_SETPT,
      R.PACK_CHG_STATUS, R.PACK_CHG_TERM, R.PACK_CHG_TIMER, R.PACK_EFULL_HI, R.PACK_EFULL_LO, R.PACK_EREM_HI, R.PACK_EREM_LO, R.PACK_SOH,
      R.PACK_TILTH_R25, R.PORT_STATUS, R.PORT_VBUS, R.PSW_STATUS, R.RING_CNT, R.SEC_STATUS, R.STAGE_DUTY, R.STAGE_IL, R.STAGE_STATUS,
      R.STAGE_VFLOOR, R.STG_ADC_LOAD, R.RST_CAUSE, R.NVM_STATUS]; omega

theorem startReg_of_all {rs : List Nat} (h : rs.all (fun r => r != R.RST_CAUSE && r != R.NVM_STATUS) = true) : ∀ r ∈ rs, StartReg r := by
  intro r hr
  have hne := List.all_eq_true.1 h r hr
  rw [Bool.and_eq_true, bne_iff_ne, bne_iff_ne] at hne
  exact .loaded hne.1 hne.2

theorem hostRegs_startReg : ∀ r ∈ hostRegs, StartReg r := startReg_of_all (by decide +kernel)

theorem inputRegs_startReg : ∀ r ∈ inputRegs, StartReg r := startReg_of_all (by decide +kernel)

theorem fabricRegs_startReg : ∀ r ∈ fabricRegs, StartReg r := startReg_of_all (by decide +kernel)

theorem packProfile_startReg {i : Nat} (hi : i < 16) : StartReg (R.PACK_PROFILE i) := by
  refine .loaded ?_ ?_
  · simp only [R.PACK_PROFILE, R.RST_CAUSE]
    omega
  · simp only [R.PACK_PROFILE, R.NVM_STATUS]
    omega

theorem portCfg_startReg {n : Nat} (hn : n < 16) : StartReg (R.PORT_CFG n) := by
  refine .loaded ?_ ?_
  · simp only [R.PORT_CFG, R.RST_CAUSE]
    omega
  · simp only [R.PORT_CFG, R.NVM_STATUS]
    omega

theorem portRegs_startReg {n o : Nat} (hn : n < 16) (h : o ∈ portRegs n) : StartReg o := by
  simp only [portRegs, R.PORT_CFG, R.PORT_SNK_CFG, R.PORT_SRC_CFG, R.PORT_SRC_PDO, R.PORT_SNK_PDO, List.mem_append, List.mem_cons,
    List.not_mem_nil, or_false, List.mem_map, List.mem_range] at h
  refine .loaded ?_ ?_
  · simp only [R.RST_CAUSE]
    rcases h with ((h | h | h) | ⟨k, hk, h⟩) | ⟨k, hk, h⟩
    all_goals omega
  · simp only [R.NVM_STATUS]
    rcases h with ((h | h | h) | ⟨k, hk, h⟩) | ⟨k, hk, h⟩
    all_goals omega

/-- From `b` to `t` the start-up has kept the time, the update's state, the reset's cause, whether the store is recalled and whether the
    Field cores
run, and no report is lost. -/
structure State.StartOnly (b t : State) : Prop where
  cyc : t.cyc = b.cyc
  fw : t.fw = b.fw
  cause : t.rd R.RST_CAUSE = b.rd R.RST_CAUSE
  recalled : t.recalled = b.recalled
  field : t.sys.field = b.sys.field
  raised : b.raised ⊆ t.raised

theorem State.StartOnly.refl (s : State) : s.StartOnly s := ⟨rfl, rfl, rfl, rfl, rfl, List.Subset.refl _⟩

theorem State.StartOnly.trans {s t u : State} (h : s.StartOnly t) (h' : t.StartOnly u) : s.StartOnly u :=
  ⟨h'.cyc.trans h.cyc, h'.fw.trans h.fw, h'.cause.trans h.cause, h'.recalled.trans h.recalled, h'.field.trans h.field,
    List.Subset.trans h.raised h'.raised⟩

theorem State.StartOnly.update {b s : State} {bb : BbSt} {cans : Tab CanRt} {coords : Tab CoordRt} {cplq : List HeldCpl} {cycle :
    CycleRt} {fab fabCheck : Option (Tab Word)}
    {free : Nat} {hrw : Tab HrwInst} {loopSets : List (List Byte)} {nvm : NvmSt} {packs : Tab PackRt} {plan : Tab Slot} {ports : Tab
    PortRt} {psws : Tab PswRt} {releasedA releasedB : List Nat} {stages : Tab StageRt} {supplies : Tab SupplyRt}
    (h : b.StartOnly s) : b.StartOnly { s with
      bb := bb, cans := cans, coords := coords, cplq := cplq, cycle := cycle, fab := fab, fabCheck := fabCheck, free := free, hrw :=
      hrw, loopSets := loopSets, nvm := nvm, packs := packs, plan := plan, ports := ports, psws := psws, releasedA := releasedA,
      releasedB := releasedB, stages := stages, supplies := supplies } :=
  ⟨h.cyc, h.fw, h.cause, h.recalled, h.field, h.raised⟩

theorem State.StartOnly.ite {b s t : State} {c : Prop} [Decidable c] (hs : b.StartOnly s) (ht : b.StartOnly t) :
    b.StartOnly (if c then s else t) := by
  split
  · exact hs
  · exact ht

theorem State.StartOnly.foldl {α : Type} {b s : State} {g : State → α → State} {l : List α} (h : b.StartOnly s)
    (hg : ∀ u a, b.StartOnly u → b.StartOnly (g u a)) : b.StartOnly (l.foldl g s) := by
  induction l generalizing s with
  | nil => exact h
  | cons a l ih => exact ih (hg s a h)

theorem State.StartOnly.wr {b s : State} {off : Nat} {v : Word} (h : b.StartOnly s) (hoff : StartReg off) : b.StartOnly (s.wr off v) := by
  have hcause : R.RST_CAUSE ≠ off := Ne.symm hoff.ne.1
  have hstore : R.NVM_STATUS ≠ off := Ne.symm hoff.ne.2
  refine ⟨h.cyc, h.fw, ?_, ?_, h.field, h.raised⟩
  · rw [State.rd_wr_other _ _ hcause, h.cause]
  · rw [State.recalled, State.flag, State.f, State.rd_wr_other _ _ hstore, ← State.f, ← State.flag, ← State.recalled, h.recalled]

theorem State.StartOnly.setF {b s : State} {off : Nat} {fld : Fld} {v : Nat} (h : b.StartOnly s) (hoff : StartReg off) :
    b.StartOnly (s.setF off fld v) := h.wr hoff

theorem State.StartOnly.raise {b s : State} {id inst : Nat} {record : List Byte} (h : b.StartOnly s) : b.StartOnly (s.raise id inst record) :=
  ⟨h.cyc, h.fw, h.cause, h.recalled, h.field, fun _ hx => List.mem_append_left _ (h.raised hx)⟩

theorem State.StartOnly.wearCounter {b s : State} {k : Nat} (h : b.StartOnly s) : b.StartOnly (s.wearCounter k) :=
  State.StartOnly.ite ((h.setF (.nvmCntHi _)).raise) h

theorem State.StartOnly.wrN {b s : State} {off v : Nat} (h : b.StartOnly s) (hoff : StartReg off) : b.StartOnly (s.wrN off v) :=
  h.wr hoff

theorem State.StartOnly.showCounter {b s : State} {k : Nat} (h : b.StartOnly s) : b.StartOnly (s.showCounter k) :=
  (h.wrN (.nvmCntLo _)).setF (.nvmCntHi _)

theorem State.StartOnly.setCounter {b s : State} {k : Nat} {r : CntRt} (h : b.StartOnly s) : b.StartOnly (s.setCounter k r) := h.update

theorem State.StartOnly.setNvmByte {b s : State} {a : Nat} {v : Byte} (h : b.StartOnly s) : b.StartOnly (s.setNvmByte a v) := h.update

theorem State.StartOnly.setNvmGroup {b s : State} {g : Nat} {st : GroupStatus} (h : b.StartOnly s) : b.StartOnly (s.setNvmGroup g st) :=
  h.update

theorem State.StartOnly.clearGroup {b s : State} {g : Nat} (h : b.StartOnly s) : b.StartOnly (s.clearGroup g) :=
  (h.foldl (fun _ _ h0 => h0.setNvmByte)).setNvmGroup

theorem State.StartOnly.showReerase {b s : State} (h : b.StartOnly s) : b.StartOnly s.showReerase := by
  refine ⟨h.cyc, h.fw, ?_, ?_, h.field, h.raised⟩
  · rw [State.showReerase, State.rd_setF_other _ _ _ (by decide), h.cause]
  · rw [State.recalled, State.showReerase, State.flag_setF_field _ _ (by decide) (by decide) (.inl (by decide)), ← State.recalled, h.recalled]

theorem State.StartOnly.unqueuePage {b s : State} {p : Nat} (h : b.StartOnly s) : b.StartOnly (s.unqueuePage p) :=
  State.StartOnly.ite h.update.showReerase h

theorem State.StartOnly.erasePage {b s : State} {p : Nat} (h : b.StartOnly s) : b.StartOnly (s.erasePage p) :=
  (h.foldl (fun _ _ h0 => h0.clearGroup)).unqueuePage

theorem State.StartOnly.programGroup {b s : State} {g : Nat} {bytes : List Byte} (h : b.StartOnly s) : b.StartOnly (s.programGroup g
    bytes) :=
  (h.foldl (fun _ _ h0 => h0.setNvmByte)).setNvmGroup

theorem State.StartOnly.commitCounter {b s : State} {k : Nat} {flush : Bool} (h : b.StartOnly s) : b.StartOnly (s.commitCounter k flush)
    :=
  bindProp h.programGroup fun h0 => (State.StartOnly.ite h0.erasePage h0).setCounter.wearCounter

theorem State.StartOnly.incCounter {b s : State} {k : Nat} (h : b.StartOnly s) : b.StartOnly (s.incCounter k) :=
  bindProp h.setCounter fun h0 => (State.StartOnly.ite h0.commitCounter h0).wearCounter.showCounter

theorem State.StartOnly.noteOld {b s : State} {off : Nat} (h : b.StartOnly s) : b.StartOnly (s.noteOld off) := h.update

theorem State.StartOnly.noteNew {b s : State} {off : Nat} {fld : Fld} {v : Nat} (h : b.StartOnly s) : b.StartOnly (s.noteNew off fld v) :=
  h.noteOld.update

theorem State.StartOnly.bump {b s : State} {off : Nat} {fld : Fld} {k : Nat} (h : b.StartOnly s) (hoff : StartReg off) :
    b.StartOnly (s.bump off fld k) := h.noteNew.setF hoff

theorem State.StartOnly.bbQueue {b s : State} {kind sub : Nat} {body : List Byte} (h : b.StartOnly s) : b.StartOnly (s.bbQueue kind sub
    body) :=
  State.StartOnly.ite h.update ((h.update.bump .bbStatus).raise)

theorem State.StartOnly.showOldest {b s : State} (h : b.StartOnly s) : b.StartOnly s.showOldest := by
  simp only [State.showOldest]
  split
  · exact h.wrN .bbOldestSeq
  · exact h

theorem State.StartOnly.bbClear {b s : State} {page : Nat} {op : State → State} (h : b.StartOnly s) (hg0 : ∀ x0, b.StartOnly x0 →
    b.StartOnly (op x0)) : b.StartOnly (s.bbClear page op) :=
  hg0 _ h.update

theorem State.StartOnly.recallRecord {b s : State} {id : Nat} {p : RecPlace} (h : b.StartOnly s) : b.StartOnly (s.recallRecord id p) :=
  State.StartOnly.ite h.raise.bbQueue (State.StartOnly.ite h.raise h)

theorem State.StartOnly.recallCounter {b s : State} {k : Nat} (h : b.StartOnly s) : b.StartOnly (s.recallCounter k) :=
  h.setCounter.showCounter

theorem State.StartOnly.each {b s : State} {ks : List Nat} {g : Nat → State → State} (h : b.StartOnly s) (hg0 : ∀ x0 x1, b.StartOnly x1 →
    b.StartOnly (g x0 x1)) : b.StartOnly (s.each ks g) :=
  h.foldl (fun _ _ h0 => hg0 _ _ h0)

theorem State.StartOnly.queuePage {b s : State} {p : Nat} (h : b.StartOnly s) : b.StartOnly (s.queuePage p) :=
  State.StartOnly.ite h h.update.showReerase

theorem State.StartOnly.readGroup {b s : State} {g : Nat} (h : b.StartOnly s) : b.StartOnly (s.readGroup g) := by
  simp only [State.readGroup]
  split
  · exact h
  · exact h
  · exact (h.bump .nvmEccCnt).raise
  · exact ((h.bump .nvmEccCnt).raise).queuePage

theorem State.StartOnly.loadReg {b s : State} {off : Nat} {v : Word} (h : b.StartOnly s) (hoff : StartReg off) :
    b.StartOnly (s.loadReg off v) := h.wr hoff

theorem State.StartOnly.loadRegs {b s : State} {data : List Byte} {rs : List Nat} {k : Nat} (h : b.StartOnly s)
    (hrs : ∀ r ∈ rs, StartReg r) : b.StartOnly (s.loadRegs data rs k) := by
  induction rs generalizing s k with
  | nil => exact h
  | cons r rs ih =>
    exact State.StartOnly.ite (ih (h.loadReg (hrs r List.mem_cons_self)) fun q hq => hrs q (List.mem_cons_of_mem r hq)) h

theorem State.StartOnly.showLoad {b s : State} (h : b.StartOnly s) : b.StartOnly s.showLoad := h.setF .stgAdcLoad

theorem State.StartOnly.setStage {b s : State} {n : Nat} {r : StageRt} (h : b.StartOnly s) : b.StartOnly (s.setStage n r) := h.update

theorem State.StartOnly.setStageState {b s : State} {n st : Nat} (h : b.StartOnly s) : b.StartOnly (s.setStageState n st) :=
  h.setF (.stageStatus _)

theorem State.StartOnly.stopStage {b s : State} {n st : Nat} (h : b.StartOnly s) : b.StartOnly (s.stopStage n st) :=
  ((((h.setStageState.setF (.stageStatus _)).setF (.stageStatus _)).wrN (.stageDuty _)).wrN (.stageIl _)).setStage.showLoad

theorem State.StartOnly.commitFabric {b s : State} (h : b.StartOnly s) : b.StartOnly s.commitFabric :=
  State.StartOnly.ite h (State.StartOnly.ite ((h.setF .fabStatus).setF .fabStatus) ((h.update.each (fun _ _ h1 => h1.stopStage)).setF
      .fabStatus))

theorem State.StartOnly.noteIdle {b s : State} {src : IdleSrc} (h : b.StartOnly s) : b.StartOnly (s.noteIdle src) :=
  State.StartOnly.ite ⟨h.cyc, h.fw, h.cause, h.recalled, h.field, h.raised⟩ h

theorem State.StartOnly.setSupState {b s : State} {x st : Nat} (h : b.StartOnly s) : b.StartOnly (s.setSupState x st) :=
  State.StartOnly.ite ((State.StartOnly.ite h h.noteIdle).setF (.inputStatus _)) (h.setF (.portStatus _))

theorem State.StartOnly.setSupply {b s : State} {n : Nat} {r : SupplyRt} (h : b.StartOnly s) : b.StartOnly (s.setSupply n r) := h.update

theorem State.StartOnly.startQualify {b s : State} {x : Nat} (h : b.StartOnly s) : b.StartOnly (s.startQualify x) :=
  State.StartOnly.ite h.setSupState.setSupply h

theorem State.StartOnly.openSwitch {b s : State} {w : Nat} (h : b.StartOnly s) : b.StartOnly (s.openSwitch w) :=
  ((h.setF (.pswStatus _)).setF (.pswStatus _)).setF (.pswStatus _)

theorem State.StartOnly.setPsw {b s : State} {n : Nat} {r : PswRt} (h : b.StartOnly s) : b.StartOnly (s.setPsw n r) := h.update

theorem State.StartOnly.egressOpen {b s : State} (h : b.StartOnly s) : b.StartOnly s.egressOpen :=
  h.each (fun _ _ h0 => State.StartOnly.ite (State.StartOnly.ite h0.setPsw h0) h0.openSwitch)

theorem State.StartOnly.closeSwitch {b s : State} {w : Nat} (h : b.StartOnly s) : b.StartOnly (s.closeSwitch w) :=
  State.StartOnly.ite h (((h.setF (.pswStatus _)).setF (.pswStatus _)).setPsw)

theorem State.StartOnly.egressClose {b s : State} (h : b.StartOnly s) : b.StartOnly s.egressClose :=
  h.each (fun _ _ h0 => State.StartOnly.ite h0.closeSwitch h0)

theorem State.StartOnly.startIdent {b s : State} {n : Nat} (h : b.StartOnly s) : b.StartOnly (s.startIdent n) :=
  State.StartOnly.ite h.setStageState h

theorem State.StartOnly.lockUnit {b s : State} {id inst : Nat} (h : b.StartOnly s) : b.StartOnly (s.lockUnit id inst) :=
  h.foldl (fun _ _ h0 => State.StartOnly.ite h0.setStageState h0)

theorem State.StartOnly.setHrw {b s : State} {id inst : Nat} {r : HrwInst} (h : b.StartOnly s) : b.StartOnly (s.setHrw id inst r) :=
  h.update

theorem State.StartOnly.passOn {b s : State} {id inst : Nat} (h : b.StartOnly s) : b.StartOnly (s.passOn id inst) :=
  State.StartOnly.ite h (State.StartOnly.ite h.setHrw (State.StartOnly.ite h.setHrw h.setHrw.lockUnit))

theorem State.StartOnly.causeGone {b s : State} {id inst : Nat} (h : b.StartOnly s) : b.StartOnly (s.causeGone id inst) :=
  State.StartOnly.ite h.setHrw h.setHrw.passOn

theorem State.StartOnly.setFab {b s : State} {st err idx : Nat} (h : b.StartOnly s) : b.StartOnly (s.setFab st err idx) :=
  ((h.setF .fabStatus).setF .fabStatus).setF .fabStatus

theorem State.StartOnly.finishFabric {b s : State} (h : b.StartOnly s) : b.StartOnly s.finishFabric := by
  simp only [State.finishFabric]
  exact State.StartOnly.ite h ((by
      split
      · exact bindProp ((h.update.setFab.setF .fabStatus).causeGone.each (fun _ _ h3 => h3.startIdent)) fun h4 => (State.StartOnly.ite
          h4.egressOpen.egressClose h4).each (fun _ _ h6 => h6.startQualify)
      · exact h.update.setFab.raise))

theorem State.StartOnly.nvmRead {b s : State} {a n : Nat} (h : b.StartOnly s) : b.StartOnly (s.nvmRead a n).2.2 :=
  h.foldl (fun _ _ h0 => h0.readGroup)

theorem State.StartOnly.readRecord {b s : State} {p : RecPlace} {id : Nat} (h : b.StartOnly s) : ∀ t ∈ s.readRecord p id, b.StartOnly
    t.2.2 := by
  simp only [State.readRecord]
  split
  · exact inNone
  · exact inSome h.nvmRead

theorem State.StartOnly.showFw {b s : State} (h : b.StartOnly s) : b.StartOnly s.showFw :=
  ((((((((((((h.setF .secStatus).setF .secStatus).setF .secStatus).setF .secStatus).setF .fwuStatus).setF .fwuStatus).setF
      .fwuStatus).setF .fwuSegmap).setF .fwuSegmap).setF .fwuProgress).setF .fwuProgress).setF .fwuProgress).each (fun _ _ h5 => (h5.wrN
      (.fwVer _)).wrN (.fwSvnFloor _))

theorem State.StartOnly.wr64 {b s : State} {lo hi v : Nat} (h : b.StartOnly s) (hlo : StartReg lo) (hhi : StartReg hi) :
    b.StartOnly (s.wr64 lo hi v) := (h.wrN hlo).wrN hhi

theorem State.StartOnly.loadEnv {b s : State} (h : b.StartOnly s) : b.StartOnly s.loadEnv :=
  State.StartOnly.ite h ((((h.each (fun _ _ h0 => ((((h0.wrN (.envPackVlim _)).wrN (.envPackIlim _)).wrN (.envPackTchg _)).wrN
      (.envPackTdsg _)).wr64 (.envPackEfloorLo _) (.envPackEfloorHi _))).each (fun _ _ h4 => h4.wrN (.envRail _))).wrN .envSeq).setF
      .secStatus)

theorem State.StartOnly.loadFabric {b s : State} (h : b.StartOnly s) : b.StartOnly s.loadFabric := by
  have henv := h.showFw.loadEnv
  unfold State.loadFabric
  dsimp only
  split
  · exact henv
  · split
    · next heq => exact ((henv.readRecord _ heq).loadRegs fabricRegs_startReg).commitFabric.finishFabric
    · exact henv

theorem State.StartOnly.setPack {b s : State} {i : Nat} {r : PackRt} (h : b.StartOnly s) : b.StartOnly (s.setPack i r) := h.update

theorem State.StartOnly.recordHealth {b s : State} {i : Nat} {bs : List Byte} (h : b.StartOnly s) : b.StartOnly (s.recordHealth i bs) :=
  (h.setPack.wrN (.packTilthR25 _)).setF (.packSoh _)

theorem State.StartOnly.unknownHealth {b s : State} {i : Nat} (h : b.StartOnly s) : b.StartOnly (s.unknownHealth i) :=
  (h.setPack.wrN (.packTilthR25 _)).setF (.packSoh _)

theorem State.StartOnly.setERem {b s : State} {i e : Nat} (h : b.StartOnly s) : b.StartOnly (s.setERem i e) :=
  h.wr64 (.packEremLo _) (.packEremHi _)

theorem State.StartOnly.takeFree {b s : State} {w : Nat} (h : b.StartOnly s) : b.StartOnly (s.takeFree w).2 := h.update

theorem State.StartOnly.showEFull {b s : State} {i : Nat} (h : b.StartOnly s) : b.StartOnly (s.showEFull i) :=
  bindProp (h.wr64 (.packEfullLo _) (.packEfullHi _)) fun h0 => State.StartOnly.ite (h0.update.setF (.packSoh _)) (h0.setF (.packSoh _))

theorem State.StartOnly.startPack {b s : State} {i mv : Nat} (h : b.StartOnly s) : b.StartOnly (s.startPack i mv) := by
  simp only [State.startPack]
  exact bindProp h.showEFull.setPack fun h1 => State.StartOnly.ite h1 ((by
      split
      · exact h1.unknownHealth.setERem
      · exact h1.recordHealth.setERem))

theorem State.StartOnly.identStage {b s : State} {n flt : Nat} {imon : List Nat} (h : b.StartOnly s) : b.StartOnly (s.identStage n flt
    imon) :=
  State.StartOnly.ite (State.StartOnly.ite h.setStageState.setStage h.setStageState.raise) h

theorem State.StartOnly.loadRecord {b s : State} {id : Nat} {regs : List Nat} (h : b.StartOnly s) (hrs : ∀ r ∈ regs, StartReg r) :
    b.StartOnly (s.loadRecord id regs) := by
  unfold State.loadRecord
  split
  · exact h
  · split
    · next heq => exact (h.readRecord _ heq).loadRegs hrs
    · exact h

theorem State.StartOnly.setSubsys {b s : State} {w : Word} (h : b.StartOnly s) :
    b.StartOnly { s with sys := { s.sys with subsys := w } } :=
  ⟨h.cyc, h.fw, h.cause, h.recalled, h.field, h.raised⟩

theorem State.StartOnly.loadHost {b s : State} (h : b.StartOnly s) : b.StartOnly s.loadHost := by
  unfold State.loadHost
  split
  · exact h
  · split
    · next heq =>
      exact ((h.readRecord _ heq).loadRegs hostRegs_startReg).setSubsys
    · exact h.setSubsys

theorem State.StartOnly.setPort {b s : State} {n : Nat} {r : PortRt} (h : b.StartOnly s) : b.StartOnly (s.setPort n r) := h.update

theorem State.StartOnly.portWindows {b s : State} {n mv : Nat} (h : b.StartOnly s) : b.StartOnly (s.portWindows n mv) := h.setPort

theorem State.StartOnly.showSupV {b s : State} {x mv : Nat} (h : b.StartOnly s) : b.StartOnly (s.showSupV x mv) :=
  State.StartOnly.ite (h.setF (.inputStatus _)) (h.setF (.portVbus _))

theorem State.StartOnly.setSupV {b s : State} {x mv : Nat} (h : b.StartOnly s) : b.StartOnly (s.setSupV x mv) :=
  bindProp h.showSupV fun h0 => (State.StartOnly.ite h0 h0.portWindows).setSupply

theorem State.StartOnly.setPS {b s : State} {n : Nat} {fld : Fld} {v : Nat} (h : b.StartOnly s) : b.StartOnly (s.setPS n fld v) :=
  h.setF (.portStatus _)

theorem State.StartOnly.showArmed {b s : State} {n : Nat} (h : b.StartOnly s) : b.StartOnly (s.showArmed n) := h.setPS

theorem State.StartOnly.setPortFloor {b s : State} {n mv : Nat} (h : b.StartOnly s) : b.StartOnly (s.setPortFloor n mv) :=
  h.foldl (fun _ _ h0 => h0.setF (.stageVfloor _))

theorem State.StartOnly.implicitSupply {b s : State} {n : Nat} (h : b.StartOnly s) : b.StartOnly (s.implicitSupply n) :=
  h.setPort.setPortFloor.startQualify

theorem State.StartOnly.startTimer {b s : State} {n : Nat} {t : PdTimer} (h : b.StartOnly s) : b.StartOnly (s.startTimer n t) :=
  h.setPort

theorem State.StartOnly.setPe {b s : State} {n v : Nat} (h : b.StartOnly s) : b.StartOnly (s.setPe n v) := h.setPS

theorem State.StartOnly.sinkStart {b s : State} {n : Nat} (h : b.StartOnly s) : b.StartOnly (s.sinkStart n) :=
  State.StartOnly.ite h.startTimer.setPe h.setPe.implicitSupply

theorem State.StartOnly.sourceStart {b s : State} {n : Nat} (h : b.StartOnly s) : b.StartOnly (s.sourceStart n) := h.setPort.setPe

theorem State.StartOnly.discardCan {b s : State} {n : Nat} {bytes : List Byte} (h : b.StartOnly s) : b.StartOnly (s.discardCan n bytes) :=
  ((h.bump (.drillCanStat _)).bump .cplqStatus).raise

theorem State.StartOnly.setCan {b s : State} {n : Nat} {r : CanRt} (h : b.StartOnly s) : b.StartOnly (s.setCan n r) := h.update

theorem State.StartOnly.discardCpl {b s : State} {p : Nat} {bytes : List Byte} (h : b.StartOnly s) : b.StartOnly (s.discardCpl p bytes) :=
  ((h.bump (.ringCnt _)).bump .cplqStatus).raise

theorem State.StartOnly.hold {b s : State} {cpl : HeldCpl} (h : b.StartOnly s) : b.StartOnly (s.hold cpl) := h.update

theorem State.StartOnly.complete {b s : State} {src : Nat} {bytes : List Byte} {worthy : Bool} (h : b.StartOnly s) : b.StartOnly
    (s.complete src bytes worthy) :=
  State.StartOnly.ite (State.StartOnly.ite (h.bump (.ringCnt _)) (State.StartOnly.ite h.hold h.discardCpl)) (State.StartOnly.ite h.setCan
      (State.StartOnly.ite h.hold h.discardCan))

theorem State.StartOnly.portEvent {b s : State} {n code detail : Nat} {data : List Byte} (h : b.StartOnly s) : b.StartOnly (s.portEvent n
    code detail data) :=
  State.StartOnly.ite h.complete h

theorem State.StartOnly.attach {b s : State} {n : Nat} {o : AttachObs} (h : b.StartOnly s) : b.StartOnly (s.attach n o) :=
  bindProp h.setSupV.setPort.setPS.noteIdle.setPS.setPS.setPS.setPS.portEvent fun h5 => State.StartOnly.ite h5.sourceStart h5.sinkStart

theorem State.StartOnly.hwSet {b s : State} {off : Nat} {fld : Fld} {v : Nat} (h : b.StartOnly s) (hoff : StartReg off) :
    b.StartOnly (s.hwSet off fld v) := h.noteNew.setF hoff

theorem State.StartOnly.cfgRefused {b s : State} {n : Nat} (h : b.StartOnly s) : b.StartOnly (s.cfgRefused n) := h.hwSet (.portStatus _)

theorem State.StartOnly.writePortCfg {b s : State} {n : Nat} {v : Word} {byHeadland : Bool} (h : b.StartOnly s) (hn : n < 16) :
    b.StartOnly (s.writePortCfg n v byHeadland) := by
  have hreg := portCfg_startReg hn
  simp only [State.writePortCfg]
  exact bindProp (h.wr hreg) fun h0 => bindProp (State.StartOnly.ite ((h0.setF hreg).cfgRefused) h0) fun h1 =>
    bindProp (State.StartOnly.ite h1 h1.setPort) fun h2 => bindProp (State.StartOnly.ite (bindProp h2.setPort fun h3 => (by
      split
      · exact State.StartOnly.ite h3.attach h3.setPS
      · exact h3.setPS)) h2).showArmed fun h5 => State.StartOnly.ite h5.cfgRefused h5

theorem State.StartOnly.loadPort {b s : State} {n : Nat} {data : List Byte} (h : b.StartOnly s) (hn : n < 16) :
    b.StartOnly (s.loadPort n data) :=
  State.StartOnly.ite h (((h.loadRegs fun _ hr => portRegs_startReg hn hr).wr (portCfg_startReg hn)).writePortCfg hn)

theorem State.StartOnly.startPort {b s : State} {n mv : Nat} {cc : Option AttachObs} (h : b.StartOnly s) (hn : n < 16) :
    b.StartOnly (s.startPort n mv cc) := by
  simp only [State.startPort]
  exact bindProp h.setSupV.setPort fun hport => (by
    split
    · next data _ t heq =>
      have hread : b.StartOnly t := by
        revert heq
        split
        · exact fun heq => hport.readRecord _ heq
        · exact fun heq => nomatch heq
      exact State.StartOnly.ite (hread.writePortCfg hn) (hread.loadPort hn)
    · exact hport.writePortCfg hn)

theorem State.StartOnly.clearPhase {b s : State} {i : Nat} (h : b.StartOnly s) : b.StartOnly (s.clearPhase i) :=
  ((((h.setPack.wrN (.packChgTimer _)).setF (.packChgStatus _)).setF (.packChgStatus _)).setF (.packChgStatus _)).setF (.packChgTerm _)

theorem State.StartOnly.secMark {b s : State} {i : Nat} (h : b.StartOnly s) : b.StartOnly (s.secMark i) := h.setPack

theorem State.StartOnly.setChState {b s : State} {i st : Nat} (h : b.StartOnly s) : b.StartOnly (s.setChState i st) :=
  h.setF (.packChgStatus _)

theorem State.StartOnly.restartPhase {b s : State} {i : Nat} (h : b.StartOnly s) : b.StartOnly (s.restartPhase i) :=
  (((State.StartOnly.ite h.setChState h).setF (.packChgStatus _)).clearPhase).secMark

theorem State.StartOnly.showRefs {b s : State} {i : Nat} (h : b.StartOnly s) : b.StartOnly (s.showRefs i) :=
  (h.setF (.packChgSetpt _)).setF (.packChgSetpt _)

theorem State.StartOnly.setProfState {b s : State} {i st err idx : Nat} (h : b.StartOnly s) (hi : i < 16) :
    b.StartOnly (s.setProfState i st err idx) :=
  have hreg := packProfile_startReg hi
  ((h.setF hreg).setF hreg).setF hreg

theorem State.StartOnly.finishProfile {b s : State} {i : Nat} {bytes : List Byte} (h : b.StartOnly s) (hi : i < 16) :
    b.StartOnly (s.finishProfile i bytes) := by
  simp only [State.finishProfile]
  split
  · exact bindProp (h.setProfState hi).setPack fun hvalid =>
      bindProp (State.StartOnly.ite hvalid hvalid.setChState).restartPhase.showRefs.causeGone fun hstart =>
        State.StartOnly.ite hstart.raise hstart
  · exact (h.setProfState hi).setPack.showRefs.raise

theorem State.StartOnly.commitProfile {b s : State} {i : Nat} {bytes : List Byte} (h : b.StartOnly s) (hi : i < 16) :
    b.StartOnly (s.commitProfile i bytes) :=
  have hreg := packProfile_startReg hi
  State.StartOnly.ite ((h.setF hreg).setF hreg) ((h.setF hreg).setPack)

theorem State.StartOnly.eachIn {b s : State} {ks : List Nat} {g : Nat → State → State} (h : b.StartOnly s)
    (hg : ∀ k ∈ ks, ∀ u, b.StartOnly u → b.StartOnly (g k u)) : b.StartOnly (s.each ks g) := by
  induction ks generalizing s with
  | nil => exact h
  | cons k ks ih => exact ih (hg k List.mem_cons_self s h) fun j hj => hg j (List.mem_cons_of_mem k hj)

theorem packProf_startReg (i : Nat) {k : Nat} (hk : k < 100) : StartReg (R.PACK_PROF i k) := by
  refine .loaded ?_ ?_
  · simp only [R.PACK_PROF, R.RST_CAUSE]
    omega
  · simp only [R.PACK_PROF, R.NVM_STATUS]
    omega

theorem State.StartOnly.loadProfile {b s : State} {i slot : Nat} (h : b.StartOnly s) (hi : i < 16) : ∀ t ∈ s.loadProfile i slot, b.StartOnly t := by
  simp only [State.loadProfile]
  split
  · exact inNone
  · split
    · exact inNone
    · next data _ t heq =>
      have hread : b.StartOnly (t.each (List.range 100) (fun k t => t.wrN (R.PACK_PROF i k) (leAt data (4 * k) 4))) :=
        (h.readRecord _ heq).eachIn fun k hk _ hu => hu.wrN (packProf_startReg i (List.mem_range.1 hk))
      exact bindProp (hread.commitProfile hi) fun hcommit => (by
        split
        · exact inSome hcommit
        · split
          · split
            · exact inSome (hcommit.setProfState hi).setPack
            · exact inSome (hcommit.finishProfile hi)
          · exact inSome (hcommit.finishProfile hi))

theorem State.StartOnly.leaveCharging {b s : State} {i st : Nat} (h : b.StartOnly s) : b.StartOnly (s.leaveCharging i st) :=
  (h.setChState.setF (.packChgStatus _)).setPack

theorem State.StartOnly.releaseClaims {b s : State} {p : Slot} (h : b.StartOnly s) : b.StartOnly (s.releaseClaims p) :=
  State.StartOnly.ite h.update h.update

theorem State.StartOnly.setCoord {b s : State} {n : Nat} {r : CoordRt} (h : b.StartOnly s) : b.StartOnly (s.setCoord n r) := h.update

theorem State.StartOnly.showBusy {b s : State} (h : b.StartOnly s) : b.StartOnly s.showBusy :=
  h.each (fun _ _ h0 => bindProp (h0.setF (.coordStatus _)) fun h1 => State.StartOnly.ite ((h1.setF (.coordStatus _)).setCoord) h1)

theorem State.StartOnly.planShown {b s : State} (h : b.StartOnly s) : b.StartOnly s.planShown := (h.setF .drillStatus).showBusy

theorem State.StartOnly.bbBreach {b s : State} {domain : Nat} {body : List Byte} (h : b.StartOnly s) : b.StartOnly (s.bbBreach domain
    body) :=
  h.update

theorem State.StartOnly.endSlot {b s : State} {k : Nat} {p : Slot} {status code : Nat} (h : b.StartOnly s) : b.StartOnly (s.endSlot k p
    status code) :=
  bindProp h.complete fun h0 => (State.StartOnly.ite (((h0.wrN .drillCntBreach).bbBreach).incCounter) h0).update.releaseClaims.planShown

theorem State.StartOnly.breachSlot {b s : State} {k : Nat} {p : Slot} {code : Nat} (h : b.StartOnly s) : b.StartOnly (s.breachSlot k p
    code) :=
  State.StartOnly.ite h.endSlot h.endSlot

theorem State.StartOnly.endChargeLocked {b s : State} {i : Nat} (h : b.StartOnly s) : b.StartOnly (s.endChargeLocked i) :=
  h.foldl (fun _ _ h0 => h0.breachSlot)

theorem State.StartOnly.lockCharge {b s : State} {i : Nat} (h : b.StartOnly s) : b.StartOnly (s.lockCharge i) :=
  State.StartOnly.ite h h.leaveCharging.endChargeLocked.showRefs

theorem State.StartOnly.restoreLatch {b s : State} {i : Nat} (h : b.StartOnly s) : b.StartOnly (s.restoreLatch i) :=
  State.StartOnly.ite h (((h.wrN (.packChgFault _)).setHrw).lockCharge)

theorem State.StartOnly.loadLoopTable {b s : State} {bs : List Byte} (h : b.StartOnly s) : b.StartOnly (s.loadLoopTable bs) :=
  (h.update.setF .looptabStatus).setF .looptabStatus

theorem State.StartOnly.spoilPage {b s : State} {ops : List NvmOp} (h : b.StartOnly s) : b.StartOnly (s.spoilPage ops) := by
  simp only [State.spoilPage]
  split
  · exact h.update.setNvmGroup
  · exact h.update

theorem State.StartOnly.programArmed {b s : State} {g : Nat} {bytes : List Byte} (h : b.StartOnly s) : b.StartOnly (s.programArmed g
    bytes) :=
  bindProp h.programGroup fun h0 => State.StartOnly.ite ((h0.setNvmGroup.setF .hrwInject).hwSet .hrwInject) h0

theorem State.StartOnly.nvmDo {b s : State} {x : NvmOp} (h : b.StartOnly s) : b.StartOnly (s.nvmDo x) := by
  simp only [State.nvmDo]
  split
  · exact h.erasePage
  · exact h.programArmed

theorem State.StartOnly.planRecord {b s : State} {p : RecPlace} {id : Nat} {data : List Byte} (h : b.StartOnly s) : b.StartOnly
    (s.planRecord p id data).2 :=
  State.StartOnly.ite h.update h

theorem State.StartOnly.writeRecord {b s : State} {p : RecPlace} {id : Nat} {data : List Byte} {bad : Option Nat} (h : b.StartOnly s) :
    b.StartOnly (s.writeRecord p id data bad).1 := by
  have hplan := h.planRecord (p := p) (id := id) (data := data)
  unfold State.writeRecord
  dsimp only
  split
  · exact hplan.foldl (fun _ _ hu => hu.nvmDo)
  · split
    · exact (hplan.foldl (fun _ _ hu => hu.nvmDo)).spoilPage.raise
    · exact hplan.foldl (fun _ _ hu => hu.nvmDo)

theorem State.StartOnly.copySet {b s : State} (h : b.StartOnly s) : b.StartOnly s.copySet := by
  simp only [State.copySet]
  exact h.foldl (fun _ _ h0 => (by
      split
      · split
        · next heq =>
          exact (h0.readRecord _ heq).writeRecord
        · exact h0
      · exact h0))

theorem State.StartOnly.startClocks {b s : State} (h : b.StartOnly s) : b.StartOnly s.startClocks :=
  bindProp ((((((((h.setF .clkStatus).setF .clkStatus).setF .clkStatus).setF .clkStatus).setF .glbStatus).setF .clkStatus).setF
      .clkStatus).setF .glbStatus) fun h3 => State.StartOnly.ite h3.raise h3

end Sys2Proof.Machine
end

section
/-! Start-up and power failure (R330, R366, R391, R401). -/

namespace Sys2Proof.Machine

/-! The recall of the NVM. -/

/-- From `b` to `t` the store has been recalled; the rest that the start-up keeps is kept. -/
structure State.Recalls (b t : State) : Prop where
  cyc : t.cyc = b.cyc
  fw : t.fw = b.fw
  cause : t.rd R.RST_CAUSE = b.rd R.RST_CAUSE
  recalled : t.recalled = true
  field : t.sys.field = b.sys.field
  raised : b.raised ⊆ t.raised

theorem State.Recalls.then {b s t : State} (h : b.Recalls s) (h' : s.StartOnly t) : b.Recalls t :=
  ⟨h'.cyc.trans h.cyc, h'.fw.trans h.fw, h'.cause.trans h.cause, h'.recalled.trans h.recalled, h'.field.trans h.field,
    List.Subset.trans h.raised h'.raised⟩

theorem State.StartOnly.recalled_flag {b s : State} (h : b.StartOnly s) (v : Nat) :
    b.Recalls ((s.setF R.NVM_STATUS F.NVM_STATUS_RECALLING 0).setF R.NVM_STATUS F.NVM_STATUS_PSET v) := by
  refine ⟨h.cyc, h.fw, ?_, ?_, h.field, h.raised⟩
  · rw [State.rd_setF_other _ _ _ (by decide), State.rd_setF_other _ _ _ (by decide), h.cause]
  · rw [State.recalled, State.flag_setF_field _ _ (by decide) (by decide) (.inl (by decide)), State.flag_setF_zero _ _ (by decide)]
    rfl

theorem State.StartOnly.setCarry {b s : State} {bb : BbSt} {n : Nat} (h : b.StartOnly s) :
    b.StartOnly { s with bb := bb, sys := { s.sys with bbCarry := n } } :=
  ⟨h.cyc, h.fw, h.cause, h.recalled, h.field, h.raised⟩

theorem State.recallNvm_recalls (s : State) : s.Recalls s.recallNvm := by
  unfold State.recallNvm
  extract_lets c nvm cleared groups counters params health newest box oldest bb sys carried shown flagged noted
  have hcounters : s.StartOnly counters :=
    ((State.StartOnly.refl s).update.foldl fun _ _ hu => hu.readGroup).each fun _ _ hu => hu.recallCounter
  have hparams : s.StartOnly params := by
    refine hcounters.foldl fun u id hu => ?_
    split
    · exact hu.recallRecord
    · exact hu
  have hhealth : s.StartOnly health := hparams.each fun _ _ hu => hu.recallRecord
  have hnewest : s.StartOnly newest := by
    unfold newest
    split
    · exact hhealth.wrN (.loaded (by decide) (by decide))
    · exact hhealth
  have hbox : s.StartOnly box := by
    unfold box
    split
    · exact hnewest.bbClear fun _ hu => hu.erasePage
    · exact hnewest
  have holdest : s.StartOnly oldest := hbox.showOldest
  have hcarried : s.StartOnly carried := holdest.setCarry
  have hshown : s.StartOnly shown := (hcarried.wrN (.loaded (by decide) (by decide))).showReerase
  have hnoted : s.Recalls noted := (hshown.recalled_flag _).then (State.StartOnly.refl _).bbQueue
  split
  · exact hnoted.then (State.StartOnly.refl _).incCounter
  · exact hnoted

/-! The board starts. -/

/-- The records of the boot and its loads, up to the milestones. -/
def State.boardLoaded (s : State) (o : StartObs) : State :=
  let s := if s.fw.state = 4 ∧ s.fw.newFormat ∧ s.fw.boots = 1 then s.copySet else s
  let s := s.loadFabric
  let img := (s.runBank.comp 2).image
  let s := s.loadLoopTable (if img.isEmpty then o.loopTable else img)
  let s := s.each [0, 1, 2, 3] (fun i s => (s.setPack i { s.pack i with vPack := o.vPack.getD i 0 }))
  let s := s.each [0, 1, 2, 3] (fun i s => ((s.loadProfile i (s.fw.profSel.getD i 0)).getD s).restoreLatch i)
  let s := s.each [0, 1, 2] (fun n s => s.startPort n (o.vPort.getD n 0) (o.cc.getD n none))
  let s := s.each [0, 1, 2] (fun n s => s.setSupV n (o.vInput.getD n 0))
  let s := (s.loadRecord 0x400 inputRegs).loadHost
  let s := s.each s.supOrder (fun x s => s.startQualify x)
  let s := s.each (List.range 8) (fun n s => s.identStage n o.flt ((hbList (s.stHb n)).map (fun k => o.imon.getD k 0)))
  let s := s.each [0, 1, 2, 3] (fun i s => s.startPack i (o.vPack.getD i 0))
  let s := s.each (List.range 6) (fun k s => s.wrN (R.RST_MILE k) (o.milestones.getD k 0))
  (s.setF R.GLB_STATUS F.GLB_STATUS_STEP 6).setF R.DBG_STATUS F.DBG_STATUS_OPEN (boolNat (s.fw.life == 4))

theorem State.startBoard_eq (s : State) (o : StartObs) : s.startBoard o =
    let t := s.recallNvm.boardLoaded o
    { t with sys := { t.sys with starting := false, field := true } } := rfl

theorem rstMile_startReg {k : Nat} (hk : k < 6) : StartReg (R.RST_MILE k) := by
  refine .loaded ?_ ?_
  · simp only [R.RST_MILE, R.RST_CAUSE]
    omega
  · simp only [R.RST_MILE, R.NVM_STATUS]
    omega

theorem small_lt {k : Nat} {l : List Nat} (h : k ∈ l) (hl : l.all (fun k => decide (k < 16)) = true) : k < 16 :=
  of_decide_eq_true (List.all_eq_true.1 hl k h)

theorem restored_startOnly {b s : State} (h : b.StartOnly s) {i : Nat} (hi : i < 16) (slot : Nat) :
    b.StartOnly (((s.loadProfile i slot).getD s).restoreLatch i) := by
  have hloaded := h.loadProfile (slot := slot) hi
  cases hp : s.loadProfile i slot with
  | none => exact h.restoreLatch
  | some t => exact (hloaded t hp).restoreLatch

theorem State.boardLoaded_startOnly (s : State) (o : StartObs) : s.StartOnly (s.boardLoaded o) := by
  have hrefl := State.StartOnly.refl s
  simp only [State.boardLoaded]
  exact bindProp (hrefl.copySet.ite hrefl).loadFabric fun hfab =>
    bindProp (hfab.loadLoopTable.each fun _ _ hu => hu.setPack) fun hloop =>
    bindProp ((hloop.eachIn fun i hi _ hu => restored_startOnly hu (small_lt hi (by decide)) _).eachIn fun n hn _ hu =>
      hu.startPort (small_lt hn (by decide))) fun hports =>
    bindProp (((hports.each fun _ _ hu => hu.setSupV).loadRecord inputRegs_startReg).loadHost.each fun _ _ hu => hu.startQualify) fun hsup =>
    bindProp ((hsup.each fun _ _ hu => hu.identStage).each fun _ _ hu => hu.startPack) fun hpacks =>
    bindProp (hpacks.eachIn fun k hk _ hu => hu.wrN (rstMile_startReg (List.mem_range.1 hk))) fun hmile =>
    (hmile.setF (.loaded (by decide) (by decide))).setF (.loaded (by decide) (by decide))

/-- What a board that has started shows, and what its start has kept. -/
theorem State.startBoard_starts (s : State) (o : StartObs) :
    (s.startBoard o).sys.starting = false ∧ (s.startBoard o).sys.field = true ∧ (s.startBoard o).recalled = true ∧
    (s.startBoard o).f R.GLB_STATUS F.GLB_STATUS_STEP = 6 := by
  have hkept := s.recallNvm_recalls.then (s.recallNvm.boardLoaded_startOnly o)
  have hstep : (s.recallNvm.boardLoaded o).f R.GLB_STATUS F.GLB_STATUS_STEP = 6 := by
    rw [State.boardLoaded, State.f_setF_reg _ _ _ _ (by decide), State.f_setF_same _ _ _ _ (by decide)]
    rfl
  rw [s.startBoard_eq]
  exact ⟨rfl, rfl, hkept.recalled, hstep⟩

/-- The time, the update's state and the reset's cause outlive a start-up, and no report is lost. -/
structure State.Starts (b t : State) : Prop where
  cyc : t.cyc = b.cyc
  fw : t.fw = b.fw
  cause : t.rd R.RST_CAUSE = b.rd R.RST_CAUSE
  raised : b.raised ⊆ t.raised

theorem State.startBoard_keeps (s : State) (o : StartObs) : s.Starts (s.startBoard o) := by
  have hkept := s.recallNvm_recalls.then (s.recallNvm.boardLoaded_startOnly o)
  rw [s.startBoard_eq]
  exact ⟨hkept.cyc, hkept.fw, hkept.cause, hkept.raised⟩

theorem State.bootFail_eq (s : State) : s.bootFail =
    let t := s.recallNvm.loadFabric.raise 0xBB 0 []
    { t with sys := { t.sys with starting := false, bootBad := true } } := rfl

theorem State.bootFail_fails (s : State) : s.Starts s.bootFail ∧ s.bootFail.sys.starting = false ∧
    s.bootFail.sys.field = s.sys.field ∧ s.bootFail.recalled = true ∧ faultOf 0xBB 0 [] ∈ s.bootFail.raised := by
  have hkept := s.recallNvm_recalls.then ((State.StartOnly.refl s.recallNvm).loadFabric.raise (id := 0xBB) (inst := 0) (record := []))
  have hreport : faultOf 0xBB 0 [] ∈ (s.recallNvm.loadFabric.raise 0xBB 0 []).raised := List.mem_append_right _ (List.mem_singleton_self _)
  rw [s.bootFail_eq]
  dsimp only
  generalize s.recallNvm.loadFabric.raise 0xBB 0 [] = t at hkept hreport
  exact ⟨⟨hkept.cyc, hkept.fw, hkept.cause, hkept.raised⟩, rfl, hkept.field, hkept.recalled, hreport⟩

/-! The boot decision of the ROM (R330). -/

/-- From `b` to `t` the clocks have started and a debug entry is done: the time, the cause, the banks and the Field cores are as before. -/
structure State.Readies (b t : State) : Prop where
  cyc : t.cyc = b.cyc
  cause : t.rd R.RST_CAUSE = b.rd R.RST_CAUSE
  field : t.sys.field = b.sys.field
  running1 : t.fw.running1 = b.fw.running1
  bank0 : t.fw.bank0 = b.fw.bank0
  bank1 : t.fw.bank1 = b.fw.bank1

theorem State.StartOnly.readies {b t : State} (h : b.StartOnly t) : b.Readies t :=
  ⟨h.cyc, h.cause, h.field, by rw [h.fw], by rw [h.fw], by rw [h.fw]⟩

theorem State.Readies.then {b s t : State} (h : b.Readies s) (h' : s.StartOnly t) : b.Readies t :=
  ⟨h'.cyc.trans h.cyc, h'.cause.trans h.cause, h'.field.trans h.field, by rw [h'.fw, h.running1], by rw [h'.fw, h.bank0],
    by rw [h'.fw, h.bank1]⟩

theorem State.Readies.buildFailed {b s : State} (h : b.Readies s) (code : Nat) : b.Readies (s.buildFailed code) := by
  have hset : b.Readies { s with fw := { s.fw with state := 0, last := 3, fail := code } } :=
    ⟨h.cyc, h.cause, h.field, h.running1, h.bank0, h.bank1⟩
  exact hset.then (State.StartOnly.refl _).showFw.raise

theorem State.Readies.finishDebug {b s : State} (h : b.Readies s) : b.Readies s.finishDebug := by
  unfold State.finishDebug
  extract_lets key fw bb erased shown built
  have herased : b.Readies erased := ⟨h.cyc, h.cause, h.field, h.running1, h.bank0, h.bank1⟩
  have hshown : b.Readies shown := herased.then ((State.StartOnly.refl _).wrN (.loaded (by decide) (by decide)))
  have hbuilt : b.Readies built := by
    unfold built
    split
    · exact hshown.buildFailed _
    · exact hshown
  exact hbuilt.then ((State.StartOnly.refl _).showFw.setF (.loaded (by decide) (by decide)))

/-- The state in which the ROM decides what boots. -/
def State.beforeRom (s : State) : State := if s.startClocks.fw.life = 3 then s.startClocks.finishDebug else s.startClocks

theorem State.beforeRom_readies (s : State) : s.Readies s.beforeRom := by
  have hclocks := (State.StartOnly.refl s).startClocks.readies
  unfold State.beforeRom
  split
  · exact hclocks.finishDebug
  · exact hclocks

/-- The running bank boots, or the other one does, as the ROM has verified them. -/
def State.okRun (s : State) (o : StartObs) : Bool := if s.fw.running1 then o.bank1Ok else o.bank0Ok

def State.okOther (s : State) (o : StartObs) : Bool := if s.fw.running1 then o.bank0Ok else o.bank1Ok

/-- The other bank taken for the running one, with its report. -/
def State.fellBack (s : State) : State :=
  ({ s with fw := { s.fw with running1 := !s.fw.running1 } }.setF R.SEC_STATUS F.SEC_STATUS_RECOVERY 1).raise 0xBA 0 []

theorem State.startUp_eq (s : State) (o : StartObs) : s.startUp o = if s.beforeRom.okRun o then s.beforeRom.startBoard o
    else if s.beforeRom.runBank.st = .active ∧ s.beforeRom.otherBank.st = .previous ∧ s.beforeRom.okOther o then
      s.beforeRom.fellBack.startBoard o
    else s.beforeRom.bootFail := rfl

theorem State.beforeRom_ok (s : State) (o : StartObs) : s.beforeRom.okRun o = s.okRun o ∧ s.beforeRom.okOther o = s.okOther o := by
  rw [State.okRun, State.okOther, s.beforeRom_readies.running1]
  exact ⟨rfl, rfl⟩

theorem State.beforeRom_banks (s : State) : s.beforeRom.runBank = s.runBank ∧ s.beforeRom.otherBank = s.otherBank := by
  have h := s.beforeRom_readies
  rw [State.runBank, State.otherBank, h.running1, h.bank0, h.bank1]
  exact ⟨rfl, rfl⟩

/-- Whatever boots, a start-up keeps the time and the reset's cause. -/
theorem State.startUp_keeps (s : State) (o : StartObs) : (s.startUp o).cyc = s.cyc ∧ (s.startUp o).rd R.RST_CAUSE = s.rd R.RST_CAUSE := by
  have h := s.beforeRom_readies
  have hboard := s.beforeRom.startBoard_keeps o
  have hback := s.beforeRom.fellBack.startBoard_keeps o
  have hfail := s.beforeRom.bootFail_fails.1
  have hcause : s.beforeRom.fellBack.rd R.RST_CAUSE = s.beforeRom.rd R.RST_CAUSE := by
    rw [State.fellBack, State.raise_rd_of, State.rd_setF_other _ _ _ (by decide)]
    rfl
  rw [s.startUp_eq]
  split
  · exact ⟨hboard.cyc.trans h.cyc, hboard.cause.trans h.cause⟩
  split
  · exact ⟨hback.cyc.trans h.cyc, hback.cause.trans (hcause.trans h.cause)⟩
  · exact ⟨hfail.cyc.trans h.cyc, hfail.cause.trans h.cause⟩

/-! The power-fail warning (R366, R391). -/

theorem State.programArmed_bb (s : State) (g : Nat) (bytes : List Byte) : (s.programArmed g bytes).bb = s.bb := by
  have hprogram : (s.programGroup g bytes).bb = s.bb := by rw [s.programGroup_storeOnly g bytes]
  unfold State.programArmed
  dsimp only
  split
  · rw [State.hwSet_bb, State.setF_bb, State.setNvmGroup_bb, hprogram]
  · exact hprogram

theorem State.nvmDo_bb (s : State) (o : NvmOp) : (s.nvmDo o).bb = s.bb := by
  cases o with
  | erase p => rw [State.nvmDo, s.erasePage_storeOnly p]
  | program g bytes => exact s.programArmed_bb g bytes

/-- The records that wait for the black box. -/
def State.bbWaits (s : State) : List BbRec × List BbRec := (s.bb.queue, s.bb.breach)

theorem State.bbWaits_of_bb {s t : State} (h : t.bb = s.bb) : t.bbWaits = s.bbWaits := by rw [State.bbWaits, h, State.bbWaits]

theorem State.showOldest_bb (s : State) : s.showOldest.bb = s.bb := by
  unfold State.showOldest
  split
  · rfl
  · rfl

theorem State.bbClear_waits (s : State) (page : Nat) {op : State → State} (hop : ∀ t : State, (op t).bb = t.bb) :
    (s.bbClear page op).bbWaits = s.bbWaits := by
  rw [State.bbClear, State.bbWaits_of_bb (hop _)]
  rfl

theorem State.bbTaken_waits (s : State) (slot : Nat) {op : State → State} (hop : ∀ t : State, (op t).bb = t.bb) :
    (s.bbTaken slot op).bbWaits = s.bbWaits := by
  rw [State.bbTaken, State.bbWaits_of_bb (State.showOldest_bb _)]
  split
  · rw [State.bbClear_waits _ _ hop]
    rfl
  · rfl

theorem State.erasePage_bb (s : State) (p : Nat) : (s.erasePage p).bb = s.bb := by rw [s.erasePage_storeOnly p]

theorem State.bbNewest_waits (s : State) (bytes : List Byte) : (s.bbNewest bytes).bbWaits = s.bbWaits := rfl

/-- An append writes the store, and takes nothing from the queues. -/
theorem State.bbAppendRec_waits (s : State) (r : BbRec) : (s.bbAppendRec r).bbWaits = s.bbWaits := by
  have hops := foldl_keeps (f := State.bb) (fun (t : State) o => t.nvmDo_bb o) (s.bbOps r) s
  rw [State.bbAppendRec, State.bbTaken_waits _ _ fun t => t.erasePage_bb _, State.bbNewest_waits, State.bbWaits_of_bb hops]

theorem State.lastGasp_waits (s : State) (aborted : List Byte) : (s.lastGasp aborted).bbWaits = ([], []) := by
  unfold State.lastGasp
  dsimp only
  split
  · rfl
  · rw [State.bbAppendRec_waits]
    rfl

theorem State.openSwitch_waits (s : State) (w : Nat) : (s.openSwitch w).bbWaits = s.bbWaits := by
  rw [State.openSwitch, State.bbWaits, State.setF_bb, State.setF_bb, State.setF_bb, ← State.bbWaits]

theorem State.openAll_waits (s : State) : s.openAll.bbWaits = s.bbWaits :=
  State.each_keeps (f := State.bbWaits) (fun w u => u.openSwitch_waits w) (List.range 12) s

theorem State.openAll_pswClosed (s : State) (w : Fin 12) : s.openAll.pswClosed w = false := by
  refine State.each_at (P := fun u => u.pswClosed w = false) (Q := fun _ => True) (g := fun w s => s.openSwitch w)
    (List.mem_range.2 w.isLt) List.nodup_range (fun u _ => u.openSwitch_pswClosed w) (fun k hk u => ⟨id, fun hu => ?_⟩) trivial
  have hne : R.PSW_STATUS w ∉ [R.PSW_STATUS k] := by simp only [R.PSW_STATUS, List.mem_singleton]; omega
  rw [State.pswClosed, (u.openSwitch_sameRegs k).flag _ hne, ← State.pswClosed, hu]

/-- A port that no longer discharges. -/
def State.dischargeOff (s : State) (n : Nat) : State := s.setPort n { s.port n with dschg := false }

theorem State.dischargeOff_pswClosed (s : State) (n w : Nat) : (s.dischargeOff n).pswClosed w = s.pswClosed w := rfl

theorem State.dischargeOff_waits (s : State) (n : Nat) : (s.dischargeOff n).bbWaits = s.bbWaits := rfl

/-- The block after its last gasp: the switches open, no port discharging. -/
def State.opened (s : State) : State := s.openAll.each [0, 1, 2] (fun n s => s.dischargeOff n)

theorem State.opened_pswClosed (s : State) (w : Fin 12) : s.opened.pswClosed w = false :=
  (State.each_keeps (f := fun u : State => u.pswClosed w) (fun n u => u.dischargeOff_pswClosed n w) [0, 1, 2] s.openAll).trans
    (s.openAll_pswClosed w)

theorem State.opened_waits (s : State) : s.opened.bbWaits = s.bbWaits :=
  (State.each_keeps (f := State.bbWaits) (fun n u => u.dischargeOff_waits n) [0, 1, 2] s.openAll).trans s.openAll_waits

/-- The hold that follows. -/
def State.held (s : State) : State := { s with sys := { s.sys with power := .hold, field := false } }

theorem State.held_leaves (s : State) : s.held.sys.power = .hold ∧ s.held.bbWaits = s.bbWaits ∧ ∀ w : Nat, s.held.pswClosed w = s.pswClosed w :=
  ⟨rfl, rfl, fun _ => rfl⟩

theorem State.powerFail_eq (s : State) (aborted : List Byte) : ∃ t : State, s.powerFail aborted = (t.lastGasp aborted).opened.held := ⟨_, rfl⟩

/-- A block whose supply fails holds, its switches open and its queues written off. -/
theorem State.powerFail_holds (s : State) (aborted : List Byte) : (s.powerFail aborted).sys.power = .hold ∧
    (s.powerFail aborted).bbWaits = ([], []) ∧ ∀ w : Fin 12, (s.powerFail aborted).pswClosed w = false := by
  obtain ⟨t, ht⟩ := s.powerFail_eq aborted
  obtain ⟨hpower, hwaits, hclosed⟩ := (t.lastGasp aborted).opened.held_leaves
  rw [ht]
  refine ⟨hpower, ?_, fun w => ?_⟩
  · rw [hwaits, State.opened_waits, State.lastGasp_waits]
  · rw [hclosed, State.opened_pswClosed]

end Sys2Proof.Machine
end

section
/-! Resets and the start-up as commands (R397–R402). -/

namespace Sys2Proof.Machine

/-- A block after a warm reset of a cause: at its start, with its time and its local window. -/
def State.WarmReset (s u : State) (cause : Nat) : Prop :=
  u.f R.RST_CAUSE F.RST_CAUSE_CAUSE = cause ∧ u.sys.starting = true ∧ u.sys.power = .on ∧ u.cyc = s.cyc ∧ u.plan = [] ∧
    u.localWin = s.localWin

theorem State.afterReset_warm {s t : State} {c : Nat} (hc : c < 8) (hw : warmCause c = true) (hcyc : t.cyc = s.cyc)
    (hlocal : t.localWin = s.localWin) : s.WarmReset (t.afterReset c 0) c := by
  obtain ⟨hcause, hsys, htime, hplan, hwin⟩ := t.afterReset_leaves 0 hc
  have hkeep : t.resetCyc c 0 = s.cyc := by
    have hcold : coldCause c = false := by
      unfold warmCause at hw
      cases h : coldCause c with
      | false => rfl
      | true => simp [h] at hw
    have hfallow : c ≠ rcFallow := by
      rintro rfl
      simp [warmCause] at hw
    rw [State.resetCyc, hcold, if_neg Bool.false_ne_true, if_neg hfallow, hcyc]
  refine ⟨hcause, ?_, ?_, htime.trans hkeep, hplan, ?_⟩
  · rw [hsys]
    rfl
  · rw [hsys]
    rfl
  · rw [hwin, if_pos hw, hlocal]

theorem State.cutReset_kept (s : State) (w : NvmCut) : (s.cutReset w).cyc = s.cyc ∧ (s.cutReset w).localWin = s.localWin := by
  have h := (State.CutOnly.refl s).cutReset (w := w)
  unfold State.CutOnly at h
  rw [h]
  exact ⟨rfl, rfl⟩

theorem State.cutReset_idle (s : State) : s.cutReset .idle = s := rfl

/-! NRST and SYS_RESET. -/

theorem exec_nrst_of_long {s : State} {ns : Nat} (hl : s.live) (w : NvmCut) (h : 10000 ≤ ns) :
    exec (.nrst ns w) s = .next ((s.cutReset w).afterReset rcNrst 0).settle := by
  rw [exec_powered (c := .nrst ns w) (g := fun s => if 10000 ≤ ns then (s.cutReset w).afterReset rcNrst 0 else if ns < 9600 then s
    else if (s.takeFree 1).1 = 1 then ((s.takeFree 1).2.cutReset w).afterReset rcNrst 0 else (s.takeFree 1).2) hl rfl, if_pos h]

theorem exec_nrst_of_short {s : State} {ns : Nat} (hl : s.live) (w : NvmCut) (h : ns < 9600) : exec (.nrst ns w) s = .next s := by
  rw [exec_powered (c := .nrst ns w) (g := fun s => if 10000 ≤ ns then (s.cutReset w).afterReset rcNrst 0 else if ns < 9600 then s
    else if (s.takeFree 1).1 = 1 then ((s.takeFree 1).2.cutReset w).afterReset rcNrst 0 else (s.takeFree 1).2) hl rfl,
    if_neg (by omega), if_pos h, State.settle_quiet hl.2]

theorem exec_sysReset {s : State} (hl : s.live) (p : Path) : exec (.sysReset p) s =
    .next (if p = .headland then s.afterReset rcSoftware 0 else s.hwDenied p R.RST_CTRL 1#32).settle :=
  exec_powered (g := fun s => if p = .headland then s.afterReset rcSoftware 0 else s.hwDenied p R.RST_CTRL 1#32) hl rfl

theorem State.sysReset_denied {s : State} {p : Path} (hp : p ≠ .headland) (hz : s.rd R.RST_CTRL = 0#32) :
    s.hwDenied p R.RST_CTRL 1#32 = s.raise 0xB0 (pathNo p) (leBytes 4 R.RST_CTRL) := by
  have hmask : (0#32 ^^^ 1#32) &&& accMask R.RST_CTRL [.hw] ≠ 0#32 := by decide +kernel
  rw [State.hwDenied, hz, if_neg fun h => h.elim hp hmask]

/-! The start-up. -/

theorem exec_coldStart_of_starting {s : State} (o : StartObs) (hp : s.sys.power = .on) (hs : s.sys.starting = true) :
    exec (.coldStart o) s = .next (s.startUp o).settle := by
  have h : exec (.coldStart o) s = execColdStart o s := rfl
  rw [h, execColdStart, hp]
  dsimp only
  rw [if_pos hs]

/-- Without a reset pending, a start-up is one after a power-on reset. -/
theorem exec_coldStart_of_collapse {s : State} (o : StartObs)
    (h : s.sys.power = .hold ∨ s.sys.power = .fallow ∨ (s.sys.power = .on ∧ s.sys.starting = false)) :
    exec (.coldStart o) s = .next ((s.afterReset rcPowerOn 0).startUp o).settle := by
  have hexec : exec (.coldStart o) s = execColdStart o s := rfl
  rw [hexec, execColdStart]
  rcases h with h | h | ⟨h, hs⟩
  · rw [h]
  · rw [h]
  · rw [h]
    dsimp only
    rw [if_neg (by simp [hs])]

theorem State.startUp_of_run {s : State} {o : StartObs} (h : s.okRun o = true) : s.startUp o = s.beforeRom.startBoard o := by
  rw [s.startUp_eq, (s.beforeRom_ok o).1, if_pos h]

theorem State.startUp_of_other {s : State} {o : StartObs} (h : s.okRun o = false) (ho : s.okOther o = true) (hr : s.runBank.st = .active)
    (hp : s.otherBank.st = .previous) : s.startUp o = s.beforeRom.fellBack.startBoard o := by
  obtain ⟨hrun, hother⟩ := s.beforeRom_banks
  rw [s.startUp_eq, (s.beforeRom_ok o).1, (s.beforeRom_ok o).2, hrun, hother, if_neg (by simp [h]), if_pos ⟨hr, hp, ho⟩]

theorem State.startUp_of_none {s : State} {o : StartObs} (h : s.okRun o = false) (ho : s.okOther o = false) :
    s.startUp o = s.beforeRom.bootFail := by
  rw [s.startUp_eq, (s.beforeRom_ok o).1, (s.beforeRom_ok o).2, if_neg (by simp [h]), if_neg (by simp [ho])]

/-! RUN_READY (R402). -/

/-- The rails that start by themselves have settled. -/
def State.autoSettled (s : State) : Prop :=
  ∀ r : Fin 8, s.declared r = true → s.flag (R.RAIL_CFG r) F.RAIL_CFG_AUTO_ON = true → s.railSettled r = true

theorem State.autoSettled_all {s : State} (h : s.autoSettled) :
    (List.range 8).all (fun r => !(s.declared r && s.flag (R.RAIL_CFG r) F.RAIL_CFG_AUTO_ON) || s.railSettled r) = true := by
  rw [List.all_eq_true]
  intro r hr
  by_cases hd : s.declared r = true ∧ s.flag (R.RAIL_CFG r) F.RAIL_CFG_AUTO_ON = true
  · simp [h ⟨r, List.mem_range.1 hr⟩ hd.1 hd.2]
  · simp only [Bool.or_eq_true, Bool.not_eq_true', Bool.and_eq_false_iff]
    left
    by_contra hne
    rw [not_or, Bool.not_eq_false, Bool.not_eq_false] at hne
    exact hd hne

/-- The registers of a block that is ready. -/
def State.readyShown (s : State) : State :=
  let s := (s.setF R.GLB_STATUS F.GLB_STATUS_RUN_READY 1).setF R.GLB_STATUS F.GLB_STATUS_STEP 7
  s.wrN (R.RST_MILE 6) (s.us - s.sys.startUs)

theorem State.readyShown_sameRegs (s : State) : s.sameRegs s.readyShown [R.GLB_STATUS, R.RST_MILE 6] :=
  (((s.sameRegs_refl _).setF List.mem_cons_self _ _).setF List.mem_cons_self _ _).wrN (List.mem_cons_of_mem _ List.mem_cons_self) _

theorem State.readyShown_status (s : State) : s.readyShown.runReady = true ∧ s.readyShown.f R.GLB_STATUS F.GLB_STATUS_STEP = 7 ∧
    s.readyShown.rdN (R.RST_MILE 6) = (s.us - s.sys.startUs) % 2 ^ 32 := by
  have hmile : R.GLB_STATUS ≠ R.RST_MILE 6 := by decide
  refine ⟨?_, ?_, ?_⟩
  · rw [State.runReady, State.readyShown, State.wrN, State.flag, State.f, State.rd_wr_other _ _ hmile, ← State.f, ← State.flag,
      State.flag_setF_field _ _ (by decide) (by decide) (.inl (by decide)), State.flag_setF_one _ _ (by decide) (by decide)]
  · rw [State.readyShown, State.wrN, State.f, State.rd_wr_other _ _ hmile, ← State.f, State.f_setF_same _ _ _ _ (by decide)]
    rfl
  · rw [State.readyShown, State.wrN, State.rdN, State.rd_wr_same, BitVec.toNat_ofNat]
    rfl

/-- A block that is ready, its trial's time running. -/
def State.madeReady (s : State) : State := { s.readyShown with fw := { s.readyShown.fw with trialUs := s.us } }

theorem exec_runReady {s : State} (hl : s.live) (hs : s.sys.starting = false) (hf : s.sys.field = true) (hr : s.runReady = false)
    (ha : s.autoSettled) : exec .runReady s = .next s.madeReady := by
  have hexec := exec_powered (c := .runReady) (g := fun s => if ¬ s.sys.starting ∧ s.sys.field ∧ ¬ s.runReady
    ∧ (List.range 8).all (fun r => !(s.declared r && s.flag (R.RAIL_CFG r) F.RAIL_CFG_AUTO_ON) || s.railSettled r) then
      s.madeReady else s) hl rfl
  rw [if_pos ⟨by simp [hs], hf, by simp [hr], State.autoSettled_all ha⟩] at hexec
  rw [hexec, State.settle_quiet (s := s.madeReady) hl.2]

/-- Settles O58: each reset leaves the block at its start with its cause, and the start-up boots the bank that verifies. -/
theorem resetsAndStartUp : Obligations.ResetsAndStartUp := by
  unfold Obligations.ResetsAndStartUp
  refine ⟨fun s p hl => ⟨fun ns w hns => ?_, fun ns w hns => exec_nrst_of_short hl w hns, ?_, fun hp hz => ?_, fun c => ?_,
    fun o hs => ⟨fun hrun => ?_, fun hrun hother hact hprev => ?_, fun hrun hother => ?_⟩, fun hs hf hr ha => ?_⟩,
    fun s o => ⟨fun hp => ?_, fun hp => ?_, fun hp => ?_, fun hp => ?_⟩⟩
  · obtain ⟨hcyc, hlocal⟩ := s.cutReset_kept w
    refine ⟨_, exec_nrst_of_long hl w hns, State.afterReset_warm (by decide) rfl hcyc hlocal, fun hw hfw => ?_⟩
    rw [hw, s.cutReset_idle, State.afterReset_nvm _ _ hfw]
  · exact ⟨_, by rw [exec_sysReset hl, if_pos rfl], State.afterReset_warm (by decide) rfl rfl rfl, fun hfw => State.afterReset_nvm _ _ hfw⟩
  · exact ⟨_, by rw [exec_sysReset hl, if_neg hp, State.sysReset_denied hp hz], (State.onlyRegs_refl hl.2 []).raise _ _ _⟩
  · obtain ⟨hpower, hwaits, hopen⟩ := (s.cutPower c).2.powerFail_holds (s.cutPower c).1
    have hexec := exec_powered_quiet (c := .powerFailWarn c) (g := fun s => (s.cutPower c).2.powerFail (s.cutPower c).1) hl rfl
      (State.powerFail_raised _ _)
    exact ⟨_, hexec, hpower, congrArg Prod.fst hwaits, congrArg Prod.snd hwaits, hopen⟩
  · obtain ⟨hstart, hfield, hrecalled, hstep⟩ := s.beforeRom.startBoard_starts o
    exact ⟨_, by rw [exec_coldStart_of_starting o hl.1 hs, State.startUp_of_run hrun], hstart, hfield, hrecalled, hstep⟩
  · obtain ⟨-, hfield, -⟩ := s.beforeRom.fellBack.startBoard_starts o
    have hkept := s.beforeRom.fellBack.startBoard_keeps o
    refine ⟨_, by rw [exec_coldStart_of_starting o hl.1 hs, State.startUp_of_other hrun hother hact hprev], hfield, ?_, ?_⟩
    · rw [hkept.fw]
      exact congrArg (fun b => !b) s.beforeRom_readies.running1
    · exact hkept.raised (List.mem_append_right _ (List.mem_singleton_self _))
  · obtain ⟨-, hstart, hfield, hrecalled, hreport⟩ := s.beforeRom.bootFail_fails
    exact ⟨_, by rw [exec_coldStart_of_starting o hl.1 hs, State.startUp_of_none hrun hother], hstart,
      hfield.trans s.beforeRom_readies.field, hrecalled, hreport⟩
  · obtain ⟨hready, hstep, hmile⟩ := s.readyShown_status
    exact ⟨_, exec_runReady hl hs hf hr ha, hready, hstep, hmile, s.readyShown_sameRegs⟩
  · have hexec : exec .brownout s = .next (s.afterReset rcBrownout 0).settle := by
      have h : exec .brownout s = execBrownout s := rfl
      rw [h, execBrownout, hp]
    obtain ⟨hcause, hstart, hpower, hcyc, -⟩ := State.afterReset_warm (s := s) (t := s) (c := rcBrownout) (by decide) rfl rfl rfl
    exact ⟨_, hexec, hcause, hpower, hstart, hcyc⟩
  · have h : exec .brownout s = execBrownout s := rfl
    rw [h, execBrownout]
    cases hpow : s.sys.power with
    | hold => exact absurd hpow hp
    | on => rfl
    | fallow => rfl
    | ship => rfl
  · obtain ⟨hcyc, hcause⟩ := (s.afterReset rcPowerOn 0).startUp_keeps o
    obtain ⟨hset, -, htime, -⟩ := s.afterReset_leaves 0 (c := rcPowerOn) (by decide)
    refine ⟨_, exec_coldStart_of_collapse o hp, ?_, hcyc.trans htime⟩
    rw [State.f, hcause, ← State.f, hset]
  · have h : exec (.coldStart o) s = execColdStart o s := rfl
    rw [h, execColdStart, hp]

end Sys2Proof.Machine
end

section
/-! What the black box and the records change as they are written (R353, R363–R366). -/

namespace Sys2Proof.Machine

/-- A register that a write of the store may change. -/
inductive BoxReg : Nat → Prop
  | bbNextSeq : BoxReg R.BB_NEXT_SEQ
  | bbOldestSeq : BoxReg R.BB_OLDEST_SEQ
  | hrwInject : BoxReg R.HRW_INJECT
  | nvmStatus : BoxReg R.NVM_STATUS

/-- The offsets of these registers. -/
theorem BoxReg.offset {o : Nat} (h : BoxReg o) : o = 0x8020 ∨ o = 0x8024 ∨ o = 0x7720 ∨ o = 0x8000 := by
  cases h with
  | bbNextSeq => simp [R.BB_NEXT_SEQ]
  | bbOldestSeq => simp [R.BB_OLDEST_SEQ]
  | hrwInject => simp [R.HRW_INJECT]
  | nvmStatus => simp [R.NVM_STATUS]

/-- `t` differs from `b` in what writes of the black box and of records change alone; the counters of the store are as they were. -/
structure State.BoxOnly (b t : State) : Prop where
  frame : t = { b with
    regs := t.regs, bb := t.bb, cycle := t.cycle, free := t.free, nvm := t.nvm, packs := t.packs, raised := t.raised }
  regs : ∀ o, ¬ BoxReg o → t.rd o = b.rd o
  counters : t.nvm.counters = b.nvm.counters

theorem State.BoxOnly.refl (s : State) : s.BoxOnly s := ⟨rfl, fun _ _ => rfl, rfl⟩

theorem State.BoxOnly.trans {s t u : State} (h : s.BoxOnly t) (h' : t.BoxOnly u) : s.BoxOnly u :=
  ⟨by rw [h'.frame, h.frame], fun o ho => (h'.regs o ho).trans (h.regs o ho), h'.counters.trans h.counters⟩

theorem State.BoxOnly.update {b s : State} {bb : BbSt} {cycle : CycleRt} {free : Nat} {packs : Tab PackRt} {raised : List Raised}
    (h : b.BoxOnly s) : b.BoxOnly { s with bb := bb, cycle := cycle, free := free, packs := packs, raised := raised } :=
  ⟨by rw [h.frame], h.regs, h.counters⟩

theorem State.BoxOnly.updateNvm {b s : State} {nvm : NvmSt} (h : b.BoxOnly s) (hc : nvm.counters = s.nvm.counters) :
    b.BoxOnly { s with nvm := nvm } :=
  ⟨by rw [h.frame], h.regs, hc.trans h.counters⟩

theorem State.BoxOnly.ite {b s t : State} {c : Prop} [Decidable c] (hs : b.BoxOnly s) (ht : b.BoxOnly t) :
    b.BoxOnly (if c then s else t) := by
  split
  · exact hs
  · exact ht

theorem State.BoxOnly.foldl {α : Type} {b s : State} {g : State → α → State} {l : List α} (h : b.BoxOnly s)
    (hg : ∀ u a, b.BoxOnly u → b.BoxOnly (g u a)) : b.BoxOnly (l.foldl g s) := by
  induction l generalizing s with
  | nil => exact h
  | cons a l ih => exact ih (hg s a h)

theorem State.BoxOnly.setPack {b s : State} {i : Nat} {r : PackRt} (h : b.BoxOnly s) : b.BoxOnly (s.setPack i r) := h.update

theorem State.BoxOnly.setNvmGroup {b s : State} {g : Nat} {st : GroupStatus} (h : b.BoxOnly s) : b.BoxOnly (s.setNvmGroup g st) :=
  h.updateNvm rfl

theorem State.BoxOnly.takeFree {b s : State} {w : Nat} (h : b.BoxOnly s) : b.BoxOnly (s.takeFree w).2 := h.update

theorem State.BoxOnly.spoilPage {b s : State} {ops : List NvmOp} (h : b.BoxOnly s) : b.BoxOnly (s.spoilPage ops) := by
  simp only [State.spoilPage]
  split
  · exact h.update.setNvmGroup
  · exact h.update

theorem State.BoxOnly.raise {b s : State} {id inst : Nat} {record : List Byte} (h : b.BoxOnly s) : b.BoxOnly (s.raise id inst record) :=
  h.update

theorem State.BoxOnly.wr {b s : State} {off : Nat} {v : Word} (h : b.BoxOnly s) (hoff : BoxReg off) : b.BoxOnly (s.wr off v) :=
  ⟨by rw [State.wr, h.frame], fun o ho => (State.rd_wr_other _ _ fun e : o = off => ho (e ▸ hoff)).trans (h.regs o ho), h.counters⟩

theorem State.BoxOnly.setF {b s : State} {off : Nat} {fld : Fld} {v : Nat} (h : b.BoxOnly s) (hoff : BoxReg off) :
    b.BoxOnly (s.setF off fld v) := h.wr hoff

theorem State.BoxOnly.noteOld {b s : State} {off : Nat} (h : b.BoxOnly s) : b.BoxOnly (s.noteOld off) := h.update

theorem State.BoxOnly.noteNew {b s : State} {off : Nat} {fld : Fld} {v : Nat} (h : b.BoxOnly s) : b.BoxOnly (s.noteNew off fld v) :=
  h.noteOld.update

theorem State.BoxOnly.hwSet {b s : State} {off : Nat} {fld : Fld} {v : Nat} (h : b.BoxOnly s) (hoff : BoxReg off) :
    b.BoxOnly (s.hwSet off fld v) := h.noteNew.setF hoff

theorem State.BoxOnly.setNvmByte {b s : State} {a : Nat} {v : Byte} (h : b.BoxOnly s) : b.BoxOnly (s.setNvmByte a v) := h.updateNvm rfl

theorem State.BoxOnly.programGroup {b s : State} {g : Nat} {bytes : List Byte} (h : b.BoxOnly s) : b.BoxOnly (s.programGroup g bytes) :=
  (h.foldl (fun _ _ h0 => h0.setNvmByte)).setNvmGroup

theorem State.BoxOnly.programArmed {b s : State} {g : Nat} {bytes : List Byte} (h : b.BoxOnly s) : b.BoxOnly (s.programArmed g bytes) :=
  bindProp h.programGroup fun h0 => State.BoxOnly.ite ((h0.setNvmGroup.setF .hrwInject).hwSet .hrwInject) h0

theorem State.BoxOnly.clearGroup {b s : State} {g : Nat} (h : b.BoxOnly s) : b.BoxOnly (s.clearGroup g) :=
  (h.foldl (fun _ _ h0 => h0.setNvmByte)).setNvmGroup

theorem State.BoxOnly.showReerase {b s : State} (h : b.BoxOnly s) : b.BoxOnly s.showReerase := h.setF .nvmStatus

theorem State.BoxOnly.unqueuePage {b s : State} {p : Nat} (h : b.BoxOnly s) : b.BoxOnly (s.unqueuePage p) :=
  State.BoxOnly.ite (h.updateNvm (nvm := { s.nvm with reerase := s.nvm.reerase.filter (· != p) }) rfl).showReerase h

theorem State.BoxOnly.erasePage {b s : State} {p : Nat} (h : b.BoxOnly s) : b.BoxOnly (s.erasePage p) :=
  (h.foldl (fun _ _ h0 => h0.clearGroup)).unqueuePage

theorem State.BoxOnly.nvmDo {b s : State} {x : NvmOp} (h : b.BoxOnly s) : b.BoxOnly (s.nvmDo x) := by
  simp only [State.nvmDo]
  split
  · exact h.erasePage
  · exact h.programArmed

theorem State.BoxOnly.planRecord {b s : State} {p : RecPlace} {id : Nat} {data : List Byte} (h : b.BoxOnly s) : b.BoxOnly (s.planRecord p
    id data).2 :=
  State.BoxOnly.ite h.update h

theorem State.BoxOnly.writeRecord {b s : State} {p : RecPlace} {id : Nat} {data : List Byte} {bad : Option Nat} (h : b.BoxOnly s) :
    b.BoxOnly (s.writeRecord p id data bad).1 := by
  simp only [State.writeRecord]
  exact bindProp h.planRecord fun hplan => (by
    split
    · exact hplan.foldl (fun _ _ hu => hu.nvmDo)
    · split
      · exact (hplan.foldl (fun _ _ hu => hu.nvmDo)).spoilPage.raise
      · exact hplan.foldl (fun _ _ hu => hu.nvmDo))

theorem State.BoxOnly.writeHealth {b s : State} {i restMv : Nat} {bad : Option Nat} (h : b.BoxOnly s) : b.BoxOnly (s.writeHealth i restMv
    bad) :=
  h.writeRecord.setPack

theorem State.BoxOnly.wrN {b s : State} {off v : Nat} (h : b.BoxOnly s) (hoff : BoxReg off) : b.BoxOnly (s.wrN off v) :=
  h.wr hoff

theorem State.BoxOnly.bbNewest {b s : State} {bytes : List Byte} (h : b.BoxOnly s) : b.BoxOnly (s.bbNewest bytes) :=
  h.update.wrN .bbNextSeq

theorem State.BoxOnly.bbClear {b s : State} {page : Nat} {op : State → State} (h : b.BoxOnly s) (hg0 : ∀ x0, b.BoxOnly x0 → b.BoxOnly (op
    x0)) : b.BoxOnly (s.bbClear page op) :=
  hg0 _ h.update

theorem State.BoxOnly.showOldest {b s : State} (h : b.BoxOnly s) : b.BoxOnly s.showOldest := by
  simp only [State.showOldest]
  split
  · exact h.wrN .bbOldestSeq
  · exact h

theorem State.BoxOnly.bbTaken {b s : State} {slot : Nat} {op : State → State} (h : b.BoxOnly s) (hg0 : ∀ x0, b.BoxOnly x0 → b.BoxOnly (op
    x0)) : b.BoxOnly (s.bbTaken slot op) :=
  (State.BoxOnly.ite (h.update.bbClear (fun _ h1 => hg0 _ h1)) h.update).showOldest

theorem State.BoxOnly.bbAppendRec {b s : State} {r : BbRec} (h : b.BoxOnly s) : b.BoxOnly (s.bbAppendRec r) :=
  ((h.foldl (fun _ _ h0 => h0.nvmDo)).bbNewest).bbTaken (fun _ h1 => h1.erasePage)

theorem State.BoxOnly.bbWaiting {b s : State} (h : b.BoxOnly s) : ∀ t ∈ s.bbWaiting, b.BoxOnly t.2 := by
  simp only [State.bbWaiting]
  split
  · exact inSome h.update
  · split
    · exact inSome h.update
    · split
      · exact inSome h.update
      · exact inNone

theorem State.BoxOnly.bbAppendOne {b s : State} (h : b.BoxOnly s) : b.BoxOnly s.bbAppendOne := by
  simp only [State.bbAppendOne]
  split
  · next heq =>
    exact (h.bbWaiting _ heq).bbAppendRec
  · exact h

theorem State.BoxOnly.bbAppendAll {b s : State} {n : Nat} (h : b.BoxOnly s) : b.BoxOnly (s.bbAppendAll n) := by
  induction n generalizing s with
  | zero => exact h
  | succ n ih => exact State.BoxOnly.ite h (ih h.bbAppendOne)

theorem State.BoxOnly.bbFlush {b s : State} (h : b.BoxOnly s) : b.BoxOnly s.bbFlush := h.bbAppendAll

end Sys2Proof.Machine
end

section
/-! The lower power states and their wakes (R389, R393–R396, R399). -/

namespace Sys2Proof.Machine

/-! What a reset keeps of the registers. -/

theorem tabFind_filter {α : Type} (keep : Nat → Bool) (t : Tab α) (k : Nat) :
    tabFind (t.filter (fun p => keep p.1)) k = if keep k then tabFind t k else none := by
  induction t with
  | nil => cases keep k <;> rfl
  | cons p t ih =>
    obtain ⟨j, v⟩ := p
    by_cases hj : j = k
    · subst hj
      cases hk : keep j with
      | true => simp [hk, tabFind]
      | false => simp [hk, ih]
    · cases hk : keep j with
      | true => simp [hk, tabFind, hj, ih]
      | false => simp [hk, tabFind, hj, ih]

theorem State.resetBase_rd (s : State) (c aon o : Nat) :
    (s.resetBase c aon).rd o = if keptReg c o then s.rd o else resetWord o := by
  have hbase : (s.resetBase c aon).rd o = (tabFind (s.regs.filter (fun p => keptReg c p.1)) o).getD (resetWord o) := rfl
  rw [hbase, tabFind_filter]
  split
  · rfl
  · rfl

/-! What FALLOW keeps of the coordinates (R399). -/

/-- The registers that the end of FALLOW writes. -/
def staleRegs : List Nat := (List.range 5).map R.COORD_STATUS

/-- The coordinates STALE. -/
def State.staled (s : State) : State :=
  s.each (List.range 5) (fun n t => (t.setF (R.COORD_STATUS n) F.COORD_STATUS_STALE 1).restartFar n)

theorem State.restartFar_rd (s : State) (n o : Nat) : (s.restartFar n).rd o = s.rd o := rfl

theorem State.restartFar_sameRegs (s : State) (n : Nat) (l : List Nat) : s.sameRegs (s.restartFar n) l := fun o _ => s.restartFar_rd n o

theorem State.staled_sameRegs (s : State) : s.sameRegs s.staled staleRegs :=
  (s.sameRegs_refl _).each _ fun n hn u =>
    State.sameRegs.trans ((u.sameRegs_refl _).setF (List.mem_map_of_mem hn) _ _) (State.restartFar_sameRegs _ n _)

theorem State.staled_flag (s : State) (n : Fin 5) : s.staled.flag (R.COORD_STATUS n) F.COORD_STATUS_STALE = true := by
  refine State.each_at (P := fun u => u.flag (R.COORD_STATUS n) F.COORD_STATUS_STALE = true) (Q := fun _ => True)
    (g := fun n t => (t.setF (R.COORD_STATUS n) F.COORD_STATUS_STALE 1).restartFar n)
    (List.mem_range.2 n.isLt) List.nodup_range (fun u _ => ?_) (fun k hk u => ⟨id, fun hu => ?_⟩) trivial
  · rw [State.flag, State.f, State.restartFar_rd, ← State.f, ← State.flag, State.flag_setF_one _ _ (by decide) (by decide)]
  · have hne : R.COORD_STATUS n ≠ R.COORD_STATUS k := by simp only [R.COORD_STATUS]; omega
    rw [State.flag, State.f, State.restartFar_rd, ← State.f, ← State.flag, State.flag_setF_reg _ _ _ _ hne, hu]

/-- The charge watchdogs started anew. -/
def State.packsRestarted (s : State) : State := s.each [0, 1, 2, 3] (fun i t => t.setPack i { t.pack i with wdtAt := s.cyc })

theorem State.packsRestarted_rd (s : State) (o : Nat) : s.packsRestarted.rd o = s.rd o :=
  State.each_keeps (f := fun u : State => u.rd o) (g := fun i t => t.setPack i { t.pack i with wdtAt := s.cyc })
    (fun _ u => u.setPack_rd_of _ _ _) [0, 1, 2, 3] s

theorem State.beforeBoot_fallow (s : State) (aon : Nat) : s.beforeBoot rcFallow aon =
    ((s.stopBuild.resetBase rcFallow aon).packsRestarted.staled).setF R.RST_CAUSE F.RST_CAUSE_CAUSE rcFallow := rfl

theorem State.stopBuild_rd (s : State) (o : Nat) : s.stopBuild.rd o = s.rd o := by
  rw [s.stopBuild_frame]
  rfl

/-- A register that the end of FALLOW does not write, after its reset. -/
theorem State.afterFallow_rd (s : State) (aon : Nat) {o : Nat} (hboot : ¬ BootReg o) (hstale : o ∉ staleRegs) (hcause : o ≠ R.RST_CAUSE) :
    (s.afterReset rcFallow aon).rd o = if keptReg rcFallow o then s.rd o else resetWord o := by
  rw [(s.afterReset_bootOnly rcFallow aon).2 _ hboot, s.beforeBoot_fallow, State.rd_setF_other _ _ _ hcause,
    State.staled_sameRegs _ _ hstale, State.packsRestarted_rd, State.resetBase_rd, s.stopBuild_rd]

theorem State.afterFallow_stale (s : State) (aon : Nat) (n : Fin 5) :
    (s.afterReset rcFallow aon).flag (R.COORD_STATUS n) F.COORD_STATUS_STALE = true := by
  have hboot : ¬ BootReg (R.COORD_STATUS n) := by
    intro h
    have h := h.offset
    simp only [R.COORD_STATUS] at h
    omega
  have hne : R.COORD_STATUS n ≠ R.RST_CAUSE := by simp only [R.COORD_STATUS, R.RST_CAUSE]; omega
  rw [State.flag, State.f, (s.afterReset_bootOnly rcFallow aon).2 _ hboot, s.beforeBoot_fallow, ← State.f, ← State.flag,
    State.flag_setF_reg _ _ _ _ hne, State.staled_flag]

/-! The first wake source (R396). -/

theorem State.noteWake_sameRegs (s : State) (v : Nat) : s.sameRegs (s.noteWake v) [R.PWR_STATUS] :=
  ((s.sameRegs_refl _).hwSet List.mem_cons_self _ _).ite (s.sameRegs_refl _)

theorem State.noteWake_frame (s : State) (v : Nat) : s.noteWake v = { s with regs := (s.noteWake v).regs, cycle := (s.noteWake v).cycle } := by
  unfold State.noteWake
  split
  · rfl
  · rfl

theorem State.noteWake_source (s : State) {v : Nat} (hv : v < 8) : (s.noteWake v).f R.PWR_STATUS F.PWR_STATUS_WAKE_SRC =
    if s.f R.PWR_STATUS F.PWR_STATUS_WAKE_SRC = 0 then v else s.f R.PWR_STATUS F.PWR_STATUS_WAKE_SRC := by
  unfold State.noteWake
  split
  · rw [State.hwSet, State.f_setF_same _ _ _ _ (by decide)]
    exact Nat.mod_eq_of_lt hv
  · rfl

/-! FALLOW ends (R52, R399). -/

/-- A press of PB_MAIN, where it is the wake source. -/
def State.wakePressed (s : State) (src : WakeSrc) : State := if src = .pb then s.pbPressed else s

theorem State.wakePressed_frame (s : State) (src : WakeSrc) : (s.wakePressed src).cyc = s.cyc ∧
    (s.wakePressed src).sys.aonFrac = s.sys.aonFrac ∧ ∀ o, (s.wakePressed src).rd o = s.rd o := by
  unfold State.wakePressed
  split
  · exact ⟨rfl, rfl, fun _ => rfl⟩
  · exact ⟨rfl, rfl, fun _ => rfl⟩

/-- The code that WAKE_SRC takes from a wake in FALLOW. -/
def State.wakeShown (s : State) (src : WakeSrc) : Nat :=
  if s.f R.PWR_STATUS F.PWR_STATUS_WAKE_SRC = 0 then wakeCode src else s.f R.PWR_STATUS F.PWR_STATUS_WAKE_SRC

theorem State.wakeShown_lt (s : State) (src : WakeSrc) : s.wakeShown src < 8 := by
  unfold State.wakeShown
  split
  · cases src <;> decide
  · exact s.f_lt R.PWR_STATUS F.PWR_STATUS_WAKE_SRC (by decide)

/-- The block that a wake in FALLOW resets. -/
def State.fallowEnded (s : State) (src : WakeSrc) (aon : Nat) : State :=
  ((s.wakePressed src).afterReset rcFallow aon).noteWake (s.wakeShown src)

theorem exec_fallowWake_of_on {s : State} {src : WakeSrc} {aon : Nat} (hp : s.sys.power = .fallow) (h : s.fallowOn src aon = true) :
    exec (.fallowWake src aon) s = .next (s.fallowEnded src aon).settle := by
  have hexec : exec (.fallowWake src aon) s = execFallowWake src aon s := rfl
  rw [hexec, execFallowWake, hp]
  dsimp only
  rw [if_pos h]
  rfl

theorem exec_fallowWake_of_off {s : State} {src : WakeSrc} {aon : Nat} (hp : s.sys.power = .fallow) (h : s.fallowOn src aon = false) :
    exec (.fallowWake src aon) s = .next s := by
  have hexec : exec (.fallowWake src aon) s = execFallowWake src aon s := rfl
  rw [hexec, execFallowWake, hp]
  dsimp only
  rw [if_neg (by simp [h])]

/-- After the reset no wake source is noted, so that the one that ended FALLOW is. -/
theorem State.fallowEnded_source (s : State) (src : WakeSrc) (aon : Nat) :
    (s.fallowEnded src aon).f R.PWR_STATUS F.PWR_STATUS_WAKE_SRC = s.wakeShown src := by
  have hboot : ¬ BootReg R.PWR_STATUS := fun h => absurd h.offset (by decide)
  have hword := (s.wakePressed src).afterFallow_rd aon hboot (by decide) (by decide)
  rw [if_neg (by decide)] at hword
  have hzero : ((s.wakePressed src).afterReset rcFallow aon).f R.PWR_STATUS F.PWR_STATUS_WAKE_SRC = 0 := by
    rw [State.f, hword]
    decide +kernel
  rw [State.fallowEnded, State.noteWake_source _ (s.wakeShown_lt src), if_pos hzero]

theorem State.fallowEnded_leaves (s : State) (src : WakeSrc) (aon : Nat) : (s.fallowEnded src aon).sys.power = .on ∧
    (s.fallowEnded src aon).f R.RST_CAUSE F.RST_CAUSE_CAUSE = rcFallow ∧
    (s.fallowEnded src aon).cyc = s.cyc + (aon * 15625 + s.sys.aonFrac) / 512 * 200 := by
  obtain ⟨hcause, hsys, hcyc, -⟩ := (s.wakePressed src).afterReset_leaves aon (c := rcFallow) (by decide)
  obtain ⟨htime, hfrac, -⟩ := s.wakePressed_frame src
  have hnote := State.noteWake_frame ((s.wakePressed src).afterReset rcFallow aon) (s.wakeShown src)
  refine ⟨?_, ?_, ?_⟩
  · rw [State.fallowEnded, hnote]
    dsimp only
    rw [hsys]
    rfl
  · rw [State.fallowEnded, (State.noteWake_sameRegs _ _).f _ (by decide), hcause]
  · rw [State.fallowEnded, hnote]
    dsimp only
    rw [hcyc, State.resetCyc, if_neg (by decide), if_pos rfl, htime, hfrac]

/-- The positions are among the registers that FALLOW keeps, and nothing of its end writes them. -/
theorem coordPos_kept : ∀ n : Fin 5, ∀ o ∈ [R.COORD_POS_LO n, R.COORD_POS_HI n], keptReg rcFallow o = true ∧ o ∉ staleRegs ∧
    ¬ (o = 0x802C ∨ o = 0x8000) ∧ o ≠ R.RST_CAUSE ∧ o ≠ R.PWR_STATUS := by decide

/-- The coordinates are kept, and STALE. -/
theorem State.fallowEnded_coords (s : State) (src : WakeSrc) (aon : Nat) (n : Fin 5) :
    (s.fallowEnded src aon).flag (R.COORD_STATUS n) F.COORD_STATUS_STALE = true ∧
    (s.fallowEnded src aon).rd (R.COORD_POS_LO n) = s.rd (R.COORD_POS_LO n) ∧
    (s.fallowEnded src aon).rd (R.COORD_POS_HI n) = s.rd (R.COORD_POS_HI n) := by
  obtain ⟨-, -, hrd⟩ := s.wakePressed_frame src
  have hnoted {o : Nat} (h : o ≠ R.PWR_STATUS) :
      (s.fallowEnded src aon).rd o = ((s.wakePressed src).afterReset rcFallow aon).rd o :=
    State.noteWake_sameRegs _ _ _ (by rwa [List.mem_singleton])
  have hpos {o : Nat} (ho : o ∈ [R.COORD_POS_LO n, R.COORD_POS_HI n]) : (s.fallowEnded src aon).rd o = s.rd o := by
    obtain ⟨hkept, hstale, hboot, hcause, hpwr⟩ := coordPos_kept n o ho
    rw [hnoted hpwr, State.afterFallow_rd _ _ (fun h => hboot h.offset) hstale hcause, if_pos hkept, hrd]
  refine ⟨?_, hpos List.mem_cons_self, hpos (List.mem_cons_of_mem _ List.mem_cons_self)⟩
  have hne : R.COORD_STATUS n ≠ R.PWR_STATUS := by simp only [R.COORD_STATUS, R.PWR_STATUS]; omega
  rw [State.flag, State.f, hnoted hne, ← State.f, ← State.flag, State.afterFallow_stale]

/-! The entry into IDLE, FALLOW and SHIP (R216, R393, R394). -/

/-- A stage that runs is stopped. -/
def State.stopRunning (s : State) (n : Nat) : State := if s.stageRuns n then s.stopStage n stReady else s

theorem State.stopAll_eq (s : State) : s.stopAll = s.each (List.range 8) (fun n s => s.stopRunning n) := rfl

theorem State.stopRunning_sameRegs (s : State) (n : Nat) : s.sameRegs (s.stopRunning n) (stopRegs n) :=
  (s.stopStage_sameRegs n stReady).ite (s.sameRegs_refl _)

theorem State.stopStage_sys (s : State) (n st : Nat) : (s.stopStage n st).sys = s.sys := rfl

theorem State.stopRunning_sys (s : State) (n : Nat) : (s.stopRunning n).sys = s.sys := by
  unfold State.stopRunning
  split
  · exact s.stopStage_sys n stReady
  · rfl

theorem State.stopAll_sys (s : State) : s.stopAll.sys = s.sys :=
  State.each_keeps (f := State.sys) (g := fun n s => s.stopRunning n) (fun n u => u.stopRunning_sys n) (List.range 8) s

theorem State.stopRunning_stageRuns (s : State) (n : Fin 8) : (s.stopRunning n).stageRuns n = false := by
  unfold State.stopRunning
  split
  · rw [State.stageRuns, s.stopStage_stageState n (by decide)]
    rfl
  · next h => simpa using h

theorem State.stopRunning_stageRuns_other (s : State) {n : Fin 8} {k : Nat} (h : k ≠ n.val) :
    (s.stopRunning k).stageRuns n = s.stageRuns n := by
  unfold State.stopRunning
  split
  · rw [State.stageRuns, s.stopStage_stageState_other h, ← State.stageRuns]
  · rfl

theorem State.stopAll_stageRuns (s : State) (n : Fin 8) : s.stopAll.stageRuns n = false :=
  State.each_at (P := fun u => u.stageRuns n = false) (Q := fun _ => True) (g := fun n s => s.stopRunning n)
    (List.mem_range.2 n.isLt) List.nodup_range (fun u _ => u.stopRunning_stageRuns n)
    (fun _ hk u => ⟨id, fun hu => (u.stopRunning_stageRuns_other hk).trans hu⟩) trivial

/-- The registers that the stages show their stops in. -/
def stagesRegs : List Nat := (List.range 8).flatMap stopRegs

theorem State.stopAll_sameRegs (s : State) : s.sameRegs s.stopAll stagesRegs :=
  (s.sameRegs_refl _).each _ fun n hn u => (u.stopRunning_sameRegs n).mono fun _ hx => List.mem_flatMap.2 ⟨n, hn, hx⟩

theorem State.stageRuns_congr {s t : State} {n : Fin 8} (h : t.rd (R.STAGE_STATUS n) = s.rd (R.STAGE_STATUS n)) :
    t.stageRuns n = s.stageRuns n := by
  rw [State.stageRuns, State.stageState, State.f, h, ← State.f, ← State.stageState, ← State.stageRuns]

theorem State.pswClosed_congr {s t : State} {w : Nat} (h : t.rd (R.PSW_STATUS w) = s.rd (R.PSW_STATUS w)) : t.pswClosed w = s.pswClosed w := by
  rw [State.pswClosed, State.flag, State.f, h, ← State.f, ← State.flag, ← State.pswClosed]

theorem State.powerEvent_signalOnly (s : State) (st : Nat) : s.SignalOnly (s.powerEvent st) := (State.SignalOnly.refl s).event

/-- The power state shown, with its event. -/
def State.restShown (s : State) (st : Nat) : State := (s.setF R.GLB_STATUS F.GLB_STATUS_PSTATE st).powerEvent st

theorem State.restShown_leaves (s : State) {st : Nat} (hst : st < 4) : (s.restShown st).f R.GLB_STATUS F.GLB_STATUS_PSTATE = st ∧
    (s.restShown st).sys = s.sys ∧ (s.restShown st).rd R.PWR_STATUS = s.rd R.PWR_STATUS := by
  have hsig := (s.setF R.GLB_STATUS F.GLB_STATUS_PSTATE st).powerEvent_signalOnly st
  have hglb : ¬ SignalReg R.GLB_STATUS := fun h => absurd h.offset (by decide)
  have hpwr : ¬ SignalReg R.PWR_STATUS := fun h => absurd h.offset (by decide)
  refine ⟨?_, ?_, ?_⟩
  · rw [State.restShown, State.f, hsig.2 _ hglb, ← State.f, State.f_setF_same _ _ _ _ (by decide)]
    exact Nat.mod_eq_of_lt hst
  · rw [State.restShown, hsig.1]
    rfl
  · rw [State.restShown, hsig.2 _ hpwr, State.rd_setF_other _ _ _ (by decide)]

/-! IDLE. -/

/-- The TIE switches that a Safe-state left closed are opened at once. -/
def State.tiesOpened (s : State) : State :=
  s.each (List.range 12) (fun w s => if s.pswRole w = 2 ∧ s.releasing then s.openSwitch w else s)

theorem State.tiesOpened_sameRegs (s : State) : s.sameRegs s.tiesOpened pswRegs :=
  (s.sameRegs_refl _).each _ fun w hw u =>
    ((u.openSwitch_sameRegs w).mono (single_subset (List.mem_map_of_mem hw))).ite (u.sameRegs_refl _)

theorem State.tiesOpened_sys (s : State) : s.tiesOpened.sys = s.sys := by
  refine State.each_keeps (f := State.sys) (fun w u => ?_) (List.range 12) s
  split
  · rfl
  · rfl

/-- The block at rest in IDLE. -/
def State.idled (s : State) : State := { s with releasing := false, sys := { s.sys with field := false, wakes := [] } }

theorem State.idled_leaves (s : State) : s.idled.sys.field = false ∧ s.idled.sys.power = s.sys.power ∧ ∀ o, s.idled.rd o = s.rd o :=
  ⟨rfl, rfl, fun _ => rfl⟩

theorem State.enterIdle_eq (s : State) : s.enterIdle = (s.restShown 2).stopAll.tiesOpened.idled := by
  unfold State.enterIdle State.idled State.tiesOpened State.restShown
  rfl

theorem State.enterIdle_leaves (s : State) : s.enterIdle.f R.GLB_STATUS F.GLB_STATUS_PSTATE = 2 ∧ s.enterIdle.sys.field = false ∧
    s.enterIdle.sys.power = s.sys.power ∧ s.enterIdle.rd R.PWR_STATUS = s.rd R.PWR_STATUS ∧ ∀ n : Fin 8, s.enterIdle.stageRuns n = false := by
  obtain ⟨hstate, hsys, hpwr⟩ := s.restShown_leaves (st := 2) (by decide)
  obtain ⟨hfield, hpower, hrd⟩ := (s.restShown 2).stopAll.tiesOpened.idled_leaves
  have hties := (s.restShown 2).stopAll.tiesOpened_sameRegs
  have hstop := (s.restShown 2).stopAll_sameRegs
  rw [s.enterIdle_eq]
  refine ⟨?_, hfield, ?_, ?_, fun n => ?_⟩
  · rw [State.f, hrd, hties _ (by decide +kernel), hstop _ (by decide +kernel), ← State.f, hstate]
  · rw [hpower, State.tiesOpened_sys, State.stopAll_sys, hsys]
  · rw [hrd, hties _ (by decide +kernel), hstop _ (by decide +kernel), hpwr]
  · have hne : R.STAGE_STATUS n ∉ pswRegs := by
      simp only [pswRegs, R.STAGE_STATUS, R.PSW_STATUS, List.mem_map, List.mem_range]
      omega
    rw [State.stageRuns_congr (hrd _), State.stageRuns_congr (hties _ hne), State.stopAll_stageRuns]

/-! The counters of the store, flushed (R359). -/

theorem State.programCounter_boxOnly (s : State) (k : Nat) : s.BoxOnly (s.programCounter k) :=
  (State.BoxOnly.refl s).programGroup.erasePage.ite (State.BoxOnly.refl s).programGroup

theorem State.counter_congr {s t : State} (h : t.nvm.counters = s.nvm.counters) (k : Nat) : t.counter k = s.counter k := by
  rw [State.counter, h, State.counter]

theorem State.wearCounter_counters (s : State) (k : Nat) : (s.wearCounter k).nvm.counters = s.nvm.counters := by
  unfold State.wearCounter
  dsimp only
  split
  · rfl
  · rfl

theorem State.commitCounter_flushed (s : State) (k : Nat) (flush : Bool) : ((s.commitCounter k flush).counter k).flushed = flush := by
  have hform : s.commitCounter k flush = ((s.programCounter k).setCounter k { s.counter k with
    committed := (s.counter k).work, flushed := flush, pos := ((s.counter k).pos + 1) % 128,
    commits := (s.counter k).commits + 1 }).wearCounter k := rfl
  rw [hform, State.counter_congr (State.wearCounter_counters _ k), State.counter_setCounter]

theorem State.commitCounter_other (s : State) {k j : Nat} (flush : Bool) (h : j ≠ k) : (s.commitCounter k flush).counter j = s.counter j := by
  obtain ⟨r, hform⟩ := s.commitCounter_eq k flush
  rw [hform, State.counter_congr (State.wearCounter_counters _ k), State.counter_setCounter_ne _ _ h,
    State.counter_congr (s.programCounter_boxOnly k).counters]

theorem State.flushCounters_flushed (s : State) (k : Fin 32) : (s.flushCounters.counter k).flushed = true :=
  State.each_at (P := fun u => (u.counter k).flushed = true) (Q := fun _ => True) (g := fun k s => s.commitCounter k true)
    (List.mem_range.2 k.isLt) List.nodup_range (fun u _ => u.commitCounter_flushed k true)
    (fun _ hj u => ⟨id, fun hu => by rw [u.commitCounter_other true (Ne.symm hj), hu]⟩) trivial

/-- The registers of the store's counters. -/
def countersRegs : List Nat := (List.range 32).flatMap counterRegs

theorem State.flushCounters_sameRegs (s : State) : s.sameRegs s.flushCounters countersRegs :=
  (s.sameRegs_refl _).each _ fun k hk u => (u.commitCounter_sameRegs k true).mono fun _ hx => List.mem_flatMap.2 ⟨k, hk, hx⟩

theorem State.flushCounters_sys (s : State) : s.flushCounters.sys = s.sys :=
  State.each_keeps (f := State.sys) (fun k u => by rw [u.commitCounter_storeOnly k true]) (List.range 32) s

/-! FALLOW. -/

/-- The block at rest in FALLOW. -/
def State.fallowed (s : State) : State := { s with sys := { s.sys with power := .fallow, field := false } }

theorem State.fallowed_leaves (s : State) : s.fallowed.sys.power = .fallow ∧ (∀ o, s.fallowed.rd o = s.rd o) ∧
    ∀ k, s.fallowed.counter k = s.counter k := ⟨rfl, fun _ => rfl, fun _ => rfl⟩

/-- The switches open and the store written out. -/
def State.openedOut (s : State) : State := s.openAll.flushCounters.bbFlush

theorem State.openAll_sameRegs (s : State) : s.sameRegs s.openAll pswRegs :=
  (s.sameRegs_refl _).each _ fun w hw u => (u.openSwitch_sameRegs w).mono (single_subset (List.mem_map_of_mem hw))

theorem State.bbFlush_boxOnly (s : State) : s.BoxOnly s.bbFlush := (State.BoxOnly.refl s).bbFlush

theorem State.openedOut_leaves (s : State) : (∀ w : Fin 12, s.openedOut.pswClosed w = false) ∧
    (∀ k : Fin 32, (s.openedOut.counter k).flushed = true) ∧ s.openedOut.rd R.GLB_STATUS = s.rd R.GLB_STATUS := by
  have hbox := s.openAll.flushCounters.bbFlush_boxOnly
  have hcount := s.openAll.flushCounters_sameRegs
  refine ⟨fun w => ?_, fun k => ?_, ?_⟩
  · have hreg : ¬ BoxReg (R.PSW_STATUS w) := by
      intro h
      have h := h.offset
      simp only [R.PSW_STATUS] at h
      omega
    have hne : R.PSW_STATUS w ∉ countersRegs := by
      simp only [countersRegs, counterRegs, R.PSW_STATUS, R.NVM_CNT_LO, R.NVM_CNT_HI, R.NVM_STATUS, List.mem_flatMap, List.mem_range,
        List.mem_cons, List.not_mem_nil, or_false]
      omega
    rw [State.openedOut, State.pswClosed_congr (hbox.regs _ hreg), State.pswClosed_congr (hcount _ hne), State.openAll_pswClosed]
  · rw [State.openedOut, State.counter_congr hbox.counters, State.flushCounters_flushed]
  · rw [State.openedOut, hbox.regs _ (fun h => absurd h.offset (by decide)), hcount _ (by decide +kernel),
      s.openAll_sameRegs _ (by decide)]

theorem State.enterFallow_eq (s : State) : s.enterFallow =
    (((s.restShown 1).setPos 4 ((s.restShown 1).coordPos 4)).stopAll).openedOut.fallowed := by
  unfold State.enterFallow State.fallowed State.openedOut State.restShown
  rfl

theorem State.enterFallow_leaves (s : State) : s.enterFallow.sys.power = .fallow ∧ s.enterFallow.f R.GLB_STATUS F.GLB_STATUS_PSTATE = 1 ∧
    (∀ w : Fin 12, s.enterFallow.pswClosed w = false) ∧ ∀ k : Fin 32, (s.enterFallow.counter k).flushed = true := by
  obtain ⟨hstate, -, -⟩ := s.restShown_leaves (st := 1) (by decide)
  rw [s.enterFallow_eq]
  generalize (s.restShown 1).coordPos 4 = pos
  obtain ⟨hpower, hrd, hcounter⟩ := (((s.restShown 1).setPos 4 pos).stopAll).openedOut.fallowed_leaves
  obtain ⟨hclosed, hflushed, hglb⟩ := (((s.restShown 1).setPos 4 pos).stopAll).openedOut_leaves
  refine ⟨hpower, ?_, fun w => ?_, fun k => ?_⟩
  · rw [State.f, hrd, hglb, State.stopAll_sameRegs _ _ (by decide +kernel), State.setPos, State.wr64, State.wrN, State.wrN,
      State.rd_wr_other _ _ (by decide), State.rd_wr_other _ _ (by decide), ← State.f, hstate]
  · rw [State.pswClosed_congr (hrd _), hclosed]
  · rw [hcounter, hflushed]

/-! The requests (R394). -/

section
variable {s : State} (hrun : s.inRun = true)
include hrun

theorem State.requestRest_of_refused {fallow : Bool} (hc : s.restCause fallow ≠ 0) :
    s.requestRest fallow = s.setF R.PWR_STATUS F.PWR_STATUS_REFUSE (s.restCause fallow) := by
  rw [State.requestRest, if_neg (not_not.2 hrun)]
  dsimp only
  rw [if_pos hc]

theorem State.requestRest_of_accepted {fallow : Bool} (hc : s.restCause fallow = 0) : s.requestRest fallow =
    if fallow then (s.setF R.PWR_STATUS F.PWR_STATUS_REFUSE 0).enterFallow else (s.setF R.PWR_STATUS F.PWR_STATUS_REFUSE 0).enterIdle := by
  rw [State.requestRest, if_neg (not_not.2 hrun)]
  dsimp only
  rw [hc, if_neg (by decide)]

end

theorem State.restCause_lt (s : State) (fallow : Bool) : s.restCause fallow < 8 := by
  unfold State.restCause
  repeat' split
  all_goals decide

/-! IDLE ends (R389, R395). -/

/-- A source that PWR_WAKE_EN enables, where it has a bit there. -/
def State.wakeEnabled (s : State) (src : IdleSrc) : Prop := ∀ b, idleBit src = some b → getBits (s.rd R.PWR_WAKE_EN) b 1 = 1

/-- What the command asks of PWR_WAKE_EN. -/
def State.wakeBit (s : State) (src : IdleSrc) : Bool :=
  match idleBit src with
  | some b => getBits (s.rd R.PWR_WAKE_EN) b 1 == 1
  | none => true

theorem State.wakeBit_iff (s : State) (src : IdleSrc) : s.wakeBit src = true ↔ s.wakeEnabled src := by
  unfold State.wakeBit State.wakeEnabled
  cases idleBit src with
  | none => simp
  | some b => simp

/-- The wake noted, the block in RUN. -/
def State.wokenShown (s : State) (src : IdleSrc) : State := (s.noteWake (idleCode src)).setF R.GLB_STATUS F.GLB_STATUS_PSTATE 3

/-- The Field cores run again, with a full watchdog window. -/
def State.wokenRun (s : State) (src : IdleSrc) : State :=
  let s := s.wokenShown src
  { s with sys := { s.sys with field := true, wdtAt := s.cyc, wakes := [] } }

/-- The block that a wake in IDLE takes to RUN. -/
def State.woken (s : State) (src : IdleSrc) : State := ((s.wokenRun src).setF R.WDT_STATUS F.WDT_STATUS_SEEN 0).powerEvent 3

theorem exec_idleWake {s : State} (hl : s.live) (src : IdleSrc) : exec (.idleWake src) s =
    .next (if s.f R.GLB_STATUS F.GLB_STATUS_PSTATE ≠ 2 ∨ s.wakeBit src = false ∨ s.idleActed src = false then s else s.woken src).settle := by
  have hexec : exec (.idleWake src) s = execIdleWake src s := rfl
  rw [hexec, execIdleWake, State.act_on _ hl.1]
  rfl

theorem State.wokenRun_rd (s : State) (src : IdleSrc) (o : Nat) : (s.wokenRun src).rd o = (s.wokenShown src).rd o := rfl

/-- What a wake changes of the registers. -/
theorem State.woken_sameRegs (s : State) (src : IdleSrc) :
    s.sameRegs (s.woken src) ([R.PWR_STATUS, R.GLB_STATUS, R.WDT_STATUS] ++ [R.EVENT_STATUS, R.CPLQ_STATUS, R.HOST_GLB_STATUS]) := by
  have hnote := (s.noteWake_sameRegs (idleCode src)).mono
    (List.subset_append_of_subset_left [R.EVENT_STATUS, R.CPLQ_STATUS, R.HOST_GLB_STATUS]
      (single_subset (l := [R.PWR_STATUS, R.GLB_STATUS, R.WDT_STATUS]) List.mem_cons_self))
  have hshown := hnote.setF (o := R.GLB_STATUS) (by decide) F.GLB_STATUS_PSTATE 3
  have hrun : s.sameRegs (s.wokenRun src) _ := fun o ho => (s.wokenRun_rd src o).trans (hshown o ho)
  have hset := hrun.setF (o := R.WDT_STATUS) (by decide) F.WDT_STATUS_SEEN 0
  exact hset.trans ((State.event_sameRegs _ 5 0 3 []).mono (List.subset_append_right _ _))

theorem State.wokenRun_sys (s : State) (src : IdleSrc) : (s.wokenRun src).sys.field = true ∧ (s.wokenRun src).sys.wdtAt = s.cyc := by
  have hcyc : (s.wokenShown src).cyc = s.cyc := by
    rw [State.wokenShown, s.noteWake_frame]
    rfl
  exact ⟨rfl, hcyc⟩

theorem State.woken_leaves (s : State) (src : IdleSrc) : (s.woken src).inRun = true ∧ (s.woken src).sys.field = true ∧
    (s.woken src).sys.wdtAt = s.cyc ∧ (s.woken src).f R.WDT_STATUS F.WDT_STATUS_SEEN = 0 ∧
    (s.woken src).f R.PWR_STATUS F.PWR_STATUS_WAKE_SRC =
      (if s.f R.PWR_STATUS F.PWR_STATUS_WAKE_SRC = 0 then idleCode src else s.f R.PWR_STATUS F.PWR_STATUS_WAKE_SRC) := by
  obtain ⟨hfield, hat⟩ := s.wokenRun_sys src
  have hsig := ((s.wokenRun src).setF R.WDT_STATUS F.WDT_STATUS_SEEN 0).powerEvent_signalOnly 3
  have hcode : idleCode src < 8 := by cases src <;> decide
  have hkeep {o : Nat} (hs : ¬ SignalReg o) (g : Fld) :
      (s.woken src).f o g = ((s.wokenRun src).setF R.WDT_STATUS F.WDT_STATUS_SEEN 0).f o g := by
    rw [State.woken, State.f, hsig.2 _ hs, ← State.f]
  have hrun (o : Nat) (g : Fld) : (s.wokenRun src).f o g = (s.wokenShown src).f o g := rfl
  refine ⟨?_, ?_, ?_, ?_, ?_⟩
  · rw [State.inRun, hkeep (fun h => absurd h.offset (by decide)), State.f_setF_reg _ _ _ _ (by decide), hrun, State.wokenShown,
      State.f_setF_same _ _ _ _ (by decide)]
    rfl
  · rw [State.woken, hsig.1]
    exact hfield
  · rw [State.woken, hsig.1]
    exact hat
  · rw [hkeep (fun h => absurd h.offset (by decide)), State.f_setF_same _ _ _ _ (by decide)]
    rfl
  · rw [hkeep (fun h => absurd h.offset (by decide)), State.f_setF_reg _ _ _ _ (by decide), hrun, State.wokenShown,
      State.f_setF_reg _ _ _ _ (by decide), State.noteWake_source _ hcode]

/-- Settles O59: a request that no cause refuses stops the stages and rests the block; an enabled source that has acted ends the rest. -/
theorem restIsRefusedOrEndsWithAWake : Obligations.RestIsRefusedOrEndsWithAWake := by
  unfold Obligations.RestIsRefusedOrEndsWithAWake
  intro s p
  have hidle (hl : s.live) : exec (.pwrReqIdle p) s = .next (s.requestRest false).settle := exec_powered (g := fun s => s.requestRest false) hl rfl
  have hfallow (hl : s.live) : exec (.pwrReqFallow p) s = .next (s.requestRest true).settle :=
    exec_powered (g := fun s => s.requestRest true) hl rfl
  have hrefuse (fallow : Bool) : (s.setF R.PWR_STATUS F.PWR_STATUS_REFUSE (s.restCause fallow)).f R.PWR_STATUS F.PWR_STATUS_REFUSE =
      s.restCause fallow := by
    rw [State.f_setF_same _ _ _ _ (by decide)]
    exact Nat.mod_eq_of_lt (s.restCause_lt fallow)
  refine ⟨fun hl hrun => ⟨fun hc => ?_, fun hc => ?_, fun hc => ?_, fun hc => ?_⟩, fun hl hrun => ?_, fun src hl => ⟨fun hst hon hact => ?_, fun h => ?_⟩,
    fun src aon hp => ⟨fun hon => ?_, fun hoff => exec_fallowWake_of_off hp hoff⟩⟩
  · have honly := (State.onlyRegs_refl hl.2 [R.PWR_STATUS]).setF List.mem_cons_self F.PWR_STATUS_REFUSE (s.restCause false)
    exact ⟨_, by rw [hidle hl, State.requestRest_of_refused hrun hc, State.settle_quiet honly.raised], honly, hrefuse false⟩
  · have honly := (State.onlyRegs_refl hl.2 [R.PWR_STATUS]).setF List.mem_cons_self F.PWR_STATUS_REFUSE (s.restCause true)
    exact ⟨_, by rw [hfallow hl, State.requestRest_of_refused hrun hc, State.settle_quiet honly.raised], honly, hrefuse true⟩
  · obtain ⟨hstate, hfield, hpower, hpwr, hstages⟩ := (s.setF R.PWR_STATUS F.PWR_STATUS_REFUSE 0).enterIdle_leaves
    refine ⟨_, by rw [hidle hl, State.requestRest_of_accepted hrun hc, if_neg Bool.false_ne_true], hstate, hfield, hpower.trans hl.1, ?_, hstages⟩
    rw [State.f, hpwr, ← State.f, State.f_setF_same _ _ _ _ (by decide)]
    rfl
  · exact ⟨_, by rw [hfallow hl, State.requestRest_of_accepted hrun hc, if_pos rfl],
      (s.setF R.PWR_STATUS F.PWR_STATUS_REFUSE 0).enterFallow_leaves⟩
  · have hnone (fallow : Bool) : s.requestRest fallow = s := by rw [State.requestRest, if_pos (by simp [hrun])]
    exact ⟨by rw [hidle hl, hnone, State.settle_quiet hl.2], by rw [hfallow hl, hnone, State.settle_quiet hl.2]⟩
  · have hbit := (s.wakeBit_iff src).2 hon
    obtain ⟨hrun, hfield, hat, hseen, hsrc⟩ := s.woken_leaves src
    exact ⟨_, by rw [exec_idleWake hl, if_neg (by simp [hst, hbit, hact])], hrun, hfield, hat, hseen, hsrc, s.woken_sameRegs src⟩
  · have hno : s.f R.GLB_STATUS F.GLB_STATUS_PSTATE ≠ 2 ∨ s.wakeBit src = false ∨ s.idleActed src = false :=
      h.imp_right fun h => h.imp_left fun hon => by rw [Bool.eq_false_iff, ne_eq, s.wakeBit_iff src]; exact hon
    rw [exec_idleWake hl, if_pos hno, State.settle_quiet hl.2]
  · obtain ⟨hpower, hcause, hcyc⟩ := s.fallowEnded_leaves src aon
    exact ⟨_, exec_fallowWake_of_on hp hon, hpower, hcause, hcyc, s.fallowEnded_source src aon, s.fallowEnded_coords src aon⟩

end Sys2Proof.Machine
end

section
/-! SHIP and the long press (R216–R219). -/

namespace Sys2Proof.Machine

/-! SHIP is entered. -/

/-- The record of SHIP and the health records of the declared packs, written. -/
def State.shipRecorded (s : State) : State :=
  State.each (s.bbAppendRec ⟨7, 0, s.now48, [BitVec.ofNat 8 s.shipPacks]⟩)
    ([0, 1, 2, 3].filter (fun i => (s.bbAppendRec ⟨7, 0, s.now48, [BitVec.ofNat 8 s.shipPacks]⟩).declared (8 + i)))
    (fun i s => s.writeHealth i (s.pack i).vPack none)

theorem State.BoxOnly.each {b s : State} {ks : List Nat} {g : Nat → State → State} (h : b.BoxOnly s)
    (hg : ∀ k u, b.BoxOnly u → b.BoxOnly (g k u)) : b.BoxOnly (s.each ks g) :=
  h.foldl fun _ _ hu => hg _ _ hu

theorem State.shipRecorded_boxOnly (s : State) : s.BoxOnly s.shipRecorded :=
  (State.BoxOnly.refl s).bbAppendRec.each fun _ _ hu => hu.writeHealth

/-- The block at rest in SHIP. -/
def State.shipped (s : State) : State := { s with sys := { s.sys with power := .ship } }

theorem State.shipped_leaves (s : State) : s.shipped.sys.power = .ship ∧ (∀ o, s.shipped.rd o = s.rd o) ∧
    ∀ k, s.shipped.counter k = s.counter k := ⟨rfl, fun _ => rfl, fun _ => rfl⟩

theorem State.enterShip_eq (s : State) : s.enterShip = (s.powerEvent 0).stopAll.openedOut.shipRecorded.shipped := by
  unfold State.enterShip State.shipped State.shipRecorded State.openedOut
  rfl

/-- A register of no stage, switch or store outlives the entry. -/
theorem State.openedOut_rd (s : State) {o : Nat} (hbox : ¬ BoxReg o) (hcount : o ∉ countersRegs) (hpsw : o ∉ pswRegs) :
    s.openedOut.rd o = s.rd o := by
  rw [State.openedOut, (State.bbFlush_boxOnly _).regs _ hbox, State.flushCounters_sameRegs _ _ hcount, s.openAll_sameRegs _ hpsw]

theorem stageStatus_rests (n : Fin 8) : ¬ BoxReg (R.STAGE_STATUS n) ∧ R.STAGE_STATUS n ∉ countersRegs ∧ R.STAGE_STATUS n ∉ pswRegs := by
  refine ⟨fun h => ?_, ?_, ?_⟩
  · have h := h.offset
    simp only [R.STAGE_STATUS] at h
    omega
  · simp only [countersRegs, counterRegs, R.STAGE_STATUS, R.NVM_CNT_LO, R.NVM_CNT_HI, R.NVM_STATUS, List.mem_flatMap, List.mem_range,
      List.mem_cons, List.not_mem_nil, or_false]
    omega
  · simp only [pswRegs, R.STAGE_STATUS, R.PSW_STATUS, List.mem_map, List.mem_range]
    omega

theorem pswStatus_not_boxReg (w : Fin 12) : ¬ BoxReg (R.PSW_STATUS w) := by
  intro h
  have h := h.offset
  simp only [R.PSW_STATUS] at h
  omega

theorem State.enterShip_leaves (s : State) : s.enterShip.sys.power = .ship ∧ s.enterShip.rd R.SHIP_STATUS = s.rd R.SHIP_STATUS ∧
    (∀ w : Fin 12, s.enterShip.pswClosed w = false) ∧ (∀ n : Fin 8, s.enterShip.stageRuns n = false) ∧
    ∀ k : Fin 32, (s.enterShip.counter k).flushed = true := by
  obtain ⟨hpower, hrd, hcounter⟩ := (s.powerEvent 0).stopAll.openedOut.shipRecorded.shipped_leaves
  obtain ⟨hclosed, hflushed, -⟩ := (s.powerEvent 0).stopAll.openedOut_leaves
  have hbox := (s.powerEvent 0).stopAll.openedOut.shipRecorded_boxOnly
  rw [s.enterShip_eq]
  refine ⟨hpower, ?_, fun w => ?_, fun n => ?_, fun k => ?_⟩
  · have hship : ¬ BoxReg R.SHIP_STATUS := fun h => absurd h.offset (by decide)
    rw [hrd, hbox.regs _ hship, State.openedOut_rd _ hship (by decide +kernel) (by decide), State.stopAll_sameRegs _ _ (by decide +kernel),
      (s.powerEvent_signalOnly 0).2 _ (fun h => absurd h.offset (by decide))]
  · rw [State.pswClosed_congr (hrd _), State.pswClosed_congr (hbox.regs _ (pswStatus_not_boxReg w)), hclosed]
  · obtain ⟨hreg, hcount, hpsw⟩ := stageStatus_rests n
    rw [State.stageRuns_congr (hrd _), State.stageRuns_congr (hbox.regs _ hreg), State.stageRuns_congr (State.openedOut_rd _ hreg hcount hpsw),
      State.stopAll_stageRuns]
  · rw [hcounter, State.counter_congr hbox.counters, hflushed]

theorem State.shipCause_lt (s : State) : s.shipCause < 8 := by
  unfold State.shipCause
  repeat' split
  all_goals decide

theorem State.requestShip_of_zero {s : State} (h : s.shipCause = 0) :
    s.requestShip.1 = (s.setF R.SHIP_STATUS F.SHIP_STATUS_REFUSE 0).enterShip := by
  rw [State.requestShip, h, if_pos rfl]

theorem State.requestShip_of_ne {s : State} (h : s.shipCause ≠ 0) :
    s.requestShip.1 = (s.setF R.SHIP_STATUS F.SHIP_STATUS_REFUSE s.shipCause).raise 0x47 0 [] := by
  rw [State.requestShip, if_neg h]

theorem exec_shipEnter {s : State} (hl : s.live) (p : Path) : exec (.shipEnter p) s =
    .next (if p = .headland then s.requestShip.1 else s.hwDenied p R.SHIP_CTRL 1#32).settle :=
  exec_powered (g := fun s => if p = .headland then s.requestShip.1 else s.hwDenied p R.SHIP_CTRL 1#32) hl rfl

theorem State.ship_denied {s : State} {p : Path} (hp : p ≠ .headland) (hz : s.rd R.SHIP_CTRL = 0#32) :
    s.hwDenied p R.SHIP_CTRL 1#32 = s.raise 0xB0 (pathNo p) (leBytes 4 R.SHIP_CTRL) := by
  have hmask : (0#32 ^^^ 1#32) &&& accMask R.SHIP_CTRL [.hw] ≠ 0#32 := by decide +kernel
  rw [State.hwDenied, hz, if_neg fun h => h.elim hp hmask]

/-! SHIP ends (R218). -/

/-- The code that WAKE_SRC takes from a wake in SHIP. -/
def State.shipWakeShown (s : State) (src : WakeSrc) : Nat :=
  if s.f R.SHIP_STATUS F.SHIP_STATUS_WAKE_SRC = 0 then wakeCode src else s.f R.SHIP_STATUS F.SHIP_STATUS_WAKE_SRC

theorem State.shipWakeShown_lt (s : State) (src : WakeSrc) (h : src ≠ .timer) (h' : src ≠ .nrst) :
    s.shipWakeShown src < 2 ^ F.SHIP_STATUS_WAKE_SRC.w := by
  unfold State.shipWakeShown
  split
  · cases src with
    | pb => decide
    | input => decide
    | port => decide
    | timer => exact absurd rfl h
    | nrst => exact absurd rfl h'
  · exact s.f_lt R.SHIP_STATUS F.SHIP_STATUS_WAKE_SRC (by decide)

/-- The block that a wake in SHIP starts. -/
def State.shipEnded (s : State) (src : WakeSrc) : State :=
  ((s.wakePressed src).afterReset rcShip 0).hwSet R.SHIP_STATUS F.SHIP_STATUS_WAKE_SRC (s.shipWakeShown src)

theorem exec_shipWake_of_source {s : State} {src : WakeSrc} (hp : s.sys.power = .ship) (h : src ≠ .timer) (h' : src ≠ .nrst) :
    exec (.shipWake src) s = .next (s.shipEnded src).settle := by
  have hexec : exec (.shipWake src) s = execShipWake src s := rfl
  rw [hexec, execShipWake, hp]
  dsimp only
  rw [if_neg (by simp [h, h'])]
  rfl

theorem exec_shipWake_of_other {s : State} {src : WakeSrc} (hp : s.sys.power = .ship) (h : src = .timer ∨ src = .nrst) :
    exec (.shipWake src) s = .next s := by
  have hexec : exec (.shipWake src) s = execShipWake src s := rfl
  rw [hexec, execShipWake, hp]
  dsimp only
  rw [if_pos h]

theorem State.shipEnded_leaves (s : State) (src : WakeSrc) (h : src ≠ .timer) (h' : src ≠ .nrst) :
    (s.shipEnded src).sys.power = .on ∧ (s.shipEnded src).f R.RST_CAUSE F.RST_CAUSE_CAUSE = rcShip ∧ (s.shipEnded src).cyc = 0 ∧
    (s.shipEnded src).localWin = [] ∧ (s.shipEnded src).f R.SHIP_STATUS F.SHIP_STATUS_WAKE_SRC = s.shipWakeShown src := by
  obtain ⟨hcause, hsys, hcyc, -, hlocal⟩ := (s.wakePressed src).afterReset_leaves 0 (c := rcShip) (by decide)
  refine ⟨?_, ?_, ?_, ?_, ?_⟩
  · rw [State.shipEnded, State.hwSet_sys, hsys]
    rfl
  · rw [State.shipEnded, State.f_hwSet_reg _ _ _ _ (by decide), hcause]
  · rw [State.shipEnded, State.hwSet_cyc, hcyc]
    rfl
  · rw [State.shipEnded, State.hwSet_localWin, hlocal]
    rfl
  · rw [State.shipEnded, State.hwSet, State.f_setF_same _ _ _ _ (by decide), Nat.mod_eq_of_lt (s.shipWakeShown_lt src h h')]

/-! The long press (R219). -/

theorem State.seriesOf_some {s : State} {node w : Nat} (h : s.seriesOf node = some w) : s.pswA w = node := by
  have hw := List.find?_some h
  simp only [Bool.and_eq_true, beq_iff_eq] at hw
  exact hw.2

theorem State.seriesOf_congr {s t : State} (h : t.fab = s.fab) (node : Nat) : t.seriesOf node = s.seriesOf node := by
  unfold State.seriesOf State.pswRole State.pswA State.fabF
  rw [h]

theorem State.forceOpen_frame (s : State) (w : Nat) : s.forceOpen w = { s with
    regs := (s.forceOpen w).regs, stages := (s.forceOpen w).stages, psws := (s.forceOpen w).psws, revalCause := (s.forceOpen w).revalCause } := by
  obtain ⟨r, code, h⟩ := s.forceOpen_eq w
  rw [h, State.trigReval, (State.refillHands_ceilOnly _).1]
  rfl

theorem State.forceOpen_sys (s : State) (w : Nat) : (s.forceOpen w).sys = s.sys := by rw [s.forceOpen_frame]

theorem State.forceOpen_fab (s : State) (w : Nat) : (s.forceOpen w).fab = s.fab := by rw [s.forceOpen_frame]

/-- Forcing another switch open leaves a switch that is open as it is. -/
theorem State.forceOpen_pswClosed_other (s : State) {k : Nat} {w : Fin 12} (h : k ≠ w.val) : (s.forceOpen k).pswClosed w = s.pswClosed w := by
  obtain ⟨r, code, hk⟩ := s.forceOpen_eq k
  have hdrill : R.PSW_STATUS w ∉ [R.DRILL_STATUS] := by simp only [R.PSW_STATUS, R.DRILL_STATUS, List.mem_singleton]; omega
  have hceil (m : Nat) : R.PSW_STATUS w ≠ R.STAGE_CEIL m := by simp only [R.PSW_STATUS, R.STAGE_CEIL]; omega
  have hne : R.PSW_STATUS w ∉ [R.PSW_STATUS k] := by simp only [R.PSW_STATUS, List.mem_singleton]; omega
  rw [hk, State.pswClosed_congr (State.trigReval_sameRegs _ code _ hdrill), State.pswClosed_congr ((State.refillHands_ceilOnly _).2 _ hceil),
    State.pswClosed_congr (State.setPsw_rd_of _ _ _ _), State.pswClosed_congr (s.openSwitch_sameRegs k _ hne)]

/-- The SERIES switch of a pack forced open, where the pack has one. -/
def State.packForced (s : State) (i : Nat) : State := match s.seriesOf (8 + i) with | some w => s.forceOpen w | none => s

theorem State.packForced_keeps (s : State) (i : Nat) :
    (s.packForced i).sys = s.sys ∧ (s.packForced i).fab = s.fab ∧ (s.packForced i).raised = s.raised := by
  unfold State.packForced
  split
  · exact ⟨s.forceOpen_sys _, s.forceOpen_fab _, s.forceOpen_raised _⟩
  · exact ⟨rfl, rfl, rfl⟩

/-- The SERIES switches of the packs forced open. -/
def State.packsForced (s : State) : State := s.each [0, 1, 2, 3] (fun i t => t.packForced i)

theorem State.packsForced_keeps (s : State) :
    s.packsForced.sys = s.sys ∧ s.packsForced.fab = s.fab ∧ s.packsForced.raised = s.raised :=
  ⟨State.each_keeps (f := State.sys) (fun i u => (u.packForced_keeps i).1) _ s,
    State.each_keeps (f := State.fab) (fun i u => (u.packForced_keeps i).2.1) _ s,
    State.each_keeps (f := State.raised) (fun i u => (u.packForced_keeps i).2.2) _ s⟩

theorem State.packsForced_pswClosed {s : State} {i : Fin 4} {w : Fin 12} (h : s.seriesOf (8 + i.val) = some w.val) :
    s.packsForced.pswClosed w = false := by
  have hpack : ∀ i : Fin 4, i.val ∈ [0, 1, 2, 3] := by decide
  refine State.each_at (P := fun u => u.pswClosed w = false) (Q := fun u => u.fab = s.fab) (g := fun i t => t.packForced i) (hpack i)
    (by decide) (fun u hu => ?_) (fun k _ u => ⟨fun hu => ((u.packForced_keeps k).2.1).trans hu, fun hu => ?_⟩) rfl
  · rw [State.packForced, State.seriesOf_congr hu, h]
    exact u.forceOpen_pswClosed w w.isLt
  · unfold State.packForced
    split
    next v _ =>
      by_cases hv : v = w.val
      · rw [hv]
        exact u.forceOpen_pswClosed w w.isLt
      · exact (u.forceOpen_pswClosed_other hv).trans hu
    · exact hu

/-- The block as a long press begins. -/
def State.pressed (s : State) : State := { s with sys := { s.sys with longPress := true, longAt := s.cyc, pbHeld := true } }

theorem exec_longPress_of_powered {s : State} (hl : s.live) (hb : s.sys.pbHeld = false) (source : Bool) (c : NvmCut) :
    exec (.longPress source c) s = if source then .next (s.pressed.packsForced.raise 0x48 0 []).settle
      else .next ((s.pressed.packsForced.cutPower c).2.powerFail (s.pressed.packsForced.cutPower c).1) := by
  have hexec : exec (.longPress source c) s = execLongPress source c s := rfl
  rw [hexec, execLongPress, hb, hl.1]
  rfl

theorem exec_longPress_of_fallow {s : State} (hp : s.sys.power = .fallow) (hb : s.sys.pbHeld = false) (source : Bool) (c : NvmCut) :
    exec (.longPress source c) s = if source then .next s.pressed else .next { s.pressed with sys := { s.pressed.sys with power := .hold } } := by
  have hexec : exec (.longPress source c) s = execLongPress source c s := rfl
  rw [hexec, execLongPress, hb, hp]
  rfl

theorem exec_longPress_of_held {s : State} (hb : s.sys.pbHeld = true) (source : Bool) (c : NvmCut) : exec (.longPress source c) s = .next s := by
  have hexec : exec (.longPress source c) s = execLongPress source c s := rfl
  rw [hexec, execLongPress, hb]
  rfl

/-- The SERIES switch of a pack given back to what held it before the press. -/
def State.packGiven (s : State) (i : Nat) : State :=
  match s.seriesOf (8 + i) with
  | some w => if s.heldPack i then s else s.setPsw w { s.psw w with forced := (s.psw w).hold }
  | none => s

theorem State.packGiven_frame (s : State) (i : Nat) : s.packGiven i = { s with psws := (s.packGiven i).psws } := by
  unfold State.packGiven
  repeat' split
  all_goals rfl

/-- The switches of the other packs are left. -/
theorem State.packGiven_psw_other {s : State} {k : Nat} {w : Nat} (h : s.pswA w ≠ 8 + k) : (s.packGiven k).psw w = s.psw w := by
  unfold State.packGiven
  split
  next v hv =>
    have hne : w ≠ v := by
      rintro rfl
      exact h (State.seriesOf_some hv)
    split
    · rfl
    · exact State.psw_setPsw_ne _ _ hne
  · rfl

/-- The SERIES switches of the packs given back as the press ends. -/
def State.packsGiven (s : State) : State :=
  State.each { s with sys := { s.sys with longPress := false } } [0, 1, 2, 3] (fun i s => s.packGiven i)

theorem State.packsGiven_frame (s : State) :
    s.packsGiven = { s with sys := { s.sys with longPress := false }, psws := s.packsGiven.psws } :=
  State.each_invariant (P := fun u => u = { s with sys := { s.sys with longPress := false }, psws := u.psws })
    (g := fun i s => s.packGiven i) (fun k u hu => by rw [u.packGiven_frame, hu]) _ rfl

theorem State.packsGiven_psw {s : State} {i : Fin 4} {w : Fin 12} (h : s.seriesOf (8 + i.val) = some w.val) (hh : s.heldPack i = false) :
    (s.packsGiven.psw w).forced = (s.psw w).hold := by
  have hpack : ∀ i : Fin 4, i.val ∈ [0, 1, 2, 3] := by decide
  rw [State.packsGiven]
  refine State.each_at (P := fun u => u.fab = s.fab ∧ (u.psw w).forced = (s.psw w).hold)
    (Q := fun u => u.fab = s.fab ∧ u.hrw = s.hrw ∧ u.psw w = s.psw w) (g := fun i s => s.packGiven i)
    (s := { s with sys := { s.sys with longPress := false } }) (hpack i) (by decide) (fun u hu => ?_) (fun k hk u => ?_) ⟨rfl, rfl, rfl⟩ |>.2
  · obtain ⟨hfab, hhrw, hpsw⟩ := hu
    have hheld : u.heldPack i = s.heldPack i := by
      rw [State.heldPack, State.heldPack, State.holders, State.holders, hhrw]
    refine ⟨by rw [u.packGiven_frame, hfab], ?_⟩
    rw [State.packGiven, State.seriesOf_congr hfab, h]
    dsimp only
    rw [hheld, hh, if_neg Bool.false_ne_true, State.psw_setPsw, hpsw]
  · have hother (hfab : u.fab = s.fab) : (u.packGiven k).psw w = u.psw w := by
      apply State.packGiven_psw_other
      have hw := State.seriesOf_some ((State.seriesOf_congr hfab _).trans h)
      omega
    refine ⟨fun ⟨hfab, hhrw, hpsw⟩ => ⟨?_, ?_, ?_⟩, fun ⟨hfab, hpsw⟩ => ⟨?_, ?_⟩⟩
    · rw [u.packGiven_frame, hfab]
    · rw [u.packGiven_frame, hhrw]
    · rw [hother hfab, hpsw]
    · rw [u.packGiven_frame, hfab]
    · rw [hother hfab, hpsw]

/-! A lasting cause that has ended (R378). -/

theorem State.lockUnit_frame (s : State) (id inst : Nat) : s.lockUnit id inst = { s with regs := (s.lockUnit id inst).regs } := by
  rw [State.lockUnit]
  generalize s.unitStages id inst = l
  induction l generalizing s with
  | nil => rfl
  | cons n l ih =>
    rw [List.foldl_cons, ih]
    split
    · rfl
    · rfl

theorem State.lockUnit_rd (s : State) (id inst : Nat) {o : Nat} (ho : ∀ n, o ≠ R.STAGE_STATUS n) : (s.lockUnit id inst).rd o = s.rd o := by
  refine foldl_keeps (f := fun t => t.rd o) (fun t n => ?_) _ _
  split
  · exact State.rd_setF_other _ _ _ (ho n)
  · rfl

/-- `t` is what the passing on of one instance of a fault leaves of `s`. -/
structure State.Passes (s t : State) (id inst : Nat) : Prop where
  frame : t = { s with regs := t.regs, hrw := t.hrw }
  regs : ∀ o, (∀ n, o ≠ R.STAGE_STATUS n) → t.rd o = s.rd o
  cause : (t.hrwInst id inst).cause = (s.hrwInst id inst).cause
  other : ∀ id' inst', 16 * id' + inst' ≠ 16 * id + inst → t.hrwInst id' inst' = s.hrwInst id' inst'

theorem State.setHrw_passes (s : State) {id inst : Nat} {h : HrwInst} (hc : h.cause = (s.hrwInst id inst).cause) :
    s.Passes (s.setHrw id inst h) id inst :=
  ⟨rfl, fun _ _ => rfl, by rw [State.hrwInst_setHrw, hc], fun _ _ hne => tabGet_set_other _ _ _ hne⟩

theorem State.Passes.lockUnit {s t : State} {id inst : Nat} (h : s.Passes t id inst) : s.Passes (t.lockUnit id inst) id inst where
  frame := by rw [t.lockUnit_frame, h.frame]
  regs o ho := by rw [t.lockUnit_rd id inst ho, h.regs o ho]
  cause := by
    rw [t.lockUnit_frame]
    exact h.cause
  other id' inst' hne := by
    rw [t.lockUnit_frame]
    exact h.other id' inst' hne

theorem State.passOn_passes (s : State) (id inst : Nat) : s.Passes (s.passOn id inst) id inst := by
  unfold State.passOn
  dsimp only
  split
  · exact ⟨rfl, fun _ _ => rfl, rfl, fun _ _ _ => rfl⟩
  split
  · exact s.setHrw_passes rfl
  split
  · exact s.setHrw_passes rfl
  · refine State.Passes.lockUnit (s.setHrw_passes ?_)
    rfl

/-- What the end of a lasting cause leaves: the cause is gone, and of the registers at most the states of stages change. -/
structure State.Ended (s t : State) (id inst : Nat) : Prop where
  frame : t = { s with regs := t.regs, hrw := t.hrw }
  regs : ∀ o, (∀ n, o ≠ R.STAGE_STATUS n) → t.rd o = s.rd o
  cause : (t.hrwInst id inst).cause = false
  other : ∀ id' inst', 16 * id' + inst' ≠ 16 * id + inst → t.hrwInst id' inst' = s.hrwInst id' inst'

theorem State.causeGone_ended {s : State} {id inst : Nat} (hl : lastingIds.contains id = true)
    (hgone : (s.setHrw id inst { s.hrwInst id inst with cause := false }).causePresent id inst = false) :
    s.Ended (s.causeGone id inst) id inst := by
  have hcause : ((s.hrwInst id inst).cause && !lastingIds.contains id && (s.hrwInst id inst).tick == s.tick) = false := by
    rw [hl]
    simp
  have hpass : s.causeGone id inst = (s.setHrw id inst { s.hrwInst id inst with cause := false }).passOn id inst := by
    rw [State.causeGone, hcause, hgone, if_neg Bool.false_ne_true]
  have h := (s.setHrw id inst { s.hrwInst id inst with cause := false }).passOn_passes id inst
  rw [hpass]
  refine ⟨?_, h.regs, ?_, fun id' inst' hne => ?_⟩
  · rw [h.frame]
    rfl
  · rw [h.cause, State.hrwInst_setHrw]
  · rw [h.other id' inst' hne]
    exact tabGet_set_other _ _ _ hne

/-! The clocks and the die (R371, R405–R408). -/

/-- The block on its fall-back clock, with the registers that show it. -/
def State.refFallen (s : State) : State :=
  (({ s with sys := { s.sys with refLost := true, refAt := s.cyc } }.setF R.CLK_STATUS F.CLK_STATUS_REF_OK 0).setF
    R.CLK_STATUS F.CLK_STATUS_REF_FALLBACK 1).setF R.GLB_STATUS F.GLB_STATUS_REF_FALLBACK 1

theorem State.refFallen_shows (s : State) : s.refFallen.flag R.CLK_STATUS F.CLK_STATUS_REF_OK = false ∧
    s.refFallen.flag R.CLK_STATUS F.CLK_STATUS_REF_FALLBACK = true ∧ s.refFallen.flag R.GLB_STATUS F.GLB_STATUS_REF_FALLBACK = true := by
  refine ⟨?_, ?_, ?_⟩
  · rw [State.refFallen, State.flag_setF_reg _ _ _ _ (by decide), State.flag_setF_field _ _ (by decide) (by decide) (.inl (by decide)),
      State.flag_setF_zero _ _ (by decide)]
  · rw [State.refFallen, State.flag_setF_reg _ _ _ _ (by decide), State.flag_setF_one _ _ (by decide) (by decide)]
  · rw [State.refFallen, State.flag_setF_one _ _ (by decide) (by decide)]

theorem State.refFallen_sameRegs (s : State) : s.sameRegs s.refFallen [R.CLK_STATUS, R.GLB_STATUS] := by
  have hs : s.sameRegs { s with sys := { s.sys with refLost := true, refAt := s.cyc } } [R.CLK_STATUS, R.GLB_STATUS] := fun _ _ => rfl
  exact ((hs.setF (by decide) _ _).setF (by decide) _ _).setF (by decide) _ _

theorem exec_clkRefFail {s : State} (hl : s.live) :
    exec .clkRefFail s = .next (if s.sys.refLost then s else s.refFallen.raise 0x02 0 []).settle :=
  exec_powered (g := fun s => if s.sys.refLost then s else s.refFallen.raise 0x02 0 []) hl rfl

/-- The block on its reference clock again, with the registers that show it. -/
def State.refBack (s : State) : State :=
  (({ s with sys := { s.sys with refLost := false } }.setF R.CLK_STATUS F.CLK_STATUS_REF_OK 1).setF
    R.CLK_STATUS F.CLK_STATUS_REF_FALLBACK 0).setF R.GLB_STATUS F.GLB_STATUS_REF_FALLBACK 0

theorem State.refBack_shows (s : State) : s.refBack.flag R.CLK_STATUS F.CLK_STATUS_REF_OK = true ∧
    s.refBack.flag R.CLK_STATUS F.CLK_STATUS_REF_FALLBACK = false ∧ s.refBack.flag R.GLB_STATUS F.GLB_STATUS_REF_FALLBACK = false := by
  refine ⟨?_, ?_, ?_⟩
  · rw [State.refBack, State.flag_setF_reg _ _ _ _ (by decide), State.flag_setF_field _ _ (by decide) (by decide) (.inl (by decide)),
      State.flag_setF_one _ _ (by decide) (by decide)]
  · rw [State.refBack, State.flag_setF_reg _ _ _ _ (by decide), State.flag_setF_zero _ _ (by decide)]
  · rw [State.refBack, State.flag_setF_zero _ _ (by decide)]

theorem exec_clkRefReturn {s : State} (hl : s.live) : exec .clkRefReturn s =
    .next (if !s.sys.refLost ∨ s.cyc < s.sys.refAt + 2000000 then s else s.refBack.causeGone 0x02 0).settle :=
  exec_powered (g := fun s => if !s.sys.refLost ∨ s.cyc < s.sys.refAt + 2000000 then s else s.refBack.causeGone 0x02 0) hl rfl

theorem State.refBack_ended (s : State) : s.refBack.Ended (s.refBack.causeGone 0x02 0) 0x02 0 := by
  refine State.causeGone_ended (by decide) ?_
  rfl

/-- The block on its internal oscillator, with the registers that show it. -/
def State.aonFallen (s : State) : State :=
  ((s.setF R.CLK_STATUS F.CLK_STATUS_AON_OK 0).setF R.CLK_STATUS F.CLK_STATUS_AON_INTERNAL 1).setF R.GLB_STATUS F.GLB_STATUS_AON_INTERNAL 1

theorem State.aonFallen_shows (s : State) : s.aonFallen.flag R.CLK_STATUS F.CLK_STATUS_AON_OK = false ∧
    s.aonFallen.flag R.CLK_STATUS F.CLK_STATUS_AON_INTERNAL = true ∧ s.aonFallen.flag R.GLB_STATUS F.GLB_STATUS_AON_INTERNAL = true := by
  refine ⟨?_, ?_, ?_⟩
  · rw [State.aonFallen, State.flag_setF_reg _ _ _ _ (by decide), State.flag_setF_field _ _ (by decide) (by decide) (.inl (by decide)),
      State.flag_setF_zero _ _ (by decide)]
  · rw [State.aonFallen, State.flag_setF_reg _ _ _ _ (by decide), State.flag_setF_one _ _ (by decide) (by decide)]
  · rw [State.aonFallen, State.flag_setF_one _ _ (by decide) (by decide)]

theorem exec_clkAonFail {s : State} (hl : s.live) : exec .clkAonFail s =
    .next (if s.flag R.CLK_STATUS F.CLK_STATUS_AON_INTERNAL then s else s.aonFallen.raise 0x03 0 []).settle :=
  exec_powered (g := fun s => if s.flag R.CLK_STATUS F.CLK_STATUS_AON_INTERNAL then s else s.aonFallen.raise 0x03 0 []) hl rfl

/-- The level of the die's temperature: above neither threshold, above the first, or above both. -/
def dieLevel (t : Int) : Nat := if 1350 ≤ t then 2 else if 1150 ≤ t then 1 else 0

/-- The die at a level. -/
def State.dieAt (s : State) (level : Nat) : State := { s with sys := { s.sys with dieHot := level } }

/-- What a temperature of the die does, by the level before it and its own. -/
def State.dieMoved (s : State) (w old new : Nat) : State :=
  let s := s.dieAt new
  let s := if old < 1 ∧ 1 ≤ new then s.raise 0x0A 0 (faultRec w 1150) else s
  let s := if old < 2 ∧ 2 ≤ new then s.raise 0x0B 0 (faultRec w 1350) else s
  let s := if 2 ≤ old ∧ new < 2 then s.causeGone 0x0B 0 else s
  if 1 ≤ old ∧ new < 1 then s.causeGone 0x0A 0 else s

theorem exec_dieTemp {s : State} (hl : s.live) (t : Int) :
    exec (.dieTemp t) s = .next (s.dieMoved (ofSigned 32 t) s.sys.dieHot (dieLevel t)).settle :=
  exec_powered (g := fun s => s.dieMoved (ofSigned 32 t) s.sys.dieHot (dieLevel t)) hl rfl

/-- The die below both thresholds again: neither fault's cause is left. -/
theorem State.dieAt_cooled (s : State) :
    (((s.dieAt 0).causeGone 0x0B 0).causeGone 0x0A 0).raised = s.raised ∧
    (((s.dieAt 0).causeGone 0x0B 0).causeGone 0x0A 0).sys.dieHot = 0 ∧
    ((((s.dieAt 0).causeGone 0x0B 0).causeGone 0x0A 0).hrwInst 0x0A 0).cause = false ∧
    ((((s.dieAt 0).causeGone 0x0B 0).causeGone 0x0A 0).hrwInst 0x0B 0).cause = false := by
  have hlast (u : State) (id : Nat) (hid : id = 0x0A ∨ id = 0x0B) : u.Ended (u.causeGone id 0) id 0 := by
    refine State.causeGone_ended (by rcases hid with rfl | rfl <;> decide) ?_
    rcases hid with rfl | rfl <;> simp [State.causePresent, lastingIds]
  have hb := hlast (s.dieAt 0) 0x0B (.inr rfl)
  have ha := hlast ((s.dieAt 0).causeGone 0x0B 0) 0x0A (.inl rfl)
  refine ⟨?_, ?_, ha.cause, ?_⟩
  · rw [ha.frame, hb.frame]
    rfl
  · rw [ha.frame, hb.frame]
    rfl
  · rw [ha.other _ _ (by decide), hb.cause]

/-- The reports and the ends of the die's temperature. -/
theorem exec_dieTemp_cases {s : State} (hl : s.live) (t : Int) :
    (1350 ≤ t → s.sys.dieHot = 0 → ∃ u : State, exec (.dieTemp t) s = .next u.settle ∧ s.sameRegs u [] ∧ u.sys.dieHot = 2 ∧
      u.raised = [faultOf 0x0A 0 (faultRec (ofSigned 32 t) 1150), faultOf 0x0B 0 (faultRec (ofSigned 32 t) 1350)]) ∧
    (1150 ≤ t → t < 1350 → s.sys.dieHot = 0 → ∃ u : State, exec (.dieTemp t) s = .next u.settle ∧ s.sameRegs u [] ∧ u.sys.dieHot = 1 ∧
      u.raised = [faultOf 0x0A 0 (faultRec (ofSigned 32 t) 1150)]) ∧
    (t < 1150 → s.sys.dieHot = 2 → ∃ u, exec (.dieTemp t) s = .next u ∧ u.sys.dieHot = 0 ∧ (u.hrwInst 0x0A 0).cause = false ∧
      (u.hrwInst 0x0B 0).cause = false) ∧
    (t < 1150 → s.sys.dieHot = 0 → exec (.dieTemp t) s = .next s) := by
  have hlow (h : t < 1150) : dieLevel t = 0 := by rw [dieLevel, if_neg (by omega), if_neg (by omega)]
  refine ⟨fun h h0 => ?_, fun h h' h0 => ?_, fun h h2 => ?_, fun h h0 => ?_⟩
  · have hlv : dieLevel t = 2 := if_pos h
    refine ⟨((s.dieAt 2).raise 0x0A 0 (faultRec (ofSigned 32 t) 1150)).raise 0x0B 0 (faultRec (ofSigned 32 t) 1350), ?_, fun _ _ => rfl, rfl, ?_⟩
    · rw [exec_dieTemp hl, h0, hlv]
      rfl
    · have hquiet : (s.dieAt 2).raised = [] := hl.2
      rw [State.raise, State.raise]
      dsimp only
      rw [hquiet]
      rfl
  · have hlv : dieLevel t = 1 := by rw [dieLevel, if_neg (by omega), if_pos h]
    refine ⟨(s.dieAt 1).raise 0x0A 0 (faultRec (ofSigned 32 t) 1150), ?_, fun _ _ => rfl, rfl, ?_⟩
    · rw [exec_dieTemp hl, h0, hlv]
      rfl
    · have hquiet : (s.dieAt 1).raised = [] := hl.2
      rw [State.raise]
      dsimp only
      rw [hquiet]
      rfl
  · obtain ⟨hquiet, hdie, ha, hb⟩ := s.dieAt_cooled
    refine ⟨((s.dieAt 0).causeGone 0x0B 0).causeGone 0x0A 0, ?_, hdie, ha, hb⟩
    rw [← State.settle_quiet (hquiet.trans hl.2), exec_dieTemp hl, h2, hlow h]
    rfl
  · have hsame : s.dieAt 0 = s := by
      rw [State.dieAt, ← h0]
    have hmoved : s.dieMoved (ofSigned 32 t) 0 0 = s.dieAt 0 := rfl
    rw [exec_dieTemp hl, h0, hlow h, hmoved, hsame, State.settle_quiet hl.2]

/-- A clock register or a register of the block's state is none of a stage. -/
theorem clock_ne_stage (n : Nat) : R.CLK_STATUS ≠ R.STAGE_STATUS n ∧ R.GLB_STATUS ≠ R.STAGE_STATUS n := by
  simp only [R.CLK_STATUS, R.GLB_STATUS, R.STAGE_STATUS]
  omega

/-- Settles O60: SHIP, the long press, the clocks and the die each leave the registers, the switches and the reports that their rules name. -/
theorem shipClocksAndDie : Obligations.ShipClocksAndDie := by
  unfold Obligations.ShipClocksAndDie
  refine ⟨fun s p => ⟨fun hl => ⟨fun hc => ?_, fun hc => ?_, fun hp hz => ?_, fun c hb => ?_, fun c hb => ?_, fun hlong hat => ?_⟩,
    fun c => ⟨fun hp hb => ⟨?_, ?_⟩, fun src hb => exec_longPress_of_held hb src c⟩, fun src hp => ⟨fun ht hn => ?_, fun ho => ?_⟩⟩,
    fun s hl => ⟨fun hr => ?_, fun hr => ?_, fun hr hat => ?_, fun hr => ?_, fun ha => ?_, fun ha => ?_, ?_, ?_, fun core mv => ?_,
      exec_dieTemp_cases hl⟩⟩
  · refine ⟨s.requestShip.1, by rw [exec_shipEnter hl, if_pos rfl], ?_, ?_⟩
    · rw [State.requestShip_of_ne hc]
      exact ((State.onlyRegs_refl hl.2 _).setF List.mem_cons_self _ _).raise _ _ _
    · rw [State.requestShip_of_ne hc, State.raise_f_of, State.f_setF_same _ _ _ _ (by decide)]
      exact Nat.mod_eq_of_lt s.shipCause_lt
  · obtain ⟨hpower, hship, hclosed, hruns, hflushed⟩ := (s.setF R.SHIP_STATUS F.SHIP_STATUS_REFUSE 0).enterShip_leaves
    refine ⟨_, by rw [exec_shipEnter hl, if_pos rfl, State.requestShip_of_zero hc], hpower, ?_, hclosed, hruns, hflushed⟩
    rw [State.f, hship, ← State.f, State.f_setF_same _ _ _ _ (by decide)]
    rfl
  · refine ⟨s.hwDenied p R.SHIP_CTRL 1#32, by rw [exec_shipEnter hl, if_neg hp], ?_⟩
    rw [State.ship_denied hp hz]
    exact (State.onlyRegs_refl hl.2 []).raise _ _ _
  · obtain ⟨hsys, -, hraised⟩ := s.pressed.packsForced_keeps
    refine ⟨s.pressed.packsForced.raise 0x48 0 [], by rw [exec_longPress_of_powered hl hb, if_pos rfl], ?_, ?_, ?_, fun i w h => ?_⟩
    · rw [State.raise]
      dsimp only
      rw [hraised]
      exact congrArg (· ++ [faultOf 0x48 0 []]) hl.2
    · rw [State.raise_sys, hsys]
      rfl
    · rw [State.raise_sys, hsys]
      rfl
    · exact State.packsForced_pswClosed (s := s.pressed) (i := i) h
  · refine ⟨_, by rw [exec_longPress_of_powered hl hb, if_neg Bool.false_ne_true], ?_⟩
    exact (State.powerFail_holds _ _).1
  · have hexec := exec_powered (c := .longPressEnd)
      (g := fun s => if s.sys.longPress ∧ s.sys.longAt + 80000000 ≤ s.cyc then s.packsGiven else s) hl rfl
    have hquiet : s.packsGiven.raised = [] := by
      rw [s.packsGiven_frame]
      exact hl.2
    rw [if_pos ⟨hlong, hat⟩, State.settle_quiet hquiet] at hexec
    refine ⟨s.packsGiven, hexec, ?_, fun o _ => ?_, fun i w h hh => State.packsGiven_psw h hh⟩
    · rw [s.packsGiven_frame]
    · rw [s.packsGiven_frame]
      rfl
  · exact ⟨s.pressed, by rw [exec_longPress_of_fallow hp hb, if_pos rfl], hp, rfl, fun _ _ => rfl⟩
  · exact ⟨{ s.pressed with sys := { s.pressed.sys with power := .hold } },
      by rw [exec_longPress_of_fallow hp hb, if_neg Bool.false_ne_true], rfl, fun _ _ => rfl⟩
  · obtain ⟨hpower, hcause, hcyc, hlocal, hwake⟩ := s.shipEnded_leaves src ht hn
    exact ⟨_, exec_shipWake_of_source hp ht hn, hpower, hcause, hcyc, hlocal, hwake⟩
  · exact exec_shipWake_of_other hp ho
  · obtain ⟨hok, hfall, hglb⟩ := s.refFallen_shows
    have hquiet : s.refFallen.raised = [] := hl.2
    refine ⟨s.refFallen.raise 0x02 0 [], by rw [exec_clkRefFail hl, if_neg (by rw [hr]; decide)], rfl, ?_, hok, hfall, hglb,
      s.refFallen_sameRegs⟩
    rw [State.raise]
    dsimp only
    rw [hquiet]
    rfl
  · rw [exec_clkRefFail hl, if_pos hr, State.settle_quiet hl.2]
  · obtain ⟨hok, hfall, hglb⟩ := s.refBack_shows
    have hended := s.refBack_ended
    have hquiet : (s.refBack.causeGone 0x02 0).raised = [] := by
      rw [hended.frame]
      exact hl.2
    have hno : ¬ ((!s.sys.refLost) = true ∨ s.cyc < s.sys.refAt + 2000000) := by
      rw [hr]
      simp only [Bool.not_true, Bool.false_eq_true, false_or]
      omega
    have hclk := hended.regs R.CLK_STATUS fun n => (clock_ne_stage n).1
    have hglbReg := hended.regs R.GLB_STATUS fun n => (clock_ne_stage n).2
    refine ⟨s.refBack.causeGone 0x02 0, by rw [exec_clkRefReturn hl, if_neg hno, State.settle_quiet hquiet], ?_, ?_, ?_, ?_, hended.cause⟩
    · rw [hended.frame]
      rfl
    · rw [State.flag, State.f, hclk, ← State.f, ← State.flag, hok]
    · rw [State.flag, State.f, hclk, ← State.f, ← State.flag, hfall]
    · rw [State.flag, State.f, hglbReg, ← State.f, ← State.flag, hglb]
  · have hyes : (!s.sys.refLost) = true ∨ s.cyc < s.sys.refAt + 2000000 := hr.imp_left fun h => by rw [h]; rfl
    rw [exec_clkRefReturn hl, if_pos hyes, State.settle_quiet hl.2]
  · obtain ⟨hok, hint, hglb⟩ := s.aonFallen_shows
    have honly : s.onlyRegs s.aonFallen [R.CLK_STATUS, R.GLB_STATUS] [] :=
      (((State.onlyRegs_refl hl.2 _).setF (by decide) _ _).setF (by decide) _ _).setF (by decide) _ _
    exact ⟨s.aonFallen.raise 0x03 0 [], by rw [exec_clkAonFail hl, if_neg (by rw [ha]; decide)], honly.raise _ _ _, hok, hint, hglb⟩
  · rw [exec_clkAonFail hl, if_pos ha, State.settle_quiet hl.2]
  · refine ⟨(s.setF R.CLK_STATUS F.CLK_STATUS_PLLA_LOCK 0).raise 0x04 3 [], exec_powered (g := fun s =>
      (s.setF R.CLK_STATUS F.CLK_STATUS_PLLA_LOCK 0).raise 0x04 3 []) hl rfl,
      ((State.onlyRegs_refl hl.2 _).setF List.mem_cons_self _ _).raise _ _ _, ?_⟩
    rw [State.raise_flag_of, State.flag_setF_zero _ _ (by decide)]
  · refine ⟨(s.setF R.CLK_STATUS F.CLK_STATUS_PLLB_LOCK 0).raise 0x04 6 [], exec_powered (g := fun s =>
      (s.setF R.CLK_STATUS F.CLK_STATUS_PLLB_LOCK 0).raise 0x04 6 []) hl rfl,
      ((State.onlyRegs_refl hl.2 _).setF List.mem_cons_self _ _).raise _ _ _, ?_⟩
    rw [State.raise_flag_of, State.flag_setF_zero _ _ (by decide)]
  · have hfree := s.takeFree_frame 32
    refine ⟨(s.takeFree 32).2.raise 0x08 (boolNat core) (faultRec mv (s.takeFree 32).1), (s.takeFree 32).1,
      exec_powered (g := fun s => (s.takeFree 32).2.raise 0x08 (boolNat core) (faultRec mv (s.takeFree 32).1)) hl rfl, fun o _ => ?_, ?_⟩
    · rw [State.raise_rd_of, hfree]
      rfl
    · have hquiet : (s.takeFree 32).2.raised = [] := by
        rw [hfree]
        exact hl.2
      rw [State.raise]
      dsimp only
      rw [hquiet]
      rfl

end Sys2Proof.Machine
end

section
/-! The solar tracker (R149). -/

namespace Sys2Proof.Machine

/-! The floor of loop D and the operating point. -/

theorem State.setFloor_frame (s : State) (node mv : Nat) : s.setFloor node mv = { s with regs := (s.setFloor node mv).regs } := by
  rw [State.setFloor]
  generalize s.stagesOutOf node = l
  induction l generalizing s with
  | nil => rfl
  | cons n l ih => rw [List.foldl_cons, ih]; rfl

theorem State.setFloor_rd (s : State) (node mv : Nat) {o : Nat} (ho : ∀ n, o ≠ R.STAGE_VFLOOR n) : (s.setFloor node mv).rd o = s.rd o :=
  foldl_keeps (f := fun t => t.rd o) (fun _ n => State.rd_setF_other _ _ _ (ho n)) _ _

/-- The registers of the tracker are none of a stage's floors. -/
theorem mppt_ne_floor (n : Nat) : R.INPUT_2_MPPT_STATUS ≠ R.STAGE_VFLOOR n ∧ R.INPUT_2_MPPT_PMPP ≠ R.STAGE_VFLOOR n := by
  simp only [R.INPUT_2_MPPT_STATUS, R.INPUT_2_MPPT_PMPP, R.STAGE_VFLOOR]
  omega

theorem State.setVOp_frame (s : State) (mv : Nat) : s.setVOp mv = { s with regs := (s.setVOp mv).regs } := by
  rw [State.setVOp, State.setFloor_frame]
  rfl

theorem State.setVOp_status (s : State) (mv : Nat) :
    (s.setVOp mv).rd R.INPUT_2_MPPT_STATUS = (s.setF R.INPUT_2_MPPT_STATUS F.INPUT_2_MPPT_STATUS_V_OP mv).rd R.INPUT_2_MPPT_STATUS :=
  State.setFloor_rd _ _ _ fun n => (mppt_ne_floor n).1

theorem State.setVOp_vOp (s : State) (mv : Nat) : (s.setVOp mv).vOp = mv % 65536 := by
  rw [State.vOp, State.f, State.setVOp_status, ← State.f, State.f_setF_same _ _ _ _ (by decide)]
  rfl

theorem State.setVOp_vOp_of_lt (s : State) {mv : Nat} (h : mv < 65536) : (s.setVOp mv).vOp = mv := by
  rw [State.setVOp_vOp, Nat.mod_eq_of_lt h]

/-- A flag of the tracker stands beside the operating point. -/
theorem State.setVOp_flag (s : State) (mv : Nat) {fld : Fld} (h : fld.lo + fld.w ≤ 32) (h' : 16 ≤ fld.lo) :
    (s.setVOp mv).flag R.INPUT_2_MPPT_STATUS fld = s.flag R.INPUT_2_MPPT_STATUS fld := by
  rw [State.flag, State.f, State.setVOp_status, ← State.f, ← State.flag, State.flag_setF_field (g := F.INPUT_2_MPPT_STATUS_V_OP) _ _ (by decide) h (.inr h')]

theorem State.setVOp_pmpp (s : State) (mv : Nat) : (s.setVOp mv).rdN R.INPUT_2_MPPT_PMPP = s.rdN R.INPUT_2_MPPT_PMPP := by
  rw [State.rdN, State.setVOp, State.setFloor_rd _ _ _ fun n => (mppt_ne_floor n).2, State.rd_setF_other _ _ _ (by decide), State.rdN]

theorem State.setVOp_mppt (s : State) (mv : Nat) : (s.setVOp mv).mppt = s.mppt := by rw [s.setVOp_frame]

theorem State.setVOp_raised (s : State) (mv : Nat) : (s.setVOp mv).raised = s.raised := by rw [s.setVOp_frame]

theorem State.vOp_lt (s : State) : s.vOp < 65536 := s.f_lt _ F.INPUT_2_MPPT_STATUS_V_OP (by decide)

theorem State.nodeVmax_lt (s : State) (k : Nat) : s.nodeVmax k < 65536 := by
  rw [State.nodeVmax, State.fabF]
  split
  · exact getBits_lt _ _ _ (by decide)
  · decide

theorem State.mpptMax_lt (s : State) : s.mpptMax < 65536 := by
  unfold State.mpptMax
  dsimp only
  split
  · exact s.nodeVmax_lt 18
  · exact s.f_lt _ F.INPUT_2_MPPT_VRANGE_VMAX (by decide)

/-! A step. -/

/-- Loop D has limited a stage that draws from INPUT_2. -/
def State.mpptLimited (s : State) : Bool := (s.stagesOutOf 18).any (fun k => bitsOf (s.stage k).selHist 3 1 == 1)

/-- The histories of the loops that are empty again after a look. -/
def State.histCleared (s : State) : State := (s.stagesOutOf 18).foldl (fun s k => s.setStage k { s.stage k with selHist := 0 }) s

theorem State.histCleared_frame (s : State) : s.histCleared = { s with stages := s.histCleared.stages } := by
  rw [State.histCleared]
  generalize s.stagesOutOf 18 = l
  induction l generalizing s with
  | nil => rfl
  | cons n l ih => rw [List.foldl_cons, ih]; rfl

/-- The power of a step noted, and whether it was limited. -/
def State.mpptNoted (s : State) (mw : Nat) : State :=
  (({ s.histCleared with mppt := { s.histCleared.mppt with pLast := mw } }).mpptTimes mw s.mpptLimited).setF R.INPUT_2_MPPT_STATUS
    F.INPUT_2_MPPT_STATUS_LIMITED (boolNat s.mpptLimited)

theorem State.mpptNoted_frame (s : State) (mw : Nat) :
    s.mpptNoted mw = { s with regs := (s.mpptNoted mw).regs, stages := (s.mpptNoted mw).stages, mppt := (s.mpptNoted mw).mppt } := by
  rw [State.mpptNoted, s.histCleared_frame]
  rfl

theorem State.mpptNoted_rd (s : State) (mw : Nat) {o : Nat} (ho : o ≠ R.INPUT_2_MPPT_STATUS) : (s.mpptNoted mw).rd o = s.rd o := by
  rw [State.mpptNoted, s.histCleared_frame, State.rd_setF_other _ _ _ ho]
  rfl

theorem State.mpptNoted_pLast (s : State) (mw : Nat) : (s.mpptNoted mw).mppt.pLast = mw := rfl

theorem State.mpptNoted_limited (s : State) (mw : Nat) :
    (s.mpptNoted mw).flag R.INPUT_2_MPPT_STATUS F.INPUT_2_MPPT_STATUS_LIMITED = s.mpptLimited := by
  rw [State.mpptNoted]
  cases s.mpptLimited
  · exact State.flag_setF_zero _ _ (by decide)
  · exact State.flag_setF_one _ _ (by decide) (by decide)

theorem State.mpptNoted_field (s : State) (mw : Nat) {fld : Fld} (h : fld.lo + fld.w ≤ 32) (hd : fld.lo + fld.w ≤ 18) :
    (s.mpptNoted mw).f R.INPUT_2_MPPT_STATUS fld = s.f R.INPUT_2_MPPT_STATUS fld := by
  rw [State.mpptNoted, s.histCleared_frame, State.f_setF_field _ _ (by decide) h (.inl hd)]
  rfl

theorem State.mpptNoted_range (s : State) (mw : Nat) : (s.mpptNoted mw).mpptMin = s.mpptMin ∧ (s.mpptNoted mw).mpptMax = s.mpptMax ∧
    (s.mpptNoted mw).mpptStepMv = s.mpptStepMv := by
  have hcfg := s.mpptNoted_rd mw (o := R.INPUT_2_MPPT_CFG) (by decide)
  have hrange := s.mpptNoted_rd mw (o := R.INPUT_2_MPPT_VRANGE) (by decide)
  have hfab : (s.mpptNoted mw).fab = s.fab := by rw [s.mpptNoted_frame]
  refine ⟨?_, ?_, ?_⟩
  · unfold State.mpptMin State.nodeVmin State.fabF State.f
    rw [hfab, hrange]
  · unfold State.mpptMax State.nodeVmax State.fabF State.f
    rw [hfab, hrange]
  · unfold State.mpptStepMv State.f
    rw [hcfg]

/-- The direction that a step takes: the other one where the power fell. -/
def State.mpptUp (s : State) (mw : Nat) : Bool := s.flag R.INPUT_2_MPPT_STATUS F.INPUT_2_MPPT_STATUS_DIR != decide (mw < s.mppt.pLast)

/-- The operating point that a step takes. -/
def State.mpptNext (s : State) (mw : Nat) : Nat :=
  min (max (if s.mpptUp mw then s.vOp + s.mpptStepMv else s.vOp - s.mpptStepMv) s.mpptMin) s.mpptMax

theorem State.mpptNext_lt (s : State) (mw : Nat) : s.mpptNext mw < 65536 :=
  Nat.lt_of_le_of_lt (Nat.min_le_right _ _) s.mpptMax_lt

/-- The direction shown. -/
def State.mpptTurned (s : State) (up : Bool) : State := s.setF R.INPUT_2_MPPT_STATUS F.INPUT_2_MPPT_STATUS_DIR (boolNat up)

theorem State.mpptTurned_range (s : State) (up : Bool) : (s.mpptTurned up).vOp = s.vOp ∧ (s.mpptTurned up).mpptMin = s.mpptMin ∧
    (s.mpptTurned up).mpptMax = s.mpptMax ∧ (s.mpptTurned up).mpptStepMv = s.mpptStepMv := by
  have hcfg (fld : Fld) : (s.mpptTurned up).f R.INPUT_2_MPPT_CFG fld = s.f R.INPUT_2_MPPT_CFG fld := State.f_setF_reg _ _ _ _ (by decide)
  have hrange (fld : Fld) : (s.mpptTurned up).f R.INPUT_2_MPPT_VRANGE fld = s.f R.INPUT_2_MPPT_VRANGE fld := State.f_setF_reg _ _ _ _ (by decide)
  refine ⟨State.f_setF_field _ _ (by decide) (by decide) (.inl (by decide)), ?_, ?_, ?_⟩
  · rw [State.mpptMin, hrange]
    rfl
  · rw [State.mpptMax, hrange]
    rfl
  · rw [State.mpptStepMv, hcfg, State.mpptStepMv]

/-- What a step leaves. -/
def State.mpptStepped (s : State) (mw : Nat) : State :=
  if s.mpptLimited then ((s.mpptNoted mw).mpptTurned (s.mpptUp mw)).setVOp (s.mpptNext mw) else s.mpptNoted mw

theorem State.mpptStepped_leaves (s : State) (mw : Nat) : (s.mpptStepped mw).raised = s.raised ∧ (s.mpptStepped mw).mppt.pLast = mw ∧
    (s.mpptStepped mw).flag R.INPUT_2_MPPT_STATUS F.INPUT_2_MPPT_STATUS_LIMITED = s.mpptLimited ∧
    (s.mpptLimited = false → (s.mpptStepped mw).vOp = s.vOp) ∧
    (s.mpptLimited = true → (s.mpptStepped mw).flag R.INPUT_2_MPPT_STATUS F.INPUT_2_MPPT_STATUS_DIR = s.mpptUp mw ∧
      (s.mpptStepped mw).vOp = s.mpptNext mw) := by
  have hlimited := s.mpptNoted_limited mw
  have hraised : (s.mpptNoted mw).raised = s.raised := by rw [s.mpptNoted_frame]
  cases h : s.mpptLimited with
  | false =>
    rw [h] at hlimited
    have hstep : s.mpptStepped mw = s.mpptNoted mw := by rw [State.mpptStepped, h, if_neg Bool.false_ne_true]
    rw [hstep]
    exact ⟨hraised, s.mpptNoted_pLast mw, hlimited, fun _ => s.mpptNoted_field mw (by decide) (by decide), nofun⟩
  | true =>
    rw [h] at hlimited
    have hstep : s.mpptStepped mw = ((s.mpptNoted mw).mpptTurned (s.mpptUp mw)).setVOp (s.mpptNext mw) := by
      rw [State.mpptStepped, h, if_pos rfl]
    rw [hstep]
    refine ⟨?_, ?_, ?_, nofun, fun _ => ⟨?_, State.setVOp_vOp_of_lt _ (s.mpptNext_lt mw)⟩⟩
    · rw [State.setVOp_raised, State.mpptTurned, State.setF_raised, hraised]
    · rw [State.setVOp_mppt, State.mpptTurned, State.setF_mppt, State.mpptNoted_pLast]
    · rw [State.setVOp_flag _ _ (by decide) (by decide), State.mpptTurned, State.flag_setF_field _ _ (by decide) (by decide) (.inr (by decide)),
        hlimited]
    · rw [State.setVOp_flag _ _ (by decide) (by decide), State.mpptTurned]
      cases s.mpptUp mw
      · exact State.flag_setF_zero _ _ (by decide)
      · exact State.flag_setF_one _ _ (by decide) (by decide)

section
variable {s : State} (hl : s.live) (hon : s.mpptOn = true) (hdue : s.mpptDue = true) (hrange : s.mpptMin < s.mpptMax)
  (herr : s.flag R.INPUT_2_MPPT_STATUS F.INPUT_2_MPPT_STATUS_RANGE_ERR = false)
include hl hon hdue hrange herr

theorem exec_mpptStep (mw : Nat) (hsweep : s.flag R.INPUT_2_MPPT_STATUS F.INPUT_2_MPPT_STATUS_SWEEPING = false) :
    exec (.mpptStep mw) s = .next (s.mpptStepped mw) := by
  have hexec : exec (.mpptStep mw) s = execMpptStep mw s := rfl
  have hno : ¬ (¬ s.mpptOn = true ∨ ¬ s.mpptDue = true ∨ s.flag R.INPUT_2_MPPT_STATUS F.INPUT_2_MPPT_STATUS_SWEEPING = true) := by
    rw [hon, hdue, hsweep]
    decide
  have hok : ¬ (s.mpptMax ≤ s.mpptMin ∨ s.flag R.INPUT_2_MPPT_STATUS F.INPUT_2_MPPT_STATUS_RANGE_ERR = true) := by
    rw [herr]
    simp only [Bool.false_eq_true, or_false]
    omega
  have hdir : (s.mpptNoted mw).flag R.INPUT_2_MPPT_STATUS F.INPUT_2_MPPT_STATUS_DIR = s.flag R.INPUT_2_MPPT_STATUS F.INPUT_2_MPPT_STATUS_DIR := by
    rw [State.flag, s.mpptNoted_field mw (by decide) (by decide), State.flag]
  have hlast : s.histCleared.mppt = s.mppt := by rw [s.histCleared_frame]
  have hup : (if mw < s.histCleared.mppt.pLast then !(s.mpptNoted mw).flag R.INPUT_2_MPPT_STATUS F.INPUT_2_MPPT_STATUS_DIR
      else (s.mpptNoted mw).flag R.INPUT_2_MPPT_STATUS F.INPUT_2_MPPT_STATUS_DIR) = s.mpptUp mw := by
    rw [hdir, hlast, State.mpptUp]
    split
    next h => simp [h]
    next h => simp [h]
  obtain ⟨hmin, hmax, hstep⟩ := s.mpptNoted_range mw
  obtain ⟨hv', hmin', hmax', hstep'⟩ := (s.mpptNoted mw).mpptTurned_range (s.mpptUp mw)
  have hv : (s.mpptNoted mw).vOp = s.vOp := s.mpptNoted_field mw (by decide) (by decide)
  rw [← State.settle_quiet (((s.mpptStepped_leaves mw).1).trans hl.2), hexec, execMpptStep, State.act_on _ hl.1, if_neg hno, if_neg hok,
    State.mpptStepped, State.mpptNext, ← hup]
  rw [← hup] at hv' hmin' hmax' hstep'
  rw [← hv, ← hmin, ← hmax, ← hstep, ← hv', ← hmin', ← hmax', ← hstep']
  by_cases h : s.mpptLimited = true
  · have hany : ¬ ¬ ((s.stagesOutOf 18).any fun k => bitsOf (s.stage k).selHist 3 1 == 1) = true := not_not.2 h
    dsimp only
    rw [if_pos h, if_neg hany]
    rfl
  · have hany : ¬ ((s.stagesOutOf 18).any fun k => bitsOf (s.stage k).selHist 3 1 == 1) = true := h
    dsimp only
    rw [if_neg h, if_pos hany]
    rfl

/-! A sweep. -/

/-- The best point of a sweep, with the point that is present. -/
def State.mpptBest (s : State) (mw : Nat) : Nat × Nat := if mw > s.mppt.bestP then (mw, s.vOp) else (s.mppt.bestP, s.mppt.bestV)

/-- The best point noted. -/
def State.mpptTaken (s : State) (mw : Nat) : State :=
  let t := s.mpptTimes mw (s.flag R.INPUT_2_MPPT_STATUS F.INPUT_2_MPPT_STATUS_LIMITED)
  if mw > t.mppt.bestP then { t with mppt := { t.mppt with bestP := mw, bestV := t.vOp } } else t

omit hl hon hdue hrange herr in
theorem State.mpptTaken_leaves (s : State) (mw : Nat) : s.mpptTaken mw = { s with mppt := (s.mpptTaken mw).mppt } ∧
    (s.mpptTaken mw).mppt.bestP = (s.mpptBest mw).1 ∧ (s.mpptTaken mw).mppt.bestV = (s.mpptBest mw).2 := by
  unfold State.mpptTaken State.mpptBest
  dsimp only
  by_cases h : mw > s.mppt.bestP
  · have h' : mw > (s.mpptTimes mw (s.flag R.INPUT_2_MPPT_STATUS F.INPUT_2_MPPT_STATUS_LIMITED)).mppt.bestP := h
    rw [if_pos h', if_pos h]
    exact ⟨rfl, rfl, rfl⟩
  · have h' : ¬ mw > (s.mpptTimes mw (s.flag R.INPUT_2_MPPT_STATUS F.INPUT_2_MPPT_STATUS_LIMITED)).mppt.bestP := h
    rw [if_neg h', if_neg h]
    exact ⟨rfl, rfl, rfl⟩

/-- The best point shown as the sweep ends. -/
def State.sweepEnded (s : State) : State :=
  ((s.wrN R.INPUT_2_MPPT_PMPP s.mppt.bestP).setF R.INPUT_2_MPPT_STATUS F.INPUT_2_MPPT_STATUS_SWEEPING 0).setVOp s.mppt.bestV

/-- What a sweep step leaves. -/
def State.mpptSwept (s : State) (mw : Nat) : State :=
  if s.vOp ≤ s.mpptMin then (s.mpptTaken mw).sweepEnded else (s.mpptTaken mw).setVOp (max s.mpptMin (s.vOp - 8 * s.mpptStepMv))

theorem exec_mpptSweep (mw : Nat) (hsweep : s.flag R.INPUT_2_MPPT_STATUS F.INPUT_2_MPPT_STATUS_SWEEPING = true) :
    exec (.mpptSweep mw) s = .next (s.mpptSwept mw).settle := by
  have hexec : exec (.mpptSweep mw) s = execMpptSweep mw s := rfl
  have hno : ¬ (¬ s.mpptOn = true ∨ ¬ s.mpptDue = true) := by
    rw [hon, hdue]
    decide
  have hok : ¬ (s.mpptMax ≤ s.mpptMin ∨ s.flag R.INPUT_2_MPPT_STATUS F.INPUT_2_MPPT_STATUS_RANGE_ERR = true) := by
    rw [herr]
    simp only [Bool.false_eq_true, or_false]
    omega
  have hkept : (s.mpptTaken mw).vOp = s.vOp ∧ (s.mpptTaken mw).mpptMin = s.mpptMin ∧ (s.mpptTaken mw).mpptStepMv = s.mpptStepMv := by
    rw [(s.mpptTaken_leaves mw).1]
    exact ⟨rfl, rfl, rfl⟩
  obtain ⟨hv, hmin, hstep⟩ := hkept
  rw [hexec, execMpptSweep, State.act_on _ hl.1, if_neg hno, if_neg hok, if_neg (not_not.2 hsweep), State.mpptSwept, ← hv, ← hmin, ← hstep]
  rfl

theorem exec_mpptSweep_start (mw : Nat) (hsweep : s.flag R.INPUT_2_MPPT_STATUS F.INPUT_2_MPPT_STATUS_SWEEPING = false)
    (hd : s.sweepDue = true) : exec (.mpptSweep mw) s = .next (s.mpptStart false).settle := by
  have hexec : exec (.mpptSweep mw) s = execMpptSweep mw s := rfl
  have hno : ¬ (¬ s.mpptOn = true ∨ ¬ s.mpptDue = true) := by
    rw [hon, hdue]
    decide
  have hok : ¬ (s.mpptMax ≤ s.mpptMin ∨ s.flag R.INPUT_2_MPPT_STATUS F.INPUT_2_MPPT_STATUS_RANGE_ERR = true) := by
    rw [herr]
    simp only [Bool.false_eq_true, or_false]
    omega
  rw [hexec, execMpptSweep, State.act_on _ hl.1, if_neg hno, if_neg hok, if_pos (by rw [hsweep]; decide), if_pos hd]

end

theorem State.mpptSwept_raised (s : State) (mw : Nat) : (s.mpptSwept mw).raised = s.raised := by
  have htaken : (s.mpptTaken mw).raised = s.raised := by rw [(s.mpptTaken_leaves mw).1]
  unfold State.mpptSwept
  split
  · rw [State.sweepEnded, State.setVOp_raised, State.setF_raised, State.wrN_raised, htaken]
  · rw [State.setVOp_raised, htaken]

/-- A sweep that is not at its lower end steps down. -/
theorem State.mpptSwept_of_above {s : State} (mw : Nat) (h : s.mpptMin < s.vOp) :
    (s.mpptSwept mw).vOp = max s.mpptMin (s.vOp - 8 * s.mpptStepMv) ∧ (s.mpptSwept mw).mppt.bestP = (s.mpptBest mw).1 ∧
    (s.mpptSwept mw).mppt.bestV = (s.mpptBest mw).2 := by
  obtain ⟨-, hp, hv⟩ := s.mpptTaken_leaves mw
  have hlt := s.vOp_lt
  rw [State.mpptSwept, if_neg (Nat.not_le.2 h)]
  refine ⟨State.setVOp_vOp_of_lt _ (by omega), ?_, ?_⟩
  · rw [State.setVOp_mppt, hp]
  · rw [State.setVOp_mppt, hv]

/-- A sweep at its lower end takes the best point. -/
theorem State.mpptSwept_of_end {s : State} (mw : Nat) (h : s.vOp ≤ s.mpptMin) :
    (s.mpptSwept mw).vOp = (s.mpptBest mw).2 % 65536 ∧ (s.mpptSwept mw).rdN R.INPUT_2_MPPT_PMPP = (s.mpptBest mw).1 % 2 ^ 32 ∧
    (s.mpptSwept mw).flag R.INPUT_2_MPPT_STATUS F.INPUT_2_MPPT_STATUS_SWEEPING = false := by
  obtain ⟨-, hp, hv⟩ := s.mpptTaken_leaves mw
  rw [State.mpptSwept, if_pos h, State.sweepEnded]
  refine ⟨?_, ?_, ?_⟩
  · rw [State.setVOp_vOp, hv]
  · rw [State.setVOp_pmpp, State.rdN, State.rd_setF_other _ _ _ (by decide), ← State.rdN, State.rdN_wrN_same, hp]
  · rw [State.setVOp_flag _ _ (by decide) (by decide), State.flag_setF_zero _ _ (by decide)]

/-- The registers of a sweep that begins. -/
def State.sweepShown (s : State) : State :=
  (s.setF R.INPUT_2_MPPT_STATUS F.INPUT_2_MPPT_STATUS_RANGE_ERR 0).setF R.INPUT_2_MPPT_STATUS F.INPUT_2_MPPT_STATUS_SWEEPING 1

theorem State.sweepShown_mpptMax (s : State) : s.sweepShown.mpptMax = s.mpptMax := by
  have hf (fld : Fld) : s.sweepShown.f R.INPUT_2_MPPT_VRANGE fld = s.f R.INPUT_2_MPPT_VRANGE fld := by
    rw [State.sweepShown, State.f_setF_reg _ _ _ _ (by decide), State.f_setF_reg _ _ _ _ (by decide)]
  rw [State.mpptMax, hf]
  rfl

/-- A sweep that begins. -/
def State.sweepBegun (s : State) : State :=
  { s.sweepShown with mppt := { s.mppt with bestP := 0, bestV := s.mpptMax, sweepAt := s.cyc, stepAt := s.cyc } }

theorem State.sweepBegun_rd (s : State) (o : Nat) : s.sweepBegun.rd o = s.sweepShown.rd o := rfl

theorem State.mpptStart_eq {s : State} (h : s.mpptMin < s.mpptMax) : s.mpptStart false = s.sweepBegun.setVOp s.mpptMax := by
  rw [State.mpptStart, if_neg (Nat.not_le.2 h), State.sweepBegun, ← s.sweepShown_mpptMax]
  rfl

/-- A periodic sweep begins at the upper end. -/
theorem State.mpptStart_leaves {s : State} (h : s.mpptMin < s.mpptMax) : (s.mpptStart false).raised = s.raised ∧
    (s.mpptStart false).vOp = s.mpptMax ∧ (s.mpptStart false).flag R.INPUT_2_MPPT_STATUS F.INPUT_2_MPPT_STATUS_SWEEPING = true := by
  rw [State.mpptStart_eq h]
  refine ⟨?_, State.setVOp_vOp_of_lt _ s.mpptMax_lt, ?_⟩
  · rw [State.setVOp_raised]
    rfl
  · rw [State.setVOp_flag _ _ (by decide) (by decide), State.flag, State.f, State.sweepBegun_rd, ← State.f, ← State.flag, State.sweepShown,
      State.flag_setF_one _ _ (by decide) (by decide)]

/-! No power. -/

/-- The report of low power, told once. -/
def State.lowTold (s : State) : State := { s with mppt := { s.mppt with lowTold := true } }

theorem exec_mpptNoPower {s : State} {c : Nat} (hl : s.live) (hon : s.mpptOn = true)
    (hlim : s.flag R.INPUT_2_MPPT_STATUS F.INPUT_2_MPPT_STATUS_LIMITED = true) (hlow : s.mppt.lowAt = some c) (htold : s.mppt.lowTold = false)
    (hc : c + 12000000000 ≤ s.cyc) :
    exec .mpptNoPower s = .next (s.lowTold.raise 0x67 2 (faultRec s.mppt.pLast s.mpptLowMw)).settle := by
  have hexec : exec .mpptNoPower s = execMpptNoPower s := rfl
  have hyes : s.mpptOn = true ∧ s.flag R.INPUT_2_MPPT_STATUS F.INPUT_2_MPPT_STATUS_LIMITED = true ∧ ¬ s.mppt.lowTold = true ∧
      c + 12000000000 ≤ s.cyc := ⟨hon, hlim, by rw [htold]; decide, hc⟩
  rw [hexec, execMpptNoPower, State.act_on _ hl.1, hlow]
  dsimp only
  rw [if_pos hyes]
  rfl

/-- Settles O32: a step moves the operating point by the power's change, a sweep keeps the best point, and low power is told once. -/
theorem trackerPerturbsAndSweeps : Obligations.TrackerPerturbsAndSweeps := by
  unfold Obligations.TrackerPerturbsAndSweeps
  intro s mw hl hon
  refine ⟨fun hdue hrange herr => ⟨fun hsweep => ⟨?_, fun hd => ?_⟩, fun hsweep => ?_⟩, fun c hlim hlow htold hc => ?_⟩
  · exact ⟨_, exec_mpptStep hl hon hdue hrange herr mw hsweep, (s.mpptStepped_leaves mw).2⟩
  · obtain ⟨hquiet, hstart⟩ := State.mpptStart_leaves hrange
    exact ⟨_, by rw [exec_mpptSweep_start hl hon hdue hrange herr mw hsweep hd, State.settle_quiet (hquiet.trans hl.2)], hstart⟩
  · refine ⟨_, ?_, State.mpptSwept_of_end mw, State.mpptSwept_of_above mw⟩
    rw [exec_mpptSweep hl hon hdue hrange herr mw hsweep, State.settle_quiet ((s.mpptSwept_raised mw).trans hl.2)]
  · refine ⟨_, exec_mpptNoPower hl hon hlim hlow htold hc, rfl, fun _ _ => rfl, ?_⟩
    have hquiet : s.lowTold.raised = [] := hl.2
    rw [State.raise]
    dsimp only
    rw [hquiet]
    rfl

end Sys2Proof.Machine
end

section
/-! The pins and setpoints of the pin-commanded rails (R133–R137). -/

namespace Sys2Proof.Machine

theorem vselCfg_ne_railStatus (g r : Nat) : R.VSEL_CFG g ≠ R.RAIL_STATUS r := by
  simp only [R.VSEL_CFG, R.RAIL_STATUS]
  omega

/-- The pin-commanded rails shown: the registers of the groups are left. -/
theorem State.showVsel_rd (s : State) (g : Nat) : s.showVsel.rd (R.VSEL_CFG g) = s.rd (R.VSEL_CFG g) :=
  State.each_keeps (f := fun t => t.rd (R.VSEL_CFG g)) (fun _ _ => State.rd_setF_other _ _ _ (vselCfg_ne_railStatus g _)) _ s

theorem State.showVsel_raised (s : State) : s.showVsel.raised = s.raised :=
  State.each_keeps (f := State.raised)
    (g := fun r s => s.setF (R.RAIL_STATUS r) F.RAIL_STATUS_VSEL (boolNat (s.vselOf r).isSome)) (fun _ _ => rfl) _ s

/-! The pins. -/

/-- The levels of the pins taken: PINS shows them, and ACTIVE of an enabled group takes them. -/
def State.pinsTaken (s : State) (g pat : Nat) : State :=
  if s.flag (R.VSEL_CFG g) F.VSEL_CFG_EN then
    (s.setF (R.VSEL_CFG g) F.VSEL_CFG_PINS pat).setF (R.VSEL_CFG g) F.VSEL_CFG_ACTIVE pat
  else s.setF (R.VSEL_CFG g) F.VSEL_CFG_PINS pat

theorem State.takePins_cases (s : State) (g : Nat) : s.takePins g = s ∨ ∃ pat, s.takePins g = s.pinsTaken g pat := by
  unfold State.takePins
  split
  · exact .inl rfl
  · refine .inr ⟨s.sys.vselPins.getD g 0, ?_⟩
    dsimp only
    rw [State.flag_setF_field _ _ (by decide) (by decide) (.inl (by decide)), State.pinsTaken]

/-- No rail of the group is in soft start: the levels are taken. -/
theorem State.takePins_of_none {s : State} {g : Nat} (h : ∀ r ∈ maskRails (s.vselMask g), s.softStage r = none) :
    s.takePins g = s.pinsTaken g (s.sys.vselPins.getD g 0) := by
  have hnone : (maskRails (s.vselMask g)).any (fun r => (s.softStage r).isSome) = false := by
    rw [List.any_eq_false]
    intro r hr
    rw [h r hr]
    decide
  rw [State.takePins, hnone, Bool.and_false, if_neg Bool.false_ne_true]
  dsimp only
  rw [State.flag_setF_field _ _ (by decide) (by decide) (.inl (by decide)), State.pinsTaken]

theorem State.pinsTaken_sameRegs (s : State) (g pat : Nat) : s.sameRegs (s.pinsTaken g pat) [R.VSEL_CFG g] := by
  have ho := List.mem_cons_self (a := R.VSEL_CFG g) (l := [])
  unfold State.pinsTaken
  split
  · exact ((s.sameRegs_refl _).setF ho _ _).setF ho _ _
  · exact (s.sameRegs_refl _).setF ho _ _

theorem State.pinsTaken_raised (s : State) (g pat : Nat) : (s.pinsTaken g pat).raised = s.raised := by
  unfold State.pinsTaken
  split
  · rfl
  · rfl

theorem State.pinsTaken_shows (s : State) (g : Nat) {pat : Nat} (hp : pat < 8) :
    (s.pinsTaken g pat).f (R.VSEL_CFG g) F.VSEL_CFG_PINS = pat ∧
    (s.flag (R.VSEL_CFG g) F.VSEL_CFG_EN = true → (s.pinsTaken g pat).f (R.VSEL_CFG g) F.VSEL_CFG_ACTIVE = pat) := by
  have hpins : (s.setF (R.VSEL_CFG g) F.VSEL_CFG_PINS pat).f (R.VSEL_CFG g) F.VSEL_CFG_PINS = pat := by
    rw [State.f_setF_same _ _ _ _ (by decide)]
    exact Nat.mod_eq_of_lt hp
  unfold State.pinsTaken
  by_cases hen : s.flag (R.VSEL_CFG g) F.VSEL_CFG_EN = true
  · rw [if_pos hen]
    refine ⟨?_, fun _ => ?_⟩
    · rw [State.f_setF_field _ _ (by decide) (by decide) (.inl (by decide)), hpins]
    · rw [State.f_setF_same _ _ _ _ (by decide)]
      exact Nat.mod_eq_of_lt hp
  · rw [if_neg hen]
    exact ⟨hpins, fun h => absurd h hen⟩

/-- The other fields of the group's register are left. -/
theorem State.takePins_field (s : State) (g : Nat) {fld : Fld} (h : fld.lo + fld.w ≤ 32) (hpins : fld.lo + fld.w ≤ 16 ∨ 23 ≤ fld.lo) :
    (s.takePins g).f (R.VSEL_CFG g) fld = s.f (R.VSEL_CFG g) fld := by
  have hone (u : State) (pat : Nat) (d : Fld) (hd : d = F.VSEL_CFG_PINS ∨ d = F.VSEL_CFG_ACTIVE) :
      (u.setF (R.VSEL_CFG g) d pat).f (R.VSEL_CFG g) fld = u.f (R.VSEL_CFG g) fld := by
    rcases hd with rfl | rfl
    · refine State.f_setF_field _ _ (by decide) h ?_
      simp only [F.VSEL_CFG_PINS]
      omega
    · refine State.f_setF_field _ _ (by decide) h ?_
      simp only [F.VSEL_CFG_ACTIVE]
      omega
  rcases s.takePins_cases g with h | ⟨pat, h⟩
  · rw [h]
  · rw [h, State.pinsTaken]
    split
    · rw [hone _ _ _ (.inr rfl), hone _ _ _ (.inl rfl)]
    · rw [hone _ _ _ (.inl rfl)]

theorem State.takePins_raised (s : State) (g : Nat) : (s.takePins g).raised = s.raised := by
  rcases s.takePins_cases g with h | ⟨pat, h⟩
  · rw [h]
  · rw [h, State.pinsTaken_raised]

/-! The masks. -/

/-- A mask may not be taken (R134). -/
def State.maskBad (s : State) (g v : Nat) : Bool :=
  (maskRails v).any (fun r => !s.declared r || bitsOf (s.vselMask (1 - g)) r 1 == 1) || s.maskOrdered (s.vselMask g) || s.maskOrdered v

theorem State.maskBad_iff (s : State) (g v : Nat) : s.maskBad g v = true ↔
    (∃ r ∈ maskRails v, s.declared r = false ∨ bitsOf (s.vselMask (1 - g)) r 1 = 1) ∨ s.maskOrdered (s.vselMask g) = true ∨
      s.maskOrdered v = true := by
  simp only [State.maskBad, Bool.or_eq_true, List.any_eq_true, Bool.not_eq_true', beq_iff_eq, or_assoc]

/-- The register of a group after a write, before the pins are taken. -/
def State.vselWritten (s : State) (g : Nat) (v : Word) : State :=
  let t := (if getBits v 23 1 = 1 then s.setF (R.VSEL_CFG g) F.VSEL_CFG_REFUSED 0 else s).setF (R.VSEL_CFG g) F.VSEL_CFG_EN (getBits v 0 1)
  if s.maskBad g (getBits v 8 8) then t.hwSet (R.VSEL_CFG g) F.VSEL_CFG_REFUSED 1 else t.setF (R.VSEL_CFG g) F.VSEL_CFG_RAIL_MASK (getBits v 8 8)

/-- The flag cleared does not bear on the mask. -/
theorem State.maskBad_cleared (s : State) (g : Fin 2) (m v : Nat) :
    (s.setF (R.VSEL_CFG g) F.VSEL_CFG_REFUSED m).maskBad g v = s.maskBad g v := by
  have hown : (s.setF (R.VSEL_CFG g) F.VSEL_CFG_REFUSED m).vselMask g = s.vselMask g :=
    State.f_setF_field _ _ (by decide) (by decide) (.inl (by decide))
  have hother : (s.setF (R.VSEL_CFG g) F.VSEL_CFG_REFUSED m).vselMask (1 - g) = s.vselMask (1 - g) :=
    State.f_setF_reg _ _ _ _ (by simp only [R.VSEL_CFG]; omega)
  rw [State.maskBad, State.maskBad, hown, hother]
  rfl

theorem State.writeVselCfg_eq (s : State) (g : Fin 2) (v : Word) : s.writeVselCfg g v = ((s.vselWritten g v).takePins g).showVsel := by
  have hbad := s.maskBad_cleared g 0 (getBits v 8 8)
  rw [State.writeVselCfg, State.vselWritten]
  by_cases hc : getBits v 23 1 = 1
  · have hown : s.vselMask g = (s.setF (R.VSEL_CFG g) F.VSEL_CFG_REFUSED 0).vselMask g :=
      (State.f_setF_field _ _ (by decide) (by decide) (.inl (by decide))).symm
    rw [if_pos hc, hown, ← hbad]
    rfl
  · rw [if_neg hc]
    rfl

theorem State.vselWritten_raised (s : State) (g : Nat) (v : Word) : (s.vselWritten g v).raised = s.raised := by
  have hfirst : (if getBits v 23 1 = 1 then s.setF (R.VSEL_CFG g) F.VSEL_CFG_REFUSED 0 else s).raised = s.raised := by
    split
    · rfl
    · rfl
  unfold State.vselWritten
  dsimp only
  split
  · rw [State.hwSet_raised, State.setF_raised, hfirst]
  · rw [State.setF_raised, State.setF_raised, hfirst]

/-- A mask that may be taken is taken, and one that may not is refused. -/
theorem State.vselWritten_mask (s : State) (g : Nat) (v : Word) :
    (s.maskBad g (getBits v 8 8) = false → (s.vselWritten g v).vselMask g = getBits v 8 8 ∧
      (s.vselWritten g v).f (R.VSEL_CFG g) F.VSEL_CFG_EN = getBits v 0 1) ∧
    (s.maskBad g (getBits v 8 8) = true → (s.vselWritten g v).vselMask g = s.vselMask g ∧
      (s.vselWritten g v).flag (R.VSEL_CFG g) F.VSEL_CFG_REFUSED = true) := by
  have hfirst : (if getBits v 23 1 = 1 then s.setF (R.VSEL_CFG g) F.VSEL_CFG_REFUSED 0 else s).vselMask g = s.vselMask g := by
    split
    · exact State.f_setF_field _ _ (by decide) (by decide) (.inl (by decide))
    · rfl
  refine ⟨fun h => ⟨?_, ?_⟩, fun h => ⟨?_, ?_⟩⟩
  · rw [State.vselWritten, h, if_neg Bool.false_ne_true, State.vselMask, State.f_setF_same _ _ _ _ (by decide)]
    exact Nat.mod_eq_of_lt (getBits_lt v 8 8 (by decide))
  · rw [State.vselWritten, h, if_neg Bool.false_ne_true, State.f_setF_field _ _ (by decide) (by decide) (.inl (by decide)),
      State.f_setF_same _ _ _ _ (by decide)]
    exact Nat.mod_eq_of_lt (getBits_lt v 0 1 (by decide))
  · rw [State.vselWritten, h, if_pos rfl, State.vselMask, State.f_hwSet_field _ _ (by decide) (by decide) (.inl (by decide)),
      State.f_setF_field _ _ (by decide) (by decide) (.inr (by decide)), ← State.vselMask, hfirst]
  · rw [State.vselWritten, h, if_pos rfl, State.flag_hwSet_one _ _ (by decide) (by decide)]

/-- A write of VSEL_CFG leaves what it wrote once the pins are taken. -/
theorem State.writeVselCfg_leaves (s : State) (g : Fin 2) (v : Word) : (s.writeVselCfg g v).raised = s.raised ∧
    (s.maskBad g (getBits v 8 8) = false → (s.writeVselCfg g v).vselMask g = getBits v 8 8 ∧
      (s.writeVselCfg g v).f (R.VSEL_CFG g) F.VSEL_CFG_EN = getBits v 0 1) ∧
    (s.maskBad g (getBits v 8 8) = true → (s.writeVselCfg g v).vselMask g = s.vselMask g ∧
      (s.writeVselCfg g v).flag (R.VSEL_CFG g) F.VSEL_CFG_REFUSED = true) := by
  have hfld {fld : Fld} (h : fld.lo + fld.w ≤ 32) (hp : fld.lo + fld.w ≤ 16 ∨ 23 ≤ fld.lo) :
      (s.writeVselCfg g v).f (R.VSEL_CFG g) fld = (s.vselWritten g v).f (R.VSEL_CFG g) fld := by
    rw [s.writeVselCfg_eq, State.f, State.showVsel_rd, ← State.f, State.takePins_field _ _ h hp]
  obtain ⟨hgood, hbad⟩ := s.vselWritten_mask g v
  refine ⟨?_, fun h => ?_, fun h => ?_⟩
  · rw [s.writeVselCfg_eq, State.showVsel_raised, State.takePins_raised, State.vselWritten_raised]
  · rw [State.vselMask, hfld (by decide) (.inl (by decide)), hfld (by decide) (.inl (by decide))]
    exact hgood h
  · rw [State.vselMask, State.flag, hfld (by decide) (.inl (by decide)), hfld (by decide) (.inr (by decide))]
    exact hbad h

/-! The setpoints. -/

/-- A setpoint may not be taken by a group (R136). -/
theorem setpoint_bad_iff (s : State) (g mv : Nat) :
    ((maskRails (s.vselMask g)).any (fun r => decide (mv < s.nodeVmin r ∨ s.nodeVmax r < mv)) || s.maskOrdered (s.vselMask g)) = true ↔
      s.maskOrdered (s.vselMask g) = true ∨ ∃ r ∈ maskRails (s.vselMask g), mv < s.nodeVmin r ∨ s.nodeVmax r < mv := by
  simp only [Bool.or_eq_true, List.any_eq_true, decide_eq_true_eq]
  exact or_comm

/-- A write that no later path of the cycle's order overrides is taken as it is (R437). -/
theorem State.inOrder_of_last {s : State} {p : Path} {off : Nat} (h : s.laterWrote p off = false) (cur v : Word) (g : Word → State → State) :
    s.inOrder p off cur v g = g v (s.noteEvent (20 + pathRank p) off) := by
  rw [State.inOrder, h]
  rfl

/-- The levels of a group's pins noted. -/
def State.pinsNoted (s : State) (g pat : Nat) : State := { s with sys := { s.sys with vselPins := s.sys.vselPins.set g pat } }

/-- Settles O29: stable pins select the setpoint, and a mask or a setpoint is taken or refused by its members. -/
theorem pinPatternsSelectTheSetpoint : Obligations.PinPatternsSelectTheSetpoint := by
  unfold Obligations.PinPatternsSelectTheSetpoint
  intro s p g v hl
  refine ⟨fun pat hg hsoft => ?_, fun hlater => ?_, fun k hlater => ?_, fun r hlater => ?_⟩
  · have htake : (s.pinsNoted g pat).takePins g = (s.pinsNoted g pat).pinsTaken g pat := by
      rw [State.takePins_of_none (s := s.pinsNoted g pat) hsoft]
      have hpins : (s.sys.vselPins.set g pat).getD g 0 = pat := by
        rw [List.getD_eq_getElem?_getD, List.getElem?_set_self hg, Option.getD_some]
      exact congrArg _ hpins
    have hexec := exec_powered (c := .vselPattern g pat) (g := fun s => (s.pinsNoted g pat).takePins g) hl rfl
    have hquiet : ((s.pinsNoted g pat).pinsTaken g pat).raised = [] := ((s.pinsNoted g pat).pinsTaken_raised g pat).trans hl.2
    rw [htake, State.settle_quiet hquiet] at hexec
    obtain ⟨hshow, hactive⟩ := (s.pinsNoted g pat).pinsTaken_shows g pat.isLt
    exact ⟨_, hexec, hshow, hactive, (s.pinsNoted g pat).pinsTaken_sameRegs g pat⟩
  · have hexec := exec_powered (c := .vselCfgWrite p g v)
      (g := fun s => s.inOrder p (R.VSEL_CFG g) (s.rd (R.VSEL_CFG g)) v fun v s => s.writeVselCfg g v) hl rfl
    obtain ⟨hraised, hgood, hrefused⟩ := (s.noteEvent (20 + pathRank p) (R.VSEL_CFG g)).writeVselCfg_leaves g v
    rw [State.inOrder_of_last hlater, State.settle_quiet (hraised.trans hl.2)] at hexec
    have hiff : (s.noteEvent (20 + pathRank p) (R.VSEL_CFG g)).maskBad g (getBits v 8 8) = true ↔ _ := s.maskBad_iff g (getBits v 8 8)
    exact ⟨fun h => ⟨_, hexec, hgood (Bool.eq_false_iff.2 (mt hiff.1 h))⟩, fun h => ⟨_, hexec, hrefused (hiff.2 h)⟩⟩
  · have hexec := exec_powered (c := .vselSpWrite p g k v)
      (g := fun s => s.inOrder p (R.VSEL_SP g k) (s.rd (R.VSEL_SP g k)) v fun v s => s.writeVselSp g k v) hl rfl
    have hnote := (State.onlyRegs_refl hl.2 [R.VSEL_CFG g]).noteEvent (20 + pathRank p) (R.VSEL_SP g k)
    have hnote' := (State.onlyRegs_refl hl.2 [R.VSEL_SP g k]).noteEvent (20 + pathRank p) (R.VSEL_SP g k)
    have hiff := setpoint_bad_iff (s.noteEvent (20 + pathRank p) (R.VSEL_SP g k)) g (getBits v 0 16)
    rw [State.inOrder_of_last hlater, State.writeVselSp] at hexec
    refine ⟨fun h => ?_, fun h => ?_⟩
    · have honly := hnote'.wr List.mem_cons_self (v &&& 0x00FFFFFF#32)
      rw [if_neg (mt hiff.1 h), State.settle_quiet honly.raised] at hexec
      exact ⟨_, hexec, State.rd_wr_same _ _ _, honly⟩
    · have honly := hnote.hwSet List.mem_cons_self F.VSEL_CFG_REFUSED 1
      rw [if_pos (hiff.2 h), State.settle_quiet honly.raised] at hexec
      exact ⟨_, hexec, State.flag_hwSet_one _ _ (by decide) (by decide), honly⟩
  · have hexec := exec_powered (c := .railSpWrite p r v)
      (g := fun s => s.inOrder p (R.RAIL_SP r) (s.rd (R.RAIL_SP r)) v fun v s => s.writeRailSp r v) hl rfl
    have hnote := (State.onlyRegs_refl hl.2 [R.RAIL_SP r]).noteEvent (20 + pathRank p) (R.RAIL_SP r)
    have hnote' := (State.onlyRegs_refl hl.2 []).noteEvent (20 + pathRank p) (R.RAIL_SP r)
    rw [State.inOrder_of_last hlater, State.writeRailSp] at hexec
    refine ⟨fun hd hmin hmax => ?_, fun h => ?_⟩
    · have hok : (s.noteEvent (20 + pathRank p) (R.RAIL_SP r)).declared r = true ∧
          (s.noteEvent (20 + pathRank p) (R.RAIL_SP r)).nodeVmin r ≤ getBits v 0 16 ∧
          getBits v 0 16 ≤ (s.noteEvent (20 + pathRank p) (R.RAIL_SP r)).nodeVmax r := ⟨hd, hmin, hmax⟩
      have honly := hnote.setF List.mem_cons_self F.RAIL_SP_DEF_SP (getBits v 0 16)
      rw [if_pos hok, State.settle_quiet honly.raised] at hexec
      refine ⟨_, hexec, ?_, honly⟩
      rw [State.f_setF_same _ _ _ _ (by decide)]
      exact Nat.mod_eq_of_lt (getBits_lt v 0 16 (by decide))
    · have hno : ¬ ((s.noteEvent (20 + pathRank p) (R.RAIL_SP r)).declared r = true ∧
          (s.noteEvent (20 + pathRank p) (R.RAIL_SP r)).nodeVmin r ≤ getBits v 0 16 ∧
          getBits v 0 16 ≤ (s.noteEvent (20 + pathRank p) (R.RAIL_SP r)).nodeVmax r) := by
        rintro ⟨hd, hmin, hmax⟩
        rcases h with h | h | h
        · exact Bool.false_ne_true (h.symm.trans hd)
        · exact absurd hmin (Nat.not_le.2 h)
        · exact absurd hmax (Nat.not_le.2 h)
      rw [if_neg hno, State.settle_quiet hnote'.raised] at hexec
      exact ⟨_, hexec, hnote'⟩

end Sys2Proof.Machine
end

section
/-! Supplies: their registers, and the voltage of a supply (R142, R144). -/

namespace Sys2Proof.Machine

/-! The registers of supplies and switches. -/

theorem supReg_of_lt {x : Nat} (h : x < 3) : supReg x = R.INPUT_STATUS x := if_pos h

theorem supReg_of_le {x : Nat} (h : ¬ x < 3) : supReg x = R.PORT_STATUS (x - 3) := if_neg h

theorem supReg_ne {x y : Nat} (h : x ≠ y) : supReg x ≠ supReg y := by
  unfold supReg
  simp only [R.INPUT_STATUS, R.PORT_STATUS]
  split_ifs
  all_goals omega

theorem supReg_ne_pswStatus (x w : Nat) : supReg x ≠ R.PSW_STATUS w := by
  unfold supReg
  simp only [R.INPUT_STATUS, R.PORT_STATUS, R.PSW_STATUS]
  split_ifs
  all_goals omega

theorem State.supState_congr {s t : State} {x : Nat} (h : t.rd (supReg x) = s.rd (supReg x)) : t.supState x = s.supState x := by
  unfold State.supState State.f
  unfold supReg at h
  split_ifs at h ⊢
  · rw [h]
  · rw [h]

theorem State.setSupState_supState (s : State) (x : Nat) {st : Nat} (h : st < 8) : (s.setSupState x st).supState x = st := by
  unfold State.setSupState State.supState
  by_cases hx : x < 3
  · rw [if_pos hx, if_pos hx, State.f_setF_same _ _ _ _ (by decide)]
    exact Nat.mod_eq_of_lt h
  · rw [if_neg hx, if_neg hx, State.f_setF_same _ _ _ _ (by decide)]
    exact Nat.mod_eq_of_lt h

theorem State.setSupState_supState_other (s : State) {x y : Nat} (st : Nat) (h : x ≠ y) : (s.setSupState y st).supState x = s.supState x :=
  State.supState_congr (s.setSupState_sameRegs y st _ (by rw [List.mem_singleton]; exact supReg_ne h))

/-- The other fields of a supply's register are left. -/
theorem State.setSupState_supV (s : State) (x st : Nat) : (s.setSupState x st).supV x = s.supV x := by
  unfold State.setSupState State.supV
  by_cases hx : x < 3
  · rw [if_pos hx, if_pos hx, if_pos hx, State.f_setF_field _ _ (by decide) (by decide) (.inr (by decide))]
    split
    · rfl
    · rw [State.f, State.f, s.noteIdle_rd]
  · rw [if_neg hx, if_neg hx, if_neg hx]
    exact State.f_setF_reg _ _ _ _ (by simp only [R.PORT_VBUS, R.PORT_STATUS]; omega)

theorem State.setSupState_pswClosed (s : State) (x st w : Nat) : (s.setSupState x st).pswClosed w = s.pswClosed w :=
  State.pswClosed_congr (s.setSupState_sameRegs x st _ (by rw [List.mem_singleton]; exact (supReg_ne_pswStatus x w).symm))

theorem State.supState_setSupply (s : State) (x y : Nat) (r : SupplyRt) : (s.setSupply y r).supState x = s.supState x := rfl

/-! The voltage of a supply. -/

/-- What a supply's voltage shows and notes: its register, the times of its port, and since when it has been beyond its limits. -/
structure State.Measured (s t : State) (x : Nat) : Prop where
  frame : t = { s with regs := t.regs, ports := t.ports, supplies := t.supplies }
  state : t.supState x = s.supState x
  regs : ∀ o, o ≠ R.INPUT_STATUS x → o ≠ R.PORT_VBUS (x - 3) → t.rd o = s.rd o
  port : ∀ n, (t.port n).lossMv = (s.port n).lossMv ∧ (t.port n).budget = (s.port n).budget ∧ (t.port n).hardRecov = (s.port n).hardRecov ∧
    (t.port n).needContract = (s.port n).needContract
  supply : ∃ below above, t.supply x = { s.supply x with below := below, above := above }

theorem State.portWindows_port (s : State) (n mv k : Nat) : ((s.portWindows n mv).port k).lossMv = (s.port k).lossMv ∧
    ((s.portWindows n mv).port k).budget = (s.port k).budget ∧ ((s.portWindows n mv).port k).hardRecov = (s.port k).hardRecov ∧
    ((s.portWindows n mv).port k).needContract = (s.port k).needContract := by
  by_cases h : k = n
  · subst h
    have hport : (s.portWindows k mv).port k = _ := tabGet_set_same _ _ _ _
    rw [hport]
    exact ⟨rfl, rfl, rfl, rfl⟩
  · have hport : (s.portWindows n mv).port k = s.port k := tabGet_set_other _ _ _ h
    rw [hport]
    exact ⟨rfl, rfl, rfl, rfl⟩

theorem State.showSupV_rd (s : State) (x mv : Nat) {o : Nat} (hi : o ≠ R.INPUT_STATUS x) (hp : o ≠ R.PORT_VBUS (x - 3)) :
    (s.showSupV x mv).rd o = s.rd o := by
  unfold State.showSupV
  split
  · exact State.rd_setF_other _ _ _ hi
  · exact State.rd_setF_other _ _ _ hp

theorem State.showSupV_supState (s : State) (x mv : Nat) : (s.showSupV x mv).supState x = s.supState x := by
  unfold State.showSupV State.supState
  by_cases hx : x < 3
  · rw [if_pos hx, if_pos hx, if_pos hx]
    exact State.f_setF_field _ _ (by decide) (by decide) (.inl (by decide))
  · rw [if_neg hx, if_neg hx, if_neg hx]
    exact State.f_setF_reg _ _ _ _ (by simp only [R.PORT_STATUS, R.PORT_VBUS]; omega)

theorem State.showSupV_supV (s : State) (x : Nat) {mv : Nat} (h : mv < 65536) : (s.showSupV x mv).supV x = mv := by
  have hsat : sat 16 mv % 2 ^ 16 = mv := by
    rw [sat, Nat.min_eq_left (by omega)]
    omega
  unfold State.showSupV State.supV
  by_cases hx : x < 3
  · rw [if_pos hx, if_pos hx, State.f_setF_same _ _ _ _ (by decide)]
    exact hsat
  · rw [if_neg hx, if_neg hx, State.f_setF_same _ _ _ _ (by decide)]
    exact hsat

theorem State.showSupV_frame (s : State) (x mv : Nat) : s.showSupV x mv = { s with regs := (s.showSupV x mv).regs } := by
  unfold State.showSupV
  split
  · rfl
  · rfl

/-- A supply's voltage shown, and the times of its port moved by it. -/
def State.supVShown (s : State) (x mv : Nat) : State :=
  if x < 3 then s.showSupV x mv else (s.showSupV x mv).portWindows (x - 3) mv

theorem State.supVShown_frame (s : State) (x mv : Nat) :
    s.supVShown x mv = { s with regs := (s.showSupV x mv).regs, ports := (s.supVShown x mv).ports } := by
  unfold State.supVShown
  split
  · rw [s.showSupV_frame]
  · rw [State.portWindows, State.setPort, s.showSupV_frame]

/-- What `setSupV` notes of the limits of a supply. -/
theorem State.setSupV_eq (s : State) (x mv : Nat) : s.setSupV x mv = (s.supVShown x mv).setSupply x { (s.supVShown x mv).supply x with
    below := if (s.supVShown x mv).lossMv x ≤ mv then none else some (((s.supVShown x mv).supply x).below.getD (s.supVShown x mv).cyc)
    above := if 3 ≤ x ∨ mv ≤ (s.supVShown x mv).ovMv x then none
      else some (((s.supVShown x mv).supply x).above.getD (s.supVShown x mv).cyc) } := rfl

theorem State.setSupV_regs (s : State) (x mv : Nat) : (s.setSupV x mv).regs = (s.showSupV x mv).regs := by
  rw [s.setSupV_eq, State.setSupply_regs, s.supVShown_frame]

theorem State.setSupV_rd (s : State) (x mv o : Nat) : (s.setSupV x mv).rd o = (s.showSupV x mv).rd o := by
  rw [State.rd, s.setSupV_regs, State.rd]

theorem State.setSupV_supV (s : State) (x : Nat) {mv : Nat} (h : mv < 65536) : (s.setSupV x mv).supV x = mv := by
  have hv := s.showSupV_supV x h
  unfold State.supV State.f at hv ⊢
  rw [State.setSupV_rd, State.setSupV_rd]
  exact hv

theorem State.supVShown_port (s : State) (x mv n : Nat) : ((s.supVShown x mv).port n).lossMv = (s.port n).lossMv ∧
    ((s.supVShown x mv).port n).budget = (s.port n).budget ∧ ((s.supVShown x mv).port n).hardRecov = (s.port n).hardRecov ∧
    ((s.supVShown x mv).port n).needContract = (s.port n).needContract := by
  have hshow (n : Nat) : (s.showSupV x mv).port n = s.port n := by rw [State.port, s.showSupV_frame, State.port]
  unfold State.supVShown
  split
  · rw [hshow]
    exact ⟨rfl, rfl, rfl, rfl⟩
  · have hport := (s.showSupV x mv).portWindows_port (x - 3) mv n
    rw [hshow] at hport
    exact hport

theorem State.supVShown_supply (s : State) (x mv y : Nat) : (s.supVShown x mv).supply y = s.supply y := by
  rw [State.supply, s.supVShown_frame, State.supply]

theorem State.setSupV_measured (s : State) (x mv : Nat) : s.Measured (s.setSupV x mv) x where
  frame := by
    rw [s.setSupV_eq, State.setSupply, s.supVShown_frame]
  state := (State.supState_congr (s.setSupV_rd x mv _)).trans (s.showSupV_supState x mv)
  regs o hi hp := by rw [s.setSupV_rd, s.showSupV_rd x mv hi hp]
  port n := by
    have hport : (s.setSupV x mv).port n = (s.supVShown x mv).port n := rfl
    rw [hport]
    exact s.supVShown_port x mv n
  supply := by
    rw [s.setSupV_eq, State.supply_setSupply, s.supVShown_supply]
    exact ⟨_, _, rfl⟩

/-! What the range of a supply rests on. -/

section
variable {s t : State} {x : Nat} (h : s.Measured t x)
include h

theorem State.Measured.lossMv : t.lossMv x = s.lossMv x := by
  unfold State.lossMv State.f
  split
  · rw [h.regs _ (by simp only [R.INPUT_VLIM, R.INPUT_STATUS]; omega) (by simp only [R.INPUT_VLIM, R.PORT_VBUS]; omega)]
  · exact (h.port _).1

theorem State.Measured.ovMv : t.ovMv x = s.ovMv x := by
  unfold State.ovMv State.f
  rw [h.regs]
  · simp only [R.INPUT_VLIM, R.INPUT_STATUS]
    omega
  · simp only [R.INPUT_VLIM, R.PORT_VBUS]
    omega

theorem State.Measured.fab : t.fab = s.fab := by rw [h.frame]

theorem State.Measured.supInRange (v : Nat) : t.supInRange x v = s.supInRange x v := by
  unfold State.supInRange State.declared State.nodeVmin State.nodeVmax State.fabF
  rw [h.fab, h.ovMv, h.lossMv]

theorem State.Measured.supEnabled : t.supEnabled x = s.supEnabled x := by
  obtain ⟨-, hbudget, hhard, hneed⟩ := h.port (x - 3)
  unfold State.supEnabled State.flag State.f
  rw [hbudget, hhard, hneed]
  split
  · rw [h.regs _ (by simp only [R.INPUT_CFG, R.INPUT_STATUS]; omega) (by simp only [R.INPUT_CFG, R.PORT_VBUS]; omega)]
  · rw [h.regs _ (by simp only [R.PORT_STATUS, R.INPUT_STATUS]; omega) (by simp only [R.PORT_STATUS, R.PORT_VBUS]; omega)]

theorem State.Measured.raised : t.raised = s.raised := by rw [h.frame]

end

/-- Since when a supply has been below its loss threshold. -/
theorem State.setSupV_below {s : State} {x mv : Nat} (h : mv < s.lossMv x) :
    ((s.setSupV x mv).supply x).below = some ((s.supply x).below.getD s.cyc) := by
  have hloss : (s.supVShown x mv).lossMv x = s.lossMv x := (s.setSupV_measured x mv).lossMv
  have hcyc : (s.supVShown x mv).cyc = s.cyc := by rw [s.supVShown_frame]
  rw [s.setSupV_eq, State.supply_setSupply, hloss, hcyc, s.supVShown_supply, if_neg (Nat.not_le.2 h)]

/-- Since when an input has been above its over-voltage limit. -/
theorem State.setSupV_above {s : State} {x mv : Nat} (hx : x < 3) (h : s.ovMv x < mv) :
    ((s.setSupV x mv).supply x).above = some ((s.supply x).above.getD s.cyc) := by
  have hov : (s.supVShown x mv).ovMv x = s.ovMv x := (s.setSupV_measured x mv).ovMv
  have hcyc : (s.supVShown x mv).cyc = s.cyc := by rw [s.supVShown_frame]
  have hno : ¬ (3 ≤ x ∨ mv ≤ s.ovMv x) := by omega
  rw [s.setSupV_eq, State.supply_setSupply, hov, hcyc, s.supVShown_supply, if_neg hno]

end Sys2Proof.Machine
end

section
/-! A supply qualifies, closes its switch and is ONLINE (R142, R144, R150). -/

namespace Sys2Proof.Machine

/-! Qualification. -/

/-- A supply that begins to qualify. -/
def State.qualifying (s : State) (x : Nat) : State :=
  (s.setSupState x supQualify).setSupply x { s.supply x with ready := false, qualAt := s.cyc }

theorem State.startQualify_of_fit {s : State} {x : Nat} (hst : s.supState x = supAbsent) (hen : s.supEnabled x = true)
    (hr : s.supInRange x (s.supV x) = true) : s.startQualify x = s.qualifying x := by
  rw [State.startQualify, if_pos ⟨hst, hen, hr⟩]
  rfl

theorem State.qualifying_leaves (s : State) (x : Nat) : (s.qualifying x).supState x = supQualify ∧ (s.qualifying x).supV x = s.supV x ∧
    ((s.qualifying x).supply x).qualAt = s.cyc ∧ (s.qualifying x).raised = s.raised := by
  refine ⟨s.setSupState_supState x (by decide), s.setSupState_supV x _, ?_, ?_⟩
  · rw [State.qualifying, State.supply_setSupply]
  · rw [State.qualifying, State.setSupply_raised, s.setSupState_frame]

theorem exec_inputInRange {s : State} {x : Supply} {mv : Nat} (hl : s.live) (hmv : mv < 65536) (hst : s.supState (supNo x) = supAbsent)
    (hen : s.supEnabled (supNo x) = true) (hr : s.supInRange (supNo x) mv = true) :
    exec (.inputInRange x mv) s = .next ((s.setSupV (supNo x) mv).qualifying (supNo x)) := by
  have hm := s.setSupV_measured (supNo x) mv
  have hstate : (s.setSupV (supNo x) mv).supState (supNo x) = supAbsent := hm.state.trans hst
  have hrecover : (s.setSupV (supNo x) mv).supRecover (supNo x) = s.setSupV (supNo x) mv := by
    rw [State.supRecover, hstate, if_neg (by simp [supAbsent, supFault])]
  have hexec := exec_powered (c := .inputInRange x mv) (g := fun s => ((s.setSupV (supNo x) mv).supRecover (supNo x)).startQualify (supNo x)) hl rfl
  rw [hrecover, State.startQualify_of_fit hstate (hm.supEnabled.trans hen)
    (by rw [State.setSupV_supV _ _ hmv]; exact (hm.supInRange mv).trans hr),
    State.settle_quiet (((State.qualifying_leaves _ _).2.2.2).trans (hm.raised.trans hl.2))] at hexec
  exact hexec

/-- A supply that is ABSENT again. -/
def State.supplyAbsent (s : State) (x : Nat) : State :=
  (s.setSupState x supAbsent).setSupply x { s.supply x with ready := false }

theorem State.supplyAbsent_leaves (s : State) (x : Nat) : (s.supplyAbsent x).supState x = supAbsent ∧ (s.supplyAbsent x).supV x = s.supV x ∧
    (s.supplyAbsent x).raised = s.raised := by
  refine ⟨s.setSupState_supState x (by decide), s.setSupState_supV x _, ?_⟩
  rw [State.supplyAbsent, State.setSupply_raised, s.setSupState_frame]

theorem exec_inputOutOfRange {s : State} {x : Supply} {mv : Nat} (hl : s.live) (hst : s.supState (supNo x) = supQualify)
    (hr : s.supInRange (supNo x) mv = false) :
    exec (.inputOutOfRange x mv) s = .next ((s.setSupV (supNo x) mv).supplyAbsent (supNo x)) := by
  have hm := s.setSupV_measured (supNo x) mv
  have hexec := exec_powered (c := .inputOutOfRange x mv) (g := fun s =>
    if (s.setSupV (supNo x) mv).supState (supNo x) = supQualify ∧ ¬ (s.setSupV (supNo x) mv).supInRange (supNo x) mv = true then
      (s.setSupV (supNo x) mv).supplyAbsent (supNo x) else s.setSupV (supNo x) mv) hl rfl
  rw [if_pos ⟨hm.state.trans hst, by rw [hm.supInRange, hr]; decide⟩,
    State.settle_quiet (((State.supplyAbsent_leaves _ _).2.2).trans (hm.raised.trans hl.2))] at hexec
  exact hexec

/-! The SERIES switch of a qualified supply closes. -/

/-- A step of a loop that reaches its end, on states that the whole loop keeps. -/
theorem State.each_reaches {P Q : State → Prop} {g : Nat → State → State} {n : Nat} {l : List Nat} (hn : n ∈ l)
    (hset : ∀ u, Q u → P (g n u)) (hkeep : ∀ k u, Q u → Q (g k u)) (hstay : ∀ k ≠ n, ∀ u, Q u → P u → P (g k u)) {s : State} (hs : Q s) :
    P (s.each l g) := by
  have hend (m : List Nat) : ∀ u, Q u → P u → P (u.each m g) := by
    induction m with
    | nil => exact fun _ _ h => h
    | cons k m ih =>
      refine fun u hq hp => ih _ (hkeep k u hq) ?_
      by_cases hk : k = n
      · rw [hk]
        exact hset u hq
      · exact hstay k hk u hq hp
  induction l generalizing s with
  | nil => cases hn
  | cons k m ih =>
    rcases List.mem_cons.1 hn with rfl | hm
    · exact hend m _ (hkeep _ _ hs) (hset s hs)
    · exact ih hm (hkeep k s hs)

/-- What the closing of supplies leaves as it was: all but registers and the records of supplies and switches, and there what holds a switch. -/
structure State.Closes (s t : State) : Prop where
  frame : t = { s with regs := t.regs, sys := t.sys, supplies := t.supplies, psws := t.psws }
  fabric : t.rd R.FAB_STATUS = s.rd R.FAB_STATUS
  held : ∀ w, (t.psw w).hold = (s.psw w).hold ∧ (t.psw w).egressTrip = (s.psw w).egressTrip

theorem State.Closes.refl (s : State) : s.Closes s := ⟨rfl, rfl, fun _ => ⟨rfl, rfl⟩⟩

theorem State.Closes.trans {s t u : State} (h : s.Closes t) (h' : t.Closes u) : s.Closes u where
  frame := by rw [h'.frame, h.frame]
  fabric := h'.fabric.trans h.fabric
  held w := ⟨(h'.held w).1.trans (h.held w).1, (h'.held w).2.trans (h.held w).2⟩

theorem State.setSupState_closes (s : State) (x st : Nat) : s.Closes (s.setSupState x st) where
  frame := by rw [s.setSupState_frame]
  fabric := s.setSupState_sameRegs x st _ (by
    unfold supReg
    simp only [R.FAB_STATUS, R.INPUT_STATUS, R.PORT_STATUS, List.mem_singleton]
    split <;> omega)
  held w := by
    have hpsw : (s.setSupState x st).psw w = s.psw w := by rw [State.psw, s.setSupState_frame, State.psw]
    rw [hpsw]
    exact ⟨rfl, rfl⟩

theorem State.setPsw_closes (s : State) (w : Nat) {r : PswRt} (hh : r.hold = (s.psw w).hold) (he : r.egressTrip = (s.psw w).egressTrip) :
    s.Closes (s.setPsw w r) where
  frame := rfl
  fabric := rfl
  held k := by
    by_cases hk : k = w
    · rw [hk, State.psw_setPsw]
      exact ⟨hh, he⟩
    · rw [State.psw_setPsw_ne _ _ hk]
      exact ⟨rfl, rfl⟩

theorem State.closeSwitch_closes (s : State) (w : Nat) : s.Closes (s.closeSwitch w) where
  frame := by rw [s.closeSwitch_frame]
  fabric := s.closeSwitch_sameRegs w _ (by simp only [R.FAB_STATUS, R.PSW_STATUS, List.mem_singleton]; omega)
  held k := by
    unfold State.closeSwitch
    split
    · exact ⟨rfl, rfl⟩
    · by_cases hk : k = w
      · rw [hk, State.psw_setPsw]
        exact ⟨rfl, rfl⟩
      · rw [State.psw_setPsw_ne _ _ hk]
        exact ⟨rfl, rfl⟩

/-- A supply whose SERIES switch closes. -/
def State.closingBegun (s : State) (x : Nat) : State :=
  (s.setSupState x supClosing).setSupply x { s.supply x with ready := false, closeAt := s.cyc }

/-- A supply and its switch, closing. -/
def State.seriesClosing (s : State) (x w : Nat) : State :=
  ((s.closingBegun x).closeSwitch w).setPsw w { (s.closingBegun x).psw w with want := true, forced := false }

theorem State.startClosing_cases (s : State) (x : Nat) : s.startClosing x = s ∨ s.startClosing x = s.setSupply x { s.supply x with ready := true } ∨
    ∃ w, s.startClosing x = s.seriesClosing x w := by
  unfold State.startClosing
  split
  next w _ =>
    split
    · exact .inr (.inl rfl)
    · exact .inr (.inr ⟨w, rfl⟩)
  · exact .inl rfl

theorem State.setSupply_closes (s : State) (x : Nat) (r : SupplyRt) : s.Closes (s.setSupply x r) := ⟨rfl, rfl, fun _ => ⟨rfl, rfl⟩⟩

theorem State.closingBegun_closes (s : State) (x : Nat) : s.Closes (s.closingBegun x) :=
  (s.setSupState_closes x supClosing).trans (State.setSupply_closes _ _ _)

theorem State.seriesClosing_closes (s : State) (x w : Nat) : s.Closes (s.seriesClosing x w) :=
  have hclose := (s.closingBegun x).closeSwitch_closes w
  ((s.closingBegun_closes x).trans hclose).trans (State.setPsw_closes _ w (hclose.held w).1.symm (hclose.held w).2.symm)

theorem State.startClosing_closes (s : State) (x : Nat) : s.Closes (s.startClosing x) := by
  rcases s.startClosing_cases x with h | h | ⟨w, h⟩
  · rw [h]
    exact .refl s
  · rw [h]
    exact s.setSupply_closes x _
  · rw [h]
    exact s.seriesClosing_closes x w

theorem State.seriesClosing_supState (s : State) (x w : Nat) : (s.seriesClosing x w).supState x = supClosing := by
  have hne : supReg x ∉ [R.PSW_STATUS w] := by
    rw [List.mem_singleton]
    exact supReg_ne_pswStatus x w
  exact (State.supState_congr ((s.closingBegun x).closeSwitch_sameRegs w _ hne)).trans (s.setSupState_supState x (by decide))

theorem State.seriesClosing_supState_other (s : State) {x y : Nat} (w : Nat) (h : x ≠ y) :
    (s.seriesClosing y w).supState x = s.supState x := by
  have hne : supReg x ∉ [R.PSW_STATUS w] := by
    rw [List.mem_singleton]
    exact supReg_ne_pswStatus x w
  exact (State.supState_congr ((s.closingBegun y).closeSwitch_sameRegs w _ hne)).trans (s.setSupState_supState_other _ h)

/-- A switch that is closed stays closed as others close. -/
theorem State.seriesClosing_pswClosed (s : State) (x k : Nat) {w : Fin 12} (h : k = w.val ∨ s.pswClosed w = true) :
    (s.seriesClosing x k).pswClosed w = true := by
  have hset (r : PswRt) (u : State) : (u.setPsw k r).pswClosed w = u.pswClosed w := rfl
  rw [State.seriesClosing, hset]
  by_cases hk : k = w.val
  · rw [hk]
    exact State.closeSwitch_pswClosed _ _
  · rw [State.closeSwitch_pswClosed_other _ hk]
    exact (s.setSupState_pswClosed x _ w).trans (h.resolve_left hk)

/-- What lets a switch close is left by the closing of supplies. -/
theorem State.Closes.mayClose {s t : State} (h : s.Closes t) (w : Nat) : t.mayClose w = s.mayClose w := by
  obtain ⟨hhold, htrip⟩ := h.held w
  have hheld : t.heldSwitch w = s.heldSwitch w := by
    rw [h.frame]
    rfl
  have hsafe : t.anySafe = s.anySafe := by
    rw [h.frame]
    rfl
  have hfab : t.heldFabric = s.heldFabric := by
    rw [h.frame]
    rfl
  unfold State.mayClose State.fabricServes State.f
  rw [hhold, htrip, hheld, hsafe, hfab, h.fabric]

theorem supOrder_mem (s : State) {x : Nat} (h : x < 6) : x ∈ s.supOrder := by
  have hlist : ∀ y < 6, y ∈ [3, 4, 5, 0, 1, 2] := by decide
  have hprio : s.supPrio x < 8 := by
    unfold State.supPrio bitsOf
    exact Nat.mod_lt _ (by decide)
  exact List.mem_flatMap.2 ⟨s.supPrio x, List.mem_range.2 hprio, List.mem_filter.2 ⟨hlist x h, beq_self_eq_true _⟩⟩

theorem supNo_lt (x : Supply) : supNo x < 6 := by
  cases x with
  | input n => simp only [supNo]; omega
  | port n => simp only [supNo]; omega

/-- The supplies that have qualified begin to close. -/
def State.qualifiedClose (s : State) : State := s.each (s.supOrder.filter s.qualified) (fun x s => s.startClosing x)

theorem State.qualifiedClose_closes (s : State) : s.Closes s.qualifiedClose :=
  State.each_invariant (P := fun u => s.Closes u) (g := fun x s => s.startClosing x) (fun k u hu => hu.trans (u.startClosing_closes k)) _ (.refl s)

theorem State.startClosing_of_may {s : State} {x w : Nat} (hw : s.seriesOf (supNode x) = some w) (hmay : s.mayClose w = true)
    (hsafe : s.safeOn = false) : s.startClosing x = s.seriesClosing x w := by
  have hany : s.anySafe = false := by
    simp only [State.mayClose, Bool.and_eq_true, Bool.not_eq_true'] at hmay
    exact hmay.1.2
  rw [State.startClosing, hw]
  dsimp only
  rw [hany, hsafe, hmay, if_neg (by decide)]
  rfl

theorem State.qualifiedClose_leaves {s : State} {x : Nat} {w : Fin 12} (hx : x < 6) (hq : s.qualified x = true)
    (hw : s.seriesOf (supNode x) = some w.val) (hmay : s.mayClose w = true) (hsafe : s.safeOn = false) :
    s.qualifiedClose.supState x = supClosing ∧ s.qualifiedClose.pswClosed w = true := by
  refine State.each_reaches (P := fun u => u.supState x = supClosing ∧ u.pswClosed w = true) (Q := fun u => s.Closes u)
    (g := fun x s => s.startClosing x) (List.mem_filter.2 ⟨supOrder_mem s hx, hq⟩) (fun u hu => ?_)
    (fun k u hu => hu.trans (u.startClosing_closes k)) (fun k hk u hu hp => ?_) (.refl s)
  · have hfab : u.fab = s.fab := by rw [hu.frame]
    have hoff : u.safeOn = s.safeOn := by rw [hu.frame]
    rw [State.startClosing_of_may ((State.seriesOf_congr hfab _).trans hw) ((hu.mayClose w).trans hmay) (hoff.trans hsafe)]
    exact ⟨u.seriesClosing_supState x w, u.seriesClosing_pswClosed x w (.inl rfl)⟩
  · rcases u.startClosing_cases k with h | h | ⟨v, h⟩
    · rw [h]
      exact hp
    · rw [h]
      exact hp
    · rw [h]
      exact ⟨(u.seriesClosing_supState_other v hk.symm).trans hp.1, u.seriesClosing_pswClosed k v (.inr hp.2)⟩

theorem exec_inputQualifyDone {s : State} {x : Supply} (hl : s.live) (hq : s.qualified (supNo x) = true) :
    exec (.inputQualifyDone x) s = .next s.qualifiedClose := by
  have hexec := exec_powered (c := .inputQualifyDone x) (g := fun s => if s.qualified (supNo x) then s.qualifiedClose else s) hl rfl
  have hquiet : s.qualifiedClose.raised = [] := by
    rw [s.qualifiedClose_closes.frame]
    exact hl.2
  rw [if_pos hq, State.settle_quiet hquiet] at hexec
  exact hexec

theorem State.qualified_of {s : State} {x : Nat} (hst : s.supState x = supQualify) (hready : (s.supply x).ready = false)
    (hr : s.supInRange x (s.supV x) = true) (hat : (s.supply x).qualAt + s.qualifyCycles ≤ s.cyc) : s.qualified x = true := by
  rw [State.qualified, hst, hready, hr, decide_eq_true hat]
  rfl

/-! GATE_OK, and its absence. -/

theorem State.mpptStart_frame (s : State) (online : Bool) :
    s.mpptStart online = { s with regs := (s.mpptStart online).regs, mppt := (s.mpptStart online).mppt } := by
  unfold State.mpptStart
  split
  · rw [State.setFloor_frame]
    rfl
  · rw [State.setVOp_frame]
    cases online
    · rfl
    · rfl

theorem State.mpptStart_rd (s : State) (online : Bool) {o : Nat} (hm : o ≠ R.INPUT_2_MPPT_STATUS) (hf : ∀ n, o ≠ R.STAGE_VFLOOR n) :
    (s.mpptStart online).rd o = s.rd o := by
  unfold State.mpptStart
  split
  · rw [State.setFloor_rd _ _ _ hf, State.rd_setF_other _ _ _ hm, State.rd_setF_other _ _ _ hm]
  · dsimp only
    rw [State.setVOp, State.setFloor_rd _ _ _ hf, State.rd_setF_other _ _ _ hm]
    have hmppt (m : MpptRt) (u : State) : ({ u with mppt := m } : State).rd o = u.rd o := rfl
    rw [hmppt, State.rd_setF_other _ _ _ hm]
    split
    · rw [State.rd_setF_other _ _ _ hm, State.rd_setF_other _ _ _ hm]
    · rw [State.rd_setF_other _ _ _ hm]

end Sys2Proof.Machine
end

section
/-! The hand-over of a source's rails (R156): what it leaves as it was. -/

namespace Sys2Proof.Machine

/-! The stages of the packs that stand by. -/

theorem State.hopsAt_send {s : State} {node : Nat} {h : Hop} (hm : h ∈ s.hopsAt node false) : s.stSend h.stage h.rev = h.far := by
  obtain ⟨n, -, hn⟩ := List.mem_flatMap.1 hm
  simp only [Bool.false_eq_true, if_false] at hn
  split at hn
  · cases hn
  · rcases List.mem_append.1 hn with hf | hr
    · split at hf
      · rw [List.mem_singleton.1 hf]
        rfl
      · cases hf
    · split at hr
      · rw [List.mem_singleton.1 hr]
        rfl
      · cases hr

/-- The first hop of a path comes from a rail, or from the path's end. -/
theorem State.pathsFrom_head {s : State} {fuel node : Nat} {seen : List Nat} {h : Hop} {l : List Hop}
    (hm : h :: l ∈ s.pathsFrom false fuel node seen) : h ∈ s.hopsAt node false ∧ (isRail h.far = true ∨ farNode (h :: l) = h.far) := by
  cases fuel with
  | zero => cases hm
  | succ fuel =>
    obtain ⟨k, hk, hp⟩ := List.mem_flatMap.1 hm
    split at hp
    · cases hp
    split at hp
    next hrail =>
      obtain ⟨q, -, hq⟩ := List.mem_map.1 hp
      obtain ⟨rfl, rfl⟩ := List.cons.inj hq
      exact ⟨hk, .inl hrail⟩
    split at hp
    · cases hp
    · obtain ⟨rfl, rfl⟩ := List.cons.inj (List.mem_singleton.1 hp)
      exact ⟨hk, .inr rfl⟩

/-- The stage by which a pack serves a rail draws from a rail or from the pack. -/
theorem State.packHop_send {s : State} {i r : Nat} {h : Hop} (hh : s.packHop i r = some h) :
    s.stSend h.stage h.rev < 8 ∨ s.stSend h.stage h.rev = 8 + i := by
  obtain ⟨q, hq, hhead⟩ := Option.bind_eq_some_iff.1 hh
  unfold State.packPath at hq
  split at hq
  next k hk =>
    obtain rfl : [k] = q := Option.some.inj hq
    obtain rfl : k = h := Option.some.inj hhead
    have hfar : k.far = 8 + i := by simpa using List.find?_some hk
    rw [State.hopsAt_send (List.mem_of_find?_eq_some hk)]
    exact .inr hfar
  next =>
    split at hq
    · cases q with
      | nil => cases hhead
      | cons k l =>
        obtain rfl : k = h := Option.some.inj hhead
        have hend : farNode (k :: l) = 8 + i := by simpa using List.find?_some hq
        obtain ⟨hhop, hfar⟩ := State.pathsFrom_head (List.mem_of_find?_eq_some hq)
        rw [State.hopsAt_send hhop]
        rcases hfar with hrail | hfar
        · exact .inl (of_decide_eq_true hrail)
        · exact .inr (hfar.symm.trans hend)
    · cases hq

theorem State.rankPacks_frame (s : State) (r base : Nat) (ceil : Nat → Nat → Nat) :
    s.rankPacks r base ceil = { s with stages := (s.rankPacks r base ceil).stages } := by
  unfold State.rankPacks
  dsimp only
  split
  · refine foldl_rel (R := fun t u => u = { t with stages := u.stages }) (fun _ => rfl) (fun h h' => by rw [h', h]) (fun u x => ?_) _ s
    split
    · rfl
    · rfl
  · refine foldl_rel (R := fun t u => u = { t with stages := u.stages }) (fun _ => rfl) (fun h h' => by rw [h', h]) (fun u x => ?_) _ s
    split
    · rfl
    · rfl

/-- A stage draws from a supply. -/
def State.drawsFrom (s : State) (n node : Nat) : Prop := s.stSend n (s.stageDir n) = node

/-- The ceilings of a hand-over go to stages of packs: a stage that draws from a supply keeps its ceiling of zero. -/
theorem State.fillHand_stageCeil {s : State} {n node : Nat} (r : Nat) (hd : s.drawsFrom n node) (hn : 12 ≤ node) (hz : s.stageCeil n = 0) :
    (s.fillHand r).stageCeil n = 0 := by
  unfold State.fillHand
  dsimp only
  rw [State.rankPacks_frame]
  refine List.foldlRecOn (motive := fun u : State => u = { s with regs := u.regs, stages := u.stages } ∧
    (∀ o, (∀ m, o ≠ R.STAGE_CEIL m) → u.rd o = s.rd o) ∧ u.stageCeil n = 0) _ _ ⟨rfl, fun _ _ => rfl, hz⟩ ?_ |>.2.2
  rintro u ⟨hu, hregs, hceil⟩ i hi
  split
  · exact ⟨hu, hregs, hceil⟩
  next h hh =>
    have hfour : ∀ k ∈ [0, 1, 2, 3], k < 4 := by decide
    have hi := hfour i (List.mem_filter.1 hi).1
    refine ⟨?_, fun o ho => ?_, ?_⟩
    · rw [hu]
      rfl
    · exact (State.rd_wrN_other _ _ (ho _)).trans (hregs o ho)
    · by_cases hs : h.stage = n
      · have hpath : s.packHop i r = u.packHop i r := by
          rw [hu]
          rfl
        have hsend := State.packHop_send (hpath.trans hh)
        have hdir : u.stageDir n = s.stageDir n := by
          unfold State.stageDir State.flag State.f
          rw [hregs _ fun m => by simp only [R.STAGE_STATUS, R.STAGE_CEIL]; omega]
        have hnot : ¬ ((u.setStage h.stage { u.stage h.stage with dirWant := h.rev }).stageDir h.stage == h.rev) = true := by
          intro hb
          have hb : u.stageDir n = h.rev := by
            rw [← hs]
            exact beq_iff_eq.1 hb
          unfold State.drawsFrom at hd
          rw [← hb, hdir, hs, hd] at hsend
          omega
        rw [if_neg hnot, State.stageCeil, hs, State.rdN_wrN_same]
        rfl
      · have hne : R.STAGE_CEIL n ≠ R.STAGE_CEIL h.stage := by
          simp only [R.STAGE_CEIL]
          omega
        rw [State.stageCeil, State.rdN, State.rd_wrN_other _ _ hne]
        exact hceil

/-! A rail handed over. -/

/-- The registers that the hand-over of rails may write. -/
def HandReg (o : Nat) : Prop :=
  (∃ m, o = R.STAGE_CEIL m) ∨ (∃ r, o = R.SUPPLY_STATUS r ∨ o = R.SUPPLY_XFER_LAST_LO r ∨ o = R.SUPPLY_XFER_LAST_HI r) ∨ o ∈ counterRegs 1

/-- `t` is `s` with rails handed over: registers of rails and of the store, and the records of stages and rails. -/
structure State.HandOnly (s t : State) : Prop where
  frame : t = { s with regs := t.regs, nvm := t.nvm, raised := t.raised, xfers := t.xfers, stages := t.stages }
  regs : ∀ o, ¬ HandReg o → t.rd o = s.rd o
  raised : s.raised ⊆ t.raised

theorem State.HandOnly.refl (s : State) : s.HandOnly s := ⟨rfl, fun _ _ => rfl, fun _ h => h⟩

theorem State.HandOnly.trans {s t u : State} (h : s.HandOnly t) (h' : t.HandOnly u) : s.HandOnly u where
  frame := by rw [h'.frame, h.frame]
  regs o ho := (h'.regs o ho).trans (h.regs o ho)
  raised := List.Subset.trans h.raised h'.raised

theorem State.setXfer_handOnly (s : State) (r : Nat) (x : XferRt) : s.HandOnly (s.setXfer r x) := ⟨rfl, fun _ _ => rfl, fun _ h => h⟩

theorem State.setSupplyStatus_handOnly (s : State) (r : Nat) (fld : Fld) (v : Nat) : s.HandOnly (s.setF (R.SUPPLY_STATUS r) fld v) :=
  ⟨rfl, fun _ ho => State.rd_setF_other _ _ _ fun h => ho (.inr (.inl ⟨r, .inl h⟩)), fun _ h => h⟩

theorem State.wr64_handOnly (s : State) (r v : Nat) : s.HandOnly (s.wr64 (R.SUPPLY_XFER_LAST_LO r) (R.SUPPLY_XFER_LAST_HI r) v) :=
  ⟨rfl, fun _ ho => by
    rw [State.wr64, State.rd_wrN_other _ _ fun h => ho (.inr (.inl ⟨r, .inr (.inr h)⟩)),
      State.rd_wrN_other _ _ fun h => ho (.inr (.inl ⟨r, .inr (.inl h)⟩))], fun _ h => h⟩

theorem State.incCounter_handOnly (s : State) : s.HandOnly (s.incCounter 1) where
  frame := by rw [s.incCounter_storeOnly 1]
  regs _ ho := s.incCounter_sameRegs 1 _ fun h => ho (.inr (.inr h))
  raised := ((State.StartOnly.refl s).incCounter (k := 1)).raised

theorem State.fillHand_handOnly (s : State) (r : Nat) : s.HandOnly (s.fillHand r) where
  frame := by rw [(s.fillHand_ceilOnly r).1]
  regs _ ho := (s.fillHand_ceilOnly r).2 _ fun m h => ho (.inl ⟨m, h⟩)
  raised := fun _ h => by rwa [(s.fillHand_ceilOnly r).raised]

theorem State.raise_handOnly (s : State) (id inst : Nat) (b : List Byte) : s.HandOnly (s.raise id inst b) :=
  ⟨rfl, fun _ _ => rfl, fun _ h => List.mem_append_left _ h⟩

/-- A rail that begins its hand-over, before the packs take it. -/
def State.railLost (s : State) (x r : Nat) : State :=
  let t := (s.setXfer r { s.xfer r with lost := x :: (s.xfer r).lost, revalDone := false, ramp := 0 }).setF (R.SUPPLY_STATUS r)
    F.SUPPLY_STATUS_STATE supHandover
  if s.railSupply r = supHandover then t
  else (t.wr64 (R.SUPPLY_XFER_LAST_LO r) (R.SUPPLY_XFER_LAST_HI r) t.now48).incCounter 1

theorem State.railLost_handOnly (s : State) (x r : Nat) : s.HandOnly (s.railLost x r) := by
  have hstart := (s.setXfer_handOnly r { s.xfer r with lost := x :: (s.xfer r).lost, revalDone := false, ramp := 0 }).trans
    (State.setSupplyStatus_handOnly _ r F.SUPPLY_STATUS_STATE supHandover)
  unfold State.railLost
  dsimp only
  split
  · exact hstart
  · exact (hstart.trans (State.wr64_handOnly _ r _)).trans (State.incCounter_handOnly _)

theorem State.handRail_eq (s : State) (x r : Nat) : s.handRail x r =
    if ((s.railLost x r).fillHand r).needOn r > ((s.railLost x r).fillHand r).handCover r then
      ((s.railLost x r).fillHand r).raise 0x65 r
        (faultRec (((s.railLost x r).fillHand r).needOn r) (((s.railLost x r).fillHand r).handCover r))
    else (s.railLost x r).fillHand r := by
  unfold State.handRail State.railLost
  simp only [decide_eq_true_eq]

theorem State.handRail_handOnly (s : State) (x r : Nat) : s.HandOnly (s.handRail x r) := by
  have hfill := (s.railLost_handOnly x r).trans (State.fillHand_handOnly _ r)
  rw [s.handRail_eq]
  split
  · exact hfill.trans (State.raise_handOnly _ _ _ _)
  · exact hfill

/-! The stages of the supply through the hand-over. -/

section
variable {s t : State} (h : s.HandOnly t)
include h

theorem State.HandOnly.stageReg {n : Fin 8} : t.rd (R.STAGE_STATUS n) = s.rd (R.STAGE_STATUS n) := by
  apply h.regs
  rintro (⟨m, hm⟩ | ⟨r, hr⟩ | hc)
  · simp only [R.STAGE_STATUS, R.STAGE_CEIL] at hm
    omega
  · simp only [R.STAGE_STATUS, R.SUPPLY_STATUS, R.SUPPLY_XFER_LAST_LO, R.SUPPLY_XFER_LAST_HI] at hr
    omega
  · simp only [counterRegs, R.STAGE_STATUS, R.NVM_CNT_LO, R.NVM_CNT_HI, R.NVM_STATUS, List.mem_cons, List.not_mem_nil, or_false] at hc
    omega

theorem State.HandOnly.drawsFrom {n : Fin 8} {node : Nat} (hd : s.drawsFrom n node) : t.drawsFrom n node := by
  have hdir : t.stageDir n = s.stageDir n := by
    unfold State.stageDir State.flag State.f
    rw [h.stageReg]
  have hsend : t.stSend n (s.stageDir n) = s.stSend n (s.stageDir n) := by
    rw [h.frame]
    rfl
  rw [State.drawsFrom, hdir, hsend]
  exact hd

theorem State.HandOnly.supReg (x : Nat) : t.rd (supReg x) = s.rd (supReg x) := by
  apply h.regs
  unfold Machine.supReg
  rintro (⟨m, hm⟩ | ⟨r, hr⟩ | hc)
  · simp only [R.INPUT_STATUS, R.PORT_STATUS, R.STAGE_CEIL] at hm
    split at hm <;> omega
  · simp only [R.INPUT_STATUS, R.PORT_STATUS, R.SUPPLY_STATUS, R.SUPPLY_XFER_LAST_LO, R.SUPPLY_XFER_LAST_HI] at hr
    split at hr <;> omega
  · simp only [counterRegs, R.INPUT_STATUS, R.PORT_STATUS, R.NVM_CNT_LO, R.NVM_CNT_HI, R.NVM_STATUS, List.mem_cons, List.not_mem_nil,
      or_false] at hc
    split at hc <;> omega

theorem State.HandOnly.inputReg {o y : Nat} (ho : o = R.INPUT_CFG y ∨ o = R.INPUT_VLIM y) (hy : y < 3) : t.rd o = s.rd o := by
  apply h.regs
  simp only [R.INPUT_CFG, R.INPUT_VLIM] at ho
  rintro (⟨m, hm⟩ | ⟨r, hr⟩ | hc)
  · simp only [R.STAGE_CEIL] at hm
    omega
  · simp only [R.SUPPLY_STATUS, R.SUPPLY_XFER_LAST_LO, R.SUPPLY_XFER_LAST_HI] at hr
    omega
  · simp only [counterRegs, R.NVM_CNT_LO, R.NVM_CNT_HI, R.NVM_STATUS, List.mem_cons, List.not_mem_nil, or_false] at hc
    omega

theorem State.HandOnly.pswReg (w : Fin 12) : t.rd (R.PSW_STATUS w) = s.rd (R.PSW_STATUS w) := by
  apply h.regs
  rintro (⟨m, hm⟩ | ⟨r, hr⟩ | hc)
  · simp only [R.PSW_STATUS, R.STAGE_CEIL] at hm
    omega
  · simp only [R.PSW_STATUS, R.SUPPLY_STATUS, R.SUPPLY_XFER_LAST_LO, R.SUPPLY_XFER_LAST_HI] at hr
    omega
  · simp only [counterRegs, R.PSW_STATUS, R.NVM_CNT_LO, R.NVM_CNT_HI, R.NVM_STATUS, List.mem_cons, List.not_mem_nil, or_false] at hc
    omega

end

end Sys2Proof.Machine
end

section
/-! A source that is lost (R142, R156): its stages are released, its switch is open, and its state is shown. -/

namespace Sys2Proof.Machine

/-! Stages released. -/

theorem State.stageCeil_congr {s t : State} {n : Nat} (h : t.rd (R.STAGE_CEIL n) = s.rd (R.STAGE_CEIL n)) : t.stageCeil n = s.stageCeil n := by
  rw [State.stageCeil, State.rdN, h, State.stageCeil, State.rdN]

theorem State.stageDir_congr {s t : State} {n : Nat} (h : t.rd (R.STAGE_STATUS n) = s.rd (R.STAGE_STATUS n)) : t.stageDir n = s.stageDir n := by
  rw [State.stageDir, State.flag, State.f, h, State.stageDir, State.flag, State.f]

theorem State.stopStage_status (s : State) (n st : Nat) : (s.stopStage n st).rd (R.STAGE_STATUS n) = (s.stopStatus n st).rd (R.STAGE_STATUS n) := by
  have hduty : R.STAGE_STATUS n ≠ R.STAGE_DUTY n := by simp [R.STAGE_STATUS, R.STAGE_DUTY]
  have hil : R.STAGE_STATUS n ≠ R.STAGE_IL n := by simp [R.STAGE_STATUS, R.STAGE_IL]
  have hload : R.STAGE_STATUS n ≠ R.STG_ADC_LOAD := by simp only [R.STAGE_STATUS, R.STG_ADC_LOAD]; omega
  calc (s.stopStage n st).rd (R.STAGE_STATUS n)
      = (((s.stopStatus n st).wrN (R.STAGE_DUTY n) 0).wrN (R.STAGE_IL n) 0).rd (R.STAGE_STATUS n) := State.rd_setF_other _ _ _ hload
    _ = ((s.stopStatus n st).wrN (R.STAGE_DUTY n) 0).rd (R.STAGE_STATUS n) := State.rd_wrN_other _ _ hil
    _ = (s.stopStatus n st).rd (R.STAGE_STATUS n) := State.rd_wrN_other _ _ hduty

/-- A stage that stops keeps its direction. -/
theorem State.stopStage_stageDir (s : State) (n st : Nat) : (s.stopStage n st).stageDir n = s.stageDir n := by
  rw [State.stageDir, State.flag, State.f, s.stopStage_status, ← State.f, ← State.flag, State.stopStatus, State.setStageState,
    State.flag_setF_field _ _ (by decide) (by decide) (.inl (by decide)), State.flag_setF_field _ _ (by decide) (by decide) (.inl (by decide)),
    State.flag_setF_field _ _ (by decide) (by decide) (.inr (by decide)), State.stageDir]

/-- The registers of a stage that is released. -/
def releaseRegs (n : Nat) : List Nat := R.STAGE_CEIL n :: stopRegs n

/-- A stage released with a ceiling of zero. -/
def State.stageReleased (s : State) (n : Nat) : State :=
  if s.stageRuns n then (s.stopStage n stReady).wrN (R.STAGE_CEIL n) 0 else s.wrN (R.STAGE_CEIL n) 0

theorem State.stageReleased_sameRegs (s : State) (n : Nat) : s.sameRegs (s.stageReleased n) (releaseRegs n) := by
  have hstop := (s.stopStage_sameRegs n stReady).mono (l' := releaseRegs n) (List.subset_cons_self _ _)
  unfold State.stageReleased
  split
  · exact hstop.wrN List.mem_cons_self _
  · exact (s.sameRegs_refl _).wrN List.mem_cons_self _

/-- `t` differs from `s` in registers and in the records of stages alone. -/
def State.StageOnly (s t : State) : Prop := t = { s with regs := t.regs, stages := t.stages }

theorem State.StageOnly.trans {s t u : State} (h : s.StageOnly t) (h' : t.StageOnly u) : s.StageOnly u := by
  unfold State.StageOnly at h h' ⊢
  rw [h', h]

theorem State.setF_stageOnly (s : State) (o : Nat) (fld : Fld) (v : Nat) : s.StageOnly (s.setF o fld v) := rfl

theorem State.wrN_stageOnly (s : State) (o v : Nat) : s.StageOnly (s.wrN o v) := rfl

theorem State.setStage_stageOnly (s : State) (n : Nat) (r : StageRt) : s.StageOnly (s.setStage n r) := rfl

theorem State.stopStage_stageOnly (s : State) (n st : Nat) : s.StageOnly (s.stopStage n st) := by
  unfold State.stopStage State.showLoad State.setStageState
  dsimp only
  have hstatus := ((s.setF_stageOnly (R.STAGE_STATUS n) F.STAGE_STATUS_STATE st).trans (State.setF_stageOnly _ (R.STAGE_STATUS n)
    F.STAGE_STATUS_DE 0)).trans (State.setF_stageOnly _ (R.STAGE_STATUS n) F.STAGE_STATUS_CBC_ACT 0)
  have hvalues := (hstatus.trans (State.wrN_stageOnly _ (R.STAGE_DUTY n) 0)).trans (State.wrN_stageOnly _ (R.STAGE_IL n) 0)
  exact (hvalues.trans (State.setStage_stageOnly _ n _)).trans (State.setF_stageOnly _ _ _ _)

theorem State.stageReleased_frame (s : State) (n : Nat) :
    s.stageReleased n = { s with regs := (s.stageReleased n).regs, stages := (s.stageReleased n).stages } := by
  unfold State.stageReleased
  split
  · exact (s.stopStage_stageOnly n stReady).trans (State.wrN_stageOnly _ _ _)
  · exact s.wrN_stageOnly _ _

/-- A stage that is released does not run, and has no ceiling. -/
def State.restsAtZero (s : State) (n : Nat) : Prop := s.stageRuns n = false ∧ s.stageCeil n = 0

theorem State.restsAtZero_congr {s t : State} {n : Fin 8} (hst : t.rd (R.STAGE_STATUS n) = s.rd (R.STAGE_STATUS n))
    (hc : t.stageCeil n = s.stageCeil n) (h : s.restsAtZero n) : t.restsAtZero n :=
  ⟨(State.stageRuns_congr hst).trans h.1, hc.trans h.2⟩

theorem State.stageReleased_restsAtZero (s : State) (n : Fin 8) : (s.stageReleased n).restsAtZero n := by
  have hne : R.STAGE_STATUS n ≠ R.STAGE_CEIL n := by
    simp only [R.STAGE_STATUS, R.STAGE_CEIL]
    omega
  unfold State.stageReleased
  by_cases h : s.stageRuns n = true
  · rw [if_pos h]
    refine ⟨?_, State.rdN_wrN_same _ _ _⟩
    rw [State.stageRuns_congr (State.rd_wrN_other _ _ hne), State.stageRuns, s.stopStage_stageState n (by decide)]
    rfl
  · rw [if_neg h]
    refine ⟨?_, State.rdN_wrN_same _ _ _⟩
    rw [State.stageRuns_congr (State.rd_wrN_other _ _ hne)]
    exact Bool.eq_false_iff.2 h

/-- The other stages are left. -/
theorem State.stageReleased_other (s : State) {n : Fin 8} {k : Nat} (h : k ≠ n.val) :
    (s.stageReleased k).rd (R.STAGE_STATUS n) = s.rd (R.STAGE_STATUS n) ∧ (s.stageReleased k).rd (R.STAGE_CEIL n) = s.rd (R.STAGE_CEIL n) := by
  have hregs := s.stageReleased_sameRegs k
  refine ⟨hregs _ ?_, hregs _ ?_⟩
  · simp only [releaseRegs, stopRegs, R.STAGE_STATUS, R.STAGE_DUTY, R.STAGE_IL, R.STAGE_CEIL, R.STG_ADC_LOAD, List.mem_cons,
      List.not_mem_nil, or_false]
    omega
  · simp only [releaseRegs, stopRegs, R.STAGE_STATUS, R.STAGE_DUTY, R.STAGE_IL, R.STAGE_CEIL, R.STG_ADC_LOAD, List.mem_cons,
      List.not_mem_nil, or_false]
    omega

theorem State.stageReleased_stageDir (s : State) (k : Nat) (n : Fin 8) : (s.stageReleased k).stageDir n = s.stageDir n := by
  by_cases h : k = n.val
  · have hne : R.STAGE_STATUS n ≠ R.STAGE_CEIL n := by
      simp only [R.STAGE_STATUS, R.STAGE_CEIL]
      omega
    rw [h, State.stageReleased]
    split
    · rw [State.stageDir_congr (State.rd_wrN_other _ _ hne), State.stopStage_stageDir]
    · rw [State.stageDir_congr (State.rd_wrN_other _ _ hne)]
  · exact State.stageDir_congr (s.stageReleased_other h).1

/-- The stages that draw from a node released. -/
def State.sourceReleased (s : State) (node : Nat) : State := s.each (s.stagesOutOf node) (fun n s => s.stageReleased n)

theorem State.sourceReleased_frame (s : State) (node : Nat) :
    s.sourceReleased node = { s with regs := (s.sourceReleased node).regs, stages := (s.sourceReleased node).stages } :=
  State.each_invariant (P := fun u : State => u = { s with regs := u.regs, stages := u.stages }) (g := fun n s => s.stageReleased n)
    (fun n u hu => by rw [u.stageReleased_frame, hu]) _ rfl

theorem State.stagesOutOf_lt {s : State} {node n : Nat} (h : n ∈ s.stagesOutOf node) : n < 8 := List.mem_range.1 (List.mem_filter.1 h).1

theorem State.sourceReleased_rd (s : State) (node : Nat) {o : Nat} (ho : ∀ n < 8, o ∉ releaseRegs n) :
    (s.sourceReleased node).rd o = s.rd o := by
  have hregs : s.sameRegs (s.sourceReleased node) ((List.range 8).flatMap releaseRegs) :=
    (s.sameRegs_refl _).each _ fun n hn u => (u.stageReleased_sameRegs n).mono
      fun _ ho => List.mem_flatMap.2 ⟨n, List.mem_range.2 (State.stagesOutOf_lt hn), ho⟩
  refine hregs _ fun h => ?_
  obtain ⟨n, hn, hm⟩ := List.mem_flatMap.1 h
  exact ho n (List.mem_range.1 hn) hm

theorem State.sourceReleased_stageDir (s : State) (node : Nat) (n : Fin 8) : (s.sourceReleased node).stageDir n = s.stageDir n :=
  State.each_keeps (f := fun t => t.stageDir n) (g := fun n s => s.stageReleased n) (fun k u => u.stageReleased_stageDir k n) _ s

theorem State.sourceReleased_restsAtZero {s : State} {node : Nat} {n : Fin 8} (hn : n.val ∈ s.stagesOutOf node) :
    (s.sourceReleased node).restsAtZero n := by
  refine State.each_reaches (P := fun u => u.restsAtZero n) (Q := fun _ => True) (g := fun n s => s.stageReleased n) hn
    (fun u _ => u.stageReleased_restsAtZero n) (fun _ _ _ => trivial) (fun k hk u _ hp => ?_) trivial
  obtain ⟨hst, hc⟩ := u.stageReleased_other hk
  exact State.restsAtZero_congr hst (State.stageCeil_congr hc) hp

theorem State.sourceReleased_raised (s : State) (node : Nat) : (s.sourceReleased node).raised = s.raised := by rw [s.sourceReleased_frame]

/-! The switch of a lost source. -/

/-- The SERIES switch of a node opened. -/
def State.sourceCut (s : State) (node : Nat) : State :=
  match s.seriesOf node with
  | some w => (s.openSwitch w).setPsw w { s.psw w with want := false }
  | none => s

theorem State.sourceCut_frame (s : State) (node : Nat) :
    s.sourceCut node = { s with regs := (s.sourceCut node).regs, psws := (s.sourceCut node).psws } := by
  unfold State.sourceCut
  split
  · rfl
  · rfl

theorem State.sourceCut_rd (s : State) (node : Nat) {o : Nat} (ho : ∀ w, o ≠ R.PSW_STATUS w) : (s.sourceCut node).rd o = s.rd o := by
  unfold State.sourceCut
  split
  next w _ =>
    rw [State.setPsw_rd_of]
    exact s.openSwitch_sameRegs w _ (by rw [List.mem_singleton]; exact ho w)
  · rfl

theorem State.sourceCut_pswClosed {s : State} {node : Nat} {w : Fin 12} (h : s.seriesOf node = some w.val) :
    (s.sourceCut node).pswClosed w = false := by
  rw [State.sourceCut, h]
  exact s.openSwitch_pswClosed w

/-! The hand-over of a source. -/

/-- The rails of a source handed over to the packs. -/
def State.railsHanded (s : State) (x : Nat) (rails : List Nat) : State := rails.foldl (fun s r => s.handRail x r) s

theorem State.railsHanded_handOnly (s : State) (x : Nat) (rails : List Nat) : s.HandOnly (s.railsHanded x rails) :=
  foldl_rel State.HandOnly.refl State.HandOnly.trans (fun u r => u.handRail_handOnly x r) rails s

theorem State.handOver_eq (s : State) (x : Nat) : ∃ (rails : List Nat) (code : Nat), s.handOver x true =
    (((s.sourceReleased (supNode x)).sourceCut (supNode x)).railsHanded x rails).trigReval code := ⟨_, _, rfl⟩

/-- A rail that is handed over leaves a stage of a supply without a ceiling. -/
theorem State.handRail_stageCeil {s : State} {n : Fin 8} {node : Nat} (x r : Nat) (hd : s.drawsFrom n node) (hn : 12 ≤ node)
    (hz : s.stageCeil n = 0) : (s.handRail x r).stageCeil n = 0 := by
  have hlost := s.railLost_handOnly x r
  have hceil : (s.railLost x r).stageCeil n = 0 := by
    have hone (t : State) (ht : t.stageCeil n = 0) (fld : Fld) (v : Nat) : (t.setF (R.SUPPLY_STATUS r) fld v).stageCeil n = 0 := by
      rw [State.stageCeil_congr (State.rd_setF_other _ _ _ (by simp only [R.STAGE_CEIL, R.SUPPLY_STATUS]; omega)), ht]
    have hfirst := hone (s.setXfer r { s.xfer r with lost := x :: (s.xfer r).lost, revalDone := false, ramp := 0 }) hz F.SUPPLY_STATUS_STATE
      supHandover
    unfold State.railLost
    dsimp only
    split
    · exact hfirst
    · have hcount : R.STAGE_CEIL n ∉ counterRegs 1 := by
        simp only [counterRegs, R.STAGE_CEIL, R.NVM_CNT_LO, R.NVM_CNT_HI, R.NVM_STATUS, List.mem_cons, List.not_mem_nil, or_false]
        omega
      rw [State.stageCeil_congr (State.incCounter_sameRegs _ 1 _ hcount), State.wr64,
        State.stageCeil_congr (State.rd_wrN_other _ _ (by simp only [R.STAGE_CEIL, R.SUPPLY_XFER_LAST_HI]; omega)),
        State.stageCeil_congr (State.rd_wrN_other _ _ (by simp only [R.STAGE_CEIL, R.SUPPLY_XFER_LAST_LO]; omega))]
      exact hfirst
  have hfill := State.fillHand_stageCeil r (hlost.drawsFrom hd) hn hceil
  rw [s.handRail_eq]
  split
  · exact hfill
  · exact hfill

theorem State.railsHanded_restsAtZero {s : State} {n : Fin 8} {node : Nat} (x : Nat) (rails : List Nat) (hd : s.drawsFrom n node)
    (hn : 12 ≤ node) (hz : s.restsAtZero n) : (s.railsHanded x rails).restsAtZero n := by
  induction rails generalizing s with
  | nil => exact hz
  | cons r rails ih =>
    have hhand := s.handRail_handOnly x r
    exact ih (hhand.drawsFrom hd)
      ⟨(State.stageRuns_congr hhand.stageReg).trans hz.1, State.handRail_stageCeil x r hd hn hz.2⟩

/-- What the hand-over of a source leaves. -/
structure State.HandedOver (s t : State) (x : Nat) : Prop where
  frame : t = { s with
    regs := t.regs, nvm := t.nvm, raised := t.raised, xfers := t.xfers, stages := t.stages, psws := t.psws, revalCause := t.revalCause }
  supReg : ∀ y, t.rd (supReg y) = s.rd (supReg y)
  input : ∀ y < 3, ∀ o, o = R.INPUT_CFG y ∨ o = R.INPUT_VLIM y → t.rd o = s.rd o
  raised : s.raised ⊆ t.raised
  stages : ∀ n : Fin 8, n.val ∈ s.stagesOutOf (supNode x) → t.restsAtZero n
  switch : ∀ w : Fin 12, s.seriesOf (supNode x) = some w.val → t.pswClosed w = false

theorem State.trigReval_frame (s : State) (code : Nat) : s.trigReval code = { s with
    regs := (s.trigReval code).regs, revalCause := (s.trigReval code).revalCause } := rfl

theorem releaseRegs_lt {n o : Nat} (hn : n < 8) (ho : o ∈ releaseRegs n) : o < 0x05000 := by
  simp only [releaseRegs, stopRegs, R.STAGE_STATUS, R.STAGE_DUTY, R.STAGE_IL, R.STAGE_CEIL, R.STG_ADC_LOAD, List.mem_cons, List.not_mem_nil,
    or_false] at ho
  omega

theorem supReg_lt (x : Nat) : 0x05000 ≤ supReg x ∧ supReg x ≠ R.DRILL_STATUS := by
  unfold supReg
  simp only [R.INPUT_STATUS, R.PORT_STATUS, R.DRILL_STATUS]
  split <;> omega

theorem supNode_le (x : Nat) : 12 ≤ supNode x := by
  unfold supNode
  split <;> omega

theorem State.handOver_leaves (s : State) (x : Nat) : s.HandedOver (s.handOver x true) x := by
  obtain ⟨rails, code, h⟩ := s.handOver_eq x
  have hhand := ((s.sourceReleased (supNode x)).sourceCut (supNode x)).railsHanded_handOnly x rails
  have hcutFrame : (s.sourceReleased (supNode x)).sourceCut (supNode x) = { s with
      regs := ((s.sourceReleased (supNode x)).sourceCut (supNode x)).regs, stages := (s.sourceReleased (supNode x)).stages,
      psws := ((s.sourceReleased (supNode x)).sourceCut (supNode x)).psws } := by
    rw [State.sourceCut_frame, State.sourceReleased_frame]
  have hraised : ((s.sourceReleased (supNode x)).sourceCut (supNode x)).raised = s.raised := by rw [hcutFrame]
  have hcut (o : Nat) (ho : ∀ w, o ≠ R.PSW_STATUS w) := (s.sourceReleased (supNode x)).sourceCut_rd (supNode x) ho
  rw [h]
  refine ⟨?_, fun y => ?_, fun y hy o ho => ?_, ?_, fun n hn => ?_, fun w hw => ?_⟩
  · rw [State.trigReval_frame, hhand.frame, hcutFrame]
  · obtain ⟨hle, hdrill⟩ := supReg_lt y
    have hdrill : Machine.supReg y ∉ [R.DRILL_STATUS] := by rwa [List.mem_singleton]
    have hrelease : ∀ n < 8, Machine.supReg y ∉ releaseRegs n := fun n hn hm => by
      have := releaseRegs_lt hn hm
      omega
    rw [State.trigReval_sameRegs _ _ _ hdrill, hhand.supReg, hcut _ fun w => supReg_ne_pswStatus y w, State.sourceReleased_rd _ _ hrelease]
  · have hrange : 0x05200 ≤ o ∧ o % 4 = 0 ∧ o % 16 ≠ 12 ∧ o ≠ R.DRILL_STATUS := by
      simp only [R.INPUT_CFG, R.INPUT_VLIM] at ho
      simp only [R.DRILL_STATUS]
      omega
    have hdrill : o ∉ [R.DRILL_STATUS] := by
      rw [List.mem_singleton]
      exact hrange.2.2.2
    have hrelease : ∀ n < 8, o ∉ releaseRegs n := fun n hn hm => by
      have := releaseRegs_lt hn hm
      omega
    have hpsw : ∀ w, o ≠ R.PSW_STATUS w := fun w => by
      simp only [R.PSW_STATUS]
      omega
    rw [State.trigReval_sameRegs _ _ _ hdrill, hhand.inputReg ho hy, hcut _ hpsw, State.sourceReleased_rd _ _ hrelease]
  · rw [State.trigReval_raised, ← hraised]
    exact hhand.raised
  · have hdraws : s.drawsFrom n (supNode x) := by
      have hsend := (List.mem_filter.1 hn).2
      simp only [Bool.and_eq_true, beq_iff_eq] at hsend
      exact hsend.2
    have hst : R.STAGE_STATUS n ∉ [R.DRILL_STATUS] := by simp only [R.STAGE_STATUS, R.DRILL_STATUS, List.mem_singleton]; omega
    have hce : R.STAGE_CEIL n ∉ [R.DRILL_STATUS] := by simp only [R.STAGE_CEIL, R.DRILL_STATUS, List.mem_singleton]; omega
    have hst' := hcut (R.STAGE_STATUS n) fun w => by simp only [R.STAGE_STATUS, R.PSW_STATUS]; omega
    have hce' := hcut (R.STAGE_CEIL n) fun w => by simp only [R.STAGE_CEIL, R.PSW_STATUS]; omega
    have hdraws' : ((s.sourceReleased (supNode x)).sourceCut (supNode x)).drawsFrom n (supNode x) := by
      have hsend (d : Bool) : ((s.sourceReleased (supNode x)).sourceCut (supNode x)).stSend n d = s.stSend n d := by
        rw [hcutFrame]
        rfl
      rw [State.drawsFrom, State.stageDir_congr hst', State.sourceReleased_stageDir, hsend]
      exact hdraws
    have hrest := State.railsHanded_restsAtZero x rails hdraws' (supNode_le x)
      (State.restsAtZero_congr hst' (State.stageCeil_congr hce') (State.sourceReleased_restsAtZero hn))
    exact State.restsAtZero_congr (State.trigReval_sameRegs _ _ _ hst) (State.stageCeil_congr (State.trigReval_sameRegs _ _ _ hce)) hrest
  · have hne : R.PSW_STATUS w ∉ [R.DRILL_STATUS] := by simp only [R.PSW_STATUS, R.DRILL_STATUS, List.mem_singleton]; omega
    have hfab : (s.sourceReleased (supNode x)).fab = s.fab := by rw [State.sourceReleased_frame]
    have hseries : (s.sourceReleased (supNode x)).seriesOf (supNode x) = some w.val := (State.seriesOf_congr hfab _).trans hw
    rw [State.pswClosed_congr (State.trigReval_sameRegs _ _ _ hne), State.pswClosed_congr (hhand.pswReg w), State.sourceCut_pswClosed hseries]

/-! A supply that is lost. -/

/-- A supply's new state, before its stages and its switch. -/
def State.lostShown (s : State) (x st : Nat) : State := (s.setSupState x st).needContract x

theorem State.lostShown_frame (s : State) (x st : Nat) :
    s.lostShown x st = { s with regs := (s.setSupState x st).regs, sys := (s.setSupState x st).sys, ports := (s.lostShown x st).ports } := by
  unfold State.lostShown State.needContract
  split
  · rw [State.setPort, s.setSupState_frame]
  · rw [s.setSupState_frame]

theorem State.lostShown_rd (s : State) (x st o : Nat) : (s.lostShown x st).rd o = (s.setSupState x st).rd o := by
  rw [State.rd, s.lostShown_frame, State.rd]

theorem State.lostShown_stagesOutOf (s : State) (x st node : Nat) : (s.lostShown x st).stagesOutOf node = s.stagesOutOf node := by
  unfold State.stagesOutOf
  refine List.filter_congr fun n hn => ?_
  have hn := List.mem_range.1 hn
  have hdir : (s.lostShown x st).stageDir n = s.stageDir n := by
    refine State.stageDir_congr ((s.lostShown_rd x st _).trans (s.setSupState_sameRegs x st _ ?_))
    rw [List.mem_singleton]
    have hle := (supReg_lt x).1
    simp only [R.STAGE_STATUS]
    omega
  rw [hdir, s.lostShown_frame]
  rfl

/-- A source that is lost: its state, its stages, its switch and the report of an input. -/
structure State.SourceLost (s t : State) (x st : Nat) : Prop where
  state : t.supState x = st
  stages : ∀ n : Fin 8, n.val ∈ s.stagesOutOf (supNode x) → t.stageRuns n = false ∧ t.stageCeil n = 0
  switch : ∀ w : Fin 12, s.seriesOf (supNode x) = some w.val → t.pswClosed w = false
  told : x < 3 → st = supLost → faultOf 0x61 x (faultRec (s.supV x) (s.lossMv x)) ∈ t.raised

theorem State.loseSupply_of_online {s : State} {x : Nat} (st : Nat) (h : s.supState x = supOnline) : s.loseSupply x st true =
    if x < 3 ∧ st = supLost then ((s.lostShown x st).handOver x true).raise 0x61 x
      (faultRec (((s.lostShown x st).handOver x true).supV x) (((s.lostShown x st).handOver x true).lossMv x))
    else (s.lostShown x st).handOver x true := by
  rw [State.loseSupply, if_pos h]
  rfl

/-- The voltage and the limit of an input that is lost are those before. -/
theorem State.lost_measures (s : State) {x : Nat} (st : Nat) (hx : x < 3) : ((s.lostShown x st).handOver x true).supV x = s.supV x ∧
    ((s.lostShown x st).handOver x true).lossMv x = s.lossMv x := by
  have hhand := (s.lostShown x st).handOver_leaves x
  constructor
  · have hv := s.setSupState_supV x st
    have hreg := (hhand.supReg x).trans (s.lostShown_rd x st _)
    rw [supReg_of_lt hx] at hreg
    rw [← hv]
    unfold State.supV State.f
    rw [if_pos hx, if_pos hx, hreg]
  · have hreg : ((s.lostShown x st).handOver x true).rd (R.INPUT_VLIM x) = s.rd (R.INPUT_VLIM x) := by
      have hne : R.INPUT_VLIM x ∉ [supReg x] := by
        rw [supReg_of_lt hx, List.mem_singleton]
        simp only [R.INPUT_VLIM, R.INPUT_STATUS]
        omega
      rw [hhand.input x hx _ (.inr rfl), s.lostShown_rd, s.setSupState_sameRegs x st _ hne]
    unfold State.lossMv State.f
    rw [if_pos hx, if_pos hx, hreg]

theorem State.loseSupply_lost {s : State} {x st : Nat} (h : s.supState x = supOnline) (hst : st < 8) :
    s.SourceLost (s.loseSupply x st true) x st := by
  have hhand := (s.lostShown x st).handOver_leaves x
  have hstate : ((s.lostShown x st).handOver x true).supState x = st := by
    rw [State.supState_congr ((hhand.supReg x).trans (s.lostShown_rd x st _)), s.setSupState_supState x hst]
  have hfab : (s.lostShown x st).fab = s.fab := by rw [s.lostShown_frame]
  have hstages (n : Fin 8) (hn : n.val ∈ s.stagesOutOf (supNode x)) := hhand.stages n (by rw [s.lostShown_stagesOutOf]; exact hn)
  have hswitch (w : Fin 12) (hw : s.seriesOf (supNode x) = some w.val) := hhand.switch w ((State.seriesOf_congr hfab _).trans hw)
  rw [State.loseSupply_of_online st h]
  by_cases hc : x < 3 ∧ st = supLost
  · obtain ⟨hv, hloss⟩ := s.lost_measures st hc.1
    rw [if_pos hc, hv, hloss]
    exact ⟨hstate, hstages, hswitch, fun _ _ => List.mem_append_right _ List.mem_cons_self⟩
  · rw [if_neg hc]
    exact ⟨hstate, hstages, hswitch, fun hx hlost => absurd ⟨hx, hlost⟩ hc⟩

end Sys2Proof.Machine
end

section
/-! The loss of a source, the hand-over and the transfer back (R142, R156–R161). -/

namespace Sys2Proof.Machine

/-! A source is lost. -/

/-- The registers of stages are none that a supply's voltage shows in. -/
theorem State.Measured.stageReg {s t : State} {x : Nat} (h : s.Measured t x) {n : Nat} (_ : n < 8) :
    t.rd (R.STAGE_STATUS n) = s.rd (R.STAGE_STATUS n) :=
  h.regs _ (by simp only [R.STAGE_STATUS, R.INPUT_STATUS]; omega) (by simp only [R.STAGE_STATUS, R.PORT_VBUS]; omega)

theorem State.stagesOutOf_congr {s t : State} (hfab : t.fab = s.fab) (hregs : ∀ n < 8, t.rd (R.STAGE_STATUS n) = s.rd (R.STAGE_STATUS n))
    (node : Nat) : t.stagesOutOf node = s.stagesOutOf node := by
  unfold State.stagesOutOf
  refine List.filter_congr fun n hn => ?_
  rw [State.stageDir_congr (hregs n (List.mem_range.1 hn))]
  unfold State.stUsed State.stSend State.stTopo State.stTo State.stFrom State.fabF
  rw [hfab]

/-- A loss seen from a state that has the same fabric and the same stages. -/
theorem State.SourceLost.of_same {s t u : State} {x st : Nat} (hfab : t.fab = s.fab)
    (hregs : ∀ n < 8, t.rd (R.STAGE_STATUS n) = s.rd (R.STAGE_STATUS n)) (h : t.SourceLost u x st) : u.supState x = st ∧
    (∀ n : Fin 8, n.val ∈ s.stagesOutOf (supNode x) → u.stageRuns n = false ∧ u.stageCeil n = 0) ∧
    ∀ w : Fin 12, s.seriesOf (supNode x) = some w.val → u.pswClosed w = false :=
  ⟨h.state, fun n hn => h.stages n (by rw [State.stagesOutOf_congr hfab hregs]; exact hn),
    fun w hw => h.switch w ((State.seriesOf_congr hfab _).trans hw)⟩

theorem State.Measured.lossCycles {s t : State} {x : Nat} (h : s.Measured t x) : t.lossCycles x = s.lossCycles x := by
  unfold State.lossCycles State.f
  rw [h.regs _ (by simp only [R.INPUT_CFG, R.INPUT_STATUS]; omega) (by simp only [R.INPUT_CFG, R.PORT_VBUS]; omega)]

theorem State.Measured.cyc {s t : State} {x : Nat} (h : s.Measured t x) : t.cyc = s.cyc := by rw [h.frame]

theorem exec_inputLoss {s : State} {x : Supply} {mv t : Nat} (hl : s.live) (hst : s.supState (supNo x) = supOnline)
    (hmv : mv < s.lossMv (supNo x)) (hb : (s.supply (supNo x)).below = some t) (ht : t + s.lossCycles (supNo x) ≤ s.cyc) :
    exec (.inputLoss x mv) s = .next ((s.setSupV (supNo x) mv).loseSupply (supNo x) supLost true).settle := by
  have hm := s.setSupV_measured (supNo x) mv
  have hbelow : ((s.setSupV (supNo x) mv).supply (supNo x)).below = some t := by rw [State.setSupV_below hmv, hb, Option.getD_some]
  have hexec : exec (.inputLoss x mv) s = execInputLoss x mv s := rfl
  rw [hexec, execInputLoss, State.act_on _ hl.1]
  dsimp only
  rw [hbelow]
  dsimp only
  rw [if_pos ⟨hm.state.trans hst, by rw [hm.lossCycles, hm.cyc]; exact ht⟩]

theorem exec_inputOv {s : State} {n : Fin 3} {mv t : Nat} (hl : s.live) (hst : s.supState n = supOnline) (hmv : s.ovMv n < mv)
    (ha : (s.supply n).above = some t) (ht : t + 200 ≤ s.cyc) : exec (.inputOv n mv) s =
    .next ((((s.setSupV n mv).hwSet (R.INPUT_STATUS n) F.INPUT_STATUS_OV 1).loseSupply n supFault true).raise 0x62 n
      (faultRec mv (s.ovMv n))).settle := by
  have hm := s.setSupV_measured n mv
  have habove : ((s.setSupV n mv).supply n).above = some t := by rw [State.setSupV_above n.isLt hmv, ha, Option.getD_some]
  have hexec : exec (.inputOv n mv) s = execInputOv n mv s := rfl
  rw [hexec, execInputOv, State.act_on _ hl.1]
  dsimp only
  rw [habove]
  dsimp only
  rw [if_pos ⟨hm.state.trans hst, by rw [hm.cyc]; exact ht⟩, hm.ovMv]

/-- A flag of an input's status outlives the loss of the input. -/
theorem State.loseSupply_inputFlag {s : State} {x st : Nat} (h : s.supState x = supOnline) (hx : x < 3) {fld : Fld} (hw : fld.lo + fld.w ≤ 32)
    (hlo : 3 ≤ fld.lo) : (s.loseSupply x st true).flag (R.INPUT_STATUS x) fld = s.flag (R.INPUT_STATUS x) fld := by
  have hshown : (s.setSupState x st).flag (R.INPUT_STATUS x) fld = s.flag (R.INPUT_STATUS x) fld := by
    rw [State.setSupState, if_pos hx, State.flag_setF_field (g := F.INPUT_STATUS_STATE) _ _ (by decide) hw (.inr hlo)]
    split
    · rfl
    · rw [State.flag, State.f, s.noteIdle_rd, State.flag, State.f]
  have hreg := (((s.lostShown x st).handOver_leaves x).supReg x).trans (s.lostShown_rd x st _)
  rw [supReg_of_lt hx] at hreg
  have hhand : ((s.lostShown x st).handOver x true).flag (R.INPUT_STATUS x) fld = s.flag (R.INPUT_STATUS x) fld := by
    rw [← hshown, State.flag, State.f, hreg, State.flag, State.f]
  rw [State.loseSupply_of_online st h]
  split
  · exact hhand
  · exact hhand

/-- The configuration of an input outlives its loss. -/
theorem State.loseSupply_inputCfg {s : State} {x st : Nat} (h : s.supState x = supOnline) (hx : x < 3) (fld : Fld) :
    (s.loseSupply x st true).flag (R.INPUT_CFG x) fld = s.flag (R.INPUT_CFG x) fld := by
  have hne : R.INPUT_CFG x ∉ [supReg x] := by
    rw [supReg_of_lt hx, List.mem_singleton]
    simp only [R.INPUT_CFG, R.INPUT_STATUS]
    omega
  have hhand : ((s.lostShown x st).handOver x true).flag (R.INPUT_CFG x) fld = s.flag (R.INPUT_CFG x) fld := by
    rw [State.flag, State.f, ((s.lostShown x st).handOver_leaves x).input x hx _ (.inl rfl), s.lostShown_rd, s.setSupState_sameRegs x st _ hne,
      State.flag, State.f]
  rw [State.loseSupply_of_online st h]
  split
  · exact hhand
  · exact hhand

/-- An input with its EN cleared. -/
def State.inputOff (s : State) (n : Nat) : State := s.setF (R.INPUT_CFG n) F.INPUT_CFG_EN 0

theorem State.inputOff_measured (s : State) (n : Fin 3) : s.fab = (s.inputOff n).fab ∧ (s.inputOff n).supState n = s.supState n ∧
    ∀ k < 8, (s.inputOff n).rd (R.STAGE_STATUS k) = s.rd (R.STAGE_STATUS k) := by
  refine ⟨rfl, State.supState_congr (State.rd_setF_other _ _ _ ?_), fun k hk => State.rd_setF_other _ _ _ ?_⟩
  · rw [supReg_of_lt n.isLt]
    simp only [R.INPUT_STATUS, R.INPUT_CFG]
    omega
  · simp only [R.STAGE_STATUS, R.INPUT_CFG]
    omega

theorem exec_inputDisable {s : State} {n : Fin 3} (p : Path) (hl : s.live) (hst : s.supState n = supOnline) :
    exec (.inputDisable p n) s = .next ((s.inputOff n).loseSupply n supLost true).settle := by
  have hexec := exec_powered (c := .inputDisable p n) (g := fun s => s.disableInput n) hl rfl
  have hon : s.disableInput n = (s.inputOff n).loseSupply n supLost true := by
    have hstate := (s.inputOff_measured n).2.1
    rw [State.inputOff] at hstate
    rw [State.disableInput, hstate, if_pos (.inl hst)]
    rfl
  rw [hon] at hexec
  exact hexec

/-! A hand-over completes. -/

/-- The fault of a rail that left its regulation. -/
def State.lowTold66 (s : State) (r : Nat) : State :=
  match (s.xfer r).low with
  | some v => s.raise 0x66 r (faultRec v (s.f (R.RAIL_STATUS r) F.RAIL_STATUS_REF))
  | none => s

/-- A rail that the packs supply. -/
def State.inPacks (s : State) (r : Nat) : State := (s.setXfer r {}).setF (R.SUPPLY_STATUS r) F.SUPPLY_STATUS_STATE supPacks

theorem supReg_ne_supplyStatus (x : Nat) (r : Fin 8) : R.SUPPLY_STATUS r ≠ supReg x := by
  unfold supReg
  simp only [R.SUPPLY_STATUS, R.INPUT_STATUS, R.PORT_STATUS]
  split <;> omega

/-- A lost supply that is free again keeps the rails as they are. -/
theorem State.freeLost_keeps (s : State) (x : Nat) (r : Fin 8) : (s.freeLost x).rd (R.SUPPLY_STATUS r) = s.rd (R.SUPPLY_STATUS r) ∧
    (s.freeLost x).xfers = s.xfers ∧ (s.freeLost x).raised = s.raised := by
  have hne : R.SUPPLY_STATUS r ∉ [supReg x] := by
    rw [List.mem_singleton]
    exact supReg_ne_supplyStatus x r
  unfold State.freeLost
  split
  · refine ⟨?_, ?_, ?_⟩
    · rw [State.startQualify_sameRegs _ x _ hne, s.setSupState_sameRegs x _ _ hne]
    · rw [State.startQualify_frame, s.setSupState_frame]
    · rw [State.startQualify_frame, s.setSupState_frame]
  · exact ⟨rfl, rfl, rfl⟩

theorem State.freeLosts_keep (s : State) (l : List Nat) (r : Fin 8) : (l.foldl State.freeLost s).rd (R.SUPPLY_STATUS r) = s.rd (R.SUPPLY_STATUS r) ∧
    (l.foldl State.freeLost s).xfers = s.xfers ∧ (l.foldl State.freeLost s).raised = s.raised :=
  ⟨foldl_keeps (f := fun t => t.rd (R.SUPPLY_STATUS r)) (fun t x => (t.freeLost_keeps x r).1) l s,
    foldl_keeps (f := State.xfers) (fun t x => (t.freeLost_keeps x r).2.1) l s,
    foldl_keeps (f := State.raised) (fun t x => (t.freeLost_keeps x r).2.2) l s⟩

theorem exec_handoverComplete {s : State} {r : Fin 8} (hl : s.live) (hst : s.railSupply r = supHandover) (hd : (s.xfer r).revalDone = true) :
    exec (.handoverComplete r) s = .next ((s.xfer r).lost.foldl State.freeLost ((s.lowTold66 r).inPacks r)).settle := by
  have hexec := exec_powered (c := .handoverComplete r) (g := fun s => if s.railSupply r = supHandover ∧ (s.xfer r).revalDone then
    (s.xfer r).lost.foldl State.freeLost ((s.lowTold66 r).inPacks r) else s) hl rfl
  rw [if_pos ⟨hst, hd⟩] at hexec
  exact hexec

theorem State.inPacks_leaves (s : State) (r : Nat) : (s.inPacks r).railSupply r = supPacks ∧ ((s.inPacks r).xfer r).lost = [] ∧
    (s.inPacks r).raised = s.raised := by
  refine ⟨State.f_setF_same _ _ _ _ (by decide), ?_, rfl⟩
  have hx := State.xfer_setXfer s r {}
  have hsame : (s.inPacks r).xfer r = (s.setXfer r {}).xfer r := rfl
  rw [hsame, hx]

/-! The transfer back. -/

/-- A rail that transfers back to a source. -/
def State.transferring (s : State) (r x : Nat) : State :=
  ((s.setXfer r { lost := [], low := none, revalDone := false, ramp := 0, src := x }).setF (R.SUPPLY_STATUS r) F.SUPPLY_STATUS_STATE
    supTransfer).wr64 (R.SUPPLY_XFER_LAST_LO r) (R.SUPPLY_XFER_LAST_HI r) s.now48

theorem exec_transferBackStart {s : State} {r : Fin 8} {x : Nat} {l : List Nat} (hl : s.live) (hst : s.railSupply r = supPacks)
    (ho : s.onlineOn r = x :: l) (hh : s.holdPassed r = true) : exec (.transferBackStart r) s = .next (s.transferring r x) := by
  have hexec : exec (.transferBackStart r) s = execTransferBackStart r s := rfl
  have hquiet : (s.transferring r x).raised = [] := hl.2
  rw [hexec, execTransferBackStart, State.act_on _ hl.1, ho]
  dsimp only
  rw [if_pos ⟨hst, hh⟩, ← State.settle_quiet hquiet]
  rfl

theorem State.now48_lt (s : State) : s.now48 < 2 ^ 64 := by
  unfold State.now48 timeCoord
  omega

theorem State.transferring_leaves (s : State) (r : Fin 8) (x : Nat) : (s.transferring r x).railSupply r = supTransfer ∧
    ((s.transferring r x).xfer r).src = x ∧ ((s.transferring r x).xfer r).ramp = 0 ∧
    (s.transferring r x).rd64 (R.SUPPLY_XFER_LAST_LO r) (R.SUPPLY_XFER_LAST_HI r) = s.now48 ∧
    s.sameRegs (s.transferring r x) [R.SUPPLY_STATUS r, R.SUPPLY_XFER_LAST_LO r, R.SUPPLY_XFER_LAST_HI r] := by
  have hx := State.xfer_setXfer s r { lost := [], low := none, revalDone := false, ramp := 0, src := x }
  have hsame : (s.transferring r x).xfer r =
    (s.setXfer r { lost := [], low := none, revalDone := false, ramp := 0, src := x }).xfer r := rfl
  rw [hsame, hx]
  refine ⟨?_, rfl, rfl, ?_, ?_⟩
  · have hlo : R.SUPPLY_STATUS r ≠ R.SUPPLY_XFER_LAST_LO r := by simp only [R.SUPPLY_STATUS, R.SUPPLY_XFER_LAST_LO]; omega
    have hhi : R.SUPPLY_STATUS r ≠ R.SUPPLY_XFER_LAST_HI r := by simp only [R.SUPPLY_STATUS, R.SUPPLY_XFER_LAST_HI]; omega
    rw [State.railSupply, State.f, State.transferring, State.wr64, State.rd_wrN_other _ _ hhi, State.rd_wrN_other _ _ hlo, ← State.f,
      State.f_setF_same _ _ _ _ (by decide)]
    rfl
  · rw [State.transferring, State.rd64_wr64 _ (by simp [R.SUPPLY_XFER_LAST_LO, R.SUPPLY_XFER_LAST_HI]), Nat.mod_eq_of_lt s.now48_lt]
  · have hstart : s.sameRegs (s.setXfer r { lost := [], low := none, revalDone := false, ramp := 0, src := x })
        [R.SUPPLY_STATUS r, R.SUPPLY_XFER_LAST_LO r, R.SUPPLY_XFER_LAST_HI r] := fun _ _ => rfl
    exact ((hstart.setF (by simp) _ _).wrN (by simp) _).wrN (by simp) _

theorem State.sourcedState_cases (s : State) (r : Nat) : s.sourcedState r = supSourced ∨ s.sourcedState r = supSupplement := by
  unfold State.sourcedState
  split
  · exact .inr rfl
  · exact .inl rfl

/-- Settles O31: a loss releases the source's stages and opens its switch, and its rails pass to the packs and back. -/
theorem lossHandsOverAndTransfersBack : Obligations.LossHandsOverAndTransfersBack := by
  unfold Obligations.LossHandsOverAndTransfersBack
  refine ⟨fun s x mv t hl hst => ⟨fun hmv hb ht => ?_, fun n hx => ⟨fun hmv ha ht => ?_, fun p => ?_⟩⟩,
    fun s r hl => ⟨fun hst hd hlost => ?_, fun x l hst ho hh => ?_, fun hst ho hb => ?_⟩⟩
  · have hm := s.setSupV_measured (supNo x) mv
    have hlost := State.loseSupply_lost (s := s.setSupV (supNo x) mv) (hm.state.trans hst) (st := supLost) (by decide)
    obtain ⟨hstate, hstages, hswitch⟩ := hlost.of_same hm.fab fun _ hn => hm.stageReg hn
    refine ⟨_, exec_inputLoss hl hst hmv hb ht, hstate, ⟨hstages, hswitch⟩, fun hx hv => ?_⟩
    have htold := hlost.told hx rfl
    rw [s.setSupV_supV _ hv, hm.lossMv] at htold
    exact htold
  · subst hx
    have hm := s.setSupV_measured n mv
    have hov : ((s.setSupV n mv).hwSet (R.INPUT_STATUS n) F.INPUT_STATUS_OV 1).supState n = supOnline := by
      have hsup : (s.setSupV n mv).supState n = supOnline := hm.state.trans hst
      unfold State.supState at hsup ⊢
      rw [if_pos n.isLt] at hsup
      rw [if_pos n.isLt, State.f_hwSet_field _ _ (by decide) (by decide) (.inl (by decide)), hsup]
    have hlost := State.loseSupply_lost hov (st := supFault) (by decide)
    have hfab : ((s.setSupV n mv).hwSet (R.INPUT_STATUS n) F.INPUT_STATUS_OV 1).fab = s.fab := hm.fab
    have hregs (k : Nat) (hk : k < 8) :=
      (State.rd_hwSet_other (s := s.setSupV n mv) (x := R.STAGE_STATUS k) (o := R.INPUT_STATUS n) F.INPUT_STATUS_OV 1
        (by simp only [R.STAGE_STATUS, R.INPUT_STATUS]; omega)).trans (hm.stageReg hk)
    obtain ⟨hstate, hstages, hswitch⟩ := hlost.of_same hfab hregs
    refine ⟨_, exec_inputOv hl hst hmv ha ht, hstate, ⟨hstages, hswitch⟩, ?_, List.mem_append_right _ List.mem_cons_self⟩
    rw [State.raise_flag_of, State.loseSupply_inputFlag hov n.isLt (by decide) (by decide), State.flag_hwSet_one _ _ (by decide) (by decide)]
  · subst hx
    obtain ⟨hfab, hstate, hregs⟩ := s.inputOff_measured n
    have hon : (s.inputOff n).supState n = supOnline := hstate.trans hst
    have hlost := State.loseSupply_lost hon (st := supLost) (by decide)
    refine ⟨_, exec_inputDisable p hl hst, hlost.state, ⟨fun k hk => hlost.stages k ?_, fun w hw => hlost.switch w ?_⟩, ?_⟩
    · rw [State.stagesOutOf_congr hfab.symm hregs]
      exact hk
    · exact (State.seriesOf_congr hfab.symm _).trans hw
    · rw [State.loseSupply_inputCfg hon n.isLt, State.inputOff, State.flag_setF_zero _ _ (by decide)]
  · obtain ⟨hstate, hlost', hraised⟩ := (s.lowTold66 r).inPacks_leaves r
    obtain ⟨hreg, hxfer, hraised'⟩ := ((s.lowTold66 r).inPacks r).freeLosts_keep (s.xfer r).lost r
    refine ⟨_, exec_handoverComplete hl hst hd, ?_, ?_, fun v hv => ?_, fun hv => ?_⟩
    · rw [State.railSupply, State.f, hreg]
      exact hstate
    · rw [State.xfer, hxfer]
      exact hlost'
    · rw [hraised', hraised, State.lowTold66, hv]
      exact congrArg (· ++ [faultOf 0x66 r (faultRec v (s.f (R.RAIL_STATUS r) F.RAIL_STATUS_REF))]) hl.2
    · rw [hraised', hraised, State.lowTold66, hv]
      exact hl.2
  · exact ⟨_, exec_transferBackStart hl hst ho hh, s.transferring_leaves r x⟩
  · have hexec := exec_powered (c := .transferBackDone r) (g := fun s => if s.railSupply r = supTransfer ∧ ¬ (s.onlineOn r).isEmpty ∧ s.backDone r then
      (s.setXfer r {}).setF (R.SUPPLY_STATUS r) F.SUPPLY_STATUS_STATE (s.sourcedState r) else s) hl rfl
    have hdone : s.backDone r = true := by
      rw [State.backDone, Bool.or_eq_true, decide_eq_true_eq, decide_eq_true_eq]
      exact hb
    have hback : s.sameRegs (s.setXfer r {}) [R.SUPPLY_STATUS r] := fun _ _ => rfl
    rw [if_pos ⟨hst, by simpa using ho, hdone⟩, State.settle_quiet (s := (s.setXfer r {}).setF _ _ _) hl.2] at hexec
    refine ⟨_, hexec, ?_, hback.setF List.mem_cons_self _ _⟩
    rw [State.railSupply, State.f_setF_same _ _ _ _ (by decide)]
    rcases s.sourcedState_cases r with h | h
    · rw [h]
      exact .inl rfl
    · rw [h]
      exact .inr rfl

end Sys2Proof.Machine
end

section
/-! A supply comes ONLINE, and a reverse trip (R144, R150–R152). -/

namespace Sys2Proof.Machine

/-! GATE_OK. -/

/-- What a supply that is ONLINE leaves of the other registers. -/
theorem State.supplyOnline_rd (s : State) (x : Nat) {o : Nat} (hm : o ≠ R.INPUT_2_MPPT_STATUS) (hf : ∀ n, o ≠ R.STAGE_VFLOOR n) :
    (s.supplyOnline x).rd o = (s.setSupState x supOnline).rd o := by
  unfold State.supplyOnline
  dsimp only
  split
  · exact State.setFloor_rd _ _ _ hf
  split
  · split
    · exact State.mpptStart_rd _ _ hm hf
    · rfl
  · rfl

theorem State.supplyOnline_raised (s : State) (x : Nat) : (s.supplyOnline x).raised = s.raised := by
  have hshown : ((s.setSupState x supOnline).setSupply x { s.supply x with ready := false }).raised = s.raised := by
    rw [State.setSupply_raised, s.setSupState_frame]
  unfold State.supplyOnline
  dsimp only
  split
  · rw [State.inputFloor, State.setFloor_frame]
    exact hshown
  split
  · split
    · rw [State.mpptStart_frame]
      exact hshown
    · exact hshown
  · exact hshown

theorem supplyRegs_ne (x w : Nat) : (supReg x ≠ R.INPUT_2_MPPT_STATUS ∧ ∀ n, supReg x ≠ R.STAGE_VFLOOR n) ∧
    R.PSW_STATUS w ≠ R.INPUT_2_MPPT_STATUS ∧ ∀ n, R.PSW_STATUS w ≠ R.STAGE_VFLOOR n := by
  unfold supReg
  simp only [R.INPUT_STATUS, R.PORT_STATUS, R.PSW_STATUS, R.INPUT_2_MPPT_STATUS, R.STAGE_VFLOOR]
  refine ⟨⟨?_, fun n => ?_⟩, ?_, fun n => ?_⟩
  · split <;> omega
  · split <;> omega
  · omega
  · omega

/-- A switch that has closed. -/
def State.gateShown (s : State) (w : Nat) : State := s.setF (R.PSW_STATUS w) F.PSW_STATUS_GATE_OK 1

theorem State.gateShown_online (s : State) (w x : Nat) : ((s.gateShown w).supplyOnline x).pswOk w = true ∧
    ((s.gateShown w).supplyOnline x).supState x = supOnline := by
  obtain ⟨⟨hm, hf⟩, hm', hf'⟩ := supplyRegs_ne x w
  have hpsw : R.PSW_STATUS w ∉ [supReg x] := by
    rw [List.mem_singleton]
    exact (supReg_ne_pswStatus x w).symm
  refine ⟨?_, ?_⟩
  · rw [State.pswOk, State.flag, State.f, State.supplyOnline_rd _ _ hm' hf', State.setSupState_sameRegs _ _ _ _ hpsw, ← State.f, ← State.flag,
      State.gateShown, State.flag_setF_one _ _ (by decide) (by decide)]
  · rw [State.supState_congr (State.supplyOnline_rd _ _ hm hf), State.setSupState_supState _ _ (by decide)]

section
variable {s : State} {w : Fin 12} {x : Nat} (hl : s.live) (hc : s.pswClosed w = true) (hok : s.pswOk w = false) (hrole : s.pswRole w = 1)
  (hsup : supOfNode (s.pswA w) = some x) (hst : s.supState x = supClosing)
include hl hc hok hrole hsup hst

theorem exec_pswGateOk : exec (.pswGateOk w) s = .next ((s.gateShown w).supplyOnline x).settle := by
  have hexec : exec (.pswGateOk w) s = execPswGateOk w s := rfl
  have hpsw : supReg x ≠ R.PSW_STATUS w := supReg_ne_pswStatus x w
  have hstate : (s.gateShown w).supState x = supClosing := (State.supState_congr (State.rd_setF_other _ _ _ hpsw)).trans hst
  have hrole' : (s.gateShown w).pswRole w = 1 := hrole
  have hsup' : supOfNode ((s.gateShown w).pswA w) = some x := hsup
  rw [hexec, execPswGateOk, State.act_on _ hl.1, if_pos ⟨hc, by rw [hok]; decide⟩]
  rw [State.gateShown] at hrole' hsup' hstate ⊢
  dsimp only
  rw [if_pos hrole', hsup']
  dsimp only
  rw [if_pos hstate]

omit hl hc hok in
theorem State.closingSupply_of : s.closingSupply w = some x := by
  rw [State.closingSupply, if_pos hrole, hsup, Option.filter_some, hst]
  rfl

omit hc in
theorem exec_pswGateTimeout (hat : (s.supply x).closeAt + 200000 ≤ s.cyc) :
    exec (.pswGateTimeout w) s = .next (((s.openSwitch w).setSupState x supFault).raise 0x64 w []).settle := by
  have hexec : exec (.pswGateTimeout w) s = execPswGateTimeout w s := rfl
  rw [hexec, execPswGateTimeout, State.act_on _ hl.1, State.closingSupply_of hrole hsup hst]
  dsimp only
  rw [if_pos ⟨hat, by rw [hok]; simp⟩]

end

/-- A switch that did not close in time: it is open, its supply is in FAULT, and the fault is told. -/
theorem State.gateMissed_leaves (s : State) (w : Fin 12) (x : Nat) :
    (((s.openSwitch w).setSupState x supFault).raise 0x64 w []).pswClosed w = false ∧
    (((s.openSwitch w).setSupState x supFault).raise 0x64 w []).supState x = supFault ∧
    (((s.openSwitch w).setSupState x supFault).raise 0x64 w []).raised = s.raised ++ [faultOf 0x64 w []] := by
  refine ⟨?_, ?_, ?_⟩
  · rw [State.pswClosed_congr (State.raise_rd_of _ _ _ _ _), State.setSupState_pswClosed, State.openSwitch_pswClosed]
  · rw [State.supState_congr (State.raise_rd_of _ _ _ _ _), State.setSupState_supState _ _ (by decide)]
  · rw [State.raise]
    dsimp only
    rw [State.setSupState_frame]
    rfl

/-! A reverse trip. -/

/-- What a reverse trip has noted of a switch, as the rest of the step leaves it. -/
structure State.TripKept (s t : State) (w : Nat) : Prop where
  trip : t.flag (R.PSW_STATUS w) F.PSW_STATUS_REV_TRIP = s.flag (R.PSW_STATUS w) F.PSW_STATUS_REV_TRIP
  trips : t.f (R.PSW_STATUS w) F.PSW_STATUS_TRIPS = s.f (R.PSW_STATUS w) F.PSW_STATUS_TRIPS
  hold : (t.psw w).hold = (s.psw w).hold
  raised : s.raised ⊆ t.raised

section
variable {s t u : State} {w : Nat}

theorem State.TripKept.refl (s : State) (w : Nat) : s.TripKept s w := ⟨rfl, rfl, rfl, fun _ h => h⟩

theorem State.TripKept.trans (h : s.TripKept t w) (h' : t.TripKept u w) : s.TripKept u w :=
  ⟨h'.trip.trans h.trip, h'.trips.trans h.trips, h'.hold.trans h.hold, List.Subset.trans h.raised h'.raised⟩

theorem State.TripKept.of_rd (hrd : t.rd (R.PSW_STATUS w) = s.rd (R.PSW_STATUS w)) (hpsw : t.psws = s.psws) (hr : s.raised ⊆ t.raised) :
    s.TripKept t w where
  trip := by rw [State.flag, State.f, hrd, State.flag, State.f]
  trips := by rw [State.f, hrd, State.f]
  hold := by rw [State.psw, hpsw, State.psw]
  raised := hr

theorem State.openSwitch_tripKept (s : State) (k w : Nat) : s.TripKept (s.openSwitch k) w := by
  by_cases hk : k = w
  · subst hk
    have hfld {fld : Fld} (h : fld.lo + fld.w ≤ 32) (hlo : F.PSW_STATUS_PERMIT.lo + F.PSW_STATUS_PERMIT.w ≤ fld.lo) :
        (s.openSwitch k).f (R.PSW_STATUS k) fld = s.f (R.PSW_STATUS k) fld := by
      simp only [F.PSW_STATUS_PERMIT] at hlo
      rw [State.openSwitch, State.f_setF_field (g := F.PSW_STATUS_PERMIT) _ _ (by decide) h (.inr (by simp only [F.PSW_STATUS_PERMIT]; omega)),
        State.f_setF_field (g := F.PSW_STATUS_GATE_OK) _ _ (by decide) h (.inr (by simp only [F.PSW_STATUS_GATE_OK]; omega)),
        State.f_setF_field (g := F.PSW_STATUS_CLOSED) _ _ (by decide) h (.inr (by simp only [F.PSW_STATUS_CLOSED]; omega))]
    exact ⟨by rw [State.flag, hfld (by decide) (by decide), State.flag], hfld (by decide) (by decide), rfl, fun _ h => h⟩
  · have hne : R.PSW_STATUS w ∉ [R.PSW_STATUS k] := by simp only [R.PSW_STATUS, List.mem_singleton]; omega
    exact .of_rd (s.openSwitch_sameRegs k _ hne) rfl fun _ h => h

theorem State.setPsw_tripKept (s : State) (k w : Nat) {r : PswRt} (h : r.hold = (s.psw k).hold) : s.TripKept (s.setPsw k r) w := by
  refine ⟨rfl, rfl, ?_, fun _ h => h⟩
  by_cases hk : w = k
  · rw [hk, State.psw_setPsw, h]
  · rw [State.psw_setPsw_ne _ _ hk]

theorem State.setSupState_tripKept (s : State) (x st w : Nat) : s.TripKept (s.setSupState x st) w := by
  have hne : R.PSW_STATUS w ∉ [supReg x] := by
    rw [List.mem_singleton]
    exact (supReg_ne_pswStatus x w).symm
  refine .of_rd (s.setSupState_sameRegs x st _ hne) (by rw [s.setSupState_frame]) ?_
  rw [s.setSupState_frame]
  exact fun _ h => h

theorem State.startQualify_tripKept (s : State) (x w : Nat) : s.TripKept (s.startQualify x) w := by
  have hne : R.PSW_STATUS w ∉ [supReg x] := by
    rw [List.mem_singleton]
    exact (supReg_ne_pswStatus x w).symm
  refine .of_rd (s.startQualify_sameRegs x _ hne) (by rw [s.startQualify_frame]) ?_
  rw [s.startQualify_frame]
  exact fun _ h => h

theorem State.trigReval_tripKept (s : State) (code : Nat) (w : Nat) : s.TripKept (s.trigReval code) w := by
  have hne : R.PSW_STATUS w ∉ [R.DRILL_STATUS] := by simp only [R.PSW_STATUS, R.DRILL_STATUS, List.mem_singleton]; omega
  exact .of_rd (s.trigReval_sameRegs code _ hne) rfl fun _ h => h

theorem State.sourceReleased_tripKept (s : State) (node w : Nat) : s.TripKept (s.sourceReleased node) w := by
  refine .of_rd (s.sourceReleased_rd node fun n hn hm => ?_) (by rw [s.sourceReleased_frame]) ?_
  · have := releaseRegs_lt hn hm
    simp only [R.PSW_STATUS] at this
    omega
  · rw [s.sourceReleased_raised]
    exact fun _ h => h

theorem State.sourceCut_tripKept (s : State) (node w : Nat) : s.TripKept (s.sourceCut node) w := by
  unfold State.sourceCut
  split
  · exact (s.openSwitch_tripKept _ w).trans (State.setPsw_tripKept _ _ w rfl)
  · exact .refl s w

theorem State.handOver_tripKept (s : State) (x : Nat) (w : Fin 12) : s.TripKept (s.handOver x true) w := by
  obtain ⟨rails, code, h⟩ := s.handOver_eq x
  have hhand := ((s.sourceReleased (supNode x)).sourceCut (supNode x)).railsHanded_handOnly x rails
  have hcut := (s.sourceReleased_tripKept (supNode x) w).trans (State.sourceCut_tripKept _ (supNode x) w)
  rw [h]
  exact (hcut.trans (.of_rd (hhand.pswReg w) (by rw [hhand.frame]) hhand.raised)).trans (State.trigReval_tripKept _ code w)

theorem State.setSupply_tripKept (s : State) (x w : Nat) (r : SupplyRt) : s.TripKept (s.setSupply x r) w := ⟨rfl, rfl, rfl, fun _ h => h⟩

/-- A supply that qualified or closed, back to ABSENT or in FAULT. -/
theorem State.loseSupply_tripKept (s : State) (x st : Nat) (w : Fin 12) : s.TripKept (s.loseSupply x st true) w := by
  by_cases h : s.supState x = supOnline
  · have hshown : s.TripKept (s.lostShown x st) w :=
      (s.setSupState_tripKept x st w).trans (.of_rd (s.lostShown_rd x st _) (by rw [s.lostShown_frame, s.setSupState_frame])
        (by rw [s.lostShown_frame, s.setSupState_frame]; exact fun _ h => h))
    have hhand := hshown.trans ((s.lostShown x st).handOver_tripKept x w)
    rw [State.loseSupply_of_online st h]
    split
    · exact ⟨hhand.trip, hhand.trips, hhand.hold, fun _ h => List.mem_append_left _ (hhand.raised h)⟩
    · exact hhand
  · rw [State.loseSupply, if_neg h]
    split
    · have hstate := s.setSupState_tripKept x (if st = supFault then supFault else supAbsent) w
      refine State.TripKept.trans ?_ (State.startQualify_tripKept _ x w)
      split
      · exact (hstate.trans (State.setSupply_tripKept _ _ _ _)).trans (State.openSwitch_tripKept _ _ _)
      · exact hstate.trans (State.setSupply_tripKept _ _ _ _)
    · exact .refl s w

theorem State.forceOpen_tripKept (s : State) (w : Fin 12) : s.TripKept (s.forceOpen w) w := by
  have hne : ∀ m, R.PSW_STATUS w ≠ R.STAGE_CEIL m := fun m => by
    simp only [R.PSW_STATUS, R.STAGE_CEIL]
    omega
  have hopen := (s.openSwitch_tripKept w w).trans
    (State.setPsw_tripKept _ w w (r := { s.psw w with forced := true, want := false }) rfl)
  have hfill := State.refillHands_ceilOnly ((s.openSwitch w).setPsw w { s.psw w with forced := true, want := false })
  exact (hopen.trans (.of_rd (hfill.2 _ hne) (by rw [hfill.1]) (by rw [hfill.raised]; exact fun _ h => h))).trans (State.trigReval_tripKept _ _ w)

end

/-- A reverse trip noted: its flag, its count, its time and its faults. -/
def State.tripNoted (s : State) (w : Nat) (pack : Bool) : State :=
  let recent := (s.psw w).trips.filter (fun t => decide (s.cyc < t + 200000000))
  let t := (s.hwSet (R.PSW_STATUS w) F.PSW_STATUS_REV_TRIP 1).bump (R.PSW_STATUS w) F.PSW_STATUS_TRIPS 1
  let t := (t.setPsw w { t.psw w with
    trips := (t.cyc :: recent).take 3, hold := pack, tripped := true, egressTrip := (t.psw w).egressTrip || t.safeOn }).raise 0x63 w []
  if 2 ≤ recent.length then t.raise 0x68 w [] else t

theorem State.psw_raise (s : State) (id inst : Nat) (b : List Byte) (w : Nat) : (s.raise id inst b).psw w = s.psw w := rfl

theorem State.tripNoted_leaves (s : State) (w : Nat) (pack : Bool) :
    (s.tripNoted w pack).flag (R.PSW_STATUS w) F.PSW_STATUS_REV_TRIP = true ∧
    (s.tripNoted w pack).f (R.PSW_STATUS w) F.PSW_STATUS_TRIPS = min (s.f (R.PSW_STATUS w) F.PSW_STATUS_TRIPS + 1) 255 ∧
    ((s.tripNoted w pack).psw w).hold = pack ∧ faultOf 0x63 w [] ∈ (s.tripNoted w pack).raised ∧
    (2 ≤ ((s.psw w).trips.filter (fun t => decide (s.cyc < t + 200000000))).length → faultOf 0x68 w [] ∈ (s.tripNoted w pack).raised) := by
  have hflag : ((s.hwSet (R.PSW_STATUS w) F.PSW_STATUS_REV_TRIP 1).bump (R.PSW_STATUS w) F.PSW_STATUS_TRIPS 1).flag (R.PSW_STATUS w)
      F.PSW_STATUS_REV_TRIP = true := by
    rw [State.flag, State.f_bump_field _ _ (by decide) (by decide) (.inl (by decide)), ← State.flag, State.flag_hwSet_one _ _ (by decide) (by decide)]
  have hcount : ((s.hwSet (R.PSW_STATUS w) F.PSW_STATUS_REV_TRIP 1).bump (R.PSW_STATUS w) F.PSW_STATUS_TRIPS 1).f (R.PSW_STATUS w)
      F.PSW_STATUS_TRIPS = min (s.f (R.PSW_STATUS w) F.PSW_STATUS_TRIPS + 1) 255 := by
    rw [State.f_bump_same _ _ _ _ (by decide), State.f_hwSet_field _ _ (by decide) (by decide) (.inr (by decide))]
    rfl
  unfold State.tripNoted
  generalize (s.hwSet (R.PSW_STATUS w) F.PSW_STATUS_REV_TRIP 1).bump (R.PSW_STATUS w) F.PSW_STATUS_TRIPS 1 = t at hflag hcount ⊢
  dsimp only
  split
  · refine ⟨hflag, hcount, ?_, List.mem_append_left _ (List.mem_append_right _ List.mem_cons_self), fun _ =>
      List.mem_append_right _ List.mem_cons_self⟩
    rw [State.psw_raise, State.psw_raise, State.psw_setPsw]
  next hno =>
    refine ⟨hflag, hcount, ?_, List.mem_append_right _ List.mem_cons_self, fun h => absurd h hno⟩
    rw [State.psw_raise, State.psw_setPsw]

/-- The switch of a reverse trip opened, with the loss of its supply. -/
def State.tripOpened (s : State) (w : Nat) : State :=
  match (if s.pswRole w = 1 then supOfNode (s.pswA w) else none) with
  | some x =>
    let s := if x < 3 then s.hwSet (R.INPUT_STATUS x) F.INPUT_STATUS_REV 1 else s
    ((s.loseSupply x supLost true).openSwitch w).trigReval (if x < 3 then 0x0003 else 0x0002)
  | none => s.forceOpen w

theorem State.tripOpened_leaves (s : State) (w : Fin 12) : s.TripKept (s.tripOpened w) w ∧ (s.tripOpened w).pswClosed w = false := by
  unfold State.tripOpened
  split
  next x _ =>
    have hne : R.PSW_STATUS w ∉ [R.DRILL_STATUS] := by simp only [R.PSW_STATUS, R.DRILL_STATUS, List.mem_singleton]; omega
    have hrev : s.TripKept (if x < 3 then s.hwSet (R.INPUT_STATUS x) F.INPUT_STATUS_REV 1 else s) w := by
      split
      · refine .of_rd (State.rd_hwSet_other _ _ _ ?_) rfl fun _ h => h
        simp only [R.PSW_STATUS, R.INPUT_STATUS]
        omega
      · exact .refl s w
    refine ⟨((hrev.trans (State.loseSupply_tripKept _ x _ w)).trans (State.openSwitch_tripKept _ w w)).trans (State.trigReval_tripKept _ _ w), ?_⟩
    dsimp only
    rw [State.pswClosed_congr (State.trigReval_sameRegs _ _ _ hne), State.openSwitch_pswClosed]
  · exact ⟨s.forceOpen_tripKept w, s.forceOpen_pswClosed w w.isLt⟩

/-- A switch between a pack and a rail, whose comparator the two-way permit masks. -/
def State.packSwitch (s : State) (w : Nat) : Bool := isPack (s.pswA w) && s.pswRole w == 1

theorem exec_pswReverseTrip {s : State} {w : Fin 12} (hl : s.live) : exec (.pswReverseTrip w) s = .next
    (if ¬ s.pswClosed w = true ∨ (s.packSwitch w = true ∧ ¬ s.safeOn = true ∧ s.f (R.PSW_STATUS w) F.PSW_STATUS_PERMIT = 3) then s
      else (s.tripNoted w (s.packSwitch w)).tripOpened w).settle :=
  exec_powered (g := fun s =>
    if ¬ s.pswClosed w = true ∨ (s.packSwitch w = true ∧ ¬ s.safeOn = true ∧ s.f (R.PSW_STATUS w) F.PSW_STATUS_PERMIT = 3) then s
      else (s.tripNoted w (s.packSwitch w)).tripOpened w) hl rfl

/-- Settles O30: a supply qualifies and closes its switch, GATE_OK or its absence ends that, and a reverse trip opens a switch. -/
theorem suppliesQualifyAndReverseTrip : Obligations.SuppliesQualifyAndReverseTrip := by
  unfold Obligations.SuppliesQualifyAndReverseTrip
  refine ⟨fun s x mv hl hmv => ⟨fun hst hen hr => ?_, fun hst hr => ?_, fun w hst hready hr hat hw hmay hsafe => ?_,
    fun w hc hok hrole hsup hst => ⟨?_, fun hat => ?_⟩⟩, fun s w hl => ⟨fun hc hp => ?_, fun hp hsafe hperm => ?_, fun hh hat => ?_⟩⟩
  · obtain ⟨hstate, hv, hat, -⟩ := (s.setSupV (supNo x) mv).qualifying_leaves (supNo x)
    refine ⟨_, exec_inputInRange hl hmv hst hen hr, hstate, hv.trans (s.setSupV_supV _ hmv), hat.trans ?_⟩
    rw [(s.setSupV_measured (supNo x) mv).cyc]
  · obtain ⟨hstate, hv, -⟩ := (s.setSupV (supNo x) mv).supplyAbsent_leaves (supNo x)
    exact ⟨_, exec_inputOutOfRange hl hst hr, hstate, hv.trans (s.setSupV_supV _ hmv)⟩
  · have hq := State.qualified_of hst hready hr hat
    exact ⟨_, exec_inputQualifyDone hl hq, State.qualifiedClose_leaves (supNo_lt x) hq hw hmay hsafe⟩
  · have hquiet : ((s.gateShown w).supplyOnline (supNo x)).raised = [] := (State.supplyOnline_raised _ _).trans hl.2
    refine ⟨_, ?_, s.gateShown_online w (supNo x)⟩
    rw [exec_pswGateOk hl hc hok hrole hsup hst, State.settle_quiet hquiet]
  · obtain ⟨hclosed, hstate, hraised⟩ := s.gateMissed_leaves w (supNo x)
    rw [hl.2] at hraised
    exact ⟨_, exec_pswGateTimeout hl hok hrole hsup hst hat, hclosed, hstate, hraised⟩
  · have hgo : ¬ (¬ s.pswClosed w = true ∨ (s.packSwitch w = true ∧ ¬ s.safeOn = true ∧ s.f (R.PSW_STATUS w) F.PSW_STATUS_PERMIT = 3)) := by
      rintro (hno | ⟨hpack, hsafe, hperm⟩)
      · exact hno hc
      · exact (hp hpack).elim (fun h => h hperm) hsafe
    obtain ⟨hflag, hcount, hhold, hfault, hthird⟩ := s.tripNoted_leaves w (s.packSwitch w)
    obtain ⟨hkept, hclosed⟩ := (s.tripNoted w (s.packSwitch w)).tripOpened_leaves w
    refine ⟨_, by rw [exec_pswReverseTrip hl, if_neg hgo], hclosed, hkept.trip.trans hflag, hkept.trips.trans hcount, hkept.raised hfault,
      fun h => hkept.raised (hthird h), hkept.hold.trans hhold⟩
  · rw [exec_pswReverseTrip hl, if_pos (.inr ⟨hp, by rw [hsafe]; decide, hperm⟩), State.settle_quiet hl.2]
  · have hexec := exec_powered (c := .revHoldExpiry w) (g := fun s =>
      if (s.psw w).hold ∧ ((s.psw w).trips.headD 0) + s.f (R.PSW_REV w) F.PSW_REV_REV_HOLD * 2000000 ≤ s.cyc then
        s.setPsw w { s.psw w with hold := false, forced := s.heldSwitch w || (isPack (s.pswA w) && s.heldPack (s.pswA w - 8)) }
      else s) hl rfl
    rw [if_pos ⟨hh, hat⟩, State.settle_quiet (s := s.setPsw w _) hl.2] at hexec
    refine ⟨_, hexec, ?_, rfl⟩
    rw [State.psw_setPsw]

end Sys2Proof.Machine
end

section
/-! Temperature zones, the NTC and the charger's settings (R168–R170, R180, R189, R190, R205). -/

namespace Sys2Proof.Machine

/-! The zone machine comes to rest (R169). -/

/-- The next zone's boundary is reached, with the hysteresis that a cold zone asks for. -/
def zoneUp (b : List Byte) (z : Nat) (t : Int) : Bool :=
  z < 5 && (if z < 2 then decide (t ≥ pfBound b z + pfHyst b) else decide (t ≥ pfBound b z))

/-- The boundary behind is passed, with the hysteresis that a hot zone asks for. -/
def zoneDown (b : List Byte) (z : Nat) (t : Int) : Bool :=
  0 < z && (if z ≤ 3 then decide (t < pfBound b (z - 1)) else decide (t < pfBound b (z - 1) - pfHyst b))

section
variable {b : List Byte} {z : Nat} {t : Int}

theorem zoneMove_succ (fuel : Nat) : zoneMove b z t (fuel + 1) =
    if zoneUp b z t then zoneMove b (z + 1) t fuel else if zoneDown b z t then zoneMove b (z - 1) t fuel else z := rfl

theorem pfHyst_nonneg (b : List Byte) : 0 ≤ pfHyst b := Int.natCast_nonneg _

theorem zoneUp_iff : zoneUp b z t = true ↔ z < 5 ∧ (z < 2 → pfBound b z + pfHyst b ≤ t) ∧ (¬ z < 2 → pfBound b z ≤ t) := by
  unfold zoneUp
  split
  next h => simp [h]
  next h => simp [h]

theorem zoneDown_iff : zoneDown b z t = true ↔
    0 < z ∧ (z ≤ 3 → t < pfBound b (z - 1)) ∧ (¬ z ≤ 3 → t < pfBound b (z - 1) - pfHyst b) := by
  unfold zoneDown
  split
  next h => simp [h]
  next h => simp [h]

theorem zoneUp_bound (h : zoneUp b z t = true) : z < 5 ∧ pfBound b z ≤ t := by
  obtain ⟨hz, hcold, hwarm⟩ := zoneUp_iff.1 h
  have hhyst := pfHyst_nonneg b
  refine ⟨hz, ?_⟩
  by_cases hc : z < 2
  · have := hcold hc
    omega
  · exact hwarm hc

theorem zoneDown_bound (h : zoneDown b z t = true) : 0 < z ∧ t < pfBound b (z - 1) := by
  obtain ⟨hz, hcool, hhot⟩ := zoneDown_iff.1 h
  have hhyst := pfHyst_nonneg b
  refine ⟨hz, ?_⟩
  by_cases hc : z ≤ 3
  · exact hcool hc
  · have := hhot hc
    omega

/-- A move up is not taken back. -/
theorem zoneDown_of_up (h : zoneUp b z t = true) : zoneDown b (z + 1) t = false := by
  have hup := (zoneUp_bound h).2
  rw [Bool.eq_false_iff]
  intro hd
  have hdown := (zoneDown_bound hd).2
  rw [Nat.add_sub_cancel] at hdown
  omega

/-- A move down is not taken back. -/
theorem zoneUp_of_down (h : zoneDown b z t = true) : zoneUp b (z - 1) t = false := by
  have hdown := (zoneDown_bound h).2
  rw [Bool.eq_false_iff]
  intro hu
  have hup := (zoneUp_bound hu).2
  omega

/-- A zone that no boundary moves. -/
def zoneRests (b : List Byte) (z : Nat) (t : Int) : Prop := zoneUp b z t = false ∧ zoneDown b z t = false

theorem zoneMove_of_rests (h : zoneRests b z t) (fuel : Nat) : zoneMove b z t fuel = z := by
  cases fuel with
  | zero => rfl
  | succ fuel => rw [zoneMove_succ, h.1, h.2, if_neg Bool.false_ne_true, if_neg Bool.false_ne_true]

/-- From a zone that does not fall the machine rises, and rests. -/
theorem zoneMove_rises (fuel : Nat) : ∀ z, z ≤ 5 → zoneDown b z t = false → 5 - z < fuel →
    z ≤ zoneMove b z t fuel ∧ zoneMove b z t fuel ≤ 5 ∧ zoneRests b (zoneMove b z t fuel) t := by
  induction fuel with
  | zero => exact fun _ _ _ h => absurd h (Nat.not_lt_zero _)
  | succ fuel ih =>
    intro z hz hd hf
    rw [zoneMove_succ]
    by_cases hu : zoneUp b z t = true
    · have hlt := (zoneUp_bound hu).1
      obtain ⟨hle, hfive, hrest⟩ := ih (z + 1) (by omega) (zoneDown_of_up hu) (by omega)
      rw [if_pos hu]
      exact ⟨by omega, hfive, hrest⟩
    · rw [if_neg hu, hd, if_neg Bool.false_ne_true]
      exact ⟨Nat.le_refl _, hz, Bool.eq_false_iff.2 hu, hd⟩

/-- From a zone that does not rise the machine falls, and rests. -/
theorem zoneMove_falls (fuel : Nat) : ∀ z, zoneUp b z t = false → z < fuel → zoneMove b z t fuel ≤ z ∧ zoneRests b (zoneMove b z t fuel) t := by
  induction fuel with
  | zero => exact fun _ _ h => absurd h (Nat.not_lt_zero _)
  | succ fuel ih =>
    intro z hu hf
    rw [zoneMove_succ, hu, if_neg Bool.false_ne_true]
    by_cases hd : zoneDown b z t = true
    · have hlt := (zoneDown_bound hd).1
      obtain ⟨hle, hrest⟩ := ih (z - 1) (zoneUp_of_down hd) (by omega)
      rw [if_pos hd]
      exact ⟨by omega, hrest⟩
    · rw [if_neg hd]
      exact ⟨Nat.le_refl _, hu, Bool.eq_false_iff.2 hd⟩

/-- Six moves bring any zone to rest, in the direction of its first move. -/
theorem zoneMove_rests (hz : z ≤ 5) : zoneMove b z t 6 ≤ 5 ∧ zoneRests b (zoneMove b z t 6) t ∧
    (z < zoneMove b z t 6 → zoneUp b z t = true) ∧ (zoneMove b z t 6 < z → zoneDown b z t = true) := by
  by_cases hu : zoneUp b z t = true
  · have hlt := (zoneUp_bound hu).1
    obtain ⟨hle, hfive, hrest⟩ := zoneMove_rises (b := b) (t := t) 5 (z + 1) (by omega) (zoneDown_of_up hu) (by omega)
    rw [zoneMove_succ, if_pos hu]
    exact ⟨hfive, hrest, fun _ => hu, fun h => by omega⟩
  · have hu := Bool.eq_false_iff.2 hu
    obtain ⟨hle, hrest⟩ := zoneMove_falls 6 z hu (by omega)
    refine ⟨by omega, hrest, fun h => by omega, fun h => ?_⟩
    by_contra hd
    rw [zoneMove_of_rests ⟨hu, Bool.eq_false_iff.2 hd⟩] at h
    omega

theorem zoneRests_of_between (hlo : 0 < z → pfBound b (z - 1) ≤ t) (hhi : z < 5 → t < pfBound b z) : zoneRests b z t := by
  constructor
  · rw [Bool.eq_false_iff]
    intro hu
    obtain ⟨hz, hb⟩ := zoneUp_bound hu
    have := hhi hz
    omega
  · rw [Bool.eq_false_iff]
    intro hd
    obtain ⟨hz, hb⟩ := zoneDown_bound hd
    have := hlo hz
    omega

/-- A zone stays one of eight. -/
theorem zoneMove_lt (fuel : Nat) : ∀ z, z < 8 → zoneMove b z t fuel < 8 := by
  induction fuel with
  | zero => exact fun _ h => h
  | succ fuel ih =>
    intro z hz
    rw [zoneMove_succ]
    split
    next hu =>
      have := (zoneUp_bound hu).1
      exact ih _ (by omega)
    split
    · exact ih _ (by omega)
    · exact hz

end

/-! The NTC at its nominal resistance (R170). -/

theorem lnFix_self {a : Nat} (h : 0 < a) : lnFix a a = 0 := by
  have hdiv : a / a = 1 := Nat.div_self h
  have hmant : a * 2 ^ 60 / (a * 2 ^ Nat.log2 1) = 2 ^ 60 := by
    have hlog : Nat.log2 1 = 0 := by decide
    rw [hlog, pow_zero, Nat.mul_one, Nat.mul_div_cancel_left _ h]
  have hfrac : log2Bits 40 (2 ^ 60) 0 = 0 := by decide
  unfold lnFix
  simp only [ge_iff_le, Nat.le_refl, if_true, hdiv, hmant, hfrac]
  decide

/-- At the nominal resistance the equation has a result. -/
theorem State.ntcInv_nominal {s : State} {i rNtc : Nat} (hr : rNtc ≠ 0) (hn : rNtc = s.f (R.PACK_NTC_CFG i) F.PACK_NTC_CFG_RNOM * 10)
    (hb : s.f (R.PACK_NTC_CFG i) F.PACK_NTC_CFG_BETA ≠ 0) : s.ntcInv i rNtc ≠ 0 := by
  have hzero : ¬ (rNtc = 0 ∨ rNtc = 0 ∨ s.f (R.PACK_NTC_CFG i) F.PACK_NTC_CFG_BETA = 0) := by
    rintro (h | h | h)
    · exact hr h
    · exact hr h
    · exact hb h
  unfold State.ntcInv
  dsimp only
  rw [← hn, if_neg hzero, lnFix_self (Nat.pos_of_ne_zero hr), Int.zero_ediv]
  decide

/-- At the nominal resistance the reading is 25.0 °C. -/
theorem State.ntcTemp_nominal {s : State} {i rNtc : Nat} (hr : rNtc ≠ 0) (hn : rNtc = s.f (R.PACK_NTC_CFG i) F.PACK_NTC_CFG_RNOM * 10)
    (hb : s.f (R.PACK_NTC_CFG i) F.PACK_NTC_CFG_BETA ≠ 0) : s.ntcTemp i rNtc = (250, s) := by
  unfold State.ntcTemp
  dsimp only
  rw [if_neg (State.ntcInv_nominal hr hn hb), if_pos hn]

theorem State.ntcTemp_frame (s : State) (i rNtc : Nat) : (s.ntcTemp i rNtc).2 = { s with free := (s.ntcTemp i rNtc).2.free } := by
  unfold State.ntcTemp
  dsimp only
  split
  · exact s.takeFree_frame 16
  split
  · rfl
  · exact s.takeFree_frame 1

/-! The temperature of a pack is evaluated. -/

/-- The times of a pack's readings, noted. -/
def State.ntcSeen (s : State) (i rNtc : Nat) : State := (s.staleTemp i).noteNtc i rNtc

theorem State.staleTemp_sameRegs (s : State) (i : Nat) : s.sameRegs (s.staleTemp i) [R.PACK_LINK_STATUS i] :=
  State.sameRegs.ite ((s.sameRegs_refl _).setF List.mem_cons_self _ _) (s.sameRegs_refl _)

theorem State.staleTemp_frame (s : State) (i : Nat) : s.staleTemp i = { s with regs := (s.staleTemp i).regs } := by
  unfold State.staleTemp
  dsimp only
  split
  · rfl
  · rfl

theorem State.noteNtc_pack (s : State) (i rNtc : Nat) : (s.noteNtc i rNtc).pack i = { s.pack i with
    ntcSince := if s.ntcOut i rNtc = (s.pack i).ntcBad then none else some ((s.pack i).ntcSince.getD s.cyc) } := by
  rw [State.noteNtc, State.pack_setPack]

/-- What the readings of a pack leave: all but the link's validity, the times and a free choice. -/
structure State.Read (s t : State) (i : Nat) : Prop where
  raised : t.raised = s.raised
  regs : s.sameRegs t [R.PACK_LINK_STATUS i, R.PACK_TEMP i]
  stale : s.flag (R.PACK_LINK_STATUS i) F.PACK_LINK_STATUS_T_VALID = false → t.flag (R.PACK_LINK_STATUS i) F.PACK_LINK_STATUS_T_VALID = false
  pack : ∃ since, t.pack i = { s.pack i with ntcSince := since }

theorem State.ntcSeen_read (s : State) (i rNtc : Nat) : s.Read (s.ntcSeen i rNtc) i where
  raised := by
    rw [State.ntcSeen, State.noteNtc, State.setPack_raised, s.staleTemp_frame]
  regs := by
    intro o ho
    rw [State.ntcSeen, State.noteNtc, State.setPack_rd_of]
    exact s.staleTemp_sameRegs i _ fun h => ho (List.mem_cons.2 (.inl (List.mem_singleton.1 h)))
  stale h := by
    rw [State.ntcSeen, State.noteNtc, State.setPack_flag_of]
    unfold State.staleTemp
    dsimp only
    split
    · exact State.flag_setF_zero _ _ (by decide)
    · exact h
  pack := by
    have hpack : (s.staleTemp i).pack i = s.pack i := by rw [State.pack, s.staleTemp_frame, State.pack]
    rw [State.ntcSeen, State.noteNtc_pack, hpack]
    exact ⟨_, rfl⟩

/-- The temperature that a pack's NTC gives. -/
def State.tNtc (s : State) (i rNtc : Nat) : Int := ((s.ntcSeen i rNtc).ntcTemp i rNtc).1

/-- The temperature of a pack's NTC shown. -/
def State.ntcShown (s : State) (i rNtc : Nat) : State :=
  ((s.ntcSeen i rNtc).ntcTemp i rNtc).2.setF (R.PACK_TEMP i) F.PACK_TEMP_T_NTC (ofSigned 16 (s.tNtc i rNtc))

theorem packTemp_ne (i : Nat) : R.PACK_LINK_STATUS i ≠ R.PACK_TEMP i := by
  simp only [R.PACK_LINK_STATUS, R.PACK_TEMP]
  omega

theorem State.ntcShown_read (s : State) (i rNtc : Nat) : s.Read (s.ntcShown i rNtc) i := by
  have hseen := s.ntcSeen_read i rNtc
  have hfree := (s.ntcSeen i rNtc).ntcTemp_frame i rNtc
  have hrd (o : Nat) : ((s.ntcSeen i rNtc).ntcTemp i rNtc).2.rd o = (s.ntcSeen i rNtc).rd o := by
    rw [hfree]
    rfl
  refine ⟨?_, fun o ho => ?_, fun h => ?_, ?_⟩
  · rw [State.ntcShown, State.setF_raised, hfree]
    exact hseen.raised
  · rw [State.ntcShown, State.rd_setF_other _ _ _ fun h => ho (by simp [h]), hrd]
    exact hseen.regs o ho
  · rw [State.ntcShown, State.flag_setF_reg _ _ _ _ (packTemp_ne i), State.flag, State.f, hrd, ← State.f, ← State.flag]
    exact hseen.stale h
  · have hpack : (s.ntcShown i rNtc).pack i = (s.ntcSeen i rNtc).pack i := by
      rw [State.ntcShown, State.setF_pack_of, hfree]
      rfl
    rw [hpack]
    exact hseen.pack

/-- The zone that a temperature gives a pack, shown with it; without a temperature what is shown is free. -/
def State.zonePlaced (s : State) (i : Nat) (t : Option Int) : State :=
  let u := if t.isNone then (s.takeFree 16).2 else s
  let tz := t.getD (toSigned 16 (s.takeFree 16).1)
  let u := (u.setF (R.PACK_TEMP i) F.PACK_TEMP_T_ZONE (ofSigned 16 tz)).setZone i (s.placeZone i t)
  u.setPack i { u.pack i with hot := alHot (u.pack i).alarms, vComp := if u.profValid i then vCompOf (u.pack i).prof tz else 0 }

theorem exec_zoneEval {s : State} {i : Fin 4} (rNtc : Nat) (hl : s.live) (hd : s.declared (8 + i.val) = true) : exec (.zoneEval i rNtc) s =
    .next ((s.ntcShown i rNtc).zonePlaced i ((s.ntcShown i rNtc).zoneTemp i (s.tNtc i rNtc))).settle := by
  have hexec : exec (.zoneEval i rNtc) s = execZoneEval i rNtc s := rfl
  rw [hexec, execZoneEval, State.act_on _ hl.1, hd]
  rfl

/-- The temperature and the zone of a pack that are shown. -/
def State.zoneShown (s : State) (i : Nat) (tz : Int) (z : Nat) : State := (s.setF (R.PACK_TEMP i) F.PACK_TEMP_T_ZONE (ofSigned 16 tz)).setZone i z

theorem State.zoneShown_leaves (s : State) (i : Nat) (tz : Int) {z : Nat} (hz : z < 8) : (s.zoneShown i tz z).zoneOf i = z ∧
    (s.zoneShown i tz z).f (R.PACK_TEMP i) F.PACK_TEMP_T_ZONE = ofSigned 16 tz % 65536 ∧
    (s.zoneShown i tz z).f (R.PACK_TEMP i) F.PACK_TEMP_T_NTC = s.f (R.PACK_TEMP i) F.PACK_TEMP_T_NTC := by
  have hne : R.PACK_TEMP i ≠ R.PACK_CHG_STATUS i := by
    simp only [R.PACK_TEMP, R.PACK_CHG_STATUS]
    omega
  refine ⟨?_, ?_, ?_⟩
  · rw [State.zoneShown, State.setZone, State.zoneOf, State.f_setF_same _ _ _ _ (by decide)]
    exact Nat.mod_eq_of_lt hz
  · rw [State.zoneShown, State.setZone, State.f_setF_reg _ _ _ _ hne, State.f_setF_same _ _ _ _ (by decide)]
    rfl
  · rw [State.zoneShown, State.setZone, State.f_setF_reg _ _ _ _ hne, State.f_setF_field _ _ (by decide) (by decide) (.inr (by decide))]

theorem State.placeZone_lt (s : State) (i : Nat) (t : Option Int) : s.placeZone i t < 8 := by
  have hzone : s.zoneOf i < 8 := s.f_lt _ F.PACK_CHG_STATUS_ZONE (by decide)
  unfold State.placeZone
  dsimp only
  split
  · decide
  split
  · decide
  split
  · exact hzone
  split
  · refine Nat.lt_of_le_of_lt (List.length_filter_le _ _) ?_
    rw [List.length_range]
    decide
  · exact zoneMove_lt 6 _ hzone

/-- The readings are drawn before the zone is shown: they leave registers and faults. -/
theorem State.zonePlaced_eq (s : State) (i : Nat) (t : Option Int) : ∃ (u : State) (tz : Int) (r : PackRt),
    s.zonePlaced i t = (u.zoneShown i tz (s.placeZone i t)).setPack i r ∧ u.raised = s.raised ∧ (∀ o, u.rd o = s.rd o) ∧
    ∀ x, t = some x → tz = x := by
  refine ⟨if t.isNone then (s.takeFree 16).2 else s, t.getD (toSigned 16 (s.takeFree 16).1), _, rfl, ?_, fun o => ?_, fun x hx => ?_⟩
  · split
    · rw [s.takeFree_frame]
    · rfl
  · split
    · rw [s.takeFree_frame]
      rfl
    · rfl
  · rw [hx, Option.getD_some]

theorem State.zonePlaced_leaves (s : State) (i : Nat) (t : Option Int) : (s.zonePlaced i t).raised = s.raised ∧
    (s.zonePlaced i t).zoneOf i = s.placeZone i t ∧
    (s.zonePlaced i t).f (R.PACK_TEMP i) F.PACK_TEMP_T_NTC = s.f (R.PACK_TEMP i) F.PACK_TEMP_T_NTC ∧
    ∀ x, t = some x → (s.zonePlaced i t).f (R.PACK_TEMP i) F.PACK_TEMP_T_ZONE = ofSigned 16 x % 65536 := by
  obtain ⟨u, tz, r, h, hraised, hrd, htz⟩ := s.zonePlaced_eq i t
  obtain ⟨hzone, htemp, hntc⟩ := u.zoneShown_leaves i tz (s.placeZone_lt i t)
  rw [h]
  refine ⟨?_, ?_, ?_, fun x hx => ?_⟩
  · rw [State.setPack_raised]
    exact hraised
  · rw [State.zoneOf, State.setPack_f_of, ← State.zoneOf, hzone]
  · rw [State.setPack_f_of, hntc, State.f, hrd, State.f]
  · rw [State.setPack_f_of, htemp, htz x hx]

/-- What a pack's zone rests on, beside the readings. -/
theorem State.Read.placeZone {s t : State} {i : Nat} (h : s.Read t i) (temp : Option Int) : t.placeZone i temp = s.placeZone i temp := by
  obtain ⟨since, hpack⟩ := h.pack
  have hstatus : t.rd (R.PACK_CHG_STATUS i) = s.rd (R.PACK_CHG_STATUS i) := h.regs _ (by
    simp only [R.PACK_CHG_STATUS, R.PACK_LINK_STATUS, R.PACK_TEMP, List.mem_cons, List.not_mem_nil, or_false]
    omega)
  have hprofile : t.rd (R.PACK_PROFILE i) = s.rd (R.PACK_PROFILE i) := h.regs _ (by
    simp only [R.PACK_PROFILE, R.PACK_LINK_STATUS, R.PACK_TEMP, List.mem_cons, List.not_mem_nil, or_false]
    omega)
  unfold State.placeZone State.profValid State.zoneOf State.f
  rw [hpack, hstatus, hprofile]

theorem State.Read.ntcBad {s t : State} {i : Nat} (h : s.Read t i) : (t.pack i).ntcBad = (s.pack i).ntcBad := by
  obtain ⟨since, hpack⟩ := h.pack
  rw [hpack]

/-- An evaluation's result by the pack's alarm, its sensor and its zones. -/
theorem exec_zoneEval_cases {s : State} {i : Fin 4} {rNtc : Nat} (hl : s.live) (hd : s.declared (8 + i.val) = true) :
    ∃ t, exec (.zoneEval i rNtc) s = .next t ∧ (alHot (s.pack i).alarms = true → t.zoneOf i = 5) ∧
      ((s.pack i).ntcBad = true → s.flag (R.PACK_LINK_STATUS i) F.PACK_LINK_STATUS_T_VALID = false → t.zoneOf i = 5) ∧
      (alHot (s.pack i).alarms = false → (s.pack i).hot = false → (s.pack i).ntcBad = false → s.profValid i = true →
        s.flag (R.PACK_LINK_STATUS i) F.PACK_LINK_STATUS_T_VALID = false → rNtc ≠ 0 →
        rNtc = s.f (R.PACK_NTC_CFG i) F.PACK_NTC_CFG_RNOM * 10 → s.f (R.PACK_NTC_CFG i) F.PACK_NTC_CFG_BETA ≠ 0 →
        t.f (R.PACK_TEMP i) F.PACK_TEMP_T_NTC = 250 ∧ t.f (R.PACK_TEMP i) F.PACK_TEMP_T_ZONE = 250 ∧
        t.zoneOf i = zoneMove (s.pack i).prof (s.zoneOf i) 250 6) := by
  have hread := s.ntcShown_read i rNtc
  have hplaced := (s.ntcShown i rNtc).zonePlaced_leaves i ((s.ntcShown i rNtc).zoneTemp i (s.tNtc i rNtc))
  obtain ⟨hraised, hzone, hntc, htemp⟩ := hplaced
  have hquiet := (hraised.trans hread.raised).trans hl.2
  rw [hread.placeZone] at hzone
  refine ⟨_, by rw [exec_zoneEval rNtc hl hd, State.settle_quiet hquiet], fun hhot => ?_, fun hbad hvalid => ?_,
    fun hcool hhot hbad hprof hvalid hr hn hb => ?_⟩
  · rw [hzone]
    unfold State.placeZone
    dsimp only
    rw [if_pos hhot]
  · have hnone : (s.ntcShown i rNtc).zoneTemp i (s.tNtc i rNtc) = none := by
      rw [State.zoneTemp, hread.stale hvalid, hread.ntcBad, hbad]
      rfl
    rw [hzone, hnone]
    unfold State.placeZone
    dsimp only
    split
    · rfl
    · rfl
  · have hseen := s.ntcSeen_read i rNtc
    have hcfg (fld : Fld) : (s.ntcSeen i rNtc).f (R.PACK_NTC_CFG i) fld = s.f (R.PACK_NTC_CFG i) fld := hseen.regs.f _ (by
      simp only [R.PACK_NTC_CFG, R.PACK_LINK_STATUS, R.PACK_TEMP, List.mem_cons, List.not_mem_nil, or_false]
      omega) _
    have htn : s.tNtc i rNtc = 250 := by
      rw [State.tNtc, State.ntcTemp_nominal hr (by rw [hcfg]; exact hn) (by rw [hcfg]; exact hb)]
    have hsome : (s.ntcShown i rNtc).zoneTemp i (s.tNtc i rNtc) = some 250 := by
      rw [State.zoneTemp, hread.stale hvalid, hread.ntcBad, hbad, htn]
      rfl
    refine ⟨?_, (htemp 250 hsome).trans (by decide), ?_⟩
    · rw [hntc, State.ntcShown, State.f_setF_same _ _ _ _ (by decide), htn]
      decide
    · rw [hzone, hsome]
      unfold State.placeZone
      dsimp only
      rw [hcool, hhot, hprof]
      rfl

/-! The NTC out of its range, and back (R170). -/

/-- A reading held on the other side of the range since a time. -/
theorem State.noteNtc_held {s : State} {i rNtc since : Nat} (hs : (s.pack i).ntcSince = some since) (hat : since + 200000000 ≤ s.cyc)
    (hother : s.ntcOut i rNtc ≠ (s.pack i).ntcBad) : (s.noteNtc i rNtc).ntcHeld i = true ∧
    ((s.noteNtc i rNtc).pack i).ntcBad = (s.pack i).ntcBad := by
  have hpack := s.noteNtc_pack i rNtc
  rw [if_neg hother, hs, Option.getD_some] at hpack
  refine ⟨?_, ?_⟩
  · rw [State.ntcHeld, hpack]
    exact decide_eq_true hat
  · rw [hpack]

/-- The sensor of a pack counted as bad or good from now on. -/
def State.ntcMarked (s : State) (i rNtc : Nat) (bad : Bool) : State :=
  (s.noteNtc i rNtc).setPack i { (s.noteNtc i rNtc).pack i with ntcBad := bad, ntcSince := none }

/-- What a latched charge fault leaves of a pack. -/
structure State.Latched (s t : State) (i : Fin 4) : Prop where
  state : t.chState i = chLocked
  ntcBad : (t.pack i).ntcBad = (s.pack i).ntcBad
  link : t.rd (R.PACK_LINK_STATUS i) = s.rd (R.PACK_LINK_STATUS i)

theorem State.leaveCharging_chState (s : State) (i : Nat) {st : Nat} (h : st < 8) : (s.leaveCharging i st).chState i = st := by
  rw [State.leaveCharging, State.chState, State.setPack_f_of, State.f_setF_field _ _ (by decide) (by decide) (.inl (by decide))]
  exact State.setChState_chState s i h

theorem State.leaveCharging_sameRegs (s : State) (i st : Nat) : s.sameRegs (s.leaveCharging i st) [R.PACK_CHG_STATUS i] :=
  State.sameRegs.setF (t := s.setChState i st) ((s.sameRegs_refl _).setF List.mem_cons_self _ _) List.mem_cons_self F.PACK_CHG_STATUS_THERM 0

theorem planReg_not_pack (i : Fin 4) : ¬ PlanReg (R.PACK_CHG_STATUS i) ∧ ¬ PlanReg (R.PACK_LINK_STATUS i) ∧ ¬ PlanReg (R.PACK_CHG_CFG i) := by
  refine ⟨fun h => ?_, fun h => ?_, fun h => ?_⟩
  · obtain ⟨n, h⟩ := h.offset
    simp only [R.PACK_CHG_STATUS] at h
    omega
  · obtain ⟨n, h⟩ := h.offset
    simp only [R.PACK_LINK_STATUS] at h
    omega
  · obtain ⟨n, h⟩ := h.offset
    simp only [R.PACK_CHG_CFG] at h
    omega

theorem State.endChargeLocked_planOnly (s : State) (i : Nat) : s.PlanOnly (s.endChargeLocked i) :=
  (State.PlanOnly.refl s).foldl fun _ _ hu => hu.breachSlot

theorem setpt_ne (i : Nat) : R.PACK_CHG_STATUS i ∉ [R.PACK_CHG_SETPT i] ∧ R.PACK_LINK_STATUS i ∉ [R.PACK_CHG_SETPT i] := by
  simp only [R.PACK_CHG_STATUS, R.PACK_LINK_STATUS, R.PACK_CHG_SETPT, List.mem_singleton]
  omega

theorem State.lockCharge_latched (s : State) (i : Fin 4) : s.Latched (s.lockCharge i) i := by
  unfold State.lockCharge
  split
  next h => exact ⟨h, rfl, rfl⟩
  next h =>
    have hplan := (s.leaveCharging i chLocked).endChargeLocked_planOnly i
    obtain ⟨hstatus, hlink, -⟩ := planReg_not_pack i
    obtain ⟨hset, hset'⟩ := setpt_ne i
    have hpack : (((s.leaveCharging i chLocked).endChargeLocked i).showRefs i).pack i = (s.leaveCharging i chLocked).pack i := by
      rw [State.showRefs_pack, State.pack, hplan.1, State.pack]
    refine ⟨?_, ?_, ?_⟩
    · rw [State.chState, (State.showRefs_sameRegs _ _).f _ hset, State.f, hplan.2 _ hstatus, ← State.f, ← State.chState,
        State.leaveCharging_chState _ _ (by decide)]
    · rw [hpack, State.leaveCharging, State.pack_setPack]
    · rw [State.showRefs_sameRegs _ _ _ hset', hplan.2 _ hlink, State.leaveCharging_sameRegs _ _ _ _ (by
        simp only [R.PACK_LINK_STATUS, R.PACK_CHG_STATUS, List.mem_singleton]
        omega)]

/-- A latch noted: its register, its copy for a reset, and the record that waits. -/
def State.latchNoted (s : State) (i id : Nat) : State :=
  let w := id + 256 * s.phaseOf i + 4096 * s.zoneOf i
  let u := s.wrN (R.PACK_CHG_FAULT i) w
  ({ u with fw := { u.fw with latches := u.fw.latches.set i w } } : State).bbQueue 3 i
    ([BitVec.ofNat 8 id, BitVec.ofNat 8 (u.phaseOf i), BitVec.ofNat 8 (u.zoneOf i), 0#8]
      ++ leBytes 2 (s.rdN (R.PACK_CHG_TIMER i) % 65536) ++ leBytes 2 (s.rdN (R.PACK_CHG_TIMER i) / 65536) ++ leBytes 2 (u.pack i).vPack
      ++ leBytes 2 (u.f (R.PACK_TEMP i) F.PACK_TEMP_T_ZONE))

theorem State.latchCharge_eq (s : State) (i id : Nat) (record : List Byte) : s.latchCharge i id record =
    ((if s.chState i = chLocked then s else s.latchNoted i id).lockCharge i).raise id i record := rfl

theorem State.latchCharge_latched (s : State) (i : Fin 4) (id : Nat) (record : List Byte) : s.Latched (s.latchCharge i id record) i ∧
    faultOf id i record ∈ (s.latchCharge i id record).raised := by
  have hnote : ((s.latchNoted i id).pack i).ntcBad = (s.pack i).ntcBad ∧
      (s.latchNoted i id).rd (R.PACK_LINK_STATUS i) = s.rd (R.PACK_LINK_STATUS i) := by
    have hqueue (u : State) (b : List Byte) : (u.bbQueue 3 i b).packs = u.packs ∧
        (u.bbQueue 3 i b).rd (R.PACK_LINK_STATUS i) = u.rd (R.PACK_LINK_STATUS i) := by
      have hsig := (State.SignalOnly.refl u).bbQueue (kind := 3) (sub := i) (body := b)
      refine ⟨by rw [hsig.1], hsig.2 _ fun h => ?_⟩
      have h := h.offset
      simp only [R.PACK_LINK_STATUS] at h
      omega
    have hfault : R.PACK_LINK_STATUS i ≠ R.PACK_CHG_FAULT i := by
      simp only [R.PACK_LINK_STATUS, R.PACK_CHG_FAULT]
      omega
    constructor
    · rw [State.pack, State.latchNoted, (hqueue _ _).1]
      rfl
    · rw [State.latchNoted, (hqueue _ _).2]
      exact State.rd_wrN_other _ _ hfault
  rw [s.latchCharge_eq]
  refine ⟨?_, List.mem_append_right _ List.mem_cons_self⟩
  split
  · obtain ⟨hstate, hbad, hlink⟩ := s.lockCharge_latched i
    exact ⟨hstate, hbad, hlink⟩
  · obtain ⟨hstate, hbad, hlink⟩ := (s.latchNoted i id).lockCharge_latched i
    exact ⟨hstate, hbad.trans hnote.1, hlink.trans hnote.2⟩

/-- A pack without a temperature is in Z5. -/
def State.zoneLost (s : State) (i : Nat) : State :=
  if s.flag (R.PACK_LINK_STATUS i) F.PACK_LINK_STATUS_T_VALID then s else s.setZone i 5

theorem exec_ntcFault {s : State} {i : Fin 4} {rNtc since : Nat} (hl : s.live) (hd : s.declared (8 + i.val) = true)
    (hs : (s.pack i).ntcSince = some since) (hat : since + 200000000 ≤ s.cyc) (hb : (s.pack i).ntcBad = false)
    (ho : s.ntcOut i rNtc = true) : exec (.ntcFault i rNtc) s =
    .next (((s.ntcMarked i rNtc true).latchCharge i 0x54 (faultRec rNtc 0)).zoneLost i).settle := by
  have hexec : exec (.ntcFault i rNtc) s = execNtcFault i rNtc s := rfl
  obtain ⟨hheld, hbad⟩ := State.noteNtc_held hs hat (by rw [ho, hb]; decide)
  rw [hexec, execNtcFault, State.act_on _ hl.1, hd, if_neg (by decide)]
  dsimp only
  rw [hbad, hb, hheld, if_neg (by decide)]
  rfl

theorem State.zoneLost_leaves (s : State) (i : Nat) : (s.zoneLost i).raised = s.raised ∧ (s.zoneLost i).pack i = s.pack i ∧
    (s.zoneLost i).chState i = s.chState i ∧
    (s.flag (R.PACK_LINK_STATUS i) F.PACK_LINK_STATUS_T_VALID = false → (s.zoneLost i).zoneOf i = 5) := by
  unfold State.zoneLost
  split
  next h => exact ⟨rfl, rfl, rfl, fun hv => absurd h (by rw [hv]; decide)⟩
  next h =>
    refine ⟨rfl, rfl, State.f_setF_field _ _ (by decide) (by decide) (.inl (by decide)), fun _ => ?_⟩
    rw [State.setZone, State.zoneOf, State.f_setF_same _ _ _ _ (by decide)]
    rfl

theorem State.ntcMarked_leaves (s : State) (i rNtc : Nat) (bad : Bool) : ((s.ntcMarked i rNtc bad).pack i).ntcBad = bad ∧
    (s.ntcMarked i rNtc bad).raised = s.raised ∧ ∀ o, (s.ntcMarked i rNtc bad).rd o = s.rd o := by
  refine ⟨?_, rfl, fun _ => rfl⟩
  rw [State.ntcMarked, State.pack_setPack]

theorem exec_ntcRecovered {s : State} {i : Fin 4} {rNtc since : Nat} (hl : s.live) (hs : (s.pack i).ntcSince = some since)
    (hat : since + 200000000 ≤ s.cyc) (hb : (s.pack i).ntcBad = true) (ho : s.ntcOut i rNtc = false) : exec (.ntcRecovered i rNtc) s =
    .next ((s.ntcMarked i rNtc false).causeGone 0x54 i).settle := by
  have hexec : exec (.ntcRecovered i rNtc) s = execNtcRecovered i rNtc s := rfl
  obtain ⟨hheld, hbad⟩ := State.noteNtc_held hs hat (by rw [ho, hb]; decide)
  rw [hexec, execNtcRecovered, State.act_on _ hl.1]
  dsimp only
  rw [hbad, hb, hheld, if_pos ⟨rfl, rfl⟩]
  rfl

/-! The charger's watchdog (R189). -/

/-- The period of the charger's watchdog in seconds. -/
def State.chgWdtSec (s : State) (i : Nat) : Nat := min 600 (max 10 (s.f (R.PACK_CHG_CFG i) F.PACK_CHG_CFG_WDT_S))

theorem State.chgWdtCycles_div (s : State) (i : Nat) : s.chgWdtCycles i / 200000000 = s.chgWdtSec i :=
  Nat.mul_div_cancel _ (by decide)

theorem State.expireChg_sameRegs (s : State) (i : Nat) : s.sameRegs (s.expireChg i) [R.PACK_CHG_STATUS i] :=
  State.sameRegs.ite (((s.sameRegs_refl _).setF List.mem_cons_self _ _).raise _ _ _) (s.sameRegs_refl _)

theorem State.expireChg_of_early {s : State} {i : Nat} (h : s.cyc < (s.pack i).wdtAt + s.chgWdtCycles i) : s.expireChg i = s := by
  rw [State.expireChg, if_neg]
  rintro ⟨-, -, hat⟩
  omega

/-- The watchdog of a pack's charger restarted. -/
def State.kicked (s : State) (i : Nat) : State :=
  ((s.expireChg i).setPack i { (s.expireChg i).pack i with wdtAt := (s.expireChg i).cyc }).setF (R.PACK_CHG_STATUS i)
    F.PACK_CHG_STATUS_WDT_EXP 0

theorem State.kickChg_of_key {s : State} (i : Nat) {v : Word} (h : getBits v 0 8 = 0xA5) : s.kickChg i v = s.kicked i := by
  rw [State.kickChg, if_pos h]
  rfl

theorem State.kicked_leaves (s : State) (i : Nat) : ((s.kicked i).pack i).wdtAt = s.cyc ∧
    (s.kicked i).flag (R.PACK_CHG_STATUS i) F.PACK_CHG_STATUS_WDT_EXP = false ∧ s.sameRegs (s.kicked i) [R.PACK_CHG_STATUS i] ∧
    (s.cyc < (s.pack i).wdtAt + s.chgWdtCycles i → (s.kicked i).raised = s.raised) := by
  have hcyc : (s.expireChg i).cyc = s.cyc := by
    unfold State.expireChg
    split
    · rfl
    · rfl
  have hregs : s.sameRegs ((s.expireChg i).setPack i { (s.expireChg i).pack i with wdtAt := (s.expireChg i).cyc }) [R.PACK_CHG_STATUS i] :=
    s.expireChg_sameRegs i
  refine ⟨?_, State.flag_setF_zero _ _ (by decide), hregs.setF List.mem_cons_self _ _, fun h => ?_⟩
  · rw [State.kicked, State.setF_pack_of, State.pack_setPack, hcyc]
  · rw [State.kicked, State.setF_raised, State.setPack_raised, State.expireChg_of_early h]

theorem exec_chgWdtExpiry {s : State} (i : Fin 4) (hl : s.live) : exec (.chgWdtExpiry i) s = .next (s.expireChg i).settle :=
  exec_powered (g := fun s => s.expireChg i) hl rfl

/-- The watchdog of a charger that nothing kicks for its whole period. -/
theorem State.expireChg_of_due {s : State} {i : Nat} (hr : s.raised = []) (hen : s.flag (R.PACK_CHG_CFG i) F.PACK_CHG_CFG_WDT_EN = true)
    (hexp : s.flag (R.PACK_CHG_STATUS i) F.PACK_CHG_STATUS_WDT_EXP = false)
    (hat : (s.pack i).wdtAt + min 600 (max 10 (s.f (R.PACK_CHG_CFG i) F.PACK_CHG_CFG_WDT_S)) * 200000000 ≤ s.cyc) :
    (s.expireChg i).flag (R.PACK_CHG_STATUS i) F.PACK_CHG_STATUS_WDT_EXP = true ∧
    s.onlyRegs (s.expireChg i) [R.PACK_CHG_STATUS i] [faultOf 0x52 i (faultRec (s.chgWdtSec i) (s.chgWdtSec i))] := by
  have hdue : s.flag (R.PACK_CHG_CFG i) F.PACK_CHG_CFG_WDT_EN = true ∧ ¬ s.flag (R.PACK_CHG_STATUS i) F.PACK_CHG_STATUS_WDT_EXP = true ∧
      (s.pack i).wdtAt + s.chgWdtCycles i ≤ s.cyc := ⟨hen, by rw [hexp]; decide, hat⟩
  rw [State.expireChg, if_pos hdue, s.chgWdtCycles_div]
  refine ⟨?_, ((State.onlyRegs_refl hr _).setF List.mem_cons_self _ _).raise _ _ _⟩
  rw [State.flag, State.raise_f_of, ← State.flag]
  exact State.flag_setF_one _ _ (by decide) (by decide)

/-! The charge configuration (R180, R190). -/

/-- A single bit of a register that took a word under a mask. -/
theorem State.flag_of_masked {s : State} {o k : Nat} {v m : Word} (h : s.rd o = v &&& m) (hm : m.getLsbD k = true) :
    s.flag o ⟨k, 1⟩ = v.getLsbD k := by
  rw [State.flag, State.f, h, getBits_one, BitVec.getLsbD_and, hm, Bool.and_true]
  cases v.getLsbD k
  · rfl
  · rfl

/-- A charge function that starts. -/
def State.chargeStarted (s : State) (i st : Nat) : State := (((s.setChState i st).endAtRest i).showRefs i).secMark i

theorem State.endAtRest_planOnly (s : State) (i : Nat) : s.PlanOnly (s.endAtRest i) :=
  State.PlanOnly.ite ((State.PlanOnly.refl s).foldl fun _ _ hu => hu.breachSlot) (State.PlanOnly.refl s)

theorem State.endAtRest_of_flowing {s : State} {i : Nat} (hr : pfMode (s.pack i).prof (s.phaseOf i) ≠ mdRest)
    (hf : pfMode (s.pack i).prof (s.phaseOf i) ≠ mdFloat) : s.endAtRest i = s :=
  if_neg fun h => h.elim hr hf

theorem State.chargeDemand_eq (s : State) (i : Nat) : s.chargeDemand i =
    let u := s.setF (R.PACK_CHG_STATUS i) F.PACK_CHG_STATUS_DEMAND (s.demandOf i)
    if u.chState i = chStopped ∧ s.demandOf i ≠ 0 ∧ u.flag (R.PACK_CHG_CFG i) F.PACK_CHG_CFG_CHG_EN = true ∧ u.profValid i = true ∧
        u.f (R.PACK_CHG_FAULT i) F.PACK_CHG_FAULT_CAUSE = 0 ∧ ¬ u.heldCharge i = true then
      u.chargeStarted i (if pfMode (u.pack i).prof (u.phaseOf i) = mdRest then chRest else chCharging)
    else if (u.chState i = chCharging ∨ u.chState i = chPaused ∨ u.chState i = chRest) ∧
        (s.demandOf i = 0 ∨ ¬ u.flag (R.PACK_CHG_CFG i) F.PACK_CHG_CFG_CHG_EN = true) then (u.leaveCharging i chStopped).showRefs i
    else u := rfl

/-- What a new demand of a pack's charge function leaves: its configuration and its watchdog. -/
structure State.Demanded (s t : State) (i : Nat) : Prop where
  cfg : t.rd (R.PACK_CHG_CFG i) = s.rd (R.PACK_CHG_CFG i)
  wdtExp : t.flag (R.PACK_CHG_STATUS i) F.PACK_CHG_STATUS_WDT_EXP = s.flag (R.PACK_CHG_STATUS i) F.PACK_CHG_STATUS_WDT_EXP
  quiet : pfMode (s.pack i).prof (s.phaseOf i) ≠ mdRest → pfMode (s.pack i).prof (s.phaseOf i) ≠ mdFloat →
    s.sameRegs t [R.PACK_CHG_STATUS i, R.PACK_CHG_SETPT i] ∧ t.raised = s.raised

section
variable {s t : State} {i : Fin 4}

theorem State.Demanded.setF (g : Fld) (v : Nat) (hg : g.lo + g.w ≤ 32) (hw : g.lo + g.w ≤ 14 ∨ 15 ≤ g.lo) :
    s.Demanded (s.setF (R.PACK_CHG_STATUS i) g v) i where
  cfg := State.rd_setF_other _ _ _ (by
    simp only [R.PACK_CHG_CFG, R.PACK_CHG_STATUS]
    omega)
  wdtExp := State.flag_setF_field _ _ hg (by decide) hw.symm
  quiet _ _ := ⟨(s.sameRegs_refl _).setF List.mem_cons_self _ _, rfl⟩

theorem State.Demanded.showRefs (h : s.Demanded t i) : s.Demanded (t.showRefs i) i where
  cfg := (t.showRefs_sameRegs i _ (by
    simp only [R.PACK_CHG_CFG, R.PACK_CHG_SETPT, List.mem_singleton]
    omega)).trans h.cfg
  wdtExp := by rw [State.flag, State.showRefs_chargeStatus, ← State.flag, h.wdtExp]
  quiet hr hf := by
    obtain ⟨hregs, hraised⟩ := h.quiet hr hf
    have ho : R.PACK_CHG_SETPT i ∈ [R.PACK_CHG_STATUS i, R.PACK_CHG_SETPT i] := List.mem_cons_of_mem _ List.mem_cons_self
    exact ⟨(hregs.setF ho _ _).setF ho _ _, hraised⟩

theorem State.chargeStarted_demanded (s : State) (i : Fin 4) (st : Nat) : s.Demanded (s.chargeStarted i st) i := by
  have hset : s.Demanded (s.setChState i st) i := .setF _ _ (by decide) (.inl (by decide))
  have hrest : s.Demanded ((s.setChState i st).endAtRest i) i := by
    have hplan := (s.setChState i st).endAtRest_planOnly i
    obtain ⟨hstatus, -, hcfg⟩ := planReg_not_pack i
    refine ⟨(hplan.2 _ hcfg).trans hset.cfg, ?_, fun hr hf => ?_⟩
    · rw [State.flag, State.f, hplan.2 _ hstatus, ← State.f, ← State.flag, hset.wdtExp]
    · have hphase : (s.setChState i st).phaseOf i = s.phaseOf i :=
        State.f_setF_field _ _ (by decide) (by decide) (.inr (by decide))
      rw [State.endAtRest_of_flowing (by rw [hphase]; exact hr) (by rw [hphase]; exact hf)]
      exact hset.quiet hr hf
  obtain ⟨hcfg, hwdt, hquiet⟩ := hrest.showRefs
  exact ⟨hcfg, hwdt, hquiet⟩

theorem State.chargeStarted_chState (s : State) (i : Fin 4) {st : Nat} (h : st < 8) : (s.chargeStarted i st).chState i = st := by
  have hplan := (s.setChState i st).endAtRest_planOnly i
  rw [State.chargeStarted, State.chState, State.secMark_f, State.showRefs_chargeStatus, State.f, hplan.2 _ (planReg_not_pack i).1, ← State.f,
    ← State.chState, s.setChState_chState i h]

theorem State.Demanded.trans {u : State} (h : s.Demanded t i) (h' : t.Demanded u i) (hp : (t.pack i).prof = (s.pack i).prof)
    (hph : t.phaseOf i = s.phaseOf i) : s.Demanded u i where
  cfg := h'.cfg.trans h.cfg
  wdtExp := h'.wdtExp.trans h.wdtExp
  quiet hr hf := by
    obtain ⟨hregs, hraised⟩ := h.quiet hr hf
    obtain ⟨hregs', hraised'⟩ := h'.quiet (by rw [hp, hph]; exact hr) (by rw [hp, hph]; exact hf)
    exact ⟨hregs.trans hregs', hraised'.trans hraised⟩

theorem State.leaveCharging_demanded (s : State) (i : Fin 4) (st : Nat) : s.Demanded (s.leaveCharging i st) i where
  cfg := s.leaveCharging_sameRegs i st _ (by
    simp only [R.PACK_CHG_CFG, R.PACK_CHG_STATUS, List.mem_singleton]
    omega)
  wdtExp := by
    rw [State.leaveCharging, State.setPack_flag_of, State.flag_setF_field _ _ (by decide) (by decide) (.inr (by decide)), State.setChState,
      State.flag_setF_field _ _ (by decide) (by decide) (.inr (by decide))]
  quiet _ _ := ⟨(s.leaveCharging_sameRegs i st).mono (by simp), rfl⟩

theorem State.chargeDemand_demanded (s : State) (i : Fin 4) : s.Demanded (s.chargeDemand i) i := by
  have hset : s.Demanded (s.setF (R.PACK_CHG_STATUS i) F.PACK_CHG_STATUS_DEMAND (s.demandOf i)) i :=
    .setF _ _ (by decide) (.inr (by decide))
  have hphase : (s.setF (R.PACK_CHG_STATUS i) F.PACK_CHG_STATUS_DEMAND (s.demandOf i)).phaseOf i = s.phaseOf i :=
    State.f_setF_field _ _ (by decide) (by decide) (.inl (by decide))
  rw [State.chargeDemand_eq]
  dsimp only
  split
  · exact hset.trans (State.chargeStarted_demanded _ i _) rfl hphase
  split
  · exact hset.trans (State.leaveCharging_demanded _ i _).showRefs rfl hphase
  · exact hset

/-- A demand with nothing against it starts a stopped charge function. -/
theorem State.chargeDemand_starts (hd : s.demandOf i ≠ 0) (hst : s.chState i = chStopped)
    (hen : s.flag (R.PACK_CHG_CFG i) F.PACK_CHG_CFG_CHG_EN = true) (hv : s.profValid i = true)
    (hc : s.f (R.PACK_CHG_FAULT i) F.PACK_CHG_FAULT_CAUSE = 0) (hh : s.heldCharge i = false)
    (hm : pfMode (s.pack i).prof (s.phaseOf i) ≠ mdRest) : (s.chargeDemand i).chState i = chCharging := by
  have hother {o : Nat} (g : Fld) (ho : o ≠ R.PACK_CHG_STATUS i) :
      (s.setF (R.PACK_CHG_STATUS i) F.PACK_CHG_STATUS_DEMAND (s.demandOf i)).f o g = s.f o g := State.f_setF_reg _ _ _ _ ho
  have hstate : (s.setF (R.PACK_CHG_STATUS i) F.PACK_CHG_STATUS_DEMAND (s.demandOf i)).chState i = s.chState i :=
    State.f_setF_field _ _ (by decide) (by decide) (.inl (by decide))
  have hphase : (s.setF (R.PACK_CHG_STATUS i) F.PACK_CHG_STATUS_DEMAND (s.demandOf i)).phaseOf i = s.phaseOf i :=
    State.f_setF_field _ _ (by decide) (by decide) (.inl (by decide))
  have hcond : let u := s.setF (R.PACK_CHG_STATUS i) F.PACK_CHG_STATUS_DEMAND (s.demandOf i)
      u.chState i = chStopped ∧ s.demandOf i ≠ 0 ∧ u.flag (R.PACK_CHG_CFG i) F.PACK_CHG_CFG_CHG_EN = true ∧ u.profValid i = true ∧
        u.f (R.PACK_CHG_FAULT i) F.PACK_CHG_FAULT_CAUSE = 0 ∧ ¬ u.heldCharge i = true := by
    refine ⟨hstate.trans hst, hd, ?_, ?_, ?_, ?_⟩
    · rw [State.flag, hother _ (by simp only [R.PACK_CHG_CFG, R.PACK_CHG_STATUS]; omega)]
      exact hen
    · rw [State.profValid, hother _ (by simp only [R.PACK_PROFILE, R.PACK_CHG_STATUS]; omega)]
      exact hv
    · rw [hother _ (by simp only [R.PACK_CHG_FAULT, R.PACK_CHG_STATUS]; omega)]
      exact hc
    · exact Bool.eq_false_iff.1 hh
  rw [State.chargeDemand_eq]
  dsimp only at hcond ⊢
  rw [if_pos hcond, hphase, State.setF_pack_of, if_neg hm, State.chargeStarted_chState _ _ (by decide)]

end

/-- The charge configuration of a pack with a word taken in it, its watchdog's period and flag following. -/
def State.chgCfgTaken (s : State) (i : Nat) (v : Word) : State :=
  let u := s.wr (R.PACK_CHG_CFG i) (v &&& 0x03FF0007#32)
  let u := if (s.f (R.PACK_CHG_CFG i) F.PACK_CHG_CFG_WDT_EN = 0 ∧ u.f (R.PACK_CHG_CFG i) F.PACK_CHG_CFG_WDT_EN = 1)
      ∨ s.f (R.PACK_CHG_CFG i) F.PACK_CHG_CFG_WDT_S ≠ u.f (R.PACK_CHG_CFG i) F.PACK_CHG_CFG_WDT_S
    then u.setPack i { u.pack i with wdtAt := u.cyc } else u
  if (s.wr (R.PACK_CHG_CFG i) (v &&& 0x03FF0007#32)).f (R.PACK_CHG_CFG i) F.PACK_CHG_CFG_WDT_EN = 0
    then u.setF (R.PACK_CHG_STATUS i) F.PACK_CHG_STATUS_WDT_EXP 0 else u

theorem State.writeChgCfg_eq (s : State) (i : Nat) (v : Word) : s.writeChgCfg i v = (s.chgCfgTaken i v).chargeDemand i := rfl

/-- What a taken configuration leaves of a pack. -/
structure State.CfgTaken (s t : State) (i : Fin 4) (v : Word) : Prop where
  cfg : t.rd (R.PACK_CHG_CFG i) = v &&& 0x03FF0007#32
  regs : s.sameRegs t [R.PACK_CHG_CFG i, R.PACK_CHG_STATUS i]
  raised : t.raised = s.raised
  hrw : t.hrw = s.hrw
  prof : (t.pack i).prof = (s.pack i).prof
  status : ∀ g : Fld, g.lo + g.w ≤ 14 → t.f (R.PACK_CHG_STATUS i) g = s.f (R.PACK_CHG_STATUS i) g

theorem State.chgCfgTaken_taken (s : State) (i : Fin 4) (v : Word) : s.CfgTaken (s.chgCfgTaken i v) i v := by
  have hne : R.PACK_CHG_STATUS i ≠ R.PACK_CHG_CFG i := by
    simp only [R.PACK_CHG_STATUS, R.PACK_CHG_CFG]
    omega
  have hwr : s.CfgTaken (s.wr (R.PACK_CHG_CFG i) (v &&& 0x03FF0007#32)) i v :=
    ⟨State.rd_wr_same _ _ _, (s.sameRegs_refl _).wr List.mem_cons_self _, rfl, rfl, rfl, fun g _ => by
      rw [State.f, State.rd_wr_other _ _ hne, State.f]⟩
  have hpack {t : State} (h : s.CfgTaken t i v) : s.CfgTaken (t.setPack i { t.pack i with wdtAt := t.cyc }) i v :=
    ⟨h.cfg, h.regs, h.raised, h.hrw, by rw [State.pack_setPack]; exact h.prof, h.status⟩
  have hexp {t : State} (h : s.CfgTaken t i v) : s.CfgTaken (t.setF (R.PACK_CHG_STATUS i) F.PACK_CHG_STATUS_WDT_EXP 0) i v :=
    ⟨(State.rd_setF_other _ _ _ hne.symm).trans h.cfg, h.regs.setF (List.mem_cons_of_mem _ List.mem_cons_self) _ _, h.raised, h.hrw, h.prof,
      fun g hg => (State.f_setF_field _ _ (by decide) (by omega) (.inl hg)).trans (h.status g hg)⟩
  unfold State.chgCfgTaken
  dsimp only
  split
  · refine hexp ?_
    split
    · exact hpack hwr
    · exact hwr
  · split
    · exact hpack hwr
    · exact hwr

theorem State.chgCfgTaken_wdtExp {s : State} {i : Nat} {v : Word} (h : getBits v 2 1 = 0) :
    (s.chgCfgTaken i v).flag (R.PACK_CHG_STATUS i) F.PACK_CHG_STATUS_WDT_EXP = false := by
  have hoff : (s.wr (R.PACK_CHG_CFG i) (v &&& 0x03FF0007#32)).f (R.PACK_CHG_CFG i) F.PACK_CHG_CFG_WDT_EN = 0 := by
    have hmask : (0x03FF0007#32).getLsbD 2 = true := by decide
    have hbit : getBits (v &&& 0x03FF0007#32) 2 1 = 0 := by
      rw [getBits_one, BitVec.getLsbD_and, hmask, Bool.and_true, ← getBits_one, h]
    rw [State.f, State.rd_wr_same]
    exact hbit
  unfold State.chgCfgTaken
  dsimp only
  rw [if_pos hoff]
  exact State.flag_setF_zero _ _ (by decide)

/-- Two set enables are the low bits of the word that sets them. -/
theorem getLsbD_of_two {v : Word} (h : getBits v 0 2 = 3) : v.getLsbD 0 = true ∧ v.getLsbD 1 = true := by
  have h0 := getBits_testBit (r := v) (lo := 0) (w := 2) (by decide) 0
  have h1 := getBits_testBit (r := v) (lo := 0) (w := 2) (by decide) 1
  rw [h] at h0 h1
  exact ⟨h0.symm, h1.symm⟩

theorem State.demandOf_of_background {s : State} {i : Nat} (h : s.flag (R.PACK_CHG_CFG i) F.PACK_CHG_CFG_BG_EN = true) :
    s.demandOf i ≠ 0 := by
  rw [State.demandOf, h, boolNat, if_pos rfl]
  omega

/-- What a write of the charge configuration leaves. -/
theorem State.writeChgCfg_leaves (s : State) (i : Fin 4) (v : Word) : (s.writeChgCfg i v).rd (R.PACK_CHG_CFG i) = v &&& 0x03FF0007#32 ∧
    (pfMode (s.pack i).prof (s.phaseOf i) ≠ mdRest → pfMode (s.pack i).prof (s.phaseOf i) ≠ mdFloat →
      s.sameRegs (s.writeChgCfg i v) [R.PACK_CHG_CFG i, R.PACK_CHG_STATUS i, R.PACK_CHG_SETPT i] ∧ (s.writeChgCfg i v).raised = s.raised) ∧
    (getBits v 2 1 = 0 → (s.writeChgCfg i v).flag (R.PACK_CHG_STATUS i) F.PACK_CHG_STATUS_WDT_EXP = false) ∧
    (getBits v 0 2 = 3 → s.chState i = chStopped → s.profValid i = true → s.f (R.PACK_CHG_FAULT i) F.PACK_CHG_FAULT_CAUSE = 0 →
      s.heldCharge i = false → pfMode (s.pack i).prof (s.phaseOf i) ≠ mdRest → (s.writeChgCfg i v).chState i = chCharging) := by
  have htaken := s.chgCfgTaken_taken i v
  have hdemand := (s.chgCfgTaken i v).chargeDemand_demanded i
  have hphase : (s.chgCfgTaken i v).phaseOf i = s.phaseOf i := htaken.status F.PACK_CHG_STATUS_PHASE (by decide)
  rw [s.writeChgCfg_eq]
  refine ⟨hdemand.cfg.trans htaken.cfg, fun hr hf => ?_, fun h => ?_, fun h hst hv hc hh hm => ?_⟩
  · rw [← hphase, ← htaken.prof] at hr hf
    obtain ⟨hregs, hraised⟩ := hdemand.quiet hr hf
    exact ⟨(htaken.regs.mono (by simp)).trans (hregs.mono (by simp)), hraised.trans htaken.raised⟩
  · rw [hdemand.wdtExp, State.chgCfgTaken_wdtExp h]
  · obtain ⟨hen, hbg⟩ := getLsbD_of_two h
    have hcfg {o : Nat} (g : Fld) (ho : o ∉ [R.PACK_CHG_CFG i.val, R.PACK_CHG_STATUS i.val]) : (s.chgCfgTaken i v).f o g = s.f o g := htaken.regs.f _ ho g
    refine State.chargeDemand_starts (State.demandOf_of_background ((State.flag_of_masked htaken.cfg (by decide)).trans hbg))
      ((htaken.status F.PACK_CHG_STATUS_STATE (by decide)).trans hst) ((State.flag_of_masked htaken.cfg (by decide)).trans hen) ?_ ?_ ?_ ?_
    · rw [State.profValid, hcfg _ (by simp only [R.PACK_PROFILE, R.PACK_CHG_CFG, R.PACK_CHG_STATUS, List.mem_cons, List.not_mem_nil, or_false]; omega)]
      exact hv
    · rw [hcfg _ (by simp only [R.PACK_CHG_FAULT, R.PACK_CHG_CFG, R.PACK_CHG_STATUS, List.mem_cons, List.not_mem_nil, or_false]; omega)]
      exact hc
    · rw [State.heldCharge, State.holders, htaken.hrw]
      exact hh
    · rw [hphase, htaken.prof]
      exact hm

/-- Settles O33: the zones come to rest, the NTC locks and gives back, and the charger's settings take effect. -/
theorem zonesAndChargerSettings : Obligations.ZonesAndChargerSettings := by
  refine ⟨fun b z t hz => ?_, fun s i rNtc since hl hd => ⟨exec_zoneEval_cases hl hd, fun hs hat => ⟨fun hb ho => ?_, fun hb ho => ?_⟩⟩,
    fun s i p v hl => ⟨fun hkey => ?_, fun hkey => ?_, fun hen hexp hat => ?_, fun hlater => ?_⟩⟩
  · obtain ⟨hfive, hrest, hup, hdown⟩ := zoneMove_rests (b := b) (t := t) hz
    exact ⟨hfive, zoneMove_of_rests hrest 1, fun hlo hhi => zoneMove_of_rests (zoneRests_of_between hlo hhi) 6,
      fun h => (zoneUp_bound (hup h)).2, fun h => (zoneDown_bound (hdown h)).2⟩
  · obtain ⟨hbad, -, hmark⟩ := s.ntcMarked_leaves i rNtc true
    obtain ⟨hlatch, hraise⟩ := (s.ntcMarked i rNtc true).latchCharge_latched i 0x54 (faultRec rNtc 0)
    obtain ⟨hraised, hpack, hstate, hzone⟩ := ((s.ntcMarked i rNtc true).latchCharge i 0x54 (faultRec rNtc 0)).zoneLost_leaves i
    refine ⟨_, exec_ntcFault hl hd hs hat hb ho, ?_, hstate.trans hlatch.state, by rw [hraised]; exact hraise, fun hv => hzone ?_⟩
    · rw [hpack, hlatch.ntcBad, hbad]
    · rw [State.flag, State.f, hlatch.link, hmark]
      exact hv
  · obtain ⟨hbad, hraised, -⟩ := s.ntcMarked_leaves i rNtc false
    obtain ⟨hrw, hgone⟩ := State.causeGone_frame (id := 0x54) (inst := i.val) (fun _ => rfl) (s.ntcMarked i rNtc false)
    refine ⟨_, exec_ntcRecovered hl hs hat hb ho, ?_, ?_⟩
    · rw [hgone]
      exact hbad
    · rw [hgone]
      exact hraised.trans hl.2
  · obtain ⟨hat, hexp, hregs, hraised⟩ := s.kicked_leaves i
    have hexec := exec_powered (c := .chgWdtKick p i v) (g := fun s => s.kickChg i v) hl rfl
    rw [State.kickChg_of_key _ hkey] at hexec
    exact ⟨_, hexec, hat, hexp, hregs, fun h => (hraised h).trans hl.2⟩
  · have hexec := exec_powered_quiet (c := .chgWdtKick p i v) (g := fun s => s.kickChg i v) hl rfl
    rw [State.kickChg, if_neg hkey] at hexec
    exact hexec hl.2
  · exact ⟨_, exec_chgWdtExpiry i hl, State.expireChg_of_due hl.2 hen hexp hat⟩
  · have hexec := exec_powered (c := .chgCfgWrite p i v)
      (g := fun s => s.inOrder p (R.PACK_CHG_CFG i) (s.rd (R.PACK_CHG_CFG i)) v fun v s => s.writeChgCfg i v) hl rfl
    rw [State.inOrder_of_last hlater] at hexec
    obtain ⟨hcfg, hquiet, hexp, hstart⟩ := (s.noteEvent (20 + pathRank p) (R.PACK_CHG_CFG i)).writeChgCfg_leaves i v
    exact ⟨_, hexec, hcfg, fun hr hf => ⟨(hquiet hr hf).1, (hquiet hr hf).2.trans hl.2⟩, hexp, hstart⟩

end Sys2Proof.Machine
end

section
/-! What the work of a tick keeps: the tick's number and the snapshot of TRIM (R29, R34). -/

namespace Sys2Proof.Machine

/-- `t` has the tick's number and the snapshot of TRIM of `b`. -/
structure State.TickKept (b t : State) : Prop where
  tick : t.tick = b.tick
  trim : t.trim = b.trim

theorem State.TickKept.refl (s : State) : s.TickKept s := ⟨rfl, rfl⟩

theorem State.TickKept.trans {s t u : State} (h : s.TickKept t) (h' : t.TickKept u) : s.TickKept u :=
  ⟨h'.tick.trans h.tick, h'.trim.trans h.trim⟩

theorem State.TickKept.update {b s : State} {regs : Tab Word}
    {sys : SysSt} {plan : Tab Slot} {cycle : CycleRt} {nvm : NvmSt} {xfers : Tab XferRt} {supplies : Tab SupplyRt} {stages : Tab
    StageRt} {srcs : Tab SrcRt} {revalCause releasedA releasedB : List Nat} {raised : List Raised} {rails : Tab RailRt} {psws : Tab
    PswRt} {ports : Tab PortRt} {planSeq free : Nat} {pairs : Tab PairRt} {packs : Tab PackRt} {outbox : List Emit} {hrw : Tab HrwInst}
    {fw : FwSt} {bb : BbSt} {cplq : List HeldCpl} {coords : Tab CoordRt} {cans : Tab CanRt} {alloc : List SegAlloc}
    (h : b.TickKept s) : b.TickKept { s with
      regs := regs, sys := sys, plan := plan, cycle := cycle, nvm := nvm, xfers := xfers, supplies := supplies, stages := stages,
      srcs := srcs, revalCause := revalCause, releasedA := releasedA, releasedB := releasedB, raised := raised, rails := rails,
      psws := psws, ports := ports, planSeq := planSeq, pairs := pairs, packs := packs, outbox := outbox, hrw := hrw, fw := fw,
      bb := bb, free := free, cplq := cplq, coords := coords, cans := cans, alloc := alloc } :=
  ⟨h.tick, h.trim⟩

theorem State.TickKept.ite {b s t : State} {c : Prop} [Decidable c] (hs : b.TickKept s) (ht : b.TickKept t) :
    b.TickKept (if c then s else t) := by
  split
  · exact hs
  · exact ht

theorem State.TickKept.foldl {α : Type} {b s : State} {g : State → α → State} {l : List α} (h : b.TickKept s)
    (hg : ∀ u a, b.TickKept u → b.TickKept (g u a)) : b.TickKept (l.foldl g s) := by
  induction l generalizing s with
  | nil => exact h
  | cons a l ih => exact ih (hg s a h)

theorem State.TickKept.iteSnd {α : Type} {b : State} {c : Prop} [Decidable c] {x y : α × State} (hx : b.TickKept x.2)
    (hy : b.TickKept y.2) : b.TickKept (if c then x else y).2 := by
  split
  · exact hx
  · exact hy

theorem State.TickKept.wr {b s : State} {off : Nat} {v : Word} (h : b.TickKept s) : b.TickKept (s.wr off v) := h.update

theorem State.TickKept.setF {b s : State} {off : Nat} {fld : Fld} {v : Nat} (h : b.TickKept s) : b.TickKept (s.setF off fld v) := h.wr

theorem State.TickKept.setPsw {b s : State} {n : Nat} {r : PswRt} (h : b.TickKept s) : b.TickKept (s.setPsw n r) := h.update

theorem State.TickKept.closeSwitch {b s : State} {w : Nat} (h : b.TickKept s) : b.TickKept (s.closeSwitch w) :=
  State.TickKept.ite h h.setF.setF.setPsw

theorem State.TickKept.setPort {b s : State} {n : Nat} {r : PortRt} (h : b.TickKept s) : b.TickKept (s.setPort n r) := h.update

theorem State.TickKept.sourceClose {b s : State} {n : Nat} (h : b.TickKept s) : b.TickKept (s.sourceClose n) := by
  simp only [State.sourceClose]
  split
  · exact State.TickKept.ite h.closeSwitch.setPsw.setPort h
  · exact h

theorem State.TickKept.stopTimer {b s : State} {n : Nat} {t : PdTimer} (h : b.TickKept s) : b.TickKept (s.stopTimer n t) := h.setPort

theorem State.TickKept.startTimer {b s : State} {n : Nat} {t : PdTimer} (h : b.TickKept s) : b.TickKept (s.startTimer n t) := h.setPort

theorem State.TickKept.setPS {b s : State} {n : Nat} {fld : Fld} {v : Nat} (h : b.TickKept s) : b.TickKept (s.setPS n fld v) := h.setF

theorem State.TickKept.setPe {b s : State} {n v : Nat} (h : b.TickKept s) : b.TickKept (s.setPe n v) := h.setPS

theorem State.TickKept.emit {b s : State} {e : Emit} (h : b.TickKept s) : b.TickKept (s.emit e) := h.update

theorem State.TickKept.pdSend {b s : State} {n : Nat} {sopP : Bool} {typ count : Nat} {ext : Bool} {wire : List Byte} (h : b.TickKept s)
    : b.TickKept (s.pdSend n sopP typ count ext wire) :=
  h.emit.setPort

theorem State.TickKept.pdData {b s : State} {n typ : Nat} {data : List Byte} (h : b.TickKept s) : b.TickKept (s.pdData n typ data) :=
  h.pdSend

theorem State.TickKept.sendCaps {b s : State} {n : Nat} (h : b.TickKept s) : b.TickKept (s.sendCaps n) :=
  h.setPort.pdData.stopTimer.startTimer.setPe

theorem State.TickKept.pdCtl {b s : State} {n typ : Nat} (h : b.TickKept s) : b.TickKept (s.pdCtl n typ) := h.pdSend

theorem State.TickKept.noteOld {b s : State} {off : Nat} (h : b.TickKept s) : b.TickKept (s.noteOld off) := h.update

theorem State.TickKept.noteNew {b s : State} {off : Nat} {fld : Fld} {v : Nat} (h : b.TickKept s) : b.TickKept (s.noteNew off fld v) :=
  h.noteOld.update

theorem State.TickKept.bump {b s : State} {off : Nat} {fld : Fld} {k : Nat} (h : b.TickKept s) : b.TickKept (s.bump off fld k) :=
  h.noteNew.setF

theorem State.TickKept.raise {b s : State} {id inst : Nat} {record : List Byte} (h : b.TickKept s) : b.TickKept (s.raise id inst record)
    :=
  h.update

theorem State.TickKept.discardCan {b s : State} {n : Nat} {bytes : List Byte} (h : b.TickKept s) : b.TickKept (s.discardCan n bytes) :=
  h.bump.bump.raise

theorem State.TickKept.setCan {b s : State} {n : Nat} {r : CanRt} (h : b.TickKept s) : b.TickKept (s.setCan n r) := h.update

theorem State.TickKept.discardCpl {b s : State} {p : Nat} {bytes : List Byte} (h : b.TickKept s) : b.TickKept (s.discardCpl p bytes) :=
  h.bump.bump.raise

theorem State.TickKept.hold {b s : State} {cpl : HeldCpl} (h : b.TickKept s) : b.TickKept (s.hold cpl) := h.update

theorem State.TickKept.complete {b s : State} {src : Nat} {bytes : List Byte} {worthy : Bool} (h : b.TickKept s) : b.TickKept (s.complete
    src bytes worthy) :=
  State.TickKept.ite (State.TickKept.ite h.bump (State.TickKept.ite h.hold h.discardCpl)) (State.TickKept.ite h.setCan
      (State.TickKept.ite h.hold h.discardCan))

theorem State.TickKept.portEvent {b s : State} {n code detail : Nat} {data : List Byte} (h : b.TickKept s) : b.TickKept (s.portEvent n
    code detail data) :=
  State.TickKept.ite h.complete h

theorem State.TickKept.sourceUp {b s : State} {n : Nat} (h : b.TickKept s) : b.TickKept (s.sourceUp n) :=
  bindProp (State.TickKept.ite h.setPS h) fun h0 => bindProp (State.TickKept.ite h0.pdCtl.setPort.portEvent h0) fun h1 =>
      State.TickKept.ite h1.sendCaps h1

theorem State.TickKept.sourceCheck {b s : State} {n : Nat} (h : b.TickKept s) : b.TickKept (s.sourceCheck n) :=
  State.TickKept.ite h.setPort.sourceUp h

theorem State.TickKept.moveRefTick {b s : State} {n : Nat} (h : b.TickKept s) : b.TickKept (s.moveRefTick n) :=
  State.TickKept.ite h h.setPort

theorem State.TickKept.showArmed {b s : State} {n : Nat} (h : b.TickKept s) : b.TickKept (s.showArmed n) := h.setPS

theorem State.TickKept.tickPort {b s : State} {n : Nat} (h : b.TickKept s) : b.TickKept (s.tickPort n) :=
  (State.TickKept.ite h.setPort h).sourceClose.sourceCheck.moveRefTick.showArmed

theorem State.TickKept.setStageState {b s : State} {n st : Nat} (h : b.TickKept s) : b.TickKept (s.setStageState n st) := h.setF

theorem State.TickKept.lockUnit {b s : State} {id inst : Nat} (h : b.TickKept s) : b.TickKept (s.lockUnit id inst) :=
  h.foldl (fun _ _ h0 => State.TickKept.ite h0.setStageState h0)

theorem State.TickKept.setHrw {b s : State} {id inst : Nat} {r : HrwInst} (h : b.TickKept s) : b.TickKept (s.setHrw id inst r) :=
  h.update

theorem State.TickKept.passOn {b s : State} {id inst : Nat} (h : b.TickKept s) : b.TickKept (s.passOn id inst) :=
  State.TickKept.ite h (State.TickKept.ite h.setHrw (State.TickKept.ite h.setHrw h.setHrw.lockUnit))

theorem State.TickKept.endCauses {b s : State} (h : b.TickKept s) : b.TickKept s.endCauses :=
  h.foldl (fun _ _ h0 => State.TickKept.ite h0 h0.passOn)

theorem State.TickKept.wrN {b s : State} {off v : Nat} (h : b.TickKept s) : b.TickKept (s.wrN off v) := h.wr

theorem State.TickKept.each {b s : State} {ks : List Nat} {g : Nat → State → State} (h : b.TickKept s) (hg0 : ∀ x0 x1, b.TickKept x1 →
    b.TickKept (g x0 x1)) : b.TickKept (s.each ks g) :=
  h.foldl (fun _ _ h0 => hg0 _ _ h0)

theorem State.TickKept.showFw {b s : State} (h : b.TickKept s) : b.TickKept s.showFw :=
  h.setF.setF.setF.setF.setF.setF.setF.setF.setF.setF.setF.setF.each (fun _ _ h5 => h5.wrN.wrN)

theorem State.TickKept.buildFailed {b s : State} {code : Nat} (h : b.TickKept s) : b.TickKept (s.buildFailed code) :=
  h.update.showFw.raise

theorem State.TickKept.finishDebug {b s : State} (h : b.TickKept s) : b.TickKept s.finishDebug :=
  (State.TickKept.ite h.update.wrN.buildFailed h.update.wrN).showFw.setF

theorem State.TickKept.tickDebug {b s : State} (h : b.TickKept s) : b.TickKept s.tickDebug := State.TickKept.ite h.finishDebug h

theorem State.TickKept.staleTemp {b s : State} {i : Nat} (h : b.TickKept s) : b.TickKept (s.staleTemp i) := State.TickKept.ite h.setF h

theorem State.TickKept.setPack {b s : State} {i : Nat} {r : PackRt} (h : b.TickKept s) : b.TickKept (s.setPack i r) := h.update

theorem State.TickKept.tilthShow {b s : State} {i : Nat} {fresh : Bool} (h : b.TickKept s) : b.TickKept (s.tilthShow i fresh) :=
  State.TickKept.ite h (State.TickKept.ite h.setF (State.TickKept.ite h.setF.setPack h))

theorem State.TickKept.setChState {b s : State} {i st : Nat} (h : b.TickKept s) : b.TickKept (s.setChState i st) := h.setF

theorem State.TickKept.leaveCharging {b s : State} {i st : Nat} (h : b.TickKept s) : b.TickKept (s.leaveCharging i st) :=
  h.setChState.setF.setPack

theorem State.TickKept.releaseClaims {b s : State} {p : Slot} (h : b.TickKept s) : b.TickKept (s.releaseClaims p) :=
  State.TickKept.ite h.update h.update

theorem State.TickKept.setCoord {b s : State} {n : Nat} {r : CoordRt} (h : b.TickKept s) : b.TickKept (s.setCoord n r) := h.update

theorem State.TickKept.showBusy {b s : State} (h : b.TickKept s) : b.TickKept s.showBusy :=
  h.each (fun _ _ h0 => State.TickKept.ite h0.setF.setF.setCoord h0.setF)

theorem State.TickKept.planShown {b s : State} (h : b.TickKept s) : b.TickKept s.planShown := h.setF.showBusy

theorem State.TickKept.bbBreach {b s : State} {domain : Nat} {body : List Byte} (h : b.TickKept s) : b.TickKept (s.bbBreach domain body)
    :=
  h.update

theorem State.TickKept.wearCounter {b s : State} {k : Nat} (h : b.TickKept s) : b.TickKept (s.wearCounter k) :=
  State.TickKept.ite h.setF.raise h

theorem State.TickKept.showCounter {b s : State} {k : Nat} (h : b.TickKept s) : b.TickKept (s.showCounter k) := h.wrN.setF

theorem State.TickKept.setCounter {b s : State} {k : Nat} {r : CntRt} (h : b.TickKept s) : b.TickKept (s.setCounter k r) := h.update

theorem State.TickKept.setNvmByte {b s : State} {a : Nat} {bs : Byte} (h : b.TickKept s) : b.TickKept (s.setNvmByte a bs) := h.update

theorem State.TickKept.setNvmGroup {b s : State} {g : Nat} {st : GroupStatus} (h : b.TickKept s) : b.TickKept (s.setNvmGroup g st) :=
  h.update

theorem State.TickKept.clearGroup {b s : State} {g : Nat} (h : b.TickKept s) : b.TickKept (s.clearGroup g) :=
  (h.foldl (fun _ _ h0 => h0.setNvmByte)).setNvmGroup

theorem State.TickKept.showReerase {b s : State} (h : b.TickKept s) : b.TickKept s.showReerase := h.setF

theorem State.TickKept.unqueuePage {b s : State} {p : Nat} (h : b.TickKept s) : b.TickKept (s.unqueuePage p) :=
  State.TickKept.ite h.update.showReerase h

theorem State.TickKept.erasePage {b s : State} {p : Nat} (h : b.TickKept s) : b.TickKept (s.erasePage p) :=
  (h.foldl (fun _ _ h0 => h0.clearGroup)).unqueuePage

theorem State.TickKept.programGroup {b s : State} {g : Nat} {bytes : List Byte} (h : b.TickKept s) : b.TickKept (s.programGroup g bytes)
    :=
  (h.foldl (fun _ _ h0 => h0.setNvmByte)).setNvmGroup

theorem State.TickKept.commitCounter {b s : State} {k : Nat} {flush : Bool} (h : b.TickKept s) : b.TickKept (s.commitCounter k flush) :=
  bindProp h.programGroup fun h0 => (State.TickKept.ite h0.erasePage h0).setCounter.wearCounter

theorem State.TickKept.incCounter {b s : State} {k : Nat} (h : b.TickKept s) : b.TickKept (s.incCounter k) :=
  bindProp h.setCounter fun h0 => (State.TickKept.ite h0.commitCounter h0).wearCounter.showCounter

theorem State.TickKept.endSlot {b s : State} {k : Nat} {p : Slot} {status code : Nat} (h : b.TickKept s) : b.TickKept (s.endSlot k p
    status code) :=
  bindProp h.complete fun h0 => (State.TickKept.ite h0.wrN.bbBreach.incCounter h0).update.releaseClaims.planShown

theorem State.TickKept.breachSlot {b s : State} {k : Nat} {p : Slot} {code : Nat} (h : b.TickKept s) : b.TickKept (s.breachSlot k p code)
    :=
  State.TickKept.ite h.endSlot h.endSlot

theorem State.TickKept.endAtRest {b s : State} {i : Nat} (h : b.TickKept s) : b.TickKept (s.endAtRest i) :=
  State.TickKept.ite (h.foldl (fun _ _ h0 => h0.breachSlot)) h

theorem State.TickKept.showRefs {b s : State} {i : Nat} (h : b.TickKept s) : b.TickKept (s.showRefs i) := h.setF.setF

theorem State.TickKept.secMark {b s : State} {i : Nat} (h : b.TickKept s) : b.TickKept (s.secMark i) := h.setPack

theorem State.TickKept.chargeDemand {b s : State} {i : Nat} (h : b.TickKept s) : b.TickKept (s.chargeDemand i) :=
  State.TickKept.ite h.setF.setChState.endAtRest.showRefs.secMark (State.TickKept.ite h.setF.leaveCharging.showRefs h.setF)

theorem State.TickKept.zonePause {b s : State} {i : Nat} (h : b.TickKept s) : b.TickKept (s.zonePause i) :=
  State.TickKept.ite (bindProp h.leaveCharging fun h0 => State.TickKept.ite h0.raise h0) (State.TickKept.ite h.setChState h)

theorem State.TickKept.takeRefs {b s : State} {i : Nat} (h : b.TickKept s) : b.TickKept (s.takeRefs i) := h.setPack.showRefs

theorem State.TickKept.chargeTick {b s : State} (h : b.TickKept s) : b.TickKept s.chargeTick :=
  h.each (fun _ _ h0 => h0.staleTemp.tilthShow.chargeDemand.zonePause.takeRefs)

theorem State.TickKept.noteIdle {b s : State} {src : IdleSrc} (h : b.TickKept s) : b.TickKept (s.noteIdle src) :=
  State.TickKept.ite h.update h

theorem State.TickKept.setSupState {b s : State} {x st : Nat} (h : b.TickKept s) : b.TickKept (s.setSupState x st) :=
  State.TickKept.ite ((State.TickKept.ite h h.noteIdle).setF) h.setF

theorem State.TickKept.setSupply {b s : State} {n : Nat} {r : SupplyRt} (h : b.TickKept s) : b.TickKept (s.setSupply n r) := h.update

theorem State.TickKept.startClosing {b s : State} {x : Nat} (h : b.TickKept s) : b.TickKept (s.startClosing x) := by
  simp only [State.startClosing]
  split
  · exact State.TickKept.ite h.setSupply h.setSupState.setSupply.closeSwitch.setPsw
  · exact h

theorem State.TickKept.releaseSupplies {b s : State} (h : b.TickKept s) : b.TickKept s.releaseSupplies :=
  State.TickKept.ite h (h.each (fun _ _ h0 => State.TickKept.ite h0.startClosing h0))

theorem State.TickKept.setXfer {b s : State} {n : Nat} {r : XferRt} (h : b.TickKept s) : b.TickKept (s.setXfer n r) := h.update

theorem State.TickKept.tickSupply {b s : State} {r : Nat} (h : b.TickKept s) : b.TickKept (s.tickSupply r) :=
  State.TickKept.ite (State.TickKept.ite h.setF.setXfer h.setF) (State.TickKept.ite h.setF.setXfer (State.TickKept.ite
      (State.TickKept.ite h.setF h.setF.setF) h.setF.setF))

theorem State.TickKept.setRail {b s : State} {n : Nat} {r : RailRt} (h : b.TickKept s) : b.TickKept (s.setRail n r) := h.update

theorem State.TickKept.dropPgood {b s : State} {r : Nat} (h : b.TickKept s) : b.TickKept (s.dropPgood r) :=
  State.TickKept.ite h h.setRail.setF

theorem State.TickKept.setStage {b s : State} {n : Nat} {r : StageRt} (h : b.TickKept s) : b.TickKept (s.setStage n r) := h.update

theorem State.TickKept.takeFree {b s : State} {w : Nat} (h : b.TickKept s) : b.TickKept (s.takeFree w).2 := h.update

theorem State.TickKept.cmpOf {b s : State} {n num den : Nat} {boost : Bool} (h : b.TickKept s) : b.TickKept (s.cmpOf n num den boost).2 :=
  State.TickKept.iteSnd h.update h

theorem State.TickKept.modulate {b s : State} {n : Nat} {rev : Bool} {u vs : Nat} (h : b.TickKept s) :
    b.TickKept (s.modulate n rev u vs).2.2 := by
  simp only [State.modulate, apply_ite Prod.snd, ite_self]
  exact State.TickKept.ite (State.TickKept.ite h.cmpOf.cmpOf h.cmpOf.cmpOf) (State.TickKept.ite h.cmpOf h.cmpOf)

theorem State.TickKept.preload {b s : State} {n : Nat} (h : b.TickKept s) : b.TickKept (s.preload n) := h.modulate.setStage

theorem State.TickKept.showLoad {b s : State} (h : b.TickKept s) : b.TickKept s.showLoad := h.setF

theorem State.TickKept.presetHist {b s : State} {n mv : Nat} (h : b.TickKept s) : b.TickKept (s.presetHist n mv) := h.setStage

theorem State.TickKept.enterSoft {b s : State} {n r : Nat} {rev : Bool} (h : b.TickKept s) : b.TickKept (s.enterSoft n r rev) :=
  h.setStageState.setF.setF.presetHist.setF.setStage.preload.showLoad

theorem State.TickKept.enterRun {b s : State} {n : Nat} {rev : Bool} (h : b.TickKept s) : b.TickKept (s.enterRun n rev) :=
  h.setStageState.setF.setF.presetHist.setStage.preload.showLoad

theorem State.TickKept.hwSet {b s : State} {off : Nat} {fld : Fld} {v : Nat} (h : b.TickKept s) : b.TickKept (s.hwSet off fld v) :=
  h.noteNew.setF

theorem State.TickKept.applyShadow {b s : State} {n : Nat} (h : b.TickKept s) : b.TickKept (s.applyShadow n) := h.setStage

theorem State.TickKept.loadSet {b s : State} {n : Nat} {rev : Bool} (h : b.TickKept s) : ∀ t ∈ s.loadSet n rev, b.TickKept t := by
  simp only [State.loadSet]
  split
  · exact inSome h.applyShadow
  · exact inMap fun _ _ => bindProp (h.foldl (fun _ _ h0 => h0.wrN)) fun h1 => (State.TickKept.ite h1.hwSet h1).applyShadow

theorem State.TickKept.leaveReady {b s : State} {n : Nat} {rev : Bool} {go : State → State} (h : b.TickKept s) (hg0 : ∀ x0, b.TickKept x0
    → b.TickKept (go x0)) : b.TickKept (s.leaveReady n rev go) := by
  simp only [State.leaveReady]
  split
  · exact h.raise
  · split
    · exact h.raise
    · next heq =>
      exact hg0 _ (h.loadSet _ heq)

theorem State.TickKept.startStage {b s : State} {n : Nat} {rev : Bool} (h : b.TickKept s) : b.TickKept (s.startStage n rev) :=
  State.TickKept.ite h (State.TickKept.ite h (h.leaveReady (fun _ h0 => State.TickKept.ite h0.enterRun h0.enterSoft)))

theorem State.TickKept.tickStage {b s : State} {n : Nat} (h : b.TickKept s) : b.TickKept (s.tickStage n) :=
  State.TickKept.ite (State.TickKept.ite h.startStage h) (State.TickKept.ite (bindProp h.setStage fun h0 => State.TickKept.ite
      h0.setStageState.setStage h0) (State.TickKept.ite h.setStageState.setStage h))

theorem State.TickKept.takePins {b s : State} {g : Nat} (h : b.TickKept s) : b.TickKept (s.takePins g) :=
  State.TickKept.ite h (State.TickKept.ite h.setF.setF h.setF)

theorem State.TickKept.moveRef {b s : State} {r : Nat} (h : b.TickKept s) : b.TickKept (s.moveRef r) := by
  simp only [State.moveRef]
  split
  · exact State.TickKept.ite (bindProp h.setRail.setF.setF.setStageState.setStage fun h2 => (by
      split
      · exact h2.takePins
      · exact h2)) h.setRail.setStage.setF.setF
  · exact h.setRail.setF.setF

theorem State.TickKept.openSwitch {b s : State} {w : Nat} (h : b.TickKept s) : b.TickKept (s.openSwitch w) := h.setF.setF.setF

theorem State.TickKept.dispatchPack {b s : State} {i : Nat} (h : b.TickKept s) : b.TickKept (s.dispatchPack i) := by
  simp only [State.dispatchPack]
  split
  · exact h
  · exact (State.TickKept.ite (State.TickKept.ite h.setPsw.closeSwitch h.setPsw) (State.TickKept.ite h.setPsw h.setPsw.openSwitch)).setF

theorem State.TickKept.dispatchSupply {b s : State} {x : Nat} (h : b.TickKept s) : b.TickKept (s.dispatchSupply x) := by
  simp only [State.dispatchSupply]
  split
  · exact h
  · exact State.TickKept.ite h.closeSwitch h

theorem State.TickKept.setRank {b s : State} {n rank weight : Nat} (h : b.TickKept s) : b.TickKept (s.setRank n rank weight) :=
  h.setStage

theorem State.TickKept.rankSources {b s : State} {r : Nat} (h : b.TickKept s) : b.TickKept (s.rankSources r) :=
  h.foldl (fun _ _ h0 => h0.foldl (fun _ _ h1 => h1.setRank))

theorem State.TickKept.rankPacks {b s : State} {r base : Nat} {ceil : Nat → Nat → Nat} (h : b.TickKept s) : b.TickKept (s.rankPacks r
    base ceil) := by
  simp only [State.rankPacks]
  exact State.TickKept.ite (h.foldl (fun _ _ h0 => (by
      split
      · exact h0
      · exact h0.setRank))) (h.foldl (fun _ _ h1 => (by
      split
      · exact h1
      · exact h1.setRank)))

theorem State.TickKept.rankRail {b s : State} {r : Nat} {ceil : Nat → Nat → Nat} (h : b.TickKept s) : b.TickKept (s.rankRail r ceil) :=
  h.rankSources.rankPacks

theorem State.TickKept.fillHand {b s : State} {r : Nat} (h : b.TickKept s) : b.TickKept (s.fillHand r) := by
  simp only [State.fillHand]
  exact (h.foldl (fun _ _ h0 => (by
      split
      · exact h0
      · exact h0.setStage.wrN))).rankPacks

theorem State.TickKept.ceilOf {b s : State} {n : Nat} {rev : Bool} (h : b.TickKept s) : b.TickKept (s.ceilOf n rev).2 := by
  simp only [State.ceilOf]
  split
  · exact (State.TickKept.ite h.update h)
  · exact State.TickKept.iteSnd h.update h

theorem State.TickKept.dispatchStage {b s : State} {n : Nat} (h : b.TickKept s) : b.TickKept (s.dispatchStage n) :=
  State.TickKept.ite h (State.TickKept.ite h h.ceilOf.setStage.wrN)

theorem State.TickKept.dispatchRun {b s : State} (h : b.TickKept s) : b.TickKept s.dispatchRun :=
  (((h.each (fun _ _ h0 => h0.dispatchStage)).each (fun _ _ h2 => State.TickKept.ite h2.fillHand h2.rankRail)).each (fun _ _ h4 =>
      h4.dispatchSupply)).each (fun _ _ h6 => h6.dispatchPack)

theorem State.TickKept.dispatch {b s : State} (h : b.TickKept s) : b.TickKept s.dispatch :=
  State.TickKept.ite h (((((State.TickKept.ite h.dispatchRun h).each (fun _ _ h1 => State.TickKept.ite h1.moveRef h1)).each (fun _ _ h3
      => h3.tickStage)).each (fun _ _ h5 => h5.dropPgood)).each (fun _ _ h7 => h7.tickSupply))

theorem State.TickKept.ctlDone {b s : State} {p : Nat} {e : List Byte} {r : CtlRes} (h : b.TickKept s) : b.TickKept (s.ctlDone p e r) :=
  h.complete

theorem State.TickKept.pdComplete {b s : State} {pair : Nat} {q : PdSub} {status : Nat} (h : b.TickKept s) : b.TickKept (s.pdComplete
    pair q status) :=
  h.complete

theorem State.TickKept.setSrc {b s : State} {k : Nat} {r : SrcRt} (h : b.TickKept s) : b.TickKept (s.setSrc k r) := h.update

theorem State.TickKept.setPair {b s : State} {p : Nat} {r : PairRt} (h : b.TickKept s) : b.TickKept (s.setPair p r) := h.update

theorem State.TickKept.takeEntry {b s : State} {src : Nat} {e : List Byte} (h : b.TickKept s) : b.TickKept (s.takeEntry src e) := by
  simp only [State.takeEntry]
  split
  · exact State.TickKept.ite h.setSrc.setPair h
  · exact h

theorem State.TickKept.rejectEntry {b s : State} {p : Nat} (h : b.TickKept s) : b.TickKept (s.rejectEntry p) := by
  simp only [State.rejectEntry]
  split
  · exact h
  · exact State.TickKept.ite h (bindProp h.takeEntry fun h0 => State.TickKept.ite h0.pdComplete (State.TickKept.ite h0.complete
      h0.ctlDone))

theorem State.TickKept.dropPorts {b s : State} (h : b.TickKept s) : b.TickKept s.dropPorts :=
  h.each (fun _ _ h0 => State.TickKept.ite (h0.setPort.foldl (fun _ _ h2 => h2.breachSlot)) h0)

theorem State.TickKept.wr64 {b s : State} {lo hi v : Nat} (h : b.TickKept s) : b.TickKept (s.wr64 lo hi v) := h.wrN.wrN

theorem State.TickKept.showClaims {b s : State} (h : b.TickKept s) : b.TickKept s.showClaims := h.each (fun _ _ h0 => h0.wr64.wr64)

theorem State.TickKept.withSlot {b s : State} {k : Nat} {g : Slot → State → State} (h : b.TickKept s) (hg0 : ∀ x0 x1, b.TickKept x1 →
    b.TickKept (g x0 x1)) : b.TickKept (s.withSlot k g) := by
  simp only [State.withSlot]
  split
  · exact hg0 _ _ h
  · exact h

theorem State.TickKept.endClosed {b s : State} {k : Nat} (h : b.TickKept s) : b.TickKept (s.endClosed k) :=
  h.withSlot (fun _ _ h0 => State.TickKept.ite h0 (State.TickKept.ite h0.endSlot h0.endSlot))

theorem State.TickKept.setSlot {b s : State} {k : Nat} {p : Slot} (h : b.TickKept s) : b.TickKept (s.setSlot k p) := h.update

theorem State.TickKept.absorbed {b s : State} {p : Slot} (h : b.TickKept s) : b.TickKept (s.absorbed p).2 :=
  State.TickKept.iteSnd h h.update

theorem State.TickKept.accountSlot {b s : State} {k : Nat} (h : b.TickKept s) : b.TickKept (s.accountSlot k) :=
  h.withSlot (fun _ _ h0 => State.TickKept.ite h0 ((State.TickKept.iteSnd h0.absorbed h0).setSlot))

theorem State.TickKept.holdSlot {b s : State} {k : Nat} (h : b.TickKept s) : b.TickKept (s.holdSlot k) := by
  simp only [State.holdSlot]
  exact h.withSlot (fun _ _ h0 => State.TickKept.ite ((by
      split
      · exact h0.setSlot
      · exact h0)) h0)

theorem State.TickKept.enterSlot {b s : State} {k : Nat} (h : b.TickKept s) : b.TickKept (s.enterSlot k) :=
  h.withSlot (fun _ _ h0 => State.TickKept.ite h0 (bindProp h0.setSlot fun h1 => State.TickKept.ite h1.complete h1))

theorem State.TickKept.drawTick {b s : State} {k mw : Nat} {whole : Bool} (h : b.TickKept s) : b.TickKept (s.drawTick k mw whole) :=
  h.withSlot fun _ _ hu => State.TickKept.setSlot (List.foldlRecOn (motive := fun x : List Nat × State => b.TickKept x.2) _ _ hu
    fun _ hr _ _ => State.TickKept.iteSnd hr hr.update)

theorem State.TickKept.drawCharge {b s : State} {t : Nat} (h : b.TickKept s) : b.TickKept (s.drawCharge t) :=
  h.each (fun _ _ h0 => h0.drawTick)

theorem State.TickKept.divide {b s : State} {whole : Bool} {left : Nat} {l : List (Nat × Slot)} (h : b.TickKept s) :
    b.TickKept (s.divide whole left l) := by
  induction l generalizing s left with
  | nil => exact h
  | cons x l ih => exact ih (State.TickKept.drawTick (State.TickKept.ite h h.update))

theorem State.TickKept.drawNode {b s : State} {t : Nat} (h : b.TickKept s) : b.TickKept (s.drawNode t) := State.TickKept.ite h h.divide

theorem State.TickKept.tickOrders {b s : State} (h : b.TickKept s) : b.TickKept s.tickOrders :=
  ((((h.each (fun _ _ h0 => h0.drawNode)).each (fun _ _ h2 => h2.drawCharge)).each (fun _ _ h4 =>
      h4.accountSlot.holdSlot.enterSlot)).each (fun _ _ h6 => h6.endClosed)).showClaims

theorem State.TickKept.queueEntry {b s : State} {src : Nat} {e : List Byte} (h : b.TickKept s) : b.TickKept (s.queueEntry src e) :=
  State.TickKept.ite h h.setSrc

theorem State.TickKept.acceptOrder {b s : State} {src : Nat} {entry : List Byte} {tIn tOut : Nat} {res : List Nat} (h : b.TickKept s) :
    b.TickKept (s.acceptOrder src entry tIn tOut res) := by
  simp only [State.acceptOrder]
  exact bindProp h.update.setSlot.wrN.complete.planShown fun h3 => State.TickKept.ite ((by
      split
      · exact h3.endSlot
      · exact h3)) h3

theorem State.TickKept.doFence {b s : State} {src : Nat} {entry : List Byte} (h : b.TickKept s) : b.TickKept (s.doFence src entry) :=
  h.setSrc

theorem State.TickKept.endEnergy {b s : State} {k : Nat} (h : b.TickKept s) : b.TickKept (s.endEnergy k) :=
  h.withSlot (fun _ _ h0 => State.TickKept.ite h0.endSlot h0)

theorem State.TickKept.endDeadline {b s : State} {k : Nat} (h : b.TickKept s) : b.TickKept (s.endDeadline k) :=
  h.withSlot (fun _ _ h0 => State.TickKept.ite h0.breachSlot h0)

theorem State.TickKept.endTout {b s : State} {k : Nat} (h : b.TickKept s) : b.TickKept (s.endTout k) :=
  h.withSlot (fun _ _ h0 => State.TickKept.ite h0 (State.TickKept.ite h0.endSlot (State.TickKept.ite h0.endSlot h0.breachSlot)))

theorem State.TickKept.endBound {b s : State} {k : Nat} (h : b.TickKept s) : b.TickKept (s.endBound k) :=
  h.withSlot (fun _ _ h0 => State.TickKept.ite h0 (State.TickKept.ite h0.endSlot (State.TickKept.ite h0.endSlot (State.TickKept.ite
      h0.endSlot (State.TickKept.ite h0.breachSlot h0.endSlot)))))

theorem State.TickKept.endVolt {b s : State} {k : Nat} (h : b.TickKept s) : b.TickKept (s.endVolt k) :=
  h.withSlot (fun _ _ h0 => State.TickKept.ite h0.breachSlot h0)

theorem State.TickKept.endNatural {b s : State} {k : Nat} (h : b.TickKept s) : b.TickKept (s.endNatural k) :=
  h.endEnergy.endDeadline.endClosed.endTout.endBound.endVolt

theorem State.TickKept.doCancel {b s : State} {src : Nat} {o : Order} {named : Option Nat} (h : b.TickKept s) : b.TickKept (s.doCancel
    src o named) := by
  simp only [State.doCancel]
  split
  · exact (State.TickKept.endSlot (by
  split
  · exact h.endNatural
  · exact h)).complete
  · exact (State.TickKept.complete (by
  split
  · exact h.endNatural
  · exact h))

theorem State.TickKept.acceptAll {b s : State} {src j : Nat} {named : Nat → Option Nat} {claims : Nat → List Nat}
    {l : List (List Byte × Nat × Nat)} (h : b.TickKept s) : b.TickKept (s.acceptAll src named claims j l) := by
  induction l generalizing s j with
  | nil => exact h
  | cons x l ih => exact ih (State.TickKept.ite h.doCancel (State.TickKept.ite h.doFence h.acceptOrder))

theorem State.TickKept.rejectOrder {b s : State} {src : Nat} {o : Order} {status detail : Nat} (h : b.TickKept s) : b.TickKept
    (s.rejectOrder src o status detail) :=
  h.complete.wrN.hwSet.hwSet

theorem State.TickKept.rejectGroup {b s : State} {src : Nat} {os : List Order} {j status detail : Nat} (h : b.TickKept s) : b.TickKept
    (s.rejectGroup src os j status detail) :=
  h.foldl (fun _ _ h0 => State.TickKept.ite h0.rejectOrder h0.rejectOrder)

theorem State.TickKept.admitEntries {b s : State} {src : Nat} {entries : List (List Byte)} (h : b.TickKept s) : b.TickKept
    (s.admitEntries src entries) := by
  simp only [State.admitEntries]
  split
  · exact h.rejectGroup
  · exact State.TickKept.ite h.rejectGroup ((by
      split
      · exact h.rejectGroup
      · exact State.TickKept.ite ((by
          split
          · split
            · exact h.rejectGroup
            · exact h.rejectGroup
          · exact h.acceptAll.update.showClaims)) h.acceptAll.showClaims))

theorem State.TickKept.submit {b s : State} {src : Nat} {e : List Byte} (h : b.TickKept s) : b.TickKept (s.submit src e) :=
  State.TickKept.ite h.takeEntry.admitEntries h.queueEntry

theorem State.TickKept.rejectUnknown {b s : State} (h : b.TickKept s) : b.TickKept s.rejectUnknown := by
  simp only [State.rejectUnknown]
  exact h.each (fun _ _ h0 => (by
      split
      · exact State.TickKept.ite h0 h0.submit
      · exact h0))

theorem State.TickKept.speedErr {b s : State} {n : Nat} (h : b.TickKept s) : b.TickKept (s.speedErr n) :=
  State.TickKept.ite h h.hwSet.raise

theorem State.TickKept.addF {b s : State} {off : Nat} {fld : Fld} {k : Nat} (h : b.TickKept s) : b.TickKept (s.addF off fld k) := h.setF

theorem State.TickKept.velOf {b s : State} {n : Nat} (h : b.TickKept s) : b.TickKept (s.velOf n).2 := by
  simp only [State.velOf]
  split
  · exact State.TickKept.iteSnd h.update h
  · split
    · exact h
    · exact h

theorem State.TickKept.tickTravel {b s : State} {n : Nat} (h : b.TickKept s) : b.TickKept (s.tickTravel n) :=
  State.TickKept.ite h (bindProp h.velOf.wrN.setCoord fun h2 => bindProp (State.TickKept.ite h2.addF h2) fun h3 => State.TickKept.ite
      h3.speedErr h3)

theorem State.TickKept.tickMains {b s : State} (h : b.TickKept s) : b.TickKept s.tickMains := by
  simp only [State.tickMains]
  split
  · exact h
  · exact State.TickKept.ite h (State.TickKept.ite h.wrN.speedErr h.wrN)

theorem State.TickKept.takeBounds {b s : State} (h : b.TickKept s) : b.TickKept s.takeBounds := h.each (fun _ _ h0 => h0.setCoord)

theorem State.TickKept.startQualify {b s : State} {x : Nat} (h : b.TickKept s) : b.TickKept (s.startQualify x) :=
  State.TickKept.ite h.setSupState.setSupply h

theorem State.TickKept.needContract {b s : State} {x : Nat} (h : b.TickKept s) : b.TickKept (s.needContract x) :=
  State.TickKept.ite h.setPort h

theorem State.TickKept.trigReval {b s : State} {code : Nat} (h : b.TickKept s) : b.TickKept (s.trigReval code) := h.update.setF

theorem State.TickKept.handRail {b s : State} {x r : Nat} (h : b.TickKept s) : b.TickKept (s.handRail x r) :=
  bindProp (State.TickKept.ite h.setXfer.setF h.setXfer.setF.wr64.incCounter).fillHand fun h3 => State.TickKept.ite h3.raise h3

theorem State.TickKept.stopStage {b s : State} {n st : Nat} (h : b.TickKept s) : b.TickKept (s.stopStage n st) :=
  h.setStageState.setF.setF.wrN.wrN.setStage.showLoad

theorem State.TickKept.handOver {b s : State} {x : Nat} {openSwitch : Bool} (h : b.TickKept s) : b.TickKept (s.handOver x openSwitch) :=
    by
  simp only [State.handOver]
  exact bindProp (h.foldl (fun _ _ h0 => State.TickKept.ite h0.stopStage.wrN h0.wrN)) fun h1 => ((State.TickKept.ite ((by
      split
      · exact h1.openSwitch.setPsw
      · exact h1)) h1).foldl (fun _ _ h3 => h3.handRail)).trigReval

theorem State.TickKept.loseSupply {b s : State} {x st : Nat} {openSwitch : Bool} (h : b.TickKept s) : b.TickKept (s.loseSupply x st
    openSwitch) := by
  simp only [State.loseSupply]
  exact State.TickKept.ite (bindProp h.setSupState.needContract.handOver fun h0 => State.TickKept.ite h0.raise h0) (State.TickKept.ite
      (bindProp h.setSupState.setSupply fun h1 => (State.TickKept.startQualify (by
      split
      · exact State.TickKept.ite h1.openSwitch h1
      · exact h1))) h)

theorem State.TickKept.disableInput {b s : State} {n : Nat} (h : b.TickKept s) : b.TickKept (s.disableInput n) :=
  State.TickKept.ite h.setF.loseSupply h.setF

theorem State.TickKept.loadReg {b s : State} {off : Nat} {v : Word} (h : b.TickKept s) : b.TickKept (s.loadReg off v) := h.wr

theorem State.TickKept.loadRegs {b s : State} {data : List Byte} {rs : List Nat} {k : Nat} (h : b.TickKept s) : b.TickKept (s.loadRegs data rs k) := by
  induction rs generalizing s k with
  | nil => exact h
  | cons r rs ih => exact State.TickKept.ite (ih h.loadReg) h

theorem State.TickKept.applyInputs {b s : State} (h : b.TickKept s) : b.TickKept s.applyInputs :=
  State.TickKept.ite h (h.update.loadRegs.each (fun _ _ h1 => State.TickKept.ite h1.disableInput (State.TickKept.ite h1.startQualify h1)))

theorem State.TickKept.quot {b s : State} {a : Int} {d : Nat} (h : b.TickKept s) : b.TickKept (s.quot a d).2 :=
  State.TickKept.iteSnd h.update (State.TickKept.iteSnd h h.update)

theorem State.TickKept.measured {b s : State} {node raw : Nat} (h : b.TickKept s) : b.TickKept (s.measured node raw).2 :=
  State.TickKept.iteSnd h.quot h

theorem State.TickKept.setFloor {b s : State} {node mv : Nat} (h : b.TickKept s) : b.TickKept (s.setFloor node mv) :=
  h.foldl (fun _ _ h0 => h0.setF)

theorem State.TickKept.inputFloor {b s : State} {x : Nat} (h : b.TickKept s) : b.TickKept (s.inputFloor x) := h.setFloor

theorem State.TickKept.portWindows {b s : State} {n mv : Nat} (h : b.TickKept s) : b.TickKept (s.portWindows n mv) := h.setPort

theorem State.TickKept.showSupV {b s : State} {x mv : Nat} (h : b.TickKept s) : b.TickKept (s.showSupV x mv) :=
  State.TickKept.ite h.setF h.setF

theorem State.TickKept.setSupV {b s : State} {x mv : Nat} (h : b.TickKept s) : b.TickKept (s.setSupV x mv) :=
  bindProp h.showSupV fun h0 => (State.TickKept.ite h0 h0.portWindows).setSupply

theorem State.TickKept.observe {b s : State} {o : TickObs} (h : b.TickKept s) : b.TickKept (s.observe o) :=
  ((((h.each (fun _ _ h0 => h0.quot.setSupV.wrN.wrN.setSupply)).each (fun _ _ h4 => h4.setSupV.setSupply)).each (fun _ _ h7 =>
      State.TickKept.ite h7.inputFloor h7)).each (fun _ _ h9 => h9.setPack)).each (fun _ _ h11 => h11.measured.setF.setRail)

theorem State.TickKept.modelStage {b s : State} {n : Nat} {o : TickObs} (h : b.TickKept s) : b.TickKept (s.modelStage n o) :=
  State.TickKept.ite h.wrN.trigReval h.wrN

theorem State.TickKept.modelBudget {b s : State} {x : Nat} (h : b.TickKept s) : b.TickKept (s.modelBudget x) :=
  State.TickKept.ite h.wrN.trigReval h.wrN

theorem State.TickKept.setERem {b s : State} {i e : Nat} (h : b.TickKept s) : b.TickKept (s.setERem i e) := h.wr64

theorem State.TickKept.countEnergy {b s : State} {i : Nat} (h : b.TickKept s) : b.TickKept (s.countEnergy i) :=
  State.TickKept.ite h.setERem.setPack h.setERem.setPack

theorem State.TickKept.modelPack {b s : State} {i : Nat} (h : b.TickKept s) : b.TickKept (s.modelPack i) :=
  bindProp h.wr64.wrN.setF.setF fun h1 => State.TickKept.ite h1.trigReval h1

theorem State.TickKept.model {b s : State} {o : TickObs} (h : b.TickKept s) : b.TickKept (s.model o) :=
  ((h.each (fun _ _ h0 => h0.countEnergy.modelPack)).each (fun _ _ h2 => h2.modelBudget)).each (fun _ _ h4 => h4.modelStage)

theorem State.TickKept.takeSnap {b s : State} (h : b.TickKept s) : b.TickKept s.takeSnap := h.update

theorem State.TickKept.noteEvent {b s : State} {src sel : Nat} (h : b.TickKept s) : b.TickKept (s.noteEvent src sel) := h.update

/-- A tick that begins: its number, and its snapshot of TRIM (R29, R34). -/
def State.tickBegun (s : State) : State :=
  { s with
    tick := s.tick + 1, trim := (List.range 8).map (fun n => s.f (R.MODEL_STAGE_EFF_TRIM n) F.MODEL_STAGE_EFF_TRIM_TRIM),
    releasedA := [0, 0, 0, 0], releasedB := [0, 0, 0, 0] }

theorem State.tickBegun_tickKept_tickAll (s : State) (o : TickObs) : s.tickBegun.TickKept (s.tickAll o) := by
  have hseen := (State.TickKept.refl s.tickBegun).takeBounds.applyInputs.observe (o := o)
  have hmoved := ((hseen.model (o := o)).showClaims.takeSnap.each (ks := [0, 1, 2, 3]) fun n _ hu => hu.tickTravel (n := n)).tickMains
  have hdrawn := (hmoved.dropPorts.tickOrders.rejectUnknown).each (ks := List.range 32) fun n _ hu => hu.rejectEntry (p := n)
  exact (hdrawn.endCauses.tickDebug.chargeTick.releaseSupplies.dispatch).each (ks := [0, 1, 2]) fun n _ hu => hu.tickPort (n := n)

/-! Re-validation (R94, R95). -/

/-- A re-validation that has run: its time and its causes start anew. -/
def State.revalEnded (s : State) : State :=
  { s with
    revalCause := [], revalAt := s.us, revalE := (List.range 4).map s.eAvail, revalP := (List.range 4).map s.pMax,
    revalH := (List.range 8).map s.headroom }

theorem State.revalidate_eq (s : State) :
    s.revalidate = ((s.revalLoop (s.plan.length + 1)).revalEnded).setF R.DRILL_STATUS F.DRILL_STATUS_REVAL 0 := rfl

theorem State.revalidate_leaves (s : State) : s.revalidate.flag R.DRILL_STATUS F.DRILL_STATUS_REVAL = false ∧ s.revalidate.revalAt = s.us ∧
    s.revalidate.revalCause = [] := by
  have hplan := (State.PlanOnly.refl s).revalLoop (fuel := s.plan.length + 1)
  refine ⟨State.flag_setF_zero _ _ (by decide), ?_, rfl⟩
  have hus : (s.revalLoop (s.plan.length + 1)).us = s.us := by
    rw [State.us, hplan.1, State.us]
  rw [s.revalidate_eq]
  exact hus

theorem State.markHandovers_keeps (s : State) : s.markHandovers.revalAt = s.revalAt ∧ s.markHandovers.revalCause = s.revalCause ∧
    s.markHandovers.rd R.DRILL_STATUS = s.rd R.DRILL_STATUS := by
  have hmark {β : Type} (f : State → β) (hf : ∀ (u : State) (r : Nat) (x : XferRt), f (u.setXfer r x) = f u) : f s.markHandovers = f s :=
    State.each_keeps (f := f) (fun r u => by
      split
      · exact hf u r _
      · rfl) _ s
  exact ⟨hmark State.revalAt fun _ _ _ => rfl, hmark State.revalCause fun _ _ _ => rfl, hmark (fun t => t.rd R.DRILL_STATUS) fun _ _ _ => rfl⟩

theorem State.freeLost_kept (s : State) (x : Nat) : (s.freeLost x).revalAt = s.revalAt ∧ (s.freeLost x).revalCause = s.revalCause ∧
    (s.freeLost x).rd R.DRILL_STATUS = s.rd R.DRILL_STATUS := by
  have hne : R.DRILL_STATUS ∉ [supReg x] := by
    unfold supReg
    simp only [R.DRILL_STATUS, R.INPUT_STATUS, R.PORT_STATUS, List.mem_singleton]
    split <;> omega
  unfold State.freeLost
  split
  · refine ⟨?_, ?_, ?_⟩
    · rw [State.startQualify_frame, s.setSupState_frame]
    · rw [State.startQualify_frame, s.setSupState_frame]
    · rw [State.startQualify_sameRegs _ x _ hne, s.setSupState_sameRegs x _ _ hne]
  · exact ⟨rfl, rfl, rfl⟩

/-- A re-validation with the supplies that wait for it. -/
def State.revalDone (s : State) : State := s.revalidate.markHandovers.each (List.range 6) (fun x s => s.freeLost x)

theorem State.revalDone_leaves (s : State) : s.revalDone.flag R.DRILL_STATUS F.DRILL_STATUS_REVAL = false ∧ s.revalDone.revalAt = s.us ∧
    s.revalDone.revalCause = [] := by
  obtain ⟨hflag, hat, hcause⟩ := s.revalidate_leaves
  obtain ⟨hat', hcause', hrd'⟩ := s.revalidate.markHandovers_keeps
  refine ⟨?_, ?_, ?_⟩
  · have hrd : s.revalDone.rd R.DRILL_STATUS = s.revalidate.markHandovers.rd R.DRILL_STATUS :=
      State.each_keeps (f := fun t => t.rd R.DRILL_STATUS) (fun x t => (t.freeLost_kept x).2.2) _ _
    rw [State.flag, State.f, hrd, hrd', ← State.f, ← State.flag, hflag]
  · have h : s.revalDone.revalAt = s.revalidate.markHandovers.revalAt :=
      State.each_keeps (f := State.revalAt) (fun x t => (t.freeLost_kept x).1) _ _
    rw [h, hat', hat]
  · have h : s.revalDone.revalCause = s.revalidate.markHandovers.revalCause :=
      State.each_keeps (f := State.revalCause) (fun x t => (t.freeLost_kept x).2.1) _ _
    rw [h, hcause', hcause]

/-- Settles O23: the snapshot that a tick takes outlives its work, and a re-validation starts and ends as told. -/
theorem tickAndRevalidationTakeTheirSnapshot : Obligations.TickAndRevalidationTakeTheirSnapshot := by
  refine fun s hl => ⟨fun o hok hstart => ?_, fun hat => ?_, fun hreval => ?_⟩
  · have hexec := exec_powered (c := .drillTick o) (g := fun s => if s.sys.starting then s else (s.tickAll o).noteEvent 1 0) hl rfl
    have hkept := (s.tickBegun_tickKept_tickAll o).noteEvent (src := 1) (sel := 0)
    rw [hstart, if_neg Bool.false_ne_true] at hexec
    exact ⟨_, hexec, hkept.tick, hkept.trim⟩
  · have hraised : (s.setF R.DRILL_STATUS F.DRILL_STATUS_REVAL 1).raised = [] := hl.2
    have hexec := exec_powered (c := .revalMsExpiry)
      (g := fun s => if s.revalAt + 1000 * max 10 (s.f R.DRILL_CFG F.DRILL_CFG_REVAL_MS) ≤ s.us then
        s.setF R.DRILL_STATUS F.DRILL_STATUS_REVAL 1 else s) hl rfl
    rw [if_pos hat, State.settle_quiet hraised] at hexec
    exact ⟨_, hexec, State.flag_setF_one _ _ (by decide) (by decide), (State.onlyRegs_refl hl.2 _).setF List.mem_cons_self _ _⟩
  · have hexec := exec_powered (c := .revalidationDone)
      (g := fun s => if s.flag R.DRILL_STATUS F.DRILL_STATUS_REVAL then s.revalDone else s) hl rfl
    rw [if_pos hreval] at hexec
    exact ⟨_, hexec, s.revalDone_leaves⟩

end Sys2Proof.Machine
end

section
/-! CANCEL, FENCE, chained groups and orders over CAN (R99–R102). -/

namespace Sys2Proof.Machine

/-! Entries that are admitted are all accepted. -/

theorem State.entryChecks_length {s : State} {src : Nat} {os : List Order} : ∀ {g : GroupCtx} {j : Nat} {ivs : List (Nat × Nat)},
    s.entryChecks src g j os = .ok ivs → ivs.length = os.length := by
  induction os with
  | nil =>
    intro g j ivs h
    cases h
    rfl
  | cons o os ih =>
    intro g j ivs h
    rw [State.entryChecks] at h
    split at h
    · cases h
    · dsimp only at h
      split at h
      · cases h
      next l heq =>
        cases h
        rw [List.length_cons, ih heq, List.length_cons]

/-- The slot that a CANCEL of a source names by its tag. -/
def State.named (s : State) (src tag : Nat) : Option Nat := (s.tagSlot src tag).map (·.1)

theorem State.admitEntries_of_wouldAdmit {s : State} {src : Nat} {es : List (List Byte)} (h : s.wouldAdmit src es = true) :
    ∃ (ivs : List (Nat × Nat)) (claims : Nat → List Nat) (t : State) (alloc : List SegAlloc), ivs.length = es.length ∧
      s.acceptAll src (s.named src) claims 0 (es.zip ivs) = t ∧ s.admitEntries src es = ({ t with alloc := alloc }).showClaims := by
  unfold State.wouldAdmit at h
  unfold State.admitEntries State.named
  dsimp only at h ⊢
  split at h
  · cases h
  next ivs heq =>
    have hlen : ivs.length = es.length := by rw [State.entryChecks_length heq, List.length_map]
    rw [heq]
    simp only [Bool.and_eq_true, decide_eq_true_eq, Option.isNone_iff_eq_none, List.any_map, List.map_map, Function.comp_def] at h ⊢
    obtain ⟨⟨hroom, hcharge⟩, hcheck⟩ := h
    rw [if_neg (by omega), hcharge]
    dsimp only
    split
    next hany =>
      rw [if_pos hany] at hcheck
      split at hcheck
      next a b hab =>
        rw [hab, List.map_id', List.map_id']
        dsimp only
        generalize haccept : s.acceptAll src _ _ 0 _ = t
        exact ⟨ivs, _, t, _, hlen, haccept, rfl⟩
      · cases hcheck
    · rw [List.map_id']
      generalize haccept : s.acceptAll src _ _ 0 _ = t
      exact ⟨ivs, _, t, t.alloc, hlen, haccept, rfl⟩

theorem State.PlanOnly.withSlot {b s : State} {k : Nat} {g : Slot → State → State} (h : b.PlanOnly s)
    (hg : ∀ p u, b.PlanOnly u → b.PlanOnly (g p u)) : b.PlanOnly (s.withSlot k g) := by
  unfold State.withSlot
  split
  · exact hg _ _ h
  · exact h

theorem State.PlanOnly.endEnergy {b s : State} {k : Nat} (h : b.PlanOnly s) : b.PlanOnly (s.endEnergy k) :=
  h.withSlot fun _ _ hu => State.PlanOnly.ite hu.endSlot hu

theorem State.PlanOnly.endDeadline {b s : State} {k : Nat} (h : b.PlanOnly s) : b.PlanOnly (s.endDeadline k) :=
  h.withSlot fun _ _ hu => State.PlanOnly.ite hu.breachSlot hu

theorem State.PlanOnly.endClosed {b s : State} {k : Nat} (h : b.PlanOnly s) : b.PlanOnly (s.endClosed k) :=
  h.withSlot fun _ _ hu => State.PlanOnly.ite hu (State.PlanOnly.ite hu.endSlot hu.endSlot)

theorem State.PlanOnly.endTout {b s : State} {k : Nat} (h : b.PlanOnly s) : b.PlanOnly (s.endTout k) :=
  h.withSlot fun _ _ hu => State.PlanOnly.ite hu (State.PlanOnly.ite hu.endSlot (State.PlanOnly.ite hu.endSlot hu.breachSlot))

theorem State.PlanOnly.endBound {b s : State} {k : Nat} (h : b.PlanOnly s) : b.PlanOnly (s.endBound k) := by
  refine h.withSlot fun p u hu => ?_
  dsimp only
  split
  · exact hu
  split
  · exact hu.endSlot
  split
  · exact hu.endSlot
  split
  · exact hu.endSlot
  · exact State.PlanOnly.ite hu.breachSlot hu.endSlot

theorem State.PlanOnly.endVolt {b s : State} {k : Nat} (h : b.PlanOnly s) : b.PlanOnly (s.endVolt k) :=
  h.withSlot fun _ _ hu => State.PlanOnly.ite hu.breachSlot hu

theorem State.PlanOnly.endNatural {b s : State} {k : Nat} (h : b.PlanOnly s) : b.PlanOnly (s.endNatural k) :=
  h.endEnergy.endDeadline.endClosed.endTout.endBound.endVolt

theorem State.PlanOnly.planSeq {b s : State} (h : b.PlanOnly s) : s.planSeq = b.planSeq := by rw [h.1]

theorem State.PlanOnly.srcs {b s : State} (h : b.PlanOnly s) : s.srcs = b.srcs := by rw [h.1]

theorem State.showClaims_plan (s : State) : s.showClaims.plan = s.plan := by
  unfold State.showClaims
  exact State.each_keeps (f := State.plan) (fun i u => by rw [State.wr64_plan, State.wr64_plan]) _ s

theorem State.PlanOnly.doCancel {b s : State} {src : Nat} {o : Order} {named : Option Nat} (h : b.PlanOnly s) :
    b.PlanOnly (s.doCancel src o named) := by
  have hended : b.PlanOnly (match named with
      | some k => s.endNatural k
      | none => s) := by
    split
    · exact h.endNatural
    · exact h
  unfold State.doCancel
  dsimp only
  split
  · exact hended.endSlot.complete
  · exact hended.complete

/-- A CANCEL frees the slot that it names, whether its order ended by itself or not. -/
theorem State.doCancel_frees (s : State) (src : Nat) (o : Order) (k : Nat) : slotAt (s.doCancel src o (some k)) k = none := by
  unfold State.doCancel
  dsimp only [Option.bind_some]
  cases hslot : slotAt (s.endNatural k) k with
  | none =>
    dsimp only [Option.map_none]
    rw [slotAt, State.complete_plan]
    exact hslot
  | some p =>
    dsimp only [Option.map_some]
    rw [slotAt, State.complete_plan, State.endSlot_plan, tabFind_erase_same]

/-- An order that takes a slot counts in the order of acceptance. -/
theorem State.acceptOrder_planSeq (s : State) (src : Nat) (e : List Byte) (tIn tOut : Nat) (res : List Nat) :
    (s.acceptOrder src e tIn tOut res).planSeq = s.planSeq + 1 := by
  have hplaced (t : State) (b : List Byte) (w : Bool) : t.PlanOnly ((t.complete src b w).planShown) :=
    (State.PlanOnly.refl t).complete.planShown
  unfold State.acceptOrder
  dsimp only
  split
  · split
    · exact ((hplaced _ _ _).endSlot).planSeq
    · exact (hplaced _ _ _).planSeq
  · exact (hplaced _ _ _).planSeq

/-- Entries without a FENCE: every one that is no CANCEL takes a slot. -/
theorem State.acceptAll_planSeq {src : Nat} {named : Nat → Option Nat} {claims : Nat → List Nat} {es : List (List Byte)} :
    ∀ {s : State} {j : Nat} {ivs : List (Nat × Nat)}, ivs.length = es.length → (∀ e ∈ es, (parseOrder e).op ≠ opFence) →
    (s.acceptAll src named claims j (es.zip ivs)).planSeq = s.planSeq + (es.filter fun e => (parseOrder e).op != opCancel).length := by
  induction es with
  | nil => exact fun _ _ => rfl
  | cons e es ih =>
    intro s j ivs hlen hfence
    obtain ⟨⟨tIn, tOut⟩, ivs, rfl⟩ := List.exists_cons_of_length_eq_add_one hlen
    have hlen : ivs.length = es.length := by simpa using hlen
    rw [List.zip_cons_cons, State.acceptAll, ih hlen fun d hd => hfence d (List.mem_cons_of_mem _ hd)]
    by_cases hop : (parseOrder e).op = opCancel
    · rw [if_pos hop, List.filter_cons_of_neg (by simp [hop]), (State.PlanOnly.refl s).doCancel.planSeq]
    · rw [if_neg hop, if_neg (hfence e List.mem_cons_self), List.filter_cons_of_pos (by simp [hop]), State.acceptOrder_planSeq,
        List.length_cons]
      omega

/-! An entry that comes up is taken from those that wait. -/

theorem State.takeEntry_keeps (s : State) (src : Nat) (e : List Byte) : (s.takeEntry src e).plan = s.plan ∧
    (s.takeEntry src e).planSeq = s.planSeq := by
  unfold State.takeEntry
  split
  · split
    · exact ⟨rfl, rfl⟩
    · exact ⟨rfl, rfl⟩
  · exact ⟨rfl, rfl⟩

theorem State.submit_of_front {s : State} {src : Nat} {e : List Byte} (ht : s.drillTakes src = true) (hc : (parseOrder e).chain = false)
    (hf : s.atFront src [e] = true) (ho : s.othersFirst src = false) :
    s.submit src e = (s.takeEntry src e).admitEntries src [e] := by
  rw [State.submit, ht, hc, hf, ho]
  rfl

theorem State.submitGroup_of_front {s : State} {src : Nat} {es : List (List Byte)} (ht : s.drillTakes src = true)
    (hf : s.atFront src es = true) (ho : s.othersFirst src = false) (hb : chainBad (es.map parseOrder) = false) :
    s.submitGroup src es = (es.foldl (fun t e => t.takeEntry src e) s).admitEntries src es := by
  rw [State.submitGroup, ht, hf, ho]
  dsimp only
  rw [hb]
  rfl

/-- A single entry that is admitted is accepted alone. -/
theorem State.admitEntry_of_wouldAdmit {s : State} {src : Nat} {e : List Byte} (h : s.wouldAdmit src [e] = true) :
    ∃ (iv : Nat × Nat) (claims : Nat → List Nat) (t : State) (alloc : List SegAlloc),
      s.acceptAll src (s.named src) claims 0 [(e, iv)] = t ∧ s.admitEntries src [e] = ({ t with alloc := alloc }).showClaims := by
  obtain ⟨ivs, claims, t, alloc, hlen, haccept, hadmit⟩ := State.admitEntries_of_wouldAdmit h
  obtain ⟨iv, hiv⟩ := List.length_eq_one_iff.1 hlen
  rw [hiv] at haccept
  exact ⟨iv, claims, t, alloc, haccept, hadmit⟩

theorem State.orderEntry_of_op {s : State} {src : Source} {op : Nat} {e : List Byte} (hop : (parseOrder e).op = op)
    (hs : s.orderSource (srcNo src) = true) : s.orderEntry src op e = s.submit (srcNo src) e := if_pos ⟨hop, hs⟩

section
variable {s : State} {src : Source} {e : List Byte} (hl : s.live) (hs : s.orderSource (srcNo src) = true)
  (ht : s.drillTakes (srcNo src) = true) (hc : (parseOrder e).chain = false) (hf : s.atFront (srcNo src) [e] = true)
  (ho : s.othersFirst (srcNo src) = false) (hw : (s.takeEntry (srcNo src) e).wouldAdmit (srcNo src) [e] = true)
include hl hs ht hc hf ho hw

theorem exec_cancel {k : Nat} {p : Slot} (hop : (parseOrder e).op = opCancel)
    (hk : s.tagSlot (srcNo src) (parseOrder e).arg = some (k, p)) :
    ∃ u : State, exec (.cancel src e) s = .next u.settle ∧ slotAt u k = none ∧ u.planSeq = s.planSeq := by
  obtain ⟨hplan, hseq⟩ := s.takeEntry_keeps (srcNo src) e
  obtain ⟨iv, claims, t, alloc, haccept, hadmit⟩ := State.admitEntry_of_wouldAdmit hw
  have hnamed : (s.takeEntry (srcNo src) e).named (srcNo src) (parseOrder e).arg = some k := by
    rw [State.named, State.tagSlot, hplan, ← State.tagSlot, hk]
    rfl
  have hcancel : (s.takeEntry (srcNo src) e).doCancel (srcNo src) (parseOrder e) (some k) = t := by
    rw [← haccept, State.acceptAll, State.acceptAll, hnamed]
    exact (if_pos hop).symm
  have hexec := exec_powered (c := .cancel src e) (g := fun s => s.orderEntry src opCancel e) hl rfl
  rw [State.orderEntry_of_op hop hs, State.submit_of_front ht hc hf ho, hadmit] at hexec
  have hfreed : slotAt t k = none := by rw [← hcancel, State.doCancel_frees]
  have hkept : t.planSeq = s.planSeq := by rw [← hcancel, (State.PlanOnly.refl _).doCancel.planSeq, hseq]
  refine ⟨_, hexec, ?_, ?_⟩
  · rw [slotAt, State.showClaims_plan]
    exact hfreed
  · rw [(State.PlanOnly.refl _).showClaims.planSeq]
    exact hkept

theorem exec_fence (hop : (parseOrder e).op = opFence) :
    ∃ u : State, exec (.fence src e) s = .next u.settle ∧ (u.srcRt (srcNo src)).fence = some (e, s.planSeq) ∧ u.plan = s.plan := by
  obtain ⟨hplan, hseq⟩ := s.takeEntry_keeps (srcNo src) e
  obtain ⟨iv, claims, t, alloc, haccept, hadmit⟩ := State.admitEntry_of_wouldAdmit hw
  have hfence : (s.takeEntry (srcNo src) e).doFence (srcNo src) e = t := by
    rw [← haccept, State.acceptAll, State.acceptAll]
    have hne : (parseOrder e).op ≠ opCancel := by
      rw [hop]
      decide
    exact ((if_neg hne).trans (if_pos hop)).symm
  have hexec := exec_powered (c := .fence src e) (g := fun s => s.orderEntry src opFence e) hl rfl
  rw [State.orderEntry_of_op hop hs, State.submit_of_front ht hc hf ho, hadmit] at hexec
  have hset : (t.srcRt (srcNo src)).fence = some (e, s.planSeq) := by rw [← hfence, State.doFence, State.srcRt_setSrc, hseq]
  have hkept : t.plan = s.plan := by rw [← hfence, State.doFence, State.setSrc_plan, hplan]
  refine ⟨_, hexec, ?_, ?_⟩
  · rw [State.srcRt, (State.PlanOnly.refl _).showClaims.srcs]
    exact hset
  · rw [State.showClaims_plan]
    exact hkept

end

theorem State.takeEntries_keep (es : List (List Byte)) (s : State) (src : Nat) :
    (es.foldl (fun t e => t.takeEntry src e) s).planSeq = s.planSeq :=
  foldl_keeps (f := State.planSeq) (fun t e => (t.takeEntry_keeps src e).2) es s

theorem no_fence_of_chain {es : List (List Byte)} (h : chainBad (es.map parseOrder) = false) : ∀ e ∈ es, (parseOrder e).op ≠ opFence := by
  intro e he hop
  unfold chainBad at h
  simp only [Bool.or_eq_false_iff] at h
  have hall := List.any_eq_false.1 h.2 (parseOrder e) (List.mem_map_of_mem he)
  rw [hop] at hall
  exact hall rfl

theorem exec_chainedGroup {s : State} {src : Source} {es : List (List Byte)} (hl : s.live) (hs : s.orderSource (srcNo src) = true)
    (ht : s.drillTakes (srcNo src) = true) (hf : s.atFront (srcNo src) es = true) (ho : s.othersFirst (srcNo src) = false)
    (hb : chainBad (es.map parseOrder) = false)
    (hw : (es.foldl (fun t e => t.takeEntry (srcNo src) e) s).wouldAdmit (srcNo src) es = true) :
    ∃ u : State, exec (.chainedGroup src es) s = .next u.settle ∧
      u.planSeq = s.planSeq + (es.filter (fun e => (parseOrder e).op != opCancel)).length := by
  obtain ⟨ivs, claims, t, alloc, hlen, haccept, hadmit⟩ := State.admitEntries_of_wouldAdmit hw
  have hexec := exec_powered (c := .chainedGroup src es)
    (g := fun s => if s.orderSource (srcNo src) then s.submitGroup (srcNo src) es else s) hl rfl
  rw [if_pos hs, State.submitGroup_of_front ht hf ho hb, hadmit] at hexec
  refine ⟨_, hexec, ?_⟩
  rw [(State.PlanOnly.refl _).showClaims.planSeq, ← haccept]
  refine (State.acceptAll_planSeq hlen (no_fence_of_chain hb)).trans ?_
  rw [State.takeEntries_keep]

/-! A FENCE ends. -/

/-- A FENCE that has ended answers with its status. -/
theorem State.endFence_leaves (s : State) (n status : Nat) (e : List Byte) : ((s.endFence n status e).srcRt n).fence = none ∧
    (s.endFence n status e).plan = s.plan ∧
    s.completesTo (s.endFence n status e) n (orderCpl status (parseOrder e).op 0 true (parseOrder e).tag 0 0 0 s.now48 0)
      (parseOrder e).irq := by
  refine ⟨?_, ?_, fun hen hroom hlt => ?_⟩
  · rw [State.endFence, State.srcRt, (State.PlanOnly.refl _).complete.srcs, ← State.srcRt, State.srcRt_setSrc]
  · rw [State.endFence]
    exact State.complete_plan _ _ _ _
  · have hen' : (s.setSrc n { s.srcRt n with fence := none }).pairState n ≠ ringDisabled := hen
    have hroom' : (s.setSrc n { s.srcRt n with fence := none }).cplRoom n = true := hroom
    rw [State.endFence]
    dsimp only
    rw [State.complete, if_pos hlt, if_neg hen', if_pos hroom']
    rfl

theorem exec_fenceRelease {s : State} {src : Source} {e : List Byte} {seq : Nat} (hl : s.live)
    (hf : (s.srcRt (srcNo src)).fence = some (e, seq)) (hq : ∀ q ∈ s.plan, q.2.src = srcNo src → seq ≤ q.2.seq) :
    exec (.fenceRelease src) s = .next (s.endFence (srcNo src) 0x00 e).settle := by
  have hnone : (s.plan.any fun p => p.2.src == srcNo src && decide (p.2.seq < seq)) = false := by
    rw [List.any_eq_false]
    intro q hmem h
    rw [Bool.and_eq_true, beq_iff_eq, decide_eq_true_eq] at h
    exact absurd h.2 (Nat.not_lt.2 (hq q hmem h.1))
  have hexec : exec (.fenceRelease src) s = execFenceRelease src s := rfl
  rw [hexec, execFenceRelease, State.act_on _ hl.1]
  dsimp only
  rw [hf]
  dsimp only
  rw [hnone]
  rfl

theorem exec_fenceTimeBoundExpiry {s : State} {src : Source} {e : List Byte} {seq : Nat} (hl : s.live)
    (hf : (s.srcRt (srcNo src)).fence = some (e, seq)) (ht : s.absTime (parseOrder e).tBound < s.us) :
    exec (.fenceTimeBoundExpiry src) s = .next (s.endFence (srcNo src) 0x31 e).settle := by
  have hexec : exec (.fenceTimeBoundExpiry src) s = execFenceTimeBoundExpiry src s := rfl
  rw [hexec, execFenceTimeBoundExpiry, State.act_on _ hl.1]
  dsimp only
  rw [hf]
  dsimp only
  rw [if_pos ht]

/-! Orders over CAN. -/

theorem State.rejectOrder_leaves (s : State) (src : Nat) (o : Order) (status detail : Nat) :
    (s.rejectOrder src o status detail).plan = s.plan ∧ (s.rejectOrder src o status detail).srcs = s.srcs ∧
    (s.rejectOrder src o status detail).rdN R.DRILL_CNT_REJECT = (s.rdN R.DRILL_CNT_REJECT + 1) % 2 ^ 32 := by
  refine ⟨?_, ?_, ?_⟩
  · rw [State.rejectOrder, State.hwSet_plan, State.hwSet_plan, State.wrN_plan, State.complete_plan]
  · rw [State.rejectOrder, State.hwSet_srcs, State.hwSet_srcs, State.wrN_srcs, (State.PlanOnly.refl s).complete.srcs]
  · rw [State.rejectOrder, State.rdN, State.rd_hwSet_other _ _ _ (by decide), State.rd_hwSet_other _ _ _ (by decide), ← State.rdN,
      State.rdN_wrN_same, State.rdN, State.complete_sameRegs _ _ _ _ _ (cplRegs_above (by decide) (by decide)), State.rdN]

/-- Orders that are rejected together are each counted. -/
theorem State.rejectGroup_leaves (s : State) (src : Nat) (os : List Order) (j status detail : Nat) :
    (s.rejectGroup src os j status detail).plan = s.plan ∧ (s.rejectGroup src os j status detail).srcs = s.srcs ∧
    (s.rejectGroup src os j status detail).rdN R.DRILL_CNT_REJECT = (s.rdN R.DRILL_CNT_REJECT + os.length) % 2 ^ 32 := by
  unfold State.rejectGroup
  rw [← List.length_zipIdx (l := os) (i := 0)]
  generalize os.zipIdx = l
  induction l generalizing s with
  | nil => exact ⟨rfl, rfl, (Nat.mod_eq_of_lt (s.rd R.DRILL_CNT_REJECT).isLt).symm⟩
  | cons x l ih =>
    have hone : ∃ st d, (if x.2 = j then s.rejectOrder src x.1 status detail else s.rejectOrder src x.1 0x16 0x010C) =
        s.rejectOrder src x.1 st d := by
      split
      · exact ⟨_, _, rfl⟩
      · exact ⟨_, _, rfl⟩
    obtain ⟨st, d, hone⟩ := hone
    obtain ⟨hplan, hsrcs, hcount⟩ := s.rejectOrder_leaves src x.1 st d
    obtain ⟨hplan', hsrcs', hcount'⟩ := ih (s.rejectOrder src x.1 st d)
    rw [List.foldl_cons, hone]
    refine ⟨hplan'.trans hplan, hsrcs'.trans hsrcs, ?_⟩
    rw [hcount', hcount, List.length_cons]
    omega

theorem State.rejectGap_leaves {s : State} {src : Nat} (h : (s.srcRt src).group ≠ []) : ((s.rejectGap src).srcRt src).group = [] ∧
    (s.rejectGap src).plan = s.plan ∧
    (s.rejectGap src).rdN R.DRILL_CNT_REJECT = (s.rdN R.DRILL_CNT_REJECT + (s.srcRt src).group.length) % 2 ^ 32 := by
  have hne : (s.srcRt src).group.isEmpty = false := by rwa [List.isEmpty_eq_false_iff]
  obtain ⟨hplan, hsrcs, hcount⟩ := (s.setSrc src { s.srcRt src with group := [] }).rejectGroup_leaves src ((s.srcRt src).group.map parseOrder)
    (s.srcRt src).group.length 0x16 0x010C
  unfold State.rejectGap
  dsimp only
  rw [hne, if_neg Bool.false_ne_true]
  refine ⟨?_, hplan, ?_⟩
  · rw [State.srcRt, hsrcs, ← State.srcRt, State.srcRt_setSrc]
  · rw [hcount, List.length_map]
    rfl

theorem State.gapPassed_of {s : State} {src : Nat} (h : (s.srcRt src).group ≠ []) (hat : (s.srcRt src).groupAt + 400000 < s.cyc) :
    s.gapPassed src = true := by
  rw [State.gapPassed, List.isEmpty_eq_false_iff.2 h, decide_eq_true hat]
  rfl

/-- A frame taken into the group, or, where it ends it, with the group among the entries that wait. -/
def State.frameTaken (s : State) (n : Nat) (f : CanFrame) : State :=
  let s := s.noteIdle .canOrder
  let r := s.srcRt (32 + n)
  if (parseOrder f.data).chain then s.setSrc (32 + n) { r with group := r.group ++ [f.data], groupAt := s.cyc }
  else s.setSrc (32 + n) (({ r with group := [] } : SrcRt).arrive s.tick s.cyc (r.group ++ [f.data]))

theorem State.frameTaken_leaves (s : State) (n : Nat) (f : CanFrame) : s.frameTaken n f =
    { s with srcs := (s.frameTaken n f).srcs, sys := (s.frameTaken n f).sys } ∧
    ((parseOrder f.data).chain = false → ((s.frameTaken n f).srcRt (32 + n)).waiting =
      (s.srcRt (32 + n)).waiting ++ (s.srcRt (32 + n)).group ++ [f.data] ∧ ((s.frameTaken n f).srcRt (32 + n)).group = []) ∧
    ((parseOrder f.data).chain = true → ((s.frameTaken n f).srcRt (32 + n)).group = (s.srcRt (32 + n)).group ++ [f.data] ∧
      ((s.frameTaken n f).srcRt (32 + n)).waiting = (s.srcRt (32 + n)).waiting) := by
  have hrt : (s.noteIdle .canOrder).srcRt (32 + n) = s.srcRt (32 + n) := by rw [State.srcRt, s.noteIdle_frame, State.srcRt]
  have hset (r : SrcRt) : (s.noteIdle .canOrder).setSrc (32 + n) r = { s with
      srcs := ((s.noteIdle .canOrder).setSrc (32 + n) r).srcs, sys := ((s.noteIdle .canOrder).setSrc (32 + n) r).sys } := by
    rw [s.noteIdle_frame]
    rfl
  refine ⟨?_, fun hc => ?_, fun hc => ?_⟩
  · unfold State.frameTaken
    dsimp only
    split
    · exact hset _
    · exact hset _
  · unfold State.frameTaken
    dsimp only
    rw [hc, if_neg Bool.false_ne_true, State.srcRt_setSrc, hrt]
    exact ⟨(List.append_assoc _ _ _).symm, rfl⟩
  · unfold State.frameTaken
    dsimp only
    rw [hc, if_pos rfl, State.srcRt_setSrc, hrt]
    exact ⟨rfl, rfl⟩

section
variable {s : State} {n : Fin 2} {f : CanFrame} (hl : s.live) (hn : s.canOrders n = true) (hid : s.canOrderId n f = true)
  (hfd : s.canFd n = true)
include hl hn hid hfd

theorem exec_canOrderFrame (hgap : s.gapPassed (32 + n.val) = false) (hf : f.fd = true) (hlen : f.data.length = 64)
    (hroom : (s.can n).txq.length < 32) : exec (.canOrderFrame n f) s = .next (s.frameTaken n f) := by
  have hexec : exec (.canOrderFrame n f) s = execCanOrderFrame n f s := rfl
  have hquiet : (s.frameTaken n f).raised = [] := by rw [(s.frameTaken_leaves n f).1, hl.2]
  have hok : ¬ (!f.fd || f.data.length != 64) = true := by
    rw [hf, hlen]
    decide
  have hhere : ¬ (!s.canOrders n || !s.canOrderId n f || (f.fd && !s.canFd n)) = true := by
    rw [hn, hid, hfd, hf]
    decide
  rw [hexec, execCanOrderFrame, State.act_on _ hl.1]
  dsimp only
  rw [if_neg hhere, if_neg hok, if_neg (by omega), hgap, if_neg Bool.false_ne_true]
  exact congrArg _ (State.settle_quiet hquiet)

theorem exec_canOrderFrame_bad (hf : f.fd = false ∨ f.data.length ≠ 64) :
    exec (.canOrderFrame n f) s = .next (s.bump (R.DRILL_CAN_STAT n) F.DRILL_CAN_STAT_BAD_FRAME 1) := by
  have hexec : exec (.canOrderFrame n f) s = execCanOrderFrame n f s := rfl
  have hbad : (!f.fd || f.data.length != 64) = true := by
    obtain h | h := hf
    · rw [h]
      rfl
    · rw [bne_iff_ne.2 h, Bool.or_true]
  have hhere : ¬ (!s.canOrders n || !s.canOrderId n f || (f.fd && !s.canFd n)) = true := by
    rw [hn, hid, hfd, Bool.not_true, Bool.and_false]
    decide
  rw [hexec, execCanOrderFrame, State.act_on _ hl.1]
  dsimp only
  rw [if_neg hhere, if_pos hbad]
  exact congrArg _ (State.settle_quiet hl.2)

end

/-- Settles O21: a CANCEL frees its slot, a FENCE holds its source, a group is accepted whole, and frames over CAN join their group. -/
theorem cancelFenceAndGroups : Obligations.CancelFenceAndGroups := by
  refine ⟨fun s src e hl _ => ⟨fun hs ht hc hf ho hw => ⟨fun hop k p hk => ?_, fun hop => ?_⟩, fun seq hfence => ⟨fun hq => ?_, fun ht => ?_⟩⟩,
    fun s hl => ⟨fun src es hs ht hf ho hb hw => exec_chainedGroup hl hs ht hf ho hb hw, fun n f hn hid hfd hgap => ⟨?_, ?_, ?_⟩,
      fun n hne hat => ?_⟩⟩
  · exact exec_cancel hl hs ht hc hf ho hw hop hk
  · exact exec_fence hl hs ht hc hf ho hw hop
  · exact ⟨_, exec_fenceRelease hl hfence hq, s.endFence_leaves (srcNo src) 0x00 e⟩
  · obtain ⟨hnone, -, hcpl⟩ := s.endFence_leaves (srcNo src) 0x31 e
    exact ⟨_, exec_fenceTimeBoundExpiry hl hfence ht, hnone, hcpl⟩
  · intro hf hlen hroom hc
    obtain ⟨hframe, hlast, -⟩ := s.frameTaken_leaves n f
    exact ⟨_, exec_canOrderFrame hl hn hid hfd hgap hf hlen hroom, (hlast hc).1, (hlast hc).2, hframe⟩
  · intro hf hlen hroom hc
    obtain ⟨hframe, -, hmore⟩ := s.frameTaken_leaves n f
    exact ⟨_, exec_canOrderFrame hl hn hid hfd hgap hf hlen hroom, (hmore hc).1, (hmore hc).2, hframe⟩
  · intro hf
    exact ⟨_, exec_canOrderFrame_bad hl hn hid hfd hf, s.f_bump_same _ _ 1 (by decide), (State.onlyRegs_refl hl.2 _).bump List.mem_cons_self _ _⟩
  · have hexec := exec_powered (c := .canChainGapExpiry n)
      (g := fun s => if s.gapPassed (32 + n.val) then s.rejectGap (32 + n.val) else s) hl rfl
    rw [if_pos (State.gapPassed_of hne hat)] at hexec
    exact ⟨_, hexec, State.rejectGap_leaves hne⟩

end Sys2Proof.Machine
end

section
/-! The link of a pack: what its operations keep (R197–R207). -/

namespace Sys2Proof.Machine

/-! Little-endian values are as wide as their bytes. -/

theorem leVal_lt (b : List Byte) : leVal b < 256 ^ b.length := by
  induction b with
  | nil => decide
  | cons x b ih =>
    have hx : x.toNat < 256 := x.isLt
    rw [leVal, List.length_cons, pow_succ]
    omega

theorem leAt_lt (b : List Byte) (o n : Nat) : leAt b o n < 256 ^ n :=
  (leVal_lt _).trans_le (Nat.pow_le_pow_right (by decide) (List.length_take_le n _))

theorem crc32c_lt (b : List Byte) : crc32c b < 2 ^ 32 := BitVec.isLt _

/-- What a pack knows of its link: the current it asks for, its times and counts, and who it is. -/
structure LinkPart where
  linkI : Option Nat
  linkAt : Nat
  identAt : Nat
  cnt : Option Nat
  fails : Nat
  prevId : Option Nat

def PackRt.linkPart (r : PackRt) : LinkPart := ⟨r.linkI, r.linkAt, r.identAt, r.cnt, r.fails, r.prevId⟩

/-- The registers of the packs. -/
def PackReg (o : Nat) : Prop := 0x4000 ≤ o ∧ o < 0x5000

/-- The end of an order leaves the registers of the packs. -/
theorem State.endSlot_rd_pack (s : State) (k : Nat) (p : Slot) (status code : Nat) {o : Nat} (ho : PackReg o) :
    (s.endSlot k p status code).rd o = s.rd o := by
  obtain ⟨hlo, hhi⟩ := ho
  obtain ⟨b, w, h⟩ := s.endSlot_eq k p status code
  have hcpl : o ∉ cplRegs p.src := cplRegs_above (by omega) (by omega)
  have htold (t : State) : (t.breachTold k p status code).rd o = t.rd o := by
    unfold State.breachTold
    split
    · rw [State.incCounter_sameRegs _ 2 _ (by
        simp only [counterRegs, R.NVM_CNT_LO, R.NVM_CNT_HI, R.NVM_STATUS, List.mem_cons, List.not_mem_nil, or_false]
        omega)]
      exact State.rd_wrN_other _ _ (by
        simp only [R.DRILL_CNT_BREACH]
        omega)
    · rfl
  rw [h, State.planShown_sameRegs _ _ (by
    simp only [planRegs, R.DRILL_STATUS, R.COORD_STATUS, List.mem_cons, List.not_mem_nil, List.mem_map, or_false]
    omega), State.releaseClaims_frame]
  exact (htold _).trans (s.complete_sameRegs p.src b w o hcpl)

theorem State.breachSlot_rd_pack (s : State) (k : Nat) (p : Slot) (code : Nat) {o : Nat} (ho : PackReg o) :
    (s.breachSlot k p code).rd o = s.rd o := by
  unfold State.breachSlot
  split
  · exact s.endSlot_rd_pack k p _ _ ho
  · exact s.endSlot_rd_pack k p _ _ ho

/-- `t` keeps the time, what a pack knows of its link, and the registers of the packs outside `l`. -/
structure State.LinkKept (s t : State) (i : Nat) (l : List Nat) : Prop where
  rd : ∀ o, PackReg o → o ∉ l → t.rd o = s.rd o
  cyc : t.cyc = s.cyc
  link : (t.pack i).linkPart = (s.pack i).linkPart

section
variable {s t u : State} {i : Nat} {l l' : List Nat}

theorem State.LinkKept.refl (s : State) (i : Nat) (l : List Nat) : s.LinkKept s i l := ⟨fun _ _ _ => rfl, rfl, rfl⟩

theorem State.LinkKept.trans (h : s.LinkKept t i l) (h' : t.LinkKept u i l) : s.LinkKept u i l :=
  ⟨fun o hp ho => (h'.rd o hp ho).trans (h.rd o hp ho), h'.cyc.trans h.cyc, h'.link.trans h.link⟩

theorem State.LinkKept.mono (h : s.LinkKept t i l) (hl : l ⊆ l') : s.LinkKept t i l' :=
  ⟨fun o hp ho => h.rd o hp fun hm => ho (hl hm), h.cyc, h.link⟩

theorem State.LinkKept.ite {c : Prop} [Decidable c] (ht : s.LinkKept t i l) (hu : s.LinkKept u i l) :
    s.LinkKept (if c then t else u) i l := by
  split
  · exact ht
  · exact hu

theorem State.LinkKept.wr {o : Nat} {v : Word} (h : s.LinkKept t i l) (ho : o ∈ l) : s.LinkKept (t.wr o v) i l :=
  ⟨fun x hp hx => (State.rd_wr_other _ _ fun e : x = o => hx (e ▸ ho)).trans (h.rd x hp hx), h.cyc, h.link⟩

theorem State.LinkKept.setF {o v : Nat} {g : Fld} (h : s.LinkKept t i l) (ho : o ∈ l) : s.LinkKept (t.setF o g v) i l := h.wr ho

theorem State.LinkKept.wrN {o v : Nat} (h : s.LinkKept t i l) (ho : o ∈ l) : s.LinkKept (t.wrN o v) i l := h.wr ho

theorem State.LinkKept.wr64 {lo hi v : Nat} (h : s.LinkKept t i l) (hlo : lo ∈ l) (hhi : hi ∈ l) : s.LinkKept (t.wr64 lo hi v) i l :=
  (h.wrN hlo).wrN hhi

theorem State.LinkKept.raise {id inst : Nat} {b : List Byte} (h : s.LinkKept t i l) : s.LinkKept (t.raise id inst b) i l :=
  ⟨h.rd, h.cyc, h.link⟩

theorem State.LinkKept.takeFree {n : Nat} (h : s.LinkKept t i l) : s.LinkKept (t.takeFree n).2 i l := by
  rw [t.takeFree_frame n]
  exact ⟨h.rd, h.cyc, h.link⟩

theorem State.LinkKept.setPack {r : PackRt} (h : s.LinkKept t i l) (hr : r.linkPart = (t.pack i).linkPart) :
    s.LinkKept (t.setPack i r) i l :=
  ⟨h.rd, h.cyc, by rw [State.pack_setPack, hr, h.link]⟩

theorem State.LinkKept.breachSlot {k code : Nat} {p : Slot} (h : s.LinkKept t i l) : s.LinkKept (t.breachSlot k p code) i l := by
  have hplan := (State.PlanOnly.refl t).breachSlot (k := k) (p := p) (code := code)
  refine ⟨fun o hp hm => (t.breachSlot_rd_pack k p code hp).trans (h.rd o hp hm), ?_, ?_⟩
  · rw [hplan.1]
    exact h.cyc
  · rw [State.pack, hplan.1]
    exact h.link

theorem State.LinkKept.endAtRest {k : Nat} (h : s.LinkKept t i l) : s.LinkKept (t.endAtRest k) i l := by
  refine State.LinkKept.ite ?_ h
  generalize t.planOrder.filter _ = ps
  induction ps generalizing t with
  | nil => exact h
  | cons p ps ih => exact ih h.breachSlot

theorem State.LinkKept.f (h : s.LinkKept t i l) {o : Nat} (hp : PackReg o) (ho : o ∉ l) (g : Fld) : t.f o g = s.f o g := by
  rw [State.f, h.rd o hp ho, State.f]

theorem State.LinkKept.us (h : s.LinkKept t i l) : t.us = s.us := by rw [State.us, h.cyc, State.us]

end

/-! The demand of a pack's charge function. -/

/-- The registers of a demand: the charge function's status and its references. -/
def demandRegs (i : Nat) : List Nat := [R.PACK_CHG_STATUS i, R.PACK_CHG_SETPT i]

section
variable {s t : State} {i : Nat} {l : List Nat}

theorem State.LinkKept.showRefs (h : s.LinkKept t i l) (hl : demandRegs i ⊆ l) : s.LinkKept (t.showRefs i) i l :=
  (h.setF (hl (by simp [demandRegs]))).setF (hl (by simp [demandRegs]))

theorem State.LinkKept.chargeStarted {st : Nat} (h : s.LinkKept t i l) (hl : demandRegs i ⊆ l) : s.LinkKept (t.chargeStarted i st) i l := by
  have hrest := (h.setF (g := F.PACK_CHG_STATUS_STATE) (v := st) (hl (by simp [demandRegs] : R.PACK_CHG_STATUS i ∈ demandRegs i))).endAtRest (k := i)
  exact (hrest.showRefs hl).setPack rfl

theorem State.LinkKept.leaveCharging {st : Nat} (h : s.LinkKept t i l) (hl : demandRegs i ⊆ l) : s.LinkKept (t.leaveCharging i st) i l := by
  have ho : R.PACK_CHG_STATUS i ∈ l := hl (by simp [demandRegs])
  exact ((h.setF ho).setF ho).setPack rfl

theorem State.LinkKept.chargeDemand (h : s.LinkKept t i l) (hl : demandRegs i ⊆ l) : s.LinkKept (t.chargeDemand i) i l := by
  have hset := h.setF (g := F.PACK_CHG_STATUS_DEMAND) (v := t.demandOf i) (hl (by simp [demandRegs] : R.PACK_CHG_STATUS i ∈ demandRegs i))
  rw [State.chargeDemand_eq]
  exact (hset.chargeStarted hl).ite (((hset.leaveCharging hl).showRefs hl).ite hset)

end

/-! The energy figures. -/

/-- The registers of a pack's energy at full charge. -/
def fullRegs (i : Nat) : List Nat := [R.PACK_EFULL_LO i, R.PACK_EFULL_HI i, R.PACK_SOH i]

theorem State.LinkKept.showEFull {s t : State} {i : Nat} {l : List Nat} (h : s.LinkKept t i l) (hl : fullRegs i ⊆ l) :
    s.LinkKept (t.showEFull i) i l := by
  have hlo : R.PACK_EFULL_LO i ∈ l := hl (by simp [fullRegs])
  have hhi : R.PACK_EFULL_HI i ∈ l := hl (by simp [fullRegs])
  have hsoh : R.PACK_SOH i ∈ l := hl (by simp [fullRegs])
  exact ((h.wr64 hlo hhi).takeFree.setF hsoh).ite ((h.wr64 hlo hhi).setF hsoh)

theorem State.LinkKept.capMj {s t : State} {i : Nat} {l : List Nat} {cm : Bool} {mv cap : Nat} (h : s.LinkKept t i l) :
    s.LinkKept (t.capMj cm mv cap).2 i l := by
  unfold State.capMj
  split
  · exact h
  dsimp only
  split
  · exact h
  · exact h.takeFree (n := 1)

/-! Alarms (R205). -/

theorem State.LinkKept.risingAlarms {s t : State} {i old new : Nat} {l bits : List Nat} (h : s.LinkKept t i l) :
    s.LinkKept (t.risingAlarms i old new bits) i l := by
  unfold State.risingAlarms
  induction bits generalizing t with
  | nil => exact h
  | cons b bits ih => exact ih (h.raise.ite h)

theorem State.LinkKept.setAlarms {s t : State} {i : Nat} {l : List Nat} {chg hot dsg : Bool} (h : s.LinkKept t i l) (hl : demandRegs i ⊆ l) :
    s.LinkKept (t.setAlarms i chg hot dsg) i l := by
  have ho : R.PACK_CHG_STATUS i ∈ l := hl (by simp [demandRegs])
  have hset := h.setPack (r := { t.pack i with
    alarms := boolNat chg + 4 * boolNat hot, hot := hot || (t.pack i).hot, dsgOff := dsg, dsgStands := false }) rfl
  exact (((hset.setF ho).ite hset).raise.ite ((hset.setF ho).ite hset)).chargeDemand hl

/-! A link that enters, leaves or changes its state (R197, R198, R202). -/

section
variable (s : State) (i : Fin 4)

theorem linkStatus_packReg : PackReg (R.PACK_LINK_STATUS i) := by
  simp only [PackReg, R.PACK_LINK_STATUS]
  omega

theorem State.enterIdent_leaves : (s.enterIdent i).linkState i = lkIdent ∧ ((s.enterIdent i).pack i).identAt = s.us ∧
    ((s.enterIdent i).pack i).linkI = (s.pack i).linkI ∧ ((s.enterIdent i).pack i).linkV = (s.pack i).linkV ∧
    s.sameRegs (s.enterIdent i) [R.PACK_LINK_STATUS i] ∧ (s.enterIdent i).raised = s.raised := by
  have hst : (((s.setF (R.PACK_LINK_STATUS i) F.PACK_LINK_STATUS_STATE lkIdent).setF (R.PACK_LINK_STATUS i) F.PACK_LINK_STATUS_T_VALID 0)).f
      (R.PACK_LINK_STATUS i) F.PACK_LINK_STATUS_STATE = lkIdent := by
    rw [State.f_setF_field _ _ (by decide) (by decide) (.inl (by decide)), State.f_setF_same _ _ _ _ (by decide)]
    rfl
  refine ⟨hst, ?_, ?_, ?_, ?_, rfl⟩
  · rw [State.enterIdent, State.pack_setPack]
    rfl
  · rw [State.enterIdent, State.pack_setPack]
    rfl
  · rw [State.enterIdent, State.pack_setPack]
    rfl
  · intro o ho
    rw [State.enterIdent, State.setPack_rd_of]
    exact ((s.sameRegs_refl _).setF List.mem_cons_self _ _).setF List.mem_cons_self _ _ o ho

/-- The values of a link, dropped. -/
def State.linkEmptied : State :=
  ((((s.wrN (R.PACK_LINK_STATUS i) 0).setPack i { s.pack i with
    linkI := none, linkV := none, linkD := none, alarms := 0, dsgOff := (s.pack i).dsgOff && (s.pack i).dsgStands,
    cnt := none, fails := 0 }).wrN (R.PACK_LINK_VT i) 0).wrN (R.PACK_LINK_I i) 0).wrN (R.PACK_LINK_CHG i) 0xFFFFFFFF

theorem State.dropLink_eq : s.dropLink i = ((s.linkEmptied i).wrN (R.PACK_LINK_DSG i) 0xFFFF).showEFull i := rfl

/-- The energy at full charge that a pack shows: its link's, or the one that is set. -/
def State.fullOf : Nat :=
  if s.f (R.PACK_LINK_CFG i) F.PACK_LINK_CFG_LINK_MODE = 1 ∨ s.f (R.PACK_LINK_CFG i) F.PACK_LINK_CFG_LINK_MODE = 2 then
    ((s.pack i).linkFull).getD (s.rd64 (R.PACK_EDESIGN_LO i) (R.PACK_EDESIGN_HI i))
  else s.rd64 (R.PACK_EDESIGN_LO i) (R.PACK_EDESIGN_HI i)

theorem State.showEFull_eq : ∃ soh free : Nat, s.showEFull i =
    ({ s.wr64 (R.PACK_EFULL_LO i) (R.PACK_EFULL_HI i) (sat 48 (s.fullOf i)) with free := free } : State).setF (R.PACK_SOH i)
      F.PACK_SOH_SOH_E soh := by
  unfold State.showEFull
  extract_lets d mode full design u
  split
  · exact ⟨(u.takeFree 11).1, (u.takeFree 11).2.free,
      congrArg (fun w : State => w.setF (R.PACK_SOH i) F.PACK_SOH_SOH_E (u.takeFree 11).1) (u.takeFree_frame 11)⟩
  · exact ⟨_, u.free, rfl⟩

theorem State.showEFull_leaves : (s.showEFull i).pack i = s.pack i ∧ (s.showEFull i).raised = s.raised ∧
    s.sameRegs (s.showEFull i) (fullRegs i) ∧ (s.showEFull i).eFull i = sat 48 (s.fullOf i) := by
  obtain ⟨soh, free, h⟩ := s.showEFull_eq i
  have hlo : R.PACK_EFULL_LO i ∈ fullRegs i := by simp [fullRegs]
  have hhi : R.PACK_EFULL_HI i ∈ fullRegs i := by simp [fullRegs]
  have hwr := (s.sameRegs_refl (fullRegs i)).wr64 hlo hhi (sat 48 (s.fullOf i))
  have hne : R.PACK_EFULL_LO i ≠ R.PACK_SOH i ∧ R.PACK_EFULL_HI i ≠ R.PACK_SOH i ∧ R.PACK_EFULL_LO i ≠ R.PACK_EFULL_HI i := by
    simp only [R.PACK_EFULL_LO, R.PACK_EFULL_HI, R.PACK_SOH]
    omega
  obtain ⟨hsl, hsh, hlh⟩ := hne
  have hsat : sat 48 (s.fullOf i) < 2 ^ 64 := by
    unfold sat
    omega
  rw [h]
  refine ⟨rfl, rfl, State.sameRegs.setF (t := { s.wr64 _ _ _ with free := free }) hwr (by simp [fullRegs]) _ _, ?_⟩
  rw [State.eFull, State.rd64, State.rdN, State.rd_setF_other _ _ _ hsl, State.rdN, State.rd_setF_other _ _ _ hsh]
  exact (State.rd64_wr64 s hlh _).trans (Nat.mod_eq_of_lt hsat)

end

/-! A word taken under a mask. -/

theorem getBits_masked_in {r n m : Word} {lo w : Nat} (hw : lo + w ≤ 32) (hm : ∀ i, i < w → m.getLsbD (lo + i) = true) :
    getBits ((r &&& ~~~m) ||| (n &&& m)) lo w = getBits n lo w := by
  apply Nat.eq_of_testBit_eq
  intro i
  rw [getBits_testBit (by omega), getBits_testBit (by omega)]
  by_cases hi : i < w
  · have hlt : lo + i < 32 := by omega
    rw [BitVec.getLsbD_or, BitVec.getLsbD_and, BitVec.getLsbD_and, BitVec.getLsbD_not, hm i hi]
    simp
  · simp [hi]

theorem getBits_masked_out {r n m : Word} {lo w : Nat} (hw : lo + w ≤ 32) (hm : ∀ i, i < w → m.getLsbD (lo + i) = false) :
    getBits ((r &&& ~~~m) ||| (n &&& m)) lo w = getBits r lo w := by
  apply Nat.eq_of_testBit_eq
  intro i
  rw [getBits_testBit (by omega), getBits_testBit (by omega)]
  by_cases hi : i < w
  · have hlt : lo + i < 32 := by omega
    rw [BitVec.getLsbD_or, BitVec.getLsbD_and, BitVec.getLsbD_and, BitVec.getLsbD_not, hm i hi]
    simp [hlt]
  · simp [hi]

/-! A write of the link's configuration (R197, R198). -/

/-- The mode of the link that a word asks for: 3 acts as 0. -/
def modeOf (v : Word) : Nat := if getBits v 0 2 = 3 then 0 else getBits v 0 2

section
variable (s : State) (i : Fin 4) (v : Word) (hw : Bool)

/-- The word that a write leaves: REQUIRED is Headland's alone. -/
def State.linkCfgTaken : State :=
  s.wr (R.PACK_LINK_CFG i) ((s.rd (R.PACK_LINK_CFG i) &&& ~~~(if hw then 0x000FFF3F#32 else 0x000FFF2F#32)) |||
    (v &&& (if hw then 0x000FFF3F#32 else 0x000FFF2F#32)))

theorem State.writeLinkCfg_eq : s.writeLinkCfg i v hw = if (s.linkCfgTaken i v hw).linkMode i = s.linkMode i then s.linkCfgTaken i v hw
    else if (s.linkCfgTaken i v hw).linkMode i = 0 then (s.linkCfgTaken i v hw).dropLink i
    else ((s.linkCfgTaken i v hw).dropLink i).enterIdent i := rfl

theorem State.linkCfgTaken_linkMode : (s.linkCfgTaken i v hw).linkMode i = modeOf v := by
  have hf : (s.linkCfgTaken i v hw).f (R.PACK_LINK_CFG i) F.PACK_LINK_CFG_LINK_MODE = getBits v 0 2 := by
    rw [State.linkCfgTaken, State.f, State.rd_wr_same]
    cases hw
    · exact getBits_masked_in (by decide) (by decide)
    · exact getBits_masked_in (by decide) (by decide)
  rw [State.linkMode, hf]
  rfl

theorem State.linkCfgTaken_required : (s.linkCfgTaken i v false).f (R.PACK_LINK_CFG i) F.PACK_LINK_CFG_REQUIRED =
    s.f (R.PACK_LINK_CFG i) F.PACK_LINK_CFG_REQUIRED := by
  rw [State.linkCfgTaken, State.f, State.rd_wr_same, State.f]
  exact getBits_masked_out (by decide) (by decide)

/-- A link whose values are dropped is OFF. -/
theorem State.dropLink_leaves : (s.dropLink i).linkState i = lkOff ∧ ((s.dropLink i).pack i).linkI = none ∧
    ((s.dropLink i).pack i).linkV = none ∧ (s.dropLink i).rd (R.PACK_LINK_CFG i) = s.rd (R.PACK_LINK_CFG i) := by
  obtain ⟨hpack, -, hregs, -⟩ := ((s.linkEmptied i).wrN (R.PACK_LINK_DSG i) 0xFFFF).showEFull_leaves i
  have hstate : R.PACK_LINK_STATUS i ∉ fullRegs i := by
    simp only [fullRegs, R.PACK_LINK_STATUS, R.PACK_EFULL_LO, R.PACK_EFULL_HI, R.PACK_SOH, List.mem_cons, List.not_mem_nil, or_false]
    omega
  have hcfg : R.PACK_LINK_CFG i ∉ fullRegs i := by
    simp only [fullRegs, R.PACK_LINK_CFG, R.PACK_EFULL_LO, R.PACK_EFULL_HI, R.PACK_SOH, List.mem_cons, List.not_mem_nil, or_false]
    omega
  have hne : R.PACK_LINK_STATUS i ≠ R.PACK_LINK_DSG i ∧ R.PACK_LINK_STATUS i ≠ R.PACK_LINK_CHG i ∧
      R.PACK_LINK_STATUS i ≠ R.PACK_LINK_I i ∧ R.PACK_LINK_STATUS i ≠ R.PACK_LINK_VT i := by
    simp only [R.PACK_LINK_STATUS, R.PACK_LINK_DSG, R.PACK_LINK_CHG, R.PACK_LINK_I, R.PACK_LINK_VT]
    omega
  have hne' : R.PACK_LINK_CFG i ≠ R.PACK_LINK_DSG i ∧ R.PACK_LINK_CFG i ≠ R.PACK_LINK_CHG i ∧ R.PACK_LINK_CFG i ≠ R.PACK_LINK_I i ∧
      R.PACK_LINK_CFG i ≠ R.PACK_LINK_VT i ∧ R.PACK_LINK_CFG i ≠ R.PACK_LINK_STATUS i := by
    simp only [R.PACK_LINK_CFG, R.PACK_LINK_STATUS, R.PACK_LINK_DSG, R.PACK_LINK_CHG, R.PACK_LINK_I, R.PACK_LINK_VT]
    omega
  obtain ⟨hdsg, hchg, hi, hvt⟩ := hne
  obtain ⟨hdsg', hchg', hi', hvt', hst'⟩ := hne'
  rw [s.dropLink_eq, hpack]
  refine ⟨?_, ?_, ?_, ?_⟩
  · rw [State.linkState, State.f, hregs _ hstate, State.linkEmptied, State.rd_wrN_other _ _ hdsg, State.rd_wrN_other _ _ hchg,
      State.rd_wrN_other _ _ hi, State.rd_wrN_other _ _ hvt, State.setPack_rd_of, State.wrN, State.rd_wr_same]
    decide
  · rw [State.wrN_pack_of, State.linkEmptied, State.wrN_pack_of, State.wrN_pack_of, State.wrN_pack_of, State.pack_setPack]
  · rw [State.wrN_pack_of, State.linkEmptied, State.wrN_pack_of, State.wrN_pack_of, State.wrN_pack_of, State.pack_setPack]
  · rw [hregs _ hcfg, State.linkEmptied, State.rd_wrN_other _ _ hdsg', State.rd_wrN_other _ _ hchg', State.rd_wrN_other _ _ hi',
      State.rd_wrN_other _ _ hvt', State.setPack_rd_of, State.rd_wrN_other _ _ hst']

theorem State.writeLinkCfg_rd : (s.writeLinkCfg i v hw).rd (R.PACK_LINK_CFG i) = (s.linkCfgTaken i v hw).rd (R.PACK_LINK_CFG i) := by
  obtain ⟨-, -, -, hdrop⟩ := (s.linkCfgTaken i v hw).dropLink_leaves i
  obtain ⟨-, -, -, -, hident, -⟩ := ((s.linkCfgTaken i v hw).dropLink i).enterIdent_leaves i
  have hne : R.PACK_LINK_CFG i ∉ [R.PACK_LINK_STATUS i] := by
    simp only [R.PACK_LINK_CFG, R.PACK_LINK_STATUS, List.mem_singleton]
    omega
  rw [s.writeLinkCfg_eq]
  split
  · rfl
  split
  · exact hdrop
  · exact (hident _ hne).trans hdrop

theorem State.writeLinkCfg_linkMode : (s.writeLinkCfg i v hw).linkMode i = modeOf v := by
  rw [← s.linkCfgTaken_linkMode i v hw, State.linkMode, State.f, s.writeLinkCfg_rd, ← State.f, ← State.linkMode]

/-- A mode that changes drops the link, and identifies it again. -/
theorem State.writeLinkCfg_of_changed (h : modeOf v ≠ s.linkMode i) :
    (s.writeLinkCfg i v hw).linkState i = (if modeOf v = 0 then lkOff else lkIdent) ∧
    ((s.writeLinkCfg i v hw).pack i).linkI = none ∧ ((s.writeLinkCfg i v hw).pack i).linkV = none := by
  obtain ⟨hoff, hi, hv, -⟩ := (s.linkCfgTaken i v hw).dropLink_leaves i
  obtain ⟨hident, -, hi', hv', -⟩ := ((s.linkCfgTaken i v hw).dropLink i).enterIdent_leaves i
  rw [s.writeLinkCfg_eq, s.linkCfgTaken_linkMode, if_neg h]
  split
  · exact ⟨hoff, hi, hv⟩
  · exact ⟨hident, hi'.trans hi, hv'.trans hv⟩

/-- A mode that stays leaves the link as it is. -/
theorem State.writeLinkCfg_of_same (h : modeOf v = s.linkMode i) : s.writeLinkCfg i v hw = s.linkCfgTaken i v hw := by
  rw [s.writeLinkCfg_eq, s.linkCfgTaken_linkMode, if_pos h]

end

/-- What a refused bit of another master leaves: the report alone is new. -/
theorem State.hwDenied_frame (s : State) (p : Path) (off : Nat) (v : Word) :
    s.hwDenied p off v = { s with raised := (s.hwDenied p off v).raised } := by
  unfold State.hwDenied
  split
  · rfl
  · rfl

/-! A link that is lost (R198, R202). -/

/-- A link out of reach: its state, and what it imposed. -/
def State.outOfReach (s : State) (i : Nat) : State :=
  let s := (s.setF (R.PACK_LINK_STATUS i) F.PACK_LINK_STATUS_STATE lkLost).setF (R.PACK_LINK_STATUS i) F.PACK_LINK_STATUS_T_VALID 0
  (s.lapseLimits i).setPack i { (s.lapseLimits i).pack i with cnt := none }

theorem State.outOfReach_leaves (s : State) (i : Nat) : (s.outOfReach i).linkState i = lkLost ∧
    (s.outOfReach i).flag (R.PACK_LINK_STATUS i) F.PACK_LINK_STATUS_T_VALID = false ∧ ((s.outOfReach i).pack i).linkI = none := by
  refine ⟨?_, ?_, ?_⟩
  · rw [State.outOfReach, State.linkState, State.setPack_f_of, State.lapseLimits, State.setPack_f_of,
      State.f_setF_field _ _ (by decide) (by decide) (.inl (by decide)), State.f_setF_same _ _ _ _ (by decide)]
    rfl
  · rw [State.outOfReach, State.setPack_flag_of, State.lapseLimits, State.setPack_flag_of, State.flag_setF_zero _ _ (by decide)]
  · rw [State.outOfReach, State.pack_setPack, State.lapseLimits, State.pack_setPack]

theorem exec_packLinkLost {s : State} {i : Fin 4} (hl : s.live) (hst : s.linkState i = lkIdent ∨ s.linkState i = lkUp)
    (hfails : s.linkMode i = 1 → max 1 (s.f (R.PACK_LINK_CFG i) F.PACK_LINK_CFG_RETRY) ≤ (s.pack i).fails)
    (hlate : s.linkMode i ≠ 1 → (s.pack i).linkAt + 3 * s.pollUs i ≤ s.us) :
    exec (.packLinkLost i) s = .next (((s.outOfReach i).chargeDemand i).raise 0x40 i []).settle := by
  have hdue : (if s.linkMode i = 1 then decide (max 1 (s.f (R.PACK_LINK_CFG i) F.PACK_LINK_CFG_RETRY) ≤ (s.pack i).fails)
      else decide ((s.pack i).linkAt + 3 * s.pollUs i ≤ s.us) ||
        (s.linkState i == lkIdent && decide ((s.pack i).identAt + 2000000 ≤ s.us))) = true := by
    split
    next h => exact decide_eq_true (hfails h)
    next h => rw [decide_eq_true (hlate h), Bool.true_or]
  have hexec : exec (.packLinkLost i) s = execPackLinkLost i s := rfl
  rw [hexec, execPackLinkLost, State.act_on _ hl.1]
  dsimp only
  rw [hdue, if_pos ⟨hst, rfl⟩]
  rfl

theorem demandRegs_of_link {o : Nat} (i : Fin 4) (h : 0x4040 + 0x400 * i.val ≤ o) : o ∉ demandRegs i := by
  simp only [demandRegs, R.PACK_CHG_STATUS, R.PACK_CHG_SETPT, List.mem_cons, List.not_mem_nil, or_false]
  omega

theorem State.linkLost_leaves (s : State) (i : Fin 4) : (((s.outOfReach i).chargeDemand i).raise 0x40 i []).linkState i = lkLost ∧
    (((s.outOfReach i).chargeDemand i).raise 0x40 i []).flag (R.PACK_LINK_STATUS i) F.PACK_LINK_STATUS_T_VALID = false ∧
    ((((s.outOfReach i).chargeDemand i).raise 0x40 i []).pack i).linkI = none ∧
    faultOf 0x40 i [] ∈ (((s.outOfReach i).chargeDemand i).raise 0x40 i []).raised := by
  obtain ⟨hstate, hvalid, hi⟩ := s.outOfReach_leaves i
  have hkept := ((State.LinkKept.refl (s.outOfReach i) i (demandRegs i)).chargeDemand (List.Subset.refl _)).raise
    (id := 0x40) (inst := i) (b := [])
  have hout : R.PACK_LINK_STATUS i ∉ demandRegs i := demandRegs_of_link i (by
    simp only [R.PACK_LINK_STATUS]
    omega)
  have hf (g : Fld) := hkept.f (linkStatus_packReg i) hout g
  refine ⟨(hf _).trans hstate, ?_, ?_, List.mem_append_right _ List.mem_cons_self⟩
  · rw [State.flag, hf, ← State.flag, hvalid]
  · exact (congrArg LinkPart.linkI hkept.link).trans hi

/-! An identification (R198–R200). -/

/-- The pack that was last on the link: the last one identified, or after a reset the health record's. -/
def State.lastPack (s : State) (i : Nat) : Option Nat :=
  match (s.pack i).prevId with
  | some q => some q
  | none => (s.readHealth i).map (fun b => leAt b 0 4)

/-- The pack on the link is another one than the last. -/
def State.isAnother (s : State) (i id : Nat) : Bool :=
  match s.lastPack i with
  | some q => q != id
  | none => false

/-- The record of a pack with its identifier and its link's figures. -/
def State.withId (s : State) (i id full : Nat) (design : Option Nat) : State :=
  (s.wrN (R.PACK_ID i) id).setPack i { s.pack i with
    prevId := some id, linkFull := some full, linkDesign := design, lapsed := false, fails := 0, sagged := false,
    slowAt := none, pollAt := s.us }

/-- What an identification tells of a pack: who it is, its chemistry, and its energy. -/
def State.told (s : State) (i id chem full : Nat) (design : Option Nat) : State :=
  (((s.withId i id full design).setF (R.PACK_LINK_STATUS i) F.PACK_LINK_STATUS_STATE lkUp).setF (R.PACK_LINK_STATUS i) F.PACK_LINK_STATUS_CHEM chem).showEFull i

/-- Another pack: its sweep ends, its health is unknown, and its phase machine starts anew. -/
def State.startedAnew (s : State) (i id prev : Nat) : State :=
  ((((s.endSweep i 2 false).unknownHealth i).restartPhase i).showRefs i).raise 0x41 i (faultRec id prev)

/-- The health of a pack that is seen for the first time, from its record. -/
def State.firstSeen (s : State) (i : Nat) (rec : Option (List Byte)) : State :=
  match rec with
  | some b => s.recordHealth i b
  | none => s.unknownHealth i

/-- The phase machine and the health after an identification. -/
def State.taken (s : State) (i id chem full : Nat) (design : Option Nat) : State :=
  if s.isAnother i id then (s.told i id chem full design).startedAnew i id ((s.lastPack i).getD 0)
  else if (s.pack i).prevId.isNone then (s.told i id chem full design).firstSeen i (s.readHealth i)
  else s.told i id chem full design

theorem State.identify_eq (s : State) (i id chem full : Nat) (design : Option Nat) : s.identify i id chem full design =
    if (s.taken i id chem full design).chemClash i then
      (s.taken i id chem full design).raise 0x42 i (faultRec chem (leAt ((s.taken i id chem full design).pack i).prof 6 1))
    else s.taken i id chem full design := rfl

/-- The registers of a pack that an identification writes after it has told who the pack is. -/
def anewRegs (i : Nat) : List Nat :=
  [R.PACK_TILTH_STATUS i, R.PACK_TILTH_R25 i, R.PACK_SOH i, R.PACK_CHG_TIMER i, R.PACK_CHG_STATUS i, R.PACK_CHG_TERM i, R.PACK_CHG_SETPT i]

section
variable {s t : State} {i : Nat}

theorem State.LinkKept.endSweep {last : Nat} (h : s.LinkKept t i (anewRegs i)) : s.LinkKept (t.endSweep i last false) i (anewRegs i) := by
  have ho : R.PACK_TILTH_STATUS i ∈ anewRegs i := List.mem_cons_self
  exact h.ite ((h.setF ho).setF ho)

theorem State.LinkKept.unknownHealth (h : s.LinkKept t i (anewRegs i)) : s.LinkKept (t.unknownHealth i) i (anewRegs i) :=
  ((h.setPack (r := { t.pack i with impKnown := false }) rfl).wrN (by simp [anewRegs])).setF (by simp [anewRegs])

theorem State.LinkKept.recordHealth {b : List Byte} (h : s.LinkKept t i (anewRegs i)) : s.LinkKept (t.recordHealth i b) i (anewRegs i) :=
  ((h.setPack (r := { t.pack i with dImp := leAt b 12 2, impKnown := true }) rfl).wrN (by simp [anewRegs])).setF (by simp [anewRegs])

theorem State.LinkKept.restartPhase (h : s.LinkKept t i (anewRegs i)) : s.LinkKept (t.restartPhase i) i (anewRegs i) := by
  have ho : R.PACK_CHG_STATUS i ∈ anewRegs i := by simp [anewRegs]
  have hrest : s.LinkKept (t.unrested i) i (anewRegs i) := (h.setF ho).ite h
  have hzero := (hrest.setF (g := F.PACK_CHG_STATUS_PHASE) (v := 0) ho).setPack (r := { (t.unrested i).pack i with
    dwells := [0, 0, 0, 0, 0], runHs := 0, effHs := 0, phaseSec := 0, pauseWant := false }) rfl
  obtain ⟨blank, hblank⟩ := ((t.unrested i).setF (R.PACK_CHG_STATUS i) F.PACK_CHG_STATUS_PHASE 0).clearPhase_eq i
  rw [State.restartPhase_eq, hblank]
  refine State.LinkKept.setPack ?_ rfl
  exact ((((hzero.wrN (by simp [anewRegs])).setF ho).setF ho).setF ho).setF (by simp [anewRegs])

theorem State.LinkKept.startedAnew {id prev : Nat} (h : s.LinkKept t i (anewRegs i)) :
    s.LinkKept (t.startedAnew i id prev) i (anewRegs i) :=
  ((h.endSweep.unknownHealth.restartPhase).showRefs (by simp [demandRegs, anewRegs])).raise

theorem State.LinkKept.firstSeen {rec : Option (List Byte)} (h : s.LinkKept t i (anewRegs i)) :
    s.LinkKept (t.firstSeen i rec) i (anewRegs i) := by
  unfold State.firstSeen
  split
  · exact h.recordHealth
  · exact h.unknownHealth

end

section
variable (s : State) (i : Fin 4) (id chem full : Nat) (design : Option Nat)

theorem State.identify_kept : (s.told i id chem full design).LinkKept (s.identify i id chem full design) i (anewRegs i) := by
  have htold := State.LinkKept.refl (s.told i id chem full design) i (anewRegs i)
  have htaken : (s.told i id chem full design).LinkKept (s.taken i id chem full design) i (anewRegs i) :=
    htold.startedAnew.ite (htold.firstSeen.ite htold)
  rw [State.identify_eq]
  exact htaken.raise.ite htaken

variable {id chem} in
theorem State.told_leaves (hid : id < 2 ^ 32) (hchem : chem < 8) : (s.told i id chem full design).linkState i = lkUp ∧
    (s.told i id chem full design).rdN (R.PACK_ID i) = id ∧
    (s.told i id chem full design).f (R.PACK_LINK_STATUS i) F.PACK_LINK_STATUS_CHEM = chem ∧
    ((s.told i id chem full design).pack i).prevId = some id := by
  unfold State.told
  obtain ⟨hpack, -, hregs, -⟩ := (((s.withId i id full design).setF (R.PACK_LINK_STATUS i) F.PACK_LINK_STATUS_STATE lkUp).setF (R.PACK_LINK_STATUS i)
    F.PACK_LINK_STATUS_CHEM chem).showEFull_leaves i
  have hstatus : R.PACK_LINK_STATUS i ∉ fullRegs i := by
    simp only [fullRegs, R.PACK_LINK_STATUS, R.PACK_EFULL_LO, R.PACK_EFULL_HI, R.PACK_SOH, List.mem_cons, List.not_mem_nil, or_false]
    omega
  have hident : R.PACK_ID i ∉ fullRegs i := by
    simp only [fullRegs, R.PACK_ID, R.PACK_EFULL_LO, R.PACK_EFULL_HI, R.PACK_SOH, List.mem_cons, List.not_mem_nil, or_false]
    omega
  have hne : R.PACK_ID i ≠ R.PACK_LINK_STATUS i := by
    simp only [R.PACK_ID, R.PACK_LINK_STATUS]
    omega
  refine ⟨?_, ?_, ?_, ?_⟩
  · rw [State.linkState, hregs.f _ hstatus, State.f_setF_field _ _ (by decide) (by decide) (.inl (by decide)),
      State.f_setF_same _ _ _ _ (by decide)]
    rfl
  · rw [State.rdN, hregs _ hident, State.rd_setF_other _ _ _ hne, State.rd_setF_other _ _ _ hne, State.withId, State.setPack_rd_of, ← State.rdN,
      State.rdN_wrN_same, Nat.mod_eq_of_lt hid]
  · rw [hregs.f _ hstatus, State.f_setF_same _ _ _ _ (by decide)]
    exact Nat.mod_eq_of_lt hchem
  · rw [hpack, State.setF_pack_of, State.setF_pack_of, State.withId, State.pack_setPack]

/-- Another pack than the last one starts the phase machine anew, with fault 0x41. -/
theorem State.startedAnew_leaves (id prev : Nat) : (s.startedAnew i id prev).phaseOf i = 0 ∧
    faultOf 0x41 i (faultRec id prev) ∈ (s.startedAnew i id prev).raised := by
  refine ⟨?_, List.mem_append_right _ List.mem_cons_self⟩
  rw [State.startedAnew, State.phaseOf, State.raise_f_of, State.showRefs_chargeStatus, ← State.phaseOf, State.restartPhase_phaseOf]

theorem State.identify_of_another {q : Nat} (hq : (s.pack i).prevId = some q) (hne : q ≠ id) :
    (s.identify i id chem full design).phaseOf i = 0 ∧ faultOf 0x41 i (faultRec id q) ∈ (s.identify i id chem full design).raised := by
  have hlast : s.lastPack i = some q := by rw [State.lastPack, hq]
  have hanother : s.isAnother i id = true := by
    rw [State.isAnother, hlast]
    exact bne_iff_ne.2 hne
  have htaken : s.taken i id chem full design = (s.told i id chem full design).startedAnew i id q := by
    rw [State.taken, if_pos hanother, hlast]
    rfl
  obtain ⟨hphase, hraised⟩ := (s.told i id chem full design).startedAnew_leaves i id q
  rw [State.identify_eq, htaken]
  split
  · rw [State.phaseOf, State.raise_f_of, ← State.phaseOf, State.raise_raised]
    exact ⟨hphase, List.mem_append_left _ hraised⟩
  · exact ⟨hphase, hraised⟩

/-- What an identification leaves (R198–R200). -/
def State.Identified (s u : State) (i id chem : Nat) : Prop :=
  u.linkState i = lkUp ∧ u.rdN (R.PACK_ID i) = id ∧ u.f (R.PACK_LINK_STATUS i) F.PACK_LINK_STATUS_CHEM = chem ∧
  (u.pack i).prevId = some id ∧ ∀ q, (s.pack i).prevId = some q → q ≠ id → u.phaseOf i = 0 ∧ faultOf 0x41 i (faultRec id q) ∈ u.raised

variable {id chem} in
theorem State.identify_identified (hid : id < 2 ^ 32) (hchem : chem < 8) : s.Identified (s.identify i id chem full design) i id chem := by
  have hkept := s.identify_kept i id chem full design
  obtain ⟨hstate, hident, hc, hprev⟩ := s.told_leaves i full design hid hchem
  have hstatus : R.PACK_LINK_STATUS i ∉ anewRegs i := by
    simp only [anewRegs, R.PACK_LINK_STATUS, R.PACK_TILTH_STATUS, R.PACK_TILTH_R25, R.PACK_SOH, R.PACK_CHG_TIMER, R.PACK_CHG_STATUS,
      R.PACK_CHG_TERM, R.PACK_CHG_SETPT, List.mem_cons, List.not_mem_nil, or_false]
    omega
  have hout : R.PACK_ID i ∉ anewRegs i := by
    simp only [anewRegs, R.PACK_ID, R.PACK_TILTH_STATUS, R.PACK_TILTH_R25, R.PACK_SOH, R.PACK_CHG_TIMER, R.PACK_CHG_STATUS,
      R.PACK_CHG_TERM, R.PACK_CHG_SETPT, List.mem_cons, List.not_mem_nil, or_false]
    omega
  have hreg : PackReg (R.PACK_ID i) := by
    simp only [PackReg, R.PACK_ID]
    omega
  refine ⟨(hkept.f (linkStatus_packReg i) hstatus _).trans hstate, ?_, (hkept.f (linkStatus_packReg i) hstatus _).trans hc,
    (congrArg LinkPart.prevId hkept.link).trans hprev, fun q hq hne => s.identify_of_another i id chem full design hq hne⟩
  rw [State.rdN, hkept.rd _ hreg hout, ← State.rdN, hident]

end

theorem chemOf_lt (b : List Byte) : chemOf b < 8 := by
  unfold chemOf
  dsimp only
  split
  · decide
  split
  · decide
  split
  · decide
  split
  · decide
  · decide

end Sys2Proof.Machine
end

section
/-! The link of a pack is identified, polled and lost (R197–R207). -/

namespace Sys2Proof.Machine

/-! Identification. -/

theorem State.capMj_frame (s : State) (cm : Bool) (mv cap : Nat) : (s.capMj cm mv cap).2 = { s with free := (s.capMj cm mv cap).2.free } := by
  unfold State.capMj
  split
  · rfl
  dsimp only
  split
  · rfl
  · exact s.takeFree_frame 1

theorem exec_packIdentDone {s : State} {i : Fin 4} (o : SmbIdent) (hl : s.live) (hm : s.linkMode i = 1) (hst : s.linkState i = lkIdent) :
    ∃ (t : State) (full design : Nat), (t.pack i).prevId = (s.pack i).prevId ∧ exec (.packIdentDone i o) s =
      .next (t.identify i (crc32c (o.serial ++ o.date ++ o.maker ++ o.device ++ o.chem)) (chemOf o.chem) full (some design)).settle := by
  have hexec : exec (.packIdentDone i o) s = execPackIdentDone i o s := rfl
  rw [hexec, execPackIdentDone, State.act_on _ hl.1, if_pos ⟨hm, hst⟩]
  refine ⟨_, _, _, ?_, rfl⟩
  rw [State.pack_setPack, State.capMj_frame, State.capMj_frame]
  rfl

theorem exec_packIdentityFrame {s : State} {i : Fin 4} {n : Fin 2} {f : CanFrame} (hl : s.live) (hst : s.linkState i = lkIdent)
    (hf : s.packFrame i 1 n f = true) (hlen : f.data.length = 16) (hlast : (s.pack i).lastStatus = []) :
    exec (.packIdentityFrame i n f) s = .next ((s.setF (R.PACK_LINK_DSG i) F.PACK_LINK_DSG_CYCLES (leAt f.data 6 2)).identify i
      (leAt f.data 0 4) (leAt f.data 4 1 % 8) (leAt f.data 8 6) none).settle := by
  have hst' : (s.setF (R.PACK_LINK_DSG i) F.PACK_LINK_DSG_CYCLES (leAt f.data 6 2)).linkState i = lkIdent :=
    (State.f_setF_reg _ _ _ _ (by
      simp only [R.PACK_LINK_STATUS, R.PACK_LINK_DSG]
      omega)).trans hst
  have hnot : ¬ (lkIdent = lkUp ∧ leAt f.data 0 4 =
      (s.setF (R.PACK_LINK_DSG i) F.PACK_LINK_DSG_CYCLES (leAt f.data 6 2)).rdN (R.PACK_ID i)) := fun h => absurd h.1 (by decide)
  have hexec : exec (.packIdentityFrame i n f) s = execPackIdentityFrame i n f s := rfl
  rw [hexec, execPackIdentityFrame, State.act_on _ hl.1]
  dsimp only
  rw [if_pos ⟨hf, hlen, .inl hst⟩, hst', if_neg hnot, State.setF_pack_of, hlast]
  rfl

/-! A round of reads (R197, R201). -/

section
variable {s t : State} {i : Nat} {l : List Nat}

theorem State.LinkKept.emit {e : Emit} (h : s.LinkKept t i l) : s.LinkKept (t.emit e) i l := ⟨h.rd, h.cyc, h.link⟩

theorem State.LinkKept.bump {o k : Nat} {g : Fld} (h : s.LinkKept t i l) (ho : o ∈ l) : s.LinkKept (t.bump o g k) i l :=
  State.LinkKept.setF (t := t.noteNew o g _) ⟨h.rd, h.cyc, h.link⟩ ho

theorem State.LinkKept.smbFailed {f : SmbFail} (h : s.LinkKept t i l) (ho : R.PACK_LINK_ERR i ∈ l) : s.LinkKept (t.smbFailed i f) i l :=
  h.bump ho

theorem State.LinkKept.smbSend {reads : List (Nat × Nat × List Byte)} {again : List (Fin 10 × SmbFail)} (h : s.LinkKept t i l)
    (ho : R.PACK_LINK_ERR i ∈ l) : s.LinkKept (t.smbSend i reads again) i l := by
  unfold State.smbSend
  generalize reads.zipIdx = xs
  induction xs generalizing t with
  | nil => exact h
  | cons x xs ih =>
    refine ih ?_
    dsimp only
    split
    · exact (h.emit.smbFailed ho).emit
    · exact h.emit

end

/-- A poll's values, up to the status word. -/
def State.polled (s : State) (i : Nat) (p : SmbPoll) : State :=
  let s := s.setPack i { s.pack i with
    linkAt := s.us, linkI := limOf (p.chgCurrent % 65536) 1, linkV := limOf (p.chgVoltage % 65536) 1 }
  let s := s.setF (R.PACK_LINK_VT i) F.PACK_LINK_VT_V p.voltage
  let s := s.setLinkTemp i ((p.temperature % 65536 : Nat) - 2732)
  let s := s.wrN (R.PACK_LINK_I i) (ofSigned 32 (toSigned 16 p.current))
  let s := (s.setF (R.PACK_LINK_CHG i) F.PACK_LINK_CHG_ICHG (if p.chgCurrent % 65536 = 0xFFFF then 0xFFFF else p.chgCurrent % 65536 / 10)).setF
    (R.PACK_LINK_CHG i) F.PACK_LINK_CHG_VCHG p.chgVoltage
  s.setF (R.PACK_LINK_STATUS i) F.PACK_LINK_STATUS_PSTAT p.status

/-- The energy that a poll's reading of the remaining capacity gives. -/
def State.remainTaken (s : State) (i : Nat) (p : SmbPoll) : State :=
  let r := s.pack i
  let e := s.capMj r.capMode r.designMv (p.remaining % 65536)
  (e.2.setERem i e.1).setPack i { r with eFrac := 0 }

/-- The two values of the 10 s poll, by the units that the pack's record names. -/
def State.slowTaken (s : State) (i : Nat) (r : PackRt) (p : SmbPoll) : State :=
  let e := s.capMj r.capMode r.designMv p.slow.1
  let s := e.2.setPack i { e.2.pack i with linkFull := some e.1, slowAt := some s.us }
  (s.setF (R.PACK_LINK_DSG i) F.PACK_LINK_DSG_CYCLES p.slow.2).showEFull i

/-- The energy figures of a poll. -/
def State.energyPolled (s : State) (i : Nat) (p : SmbPoll) (slow : Bool) : State :=
  if slow then (s.remainTaken i p).slowTaken i (s.pack i) p else s.remainTaken i p

theorem State.applyPoll_eq (s : State) (i : Nat) (p : SmbPoll) (slow : Bool) : s.applyPoll i p slow =
    (((s.polled i p).energyPolled i p slow).risingAlarms i (s.f (R.PACK_LINK_STATUS i) F.PACK_LINK_STATUS_PSTAT) p.status
      [11, 12, 14, 15]).setAlarms i (bitsOf p.status 15 1 == 1 || bitsOf p.status 14 1 == 1) (bitsOf p.status 12 1 == 1)
      (bitsOf p.status 11 1 == 1) := rfl

/-- The registers of a poll's energy figures and alarms. -/
def pollRegs (i : Nat) : List Nat :=
  [R.PACK_EREM_LO i, R.PACK_EREM_HI i, R.PACK_LINK_DSG i, R.PACK_EFULL_LO i, R.PACK_EFULL_HI i, R.PACK_SOH i,
    R.PACK_CHG_STATUS i, R.PACK_CHG_SETPT i]

section
variable {s t : State} {i : Nat}

theorem State.LinkKept.remainTaken {p : SmbPoll} (h : s.LinkKept t i (pollRegs i)) : s.LinkKept (t.remainTaken i p) i (pollRegs i) := by
  have hcap := h.capMj (cm := (t.pack i).capMode) (mv := (t.pack i).designMv) (cap := p.remaining % 65536)
  have hset := hcap.wr64 (lo := R.PACK_EREM_LO i) (hi := R.PACK_EREM_HI i)
    (v := sat 48 (t.capMj (t.pack i).capMode (t.pack i).designMv (p.remaining % 65536)).1) (by simp [pollRegs]) (by simp [pollRegs])
  refine hset.setPack ?_
  rw [State.wr64, State.wrN_pack_of, State.wrN_pack_of, State.capMj_frame]
  rfl

theorem State.LinkKept.slowTaken {r : PackRt} {p : SmbPoll} (h : s.LinkKept t i (pollRegs i)) :
    s.LinkKept (t.slowTaken i r p) i (pollRegs i) := by
  have hcap := h.capMj (cm := r.capMode) (mv := r.designMv) (cap := p.slow.1)
  have hset := hcap.setPack (r := { (t.capMj r.capMode r.designMv p.slow.1).2.pack i with
    linkFull := some (t.capMj r.capMode r.designMv p.slow.1).1, slowAt := some t.us }) rfl
  exact (hset.setF (by simp [pollRegs])).showEFull (by simp [fullRegs, pollRegs])

theorem State.LinkKept.energyPolled {p : SmbPoll} {slow : Bool} (h : s.LinkKept t i (pollRegs i)) :
    s.LinkKept (t.energyPolled i p slow) i (pollRegs i) := h.remainTaken.slowTaken.ite h.remainTaken

end

section
variable (s : State) (i : Fin 4) (p : SmbPoll) (slow : Bool)

theorem State.applyPoll_kept : (s.polled i p).LinkKept (s.applyPoll i p slow) i (pollRegs i) := by
  rw [State.applyPoll_eq]
  exact ((State.LinkKept.refl _ _ _).energyPolled.risingAlarms).setAlarms (by simp [demandRegs, pollRegs])

theorem linkValue_ne : R.PACK_LINK_VT i ≠ R.PACK_LINK_STATUS i ∧ R.PACK_LINK_VT i ≠ R.PACK_LINK_CHG i ∧ R.PACK_LINK_VT i ≠ R.PACK_LINK_I i := by
  simp only [R.PACK_LINK_VT, R.PACK_LINK_STATUS, R.PACK_LINK_CHG, R.PACK_LINK_I]
  omega

theorem State.setLinkTemp_volts (t : Int) :
    (s.setLinkTemp i t).f (R.PACK_LINK_VT i) F.PACK_LINK_VT_V = s.f (R.PACK_LINK_VT i) F.PACK_LINK_VT_V := by
  rw [State.setLinkTemp, State.f_setF_reg _ _ _ _ (linkValue_ne i).1, State.f_setF_field _ _ (by decide) (by decide) (.inl (by decide))]

theorem State.polled_leaves : (s.polled i p).f (R.PACK_LINK_VT i) F.PACK_LINK_VT_V = p.voltage % 65536 ∧
    ((s.polled i p).pack i).linkAt = s.us ∧ ((s.polled i p).pack i).fails = (s.pack i).fails ∧
    (s.polled i p).f (R.PACK_LINK_STATUS i) F.PACK_LINK_STATUS_PSTAT = p.status % 65536 := by
  obtain ⟨hst, hchg, hi⟩ := linkValue_ne i
  have hpack : ((s.polled i p).pack i).linkAt = s.us ∧ ((s.polled i p).pack i).fails = (s.pack i).fails := by
    unfold State.polled
    dsimp only
    rw [State.setF_pack_of, State.setF_pack_of, State.setF_pack_of, State.wrN_pack_of, State.setLinkTemp, State.setF_pack_of,
      State.setF_pack_of, State.setF_pack_of, State.pack_setPack]
    exact ⟨rfl, rfl⟩
  refine ⟨?_, hpack.1, hpack.2, ?_⟩
  · unfold State.polled
    dsimp only
    rw [State.f_setF_reg _ _ _ _ hst, State.f_setF_reg _ _ _ _ hchg, State.f_setF_reg _ _ _ _ hchg, State.f, State.rd_wrN_other _ _ hi,
      ← State.f, State.setLinkTemp_volts, State.f_setF_same _ _ _ _ (by decide)]
    rfl
  · unfold State.polled
    dsimp only
    rw [State.f_setF_same _ _ _ _ (by decide)]
    rfl

theorem pollRegs_not (o : Nat) (h : o = R.PACK_LINK_VT i ∨ o = R.PACK_LINK_STATUS i) : PackReg o ∧ o ∉ pollRegs i := by
  simp only [PackReg, pollRegs, R.PACK_LINK_VT, R.PACK_LINK_STATUS, R.PACK_EREM_LO, R.PACK_EREM_HI, R.PACK_LINK_DSG, R.PACK_EFULL_LO,
    R.PACK_EFULL_HI, R.PACK_SOH, R.PACK_CHG_STATUS, R.PACK_CHG_SETPT, List.mem_cons, List.not_mem_nil, or_false] at *
  omega

theorem State.applyPoll_leaves : (s.applyPoll i p slow).f (R.PACK_LINK_VT i) F.PACK_LINK_VT_V = p.voltage % 65536 ∧
    ((s.applyPoll i p slow).pack i).linkAt = s.us ∧ ((s.applyPoll i p slow).pack i).fails = (s.pack i).fails ∧
    (s.applyPoll i p slow).f (R.PACK_LINK_STATUS i) F.PACK_LINK_STATUS_PSTAT = p.status % 65536 := by
  have hkept := s.applyPoll_kept i p slow
  obtain ⟨hv, hat, hfails, hstat⟩ := s.polled_leaves i p
  obtain ⟨hvt, hvt'⟩ := pollRegs_not i _ (.inl rfl)
  obtain ⟨hst, hst'⟩ := pollRegs_not i _ (.inr rfl)
  exact ⟨(hkept.f hvt hvt' _).trans hv, (congrArg LinkPart.linkAt hkept.link).trans hat,
    (congrArg LinkPart.fails hkept.link).trans hfails, (hkept.f hst hst' _).trans hstat⟩

end

theorem State.smbSend_raised (s : State) (i : Nat) (reads : List (Nat × Nat × List Byte)) (again : List (Fin 10 × SmbFail)) :
    (s.smbSend i reads again).raised = s.raised := by
  refine foldl_keeps (f := State.raised) (fun t x => ?_) reads.zipIdx s
  split
  · rfl
  · rfl

section
variable {s : State} {i : Fin 4} (hl : s.live) (hm : s.linkMode i = 1)
include hl hm

theorem exec_packPoll_up (o : SmbPoll) (again : List (Fin 10 × SmbFail)) (hst : s.linkState i = lkUp)
    (hat : (s.pack i).pollAt + s.pollUs i ≤ s.us) : ∃ u : State, exec (.packPoll i (.ok o again)) s = .next u.settle ∧
      u.f (R.PACK_LINK_VT i) F.PACK_LINK_VT_V = o.voltage % 65536 ∧ (u.pack i).linkAt = s.us ∧ (u.pack i).fails = 0 ∧
      u.f (R.PACK_LINK_STATUS i) F.PACK_LINK_STATUS_PSTAT = o.status % 65536 := by
  have hdue : ¬ (s.linkMode i ≠ 1 ∨ lkUp = lkOff ∨ (lkUp = lkUp ∧ s.us < (s.pack i).pollAt + s.pollUs i)) := by
    rintro (h | h | ⟨-, h⟩)
    · exact h hm
    · exact absurd h (by decide)
    · omega
  have hident : ¬ lkUp = lkIdent := by decide
  have hexec : exec (.packPoll i (.ok o again)) s = execPackPoll i (.ok o again) s := rfl
  rw [execPackPoll, State.act_on _ hl.1] at hexec
  dsimp only at hexec
  rw [hst, if_neg hdue, if_neg hident, if_neg hident, if_pos rfl] at hexec
  generalize hsent : s.smbSend i _ again = t at hexec
  have hkept : s.LinkKept t i [R.PACK_LINK_ERR i] := hsent ▸ (State.LinkKept.refl _ _ _).smbSend List.mem_cons_self
  refine ⟨_, hexec, ?_⟩
  obtain ⟨hv, hlink, hfails, hstat⟩ := (t.setPack i { s.pack i with fails := 0, pollAt := s.us }).applyPoll_leaves i o
    (lkUp == lkUp && s.slowDue i)
  refine ⟨hv, hlink.trans hkept.us, hfails.trans ?_, hstat⟩
  rw [State.pack_setPack]

theorem exec_packPoll_lost (o : SmbPoll) (again : List (Fin 10 × SmbFail)) (hst : s.linkState i = lkLost) :
    ∃ t, exec (.packPoll i (.ok o again)) s = .next t ∧ t.linkState i = lkIdent := by
  have hdue : ¬ (s.linkMode i ≠ 1 ∨ lkLost = lkOff ∨ (lkLost = lkUp ∧ s.us < (s.pack i).pollAt + s.pollUs i)) := by
    rintro (h | h | ⟨h, -⟩)
    · exact h hm
    · exact absurd h (by decide)
    · exact absurd h (by decide)
  have hident : ¬ lkLost = lkIdent := by decide
  have hup : ¬ lkLost = lkUp := by decide
  have hexec : exec (.packPoll i (.ok o again)) s = execPackPoll i (.ok o again) s := rfl
  rw [execPackPoll, State.act_on _ hl.1] at hexec
  dsimp only at hexec
  rw [hst, if_neg hdue, if_neg hident, if_neg hident, if_neg hup] at hexec
  obtain ⟨hstate, -, -, -, -, hraised⟩ := State.enterIdent_leaves ((s.smbSend i (pollReads (lkLost == lkUp && s.slowDue i)) again).setPack i
    { s.pack i with fails := 0, pollAt := s.us }) i
  have hquiet := (hraised.trans (s.smbSend_raised i _ again)).trans hl.2
  rw [State.settle_quiet hquiet] at hexec
  exact ⟨_, hexec, hstate⟩

/-- A read that fails once, and is sent again. -/
def State.sentTwice (s : State) (i : Nat) : State :=
  ((s.emit (s.smbTx i (1, 0x09, []))).smbFailed i .nack).emit (s.smbTx i (1, 0x09, []))

/-- A read whose two tries fail: both are counted, and the read as one failure. -/
def State.nackTwice (s : State) (i : Nat) : State :=
  ((s.sentTwice i).smbFailed i .nack).setPack i { (s.sentTwice i).pack i with
    fails := ((s.sentTwice i).pack i).fails + 1, pollAt := (s.sentTwice i).us }

omit hl hm in
theorem State.smbFailed_nack (t : State) : (t.smbFailed i .nack).f (R.PACK_LINK_ERR i) F.PACK_LINK_ERR_NACK =
    min (t.f (R.PACK_LINK_ERR i) F.PACK_LINK_ERR_NACK + 1) 255 ∧ t.sameRegs (t.smbFailed i .nack) [R.PACK_LINK_ERR i] ∧
    (t.smbFailed i .nack).packs = t.packs ∧ (t.smbFailed i .nack).raised = t.raised :=
  ⟨t.f_bump_same _ _ 1 (by decide), (t.sameRegs_refl _).bump List.mem_cons_self _ _, rfl, rfl⟩

omit hl hm in
theorem State.nackTwice_leaves : ((s.nackTwice i).pack i).fails = (s.pack i).fails + 1 ∧
    (s.nackTwice i).f (R.PACK_LINK_ERR i) F.PACK_LINK_ERR_NACK = min (s.f (R.PACK_LINK_ERR i) F.PACK_LINK_ERR_NACK + 2) 255 ∧
    s.sameRegs (s.nackTwice i) [R.PACK_LINK_ERR i] ∧ (s.nackTwice i).raised = s.raised := by
  obtain ⟨hone, hregs, hpacks, hraised⟩ := State.smbFailed_nack (i := i) (s.emit (s.smbTx i (1, 0x09, [])))
  obtain ⟨htwo, hregs', -, hraised'⟩ := State.smbFailed_nack (i := i) (s.sentTwice i)
  have hsent : (s.sentTwice i).f (R.PACK_LINK_ERR i) F.PACK_LINK_ERR_NACK = min (s.f (R.PACK_LINK_ERR i) F.PACK_LINK_ERR_NACK + 1) 255 := hone
  refine ⟨?_, ?_, ?_, ?_⟩
  · have hfails : ((s.sentTwice i).pack i).fails = (s.pack i).fails := by
      rw [State.sentTwice, State.pack, State.emit_packs, hpacks, State.emit_packs, State.pack]
    rw [State.nackTwice, State.pack_setPack, hfails]
  · rw [State.nackTwice, State.setPack_f_of, htwo, hsent]
    omega
  · intro o ho
    rw [State.nackTwice, State.setPack_rd_of, hregs' o ho]
    exact hregs o ho
  · rw [State.nackTwice, State.setPack_raised, hraised']
    exact hraised

theorem exec_packPoll_failed (hst : s.linkState i = lkUp) (hat : (s.pack i).pollAt + s.pollUs i ≤ s.us) :
    exec (.packPoll i (.failed [] 0 .nack .nack)) s = .next (s.nackTwice i) := by
  have hdue : ¬ (s.linkMode i ≠ 1 ∨ lkUp = lkOff ∨ (lkUp = lkUp ∧ s.us < (s.pack i).pollAt + s.pollUs i)) := by
    rintro (h | h | ⟨-, h⟩)
    · exact h hm
    · exact absurd h (by decide)
    · omega
  have hident : ¬ lkUp = lkIdent := by decide
  have hlost : ¬ (lkUp = lkLost ∧ (0 : Fin 10).val ≠ 0) := fun h => absurd h.1 (by decide)
  have hcan : s.smbCan i .nack = true := rfl
  have hreads : ¬ ((pollReads (lkUp == lkUp && s.slowDue i)).length ≤ (0 : Fin 10).val ∨ (!s.smbCan i .nack) = true ∨
      (!s.smbCan i .nack) = true) := by
    rintro (h | h | h)
    · exact absurd (Nat.le_zero.1 h) (by
        unfold pollReads
        simp)
    · rw [hcan] at h
      exact absurd h (by decide)
    · rw [hcan] at h
      exact absurd h (by decide)
  have hsend : s.smbSend i ((pollReads (lkUp == lkUp && s.slowDue i)).take 1) [(0, .nack)] = s.sentTwice i := rfl
  have hexec : exec (.packPoll i (.failed [] 0 .nack .nack)) s = execPackPoll i (.failed [] 0 .nack .nack) s := rfl
  have hquiet : (s.nackTwice i).raised = [] := State.nackTwice_leaves.2.2.2.trans hl.2
  rw [hexec, execPackPoll, State.act_on _ hl.1]
  dsimp only
  rw [hst, if_neg hdue, if_neg hident, if_neg hreads, if_neg hlost, ← State.settle_quiet hquiet]
  rfl

end

/-! Frames of a CAN pack (R203). -/

/-- A status frame's values. -/
def State.statusTaken (s : State) (i : Nat) (d : List Byte) : State :=
  let s := s.setPack i { s.pack i with
    linkI := limOf (leAt d 8 2) 10, linkV := limOf (leAt d 10 2) 1, linkD := limOf (leAt d 12 2) 10, eFrac := 0 }
  let s := (s.setF (R.PACK_LINK_VT i) F.PACK_LINK_VT_V (leAt d 0 2)).setLinkTemp i (toSigned 16 (leAt d 6 2))
  let s := s.wrN (R.PACK_LINK_I i) (leAt d 2 4)
  let s := s.wrN (R.PACK_LINK_CHG i) (leAt d 8 4)
  let s := s.setF (R.PACK_LINK_DSG i) F.PACK_LINK_DSG_IDSG (leAt d 12 2)
  (s.setERem i (leAt d 14 6)).setF (R.PACK_LINK_STATUS i) F.PACK_LINK_STATUS_PSTAT (leAt d 22 1)

theorem State.applyStatus_eq (s : State) (i : Nat) (d : List Byte) : s.applyStatus i d =
    ((s.statusTaken i d).risingAlarms i (s.f (R.PACK_LINK_STATUS i) F.PACK_LINK_STATUS_PSTAT) (leAt d 22 1) [0, 1, 2]).setAlarms i
      (bitsOf (leAt d 22 1) 0 1 == 1) (bitsOf (leAt d 22 1) 2 1 == 1) (bitsOf (leAt d 22 1) 1 1 == 1) := rfl

section
variable (s : State) (i : Fin 4) (d : List Byte)

theorem State.statusTaken_pack : ((s.statusTaken i d).pack i).linkAt = (s.pack i).linkAt ∧
    ((s.statusTaken i d).pack i).cnt = (s.pack i).cnt := by
  unfold State.statusTaken
  dsimp only
  rw [State.setF_pack_of, State.setERem, State.wr64, State.wrN_pack_of, State.wrN_pack_of, State.setF_pack_of, State.wrN_pack_of,
    State.wrN_pack_of, State.setLinkTemp, State.setF_pack_of, State.setF_pack_of, State.setF_pack_of, State.pack_setPack]
  exact ⟨rfl, rfl⟩

/-- The current, the charge limits and the remaining energy, each in its register. -/
theorem State.statusTaken_values : (s.statusTaken i d).rdN (R.PACK_LINK_I i) = leAt d 2 4 ∧
    (s.statusTaken i d).rdN (R.PACK_LINK_CHG i) = leAt d 8 4 ∧
    (s.statusTaken i d).rd64 (R.PACK_EREM_LO i) (R.PACK_EREM_HI i) = leAt d 14 6 := by
  have hne : R.PACK_LINK_I i ≠ R.PACK_LINK_STATUS i ∧ R.PACK_LINK_I i ≠ R.PACK_EREM_LO i ∧ R.PACK_LINK_I i ≠ R.PACK_EREM_HI i ∧
      R.PACK_LINK_I i ≠ R.PACK_LINK_DSG i ∧ R.PACK_LINK_I i ≠ R.PACK_LINK_CHG i := by
    simp only [R.PACK_LINK_I, R.PACK_LINK_STATUS, R.PACK_EREM_LO, R.PACK_EREM_HI, R.PACK_LINK_DSG, R.PACK_LINK_CHG]
    omega
  have hne' : R.PACK_LINK_CHG i ≠ R.PACK_LINK_STATUS i ∧ R.PACK_LINK_CHG i ≠ R.PACK_EREM_LO i ∧ R.PACK_LINK_CHG i ≠ R.PACK_EREM_HI i ∧
      R.PACK_LINK_CHG i ≠ R.PACK_LINK_DSG i := by
    simp only [R.PACK_LINK_CHG, R.PACK_LINK_STATUS, R.PACK_EREM_LO, R.PACK_EREM_HI, R.PACK_LINK_DSG]
    omega
  have hne'' : R.PACK_EREM_LO i ≠ R.PACK_LINK_STATUS i ∧ R.PACK_EREM_HI i ≠ R.PACK_LINK_STATUS i ∧ R.PACK_EREM_LO i ≠ R.PACK_EREM_HI i := by
    simp only [R.PACK_LINK_STATUS, R.PACK_EREM_LO, R.PACK_EREM_HI]
    omega
  obtain ⟨hst, hlo, hhi, hdsg, hchg⟩ := hne
  obtain ⟨hst', hlo', hhi', hdsg'⟩ := hne'
  obtain ⟨hlos, hhis, hlh⟩ := hne''
  have hcur : leAt d 2 4 < 2 ^ 32 := leAt_lt d 2 4
  have hlim : leAt d 8 4 < 2 ^ 32 := leAt_lt d 8 4
  have hrem : leAt d 14 6 < 2 ^ 48 := leAt_lt d 14 6
  unfold State.statusTaken
  dsimp only
  refine ⟨?_, ?_, ?_⟩
  · rw [State.rdN, State.rd_setF_other _ _ _ hst, State.setERem, State.wr64, State.rd_wrN_other _ _ hhi, State.rd_wrN_other _ _ hlo,
      State.rd_setF_other _ _ _ hdsg, State.rd_wrN_other _ _ hchg, ← State.rdN, State.rdN_wrN_same, Nat.mod_eq_of_lt hcur]
  · rw [State.rdN, State.rd_setF_other _ _ _ hst', State.setERem, State.wr64, State.rd_wrN_other _ _ hhi', State.rd_wrN_other _ _ hlo',
      State.rd_setF_other _ _ _ hdsg', ← State.rdN, State.rdN_wrN_same, Nat.mod_eq_of_lt hlim]
  · rw [State.rd64, State.rdN, State.rd_setF_other _ _ _ hlos, State.rdN, State.rd_setF_other _ _ _ hhis, ← State.rdN, ← State.rdN,
      ← State.rd64, State.setERem, State.rd64_wr64 _ hlh]
    unfold sat
    omega

theorem demandRegs_not (o : Nat) (h : o = R.PACK_LINK_I i ∨ o = R.PACK_LINK_CHG i ∨ o = R.PACK_EREM_LO i ∨ o = R.PACK_EREM_HI i) :
    PackReg o ∧ o ∉ demandRegs i := by
  simp only [PackReg, demandRegs, R.PACK_LINK_I, R.PACK_LINK_CHG, R.PACK_EREM_LO, R.PACK_EREM_HI, R.PACK_CHG_STATUS, R.PACK_CHG_SETPT,
    List.mem_cons, List.not_mem_nil, or_false] at *
  omega

theorem State.applyStatus_leaves : (s.applyStatus i d).rdN (R.PACK_LINK_I i) = leAt d 2 4 ∧
    (s.applyStatus i d).rdN (R.PACK_LINK_CHG i) = leAt d 8 4 ∧
    (s.applyStatus i d).rd64 (R.PACK_EREM_LO i) (R.PACK_EREM_HI i) = leAt d 14 6 ∧
    ((s.applyStatus i d).pack i).linkAt = (s.pack i).linkAt ∧ ((s.applyStatus i d).pack i).cnt = (s.pack i).cnt := by
  have hkept : (s.statusTaken i d).LinkKept (s.applyStatus i d) i (demandRegs i) := by
    rw [State.applyStatus_eq]
    exact (State.LinkKept.refl _ _ _).risingAlarms.setAlarms (List.Subset.refl _)
  obtain ⟨hcur, hlim, hrem⟩ := s.statusTaken_values i d
  obtain ⟨hat, hcnt⟩ := s.statusTaken_pack i d
  have hrd (o : Nat) (h : o = R.PACK_LINK_I i ∨ o = R.PACK_LINK_CHG i ∨ o = R.PACK_EREM_LO i ∨ o = R.PACK_EREM_HI i) : (s.applyStatus i d).rdN o = (s.statusTaken i d).rdN o := by
    obtain ⟨hreg, hout⟩ := demandRegs_not i o h
    rw [State.rdN, hkept.rd o hreg hout, State.rdN]
  refine ⟨?_, ?_, ?_, (congrArg LinkPart.linkAt hkept.link).trans hat, (congrArg LinkPart.cnt hkept.link).trans hcnt⟩
  · rw [hrd _ (.inl rfl), hcur]
  · rw [hrd _ (.inr (.inl rfl)), hlim]
  · rw [State.rd64, hrd _ (.inr (.inr (.inl rfl))), hrd _ (.inr (.inr (.inr rfl))), ← State.rd64, hrem]

end

/-- A status frame's counter follows the last one. -/
def State.cntFollows (s : State) (i : Nat) (c : Nat) : Bool :=
  match (s.pack i).cnt with
  | some q => c == (q + 1) % 16
  | none => true

section
variable {s : State} {i : Fin 4} {n : Fin 2} {f : CanFrame} (hl : s.live) (hf : s.packFrame i 0 n f = true) (hlen : f.data.length = 24)
include hl hf hlen

theorem exec_packStatusFrame (hoff : s.linkState i ≠ lkOff) (hok : s.cntFollows i (leAt f.data 23 1 % 16) = true) :
    let t := s.setPack i { s.pack i with cnt := some (leAt f.data 23 1 % 16), linkAt := s.us }
    exec (.packStatusFrame i n f) s = .next (if s.linkState i = lkUp then t.applyStatus i f.data
      else
        let t := if s.linkState i = lkLost then t.enterIdent i else t
        t.setPack i { t.pack i with lastStatus := f.data }).settle := by
  have hexec : exec (.packStatusFrame i n f) s = execPackStatusFrame i n f s := rfl
  dsimp only
  rw [hexec, execPackStatusFrame, State.act_on _ hl.1]
  dsimp only
  rw [if_pos ⟨hf, hlen, hoff⟩]
  cases hcnt : (s.pack i).cnt with
  | none => rfl
  | some q =>
    rw [State.cntFollows, hcnt] at hok
    have hsame : (leAt f.data 23 1 % 16 == (q + 1) % 16) = true := hok
    have hnot : ¬ (!(leAt f.data 23 1 % 16 == (q + 1) % 16)) = true := by
      rw [hsame]
      decide
    dsimp only
    rw [if_neg hnot]
    rfl

theorem exec_packStatusFrame_wrong (hoff : s.linkState i ≠ lkOff) (hok : s.cntFollows i (leAt f.data 23 1 % 16) = false) :
    exec (.packStatusFrame i n f) s = .next ((s.bump (R.PACK_LINK_ERR i) F.PACK_LINK_ERR_SEQ_ERR 1).setPack i { s.pack i with cnt := none }) := by
  have hexec : exec (.packStatusFrame i n f) s = execPackStatusFrame i n f s := rfl
  rw [hexec, execPackStatusFrame, State.act_on _ hl.1]
  dsimp only
  rw [if_pos ⟨hf, hlen, hoff⟩]
  cases hcnt : (s.pack i).cnt with
  | none =>
    rw [State.cntFollows, hcnt] at hok
    have hfalse : true = false := hok
    cases hfalse
  | some q =>
    rw [State.cntFollows, hcnt] at hok
    have hother : (leAt f.data 23 1 % 16 == (q + 1) % 16) = false := hok
    have hwrong : (!(leAt f.data 23 1 % 16 == (q + 1) % 16)) = true := by
      rw [hother]
      rfl
    dsimp only
    rw [if_pos hwrong]
    exact congrArg _ (State.settle_quiet hl.2)

end

theorem State.cntFollows_of {s : State} {i c : Nat} (h : ∀ q, (s.pack i).cnt = some q → (q + 1) % 16 = c) : s.cntFollows i c = true := by
  unfold State.cntFollows
  split
  next q hq => rw [h q hq, beq_self_eq_true]
  · rfl

theorem State.cntFollows_of_not {s : State} {i c q : Nat} (hq : (s.pack i).cnt = some q) (h : (q + 1) % 16 ≠ c) : s.cntFollows i c = false := by
  rw [State.cntFollows, hq]
  exact beq_eq_false_iff_ne.2 h.symm

/-- An identity frame of the pack that is on the link. -/
def State.sameIdentity (s : State) (i : Nat) (d : List Byte) : State :=
  let s := s.setF (R.PACK_LINK_DSG i) F.PACK_LINK_DSG_CYCLES (leAt d 6 2)
  (s.setPack i { s.pack i with linkFull := some (leAt d 8 6) }).showEFull i

section
variable {s : State} {i : Fin 4} {n : Fin 2} {f : CanFrame}

theorem exec_packIdentityFrame_same (hl : s.live) (hf : s.packFrame i 1 n f = true) (hlen : f.data.length = 16) (hst : s.linkState i = lkUp)
    (hid : leAt f.data 0 4 = s.rdN (R.PACK_ID i)) : exec (.packIdentityFrame i n f) s = .next (s.sameIdentity i f.data) := by
  have hne : R.PACK_LINK_STATUS i ≠ R.PACK_LINK_DSG i ∧ R.PACK_ID i ≠ R.PACK_LINK_DSG i := by
    simp only [R.PACK_LINK_STATUS, R.PACK_ID, R.PACK_LINK_DSG]
    omega
  have hst' : (s.setF (R.PACK_LINK_DSG i) F.PACK_LINK_DSG_CYCLES (leAt f.data 6 2)).linkState i = lkUp :=
    (State.f_setF_reg _ _ _ _ hne.1).trans hst
  have hid' : leAt f.data 0 4 = (s.setF (R.PACK_LINK_DSG i) F.PACK_LINK_DSG_CYCLES (leAt f.data 6 2)).rdN (R.PACK_ID i) := by
    rw [State.rdN, State.rd_setF_other _ _ _ hne.2, ← State.rdN, hid]
  have hquiet : (s.sameIdentity i f.data).raised = [] := (State.showEFull_leaves _ i).2.1.trans hl.2
  have hexec : exec (.packIdentityFrame i n f) s = execPackIdentityFrame i n f s := rfl
  rw [hexec, execPackIdentityFrame, State.act_on _ hl.1]
  dsimp only
  rw [if_pos ⟨hf, hlen, .inr hst⟩, hst', if_pos ⟨rfl, hid'⟩, ← State.settle_quiet hquiet]
  rfl

theorem State.sameIdentity_leaves (hf : s.packFrame i 1 n f = true) : (s.sameIdentity i f.data).eFull i = leAt f.data 8 6 ∧
    (s.sameIdentity i f.data).linkState i = s.linkState i ∧
    (s.sameIdentity i f.data).f (R.PACK_LINK_DSG i) F.PACK_LINK_DSG_CYCLES = leAt f.data 6 2 := by
  have hfull := leAt_lt f.data 8 6
  have hcyc := leAt_lt f.data 6 2
  have hne : R.PACK_LINK_STATUS i ≠ R.PACK_LINK_DSG i ∧ R.PACK_LINK_CFG i ≠ R.PACK_LINK_DSG i := by
    simp only [R.PACK_LINK_STATUS, R.PACK_LINK_CFG, R.PACK_LINK_DSG]
    omega
  have hout : R.PACK_LINK_STATUS i ∉ fullRegs i ∧ R.PACK_LINK_DSG i ∉ fullRegs i := by
    simp only [fullRegs, R.PACK_LINK_STATUS, R.PACK_LINK_DSG, R.PACK_EFULL_LO, R.PACK_EFULL_HI, R.PACK_SOH, List.mem_cons,
      List.not_mem_nil, or_false]
    omega
  have hmode : s.f (R.PACK_LINK_CFG i) F.PACK_LINK_CFG_LINK_MODE = 2 := by
    simp only [State.packFrame, Bool.and_eq_true, beq_iff_eq] at hf
    obtain ⟨⟨⟨⟨⟨hm, -⟩, -⟩, -⟩, -⟩, -⟩ := hf
    unfold State.linkMode at hm
    dsimp only at hm
    split at hm
    · exact absurd hm (by decide)
    · exact hm
  unfold State.sameIdentity
  dsimp only
  generalize ht : (s.setF (R.PACK_LINK_DSG i) F.PACK_LINK_DSG_CYCLES (leAt f.data 6 2)).setPack i _ = t
  obtain ⟨-, -, hregs, heq⟩ := t.showEFull_leaves i
  have hval : t.fullOf i = leAt f.data 8 6 := by
    have hcfg : t.f (R.PACK_LINK_CFG i) F.PACK_LINK_CFG_LINK_MODE = 2 := by
      rw [← ht, State.setPack_f_of, State.f_setF_reg _ _ _ _ hne.2, hmode]
    have hlink : (t.pack i).linkFull = some (leAt f.data 8 6) := by rw [← ht, State.pack_setPack]
    rw [State.fullOf, if_pos (.inr hcfg), hlink]
    rfl
  refine ⟨?_, ?_, ?_⟩
  · rw [heq, hval]
    unfold sat
    omega
  · rw [State.linkState, hregs.f _ hout.1, ← ht, State.setPack_f_of, State.f_setF_reg _ _ _ _ hne.1, ← State.linkState]
  · rw [hregs.f _ hout.2, ← ht, State.setPack_f_of, State.f_setF_same _ _ _ _ (by decide)]
    exact Nat.mod_eq_of_lt hcyc

end

theorem exec_linkCfgWrite {s : State} {i : Fin 4} {p : Path} (v : Word) (hl : s.live) (h : s.laterWrote p (R.PACK_LINK_CFG i) = false) :
    ∃ t : State, (∃ r : List Raised, t = { s.noteEvent (20 + pathRank p) (R.PACK_LINK_CFG i) with raised := r }) ∧
      exec (.linkCfgWrite p i v) s = .next (t.writeLinkCfg i v (p == .headland)).settle := by
  have hexec := exec_powered (c := .linkCfgWrite p i v) (g := fun s => s.inOrder p (R.PACK_LINK_CFG i) (s.rd (R.PACK_LINK_CFG i)) v
    fun v s => (s.hwDenied p (R.PACK_LINK_CFG i) v).writeLinkCfg i v (p == .headland)) hl rfl
  rw [State.inOrder_of_last h] at hexec
  exact ⟨_, ⟨_, State.hwDenied_frame _ _ _ _⟩, hexec⟩

/-- Settles O35: the link's configuration, its loss and its return; identification; polls and frames. -/
theorem linkIsIdentifiedAndRead : Obligations.LinkIsIdentifiedAndRead := by
  refine ⟨fun s i p v hl => ⟨fun hlater => ?_, fun hst hfails hlate => ⟨_, exec_packLinkLost hl hst hfails hlate, s.linkLost_leaves i⟩,
    fun hst hsag hv => ?_, fun hst => ?_⟩, fun s i hl hst => ⟨fun o hm => ?_, fun n f hf hlen hlast => ?_⟩, fun s i hl =>
      ⟨fun hm hst hat => ⟨fun o again => exec_packPoll_up hl hm o again hst hat, ?_⟩, fun o again hm hst => exec_packPoll_lost hl hm o again hst,
        fun n f hf hlen => ⟨fun hcnt => ⟨fun hst => ?_, fun hst => ?_⟩, fun q hoff hq hne => ?_⟩, fun n f hf hlen hst hid => ?_⟩⟩
  · obtain ⟨t, ⟨r, ht⟩, hexec⟩ := exec_linkCfgWrite v hl hlater
    have hmode : t.linkMode i = s.linkMode i := by
      rw [ht]
      rfl
    refine ⟨fun hnew => ⟨_, hexec, t.writeLinkCfg_linkMode i v _, t.writeLinkCfg_of_changed i v _ (by rw [hmode]; exact hnew)⟩,
      fun hnew => ⟨_, hexec, t.writeLinkCfg_linkMode i v _, ?_⟩, fun hp => ⟨_, hexec, ?_⟩⟩
    · have hne : R.PACK_LINK_STATUS i ≠ R.PACK_LINK_CFG i := by
        simp only [R.PACK_LINK_STATUS, R.PACK_LINK_CFG]
        omega
      rw [t.writeLinkCfg_of_same i v _ (hmode ▸ hnew), State.linkCfgTaken, ht]
      exact ⟨State.f_wr_reg _ _ _ hne, rfl, (s.sameRegs_refl _).wr (t := { s.noteEvent _ _ with raised := r }) List.mem_cons_self _⟩
    · have hpath : (p == .headland) = false := beq_eq_false_iff_ne.2 hp
      rw [hpath, State.f, t.writeLinkCfg_rd, ← State.f, t.linkCfgTaken_required, ht]
      rfl
  · obtain ⟨hstate, hat, -, -, -, hraised⟩ := s.enterIdent_leaves i
    have hexec := exec_powered (c := .packReinsert i)
      (g := fun s => if s.linkState i = lkUp ∧ (s.pack i).sagged ∧ 2500 < (s.pack i).vPack then s.enterIdent i else s) hl rfl
    rw [if_pos ⟨hst, hsag, hv⟩, State.settle_quiet (hraised.trans hl.2)] at hexec
    exact ⟨_, hexec, hstate, hat⟩
  · have hexec := exec_powered (c := .packReinsert i)
      (g := fun s => if s.linkState i = lkUp ∧ (s.pack i).sagged ∧ 2500 < (s.pack i).vPack then s.enterIdent i else s) hl rfl
    rwa [if_neg fun h => hst h.1, State.settle_quiet hl.2] at hexec
  · obtain ⟨t, full, design, hprev, hexec⟩ := exec_packIdentDone o hl hm hst
    have hdone := t.identify_identified i full (some design) (crc32c_lt (o.serial ++ o.date ++ o.maker ++ o.device ++ o.chem))
      (chemOf_lt o.chem)
    unfold State.Identified at hdone
    rw [hprev] at hdone
    exact ⟨_, hexec, hdone⟩
  · exact ⟨_, exec_packIdentityFrame hl hst hf hlen hlast,
      State.identify_identified _ i _ none (leAt_lt _ _ 4) (Nat.mod_lt _ (by decide))⟩
  · obtain ⟨hfails, hnack, hregs, -⟩ := State.nackTwice_leaves (s := s) (i := i)
    exact ⟨_, exec_packPoll_failed hl hm hst hat, hfails, hnack, hregs⟩
  · have hexec := exec_packStatusFrame hl hf hlen (by rw [hst]; decide) (State.cntFollows_of hcnt)
    dsimp only at hexec
    rw [if_pos hst] at hexec
    obtain ⟨hcur, hlim, hrem, hat, hc⟩ := (s.setPack i { s.pack i with cnt := some (leAt f.data 23 1 % 16), linkAt := s.us }).applyStatus_leaves
      i f.data
    rw [State.pack_setPack] at hat hc
    exact ⟨_, hexec, hcur, hlim, hrem, hat, hc⟩
  · have hexec := exec_packStatusFrame hl hf hlen (by rw [hst]; decide) (State.cntFollows_of hcnt)
    dsimp only at hexec
    rw [if_neg (by rw [hst]; decide), if_pos hst] at hexec
    obtain ⟨hstate, -, -, -, -, hraised⟩ := (s.setPack i { s.pack i with cnt := some (leAt f.data 23 1 % 16), linkAt := s.us }).enterIdent_leaves i
    generalize (s.setPack i { s.pack i with cnt := some (leAt f.data 23 1 % 16), linkAt := s.us }).enterIdent i = t at *
    rw [State.settle_quiet (s := t.setPack i _) (hraised.trans hl.2)] at hexec
    exact ⟨_, hexec, hstate, by rw [State.pack_setPack]⟩
  · refine ⟨_, exec_packStatusFrame_wrong hl hf hlen hoff (State.cntFollows_of_not hq hne), ?_, ?_, ?_⟩
    · rw [State.pack_setPack]
    · intro o ho
      rw [State.setPack_rd_of]
      exact s.rd_bump_other _ 1 fun h => ho (List.mem_singleton.2 h)
    · rw [State.setPack_f_of]
      exact s.f_bump_same _ _ 1 (by decide)
  · obtain ⟨hfull, hstate, hcyc⟩ := State.sameIdentity_leaves (s := s) (i := i) hf
    exact ⟨_, exec_packIdentityFrame_same hl hf hlen hst hid, hfull, hstate.trans hst, hcyc⟩

end Sys2Proof.Machine
end

section
/-! Tilth's sweeps, the health record and the CAN ports (R208, R211–R215, R220). -/

namespace Sys2Proof.Machine

/-- The record of a pack as far as a sweep's conditions look at it. -/
def PackRt.sweepPart (r : PackRt) : List Byte × Int × Nat × Bool × Option Nat × Option Nat :=
  (r.prof, r.iPack, r.alarms, r.lapsed, r.linkI, r.linkD)

/-- `t` differs from `s` in the status and the times of a pack's sweep alone. -/
structure State.SweepOnly (s t : State) (i : Nat) : Prop where
  frame : t = { s with regs := t.regs, packs := t.packs }
  regs : s.sameRegs t [R.PACK_TILTH_STATUS i]
  part : (t.pack i).sweepPart = (s.pack i).sweepPart

section
variable {s t u : State} {i : Nat}

theorem State.SweepOnly.refl (s : State) (i : Nat) : s.SweepOnly s i := ⟨rfl, s.sameRegs_refl _, rfl⟩

theorem State.SweepOnly.trans (h : s.SweepOnly t i) (h' : t.SweepOnly u i) : s.SweepOnly u i :=
  ⟨by rw [h'.frame, h.frame], h.regs.trans h'.regs, h'.part.trans h.part⟩

theorem State.SweepOnly.setF (h : s.SweepOnly t i) (g : Fld) (v : Nat) : s.SweepOnly (t.setF (R.PACK_TILTH_STATUS i) g v) i :=
  ⟨by rw [State.setF, State.wr, h.frame], h.regs.setF List.mem_cons_self _ _, h.part⟩

theorem State.SweepOnly.setPack (h : s.SweepOnly t i) {r : PackRt} (hr : r.sweepPart = (t.pack i).sweepPart) : s.SweepOnly (t.setPack i r) i :=
  ⟨by rw [State.setPack, h.frame], h.regs, by rw [State.pack_setPack, hr, h.part]⟩

theorem State.SweepOnly.raised (h : s.SweepOnly t i) : t.raised = s.raised := by rw [h.frame]

theorem State.SweepOnly.us (h : s.SweepOnly t i) : t.us = s.us := by rw [State.us, h.frame, State.us]

theorem State.SweepOnly.fabF (h : s.SweepOnly t i) (o : Nat) (g : Fld) : t.fabF o g = s.fabF o g := by rw [State.fabF, h.frame, State.fabF]

theorem State.SweepOnly.f (h : s.SweepOnly t i) {o : Nat} (ho : o ≠ R.PACK_TILTH_STATUS i) (g : Fld) : t.f o g = s.f o g :=
  h.regs.f _ (fun hm => ho (List.mem_singleton.1 hm)) g

end

/-! A sweep's conditions do not look at its own status. -/

section
variable {s t : State} {i : Nat} (h : s.SweepOnly t i)
include h

theorem State.SweepOnly.stageState (n : Nat) : t.stageState n = s.stageState n := h.f (by
  simp only [R.STAGE_STATUS, R.PACK_TILTH_STATUS]
  omega) _

theorem State.SweepOnly.stageDir (n : Nat) : t.stageDir n = s.stageDir n := by
  rw [State.stageDir, State.flag, h.f (by
    simp only [R.STAGE_STATUS, R.PACK_TILTH_STATUS]
    omega)]
  rfl

theorem State.SweepOnly.stUsed (n : Nat) : t.stUsed n = s.stUsed n := by
  rw [State.stUsed, State.stTopo, h.fabF]
  rfl

theorem State.SweepOnly.stFrom (n : Nat) : t.stFrom n = s.stFrom n := h.fabF _ _

theorem State.SweepOnly.stTo (n : Nat) : t.stTo n = s.stTo n := h.fabF _ _

theorem State.SweepOnly.stRecv (n : Nat) (rev : Bool) : t.stRecv n rev = s.stRecv n rev := by
  rw [State.stRecv, h.stFrom, h.stTo]
  rfl

theorem State.SweepOnly.stSend (n : Nat) (rev : Bool) : t.stSend n rev = s.stSend n rev := by
  rw [State.stSend, h.stFrom, h.stTo]
  rfl

theorem State.SweepOnly.stage (n : Nat) : t.stage n = s.stage n := by
  rw [State.stage, h.frame]
  rfl

theorem State.SweepOnly.calmRail (r : Nat) : t.calmRail r = s.calmRail r := by
  have hsupply : t.railSupply r = s.railSupply r := h.f (by
    simp only [R.SUPPLY_STATUS, R.PACK_TILTH_STATUS]
    omega) _
  simp only [State.calmRail, hsupply, h.stUsed, h.stFrom, h.stTo, h.stageState]

theorem State.SweepOnly.stagesRunInto (node : Nat) : t.stagesRunInto node = s.stagesRunInto node := by
  simp only [State.stagesRunInto, h.stUsed, h.stRecv, h.stageDir]

end

section
variable {s t : State}

theorem State.SweepOnly.prof {s t : State} {i : Nat} (h : s.SweepOnly t i) : (t.pack i).prof = (s.pack i).prof := congrArg (·.1) h.part

theorem State.SweepOnly.tilthStage {i : Fin 4} (h : s.SweepOnly t i) : t.tilthStage i = s.tilthStage i := by
  have hstatus (n : Nat) (g : Fld) : t.f (R.STAGE_STATUS n) g = s.f (R.STAGE_STATUS n) g := h.f (by
    simp only [R.STAGE_STATUS, R.PACK_TILTH_STATUS]
    omega) g
  have hshare (r : Nat) (g : Fld) : t.flag (R.RAIL_CFG r) g = s.flag (R.RAIL_CFG r) g := by
    rw [State.flag, h.f (by
      simp only [R.RAIL_CFG, R.PACK_TILTH_STATUS]
      omega)]
    rfl
  have hchg (g : Fld) : t.f (R.PACK_CHG_STATUS i) g = s.f (R.PACK_CHG_STATUS i) g := h.f (by
    simp only [R.PACK_CHG_STATUS, R.PACK_TILTH_STATUS]
    omega) g
  have hprofile (g : Fld) : t.f (R.PACK_PROFILE i) g = s.f (R.PACK_PROFILE i) g := h.f (by
    simp only [R.PACK_PROFILE, R.PACK_TILTH_STATUS]
    omega) g
  simp only [State.tilthStage, State.chState, State.profValid, State.phaseOf, hchg, hprofile, h.prof, h.stUsed, h.stageState, h.stRecv,
    h.stSend, h.stageDir, hstatus, h.calmRail, hshare, h.stagesRunInto, h.stage]

theorem State.SweepOnly.tilthAmp {i : Fin 4} (h : s.SweepOnly t i) : t.tilthAmp i = s.tilthAmp i := by
  obtain ⟨hprof, hpack, halarms, hlapsed, hi, hd⟩ : (t.pack i).prof = (s.pack i).prof ∧ (t.pack i).iPack = (s.pack i).iPack ∧
      (t.pack i).alarms = (s.pack i).alarms ∧ (t.pack i).lapsed = (s.pack i).lapsed ∧ (t.pack i).linkI = (s.pack i).linkI ∧
      (t.pack i).linkD = (s.pack i).linkD := by
    have hpart := h.part
    simp only [PackRt.sweepPart, Prod.mk.injEq] at hpart
    exact hpart
  have hcfg (g : Fld) : t.f (R.PACK_TILTH_CFG i) g = s.f (R.PACK_TILTH_CFG i) g := h.f (by
    simp only [R.PACK_TILTH_CFG, R.PACK_TILTH_STATUS]
    omega) g
  have hlink (g : Fld) : t.f (R.PACK_LINK_CFG i) g = s.f (R.PACK_LINK_CFG i) g := h.f (by
    simp only [R.PACK_LINK_CFG, R.PACK_TILTH_STATUS]
    omega) g
  have hup (g : Fld) : t.f (R.PACK_LINK_STATUS i) g = s.f (R.PACK_LINK_STATUS i) g := h.f (by
    simp only [R.PACK_LINK_STATUS, R.PACK_TILTH_STATUS]
    omega) g
  have henv (g : Fld) : t.f (R.ENV_PACK_ILIM i) g = s.f (R.ENV_PACK_ILIM i) g := h.f (by
    simp only [R.ENV_PACK_ILIM, R.PACK_TILTH_STATUS]
    omega) g
  have hin : t.effICharge i = s.effICharge i := by
    rw [State.effICharge, halarms, hlapsed, hi, State.flag, hlink, henv, State.linkUp, hup]
    rfl
  have hout : t.effIDischarge i = s.effIDischarge i := by
    rw [State.effIDischarge, hd, henv, State.linkUp, hup]
    rfl
  rw [State.tilthAmp, hcfg, hpack, hin, hout]
  rfl

theorem State.SweepOnly.tilthOk {i : Fin 4} (h : s.SweepOnly t i) : t.tilthOk i = s.tilthOk i := by
  have hprofile (g : Fld) : t.f (R.PACK_PROFILE i) g = s.f (R.PACK_PROFILE i) g := h.f (by
    simp only [R.PACK_PROFILE, R.PACK_TILTH_STATUS]
    omega) g
  have hzone : t.zoneOf i = s.zoneOf i := h.f (by
    simp only [R.PACK_CHG_STATUS, R.PACK_TILTH_STATUS]
    omega) _
  have hsafe : t.anySafe = s.anySafe ∧ t.safeOn = s.safeOn := by
    rw [State.anySafe, h.frame]
    exact ⟨rfl, rfl⟩
  rw [State.tilthOk, State.profValid, hprofile, h.prof, hzone, h.tilthStage, h.tilthAmp, hsafe.1, hsafe.2]
  rfl

end

/-! A sweep starts, waits and ends (R211, R213, R215). -/

section
variable (s : State) (i : Fin 4)

theorem State.tilthShow_sweepOnly (fresh : Bool) : s.SweepOnly (s.tilthShow i fresh) i := by
  unfold State.tilthShow
  split
  · exact State.SweepOnly.refl s i
  split
  · exact (State.SweepOnly.refl s i).setF _ _
  split
  · exact ((State.SweepOnly.refl s i).setF _ _).setPack rfl
  · exact State.SweepOnly.refl s i

/-- A point that starts afresh is MEASURING or WAITING; the status is otherwise as it was. -/
theorem State.tilthShow_fresh (h : s.tilthState i ≠ 0) : (s.tilthShow i true).tilthState i = (if s.tilthOk i then 1 else 2) ∧
    ((s.tilthShow i true).pack i).sweepAt = (s.pack i).sweepAt ∧
    ∀ g : Fld, g.lo + g.w ≤ 32 → 2 ≤ g.lo → (s.tilthShow i true).f (R.PACK_TILTH_STATUS i) g = s.f (R.PACK_TILTH_STATUS i) g := by
  have hfield {g : Fld} (hw : g.lo + g.w ≤ 32) (hg : 2 ≤ g.lo) (v : Nat) :
      (s.setF (R.PACK_TILTH_STATUS i) F.PACK_TILTH_STATUS_STATE v).f (R.PACK_TILTH_STATUS i) g = s.f (R.PACK_TILTH_STATUS i) g :=
    State.f_setF_field _ _ (by decide) hw (.inr hg)
  unfold State.tilthShow
  rw [if_neg h]
  cases s.tilthOk i with
  | false => exact ⟨State.f_setF_same _ _ _ _ (by decide), rfl, fun g hw hg => hfield hw hg 2⟩
  | true =>
    rw [Bool.not_true, if_neg Bool.false_ne_true, if_pos (.inl rfl), State.tilthState, State.setPack_f_of, State.pack_setPack]
    exact ⟨State.f_setF_same _ _ _ _ (by decide), rfl, fun g hw hg => hfield hw hg 1⟩

/-- A sweep at its first point, before its conditions are looked at. -/
def State.tilthBegun : State :=
  (((s.setF (R.PACK_TILTH_STATUS i) F.PACK_TILTH_STATUS_STATE 2).setF (R.PACK_TILTH_STATUS i) F.PACK_TILTH_STATUS_POINT 0).setF
    (R.PACK_TILTH_STATUS i) F.PACK_TILTH_STATUS_POINTS 0).setPack i { s.pack i with ampFails := 0, sweepAt := s.us, derT := 0 }

theorem State.tilthBegun_sweepOnly : s.SweepOnly (s.tilthBegun i) i :=
  ((((State.SweepOnly.refl s i).setF _ _).setF _ _).setF _ _).setPack rfl

/-- What a sweep's start leaves. -/
theorem State.startSweep_leaves (h : s.tilthState i = 0) : (s.startSweep i).tilthState i = (if s.tilthOk i then 1 else 2) ∧
    (s.startSweep i).tilthPoint i = 0 ∧ (s.startSweep i).f (R.PACK_TILTH_STATUS i) F.PACK_TILTH_STATUS_POINTS = 0 ∧
    ((s.startSweep i).pack i).sweepAt = s.us ∧ s.SweepOnly (s.startSweep i) i := by
  have hbegun := s.tilthBegun_sweepOnly i
  have hstart : s.startSweep i = (s.tilthBegun i).tilthShow i true := by
    rw [State.startSweep, if_neg (not_not_intro h)]
    rfl
  have hstate : (s.tilthBegun i).tilthState i ≠ 0 := by
    rw [State.tilthBegun, State.tilthState, State.setPack_f_of, State.f_setF_field _ _ (by decide) (by decide) (.inl (by decide)),
      State.f_setF_field _ _ (by decide) (by decide) (.inl (by decide)), State.f_setF_same _ _ _ _ (by decide)]
    decide
  obtain ⟨hshow, hat, hfield⟩ := (s.tilthBegun i).tilthShow_fresh i hstate
  rw [hstart]
  refine ⟨?_, ?_, ?_, ?_, hbegun.trans ((s.tilthBegun i).tilthShow_sweepOnly i true)⟩
  · rw [hshow, hbegun.tilthOk]
  · rw [State.tilthPoint, hfield _ (by decide) (by decide), State.tilthBegun, State.setPack_f_of,
      State.f_setF_field _ _ (by decide) (by decide) (.inl (by decide)), State.f_setF_same _ _ _ _ (by decide), Nat.zero_mod]
  · rw [hfield _ (by decide) (by decide), State.tilthBegun, State.setPack_f_of, State.f_setF_same _ _ _ _ (by decide), Nat.zero_mod]
  · rw [hat, State.tilthBegun, State.pack_setPack]

/-- A sweep that ends: its status, its last result, and its fault where it records one. -/
theorem State.endSweep_leaves {last : Nat} (fault : Bool) (h : s.tilthState i ≠ 0) (hlast : last < 4) :
    (s.endSweep i last fault).tilthState i = 0 ∧ (s.endSweep i last fault).f (R.PACK_TILTH_STATUS i) F.PACK_TILTH_STATUS_LAST = last ∧
    s.sameRegs (s.endSweep i last fault) [R.PACK_TILTH_STATUS i] ∧
    (s.endSweep i last fault).raised = s.raised ++ if fault then [faultOf 0x45 i []] else [] := by
  have hset : let t := (s.setF (R.PACK_TILTH_STATUS i) F.PACK_TILTH_STATUS_STATE 0).setF (R.PACK_TILTH_STATUS i) F.PACK_TILTH_STATUS_LAST last
      t.tilthState i = 0 ∧ t.f (R.PACK_TILTH_STATUS i) F.PACK_TILTH_STATUS_LAST = last ∧ s.sameRegs t [R.PACK_TILTH_STATUS i] := by
    refine ⟨?_, ?_, ((s.sameRegs_refl _).setF List.mem_cons_self _ _).setF List.mem_cons_self _ _⟩
    · rw [State.tilthState, State.f_setF_field _ _ (by decide) (by decide) (.inl (by decide)), State.f_setF_same _ _ _ _ (by decide), Nat.zero_mod]
    · rw [State.f_setF_same _ _ _ _ (by decide)]
      exact Nat.mod_eq_of_lt hlast
  obtain ⟨hstate, hl, hregs⟩ := hset
  have hne : ¬ s.f (R.PACK_TILTH_STATUS i) F.PACK_TILTH_STATUS_STATE = 0 := h
  unfold State.endSweep
  rw [if_neg hne]
  cases fault with
  | false => exact ⟨hstate, hl, hregs, (List.append_nil _).symm⟩
  | true => exact ⟨hstate, hl, hregs, rfl⟩

end

/-! A measurement point (R212, R213). -/

/-- `t` keeps a point's impedance and the count of points. -/
structure State.PointKept (s t : State) (i k : Nat) : Prop where
  re : t.rd (R.PACK_Z_RE i k) = s.rd (R.PACK_Z_RE i k)
  im : t.rd (R.PACK_Z_IM i k) = s.rd (R.PACK_Z_IM i k)
  points : t.f (R.PACK_TILTH_STATUS i) F.PACK_TILTH_STATUS_POINTS = s.f (R.PACK_TILTH_STATUS i) F.PACK_TILTH_STATUS_POINTS

theorem impedance_ne (i k : Nat) : R.PACK_Z_RE i k ≠ R.PACK_TILTH_STATUS i ∧ R.PACK_Z_IM i k ≠ R.PACK_TILTH_STATUS i := by
  simp only [R.PACK_Z_RE, R.PACK_Z_IM, R.PACK_TILTH_STATUS]
  omega

section
variable {s t u : State} {i k : Nat}

theorem State.PointKept.refl (s : State) (i k : Nat) : s.PointKept s i k := ⟨rfl, rfl, rfl⟩

theorem State.PointKept.trans (h : s.PointKept t i k) (h' : t.PointKept u i k) : s.PointKept u i k :=
  ⟨h'.re.trans h.re, h'.im.trans h.im, h'.points.trans h.points⟩

theorem State.PointKept.wr {o : Nat} {v : Word} (h : s.PointKept t i k)
    (ho : R.PACK_Z_RE i k ≠ o ∧ R.PACK_Z_IM i k ≠ o ∧ R.PACK_TILTH_STATUS i ≠ o) : s.PointKept (t.wr o v) i k := by
  obtain ⟨hre, him, hst⟩ := ho
  exact ⟨(State.rd_wr_other _ _ hre).trans h.re, (State.rd_wr_other _ _ him).trans h.im, (State.f_wr_reg _ _ _ hst).trans h.points⟩

theorem State.PointKept.status {g : Fld} {v : Nat} (h : s.PointKept t i k) (hg : g.lo + g.w ≤ 24) :
    s.PointKept (t.setF (R.PACK_TILTH_STATUS i) g v) i k := by
  obtain ⟨hre, him⟩ := impedance_ne i k
  exact ⟨(State.rd_setF_other _ _ _ hre).trans h.re, (State.rd_setF_other _ _ _ him).trans h.im,
    (State.f_setF_field _ _ (by omega) (by decide) (.inr hg)).trans h.points⟩

theorem State.PointKept.setPack {r : PackRt} (h : s.PointKept t i k) : s.PointKept (t.setPack i r) i k := ⟨h.re, h.im, h.points⟩

theorem State.PointKept.raise {id inst : Nat} {b : List Byte} (h : s.PointKept t i k) : s.PointKept (t.raise id inst b) i k :=
  ⟨h.re, h.im, h.points⟩

theorem State.PointKept.ite {c : Prop} [Decidable c] (ht : s.PointKept t i k) (hu : s.PointKept u i k) :
    s.PointKept (if c then t else u) i k := by
  split
  · exact ht
  · exact hu

theorem State.PointKept.tilthShow (h : s.PointKept t i k) : s.PointKept (t.tilthShow i true) i k := by
  unfold State.tilthShow
  exact h.ite ((h.status (by decide)).ite (((h.status (by decide)).setPack).ite h))

theorem State.PointKept.endSweep {last : Nat} {fault : Bool} (h : s.PointKept t i k) : s.PointKept (t.endSweep i last fault) i k := by
  have hset := (h.status (g := F.PACK_TILTH_STATUS_STATE) (v := 0) (by decide)).status (g := F.PACK_TILTH_STATUS_LAST) (v := last) (by decide)
  unfold State.endSweep
  exact h.ite (hset.raise.ite hset)

end

/-- A record that is written leaves a pack's point. -/
theorem State.PointKept.writeHealth {s t : State} {i : Fin 4} {k : Fin 32} {mv : Nat} {bad : Option Nat} (h : s.PointKept t i k) :
    s.PointKept (t.writeHealth i mv bad) i k := by
  have hbox := (State.BoxOnly.refl t).writeHealth (i := i) (restMv := mv) (bad := bad)
  have hrd (o : Nat) (hlo : 0x4000 ≤ o) (hhi : o < 0x5000) : (t.writeHealth i mv bad).rd o = t.rd o := hbox.regs o fun hr => by
    have hr := hr.offset
    omega
  refine ⟨?_, ?_, ?_⟩
  · rw [hrd _ (by simp only [R.PACK_Z_RE]; omega) (by simp only [R.PACK_Z_RE]; omega), h.re]
  · rw [hrd _ (by simp only [R.PACK_Z_IM]; omega) (by simp only [R.PACK_Z_IM]; omega), h.im]
  · rw [State.f, hrd _ (by simp only [R.PACK_TILTH_STATUS]; omega) (by simp only [R.PACK_TILTH_STATUS]; omega), ← State.f, h.points]

theorem pointRegs_ne (i k : Nat) {o : Nat} (ho : o = R.PACK_TILTH_R25 i ∨ o = R.PACK_SOH i ∨ o = R.PACK_TILTH_TIME_LO i ∨ o = R.PACK_TILTH_TIME_HI i) :
    R.PACK_Z_RE i k ≠ o ∧ R.PACK_Z_IM i k ≠ o ∧ R.PACK_TILTH_STATUS i ≠ o := by
  simp only [R.PACK_Z_RE, R.PACK_Z_IM, R.PACK_TILTH_STATUS, R.PACK_TILTH_R25, R.PACK_SOH, R.PACK_TILTH_TIME_LO, R.PACK_TILTH_TIME_HI] at *
  omega

theorem State.PointKept.r25 {s t : State} {i k v : Nat} (h : s.PointKept t i k) : s.PointKept (t.wrN (R.PACK_TILTH_R25 i) v) i k :=
  h.wr (pointRegs_ne i k (.inl rfl))

theorem State.PointKept.soh {s t : State} {i k v : Nat} {g : Fld} (h : s.PointKept t i k) : s.PointKept (t.setF (R.PACK_SOH i) g v) i k :=
  h.wr (pointRegs_ne i k (.inr (.inl rfl)))

theorem State.PointKept.time {s t : State} {i k v : Nat} (h : s.PointKept t i k) :
    s.PointKept (t.wr64 (R.PACK_TILTH_TIME_LO i) (R.PACK_TILTH_TIME_HI i) v) i k :=
  (h.wr (pointRegs_ne i k (.inr (.inr (.inl rfl))))).wr (pointRegs_ne i k (.inr (.inr (.inr rfl))))

theorem State.PointKept.sweepComplete {s t : State} {i : Fin 4} {k : Fin 32} (h : s.PointKept t i k) : s.PointKept (t.sweepComplete i) i k :=
  h.endSweep.ite (bindProp h.endSweep.r25.setPack.soh.time.writeHealth fun hdone => hdone.raise.ite hdone)

theorem State.pointZ_frame (s : State) (o : TilthObs) : (s.pointZ o).2.2 = { s with free := (s.pointZ o).2.2.free } := by
  unfold State.pointZ
  dsimp only
  rw [State.quot_frame, s.quot_frame]

/-- A good point, stored and counted. -/
def State.pointStored (s : State) (i : Nat) (o : TilthObs) : State :=
  let k := s.tilthPoint i
  let z := s.pointZ o
  let s := (z.2.2.wrN (R.PACK_Z_RE i k) (ofSigned 32 z.1)).wrN (R.PACK_Z_IM i k) (ofSigned 32 z.2.1)
  let s := s.addF (R.PACK_TILTH_STATUS i) F.PACK_TILTH_STATUS_POINTS 1
  s.setPack i { s.pack i with
    ampFails := 0
    derT := if k = s.f (R.PACK_TILTH_DER i) F.PACK_TILTH_DER_F_DER then
        toSigned 16 (s.f (R.PACK_TEMP i) F.PACK_TEMP_T_ZONE) else (s.pack i).derT }

/-- The point after the one stored, or the sweep's end. -/
def State.pointAfter (s : State) (i k : Nat) : State :=
  match ((List.range 32).filter (fun q => decide (k < q))).find? (s.pointUsed i) with
  | some q => (s.setF (R.PACK_TILTH_STATUS i) F.PACK_TILTH_STATUS_POINT q).tilthShow i true
  | none => s.sweepComplete i

theorem State.pointAfter_kept (s : State) (i : Fin 4) (k : Fin 32) (q : Nat) : s.PointKept (s.pointAfter i q) i k := by
  unfold State.pointAfter
  split
  · exact ((State.PointKept.refl s i k).status (by decide)).tilthShow
  · exact (State.PointKept.refl s i k).sweepComplete

theorem State.tilthPoint_lt (s : State) (i : Nat) : s.tilthPoint i < 32 := s.f_lt _ F.PACK_TILTH_STATUS_POINT (by decide)

theorem ofSigned_lt (w : Nat) (x : Int) : ofSigned w x < 2 ^ w := by
  have hpos : (0 : Int) < ((2 ^ w : Nat) : Int) := by exact_mod_cast Nat.two_pow_pos w
  have hlt := Int.emod_lt_of_pos x hpos
  have hle := Int.emod_nonneg x hpos.ne'
  unfold ofSigned
  omega

/-- What a good point leaves. -/
structure State.PointGood (s t : State) (i : Nat) (o : TilthObs) : Prop where
  re : t.rdN (R.PACK_Z_RE i (s.tilthPoint i)) = ofSigned 32 (s.pointZ o).1
  im : t.rdN (R.PACK_Z_IM i (s.tilthPoint i)) = ofSigned 32 (s.pointZ o).2.1
  points : t.f (R.PACK_TILTH_STATUS i) F.PACK_TILTH_STATUS_POINTS =
    min (s.f (R.PACK_TILTH_STATUS i) F.PACK_TILTH_STATUS_POINTS + 1) (2 ^ F.PACK_TILTH_STATUS_POINTS.w - 1)

theorem State.pointStored_good (s : State) (i : Fin 4) (o : TilthObs) : s.PointGood (s.pointStored i o) i o := by
  obtain ⟨hre, him⟩ := impedance_ne i (s.tilthPoint i)
  have hboth : R.PACK_Z_RE i (s.tilthPoint i) ≠ R.PACK_Z_IM i (s.tilthPoint i) := by
    simp only [R.PACK_Z_RE, R.PACK_Z_IM]
    omega
  have hfree (r : Nat) (g : Fld) : (s.pointZ o).2.2.f r g = s.f r g := by
    rw [s.pointZ_frame]
    rfl
  refine ⟨?_, ?_, ?_⟩
  · rw [State.pointStored, State.rdN, State.setPack_rd_of, State.addF, State.rd_setF_other _ _ _ hre, State.rd_wrN_other _ _ hboth, ← State.rdN,
      State.rdN_wrN_same, Nat.mod_eq_of_lt (ofSigned_lt 32 _)]
  · rw [State.pointStored, State.rdN, State.setPack_rd_of, State.addF, State.rd_setF_other _ _ _ him, ← State.rdN,
      State.rdN_wrN_same, Nat.mod_eq_of_lt (ofSigned_lt 32 _)]
  · rw [State.pointStored, State.setPack_f_of, State.f_addF_same _ _ _ _ (by decide), State.f, State.rd_wrN_other _ _ him.symm,
      State.rd_wrN_other _ _ hre.symm, ← State.f, hfree]

theorem State.PointGood.after {s t : State} {i : Fin 4} {o : TilthObs} (h : s.PointGood t i o) :
    s.PointGood (t.pointAfter i (s.tilthPoint i)) i o := by
  have hkept := t.pointAfter_kept i ⟨s.tilthPoint i, s.tilthPoint_lt i⟩ (s.tilthPoint i)
  refine ⟨?_, ?_, hkept.points.trans h.points⟩
  · rw [State.rdN, hkept.re, ← State.rdN, h.re]
  · rw [State.rdN, hkept.im, ← State.rdN, h.im]

section
variable {s : State} {i : Fin 4} {o : TilthObs} (hl : s.live) (hst : s.tilthState i = 1) (hok : s.tilthOk i = true)
  (hover : s.pointOver i = true)
include hl hst hok hover

theorem exec_tilthPointDone (hgood : (((s.tilthAmp i).getD 0 : Nat) : Int) * ((s.tilthAmp i).getD 0 : Nat) ≤ 4 * (o.iRe * o.iRe + o.iIm * o.iIm)) :
    exec (.tilthPointDone i o) s = .next ((s.pointStored i o).pointAfter i (s.tilthPoint i)).settle := by
  have hexec : exec (.tilthPointDone i o) s = execTilthPointDone i o s := rfl
  rw [hexec, execTilthPointDone, State.act_on _ hl.1]
  dsimp only
  rw [if_neg (not_not_intro hst), hok, Bool.not_true, if_neg Bool.false_ne_true, hover, Bool.not_true, if_neg Bool.false_ne_true,
    if_neg (not_lt.2 hgood)]
  rfl

theorem exec_tilthPointDone_weak (hweak : 4 * (o.iRe * o.iRe + o.iIm * o.iIm) <
    (((s.tilthAmp i).getD 0 : Nat) : Int) * ((s.tilthAmp i).getD 0 : Nat)) (hfails : 1 ≤ (s.pack i).ampFails) :
    exec (.tilthPointDone i o) s = .next (s.endSweep i 2 true).settle := by
  have hexec : exec (.tilthPointDone i o) s = execTilthPointDone i o s := rfl
  rw [hexec, execTilthPointDone, State.act_on _ hl.1]
  dsimp only
  rw [if_neg (not_not_intro hst), hok, Bool.not_true, if_neg Bool.false_ne_true, hover, Bool.not_true, if_neg Bool.false_ne_true,
    if_pos hweak, if_pos hfails]

end

/-! The hourly record (R208). -/

section
variable {s : State} {i : Fin 4} (mv : Nat)

/-- The hour noted. -/
def State.hourNoted (s : State) (i : Nat) : State := s.setPack i { s.pack i with hourAt := s.us }

theorem exec_packHealthWrite (hl : s.live) (hat : (s.pack i).hourAt + 3600000000 ≤ s.us) : exec (.packHealthWrite i mv none) s =
    .next (if (s.hourNoted i).healthMoved i then (s.hourNoted i).writeHealth i mv none else s.hourNoted i).settle := by
  have hover : s.hourOver i = true := decide_eq_true hat
  have hexec : exec (.packHealthWrite i mv none) s = execPackHealthWrite i mv none s := rfl
  rw [hexec, execPackHealthWrite, State.act_on _ hl.1]
  dsimp only
  rw [hover]
  rfl

theorem State.hourNoted_healthMoved : (s.hourNoted i).healthMoved i = decide (s.eFull i <
    100 * ((s.rd64 (R.PACK_EREM_LO i) (R.PACK_EREM_HI i) - (s.pack i).healthE) +
      ((s.pack i).healthE - s.rd64 (R.PACK_EREM_LO i) (R.PACK_EREM_HI i)))) := by
  rw [State.healthMoved, State.hourNoted, State.pack_setPack]
  rfl

theorem State.nvmDo_packs (t : State) (op : NvmOp) : (t.nvmDo op).packs = t.packs := by
  cases op with
  | erase p =>
    have h := t.erasePage_storeOnly p
    rw [State.nvmDo, h]
  | program g b =>
    have h := t.programGroup_storeOnly g b
    have hpacks : (t.programGroup g b).packs = t.packs := by rw [h]
    rw [State.nvmDo, State.programArmed]
    generalize t.programGroup g b = u at hpacks ⊢
    split
    · rw [State.hwSet_packs, State.setF_packs]
      exact hpacks
    · exact hpacks

/-- Writing a record changes no pack's figures. -/
theorem State.writeRecord_packs (t : State) (p : RecPlace) (id : Nat) (data : List Byte) : (t.writeRecord p id data none).1.packs = t.packs := by
  have hplan : (t.planRecord p id data).2.packs = t.packs := by
    unfold State.planRecord
    dsimp only
    split
    · rw [t.takeFree_frame]
    · rfl
  exact (foldl_keeps (f := State.packs) State.nvmDo_packs _ _).trans hplan

/-- A record written keeps the hour, and notes the energy that it holds. -/
theorem State.writeHealth_leaves (t : State) : ((t.writeHealth i mv none).pack i).hourAt = (t.pack i).hourAt ∧
    ((t.writeHealth i mv none).pack i).healthE = t.rd64 (R.PACK_EREM_LO i) (R.PACK_EREM_HI i) := by
  have hbox : t.BoxOnly (t.writeRecord (healthPlace i) (healthId i) (t.healthData i mv) none).1 := (State.BoxOnly.refl t).writeRecord
  have hpack : (t.writeRecord (healthPlace i) (healthId i) (t.healthData i mv) none).1.pack i = t.pack i := by
    rw [State.pack, State.writeRecord_packs, State.pack]
  have hrd (o : Nat) (h : o = R.PACK_EREM_LO i ∨ o = R.PACK_EREM_HI i) :
      (t.writeRecord (healthPlace i) (healthId i) (t.healthData i mv) none).1.rd o = t.rd o := hbox.regs o fun hr => by
    have hr := hr.offset
    simp only [R.PACK_EREM_LO, R.PACK_EREM_HI] at h
    omega
  rw [State.writeHealth, State.pack_setPack, hpack, State.rd64, State.rdN, State.rdN, hrd _ (.inl rfl), hrd _ (.inr rfl)]
  exact ⟨rfl, rfl⟩

end

/-! The CAN ports (R220). -/

/-- A CAN port off the bus. -/
def State.busOff (s : State) (n : Nat) : State :=
  ((s.setF (R.CAN_STATUS n) F.CAN_STATUS_STATE 2).bump (R.CAN_STATUS n) F.CAN_STATUS_BO_CNT 1).raise 0x4E n []

theorem State.busOff_leaves {s : State} (n : Nat) (h : s.raised = []) : (s.busOff n).f (R.CAN_STATUS n) F.CAN_STATUS_STATE = 2 ∧
    (s.busOff n).f (R.CAN_STATUS n) F.CAN_STATUS_BO_CNT = min (s.f (R.CAN_STATUS n) F.CAN_STATUS_BO_CNT + 1) 255 ∧
    s.onlyRegs (s.busOff n) [R.CAN_STATUS n] [faultOf 0x4E n []] := by
  refine ⟨?_, ?_, (((State.onlyRegs_refl h _).setF List.mem_cons_self _ _).bump List.mem_cons_self _ _).raise _ _ _⟩
  · rw [State.busOff, State.raise_f_of, State.f_bump_field _ _ (by decide) (by decide) (.inl (by decide)), State.f_setF_same _ _ _ _ (by decide)]
    rfl
  · rw [State.busOff, State.raise_f_of, State.f_bump_same _ _ _ _ (by decide),
      State.f_setF_field _ _ (by decide) (by decide) (.inr (by decide))]
    rfl

/-- Settles O36: a sweep starts, stores its points and ends; the hourly record; bus-off and its end. -/
theorem tilthSweepsAndBusOff : Obligations.TilthSweepsAndBusOff := by
  refine ⟨fun s i p hl => ?_, fun s n hl => ⟨fun hen hst => ?_, fun hst => ⟨fun hauto => ?_, fun hauto => ?_⟩⟩⟩
  · dsimp only
    refine ⟨fun hst => ?_, fun hst => ?_, fun hst hen hh hat => ?_, fun hst => ⟨?_, fun hat => ?_⟩, fun o hst hok hover =>
      ⟨fun hweak hfails => ?_, fun hgood => ?_⟩, fun mv hat => ⟨fun hmoved => ?_, fun hstill => ?_⟩⟩
    · obtain ⟨hstate, hpoint, hpoints, hsat, honly⟩ := s.startSweep_leaves i hst
      exact ⟨_, exec_powered_quiet (g := fun s => s.startSweep i) hl rfl (honly.raised.trans hl.2), hstate, hpoint, hpoints, hsat, honly.regs⟩
    · have hsame : s.startSweep i = s := if_pos hst
      have hexec := exec_powered (c := .tilthStart p i) (g := fun s => s.startSweep i) hl rfl
      rwa [hsame, State.settle_quiet hl.2] at hexec
    · obtain ⟨hstate, hpoint, hpoints, hsat, honly⟩ := s.startSweep_leaves i hst
      have hexec : exec (.tilthIntervalExpiry i) s = execTilthIntervalExpiry i s := rfl
      rw [execTilthIntervalExpiry, State.act_on _ hl.1] at hexec
      dsimp only at hexec
      rw [if_pos ⟨hen, hh, hat⟩, State.settle_quiet (honly.raised.trans hl.2)] at hexec
      exact ⟨_, hexec, hstate, hpoint, hpoints, hsat, honly.regs⟩
    · obtain ⟨hstate, hlast, hregs, hraised⟩ := s.endSweep_leaves i (last := 2) false hst (by decide)
      have hquiet : (s.endSweep i 2 false).raised = [] := by rw [hraised, hl.2]; rfl
      exact ⟨_, exec_powered_quiet (g := fun s => s.endSweep i 2 false) hl rfl hquiet, hstate, hlast, hregs⟩
    · obtain ⟨hstate, hlast, hregs, hraised⟩ := s.endSweep_leaves i (last := 3) true hst (by decide)
      have hexec := exec_powered (c := .tilthTimeout i)
        (g := fun s => if (s.pack i).sweepAt + 900000000 ≤ s.us then s.endSweep i 3 true else s) hl rfl
      rw [if_pos hat] at hexec
      exact ⟨_, hexec, ⟨hstate, hlast, hregs⟩, by rw [hraised, hl.2]; rfl⟩
    · obtain ⟨hstate, hlast, hregs, hraised⟩ := s.endSweep_leaves i (last := 2) true (by rw [hst]; decide) (by decide)
      exact ⟨_, exec_tilthPointDone_weak hl hst hok hover hweak hfails, ⟨hstate, hlast, hregs⟩, by rw [hraised, hl.2]; rfl⟩
    · obtain ⟨hre, him, hpoints⟩ := (s.pointStored_good i o).after
      exact ⟨_, exec_tilthPointDone hl hst hok hover hgood, hre, him, hpoints⟩
    · obtain ⟨hhour, he⟩ := State.writeHealth_leaves (i := i) mv (s.hourNoted i)
      have hexec := exec_packHealthWrite mv hl hat
      rw [if_pos (by rw [State.hourNoted_healthMoved]; exact decide_eq_true hmoved)] at hexec
      refine ⟨_, hexec, he, ?_⟩
      rw [hhour, State.hourNoted, State.pack_setPack]
    · have hexec := exec_packHealthWrite mv hl hat
      rw [if_neg (by rw [State.hourNoted_healthMoved, decide_eq_true_eq]; omega), State.settle_quiet (s := s.hourNoted i) hl.2] at hexec
      refine ⟨_, hexec, ?_, rfl⟩
      rw [State.hourNoted, State.pack_setPack]
  · have hexec := exec_powered (c := .canBusOff n)
      (g := fun s => if s.flag (R.CAN_CFG n) F.CAN_CFG_EN ∧ s.f (R.CAN_STATUS n) F.CAN_STATUS_STATE ≠ 2 then s.busOff n else s) hl rfl
    rw [if_pos ⟨hen, hst⟩] at hexec
    exact ⟨_, hexec, State.busOff_leaves n hl.2⟩
  · have hquiet : (s.leaveBusOff n).raised = [] := hl.2
    have hexec := exec_powered (c := .canBusOffRecovery n)
      (g := fun s => if s.f (R.CAN_STATUS n) F.CAN_STATUS_STATE = 2 ∧ s.flag (R.CAN_CFG n) F.CAN_CFG_AUTO_BO then s.leaveBusOff n else s) hl rfl
    rw [if_pos ⟨hst, hauto⟩, State.settle_quiet hquiet] at hexec
    refine ⟨_, hexec, ?_, (State.onlyRegs_refl hl.2 _).setF List.mem_cons_self _ _⟩
    rw [State.leaveBusOff, State.f_setF_same _ _ _ _ (by decide), Nat.zero_mod]
  · have hexec := exec_powered (c := .canBusOffRecovery n)
      (g := fun s => if s.f (R.CAN_STATUS n) F.CAN_STATUS_STATE = 2 ∧ s.flag (R.CAN_CFG n) F.CAN_CFG_AUTO_BO then s.leaveBusOff n else s) hl rfl
    rwa [if_neg (by rw [hauto]; exact fun h => absurd h.2 (by decide)), State.settle_quiet hl.2] at hexec

end Sys2Proof.Machine
end

section
/-! Ring pairs change state (R272, R273, R311). -/

namespace Sys2Proof.Machine

/-! The states of a pair. -/

/-- A pair's set-up, status, pointers and counts are none of the registers that an EVENT record writes. -/
theorem pairReg_not_event {k : Nat} (p : Nat) (hk : k % 64 = 0 ∨ 0x18 ≤ k % 64 ∧ k % 64 ≤ 0x24) : k + 0x40 * p ∉ eventRegs := by
  simp only [eventRegs, List.mem_cons, List.not_mem_nil, or_false, R.EVENT_STATUS, R.CPLQ_STATUS, R.HOST_GLB_STATUS]
  omega

section
variable (s : State)

theorem State.setGlb_cplq (k : Nat) : (s.setGlb k).cplq = s.cplq := by
  unfold State.setGlb State.fireVec
  dsimp only
  split
  · split
    · split <;> rfl
    · rfl
  · rfl

/-- An EVENT record that is written is marked as one. -/
theorem State.putEvent_cplq (kind sub code : Nat) (data : List Byte) {h : HeldCpl} (hh : h ∈ (s.putEvent kind sub code data).cplq) :
    h ∈ s.cplq ∨ h.event = true := by
  unfold State.putEvent at hh
  dsimp only at hh
  split at hh
  · rcases List.mem_append.1 hh with hold | hnew
    · exact .inl hold
    · exact .inr (by rw [List.mem_singleton.1 hnew])
  · refine .inl ?_
    split at hh
    · rwa [State.setGlb_cplq] at hh
    · rwa [State.raise_cplq, State.setGlb_cplq] at hh

theorem State.event_cplq (kind sub code : Nat) (data : List Byte) {h : HeldCpl} (hh : h ∈ (s.event kind sub code data).cplq) :
    h ∈ s.cplq ∨ h.event = true := by
  have hboth : ∀ on : Bool, h ∈ (if on then
      ((if (decide (s.evLost > 0) && s.cplRoom s.eventPair) = true then
        ({ s with evLost := 0, evLosing := false }).putEvent 0x0F 0 s.evLost [] else s).putEvent kind sub code data)
      else s).cplq → h ∈ s.cplq ∨ h.event = true := by
    intro on hh
    split at hh
    · rcases State.putEvent_cplq _ _ _ _ _ hh with hfirst | hev
      · split at hfirst
        · exact State.putEvent_cplq { s with evLost := 0, evLosing := false } _ _ _ _ hfirst
        · exact .inl hfirst
      · exact .inr hev
    · exact .inl hh
  exact hboth _ hh

theorem State.setPairState_sameRegs (p st stall : Nat) : s.sameRegs (s.setPairState p st stall) (R.RING_STATUS p :: eventRegs) := by
  have hset := ((s.sameRegs_refl (R.RING_STATUS p :: eventRegs)).setF List.mem_cons_self F.RING_STATUS_STATE st).setF
    List.mem_cons_self F.RING_STATUS_STALL stall
  have hsub : [R.HOST_GLB_STATUS] ⊆ R.RING_STATUS p :: eventRegs :=
    List.cons_subset.2 ⟨List.mem_cons_of_mem _ (by decide), List.nil_subset _⟩
  unfold State.setPairState
  exact State.sameRegs.trans (State.sameRegs.ite (hset.trans ((State.setGlb_sameRegs _ 0).mono hsub)) hset)
    ((State.event_sameRegs _ _ _ _ _).mono (List.subset_cons_self _ _))

/-- The pair's own status after a change of state. -/
theorem State.setPairState_f (p st stall : Nat) (g : Fld) : (s.setPairState p st stall).f (R.RING_STATUS p) g =
    ((s.setF (R.RING_STATUS p) F.RING_STATUS_STATE st).setF (R.RING_STATUS p) F.RING_STATUS_STALL stall).f (R.RING_STATUS p) g := by
  have hout : R.RING_STATUS p ∉ eventRegs := pairReg_not_event p (by decide)
  unfold State.setPairState
  dsimp only
  rw [(State.event_sameRegs _ _ _ _ _).f _ hout]
  split
  · exact ((State.setGlb_sameRegs _ 0).mono (by decide : [R.HOST_GLB_STATUS] ⊆ eventRegs)).f _ hout g
  · rfl

theorem State.setPairState_pairState (p st stall : Nat) (hst : st < 4) : (s.setPairState p st stall).pairState p = st := by
  rw [State.pairState, State.setPairState_f, State.f_setF_field _ _ (by decide) (by decide) (.inl (by decide)),
    State.f_setF_same _ _ _ _ (by decide)]
  exact Nat.mod_eq_of_lt hst

theorem State.setPairState_stall (p st stall : Nat) (hstall : stall < 16) :
    (s.setPairState p st stall).f (R.RING_STATUS p) F.RING_STATUS_STALL = stall := by
  rw [State.setPairState_f, State.f_setF_same _ _ _ _ (by decide)]
  exact Nat.mod_eq_of_lt hstall

theorem State.setPairState_phase (p st stall : Nat) :
    (s.setPairState p st stall).f (R.RING_STATUS p) F.RING_STATUS_PHASE = s.f (R.RING_STATUS p) F.RING_STATUS_PHASE := by
  rw [State.setPairState_f, State.f_setF_field _ _ (by decide) (by decide) (.inr (by decide)),
    State.f_setF_field _ _ (by decide) (by decide) (.inr (by decide))]

theorem State.setPairState_cplq (p st stall : Nat) {h : HeldCpl} (hh : h ∈ (s.setPairState p st stall).cplq) :
    h ∈ s.cplq ∨ h.event = true := by
  unfold State.setPairState at hh
  rcases State.event_cplq _ _ _ _ _ hh with hold | hev
  · split at hold
    · rw [State.setGlb_cplq] at hold
      exact .inl hold
    · exact .inl hold
  · exact .inr hev

theorem State.setPairState_signalOnly (p st stall : Nat) :
    ((s.setF (R.RING_STATUS p) F.RING_STATUS_STATE st).setF (R.RING_STATUS p) F.RING_STATUS_STALL stall).SignalOnly
      (s.setPairState p st stall) := by
  unfold State.setPairState
  exact State.SignalOnly.event (State.SignalOnly.ite (State.SignalOnly.refl _).setGlb (State.SignalOnly.refl _))

theorem State.setPairState_srcs (p st stall : Nat) : (s.setPairState p st stall).srcs = s.srcs := by
  rw [(s.setPairState_signalOnly p st stall).1]
  rfl

end

/-! Enable and disable (R272, R273). -/

theorem ringCfg_ne_ringStatus (q : Nat) : R.RING_CFG q ≠ R.RING_STATUS q := by
  simp only [R.RING_CFG, R.RING_STATUS]
  omega

theorem accMask_ringCfg (q : Fin 32) : accMask (R.RING_CFG q) [.rw, .hw] = 0x011F1F7F#32 := by
  have hall : ∀ q : Fin 32, accMask (R.RING_CFG q) [.rw, .hw] = 0x011F1F7F#32 := by decide +kernel
  exact hall q

section
variable (s : State)

/-- The registers that the set-up of a pair reads are not its RING_CFG. -/
theorem State.loadReg_ringValid (p : Nat) (v w : Word) : (s.loadReg (R.RING_CFG p) v).ringValid p w = s.ringValid p w := by
  have hrd {o : Nat} (ho : o ≠ R.RING_CFG p) : (s.loadReg (R.RING_CFG p) v).rd o = s.rd o := State.rd_wr_other _ _ ho
  have h64 {a b : Nat} (ha : a ≠ R.RING_CFG p) (hb : b ≠ R.RING_CFG p) : (s.loadReg (R.RING_CFG p) v).rd64 a b = s.rd64 a b := by
    rw [State.rd64, State.rdN, State.rdN, hrd ha, hrd hb]
    rfl
  have hcq : (s.loadReg (R.RING_CFG p) v).cqBase p = s.cqBase p := h64 (by simp only [R.RING_CQ_BASE_LO, R.RING_CFG]; omega)
    (by simp only [R.RING_CQ_BASE_HI, R.RING_CFG]; omega)
  have hsq : (s.loadReg (R.RING_CFG p) v).sqBase p = s.sqBase p := h64 (by simp only [R.RING_SQ_BASE_LO, R.RING_CFG]; omega)
    (by simp only [R.RING_SQ_BASE_HI, R.RING_CFG]; omega)
  have hev : (s.loadReg (R.RING_CFG p) v).eventPair = s.eventPair := by
    rw [State.eventPair, State.f, hrd (by simp only [R.EVENT_CFG, R.RING_CFG]; omega)]
    rfl
  have hpoll : (s.loadReg (R.RING_CFG p) v).flag R.HOST_POLL F.HOST_POLL_EN = s.flag R.HOST_POLL F.HOST_POLL_EN := by
    rw [State.flag, State.f, hrd (by simp only [R.HOST_POLL, R.RING_CFG]; omega)]
    rfl
  rw [State.ringValid, hcq, hsq, hev, hpoll]
  rfl

/-- A word that enables a pair has its EN set when it is loaded. -/
theorem State.loadReg_pairEn (q : Fin 32) {v : Word} (hv : getBits v 0 1 = 1) : (s.loadReg (R.RING_CFG q) v).pairEn q = true := by
  have hbit : getBits (s.rd (R.RING_CFG q) &&& ~~~0x011F1F7F#32 ||| v &&& 0x011F1F7F#32) 0 1 = getBits v 0 1 :=
    getBits_masked_in (by decide) (by decide)
  rw [State.pairEn, State.flag_iff, State.f, State.loadReg, State.rd_wr_same, accMask_ringCfg]
  exact (hbit.trans hv).trans_ne Nat.one_ne_zero

theorem State.pairOff_leaves (p : Nat) : (s.pairOff p).pairState p = ringDraining ∧ (s.pairOff p).pairEn p = false ∧
    (s.pairOff p).fetched p = 0 ∧ s.sameRegs (s.pairOff p) ([R.RING_CFG p, R.RING_STATUS p] ++ eventRegs) := by
  have hset := State.setPairState_sameRegs ((s.setF (R.RING_CFG p) F.RING_CFG_EN 0).dropFetched p) p ringDraining 0
  refine ⟨State.setPairState_pairState _ _ _ _ (by decide), ?_, ?_, ?_⟩
  · have hout : R.RING_CFG p ∉ R.RING_STATUS p :: eventRegs := List.not_mem_cons_of_ne_of_not_mem
      (ringCfg_ne_ringStatus p) (pairReg_not_event p (by decide))
    have hclear : (s.setF (R.RING_CFG p) F.RING_CFG_EN 0).flag (R.RING_CFG p) F.RING_CFG_EN = false :=
      s.flag_setF_zero (R.RING_CFG p) (by decide)
    exact (hset.flag _ hout F.RING_CFG_EN).trans hclear
  · rw [State.fetched, State.srcRt, State.pairOff, State.setPairState_srcs]
    exact congrArg (fun r : SrcRt => r.waiting.length) (State.srcRt_setSrc _ p {})
  · have hcfg := (s.sameRegs_refl (R.RING_CFG p :: R.RING_STATUS p :: eventRegs)).setF List.mem_cons_self F.RING_CFG_EN 0
    exact State.sameRegs.trans (t := (s.setF (R.RING_CFG p) F.RING_CFG_EN 0).dropFetched p) hcfg (hset.mono (List.subset_cons_self _ _))

/-- A pair enabled: zero indexes, phase 1 and nothing fetched. -/
theorem State.pairOn_leaves (p : Nat) : (s.pairOn p).pairState p = ringActive ∧ (s.pairOn p).pairEn p = s.pairEn p ∧
    (s.pairOn p).rd (R.RING_SQ_PTR p) = 0#32 ∧ (s.pairOn p).rd (R.RING_CQ_PTR p) = 0#32 ∧
    (s.pairOn p).f (R.RING_STATUS p) F.RING_STATUS_PHASE = 1 ∧ (s.pairOn p).fetched p = 0 ∧
    s.sameRegs (s.pairOn p) ([R.RING_STATUS p, R.RING_SQ_PTR p, R.RING_CQ_PTR p] ++ eventRegs) := by
  let z := ((s.wrN (R.RING_SQ_PTR p) 0).wrN (R.RING_CQ_PTR p) 0).setF (R.RING_STATUS p) F.RING_STATUS_PHASE 1
  let w := (z.setPair p { pendAt := (z.pair p).pendAt, slotAt := (z.pair p).slotAt }).setSrc p {}
  have hset := w.setPairState_sameRegs p ringActive 0
  have hne : R.RING_SQ_PTR p ≠ R.RING_STATUS p ∧ R.RING_CQ_PTR p ≠ R.RING_STATUS p ∧ R.RING_SQ_PTR p ≠ R.RING_CQ_PTR p ∧
      R.RING_CFG p ≠ R.RING_SQ_PTR p ∧ R.RING_CFG p ≠ R.RING_CQ_PTR p := by
    simp only [R.RING_SQ_PTR, R.RING_CQ_PTR, R.RING_STATUS, R.RING_CFG]
    omega
  obtain ⟨hsq, hcq, hsc, hcs, hcc⟩ := hne
  have hz : s.sameRegs w (R.RING_STATUS p :: R.RING_SQ_PTR p :: R.RING_CQ_PTR p :: eventRegs) :=
    (((s.sameRegs_refl _).wrN (List.mem_cons_of_mem _ List.mem_cons_self) 0).wrN
      (List.mem_cons_of_mem _ (List.mem_cons_of_mem _ List.mem_cons_self)) 0).setF List.mem_cons_self _ _
  have hall := hz.trans (hset.mono (List.cons_subset_cons _ fun _ h => List.mem_cons_of_mem _ (List.mem_cons_of_mem _ h)))
  refine ⟨w.setPairState_pairState _ _ _ (by decide), ?_, ?_, ?_, ?_, ?_, hall⟩
  · exact hall.flag _ (List.not_mem_cons_of_ne_of_not_mem (ringCfg_ne_ringStatus p) (List.not_mem_cons_of_ne_of_not_mem hcs
      (List.not_mem_cons_of_ne_of_not_mem hcc (pairReg_not_event p (by decide))))) F.RING_CFG_EN
  · have hrd : w.rd (R.RING_SQ_PTR p) = 0#32 := by
      show z.rd (R.RING_SQ_PTR p) = 0#32
      rw [State.rd_setF_other _ _ _ hsq, State.rd_wrN_other _ _ hsc, State.rd_wrN_same]
    exact (hset _ (List.not_mem_cons_of_ne_of_not_mem hsq (pairReg_not_event p (by decide)))).trans hrd
  · have hrd : w.rd (R.RING_CQ_PTR p) = 0#32 := by
      show z.rd (R.RING_CQ_PTR p) = 0#32
      rw [State.rd_setF_other _ _ _ hcq, State.rd_wrN_same]
    exact (hset _ (List.not_mem_cons_of_ne_of_not_mem hcq (pairReg_not_event p (by decide)))).trans hrd
  · have hone : z.f (R.RING_STATUS p) F.RING_STATUS_PHASE = 1 := by rw [State.f_setF_same _ _ _ _ (by decide)]; rfl
    exact (w.setPairState_phase p ringActive 0).trans hone
  · rw [State.fetched, State.srcRt, State.pairOn, State.setPairState_srcs]
    exact congrArg (fun r : SrcRt => r.waiting.length) (State.srcRt_setSrc _ p {})

/-! A pair that has drained (R311). -/

theorem State.dropHeld_cplq (p : Nat) : (s.dropHeld p).cplq = s.cplq.filter (fun h => h.src != p) := by
  unfold State.dropHeld
  dsimp only
  split
  · rfl
  · split
    · exact State.setGlb_cplq _ 2
    · exact State.setGlb_cplq _ 2

/-- The completions among the entries of a pair are those that are not events. -/
theorem length_filter_and_not {α : Type} (l : List α) (a b : α → Bool) :
    (l.filter fun x => a x && !b x).length = (l.filter a).length - ((l.filter a).filter b).length := by
  induction l with
  | nil => rfl
  | cons x l ih =>
    have hle := List.length_filter_le b (l.filter a)
    by_cases ha : a x = true <;> by_cases hb : b x = true <;> simp only [List.filter_cons, ha, hb, ih, Bool.and_self, Bool.not_true,
      Bool.not_false, Bool.and_false, Bool.and_true, if_true, if_false, Bool.false_eq_true, List.length_cons] <;> omega

theorem State.dropHeld_lost (p : Nat) : (s.dropHeld p).f (R.RING_CNT p) F.RING_CNT_LOST =
    min (s.f (R.RING_CNT p) F.RING_CNT_LOST + (s.cplq.filter fun h => h.src == p && !h.event).length) 65535 := by
  have hout : R.RING_CNT p ∉ eventRegs := pairReg_not_event p (by decide)
  have hglb : R.RING_CNT p ∉ [R.HOST_GLB_STATUS] := fun h => hout ((by decide : [R.HOST_GLB_STATUS] ⊆ eventRegs) h)
  have hev : R.RING_CNT p ≠ R.EVENT_STATUS := by simp only [R.RING_CNT, R.EVENT_STATUS]; omega
  have hbump (t : State) (k : Nat) (h : t.rd (R.RING_CNT p) = s.rd (R.RING_CNT p)) :
      (t.bump (R.RING_CNT p) F.RING_CNT_LOST k).f (R.RING_CNT p) F.RING_CNT_LOST =
        min (s.f (R.RING_CNT p) F.RING_CNT_LOST + k) 65535 := by
    rw [State.f_bump_same _ _ _ _ (by decide), State.f, h, State.f]
    rfl
  rw [length_filter_and_not]
  unfold State.dropHeld
  dsimp only
  split
  · exact hbump _ _ rfl
  · split
    · rw [(State.setGlb_sameRegs _ 2).f _ hglb, State.f_bump_reg _ _ _ _ hev]
      exact hbump _ _ rfl
    · rw [State.raise_f_of, (State.setGlb_sameRegs _ 2).f _ hglb, State.f_bump_reg _ _ _ _ hev]
      exact hbump _ _ rfl

/-- Streams that stop change their own registers alone. -/
theorem State.dropStreams_rd (p : Nat) {o : Nat} (ho : ∀ g, o ≠ R.GLN_STATUS g) : (s.dropStreams p).rd o = s.rd o := by
  refine State.each_keeps (f := fun t => t.rd o) (fun g t => ?_) _ s
  dsimp only
  split
  · rw [State.rd_setF_other _ _ _ (ho g), State.rd_setF_other _ _ _ (ho g), State.rd_setF_other _ _ _ (ho g)]
    rfl
  · rfl

theorem State.dropStreams_cplq (p : Nat) : (s.dropStreams p).cplq = s.cplq := by
  refine State.each_keeps (f := State.cplq) (fun g t => ?_) _ s
  dsimp only
  split <;> rfl

/-- A pair that has drained: disabled, nothing of it held but records of events, its completions counted. -/
theorem State.pairDisabled_leaves (p : Nat) : (s.pairDisabled p).pairState p = ringDisabled ∧
    (∀ h ∈ (s.pairDisabled p).cplq, h.src = p → h.event = true) ∧
    (s.pairDisabled p).f (R.RING_CNT p) F.RING_CNT_LOST =
      min (s.f (R.RING_CNT p) F.RING_CNT_LOST + (s.cplq.filter fun h => h.src == p && !h.event).length) 65535 := by
  refine ⟨State.setPairState_pairState _ _ _ _ (by decide), fun h hh hsrc => ?_, ?_⟩
  · rcases State.setPairState_cplq _ _ _ _ hh with hold | hev
    · rw [State.dropStreams_cplq, State.dropHeld_cplq, List.mem_filter, hsrc, bne_self_eq_false] at hold
      exact absurd hold.2 (by decide)
    · exact hev
  · have hout : R.RING_CNT p ∉ R.RING_STATUS p :: eventRegs := List.not_mem_cons_of_ne_of_not_mem
      (by simp only [R.RING_CNT, R.RING_STATUS]; omega) (pairReg_not_event p (by decide))
    have hgln (g : Nat) : R.RING_CNT p ≠ R.GLN_STATUS g := by simp only [R.RING_CNT, R.GLN_STATUS]; omega
    rw [State.pairDisabled, (State.setPairState_sameRegs _ _ _ _).f _ hout, State.f, State.dropStreams_rd _ _ hgln]
    exact s.dropHeld_lost p

end

/-! The obligation. -/

section
variable {s : State} {p : Path} {q : Fin 32}

theorem exec_ringEnable (hl : s.live) (hlater : s.laterWrote p (R.RING_CFG q) = false) (v : Word) : exec (.ringEnable p q v) s =
    .next ((s.noteEvent (20 + pathRank p) (R.RING_CFG q)).writeRingCfg q (putBits v 0 1 1)).settle := by
  rw [exec_powered (c := .ringEnable p q v) (g := fun s => s.inOrder p (R.RING_CFG q) (s.rd (R.RING_CFG q)) (putBits v F.RING_CFG_EN.lo 1 1)
    fun v s => s.writeRingCfg q v) hl rfl, State.inOrder_of_last hlater]
  rfl

theorem exec_ringDisable (hl : s.live) (hlater : s.laterWrote p (R.RING_CFG q) = false) : exec (.ringDisable p q) s =
    .next ((s.noteEvent (20 + pathRank p) (R.RING_CFG q)).writeRingCfg q (putBits (s.rd (R.RING_CFG q)) 0 1 0)).settle := by
  rw [exec_powered (c := .ringDisable p q) (g := fun s => s.inOrder p (R.RING_CFG q) (s.rd (R.RING_CFG q))
    (putBits (s.rd (R.RING_CFG q)) F.RING_CFG_EN.lo 1 0) fun v s => s.writeRingCfg q v) hl rfl, State.inOrder_of_last hlater]
  rfl

theorem getBits_putBits_en (v : Word) (b : Nat) : getBits (putBits v 0 1 b) F.RING_CFG_EN.lo 1 = b % 2 :=
  getBits_putBits_same v b (by decide)

end

section
variable (s : State) {q : Fin 32} {v : Word}

/-- What a write of EN = 1 does, by the state of the pair and the set-up. -/
theorem State.writeRingCfg_on (hst : s.pairState q = ringDisabled) (hv : getBits v F.RING_CFG_EN.lo 1 = 1) : s.writeRingCfg q v =
    (if s.ringValid q v then (s.loadReg (R.RING_CFG q) v).pairOn q
      else ((s.loadReg (R.RING_CFG q) v).setF (R.RING_CFG q) F.RING_CFG_EN 0).hwSet (R.RING_STATUS q) F.RING_STATUS_CFG_ERR 1) := by
  rw [State.writeRingCfg, hst, hv]
  dsimp only
  rw [if_neg (by decide), if_neg (by decide), State.loadReg_ringValid]
  rfl

theorem State.writeRingCfg_refused (hst : s.pairState q ≠ ringDisabled) (hv : getBits v F.RING_CFG_EN.lo 1 = 1) :
    s.writeRingCfg q v = s.pairRefuse q := by
  have hlt : s.pairState q < 4 := s.f_lt _ F.RING_STATUS_STATE (by decide)
  have hcase : s.pairState q = ringActive ∨ s.pairState q = ringStalled ∨ s.pairState q = ringDraining := by
    simp only [ringDisabled, ringActive, ringStalled, ringDraining] at hst ⊢
    omega
  rw [State.writeRingCfg, hv]
  rcases hcase with h | h | h <;> rw [h] <;> rfl

theorem State.writeRingCfg_off (hst : s.pairState q = ringActive ∨ s.pairState q = ringStalled) (hv : getBits v F.RING_CFG_EN.lo 1 = 0) :
    s.writeRingCfg q v = s.pairOff q := by
  rw [State.writeRingCfg, hv]
  exact if_pos hst

end

/-- Settles O43: a pair is enabled, refused, disabled, drained and resumed. -/
theorem ringPairsFollowTheirStates : Obligations.RingPairsFollowTheirStates := by
  intro s p q v hl
  dsimp only
  have hen : getBits (putBits v 0 1 1) F.RING_CFG_EN.lo 1 = 1 := getBits_putBits_en v 1
  have hne := ringCfg_ne_ringStatus q
  obtain ⟨w, hw⟩ : ∃ w, w = s.noteEvent (20 + pathRank p) (R.RING_CFG q) := ⟨_, rfl⟩
  have hvalid : w.ringValid q (putBits v 0 1 1) = s.ringValid q (putBits v 0 1 1) := by rw [hw]; rfl
  have hstate : w.pairState q = s.pairState q := by rw [hw]; rfl
  have hsame : ∀ l, s.sameRegs w l := fun l => by rw [hw]; exact fun _ _ => rfl
  have hquiet : ∀ l, s.onlyRegs w l [] := fun l => by rw [hw]; exact (State.onlyRegs_refl hl.2 _).noteEvent _ _
  refine ⟨fun hlater hst hok => ?_, fun hlater hst hbad => ?_, fun hlater hst => ?_, fun hlater hst => ?_, fun hst => ?_,
    fun hst hheld hlocal => ?_⟩
  · have hexec := exec_ringEnable hl hlater v
    rw [← hw, w.writeRingCfg_on (hstate.trans hst) hen, if_pos (hvalid.trans hok)] at hexec
    obtain ⟨hact, hkeep, hsq, hcq, hphase, hf, hregs⟩ := (w.loadReg (R.RING_CFG q) (putBits v 0 1 1)).pairOn_leaves q
    refine ⟨_, hexec, hact, hkeep.trans (State.loadReg_pairEn _ q hen), hsq, hcq, hphase, hf, ?_⟩
    have hload : s.sameRegs (w.loadReg (R.RING_CFG q) (putBits v 0 1 1)) (R.RING_CFG q :: R.RING_STATUS q :: R.RING_SQ_PTR q ::
      R.RING_CQ_PTR q :: eventRegs) := (hsame _).wr List.mem_cons_self _
    exact hload.trans (hregs.mono (List.subset_cons_self _ _))
  · have hexec := exec_ringEnable hl hlater v
    have hload : s.onlyRegs (w.loadReg (R.RING_CFG q) (putBits v 0 1 1)) [R.RING_CFG q, R.RING_STATUS q] [] :=
      (hquiet _).wr List.mem_cons_self _
    have honly := (hload.setF List.mem_cons_self F.RING_CFG_EN 0).hwSet (List.mem_cons_of_mem _ List.mem_cons_self) F.RING_STATUS_CFG_ERR 1
    rw [← hw, w.writeRingCfg_on (hstate.trans hst) hen, hvalid, hbad, if_neg Bool.false_ne_true, State.settle_quiet honly.raised] at hexec
    refine ⟨_, hexec, honly, ?_, ?_, State.flag_hwSet_one _ _ (by decide) (by decide)⟩
    · rw [State.pairState, State.f_hwSet_field _ _ (by decide) (by decide) (.inl (by decide)), State.f_setF_reg _ _ _ _ hne.symm, State.f,
        State.loadReg, State.rd_wr_other _ _ hne.symm]
      exact hstate.trans hst
    · rw [State.pairEn, State.flag, State.f_hwSet_reg _ _ _ _ hne, ← State.flag]
      exact State.flag_setF_zero _ _ (by decide)
  · have hexec := exec_ringEnable hl hlater v
    have honly := (hquiet [R.RING_STATUS q]).hwSet List.mem_cons_self F.RING_STATUS_REFUSED 1
    rw [← hw, w.writeRingCfg_refused (hstate.trans_ne hst) hen, State.pairRefuse, State.settle_quiet honly.raised] at hexec
    refine ⟨_, hexec, honly, State.flag_hwSet_one _ _ (by decide) (by decide), ?_⟩
    rw [State.pairState, State.f_hwSet_field _ _ (by decide) (by decide) (.inl (by decide))]
    exact hstate
  · have hexec := exec_ringDisable hl hlater
    rw [← hw, w.writeRingCfg_off (hstate ▸ hst) (getBits_putBits_en _ 0)] at hexec
    obtain ⟨hdrain, hoff, hf, hregs⟩ := w.pairOff_leaves q
    exact ⟨_, hexec, hdrain, hoff, hf, (hsame _).trans hregs⟩
  · have hexec := exec_powered (c := .ringDrainDone q) (g := fun s => if s.pairState q = ringDraining then s.pairDisabled q else s) hl rfl
    rw [if_pos hst] at hexec
    exact ⟨_, hexec, s.pairDisabled_leaves q⟩
  · have hexec := exec_powered (c := .resume p q) (g := fun s => s.resumePair q) hl rfl
    have hregs := s.setPairState_sameRegs q ringActive 0
    have hcfg : R.RING_CFG q ∉ R.RING_STATUS q :: eventRegs := List.not_mem_cons_of_ne_of_not_mem
      hne (pairReg_not_event q (by decide))
    have hlocal' : (s.setPairState q ringActive 0).pairLocal q = false := (hregs.flag _ hcfg F.RING_CFG_LOCAL).trans hlocal
    rw [State.resumePair, if_pos ⟨hst, by rw [hheld]; decide⟩, State.seeLocal, hlocal', if_neg Bool.false_ne_true] at hexec
    exact ⟨_, hexec, s.setPairState_pairState _ _ _ (by decide), hregs⟩

end Sys2Proof.Machine
end

section
/-! The local ring window, read after it is written; completions leave the block and interrupts fire (R102, R269, R281, R284, R311). -/

namespace Sys2Proof.Machine

/-! The window. -/

/-- `t` differs from `s` in the window, and in HRW_INJECT, which a write of the window may fire (R384). -/
def State.WinOnly (s t : State) : Prop :=
  t = { s with localWin := t.localWin, regs := t.regs, cycle := t.cycle } ∧ s.sameRegs t [R.HRW_INJECT]

theorem State.WinOnly.refl (s : State) : s.WinOnly s := ⟨rfl, s.sameRegs_refl _⟩

theorem State.WinOnly.trans {s t u : State} (h : s.WinOnly t) (h' : t.WinOnly u) : s.WinOnly u :=
  ⟨by rw [h'.1, h.1], h.2.trans h'.2⟩

theorem State.winSet_winOnly (s : State) (a : Nat) (b : Byte) : s.WinOnly (s.winSet a b) := by
  let t : State := { s with localWin := tabSet winDefault s.localWin a b }
  have ht : s.sameRegs t [R.HRW_INJECT] := fun _ _ => rfl
  rw [State.winSet]
  dsimp only
  split
  · exact ⟨rfl, (ht.setF List.mem_cons_self F.HRW_INJECT_ARMED 0).hwSet List.mem_cons_self F.HRW_INJECT_FIRED 1⟩
  · exact ⟨rfl, ht⟩

theorem State.winWrite_winOnly (bs : List Byte) : ∀ (s : State) (a : Nat), s.WinOnly (s.winWrite a bs) := by
  induction bs with
  | nil => exact fun s _ => State.WinOnly.refl s
  | cons b bs ih =>
    intro s a
    rw [State.winWrite]
    refine State.WinOnly.trans ?_ (ih _ _)
    split
    · exact s.winSet_winOnly a b
    · exact State.WinOnly.refl s

section
variable {s t : State}

theorem State.WinOnly.raised (h : s.WinOnly t) : t.raised = s.raised := by rw [h.1]
theorem State.WinOnly.cplq (h : s.WinOnly t) : t.cplq = s.cplq := by rw [h.1]
theorem State.WinOnly.outbox (h : s.WinOnly t) : t.outbox = s.outbox := by rw [h.1]

theorem State.WinOnly.rd (h : s.WinOnly t) {o : Nat} (ho : o ≠ R.HRW_INJECT) : t.rd o = s.rd o := h.2 o fun hm => ho (List.mem_singleton.1 hm)

theorem State.WinOnly.f (h : s.WinOnly t) {o : Nat} (ho : o ≠ R.HRW_INJECT) (g : Fld) : t.f o g = s.f o g := by
  rw [State.f, h.rd ho, State.f]

theorem State.winGet_of_localWin (h : t.localWin = s.localWin) (a : Nat) : t.winGet a = s.winGet a := by
  rw [State.winGet, h, State.winGet]

theorem State.winRead_congr {a : Nat} : ∀ {n : Nat}, (∀ x, a ≤ x → x < a + n → t.winGet x = s.winGet x) → t.winRead a n = s.winRead a n
  | 0, _ => rfl
  | n + 1, h => by
    have ih : t.winRead (a + 1) n = s.winRead (a + 1) n := State.winRead_congr fun x hx hn => h x (by omega) (by omega)
    rw [State.winRead, State.winRead, h a (Nat.le_refl a) (by omega), ih]

theorem State.winRead_of_localWin (h : t.localWin = s.localWin) (a n : Nat) : t.winRead a n = s.winRead a n :=
  State.winRead_congr fun x _ _ => State.winGet_of_localWin h x

end

/-- What has been written is read back (R269). -/
theorem State.winRead_winWrite_same (bs : List Byte) : ∀ (s : State) (a : Nat), a + bs.length ≤ 0x80000 →
    (s.winWrite a bs).winRead a bs.length = bs := by
  induction bs with
  | nil => exact fun _ _ _ => rfl
  | cons b bs ih =>
    intro s a h
    rw [List.length_cons] at h ⊢
    rw [State.winWrite, if_pos (by omega), State.winRead, ih _ _ (by omega),
      State.winGet_winWrite_other bs _ _ (.inl (Nat.lt_succ_self a)), State.winGet_winSet_same]

/-! Interrupts (R284). -/

section
variable (s : State)

/-- A vector that fires sends a message or sets its pending bit. -/
theorem State.fireVec_frame (v : Nat) : s.fireVec v = { s with msixPend := (s.fireVec v).msixPend, outbox := (s.fireVec v).outbox } := by
  unfold State.fireVec
  split
  · split <;> rfl
  · rfl

theorem State.fireVec_outbox_mem {e : Emit} (v : Nat) (h : e ∈ s.outbox) : e ∈ (s.fireVec v).outbox := by
  unfold State.fireVec
  split
  · split
    · exact h
    · exact List.mem_append_left _ h
  · exact h

theorem State.fireVec_sends {v : Nat} (hmsix : s.flag R.HOST_LINK_STATUS F.HOST_LINK_STATUS_MSIX = true)
    (hmask : s.msixWord (4 * v + 3) &&& 1#32 ≠ 1#32) : (s.fireVec v).outbox = s.outbox ++ [.msix v] := by
  rw [State.fireVec, if_pos hmsix, if_neg hmask]
  rfl

/-- A pair's vector has fired: nothing is pending, its status bit is set, and its message leaves where MSI-X lets it. -/
def State.Fired (s t : State) (q : Nat) : Prop :=
  t.f (R.RING_CNT q) F.RING_CNT_PENDING = 0 ∧ getBits (t.rd R.HOST_IRQ_STATUS) q 1 = 1 ∧
    (s.flag R.HOST_LINK_STATUS F.HOST_LINK_STATUS_MSIX = true → s.msixWord (4 * q + 3) &&& 1#32 ≠ 1#32 → t.outbox = s.outbox ++ [.msix q])

theorem State.firePair_sameRegs (p : Nat) : s.sameRegs (s.firePair p) [R.RING_CNT p, R.HOST_IRQ_STATUS] := by
  have hset := ((s.sameRegs_refl [R.RING_CNT p, R.HOST_IRQ_STATUS]).setF List.mem_cons_self F.RING_CNT_PENDING 0).hwSet
    (List.mem_cons_of_mem _ List.mem_cons_self) ⟨p, 1⟩ 1
  exact hset.trans (State.fireVec_sameRegs _ _ _)

theorem State.firePair_fired (q : Fin 32) : s.Fired (s.firePair q) q := by
  have hcnt : R.RING_CNT q ≠ R.HOST_IRQ_STATUS := by simp only [R.RING_CNT, R.HOST_IRQ_STATUS]; omega
  have hlink : R.HOST_LINK_STATUS ∉ [R.RING_CNT q, R.HOST_IRQ_STATUS] := by
    simp only [List.mem_cons, List.not_mem_nil, or_false, R.RING_CNT, R.HOST_IRQ_STATUS, R.HOST_LINK_STATUS]
    omega
  have hset := ((s.sameRegs_refl [R.RING_CNT q, R.HOST_IRQ_STATUS]).setF List.mem_cons_self F.RING_CNT_PENDING 0).hwSet
    (List.mem_cons_of_mem _ List.mem_cons_self) ⟨q, 1⟩ 1
  refine ⟨?_, ?_, fun hmsix hmask => State.fireVec_sends _ ((hset.flag _ hlink _).trans hmsix) hmask⟩
  · rw [State.firePair, (State.fireVec_sameRegs _ _ []).f _ (List.not_mem_nil), State.f_hwSet_reg _ _ _ _ hcnt,
      State.f_setF_same _ _ _ _ (by decide), Nat.zero_mod]
  · have hone := State.f_hwSet_same (s.setF (R.RING_CNT q) F.RING_CNT_PENDING 0) R.HOST_IRQ_STATUS ⟨q, 1⟩ 1 q.isLt
    rw [State.firePair, State.fireVec_sameRegs _ _ [] _ (List.not_mem_nil)]
    exact hone

theorem State.firePair_frame (p : Nat) : s.firePair p = { s with
    regs := (s.firePair p).regs, cycle := (s.firePair p).cycle, msixPend := (s.firePair p).msixPend, outbox := (s.firePair p).outbox } := by
  rw [State.firePair, State.fireVec_frame]
  rfl

/-- One more completion is pending. -/
def State.pendingNoted (s : State) (p : Nat) : State :=
  (if s.f (R.RING_CNT p) F.RING_CNT_PENDING = 0 then s.setPair p { s.pair p with pendAt := s.cyc } else s).addF (R.RING_CNT p)
    F.RING_CNT_PENDING 1

theorem State.pendingNoted_frame (p : Nat) : s.pendingNoted p = { s with regs := (s.pendingNoted p).regs, pairs := (s.pendingNoted p).pairs } := by
  unfold State.pendingNoted
  split <;> rfl

theorem State.pendingNoted_sameRegs (p : Nat) : s.sameRegs (s.pendingNoted p) [R.RING_CNT p, R.HOST_IRQ_STATUS] := by
  unfold State.pendingNoted
  exact (State.sameRegs.ite (t := s.setPair p { s.pair p with pendAt := s.cyc }) (s.sameRegs_refl _) (s.sameRegs_refl _)).setF
    List.mem_cons_self _ _

/-- A completion counted: the vector fires, or it stays pending. -/
theorem State.countPending_cases (p : Nat) : s.countPending p = (s.pendingNoted p).firePair p ∨ s.countPending p = s.pendingNoted p :=
  ite_eq_or_eq _ _ _

theorem State.countPending_frame (p : Nat) : s.countPending p = { s with
    regs := (s.countPending p).regs, cycle := (s.countPending p).cycle, pairs := (s.countPending p).pairs,
    msixPend := (s.countPending p).msixPend, outbox := (s.countPending p).outbox } := by
  rcases s.countPending_cases p with h | h
  · rw [h, State.firePair_frame, State.pendingNoted_frame]
  · rw [h, State.pendingNoted_frame]

theorem State.countPending_outbox_mem {e : Emit} (p : Nat) (h : e ∈ s.outbox) : e ∈ (s.countPending p).outbox := by
  have hnoted : e ∈ (s.pendingNoted p).outbox := by rwa [State.pendingNoted_frame]
  rcases s.countPending_cases p with heq | heq
  · rw [heq]
    exact State.fireVec_outbox_mem _ _ hnoted
  · rwa [heq]

theorem State.countPending_sameRegs (p : Nat) : s.sameRegs (s.countPending p) [R.RING_CNT p, R.HOST_IRQ_STATUS] := by
  rcases s.countPending_cases p with h | h
  · rw [h]
    exact (s.pendingNoted_sameRegs p).trans (State.firePair_sameRegs _ p)
  · rw [h]
    exact s.pendingNoted_sameRegs p

/-! A completion is written (R281). -/

theorem State.advanceCq_frame (p : Nat) : s.advanceCq p = { s with regs := (s.advanceCq p).regs } := by
  unfold State.advanceCq
  dsimp only
  split <;> rfl

/-- The tail that follows the present one. -/
theorem State.advanceCq_cqTail (p : Nat) : (s.advanceCq p).cqTail p = (s.cqTail p + 1) % s.cqSize p % 65536 := by
  have hne : R.RING_CQ_PTR p ≠ R.RING_STATUS p := by simp only [R.RING_CQ_PTR, R.RING_STATUS]; omega
  have hset (v : Nat) : (s.setF (R.RING_CQ_PTR p) F.RING_CQ_PTR_CQ_TAIL v).f (R.RING_CQ_PTR p) F.RING_CQ_PTR_CQ_TAIL = v % 65536 :=
    State.f_setF_same _ _ _ _ (by decide)
  unfold State.advanceCq State.cqTail
  dsimp only
  split
  · rw [State.f_setF_reg _ _ _ _ hne, hset]
  · exact hset _

theorem State.written_frame (p : Nat) (h : HeldCpl) : s.written p h = { s with
    regs := (s.written p h).regs, cycle := (s.written p h).cycle, pairs := (s.written p h).pairs,
    msixPend := (s.written p h).msixPend, outbox := (s.written p h).outbox } := by
  unfold State.written
  dsimp only
  split
  · rw [State.countPending_frame, State.advanceCq_frame]
  · rw [State.advanceCq_frame]

theorem State.written_cqTail (p : Nat) (h : HeldCpl) : (s.written p h).cqTail p = (s.cqTail p + 1) % s.cqSize p % 65536 := by
  have hout : R.RING_CQ_PTR p ∉ [R.RING_CNT p, R.HOST_IRQ_STATUS] := by
    simp only [List.mem_cons, List.not_mem_nil, or_false, R.RING_CNT, R.HOST_IRQ_STATUS, R.RING_CQ_PTR]
    omega
  unfold State.written
  dsimp only
  split
  · rw [State.cqTail, (State.countPending_sameRegs _ p).f _ hout]
    exact s.advanceCq_cqTail p
  · exact s.advanceCq_cqTail p

theorem State.written_outbox_mem {e : Emit} (p : Nat) (h : HeldCpl) (he : e ∈ s.outbox) : e ∈ (s.written p h).outbox := by
  have hadv : e ∈ (s.advanceCq p).outbox := by rwa [State.advanceCq_frame]
  unfold State.written
  dsimp only
  split
  · exact State.countPending_outbox_mem _ _ hadv
  · exact hadv

theorem State.written_cplq (p : Nat) (h : HeldCpl) : (s.written p h).cplq = s.cplq := by rw [State.written_frame]
theorem State.written_raised (p : Nat) (h : HeldCpl) : (s.written p h).raised = s.raised := by rw [State.written_frame]
theorem State.written_localWin (p : Nat) (h : HeldCpl) : (s.written p h).localWin = s.localWin := by rw [State.written_frame]

end

/-- The queue without the entry that leaves it. -/
def State.queueLeft (s : State) (rest : List HeldCpl) : State := { s with cplq := rest }

section
variable {s : State} {q : Fin 32} {h : HeldCpl} {rest : List HeldCpl}

theorem State.drainPair_local (hdrain : s.canDrain q = true) (htake : takeHeld q s.cplq = some (h, rest)) (hloc : s.pairLocal q = true) :
    s.drainPair q = ((s.queueLeft rest).winWrite (s.cqBase q + 32 * s.cqTail q)
      (phased h.bytes (s.f (R.RING_STATUS q) F.RING_STATUS_PHASE))).written q h := by
  rw [State.drainPair, if_pos hdrain, htake]
  dsimp only
  rw [if_pos hloc]
  rfl

theorem State.drainPair_host {x : Nat} (hdrain : s.canDrain q = true) (htake : takeHeld q s.cplq = some (h, rest))
    (hloc : s.pairLocal q = false) (hx : s.translate (s.cqBase q + 32 * s.cqTail q) true = .host x) :
    s.drainPair q = ((s.queueLeft rest).emit (.dmaWrite x
      (phased h.bytes (s.f (R.RING_STATUS q) F.RING_STATUS_PHASE)))).written q h := by
  have hx' : s.translate (s.cqBase q + 32 * s.f (R.RING_CQ_PTR q) F.RING_CQ_PTR_CQ_TAIL) true = .host x := hx
  rw [State.drainPair, if_pos hdrain, htake]
  dsimp only
  rw [hloc, if_neg Bool.false_ne_true, hx']
  rfl

end

/-! A CAN port sends its queue (R102). -/

section
variable {s : State} {n : Fin 2} {b : List Byte} {l : List (List Byte)}

/-- The frame that carries an entry of the port's queue. -/
def State.orderFrame (s : State) (n : Nat) (b : List Byte) : Emit :=
  .canTx n ⟨s.f (R.DRILL_CAN_TXID n) F.DRILL_CAN_TXID_ID, s.flag (R.DRILL_CAN_TXID n) F.DRILL_CAN_TXID_IDE, true, b⟩
    (s.flag (R.CAN_CFG n) F.CAN_CFG_BRS)

theorem State.drainCan_leaves (hq : (s.can n).txq = b :: l) (hfd : s.canFd n = true) : s.sameRegs (s.drainCan n) [] ∧
    (s.drainCan n).outbox = s.outbox ++ [s.orderFrame n b] ∧ (s.drainCan n).raised = s.raised ∧
    (takeHeld (32 + n.val) s.cplq = none → ((s.drainCan n).can n).txq = l) := by
  rw [State.drainCan, hq]
  dsimp only
  rw [hfd, Bool.not_true, if_neg Bool.false_ne_true, State.emit_cplq]
  cases htake : takeHeld (32 + n.val) s.cplq with
  | none =>
    refine ⟨fun _ _ => rfl, rfl, rfl, fun _ => ?_⟩
    rw [State.can_setCan]
  | some x => exact ⟨fun _ _ => rfl, rfl, rfl, nofun⟩

end

/-! A completion without room (R311). -/

section
variable {s : State} (h : s.raised = [])
include h

theorem State.discardCpl_leaves (q : Nat) (e : List Byte) :
    s.onlyRegs (s.discardCpl q e) [R.RING_CNT q, R.CPLQ_STATUS]
      [faultOf 0x97 0 ([BitVec.ofNat 8 q, 0#8, 0#8, 0#8] ++ slice (padTo 32 e) 0 8)] ∧
    (s.discardCpl q e).f (R.RING_CNT q) F.RING_CNT_LOST = min (s.f (R.RING_CNT q) F.RING_CNT_LOST + 1) 65535 := by
  have hne : R.RING_CNT q ≠ R.CPLQ_STATUS := by simp only [R.RING_CNT, R.CPLQ_STATUS]; omega
  refine ⟨(((State.onlyRegs_refl h _).bump List.mem_cons_self _ _).bump (List.mem_cons_of_mem _ List.mem_cons_self) _ _).raise _ _ _, ?_⟩
  rw [State.discardCpl, State.raise_f_of, State.f_bump_reg _ _ _ _ hne, State.f_bump_same _ _ _ _ (by decide)]
  rfl

theorem State.discardCan_leaves (n : Nat) (e : List Byte) :
    s.onlyRegs (s.discardCan n e) [R.DRILL_CAN_STAT n, R.CPLQ_STATUS]
      [faultOf 0x97 0 ([BitVec.ofNat 8 (0x80 + n), 0#8, 0#8, 0#8] ++ slice (padTo 32 e) 0 8)] ∧
    (s.discardCan n e).f (R.DRILL_CAN_STAT n) F.DRILL_CAN_STAT_DROPPED =
      min (s.f (R.DRILL_CAN_STAT n) F.DRILL_CAN_STAT_DROPPED + 1) 65535 := by
  have hne : R.DRILL_CAN_STAT n ≠ R.CPLQ_STATUS := by simp only [R.DRILL_CAN_STAT, R.CPLQ_STATUS]; omega
  refine ⟨(((State.onlyRegs_refl h _).bump List.mem_cons_self _ _).bump (List.mem_cons_of_mem _ List.mem_cons_self) _ _).raise _ _ _, ?_⟩
  rw [State.discardCan, State.raise_f_of, State.f_bump_reg _ _ _ _ hne, State.f_bump_same _ _ _ _ (by decide)]
  rfl

end

/-! The moderation register (R284). -/

theorem accMask_ringImod (q : Fin 32) : accMask (R.RING_IMOD q) [.rw, .hw] = 0x83FF00FF#32 := by
  have hall : ∀ q : Fin 32, accMask (R.RING_IMOD q) [.rw, .hw] = 0x83FF00FF#32 := by decide +kernel
  exact hall q

section
variable (s : State) (q : Fin 32) (v : Word)

theorem State.loadReg_imodMask : (s.loadReg (R.RING_IMOD q) v).f (R.RING_IMOD q) F.RING_IMOD_MASK = getBits v 31 1 := by
  have hbit : getBits (s.rd (R.RING_IMOD q) &&& ~~~0x83FF00FF#32 ||| v &&& 0x83FF00FF#32) 31 1 = getBits v 31 1 :=
    getBits_masked_in (by decide) (by decide)
  rw [State.f, State.loadReg, State.rd_wr_same, accMask_ringImod]
  exact hbit

theorem State.writeImod_masked (hv : getBits v 31 1 = 1) : s.writeImod q v = s.loadReg (R.RING_IMOD q) v ∧
    (s.writeImod q v).flag (R.RING_IMOD q) F.RING_IMOD_MASK = true := by
  have hmask : (s.loadReg (R.RING_IMOD q) v).flag (R.RING_IMOD q) F.RING_IMOD_MASK = true :=
    State.flag_of_f ((s.loadReg_imodMask q v).trans hv)
  have heq : s.writeImod q v = s.loadReg (R.RING_IMOD q) v := if_pos (.inl hmask)
  exact ⟨heq, heq.symm ▸ hmask⟩

theorem State.writeImod_unmasked (hmask : s.flag (R.RING_IMOD q) F.RING_IMOD_MASK = true) (hv : getBits v 31 1 = 0)
    (hpend : s.f (R.RING_CNT q) F.RING_CNT_PENDING ≠ 0) : s.writeImod q v = (s.loadReg (R.RING_IMOD q) v).firePair q := by
  have hne : R.RING_CNT q ≠ R.RING_IMOD q := by simp only [R.RING_CNT, R.RING_IMOD]; omega
  have hoff : ¬ (s.loadReg (R.RING_IMOD q) v).flag (R.RING_IMOD q) F.RING_IMOD_MASK = true := by
    rw [State.flag_iff, not_not]
    exact (s.loadReg_imodMask q v).trans hv
  have hcnt : (s.loadReg (R.RING_IMOD q) v).f (R.RING_CNT q) F.RING_CNT_PENDING ≠ 0 := by
    rw [State.f, State.loadReg, State.rd_wr_other _ _ hne]
    exact hpend
  exact (if_neg (not_or.2 ⟨hoff, hcnt⟩)).trans (if_pos (.inl hmask))

end

/-! The obligation. -/

/-- Settles O45: a completion leaves or is lost, and a vector fires. -/
theorem completionsLeaveAndVectorsFire : Obligations.CompletionsLeaveAndVectorsFire := by
  intro s p q v hl
  dsimp only
  refine ⟨fun h rest hdrain htake => ⟨fun hloc hin => ?_, fun x hloc hx => ?_⟩, fun n b l hq hfd => ?_, fun e hst hroom => ?_,
    fun n e hfull hroom => ?_, fun hus hmask hpend hat => ?_, fun hlater hmask hv hpend => ?_, fun hlater hv => ?_⟩
  · have hwin := State.winWrite_winOnly (phased h.bytes (s.f (R.RING_STATUS q) F.RING_STATUS_PHASE)) (s.queueLeft rest)
      (s.cqBase q + 32 * s.cqTail q)
    have hread := State.winRead_winWrite_same (phased h.bytes (s.f (R.RING_STATUS q) F.RING_STATUS_PHASE)) (s.queueLeft rest)
      (s.cqBase q + 32 * s.cqTail q) hin
    have hptr : R.RING_CQ_PTR q ≠ R.HRW_INJECT := by simp only [R.RING_CQ_PTR, R.HRW_INJECT]; omega
    have hcfg : R.RING_CFG q ≠ R.HRW_INJECT := by simp only [R.RING_CFG, R.HRW_INJECT]; omega
    have hexec := exec_powered (c := .completionDrain (.ring q)) (g := fun s => s.drainPair q) hl rfl
    rw [State.drainPair_local hdrain htake hloc] at hexec
    generalize (s.queueLeft rest).winWrite (s.cqBase q + 32 * s.cqTail q)
      (phased h.bytes (s.f (R.RING_STATUS q) F.RING_STATUS_PHASE)) = w at hwin hread hexec
    have hsize : w.cqSize q = s.cqSize q := congrArg (2 ^ ·) (hwin.f hcfg F.RING_CFG_CQ_LOG2)
    have htail : w.cqTail q = s.cqTail q := hwin.f hptr F.RING_CQ_PTR_CQ_TAIL
    rw [State.settle_quiet ((w.written_raised q h).trans (hwin.raised.trans hl.2))] at hexec
    refine ⟨_, hexec, ⟨(w.written_cplq q h).trans hwin.cplq, ?_⟩, (State.winRead_of_localWin (w.written_localWin q h) _ _).trans hread⟩
    rw [State.written_cqTail, htail, hsize]
  · have hexec := exec_powered (c := .completionDrain (.ring q)) (g := fun s => s.drainPair q) hl rfl
    have hquiet := (State.written_raised ((s.queueLeft rest).emit (.dmaWrite x
      (phased h.bytes (s.f (R.RING_STATUS q) F.RING_STATUS_PHASE)))) q h).trans hl.2
    rw [State.drainPair_host hdrain htake hloc hx, State.settle_quiet hquiet] at hexec
    exact ⟨_, hexec, ⟨State.written_cplq _ q h, State.written_cqTail _ q h⟩,
      State.written_outbox_mem _ q h (List.mem_append_right _ List.mem_cons_self)⟩
  · obtain ⟨hregs, hout, hraised, htxq⟩ := State.drainCan_leaves hq hfd
    exact ⟨_, exec_powered_quiet (c := .completionDrain (.can n)) (g := fun s => s.drainCan n) hl rfl (hraised.trans hl.2), hregs, hout, htxq⟩
  · have hexec := exec_powered (c := .completionDiscard (.ring q) e)
      (g := fun s => if s.pairState q = ringDisabled ∨ s.cplRoom q then s else s.discardCpl q e) hl rfl
    rw [if_neg (by rw [hroom]; exact not_or.2 ⟨hst, Bool.false_ne_true⟩)] at hexec
    exact ⟨_, hexec, State.discardCpl_leaves hl.2 q e⟩
  · have hexec := exec_powered (c := .completionDiscard (.can n) e)
      (g := fun s => if (s.can n).txq.length < 32 ∨ s.cplRoom (32 + n) then s else s.discardCan n e) hl rfl
    rw [if_neg (by rw [hroom]; exact not_or.2 ⟨Nat.not_lt.2 hfull, Bool.false_ne_true⟩)] at hexec
    exact ⟨_, hexec, State.discardCan_leaves hl.2 n e⟩
  · have hraised : (s.firePair q).raised = s.raised := by rw [State.firePair, State.fireVec_frame]; rfl
    have hexec := exec_powered (c := .irqModTimerExpiry q)
      (g := fun s => if s.f (R.RING_IMOD q) F.RING_IMOD_MOD_US ≠ 0 ∧ ¬ s.flag (R.RING_IMOD q) F.RING_IMOD_MASK ∧
        s.f (R.RING_CNT q) F.RING_CNT_PENDING ≠ 0 ∧ (s.pair q).pendAt + 200 * s.f (R.RING_IMOD q) F.RING_IMOD_MOD_US ≤ s.cyc
        then s.firePair q else s) hl rfl
    rw [if_pos ⟨hus, by rw [hmask]; decide, hpend, hat⟩, State.settle_quiet (hraised.trans hl.2)] at hexec
    exact ⟨_, hexec, s.firePair_fired q, s.firePair_sameRegs q⟩
  · have hexec := exec_powered (c := .ringImodWrite p q v)
      (g := fun s => s.inOrder p (R.RING_IMOD q) (s.rd (R.RING_IMOD q)) v fun v s => s.writeImod q v) hl rfl
    rw [State.inOrder_of_last hlater] at hexec
    obtain ⟨w, hw⟩ : ∃ w, w = s.noteEvent (20 + pathRank p) (R.RING_IMOD q) := ⟨_, rfl⟩
    have hload : s.onlyRegs (w.loadReg (R.RING_IMOD q) v) [R.RING_IMOD q, R.RING_CNT q, R.HOST_IRQ_STATUS] [] := by
      rw [hw]
      exact ((State.onlyRegs_refl hl.2 _).noteEvent _ _).wr List.mem_cons_self _
    have hfire : (w.loadReg (R.RING_IMOD q) v).Fired ((w.loadReg (R.RING_IMOD q) v).firePair q) q := State.firePair_fired _ q
    have hlink : R.HOST_LINK_STATUS ∉ [R.RING_IMOD q, R.RING_CNT q, R.HOST_IRQ_STATUS] := by
      simp only [List.mem_cons, List.not_mem_nil, or_false, R.RING_CNT, R.RING_IMOD, R.HOST_IRQ_STATUS, R.HOST_LINK_STATUS]
      omega
    have hword : (w.loadReg (R.RING_IMOD q) v).msixWord (4 * q.val + 3) = s.msixWord (4 * q.val + 3) := by rw [hw]; rfl
    have hout : (w.loadReg (R.RING_IMOD q) v).outbox = s.outbox := by rw [hw]; rfl
    have hunmask := w.writeImod_unmasked q v (by rw [hw]; exact hmask) hv (by rw [hw]; exact hpend)
    have hregs := (State.firePair_sameRegs (w.loadReg (R.RING_IMOD q) v) q).mono (List.subset_cons_self (R.RING_IMOD q) _)
    have hkept := hload.2
    have hraised : ((w.loadReg (R.RING_IMOD q) v).firePair q).raised = (w.loadReg (R.RING_IMOD q) v).raised := by
      rw [State.firePair_frame]
    obtain ⟨hcnt, hirq, hsend⟩ := hfire
    rw [← hw, hunmask, State.settle_quiet (hraised.trans hload.raised)] at hexec
    refine ⟨_, hexec, ⟨hcnt, hirq, fun hmsix hword' => ?_⟩, hkept.trans hregs⟩
    exact (hsend ((hkept.flag _ hlink _).trans hmsix) (hword.symm ▸ hword')).trans (by rw [hout])
  · have hexec := exec_powered (c := .ringImodWrite p q v)
      (g := fun s => s.inOrder p (R.RING_IMOD q) (s.rd (R.RING_IMOD q)) v fun v s => s.writeImod q v) hl rfl
    rw [State.inOrder_of_last hlater] at hexec
    obtain ⟨heq, hflag⟩ := State.writeImod_masked (s.noteEvent (20 + pathRank p) (R.RING_IMOD q)) q v hv
    have honly : s.onlyRegs ((s.noteEvent (20 + pathRank p) (R.RING_IMOD q)).writeImod q v) [R.RING_IMOD q] [] := by
      rw [heq]
      exact ((State.onlyRegs_refl hl.2 _).noteEvent _ _).wr List.mem_cons_self _
    rw [State.settle_quiet honly.raised] at hexec
    exact ⟨_, hexec, honly, hflag⟩

end Sys2Proof.Machine
end

section
/-! Doorbells, submission fetches and device slots (R269, R275–R279, R308). -/

namespace Sys2Proof.Machine

theorem leVal_leBytes (n : Nat) : ∀ v : Nat, v < 256 ^ n → leVal (leBytes n v) = v := by
  induction n with
  | zero => exact fun v hv => by rw [Nat.pow_zero, Nat.lt_one_iff] at hv; rw [hv]; rfl
  | succ n ih =>
    intro v hv
    have hq : v / 256 < 256 ^ n := Nat.div_lt_of_lt_mul (by rwa [Nat.pow_succ, Nat.mul_comm] at hv)
    rw [leBytes, leVal, ih _ hq, BitVec.toNat_ofNat]
    exact Nat.mod_add_div v 256

theorem leBytes_length (n : Nat) : ∀ v : Nat, (leBytes n v).length = n := by
  induction n with
  | zero => exact fun _ => rfl
  | succ n ih => exact fun v => by rw [leBytes, List.length_cons, ih]

/-- A loop of which one step alone does something does that step. -/
theorem State.each_only {g : Nat → State → State} {n : Nat} {l : List Nat} (hn : n ∈ l) (hnd : l.Nodup)
    (hidle : ∀ k ≠ n, ∀ u, g k u = u) (s : State) : s.each l g = g n s :=
  State.each_at (P := fun u => u = g n s) (Q := fun u => u = s) hn hnd (fun _ h => h ▸ rfl)
    (fun k hk u => ⟨fun h => (hidle k hk u).trans h, fun h => (hidle k hk u).trans h⟩) rfl

/-! The words of a pair's slot (R275, R279). -/

/-- The registers that decide what a pair makes of its doorbell words. -/
def slotRegs (q : Nat) : List Nat := [R.RING_CFG q, R.RING_STATUS q, R.RING_SQ_PTR q, R.RING_CQ_PTR q]

/-- Those registers are the same in both states. -/
def State.SlotKept (q : Nat) (s t : State) : Prop := ∀ o ∈ slotRegs q, t.rd o = s.rd o

section
variable {q : Nat} {s t u : State}

theorem State.SlotKept.trans (h : State.SlotKept q s t) (h' : State.SlotKept q t u) : State.SlotKept q s u := fun o ho =>
  (h' o ho).trans (h o ho)

theorem State.SlotKept.of_sameRegs {l : List Nat} (h : s.sameRegs t l) (hl : ∀ o ∈ slotRegs q, o ∉ l) : State.SlotKept q s t := fun o ho =>
  h o (hl o ho)

theorem slotRegs_offset {o : Nat} (h : o ∈ slotRegs q) :
    o = 0x800 + 0x40 * q ∨ o = 0x818 + 0x40 * q ∨ o = 0x81C + 0x40 * q ∨ o = 0x820 + 0x40 * q := by
  simpa only [slotRegs, List.mem_cons, List.not_mem_nil, or_false, R.RING_CFG, R.RING_STATUS, R.RING_SQ_PTR, R.RING_CQ_PTR] using h

theorem State.SlotKept.rd_eq (h : State.SlotKept q s t) : t.rd (R.RING_CFG q) = s.rd (R.RING_CFG q) ∧
    t.rd (R.RING_STATUS q) = s.rd (R.RING_STATUS q) ∧ t.rd (R.RING_SQ_PTR q) = s.rd (R.RING_SQ_PTR q) ∧
    t.rd (R.RING_CQ_PTR q) = s.rd (R.RING_CQ_PTR q) :=
  ⟨h _ (by simp [slotRegs]), h _ (by simp [slotRegs]), h _ (by simp [slotRegs]), h _ (by simp [slotRegs])⟩

theorem State.SlotKept.pairState (h : State.SlotKept q s t) : t.pairState q = s.pairState q := by
  obtain ⟨-, hst, -, -⟩ := h.rd_eq
  rw [State.pairState, State.f, hst, State.pairState, State.f]

theorem State.SlotKept.sqTail (h : State.SlotKept q s t) : t.sqTail q = s.sqTail q := by
  obtain ⟨-, -, hsq, -⟩ := h.rd_eq
  rw [State.sqTail, State.f, hsq, State.sqTail, State.f]

theorem State.SlotKept.sqHead (h : State.SlotKept q s t) : t.sqHead q = s.sqHead q := by
  obtain ⟨-, -, hsq, -⟩ := h.rd_eq
  rw [State.sqHead, State.f, hsq, State.sqHead, State.f]

theorem State.SlotKept.cqHead (h : State.SlotKept q s t) : t.cqHead q = s.cqHead q := by
  obtain ⟨-, -, -, hcq⟩ := h.rd_eq
  rw [State.cqHead, State.f, hcq, State.cqHead, State.f]

theorem State.SlotKept.cqTail (h : State.SlotKept q s t) : t.cqTail q = s.cqTail q := by
  obtain ⟨-, -, -, hcq⟩ := h.rd_eq
  rw [State.cqTail, State.f, hcq, State.cqTail, State.f]

theorem State.SlotKept.sizes (h : State.SlotKept q s t) : t.sqSize q = s.sqSize q ∧ t.cqSize q = s.cqSize q ∧ t.pairType q = s.pairType q ∧
    t.pairLocal q = s.pairLocal q := by
  obtain ⟨hcfg, -, -, -⟩ := h.rd_eq
  simp only [State.sqSize, State.cqSize, State.pairType, State.pairLocal, State.flag, State.f, hcfg, and_self]

theorem State.SlotKept.sqBad (h : State.SlotKept q s t) (w : Nat) : t.sqBad q w = s.sqBad q w := by
  obtain ⟨hsq, -, htype, -⟩ := h.sizes
  rw [State.sqBad, State.sqReady, hsq, htype, h.sqHead, h.sqTail]
  rfl

theorem State.SlotKept.cqBad (h : State.SlotKept q s t) (w : Nat) : t.cqBad q w = s.cqBad q w := by
  obtain ⟨-, hcq, -, -⟩ := h.sizes
  rw [State.cqBad, hcq, h.cqHead, h.cqTail]
  rfl

/-- A write of the window keeps what a pair makes of its words. -/
theorem State.WinOnly.slotKept (h : s.WinOnly t) {q : Nat} (hq : q < 32) : State.SlotKept q s t := State.SlotKept.of_sameRegs h.2 fun o ho hm => by
  have hoff := slotRegs_offset ho
  have hinj : o = R.HRW_INJECT := List.mem_singleton.1 hm
  simp only [R.HRW_INJECT] at hinj
  omega

end

section
variable (s : State) (q : Nat)

/-- The registers that a pair writes when it sees its words. -/
def seenRegs (q : Nat) : List Nat := R.RING_SQ_PTR q :: R.RING_CQ_PTR q :: R.RING_STATUS q :: eventRegs

theorem State.seeTail_sameRegs (w : Nat) : s.sameRegs (s.seeTail q w) [R.RING_SQ_PTR q] := by
  have hset := (s.sameRegs_refl [R.RING_SQ_PTR q]).setF List.mem_cons_self F.RING_SQ_PTR_SQ_TAIL w
  unfold State.seeTail
  exact State.sameRegs.ite hset hset

theorem State.seeTail_frame (w : Nat) : s.seeTail q w = { s with regs := (s.seeTail q w).regs, pairs := (s.seeTail q w).pairs } := by
  unfold State.seeTail
  dsimp only
  split <;> rfl

theorem State.seeTail_sqTail (w : Nat) : (s.seeTail q w).sqTail q = w % 65536 := by
  have hset : (s.setF (R.RING_SQ_PTR q) F.RING_SQ_PTR_SQ_TAIL w).sqTail q = w % 65536 := State.f_setF_same _ _ _ _ (by decide)
  unfold State.seeTail
  dsimp only
  split
  · exact hset
  · exact hset

theorem State.seeTail_sqHead (w : Nat) : (s.seeTail q w).sqHead q = s.sqHead q := by
  have hset : (s.setF (R.RING_SQ_PTR q) F.RING_SQ_PTR_SQ_TAIL w).sqHead q = s.sqHead q :=
    State.f_setF_field _ _ (by decide) (by decide) (.inl (by decide))
  unfold State.seeTail
  dsimp only
  split
  · exact hset
  · exact hset

/-- The completion word is judged by registers that the submission word leaves. -/
theorem State.seeTail_cqBad (w x : Nat) : (s.seeTail q w).cqBad q x = s.cqBad q x := by
  have hreg {o : Nat} (ho : o ≠ R.RING_SQ_PTR q) : (s.seeTail q w).rd o = s.rd o :=
    s.seeTail_sameRegs q w o fun hm => ho (List.mem_singleton.1 hm)
  have hcfg : (s.seeTail q w).rd (R.RING_CFG q) = s.rd (R.RING_CFG q) := hreg (by simp only [R.RING_CFG, R.RING_SQ_PTR]; omega)
  have hptr : (s.seeTail q w).rd (R.RING_CQ_PTR q) = s.rd (R.RING_CQ_PTR q) := hreg (by simp only [R.RING_CQ_PTR, R.RING_SQ_PTR]; omega)
  have hsize : (s.seeTail q w).cqSize q = s.cqSize q := by rw [State.cqSize, State.f, hcfg]; rfl
  have htail : (s.seeTail q w).cqTail q = s.cqTail q := by rw [State.cqTail, State.f, hptr]; rfl
  have hhead : (s.seeTail q w).cqHead q = s.cqHead q := by rw [State.cqHead, State.f, hptr]; rfl
  rw [State.cqBad, hsize, htail, hhead]
  rfl

theorem State.badDoorbell_sameRegs (stall w : Nat) : s.sameRegs (s.badDoorbell q stall w) (R.RING_STATUS q :: eventRegs) :=
  (s.setPairState_sameRegs q ringStalled stall).raise _ _ _

theorem State.badDoorbell_localWin (stall w : Nat) : (s.badDoorbell q stall w).localWin = s.localWin := by
  rw [State.badDoorbell, State.raise_localWin, (s.setPairState_signalOnly q ringStalled stall).1]
  rfl

variable {s} {q}

theorem State.seeSlot_good {a b : Nat} (hst : s.pairState q = ringActive) (hsq : s.sqBad q a = false) (hcq : s.cqBad q b = false) :
    s.seeSlot q a b = (s.seeTail q a).setF (R.RING_CQ_PTR q) F.RING_CQ_PTR_CQ_HEAD b := by
  rw [State.seeSlot, if_neg (not_not_intro hst), hsq, if_neg Bool.false_ne_true]
  dsimp only
  rw [State.seeTail_cqBad, hcq, if_neg Bool.false_ne_true]

theorem State.seeSlot_bad {a b : Nat} (hst : s.pairState q = ringActive) (hsq : s.sqBad q a = true) :
    s.seeSlot q a b = s.badDoorbell q 1 a := by
  rw [State.seeSlot, if_neg (not_not_intro hst), hsq, if_pos rfl]

/-- Valid words become SQ_TAIL and CQ_HEAD. -/
theorem State.seeSlot_good_leaves {a b : Nat} (hst : s.pairState q = ringActive) (hsq : s.sqBad q a = false) (hcq : s.cqBad q b = false) :
    (s.seeSlot q a b).sqTail q = a % 65536 ∧ (s.seeSlot q a b).cqHead q = b % 65536 ∧ (s.seeSlot q a b).sqHead q = s.sqHead q ∧
    (s.seeSlot q a b).pairState q = ringActive ∧ (s.seeSlot q a b).raised = s.raised := by
  have hptr : R.RING_SQ_PTR q ≠ R.RING_CQ_PTR q := by simp only [R.RING_SQ_PTR, R.RING_CQ_PTR]; omega
  have hsts : R.RING_STATUS q ≠ R.RING_CQ_PTR q := by simp only [R.RING_STATUS, R.RING_CQ_PTR]; omega
  have hstq : R.RING_STATUS q ∉ [R.RING_SQ_PTR q] := by
    simp only [List.mem_cons, List.not_mem_nil, or_false, R.RING_STATUS, R.RING_SQ_PTR]
    omega
  rw [State.seeSlot_good hst hsq hcq]
  refine ⟨?_, State.f_setF_same _ _ _ _ (by decide), ?_, ?_, ?_⟩
  · rw [State.sqTail, State.f_setF_reg _ _ _ _ hptr]
    exact s.seeTail_sqTail q a
  · rw [State.sqHead, State.f_setF_reg _ _ _ _ hptr]
    exact s.seeTail_sqHead q a
  · rw [State.pairState, State.f_setF_reg _ _ _ _ hsts, (s.seeTail_sameRegs q a).f _ hstq]
    exact hst
  · rw [State.setF_raised, State.seeTail_frame]

/-- A submission word that R279 calls invalid stalls its pair. -/
theorem State.seeSlot_bad_leaves {a b : Nat} (hst : s.pairState q = ringActive) (hsq : s.sqBad q a = true) :
    (s.seeSlot q a b).pairState q = ringStalled ∧ (s.seeSlot q a b).f (R.RING_STATUS q) F.RING_STATUS_STALL = 1 ∧
    (s.seeSlot q a b).sqTail q = s.sqTail q ∧
    faultOf 0x91 0 ([BitVec.ofNat 8 q, 1#8, 0#8, 0#8] ++ leBytes 4 a) ∈ (s.seeSlot q a b).raised := by
  have hptr : R.RING_SQ_PTR q ∉ R.RING_STATUS q :: eventRegs := List.not_mem_cons_of_ne_of_not_mem
    (by simp only [R.RING_SQ_PTR, R.RING_STATUS]; omega) (pairReg_not_event q (by decide))
  rw [State.seeSlot_bad hst hsq]
  exact ⟨s.setPairState_pairState q _ _ (by decide), s.setPairState_stall q _ _ (by decide),
    (s.badDoorbell_sameRegs q 1 a).f _ hptr _, List.mem_append_right _ List.mem_cons_self⟩

variable (s) (q)

theorem State.seeSlot_sameRegs (a b : Nat) : s.sameRegs (s.seeSlot q a b) (seenRegs q) := by
  have hsub : R.RING_STATUS q :: eventRegs ⊆ seenRegs q := fun _ h => List.mem_cons_of_mem _ (List.mem_cons_of_mem _ h)
  have htail : s.sameRegs (s.seeTail q a) (seenRegs q) := (s.seeTail_sameRegs q a).mono (List.cons_subset.2 ⟨List.mem_cons_self, nofun⟩)
  unfold State.seeSlot
  exact State.sameRegs.ite (s.sameRegs_refl _) (State.sameRegs.ite ((s.badDoorbell_sameRegs q 1 a).mono hsub)
    (State.sameRegs.ite (htail.trans ((State.badDoorbell_sameRegs _ q 2 b).mono hsub))
      (htail.setF (List.mem_cons_of_mem _ List.mem_cons_self) _ _)))

theorem State.seeSlot_localWin (a b : Nat) : (s.seeSlot q a b).localWin = s.localWin := by
  have htail : (s.seeTail q a).localWin = s.localWin := by rw [State.seeTail_frame]
  unfold State.seeSlot
  dsimp only
  split
  · rfl
  · split
    · exact s.badDoorbell_localWin q 1 a
    · split
      · exact (State.badDoorbell_localWin _ q 2 b).trans htail
      · exact htail

theorem State.seeLocal_localWin : (s.seeLocal q).localWin = s.localWin := by
  unfold State.seeLocal
  split
  · exact s.seeSlot_localWin q _ _
  · rfl

/-- What another pair sees leaves the registers of this one. -/
theorem State.seeSlot_slotKept {p : Nat} (hp : p ≠ q) (a b : Nat) : State.SlotKept q s (s.seeSlot p a b) :=
  State.SlotKept.of_sameRegs (s.seeSlot_sameRegs p a b) fun o ho hm => by
    have hoff := slotRegs_offset ho
    simp only [seenRegs, eventRegs, List.mem_cons, List.not_mem_nil, or_false, R.RING_SQ_PTR, R.RING_CQ_PTR, R.RING_STATUS,
      R.EVENT_STATUS, R.CPLQ_STATUS, R.HOST_GLB_STATUS] at hm
    omega

end

/-! The host writes the local window (R269). -/

section
variable (s : State)

theorem State.hostWin_localWin (off : Nat) (bs : List Byte) : (s.hostWin off bs).localWin = (s.winWrite off bs).localWin := by
  refine State.each_keeps (f := State.localWin) (fun p t => ?_) _ _
  split
  · exact t.seeLocal_localWin p
  · rfl

/-- A write of one submission word is seen by its pair alone. -/
theorem State.hostWin_doorbell {q : Nat} (hq : q < 32) (bs : List Byte) (hbs : bs.length = 4) :
    s.hostWin (8 * q) bs = (s.winWrite (8 * q) bs).seeLocal q := by
  have hidle : ∀ p ≠ q, ∀ t : State, (if 8 * q < 8 * p + 8 ∧ 8 * p < 8 * q + bs.length then t.seeLocal p else t) = t := fun p hp t =>
    if_neg (by omega)
  have honce := State.each_only (g := fun p t => if 8 * q < 8 * p + 8 ∧ 8 * p < 8 * q + bs.length then t.seeLocal p else t)
    (List.mem_range.2 hq) List.nodup_range hidle (s.winWrite (8 * q) bs)
  exact honce.trans (if_pos (by omega))

end

/-! Fetches (R274, R308). -/

theorem entriesOf_length (n : Nat) : ∀ b : List Byte, (entriesOf n b).length = n := by
  induction n with
  | zero => exact fun _ => rfl
  | succ n ih => exact fun b => by rw [entriesOf, List.length_cons, ih]

section
variable (s : State) (q : Nat) (es : List (List Byte))

theorem State.consume_leaves : ((s.consume q es).srcRt q).waiting = (s.srcRt q).waiting ++ es ∧
    (s.consume q es).sqHead q = (s.sqHead q + es.length) % s.sqSize q % 65536 ∧ (s.consume q es).rrLast = q ∧
    s.sameRegs (s.consume q es) [R.RING_SQ_PTR q] ∧ (s.consume q es).raised = s.raised := by
  refine ⟨?_, State.f_setF_same _ _ _ _ (by decide), rfl, ?_, rfl⟩
  · exact congrArg SrcRt.waiting (State.srcRt_setSrc _ q _)
  · unfold State.consume
    refine State.sameRegs.setF ?_ List.mem_cons_self _ _
    exact fun _ _ => rfl

variable {s q}

theorem State.fetch_local (hmost : 0 < s.fetchMost q) (hloc : s.pairLocal q = true) (r : DmaRead) : s.fetch q r =
    s.consume q (entriesOf (s.fetchMost q) (s.winRead (s.sqBase q + 64 * s.sqHead q) (64 * s.fetchMost q))) :=
  (if_neg (Nat.ne_of_gt hmost)).trans (if_pos hloc)

theorem State.fetch_host {k x : Nat} {bs : List Byte} (hmost : 0 < s.fetchMost q) (hloc : s.pairLocal q = false)
    (hx : s.translate (s.sqBase q + 64 * s.sqHead q) false = .host x) (hlen : bs.length = 64 * k) (hk : 1 ≤ k) (hkm : k ≤ s.fetchMost q) :
    s.fetch q (.ok bs) = s.consume q (entriesOf k bs) := by
  have hdiv : bs.length / 64 = k := by omega
  rw [State.fetch, if_neg (Nat.ne_of_gt hmost), hloc, if_neg Bool.false_ne_true, hx]
  dsimp only
  rw [hdiv, if_pos ⟨by omega, hk, hkm⟩]

end

/-! Device slots (R278). -/

section
variable {s t : State} {q : Nat}

theorem State.slotWritten_fresh : (t.slotWritten q).slotStale q = false := by
  have hpair : (t.slotWritten q).pair q = { t.pair q with slotSq := t.sqHead q, slotCq := t.cqTail q } := State.pair_setPair _ _ _
  rw [State.slotStale, hpair]
  exact (Bool.or_eq_false_iff).2 ⟨bne_self_eq_false (t.sqHead q), bne_self_eq_false (t.cqTail q)⟩

/-- The bytes that a pair's device slot shows. -/
def State.slotBytes (s : State) (p : Nat) : List Byte := leBytes 4 (s.sqHead p) ++ leBytes 4 (s.cqTail p)

theorem State.slotBytes_length : (s.slotBytes q).length = 8 := by
  rw [State.slotBytes, List.length_append, leBytes_length, leBytes_length]

/-- The time of a slot's last write noted. -/
def State.slotNoted (s : State) (p : Nat) : State := s.setPair p { s.pair p with slotAt := some s.cyc }

end

section
variable {s : State} {q : Fin 32} (hl : s.live) (hst : s.pairState q ≠ ringDisabled) (hstale : s.slotStale q = true)
include hl hst hstale

theorem exec_deviceSlotWrite_local (hloc : s.pairLocal q = true) : exec (.deviceSlotWrite q) s =
    .next ((s.winWrite (0x800 + 8 * q) (s.slotBytes q)).slotWritten q) := by
  have hexec : exec (.deviceSlotWrite q) s = execDeviceSlotWrite q s := rfl
  have hraised : ((s.winWrite (0x800 + 8 * q) (s.slotBytes q)).slotWritten q).raised = [] :=
    (State.winWrite_raised _ s _).trans hl.2
  rw [hexec, execDeviceSlotWrite, State.act_on _ hl.1, ← State.settle_quiet hraised]
  dsimp only
  rw [if_neg (by rw [hstale]; exact not_or.2 ⟨hst, by decide⟩), if_pos hloc]
  rfl

theorem exec_deviceSlotWrite_host {x : Nat} (hloc : s.pairLocal q = false) (hpoll : s.flag R.HOST_POLL F.HOST_POLL_EN = true)
    (hdma : s.dmaAllowed = true) (hdue : s.slotDue q = true) (hx : s.translate (s.dbBase + 0x800 + 8 * q.val) true = .host x) :
    exec (.deviceSlotWrite q) s = .next (((s.slotNoted q).emit (.dmaWrite x (s.slotBytes q))).slotWritten q) := by
  have hexec : exec (.deviceSlotWrite q) s = execDeviceSlotWrite q s := rfl
  have hraised : (((s.slotNoted q).emit (.dmaWrite x (s.slotBytes q))).slotWritten q).raised = [] := hl.2
  have hx' : (s.setPair q { s.pair q with slotAt := some s.cyc }).translate (s.dbBase + 0x800 + 8 * q.val) true = .host x := hx
  rw [hexec, execDeviceSlotWrite, State.act_on _ hl.1, ← State.settle_quiet hraised]
  dsimp only
  rw [if_neg (by rw [hstale]; exact not_or.2 ⟨hst, by decide⟩), hloc, if_neg Bool.false_ne_true, hpoll, hdma, hdue, hx']
  rfl

end

/-! A poll (R277). -/

/-- The start of a poll noted. -/
def State.pollNoted (s : State) : State := { s with sys := { s.sys with pollStart := some s.cyc } }

section
variable {s : State} {q : Fin 32} {bs : List Byte} {x : Nat}

theorem exec_doorbellPoll_host (hl : s.live) (hpolls : s.polls = true) (hdue : s.pollDue = true) (hx : s.translate s.dbBase false = .host x)
    (hlen : bs.length = 8 * (s.polledPairs.getLastD 0 + 1)) : exec (.doorbellPoll (.ok bs)) s = .next (s.pollNoted.pollData bs).settle := by
  have hexec : exec (.doorbellPoll (.ok bs)) s = execDoorbellPoll (.ok bs) s := rfl
  rw [hexec, execDoorbellPoll, State.act_on _ hl.1, hpolls, hdue, hx]
  dsimp only
  rw [if_neg (by decide), if_pos hlen]
  rfl

theorem State.pollData_noFault (t : State) : (t.pollData bs).f R.XLT_STATUS F.XLT_STATUS_POLL_FAULT = 0 := by
  have hkeep := State.each_keeps (f := fun u => u.f R.XLT_STATUS F.XLT_STATUS_POLL_FAULT)
    (g := fun p u => u.seeSlot p (leAt bs (8 * p) 4) (leAt bs (8 * p + 4) 4)) (fun p u => (u.seeSlot_sameRegs p _ _).f _ (fun hm => by
      simp only [seenRegs, eventRegs, List.mem_cons, List.not_mem_nil, or_false, R.RING_SQ_PTR, R.RING_CQ_PTR, R.RING_STATUS,
        R.EVENT_STATUS, R.CPLQ_STATUS, R.HOST_GLB_STATUS, R.XLT_STATUS] at hm
      omega) _) t.polledPairs (t.setF R.XLT_STATUS F.XLT_STATUS_POLL_FAULT 0)
  refine hkeep.trans ?_
  rw [State.f_setF_same _ _ _ _ (by decide), Nat.zero_mod]

/-- A polled pair takes its words, whatever the other pairs make of theirs. -/
theorem State.pollData_pair (t : State) (hloc : t.pairLocal q = false) (hst : t.pairState q = ringActive)
    (hsq : t.sqBad q (leAt bs (8 * q.val) 4) = false) (hcq : t.cqBad q (leAt bs (8 * q.val + 4) 4) = false) :
    (t.pollData bs).sqTail q = leAt bs (8 * q.val) 4 % 65536 ∧ (t.pollData bs).cqHead q = leAt bs (8 * q.val + 4) 4 % 65536 ∧
      (t.pollData bs).pairState q = ringActive := by
  have hmem : q.val ∈ t.polledPairs := List.mem_filter.2 ⟨List.mem_range.2 q.isLt, by rw [hloc, hst]; decide⟩
  have hnd : t.polledPairs.Nodup := List.nodup_range.filter _
  have hfirst : State.SlotKept q t (t.setF R.XLT_STATUS F.XLT_STATUS_POLL_FAULT 0) := fun o ho => by
    have hoff := slotRegs_offset ho
    refine State.rd_setF_other _ _ _ ?_
    simp only [R.XLT_STATUS]
    omega
  refine State.each_at (P := fun u => u.sqTail q = leAt bs (8 * q.val) 4 % 65536 ∧ u.cqHead q = leAt bs (8 * q.val + 4) 4 % 65536 ∧
    u.pairState q = ringActive) (Q := State.SlotKept q t) hmem hnd (fun u hu => ?_) (fun p hp u => ⟨fun hu => ?_, fun hu => ?_⟩) hfirst
  · obtain ⟨htail, hhead, -, hact, -⟩ := State.seeSlot_good_leaves (hu.pairState.trans hst) ((hu.sqBad _).trans hsq) ((hu.cqBad _).trans hcq)
    exact ⟨htail, hhead, hact⟩
  · exact hu.trans (u.seeSlot_slotKept q hp _ _)
  · have hkept := u.seeSlot_slotKept q hp (leAt bs (8 * p) 4) (leAt bs (8 * p + 4) 4)
    obtain ⟨htail, hhead, hact⟩ := hu
    exact ⟨hkept.sqTail.trans htail, hkept.cqHead.trans hhead, hkept.pairState.trans hact⟩

end

/-! The obligation. -/

/-- Settles O44: a host write and a poll are seen, a fetch takes entries in order, and a device slot is written. -/
theorem doorbellsExposeAndFetchesConsume : Obligations.DoorbellsExposeAndFetchesConsume := by
  intro s q hl
  refine ⟨fun off v hin => ?_, fun v hloc hst => ?_, fun bs x hpolls hdue hx hlen => ?_, fun hmost => ⟨fun hloc r => ?_,
    fun hloc k x bs hx hlen hk hkm => ?_⟩, fun hst hstale => ⟨fun hloc => ?_, fun x hloc hpoll hdma hdue hx => ?_⟩⟩
  · have hlen := leBytes_length 4 v.toNat
    have hwin := s.hostWin_localWin off (leBytes 4 v.toNat)
    have hread := State.winRead_winWrite_same (leBytes 4 v.toNat) s off (by rw [hlen]; exact hin)
    rw [hlen] at hread
    refine ⟨_, exec_powered (g := fun s => s.hostWin off (leBytes 4 v.toNat)) hl rfl,
      (State.winRead_of_localWin hwin off 4).trans hread, fun a ha => ?_⟩
    rw [State.winGet_of_localWin hwin, State.winGet_winWrite_other _ s off (by rw [hlen]; exact ha)]
  · dsimp only
    have hlen := leBytes_length 4 v.toNat
    have hexec := exec_powered (c := .localDoorbellWrite (8 * q.val) v) (g := fun s => s.hostWin (8 * q.val) (leBytes 4 v.toNat)) hl rfl
    have hwin := State.winWrite_winOnly (leBytes 4 v.toNat) s (8 * q.val)
    have hsub : leVal ((s.winWrite (8 * q.val) (leBytes 4 v.toNat)).winRead (8 * q.val) 4) = v.toNat := by
      have hread := State.winRead_winWrite_same (leBytes 4 v.toNat) s (8 * q.val) (by rw [hlen]; omega)
      rw [hlen] at hread
      rw [hread]
      exact leVal_leBytes 4 _ v.isLt
    have hcpl : (s.winWrite (8 * q.val) (leBytes 4 v.toNat)).winRead (8 * q.val + 4) 4 = s.winRead (8 * q.val + 4) 4 :=
      State.winRead_congr fun x hlo _ => State.winGet_winWrite_other _ s _ (.inr (by rw [hlen]; exact hlo))
    rw [State.hostWin_doorbell s q.isLt _ hlen] at hexec
    generalize s.winWrite (8 * q.val) (leBytes 4 v.toNat) = t at hexec hwin hsub hcpl
    have hkept := hwin.slotKept q.isLt
    obtain ⟨-, -, -, hloc'⟩ := hkept.sizes
    rw [State.seeLocal, hloc', hloc, if_pos rfl, hsub, hcpl] at hexec
    refine ⟨fun hsq hcq => ?_, fun hsq => ?_⟩
    · obtain ⟨htail, hhead, hsame, hact, hraised⟩ := State.seeSlot_good_leaves (hkept.pairState.trans hst) ((hkept.sqBad _).trans hsq)
        ((hkept.cqBad _).trans hcq)
      rw [State.settle_quiet (hraised.trans (hwin.raised.trans hl.2))] at hexec
      exact ⟨_, hexec, htail, hhead, hsame.trans hkept.sqHead, hact⟩
    · obtain ⟨hstall, hcause, htail, hfault⟩ := State.seeSlot_bad_leaves (b := leVal (s.winRead (8 * q.val + 4) 4))
        (hkept.pairState.trans hst) ((hkept.sqBad _).trans hsq)
      exact ⟨_, hexec, hstall, hcause, htail.trans hkept.sqTail, hfault⟩
  · exact ⟨_, exec_doorbellPoll_host hl hpolls hdue hx hlen, s.pollNoted.pollData_noFault,
      fun hloc hst hsq hcq => s.pollNoted.pollData_pair hloc hst hsq hcq⟩
  · obtain ⟨hwait, hhead, hlast, hregs, hraised⟩ := s.consume_leaves q (entriesOf (s.fetchMost q)
      (s.winRead (s.sqBase q + 64 * s.sqHead q) (64 * s.fetchMost q)))
    have hexec := exec_powered (c := .submissionFetch q r) (g := fun s => s.fetch q r) hl rfl
    rw [State.fetch_local hmost hloc, State.settle_quiet (hraised.trans hl.2)] at hexec
    rw [entriesOf_length] at hhead
    exact ⟨_, hexec, hwait, hhead, hlast, hregs⟩
  · obtain ⟨hwait, hhead, -, hregs, hraised⟩ := s.consume_leaves q (entriesOf k bs)
    have hexec := exec_powered (c := .submissionFetch q (.ok bs)) (g := fun s => s.fetch q (.ok bs)) hl rfl
    rw [State.fetch_host hmost hloc hx hlen hk hkm, State.settle_quiet (hraised.trans hl.2)] at hexec
    rw [entriesOf_length] at hhead
    exact ⟨_, hexec, hwait, hhead, hregs⟩
  · have hlen := s.slotBytes_length (q := q)
    have hread := State.winRead_winWrite_same (s.slotBytes q) s (0x800 + 8 * q.val) (by rw [hlen]; omega)
    rw [hlen] at hread
    exact ⟨_, exec_deviceSlotWrite_local hl hst hstale hloc, hread, State.slotWritten_fresh,
      fun a ha => State.winGet_winWrite_other _ s _ (by rw [hlen]; omega)⟩
  · exact ⟨_, exec_deviceSlotWrite_host hl hst hstale hloc hpoll hdma hdue hx, rfl, State.slotWritten_fresh, s.sameRegs_refl _⟩

end Sys2Proof.Machine
end

section
/-! What a read of the data NVM leaves, what an ended command leaves in the holding queue, and the log of DMA faults (R306, R310, R345). -/

namespace Sys2Proof.Machine

/-! Reads of the data NVM (R345, R349). -/

/-- `t` differs from `s` in what reads of the data NVM leave: the counts of bad groups, the pages to erase anew, and reports. -/
structure State.NvmSeen (s t : State) : Prop where
  frame : t = { s with regs := t.regs, cycle := t.cycle, raised := t.raised, nvm := { s.nvm with reerase := t.nvm.reerase } }
  regs : s.sameRegs t [R.NVM_ECC_CNT, R.NVM_STATUS]

section
variable {s t u : State}

theorem State.NvmSeen.refl (s : State) : s.NvmSeen s := ⟨rfl, s.sameRegs_refl _⟩

theorem State.NvmSeen.trans (h : s.NvmSeen t) (h' : t.NvmSeen u) : s.NvmSeen u :=
  ⟨by rw [h'.frame, h.frame], h.regs.trans h'.regs⟩

theorem State.queuePage_seen (s : State) (p : Nat) : s.NvmSeen (s.queuePage p) := by
  let t : State := { s with nvm := { s.nvm with reerase := s.nvm.reerase ++ [p] } }
  have ht : s.sameRegs t [R.NVM_ECC_CNT, R.NVM_STATUS] := fun _ _ => rfl
  unfold State.queuePage State.showReerase
  split
  · exact State.NvmSeen.refl s
  · exact ⟨rfl, ht.setF (List.mem_cons_of_mem _ List.mem_cons_self) _ _⟩

theorem State.readGroup_seen (s : State) (g : Nat) : s.NvmSeen (s.readGroup g) := by
  have hcount (d : Fld) (i : Nat) : s.NvmSeen ((s.bump R.NVM_ECC_CNT d 1).raise i 0 (leBytes 4 (8 * g))) :=
    ⟨rfl, ((s.sameRegs_refl _).bump List.mem_cons_self d 1).raise _ _ _⟩
  unfold State.readGroup
  cases s.nvmGroup g with
  | valid => exact State.NvmSeen.refl s
  | unwritten => exact State.NvmSeen.refl s
  | corrected => exact hcount _ _
  | torn => exact (hcount _ _).trans (State.queuePage_seen _ _)

theorem State.nvmRead_seen (s : State) (a n : Nat) : s.NvmSeen (s.nvmRead a n).2.2 := by
  have hall (l : List Nat) : ∀ t, s.NvmSeen t → s.NvmSeen (l.foldl State.readGroup t) := by
    induction l with
    | nil => exact fun _ h => h
    | cons g l ih => exact fun t h => ih _ (h.trans (t.readGroup_seen g))
  exact hall _ s (State.NvmSeen.refl s)

/-- A record that is read leaves what its bytes' reading leaves. -/
theorem State.readRecord_seen {p : RecPlace} {id : Nat} {data : List Byte} {b : Bool} (h : s.readRecord p id = some (data, b, t)) :
    s.NvmSeen t := by
  unfold State.readRecord at h
  cases hcopy : s.currentCopy p id with
  | none => rw [hcopy] at h; cases h
  | some c =>
    rw [hcopy] at h
    have ht : (s.nvmRead (p.copy c) (16 + s.copyLen p c)).2.2 = t := congrArg (fun x : List Byte × Bool × State => x.2.2) (Option.some.inj h)
    exact ht ▸ s.nvmRead_seen _ _

end

/-! What an ended command leaves in the holding queue (R310). -/

/-- `t` has the queue, the pair's state and the time of `s`. -/
def State.QueueKept (p : Nat) (s t : State) : Prop := t.cplq = s.cplq ∧ t.pairState p = s.pairState p ∧ t.cyc = s.cyc

section
variable {p : Nat} {s t u : State}

theorem State.QueueKept.refl (p : Nat) (s : State) : State.QueueKept p s s := ⟨rfl, rfl, rfl⟩

theorem State.QueueKept.trans (h : State.QueueKept p s t) (h' : State.QueueKept p t u) : State.QueueKept p s u :=
  ⟨h'.1.trans h.1, h'.2.1.trans h.2.1, h'.2.2.trans h.2.2⟩

theorem State.QueueKept.now48 (h : State.QueueKept p s t) : t.now48 = s.now48 := by rw [State.now48, State.us, h.2.2]; rfl

/-- A completion joins the queue. -/
theorem State.QueueKept.complete (h : State.QueueKept p s t) (b : List Byte) (w : Bool) : s.completesTo (t.complete p b w) p b w := by
  intro hen hroom hlt
  obtain ⟨hq, hst, -⟩ := h
  have hroom' : t.cplRoom p = true := by
    rw [State.cplRoom, State.heldOf, hq]
    exact hroom
  rw [State.complete, if_pos hlt, if_neg (by rw [hst]; exact hen), if_pos hroom', State.hold, hq]

theorem State.QueueKept.ctlDone (h : State.QueueKept p s t) (e : List Byte) (r : CtlRes) :
    s.completesTo (t.ctlDone p e r) p (ctlCpl e r s.now48) (ctlWorthy e) := by
  rw [State.ctlDone, h.now48]
  exact h.complete _ _

theorem State.takeEntry_frame (s : State) (p : Nat) (e : List Byte) :
    s.takeEntry p e = { s with srcs := (s.takeEntry p e).srcs, pairs := (s.takeEntry p e).pairs } := by
  unfold State.takeEntry
  split
  · split <;> rfl
  · rfl

theorem State.takeEntry_queueKept (s : State) (p : Nat) (e : List Byte) : State.QueueKept p s (s.takeEntry p e) := by
  rw [State.takeEntry_frame]
  exact ⟨rfl, rfl, rfl⟩

theorem State.canPassDone_frame (s : State) (typ : Nat) (e : List Byte) : s.canPassDone typ e = { s with cans := (s.canPassDone typ e).cans } := by
  unfold State.canPassDone
  split
  · split <;> rfl
  · rfl

theorem State.canPassDone_queueKept (s : State) (typ : Nat) (e : List Byte) : State.QueueKept p s (s.canPassDone typ e) := by
  rw [State.canPassDone_frame]
  exact ⟨rfl, rfl, rfl⟩

theorem State.NvmSeen.queueKept (h : s.NvmSeen t) : State.QueueKept p s t :=
  ⟨by rw [h.frame], h.regs.f _ (by
    simp only [List.mem_cons, List.not_mem_nil, or_false, R.RING_STATUS, R.NVM_ECC_CNT, R.NVM_STATUS]
    omega) _, by rw [h.frame]⟩

end

/-! The log of DMA faults (R306). -/

/-- `t` differs from `s` in the registers alone. -/
def State.RegsOnly (s t : State) : Prop := t = { s with regs := t.regs, cycle := t.cycle }

theorem State.RegsOnly.trans {s t u : State} (h : s.RegsOnly t) (h' : t.RegsOnly u) : s.RegsOnly u := by
  unfold State.RegsOnly at h h' ⊢
  rw [h', h]

theorem State.regsOnly_hwSet (s : State) (o : Nat) (g : Fld) (v : Nat) : s.RegsOnly (s.hwSet o g v) := rfl

theorem State.regsOnly_bump (s : State) (o : Nat) (g : Fld) (k : Nat) : s.RegsOnly (s.bump o g k) := rfl

/-- The registers of a log record and of the log. -/
def dmafRegs (k : Nat) : List Nat := [R.DMAF_INFO k, R.DMAF_ADDR_LO k, R.DMAF_ADDR_HI k, R.DMAF_DONE k, R.DMAF_STATUS]

section
variable (s : State) (op pair index addr done kind : Nat)

/-- The next record of the log. -/
def State.dmafNext (s : State) : Nat := s.f R.DMAF_STATUS F.DMAF_STATUS_NEXT

theorem State.dmafNext_lt : s.dmafNext < 8 := s.f_lt _ F.DMAF_STATUS_NEXT (by decide)

/-- The record written, before the log moves on. -/
def State.dmafWritten (s : State) (info addr done : Nat) : State :=
  ((s.wrN (R.DMAF_INFO s.dmafNext) info).wr64 (R.DMAF_ADDR_LO s.dmafNext) (R.DMAF_ADDR_HI s.dmafNext) addr).wrN (R.DMAF_DONE s.dmafNext) done

/-- The log moved on to its next record. -/
def State.dmafMoved (s t : State) : State :=
  let u := t.setF R.DMAF_STATUS F.DMAF_STATUS_NEXT (s.dmafNext + 1)
  (if s.f R.DMAF_STATUS F.DMAF_STATUS_COUNT ≥ 8 then u.hwSet R.DMAF_STATUS F.DMAF_STATUS_OVF 1 else u).bump R.DMAF_STATUS
    F.DMAF_STATUS_COUNT 1

theorem State.dmaLog_eq : s.dmaLog op pair index addr done kind =
    (s.dmafMoved (s.dmafWritten (dmafInfo kind op pair index) addr done)).raise (if kind ≤ 4 then 0x95 else 0x96) 0
      (leBytes 4 (dmafInfo kind op pair index) ++ leBytes 4 addr ++ leBytes 4 (addr / 2 ^ 32) ++ leBytes 4 done) := by
  rfl

theorem State.dmafMoved_rd (t : State) {o : Nat} (ho : o ≠ R.DMAF_STATUS) : (s.dmafMoved t).rd o = t.rd o := by
  unfold State.dmafMoved
  dsimp only
  rw [State.rd_bump_other _ _ _ ho]
  split
  · rw [State.rd_hwSet_other _ _ _ ho, State.rd_setF_other _ _ _ ho]
  · rw [State.rd_setF_other _ _ _ ho]

theorem State.dmafMoved_frame (t : State) : s.dmafMoved t = { t with regs := (s.dmafMoved t).regs, cycle := (s.dmafMoved t).cycle } := by
  have hset : t.RegsOnly (t.setF R.DMAF_STATUS F.DMAF_STATUS_NEXT (s.dmafNext + 1)) := rfl
  have hovf : t.RegsOnly (if s.f R.DMAF_STATUS F.DMAF_STATUS_COUNT ≥ 8 then
      (t.setF R.DMAF_STATUS F.DMAF_STATUS_NEXT (s.dmafNext + 1)).hwSet R.DMAF_STATUS F.DMAF_STATUS_OVF 1 else
      t.setF R.DMAF_STATUS F.DMAF_STATUS_NEXT (s.dmafNext + 1)) := by
    split
    · exact hset.trans (State.regsOnly_hwSet _ _ _ _)
    · exact hset
  exact hovf.trans (State.regsOnly_bump _ _ _ _)

theorem State.dmafMoved_next (t : State) : (s.dmafMoved t).dmafNext = (s.dmafNext + 1) % 8 := by
  unfold State.dmafMoved
  dsimp only
  rw [State.dmafNext, State.f_bump_field _ _ (by decide) (by decide) (.inl (by decide))]
  split
  · rw [State.f_hwSet_field _ _ (by decide) (by decide) (.inl (by decide)), State.f_setF_same _ _ _ _ (by decide)]
    rfl
  · rw [State.f_setF_same _ _ _ _ (by decide)]
    rfl

theorem State.dmafWritten_sameRegs (info : Nat) : s.sameRegs (s.dmafWritten info addr done) (dmafRegs s.dmafNext) :=
  (((s.sameRegs_refl _).wrN List.mem_cons_self _).wr64 (List.mem_cons_of_mem _ List.mem_cons_self)
    (List.mem_cons_of_mem _ (List.mem_cons_of_mem _ List.mem_cons_self)) _).wrN
    (List.mem_cons_of_mem _ (List.mem_cons_of_mem _ (List.mem_cons_of_mem _ List.mem_cons_self))) _

theorem State.dmaLog_sameRegs : s.sameRegs (s.dmaLog op pair index addr done kind) (dmafRegs s.dmafNext) := by
  rw [State.dmaLog_eq]
  refine State.sameRegs.raise (fun o ho => ?_) _ _ _
  rw [State.dmafMoved_rd _ _ fun h => ho (by simp [dmafRegs, h])]
  exact s.dmafWritten_sameRegs addr done _ o ho

theorem State.dmaLog_frame : s.dmaLog op pair index addr done kind = { s with
    regs := (s.dmaLog op pair index addr done kind).regs, cycle := (s.dmaLog op pair index addr done kind).cycle,
    raised := (s.dmaLog op pair index addr done kind).raised } := by
  rw [State.dmaLog_eq]
  have hmoved := s.dmafMoved_frame (s.dmafWritten (dmafInfo kind op pair index) addr done)
  generalize s.dmafMoved (s.dmafWritten (dmafInfo kind op pair index) addr done) = m at hmoved ⊢
  rw [hmoved]
  rfl

/-- The registers of a log record lie between 0x1100 and the log's status. -/
theorem dmafRegs_between {o : Nat} {s : State} (h : o ∈ dmafRegs s.dmafNext) : 0x1100 ≤ o ∧ o ≤ 0x1180 := by
  have hk := s.dmafNext_lt
  simp only [dmafRegs, List.mem_cons, List.not_mem_nil, or_false, R.DMAF_INFO, R.DMAF_ADDR_LO, R.DMAF_ADDR_HI, R.DMAF_DONE,
    R.DMAF_STATUS] at h
  omega

theorem State.dmaLog_rd {o : Nat} (ho : o < 0x1100 ∨ 0x1180 < o) : (s.dmaLog op pair index addr done kind).rd o = s.rd o :=
  s.dmaLog_sameRegs op pair index addr done kind o fun h => by have := dmafRegs_between h; omega

theorem State.dmaLog_queueKept (p : Nat) (hp : p < 32) : State.QueueKept p s (s.dmaLog op pair index addr done kind) := by
  refine ⟨by rw [State.dmaLog_frame], ?_, by rw [State.dmaLog_frame]⟩
  rw [State.pairState, State.f, State.dmaLog_rd _ _ _ _ _ _ _ (by simp only [R.RING_STATUS]; omega)]
  rfl

theorem dmafInfo_lt : dmafInfo kind op pair index < 2 ^ 32 := by
  unfold dmafInfo
  omega

/-- The record that the log takes. -/
theorem State.dmaLog_record : (s.dmaLog op pair index addr done kind).rdN (R.DMAF_INFO s.dmafNext) = dmafInfo kind op pair index ∧
    (s.dmaLog op pair index addr done kind).rdN (R.DMAF_ADDR_LO s.dmafNext) = addr % 2 ^ 32 ∧
    (s.dmaLog op pair index addr done kind).rdN (R.DMAF_DONE s.dmafNext) = done % 2 ^ 32 ∧
    (s.dmaLog op pair index addr done kind).dmafNext = (s.dmafNext + 1) % 8 := by
  have hk := s.dmafNext_lt
  have hne : R.DMAF_INFO s.dmafNext ≠ R.DMAF_STATUS ∧ R.DMAF_ADDR_LO s.dmafNext ≠ R.DMAF_STATUS ∧
      R.DMAF_DONE s.dmafNext ≠ R.DMAF_STATUS ∧ R.DMAF_INFO s.dmafNext ≠ R.DMAF_DONE s.dmafNext ∧
      R.DMAF_ADDR_LO s.dmafNext ≠ R.DMAF_DONE s.dmafNext ∧ R.DMAF_ADDR_LO s.dmafNext ≠ R.DMAF_ADDR_HI s.dmafNext ∧
      R.DMAF_INFO s.dmafNext ≠ R.DMAF_ADDR_HI s.dmafNext ∧ R.DMAF_INFO s.dmafNext ≠ R.DMAF_ADDR_LO s.dmafNext := by
    simp only [R.DMAF_INFO, R.DMAF_ADDR_LO, R.DMAF_ADDR_HI, R.DMAF_DONE, R.DMAF_STATUS]
    omega
  obtain ⟨his, hls, hds, hid, hld, hlh, hih, hil⟩ := hne
  have hinfo := dmafInfo_lt op pair index kind
  rw [State.dmaLog_eq]
  generalize dmafInfo kind op pair index = info at hinfo ⊢
  refine ⟨?_, ?_, ?_, s.dmafMoved_next _⟩
  · rw [State.rdN, State.raise_rd_of, State.dmafMoved_rd _ _ his, State.dmafWritten, State.rd_wrN_other _ _ hid, State.wr64,
      State.rd_wrN_other _ _ hih, State.rd_wrN_other _ _ hil, State.rd_wrN_same, BitVec.toNat_ofNat, Nat.mod_eq_of_lt hinfo]
  · rw [State.rdN, State.raise_rd_of, State.dmafMoved_rd _ _ hls, State.dmafWritten, State.rd_wrN_other _ _ hld, State.wr64,
      State.rd_wrN_other _ _ hlh, State.rd_wrN_same, BitVec.toNat_ofNat]
  · rw [State.rdN, State.raise_rd_of, State.dmafMoved_rd _ _ hds, State.dmafWritten, State.rd_wrN_same, BitVec.toNat_ofNat]

end

end Sys2Proof.Machine
end

section
/-! The host link and its DMA faults (R260, R261, R302, R306, R309). -/

namespace Sys2Proof.Machine

/-! What a change of a pair's state reports. -/

section
variable (s : State) {r : Raised}

theorem State.setGlb_raised (k : Nat) : (s.setGlb k).raised = s.raised := by
  unfold State.setGlb
  dsimp only
  split
  · rw [State.fireVec_frame]
    rfl
  · rfl

/-- An EVENT record takes back no report. -/
theorem State.putEvent_raised_mem (kind sub code : Nat) (data : List Byte) (h : r ∈ s.raised) : r ∈ (s.putEvent kind sub code data).raised := by
  unfold State.putEvent
  dsimp only
  split
  · exact h
  · split
    · rw [State.setGlb_raised]
      exact h
    · rw [State.raise_raised, State.setGlb_raised]
      exact List.mem_append_left _ h

theorem State.event_raised_mem (kind sub code : Nat) (data : List Byte) (h : r ∈ s.raised) : r ∈ (s.event kind sub code data).raised := by
  have hboth : ∀ on : Bool, r ∈ (if on then
      ((if (decide (s.evLost > 0) && s.cplRoom s.eventPair) = true then
        ({ s with evLost := 0, evLosing := false }).putEvent 0x0F 0 s.evLost [] else s).putEvent kind sub code data)
      else s).raised := by
    intro on
    split
    · refine State.putEvent_raised_mem _ _ _ _ _ ?_
      split
      · exact State.putEvent_raised_mem { s with evLost := 0, evLosing := false } _ _ _ _ h
      · exact h
    · exact h
  exact hboth _

theorem State.setPairState_raised_mem (p st stall : Nat) : ∀ r ∈ s.raised, r ∈ (s.setPairState p st stall).raised := by
  intro r h
  unfold State.setPairState
  refine State.event_raised_mem _ _ _ _ _ ?_
  split
  · rw [State.setGlb_raised]
    exact h
  · exact h

end

/-! A host link reset (R260). -/

/-- A host-resident pair goes with the link. -/
def State.linkDropped (s : State) (p : Nat) : State := ((s.setF (R.RING_CFG p) F.RING_CFG_EN 0).dropFetched p).pairDisabled p

/-- All host-resident pairs in use go with the link. -/
def State.linksDropped (s : State) : State :=
  s.each ((List.range 32).filter fun p => !s.pairLocal p && s.pairState p != ringDisabled) fun p s => s.linkDropped p

/-- The registers of a pair that goes with the link, those of the streams apart. -/
def droppedRegs (p : Nat) : List Nat := R.RING_CFG p :: R.RING_CNT p :: R.RING_STATUS p :: eventRegs

section
variable (s : State)

theorem State.dropHeld_sameRegs (p : Nat) : s.sameRegs (s.dropHeld p) (R.RING_CNT p :: eventRegs) := by
  let t : State := { s with cplq := s.cplq.filter (fun h => h.src != p) }
  have ht : s.sameRegs t (R.RING_CNT p :: eventRegs) := fun _ _ => rfl
  have hcnt (k : Nat) := ht.bump (o := R.RING_CNT p) List.mem_cons_self F.RING_CNT_LOST k
  have hev : R.EVENT_STATUS ∈ R.RING_CNT p :: eventRegs := List.mem_cons_of_mem _ (by decide)
  have hglb : [R.HOST_GLB_STATUS] ⊆ R.RING_CNT p :: eventRegs := List.cons_subset.2 ⟨List.mem_cons_of_mem _ (by decide), List.nil_subset _⟩
  unfold State.dropHeld
  dsimp only
  split
  · exact hcnt _
  · have hlost (k e : Nat) : s.sameRegs (({ t.bump (R.RING_CNT p) F.RING_CNT_LOST k with
        evLost := (t.bump (R.RING_CNT p) F.RING_CNT_LOST k).evLost + e, evLosing := true } : State).bump
          R.EVENT_STATUS F.EVENT_STATUS_LOST e) (R.RING_CNT p :: eventRegs) := State.sameRegs.bump (hcnt k) hev _ _
    split
    · exact (hlost _ _).trans ((State.setGlb_sameRegs _ 2).mono hglb)
    · exact ((hlost _ _).trans ((State.setGlb_sameRegs _ 2).mono hglb)).raise _ _ _

theorem State.pairDisabled_rd {p o : Nat} (ho : o ∉ R.RING_CNT p :: R.RING_STATUS p :: eventRegs) (hgln : ∀ g, o ≠ R.GLN_STATUS g) :
    (s.pairDisabled p).rd o = s.rd o := by
  simp only [List.mem_cons, not_or] at ho
  obtain ⟨hcnt, hst, hev⟩ := ho
  rw [State.pairDisabled, State.setPairState_sameRegs _ _ _ _ o (List.not_mem_cons_of_ne_of_not_mem hst hev), State.dropStreams_rd _ _ hgln,
    State.dropHeld_sameRegs _ _ o (List.not_mem_cons_of_ne_of_not_mem hcnt hev)]

theorem State.linkDropped_rd {p o : Nat} (ho : o ∉ droppedRegs p) (hgln : ∀ g, o ≠ R.GLN_STATUS g) : (s.linkDropped p).rd o = s.rd o := by
  obtain ⟨hcfg, hrest⟩ := List.ne_and_not_mem_of_not_mem_cons ho
  have hfetched : ((s.setF (R.RING_CFG p) F.RING_CFG_EN 0).dropFetched p).rd o = (s.setF (R.RING_CFG p) F.RING_CFG_EN 0).rd o := rfl
  rw [State.linkDropped, State.pairDisabled_rd _ hrest hgln, hfetched]
  exact State.rd_setF_other _ _ _ hcfg

theorem State.linkDropped_state (p : Nat) : (s.linkDropped p).pairState p = ringDisabled := State.setPairState_pairState _ _ _ _ (by decide)

/-- The status of a pair is not touched by the end of another. -/
theorem State.linkDropped_other {p : Nat} {q : Fin 32} (hp : p ≠ q) : (s.linkDropped p).pairState q = s.pairState q := by
  have hout : R.RING_STATUS q ∉ droppedRegs p := by
    have hev : R.RING_STATUS q ∉ eventRegs := pairReg_not_event q (by decide)
    simp only [droppedRegs, List.mem_cons, not_or]
    refine ⟨?_, ?_, ?_, hev⟩
    · simp only [R.RING_STATUS, R.RING_CFG]; omega
    · simp only [R.RING_STATUS, R.RING_CNT]; omega
    · simp only [R.RING_STATUS]; omega
  rw [State.pairState, State.f, State.linkDropped_rd s hout fun g => by simp only [R.RING_STATUS, R.GLN_STATUS]; omega]
  rfl

theorem State.linksDropped_rd {o : Nat} (hlo : 0x1000 ≤ o) (hev : o ∉ eventRegs) (hgln : ∀ g, o ≠ R.GLN_STATUS g) :
    s.linksDropped.rd o = s.rd o := by
  refine foldl_keeps_mem (P := fun u => u.rd o) (g := fun u p => u.linkDropped p) (fun p hp u => ?_) s
  have hlt : p < 32 := List.mem_range.1 (List.mem_filter.1 hp).1
  refine u.linkDropped_rd ?_ hgln
  simp only [droppedRegs, List.mem_cons, not_or]
  refine ⟨?_, ?_, ?_, hev⟩
  · simp only [R.RING_CFG]; omega
  · simp only [R.RING_CNT]; omega
  · simp only [R.RING_STATUS]; omega

theorem State.linksDropped_pair (q : Fin 32) : (s.pairLocal q = false → s.linksDropped.pairState q = ringDisabled) ∧
    (s.pairLocal q = true → s.linksDropped.pairState q = s.pairState q) := by
  have hstay (hq : q.val ∉ (List.range 32).filter fun p => !s.pairLocal p && s.pairState p != ringDisabled) :
      s.linksDropped.pairState q = s.pairState q :=
    foldl_keeps_mem (P := fun u => u.pairState q) (g := fun u p => u.linkDropped p)
      (fun p hp u => u.linkDropped_other (ne_of_mem_of_not_mem hp hq)) s
  refine ⟨fun hloc => ?_, fun hloc => hstay fun hm => ?_⟩
  · by_cases hdis : s.pairState q = ringDisabled
    · refine (hstay fun hm => ?_).trans hdis
      have hcond := (List.mem_filter.1 hm).2
      rw [hdis, bne_self_eq_false, Bool.and_false] at hcond
      exact Bool.false_ne_true hcond
    · have hm : q.val ∈ (List.range 32).filter fun p => !s.pairLocal p && s.pairState p != ringDisabled :=
        List.mem_filter.2 ⟨List.mem_range.2 q.isLt, by rw [hloc, bne_iff_ne.2 hdis]; rfl⟩
      exact State.each_at (g := fun p s => s.linkDropped p) (P := fun u => u.pairState q = ringDisabled) (Q := fun _ => True) hm (List.nodup_range.filter _)
        (fun u _ => u.linkDropped_state q) (fun p hp u => ⟨fun _ => trivial, fun h => (u.linkDropped_other hp).trans h⟩) trivial
  · have hcond := (List.mem_filter.1 hm).2
    rw [hloc] at hcond
    exact Bool.false_ne_true hcond

/-- The registers of the translation alone clear their V. -/
theorem State.clearXlt_rd {o : Nat} (ho : o < 0x10000) : s.clearXlt.rd o = s.rd o := by
  refine foldl_keeps_mem (P := fun u => u.rd o) (fun p hp u => ?_) s
  have hcond := (List.mem_filter.1 hp).2
  rw [Bool.and_eq_true, decide_eq_true_eq] at hcond
  have hne : o ≠ p.1 := by omega
  split
  · rfl
  · exact State.rd_setF_other _ _ _ hne

theorem State.loadRegs_rd (data : List Byte) {o : Nat} : ∀ (rs : List Nat) (k : Nat) (s : State), o ∉ rs →
    (s.loadRegs data rs k).rd o = s.rd o := by
  intro rs
  induction rs with
  | nil => exact fun _ _ _ => rfl
  | cons r rs ih =>
    intro k s ho
    rw [State.loadRegs]
    split
    · exact (ih _ _ (fun h => ho (List.mem_cons_of_mem _ h))).trans (State.rd_wr_other _ _ fun h => ho (h ▸ List.mem_cons_self))
    · rfl

theorem State.loadHost_rd {o : Nat} (ho : o ∉ hostRegs) (hnvm : o ∉ [R.NVM_ECC_CNT, R.NVM_STATUS]) : s.loadHost.rd o = s.rd o := by
  unfold State.loadHost
  split
  · rfl
  · split
    · next hread => exact (State.loadRegs_rd _ hostRegs 0 _ ho).trans ((State.readRecord_seen hread).regs o hnvm)
    · rfl

/-- HOST_LINK_STATUS as the function's reset leaves it. -/
def State.linkCleared (s : State) : State :=
  ((s.setF R.HOST_LINK_STATUS F.HOST_LINK_STATUS_BME 0).setF R.HOST_LINK_STATUS F.HOST_LINK_STATUS_MSIX 0).setF
    R.HOST_LINK_STATUS F.HOST_LINK_STATUS_D3 0

theorem State.resetFunction_rd {o : Nat} (ho : o < 0x10000) (hirq : o ≠ R.HOST_IRQ_STATUS) : s.resetFunction.rd o = s.linkCleared.rd o := by
  unfold State.resetFunction
  rw [State.clearXlt_rd _ ho, State.rd_wr_other _ _ hirq]
  rfl

theorem State.resetFunction_irq : s.resetFunction.rd R.HOST_IRQ_STATUS = 0#32 := by
  unfold State.resetFunction
  rw [State.clearXlt_rd _ (by decide), State.rd_wr_same]

theorem State.linkReset_eq : s.linkReset = s.linksDropped.resetFunction.loadHost.setF R.HOST_POLL F.HOST_POLL_EN 0 := rfl

/-- The link's status after a reset: that of before, less its three enables. -/
theorem State.linkReset_linkStatus : s.linkReset.rd R.HOST_LINK_STATUS = s.linksDropped.linkCleared.rd R.HOST_LINK_STATUS := by
  rw [State.linkReset_eq, State.rd_setF_other _ _ _ (by decide), State.loadHost_rd _ (by decide) (by decide),
    State.resetFunction_rd _ (by decide) (by decide)]

theorem State.linkReset_pair (q : Fin 32) : s.linkReset.pairState q = s.linksDropped.pairState q := by
  have hq := q.isLt
  have hlink : R.RING_STATUS q ≠ R.HOST_LINK_STATUS := by simp only [R.RING_STATUS, R.HOST_LINK_STATUS]; omega
  have hhost : R.RING_STATUS q ∉ hostRegs := by
    simp only [hostRegs, List.mem_cons, List.not_mem_nil, or_false, R.RING_STATUS, R.HOST_DB_BASE_LO, R.HOST_DB_BASE_HI, R.HOST_POLL,
      R.HOST_INTX_EN, R.HOST_GLB_EN, R.HOST_SPI_IRQ_EN]
    omega
  have hnvm : R.RING_STATUS q ∉ [R.NVM_ECC_CNT, R.NVM_STATUS] := by
    simp only [List.mem_cons, List.not_mem_nil, or_false, R.RING_STATUS, R.NVM_ECC_CNT, R.NVM_STATUS]
    omega
  rw [State.pairState, State.linkReset_eq, State.f_setF_reg _ _ _ _ (by simp only [R.RING_STATUS, R.HOST_POLL]; omega), State.f,
    State.loadHost_rd _ hhost hnvm, State.resetFunction_rd _ (by simp only [R.RING_STATUS]; omega)
    (by simp only [R.RING_STATUS, R.HOST_IRQ_STATUS]; omega), State.linkCleared, State.rd_setF_other _ _ _ hlink,
    State.rd_setF_other _ _ _ hlink, State.rd_setF_other _ _ _ hlink]
  rfl

theorem State.linkReset_leaves : s.linkReset.rd R.HOST_IRQ_STATUS = 0#32 ∧ s.linkReset.flag R.HOST_POLL F.HOST_POLL_EN = false ∧
    s.linkReset.flag R.HOST_LINK_STATUS F.HOST_LINK_STATUS_BME = false ∧
    s.linkReset.f R.HOST_LINK_STATUS F.HOST_LINK_STATUS_DOWNS = s.f R.HOST_LINK_STATUS F.HOST_LINK_STATUS_DOWNS := by
  refine ⟨?_, State.flag_setF_zero _ _ (by decide), ?_, ?_⟩
  · rw [State.linkReset_eq, State.rd_setF_other _ _ _ (by decide), State.loadHost_rd _ (by decide) (by decide), State.resetFunction_irq]
  · rw [State.flag, State.f, State.linkReset_linkStatus, ← State.f, ← State.flag, State.linkCleared,
      State.flag_setF_field _ _ (by decide) (by decide) (.inl (by decide)), State.flag_setF_field _ _ (by decide) (by decide) (.inl (by decide))]
    exact State.flag_setF_zero _ _ (by decide)
  · rw [State.f, State.linkReset_linkStatus, ← State.f, State.linkCleared,
      State.f_setF_field _ _ (by decide) (by decide) (.inr (by decide)), State.f_setF_field _ _ (by decide) (by decide) (.inr (by decide)),
      State.f_setF_field _ _ (by decide) (by decide) (.inr (by decide)), State.f,
      State.linksDropped_rd _ (by decide) (by decide) fun g => by simp only [R.HOST_LINK_STATUS, R.GLN_STATUS]; omega]
    rfl

end

/-! The link goes and comes (R260, R261, R403). -/

section
variable (s : State)

theorem State.linkGone_rd {o : Nat} (ho : o ≠ R.HOST_LINK_STATUS) : s.linkGone.rd o = s.rd o := by
  rw [State.linkGone, State.rd_setF_other _ _ _ ho, State.rd_setF_other _ _ _ ho, State.rd_setF_other _ _ _ ho]

/-- A field of the link's status that the loss of the link leaves. -/
theorem State.linkGone_f {d : Fld} (hlo : 5 ≤ d.lo) (hd : d.lo + d.w ≤ 32) : s.linkGone.f R.HOST_LINK_STATUS d = s.f R.HOST_LINK_STATUS d := by
  have hup : F.HOST_LINK_STATUS_LINK_UP.lo + F.HOST_LINK_STATUS_LINK_UP.w ≤ d.lo := Nat.le_trans (by decide) hlo
  have hgen : F.HOST_LINK_STATUS_GEN.lo + F.HOST_LINK_STATUS_GEN.w ≤ d.lo := Nat.le_trans (by decide) hlo
  have hwid : F.HOST_LINK_STATUS_WIDTH.lo + F.HOST_LINK_STATUS_WIDTH.w ≤ d.lo := hlo
  rw [State.linkGone, State.f_setF_field _ _ (by decide) hd (.inr hwid), State.f_setF_field _ _ (by decide) hd (.inr hgen),
    State.f_setF_field _ _ (by decide) hd (.inr hup)]

theorem State.linkGone_down : s.linkGone.flag R.HOST_LINK_STATUS F.HOST_LINK_STATUS_LINK_UP = false := by
  rw [State.linkGone, State.flag_setF_field _ _ (by decide) (by decide) (.inl (by decide)),
    State.flag_setF_field _ _ (by decide) (by decide) (.inl (by decide))]
  exact State.flag_setF_zero _ _ (by decide)

/-- The state that a host link reset of a kind leaves. -/
def State.afterLinkReset (s : State) : LinkReset → State
  | .perst => s.linkReset.linkGone
  | .hot => s.linkReset
  | .linkDown => ((s.linkReset.linkGone).bump R.HOST_LINK_STATUS F.HOST_LINK_STATUS_DOWNS 1).raise 0x90 0 []
  | .flr => s.linkReset

theorem State.afterLinkReset_rd (k : LinkReset) {o : Nat} (ho : o ≠ R.HOST_LINK_STATUS) : (s.afterLinkReset k).rd o = s.linkReset.rd o := by
  cases k with
  | perst => exact State.linkGone_rd _ ho
  | hot => rfl
  | linkDown => rw [State.afterLinkReset, State.raise_rd_of, State.rd_bump_other _ _ _ ho, State.linkGone_rd _ ho]
  | flr => rfl

/-- Bus Master Enable is clear after every reset of the link. -/
theorem State.afterLinkReset_bme (k : LinkReset) : (s.afterLinkReset k).flag R.HOST_LINK_STATUS F.HOST_LINK_STATUS_BME = false := by
  obtain ⟨-, -, hbme, -⟩ := s.linkReset_leaves
  have hgone : s.linkReset.linkGone.flag R.HOST_LINK_STATUS F.HOST_LINK_STATUS_BME = false :=
    (State.flag_congr (State.linkGone_f _ (by decide) (by decide))).trans hbme
  cases k with
  | perst => exact hgone
  | hot => exact hbme
  | linkDown =>
    rw [State.afterLinkReset, State.flag, State.raise_f_of, State.f_bump_field _ _ (by decide) (by decide) (.inl (by decide)), ← State.flag]
    exact hgone
  | flr => exact hbme

theorem State.afterLinkReset_down : (s.afterLinkReset .linkDown).flag R.HOST_LINK_STATUS F.HOST_LINK_STATUS_LINK_UP = false ∧
    (s.afterLinkReset .linkDown).f R.HOST_LINK_STATUS F.HOST_LINK_STATUS_DOWNS =
      min (s.f R.HOST_LINK_STATUS F.HOST_LINK_STATUS_DOWNS + 1) 255 := by
  obtain ⟨-, -, -, hdowns⟩ := s.linkReset_leaves
  constructor
  · rw [State.afterLinkReset, State.flag, State.raise_f_of, State.f_bump_field _ _ (by decide) (by decide) (.inl (by decide)), ← State.flag]
    exact s.linkReset.linkGone_down
  · rw [State.afterLinkReset, State.raise_f_of, State.f_bump_same _ _ _ _ (by decide), State.linkGone_f _ (by decide) (by decide), hdowns]
    rfl

end

/-! Configuration space (R261–R263). -/

section
variable (s : State)

/-- A state without its pending vectors and what it has sent. -/
def State.lessVectors (s : State) : State := { s with msixPend := [], outbox := [] }

theorem State.firePended_frame (n : Nat) : (s.firePended n).lessVectors = s.lessVectors := by
  have hfire (u : State) (h : u.lessVectors = s.lessVectors) : (u.fireVec n).lessVectors = s.lessVectors := by
    have hframe := u.fireVec_frame n
    generalize u.fireVec n = w at hframe ⊢
    rw [hframe]
    exact h
  unfold State.firePended
  dsimp only
  split
  · exact hfire _ rfl
  · rfl

theorem State.firePended_masked (n : Nat) (h : s.flag R.HOST_LINK_STATUS F.HOST_LINK_STATUS_MSIX = false) : s.firePended n = s :=
  if_neg fun hc => by rw [h] at hc; exact Bool.false_ne_true hc.1

theorem State.flag_setF_boolNat (o : Nat) {g : Fld} (h : g.lo + g.w ≤ 32) (hw : 0 < g.w) (b : Bool) : (s.setF o g (boolNat b)).flag o g = b := by
  cases b with
  | false => exact State.flag_setF_zero _ _ h
  | true => exact State.flag_setF_one _ _ h hw

/-- The link's status as configuration space sets it. -/
def State.enablesSet (s : State) (bme d3 msix : Bool) : State :=
  ((s.setF R.HOST_LINK_STATUS F.HOST_LINK_STATUS_BME (boolNat bme)).setF R.HOST_LINK_STATUS F.HOST_LINK_STATUS_D3 (boolNat d3)).setF
    R.HOST_LINK_STATUS F.HOST_LINK_STATUS_MSIX (boolNat msix)

theorem State.enablesSet_leaves (bme d3 msix : Bool) :
    (s.enablesSet bme d3 msix).dmaAllowed = (bme && !d3) ∧
    (s.enablesSet bme d3 msix).flag R.HOST_LINK_STATUS F.HOST_LINK_STATUS_MSIX = msix ∧
    s.sameRegs (s.enablesSet bme d3 msix) [R.HOST_LINK_STATUS] := by
  have hbme : (s.enablesSet bme d3 msix).flag R.HOST_LINK_STATUS F.HOST_LINK_STATUS_BME = bme := by
    rw [State.enablesSet, State.flag_setF_field _ _ (by decide) (by decide) (.inl (by decide)),
      State.flag_setF_field _ _ (by decide) (by decide) (.inl (by decide)), State.flag_setF_boolNat _ _ (by decide) (by decide)]
  have hd3 : (s.enablesSet bme d3 msix).flag R.HOST_LINK_STATUS F.HOST_LINK_STATUS_D3 = d3 := by
    rw [State.enablesSet, State.flag_setF_field _ _ (by decide) (by decide) (.inr (by decide)),
      State.flag_setF_boolNat _ _ (by decide) (by decide)]
  exact ⟨by rw [State.dmaAllowed, hbme, hd3], State.flag_setF_boolNat _ _ (by decide) (by decide) msix,
    (((s.sameRegs_refl _).setF List.mem_cons_self _ _).setF List.mem_cons_self _ _).setF List.mem_cons_self _ _⟩

/-- The Command register as configuration space sets it. -/
def State.linkSet (s : State) (bme d3 msix intDis : Bool) : State := { s.enablesSet bme d3 msix with intDis := intDis }

theorem State.linkSet_leaves (bme d3 msix intDis : Bool) :
    (s.linkSet bme d3 msix intDis).dmaAllowed = (bme && !d3) ∧
    (s.linkSet bme d3 msix intDis).flag R.HOST_LINK_STATUS F.HOST_LINK_STATUS_MSIX = msix ∧
    s.sameRegs (s.linkSet bme d3 msix intDis) [R.HOST_LINK_STATUS] := by
  have h := s.enablesSet_leaves bme d3 msix
  unfold State.linkSet
  generalize s.enablesSet bme d3 msix = t at h ⊢
  exact h

/-- Configuration space written: the vectors that are pending and unmasked fire. -/
def State.configured (s : State) (bme d3 msix intDis : Bool) : State :=
  State.each (s.linkSet bme d3 msix intDis) (List.range 33) fun n s => s.firePended n

theorem State.configured_lessVectors (bme d3 msix intDis : Bool) :
    (s.configured bme d3 msix intDis).lessVectors = (s.linkSet bme d3 msix intDis).lessVectors :=
  State.each_keeps (f := State.lessVectors) (fun n u => u.firePended_frame n) _ _

theorem State.configured_frame (bme d3 msix intDis : Bool) : s.configured bme d3 msix intDis = { s.linkSet bme d3 msix intDis with
    msixPend := (s.configured bme d3 msix intDis).msixPend, outbox := (s.configured bme d3 msix intDis).outbox } := by
  have h := s.configured_lessVectors bme d3 msix intDis
  generalize s.configured bme d3 msix intDis = t at h ⊢
  generalize s.linkSet bme d3 msix intDis = u at h ⊢
  have hback (x : State) : x = { x.lessVectors with msixPend := x.msixPend, outbox := x.outbox } := rfl
  rw [hback t, h]
  rfl

theorem State.configured_masked (bme d3 intDis : Bool) : s.configured bme d3 false intDis = s.linkSet bme d3 false intDis := by
  obtain ⟨-, hmsix, -⟩ := s.linkSet_leaves bme d3 false intDis
  have hall (l : List Nat) : State.each (s.linkSet bme d3 false intDis) l (fun n s => s.firePended n) = s.linkSet bme d3 false intDis := by
    induction l with
    | nil => rfl
    | cons n l ih =>
      have hstep : State.each (s.linkSet bme d3 false intDis) (n :: l) (fun n s => s.firePended n) =
        State.each ((s.linkSet bme d3 false intDis).firePended n) l (fun n s => s.firePended n) := rfl
      rw [hstep, State.firePended_masked _ n hmsix, ih]
  exact hall _

end

/-! DMA faults (R306, R309). -/

section
variable (s : State) (q : Fin 32) (op index addr kind : Nat)

/-- A DMA fault of an active pair: it is logged, and the pair stalls. -/
theorem State.dmaLog_stalls (hact : s.pairState q = ringActive) (hkind : 5 ≤ kind) :
    ((s.dmaLog op q index addr 0 kind).stallDma q).pairState q = ringStalled ∧
    ((s.dmaLog op q index addr 0 kind).stallDma q).f (R.RING_STATUS q) F.RING_STATUS_STALL = 3 ∧
    ((s.dmaLog op q index addr 0 kind).stallDma q).rdN (R.DMAF_INFO s.dmafNext) = dmafInfo kind op q index ∧
    ((s.dmaLog op q index addr 0 kind).stallDma q).rdN (R.DMAF_ADDR_LO s.dmafNext) = addr % 2 ^ 32 ∧
    ((s.dmaLog op q index addr 0 kind).stallDma q).rdN (R.DMAF_DONE s.dmafNext) = 0 ∧
    ((s.dmaLog op q index addr 0 kind).stallDma q).f R.DMAF_STATUS F.DMAF_STATUS_NEXT = (s.dmafNext + 1) % 8 ∧
    faultOf 0x96 0 (leBytes 4 (dmafInfo kind op q index) ++ leBytes 4 addr ++ leBytes 4 (addr / 2 ^ 32) ++ leBytes 4 0) ∈
      ((s.dmaLog op q index addr 0 kind).stallDma q).raised := by
  have hk := s.dmafNext_lt
  have hfault : faultOf 0x96 0 (leBytes 4 (dmafInfo kind op q index) ++ leBytes 4 addr ++ leBytes 4 (addr / 2 ^ 32) ++ leBytes 4 0) ∈
      (s.dmaLog op q index addr 0 kind).raised := by
    rw [State.dmaLog_eq, if_neg (Nat.not_le.2 hkind)]
    exact List.mem_append_right _ List.mem_cons_self
  obtain ⟨hinfo, haddr, hdone, hnext⟩ := s.dmaLog_record op q index addr 0 kind
  obtain ⟨-, hst, -⟩ := s.dmaLog_queueKept op q index addr 0 kind q q.isLt
  generalize s.dmaLog op q index addr 0 kind = t at hfault hinfo haddr hdone hnext hst ⊢
  rw [State.stallDma, if_pos (hst.trans hact)]
  have hregs := t.setPairState_sameRegs q ringStalled 3
  have hrd {o : Nat} (hlo : 0x1100 ≤ o) (hhi : o ≤ 0x1180) : (t.setPairState q ringStalled 3).rd o = t.rd o := hregs o fun hm => by
    simp only [eventRegs, List.mem_cons, List.not_mem_nil, or_false, R.RING_STATUS, R.EVENT_STATUS, R.CPLQ_STATUS, R.HOST_GLB_STATUS] at hm
    omega
  have hsub : ∀ r ∈ t.raised, r ∈ (t.setPairState q ringStalled 3).raised := State.setPairState_raised_mem t q ringStalled 3
  refine ⟨t.setPairState_pairState q _ _ (by decide), t.setPairState_stall q _ _ (by decide), ?_, ?_, ?_, ?_, hsub _ hfault⟩
  · rw [State.rdN, hrd (by simp only [R.DMAF_INFO]; omega) (by simp only [R.DMAF_INFO]; omega)]
    exact hinfo
  · rw [State.rdN, hrd (by simp only [R.DMAF_ADDR_LO]; omega) (by simp only [R.DMAF_ADDR_LO]; omega)]
    exact haddr
  · rw [State.rdN, hrd (by simp only [R.DMAF_DONE]; omega) (by simp only [R.DMAF_DONE]; omega)]
    exact hdone
  · rw [State.f, hrd (by decide) (by decide)]
    exact hnext

end

end Sys2Proof.Machine
end

section
/-! The host link's commands and the failures of its DMA (R260, R261, R302, R306, R309). -/

namespace Sys2Proof.Machine

section
variable {s : State} (hl : s.live)
include hl

theorem exec_hostLinkReset (k : LinkReset) : exec (.hostLinkReset k) s = .next (s.afterLinkReset k).settle := by
  rw [exec_powered (c := .hostLinkReset k) (g := fun s => match k with
    | .perst => s.linkReset.linkGone
    | .hot => s.linkReset
    | .linkDown => ((s.linkReset.linkGone).bump R.HOST_LINK_STATUS F.HOST_LINK_STATUS_DOWNS 1).raise 0x90 0 []
    | .flr => s.linkReset) hl rfl]
  cases k <;> rfl

theorem exec_bmeChange (bme d3 msix id : Bool) : exec (.bmeChange bme d3 msix id) s = .next (s.configured bme d3 msix id) := by
  have hraised : (s.configured bme d3 msix id).raised = [] := by
    rw [State.configured_frame]
    exact hl.2
  rw [exec_powered (c := .bmeChange bme d3 msix id) (g := fun s => s.configured bme d3 msix id) hl rfl, State.settle_quiet hraised]

/-- A DMA fails with a kind of the link's, which needs no translation to bear it out. -/
theorem exec_dmaFault (op : Fin 7) (q : Fin 32) (index addr done : Nat) (kind : Fin 10) :
    exec (.dmaFault op q index addr done kind) s = .next (s.dmaFails op q index addr done kind).settle :=
  exec_powered (g := fun s => s.dmaFails op q index addr done kind) hl rfl

end

section
variable {s : State} {q : Fin 32} {addr : Nat} (index done : Nat) {kind : Nat}

theorem State.fetchable_active (h : s.fetchable q = true) : s.pairState q = ringActive := by
  unfold State.fetchable at h
  simp only [Bool.and_eq_true, beq_iff_eq] at h
  exact h.1.1.1.1

theorem State.canDrain_active (h : s.canDrain q = true) : s.pairState q = ringActive := by
  unfold State.canDrain at h
  simp only [Bool.and_eq_true, beq_iff_eq] at h
  exact h.1.1

/-- A kind of the link's that the operation can meet strikes it. -/
theorem State.struck {w : Bool} (hkind : 5 ≤ kind) (hs : kindStrikes kind w = true) :
    ¬ (!kindStrikes kind w || !s.kindTrue addr kind w) = true := by
  have htrue : s.kindTrue addr kind w = true := if_pos hkind
  rw [hs, htrue]
  decide

theorem State.dmaFails_fetch (hloc : s.pairLocal q = false) (hfetch : s.fetchable q = true)
    (hin : within addr (s.sqBase q + 64 * s.sqHead q) 64 = true) (hkind : 5 ≤ kind) :
    s.dmaFails 2 q index addr done kind = (s.dmaLog 2 q (s.sqHead q) addr 0 kind).stallDma q := by
  have hstrikes : kindStrikes kind false = true := by
    rw [kindStrikes, if_neg Bool.false_ne_true, Bool.and_eq_true, decide_eq_true_eq, bne_iff_ne]
    omega
  have hcond : (s.fetchable q && !s.pairLocal q && within addr (s.sqBase q + 64 * s.sqHead q) 64) = true := by
    rw [hfetch, hloc, hin]
    rfl
  exact (if_neg (State.struck hkind hstrikes)).trans ((if_neg (show ¬ (2 : Nat) = 0 by decide)).trans
    ((if_neg (show ¬ (2 : Nat) = 1 by decide)).trans ((if_pos rfl).trans (if_pos hcond))))

theorem State.dmaFails_completion (hloc : s.pairLocal q = false) (hdrain : s.canDrain q = true)
    (hin : within addr (s.cqBase q + 32 * s.cqTail q) 32 = true) (hheld : (takeHeld q s.cplq).isSome = true) :
    s.dmaFails 3 q index addr done 9 = (s.dmaLog 3 q (s.cqTail q) addr 0 9).stallDma q := by
  have hcond : (s.canDrain q && !s.pairLocal q && (takeHeld q s.cplq).isSome && within addr (s.cqBase q + 32 * s.cqTail q) 32) = true := by
    rw [hdrain, hloc, hheld, hin]
    rfl
  exact if_pos hcond

theorem State.dmaFails_poll (hpolls : s.polls = true) (hdue : s.pollDue = true)
    (hin : within addr s.dbBase (8 * (s.polledPairs.getLastD 0 + 1)) = true) :
    s.dmaFails 0 q index addr done 9 = s.pollNoted.pollFault addr 9 := by
  have hcond : (s.polls && s.pollDue && within addr s.dbBase (8 * (s.polledPairs.getLastD 0 + 1))) = true := by
    rw [hpolls, hdue, hin]
    rfl
  exact if_pos hcond

/-- A poll that fails sets POLL_FAULT, whether the log takes it or not. -/
theorem State.pollFault_flag (s : State) (addr kind : Nat) : (s.pollFault addr kind).flag R.XLT_STATUS F.XLT_STATUS_POLL_FAULT = true := by
  have hset : (s.setF R.XLT_STATUS F.XLT_STATUS_POLL_FAULT 1).flag R.XLT_STATUS F.XLT_STATUS_POLL_FAULT = true :=
    State.flag_setF_one _ _ (by decide) (by decide)
  have hlog (t : State) (h : t.flag R.XLT_STATUS F.XLT_STATUS_POLL_FAULT = true) (p i : Nat) :
      (t.dmaLog 0 p i addr 0 kind).flag R.XLT_STATUS F.XLT_STATUS_POLL_FAULT = true := by
    rw [State.flag, State.f, State.dmaLog_rd _ _ _ _ _ _ _ (.inl (by decide))]
    exact h
  unfold State.pollFault
  generalize s.setF R.XLT_STATUS F.XLT_STATUS_POLL_FAULT 1 = t at hset ⊢
  dsimp only
  generalize hfive : t.takeFree 5 = a
  have hone : a.2.flag R.XLT_STATUS F.XLT_STATUS_POLL_FAULT = true := by
    rw [State.flag, State.f, State.rd, ← hfive, State.takeFree_regs]
    exact hset
  generalize hsixteen : a.2.takeFree 16 = b
  have htwo : b.2.flag R.XLT_STATUS F.XLT_STATUS_POLL_FAULT = true := by
    rw [State.flag, State.f, State.rd, ← hsixteen, State.takeFree_regs]
    exact hone
  have hboth : ∀ due : Bool, (if due then ({ b.2 with sys := { b.2.sys with pollAt := some t.cyc } } : State).dmaLog 0 a.1 b.1 addr 0 kind
      else t).flag R.XLT_STATUS F.XLT_STATUS_POLL_FAULT = true := by
    intro due
    split
    · exact hlog { b.2 with sys := { b.2.sys with pollAt := some t.cyc } } htwo a.1 b.1
    · exact hset
  exact hboth _

/-- A command whose buffer fails ends with DMA_FAULT. -/
theorem State.ctlFault_eq {op v len : Nat} {e : List Byte} {l : List (List Byte)} (hwait : (s.srcRt q).waiting = e :: l)
    (hready : s.ctlReady q (s.pairType q) e = true) (hturn : s.ctlTurn q (s.pairType q) e = true)
    (hbuf : ctlBuf (s.pairType q) op e = some (v, len)) (hv : v / 2 ^ 63 ≠ 1) (haddr : addr = v + done) (hlen : done < len) :
    s.ctlFault op q addr done kind = (((s.takeEntry q e).dmaLog op q (s.frontIdx q) addr done kind).canPassDone (s.pairType q) e).ctlDone q e
      { status := 0x53, r0 := if op = 5 then done else 0 } := by
  have hcond : (!s.ctlReady q (s.pairType q) e || !s.ctlTurn q (s.pairType q) e || v / 2 ^ 63 == 1 || addr != v + done ||
      decide (len ≤ done)) = false := by
    rw [hready, hturn, beq_false_of_ne hv, haddr, bne_self_eq_false, decide_eq_false (Nat.not_le.2 hlen)]
    rfl
  unfold State.ctlFault
  rw [hwait]
  dsimp only
  rw [hbuf]
  dsimp only
  rw [hcond, if_neg Bool.false_ne_true]

theorem State.ctlFault_completes {op v len : Nat} {e : List Byte} {l : List (List Byte)} (hwait : (s.srcRt q).waiting = e :: l)
    (hready : s.ctlReady q (s.pairType q) e = true) (hturn : s.ctlTurn q (s.pairType q) e = true)
    (hbuf : ctlBuf (s.pairType q) op e = some (v, len)) (hv : v / 2 ^ 63 ≠ 1) (haddr : addr = v + done) (hlen : done < len) :
    s.completesTo (s.ctlFault op q addr done kind) q (ctlCpl e { status := 0x53, r0 := if op = 5 then done else 0 } s.now48) (ctlWorthy e) := by
  rw [State.ctlFault_eq done hwait hready hturn hbuf hv haddr hlen]
  exact (((s.takeEntry_queueKept q e).trans (State.dmaLog_queueKept _ _ _ _ _ _ _ q q.isLt)).trans
    (State.canPassDone_queueKept _ _ _)).ctlDone _ _

/-- The failure of a command's buffer is a fault of the command. -/
theorem State.dmaFails_buffer (s : State) {op : Fin 7} (hop : op = 4 ∨ op = 5) :
    s.dmaFails op q index addr done 9 = s.ctlFault op q addr done 9 := by
  rcases hop with h | h
  · rw [h]
    rfl
  · rw [h]
    rfl

end

/-- Settles O46: link resets, configuration space, training, SYNC and the failures of each kind of DMA. -/
theorem hostLinkResetsAndDmaFaultsStall : Obligations.HostLinkResetsAndDmaFaultsStall := by
  intro s p q hl
  refine ⟨fun k => ?_, fun bme d3 msix id => ?_, fun g w hover => ?_, fun g w hg hw hgen hwid => ?_, ?_, fun index addr done hloc => ?_⟩
  · obtain ⟨hirq, hpoll, -, -⟩ := s.linkReset_leaves
    obtain ⟨hhost, hlocal⟩ := s.linksDropped_pair q
    have hq := q.isLt
    have hpair : (s.afterLinkReset k).pairState q = s.linksDropped.pairState q := by
      rw [State.pairState, State.f, s.afterLinkReset_rd k (by simp only [R.RING_STATUS, R.HOST_LINK_STATUS]; omega)]
      exact s.linkReset_pair q
    refine ⟨_, exec_hostLinkReset hl k, fun h => hpair.trans (hhost h), fun h => hpair.trans (hlocal h),
      (s.afterLinkReset_rd k (by decide)).trans hirq, ?_, ?_, fun hk => ?_⟩
    · rw [State.flag, State.f, s.afterLinkReset_rd k (by decide)]
      exact hpoll
    · rw [State.dmaAllowed, s.afterLinkReset_bme k, Bool.false_and]
    · obtain ⟨hdown, hcount⟩ := s.afterLinkReset_down
      rw [hk]
      exact ⟨hdown, List.mem_append_right _ List.mem_cons_self, hcount⟩
  · obtain ⟨hdma, hmsix, hregs⟩ := s.linkSet_leaves bme d3 msix id
    have hframe := s.configured_frame bme d3 msix id
    have hmask : msix = false → s.configured bme d3 msix id = s.linkSet bme d3 msix id := fun h => by
      rw [h]
      exact s.configured_masked bme d3 id
    refine ⟨_, exec_bmeChange hl bme d3 msix id, ?_⟩
    generalize s.configured bme d3 msix id = t at hframe hmask ⊢
    have hset : s.linkSet bme d3 msix id = { s with regs := (s.linkSet bme d3 msix id).regs, intDis := id } := rfl
    generalize s.linkSet bme d3 msix id = u at hdma hmsix hregs hframe hmask hset
    have hint : u.intDis = id := by rw [hset]
    have hpend : u.msixPend = s.msixPend := by rw [hset]
    have hout : u.outbox = s.outbox := by rw [hset]
    rw [hframe]
    refine ⟨hregs, hdma, hmsix, hint, ?_, fun h => ?_⟩
    · rw [hset]
    · have ht := hmask h
      exact ⟨(congrArg State.msixPend ht).trans hpend, (congrArg State.outbox ht).trans hout⟩
  · have hexec : exec (.linkUp g w) s = execLinkUp g w s := rfl
    rw [hexec, execLinkUp, State.act_on _ hl.1]
    rw [if_pos (by rcases hover with h | h <;> simp [h]), State.settle_quiet hl.2]
  · have hexec : exec (.linkUp g w) s = execLinkUp g w s := rfl
    have honly := (((State.onlyRegs_refl hl.2 [R.HOST_LINK_STATUS]).setF List.mem_cons_self F.HOST_LINK_STATUS_LINK_UP 1).setF
      List.mem_cons_self F.HOST_LINK_STATUS_GEN g).setF List.mem_cons_self F.HOST_LINK_STATUS_WIDTH w
    have hgv : g.val ≠ 0 := fun h => hg (Fin.ext h)
    have hwv : w.val ≠ 0 := fun h => hw (Fin.ext h)
    rw [execLinkUp, State.act_on _ hl.1, if_neg (by omega)] at hexec
    dsimp only at hexec
    rw [State.settle_quiet honly.raised] at hexec
    refine ⟨_, hexec, honly, ?_, ?_, ?_⟩
    · rw [State.flag_setF_field _ _ (by decide) (by decide) (.inl (by decide)),
        State.flag_setF_field _ _ (by decide) (by decide) (.inl (by decide)), State.flag_setF_one _ _ (by decide) (by decide)]
    · rw [State.f_setF_field _ _ (by decide) (by decide) (.inl (by decide)), State.f_setF_same _ _ _ _ (by decide)]
      exact Nat.mod_eq_of_lt g.isLt
    · rw [State.f_setF_same _ _ _ _ (by decide)]
      exact Nat.mod_eq_of_lt (Nat.lt_trans w.isLt (by decide))
  · have hbusy := (State.onlyRegs_refl hl.2 [R.XLT_STATUS]).setF List.mem_cons_self F.XLT_STATUS_BUSY 1
    have hlive : (s.setF R.XLT_STATUS F.XLT_STATUS_BUSY 1).live := hl
    have hdone := (State.onlyRegs_refl hlive.2 [R.XLT_STATUS]).setF List.mem_cons_self F.XLT_STATUS_BUSY 0
    exact ⟨_, exec_powered_quiet (c := .xltSync p) (g := fun s => s.setF R.XLT_STATUS F.XLT_STATUS_BUSY 1) hl rfl hl.2, hbusy,
      State.flag_setF_one _ _ (by decide) (by decide), _,
      exec_powered_quiet (c := .xltSyncDone) (g := fun s => s.setF R.XLT_STATUS F.XLT_STATUS_BUSY 0) hlive rfl hl.2, hdone,
      State.flag_setF_zero _ _ (by decide)⟩
  · dsimp only
    have hexec (op : Fin 7) (kind : Fin 10) := exec_dmaFault hl op q index addr done kind
    refine ⟨fun hfetch hin => ⟨fun kind hkind => ?_, ?_⟩, fun hdrain hin hheld => ?_, fun hpolls hdue hin => ?_,
      fun op e l v len hop hwait hready hturn hbuf hv haddr hlen => ?_⟩
    · have hact : s.pairState q = ringActive := State.fetchable_active hfetch
      exact ⟨_, (hexec 2 kind).trans (congrArg (fun u : State => Host.Outcome.next u.settle) (State.dmaFails_fetch index done hloc hfetch hin hkind)),
        s.dmaLog_stalls q 2 _ addr kind hact hkind⟩
    · have hact : s.pairState q = ringActive := State.fetchable_active hfetch
      have htime := exec_powered (c := .cplTimeout 2 q index addr done) (g := fun s => s.dmaFails 2 q index addr done 7) hl rfl
      exact ⟨_, htime.trans (congrArg (fun u : State => Host.Outcome.next u.settle) (State.dmaFails_fetch index done hloc hfetch hin (by decide))),
        s.dmaLog_stalls q 2 _ addr 7 hact (by decide)⟩
    · have hact : s.pairState q = ringActive := State.canDrain_active hdrain
      exact ⟨_, (hexec 3 9).trans (congrArg (fun u : State => Host.Outcome.next u.settle) (State.dmaFails_completion index done hloc hdrain hin hheld)),
        s.dmaLog_stalls q 3 _ addr 9 hact (by decide)⟩
    · exact ⟨_, (hexec 0 9).trans (congrArg (fun u : State => Host.Outcome.next u.settle) (State.dmaFails_poll index done hpolls hdue hin)),
        s.pollNoted.pollFault_flag addr 9⟩
    · have hval : (op : Nat) = 5 ↔ op = 5 := (Fin.ext_iff (b := 5)).symm
      have hcpl := State.ctlFault_completes (kind := 9) done hwait hready hturn hbuf hv haddr hlen
      rw [if_congr hval rfl rfl] at hcpl
      exact ⟨_, (hexec op 9).trans (congrArg (fun u : State => Host.Outcome.next u.settle) (State.dmaFails_buffer index done s hop)), hcpl⟩

end Sys2Proof.Machine
end

section
/-! What every command of a CONTROL and a BLOB pair has in common (R286–R289). -/

namespace Sys2Proof.Machine

/-! The run of a command (R286, R288, R289). -/

section
variable {s : State} {p typ op : Nat} {e : List Byte} {used : List (Nat × Nat)} {ok nvm : Bool} {g : Ctl → State → Option (State × CtlRes)}

/-- A command that has run: its port is free, and it completes. -/
def State.ended (t : State) (p typ : Nat) (e : List Byte) (r : CtlRes) : State := (t.canPassDone typ e).ctlDone p e r

variable (hready : s.ctlReady p typ e = true) (hturn : s.ctlTurn p typ e = true) (hop : ctlOp e = op)
include hready hturn hop

/-- An entry that may run is not left waiting. -/
theorem ctlRun_due : ¬ (!s.ctlReady p typ e || ctlOp e != op || !s.ctlTurn p typ e) = true := by
  rw [hready, hturn, hop, bne_self_eq_false]
  decide

theorem State.ctlRun_malformed (hform : ctlClean e used = false ∨ ok = false) :
    s.ctlRun p typ op e used ok nvm g = (s.takeEntry p e).ctlDone p e { status := 0x15 } := by
  have hcond : (!ctlClean e used || !ok) = true := by
    rcases hform with h | h <;> rw [h]
    · rfl
    · exact Bool.or_true _
  exact (if_neg (ctlRun_due hready hturn hop)).trans (if_pos hcond)

variable (hclean : ctlClean e used = true) (hok : ok = true)
include hclean hok

omit hready hturn hop in
theorem ctlRun_wellFormed : ¬ (!ctlClean e used || !ok) = true := by
  rw [hclean, hok]
  decide

theorem State.ctlRun_busy (hnvm : nvm = true) (hrec : s.recalled = false) :
    s.ctlRun p typ op e used ok nvm g = (s.takeEntry p e).ctlDone p e { status := 0x51, detail := 0x0001 } := by
  have hcond : (nvm && !s.recalled) = true := by rw [hnvm, hrec]; rfl
  exact (if_neg (ctlRun_due hready hturn hop)).trans ((if_neg (ctlRun_wellFormed hclean hok)).trans (if_pos hcond))

theorem State.ctlRun_result (hfree : nvm = false ∨ s.recalled = true) {r : State × CtlRes}
    (hg : g ⟨p, s.frontIdx p, e⟩ (s.takeEntry p e) = some r) : s.ctlRun p typ op e used ok nvm g = r.1.ended p typ e r.2 := by
  have hcond : ¬ (nvm && !s.recalled) = true := by
    rcases hfree with h | h <;> rw [h]
    · rw [Bool.false_and]
      decide
    · rw [Bool.not_true, Bool.and_false]
      decide
  rw [State.ctlRun]
  dsimp only
  rw [if_neg (ctlRun_due hready hturn hop), if_neg (ctlRun_wellFormed hclean hok), if_neg hcond, hg]
  rfl

end

/-! What the completion leaves. -/

section
variable {s t : State} {p : Nat} (typ : Nat) (e : List Byte) (r : CtlRes)

theorem State.RegsOnly.raise_frame {s u : State} (h : s.RegsOnly u) (i j : Nat) (b : List Byte) : u.raise i j b = { s with
    regs := (u.raise i j b).regs, cycle := (u.raise i j b).cycle, raised := (u.raise i j b).raised } := by
  rw [h]
  rfl

theorem State.discardCpl_frame (t : State) (p : Nat) (b : List Byte) : t.discardCpl p b = { t with
    regs := (t.discardCpl p b).regs, cycle := (t.discardCpl p b).cycle, raised := (t.discardCpl p b).raised } :=
  ((State.regsOnly_bump _ _ _ _).trans (State.regsOnly_bump _ _ _ _)).raise_frame _ _ _

theorem State.discardCan_frame (t : State) (n : Nat) (b : List Byte) : t.discardCan n b = { t with
    regs := (t.discardCan n b).regs, cycle := (t.discardCan n b).cycle, raised := (t.discardCan n b).raised } :=
  ((State.regsOnly_bump _ _ _ _).trans (State.regsOnly_bump _ _ _ _)).raise_frame _ _ _

theorem State.complete_frame (t : State) (p : Nat) (b : List Byte) (w : Bool) : t.complete p b w = { t with
    regs := (t.complete p b w).regs, cycle := (t.complete p b w).cycle, cplq := (t.complete p b w).cplq, cans := (t.complete p b w).cans,
    raised := (t.complete p b w).raised } := by
  unfold State.complete
  dsimp only
  split
  · split
    · rfl
    · split
      · rfl
      · rw [State.discardCpl_frame]
  · split
    · rfl
    · split
      · rfl
      · rw [State.discardCan_frame]

/-- A command that has ended changes its count of losses, the queue and its CAN port alone. -/
theorem State.ended_frame (t : State) (p : Nat) : t.ended p typ e r = { t with
    regs := (t.ended p typ e r).regs, cycle := (t.ended p typ e r).cycle, cplq := (t.ended p typ e r).cplq,
    cans := (t.ended p typ e r).cans, raised := (t.ended p typ e r).raised } := by
  have hdone := State.complete_frame (t.canPassDone typ e) p (ctlCpl e r (t.canPassDone typ e).now48) (ctlWorthy e)
  have hpass := t.canPassDone_frame typ e
  unfold State.ended State.ctlDone
  generalize (t.canPassDone typ e).complete p (ctlCpl e r (t.canPassDone typ e).now48) (ctlWorthy e) = u at hdone ⊢
  generalize t.canPassDone typ e = w at hdone hpass
  rw [hdone, hpass]

theorem State.ended_sameRegs (t : State) (p : Fin 32) : t.sameRegs (t.ended p typ e r) [R.RING_CNT p, R.CPLQ_STATUS] := by
  have hregs : cplRegs p.val = [R.RING_CNT p, R.CPLQ_STATUS] := by rw [cplRegs, if_pos p.isLt]
  have hpass : t.sameRegs (t.canPassDone typ e) [R.RING_CNT p, R.CPLQ_STATUS] := by
    rw [State.canPassDone_frame]
    exact fun _ _ => rfl
  exact hpass.trans (hregs ▸ State.complete_sameRegs _ _ _ _)

theorem State.ended_rd (t : State) {p : Fin 32} {o : Nat} (ho : 0x1190 < o) : (t.ended p typ e r).rd o = t.rd o :=
  t.ended_sameRegs typ e r p o (by
    simp only [List.mem_cons, List.not_mem_nil, or_false, R.RING_CNT, R.CPLQ_STATUS]
    omega)

/-- The command's result joins the queue, where the command has left it as it was. -/
theorem State.QueueKept.ended (h : State.QueueKept p s t) : s.completesTo (t.ended p typ e r) p (ctlCpl e r s.now48) (ctlWorthy e) :=
  (h.trans (t.canPassDone_queueKept typ e)).ctlDone e r

theorem State.ended_localWin (t : State) (p : Nat) : (t.ended p typ e r).localWin = t.localWin := by rw [State.ended_frame]
theorem State.ended_nvm (t : State) (p : Nat) : (t.ended p typ e r).nvm = t.nvm := by rw [State.ended_frame]
theorem State.ended_fw (t : State) (p : Nat) : (t.ended p typ e r).fw = t.fw := by rw [State.ended_frame]
theorem State.ended_outbox (t : State) (p : Nat) : (t.ended p typ e r).outbox = t.outbox := by rw [State.ended_frame]
theorem State.ended_hrw (t : State) (p : Nat) : (t.ended p typ e r).hrw = t.hrw := by rw [State.ended_frame]
theorem State.ended_sys (t : State) (p : Nat) : (t.ended p typ e r).sys = t.sys := by rw [State.ended_frame]

/-- A completion takes back no report. -/
theorem State.complete_raised_mem {x : Raised} (t : State) (p : Nat) (b : List Byte) (w : Bool) (h : x ∈ t.raised) :
    x ∈ (t.complete p b w).raised := by
  have hdiscard (u : State) (hu : u.raised = t.raised) (i j : Nat) (l : List Byte) : x ∈ (u.raise i j l).raised := by
    rw [State.raise_raised, hu]
    exact List.mem_append_left _ h
  unfold State.complete
  dsimp only
  split
  · split
    · exact h
    · split
      · exact h
      · exact hdiscard _ rfl _ _ _
  · split
    · exact h
    · split
      · exact h
      · exact hdiscard _ rfl _ _ _

theorem State.ended_raised_mem {x : Raised} (t : State) (p : Nat) (h : x ∈ t.raised) : x ∈ (t.ended p typ e r).raised := by
  refine State.complete_raised_mem _ p _ _ ?_
  rw [State.canPassDone_frame]
  exact h

/-- A refused or empty command: the pair's count and the queue alone change, and the result is held. -/
theorem State.ended_of_taken (s : State) (p : Fin 32) :
    s.sameRegs ((s.takeEntry p e).ended p typ e r) [R.RING_CNT p, R.CPLQ_STATUS] ∧
    s.completesTo ((s.takeEntry p e).ended p typ e r) p (ctlCpl e r s.now48) (ctlWorthy e) := by
  refine ⟨State.sameRegs.trans ?_ ((s.takeEntry p e).ended_sameRegs typ e r p), (s.takeEntry_queueKept p e).ended typ e r⟩
  rw [State.takeEntry_frame]
  exact fun _ _ => rfl

theorem State.ctlDone_of_taken (s : State) (p : Fin 32) :
    s.sameRegs ((s.takeEntry p e).ctlDone p e r) [R.RING_CNT p, R.CPLQ_STATUS] ∧
    s.completesTo ((s.takeEntry p e).ctlDone p e r) p (ctlCpl e r s.now48) (ctlWorthy e) := by
  have hregs : cplRegs p.val = [R.RING_CNT p, R.CPLQ_STATUS] := by rw [cplRegs, if_pos p.isLt]
  have htake : s.sameRegs (s.takeEntry p e) [R.RING_CNT p, R.CPLQ_STATUS] := by
    rw [State.takeEntry_frame]
    exact fun _ _ => rfl
  exact ⟨htake.trans (hregs ▸ State.complete_sameRegs _ _ _ _), (s.takeEntry_queueKept p e).ctlDone e r⟩

/-- A command of a pair's type other than BLOB leaves the CAN ports. -/
theorem State.ended_control (t : State) (p : Nat) : t.ended p typControl e r = t.ctlDone p e r := by
  have hnone : canPassed typControl e = none := if_neg fun h => absurd h.1 (by decide)
  rw [State.ended, State.canPassDone, hnone]

end

/-! Buffers in the local window (R287). -/

section
variable {v len : Nat} (hwin : v / 2 ^ 63 = 1)
include hwin

theorem bufOk_window (hok : bufOk v len = true) : v % 2 ^ 63 + len ≤ 0x80000 := by
  rw [bufOk, if_pos hwin, decide_eq_true_eq] at hok
  exact hok.2

theorem State.bufRead_window (t : State) (c : Ctl) (r : DmaRead) (g : List Byte → State → Option (State × CtlRes)) :
    t.bufRead c v len r g = g (t.winRead (v % 2 ^ 63) len) t := if_pos hwin

theorem State.bufWrite_window (t : State) (c : Ctl) (b : List Byte) (r : CtlRes) :
    t.bufWrite c v b r = some (t.winWrite (v % 2 ^ 63) b, r) := if_pos hwin

end

section
variable {s t : State}

theorem State.winRead_length (s : State) : ∀ (n a : Nat), (s.winRead a n).length = n
  | 0, _ => rfl
  | n + 1, a => by rw [State.winRead, List.length_cons, State.winRead_length s n]

theorem State.WinOnly.queueKept (h : s.WinOnly t) {p : Nat} (hp : p < 32) : State.QueueKept p s t :=
  ⟨h.cplq, (h.slotKept hp).pairState, by rw [h.1]⟩

/-- Bytes written to a buffer stand there when the command has ended. -/
theorem State.ended_winRead (t : State) (p typ : Nat) (e : List Byte) (r : CtlRes) (b : List Byte) {o : Nat} (h : o + b.length ≤ 0x80000) :
    ((t.winWrite o b).ended p typ e r).winRead o b.length = b :=
  (State.winRead_of_localWin (State.ended_localWin typ e r _ p) o _).trans (State.winRead_winWrite_same b t o h)

/-- Taking an entry leaves the window. -/
theorem State.takeEntry_winRead (s : State) (p : Nat) (e : List Byte) (a n : Nat) : (s.takeEntry p e).winRead a n = s.winRead a n :=
  State.winRead_of_localWin (by rw [State.takeEntry_frame]) a n

end

end Sys2Proof.Machine
end

section
/-! A page of the data NVM, written (R294, R345, R347). -/

namespace Sys2Proof.Machine

section
variable (s : State)

/-- Storing a run of bytes. -/
theorem State.setNvmBytes_nvmByte (a x : Nat) (v : Nat → Byte) : ∀ n : Nat,
    ((List.range n).foldl (fun s j => s.setNvmByte (a + j) (v j)) s).nvmByte x =
      if a ≤ x ∧ x < a + n then v (x - a) else s.nvmByte x := by
  intro n
  induction n with
  | zero => rw [if_neg (by omega)]; rfl
  | succ n ih =>
    rw [List.range_succ, List.foldl_append, List.foldl_cons, List.foldl_nil]
    by_cases hx : x = a + n
    · rw [hx, State.nvmByte_setNvmByte_same, if_pos (by omega), Nat.add_sub_cancel_left]
    · rw [State.nvmByte_setNvmByte_other _ _ hx, ih]
      exact if_congr (by omega) rfl rfl

theorem State.setNvmBytes_nvmGroup (a x n : Nat) (v : Nat → Byte) :
    ((List.range n).foldl (fun s j => s.setNvmByte (a + j) (v j)) s).nvmGroup x = s.nvmGroup x :=
  foldl_keeps (f := fun u => u.nvmGroup x) (g := fun s j => s.setNvmByte (a + j) (v j)) (fun _ _ => rfl) _ s

/-- A programmed group holds its bytes, and every other group what it held. -/
theorem State.programGroup_nvmByte (g x : Nat) (b : List Byte) :
    (s.programGroup g b).nvmByte x = if x / 8 = g then b.getD (x % 8) 0#8 else s.nvmByte x := by
  have hstore := s.setNvmBytes_nvmByte (8 * g) x (fun j => b.getD j 0#8) 8
  rw [State.programGroup, State.nvmByte_setNvmGroup, hstore]
  by_cases hx : x / 8 = g
  · rw [if_pos (by omega), if_pos hx]
    congr 1
    omega
  · rw [if_neg (by omega), if_neg hx]

theorem State.programGroup_nvmGroup (g x : Nat) (b : List Byte) :
    (s.programGroup g b).nvmGroup x = if x = g then .valid else s.nvmGroup x := by
  rw [State.programGroup]
  by_cases hx : x = g
  · rw [hx, State.nvmGroup_setNvmGroup_same, if_pos rfl]
  · rw [State.nvmGroup_setNvmGroup_other _ _ hx, if_neg hx]
    exact s.setNvmBytes_nvmGroup (8 * g) x 8 _

theorem State.clearGroup_nvmByte {g x : Nat} (hx : x / 8 ≠ g) : (s.clearGroup g).nvmByte x = s.nvmByte x := by
  have hstore := s.setNvmBytes_nvmByte (8 * g) x (fun _ => 0xFF#8) 8
  rw [State.clearGroup, State.nvmByte_setNvmGroup, hstore, if_neg (by omega)]

theorem State.unqueuePage_nvmByte (p x : Nat) : (s.unqueuePage p).nvmByte x = s.nvmByte x := by
  unfold State.unqueuePage
  split <;> rfl

/-- The erasure of a page leaves the bytes of every other. -/
theorem State.erasePage_nvmByte {p x : Nat} (hx : x / 128 ≠ p) : (s.erasePage p).nvmByte x = s.nvmByte x := by
  rw [State.erasePage, State.unqueuePage_nvmByte]
  refine foldl_keeps_mem (P := fun u => u.nvmByte x) (fun j hj u => ?_) s
  have hlt := List.mem_range.1 hj
  exact u.clearGroup_nvmByte (by omega)

theorem State.programArmed_nvmByte {g x : Nat} (b : List Byte) (hx : x / 8 ≠ g) : (s.programArmed g b).nvmByte x = s.nvmByte x := by
  have hprog : (s.programGroup g b).nvmByte x = s.nvmByte x := by rw [State.programGroup_nvmByte, if_neg hx]
  unfold State.programArmed
  generalize s.programGroup g b = t at hprog ⊢
  dsimp only
  split
  · rw [State.hwSet_nvmByte_of, State.setF_nvmByte_of, State.nvmByte_setNvmGroup]
    exact hprog
  · exact hprog

/-- Without an inversion armed a group is just programmed. -/
theorem State.programArmed_quiet {g : Nat} (b : List Byte) (h : s.flag R.HRW_INJECT F.HRW_INJECT_ARMED = false) :
    s.programArmed g b = s.programGroup g b := by
  have hflag : (s.programGroup g b).flag R.HRW_INJECT F.HRW_INJECT_ARMED = false := by
    rw [State.flag, State.f, State.rd, State.programGroup_regs]
    exact h
  rw [State.programArmed, hflag, if_neg (fun hc => Bool.false_ne_true hc.1)]

/-! The operations of a page write (R347). -/

variable (p : Nat) (put : Nat → Option Byte)

/-- The bytes that a page write puts into a group of its page. -/
def State.groupBytes (s : State) (p : Nat) (put : Nat → Option Byte) (j : Nat) : List Byte :=
  (List.range 8).map fun b => (put (8 * j + b)).getD (s.nvmPeek1 (8 * (16 * p + j) + b))

/-- Whether a page write programs a group of its page. -/
def State.groupWritten (s : State) (p : Nat) (put : Nat → Option Byte) (keep : Bool) (j : Nat) : Bool :=
  (List.range 8).any (fun b => (put (8 * j + b)).isSome) || (keep && (s.nvmGroup (16 * p + j)).good)

/-- A page write erases, and then programs group by group. -/
theorem State.pageWrite_eq (keep : Bool) : s.pageWrite p put keep = State.each (s.erasePage p) (List.range 16) fun j u =>
    if s.groupWritten p put keep j then u.programArmed (16 * p + j) (s.groupBytes p put j) else u := by
  rw [State.pageWrite, State.pageOps, List.foldl_cons, List.foldl_filterMap]
  refine List.foldl_ext _ _ _ fun u j _ => ?_
  unfold State.groupWritten State.groupBytes
  dsimp only
  generalize (((List.range 8).any fun b => (put (8 * j + b)).isSome) || keep && (s.nvmGroup (16 * p + j)).good) = c
  cases c <;> rfl

theorem State.pageWrite_boxOnly (keep : Bool) : s.BoxOnly (s.pageWrite p put keep) :=
  (State.BoxOnly.refl s).foldl fun _ _ hu => hu.nvmDo

/-- Every other page keeps its bytes. -/
theorem State.pageWrite_nvmByte_other {x : Nat} (keep : Bool) (hx : x / 128 ≠ p) : (s.pageWrite p put keep).nvmByte x = s.nvmByte x := by
  rw [State.pageWrite_eq, ← s.erasePage_nvmByte hx]
  refine foldl_keeps_mem (P := fun u => u.nvmByte x) (fun j hj u => ?_) _
  have hlt := List.mem_range.1 hj
  dsimp only
  split
  · exact u.programArmed_nvmByte _ (by omega)
  · rfl

variable {p put}

/-- A byte that a page write covers stands there, where no inversion was armed. -/
theorem State.pageWrite_nvmPeek1 {o : Nat} {b : Byte} (keep : Bool) (ho : o < 128) (hput : put o = some b)
    (harmed : s.flag R.HRW_INJECT F.HRW_INJECT_ARMED = false) : (s.pageWrite p put keep).nvmPeek1 (128 * p + o) = b := by
  have hwrites : s.groupWritten p put keep (o / 8) = true := by
    refine Bool.or_eq_true_iff.2 (.inl (List.any_eq_true.2 ⟨o % 8, List.mem_range.2 (Nat.mod_lt _ (by decide)), ?_⟩))
    rw [Nat.div_add_mod, hput]
    rfl
  have hbyte : (s.groupBytes p put (o / 8)).getD (o % 8) 0#8 = b := by
    have hlt : o % 8 < 8 := Nat.mod_lt _ (by decide)
    rw [State.groupBytes, List.getD_eq_getElem?_getD, List.getElem?_map, List.getElem?_range hlt, Option.map_some, Option.getD_some,
      Nat.div_add_mod, hput, Option.getD_some]
  have herase : (s.erasePage p).flag R.HRW_INJECT F.HRW_INJECT_ARMED = false :=
    ((s.erasePage_sameRegs p).flag _ (by decide) _).trans harmed
  have hkeep (u : State) (g : Nat) (l : List Byte) (hu : u.flag R.HRW_INJECT F.HRW_INJECT_ARMED = false) :
      (u.programArmed g l).flag R.HRW_INJECT F.HRW_INJECT_ARMED = false := by
    rw [u.programArmed_quiet l hu, State.flag, State.f, State.rd, State.programGroup_regs]
    exact hu
  have hdone := State.each_at (n := o / 8) (l := List.range 16) (s := s.erasePage p)
    (g := fun j u => if s.groupWritten p put keep j then u.programArmed (16 * p + j) (s.groupBytes p put j) else u)
    (P := fun u => u.flag R.HRW_INJECT F.HRW_INJECT_ARMED = false ∧ u.nvmGroup (16 * p + o / 8) = .valid ∧ u.nvmByte (128 * p + o) = b)
    (Q := fun u => u.flag R.HRW_INJECT F.HRW_INJECT_ARMED = false) (List.mem_range.2 (by omega)) List.nodup_range
    (fun u hu => by
      rw [if_pos hwrites]
      refine ⟨hkeep u _ _ hu, ?_, ?_⟩
      · rw [u.programArmed_quiet _ hu, State.programGroup_nvmGroup, if_pos rfl]
      · rw [u.programArmed_quiet _ hu, State.programGroup_nvmByte, if_pos (by omega)]
        exact (congrArg ((s.groupBytes p put (o / 8)).getD · 0#8) (by omega)).trans hbyte)
    (fun j hj u => ⟨fun hu => by
      split
      · exact hkeep u _ _ hu
      · exact hu, fun ⟨hu, hg, hb⟩ => by
      split
      · refine ⟨hkeep u _ _ hu, ?_, ?_⟩
        · rw [u.programArmed_quiet _ hu, State.programGroup_nvmGroup, if_neg (by omega)]
          exact hg
        · rw [u.programArmed_nvmByte _ (by omega)]
          exact hb
      · exact ⟨hu, hg, hb⟩⟩) herase
  obtain ⟨-, hg, hb⟩ := hdone
  rw [State.pageWrite_eq, State.nvmPeek1, show (128 * p + o) / 8 = 16 * p + o / 8 by omega, hg, hb]
  rfl

end

end Sys2Proof.Machine
end

section
/-! The commands of a BLOB pair (R289, R293–R295, R334). -/

namespace Sys2Proof.Machine

/-! The store of a package (R334). -/

section
variable (s : State)

/-- A state with another list of what its pairs have taken. -/
def State.retaken (s : State) (srcs : Tab SrcRt) (pairs : Tab PairRt) : State := { s with srcs := srcs, pairs := pairs }

theorem State.takeEntry_retaken (p : Nat) (e : List Byte) :
    s.takeEntry p e = s.retaken (s.takeEntry p e).srcs (s.takeEntry p e).pairs := s.takeEntry_frame p e

theorem State.showFw_fw : s.showFw.fw = s.fw := by
  have hkeep (u v : State) (h : u.fw = v.fw) : (u.each (List.range 4) fun j u =>
      (u.wrN (R.FW_VER j) (u.runBank.comp j).version).wrN (R.FW_SVN_FLOOR j) (u.fw.floors.getD j 0)).fw = v.fw :=
    (State.each_keeps (f := State.fw) (g := fun j u => (u.wrN (R.FW_VER j) (u.runBank.comp j).version).wrN (R.FW_SVN_FLOOR j)
      (u.fw.floors.getD j 0)) (fun _ _ => rfl) _ u).trans h
  refine hkeep _ s ?_
  simp only [State.setF_fw]

end

/-! Writes that keep the queue: of any register above those of the ring pairs. -/

section
variable {p : Fin 32} {s t : State} (h : State.QueueKept p s t)
include h

theorem State.QueueKept.wr {o : Nat} (ho : 0x1000 ≤ o) (v : Word) : State.QueueKept p s (t.wr o v) := by
  refine h.trans ⟨rfl, ?_, rfl⟩
  rw [State.pairState, State.f, State.rd_wr_other _ _ (by simp only [R.RING_STATUS]; omega)]
  rfl

theorem State.QueueKept.setF {o : Nat} (ho : 0x1000 ≤ o) {g : Fld} {v : Nat} : State.QueueKept p s (t.setF o g v) := h.wr ho _

theorem State.QueueKept.wrN {o : Nat} (ho : 0x1000 ≤ o) {v : Nat} : State.QueueKept p s (t.wrN o v) := h.wr ho _

theorem State.QueueKept.raise {i j : Nat} {b : List Byte} : State.QueueKept p s (t.raise i j b) := h

theorem State.QueueKept.ite {u : State} {c : Prop} [Decidable c] (h' : State.QueueKept p s u) : State.QueueKept p s (if c then t else u) := by
  split
  · exact h
  · exact h'

theorem State.QueueKept.each {g : Nat → State → State} {l : List Nat} (hg : ∀ k u, State.QueueKept p s u → State.QueueKept p s (g k u)) :
    State.QueueKept p s (t.each l g) := by
  induction l generalizing t with
  | nil => exact h
  | cons k l ih => exact ih (hg k t h)

/-- What the firmware registers show touches no queue, no time and no pair. -/
theorem State.QueueKept.showFw : State.QueueKept p s t.showFw :=
  ((((((((((((h.setF (by decide)).setF (by decide)).setF (by decide)).setF (by decide)).setF (by decide)).setF (by decide)).setF
    (by decide)).setF (by decide)).setF (by decide)).setF (by decide)).setF (by decide)).setF (by decide)).each fun _ _ hu =>
      (hu.wrN (by simp only [R.FW_VER]; omega)).wrN (by simp only [R.FW_SVN_FLOOR]; omega)

end

section
variable (s : State) (p : Fin 32)

theorem State.storeManifest_queueKept (m : List Byte) : State.QueueKept p s (s.storeManifest m).1 := by
  have hspare : State.QueueKept p s { s.setSpare {} with fw := { (s.setSpare {}).fw with
      manifest := m, staged := [], state := 1, sector := 0, dirty := false } } := by
    unfold State.setSpare
    split <;> exact ⟨rfl, rfl, rfl⟩
  unfold State.storeManifest
  dsimp only
  split <;> [exact State.QueueKept.refl p s; skip]
  split <;> [exact State.QueueKept.refl p s; skip]
  split <;> [exact State.QueueKept.refl p s; skip]
  split <;> [exact State.QueueKept.refl p s; skip]
  split <;> [exact State.QueueKept.refl p s; skip]
  split <;> [exact State.QueueKept.refl p s; skip]
  split <;> [exact State.QueueKept.refl p s; skip]
  exact hspare.showFw

theorem State.storeSegment_queueKept (k : Nat) (data : List Byte) : State.QueueKept p s (s.storeSegment k data).1 := by
  unfold State.storeSegment
  dsimp only
  split <;> [exact State.QueueKept.refl p s; skip]
  split <;> [exact State.QueueKept.refl p s; skip]
  split <;> [exact State.QueueKept.refl p s; skip]
  split <;> [exact State.QueueKept.refl p s; skip]
  split <;> [exact State.QueueKept.refl p s; skip]
  exact State.QueueKept.showFw (t := { s with fw := _ }) ⟨rfl, rfl, rfl⟩

theorem State.storeChunk_queueKept (o : Nat) (data : List Byte) : State.QueueKept p s (s.storeChunk o data).1 := by
  unfold State.storeChunk
  split <;> [exact State.QueueKept.refl p s; skip]
  split <;> [exact State.QueueKept.refl p s; skip]
  split
  · exact s.storeManifest_queueKept p data
  · exact s.storeSegment_queueKept p _ data

/-- The store of a chunk does not look at what the pairs have taken. -/
theorem State.storeChunk_retaken (srcs : Tab SrcRt) (pairs : Tab PairRt) (o : Nat) (data : List Byte) :
    ((s.retaken srcs pairs).storeChunk o data).1.fw = (s.storeChunk o data).1.fw ∧
    ((s.retaken srcs pairs).storeChunk o data).2 = (s.storeChunk o data).2 := by
  constructor
  · simp only [State.storeChunk, State.storeManifest, State.storeSegment, apply_ite Prod.fst, apply_ite State.fw, State.showFw_fw,
      State.setSpare]
    rfl
  · simp only [State.storeChunk, State.storeManifest, State.storeSegment, apply_ite Prod.snd]
    rfl

end

/-! What a command finds after its entry has been taken. -/

section
variable (s : State) (p : Fin 32) (e : List Byte)

theorem State.takeFree_queueKept (n w : Nat) : State.QueueKept n s (s.takeFree w).2 := ⟨rfl, rfl, rfl⟩

theorem State.emit_queueKept (n : Nat) (x : Emit) : State.QueueKept n s (s.emit x) := ⟨rfl, rfl, rfl⟩

theorem State.nvmRead_takeEntry (a n : Nat) : ((s.takeEntry p e).nvmRead a n).1 = s.nvmPeek a n ∧
    ((s.takeEntry p e).nvmRead a n).2.1 = ((List.range n).filter fun k => !(s.nvmGroup ((a + k) / 8)).good).length := by
  rw [State.takeEntry_frame]
  exact ⟨rfl, rfl⟩

theorem State.takeEntry_nvm : (s.takeEntry p e).nvm = s.nvm := by rw [State.takeEntry_frame]

theorem State.takeEntry_outbox : (s.takeEntry p e).outbox = s.outbox := by rw [State.takeEntry_frame]

theorem State.takeEntry_rd (o : Nat) : (s.takeEntry p e).rd o = s.rd o := by rw [State.takeEntry_frame]; rfl

theorem State.takeEntry_smbTx (i : Nat) (x : Nat × Nat × List Byte) : (s.takeEntry p e).smbTx i x = s.smbTx i x := by
  rw [State.takeEntry_frame]
  rfl

/-- The state of a CAN port is judged by the registers and the units held, not by what the pairs have taken. -/
theorem State.takeEntry_can (n : Nat) : (s.takeEntry p e).canLive n = s.canLive n ∧ (s.takeEntry p e).canFd n = s.canFd n ∧
    ∀ f, (s.takeEntry p e).canClaimed n f = s.canClaimed n f := by
  rw [State.takeEntry_frame]
  exact ⟨rfl, rfl, fun _ => rfl⟩

end

/-! NVM_WRITE (R294). -/

section
variable (s : State) (p : Fin 32)

/-- A page write keeps the queue. -/
theorem State.BoxOnly.queueKept {t : State} (h : s.BoxOnly t) : State.QueueKept p s t := by
  refine ⟨by rw [h.frame], ?_, by rw [h.frame]⟩
  have hrd : t.rd (R.RING_STATUS p) = s.rd (R.RING_STATUS p) := h.regs _ fun hb => by
    have hoff := hb.offset
    simp only [R.RING_STATUS] at hoff
    omega
  rw [State.pairState, State.f, hrd]
  rfl

/-- The byte of the data that falls on an offset of its page. -/
theorem wrapByte_at {a k : Nat} {data : List Byte} (hk : k < data.length) (hlen : data.length ≤ 128) :
    wrapByte a data ((a + k) % 128) = data[k]? := by
  have hidx : ((a + k) % 128 + 128 - a % 128) % 128 = k := by omega
  rw [wrapByte, hidx]

theorem State.winRead_getElem? (o : Nat) : ∀ (n k : Nat), k < n → (s.winRead o n)[k]? = some (s.winGet (o + k)) := by
  intro n
  induction n generalizing o with
  | zero => exact fun k hk => absurd hk (Nat.not_lt_zero k)
  | succ n ih =>
    intro k hk
    cases k with
    | zero => rfl
    | succ k => rw [State.winRead, List.getElem?_cons_succ, ih (o + 1) k (Nat.lt_of_succ_lt_succ hk), Nat.add_right_comm, Nat.add_assoc]

end

/-! SMBus transactions (R295). -/

section
variable {s : State} {c : Ctl} {i cmd : Nat}

theorem State.smbRun_write_busy (resp : SmbResp) (hproto : c.arg 9 1 = 2)
    (hlink : s.linkState (c.arg 8 1) = lkIdent ∨ s.linkState (c.arg 8 1) = lkUp) :
    s.smbRun c resp = some ((s.takeFree 16).2, { status := 0x50, detail := (s.takeFree 16).1 }) :=
  if_pos (decide_eq_true ⟨.inl hproto, hlink⟩)

theorem State.smbRun_read (hproto : c.arg 9 1 = 1) :
    (∀ x y : Byte, s.smbRun c (.ok [x, y]) = some (s.emit (s.smbTx (c.arg 8 1) (1, c.arg 10 1, [])), { r0 := x.toNat + 256 * y.toNat })) ∧
    s.smbRun c .error = some ((s.emit (s.smbTx (c.arg 8 1) (1, c.arg 10 1, []))).emit (s.smbTx (c.arg 8 1) (1, c.arg 10 1, [])),
      { status := 0x56 }) := by
  have hfree : decide ((c.arg 9 1 = 2 ∨ c.arg 9 1 = 4) ∧ (s.linkState (c.arg 8 1) = lkIdent ∨ s.linkState (c.arg 8 1) = lkUp)) = false :=
    decide_eq_false (by omega)
  refine ⟨fun x y => ?_, ?_⟩
  · unfold State.smbRun
    dsimp only
    rw [hfree, if_neg Bool.false_ne_true, hproto]
    rfl
  · unfold State.smbRun
    dsimp only
    rw [hfree, if_neg Bool.false_ne_true, hproto]
    rfl

end

/-! The obligation. -/

section
variable {s : State} {p : Fin 32} {e : List Byte} (hl : s.live) (hready : s.ctlReady p typBlob e = true)
  (hturn : s.ctlTurn p typBlob e = true)
include hl hready hturn

theorem exec_fwChunk (buf : DmaRead) (hop : ctlOp e = 1) (hclean : ctlClean e [(8, 16)] = true) (hlo : 1 ≤ leAt e 12 4)
    (hhi : leAt e 12 4 ≤ 65536) (hwin : leAt e 16 8 / 2 ^ 63 = 1) (hok : bufOk (leAt e 16 8) (leAt e 12 4) = true) :
    exec (.fwChunk p e buf) s = .next (State.ended ((s.takeEntry p e).storeChunk (leAt e 8 4)
      (s.winRead (leAt e 16 8 % 2 ^ 63) (leAt e 12 4))).1 p typBlob e
        { status := ((s.takeEntry p e).storeChunk (leAt e 8 4) (s.winRead (leAt e 16 8 % 2 ^ 63) (leAt e 12 4))).2.1,
          detail := ((s.takeEntry p e).storeChunk (leAt e 8 4) (s.winRead (leAt e 16 8 % 2 ^ 63) (leAt e 12 4))).2.2 }).settle := by
  have hexec : exec (.fwChunk p e buf) s = execFwChunk p e buf s := rfl
  rw [hexec, execFwChunk, State.act_on _ hl.1]
  dsimp only
  rw [State.ctlRun_result hready hturn hop hclean (by rw [hok, decide_eq_true ⟨hlo, hhi⟩]; rfl) (.inl rfl)
    (State.bufRead_window hwin (s.takeEntry p e) _ buf _), State.takeEntry_winRead]

theorem exec_nvmRead (hop : ctlOp e = 2) (hclean : ctlClean e [(8, 6), (16, 8)] = true) (ha : leAt e 8 4 < 0x40000) (hlo : 1 ≤ leAt e 12 2)
    (hhi : leAt e 12 2 ≤ 4096) (hwin : leAt e 16 8 / 2 ^ 63 = 1) (hok : bufOk (leAt e 16 8) (leAt e 12 2) = true) (hrec : s.recalled = true) :
    (directArea (leAt e 8 4) (leAt e 12 2) = false →
      exec (.nvmRead p e) s = .next ((s.takeEntry p e).ended p typBlob e { status := 0x50, detail := 0x0011 }).settle) ∧
    (directArea (leAt e 8 4) (leAt e 12 2) = true → exec (.nvmRead p e) s = .next
      ((((s.takeEntry p e).nvmRead (leAt e 8 4) (leAt e 12 2)).2.2.winWrite (leAt e 16 8 % 2 ^ 63) (s.nvmPeek (leAt e 8 4) (leAt e 12 2))).ended
        p typBlob e { r0 := leAt e 12 2, r1 := ((List.range (leAt e 12 2)).filter fun k =>
          !(s.nvmGroup ((leAt e 8 4 + k) / 8)).good).length }).settle) := by
  have hexec : exec (.nvmRead p e) s = execNvmRead p e s := rfl
  have hform : (decide (leAt e 8 4 < 0x40000 ∧ 1 ≤ leAt e 12 2 ∧ leAt e 12 2 ≤ 4096) && bufOk (leAt e 16 8) (leAt e 12 2)) = true := by
    rw [hok, decide_eq_true ⟨ha, hlo, hhi⟩]
    rfl
  refine ⟨fun harea => ?_, fun harea => ?_⟩
  · rw [hexec, execNvmRead, State.act_on _ hl.1]
    dsimp only
    rw [State.ctlRun_result hready hturn hop hclean hform (.inr hrec) (if_pos (by rw [harea]; rfl))]
  · obtain ⟨hbytes, hbad⟩ := s.nvmRead_takeEntry p e (leAt e 8 4) (leAt e 12 2)
    rw [← hbytes, ← hbad, hexec, execNvmRead, State.act_on _ hl.1]
    dsimp only
    rw [State.ctlRun_result hready hturn hop hclean hform (.inr hrec)
      ((if_neg (by rw [harea]; decide)).trans (State.bufWrite_window hwin _ _ _ _))]

theorem exec_nvmWrite (buf : DmaRead) (hop : ctlOp e = 3) (hclean : ctlClean e [(8, 6), (16, 8)] = true) (ha : leAt e 8 4 < 0x40000)
    (hlo : 1 ≤ leAt e 12 2) (hhi : leAt e 12 2 ≤ 128) (hwin : leAt e 16 8 / 2 ^ 63 = 1) (hok : bufOk (leAt e 16 8) (leAt e 12 2) = true)
    (hrec : s.recalled = true) :
    (directArea (leAt e 8 4) 1 = false →
      exec (.nvmWrite p e buf) s = .next ((s.takeEntry p e).ended p typBlob e { status := 0x50, detail := 0x0011 }).settle) ∧
    (directArea (leAt e 8 4) 1 = true → exec (.nvmWrite p e buf) s = .next
      (((s.takeEntry p e).pageWrite (leAt e 8 4 / 128) (wrapByte (leAt e 8 4) (s.winRead (leAt e 16 8 % 2 ^ 63) (leAt e 12 2))) true).ended
        p typBlob e { wrap := decide (128 < leAt e 8 4 % 128 + leAt e 12 2), r0 := leAt e 12 2 }).settle) := by
  have hexec : exec (.nvmWrite p e buf) s = execNvmWrite p e buf s := rfl
  have hform : (decide (leAt e 8 4 < 0x40000 ∧ 1 ≤ leAt e 12 2 ∧ leAt e 12 2 ≤ 128) && bufOk (leAt e 16 8) (leAt e 12 2)) = true := by
    rw [hok, decide_eq_true ⟨ha, hlo, hhi⟩]
    rfl
  refine ⟨fun harea => ?_, fun harea => ?_⟩
  · rw [hexec, execNvmWrite, State.act_on _ hl.1]
    dsimp only
    rw [State.ctlRun_result hready hturn hop hclean hform (.inr hrec) (if_pos (by rw [harea]; rfl))]
  · rw [hexec, execNvmWrite, State.act_on _ hl.1]
    dsimp only
    rw [State.ctlRun_result hready hturn hop hclean hform (.inr hrec)
      ((if_neg (by rw [harea]; decide)).trans (State.bufRead_window hwin (s.takeEntry p e) _ buf _)), State.takeEntry_winRead]

end

end Sys2Proof.Machine
end

section
/-! The transactions of a BLOB pair, and O49. -/

namespace Sys2Proof.Machine

section
variable (s : State) (p : Fin 32) (e : List Byte)

theorem State.takeEntry_f {o : Nat} {d : Fld} : (s.takeEntry p e).f o d = s.f o d := by rw [State.f, State.takeEntry_rd, State.f]

theorem State.takeEntry_flag {o : Nat} {d : Fld} : (s.takeEntry p e).flag o d = s.flag o d := State.flag_congr (s.takeEntry_f p e)

end

section
variable {s : State} {p : Fin 32} {e : List Byte} (hl : s.live) (hready : s.ctlReady p typBlob e = true)
  (hturn : s.ctlTurn p typBlob e = true)
include hl hready hturn

/-- A transaction with an SMBus port gives what `smbRun` makes of it (R295). -/
theorem exec_smbXfer {resp : SmbResp} {used : List (Nat × Nat)} (hop : ctlOp e = 4) (hport : leAt e 8 1 < 4)
    (hproto : leAt e 9 1 = 1 ∧ used = [(8, 3)] ∨ leAt e 9 1 = 2 ∧ used = [(8, 3), (12, 2)]) (hclean : ctlClean e used = true) {r : State × CtlRes}
    (hrun : (s.takeEntry p e).smbRun ⟨p, s.frontIdx p, e⟩ resp = some r) :
    exec (.smbXfer p e resp) s = .next (r.1.ended p typBlob e r.2).settle := by
  have hexec : exec (.smbXfer p e resp) s = execSmbXfer p e resp s := rfl
  rw [hexec, execSmbXfer, State.act_on _ hl.1]
  dsimp only
  rcases hproto with ⟨hp, rfl⟩ | ⟨hp, rfl⟩ <;> rw [hp]
  · exact congrArg (fun u : State => Host.Outcome.next u.settle) (State.ctlRun_result hready hturn hop hclean
      (by rw [decide_eq_true ⟨hport, by decide, by decide⟩]; rfl) (.inl rfl) hrun)
  · exact congrArg (fun u : State => Host.Outcome.next u.settle) (State.ctlRun_result hready hturn hop hclean
      (by rw [decide_eq_true ⟨hport, by decide, by decide⟩]; rfl) (.inl rfl) hrun)

/-- A frame to send is refused while the port is bus-off, and else goes out or fails (R295). -/
theorem exec_canSend (buf : DmaRead) (sent : Bool) (hop : ctlOp e = 5) (hclean : ctlClean e [(8, 3), (12, 12)] = true) (hport : leAt e 8 1 < 2)
    (hflags : leAt e 9 1 < 8) (hlen : canLenOk (bitsOf (leAt e 9 1) 1 1 == 1) (leAt e 10 1) = true)
    (hid : leAt e 12 4 < if (bitsOf (leAt e 9 1) 0 1 == 1) = true then 2 ^ 29 else 2 ^ 11) (hwin : leAt e 16 8 / 2 ^ 63 = 1)
    (hok : bufOk (leAt e 16 8) (leAt e 10 1) = true) :
    (s.f (R.CAN_STATUS (leAt e 8 1)) F.CAN_STATUS_STATE = 2 → exec (.canSend p e buf sent) s = .next
      (((s.takeEntry p e).takeFree 16).2.ended p typBlob e { status := 0x50, detail := ((s.takeEntry p e).takeFree 16).1 }).settle) ∧
    (s.f (R.CAN_STATUS (leAt e 8 1)) F.CAN_STATUS_STATE ≠ 2 → exec (.canSend p e buf sent) s = .next
      (if (sent && s.canLive (leAt e 8 1) && (!(bitsOf (leAt e 9 1) 1 1 == 1) || s.canFd (leAt e 8 1))) = true
        then ((s.takeEntry p e).emit (.canTx (leAt e 8 1) ⟨leAt e 12 4, bitsOf (leAt e 9 1) 0 1 == 1, bitsOf (leAt e 9 1) 1 1 == 1,
          s.winRead (leAt e 16 8 % 2 ^ 63) (leAt e 10 1)⟩ (bitsOf (leAt e 9 1) 2 1 == 1))).ended p typBlob e {}
        else (s.takeEntry p e).ended p typBlob e { status := 0x56 }).settle) := by
  have hexec : exec (.canSend p e buf sent) s = execCanSend p e buf sent s := rfl
  have hform : (decide (leAt e 8 1 < 2 ∧ leAt e 9 1 < 8 ∧ leAt e 12 4 < if (bitsOf (leAt e 9 1) 0 1 == 1) = true then 2 ^ 29 else 2 ^ 11) &&
      canLenOk (bitsOf (leAt e 9 1) 1 1 == 1) (leAt e 10 1) && bufOk (leAt e 16 8) (leAt e 10 1)) = true := by
    rw [hok, hlen, decide_eq_true ⟨hport, hflags, hid⟩]
    rfl
  have hstate := s.takeEntry_f p e (o := R.CAN_STATUS (leAt e 8 1)) (d := F.CAN_STATUS_STATE)
  obtain ⟨hlive, hfd, -⟩ := s.takeEntry_can p e (leAt e 8 1)
  refine ⟨fun hoff => ?_, fun hon => ?_⟩
  · rw [hexec, execCanSend, State.act_on _ hl.1]
    dsimp only
    rw [State.ctlRun_result hready hturn hop hclean hform (.inl rfl) (if_pos (hstate.trans hoff))]
  · rw [← hlive, ← hfd, hexec, execCanSend, State.act_on _ hl.1]
    dsimp only
    have hread := State.bufRead_window (len := leAt e 10 1) hwin (s.takeEntry p e) ⟨p, s.frontIdx p, e⟩ buf
    by_cases hsent : (sent && (s.takeEntry p e).canLive (leAt e 8 1) &&
      (!(bitsOf (leAt e 9 1) 1 1 == 1) || (s.takeEntry p e).canFd (leAt e 8 1))) = true
    · rw [if_pos hsent, State.ctlRun_result hready hturn hop hclean hform (.inl rfl)
        ((if_neg (hstate.symm ▸ hon)).trans ((hread _).trans (if_pos hsent))), State.takeEntry_winRead]
    · rw [if_neg hsent, State.ctlRun_result hready hturn hop hclean hform (.inl rfl)
        ((if_neg (hstate.symm ▸ hon)).trans ((hread _).trans (if_neg hsent)))]

theorem exec_canRecv (f : CanFrame) (hop : ctlOp e = 6) (hclean : ctlClean e [(8, 1), (12, 20)] = true) (hform : recvOk e = true)
    (hwin : leAt e 24 8 / 2 ^ 63 = 1) (hlive : s.canLive (leAt e 8 1) = true) (hfd : f.fd = true → s.canFd (leAt e 8 1) = true)
    (hfree : s.canClaimed (leAt e 8 1) f = false) (hmatch : (canIdWord f ^^^ leAt e 12 4) &&& leAt e 16 4 = 0) :
    exec (.canRecv p e f) s = .next (((s.takeEntry p e).winWrite (leAt e 24 8 % 2 ^ 63) f.data).ended p typBlob e
      { r0 := canIdWord f + 2 ^ 32 * f.data.length }).settle := by
  have hexec : exec (.canRecv p e f) s = execCanRecv p e f s := rfl
  obtain ⟨hlive', hfd', hfree'⟩ := s.takeEntry_can p e (leAt e 8 1)
  have hfdOk : (!f.fd || s.canFd (leAt e 8 1)) = true := by
    cases hf : f.fd
    · rfl
    · rw [hfd hf]
      rfl
  have htakes : ((s.takeEntry p e).canLive (leAt e 8 1) && (!f.fd || (s.takeEntry p e).canFd (leAt e 8 1)) &&
      !(s.takeEntry p e).canClaimed (leAt e 8 1) f && (canIdWord f ^^^ leAt e 12 4) &&& leAt e 16 4 == 0) = true := by
    rw [hlive', hfd', hfree', hlive, hfdOk, hfree, hmatch]
    rfl
  rw [hexec, execCanRecv, State.act_on _ hl.1]
  dsimp only
  rw [State.ctlRun_result hready hturn hop hclean hform (.inl rfl) ((if_pos htakes).trans (State.bufWrite_window hwin _ _ _ _))]

theorem exec_canRecvTimeout (hop : ctlOp e = 6) (hclean : ctlClean e [(8, 1), (12, 20)] = true) (hform : recvOk e = true)
    (hlate : max (s.pair p).headAt (s.can (leAt e 8 1)).freeAt + leAt e 20 4 * 200000 ≤ s.cyc) :
    exec (.canRecvTimeout p e) s = .next ((s.takeEntry p e).ended p typBlob e { status := 0x55 }).settle := by
  have hexec : exec (.canRecvTimeout p e) s = execCanRecvTimeout p e s := rfl
  rw [hexec, execCanRecvTimeout, State.act_on _ hl.1]
  dsimp only
  rw [State.ctlRun_result hready hturn hop hclean hform (.inl rfl) (if_pos (by rw [decide_eq_true hlate, Bool.or_true]))]

end

/-! What a page write leaves, and the obligation. -/

/-- A write within its page stores each byte of the buffer, wrapping at the page's end (R294). -/
theorem State.pageWrite_wraps (s t : State) {a k o n : Nat} (hk : k < n) (hn : n ≤ 128)
    (harmed : t.flag R.HRW_INJECT F.HRW_INJECT_ARMED = false) :
    (t.pageWrite (a / 128) (wrapByte a (s.winRead o n)) true).nvmPeek1 (a / 128 * 128 + (a + k) % 128) = s.winGet (o + k) := by
  have hlen := s.winRead_length n o
  have hbyte : wrapByte a (s.winRead o n) ((a + k) % 128) = some (s.winGet (o + k)) :=
    (wrapByte_at (by rw [hlen]; exact hk) (by rw [hlen]; exact hn)).trans (s.winRead_getElem? o n k hk)
  rw [Nat.mul_comm]
  exact State.pageWrite_nvmPeek1 t true (Nat.mod_lt _ (by decide)) hbyte harmed

section
variable {s t : State}

theorem State.nvmByte_of_nvm (h : t.nvm = s.nvm) (x : Nat) : t.nvmByte x = s.nvmByte x := by rw [State.nvmByte, State.nvmByte, h]

theorem State.nvmPeek1_of_nvm (h : t.nvm = s.nvm) (x : Nat) : t.nvmPeek1 x = s.nvmPeek1 x := by
  rw [State.nvmPeek1, State.nvmPeek1, State.nvmByte_of_nvm h, State.nvmGroup, State.nvmGroup, h]

/-- The reads of a transfer leave the bytes of the data NVM. -/
theorem State.NvmSeen.bytes (h : s.NvmSeen t) : t.nvm.bytes = s.nvm.bytes := by rw [h.1]

end

theorem State.takeEntry_linkState (s : State) (p : Fin 32) (e : List Byte) (i : Nat) : (s.takeEntry p e).linkState i = s.linkState i := by
  rw [State.linkState, State.takeEntry_f, State.linkState]

theorem State.WinOnly.nvm {s t : State} (h : s.WinOnly t) : t.nvm = s.nvm := by rw [h.1]

theorem State.ended_winRead_length {t : State} {p typ : Nat} {e : List Byte} {r : CtlRes} {b : List Byte} {o n : Nat} (hb : b.length = n)
    (h : o + n ≤ 0x80000) : ((t.winWrite o b).ended p typ e r).winRead o n = b := by
  subst hb
  exact t.ended_winRead p typ e r b h

/-- A port that sends is not bus-off. -/
theorem State.canLive_not_busOff {s : State} {n : Nat} (h : s.canLive n = true) : s.f (R.CAN_STATUS n) F.CAN_STATUS_STATE ≠ 2 := by
  simp only [State.canLive, Bool.and_eq_true, bne_iff_ne] at h
  exact h.1.1.2

/-- Settles O49: every command is `ctlRun`'s result, and `State.ended` says what its completion leaves. -/
theorem blobCommandsMoveTheirData : Obligations.BlobCommandsMoveTheirData := by
  intro s p e hl hready hturn
  have htaken := s.takeEntry_queueKept p e
  refine ⟨?_, ?_, ?_, ?_, ?_, ?_⟩
  · intro hop hclean hlo hhi hwin hok buf
    obtain ⟨hfw, hres⟩ := s.storeChunk_retaken (s.takeEntry p e).srcs (s.takeEntry p e).pairs (leAt e 8 4)
      (s.winRead (leAt e 16 8 % 2 ^ 63) (leAt e 12 4))
    rw [← State.takeEntry_retaken] at hfw hres
    refine ⟨_, exec_fwChunk hl hready hturn buf hop hclean hlo hhi hwin hok, ?_, ?_⟩
    · rw [State.ended_fw]
      exact hfw
    · rw [hres]
      exact (htaken.trans (State.storeChunk_queueKept _ _ _ _)).ended _ _ _
  · intro hop hclean ha hlo hhi hwin hok hrec
    obtain ⟨hrefused, hdone⟩ := exec_nvmRead hl hready hturn hop hclean ha hlo hhi hwin hok hrec
    refine ⟨fun harea => ⟨_, hrefused harea, State.ended_of_taken _ _ _ _ _⟩, fun harea => ⟨_, hdone harea, ?_, ?_, ?_⟩⟩
    · have hlen : (s.nvmPeek (leAt e 8 4) (leAt e 12 2)).length = leAt e 12 2 := by rw [State.nvmPeek, List.length_map, List.length_range]
      have hfits := bufOk_window hwin hok
      exact State.ended_winRead_length hlen hfits
    · rw [State.ended_nvm, (State.winWrite_winOnly _ _ _).nvm, ((s.takeEntry p e).nvmRead_seen _ _).bytes, State.takeEntry_nvm]
    · exact ((htaken.trans ((s.takeEntry p e).nvmRead_seen _ _).queueKept).trans
        ((State.winWrite_winOnly _ _ _).queueKept p.isLt)).ended _ _ _
  · intro buf hop hclean ha hlo hhi hwin hok hrec
    obtain ⟨hrefused, hdone⟩ := exec_nvmWrite hl hready hturn buf hop hclean ha hlo hhi hwin hok hrec
    refine ⟨fun harea => ⟨_, hrefused harea, ?_, (State.ended_of_taken _ _ _ _ _).2⟩,
      fun harea => ⟨_, hdone harea, fun harmed k hk => ?_, fun x hx => ?_, ?_⟩⟩
    · rw [State.ended_nvm, State.takeEntry_nvm]
    · rw [State.nvmPeek1_of_nvm (State.ended_nvm _ _ _ _ _)]
      exact State.pageWrite_wraps s _ hk hhi ((s.takeEntry_flag p e).trans harmed)
    · rw [State.nvmByte_of_nvm (State.ended_nvm _ _ _ _ _), State.pageWrite_nvmByte_other _ _ _ true hx,
        State.nvmByte_of_nvm (State.takeEntry_nvm s p e)]
    · exact (htaken.trans (State.BoxOnly.queueKept _ p (State.pageWrite_boxOnly _ _ _ _))).ended _ _ _
  · intro hop hport
    refine ⟨fun resp hproto hclean hlink => ?_, fun hproto hclean => ⟨fun x y => ?_, ?_⟩⟩
    · exact ⟨_, _, exec_smbXfer hl hready hturn hop hport (.inr ⟨hproto, rfl⟩) hclean
        (State.smbRun_write_busy resp hproto ((s.takeEntry_linkState p e _).symm ▸ hlink)), (State.ended_outbox _ _ _ _ _).trans (s.takeEntry_outbox p e),
        (htaken.trans (State.takeFree_queueKept _ _ 16)).ended _ _ _⟩
    · refine ⟨_, exec_smbXfer hl hready hturn hop hport (.inl ⟨hproto, rfl⟩) hclean ((State.smbRun_read (c := ⟨p, s.frontIdx p, e⟩) hproto).1 x y), ?_,
        (htaken.trans (State.emit_queueKept _ _ _)).ended _ _ _⟩
      rw [State.ended_outbox, State.emit, State.takeEntry_outbox, State.takeEntry_smbTx]
      rfl
    · refine ⟨_, exec_smbXfer hl hready hturn hop hport (.inl ⟨hproto, rfl⟩) hclean (State.smbRun_read (c := ⟨p, s.frontIdx p, e⟩) hproto).2, ?_,
        ((htaken.trans (State.emit_queueKept _ _ _)).trans (State.emit_queueKept _ _ _)).ended _ _ _⟩
      rw [State.ended_outbox, State.emit, State.emit, State.takeEntry_outbox, State.takeEntry_smbTx, List.append_assoc]
      rfl
  · intro buf hop hclean hport hflags n ide fd brs hlen hid hwin hok
    have hsend (sent : Bool) := exec_canSend hl hready hturn buf sent hop hclean hport hflags hlen hid hwin hok
    refine ⟨fun hoff sent => ⟨_, _, (hsend sent).1 hoff, (State.ended_outbox _ _ _ _ _).trans (s.takeEntry_outbox p e),
      (htaken.trans (State.takeFree_queueKept _ _ 16)).ended _ _ _⟩, fun hlive hfd => ?_, fun hon => ?_⟩
    · have hfdOk : (!(bitsOf (leAt e 9 1) 1 1 == 1) || s.canFd (leAt e 8 1)) = true := by
        cases hf : bitsOf (leAt e 9 1) 1 1 == 1
        · rfl
        · exact hfd hf
      have hcond : (true && s.canLive (leAt e 8 1) && (!(bitsOf (leAt e 9 1) 1 1 == 1) || s.canFd (leAt e 8 1))) = true := by
        rw [hlive, hfdOk]
        rfl
      refine ⟨_, ((hsend true).2 (State.canLive_not_busOff hlive)).trans (by rw [if_pos hcond]), ?_,
        (htaken.trans (State.emit_queueKept _ _ _)).ended _ _ _⟩
      rw [State.ended_outbox, State.emit, State.takeEntry_outbox]
    · exact ⟨_, (hsend false).2 hon, (State.ended_outbox _ _ _ _ _).trans (s.takeEntry_outbox p e), (State.ended_of_taken _ _ _ _ _).2⟩
  · intro hop hclean hform hwin
    refine ⟨fun f hlive hfd hfree hmatch hlen => ?_, fun hlate => ?_⟩
    · refine ⟨_, exec_canRecv hl hready hturn f hop hclean hform hwin hlive hfd hfree hmatch, ?_,
        (htaken.trans ((State.winWrite_winOnly _ _ _).queueKept p.isLt)).ended _ _ _⟩
      have hfits : leAt e 24 8 % 2 ^ 63 + 64 ≤ 0x80000 := by
        rw [recvOk, Bool.and_eq_true] at hform
        exact bufOk_window hwin hform.2
      exact State.ended_winRead _ _ _ _ _ _ (by omega)
    · exact ⟨_, exec_canRecvTimeout hl hready hturn hop hclean hform hlate, State.ended_of_taken _ _ _ _ _⟩

end Sys2Proof.Machine
end

section
/-! Records and profiles on a CONTROL pair (R290–R292, R353, R354). -/

namespace Sys2Proof.Machine

/-! The write of a record does not look at what the pairs have taken. -/

section
variable (s : State) (srcs : Tab SrcRt) (pairs : Tab PairRt)

theorem State.setNvmBytes_retaken (g : Nat) (f : Nat → Byte) (n : Nat) :
    (List.range n).foldl (fun s j => s.setNvmByte (g + j) (f j)) (s.retaken srcs pairs) =
      ((List.range n).foldl (fun s j => s.setNvmByte (g + j) (f j)) s).retaken srcs pairs :=
  List.foldl_hom (State.retaken · srcs pairs) fun _ _ => rfl

theorem State.clearGroup_retaken (g : Nat) : (s.retaken srcs pairs).clearGroup g = (s.clearGroup g).retaken srcs pairs := by
  rw [State.clearGroup, s.setNvmBytes_retaken srcs pairs (8 * g) (fun _ => 0xFF#8)]
  rfl

theorem State.programGroup_retaken (g : Nat) (b : List Byte) :
    (s.retaken srcs pairs).programGroup g b = (s.programGroup g b).retaken srcs pairs := by
  rw [State.programGroup, s.setNvmBytes_retaken srcs pairs (8 * g) (fun j => b.getD j 0#8)]
  rfl

theorem State.unqueuePage_retaken (p : Nat) : (s.retaken srcs pairs).unqueuePage p = (s.unqueuePage p).retaken srcs pairs := by
  rw [State.unqueuePage, State.unqueuePage, apply_ite (State.retaken · srcs pairs)]
  rfl

theorem State.erasePage_retaken (p : Nat) : (s.retaken srcs pairs).erasePage p = (s.erasePage p).retaken srcs pairs := by
  rw [State.erasePage, State.erasePage, ← State.unqueuePage_retaken]
  exact congrArg (State.unqueuePage · p) (List.foldl_hom (State.retaken · srcs pairs) fun u j => u.clearGroup_retaken srcs pairs (16 * p + j))

theorem State.programArmed_retaken (g : Nat) (b : List Byte) :
    (s.retaken srcs pairs).programArmed g b = (s.programArmed g b).retaken srcs pairs := by
  rw [State.programArmed, State.programArmed, State.programGroup_retaken]
  rw [apply_ite (State.retaken · srcs pairs)]
  rfl

theorem State.nvmDo_retaken (x : NvmOp) : (s.retaken srcs pairs).nvmDo x = (s.nvmDo x).retaken srcs pairs := by
  cases x with
  | erase p => exact s.erasePage_retaken srcs pairs p
  | program g b => exact s.programArmed_retaken srcs pairs g b

theorem State.planRecord_retaken (q : RecPlace) (id : Nat) (data : List Byte) :
    (s.retaken srcs pairs).planRecord q id data = ((s.planRecord q id data).1, (s.planRecord q id data).2.retaken srcs pairs) := by
  refine Prod.ext rfl ?_
  simp only [State.planRecord]
  rw [apply_ite (State.retaken · srcs pairs)]
  rfl

theorem State.writeRecord_retaken (q : RecPlace) (id : Nat) (data : List Byte) :
    (s.retaken srcs pairs).writeRecord q id data none =
      ((s.writeRecord q id data none).1.retaken srcs pairs, (s.writeRecord q id data none).2) := by
  rw [State.writeRecord, State.planRecord_retaken]
  refine Prod.ext ?_ rfl
  exact List.foldl_hom (State.retaken · srcs pairs) fun u x => u.nvmDo_retaken srcs pairs x

end

/-! What the write of a record gives. -/

section
variable {s : State} {q : RecPlace} {id : Nat} {data : List Byte}

theorem State.planRecord_pages : (s.planRecord q id data).1.pages.length = ceilDiv (16 + data.length) 128 := by
  rw [State.planRecord, List.length_map, List.length_range]
  congr 1
  simp only [List.length_append, leBytes_length]

theorem lt_ceilDiv {k n : Nat} (h : 128 * k < n) : k < ceilDiv n 128 := by
  rw [ceilDiv, if_neg (by decide)]
  omega

/-- A record with a current copy goes to the other one, under the next sequence number (R353). -/
theorem State.planRecord_next {b : Bool} (h : s.currentCopy q id = some b) :
    (s.planRecord q id data).1.seq = (s.copySeq q b + 1) % 2 ^ 32 ∧ (s.planRecord q id data).1.copy = !b := by
  rw [State.planRecord, h]
  exact ⟨rfl, rfl⟩

theorem State.writeRecord_good : (s.writeRecord q id data none).2 =
    ((s.planRecord q id data).1.seq, (s.planRecord q id data).1.copy, true) := rfl

/-- A page whose comparison fails twice is reported, and the record does not count (R354). -/
theorem State.writeRecord_bad {k : Nat} (hk : 128 * k < 16 + data.length) :
    (s.writeRecord q id data (some k)).2.2.2 = false ∧ faultOf 0xA3 0 (leBytes 4 id) ∈ (s.writeRecord q id data (some k)).1.raised := by
  have hlt : k < (s.planRecord q id data).1.pages.length := State.planRecord_pages ▸ lt_ceilDiv hk
  rw [State.writeRecord]
  dsimp only
  rw [if_pos hlt]
  refine ⟨rfl, ?_⟩
  rw [State.raise_raised]
  exact List.mem_append_right _ (List.mem_singleton_self _)

/-- A state with what a stored record of a port or of an input will set. -/
def State.recNoted (s : State) (ports : Tab PortRt) (inputNext : List Byte) : State :=
  { s with ports := ports, sys := { s.sys with inputNext := inputNext } }

theorem recPlace_known {n : Nat} (hq : recPlace n id = some q) : id ≠ 0x0F00 := by
  rintro rfl
  unfold recPlace at hq
  simp at hq

/-- What RECORD_WRITE stores under an identifier other than the fabric's (R290). -/
theorem State.writeNamed_stored (hq : recPlace s.recSet id = some q) (hfab : id ≠ 0x0100) (bad : Option Nat) :
    ∃ (ports : Tab PortRt) (inputNext : List Byte), s.writeNamed id data bad = ((s.writeRecord q id data bad).1.recNoted ports inputNext,
      if (s.writeRecord q id data bad).2.2.2 then
        { r0 := (s.writeRecord q id data bad).2.1, detail := boolNat (s.writeRecord q id data bad).2.2.1 }
      else { status := 0x50, detail := 0x0010 }) := by
  have henv := recPlace_known hq
  have hstore : s.storeRecord id data bad = ((s.writeRecord q id data bad).1, if (s.writeRecord q id data bad).2.2.2 then
      { r0 := (s.writeRecord q id data bad).2.1, detail := boolNat (s.writeRecord q id data bad).2.2.1 }
      else { status := 0x50, detail := 0x0010 }) := by
    rw [State.storeRecord, hq]
  generalize (if (s.writeRecord q id data bad).2.2.2 then
    ({ r0 := (s.writeRecord q id data bad).2.1, detail := boolNat (s.writeRecord q id data bad).2.2.1 } : CtlRes)
    else { status := 0x50, detail := 0x0010 }) = res at hstore ⊢
  rw [State.writeNamed, if_neg (fun h => henv h.1), if_neg henv, if_neg hfab, hstore]
  dsimp only
  split <;> [exact ⟨_, _, rfl⟩; skip]
  split <;> [exact ⟨_, _, rfl⟩; skip]
  split <;> exact ⟨_, _, rfl⟩

theorem State.QueueKept.recNoted {p : Nat} {t : State} (h : State.QueueKept p s t) (ports : Tab PortRt) (inputNext : List Byte) :
    State.QueueKept p s (t.recNoted ports inputNext) := h

end

/-! What a command finds after its entry has been taken. -/

section
variable (s : State) (p : Fin 32) (e : List Byte) (q : RecPlace) (id : Nat)

theorem State.takeEntry_recSet : (s.takeEntry p e).recSet = s.recSet := by
  rw [State.takeEntry_frame]
  rfl

theorem State.takeEntry_currentCopy : (s.takeEntry p e).currentCopy q id = s.currentCopy q id := by
  rw [State.takeEntry_frame]
  rfl

theorem State.takeEntry_copySeq (b : Bool) : (s.takeEntry p e).copySeq q b = s.copySeq q b := by
  rw [State.takeEntry_frame]
  rfl

theorem State.takeEntry_copyLen (b : Bool) : (s.takeEntry p e).copyLen q b = s.copyLen q b := by
  rw [State.takeEntry_frame]
  rfl

end

/-! The load of a profile (R292) keeps the queue, the time and the firmware. -/

section
variable {p : Fin 32} {s t : State} (h : State.QueueKept p s t)
include h

theorem State.QueueKept.setProfState {i st err idx : Nat} : State.QueueKept p s (t.setProfState i st err idx) :=
  ((h.setF (by simp only [R.PACK_PROFILE]; omega)).setF (by simp only [R.PACK_PROFILE]; omega)).setF (by simp only [R.PACK_PROFILE]; omega)

theorem State.QueueKept.setPack {i : Nat} {r : PackRt} : State.QueueKept p s (t.setPack i r) := h

theorem State.QueueKept.showRefs {i : Nat} : State.QueueKept p s (t.showRefs i) :=
  (h.setF (by simp only [R.PACK_CHG_SETPT]; omega)).setF (by simp only [R.PACK_CHG_SETPT]; omega)

theorem State.QueueKept.setChState {i st : Nat} : State.QueueKept p s (t.setChState i st) :=
  h.setF (by simp only [R.PACK_CHG_STATUS]; omega)

theorem State.QueueKept.clearPhase {i : Nat} : State.QueueKept p s (t.clearPhase i) :=
  (((((h.setPack (i := i)).wrN (by simp only [R.PACK_CHG_TIMER]; omega)).setF (by simp only [R.PACK_CHG_STATUS]; omega)).setF
    (by simp only [R.PACK_CHG_STATUS]; omega)).setF (by simp only [R.PACK_CHG_STATUS]; omega)).setF (by simp only [R.PACK_CHG_TERM]; omega)

theorem State.QueueKept.restartPhase {i : Nat} : State.QueueKept p s (t.restartPhase i) := by
  have hrest : State.QueueKept p s (t.unrested i) := h.setChState.ite h
  rw [t.restartPhase_eq]
  exact (hrest.setF (by simp only [R.PACK_CHG_STATUS]; omega)).clearPhase.setPack

theorem State.QueueKept.reporting {hrw : Tab HrwInst} {faults : List Raised} : State.QueueKept p s (t.reporting hrw faults) := h

theorem State.QueueKept.profStopped {i : Nat} {b : List Byte} : State.QueueKept p s (t.profStopped i b) := by
  have htaken : State.QueueKept p s ((t.setProfState i 1 0 0).setPack i { t.pack i with prof := b, checking := [] }) := h.setProfState.setPack
  exact htaken.ite htaken.setChState

theorem State.QueueKept.finishProfile {i : Nat} {b : List Byte} : State.QueueKept p s (t.finishProfile i b) := by
  cases hcheck : t.profCheck i b with
  | none =>
    obtain ⟨hrw, faults, heq⟩ := t.finishProfile_of_good b hcheck
    rw [heq, t.profTaken_eq b]
    exact h.profStopped.restartPhase.showRefs.reporting
  | some x =>
    rw [t.finishProfile_of_bad b hcheck, t.profRefused_eq]
    exact (h.setProfState.setPack (i := i)).showRefs.raise

theorem State.QueueKept.commitProfile {i : Nat} {b : List Byte} : State.QueueKept p s (t.commitProfile i b) :=
  State.QueueKept.ite ((h.setF (by simp only [R.PACK_PROFILE]; omega)).setF (by simp only [R.PACK_PROFILE]; omega))
    (h.setF (by simp only [R.PACK_PROFILE]; omega))

end

section
variable {s t : State} {q : RecPlace} {i slot : Nat}

theorem State.readRecord_none (h : s.currentCopy q i = none) : s.readRecord q i = none := by rw [State.readRecord, h]

theorem State.readRecord_some {b : Bool} (h : s.currentCopy q i = some b) : s.readRecord q i =
    some ((s.nvmPeek (q.copy b) (16 + s.copyLen q b)).drop 16, b, (s.nvmRead (q.copy b) (16 + s.copyLen q b)).2.2) := by
  rw [State.readRecord, h]
  rfl

variable (hq : recPlace s.recSet (0x200 + 4 * i + slot) = some q)
include hq

theorem State.loadProfile_none (h : s.currentCopy q (0x200 + 4 * i + slot) = none) : s.loadProfile i slot = none := by
  rw [State.loadProfile, hq]
  dsimp only
  rw [State.readRecord_none h]

/-- A profile that is recorded is loaded, and is checked or refused at once. -/
theorem State.loadProfile_some (h : (s.currentCopy q (0x200 + 4 * i + slot)).isSome = true) : ∃ t, s.loadProfile i slot = some t := by
  obtain ⟨b, hb⟩ := Option.isSome_iff_exists.1 h
  rw [State.loadProfile, hq]
  dsimp only
  rw [State.readRecord_some hb]
  dsimp only
  split <;> [exact ⟨_, rfl⟩; skip]
  split <;> [skip; exact ⟨_, rfl⟩]
  split <;> exact ⟨_, rfl⟩

theorem State.loadProfile_queueKept {p : Fin 32} (h : s.loadProfile i slot = some t) : State.QueueKept p s t := by
  rw [State.loadProfile, hq] at h
  dsimp only at h
  cases hread : s.readRecord q (0x200 + 4 * i + slot) with
  | none =>
    rw [hread] at h
    exact nomatch h
  | some x =>
    obtain ⟨data, b, u⟩ := x
    rw [hread] at h
    dsimp only at h
    have hloaded : State.QueueKept p s (u.each (List.range 100) fun k t => t.wrN (R.PACK_PROF i k) (leAt data (4 * k) 4)) :=
      (State.readRecord_seen hread).queueKept.each fun k _ hu => hu.wrN (by simp only [R.PACK_PROF]; omega)
    have hcommit := hloaded.commitProfile (i := i)
      (b := (u.each (List.range 100) fun k t => t.wrN (R.PACK_PROF i k) (leAt data (4 * k) 4)).profWindow i)
    split at h
    · exact Option.some.inj h ▸ hcommit
    · split at h
      · split at h
        · exact Option.some.inj h ▸ hcommit.setProfState.setPack
        · exact Option.some.inj h ▸ hcommit.finishProfile
      · exact Option.some.inj h ▸ hcommit.finishProfile

end

/-! The commands, and the obligation. -/

section
variable {s : State} {p : Fin 32} {e : List Byte} (hl : s.live) (hready : s.ctlReady p typControl e = true)
  (hturn : s.ctlTurn p typControl e = true)
include hl hready hturn

theorem exec_recordWrite (buf : DmaRead) (bad : Option (Fin 8)) (hop : ctlOp e = 1) (hclean : ctlClean e [(8, 4), (16, 8)] = true)
    (hrec : s.recordOk (leAt e 8 2) (leAt e 10 2) = true) (hok : bufOk (leAt e 16 8) (leAt e 10 2) = true) (hwin : leAt e 16 8 / 2 ^ 63 = 1)
    (hdone : s.recalled = true) (hfab : leAt e 8 2 ≠ 0x0100) : exec (.recordWrite p e buf bad) s = .next
      (State.ended ((s.takeEntry p e).writeNamed (leAt e 8 2) (s.winRead (leAt e 16 8 % 2 ^ 63) (leAt e 10 2)) (bad.map (·.val))).1 p typControl e
        ((s.takeEntry p e).writeNamed (leAt e 8 2) (s.winRead (leAt e 16 8 % 2 ^ 63) (leAt e 10 2)) (bad.map (·.val))).2).settle := by
  have hexec : exec (.recordWrite p e buf bad) s = execRecordWrite p e buf bad s := rfl
  rw [hexec, execRecordWrite, State.act_on _ hl.1]
  dsimp only
  rw [State.ctlRun_result hready hturn hop hclean (by rw [hrec, hok]; rfl) (.inr hdone)
    ((if_neg fun h => hfab h.1).trans (State.bufRead_window hwin (s.takeEntry p e) _ buf _)), State.takeEntry_winRead]

theorem exec_recordRead {q : RecPlace} (hop : ctlOp e = 2) (hclean : ctlClean e [(8, 4), (16, 8)] = true) (hwin : leAt e 16 8 / 2 ^ 63 = 1)
    (hok : bufOk (leAt e 16 8) (leAt e 10 2) = true) (hq : recPlace s.recSet (leAt e 8 2) = some q) :
    (s.recalled = false → exec (.recordRead p e) s = .next ((s.takeEntry p e).ctlDone p e { status := 0x51, detail := 0x0001 }).settle) ∧
    (s.recalled = true → s.currentCopy q (leAt e 8 2) = none →
      exec (.recordRead p e) s = .next ((s.takeEntry p e).ended p typControl e { status := 0x54 }).settle) ∧
    (∀ b, s.recalled = true → s.currentCopy q (leAt e 8 2) = some b → exec (.recordRead p e) s = .next
      ((((s.takeEntry p e).nvmRead (q.copy b) (16 + s.copyLen q b)).2.2.winWrite (leAt e 16 8 % 2 ^ 63)
        (((s.nvmPeek (q.copy b) (16 + s.copyLen q b)).drop 16).take (leAt e 10 2))).ended p typControl e
          { r0 := min (leAt e 10 2) ((s.nvmPeek (q.copy b) (16 + s.copyLen q b)).drop 16).length, detail := boolNat b }).settle) := by
  have hexec : exec (.recordRead p e) s = execRecordRead p e s := rfl
  have hform : (((leAt e 8 2 == 0x0F00) || (recPlace s.recSet (leAt e 8 2)).isSome) && bufOk (leAt e 16 8) (leAt e 10 2)) = true := by
    rw [hok, hq, Option.isSome_some, Bool.or_true]
    rfl
  have hq' : recPlace (s.takeEntry p e).recSet (leAt e 8 2) = some q := by rw [State.takeEntry_recSet, hq]
  refine ⟨fun hrec => ?_, fun hrec hnone => ?_, fun b hrec hb => ?_⟩
  · rw [hexec, execRecordRead, State.act_on _ hl.1]
    dsimp only
    rw [State.ctlRun_busy hready hturn hop hclean hform rfl hrec]
  · have hread : (s.takeEntry p e).readNamed (leAt e 8 2) = none := by
      rw [State.readNamed, if_neg (recPlace_known hq), hq']
      dsimp only
      rw [State.readRecord_none ((s.takeEntry_currentCopy p e q _).trans hnone)]
    rw [hexec, execRecordRead, State.act_on _ hl.1]
    dsimp only
    rw [State.ctlRun_result hready hturn hop hclean hform (.inr hrec) (by rw [hread])]
  · have hread : (s.takeEntry p e).readNamed (leAt e 8 2) = some ((s.nvmPeek (q.copy b) (16 + s.copyLen q b)).drop 16, boolNat b,
        ((s.takeEntry p e).nvmRead (q.copy b) (16 + s.copyLen q b)).2.2) := by
      rw [State.readNamed, if_neg (recPlace_known hq), hq']
      dsimp only
      rw [State.readRecord_some ((s.takeEntry_currentCopy p e q _).trans hb), State.takeEntry_copyLen,
        ← (s.nvmRead_takeEntry p e (q.copy b) (16 + s.copyLen q b)).1]
      rfl
    rw [hexec, execRecordRead, State.act_on _ hl.1]
    dsimp only
    rw [State.ctlRun_result hready hturn hop hclean hform (.inr hrec) (by rw [hread]; exact State.bufWrite_window hwin _ _ _ _)]

theorem exec_recordRead_malformed (hop : ctlOp e = 2) (hclean : ctlClean e [(8, 4), (16, 8)] = false) :
    exec (.recordRead p e) s = .next ((s.takeEntry p e).ctlDone p e { status := 0x15 }).settle := by
  have hexec : exec (.recordRead p e) s = execRecordRead p e s := rfl
  rw [hexec, execRecordRead, State.act_on _ hl.1]
  dsimp only
  rw [State.ctlRun_malformed hready hturn hop (.inl hclean)]

end

/-- The profile that PROFILE_SELECT has loaded is the pack's selected one (R292). -/
def State.selected (t : State) (i slot : Nat) : State := { t with fw := { t.fw with profSel := t.fw.profSel.set i slot } }

/-- What PROFILE_SELECT makes of a loaded profile. -/
def State.selectLoaded (t : State) (i slot : Nat) : State × CtlRes :=
  if t.f (R.PACK_PROFILE i) F.PACK_PROFILE_ERR = 0 ∧ t.profValid i then
    (t.selected i slot, { detail := t.f (R.PACK_PROFILE i) F.PACK_PROFILE_ERR })
  else (t, { status := 0x50, detail := t.f (R.PACK_PROFILE i) F.PACK_PROFILE_ERR })

section
variable (t : State) (i slot : Nat)

theorem State.selectLoaded_rd (o : Nat) : (t.selectLoaded i slot).1.rd o = t.rd o := by
  unfold State.selectLoaded
  split <;> rfl

theorem State.selectLoaded_result : (t.selectLoaded i slot).2 =
    { status := if t.f (R.PACK_PROFILE i) F.PACK_PROFILE_ERR = 0 ∧ t.profValid i = true then 0x00 else 0x50,
      detail := t.f (R.PACK_PROFILE i) F.PACK_PROFILE_ERR } := by
  unfold State.selectLoaded
  split <;> rfl

theorem State.QueueKept.selectLoaded {p : Nat} {s t : State} (h : State.QueueKept p s t) : State.QueueKept p s (t.selectLoaded i slot).1 := by
  unfold State.selectLoaded
  split <;> exact h

theorem State.selectLoaded_refused (h : t.f (R.PACK_PROFILE i) F.PACK_PROFILE_ERR ≠ 0) : (t.selectLoaded i slot).1.fw = t.fw := by
  rw [State.selectLoaded, if_neg fun hc => h hc.1]

theorem State.selectLoaded_taken (h : t.f (R.PACK_PROFILE i) F.PACK_PROFILE_ERR = 0) (hv : t.profValid i = true)
    (hi : i < t.fw.profSel.length) : (t.selectLoaded i slot).1.fw.profSel.getD i 0 = slot := by
  rw [State.selectLoaded, if_pos ⟨h, hv⟩]
  show (t.fw.profSel.set i slot).getD i 0 = slot
  rw [List.getD_eq_getElem?_getD, List.getElem?_set_self hi, Option.getD_some]

end

section
variable {s : State} {p : Fin 32} {e : List Byte} (hl : s.live) (hready : s.ctlReady p typControl e = true)
  (hturn : s.ctlTurn p typControl e = true)
include hl hready hturn

theorem exec_profileSelect (hop : ctlOp e = 3) (hclean : ctlClean e [(8, 2)] = true) (hrec : s.recalled = true) (hi : leAt e 8 1 < 4)
    (hslot : leAt e 9 1 < 4) :
    ((s.takeEntry p e).loadProfile (leAt e 8 1) (leAt e 9 1) = none →
      exec (.profileSelect p e) s = .next ((s.takeEntry p e).ended p typControl e { status := 0x54 }).settle) ∧
    (∀ t, (s.takeEntry p e).loadProfile (leAt e 8 1) (leAt e 9 1) = some t → exec (.profileSelect p e) s = .next
      ((t.selectLoaded (leAt e 8 1) (leAt e 9 1)).1.ended p typControl e (t.selectLoaded (leAt e 8 1) (leAt e 9 1)).2).settle) := by
  have hexec : exec (.profileSelect p e) s = execProfileSelect p e s := rfl
  refine ⟨fun hnone => ?_, fun t ht => ?_⟩
  · rw [hexec, execProfileSelect, State.act_on _ hl.1]
    dsimp only
    rw [State.ctlRun_result hready hturn hop hclean (decide_eq_true ⟨hi, hslot⟩) (.inr hrec) (by rw [hnone])]
  · rw [hexec, execProfileSelect, State.act_on _ hl.1]
    dsimp only
    rw [State.ctlRun_result hready hturn hop hclean (decide_eq_true ⟨hi, hslot⟩) (.inr hrec) (r := t.selectLoaded (leAt e 8 1) (leAt e 9 1))]
    rw [ht]
    dsimp only
    unfold State.selectLoaded
    split <;> rfl

end

/-- Settles O47: each command is `ctlRun`'s result on the current copy. -/
theorem recordCommandsUseTheCurrentCopy : Obligations.RecordCommandsUseTheCurrentCopy := by
  intro s p e hl hready hturn
  have htaken := s.takeEntry_queueKept p e
  refine ⟨?_, ?_, fun hop hclean => ⟨_, exec_recordRead_malformed hl hready hturn hop hclean, State.ctlDone_of_taken _ _ _ _⟩, ?_⟩
  · intro q b buf hop hclean hrec hok hwin hdone hfab hq hb
    have hexec (bad : Option (Fin 8)) := exec_recordWrite hl hready hturn buf bad hop hclean hrec hok hwin hdone hfab
    have hq' : recPlace (s.takeEntry p e).recSet (leAt e 8 2) = some q := by rw [State.takeEntry_recSet, hq]
    have hstored (bad : Option Nat) := State.writeNamed_stored (data := s.winRead (leAt e 16 8 % 2 ^ 63) (leAt e 10 2)) hq' hfab bad
    have hkept (bad : Option Nat) : State.QueueKept p s
        ((s.takeEntry p e).writeRecord q (leAt e 8 2) (s.winRead (leAt e 16 8 % 2 ^ 63) (leAt e 10 2)) bad).1 :=
      htaken.trans (State.BoxOnly.queueKept _ p (State.BoxOnly.refl _).writeRecord)
    refine ⟨?_, fun k hk => ?_⟩
    · obtain ⟨ports, inputNext, hres⟩ := hstored none
      have hnext := State.planRecord_next (data := s.winRead (leAt e 16 8 % 2 ^ 63) (leAt e 10 2)) ((s.takeEntry_currentCopy p e q _).trans hb)
      refine ⟨_, hexec none, ?_, ?_⟩
      · rw [State.ended_nvm, Option.map_none, hres, State.takeEntry_retaken, State.writeRecord_retaken]
        rfl
      · rw [Option.map_none, hres, State.writeRecord_good, if_pos rfl]
        dsimp only
        rw [hnext.1, hnext.2, State.takeEntry_copySeq]
        exact ((hkept none).recNoted _ _).ended _ _ _
    · obtain ⟨ports, inputNext, hres⟩ := hstored (some k)
      obtain ⟨hbad, hraised⟩ := State.writeRecord_bad (s := s.takeEntry p e) (q := q) (id := leAt e 8 2)
        (data := s.winRead (leAt e 16 8 % 2 ^ 63) (leAt e 10 2)) (k := k) (by rw [State.winRead_length]; exact hk)
      refine ⟨_, hexec (some k), ?_, ?_⟩
      · rw [Option.map_some, hres]
        exact State.ended_raised_mem _ _ _ _ _ hraised
      · rw [Option.map_some, hres, if_neg (by rw [hbad]; decide)]
        exact ((hkept (some k)).recNoted _ _).ended _ _ _
  · intro hop hclean hwin hok q hq
    obtain ⟨hbusy, hnone, hsome⟩ := exec_recordRead hl hready hturn hop hclean hwin hok hq
    refine ⟨fun hrec => ⟨_, hbusy hrec, State.ctlDone_of_taken _ _ _ _⟩, fun hrec hn => ⟨_, hnone hrec hn, State.ended_of_taken _ _ _ _ _⟩,
      fun b hrec hb => ⟨_, hsome b hrec hb, ?_, ?_, ?_⟩⟩
    · rw [State.ended_nvm, (State.winWrite_winOnly _ _ _).nvm, ((s.takeEntry p e).nvmRead_seen _ _).bytes, State.takeEntry_nvm]
    · exact State.ended_winRead_length (List.length_take ..) ((Nat.add_le_add_left (Nat.min_le_left _ _) _).trans (bufOk_window hwin hok))
    · exact ((htaken.trans ((s.takeEntry p e).nvmRead_seen _ _).queueKept).trans
        ((State.winWrite_winOnly _ _ _).queueKept p.isLt)).ended _ _ _
  · intro q hop hclean hrec i slot hi hslot hq
    obtain ⟨hnone, hsome⟩ := exec_profileSelect hl hready hturn hop hclean hrec hi hslot
    have hq' : recPlace (s.takeEntry p e).recSet (0x200 + 4 * i + slot) = some q := by rw [State.takeEntry_recSet, hq]
    have hcopy := s.takeEntry_currentCopy p e q (0x200 + 4 * i + slot)
    refine ⟨fun hn => ⟨_, hnone (State.loadProfile_none hq' (hcopy.trans hn)), State.ended_of_taken _ _ _ _ _⟩, fun hs => ?_⟩
    obtain ⟨t, ht⟩ := State.loadProfile_some hq' (hcopy ▸ hs)
    have hprof (r : CtlRes) (g : Fld) : ((t.selectLoaded i slot).1.ended p typControl e r).f (R.PACK_PROFILE i) g = t.f (R.PACK_PROFILE i) g := by
      rw [State.f, State.ended_rd _ _ _ _ (by simp only [R.PACK_PROFILE]; omega), State.selectLoaded_rd, State.f]
    have hvalid (r : CtlRes) : ((t.selectLoaded i slot).1.ended p typControl e r).profValid i = t.profValid i := by
      rw [State.profValid, hprof, State.profValid]
    have hfw : t.fw = s.fw := by
      rw [((State.StartOnly.refl (s.takeEntry p e)).loadProfile (by omega) t ht).fw, State.takeEntry_frame]
    refine ⟨_, hsome t ht, ?_, fun herr => ?_, fun herr hlen hv => ?_⟩
    · rw [hprof, hvalid, State.selectLoaded_result]
      exact ((htaken.trans (State.loadProfile_queueKept hq' ht)).selectLoaded i slot).ended _ _ _
    · rw [State.ended_fw, State.selectLoaded_refused _ _ _ (hprof _ _ ▸ herr), hfw]
    · rw [State.ended_fw]
      exact State.selectLoaded_taken _ _ _ ((hprof _ _).symm.trans herr) ((hvalid _).symm.trans hv) (hfw ▸ hlen)

end Sys2Proof.Machine
end

section
/-! FAULT_CLEAR and PACK_CMD on a CONTROL pair (R188, R216, R379). -/

namespace Sys2Proof.Machine

section
variable {p : Fin 32} {s t : State} (h : State.QueueKept p s t)
include h

theorem State.QueueKept.hwSet {o : Nat} (ho : 0x1000 ≤ o) {g : Fld} {v : Nat} : State.QueueKept p s (t.hwSet o g v) := by
  refine h.trans ⟨?_, State.f_hwSet_reg _ _ _ _ ?_, ?_⟩
  · rw [State.regsOnly_hwSet]
  · simp only [R.RING_STATUS]
    omega
  · rw [State.regsOnly_hwSet]

end

section
variable (s : State) (p : Fin 32) (e : List Byte)

theorem State.takeEntry_clearCause (id inst : Nat) : (s.takeEntry p e).clearCause id inst = s.clearCause id inst := by
  rw [State.takeEntry_frame]
  rfl

theorem State.takeEntry_shipCause : (s.takeEntry p e).shipCause = s.shipCause := by
  rw [State.takeEntry_frame]
  rfl

theorem State.takeEntry_hrw : (s.takeEntry p e).hrw = s.hrw := by rw [State.takeEntry_frame]

theorem State.takeEntry_sys : (s.takeEntry p e).sys = s.sys := by rw [State.takeEntry_frame]

end

/-! A clear that is refused, and one that empties a charge latch. -/

section
variable {s : State} {id i : Nat}

theorem State.clearFault_refused (p : Fin 32) (h : s.clearCause id i ≠ 0) : State.QueueKept p s (s.clearFault id i).1 ∧
    (s.clearFault id i).1.hrw = s.hrw ∧ (s.clearFault id i).2 = s.clearCause id i := by
  have hrefl := State.QueueKept.refl p s
  unfold State.clearFault State.softClear
  dsimp only
  split
  · refine ⟨(hrefl.hwSet ?_).setF (by decide), ?_, rfl⟩
    · simp only [R.PACK_CHG_STATUS]
      omega
    · rw [State.setF, State.wr, State.regsOnly_hwSet]
  · exact ⟨hrefl.setF (by decide), rfl, rfl⟩

theorem State.clearFault_done (h : s.clearCause id i = 0) : ((s.clearFault id i).1.hrwInst id i).st = .clear ∧
    ((s.clearFault id i).1.hrwInst id i).recov = [] := by
  obtain ⟨hfault, -⟩ := State.softClear_of_zero h
  rw [State.clearFault, State.setF_hrwInst_of, hfault.hrwInst, s.clearedLatch_hrwInst id i]
  exact ⟨rfl, rfl⟩

/-- The faults that R187 latches. -/
def latching (id : Nat) : Prop := id = 0x50 ∨ id = 0x51 ∨ id = 0x54

/-- A latch that is let go releases the pack's charge function (R188). -/
theorem State.releaseUnit_latch (hid : latching id) (hi : i < 4) (h : HrwInst) : s.releaseUnit id i h = s.unlockCharge i := by
  have hcharge : unitCharge id h ∧ i < 4 := ⟨by rcases hid with rfl | rfl | rfl <;> rfl, hi⟩
  have hnone : s.unitStages id i = [] := by rcases hid with rfl | rfl | rfl <;> rfl
  have hne : ¬ (id = 0x5B ∧ i < 4) := by
    rintro ⟨rfl, -⟩
    exact absurd hid (by unfold latching; decide)
  rw [State.releaseUnit, hnone]
  dsimp only [List.foldl_nil]
  rw [if_neg hne, if_pos hcharge]

theorem State.QueueKept.unlockCharge {p : Fin 32} {t : State} (h : State.QueueKept p s t) : State.QueueKept p s (t.unlockCharge i) :=
  State.QueueKept.ite h.setChState.restartPhase.showRefs h

theorem State.unlockCharge_fault (s : State) (i : Nat) : (s.unlockCharge i).rd (R.PACK_CHG_FAULT i) = s.rd (R.PACK_CHG_FAULT i) := by
  have hch : R.PACK_CHG_FAULT i ≠ R.PACK_CHG_STATUS i := by simp only [R.PACK_CHG_FAULT, R.PACK_CHG_STATUS]; omega
  have hphase : R.PACK_CHG_FAULT i ∉ phaseRegs i := by
    simp only [phaseRegs, R.PACK_CHG_FAULT, R.PACK_CHG_TIMER, R.PACK_CHG_STATUS, R.PACK_CHG_TERM, List.mem_cons, List.not_mem_nil, or_false]
    omega
  have hrefs : R.PACK_CHG_FAULT i ∉ [R.PACK_CHG_SETPT i] := by
    simp only [R.PACK_CHG_FAULT, R.PACK_CHG_SETPT, List.mem_singleton]
    omega
  unfold State.unlockCharge
  split
  · rw [State.showRefs_sameRegs _ _ _ hrefs, State.restartPhase_sameRegs _ _ _ hphase, State.setChState, State.setF,
      State.rd_wr_other _ _ hch]
  · rfl

theorem State.QueueKept.emptyLatch {p : Fin 32} {t : State} (h : State.QueueKept p s t) : State.QueueKept p s (t.emptyLatch i) :=
  h.wrN (by simp only [R.PACK_CHG_FAULT]; omega)

/-- The latch of a locked charge fault whose clear is not refused is emptied (R188). -/
theorem State.clearLatch_empties (p : Fin 32) (hid : latching id) (hi : i < 4) (hcause : s.f (R.PACK_CHG_FAULT i) F.PACK_CHG_FAULT_CAUSE = id)
    (hst : (s.hrwInst id i).st = .locked) (hzero : s.clearCause id i = 0) : (s.clearLatch i).2 = 0 ∧
    (s.clearLatch i).1.rd (R.PACK_CHG_FAULT i) = 0#32 ∧ ((s.clearLatch i).1.hrwInst id i).st = .clear ∧ State.QueueKept p s (s.clearLatch i).1 := by
  have hne : id ≠ 0 := by
    rintro rfl
    exact absurd hid (by unfold latching; decide)
  have hlatch : s.clearedLatch id i = (s.setHrw id i { s.hrwInst id i with st := .clear, recov := [] }).emptyLatch i := if_pos ⟨hid, hcause⟩
  have hsoft : s.softClear id i = ((s.clearedLatch id i).unlockCharge i, 0) := by
    have hform : s.softClear id i = ((s.clearedLatch id i).releaseUnit id i (s.hrwInst id i), 0) := by
      rw [State.softClear, hzero, if_neg (by decide), if_neg (by decide)]
      exact if_neg (by rw [hst]; decide)
    rw [hform, State.releaseUnit_latch hid hi]
  have hclear : s.clearLatch i = ((s.clearedLatch id i).unlockCharge i, 0) := by
    unfold State.clearLatch
    dsimp only
    rw [hcause, if_neg hne, hsoft, if_pos rfl]
  have hkept : State.QueueKept p s (s.setHrw id i { s.hrwInst id i with st := .clear, recov := [] }) := ⟨rfl, rfl, rfl⟩
  rw [hclear]
  refine ⟨rfl, ?_, ?_, ?_⟩
  · rw [State.unlockCharge_fault, hlatch]
    exact State.rd_wr_same _ _ _
  · rw [((State.FaultOnly.refl _).unlockCharge).hrwInst, s.clearedLatch_hrwInst id i]
  · rw [hlatch]
    exact hkept.emptyLatch.unlockCharge

theorem State.clearLatch_none (h : s.f (R.PACK_CHG_FAULT i) F.PACK_CHG_FAULT_CAUSE = 0) : s.clearLatch i = (s, 1) := by
  unfold State.clearLatch
  dsimp only
  rw [if_pos h]

theorem State.SweepOnly.queueKept {t : State} (p : Fin 32) (h : s.SweepOnly t i) : State.QueueKept p s t :=
  ⟨by rw [h.frame], h.regs.f _ (by simp only [R.RING_STATUS, R.PACK_TILTH_STATUS, List.mem_singleton]; omega) _, by rw [h.frame]⟩

theorem State.endSweep_queueKept (p : Fin 32) (last : Nat) (fault : Bool) : State.QueueKept p s (s.endSweep i last fault) := by
  have hset : State.QueueKept p s ((s.setF (R.PACK_TILTH_STATUS i) F.PACK_TILTH_STATUS_STATE 0).setF (R.PACK_TILTH_STATUS i)
      F.PACK_TILTH_STATUS_LAST last) :=
    ((State.QueueKept.refl p s).setF (by simp only [R.PACK_TILTH_STATUS]; omega)).setF (by simp only [R.PACK_TILTH_STATUS]; omega)
  exact State.QueueKept.ite (State.QueueKept.refl p s) (State.QueueKept.ite hset.raise hset)

end

/-! The commands. -/

section
variable {s : State} {p : Fin 32} {e : List Byte} (hl : s.live) (hready : s.ctlReady p typControl e = true)
  (hturn : s.ctlTurn p typControl e = true)
include hl hready hturn

theorem exec_faultClear (hop : ctlOp e = 4) (hclean : ctlClean e [(8, 2)] = true) (hinst : leAt e 9 1 < 16) :
    exec (.faultClear p e) s = .next (((s.takeEntry p e).clearFault (leAt e 8 1) (leAt e 9 1)).1.ended p typControl e
      { status := if ((s.takeEntry p e).clearFault (leAt e 8 1) (leAt e 9 1)).2 = 0 then 0x00 else 0x50,
        detail := ((s.takeEntry p e).clearFault (leAt e 8 1) (leAt e 9 1)).2 }).settle := by
  have hexec : exec (.faultClear p e) s = execFaultClear p e s := rfl
  rw [hexec, execFaultClear, State.act_on _ hl.1]
  dsimp only
  rw [State.ctlRun_result hready hturn hop hclean (decide_eq_true hinst) (.inl rfl) rfl]

omit hl in
/-- A PACK_CMD of the command's number gives what the command makes of its pack (R289). -/
theorem State.packCmd_result {cmd : Nat} {ok : Bool} {g : Nat → State → State × CtlRes} (hop : ctlOp e = 5) (hclean : ctlClean e [(8, 2)] = true)
    (hcmd : leAt e 9 1 = cmd) (hok : ok = true) : s.packCmd p e cmd ok g =
      (g (leAt e 8 1) (s.takeEntry p e)).1.ended p typControl e (g (leAt e 8 1) (s.takeEntry p e)).2 := by
  rw [State.packCmd, if_neg (not_not_intro hcmd), State.ctlRun_result hready hturn hop hclean hok (.inl rfl) rfl]
  rfl

variable (hop : ctlOp e = 5) (hclean : ctlClean e [(8, 2)] = true)
include hop hclean

theorem exec_packCmdShip (hcmd : leAt e 9 1 = 1) (hi : leAt e 8 1 = 0) : exec (.packCmdShip p e) s = .next
    ((s.takeEntry p e).requestShip.1.ended p typControl e
      { status := if (s.takeEntry p e).requestShip.2 = 0 then 0x00 else 0x50, detail := (s.takeEntry p e).requestShip.2 }).settle := by
  have hexec : exec (.packCmdShip p e) s = execPackCmdShip p e s := rfl
  rw [hexec, execPackCmdShip, State.act_on _ hl.1, State.packCmd_result hready hturn hop hclean hcmd (by rw [hi]; rfl)]

theorem exec_packCmdTilthStart (hcmd : leAt e 9 1 = 2) (hi : leAt e 8 1 < 4) :
    exec (.packCmdTilthStart p e) s = .next (((s.takeEntry p e).startSweep (leAt e 8 1)).ended p typControl e {}).settle := by
  have hexec : exec (.packCmdTilthStart p e) s = execPackCmdTilthStart p e s := rfl
  rw [hexec, execPackCmdTilthStart, State.act_on _ hl.1, State.packCmd_result hready hturn hop hclean hcmd (decide_eq_true hi)]

theorem exec_packCmdTilthAbort (hcmd : leAt e 9 1 = 3) (hi : leAt e 8 1 < 4) :
    exec (.packCmdTilthAbort p e) s = .next (((s.takeEntry p e).endSweep (leAt e 8 1) 2 false).ended p typControl e {}).settle := by
  have hexec : exec (.packCmdTilthAbort p e) s = execPackCmdTilthAbort p e s := rfl
  rw [hexec, execPackCmdTilthAbort, State.act_on _ hl.1, State.packCmd_result hready hturn hop hclean hcmd (decide_eq_true hi)]

theorem exec_packCmdChargeClear (hcmd : leAt e 9 1 = 4) (hi : leAt e 8 1 < 4) : exec (.packCmdChargeClear p e) s = .next
    (((s.takeEntry p e).clearLatch (leAt e 8 1)).1.ended p typControl e
      (if ((s.takeEntry p e).clearLatch (leAt e 8 1)).2 = 0 then {} else { status := 0x50, detail := 1 })).settle := by
  have hexec : exec (.packCmdChargeClear p e) s = execPackCmdChargeClear p e s := rfl
  rw [hexec, execPackCmdChargeClear, State.act_on _ hl.1, State.packCmd_result hready hturn hop hclean hcmd (decide_eq_true hi)]

end

end Sys2Proof.Machine
end

section
/-! BB_READ and ATTEST on a CONTROL pair (R328, R367), and O48. -/

namespace Sys2Proof.Machine

/-! The oldest record (R367). -/

section
variable (s : State)

theorem State.bbFrom_oldest (l : List Nat) : s.bbFrom 0xFFFFFFFF l none = (l, none) := by
  cases l with
  | nil => rfl
  | cons slot l => exact if_pos rfl

theorem State.bbScan_full {n : Nat} {a : BbScan} (h : a.count = n) (l : List Nat) (b : Option (List Byte)) : s.bbScan n l b a = (s, a) := by
  cases l with
  | nil => rfl
  | cons slot l => exact if_pos h

/-- The scan that has found its one record. -/
theorem State.bbScan_one {slot : Nat} {l : List Nat} (hgood : s.bbGood slot = true) : ∃ a : BbScan,
    s.bbScan 1 (slot :: l) none {} = ((s.nvmRead (bbAddr slot) 64).2.2, a) ∧ a.bytes = s.nvmPeek (bbAddr slot) 64 ∧ a.count = 1 ∧
    a.next = (s.bbSeq slot + 1) % 2 ^ 32 := by
  have hseq : leAt (s.nvmPeek (bbAddr slot) 64) 0 4 = s.bbSeq slot := rfl
  unfold State.bbScan
  dsimp only
  rw [if_neg (by decide), hgood, if_neg (by decide)]
  refine ⟨_, State.bbScan_full _ ?_ l _, ?_, ?_, ?_⟩
  · rfl
  · rfl
  · rfl
  · rw [← hseq]
    rfl

theorem State.bbGood_of_valid {slot : Nat} (h : ∀ j < 8, s.nvmGroup (bbAddr slot / 8 + j) = .valid) : s.bbGood slot = true :=
  List.all_eq_true.2 fun j hj => by
    rw [h j (List.mem_range.1 hj)]
    rfl

theorem State.bbSlots_cons (h : s.bb.held ≠ 0) : ∃ l, s.bbSlots = (s.bb.next + 2048 - s.bb.held) % 2048 :: l := by
  obtain ⟨n, hn⟩ := Nat.exists_eq_succ_of_ne_zero h
  rw [State.bbSlots, hn, List.range_succ_eq_map]
  exact ⟨_, rfl⟩

variable (p : Fin 32) (e : List Byte)

theorem State.takeEntry_bb : (s.takeEntry p e).bb = s.bb := by rw [State.takeEntry_frame]

theorem State.takeEntry_nvmGroup (g : Nat) : (s.takeEntry p e).nvmGroup g = s.nvmGroup g := by
  rw [State.nvmGroup, State.takeEntry_nvm, State.nvmGroup]

theorem State.takeEntry_bbSeq (slot : Nat) : (s.takeEntry p e).bbSeq slot = s.bbSeq slot :=
  congrArg leVal (s.nvmRead_takeEntry p e (bbAddr slot) 4).1

end

/-! The attestation report (R328). -/

section
variable (s : State)

theorem padTo_length (n : Nat) (b : List Byte) : (padTo n b).length = n := by
  rw [padTo, List.length_take, List.length_append, List.length_replicate]
  omega

/-- One more byte that the spec leaves free. -/
def freeByte (a : List Byte × State) : List Byte × State := (a.1 ++ [BitVec.ofNat 8 (a.2.takeFree 8).1], (a.2.takeFree 8).2)

theorem freeByte_foldl (l : List Nat) : ∀ (b : List Byte) (n : Nat), ∃ m, (l.foldl (fun a _ => freeByte a) (b, { s with free := n })).2 =
    { s with free := m } ∧ (l.foldl (fun a _ => freeByte a) (b, { s with free := n })).1.length = b.length + l.length := by
  induction l with
  | nil => exact fun b n => ⟨n, rfl, rfl⟩
  | cons k l ih =>
    intro b n
    obtain ⟨m, hframe, hlen⟩ := ih (b ++ [BitVec.ofNat 8 (({ s with free := n } : State).takeFree 8).1]) (n + 1)
    refine ⟨m, hframe, hlen.trans ?_⟩
    rw [List.length_append, List.length_cons, List.length_cons, List.length_nil]
    omega

theorem State.digestOf_length (b : List Byte) : (s.digestOf b).1.length = 32 := by
  unfold State.digestOf
  split
  · obtain ⟨-, -, hlen⟩ := freeByte_foldl s (List.range 32) [] s.free
    exact hlen
  · exact padTo_length _ _

/-- A digest takes free bytes alone. -/
theorem State.digestOf_frame (b : List Byte) : ∃ n, (s.digestOf b).2 = { s with free := n } := by
  unfold State.digestOf
  split
  · obtain ⟨n, hframe, -⟩ := freeByte_foldl s (List.range 32) [] s.free
    exact ⟨n, hframe⟩
  · exact ⟨s.free, rfl⟩

/-- A report's bytes with `k` of them past the nonce: its name stands first, the nonce at 16 (R328). -/
def CarriesNonce (nonce b : List Byte) (k : Nat) : Prop :=
  ∃ mid tail : List Byte, b = leBytes 4 0x54414E44 ++ mid ++ nonce ++ tail ∧ mid.length = 12 ∧ tail.length = k

omit s in
theorem CarriesNonce.append {nonce b x : List Byte} {k n : Nat} (h : CarriesNonce nonce b k) (hx : x.length = n) :
    CarriesNonce nonce (b ++ x) (k + n) := by
  obtain ⟨mid, tail, rfl, hmid, htail⟩ := h
  exact ⟨mid, tail ++ x, List.append_assoc .., hmid, by rw [List.length_append, htail, hx]⟩

omit s in
theorem words_length (f : Nat → Nat) : ((List.range 4).flatMap fun c => leBytes 4 (f c)).length = 16 := by
  simp only [List.length_flatMap, leBytes_length]
  rfl

omit s in
theorem carriesNonce_head (nonce : List Byte) (x y : Byte) (lo hi : Nat) : CarriesNonce nonce
    (leBytes 4 0x54414E44 ++ leBytes 2 1 ++ [x, y] ++ leBytes 4 lo ++ leBytes 4 hi ++ nonce) 0 := by
  refine ⟨leBytes 2 1 ++ [x, y] ++ leBytes 4 lo ++ leBytes 4 hi, [], ?_, ?_, rfl⟩
  · simp only [List.append_assoc, List.append_nil]
  · simp only [List.length_append, leBytes_length, List.length_cons, List.length_nil]

theorem State.attestReport_carriesNonce (nonce : List Byte) : CarriesNonce nonce (s.attestReport nonce).1 208 := by
  unfold State.attestReport
  dsimp only
  exact (((((((((((carriesNonce_head nonce _ _ _ _).append (leBytes_length 6 _)).append rfl).append (words_length _)).append
    (words_length _)).append (padTo_length 32 _)).append (State.digestOf_length _ _)).append (State.digestOf_length _ _)).append
      (leBytes_length 4 _)).append (leBytes_length 4 _)).append (padTo_length 64 _))

/-- The report takes free bytes alone. -/
theorem State.attestReport_frame (nonce : List Byte) : ∃ n, (s.attestReport nonce).2 = { s with free := n } := by
  obtain ⟨n, hn⟩ := s.digestOf_frame s.fw.envelope
  unfold State.attestReport
  dsimp only
  rw [hn]
  exact State.digestOf_frame { s with free := n } _

theorem State.winRead_add (o m n : Nat) : s.winRead o (m + n) = s.winRead o m ++ s.winRead (o + m) n := by
  induction m generalizing o with
  | zero => rw [Nat.zero_add, Nat.add_zero]; rfl
  | succ m ih => rw [Nat.succ_add, State.winRead, State.winRead, ih, List.cons_append, Nat.add_right_comm, Nat.add_assoc]

/-- Bytes of the window after a write, from an offset in what was written. -/
theorem State.winRead_winWrite_part {a b c : List Byte} {o : Nat} (h : o + (a ++ b ++ c).length ≤ 0x80000) :
    (s.winWrite o (a ++ b ++ c)).winRead (o + a.length) b.length = b := by
  have hall := State.winRead_winWrite_same (a ++ b ++ c) s o h
  generalize s.winWrite o (a ++ b ++ c) = t at hall ⊢
  rw [List.length_append, List.length_append, State.winRead_add, State.winRead_add] at hall
  have hab := (List.append_inj hall (by rw [List.length_append, List.length_append, State.winRead_length, State.winRead_length])).1
  exact (List.append_inj hab (State.winRead_length ..)).2

end

/-! The commands, and the obligation. -/

section
variable {s : State} {p : Fin 32} {e : List Byte} (hl : s.live) (hready : s.ctlReady p typControl e = true)
  (hturn : s.ctlTurn p typControl e = true)
include hl hready hturn

theorem exec_bbRead (hop : ctlOp e = 6) (hclean : ctlClean e [(8, 6), (16, 8)] = true) (hcount : leAt e 12 2 = 1) (hrec : s.recalled = true)
    (hok : bufOk (leAt e 16 8) 64 = true) {r : State × CtlRes}
    (hall : (s.takeEntry p e).bbReadAll ⟨p, s.frontIdx p, e⟩ (leAt e 8 4) 1 (leAt e 16 8) = some r) :
    exec (.bbRead p e) s = .next (r.1.ended p typControl e r.2).settle := by
  have hexec : exec (.bbRead p e) s = execBbRead p e s := rfl
  rw [hexec, execBbRead, State.act_on _ hl.1]
  dsimp only
  rw [hcount, State.ctlRun_result hready hturn hop hclean (by rw [hok]; rfl) (.inr hrec) hall]

theorem exec_attest (hop : ctlOp e = 7) (hclean : ctlClean e [(8, 2), (16, 40)] = true) (hlen : 256 ≤ leAt e 8 2) (hrec : s.recalled = true)
    (hwin : leAt e 48 8 / 2 ^ 63 = 1) (hok : bufOk (leAt e 48 8) 256 = true) :
    (s.fw.life = 4 → exec (.attest p e) s = .next ((s.takeEntry p e).ended p typControl e { status := 0x54 }).settle) ∧
    (s.fw.life ≠ 4 → exec (.attest p e) s = .next
      ((((s.takeEntry p e).attestReport (slice e 16 32)).2.winWrite (leAt e 48 8 % 2 ^ 63)
        ((s.takeEntry p e).attestReport (slice e 16 32)).1).ended p typControl e { r0 := 256 }).settle) := by
  have hexec : exec (.attest p e) s = execAttest p e s := rfl
  have hform : (decide (256 ≤ leAt e 8 2) && bufOk (leAt e 48 8) 256) = true := by
    rw [hok, decide_eq_true hlen]
    rfl
  have hlife : (s.takeEntry p e).fw.life = s.fw.life := by rw [State.takeEntry_frame]
  refine ⟨fun h => ?_, fun h => ?_⟩
  · rw [hexec, execAttest, State.act_on _ hl.1]
    dsimp only
    rw [State.ctlRun_result hready hturn hop hclean hform (.inr hrec) (if_pos (hlife.trans h))]
  · rw [hexec, execAttest, State.act_on _ hl.1]
    dsimp only
    rw [State.ctlRun_result hready hturn hop hclean hform (.inr hrec)
      ((if_neg (fun hc => h (hlife.symm.trans hc))).trans (State.bufWrite_window hwin _ _ _ _))]

end

section
variable {s : State} {c : Ctl} {v : Nat}

/-- BB_READ of the oldest record alone, with none in the region (R290). -/
theorem State.bbReadAll_none (h : s.bb.held = 0) : s.bbReadAll c 0xFFFFFFFF 1 v = some (s, { status := 0x54 }) := by
  have hslots : s.bbSlots = [] := by
    rw [State.bbSlots, h]
    rfl
  rw [State.bbReadAll, State.bbFrom_oldest, hslots]
  rfl

theorem State.bbReadAll_one {slot : Nat} {l : List Nat} (hslots : s.bbSlots = slot :: l) (hgood : s.bbGood slot = true)
    (hwin : v / 2 ^ 63 = 1) : ∃ r1, s.bbReadAll c 0xFFFFFFFF 1 v =
      some ((s.nvmRead (bbAddr slot) 64).2.2.winWrite (v % 2 ^ 63) (s.nvmPeek (bbAddr slot) 64), { r0 := 1, r1 := r1 }) ∧
      r1 % 2 ^ 32 = (s.bbSeq slot + 1) % 2 ^ 32 := by
  obtain ⟨a, hscan, hbytes, hcount, hnext⟩ := s.bbScan_one (l := l) hgood
  rw [State.bbReadAll, State.bbFrom_oldest, hslots]
  dsimp only
  rw [hscan]
  dsimp only
  rw [hcount, if_neg (by decide), State.bufWrite_window hwin, hbytes]
  refine ⟨_, rfl, ?_⟩
  omega

end

/-! The registers of SHIP stand below those of the ring pairs. -/

section
variable {p : Fin 32} {s t : State}

theorem State.QueueKept.refusal (h : State.QueueKept p s t) {v : Nat} : State.QueueKept p s (t.setF R.SHIP_STATUS F.SHIP_STATUS_REFUSE v) := by
  refine h.trans ⟨rfl, State.f_setF_reg _ _ _ _ ?_, rfl⟩
  simp only [R.RING_STATUS, R.SHIP_STATUS]
  omega

theorem State.ended_shipStatus {typ : Nat} {e : List Byte} {r : CtlRes} : (t.ended p typ e r).rd R.SHIP_STATUS = t.rd R.SHIP_STATUS :=
  t.ended_sameRegs typ e r p _ (by
    simp only [List.mem_cons, List.not_mem_nil, or_false, R.RING_CNT, R.CPLQ_STATUS, R.SHIP_STATUS]
    omega)

end

/-! Where a report stands in the window. -/

section
variable {nonce b : List Byte} (h : CarriesNonce nonce b 208) (t : State) {o : Nat}
include h

theorem CarriesNonce.title (hn : nonce.length = 32) (hfit : o + 256 ≤ 0x80000) : (t.winWrite o b).winRead o 4 = leBytes 4 0x54414E44 := by
  obtain ⟨mid, tail, rfl, hmid, htail⟩ := h
  have hpart := t.winRead_winWrite_part (a := []) (b := leBytes 4 0x54414E44) (c := mid ++ nonce ++ tail) (o := o) (by
    simp only [List.length_append, List.length_nil, leBytes_length, hmid, hn, htail]
    omega)
  rw [leBytes_length] at hpart
  simp only [List.append_assoc] at hpart ⊢
  exact hpart

theorem CarriesNonce.reads (hn : nonce.length = 32) (hfit : o + 256 ≤ 0x80000) : (t.winWrite o b).winRead (o + 16) 32 = nonce := by
  obtain ⟨mid, tail, rfl, hmid, htail⟩ := h
  have hpart := t.winRead_winWrite_part (a := leBytes 4 0x54414E44 ++ mid) (b := nonce) (c := tail) (o := o) (by
    simp only [List.length_append, leBytes_length, hmid, hn, htail]
    omega)
  rw [List.length_append, leBytes_length, hmid, hn] at hpart
  exact hpart

end

/-- An entry whose buffer stands in the local window holds all of its nonce. -/
theorem nonce_length {e : List Byte} (hwin : leAt e 48 8 / 2 ^ 63 = 1) : (slice e 16 32).length = 32 := by
  have hlt := leVal_lt ((e.drop 48).take 8)
  rw [List.length_take, List.length_drop] at hlt
  rw [slice, List.length_take, List.length_drop]
  rw [leAt] at hwin
  have hfull : 8 ≤ e.length - 48 := by
    by_contra hshort
    have hpow : 256 ^ min 8 (e.length - 48) ≤ 256 ^ 7 := Nat.pow_le_pow_right (by decide) (by omega)
    omega
  omega

section
variable {s : State}

theorem State.requestShip_code (s : State) : s.requestShip.2 = s.shipCause := by
  unfold State.requestShip
  dsimp only
  split
  case isTrue h => exact h.symm
  case isFalse => rfl

theorem State.hrwInst_of_hrw {t : State} (h : t.hrw = s.hrw) (id i : Nat) : t.hrwInst id i = s.hrwInst id i := by
  rw [State.hrwInst, State.hrwInst, h]

theorem State.takeEntry_bbSlots (s : State) (p : Fin 32) (e : List Byte) : (s.takeEntry p e).bbSlots = s.bbSlots := by
  rw [State.bbSlots, State.bbSlots, State.takeEntry_bb]

end

/-- Settles O48: each command is `ctlRun`'s result, and reports what it did. -/
theorem controlCommandsReportTheirResult : Obligations.ControlCommandsReportTheirResult := by
  intro s p e hl hready hturn
  have htaken := s.takeEntry_queueKept p e
  refine ⟨?_, ?_, ?_, ?_⟩
  · intro hop hclean hi
    have hexec := exec_faultClear hl hready hturn hop hclean hi
    refine ⟨fun hc => ?_, fun hc => ?_⟩
    · have hsame := s.takeEntry_clearCause p e (leAt e 8 1) (leAt e 9 1)
      obtain ⟨hkept, hhrw, hcode⟩ := State.clearFault_refused p (hsame.symm ▸ hc)
      rw [hcode, hsame, if_neg hc] at hexec
      exact ⟨_, hexec, (State.ended_hrw _ _ _ _ _).trans (hhrw.trans (s.takeEntry_hrw p e)), (htaken.trans hkept).ended _ _ _⟩
    · obtain ⟨hst, hrecov⟩ := State.clearFault_done ((s.takeEntry_clearCause p e (leAt e 8 1) (leAt e 9 1)).trans hc)
      refine ⟨_, hexec, ?_, ?_⟩
      · rw [State.hrwInst, State.ended_hrw, ← State.hrwInst, hst]
      · rw [State.hrwInst, State.ended_hrw, ← State.hrwInst, hrecov]
  · intro hop hclean
    refine ⟨fun hcmd hi hc => ?_, fun hcmd hi hc => ?_, fun hcmd hi hz => ?_, fun hcmd hi hz => ?_, fun hcmd hi => ?_⟩
    · have hcause := s.takeEntry_shipCause p e
      have hne : (s.takeEntry p e).shipCause ≠ 0 := hcause.symm ▸ hc
      have hexec := exec_packCmdShip hl hready hturn hop hclean hcmd hi
      rw [State.requestShip_code, hcause, if_neg hc, State.requestShip_of_ne hne, hcause] at hexec
      refine ⟨_, hexec, ?_, ?_, ?_, (htaken.refusal).raise.ended _ _ _⟩
      · rw [State.ended_sys, State.raise_sys, State.setF_sys, State.takeEntry_sys, hl.1]
      · rw [State.f, State.ended_shipStatus, ← State.f, State.raise_f_of, State.f_setF_same _ _ _ _ (by decide)]
        exact Nat.mod_eq_of_lt s.shipCause_lt
      · refine State.ended_raised_mem _ _ _ _ _ ?_
        rw [State.raise_raised]
        exact List.mem_append_right _ (List.mem_singleton_self _)
    · have hcause := s.takeEntry_shipCause p e
      have hexec := exec_packCmdShip hl hready hturn hop hclean hcmd hi
      rw [State.requestShip_code, hcause, hc, if_pos rfl, State.requestShip_of_zero (hcause.trans hc)] at hexec
      obtain ⟨hpower, hrd, hopen, -, -⟩ := ((s.takeEntry p e).setF R.SHIP_STATUS F.SHIP_STATUS_REFUSE 0).enterShip_leaves
      refine ⟨_, hexec, ?_, ?_, fun w => ?_⟩
      · rw [State.ended_sys, hpower]
      · rw [State.f, State.ended_shipStatus, hrd, ← State.f, State.f_setF_same _ _ _ _ (by decide), Nat.zero_mod]
      · rw [State.pswClosed_congr (State.ended_rd _ _ _ _ (by simp only [R.PSW_STATUS]; omega)), hopen]
    · have hstate : (s.takeEntry p e).tilthState (leAt e 8 1) = 0 := (s.takeEntry_f p e).trans hz
      obtain ⟨hst, hpoint, -, -, honly⟩ := State.startSweep_leaves (s.takeEntry p e) ⟨leAt e 8 1, hi⟩ hstate
      refine ⟨_, exec_packCmdTilthStart hl hready hturn hop hclean hcmd hi, ?_, ?_, (htaken.trans (honly.queueKept p)).ended _ _ _⟩
      · rw [State.tilthState, State.f, State.ended_rd _ _ _ _ (by simp only [R.PACK_TILTH_STATUS]; omega), ← State.f, ← State.tilthState, hst]
        split <;> decide
      · rw [State.f, State.ended_rd _ _ _ _ (by simp only [R.PACK_TILTH_STATUS]; omega), ← State.f, ← State.tilthPoint, hpoint]
    · have hstate : (s.takeEntry p e).tilthState (leAt e 8 1) ≠ 0 := fun h => hz ((s.takeEntry_f p e).symm.trans h)
      obtain ⟨hst, hlast, -, -⟩ := State.endSweep_leaves (s.takeEntry p e) ⟨leAt e 8 1, hi⟩ false hstate (last := 2) (by decide)
      refine ⟨_, exec_packCmdTilthAbort hl hready hturn hop hclean hcmd hi, ?_, ?_, (htaken.trans (State.endSweep_queueKept p 2 false)).ended _ _ _⟩
      · rw [State.f, State.ended_rd _ _ _ _ (by simp only [R.PACK_TILTH_STATUS]; omega), ← State.f, ← State.tilthState, hst]
      · rw [State.f, State.ended_rd _ _ _ _ (by simp only [R.PACK_TILTH_STATUS]; omega), ← State.f, hlast]
    · have hexec := exec_packCmdChargeClear hl hready hturn hop hclean hcmd hi
      have hcause := s.takeEntry_f p e (o := R.PACK_CHG_FAULT (leAt e 8 1)) (d := F.PACK_CHG_FAULT_CAUSE)
      refine ⟨fun hz => ?_, fun hid hst hc => ?_⟩
      · rw [State.clearLatch_none (hcause.trans hz), if_neg Nat.one_ne_zero] at hexec
        exact ⟨_, hexec, State.ended_of_taken _ _ _ _ _⟩
      · obtain ⟨hcode, hfault, hclear, hkept⟩ := State.clearLatch_empties p hid hi hcause
          ((congrArg HrwInst.st (State.hrwInst_of_hrw (s.takeEntry_hrw p e) _ _)).trans hst) ((s.takeEntry_clearCause p e _ _).trans hc)
        rw [hcode, if_pos rfl] at hexec
        refine ⟨_, hexec, ?_, ?_, (htaken.trans hkept).ended _ _ _⟩
        · rw [State.ended_rd _ _ _ _ (by simp only [R.PACK_CHG_FAULT]; omega), hfault]
        · rw [State.hrwInst_of_hrw (State.ended_hrw _ _ _ _ _), hclear]
  · intro hop hclean hfirst hcount hrec v slot hwin hok
    refine ⟨fun hheld => ?_, fun hheld hvalid => ?_⟩
    · have hnone := State.bbReadAll_none (c := ⟨p, s.frontIdx p, e⟩) (v := v) ((congrArg BbSt.held (s.takeEntry_bb p e)).trans hheld)
      rw [← hfirst] at hnone
      exact ⟨_, exec_bbRead hl hready hturn hop hclean hcount hrec hok hnone, (State.ended_of_taken _ _ _ _ _).2⟩
    · obtain ⟨l, hslots⟩ := s.bbSlots_cons hheld
      have hgood : (s.takeEntry p e).bbGood slot = true :=
        State.bbGood_of_valid _ fun j hj => (s.takeEntry_nvmGroup p e _).trans (hvalid j hj)
      obtain ⟨r1, hone, hseq⟩ := State.bbReadAll_one (c := ⟨p, s.frontIdx p, e⟩) ((s.takeEntry_bbSlots p e).trans hslots) hgood hwin
      rw [← hfirst] at hone
      obtain ⟨hbytes, -⟩ := s.nvmRead_takeEntry p e (bbAddr slot) 64
      refine ⟨_, r1, exec_bbRead hl hready hturn hop hclean hcount hrec hok hone, ?_, ?_, hseq.trans ?_⟩
      · have hbuf := bufOk_window hwin hok
        refine (State.ended_winRead_length ?_ hbuf).trans hbytes
        rw [State.nvmPeek, List.length_map, List.length_range]
      · exact ((htaken.trans ((s.takeEntry p e).nvmRead_seen _ _).queueKept).trans
          ((State.winWrite_winOnly _ _ _).queueKept p.isLt)).ended _ _ _
      · rw [s.takeEntry_bbSeq p e]
  · intro hop hclean hlen hrec v hwin hok
    have hbuf := bufOk_window hwin hok
    have hreport := (s.takeEntry p e).attestReport_carriesNonce (slice e 16 32)
    obtain ⟨hend, hdone⟩ := exec_attest hl hready hturn hop hclean hlen hrec hwin hok
    refine ⟨fun hlife => ⟨_, hend hlife, State.ended_of_taken _ _ _ _ _⟩, fun hlife => ⟨_, hdone hlife, ?_, ?_, ?_⟩⟩
    · refine (State.winRead_of_localWin (State.ended_localWin _ _ _ _ _) _ _).trans ?_
      exact CarriesNonce.title hreport _ (nonce_length hwin) hbuf
    · refine (State.winRead_of_localWin (State.ended_localWin _ _ _ _ _) _ _).trans ?_
      exact CarriesNonce.reads hreport _ (nonce_length hwin) hbuf
    · obtain ⟨n, hfree⟩ := (s.takeEntry p e).attestReport_frame (slice e 16 32)
      have hkept : State.QueueKept p (s.takeEntry p e) ((s.takeEntry p e).attestReport (slice e 16 32)).2 := by
        rw [hfree]
        exact ⟨rfl, rfl, rfl⟩
      exact ((htaken.trans hkept).trans ((State.winWrite_winOnly _ _ _).queueKept p.isLt)).ended _ _ _

end Sys2Proof.Machine
end

section
/-! The streams of Gleaner (R312–R320). -/

namespace Sys2Proof.Machine

/-! A stream's record and its registers. -/

section
variable (s : State) (g : Nat) (r : GlnRt)

theorem State.putGln_gln : (s.putGln g r).gln g = r := State.gln_setGln ..

theorem State.putGln_raised : (s.putGln g r).raised = s.raised := rfl

theorem State.putGln_sameRegs : s.sameRegs (s.putGln g r) [R.GLN_STATUS g] :=
  (State.sameRegs.setF (t := s.setGln g r) (fun _ _ => rfl) List.mem_cons_self _ _).setF List.mem_cons_self _ _

theorem State.putGln_glnState : (s.putGln g r).glnState g = s.glnState g := by
  rw [State.glnState, State.putGln, State.f_setF_field _ _ (by decide) (by decide) (.inl (by decide)),
    State.f_setF_field _ _ (by decide) (by decide) (.inl (by decide))]
  rfl

theorem State.putGln_bufs (h : r.bufs.length < 32) : (s.putGln g r).f (R.GLN_STATUS g) F.GLN_STATUS_BUFS = r.bufs.length := by
  rw [State.putGln, State.f_setF_field _ _ (by decide) (by decide) (.inr (by decide)), State.f_setF_same _ _ _ _ (by decide)]
  exact Nat.mod_eq_of_lt h

theorem State.putGln_nobuf : (s.putGln g r).flag (R.GLN_STATUS g) F.GLN_STATUS_NOBUF = r.bufs.isEmpty := by
  rw [State.putGln, State.flag_setF_boolNat _ _ (by decide) (by decide)]

theorem State.QueueKept.putGln {p : Fin 32} {t : State} (h : State.QueueKept p s t) : State.QueueKept p s (t.putGln g r) :=
  (State.QueueKept.setF (t := t.setGln g r) h (by simp only [R.GLN_STATUS]; omega)).setF (by simp only [R.GLN_STATUS]; omega)

end

/-! A buffer is posted (R315). -/

section
variable {s : State} {p : Fin 32} {e : List Byte} {g : Fin 8} (hl : s.live) (hready : s.ctlReady p 3 e = true) (hop : ctlOp e = 1)
  (hg : bitsOf (leAt e 0 4) 8 3 = g)

/-- The form that R315 asks of a posted buffer. -/
def State.postFits (s : State) (p : Fin 32) (e : List Byte) (g : Fin 8) : Bool :=
  bitsOf (leAt e 0 4) 11 2 == 0 && bitsOf (leAt e 0 4) 14 18 == 0 && allZero (e.drop 20) && s.glnPair g == p.val
    && decide (4096 ≤ leAt e 16 4 ∧ leAt e 16 4 ≤ 2 ^ 22 ∧ leAt e 16 4 % 4096 = 0 ∧ leAt e 8 8 % 64 = 0) && bufOk (leAt e 8 8) (leAt e 16 4)

theorem State.postFits_iff : s.postFits p e g = true ↔ bitsOf (leAt e 0 4) 11 2 = 0 ∧ bitsOf (leAt e 0 4) 14 18 = 0 ∧
    allZero (e.drop 20) = true ∧ s.glnPair g = p ∧ 4096 ≤ leAt e 16 4 ∧ leAt e 16 4 ≤ 2 ^ 22 ∧ leAt e 16 4 % 4096 = 0 ∧
    leAt e 8 8 % 64 = 0 ∧ bufOk (leAt e 8 8) (leAt e 16 4) = true := by
  simp only [State.postFits, Bool.and_eq_true, beq_iff_eq, decide_eq_true_eq, and_assoc]

include hl hready hop hg

theorem exec_post : exec (.post p e) s = .next (State.settle
    (if s.postFits p e g = false then (s.takeEntry p e).complete p (leBytes 4 (0x15 + 256 * g.val) ++ slice e 4 4) (ctlWorthy e)
    else if 16 ≤ (s.gln g).bufs.length then s
    else (s.takeEntry p e).putGln g { s.gln g with
      bufs := (s.gln g).bufs ++ [⟨leAt e 4 4, leAt e 8 8, leAt e 16 4, ctlWorthy e, s.frontIdx p⟩] })) := by
  have hexec : exec (.post p e) s = execPost p e s := rfl
  have hpair : (s.takeEntry p e).glnPair g = s.glnPair g := s.takeEntry_f p e
  have hgln : (s.takeEntry p e).gln g = s.gln g := by rw [State.takeEntry_frame]; rfl
  rw [hexec, execPost, State.act_on _ hl.1]
  dsimp only
  rw [if_neg (by rw [hready, hop]; decide), hg, hgln]
  congr 2
  cases hfits : s.postFits p e g with
  | true => exact if_neg (by rw [State.postFits] at hfits; rw [hfits]; decide)
  | false => exact if_pos (by rw [State.postFits] at hfits; rw [hfits]; rfl)

end

/-! Triggers (R319, R320). -/

section
variable {s : State} {g : Fin 8}

/-- A capture that has begun: the next record is the trigger record. -/
def State.captured (s : State) (g : Nat) : State := (s.setGln g { s.gln g with pre := [], trigNext := true }).setGlnState g glnCapture

theorem State.setGlnState_glnState (s : State) (g : Nat) {st : Nat} (h : st < 8) : (s.setGlnState g st).glnState g = st :=
  (s.f_setF_same _ _ _ (by decide)).trans (Nat.mod_eq_of_lt h)

theorem State.setGlnState_sameRegs (s : State) (g st : Nat) : s.sameRegs (s.setGlnState g st) [R.GLN_STATUS g] :=
  (s.sameRegs_refl _).setF List.mem_cons_self _ _

theorem State.captured_leaves (s : State) (g : Nat) : (s.captured g).glnState g = glnCapture ∧ ((s.captured g).gln g).trigNext = true ∧
    s.sameRegs (s.captured g) [R.GLN_STATUS g] := by
  refine ⟨State.setGlnState_glnState _ _ (by decide), ?_, State.setGlnState_sameRegs _ _ _⟩
  rw [State.captured, State.setGlnState, State.setF_gln_of, State.gln_setGln]

theorem State.glnFire_armed (h : s.glnState g = glnArmed) (hpre : (s.gln g).pre = []) : s.glnFire g = s.captured g := by
  rw [State.glnFire, if_neg (not_not_intro h), hpre]
  rfl

theorem State.glnFire_ignored (h : s.glnState g ≠ glnArmed) : s.glnFire g = s := if_pos h

/-- A stream that has been armed anew. -/
def State.rearmed (s : State) (g : Nat) : State := (s.setGln g { s.gln g with pre := [], trigNext := false }).setGlnState g glnArmed

theorem State.rearmed_leaves (s : State) (g : Nat) : (s.rearmed g).glnState g = glnArmed ∧ ((s.rearmed g).gln g).pre = [] ∧
    ((s.rearmed g).gln g).trigNext = false ∧ s.sameRegs (s.rearmed g) [R.GLN_STATUS g] := by
  have hgln : (s.rearmed g).gln g = { s.gln g with pre := [], trigNext := false } := by
    rw [State.rearmed, State.setGlnState, State.setF_gln_of, State.gln_setGln]
  exact ⟨State.setGlnState_glnState _ _ (by decide), by rw [hgln], by rw [hgln], State.setGlnState_sameRegs _ _ _⟩

end

/-! A buffer completes (R316, R317). -/

section
variable {s : State} {g : Fin 8} {x : GlnBuf} {rest : List GlnBuf} {status : Nat}

theorem State.glnPair_lt (s : State) (g : Nat) : s.glnPair g < 32 := s.f_lt _ F.GLN_CFG_PAIR (by decide)

/-- A buffer with whole records completes with the numbers of its first and its last. -/
theorem State.glnCplBuf_whole {r : GlnRt} {n : Nat} (hn : n ≠ 0) : s.glnCplBuf g x status r n =
    s.complete (s.glnPair g) (glnCpl status g x.tag n r.firstSeq r.firstTime r.lastTime) x.irq := if_neg hn

theorem State.glnCplBuf_frame (s : State) (g : Nat) (x : GlnBuf) (status : Nat) (r : GlnRt) (n : Nat) :
    s.glnCplBuf g x status r n = { s with
      regs := (s.glnCplBuf g x status r n).regs, cycle := (s.glnCplBuf g x status r n).cycle, cplq := (s.glnCplBuf g x status r n).cplq,
      cans := (s.glnCplBuf g x status r n).cans, raised := (s.glnCplBuf g x status r n).raised, free := (s.glnCplBuf g x status r n).free } := by
  unfold State.glnCplBuf
  dsimp only
  split
  · rw [State.complete_frame]
    rfl
  · rw [State.complete_frame]

/-- The current buffer completes, and the next one is current. -/
theorem State.glnFinish_sound (hbufs : (s.gln g).bufs = x :: rest) (hst : status ≠ glnFaultCode) : s.glnFinish g status =
    (s.glnCplBuf g x status (s.gln g) (s.gln g).curLen).putGln g { s.gln g with bufs := rest, curLen := 0, faults := 0 } := by
  rw [State.glnFinish, hbufs]
  dsimp only
  rw [if_neg hst, if_neg (by decide)]

theorem State.completesTo_of_cplq {t u : State} {p : Nat} {b : List Byte} {w : Bool} (h : s.completesTo t p b w) (hq : u.cplq = t.cplq) :
    s.completesTo u p b w := fun hen hroom hlt => hq.trans (h hen hroom hlt)

theorem State.glnCplBuf_completes {t : State} {r : GlnRt} {n : Nat} (h : State.QueueKept (t.glnPair g) s t) (hn : n ≠ 0) :
    s.completesTo (t.glnCplBuf g x status r n) (t.glnPair g) (glnCpl status g x.tag n r.firstSeq r.firstTime r.lastTime) x.irq := by
  rw [State.glnCplBuf_whole hn]
  exact h.complete _ _

end

end Sys2Proof.Machine
end

section
/-! A stream starts, stops and samples (R312–R319), and O50. -/

namespace Sys2Proof.Machine

/-! The set-up register (R312, R319). -/

theorem accMask_glnCfg (g : Fin 8) : accMask (R.GLN_CFG g) [.rw, .hw] = 0xFFFF71FF#32 := by
  have hall : ∀ g : Fin 8, accMask (R.GLN_CFG g) [.rw, .hw] = 0xFFFF71FF#32 := by decide +kernel
  exact hall g

theorem glnCfg_ne (g : Nat) : R.GLN_CFG g ∉ [R.GLN_STATUS g] ∧ R.GLN_STATUS g ≠ R.GLN_CFG g ∧ R.GLN_SEQ g ≠ R.GLN_STATUS g ∧
    R.GLN_SEQ g ≠ R.GLN_CFG g := by
  simp only [R.GLN_CFG, R.GLN_STATUS, R.GLN_SEQ, List.mem_singleton]
  omega

section
variable (s : State) (g : Fin 8) (v : Word)

/-- The low two bits of a written set-up are stored as they are. -/
theorem State.loadReg_glnCfg {d : Fld} (hd : d = F.GLN_CFG_EN ∨ d = F.GLN_CFG_TRIGGERED) :
    (s.loadReg (R.GLN_CFG g) v).f (R.GLN_CFG g) d = getBits v d.lo d.w := by
  have hbit : getBits (s.rd (R.GLN_CFG g) &&& ~~~0xFFFF71FF#32 ||| v &&& 0xFFFF71FF#32) d.lo d.w = getBits v d.lo d.w := by
    rcases hd with rfl | rfl
    · exact getBits_masked_in (by decide) (by decide)
    · exact getBits_masked_in (by decide) (by decide)
  rw [State.f, State.loadReg, State.rd_wr_same, accMask_glnCfg]
  exact hbit

/-- A stream that has stopped: OFF, without buffers. -/
theorem State.writeGln_stopped (hv : getBits v 0 1 = 0) : (s.writeGln g v).glnState g = glnOff ∧ ((s.writeGln g v).gln g).bufs = [] ∧
    (s.writeGln g v).flag (R.GLN_CFG g) F.GLN_CFG_EN = false := by
  have heq : s.writeGln g v = (s.glnStop g).loadReg (R.GLN_CFG g) v := if_pos hv
  have hen : (s.writeGln g v).f (R.GLN_CFG g) F.GLN_CFG_EN = 0 := by
    rw [heq, State.loadReg_glnCfg _ g v (.inl rfl)]
    exact hv
  refine ⟨?_, ?_, by rw [State.flag, hen]; rfl⟩
  · rw [heq, State.glnState, State.loadReg, State.f_wr_reg _ _ _ (glnCfg_ne g).2.1]
    exact State.setGlnState_glnState _ _ (by decide)
  · rw [heq, State.loadReg, State.wr_gln_of, State.glnStop, State.setGlnState, State.setF_gln_of, State.setF_gln_of, State.putGln_gln]

/-- The stop of a stream with one buffer completes it (R316). -/
theorem State.writeGln_cplq {x : GlnBuf} (hv : getBits v 0 1 = 0) (hbufs : (s.gln g).bufs = [x]) :
    (s.writeGln g v).cplq = (s.glnCplBuf g x glnStopped (s.gln g) (s.gln g).curLen).cplq := by
  have heq : s.writeGln g v = (s.glnStop g).loadReg (R.GLN_CFG g) v := if_pos hv
  rw [heq, State.glnStop, hbufs]
  rfl

end

/-! A stream starts, or its set-up is refused (R312). -/

section
variable (s : State) (g : Fin 8) (v : Word)

/-- A stream that has been set up, before its state shows. -/
def State.glnSetUp (s : State) (g : Nat) (v : Word) : State := (s.loadReg (R.GLN_CFG g) v).wrN (R.GLN_SEQ g) 0

/-- A stream that has been enabled. -/
def State.glnOn (s : State) (g : Nat) (v : Word) : State :=
  ((s.glnSetUp g v).putGln g { bufs := (s.gln g).bufs }).setGlnState g
    (if (s.glnSetUp g v).flag (R.GLN_CFG g) F.GLN_CFG_TRIGGERED then glnArmed else glnRun)

theorem State.glnSetUp_cfg {d : Fld} (hd : d = F.GLN_CFG_EN ∨ d = F.GLN_CFG_TRIGGERED) :
    (s.glnSetUp g v).f (R.GLN_CFG g) d = getBits v d.lo d.w := by
  rw [State.glnSetUp, State.wrN, State.f_wr_reg _ _ _ (glnCfg_ne g).2.2.2.symm, s.loadReg_glnCfg g v hd]

variable {s g v}

theorem State.writeGln_on (hoff : s.glnState g = glnOff) (hv : getBits v 0 1 = 1) (hvalid : s.glnValid g v = true) :
    s.writeGln g v = s.glnOn g v := by
  have hen : ¬ getBits v F.GLN_CFG_EN.lo 1 = 0 := fun h => absurd (hv.symm.trans h) (by decide)
  rw [State.writeGln, if_neg hen, if_neg (not_not_intro hoff), if_pos hvalid]
  rfl

theorem State.glnOn_leaves (hv : getBits v 0 1 = 1) : (s.glnOn g v).flag (R.GLN_CFG g) F.GLN_CFG_EN = true ∧
    (s.glnOn g v).rd (R.GLN_SEQ g) = 0#32 ∧ (s.glnOn g v).glnState g = (if getBits v 1 1 = 1 then glnArmed else glnRun) ∧
    ((s.glnOn g v).gln g).bufs = (s.gln g).bufs ∧ s.sameRegs (s.glnOn g v) [R.GLN_CFG g, R.GLN_SEQ g, R.GLN_STATUS g] := by
  obtain ⟨hcfg, -, hseq, -⟩ := glnCfg_ne g
  have hshown : (s.glnSetUp g v).sameRegs (s.glnOn g v) [R.GLN_STATUS g] :=
    ((s.glnSetUp g v).putGln_sameRegs g _).trans (State.setGlnState_sameRegs _ _ _)
  have htrig : (s.glnSetUp g v).flag (R.GLN_CFG g) F.GLN_CFG_TRIGGERED = true ↔ getBits v 1 1 = 1 := by
    rw [State.flag_iff, s.glnSetUp_cfg g v (.inr rfl)]
    have hlt : getBits v 1 1 < 2 ^ 1 := getBits_lt _ _ _ (by decide)
    simp only [F.GLN_CFG_TRIGGERED]
    omega
  refine ⟨State.flag_of_f ?_, ?_, ?_, ?_, ?_⟩
  · rw [hshown.f _ hcfg, s.glnSetUp_cfg g v (.inl rfl)]
    exact hv
  · rw [hshown _ (fun hm => hseq (List.mem_singleton.1 hm)), State.glnSetUp, State.wrN, State.rd_wr_same]
  · have hst : (s.glnOn g v).glnState g = if (s.glnSetUp g v).flag (R.GLN_CFG g) F.GLN_CFG_TRIGGERED = true then glnArmed else glnRun :=
      State.setGlnState_glnState _ _ (by split <;> decide)
    rw [hst]
    exact if_congr htrig rfl rfl
  · rw [State.glnOn, State.setGlnState, State.setF_gln_of, State.putGln_gln]
  · have hset : s.sameRegs (s.glnSetUp g v) [R.GLN_CFG g, R.GLN_SEQ g, R.GLN_STATUS g] :=
      ((s.sameRegs_refl _).wr List.mem_cons_self _).wr (List.mem_cons_of_mem _ List.mem_cons_self) _
    exact hset.trans fun o ho => hshown o fun hm => ho (by
      rw [List.mem_singleton.1 hm]
      exact List.mem_cons_of_mem _ (List.mem_cons_of_mem _ List.mem_cons_self))

theorem State.writeGln_refused (hoff : s.glnState g = glnOff) (hv : getBits v 0 1 = 1) (hvalid : s.glnValid g v = false) :
    s.writeGln g v = (s.loadReg (R.GLN_CFG g) v).hwSet (R.GLN_STATUS g) F.GLN_STATUS_CFG_ERR 1 := by
  have hen : ¬ getBits v F.GLN_CFG_EN.lo 1 = 0 := fun h => absurd (hv.symm.trans h) (by decide)
  rw [State.writeGln, if_neg hen, if_neg (not_not_intro hoff), if_neg (by rw [hvalid]; decide)]

theorem State.writeGln_refused_leaves (hoff : s.glnState g = glnOff) (hv : getBits v 0 1 = 1) (hvalid : s.glnValid g v = false) :
    (s.writeGln g v).flag (R.GLN_CFG g) F.GLN_CFG_EN = true ∧ (s.writeGln g v).flag (R.GLN_STATUS g) F.GLN_STATUS_CFG_ERR = true ∧
    (s.writeGln g v).glnState g = glnOff := by
  obtain ⟨-, hst, -, -⟩ := glnCfg_ne g
  rw [State.writeGln_refused hoff hv hvalid]
  refine ⟨State.flag_of_f ?_, State.flag_hwSet_one _ _ (by decide) (by decide), ?_⟩
  · rw [State.f_hwSet_reg _ _ _ _ hst.symm, s.loadReg_glnCfg g v (.inl rfl)]
    exact hv
  · rw [State.glnState, State.f_hwSet_field _ _ (by decide) (by decide) (.inl (by decide)), State.loadReg, State.f_wr_reg _ _ _ hst]
    exact hoff

end

end Sys2Proof.Machine
end

section
/-! The records of a stream (R312–R318), and O50. -/

namespace Sys2Proof.Machine

/-! The body of a record. -/

section
variable {s : State}

/-- A state with other free bits. -/
def State.freed (s : State) (n : Nat) : State := { s with free := n }

theorem State.quot_freed (s : State) (a : Int) (d : Nat) : ∃ n, (s.quot a d).2 = s.freed n := by
  unfold State.quot
  dsimp only
  split
  · exact ⟨_, rfl⟩
  · split <;> exact ⟨_, rfl⟩

theorem State.stageSignal_freed {id : Nat} {x : Int × State} (h : s.stageSignal id = some x) : ∃ n, x.2 = s.freed n := by
  unfold State.stageSignal at h
  dsimp only at h
  split at h
  · split at h
    · exact nomatch h
    · split at h
      · exact nomatch h
      · exact Option.some.inj h ▸ s.quot_freed _ _
  · split at h
    · exact nomatch h
    · exact Option.some.inj h ▸ ⟨s.free, rfl⟩

theorem State.glnSignals_freed : ∀ (ids : List Nat) (s : State) (body : List Byte), ∃ n, (s.glnSignals body ids).2 = s.freed n
  | [], s, _ => ⟨s.free, rfl⟩
  | id :: ids, s, body => by
    rw [State.glnSignals]
    split
    next x hx =>
      obtain ⟨n, hn⟩ := State.stageSignal_freed hx
      obtain ⟨m, hm⟩ := State.glnSignals_freed ids x.2 (body.drop 2)
      exact ⟨m, hm.trans (by rw [hn]; rfl)⟩
    next => exact State.glnSignals_freed ids s _

/-- The body of a record takes free bits alone. -/
theorem State.glnBody_freed {g : Nat} {body b : List Byte} {w : State} (h : s.glnBody g body = some (b, w)) : ∃ n, w = s.freed n := by
  unfold State.glnBody at h
  dsimp only at h
  split at h
  · split at h
    · obtain ⟨n, hn⟩ := State.glnSignals_freed (s.glnIds g) s body
      rw [Option.some.inj h] at hn
      exact ⟨n, hn⟩
    · exact nomatch h
  split at h
  · exact nomatch h
  split at h
  · exact ⟨s.free, (congrArg Prod.snd (Option.some.inj h)).symm⟩
  · exact ⟨s.free, (congrArg Prod.snd (Option.some.inj h)).symm⟩

end

/-! The load of the link (R318). -/

section
variable (s : State) (n : Nat)

theorem State.glnRoll_frame : s.glnRoll = { s with sys := s.glnRoll.sys } := by
  unfold State.glnRoll
  dsimp only
  split <;> rfl

theorem State.glnOffer_frame : s.glnOffer n = { s with
    sys := (s.glnOffer n).sys, regs := (s.glnOffer n).regs, cycle := (s.glnOffer n).cycle } := by
  unfold State.glnOffer
  rw [State.glnRoll_frame]
  dsimp only
  split <;> rfl

theorem State.glnOffer_sameRegs : s.sameRegs (s.glnOffer n) [R.GLN_GLB_STATUS] := by
  unfold State.glnOffer
  rw [State.glnRoll_frame]
  dsimp only
  split
  · exact State.sameRegs.hwSet (fun _ _ => rfl) List.mem_cons_self _ _
  · exact fun _ _ => rfl

theorem State.glnOffer_gln (g : Nat) : (s.glnOffer n).gln g = s.gln g := by
  rw [State.glnOffer_frame]
  rfl

theorem State.glnOffer_queueKept (p : Fin 32) : State.QueueKept p s (s.glnOffer n) := by
  have hne : R.RING_STATUS p ∉ [R.GLN_GLB_STATUS] := by
    simp only [R.RING_STATUS, R.GLN_GLB_STATUS, List.mem_singleton]
    omega
  have hst := (s.glnOffer_sameRegs n).f _ hne F.RING_STATUS_STATE
  refine ⟨by rw [State.glnOffer_frame], hst, by rw [State.glnOffer_frame]⟩

end

/-! A record is lost (R314). -/

section
variable (s : State) (g : Fin 8)

theorem State.rdN_lost : s.rdN (R.GLN_LOST g) = s.f (R.GLN_LOST g) F.GLN_LOST_LOST := by
  refine (Nat.eq_of_testBit_eq fun i => ?_).symm
  rw [State.f, F.GLN_LOST_LOST, getBits_testBit (by decide), State.rdN, BitVec.testBit_toNat, Nat.zero_add]
  by_cases hi : i < 32
  · rw [decide_eq_true hi, Bool.true_and]
  · rw [BitVec.getLsbD_of_ge _ _ (Nat.not_lt.1 hi), Bool.and_false]

/-- What a loss leaves: counted, and noted for the next GAP record. -/
theorem State.glnLose_leaves (seq time why : Nat) : ((s.glnLose g seq time why).gln g).gapCount = (s.gln g).gapCount + 1 ∧
    ((s.glnLose g seq time why).gln g).bufs = (s.gln g).bufs ∧
    (s.glnLose g seq time why).rdN (R.GLN_LOST g) = min (s.rdN (R.GLN_LOST g) + 1) (2 ^ 32 - 1) ∧
    s.sameRegs (s.glnLose g seq time why) [R.GLN_LOST g, R.GLN_STATUS g] ∧ (s.glnLose g seq time why).raised = s.raised := by
  have hbump : s.sameRegs (s.bump (R.GLN_LOST g) F.GLN_LOST_LOST 1) [R.GLN_LOST g, R.GLN_STATUS g] :=
    (s.sameRegs_refl _).bump List.mem_cons_self _ _
  have hne : R.GLN_LOST g ∉ [R.GLN_STATUS g] := by simp only [R.GLN_LOST, R.GLN_STATUS, List.mem_singleton]; omega
  have hput (r : GlnRt) : ((s.bump (R.GLN_LOST g) F.GLN_LOST_LOST 1).putGln g r).rdN (R.GLN_LOST g) = min (s.rdN (R.GLN_LOST g) + 1) (2 ^ 32 - 1) ∧
      s.sameRegs ((s.bump (R.GLN_LOST g) F.GLN_LOST_LOST 1).putGln g r) [R.GLN_LOST g, R.GLN_STATUS g] := by
    refine ⟨?_, hbump.trans fun o ho => State.putGln_sameRegs _ _ _ o fun hm => ho (List.mem_cons_of_mem _ hm)⟩
    rw [State.rdN_lost, (State.putGln_sameRegs _ _ r).f _ hne, State.f_bump_same _ _ _ _ (by decide), State.rdN_lost]
    rfl
  unfold State.glnLose
  dsimp only
  split
  case isTrue h =>
    obtain ⟨hlost, hregs⟩ := hput { s.gln g with gapCount := 1, gapSeq := seq, gapTime := time, gapWhy := why }
    exact ⟨by rw [State.putGln_gln, h], by rw [State.putGln_gln], hlost, hregs, rfl⟩
  case isFalse =>
    obtain ⟨hlost, hregs⟩ := hput { s.gln g with gapCount := (s.gln g).gapCount + 1, gapWhy := (s.gln g).gapWhy ||| why }
    exact ⟨by rw [State.putGln_gln], by rw [State.putGln_gln], hlost, hregs, rfl⟩

end

/-! A record is written (R315, R317). -/

/-- A stream whose record has been written. -/
def State.recTaken (s : State) (g : Nat) : State := s.setGln g { s.gln g with trigNext := false }

/-- A record put into the current buffer, which stands in the local window. -/
def State.recPut (s : State) (g : Nat) (x : GlnBuf) (bytes : List Byte) (seq time : Nat) : State :=
  let r := s.gln g
  let t := (s.winWrite (x.addr % 2 ^ 63 + r.curLen) bytes).glnRoll
  State.putGln { t with sys := { t.sys with glnDone := t.sys.glnDone + bytes.length } } g { r with
    curLen := r.curLen + bytes.length
    firstSeq := if r.curLen = 0 then seq else r.firstSeq
    firstTime := if r.curLen = 0 then time else r.firstTime
    firstAt := if r.curLen = 0 then s.cyc else r.firstAt
    lastTime := time }

/-- A buffer's completion leaves the state of its stream. -/
theorem State.glnCplBuf_glnState (s : State) (g : Fin 8) (x : GlnBuf) (status : Nat) (r : GlnRt) (n : Nat) :
    (s.glnCplBuf g x status r n).glnState g = s.glnState g := by
  have hcpl (t : State) (hrd : t.glnState g = s.glnState g) (b : List Byte) : (t.complete (t.glnPair g) b x.irq).glnState g = s.glnState g := by
    have hne : R.GLN_STATUS g ∉ cplRegs (t.glnPair g) := by
      have hlt := t.glnPair_lt g
      rw [cplRegs, if_pos hlt]
      simp only [R.GLN_STATUS, R.RING_CNT, R.CPLQ_STATUS, List.mem_cons, List.not_mem_nil, or_false]
      omega
    exact ((State.complete_sameRegs t _ _ _).f _ hne _).trans hrd
  unfold State.glnCplBuf
  dsimp only
  split
  · have hfree : (((s.takeFree 32).2.takeFree 48).2.takeFree 48).2 = s.freed (s.free + 1 + 1 + 1) := rfl
    rw [hfree]
    exact hcpl (s.freed (s.free + 1 + 1 + 1)) rfl _
  · exact hcpl s rfl _

section
variable {s : State} {g : Fin 8} {x : GlnBuf} {rest : List GlnBuf} {bytes : List Byte} {seq time : Nat}

theorem State.glnPut_window (hbufs : (s.gln g).bufs = x :: rest) (hwin : x.addr / 2 ^ 63 = 1) :
    s.glnPut g bytes seq time = (s.recPut g x bytes seq time, true) := by
  have hcyc : (s.winWrite (x.addr % 2 ^ 63 + (s.gln g).curLen) bytes).glnRoll.cyc = s.cyc := by
    rw [State.glnRoll_frame, (State.winWrite_winOnly _ _ _).1]
  rw [State.glnPut, hbufs]
  dsimp only
  rw [if_pos hwin, State.recPut, ← hcyc, ← hbufs]

/-- The stream's record after a record has been put and taken. -/
theorem State.recPut_taken (s : State) (g : Fin 8) (x : GlnBuf) (bytes : List Byte) (seq time : Nat) :
    (((s.recPut g x bytes seq time).recTaken g).gln g).curLen = (s.gln g).curLen + bytes.length ∧
    (((s.recPut g x bytes seq time).recTaken g).gln g).bufs = (s.gln g).bufs ∧
    (((s.recPut g x bytes seq time).recTaken g).gln g).divCnt = (s.gln g).divCnt ∧
    (((s.recPut g x bytes seq time).recTaken g).gln g).lastTime = time := by
  rw [State.recTaken, State.gln_setGln, State.recPut, State.putGln_gln]
  exact ⟨rfl, rfl, rfl, rfl⟩

/-- A record put into its buffer stands there, and changes no register but the stream's status. -/
theorem State.recPut_leaves (s : State) (g : Fin 8) (x : GlnBuf) (bytes : List Byte) (seq time : Nat) :
    (s.recPut g x bytes seq time).raised = s.raised ∧ (s.recPut g x bytes seq time).cplq = s.cplq ∧
    s.sameRegs (s.recPut g x bytes seq time) [R.HRW_INJECT, R.GLN_STATUS g] ∧
    (s.recPut g x bytes seq time).glnState g = s.glnState g ∧
    (x.addr % 2 ^ 63 + (s.gln g).curLen + bytes.length ≤ 0x80000 →
      (s.recPut g x bytes seq time).winRead (x.addr % 2 ^ 63 + (s.gln g).curLen) bytes.length = bytes) := by
  have hwin := State.winWrite_winOnly bytes s (x.addr % 2 ^ 63 + (s.gln g).curLen)
  have hread := State.winRead_winWrite_same bytes s (x.addr % 2 ^ 63 + (s.gln g).curLen)
  unfold State.recPut
  dsimp only
  generalize s.winWrite (x.addr % 2 ^ 63 + (s.gln g).curLen) bytes = t at hwin hread ⊢
  have hroll := t.glnRoll_frame
  generalize t.glnRoll = u at hroll ⊢
  have hrd (o : Nat) : u.rd o = t.rd o := by rw [hroll]; rfl
  have hne : R.GLN_STATUS g ≠ R.HRW_INJECT := by simp only [R.GLN_STATUS, R.HRW_INJECT]; omega
  refine ⟨?_, ?_, fun o ho => ?_, ?_, fun hfit => ?_⟩
  · rw [State.putGln_raised, hroll]
    exact hwin.raised
  · exact (congrArg State.cplq hroll).trans hwin.cplq
  · obtain ⟨hi, hs⟩ := List.ne_and_not_mem_of_not_mem_cons ho
    exact ((State.putGln_sameRegs _ g _ o hs).trans (hrd o)).trans (hwin.rd hi)
  · rw [State.putGln_glnState]
    exact (congrArg (getBits · _ _) (hrd _)).trans (hwin.f hne _)
  · have hlocal : u.localWin = t.localWin := by rw [hroll]
    refine (State.winRead_of_localWin ?_ _ _).trans (hread hfit)
    exact hlocal

/-- A record of a stream without a loss to report goes into its current buffer, or into the next one (R315). -/
theorem State.glnWrite_window (hbufs : (s.gln g).bufs = x :: rest) (hwin : x.addr / 2 ^ 63 = 1) (hgap : (s.gln g).gapCount = 0) :
    ((s.gln g).curLen + bytes.length ≤ x.len → s.glnWrite g bytes seq time = ((s.glnOffer bytes.length).recPut g x bytes seq time, true)) ∧
    (∀ (y : GlnBuf) (l : List GlnBuf), x.len < (s.gln g).curLen + bytes.length → rest = y :: l → y.addr / 2 ^ 63 = 1 →
      s.glnWrite g bytes seq time = (((s.glnOffer bytes.length).glnFinish g glnFull).recPut g y bytes seq time, true)) := by
  have hgln := s.glnOffer_gln bytes.length g
  have hreach : (s.glnOffer bytes.length).bufReach x.addr x.len true = true := by
    rw [State.bufReach, hwin]
    rfl
  have hform (room : State) (z : GlnBuf) (l : List GlnBuf) (hroom : (s.glnOffer bytes.length).glnRoom g bytes.length = room)
      (hz : (room.gln g).bufs = z :: l) (hzwin : z.addr / 2 ^ 63 = 1) :
      s.glnWrite g bytes seq time = (room.recPut g z bytes seq time, true) := by
    rw [State.glnWrite]
    dsimp only
    rw [hgln, hbufs]
    dsimp only
    rw [hreach, if_neg (by decide), State.glnGap, hgln, hgap, if_pos rfl]
    dsimp only
    rw [if_neg (not_not_intro rfl), hroom, hz, if_neg (by rw [List.isEmpty_cons]; decide), State.glnPut_window hz hzwin, if_pos rfl]
  have hroom : (s.glnOffer bytes.length).glnRoom g bytes.length = if x.len < (s.gln g).curLen + bytes.length then
      (s.glnOffer bytes.length).glnFinish g glnFull else s.glnOffer bytes.length := by
    rw [State.glnRoom, hgln, hbufs]
  refine ⟨fun hfit => ?_, fun y l hfull hrest hy => ?_⟩
  · exact hform _ x rest (hroom.trans (if_neg (Nat.not_lt.2 hfit))) (hgln ▸ hbufs) hwin
  · refine hform _ y l (hroom.trans (if_pos hfull)) ?_ hy
    rw [State.glnFinish_sound (hgln ▸ hbufs) (by decide), State.putGln_gln]
    exact hrest

end

/-! A sampling event (R312, R313). -/

/-- A stream with its sampling event counted and the next record's number taken. -/
def State.numbered (s : State) (g : Nat) : State :=
  (s.setGln g { s.gln g with divCnt := 0, evAt := s.cyc + 1 }).wrN (R.GLN_SEQ g) (s.rdN (R.GLN_SEQ g) + 1)

/-- The record of a sampling event: the coordinate of the stream, and a body. -/
def State.sampleRec (s : State) (g : Fin 8) (b : List Byte) : List Byte :=
  glnRecord (s.f (R.GLN_CFG g) F.GLN_CFG_KIND) g (s.rdN (R.GLN_SEQ g)) s.now48 0
    (coordField (s.coordPos (s.f (R.GLN_CFG g) F.GLN_CFG_CUNIT)) ++ b)

section
variable {s : State} {g : Fin 8} {body b : List Byte} {w : State}

theorem State.numbered_gln (s : State) (g : Nat) : (s.numbered g).gln g = { s.gln g with divCnt := 0, evAt := s.cyc + 1 } := by
  rw [State.numbered, State.wrN_gln_of, State.gln_setGln]

theorem State.numbered_seq (s : State) (g : Nat) : (s.numbered g).rdN (R.GLN_SEQ g) = (s.rdN (R.GLN_SEQ g) + 1) % 2 ^ 32 :=
  State.rdN_wrN_same ..

theorem State.numbered_sameRegs (s : State) (g : Nat) : s.sameRegs (s.numbered g) [R.GLN_SEQ g] :=
  State.sameRegs.wr (t := s.setGln g _) (fun _ _ => rfl) List.mem_cons_self _

variable (hst : s.glnState g = glnRun) (hdue : s.glnDue g = true)
include hst hdue

theorem State.glnEvent_due (drop : Nat) : s.glnEvent g body drop = if (s.gln g).divCnt < s.f (R.GLN_CFG g) F.GLN_CFG_DIV then
      s.setGln g { s.gln g with divCnt := (s.gln g).divCnt + 1, evAt := s.cyc + 1 }
    else match s.glnBody g body with
      | none => s
      | some b =>
        if (drop = 2 ∧ ¬ (s.f (R.GLN_CFG g) F.GLN_CFG_KIND = 1 ∧ s.glnDemand g)) ∨ (drop = 1 ∧ s.glnState g = glnArmed) then s
        else (b.2.setGln g { b.2.gln g with divCnt := 0, evAt := s.cyc + 1 }).glnTake g b.1 drop := by
  have htakes : s.glnTakes g = true := by
    rw [State.glnTakes, hst]
    rfl
  exact if_neg (by rw [htakes, hdue]; decide)

/-- A record that the FIFO does not take is numbered and lost. -/
theorem State.glnEvent_lost (hbody : s.glnBody g body = some (b, w)) (hdiv : s.f (R.GLN_CFG g) F.GLN_CFG_DIV ≤ (s.gln g).divCnt) :
    s.glnEvent g body 1 = State.glnLose ((w.numbered g).glnOffer (s.sampleRec g b).length) g (s.rdN (R.GLN_SEQ g)) s.now48 2 := by
  obtain ⟨n, rfl⟩ := State.glnBody_freed hbody
  have hnot : ¬ ((1 = 2 ∧ ¬ (s.f (R.GLN_CFG g) F.GLN_CFG_KIND = 1 ∧ s.glnDemand g)) ∨ (1 = 1 ∧ s.glnState g = glnArmed)) := by
    rintro (⟨h, -⟩ | ⟨-, h⟩)
    · exact absurd h (by decide)
    · exact absurd (hst.symm.trans h) (by decide)
  rw [State.glnEvent_due hst hdue, if_neg (Nat.not_lt.2 hdiv), hbody]
  dsimp only
  rw [if_neg hnot]
  rfl

/-- A record that is written: of a running stream, it ends no capture. -/
theorem State.glnEvent_written {u : State} (hbody : s.glnBody g body = some (b, w))
    (hdiv : s.f (R.GLN_CFG g) F.GLN_CFG_DIV ≤ (s.gln g).divCnt) (htrig : (s.gln g).trigNext = false)
    (hwrite : (w.numbered g).glnWrite g (s.sampleRec g b) (s.rdN (R.GLN_SEQ g)) s.now48 = (u, true)) (hrun : u.glnState g = glnRun) :
    s.glnEvent g body 0 = u.recTaken g := by
  obtain ⟨n, rfl⟩ := State.glnBody_freed hbody
  have hnot : ¬ ((0 = 2 ∧ ¬ (s.f (R.GLN_CFG g) F.GLN_CFG_KIND = 1 ∧ s.glnDemand g)) ∨ (0 = 1 ∧ s.glnState g = glnArmed)) := by
    rintro (⟨h, -⟩ | ⟨-, h⟩)
    · exact absurd h (by decide)
    · exact absurd (hst.symm.trans h) (by decide)
  have hne : R.GLN_STATUS g ∉ [R.GLN_SEQ g] := by simp only [R.GLN_STATUS, R.GLN_SEQ, List.mem_singleton]; omega
  have harmed : ((s.freed n).numbered g).glnState g ≠ glnArmed := by
    have hrd : ((s.freed n).numbered g).glnState g = s.glnState g := ((s.freed n).numbered_sameRegs g).f _ hne _
    rw [hrd, hst]
    decide
  have hcaptured : (u.recTaken g).glnCaptured g false = u.recTaken g := by
    have hstate : (u.recTaken g).glnState g ≠ glnCapture := by
      have hsame : (u.recTaken g).glnState g = u.glnState g := rfl
      rw [hsame, hrun]
      decide
    exact if_pos hstate
  have htake : ((s.freed n).setGln g { (s.freed n).gln g with divCnt := 0, evAt := s.cyc + 1 }).glnTake g b 0 = u.recTaken g := by
    have hnext : (((s.freed n).setGln g { (s.freed n).gln g with divCnt := 0, evAt := s.cyc + 1 }).gln g).trigNext = false := by
      rw [State.gln_setGln]
      exact htrig
    rw [State.glnTake, hnext]
    dsimp only
    rw [if_neg (by decide), if_neg (by decide)]
    exact (if_neg harmed).trans ((congrArg (fun x : State × Bool => if x.2 = true then
      (x.1.setGln g { x.1.gln g with trigNext := false }).glnCaptured g false else x.1) hwrite).trans ((if_pos rfl).trans hcaptured))
  rw [State.glnEvent_due hst hdue, if_neg (Nat.not_lt.2 hdiv), hbody]
  dsimp only
  rw [if_neg hnot]
  exact htake

end

/-! What a sampling event leaves. -/

section
variable {s : State} {g : Fin 8} {body b : List Byte} {w : State} {n : Nat}

/-- A stream about to write: numbered, and its bytes offered to the link. -/
def State.offering (s : State) (g : Nat) (n len : Nat) : State := ((s.freed n).numbered g).glnOffer len

theorem State.offering_leaves (s : State) (g : Fin 8) (n len : Nat) :
    (s.offering g n len).gln g = { s.gln g with divCnt := 0, evAt := s.cyc + 1 } ∧
    (s.offering g n len).rdN (R.GLN_SEQ g) = (s.rdN (R.GLN_SEQ g) + 1) % 2 ^ 32 ∧
    s.sameRegs (s.offering g n len) [R.GLN_SEQ g, R.GLN_GLB_STATUS] ∧ (s.offering g n len).raised = s.raised ∧
    (s.offering g n len).cyc = s.cyc ∧ ∀ p : Fin 32, State.QueueKept p s (s.offering g n len) := by
  have hoffer := ((s.freed n).numbered g).glnOffer_sameRegs len
  have hnumber := (s.freed n).numbered_sameRegs g
  have hne : R.GLN_SEQ g ∉ [R.GLN_GLB_STATUS] := by simp only [R.GLN_SEQ, R.GLN_GLB_STATUS, List.mem_singleton]; omega
  refine ⟨?_, ?_, fun o ho => ?_, ?_, ?_, fun p => State.QueueKept.trans ?_ (State.glnOffer_queueKept _ _ p)⟩
  · rw [State.offering, State.glnOffer_gln, State.numbered_gln]
    rfl
  · rw [State.rdN, State.offering, hoffer _ hne, ← State.rdN, State.numbered_seq]
    rfl
  · obtain ⟨hseq, hglb⟩ := List.ne_and_not_mem_of_not_mem_cons ho
    exact (hoffer o hglb).trans (hnumber o fun hm => hseq (List.mem_singleton.1 hm))
  · rw [State.offering, State.glnOffer_frame]
    rfl
  · rw [State.offering, State.glnOffer_frame]
    rfl
  · have hring : R.RING_STATUS p ∉ [R.GLN_SEQ g] := by simp only [R.RING_STATUS, R.GLN_SEQ, List.mem_singleton]; omega
    exact ⟨rfl, hnumber.f _ hring F.RING_STATUS_STATE, rfl⟩

theorem State.recTaken_raised (s : State) (g : Nat) : (s.recTaken g).raised = s.raised := rfl

theorem glnRegs_distinct (g : Fin 8) : R.GLN_SEQ g ∉ [R.HRW_INJECT, R.GLN_STATUS g] ∧ R.GLN_SEQ g ∉ [R.GLN_LOST g, R.GLN_STATUS g] ∧
    R.GLN_LOST g ∉ [R.GLN_SEQ g, R.GLN_GLB_STATUS] ∧ R.GLN_STATUS g ∉ [R.GLN_SEQ g, R.GLN_GLB_STATUS] ∧
    R.GLN_CFG g ∉ [R.GLN_SEQ g, R.GLN_GLB_STATUS] := by
  simp only [R.GLN_SEQ, R.HRW_INJECT, R.GLN_STATUS, R.GLN_LOST, R.GLN_GLB_STATUS, R.GLN_CFG, List.mem_cons, List.not_mem_nil, or_false]
  omega

variable (hl : s.live) (hst : s.glnState g = glnRun) (hdue : s.glnDue g = true) (hbody : s.glnBody g body = some (b, w))
  (hdiv : s.f (R.GLN_CFG g) F.GLN_CFG_DIV ≤ (s.gln g).divCnt)
include hl hst hdue hbody hdiv

theorem exec_glnSample_lost : ∃ t, exec (.glnSample g body 1) s = .next t ∧ t.rdN (R.GLN_SEQ g) = (s.rdN (R.GLN_SEQ g) + 1) % 2 ^ 32 ∧
    t.rdN (R.GLN_LOST g) = min (s.rdN (R.GLN_LOST g) + 1) (2 ^ 32 - 1) ∧ (t.gln g).gapCount = (s.gln g).gapCount + 1 ∧
    (t.gln g).bufs = (s.gln g).bufs := by
  obtain ⟨n, rfl⟩ := State.glnBody_freed hbody
  obtain ⟨hgln, hseq, hregs, hraised, -, -⟩ := s.offering_leaves g n (s.sampleRec g b).length
  obtain ⟨hgap, hbufs, hlost, hsame, hquiet⟩ := (s.offering g n (s.sampleRec g b).length).glnLose_leaves g (s.rdN (R.GLN_SEQ g)) s.now48 2
  obtain ⟨-, hnseq, hnlost, -, -⟩ := glnRegs_distinct g
  have hexec := exec_powered (c := .glnSample g body 1) (g := fun s => s.glnEvent g body 1) hl rfl
  rw [State.glnEvent_lost hst hdue hbody hdiv, ← State.offering, State.settle_quiet (hquiet.trans (hraised.trans hl.2))] at hexec
  refine ⟨_, hexec, ?_, ?_, ?_, ?_⟩
  · rw [State.rdN, hsame _ hnseq, ← State.rdN, hseq]
  · rw [hlost, State.rdN, hregs _ hnlost, ← State.rdN]
  · rw [hgap, hgln]
  · rw [hbufs, hgln]

variable {x : GlnBuf} {rest : List GlnBuf} (hbufs : (s.gln g).bufs = x :: rest) (hwin : x.addr / 2 ^ 63 = 1)
  (hgap : (s.gln g).gapCount = 0) (htrig : (s.gln g).trigNext = false)
include hbufs hwin hgap htrig

theorem exec_glnSample_fits (hfit : (s.gln g).curLen + (s.sampleRec g b).length ≤ x.len) (hbuf : x.addr % 2 ^ 63 + x.len ≤ 0x80000) :
    ∃ t, exec (.glnSample g body 0) s = .next t ∧
      t.winRead (x.addr % 2 ^ 63 + (s.gln g).curLen) (s.sampleRec g b).length = s.sampleRec g b ∧
      t.rdN (R.GLN_SEQ g) = (s.rdN (R.GLN_SEQ g) + 1) % 2 ^ 32 ∧ (t.gln g).curLen = (s.gln g).curLen + (s.sampleRec g b).length ∧
      (t.gln g).bufs = (s.gln g).bufs ∧ (t.gln g).divCnt = 0 ∧ (t.gln g).lastTime = s.now48 := by
  obtain ⟨n, rfl⟩ := State.glnBody_freed hbody
  obtain ⟨hgln, hseq, hregs, hraised, -, -⟩ := s.offering_leaves g n (s.sampleRec g b).length
  obtain ⟨hquiet, -, hsame, hstate, hread⟩ :=
    (s.offering g n (s.sampleRec g b).length).recPut_leaves g x (s.sampleRec g b) (s.rdN (R.GLN_SEQ g)) s.now48
  obtain ⟨hlen, hleft, hdivs, htime⟩ :=
    (s.offering g n (s.sampleRec g b).length).recPut_taken g x (s.sampleRec g b) (s.rdN (R.GLN_SEQ g)) s.now48
  obtain ⟨hnseq, -, -, hnst, -⟩ := glnRegs_distinct g
  have hnumber := (s.freed n).numbered_gln g
  have hwrite := (State.glnWrite_window (s := (s.freed n).numbered g) (g := g) (bytes := s.sampleRec g b) (seq := s.rdN (R.GLN_SEQ g))
    (time := s.now48) (by rw [hnumber]; exact hbufs) hwin (by rw [hnumber]; exact hgap)).1 (by rw [hnumber]; exact hfit)
  have hexec := exec_powered (c := .glnSample g body 0) (g := fun s => s.glnEvent g body 0) hl rfl
  rw [State.glnEvent_written hst hdue hbody hdiv htrig hwrite (hstate.trans ((hregs.f _ hnst _).trans hst)),
    ← State.offering, State.settle_quiet ((State.recTaken_raised _ g).trans (hquiet.trans (hraised.trans hl.2)))] at hexec
  rw [hgln] at hread hlen hleft hdivs
  refine ⟨_, hexec, ?_, ?_, hlen, hleft, hdivs, htime⟩
  · refine (State.winRead_of_localWin ?_ _ _).trans (hread (by dsimp only; omega))
    rfl
  · exact (congrArg BitVec.toNat (hsame _ hnseq)).trans hseq

theorem exec_glnSample_full {y : GlnBuf} {l : List GlnBuf} (hfull : x.len < (s.gln g).curLen + (s.sampleRec g b).length)
    (hsome : (s.gln g).curLen ≠ 0) (hrest : rest = y :: l) (hy : y.addr / 2 ^ 63 = 1) (hbuf : y.addr % 2 ^ 63 + y.len ≤ 0x80000)
    (hfit : (s.sampleRec g b).length ≤ y.len) : ∃ u : State, exec (.glnSample g body 0) s = .next u.settle ∧
      s.completesTo u (s.glnPair g) (glnCpl 0x00 g x.tag (s.gln g).curLen (s.gln g).firstSeq (s.gln g).firstTime (s.gln g).lastTime) x.irq ∧
      (u.gln g).bufs = rest ∧ (u.gln g).curLen = (s.sampleRec g b).length ∧
      u.winRead (y.addr % 2 ^ 63) (s.sampleRec g b).length = s.sampleRec g b := by
  obtain ⟨n, rfl⟩ := State.glnBody_freed hbody
  obtain ⟨hgln, -, hregs, -, -, hkept⟩ := s.offering_leaves g n (s.sampleRec g b).length
  obtain ⟨-, -, -, hnst, hncfg⟩ := glnRegs_distinct g
  have hnumber := (s.freed n).numbered_gln g
  have hpair : (s.offering g n (s.sampleRec g b).length).glnPair g = s.glnPair g := hregs.f _ hncfg _
  have hstate : (s.offering g n (s.sampleRec g b).length).glnState g = glnRun := (hregs.f _ hnst _).trans hst
  have hwrite := (State.glnWrite_window (s := (s.freed n).numbered g) (g := g) (bytes := s.sampleRec g b) (seq := s.rdN (R.GLN_SEQ g))
    (time := s.now48) (by rw [hnumber]; exact hbufs) hwin (by rw [hnumber]; exact hgap)).2 y l (by rw [hnumber]; exact hfull) hrest hy
  rw [← State.offering] at hwrite
  have hkept' := hkept ⟨s.glnPair g, s.glnPair_lt g⟩
  have hexec := exec_powered (c := .glnSample g body 0) (g := fun s => s.glnEvent g body 0) hl rfl
  generalize s.offering g n (s.sampleRec g b).length = o at hgln hpair hstate hwrite hkept'
  have hcpl := State.glnCplBuf_completes (s := s) (g := g) (x := x) (status := glnFull) (r := o.gln g) (n := (o.gln g).curLen)
    (by rw [hpair]; exact hkept') (by rw [hgln]; exact hsome)
  have hrun := o.glnCplBuf_glnState g x glnFull (o.gln g) (o.gln g).curLen
  rw [State.glnFinish_sound (x := x) (rest := rest) (by rw [hgln]; exact hbufs) (by decide)] at hwrite
  rw [hpair] at hcpl
  generalize o.gln g = r at hgln hcpl hrun hwrite
  generalize o.glnCplBuf g x glnFull r r.curLen = c at hcpl hrun hwrite
  have hnext := c.putGln_gln g { r with bufs := rest, curLen := 0, faults := 0 }
  have hmade := (c.putGln_glnState g { r with bufs := rest, curLen := 0, faults := 0 }).trans (hrun.trans hstate)
  have hheld : (c.putGln g { r with bufs := rest, curLen := 0, faults := 0 }).cplq = c.cplq := rfl
  generalize c.putGln g { r with bufs := rest, curLen := 0, faults := 0 } = f at hnext hmade hheld hwrite
  obtain ⟨-, hcplq, -, hfstate, hread⟩ := f.recPut_leaves g y (s.sampleRec g b) (s.rdN (R.GLN_SEQ g)) s.now48
  obtain ⟨hlen, hleft, -, -⟩ := f.recPut_taken g y (s.sampleRec g b) (s.rdN (R.GLN_SEQ g)) s.now48
  rw [State.glnEvent_written hst hdue hbody hdiv htrig hwrite (hfstate.trans hmade)] at hexec
  rw [hnext] at hread hlen hleft
  rw [hgln] at hcpl
  refine ⟨_, hexec, State.completesTo_of_cplq hcpl ?_, hleft, hlen.trans (Nat.zero_add _), ?_⟩
  · exact hcplq.trans hheld
  · refine (State.winRead_of_localWin ?_ _ _).trans (hread ?_)
    · rfl
    · dsimp only
      omega

end

/-! The obligation. -/

section
variable {s : State} {g : Fin 8} {p : Path}

/-- A written set-up register that no later path writes takes the word (R437). -/
theorem exec_glnDisable (hl : s.live) (hlater : s.laterWrote p (R.GLN_CFG g) = false) : exec (.glnDisable p g) s =
    .next ((s.noteEvent (20 + pathRank p) (R.GLN_CFG g)).writeGln g (putBits (s.rd (R.GLN_CFG g)) F.GLN_CFG_EN.lo 1 0)).settle := by
  have hexec : exec (.glnDisable p g) s = execGlnDisable p g s := rfl
  rw [hexec, execGlnDisable, State.act_on _ hl.1, State.inOrder_of_last hlater]

theorem exec_glnEnable {v : Word} (hl : s.live) (hlater : s.laterWrote p (R.GLN_CFG g) = false) : exec (.glnEnable p g v) s =
    .next ((s.noteEvent (20 + pathRank p) (R.GLN_CFG g)).writeGln g (putBits v F.GLN_CFG_EN.lo 1 1)).settle := by
  have hexec : exec (.glnEnable p g v) s = execGlnEnable p g v s := rfl
  rw [hexec, execGlnEnable, State.act_on _ hl.1, State.inOrder_of_last hlater]

theorem State.captured_raised (s : State) (g : Nat) : (s.captured g).raised = s.raised := rfl

theorem State.rearmed_raised (s : State) (g : Nat) : (s.rearmed g).raised = s.raised := rfl

theorem State.glnOn_raised (s : State) (g : Nat) (v : Word) : (s.glnOn g v).raised = s.raised := rfl

end

/-- A buffer posted to its stream: the posts and the forms that R315 refuses. -/
theorem glnPosts {s : State} {g : Fin 8} (hl : s.live) (p : Fin 32) (e : List Byte) (hready : s.ctlReady p 3 e = true) (hop : ctlOp e = 1)
    (hg : bitsOf (leAt e 0 4) 8 3 = g) :
    (s.postFits p e g = true → (s.gln g).bufs.length < 16 → ∃ t, exec (.post p e) s = .next t ∧
      (t.gln g).bufs = (s.gln g).bufs ++ [⟨leAt e 4 4, leAt e 8 8, leAt e 16 4, ctlWorthy e, s.frontIdx p⟩] ∧
      t.f (R.GLN_STATUS g) F.GLN_STATUS_BUFS = (s.gln g).bufs.length + 1 ∧ t.flag (R.GLN_STATUS g) F.GLN_STATUS_NOBUF = false ∧
      s.sameRegs t [R.GLN_STATUS g]) ∧
    (s.postFits p e g = false → ∃ u : State, exec (.post p e) s = .next u.settle ∧ u.glns = s.glns ∧
      s.completesTo u p (leBytes 4 (0x15 + 256 * g.val) ++ slice e 4 4) (ctlWorthy e)) := by
  have hexec := exec_post hl hready hop hg
  have hquiet : (s.takeEntry p e).raised = [] := by
    rw [State.takeEntry_frame]
    exact hl.2
  refine ⟨fun hfits hroom => ?_, fun hbad => ?_⟩
  · rw [hfits, if_neg (by decide), if_neg (Nat.not_le.2 hroom), State.settle_quiet ((State.putGln_raised _ _ _).trans hquiet)] at hexec
    have hlen : ((s.gln g).bufs ++ [(⟨leAt e 4 4, leAt e 8 8, leAt e 16 4, ctlWorthy e, s.frontIdx p⟩ : GlnBuf)]).length =
        (s.gln g).bufs.length + 1 := by rw [List.length_append]; rfl
    refine ⟨_, hexec, ?_, ?_, ?_, ?_⟩
    · rw [State.putGln_gln]
    · rw [State.putGln_bufs _ _ _ (by rw [hlen]; omega)]
      exact hlen
    · rw [State.putGln_nobuf]
      exact List.isEmpty_eq_false_iff.2 (by rw [← List.length_pos_iff, hlen]; exact Nat.succ_pos _)
    · exact fun o ho => (State.putGln_sameRegs _ _ _ o ho).trans (s.takeEntry_rd p e o)
  · rw [hbad, if_pos rfl] at hexec
    refine ⟨_, hexec, ?_, (s.takeEntry_queueKept p e).complete _ _⟩
    rw [State.complete_frame, State.takeEntry_frame]

/-- Settles O50: a stream's states by what its commands leave of its record, its registers and the holding queue. -/
theorem telemetryStreamsAndTriggers : Obligations.TelemetryStreamsAndTriggers := by
  refine ⟨fun s g hl => ⟨?_, ?_, ?_, ?_, ?_⟩,
    fun s p g hl => ⟨fun harmed hpre => ⟨?_, fun hnow => ?_⟩, fun hnow => ?_, fun hidle => ?_, fun hdone => ?_⟩⟩
  · intro p e hready hop hg
    obtain ⟨hgood, hbad⟩ := glnPosts hl p e hready hop hg
    exact ⟨fun hform => hgood (State.postFits_iff.2 hform), fun hform => hbad (Bool.eq_false_iff.2 (mt State.postFits_iff.1 hform))⟩
  · intro body b w hst hdue hbody
    refine ⟨fun hdiv d => ?_, fun hdiv => ⟨exec_glnSample_lost hl hst hdue hbody hdiv, fun x rest hbufs hwin hgap htrig => ⟨fun hfit hbuf => ?_,
      fun y l hfull hsome hrest hy hbuf hfit => ?_⟩⟩⟩
    · have hexec := exec_powered (c := .glnSample g body d) (g := fun s => s.glnEvent g body d) hl rfl
      rw [State.glnEvent_due hst hdue, if_pos hdiv] at hexec
      refine ⟨_, hexec.trans (congrArg Host.Outcome.next (State.settle_quiet hl.2)), fun _ _ => rfl, ?_⟩
      rw [State.gln_setGln]
    · exact exec_glnSample_fits hl hst hdue hbody hdiv hbufs hwin hgap htrig hfit hbuf
    · exact exec_glnSample_full hl hst hdue hbody hdiv hbufs hwin hgap htrig hfull hsome hrest hy hbuf hfit
  · intro x rest hbufs hsome
    have hpair := s.glnPair_lt g
    refine ⟨fun hms hsound hlate => ?_, fun p hlater hlast => ?_⟩
    · have hexec := exec_powered (c := .glnFlushExpiry g) (g := fun s =>
        if s.f (R.GLN_FLUSH g) F.GLN_FLUSH_FLUSH_MS ≠ 0 ∧ (s.gln g).curLen ≠ 0 ∧
          (s.gln g).firstAt + s.f (R.GLN_FLUSH g) F.GLN_FLUSH_FLUSH_MS * 200000 ≤ s.cyc ∧ s.glnState g ≠ glnFaulted then s.glnFinish g glnFlushed
        else s) hl rfl
      rw [if_pos ⟨hms, hsome, hlate, hsound⟩, State.glnFinish_sound hbufs (by decide)] at hexec
      refine ⟨_, hexec, ?_, ?_, State.completesTo_of_cplq (State.glnCplBuf_completes (State.QueueKept.refl _ s) hsome) rfl⟩
      · rw [State.putGln_gln]
      · rw [State.putGln_gln]
    · have hv : getBits (putBits (s.rd (R.GLN_CFG g)) F.GLN_CFG_EN.lo 1 0) 0 1 = 0 := getBits_putBits_same _ _ (by decide)
      obtain ⟨hoff, hempty, -⟩ := (s.noteEvent (20 + pathRank p) (R.GLN_CFG g)).writeGln_stopped g _ hv
      have hcplq := (s.noteEvent (20 + pathRank p) (R.GLN_CFG g)).writeGln_cplq g _ hv (hlast ▸ hbufs)
      have hkept : State.QueueKept (s.glnPair g) s (s.noteEvent (20 + pathRank p) (R.GLN_CFG g)) := ⟨rfl, rfl, rfl⟩
      exact ⟨_, exec_glnDisable hl hlater, hoff, hempty,
        State.completesTo_of_cplq (State.glnCplBuf_completes (g := g) (t := s.noteEvent (20 + pathRank p) (R.GLN_CFG g)) hkept hsome) hcplq⟩
  · intro p hlater
    obtain ⟨hoff, hempty, hen⟩ := (s.noteEvent (20 + pathRank p) (R.GLN_CFG g)).writeGln_stopped g
      (putBits (s.rd (R.GLN_CFG g)) F.GLN_CFG_EN.lo 1 0) (getBits_putBits_same _ _ (by decide))
    exact ⟨_, exec_glnDisable hl hlater, hoff, hempty, hen⟩
  · intro p v hlater hoff
    have hv : getBits (putBits v F.GLN_CFG_EN.lo 1 1) 0 1 = 1 := getBits_putBits_same v 1 (by decide)
    have htrig : getBits (putBits v F.GLN_CFG_EN.lo 1 1) 1 1 = getBits v 1 1 :=
      getBits_putBits_other v 1 (by decide) (by decide) (.inr (by decide))
    have hexec := exec_glnEnable (v := v) hl hlater
    have hnoff : (s.noteEvent (20 + pathRank p) (R.GLN_CFG g)).glnState g = glnOff := hoff
    refine ⟨fun hvalid => ?_, fun hvalid => ?_⟩
    · have hnvalid : (s.noteEvent (20 + pathRank p) (R.GLN_CFG g)).glnValid g (putBits v F.GLN_CFG_EN.lo 1 1) = true := hvalid
      obtain ⟨hen, hseq, hstate, hbufs, hsame⟩ := State.glnOn_leaves (s := s.noteEvent (20 + pathRank p) (R.GLN_CFG g)) (g := g) hv
      rw [State.writeGln_on hnoff hv hnvalid, State.settle_quiet
        ((State.glnOn_raised (s.noteEvent (20 + pathRank p) (R.GLN_CFG g)) g (putBits v F.GLN_CFG_EN.lo 1 1)).trans hl.2)] at hexec
      rw [htrig] at hstate
      exact ⟨_, hexec, hen, hseq, hstate, hbufs, hsame⟩
    · have hnvalid : (s.noteEvent (20 + pathRank p) (R.GLN_CFG g)).glnValid g (putBits v F.GLN_CFG_EN.lo 1 1) = false := hvalid
      obtain ⟨hen, herr, hstate⟩ := State.writeGln_refused_leaves hnoff hv hnvalid
      have honly : s.onlyRegs (((s.noteEvent (20 + pathRank p) (R.GLN_CFG g)).loadReg (R.GLN_CFG g) (putBits v F.GLN_CFG_EN.lo 1 1)).hwSet
          (R.GLN_STATUS g) F.GLN_STATUS_CFG_ERR 1) [R.GLN_CFG g, R.GLN_STATUS g] [] :=
        (((State.onlyRegs_refl hl.2 [R.GLN_CFG g, R.GLN_STATUS g]).noteEvent (20 + pathRank p) (R.GLN_CFG g)).wr
          List.mem_cons_self _).hwSet (List.mem_cons_of_mem _ List.mem_cons_self) F.GLN_STATUS_CFG_ERR 1
      rw [State.writeGln_refused hnoff hv hnvalid] at hexec hen herr hstate
      rw [State.settle_quiet honly.raised] at hexec
      exact ⟨_, hexec, hen, herr, hstate, honly⟩
  · have hexec := exec_powered (c := .force p g) (g := fun s => s.glnFire g) hl rfl
    rw [State.glnFire_armed harmed hpre, State.settle_quiet ((s.captured_raised g).trans hl.2)] at hexec
    exact ⟨_, hexec, s.captured_leaves g⟩
  · have hexec := exec_powered (c := .glnTrigger g) (g := fun s => if s.glnTrigNow g then s.glnFire g else s) hl rfl
    rw [if_pos hnow, State.glnFire_armed harmed hpre, State.settle_quiet ((s.captured_raised g).trans hl.2)] at hexec
    exact ⟨_, hexec, s.captured_leaves g⟩
  · have hexec := exec_powered (c := .glnTrigger g) (g := fun s => if s.glnTrigNow g then s.glnFire g else s) hl rfl
    rw [if_neg (by rw [hnow]; decide), State.settle_quiet hl.2] at hexec
    exact hexec
  · have hforce := exec_powered (c := .force p g) (g := fun s => s.glnFire g) hl rfl
    have htrigger := exec_powered (c := .glnTrigger g) (g := fun s => if s.glnTrigNow g then s.glnFire g else s) hl rfl
    rw [State.glnFire_ignored hidle, State.settle_quiet hl.2] at hforce
    rw [State.glnFire_ignored hidle, ite_self, State.settle_quiet hl.2] at htrigger
    exact ⟨hforce, htrigger⟩
  · have hexec := exec_powered (c := .arm p g) (g := fun s => s.glnArm g) hl rfl
    have harm : s.glnArm g = s.rearmed g := if_pos hdone
    rw [harm, State.settle_quiet ((s.rearmed_raised g).trans hl.2)] at hexec
    exact ⟨_, hexec, s.rearmed_leaves g⟩

end Sys2Proof.Machine
end

section
/-! Updates of the firmware (R335–R340). -/

namespace Sys2Proof.Machine

/-! The banks. -/

section
variable {s t : State} {b : FwBank}

/-- A bank that is not ACTIVE goes into the spare place, and the place of the ACTIVE one stays. -/
theorem State.setSpare_activeIs1 (s : State) (hb : b.st ≠ .active) : (s.setSpare b).activeIs1 = s.activeIs1 := by
  cases hact : s.activeIs1 with
  | true =>
    have hset : s.setSpare b = { s with fw := { s.fw with bank0 := b } } := if_pos hact
    have hne : s.fw.bank0.st ≠ .active := fun h => by
      rw [State.activeIs1, if_pos h] at hact
      exact Bool.false_ne_true hact
    rw [State.activeIs1, if_neg hne] at hact
    rw [hset]
    exact (if_neg hb).trans hact
  | false =>
    have hset : s.setSpare b = { s with fw := { s.fw with bank1 := b } } := if_neg (by rw [hact]; decide)
    rw [hset]
    by_cases h0 : s.fw.bank0.st = .active
    · exact if_pos h0
    · rw [State.activeIs1, if_neg h0] at hact
      have hrun : s.fw.running1 = false := by
        split at hact
        · exact absurd hact (by decide)
        · exact hact
      exact (if_neg h0).trans ((if_neg hb).trans hrun)

theorem State.activeIs1_of_fw (h0 : t.fw.bank0 = s.fw.bank0) (h1 : t.fw.bank1 = s.fw.bank1) (hr : t.fw.running1 = s.fw.running1) :
    t.activeIs1 = s.activeIs1 ∧ t.spareBank = s.spareBank ∧ t.activeBank = s.activeBank := by
  have hact : t.activeIs1 = s.activeIs1 := by rw [State.activeIs1, h0, h1, hr, State.activeIs1]
  exact ⟨hact, by rw [State.spareBank, hact, h0, h1, State.spareBank], by rw [State.activeBank, hact, h0, h1, State.activeBank]⟩

theorem State.setSpare_banks (s : State) (hb : b.st ≠ .active) : (s.setSpare b).spareBank = b ∧ (s.setSpare b).activeBank = s.activeBank := by
  have hkeep := s.setSpare_activeIs1 hb
  cases hact : s.activeIs1 with
  | true =>
    have hset : s.setSpare b = { s with fw := { s.fw with bank0 := b } } := if_pos hact
    rw [State.spareBank, State.activeBank, State.activeBank, hkeep, hact, hset]
    exact ⟨rfl, rfl⟩
  | false =>
    have hset : s.setSpare b = { s with fw := { s.fw with bank1 := b } } := if_neg (by rw [hact]; decide)
    rw [State.spareBank, State.activeBank, State.activeBank, hkeep, hact, hset]
    exact ⟨rfl, rfl⟩

/-- A bank in the spare place changes nothing but the banks. -/
theorem State.setSpare_frame (s : State) (b : FwBank) : s.setSpare b = { s with fw := { s.fw with
    bank0 := (s.setSpare b).fw.bank0, bank1 := (s.setSpare b).fw.bank1 } } := by
  unfold State.setSpare
  split <;> rfl

theorem State.setSpare_raised (s : State) (b : FwBank) : (s.setSpare b).raised = s.raised := by rw [State.setSpare_frame]

theorem State.showFw_banks (s : State) : s.showFw.spareBank = s.spareBank ∧ s.showFw.activeBank = s.activeBank :=
  have h := s.showFw_fw
  (State.activeIs1_of_fw (congrArg FwSt.bank0 h) (congrArg FwSt.bank1 h) (congrArg FwSt.running1 h)).2

end

/-! The boot of a trial, and the return from it (R338, R340). -/

section
variable {s : State}

/-- A bank that is PENDING boots in TRIAL. -/
theorem State.romTrial_trial (c : Nat) (h : s.fw.state = 5) : (s.romTrial c).fw.state = 4 ∧ (s.romTrial c).fw.boots = 1 ∧
    (s.romTrial c).fw.running1 = !s.activeIs1 ∧ (s.romTrial c).runBank.st = .trial ∧ (s.romTrial c).raised = s.raised := by
  have hb : ({ s.spareBank with st := .trial } : FwBank).st ≠ .active := nofun
  have hkeep := s.setSpare_activeIs1 hb
  have hspare := (s.setSpare_banks hb).1
  rw [State.spareBank, hkeep] at hspare
  rw [State.romTrial, if_pos h]
  refine ⟨rfl, rfl, congrArg not hkeep, ?_, s.setSpare_raised _⟩
  have hrun : ∀ u : State, State.runBank { u with fw := { u.fw with state := 4, boots := 1, running1 := !u.activeIs1 } } =
      if u.activeIs1 then u.fw.bank0 else u.fw.bank1 := fun u => by
    unfold State.runBank
    cases u.activeIs1 <;> rfl
  rw [hrun, hkeep, hspare]

theorem State.bbFirmware_fw (s : State) (sub v : Nat) : (s.bbFirmware sub v).fw = s.fw := by
  unfold State.bbFirmware State.bbQueue
  split <;> rfl

theorem State.erasePage_fw (s : State) (p : Nat) : (s.erasePage p).fw = s.fw := by rw [((State.BoxOnly.refl s).erasePage (p := p)).frame]

theorem State.dropSet_fw (s : State) (set : Nat) : (s.dropSet set).fw = s.fw :=
  State.each_keeps (f := State.fw) (fun _ u => u.erasePage_fw _) _ s

/-- The records of the trial's format go, and the black box notes the return. -/
def State.trialDropped (s : State) : State :=
  (if s.fw.newFormat then s.dropSet (1 - s.fw.pset) else s).bbFirmware 3 (s.spareBank.comp 3).version

theorem State.trialDropped_fw (s : State) : s.trialDropped.fw = s.fw := by
  rw [State.trialDropped, State.bbFirmware_fw]
  split
  · exact s.dropSet_fw _
  · rfl

/-- A trial that is over: the ACTIVE bank runs, the spare one is empty, and fault 0xB9 is reported. -/
theorem State.fallMarks_leaves (s : State) : s.fallMarks.fw.state = 0 ∧ s.fallMarks.fw.last = 2 ∧ s.fallMarks.fw.boots = 0 ∧
    s.fallMarks.fw.running1 = s.activeIs1 ∧ faultOf 0xB9 0 [] ∈ s.fallMarks.raised := by
  have hform : s.fallMarks = State.raise { s.trialDropped.setSpare {} with fw := { (s.trialDropped.setSpare {}).fw with
      state := 0, last := 2, boots := 0, newFormat := false, running1 := (s.trialDropped.setSpare {}).activeIs1 } } 0xB9 0 [] := rfl
  have hfw := s.trialDropped_fw
  have hkeep : (s.trialDropped.setSpare {}).activeIs1 = s.activeIs1 :=
    (State.setSpare_activeIs1 (b := {}) _ (by decide)).trans
      (State.activeIs1_of_fw (congrArg FwSt.bank0 hfw) (congrArg FwSt.bank1 hfw) (congrArg FwSt.running1 hfw)).1
  rw [hform]
  refine ⟨rfl, rfl, rfl, hkeep, ?_⟩
  rw [State.raise_raised]
  exact List.mem_append_right _ (List.mem_singleton_self _)

/-- The firmware that a reset's boot decision finds: a build is struck, and nothing is left of an envelope's move and of a trial's time. -/
theorem State.beforeBoot_fw (s : State) (c aon : Nat) : (s.beforeBoot c aon).fw = { s.stopBuild.fw with envOld := [], trialUs := 0 } := by
  rw [s.beforeBoot_only c aon]
  rfl

theorem State.beforeBoot_raised (s : State) (c aon : Nat) : (s.beforeBoot c aon).raised = [] := by
  rw [s.beforeBoot_only c aon]
  rfl

theorem State.stopBuild_other (h : s.fw.state ≠ 2) : s.stopBuild = s := if_pos h

/-- A system reset with a bank PENDING begins its first trial boot (R338). -/
theorem State.afterReset_trial (h : s.fw.state = 5) : (s.afterReset rcSoftware 0).fw.state = 4 ∧ (s.afterReset rcSoftware 0).fw.boots = 1 ∧
    (s.afterReset rcSoftware 0).fw.running1 = !s.activeIs1 ∧ (s.afterReset rcSoftware 0).runBank.st = .trial ∧
    (s.afterReset rcSoftware 0).raised = [] := by
  have hfw := s.beforeBoot_fw rcSoftware 0
  rw [State.stopBuild_other (by rw [h]; decide)] at hfw
  obtain ⟨hstate, hboots, hrun, hst, hraised⟩ := (s.beforeBoot rcSoftware 0).romTrial_trial rcSoftware (by rw [hfw, h])
  have hact := (State.activeIs1_of_fw (t := s.beforeBoot rcSoftware 0) (s := s) (by rw [hfw]) (by rw [hfw]) (by rw [hfw])).1
  exact ⟨hstate, hboots, hrun.trans (congrArg not hact), hst, hraised.trans (s.beforeBoot_raised _ _)⟩

/-- A system reset in TRIAL returns to the ACTIVE bank (R340). -/
theorem State.afterReset_fallBack (h : s.fw.state = 4) : (s.afterReset rcSoftware 0).fw.state = 0 ∧ (s.afterReset rcSoftware 0).fw.last = 2 ∧
    (s.afterReset rcSoftware 0).fw.boots = 0 ∧ (s.afterReset rcSoftware 0).fw.running1 = s.activeIs1 ∧
    faultOf 0xB9 0 [] ∈ (s.afterReset rcSoftware 0).raised := by
  have hfw := s.beforeBoot_fw rcSoftware 0
  rw [State.stopBuild_other (by rw [h]; decide)] at hfw
  have hstate : (s.beforeBoot rcSoftware 0).fw.state = 4 := by rw [hfw, h]
  have hfall : s.afterReset rcSoftware 0 = (s.beforeBoot rcSoftware 0).fallMarks := by
    have hboot : s.afterReset rcSoftware 0 = (s.beforeBoot rcSoftware 0).romTrial rcSoftware := rfl
    rw [hboot, State.romTrial, if_neg (by rw [hstate]; decide), if_pos hstate]
    exact if_neg fun hc => absurd hc.1 (by decide)
  obtain ⟨hs, hlast, hboots, hrun, hraised⟩ := (s.beforeBoot rcSoftware 0).fallMarks_leaves
  have hact := (State.activeIs1_of_fw (t := s.beforeBoot rcSoftware 0) (s := s) (by rw [hfw]) (by rw [hfw]) (by rw [hfw])).1
  rw [hfall]
  exact ⟨hs, hlast, hboots, hrun.trans hact, hraised⟩

end

/-! The commands (R337–R340). -/

section
variable {s : State}

theorem State.showFw_raised (s : State) : s.showFw.raised = s.raised := by
  have hkeep (u v : State) (h : u.raised = v.raised) : (u.each (List.range 4) fun j u =>
      (u.wrN (R.FW_VER j) (u.runBank.comp j).version).wrN (R.FW_SVN_FLOOR j) (u.fw.floors.getD j 0)).raised = v.raised :=
    (State.each_keeps (f := State.raised) (g := fun j u => (u.wrN (R.FW_VER j) (u.runBank.comp j).version).wrN (R.FW_SVN_FLOOR j)
      (u.fw.floors.getD j 0)) (fun _ _ => rfl) _ u).trans h
  refine hkeep _ s ?_
  simp only [State.setF_raised]

theorem State.buildFailed_leaves (s : State) (e : Nat) : (s.buildFailed e).fw = { s.fw with state := 0, last := 3, fail := e } ∧
    (s.buildFailed e).raised = s.raised ++ [faultOf 0xB8 0 (leBytes 4 e)] := by
  have hshow : (State.showFw { s with fw := { s.fw with state := 0, last := 3, fail := e } }).raised = s.raised := State.showFw_raised _
  unfold State.buildFailed
  rw [State.raise_fw, State.showFw_fw, State.raise_raised, hshow]
  exact ⟨rfl, rfl⟩

/-- A build that has ended with its images (R337). -/
def State.built (s : State) (cs : List FwComp) : State :=
  let t := s.setSpare { st := .empty, comps := cs }
  State.showFw { t with fw := { t.fw with state := 3, sector := s.buildSectors, dirty := false } }

theorem State.built_leaves (s : State) (cs : List FwComp) : (s.built cs).fw.state = 3 ∧ (s.built cs).spareBank.comps = cs ∧
    (s.built cs).activeBank = s.activeBank ∧ (s.built cs).fw.staged = s.fw.staged ∧ (s.built cs).raised = s.raised := by
  obtain ⟨hspare, hactive⟩ := s.setSpare_banks (b := { st := .empty, comps := cs }) (show BankState.empty ≠ .active by decide)
  have hraised := s.setSpare_raised { st := .empty, comps := cs }
  have hframe := s.setSpare_frame { st := .empty, comps := cs }
  have hstaged : (s.setSpare { st := .empty, comps := cs }).fw.staged = s.fw.staged := by rw [hframe]
  obtain ⟨hs, ha⟩ := State.showFw_banks { s.setSpare { st := .empty, comps := cs } with
    fw := { (s.setSpare { st := .empty, comps := cs }).fw with state := 3, sector := s.buildSectors, dirty := false } }
  unfold State.built
  dsimp only
  refine ⟨by rw [State.showFw_fw], ?_, ?_, ?_, ?_⟩
  · rw [hs]
    exact congrArg FwBank.comps hspare
  · rw [ha]
    exact hactive
  · rw [State.showFw_fw]
    exact hstaged
  · rw [State.showFw_raised]
    exact hraised

theorem exec_fwuBuildDone {ok : Bool} (hl : s.live) (hst : s.fw.state = 2) (hf : s.sys.field = true) :
    (∀ e, s.buildResult ok = .error e → exec (.fwuBuildDone ok) s = .next (s.buildFailed e).settle) ∧
    (∀ cs, s.buildResult ok = .ok cs → exec (.fwuBuildDone ok) s = .next (s.built cs).settle) := by
  have hexec : exec (.fwuBuildDone ok) s = execFwuBuildDone ok s := rfl
  have hdue : ¬ (s.fw.state ≠ 2 ∨ ¬ s.sys.field = true) := by rw [hst, hf]; decide
  refine ⟨fun e he => ?_, fun cs hcs => ?_⟩
  · rw [hexec, execFwuBuildDone, State.act_on _ hl.1]
    dsimp only
    rw [if_neg hdue, he]
  · rw [hexec, execFwuBuildDone, State.act_on _ hl.1]
    dsimp only
    rw [if_neg hdue, hcs]
    rfl

/-- A bank whose activation is PENDING, before it shows (R338). -/
def State.activated (s : State) : State :=
  let t := (s.bbFirmware 1 (s.spareBank.comp 3).version)
  let u := t.setSpare { t.spareBank with st := .pending }
  { u with fw := { u.fw with
    state := 5
    newFormat := (s.spareBank.comp 3).format != (u.activeBank.comp 3).format
    bootMax := max 1 (u.f R.FWU_CFG F.FWU_CFG_TRIAL_BOOTS) } }

theorem State.activated_leaves (s : State) : s.activated.fw.state = 5 ∧ s.activated.spareBank.st = .pending ∧
    s.activated.activeBank = s.activeBank ∧ s.activated.activeIs1 = s.activeIs1 ∧ s.activated.fw.running1 = s.fw.running1 := by
  have hfw := s.bbFirmware_fw 1 (s.spareBank.comp 3).version
  have hb : ∀ t : State, ({ t.spareBank with st := .pending } : FwBank).st ≠ .active := fun _ => nofun
  unfold State.activated
  dsimp only
  generalize s.bbFirmware 1 (s.spareBank.comp 3).version = t at hfw
  obtain ⟨hact, -, hactive⟩ := State.activeIs1_of_fw (congrArg FwSt.bank0 hfw) (congrArg FwSt.bank1 hfw) (congrArg FwSt.running1 hfw)
  obtain ⟨hspare, hsame⟩ := t.setSpare_banks (hb t)
  have hkeep := t.setSpare_activeIs1 (hb t)
  have hrun : (t.setSpare { t.spareBank with st := .pending }).fw.running1 = s.fw.running1 := by
    rw [State.setSpare_frame]
    show t.fw.running1 = s.fw.running1
    rw [hfw]
  generalize t.setSpare { t.spareBank with st := .pending } = u at hspare hsame hkeep hrun
  exact ⟨rfl, congrArg FwBank.st hspare, hsame.trans hactive, hkeep.trans hact, hrun⟩

theorem State.bbFirmware_rd (s : State) (sub v : Nat) {o : Nat} (ho : o ≠ R.BB_STATUS) : (s.bbFirmware sub v).rd o = s.rd o := by
  unfold State.bbFirmware State.bbQueue
  split
  · rfl
  · rw [State.raise_rd_of, State.rd_bump_other _ _ _ ho]
    rfl

theorem State.activated_flag (s : State) : s.activated.flag R.FWU_CFG F.FWU_CFG_ACT_MODE = s.flag R.FWU_CFG F.FWU_CFG_ACT_MODE := by
  have hrd := s.bbFirmware_rd 1 (s.spareBank.comp 3).version (o := R.FWU_CFG) (by decide)
  have hspare (t : State) (b : FwBank) : (t.setSpare b).rd R.FWU_CFG = t.rd R.FWU_CFG := by
    rw [State.setSpare_frame]
    rfl
  have hall : s.activated.rd R.FWU_CFG = s.rd R.FWU_CFG := (hspare _ _).trans hrd
  exact State.flag_congr (by rw [State.f, hall, State.f])

theorem State.activateBank_cases (hst : s.fw.state = 3) :
    (s.quietStages = false → s.activateBank = s.hwSet R.FWU_STATUS F.FWU_STATUS_ACT_REFUSED 1) ∧
    (s.quietStages = true → s.activateBank = if s.flag R.FWU_CFG F.FWU_CFG_ACT_MODE then s.activated.showFw
      else s.activated.bbFlush.afterReset rcSoftware 0) := by
  refine ⟨fun hbusy => ?_, fun hquiet => ?_⟩
  · rw [State.activateBank, if_neg (not_not_intro hst), if_pos (by rw [hbusy]; rfl)]
  · have hform : s.activateBank = if s.activated.flag R.FWU_CFG F.FWU_CFG_ACT_MODE then s.activated.showFw
        else s.activated.bbFlush.afterReset rcSoftware 0 := by
      rw [State.activateBank, if_neg (not_not_intro hst), if_neg (by rw [hquiet]; decide)]
      rfl
    rw [hform, s.activated_flag]

end

end Sys2Proof.Machine
end

section
/-! ABANDON, CONFIRM and the obligation O52 (R335, R338–R340). -/

namespace Sys2Proof.Machine

section
variable {s : State}

/-- What ABANDON leaves of the firmware, from what a PENDING bank's drop has left. -/
def State.emptied (s : State) : State :=
  State.showFw { s with fw := { s.fw with state := 0, manifest := [], staged := [], sector := 0, dirty := false } }

/-- The staged package and a PENDING bank are dropped. -/
theorem State.abandonUpdate_eq (h2 : s.fw.state ≠ 2) (h4 : s.fw.state ≠ 4) : s.abandonUpdate =
    (if s.fw.state = 5 then State.setSpare { s with fw := { s.fw with last := 4 } } {} else s).emptied := by
  rw [State.abandonUpdate, if_neg (not_or.2 ⟨h2, h4⟩)]
  rfl

theorem State.emptied_leaves (s : State) : s.emptied.fw.state = 0 ∧ s.emptied.fw.manifest = [] ∧ s.emptied.fw.staged = [] ∧
    s.emptied.fw.last = s.fw.last ∧ s.emptied.raised = s.raised := by
  unfold State.emptied
  rw [State.showFw_raised, State.showFw_fw]
  exact ⟨rfl, rfl, rfl, rfl, rfl⟩

theorem State.setSpare_last (s : State) (b : FwBank) : (s.setSpare b).fw.last = s.fw.last := by rw [State.setSpare_frame]

theorem State.abandonUpdate_leaves (h2 : s.fw.state ≠ 2) (h4 : s.fw.state ≠ 4) : s.abandonUpdate.fw.state = 0 ∧
    s.abandonUpdate.fw.manifest = [] ∧ s.abandonUpdate.fw.staged = [] ∧
    s.abandonUpdate.fw.last = (if s.fw.state = 5 then 4 else s.fw.last) ∧ s.abandonUpdate.raised = s.raised := by
  rw [State.abandonUpdate_eq h2 h4]
  split
  · obtain ⟨hst, hm, hsg, hlast, hraised⟩ := (State.setSpare { s with fw := { s.fw with last := 4 } } {}).emptied_leaves
    rw [State.setSpare_raised] at hraised
    rw [State.setSpare_last] at hlast
    exact ⟨hst, hm, hsg, hlast, hraised⟩
  · exact s.emptied_leaves

/-- The old records go where the new bank has its own. -/
def State.setDropped (s : State) : State :=
  let t := s.bbFirmware 2 (s.runBank.comp 3).version
  if t.fw.newFormat then t.dropSet t.fw.pset else t

theorem State.setDropped_fw (s : State) : s.setDropped.fw = s.fw := by
  unfold State.setDropped
  dsimp only
  split
  · rw [State.dropSet_fw, State.bbFirmware_fw]
  · exact s.bbFirmware_fw _ _

/-- The firmware after a confirmed trial, from what the drop of the old records has left of it. -/
def State.confirmedFw (s : State) (f : FwSt) : FwSt :=
  { f with
      bank0 := if f.running1 then { s.activeBank with st := .previous } else { s.runBank with st := .active }
      bank1 := if f.running1 then { s.runBank with st := .active } else { s.activeBank with st := .previous }
      state := 0
      last := 1
      boots := 0
      manifest := []
      staged := []
      floors := (List.range 4).map (fun c => max (f.floors.getD c 0) (s.runBank.comp c).svn)
      pset := if f.newFormat then 1 - f.pset else f.pset
      newFormat := false }

theorem State.confirmTrial_fw (hst : s.fw.state = 4) (hf : s.sys.field = true) (hover : s.trialOver = false) :
    (s.confirmTrial .field).fw = s.confirmedFw s.fw := by
  have hdue : ¬ (Path.field ≠ .field ∨ s.fw.state ≠ 4 ∨ ¬ s.sys.field = true ∨ s.trialOver = true) := by
    rw [hst, hf, hover]
    decide
  have hform : s.confirmTrial .field = State.showFw (State.setF { s.setDropped with fw := s.confirmedFw s.setDropped.fw }
      R.NVM_STATUS F.NVM_STATUS_PSET (s.confirmedFw s.setDropped.fw).pset) := if_neg hdue
  rw [hform, State.showFw_fw, State.setF_fw, s.setDropped_fw]

/-- The banks of a confirmed trial: the one that runs is ACTIVE, the other the PREVIOUS one. -/
theorem State.confirmedFw_banks {u : State} (hu : u.fw = s.confirmedFw s.fw) : u.runBank = { s.runBank with st := .active } ∧
    u.otherBank = { s.activeBank with st := .previous } := by
  rw [State.runBank, State.otherBank, hu, State.confirmedFw]
  dsimp only
  cases s.fw.running1 <;> exact ⟨rfl, rfl⟩

end

/-- Settles O52: each command by what it leaves of the update's state and of the banks. -/
theorem updatesAreTriedBeforeTheyCount : Obligations.UpdatesAreTriedBeforeTheyCount := by
  intro s p hl
  refine ⟨fun ok hst hf => ⟨fun e he => ?_, fun cs hcs => ?_⟩, fun hst => ⟨fun hbusy => ?_, fun hquiet hmode => ?_, fun hquiet hmode => ?_⟩,
    fun h2 h4 => ?_, fun hst => ?_, fun hst => ⟨fun hf hover => ?_, fun hp => ?_, fun hover => ?_⟩⟩
  · obtain ⟨hfw, hraised⟩ := s.buildFailed_leaves e
    refine ⟨_, (exec_fwuBuildDone hl hst hf).1 e he, ?_, ?_, ?_, ?_, ?_, ?_, hraised.trans (by rw [hl.2, List.nil_append])⟩
    all_goals rw [hfw]
  · obtain ⟨hstate, hcomps, hactive, hstaged, hraised⟩ := s.built_leaves cs
    have hexec := (exec_fwuBuildDone hl hst hf).2 cs hcs
    rw [State.settle_quiet (hraised.trans hl.2)] at hexec
    exact ⟨_, hexec, hstate, hcomps, hactive, hstaged⟩
  · have honly := (State.onlyRegs_refl hl.2 [R.FWU_STATUS]).hwSet List.mem_cons_self F.FWU_STATUS_ACT_REFUSED 1
    have hexec := exec_powered (c := .activate p) (g := fun s => s.activateBank) hl rfl
    rw [(State.activateBank_cases hst).1 hbusy, State.settle_quiet honly.raised] at hexec
    exact ⟨_, hexec, honly, State.flag_hwSet_one _ _ (by decide) (by decide)⟩
  · obtain ⟨hstate, hspare, hactive, -, hrun⟩ := s.activated_leaves
    obtain ⟨hs, ha⟩ := s.activated.showFw_banks
    have hexec := exec_powered (c := .activate p) (g := fun s => s.activateBank) hl rfl
    rw [(State.activateBank_cases hst).2 hquiet, if_pos hmode] at hexec
    refine ⟨_, hexec, ?_, ?_, ha.trans hactive, ?_⟩
    · rw [State.showFw_fw, hstate]
    · rw [hs, hspare]
    · rw [State.showFw_fw, hrun]
  · obtain ⟨hstate, -, -, hact, -⟩ := s.activated_leaves
    have hfw : s.activated.bbFlush.fw = s.activated.fw := by rw [s.activated.bbFlush_boxOnly.frame]
    obtain ⟨hfour, hboots, hrun, htrial, hraised⟩ := State.afterReset_trial (s := s.activated.bbFlush) (by rw [hfw, hstate])
    have hsame := (State.activeIs1_of_fw (congrArg FwSt.bank0 hfw) (congrArg FwSt.bank1 hfw) (congrArg FwSt.running1 hfw)).1
    have hexec := exec_powered (c := .activate p) (g := fun s => s.activateBank) hl rfl
    rw [(State.activateBank_cases hst).2 hquiet, if_neg (by rw [hmode]; decide), State.settle_quiet hraised] at hexec
    exact ⟨_, hexec, hfour, hboots, hrun.trans (congrArg not (hsame.trans hact)), htrial, (State.afterReset_leaves _ 0 (by decide)).1⟩
  · obtain ⟨hstate, hm, hsg, hlast, hraised⟩ := State.abandonUpdate_leaves h2 h4
    have hexec := exec_powered (c := .abandon p) (g := fun s => s.abandonUpdate) hl rfl
    rw [State.settle_quiet (hraised.trans hl.2)] at hexec
    exact ⟨_, hexec, hstate, hm, hsg, hlast⟩
  · have hexec := exec_powered (c := .abandon p) (g := fun s => s.abandonUpdate) hl rfl
    have hnone : s.abandonUpdate = s := if_pos hst
    rw [hnone, State.settle_quiet hl.2] at hexec
    exact hexec
  · have hfw := State.confirmTrial_fw hst hf hover
    obtain ⟨hrun, hother⟩ := State.confirmedFw_banks hfw
    refine ⟨_, exec_powered (c := .confirm .field) (g := fun s => s.confirmTrial .field) hl rfl, ?_, ?_, ?_, ?_, ?_, fun c => ?_⟩
    · rw [hfw]
      rfl
    · rw [hfw]
      rfl
    · rw [hrun]
    · rw [hrun]
    · rw [hother]
    · rw [hfw, State.confirmedFw]
      dsimp only
      rw [List.getD_eq_getElem?_getD, List.getElem?_map, List.getElem?_range c.isLt]
      rfl
  · have hexec := exec_powered (c := .confirm p) (g := fun s => s.confirmTrial p) hl rfl
    have hnone : s.confirmTrial p = s := if_pos (.inl hp)
    rw [hnone, State.settle_quiet hl.2] at hexec
    exact hexec
  · have hexec := exec_powered (c := .trialExpiry) (g := fun s => if s.fw.state = 4 ∧ s.trialOver then s.afterReset rcSoftware 0 else s) hl rfl
    rw [if_pos ⟨hst, hover⟩] at hexec
    obtain ⟨hstate, hlast, hboots, hrun, hraised⟩ := State.afterReset_fallBack hst
    exact ⟨_, hexec, hstate, hlast, hboots, hrun, (s.afterReset_leaves 0 (by decide)).1, hraised⟩

end Sys2Proof.Machine
end

section
/-! What the loss of a supply leaves of the Type-C ports (R156, R252). -/

namespace Sys2Proof.Machine

/-! A port's status field by field. -/

/-- Two fields of a register that do not meet. -/
def Fld.apart (g h : Fld) : Bool := decide (g.lo + g.w ≤ 32 ∧ h.lo + h.w ≤ 32 ∧ (g.lo + g.w ≤ h.lo ∨ h.lo + h.w ≤ g.lo))

section
variable {s : State} {n : Nat} {g h : Fld}

theorem State.f_setF_apart (o v : Nat) (hd : g.apart h = true) : (s.setF o g v).f o h = s.f o h := by
  obtain ⟨hg, hh, hd⟩ := of_decide_eq_true hd
  exact State.f_setF_field _ _ hg hh hd.symm

theorem State.setPS_f_apart (v : Nat) (hd : g.apart h = true) : (s.setPS n g v).f (R.PORT_STATUS n) h = s.f (R.PORT_STATUS n) h :=
  State.f_setF_apart _ v hd

theorem State.setPS_flag_apart (v : Nat) (hd : g.apart h = true) :
    (s.setPS n g v).flag (R.PORT_STATUS n) h = s.flag (R.PORT_STATUS n) h := State.flag_congr (State.setPS_f_apart v hd)

theorem State.setPS_f_same (v : Nat) (hg : decide (g.lo + g.w ≤ 32) = true) :
    (s.setPS n g v).f (R.PORT_STATUS n) g = v % 2 ^ g.w := State.f_setF_same _ _ _ _ (of_decide_eq_true hg)

theorem State.setPS_rd {o : Nat} (v : Nat) (ho : o ≠ R.PORT_STATUS n) : (s.setPS n g v).rd o = s.rd o := State.rd_setF_other _ _ _ ho

theorem State.setPe_f_apart (v : Nat) (hd : F.PORT_STATUS_PE.apart h = true) :
    (s.setPe n v).f (R.PORT_STATUS n) h = s.f (R.PORT_STATUS n) h := State.setPS_f_apart _ hd

theorem State.setPe_rd {o : Nat} (v : Nat) (ho : o ≠ R.PORT_STATUS n) : (s.setPe n v).rd o = s.rd o := State.setPS_rd _ ho

end

/-! Port events. -/

/-- A port's registers lie above those that a completion counts in. -/
def portReg (o : Nat) : Prop := 0x6000 ≤ o ∧ o < 0x6600

section
variable (s : State) (n code detail : Nat) (data : List Byte)

theorem State.portEvent_frame : s.portEvent n code detail data = { s with
    regs := (s.portEvent n code detail data).regs, cycle := (s.portEvent n code detail data).cycle,
    cplq := (s.portEvent n code detail data).cplq, cans := (s.portEvent n code detail data).cans,
    raised := (s.portEvent n code detail data).raised } := by
  unfold State.portEvent
  split
  · exact State.complete_frame _ _ _ _
  · rfl

theorem State.portEvent_rd {o : Nat} (h1 : 0x1190 < o) (h2 : o < 0xA108) : (s.portEvent n code detail data).rd o = s.rd o := by
  unfold State.portEvent
  split
  · exact State.complete_sameRegs _ _ _ _ _ (cplRegs_above h1 h2)
  · rfl

theorem State.portEvent_told {x : Raised} (h : x ∈ s.raised) : x ∈ (s.portEvent n code detail data).raised := by
  unfold State.portEvent
  split
  · exact State.complete_raised_mem _ _ _ _ h
  · exact h

theorem State.portEvent_port (m : Nat) : (s.portEvent n code detail data).port m = s.port m := by rw [State.portEvent_frame]; rfl

theorem State.portEvent_outbox : (s.portEvent n code detail data).outbox = s.outbox := by rw [State.portEvent_frame]

end

/-! A supply that is lost. -/

/-- The port's record but for the contract that a lost supply still needs (R160). -/
def PortRt.steady (r : PortRt) : PortRt := { r with needContract := false }

/-- `t` has the ports of `s`, but for the supply's state in their status and the voltage in PORT_n_VBUS. -/
structure State.PortKept (s t : State) : Prop where
  port : ∀ m, (t.port m).steady = (s.port m).steady
  reg : ∀ o, portReg o → o % 0x200 ≠ 0x50 → o % 0x200 ≠ 0x5C → t.rd o = s.rd o
  status : ∀ n : Fin 3, ∀ g : Fld, F.PORT_STATUS_SUPPLY.apart g = true → t.f (R.PORT_STATUS n) g = s.f (R.PORT_STATUS n) g
  outbox : t.outbox = s.outbox
  raised : s.raised ⊆ t.raised
  cyc : t.cyc = s.cyc
  power : t.sys.power = s.sys.power
  fab : t.fab = s.fab

section
variable {s t u : State}

theorem State.PortKept.refl (s : State) : s.PortKept s :=
  ⟨fun _ => rfl, fun _ _ _ _ => rfl, fun _ _ _ => rfl, rfl, List.Subset.refl _, rfl, rfl, rfl⟩

theorem State.PortKept.trans (h : s.PortKept t) (h' : t.PortKept u) : s.PortKept u where
  port m := (h'.port m).trans (h.port m)
  reg o ho h1 h2 := (h'.reg o ho h1 h2).trans (h.reg o ho h1 h2)
  status n g hg := (h'.status n g hg).trans (h.status n g hg)
  outbox := h'.outbox.trans h.outbox
  raised := List.Subset.trans h.raised h'.raised
  cyc := h'.cyc.trans h.cyc
  power := h'.power.trans h.power
  fab := h'.fab.trans h.fab

theorem State.PortKept.foldl {α : Type} {g : State → α → State} {l : List α} (hg : ∀ a ∈ l, ∀ u : State, u.PortKept (g u a)) (s : State) :
    s.PortKept (l.foldl g s) := by
  induction l generalizing s with
  | nil => exact .refl s
  | cons a l ih =>
    exact (hg a List.mem_cons_self s).trans (ih (fun b hb => hg b (List.mem_cons_of_mem a hb)) (g s a))

theorem portStatus_portReg (n : Fin 3) : portReg (R.PORT_STATUS n) := by
  simp only [portReg, R.PORT_STATUS]
  omega

/-- An operation that writes registers of other units alone. -/
theorem State.PortKept.of_other {l : List Nat} (hport : t.ports = s.ports) (hreg : s.sameRegs t l) (hl : ∀ o ∈ l, ¬ portReg o)
    (hout : t.outbox = s.outbox) (hr : s.raised ⊆ t.raised) (hc : t.cyc = s.cyc) (hp : t.sys.power = s.sys.power) (hf : t.fab = s.fab) :
    s.PortKept t where
  port m := by rw [State.port, hport, State.port]
  reg o ho _ _ := hreg o fun hm => hl o hm ho
  status n g _ := by rw [State.f, hreg _ fun hm => hl _ hm (portStatus_portReg n), State.f]
  outbox := hout
  raised := hr
  cyc := hc
  power := hp
  fab := hf

end

/-! The operations of a loss. -/

section
variable (s : State)

theorem State.setPort_portKept {n : Nat} {r : PortRt} (h : r.steady = (s.port n).steady) : s.PortKept (s.setPort n r) where
  port m := by
    by_cases hm : m = n
    · rw [hm, State.port_setPort, h]
    · rw [State.port_setPort_ne _ _ hm]
  reg _ _ _ _ := rfl
  status _ _ _ := rfl
  outbox := rfl
  raised := List.Subset.refl _
  cyc := rfl
  power := rfl
  fab := rfl

theorem State.setSupState_portKept {x : Nat} (hx : x < 6) (st : Nat) : s.PortKept (s.setSupState x st) := by
  have hpower : (s.setSupState x st).sys.power = s.sys.power := by
    unfold State.setSupState
    split
    · split
      · rfl
      · unfold State.noteIdle
        split
        · rfl
        · rfl
    · rfl
  have hframe := s.setSupState_frame x st
  have hreg := s.setSupState_sameRegs x st
  by_cases h3 : x < 3
  · refine .of_other (l := [supReg x]) (by rw [hframe]) hreg (fun o ho => ?_) (by rw [hframe]) (by rw [hframe]; exact List.Subset.refl _)
      (by rw [hframe]) hpower (by rw [hframe])
    rw [List.mem_singleton.1 ho, supReg_of_lt h3]
    simp only [portReg, R.INPUT_STATUS]
    omega
  · have hset : s.setSupState x st = s.setF (R.PORT_STATUS (x - 3)) F.PORT_STATUS_SUPPLY st := by rw [State.setSupState, if_neg h3]
    rw [hset]
    refine ⟨fun _ => rfl, fun o _ h1 _ => State.rd_setF_other _ _ _ fun h => h1 ?_, fun n g hg => ?_, rfl, List.Subset.refl _, rfl, rfl, rfl⟩
    · rw [h]
      simp only [R.PORT_STATUS]
      omega
    · by_cases hn : n.val = x - 3
      · rw [hn]
        exact State.f_setF_apart _ _ hg
      · refine State.f_setF_reg _ _ _ _ fun h => hn ?_
        simp only [R.PORT_STATUS] at h
        omega

theorem State.setSupply_portKept (x : Nat) (r : SupplyRt) : s.PortKept (s.setSupply x r) :=
  .of_other (l := []) rfl (fun _ _ => rfl) nofun rfl (List.Subset.refl _) rfl rfl rfl

theorem State.setPsw_portKept (w : Nat) (r : PswRt) : s.PortKept (s.setPsw w r) :=
  .of_other (l := []) rfl (fun _ _ => rfl) nofun rfl (List.Subset.refl _) rfl rfl rfl

theorem State.raise_portKept (id inst : Nat) (b : List Byte) : s.PortKept (s.raise id inst b) :=
  .of_other (l := []) rfl (fun _ _ => rfl) nofun rfl (fun _ h => List.mem_append_left _ h) rfl rfl rfl

theorem State.startQualify_portKept {x : Nat} (hx : x < 6) : s.PortKept (s.startQualify x) := by
  unfold State.startQualify
  split
  · exact (s.setSupState_portKept hx _).trans (State.setSupply_portKept _ _ _)
  · exact .refl s

theorem State.openSwitch_portKept {w : Nat} (hw : w < 12) : s.PortKept (s.openSwitch w) := by
  refine .of_other rfl (s.openSwitch_sameRegs w) (fun o ho => ?_) rfl (List.Subset.refl _) rfl rfl rfl
  rw [List.mem_singleton.1 ho]
  simp only [portReg, R.PSW_STATUS]
  omega

theorem State.trigReval_portKept (code : Nat) : s.PortKept (s.trigReval code) := by
  refine .of_other rfl (s.trigReval_sameRegs code) (fun o ho => ?_) rfl (List.Subset.refl _) rfl rfl rfl
  rw [List.mem_singleton.1 ho]
  simp [portReg, R.DRILL_STATUS]

theorem State.stageReleased_portKept {k : Nat} (hk : k < 8) : s.PortKept (s.stageReleased k) := by
  have hframe := s.stageReleased_frame k
  refine .of_other (by rw [hframe]) (s.stageReleased_sameRegs k) (fun o ho => ?_) (by rw [hframe]) (by rw [hframe]; exact List.Subset.refl _)
    (by rw [hframe]) (by rw [hframe]) (by rw [hframe])
  have := releaseRegs_lt hk ho
  unfold portReg
  omega

theorem State.needContract_portKept (x : Nat) : s.PortKept (s.needContract x) := by
  unfold State.needContract
  split
  · exact s.setPort_portKept rfl
  · exact .refl s

theorem State.seriesOf_lt {s : State} {node w : Nat} (h : s.seriesOf node = some w) : w < 12 := List.mem_range.1 (List.mem_of_find?_eq_some h)

/-- The SERIES switch of a node opened, where it has one. -/
theorem State.sourceCut_portKept (node : Nat) : s.PortKept (s.sourceCut node) := by
  unfold State.sourceCut
  split
  next w hw => exact (s.openSwitch_portKept (State.seriesOf_lt hw)).trans (State.setPsw_portKept _ _ _)
  · exact .refl s

/-- A rail handed over writes its own registers, those of ceilings and those of the counter. -/
theorem State.handRail_rd (x r : Nat) {o : Nat} (hceil : ∀ m, o ≠ R.STAGE_CEIL m)
    (hsup : o ∉ [R.SUPPLY_STATUS r, R.SUPPLY_XFER_LAST_LO r, R.SUPPLY_XFER_LAST_HI r]) (hcnt : o ∉ counterRegs 1) :
    (s.handRail x r).rd o = s.rd o := by
  obtain ⟨h1, h2, h3⟩ : o ≠ R.SUPPLY_STATUS r ∧ o ≠ R.SUPPLY_XFER_LAST_LO r ∧ o ≠ R.SUPPLY_XFER_LAST_HI r := by
    simpa only [List.mem_cons, List.not_mem_nil, or_false, not_or] using hsup
  have hlost : (s.railLost x r).rd o = s.rd o := by
    unfold State.railLost
    dsimp only
    split
    · exact State.rd_setF_other _ _ _ h1
    · rw [State.incCounter_sameRegs _ 1 _ hcnt, State.wr64, State.rd_wrN_other _ _ h3, State.rd_wrN_other _ _ h2, State.rd_setF_other _ _ _ h1]
      rfl
  have hfill : ((s.railLost x r).fillHand r).rd o = s.rd o := ((State.fillHand_ceilOnly _ r).2 o hceil).trans hlost
  rw [s.handRail_eq]
  split
  · rw [State.raise_rd_of]
    exact hfill
  · exact hfill

theorem State.handRail_portKept (x : Nat) {r : Nat} (hr : r < 8) : s.PortKept (s.handRail x r) := by
  have hhand := s.handRail_handOnly x r
  have hkept (o : Nat) (ho : portReg o) (hc : o % 0x200 ≠ 0x5C) : (s.handRail x r).rd o = s.rd o := by
    obtain ⟨h1, h2⟩ := ho
    refine s.handRail_rd x r (fun m => ?_) ?_ ?_
    · simp only [R.STAGE_CEIL]
      omega
    · simp only [R.SUPPLY_STATUS, R.SUPPLY_XFER_LAST_LO, R.SUPPLY_XFER_LAST_HI, List.mem_cons, List.not_mem_nil, or_false]
      omega
    · simp only [counterRegs, R.NVM_CNT_LO, R.NVM_CNT_HI, R.NVM_STATUS, List.mem_cons, List.not_mem_nil, or_false]
      omega
  refine ⟨fun m => ?_, fun o ho _ h2 => hkept o ho h2, fun n g _ => ?_, ?_, hhand.raised, ?_, ?_, ?_⟩
  · rw [State.port, hhand.frame, State.port]
  · rw [State.f, hkept _ (portStatus_portReg n) (by simp only [R.PORT_STATUS]; omega), State.f]
  · rw [hhand.frame]
  · rw [hhand.frame]
  · rw [hhand.frame]
  · rw [hhand.frame]

theorem State.sourceReleased_portKept (node : Nat) : s.PortKept (s.sourceReleased node) :=
  State.PortKept.foldl (fun _ hk u => u.stageReleased_portKept (State.stagesOutOf_lt hk)) s

theorem State.handOver_portKept (x : Nat) (openSw : Bool) : s.PortKept (s.handOver x openSw) := by
  have hrel := s.sourceReleased_portKept (supNode x)
  have hcut : s.PortKept (if openSw then (s.sourceReleased (supNode x)).sourceCut (supNode x) else s.sourceReleased (supNode x)) := by
    split
    · exact hrel.trans (State.sourceCut_portKept _ _)
    · exact hrel
  have hrails : ∀ r ∈ (s.railsOf (supNode x)).filter (fun r => s.servesRail x r), ∀ u : State, u.PortKept (u.handRail x r) := fun r hr u =>
    u.handRail_portKept x (List.mem_range.1 (List.mem_filter.1 (List.mem_filter.1 hr).1).1)
  exact (hcut.trans (State.PortKept.foldl hrails _)).trans (State.trigReval_portKept _ _)

theorem State.loseSupply_portKept {x : Nat} (hx : x < 6) (st : Nat) (openSw : Bool) : s.PortKept (s.loseSupply x st openSw) := by
  unfold State.loseSupply
  split
  · have hhand := ((s.setSupState_portKept hx st).trans (State.needContract_portKept _ x)).trans (State.handOver_portKept _ x openSw)
    dsimp only
    split
    · exact hhand.trans (State.raise_portKept _ _ _ _)
    · exact hhand
  · split
    · have hidle := (s.setSupState_portKept hx (if st = supFault then supFault else supAbsent)).trans
        (State.setSupply_portKept _ x { s.supply x with ready := false })
      refine State.PortKept.trans ?_ (State.startQualify_portKept _ hx)
      split
      next w hw =>
        split
        · exact hidle.trans (State.openSwitch_portKept _ (State.seriesOf_lt hw))
        · exact hidle
      · exact hidle
    · exact .refl s

theorem State.stopPortStages_portKept (n : Nat) : s.PortKept (s.stopPortStages n) := by
  refine State.PortKept.foldl (fun k hk u => ?_) s
  have hk : k < 8 := by
    rcases List.mem_append.1 hk with h | h
    · exact List.mem_range.1 (List.mem_filter.1 h).1
    · exact State.stagesOutOf_lt h
  have hone := u.stageReleased_portKept hk
  unfold State.stageReleased at hone
  split at hone
  next h =>
    rw [if_pos h]
    exact hone
  next h =>
    rw [if_neg h]
    exact hone

end

end Sys2Proof.Machine
end

section
/-! What a port that drops its contract leaves (R252), ErrorRecovery and the Hard Reset (R246). -/

namespace Sys2Proof.Machine

/-- A port's record without its contract (R252); `d`: the discharge output. -/
def PortRt.dropped (r : PortRt) (d : Bool) : PortRt := { r with
  moving := false, newMv := 0, newMa := 0, reqRdo := 0, reqMv := 0, reqMa := 0, pps := false, hostWait := none, lateTo := none,
  prSwap := false, vconnSwap := false, frs := false, frsStep := 0, budget := 0, limit := 0, ownMsg := none, refMv := 0, refTicks := 0,
  inReg := 0, srcStep := 0, sagAt := none, setAt := none, bist := 0, dropTick := true,
  timers := r.timers.filter (fun x => x.1 == .noResponse), dschg := d }

/-- The fields of a port's status that the drop of its contract leaves. -/
def Fld.outlivesDrop (g : Fld) : Bool :=
  F.PORT_STATUS_SUPPLY.apart g && F.PORT_STATUS_EXPLICIT.apart g && F.PORT_STATUS_EPR.apart g && F.PORT_STATUS_FRS_ARMED.apart g

/-- `t` is `s` with the contract of a port dropped, as far as the port shows it. -/
structure State.PortDropped (s t : State) (n : Fin 3) : Prop where
  explicit : t.explicit n = false
  contract : t.rd (R.PORT_CONTRACT n) = 0#32
  rdo : t.rd (R.PORT_RDO n) = 0#32
  cnt : t.rd (R.PORT_CNT n) = s.rd (R.PORT_CNT n)
  status : ∀ g : Fld, g.outlivesDrop = true → t.f (R.PORT_STATUS n) g = s.f (R.PORT_STATUS n) g
  port : ∃ d, (t.port n).steady = ((s.port n).dropped d).steady
  outbox : t.outbox = s.outbox
  raised : s.raised ⊆ t.raised
  cyc : t.cyc = s.cyc
  power : t.sys.power = s.sys.power

section
variable (s : State) (n : Fin 3)

/-- The registers of a contract cleared. -/
def State.contractCleared (n : Nat) : State :=
  (((s.setPS n F.PORT_STATUS_EXPLICIT 0).setPS n F.PORT_STATUS_EPR 0).wrN (R.PORT_CONTRACT n) 0).wrN (R.PORT_RDO n) 0

/-- A port's record without its contract, with the state of its switch and what the fabric learns. -/
def State.recordDropped (n : Nat) (dis : Bool) : State :=
  ((s.setPort n ((s.port n).dropped (dis && decide (800 < s.supV (3 + n))))).showArmed n).trigReval 0x0002

/-- The supply of a port, its stages and its switch released. -/
def State.portReleased (n : Nat) (openSw : Bool) : State :=
  let t := (if s.isSrc n then s else s.loseSupply (3 + n) supLost openSw).stopPortStages n
  if openSw then t.sourceCut (12 + n) else t

theorem State.portDrop_eq (n : Nat) (openSw dis : Bool) : s.portDrop n openSw dis =
    if s.flag (R.PORT_STATUS n) F.PORT_STATUS_EPR then
      (((s.portReleased n openSw).contractCleared n).recordDropped n dis).portEvent n 0x000C 0 []
    else ((s.portReleased n openSw).contractCleared n).recordDropped n dis := rfl

theorem State.portReleased_portKept (openSw : Bool) : s.PortKept (s.portReleased n openSw) := by
  have hlose : s.PortKept (if s.isSrc n then s else s.loseSupply (3 + n) supLost openSw) := by
    split
    · exact .refl s
    · exact s.loseSupply_portKept (by omega) _ _
  have hstop := hlose.trans (State.stopPortStages_portKept _ n)
  unfold State.portReleased
  dsimp only
  split
  · exact hstop.trans (State.sourceCut_portKept _ _)
  · exact hstop

theorem State.contractCleared_kept (n : Nat) : (s.contractCleared n).outbox = s.outbox ∧ (s.contractCleared n).raised = s.raised ∧
    (s.contractCleared n).cyc = s.cyc ∧ (s.contractCleared n).sys = s.sys := ⟨rfl, rfl, rfl, rfl⟩

theorem State.recordDropped_kept (n : Nat) (dis : Bool) : (s.recordDropped n dis).outbox = s.outbox ∧
    (s.recordDropped n dis).raised = s.raised ∧ (s.recordDropped n dis).cyc = s.cyc ∧ (s.recordDropped n dis).sys = s.sys :=
  ⟨rfl, rfl, rfl, rfl⟩

theorem State.recordDropped_port (n : Nat) (dis : Bool) :
    (s.recordDropped n dis).port n = (s.port n).dropped (dis && decide (800 < s.supV (3 + n))) := State.port_setPort _ _ _

theorem portReg_ne_drillStatus {o : Nat} (ho : portReg o) : o ∉ [R.DRILL_STATUS] := by
  simp only [portReg, R.DRILL_STATUS, List.mem_singleton] at ho ⊢
  omega

theorem State.recordDropped_rd (dis : Bool) {o : Nat} (ho : o ∉ [R.DRILL_STATUS]) (hs : o ≠ R.PORT_STATUS n) :
    (s.recordDropped n dis).rd o = s.rd o := by
  rw [State.recordDropped, State.trigReval_sameRegs _ _ _ ho, State.showArmed, State.setPS_rd _ hs, State.setPort_rd_of]

theorem State.recordDropped_status (dis : Bool) {g : Fld} (harm : F.PORT_STATUS_FRS_ARMED.apart g = true) :
    (s.recordDropped n dis).f (R.PORT_STATUS n) g = s.f (R.PORT_STATUS n) g := by
  rw [State.recordDropped, (State.trigReval_sameRegs _ _).f _ (portReg_ne_drillStatus (portStatus_portReg n)),
    State.showArmed, State.setPS_f_apart _ harm, State.setPort_f_of]

theorem State.contractCleared_status (g : Fld) : (s.contractCleared n).f (R.PORT_STATUS n) g =
    ((s.setPS n F.PORT_STATUS_EXPLICIT 0).setPS n F.PORT_STATUS_EPR 0).f (R.PORT_STATUS n) g := by
  rw [State.contractCleared, State.f, State.rd_wrN_other _ _ (by simp [R.PORT_STATUS, R.PORT_RDO]),
    State.rd_wrN_other _ _ (by simp [R.PORT_STATUS, R.PORT_CONTRACT]), State.f]

theorem State.contractCleared_rd {o : Nat} (hs : o ≠ R.PORT_STATUS n) (hc : o ≠ R.PORT_CONTRACT n) (hr : o ≠ R.PORT_RDO n) :
    (s.contractCleared n).rd o = s.rd o := by
  rw [State.contractCleared, State.rd_wrN_other _ _ hr, State.rd_wrN_other _ _ hc, State.setPS_rd _ hs, State.setPS_rd _ hs]

theorem State.contractCleared_zero : (s.contractCleared n).rd (R.PORT_CONTRACT n) = 0#32 ∧ (s.contractCleared n).rd (R.PORT_RDO n) = 0#32 := by
  rw [State.contractCleared, State.rd_wrN_other _ _ (by simp [R.PORT_CONTRACT, R.PORT_RDO]), State.wrN, State.rd_wr_same, State.wrN,
    State.rd_wr_same]
  exact ⟨rfl, rfl⟩

theorem portRegs_of_contract (n : Fin 3) : portReg (R.PORT_CONTRACT n) ∧ portReg (R.PORT_RDO n) ∧ portReg (R.PORT_CNT n) := by
  simp only [portReg, R.PORT_CONTRACT, R.PORT_RDO, R.PORT_CNT]
  omega

/-- The drop of a record does not look at the contract that a lost supply needs. -/
theorem PortRt.dropped_steady {a b : PortRt} (h : a.steady = b.steady) (d : Bool) : (a.dropped d).steady = (b.dropped d).steady := by
  have hboth (r : PortRt) : (r.dropped d).steady = (r.steady.dropped d).steady := rfl
  rw [hboth a, h, ← hboth b]

theorem State.contractCleared_portDropped {t : State} (h : s.PortKept t) (dis : Bool) :
    s.PortDropped ((t.contractCleared n).recordDropped n dis) n := by
  obtain ⟨hpc, hpr, hpn⟩ := portRegs_of_contract n
  obtain ⟨hzc, hzr⟩ := t.contractCleared_zero n
  obtain ⟨hout, hraised, hcyc, hsys⟩ := (t.contractCleared n).recordDropped_kept n dis
  obtain ⟨hout', hraised', hcyc', hsys'⟩ := t.contractCleared_kept n
  have hlast {o : Nat} (ho : portReg o) (hs : o ≠ R.PORT_STATUS n) :=
    (t.contractCleared n).recordDropped_rd n dis (portReg_ne_drillStatus ho) hs
  have hcs : R.PORT_CNT n ≠ R.PORT_STATUS n := by simp [R.PORT_CNT, R.PORT_STATUS]
  refine ⟨?_, ?_, ?_, ?_, fun g hg => ?_, ⟨dis && decide (800 < (t.contractCleared n).supV (3 + n)), ?_⟩, ?_, ?_, ?_, ?_⟩
  · rw [State.explicit, State.flag, State.recordDropped_status _ _ _ (by decide), State.contractCleared_status,
      State.setPS_f_apart _ (by decide), State.setPS_f_same _ (by decide)]
    rfl
  · rw [hlast hpc (by simp [R.PORT_CONTRACT, R.PORT_STATUS]), hzc]
  · rw [hlast hpr (by simp [R.PORT_RDO, R.PORT_STATUS]), hzr]
  · rw [hlast hpn hcs, State.contractCleared_rd _ _ hcs (by simp [R.PORT_CNT, R.PORT_CONTRACT]) (by simp [R.PORT_CNT, R.PORT_RDO])]
    exact h.reg _ hpn (by simp only [R.PORT_CNT]; omega) (by simp only [R.PORT_CNT]; omega)
  · simp only [Fld.outlivesDrop, Bool.and_eq_true] at hg
    obtain ⟨⟨⟨hsup, hexp⟩, hepr⟩, harm⟩ := hg
    rw [State.recordDropped_status _ _ _ harm, State.contractCleared_status, State.setPS_f_apart _ hepr, State.setPS_f_apart _ hexp]
    exact h.status n g hsup
  · have hport : (t.contractCleared n).port n = t.port n := rfl
    rw [State.recordDropped_port, hport]
    exact PortRt.dropped_steady (h.port n) _
  · rw [hout, hout', h.outbox]
  · rw [hraised, hraised']
    exact h.raised
  · rw [hcyc, hcyc', h.cyc]
  · rw [hsys, hsys', h.power]

/-- A port event after the drop of a contract. -/
theorem State.PortDropped.portEvent {s t : State} {n : Fin 3} (h : s.PortDropped t n) (code detail : Nat) (data : List Byte) :
    s.PortDropped (t.portEvent n code detail data) n := by
  have hrd (o : Nat) (ho : portReg o) : (t.portEvent n code detail data).rd o = t.rd o := by
    obtain ⟨h1, h2⟩ := ho
    exact t.portEvent_rd n code detail data (by omega) (by omega)
  obtain ⟨hpc, hpr, hpn⟩ := portRegs_of_contract n
  have hstatus (g : Fld) : (t.portEvent n code detail data).f (R.PORT_STATUS n) g = t.f (R.PORT_STATUS n) g := by
    rw [State.f, hrd _ (portStatus_portReg n), State.f]
  refine ⟨(State.flag_congr (hstatus _)).trans h.explicit, (hrd _ hpc).trans h.contract, (hrd _ hpr).trans h.rdo, (hrd _ hpn).trans h.cnt,
    fun g hg => (hstatus g).trans (h.status g hg), ?_, (t.portEvent_outbox n code detail data).trans h.outbox,
    fun x hx => t.portEvent_told n code detail data (h.raised hx), ?_, ?_⟩
  · rw [State.portEvent_port]
    exact h.port
  · rw [State.portEvent_frame]
    exact h.cyc
  · rw [State.portEvent_frame]
    exact h.power

theorem State.portDrop_portDropped (openSw dis : Bool) : s.PortDropped (s.portDrop n openSw dis) n := by
  have hdrop := s.contractCleared_portDropped n (s.portReleased_portKept n openSw) dis
  rw [s.portDrop_eq]
  split
  · exact hdrop.portEvent _ _ _
  · exact hdrop

/-- The SERIES switch of a port that drops its contract opens. -/
theorem State.portDrop_pswClosed (dis : Bool) {w : Fin 12} (hw : s.seriesOf (12 + n) = some w.val) :
    (s.portDrop n true dis).pswClosed w = false := by
  have hlose : s.PortKept ((if s.isSrc n then s else s.loseSupply (3 + n) supLost true).stopPortStages n) := by
    refine State.PortKept.trans ?_ (State.stopPortStages_portKept _ n)
    split
    · exact .refl s
    · exact s.loseSupply_portKept (by omega) _ _
  have hopen : (s.portReleased n true).pswClosed w = false :=
    State.sourceCut_pswClosed ((State.seriesOf_congr hlose.fab _).trans hw)
  have hne (o : Nat) (ho : portReg o) : R.PSW_STATUS w ≠ o := by
    simp only [portReg, R.PSW_STATUS] at ho ⊢
    omega
  have hdrop : (((s.portReleased n true).contractCleared n).recordDropped n dis).pswClosed w = false := by
    refine (State.pswClosed_congr ?_).trans hopen
    have hdrill : R.PSW_STATUS w ∉ [R.DRILL_STATUS] := by
      simp only [R.PSW_STATUS, R.DRILL_STATUS, List.mem_singleton]
      omega
    have hstatus := hne _ (portStatus_portReg n)
    obtain ⟨hpc, hpr, _⟩ := portRegs_of_contract n
    rw [State.recordDropped_rd _ _ _ hdrill hstatus, State.contractCleared_rd _ _ hstatus (hne _ hpc) (hne _ hpr)]
  rw [s.portDrop_eq]
  split
  · refine (State.pswClosed_congr (State.portEvent_rd _ _ _ _ _ ?_ ?_)).trans hdrop
    · simp only [R.PSW_STATUS]
      omega
    · simp only [R.PSW_STATUS]
      omega
  · exact hdrop

end

end Sys2Proof.Machine
end

section
/-! ErrorRecovery and the Hard Reset recovery of a port (R246). -/

namespace Sys2Proof.Machine

/-! ErrorRecovery. -/

/-- `t` is `s` with a port in ErrorRecovery, as far as the port shows it. -/
structure State.Recovering (s t : State) (n : Fin 3) : Prop where
  conn : t.conn n = cnErrorRecovery
  explicit : t.explicit n = false
  contract : t.rd (R.PORT_CONTRACT n) = 0#32
  vconn : t.flag (R.PORT_STATUS n) F.PORT_STATUS_VCONN_ON = false
  outbox : t.outbox = s.outbox
  raised : s.raised ⊆ t.raised
  power : t.sys.power = s.sys.power

section
variable (s : State) (n : Fin 3)

/-- A port's record on its way into ErrorRecovery. -/
def PortRt.recovering (r : PortRt) : PortRt :=
  { r with hardSent := 0, hardRecov := false, capsSent := 0, modes := [], timers := [], detach := 0, ccAt := none, recDone := false }

/-- A port shown in ErrorRecovery. -/
def State.recoveryShown (n : Nat) : State :=
  ((((s.vconnOff n).setPort n (s.port n).recovering).setPS n F.PORT_STATUS_DB 0).startTimer n .errorRecovery).setPS n
    F.PORT_STATUS_CONN cnErrorRecovery

theorem State.enterErrorRecovery_eq (n : Nat) :
    s.enterErrorRecovery n = (((s.portDrop n true true).recoveryShown n).setPe n 15) := rfl

theorem State.recoveryShown_f {g : Fld} (hc : F.PORT_STATUS_CONN.apart g = true) (hd : F.PORT_STATUS_DB.apart g = true) :
    (s.recoveryShown n).f (R.PORT_STATUS n) g = (s.vconnOff n).f (R.PORT_STATUS n) g := by
  rw [State.recoveryShown, State.setPS_f_apart _ hc, State.startTimer, State.setPort_f_of, State.setPS_f_apart _ hd, State.setPort_f_of]

theorem State.recoveryShown_rd {o : Nat} (ho : o ≠ R.PORT_STATUS n) : (s.recoveryShown n).rd o = s.rd o := by
  rw [State.recoveryShown, State.setPS_rd _ ho, State.startTimer, State.setPort_rd_of, State.setPS_rd _ ho, State.setPort_rd_of, State.vconnOff,
    State.setPS_rd _ ho]

theorem State.recoveryShown_kept (n : Nat) : ((s.recoveryShown n).setPe n 15).outbox = s.outbox ∧
    ((s.recoveryShown n).setPe n 15).raised = s.raised ∧ ((s.recoveryShown n).setPe n 15).sys = s.sys := ⟨rfl, rfl, rfl⟩

theorem State.enterErrorRecovery_recovering : s.Recovering (s.enterErrorRecovery n) n := by
  have hdrop := s.portDrop_portDropped n true true
  obtain ⟨hout, hraised, hsys⟩ := (s.portDrop n true true).recoveryShown_kept n
  rw [s.enterErrorRecovery_eq]
  refine ⟨?_, ?_, ?_, ?_, hout.trans hdrop.outbox, ?_, ?_⟩
  · rw [State.conn, State.setPe_f_apart _ (by decide), State.recoveryShown, State.setPS_f_same _ (by decide)]
    rfl
  · rw [State.explicit, State.flag, State.setPe_f_apart _ (by decide), State.recoveryShown_f _ _ (by decide) (by decide), State.vconnOff,
      State.setPS_f_apart _ (by decide)]
    exact hdrop.explicit
  · rw [State.setPe_rd _ (by simp [R.PORT_CONTRACT, R.PORT_STATUS]), State.recoveryShown_rd _ _ (by simp [R.PORT_CONTRACT, R.PORT_STATUS])]
    exact hdrop.contract
  · rw [State.flag, State.setPe_f_apart _ (by decide), State.recoveryShown_f _ _ (by decide) (by decide), State.vconnOff,
      State.setPS_f_same _ (by decide)]
    rfl
  · rw [hraised]
    exact hdrop.raised
  · rw [hsys, hdrop.power]

theorem State.Recovering.raise {s t : State} {n : Fin 3} (h : s.Recovering t n) (id inst : Nat) (b : List Byte) :
    s.Recovering (t.raise id inst b) n :=
  ⟨h.conn, h.explicit, h.contract, h.vconn, h.outbox, fun _ hx => List.mem_append_left _ (h.raised hx), h.power⟩

theorem State.Recovering.setPort {s t : State} {n : Fin 3} (h : s.Recovering t n) (m : Nat) (r : PortRt) :
    s.Recovering (t.setPort m r) n := ⟨h.conn, h.explicit, h.contract, h.vconn, h.outbox, h.raised, h.power⟩

end

/-! The Hard Reset recovery. -/

/-- `t` is `s` with a port in its Hard Reset recovery. -/
structure State.HardRecovering (s t : State) (n : Fin 3) : Prop where
  explicit : t.explicit n = false
  contract : t.rd (R.PORT_CONTRACT n) = 0#32
  hardRecov : (t.port n).hardRecov = true
  cnt : t.rd (R.PORT_CNT n) = s.rd (R.PORT_CNT n)
  outbox : t.outbox = s.outbox
  raised : s.raised ⊆ t.raised
  switch : ∀ w : Fin 12, s.seriesOf (12 + n.val) = some w.val → t.pswClosed w = false

section
variable (s : State) (n : Fin 3)

/-- A port's record as its Hard Reset recovery begins. -/
def PortRt.hardStart (r : PortRt) (src : Bool) (now : Nat) : PortRt := { r with
  hardRecov := true, revP := 0, capsSent := 0, mid := 0, midP := 0, rxMid := none, rxMidP := none, lastTx := none, modes := [],
  srcStep := if src then 1 else 0, srcAt := now }

/-- The status of a port as its Hard Reset recovery begins. -/
def State.hardStatus (n : Nat) (src : Bool) : State :=
  ((s.vconnOff n).setPS n F.PORT_STATUS_REV 0).setPS n F.PORT_STATUS_DATA_ROLE (boolNat src)

/-- The record of a port as its Hard Reset recovery begins, with its timers. -/
def State.hardTimers (n : Nat) (src : Bool) : State :=
  let t := s.setPort n ((s.port n).hardStart src s.cyc)
  let t := if (t.timerAt n .noResponse).isSome then t else t.startTimer n .noResponse
  if src then t else t.startTimer n .psHardReset

theorem State.hardRecovery_eq (n : Nat) : s.hardRecovery n =
    (((s.portDrop n true (s.isSrc n)).hardStatus n (s.isSrc n)).hardTimers n (s.isSrc n)).setPe n 14 := rfl

theorem State.startTimer_hardRecov (s : State) (n : Nat) (t : PdTimer) : ((s.startTimer n t).port n).hardRecov = (s.port n).hardRecov := by
  rw [State.startTimer, State.port_setPort]

theorem State.hardTimers_hardRecov (s : State) (n : Nat) (src : Bool) : ((s.hardTimers n src).port n).hardRecov = true := by
  have hstart : ((s.setPort n ((s.port n).hardStart src s.cyc)).port n).hardRecov = true := by
    rw [State.port_setPort]
    rfl
  unfold State.hardTimers
  dsimp only
  split
  · split
    · exact hstart
    · rw [State.startTimer_hardRecov, hstart]
  · split
    · rw [State.startTimer_hardRecov, hstart]
    · rw [State.startTimer_hardRecov, State.startTimer_hardRecov, hstart]

/-- `t` differs from `s` in the ports' records alone. -/
def State.PortsOnly (s t : State) : Prop := t = { s with ports := t.ports }

theorem State.PortsOnly.trans {s t u : State} (h : s.PortsOnly t) (h' : t.PortsOnly u) : s.PortsOnly u := by
  unfold State.PortsOnly at h h' ⊢
  rw [h', h]

theorem State.PortsOnly.ite {s t u : State} {c : Prop} [Decidable c] (ht : s.PortsOnly t) (hu : s.PortsOnly u) :
    s.PortsOnly (if c then t else u) := by
  split
  · exact ht
  · exact hu

theorem State.setPort_portsOnly (s : State) (n : Nat) (r : PortRt) : s.PortsOnly (s.setPort n r) := rfl

theorem State.startTimer_portsOnly (s : State) (n : Nat) (t : PdTimer) : s.PortsOnly (s.startTimer n t) := s.setPort_portsOnly n _

theorem State.hardTimers_frame (n : Nat) (src : Bool) : s.PortsOnly (s.hardTimers n src) := by
  have hset := s.setPort_portsOnly n ((s.port n).hardStart src s.cyc)
  have hno := hset.ite (c := ((s.setPort n ((s.port n).hardStart src s.cyc)).timerAt n .noResponse).isSome) (hset.trans
    (State.startTimer_portsOnly _ n .noResponse))
  exact hno.ite (hno.trans (State.startTimer_portsOnly _ n .psHardReset))

theorem State.hardTimers_f (n : Nat) (src : Bool) (o : Nat) (g : Fld) : (s.hardTimers n src).f o g = s.f o g := by
  rw [State.hardTimers_frame]
  rfl

theorem State.hardTimers_rd (n : Nat) (src : Bool) (o : Nat) : (s.hardTimers n src).rd o = s.rd o := by
  rw [State.hardTimers_frame]
  rfl

theorem State.hardStatus_rd (src : Bool) {o : Nat} (ho : o ≠ R.PORT_STATUS n) : (s.hardStatus n src).rd o = s.rd o := by
  rw [State.hardStatus, State.setPS_rd _ ho, State.setPS_rd _ ho, State.vconnOff, State.setPS_rd _ ho]

theorem State.hardRecovery_rd {o : Nat} (ho : o ≠ R.PORT_STATUS n) :
    (s.hardRecovery n).rd o = (s.portDrop n true (s.isSrc n)).rd o := by
  rw [s.hardRecovery_eq, State.setPe_rd _ ho, State.hardTimers_rd, State.hardStatus_rd _ _ _ ho]

theorem State.hardRecovery_hardRecovering : s.HardRecovering (s.hardRecovery n) n := by
  have hdrop := s.portDrop_portDropped n true (s.isSrc n)
  have hsame := hdrop.outbox
  have hraised := hdrop.raised
  refine ⟨?_, ?_, ?_, ?_, ?_, ?_, fun w hw => ?_⟩
  · rw [State.explicit, State.flag, s.hardRecovery_eq, State.setPe_f_apart _ (by decide), State.hardTimers_f, State.hardStatus,
      State.setPS_f_apart _ (by decide), State.setPS_f_apart _ (by decide), State.vconnOff, State.setPS_f_apart _ (by decide)]
    exact hdrop.explicit
  · rw [s.hardRecovery_rd n (by simp [R.PORT_CONTRACT, R.PORT_STATUS]), hdrop.contract]
  · rw [s.hardRecovery_eq, State.setPe, State.setPS, State.setF_port_of, State.hardTimers_hardRecov]
  · rw [s.hardRecovery_rd n (by simp [R.PORT_CNT, R.PORT_STATUS]), hdrop.cnt]
  · rw [← hsame, s.hardRecovery_eq, State.setPe, State.setPS, State.setF_outbox, State.hardTimers_frame]
    rfl
  · have hkept : (s.hardRecovery n).raised = (s.portDrop n true (s.isSrc n)).raised := by
      rw [s.hardRecovery_eq, State.setPe, State.setPS, State.setF_raised, State.hardTimers_frame]
      rfl
    rw [hkept]
    exact hraised
  · have hne : R.PSW_STATUS w ≠ R.PORT_STATUS n := by
      simp only [R.PSW_STATUS, R.PORT_STATUS]
      omega
    rw [State.pswClosed_congr (s.hardRecovery_rd n hne)]
    exact s.portDrop_pswClosed n _ hw

/-- `t` is `s` with a Hard_Reset told by the port: its recovery, its report and its event. -/
def State.hardTold (n : Nat) (detail : Nat) : State := ((s.hardRecovery n).raise 0x70 n []).portEvent n 0x0004 detail []

/-- What a Hard_Reset leaves, sent or received. -/
structure State.HardReset (s t : State) (n : Fin 3) : Prop where
  explicit : t.explicit n = false
  contract : t.rd (R.PORT_CONTRACT n) = 0#32
  hardRecov : (t.port n).hardRecov = true
  cnt : t.rd (R.PORT_CNT n) = s.rd (R.PORT_CNT n)
  outbox : t.outbox = s.outbox
  raised : s.raised ⊆ t.raised
  told : faultOf 0x70 n [] ∈ t.raised
  switch : ∀ w : Fin 12, s.seriesOf (12 + n.val) = some w.val → t.pswClosed w = false

theorem State.hardTold_hardReset (detail : Nat) : s.HardReset (s.hardTold n detail) n := by
  have hrec := s.hardRecovery_hardRecovering n
  have hrd (o : Nat) (h1 : 0x1190 < o) (h2 : o < 0xA108) : (s.hardTold n detail).rd o = (s.hardRecovery n).rd o :=
    ((s.hardRecovery n).raise 0x70 n []).portEvent_rd n 0x0004 detail [] h1 h2
  have htold {x : Raised} (hx : x ∈ ((s.hardRecovery n).raise 0x70 n []).raised) : x ∈ (s.hardTold n detail).raised :=
    State.portEvent_told _ _ _ _ _ hx
  refine ⟨?_, ?_, ?_, ?_, ?_, fun x hx => htold (List.mem_append_left _ (hrec.raised hx)), htold (List.mem_append_right _ List.mem_cons_self),
    fun w hw => ?_⟩
  · rw [State.explicit, State.flag, State.f, hrd _ (by simp only [R.PORT_STATUS]; omega) (by simp only [R.PORT_STATUS]; omega)]
    exact hrec.explicit
  · rw [hrd _ (by simp only [R.PORT_CONTRACT]; omega) (by simp only [R.PORT_CONTRACT]; omega), hrec.contract]
  · rw [State.hardTold, State.portEvent_port, State.raise_port_of, hrec.hardRecov]
  · rw [hrd _ (by simp only [R.PORT_CNT]; omega) (by simp only [R.PORT_CNT]; omega), hrec.cnt]
  · rw [State.hardTold, State.portEvent_outbox, State.raise_outbox, hrec.outbox]
  · rw [State.pswClosed_congr (hrd _ (by simp only [R.PSW_STATUS]; omega) (by simp only [R.PSW_STATUS]; omega))]
    exact hrec.switch w hw

/-- What goes before the recovery of a Hard_Reset that the port sends: its signal and its count. -/
def State.hardSignalled (n : Nat) : State :=
  let t := (s.emit (.pdSignal n 0)).bump (R.PORT_CNT n) F.PORT_CNT_HARD 1
  t.setPort n { t.port n with hardSent := (t.port n).hardSent + 1 }

theorem State.sendHard_eq (n : Nat) : s.sendHard n = (s.hardSignalled n).hardTold n 1 := rfl

/-- What a Hard_Reset that the port sends leaves (R246). -/
structure State.HardSent (s t : State) (n : Fin 3) : Prop where
  explicit : t.explicit n = false
  contract : t.rd (R.PORT_CONTRACT n) = 0#32
  hardRecov : (t.port n).hardRecov = true
  hard : t.f (R.PORT_CNT n) F.PORT_CNT_HARD = min (s.f (R.PORT_CNT n) F.PORT_CNT_HARD + 1) 255
  counts : ∀ g : Fld, F.PORT_CNT_HARD.apart g = true → t.f (R.PORT_CNT n) g = s.f (R.PORT_CNT n) g
  outbox : t.outbox = s.outbox ++ [Emit.pdSignal n 0]
  raised : s.raised ⊆ t.raised
  told : faultOf 0x70 n [] ∈ t.raised
  switch : ∀ w : Fin 12, s.seriesOf (12 + n.val) = some w.val → t.pswClosed w = false

theorem State.sendHard_hardSent : s.HardSent (s.sendHard n) n := by
  have hreset := (s.hardSignalled n).hardTold_hardReset n 1
  have hcnt (g : Fld) : (s.sendHard n).f (R.PORT_CNT n) g =
      ((s.emit (.pdSignal n 0)).bump (R.PORT_CNT n) F.PORT_CNT_HARD 1).f (R.PORT_CNT n) g := by
    rw [State.f, s.sendHard_eq, hreset.cnt]
    rfl
  rw [s.sendHard_eq] at hcnt ⊢
  refine ⟨hreset.explicit, hreset.contract, hreset.hardRecov, ?_, fun g hg => ?_, hreset.outbox, hreset.raised, hreset.told,
    fun w hw => hreset.switch w hw⟩
  · rw [hcnt, State.f_bump_same _ _ _ _ (by decide)]
    rfl
  · obtain ⟨hlo, hhi, hd⟩ := of_decide_eq_true hg
    rw [hcnt, State.f_bump_field _ _ hlo hhi hd.symm]
    rfl

end

end Sys2Proof.Machine
end

section
/-! Messages of a port that are sent and acknowledged (R222, R224, R239), and what they leave of the rest. -/

namespace Sys2Proof.Machine

/-! The operations of the policy engine. -/

/-- `t` is `s` with a port's engine moved on: its record, its status and what it has sent. -/
structure State.Talked (s t : State) (n : Nat) : Prop where
  frame : t = { s with regs := t.regs, ports := t.ports, outbox := t.outbox }
  regs : ∀ o, o ≠ R.PORT_STATUS n → t.rd o = s.rd o
  outbox : s.outbox ⊆ t.outbox

section
variable {s t u : State} {n : Nat}

theorem State.Talked.refl (s : State) (n : Nat) : s.Talked s n := ⟨rfl, fun _ _ => rfl, List.Subset.refl _⟩

theorem State.Talked.trans (h : s.Talked t n) (h' : t.Talked u n) : s.Talked u n where
  frame := by rw [h'.frame, h.frame]
  regs o ho := (h'.regs o ho).trans (h.regs o ho)
  outbox := List.Subset.trans h.outbox h'.outbox

theorem State.Talked.ite {c : Prop} [Decidable c] (ht : s.Talked t n) (hu : s.Talked u n) : s.Talked (if c then t else u) n := by
  split
  · exact ht
  · exact hu

theorem State.Talked.raised (h : s.Talked t n) : t.raised = s.raised := by rw [h.frame]

theorem State.Talked.cyc (h : s.Talked t n) : t.cyc = s.cyc := by rw [h.frame]

theorem State.Talked.f (h : s.Talked t n) {o : Nat} (ho : o ≠ R.PORT_STATUS n) (g : Fld) : t.f o g = s.f o g := by
  rw [State.f, h.regs o ho, State.f]

theorem State.Talked.sameRegs (h : s.Talked t n) : s.sameRegs t [R.PORT_STATUS n] :=
  fun o ho => h.regs o fun e => ho (List.mem_singleton.2 e)

end

section
variable (s : State) (n : Nat)

theorem State.setPort_talked (m : Nat) (r : PortRt) : s.Talked (s.setPort m r) n := ⟨rfl, fun _ _ => rfl, List.Subset.refl _⟩

theorem State.setPS_talked (g : Fld) (v : Nat) : s.Talked (s.setPS n g v) n := ⟨rfl, fun _ ho => State.setPS_rd v ho, List.Subset.refl _⟩

theorem State.setPe_talked (v : Nat) : s.Talked (s.setPe n v) n := s.setPS_talked n _ _

theorem State.emit_talked (e : Emit) : s.Talked (s.emit e) n := ⟨rfl, fun _ _ => rfl, List.subset_append_left _ _⟩

theorem State.startTimer_talked (t : PdTimer) : s.Talked (s.startTimer n t) n := s.setPort_talked n n _

theorem State.stopTimer_talked (t : PdTimer) : s.Talked (s.stopTimer n t) n := s.setPort_talked n n _

theorem State.pdSend_talked (sopP : Bool) (typ count : Nat) (ext : Bool) (wire : List Byte) :
    s.Talked (s.pdSend n sopP typ count ext wire) n := (s.emit_talked n _).trans (State.setPort_talked _ n n _)

theorem State.pdCtl_talked (typ : Nat) : s.Talked (s.pdCtl n typ) n := s.pdSend_talked n _ _ _ _ _

theorem State.pdData_talked (typ : Nat) (data : List Byte) : s.Talked (s.pdData n typ data) n := s.pdSend_talked n _ _ _ _ _

theorem State.ownDone_talked : s.Talked (s.ownDone n) n := (s.setPort_talked n n _).trans (State.stopTimer_talked _ n _)

theorem State.ownSent_talked (code : Nat) : s.Talked (s.ownSent n code) n := (s.setPort_talked n n _).trans (State.startTimer_talked _ n _)

theorem State.sendCaps_talked : s.Talked (s.sendCaps n) n :=
  (((((s.setPort_talked n n _).trans (State.pdData_talked _ n _ _)).trans (State.stopTimer_talked _ n _)).trans
    (State.startTimer_talked _ n _)).trans (State.setPe_talked _ n _))

/-- The negotiation that starts over after a Soft_Reset (R234). -/
theorem State.restartPe_talked : s.Talked (s.restartPe n) n := by
  have hdone := (s.ownDone_talked n).trans (State.setPort_talked _ n n { (s.ownDone n).port n with hostWait := none, lateTo := none })
  exact (hdone.ite (hdone.trans (State.sendCaps_talked _ n))).ite
    ((hdone.trans (State.startTimer_talked _ n .sinkWaitCap)).ite ((hdone.trans (State.startTimer_talked _ n .sinkWaitCap)).trans
      (State.setPe_talked _ n 2)))

theorem State.pdCtl_outbox (typ : Nat) : (s.pdCtl n typ).outbox = s.outbox ++ [s.ctlOut n typ] := rfl

theorem State.pdData_outbox (typ : Nat) (data : List Byte) : (s.pdData n typ data).outbox = s.outbox ++ [s.dataOut n typ data] := rfl

theorem State.pdUnsupported_outbox : (s.pdUnsupported n).outbox =
    s.outbox ++ [s.ctlOut n (if s.rev3 n then ctlNotSupported else ctlReject)] := rfl

theorem State.pdUnsupported_talked : s.Talked (s.pdUnsupported n) n := s.pdCtl_talked n _

end

/-! A message acknowledged. -/

/-- A port's record but for what an acknowledgement moves: the numbers of messages, the revisions, the times and the timers. -/
def PortRt.unheard (r : PortRt) : PortRt :=
  { r with rxMid := none, rxMidP := none, mid := 0, midP := 0, lastTx := none, rxAt := 0, revP := 0, everPd := false, timers := [] }

section
variable (s : State) (n : Nat) (sopP : Bool) (h : Nat)

/-- The GoodCRC of a message gone out, and its number taken (R224). -/
def State.heard : State :=
  let soft := hdrCtl h && hdrType h == ctlSoftReset
  (s.emit (.pdTx n sopP (s.txHeader n sopP 1 (bitsOf h 9 3) 0 false) [])).setPort n { s.port n with
    rxMid := if sopP then (s.port n).rxMid else some (bitsOf h 9 3)
    rxMidP := if sopP then some (bitsOf h 9 3) else (s.port n).rxMidP
    mid := if soft && !sopP then 0 else (s.port n).mid
    midP := if soft && sopP then 0 else (s.port n).midP
    lastTx := none
    rxAt := s.cyc }

/-- The partner's first message fixes the revision (R224). -/
def State.revLearnt : State :=
  if sopP then (if (s.port n).revP = 0 then
      (s.heard n sopP h).setPort n { (s.heard n sopP h).port n with revP := if hdrRev h ≥ 2 then 2 else 1 }
    else s.heard n sopP h)
  else (s.heard n sopP h).learnRev n h

/-- A message is acknowledged by an attached port with a policy that does not send BIST Carrier Mode. -/
def State.hears (n : Nat) : Prop := s.attached n = true ∧ (s.port n).policyReady = true ∧ (s.port n).bist ≠ 1

theorem State.pdAck_of_hears (hh : s.hears n) : s.pdAck n sopP h = (s.revLearnt n sopP h, (hdrCtl h && hdrType h == ctlSoftReset) ||
    (if sopP then (s.port n).rxMidP else (s.port n).rxMid) != some (bitsOf h 9 3)) := by
  obtain ⟨ha, hp, hb⟩ := hh
  have hno : ¬ (!s.attached n || !(s.port n).policyReady || (s.port n).bist == 1) = true := by
    rw [ha, hp]
    simpa using hb
  unfold State.pdAck
  dsimp only
  rw [if_neg hno]
  rfl

theorem State.pdAck_of_deaf (hh : ¬ s.hears n) : s.pdAck n sopP h = (s, false) := by
  have hno : (!s.attached n || !(s.port n).policyReady || (s.port n).bist == 1) = true := by
    unfold State.hears at hh
    by_contra hc
    simp only [Bool.or_eq_true, not_or, Bool.not_eq_true', Bool.not_eq_false, beq_iff_eq] at hc
    obtain ⟨⟨ha, hp⟩, hb⟩ := hc
    exact hh ⟨ha, hp, hb⟩
  unfold State.pdAck
  dsimp only
  rw [if_pos hno]

theorem State.pdAck_new (hnew : (s.pdAck n sopP h).2 = true) : s.hears n := by
  by_contra hh
  rw [s.pdAck_of_deaf n sopP h hh] at hnew
  cases hnew

theorem State.heard_talked : s.Talked (s.heard n sopP h) n := (s.emit_talked n _).trans (State.setPort_talked _ n n _)

theorem State.learnRev_talked : s.Talked (s.learnRev n h) n := by
  have hstop := (s.setPort_talked n n { s.port n with everPd := true }).trans (State.stopTimer_talked _ n .noResponse)
  exact (hstop.trans (State.setPS_talked _ n F.PORT_STATUS_REV (if hdrRev h ≥ 2 then 2 else 1))).ite hstop

theorem State.revLearnt_talked : s.Talked (s.revLearnt n sopP h) n := by
  have hheard := s.heard_talked n sopP h
  exact ((hheard.trans (State.setPort_talked _ n n _)).ite hheard).ite (hheard.trans (State.learnRev_talked _ n h))

theorem State.pdAck_talked : s.Talked (s.pdAck n sopP h).1 n := by
  by_cases hh : s.hears n
  · rw [s.pdAck_of_hears n sopP h hh]
    exact s.revLearnt_talked n sopP h
  · rw [s.pdAck_of_deaf n sopP h hh]
    exact .refl s n

theorem State.learnRev_port : ((s.learnRev n h).port n).unheard = (s.port n).unheard ∧ ((s.learnRev n h).port n).mid = (s.port n).mid := by
  have hstop : (((s.setPort n { s.port n with everPd := true }).stopTimer n .noResponse).port n).unheard = (s.port n).unheard ∧
      (((s.setPort n { s.port n with everPd := true }).stopTimer n .noResponse).port n).mid = (s.port n).mid := by
    rw [State.stopTimer, State.port_setPort, State.port_setPort]
    exact ⟨rfl, rfl⟩
  unfold State.learnRev
  dsimp only
  split
  · exact hstop
  · exact hstop

theorem State.revLearnt_unheard : ((s.revLearnt n sopP h).port n).unheard = (s.port n).unheard := by
  have hheard : ((s.heard n sopP h).port n).unheard = (s.port n).unheard := by
    rw [State.heard, State.port_setPort]
    rfl
  unfold State.revLearnt
  split
  · split
    · rw [State.port_setPort]
      exact hheard
    · exact hheard
  · exact (State.learnRev_port _ n h).1.trans hheard

theorem State.pdAck_unheard : (((s.pdAck n sopP h).1).port n).unheard = (s.port n).unheard := by
  by_cases hh : s.hears n
  · rw [s.pdAck_of_hears n sopP h hh]
    exact s.revLearnt_unheard n sopP h
  · rw [s.pdAck_of_deaf n sopP h hh]

/-- The status of a port is left by an acknowledgement, but for the revision. -/
theorem State.pdAck_status {g : Fld} (hg : F.PORT_STATUS_REV.apart g = true) :
    (s.pdAck n sopP h).1.f (R.PORT_STATUS n) g = s.f (R.PORT_STATUS n) g := by
  have hlearn : (s.revLearnt n sopP h).f (R.PORT_STATUS n) g = s.f (R.PORT_STATUS n) g := by
    unfold State.revLearnt
    split
    · split
      · rfl
      · rfl
    · unfold State.learnRev
      dsimp only
      split
      · exact State.setPS_f_apart _ hg
      · rfl
  by_cases hh : s.hears n
  · rw [s.pdAck_of_hears n sopP h hh]
    exact hlearn
  · rw [s.pdAck_of_deaf n sopP h hh]

/-- A Soft_Reset starts the numbers of the port's messages anew. -/
theorem State.pdAck_softReset (hh : s.hears n) (hc : hdrCtl h = true)
    (ht : hdrType h = ctlSoftReset) :
    (s.pdAck n false h).2 = true ∧ (((s.pdAck n false h).1).port n).mid = 0 := by
  have hsoft : (hdrCtl h && hdrType h == ctlSoftReset) = true := by rw [hc, ht]; rfl
  rw [s.pdAck_of_hears n false h hh]
  refine ⟨?_, ?_⟩
  · dsimp only
    rw [hsoft, Bool.true_or]
  · dsimp only
    rw [State.revLearnt, if_neg (by decide), (State.learnRev_port _ n h).2, State.heard, State.port_setPort]
    dsimp only
    rw [hsoft]
    rfl

end

end Sys2Proof.Machine
end

section
/-! Writes of PORT_n_CFG (R225, R226, R233) and the unattached entry of a port (R252). -/

namespace Sys2Proof.Machine

/-! A write of PORT_n_CFG in its steps. -/

section
variable (s : State) (n : Nat)

/-- POLICY has no place at the port: its second port takes no autonomous policy, host policy wants a ring pair of type PD (R233). -/
def State.policyBad : Bool :=
  if s.f (R.PORT_CFG n) F.PORT_CFG_POLICY = 0 then decide (n = 2) else !s.pdTyped n

/-- The word taken, with POLICY as it was where the new one is refused. -/
def State.cfgTaken (v : Word) : State :=
  let t := s.wr (R.PORT_CFG n) (v &&& 0x00FFFF7F#32)
  if t.policyBad n then (t.setF (R.PORT_CFG n) F.PORT_CFG_POLICY (s.f (R.PORT_CFG n) F.PORT_CFG_POLICY)).cfgRefused n else t

/-- The word in force at once, unless the port is attached (R225). -/
def State.cfgInForce : State :=
  if s.conn n = cnSink ∨ s.conn n = cnSource then s else s.setPort n { s.port n with cfg := s.rd (R.PORT_CFG n) }

/-- The first write by Headland noted. -/
def State.cfgNoted : State := s.setPort n { s.port n with configured := true, toggleAt := s.cyc }

/-- The first write by Headland: the end of dead-battery Rd, or the attach to the Source that the port has seen (R226). -/
def State.cfgFirst : State :=
  match ((s.cfgNoted n).port n).seen with
  | some o =>
    if (s.cfgNoted n).roleAllows n false = true ∧ ¬ (s.cfgNoted n).heldPort n = true then (s.cfgNoted n).attach n o
    else (s.cfgNoted n).setPS n F.PORT_STATUS_DB 0
  | none => (s.cfgNoted n).setPS n F.PORT_STATUS_DB 0

/-- FRS_ARMED shown, and a port that cannot be armed as told (R248). -/
def State.cfgArmed : State :=
  let t := s.showArmed n
  if t.flag (R.PORT_CFG n) F.PORT_CFG_FRS_EN && !t.canArm n then t.cfgRefused n else t

/-- A write of PORT_n_CFG, before Headland's first one counts. -/
def State.cfgWritten (v : Word) : State := (s.cfgTaken n v).cfgInForce n

theorem State.writePortCfg_eq (v : Word) (byHeadland : Bool) : s.writePortCfg n v byHeadland =
    (if byHeadland = true ∧ ¬ ((s.cfgWritten n v).port n).configured = true then (s.cfgWritten n v).cfgFirst n
      else s.cfgWritten n v).cfgArmed n := rfl

end

/-! What a write leaves. -/

/-- A field of a port's status that a write of PORT_n_CFG leaves, where no attach comes of it. -/
def Fld.outlivesCfg (g : Fld) : Bool :=
  F.PORT_STATUS_DB.apart g && F.PORT_STATUS_FRS_ARMED.apart g && F.PORT_STATUS_CFG_REFUSED.apart g

/-- `t` is `s` with a port's configuration changed. -/
structure State.CfgOnly (s t : State) (n : Nat) (l : List Nat) : Prop where
  frame : t = { s with regs := t.regs, cycle := t.cycle, ports := t.ports }
  regs : s.sameRegs t l
  status : ∀ g : Fld, g.outlivesCfg = true → t.f (R.PORT_STATUS n) g = s.f (R.PORT_STATUS n) g
  detach : (t.port n).detach = (s.port n).detach
  seen : (t.port n).seen = (s.port n).seen

section
variable {s t u : State} {n : Nat} {l : List Nat}

theorem State.CfgOnly.refl (s : State) (n : Nat) (l : List Nat) : s.CfgOnly s n l := ⟨rfl, s.sameRegs_refl l, fun _ _ => rfl, rfl, rfl⟩

theorem State.CfgOnly.trans (h : s.CfgOnly t n l) (h' : t.CfgOnly u n l) : s.CfgOnly u n l where
  frame := by rw [h'.frame, h.frame]
  regs := h.regs.trans h'.regs
  status g hg := (h'.status g hg).trans (h.status g hg)
  detach := h'.detach.trans h.detach
  seen := h'.seen.trans h.seen

theorem State.CfgOnly.ite {c : Prop} [Decidable c] (ht : s.CfgOnly t n l) (hu : s.CfgOnly u n l) : s.CfgOnly (if c then t else u) n l := by
  split
  · exact ht
  · exact hu

theorem State.CfgOnly.raised (h : s.CfgOnly t n l) : t.raised = s.raised := by rw [h.frame]

theorem State.CfgOnly.conn (h : s.CfgOnly t n l) : t.conn n = s.conn n := h.status _ (by decide)

end

section
variable (s : State) (n : Nat) {l : List Nat}

theorem State.wr_cfgOnly {o : Nat} (v : Word) (ho : o ∈ l) (hne : o ≠ R.PORT_STATUS n) : s.CfgOnly (s.wr o v) n l :=
  ⟨rfl, (s.sameRegs_refl l).wr ho v, fun _ _ => State.f_wr_reg _ _ _ hne.symm, rfl, rfl⟩

theorem State.setF_cfgOnly {o : Nat} (g : Fld) (v : Nat) (ho : o ∈ l) (hne : o ≠ R.PORT_STATUS n) : s.CfgOnly (s.setF o g v) n l :=
  s.wr_cfgOnly n _ ho hne

theorem State.setDb_cfgOnly (v : Nat) (hl : R.PORT_STATUS n ∈ l) : s.CfgOnly (s.setPS n F.PORT_STATUS_DB v) n l := by
  refine ⟨rfl, (s.sameRegs_refl l).setF hl _ v, fun g hg => State.setPS_f_apart _ ?_, rfl, rfl⟩
  simp only [Fld.outlivesCfg, Bool.and_eq_true] at hg
  exact hg.1.1

theorem State.showArmed_cfgOnly (hl : R.PORT_STATUS n ∈ l) : s.CfgOnly (s.showArmed n) n l := by
  refine ⟨rfl, (s.sameRegs_refl l).setF hl _ _, fun g hg => State.setPS_f_apart _ ?_, rfl, rfl⟩
  simp only [Fld.outlivesCfg, Bool.and_eq_true] at hg
  exact hg.1.2

theorem State.cfgRefused_cfgOnly (hl : R.PORT_STATUS n ∈ l) : s.CfgOnly (s.cfgRefused n) n l := by
  refine ⟨rfl, (s.sameRegs_refl l).hwSet hl _ 1, fun g hg => ?_, rfl, rfl⟩
  simp only [Fld.outlivesCfg, Bool.and_eq_true] at hg
  exact State.f_setF_apart _ _ hg.2

theorem State.cfgTaken_cfgOnly (v : Word) (hc : R.PORT_CFG n ∈ l) (hl : R.PORT_STATUS n ∈ l) : s.CfgOnly (s.cfgTaken n v) n l := by
  have hne : R.PORT_CFG n ≠ R.PORT_STATUS n := by simp [R.PORT_CFG, R.PORT_STATUS]
  have hwr := s.wr_cfgOnly n (v &&& 0x00FFFF7F#32) hc hne
  exact ((hwr.trans (State.setF_cfgOnly _ n F.PORT_CFG_POLICY (s.f (R.PORT_CFG n) F.PORT_CFG_POLICY) hc hne)).trans
    (State.cfgRefused_cfgOnly _ n hl)).ite hwr

theorem State.setPort_cfgOnly (r : PortRt) (hd : r.detach = (s.port n).detach) (hs : r.seen = (s.port n).seen) :
    s.CfgOnly (s.setPort n r) n l :=
  ⟨rfl, fun _ _ => rfl, fun _ _ => rfl, by rw [State.port_setPort, hd], by rw [State.port_setPort, hs]⟩

theorem State.cfgInForce_cfgOnly : s.CfgOnly (s.cfgInForce n) n l := (State.CfgOnly.refl s n l).ite (s.setPort_cfgOnly n _ rfl rfl)

theorem State.cfgNoted_cfgOnly : s.CfgOnly (s.cfgNoted n) n l := s.setPort_cfgOnly n _ rfl rfl

theorem State.cfgArmed_cfgOnly (hl : R.PORT_STATUS n ∈ l) : s.CfgOnly (s.cfgArmed n) n l :=
  ((s.showArmed_cfgOnly n hl).trans (State.cfgRefused_cfgOnly _ n hl)).ite (s.showArmed_cfgOnly n hl)

theorem State.cfgWritten_cfgOnly (v : Word) (hc : R.PORT_CFG n ∈ l) (hl : R.PORT_STATUS n ∈ l) : s.CfgOnly (s.cfgWritten n v) n l :=
  (s.cfgTaken_cfgOnly n v hc hl).trans (State.cfgInForce_cfgOnly _ n)

/-- Headland's first write at a port that has seen no Source. -/
theorem State.cfgFirst_of_unseen (hs : (s.port n).seen = none) : s.cfgFirst n = (s.cfgNoted n).setPS n F.PORT_STATUS_DB 0 := by
  have hnoted : ((s.cfgNoted n).port n).seen = none := (s.cfgNoted_cfgOnly n (l := [])).seen.trans hs
  rw [State.cfgFirst, hnoted]

theorem State.cfgFirst_cfgOnly (hl : R.PORT_STATUS n ∈ l) (hs : (s.port n).seen = none) : s.CfgOnly (s.cfgFirst n) n l := by
  rw [s.cfgFirst_of_unseen n hs]
  exact (s.cfgNoted_cfgOnly n).trans (State.setDb_cfgOnly _ n 0 hl)

/-- A write at a port that has seen no Source. -/
theorem State.writePortCfg_cfgOnly (v : Word) (byHeadland : Bool) (hc : R.PORT_CFG n ∈ l) (hl : R.PORT_STATUS n ∈ l)
    (hs : (s.port n).seen = none) : s.CfgOnly (s.writePortCfg n v byHeadland) n l := by
  have hwritten := s.cfgWritten_cfgOnly n v hc hl
  rw [s.writePortCfg_eq]
  exact ((hwritten.trans (State.cfgFirst_cfgOnly _ n hl (hwritten.seen.trans hs))).ite hwritten).trans (State.cfgArmed_cfgOnly _ n hl)

/-- The registers that a port record writes. -/
def recordRegs (n : Nat) : List Nat := R.PORT_STATUS n :: portRegs n

theorem portRegs_ne_status {n o : Nat} (ho : o ∈ portRegs n) : o ≠ R.PORT_STATUS n := by
  simp only [portRegs, List.mem_append, List.mem_cons, List.not_mem_nil, or_false, List.mem_map, List.mem_range, R.PORT_CFG, R.PORT_SNK_CFG,
    R.PORT_SRC_CFG, R.PORT_SRC_PDO, R.PORT_SNK_PDO] at ho
  rw [R.PORT_STATUS]
  rcases ho with ((h | h | h) | ⟨k, _, h⟩) | ⟨k, _, h⟩
  all_goals omega

theorem State.loadRegs_cfgOnly (data : List Byte) (rs : List Nat) (k : Nat) (hrs : ∀ r ∈ rs, r ∈ portRegs n) :
    s.CfgOnly (s.loadRegs data rs k) n (recordRegs n) := by
  induction rs generalizing s k with
  | nil => exact .refl s n _
  | cons r rs ih =>
    have hr := hrs r List.mem_cons_self
    have hload : s.CfgOnly (s.loadReg r (BitVec.ofNat 32 (leAt data (4 * k) 4))) n (recordRegs n) :=
      s.wr_cfgOnly n _ (List.mem_cons_of_mem _ hr) (portRegs_ne_status hr)
    exact (hload.trans (ih _ (k + 1) fun q hq => hrs q (List.mem_cons_of_mem r hq))).ite (.refl s n _)

theorem State.loadPort_cfgOnly (data : List Byte) (hs : (s.port n).seen = none) : s.CfgOnly (s.loadPort n data) n (recordRegs n) := by
  have hcfg : R.PORT_CFG n ∈ portRegs n := by simp [portRegs]
  have hload := (s.loadRegs_cfgOnly n data (portRegs n) 0 fun _ hr => hr).trans
    (State.wr_cfgOnly _ n (s.rd (R.PORT_CFG n)) (List.mem_cons_of_mem _ hcfg) (portRegs_ne_status hcfg))
  exact (State.CfgOnly.refl s n _).ite (hload.trans (State.writePortCfg_cfgOnly _ n _ true (List.mem_cons_of_mem _ hcfg) List.mem_cons_self
    (hload.seen.trans hs)))

end

/-! The unattached entry. -/

section
variable (s : State) (n : Nat)

/-- A port's record at its unattached entry. -/
def PortRt.unattached (r : PortRt) (cfg : Word) (now : Nat) : PortRt :=
  { ({} : PortRt) with cfg := cfg, configured := r.configured, dropTick := r.dropTick, toggleAt := now, safeAt := r.safeAt, lowAt := r.lowAt,
                       overAt := r.overAt }

/-- The state of a port shown at its unattached entry. -/
def State.unattachedShown : State := ((s.noteIdle .port).setPS n F.PORT_STATUS_CONN cnUnattached).setPS n F.PORT_STATUS_PE 0

/-- The fields of a port's status that belong to its partner. -/
def partnerFlds : List Fld := [F.PORT_STATUS_PWR_ROLE, F.PORT_STATUS_DATA_ROLE, F.PORT_STATUS_REV, F.PORT_STATUS_BC, F.PORT_STATUS_FLIP,
  F.PORT_STATUS_TYPEC_CUR, F.PORT_STATUS_VCONN_ON]

/-- What belonged to the partner forgotten in the port's status. -/
def State.partnerForgotten (configured : Bool) : State :=
  let t := partnerFlds.foldl (fun t g => t.setPS n g 0) s
  if configured then t.setPS n F.PORT_STATUS_DB 0 else t

/-- A port's record and its status at the unattached entry, before the supply. -/
def State.unattachedPort : State :=
  let t := (s.unattachedShown n).setPort n ((s.port n).unattached ((s.unattachedShown n).rd (R.PORT_CFG n)) (s.unattachedShown n).cyc)
  (t.loadPort n (s.port n).recNext).partnerForgotten n (s.port n).configured

theorem State.enterUnattached_eq : s.enterUnattached n =
    (((s.unattachedPort n).wrN (R.PORT_CABLE n) 0).setSupState (3 + n) supAbsent).setSupply (3 + n) {} := rfl

theorem State.unattachedShown_conn : (s.unattachedShown n).conn n = cnUnattached := by
  rw [State.unattachedShown, State.conn, State.setPS_f_apart _ (by decide), State.setPS_f_same _ (by decide)]
  rfl

theorem State.partnerForgotten_conn (c : Bool) : (s.partnerForgotten n c).conn n = s.conn n := by
  have hfold : (partnerFlds.foldl (fun t g => t.setPS n g 0) s).conn n = s.conn n :=
    foldl_keeps_mem (P := fun t => t.conn n) (fun g hg u => State.setPS_f_apart 0 (by
      revert g
      decide)) s
  unfold State.partnerForgotten
  dsimp only
  split
  · rw [State.conn, State.setPS_f_apart _ (by decide)]
    exact hfold
  · exact hfold

theorem State.partnerForgotten_kept (c : Bool) (m : Nat) : (s.partnerForgotten n c).raised = s.raised ∧
    (s.partnerForgotten n c).port m = s.port m := by
  have hraised := foldl_keeps (f := fun t : State => t.raised) (g := fun t g => t.setPS n g 0) (fun _ _ => rfl) partnerFlds s
  have hport := foldl_keeps (f := fun t : State => t.port m) (g := fun t g => t.setPS n g 0) (fun _ _ => rfl) partnerFlds s
  unfold State.partnerForgotten
  dsimp only
  split
  · rw [State.setPS, State.setF_raised, State.setF_port_of]
    exact ⟨hraised, hport⟩
  · exact ⟨hraised, hport⟩

theorem State.noteIdle_raised (src : IdleSrc) : (s.noteIdle src).raised = s.raised := by
  unfold State.noteIdle
  split
  · rfl
  · rfl

theorem State.unattachedPort_leaves : (s.unattachedPort n).conn n = cnUnattached ∧ (s.unattachedPort n).raised = s.raised ∧
    ((s.unattachedPort n).port n).detach = 0 := by
  have hport := State.port_setPort (s.unattachedShown n) n
    ((s.port n).unattached ((s.unattachedShown n).rd (R.PORT_CFG n)) (s.unattachedShown n).cyc)
  have hload := State.loadPort_cfgOnly ((s.unattachedShown n).setPort n
    ((s.port n).unattached ((s.unattachedShown n).rd (R.PORT_CFG n)) (s.unattachedShown n).cyc)) n (s.port n).recNext (by rw [hport]; rfl)
  obtain ⟨hraised, hkept⟩ := State.partnerForgotten_kept (((s.unattachedShown n).setPort n
    ((s.port n).unattached ((s.unattachedShown n).rd (R.PORT_CFG n)) (s.unattachedShown n).cyc)).loadPort n (s.port n).recNext) n
    (s.port n).configured n
  refine ⟨?_, ?_, ?_⟩
  · rw [State.unattachedPort, State.partnerForgotten_conn, hload.conn]
    exact s.unattachedShown_conn n
  · rw [State.unattachedPort, hraised, hload.raised]
    exact s.noteIdle_raised .port
  · rw [State.unattachedPort, hkept, hload.detach, hport]
    rfl

/-- What the unattached entry leaves of a port. -/
structure State.Unattached (s t : State) (n : Nat) : Prop where
  conn : t.conn n = cnUnattached
  supState : t.supState (3 + n) = supAbsent
  cable : t.rd (R.PORT_CABLE n) = 0#32
  detach : (t.port n).detach = 0
  raised : t.raised = s.raised

theorem State.enterUnattached_unattached : s.Unattached (s.enterUnattached n) n := by
  obtain ⟨hconn, hraised, hdetach⟩ := s.unattachedPort_leaves n
  have hsup : ¬ 3 + n < 3 := by omega
  have hset (t : State) : t.setSupState (3 + n) supAbsent = t.setPS n F.PORT_STATUS_SUPPLY supAbsent := by
    rw [State.setSupState, if_neg hsup, Nat.add_sub_cancel_left]
    rfl
  rw [s.enterUnattached_eq, hset]
  refine ⟨?_, ?_, ?_, hdetach, hraised⟩
  · have hsame : ∀ t : State, (((t.wrN (R.PORT_CABLE n) 0).setPS n F.PORT_STATUS_SUPPLY supAbsent).setSupply (3 + n) {}).conn n =
        ((t.wrN (R.PORT_CABLE n) 0).setPS n F.PORT_STATUS_SUPPLY supAbsent).conn n := fun _ => rfl
    rw [hsame, State.conn, State.setPS_f_apart _ (by decide), State.f, State.rd_wrN_other _ _ (by simp [R.PORT_STATUS, R.PORT_CABLE])]
    exact hconn
  · rw [State.supState_setSupply, State.supState, if_neg hsup, Nat.add_sub_cancel_left, State.setPS_f_same _ (by decide)]
    rfl
  · rw [State.setSupply_rd_of, State.setPS_rd _ (by simp [R.PORT_STATUS, R.PORT_CABLE]), State.wrN, State.rd_wr_same]

end

end Sys2Proof.Machine
end

section
/-! The reset ladder and the obligation O40 (R234, R245, R246). -/

namespace Sys2Proof.Machine

/-- What an acknowledgement leaves of a port's record. -/
theorem PortRt.unheard_kept {a b : PortRt} (h : a.unheard = b.unheard) : a.hardRecov = b.hardRecov ∧ a.bist = b.bist ∧ a.moving = b.moving ∧
    a.frs = b.frs ∧ a.frsStep = b.frsStep := by
  have hhard : a.unheard.hardRecov = b.unheard.hardRecov := congrArg PortRt.hardRecov h
  have hbist : a.unheard.bist = b.unheard.bist := congrArg PortRt.bist h
  have hmoving : a.unheard.moving = b.unheard.moving := congrArg PortRt.moving h
  have hfrs : a.unheard.frs = b.unheard.frs := congrArg PortRt.frs h
  have hstep : a.unheard.frsStep = b.unheard.frsStep := congrArg PortRt.frsStep h
  exact ⟨hhard, hbist, hmoving, hfrs, hstep⟩

section
variable {s : State} {n : Fin 3} (hl : s.live)
include hl

theorem exec_hardResetRx (ha : s.attached n = true) (hp : (s.port n).policyReady = true) :
    exec (.hardResetRx n) s = .next ((s.bump (R.PORT_CNT n) F.PORT_CNT_HARD 1).hardTold n 2).settle := by
  have hexec : exec (.hardResetRx n) s = execHardResetRx n s := rfl
  rw [hexec, execHardResetRx, State.act_on _ hl.1]
  dsimp only
  rw [if_pos ⟨ha, hp⟩]
  rfl

theorem exec_portCtrlHardReset (p : Path) (ha : s.attached n = true) :
    exec (.portCtrlHardReset p n) s = .next (s.sendHard n).settle := by
  have hexec : exec (.portCtrlHardReset p n) s = execPortCtrlHardReset p n s := rfl
  rw [hexec, execPortCtrlHardReset, State.act_on _ hl.1, if_pos ha]

theorem exec_errRecover (p : Path) : exec (.errRecover p n) s = .next ((s.enterErrorRecovery n).raise 0x72 n []).settle :=
  exec_powered (c := .errRecover p n) (g := fun s => (s.enterErrorRecovery n).raise 0x72 n []) hl rfl

omit hl in
theorem State.stopTimer_kept (s : State) (n : Nat) (t : PdTimer) : (s.stopTimer n t).attached n = s.attached n ∧
    (s.stopTimer n t).pe n = s.pe n ∧ ((s.stopTimer n t).port n).policyReady = (s.port n).policyReady ∧
    ((s.stopTimer n t).port n).hardRecov = (s.port n).hardRecov ∧ ((s.stopTimer n t).port n).frs = (s.port n).frs := by
  have hport := State.port_setPort s n { s.port n with timers := (s.port n).timers.filter (fun x => x.1 != t) }
  have hconn : (s.stopTimer n t).conn n = s.conn n := rfl
  rw [State.attached, hconn, State.stopTimer, hport]
  exact ⟨rfl, rfl, rfl, rfl, rfl⟩

/-- An unanswered Request ends in a Hard_Reset (R246). -/
theorem exec_senderResponse (ha : s.attached n = true) (hp : (s.port n).policyReady = true) (hh : (s.port n).hardRecov = false)
    (hf : (s.port n).frs = false) (hpe : s.pe n = 4) (hdue : s.timerDue n .senderResponse = true) :
    exec (.pdTimerExpiry n .senderResponse) s = .next ((s.stopTimer n .senderResponse).sendHard n).settle := by
  have hexec : exec (.pdTimerExpiry n .senderResponse) s = execPdTimerExpiry n .senderResponse s := rfl
  obtain ⟨hatt, hpe', hpol, hhard, hfrs⟩ := s.stopTimer_kept n .senderResponse
  have hready : ¬ (¬ (s.stopTimer n .senderResponse).attached n = true ∨ ¬ ((s.stopTimer n .senderResponse).port n).policyReady = true) := by
    rw [hatt, hpol, ha, hp]
    decide
  have hquiet : ¬ (((s.stopTimer n .senderResponse).port n).hardRecov = true ∨ ((s.stopTimer n .senderResponse).port n).frs = true) := by
    rw [hhard, hfrs, hh, hf]
    decide
  rw [hexec, execPdTimerExpiry, State.act_on _ hl.1]
  dsimp only
  rw [if_neg (by rw [hdue]; decide), if_neg (by decide), if_neg (by decide), if_neg hready, State.pdExpired, if_neg hquiet,
    State.senderResponse, if_pos (.inr (.inl (hpe'.trans hpe)))]

/-- The end of ErrorRecovery. -/
theorem exec_errorRecovery (hc : s.conn n = cnErrorRecovery) (hdue : s.timerDue n .errorRecovery = true) (hh : s.heldPort n = false) :
    exec (.pdTimerExpiry n .errorRecovery) s = .next ((s.stopTimer n .errorRecovery).enterUnattached n) := by
  have hexec : exec (.pdTimerExpiry n .errorRecovery) s = execPdTimerExpiry n .errorRecovery s := rfl
  have hconn : (s.stopTimer n .errorRecovery).conn n = cnErrorRecovery := hc
  have hheld : (s.stopTimer n .errorRecovery).heldPort n = false := hh
  have hquiet : ((s.stopTimer n .errorRecovery).enterUnattached n).raised = [] :=
    (State.enterUnattached_unattached _ n).raised.trans hl.2
  rw [hexec, execPdTimerExpiry, State.act_on _ hl.1]
  dsimp only
  rw [if_neg (by rw [hdue]; decide), if_pos rfl, if_neg (fun h => h hconn), if_neg (by rw [hheld]; decide), State.settle_quiet hquiet]

/-- A hold of Harrow keeps the port in ErrorRecovery. -/
theorem exec_errorRecovery_held (hc : s.conn n = cnErrorRecovery) (hdue : s.timerDue n .errorRecovery = true) (hh : s.heldPort n = true) :
    exec (.pdTimerExpiry n .errorRecovery) s = .next ((s.stopTimer n .errorRecovery).setPort n
      { (s.stopTimer n .errorRecovery).port n with recDone := true }) := by
  have hexec : exec (.pdTimerExpiry n .errorRecovery) s = execPdTimerExpiry n .errorRecovery s := rfl
  have hconn : (s.stopTimer n .errorRecovery).conn n = cnErrorRecovery := hc
  have hheld : (s.stopTimer n .errorRecovery).heldPort n = true := hh
  have hquiet : ((s.stopTimer n .errorRecovery).setPort n { (s.stopTimer n .errorRecovery).port n with recDone := true }).raised = [] := hl.2
  rw [hexec, execPdTimerExpiry, State.act_on _ hl.1]
  dsimp only
  rw [if_neg (by rw [hdue]; decide), if_pos rfl, if_neg (fun h => h hconn), if_pos hheld, State.settle_quiet hquiet]

end

/-! Messages received. -/

/-- A Soft_Reset accepted and counted, with its event (R246). -/
def State.softTaken (s : State) (n : Nat) : State :=
  ((s.pdCtl n ctlAccept).bump (R.PORT_CNT n) F.PORT_CNT_SOFT 1).portEvent n 0x0005 2 []

section
variable {s : State} {n : Fin 3} {m : PdMsg} (hl : s.live) (hr : (s.port n).hardRecov = false) (hb : (s.port n).bist = 0)
  (hsop : m.sopP = false) (hnew : (s.pdAck n false m.header).2 = true)
include hl hr hb hsop hnew

theorem exec_pdMessageRx_softReset (hc : hdrCtl m.header = true) (ht : hdrType m.header = ctlSoftReset) :
    exec (.pdMessageRx n m) s = .next (if (((s.pdAck n false m.header).1.softTaken n).port n).moving = true then
      ((s.pdAck n false m.header).1.softTaken n).sendHard n else ((s.pdAck n false m.header).1.softTaken n).restartPe n).settle := by
  have hexec : exec (.pdMessageRx n m) s = execPdMessageRx n m s := rfl
  obtain ⟨hhard, hbist, -, -, -⟩ := PortRt.unheard_kept (s.pdAck_unheard n false m.header)
  have hidle : ¬ ((!(s.pdAck n false m.header).2) = true ∨ (((s.pdAck n false m.header).1).port n).hardRecov = true ∨
      (((s.pdAck n false m.header).1).port n).bist ≠ 0) := by
    rw [hnew, hhard, hbist, hr, hb]
    decide
  rw [hexec, execPdMessageRx, State.act_on _ hl.1]
  dsimp only
  rw [hsop, if_neg (by simp), if_neg hidle, if_neg (by decide), if_pos ⟨hc, ht⟩]
  rfl

/-- Enter_USB is unsupported (R223). -/
theorem exec_pdMessageRx_enterUsb (hm : (s.port n).moving = false) (hc : hdrCtl m.header = false) (he : hdrExt m.header = false)
    (ht : hdrType m.header = datEnterUsb) :
    exec (.pdMessageRx n m) s = .next ((s.pdAck n false m.header).1.pdUnsupported n) := by
  have hexec : exec (.pdMessageRx n m) s = execPdMessageRx n m s := rfl
  obtain ⟨hhard, hbist, hmoving, -, -⟩ := PortRt.unheard_kept (s.pdAck_unheard n false m.header)
  have hidle : ¬ ((!(s.pdAck n false m.header).2) = true ∨ (((s.pdAck n false m.header).1).port n).hardRecov = true ∨
      (((s.pdAck n false m.header).1).port n).bist ≠ 0) := by
    rw [hnew, hhard, hbist, hr, hb]
    decide
  rw [hm] at hmoving
  have hquiet : ((s.pdAck n false m.header).1.pdUnsupported n).raised = [] :=
    ((State.pdUnsupported_talked _ n).raised.trans (s.pdAck_talked n false m.header).raised).trans hl.2
  rw [hexec, execPdMessageRx, State.act_on _ hl.1]
  dsimp only
  rw [hsop, if_neg (by simp), if_neg hidle, if_neg (by decide), if_neg (by simp [hc]), if_neg (by simp [hmoving]), if_neg (by simp [he]),
    if_pos (by simp [hc, he, ht]), State.settle_quiet hquiet]

end

section
variable (s : State) (n : Fin 3)

theorem State.softTaken_soft : (s.softTaken n).f (R.PORT_CNT n) F.PORT_CNT_SOFT = min (s.f (R.PORT_CNT n) F.PORT_CNT_SOFT + 1) 255 := by
  have hne : R.PORT_CNT n ≠ R.PORT_STATUS n := by simp [R.PORT_CNT, R.PORT_STATUS]
  rw [State.softTaken, State.f, State.portEvent_rd _ _ _ _ _ (by simp only [R.PORT_CNT]; omega) (by simp only [R.PORT_CNT]; omega), ← State.f,
    State.f_bump_same _ _ _ _ (by decide), (s.pdCtl_talked n ctlAccept).f hne]
  rfl

theorem State.softTaken_outbox : (s.softTaken n).outbox = s.outbox ++ [s.ctlOut n ctlAccept] := by
  rw [State.softTaken, State.portEvent_outbox, State.bump_outbox, State.pdCtl_outbox]

theorem State.softTaken_moving : ((s.softTaken n).port n).moving = (s.port n).moving := by
  rw [State.softTaken, State.portEvent_port, State.bump_port_of, State.pdCtl, State.pdSend, State.port_setPort]

end

/-- Settles O40: a Hard_Reset, received or sent, begins with the drop of the contract; the acknowledgement of a message leaves the port's
record but for its numbers. -/
theorem hardResetDropsTheContract : Obligations.HardResetDropsTheContract := by
  intro s n p hl
  have hne : R.PORT_CNT n ≠ R.PORT_STATUS n := by simp [R.PORT_CNT, R.PORT_STATUS]
  have hsignal {l : List Emit} : Emit.pdSignal n 0 ∈ l ++ [Emit.pdSignal n 0] := List.mem_append_right _ List.mem_cons_self
  refine ⟨fun ha => ⟨fun hp => ?_, ?_, fun hp hh hf hpe hdue => ?_, fun m hp hh hb hsop => ⟨fun hc ht => ?_, fun hnew hm hc he ht => ?_⟩⟩,
    ?_, fun hc hdue => ⟨fun hh => ?_, fun hh => ?_⟩⟩
  · have hreset := (s.bump (R.PORT_CNT n) F.PORT_CNT_HARD 1).hardTold_hardReset n 2
    refine ⟨_, exec_hardResetRx hl ha hp, ⟨hreset.explicit, hreset.contract, hreset.hardRecov, hreset.told⟩, ?_⟩
    dsimp only
    rw [State.f, hreset.cnt, ← State.f, State.f_bump_same _ _ _ _ (by decide)]
    rfl
  · have hsent := s.sendHard_hardSent n
    exact ⟨_, exec_portCtrlHardReset hl p ha, ⟨hsent.explicit, hsent.contract, hsent.hardRecov, hsent.told⟩, hsent.hard,
      hsent.outbox ▸ hsignal⟩
  · have hsent := (s.stopTimer n .senderResponse).sendHard_hardSent n
    exact ⟨_, exec_senderResponse hl ha hp hh hf hpe hdue, ⟨hsent.explicit, hsent.contract, hsent.hardRecov, hsent.told⟩, hsent.hard,
      hsent.outbox ▸ hsignal⟩
  · have hhears : s.hears n := ⟨ha, hp, by rw [hb]; decide⟩
    obtain ⟨hnew, hmid⟩ := s.pdAck_softReset n m.header hhears hc ht
    have hack := s.pdAck_talked n false m.header
    obtain ⟨-, -, hmoving, -, -⟩ := PortRt.unheard_kept (s.pdAck_unheard n false m.header)
    refine ⟨_, exec_pdMessageRx_softReset hl hh hb hsop hnew hc ht, ?_⟩
    have hsoft := (s.pdAck n false m.header).1.softTaken_soft n
    have hout := (s.pdAck n false m.header).1.softTaken_outbox n
    have hmove := (s.pdAck n false m.header).1.softTaken_moving n
    have hfirst : (s.pdAck n false m.header).1.ctlOut n ctlAccept ∈ ((s.pdAck n false m.header).1.softTaken n).outbox := by
      rw [hout]
      exact List.mem_append_right _ List.mem_cons_self
    rw [State.ctlOut, hmid] at hfirst
    rw [hack.f hne] at hsoft
    rw [hmove, hmoving]
    by_cases hm : (s.port n).moving = true
    · have hsent := ((s.pdAck n false m.header).1.softTaken n).sendHard_hardSent n
      rw [if_pos hm]
      refine ⟨?_, (hsent.counts _ (by decide)).trans hsoft, fun _ => ⟨⟨hsent.explicit, hsent.contract, hsent.hardRecov, hsent.told⟩, ?_⟩⟩
      · rw [hsent.outbox]
        exact List.mem_append_left _ hfirst
      · rw [hsent.outbox]
        exact hsignal
    · have hrestart := ((s.pdAck n false m.header).1.softTaken n).restartPe_talked n
      rw [if_neg hm]
      exact ⟨hrestart.outbox hfirst, (hrestart.f hne _).trans hsoft, fun h => absurd h hm⟩
  · exact ⟨_, exec_pdMessageRx_enterUsb hl hh hb hsop hnew hm hc he ht, State.pdUnsupported_outbox _ n⟩
  · have hrec := (s.enterErrorRecovery_recovering n).raise 0x72 n []
    exact ⟨_, exec_errRecover hl p, hrec.conn, hrec.explicit, List.mem_append_right _ List.mem_cons_self⟩
  · have hun := (s.stopTimer n .errorRecovery).enterUnattached_unattached n
    exact ⟨_, exec_errorRecovery hl hc hdue hh, hun.conn, hun.supState⟩
  · exact ⟨_, exec_errorRecovery_held hl hc hdue hh, hc, fun _ _ => rfl⟩

end Sys2Proof.Machine
end

section
/-! Attach and detach of a port, and the obligation O37 (R225, R226, R228, R252). -/

namespace Sys2Proof.Machine

/-! The voltage of a port. -/

section
variable (s : State) (n mv : Nat)

theorem supNo_port (n : Nat) : ¬ 3 + n < 3 ∧ 3 + n - 3 = n := by omega

theorem State.supV_port : s.supV (3 + n) = s.f (R.PORT_VBUS n) F.PORT_VBUS_V := by
  rw [State.supV, if_neg (supNo_port n).1, (supNo_port n).2]

theorem State.supV_congr {s t : State} {n : Nat} (h : t.rd (R.PORT_VBUS n) = s.rd (R.PORT_VBUS n)) : t.supV (3 + n) = s.supV (3 + n) := by
  rw [State.supV_port, State.supV_port, State.f, h, State.f]

theorem State.showSupV_port : s.showSupV (3 + n) mv = s.setF (R.PORT_VBUS n) F.PORT_VBUS_V (sat 16 mv) := by
  rw [State.showSupV, if_neg (supNo_port n).1, (supNo_port n).2]

theorem State.setSupV_supV_sat : (s.setSupV (3 + n) mv).supV (3 + n) = min mv 65535 := by
  have hsat : sat 16 mv % 2 ^ 16 = min mv 65535 := by
    rw [sat]
    omega
  rw [State.supV_port, State.f, s.setSupV_rd, s.showSupV_port, ← State.f, State.f_setF_same _ _ _ _ (by decide)]
  exact hsat

theorem State.setSupV_port_rd {o : Nat} (ho : o ≠ R.PORT_VBUS n) : (s.setSupV (3 + n) mv).rd o = s.rd o := by
  rw [s.setSupV_rd, s.showSupV_port, State.rd_setF_other _ _ _ ho]

theorem State.setSupV_raised : (s.setSupV (3 + n) mv).raised = s.raised := (s.setSupV_measured (3 + n) mv).raised

end

/-! The start of an attached port. -/

/-- `t` is `s` with the engine and the supply of a port started. -/
structure State.Started (s t : State) (n : Nat) : Prop where
  status : ∀ g : Fld, F.PORT_STATUS_PE.apart g = true → F.PORT_STATUS_SUPPLY.apart g = true →
    t.f (R.PORT_STATUS n) g = s.f (R.PORT_STATUS n) g
  vbus : t.rd (R.PORT_VBUS n) = s.rd (R.PORT_VBUS n)

section
variable (s : State) (n : Fin 3)

theorem State.setPe_started (v : Nat) : s.Started (s.setPe n v) n :=
  ⟨fun _ hg _ => State.setPe_f_apart _ hg, State.setPe_rd _ (by simp [R.PORT_VBUS, R.PORT_STATUS])⟩

theorem State.setPort_started (r : PortRt) : s.Started (s.setPort n r) n := ⟨fun _ _ _ => rfl, rfl⟩

theorem State.Started.trans {s t u : State} {n : Nat} (h : s.Started t n) (h' : t.Started u n) : s.Started u n :=
  ⟨fun g h1 h2 => (h'.status g h1 h2).trans (h.status g h1 h2), h'.vbus.trans h.vbus⟩

theorem State.sourceStart_started : s.Started (s.sourceStart n) n := (s.setPort_started n _).trans (State.setPe_started _ n _)

theorem State.setPortFloor_rd (mv : Nat) {o : Nat} (ho : portReg o) : (s.setPortFloor n mv).rd o = s.rd o := by
  refine foldl_keeps_mem (P := fun t => t.rd o) (fun k hk u => State.rd_setF_other _ _ _ ?_) s
  have hk := State.stagesOutOf_lt hk
  simp only [portReg, R.STAGE_VFLOOR] at ho ⊢
  omega

theorem State.startQualify_started : s.Started (s.startQualify (3 + n)) n := by
  have hkept := s.startQualify_portKept (x := 3 + n) (by omega)
  refine ⟨fun g _ hg => hkept.status n g hg, s.startQualify_sameRegs (3 + n) _ ?_⟩
  rw [List.mem_singleton, supReg_of_le (supNo_port n).1]
  simp only [R.PORT_VBUS, R.PORT_STATUS]
  omega

theorem State.implicitSupply_started : s.Started (s.implicitSupply n) n := by
  have hfloor (t : State) : t.Started (t.setPortFloor n 5000) n :=
    ⟨fun g _ _ => by rw [State.f, t.setPortFloor_rd n _ (portStatus_portReg n), State.f],
      t.setPortFloor_rd n _ (by simp only [portReg, R.PORT_VBUS]; omega)⟩
  exact ((s.setPort_started n _).trans (hfloor _)).trans (State.startQualify_started _ n)

theorem State.sinkStart_started : s.Started (s.sinkStart n) n := by
  unfold State.sinkStart
  split
  · exact (s.setPort_started n _).trans (State.setPe_started _ n _)
  · exact (s.setPe_started n 16).trans (State.implicitSupply_started _ n)

/-! The attach. -/

/-- The record of a port that attaches. -/
def PortRt.attached (r : PortRt) (o : AttachObs) (policy : Bool) : PortRt :=
  { r with ra := o.ra, presSrc := o.asSource, policyReady := policy, ccAt := none, timers := [] }

/-- The voltage and the record of a port that attaches. -/
def State.attachNoted (n : Nat) (o : AttachObs) : State :=
  let t := s.setSupV (3 + n) o.vbus
  t.setPort n ((t.port n).attached o (t.policyFor n))

/-- The status of a port that attaches. -/
def State.attachShown (n : Nat) (o : AttachObs) : State :=
  let t := (((s.setPS n F.PORT_STATUS_CONN (if o.asSource then cnSource else cnSink)).noteIdle .port).setPS n
    F.PORT_STATUS_PWR_ROLE (boolNat o.asSource)).setPS n F.PORT_STATUS_DATA_ROLE (boolNat o.asSource)
  (t.setPS n F.PORT_STATUS_FLIP (boolNat o.flip)).setPS n F.PORT_STATUS_TYPEC_CUR (if o.asSource then 0 else o.rp)

theorem State.attach_eq (n : Nat) (o : AttachObs) : s.attach n o =
    (if o.asSource = true then (((s.attachNoted n o).attachShown n o).portEvent n 0x0001 (if o.asSource then 2 else 1) []).sourceStart n
    else (((s.attachNoted n o).attachShown n o).portEvent n 0x0001 (if o.asSource then 2 else 1) []).sinkStart n) := rfl

theorem State.attachShown_rd (o : AttachObs) {r : Nat} (hr : r ≠ R.PORT_STATUS n) : (s.attachShown n o).rd r = s.rd r := by
  rw [State.attachShown, State.setPS_rd _ hr, State.setPS_rd _ hr, State.setPS_rd _ hr, State.setPS_rd _ hr, State.noteIdle_rd,
    State.setPS_rd _ hr]

/-- The fields of a port's status that an attach writes. -/
def Fld.outlivesAttach (g : Fld) : Bool :=
  F.PORT_STATUS_CONN.apart g && F.PORT_STATUS_PWR_ROLE.apart g && F.PORT_STATUS_DATA_ROLE.apart g && F.PORT_STATUS_FLIP.apart g &&
    F.PORT_STATUS_TYPEC_CUR.apart g

/-- What an attach shows of a port. -/
structure State.Attached (s t : State) (n : Nat) (o : AttachObs) : Prop where
  conn : t.conn n = (if o.asSource then cnSource else cnSink)
  isSrc : t.isSrc n = o.asSource
  dataRole : t.flag (R.PORT_STATUS n) F.PORT_STATUS_DATA_ROLE = o.asSource
  flip : t.flag (R.PORT_STATUS n) F.PORT_STATUS_FLIP = o.flip
  supV : t.supV (3 + n) = min o.vbus 65535
  status : ∀ g : Fld, g.outlivesAttach = true → F.PORT_STATUS_PE.apart g = true → F.PORT_STATUS_SUPPLY.apart g = true →
    t.f (R.PORT_STATUS n) g = s.f (R.PORT_STATUS n) g

theorem flag_boolNat (b : Bool) : (boolNat b % 2 ^ 1 != 0) = b := by cases b <;> rfl

theorem State.noteIdle_f (src : IdleSrc) (o : Nat) (g : Fld) : (s.noteIdle src).f o g = s.f o g := by
  rw [State.f, State.noteIdle_rd, State.f]

/-- The status of a port that attaches, as its fields read. -/
theorem State.attachShown_fields (o : AttachObs) : (s.attachShown n o).conn n = (if o.asSource then cnSource else cnSink) ∧
    (s.attachShown n o).isSrc n = o.asSource ∧ (s.attachShown n o).flag (R.PORT_STATUS n) F.PORT_STATUS_DATA_ROLE = o.asSource ∧
    (s.attachShown n o).flag (R.PORT_STATUS n) F.PORT_STATUS_FLIP = o.flip := by
  unfold State.attachShown
  refine ⟨?_, ?_, ?_, ?_⟩
  · rw [State.conn, State.setPS_f_apart _ (by decide), State.setPS_f_apart _ (by decide), State.setPS_f_apart _ (by decide),
      State.setPS_f_apart _ (by decide), State.noteIdle_f, State.setPS_f_same _ (by decide)]
    split
    · rfl
    · rfl
  · rw [State.isSrc, State.flag, State.setPS_f_apart _ (by decide), State.setPS_f_apart _ (by decide), State.setPS_f_apart _ (by decide),
      State.setPS_f_same _ (by decide)]
    exact flag_boolNat _
  · rw [State.flag, State.setPS_f_apart _ (by decide), State.setPS_f_apart _ (by decide), State.setPS_f_same _ (by decide)]
    exact flag_boolNat _
  · rw [State.flag, State.setPS_f_apart _ (by decide), State.setPS_f_same _ (by decide)]
    exact flag_boolNat _

theorem State.attachShown_other (o : AttachObs) {g : Fld} (hg : g.outlivesAttach = true) :
    (s.attachShown n o).f (R.PORT_STATUS n) g = s.f (R.PORT_STATUS n) g := by
  simp only [Fld.outlivesAttach, Bool.and_eq_true] at hg
  obtain ⟨⟨⟨⟨hconn, hpwr⟩, hdata⟩, hflip⟩, hcur⟩ := hg
  unfold State.attachShown
  rw [State.setPS_f_apart _ hcur, State.setPS_f_apart _ hflip, State.setPS_f_apart _ hdata, State.setPS_f_apart _ hpwr, State.noteIdle_f,
    State.setPS_f_apart _ hconn]

theorem State.attach_attached (o : AttachObs) : s.Attached (s.attach n o) n o := by
  have hvs : R.PORT_VBUS n ≠ R.PORT_STATUS n := by simp [R.PORT_VBUS, R.PORT_STATUS]
  have hstart : (((s.attachNoted n o).attachShown n o).portEvent n 0x0001 (if o.asSource then 2 else 1) []).Started (s.attach n o) n := by
    rw [s.attach_eq]
    split
    · exact State.sourceStart_started _ n
    · exact State.sinkStart_started _ n
  have hevent (g : Fld) (h1 : F.PORT_STATUS_PE.apart g = true) (h2 : F.PORT_STATUS_SUPPLY.apart g = true) :
      (s.attach n o).f (R.PORT_STATUS n) g = ((s.attachNoted n o).attachShown n o).f (R.PORT_STATUS n) g := by
    rw [hstart.status g h1 h2, State.f, State.portEvent_rd _ _ _ _ _ (by simp only [R.PORT_STATUS]; omega) (by simp only [R.PORT_STATUS]; omega),
      State.f]
  obtain ⟨hconn, hsrc, hdata, hflip⟩ := (s.attachNoted n o).attachShown_fields n o
  refine ⟨(hevent _ (by decide) (by decide)).trans hconn, (State.flag_congr (hevent _ (by decide) (by decide))).trans hsrc,
    (State.flag_congr (hevent _ (by decide) (by decide))).trans hdata, (State.flag_congr (hevent _ (by decide) (by decide))).trans hflip,
    ?_, fun g hg h1 h2 => ?_⟩
  · rw [State.supV_congr hstart.vbus, State.supV_congr (State.portEvent_rd _ _ _ _ _ (by simp only [R.PORT_VBUS]; omega)
      (by simp only [R.PORT_VBUS]; omega)), State.supV_congr (State.attachShown_rd _ n o hvs), ← s.setSupV_supV_sat n o.vbus]
    rfl
  · rw [hevent g h1 h2, State.attachShown_other _ n o hg, State.attachNoted, State.setPort_f_of, State.f, s.setSupV_port_rd n _ hvs.symm,
      State.f]

end

/-! CC detection. -/

section
variable {s : State} {n : Fin 3} {o : AttachObs} (hl : s.live)
include hl

/-- Before its configuration a port remembers a Source (R226). -/
theorem exec_portAttach_remembered (hc : (s.port n).configured = false) (ho : o.asSource = false) : exec (.portAttach n o) s =
    .next ((s.setSupV (3 + n) o.vbus).setPort n { (s.setSupV (3 + n) o.vbus).port n with seen := some o }) := by
  have hexec : exec (.portAttach n o) s = execPortAttach n o s := rfl
  have hquiet : ((s.setSupV (3 + n) o.vbus).setPort n { (s.setSupV (3 + n) o.vbus).port n with seen := some o }).raised = [] :=
    (s.setSupV_raised n o.vbus).trans hl.2
  rw [hexec, execPortAttach, State.act_on _ hl.1]
  dsimp only
  rw [hc, ho, if_pos (by decide), if_neg (by decide), State.settle_quiet hquiet]

/-- A configured port looks for a partner in the unattached states. -/
theorem exec_portAttach_configured (hc : (s.port n).configured = true) (hr : s.roleAllows n o.asSource = true) (hh : s.heldPort n = false)
    (h2 : s.conn n ≠ cnSink) (h4 : s.conn n ≠ cnSource) (h9 : s.conn n ≠ cnErrorRecovery) :
    exec (.portAttach n o) s = .next (s.ccPartner n o).settle := by
  have hexec : exec (.portAttach n o) s = execPortAttach n o s := rfl
  rw [hexec, execPortAttach, State.act_on _ hl.1]
  dsimp only
  rw [if_neg (fun h => h hc), if_neg (fun h => h2 h.1), if_neg]
  rw [hr, hh]
  simp [h2, h4, h9]

omit hl in
/-- The share of the DRP period that a port presents Rp, in tenths. -/
def State.drpDuty (s : State) (n : Nat) : Nat :=
  if 3 ≤ s.f (R.PORT_CFG n) F.PORT_CFG_DRP_DUTY ∧ s.f (R.PORT_CFG n) F.PORT_CFG_DRP_DUTY ≤ 7 then s.f (R.PORT_CFG n) F.PORT_CFG_DRP_DUTY else 5

omit hl in
/-- A port's presentation turned. -/
def State.presTurned (s : State) (n : Nat) : State := s.setPort n { s.port n with presSrc := !(s.port n).presSrc, toggleAt := s.cyc }

section
variable (hc : (s.port n).configured = true) (hr : s.cfgOf n F.PORT_CFG_ROLE = 3) (h0 : s.conn n = cnUnattached)
include hc hr h0

theorem exec_drpToggle_due (hat : (s.port n).toggleAt + (if (s.port n).presSrc then s.drpDuty n else 10 - s.drpDuty n) * 1500000 ≤ s.cyc) :
    exec (.drpToggle n) s = .next (s.presTurned n) := by
  have hexec : exec (.drpToggle n) s = execDrpToggle n s := rfl
  have hquiet : (s.presTurned n).raised = [] := hl.2
  rw [hexec, execDrpToggle, State.act_on _ hl.1, ← State.settle_quiet hquiet]
  dsimp only
  rw [if_pos ⟨hc, hr, h0, hat⟩]
  rfl

omit hc hr h0 in
theorem exec_drpToggle_early (hat : s.cyc < (s.port n).toggleAt + (if (s.port n).presSrc then s.drpDuty n else 10 - s.drpDuty n) * 1500000) :
    exec (.drpToggle n) s = .next s := by
  have hexec : exec (.drpToggle n) s = execDrpToggle n s := rfl
  rw [hexec, execDrpToggle, State.act_on _ hl.1]
  dsimp only
  rw [if_neg (fun h => absurd h.2.2.2 (Nat.not_le.2 hat)), State.settle_quiet hl.2]

end

end

end Sys2Proof.Machine
end

section
/-! The unattached states of a port, its detach, and the obligation O37 (R225, R226, R252). -/

namespace Sys2Proof.Machine

/-! What the CC pins show in each unattached state (the model's log 64). -/

section
variable {s : State} {n : Nat} {o : AttachObs}

/-- A port's state left for Try.SRC or Try.SNK: its presentation turned, with the two timers of the attempt. -/
def State.tries (s : State) (n : Nat) (src : Bool) (long : PdTimer) (conn : Nat) : State :=
  (((s.setPort n { s.port n with presSrc := src, ccAt := none }).startTimer n .drpTry).startTimer n long).setPS n F.PORT_STATUS_CONN conn

/-- Since when the CC pins show a partner. -/
def State.ccSeen (s : State) (n : Nat) : State := s.setPort n { s.port n with ccAt := some ((s.port n).ccAt.getD s.cyc) }

theorem State.ccPartner_unattached (hc : s.conn n = cnUnattached) (hs : (s.cfgOf n F.PORT_CFG_ROLE == 2 ||
      (s.cfgOf n F.PORT_CFG_ROLE == 3 && (s.port n).presSrc)) = o.asSource) : s.ccPartner n o =
    (s.ccSeen n).setPS n F.PORT_STATUS_CONN (if o.asSource then cnWaitSrc else cnWaitSnk) := by
  unfold State.ccPartner
  dsimp only
  rw [if_pos hc, hs, if_pos (beq_self_eq_true _)]
  rfl

section
variable (hlong : s.heldFor (s.port n).ccAt (120 * msCyc) = true)
include hlong

theorem State.ccPartner_waitSnk (hc : s.conn n = cnWaitSnk) (ho : o.asSource = false) (hv : 3670 ≤ o.vbus) : s.ccPartner n o =
    if (if s.cfgOf n F.PORT_CFG_ROLE = 3 then s.cfgOf n F.PORT_CFG_TRY else 0) = 1 then s.tries n true .tryTimeout cnTrySrc
    else s.attach n o := by
  unfold State.ccPartner
  dsimp only
  rw [hc, ho, hlong, if_neg (by decide), if_pos (by decide), if_neg (by simp [hv])]
  rfl

theorem State.ccPartner_waitSrc (hc : s.conn n = cnWaitSrc) (ho : o.asSource = true) : s.ccPartner n o =
    if (if s.cfgOf n F.PORT_CFG_ROLE = 3 then s.cfgOf n F.PORT_CFG_TRY else 0) = 2 then s.tries n false .drpTryWait cnTrySnk
    else s.attach n o := by
  unfold State.ccPartner
  dsimp only
  rw [hc, ho, hlong, if_neg (by decide), if_neg (by decide), if_pos (by decide), if_neg (by decide)]
  rfl

theorem State.ccPartner_tryWaitSnk (hc : s.conn n = cnTryWaitSnk) (ho : o.asSource = false) (hv : 3670 ≤ o.vbus) :
    s.ccPartner n o = s.attach n o := by
  unfold State.ccPartner
  dsimp only
  rw [hc, ho, hlong, if_neg (by decide), if_neg (by decide), if_neg (by decide), if_neg (by decide), if_neg (by decide), if_pos (by decide),
    if_pos (by simp [hv])]

end

theorem State.ccPartner_trySource (hc : s.conn n = cnTrySrc ∨ s.conn n = cnTryWaitSrc) (ho : o.asSource = true) :
    s.ccPartner n o = s.attach n o := by
  have hcases : s.conn n ≠ cnUnattached ∧ s.conn n ≠ cnWaitSnk ∧ s.conn n ≠ cnWaitSrc := by
    rcases hc with h | h
    · rw [h]
      decide
    · rw [h]
      decide
  obtain ⟨h0, h1, h3⟩ := hcases
  unfold State.ccPartner
  dsimp only
  rw [ho, if_neg h0, if_neg (fun h => h1 h.1), if_neg (fun h => h3 h.1), if_pos ⟨hc, rfl⟩]

theorem State.timerAt_startTimer (s : State) (n : Nat) (t : PdTimer) : (s.startTimer n t).timerAt n t = some s.cyc := by
  rw [State.timerAt, State.startTimer, State.port_setPort, List.find?_cons_of_pos (by simp)]
  rfl

theorem State.timerAt_startTimer_other (s : State) (n : Nat) {t t' : PdTimer} (h : t' ≠ t) :
    (s.startTimer n t).timerAt n t' = s.timerAt n t' := by
  have hne : ¬ (t == t') = true := fun e => h (beq_iff_eq.1 e).symm
  rw [State.timerAt, State.startTimer, State.port_setPort, List.find?_cons_of_neg (by simpa using hne), List.find?_filter]
  refine congrArg (Option.map _) (List.find?_congr fun x _ => ?_)
  by_cases hx : x.1 = t'
  · rw [hx]
    simp [h]
  · simp [hx]

theorem State.tries_leaves (s : State) (n : Nat) (src : Bool) {long : PdTimer} {conn : Nat} (hlt : conn < 16) (hne : PdTimer.drpTry ≠ long) :
    (s.tries n src long conn).conn n = conn ∧ (s.tries n src long conn).timerAt n long = some s.cyc ∧
    (s.tries n src long conn).timerAt n .drpTry = some s.cyc ∧ (s.tries n src long conn).raised = s.raised := by
  have htimer (t : State) (g : Fld) (v : Nat) (x : PdTimer) : (t.setPS n g v).timerAt n x = t.timerAt n x := rfl
  refine ⟨?_, ?_, ?_, ?_⟩
  · rw [State.tries, State.conn, State.setPS_f_same _ (by decide)]
    exact Nat.mod_eq_of_lt hlt
  · rw [State.tries, htimer, State.timerAt_startTimer]
    rfl
  · rw [State.tries, htimer, State.timerAt_startTimer_other _ _ hne, State.timerAt_startTimer]
    rfl
  · rw [State.tries, State.setPS, State.setF_raised, State.startTimer, State.setPort_raised, State.startTimer, State.setPort_raised,
      State.setPort_raised]

end

/-! Detach. -/

/-- A port whose detach is confirmed (R252). -/
def State.detached (s : State) (n : Nat) (how : Nat) : State :=
  let t := (s.portDrop n true true).vconnOff n
  t.setPort n { t.port n with detach := how, hardRecov := false, modes := [], timers := [] }

section
variable {s : State} {n : Fin 3} (hl : s.live)
include hl

theorem exec_portDetach {byVbus : Bool} (hc : (s.port n).configured = true) (ha : s.attached n = true)
    (hv : byVbus = true → s.conn n = cnSink ∧ (s.port n).hardRecov = false ∧ (s.port n).frs = false ∧
      s.heldFor (s.port n).lowAt 2000 = true) :
    exec (.portDetach n byVbus) s = .next (s.detached n (if byVbus then 2 else 1)).settle := by
  have hexec : exec (.portDetach n byVbus) s = execPortDetach n byVbus s := rfl
  have hconn : ¬ (s.conn n = cnWaitSnk ∨ s.conn n = cnWaitSrc ∨ s.conn n = cnTryWaitSnk) := by
    have hatt := ha
    simp only [State.attached, Bool.and_eq_true, Bool.or_eq_true, beq_iff_eq] at hatt
    rcases hatt.1 with h | h
    · rw [h]
      decide
    · rw [h]
      decide
  have hgo : ¬ (¬ s.attached n = true ∨ (byVbus = true ∧ (s.conn n ≠ cnSink ∨ (s.port n).hardRecov = true ∨ (s.port n).frs = true ∨
      (!s.heldFor (s.port n).lowAt 2000) = true))) := by
    rintro (h | ⟨hb, h⟩)
    · exact h ha
    · obtain ⟨h2, hh, hf, hlow⟩ := hv hb
      rw [h2, hh, hf, hlow] at h
      revert h
      decide
  rw [hexec, execPortDetach, State.act_on _ hl.1]
  dsimp only
  rw [hc, if_neg (by decide), if_neg hconn, if_neg hgo]
  rfl

theorem exec_detachDischarged (hd : (s.port n).detach ≠ 0) (hv : s.supV (3 + n) ≤ 800) :
    exec (.detachDischarged n) s = .next ((s.enterUnattached n).portEvent n 0x0002 (s.port n).detach []).settle := by
  have hexec : exec (.detachDischarged n) s = execDetachDischarged n s := rfl
  rw [hexec, execDetachDischarged, State.act_on _ hl.1, if_pos ⟨hd, hv⟩]

end

section
variable (s : State) (n : Fin 3)

theorem State.detached_leaves (how : Nat) : ((s.detached n how).port n).detach = how ∧ (s.detached n how).explicit n = false ∧
    (s.detached n how).rd (R.PORT_CONTRACT n) = 0#32 ∧ (s.detached n how).rd (R.PORT_RDO n) = 0#32 ∧
    (s.detached n how).flag (R.PORT_STATUS n) F.PORT_STATUS_VCONN_ON = false := by
  have hdrop := s.portDrop_portDropped n true true
  unfold State.detached State.vconnOff
  dsimp only
  refine ⟨?_, ?_, ?_, ?_, ?_⟩
  · rw [State.port_setPort]
  · rw [State.explicit, State.setPort_flag_of, State.setPS_flag_apart _ (by decide)]
    exact hdrop.explicit
  · rw [State.setPort_rd_of, State.setPS_rd _ (by simp [R.PORT_CONTRACT, R.PORT_STATUS]), hdrop.contract]
  · rw [State.setPort_rd_of, State.setPS_rd _ (by simp [R.PORT_RDO, R.PORT_STATUS]), hdrop.rdo]
  · rw [State.setPort_flag_of, State.flag, State.setPS_f_same _ (by decide)]
    rfl

/-- The event of an unattached entry leaves what the entry shows. -/
theorem State.Unattached.portEvent {t : State} {n : Fin 3} (h : s.Unattached t n) (code detail : Nat) (data : List Byte) :
    (t.portEvent n code detail data).conn n = cnUnattached ∧ (t.portEvent n code detail data).supState (3 + n) = supAbsent ∧
    (t.portEvent n code detail data).rd (R.PORT_CABLE n) = 0#32 ∧ ((t.portEvent n code detail data).port n).detach = 0 := by
  have hrd {o : Nat} (h1 : 0x1190 < o) (h2 : o < 0xA108) := t.portEvent_rd n code detail data h1 h2
  have hstatus := hrd (o := R.PORT_STATUS n) (by simp only [R.PORT_STATUS]; omega) (by simp only [R.PORT_STATUS]; omega)
  refine ⟨?_, ?_, ?_, ?_⟩
  · rw [State.conn, State.f, hstatus]
    exact h.conn
  · rw [State.supState_congr, h.supState]
    rw [supReg_of_le (supNo_port n).1, (supNo_port n).2, hstatus]
  · rw [hrd (by simp only [R.PORT_CABLE]; omega) (by simp only [R.PORT_CABLE]; omega), h.cable]
  · rw [State.portEvent_port, h.detach]

end

/-- Settles O37: by the unattached state of the port, and for the detach by what the drop of its contract leaves. -/
theorem attachAndDetach : Obligations.AttachAndDetach := by
  refine ⟨fun s n o hl => ⟨fun hc ho => ?_, fun hc hr hh => ?_, fun hrole hc h0 => ⟨fun hat => ?_, fun hat => ?_⟩⟩,
    fun s n byVbus hl hc => ⟨fun ha hv => ?_, fun hd hv => ?_⟩⟩
  · refine ⟨_, exec_portAttach_remembered hl hc ho, ?_, ?_, ?_⟩
    · rw [State.port_setPort]
    · exact s.setSupV_supV_sat n o.vbus
    · rw [State.conn, State.setPort_f_of, State.f, s.setSupV_port_rd n _ (by simp [R.PORT_STATUS, R.PORT_VBUS]), ← State.f, ← State.conn]
  · have hexec (h2 : s.conn n ≠ cnSink) (h4 : s.conn n ≠ cnSource) (h9 : s.conn n ≠ cnErrorRecovery) :=
      exec_portAttach_configured (o := o) hl hc hr hh h2 h4 h9
    have hatt := s.attach_attached n o
    have hall := And.intro hatt.conn (And.intro hatt.isSrc (And.intro hatt.dataRole (And.intro hatt.flip hatt.supV)))
    refine ⟨fun h0 hs => ?_, fun hlong => ⟨fun ho h3 => ⟨fun htry => ?_, fun htry => ?_⟩, fun ho hvb h1 => ⟨fun htry => ?_, fun htry => ?_⟩,
      fun ho hvb h6 => ?_⟩, fun ho h5 => ?_⟩
    · have hshow : (s.cfgOf n F.PORT_CFG_ROLE == 2 || (s.cfgOf n F.PORT_CFG_ROLE == 3 && (s.port n).presSrc)) = o.asSource := by
        rw [Bool.eq_iff_iff, ← hs]
        simp
      have hpart := State.ccPartner_unattached h0 hshow
      have hquiet : (s.ccPartner n o).raised = [] := by
        rw [hpart]
        exact hl.2
      refine ⟨s.ccPartner n o, ?_, ?_, ?_⟩
      · rw [hexec (by rw [h0]; decide) (by rw [h0]; decide) (by rw [h0]; decide), State.settle_quiet hquiet]
      · rw [hpart, State.conn, State.setPS_f_same _ (by decide)]
        split
        · rfl
        · rfl
      · rw [hpart]
        exact (State.setPort_talked s n n _).sameRegs.trans (State.setPS_talked _ n _ _).sameRegs
    · have hpart := State.ccPartner_waitSrc hlong h3 ho
      rw [if_pos htry.1, if_pos htry.2] at hpart
      obtain ⟨hconn, htimer, -, hraised⟩ := s.tries_leaves n false (long := .drpTryWait) (conn := cnTrySnk) (by decide) (by decide)
      refine ⟨_, ?_, hconn, htimer⟩
      rw [hexec (by rw [h3]; decide) (by rw [h3]; decide) (by rw [h3]; decide), hpart, State.settle_quiet (hraised.trans hl.2)]
    · have hpart := State.ccPartner_waitSrc hlong h3 ho
      rw [if_neg] at hpart
      · refine ⟨s.attach n o, ?_, hall⟩
        rw [hexec (by rw [h3]; decide) (by rw [h3]; decide) (by rw [h3]; decide), hpart]
      · split
        next h => exact fun h' => htry ⟨h, h'⟩
        · decide
    · have hpart := State.ccPartner_waitSnk hlong h1 ho hvb
      rw [if_pos htry.1, if_pos htry.2] at hpart
      obtain ⟨hconn, -, htimer, hraised⟩ := s.tries_leaves n true (long := .tryTimeout) (conn := cnTrySrc) (by decide) (by decide)
      refine ⟨_, ?_, hconn, htimer⟩
      rw [hexec (by rw [h1]; decide) (by rw [h1]; decide) (by rw [h1]; decide), hpart, State.settle_quiet (hraised.trans hl.2)]
    · have hpart := State.ccPartner_waitSnk hlong h1 ho hvb
      rw [if_neg] at hpart
      · refine ⟨s.attach n o, ?_, hall⟩
        rw [hexec (by rw [h1]; decide) (by rw [h1]; decide) (by rw [h1]; decide), hpart]
      · split
        next h => exact fun h' => htry ⟨h, h'⟩
        · decide
    · refine ⟨s.attach n o, ?_, hall⟩
      rw [hexec (by rw [h6]; decide) (by rw [h6]; decide) (by rw [h6]; decide), State.ccPartner_tryWaitSnk hlong h6 ho hvb]
    · have hne : s.conn n ≠ cnSink ∧ s.conn n ≠ cnSource ∧ s.conn n ≠ cnErrorRecovery := by
        rcases h5 with h | h
        · rw [h]
          decide
        · rw [h]
          decide
      refine ⟨s.attach n o, ?_, hall⟩
      rw [hexec hne.1 hne.2.1 hne.2.2, State.ccPartner_trySource h5 ho]
  · refine ⟨_, exec_drpToggle_due hl hc hrole h0 hat, ?_, ?_, rfl⟩
    · rw [State.presTurned, State.port_setPort]
    · rw [State.presTurned, State.port_setPort]
  · exact exec_drpToggle_early hl hat
  · exact ⟨_, exec_portDetach hl hc ha hv, s.detached_leaves n _⟩
  · exact ⟨_, exec_detachDischarged hl hd hv, (s.enterUnattached_unattached n).portEvent _ _ _ _⟩

end Sys2Proof.Machine
end

section
/-! VBUS and VCONN of a port (R227, R228, R230, R231). -/

namespace Sys2Proof.Machine

/-! VBUS seen. -/

section
variable (s : State) (n mv : Nat)

/-- A voltage is above the limit of VBUS exactly where it exceeds it in whole millivolts (R230). -/
theorem State.portOver_eq : s.portOver n mv = decide (s.portOvMv n < mv) := by
  have hdiv (v : Nat) : v * 115 < mv * 100 ↔ v * 115 / 100 < mv := (Nat.div_lt_iff_lt_mul (by decide)).symm
  unfold State.portOver State.portOvMv
  simp only [hdiv, max_lt_iff]

theorem State.setSupV_portWindows : (s.setSupV (3 + n) mv).port n = ((s.showSupV (3 + n) mv).portWindows n mv).port n := by
  rw [s.setSupV_eq, State.setSupply_port_of, State.supVShown, if_neg (supNo_port n).1, (supNo_port n).2]

theorem State.setSupV_overAt : ((s.setSupV (3 + n) mv).port n).overAt = s.holdSince (s.port n).overAt (decide (s.portOvMv n < mv)) ∧
    ((s.setSupV (3 + n) mv).port n).moving = (s.port n).moving ∧ ((s.setSupV (3 + n) mv).port n).newMv = (s.port n).newMv ∧
    ((s.setSupV (3 + n) mv).port n).detach = (s.port n).detach := by
  have hport : (s.showSupV (3 + n) mv).port n = s.port n := by rw [State.port, s.showSupV_frame, State.port]
  have hcyc : (s.showSupV (3 + n) mv).cyc = s.cyc := by rw [s.showSupV_frame]
  have hover : (s.showSupV (3 + n) mv).portOver n mv = s.portOver n mv := by
    have hcontract : (s.showSupV (3 + n) mv).contractMv n = s.contractMv n := by
      rw [State.contractMv, s.showSupV_port, State.f_setF_reg _ _ _ _ (by simp [R.PORT_CONTRACT, R.PORT_VBUS]), State.contractMv]
    rw [State.portOver, hcontract, hport, State.portOver]
  rw [s.setSupV_portWindows, State.portWindows, State.port_setPort]
  dsimp only
  rw [hover, s.portOver_eq, hport, State.holdSince, hcyc, State.holdSince]
  exact ⟨rfl, rfl, rfl, rfl⟩

theorem State.setSupV_portOvMv : (s.setSupV (3 + n) mv).portOvMv n = s.portOvMv n := by
  obtain ⟨-, hmoving, hnew, -⟩ := s.setSupV_overAt n mv
  have hcontract : (s.setSupV (3 + n) mv).contractMv n = s.contractMv n := by
    rw [State.contractMv, State.f, s.setSupV_port_rd n mv (by simp [R.PORT_CONTRACT, R.PORT_VBUS]), ← State.f, ← State.contractMv]
  rw [State.portOvMv, hcontract, hmoving, hnew, State.portOvMv]

theorem State.setSupV_attached : (s.setSupV (3 + n) mv).attached n = s.attached n := by
  obtain ⟨-, -, -, hdetach⟩ := s.setSupV_overAt n mv
  have hconn : (s.setSupV (3 + n) mv).conn n = s.conn n := by
    rw [State.conn, State.f, s.setSupV_port_rd n mv (by simp [R.PORT_STATUS, R.PORT_VBUS]), ← State.f, ← State.conn]
  rw [State.attached, hconn, hdetach, State.attached]

theorem State.setSupV_outbox : (s.setSupV (3 + n) mv).outbox = s.outbox ∧ (s.setSupV (3 + n) mv).fab = s.fab ∧
    (s.setSupV (3 + n) mv).cyc = s.cyc := by
  rw [(s.setSupV_measured (3 + n) mv).frame]
  exact ⟨rfl, rfl, rfl⟩

end

/-! A Source port proven at vSafe0V. -/

/-- The discharge output released, and step 1 of R228 done. -/
def State.dischargeDone (s : State) (n : Nat) : State := s.setPort n { s.port n with dschg := false, srcStep := 0 }

/-- What a port does once it is proven at vSafe0V (R228, R246, R250). -/
def State.safeAnswer (s : State) (n : Nat) : State :=
  if (s.port n).hardRecov = true then (s.dischargeDone n).startTimer n .srcRecover
  else if (s.port n).prSwap = true then ((s.dischargeDone n).pdCtl n ctlPsRdy).startTimer n .psSourceOn
  else (s.dischargeDone n).sourceFive n

theorem State.safeAnswer_talked (s : State) (n : Nat) : s.Talked (s.safeAnswer n) n := by
  have hdone : s.Talked (s.dischargeDone n) n := s.setPort_talked n n _
  exact (hdone.trans (State.startTimer_talked _ n _)).ite (((hdone.trans (State.pdCtl_talked _ n ctlPsRdy)).trans
    (State.startTimer_talked _ n _)).ite (hdone.trans (State.setPort_talked _ n n _)))

section
variable {s : State} {n : Fin 3} (hl : s.live)
include hl

section
variable (ha : s.attached n = true) (hstep : (s.port n).srcStep = 1) (hsafe : s.heldFor (s.port n).safeAt msCyc = true)
include ha hstep hsafe

theorem exec_vbusSafe0v : exec (.vbusSafe0v n) s = .next (s.safeAnswer n) := by
  have hexec : exec (.vbusSafe0v n) s = execVbusSafe0v n s := rfl
  rw [hexec, execVbusSafe0v, State.act_on _ hl.1]
  dsimp only
  rw [if_pos ⟨ha, hstep, hsafe⟩]
  show Host.Outcome.next (s.safeAnswer n).settle = _
  rw [State.settle_quiet ((s.safeAnswer_talked n).raised.trans hl.2)]

end

theorem exec_vbusNotSafe0v (ha : s.attached n = true) (hstep : (s.port n).srcStep = 1) (hat : (s.port n).srcAt + 650 * msCyc ≤ s.cyc) :
    exec (.vbusNotSafe0v n) s = .next ((s.enterErrorRecovery n).raise 0x73 n (faultRec (s.supV (3 + n)) 800)).settle := by
  have hexec : exec (.vbusNotSafe0v n) s = execVbusNotSafe0v n s := rfl
  rw [hexec, execVbusNotSafe0v, State.act_on _ hl.1, if_pos ⟨ha, hstep, hat⟩]

end

/-- The answers of a port at vSafe0V: its reference, its timer, its PS_RDY. -/
theorem State.sourceFive_leaves (s : State) (n : Nat) : ((s.sourceFive n).port n).refMv = 5000 ∧ ((s.sourceFive n).port n).srcStep = 3 ∧
    ((s.sourceFive n).port n).dschg = false ∧ s.PortsOnly (s.sourceFive n) := by
  rw [State.sourceFive, State.port_setPort]
  exact ⟨rfl, rfl, rfl, s.setPort_portsOnly n _⟩

theorem State.dischargeDone_timer (s : State) (n : Nat) (t : PdTimer) : ((s.dischargeDone n).startTimer n t).timerAt n t = some s.cyc ∧
    (((s.dischargeDone n).startTimer n t).port n).dschg = false ∧ s.PortsOnly ((s.dischargeDone n).startTimer n t) := by
  refine ⟨State.timerAt_startTimer _ n t, ?_, (s.setPort_portsOnly n _).trans (State.startTimer_portsOnly _ n t)⟩
  rw [State.startTimer, State.port_setPort, State.dischargeDone, State.port_setPort]

theorem State.dischargeDone_ctlOut (s : State) (n typ : Nat) : (s.dischargeDone n).ctlOut n typ = s.ctlOut n typ := by
  rw [State.ctlOut, State.dischargeDone, State.port_setPort]
  rfl

/-! A CC pin above its limit. -/

/-- The pins of a port at high impedance, with one more. -/
def ccHighAdd (h : Nat) (pin : Fin 2) : Nat := if bitsOf h pin 1 = 1 then h else h + 2 ^ pin.val

theorem bitsOf_ccHighAdd (h : Nat) (pin : Fin 2) : bitsOf (ccHighAdd h pin) pin 1 = 1 := by
  unfold ccHighAdd
  split
  next hb => exact hb
  next hb =>
    unfold bitsOf at hb ⊢
    rw [Nat.add_div_right _ (Nat.two_pow_pos _)]
    omega

/-- A port in ErrorRecovery with a pin at high impedance. -/
def State.pinOpened (s : State) (n : Nat) (pin : Fin 2) : State :=
  s.setPort n { s.port n with ccHigh := ccHighAdd (s.port n).ccHigh pin }

theorem exec_ccOv {s : State} {n : Fin 3} {mv : Nat} (hl : s.live) (pin : Fin 2) (hmv : 6000 < mv) :
    exec (.ccOv n pin mv) s = .next (((s.enterErrorRecovery n).pinOpened n pin).raise 0x79 n (faultRec mv 6000)).settle := by
  have hexec : exec (.ccOv n pin mv) s = execCcOv n pin mv s := rfl
  rw [hexec, execCcOv, State.act_on _ hl.1, if_pos hmv]
  rfl

theorem exec_ccOv_below {s : State} {n : Fin 3} {mv : Nat} (hl : s.live) (pin : Fin 2) (hmv : mv ≤ 6000) : exec (.ccOv n pin mv) s = .next s := by
  have hexec : exec (.ccOv n pin mv) s = execCcOv n pin mv s := rfl
  rw [hexec, execCcOv, State.act_on _ hl.1, if_neg (Nat.not_lt.2 hmv), State.settle_quiet hl.2]

theorem State.ccPin_open {s : State} {n : Nat} {pin : Fin 2} (hp : s.sys.power = .on) (hb : bitsOf (s.port n).ccHigh pin 1 = 1) :
    s.ccPin n pin = .open_ := by
  unfold State.ccPin
  dsimp only
  rw [if_neg (by rw [hp]; decide), if_pos (.inl hb)]

theorem State.pinOpened_bit (s : State) (n : Nat) (pin : Fin 2) : bitsOf ((s.pinOpened n pin).port n).ccHigh pin 1 = 1 := by
  rw [State.pinOpened, State.port_setPort]
  exact bitsOf_ccHighAdd _ _

/-! VBUS above its limit. -/

/-- The SERIES switch of a port opened. -/
def State.portCut (s : State) (n : Nat) : State :=
  match s.seriesOf (12 + n) with
  | some w => s.openSwitch w
  | none => s

theorem State.portCut_frame (s : State) (n : Nat) : s.portCut n = { s with regs := (s.portCut n).regs } := by
  unfold State.portCut
  split
  · rfl
  · rfl

theorem State.portCut_attached (s : State) (n : Fin 3) : (s.portCut n).attached n = s.attached n := by
  have hconn : (s.portCut n).conn n = s.conn n := by
    unfold State.portCut
    split
    next w hw =>
      have hlt := State.seriesOf_lt hw
      rw [State.conn, State.f, s.openSwitch_sameRegs w, State.conn, State.f]
      simp only [R.PORT_STATUS, R.PSW_STATUS, List.mem_singleton]
      omega
    · rfl
  have hport : (s.portCut n).port n = s.port n := by rw [State.port, s.portCut_frame, State.port]
  rw [State.attached, hconn, hport, State.attached]

section
variable {s : State} {n : Fin 3} {mv : Nat} (hl : s.live)
include hl

theorem exec_portOv (hheld : s.heldFor (s.port n).overAt 2000 = true) (hmv : s.portOvMv n < mv) : exec (.portOv n mv) s = .next
    ((if s.attached n = true then ((s.setSupV (3 + n) mv).portCut n).sendHard n else (s.setSupV (3 + n) mv).portCut n).raise 0x75 n
      (faultRec mv (s.portOvMv n))).settle := by
  have hexec : exec (.portOv n mv) s = execPortOv n mv s := rfl
  obtain ⟨hover, -, -, -⟩ := s.setSupV_overAt n mv
  obtain ⟨-, -, hcyc⟩ := s.setSupV_outbox n mv
  have hat : (s.setSupV (3 + n) mv).heldFor ((s.setSupV (3 + n) mv).port n).overAt 2000 = true := by
    cases ho : (s.port n).overAt with
    | none =>
      rw [ho] at hheld
      cases hheld
    | some t =>
      rw [ho] at hheld
      rw [hover, ho, decide_eq_true hmv]
      show decide (t + 2000 ≤ (s.setSupV (3 + n) mv).cyc) = true
      rw [hcyc]
      exact hheld
  have hatt : ((s.setSupV (3 + n) mv).portCut n).attached n = s.attached n := (State.portCut_attached _ n).trans (s.setSupV_attached n mv)
  rw [hexec, execPortOv, State.act_on _ hl.1]
  dsimp only
  rw [if_pos hat, s.setSupV_portOvMv, ← hatt]
  rfl

theorem exec_portOv_below (hmv : mv ≤ s.portOvMv n) : exec (.portOv n mv) s = .next (s.setSupV (3 + n) mv) := by
  have hexec : exec (.portOv n mv) s = execPortOv n mv s := rfl
  obtain ⟨hover, -, -, -⟩ := s.setSupV_overAt n mv
  rw [decide_eq_false (Nat.not_lt.2 hmv)] at hover
  rw [hexec, execPortOv, State.act_on _ hl.1]
  dsimp only
  rw [if_neg (by rw [hover]; exact Bool.false_ne_true), State.settle_quiet ((s.setSupV_raised n mv).trans hl.2)]

end

/-- What an over-voltage of VBUS leaves: its report, the open switch, and the Hard_Reset of an attached port. -/
theorem State.overVoltage_leaves (s : State) (n : Fin 3) (mv lim : Nat) :
    faultOf 0x75 n (faultRec mv lim) ∈ ((if s.attached n = true then ((s.setSupV (3 + n) mv).portCut n).sendHard n
      else (s.setSupV (3 + n) mv).portCut n).raise 0x75 n (faultRec mv lim)).raised ∧
    (∀ w : Fin 12, s.seriesOf (12 + n.val) = some w.val → ((if s.attached n = true then ((s.setSupV (3 + n) mv).portCut n).sendHard n
      else (s.setSupV (3 + n) mv).portCut n).raise 0x75 n (faultRec mv lim)).pswClosed w = false) ∧
    (s.attached n = true → Emit.pdSignal n 0 ∈ ((if s.attached n = true then ((s.setSupV (3 + n) mv).portCut n).sendHard n
      else (s.setSupV (3 + n) mv).portCut n).raise 0x75 n (faultRec mv lim)).outbox) := by
  have hsent := ((s.setSupV (3 + n) mv).portCut n).sendHard_hardSent n
  obtain ⟨-, hfab, -⟩ := s.setSupV_outbox n mv
  refine ⟨List.mem_append_right _ List.mem_cons_self, fun w hw => ?_, fun ha => ?_⟩
  · have hseries : (s.setSupV (3 + n) mv).seriesOf (12 + n) = some w.val := (State.seriesOf_congr hfab _).trans hw
    rw [State.pswClosed_congr (State.raise_rd_of _ _ _ _ _)]
    split
    · refine hsent.switch w ((State.seriesOf_congr ?_ _).trans hseries)
      rw [State.portCut_frame]
    · rw [State.portCut, hseries]
      exact State.openSwitch_pswClosed _ w
  · rw [if_pos ha, State.raise_outbox, hsent.outbox]
    exact List.mem_append_right _ List.mem_cons_self

/-! The VCONN limit. -/

/-- Since when the VCONN limit has acted. -/
def State.vconnNoted (s : State) (n : Nat) (acts : Bool) : State :=
  s.setPort n { s.port n with vconnAt := s.holdSince (s.port n).vconnAt acts }

theorem exec_vconnOc {s : State} {n : Fin 3} {acts : Bool} (hl : s.live)
    (hon : s.flag (R.PORT_STATUS n) F.PORT_STATUS_VCONN_ON = true) : exec (.vconnOc n acts) s = .next
    (if s.heldFor (s.holdSince (s.port n).vconnAt acts) msCyc = true then ((s.vconnNoted n acts).vconnOff n).raise 0x74 n (faultRec 400 400)
      else s.vconnNoted n acts).settle := by
  have hexec : exec (.vconnOc n acts) s = execVconnOc n acts s := rfl
  rw [hexec, execVconnOc, State.act_on _ hl.1]
  dsimp only
  rw [hon, Bool.and_true, State.port_setPort]
  simp only [true_and]
  rfl

end Sys2Proof.Machine
end

section
/-! The configuration of a port, its cable and BC 1.2, and the obligation O38 (R225, R226, R232, R233, R254). -/

namespace Sys2Proof.Machine

/-! PORT_n_CFG. -/

/-- A field of a word that the mask of PORT_n_CFG takes whole. -/
theorem getBits_cfgMask {v : Word} {lo w : Nat} (hw : lo + w ≤ 32) (hm : ∀ i, i < w → (0x00FFFF7F#32 : Word).getLsbD (lo + i) = true) :
    getBits (v &&& 0x00FFFF7F#32) lo w = getBits v lo w := by
  have h := getBits_masked_in (r := 0#32) (n := v) hw hm
  rwa [BitVec.zero_and, BitVec.zero_or] at h

section
variable (s : State) (n : Fin 3) (v : Word)

theorem State.cfgRefused_rd (t : State) (n : Nat) {o : Nat} (ho : o ≠ R.PORT_STATUS n) : (t.cfgRefused n).rd o = t.rd o :=
  State.rd_hwSet_other _ _ _ ho

theorem State.cfgRefused_f (t : State) (n : Nat) {g : Fld} (hr : F.PORT_STATUS_CFG_REFUSED.apart g = true) :
    (t.cfgRefused n).f (R.PORT_STATUS n) g = t.f (R.PORT_STATUS n) g := by
  obtain ⟨h1, h2, hd⟩ := of_decide_eq_true hr
  exact State.f_hwSet_field _ _ h1 h2 hd.symm

theorem State.cfgArmed_f {g : Fld} (ha : F.PORT_STATUS_FRS_ARMED.apart g = true) (hr : F.PORT_STATUS_CFG_REFUSED.apart g = true) :
    (s.cfgArmed n).f (R.PORT_STATUS n) g = s.f (R.PORT_STATUS n) g := by
  have harmed : (s.showArmed n).f (R.PORT_STATUS n) g = s.f (R.PORT_STATUS n) g := State.setPS_f_apart _ ha
  unfold State.cfgArmed
  dsimp only
  split
  · rw [State.cfgRefused_f _ _ hr, harmed]
  · exact harmed

theorem State.cfgRefused_flag (t : State) (n : Nat) : (t.cfgRefused n).flag (R.PORT_STATUS n) F.PORT_STATUS_CFG_REFUSED = true :=
  State.flag_hwSet_one _ _ (by decide) (by decide)

/-- A refused write stays told. -/
theorem State.cfgArmed_refused (h : s.flag (R.PORT_STATUS n) F.PORT_STATUS_CFG_REFUSED = true) :
    (s.cfgArmed n).flag (R.PORT_STATUS n) F.PORT_STATUS_CFG_REFUSED = true := by
  unfold State.cfgArmed
  dsimp only
  split
  · exact State.cfgRefused_flag _ n
  · rw [State.showArmed, State.setPS_flag_apart _ (by decide), h]

theorem State.cfgArmed_port (m : Nat) : (s.cfgArmed n).port m = s.port m := by
  unfold State.cfgArmed
  dsimp only
  split
  · rfl
  · rfl

theorem State.cfgArmed_rd {o : Nat} (ho : o ≠ R.PORT_STATUS n) : (s.cfgArmed n).rd o = s.rd o :=
  (s.cfgArmed_cfgOnly n (l := [R.PORT_STATUS n]) List.mem_cons_self).regs o fun h => ho (List.mem_singleton.1 h)

theorem State.cfgInForce_f (o : Nat) (g : Fld) : (s.cfgInForce n).f o g = s.f o g := by
  unfold State.cfgInForce
  split
  · rfl
  · rfl

theorem State.cfgInForce_rd (o : Nat) : (s.cfgInForce n).rd o = s.rd o := by
  unfold State.cfgInForce
  split
  · rfl
  · rfl

theorem State.cfgTaken_port (m : Nat) : (s.cfgTaken n v).port m = s.port m := by
  unfold State.cfgTaken
  dsimp only
  split
  · rfl
  · rfl

theorem State.cfgWritten_configured : ((s.cfgWritten n v).port n).configured = (s.port n).configured := by
  rw [State.cfgWritten, State.cfgInForce]
  split
  · rw [State.cfgTaken_port]
  · rw [State.port_setPort, State.cfgTaken_port]

/-- Unless the port is attached, the register is in force as it reads. -/
theorem State.cfgWritten_cfg (h2 : s.conn n ≠ cnSink) (h4 : s.conn n ≠ cnSource) :
    ((s.cfgWritten n v).port n).cfg = (s.cfgTaken n v).rd (R.PORT_CFG n) := by
  have hconn := (s.cfgTaken_cfgOnly n v (l := [R.PORT_CFG n, R.PORT_STATUS n]) List.mem_cons_self
    (List.mem_cons_of_mem _ List.mem_cons_self)).conn
  rw [State.cfgWritten, State.cfgInForce, hconn, if_neg (not_or.2 ⟨h2, h4⟩), State.port_setPort]

theorem State.cfgTaken_status {g : Fld} (hr : F.PORT_STATUS_CFG_REFUSED.apart g = true) :
    (s.cfgTaken n v).f (R.PORT_STATUS n) g = s.f (R.PORT_STATUS n) g := by
  have hne : R.PORT_STATUS n ≠ R.PORT_CFG n := by simp [R.PORT_CFG, R.PORT_STATUS]
  unfold State.cfgTaken
  dsimp only
  split
  · rw [State.cfgRefused_f _ _ hr, State.f_setF_reg _ _ _ _ hne, State.f_wr_reg _ _ _ hne]
  · exact State.f_wr_reg _ _ _ hne

/-- The word taken reads back in every field but POLICY. -/
theorem State.cfgTaken_f {g : Fld} (hg : F.PORT_CFG_POLICY.apart g = true) :
    (s.cfgTaken n v).f (R.PORT_CFG n) g = getBits (v &&& 0x00FFFF7F#32) g.lo g.w := by
  have hwr : (s.wr (R.PORT_CFG n) (v &&& 0x00FFFF7F#32)).f (R.PORT_CFG n) g = getBits (v &&& 0x00FFFF7F#32) g.lo g.w := by
    rw [State.f, State.rd_wr_same]
  have hne : R.PORT_CFG n ≠ R.PORT_STATUS n := by simp [R.PORT_CFG, R.PORT_STATUS]
  unfold State.cfgTaken
  dsimp only
  split
  · rw [State.f, State.cfgRefused_rd _ _ hne, ← State.f, State.f_setF_apart _ _ hg, hwr]
  · exact hwr

/-! Whether POLICY has a place. -/

theorem State.policyBad_of_autonomous (h0 : getBits v 6 1 = 0) :
    (s.wr (R.PORT_CFG n) (v &&& 0x00FFFF7F#32)).policyBad n = decide (n.val = 2) := by
  have hpol : (s.wr (R.PORT_CFG n) (v &&& 0x00FFFF7F#32)).f (R.PORT_CFG n) F.PORT_CFG_POLICY = 0 := by
    rw [State.f, State.rd_wr_same, getBits_cfgMask (by decide) (by decide)]
    exact h0
  rw [State.policyBad, if_pos hpol]

theorem State.policyBad_of_untyped (h1 : getBits v 6 1 = 1) (ht : s.pairType (getBits v F.PORT_CFG_RING.lo F.PORT_CFG_RING.w) ≠ 4) :
    (s.wr (R.PORT_CFG n) (v &&& 0x00FFFF7F#32)).policyBad n = true := by
  have hpol : (s.wr (R.PORT_CFG n) (v &&& 0x00FFFF7F#32)).f (R.PORT_CFG n) F.PORT_CFG_POLICY = 1 := by
    rw [State.f, State.rd_wr_same, getBits_cfgMask (by decide) (by decide)]
    exact h1
  have hring : (s.wr (R.PORT_CFG n) (v &&& 0x00FFFF7F#32)).pdPair n = getBits v F.PORT_CFG_RING.lo F.PORT_CFG_RING.w := by
    rw [State.pdPair, State.f, State.rd_wr_same, getBits_cfgMask (by decide) (by decide)]
  have hlt : getBits v F.PORT_CFG_RING.lo F.PORT_CFG_RING.w < 32 := getBits_lt _ _ _ (by decide)
  have hne : R.RING_CFG (getBits v F.PORT_CFG_RING.lo F.PORT_CFG_RING.w) ≠ R.PORT_CFG n := by
    simp only [R.RING_CFG, R.PORT_CFG]
    omega
  rw [State.policyBad, if_neg (by rw [hpol]; decide), State.pdTyped, hring, State.pairType, State.f_wr_reg _ _ _ hne, ← State.pairType]
  simpa using ht

theorem State.cfgTaken_of_good (hb : (s.wr (R.PORT_CFG n) (v &&& 0x00FFFF7F#32)).policyBad n = false) :
    s.cfgTaken n v = s.wr (R.PORT_CFG n) (v &&& 0x00FFFF7F#32) := by
  rw [State.cfgTaken, if_neg (by rw [hb]; decide)]

/-- A refused POLICY stays as it was, and the refusal is told. -/
theorem State.cfgTaken_of_bad (hb : (s.wr (R.PORT_CFG n) (v &&& 0x00FFFF7F#32)).policyBad n = true) :
    (s.cfgTaken n v).f (R.PORT_CFG n) F.PORT_CFG_POLICY = s.f (R.PORT_CFG n) F.PORT_CFG_POLICY ∧
    (s.cfgTaken n v).flag (R.PORT_STATUS n) F.PORT_STATUS_CFG_REFUSED = true := by
  have hne : R.PORT_CFG n ≠ R.PORT_STATUS n := by simp [R.PORT_CFG, R.PORT_STATUS]
  have hlt : s.f (R.PORT_CFG n) F.PORT_CFG_POLICY < 2 ^ 1 := getBits_lt _ _ _ (by decide)
  rw [State.cfgTaken, if_pos hb]
  refine ⟨?_, State.cfgRefused_flag _ n⟩
  rw [State.f, State.cfgRefused_rd _ _ hne, ← State.f, State.f_setF_same _ _ _ _ (by decide)]
  exact Nat.mod_eq_of_lt hlt

end

/-- A write of PORT_n_CFG that no later path's write follows. -/
theorem exec_portCfgWrite {s : State} {n : Fin 3} {p : Path} {v : Word} (hl : s.live) (hlater : s.laterWrote p (R.PORT_CFG n) = false) :
    ∃ t : State, t.live ∧ (∀ o, t.rd o = s.rd o) ∧ t.ports = s.ports ∧ t.hrw = s.hrw ∧
      exec (.portCfgWrite p n v) s = .next (t.writePortCfg n v (p == .headland)).settle := by
  have hexec : exec (.portCfgWrite p n v) s = execPortCfgWrite p n v s := rfl
  refine ⟨s.noteEvent (20 + pathRank p) (R.PORT_CFG n), hl, fun _ => rfl, rfl, rfl, ?_⟩
  rw [hexec, execPortCfgWrite, State.act_on _ hl.1, State.inOrder_of_last hlater]

section
variable (s : State) (n : Fin 3) (v : Word) (b : Bool)

/-- A write that is not Headland's first. -/
theorem State.writePortCfg_later (h : b = false ∨ (s.port n).configured = true) : s.writePortCfg n v b = (s.cfgWritten n v).cfgArmed n := by
  rw [s.writePortCfg_eq, if_neg]
  rw [s.cfgWritten_configured n v]
  rintro ⟨hb, hc⟩
  rcases h with h | h
  · rw [hb] at h
    cases h
  · exact hc h

/-- Headland's first write. -/
theorem State.writePortCfg_first (h : (s.port n).configured = false) :
    s.writePortCfg n v true = ((s.cfgWritten n v).cfgFirst n).cfgArmed n := by
  rw [s.writePortCfg_eq, if_pos]
  rw [s.cfgWritten_configured n v, h]
  exact ⟨rfl, by decide⟩

theorem State.cfgWritten_armed_cfgOnly : s.CfgOnly ((s.cfgWritten n v).cfgArmed n) n [R.PORT_CFG n, R.PORT_STATUS n] :=
  (s.cfgWritten_cfgOnly n v List.mem_cons_self (List.mem_cons_of_mem _ List.mem_cons_self)).trans
    (State.cfgArmed_cfgOnly _ n (List.mem_cons_of_mem _ List.mem_cons_self))

theorem State.cfgWritten_armed_rd : ((s.cfgWritten n v).cfgArmed n).rd (R.PORT_CFG n) = (s.cfgTaken n v).rd (R.PORT_CFG n) := by
  rw [State.cfgArmed_rd _ n (by simp [R.PORT_CFG, R.PORT_STATUS]), State.cfgWritten, State.cfgInForce_rd]

theorem State.cfgWritten_armed_refused (h : (s.cfgTaken n v).flag (R.PORT_STATUS n) F.PORT_STATUS_CFG_REFUSED = true) :
    ((s.cfgWritten n v).cfgArmed n).flag (R.PORT_STATUS n) F.PORT_STATUS_CFG_REFUSED = true := by
  refine State.cfgArmed_refused _ n ?_
  rw [State.cfgWritten, State.flag, State.cfgInForce_f]
  exact h

/-- The first write by Headland at a port that has seen the Source of an observation (R226). -/
theorem State.cfgFirst_attaches {o : AttachObs} (hs : (s.port n).seen = some o) (hheld : s.heldPort n = false)
    (h2 : s.conn n ≠ cnSink) (h4 : s.conn n ≠ cnSource)
    (hrole : getBits v F.PORT_CFG_ROLE.lo F.PORT_CFG_ROLE.w = 1 ∨ getBits v F.PORT_CFG_ROLE.lo F.PORT_CFG_ROLE.w = 3) :
    (s.cfgWritten n v).cfgFirst n = ((s.cfgWritten n v).cfgNoted n).attach n o := by
  have hmem : R.PORT_STATUS n ∈ [R.PORT_CFG n, R.PORT_STATUS n] := List.mem_cons_of_mem _ List.mem_cons_self
  have hwritten := (s.cfgWritten_cfgOnly n v List.mem_cons_self hmem).trans (State.cfgNoted_cfgOnly _ n)
  have hcfg : (((s.cfgWritten n v).cfgNoted n).port n).cfg = (s.cfgTaken n v).rd (R.PORT_CFG n) := by
    rw [State.cfgNoted, State.port_setPort, ← s.cfgWritten_cfg n v h2 h4]
  have hrole' : ((s.cfgWritten n v).cfgNoted n).cfgOf n F.PORT_CFG_ROLE = getBits v F.PORT_CFG_ROLE.lo F.PORT_CFG_ROLE.w := by
    rw [State.cfgOf, hcfg, ← State.f, s.cfgTaken_f n v (by decide), getBits_cfgMask (by decide) (by decide)]
  have hallows : ((s.cfgWritten n v).cfgNoted n).roleAllows n false = true := by
    rw [State.roleAllows, hrole']
    rcases hrole with h | h
    · rw [h]
      decide
    · rw [h]
      decide
  have hfree : ((s.cfgWritten n v).cfgNoted n).heldPort n = false := by
    rw [hwritten.frame]
    exact hheld
  rw [State.cfgFirst, hwritten.seen, hs]
  dsimp only
  rw [if_pos ⟨hallows, by rw [hfree]; decide⟩]

/-- Headland's first write attaches the port as Sink, and leaves its dead-battery flag. -/
theorem State.cfgFirst_leaves {o : AttachObs} (ho : o.asSource = false) :
    ((((s.cfgWritten n v).cfgNoted n).attach n o).cfgArmed n).conn n = cnSink ∧
    ((((s.cfgWritten n v).cfgNoted n).attach n o).cfgArmed n).flag (R.PORT_STATUS n) F.PORT_STATUS_DB =
      s.flag (R.PORT_STATUS n) F.PORT_STATUS_DB := by
  have hatt := ((s.cfgWritten n v).cfgNoted n).attach_attached n o
  constructor
  · rw [State.conn, State.cfgArmed_f _ n (by decide) (by decide), ← State.conn, hatt.conn, ho, if_neg (by decide)]
  · rw [State.flag, State.cfgArmed_f _ n (by decide) (by decide), hatt.status _ (by decide) (by decide) (by decide), State.cfgNoted,
      State.setPort_f_of, State.cfgWritten, State.cfgInForce_f, s.cfgTaken_status n v (by decide), ← State.flag]

/-- Headland's first write at a port that has seen nothing. -/
theorem State.cfgFirst_unseen_leaves (hs : (s.port n).seen = none) :
    ((((s.cfgWritten n v).cfgFirst n).cfgArmed n).port n).configured = true ∧
    (((s.cfgWritten n v).cfgFirst n).cfgArmed n).flag (R.PORT_STATUS n) F.PORT_STATUS_DB = false := by
  have hmem : R.PORT_STATUS n ∈ [R.PORT_CFG n, R.PORT_STATUS n] := List.mem_cons_of_mem _ List.mem_cons_self
  have hseen := (s.cfgWritten_cfgOnly n v List.mem_cons_self hmem).seen.trans hs
  rw [State.cfgFirst_of_unseen _ n hseen]
  constructor
  · rw [State.cfgArmed_port, State.setPS, State.setF_port_of, State.cfgNoted, State.port_setPort]
  · rw [State.flag, State.cfgArmed_f _ n (by decide) (by decide), State.setPS_f_same _ (by decide)]
    rfl

end

/-! The cable. -/

/-- Discover Identity sent to the cable (R232). -/
def State.cableAsked (s : State) (n : Nat) : State :=
  let t := s.pdSend n true datVdm 1 false (leBytes 4 0xFF008001)
  t.setPort n { t.port n with discTries := (s.port n).discTries + 1, discAt := t.cyc, lastTx := none }

section
variable {s : State} {n : Fin 3} (hl : s.live) (ha : s.attached n = true) (hp : (s.port n).policyReady = true)
  (hv : s.flag (R.PORT_STATUS n) F.PORT_STATUS_VCONN_ON = true) (hc : (s.port n).hadContract = false)
  (hr : (s.port n).hardRecov = false) (hf : s.flag (R.PORT_CABLE n) F.PORT_CABLE_FOUND = false) (ht : (s.port n).discTries < 20)
  (hat : (s.port n).discTries = 0 ∨ (s.port n).discAt + 45 * msCyc ≤ s.cyc)
include hl ha hp hv hc hr hf ht hat

theorem exec_cableDiscovery_none : exec (.cableDiscovery n none) s = .next (s.cableAsked n) := by
  have hexec : exec (.cableDiscovery n none) s = execCableDiscovery n none s := rfl
  have hasked : s.Talked (s.cableAsked n) n := (s.pdSend_talked n _ _ _ _ _).trans (State.setPort_talked _ n n _)
  rw [hexec, execCableDiscovery, State.act_on _ hl.1]
  dsimp only
  rw [if_pos ⟨ha, hp, hv, by rw [hc]; decide, by rw [hr]; decide, by rw [hf]; decide, ht, hat⟩]
  show Host.Outcome.next (s.cableAsked n).settle = _
  rw [State.settle_quiet (hasked.raised.trans hl.2)]

theorem exec_cableDiscovery_some (a : CableId) : exec (.cableDiscovery n (some a)) s =
    .next (((s.cableAsked n).pdAck n true a.header).1.wrN (R.PORT_CABLE n) (1 + 2 * boolNat a.a5 + 4 * boolNat a.epr)) := by
  have hexec : exec (.cableDiscovery n (some a)) s = execCableDiscovery n (some a) s := rfl
  have hasked : s.Talked (s.cableAsked n) n := (s.pdSend_talked n _ _ _ _ _).trans (State.setPort_talked _ n n _)
  have hack := hasked.trans ((s.cableAsked n).pdAck_talked n true a.header)
  have hquiet : (((s.cableAsked n).pdAck n true a.header).1.wrN (R.PORT_CABLE n) (1 + 2 * boolNat a.a5 + 4 * boolNat a.epr)).raised = [] :=
    hack.raised.trans hl.2
  rw [hexec, execCableDiscovery, State.act_on _ hl.1]
  dsimp only
  rw [if_pos ⟨ha, hp, hv, by rw [hc]; decide, by rw [hr]; decide, by rw [hf]; decide, ht, hat⟩]
  show Host.Outcome.next (((s.cableAsked n).pdAck n true a.header).1.wrN (R.PORT_CABLE n)
    (1 + 2 * boolNat a.a5 + 4 * boolNat a.epr)).settle = _
  rw [State.settle_quiet hquiet]

end

section
variable (s : State) (n : Fin 3)

theorem State.cableAsked_leaves : ((s.cableAsked n).port n).discTries = (s.port n).discTries + 1 ∧
    ((s.cableAsked n).port n).revP = (s.port n).revP ∧ ((s.cableAsked n).port n).policyReady = (s.port n).policyReady ∧
    ((s.cableAsked n).port n).bist = (s.port n).bist ∧ ((s.cableAsked n).port n).detach = (s.port n).detach ∧
    (∀ o, (s.cableAsked n).rd o = s.rd o) ∧
    (s.cableAsked n).outbox = s.outbox ++ [Emit.pdTx n true (s.txHeader n true datVdm (s.port n).midP 1 false) (leBytes 4 0xFF008001)] := by
  rw [State.cableAsked, State.port_setPort, State.pdSend, State.port_setPort]
  exact ⟨rfl, rfl, rfl, rfl, rfl, fun _ => rfl, rfl⟩

/-- An answer of the cable touches no register. -/
theorem State.pdAck_cable (h : Nat) : (∀ o, (s.pdAck n true h).1.rd o = s.rd o) ∧
    (((s.pdAck n true h).1).port n).discTries = (s.port n).discTries ∧
    (s.hears n → (s.port n).revP = 0 → (((s.pdAck n true h).1).port n).revP = (if 2 ≤ hdrRev h then 2 else 1)) := by
  have htries : (((s.pdAck n true h).1).port n).unheard.discTries = (s.port n).unheard.discTries :=
    congrArg PortRt.discTries (s.pdAck_unheard n true h)
  refine ⟨?_, htries, fun hh hrev => ?_⟩
  · by_cases hh : s.hears n
    · rw [s.pdAck_of_hears n true h hh]
      unfold State.revLearnt
      rw [if_pos rfl]
      split
      · exact fun _ => rfl
      · exact fun _ => rfl
    · rw [s.pdAck_of_deaf n true h hh]
      exact fun _ => rfl
  · rw [s.pdAck_of_hears n true h hh]
    unfold State.revLearnt
    rw [if_pos rfl, if_pos hrev]
    dsimp only
    rw [State.port_setPort]

end

/-! BC 1.2. -/

/-- The current that a result of BC 1.2 allows, mA. -/
def bcCurrent (r : Fin 4) : Nat := if r.val = 0 then 0 else if r.val = 1 then 500 else 1500

/-- The current of a port known to BC 1.2, with its budget where there is no contract (R254). -/
def State.bcNoted (s : State) (n : Nat) (r : Fin 4) : State :=
  let t := (s.setPS n F.PORT_STATUS_BC r).setPort n
    { s.port n with bcMa := bcCurrent r }
  if ¬ t.explicit n = true ∧ (t.port n).budget ≠ 0 then
    t.setPort n { t.port n with budget := 5 * t.implicitMa n, limit := t.implicitMa n }
  else t

theorem State.bcNoted_leaves (s : State) (n : Nat) (r : Fin 4) : (s.bcNoted n r).f (R.PORT_STATUS n) F.PORT_STATUS_BC = r ∧
    ((s.bcNoted n r).port n).bcMa = bcCurrent r := by
  have hbc : (s.setPS n F.PORT_STATUS_BC r).f (R.PORT_STATUS n) F.PORT_STATUS_BC = r := by
    rw [State.setPS_f_same _ (by decide)]
    exact Nat.mod_eq_of_lt r.isLt
  unfold State.bcNoted
  dsimp only
  split
  · rw [State.setPort_f_of, State.setPort_f_of, State.port_setPort, State.port_setPort]
    exact ⟨hbc, rfl⟩
  · rw [State.setPort_f_of, State.port_setPort]
    exact ⟨hbc, rfl⟩

theorem exec_bcDetectionDone {s : State} {n : Fin 3} (hl : s.live) (r : Fin 4) (hc : s.conn n = cnSink) (ha : s.attached n = true)
    (he : s.flag (R.PORT_CFG n) F.PORT_CFG_BC_EN = true) (h0 : s.f (R.PORT_STATUS n) F.PORT_STATUS_TYPEC_CUR = 0) :
    exec (.bcDetectionDone n r) s = .next ((s.bcNoted n r).portEvent n 0x000D r []).settle := by
  have hexec : exec (.bcDetectionDone n r) s = execBcDetectionDone n r s := rfl
  rw [hexec, execBcDetectionDone, State.act_on _ hl.1, if_pos ⟨hc, ha, he, h0⟩]
  rfl

end Sys2Proof.Machine
end

section
/-! The obligation O38 (R225–R233, R254). -/

namespace Sys2Proof.Machine

theorem State.pdSend_rd (s : State) (n : Nat) (sopP : Bool) (typ count : Nat) (ext : Bool) (wire : List Byte) (o : Nat) :
    (s.pdSend n sopP typ count ext wire).rd o = s.rd o := rfl

section
variable {s : State} {n : Fin 3} (hl : s.live)
include hl

/-- A port proven at vSafe0V: its reference at 5,000 mV, the wait of a recovery, or the PS_RDY of a swap. -/
theorem vbusSafe0v_leaves (ha : s.attached n = true) (hstep : (s.port n).srcStep = 1) (hsafe : s.heldFor (s.port n).safeAt msCyc = true) :
    ((s.port n).hardRecov = false → (s.port n).prSwap = false → ∃ t, exec (.vbusSafe0v n) s = .next t ∧
      (t.port n).refMv = 5000 ∧ (t.port n).srcStep = 3 ∧ (t.port n).dschg = false ∧ t = { s with ports := t.ports }) ∧
    ((s.port n).hardRecov = true → ∃ t, exec (.vbusSafe0v n) s = .next t ∧ t.timerAt n .srcRecover = some s.cyc ∧
      (t.port n).dschg = false ∧ t = { s with ports := t.ports }) ∧
    ((s.port n).hardRecov = false → (s.port n).prSwap = true → ∃ t, exec (.vbusSafe0v n) s = .next t ∧
      t.outbox = s.outbox ++ [s.ctlOut n ctlPsRdy] ∧ t.timerAt n .psSourceOn = some s.cyc ∧ s.sameRegs t []) := by
  have hexec := exec_vbusSafe0v hl ha hstep hsafe
  unfold State.safeAnswer at hexec
  refine ⟨fun hh hp => ?_, fun hh => ?_, fun hh hp => ?_⟩
  · rw [hh, hp, if_neg (by decide), if_neg (by decide)] at hexec
    obtain ⟨href, hsrc, hdis, hports⟩ := (s.dischargeDone n).sourceFive_leaves n
    exact ⟨_, hexec, href, hsrc, hdis, (s.setPort_portsOnly n _).trans hports⟩
  · rw [if_pos hh] at hexec
    exact ⟨_, hexec, s.dischargeDone_timer n .srcRecover⟩
  · rw [hh, hp, if_neg (by decide), if_pos rfl] at hexec
    refine ⟨_, hexec, ?_, State.timerAt_startTimer _ n _, fun o _ => ?_⟩
    · rw [State.startTimer, State.setPort_outbox, State.pdCtl_outbox, s.dischargeDone_ctlOut]
      rfl
    · rw [State.startTimer, State.setPort_rd_of, State.pdCtl, State.pdSend_rd, State.dischargeDone, State.setPort_rd_of]

/-- The VCONN limit that acts for 1 ms turns VCONN off (R231). -/
theorem vconnOc_leaves (hon : s.flag (R.PORT_STATUS n) F.PORT_STATUS_VCONN_ON = true) :
    (s.heldFor (s.port n).vconnAt msCyc = true → ∃ u : State, exec (.vconnOc n true) s = .next u.settle ∧
      u.flag (R.PORT_STATUS n) F.PORT_STATUS_VCONN_ON = false ∧ s.sameRegs u [R.PORT_STATUS n] ∧
      u.raised = [faultOf 0x74 n (faultRec 400 400)]) ∧
    ((s.port n).vconnAt = none → ∃ t, exec (.vconnOc n true) s = .next t ∧ (t.port n).vconnAt = some s.cyc ∧ s.sameRegs t []) ∧
    (∃ t, exec (.vconnOc n false) s = .next t ∧ (t.port n).vconnAt = none ∧ s.sameRegs t []) := by
  have hquiet (acts : Bool) : (s.vconnNoted n acts).raised = [] := hl.2
  have hport (acts : Bool) : ((s.vconnNoted n acts).port n).vconnAt = s.holdSince (s.port n).vconnAt acts := by
    rw [State.vconnNoted, State.port_setPort]
  refine ⟨fun hheld => ?_, fun hnone => ?_, ?_⟩
  · have hsince : s.heldFor (s.holdSince (s.port n).vconnAt true) msCyc = true := by
      cases ho : (s.port n).vconnAt with
      | none =>
        rw [ho] at hheld
        cases hheld
      | some t =>
        rw [ho] at hheld
        exact hheld
    refine ⟨_, (exec_vconnOc hl hon).trans (by rw [if_pos hsince]), ?_, fun o ho => ?_, ?_⟩
    · rw [State.raise_flag_of, State.vconnOff, State.flag, State.setPS_f_same _ (by decide)]
      rfl
    · rw [State.raise_rd_of, State.vconnOff, State.setPS_rd _ fun h => ho (List.mem_singleton.2 h)]
      rfl
    · have hoff : ((s.vconnNoted n true).vconnOff n).raised = [] := hl.2
      rw [State.raise, hoff]
      rfl
  · have hsince : ¬ s.heldFor (s.holdSince (s.port n).vconnAt true) msCyc = true := by
      rw [hnone]
      simp [State.heldFor, State.holdSince, msCyc]
    have hexec := exec_vconnOc (acts := true) hl hon
    rw [if_neg hsince, State.settle_quiet (hquiet true)] at hexec
    exact ⟨_, hexec, by rw [hport, hnone]; rfl, fun _ _ => rfl⟩
  · have hexec := exec_vconnOc (acts := false) hl hon
    have hno : ¬ s.heldFor (s.holdSince (s.port n).vconnAt false) msCyc = true := Bool.false_ne_true
    rw [if_neg hno, State.settle_quiet (hquiet false)] at hexec
    exact ⟨_, hexec, hport false, fun _ _ => rfl⟩

/-- A write of PORT_n_CFG that is not Headland's first takes the word, or keeps POLICY. -/
theorem portCfgWrite_leaves {p : Path} {v : Word} (hlater : s.laterWrote p (R.PORT_CFG n) = false)
    (hfirst : p ≠ .headland ∨ (s.port n).configured = true) :
    (n.val ≠ 2 → getBits v 6 1 = 0 → ∃ t, exec (.portCfgWrite p n v) s = .next t ∧ t.rd (R.PORT_CFG n) = v &&& 0x00FFFF7F#32 ∧
      s.sameRegs t [R.PORT_CFG n, R.PORT_STATUS n] ∧
      (s.conn n ≠ cnSink → s.conn n ≠ cnSource → (t.port n).cfg = t.rd (R.PORT_CFG n))) ∧
    ((n.val = 2 ∧ getBits v 6 1 = 0) ∨ (getBits v 6 1 = 1 ∧ s.pairType (getBits v F.PORT_CFG_RING.lo F.PORT_CFG_RING.w) ≠ 4) →
      ∃ t, exec (.portCfgWrite p n v) s = .next t ∧
        t.f (R.PORT_CFG n) F.PORT_CFG_POLICY = s.f (R.PORT_CFG n) F.PORT_CFG_POLICY ∧
        t.flag (R.PORT_STATUS n) F.PORT_STATUS_CFG_REFUSED = true) := by
  obtain ⟨b, hb, hrd, hports, -, hexec⟩ := exec_portCfgWrite (n := n) (v := v) hl hlater
  have hlast : (p == Path.headland) = false ∨ (b.port n).configured = true := by
    rcases hfirst with h | h
    · exact .inl (beq_eq_false_iff_ne.2 h)
    · refine .inr ?_
      rw [State.port, hports]
      exact h
  have honly := b.cfgWritten_armed_cfgOnly n v
  rw [b.writePortCfg_later n v _ hlast, State.settle_quiet (honly.raised.trans hb.2)] at hexec
  have hconn : b.conn n = s.conn n := by rw [State.conn, State.f, hrd, ← State.f, ← State.conn]
  refine ⟨fun hn h0 => ?_, fun hbad => ?_⟩
  · have hgood := b.cfgTaken_of_good n v (by rw [b.policyBad_of_autonomous n v h0, decide_eq_false hn])
    have hreads := b.cfgWritten_armed_rd n v
    refine ⟨_, hexec, ?_, fun o ho => (honly.regs o ho).trans (hrd o), fun h2 h4 => ?_⟩
    · rw [hreads, hgood, State.rd_wr_same]
    · rw [State.cfgArmed_port, b.cfgWritten_cfg n v (hconn ▸ h2) (hconn ▸ h4), hreads]
  · have hrefused : (b.wr (R.PORT_CFG n) (v &&& 0x00FFFF7F#32)).policyBad n = true := by
      rcases hbad with ⟨hn, h0⟩ | ⟨h1, ht⟩
      · rw [b.policyBad_of_autonomous n v h0, decide_eq_true hn]
      · refine b.policyBad_of_untyped n v h1 ?_
        rw [State.pairType, State.f, hrd]
        exact ht
    obtain ⟨hpolicy, htold⟩ := b.cfgTaken_of_bad n v hrefused
    refine ⟨_, hexec, ?_, b.cfgWritten_armed_refused n v htold⟩
    rw [State.f, b.cfgWritten_armed_rd n v, ← State.f, hpolicy, State.f, hrd, State.f]

/-- Headland's first write of PORT_n_CFG ends dead-battery Rd, or attaches the port to the Source that it has seen (R226). -/
theorem portCfgWrite_first {v : Word} (hlater : s.laterWrote .headland (R.PORT_CFG n) = false) (hc : (s.port n).configured = false)
    (h0 : s.conn n = cnUnattached) :
    ((s.port n).seen = none → ∃ t, exec (.portCfgWrite .headland n v) s = .next t ∧ (t.port n).configured = true ∧
      t.flag (R.PORT_STATUS n) F.PORT_STATUS_DB = false) ∧
    (∀ o : AttachObs, (s.port n).seen = some o → o.asSource = false → s.heldPort n = false →
      getBits v F.PORT_CFG_ROLE.lo F.PORT_CFG_ROLE.w = 1 ∨ getBits v F.PORT_CFG_ROLE.lo F.PORT_CFG_ROLE.w = 3 →
      ∃ u : State, exec (.portCfgWrite .headland n v) s = .next u.settle ∧ u.conn n = cnSink ∧
        u.flag (R.PORT_STATUS n) F.PORT_STATUS_DB = s.flag (R.PORT_STATUS n) F.PORT_STATUS_DB) := by
  obtain ⟨b, hb, hrd, hports, hhrw, hexec⟩ := exec_portCfgWrite (n := n) (v := v) hl hlater
  have hport : b.port n = s.port n := by rw [State.port, hports, State.port]
  have hstatus (g : Fld) : b.f (R.PORT_STATUS n) g = s.f (R.PORT_STATUS n) g := by rw [State.f, hrd, State.f]
  have hconn : b.conn n = cnUnattached := (hstatus _).trans h0
  refine ⟨fun hs => ?_, fun o hs ho hheld hrole => ?_⟩
  · have hseen : (b.port n).seen = none := by rw [hport, hs]
    have honly := b.writePortCfg_cfgOnly n v true (l := [R.PORT_CFG n, R.PORT_STATUS n]) List.mem_cons_self
      (List.mem_cons_of_mem _ List.mem_cons_self) hseen
    have hquiet : (b.writePortCfg n v (Path.headland == Path.headland)).raised = [] := honly.raised.trans hb.2
    rw [State.settle_quiet hquiet] at hexec
    refine ⟨_, hexec, ?_⟩
    have hfirst : b.writePortCfg n v (Path.headland == Path.headland) = _ := b.writePortCfg_first n v (by rw [hport, hc])
    rw [hfirst]
    exact b.cfgFirst_unseen_leaves n v hseen
  · have hfirst : b.writePortCfg n v (Path.headland == Path.headland) = _ := b.writePortCfg_first n v (by rw [hport, hc])
    have hfree : b.heldPort n = false := by
      rw [State.heldPort, State.holders, hhrw]
      exact hheld
    rw [hfirst, b.cfgFirst_attaches n v (by rw [hport, hs]) hfree (by rw [hconn]; decide) (by rw [hconn]; decide) hrole] at hexec
    obtain ⟨hsink, hdb⟩ := b.cfgFirst_leaves n v ho
    exact ⟨_, hexec, hsink, hdb.trans (State.flag_congr (hstatus _))⟩

end

/-- Settles O38: what ErrorRecovery and a Hard_Reset leave of the port, and for PORT_n_CFG the steps of its write. -/
theorem vbusVconnAndPortConfiguration : Obligations.VbusVconnAndPortConfiguration := by
  refine ⟨fun s n mv hl => ⟨fun ha hstep => ⟨fun hsafe => ?_, fun hat => ?_⟩, fun pin => ⟨fun hmv => ?_, fun hmv => ?_⟩,
      fun hmv hheld => ?_, fun hmv => ?_, fun hon => ?_⟩,
    fun s n p v hl => ⟨fun hlater => ⟨fun hfirst => ?_, fun hp hc h0 => ?_⟩, fun a ha hp hv hc hr hf ht hat => ⟨?_, ?_⟩,
      fun r hc ha he h0 => ?_⟩⟩
  · exact vbusSafe0v_leaves hl ha hstep hsafe
  · have hrec := (s.enterErrorRecovery_recovering n).raise 0x73 n (faultRec (s.supV (3 + n)) 800)
    exact ⟨_, exec_vbusNotSafe0v hl ha hstep hat, ⟨hrec.conn, hrec.explicit, hrec.contract, hrec.vconn⟩,
      List.mem_append_right _ List.mem_cons_self⟩
  · have hopen : s.Recovering ((s.enterErrorRecovery n).pinOpened n pin) n := (s.enterErrorRecovery_recovering n).setPort n _
    have hrec := hopen.raise 0x79 n (faultRec mv 6000)
    have hbit : bitsOf ((((s.enterErrorRecovery n).pinOpened n pin).raise 0x79 n (faultRec mv 6000)).port n).ccHigh pin 1 = 1 := by
      rw [State.raise_port_of, State.pinOpened_bit]
    exact ⟨_, exec_ccOv hl pin hmv, ⟨hrec.conn, hrec.explicit, hrec.contract, hrec.vconn⟩,
      State.ccPin_open (hrec.power.trans hl.1) hbit, hbit, List.mem_append_right _ List.mem_cons_self⟩
  · exact exec_ccOv_below hl pin hmv
  · exact ⟨_, exec_portOv hl hheld hmv, s.overVoltage_leaves n mv _⟩
  · obtain ⟨hover, -, -, -⟩ := s.setSupV_overAt n mv
    refine ⟨_, exec_portOv_below hl hmv, ?_, fun o ho => s.setSupV_port_rd n mv fun h => ho (List.mem_singleton.2 h)⟩
    rw [hover, decide_eq_false (Nat.not_lt.2 hmv)]
    rfl
  · exact vconnOc_leaves hl hon
  · exact portCfgWrite_leaves hl hlater hfirst
  · subst hp
    exact portCfgWrite_first hl hlater hc h0
  · obtain ⟨htries, hrev, hpol, hbist, hdet, hregs, hout⟩ := s.cableAsked_leaves n
    obtain ⟨hack, hacktries, hlearn⟩ := (s.cableAsked n).pdAck_cable n a.header
    refine ⟨_, exec_cableDiscovery_some hl ha hp hv hc hr hf ht hat a, ?_, fun o ho => ?_, ?_, ?_, fun hrev0 hb => ?_⟩
    · have hlt : 1 + 2 * boolNat a.a5 + 4 * boolNat a.epr < 2 ^ 32 := by
        cases a.a5 <;> cases a.epr <;> decide
      rw [State.rdN_wrN_same]
      exact Nat.mod_eq_of_lt hlt
    · rw [State.rd_wrN_other _ _ fun h => ho (List.mem_singleton.2 h), hack, hregs]
    · rw [State.wrN_port_of, hacktries, htries]
    · refine ((s.cableAsked n).pdAck_talked n true a.header).outbox ?_
      rw [hout]
      exact List.mem_append_right _ List.mem_cons_self
    · have hhears : (s.cableAsked n).hears n := by
        refine ⟨?_, hpol.trans hp, by rw [hbist]; exact hb⟩
        rw [State.attached, State.conn, State.f, hregs, hdet]
        exact ha
      rw [State.wrN_port_of, hlearn hhears (hrev.trans hrev0)]
  · obtain ⟨htries, -, -, -, -, hregs, hout⟩ := s.cableAsked_leaves n
    exact ⟨_, exec_cableDiscovery_none hl ha hp hv hc hr hf ht hat, fun o _ => hregs o, hout, htries⟩
  · obtain ⟨hbc, hma⟩ := s.bcNoted_leaves n r
    refine ⟨_, exec_bcDetectionDone hl r hc ha he h0, ?_, ?_⟩
    · rw [State.f, State.portEvent_rd _ _ _ _ _ (by simp only [R.PORT_STATUS]; omega) (by simp only [R.PORT_STATUS]; omega), ← State.f, hbc]
    · rw [State.portEvent_port, hma, bcCurrent]

end Sys2Proof.Machine
end

section
/-! A Fast Role Swap (R248, R249): its start, its stage, and how it ends. -/

namespace Sys2Proof.Machine

/-! A stage started into RUN leaves the ports. -/

section
variable (s : State)

/-- `t` differs from `s` in the free choices taken alone. -/
def State.FreeOnly (s t : State) : Prop := t = { s with free := t.free }

theorem State.FreeOnly.trans {s t u : State} (h : s.FreeOnly t) (h' : t.FreeOnly u) : s.FreeOnly u := by
  unfold State.FreeOnly at h h' ⊢
  rw [h', h]

theorem State.cmpOf_freeOnly (n num den : Nat) (up : Bool) : s.FreeOnly (s.cmpOf n num den up).2 := by
  unfold State.cmpOf
  dsimp only
  split
  · rfl
  · rfl

theorem State.modulate_freeOnly (n : Nat) (rev : Bool) (u vs : Nat) : s.FreeOnly (s.modulate n rev u vs).2.2 := by
  have htwo (a b c d : Nat) (x y : Bool) : s.FreeOnly ((s.cmpOf n a b x).2.cmpOf n c d y).2 :=
    (s.cmpOf_freeOnly n a b x).trans (State.cmpOf_freeOnly _ n c d y)
  simp only [State.modulate, apply_ite Prod.snd, ite_self]
  split
  · split
    · exact htwo _ _ _ _ _ _
    · exact htwo _ _ _ _ _ _
  · split
    · exact s.cmpOf_freeOnly n _ _ _
    · exact s.cmpOf_freeOnly n _ _ _

/-- A stage preloaded: its record, and the choices that its compare takes. -/
theorem State.preload_frame (n : Nat) : s.preload n = { s with free := (s.preload n).free, stages := (s.preload n).stages } := by
  have h := s.modulate_freeOnly n (s.stageDir n) (natOf ((s.stage n).uHist.headD 0)) (s.nodeMv (s.stSend n (s.stageDir n)))
  unfold State.preload
  dsimp only
  generalize s.modulate n (s.stageDir n) (natOf ((s.stage n).uHist.headD 0)) (s.nodeMv (s.stSend n (s.stageDir n))) = m at h
  unfold State.FreeOnly at h
  rw [State.setStage, h]

/-- The registers of a stage that starts. -/
theorem stageRegs_not_portReg {k : Nat} (hk : k < 8) : ¬ portReg (R.STAGE_STATUS k) ∧ (∀ o ∈ coefRegs k, ¬ portReg o) ∧
    ¬ portReg R.STG_ADC_LOAD := by
  refine ⟨?_, fun o ho => ?_, ?_⟩
  · simp only [portReg, R.STAGE_STATUS]
    omega
  · simp only [coefRegs, R.STAGE_LOOP_A_B, R.STAGE_LOOP_A_A, R.STAGE_LOOP_B_B0, R.STAGE_LOOP_B_B1, R.STAGE_LOOP_C_B0, R.STAGE_LOOP_C_B1,
      R.STAGE_LOOP_D_B0, R.STAGE_LOOP_D_B1, List.mem_cons, List.not_mem_nil, or_false] at ho
    unfold portReg
    omega
  · simp [portReg, R.STG_ADC_LOAD]

theorem State.setStage_portKept (k : Nat) (r : StageRt) : s.PortKept (s.setStage k r) :=
  .of_other (l := []) rfl (fun _ _ => rfl) nofun rfl (List.Subset.refl _) rfl rfl rfl

theorem State.wr_portKept {o : Nat} (v : Word) (ho : ¬ portReg o) : s.PortKept (s.wr o v) :=
  .of_other (l := [o]) rfl ((s.sameRegs_refl _).wr List.mem_cons_self v) (fun _ h => List.mem_singleton.1 h ▸ ho) rfl
    (List.Subset.refl _) rfl rfl rfl

theorem State.setF_portKept {o : Nat} (g : Fld) (v : Nat) (ho : ¬ portReg o) : s.PortKept (s.setF o g v) := s.wr_portKept _ ho

theorem State.hwSet_portKept {o : Nat} (g : Fld) (v : Nat) (ho : ¬ portReg o) : s.PortKept (s.hwSet o g v) :=
  .of_other (l := [o]) rfl ((s.sameRegs_refl _).hwSet List.mem_cons_self g v) (fun _ h => List.mem_singleton.1 h ▸ ho) rfl
    (List.Subset.refl _) rfl rfl rfl

theorem State.loadSet_portKept {k : Nat} {rev : Bool} {t : State} (hk : k < 8) (h : s.loadSet k rev = some t) : s.PortKept t := by
  obtain ⟨hstatus, hcoef, -⟩ := stageRegs_not_portReg hk
  unfold State.loadSet at h
  dsimp only at h
  split at h
  · cases h
    exact s.setStage_portKept _ _
  · obtain ⟨b, -, hb⟩ := Option.map_eq_some_iff.1 h
    cases hb
    have hload : s.PortKept (((coefRegs k).zipIdx).foldl (fun s x => s.wrN x.1 (leAt b (8 + 4 * x.2) 4)) s) :=
      State.PortKept.foldl (fun x hx u => u.wr_portKept _ (hcoef _ (List.fst_mem_of_mem_zipIdx hx))) s
    refine State.PortKept.trans ?_ (State.setStage_portKept _ _ _)
    split
    · exact hload.trans (State.hwSet_portKept _ _ _ hstatus)
    · exact hload

/-- A stage shown in RUN, before its compare is loaded. -/
def State.runShown (k : Nat) (rev : Bool) : State :=
  let t := (s.setStageState k stRun).setF (R.STAGE_STATUS k) F.STAGE_STATUS_DIR (boolNat rev)
  let t := (t.setF (R.STAGE_STATUS k) F.STAGE_STATUS_DE 1).presetHist k (t.nodeMv (t.stRecv k rev))
  t.setStage k { t.stage k with resume := 1, zeroTicks := 0, autoTurn := false, dirWant := rev }

theorem State.enterRun_eq (k : Nat) (rev : Bool) : s.enterRun k rev = ((s.runShown k rev).preload k).showLoad := rfl

theorem State.preload_portKept (k : Nat) : s.PortKept (s.preload k) := by
  have hframe := s.preload_frame k
  refine .of_other (l := []) ?_ (fun o _ => ?_) nofun ?_ ?_ ?_ ?_ ?_
  · rw [hframe]
  · rw [State.rd, hframe, State.rd]
  · rw [hframe]
  · rw [hframe]
    exact List.Subset.refl _
  · rw [hframe]
  · rw [hframe]
  · rw [hframe]

theorem State.enterRun_portKept {k : Nat} (hk : k < 8) (rev : Bool) : s.PortKept (s.enterRun k rev) := by
  obtain ⟨hstatus, -, hload⟩ := stageRegs_not_portReg hk
  have hshown : s.PortKept (s.runShown k rev) :=
    ((((s.setF_portKept F.STAGE_STATUS_STATE stRun hstatus).trans (State.setF_portKept _ F.STAGE_STATUS_DIR (boolNat rev) hstatus)).trans
      (State.setF_portKept _ F.STAGE_STATUS_DE 1 hstatus)).trans (State.setStage_portKept _ _ _)).trans (State.setStage_portKept _ _ _)
  rw [s.enterRun_eq]
  exact (hshown.trans (State.preload_portKept _ k)).trans (State.setF_portKept _ _ _ hload)

theorem State.enterRun_stageState (k : Nat) (rev : Bool) : (s.enterRun k rev).stageState k = stRun := by
  have hne : R.STAGE_STATUS k ≠ R.STG_ADC_LOAD := by
    simp only [R.STAGE_STATUS, R.STG_ADC_LOAD]
    omega
  have hpre (t : State) : (t.preload k).f (R.STAGE_STATUS k) F.STAGE_STATUS_STATE = t.f (R.STAGE_STATUS k) F.STAGE_STATUS_STATE := by
    rw [t.preload_frame]
    rfl
  rw [s.enterRun_eq, State.showLoad, State.stageState, State.f_setF_reg _ _ _ _ hne, hpre, State.runShown, State.setStage_f_of,
    State.presetHist, State.setStage_f_of, State.f_setF_apart _ _ (by decide), State.f_setF_apart _ _ (by decide), State.setStageState,
    State.f_setF_same _ _ _ _ (by decide)]
  rfl

end

end Sys2Proof.Machine
end

section
/-! The steps of a Fast Role Swap (R248, R249). -/

namespace Sys2Proof.Machine

/-! The header of a message, field by field (the model's log 20). -/

section
variable (s : State) (n : Nat) (sopP : Bool) (typ id count : Nat) (ext : Bool)

/-- The fields of a header that the port makes. -/
theorem State.txHeader_fields : hdrType (s.txHeader n sopP typ id count ext) = typ % 32 ∧
    hdrCount (s.txHeader n sopP typ id count ext) = count % 8 ∧ hdrExt (s.txHeader n sopP typ id count ext) = ext ∧
    (sopP = false → bitsOf (s.txHeader n sopP typ id count ext) 8 1 = s.f (R.PORT_STATUS n) F.PORT_STATUS_PWR_ROLE) := by
  have hd : s.f (R.PORT_STATUS n) F.PORT_STATUS_DATA_ROLE < 2 := getBits_lt _ _ _ (by decide)
  have hp : s.f (R.PORT_STATUS n) F.PORT_STATUS_PWR_ROLE < 2 := getBits_lt _ _ _ (by decide)
  have hone (c : Prop) [Decidable c] : (if c then 1 else 2) < 4 := by split <;> decide
  have hr : s.txRev n sopP < 4 := by
    unfold State.txRev
    dsimp only
    split
    · exact hone _
    · exact hone _
  have he : boolNat ext < 2 := by cases ext <;> decide
  have hext : (boolNat ext == 1) = ext := by cases ext <;> rfl
  unfold State.txHeader hdrType hdrCount hdrExt bitsOf
  dsimp only
  generalize s.f (R.PORT_STATUS n) F.PORT_STATUS_DATA_ROLE = d at hd
  generalize s.f (R.PORT_STATUS n) F.PORT_STATUS_PWR_ROLE = p at hp
  generalize s.txRev n sopP = r at hr
  have hbit : (typ % 32 + (if sopP then 0 else 32 * d + 256 * p) + 64 * r + 512 * (id % 8) + 4096 * (count % 8) + 32768 * boolNat ext) /
      2 ^ 15 % 2 ^ 1 = boolNat ext := by
    split <;> omega
  refine ⟨?_, ?_, ?_, fun hs => ?_⟩
  · split <;> omega
  · split <;> omega
  · rw [hbit, hext]
  · rw [hs, if_neg Bool.false_ne_true]
    omega

end

/-! The start. -/

/-- A port's record as its Fast Role Swap begins. -/
def PortRt.swapping (r : PortRt) (now : Nat) : PortRt := { r with
  frs := true, frsStep := 4, frsAt := now, moving := false, prSwap := false, vconnSwap := false, ownMsg := none, hostWait := none,
  refMv := 5000, budget := 0, timers := [] }

/-- The supply and the stages of a port released by the FRS signal. -/
def State.frsReleased (s : State) (n : Nat) : State :=
  ((s.loseSupply (3 + n) supLost false).stagesOutOf (12 + n)).foldl (fun s j =>
    (if s.stageRuns j then s.stopStage j stReady else s).wrN (R.STAGE_CEIL j) 0) (s.loseSupply (3 + n) supLost false)

theorem State.frsBegin_eq (s : State) (n : Nat) : s.frsBegin n =
    (((s.frsReleased n).setPort n (((s.frsReleased n).port n).swapping (s.frsReleased n).cyc)).setPS n F.PORT_STATUS_FRS_ARMED 0).trigReval
      0x0002 := rfl

section
variable (s : State) (n : Fin 3)

theorem State.frsBegin_port : ((s.frsBegin n).port n).frs = true ∧ ((s.frsBegin n).port n).frsStep = 4 ∧ ((s.frsBegin n).port n).refMv = 5000 := by
  have hport : (s.frsBegin n).port n = ((s.frsReleased n).port n).swapping (s.frsReleased n).cyc := by
    rw [s.frsBegin_eq]
    exact State.port_setPort _ _ _
  rw [hport]
  exact ⟨rfl, rfl, rfl⟩

/-- A port whose other registers and records are kept makes the same messages. -/
theorem State.PortKept.ctlOut {s t : State} {n : Fin 3} (h : s.PortKept t) (typ : Nat) : t.ctlOut n typ = s.ctlOut n typ := by
  have hmid : ((t.port n).steady).mid = ((s.port n).steady).mid := congrArg PortRt.mid (h.port n)
  have hmid : (t.port n).mid = (s.port n).mid := hmid
  rw [State.ctlOut, State.txHeader, State.txRev, hmid, h.status n _ (by decide), h.status n _ (by decide), h.status n _ (by decide)]
  rfl

/-- What a port keeps of its Fast Role Swap. -/
theorem State.PortKept.frs {s t : State} {n : Fin 3} (h : s.PortKept t) : (t.port n).frs = (s.port n).frs ∧
    (t.port n).frsStep = (s.port n).frsStep ∧ (t.port n).refMv = (s.port n).refMv := by
  have hfrs : ((t.port n).steady).frs = ((s.port n).steady).frs := congrArg PortRt.frs (h.port n)
  have hstep : ((t.port n).steady).frsStep = ((s.port n).steady).frsStep := congrArg PortRt.frsStep (h.port n)
  have href : ((t.port n).steady).refMv = ((s.port n).steady).refMv := congrArg PortRt.refMv (h.port n)
  exact ⟨hfrs, hstep, href⟩

theorem State.pdCtl_frs (typ : Nat) : ((s.pdCtl n typ).port n).frs = (s.port n).frs ∧
    ((s.pdCtl n typ).port n).frsStep = (s.port n).frsStep ∧ ((s.pdCtl n typ).port n).refMv = (s.port n).refMv := by
  rw [State.pdCtl, State.pdSend, State.port_setPort]
  exact ⟨rfl, rfl, rfl⟩

theorem State.frsStage_lt (s : State) (n : Nat) : s.frsStage n < 8 := getBits_lt _ _ _ (by decide)

end

section
variable {s : State} {n : Fin 3} (hl : s.live) (ha : s.attached n = true)
  (harm : s.flag (R.PORT_STATUS n) F.PORT_STATUS_FRS_ARMED = true)
include hl ha harm

/-- The stage of an armed port starts: FR_Swap goes out. -/
theorem exec_frsSignal_started (hm : (s.frsBegin n).mayStart (s.frsStage n) = true) (hbad : (s.frsBegin n).startBad (s.frsStage n) false = none)
    {t : State} (hset : (s.frsBegin n).loadSet (s.frsStage n) false = some t) :
    exec (.frsSignal n) s = .next ((t.enterRun (s.frsStage n) false).pdCtl n ctlFrSwap).settle := by
  have hexec : exec (.frsSignal n) s = execFrsSignal n s := rfl
  have hgo : (s.frsBegin n).leaveReady (s.frsStage n) false (fun s' => s'.enterRun (s.frsStage n) false) =
      t.enterRun (s.frsStage n) false := by rw [State.leaveReady, hbad, hset]
  have hruns : (t.enterRun (s.frsStage n) false).stageRuns (s.frsStage n) = true := by
    rw [State.stageRuns, State.enterRun_stageState]
    rfl
  rw [hexec, execFrsSignal, State.act_on _ hl.1]
  dsimp only
  rw [if_neg (by rw [ha, harm]; decide), if_pos hm, hgo, if_pos hruns]

/-- The stage does not run: step 2 fails. -/
theorem exec_frsSignal_failed (hm : (s.frsBegin n).mayStart (s.frsStage n) = false) (hr : (s.frsBegin n).stageRuns (s.frsStage n) = false) :
    exec (.frsSignal n) s = .next ((s.frsBegin n).frsFailed n 2).settle := by
  have hexec : exec (.frsSignal n) s = execFrsSignal n s := rfl
  rw [hexec, execFrsSignal, State.act_on _ hl.1]
  dsimp only
  rw [if_neg (by rw [ha, harm]; decide), hm, if_neg Bool.false_ne_true, hr, if_neg Bool.false_ne_true]

end

/-! The end. -/

/-- What a failed step leaves: ErrorRecovery and the report of the step (R249). -/
theorem State.frsFailed_leaves (s : State) (n : Fin 3) (step : Nat) : (s.frsFailed n step).conn n = cnErrorRecovery ∧
    faultOf 0x77 n (leBytes 4 step) ∈ (s.frsFailed n step).raised := by
  have hrec := ((s.portEvent n 0x0007 step []).enterErrorRecovery_recovering n).raise 0x77 n (leBytes 4 step)
  exact ⟨hrec.conn, List.mem_append_right _ List.mem_cons_self⟩

theorem exec_frsFail {s : State} {n : Fin 3} (hl : s.live) (hf : (s.port n).frs = true)
    (hat : s.stageRuns (s.frsStage n) = false ∨ (s.port n).frsAt + 27 * msCyc ≤ s.cyc) :
    exec (.frsFail n) s = .next (s.frsFailed n (if s.stageRuns (s.frsStage n) then 5 else 2)).settle := by
  have hexec : exec (.frsFail n) s = execFrsFail n s := rfl
  rw [hexec, execFrsFail, State.act_on _ hl.1]
  dsimp only
  rw [if_pos ⟨hf, by simpa using hat⟩]

/-- The port's roles as the new Source. -/
def State.frsRoles (s : State) (n : Nat) : State :=
  ((s.setPS n F.PORT_STATUS_CONN cnSource).setPS n F.PORT_STATUS_PWR_ROLE 1).setPS n F.PORT_STATUS_DB 0

/-- The swap's contract gone, and its record. -/
def State.frsClosed (s : State) (n : Nat) : State :=
  let t := ((s.setPS n F.PORT_STATUS_EXPLICIT 0).wrN (R.PORT_CONTRACT n) 0).wrN (R.PORT_RDO n) 0
  t.setPort n { t.port n with frs := false, frsStep := 0, limit := 0, presSrc := true }

/-- The end of a swap: the roles, PS_RDY, the contract and the supply. -/
def State.frsEnd (s : State) (n : Nat) : State :=
  ((((s.frsRoles n).pdCtl n ctlPsRdy).frsClosed n).setSupState (3 + n) supAbsent).portEvent n 0x0006 0 []

theorem exec_frsDone {s : State} {n : Fin 3} {h : Nat} (hl : s.live) (hf : (s.port n).frs = true) (hstep : (s.port n).frsStep = 5)
    (hnew : (s.pdAck n false h).2 = true) : exec (.frsDone n h) s = .next ((s.pdAck n false h).1.frsEnd n).settle := by
  have hexec : exec (.frsDone n h) s = execFrsDone n h s := rfl
  obtain ⟨-, -, -, hfrs, hstep'⟩ := PortRt.unheard_kept (s.pdAck_unheard n false h)
  rw [hexec, execFrsDone, State.act_on _ hl.1]
  dsimp only
  rw [if_pos ⟨hnew, hfrs.trans hf, hstep'.trans hstep⟩]
  rfl

section
variable (s : State) (n : Fin 3)

theorem State.frsRoles_fields : (s.frsRoles n).conn n = cnSource ∧ (s.frsRoles n).f (R.PORT_STATUS n) F.PORT_STATUS_PWR_ROLE = 1 := by
  unfold State.frsRoles
  constructor
  · rw [State.conn, State.setPS_f_apart _ (by decide), State.setPS_f_apart _ (by decide), State.setPS_f_same _ (by decide)]
    rfl
  · rw [State.setPS_f_apart _ (by decide), State.setPS_f_same _ (by decide)]
    rfl

theorem State.frsClosed_f {g : Fld} (hg : F.PORT_STATUS_EXPLICIT.apart g = true) :
    (s.frsClosed n).f (R.PORT_STATUS n) g = s.f (R.PORT_STATUS n) g := by
  rw [State.frsClosed, State.setPort_f_of, State.f, State.rd_wrN_other _ _ (by simp [R.PORT_STATUS, R.PORT_RDO]),
    State.rd_wrN_other _ _ (by simp [R.PORT_STATUS, R.PORT_CONTRACT]), ← State.f, State.setPS_f_apart _ hg]

theorem State.frsClosed_explicit : (s.frsClosed n).explicit n = false := by
  rw [State.explicit, State.frsClosed, State.setPort_flag_of, State.flag, State.f, State.rd_wrN_other _ _ (by simp [R.PORT_STATUS, R.PORT_RDO]),
    State.rd_wrN_other _ _ (by simp [R.PORT_STATUS, R.PORT_CONTRACT]), ← State.f, State.setPS_f_same _ (by decide)]
  rfl

/-- The last steps of a swap leave the port's roles. -/
theorem State.supplyGone_f {g : Fld} (hg : F.PORT_STATUS_SUPPLY.apart g = true) :
    ((s.setSupState (3 + n) supAbsent).portEvent n 0x0006 0 []).f (R.PORT_STATUS n) g = s.f (R.PORT_STATUS n) g := by
  rw [State.f, State.portEvent_rd _ _ _ _ _ (by simp only [R.PORT_STATUS]; omega) (by simp only [R.PORT_STATUS]; omega), ← State.f]
  exact (s.setSupState_portKept (x := 3 + n) (by omega) supAbsent).status n g hg

theorem State.frsEnd_leaves : (s.frsEnd n).conn n = cnSource ∧ (s.frsEnd n).isSrc n = true ∧ (s.frsEnd n).explicit n = false ∧
    ((s.frsEnd n).port n).frs = false ∧ (s.frsRoles n).ctlOut n ctlPsRdy ∈ (s.frsEnd n).outbox := by
  obtain ⟨hconn, hpwr⟩ := s.frsRoles_fields n
  have hport : 3 + n.val < 6 := by omega
  have hsent (g : Fld) : ((s.frsRoles n).pdCtl n ctlPsRdy).f (R.PORT_STATUS n) g = (s.frsRoles n).f (R.PORT_STATUS n) g := rfl
  have hrole (g : Fld) (h1 : F.PORT_STATUS_SUPPLY.apart g = true) (h2 : F.PORT_STATUS_EXPLICIT.apart g = true) :
      (s.frsEnd n).f (R.PORT_STATUS n) g = (s.frsRoles n).f (R.PORT_STATUS n) g := by
    rw [State.frsEnd, State.supplyGone_f _ n h1, State.frsClosed_f _ n h2, hsent]
  refine ⟨(hrole _ (by decide) (by decide)).trans hconn, ?_, ?_, ?_, ?_⟩
  · rw [State.isSrc, State.flag, hrole _ (by decide) (by decide), hpwr]
    rfl
  · rw [State.explicit, State.flag, State.frsEnd, State.supplyGone_f _ n (by decide)]
    exact State.frsClosed_explicit _ n
  · rw [State.frsEnd, State.portEvent_port, (State.setSupState_portKept _ hport supAbsent).frs.1, State.frsClosed, State.port_setPort]
  · rw [State.frsEnd, State.portEvent_outbox, (State.setSupState_portKept _ hport supAbsent).outbox]
    exact List.mem_append_right _ List.mem_cons_self

end

end Sys2Proof.Machine
end

section
/-! What a port does under a contract, and the obligation O41 (R238, R243, R248–R250). -/

namespace Sys2Proof.Machine

/-- The time of a Request noted. -/
def State.reqTimed (s : State) (n : Nat) : State := s.setPort n { s.port n with reqAt := s.cyc }

theorem State.reqTimed_port (s : State) (n : Nat) : (s.reqTimed n).port n = { s.port n with reqAt := s.cyc } := State.port_setPort _ _ _

theorem State.reqTimed_dataOut (s : State) (n typ : Nat) (data : List Byte) : (s.reqTimed n).dataOut n typ data = s.dataOut n typ data := by
  rw [State.dataOut, State.txHeader, State.txRev, s.reqTimed_port]
  rfl

/-- EPR_KeepAlive is one chunk of two bytes. -/
theorem State.pdExt_keepAlive (s : State) (n : Nat) : s.pdExt n false 16 [3#8, 0#8] = s.pdSend n false 16 1 true (leBytes 2 0x8002 ++ [3#8, 0#8]) := rfl

section
variable {s : State} {n : Fin 3} (hl : s.live) (ha : s.attached n = true)
include hl ha

/-- The last Request repeated (R243). -/
theorem ppsRequestRepeat_leaves (hc : s.conn n = cnSink) (he : s.explicit n = true) (hp : (s.port n).pps = true)
    (hm : (s.port n).moving = false) (hat : (s.port n).reqAt + 8000 * msCyc ≤ s.cyc) : ∃ t, exec (.ppsRequestRepeat n) s = .next t ∧
      s.sameRegs t [] ∧ t.outbox = s.outbox ++ [s.dataOut n datRequest (leBytes 4 (s.port n).reqRdo)] := by
  have hexec : exec (.ppsRequestRepeat n) s = execPpsRequestRepeat n s := rfl
  have hmade : exec (.ppsRequestRepeat n) s =
      .next ((((s.reqTimed n).pdData n datRequest (leBytes 4 (s.port n).reqRdo)).ownSent n ownRequest).settle) := by
    rw [hexec, execPpsRequestRepeat, State.act_on _ hl.1, if_pos ⟨hc, ha, he, hp, by rw [hm]; decide, hat⟩]
    rfl
  have hsent := ((s.reqTimed n).pdData_talked n datRequest (leBytes 4 (s.port n).reqRdo)).trans
    (State.ownSent_talked _ n ownRequest)
  rw [hmade, State.settle_quiet (hsent.raised.trans hl.2)]
  refine ⟨_, rfl, fun o _ => ?_, ?_⟩
  · rw [State.ownSent, State.startTimer, State.setPort_rd_of, State.setPort_rd_of, State.pdData, State.pdSend_rd, State.reqTimed,
      State.setPort_rd_of]
  · rw [State.ownSent, State.startTimer, State.setPort_outbox, State.setPort_outbox, State.pdData_outbox, s.reqTimed_dataOut]
    rfl

/-- EPR_KeepAlive (R243). -/
theorem eprKeepalive_leaves (hc : s.conn n = cnSink) (he : s.flag (R.PORT_STATUS n) F.PORT_STATUS_EPR = true)
    (hat : (s.port n).txAt + 375 * msCyc ≤ s.cyc) : ∃ t, exec (.eprKeepalive n) s = .next t ∧ s.sameRegs t [] ∧
      t.outbox = s.outbox ++ [.pdTx n false (s.txHeader n false 16 (s.port n).mid 1 true) (leBytes 2 0x8002 ++ [3#8, 0#8])] := by
  have hexec : exec (.eprKeepalive n) s = execEprKeepalive n s := rfl
  rw [hexec, execEprKeepalive, State.act_on _ hl.1, if_pos ⟨hc, ha, he, hat⟩, State.pdExt_keepAlive]
  exact ⟨_, congrArg Host.Outcome.next (State.settle_quiet hl.2), fun o _ => State.pdSend_rd _ _ _ _ _ _ _ _, rfl⟩

/-- An accepted PR_Swap drops the contract (R250). -/
theorem prSwap_leaves (hown : (s.port n).ownMsg = some ownSwapTaken) : ∃ u : State, exec (.prSwap n) s = .next u.settle ∧
    (u.port n).prSwap = true ∧ u.explicit n = false ∧ u.rd (R.PORT_CONTRACT n) = 0#32 ∧
    (if s.isSrc n then (u.port n).srcStep = 1 else u.timerAt n .psSourceOff = some s.cyc) := by
  have hexec : exec (.prSwap n) s = execPrSwap n s := rfl
  have hdrop := s.portDrop_portDropped n true (s.isSrc n)
  rw [hexec, execPrSwap, State.act_on _ hl.1, if_pos ⟨ha, hown⟩]
  dsimp only
  generalize s.portDrop n true (s.isSrc n) = t at hdrop
  cases hs : s.isSrc n with
  | true =>
    refine ⟨_, by rw [if_pos rfl], ?_, ?_, ?_, ?_⟩
    · rw [State.port_setPort]
    · exact hdrop.explicit
    · exact hdrop.contract
    · rw [if_pos rfl, State.port_setPort]
      rfl
  | false =>
    refine ⟨_, by rw [if_neg Bool.false_ne_true], ?_, ?_, ?_, ?_⟩
    · rw [State.startTimer, State.port_setPort, State.port_setPort]
    · exact hdrop.explicit
    · exact hdrop.contract
    · rw [if_neg Bool.false_ne_true, State.timerAt_startTimer, State.setPort_cyc, hdrop.cyc]

end

/-- The answer for a host policy that is late (R238). -/
def State.answerLate (s : State) (n h : Nat) : State :=
  let request := !hdrCtl h && !hdrExt h && (hdrType h == datRequest || hdrType h == datEprRequest)
  if request || isSwap h then s.pdCtl n (if s.rev3 n then ctlWait else ctlReject) else s.pdUnsupported n

theorem State.answerLate_talked (s : State) (n h : Nat) : s.Talked (s.answerLate n h) n :=
  (s.pdCtl_talked n _).ite (s.pdUnsupported_talked n)

theorem State.answerLate_swap (s : State) (n : Nat) {h : Nat} (hs : isSwap h = true) :
    s.ctlOut n (if s.rev3 n then ctlWait else ctlReject) ∈ (s.answerLate n h).outbox := by
  rw [State.answerLate, hs, Bool.or_true, if_pos rfl, State.pdCtl_outbox]
  exact List.mem_append_right _ List.mem_cons_self

/-- A late host policy counted and told. -/
def State.lateTold (s : State) (n h : Nat) : State :=
  (((s.setPort n { s.port n with hostWait := none, lateTo := some h }).bump (R.PORT_CNT n) F.PORT_CNT_LATE 1).portEvent n 0x0009 0
    (leBytes 2 h)).raise 0x7A n (leBytes 4 h)

theorem State.lateTold_leaves (s : State) (n : Fin 3) (h : Nat) : ((s.lateTold n h).port n).hostWait = none ∧
    ((s.lateTold n h).port n).lateTo = some h ∧ faultOf 0x7A n (leBytes 4 h) ∈ (s.lateTold n h).raised ∧
    (s.lateTold n h).f (R.PORT_CNT n) F.PORT_CNT_LATE = min (s.f (R.PORT_CNT n) F.PORT_CNT_LATE + 1) 255 ∧
    (s.lateTold n h).outbox = s.outbox := by
  have hport : (s.lateTold n h).port n = { s.port n with hostWait := none, lateTo := some h } := by
    rw [State.lateTold, State.raise_port_of, State.portEvent_port]
    exact State.port_setPort _ _ _
  rw [hport]
  refine ⟨rfl, rfl, List.mem_append_right _ List.mem_cons_self, ?_, ?_⟩
  · rw [State.lateTold, State.raise_f_of, State.f, State.portEvent_rd _ _ _ _ _ (by simp only [R.PORT_CNT]; omega) (by simp only [R.PORT_CNT]; omega),
      ← State.f, State.f_bump_same _ _ _ _ (by decide), State.setPort_f_of]
    rfl
  · rw [State.lateTold, State.raise_outbox, State.portEvent_outbox]
    rfl

theorem hpLate_leaves {s : State} {n : Fin 3} {h : Nat} (hl : s.live) (ha : s.attached n = true) (hp : s.hostPolicy n = true)
    (hw : (s.port n).hostWait = some h) (hat : (s.port n).hostAt + s.hpCycles ≤ s.cyc) :
    ∃ u : State, exec (.hpLate n h) s = .next u.settle ∧
      (u.port n).hostWait = none ∧ (u.port n).lateTo = some h ∧ faultOf 0x7A n (leBytes 4 h) ∈ u.raised ∧
      u.f (R.PORT_CNT n) F.PORT_CNT_LATE = min (s.f (R.PORT_CNT n) F.PORT_CNT_LATE + 1) 255 ∧
      (isSwap h = true → s.ctlOut n (if s.rev3 n then ctlWait else ctlReject) ∈ u.outbox) := by
  have hexec : exec (.hpLate n h) s = execHpLate n h s := rfl
  have hmade : exec (.hpLate n h) s = .next ((s.answerLate n h).lateTold n h).settle := by
    rw [hexec, execHpLate, State.act_on _ hl.1, if_pos ⟨ha, hp, hw, hat⟩]
    rfl
  obtain ⟨hwait, hlate, htold, hcount, hout⟩ := (s.answerLate n h).lateTold_leaves n h
  refine ⟨_, hmade, hwait, hlate, htold, ?_, fun hs => ?_⟩
  · rw [hcount, (s.answerLate_talked n h).f (by simp only [R.PORT_CNT, R.PORT_STATUS]; omega)]
  · rw [hout]
    exact s.answerLate_swap n hs

section
variable {s : State} {n : Fin 3} (hl : s.live)
include hl

theorem frsSignal_started (ha : s.attached n = true) (harm : s.flag (R.PORT_STATUS n) F.PORT_STATUS_FRS_ARMED = true)
    (hm : (s.frsBegin n).mayStart (s.frsStage n) = true) (hbad : (s.frsBegin n).startBad (s.frsStage n) false = none)
    (hset : ((s.frsBegin n).loadSet (s.frsStage n) false).isSome = true) :
    ∃ u : State, exec (.frsSignal n) s = .next u.settle ∧ (u.port n).frs = true ∧ (u.port n).frsStep = 4 ∧ (u.port n).refMv = 5000 ∧
      u.stageState (s.frsStage n) = stRun ∧ (s.frsBegin n).ctlOut n ctlFrSwap ∈ u.outbox := by
  obtain ⟨t, ht⟩ := Option.isSome_iff_exists.1 hset
  have hkept : (s.frsBegin n).PortKept (t.enterRun (s.frsStage n) false) :=
    (State.loadSet_portKept _ (s.frsStage_lt n) ht).trans (State.enterRun_portKept _ (s.frsStage_lt n) false)
  obtain ⟨hfrs, hstep, href⟩ := State.pdCtl_frs (t.enterRun (s.frsStage n) false) n ctlFrSwap
  obtain ⟨hfrs', hstep', href'⟩ := hkept.frs
  obtain ⟨hfrs0, hstep0, href0⟩ := s.frsBegin_port n
  refine ⟨_, exec_frsSignal_started hl ha harm hm hbad ht, hfrs.trans (hfrs'.trans hfrs0), hstep.trans (hstep'.trans hstep0),
    href.trans (href'.trans href0), ?_, ?_⟩
  · rw [State.stageState, State.f, State.pdCtl, State.pdSend_rd, ← State.f, ← State.stageState, State.enterRun_stageState]
  · rw [State.pdCtl_outbox, hkept.ctlOut]
    exact List.mem_append_right _ List.mem_cons_self

theorem frsDone_leaves {h : Nat} (hf : (s.port n).frs = true) (hstep : (s.port n).frsStep = 5) (hnew : (s.pdAck n false h).2 = true) :
    ∃ u : State, exec (.frsDone n h) s = .next u.settle ∧
      u.conn n = cnSource ∧ u.isSrc n = true ∧ u.explicit n = false ∧ (u.port n).frs = false ∧
      ∃ h' : Nat, hdrType h' = ctlPsRdy ∧ hdrCtl h' = true ∧ bitsOf h' 8 1 = 1 ∧ Emit.pdTx n false h' [] ∈ u.outbox := by
  obtain ⟨hconn, hsrc, hexp, hfrs, hsent⟩ := (s.pdAck n false h).1.frsEnd_leaves n
  obtain ⟨htype, hcount, hext, hpwr⟩ := ((s.pdAck n false h).1.frsRoles n).txHeader_fields n false ctlPsRdy
    ((((s.pdAck n false h).1.frsRoles n).port n).mid) 0 false
  refine ⟨_, exec_frsDone hl hf hstep hnew, hconn, hsrc, hexp, hfrs, _, htype, ?_, ?_, hsent⟩
  · rw [hdrCtl, hcount, hext]
    rfl
  · rw [hpwr rfl, ((s.pdAck n false h).1.frsRoles_fields n).2]

end

/-- Settles O41: a port's repeated and late messages by what the policy engine sends, a PR_Swap by what the drop of a contract leaves, and the
Fast Role Swap by its start, its stage and its end. -/
theorem contractsAndFastRoleSwap : Obligations.ContractsAndFastRoleSwap := by
  unfold Obligations.ContractsAndFastRoleSwap
  refine ⟨fun s n hl ha => ⟨fun hc he hp hm hat => ?_, fun hc he hat => ?_, fun hown => ?_, fun h hp hw hat => ?_⟩,
    fun s n h hl => ⟨fun ha harm => ⟨fun hm hbad hset => ?_, fun hm hr => ?_⟩, fun hf => ⟨fun hstep hnew => ?_, fun hat => ?_⟩⟩⟩
  · exact ppsRequestRepeat_leaves hl ha hc he hp hm hat
  · exact eprKeepalive_leaves hl ha hc he hat
  · exact prSwap_leaves hl ha hown
  · exact hpLate_leaves hl ha hp hw hat
  · exact frsSignal_started hl ha harm hm hbad hset
  · exact ⟨_, exec_frsSignal_failed hl ha harm hm hr, State.frsFailed_leaves _ n 2⟩
  · exact frsDone_leaves hl hf hstep hnew
  · exact ⟨_, exec_frsFail hl hf hat, State.frsFailed_leaves _ n _⟩

end Sys2Proof.Machine
end
